-- ==== Sys2Proof/Word.lean ====
section
/-!
DEFINITION. The word types of the model and their plainest arithmetic.
-/

namespace Sys2Proof

/-- One byte (R54 gives every multi-byte field in bytes). -/
abbrev Byte := BitVec 8

/-- A 32-bit data register of a rein engine (R249). -/
abbrev Word32 := BitVec 32

/-- A 64-bit accumulator of a rein engine (R249). -/
abbrev Word64 := BitVec 64

end Sys2Proof
end

