-- ==== Sys2Proof/Syntax.lean ====
section
/-!
DEFINITION. The commands of the block: one constructor of `Instr` per row of the operation table, with the data
that the outside world (a pin, a port, the medium, a timer) or the part's own sequencer brings to the step.
Where the spec numbers units from 0, a unit number is a `Fin`; a value that the spec checks is a `Nat`.
-/

namespace Sys2Proof

/-- The two 12 V feeds (R33). -/
inductive Feed where
  | vfa | vfb
  deriving DecidableEq, Repr

/-- Why a feed is lost (R33): below 9.5 V, or above 14.0 V. -/
inductive FeedLoss where
  | underVoltage | overVoltage
  deriving DecidableEq, Repr

/-- The two host ports (R332). -/
inductive Port where
  | a | b
  deriving DecidableEq, Repr

/-- The distinct requesters of the dictionary service (R55, R60). Core n is verb 0–3, noun 4–7, security 8 (R69). -/
inductive Requester where
  | portA | portB | mbus | girth | factory
  | core (n : Fin 9)
  deriving DecidableEq, Repr

/-- Why a restart of the main die's rails or a start attempt begins (R85). -/
inductive AttemptCause where
  | powerGood | railCycle | restart | afterFailure
  deriving DecidableEq, Repr

/-- How a start step ends (R85). -/
inductive StepEnd where
  | passed | passedWithAlternative | skipped | failed
  deriving DecidableEq, Repr

/-- A repair entry (R94, R95): an SRAM macro, and the row, or the column group, that a spare stands in for. -/
structure Repair where
  macroNo : Nat
  column : Bool := false
  index : Nat
  deriving DecidableEq, Repr

/-- What a start step measured, found or left out, as far as later steps or objects depend on it (R91). Unused
fields are 0 or empty. -/
structure StepFindings where
  /-- actuators found at fault (steps 13–15), a mask -/
  actuators : Nat := 0
  /-- ports found at fault (step 20), a mask -/
  ports : Nat := 0
  /-- slot chosen (step 4), macro number (step 3) -/
  detail : Nat := 0
  /-- a measured value: HOLDUP_UF (10), HOP_LATENCY_NS (12), SPINUP_LAST_MS (11) -/
  measured : Nat := 0
  /-- what discovery read per actuator (13): the ID register once with each format record, none for a parity error; the HEADS register -/
  ids : List (List (Option Nat)) := []
  heads : List Nat := []
  /-- coil resistances measured at the handshake (10), per actuator -/
  coils : List Nat := []
  /-- source ids: decoder cores that failed their built-in test (9), units that own unrepairable macros (3), the keeper (8) -/
  failedUnits : List Nat := []
  /-- fuse words of the first and of the second copy that have bad parity (3) -/
  fuseBadA : List Nat := []
  fuseBadB : List Nat := []
  /-- the fuse-map shadow fails its CRC-32C (3) -/
  shadowBad : Bool := false
  /-- keeper slots whose generation fails its checks at its replay (17) -/
  badGenerations : List Nat := []
  /-- rows and columns that newly fail their march test (3) -/
  repairs : List Repair := []
  deriving DecidableEq, Repr

/-- One event at a collector (R466, R473). -/
structure Event where
  source : Nat
  unit : Nat := 0
  address : Nat := 0
  master : Nat := 0
  access : Nat := 5
  syndrome : Nat := 0
  detail : Nat := 0
  deriving DecidableEq, Repr

/-- One entry of a dictionary list (R72): type code, length and value as the requester sent them. -/
structure ListEntry where
  index : Nat
  sub : Nat
  typ : Nat
  length : Nat
  value : List Byte
  deriving DecidableEq, Repr

/-- The two MCTP-side ports that carry Bolhoba messages (R55, R73, R76). -/
inductive BolhobaPort where
  | mbus | factory
  deriving DecidableEq, Repr

/-- The Bolhoba header fields a request carries besides its opcode (R73). -/
structure BolhobaHeader where
  port : BolhobaPort
  tag : Nat
  index : Nat
  sub : Nat
  /-- the CRC-16 of a frame at the factory port is right (R76) -/
  crcOk : Bool := true
  deriving DecidableEq, Repr

/-- Write-unsafe sources (R175). -/
inductive WuSource where
  | position | servoTimeout | preampFault | synthUnlock | frameVerify | chip
  deriving DecidableEq, Repr

/-- One submission-queue entry, as the spec's commands use it: opcode, namespace, command identifier, the transfer's
host address and Dwords 10–15. -/
structure SqEntry where
  opcode : Nat
  cid : Nat
  /-- the FUSE bits of Dword 0 -/
  fuse : Nat := 0
  nsid : Nat := 0
  prp : Nat := 0
  cdw10 : Nat := 0
  cdw11 : Nat := 0
  cdw12 : Nat := 0
  cdw13 : Nat := 0
  cdw14 : Nat := 0
  cdw15 : Nat := 0
  /-- the LBA ranges that a Dataset Management command lists: first LBA and count (R345) -/
  ranges : List (Nat × Nat) := []
  /-- the data buffer of a Set Features command -/
  data : List Byte := []
  deriving DecidableEq, Repr

/-- One 4 KiB block from the host (R338, R14): the ciphertext it is enciphered to, and its protection information. -/
structure HostBlock where
  cipher : List Byte
  pi : List Byte := []
  deriving DecidableEq, Repr

/-- The result of reading one block on the medium, as the decode pool and the ladder report it. -/
inductive MediaBlock where
  | ok (payload : List Byte)
  | unrecovered
  deriving DecidableEq, Repr

/-- One frame's routing fields on the girth link (R309), with what the receiver found of its CRC (R311). -/
inductive CrcState where
  | good | poisoned | bad
  deriving DecidableEq, Repr

/-- Frame header on the girth link (R309). -/
structure GirthHeader where
  origin : Nat
  hops : Nat
  crc : CrcState := .good
  deriving DecidableEq, Repr

/-- One sampling instant of the ADC: the samples of lanes L0, L1 and L2 on the same clock edge (R154). -/
abbrev AdcRow := Int × Int × Int

/-- What guards a decoder core's pass (R196): its syndrome checker and the SECDED of its message memory. -/
inductive PassCheck where
  | clean
  | disagrees
  /-- a corrected word of the message memory, in a row of an SRAM macro -/
  | corrected (macroNo row : Nat)
  | uncorrectable
  deriving DecidableEq, Repr

/-- How a core accesses memory (R21). -/
inductive CoreAccess where
  | load | fetch
  | store (data : List Byte)
  deriving DecidableEq, Repr

/-- Outcome of one DRAM block read under inline ECC (R424). -/
inductive EccOutcome where
  | clean
  | corrected (syndrome : Nat)
  | uncorrectable
  | poison
  deriving DecidableEq, Repr

/-- One DRAM beat at the chip arbiter (R460): who asks, for which 64-byte block, and whether it writes. -/
structure Beat where
  requester : Fin 28
  address : Nat
  write : Option (List Byte) := none
  /-- the actuator tag of the traffic (R460) -/
  tag : Option (Fin 4) := none
  ecc : EccOutcome := .clean
  deriving DecidableEq, Repr

/-- What patrol, rebuild, resync and updates read back for one offset of a stripe: per member, the sector read (none
when it is unknown under R406). -/
structure OffsetReads where
  offset : Nat
  members : List (Option (List Byte))
  deriving DecidableEq, Repr

/-- The outcome of a ladder step (R208, R209): it failed; a read recovered the sector; or, at L5, the sectors at its offset were read, from
which it may be reconstructed. -/
inductive StepOutcome where
  | failed
  | recovered
  | stripe (reads : OffsetReads)
  deriving DecidableEq, Repr

/-- The DRIVE message of the die-to-die link (R284, R303). -/
inductive DriveCmd where
  | retract (a : Fin 4)
  | load (a : Fin 4)
  | brake
  | target (rpm : Nat)
  | mode (hold : Bool)
  deriving DecidableEq, Repr

/-- IEEE 1149.1 TAP instructions (R121). -/
inductive TapInstr where
  | bypass | idcode | extest | sample
  | programMfg
  deriving DecidableEq, Repr

/-- SPDM requests that the device does not support (R125). -/
inductive SpdmUnsupported where
  | keyExchange | pskExchange | setCertificate | session | mutualAuth | other
  deriving DecidableEq, Repr

/-- Which transport an SPDM exchange came over (R125). -/
inductive SpdmPort where
  | mctp
  | nvme (p : Port)
  deriving DecidableEq, Repr

/-- Sanitize actions (R128). -/
inductive SanitizeAction where
  | blockErase | overwrite | cryptoErase
  deriving DecidableEq, Repr

/-- What went wrong with a DMA beat (R454). -/
inductive BeatError where
  | read | write | tail
  deriving DecidableEq, Repr

/-- Directions of the fabric (R458). -/
inductive LaneDir where
  | up | down
  deriving DecidableEq, Repr

/-- The opcode or stack reason behind CLAUSE_BAD (R233). -/
inductive BadClause where
  | opcode | condition | callOverflow | retEmpty
  deriving DecidableEq, Repr

/-- The image or bundle bytes of a BLOB, and whether the checks of R107/R151 whose inputs lie outside the device's
state hold, are computed by the model; the bytes are the operand. -/
abbrev Bytes := List Byte

/-- The commands of the block: one constructor per row of the operation table. -/
inductive Instr where
  -- power and feeds (R31–R47)
  | powerGood
  | feedPresent (f : Feed)
  | feedLost (f : Feed) (why : FeedLoss)
  | feedSwitchReclose (f : Feed)
  | railsOff
  | railsUp
  | pwrdisAssert
  | pwrdisRelease
  | vmCollapse
  | v3p3Overcurrent (a : Fin 4)
  | throttleEnter (tj : Int)
  | throttleExit (tj : Int)
  | thermalShutdown (tj : Int)
  | powerCapWrite (who : Requester) (value : Nat)
  | vcoreSteer (minPercent : Nat)
  -- front-end boundaries (R16, R17, R235)
  | writeUnsafe (a : Fin 4) (src : WuSource) (t : Nat)
  | writeFifoEmpty (a : Fin 4)
  | gateEntryExecute (p : Fin 8) (t : Nat) (adc : List AdcRow)
  | sampleOverrun (a : Fin 4) (lane : Fin 3)
  -- the object dictionary (R53–R84)
  | dictionaryGet (slot : Nat)
  | dictionarySet (slot : Nat) (data : List Byte)
  | dictionarySetList (slot : Nat) (data : List Byte)
  | dictionaryBlockRead (slot : Nat)
  | dictionaryListRead (slot : Nat)
  | bolhobaGet (h : BolhobaHeader)
  | bolhobaSet (h : BolhobaHeader) (typ len : Nat) (value : List Byte)
  | bolhobaListGet (h : BolhobaHeader) (keys : List (Nat × Nat))
  | bolhobaListSet (h : BolhobaHeader) (entries : List ListEntry)
  | bolhobaBlockRead (h : BolhobaHeader) (offset len : Nat)
  | bolhobaBlockWrite (h : BolhobaHeader) (offset : Nat) (last : Bool) (data : List Byte)
  | factoryFrameGap
  | windowRead (core : Fin 9) (addr width : Nat)
  | windowWrite (core : Fin 9) (addr width value : Nat)
  | mbRead (core : Fin 9)
  | mbWrite (core : Fin 9)
  | mbWriteLast (core : Fin 9)
  | mbTransferDone (core : Fin 9)
  | blobStagingAbandon (index sub : Nat)
  | store (who : Requester) (value : Nat)
  | storeCommit (programmed : Bool)
  | restoreDefaults (who : Requester) (value : Nat)
  | unitDisable (who : Requester) (index : Nat)
  | unitEnable (who : Requester) (index : Nat) (selfCheck : Bool)
  | unitQuiesced (index : Nat)
  | objectWrite (who : Requester) (index sub typ len : Nat) (value : List Byte)
  -- start sequence (R85–R101)
  | attemptBegin (cause : AttemptCause)
  | startStepEnd (result : StepEnd) (found : StepFindings)
  | stepWatchdog (found : StepFindings)
  | startDeadline
  | restartNormal (who : Requester)
  | restartMaintenance (who : Requester)
  | perstDeassert (p : Port)
  | perstAssert (p : Port)
  -- firmware, lifecycle and identity (R103–R131)
  | firmwareImageDownload (slot : Nat) (piece : Bytes)
  | firmwareCommitReplace (slot : Nat)
  | firmwareCommitReplaceActivate (slot : Nat)
  | firmwareCommitActivate (slot : Nat)
  | firmwareCommitActivateNow (slot : Nat)
  | firmwareCommitInvalidAction (slot : Nat)
  | firmwareCommitDone
  | activationStaged
  | activationFreezeEnd (freezeUs : Nat)
  | activationBankSwitch
  | bundleStageLast (who : Requester) (offset : Nat) (data : Bytes)
  | bundleWriteDone
  | recoveryImageLast (who : Requester) (offset : Nat) (data : Bytes)
  | lifecycleNonceRead (who : Requester)
  | lifecycleNonceExpire
  | lifecycleRequest (who : Requester) (value : List Byte)
  | ownerKeyWrite (who : Requester) (offset : Nat) (data : Bytes)
  | certChainWrite (who : Requester) (chain : Fin 2) (offset : Nat) (data : Bytes)
  | spdmGetVersion (via : SpdmPort)
  | spdmGetCapabilities (via : SpdmPort) (request : Bytes)
  | spdmNegotiateAlgorithms (via : SpdmPort) (request : Bytes)
  | spdmGetDigests (via : SpdmPort)
  | spdmGetCertificate (via : SpdmPort) (slot offset len : Nat)
  | spdmChallenge (via : SpdmPort) (slot hashType : Nat) (nonce : Bytes)
  | spdmGetMeasurements (via : SpdmPort) (attributes index slotId : Nat) (nonce : Bytes)
  | spdmUnsupported (via : SpdmPort) (req : SpdmUnsupported)
  | sanitize (slot : Nat) (action : SanitizeAction)
  | formatNvm (slot : Nat)
  -- media (R144, R147)
  | grownEntryCommit (surface : Fin 48) (entry : List Byte)
  | holderMoveDone (holder : Fin 2) (surface : Fin 48)
  -- read and write channel (R155–R187, R487)
  | servoSync (a : Fin 4) (wedge track : Nat) (pes : Int)
  | servoSyncTimeout (a : Fin 4)
  | synthLock (a : Fin 4)
  | synthUnlock (a : Fin 4)
  | thermalAsperity (a : Fin 4) (adc : List AdcRow)
  | dropDetect (a : Fin 4) (adc : List AdcRow)
  | freezeHangoverEnd (a : Fin 4) (adc : List AdcRow)
  | longFreeze (a : Fin 4) (adc : List AdcRow)
  | syncWindowEnd (p : Fin 8) (first : Bool) (adc : List AdcRow)
  | captureEnd (p : Fin 8) (adc : List AdcRow)
  | preampFaultAssert (a : Fin 4)
  | preampFaultPersist (a : Fin 4)
  | preampFrameDone (a : Fin 4) (readback : Nat) (parityOk : Bool)
  | preampAccess (who : Requester) (a : Fin 4) (value : List Byte)
  | writePayloadPoisoned (p : Fin 8) (entry : Nat)
  -- decode pool and ladder (R193–R212)
  | detectorPassDone (core : Fin 8) (job : Nat) (check : PassCheck)
  | ldpcIterationDone (core : Fin 12) (job : Nat) (check : PassCheck)
  | decodeDeadline (job : Nat)
  | holdCopyDone (a : Fin 4) (hold : Nat)
  | ringTailWrite (core : Fin 9) (value : Nat)
  | ladderDeep (ring : Fin 4)
  | ladderAverage (ring : Fin 4)
  | ladderReleaseHold (ring : Fin 4)
  | ladderRequestEnd (job : Nat)
  | ladderStepAdvance (surface : Fin 48) (track psector top status : Nat) (outcome : StepOutcome)
  -- sentence players (R227–R242)
  | sentenceLoad (core : Fin 9) (p : Fin 8) (addr : Nat)
  | sentenceFetchDone (p : Fin 8)
  | sentenceUnderrun (p : Fin 8)
  | playerAbort (core : Fin 9) (p : Fin 8) (value : Nat)
  | clauseStep (p : Fin 8) (phrase : Fin 1024) (arg : BitVec 16)
  | clauseGoto (p : Fin 8) (phrase : Fin 1024) (arg : BitVec 16)
  | clauseCall (p : Fin 8) (phrase : Fin 1024) (arg : BitVec 16)
  | clauseRet (p : Fin 8) (phrase : Fin 1024) (arg : BitVec 16)
  | clauseSetcnt (p : Fin 8) (phrase : Fin 1024) (arg : BitVec 16)
  | clauseLoop (p : Fin 8) (phrase : Fin 1024) (arg : BitVec 16)
  | clauseSector (p : Fin 8) (phrase : Fin 1024) (arg : BitVec 16)
  | clauseIfwrite (p : Fin 8) (phrase : Fin 1024) (arg : BitVec 16)
  | clauseIfparity (p : Fin 8) (phrase : Fin 1024) (arg : BitVec 16)
  | clauseEnd (p : Fin 8) (phrase : Fin 1024) (arg : BitVec 16)
  | clauseBad (p : Fin 8) (why : BadClause)
  | clauseTimeEnd (p : Fin 8)
  | clauseWaitMet (p : Fin 8) (wedge t : Nat)
  | clauseWaitTimeout (p : Fin 8)
  | playerStallEnd (p : Fin 8)
  | windowEndReached (p : Fin 8)
  | playerMemoryFault (p : Fin 8) (store : Bool)
  | sentenceEnd (p : Fin 8)
  | sentenceRecordWrite (p : Fin 8)
  -- rein engines: triggers and instructions (R247–R283)
  | outerTrigger (a : Fin 4)
  | reinNop (e : Fin 16)
  | reinAdd (e rd ra rb : Fin 16)
  | reinSub (e rd ra rb : Fin 16)
  | reinAddw (e rd ra rb : Fin 16)
  | reinSubw (e rd ra rb : Fin 16)
  | reinAnd (e rd ra rb : Fin 16)
  | reinOr (e rd ra rb : Fin 16)
  | reinXor (e rd ra rb : Fin 16)
  | reinMin (e rd ra rb : Fin 16)
  | reinMax (e rd ra rb : Fin 16)
  | reinAbs (e rd ra : Fin 16)
  | reinNeg (e rd ra : Fin 16)
  | reinShl (e rd ra : Fin 16) (imm : BitVec 16)
  | reinShr (e rd ra : Fin 16) (imm : BitVec 16)
  | reinShrl (e rd ra : Fin 16) (imm : BitVec 16)
  | reinLi (e rd : Fin 16) (imm : BitVec 16)
  | reinLui (e rd : Fin 16) (imm : BitVec 16)
  | reinAddi (e rd ra : Fin 16) (imm : BitVec 16)
  | reinLd (e rd ra : Fin 16) (imm : BitVec 16)
  | reinSt (e rs ra : Fin 16) (imm : BitVec 16)
  | reinIn (e rd : Fin 16) (port : BitVec 8)
  | reinOut (e rs : Fin 16) (port : BitVec 8)
  | reinSetcb (e : Fin 16) (imm : BitVec 16)
  | reinMul (e : Fin 16) (acc : Bool) (ra : Fin 16) (caddr : BitVec 10)
  | reinMac (e : Fin 16) (acc : Bool) (ra : Fin 16) (caddr : BitVec 10)
  | reinMsu (e : Fin 16) (acc : Bool) (ra : Fin 16) (caddr : BitVec 10)
  | reinClra (e : Fin 16) (acc : Bool)
  | reinLda (e : Fin 16) (acc : Bool) (ra : Fin 16)
  | reinRnd (e rd : Fin 16) (acc : Bool) (mode : BitVec 2) (l : BitVec 4)
  | reinB (e : Fin 16) (target : BitVec 11)
  | reinBz (e ra : Fin 16) (target : BitVec 11)
  | reinBnz (e ra : Fin 16) (target : BitVec 11)
  | reinBlt (e ra : Fin 16) (target : BitVec 11)
  | reinBge (e ra : Fin 16) (target : BitVec 11)
  | reinDbnz (e ra : Fin 16) (target : BitVec 11)
  | reinCall (e : Fin 16) (target : BitVec 11)
  | reinRet (e : Fin 16)
  | reinDone (e : Fin 16)
  | reinProgramFault (e : Fin 16)
  | reinBudgetStop (e : Fin 16)
  | reinCompare (g : Fin 5) (entry : Fin 3)
  | pairHoldRerunEnd (g : Fin 5)
  | reinLatch (g : Fin 5) (entry : Fin 3)
  | engineReloadDone (e : Fin 16)
  | snapshotCopyDone (e : Fin 16)
  | probationEnd (e : Fin 16)
  | reinMemoryFault (e : Fin 16)
  | coefWrite (who : Requester) (g : Fin 5) (value : List Byte)
  | snapRequest (who : Requester) (g : Fin 5) (value : Nat)
  | inject (who : Requester) (g : Fin 5) (slot : Nat)
  | traceArm (who : Requester) (a : Fin 4) (value : Nat)
  | traceForce (who : Requester) (a : Fin 4) (value : Nat)
  -- motion die (R284–R307)
  | heartbeat (count : Nat)
  | heartbeatLoss
  | linkResend (mainToMotion : Bool)
  | vcmCmd (a : Fin 4) (ua mv : Int)
  | spinCmd (ua : Int)
  | driveMsg (cmd : DriveCmd)
  | resetNotice (lengthUs : Nat)
  | linkObject (who : Requester) (index sub : Nat) (write : Option (List Byte))
  | senseMsg (a : Fin 4) (ua mv : Int)
  | zeroCross (phase interval : Nat)
  | linkStatus (vm : Nat) (temp : Int)
  | motionDieLost
  | zeroCrossMissing
  | spindleDriverFault
  | spinAlignEnd
  | spinRampEnd (handover : Bool)
  | spindleStandstill
  | vcmOvercurrent (a : Fin 4)
  | maOvercurrent (a : Fin 4)
  | headLoadTimeout (a : Fin 4)
  | rampContact (a : Fin 4)
  | retractParked (a : Fin 4) (ms : Nat)
  | retractTimeout (a : Fin 4)
  | dumpSealed (holdupMj vmMin : Nat)
  -- girth link (R308–R331)
  | girthSync (h : GirthHeader) (tick baseHop tag : Nat) (fixed takeover overFlag : Bool)
  | girthPhase (h : GirthHeader) (rpm group : Nat)
  | girthSeek (h : GirthHeader) (startTick profile : Nat) (act : Fin 4) (d : Int) (profileSet : Nat)
  | girthHealth (h : GirthHeader) (payload : List Byte)
  | girthDictGet (h : GirthHeader) (target tag index sub : Nat)
  | girthDictSet (h : GirthHeader) (target tag index sub value : Nat)
  | girthDictResponse (h : GirthHeader) (target tag index sub status value : Nat)
  | girthUnknownType (h : GirthHeader) (typ payload : Nat)
  | syncPeriod
  | phasePeriod
  | healthPeriod
  | healthDeferred
  | masterLoss
  | candidateWaitEnd
  | joinListenTimeout (noSymbol : Bool)
  | announce (who : Requester) (value : List Byte)
  | seekCancel (a : Fin 4)
  | announcementEnd (id : Nat)
  | dictRequest (who : Requester) (value : List Byte)
  | dictRequestTimeout
  -- host interface (R332–R367)
  | sqDoorbell (p : Port) (qid tail : Nat)
  | commandFetch (p : Port) (qid : Nat) (cmd : SqEntry)
  | createIoSq (slot : Nat)
  | createIoCq (slot : Nat)
  | deleteIoSq (slot : Nat)
  | deleteIoCq (slot : Nat)
  | getLogPage (slot : Nat)
  | identify (slot : Nat)
  | nvmeAbort (slot : Nat)
  | setFeatures (slot : Nat)
  | setFeaturesPowerManagement (slot : Nat)
  | setFeaturesErrorRecovery (slot : Nat)
  | setFeaturesVwc (slot : Nat)
  | getFeatures (slot : Nat)
  | asyncEventRequest (p : Port) (cid : Nat)
  | namespaceCreate (slot : Nat) (nsze : Nat) (lbaFormat : Nat)
  | namespaceDelete (slot : Nat)
  | namespaceAttachment (slot : Nat) (controllers : List Port)
  | securitySend (slot : Nat) (data : Bytes)
  | securityReceive (slot : Nat)
  | getLbaStatus (slot : Nat)
  | nvmeFlush (slot : Nat)
  | nvmeWrite (slot : Nat) (blocks : List HostBlock)
  | nvmeRead (slot : Nat) (media : List MediaBlock)
  | writeZeroes (slot : Nat)
  | datasetManagement (slot : Nat)
  | nvmeVerify (slot : Nat) (media : List MediaBlock)
  | reservationRegister (slot : Nat) (crkey nrkey : Nat)
  | reservationReport (slot : Nat)
  | reservationAcquire (slot : Nat) (crkey prkey : Nat)
  | reservationPreemptAndAbort (slot : Nat) (crkey prkey : Nat)
  | reservationRelease (slot : Nat) (crkey : Nat)
  | invalidOpcode (slot : Nat)
  | writeCached (slot : Nat)
  | readTransferred (slot : Nat)
  | ccEnClear (p : Port)
  | ccEnSet (p : Port)
  | functionLevelReset (p : Port)
  | pcieLinkDown (p : Port)
  | nvmSubsystemReset
  | shutdownNormal (p : Port)
  | shutdownAbrupt (p : Port)
  | ps3IdleTimeout
  | powerStateSafePoint
  | tlerExpire (slot : Nat) (lba : Nat)
  -- stitch layouts, rebuild, patrol, reshape (R368–R422)
  | destageUpdate (stripe : Nat) (reads : List OffsetReads)
  | stripeUpdateRetire (stripe : Nat)
  | wiMirrorPoint
  | mirrorRetry (page : Nat) (ok : Bool)
  | journalReplay (seq : Nat)
  | resyncGroup (group : Nat) (reads : List (Nat × OffsetReads))
  | retireSurface (who : Requester) (value : Nat)
  | rebuildStripe (stripe : Nat) (reads : List OffsetReads)
  | rebuildCheckpoint
  | patrolStripe (stripe : Nat) (reads : List OffsetReads)
  | reshapeRequest (who : Requester) (value : List Byte)
  | reshapeCancel (who : Requester) (value : List Byte)
  | reshapeGroupCopy
  | reshapeSwitch
  | grownDefectReadback (surface : Fin 48) (track psector : Nat) (converged taBoth : Bool) (freezeOffset freezeLen : Nat)
  -- memory and cache (R423–R445)
  | arbiterGrant (waiting : List Beat)
  | pageSubstitutionDone (page : Nat)
  | zeroRange (who : Requester) (value : List Byte)
  | zeroRangeDone
  | keeperSlotErased (slot : Fin 6)
  | cacheClean (core : Fin 9)
  | cacheInvalidate (core : Fin 9)
  | cacheCleanInvalidate (core : Fin 9)
  | cacheFillLock (core : Fin 9)
  | cacheUnlock (core : Fin 9)
  | cacheCleanSw (core : Fin 9)
  | cacheInvalidateSw (core : Fin 9)
  | cacheCleanInvalidateSw (core : Fin 9)
  | cacheMaintDone (core : Fin 9)
  | cacheFillReturn (line : Nat)
  -- DMA and fabric (R446–R465)
  | dmaGo (who : Requester) (ch : Fin 8) (ctrl : Nat)
  | dmaChainGo (who : Requester) (ch : Fin 8) (ctrl : Nat)
  | dmaStop (who : Requester) (ch : Fin 8) (ctrl : Nat)
  | dmaDescriptorFetched (ch : Fin 8) (ok : Bool)
  | dmaBeatsAcknowledged (ch : Fin 8)
  | dmaReadbackDone (ch : Fin 8)
  | dmaBeatError (ch : Fin 8) (kind : BeatError) (doneBytes indet : Nat)
  | notifyClear (who : Requester) (ch : Fin 8) (value : Nat)
  | fabricNak (lane : Fin 32) (requester : Fin 28)
  -- faults and events (R466–R485)
  | collectorEvent (ev : Event)
  | unitReadmit (source : Nat)
  | safeRestartTimeout
  | safeEntriesExpire
  | coreWatchdog (core : Fin 9)
  | collectorSelfFault (collector : Fin 9)
  | captureClear (who : Requester) (r : Fin 9) (value : Nat)
  | clearUpto (who : Requester) (value : Nat)
  | clearAll (who : Requester) (value : Nat)
  | ledgerMirror
  | ledgerMirrorDone
  | ledgerBandCopy
  | unretire (who : Requester) (value : Nat)
  | sourceEntryWrite (who : Requester) (id : Nat) (value : List Byte)
  | spindleReinTrigger (entry : Fin 3)
  | coreMemoryAccess (core : Fin 9) (addr width : Nat) (access : CoreAccess) (ecc : EccOutcome)
  | linkTrainingDone (p : Port) (speed width : Nat)
  | tapInstruction (i : TapInstr)
  | dynamicAddressAssignment (addr : Nat)
  | preampFaultRelease (a : Fin 4)
  | bolhobaUnknownOpcode (h : BolhobaHeader) (pen version opcode : Nat)
  | cqHeadDoorbell (p : Port) (qid head : Nat)
  | fabricAck (lane : Fin 32) (requester : Fin 28) (beats : Nat)
  | supersededPageProgrammed
  | cryptoEraseDone (ns : Nat)
  | reservationStateWritten (ns : Nat)
  deriving DecidableEq, Repr

end Sys2Proof
end

