-- ==== Sys2Proof/Config.lean ====
section
/-!
DEFINITION. What the spec leaves to the particular part, and the values it leaves open: constants with no body, so that
no proof can lean on a value of them. The cryptographic functions of the standards that the spec names without giving
them stand here too (log entry 6).
-/

namespace Sys2Proof.Config

/-- Free values, numbered by the model's own counter `State.free`: what the spec does not state (log entry 1). -/
opaque freeWord : Nat → Nat

/-- The interpolator of the channel (R157): the combined signal's newest values at the ADC rate, newest first, the phase of the
timing loop and the place of the T between two ADC samples; its answer is in 6-bit units, before saturation. No rule gives
its kernel (log entry 52). -/
opaque interpolate : List Int → Int → Nat → Int

/-- Which neighbour a quotient takes that is not whole, where no rule says how it is rounded: 0 the lower, 1 the upper (log entry 1). -/
opaque roundUp : Int → Nat → Nat

/-- How many units of the timing loop's frequency make one T per T (R160 gives the loop's rail in per cent of the zone rate and no
scale for its error; log entry 52). -/
opaque timingUnit : Nat

/-- Ticks until the response to a Bolhoba request has left (R75 bounds them, and states no value; log entry 62): the tick and the TAG of
the request. -/
opaque answerTicks : Nat → Nat → Nat

/-- Spare rows of an SRAM macro, its spare column groups, and the event source of the unit that owns it (R95, R467). -/
opaque macroSpares : Nat → Nat
opaque macroSpareColumns : Nat → Nat
opaque macroUnit : Nat → Nat

/-- The analogue trims of the fuse map (R94). -/
opaque fuseTrims : List Byte

/-- Package serial number and die identifier, from fuses (R83). -/
opaque fuseSerial : Vector Byte 16
opaque fuseUniqueId : BitVec 64

/-- PCI vendor and subsystem vendor identifiers, from the fuse map (R334). -/
opaque fuseVid : BitVec 16
opaque fuseSsvid : BitVec 16

/-- The UUID that the NQN of the NVM subsystem names, derived from UNIQUE_ID by no rule of the spec (R332). -/
opaque uuidOf : BitVec 64 → Vector Byte 16

/-- Which cores switch to the new code at a moment of a freeze (R113, R114; log entry 64): the time base and the free counter. -/
opaque switching : Nat → Nat → Nat

/-- The fused digest of Osmizon's key: the first 32 bytes of SHAKE256 over it (R107). -/
opaque fuseKeyDigest : List Byte

/-- SHAKE256 and SHA3-512 (FIPS 202), as the spec uses them by name. -/
opaque shake256 : List Byte → (n : Nat) → Vector Byte n
opaque sha3_512 : List Byte → Vector Byte 64

/-- ML-DSA-65 (FIPS 204): whether a signature over a message verifies under a public key; the device's own public key;
the device's signature over a message. -/
opaque mldsaVerify : (pubkey message signature : List Byte) → Bool
opaque devicePubkey : List Byte
opaque deviceSign : (message : List Byte) → List Byte

/-- Whether the leaf certificate of an SPDM certificate chain (X.509 v3) holds a public key (R124). -/
opaque leafHolds : (chain pubkey : List Byte) → Bool

/-- XTS-AES-256 deciphering of a data unit (R127), a permutation of its 4,096 bytes: the namespace, the generation of its key pair,
the LBA as tweak. -/
opaque xts : (nsid gen lba : Nat) → Equiv.Perm (Vector Byte 4096)

/-- The user bytes of a ciphertext, and the ciphertext of user bytes (R127). -/
def xtsDecrypt (nsid gen lba : Nat) (cipher : List Byte) : Vector Byte 4096 :=
  xts nsid gen lba (.ofFn fun i => cipher.getD i.val 0)
def xtsEncrypt (nsid gen lba : Nat) (plain : Vector Byte 4096) : List Byte := ((xts nsid gen lba).symm plain).toList

/-- What MACRO_MAP lists (R467): the SRAM macros of the part. -/
opaque macroMap : List Byte

/-- The SRAM macro, 0–447, that holds a word of core-local SRAM (R439, R467). -/
opaque macroOfSram : Nat → Fin 448

/-- The row of that macro. -/
opaque rowOfSram : Nat → Nat

/-- The boot ROM's 256 KiB (R21). -/
opaque bootRom : Nat → Byte

/-- The region collector of an SRAM macro's owning unit (R467, R473). -/
opaque macroRegion : Nat → Fin 8

/-- Whether a value of the Asynchronous Event Configuration feature enables vendor-specific events (R484). -/
opaque vendorEvents : Nat → Bool

end Sys2Proof.Config
end

