-- ==== Sys2Proof/Machine/State.lean ====
section
/-!
DEFINITION. The state of the OZC-4848 as plain data: the object store (every dictionary object is a register and
lives there and nowhere else), and beside it every queue, buffer, sequencer and memory the chapters name that is not
an object. `pending` is the queue of commands that wait, oldest first.
-/

namespace Sys2Proof.Machine

/-- A finite map from numbers, as an association list with strictly rising keys (`SMap.wf`, Machine/Ops.lean). -/
abbrev SMap (α : Type) := List (Nat × α)

/-- Key of the object 0xIIII.SS: index × 256 + subindex (R53). -/
abbrev Key := Nat

/-- The value an object holds (R54): a scalar as its unsigned code (signed types as two's complement, Q32 as its
eight bytes read little-endian), or the bytes of a STR, REC or BLOB. -/
inductive Val where
  | num (n : Nat)
  | bytes (b : List Byte)
  deriving DecidableEq, Repr

/-- What the block has sent out of one of its ports, newest first in `State.outs`. -/
inductive Out where
  /-- a completion posted to a completion queue: port, queue, command, status code type and code, Dwords 0 and 1 -/
  | completion (p : Port) (cq cid sct sc dw0 dw1 : Nat)
  /-- an MSI-X interrupt: port and vector (R333, R342) -/
  | interrupt (p : Port) (vector : Nat)
  /-- data transferred to a host for the command in a slot -/
  | hostData (p : Port) (cid : Nat) (data : List Byte)
  /-- a Bolhoba response as its port carries it: the MCTP message with its type and enterprise number, or the factory port's frame
  (R54, R73, R76) -/
  | bolhoba (port : BolhobaPort) (message : List Byte)
  /-- a core's window access completed with a value (R68), or raised an access fault (R21) -/
  | window (core : Nat) (value : Nat)
  | accessFault (core : Nat)
  /-- the value a core load or fetch delivered (R440) -/
  | coreData (core : Nat) (data : List Byte)
  /-- a response to a dictionary request with no transport of its own: requester, key, status -/
  | dictStatus (who : Requester) (key status : Nat)
  /-- the value that a read with no transport of its own returned -/
  | dictValue (who : Requester) (key status value : Nat)
  /-- a frame sent on GOUT: its 16 bytes in the order of the line, most significant first (R54, R309) -/
  | girth (frame : List Byte)
  /-- an SPDM response -/
  | spdm (via : SpdmPort) (code : Nat) (body : List Byte)
  /-- a die-to-die message from the main die or the motion die, by its name in R284 -/
  | link (name : String) (args : List Int)
  /-- a preamp frame on the serial bus: actuator, register address, write data (none for a read); the level of SEN while it lasts, and
  whether SDATA changes on the rising edge of SCLK; and the levels of SDATA period by period, none where the device releases it (R177) -/
  | preamp (a : Nat) (addr : Nat) (data : Option Nat) (sen rising : Bool) (frame : List (Option Bool))
  /-- what was written of a sector: actuator, surface, track, physical sector, and per data area its wedge, its first T and the channel
  bits, each with the 1/64 T by which its transition is early (R171, R172, R176) -/
  | medium (a surface track psector : Nat) (pieces : List (Nat × Nat × List (Bool × Nat)))
  /-- a sector of the reserved band that was written: surface, track, physical sector and payload (R145) -/
  | band (surface track psector : Nat) (payload : List Byte)
  /-- an asynchronous event notice for log page -/
  | asyncEvent (p : Port) (cid logPage : Nat)
  /-- data shifted out on TDO: the IDCODE or bypass (R121) -/
  | tap (i : TapInstr)
  deriving DecidableEq, Repr

/-! ### Package, feeds and rails (R31–R43) -/

/-- Why the rails run down (R40, R41, R287, R477). -/
inductive OffCause where
  | powerFail | pwrdis | heartbeatLoss | linkFault | safeRestart
  deriving DecidableEq, Repr

/-- Where the dump of the protected region stands (R435). -/
inductive DumpState where
  | idle
  | running (slot : Nat) (seq : Nat)
  | done
  | skipped
  | unsealed
  deriving DecidableEq, Repr

/-- Package power state that is not an object. -/
structure Power where
  /-- pins STRAP_MAD1, STRAP_MAD0, STRAP_GM, STRAP_MBUS as bits 3–0 (R31) -/
  strapPins : Nat
  /-- the straps have been sampled since power was last lost (R31) -/
  strapsLatched : Bool
  /-- the input switch of VFA, VFB is open after an overvoltage (R33) -/
  switchOpenA : Bool
  switchOpenB : Bool
  /-- power-good has been reached (R38) -/
  powerGood : Bool
  /-- the sequence that runs the rails down, if one runs (R40, R287, R477) -/
  off : Option OffCause
  /-- the dump of the protected region (R435) -/
  dump : DumpState
  /-- the main die's rails are off after that sequence (R40 step 8, R287 step 7) -/
  railsOff : Bool
  /-- WRITE_KILL and PF_N lines (R284) -/
  writeKill : Bool
  pfN : Bool
  /-- FAULT_OUT_N is held low (R98, R99, R476) -/
  faultOutLow : Bool
  /-- the host ports and the cores are quiesced for power fail (R40 step 5) -/
  quiesced : Bool
  deriving DecidableEq, Repr

/-! ### The dictionary service (R57–R84) -/

/-- One open BLOB staging (R60). -/
structure Staging where
  owner : Requester
  data : List Byte
  deriving DecidableEq, Repr

/-- One of the two store copies in NOR (R64, R65): sequence number, the RESTORE_DEFAULTS flag of its header, the
lifetime store count, and the stored values. -/
structure StoreCopy where
  valid : Bool
  seq : Nat
  restoreFlag : Bool
  count : Nat
  values : SMap Val
  deriving DecidableEq, Repr

/-- The record that a record store commits (R66). -/
inductive RecordKind where
  | retiredUnits | retiredPages | restoreFlag | holdup
  deriving DecidableEq, Repr

/-- A store being committed (R63, R66): a whole store holds the snapshot of every stored object, a record store the values of its record alone
and, if the record is the RESTORE_DEFAULTS flag, that flag. What it does not hold the newest copy gives when it commits. -/
structure StoreJob where
  whole : Bool
  flag : Option Bool
  values : SMap Val
  deriving DecidableEq, Repr

/-- A mailbox transfer in progress (R69). -/
structure MailboxJob where
  write : Bool
  last : Bool
  key : Key
  addr : Nat
  offset : Nat
  len : Nat
  deriving DecidableEq, Repr

/-- State of the dictionary service besides the objects. -/
structure DictSvc where
  /-- open BLOB stagings by key (R60) -/
  stagings : SMap Staging
  /-- BLOB generations by key (R60); an absent key has generation 0 -/
  gens : SMap Nat
  /-- the two store copies in NOR (R64) -/
  copies : Vector StoreCopy 2
  /-- the store being committed, and the record stores that wait for it (R63, R66) -/
  job : Option StoreJob
  waitingRecords : List RecordKind
  /-- STATUS of each core's last access per slot: key is core × 2^24 + object key (R67) -/
  windowStatus : SMap Nat
  /-- running mailbox transfers by core (R69) -/
  mailbox : SMap MailboxJob
  /-- what each BLOB that the device itself keeps held at its last segment read, and with it the generation's last step (R60) -/
  seen : SMap (List Byte)
  /-- SLOT_SELECT per requester class H, M, G, F, C (R484) -/
  slotSelect : Vector Nat 5
  /-- Bolhoba requests whose response has not left: the port (0 management bus, 1 factory port) and the tick at which it has
  (R75, R76) -/
  inFlight : List (Nat × Nat)
  deriving DecidableEq, Repr

/-! ### Start sequence (R85–R101) -/

/-- START_MODE with HALTED beside it (R98, R99, R102). -/
inductive RunMode where
  | starting | normal | maintenance | romMaintenance | halted
  deriving DecidableEq, Repr

/-- One start-ledger record (R96). Fields not yet programmed are none; `mark` says the record was sealed. -/
structure StartRecord where
  seq : Nat
  powerOnCount : Nat
  attempt : Nat
  imageSlot : Option Nat
  failedStep : Option Nat
  endCode : Option Nat
  results : Vector Nat 20
  failDetail : Option Nat
  elapsedMs : Option Nat
  degraded : Option Nat
  imageVersion : Option Nat
  bundleGen : Option Nat
  mark : Bool
  deriving DecidableEq, Repr

/-- The start controller. -/
structure Start where
  mode : RunMode
  /-- this sequence runs as a MAINTENANCE start (R98) -/
  maintenance : Bool
  /-- step running, 0 when none -/
  step : Nat
  /-- an attempt is running -/
  running : Bool
  /-- the main die is in reset between attempts (R86, R92) -/
  inReset : Bool
  /-- steps that failed earlier in this sequence, and ALT_FORCE as read at "feed check" (R87), bit masks by step -/
  history : Nat
  forced : Nat
  /-- steps passed, passed with alternative or skipped in this attempt (R486), a bit mask -/
  passedSteps : Nat
  /-- time base at the beginning of the sequence (R85) -/
  tick0 : Nat
  /-- step at which the previous attempt was interrupted by power loss, 0 if it was not (R88) -/
  interruptedAt : Nat
  /-- RESTART = MAINTENANCE was requested (R98, R477) -/
  restartMaintenance : Bool
  /-- a RESTART has been accepted and the quiesce of R100 runs -/
  restartAsked : Bool
  /-- steps passed with their alternative in this attempt, a bit mask -/
  altSteps : Nat
  /-- power-ons so far, lifetime (R102) -/
  powerOns : Nat
  /-- the start ledger, oldest first (R96) -/
  ledger : List StartRecord
  /-- repair entries of the fuse-map shadow (R95, R439) -/
  shadow : List Repair
  /-- repair entries of the fuse map (R94, R95) -/
  fuseRepairs : List Repair
  /-- ENABLE values written since the start sequence began (R80) -/
  enables : SMap Nat
  /-- the group that the pool spare served last, which it joins again at the next start (R277); 0xFF for none -/
  spareGroup : Nat
  deriving DecidableEq, Repr

/-! ### Firmware, lifecycle and identity (R103–R131) -/

/-- The image in a NOR slot (R105, R111). -/
structure ImageSlot where
  bytes : List Byte
  /-- 0 EMPTY, 1 VALID, 2 INVALID, 3 WRITING -/
  state : Nat
  deriving DecidableEq, Repr

/-- A slot being programmed (R111, R118). -/
structure SlotProgram where
  slot : Nat
  image : List Byte
  /-- set PENDING_SLOT when done; and let the next Controller Level Reset activate it -/
  pend : Bool
  activate : Bool
  /-- the command slot whose completion is posted at the end; none for a recovery image -/
  cmdSlot : Option Nat
  deriving DecidableEq, Repr

/-- An activation without reset in progress (R113). -/
structure Activation where
  slot : Nat
  cmdSlot : Option Nat
  /-- step 1 is done and the freeze has begun; steps 6 and 7 are done -/
  staged : Bool
  unfrozen : Bool
  switched : Bool
  /-- the bank that the new clause and phrase stores go into -/
  bank : Nat
  deriving DecidableEq, Repr

/-- Firmware, keys and identity. -/
structure Firmware where
  slots : Vector ImageSlot 2
  /-- the image whose core code was activated last, and the images whose clause and phrase stores, rein programs and preamp
  format table are in use (R84, R115, R126) -/
  coreImage : List Byte
  bankImage : List Byte
  reinImage : List Byte
  formatImage : List Byte
  /-- the two copies of the slot-control record: sequence, ACTIVE_SLOT, PENDING_SLOT (R104) -/
  control : Vector (Nat × Nat × Nat) 2
  /-- download staging of controllers A and B: pieces by offset (R110) -/
  staging : Vector (SMap (List Byte)) 2
  /-- the slot being programmed (R111, R118) -/
  programming : Option SlotProgram
  /-- the activation without reset in progress (R113) -/
  activation : Option Activation
  /-- the verb cores' fetch freeze (R114) -/
  frozen : Bool
  /-- controller resets held until the freeze ends (R116) -/
  heldResets : List Port
  /-- the slot the start sequence chose, and whether it was the pending slot (R104) -/
  chosenSlot : Nat
  chosenPending : Bool
  /-- a Controller Level Reset activates the pending slot (R111) -/
  resetActivates : Bool
  /-- the loaded table bundle, the copies on the reserved cylinders by surface, and a staged bundle being written (R117) -/
  bundle : List Byte
  bundleCopies : Vector (List Byte) 48
  bundleWriting : Option (List Byte)
  /-- lifecycle: fuse bits MFG and DEP, and the lifecycle record in the sealed key area (R119): 2 DEPLOYED,
  3 RETURN, 4 SCRAPPED -/
  mfg : Bool
  dep : Bool
  lifecycleRecord : Option Nat
  /-- the outstanding lifecycle nonce with who read it (R120), and the count of nonces drawn -/
  nonce : Option (Requester × Nat)
  nonceCount : Nat
  /-- the owner key (R109) -/
  ownerKey : List Byte
  /-- the identity seed and device secret exist (R123); destroyed when SCRAPPED (R122) -/
  identity : Bool
  destroyed : Bool
  /-- namespace keys: generation of the key in force per namespace, and namespaces under erase (R127, R129) -/
  nsKeys : SMap Nat
  erasing : List Nat
  /-- DEPLOYED goes to RETURN once every namespace is erased (R120) -/
  returning : Bool
  /-- LBA format and protection type that a namespace takes when its erase ends (R129, R337) -/
  formats : SMap (Nat × Nat)
  /-- SPDM, per transport (MCTP, port A, port B): algorithms negotiated; the messages so far of the version, capability and
  algorithm exchange, of digests, certificates and challenges, and of measurements; and the response that waits for
  Security Receive (R125) -/
  spdmAlgs : Vector Bool 3
  spdmVca : Vector (List Byte) 3
  spdmChal : Vector (List Byte) 3
  spdmMeas : Vector (List Byte) 3
  spdmWaiting : Vector (List Byte) 3
  deriving DecidableEq, Repr

/-! ### Media (R132–R152) -/

/-- A surface label (R148): MAGIC and CRC-32C are good, AREAS, UNIQUE_ID, HOLDER_GEN, BUNDLE_GEN, and by area the location of the copy
held: first track, track count, generation. -/
structure Label where
  good : Bool
  areas : Nat
  uid : Nat
  holderGen : Nat
  bundleGen : Nat
  locs : SMap (Nat × Nat × Nat)
  deriving DecidableEq, Repr

/-- The device's own tables of the medium. -/
structure Media where
  /-- committed grown defect entries per surface, 16 bytes each (R143, R144) -/
  grown : Vector (List (List Byte)) 48
  /-- grown entries made but not committed to both copies (R144) -/
  grownPending : List (Nat × List Byte)
  /-- surface labels (R148) -/
  labels : Vector Label 48
  /-- the two holders; 255 when a half has none (R147) -/
  holders : Vector Nat 2
  /-- HOLDER_GEN of the newest labels (R147) -/
  holderGen : Nat
  /-- a holder move in progress: holder index and target surface (R147) -/
  moving : Option (Nat × Nat)
  /-- sectors that a ladder step from L2 on recovered, offered to the grown-defect handling: surface, track, physical sector
  (R212) -/
  offered : List (Nat × Nat × Nat)
  deriving DecidableEq, Repr

/-! ### Read and write channel (R154–R189) -/

/-- Loop state of one lane (R160): the offset in 1/64 LSB and the asymmetry in 1/4,096, each with sixteen bits below the step
(log entry 52). -/
structure LaneLoops where
  offset : Int
  asym : Int
  deriving DecidableEq, Repr

/-- What the channel remembers of the samples of one lane: the newest corrected samples and their squares through the lane's taps,
newest first, and the sums of the word in progress (R157, R160). -/
structure LaneTail where
  xs : List Int
  ws : List Int
  sumX : Int
  sumS : Int
  deriving DecidableEq, Repr

/-- A lane's samples over a sector (R184): their number, those at −64 or +63, their sum and the sum of their squares. -/
structure LaneStat where
  n : Nat
  clip : Nat
  sum : Int
  sq : Int
  deriving DecidableEq, Repr

/-- A queued preamp frame (R179): priority 0–4, register address, write data or a read, and whether it is followed by
a read-back (R181). -/
structure PreampFrame where
  priority : Nat
  reg : Nat
  data : Option Nat
  verify : Bool
  /-- attempts made of a frame that is verified (R181) -/
  tries : Nat
  deriving DecidableEq, Repr

/-- A front-end event (R16, R237): its code, its stamp of wedge and T, and the sector-table entry it concerns, where it is of one. -/
structure FrontEvent where
  code : Nat
  wedge : Nat
  t : Nat
  entry : Option Nat
  deriving DecidableEq, Repr

/-- The channel of one actuator. -/
structure Channel where
  /-- wedge and track of the last servo sync, its position error, and whether the last one was missed (R159) -/
  wedge : Nat
  track : Nat
  pes : Int
  servoMissed : Bool
  /-- time-base stamp of the last servo sync -/
  syncTick : Nat
  /-- the synthesiser: zone it is tuned to, locked (R155) -/
  synthZone : Nat
  synthLocked : Bool
  /-- CTLE byte of the preset in force (R154, R158) -/
  ctle : Nat
  /-- lane whose samples the servo demodulator uses (R159) -/
  servoLane : Nat
  /-- gain, timing frequency and phase, and the lanes' loops (R160): the gain in VGA codes and the two of the timing loop in units
  of its error, each with sixteen bits below the unit -/
  gain : Int
  freq : Int
  phase : Int
  lanes : Vector LaneLoops 3
  /-- the sector acquires over its first ACQ_T T (R161) -/
  acquiring : Bool
  /-- the sample stream (R157): wedge and T of the next sample, the place of that T between two ADC samples, and the rows of the lane
  word in progress with the gain error summed over it -/
  streamWedge : Nat
  streamT : Nat
  streamFrac : Nat
  wordRows : Nat
  sumG : Int
  tails : Vector LaneTail 3
  /-- newest values of the combined signal at the ADC rate, newest equalised samples, and the last sample with twice its
  decision -/
  zs : List Int
  ys : List Int
  lastY : Int
  lastD : Int
  /-- T counter as a command last showed it (R159, R235) -/
  headT : Nat
  /-- servo syncs so far, predicted ones too; by that count the T with the write gate open, and the VGA codes of the sectors read, over
  the last 24 wedges; and the T of the present data area from which the open write gate counts (R257) -/
  syncs : Nat
  duty : List (Nat × Nat)
  vga : List (Nat × Nat)
  writeFrom : Nat
  /-- freeze causes in force (R162): mask bits 1 asperity, 2 drop, 3 write gate; and the loops
  masked by the phrase (gain, offset, asymmetry, timing as bits 3–0) -/
  freeze : Nat
  freezeMask : Nat
  /-- LONG_FREEZE holds the loops to the end of the sector (R163) -/
  longFreeze : Bool
  /-- firings of the detectors in this sentence, events already raised from it (R164): asperity, drop -/
  taFirings : Nat
  dropFirings : Nat
  /-- T of data area since the asperity and the drop detector were last met (R162, HANGOVER_T) -/
  taQuiet : Nat
  dropQuiet : Nat
  /-- write-unsafe: level of each source (bits in the order of `WuSource`), and the lock of the sentence (R175, R176) -/
  wu : Nat
  locked : Bool
  /-- wedge and T at which write-unsafe locked the sentence (R17) -/
  lockAt : Option (Nat × Nat)
  /-- gates, and the entry whose write gate is open (R235) -/
  readGate : Bool
  writeGate : Option Nat
  laser : Nat
  /-- words queued in the write data FIFO, 64 bits each (R16) -/
  writeFifo : Nat
  /-- front-end event FIFO, and its sticky overflow (R16) -/
  events : List FrontEvent
  eventLost : Bool
  /-- lanes in use at the last preamble (R186), a mask -/
  lanesInUse : Nat
  /-- preamp: queued frames in arrival order, the frame on the bus, FAULT_N low (R179, R183) -/
  frames : List PreampFrame
  onBus : Option PreampFrame
  faultLow : Bool
  /-- head and mode code last sent (R177) -/
  head : Nat
  mode : Nat
  /-- heater and reader bias last sent (R258) -/
  heaterSent : Nat
  biasSent : Nat
  deriving DecidableEq, Repr

/-! ### Decode pool (R191–R216) -/

/-- Where a decode job stands. -/
inductive JobPhase where
  | waitDetector | waitLdpc | ended
  deriving DecidableEq, Repr

/-- One sector or ladder request in the decode pool. -/
structure DecodeJob where
  id : Nat
  /-- none for an online sector, the ring (0–3) for a ladder request -/
  ring : Option Nat
  /-- player and sector-table entry it comes from, its actuator, ring slot and hold slot (R202, R205) -/
  player : Nat
  entry : Nat
  actuator : Nat
  ringSlot : Nat
  hold : Option Nat
  /-- reservation r (R198) -/
  reserve : Nat
  /-- a parity sector, its PARITY_CIRC, scrambler seed and channel report (R191, R195, R170) -/
  parity : Bool
  parityCirc : Nat
  seed : Nat
  report : Nat
  /-- KIND of the request, 0 for an online sector (R205) -/
  kind : Nat
  /-- TARGET and the noise-predictor record it is detected with (R158, R193) -/
  target : Nat
  np : List Byte
  /-- LLRs of the code bits from the last detector pass; the posteriors of the LDPC pass in blocks of 128, and its check messages by
  layer and entry (R193, R194) -/
  llr : List Int
  post : List (List Int)
  msgs : List (List (List Int))
  /-- core of each pool whose result was discarded: the pass is run again on another (R196); 0xFF for none -/
  avoidDet : Nat
  avoidLdpc : Nat
  /-- deadline of an online decode, in ticks (R198) -/
  deadline : Nat
  /-- where its status word and its payload go (R213) -/
  statusAddr : Nat
  payloadAddr : Nat
  /-- where the job stands (R191) -/
  phase : JobPhase
  /-- global and local iterations of this read so far, and of the pass in progress -/
  globals : Nat
  locals : Nat
  passLocals : Nat
  /-- iterations done at the current alignment -/
  alignGlobals : Nat
  /-- fewest unsatisfied checks seen, the result so far, and the cores that hold it (R195, R196, R199) -/
  minUnsat : Nat
  result : Nat
  detCore : Nat
  ldpcCore : Nat
  /-- a further pass was granted, a core overran or failed, its slot is held, its samples were lost (R200, R203) -/
  extended : Bool
  overrun : Bool
  coreFault : Bool
  held : Bool
  lost : Bool
  /-- alignments still to try, and the index of the current one in the order of R167 -/
  aligns : List Int
  alignIndex : Nat
  /-- sector offsets at which the sector goes on after a relock field (R141, R171) -/
  cuts : List Nat
  /-- limits: local per global, global at the first alignment, global at each further one -/
  limitLocal : Nat
  limitGlobal : Nat
  limitProbe : Nat
  /-- the hold slot is released when it ends, the ring slots it uses, and whether it reads the ring (R205, R206) -/
  releaseAfter : Bool
  slots : List Nat
  fromRing : Bool
  /-- when it was accepted (R198) -/
  acceptTick : Nat
  /-- low bits of the sentence's SEQ, and the ladder step that the word names (R213) -/
  seq : Nat
  ladder : Nat
  deriving DecidableEq, Repr

/-- One sample slot, ring or hold (R202). -/
structure SampleSlot where
  samples : List Int
  align : Nat
  sm1 : Nat
  sm2 : Nat
  parityCirc : Nat
  outcome : Nat
  parity : Bool
  preset : Nat
  seed : Nat
  report : Nat
  surface : Nat
  track : Nat
  psector : Nat
  /-- iterations spent on this read so far (R213) -/
  globals : Nat
  locals : Nat
  /-- sector offsets at which the sector goes on in the next data area, as its place gives them (R141) -/
  cuts : List Nat
  /-- ladder step whose read it is, 0 for the first read (R209) -/
  step : Nat
  deriving DecidableEq, Repr

/-- The climb of one sector up the recovery ladder (R208). -/
structure Climb where
  key : Nat
  step : Nat
  /-- reads done in this step (R208) -/
  reads : Nat
  /-- highest step that the requester names (R210) -/
  top : Nat
  /-- the sector lies in a parity layout, and its samples are held (R210) -/
  parityLayout : Bool
  held : Bool
  /-- ladder step L5 has failed under PARITY_FIRST (R210) -/
  l5Failed : Bool
  /-- the sector's member is lost: L0 to L4 are skipped (R402) -/
  lost : Bool
  /-- the L1 request searches for slips: the sync outcome was not BOTH (R208) -/
  slip : Bool
  /-- settings of the next reread: EQ_PRESET, SYNC_WIN, SYNC_TOL, and the set-point offset in per cent of the track pitch (R209) -/
  preset : Nat
  syncWin : Nat
  syncTol : Nat
  offset : Int
  /-- limits of its DEEP requests: local iterations per global, global iterations at the first alignment and at each further one (R208) -/
  deepLocal : Nat
  deepGlobal : Nat
  deepProbe : Nat
  deriving DecidableEq, Repr

/-- The decode pool. -/
structure Decode where
  jobs : List DecodeJob
  nextId : Nat
  /-- ring slots and hold slots, by actuator × 64 + slot (R202, R203) -/
  ringSlots : SMap SampleSlot
  holdSlots : SMap SampleSlot
  /-- copies to a hold slot that are running, with what the ring slot held: by actuator × 64 + hold (R203) -/
  copies : SMap SampleSlot
  /-- climbs in progress -/
  climbs : List Climb
  /-- hold slots per actuator in force since the start (R217, HOLD_SLOTS) -/
  holdCount : Nat
  /-- the pass each core has in hand: core ↦ job (R191, R199), and the ring whose request each pool took last -/
  detRun : SMap Nat
  ldpcRun : SMap Nat
  detRing : Nat
  ldpcRing : Nat
  deriving DecidableEq, Repr

/-! ### Sentence players (R218–R246) -/

/-- Sentence outcomes (R225). -/
inductive Outcome where
  | complete | underrun | settleMiss | aborted | windowEnd | badClause | fault | discarded
  deriving DecidableEq, Repr

/-- Header of a sentence (R222). -/
structure Header where
  magic : Nat
  seq : Nat
  actuator : Nat
  surface : Nat
  zone : Nat
  timingMode : Nat
  bank : Nat
  preroll : Nat
  lanes : Nat
  eqPreset : Nat
  track : Nat
  startWedge : Nat
  wedges : Nat
  startRev : Nat
  entry : Nat
  sectors : Nat
  skips : Nat
  freezes : Nat
  dataT : Nat
  sectorT : Nat
  sm2At : Nat
  syncWin : Nat
  syncTol : Nat
  seekProfile : Nat
  bufBase : Nat
  statusBase : Nat
  deriving DecidableEq, Repr

/-- A sector-table entry with what has become of it while the sentence plays (R223, R225). -/
structure Entry where
  psector : Nat
  wedge : Nat
  pos : Nat
  seed : Nat
  ringSlot : Nat
  isWrite : Bool
  isParity : Bool
  reserve : Nat
  bufIndex : Nat
  selector : Nat
  /-- SM1 and SM2 matches found: position and distance (R165); none when missed or unarmed -/
  sm1 : Option (Nat × Nat)
  sm2 : Option (Nat × Nat)
  /-- the SM1 and SM2 windows have closed (R165) -/
  sm1Done : Bool
  sm2Done : Bool
  /-- bits of the channel report collected so far (R170) -/
  report : Nat
  /-- a capture runs (R235) -/
  capturing : Bool
  /-- READ_CLOSE has executed: the capture is in its tail (R235, R241) -/
  closing : Bool
  /-- READ_OPEN or WRITE_OPEN has executed, and the capture is posted to the pool (R235) -/
  opened : Bool
  posted : Bool
  /-- equalised samples captured so far from offset 0 on, and each lane's samples over the sector (R166, R184) -/
  samples : List Int
  stats : Vector LaneStat 3
  /-- length of the freeze run in progress, and unfrozen T since it was last frozen (R163) -/
  run : Nat
  gap : Nat
  /-- windows armed (R234): bit 1 SM1, bit 0 SM2; the phrase that opened the capture makes none, or does not post it -/
  arm : Nat
  noCapture : Bool
  noPost : Bool
  /-- the entry's last clause has executed (R225) -/
  played : Bool
  /-- the entry's status word is final -/
  final : Bool
  /-- result bits of its status word (R225) -/
  result : Nat
  deriving DecidableEq, Repr

/-- A gate FIFO entry (R16, R235): action code, T target and wedge, sector-table entry it serves, and whether it was posted less
than 512 T ahead; mask entries of R238 carry action 8 (mask on) and 9 (mask off) with the mask in `entry`. -/
structure GateEntry where
  action : Nat
  wedge : Nat
  target : Nat
  entry : Nat
  late : Bool
  deriving DecidableEq, Repr

/-- The state of one clause while its time passes (R238). -/
inductive ClauseTime where
  | none
  | stalled
  | timed (len : Nat)
  | wait (cond timeout : Nat)
  deriving DecidableEq, Repr

/-- A sentence record that is still to be written, with the status area it belongs to (R225, R226). -/
structure PendingRecord where
  seq : Nat
  base : Nat
  sectors : Nat
  bytes : List Byte
  deriving DecidableEq, Repr

/-- The step codes, thresholds and windows that a sentence plays with (R190, R246): GAIN_MU, OFFSET_MU, ASYM_MU, TIMING_KP and
TIMING_KI, ACQ_T, TA_THRESH, DROP_THRESH, HANGOVER_T, TA_EVENT_LIMIT, LASER_LEAD_T, LEAD_T, SLOT_DEADLINE_US. -/
structure ChanSet where
  gainAcq : Nat
  gainTrk : Nat
  offsetAcq : Nat
  offsetTrk : Nat
  asym : Nat
  kpAcq : Nat
  kiAcq : Nat
  kpTrk : Nat
  kiTrk : Nat
  acqT : Nat
  taThresh : Nat
  dropThresh : Nat
  hangover : Nat
  taLimit : Nat
  laserLead : Nat
  leadT : Nat
  /-- SLOT_DEADLINE_US of its read sectors (R198, R217) -/
  slotDeadline : Nat
  deriving DecidableEq, Repr

/-- One sentence player. -/
structure Player where
  header : Header
  /-- the channel settings it was compiled with, and the lanes it may use (R186, R190) -/
  set : ChanSet
  lanes : Nat
  /-- noise-predictor record of its preset when it was compiled (R193) -/
  np : List Byte
  entries : List Entry
  skips : List (Nat × Nat × Nat)
  freezes : List (Nat × Nat × Nat)
  /-- LOAD_ADDR of the load in progress and the order in which loads were accepted (R228) -/
  loadAddr : Nat
  loadOrder : Nat
  /-- when the load became READY (R228) -/
  readyTick : Nat
  /-- pre-roll begun, clause program running, END executed (R230, R232) -/
  preroll : Bool
  playing : Bool
  ended : Bool
  /-- an abort has been asked for (R229) -/
  abortAsked : Bool
  /-- clause address, counters, return stack (R233) -/
  pc : Nat
  counters : Vector Nat 4
  stack : List Nat
  /-- bound entry, and the number of entries bound so far -/
  bound : Option Nat
  nextEntry : Nat
  /-- cursor: wedge and T, and the sector offset while an entry is bound (R238) -/
  curWedge : Nat
  curT : Nat
  curOffset : Nat
  /-- the time of the clause in progress (R238) -/
  clause : ClauseTime
  /-- what the clause in progress does when its time has passed: opcode, argument -/
  clauseOp : Nat
  clauseArg : Nat
  clausePhrase : Nat
  /-- gate FIFO, oldest first (R16) -/
  gates : List GateEntry
  /-- power selector in force, FRONT_END settings in force (R234) -/
  selector : Nat
  frontEnd : Nat
  /-- sentence record fields (R225) -/
  outcome : Option Outcome
  flags : Nat
  visited : Nat
  lateGates : Nat
  waitTimeouts : Nat
  lastClause : Nat
  startTick : Nat
  endTick : Nat
  marks : List (Nat × Nat × Nat)
  /-- records that wait for the last status word of their sentence (R226) -/
  records : List PendingRecord
  deriving DecidableEq, Repr

/-- Per-actuator play state (R219, R228, R266). -/
structure Actuator where
  /-- no sentence starts until this wedge of this revolution (R228) -/
  blockUntil : Option (Nat × Nat)
  /-- the player that plays, surface and zone of the last sentence, loads accepted (R219, R228) -/
  playing : Option Nat
  lastSurface : Nat
  lastZone : Nat
  loadCount : Nat
  /-- clause and phrase stores: two banks (R113, R21) -/
  clauses : Vector (SMap Nat) 2
  phrases : Vector (SMap Nat) 2
  /-- banks that a playing sentence holds (R113) -/
  banksHeld : Nat
  /-- the profile sequencer: a seek handed over (profile, target track), the one running (profile, distance) and its profile
  wedge (R266) -/
  seek : Option (Nat × Int)
  seekRun : Option (Nat × Int)
  seekWedge : Nat
  deriving DecidableEq, Repr

/-! ### Rein engines (R247–R283) -/

/-- A saved or running context of an engine (R249, R250). -/
structure Context where
  d : Vector Word32 16
  acc0 : Word64
  acc1 : Word64
  cb : BitVec 10
  flags : BitVec 5
  stack : List (BitVec 11)
  pc : BitVec 11
  deriving DecidableEq, Repr

/-- One entry's run on one engine: entry 0 inner, 1 position, 2 outer; instructions executed; staged outputs. -/
structure Run where
  entry : Nat
  count : Nat
  staged : SMap Word32
  /-- input ports as taken at the trigger (R257) -/
  inputs : SMap Word32
  rerun : Bool
  deriving DecidableEq, Repr

/-- One coefficient word (R249): mantissa and shift. -/
structure Coef where
  m : Word32
  s : BitVec 5
  deriving DecidableEq, Repr

/-- One rein engine. -/
structure Engine where
  ctx : Context
  prog : SMap Word32
  data : SMap Word32
  coef : SMap Coef
  /-- the run in progress and the preempted ones with their contexts, newest first, at most two (R250) -/
  run : Option Run
  saved : List (Run × Context)
  /-- triggers that wait, by entry (R250) -/
  waiting : SMap (SMap Word32)
  /-- output set delivered for each entry's current sample; an engine that ended without one delivers none -/
  delivered : SMap (SMap Word32)
  /-- entries whose last run ended in a program fault (1) or budget stop (2) (R256) -/
  stopped : SMap Nat
  /-- checkpoint: context and the undo journal of data writes since then; none when invalid (R275) -/
  checkpoint : Option (Context × List (Nat × Word32))
  /-- rejoin of a fenced engine: 0 none, 1 reloading, 2 copying memories, 3 registers at the next checkpoint (R273) -/
  rejoin : Nat
  /-- consecutive position latches in agreement while in PROBATION -/
  agreed : Nat
  /-- injection pending, applied to the last position set, and injections this start (R278) -/
  injectNext : Bool
  injectHit : Bool
  injections : Nat
  /-- coefficient words to be written at the next checkpoint (R270, R271) -/
  coefDue : List (Nat × Coef)
  /-- runs that a pair hold makes the engine execute again, in trigger order, and the sets of those already run again (R274) -/
  reruns : List (Nat × SMap Word32)
  rerunSets : List (Nat × SMap Word32)
  /-- group the engine runs in: its own, or the one the pool spare serves; 5 for none -/
  group : Nat
  /-- place of the engine in its group (R247) -/
  slot : Nat
  deriving DecidableEq, Repr

/-- One rein group. -/
structure Group where
  /-- latched outputs by port (R258) -/
  latched : SMap Word32
  /-- outputs agreed at the compare point and waiting for the latch, per entry -/
  agreed : SMap (SMap Word32)
  /-- misses of position sets in a row, of inner sets in a row (R262) -/
  missedPos : Nat
  missedInner : Nat
  /-- pair hold in progress: entry whose next latch decides (R274) -/
  pairHold : Option Nat
  holdRerunDone : Bool
  /-- inputs retained since the checkpoint, oldest first (R274) -/
  retained : List (Nat × SMap Word32)
  /-- entries triggered whose compare point has not come (R272, R274) -/
  awaited : List Nat
  /-- vote word of the last compare point (R279, node 13) -/
  vote : Nat
  /-- a snapshot is due at the next checkpoint, and position sets counted (R275, R282) -/
  snapPending : Bool
  posCount : Nat
  /-- sensed and measured inputs that are not objects -/
  sensed : SMap Word32
  /-- TRACK_OFFSET as input port OFFSET has it, since the last position trigger (R265) -/
  offset : Word32
  deriving DecidableEq, Repr

/-- One trace buffer (R279, R280). -/
structure Trace where
  samples : List (List Word32)
  decim : Nat
  left : Nat
  /-- events of TRACE_TRIGGER's kind 4 since the last sample, and a write of TRACE_FORCE (R280) -/
  seen : Nat
  forced : Bool
  deriving DecidableEq, Repr

/-! ### Motion die (R284–R307) -/

/-- Phase of one actuator's retract (R304): none, before ramp contact (steps 1–3), after it (steps 4, 5). -/
inductive Retract where
  | none | slowing | pushing
  deriving DecidableEq, Repr

/-- The motion die beside its objects. -/
structure Motion where
  /-- resends of the message in flight, main to motion and motion to main (R284) -/
  resendsDown : Nat
  resendsUp : Nat
  /-- sequence numbers of the next message, main to motion and motion to main, modulo 256 (R284) -/
  seqDown : Nat
  seqUp : Nat
  /-- phase of each actuator's retract and the milliseconds it has run (R303, R304) -/
  retract : Vector Retract 4
  retractMs : Vector Nat 4
  /-- bridges latched open by overcurrent; milli-actuator bridges held at 0 V for the start sequence (R299, R300) -/
  vcmOpen : Vector Bool 4
  maHeld : Vector Bool 4
  /-- voice-coil and milli-actuator commands in force (R284, R297, R300) -/
  vcm : Vector Int 4
  ma : Vector Int 4
  /-- spindle: valid zero-crosses in sequence, missing in a row, tries left, last interval, current command -/
  zcValid : Nat
  zcMissing : Nat
  spinTries : Nat
  zcInterval : Nat
  spinCmd : Int
  /-- the last six zero-cross intervals, newest first: one electrical cycle (R295); FORMAT_RPM as a start sequence took it, and whether the
  present one has (R294) -/
  zcCycle : List Nat
  rpm : Nat
  rpmTaken : Bool
  /-- the normal and the alternate spin-up profile as "motion-die handshake" handed them over (R291) -/
  profiles : Vector (List Byte) 2
  /-- phase of the last zero-cross (R289), 3 for none; SPIN_LIMIT_MA as the last spin-up or speed change took it (R289) -/
  zcPhase : Nat
  /-- zero-crosses since the spindle's index, of 6 × POLE_PAIRS in a revolution (R219, R289) -/
  zcIndex : Nat
  spinLimit : Nat
  /-- per actuator the set-points of its retract or load, as they stood when it began: back-EMF target in mV, current limit and push
  current in mA (R302, R304, R307) -/
  drives : Vector (Nat × Nat × Nat) 4
  /-- direction of rotation (R292) -/
  forward : Bool
  /-- reset notice in force: notified length in µs (R286) -/
  notice : Option Nat
  /-- COUNT of the last HEARTBEAT (R285) -/
  heartbeatCount : Nat
  /-- a spin-up waits for the retracts that precede it, or for standstill (R292) -/
  spinWaitsPark : Bool
  spinWaitsStill : Bool
  deriving DecidableEq, Repr

/-! ### Girth link (R308–R331) -/

/-- An announcement that is tracked (R323): where it came from, its start as a local tick, its seek, and per own actuator the sums of
R326 with whether an own seek overlapped it. -/
structure Announcement where
  id : Nat
  start : Nat
  /-- START_TICK as its frame carried it, by which a cancel names it (R322) -/
  master : Nat
  profile : Nat
  act : Nat
  d : Int
  hopDiff : Int
  sumPF : Vector Int 4
  sumF2 : Vector Int 4
  overlapped : Vector Bool 4
  deriving DecidableEq, Repr

/-- The girth block. A frame it receives passes within its step, so its receive FIFO holds none between steps. -/
structure Girth where
  /-- the role in force: 1 MASTER, 2 CANDIDATE, 3 MEMBER (R315) -/
  role : Nat
  /-- when its own SYNC last came back (R317, R318) -/
  ownTick : Option Nat
  /-- it is master by election; frames still to carry TAKEOVER; a candidate's wait runs (R316) -/
  elected : Bool
  takeoverLeft : Nat
  candidateWait : Bool
  /-- BASE_HOP of the chain (R315) -/
  baseHop : Nat
  /-- consecutive valid SYNC of a tag that is not the master's (R317, R319) -/
  newTag : Nat
  newTagCount : Nat
  /-- the last PHASE frame: when it came, its group and its RPM; a mismatch of RPM has been reported (R320) -/
  phaseTick : Option Nat
  phaseGroup : Nat
  phaseRpm : Nat
  rpmMismatch : Bool
  /-- announcements tracked, and the identifier of the next one (R323) -/
  announcements : List Announcement
  nextAnnouncement : Nat
  /-- own announcements whose seeks have not started, per actuator, oldest first: local START_TICK and payload (R322) -/
  ownAnnounced : Vector (List (Nat × Nat)) 4
  /-- the current second and the frames sent in it: SEEK, DICT, DICT requests (R312) -/
  second : Nat
  seekSent : Nat
  dictSent : Nat
  requestsSent : Nat
  /-- when the last HEALTH frame was sent, its bits [59:52], and a change that waits (R327) -/
  lastHealth : Option Nat
  healthBits : Nat
  healthPending : Bool
  /-- neighbours' HEALTH by d + 8: hop, tick received, payload (R327) -/
  neighbours : SMap (Nat × Nat × Nat)
  /-- the outstanding DICT request: tag and target; the tag of the next one (R329) -/
  request : Option (Nat × Nat)
  nextTag : Nat
  /-- the listening phase of the join runs (R319) -/
  listening : Bool
  /-- frames put into the receive FIFO at a tick, and the frames that a full receive FIFO dropped (R16, R312) -/
  rxTick : Nat
  rxCount : Nat
  rxDrops : Nat
  /-- own frames that wait for the line, first out first: type and payload; the tick from which the line is idle (R312) -/
  tx : List (Nat × Nat)
  lineFree : Nat
  /-- MASTER_TICK and BASE_HOP of the SYNC that it last sent as master (R310) -/
  lastSync : Option (Nat × Nat)
  /-- when the last SYNC of its master came, and how far the master's time gained over how many ticks before it (R314) -/
  drift : Option (Nat × Int × Nat)
  deriving DecidableEq, Repr

/-! ### Host interface (R332–R366) -/

/-- A range-lock entry's kind (R345); none for commands that enter no span. -/
inductive LockKind where
  | read | write | free
  deriving DecidableEq, Repr

/-- A command slot with its range-lock entry (R343–R347). -/
structure CmdSlot where
  port : Port
  qid : Nat
  cq : Nat
  cmd : SqEntry
  admission : Nat
  io : Bool
  kind : LockKind
  lba : Nat
  count : Nat
  released : Bool
  stalled : Bool
  /-- admission numbers of earlier entries it waits for, and of those among them whose span it conflicts with (R347, R353) -/
  waits : List Nat
  locks : List Nat
  /-- blocks admitted to the protected cache so far (R346) -/
  cached : Nat
  /-- FUA or WCE = 0 wants the medium; flush covers these admissions -/
  wantsMedium : Bool
  /-- blocks that must still reach the medium: DBA, and the admission number of the data (or of later data) -/
  media : List (Nat × Nat)
  /-- its machine has begun (R346) -/
  started : Bool
  /-- time-base stamp of its fetch, for the longest stall (R367) -/
  fetchTick : Nat
  /-- it has left its range-lock stall and been checked for Reservation Conflict (R356) -/
  checked : Bool
  deriving DecidableEq, Repr

/-- A completion to post, with the slot that is free once it is posted (R344). -/
structure Completion where
  cid : Nat
  sct : Nat
  sc : Nat
  dw0 : Nat
  dw1 : Nat
  slot : Option Nat
  deriving DecidableEq, Repr

/-- One completion queue: entries from head to tail are posted and not consumed. -/
structure Cq where
  size : Nat
  head : Nat
  tail : Nat
  /-- completions that wait for a free entry, oldest first -/
  waiting : List Completion
  /-- its interrupt vector, whether it interrupts, and the completions posted since the last interrupt, with the tick of the first (R342) -/
  vector : Nat
  interrupts : Bool
  held : Nat
  heldTick : Nat
  deriving DecidableEq, Repr

/-- One submission queue: entries from head to tail are submitted and not fetched. -/
structure Sq where
  size : Nat
  cq : Nat
  head : Nat
  tail : Nat
  deriving DecidableEq, Repr

/-- One NVMe controller (R332–R366). -/
structure Controller where
  en : Bool
  rdy : Bool
  cfs : Bool
  shst : Nat
  pp : Bool
  perst : Bool
  linkUp : Bool
  /-- CAP.TO in units of 500 ms (R93) -/
  capTo : Nat
  /-- submission and completion queues by identifier -/
  sqs : SMap Sq
  cqs : SMap Cq
  /-- outstanding Asynchronous Event Requests (R335) -/
  aers : List Nat
  /-- log pages with a notice to give that no event request has taken yet -/
  notices : List Nat
  /-- feature values by feature identifier -/
  features : SMap Nat
  /-- host identifier, and the shutdown in progress (R355, R361) -/
  hostId : Nat
  shutdown : Nat
  /-- the submission queue served last in the round robin (R343) -/
  turn : Nat
  /-- what the Changed Namespace List and Reservation Notification logs hold: namespaces changed; kind and namespace of each notification
  not yet read, with the count of all (R335) -/
  changedNs : List Nat
  resNotes : List (Nat × Nat)
  resNoteCount : Nat
  deriving DecidableEq, Repr

/-- A reservation registrant (R355). -/
structure Registrant where
  host : Nat
  key : Nat
  valid : Bool
  deriving DecidableEq, Repr

/-- Reservation state of one namespace (R355). -/
structure Reservation where
  ptpl : Bool
  rtype : Nat
  prgen : Nat
  holder : Nat
  regs : List Registrant
  deriving DecidableEq, Repr

/-- One namespace: its entry of the layout descriptor, its format and attachment (R371, R372, R337). -/
structure Namespace where
  nsid : Nat
  mapSlot : Nat
  firstDba : Nat
  blocks : Nat
  firstStripe : Nat
  firstRow : Nat
  periods : Nat
  nsze : Nat
  lbaFormat : Nat
  piType : Nat
  attachedA : Bool
  attachedB : Bool
  deriving DecidableEq, Repr

/-- The host interface beside its objects. -/
structure HostIf where
  ctrls : Vector Controller 2
  slots : SMap CmdSlot
  namespaces : SMap Namespace
  reservations : SMap Reservation
  /-- persisted reservation copies in NOR: (SEQ, state) (R355); and commands that wait for the write -/
  resCopies : Vector (Nat × SMap Reservation) 2
  resWaiting : List (Nat × Nat)
  /-- fetching stopped by the safe state (R476) -/
  fetchStopped : Bool
  /-- power-state entry in progress: target and a command waits (R365, R366) -/
  psEntry : Option Nat
  psWaiting : Bool
  psPhase : Nat
  /-- last operational power state, and a command has asked to leave a non-operational one (R366) -/
  lastOperational : Nat
  wake : Bool
  /-- which controller received the last slot, and the I/O slots have all been taken since both controllers have I/O waiting (R343) -/
  lastPort : Port
  scarce : Bool
  /-- sanitize status log: last status -/
  sanitize : Nat
  /-- the cache policy in force since the start is STRICT (R350) -/
  strict : Bool
  deriving DecidableEq, Repr

/-! ### Stitch layouts, rebuild, patrol, reshape (R368–R420) -/

/-- A stitch map in use (R374): layout number, type, K, M, rows and stripes per period, ACT_MAX, surfaces, spare and
the positions (surface, row). -/
structure StitchMap where
  layoutId : Nat
  typ : Nat
  k : Nat
  m : Nat
  periodRows : Nat
  periodStripes : Nat
  actMax : Nat
  surfaces : Nat
  spare : Nat
  positions : List (Nat × Nat)
  deriving DecidableEq, Repr

/-- A remap entry (R377). -/
structure Remap where
  surface : Nat
  row : Nat
  crowded : Bool
  filled : Bool
  deriving DecidableEq, Repr

/-- An open journal entry (R385) with the sectors still to be written. -/
structure JournalEntry where
  seq : Nat
  stripe : Nat
  nsid : Nat
  mapSlot : Nat
  method : Nat
  gen : Nat
  /-- listed sectors: (member, offset, payload) -/
  list : List (Nat × Nat × List Byte)
  /-- blocks the update covers: DBA, and the admission number of the data -/
  dbas : List (Nat × Nat)
  valid : Bool
  replay : Bool
  deriving DecidableEq, Repr

/-- A rebuild job (R400, R420). -/
structure Job where
  surface : Nat
  watermark : Nat
  done : Nat
  total : Nat
  deriving DecidableEq, Repr

/-- A lost range (R409). -/
structure Lost where
  nsid : Nat
  lba : Nat
  count : Nat
  cause : Nat
  deriving DecidableEq, Repr

/-- A reshape checkpoint (R416, R420). -/
structure Reshape where
  nsid : Nat
  newSlot : Nat
  firstRow : Nat
  firstStripe : Nat
  periods : Nat
  blocks : Nat
  groupBlocks : Nat
  groupsTotal : Nat
  nextGroup : Nat
  deriving DecidableEq, Repr

/-- Layout, journal and background-work state. -/
structure Layout where
  seq : Nat
  rowsTotal : Nat
  maps : SMap StitchMap
  /-- maps of the loaded bundle (R374), by LAYOUT_ID -/
  bundleMaps : SMap StitchMap
  /-- the remap table (R377) -/
  remap : SMap Remap
  /-- allocated stripes, and dirty write-intent groups, as rising lists of numbers (R379, R387) -/
  allocated : List Nat
  /-- stripes whose allocation bit was cleared since the last mirror point (R387) -/
  allocCleared : List Nat
  /-- dirty write-intent groups (R387) -/
  dirtyGroups : List Nat
  /-- groups whose bit is set in the mirror, groups touched since the last mirror point -/
  mirroredGroups : List Nat
  touchedGroups : List Nat
  /-- open journal entries and the next sequence number (R385) -/
  journal : List JournalEntry
  journalSeq : Nat
  /-- stripes awaiting replay or resync ahead of their turn (R391) -/
  pinned : List Nat
  /-- entries to replay and groups to resync (R390, R391) -/
  replayQueue : List JournalEntry
  resyncQueue : List Nat
  /-- lost ranges, their generation and merges (R409, R410) -/
  lost : List Lost
  lostGen : Nat
  lostMerges : Nat
  /-- surfaces in the order of their retirement, and STALE_ALL (R397, R400) -/
  retiredOrder : List Nat
  staleAll : Nat
  /-- rebuild jobs (R400) -/
  jobs : List Job
  /-- members of jobs that the critical pass has rebuilt since the start: (surface of the job, stripe) (R400) -/
  criticalDone : List (Nat × Nat)
  /-- stripes that the critical pass takes first (R402) -/
  critFront : List Nat
  /-- stripes with a suspect parity (R406) -/
  suspects : List Nat
  /-- the reshape checkpoint, and whether a group is held for its copy (R416, R417) -/
  reshape : Option Reshape
  reshapeHold : Bool
  /-- mirror pages whose program has failed, and the page generation of each page that has been mirrored (R386) -/
  mirrorWaiting : List Nat
  pageGens : SMap Nat
  /-- log page 0xD1 generation -/
  healthGen : Nat
  /-- under STALE_ALL, the members rebuilt so far: (surface, stripe) (R397) -/
  staleFilled : List (Nat × Nat)
  /-- blocks of copied reshape groups that are on the medium in one layout only: (DBA, in the new one) (R417) -/
  halfDone : List (Nat × Bool)
  /-- chunks rebuilt on behalf of each surface (R421) -/
  rebuiltOf : SMap Nat
  /-- WATERMARK and CHUNKS_DONE of each job's surface as last written to the checkpoint area (R405) -/
  savedJobs : SMap (Nat × Nat)
  deriving DecidableEq, Repr

/-! ### Buffer memory, protected region, caches (R423–R444) -/

/-- One protected-cache slot (R431). -/
structure CacheSlot where
  state : Nat
  nsid : Nat
  dba : Nat
  admission : Nat
  payload : List Byte
  /-- the CRC field, where it is not that of the descriptor (R432) -/
  crcBad : Option Nat := none
  deriving DecidableEq, Repr

/-- One keeper slot (R433, R434): 0 ERASED, 1 SEALED, 2 UNSEALED, 3 SUPERSEDED, 4 UNUSABLE. -/
structure KeeperSlot where
  state : Nat
  seq : Nat
  uid : Nat
  /-- what the units hold: protected-cache slots, open journal entries, the write-intent bitmap's groups, the other bytes of the
  protected region, and its poisoned blocks -/
  cache : SMap CacheSlot
  journal : List JournalEntry
  dirtyGroups : List Nat
  cells : List Host.Cell
  poison : List Nat
  /-- hold-up energy and lowest VM of the dump (R434) -/
  holdup : Nat
  vmMin : Nat
  deriving DecidableEq, Repr

/-- One system-cache line (R440). -/
structure Line where
  way : Nat
  data : List Byte
  dirty : Bool
  locked : Bool
  /-- a poisoned word was written back or read (R441) -/
  poisoned : Bool
  deriving DecidableEq, Repr

/-- What reaches a line while its fill is in flight (R440, R443): a load of a core, a store, a clean. -/
inductive FillOp where
  | load (core addr width : Nat)
  | store (addr : Nat) (data : List Byte)
  | clean
  deriving DecidableEq, Repr

/-- A fill in flight (R440, R443): what it will serve, in the order of its arrival, the way it holds (16 for none), whether it will be
installed and locked, whether its block was delivered poisoned, and, once the line has been invalidated, what came after that. -/
structure Fill where
  ops : List FillOp
  way : Nat
  install : Bool
  lock : Bool
  poison : Bool
  later : List FillOp
  deriving DecidableEq, Repr

/-- Memory state. -/
structure Memory where
  /-- usable DRAM, byte by byte; an unlisted byte reads 0 (R429) -/
  dram : List Host.Cell
  /-- poisoned 64-byte blocks, pages written, error counts, repeat filter (R424–R429) -/
  poison : List Nat
  written : List Nat
  errors : SMap Nat
  filter : List (Nat × Nat)
  /-- substituted pages: page ↦ spare page number (R427); copies in progress -/
  substituted : SMap Nat
  copying : List Nat
  /-- the zero range in progress (R430) -/
  zeroing : Option (Nat × Nat)
  /-- core-local SRAM of cores 0–7 (R21), and the security core's private 128 KiB by offset (R8) -/
  sram : List Host.Cell
  secSram : List Host.Cell
  /-- protected cache slots 0–129,023 (R431) -/
  cache : SMap CacheSlot
  /-- the six keeper slots, the one chosen at the start, and whether a superseded page is still to be programmed (R434, R436) -/
  keeper : Vector KeeperSlot 6
  keeperChosen : Option Nat
  supersedeDue : Bool
  /-- system cache: line address / 64 ↦ line; recency newest first; fills; retired ways are 0x9100.08 -/
  lines : SMap Line
  recency : List Nat
  fills : SMap Fill
  /-- maintenance operations that wait for fills: per core the status to set (R443) -/
  maint : SMap Nat
  deriving DecidableEq, Repr

/-! ### DMA and fabric (R446–R463) -/

/-- Where a DMA channel stands. -/
inductive DmaPhase where
  | idle | fetching | moving | readback | rewritten
  deriving DecidableEq, Repr

/-- One DMA channel beside its objects. -/
structure DmaCh where
  phase : DmaPhase
  chain : Bool
  /-- the descriptor in hand: address, SRC, DST, NEXT, COUNT, CTRL -/
  desc : Nat
  src : Nat
  dst : Nat
  next : Nat
  count : Nat
  ctrl : Nat
  /-- a source block was poisoned, and where the first of them was written (R450, R454) -/
  poison : Bool
  firstPoison : Nat
  /-- a stop has been asked for, and resends of the beat in flight (R449, R457) -/
  stop : Bool
  resends : Nat
  /-- the engine's copy of the last destination block, and whether its source was poisoned (R454) -/
  lastCopy : List Byte
  lastPoison : Bool
  deriving DecidableEq, Repr

/-- Fabric and arbiter state. -/
structure Fabric where
  dma : Vector DmaCh 8
  /-- failures of the block at the head of each lane, up 0–15 and down 16–31 (R457) -/
  naks : Vector Nat 32
  /-- region deficits, and the region whose turn runs (R462) -/
  deficit : Vector Nat 8
  region : Nat
  /-- per region arbiter: the requester whose turn runs, and the beats it has left (R462) -/
  last : Vector Nat 8
  turnLeft : Vector Nat 8
  /-- the actuators' tokens in 1/1,600 of a beat, when they were last filled, and the RESERVE_MBS in force (R461, R465) -/
  tokens : Vector Nat 4
  tokenTick : Nat
  reserve : Nat
  deriving DecidableEq, Repr

/-! ### Fault collection (R466–R485) -/

/-- A first-error capture (R473). -/
structure Capture where
  frozen : Bool
  event : Event
  tick : Nat
  later : Nat
  deriving DecidableEq, Repr

/-- An event-ledger record in a slot (R478). -/
structure Record where
  seq : Nat
  source : Nat
  kind : Nat
  cls : Nat
  rep : Nat
  port : Nat
  address : Nat
  master : Nat
  access : Nat
  unit : Nat
  bucket : Nat
  detail : Nat
  detail2 : Nat
  startSeq : Nat
  deriving DecidableEq, Repr

/-- The collectors and the event ledger. -/
structure Collector where
  /-- bucket levels and the tick of each source's previous event (R468) -/
  buckets : SMap (Nat × Nat)
  /-- first-error captures, one per collector (R473) -/
  captures : Vector Capture 9
  /-- valid records by slot 0–4,095 (R478, R479) -/
  ledger : SMap Record
  /-- the newest sequence number (R478) -/
  newestSeq : Nat
  /-- the ledger is restored; until then records are held, oldest first, at most 64 (R472) -/
  restored : Bool
  held : List Record
  /-- a record changed since the last NOR mirror; the mirror being written; the NOR copies and the band copy (R483) -/
  changed : Bool
  mirroring : Option (SMap Record)
  norCopies : Vector (SMap Record) 2
  norNext : Nat
  bandCopy : SMap Record
  /-- units fenced by the collector that wait for their readmission, by source id (R469) -/
  readmitting : List Nat
  /-- blocks without a STATE object that a collector has fenced, by source id (R7, R469) -/
  fenced : List Nat
  deriving DecidableEq, Repr

/-! ### The whole machine -/

/-- Why a step stops. No rule of the spec gives a command whose effect is to stop the block: the type is empty of
reasons but for an access to memory that does not exist, which the spec turns into an exception of the core, so no
constructor is ever raised by a meaning; one is kept so that the type names the case. -/
inductive Fault where
  /-- Raised by no meaning. Safe: a stop proves nothing about a next state. -/
  | none
  deriving DecidableEq, Repr

/-- Why a command has no meaning here. -/
inductive Refusal where
  /-- Raised by `exec`'s arm for a command whose meaning is not written yet. Safe: the run stops. -/
  | notModelled (mnemonic : String)
  deriving DecidableEq, Repr

/-- The state of the block. -/
structure State where
  /-- dictionary objects that differ from their defaults (R53, R82) -/
  objs : SMap Val
  /-- package, feeds and rails (R31–R43) -/
  power : Power
  /-- the dictionary service (R57–R84) -/
  dict : DictSvc
  /-- the start controller (R85–R101) -/
  start : Start
  /-- firmware, keys and identity (R103–R131) -/
  fw : Firmware
  /-- the device's tables of the medium (R132–R152) -/
  media : Media
  /-- the four channels (R154–R189) -/
  chan : Vector Channel 4
  /-- the decode pool (R190–R217) -/
  dec : Decode
  /-- the eight players and four actuators' play state (R218–R246) -/
  players : Vector Player 8
  acts : Vector Actuator 4
  /-- the rein engines, their groups and the traces (R247–R283) -/
  engines : Vector Engine 16
  groups : Vector Group 5
  traces : Vector Trace 4
  /-- the motion die (R284–R307) -/
  motion : Motion
  /-- the girth block (R308–R331) -/
  girth : Girth
  /-- the host interface (R332–R366) -/
  host : HostIf
  /-- layouts, journal and background work (R368–R421) -/
  layout : Layout
  /-- buffer memory, keeper store and system cache (R422–R445) -/
  mem : Memory
  /-- DMA and fabric (R446–R465) -/
  fab : Fabric
  /-- the collectors and the event ledger (R466–R485) -/
  coll : Collector
  /-- events raised and not yet at their collector, oldest first (R472) -/
  raised : List Event
  /-- what the ports have sent, newest first -/
  outs : List Out
  /-- the model's own counter for free values (Config.lean) -/
  free : Nat
  /-- commands that wait, oldest first -/
  pending : List Instr
  deriving DecidableEq, Repr

/-! ### The machine right after reset

The package without power, as it leaves the factory: no feed, nothing programmed, nothing in flight. Every object takes the
default of its table row (Machine/ObjTable.lean), so `objs` is empty. The values that the spec does not give are zero or
empty (log entry 2). -/

def Power.reset : Power where
  strapPins := 0
  strapsLatched := false
  switchOpenA := false
  switchOpenB := false
  powerGood := false
  off := none
  dump := .idle
  railsOff := true
  writeKill := false
  pfN := false
  faultOutLow := false
  quiesced := false

def StoreCopy.reset : StoreCopy := ⟨false, 0, false, 0, []⟩

def DictSvc.reset : DictSvc where
  stagings := []
  gens := []
  copies := .replicate 2 StoreCopy.reset
  job := none
  waitingRecords := []
  windowStatus := []
  mailbox := []
  seen := []
  slotSelect := .replicate 5 0
  inFlight := []

def Start.reset : Start where
  mode := .starting
  maintenance := false
  step := 0
  running := false
  inReset := true
  history := 0
  forced := 0
  passedSteps := 0
  tick0 := 0
  interruptedAt := 0
  restartMaintenance := false
  restartAsked := false
  altSteps := 0
  powerOns := 0
  ledger := []
  shadow := []
  fuseRepairs := []
  enables := []
  spareGroup := 0xFF

def Firmware.reset : Firmware where
  slots := .replicate 2 ⟨[], 0⟩
  coreImage := []
  bankImage := []
  reinImage := []
  formatImage := []
  control := .replicate 2 (0, 0, 0xFF)
  staging := .replicate 2 []
  programming := none
  activation := none
  frozen := false
  heldResets := []
  chosenSlot := 0
  chosenPending := false
  resetActivates := false
  bundle := []
  bundleCopies := .replicate 48 []
  bundleWriting := none
  mfg := false
  dep := false
  lifecycleRecord := none
  nonce := none
  nonceCount := 0
  ownerKey := []
  identity := false
  destroyed := false
  returning := false
  nsKeys := []
  erasing := []
  formats := []
  spdmAlgs := .replicate 3 false
  spdmVca := .replicate 3 []
  spdmChal := .replicate 3 []
  spdmMeas := .replicate 3 []
  spdmWaiting := .replicate 3 []

def Media.reset : Media where
  grown := .replicate 48 []
  grownPending := []
  labels := .replicate 48 ⟨false, 0, 0, 0, 0, []⟩
  holders := .replicate 2 255
  holderGen := 0
  moving := none
  offered := []

def Channel.reset : Channel where
  wedge := 0
  track := 0
  pes := 0
  servoMissed := false
  syncTick := 0
  synthZone := 0
  synthLocked := false
  ctle := 0
  servoLane := 1
  gain := 0
  freq := 0
  phase := 0
  lanes := .replicate 3 ⟨0, 0⟩
  acquiring := false
  streamWedge := 0
  streamT := 0
  streamFrac := 0
  wordRows := 0
  sumG := 0
  tails := .replicate 3 ⟨[], [], 0, 0⟩
  zs := []
  ys := []
  lastY := 0
  lastD := 0
  headT := 0
  syncs := 0
  duty := []
  vga := []
  writeFrom := 0
  freeze := 0
  freezeMask := 0
  longFreeze := false
  taFirings := 0
  dropFirings := 0
  taQuiet := 0
  dropQuiet := 0
  wu := 0
  locked := false
  lockAt := none
  readGate := false
  writeGate := none
  laser := 0
  writeFifo := 0
  events := []
  eventLost := false
  lanesInUse := 0
  frames := []
  onBus := none
  faultLow := false
  head := 0
  mode := 0
  heaterSent := 0
  biasSent := 0

def Decode.reset : Decode := ⟨[], 0, [], [], [], [], 0, [], [], 3, 3⟩

def Header.reset : Header :=
  ⟨0, 0, 0, 0, 0, 0, 0, 0, 0, 0, 0, 0, 0, 0, 0, 0, 0, 0, 0, 0, 0, 0, 0, 0, 0, 0⟩

def Player.reset : Player where
  header := Header.reset
  set := ⟨0, 0, 0, 0, 0, 0, 0, 0, 0, 0, 0, 0, 0, 0, 0, 0, 0⟩
  lanes := 0
  np := []
  entries := []
  skips := []
  freezes := []
  loadAddr := 0
  loadOrder := 0
  readyTick := 0
  preroll := false
  playing := false
  ended := false
  abortAsked := false
  pc := 0
  counters := .replicate 4 0
  stack := []
  bound := none
  nextEntry := 0
  curWedge := 0
  curT := 0
  curOffset := 0
  clause := .none
  clauseOp := 0
  clauseArg := 0
  clausePhrase := 0
  gates := []
  selector := 0
  frontEnd := 0
  outcome := none
  flags := 0
  visited := 0
  lateGates := 0
  waitTimeouts := 0
  lastClause := 0
  startTick := 0
  endTick := 0
  marks := []
  records := []

def Actuator.reset : Actuator where
  blockUntil := none
  playing := none
  lastSurface := 0
  lastZone := 0
  loadCount := 0
  clauses := .replicate 2 []
  phrases := .replicate 2 []
  banksHeld := 0
  seek := none
  seekRun := none
  seekWedge := 0

def Context.reset : Context :=
  ⟨.replicate 16 0, 0, 0, 0, 0, [], 0⟩

def Engine.reset (group slot : Nat) : Engine where
  ctx := Context.reset
  prog := []
  data := []
  coef := []
  run := none
  saved := []
  waiting := []
  delivered := []
  stopped := []
  checkpoint := none
  rejoin := 0
  agreed := 0
  injectNext := false
  injectHit := false
  injections := 0
  coefDue := []
  reruns := []
  rerunSets := []
  group := group
  slot := slot

def Group.reset : Group where
  latched := []
  agreed := []
  missedPos := 0
  missedInner := 0
  pairHold := none
  holdRerunDone := false
  retained := []
  awaited := []
  vote := 0
  snapPending := false
  posCount := 0
  sensed := []
  offset := 0

def Motion.reset : Motion where
  resendsDown := 0
  resendsUp := 0
  seqDown := 0
  seqUp := 0
  retract := .replicate 4 .none
  retractMs := .replicate 4 0
  vcmOpen := .replicate 4 false
  maHeld := .replicate 4 false
  vcm := .replicate 4 0
  ma := .replicate 4 0
  zcValid := 0
  zcMissing := 0
  spinTries := 0
  zcInterval := 0
  spinCmd := 0
  zcCycle := []
  rpm := 7200
  rpmTaken := false
  profiles := .replicate 2 []
  zcPhase := 3
  zcIndex := 0
  spinLimit := 0
  drives := .replicate 4 (0, 0, 0)
  forward := true
  notice := none
  heartbeatCount := 0
  spinWaitsPark := false
  spinWaitsStill := false

def Girth.reset : Girth where
  role := 2
  ownTick := none
  elected := false
  takeoverLeft := 0
  candidateWait := false
  baseHop := 0
  newTag := 0
  newTagCount := 0
  phaseTick := none
  phaseGroup := 0
  phaseRpm := 0
  rpmMismatch := false
  announcements := []
  nextAnnouncement := 0
  ownAnnounced := .replicate 4 []
  second := 0
  seekSent := 0
  dictSent := 0
  requestsSent := 0
  lastHealth := none
  healthBits := 0
  healthPending := false
  neighbours := []
  request := none
  nextTag := 0
  listening := false
  rxTick := 0
  rxCount := 0
  rxDrops := 0
  tx := []
  lineFree := 0
  lastSync := none
  drift := none

def Controller.reset : Controller where
  en := false
  rdy := false
  cfs := false
  shst := 0
  pp := false
  perst := true
  linkUp := false
  capTo := 0x78
  sqs := []
  cqs := []
  aers := []
  notices := []
  features := []
  hostId := 0
  shutdown := 0
  turn := 65535
  changedNs := []
  resNotes := []
  resNoteCount := 0

def HostIf.reset : HostIf where
  ctrls := .replicate 2 Controller.reset
  slots := []
  namespaces := []
  reservations := []
  resCopies := .replicate 2 (0, [])
  resWaiting := []
  fetchStopped := false
  psEntry := none
  psWaiting := false
  psPhase := 0
  lastOperational := 0
  wake := false
  lastPort := .b
  scarce := false
  sanitize := 0
  strict := false

def Layout.reset : Layout where
  seq := 0
  rowsTotal := 0
  maps := []
  bundleMaps := []
  remap := []
  allocated := []
  allocCleared := []
  dirtyGroups := []
  mirroredGroups := []
  touchedGroups := []
  journal := []
  journalSeq := 0
  pinned := []
  replayQueue := []
  resyncQueue := []
  lost := []
  lostGen := 0
  lostMerges := 0
  retiredOrder := []
  staleAll := 0
  jobs := []
  criticalDone := []
  critFront := []
  suspects := []
  reshape := none
  reshapeHold := false
  mirrorWaiting := []
  pageGens := []
  healthGen := 0
  staleFilled := []
  halfDone := []
  rebuiltOf := []
  savedJobs := []

def KeeperSlot.reset : KeeperSlot := ⟨0, 0, 0, [], [], [], [], [], 0, 0⟩

def Memory.reset : Memory where
  dram := []
  poison := []
  written := []
  errors := []
  filter := []
  substituted := []
  copying := []
  zeroing := none
  sram := []
  secSram := []
  cache := []
  keeper := .replicate 6 KeeperSlot.reset
  keeperChosen := none
  supersedeDue := false
  lines := []
  recency := []
  fills := []
  maint := []

def DmaCh.reset : DmaCh where
  phase := .idle
  chain := false
  desc := 0
  src := 0
  dst := 0
  next := 0
  count := 0
  ctrl := 0
  poison := false
  firstPoison := 0
  stop := false
  resends := 0
  lastCopy := []
  lastPoison := false

def Fabric.reset : Fabric where
  dma := .replicate 8 DmaCh.reset
  naks := .replicate 32 0
  deficit := .replicate 8 0
  region := 0
  last := .replicate 8 0
  turnLeft := .replicate 8 0
  tokens := .replicate 4 0
  tokenTick := 0
  reserve := 1000

def Collector.reset : Collector where
  buckets := []
  captures := .replicate 9 ⟨false, ⟨0, 0, 0, 0, 5, 0, 0⟩, 0, 0⟩
  ledger := []
  newestSeq := 0
  restored := false
  held := []
  changed := false
  mirroring := none
  norCopies := .replicate 2 []
  norNext := 0
  bandCopy := []
  readmitting := []
  fenced := []

/-- The machine right after reset. -/
def State.reset : State where
  objs := []
  power := Power.reset
  dict := DictSvc.reset
  start := Start.reset
  fw := Firmware.reset
  media := Media.reset
  chan := .replicate 4 Channel.reset
  dec := Decode.reset
  players := .replicate 8 Player.reset
  acts := .replicate 4 Actuator.reset
  engines := .ofFn fun e : Fin 16 => if e.val < 15 then Engine.reset (e.val / 3) (e.val % 3) else Engine.reset 5 3
  groups := .replicate 5 Group.reset
  traces := .replicate 4 ⟨[], 0, 0, 0, false⟩
  motion := Motion.reset
  girth := Girth.reset
  host := HostIf.reset
  layout := Layout.reset
  mem := Memory.reset
  fab := Fabric.reset
  coll := Collector.reset
  raised := []
  outs := []
  free := 0
  pending := []

end Sys2Proof.Machine
end

