-- ==== Sys2Proof/Machine/ObjTable.lean ====
section
/-!
DEFINITION. The dictionary's table of objects: one row per object family of the chapters' object tables (R82, R83 and the
object table of each chapter), with the ENABLE, STATE and FORCE of every unit (R78, R81), and the name of every object's
key. `acc` is coded as the DIRECTORY's ACCESS field (R84). A default that the tables give as — is 0 or empty here: the
objects of those rows are views of other state or take their value from the hardware before they can be read.
-/

namespace Sys2Proof.Machine

/-- Object types (R54). -/
inductive Typ where
  | bool | u8 | u16 | u32 | u64 | i16 | i32 | i64 | q32 | enum | bits32 | bits64 | str | blob | record
  deriving DecidableEq, Repr

/-- The range of a scalar that may be written (R56 check 7). -/
inductive Rng where
  | any
  /-- lo to hi, unsigned -/
  | between (lo hi : Nat)
  /-- lo to hi, two's complement -/
  | signed (lo hi : Int)
  /-- no bit outside the mask (R54) -/
  | mask (m : Nat)
  | maskNonzero (m : Nat)
  /-- 0, or lo to hi -/
  | zeroOr (lo hi : Nat)
  /-- lo to hi, or the value that stands for none -/
  | orAbsent (lo hi none : Nat)
  | aligned (n : Nat)
  /-- each of the four bytes at most n (R172) -/
  | bytesWithin (n : Nat)
  /-- a Q32 between lo and hi ten-thousandths (R54) -/
  | q32 (lo hi : Nat)
  deriving DecidableEq, Repr

/-- One row: the objects at indices `idx + i * step`, i < n, subindices `sub` to `sub + subN - 1`. -/
structure ObjRow where
  idx : Nat
  step : Nat
  n : Nat
  sub : Nat
  subN : Nat
  typ : Typ
  acc : Nat
  stored : Bool
  /-- exact length of a REC, greatest length of a STR -/
  len : Nat
  dflt : Val
  rng : Rng
  deriving DecidableEq, Repr

/-- Rows of the object tables, part 1. -/
def objRows1 : List ObjRow := [
  -- VFA_MV
  ⟨0x6000, 1, 1, 0x01, 1, .u16, 0x145, false, 0, .num 0, .any⟩,
  -- VFB_MV
  ⟨0x6000, 1, 1, 0x02, 1, .u16, 0x145, false, 0, .num 0, .any⟩,
  -- FEED_STATE
  ⟨0x6000, 1, 1, 0x03, 1, .bits32, 0x145, false, 0, .num 0, .any⟩,
  -- VM_MV
  ⟨0x6000, 1, 1, 0x04, 1, .u16, 0x145, false, 0, .num 0, .any⟩,
  -- INPUT_MA
  ⟨0x6000, 1, 1, 0x05, 1, .u16, 0x145, false, 0, .num 0, .any⟩,
  -- STRAPS
  ⟨0x6000, 1, 1, 0x06, 1, .u8, 0x145, false, 0, .num 0, .any⟩,
  -- SEEK_CURRENT_BUDGET
  ⟨0x6000, 1, 1, 0x07, 1, .u16, 0x1CF, true, 0, .num 4000, .between 1000 6000⟩,
  -- VCORE_MV
  ⟨0x6001, 1, 1, 0x01, 1, .u16, 0x145, false, 0, .num 0, .any⟩,
  -- RAIL_STATE
  ⟨0x6001, 1, 1, 0x02, 1, .bits32, 0x145, false, 0, .num 0, .any⟩,
  -- V3P3_ENABLE
  ⟨0x6001, 1, 1, 0x03, 1, .bits32, 0x14F, false, 0, .num 0, .mask 0xF⟩,
  -- HOLDUP_UF
  ⟨0x6002, 1, 1, 0x01, 1, .u32, 0x145, false, 0, .num 0, .any⟩,
  -- HOLDUP_LAST_MJ
  ⟨0x6002, 1, 1, 0x02, 1, .u32, 0x145, true, 0, .num 0, .any⟩,
  -- VM_MIN_MV
  ⟨0x6002, 1, 1, 0x03, 1, .u16, 0x145, true, 0, .num 0, .any⟩,
  -- TJ_C
  ⟨0x6003, 1, 1, 0x01, 1, .i16, 0x145, false, 0, .num 0, .any⟩,
  -- THROTTLE_C
  ⟨0x6003, 1, 1, 0x02, 1, .i16, 0x1CF, true, 0, .num 110, .signed 95 110⟩,
  -- THERMAL_STATE
  ⟨0x6003, 1, 1, 0x03, 1, .enum, 0x145, false, 0, .num 0, .any⟩,
  -- POWER_CAP
  ⟨0x6004, 1, 1, 0x01, 1, .enum, 0x1CF, true, 0, .num 0, .between 0 2⟩,
  -- VENDOR
  ⟨0x1000, 1, 1, 0x01, 1, .str, 0x145, false, 64, .bytes [79, 115, 109, 105, 122, 111, 110], .any⟩,
  -- PRODUCT
  ⟨0x1000, 1, 1, 0x02, 1, .str, 0x145, false, 64, .bytes [67, 97, 114, 108, 111, 102, 121, 32, 79, 90, 67, 45, 52, 56, 52, 56], .any⟩,
  -- STEPPING
  ⟨0x1000, 1, 1, 0x03, 1, .str, 0x145, false, 64, .bytes [66, 48], .any⟩,
  -- DEVICE_SERIAL
  ⟨0x1000, 1, 1, 0x04, 1, .str, 0x145, false, 16, .bytes Config.fuseSerial.toList, .any⟩,
  -- UNIQUE_ID
  ⟨0x1000, 1, 1, 0x05, 1, .u64, 0x145, false, 0, .num Config.fuseUniqueId.toNat, .any⟩,
  -- IANA_PEN
  ⟨0x1000, 1, 1, 0x06, 1, .u32, 0x145, false, 0, .num 58714, .any⟩,
  -- ACTUATORS
  ⟨0x1000, 1, 1, 0x07, 1, .u8, 0x145, false, 0, .num 4, .any⟩,
  -- SURFACES_MAX
  ⟨0x1000, 1, 1, 0x08, 1, .u8, 0x145, false, 0, .num 48, .any⟩,
  -- REIN_ENGINES
  ⟨0x1000, 1, 1, 0x09, 1, .u8, 0x145, false, 0, .num 16, .any⟩,
  -- SENTENCE_PLAYERS
  ⟨0x1000, 1, 1, 0x0A, 1, .u8, 0x145, false, 0, .num 8, .any⟩,
  -- HOST_PORTS
  ⟨0x1000, 1, 1, 0x0B, 1, .u8, 0x145, false, 0, .num 2, .any⟩,
  -- PROG_ENGINES
  ⟨0x1000, 1, 1, 0x0C, 1, .u8, 0x145, false, 0, .num 33, .any⟩,
  -- LBA_LIMIT
  ⟨0x1000, 1, 1, 0x0D, 1, .u64, 0x145, false, 0, .num 0x1000000000, .any⟩,
  -- EVENT_SOURCES
  ⟨0x1000, 1, 1, 0x0E, 1, .u16, 0x145, false, 0, .num 1152, .any⟩,
  -- GIRTH_MAX
  ⟨0x1000, 1, 1, 0x0F, 1, .u16, 0x145, false, 0, .num 1024, .any⟩,
  -- DICT_LEVEL
  ⟨0x1000, 1, 1, 0x10, 1, .u16, 0x145, false, 0, .num 0, .any⟩,
  -- DRIVE_MODEL
  ⟨0x1000, 1, 1, 0x11, 1, .str, 0x14D, true, 40, .bytes [], .any⟩,
  -- DRIVE_SERIAL
  ⟨0x1000, 1, 1, 0x12, 1, .str, 0x14D, true, 20, .bytes [], .any⟩,
  -- DIRECTORY
  ⟨0x1001, 1, 1, 0x01, 1, .blob, 0x145, false, 0, .bytes [], .any⟩,
  -- STORE
  ⟨0x1010, 1, 1, 0x01, 1, .bool, 0x28A, false, 0, .num 0, .any⟩,
  -- RESTORE_DEFAULTS
  ⟨0x1010, 1, 1, 0x02, 1, .bool, 0x3CF, false, 0, .num 0, .any⟩,
  -- STORE_STATE
  ⟨0x1010, 1, 1, 0x03, 1, .enum, 0x145, false, 0, .num 0, .any⟩,
  -- STORE_RESULT
  ⟨0x1010, 1, 1, 0x04, 1, .u8, 0x145, false, 0, .num 0x00, .any⟩]

/-- Rows of the object tables, part 2. -/
def objRows2 : List ObjRow := [
  -- STORE_COUNT
  ⟨0x1010, 1, 1, 0x05, 1, .u32, 0x145, false, 0, .num 0, .any⟩,
  -- REQUESTER
  ⟨0x1100, 1, 1, 0x01, 1, .enum, 0x145, false, 0, .num 0, .any⟩,
  -- ENABLE
  ⟨0x1110, 1, 2, 0x01, 1, .bool, 0x3CF, true, 0, .num 1, .any⟩,
  -- STATE
  ⟨0x1110, 1, 2, 0x02, 1, .enum, 0x145, false, 0, .num 2, .any⟩,
  -- LINK_SPEED
  ⟨0x1110, 1, 2, 0x03, 1, .enum, 0x145, false, 0, .num 0, .any⟩,
  -- LINK_WIDTH
  ⟨0x1110, 1, 2, 0x04, 1, .u8, 0x145, false, 0, .num 0, .any⟩,
  -- MBUS_TRANSPORT
  ⟨0x1120, 1, 1, 0x01, 1, .enum, 0x145, false, 0, .num 0, .any⟩,
  -- MBUS_STATIC_ADDR
  ⟨0x1120, 1, 1, 0x02, 1, .u8, 0x145, false, 0, .num 0, .any⟩,
  -- MBUS_DYNAMIC_ADDR
  ⟨0x1120, 1, 1, 0x03, 1, .u8, 0x145, false, 0, .num 0, .any⟩,
  -- BOLHOBA_MAX
  ⟨0x1120, 1, 1, 0x04, 1, .u16, 0x145, false, 0, .num 1024, .any⟩,
  -- FACTORY_ACTIVE
  ⟨0x1130, 1, 1, 0x01, 1, .bool, 0x145, false, 0, .num 0, .any⟩,
  -- MB_OBJECT
  ⟨0x1180, 1, 9, 0x01, 1, .u32, 0x003, false, 0, .num 0, .any⟩,
  -- MB_ADDR
  ⟨0x1180, 1, 9, 0x02, 1, .u64, 0x003, false, 0, .num 0, .any⟩,
  -- MB_OFFSET
  ⟨0x1180, 1, 9, 0x03, 1, .u32, 0x003, false, 0, .num 0, .any⟩,
  -- MB_LENGTH
  ⟨0x1180, 1, 9, 0x04, 1, .u32, 0x003, false, 0, .num 0, .any⟩,
  -- MB_CMD
  ⟨0x1180, 1, 9, 0x05, 1, .enum, 0x003, false, 0, .num 0, .between 0 3⟩,
  -- MB_STATUS
  ⟨0x1180, 1, 9, 0x06, 1, .u8, 0x001, false, 0, .num 0x00, .any⟩,
  -- MB_GEN
  ⟨0x1180, 1, 9, 0x07, 1, .u32, 0x001, false, 0, .num 0, .any⟩,
  -- START_MODE
  ⟨0x1400, 1, 1, 0x01, 1, .enum, 0x145, false, 0, .num 0, .any⟩,
  -- CURRENT_STEP
  ⟨0x1400, 1, 1, 0x02, 1, .u8, 0x145, false, 0, .num 0, .any⟩,
  -- ATTEMPT
  ⟨0x1400, 1, 1, 0x03, 1, .u8, 0x145, false, 0, .num 0, .any⟩,
  -- FAILED_STARTS
  ⟨0x1400, 1, 1, 0x04, 1, .u8, 0x145, false, 0, .num 0, .any⟩,
  -- DEGRADED
  ⟨0x1400, 1, 1, 0x05, 1, .bits32, 0x145, false, 0, .num 0, .any⟩,
  -- ELAPSED_MS
  ⟨0x1400, 1, 1, 0x06, 1, .u32, 0x145, false, 0, .num 0, .any⟩,
  -- POWER_ON_COUNT
  ⟨0x1400, 1, 1, 0x07, 1, .u32, 0x145, false, 0, .num 0, .any⟩,
  -- START_DEADLINE_S
  ⟨0x1400, 1, 1, 0x08, 1, .u8, 0x1CF, true, 0, .num 55, .between 40 55⟩,
  -- RESTART
  ⟨0x1400, 1, 1, 0x09, 1, .enum, 0x28A, false, 0, .num 0, .between 1 2⟩,
  -- ALT_FORCE
  ⟨0x1400, 1, 1, 0x0A, 1, .bits32, 0x00F, false, 0, .num 0, .mask 0xFFFFF⟩,
  -- LEDGER
  ⟨0x1401, 1, 1, 0x01, 1, .blob, 0x145, false, 0, .bytes [], .any⟩,
  -- LEDGER_NEWEST
  ⟨0x1401, 1, 1, 0x02, 1, .u64, 0x145, false, 0, .num 0, .any⟩,
  -- LIFECYCLE
  ⟨0x1200, 1, 1, 0x01, 1, .enum, 0x145, false, 0, .num 0, .any⟩,
  -- LIFECYCLE_NONCE
  ⟨0x1200, 1, 1, 0x02, 1, .u32, 0x044, false, 0, .num 0, .any⟩,
  -- LIFECYCLE_REQUEST
  ⟨0x1200, 1, 1, 0x03, 1, .record, 0x088, false, 8, .bytes (List.replicate 8 0), .any⟩,
  -- SLOT_STATE
  ⟨0x1210, 1, 2, 0x01, 1, .enum, 0x145, false, 0, .num 0, .any⟩,
  -- SLOT_VERSION
  ⟨0x1210, 1, 2, 0x02, 1, .str, 0x145, false, 8, .bytes [], .any⟩,
  -- SLOT_SECURITY_VERSION
  ⟨0x1210, 1, 2, 0x03, 1, .u32, 0x145, false, 0, .num 0, .any⟩,
  -- SLOT_DIGEST
  ⟨0x1210, 1, 2, 0x04, 1, .record, 0x145, false, 64, .bytes (List.replicate 64 0), .any⟩,
  -- ACTIVE_SLOT
  ⟨0x1212, 1, 1, 0x01, 1, .u8, 0x145, false, 0, .num 0, .any⟩,
  -- PENDING_SLOT
  ⟨0x1212, 1, 1, 0x02, 1, .u8, 0x145, false, 0, .num 0xFF, .any⟩,
  -- RUNNING_SLOT
  ⟨0x1212, 1, 1, 0x03, 1, .u8, 0x145, false, 0, .num 0, .any⟩]

/-- Rows of the object tables, part 3. -/
def objRows3 : List ObjRow := [
  -- REIN_SLOT
  ⟨0x1212, 1, 1, 0x04, 1, .u8, 0x145, false, 0, .num 0, .any⟩,
  -- ACTIVATION_STATE
  ⟨0x1212, 1, 1, 0x05, 1, .enum, 0x145, false, 0, .num 0, .any⟩,
  -- LAST_FREEZE_US
  ⟨0x1212, 1, 1, 0x06, 1, .u32, 0x145, false, 0, .num 0, .any⟩,
  -- RECOVERY_IMAGE
  ⟨0x1214, 1, 1, 0x01, 1, .blob, 0x088, false, 0, .bytes [], .any⟩,
  -- RECOVERY_SLOT
  ⟨0x1214, 1, 1, 0x02, 1, .u8, 0x0CC, false, 0, .num 1, .between 0 1⟩,
  -- BUNDLE_STAGE
  ⟨0x1220, 1, 1, 0x01, 1, .blob, 0x28A, false, 0, .bytes [], .any⟩,
  -- BUNDLE_PENDING_GEN
  ⟨0x1220, 1, 1, 0x02, 1, .u32, 0x145, false, 0, .num 0, .any⟩,
  -- OWNER_KEY
  ⟨0x1230, 1, 1, 0x01, 1, .blob, 0x1CD, false, 0, .bytes [], .any⟩,
  -- OWNER_KEY_STATE
  ⟨0x1230, 1, 1, 0x02, 1, .enum, 0x145, false, 0, .num 0, .any⟩,
  -- DEVICE_PUBKEY
  ⟨0x1240, 1, 1, 0x01, 1, .blob, 0x145, false, 0, .bytes [], .any⟩,
  -- CERT_CHAIN_0
  ⟨0x1241, 1, 1, 0x01, 1, .blob, 0x14D, false, 0, .bytes [], .any⟩,
  -- CERT_CHAIN_1
  ⟨0x1241, 1, 1, 0x02, 1, .blob, 0x1CD, false, 0, .bytes [], .any⟩,
  -- MIN_SECURITY_VERSION
  ⟨0x1250, 1, 1, 0x01, 1, .u32, 0x145, false, 0, .num 0, .any⟩,
  -- NS_KEY_GEN
  ⟨0x1260, 1, 1, 0x01, 16, .u32, 0x145, false, 0, .num 0, .any⟩,
  -- SCAN_LOCK
  ⟨0x1270, 1, 1, 0x01, 1, .bool, 0x145, false, 0, .num 0, .any⟩,
  -- SURFACE_MASK
  ⟨0x4001, 0x100, 4, 0x01, 1, .bits32, 0x14D, true, 0, .num 0x00000FFF, .mask 0xFFF⟩,
  -- ZONE_TABLE
  ⟨0x4002, 0x100, 4, 0x01, 12, .blob, 0x145, false, 0, .bytes [], .any⟩,
  -- GROWN_LIST
  ⟨0x4003, 0x100, 4, 0x01, 12, .blob, 0x145, false, 0, .bytes [], .any⟩,
  -- GROWN_COUNT
  ⟨0x4004, 0x100, 4, 0x01, 12, .u16, 0x145, false, 0, .num 0, .any⟩,
  -- PREAMP_STATE
  ⟨0x4000, 0x100, 4, 0x04, 1, .enum, 0x145, false, 0, .num 0, .any⟩,
  -- PREAMP_ID
  ⟨0x4000, 0x100, 4, 0x05, 1, .u32, 0x145, false, 0, .num 0, .any⟩,
  -- PREAMP_FORMAT
  ⟨0x4000, 0x100, 4, 0x06, 1, .u8, 0x145, false, 0, .num 0xFF, .any⟩,
  -- PREAMP_FAULT_STATUS
  ⟨0x4000, 0x100, 4, 0x07, 1, .u32, 0x145, false, 0, .num 0, .any⟩,
  -- PREAMP_FAULTS
  ⟨0x4000, 0x100, 4, 0x08, 1, .u32, 0x145, false, 0, .num 0, .any⟩,
  -- READER_MASK
  ⟨0x4005, 0x100, 4, 0x01, 12, .bits32, 0x14F, true, 0, .num 0x00000007, .maskNonzero 7⟩,
  -- CLIP_COUNT
  ⟨0x4010, 0x100, 4, 0x03, 1, .u32, 0x145, false, 0, .num 0, .any⟩,
  -- CLIP_COUNT
  ⟨0x4011, 0x100, 4, 0x03, 1, .u32, 0x145, false, 0, .num 0, .any⟩,
  -- CLIP_COUNT
  ⟨0x4012, 0x100, 4, 0x03, 1, .u32, 0x145, false, 0, .num 0, .any⟩,
  -- STUCK_COUNT
  ⟨0x4010, 0x100, 4, 0x04, 1, .u32, 0x145, false, 0, .num 0, .any⟩,
  -- STUCK_COUNT
  ⟨0x4011, 0x100, 4, 0x04, 1, .u32, 0x145, false, 0, .num 0, .any⟩,
  -- STUCK_COUNT
  ⟨0x4012, 0x100, 4, 0x04, 1, .u32, 0x145, false, 0, .num 0, .any⟩,
  -- OFFSET_RAIL_COUNT
  ⟨0x4010, 0x100, 4, 0x05, 1, .u32, 0x145, false, 0, .num 0, .any⟩,
  -- OFFSET_RAIL_COUNT
  ⟨0x4011, 0x100, 4, 0x05, 1, .u32, 0x145, false, 0, .num 0, .any⟩,
  -- OFFSET_RAIL_COUNT
  ⟨0x4012, 0x100, 4, 0x05, 1, .u32, 0x145, false, 0, .num 0, .any⟩,
  -- GAIN_MU_ACQ
  ⟨0x4020, 0x100, 4, 0x01, 1, .u8, 0x14F, true, 0, .num 4, .between 0 15⟩,
  -- GAIN_MU_TRK
  ⟨0x4020, 0x100, 4, 0x02, 1, .u8, 0x14F, true, 0, .num 9, .between 0 15⟩,
  -- OFFSET_MU_ACQ
  ⟨0x4020, 0x100, 4, 0x03, 1, .u8, 0x14F, true, 0, .num 3, .between 0 15⟩,
  -- OFFSET_MU_TRK
  ⟨0x4020, 0x100, 4, 0x04, 1, .u8, 0x14F, true, 0, .num 10, .between 0 15⟩,
  -- ASYM_MU
  ⟨0x4020, 0x100, 4, 0x05, 1, .u8, 0x14F, true, 0, .num 12, .between 0 15⟩,
  -- TIMING_KP_ACQ
  ⟨0x4020, 0x100, 4, 0x06, 1, .u8, 0x14F, true, 0, .num 3, .between 0 15⟩]

/-- Rows of the object tables, part 4. -/
def objRows4 : List ObjRow := [
  -- TIMING_KI_ACQ
  ⟨0x4020, 0x100, 4, 0x07, 1, .u8, 0x14F, true, 0, .num 8, .between 0 15⟩,
  -- TIMING_KP_TRK
  ⟨0x4020, 0x100, 4, 0x08, 1, .u8, 0x14F, true, 0, .num 6, .between 0 15⟩,
  -- TIMING_KI_TRK
  ⟨0x4020, 0x100, 4, 0x09, 1, .u8, 0x14F, true, 0, .num 13, .between 0 15⟩,
  -- ACQ_T
  ⟨0x4020, 0x100, 4, 0x0A, 1, .u16, 0x14F, true, 0, .num 64, .between 16 88⟩,
  -- TA_THRESH
  ⟨0x4021, 0x100, 4, 0x01, 1, .u16, 0x14F, true, 0, .num 300, .between 64 504⟩,
  -- DROP_THRESH
  ⟨0x4021, 0x100, 4, 0x02, 1, .u8, 0x14F, true, 0, .num 6, .between 0 31⟩,
  -- HANGOVER_T
  ⟨0x4021, 0x100, 4, 0x03, 1, .u16, 0x14F, true, 0, .num 32, .between 0 1024⟩,
  -- TA_EVENT_LIMIT
  ⟨0x4021, 0x100, 4, 0x04, 1, .u16, 0x14F, true, 0, .num 8, .between 1 1024⟩,
  -- TA_COUNT
  ⟨0x4021, 0x100, 4, 0x05, 1, .u32, 0x145, false, 0, .num 0, .any⟩,
  -- DROP_COUNT
  ⟨0x4021, 0x100, 4, 0x06, 1, .u32, 0x145, false, 0, .num 0, .any⟩,
  -- LONG_FREEZE_COUNT
  ⟨0x4021, 0x100, 4, 0x07, 1, .u32, 0x145, false, 0, .num 0, .any⟩,
  -- SYNC_WIN
  ⟨0x4030, 0x100, 4, 0x01, 1, .u8, 0x14F, true, 0, .num 16, .between 0 63⟩,
  -- SYNC_TOL
  ⟨0x4030, 0x100, 4, 0x02, 1, .u8, 0x14F, true, 0, .num 2, .between 0 4⟩,
  -- SM1_MISS_COUNT
  ⟨0x4030, 0x100, 4, 0x03, 1, .u32, 0x145, false, 0, .num 0, .any⟩,
  -- SM2_MISS_COUNT
  ⟨0x4030, 0x100, 4, 0x04, 1, .u32, 0x145, false, 0, .num 0, .any⟩,
  -- TIMED_COUNT
  ⟨0x4030, 0x100, 4, 0x05, 1, .u32, 0x145, false, 0, .num 0, .any⟩,
  -- SM1_CORRECTED_COUNT
  ⟨0x4030, 0x100, 4, 0x06, 1, .u32, 0x145, false, 0, .num 0, .any⟩,
  -- EQ_PRESETS
  ⟨0x4040, 0x100, 4, 0x01, 1, .blob, 0x14F, true, 0, .bytes [], .any⟩,
  -- LASER_LEAD_T
  ⟨0x4050, 0x100, 4, 0x01, 1, .u16, 0x14F, true, 0, .num 256, .between 64 4096⟩,
  -- WPOWER_SET
  ⟨0x4050, 0x100, 4, 0x02, 1, .record, 0x14F, true, 8, .bytes (List.replicate 8 0), .any⟩,
  -- WRITE_UNSAFE_COUNT
  ⟨0x4050, 0x100, 4, 0x03, 1, .u32, 0x145, false, 0, .num 0, .any⟩,
  -- INCOMPLETE_COUNT
  ⟨0x4050, 0x100, 4, 0x04, 1, .u32, 0x145, false, 0, .num 0, .any⟩,
  -- SYNTH_UNLOCK_COUNT
  ⟨0x4050, 0x100, 4, 0x05, 1, .u32, 0x145, false, 0, .num 0, .any⟩,
  -- PRECOMP
  ⟨0x4051, 0x100, 4, 0x01, 12, .u32, 0x14F, true, 0, .num 0, .bytesWithin 31⟩,
  -- RW_OFFSET_T
  ⟨0x4052, 0x100, 4, 0x01, 12, .i16, 0x14F, true, 0, .num 0, .any⟩,
  -- PREAMP_ACCESS
  ⟨0x4060, 0x100, 4, 0x01, 1, .record, 0x00F, false, 8, .bytes (List.replicate 8 0), .any⟩,
  -- FRAME_RETRIES
  ⟨0x4060, 0x100, 4, 0x02, 1, .u32, 0x145, false, 0, .num 0, .any⟩,
  -- DET_CORE_RATE
  ⟨0x4800, 1, 1, 0x01, 1, .u32, 0x145, false, 0, .num 212500, .any⟩,
  -- LDPC_CORE_RATE
  ⟨0x4800, 1, 1, 0x02, 1, .u32, 0x145, false, 0, .num 141667, .any⟩,
  -- RESERVE_LIMIT_PCT
  ⟨0x4800, 1, 1, 0x03, 1, .u8, 0x14F, true, 0, .num 85, .between 60 90⟩,
  -- ONLINE_GLOBAL
  ⟨0x4800, 1, 1, 0x04, 1, .u8, 0x145, false, 0, .num 3, .any⟩,
  -- ONLINE_LOCAL
  ⟨0x4800, 1, 1, 0x05, 1, .u8, 0x145, false, 0, .num 4, .any⟩,
  -- SLOT_DEADLINE_US
  ⟨0x4800, 1, 1, 0x06, 1, .u16, 0x14F, true, 0, .num 120, .between 60 240⟩,
  -- RESERVE2_PM
  ⟨0x4800, 1, 1, 0x07, 1, .u16, 0x145, false, 0, .num 0, .any⟩,
  -- RATE_PM
  ⟨0x4800, 1, 1, 0x08, 1, .u16, 0x145, false, 0, .num 1000, .any⟩,
  -- MS_OFFSET
  ⟨0x4800, 1, 1, 0x0A, 1, .u8, 0x14F, true, 0, .num 1, .between 0 3⟩,
  -- EXT_SCALE
  ⟨0x4800, 1, 1, 0x0B, 1, .u8, 0x14F, true, 0, .num 12, .between 8 16⟩,
  -- L1_GLOBAL
  ⟨0x4801, 1, 1, 0x01, 1, .u8, 0x34F, true, 0, .num 40, .between 8 40⟩,
  -- L1_LOCAL
  ⟨0x4801, 1, 1, 0x02, 1, .u8, 0x34F, true, 0, .num 8, .between 4 16⟩,
  -- SLIP_PROBE_GLOBAL
  ⟨0x4801, 1, 1, 0x03, 1, .u8, 0x34F, true, 0, .num 3, .between 1 8⟩]

/-- Rows of the object tables, part 5. -/
def objRows5 : List ObjRow := [
  -- L2_READS
  ⟨0x4801, 1, 1, 0x04, 1, .u8, 0x34F, true, 0, .num 4, .between 0 4⟩,
  -- L2_PRESET_OFFSET
  ⟨0x4801, 1, 1, 0x05, 1, .record, 0x34F, true, 4, .bytes [0, 1, 255, 2], .any⟩,
  -- L3_READS
  ⟨0x4801, 1, 1, 0x06, 1, .u8, 0x34F, true, 0, .num 4, .zeroOr 2 4⟩,
  -- L4_OFFSETS
  ⟨0x4801, 1, 1, 0x07, 1, .record, 0x34F, true, 4, .bytes [4, 252, 8, 248], .any⟩,
  -- LADDER_ORDER
  ⟨0x4801, 1, 1, 0x08, 1, .enum, 0x34F, true, 0, .num 0, .between 0 1⟩,
  -- HOLD_SLOTS
  ⟨0x4801, 1, 1, 0x09, 1, .u8, 0x14F, true, 0, .num 16, .between 8 64⟩,
  -- RECOVERED
  ⟨0x4802, 1, 1, 0x01, 6, .u64, 0x145, false, 0, .num 0, .any⟩,
  -- UNRECOVERED
  ⟨0x4802, 1, 1, 0x07, 1, .u64, 0x145, false, 0, .num 0, .any⟩,
  -- CRC_FAIL_COUNT
  ⟨0x4802, 1, 1, 0x08, 1, .u64, 0x145, false, 0, .num 0, .any⟩,
  -- SLOT_OVERRUN_COUNT
  ⟨0x4802, 1, 1, 0x09, 1, .u32, 0x145, false, 0, .num 0, .any⟩,
  -- SAMPLES_LOST_COUNT
  ⟨0x4802, 1, 1, 0x0A, 1, .u32, 0x145, false, 0, .num 0, .any⟩,
  -- EXTENDED_COUNT
  ⟨0x4802, 1, 1, 0x0B, 1, .u64, 0x145, false, 0, .num 0, .any⟩,
  -- RING_BASE
  ⟨0x4808, 1, 4, 0x01, 1, .u64, 0x003, false, 0, .num 0, .aligned 64⟩,
  -- RING_ENTRIES
  ⟨0x4808, 1, 4, 0x02, 1, .u16, 0x003, false, 0, .num 0, .zeroOr 16 1024⟩,
  -- RING_TAIL
  ⟨0x4808, 1, 4, 0x03, 1, .u16, 0x003, false, 0, .num 0, .any⟩,
  -- RING_HEAD
  ⟨0x4808, 1, 4, 0x04, 1, .u16, 0x001, false, 0, .num 0, .any⟩,
  -- RING_DONE
  ⟨0x4808, 1, 4, 0x05, 1, .u16, 0x001, false, 0, .num 0, .any⟩,
  -- DET_SECTORS
  ⟨0x4810, 1, 8, 0x03, 1, .u64, 0x145, false, 0, .num 0, .any⟩,
  -- DET_CHECK_FAILS
  ⟨0x4810, 1, 8, 0x04, 1, .u32, 0x145, false, 0, .num 0, .any⟩,
  -- LDPC_SECTORS
  ⟨0x4820, 1, 12, 0x03, 1, .u64, 0x145, false, 0, .num 0, .any⟩,
  -- LDPC_CHECK_FAILS
  ⟨0x4820, 1, 12, 0x04, 1, .u32, 0x145, false, 0, .num 0, .any⟩,
  -- NP_SETS
  ⟨0x4840, 1, 4, 0x01, 1, .blob, 0x14F, true, 0, .bytes (List.replicate 2048 [0, 0, 0, 0, 0, 0, 16, 0]).flatten, .any⟩,
  -- TIMING_MODE
  ⟨0x4C00, 1, 8, 0x01, 1, .enum, 0x14F, true, 0, .num 2, .between 0 2⟩,
  -- PLAYER_STATE
  ⟨0x4C00, 1, 8, 0x02, 1, .enum, 0x145, false, 0, .num 2, .any⟩,
  -- LEAD_T
  ⟨0x4C00, 1, 8, 0x03, 1, .u16, 0x14F, true, 0, .num 4096, .between 1024 16384⟩,
  -- LOAD_ADDR
  ⟨0x4C00, 1, 8, 0x04, 1, .u64, 0x00A, false, 0, .num 0, .aligned 64⟩,
  -- LOAD_STATE
  ⟨0x4C00, 1, 8, 0x05, 1, .enum, 0x145, false, 0, .num 0, .any⟩,
  -- LOAD_REJECT
  ⟨0x4C00, 1, 8, 0x06, 1, .u8, 0x145, false, 0, .num 0, .any⟩,
  -- ABORT
  ⟨0x4C00, 1, 8, 0x07, 1, .bool, 0x00A, false, 0, .num 0, .any⟩,
  -- SEQ_NOW
  ⟨0x4C00, 1, 8, 0x08, 1, .u32, 0x145, false, 0, .num 0, .any⟩,
  -- REV_NOW
  ⟨0x4C00, 1, 8, 0x09, 1, .u32, 0x145, false, 0, .num 0, .any⟩,
  -- BANK_CURRENT
  ⟨0x4C00, 1, 8, 0x0A, 1, .u8, 0x145, false, 0, .num 0, .any⟩,
  -- SENTENCES
  ⟨0x4C00, 1, 8, 0x0B, 1, .u64, 0x145, false, 0, .num 0, .any⟩,
  -- UNDERRUNS
  ⟨0x4C00, 1, 8, 0x0C, 1, .u32, 0x145, false, 0, .num 0, .any⟩,
  -- SETTLE_MISSES
  ⟨0x4C00, 1, 8, 0x0D, 1, .u32, 0x145, false, 0, .num 0, .any⟩,
  -- LATE_GATES
  ⟨0x4C00, 1, 8, 0x0E, 1, .u32, 0x145, false, 0, .num 0, .any⟩,
  -- WAIT_TIMEOUTS
  ⟨0x4C00, 1, 8, 0x0F, 1, .u32, 0x145, false, 0, .num 0, .any⟩,
  -- BAD_CLAUSES
  ⟨0x4C00, 1, 8, 0x10, 1, .u32, 0x145, false, 0, .num 0, .any⟩,
  -- FAULTS
  ⟨0x4C00, 1, 8, 0x11, 1, .u32, 0x145, false, 0, .num 0, .any⟩,
  -- WINDOW_ENDS
  ⟨0x4C00, 1, 8, 0x12, 1, .u32, 0x145, false, 0, .num 0, .any⟩]

/-- Rows of the object tables, part 6. -/
def objRows6 : List ObjRow := [
  -- GROUP_STATE
  ⟨0x5000, 0x100, 5, 0x01, 1, .enum, 0x145, false, 0, .num 0, .any⟩,
  -- LATCH_INNER_NS
  ⟨0x5000, 0x100, 5, 0x02, 1, .u16, 0x14F, true, 0, .num 1500, .between 800 3000⟩,
  -- LATCH_POS_NS
  ⟨0x5000, 0x100, 5, 0x03, 1, .u16, 0x14F, true, 0, .num 6000, .between 3000 10000⟩,
  -- LATCH_OUTER_NS
  ⟨0x5000, 0x100, 5, 0x04, 1, .u16, 0x14F, true, 0, .num 5000, .between 4500 7000⟩,
  -- WU_LIMIT
  ⟨0x5000, 0x100, 5, 0x05, 1, .u16, 0x14F, true, 0, .num 6554, .between 1311 13107⟩,
  -- TRACK_OFFSET
  ⟨0x5000, 0x100, 5, 0x06, 1, .i32, 0x10F, false, 0, .num 0, .signed (-5243) 5243⟩,
  -- COEF_WRITE
  ⟨0x5000, 0x100, 5, 0x07, 1, .record, 0x00A, false, 12, .bytes (List.replicate 12 0), .any⟩,
  -- SNAPSHOT
  ⟨0x5000, 0x100, 5, 0x08, 1, .blob, 0x105, false, 0, .bytes [], .any⟩,
  -- SNAP_REQUEST
  ⟨0x5000, 0x100, 5, 0x09, 1, .bool, 0x00A, false, 0, .num 0, .any⟩,
  -- MISMATCHES
  ⟨0x5000, 0x100, 5, 0x0A, 1, .u32, 0x145, false, 0, .num 0, .any⟩,
  -- TAKEOVERS
  ⟨0x5000, 0x100, 5, 0x0B, 1, .u32, 0x145, false, 0, .num 0, .any⟩,
  -- PAIR_HOLDS
  ⟨0x5000, 0x100, 5, 0x0C, 1, .u32, 0x145, false, 0, .num 0, .any⟩,
  -- MISSED_LATCHES
  ⟨0x5000, 0x100, 5, 0x0D, 1, .u32, 0x145, false, 0, .num 0, .any⟩,
  -- PROGRAM_STOPS
  ⟨0x5000, 0x100, 5, 0x0E, 1, .u32, 0x145, false, 0, .num 0, .any⟩,
  -- SAT_COUNT
  ⟨0x5000, 0x100, 5, 0x0F, 1, .u32, 0x145, false, 0, .num 0, .any⟩,
  -- INJECT
  ⟨0x5000, 0x100, 5, 0x10, 1, .u8, 0x008, false, 0, .num 0, .between 0 2⟩,
  -- STATE
  ⟨0x5010, 0x100, 5, 0x02, 1, .enum, 0x145, false, 0, .num 2, .any⟩,
  -- ROLE
  ⟨0x5010, 0x100, 5, 0x03, 1, .enum, 0x145, false, 0, .num 4, .any⟩,
  -- ENGINE_NO
  ⟨0x5010, 0x100, 5, 0x04, 1, .u8, 0x145, false, 0, .num 0, .any⟩,
  -- ENGINE_EVENTS
  ⟨0x5010, 0x100, 5, 0x05, 1, .u32, 0x145, false, 0, .num 0, .any⟩,
  -- ECC_CORRECTED
  ⟨0x5010, 0x100, 5, 0x06, 1, .u32, 0x145, false, 0, .num 0, .any⟩,
  -- SERVING
  ⟨0x5500, 1, 1, 0x07, 1, .u8, 0x145, false, 0, .num 0xFF, .any⟩,
  -- TICK
  ⟨0xA000, 1, 1, 0x01, 1, .u64, 0x145, false, 0, .num 0, .any⟩,
  -- TICK_HZ
  ⟨0xA000, 1, 1, 0x02, 1, .u32, 0x145, false, 0, .num 25000000, .any⟩,
  -- TRACE_NODES
  ⟨0xA010, 1, 4, 0x01, 1, .bits32, 0x10F, false, 0, .num 0x00000010, .mask 0x3FFFF⟩,
  -- TRACE_RATE
  ⟨0xA010, 1, 4, 0x02, 1, .u16, 0x10F, false, 0, .num 0x0001, .any⟩,
  -- TRACE_TRIGGER
  ⟨0xA010, 1, 4, 0x03, 1, .record, 0x10F, false, 12, .bytes (List.replicate 12 0), .any⟩,
  -- TRACE_PRE
  ⟨0xA010, 1, 4, 0x04, 1, .u16, 0x10F, false, 0, .num 0, .any⟩,
  -- TRACE_ARM
  ⟨0xA010, 1, 4, 0x05, 1, .bool, 0x00A, false, 0, .num 0, .any⟩,
  -- TRACE_STATE
  ⟨0xA010, 1, 4, 0x06, 1, .enum, 0x145, false, 0, .num 0, .any⟩,
  -- TRACE_DATA
  ⟨0xA010, 1, 4, 0x07, 1, .blob, 0x105, false, 0, .bytes [], .any⟩,
  -- TRIGGER_TICK
  ⟨0xA010, 1, 4, 0x08, 1, .u64, 0x105, false, 0, .num 0, .any⟩,
  -- TRACE_TAP0
  ⟨0xA010, 1, 4, 0x09, 1, .u16, 0x10F, false, 0, .num 0, .any⟩,
  -- TRACE_TAP1
  ⟨0xA010, 1, 4, 0x0A, 1, .u16, 0x10F, false, 0, .num 0, .any⟩,
  -- TRACE_FORCE
  ⟨0xA010, 1, 4, 0x0B, 1, .bool, 0x00A, false, 0, .num 0, .any⟩,
  -- FORMAT_RPM
  ⟨0x6010, 1, 1, 0x01, 1, .u16, 0x14D, true, 0, .num 7200, .between 5400 7200⟩,
  -- TARGET_RPM
  ⟨0x6010, 1, 1, 0x02, 1, .u16, 0x145, false, 0, .num 0, .any⟩,
  -- SPEED
  ⟨0x6010, 1, 1, 0x03, 1, .u32, 0x145, false, 0, .num 0, .any⟩,
  -- SPIN_MODE
  ⟨0x6010, 1, 1, 0x04, 1, .enum, 0x145, false, 0, .num 0, .any⟩,
  -- SPIN_LIMIT_MA
  ⟨0x6010, 1, 1, 0x05, 1, .u16, 0x1CF, true, 0, .num 3000, .between 1000 3000⟩]

/-- Rows of the object tables, part 7. -/
def objRows7 : List ObjRow := [
  -- POLE_PAIRS
  ⟨0x6010, 1, 1, 0x06, 1, .u8, 0x14D, true, 0, .num 4, .between 2 8⟩,
  -- SPIN_I_MA
  ⟨0x6010, 1, 1, 0x07, 1, .u16, 0x145, false, 0, .num 0, .any⟩,
  -- SPINUPS
  ⟨0x6010, 1, 1, 0x08, 1, .u32, 0x145, false, 0, .num 0, .any⟩,
  -- SPINUP_LAST_MS
  ⟨0x6010, 1, 1, 0x09, 1, .u32, 0x145, false, 0, .num 0, .any⟩,
  -- SPIN_FAULTS
  ⟨0x6010, 1, 1, 0x0A, 1, .u32, 0x145, false, 0, .num 0, .any⟩,
  -- AT_SPEED
  ⟨0x6010, 1, 1, 0x0B, 1, .bool, 0x145, false, 0, .num 0, .any⟩,
  -- PHASE_LOCKED
  ⟨0x6010, 1, 1, 0x0C, 1, .bool, 0x145, false, 0, .num 0, .any⟩,
  -- LINK_STATE
  ⟨0x6012, 1, 1, 0x01, 1, .enum, 0x145, false, 0, .num 0, .any⟩,
  -- LINK_RESENDS
  ⟨0x6012, 1, 1, 0x02, 1, .u32, 0x145, false, 0, .num 0, .any⟩,
  -- HEARTBEAT_ARMED
  ⟨0x6012, 1, 1, 0x03, 1, .bool, 0x145, false, 0, .num 0, .any⟩,
  -- HEARTBEAT_LOSSES
  ⟨0x6012, 1, 1, 0x04, 1, .u32, 0x145, false, 0, .num 0, .any⟩,
  -- LAST_RESET_CAUSE
  ⟨0x6012, 1, 1, 0x05, 1, .enum, 0x145, false, 0, .num 0, .any⟩,
  -- MD_VERSION
  ⟨0x6012, 1, 1, 0x06, 1, .u32, 0x145, false, 0, .num 0, .any⟩,
  -- MD_TEMP_C
  ⟨0x6012, 1, 1, 0x07, 1, .i16, 0x145, false, 0, .num 0, .any⟩,
  -- VCM_LIMIT_MA
  ⟨0x6020, 1, 4, 0x01, 1, .u16, 0x14F, true, 0, .num 2000, .between 500 2000⟩,
  -- MA_LIMIT_MV
  ⟨0x6020, 1, 4, 0x02, 1, .u16, 0x14F, true, 0, .num 32000, .between 0 32000⟩,
  -- HEATER_MAX
  ⟨0x6020, 1, 4, 0x03, 1, .u8, 0x14F, true, 0, .num 255, .any⟩,
  -- VCM_R_MOHM
  ⟨0x6020, 1, 4, 0x04, 1, .u16, 0x145, false, 0, .num 0, .any⟩,
  -- DRIVE_STATE
  ⟨0x6020, 1, 4, 0x05, 1, .enum, 0x145, false, 0, .num 0, .any⟩,
  -- VCM_CLAMPS
  ⟨0x6020, 1, 4, 0x06, 1, .u32, 0x145, false, 0, .num 0, .any⟩,
  -- RETRACTS
  ⟨0x6020, 1, 4, 0x07, 1, .u32, 0x145, false, 0, .num 0, .any⟩,
  -- RETRACT_LAST_MS
  ⟨0x6020, 1, 4, 0x08, 1, .u16, 0x145, false, 0, .num 0, .any⟩,
  -- DRIVE_FAULT
  ⟨0x6020, 1, 4, 0x09, 1, .bits32, 0x145, false, 0, .num 0, .any⟩,
  -- RETRACT_BEMF_MV
  ⟨0x6030, 1, 1, 0x01, 1, .u16, 0x14F, true, 0, .num 180, .between 60 400⟩,
  -- RETRACT_MA
  ⟨0x6030, 1, 1, 0x02, 1, .u16, 0x14F, true, 0, .num 350, .between 100 600⟩,
  -- PARK_HOLD_MA
  ⟨0x6030, 1, 1, 0x03, 1, .u16, 0x14F, true, 0, .num 150, .between 50 400⟩,
  -- LOAD_BEMF_MV
  ⟨0x6030, 1, 1, 0x04, 1, .u16, 0x14F, true, 0, .num 120, .between 40 300⟩,
  -- ROLE
  ⟨0x6800, 1, 1, 0x01, 1, .enum, 0x1FF, true, 0, .num 0, .between 0 3⟩,
  -- GIRTH_STATE
  ⟨0x6800, 1, 1, 0x02, 1, .enum, 0x155, false, 0, .num 0, .any⟩,
  -- HOP
  ⟨0x6800, 1, 1, 0x03, 1, .u16, 0x155, false, 0, .num 0xFFFF, .any⟩,
  -- MASTER_TAG
  ⟨0x6800, 1, 1, 0x04, 1, .u16, 0x155, false, 0, .num 0, .any⟩,
  -- RING_SIZE
  ⟨0x6800, 1, 1, 0x05, 1, .u16, 0x155, false, 0, .num 0, .any⟩,
  -- HOP_LATENCY_NS
  ⟨0x6800, 1, 1, 0x06, 1, .u16, 0x145, false, 0, .num 0, .any⟩,
  -- EPOCH_OFFSET
  ⟨0x6800, 1, 1, 0x07, 1, .i64, 0x145, false, 0, .num 0, .any⟩,
  -- TAKEOVERS
  ⟨0x6800, 1, 1, 0x08, 1, .u32, 0x145, false, 0, .num 0, .any⟩,
  -- FOREIGN_SYNCS
  ⟨0x6800, 1, 1, 0x09, 1, .u32, 0x145, false, 0, .num 0, .any⟩,
  -- CRC_ERRORS
  ⟨0x6800, 1, 1, 0x0A, 1, .u32, 0x145, false, 0, .num 0, .any⟩,
  -- POISONED
  ⟨0x6800, 1, 1, 0x0B, 1, .u32, 0x145, false, 0, .num 0, .any⟩,
  -- TX_DROPS
  ⟨0x6800, 1, 1, 0x0C, 1, .u32, 0x145, false, 0, .num 0, .any⟩,
  -- PHASE_GROUP
  ⟨0x6810, 1, 1, 0x01, 1, .u8, 0x1FF, true, 0, .num 4, .between 1 8⟩]

/-- Rows of the object tables, part 8. -/
def objRows8 : List ObjRow := [
  -- PHASE_SLOT
  ⟨0x6810, 1, 1, 0x02, 1, .u8, 0x1FF, true, 0, .num 0xFF, .orAbsent 0 7 0xFF⟩,
  -- PHASE_OFFSET
  ⟨0x6810, 1, 1, 0x03, 1, .i32, 0x1FF, true, 0, .num 0, .any⟩,
  -- ASSIGNED_PHASE
  ⟨0x6810, 1, 1, 0x04, 1, .u32, 0x155, false, 0, .num 0, .any⟩,
  -- FF_ENABLE
  ⟨0x6820, 1, 1, 0x01, 1, .bool, 0x1CF, true, 0, .num 1, .any⟩,
  -- ANNOUNCE_MIN_MA
  ⟨0x6820, 1, 1, 0x02, 1, .u16, 0x1CF, true, 0, .num 500, .between 0 2000⟩,
  -- ANNOUNCE_RATE
  ⟨0x6820, 1, 1, 0x03, 1, .u16, 0x1CF, true, 0, .num 600, .between 0 600⟩,
  -- TRIM_MU
  ⟨0x6820, 1, 1, 0x04, 1, .u8, 0x1CF, true, 0, .num 6, .between 0 15⟩,
  -- FF_GAIN_ADDR
  ⟨0x6820, 1, 1, 0x05, 1, .u16, 0x14F, true, 0, .num 0x3DF, .between 0 0x3FF⟩,
  -- SEEKS_HEARD
  ⟨0x6820, 1, 1, 0x06, 1, .u32, 0x145, false, 0, .num 0, .any⟩,
  -- SEEKS_IGNORED
  ⟨0x6820, 1, 1, 0x07, 1, .u32, 0x145, false, 0, .num 0, .any⟩,
  -- ANNOUNCE
  ⟨0x6820, 1, 1, 0x08, 1, .record, 0x00A, false, 12, .bytes (List.replicate 12 0), .any⟩,
  -- FF_GAIN
  ⟨0x6821, 1, 4, 0x01, 1, .q32, 0x1FF, true, 0, .num 0x40000000, .q32 2500 9999⟩,
  -- NEIGHBOURS
  ⟨0x6830, 1, 1, 0x01, 1, .blob, 0x145, false, 0, .bytes [], .any⟩,
  -- DICT_REQUEST
  ⟨0x6840, 1, 1, 0x01, 1, .record, 0x08A, false, 16, .bytes (List.replicate 16 0), .any⟩,
  -- DICT_RESPONSE
  ⟨0x6840, 1, 1, 0x02, 1, .record, 0x045, false, 16, .bytes (List.replicate 16 0), .any⟩,
  -- SLOTS_IN_USE
  ⟨0x2000, 1, 1, 0x01, 1, .u16, 0x145, false, 0, .num 0, .any⟩,
  -- ADMISSION_SEQ
  ⟨0x2000, 1, 1, 0x02, 1, .u64, 0x145, false, 0, .num 0, .any⟩,
  -- PORT_SLOT_MAX
  ⟨0x2000, 1, 1, 0x03, 1, .u16, 0x1CF, true, 0, .num 768, .between 504 1008⟩,
  -- SLOT_WAITS
  ⟨0x2000, 1, 1, 0x04, 1, .u64, 0x145, false, 0, .num 0, .any⟩,
  -- IO_QUEUES
  ⟨0x2001, 1, 2, 0x01, 1, .u8, 0x145, false, 0, .num 0, .any⟩,
  -- COMMANDS
  ⟨0x2001, 1, 2, 0x02, 1, .u64, 0x145, false, 0, .num 0, .any⟩,
  -- IO_SLOTS_HELD
  ⟨0x2001, 1, 2, 0x03, 1, .u16, 0x145, false, 0, .num 0, .any⟩,
  -- RESETS
  ⟨0x2001, 1, 2, 0x04, 1, .u32, 0x145, false, 0, .num 0, .any⟩,
  -- LOCK_IN_USE
  ⟨0x2008, 1, 1, 0x01, 1, .u16, 0x145, false, 0, .num 0, .any⟩,
  -- LOCK_STALLS
  ⟨0x2008, 1, 1, 0x02, 1, .u64, 0x145, false, 0, .num 0, .any⟩,
  -- LOCK_STALL_MAX_US
  ⟨0x2008, 1, 1, 0x03, 1, .u32, 0x145, false, 0, .num 0, .any⟩,
  -- CACHE_DIRTY_KIB
  ⟨0x2010, 1, 1, 0x01, 1, .u32, 0x145, false, 0, .num 0, .any⟩,
  -- CACHE_POLICY
  ⟨0x2010, 1, 1, 0x02, 1, .enum, 0x3CF, true, 0, .num 0, .between 0 1⟩,
  -- FLUSHES
  ⟨0x2010, 1, 1, 0x03, 1, .u64, 0x145, false, 0, .num 0, .any⟩,
  -- FUA_WRITES
  ⟨0x2010, 1, 1, 0x04, 1, .u64, 0x145, false, 0, .num 0, .any⟩,
  -- POWER_STATE
  ⟨0x2100, 1, 1, 0x01, 1, .enum, 0x145, false, 0, .num 0, .any⟩,
  -- EFFECTIVE_STATE
  ⟨0x2100, 1, 1, 0x02, 1, .enum, 0x145, false, 0, .num 0, .any⟩,
  -- ENTRIES_CUT
  ⟨0x2100, 1, 1, 0x03, 1, .u32, 0x145, false, 0, .num 0, .any⟩,
  -- MEDIA_WAKES
  ⟨0x2100, 1, 1, 0x04, 1, .u32, 0x145, false, 0, .num 0, .any⟩,
  -- PS3_IDLE_MS
  ⟨0x2100, 1, 1, 0x05, 1, .u32, 0x1CF, true, 0, .num 10000, .between 1000 600000⟩,
  -- PS_MAX_POWER_CW
  ⟨0x2100, 1, 1, 0x10, 1, .u16, 0x14D, true, 0, .num 2470, .any⟩,
  -- PS_MAX_POWER_CW
  ⟨0x2100, 1, 1, 0x11, 1, .u16, 0x14D, true, 0, .num 1750, .any⟩,
  -- PS_MAX_POWER_CW
  ⟨0x2100, 1, 1, 0x12, 1, .u16, 0x14D, true, 0, .num 1310, .any⟩,
  -- PS_MAX_POWER_CW
  ⟨0x2100, 1, 1, 0x13, 1, .u16, 0x14D, true, 0, .num 630, .any⟩,
  -- PS_MAX_POWER_CW
  ⟨0x2100, 1, 1, 0x14, 1, .u16, 0x14D, true, 0, .num 120, .any⟩]

/-- Rows of the object tables, part 9. -/
def objRows9 : List ObjRow := [
  -- NEW_NS_MAP
  ⟨0x3000, 1, 1, 0x01, 1, .u16, 0x34F, true, 0, .num 0xFFFF, .any⟩,
  -- SPARE_SURFACES
  ⟨0x3000, 1, 1, 0x02, 1, .u8, 0x14F, true, 0, .num 2, .between 0 4⟩,
  -- ROWS_TOTAL
  ⟨0x3000, 1, 1, 0x03, 1, .u32, 0x145, false, 0, .num 0, .any⟩,
  -- STRIPES_USED
  ⟨0x3000, 1, 1, 0x04, 1, .u32, 0x145, false, 0, .num 0, .any⟩,
  -- DESCRIPTOR
  ⟨0x3000, 1, 1, 0x05, 1, .blob, 0x145, false, 0, .bytes [], .any⟩,
  -- NS_LAYOUT
  ⟨0x3001, 1, 1, 0x01, 16, .u16, 0x145, false, 0, .num 0xFFFF, .any⟩,
  -- STRIPE_GEN
  ⟨0x3010, 1, 1, 0x01, 1, .u32, 0x145, false, 0, .num 0, .any⟩,
  -- JOURNAL_OPEN
  ⟨0x3010, 1, 1, 0x02, 1, .u32, 0x145, false, 0, .num 0, .any⟩,
  -- JOURNAL_FREE
  ⟨0x3010, 1, 1, 0x03, 1, .u32, 0x145, false, 0, .num 317952, .any⟩,
  -- JOURNAL_WAITS
  ⟨0x3010, 1, 1, 0x04, 1, .u64, 0x145, false, 0, .num 0, .any⟩,
  -- UPDATES
  ⟨0x3010, 1, 1, 0x05, 1, .blob, 0x145, false, 0, .bytes [], .any⟩,
  -- WI_DIRTY_GROUPS
  ⟨0x3020, 1, 1, 0x01, 1, .u32, 0x145, false, 0, .num 0, .any⟩,
  -- WI_MIRROR_S
  ⟨0x3020, 1, 1, 0x02, 1, .u16, 0x1CF, true, 0, .num 10, .between 2 60⟩,
  -- WI_LAST_TICK
  ⟨0x3020, 1, 1, 0x03, 1, .u64, 0x145, false, 0, .num 0, .any⟩,
  -- WI_BITMAP
  ⟨0x3020, 1, 1, 0x04, 1, .blob, 0x145, false, 0, .bytes [], .any⟩,
  -- REMAP_ENTRIES
  ⟨0x3030, 1, 1, 0x01, 1, .u32, 0x145, false, 0, .num 0, .any⟩,
  -- REMAP_CROWDED
  ⟨0x3030, 1, 1, 0x02, 1, .u32, 0x145, false, 0, .num 0, .any⟩,
  -- REMAP_TABLE
  ⟨0x3030, 1, 1, 0x03, 1, .blob, 0x145, false, 0, .bytes [], .any⟩,
  -- REPLAY_STATE
  ⟨0x3040, 1, 1, 0x01, 1, .enum, 0x145, false, 0, .num 0, .any⟩,
  -- REPLAY_PENDING
  ⟨0x3040, 1, 1, 0x02, 1, .u32, 0x145, false, 0, .num 0, .any⟩,
  -- RESYNC_PENDING
  ⟨0x3040, 1, 1, 0x03, 1, .u32, 0x145, false, 0, .num 0, .any⟩,
  -- REPLAY_SOURCE
  ⟨0x3040, 1, 1, 0x04, 1, .enum, 0x145, false, 0, .num 0, .any⟩,
  -- ALLOC_BITMAP
  ⟨0x3050, 1, 1, 0x01, 1, .blob, 0x145, false, 0, .bytes [], .any⟩,
  -- HOLDERS
  ⟨0x3050, 1, 1, 0x02, 1, .record, 0x145, false, 2, .bytes (List.replicate 2 0), .any⟩,
  -- REBUILD_STATE
  ⟨0x3100, 1, 1, 0x01, 1, .enum, 0x145, false, 0, .num 0, .any⟩,
  -- REBUILD_SHARE_PCT
  ⟨0x3100, 1, 1, 0x02, 1, .u8, 0x3CF, true, 0, .num 20, .between 5 90⟩,
  -- CRITICAL_SHARE_PCT
  ⟨0x3100, 1, 1, 0x03, 1, .u8, 0x3CF, true, 0, .num 60, .between 60 90⟩,
  -- DEGRADED_STRIPES
  ⟨0x3100, 1, 1, 0x04, 1, .u32, 0x145, false, 0, .num 0, .any⟩,
  -- CRITICAL_STRIPES
  ⟨0x3100, 1, 1, 0x05, 1, .u32, 0x145, false, 0, .num 0, .any⟩,
  -- CHUNKS_TO_REBUILD
  ⟨0x3100, 1, 1, 0x06, 1, .u64, 0x145, false, 0, .num 0, .any⟩,
  -- CHUNKS_REBUILT
  ⟨0x3100, 1, 1, 0x07, 1, .u64, 0x145, false, 0, .num 0, .any⟩,
  -- SUBST_CROWDED
  ⟨0x3100, 1, 1, 0x08, 1, .u32, 0x145, false, 0, .num 0, .any⟩,
  -- SURFACE_STATE
  ⟨0x3110, 1, 1, 0x01, 48, .enum, 0x145, false, 0, .num 0, .any⟩,
  -- RETIRE_SURFACE
  ⟨0x3110, 1, 1, 0x31, 1, .u8, 0x28A, false, 0, .num 0, .between 0 47⟩,
  -- PATROL_ENABLE
  ⟨0x3200, 1, 1, 0x01, 1, .bool, 0x3CF, true, 0, .num 1, .any⟩,
  -- PATROL_DAYS
  ⟨0x3200, 1, 1, 0x02, 1, .u16, 0x3CF, true, 0, .num 28, .between 7 365⟩,
  -- PATROL_PASS
  ⟨0x3200, 1, 1, 0x03, 1, .u32, 0x145, false, 0, .num 0, .any⟩,
  -- PATROL_NEXT
  ⟨0x3200, 1, 1, 0x04, 1, .u32, 0x145, false, 0, .num 0, .any⟩,
  -- PATROL_REPAIRS
  ⟨0x3200, 1, 1, 0x05, 1, .u64, 0x145, false, 0, .num 0, .any⟩,
  -- SUSPECT_LIST
  ⟨0x3200, 1, 1, 0x06, 1, .blob, 0x145, false, 0, .bytes [], .any⟩]

/-- Rows of the object tables, part 10. -/
def objRows10 : List ObjRow := [
  -- RESHAPE_REQUEST
  ⟨0x3300, 1, 1, 0x01, 1, .record, 0x28A, false, 4, .bytes (List.replicate 4 0), .any⟩,
  -- RESHAPE_STATE
  ⟨0x3300, 1, 1, 0x02, 1, .enum, 0x145, false, 0, .num 0, .any⟩,
  -- RESHAPE_SHARE_PCT
  ⟨0x3300, 1, 1, 0x03, 1, .u8, 0x3CF, true, 0, .num 10, .between 5 50⟩,
  -- LOST_ENTRIES
  ⟨0x3320, 1, 1, 0x01, 1, .u32, 0x145, false, 0, .num 0, .any⟩,
  -- LOST_LIST
  ⟨0x3320, 1, 1, 0x02, 1, .blob, 0x145, false, 0, .bytes [], .any⟩,
  -- LOST_MERGES
  ⟨0x3320, 1, 1, 0x03, 1, .u32, 0x145, false, 0, .num 0, .any⟩,
  -- DRAM_RATE_MTS
  ⟨0x9000, 1, 1, 0x01, 1, .u16, 0x145, false, 0, .num 0, .any⟩,
  -- CE_COUNT
  ⟨0x9000, 1, 1, 0x02, 1, .u64, 0x145, false, 0, .num 0, .any⟩,
  -- UE_COUNT
  ⟨0x9000, 1, 1, 0x03, 1, .u32, 0x145, false, 0, .num 0, .any⟩,
  -- POISON_READS
  ⟨0x9000, 1, 1, 0x04, 1, .u32, 0x145, false, 0, .num 0, .any⟩,
  -- LAST_ERROR
  ⟨0x9000, 1, 1, 0x05, 1, .record, 0x145, false, 16, .bytes (List.replicate 16 0), .any⟩,
  -- RETIRE_THRESHOLD
  ⟨0x9000, 1, 1, 0x06, 1, .u8, 0x14F, true, 0, .num 16, .between 4 64⟩,
  -- PAGES_RETIRED
  ⟨0x9000, 1, 1, 0x07, 1, .u32, 0x145, false, 0, .num 0, .any⟩,
  -- RETIRED_PAGES
  ⟨0x9000, 1, 1, 0x08, 1, .blob, 0x145, true, 0, .bytes [], .any⟩,
  -- SPARES_FREE
  ⟨0x9000, 1, 1, 0x09, 1, .u16, 0x145, false, 0, .num 4096, .any⟩,
  -- ZERO_RANGE
  ⟨0x9000, 1, 1, 0x0A, 1, .record, 0x00A, false, 16, .bytes (List.replicate 16 0), .any⟩,
  -- UNWRITTEN_PAGES
  ⟨0x9000, 1, 1, 0x0B, 1, .u32, 0x145, false, 0, .num 0, .any⟩,
  -- KEEPER_STATE
  ⟨0x9000, 1, 1, 0x10, 1, .enum, 0x145, false, 0, .num 0, .any⟩,
  -- KEEPER_DIRECTORY
  ⟨0x9000, 1, 1, 0x11, 1, .blob, 0x145, false, 0, .bytes [], .any⟩,
  -- LAST_DUMP_MS
  ⟨0x9000, 1, 1, 0x12, 1, .u32, 0x145, false, 0, .num 0, .any⟩,
  -- LAST_REPLAY_SEQ
  ⟨0x9000, 1, 1, 0x13, 1, .u64, 0x145, false, 0, .num 0, .any⟩,
  -- KEEPER_BAD_BLOCKS
  ⟨0x9000, 1, 1, 0x14, 1, .u16, 0x145, false, 0, .num 0, .any⟩,
  -- HITS
  ⟨0x9100, 1, 1, 0x01, 1, .u64, 0x145, false, 0, .num 0, .any⟩,
  -- MISSES
  ⟨0x9100, 1, 1, 0x02, 1, .u64, 0x145, false, 0, .num 0, .any⟩,
  -- WRITEBACKS
  ⟨0x9100, 1, 1, 0x03, 1, .u64, 0x145, false, 0, .num 0, .any⟩,
  -- LOCKED_LINES
  ⟨0x9100, 1, 1, 0x04, 1, .u32, 0x145, false, 0, .num 0, .any⟩,
  -- DATA_CE
  ⟨0x9100, 1, 1, 0x05, 1, .u32, 0x145, false, 0, .num 0, .any⟩,
  -- DATA_UE
  ⟨0x9100, 1, 1, 0x06, 1, .u32, 0x145, false, 0, .num 0, .any⟩,
  -- TAG_PARITY
  ⟨0x9100, 1, 1, 0x07, 1, .u32, 0x145, false, 0, .num 0, .any⟩,
  -- WAYS_RETIRED
  ⟨0x9100, 1, 1, 0x08, 1, .bits32, 0x145, false, 0, .num 0, .any⟩,
  -- MAINT_OP
  ⟨0x9110, 1, 9, 0x01, 1, .enum, 0x003, false, 0, .num 0, .between 0 8⟩,
  -- MAINT_BASE
  ⟨0x9110, 1, 9, 0x02, 1, .u64, 0x003, false, 0, .num 0, .any⟩,
  -- MAINT_LENGTH
  ⟨0x9110, 1, 9, 0x03, 1, .u32, 0x003, false, 0, .num 0, .any⟩,
  -- MAINT_STATUS
  ⟨0x9110, 1, 9, 0x04, 1, .enum, 0x001, false, 0, .num 0, .any⟩,
  -- MAINT_FIRST
  ⟨0x9110, 1, 9, 0x05, 1, .u64, 0x001, false, 0, .num 0, .any⟩,
  -- SRC
  ⟨0x9200, 1, 8, 0x03, 1, .u64, 0x00F, false, 0, .num 0, .any⟩,
  -- DST
  ⟨0x9200, 1, 8, 0x04, 1, .u64, 0x00F, false, 0, .num 0, .any⟩,
  -- COUNT
  ⟨0x9200, 1, 8, 0x05, 1, .u32, 0x00F, false, 0, .num 0, .any⟩,
  -- CTRL
  ⟨0x9200, 1, 8, 0x06, 1, .bits32, 0x00F, false, 0, .num 0, .mask 0x3FF7⟩,
  -- CHAN_STATUS
  ⟨0x9200, 1, 8, 0x07, 1, .u32, 0x145, false, 0, .num 0, .any⟩]

/-- Rows of the object tables, part 11. -/
def objRows11 : List ObjRow := [
  -- DONE_COUNT
  ⟨0x9200, 1, 8, 0x08, 1, .u32, 0x145, false, 0, .num 0, .any⟩,
  -- CHAIN_ADDR
  ⟨0x9200, 1, 8, 0x09, 1, .u64, 0x00F, false, 0, .num 0, .aligned 64⟩,
  -- TRANSFERS
  ⟨0x9200, 1, 8, 0x0A, 1, .u64, 0x145, false, 0, .num 0, .any⟩,
  -- BYTES
  ⟨0x9200, 1, 8, 0x0B, 1, .u64, 0x145, false, 0, .num 0, .any⟩,
  -- POISON_ADDR
  ⟨0x9200, 1, 8, 0x0C, 1, .u64, 0x145, false, 0, .num 0, .any⟩,
  -- NOTIFY_PENDING
  ⟨0x9200, 1, 8, 0x0D, 1, .bits32, 0x00F, false, 0, .num 0, .mask 0x1FF⟩,
  -- RESERVE_MBS
  ⟨0x9300, 1, 1, 0x01, 1, .u16, 0x14F, true, 0, .num 1000, .between 500 2000⟩,
  -- LANES_FENCED
  ⟨0x9300, 1, 1, 0x02, 1, .bits32, 0x145, false, 0, .num 0, .any⟩,
  -- RESENDS
  ⟨0x9300, 1, 1, 0x03, 1, .u64, 0x145, false, 0, .num 0, .any⟩,
  -- BLOCKS_FAILED
  ⟨0x9300, 1, 1, 0x04, 1, .u32, 0x145, false, 0, .num 0, .any⟩,
  -- GRANTS
  ⟨0x9300, 1, 1, 0x05, 1, .u64, 0x145, false, 0, .num 0, .any⟩,
  -- RESERVED_GRANTS
  ⟨0x9300, 1, 1, 0x06, 1, .u64, 0x145, false, 0, .num 0, .any⟩,
  -- WEIGHT
  ⟨0x9301, 1, 1, 0x01, 8, .u8, 0x14F, true, 0, .num 1, .between 1 4⟩,
  -- COLLECTOR_STATE
  ⟨0x7000, 1, 1, 0x01, 1, .enum, 0x155, false, 0, .num 0, .any⟩,
  -- SAFE_CAUSE
  ⟨0x7000, 1, 1, 0x02, 1, .u16, 0x155, false, 0, .num 0xFFFF, .any⟩,
  -- SAFE_TICK
  ⟨0x7000, 1, 1, 0x03, 1, .u64, 0x145, false, 0, .num 0, .any⟩,
  -- SAFE_RESTART_S
  ⟨0x7000, 1, 1, 0x04, 1, .u16, 0x1CF, true, 0, .num 10, .between 0 3600⟩,
  -- SAFE_ENTRIES
  ⟨0x7000, 1, 1, 0x05, 1, .u8, 0x145, false, 0, .num 0, .any⟩,
  -- CORE_WDT_MS
  ⟨0x7000, 1, 1, 0x06, 1, .u16, 0x14F, true, 0, .num 100, .between 10 1000⟩,
  -- EVENTS_TOTAL
  ⟨0x7000, 1, 1, 0x07, 1, .u64, 0x145, false, 0, .num 0, .any⟩,
  -- TRIPS
  ⟨0x7000, 1, 1, 0x08, 1, .u32, 0x145, false, 0, .num 0, .any⟩,
  -- BUCKETS
  ⟨0x7001, 1, 1, 0x01, 1, .blob, 0x145, false, 0, .bytes [], .any⟩,
  -- RETIRED_UNITS
  ⟨0x7002, 1, 1, 0x01, 1, .blob, 0x145, true, 0, .bytes [], .any⟩,
  -- MACRO_MAP
  ⟨0x7003, 1, 1, 0x01, 1, .blob, 0x145, false, 0, .bytes [], .any⟩,
  -- FIRST_ERROR
  ⟨0x7010, 1, 9, 0x01, 1, .record, 0x145, false, 32, .bytes (List.replicate 32 0), .any⟩,
  -- CAPTURE_CLEAR
  ⟨0x7010, 1, 9, 0x02, 1, .bool, 0x28A, false, 0, .num 0, .any⟩,
  -- Source entries
  ⟨0x7100, 1, 5, 0x00, 256, .record, 0x14F, true, 16, .bytes (List.replicate 16 0), .any⟩,
  -- LEDGER
  ⟨0x7800, 1, 1, 0x01, 1, .blob, 0x145, false, 0, .bytes [], .any⟩,
  -- NEWEST_SEQ
  ⟨0x7800, 1, 1, 0x02, 1, .u64, 0x145, false, 0, .num 0, .any⟩,
  -- CLEAR_UPTO
  ⟨0x7800, 1, 1, 0x03, 1, .u64, 0x28A, false, 0, .num 0, .any⟩,
  -- CLEAR_ALL
  ⟨0x7800, 1, 1, 0x04, 1, .bool, 0x2AA, false, 0, .num 0, .any⟩,
  -- RECORDS
  ⟨0x7800, 1, 1, 0x05, 1, .u16, 0x155, false, 0, .num 0, .any⟩,
  -- DROPS_SEV0–3
  ⟨0x7800, 1, 1, 0x06, 4, .u32, 0x155, false, 0, .num 0, .any⟩,
  -- MIRROR_SEQ
  ⟨0x7800, 1, 1, 0x0A, 1, .u64, 0x145, false, 0, .num 0, .any⟩,
  -- NEWEST_SEQ_LO
  ⟨0x7800, 1, 1, 0x0B, 1, .u32, 0x155, false, 0, .num 0, .any⟩,
  -- SLOT_SELECT
  ⟨0x7810, 1, 1, 0x01, 1, .u16, 0x3FF, false, 0, .num 0, .between 0 4095⟩,
  -- WORD
  ⟨0x7810, 1, 1, 0x02, 16, .u32, 0x155, false, 0, .num 0, .any⟩,
  -- UNRETIRE
  ⟨0xF000, 1, 1, 0x01, 1, .u16, 0x008, false, 0, .num 0, .any⟩,
  -- STATE
  ⟨0x5011, 0x100, 5, 0x02, 1, .enum, 0x145, false, 0, .num 2, .any⟩,
  -- STATE
  ⟨0x5012, 0x100, 5, 0x02, 1, .enum, 0x145, false, 0, .num 2, .any⟩]

/-- Rows of the object tables, part 12. -/
def objRows12 : List ObjRow := [
  -- STATE
  ⟨0x5500, 1, 1, 0x02, 1, .enum, 0x145, false, 0, .num 2, .any⟩,
  -- ROLE
  ⟨0x5011, 0x100, 5, 0x03, 1, .enum, 0x145, false, 0, .num 4, .any⟩,
  -- ROLE
  ⟨0x5012, 0x100, 5, 0x03, 1, .enum, 0x145, false, 0, .num 4, .any⟩,
  -- ROLE
  ⟨0x5500, 1, 1, 0x03, 1, .enum, 0x145, false, 0, .num 4, .any⟩,
  -- ENGINE_NO
  ⟨0x5011, 0x100, 5, 0x04, 1, .u8, 0x145, false, 0, .num 0, .any⟩,
  -- ENGINE_NO
  ⟨0x5012, 0x100, 5, 0x04, 1, .u8, 0x145, false, 0, .num 0, .any⟩,
  -- ENGINE_NO
  ⟨0x5500, 1, 1, 0x04, 1, .u8, 0x145, false, 0, .num 0, .any⟩,
  -- ENGINE_EVENTS
  ⟨0x5011, 0x100, 5, 0x05, 1, .u32, 0x145, false, 0, .num 0, .any⟩,
  -- ENGINE_EVENTS
  ⟨0x5012, 0x100, 5, 0x05, 1, .u32, 0x145, false, 0, .num 0, .any⟩,
  -- ENGINE_EVENTS
  ⟨0x5500, 1, 1, 0x05, 1, .u32, 0x145, false, 0, .num 0, .any⟩,
  -- ECC_CORRECTED
  ⟨0x5011, 0x100, 5, 0x06, 1, .u32, 0x145, false, 0, .num 0, .any⟩,
  -- ECC_CORRECTED
  ⟨0x5012, 0x100, 5, 0x06, 1, .u32, 0x145, false, 0, .num 0, .any⟩,
  -- ECC_CORRECTED
  ⟨0x5500, 1, 1, 0x06, 1, .u32, 0x145, false, 0, .num 0, .any⟩,
  -- ACTUATOR_ENABLE
  ⟨0x4000, 0x100, 4, 0x01, 1, .bool, 0x3CF, true, 0, .num 1, .any⟩,
  -- ACTUATOR_STATE
  ⟨0x4000, 0x100, 4, 0x02, 1, .enum, 0x145, false, 0, .num 2, .any⟩,
  -- ACTUATOR_FORCE
  ⟨0x4000, 0x100, 4, 0x03, 1, .bool, 0x3CF, false, 0, .num 0, .any⟩,
  -- LANE_ENABLE
  ⟨0x4010, 0x100, 4, 0x01, 1, .bool, 0x3CF, true, 0, .num 1, .any⟩,
  -- LANE_STATE
  ⟨0x4010, 0x100, 4, 0x02, 1, .enum, 0x145, false, 0, .num 2, .any⟩,
  -- LANE_ENABLE
  ⟨0x4011, 0x100, 4, 0x01, 1, .bool, 0x3CF, true, 0, .num 1, .any⟩,
  -- LANE_STATE
  ⟨0x4011, 0x100, 4, 0x02, 1, .enum, 0x145, false, 0, .num 2, .any⟩,
  -- LANE_ENABLE
  ⟨0x4012, 0x100, 4, 0x01, 1, .bool, 0x3CF, true, 0, .num 1, .any⟩,
  -- LANE_STATE
  ⟨0x4012, 0x100, 4, 0x02, 1, .enum, 0x145, false, 0, .num 2, .any⟩,
  -- DETECTOR_ENABLE
  ⟨0x4810, 1, 8, 0x01, 1, .bool, 0x3CF, true, 0, .num 1, .any⟩,
  -- DETECTOR_STATE
  ⟨0x4810, 1, 8, 0x02, 1, .enum, 0x145, false, 0, .num 2, .any⟩,
  -- LDPC_ENABLE
  ⟨0x4820, 1, 12, 0x01, 1, .bool, 0x3CF, true, 0, .num 1, .any⟩,
  -- LDPC_STATE
  ⟨0x4820, 1, 12, 0x02, 1, .enum, 0x145, false, 0, .num 2, .any⟩,
  -- DMA_ENABLE
  ⟨0x9200, 1, 8, 0x01, 1, .bool, 0x3CF, true, 0, .num 1, .any⟩,
  -- DMA_STATE
  ⟨0x9200, 1, 8, 0x02, 1, .enum, 0x145, false, 0, .num 2, .any⟩,
  -- GIRTH_INPUT_ENABLE
  ⟨0x6801, 1, 1, 0x01, 1, .bool, 0x3CF, true, 0, .num 1, .any⟩,
  -- GIRTH_INPUT_STATE
  ⟨0x6801, 1, 1, 0x02, 1, .enum, 0x145, false, 0, .num 2, .any⟩]

/-- The table of objects. -/
def objTable : List ObjRow :=
  objRows1 ++ objRows2 ++ objRows3 ++ objRows4 ++ objRows5 ++ objRows6 ++ objRows7 ++ objRows8 ++ objRows9 ++ objRows10 ++ objRows11 ++ objRows12

/-- Key of the object 0xIIII.SS (R53). -/
def key (idx sub : Nat) : Key := idx * 256 + sub

/-- Index and subindex of a key (R53). -/
def keyIdx (k : Key) : Nat := k / 256
def keySub (k : Key) : Nat := k % 256

/-- Whether a row has the index, and which of its units it names. -/
def ObjRow.hasIdx (r : ObjRow) (idx : Nat) : Bool :=
  decide (r.idx ≤ idx) && decide ((idx - r.idx) % r.step = 0) && decide ((idx - r.idx) / r.step < r.n)

def ObjRow.hasKey (r : ObjRow) (k : Key) : Bool :=
  r.hasIdx (keyIdx k) && decide (r.sub ≤ keySub k) && decide (keySub k < r.sub + r.subN) &&
    -- the source table ends with id 1,151 (R466)
    !(decide (keyIdx k = 0x7104) && decide (128 ≤ keySub k))

/-- The row of an object, none when the subindex is not assigned (R56 check 2). -/
def findRow (k : Key) : Option ObjRow := objTable.find? (fun r => r.hasKey k)

/-- Whether an index is assigned (R56 check 1). -/
def idxAssigned (idx : Nat) : Bool := objTable.any (fun r => r.hasIdx idx)

/-! ### Keys by name: the unit number is the first argument, an offset within the subindices the second -/

namespace Obj

/-- VFA_MV -/
def vfaMv : Key := 0x600001
/-- VFB_MV -/
def vfbMv : Key := 0x600002
/-- FEED_STATE -/
def feedState : Key := 0x600003
/-- VM_MV -/
def vmMv : Key := 0x600004
/-- INPUT_MA -/
def inputMa : Key := 0x600005
/-- STRAPS -/
def straps : Key := 0x600006
/-- SEEK_CURRENT_BUDGET -/
def seekCurrentBudget : Key := 0x600007
/-- VCORE_MV -/
def vcoreMv : Key := 0x600101
/-- RAIL_STATE -/
def railState : Key := 0x600102
/-- V3P3_ENABLE -/
def v3p3Enable : Key := 0x600103
/-- HOLDUP_UF -/
def holdupUf : Key := 0x600201
/-- HOLDUP_LAST_MJ -/
def holdupLastMj : Key := 0x600202
/-- VM_MIN_MV -/
def vmMinMv : Key := 0x600203
/-- TJ_C -/
def tjC : Key := 0x600301
/-- THROTTLE_C -/
def throttleC : Key := 0x600302
/-- THERMAL_STATE -/
def thermalState : Key := 0x600303
/-- POWER_CAP -/
def powerCap : Key := 0x600401
/-- VENDOR -/
def vendor : Key := 0x100001
/-- PRODUCT -/
def product : Key := 0x100002
/-- STEPPING -/
def stepping : Key := 0x100003
/-- DEVICE_SERIAL -/
def deviceSerial : Key := 0x100004
/-- UNIQUE_ID -/
def uniqueId : Key := 0x100005
/-- IANA_PEN -/
def ianaPen : Key := 0x100006
/-- ACTUATORS -/
def actuators : Key := 0x100007
/-- SURFACES_MAX -/
def surfacesMax : Key := 0x100008
/-- REIN_ENGINES -/
def reinEngines : Key := 0x100009
/-- SENTENCE_PLAYERS -/
def sentencePlayers : Key := 0x10000A
/-- HOST_PORTS -/
def hostPorts : Key := 0x10000B
/-- PROG_ENGINES -/
def progEngines : Key := 0x10000C
/-- LBA_LIMIT -/
def lbaLimit : Key := 0x10000D
/-- EVENT_SOURCES -/
def eventSources : Key := 0x10000E
/-- GIRTH_MAX -/
def girthMax : Key := 0x10000F
/-- DICT_LEVEL -/
def dictLevel : Key := 0x100010
/-- DRIVE_MODEL -/
def driveModel : Key := 0x100011
/-- DRIVE_SERIAL -/
def driveSerial : Key := 0x100012
/-- DIRECTORY -/
def directory : Key := 0x100101
/-- STORE -/
def objStore : Key := 0x101001
/-- RESTORE_DEFAULTS -/
def restoreDefaults : Key := 0x101002
/-- STORE_STATE -/
def storeState : Key := 0x101003
/-- STORE_RESULT -/
def storeResult : Key := 0x101004
/-- STORE_COUNT -/
def storeCount : Key := 0x101005
/-- REQUESTER -/
def requester : Key := 0x110001
/-- ENABLE -/
def portEnable (u : Nat) : Key := 0x111001 + 0x100 * u
/-- STATE -/
def portState (u : Nat) : Key := 0x111002 + 0x100 * u
/-- LINK_SPEED -/
def linkSpeed (u : Nat) : Key := 0x111003 + 0x100 * u
/-- LINK_WIDTH -/
def linkWidth (u : Nat) : Key := 0x111004 + 0x100 * u
/-- MBUS_TRANSPORT -/
def mbusTransport : Key := 0x112001
/-- MBUS_STATIC_ADDR -/
def mbusStaticAddr : Key := 0x112002
/-- MBUS_DYNAMIC_ADDR -/
def mbusDynamicAddr : Key := 0x112003
/-- BOLHOBA_MAX -/
def bolhobaMax : Key := 0x112004
/-- FACTORY_ACTIVE -/
def factoryActive : Key := 0x113001
/-- MB_OBJECT -/
def mbObject (u : Nat) : Key := 0x118001 + 0x100 * u
/-- MB_ADDR -/
def mbAddr (u : Nat) : Key := 0x118002 + 0x100 * u
/-- MB_OFFSET -/
def mbOffset (u : Nat) : Key := 0x118003 + 0x100 * u
/-- MB_LENGTH -/
def mbLength (u : Nat) : Key := 0x118004 + 0x100 * u
/-- MB_CMD -/
def mbCmd (u : Nat) : Key := 0x118005 + 0x100 * u
/-- MB_STATUS -/
def mbStatus (u : Nat) : Key := 0x118006 + 0x100 * u
/-- MB_GEN -/
def mbGen (u : Nat) : Key := 0x118007 + 0x100 * u
/-- START_MODE -/
def startMode : Key := 0x140001
/-- CURRENT_STEP -/
def currentStep : Key := 0x140002
/-- ATTEMPT -/
def attempt : Key := 0x140003
/-- FAILED_STARTS -/
def failedStarts : Key := 0x140004
/-- DEGRADED -/
def degraded : Key := 0x140005
/-- ELAPSED_MS -/
def elapsedMs : Key := 0x140006
/-- POWER_ON_COUNT -/
def powerOnCount : Key := 0x140007
/-- START_DEADLINE_S -/
def startDeadlineS : Key := 0x140008
/-- RESTART -/
def restart : Key := 0x140009
/-- ALT_FORCE -/
def altForce : Key := 0x14000A
/-- LEDGER -/
def startLedger : Key := 0x140101
/-- LEDGER_NEWEST -/
def ledgerNewest : Key := 0x140102
/-- LIFECYCLE -/
def lifecycle : Key := 0x120001
/-- LIFECYCLE_NONCE -/
def lifecycleNonce : Key := 0x120002
/-- LIFECYCLE_REQUEST -/
def lifecycleRequest : Key := 0x120003
/-- SLOT_STATE -/
def slotState (u : Nat) : Key := 0x121001 + 0x100 * u
/-- SLOT_VERSION -/
def slotVersion (u : Nat) : Key := 0x121002 + 0x100 * u
/-- SLOT_SECURITY_VERSION -/
def slotSecurityVersion (u : Nat) : Key := 0x121003 + 0x100 * u
/-- SLOT_DIGEST -/
def slotDigest (u : Nat) : Key := 0x121004 + 0x100 * u
/-- ACTIVE_SLOT -/
def activeSlot : Key := 0x121201
/-- PENDING_SLOT -/
def pendingSlot : Key := 0x121202
/-- RUNNING_SLOT -/
def runningSlot : Key := 0x121203
/-- REIN_SLOT -/
def reinSlot : Key := 0x121204
/-- ACTIVATION_STATE -/
def activationState : Key := 0x121205
/-- LAST_FREEZE_US -/
def lastFreezeUs : Key := 0x121206
/-- RECOVERY_IMAGE -/
def recoveryImage : Key := 0x121401
/-- RECOVERY_SLOT -/
def recoverySlot : Key := 0x121402
/-- BUNDLE_STAGE -/
def bundleStage : Key := 0x122001
/-- BUNDLE_PENDING_GEN -/
def bundlePendingGen : Key := 0x122002
/-- OWNER_KEY -/
def ownerKey : Key := 0x123001
/-- OWNER_KEY_STATE -/
def ownerKeyState : Key := 0x123002
/-- DEVICE_PUBKEY -/
def devicePubkey : Key := 0x124001
/-- CERT_CHAIN_0 -/
def certChain0 : Key := 0x124101
/-- CERT_CHAIN_1 -/
def certChain1 : Key := 0x124102
/-- MIN_SECURITY_VERSION -/
def minSecurityVersion : Key := 0x125001
/-- NS_KEY_GEN -/
def nsKeyGen (ns : Nat) : Key := 0x126000 + ns
/-- SCAN_LOCK -/
def scanLock : Key := 0x127001
/-- SURFACE_MASK -/
def surfaceMask (u : Nat) : Key := 0x400101 + 0x10000 * u
/-- ZONE_TABLE -/
def zoneTable (u : Nat) (i : Nat) : Key := 0x400201 + 0x10000 * u + i
/-- GROWN_LIST -/
def grownList (u : Nat) (i : Nat) : Key := 0x400301 + 0x10000 * u + i
/-- GROWN_COUNT -/
def grownCount (u : Nat) (i : Nat) : Key := 0x400401 + 0x10000 * u + i
/-- PREAMP_STATE -/
def preampState (u : Nat) : Key := 0x400004 + 0x10000 * u
/-- PREAMP_ID -/
def preampId (u : Nat) : Key := 0x400005 + 0x10000 * u
/-- PREAMP_FORMAT -/
def preampFormat (u : Nat) : Key := 0x400006 + 0x10000 * u
/-- PREAMP_FAULT_STATUS -/
def preampFaultStatus (u : Nat) : Key := 0x400007 + 0x10000 * u
/-- PREAMP_FAULTS -/
def preampFaults (u : Nat) : Key := 0x400008 + 0x10000 * u
/-- READER_MASK -/
def readerMask (u : Nat) (i : Nat) : Key := 0x400501 + 0x10000 * u + i
/-- CLIP_COUNT -/
def clipCount (u : Nat) (k : Nat) : Key := 0x401003 + 0x10000 * u + 0x100 * k
/-- STUCK_COUNT -/
def stuckCount (u : Nat) (k : Nat) : Key := 0x401004 + 0x10000 * u + 0x100 * k
/-- OFFSET_RAIL_COUNT -/
def offsetRailCount (u : Nat) (k : Nat) : Key := 0x401005 + 0x10000 * u + 0x100 * k
/-- GAIN_MU_ACQ -/
def gainMuAcq (u : Nat) : Key := 0x402001 + 0x10000 * u
/-- GAIN_MU_TRK -/
def gainMuTrk (u : Nat) : Key := 0x402002 + 0x10000 * u
/-- OFFSET_MU_ACQ -/
def offsetMuAcq (u : Nat) : Key := 0x402003 + 0x10000 * u
/-- OFFSET_MU_TRK -/
def offsetMuTrk (u : Nat) : Key := 0x402004 + 0x10000 * u
/-- ASYM_MU -/
def asymMu (u : Nat) : Key := 0x402005 + 0x10000 * u
/-- TIMING_KP_ACQ -/
def timingKpAcq (u : Nat) : Key := 0x402006 + 0x10000 * u
/-- TIMING_KI_ACQ -/
def timingKiAcq (u : Nat) : Key := 0x402007 + 0x10000 * u
/-- TIMING_KP_TRK -/
def timingKpTrk (u : Nat) : Key := 0x402008 + 0x10000 * u
/-- TIMING_KI_TRK -/
def timingKiTrk (u : Nat) : Key := 0x402009 + 0x10000 * u
/-- ACQ_T -/
def acqT (u : Nat) : Key := 0x40200A + 0x10000 * u
/-- TA_THRESH -/
def taThresh (u : Nat) : Key := 0x402101 + 0x10000 * u
/-- DROP_THRESH -/
def dropThresh (u : Nat) : Key := 0x402102 + 0x10000 * u
/-- HANGOVER_T -/
def hangoverT (u : Nat) : Key := 0x402103 + 0x10000 * u
/-- TA_EVENT_LIMIT -/
def taEventLimit (u : Nat) : Key := 0x402104 + 0x10000 * u
/-- TA_COUNT -/
def taCount (u : Nat) : Key := 0x402105 + 0x10000 * u
/-- DROP_COUNT -/
def dropCount (u : Nat) : Key := 0x402106 + 0x10000 * u
/-- LONG_FREEZE_COUNT -/
def longFreezeCount (u : Nat) : Key := 0x402107 + 0x10000 * u
/-- SYNC_WIN -/
def syncWin (u : Nat) : Key := 0x403001 + 0x10000 * u
/-- SYNC_TOL -/
def syncTol (u : Nat) : Key := 0x403002 + 0x10000 * u
/-- SM1_MISS_COUNT -/
def sm1MissCount (u : Nat) : Key := 0x403003 + 0x10000 * u
/-- SM2_MISS_COUNT -/
def sm2MissCount (u : Nat) : Key := 0x403004 + 0x10000 * u
/-- TIMED_COUNT -/
def timedCount (u : Nat) : Key := 0x403005 + 0x10000 * u
/-- SM1_CORRECTED_COUNT -/
def sm1CorrectedCount (u : Nat) : Key := 0x403006 + 0x10000 * u
/-- EQ_PRESETS -/
def eqPresets (u : Nat) : Key := 0x404001 + 0x10000 * u
/-- LASER_LEAD_T -/
def laserLeadT (u : Nat) : Key := 0x405001 + 0x10000 * u
/-- WPOWER_SET -/
def wpowerSet (u : Nat) : Key := 0x405002 + 0x10000 * u
/-- WRITE_UNSAFE_COUNT -/
def writeUnsafeCount (u : Nat) : Key := 0x405003 + 0x10000 * u
/-- INCOMPLETE_COUNT -/
def incompleteCount (u : Nat) : Key := 0x405004 + 0x10000 * u
/-- SYNTH_UNLOCK_COUNT -/
def synthUnlockCount (u : Nat) : Key := 0x405005 + 0x10000 * u
/-- PRECOMP -/
def precomp (u : Nat) (i : Nat) : Key := 0x405101 + 0x10000 * u + i
/-- RW_OFFSET_T -/
def rwOffsetT (u : Nat) (i : Nat) : Key := 0x405201 + 0x10000 * u + i
/-- PREAMP_ACCESS -/
def preampAccess (u : Nat) : Key := 0x406001 + 0x10000 * u
/-- FRAME_RETRIES -/
def frameRetries (u : Nat) : Key := 0x406002 + 0x10000 * u
/-- DET_CORE_RATE -/
def detCoreRate : Key := 0x480001
/-- LDPC_CORE_RATE -/
def ldpcCoreRate : Key := 0x480002
/-- RESERVE_LIMIT_PCT -/
def reserveLimitPct : Key := 0x480003
/-- ONLINE_GLOBAL -/
def onlineGlobal : Key := 0x480004
/-- ONLINE_LOCAL -/
def onlineLocal : Key := 0x480005
/-- SLOT_DEADLINE_US -/
def slotDeadlineUs : Key := 0x480006
/-- RESERVE2_PM -/
def reserve2Pm : Key := 0x480007
/-- RATE_PM -/
def ratePm : Key := 0x480008
/-- MS_OFFSET -/
def msOffset : Key := 0x48000A
/-- EXT_SCALE -/
def extScale : Key := 0x48000B
/-- L1_GLOBAL -/
def l1Global : Key := 0x480101
/-- L1_LOCAL -/
def l1Local : Key := 0x480102
/-- SLIP_PROBE_GLOBAL -/
def slipProbeGlobal : Key := 0x480103
/-- L2_READS -/
def l2Reads : Key := 0x480104
/-- L2_PRESET_OFFSET -/
def l2PresetOffset : Key := 0x480105
/-- L3_READS -/
def l3Reads : Key := 0x480106
/-- L4_OFFSETS -/
def l4Offsets : Key := 0x480107
/-- LADDER_ORDER -/
def ladderOrder : Key := 0x480108
/-- HOLD_SLOTS -/
def holdSlots : Key := 0x480109
/-- RECOVERED -/
def recovered (i : Nat) : Key := 0x480201 + i
/-- UNRECOVERED -/
def unrecovered : Key := 0x480207
/-- CRC_FAIL_COUNT -/
def crcFailCount : Key := 0x480208
/-- SLOT_OVERRUN_COUNT -/
def slotOverrunCount : Key := 0x480209
/-- SAMPLES_LOST_COUNT -/
def samplesLostCount : Key := 0x48020A
/-- EXTENDED_COUNT -/
def extendedCount : Key := 0x48020B
/-- RING_BASE -/
def ringBase (u : Nat) : Key := 0x480801 + 0x100 * u
/-- RING_ENTRIES -/
def ringEntries (u : Nat) : Key := 0x480802 + 0x100 * u
/-- RING_TAIL -/
def ringTail (u : Nat) : Key := 0x480803 + 0x100 * u
/-- RING_HEAD -/
def ringHead (u : Nat) : Key := 0x480804 + 0x100 * u
/-- RING_DONE -/
def ringDone (u : Nat) : Key := 0x480805 + 0x100 * u
/-- DET_SECTORS -/
def detSectors (u : Nat) : Key := 0x481003 + 0x100 * u
/-- DET_CHECK_FAILS -/
def detCheckFails (u : Nat) : Key := 0x481004 + 0x100 * u
/-- LDPC_SECTORS -/
def ldpcSectors (u : Nat) : Key := 0x482003 + 0x100 * u
/-- LDPC_CHECK_FAILS -/
def ldpcCheckFails (u : Nat) : Key := 0x482004 + 0x100 * u
/-- NP_SETS -/
def npSets (u : Nat) : Key := 0x484001 + 0x100 * u
/-- TIMING_MODE -/
def timingMode (u : Nat) : Key := 0x4C0001 + 0x100 * u
/-- PLAYER_STATE -/
def playerState (u : Nat) : Key := 0x4C0002 + 0x100 * u
/-- LEAD_T -/
def leadT (u : Nat) : Key := 0x4C0003 + 0x100 * u
/-- LOAD_ADDR -/
def loadAddr (u : Nat) : Key := 0x4C0004 + 0x100 * u
/-- LOAD_STATE -/
def loadState (u : Nat) : Key := 0x4C0005 + 0x100 * u
/-- LOAD_REJECT -/
def loadReject (u : Nat) : Key := 0x4C0006 + 0x100 * u
/-- ABORT -/
def objAbort (u : Nat) : Key := 0x4C0007 + 0x100 * u
/-- SEQ_NOW -/
def seqNow (u : Nat) : Key := 0x4C0008 + 0x100 * u
/-- REV_NOW -/
def revNow (u : Nat) : Key := 0x4C0009 + 0x100 * u
/-- BANK_CURRENT -/
def bankCurrent (u : Nat) : Key := 0x4C000A + 0x100 * u
/-- SENTENCES -/
def sentences (u : Nat) : Key := 0x4C000B + 0x100 * u
/-- UNDERRUNS -/
def underruns (u : Nat) : Key := 0x4C000C + 0x100 * u
/-- SETTLE_MISSES -/
def settleMisses (u : Nat) : Key := 0x4C000D + 0x100 * u
/-- LATE_GATES -/
def lateGates (u : Nat) : Key := 0x4C000E + 0x100 * u
/-- WAIT_TIMEOUTS -/
def waitTimeouts (u : Nat) : Key := 0x4C000F + 0x100 * u
/-- BAD_CLAUSES -/
def badClauses (u : Nat) : Key := 0x4C0010 + 0x100 * u
/-- FAULTS -/
def objFaults (u : Nat) : Key := 0x4C0011 + 0x100 * u
/-- WINDOW_ENDS -/
def windowEnds (u : Nat) : Key := 0x4C0012 + 0x100 * u
/-- GROUP_STATE -/
def groupState (u : Nat) : Key := 0x500001 + 0x10000 * u
/-- LATCH_INNER_NS -/
def latchInnerNs (u : Nat) : Key := 0x500002 + 0x10000 * u
/-- LATCH_POS_NS -/
def latchPosNs (u : Nat) : Key := 0x500003 + 0x10000 * u
/-- LATCH_OUTER_NS -/
def latchOuterNs (u : Nat) : Key := 0x500004 + 0x10000 * u
/-- WU_LIMIT -/
def wuLimit (u : Nat) : Key := 0x500005 + 0x10000 * u
/-- TRACK_OFFSET -/
def trackOffset (u : Nat) : Key := 0x500006 + 0x10000 * u
/-- COEF_WRITE -/
def coefWrite (u : Nat) : Key := 0x500007 + 0x10000 * u
/-- SNAPSHOT -/
def snapshot (u : Nat) : Key := 0x500008 + 0x10000 * u
/-- SNAP_REQUEST -/
def snapRequest (u : Nat) : Key := 0x500009 + 0x10000 * u
/-- MISMATCHES -/
def mismatches (u : Nat) : Key := 0x50000A + 0x10000 * u
/-- TAKEOVERS -/
def reinTakeovers (u : Nat) : Key := 0x50000B + 0x10000 * u
/-- PAIR_HOLDS -/
def pairHolds (u : Nat) : Key := 0x50000C + 0x10000 * u
/-- MISSED_LATCHES -/
def missedLatches (u : Nat) : Key := 0x50000D + 0x10000 * u
/-- PROGRAM_STOPS -/
def programStops (u : Nat) : Key := 0x50000E + 0x10000 * u
/-- SAT_COUNT -/
def satCount (u : Nat) : Key := 0x50000F + 0x10000 * u
/-- INJECT -/
def inject (u : Nat) : Key := 0x500010 + 0x10000 * u
/-- STATE -/
def engineState (u : Nat) (e : Nat) : Key := 0x501002 + 0x10000 * u + 0x100 * e
/-- ROLE -/
def engineRole (u : Nat) (e : Nat) : Key := 0x501003 + 0x10000 * u + 0x100 * e
/-- ENGINE_NO -/
def engineNo (u : Nat) (e : Nat) : Key := 0x501004 + 0x10000 * u + 0x100 * e
/-- ENGINE_EVENTS -/
def engineEvents (u : Nat) (e : Nat) : Key := 0x501005 + 0x10000 * u + 0x100 * e
/-- ECC_CORRECTED -/
def eccCorrected (u : Nat) (e : Nat) : Key := 0x501006 + 0x10000 * u + 0x100 * e
/-- SERVING -/
def serving : Key := 0x550007
/-- TICK -/
def tick : Key := 0xA00001
/-- TICK_HZ -/
def tickHz : Key := 0xA00002
/-- TRACE_NODES -/
def traceNodes (u : Nat) : Key := 0xA01001 + 0x100 * u
/-- TRACE_RATE -/
def traceRate (u : Nat) : Key := 0xA01002 + 0x100 * u
/-- TRACE_TRIGGER -/
def traceTrigger (u : Nat) : Key := 0xA01003 + 0x100 * u
/-- TRACE_PRE -/
def tracePre (u : Nat) : Key := 0xA01004 + 0x100 * u
/-- TRACE_ARM -/
def traceArm (u : Nat) : Key := 0xA01005 + 0x100 * u
/-- TRACE_STATE -/
def traceState (u : Nat) : Key := 0xA01006 + 0x100 * u
/-- TRACE_DATA -/
def traceData (u : Nat) : Key := 0xA01007 + 0x100 * u
/-- TRIGGER_TICK -/
def triggerTick (u : Nat) : Key := 0xA01008 + 0x100 * u
/-- TRACE_TAP0 -/
def traceTap0 (u : Nat) : Key := 0xA01009 + 0x100 * u
/-- TRACE_TAP1 -/
def traceTap1 (u : Nat) : Key := 0xA0100A + 0x100 * u
/-- TRACE_FORCE -/
def traceForce (u : Nat) : Key := 0xA0100B + 0x100 * u
/-- FORMAT_RPM -/
def formatRpm : Key := 0x601001
/-- TARGET_RPM -/
def targetRpm : Key := 0x601002
/-- SPEED -/
def speed : Key := 0x601003
/-- SPIN_MODE -/
def spinMode : Key := 0x601004
/-- SPIN_LIMIT_MA -/
def spinLimitMa : Key := 0x601005
/-- POLE_PAIRS -/
def polePairs : Key := 0x601006
/-- SPIN_I_MA -/
def spinIMa : Key := 0x601007
/-- SPINUPS -/
def spinups : Key := 0x601008
/-- SPINUP_LAST_MS -/
def spinupLastMs : Key := 0x601009
/-- SPIN_FAULTS -/
def spinFaults : Key := 0x60100A
/-- AT_SPEED -/
def atSpeed : Key := 0x60100B
/-- PHASE_LOCKED -/
def phaseLocked : Key := 0x60100C
/-- LINK_STATE -/
def linkState : Key := 0x601201
/-- LINK_RESENDS -/
def linkResends : Key := 0x601202
/-- HEARTBEAT_ARMED -/
def heartbeatArmed : Key := 0x601203
/-- HEARTBEAT_LOSSES -/
def heartbeatLosses : Key := 0x601204
/-- LAST_RESET_CAUSE -/
def lastResetCause : Key := 0x601205
/-- MD_VERSION -/
def mdVersion : Key := 0x601206
/-- MD_TEMP_C -/
def mdTempC : Key := 0x601207
/-- VCM_LIMIT_MA -/
def vcmLimitMa (u : Nat) : Key := 0x602001 + 0x100 * u
/-- MA_LIMIT_MV -/
def maLimitMv (u : Nat) : Key := 0x602002 + 0x100 * u
/-- HEATER_MAX -/
def heaterMax (u : Nat) : Key := 0x602003 + 0x100 * u
/-- VCM_R_MOHM -/
def vcmRMohm (u : Nat) : Key := 0x602004 + 0x100 * u
/-- DRIVE_STATE -/
def driveState (u : Nat) : Key := 0x602005 + 0x100 * u
/-- VCM_CLAMPS -/
def vcmClamps (u : Nat) : Key := 0x602006 + 0x100 * u
/-- RETRACTS -/
def retracts (u : Nat) : Key := 0x602007 + 0x100 * u
/-- RETRACT_LAST_MS -/
def retractLastMs (u : Nat) : Key := 0x602008 + 0x100 * u
/-- DRIVE_FAULT -/
def driveFault (u : Nat) : Key := 0x602009 + 0x100 * u
/-- RETRACT_BEMF_MV -/
def retractBemfMv : Key := 0x603001
/-- RETRACT_MA -/
def retractMa : Key := 0x603002
/-- PARK_HOLD_MA -/
def parkHoldMa : Key := 0x603003
/-- LOAD_BEMF_MV -/
def loadBemfMv : Key := 0x603004
/-- ROLE -/
def role : Key := 0x680001
/-- GIRTH_STATE -/
def girthState : Key := 0x680002
/-- HOP -/
def hop : Key := 0x680003
/-- MASTER_TAG -/
def masterTag : Key := 0x680004
/-- RING_SIZE -/
def ringSize : Key := 0x680005
/-- HOP_LATENCY_NS -/
def hopLatencyNs : Key := 0x680006
/-- EPOCH_OFFSET -/
def epochOffset : Key := 0x680007
/-- TAKEOVERS -/
def takeovers : Key := 0x680008
/-- FOREIGN_SYNCS -/
def foreignSyncs : Key := 0x680009
/-- CRC_ERRORS -/
def crcErrors : Key := 0x68000A
/-- POISONED -/
def poisoned : Key := 0x68000B
/-- TX_DROPS -/
def txDrops : Key := 0x68000C
/-- PHASE_GROUP -/
def phaseGroup : Key := 0x681001
/-- PHASE_SLOT -/
def phaseSlot : Key := 0x681002
/-- PHASE_OFFSET -/
def phaseOffset : Key := 0x681003
/-- ASSIGNED_PHASE -/
def assignedPhase : Key := 0x681004
/-- FF_ENABLE -/
def ffEnable : Key := 0x682001
/-- ANNOUNCE_MIN_MA -/
def announceMinMa : Key := 0x682002
/-- ANNOUNCE_RATE -/
def announceRate : Key := 0x682003
/-- TRIM_MU -/
def trimMu : Key := 0x682004
/-- FF_GAIN_ADDR -/
def ffGainAddr : Key := 0x682005
/-- SEEKS_HEARD -/
def seeksHeard : Key := 0x682006
/-- SEEKS_IGNORED -/
def seeksIgnored : Key := 0x682007
/-- ANNOUNCE -/
def announce : Key := 0x682008
/-- FF_GAIN -/
def ffGain (u : Nat) : Key := 0x682101 + 0x100 * u
/-- NEIGHBOURS -/
def neighbours : Key := 0x683001
/-- DICT_REQUEST -/
def dictRequest : Key := 0x684001
/-- DICT_RESPONSE -/
def dictResponse : Key := 0x684002
/-- SLOTS_IN_USE -/
def slotsInUse : Key := 0x200001
/-- ADMISSION_SEQ -/
def admissionSeq : Key := 0x200002
/-- PORT_SLOT_MAX -/
def portSlotMax : Key := 0x200003
/-- SLOT_WAITS -/
def slotWaits : Key := 0x200004
/-- IO_QUEUES -/
def ioQueues (u : Nat) : Key := 0x200101 + 0x100 * u
/-- COMMANDS -/
def commands (u : Nat) : Key := 0x200102 + 0x100 * u
/-- IO_SLOTS_HELD -/
def ioSlotsHeld (u : Nat) : Key := 0x200103 + 0x100 * u
/-- RESETS -/
def resets (u : Nat) : Key := 0x200104 + 0x100 * u
/-- LOCK_IN_USE -/
def lockInUse : Key := 0x200801
/-- LOCK_STALLS -/
def lockStalls : Key := 0x200802
/-- LOCK_STALL_MAX_US -/
def lockStallMaxUs : Key := 0x200803
/-- CACHE_DIRTY_KIB -/
def cacheDirtyKib : Key := 0x201001
/-- CACHE_POLICY -/
def cachePolicy : Key := 0x201002
/-- FLUSHES -/
def flushes : Key := 0x201003
/-- FUA_WRITES -/
def fuaWrites : Key := 0x201004
/-- POWER_STATE -/
def powerState : Key := 0x210001
/-- EFFECTIVE_STATE -/
def effectiveState : Key := 0x210002
/-- ENTRIES_CUT -/
def entriesCut : Key := 0x210003
/-- MEDIA_WAKES -/
def mediaWakes : Key := 0x210004
/-- PS3_IDLE_MS -/
def ps3IdleMs : Key := 0x210005
/-- PS_MAX_POWER_CW -/
def psMaxPowerCw (i : Nat) : Key := 0x210010 + i
/-- NEW_NS_MAP -/
def newNsMap : Key := 0x300001
/-- SPARE_SURFACES -/
def spareSurfaces : Key := 0x300002
/-- ROWS_TOTAL -/
def rowsTotal : Key := 0x300003
/-- STRIPES_USED -/
def stripesUsed : Key := 0x300004
/-- DESCRIPTOR -/
def descriptor : Key := 0x300005
/-- NS_LAYOUT -/
def nsLayout (ns : Nat) : Key := 0x300100 + ns
/-- STRIPE_GEN -/
def stripeGen : Key := 0x301001
/-- JOURNAL_OPEN -/
def journalOpen : Key := 0x301002
/-- JOURNAL_FREE -/
def journalFree : Key := 0x301003
/-- JOURNAL_WAITS -/
def journalWaits : Key := 0x301004
/-- UPDATES -/
def updates : Key := 0x301005
/-- WI_DIRTY_GROUPS -/
def wiDirtyGroups : Key := 0x302001
/-- WI_MIRROR_S -/
def wiMirrorS : Key := 0x302002
/-- WI_LAST_TICK -/
def wiLastTick : Key := 0x302003
/-- WI_BITMAP -/
def wiBitmap : Key := 0x302004
/-- REMAP_ENTRIES -/
def remapEntries : Key := 0x303001
/-- REMAP_CROWDED -/
def remapCrowded : Key := 0x303002
/-- REMAP_TABLE -/
def remapTable : Key := 0x303003
/-- REPLAY_STATE -/
def replayState : Key := 0x304001
/-- REPLAY_PENDING -/
def replayPending : Key := 0x304002
/-- RESYNC_PENDING -/
def resyncPending : Key := 0x304003
/-- REPLAY_SOURCE -/
def replaySource : Key := 0x304004
/-- ALLOC_BITMAP -/
def allocBitmap : Key := 0x305001
/-- HOLDERS -/
def holders : Key := 0x305002
/-- REBUILD_STATE -/
def rebuildState : Key := 0x310001
/-- REBUILD_SHARE_PCT -/
def rebuildSharePct : Key := 0x310002
/-- CRITICAL_SHARE_PCT -/
def criticalSharePct : Key := 0x310003
/-- DEGRADED_STRIPES -/
def degradedStripes : Key := 0x310004
/-- CRITICAL_STRIPES -/
def criticalStripes : Key := 0x310005
/-- CHUNKS_TO_REBUILD -/
def chunksToRebuild : Key := 0x310006
/-- CHUNKS_REBUILT -/
def chunksRebuilt : Key := 0x310007
/-- SUBST_CROWDED -/
def substCrowded : Key := 0x310008
/-- SURFACE_STATE -/
def surfaceState (i : Nat) : Key := 0x311001 + i
/-- RETIRE_SURFACE -/
def retireSurface : Key := 0x311031
/-- PATROL_ENABLE -/
def patrolEnable : Key := 0x320001
/-- PATROL_DAYS -/
def patrolDays : Key := 0x320002
/-- PATROL_PASS -/
def patrolPass : Key := 0x320003
/-- PATROL_NEXT -/
def patrolNext : Key := 0x320004
/-- PATROL_REPAIRS -/
def patrolRepairs : Key := 0x320005
/-- SUSPECT_LIST -/
def suspectList : Key := 0x320006
/-- RESHAPE_REQUEST -/
def reshapeRequest : Key := 0x330001
/-- RESHAPE_STATE -/
def reshapeState : Key := 0x330002
/-- RESHAPE_SHARE_PCT -/
def reshapeSharePct : Key := 0x330003
/-- LOST_ENTRIES -/
def lostEntries : Key := 0x332001
/-- LOST_LIST -/
def lostList : Key := 0x332002
/-- LOST_MERGES -/
def lostMerges : Key := 0x332003
/-- DRAM_RATE_MTS -/
def dramRateMts : Key := 0x900001
/-- CE_COUNT -/
def ceCount : Key := 0x900002
/-- UE_COUNT -/
def ueCount : Key := 0x900003
/-- POISON_READS -/
def poisonReads : Key := 0x900004
/-- LAST_ERROR -/
def lastError : Key := 0x900005
/-- RETIRE_THRESHOLD -/
def retireThreshold : Key := 0x900006
/-- PAGES_RETIRED -/
def pagesRetired : Key := 0x900007
/-- RETIRED_PAGES -/
def retiredPages : Key := 0x900008
/-- SPARES_FREE -/
def sparesFree : Key := 0x900009
/-- ZERO_RANGE -/
def zeroRange : Key := 0x90000A
/-- UNWRITTEN_PAGES -/
def unwrittenPages : Key := 0x90000B
/-- KEEPER_STATE -/
def keeperState : Key := 0x900010
/-- KEEPER_DIRECTORY -/
def keeperDirectory : Key := 0x900011
/-- LAST_DUMP_MS -/
def lastDumpMs : Key := 0x900012
/-- LAST_REPLAY_SEQ -/
def lastReplaySeq : Key := 0x900013
/-- KEEPER_BAD_BLOCKS -/
def keeperBadBlocks : Key := 0x900014
/-- HITS -/
def hits : Key := 0x910001
/-- MISSES -/
def misses : Key := 0x910002
/-- WRITEBACKS -/
def writebacks : Key := 0x910003
/-- LOCKED_LINES -/
def lockedLines : Key := 0x910004
/-- DATA_CE -/
def dataCe : Key := 0x910005
/-- DATA_UE -/
def dataUe : Key := 0x910006
/-- TAG_PARITY -/
def tagParity : Key := 0x910007
/-- WAYS_RETIRED -/
def waysRetired : Key := 0x910008
/-- MAINT_OP -/
def maintOp (u : Nat) : Key := 0x911001 + 0x100 * u
/-- MAINT_BASE -/
def maintBase (u : Nat) : Key := 0x911002 + 0x100 * u
/-- MAINT_LENGTH -/
def maintLength (u : Nat) : Key := 0x911003 + 0x100 * u
/-- MAINT_STATUS -/
def maintStatus (u : Nat) : Key := 0x911004 + 0x100 * u
/-- MAINT_FIRST -/
def maintFirst (u : Nat) : Key := 0x911005 + 0x100 * u
/-- SRC -/
def objSrc (u : Nat) : Key := 0x920003 + 0x100 * u
/-- DST -/
def objDst (u : Nat) : Key := 0x920004 + 0x100 * u
/-- COUNT -/
def objCount (u : Nat) : Key := 0x920005 + 0x100 * u
/-- CTRL -/
def objCtrl (u : Nat) : Key := 0x920006 + 0x100 * u
/-- CHAN_STATUS -/
def chanStatus (u : Nat) : Key := 0x920007 + 0x100 * u
/-- DONE_COUNT -/
def doneCount (u : Nat) : Key := 0x920008 + 0x100 * u
/-- CHAIN_ADDR -/
def chainAddr (u : Nat) : Key := 0x920009 + 0x100 * u
/-- TRANSFERS -/
def objTransfers (u : Nat) : Key := 0x92000A + 0x100 * u
/-- BYTES -/
def objBytes (u : Nat) : Key := 0x92000B + 0x100 * u
/-- POISON_ADDR -/
def poisonAddr (u : Nat) : Key := 0x92000C + 0x100 * u
/-- NOTIFY_PENDING -/
def notifyPending (u : Nat) : Key := 0x92000D + 0x100 * u
/-- RESERVE_MBS -/
def reserveMbs : Key := 0x930001
/-- LANES_FENCED -/
def lanesFenced : Key := 0x930002
/-- RESENDS -/
def objResends : Key := 0x930003
/-- BLOCKS_FAILED -/
def blocksFailed : Key := 0x930004
/-- GRANTS -/
def grants : Key := 0x930005
/-- RESERVED_GRANTS -/
def reservedGrants : Key := 0x930006
/-- WEIGHT -/
def weight (i : Nat) : Key := 0x930101 + i
/-- COLLECTOR_STATE -/
def collectorState : Key := 0x700001
/-- SAFE_CAUSE -/
def safeCause : Key := 0x700002
/-- SAFE_TICK -/
def safeTick : Key := 0x700003
/-- SAFE_RESTART_S -/
def safeRestartS : Key := 0x700004
/-- SAFE_ENTRIES -/
def safeEntries : Key := 0x700005
/-- CORE_WDT_MS -/
def coreWdtMs : Key := 0x700006
/-- EVENTS_TOTAL -/
def eventsTotal : Key := 0x700007
/-- TRIPS -/
def trips : Key := 0x700008
/-- BUCKETS -/
def buckets : Key := 0x700101
/-- RETIRED_UNITS -/
def retiredUnits : Key := 0x700201
/-- MACRO_MAP -/
def macroMap : Key := 0x700301
/-- FIRST_ERROR -/
def firstError (u : Nat) : Key := 0x701001 + 0x100 * u
/-- CAPTURE_CLEAR -/
def captureClear (u : Nat) : Key := 0x701002 + 0x100 * u
/-- Source entries -/
def sourceEntry (u : Nat) (i : Nat) : Key := 0x710000 + 0x100 * u + i
/-- LEDGER -/
def eventLedger : Key := 0x780001
/-- NEWEST_SEQ -/
def newestSeq : Key := 0x780002
/-- CLEAR_UPTO -/
def clearUpto : Key := 0x780003
/-- CLEAR_ALL -/
def clearAll : Key := 0x780004
/-- RECORDS -/
def records : Key := 0x780005
/-- DROPS_SEV0–3 -/
def dropsSev (i : Nat) : Key := 0x780006 + i
/-- MIRROR_SEQ -/
def mirrorSeq : Key := 0x78000A
/-- NEWEST_SEQ_LO -/
def newestSeqLo : Key := 0x78000B
/-- SLOT_SELECT -/
def slotSelect : Key := 0x781001
/-- WORD -/
def objWord (i : Nat) : Key := 0x781002 + i
/-- UNRETIRE -/
def unretire : Key := 0xF00001
/-- ACTUATOR_ENABLE -/
def actuatorEnable (u : Nat) : Key := 0x400001 + 0x10000 * u
/-- ACTUATOR_STATE -/
def actuatorState (u : Nat) : Key := 0x400002 + 0x10000 * u
/-- ACTUATOR_FORCE -/
def actuatorForce (u : Nat) : Key := 0x400003 + 0x10000 * u
/-- LANE_ENABLE -/
def laneEnable (u : Nat) (k : Nat) : Key := 0x401001 + 0x10000 * u + 0x100 * k
/-- LANE_STATE -/
def laneState (u : Nat) (k : Nat) : Key := 0x401002 + 0x10000 * u + 0x100 * k
/-- DETECTOR_ENABLE -/
def detectorEnable (u : Nat) : Key := 0x481001 + 0x100 * u
/-- DETECTOR_STATE -/
def detectorState (u : Nat) : Key := 0x481002 + 0x100 * u
/-- LDPC_ENABLE -/
def ldpcEnable (u : Nat) : Key := 0x482001 + 0x100 * u
/-- LDPC_STATE -/
def ldpcState (u : Nat) : Key := 0x482002 + 0x100 * u
/-- DMA_ENABLE -/
def dmaEnable (u : Nat) : Key := 0x920001 + 0x100 * u
/-- DMA_STATE -/
def dmaState (u : Nat) : Key := 0x920002 + 0x100 * u
/-- GIRTH_INPUT_ENABLE -/
def girthInputEnable : Key := 0x680101
/-- GIRTH_INPUT_STATE -/
def girthInputState : Key := 0x680102

end Obj

end Sys2Proof.Machine
end

