-- ==== Sys2Proof/Machine/Sources.lean ====
section
/-!
DEFINITION. The event source table (R466, R467): what each source id is classified as by default.
-/

namespace Sys2Proof.Machine

/-- The low `n` bytes of a number, least significant first (R54). -/
def leBytes : Nat → Nat → List Byte
  | 0, _ => []
  | n + 1, v => BitVec.ofNat 8 v :: leBytes n (v / 256)

/-- An event source entry (R466). -/
structure SourceEntry where
  id : Nat
  level : Nat
  severity : Nat
  reaction : Nat
  trip : Nat
  threshold : Nat
  window : Nat
  deriving DecidableEq, Repr

/-- The 16 bytes of an entry. -/
def SourceEntry.bytes (e : SourceEntry) : List Byte :=
  leBytes 2 e.id ++ [BitVec.ofNat 8 e.level, BitVec.ofNat 8 e.severity, BitVec.ofNat 8 e.reaction, BitVec.ofNat 8 e.trip] ++
  leBytes 2 e.threshold ++ leBytes 4 e.window ++ leBytes 4 0

/-- Levels, reactions and trips by their codes (R466). -/
def lvCell : Nat := 0
def lvBlock : Nat := 1
def lvRegion : Nat := 2
def lvChip : Nat := 3
def rcLog : Nat := 0
def rcRetry : Nat := 1
def rcFence : Nat := 2
def rcDegrade : Nat := 3
def rcSafe : Nat := 4
def tpNone : Nat := 0
def tpRetire : Nat := 1
def tpDegrade : Nat := 2
def tpSafe : Nat := 3
def tpRepair : Nat := 4

/-- A row whose window and trip are — : the window reads 86,400 s and the trip NONE. -/
def srcPlain (level severity reaction : Nat) (id : Nat) : SourceEntry := ⟨id, level, severity, reaction, tpNone, 0, 86400⟩

/-- A row with a window, a threshold and a trip. -/
def srcTrip (level severity reaction window threshold trip : Nat) (id : Nat) : SourceEntry :=
  ⟨id, level, severity, reaction, trip, threshold, window⟩

/-- A reserved id. -/
def srcReserved : Nat → SourceEntry := srcPlain lvBlock 0 rcLog

/-- The rows of an actuator's group, by offset. -/
def actuatorSource (k : Nat) : Nat → SourceEntry :=
  if k = 0 then srcPlain lvRegion 2 rcLog
  else if k = 1 then srcTrip lvBlock 2 rcLog 86400 8 tpRetire
  else if k = 2 ∨ k = 4 ∨ k = 18 then srcPlain lvBlock 1 rcLog
  else if k = 3 then srcTrip lvBlock 2 rcDegrade 2592000 2 tpRetire
  else if k = 5 then srcTrip lvBlock 2 rcLog 86400 2 tpDegrade
  else if k = 6 then srcPlain lvBlock 2 rcLog
  else if k = 7 then srcPlain lvBlock 1 rcLog
  else if k ≤ 10 then srcTrip lvBlock 2 rcFence 600 2 tpRetire
  else if k ≤ 13 then srcTrip lvBlock 1 rcLog 3600 256 tpRetire
  else if k = 14 ∨ k = 16 then srcPlain lvBlock 0 rcLog
  else if k = 15 ∨ k = 17 then srcTrip lvBlock 2 rcFence 86400 2 tpRetire
  else if 20 ≤ k ∧ k ≤ 31 then srcTrip lvBlock 2 rcLog 604800 32 tpRetire
  else srcReserved

/-- The rows below the actuators. -/
def lowSource (id : Nat) : Nat → SourceEntry :=
  if id = 3 then srcPlain lvChip 0 rcRetry
  else if id ≤ 2 ∨ id = 9 ∨ id = 12 ∨ (15 ≤ id ∧ id ≤ 17) ∨ id = 42 then srcPlain lvChip 3 rcSafe
  else if id = 4 ∨ (18 ≤ id ∧ id ≤ 20) then srcPlain lvChip 3 rcLog
  else if id = 11 then srcPlain lvChip 1 rcLog
  else if id ≤ 14 then srcPlain lvChip 2 rcLog
  else if id ≤ 31 then srcReserved
  else if id = 39 then srcTrip lvBlock 1 rcLog 3600 1000 tpRetire
  else if id ≤ 41 then srcPlain lvRegion 2 rcLog
  else if id = 43 then srcPlain lvRegion 1 rcLog
  else if 64 ≤ id ∧ id ≤ 74 then srcPlain lvRegion 2 rcLog
  else if id = 96 ∨ id = 97 then srcTrip lvBlock 2 rcRetry 3600 64 tpRetire
  else if 98 ≤ id ∧ id ≤ 103 then srcPlain lvBlock 1 rcLog
  else if 104 ≤ id ∧ id ≤ 107 then srcPlain lvBlock 3 rcSafe
  else if 160 ≤ id ∧ id ≤ 163 then srcPlain lvBlock 1 rcLog
  else if 164 ≤ id ∧ id ≤ 171 then srcTrip lvBlock 2 rcFence 3600 3 tpRetire
  else if id = 172 then srcTrip lvBlock 2 rcRetry 3600 4 tpSafe
  else if id = 173 then srcTrip lvBlock 2 rcRetry 86400 8 tpDegrade
  else if id = 174 then srcPlain lvCell 1 rcLog
  else if id = 175 ∨ id = 176 then srcPlain lvCell 2 rcLog
  else if id = 177 ∨ id = 194 ∨ id = 195 ∨ id = 276 ∨ id = 277 then srcPlain lvRegion 3 rcSafe
  else if 178 ≤ id ∧ id ≤ 193 then srcTrip lvCell 1 rcLog 86400 16 tpRetire
  else if 256 ≤ id ∧ id ≤ 275 then srcTrip lvBlock 1 rcRetry 86400 4 tpRetire
  else if 320 ≤ id ∧ id ≤ 351 then srcTrip lvBlock 1 rcRetry 1 1000 tpRetire
  else if id = 352 then srcPlain lvBlock 2 rcLog
  else if id = 353 ∨ id = 358 then srcPlain lvBlock 1 rcLog
  else if 354 ≤ id ∧ id ≤ 357 then srcTrip lvBlock 2 rcFence 600 2 tpRetire
  else if id = 384 then srcPlain lvRegion 3 rcLog
  else if id = 388 then srcPlain lvRegion 1 rcLog
  else if 385 ≤ id ∧ id ≤ 390 then srcPlain lvRegion 2 rcLog
  else srcReserved

/-- The default entry of a source (R467). -/
def sourceDefault (id : Nat) : SourceEntry :=
  if 704 ≤ id then srcTrip lvCell 1 rcLog 86400 4 tpRepair id
  else if 448 ≤ id then actuatorSource ((id - 448) % 64) id
  else lowSource id id

end Sys2Proof.Machine
end

