-- ==== Sys2Proof/Machine/Ops.lean ====
section
/-!
DEFINITION. The named operations over the state: finite maps, byte memories, the object store, the queue of raised
events, the log of outputs, and free values. Every family's meanings are written over these.
-/

namespace Sys2Proof.Machine

/-! ### Finite maps -/

/-- The value under a key. -/
def SMap.find {α : Type} : SMap α → Nat → Option α
  | [], _ => none
  | (j, v) :: r, k => if k = j then some v else if k < j then none else SMap.find r k

/-- Set the value under a key, keeping the keys rising. -/
def SMap.put {α : Type} : SMap α → Nat → α → SMap α
  | [], k, x => [(k, x)]
  | (j, v) :: r, k, x => if k = j then (k, x) :: r else if k < j then (k, x) :: (j, v) :: r else (j, v) :: SMap.put r k x

/-- Remove a key. -/
def SMap.erase {α : Type} : SMap α → Nat → SMap α
  | [], _ => []
  | (j, v) :: r, k => if k = j then r else (j, v) :: SMap.erase r k

/-- All keys of a tail lie above a key. -/
def SMap.above {α : Type} (b : Nat) : SMap α → Bool
  | [] => true
  | (j, _) :: r => decide (b < j) && SMap.above b r

/-- The canonical form: strictly rising keys. -/
def SMap.wf {α : Type} : SMap α → Bool
  | [] => true
  | (j, _) :: r => SMap.above j r && SMap.wf r

/-- Change the value under a key, if there is one. -/
def SMap.mod {α : Type} (m : SMap α) (k : Nat) (f : α → α) : SMap α :=
  match SMap.find m k with
  | some v => SMap.put m k (f v)
  | none => m

/-- The value under a key, or a default. -/
def SMap.findD {α : Type} (m : SMap α) (k : Nat) (d : α) : α := (SMap.find m k).getD d

/-- Keys of a map. -/
def SMap.keys {α : Type} (m : SMap α) : List Nat := m.map (·.1)

/-- A rising list of numbers used as a set. -/
def nset (l : List Nat) (k : Nat) : List Nat :=
  match l with
  | [] => [k]
  | j :: r => if k = j then l else if k < j then k :: l else j :: nset r k

def nunset (l : List Nat) (k : Nat) : List Nat := l.filter (· ≠ k)

/-! ### Vectors by number -/

/-- Change element i of a vector; nothing when there is none. -/
def vmod {α : Type} {n : Nat} (v : Vector α n) (i : Nat) (f : α → α) : Vector α n :=
  if h : i < n then v.set i (f v[i]) else v

/-- Element i of a vector, or a default. -/
def vget {α : Type} {n : Nat} (v : Vector α n) (i : Nat) (d : α) : α :=
  if h : i < n then v[i] else d

/-! ### Numbers and bits -/

/-- Bit i of a number. -/
def bit (n i : Nat) : Bool := n.testBit i

/-- The field [hi:lo] of a number. -/
def fld (n hi lo : Nat) : Nat := (n >>> lo) % 2 ^ (hi + 1 - lo)

/-- Set and clear a bit. -/
def setBit (n i : Nat) : Nat := n ||| (1 <<< i)
def clrBit (n i : Nat) : Nat := if n.testBit i then n - 2 ^ i else n
def putBit (n i : Nat) (b : Bool) : Nat := if b then setBit n i else clrBit n i

/-- The number a list of bits stands for, least significant first. -/
def bits : List Bool → Nat
  | [] => 0
  | b :: r => (if b then 1 else 0) + 2 * bits r

/-- Two's complement: the signed value of a `w`-bit code, and the code of a signed value. -/
def toSigned (w n : Nat) : Int :=
  let m := n % 2 ^ w
  if 2 ^ (w - 1) ≤ m then (m : Int) - (2 ^ w : Nat) else m

def ofSigned (w : Nat) (i : Int) : Nat := (i % (2 ^ w : Nat)).toNat

/-! ### Bytes (R54: little-endian) -/

/-- The number that bytes stand for, least significant first. -/
def leNat : List Byte → Nat
  | [] => 0
  | b :: r => b.toNat + 256 * leNat r

/-- Bytes [off, off + len) of a list, short when the list ends. -/
def slice (l : List Byte) (off len : Nat) : List Byte := (l.drop off).take len

/-- The little-endian field of `len` bytes at `off`. -/
def fieldAt (l : List Byte) (off len : Nat) : Nat := leNat (slice l off len)

/-- Byte i of a list as a number. -/
def byteAt (l : List Byte) (i : Nat) : Nat := (l.getD i 0).toNat

/-- A list padded with zeros to `n` bytes. -/
def padTo (n : Nat) (l : List Byte) : List Byte := l ++ List.replicate (n - l.length) 0

/-! ### Byte memories: lists of cells, strictly rising, no cell equal to what an unlisted address reads as (0) -/

/-- One byte of a memory. -/
def cellRead : List Host.Cell → Nat → Byte
  | [], _ => 0
  | (j, v) :: r, a => if a = j then v else if a < j then 0 else cellRead r a

/-- Write one byte; writing 0 removes the cell. -/
def cellWrite : List Host.Cell → Nat → Byte → List Host.Cell
  | [], a, b => if b = 0 then [] else [(a, b)]
  | (j, v) :: r, a, b =>
    if a = j then (if b = 0 then r else (a, b) :: r)
    else if a < j then (if b = 0 then (j, v) :: r else (a, b) :: (j, v) :: r)
    else (j, v) :: cellWrite r a b

def cellsAbove (b : Nat) : List Host.Cell → Bool
  | [] => true
  | (j, _) :: r => decide (b < j) && cellsAbove b r

/-- The canonical form. -/
def cellsWf : List Host.Cell → Bool
  | [] => true
  | (j, v) :: r => decide (v ≠ 0) && cellsAbove j r && cellsWf r

/-- Read and write runs of bytes. -/
def cellsRead (m : List Host.Cell) (a : Nat) : Nat → List Byte
  | 0 => []
  | n + 1 => cellRead m a :: cellsRead m (a + 1) n

def cellsWrite (m : List Host.Cell) (a : Nat) : List Byte → List Host.Cell
  | [] => m
  | b :: r => cellsWrite (cellWrite m a b) (a + 1) r

/-- Remove the cells of [a, a + n): those bytes read 0. -/
def cellsZero (m : List Host.Cell) (a n : Nat) : List Host.Cell :=
  m.filter fun c => !(decide (a ≤ c.1) && decide (c.1 < a + n))

/-- The canonical form of the byte memories. -/
def Memory.wf (m : Memory) : Bool := cellsWf m.dram && cellsWf m.sram && cellsWf m.secSram

/-- The canonical form of the block's data: the object store and the byte memories (R21, R53). -/
def State.wf (s : State) : Bool := SMap.wf s.objs && s.mem.wf

/-! ### Objects -/

/-- What an object reads before anything has written it: the default of its row; for an event source entry that of R467. -/
def dfltVal (k : Key) : Val :=
  if 0x710000 ≤ k ∧ k < 0x710000 + 1152 then .bytes (sourceDefault (k - 0x710000)).bytes
  else ((findRow k).map (·.dflt)).getD (.num 0)

/-- The value of an object. -/
def State.obj (s : State) (k : Key) : Val := (SMap.find s.objs k).getD (dfltVal k)

def Val.toNum : Val → Nat
  | .num n => n
  | .bytes _ => 0

def Val.toBytes : Val → List Byte
  | .num _ => []
  | .bytes b => b

/-- The value of a scalar object as its unsigned code, and of a signed one as an integer. -/
def State.num (s : State) (k : Key) : Nat := (s.obj k).toNum
def State.str (s : State) (k : Key) : List Byte := (s.obj k).toBytes

/-- Set an object. -/
def State.setObj (s : State) (k : Key) (v : Val) : State := { s with objs := SMap.put s.objs k v }
def State.setNum (s : State) (k : Key) (n : Nat) : State := s.setObj k (.num n)
def State.setStr (s : State) (k : Key) (b : List Byte) : State := s.setObj k (.bytes b)

/-- Size in bytes of a scalar type, and its type code (R54). -/
def Typ.size : Typ → Nat
  | .bool | .u8 | .enum => 1
  | .u16 | .i16 => 2
  | .u32 | .i32 | .bits32 => 4
  | .u64 | .i64 | .q32 | .bits64 => 8
  | .str | .blob | .record => 0

def Typ.code : Typ → Nat
  | .bool => 0x01 | .u8 => 0x02 | .u16 => 0x03 | .u32 => 0x04 | .u64 => 0x05 | .i16 => 0x06 | .i32 => 0x07
  | .i64 => 0x08 | .q32 => 0x09 | .enum => 0x0A | .bits32 => 0x0B | .bits64 => 0x0C | .str => 0x0D | .blob => 0x0E
  | .record => 0x0F

def Typ.scalar (t : Typ) : Bool := decide (t.size ≠ 0)

/-- Bits that a scalar object holds. -/
def widthOf (k : Key) : Nat := ((findRow k).map (fun r => 8 * r.typ.size)).getD 64

/-! ### Free values, events, outputs -/

/-- Draw a free value (log entry 1). -/
def State.draw (s : State) : Nat × State := (Config.freeWord s.free, { s with free := s.free + 1 })

/-- The on-die sensors are read (R47): what they show between two thermal events is a free value (log 61). -/
def State.senseTj (s : State) : State := (s.draw.2).setNum Obj.tjC (s.draw.1 % 65536)

/-- Add to a counter. A count that no longer fits its type is a free value: no rule says what it reads (log entry 3). -/
def State.add (s : State) (k : Key) (n : Nat) : State :=
  let v := s.num k + n
  if v < 2 ^ widthOf k then s.setNum k v
  else (s.draw.2).setNum k (s.draw.1 % 2 ^ widthOf k)

def State.bump (s : State) (k : Key) : State := s.add k 1

/-- Take from a gauge that the hardware lowers. -/
def State.sub (s : State) (k : Key) (n : Nat) : State := s.setNum k (s.num k - n)

/-- Raise an event at a source (R466): it is on its way to its collector until COLLECTOR_EVENT (R472). -/
def State.raiseEv (s : State) (e : Event) : State := { s with raised := s.raised ++ [e] }

def State.raise (s : State) (source : Nat) (unit : Nat := 0) (detail : Nat := 0) : State :=
  s.raiseEv { source := source, unit := unit, detail := detail }

/-- Raise an event of actuator a at its offset k (R467). -/
def State.raiseAct (s : State) (a k : Nat) (unit : Nat := 0) (detail : Nat := 0) : State :=
  s.raise (448 + 64 * a + k) unit detail

/-- Send something out of a port. -/
def State.emit (s : State) (o : Out) : State := { s with outs := o :: s.outs }

/-- The time base: 40 ns ticks (R15). -/
def State.tick (s : State) : Nat := s.num Obj.tick

/-- What time does when nothing is commanded: the time base counts one tick while the main die has power (log entry 4). -/
def idle (s : State) : State := if s.power.powerGood then s.bump Obj.tick else s

/-- Apply an operation for every number of a list. -/
def State.each {α : Type} (s : State) (l : List α) (f : State → α → State) : State := l.foldl f s

/-! ### STATE values (R78) -/

def stRunning : Nat := 0
def stQuiescing : Nat := 1
def stQuiesced : Nat := 2
def stFenced : Nat := 3
def stRetired : Nat := 4

/-! ### Changing one unit -/

def State.modChan (s : State) (a : Nat) (f : Channel → Channel) : State := { s with chan := vmod s.chan a f }
def State.modPlayer (s : State) (p : Nat) (f : Player → Player) : State := { s with players := vmod s.players p f }
def State.modAct (s : State) (a : Nat) (f : Actuator → Actuator) : State := { s with acts := vmod s.acts a f }
def State.modEngine (s : State) (e : Nat) (f : Engine → Engine) : State := { s with engines := vmod s.engines e f }
def State.modGroup (s : State) (g : Nat) (f : Group → Group) : State := { s with groups := vmod s.groups g f }
def State.modTrace (s : State) (a : Nat) (f : Trace → Trace) : State := { s with traces := vmod s.traces a f }
def State.modCtrl (s : State) (p : Port) (f : Controller → Controller) : State :=
  { s with host := { s.host with ctrls := vmod s.host.ctrls (match p with | .a => 0 | .b => 1) f } }

def State.chanOf (s : State) (a : Nat) : Channel := vget s.chan a Channel.reset
def State.playerOf (s : State) (p : Nat) : Player := vget s.players p Player.reset
def State.actOf (s : State) (a : Nat) : Actuator := vget s.acts a Actuator.reset
def State.engineOf (s : State) (e : Nat) : Engine := vget s.engines e (Engine.reset 5 3)
def State.groupOf (s : State) (g : Nat) : Group := vget s.groups g Group.reset

def portNo : Port → Nat
  | .a => 0
  | .b => 1

def State.ctrl (s : State) (p : Port) : Controller := vget s.host.ctrls (portNo p) Controller.reset

end Sys2Proof.Machine
end

