-- ==== Sys2Proof/Machine/Operands.lean ====
section
/-!
DEFINITION. How the operands are coded: CRC-32C and CRC-16, the field GF(2^8) of P and Q, the sector payload, zone
records and the placement of sectors, images, the table bundle and what its sections hold.
-/

namespace Sys2Proof.Machine

/-! ### CRCs -/

/-- Eight shifts of the reflected CRC-32C register (R138: polynomial 0x1EDC6F41, reflected 0x82F63B78). -/
def crc32cBits : Nat → Nat → Nat
  | 0, c => c
  | n + 1, c => crc32cBits n (if c % 2 = 1 then (c / 2) ^^^ 0x82F63B78 else c / 2)

/-- The CRC-32C register after bytes, starting from a register state. -/
def crc32cReg (c : Nat) (l : List Byte) : Nat := l.foldl (fun c b => crc32cBits 8 (c ^^^ b.toNat)) c

/-- CRC-32C of bytes: initial value and final XOR of all ones (R138). -/
def crc32c (l : List Byte) : Nat := crc32cReg 0xFFFFFFFF l ^^^ 0xFFFFFFFF

def crc16Bits : Nat → Nat → Nat
  | 0, c => c
  | n + 1, c => crc16Bits n (if 0x8000 ≤ c then ((c * 2) % 0x10000) ^^^ 0x1021 else (c * 2) % 0x10000)

/-- The CRC-16 of the factory port (R76: polynomial 0x1021, initial value 0xFFFF). -/
def crc16 (l : List Byte) : Nat := l.foldl (fun c b => crc16Bits 8 (c ^^^ (b.toNat * 256))) 0xFFFF

/-! ### GF(2^8) with 0x11D (R369) -/

def gfDouble (x : Nat) : Nat := if 128 ≤ x then ((2 * x) ^^^ 0x11D) % 256 else 2 * x

/-- x · g^n, g = 2. -/
def gfMulPow (x : Nat) : Nat → Nat
  | 0 => x
  | n + 1 => gfDouble (gfMulPow x n)

/-- Product of two field elements, by shift and add over the eight bits of the second. -/
def gfMul (x y : Nat) : Nat :=
  (List.range 8).foldl (fun acc i => if y.testBit i then acc ^^^ gfMulPow x i else acc) 0

/-- Inverse: x^254. -/
def gfInv (x : Nat) : Nat := (List.range 253).foldl (fun acc _ => gfMul acc x) x

/-! ### The sector payload (R137) -/

/-- Length of a sector's payload in bytes. -/
def payloadLen : Nat := 4112

/-- The 8-byte prefix of SCRC: the DBA (R138), or the reserved band's value (R145). -/
def dbaPrefix (dba : Nat) : List Byte := leBytes 8 dba
def bandPrefix (surface track psector : Nat) : List Byte :=
  leBytes 8 (2 ^ 63 + surface * 2 ^ 48 + track * 2 ^ 16 + psector)

/-- The 32-bit register state after the prefix: the seed a sector table carries (R138). -/
def scrcSeed (pfx : List Byte) : Nat := crc32cReg 0xFFFFFFFF pfx

/-- SCRC from a seed over payload bytes 0–4,103. -/
def scrcOf (seed : Nat) (payload : List Byte) : Nat := crc32cReg seed (payload.take 4104) ^^^ 0xFFFFFFFF

/-- Whether a payload's stored SCRC matches (R138). -/
def scrcGood (seed : Nat) (payload : List Byte) : Bool := decide (fieldAt payload 4104 4 = scrcOf seed payload)

def payloadGen (payload : List Byte) : Nat := fieldAt payload 4108 3
def payloadFlags (payload : List Byte) : Nat := byteAt payload 4111

/-- A payload from ciphertext, protection information, SCRC seed, generation and FLAGS (R137). -/
def mkPayload (cipher pi : List Byte) (seed gen flags : Nat) : List Byte :=
  let head := padTo 4096 (cipher.take 4096) ++ padTo 8 (pi.take 8)
  head ++ leBytes 4 (scrcOf seed head) ++ leBytes 3 gen ++ [BitVec.ofNat 8 flags]

/-! ### Zone records (R140) and placement (R141) -/

structure Zone where
  firstTrack : Nat
  trackCount : Nat
  adcKsps : Nat
  bitKbps : Nat
  dataT : Nat
  sectors : Nat
  spare : Nat
  parityCirc : Nat
  trackSkew : Nat
  headSkew : Nat
  writeCurrent : Nat
  laserCurrent : Nat
  eqPreset : Nat
  heater : Nat
  deriving DecidableEq, Repr

def zoneOf (r : List Byte) : Zone where
  firstTrack := fieldAt r 0 4
  trackCount := fieldAt r 4 4
  adcKsps := fieldAt r 8 4
  bitKbps := fieldAt r 12 4
  dataT := fieldAt r 16 4
  sectors := fieldAt r 20 2
  spare := byteAt r 22
  parityCirc := byteAt r 23
  trackSkew := fieldAt r 24 2
  headSkew := fieldAt r 26 2
  writeCurrent := byteAt r 28
  laserCurrent := byteAt r 29
  eqPreset := byteAt r 30
  heater := byteAt r 31

/-- Ranges of a zone record (R140). -/
def Zone.ok (z : Zone) : Bool :=
  decide (4096 ≤ z.firstTrack) && decide (z.firstTrack ≤ 0xFFFFFF) && decide (1 ≤ z.trackCount) &&
  decide (z.bitKbps ≤ z.adcKsps) && decide (z.adcKsps ≤ 4600000) && decide (z.bitKbps ≤ 4400000) &&
  decide (4096 ≤ z.dataT) && decide (z.dataT ≤ 262143) && decide (1 ≤ z.sectors) && decide (z.sectors ≤ 1020) &&
  decide (z.spare ≤ 32) && decide (z.sectors + z.spare ≤ 1024) && decide (20 ≤ z.parityCirc) &&
  decide (z.parityCirc ≤ 49) && decide (z.trackSkew ≤ 599) && decide (z.headSkew ≤ 599) && decide (z.eqPreset ≤ 63)

/-- SECTOR_T and SM2_AT of a zone with m parity circulants (R136). -/
def sectorT (m : Nat) : Nat := 128 * (257 + m) + 184
def sm2At (m : Nat) : Nat := 128 + 64 * (257 + m)

/-- Start wedge W0 of a track (R141). -/
def startWedge (z : Zone) (track surface : Nat) : Nat :=
  (track * z.trackSkew + surface % 12 * z.headSkew) % 600

/-- The inner loop of R141 for one sector: the relative wedge and position where it ends. -/
def placeRest (dataT m : Nat) : Nat → Nat → Nat → Nat → Nat × Nat
  | 0, w, pos, _ => (w, pos)
  | fuel + 1, w, pos, done =>
    if sectorT m ≤ done then (w, pos)
    else
      let room := dataT - pos
      if sectorT m - done ≤ room + 24 then (w, min dataT (pos + sectorT m - done))
      else
        let cut := done + room
        let cut := if sm2At m < cut ∧ cut < sm2At m + 32 then sm2At m else cut
        placeRest dataT m fuel (w + 1) 48 cut

/-- Relative wedge and position at which each physical sector starts, and the wedge and position after the last. -/
def placeAll (dataT m : Nat) : Nat → Nat → Nat → List (Nat × Nat) × (Nat × Nat)
  | 0, w, pos => ([], (w, pos))
  | n + 1, w, pos =>
    let (w, pos) := if dataT - pos < 128 then (w + 1, 0) else (w, pos)
    let (w', pos') := placeRest dataT m 64 w pos 0
    let r := placeAll dataT m n w' pos'
    ((w, pos) :: r.1, r.2)

/-- The placement of a zone's physical sectors (R141). -/
def Zone.place (z : Zone) : List (Nat × Nat) := (placeAll z.dataT z.parityCirc (z.sectors + z.spare) 0 0).1

/-- Whether the zone fits a revolution (R141). -/
def Zone.fits (z : Zone) : Bool :=
  decide ((placeAll z.dataT z.parityCirc (z.sectors + z.spare) 0 0).2.1 ≤ 599)

/-! ### Images and bundles (R105–R107, R149, R150) -/

/-- A section entry: type, offset, length, CRC-32C. -/
abbrev Section := Nat × Nat × Nat × Nat

def sectionsOf (img : List Byte) (base n : Nat) : List Section :=
  ((List.range n).map fun i =>
    let o := base + 16 * i
    (fieldAt img o 4, fieldAt img (o + 4) 4, fieldAt img (o + 8) 4, fieldAt img (o + 12) 4)).filter (·.1 ≠ 0)

def imageSections (img : List Byte) : List Section := sectionsOf img 32 8
def bundleSections (b : List Byte) : List Section := sectionsOf b 64 16

/-- The bytes of the section of a type, empty when there is none. -/
def sectionData (img : List Byte) (secs : List Section) (typ : Nat) : List Byte :=
  match secs.find? (·.1 = typ) with
  | some (_, o, l, _) => slice img o l
  | none => []

/-- A valid image header (R105). -/
def imageHeaderOk (img : List Byte) : Bool :=
  decide (fieldAt img 0 4 = 0x46495A4F) && decide (fieldAt img 4 2 = 1) && decide (fieldAt img 6 2 = 0x4848) &&
  decide (fieldAt img 4092 4 = crc32c (img.take 4092))

/-- The length rule of R105 (images) and R149 (bundles, up to 16 MiB). -/
def lengthOk (len max : Nat) : Bool := decide (len % 4096 = 0) && decide (65536 ≤ len) && decide (len ≤ max)

def imageLen (img : List Byte) : Nat := fieldAt img 20 4
def imageSecurityVersion (img : List Byte) : Nat := fieldAt img 16 4
def imageHandoff (img : List Byte) : Nat := fieldAt img 26 2
def bundleGen (b : List Byte) : Nat := fieldAt b 8 4

/-- The signature block (R106). -/
def sigBlock (img : List Byte) (len : Nat) : List Byte := slice img (len - 12288) 12288

def sigDigest (sb : List Byte) : List Byte := slice sb 8 64

/-- OWNER_SIG verifies under an owner key (R106, R107 check 4). -/
def ownerSigOk (sb ownerKey : List Byte) : Bool :=
  bit (fieldAt sb 4 4) 0 &&
  Config.mldsaVerify ownerKey (Config.shake256 (sigDigest sb ++ slice sb 2024 3309) 64).toList (slice sb 5333 3309)

/-- The checks of R107 on an image or bundle of `len` bytes whose mandatory section types are 1 to `mand`. -/
def signatureChecks (img : List Byte) (len secVersion mand : Nat) (secs : List Section) (ownerKey : List Byte)
    (minSec : Nat) : Bool :=
  let sb := sigBlock img len
  decide (fieldAt sb 0 4 = 0x4B535A4F) &&
  decide (sigDigest sb = (Config.shake256 (img.take (len - 12288)) 64).toList) &&
  decide ((Config.shake256 (slice sb 72 1952) 32).toList = Config.fuseKeyDigest) &&
  Config.mldsaVerify (slice sb 72 1952) (sigDigest sb) (slice sb 2024 3309) &&
  (ownerKey.isEmpty || ownerSigOk sb ownerKey) &&
  decide (minSec ≤ secVersion) &&
  secs.all (fun (_, o, l, c) => decide (o + l ≤ len) && decide (crc32c (slice img o l) = c)) &&
  (List.range mand).all (fun t => decide ((secs.filter (·.1 = t + 1)).length = 1)) &&
  decide (secs.map (·.1)).Nodup

/-- An image is accepted (R105, R107). -/
def imageAccepted (img ownerKey : List Byte) (minSec : Nat) : Bool :=
  imageHeaderOk img && lengthOk (imageLen img) (24 * 2 ^ 20) && decide (imageLen img ≤ img.length) &&
  signatureChecks img (imageLen img) (imageSecurityVersion img) 7 (imageSections img) ownerKey minSec

/-- A valid bundle header (R149). -/
def bundleHeaderOk (b : List Byte) : Bool :=
  decide (fieldAt b 0 4 = 0x42545A4F) && decide (fieldAt b 4 2 = 1) && decide (fieldAt b 6 2 = 0x4848) &&
  decide (bundleGen b ≠ 0) && decide (fieldAt b 4092 4 = crc32c (b.take 4092))

def bundleLen (b : List Byte) : Nat := fieldAt b 16 4
def bundleRpm (b : List Byte) : Nat := fieldAt b 20 2
def bundleEnclosure (b : List Byte) : Nat := fieldAt b 22 2
def bundleMask (b : List Byte) : Nat := fieldAt b 24 8
def bundleFormatId (b : List Byte) : List Byte := slice b 32 32
def bundleSection (b : List Byte) (typ : Nat) : List Byte := sectionData b (bundleSections b) typ

/-- Surfaces of a 48-bit mask, ascending. -/
def surfacesOf (mask : Nat) : List Nat := (List.range 48).filter (bit mask)

/-- The zone-table block of a surface (R150 type 1): header of 32 bytes, 64 records of 32 bytes. -/
def zoneBlock (b : List Byte) (surface : Nat) : List Byte :=
  match ((surfacesOf (bundleMask b)).zipIdx).find? (·.1 = surface) with
  | some (_, i) => slice (bundleSection b 1) (2080 * i) 2080
  | none => []

def zonesOfBlock (blk : List Byte) : List Zone :=
  (List.range (byteAt blk 1)).map fun i => zoneOf (slice blk (32 + 32 * i) 32)

/-- The zones of a surface under a bundle. -/
def zonesOf (b : List Byte) (surface : Nat) : List Zone := zonesOfBlock (zoneBlock b surface)

/-- Zone of a track, and its number. -/
def zoneAt (zs : List Zone) (track : Nat) : Option (Zone × Nat) :=
  zs.zipIdx.find? fun (z, _) => decide (z.firstTrack ≤ track) && decide (track < z.firstTrack + z.trackCount)

/-- A defect entry (R143). -/
structure Defect where
  track : Nat
  kind : Nat
  psector : Nat
  count : Nat
  offset : Nat
  len : Nat
  origin : Nat
  deriving DecidableEq, Repr

def defectOf (r : List Byte) : Defect where
  track := fieldAt r 0 3
  kind := byteAt r 3
  psector := fieldAt r 4 2
  count := fieldAt r 6 2
  offset := fieldAt r 8 4
  len := fieldAt r 12 2
  origin := byteAt r 14

/-- The order of a list: TRACK, then KIND, then PSECTOR or WEDGE (R143). -/
def Defect.order (d : Defect) : Nat := (d.track * 256 + d.kind) * 65536 + d.psector

/-- The primary lists of section 2: per covered surface a 16-byte header and its entries. -/
def defectLists : Nat → List Byte → List (List Defect)
  | 0, _ => []
  | n + 1, l =>
    let c := fieldAt l 4 4
    ((List.range c).map fun i => defectOf (slice l (16 + 16 * i) 16)) :: defectLists n (l.drop (16 + 16 * c))

/-- The primary defects of a surface. -/
def primaryDefects (b : List Byte) (surface : Nat) : List Defect :=
  let ss := surfacesOf (bundleMask b)
  match (ss.zip (defectLists ss.length (bundleSection b 2))).find? (·.1 = surface) with
  | some (_, l) => l
  | none => []

/-- Zones contiguous from track 4,096 and ending no higher than 0xFF_FFFF (R140). -/
def zonesContiguous : Nat → List Zone → Bool
  | next, [] => decide (next ≤ 0x1000000)
  | next, z :: r => decide (z.firstTrack = next) && zonesContiguous (next + z.trackCount) r

def rising : List Nat → Bool
  | a :: b :: r => decide (a ≤ b) && rising (b :: r)
  | _ => true

/-- The Defects row of R151 for one surface. -/
def defectsOk (zs : List Zone) (ds : List Defect) : Bool :=
  rising (ds.map Defect.order) &&
  ds.all (fun d => decide (1 ≤ d.kind ∧ d.kind ≤ 3) && (zoneAt zs d.track).isSome) &&
  ds.all (fun d => match zoneAt zs d.track with
    | some (z, _) =>
      decide (((ds.filter fun e => e.track = d.track ∧ e.kind = 1).map (·.count)).sum ≤ z.spare) ||
      ds.any (fun e => decide (e.track = d.track ∧ e.kind = 3)) || decide (d.kind ≠ 1)
    | none => false)

/-! ### Seek profiles (R267) -/

structure Profile where
  number : Nat
  actuators : Nat
  distMin : Nat
  distMax : Nat
  distRef : Nat
  wedges : Nat
  peakMa : Nat
  peakWedge : Nat
  /-- per wedge: SHAPE, FF in mA -/
  samples : List (Nat × Int)
  deriving DecidableEq, Repr

def profileLen (l : List Byte) : Nat := (32 + 4 * fieldAt l 16 2 + 15) / 16 * 16

def profileOf (l : List Byte) : Profile where
  number := fieldAt l 0 2
  actuators := byteAt l 2
  distMin := fieldAt l 4 4
  distMax := fieldAt l 8 4
  distRef := fieldAt l 12 4
  wedges := fieldAt l 16 2
  peakMa := fieldAt l 18 2
  peakWedge := fieldAt l 20 2
  samples := (List.range (fieldAt l 16 2)).map fun i =>
    (fieldAt l (32 + 4 * i) 2, toSigned 16 (fieldAt l (34 + 4 * i) 2))

def profileList : Nat → List Byte → List Profile
  | 0, _ => []
  | n + 1, l => profileOf l :: profileList n (l.drop (profileLen l))

/-- The profiles of a bundle's section 4. -/
def profilesOf (b : List Byte) : List Profile :=
  let sec := bundleSection b 4
  profileList (fieldAt sec 0 4) (sec.drop 16)

/-- The ranges of R267 and the PEAK_MA check. -/
def Profile.ok (p : Profile) : Bool :=
  decide (p.number ≤ 0xFFFE) && decide (p.actuators ≤ 15) && decide (1 ≤ p.distMin) && decide (p.distMin ≤ p.distMax) &&
  decide (1 ≤ p.distRef) && decide (1 ≤ p.wedges) && decide (p.wedges ≤ 1024) &&
  decide ((p.samples.getLast?.map (·.1)) = some 65535) &&
  p.samples.all (fun s => decide (s.2.natAbs * p.distMax ≤ p.peakMa * p.distRef))

/-! ### Coupling tables (R325) -/

structure Coupling where
  enclosure : Nat
  d : Int
  srcAct : Nat
  k : List Int
  delayUs : Nat
  deriving DecidableEq, Repr

def couplingOf (l : List Byte) : Coupling where
  enclosure := fieldAt l 0 2
  d := toSigned 8 (byteAt l 2)
  srcAct := byteAt l 3
  k := (List.range 4).map fun i => toSigned 16 (fieldAt l (4 + 2 * i) 2)
  delayUs := fieldAt l 12 2

def couplingsOf (b : List Byte) : List Coupling :=
  let sec := bundleSection b 6
  (List.range (fieldAt sec 4 2)).map fun i => couplingOf (slice sec (16 + 16 * i) 16)

def profileSetId (b : List Byte) : Nat := fieldAt (bundleSection b 6) 0 4

def hasCoupling (b : List Byte) : Bool := (bundleSections b).any (·.1 = 6)

/-! ### Stitch maps (R374, R375) -/

/-- A map of section 3 with its fields as R374 lays them out; the whole map's bytes for its DIGEST. -/
structure RawMap where
  map : StitchMap
  entries : Nat
  digest : List Byte
  raw : List Byte
  deriving DecidableEq, Repr

def rawMapLen (l : List Byte) : Nat := (64 + 4 * fieldAt l 20 4 + 15) / 16 * 16

def rawMapOf (l : List Byte) : RawMap where
  map :=
    { layoutId := fieldAt l 0 2, typ := byteAt l 2, k := byteAt l 3, m := byteAt l 4, periodRows := byteAt l 5
      periodStripes := byteAt l 6, actMax := byteAt l 7, surfaces := fieldAt l 8 8, spare := byteAt l 16
      positions := (List.range (fieldAt l 20 4)).map fun i =>
        (byteAt l (64 + 4 * i + 3), fieldAt l (64 + 4 * i) 2) }
  entries := fieldAt l 20 4
  digest := slice l 24 32
  raw := slice l 0 (64 + 4 * fieldAt l 20 4)

def rawMapList : Nat → List Byte → List RawMap
  | 0, _ => []
  | n + 1, l => rawMapOf l :: rawMapList n (l.drop (rawMapLen l))

def rawMapsOf (b : List Byte) : List RawMap :=
  let sec := bundleSection b 3
  rawMapList (byteAt sec 0) (sec.drop 16)

/-- Member j of stripe i of a period. -/
def StitchMap.member (m : StitchMap) (i j : Nat) : Nat × Nat := m.positions.getD (i * (m.k + m.m) + j) (0, 0)

def StitchMap.stripe (m : StitchMap) (i : Nat) : List (Nat × Nat) :=
  (List.range (m.k + m.m)).map (m.member i)

/-- The spare positions, in the map's order. -/
def StitchMap.spares (m : StitchMap) : List (Nat × Nat) := m.positions.drop (m.periodStripes * (m.k + m.m))

/-- How much a list of counts varies. -/
def spread (l : List Nat) : Nat := l.foldl max 0 - l.foldl min (l.headD 0)

/-- Pairs of distinct elements. -/
def pairs : List Nat → List (Nat × Nat)
  | [] => []
  | a :: r => r.map (fun b => (a, b)) ++ pairs r

/-- The checks of R375. -/
def RawMap.ok (r : RawMap) (union : Nat) : Bool :=
  let m := r.map
  let ss := surfacesOf m.surfaces
  let stripes := (List.range m.periodStripes).map m.stripe
  let acts := (ss.map (· / 12)).dedup
  decide (m.surfaces = union) && decide (1 ≤ m.periodRows ∧ m.periodRows ≤ 16) &&
  decide (1 ≤ m.periodStripes ∧ m.periodStripes ≤ 255) &&
  decide (r.entries = ss.length * m.periodRows) && decide (m.positions.Nodup) &&
  m.positions.all (fun (s, w) => decide (s ∈ ss) && decide (w < m.periodRows)) &&
  decide (m.periodStripes * (m.k + m.m) + m.spare * m.periodRows = r.entries) &&
  (match m.typ with
   | 0 => decide (m.k = 16 ∧ m.m = 0 ∧ m.actMax = 4)
   | 1 => decide (m.k ∈ [8, 12, 16, 20] ∧ m.m = 2 ∧ m.actMax = (m.k + 2 + 3) / 4)
   | 2 => decide (m.k = 6 ∧ m.m = 2 ∧ m.actMax = 2 ∧ acts.length = 4) &&
     stripes.all (fun st => (List.range 4).all fun a => decide ((st.filter fun p => p.1 / 12 = a).length = 2))
   | _ => false) &&
  stripes.all (fun st => decide (st.map (·.1)).Nodup &&
    (List.range 4).all fun a => decide ((st.filter fun p => p.1 / 12 = a).length ≤ m.actMax)) &&
  decide (spread ((pairs ss).map fun (a, b) => (stripes.filter fun st =>
    st.any (fun p => decide (p.1 = a)) && st.any (fun p => decide (p.1 = b))).length) ≤ 2) &&
  decide (spread (ss.map fun a => (stripes.flatMap fun st => (st.drop m.k).filter fun p => p.1 = a).length) ≤ 1) &&
  decide (spread (ss.map fun a => (m.spares.filter fun p => p.1 = a).length) ≤ 1) &&
  decide (r.digest = (Config.shake256 (r.raw.take 24 ++ List.replicate 32 0 ++ r.raw.drop 56) 32).toList)

/-! ### The table bundle's own checks (R151) -/

/-- No two entries for the same enclosure type, D and SRC_ACT (R325). -/
def couplingsOk (cs : List Coupling) : Bool := decide (cs.map fun c => (c.enclosure, c.d, c.srcAct)).Nodup

/-- The rows of R151 that do not depend on whether a namespace exists. -/
def bundleConsistent (b : List Byte) (union rpm : Nat) : Bool :=
  let ss := surfacesOf (bundleMask b)
  let profs := profilesOf b
  decide (bundleMask b = union) && decide (bundleRpm b = rpm) &&
  ss.all (fun s =>
    let zs := zonesOf b s
    decide (1 ≤ zs.length ∧ zs.length ≤ 64) && zs.all Zone.ok && zonesContiguous 4096 zs && zs.all Zone.fits &&
    defectsOk zs (primaryDefects b s)) &&
  decide (bundleFormatId b = (Config.shake256 (bundleSection b 1 ++ bundleSection b 2) 32).toList) &&
  profs.all Profile.ok && decide (profs.map (·.number)).Nodup &&
  (let ms := rawMapsOf b
   ms.all (·.ok union) && decide (ms.map (·.map.layoutId)).Nodup) &&
  couplingsOk (couplingsOf b)

/-- A bundle passes R107 and R151; `loaded` is the bundle whose FORMAT_ID it must keep, if a namespace exists. -/
def bundleAccepted (b ownerKey : List Byte) (minSec union rpm : Nat) (loaded : Option (List Byte)) : Bool :=
  bundleHeaderOk b && lengthOk (bundleLen b) (16 * 2 ^ 20) && decide (bundleLen b ≤ b.length) &&
  signatureChecks b (bundleLen b) (fieldAt b 12 4) 5 (bundleSections b) ownerKey minSec &&
  bundleConsistent b union rpm &&
  (match loaded with
   | some l => decide (bundleFormatId b = bundleFormatId l)
   | none => true)

end Sys2Proof.Machine
end

