-- ==== Sys2Proof/Machine/Store.lean ====
section
/-!
DEFINITION. The store copies in NOR: STORE, record stores and their commit (R62–R66).
-/

namespace Sys2Proof.Machine

/-- The newest valid store copy: its place and itself (R64). -/
def newestCopy (s : State) : Option (Nat × StoreCopy) :=
  let a := s.dict.copies[0]
  let b := s.dict.copies[1]
  if a.valid && (!b.valid || decide (b.seq < a.seq)) then some (0, a)
  else if b.valid then some (1, b) else none

/-- The stored values and the RESTORE_DEFAULTS flag of the newest copy. -/
def storedValues (s : State) : SMap Val := ((newestCopy s).map (·.2.values)).getD []
def storedFlag (s : State) : Bool := ((newestCopy s).map (·.2.restoreFlag)).getD false

/-- Keys of one row of the table. -/
def ObjRow.keys (r : ObjRow) : List Key :=
  (List.range r.n).flatMap fun i => (List.range r.subN).map fun j => key (r.idx + i * r.step) (r.sub + j)

/-- Keys of every stored object. -/
def storedKeys : List Key :=
  ((objTable.filter (·.stored)).flatMap ObjRow.keys).filter fun k => (findRow k).isSome

/-- The objects that RESTORE_DEFAULTS does not touch: those only class F may write, the retirement records and the
hold-up values (R65). -/
def keepsThroughRestore (k : Key) : Bool :=
  decide (k = Obj.retiredUnits) || decide (k = Obj.retiredPages) || decide (k = Obj.holdupLastMj) ||
  decide (k = Obj.vmMinMv) ||
  match findRow k with
  | some r => bit (fld r.acc 3 2) 1 && !bit (fld r.acc 9 8) 1 && !bit (fld r.acc 7 6) 1 && !bit (fld r.acc 5 4) 1 &&
      !bit (fld r.acc 1 0) 1
  | none => true

/-- A snapshot of every stored object over what the newest copy already holds (R62: unknown stored values are carried
forward; R63). -/
def storeSnapshot (s : State) : SMap Val :=
  storedKeys.foldl (fun m k => SMap.put m k (s.obj k)) (storedValues s)

/-- The keys of a record (R66). -/
def RecordKind.keys : RecordKind → List Key
  | .retiredUnits => [Obj.retiredUnits]
  | .retiredPages => [Obj.retiredPages]
  | .restoreFlag => []
  | .holdup => [Obj.holdupLastMj, Obj.vmMinMv]

def State.setJob (s : State) (j : Option StoreJob) : State := { s with dict := { s.dict with job := j } }

/-- STORE is accepted: the snapshot is taken and STORE_STATE reads STORING (R63). -/
def storeBegin (s : State) : State :=
  (s.setJob (some ⟨true, none, storeSnapshot s⟩)).setNum Obj.storeState 1

/-- A record store starts (R66): the record has its current value. -/
def recordBegin (s : State) (k : RecordKind) : State :=
  let values := k.keys.foldl (fun m j => SMap.put m j (s.obj j)) []
  let flag := match k with
    | .restoreFlag => some (decide (s.num Obj.restoreDefaults = 1))
    | _ => none
  (s.setJob (some ⟨false, flag, values⟩)).setNum Obj.storeState 1

/-- RECORD_STORE (R66): it waits for a store that is already running. -/
def recordStore (s : State) (k : RecordKind) : State :=
  match s.dict.job with
  | none => recordBegin s k
  | some _ => { s with dict := { s.dict with waitingRecords := s.dict.waitingRecords ++ [k] } }

/-- The copy that a store overwrites: the older one (R64). -/
def olderCopy (s : State) : Nat := match newestCopy s with
  | some (0, _) => 1
  | _ => 0

/-- What a store's copy holds of the stored objects: its snapshot, or its record over the newest copy (R63, R66). -/
def StoreJob.stored (s : State) (j : StoreJob) : SMap Val :=
  if j.whole then j.values else j.values.foldl (fun m e => SMap.put m e.1 e.2) (storedValues s)

/-- The RESTORE_DEFAULTS flag that a store's copy holds. -/
def StoreJob.restores (s : State) (j : StoreJob) : Bool := j.flag.getD (storedFlag s)

/-- The RESTORE_DEFAULTS request as last written, whether its record store has committed or not (R65). -/
def restoreAsked (s : State) : Bool :=
  if s.dict.waitingRecords.contains .restoreFlag then decide (s.num Obj.restoreDefaults = 1)
  else (s.dict.job.bind (·.flag)).getD (storedFlag s)

/-- The request is settled: a record store of it that has not committed commits no flag of its own. -/
def settleRestore (s : State) : State :=
  { s with dict := { s.dict with
      job := s.dict.job.map fun j => { j with flag := none }, waitingRecords := s.dict.waitingRecords.filter (· ≠ .restoreFlag) } }

/-- The copy in NOR after a store. -/
def commitCopy (s : State) (j : StoreJob) : State :=
  let (seq, count) := match newestCopy s with
    | some (_, c) => (c.seq + 1, c.count + 1)
    | none => (1, 1)
  { s with dict := { s.dict with
      copies := vmod s.dict.copies (olderCopy s) fun _ => ⟨true, seq, j.restores s, count, j.stored s⟩ } }

/-- The next record store that waits, if one does. -/
def nextRecord (s : State) : State :=
  match s.dict.waitingRecords with
  | [] => s
  | k :: r => recordBegin { s with dict := { s.dict with waitingRecords := r } } k

/-- STORE_COMMIT (R64): the store finishes programming, or has failed twice; a record store that waits follows. -/
def execStoreCommit (programmed : Bool) (s : State) : Host.Outcome State Fault Refusal :=
  match s.dict.job with
  | none => .next s
  | some j =>
    let s := if programmed then (commitCopy s j).setNum Obj.storeResult 0x00
      else (s.setNum Obj.storeResult 0x08).raise 71
    .next (nextRecord ((s.setJob none).setNum Obj.storeState 0))

end Sys2Proof.Machine
end

