-- ==== Sys2Proof/Machine/Memory.lean ====
section
/-!
DEFINITION. Buffer memory, page retirement and the system cache (R423–R445), the keeper store's slots, and the cores'
loads, stores and fetches (R21).
-/

namespace Sys2Proof.Machine

/-! ### DRAM -/

def dramBase : Nat := 0x800000000
def dramEnd : Nat := 0x9C0000000

/-- Bytes [a, a + n) lie wholly in usable DRAM (R21). -/
def inDram (a n : Nat) : Bool := decide (dramBase ≤ a) && decide (a + n ≤ dramEnd)

/-- Page of an address, and its first address (R423). -/
def pageOf (a : Nat) : Nat := (a - dramBase) / 4096
def pageAddr (n : Nat) : Nat := dramBase + 4096 * n
def pageCount : Nat := 1835008

/-- First address of the 64-byte block that holds an address (R424). -/
def blockOf (a : Nat) : Nat := a / 64 * 64

/-- Device-owned pages: the table of R423 without the spare pages. -/
def deviceOwned (page : Nat) : Bool :=
  let a := pageAddr page
  decide (0x997800000 ≤ a) && !(decide (0x99B000000 ≤ a) && decide (a < 0x99C000000))

def protectedBase : Nat := 0x99C000000

/-- Numbers from lo to hi - 1. -/
def span (lo hi : Nat) : List Nat := (List.range (hi - lo)).map (lo + ·)

/-- Blocks and pages that bytes [a, a + n) touch. -/
def blocksOf (a n : Nat) : List Nat := if n = 0 then [] else (span (a / 64) ((a + n - 1) / 64 + 1)).map (64 * ·)
def pagesOf (a n : Nat) : List Nat := if n = 0 then [] else span (pageOf a) (pageOf (a + n - 1) + 1)

/-- The slot descriptor and payload of a protected-cache slot as bytes (R431). -/
def slotDescriptor (c : CacheSlot) : List Byte :=
  [BitVec.ofNat 8 c.state, BitVec.ofNat 8 c.nsid, 0, 0] ++ leBytes 8 c.dba ++ leBytes 8 c.admission

def slotBytes (c : CacheSlot) : List Byte :=
  let d := slotDescriptor c
  padTo 4112 (c.payload.take 4112) ++ d ++ leBytes 4 (c.crcBad.getD (crc32c d)) ++ List.replicate 24 0

def slotOfBytes (b : List Byte) : CacheSlot :=
  let c : CacheSlot := { payload := b.take 4112, state := byteAt b 4112, nsid := byteAt b 4113, dba := fieldAt b 4116 8
                         admission := fieldAt b 4124 8 }
  { c with crcBad := if fieldAt b 4132 4 = crc32c (slotDescriptor c) then none else some (fieldAt b 4132 4) }

/-- The cache index rebuilt from the descriptors (R432): a slot counts when its CRC is valid and it is DIRTY, and of two that hold one block
the one with the higher ADMISSION; the others are FREE. -/
def indexCache (m : SMap CacheSlot) : SMap CacheSlot :=
  let counts (e : Nat × CacheSlot) : Bool := decide (e.2.state = 1) && e.2.crcBad.isNone
  m.map fun e =>
    if counts e && !(m.any fun x => counts x && decide (x.2.dba = e.2.dba) && decide (e.2.admission < x.2.admission)) then e
    else (e.1, { e.2 with state := 0 })

/-- The protected-cache slot that holds an address, and the offset in it (R431). -/
def slotAt (a : Nat) : Option (Nat × Nat) :=
  if 0x99C020000 ≤ a ∧ a < 0x99C020000 + 4160 * 129024 then some ((a - 0x99C020000) / 4160, (a - 0x99C020000) % 4160)
  else none

/-- Protected-cache slots whose block is not yet on the medium (R431). -/
def dirtySlots (s : State) : List (Nat × CacheSlot) := s.mem.cache.filter fun e => decide (e.2.state = 1)

/-- One byte of DRAM: of a protected-cache slot where one is filled, otherwise of the byte store. -/
def dramByte (m : Memory) (a : Nat) : Byte :=
  match slotAt a with
  | some (k, o) => match SMap.find m.cache k with
    | some c => (slotBytes c).getD o 0
    | none => cellRead m.dram a
  | none => cellRead m.dram a

def dramRead (m : Memory) (a n : Nat) : List Byte := (List.range n).map fun i => dramByte m (a + i)

def dramPutByte (m : Memory) (a : Nat) (b : Byte) : Memory :=
  match slotAt a with
  | some (k, o) => match SMap.find m.cache k with
    | some c => { m with cache := SMap.put m.cache k (slotOfBytes ((slotBytes c).set o b)) }
    | none => { m with dram := cellWrite m.dram a b }
  | none => { m with dram := cellWrite m.dram a b }

def dramPut (m : Memory) (a : Nat) : List Byte → Memory
  | [] => m
  | b :: r => dramPut (dramPutByte m a b) (a + 1) r

/-- Whether bytes [a, a + n) touch a poisoned block (R424). -/
def dramPoisoned (m : Memory) (a n : Nat) : Bool := (blocksOf a n).any (m.poison.contains ·)

/-- A write of DRAM: pages become written (R429), whole blocks lose their poison (R425), the blocks' repeat-filter
entries go (R426). -/
def dramWriteM (m : Memory) (a : Nat) (data : List Byte) : Memory :=
  let n := data.length
  let bs := blocksOf a n
  let whole := bs.filter fun b => decide (a ≤ b) && decide (b + 64 ≤ a + n)
  let m := dramPut m a data
  { m with
    written := (pagesOf a n).foldl nset m.written
    poison := m.poison.filter fun b => !whole.contains b
    filter := m.filter.filter fun e => !bs.contains e.1 }

def dramWrite (s : State) (a : Nat) (data : List Byte) : State := { s with mem := dramWriteM s.mem a data }

/-- Write blocks with the poison pattern (R425). -/
def poisonBlocks (s : State) (bs : List Nat) : State := { s with mem := { s.mem with poison := bs.foldl nset s.mem.poison } }

/-- A little-endian field of DRAM. -/
def dramField (s : State) (a n : Nat) : Nat := leNat (dramRead s.mem a n)

/-! ### Errors and page retirement (R426–R428) -/

/-- Page numbers of RETIRED_PAGES (R428). -/
def retiredPageList (s : State) : List Nat :=
  let b := s.str Obj.retiredPages
  (List.range (fieldAt b 0 4)).map fun i => fieldAt b (16 + 4 * i) 4

/-- RETIRED_PAGES of a list of pages (R428). -/
def retiredPagesBlob (l : List Nat) : List Byte :=
  let e := l.flatMap (leBytes 4)
  leBytes 4 l.length ++ leBytes 4 (crc32c e) ++ List.replicate 8 0 ++ e

/-- The lowest free spare page (R427). -/
def freeSpare (m : Memory) : Option Nat := (List.range 4096).find? fun i => !(m.substituted.any fun e => e.2 = i)

/-- PAGE_RETIRE (R427): the page is listed once, committed by a record store; a device-owned page starts its copy. -/
def pageRetire (s : State) (page : Nat) : State :=
  let l := retiredPageList s
  if l.contains page then s
  else
    let s := s.raise 176 0 page
    let s := if 114688 ≤ l.length then s
      else
        let l := nset l page
        recordStore ((s.setStr Obj.retiredPages (retiredPagesBlob l)).setNum Obj.pagesRetired l.length) .retiredPages
    if deviceOwned page then
      match freeSpare s.mem with
      | some _ => { s with mem := { s.mem with copying := nset s.mem.copying page } }
      | none => s.raise 176 1 page
    else s

/-- The count of a page reaches `n` (R426). -/
def pageCountTo (s : State) (page n : Nat) : State :=
  let n := min n 255
  let s := { s with mem := { s.mem with errors := SMap.put s.mem.errors page n } }
  if s.num Obj.retireThreshold ≤ n then pageRetire s page else s

/-- Master id of a core (R474). -/
def coreMaster (core : Nat) : Nat := 28 + core

/-- LAST_ERROR (R445). -/
def lastErrorRec (a kind master : Nat) : List Byte :=
  leBytes 8 a ++ [BitVec.ofNat 8 kind, BitVec.ofNat 8 master] ++ List.replicate 6 0

/-- How a read of a block really ends: an unwritten page makes no ECC decode (R429), and a block reads poison just when
it holds the poison pattern (R424). -/
def eccOf (m : Memory) (a : Nat) (o : EccOutcome) : EccOutcome :=
  if m.poison.contains (blockOf a) then .poison
  else if !m.written.contains (pageOf a) then .clean
  else match o with
    | .poison => .clean
    | o => o

/-- DRAM_ECC_ERROR (R426): what one block read leaves in the counters. -/
def eccRead (s : State) (a master : Nat) (o : EccOutcome) : State :=
  let page := pageOf a
  match o with
  | .clean => s
  | .corrected syn =>
    let e := (blockOf a, syn)
    let s := s.setStr Obj.lastError (lastErrorRec (blockOf a) 1 master)
    if s.mem.filter.contains e then { s with mem := { s.mem with filter := e :: s.mem.filter.erase e } }
    else
      let s := { s with mem := { s.mem with filter := (e :: s.mem.filter).take 256 } }
      let s := (s.bump Obj.ceCount).raiseEv
        { source := 174, address := blockOf a, master := master, access := 0, syndrome := syn, detail := page }
      pageCountTo s page (SMap.findD s.mem.errors page 0 + 1)
  | .uncorrectable =>
    let s := (s.bump Obj.ueCount).setStr Obj.lastError (lastErrorRec (blockOf a) 2 master)
    let s := s.raiseEv { source := 175, address := blockOf a, master := master, access := 0, detail := page }
    let s := pageCountTo s page (s.num Obj.retireThreshold)
    if s.mem.copying.contains page then poisonBlocks s [blockOf a] else s
  | .poison =>
    let s := (s.bump Obj.poisonReads).setStr Obj.lastError (lastErrorRec (blockOf a) 3 master)
    s.raiseEv { source := 175, address := blockOf a, master := master, access := 0, detail := page }

def eccBad : EccOutcome → Bool
  | .uncorrectable | .poison => true
  | _ => false

/-- PAGE_SUBSTITUTION_DONE (R427): the copy of a device-owned page to the lowest free spare page completes. -/
def execPageSubstitutionDone (page : Nat) (s : State) : Host.Outcome State Fault Refusal :=
  if s.mem.copying.contains page then
    match freeSpare s.mem with
    | some k =>
      let s := { s with mem := { s.mem with
        copying := nunset s.mem.copying page, substituted := SMap.put s.mem.substituted page k } }
      .next (s.setNum Obj.sparesFree (4096 - s.mem.substituted.length))
    | none => .next ({ s with mem := { s.mem with copying := nunset s.mem.copying page } }.raise 176 1 page)
  else .next s

/-! ### Unwritten pages (R429, R430) -/

/-- A protected-cache slot with the bytes of [a, a + n) zero. -/
def zeroSlot (a n k : Nat) (c : CacheSlot) : CacheSlot :=
  slotOfBytes ((slotBytes c).zipIdx.map fun b =>
    if a ≤ 0x99C020000 + 4160 * k + b.2 ∧ 0x99C020000 + 4160 * k + b.2 < a + n then 0 else b.1)

/-- Mark the pages of [a, a + n) unwritten: they read zero, and hold no poison. -/
def markUnwritten (m : Memory) (a n : Nat) : Memory :=
  let ps := pagesOf a n
  { m with
    dram := cellsZero m.dram a n
    cache := (m.cache.filter fun e => !(pagesOf (0x99C020000 + 4160 * e.1) 4160).all ps.contains).map fun e =>
      if (pagesOf (0x99C020000 + 4160 * e.1) 4160).any ps.contains then (e.1, zeroSlot a n e.1 e.2) else e
    written := m.written.filter fun p => !ps.contains p
    poison := m.poison.filter fun b => !ps.contains (pageOf b)
    filter := m.filter.filter fun e => !ps.contains (pageOf e.1) }

/-- An accepted write of ZERO_RANGE (R429). -/
def zeroRangeBegin (s : State) (a n : Nat) : State :=
  { s with mem := { markUnwritten s.mem a n with zeroing := some (a, n) } }

/-- ZERO_RANGE_DONE (R429): the range is marked, and another may be written. -/
def execZeroRangeDone (s : State) : Host.Outcome State Fault Refusal :=
  .next { s with mem := { s.mem with zeroing := none } }

/-! ### Keeper slots (R433–R437) -/

/-- KEEPER_SLOT_ERASED (R436): neither the chosen generation nor an unusable slot is ever erased. -/
def execKeeperSlotErased (slot : Fin 6) (s : State) : Host.Outcome State Fault Refusal :=
  let k := s.mem.keeper[slot]
  if k.state = 0 ∨ k.state = 4 ∨ (s.mem.keeperChosen = some slot.val ∧ k.state = 1) then .next s
  else .next { s with mem := { s.mem with keeper := vmod s.mem.keeper slot.val fun _ => KeeperSlot.reset } }

/-- SUPERSEDED_PAGE_PROGRAMMED (R436, R437): the replayed generation and every older sealed one are superseded; writes
complete again without the FUA rule. -/
def execSupersededPageProgrammed (s : State) : Host.Outcome State Fault Refusal :=
  match s.mem.supersedeDue, s.mem.keeperChosen with
  | true, some c =>
    let seq := (vget s.mem.keeper c KeeperSlot.reset).seq
    let keeper := s.mem.keeper.map fun k => if k.state = 1 ∧ k.seq ≤ seq then { k with state := 3 } else k
    .next { s with mem := { s.mem with keeper := keeper, supersedeDue := false } }
  | _, _ => .next s

/-! ### System cache (R440–R443) -/

def lineOf (a : Nat) : Nat := a / 64
def setOf (line : Nat) : Nat := line % 4096

/-- LOCKED_LINES follows the lines. -/
def countLocked (s : State) : State := s.setNum Obj.lockedLines (s.mem.lines.filter (·.2.locked)).length

/-- A line is used: it becomes the most recent. -/
def touchLine (m : Memory) (line : Nat) : Memory := { m with recency := line :: m.recency.filter (· ≠ line) }

/-- A dirty line goes to DRAM; a poisoned one in the poison pattern (R441). -/
def writeBack (s : State) (line : Nat) : State :=
  match SMap.find s.mem.lines line with
  | some l =>
    if l.dirty then
      let s := (dramWrite s (64 * line) l.data).bump Obj.writebacks
      let s := if l.poisoned then poisonBlocks s [64 * line] else s
      { s with mem := { s.mem with lines := SMap.mod s.mem.lines line fun l => { l with dirty := false } } }
    else s
  | none => s

def dropLine (s : State) (line : Nat) : State :=
  { s with mem := { s.mem with lines := SMap.erase s.mem.lines line, recency := s.mem.recency.filter (· ≠ line) } }

/-- Ways of a set that a line or a fill holds. -/
def waysHeld (m : Memory) (set : Nat) : List Nat :=
  ((m.lines.filter fun e => setOf e.1 = set).map (·.2.way)) ++ ((m.fills.filter fun e => setOf e.1 = set).map (·.2.way))

/-- A way for a new line: the lowest free one in service, else that of the least recently used unlocked line, which is
evicted; 16 when every way is held by a locked line or a fill (R440). -/
def takeWay (s : State) (set : Nat) : Nat × State :=
  let held := waysHeld s.mem set
  let retired := s.num Obj.waysRetired
  match (List.range 16).find? fun w => !held.contains w && !bit retired w with
  | some w => (w, s)
  | none =>
    match s.mem.recency.reverse.find? fun l => decide (setOf l = set) &&
        (match SMap.find s.mem.lines l with
         | some x => !x.locked
         | none => false) with
    | some l =>
      let w := ((SMap.find s.mem.lines l).map (·.way)).getD 16
      (w, dropLine (writeBack s l) l)
    | none => (16, s)

/-- A miss starts a fill (R440). -/
def startFill (s : State) (line : Nat) (f : Fill) : State :=
  let (w, s) := takeWay s (setOf line)
  { s.bump Obj.misses with mem := { s.mem with fills := SMap.put s.mem.fills line { f with way := w } } }

/-- A request joins a fill in flight; after an invalidate it waits for the next one. -/
def Fill.join (f : Fill) (op : FillOp) : Fill :=
  if f.install then { f with ops := f.ops ++ [op] } else { f with later := f.later ++ [op] }

/-- An invalidate reaches a fill in flight (R443): it will not be installed; stores that wait for the next one are lost. -/
def Fill.invalidate (f : Fill) : Fill :=
  { f with install := false, later := f.later.filter fun o => match o with
    | .store _ _ => false
    | _ => true }

/-- Put bytes at an offset of a line's data. -/
def overlay (d : List Byte) (o : Nat) (b : List Byte) : List Byte := d.take o ++ b ++ d.drop (o + b.length)

/-- What a core's access to one line of DRAM does (R440): a hit is served, a miss joins or starts a fill. `poison` says
that the block's fill is delivered poisoned. -/
def lineAccess (s : State) (core a width : Nat) (store : Option (List Byte)) (poison : Bool) : State :=
  let line := lineOf a
  match SMap.find s.mem.lines line with
  | some l =>
    let s := { s.bump Obj.hits with mem := touchLine s.mem line }
    match store with
    | some b => { s with mem := { s.mem with
        lines := SMap.put s.mem.lines line { l with data := overlay l.data (a % 64) b, dirty := true } } }
    | none =>
      if l.poisoned then (s.setStr Obj.lastError (lastErrorRec (blockOf a) 3 (coreMaster core))).emit (.accessFault core)
      else s.emit (.coreData core (slice l.data (a % 64) width))
  | none =>
    let op := match store with
      | some b => FillOp.store a b
      | none => FillOp.load core a width
    match SMap.find s.mem.fills line with
    | some f => { s with mem := { s.mem with fills := SMap.put s.mem.fills line (f.join op) } }
    | none => startFill s line { ops := [op], way := 16, install := true, lock := false, poison := poison, later := [] }

/-- A line while its fill is served: its data, and whether a store has made it dirty. -/
structure FillLine where
  data : List Byte
  dirty : Bool

/-- A fill serves one of its requests (R440, R443): a load gets the line as the requests before it left it; a clean writes back what they
stored. -/
def serveOp (line : Nat) (bad : Bool) (x : State × FillLine) : FillOp → State × FillLine
  | .load c a w => (if bad then x.1.emit (.accessFault c) else x.1.emit (.coreData c (slice x.2.data (a % 64) w)), x.2)
  | .store a b => (x.1, ⟨overlay x.2.data (a % 64) b, true⟩)
  | .clean => if x.2.dirty then ((dramWrite x.1 (64 * line) x.2.data).bump Obj.writebacks, ⟨x.2.data, false⟩) else x

/-- Stores that a fill has served. -/
def fillStores (l : List FillOp) : List (Nat × List Byte) := l.filterMap fun o => match o with
  | .store a b => some (a, b)
  | _ => none

/-- CACHE_FILL_RETURN (R440, R443): the fill serves its requests in the order of their arrival and is installed; a fill whose line was
invalidated in flight serves those before that and is not installed, and what came after fetches the line afresh. -/
def execCacheFillReturn (line : Nat) (s : State) : Host.Outcome State Fault Refusal :=
  match SMap.find s.mem.fills line with
  | none => .next s
  | some f =>
    let data := dramRead s.mem (64 * line) 64
    let bad := f.poison || dramPoisoned s.mem (64 * line) 64
    let s := { s with mem := { s.mem with fills := SMap.erase s.mem.fills line } }
    let (s, x) := f.ops.foldl (serveOp line bad) (s, ⟨data, false⟩)
    if f.install then
      if f.way < 16 then
        let l : Line := { way := f.way, data := x.data, dirty := x.dirty, locked := f.lock, poisoned := bad }
        .next (countLocked { s with mem := touchLine { s.mem with lines := SMap.put s.mem.lines line l } line })
      else .next (s.each (fillStores f.ops) fun s (a, b) => dramWrite s a b)
    else if f.later.isEmpty && !f.lock then .next s
    else .next (startFill s line { ops := f.later, way := 16, install := true, lock := f.lock, poison := false, later := [] })

/-- The line of an address in the cache, fetched at once: the way a mailbox transfer moves through the cache (R69, R440). -/
def lineFetch (s : State) (line : Nat) : State :=
  match SMap.find s.mem.lines line with
  | some _ => { s.bump Obj.hits with mem := touchLine s.mem line }
  | none =>
    let (w, s) := takeWay s (setOf line)
    let s := s.bump Obj.misses
    if w < 16 then
      let l : Line := { way := w, data := dramRead s.mem (64 * line) 64, dirty := false, locked := false
                        poisoned := dramPoisoned s.mem (64 * line) 64 }
      { s with mem := touchLine { s.mem with lines := SMap.put s.mem.lines line l } line }
    else s

/-- Bytes as a core sees them: of the line where the cache holds one, otherwise of DRAM (R440). -/
def cachedByte (m : Memory) (a : Nat) : Byte :=
  match SMap.find m.lines (lineOf a) with
  | some l => l.data.getD (a % 64) 0
  | none => dramByte m a

def cachedRead (m : Memory) (a n : Nat) : List Byte := (List.range n).map fun i => cachedByte m (a + i)

def cachedPoisoned (m : Memory) (a n : Nat) : Bool :=
  (blocksOf a n).any fun b => match SMap.find m.lines (lineOf b) with
    | some l => l.poisoned
    | none => m.poison.contains b

/-- Store one byte through the cache. -/
def cachedPut (s : State) (a : Nat) (b : Byte) : State :=
  match SMap.find s.mem.lines (lineOf a) with
  | some l => { s with mem := { s.mem with
      lines := SMap.put s.mem.lines (lineOf a) { l with data := l.data.set (a % 64) b, dirty := true } } }
  | none => dramWrite s a [b]

/-- Move bytes through the cache: every line touched is allocated, then written. -/
def cachedWrite (s : State) (a : Nat) (data : List Byte) : State :=
  let s := s.each ((blocksOf a data.length).map lineOf) lineFetch
  s.each data.zipIdx fun s (b, i) => cachedPut s (a + i) b

/-- Lines dirty in a range written back (R435 step 2, R441). -/
def cleanLines (s : State) (p : Nat → Bool) : State := s.each ((SMap.keys s.mem.lines).filter p) writeBack

/-- A retired way (R441): its dirty lines are written back, its lines and locks go. -/
def wayRetire (s : State) (w : Nat) : State :=
  let ls := (s.mem.lines.filter (·.2.way = w)).map (·.1)
  let s := s.each ls fun s l => dropLine (writeBack s l) l
  countLocked (s.setNum Obj.waysRetired (setBit (s.num Obj.waysRetired) w))

/-! ### Cache maintenance (R442, R443) -/

/-- What an operation does to a line: write it back, drop it, lock it, unlock it. -/
structure MaintEffect where
  clean : Bool
  drop : Bool
  lock : Bool
  unlock : Bool

def maintEffect (op : Nat) : MaintEffect where
  clean := op == 1 || op == 6 || op == 3 || op == 8
  drop := op == 2 || op == 7 || op == 3 || op == 8
  lock := op == 4
  unlock := op == 5

/-- The status of an operation so far and the first line refused (R442). -/
structure MaintResult where
  status : Nat
  first : Option Nat

def MaintResult.refuse (r : MaintResult) (status line : Nat) : MaintResult :=
  { status := if r.first.isNone then status else r.status, first := r.first.orElse fun _ => some (64 * line) }

/-- Locked lines and locking fills of a set. -/
def locksInSet (m : Memory) (set : Nat) : Nat :=
  (m.lines.filter fun e => decide (setOf e.1 = set) && e.2.locked).length +
  (m.fills.filter fun e => decide (setOf e.1 = set) && e.2.lock).length

/-- The operation on one line that is present or in flight. -/
def maintLine (e : MaintEffect) (bySet : Bool) : State × MaintResult → Nat → State × MaintResult
  | (s, r), line =>
    match SMap.find s.mem.lines line with
    | some l =>
      let s := if e.clean then writeBack s line else s
      if e.drop then (if l.locked then (s, if e.clean then r else r.refuse 2 line) else (dropLine s line, r))
      else if e.unlock then
        ({ s with mem := { s.mem with lines := SMap.mod s.mem.lines line fun l => { l with locked := false } } }, r)
      else if e.lock then
        (if l.locked then (s, r)
         else if 12 ≤ locksInSet s.mem (setOf line) then (s, r.refuse 4 line)
         else ({ s with mem := { s.mem with lines := SMap.mod s.mem.lines line fun l => { l with locked := true } } }, r))
      else (s, r)
    | none =>
      match SMap.find s.mem.fills line with
      | some f =>
        let set (f : Fill) : State := { s with mem := { s.mem with fills := SMap.put s.mem.fills line f } }
        let f := if e.clean then f.join .clean else f
        if bySet then (s, r)
        else if e.drop then (if f.lock then (set f, if e.clean then r else r.refuse 2 line) else (set f.invalidate, r))
        else if e.unlock then (set { f with lock := false }, r)
        else if e.lock then
          (if f.lock then (s, r)
           else if 12 ≤ locksInSet s.mem (setOf line) then (s, r.refuse 4 line)
           else (set { f with lock := true }, r))
        else (set f, r)
      | none =>
        if e.lock then
          (if 12 ≤ locksInSet s.mem (setOf line) then (s, r.refuse 4 line)
           else (startFill s line { ops := [], way := 16, install := true, lock := true, poison := false, later := [] }, r))
        else (s, r)

/-- The lines an operation addresses: for FILL_LOCK every line of the range, otherwise those present or in flight. -/
def maintLines (s : State) (op base len : Nat) : List Nat :=
  if op ≤ 5 then
    (if op = 4 then span (base / 64) ((base + len) / 64)
     else ((SMap.keys s.mem.lines) ++ (SMap.keys s.mem.fills)).filter fun l =>
       decide (base ≤ 64 * l) && decide (64 * l < base + len))
  else
    let set0 := base % 4096
    let ways := fld base 31 16
    (s.mem.lines.filter fun e => decide ((setOf e.1 + 4096 - set0) % 4096 < len) && bit ways e.2.way).map (·.1)

/-- A write of MAINT_OP that is accepted (R442). The effect is taken at once; the status stays RUNNING until
CACHE_MAINT_DONE. -/
def maintBegin (s : State) (core op : Nat) : State :=
  let base := s.num (Obj.maintBase core)
  let len := s.num (Obj.maintLength core)
  let s := s.setNum (Obj.maintOp core) op
  if op = 0 then s
  else if op ≤ 5 ∧ (base % 64 ≠ 0 ∨ len % 64 ≠ 0 ∨ !inDram base len) then s.setNum (Obj.maintStatus core) 3
  else
    let (s, r) := (maintLines s op base len).foldl (maintLine (maintEffect op) (decide (5 < op))) (s, ⟨0, none⟩)
    let s := { s with mem := { s.mem with maint := SMap.put s.mem.maint core r.status } }
    countLocked ((s.setNum (Obj.maintFirst core) (r.first.getD 0)).setNum (Obj.maintStatus core) 1)

/-- A fill in flight of a line that the core's operation addresses by address. -/
def maintFillPending (s : State) (core : Nat) : Bool :=
  let base := s.num (Obj.maintBase core)
  let len := s.num (Obj.maintLength core)
  decide (s.num (Obj.maintOp core) ≤ 5) &&
  s.mem.fills.any fun e => decide (base ≤ 64 * e.1) && decide (64 * e.1 < base + len)

/-- CACHE_MAINT_DONE (R442, R443): the operation ends once the fills in flight of its lines have returned. -/
def execCacheMaintDone (core : Fin 9) (s : State) : Host.Outcome State Fault Refusal :=
  match SMap.find s.mem.maint core.val with
  | none => .next s
  | some status =>
    if maintFillPending s core.val then .next s
    else
      let s := { s with mem := { s.mem with maint := SMap.erase s.mem.maint core.val } }
      .next ((s.setNum (Obj.maintOp core.val) 0).setNum (Obj.maintStatus core.val) status)

/-! ### The cores' memory accesses (R21, R23, R424, R438–R441) -/

/-- Event source of a core (R467). -/
def coreSource (core : Nat) : Nat := if core < 4 then 100 + core else if core < 8 then 156 + core else 32

/-- A core makes no access: it is quiesced for power fail, or fenced by a collector (R7, R40, R469); in ROM_MAINTENANCE only verb core 0
runs (R99). -/
def coreStopped (s : State) (core : Nat) : Bool :=
  s.power.quiesced || s.coll.fenced.contains (coreSource core) || (decide (s.start.mode = .romMaintenance) && decide (core ≠ 0))

/-- An access fault (R21): an exception in the core and a block event that says whether it was a read, a write or a fetch (R473); no
data moves. -/
def accessFault (s : State) (core a kind : Nat) : State :=
  (s.emit (.accessFault core)).raiseEv { source := coreSource core, unit := core, address := a, master := coreMaster core, access := kind }

/-- What a core access is. -/
def accStore : CoreAccess → Bool
  | .store _ => true
  | _ => false

def accFetch : CoreAccess → Bool
  | .fetch => true
  | _ => false

/-- ACCESS of an event (R473): 0 read, 1 write, 2 fetch. -/
def accKind : CoreAccess → Nat
  | .store _ => 1
  | .fetch => 2
  | _ => 0

def accData : CoreAccess → Option (List Byte)
  | .store d => some d
  | _ => none

/-- Base and size of a core's own SRAM (R21, R23). PRESUMED (log 59): the security core sees its private 128 KiB, for which no map gives an
address, where the map of the other cores has their SRAM. -/
def sramBase (core : Nat) : Nat := if core < 8 then 0x1000000 + 0x40000 * core else 0x1000000
def sramSize (core : Nat) : Nat := if core < 8 then 0x40000 else 0x20000

/-- The cells of a core's SRAM (R8). -/
def sramCells (m : Memory) (core : Nat) : List Host.Cell := if core < 8 then m.sram else m.secSram

def sramPut (m : Memory) (core a : Nat) (d : List Byte) : Memory :=
  if core < 8 then { m with sram := cellsWrite m.sram a d } else { m with secSram := cellsWrite m.secSram a d }

/-- An access to the core's own SRAM (R21, R23, R438). The security core's macros stand after those of the others. -/
def sramAccess (s : State) (core a width : Nat) (acc : CoreAccess) (ecc : EccOutcome) : State :=
  let word := (if core < 8 then a else a + 0x200000) / 8
  let macro_ := (Config.macroOfSram word).val
  let row := Config.rowOfSram word
  let s := match ecc with
    | .corrected syn => s.raiseEv { source := 704 + macro_, unit := row, address := a, master := coreMaster core, access := accKind acc, syndrome := syn }
    | .uncorrectable | .poison => s.raiseEv { source := 704 + macro_, unit := row, address := a, master := coreMaster core, access := accKind acc }
    | .clean => s
  match acc with
  | .store d => { s with mem := sramPut s.mem core a (d.take width) }
  | _ =>
    if eccBad ecc then accessFault s core a (accKind acc)
    else s.emit (.coreData core (cellsRead (sramCells s.mem core) a width))

/-- An uncorrectable word of a cached line (R441): a clean line is dropped and fetched again, a dirty one is written
back in the poison pattern. -/
def lineUncorrectable (s : State) (core : Nat) (acc : CoreAccess) (line : Nat) (l : Line) : State :=
  let s := (s.bump Obj.dataUe).raiseEv
    { source := 178 + l.way, unit := l.way, address := 64 * line, master := coreMaster core, access := accKind acc }
  if l.dirty then
    let s := { s with mem := { s.mem with lines := SMap.put s.mem.lines line { l with poisoned := true } } }
    writeBack s line
  else countLocked (dropLine s line)

/-- A core's access to the part of DRAM in one line (R424, R440, R441). -/
def dramAccess (s : State) (core a width : Nat) (acc : CoreAccess) (ecc : EccOutcome) : State :=
  let line := lineOf a
  match SMap.find s.mem.lines line with
  | some l =>
    let s := match ecc with
      | .corrected syn => (s.bump Obj.dataCe).raiseEv
          { source := 178 + l.way, unit := l.way, address := a, master := coreMaster core, access := accKind acc, syndrome := syn }
      | .uncorrectable => lineUncorrectable s core acc line l
      | _ => s
    lineAccess s core a width (accData acc) false
  | none =>
    let o := eccOf s.mem a ecc
    let s := if (SMap.find s.mem.fills line).isSome then s else eccRead s a (coreMaster core) o
    lineAccess s core a width (accData acc) (eccBad o)

end Sys2Proof.Machine
end

