-- ==== Sys2Proof/Machine/Front.lean ====
section
/-!
DEFINITION. What the channel and the sentence players share: sentences and their positions, entries and status words,
gates, front-end events, and the preamp's serial bus (R165–R189, R213, R221–R243).
-/

namespace Sys2Proof.Machine

/-! ### Surfaces, zones and format records -/

/-- Actuator of a surface (R132). -/
def actOf (surface : Nat) : Nat := surface / 12

/-- Surfaces present, as a 48-bit mask: the union of the SURFACE_MASK objects (R135). -/
def presentMask (s : State) : Nat :=
  (List.range 4).foldl (fun m a => m ||| (s.num (Obj.surfaceMask a) <<< (12 * a))) 0

def present (s : State) (surface : Nat) : Bool := bit (presentMask s) surface

/-- The image whose core code runs (R84, R115), and section 7 of the image that the last "preamp discovery" took up (R105, R115,
R158). -/
def runningImage (s : State) : List Byte := s.fw.coreImage
def formatSection (s : State) : List Byte := sectionData s.fw.formatImage (imageSections s.fw.formatImage) 7

/-- Preamp format record n of that section, and the one selected for actuator a (R177, R178). -/
def formatRecordN (s : State) (n : Nat) : List Byte := slice (formatSection s) (16 + 64 * n) 64
def formatRecord (s : State) (a : Nat) : List Byte := formatRecordN s (s.num (Obj.preampFormat a))

/-- Whether actuator a has a format record selected (R178). -/
def formatSelected (s : State) (a : Nat) : Bool := decide (s.num (Obj.preampFormat a) ≠ 0xFF)

/-- Register addresses of a format record (R177, bytes 18–26). -/
structure PreampRegs where
  id : Nat
  heads : Nat
  mode : Nat
  head : Nat
  writeCurrent : Nat
  heater : Nat
  faultStatus : Nat
  faultClear : Nat
  readerBias : Nat

def preampRegs (s : State) (a : Nat) : PreampRegs :=
  let r := formatRecord s a
  { id := byteAt r 18, heads := byteAt r 19, mode := byteAt r 20, head := byteAt r 21, writeCurrent := byteAt r 22
    heater := byteAt r 23, faultStatus := byteAt r 24, faultClear := byteAt r 25, readerBias := byteAt r 26 }

/-- Mode codes IDLE, READ, WRITE, SLEEP of a format record. -/
def modeCode (s : State) (a m : Nat) : Nat := byteAt (formatRecord s a) (27 + m)

/-- The reserved band's format as a zone (R145), with the band codes of the actuator's format record. -/
def bandZone (s : State) (a : Nat) : Zone :=
  let r := formatRecord s a
  { firstTrack := 0, trackCount := 4096, adcKsps := 2000000, bitKbps := 2000000, dataT := 24000, sectors := 320, spare := 0
    parityCirc := 49, trackSkew := 60, headSkew := 60, writeCurrent := byteAt r 41, laserCurrent := byteAt r 42
    eqPreset := byteAt r 40, heater := byteAt r 43 }

/-- The zone that a sentence names on its surface (R222, R227). -/
def sentenceZone (s : State) (surface zone : Nat) : Option Zone :=
  if zone = 0xFF then some (bandZone s (actOf surface)) else (zonesOf s.fw.bundle surface)[zone]?

/-! ### Positions (R141, R238) -/

/-- Wedge and T of a sector offset of an entry that starts at (w, pos): the splits of R141. -/
def mapOffset (dataT secT sm2 : Nat) : Nat → Nat → Nat → Nat → Nat → Nat × Nat
  | 0, w, pos, _, _ => (w, pos)
  | fuel + 1, w, pos, done, off =>
    let room := dataT - pos
    if secT - done ≤ room + 24 then (w, min dataT (pos + (off - done)))
    else
      let cut := done + room
      let cut := if sm2 < cut ∧ cut < sm2 + 32 then sm2 else cut
      if off < cut then (w, pos + (off - done)) else mapOffset dataT secT sm2 fuel ((w + 1) % 600) 48 cut off

/-- The sector offset at a position, the inverse of `mapOffset`. -/
def offsetAt (dataT secT sm2 : Nat) : Nat → Nat → Nat → Nat → Nat → Nat → Nat
  | 0, _, _, done, _, _ => done
  | fuel + 1, w, pos, done, tw, tt =>
    if tw = w then done + (tt - pos)
    else
      let cut := done + (dataT - pos)
      let cut := if sm2 < cut ∧ cut < sm2 + 32 then sm2 else cut
      if secT ≤ cut then secT else offsetAt dataT secT sm2 fuel ((w + 1) % 600) 48 cut tw tt

/-- Position of a sector offset of an entry. -/
def entryPos (h : Header) (e : Entry) (off : Nat) : Nat × Nat :=
  mapOffset h.dataT h.sectorT h.sm2At 64 e.wedge e.pos 0 off

/-- A position advanced by T of data area. -/
def advanceT (dataT w t n : Nat) : Nat × Nat :=
  if dataT = 0 then (w, t + n) else ((w + (t + n) / dataT) % 600, (t + n) % dataT)

/-- A position as a number that rises through the window of a sentence. -/
def posIdx (h : Header) (w t : Nat) : Nat := ((w + 600 - h.startWedge) % 600) * 2 ^ 24 + t

/-- Start and end of an entry's extent on the medium: the end counts the wedges that the sector runs over. -/
def entryStart (h : Header) (e : Entry) : Nat := posIdx h e.wedge e.pos
def entryEnd (h : Header) (e : Entry) : Nat :=
  let (w, t) := entryPos h e h.sectorT
  ((e.wedge + 600 - h.startWedge) % 600 + (w + 600 - e.wedge) % 600) * 2 ^ 24 + t

/-- Whether an entry crosses a servo field (R170 SPLIT). -/
def entrySplit (h : Header) (e : Entry) : Bool := decide ((entryPos h e h.sectorT).1 ≠ e.wedge)

/-- PARITY_CIRC from SECTOR_T (R136). -/
def circOfSectorT (t : Nat) : Nat := (t - 184) / 128 - 257

/-! ### Players, entries and status words (R213, R225) -/

/-- Actuator of player p, and its event sources' offsets (R7, R467). -/
def playerAct (p : Nat) : Nat := p / 2
def scheduleOffset (p : Nat) : Nat := 14 + 2 * (p % 2)
def hardwareOffset (p : Nat) : Nat := 15 + 2 * (p % 2)

/-- Change entry i of player p. -/
def modEntry (s : State) (p i : Nat) (f : Entry → Entry) : State :=
  s.modPlayer p fun pl => { pl with entries := pl.entries.modify i f }

def State.entryOf (s : State) (p i : Nat) : Option Entry := (s.playerOf p).entries[i]?

/-- DRAM serves the block while the main die has power and its rails are up (R225, R241). -/
def dramServed (s : State) : Bool := s.power.powerGood && !s.power.railsOff

/-- Address of the status word of entry i (R225). -/
def statusAddr (h : Header) (i : Nat) : Nat := h.statusBase + 64 + 16 * i

/-- Four 32-bit words as bytes. -/
def words4 (a b c d : Nat) : List Byte := leBytes 4 a ++ leBytes 4 b ++ leBytes 4 c ++ leBytes 4 d

/-- Word 2 of a status word (R213). -/
def statusWord2 (index ring hold seq : Nat) : Nat := index % 1024 * 2 ^ 22 + ring % 64 * 2 ^ 16 + hold % 256 * 2 ^ 8 + seq % 256

/-- Result codes (R213). -/
def resConverged : Nat := 0
def resNotConverged : Nat := 1
def resCrcFail : Nat := 2
def resNotDecoded : Nat := 3
def resNotVisited : Nat := 4
def resWritten : Nat := 5
def resIncomplete : Nat := 6

/-- The status word that the player prepares for entry i (R225). -/
def preparedWord (h : Header) (i : Nat) (e : Entry) : List Byte :=
  words4 0 (resNotVisited * 2 ^ 28) (statusWord2 i e.ringSlot 0xFF h.seq) 0

/-- The player's own final word for an entry: a write, or a read that posted nothing (R225). -/
def playerWord (h : Header) (i : Nat) (e : Entry) (poisoned : Bool) : List Byte :=
  words4 e.report (e.result * 2 ^ 28) (statusWord2 i e.ringSlot 0xFF h.seq)
    (0xFF000000 + (if e.isParity then 2 ^ 18 else 0) + (if poisoned then 2 ^ 17 else 0))

/-- The player ends entry i with a result: its status word is written once and is final (R225). -/
def endEntry (s : State) (p i result : Nat) (poisoned : Bool := false) : State :=
  match s.entryOf p i with
  | none => s
  | some e =>
    if e.final then s
    else
      let e := { e with result := result, final := true }
      let s := modEntry s p i fun _ => e
      let h := (s.playerOf p).header
      if dramServed s then dramWrite s (statusAddr h i) (playerWord h i e poisoned) else s

/-- Set bits of the channel report of an entry that is not final (R170). -/
def report (s : State) (p i mask : Nat) : State :=
  modEntry s p i fun e => if e.final then e else { e with report := e.report ||| mask }

/-- Report bits (R170). -/
def rLongFreeze : Nat := 2 ^ 15
def rTA : Nat := 2 ^ 14
def rDrop : Nat := 2 ^ 13
def rOverrun : Nat := 2 ^ 12
def rLateGate : Nat := 2 ^ 11
def rEventLost : Nat := 2 ^ 10
def rIncomplete : Nat := 2 ^ 9
def rUnsafe : Nat := 2 ^ 8
def rPreamp : Nat := 2 ^ 7
def rSplit : Nat := 2 ^ 3
def rSynth : Nat := 2 ^ 2

/-- Numbers of the entries of a player that satisfy a test. -/
def entriesWhere (s : State) (p : Nat) (f : Entry → Bool) : List Nat :=
  ((s.playerOf p).entries.zipIdx.filter fun e => f e.1).map (·.2)

/-- The entries of actuator a with a gate open: captures, and the sector being written. -/
def gatedEntries (s : State) (a : Nat) : List (Nat × Nat) :=
  let caps := [2 * a, 2 * a + 1].flatMap fun p => (entriesWhere s p (·.capturing)).map fun i => (p, i)
  match (s.actOf a).playing, (s.chanOf a).writeGate with
  | some p, some i => (p, i) :: caps
  | _, _ => caps

/-- Report bits for every sector of actuator a with a gate open. -/
def reportGated (s : State) (a mask : Nat) : State := s.each (gatedEntries s a) fun s (p, i) => report s p i mask

/-- SPLIT of an entry's report (R170). -/
def splitBit (s : State) (p : Nat) (e : Entry) : Nat := if entrySplit (s.playerOf p).header e then rSplit else 0

/-- A write sector that was not written in full (R174, R176): recorded and counted. -/
def writeIncomplete (s : State) (p i mask : Nat) (poisoned : Bool := false) : State :=
  match s.entryOf p i with
  | none => s
  | some e =>
    if e.final then s
    else
      let s := report s p i (rIncomplete ||| splitBit s p e ||| mask)
      (endEntry s p i resIncomplete poisoned).bump (Obj.incompleteCount (playerAct p))

/-! ### Front-end events (R16, R237) -/

/-- Event codes: the conditions of R237, and 0x10 for write-unsafe. -/
def evServo : Nat := 1
def evSm1 : Nat := 3
def evSm2 : Nat := 4
def evCapture : Nat := 5
def evGateIdle : Nat := 6
def evWriteReady : Nat := 7
def evFrames : Nat := 8
def evUnsafe : Nat := 16

/-- The player whose sentence plays on actuator a is stalled: it drains the front-end event FIFO (R239). -/
def drains (s : State) (a : Nat) : Bool := match (s.actOf a).playing with
  | some p => decide ((s.playerOf p).clause = .stalled)
  | none => true

/-- Post an event to the front-end event FIFO, 32 deep; a player that is stalled takes it out at once. When the FIFO is full the event is
lost, the overflow bit sticks and the current sectors are flagged (R16). -/
def postFront (s : State) (a : Nat) (e : FrontEvent) : State :=
  if drains s a then s
  else if (s.chanOf a).events.length < 32 then s.modChan a fun c => { c with events := c.events ++ [e] }
  else
    let first := !(s.chanOf a).eventLost
    let s := s.modChan a fun c => { c with eventLost := true }
    let s := reportGated s a rEventLost
    if first then s.raiseAct a 18 a else s

/-- An event of the present moment: the present wedge, and T as the T counter was last shown. -/
def postEvent (s : State) (a code : Nat) : State := postFront s a ⟨code, (s.chanOf a).wedge, (s.chanOf a).headT, none⟩

/-- An event of a sector at the sample stream's place (R237). -/
def postSector (s : State) (a code i : Nat) : State :=
  postFront s a ⟨code, (s.chanOf a).streamWedge, (s.chanOf a).streamT, some i⟩

/-! ### Preamp serial bus (R177–R182) -/

/-- Bit q of a field of `n` bits at `lo`, most significant bit first or last. -/
def fieldBit (msb : Bool) (lo n v q : Nat) : Bool := if msb then v.testBit (n - 1 - (q - lo)) else v.testBit (q - lo)

/-- The level of SDATA in period q of a frame, parity apart; none where the device releases it, in the turnaround and data field
of a read. A period that no field of the record covers is low (log entry 53). -/
def frameLevel (r : List Byte) (addr : Nat) (data : Option Nat) (q : Nat) : Option Bool :=
  let msb := bit (byteAt r 9) 0
  let dataPos := byteAt r 14
  let dataEnd := dataPos + byteAt r 15
  if data.isNone ∧ dataPos ≤ q + byteAt r 17 ∧ q < dataEnd then none
  else if q = byteAt r 10 then some (decide (byteAt r 11 = if data.isNone then 1 else 0))
  else if byteAt r 12 ≤ q ∧ q < byteAt r 12 + byteAt r 13 then some (fieldBit msb (byteAt r 12) (byteAt r 13) addr q)
  else if dataPos ≤ q ∧ q < dataEnd then some (fieldBit msb dataPos (byteAt r 15) (data.getD 0) q)
  else some false

/-- The frame on PAa_SDATA, period by period (R177): parity, where the record has it, covers every other bit that the device
drives. -/
def frameLevels (r : List Byte) (addr : Nat) (data : Option Nat) : List (Option Bool) :=
  let parityAt := if bit (byteAt r 9) 3 then byteAt r 16 else byteAt r 8
  let levels := (List.range (byteAt r 8)).map fun q => if q = parityAt then some false else frameLevel r addr data q
  let ones := (levels.filter (· = some true)).length
  levels.zipIdx.map fun (l, q) => if q = parityAt then some (decide (ones % 2 = if bit (byteAt r 9) 4 then 0 else 1)) else l

/-- Send the next frame by priority, in order of arrival within a priority (R179). -/
def sendNext (s : State) (a : Nat) : State :=
  let c := s.chanOf a
  match c.onBus with
  | some _ => s
  | none =>
    match (List.range 5).findSome? fun p => c.frames.find? (·.priority = p) with
    | none => s
    | some f =>
      let s := s.modChan a fun c => { c with onBus := some f, frames := c.frames.erase f }
      let flags := byteAt (formatRecord s a) 9
      s.emit (.preamp a f.reg f.data (bit flags 1) (bit flags 2) (frameLevels (formatRecord s a) f.reg f.data))

/-- Queue a frame. -/
def queueFrame (s : State) (a : Nat) (f : PreampFrame) : State :=
  sendNext (s.modChan a fun c => { c with frames := c.frames ++ [f] }) a

def sentenceFrame (reg data : Nat) (verify : Bool) : PreampFrame :=
  { priority := 2, reg := reg, data := some data, verify := verify, tries := 0 }

/-- Frames of the playing sentence still to be sent or verified (R174, R237). -/
def sentenceFrames (c : Channel) : List PreampFrame :=
  (c.onBus.toList ++ c.frames).filter fun f => f.priority = 2

/-- MODE and HEAD frames from a sentence (R230, R236). -/
def postMode (s : State) (a mode : Nat) : State :=
  queueFrame s a (sentenceFrame (preampRegs s a).mode (modeCode s a mode) true)

def postHead (s : State) (a surface : Nat) : State :=
  queueFrame s a (sentenceFrame (preampRegs s a).head (surface % 12) true)

/-- A power code with its selector's delta, clamped to 0–255 (R173). -/
def powerCode (base delta : Nat) : Nat := ((base : Int) + toSigned 8 delta).toNat.min 255

/-- Write-current and laser codes of a sentence at a selector (R173). -/
def writeCurrentCode (s : State) (h : Header) (sel : Nat) : Nat :=
  let z := (sentenceZone s h.surface h.zone).map (·.writeCurrent)
  powerCode (z.getD 0) (byteAt (s.str (Obj.wpowerSet h.actuator)) (2 * sel))

def laserCode (s : State) (h : Header) (sel : Nat) : Nat :=
  let z := (sentenceZone s h.surface h.zone).map (·.laserCurrent)
  powerCode (z.getD 0) (byteAt (s.str (Obj.wpowerSet h.actuator)) (2 * sel + 1))

/-! ### Sample slots (R202) -/

/-- Samples packed four to three bytes. -/
def packSamples : List Int → List Byte
  | a :: b :: c :: d :: r =>
    leBytes 3 (ofSigned 6 a + ofSigned 6 b * 64 + ofSigned 6 c * 4096 + ofSigned 6 d * 262144) ++ packSamples r
  | [a, b, c] => leBytes 3 (ofSigned 6 a + ofSigned 6 b * 64 + ofSigned 6 c * 4096)
  | [a, b] => leBytes 3 (ofSigned 6 a + ofSigned 6 b * 64)
  | [a] => leBytes 3 (ofSigned 6 a)
  | [] => []

/-- A sample slot as its 32 KiB of bytes. -/
def sampleSlotBytes (x : SampleSlot) : List Byte :=
  padTo 32768 (leBytes 4 x.samples.length ++ leBytes 2 0 ++ leBytes 2 x.align ++ leBytes 2 x.sm1 ++ leBytes 2 x.sm2 ++
    [BitVec.ofNat 8 x.parityCirc, BitVec.ofNat 8 (x.outcome + if x.parity then 8 else 0)] ++ leBytes 2 x.preset ++
    leBytes 4 x.seed ++ leBytes 4 x.report ++ [BitVec.ofNat 8 x.surface] ++ leBytes 3 x.track ++ leBytes 2 x.psector ++
    List.replicate 34 0 ++ packSamples x.samples)

/-- Key of a ring or hold slot of an actuator. -/
def slotKey (a n : Nat) : Nat := a * 64 + n

/-- Address of a hold slot (R423). -/
def holdAddr (a h : Nat) : Nat := 0x99A800000 + a * 0x200000 + h * 0x8000

end Sys2Proof.Machine
end

