-- ==== Sys2Proof/Machine/Code.lean ====
section
/-!
DEFINITION. The sector's code: the base matrix, the syndrome and the encoder (R137, R192); the fields of a sector on the
medium with the precoder and the write precompensation (R136, R171, R172); and the write gate with write-unsafe (R17, R155, R175, R176).
-/

namespace Sys2Proof.Machine

/-! ### The code (R192) -/

/-- The non-empty entries of block column j with m parity circulants: block row and shift. -/
def baseColumn (m j : Nat) : List (Nat × Nat) :=
  if j < 257 then (List.range 4).map fun q => ((j + q * (m / 4)) % m, (j * (2 * q + 1) + 17 * q) % 128)
  else if j = 257 then [(0, 1), (m / 2, 0), (m - 1, 1)]
  else [(j - 258, 0), (j - 257, 0)]

/-- A block of 128 bits of a codeword, bit i at place i. -/
def codeBlock (hard : List Bool) (j : Nat) : Nat := bits ((hard.drop (128 * j)).take 128)

/-- A circulant of shift s times a block: check row t takes bit (t + s) mod 128. -/
def rotBlock (x s : Nat) : Nat := (x >>> s ||| x <<< (128 - s)) % 2 ^ 128

/-- The layers of the syndrome: one block column added to each of the layers it meets. -/
def addColumn (m : Nat) (acc : List Nat) (j x : Nat) : List Nat :=
  (baseColumn m j).foldl (fun acc e => acc.modify e.1 (· ^^^ rotBlock x e.2)) acc

/-- The syndrome of hard decisions, as one 128-bit number per layer. -/
def syndrome (m : Nat) (hard : List Bool) : List Nat :=
  (List.range (257 + m)).foldl (fun acc j => addColumn m acc j (codeBlock hard j)) (List.replicate m 0)

/-- Ones among the low n bits. -/
def ones : Nat → Nat → Nat
  | 0, _ => 0
  | n + 1, x => x % 2 + ones n (x / 2)

/-- Unsatisfied checks. -/
def unsatisfied (m : Nat) (hard : List Bool) : Nat := ((syndrome m hard).map (ones 128)).sum

/-- The bytes that hard decisions stand for: bit 8i + k is bit k of byte i (R137). -/
def hardBytes (hard : List Bool) : List Byte :=
  (List.range payloadLen).map fun i => BitVec.ofNat 8 (bits ((hard.drop (8 * i)).take 8))

/-! ### The encoder (R137, R171) -/

/-- Information block j of a payload: 16 bytes, bit 8i + k of the block being bit k of byte i. -/
def infoBlock (payload : List Byte) (j : Nat) : Nat := leNat (slice payload (16 * j) 16)

/-- What the information columns add to each layer. -/
def infoLayers (m : Nat) (payload : List Byte) : List Nat :=
  (List.range 257).foldl (fun acc j => addColumn m acc j (infoBlock payload j)) (List.replicate m 0)

/-- The parity blocks after the first, from the layers in order: the block that makes each layer even. -/
def parityRest (half p0 : Nat) : Nat → Nat → List Nat → List Nat
  | _, _, [] => []
  | row, prev, x :: r =>
    let p := x ^^^ prev ^^^ (if row = 0 then rotBlock p0 1 else if row = half then p0 else 0)
    p :: parityRest half p0 (row + 1) p r

/-- The m parity blocks: column 257 is the sum of all layers, since its two shifted entries cancel and every other parity column
meets two layers. -/
def parityBlocks (m : Nat) (layers : List Nat) : List Nat :=
  let p0 := layers.foldl (· ^^^ ·) 0
  p0 :: parityRest (m / 2) p0 0 0 layers.dropLast

/-- The blocks of a codeword: the payload, then the parity bits. -/
def codeword (m : Nat) (payload : List Byte) : List Nat :=
  (List.range 257).map (infoBlock payload) ++ parityBlocks m (infoLayers m payload)

/-- The bits of a codeword in order. -/
def codeBits (m : Nat) (payload : List Byte) : List Bool :=
  (codeword m payload).flatMap fun x => (List.range 128).map x.testBit

/-! ### The fields of a sector (R136) -/

def syncMark1 : Nat := 0xE4B38D5A
def syncMark2 : Nat := 0x1B4C72A5

/-- A sync mark's bits, most significant first. -/
def markBits (x : Nat) : List Bool := (List.range 32).map fun i => x.testBit (31 - i)

/-- The preamble pattern: 0b1100 repeated. -/
def preambleBit (n : Nat) : Bool := decide (n % 4 < 2)
def preambleBits (n : Nat) : List Bool := (List.range n).map preambleBit

/-- The precoder over a segment that starts at a sector offset (R171): b(n) = c(n) XOR b(n − 1), with b(n − 1) = 0 at the start
and after each relock field. -/
def precode (cuts : List Nat) : Nat → Bool → List Bool → List Bool
  | _, _, [] => []
  | off, prev, c :: r =>
    let b := c ^^ (prev && !cuts.contains off)
    b :: precode cuts (off + 1) b r

/-- A sector's channel bits by sector offset (R136, R171), for a code of m parity circulants cut at the given offsets. -/
def sectorBits (m : Nat) (cuts : List Nat) (payload : List Byte) : List Bool :=
  let code := codeBits m payload
  let half := 64 * (257 + m)
  preambleBits 96 ++ markBits syncMark1 ++ precode cuts 128 false (code.take half) ++
  markBits syncMark2 ++ precode cuts (160 + half) false (code.drop half) ++ preambleBits 24

/-- The parts of a sector in the data areas it takes: wedge, first T, and the sector offsets [from, to) there (R141). -/
def sectorParts (dataT secT sm2 : Nat) : Nat → Nat → Nat → Nat → List (Nat × Nat × Nat × Nat)
  | 0, _, _, _ => []
  | fuel + 1, w, pos, done =>
    let room := dataT - pos
    if secT - done ≤ room + 24 then [(w, pos, done, done + min room (secT - done))]
    else
      let cut := done + room
      let cut := if sm2 < cut ∧ cut < sm2 + 32 then sm2 else cut
      (w, pos, done, cut) :: sectorParts dataT secT sm2 fuel ((w + 1) % 600) 48 cut

def entryParts (h : Header) (e : Entry) : List (Nat × Nat × Nat × Nat) :=
  sectorParts h.dataT h.sectorT h.sm2At 64 e.wedge e.pos 0

/-- The sector offsets at which an entry goes on after a relock field. -/
def entryCuts (h : Header) (e : Entry) : List Nat := ((entryParts h e).drop 1).map fun x => x.2.2.1

/-- The 1/64 T by which each bit's transition is early (R172): by the transitions 1 T before and 1 T after; 0 where the bit
starts no transition. The level before the first bit of a piece is 0 (DESIGN CHOICE, log 86). -/
def precompensate (amounts : Nat) (bits : List Bool) : List (Bool × Nat) :=
  let tr := List.zipWith (· ^^ ·) bits (false :: bits)
  let around := List.zipWith (fun t n => (t, n)) (false :: tr) (tr.drop 1 ++ [false])
  (bits.zip tr).zipWith (fun b n => (b.1,
    if b.2 then (match n with
      | (true, true) => fld amounts 31 24
      | (true, false) => fld amounts 23 16
      | (false, true) => fld amounts 15 8
      | (false, false) => fld amounts 7 0) else 0)) around

/-- What a write sector puts on the medium, data area by data area: a 48 T relock field of the preamble pattern where it continues
(R136), then its bits. -/
def writtenPieces (h : Header) (e : Entry) (amounts : Nat) (payload : List Byte) : List (Nat × Nat × List (Bool × Nat)) :=
  let parts := entryParts h e
  let bits := sectorBits (circOfSectorT h.sectorT) (entryCuts h e) payload
  parts.map fun x =>
    let own := (bits.drop x.2.2.1).take (x.2.2.2 - x.2.2.1)
    if x.2.2.1 = 0 then (x.1, x.2.1, precompensate amounts own)
    else (x.1, 0, precompensate amounts (preambleBits 48 ++ own))

/-! ### Write-unsafe and the write gate (R17, R175, R176) -/

def wuBit : WuSource → Nat
  | .position => 0
  | .servoTimeout => 1
  | .preampFault => 2
  | .synthUnlock => 3
  | .frameVerify => 4
  | .chip => 5

/-- The write gate's part of the present data area, up to T, is noted (R257). -/
def noteWritten (c : Channel) (t : Nat) : Channel :=
  if c.writeGate.isSome then { c with duty := (c.syncs, t - c.writeFrom) :: c.duty, writeFrom := 0 } else c

/-- What the medium holds of a write sector: the given pieces of it, where there is a bit of them (R171, R176). -/
def emitPieces (s : State) (p : Nat) (e : Entry) (pieces : List (Nat × Nat × List (Bool × Nat))) : State :=
  let h := (s.playerOf p).header
  if pieces.all (·.2.2.isEmpty) then s else s.emit (.medium (playerAct p) h.surface h.track e.psector pieces)

/-- The pieces of a write sector of player p: its payload is read at BUF_BASE + BUF_INDEX × 4,160 (R222, R171). -/
def piecesOf (s : State) (p : Nat) (e : Entry) : List (Nat × Nat × List (Bool × Nat)) :=
  let h := (s.playerOf p).header
  writtenPieces h e (s.num (Obj.precomp (playerAct p) (h.surface % 12))) (dramRead s.mem (h.bufBase + 4160 * e.bufIndex) payloadLen)

/-- The part of a sector's pieces that lies before a wedge and T: the channel bits written before a cut (R176). -/
def piecesBefore (h : Header) (w t : Nat) (l : List (Nat × Nat × List (Bool × Nat))) : List (Nat × Nat × List (Bool × Nat)) :=
  l.filterMap fun x =>
    if x.1 = w then (if x.2.1 < t then some (x.1, x.2.1, x.2.2.take (t - x.2.1)) else none)
    else if posIdx h x.1 0 < posIdx h w 0 then some x else none

/-- The write gate closes before its sector is complete, where the T counter stands, and the laser drive goes to zero: the medium holds the
bits written so far. -/
def cutWrite (s : State) (a mask : Nat) (poisoned : Bool := false) : State :=
  let c := s.chanOf a
  let s := s.modChan a fun c => { noteWritten c c.headT with writeGate := none, laser := 0 }
  match c.writeGate, (s.actOf a).playing with
  | some i, some p =>
    let s := match s.entryOf p i with
      | some e => emitPieces s p e (piecesBefore (s.playerOf p).header c.wedge c.headT (piecesOf s p e))
      | none => s
    writeIncomplete s p i mask poisoned
  | _, _ => s

/-- Whether a sentence of actuator a plays: its track check has passed and it has not ended. -/
def sentencePlays (s : State) (a : Nat) : Bool := match (s.actOf a).playing with
  | some p => (s.playerOf p).playing
  | none => false

/-- The lockout of the sentence that is playing (R176): counted once per sentence, at the present wedge and T. -/
def lockSentence (s : State) (a : Nat) : State :=
  if sentencePlays s a && !(s.chanOf a).locked then
    let s := (s.modChan a fun c => { c with locked := true, lockAt := some (c.wedge, c.headT) }).bump (Obj.writeUnsafeCount a)
    postEvent s a evUnsafe
  else s

/-- A source asserts write-unsafe: the gate closes at once and stays closed for the sentence (R17, R176). -/
def assertWu (s : State) (a : Nat) (src : WuSource) : State :=
  let s := if (s.chanOf a).wu = 0 then s.modTrace a fun t => { t with seen := setBit t.seen 3 } else s
  let s := s.modChan a fun c => { c with wu := setBit c.wu (wuBit src) }
  let s := lockSentence s a
  if (s.chanOf a).writeGate.isSome then cutWrite s a rUnsafe else s.modChan a fun c => { c with laser := 0 }

/-- A source's level clears. The lockout stays until the sentence ends (R176). -/
def clearWu (s : State) (a : Nat) (src : WuSource) : State :=
  s.modChan a fun c => { c with wu := clrBit c.wu (wuBit src) }

/-- The synthesiser is seen unlocked while a gate is open or opens (R155): write-unsafe, one event, and one count per unlock. -/
def unlockSeen (s : State) (a : Nat) : State :=
  if bit (s.chanOf a).wu (wuBit .synthUnlock) then s
  else ((assertWu s a .synthUnlock).bump (Obj.synthUnlockCount a)).raiseAct a 2 a

end Sys2Proof.Machine
end

