-- ==== Sys2Proof/Machine/Signal.lean ====
section
/-!
DEFINITION. The read channel's signal path: the lanes' correction, the two-dimensional equaliser, the interpolator, the slicer and the
adaptive loops with their freezes, sample by sample, and what a capture keeps of it (R154–R166, R184).
-/

namespace Sys2Proof.Machine

/-! ### Settings -/

/-- The channel settings that a sentence plays with, as they stand when it is taken (R190, R246). -/
def settingsNow (s : State) (a p : Nat) : ChanSet where
  gainAcq := s.num (Obj.gainMuAcq a)
  gainTrk := s.num (Obj.gainMuTrk a)
  offsetAcq := s.num (Obj.offsetMuAcq a)
  offsetTrk := s.num (Obj.offsetMuTrk a)
  asym := s.num (Obj.asymMu a)
  kpAcq := s.num (Obj.timingKpAcq a)
  kiAcq := s.num (Obj.timingKiAcq a)
  kpTrk := s.num (Obj.timingKpTrk a)
  kiTrk := s.num (Obj.timingKiTrk a)
  acqT := s.num (Obj.acqT a)
  taThresh := s.num (Obj.taThresh a)
  dropThresh := s.num (Obj.dropThresh a)
  hangover := s.num (Obj.hangoverT a)
  taLimit := s.num (Obj.taEventLimit a)
  laserLead := s.num (Obj.laserLeadT a)
  leadT := s.num (Obj.leadT p)
  slotDeadline := s.num Obj.slotDeadlineUs

/-- Preset n of actuator a (R158). -/
def presetOf (s : State) (a n : Nat) : List Byte := slice (s.str (Obj.eqPresets a)) (512 * n) 512

/-- Noise-predictor record n of actuator a (R193, NP_SETS). -/
def npRecord (s : State) (a n : Nat) : List Byte := slice (s.str (Obj.npSets a)) (256 * n) 256

/-- TARGET of a preset, in 6-bit units (R158). -/
def presetTarget (preset : List Byte) : Int := byteAt preset 482

/-- The tap set of a preset record for the lanes in use (R158, R187). -/
def tapSet (preset : List Byte) (lanes : Nat) : List Byte :=
  match lanes with
  | 7 => slice preset 0 120
  | 6 => slice preset 120 80
  | 5 => slice preset 200 80
  | 3 => slice preset 280 80
  | 1 => slice preset 360 40
  | 2 => slice preset 400 40
  | 4 => slice preset 440 40
  | _ => []

/-- The lanes of a set, ascending. -/
def laneList (lanes : Nat) : List Nat := (List.range 3).filter (bit lanes)

/-- The 20 taps of lane k, in 1/256; none for a lane that is not in use. -/
def laneTaps (preset : List Byte) (lanes k : Nat) : List Int :=
  match (laneList lanes).zipIdx.find? (·.1 = k) with
  | some (_, i) => (List.range 20).map fun j => toSigned 16 (fieldAt (tapSet preset lanes) (40 * i + 2 * j) 2)
  | none => []

/-! ### Samples (R157, R160) -/

/-- A loop value in whole steps of its range. -/
def wholeSteps (v : Int) : Int := v / 65536

/-- A loop value held between its rails. -/
def railed (lo hi v : Int) : Int := max lo (min hi v)

/-- Rails in the units of the state: the gain's 0–127 codes, ±16 LSB of offset, ±1/4 of asymmetry, ±0.5 % of the zone rate. -/
def gainRail (v : Int) : Int := railed 0 (127 * 65536) v
def offsetRail : Int := 1024 * 65536
def asymRail : Int := 1024 * 65536
def freqRail : Int := (Config.timingUnit / 200 : Nat) * 65536

/-- x_k = adc − off + a × (adc − off)² / 64, in units of 2^-30 LSB (R160). -/
def correctSample (l : LaneLoops) (adc : Int) : Int :=
  let d := 64 * adc - wholeSteps l.offset
  d * 2 ^ 24 + wholeSteps l.asym * d * d

/-- The samples of a lane through its taps. -/
def throughTaps (taps xs : List Int) : Int := (List.zipWith (· * ·) taps xs).sum

/-- A sample saturated to 6 bits (R157). -/
def saturate6 (x : Int) : Int := max (-32) (min 31 x)

/-- Twice the slicer's decision of a sample at the levels 0, ±TARGET/2 and ±TARGET (R157); a sample midway takes the outer one. -/
def slicerTwice (target y : Int) : Int :=
  let m : Int := y.natAbs
  let level := if 4 * m < target then 0 else if 4 * m < 3 * target then target else 2 * target
  if y < 0 then -level else level

/-- Twice the level of the preamble pattern 0b1100 at place n of it under the target 1 + 2D + D² (R161). -/
def preambleTwice (target : Int) (n : Nat) : Int := if n % 4 = 1 ∨ n % 4 = 2 then target else -target

/-- The decision of the bit before a sample: the sign of the sample's level, and the opposite of the bit before it where the level
is 0 (log entry 52). -/
def bitBefore (target y : Int) (prev : Bool) : Bool :=
  let d := slicerTwice target y
  if d = 0 then !prev else decide (0 < d)

/-- The slicer's bit decisions of a run of samples: decision n comes from sample n + 1. -/
def decisions (target : Int) : Bool → List Int → List Bool
  | _, [] => []
  | prev, y :: r => let b := bitBefore target y prev; b :: decisions target b r

/-! ### Positions and freezes (R141, R162) -/

/-- Sector offset of a T of the data area for an entry, none in a relock field, before the sector and where its extent leaves the
area unused; beyond its end, the tail counts on (R165, R166). -/
def offsetOf (h : Header) (e : Entry) (w t : Nat) : Option Nat :=
  (entryParts h e).findSome? fun x =>
    if x.1 ≠ w ∨ t < x.2.1 then none
    else
      let off := x.2.2.1 + (t - x.2.1)
      if off < x.2.2.2 ∨ h.sectorT ≤ x.2.2.2 + 24 then some off else none

/-- Whether a T of the data area lies in a sentence freeze window: wedge, length and offset of each (R162, R224). -/
def inFreezeWindow (dataT : Nat) (l : List (Nat × Nat × Nat)) (w t : Nat) : Bool :=
  l.any fun x =>
    let d := (w + 600 - x.1) % 600
    decide (d < 300) && decide (x.2.2 ≤ d * dataT + t) && decide (d * dataT + t < x.2.2 + x.2.1)

/-- Whether a cause freezes all four loops: a detector, an open write gate, a sentence freeze window, a long freeze, or a phrase's mask
with all four bits set. -/
def allFrozen (h : Header) (freezes : List (Nat × Nat × Nat)) (c : Channel) (w t : Nat) : Bool :=
  decide (c.freeze ≠ 0) || c.longFreeze || decide (c.freezeMask % 16 = 15) || inFreezeWindow h.dataT freezes w t

/-- Whether a loop (gain 3, offset 2, asymmetry 1, timing 0) is frozen. -/
def loopFrozen (h : Header) (freezes : List (Nat × Nat × Nat)) (c : Channel) (w t i : Nat) : Bool :=
  allFrozen h freezes c w t || bit c.freezeMask i

/-- Whether a T of the data area lies in the relock field of a sector that continues there. -/
def inRelock (h : Header) (es : List Entry) (w t : Nat) : Bool :=
  es.any fun e => e.capturing && (entryParts h e).any fun x => decide (x.1 = w) && decide (x.2.2.1 ≠ 0) && decide (t < 48)

/-! ### One T (R160–R166) -/

/-- What the signal path works with: the sentence's header, settings and freeze windows, TARGET, the taps by lane, the lanes in use, whether
the tap set is all zero (R187), and the zone's two rates. -/
structure SignalCtx where
  h : Header
  set : ChanSet
  freezes : List (Nat × Nat × Nat)
  target : Int
  taps : List (List Int)
  lanes : Nat
  zero : Bool
  adcRate : Nat
  bitRate : Nat

/-- The place in its sector of the newest capture whose sector has come to this T and has not ended. Between sectors and in a relock
field there is none, and the loops hold (R161). -/
def captureOffset (x : SignalCtx) (es : List Entry) (w t : Nat) : Option Nat :=
  ((es.filter (·.capturing)).reverse.findSome? fun e => offsetOf x.h e w t).filter (· < x.h.sectorT)

/-- Acquisition: the first ACQ_T T of a sector that acquires, for every loop (R161). -/
def inAcquisition (x : SignalCtx) (c : Channel) (off : Option Nat) : Bool :=
  c.acquiring && (match off with
    | some n => decide (n < x.set.acqT)
    | none => false)

/-- A capture takes a sample at a sector offset (R166), counts the freeze run (R163), and ends at SECTOR_T + W. DESIGN CHOICE (log 52): of
two runs that count as one, the T between them do not count towards its length. -/
def keepSample (x : SignalCtx) (frozen : Bool) (y : Int) (w t : Nat) (e : Entry) : Entry :=
  if !e.capturing then e
  else match offsetOf x.h e w t with
    | none => e
    | some n =>
      if n < x.h.sectorT + x.h.syncWin then
        { e with
          samples := e.samples.take n ++ List.replicate (n - e.samples.length) 0 ++ [y]
          run := if frozen then e.run + 1 else if 63 ≤ e.gap then 0 else e.run
          gap := if frozen then 0 else e.gap + 1 }
      else e

/-- The timing loop over one T (R160): f and φ with the codes of its mode, only φ where it is frozen. -/
def stepTiming (x : SignalCtx) (c : Channel) (frozen acq : Bool) (tau2 : Int) : Channel :=
  if frozen then { c with phase := c.phase + c.freq }
  else
    let ki := if acq then x.set.kiAcq else x.set.kiTrk
    let kp := if acq then x.set.kpAcq else x.set.kpTrk
    let f := railed (-freqRail) freqRail (c.freq + tau2 * 2 ^ 15 / 2 ^ ki)
    { c with freq := f, phase := c.phase + f + tau2 * 2 ^ 15 / 2 ^ kp }

/-! ### Detectors (R164) -/

/-- The asperity detector of lane k: the sum of its newest eight corrected samples exceeds the threshold. -/
def asperityAt (c : Channel) (thresh k : Nat) : Bool :=
  decide (thresh * 2 ^ 30 < (((vget c.tails k ⟨[], [], 0, 0⟩).xs.take 8).sum).natAbs)

/-- The drop detector: the mean of |y| over the newest 16 T is below the threshold. -/
def dropAt (c : Channel) (thresh : Nat) : Bool :=
  decide (c.ys.length = 16) && decide ((c.ys.map Int.natAbs).sum < 16 * thresh)

/-- Some lane in use meets the asperity condition. -/
def asperityMet (x : SignalCtx) (c : Channel) : Bool := (laneList x.lanes).any (asperityAt c x.set.taThresh)

/-- The drop condition holds: a threshold of 0 disables it, and it looks only during tracking, in a sector. -/
def dropMet (x : SignalCtx) (c : Channel) (off : Option Nat) : Bool :=
  decide (x.set.dropThresh ≠ 0) && off.isSome && !inAcquisition x c off && dropAt c x.set.dropThresh

/-- A detector's freeze over one T (R162): while its condition is met the hangover begins anew; HANGOVER_T T after, the freeze ends. -/
def hangStep (x : SignalCtx) (c : Channel) (off : Option Nat) : Channel :=
  let ta := if asperityMet x c then 0 else c.taQuiet + 1
  let drop := if dropMet x c off then 0 else c.dropQuiet + 1
  let f := if x.set.hangover < ta then clrBit c.freeze 1 else c.freeze
  { c with taQuiet := ta, dropQuiet := drop, freeze := if x.set.hangover < drop then clrBit f 2 else f }

/-- One T: the equalised sample, its decision, the errors it adds to the word's sums, the timing loop, and the captures. -/
def stepT (x : SignalCtx) (c : Channel) (es : List Entry) : Channel × List Entry :=
  let w := c.streamWedge
  let t := c.streamT
  let relock := inRelock x.h es w t
  let off := captureOffset x es w t
  let acq := inAcquisition x c off
  let y := if x.zero then 0 else saturate6 (Config.interpolate c.zs c.phase c.streamFrac)
  let d2 := if relock then preambleTwice x.target t else if acq then preambleTwice x.target (off.getD 0) else slicerTwice x.target y
  let e2 := 2 * y - d2
  let frozen (i : Nat) : Bool := loopFrozen x.h x.freezes c w t i
  let held := relock || off.isNone
  let c1 := { c with
    sumG := if frozen 3 || held then c.sumG else c.sumG + e2 * d2.sign
    tails := Vector.ofFn fun k : Fin 3 =>
      if frozen 1 || held || acq then c.tails[k]
      else { c.tails[k] with sumS := c.tails[k].sumS + e2 * Config.interpolate c.tails[k].ws c.phase c.streamFrac } }
  let c2 := stepTiming x c1 (frozen 0 || (off.isNone && !relock)) (acq || relock) (c.lastD * y - d2 * c.lastY)
  let es' := if relock then es else es.map (keepSample x (allFrozen x.h x.freezes c w t) y w t)
  let next := if t + 1 < x.h.dataT then (w, t + 1) else ((w + 1) % 600, 0)
  (hangStep x { c2 with
      lastY := y, lastD := d2, streamWedge := next.1, streamT := next.2
      ys := if relock then c.ys else (y :: c.ys).take 16 } off, es')

/-! ### One row of ADC samples -/

/-- The loops' update at the end of a 16-sample lane word (R160): gain, offset and asymmetry. A loop that is held then, by a freeze (R162),
by acquisition for the asymmetry, or because no sector runs (R161), keeps its value, and the word's sum is dropped. -/
def stepWord (x : SignalCtx) (c : Channel) (off : Option Nat) (w t : Nat) : Channel :=
  let acq := inAcquisition x c off
  let held (i : Nat) : Bool := off.isNone || loopFrozen x.h x.freezes c w t i
  let muG := if acq then x.set.gainAcq else x.set.gainTrk
  let muO := if acq then x.set.offsetAcq else x.set.offsetTrk
  { c with
    gain := if held 3 then c.gain else gainRail (c.gain - c.sumG * 2 ^ 15 / 2 ^ muG)
    lanes := Vector.ofFn fun k : Fin 3 =>
      if bit x.lanes k then
        { offset := if held 2 then c.lanes[k].offset
            else railed (-offsetRail) offsetRail (c.lanes[k].offset + c.tails[k].sumX / 2 ^ (8 + muO))
          asym := if held 1 || acq then c.lanes[k].asym
            else railed (-asymRail) asymRail (c.lanes[k].asym - c.tails[k].sumS * 2 ^ 27 / 2 ^ x.set.asym) }
      else c.lanes[k]
    tails := Vector.ofFn fun k : Fin 3 => { c.tails[k] with sumX := 0, sumS := 0 }
    sumG := 0, wordRows := 0 }

/-- One lane of a row: the corrected sample, and its square / 64 in the same unit through the taps, join the lane's memory (R160). -/
def stepLane (x : SignalCtx) (c : Channel) (held : Bool) (k : Nat) (adc : Int) (tail : LaneTail) : LaneTail :=
  if !bit x.lanes k then tail
  else
    let v := correctSample (vget c.lanes k ⟨0, 0⟩) adc
    let taps := x.taps.getD k []
    let xs := (v :: tail.xs).take 20
    { xs := xs, ws := (throughTaps taps (xs.map fun z => z * z / 2 ^ 36) :: tail.ws).take 20
      sumX := if held then tail.sumX else tail.sumX + v, sumS := tail.sumS }

/-- The sample of lane k of a row. -/
def laneSample (r : AdcRow) : Nat → Int
  | 0 => r.1
  | 1 => r.2.1
  | _ => r.2.2

/-- A capture counts the raw samples of its lanes over the sector, its tail apart (R184). -/
def countRow (h : Header) (w t : Nat) (r : AdcRow) (e : Entry) : Entry :=
  if e.capturing && ((offsetOf h e w t).filter (· < h.sectorT)).isSome then
    { e with stats := Vector.ofFn fun k : Fin 3 =>
        let v := laneSample r k
        let s := e.stats[k]
        ⟨s.n + 1, if v = -64 ∨ v = 63 then s.clip + 1 else s.clip, s.sum + v, s.sq + v * v⟩ }
  else e

/-- One row of ADC samples: correction, equaliser, at most one T of the zone's grid, and the end of a word. -/
def stepRow (x : SignalCtx) (z : Channel × List Entry) (r : AdcRow) : Channel × List Entry :=
  let c := z.1
  let w := c.streamWedge
  let t := c.streamT
  let off := captureOffset x z.2 w t
  let held := loopFrozen x.h x.freezes c w t 2 || off.isNone
  let tails := Vector.ofFn fun k : Fin 3 => stepLane x c held k (laneSample r k) c.tails[k]
  let comb := ((List.range 3).map fun k =>
    if bit x.lanes k then throughTaps (x.taps.getD k []) (vget tails k ⟨[], [], 0, 0⟩).xs else 0).sum
  let frac := c.streamFrac + x.bitRate
  let c := { c with tails := tails, zs := (comb :: c.zs).take 20, wordRows := c.wordRows + 1
                    streamFrac := if x.adcRate ≤ frac then frac - x.adcRate else frac }
  let es := z.2.map (countRow x.h w t r)
  let (c, es) := if x.adcRate ≤ frac then stepT x c es else (c, es)
  (if c.wordRows = 16 then stepWord x c off w t else c, es)

/-! ### The stream of a playing sentence -/

/-- The signal path of player p's sentence on actuator a. -/
def signalCtx (s : State) (a p : Nat) : SignalCtx :=
  let pl := s.playerOf p
  let lanes := (s.chanOf a).lanesInUse
  let preset := presetOf s a pl.header.eqPreset
  let zone := sentenceZone s pl.header.surface pl.header.zone
  { h := pl.header, set := pl.set, freezes := pl.freezes, target := presetTarget preset
    taps := (List.range 3).map (laneTaps preset lanes), lanes := lanes, zero := (tapSet preset lanes).all (· = 0)
    adcRate := (zone.map (·.adcKsps)).getD 1, bitRate := (zone.map (·.bitKbps)).getD 1 }

/-- The samples that the lanes have delivered since the last command, while the read gate and the read front end are on (R157,
R234). -/
def streamSamples (s : State) (a : Nat) (adc : List AdcRow) : State :=
  match (s.actOf a).playing with
  | none => s
  | some p =>
    if (s.chanOf a).readGate && bit (s.playerOf p).frontEnd 2 then
      let z := adc.foldl (stepRow (signalCtx s a p)) (s.chanOf a, (s.playerOf p).entries)
      (s.modChan a fun _ => z.1).modPlayer p fun pl => { pl with entries := z.2 }
    else s

/-! ### Sync marks (R165) -/

/-- Hamming distance of a run of 32 decisions from a mark. -/
def markDistance (mark : Nat) (l : List Bool) : Nat :=
  ((l.zip (markBits mark)).filter fun x => x.1 != x.2).length + (32 - l.length)

/-- The positions of a window with their distances: centre ± W (R165), from the samples of a capture. -/
def windowCandidates (target : Int) (mark centre w : Nat) (samples : List Int) : List (Nat × Nat) :=
  let first := centre - w
  let prev := match samples[first]? with
    | some y => bitBefore target y false
    | none => false
  let d := decisions target prev ((samples.drop (first + 1)).take (2 * w + 32))
  (List.range (2 * w + 1)).map fun i => (first + i, markDistance mark ((d.drop i).take 32))

/-! ### What a capture leaves (R167, R202) -/

/-- SYNC_OUTCOME (R167): the outcome, and the sector offset segment 1 is taken from; `half` is N/2. -/
def syncOutcome (sm1 sm2 : Option (Nat × Nat)) (half : Nat) : Nat × Int :=
  match sm1, sm2 with
  | some a, some b => if b.1 = a.1 + 32 + half then (0, (a.1 : Int) + 32) else (4, (b.1 : Int) - half)
  | none, some b => (1, (b.1 : Int) - half)
  | some a, none => (2, (a.1 : Int) + 32)
  | none, none => (3, 128)

/-- N/2 of a sentence's sectors. -/
def halfOf (h : Header) : Nat := 64 * (257 + circOfSectorT h.sectorT)

/-- The sample slot of a capture as it stands. -/
def slotOfCapture (h : Header) (e : Entry) : SampleSlot :=
  let o := syncOutcome e.sm1 e.sm2 (halfOf h)
  { samples := e.samples.take 43605, align := o.2.toNat, sm1 := (e.sm1.map (·.1)).getD 0xFFFF
    sm2 := (e.sm2.map (·.1)).getD 0xFFFF, parityCirc := circOfSectorT h.sectorT, outcome := o.1, parity := e.isParity
    preset := h.eqPreset, seed := e.seed, report := e.report, surface := h.surface, track := h.track, psector := e.psector
    globals := 0, locals := 0, cuts := entryCuts h e, step := 0 }

/-- The samples of a capture, stored in its ring slot (R202). -/
def storeRingSlot (s : State) (p : Nat) (e : Entry) (x : SampleSlot) : State :=
  { s with dec := { s.dec with ringSlots := SMap.put s.dec.ringSlots (slotKey (playerAct p) e.ringSlot) x } }

end Sys2Proof.Machine
end

