-- ==== Sys2Proof/Machine/Pool.lean ====
section
/-!
DEFINITION. The decode pool's jobs and its scheduler: which core has which pass in hand, by class, deadline and ring
(R191, R199, R214).
-/

namespace Sys2Proof.Machine

/-! ### Jobs -/

def State.setDec (s : State) (d : Decode) : State := { s with dec := d }

def jobOf (s : State) (id : Nat) : Option DecodeJob := s.dec.jobs.find? (·.id = id)

def setJobs (s : State) (l : List DecodeJob) : State := s.setDec { s.dec with jobs := l }

def putJob (s : State) (j : DecodeJob) : State := setJobs s (s.dec.jobs.map fun x => if x.id = j.id then j else x)

/-- A job ends: the cores that had it in hand are free of it. -/
def dropJob (s : State) (id : Nat) : State :=
  s.setDec { s.dec with
    jobs := s.dec.jobs.filter (·.id ≠ id)
    detRun := s.dec.detRun.filter (·.2 ≠ id)
    ldpcRun := s.dec.ldpcRun.filter (·.2 ≠ id) }

/-! ### The scheduler (R199) -/

/-- Class of a job's next pass: 1 reserved, 2 extension, 3 ladder. -/
def DecodeJob.cls (j : DecodeJob) : Nat :=
  if j.ring.isSome then 3 else if j.alignGlobals < j.reserve then 1 else 2

/-- Of two jobs the one with the earlier deadline, and of equal deadlines the earlier one. -/
def earlier (x y : DecodeJob) : DecodeJob :=
  if y.deadline < x.deadline ∨ (y.deadline = x.deadline ∧ y.id < x.id) then y else x

/-- Earliest deadline first. -/
def earliest : List DecodeJob → Option DecodeJob
  | [] => none
  | j :: r => some (r.foldl earlier j)

/-- The next ladder request: round robin across rings after the last one, and in ring order within each ring. -/
def ladderNext (last : Nat) (l : List DecodeJob) : Option DecodeJob :=
  ([1, 2, 3, 4].map fun k => (last + k) % 4).findSome? fun r =>
    match l.filter fun j => decide (j.ring = some r) with
    | [] => none
    | j :: t => some (t.foldl (fun x y => if y.id < x.id then y else x) j)

/-- The job that a core takes among those it may take: reserved iterations, then extensions, then ladder requests. -/
def pickJob (last : Nat) (l : List DecodeJob) : Option DecodeJob :=
  match earliest (l.filter (·.cls = 1)) with
  | some j => some j
  | none => match earliest (l.filter (·.cls = 2)) with
    | some j => some j
    | none => ladderNext last (l.filter (·.cls = 3))

/-- Whether a core in a state may take a pass (R214): a RUNNING one; a QUIESCING one only for the ladder request that it holds, the
one whose last pass it ran. A core whose result was discarded leaves the sector to another (R196). -/
def mayTake (st core last avoid : Nat) (j : DecodeJob) : Bool :=
  decide (avoid ≠ core) && (decide (st = stRunning) || (decide (st = stQuiescing) && j.ring.isSome && decide (last = core)))

/-- An idle detector core takes its next pass. -/
def startDetector (s : State) (d : Nat) : State :=
  if (SMap.find s.dec.detRun d).isSome then s
  else
    let l := s.dec.jobs.filter fun (j : DecodeJob) => decide (j.phase = .waitDetector) && !(s.dec.detRun.any fun e => decide (e.2 = j.id)) &&
      mayTake (s.num (Obj.detectorState d)) d j.detCore j.avoidDet j
    match pickJob s.dec.detRing l with
    | none => s
    | some j => s.setDec { s.dec with detRun := SMap.put s.dec.detRun d j.id, detRing := j.ring.getD s.dec.detRing }

/-- An idle LDPC core takes its next pass. -/
def startLdpc (s : State) (c : Nat) : State :=
  if (SMap.find s.dec.ldpcRun c).isSome then s
  else
    let l := s.dec.jobs.filter fun (j : DecodeJob) => decide (j.phase = .waitLdpc) && !(s.dec.ldpcRun.any fun e => decide (e.2 = j.id)) &&
      mayTake (s.num (Obj.ldpcState c)) c j.ldpcCore j.avoidLdpc j
    match pickJob s.dec.ldpcRing l with
    | none => s
    | some j => s.setDec { s.dec with ldpcRun := SMap.put s.dec.ldpcRun c j.id, ldpcRing := j.ring.getD s.dec.ldpcRing }

/-- Every idle core takes the work that waits, the lowest-numbered core first (R199; log entry 58). -/
def dispatch (s : State) : State := (s.each (List.range 8) startDetector).each (List.range 12) startLdpc

def addJob (s : State) (j : DecodeJob) : State :=
  dispatch (s.setDec { s.dec with jobs := s.dec.jobs ++ [j], nextId := s.dec.nextId + 1 })

/-- Whether a core still has a pass in hand, or holds a ladder request (R214). -/
def coreBusy (s : State) (det : Bool) (core : Nat) : Bool :=
  (SMap.find (if det then s.dec.detRun else s.dec.ldpcRun) core).isSome ||
  s.dec.jobs.any fun (j : DecodeJob) => j.ring.isSome && decide (j.phase ≠ .ended) && decide ((if det then j.detCore else j.ldpcCore) = core)

/-- The alignment in progress starts again from its samples, with its full iteration limit (R196, R211). -/
def restartAlignment (j : DecodeJob) : DecodeJob :=
  { j with phase := .waitDetector, coreFault := true, alignGlobals := 0, passLocals := 0, llr := [], post := [], msgs := [] }

/-- A core that leaves RUNNING through a fault abandons its pass: the alignment in progress starts again on another core (R211, R214). -/
def abandonPasses (s : State) (det : Bool) (core : Nat) : State :=
  let run := if det then s.dec.detRun else s.dec.ldpcRun
  let s := match SMap.find run core with
    | none => s
    | some id => setJobs s (s.dec.jobs.map fun (j : DecodeJob) => if j.id = id then restartAlignment j else j)
  dispatch (s.setDec (if det then { s.dec with detRun := SMap.erase s.dec.detRun core }
    else { s.dec with ldpcRun := SMap.erase s.dec.ldpcRun core }))

end Sys2Proof.Machine
end

