-- ==== Sys2Proof/Machine/Capture.lean ====
section
/-!
DEFINITION. The end of a capture: the sync outcome, the channel report, the lane faults, the ring slot and the post to the decode pool
(R166, R167, R170, R184, R187, R202, R241).
-/

namespace Sys2Proof.Machine

/-! ### The end of a capture (R166, R167, R170, R184, R187, R202) -/

/-- Distance as the report carries it: 7 when not found. -/
def distOf : Option (Nat × Nat) → Nat
  | some x => x.2
  | none => 7

/-- The bits of the channel report that the sync detectors give (R170). -/
def syncReport (outcome : Nat) (align : Int) (sm1 sm2 : Option (Nat × Nat)) : Nat :=
  outcome * 2 ^ 29 + ofSigned 7 (align - 128) * 2 ^ 22 + distOf sm1 * 2 ^ 19 + distOf sm2 * 2 ^ 16

/-- A lane's samples have variance below 1 LSB², and above 4 LSB² (R184). -/
def LaneStat.stuck (x : LaneStat) : Bool := decide ((x.n : Int) * x.sq - x.sum * x.sum < (x.n * x.n : Nat))
def LaneStat.lively (x : LaneStat) : Bool := decide ((4 * x.n * x.n : Nat) < (x.n : Int) * x.sq - x.sum * x.sum)

/-- The conditions of R184 on lane k of a sector, as bits 1 CLIP, 2 STUCK, 3 OFFSET_RAIL. -/
def laneConditions (e : Entry) (loops : Vector LaneLoops 3) (lanes k : Nat) : Nat :=
  let st := vget e.stats k ⟨0, 0, 0, 0⟩
  let other := (laneList lanes).any fun j => decide (j ≠ k) && (vget e.stats j ⟨0, 0, 0, 0⟩).lively
  (if st.n < 64 * st.clip then 2 else 0) + (if st.stuck && other then 4 else 0) +
  (if offsetRail ≤ ((vget loops k ⟨0, 0⟩).offset.natAbs : Int) then 8 else 0)

/-- LANE_FAULT_CHECK (R184): each condition of each lane in use raises one event and counts. -/
def laneFaults (s : State) (a lanes : Nat) (e : Entry) : State :=
  let loops := (s.chanOf a).lanes
  s.each (laneList lanes) fun s k =>
    let m := laneConditions e loops lanes k
    let one (s : State) (count detail : Nat) : State :=
      if bit m detail then (s.bump count).raiseAct a (11 + k) k detail else s
    one (one (one s (Obj.clipCount a k) 1) (Obj.stuckCount a k) 2) (Obj.offsetRailCount a k) 3

/-- The decode pool takes a posted capture: a job with the entry's reservation, seed and parity (R198, R199, R234). -/
def postJob (s : State) (p i : Nat) (e : Entry) (h : Header) (align : Int) : State :=
  let j : DecodeJob :=
    { id := s.dec.nextId, ring := none, player := p, entry := i, actuator := playerAct p, ringSlot := e.ringSlot, hold := none
      reserve := e.reserve, parity := e.isParity, parityCirc := circOfSectorT h.sectorT, seed := e.seed, report := e.report
      kind := 0, target := byteAt (presetOf s (playerAct p) h.eqPreset) 482, np := (s.playerOf p).np, llr := [], post := [], msgs := []
      avoidDet := 0xFF, avoidLdpc := 0xFF, deadline := s.tick + 25 * (s.playerOf p).set.slotDeadline
      statusAddr := statusAddr h i, payloadAddr := h.bufBase + 4160 * e.bufIndex, phase := .waitDetector
      globals := 0, locals := 0, passLocals := 0, alignGlobals := 0, minUnsat := 255, result := resNotDecoded
      detCore := 0xF, ldpcCore := 0xF, extended := false, overrun := false, coreFault := false, held := false, lost := false
      aligns := [align], alignIndex := 0, cuts := entryCuts h e, limitLocal := s.num Obj.onlineLocal, limitGlobal := e.reserve, limitProbe := 0
      releaseAfter := false, slots := [e.ringSlot], fromRing := true, acceptTick := s.tick, seq := h.seq % 256, ladder := 0 }
  addJob s j

/-- Whether a capture is at its end (R166, R235): W T after its READ_CLOSE, or with its last sample in — the postamble's end plus W, or
the end of the data area that holds the sector's end. -/
def captureAtEnd (h : Header) (c : Channel) (e : Entry) : Bool :=
  e.closing || decide (h.sectorT + h.syncWin ≤ e.samples.length) ||
  (decide (h.sectorT ≤ e.samples.length + 24) && decide (c.streamWedge ≠ (entryPos h e h.sectorT).1))

/-- What the end of a capture does when it fills a ring slot: the report's sync fields, the counters, and the post (R167, R234). -/
def captureStored (s : State) (p i : Nat) (e : Entry) : State :=
  let a := playerAct p
  let h := (s.playerOf p).header
  let o := syncOutcome e.sm1 e.sm2 (halfOf h)
  let e := { e with report := e.report ||| syncReport o.1 o.2 e.sm1 e.sm2 }
  let s := modEntry s p i fun _ => e
  let s := if o.1 = 3 then s.bump (Obj.timedCount a) else if o.1 = 4 then s.bump (Obj.sm1CorrectedCount a) else s
  let s := storeRingSlot s p e (slotOfCapture h e)
  let s := postSector s a evCapture i
  if e.final then s
  else if e.noPost then (if e.played then endEntry s p i resNotDecoded else s)
  else postJob (modEntry s p i fun e => { e with posted := true }) p i e h o.2

/-- A capture ends (R166): the lanes are checked, an all-zero tap set is an event, the outcome is chosen, the report made, and the samples
stored and posted. A read without a capture buffer stores and posts nothing (R234). -/
def endCapture (s : State) (p i : Nat) : State :=
  match s.entryOf p i with
  | none => s
  | some e =>
    let a := playerAct p
    let h := (s.playerOf p).header
    let e := { e with capturing := false }
    let s := modEntry s p i fun _ => e
    let lanes := fld e.report 6 4
    let s := laneFaults s a lanes e
    let s := if (tapSet (presetOf s a h.eqPreset) lanes).all (· = 0) then s.raiseAct a 0 a else s
    let s := if (entriesWhere s p (·.capturing)).isEmpty then s.modChan a fun c => { c with readGate := false } else s
    let s := s.modChan a fun c => { c with vga := (c.syncs, (c.gain / 65536).toNat) :: c.vga }
    if e.noCapture then (if e.played then endEntry s p i resNotDecoded else s) else captureStored s p i e

/-- Every sample up to the end of the sector's postamble is in, cut short where the data area ends there (R141, R241). -/
def postambleIn (h : Header) (c : Channel) (e : Entry) : Bool :=
  decide (h.sectorT ≤ e.samples.length) ||
  (decide (h.sectorT ≤ e.samples.length + 24) && decide (c.streamWedge ≠ (entryPos h e h.sectorT).1))

/-- A capture cut before the end of its sector's postamble reads NOT_DECODED; its samples stay in the ring slot (R241). -/
def cutCapture (s : State) (p i : Nat) : State :=
  match s.entryOf p i with
  | none => s
  | some e =>
    let s := if e.noCapture then s else storeRingSlot s p e (slotOfCapture (s.playerOf p).header e)
    endEntry (modEntry s p i fun e => { e with capturing := false }) p i resNotDecoded

/-- A capture whose sentence is given up (R241): one in its tail ends and is posted with the samples it has, any other is cut. -/
def stopCapture (s : State) (p i : Nat) : State :=
  match s.entryOf p i with
  | some e => if postambleIn (s.playerOf p).header (s.chanOf (playerAct p)) e then endCapture s p i else cutCapture s p i
  | none => s

end Sys2Proof.Machine
end

