-- ==== Sys2Proof/Machine/Players.lean ====
section
/-!
DEFINITION. The sentence players: loading, pre-roll, clauses and phrases, the gate executor, and the end of a sentence
(R218–R246). The meanings that write an object on a core's behalf stand in Machine/DictService.lean.
-/

namespace Sys2Proof.Machine

/-! ### Sentences in DRAM (R221–R224) -/

def headerOf (b : List Byte) : Header where
  magic := fieldAt b 0 4
  seq := fieldAt b 4 4
  actuator := byteAt b 8
  surface := byteAt b 9
  zone := byteAt b 10
  timingMode := byteAt b 11
  bank := byteAt b 12
  preroll := byteAt b 13
  lanes := byteAt b 14
  eqPreset := byteAt b 15
  track := fieldAt b 16 4
  startWedge := fieldAt b 20 2
  wedges := fieldAt b 22 2
  startRev := fieldAt b 24 2
  entry := fieldAt b 26 2
  sectors := fieldAt b 28 2
  skips := byteAt b 30
  freezes := byteAt b 31
  dataT := fieldAt b 32 4
  sectorT := fieldAt b 36 2
  sm2At := fieldAt b 38 2
  syncWin := byteAt b 40
  syncTol := byteAt b 41
  seekProfile := fieldAt b 42 2
  bufBase := fieldAt b 48 8
  statusBase := fieldAt b 56 8

/-- Length of a sentence from its header (R221). -/
def sentenceLen (h : Header) : Nat := 128 + 16 * h.sectors + 8 * h.skips + 8 * h.freezes + (h.sectors + 63) / 64 * 16

/-- Sector-table entry i with its power selector (R221, R223). -/
def entryOfBytes (b : List Byte) (h : Header) (i : Nat) : Entry :=
  let r := slice b (128 + 16 * i) 16
  let wp := 128 + 16 * h.sectors + 8 * h.skips + 8 * h.freezes
  let fl := byteAt r 13
  { psector := fieldAt r 0 2 % 1024, wedge := fieldAt r 2 2 % 1024, pos := fieldAt r 4 4 % 2 ^ 18, seed := fieldAt r 8 4
    ringSlot := byteAt r 12 % 64, isWrite := bit fl 7, isParity := bit fl 6, reserve := fl % 4, bufIndex := fieldAt r 14 2
    selector := fld (byteAt b (wp + i / 4)) (2 * (i % 4) + 1) (2 * (i % 4))
    sm1 := none, sm2 := none, sm1Done := false, sm2Done := false, report := 0, capturing := false, closing := false
    opened := false, posted := false, samples := [], stats := .replicate 3 ⟨0, 0, 0, 0⟩, run := 0, gap := 0, arm := 0, noCapture := false, noPost := false, played := false, final := false
    result := resNotVisited }

def entriesOfBytes (b : List Byte) (h : Header) : List Entry := (List.range h.sectors).map (entryOfBytes b h)

/-- Skip entries: wedge, physical sector, position; freeze entries: wedge, length, offset (R224). -/
def skipsOfBytes (b : List Byte) (h : Header) : List (Nat × Nat × Nat) :=
  (List.range h.skips).map fun i =>
    let o := 128 + 16 * h.sectors + 8 * i
    (fieldAt b o 2, fieldAt b (o + 2) 2, fieldAt b (o + 4) 4)

def freezesOfBytes (b : List Byte) (h : Header) : List (Nat × Nat × Nat) :=
  (List.range h.freezes).map fun i =>
    let o := 128 + 16 * h.sectors + 8 * h.skips + 8 * i
    (fieldAt b o 2, fieldAt b (o + 2) 2, fieldAt b (o + 4) 4)

/-- Extent on the medium of a skip entry: a whole sector from its position (R224). The end counts the wedges that it runs over. -/
def skipExtent (h : Header) (k : Nat × Nat × Nat) : Nat × Nat :=
  let (w, t) := mapOffset h.dataT h.sectorT h.sm2At 64 k.1 k.2.2 0 h.sectorT
  let d := (k.1 + 600 - h.startWedge) % 600
  (d * 2 ^ 24 + k.2.2, (d + (w + 600 - k.1) % 600) * 2 ^ 24 + t)

/-- A revolution of the track, in the measure of `posIdx`. -/
def turnIdx : Nat := 600 * 2 ^ 24

/-- End of the window: the end of its last wedge's data area (R222). -/
def windowEnd (h : Header) : Nat := (h.wedges - 1) * 2 ^ 24 + h.dataT

/-! ### Load checks (R227) -/

/-- The header's zero bytes, 44–47 and 64–127 (R222). -/
def headerZeros (b : List Byte) : Bool := (slice b 44 4 ++ slice b 64 64).all (· = 0)

/-- The ranges of R222; BUF_BASE and STATUS_BASE are DRAM addresses. -/
def headerInRange (h : Header) : Bool :=
  decide (h.actuator ≤ 3) && decide (h.surface ≤ 47) && (decide (h.zone ≤ 63) || decide (h.zone = 0xFF)) &&
  decide (h.timingMode ≤ 2) && decide (h.bank ≤ 1) && decide (h.preroll ≤ 2) && decide (1 ≤ h.lanes ∧ h.lanes ≤ 7) &&
  decide (h.eqPreset ≤ 63) && decide (h.track ≤ 0xFFFFFF) && decide (h.startWedge ≤ 599) &&
  decide (1 ≤ h.wedges ∧ h.wedges ≤ 600) && decide (h.entry ≤ 4095) && decide (h.sectors ≤ 1024) &&
  decide (h.skips ≤ 64) && decide (h.freezes ≤ 64) && decide (h.syncWin ≤ 63) && decide (h.syncTol ≤ 4) &&
  decide (h.bufBase % 64 = 0) && decide (h.statusBase % 64 = 0) && inDram h.bufBase 64 && inDram h.statusBase 64

/-- An entry names a place of a data area of the window. -/
def startsInside (h : Header) (e : Entry) : Bool :=
  decide (e.wedge < 600) && decide (e.pos < h.dataT) && decide ((e.wedge + 600 - h.startWedge) % 600 < h.wedges)

/-- Each entry starts no earlier than the end of the one before, and lies wholly inside the window (R223). -/
def entriesOrdered (h : Header) : Nat → List Entry → Bool
  | _, [] => true
  | prev, e :: r =>
    startsInside h e && decide (prev ≤ entryStart h e) && decide (entryEnd h e ≤ windowEnd h) && entriesOrdered h (entryEnd h e) r

/-- Two extents on one track have nothing in common, also where one of them runs past the wedge before the window. -/
def extentsClear (x y : Nat × Nat) : Bool :=
  [0, turnIdx].all fun d =>
    (decide (x.2 + d ≤ y.1) || decide (y.2 ≤ x.1 + d)) && (decide (y.2 + d ≤ x.1) || decide (x.2 ≤ y.1 + d))

/-- No entry overlaps a skip span. -/
def entriesClear (h : Header) (es : List Entry) (ks : List (Nat × Nat × Nat)) : Bool :=
  es.all fun e => ks.all fun k => extentsClear (entryStart h e, entryEnd h e) (skipExtent h k)

/-- Banks that an actuator holds (R113): one bit per bank. -/
def bankHeld (s : State) (a bank : Nat) : Bool := bit (s.actOf a).banksHeld bank

/-- Every lane of an actuator's region fenced in the down direction (R458, LANES_FENCED). -/
def downRouteFenced (s : State) (a : Nat) : Bool := decide (fld (s.num Obj.lanesFenced) (22 + 2 * a + 1) (22 + 2 * a) = 3)

/-- The first check that fails, 0 for none (R227). -/
def loadReject (s : State) (p addr : Nat) : Nat :=
  let b := dramRead s.mem addr 128
  let h := headerOf b
  let a := playerAct p
  let len := sentenceLen h
  let whole := dramRead s.mem addr len
  let fetchBad := !inDram addr len || dramPoisoned s.mem addr len || downRouteFenced s a
  if h.magic ≠ 0x4E535A4F then 1
  else if h.actuator ≠ a ∨ actOf h.surface ≠ a ∨ !present s h.surface ∨ 3 ≤ s.num (Obj.surfaceState h.surface) then 2
  else if h.timingMode ≠ s.num (Obj.timingMode p) then 3
  else if !bankHeld s a h.bank then 4
  else if !headerInRange h || !headerZeros b then 5
  else match sentenceZone s h.surface h.zone with
    | none => 6
    | some z =>
      if h.dataT ≠ z.dataT ∨ h.sectorT ≠ sectorT z.parityCirc ∨ h.sm2At ≠ sm2At z.parityCirc then 6
      else
        let es := entriesOfBytes whole h
        if !entriesOrdered h 0 es || !entriesClear h es (skipsOfBytes whole h) then 7
        else if fetchBad then 8 else 0

/-! ### The sentence record (R225, R226) -/

def Outcome.code : Outcome → Nat
  | .complete => 0 | .underrun => 1 | .settleMiss => 2 | .aborted => 3 | .windowEnd => 4 | .badClause => 5
  | .fault => 6 | .discarded => 7

/-- Record FLAGS bits (R225). -/
def fUnsafe : Nat := 1
def fEventLost : Nat := 2
def fWaitTimeout : Nat := 4
def fLateGate : Nat := 8
def fSkipGuard : Nat := 16
def fServoMissed : Nat := 32
def fMarksLost : Nat := 64

def setFlags (s : State) (p mask : Nat) : State := s.modPlayer p fun pl => { pl with flags := pl.flags ||| mask }

def markBytes (m : Nat × Nat × Nat) : List Byte := [BitVec.ofNat 8 m.1, 0] ++ leBytes 2 m.2.1 ++ leBytes 4 m.2.2

/-- The 64 bytes of a record. -/
def recordBytes (pl : Player) (o : Outcome) (endTick : Nat) : List Byte :=
  leBytes 4 pl.header.seq ++ [BitVec.ofNat 8 o.code, BitVec.ofNat 8 pl.flags] ++ leBytes 2 pl.visited ++
  leBytes 2 pl.lateGates ++ leBytes 2 pl.waitTimeouts ++ leBytes 2 pl.lastClause ++ leBytes 2 0 ++
  leBytes 8 pl.startTick ++ leBytes 8 endTick ++ padTo 24 (pl.marks.take 3 |>.flatMap markBytes) ++ leBytes 4 0 ++
  leBytes 4 (0x5E5A0000 + pl.header.seq % 65536)

def putRecord (s : State) (r : PendingRecord) : State := if dramServed s then dramWrite s r.base r.bytes else s

/-! ### Pre-roll (R228, R230) -/

/-- Revolution count of an actuator: REV_NOW of its first player (R219). -/
def revNow (s : State) (a : Nat) : Nat := s.num (Obj.revNow (2 * a))

/-- REV_NOW increments (R219). -/
def countTurn (s : State) (a : Nat) : State :=
  s.each [2 * a, 2 * a + 1] fun s p => s.setNum (Obj.revNow p) ((s.num (Obj.revNow p) + 1) % 2 ^ widthOf (Obj.revNow p))

/-- How far a sentence's start lies ahead of the actuator's revolution, in wedges from wedge 0 of it (R219, R228). -/
def startDistance (s : State) (a : Nat) (h : Header) : Nat := (h.startRev + 65536 - revNow s a % 65536) % 65536 * 600 + h.startWedge

/-- A sentence is READY and not yet taken up. -/
def isReady (s : State) (p : Nat) : Bool := decide (s.num (Obj.loadState p) = 2) && !(s.playerOf p).preroll

/-- Of two READY sentences the one that plays first (R228). -/
def nextReady (s : State) (a : Nat) : Option Nat :=
  let p := 2 * a
  let q := 2 * a + 1
  if isReady s p && isReady s q then
    let dp := startDistance s a (s.playerOf p).header
    let dq := startDistance s a (s.playerOf q).header
    if dp < dq ∨ (dp = dq ∧ (s.playerOf p).loadOrder < (s.playerOf q).loadOrder) then some p else some q
  else if isReady s p then some p else if isReady s q then some q else none

/-- Wedges from the actuator's present wedge to a wedge of a revolution given by its low 16 bits: negative once its servo sync
lies behind. -/
def wedgesTo (s : State) (a rev wedge : Nat) : Int :=
  let d : Nat := (rev + 65536 - revNow s a % 65536) % 65536 * 600 + wedge
  (if 600 * 32768 ≤ d then (d : Int) - 600 * 65536 else d) - (s.chanOf a).wedge

/-- Wedges from the present wedge to a sentence's start. -/
def wedgesAhead (s : State) (a : Nat) (h : Header) : Int := wedgesTo s a h.startRev h.startWedge

/-- Whether the servo sync of START_WEDGE − 2, the load deadline, has passed (R13, R219). -/
def deadlinePassed (s : State) (a : Nat) (h : Header) : Bool := decide (wedgesAhead s a h ≤ 2)

/-- Whether the servo sync of the wedge before the start has already passed (R231). -/
def startPassed (s : State) (a : Nat) (h : Header) : Bool := decide (wedgesAhead s a h ≤ 1)

/-- Whether the servo sync of START_WEDGE has come (R228). -/
def startReached (s : State) (a : Nat) (h : Header) : Bool := decide (wedgesAhead s a h ≤ 0)

/-- Whether a sentence's start falls inside the span after an underrun (R228). -/
def startBlocked (s : State) (a : Nat) (h : Header) : Bool := match (s.actOf a).blockUntil with
  | some (w, r) => decide (wedgesAhead s a h < wedgesTo s a r w)
  | none => false

/-- What the pre-roll of player p's sentence posts and hands over (R230). -/
def prerollPosts (s : State) (a p : Nat) : State :=
  let h := (s.playerOf p).header
  let act := s.actOf a
  let s := s.modPlayer p fun pl => { pl with preroll := true }
  let s := if h.surface ≠ act.lastSurface then postHead s a h.surface else s
  let s := postMode s a (match h.preroll with | 0 => 1 | 1 => 2 | _ => 0)
  let s := if h.zone ≠ act.lastZone then s.modChan a fun c => { c with synthZone := h.zone, synthLocked := false } else s
  s.modAct a fun x => { x with
    lastSurface := h.surface, lastZone := h.zone, playing := some p
    seek := if h.seekProfile ≠ 0xFFFF then some (h.seekProfile, h.track) else x.seek }

/-- What every end of a sentence does at once (R242): its outcome is counted and its record is due, or written at once when
it neither played nor underran. -/
def closeSentence (s : State) (p : Nat) (o : Outcome) : State :=
  let a := playerAct p
  let pl := s.playerOf p
  let now := s.tick
  let rec_ : PendingRecord :=
    { seq := pl.header.seq, base := pl.header.statusBase, sectors := pl.header.sectors, bytes := recordBytes pl o now }
  let s := s.modPlayer p fun pl => { pl with
    outcome := some o, endTick := now, preroll := false, playing := false, ended := false, abortAsked := false
    clause := .none, gates := [], bound := none }
  let s := if pl.preroll then
      let s := s.modChan a fun c => { c with
        freezeMask := 0, locked := false, lockAt := none, events := [], eventLost := false, taFirings := 0, dropFirings := 0 }
      (clearWu s a .frameVerify).modAct a fun x => { x with playing := none }
    else s
  let s := (s.setNum (Obj.loadState p) 0).bump (Obj.sentences p)
  let s := if pl.lateGates ≠ 0 then s.raiseAct a (scheduleOffset p) p 4 else s
  let s := match o with
    | .underrun => (s.bump (Obj.underruns p)).raiseAct a (scheduleOffset p) p 1
    | .settleMiss => ((s.modTrace a fun t => { t with seen := setBit t.seen 6 }).bump (Obj.settleMisses p)).raiseAct a
        (scheduleOffset p) p 2
    | .badClause => (s.bump (Obj.badClauses p)).raiseAct a (scheduleOffset p) p 5
    | .fault => s.bump (Obj.objFaults p)
    | .windowEnd => s.bump (Obj.windowEnds p)
    | _ => s
  match o with
  | .discarded | .underrun => putRecord s rec_
  | _ => s.modPlayer p fun pl => { pl with records := pl.records ++ [rec_] }

/-- The span after an underrun of player p's sentence: the actuator starts none until the servo sync of its START_WEDGE one
revolution later (R13, R228). Where that sync lies behind already, there is no span. -/
def blockAfter (s : State) (p : Nat) : State :=
  let a := playerAct p
  let h := (s.playerOf p).header
  let rev := (h.startRev + 1) % 65536
  if wedgesTo s a rev h.startWedge ≤ 0 then s
  else s.modAct a fun x => { x with blockUntil := some (h.startWedge, rev) }

/-- A READY sentence that is not playing is recorded UNDERRUN when its start falls inside the span (R228). -/
def blockedUnderrun (s : State) (p : Nat) : State :=
  if s.num (Obj.loadState p) = 2 ∧ startBlocked s (playerAct p) (s.playerOf p).header = true then closeSentence s p .underrun else s

/-- The other player of player p's actuator. -/
def otherPlayer (p : Nat) : Nat := if p % 2 = 0 then p + 1 else p - 1

/-- Player p's sentence ends UNDERRUN: the span begins, and the other player's READY sentence falls in it or does not. -/
def underrunNow (s : State) (p : Nat) : State := blockedUnderrun (closeSentence (blockAfter s p) p .underrun) (otherPlayer p)

/-- SENTENCE_PREROLL (R230): the sentence that is next to play begins its pre-roll, once the one before has ended. DEDUCED (log 85): it does
so too while an underrun holds the actuator, for a start that lies past the span. One whose start wedge has been reached, or whose start falls inside such a span, ends UNDERRUN; one
whose track check has already passed by ends SETTLE_MISS (R231). Then the other player's sentence, if it is READY, is next. -/
def prerollNext : Nat → State → Nat → State
  | 0, s, _ => s
  | fuel + 1, s, a =>
    if (s.actOf a).playing.isSome || s.num Obj.collectorState = 1 then s
    else match nextReady s a with
      | none => s
      | some p =>
        if startBlocked s a (s.playerOf p).header then prerollNext fuel (closeSentence s p .underrun) a
        else if startReached s a (s.playerOf p).header then prerollNext fuel (underrunNow s p) a
        else
          let late := startPassed s a (s.playerOf p).header
          let s := prerollPosts s a p
          if late then prerollNext fuel (closeSentence s p .settleMiss) a else s

/-- The sentence of player p ends with an outcome, and the next one's pre-roll begins (R242). -/
def finishSentence (s : State) (p : Nat) (o : Outcome) : State := prerollNext 2 (closeSentence s p o) (playerAct p)

/-! ### ALL_CLOSE and cut entries (R235, R241) -/

/-- Every gate closed and every capture ended before its time: a capture cut before the end of its postamble reads
NOT_DECODED, one in its tail is posted as usual, a write cut short reads WRITE_INCOMPLETE (R241). -/
def allCloseCut (s : State) (a p : Nat) : State :=
  let s := if (s.chanOf a).writeGate.isSome then cutWrite s a 0 else s
  let s := s.each (entriesWhere s p (·.capturing)) fun s i => stopCapture s p i
  s.modChan a fun c => { c with readGate := false }

/-- A read entry that was visited and posted nothing: its capture was not to be posted or made, or its READ_OPEN was late (R225, R235). -/
def unposted (e : Entry) : Bool := !e.isWrite && !e.final && !e.posted && !e.capturing && (e.opened || bit e.report 11)

/-- The words of the read entries that posted nothing: no further clause of theirs executes (R225). -/
def settleReads (s : State) (p : Nat) : State := s.each (entriesWhere s p unposted) fun s i => endEntry s p i resNotDecoded

/-- A playing sentence is given up with an outcome (R241). -/
def giveUp (s : State) (p : Nat) (o : Outcome) : State := finishSentence (settleReads (allCloseCut s (playerAct p) p) p) p o

/-- A READY sentence ends unplayed with an outcome (R189, R229, R245). -/
def dropReady (s : State) (p : Nat) (o : Outcome) : State :=
  if s.num (Obj.loadState p) = 2 then
    let a := playerAct p
    let s := if (s.playerOf p).preroll then s.modAct a fun x => { x with playing := none } else s
    finishSentence s p o
  else s
def discardReady (s : State) (p : Nat) : State := dropReady s p .discarded

/-- The player samples the front-end events (R240). -/
def sampleEvents (s : State) (p : Nat) : State :=
  let c := s.chanOf (playerAct p)
  setFlags s p ((if c.locked then fUnsafe else 0) ||| (if c.eventLost then fEventLost else 0))

/-- A playing sentence is asked to end: at its next clause boundary, or at once while its player is stalled (R240, R241). -/
def askAbort (s : State) (p : Nat) : State :=
  if (s.playerOf p).clause = .stalled then giveUp (sampleEvents s p) p .aborted
  else s.modPlayer p fun pl => { pl with abortAsked := true }

/-- A write of 1 to ABORT that is accepted (R229): READY, the sentence is discarded; playing, it is asked to end. -/
def playerAbort (s : State) (p : Nat) : State :=
  match s.num (Obj.loadState p) with
  | 2 => discardReady s p
  | 3 => askAbort s p
  | _ => s

/-- The sentences of an actuator in the safe state or a power fail (R241). -/
def abortPlayers (s : State) (a : Nat) : State := s.each [2 * a, 2 * a + 1] playerAbort

/-- The sentences of an actuator that stops: what plays ends at once, what is READY is discarded (R189, R241). -/
def stopPlayers (s : State) (a : Nat) (o : Outcome) : State :=
  s.each [2 * a, 2 * a + 1] fun s p =>
    match s.num (Obj.loadState p) with
    | 3 => giveUp s p o
    | 2 => discardReady s p
    | _ => s

/-! ### Loading -/

/-- A write of LOAD_ADDR that is accepted (R227). -/
def loadBegin (s : State) (p addr : Nat) : State :=
  let a := playerAct p
  let n := (s.actOf a).loadCount
  let s := s.modAct a fun x => { x with loadCount := n + 1 }
  let s := s.modPlayer p fun pl => { pl with loadAddr := addr, loadOrder := n }
  (s.setObj (Obj.loadAddr p) (.num addr)).setNum (Obj.loadState p) 1

/-- The lanes of actuator a that are RUNNING (R186), a mask. -/
def lanesRunning (s : State) (a : Nat) : Nat :=
  bits ((List.range 3).map fun k => decide (s.num (Obj.laneState a k) = stRunning))

/-- A reader lane enters a STATE. One that leaves RUNNING is used again only by sentences compiled afterwards (R186). -/
def laneTo (s : State) (a k st : Nat) : State :=
  let s := s.setNum (Obj.laneState a k) st
  if st = stRunning then s
  else s.each [2 * a, 2 * a + 1] fun s p => s.modPlayer p fun pl => { pl with lanes := clrBit pl.lanes k }

/-- The player takes a sentence that passed its checks, with the status area prepared (R225, R227). -/
def takeSentence (s : State) (p addr : Nat) : State :=
  let h := headerOf (dramRead s.mem addr 128)
  let b := dramRead s.mem addr (sentenceLen h)
  let es := entriesOfBytes b h
  let a := playerAct p
  let lanes := h.lanes &&& lanesRunning s a
  let s := s.modPlayer p fun pl => { Player.reset with
    set := settingsNow s a p, lanes := lanes, np := npRecord s a h.eqPreset, header := h, entries := es, skips := skipsOfBytes b h, freezes := freezesOfBytes b h, loadAddr := addr
    loadOrder := pl.loadOrder, readyTick := s.tick, pc := h.entry, curWedge := h.startWedge, records := pl.records }
  let s := s.each es.zipIdx fun s (e, i) => dramWrite s (statusAddr h i) (preparedWord h i e)
  let s := dramWrite s (h.statusBase + 60) (leBytes 4 0)
  (s.setNum (Obj.loadState p) 2).setNum (Obj.seqNow p) h.seq

/-- SENTENCE_FETCH_DONE (R227): the checks are made; a load of an actuator that has left RUNNING meanwhile returns to IDLE, rejected
or discarded (R229); one that is READY after its load deadline is an underrun (R220, R228). -/
def execSentenceFetchDone (p : Fin 8) (s : State) : Host.Outcome State Fault Refusal :=
  let p := p.val
  if s.num (Obj.loadState p) ≠ 1 then .next s
  else
    let addr := (s.playerOf p).loadAddr
    let left := decide (s.num (Obj.playerState p) ≠ stRunning)
    match loadReject s p addr with
    | 0 =>
      let s := takeSentence s p addr
      if left then .next (discardReady s p)
      else if deadlinePassed s (playerAct p) (s.playerOf p).header then .next (prerollNext 2 (underrunNow s p) (playerAct p))
      else .next (prerollNext 2 s (playerAct p))
    | n => .next (((s.setNum (Obj.loadState p) (if left then 0 else 4)).setNum (Obj.loadReject p) n).raiseAct
        (playerAct p) (scheduleOffset p) p 3)

/-- Whether a sentence that is loaded or still loading underruns (R228): a READY one that is not taken up and whose start wedge has
been reached or falls inside the span after an underrun, or a load that passes its checks after its deadline. -/
def underrunDue (s : State) (p : Nat) : Bool :=
  let a := playerAct p
  let h := (s.playerOf p).header
  if isReady s p then startReached s a h || startBlocked s a h
  else
    let addr := (s.playerOf p).loadAddr
    decide (s.num (Obj.loadState p) = 1) && decide (loadReject s p addr = 0) &&
      deadlinePassed s a (headerOf (dramRead s.mem addr 128))

/-- SENTENCE_UNDERRUN (R228): a sentence misses its load deadline or its start; it opens no gate, and the actuator starts none
until its start wedge one revolution later. One that falls inside such a span is recorded UNDERRUN as well. -/
def execSentenceUnderrun (p : Fin 8) (s : State) : Host.Outcome State Fault Refusal :=
  let p := p.val
  if underrunDue s p then
    let s := if isReady s p then s else takeSentence s p (s.playerOf p).loadAddr
    let s := if startBlocked s (playerAct p) (s.playerOf p).header then closeSentence s p .underrun else underrunNow s p
    .next (prerollNext 2 s (playerAct p))
  else .next s

/-! ### Clauses and phrases (R232–R240) -/

/-- Fields of a phrase (R234). -/
structure Phrase where
  tmodeWait : Bool
  timeSel : Nat
  time : Nat
  cond : Nat
  timeout : Nat
  gate : Nat
  gateOffset : Nat
  freezeMask : Nat
  arm : Nat
  bufNone : Bool
  decSrc : Nat
  wpSrc : Nat
  frame : Nat
  frontEnd : Nat
  mark : Nat

def phraseOf (w : Nat) : Phrase where
  tmodeWait := bit w 255
  timeSel := fld w 254 253
  time := fld w 252 229
  cond := fld w 228 221
  timeout := fld w 220 205
  gate := fld w 204 202
  gateOffset := fld w 201 182
  freezeMask := fld w 181 178
  arm := fld w 177 176
  bufNone := bit w 175
  decSrc := fld w 174 173
  wpSrc := fld w 172 171
  frame := fld w 170 167
  frontEnd := fld w 166 164
  mark := fld w 163 156

/-- Phrase n of the bank that the sentence names. -/
def phraseWord (s : State) (p n : Nat) : Nat :=
  SMap.findD (vget (s.actOf (playerAct p)).phrases (s.playerOf p).header.bank []) n 0

/-- The cursor moved to a sector offset of the bound entry, or by T of data area where none is bound (R238). -/
def moveCursor (pl : Player) (n : Nat) : Player :=
  match pl.bound.bind (pl.entries[·]?) with
  | some e =>
    let (w, t) := entryPos pl.header e (pl.curOffset + n)
    { pl with curOffset := pl.curOffset + n, curWedge := w, curT := t }
  | none =>
    let (w, t) := advanceT pl.header.dataT pl.curWedge pl.curT n
    { pl with curWedge := w, curT := t }

/-- The cursor set to a position of the data area. -/
def setCursor (pl : Player) (w t : Nat) : Player :=
  match pl.bound.bind (pl.entries[·]?) with
  | some e =>
    { pl with curOffset := offsetAt pl.header.dataT pl.header.sectorT pl.header.sm2At 64 e.wedge e.pos 0 w t
              curWedge := w, curT := t }
  | none => { pl with curWedge := w, curT := t }

/-- Wedges from the present wedge to a wedge of player p's window: negative once its servo sync lies behind. -/
def windowWedge (s : State) (p w : Nat) : Int :=
  let h := (s.playerOf p).header
  wedgesAhead s (playerAct p) h + ((w + 600 - h.startWedge) % 600 : Nat)

/-- Distance in T of data area from the head, as the T counter was last shown, to a position of player p's window (R239). -/
def headToT (s : State) (p w t : Nat) : Int :=
  windowWedge s p w * (s.playerOf p).header.dataT + t - (s.chanOf (playerAct p)).headT

/-- Post a gate entry of player p, its target `off` T after the cursor (R235); one posted less than 512 T ahead is late (R16, R239). -/
def postGate (s : State) (p action off entry : Nat) : State :=
  s.modPlayer p fun pl =>
    let q := moveCursor pl off
    { pl with gates := pl.gates ++ [{ action := action, wedge := q.curWedge, target := q.curT, entry := entry
                                      late := decide (headToT s p q.curWedge q.curT < 512) }] }

/-- Gate FIFO codes of the freeze mask (R238). -/
def gMaskOn : Nat := 8
def gMaskOff : Nat := 9

/-- Whether a phrase needs a bound entry (R233). -/
def Phrase.needsEntry (f : Phrase) : Bool :=
  decide (1 ≤ f.gate ∧ f.gate ≤ 3) || decide (f.arm ≠ 0) || decide (f.wpSrc = 1)

/-- A WRITE_OPEN `off` T after the cursor would touch a skip span, over a sector from its target (R235). -/
def touchesSkip (pl : Player) (i off : Nat) : Bool :=
  match pl.entries[i]? with
  | some e =>
    let q := moveCursor pl off
    !entriesClear pl.header [{ e with wedge := q.curWedge, pos := q.curT }] pl.skips
  | none => false

/-- The frame that a clause posts as it executes (R236). -/
def phraseFrame (s : State) (p : Nat) (f : Phrase) : State :=
  let a := playerAct p
  let pl := s.playerOf p
  match f.frame with
  | 1 => postMode s a 1
  | 2 => postMode s a 2
  | 3 => postMode s a 0
  | 4 => queueFrame s a (sentenceFrame (preampRegs s a).writeCurrent (writeCurrentCode s pl.header pl.selector) false)
  | 5 => postHead s a pl.header.surface
  | _ => s

/-- The gate action that a phrase posts (R235). -/
def phraseGate (s : State) (p : Nat) (f : Phrase) : State :=
  let pl := s.playerOf p
  let i := pl.bound.getD pl.entries.length
  match f.gate with
  | 1 =>
    postGate (modEntry s p i fun e => { e with noCapture := f.bufNone, noPost := f.bufNone || decide (f.decSrc ≠ 0) }) p 1 f.gateOffset i
  | 3 =>
    if touchesSkip pl i f.gateOffset then writeIncomplete (setFlags s p fSkipGuard) p i 0 else postGate s p 3 f.gateOffset i
  | 2 | 4 | 5 => postGate s p f.gate f.gateOffset i
  | _ => s

/-- Apply a phrase (R234, R236). FRONT_END turns on, loads and arms what its bits name until the sentence ends: EQ_PRESET and LANES are
the sentence's own throughout (R158, R186; log entry 54). -/
def applyPhrase (s : State) (p : Nat) (f : Phrase) : State :=
  let pl := s.playerOf p
  if f.needsEntry && pl.bound.isNone then s
  else
    let i := pl.bound.getD 0
    let s := if f.arm ≠ 0 then modEntry s p i fun e => { e with arm := e.arm ||| f.arm } else s
    let s := s.modPlayer p fun pl => { pl with
      selector := match f.wpSrc with
        | 1 => ((pl.entries[i]?).map (·.selector)).getD pl.selector
        | 2 => 0
        | _ => pl.selector
      frontEnd := pl.frontEnd ||| f.frontEnd }
    let s := phraseFrame s p f
    let s := if f.mark ≠ 0 then
        (if (s.playerOf p).marks.length < 3 then
          s.modPlayer p fun pl => { pl with marks := pl.marks ++ [(f.mark, pl.curWedge, pl.curT)] }
         else setFlags s p fMarksLost)
      else s
    let s := if f.freezeMask ≠ 0 then postGate s p gMaskOn 0 f.freezeMask else s
    phraseGate s p f

/-- A read entry that posted nothing gets its word once its last clause has executed (R225). -/
def settleUnposted (s : State) (p i : Nat) : State :=
  let s := modEntry s p i fun e => { e with played := true }
  match s.entryOf p i with
  | some e =>
    let pendingOpen := (s.playerOf p).gates.any fun g => decide (g.entry = i) && decide (g.action = 1)
    if !e.isWrite && !e.final && !pendingOpen && !e.capturing && !e.posted then endEntry s p i resNotDecoded
    else s
  | none => s

/-- The bound entry's last clause has executed. -/
def leaveEntry (s : State) (p : Nat) : State :=
  match (s.playerOf p).bound with
  | some i => settleUnposted s p i
  | none => s

/-- Act on OP once the clause's time has passed (R233). -/
def clauseAct (s : State) (p : Nat) : State :=
  let pl := s.playerOf p
  let s := s.modPlayer p fun pl => { pl with clause := .none }
  let go (s : State) (pc : Nat) : State := s.modPlayer p fun pl => { pl with pc := pc % 4096 }
  let next := pl.pc + 1
  let target := pl.clauseArg % 4096
  let c := fld pl.clauseArg 15 14
  let boundIs (f : Entry → Bool) : Bool := match pl.bound.bind (pl.entries[·]?) with
    | some e => f e
    | none => false
  match pl.clauseOp with
  | 0x01 => go s target
  | 0x02 =>
    if 4 ≤ pl.stack.length then giveUp s p .badClause
    else go (s.modPlayer p fun pl => { pl with stack := next % 4096 :: pl.stack }) target
  | 0x03 =>
    match pl.stack with
    | [] => giveUp s p .badClause
    | r :: rest => go (s.modPlayer p fun pl => { pl with stack := rest }) r
  | 0x04 => go (s.modPlayer p fun pl => { pl with counters := vmod pl.counters c fun _ => pl.clauseArg % 2048 }) next
  | 0x05 =>
    if vget pl.counters c 0 ≠ 0 then go (s.modPlayer p fun pl => { pl with counters := vmod pl.counters c (· - 1) }) target
    else go s next
  | 0x07 => go s (if boundIs (·.isWrite) then target else next)
  | 0x08 => go s (if boundIs (·.isParity) then target else next)
  | 0x3F => (leaveEntry s p).modPlayer p fun pl => { pl with ended := true }
  | _ => go s next

/-- The mask-off entry that ends a clause's freeze mask (R238). -/
def endMask (s : State) (p : Nat) : State :=
  if (phraseOf (phraseWord s p (s.playerOf p).clausePhrase)).freezeMask ≠ 0 then postGate s p gMaskOff 0 0 else s

/-- Whether the clause's mask-off entry finds the gate FIFO full: the player stalls until an entry executes (R241). -/
def maskWaits (s : State) (p : Nat) : Bool :=
  let pl := s.playerOf p
  decide ((phraseOf (phraseWord s p pl.clausePhrase)).freezeMask ≠ 0) && decide (32 ≤ pl.gates.length)

/-- Every frame that the playing sentence posted has been sent, and verified (R237). -/
def framesDone (c : Channel) : Bool := (sentenceFrames c).isEmpty && !bit c.wu (wuBit .frameVerify)

/-- The conditions of R237 that last, as they stand: the last gate entry posted has executed, 8,192 bits are queued, the frames are done. -/
def conditionStands (s : State) (p cond : Nat) : Bool :=
  let c := s.chanOf (playerAct p)
  match cond with
  | 6 => (s.playerOf p).gates.isEmpty
  | 7 => decide (8192 ≤ 64 * c.writeFifo)
  | 8 => framesDone c
  | _ => false

/-- A wait begins. DEDUCED (log 85): a condition that stands already is met at the clause start, with that moment's stamp. -/
def waitBegins (s : State) (p cond units : Nat) : State :=
  let a := playerAct p
  let s := s.modPlayer p fun pl => { pl with clause := .wait cond units }
  if conditionStands s p cond && !((s.chanOf a).events.any fun e => decide (e.code = cond)) then postEvent s a cond else s

/-- The clause's phrase is applied and its time begins (R232, R238). The wait for NONE is over at once, but for the room that its mask-off
entry needs. -/
def clauseRun (s : State) (p : Nat) : State :=
  let s := s.modPlayer p fun pl => { pl with clause := .none, lastClause := pl.pc }
  let pl := s.playerOf p
  let f := phraseOf (phraseWord s p pl.clausePhrase)
  let s := applyPhrase s p f
  let wait := match pl.header.timingMode with
    | 0 => false
    | 1 => true
    | _ => f.tmodeWait
  if wait then
    if 8 < f.cond then giveUp s p .badClause
    else if f.cond = 0 then
      (if maskWaits s p then s.modPlayer p fun pl => { pl with clause := .timed 0 } else clauseAct (endMask s p) p)
    else waitBegins s p f.cond (if f.timeout = 0 then 65536 else f.timeout)
  else
    let len := match f.timeSel with
      | 0 => f.time
      | 1 => pl.header.sectorT
      | 2 => pl.header.sm2At
      | _ => pl.clauseArg
    s.modPlayer p fun pl => { pl with clause := .timed len }

/-- Distance in T of data area from the head to the cursor (R239). -/
def cursorAhead (s : State) (p : Nat) : Nat :=
  let pl := s.playerOf p
  (headToT s p pl.curWedge pl.curT).toNat

/-- Whether the gate FIFO of 32 entries has no room for what a phrase posts as it is applied (R16, R241). -/
def gatesFull (pl : Player) (f : Phrase) : Bool :=
  decide (32 < pl.gates.length + (if f.freezeMask ≠ 0 then 1 else 0) + if 1 ≤ f.gate ∧ f.gate ≤ 5 then 1 else 0)

/-- Whether a clause must stall before it starts: a TIMED clause whose cursor lies more than LEAD_T ahead, or a gate FIFO
without room for what it posts (R16, R239, R241). -/
def mustStall (s : State) (p : Nat) : Bool :=
  let pl := s.playerOf p
  let f := phraseOf (phraseWord s p pl.clausePhrase)
  let timed := match pl.header.timingMode with
    | 0 => true
    | 1 => false
    | _ => !f.tmodeWait
  gatesFull pl f || (timed && decide (pl.set.leadT < cursorAhead s p))

/-- Drop the events that the player has taken at a boundary. -/
def drainEvents (s : State) (p : Nat) : State :=
  (sampleEvents s p).modChan (playerAct p) fun c => { c with events := [] }

/-- Whether player p is at a clause boundary of a playing program. -/
def atBoundary (s : State) (p : Nat) : Bool :=
  let pl := s.playerOf p
  pl.playing && !pl.ended && decide (pl.clause = .none)

/-- The encoder has run ahead of a write sector's gate and filled the write data FIFO (R16, R171; log entry 7). -/
def fillWriteFifo (s : State) (a : Nat) : State :=
  postEvent (s.modChan a fun c => { c with writeFifo := 256 }) a evWriteReady

/-- The clause at player p's address, in the bank that the sentence names: OP, PHRASE and ARG of its word (R232). -/
def clauseWord (s : State) (p : Nat) : Nat :=
  SMap.findD (vget (s.actOf (playerAct p)).clauses (s.playerOf p).header.bank []) (s.playerOf p).pc 0
def clauseHere (s : State) (p : Nat) : Nat × Nat × Nat :=
  let w := clauseWord s p
  (fld w 31 26, fld w 25 16, fld w 15 0)

/-- One clause of player p (R232), where it stands at the player's address: the boundary's abort and events, the binding of SECTOR, the
phrase, the time, the action on OP. A SECTOR with no entry left applies nothing and lets no time pass (R233). -/
def clauseStart (s : State) (p op phrase arg : Nat) : State :=
  if !atBoundary s p || decide (clauseHere s p ≠ (op, phrase, arg)) then s
  else
    let s := drainEvents s p
    if (s.playerOf p).abortAsked then giveUp s p .aborted
    else
      let s := s.modPlayer p fun pl => { pl with clauseOp := op, clauseArg := arg, clausePhrase := phrase }
      if op = 0x06 then
        match (s.playerOf p).entries[(s.playerOf p).nextEntry]? with
        | none => s.modPlayer p fun pl => { pl with lastClause := pl.pc, pc := arg % 4096 }
        | some e =>
          let s := leaveEntry s p
          let s := s.modPlayer p fun pl => { pl with
            bound := some pl.nextEntry, nextEntry := pl.nextEntry + 1, curOffset := 0, curWedge := e.wedge, curT := e.pos }
          let s := if e.isWrite then fillWriteFifo s (playerAct p) else s
          if mustStall s p then s.modPlayer p fun pl => { pl with clause := .stalled } else clauseRun s p
      else if mustStall s p then s.modPlayer p fun pl => { pl with clause := .stalled }
      else clauseRun s p

/-- CLAUSE_STEP (R233): continue at the next clause. -/
def execClauseStep (p : Fin 8) (phrase : Fin 1024) (arg : BitVec 16) (s : State) : Host.Outcome State Fault Refusal :=
  .next (clauseStart s p.val 0x00 phrase.val arg.toNat)

/-- CLAUSE_GOTO (R233): continue at the target. -/
def execClauseGoto (p : Fin 8) (phrase : Fin 1024) (arg : BitVec 16) (s : State) : Host.Outcome State Fault Refusal :=
  .next (clauseStart s p.val 0x01 phrase.val arg.toNat)

/-- CLAUSE_CALL (R233): push the next clause address, four deep. -/
def execClauseCall (p : Fin 8) (phrase : Fin 1024) (arg : BitVec 16) (s : State) : Host.Outcome State Fault Refusal :=
  .next (clauseStart s p.val 0x02 phrase.val arg.toNat)

/-- CLAUSE_RET (R233): continue at the popped address. -/
def execClauseRet (p : Fin 8) (phrase : Fin 1024) (arg : BitVec 16) (s : State) : Host.Outcome State Fault Refusal :=
  .next (clauseStart s p.val 0x03 phrase.val arg.toNat)

/-- CLAUSE_SETCNT (R233): load a counter. -/
def execClauseSetcnt (p : Fin 8) (phrase : Fin 1024) (arg : BitVec 16) (s : State) : Host.Outcome State Fault Refusal :=
  .next (clauseStart s p.val 0x04 phrase.val arg.toNat)

/-- CLAUSE_LOOP (R233): decrement a counter that is not 0 and branch. -/
def execClauseLoop (p : Fin 8) (phrase : Fin 1024) (arg : BitVec 16) (s : State) : Host.Outcome State Fault Refusal :=
  .next (clauseStart s p.val 0x05 phrase.val arg.toNat)

/-- CLAUSE_SECTOR (R233): bind the next entry, or continue at exit. -/
def execClauseSector (p : Fin 8) (phrase : Fin 1024) (arg : BitVec 16) (s : State) : Host.Outcome State Fault Refusal :=
  .next (clauseStart s p.val 0x06 phrase.val arg.toNat)

/-- CLAUSE_IFWRITE (R233): branch when the bound entry is a write. -/
def execClauseIfwrite (p : Fin 8) (phrase : Fin 1024) (arg : BitVec 16) (s : State) : Host.Outcome State Fault Refusal :=
  .next (clauseStart s p.val 0x07 phrase.val arg.toNat)

/-- CLAUSE_IFPARITY (R233): branch when the bound entry is a parity sector. -/
def execClauseIfparity (p : Fin 8) (phrase : Fin 1024) (arg : BitVec 16) (s : State) : Host.Outcome State Fault Refusal :=
  .next (clauseStart s p.val 0x08 phrase.val arg.toNat)

/-- CLAUSE_END (R233): the program ends. -/
def execClauseEnd (p : Fin 8) (phrase : Fin 1024) (arg : BitVec 16) (s : State) : Host.Outcome State Fault Refusal :=
  .next (clauseStart s p.val 0x3F phrase.val arg.toNat)

/-- The opcodes of R233. -/
def knownOp (op : Nat) : Bool := decide (op ≤ 8) || decide (op = 0x3F)

/-- CLAUSE_BAD (R233): the clause at the player's address has an opcode of no row, a condition outside the list, a CALL with four
returns stacked, or a RET with none. An unknown opcode ends the sentence BAD_CLAUSE at its boundary; the others run as far as the
condition or the action that is bad. -/
def execClauseBad (p : Fin 8) (why : BadClause) (s : State) : Host.Outcome State Fault Refusal :=
  let p := p.val
  let x := clauseHere s p
  let pl := s.playerOf p
  let bad := match why with
    | .opcode => !knownOp x.1
    | .condition => knownOp x.1 && decide (8 < (phraseOf (phraseWord s p x.2.1)).cond)
    | .callOverflow => decide (x.1 = 2) && decide (4 ≤ pl.stack.length)
    | .retEmpty => decide (x.1 = 3) && pl.stack.isEmpty
  if !atBoundary s p || !bad then .next s
  else if why = .opcode then
    let s := (drainEvents s p).modPlayer p fun pl => { pl with lastClause := pl.pc }
    .next (giveUp s p (if (s.playerOf p).abortAsked then .aborted else .badClause))
  else .next (clauseStart s p x.1 x.2.1 x.2.2)

/-- CLAUSE_TIME_END (R238): the length of a TIMED clause has passed. -/
def execClauseTimeEnd (p : Fin 8) (s : State) : Host.Outcome State Fault Refusal :=
  match (s.playerOf p.val).clause with
  | .timed len =>
    if maskWaits s p.val then .next s
    else
      let s := s.modPlayer p.val fun pl => moveCursor pl len
      .next (clauseAct (endMask s p.val) p.val)
  | _ => .next s

/-- CLAUSE_WAIT_MET (R237, R238): the condition arrives through the front-end event FIFO with the stamp of its moment, wedge and T; that of
a sector is the bound entry's. The cursor moves to 2,048 T after it. An event that the FIFO lost never arrives. -/
def execClauseWaitMet (p : Fin 8) (wedge t : Nat) (s : State) : Host.Outcome State Fault Refusal :=
  let p := p.val
  let pl := s.playerOf p
  match pl.clause with
  | .wait cond _ =>
    let code := if cond = 2 then evServo else cond
    let here := (s.chanOf (playerAct p)).events.any fun e =>
      decide (e.code = code) && decide (e.wedge = wedge) && decide (e.t = t) &&
      (decide (cond ≠ 2) || decide (wedge = pl.clauseArg % 1024)) && (e.entry.isNone || decide (e.entry = pl.bound))
    if !here || maskWaits s p then .next s
    else
      let s := drainEvents s p
      let (w, t') := advanceT pl.header.dataT wedge t 2048
      let s := s.modPlayer p fun pl => setCursor pl w t'
      .next (clauseAct (endMask s p) p)
  | _ => .next s

/-- CLAUSE_WAIT_TIMEOUT (R238): the cursor moves to the clause start plus the timeout, and the program continues. -/
def execClauseWaitTimeout (p : Fin 8) (s : State) : Host.Outcome State Fault Refusal :=
  let p := p.val
  match (s.playerOf p).clause with
  | .wait _ units =>
    if maskWaits s p then .next s
    else
      let s := s.modPlayer p fun pl => { moveCursor pl (256 * units) with waitTimeouts := pl.waitTimeouts + 1 }
      let s := (setFlags s p fWaitTimeout).bump (Obj.waitTimeouts p)
      .next (clauseAct (endMask s p) p)
  | _ => .next s

/-- PLAYER_STALL_END (R239): the head has come within LEAD_T, or a gate entry has executed, and the clause starts. -/
def execPlayerStallEnd (p : Fin 8) (s : State) : Host.Outcome State Fault Refusal :=
  let p := p.val
  if (s.playerOf p).clause = .stalled ∧ mustStall s p = false then .next (clauseRun (drainEvents s p) p) else .next s

/-- Where an ABORT that has been asked for stands: the cursor of the next clause boundary; none while a wait leaves it open. -/
def abortStands (pl : Player) : Option Nat :=
  match pl.clause with
  | .timed len => let q := moveCursor pl len; some (posIdx pl.header q.curWedge q.curT)
  | .wait _ _ => none
  | _ => some (posIdx pl.header pl.curWedge pl.curT)

/-- WINDOW_END_REACHED (R241): the window ends before END; an ABORT that stands no later in medium position decides. -/
def execWindowEndReached (p : Fin 8) (s : State) : Host.Outcome State Fault Refusal :=
  let p := p.val
  let pl := s.playerOf p
  if pl.playing && !pl.ended then
    let first := pl.abortAsked && (abortStands pl).any fun x => decide (x ≤ windowEnd pl.header)
    .next (giveUp (sampleEvents s p) p (if first then .aborted else .windowEnd))
  else .next s

/-- PLAYER_MEMORY_FAULT (R241, R245): an uncorrectable word ends the sentence FAULT; in sentence memory it is the player's
hardware source, in the clause or phrase store the actuator's store source. -/
def execPlayerMemoryFault (p : Fin 8) (store : Bool) (s : State) : Host.Outcome State Fault Refusal :=
  let p := p.val
  let a := playerAct p
  let s := if store then s.raiseAct a 5 a else s.raiseAct a (hardwareOffset p) p
  match s.num (Obj.loadState p) with
  | 3 => .next (giveUp s p .fault)
  | 2 => .next (finishSentence s p .fault)
  | _ => .next s

/-- SENTENCE_END (R242): END has executed, every gate entry has executed and every capture and write has ended. -/
def execSentenceEnd (p : Fin 8) (s : State) : Host.Outcome State Fault Refusal :=
  let p := p.val
  let pl := s.playerOf p
  let writing := (s.actOf (playerAct p)).playing = some p && (s.chanOf (playerAct p)).writeGate.isSome
  if pl.playing && pl.ended && pl.gates.isEmpty && !writing && !pl.entries.any (·.capturing) then
    .next (finishSentence (sampleEvents s p) p .complete)
  else .next s

/-- Whether a status word of a record's sentence is still to come: a job in the decode pool. -/
def recordWaits (s : State) (r : PendingRecord) : Bool :=
  s.dec.jobs.any fun j => j.ring.isNone && decide (r.base + 64 ≤ j.statusAddr) && decide (j.statusAddr < r.base + 64 + 16 * r.sectors)

/-- SENTENCE_RECORD_WRITE (R226): once every posted read entry has its final status word. -/
def execSentenceRecordWrite (p : Fin 8) (s : State) : Host.Outcome State Fault Refusal :=
  let p := p.val
  match (s.playerOf p).records.find? fun r => !recordWaits s r with
  | none => .next s
  | some r =>
    let s := s.modPlayer p fun pl => { pl with records := pl.records.erase r }
    .next (putRecord s r)

/-! ### The gate executor (R16, R235) -/

/-- Lanes in use at a sector's first preamble (R186): the sentence's, less those that have left RUNNING since it was taken, and
READER_MASK of its head. -/
def lanesInUse (s : State) (a p : Nat) : Nat :=
  let pl := s.playerOf p
  pl.lanes &&& lanesRunning s a &&& s.num (Obj.readerMask a (pl.header.surface % 12))

/-- The loops at a read preamble (R161): the first sector of a sentence acquires from its preset, the first after a long
freeze from the held values; every other one goes on tracking. The freeze of an open write gate ends here (R162). -/
def preambleLoops (a : Nat) (s : State) (h : Header) (first : Bool) : State :=
  let preset := presetOf s a h.eqPreset
  s.modChan a fun c =>
    let c := { c with freeze := clrBit c.freeze 3, ctle := byteAt preset 480 }
    if first then
      { c with acquiring := true, longFreeze := false, gain := gainRail (byteAt preset 481 * 65536), freq := 0, phase := 0
               lanes := .replicate 3 ⟨0, railed (-asymRail) asymRail (toSigned 16 (fieldAt preset 484 2) * 65536)⟩ }
    else if c.longFreeze then { c with acquiring := true, longFreeze := false }
    else { c with acquiring := false }

/-- Where the sample stream stands when a capture starts while none runs: at the gate's target, with nothing before it. -/
def streamAt (c : Channel) (w t : Nat) : Channel :=
  { c with streamWedge := w, streamT := t, streamFrac := 0, wordRows := 0, sumG := 0, tails := .replicate 3 ⟨[], [], 0, 0⟩
           zs := [], ys := [], lastY := 0, lastD := 0 }

/-- READ_OPEN at its target: the capture starts and the read gate opens. -/
def readOpen (s : State) (p : Nat) (g : GateEntry) : State :=
  let a := playerAct p
  let i := g.entry
  let pl := s.playerOf p
  let h := pl.header
  let first := !(pl.entries.any fun e => e.opened && !e.isWrite)
  let lanes := lanesInUse s a p
  let s := preambleLoops a s h first
  let c := s.chanOf a
  let idle := (entriesWhere s p (·.capturing)).isEmpty
  let s := s.modChan a fun c =>
    let c := { c with readGate := true, lanesInUse := lanes }
    if idle then streamAt c g.wedge g.target else c
  let mask := lanes * 16 ||| (if bit c.wu (wuBit .frameVerify) || c.faultLow then rPreamp else 0) |||
    (if c.synthLocked then 0 else rSynth)
  let s := modEntry s p i fun e => { e with opened := true, capturing := true
                                            report := e.report ||| mask ||| (if entrySplit h e then rSplit else 0) }
  let s := s.modPlayer p fun pl => { pl with visited := pl.visited + 1 }
  if (s.chanOf a).synthLocked then s else unlockSeen s a

/-- Whether the sector's frames and data are ready at its gate target (R174): MODE WRITE written and verified, no frame of
the sentence outstanding, 8,192 bits queued. -/
def writeReady (s : State) (a : Nat) : Bool :=
  let c := s.chanOf a
  !(sentenceFrames c).any (·.verify) && decide (c.mode = modeCode s a 2) && decide (8192 ≤ 64 * c.writeFifo)

/-- The laser drive at zero, unless a write gate is open: a gate that it led does not open (R174). -/
def laserDark (s : State) (a : Nat) : State := s.modChan a fun c => { c with laser := if c.writeGate.isNone then 0 else c.laser }

/-- WRITE_OPEN at its target (R155, R174, R176, R17): the gate opens unless write-unsafe stands or comes with it, or the sector is not ready
or is final already. -/
def writeOpen (s : State) (p : Nat) (g : GateEntry) : State :=
  let a := playerAct p
  let i := g.entry
  let s := s.modPlayer p fun pl => { pl with visited := pl.visited + 1 }
  match s.entryOf p i with
  | none => s
  | some e =>
    if e.final then laserDark s a
    else
      let c := s.chanOf a
      let s := report s p i (splitBit s p e ||| (if c.faultLow then rPreamp else 0) ||| (if c.synthLocked then 0 else rSynth))
      let s := if c.synthLocked then s else unlockSeen s a
      let c := s.chanOf a
      if c.locked then laserDark (writeIncomplete s p i (if c.lockAt = some (g.wedge, g.target) then rUnsafe else 0)) a
      else if c.wu ≠ 0 then laserDark (writeIncomplete (lockSentence s a) p i rUnsafe) a
      else if !writeReady s a then laserDark (writeIncomplete s p i 0) a
      else
        let pl := s.playerOf p
        let s := modEntry s p i fun e => { e with opened := true }
        s.modChan a fun c => { c with
          writeGate := some i, writeFrom := g.target, freeze := setBit c.freeze 3, laser := laserCode s pl.header pl.selector }

/-- Length of a wedge in T: 1/600 of a revolution at FORMAT_RPM and the zone's bit rate (R140, R174). -/
def wedgeT (s : State) (h : Header) : Nat :=
  ((sentenceZone s h.surface h.zone).map (·.bitKbps)).getD 0 * 100 / s.motion.rpm

/-- T from one position to another that lies after it, servo fields included. -/
def gapT (s : State) (h : Header) (w t w' t' : Nat) : Nat := (w' + 600 - w) % 600 * wedgeT s h + t' - t

/-- The laser after a write gate closes (R174): it goes to zero, unless the next write gate opens within
LASER_LEAD_T + 16 T, when it moves to that sector's code. -/
def laserAfter (s : State) (p w t : Nat) : Nat :=
  let pl := s.playerOf p
  let near := pl.gates.any fun g => decide (g.action = 3) &&
    decide (gapT s pl.header w t g.wedge g.target ≤ pl.set.laserLead + 16)
  if near then laserCode s pl.header pl.selector else 0

/-- The write gate closes on schedule at (w, t): the sector reads WRITTEN when its whole extent has passed. -/
def writeClose (s : State) (p w t : Nat) : State :=
  let a := playerAct p
  match (s.chanOf a).writeGate with
  | none => s
  | some i =>
    let h := (s.playerOf p).header
    match s.entryOf p i with
    | none => cutWrite s a 0
    | some e =>
      if entryEnd h e ≤ posIdx h w t then
        let laser := laserAfter s p w t
        let s := emitPieces s p e (piecesOf s p e)
        endEntry (s.modChan a fun c => { noteWritten c t with writeGate := none, laser := laser }) p i resWritten
      else cutWrite s a 0

/-- The capture of an entry is in its tail of W T (R235). -/
def readClose (s : State) (p i : Nat) : State := modEntry s p i fun e => { e with closing := e.capturing }

/-- What a gate entry does at its target. -/
def gateAct (s : State) (p : Nat) (g : GateEntry) : State :=
  let a := playerAct p
  match g.action with
  | 1 => readOpen s p g
  | 2 => readClose s p g.entry
  | 3 => writeOpen s p g
  | 4 => writeClose s p g.wedge g.target
  | 5 =>
    let s := writeClose s p g.wedge g.target
    let s := s.each (entriesWhere s p (·.capturing)) fun s i => endCapture s p i
    s.modChan a fun c => { c with readGate := false }
  | 8 => s.modChan a fun c => { c with freezeMask := g.entry }
  | 9 => s.modChan a fun c => { c with freezeMask := 0 }
  | _ => s

/-- LATE_GATE (R16): a close takes effect at once, where the T counter stands; an open is discarded; either way it is recorded. The mask entries of R238 open and
close nothing: one that is late takes effect at once and records nothing (log entry 55). The word of an entry whose READ_OPEN is
discarded is written once its last clause has executed (R225, R235). -/
def lateGate (s : State) (p : Nat) (g : GateEntry) : State :=
  let g := { g with wedge := (s.chanOf (playerAct p)).wedge, target := (s.chanOf (playerAct p)).headT }
  if g.action = 8 ∨ g.action = 9 then gateAct s p g
  else
    let s := (s.modPlayer p fun pl => { pl with lateGates := pl.lateGates + 1 }).bump (Obj.lateGates p)
    let s := report (setFlags s p fLateGate) p g.entry rLateGate
    match g.action with
    | 1 => match s.entryOf p g.entry with
      | some e =>
        let s := report s p g.entry (splitBit s p e)
        if e.played then endEntry s p g.entry resNotDecoded else s
      | none => s
    | 3 => laserDark (writeIncomplete s p g.entry 0) (playerAct p)
    | _ => gateAct s p g

/-- Whether the target of a gate entry of player p still lies ahead of the T counter, and whether the T counter stands at it. -/
def gateWaits (s : State) (p : Nat) (g : GateEntry) : Bool :=
  let d := windowWedge s p g.wedge
  decide (0 < d) || (decide (d = 0) && decide ((s.chanOf (playerAct p)).headT < g.target))
def gateDue (s : State) (p : Nat) (g : GateEntry) : Bool :=
  decide (windowWedge s p g.wedge = 0) && decide ((s.chanOf (playerAct p)).headT = g.target)

/-- The laser is lit LASER_LEAD_T before the write gate opens (R174): when the T counter is that near the target of the next write gate
posted, and the gate may open. -/
def laserLead (s : State) (p : Nat) : State :=
  let a := playerAct p
  let pl := s.playerOf p
  let c := s.chanOf a
  match pl.gates.find? (·.action = 3) with
  | some g =>
    if gateWaits s p g && decide (gapT s pl.header c.wedge c.headT g.wedge g.target ≤ pl.set.laserLead) && !c.locked && decide (c.wu = 0)
    then s.modChan a fun c => { c with laser := laserCode s pl.header pl.selector }
    else s
  | none => s

/-- GATE_ENTRY_EXECUTE (R235): the T counter, at `t` of the present wedge, has reached the target of the gate entry at the
front, or has passed it. An entry whose target lies ahead waits, and lights the laser of a write in time. The lanes have delivered the
rows `adc` since the last command. -/
def execGateEntryExecute (p : Fin 8) (t : Nat) (adc : List AdcRow) (s : State) : Host.Outcome State Fault Refusal :=
  let p := p.val
  let a := playerAct p
  let s := (if (s.actOf a).playing = some p then streamSamples s a adc else s).modChan a fun c => { c with headT := t }
  match (s.playerOf p).gates with
  | [] => .next s
  | g :: rest =>
    if gateWaits s p g ∧ g.late = false then .next (laserLead s p)
    else
      let due := gateDue s p g && !g.late
      let s := s.modPlayer p fun pl => { pl with gates := rest }
      let s := if due then gateAct s p g else lateGate s p g
      .next (if rest.isEmpty then postEvent s a evGateIdle else s)

end Sys2Proof.Machine
end

