-- ==== Sys2Proof/Machine/Channel.lean ====
section
/-!
DEFINITION. The read and write channel: write-unsafe, the synthesiser, the detectors, sync windows, the end of a capture, lane
faults, and the preamp's serial bus (R154–R190, R487). The servo sync and the consequences of a faulted preamp stand in
Machine/Servo.lean and Machine/Actuator.lean.
-/

namespace Sys2Proof.Machine

/-! ### Write-unsafe and the boundaries (R16, R17, R175) -/

/-- WRITE_UNSAFE (R17): a source asserts write-unsafe, at `t` of the present wedge's data area. -/
def execWriteUnsafe (a : Fin 4) (src : WuSource) (t : Nat) (s : State) : Host.Outcome State Fault Refusal :=
  .next (assertWu (s.modChan a.val fun c => { c with headT := t }) a.val src)

/-- WRITE_FIFO_EMPTY (R16): the gate closes at once, and the sector is recorded as incomplete. -/
def execWriteFifoEmpty (a : Fin 4) (s : State) : Host.Outcome State Fault Refusal :=
  let s := s.modChan a.val fun c => { c with writeFifo := 0 }
  .next (if (s.chanOf a.val).writeGate.isSome then cutWrite s a.val 0 else s)

/-- Set report bits of every capture of actuator a. -/
def reportCaptures (s : State) (a mask : Nat) : State :=
  s.each [2 * a, 2 * a + 1] fun s p => s.each (entriesWhere s p (·.capturing)) fun s i => report s p i mask

/-- SAMPLE_OVERRUN (R16): new words of a lane are dropped, the sectors affected are marked, and a block event is raised. -/
def execSampleOverrun (a : Fin 4) (lane : Fin 3) (s : State) : Host.Outcome State Fault Refusal :=
  .next ((reportCaptures s a.val rOverrun).raiseAct a.val 18 a.val lane.val)

/-! ### The synthesiser (R155) -/

/-- SYNTH_LOCK (R155). -/
def execSynthLock (a : Fin 4) (s : State) : Host.Outcome State Fault Refusal :=
  .next (clearWu (s.modChan a.val fun c => { c with synthLocked := true }) a.val .synthUnlock)

/-- SYNTH_UNLOCK (R155): with a gate open, write-unsafe is asserted and the sectors with a gate open are marked. -/
def execSynthUnlock (a : Fin 4) (s : State) : Host.Outcome State Fault Refusal :=
  let a := a.val
  let gated := gatedEntries s a
  let s := s.modChan a fun c => { c with synthLocked := false }
  if gated.isEmpty && !(s.chanOf a).readGate then .next s else .next (unlockSeen (reportGated s a rSynth) a)

/-! ### Asperities, drops and long freezes (R162–R164) -/

/-- Head selected on actuator a: that of the sentence playing. -/
def headNow (s : State) (a : Nat) : Nat := (s.actOf a).lastSurface % 12

/-- The asperity and drop detectors are armed by the phrase in force (R234). -/
def detectorsArmed (s : State) (a : Nat) : Bool := match (s.actOf a).playing with
  | some p => bit (s.playerOf p).frontEnd 0
  | none => false

/-- The settings and the taps' signal path of the sentence playing on actuator a. -/
def ctxNow (s : State) (a : Nat) : Option (SignalCtx × List Entry) :=
  (s.actOf a).playing.map fun p => (signalCtx s a p, (s.playerOf p).entries)

/-- The asperity condition holds at the newest sample (R164). -/
def asperityNow (s : State) (a : Nat) : Bool := match ctxNow s a with
  | none => false
  | some (x, _) => asperityMet x (s.chanOf a)

/-- The drop condition holds at the newest sample (R164). -/
def dropNow (s : State) (a : Nat) : Bool := match ctxNow s a with
  | none => false
  | some (x, es) => dropMet x (s.chanOf a) (captureOffset x es (s.chanOf a).streamWedge (s.chanOf a).streamT)

/-- TA_EVENT_LIMIT of the sentence playing (R190). -/
def firingLimit (s : State) (a : Nat) : Nat := match (s.actOf a).playing with
  | some p => (s.playerOf p).set.taLimit
  | none => 0

/-- One firing: the report bit, the freeze until the hangover ends, and one event when the sentence reaches its limit. -/
def detectorFires (s : State) (a mask cause count firings : Nat) : State :=
  let s := s.modChan a fun c => { c with freeze := setBit c.freeze cause }
  let s := (reportGated s a mask).bump count
  if firings = firingLimit s a then s.raiseAct a (20 + headNow s a) (headNow s a) cause else s

/-- THERMAL_ASPERITY (R164): after the rows `adc`, eight consecutive corrected samples of a lane in use sum to more than the
threshold. -/
def execThermalAsperity (a : Fin 4) (adc : List AdcRow) (s : State) : Host.Outcome State Fault Refusal :=
  let s := streamSamples s a.val adc
  if detectorsArmed s a.val && asperityNow s a.val then
    let s := s.modChan a.val fun c => { c with taFirings := c.taFirings + 1 }
    .next (detectorFires s a.val rTA 1 (Obj.taCount a.val) (s.chanOf a.val).taFirings)
  else .next s

/-- DROP_DETECT (R164): after the rows `adc`, the mean of |y| over 16 T is below the threshold, during tracking. -/
def execDropDetect (a : Fin 4) (adc : List AdcRow) (s : State) : Host.Outcome State Fault Refusal :=
  let s := streamSamples s a.val adc
  if detectorsArmed s a.val && dropNow s a.val then
    let s := s.modChan a.val fun c => { c with dropFirings := c.dropFirings + 1 }
    .next (detectorFires s a.val rDrop 2 (Obj.dropCount a.val) (s.chanOf a.val).dropFirings)
  else .next s

/-- FREEZE_HANGOVER_END (R162): HANGOVER_T after a detector cleared, the loops resume from their held state. While samples come, that T
tells itself by their number (hangStep); with the read gate closed no sample comes, no detector is met, and the freezes have ended. -/
def execFreezeHangoverEnd (a : Fin 4) (adc : List AdcRow) (s : State) : Host.Outcome State Fault Refusal :=
  let s := streamSamples s a.val adc
  if (s.chanOf a.val).readGate then .next s
  else .next (s.modChan a.val fun c => { c with freeze := clrBit (clrBit c.freeze 1) 2 })

/-- The freeze run that makes a freeze long (R163). -/
def maxFreeze : Nat := 8192

/-- A capture whose freeze run has just become long. -/
def longRun (e : Entry) : Bool := e.capturing && decide (maxFreeze ≤ e.run) && !bit e.report 15

/-- LONG_FREEZE (R163): with the rows `adc`, a freeze run of a sector reaches 8,192 T; the loops stay held to the end of the
sector. -/
def execLongFreeze (a : Fin 4) (adc : List AdcRow) (s : State) : Host.Outcome State Fault Refusal :=
  let s := streamSamples s a.val adc
  match (s.actOf a.val).playing with
  | none => .next s
  | some p =>
    let l := entriesWhere s p longRun
    if l.isEmpty then .next s
    else
      let s := s.modChan a.val fun c => { c with longFreeze := true }
      let s := s.each l fun s i => report s p i rLongFreeze
      .next (s.bump (Obj.longFreezeCount a.val))

/-! ### Sync windows (R165) -/

/-- The earliest matching position of a window: centre ± W, distance at most the tolerance. -/
def windowMatch (h : Header) (centre : Nat) (cands : List (Nat × Nat)) : Option (Nat × Nat) :=
  (cands.filter fun c => decide (centre ≤ c.1 + h.syncWin) && decide (c.1 ≤ centre + h.syncWin) && decide (c.2 ≤ h.syncTol)).foldl
    (fun best c => match best with
      | some b => if c.1 < b.1 then some c else some b
      | none => some c) none

/-- SYNC_WINDOW_END (R165): with the rows `adc`, a sync window of the oldest capture that still has it open closes; an armed window
that found no match is counted. Each position's 32 bit decisions are compared with the mark. -/
def execSyncWindowEnd (p : Fin 8) (first : Bool) (adc : List AdcRow) (s : State) : Host.Outcome State Fault Refusal :=
  let p := p.val
  let a := playerAct p
  let s := if (s.actOf a).playing = some p then streamSamples s a adc else s
  match entriesWhere s p fun e => e.capturing && !(if first then e.sm1Done else e.sm2Done) with
  | [] => .next s
  | i :: _ =>
    let h := (s.playerOf p).header
    let found := match s.entryOf p i with
      | some e =>
        let centre := if first then 96 else h.sm2At
        if bit e.arm (if first then 1 else 0) then
          windowMatch h centre (windowCandidates (presetTarget (presetOf s a h.eqPreset))
            (if first then syncMark1 else syncMark2) centre h.syncWin e.samples)
        else none
      | none => none
    let armed := match s.entryOf p i with
      | some e => bit e.arm (if first then 1 else 0)
      | none => false
    let s := modEntry s p i fun e =>
      if first then { e with sm1 := found, sm1Done := true } else { e with sm2 := found, sm2Done := true }
    let s := if armed && found.isNone then s.bump (if first then Obj.sm1MissCount a else Obj.sm2MissCount a) else s
    .next (postSector s a (if first then evSm1 else evSm2) i)

/-! ### The end of a capture (R166) -/

/-- CAPTURE_END (R166): with the rows `adc`, the capture of the oldest capturing entry ends. -/
def execCaptureEnd (p : Fin 8) (adc : List AdcRow) (s : State) : Host.Outcome State Fault Refusal :=
  let p := p.val
  let a := playerAct p
  let s := if (s.actOf a).playing = some p then streamSamples s a adc else s
  match entriesWhere s p (·.capturing) with
  | [] => .next s
  | i :: _ =>
    match s.entryOf p i with
    | none => .next s
    | some e => if captureAtEnd (s.playerOf p).header (s.chanOf a) e then .next (endCapture s p i) else .next s

/-! ### The preamp's serial bus (R179–R182) -/

/-- The fault sequence's two frames (R182). -/
def faultRead (s : State) (a : Nat) : PreampFrame :=
  { priority := 0, reg := (preampRegs s a).faultStatus, data := none, verify := false, tries := 0 }
/-- The write of FAULT_CLEAR. DESIGN CHOICE (log 86): its data is 1. -/
def faultClear (s : State) (a : Nat) : PreampFrame :=
  { priority := 0, reg := (preampRegs s a).faultClear, data := some 1, verify := false, tries := 0 }

/-- PREAMP_FAULT_ASSERT (R182): write-unsafe at once, the fault sequence, and an event. -/
def execPreampFaultAssert (a : Fin 4) (s : State) : Host.Outcome State Fault Refusal :=
  let a := a.val
  let s := s.modChan a fun c => { c with faultLow := true }
  let s := reportGated s a rPreamp
  let s := assertWu s a .preampFault
  let s := if formatSelected s a then queueFrame s a (faultRead s a) else s
  .next ((s.bump (Obj.preampFaults a)).raiseAct a 1 a)

/-- PREAMP_FAULT_RELEASE (R182): PAa_FAULT_N is high again. -/
def execPreampFaultRelease (a : Fin 4) (s : State) : Host.Outcome State Fault Refusal :=
  .next (clearWu (s.modChan a.val fun c => { c with faultLow := false }) a.val .preampFault)

/-- PREAMP_FRAME_VERIFY_FAIL (R181): the second failure of a read-back. -/
def verifyFail (s : State) (a : Nat) : State :=
  let s := assertWu s a .frameVerify
  (s.bump (Obj.frameRetries a)).raiseAct a 1 a

/-- A frame of a sentence reached the preamp: the head or mode it sets is in force. -/
def frameTaken (s : State) (a : Nat) (f : PreampFrame) : State :=
  let r := preampRegs s a
  match f.data with
  | none => s
  | some d =>
    s.modChan a fun c =>
      if f.reg = r.mode then { c with mode := d }
      else if f.reg = r.head then { c with head := d }
      else if f.reg = r.heater then { c with heaterSent := d }
      else if f.reg = r.readerBias then { c with biasSent := d } else c

/-- The result of a frame that PREAMP_ACCESS queued (R180). -/
def accessResult (s : State) (a : Nat) (f : PreampFrame) (readback : Nat) : State :=
  match f.data with
  | none => s.setStr (Obj.preampAccess a) ([0, BitVec.ofNat 8 f.reg, 0, 0] ++ leBytes 4 readback)
  | some d => s.setStr (Obj.preampAccess a) ([1, BitVec.ofNat 8 f.reg, 0, 0] ++ leBytes 4 d)

/-- What a completed frame does. -/
def frameDone (s : State) (a : Nat) (f : PreampFrame) (readback : Nat) (parityOk : Bool) : State :=
  if f.priority = 0 then
    match f.data with
    | some _ => s
    | none =>
      if parityOk then queueFrame (s.setNum (Obj.preampFaultStatus a) (readback % 2 ^ 32)) a (faultClear s a)
      else if f.tries = 0 then queueFrame s a { f with tries := 1 }
      else queueFrame (s.setNum (Obj.preampFaultStatus a) 0xFFFFFFFF) a (faultClear s a)
  else if f.verify then
    (if parityOk && f.data = some readback then frameTaken s a f
     else if f.tries = 0 then s.modChan a fun c => { c with frames := { f with tries := 1 } :: c.frames }
     else verifyFail s a)
  else if f.priority = 4 then accessResult (frameTaken s a f) a f readback
  else frameTaken s a f

/-- PREAMP_FRAME_DONE (R179, R181): the frame on the bus completes (with its read-back where it is verified), and the next is
sent by priority. -/
def execPreampFrameDone (a : Fin 4) (readback : Nat) (parityOk : Bool) (s : State) : Host.Outcome State Fault Refusal :=
  let a := a.val
  match (s.chanOf a).onBus with
  | none => .next s
  | some f =>
    let s := frameDone (s.modChan a fun c => { c with onBus := none }) a f readback parityOk
    let s := if f.priority = 2 ∧ framesDone (s.chanOf a) = true then postEvent s a evFrames else s
    .next (sendNext s a)

/-- WRITE_PAYLOAD_POISONED (R487): the write-data reader receives a poisoned block of a write entry's payload; that sector's write gate
does not open, or closes at once. -/
def execWritePayloadPoisoned (p : Fin 8) (entry : Nat) (s : State) : Host.Outcome State Fault Refusal :=
  let p := p.val
  let a := playerAct p
  match s.entryOf p entry with
  | none => .next s
  | some e =>
    if !e.isWrite || e.final || decide ((s.playerOf p).nextEntry ≤ entry) then .next s
    else if (s.actOf a).playing = some p ∧ (s.chanOf a).writeGate = some entry then .next ((cutWrite s a 0 true).raiseAct a 18 a 1)
    else .next ((writeIncomplete s p entry 0 true).raiseAct a 18 a 1)

end Sys2Proof.Machine
end

