-- ==== Sys2Proof/Machine/Detect.lean ====
section
/-!
DEFINITION. Soft decoding: the 16-state max-log detector with its noise predictor, and the layered offset min-sum decoder
(R192–R195).
-/

namespace Sys2Proof.Machine

/-! ### Samples at an alignment (R166) -/

/-- `n` samples of a capture from a sector offset on, zero where it holds none. -/
def samplesFrom (samples : List Int) (start : Int) (n : Nat) : List Int :=
  let before := min n (-start).toNat
  let own := (samples.drop start.toNat).take (n - before)
  List.replicate before 0 ++ own ++ List.replicate (n - before - own.length) 0

/-- A quotient rounded to nearest, ties away from zero. -/
def roundDiv (a : Int) (d : Nat) : Int :=
  let q : Nat := (2 * a.natAbs + d) / (2 * d)
  if a < 0 then -(q : Int) else q

/-- Saturation to ±31 and ±127 (R194). -/
def soft6 (x : Int) : Int := max (-31) (min 31 x)
def soft8 (x : Int) : Int := max (-127) (min 127 x)

/-! ### The detector (R193) -/

/-- One pattern of a noise-predictor record: p1 to p3 in 1/1,024, and σ² in 1/16 LSB². -/
structure NoisePattern where
  p1 : Int
  p2 : Int
  p3 : Int
  var : Nat

/-- The 32 patterns of a record. -/
def noisePatterns (np : List Byte) : List NoisePattern :=
  (List.range 32).map fun q =>
    ⟨toSigned 16 (fieldAt np (8 * q) 2), toSigned 16 (fieldAt np (8 * q + 2) 2), toSigned 16 (fieldAt np (8 * q + 4) 2),
     max 1 (fieldAt np (8 * q + 6) 2)⟩

/-- Twice the ideal level of a sample under the target 1 + 2D + D², from its three newest bits, the newest lowest. -/
def levelTwice (target : Int) (q : Nat) : Int :=
  let x (i : Nat) : Int := if q.testBit i then 1 else -1
  (x 0 + 2 * x 1 + x 2) * target / 2

/-- A path cost in units of 1 / `den`; none for a state that no path reaches. -/
abbrev Cost := Option Int

def Cost.least : Cost → Cost → Cost
  | none, b => b
  | a, none => a
  | some a, some b => some (if b < a then b else a)

/-- What the detector works with: TARGET, the patterns, and the least common multiple of their variances. -/
structure DetectCtx where
  target : Int
  patterns : List NoisePattern
  lcm : Nat

/-- The common denominator of the costs: (2,048)² × lcm. -/
def DetectCtx.den (x : DetectCtx) : Nat := 4194304 * x.lcm

/-- One time of the trellis, before its branches: cost of each state b(n−4)…b(n−1), and twice e(n−3) on the path that survives in
it. -/
abbrev Front := List (Cost × Int)

/-- The branch metric of pattern q (R193), with the a-priori value of c(n) = b(n) XOR b(n−1) in units of 0.5. Where e reaches before
the segment it is 0 (log entry 57). -/
def branchCost (x : DetectCtx) (e3 : Int) (y : Int) (y1 y2 : Option Int) (la : Int) (q : Nat) : Int :=
  let e (v : Option Int) (k : Nat) : Int := match v with
    | some v => 2 * v - levelTwice x.target (q >>> k)
    | none => 0
  let np := x.patterns.getD q ⟨0, 0, 0, 1⟩
  let p := 1024 * e (some y) 0 - np.p1 * e y1 1 - np.p2 * e y2 2 - np.p3 * e3
  p * p * (16 * (x.lcm / np.var) : Nat) + (if q.testBit 0 = q.testBit 1 then 0 else la * (x.den / 2 : Nat))

/-- The costs of the 32 branches at a time. -/
def branchCosts (x : DetectCtx) (f : Front) (y : Int) (y1 y2 : Option Int) (la : Int) : List Int :=
  (List.range 32).map fun q => branchCost x ((f.getD (q / 2) (none, 0)).2) y y1 y2 la q

/-- The states after those branches: the better of the two that enter each; of equal ones, the one whose oldest bit is 0. -/
def nextFront (x : DetectCtx) (f : Front) (g : List Int) (y2 : Option Int) : Front :=
  (List.range 16).map fun t =>
    let via (q : Nat) : Cost := ((f.getD (q / 2) (none, 0)).1).map (· + g.getD q 0)
    let best := Cost.least (via t) (via (16 + t))
    let q := if via t = best then t else 16 + t
    (best, match y2 with
      | some v => 2 * v - levelTwice x.target (q >>> 2)
      | none => 0)

/-- The forward recursion over a segment: front and branch costs of each time, in order. -/
def forwardCosts (x : DetectCtx) : Front → Option Int → Option Int → List Int → List Int → List (Front × List Int)
  | _, _, _, [], _ => []
  | f, y1, y2, y :: ys, las =>
    let g := branchCosts x f y y1 y2 (las.headD 0)
    (f, g) :: forwardCosts x (nextFront x f g y2) (some y) y1 ys las.tail

/-- One time of the backward recursion. -/
def backStep (b : List Int) (g : List Int) : List Int :=
  (List.range 16).map fun st => min (g.getD (2 * st) 0 + b.getD (2 * st % 16) 0) (g.getD (2 * st + 1) 0 + b.getD ((2 * st + 1) % 16) 0)

/-- The log-likelihood ratio of one code bit in units of 0.5, quantised: positive favours 0. DESIGN CHOICE (log 57): it contains the a-priori
value that the pass was given. -/
def llrOf (x : DetectCtx) (f : Front) (g b : List Int) : Int :=
  let total (q : Nat) : Cost := ((f.getD (q / 2) (none, 0)).1).map (· + g.getD q 0 + b.getD (q % 16) 0)
  let best (c : Bool) : Cost := ((List.range 32).filter fun q => (q.testBit 0 != q.testBit 1) = c).foldl (fun a q => Cost.least a (total q)) none
  match best false, best true with
  | some c0, some c1 => soft6 (roundDiv (2 * (c1 - c0)) x.den)
  | _, _ => 0

/-- A segment's LLRs: the trellis starts in state 0 at its first bit, and ends in any. -/
def detectSegment (x : DetectCtx) (samples las : List Int) : List Int :=
  let start : Front := (List.range 16).map fun st => (if st = 0 then some 0 else none, 0)
  ((forwardCosts x start none none samples las).foldr (fun t z =>
    (llrOf x t.1 t.2 z.2 :: z.1, backStep z.2 t.2)) (([] : List Int), List.replicate 16 (0 : Int))).1

/-- A segment in parts: the precoder starts again with b(−1) = 0 after each relock field (R171), and the trellis with it; `cuts` are the
code bits of the segment at which that is. -/
def detectParts (x : DetectCtx) (samples las : List Int) (cuts : List Nat) : List Int :=
  let bounds := 0 :: cuts.filter fun n => decide (0 < n) && decide (n < samples.length)
  (bounds.zip (bounds.drop 1 ++ [samples.length])).flatMap fun z =>
    detectSegment x ((samples.drop z.1).take (z.2 - z.1)) ((las.drop z.1).take (z.2 - z.1))

/-- One detector pass over the whole codeword (R191, R193): segment 1 at the alignment, segment 2 at N/2 + 32 after it. The sector offsets
of the cuts are code bits as they were written: 128 and N/2 + 160 are the first of the two segments (R136, R171). -/
def detectorPass (target : Nat) (np : List Byte) (m : Nat) (samples : List Int) (align : Int) (apriori : List Int) (cuts : List Nat) :
    List Int :=
  let patterns := noisePatterns np
  let x : DetectCtx := ⟨target, patterns, (patterns.map (·.var)).foldl Nat.lcm 1⟩
  let half := 64 * (257 + m)
  detectParts x (samplesFrom samples align half) (apriori.take half) (cuts.map (· - 128)) ++
  detectParts x (samplesFrom samples (align + half + 32) half) (apriori.drop half) (cuts.map (· - (160 + half)))

/-! ### The LDPC decoder (R192, R194) -/

/-- LLRs in blocks of 128. -/
def softBlocks (m : Nat) (llr : List Int) : List (List Int) :=
  if llr.isEmpty then [] else (List.range (257 + m)).map fun j => (llr.drop (128 * j)).take 128

/-- The entries of layer r: block column and shift. -/
def layerEntries (m r : Nat) : List (Nat × Nat) :=
  (List.range (257 + m)).filterMap fun j => ((baseColumn m j).find? (·.1 = r)).map fun e => (j, e.2)

/-- A block as the 128 check rows of a circulant of shift s see it, and back. -/
def rotL (s : Nat) (v : List Int) : List Int := v.drop s ++ v.take s
def rotR (s : Nat) (v : List Int) : List Int := v.drop (v.length - s) ++ v.take (v.length - s)

/-- What a check row knows of its inputs: the two smallest magnitudes, and whether an odd number is negative. -/
abbrev CheckSum := Nat × Nat × Bool

def addInput (c : CheckSum) (v : Int) : CheckSum :=
  let a := v.natAbs
  (min c.1 a, if a < c.1 then c.1 else min c.2.1 a, c.2.2 != decide (v < 0))

/-- The message to one input (R194): the smallest magnitude of the others less the offset, with the product of their signs. DESIGN CHOICE
(log 57): its magnitude is held to 31, as an extrinsic value's. -/
def checkMessage (offset : Nat) (c : CheckSum) (v : Int) : Int :=
  let others := if v.natAbs = c.1 then c.2.1 else c.1
  let mag : Int := min 31 (others - offset : Nat)
  if c.2.2 != decide (v < 0) then -mag else mag

/-- Subtract the last messages of an entry, none before the first iteration of a pass. -/
def lessMessage (v msg : List Int) : List Int := if msg.isEmpty then v else List.zipWith (· - ·) v msg

/-- One layer: the posteriors less their last messages, the check rows' new messages, and the posteriors with them. -/
def layerStep (m offset r : Nat) (post : List (List Int)) (old : List (List Int)) : List (List Int) × List (List Int) :=
  let es := layerEntries m r
  let inputs := es.zipIdx.map fun (e, k) => lessMessage (rotL e.2 (post.getD e.1 [])) (old.getD k [])
  let width := (inputs.headD []).length
  let sums := inputs.foldl (fun c v => List.zipWith addInput c v) (List.replicate width (1000, 1000, false))
  let msgs := inputs.map fun v => List.zipWith (checkMessage offset) sums v
  let post := (es.zip (inputs.zip msgs)).foldl
    (fun p x => p.set x.1.1 (rotR x.1.2 ((List.zipWith (· + ·) x.2.1 x.2.2).map soft8))) post
  (post, msgs)

/-- One local iteration (R192): the layers in the order 0 to m − 1. -/
def localIteration (m offset : Nat) (post : List (List Int)) (msgs : List (List (List Int))) :
    List (List Int) × List (List (List Int)) :=
  (List.range m).foldl (fun z r =>
    let x := layerStep m offset r z.1 (msgs.getD r [])
    (x.1, z.2 ++ [x.2])) (post, [])

/-- Hard decisions of the posteriors: a positive value favours 0. -/
def hardOf (post : List (List Int)) : List Bool := post.flatMap fun b => b.map (decide <| · < 0)

/-- The extrinsic values returned to the detector (R194): quantised, times EXT_SCALE / 16, rounded to nearest. -/
def extrinsic (scale : Nat) (llr : List Int) (post : List (List Int)) : List Int :=
  List.zipWith (fun p l => roundDiv (soft6 (p - l) * scale) 16) post.flatten llr

end Sys2Proof.Machine
end

