-- ==== Sys2Proof/Machine/Decoder.lean ====
section
/-!
DEFINITION. The decode pool's commands: detector passes, LDPC iterations with syndrome and SCRC, deadlines, hold slots, and ladder
requests (R191–R217). LADDER_STEP_ADVANCE stands in Machine/Rebuild.lean.
-/

namespace Sys2Proof.Machine

/-! ### Status words (R213) -/

/-- Microseconds since the last sample or the acceptance, saturated (R213). -/
def decodeUs (s : State) (j : DecodeJob) : Nat := min ((s.tick - j.acceptTick) / 25) 65535

/-- Word 1 of a status word (R213). -/
def statusWord1 (j : DecodeJob) (slip : Nat) : Nat :=
  j.result * 2 ^ 28 + j.ladder * 2 ^ 25 + min j.globals 63 * 2 ^ 19 + min j.locals 255 * 2 ^ 11 +
  (if j.result = resConverged then 0 else min j.minUnsat 255) * 8 + slip % 8

/-- Word 3 of a status word (R213). -/
def statusWord3 (s : State) (j : DecodeJob) : Nat :=
  j.detCore * 2 ^ 28 + j.ldpcCore * 2 ^ 24 + (if j.extended then 2 ^ 23 else 0) + (if j.overrun then 2 ^ 22 else 0) +
  (if j.held then 2 ^ 21 else 0) + (if j.lost then 2 ^ 20 else 0) + (if j.coreFault then 2 ^ 19 else 0) +
  (if j.parity then 2 ^ 18 else 0) + decodeUs s j

/-! ### Hold slots (R203, R204) -/

/-- The lowest free hold slot of actuator a. -/
def freeHold (s : State) (a : Nat) : Option Nat :=
  (List.range s.dec.holdCount).find? fun h =>
    (SMap.find s.dec.holdSlots (slotKey a h)).isNone && (SMap.find s.dec.copies (slotKey a h)).isNone

/-- Free a hold slot. -/
def releaseHold (s : State) (a h : Nat) : State :=
  if h < 64 then
    s.setDec { s.dec with holdSlots := SMap.erase s.dec.holdSlots (slotKey a h), copies := SMap.erase s.dec.copies (slotKey a h) }
  else s

def SampleSlot.empty : SampleSlot := ⟨[], 0, 0xFFFF, 0xFFFF, 0, 0, false, 0, 0, 0, 0, 0, 0, 0, 0, [], 0⟩

/-- What ring slot n of actuator a holds. -/
def ringSlotOf (s : State) (a n : Nat) : SampleSlot :=
  if n < 64 then SMap.findD s.dec.ringSlots (slotKey a n) SampleSlot.empty else SampleSlot.empty

/-- HOLD_COPY_DONE (R203): the copy of a ring slot into a hold slot completes; it is what the ring slot held when the result was
known. -/
def execHoldCopyDone (a : Fin 4) (hold : Nat) (s : State) : Host.Outcome State Fault Refusal :=
  match SMap.find s.dec.copies (slotKey a.val hold) with
  | none => .next s
  | some x =>
    if 64 ≤ hold then .next s
    else
      let s := s.setDec { s.dec with
        holdSlots := SMap.put s.dec.holdSlots (slotKey a.val hold) x
        copies := SMap.erase s.dec.copies (slotKey a.val hold) }
      .next (dramWrite s (holdAddr a.val hold) (sampleSlotBytes x))

/-! ### The end of an online decode (R195, R200, R203, R213) -/

/-- Key of a sector's climb. -/
def climbKey (u track p : Nat) : Nat := (u * 2 ^ 24 + track) * 2 ^ 16 + p

/-- The ladder step at which a sector's climb stands, 0 where it has none. -/
def climbStep (s : State) (u track p : Nat) : Nat :=
  ((s.dec.climbs.find? fun c => decide (c.key = climbKey u track p)).map (·.step)).getD 0

/-- The samples of a failed online decode go to a hold slot, with the ladder step whose read they are, or are lost. -/
def holdSamples (s : State) (j : DecodeJob) : State × DecodeJob :=
  match freeHold s j.actuator with
  | some h =>
    let x := ringSlotOf s j.actuator j.ringSlot
    let x := { x with step := climbStep s x.surface x.track x.psector }
    (s.setDec { s.dec with copies := SMap.put s.dec.copies (slotKey j.actuator h) x },
     { j with hold := some h, held := true })
  | none => (s.bump Obj.samplesLostCount, { j with lost := true })

/-- Counters of a read so far stay with its samples, for the ladder (R213). -/
def noteIterations (s : State) (j : DecodeJob) : State :=
  let f (x : SampleSlot) : SampleSlot := { x with globals := j.globals, locals := j.locals }
  let n := match j.ring, j.slots with
    | some _, n :: _ => n
    | _, _ => j.ringSlot
  let k := slotKey j.actuator n
  if 64 ≤ n then s
  else if j.ring.isNone || j.fromRing then s.setDec { s.dec with ringSlots := SMap.mod s.dec.ringSlots k f }
  else s.setDec { s.dec with holdSlots := SMap.mod s.dec.holdSlots k f, copies := SMap.mod s.dec.copies k f }

/-- An online decode ends: payload first, then its status word in one write. -/
def endOnline (s : State) (j : DecodeJob) (payload : Option (List Byte)) : State :=
  let s := noteIterations s j
  let (s, j) := if j.result = resConverged then (s, j) else holdSamples s j
  let s := match payload with
    | some b => dramWrite s j.payloadAddr b
    | none => s
  let s := dramWrite s j.statusAddr (words4 j.report (statusWord1 j 0)
    (statusWord2 j.entry j.ringSlot (j.hold.getD 0xFF) j.seq) (statusWord3 s j))
  let s := modEntry s j.player j.entry fun e =>
    if statusAddr (s.playerOf j.player).header j.entry = j.statusAddr then { e with final := true, result := j.result } else e
  let s := if j.extended then s.bump Obj.extendedCount else s
  let s := if j.overrun then s.bump Obj.slotOverrunCount else s
  dispatch (dropJob s j.id)

/-- A job ends with a result: an online sector at once, a ladder request until LADDER_REQUEST_END writes its status; the payload
of a converged request waits at its destination. -/
def endJob (s : State) (j : DecodeJob) (payload : Option (List Byte)) : State :=
  match j.ring with
  | none => endOnline s j payload
  | some _ =>
    let s := noteIterations s j
    let s := match payload with
      | some b => dramWrite s j.payloadAddr b
      | none => s
    dispatch (putJob s { j with phase := .ended })

/-- The decode at one alignment ends without CONVERGED: the next alignment restarts from zero a-priori input, and after the
last one the job ends (R205). -/
def alignmentFails (s : State) (j : DecodeJob) (result : Nat) : State :=
  let j := { j with result := result }
  if j.alignIndex + 1 < j.aligns.length then
    dispatch (putJob s { j with
      alignIndex := j.alignIndex + 1, alignGlobals := 0, passLocals := 0, phase := .waitDetector, llr := [], post := [], msgs := [] })
  else endJob s j none

/-- Global iterations that the alignment in progress may take: for an online sector its reservation, and the third from the
extension class when r = 2 (R199). -/
def alignLimit (j : DecodeJob) : Nat :=
  match j.ring with
  | none => if j.reserve = 2 then 3 else j.limitGlobal
  | some _ => if j.alignIndex = 0 then j.limitGlobal else j.limitProbe

/-! ### Passes and iterations (R191, R193–R196, R199) -/

/-- The samples that a job decodes: its ring slot, or its hold slot, whose copy may still be running. -/
def jobSamples (s : State) (j : DecodeJob) : List Int :=
  match j.hold with
  | none => (ringSlotOf s j.actuator j.ringSlot).samples
  | some h =>
    if 64 ≤ h then []
    else match SMap.find s.dec.holdSlots (slotKey j.actuator h), SMap.find s.dec.copies (slotKey j.actuator h) with
      | some x, _ => x.samples
      | none, some x => x.samples
      | none, none => []

/-- The pass that a core has in hand ends. -/
def freeDetector (s : State) (core : Nat) : State := s.setDec { s.dec with detRun := SMap.erase s.dec.detRun core }
def freeLdpc (s : State) (core : Nat) : State := s.setDec { s.dec with ldpcRun := SMap.erase s.dec.ldpcRun core }

/-- A corrected word of a core's message memory is counted at its SRAM macro, by row (R196, R439). -/
def countCorrected (s : State) (check : PassCheck) : State := match check with
  | .corrected n row => if n < 448 then s.raise (704 + n) row else s
  | _ => s

/-- Whether the core's checker throws the result away (R196): it disagrees, or its message memory had an uncorrectable word. -/
def badPass : PassCheck → Bool
  | .disagrees | .uncorrectable => true
  | _ => false

/-- CHECKER_DISAGREE (R196, R215): the result is discarded, the alignment is run again from the samples on another core, and the core's
source raises an event. -/
def checkerDisagrees (s : State) (j : DecodeJob) (det : Bool) (core : Nat) : State :=
  let j := restartAlignment j
  if det then
    dispatch (((putJob (freeDetector s core) { j with avoidDet := core }).bump (Obj.detCheckFails core)).raise (256 + core) core)
  else
    dispatch (((putJob (freeLdpc s core) { j with avoidLdpc := core }).bump (Obj.ldpcCheckFails core)).raise (264 + core) core)

/-- A job after a detector pass: its LLRs, from the a-priori values that the last LDPC pass returned (R193, R194). -/
def detected (s : State) (j : DecodeJob) (core : Nat) : DecodeJob :=
  let apriori := extrinsic (s.num Obj.extScale) j.llr j.post
  let llr := detectorPass j.target j.np j.parityCirc (jobSamples s j) (j.aligns.getD j.alignIndex 0) apriori j.cuts
  { j with phase := .waitLdpc, detCore := core, avoidDet := 0xFF, passLocals := 0, llr := llr
           post := softBlocks j.parityCirc llr, msgs := [] }

/-- DETECTOR_PASS_DONE (R199): the detector core completes the pass it has in hand, over the whole codeword. -/
def execDetectorPassDone (core : Fin 8) (job : Nat) (check : PassCheck) (s : State) : Host.Outcome State Fault Refusal :=
  let s := dispatch s
  match jobOf s job with
  | none => .next s
  | some j =>
    if SMap.find s.dec.detRun core.val ≠ some job ∨ j.phase ≠ .waitDetector then .next s
    else
      let s := (countCorrected s check).bump (Obj.detSectors core.val)
      if badPass check then .next (checkerDisagrees s j true core.val)
      else .next (dispatch (putJob (freeDetector s core.val) (detected s j core.val)))

/-- One more global iteration ends; the third of a sector with r = 2 comes from the extension class (R199). -/
def globalDone (j : DecodeJob) : DecodeJob :=
  { j with globals := j.globals + 1, alignGlobals := j.alignGlobals + 1, passLocals := 0, avoidLdpc := 0xFF
           extended := j.extended || (j.ring.isNone && decide (j.reserve = 2) && decide (j.alignGlobals = 2)) }

/-- A zero syndrome (R195): CONVERGED, or CRC_FAIL where a data sector's SCRC does not match. -/
def codewordReached (s : State) (j : DecodeJob) (hard : List Bool) : State :=
  let payload := hardBytes hard
  let j := { globalDone j with minUnsat := 0 }
  if j.parity || scrcGood j.seed payload then endJob s { j with result := resConverged } (some payload)
  else alignmentFails (s.bump Obj.crcFailCount) j resCrcFail

/-- LDPC_ITERATION_DONE (R195): the LDPC core completes one local iteration of the pass it has in hand; the pass ends at a codeword or at
the permitted number. -/
def execLdpcIterationDone (core : Fin 12) (job : Nat) (check : PassCheck) (s : State) : Host.Outcome State Fault Refusal :=
  let s := dispatch s
  match jobOf s job with
  | none => .next s
  | some j =>
    if SMap.find s.dec.ldpcRun core.val ≠ some job ∨ j.phase ≠ .waitLdpc then .next s
    else
      let s := countCorrected s check
      let z := localIteration j.parityCirc (s.num Obj.msOffset) j.post j.msgs
      let hard := hardOf z.1
      let u := unsatisfied j.parityCirc hard
      let j := { j with ldpcCore := core.val, locals := j.locals + 1, passLocals := j.passLocals + 1, post := z.1, msgs := z.2 }
      if check = .uncorrectable ∨ (u = 0 ∧ badPass check = true) then
        .next (checkerDisagrees (s.bump (Obj.ldpcSectors core.val)) j false core.val)
      else if u = 0 then .next (codewordReached (freeLdpc (s.bump (Obj.ldpcSectors core.val)) core.val) j hard)
      else
        let j := { j with minUnsat := min j.minUnsat u }
        if j.passLocals < j.limitLocal then .next (putJob s j)
        else
          let s := freeLdpc (s.bump (Obj.ldpcSectors core.val)) core.val
          let j := { globalDone j with result := resNotConverged }
          if j.alignGlobals < alignLimit j then .next (dispatch (putJob s { j with phase := .waitDetector }))
          else .next (alignmentFails s j resNotConverged)

/-- DECODE_DEADLINE (R200): an online decode stops, whatever its class. -/
def execDecodeDeadline (job : Nat) (s : State) : Host.Outcome State Fault Refusal :=
  match jobOf s job with
  | none => .next s
  | some j =>
    if j.ring.isSome then .next s
    else .next (endJob s { j with
      overrun := decide (j.alignGlobals < j.reserve), result := if j.globals = 0 then resNotDecoded else resNotConverged } none)

/-! ### Ladder requests (R205–R207) -/

/-- A 32-byte request. -/
structure LadderReq where
  kind : Nat
  act : Nat
  slots : List Nat
  slip : Bool
  releaseAfter : Bool
  fromRing : Bool
  localLimit : Nat
  globalLimit : Nat
  probe : Nat
  second : Nat
  dst : Nat

def ladderReqOf (b : List Byte) : LadderReq where
  kind := byteAt b 0
  act := fld (byteAt b 1) 7 6
  slots := (List.range (byteAt b 1 % 8)).map fun i => byteAt b (4 + i)
  slip := bit (byteAt b 2) 0
  releaseAfter := bit (byteAt b 2) 1
  fromRing := bit (byteAt b 2) 2
  localLimit := byteAt b 3
  globalLimit := fieldAt b 8 2
  probe := byteAt b 10
  second := fieldAt b 12 2
  dst := fieldAt b 24 8

/-- The request at the head of ring n, read whole as region D accepts it; none when the ring is empty or disabled. -/
def ladderHead (s : State) (ring : Nat) : Option LadderReq :=
  let h := s.num (Obj.ringHead ring)
  if h = s.num (Obj.ringTail ring) ∨ s.num (Obj.ringEntries ring) = 0 then none
  else some (ladderReqOf (dramRead s.mem (s.num (Obj.ringBase ring) + 32 * h) 32))

/-- RING_HEAD advances past an accepted entry, and wraps. -/
def advanceRing (s : State) (ring : Nat) : State :=
  let h := s.num (Obj.ringHead ring) + 1
  s.setNum (Obj.ringHead ring) (if s.num (Obj.ringEntries ring) ≤ h then 0 else h)

/-- Samples of a listed slot: a ring slot, or a hold slot, whose copy may still be running. -/
def slotOf (s : State) (r : LadderReq) (n : Nat) : SampleSlot :=
  if r.fromRing then ringSlotOf s r.act n
  else if 64 ≤ n then SampleSlot.empty
  else match SMap.find s.dec.holdSlots (slotKey r.act n), SMap.find s.dec.copies (slotKey r.act n) with
    | some x, _ => x
    | none, some x => x
    | none, none => SampleSlot.empty

/-- The slip search's order of offsets (R167). -/
def slipOrder : List Int := [0, -1, 1, -2, 2, -3, 3, -4, 4]

/-- Alignments of a DEEP request in order, none tried twice (R205). -/
def alignments (r : LadderReq) (align : Nat) : List Int :=
  if r.slip then
    let first := slipOrder.map (· + (align : Int))
    first ++ (if r.second = 0 then [] else (slipOrder.map (· + (r.second : Int))).filter (!first.contains ·))
  else [(align : Int)]

/-- A new job for a ladder request on a slot. -/
def requestJob (s : State) (ring : Nat) (r : LadderReq) (x : SampleSlot) (step : Nat) (aligns : List Int) : DecodeJob :=
  let slot := r.slots.headD 0xFF
  { id := s.dec.nextId, ring := some ring, player := 0, entry := 0, actuator := r.act
    ringSlot := if r.fromRing then slot else 0
    hold := if r.fromRing then none else some slot, reserve := 0, parity := x.parity, parityCirc := x.parityCirc, seed := x.seed
    report := x.report, kind := r.kind, target := (presetTarget (presetOf s r.act x.preset)).toNat, np := npRecord s r.act x.preset
    llr := [], post := [], msgs := [], avoidDet := 0xFF, avoidLdpc := 0xFF, deadline := 0
    statusAddr := r.dst + 4160, payloadAddr := r.dst
    phase := if aligns.isEmpty then .ended else .waitDetector, globals := x.globals, locals := x.locals, passLocals := 0
    alignGlobals := 0, minUnsat := 255, result := resNotDecoded, detCore := 0xF, ldpcCore := 0xF, extended := false
    overrun := false, coreFault := false, held := !r.fromRing && !aligns.isEmpty, lost := false, aligns := aligns, alignIndex := 0, cuts := x.cuts
    limitLocal := max r.localLimit 1, limitGlobal := max r.globalLimit 1, limitProbe := max r.probe 1
    releaseAfter := r.releaseAfter, slots := r.slots, fromRing := r.fromRing, acceptTick := s.tick, seq := 0, ladder := step }

/-- Alignments to try on a slot: none when it holds no sector of the code (log entry 8). -/
def alignsFor (x : SampleSlot) (l : List Int) : List Int := if 20 ≤ x.parityCirc ∧ x.parityCirc ≤ 49 then l else []

/-- LADDER_DEEP (R205): the request at the head is accepted and its first listed slot is decoded. A KIND that is none of the
three is accepted here as well and ends NOT_DECODED. -/
def execLadderDeep (ring : Fin 4) (s : State) : Host.Outcome State Fault Refusal :=
  match ladderHead s ring.val with
  | none => .next s
  | some r =>
    if r.kind = 2 ∨ r.kind = 3 then .next s
    else
      let x := slotOf s r (r.slots.headD 0xFF)
      let s := advanceRing s ring.val
      if r.kind = 1 then .next (addJob s (requestJob s ring.val r x 1 (alignsFor x (alignments r x.align))))
      else .next (addJob s (requestJob s ring.val r SampleSlot.empty 0 []))

/-- Sum over n rounded to nearest, ties away from zero, saturated to 6 bits (R207). -/
def averageOf (sum : Int) (n : Nat) : Int :=
  let q := (2 * sum.natAbs + n) / (2 * n)
  saturate6 (if sum < 0 then -(q : Int) else q)

/-- The average of slots, each lined up at its own ALIGN (R207): the first slot with new samples. A sample that a slot does not
hold is taken as zero (R166). -/
def averageSlots (l : List SampleSlot) : SampleSlot :=
  match l with
  | [] => SampleSlot.empty
  | x :: _ =>
    let at_ (y : SampleSlot) (i : Nat) : Int :=
      let k : Int := (i : Int) - x.align + y.align
      if k < 0 then 0 else y.samples.getD k.toNat 0
    { x with samples := (List.range x.samples.length).map fun i => averageOf ((l.map fun y => at_ y i).sum) l.length }

/-- LADDER_AVERAGE (R207): the average is written into the first listed slot, which is then decoded without slip search. -/
def execLadderAverage (ring : Fin 4) (s : State) : Host.Outcome State Fault Refusal :=
  match ladderHead s ring.val with
  | none => .next s
  | some r =>
    if r.kind ≠ 2 then .next s
    else
      let n := r.slots.headD 0xFF
      let x := averageSlots (r.slots.map (slotOf s r))
      let s := advanceRing s ring.val
      let s := if 64 ≤ n then s else if r.fromRing then s.setDec { s.dec with ringSlots := SMap.put s.dec.ringSlots (slotKey r.act n) x }
        else dramWrite (s.setDec { s.dec with
            holdSlots := SMap.put s.dec.holdSlots (slotKey r.act n) x
            copies := SMap.erase s.dec.copies (slotKey r.act n) }) (holdAddr r.act n) (sampleSlotBytes x)
      .next (addJob s (requestJob s ring.val r x 3 (alignsFor x [(x.align : Int)])))

/-- LADDER_RELEASE_HOLD (R204, R207): the named hold slots are free, and only the status word follows. -/
def execLadderReleaseHold (ring : Fin 4) (s : State) : Host.Outcome State Fault Refusal :=
  match ladderHead s ring.val with
  | none => .next s
  | some r =>
    if r.kind ≠ 3 then .next s
    else
      let s := advanceRing s ring.val
      let s := if r.fromRing then s else s.each r.slots fun s n => releaseHold s r.act n
      .next (addJob s (requestJob s ring.val r SampleSlot.empty 0 []))

/-- LADDER_REQUEST_END (R207): after the payload, the 16-byte status word in one write, then RING_DONE; a request that carries
RELEASE_AFTER frees its hold slots. The sector index and sentence of a request's word, and the ring slot of one on hold slots,
are free values: no rule says what they read (log entry 1). -/
def execLadderRequestEnd (job : Nat) (s : State) : Host.Outcome State Fault Refusal :=
  match jobOf s job with
  | none => .next s
  | some j =>
    match j.ring with
    | none => .next s
    | some ring =>
      if j.phase ≠ .ended then .next s
      else
        let (v, s) := s.draw
        let decoded := decide (j.kind = 1) || decide (j.kind = 2)
        let slotNo := if j.fromRing && decoded then j.ringSlot else v / 1024 % 64
        let w2 := statusWord2 (v % 1024) slotNo (if decoded then j.hold.getD 0xFF else 0xFF) (v / 65536 % 256)
        let s := dramWrite s j.statusAddr (words4 j.report (statusWord1 j j.alignIndex) w2 (statusWord3 s j))
        let s := if j.releaseAfter && !j.fromRing then s.each j.slots fun s n => releaseHold s j.actuator n else s
        let s := dispatch (dropJob s j.id)
        .next (s.setNum (Obj.ringDone ring) ((s.num (Obj.ringDone ring) + 1) % 65536))

end Sys2Proof.Machine
end

