-- ==== Sys2Proof/Machine/HostCore.lean ====
section
/-!
DEFINITION. What the host interface gives to every family: command slots, the range-lock table, completions and event notices
(R342–R348, R484).
-/

namespace Sys2Proof.Machine

def State.setHost (s : State) (h : HostIf) : State := { s with host := h }

/-- The command in a slot. -/
def State.slot (s : State) (n : Nat) : Option CmdSlot := SMap.find s.host.slots n

def putSlot (s : State) (n : Nat) (c : CmdSlot) : State := s.setHost { s.host with slots := SMap.put s.host.slots n c }

/-- Counters that follow the slots (R367). -/
def countSlots (s : State) : State :=
  let held (p : Port) : Nat := (s.host.slots.filter fun e => e.2.io && decide (e.2.port = p)).length
  let s := (s.setNum Obj.slotsInUse s.host.slots.length).setNum (Obj.ioSlotsHeld 0) (held .a)
  let s := s.setNum (Obj.ioSlotsHeld 1) (held .b)
  s.setNum Obj.lockInUse (s.host.slots.filter fun e => e.2.kind ≠ .free && !e.2.released).length

/-- A slot is freed with its entry (R346). -/
def freeSlot (s : State) (n : Nat) : State := countSlots (s.setHost { s.host with slots := SMap.erase s.host.slots n })

/-! ### The range lock (R345–R347) -/

/-- Two entries overlap. -/
def lockOverlap (a b : CmdSlot) : Bool :=
  decide (a.cmd.nsid = b.cmd.nsid) && decide (a.lba < b.lba + b.count) && decide (b.lba < a.lba + a.count)

/-- Two entries conflict: any pairing but READ with READ; commands that enter no span conflict with nothing. -/
def lockConflict (a b : CmdSlot) : Bool :=
  match a.kind, b.kind with
  | .free, _ => false
  | _, .free => false
  | .read, .read => false
  | _, _ => true

/-- Reservation Register, Report, Acquire, Release (R335). -/
def isReservationOp (op : Nat) : Bool := decide (op ∈ [0x0D, 0x0E, 0x11, 0x15])

/-- A fetched reservation command: it executes before any later I/O of its namespace is checked (R353). -/
def CmdSlot.isReservation (c : CmdSlot) : Bool := c.io && isReservationOp c.cmd.opcode

/-- A later I/O command waits for an earlier reservation command of its namespace. -/
def resBlocks (e c : CmdSlot) : Bool := e.isReservation && c.io && !c.isReservation && decide (e.cmd.nsid = c.cmd.nsid)

/-- Admission numbers of the unreleased earlier entries of a kind. -/
def earlierEntries (s : State) (c : CmdSlot) (p : CmdSlot → Bool) : List Nat :=
  (s.host.slots.filter fun e => !e.2.released && decide (e.2.admission < c.admission) && p e.2).map (·.2.admission)

/-- Those whose span a new entry stalls on (R347), and all that it must wait for (R353). -/
def lockStalls (s : State) (c : CmdSlot) : List Nat := earlierEntries s c fun e => lockOverlap e c && lockConflict e c
def lockWaits (s : State) (c : CmdSlot) : List Nat :=
  earlierEntries s c fun e => (lockOverlap e c && lockConflict e c) || resBlocks e c

/-- An entry stops waiting for an admission number, and proceeds when it waits for none: with the µs of its range-lock stall, if that
ends now. -/
def unwait (now adm : Nat) (c : CmdSlot) : CmdSlot × Nat :=
  let w := c.waits.filter (· ≠ adm)
  let l := c.locks.filter (· ≠ adm)
  ({ c with waits := w, locks := l, stalled := c.stalled && !w.isEmpty },
    if !c.locks.isEmpty && l.isEmpty then (now - c.fetchTick) / 25 else 0)

/-- The entry of a slot is released (R346): entries stalled on it proceed. -/
def releaseOne (s : State) (n : Nat) : State :=
  match s.slot n with
  | none => s
  | some c =>
    if c.released then s
    else
      let s := putSlot s n { c with released := true }
      let now := s.tick
      let l := s.host.slots.map fun e => (e.1, unwait now c.admission e.2)
      let longest := (l.map (·.2.2)).foldl max (s.num Obj.lockStallMaxUs)
      let s := s.setHost { s.host with slots := l.map fun e => (e.1, e.2.1) }
      countSlots (s.setNum Obj.lockStallMaxUs (min longest (2 ^ 32 - 1)))

/-! ### Reservations (R354–R356) -/

def Reservation.blank : Reservation := ⟨false, 0, 0, 255, []⟩

/-- Reservation state of a namespace. -/
def reservationOf (s : State) (ns : Nat) : Reservation := SMap.findD s.host.reservations ns Reservation.blank

/-- The record number of a host's registration. -/
def Reservation.find (r : Reservation) (host : Nat) : Option Nat :=
  (r.regs.zipIdx.find? fun x => x.1.valid && decide (x.1.host = host)).map (·.2)

/-- Whether a host may not run a command under a reservation: writes and reads by the type (base specification). -/
def Reservation.denies (r : Reservation) (host : Nat) (writes : Bool) : Bool :=
  let registered := (r.find host).isSome
  let holds := decide (r.holder ≠ 255) && decide (r.find host = some r.holder)
  match r.rtype with
  | 1 => writes && !holds
  | 2 => !holds
  | 3 | 5 => writes && !registered
  | 4 | 6 => !registered
  | _ => false

/-- An I/O command in conflict with its namespace's reservation (R356). -/
def resConflict (s : State) (c : CmdSlot) : Bool :=
  let r := reservationOf s c.cmd.nsid
  let host := (s.ctrl c.port).hostId
  if c.cmd.opcode ∈ [0x00, 0x01, 0x08, 0x09] then r.denies host true
  else if c.cmd.opcode ∈ [0x02, 0x0C] then r.denies host false
  else false

/-! ### Completions (R342, R344) -/

def cqFull (q : Cq) : Bool := decide ((q.tail + 1) % q.size = q.head)

/-- CAP (R334); the command sets are those of the base specification: the NVM Command Set. -/
def capRegister (k : Controller) : Nat :=
  0x0FFF + 1 * 2 ^ 16 + 0 * 2 ^ 17 + k.capTo * 2 ^ 24 + 0 * 2 ^ 32 + 1 * 2 ^ 36 + 1 * 2 ^ 37 + 0 * 2 ^ 48 + 0 * 2 ^ 52 + 0 * 2 ^ 56 + 0 * 2 ^ 57

/-- Entries that a queue may have: CAP.MQES counts from 0. -/
def queueMax (k : Controller) : Nat := capRegister k % 2 ^ 16 + 1

/-- MSI-X vectors of a port (R333). -/
def msixVectors : Nat := 65

/-- Interrupt coalescing (R342), by the features of the base specification: the aggregation threshold of an I/O queue's vector and the time
in 100 µs, none where the vector does not coalesce. -/
def coalescing (k : Controller) (qid vector : Nat) : Option (Nat × Nat) :=
  let v := SMap.findD k.features 0x08 0
  if qid = 0 ∨ fld v 15 8 = 0 ∨ bit (SMap.findD k.features (0x09 + 256 * vector) 0) 16 then none else some (v % 256 + 1, fld v 15 8)

/-- A posted completion interrupts, or waits with others for the threshold or the time. DESIGN CHOICE (log 82): the time is looked at when a
completion is posted. -/
def signal (s : State) (p : Port) (qid : Nat) (q : Cq) : State :=
  let start := if q.held = 0 then s.tick else q.heldTick
  let put (s : State) (n t : Nat) : State := s.modCtrl p fun k => { k with cqs := SMap.put k.cqs qid { q with held := n, heldTick := t } }
  if !q.interrupts then s
  else match coalescing (s.ctrl p) qid q.vector with
    | none => (put s 0 0).emit (.interrupt p q.vector)
    | some (n, t) =>
      if n ≤ q.held + 1 ∨ t * 2500 ≤ s.tick - start then (put s 0 0).emit (.interrupt p q.vector) else put s (q.held + 1) start

/-- Post one completion into a queue that has room. -/
def postNow (s : State) (p : Port) (qid : Nat) (q : Cq) (c : Completion) : State :=
  let q := { q with tail := (q.tail + 1) % q.size }
  let s := s.modCtrl p fun k => { k with cqs := SMap.put k.cqs qid q }
  let s := signal ((s.emit (.completion p qid c.cid c.sct c.sc c.dw0 c.dw1)).bump (Obj.commands (portNo p))) p qid q
  match c.slot with
  | some n => freeSlot s n
  | none => s

/-- Post a completion, or let it wait: for a free entry of its queue, or for the new code at the end of an activation freeze (R114). -/
def postCompletion (s : State) (p : Port) (qid : Nat) (c : Completion) : State :=
  match SMap.find (s.ctrl p).cqs qid with
  | none => match c.slot with
    | some n => freeSlot s n
    | none => s
  | some q =>
    if s.fw.frozen || cqFull q || !q.waiting.isEmpty then
      s.modCtrl p fun k => { k with cqs := SMap.put k.cqs qid { q with waiting := q.waiting ++ [c] } }
    else postNow s p qid q c

/-- A slot whose command has left its stall and is not yet checked. -/
def uncheckedSlot (s : State) : Option (Nat × CmdSlot) := s.host.slots.find? fun e => e.2.io && !e.2.stalled && !e.2.checked

/-- Commands that leave their stall are checked for Reservation Conflict; one in conflict completes at once (R356). -/
def settleLock : Nat → State → State
  | 0, s => s
  | fuel + 1, s =>
    match uncheckedSlot s with
    | none => s
    | some (n, c) =>
      let s := putSlot s n { c with checked := true }
      if resConflict s c then
        settleLock fuel (postCompletion (releaseOne s n) c.port c.cq ⟨c.cmd.cid, 0, 0x83, 0, 0, some n⟩)
      else settleLock fuel s

/-- The entry of a slot is released and what it held back proceeds. -/
def releaseEntry (s : State) (n : Nat) : State := settleLock 1024 (releaseOne s n)

/-- The command in a slot ends with a status: its entry is released and its completion posted. -/
def complete (s : State) (n sct sc : Nat) (dw0 : Nat := 0) (dw1 : Nat := 0) : State :=
  match s.slot n with
  | none => s
  | some c => postCompletion (releaseEntry s n) c.port c.cq ⟨c.cmd.cid, sct, sc, dw0, dw1, some n⟩

/-- Status codes (base specification 2.0c, by the names the spec uses). -/
def scOk : Nat × Nat := (0, 0)
def scInvalidOpcode : Nat × Nat := (0, 0x01)
def scInvalidField : Nat × Nat := (0, 0x02)
def scAbortRequested : Nat × Nat := (0, 0x07)
def scInvalidNamespace : Nat × Nat := (0, 0x0B)
def scHostIdInconsistent : Nat × Nat := (0, 0x18)
def scPreemptAbort : Nat × Nat := (0, 0x1B)
def scLbaRange : Nat × Nat := (0, 0x80)
def scNotReady : Nat × Nat := (0, 0x82)
def scReservationConflict : Nat × Nat := (0, 0x83)
def scCqInvalid : Nat × Nat := (1, 0x00)
def scQueueIdInvalid : Nat × Nat := (1, 0x01)
def scQueueSizeInvalid : Nat × Nat := (1, 0x02)
def scAbortLimit : Nat × Nat := (1, 0x03)
def scAerLimit : Nat × Nat := (1, 0x05)
def scFirmwareSlot : Nat × Nat := (1, 0x06)
def scFirmwareImage : Nat × Nat := (1, 0x07)
def scInvalidLogPage : Nat × Nat := (1, 0x09)
def scInvalidFormat : Nat × Nat := (1, 0x0A)
def scInvalidVector : Nat × Nat := (1, 0x08)
def scQueueDeletion : Nat × Nat := (1, 0x0C)
def scNotSaveable : Nat × Nat := (1, 0x0D)
def scOverlappingRange : Nat × Nat := (1, 0x14)
def scNsCapacity : Nat × Nat := (1, 0x15)
def scNsIdUnavailable : Nat × Nat := (1, 0x16)
def scNsAttached : Nat × Nat := (1, 0x18)
def scNsNotAttached : Nat × Nat := (1, 0x1A)
def scUnrecoveredRead : Nat × Nat := (2, 0x81)
def scDeallocated : Nat × Nat := (2, 0x87)

def completeWith (s : State) (n : Nat) (st : Nat × Nat) (dw0 : Nat := 0) (dw1 : Nat := 0) : State :=
  complete s n st.1 st.2 dw0 dw1

/-! ### Asynchronous events (R484) -/

/-- Dword 0 of an event request's completion: a vendor-specific event that names a log page; an I/O command specific one for the
Reservation Notification page; the notice Firmware Activation Starting, which names the Firmware Slot Information page. -/
def noticeDword (page : Nat) : Nat := (if page = 0x80 then 6 else if page = 0x03 then 0x102 else 7) + page * 2 ^ 16

/-- Give the oldest notice to the oldest event request that waits. -/
def giveNotices : Nat → State → Port → State
  | 0, s, _ => s
  | fuel + 1, s, p =>
    match (s.ctrl p).aers, (s.ctrl p).notices with
    | cid :: aers, page :: notices =>
      let s := s.modCtrl p fun k => { k with aers := aers, notices := notices }
      giveNotices fuel (postCompletion (s.emit (.asyncEvent p cid page)) p 0 ⟨cid, 0, 0, noticeDword page, 0, none⟩) p
    | _, _ => s

/-- A notice naming a log page, on every controller that enables vendor-specific events. -/
def asyncNotice (s : State) (page : Nat) : State :=
  s.each [Port.a, Port.b] fun s p =>
    if (s.ctrl p).en && Config.vendorEvents (SMap.findD (s.ctrl p).features 0x0B 0) then
      let s := s.modCtrl p fun k => { k with notices := if k.notices.contains page then k.notices else k.notices ++ [page] }
      giveNotices 8 s p
    else s

/-- An activation freeze begins (R362): CSTS.PP reads 1, and the notice Firmware Activation Starting is posted where it is enabled. -/
def activationNotice (s : State) : State :=
  s.each [Port.a, Port.b] fun s p =>
    let s := s.modCtrl p fun k => { k with pp := true }
    if (s.ctrl p).en && bit (SMap.findD (s.ctrl p).features 0x0B 0) 9 then
      giveNotices 8 (s.modCtrl p fun k => { k with notices := if k.notices.contains 3 then k.notices else k.notices ++ [3] }) p
    else s

/-- The freeze is over: CSTS.PP reads 0 (R362). -/
def activationResumes (s : State) : State := s.each [Port.a, Port.b] fun s p => s.modCtrl p fun k => { k with pp := false }

/-- The heads are on the ramp: a normal shutdown that waited for it is complete (R361). -/
def finishShutdown (s : State) : State :=
  s.setHost { s.host with ctrls := s.host.ctrls.map fun c => if c.shutdown = 3 then { c with shutdown := 1, shst := 2 } else c }

end Sys2Proof.Machine
end

