-- ==== Sys2Proof/Machine/Ledger.lean ====
section
/-!
DEFINITION. Classification, first-error capture and the event ledger (R466–R484). The collectors' reactions stand in
Machine/Collector.lean.
-/

namespace Sys2Proof.Machine

def State.setColl (s : State) (c : Collector) : State := { s with coll := c }

/-! ### Sources (R466, R468) -/

/-- The entry of a source as it stands. -/
def sourceNow (s : State) (id : Nat) : SourceEntry :=
  let b := s.str (0x710000 + id)
  { id := id, level := byteAt b 2, severity := byteAt b 3, reaction := byteAt b 4, trip := byteAt b 5
    threshold := fieldAt b 6 2, window := fieldAt b 8 4 }

/-- The bucket of an event: its source's, and for an SRAM macro that of its row (R439, R468). -/
def bucketKey (ev : Event) : Nat := if 704 ≤ ev.source then ev.source + 2048 * (ev.unit + 1) else ev.source

/-- The level of a bucket just before an event now (R468): it has leaked since the previous one. -/
def leakedLevel (s : State) (k window : Nat) : Nat :=
  match SMap.find s.coll.buckets k with
  | some (l, t) => l - 65536 * (s.tick - t) / (25000000 * max window 1)
  | none => 0

/-- The level reached by an event, bounded to 32 bits, and whether the source trips. -/
def bucketAfter (s : State) (e : SourceEntry) (k : Nat) : Nat × Bool :=
  let l := min (leakedLevel s k e.window + 65536) (2 ^ 32 - 1)
  (l, decide (0 < e.threshold) && decide ((e.threshold - 1) * 65536 < l))

/-- Region collector of a source (R7, R466, R473): 0 H, 1 B, 2 D, 3–6 A0–A3, 7 S, 8 chip. DESIGN CHOICE (log 70): the chip's own sources 0 to 31
and the time base's, 42, reach the chip collector alone, though the time base stands in region S. -/
def regionOf (id : Nat) : Nat :=
  if 704 ≤ id then (Config.macroRegion (id - 704)).val
  else if 448 ≤ id then 3 + (id - 448) / 64
  else if 384 ≤ id then 1
  else if 352 ≤ id then 7
  else if 320 ≤ id then
    let l := (id - 320) % 16
    if l < 4 then 0 else if l < 6 then 2 else if l < 14 then 3 + (l - 6) / 2 else 7
  else if 256 ≤ id then 2
  else if 160 ≤ id then 1
  else if 96 ≤ id then 0
  else if id = 42 ∨ id < 32 then 8
  else 7

/-! ### First-error capture (R473) -/

/-- Capture r receives an event. -/
def capture (s : State) (r : Nat) (ev : Event) : State :=
  let now := s.tick
  s.setColl { s.coll with captures := vmod s.coll.captures r fun c =>
    if c.frozen then { c with later := min (c.later + 1) (2 ^ 32 - 1) } else ⟨true, ev, now, 0⟩ }

/-- Every collector on the event's path captures it. -/
def captureAll (s : State) (ev : Event) : State :=
  let r := regionOf ev.source
  if r = 8 then capture s 8 ev else capture (capture s r ev) 8 ev

/-- An event is counted, captured and put into its bucket; a trip empties the bucket (R468, R469, R473). The level it reached, whether it
tripped, and the state. -/
def countEvent (s : State) (ev : Event) : (Nat × Bool) × State :=
  let k := bucketKey ev
  let r := bucketAfter s (sourceNow s ev.source) k
  let now := (if r.2 then 0 else r.1, s.tick)
  let s := (captureAll s ev).bump Obj.eventsTotal
  let s := s.setColl { s.coll with buckets := SMap.put (SMap.put s.coll.buckets k now) ev.source now }
  (r, if r.2 then s.bump Obj.trips else s)

/-- FIRST_ERROR as bytes (R473). -/
def captureBytes (c : Capture) : List Byte :=
  if c.frozen then
    leBytes 8 c.event.address ++ [BitVec.ofNat 8 (c.event.master % 64), BitVec.ofNat 8 c.event.access] ++
    leBytes 2 c.event.source ++ leBytes 4 c.event.syndrome ++ leBytes 8 c.tick ++ leBytes 4 c.later ++ leBytes 4 0
  else List.replicate 32 0

/-! ### Records (R478–R480) -/

/-- Kinds and actions. -/
def kEvent : Nat := 0
def kTrip : Nat := 1
def kSafe : Nat := 2
def kClear : Nat := 3
def actLog : Nat := 0
def actRetry : Nat := 1
def actFence : Nat := 2
def actDegrade : Nat := 3
def actSafe : Nat := 4
def actRetire : Nat := 5
def actRepair : Nat := 6
def actNone : Nat := 7

def Record.severity (r : Record) : Nat := r.cls % 4

/-- CLASS of a record. -/
def clsOf (severity level action : Nat) : Nat := severity + 4 * level + 16 * action

/-- The 64 bytes of a record, MARK last. -/
def Record.bytes (r : Record) : List Byte :=
  leBytes 8 r.seq ++ leBytes 2 r.source ++ [BitVec.ofNat 8 r.kind, BitVec.ofNat 8 r.cls] ++ leBytes 2 r.rep ++
  [BitVec.ofNat 8 r.port, 0] ++ leBytes 8 r.address ++ [BitVec.ofNat 8 r.master, BitVec.ofNat 8 r.access] ++
  leBytes 2 r.unit ++ leBytes 4 r.bucket ++ leBytes 8 r.detail ++ leBytes 8 r.detail2 ++ leBytes 8 r.startSeq ++ leBytes 4 0 ++
  leBytes 4 (0xA5C30000 + r.seq % 65536)

/-- RECORD_SEQ of the current start-ledger record. -/
def currentStartSeq (s : State) : Nat := ((s.start.ledger.getLast?).map (·.seq)).getD 0

/-- The slot a record of a severity takes (R479): the lowest free one, else the one with the lowest SEQ among those of equal or
lower severity. -/
def recordSlot (m : SMap Record) (severity : Nat) : Option Nat :=
  if m.length < 4096 then (List.range 4096).find? fun i => (SMap.find m i).isNone
  else
    (m.filter fun e => decide (e.2.severity ≤ severity)).foldl (fun best e => match best with
      | some b => match SMap.find m b with
        | some r => if e.2.seq < r.seq then some e.1 else best
        | none => some e.1
      | none => some e.1) none

/-- RECORDS, NEWEST_SEQ and NEWEST_SEQ_LO follow the ledger (R485). -/
def countRecords (s : State) : State :=
  let s := s.setNum Obj.records s.coll.ledger.length
  (s.setNum Obj.newestSeq s.coll.newestSeq).setNum Obj.newestSeqLo (s.coll.newestSeq % 2 ^ 32)

/-- The slot of the record that an EVENT record folds into (R480): its source's last record, still among the 64 highest SEQs, of
KIND EVENT and the same UNIT, with REPEAT below 65,535. -/
def foldSlot (s : State) (r : Record) : Option Nat :=
  let m := s.coll.ledger
  let mine := m.filter fun e => decide (e.2.source = r.source)
  let last := mine.foldl (fun best e => match best with
    | some (b : Nat × Record) => if b.2.seq < e.2.seq then some e else best
    | none => some e) none
  match last with
  | some (i, x) =>
    let above := (m.filter fun e => decide (x.seq < e.2.seq)).length
    if r.kind = kEvent ∧ x.kind = kEvent ∧ x.unit = r.unit ∧ x.rep < 65535 ∧ above < 64 then some i else none
  | none => none

/-- A record of severity 2 or 3 posts a notice naming log page 0xD0 (R484). -/
def recordNotice (s : State) (severity : Nat) : State := if 2 ≤ severity then asyncNotice s 0xD0 else s

/-- The SEQ of a new record (R483). -/
def nextSeq (s : State) : Nat := max (s.coll.newestSeq + 1) (s.num Obj.powerOnCount * 2 ^ 32)

/-- Write a record into the restored ledger. -/
def appendRecord (s : State) (r : Record) : State :=
  match foldSlot s r with
  | some i => s.setColl { s.coll with
      ledger := SMap.mod s.coll.ledger i fun x => { x with rep := x.rep + 1 }, changed := true }
  | none =>
    match recordSlot s.coll.ledger r.severity with
    | none => s.bump (Obj.dropsSev r.severity)
    | some i =>
      let seq := nextSeq s
      let s := s.setColl { s.coll with
        ledger := SMap.put s.coll.ledger i { r with seq := seq }, newestSeq := seq, changed := true }
      recordNotice (countRecords s) r.severity

/-- LEDGER_RECORD_WRITE (R472, R479): until the ledger is restored at "core release" the start controller holds up to 64. -/
def writeRecord (s : State) (r : Record) : State :=
  let r := { r with startSeq := currentStartSeq s }
  if s.coll.restored then appendRecord s r
  else if s.coll.held.length < 64 then s.setColl { s.coll with held := s.coll.held ++ [r] }
  else s.bump (Obj.dropsSev r.severity)

/-- A record of an event. -/
def eventRecord (ev : Event) (kind severity level action bucket : Nat) : Record where
  seq := 0
  source := ev.source
  kind := kind
  cls := clsOf severity level action
  rep := 0
  port := 0
  address := ev.address
  master := ev.master % 64
  access := ev.access
  unit := ev.unit % 65536
  bucket := bucket
  detail := ev.detail
  detail2 := ev.syndrome
  startSeq := 0

/-! ### Clearing, mirroring, merging (R482, R483) -/

/-- Drop counters to zero (R481). -/
def zeroDrops (s : State) : State := s.each [0, 1, 2, 3] fun s i => s.setNum (Obj.dropsSev i) 0

/-- Remove every record with SEQ up to v, and write the CLEAR record that names the range and the port (R482). -/
def clearLedger (s : State) (v port : Nat) : State :=
  let gone := s.coll.ledger.filter fun e => decide (e.2.seq ≤ v)
  let lowest := gone.foldl (fun m e => if m = 0 ∨ e.2.seq < m then e.2.seq else m) 0
  let all := decide (v = s.coll.newestSeq)
  let s := s.setColl { s.coll with ledger := s.coll.ledger.filter fun e => decide (v < e.2.seq), changed := true }
  let s := if all then zeroDrops s else s
  let s := { s with dict := { s.dict with gens := SMap.put s.dict.gens Obj.eventLedger (SMap.findD s.dict.gens Obj.eventLedger 0 + 1) } }
  writeRecord (countRecords s)
    { eventRecord { source := 37, access := 0 } kClear 3 lvRegion actNone 0 with port := port, detail := lowest, detail2 := v }

/-- LEDGER_MIRROR starts into the older NOR copy (R483); one that runs goes on. -/
def startMirror (s : State) : State :=
  match s.coll.mirroring with
  | some _ => s
  | none => s.setColl { s.coll with mirroring := some s.coll.ledger, changed := false }

/-- Put a record into a list in SEQ order; one with the same SEQ is there already (R483). -/
def insertSeq (r : Record) : List Record → List Record
  | [] => [r]
  | x :: l => if r.seq < x.seq then r :: x :: l else if r.seq = x.seq then x :: l else x :: insertSeq r l

/-- Records in SEQ order, deduplicated by SEQ. -/
def bySeq (l : List Record) : List Record := l.foldl (fun acc r => insertSeq r acc) []

/-- Merge copies (R483): deduplicated by SEQ, without what the highest CLEAR_UPTO of any CLEAR record removed, kept under R479. -/
def mergeCopies (copies : List (SMap Record)) : SMap Record :=
  let l := bySeq (copies.flatMap fun c => c.map (·.2))
  let upto := (l.filter fun r => decide (r.kind = kClear)).foldl (fun m r => max m r.detail2) 0
  (l.filter fun r => decide (upto < r.seq)).foldl (fun m r => match recordSlot m r.severity with
    | some i => SMap.put m i r
    | none => m) []

/-- The ledger is restored, and the held records are appended in arrival order (R472, R483). -/
def restoreLedger (s : State) : State :=
  let m := mergeCopies (s.coll.norCopies.toList ++ [s.coll.ledger])
  let top := m.foldl (fun t e => max t e.2.seq) 0
  let held := s.coll.held
  let s := countRecords (s.setColl { s.coll with ledger := m, newestSeq := top, restored := true, held := [] })
  s.each held fun s r => appendRecord s r

end Sys2Proof.Machine
end

