-- ==== Sys2Proof/Machine/MainReset.lean ====
section
/-!
DEFINITION. The reset of the main die (R86), the start ledger's record of the running attempt (R96, R97), and how an attempt ends.
-/

namespace Sys2Proof.Machine

def State.setStart (s : State) (t : Start) : State := { s with start := t }
def State.setPower (s : State) (p : Power) : State := { s with power := p }
def State.setMem (s : State) (m : Memory) : State := { s with mem := m }
def State.setLayout (s : State) (l : Layout) : State := { s with layout := l }
def State.setFw (s : State) (f : Firmware) : State := { s with fw := f }
def State.setMedia (s : State) (m : Media) : State := { s with media := m }

/-! ### Reset of the main die (R86) -/

/-- Spindle modes (R290). -/
def smOff : Nat := 0
def smAlign : Nat := 1
def smRamp : Nat := 2
def smAccel : Nat := 3
def smHold : Nat := 4
def smRein : Nat := 5
def smBrake : Nat := 6
def smRectify : Nat := 7
def smFault : Nat := 8

/-- FORCE of an actuator: it keeps what was written since the start sequence began, through its failed attempts (R78). -/
def isForce (k : Key) : Bool := [0, 1, 2, 3].any fun a => decide (k = Obj.actuatorForce a)

/-- A start sequence begins: FORCE reads its default, no ENABLE has been written (R78, R80), DRIVE_FAULT is clear, the bridges that an
overcurrent opened or held are released (R299, R300, R306), a spindle in FAULT may be started again (R296), and FORMAT_RPM is to be taken
up (R294). -/
def freshSequence (s : State) : State :=
  let s := { s with
    objs := s.objs.filter fun e => !isForce e.1, start := { s.start with enables := [] }
    motion := { s.motion with vcmOpen := .replicate 4 false, maHeld := .replicate 4 false, rpmTaken := false } }
  let s := if s.num Obj.spinMode = smFault then s.setNum Obj.spinMode smOff else s
  s.each [0, 1, 2, 3] fun s a => s.setNum (Obj.driveFault a) 0

/-- Objects that a reset of the main die leaves: those of the motion die, the start controller and the time base, FORCE, GROWN_COUNT, and
those kept in NOR, fuses or the sealed key area as they change (R78, R86, R306, R102, R108, R109, R124, R129, R153, R420). DESIGN CHOICE
(log 18): FAILED_STARTS and ALT_FORCE keep their values across a rail cut. -/
def keptObj (k : Key) : Bool :=
  (decide (0x600000 ≤ k) && decide (k < 0x610000)) || (decide (0x140000 ≤ k) && decide (k < 0x140200)) ||
  isForce k || (decide (k / 0x100 % 0x100 = 4) && decide (k / 0x10000 ∈ [0x40, 0x41, 0x42, 0x43])) ||
  decide (k = Obj.tick) || decide (k = Obj.safeEntries) || decide (k = Obj.chunksRebuilt) ||
  decide (k = Obj.patrolPass) || decide (k = Obj.patrolNext) || decide (k = Obj.stripeGen) ||
  (decide (0x111000 ≤ k) && decide (k < 0x111200) && decide (3 ≤ k % 256)) || (decide (0x123002 ≤ k) && decide (k < 0x123003)) || (decide (0x124100 ≤ k) && decide (k < 0x126100))

/-- Host-interface state after a reset: namespaces and the persisted reservations stay, and the pins and links (R93). DESIGN CHOICE
(log 83): CC.EN and what a controller held are lost with the reset of the main die, also between two attempts while its link stays up. -/
def HostIf.afterReset (h : HostIf) : HostIf :=
  { HostIf.reset with
    ctrls := h.ctrls.map fun c => { Controller.reset with perst := c.perst, linkUp := c.linkUp }
    namespaces := h.namespaces, resCopies := h.resCopies, sanitize := h.sanitize }

/-- Layout state after a reset: what the mirrors and the medium hold (R386–R388, R420). -/
def Layout.afterReset (l : Layout) : Layout :=
  { l with
    bundleMaps := [], dirtyGroups := [], touchedGroups := [], journal := [], pinned := [], replayQueue := [], resyncQueue := []
    criticalDone := [], critFront := [], reshapeHold := false, mirrorWaiting := [], staleFilled := [], halfDone := []
    jobs := l.jobs.map fun j => { j with
      watermark := (SMap.findD l.savedJobs j.surface (0, 0)).1, done := (SMap.findD l.savedJobs j.surface (0, 0)).2 } }

/-- Firmware state after a reset: what NOR, the fuses, the sealed key area and the medium hold. -/
def Firmware.afterReset (f : Firmware) : Firmware :=
  { Firmware.reset with
    slots := f.slots.map fun x => if x.state = 3 then { x with state := 2 } else x
    coreImage := f.coreImage, control := f.control, bundleCopies := f.bundleCopies, mfg := f.mfg, dep := f.dep, lifecycleRecord := f.lifecycleRecord
    nonceCount := f.nonceCount, ownerKey := f.ownerKey, identity := f.identity, destroyed := f.destroyed, nsKeys := f.nsKeys
    erasing := f.erasing, formats := f.formats, chosenSlot := f.chosenSlot, chosenPending := f.chosenPending }

/-- The main die is reset, except for the start controller, the time base and the event ledger (R86). DESIGN CHOICE (log 83): a store
that is being committed and the record stores that wait are lost with it, as R63 says of a power loss. -/
def mainReset (s : State) : State :=
  { s with
    objs := s.objs.filter fun e => keptObj e.1
    dict := { DictSvc.reset with copies := s.dict.copies, gens := s.dict.gens.filter fun e => keptObj e.1 || decide (e.1 = Obj.directory) }
    fw := s.fw.afterReset
    media := { s.media with grownPending := [], moving := none }
    chan := .replicate 4 Channel.reset
    dec := Decode.reset
    players := .replicate 8 Player.reset
    acts := .replicate 4 Actuator.reset
    engines := State.reset.engines
    groups := .replicate 5 Group.reset
    traces := .replicate 4 ⟨[], 0, 0, 0, false⟩
    girth := Girth.reset
    host := s.host.afterReset
    layout := s.layout.afterReset
    mem := { Memory.reset with
      dram := s.mem.dram, poison := s.mem.poison, written := s.mem.written, keeper := s.mem.keeper
      keeperChosen := none }
    fab := Fabric.reset
    coll := { s.coll with buckets := [], readmitting := [], fenced := [], captures := Collector.reset.captures }
    raised := []
    power := { s.power with faultOutLow := false }
    start := { s.start with inReset := true, running := false, step := 0, passedSteps := 0, altSteps := 0 } }

/-- FAULT_OUT_N is held low. -/
def faultOut (s : State) : State := s.setPower { s.power with faultOutLow := true }

/-! ### The units and the slot of an attempt (R87, R89, R104, R135) -/

/-- The step uses its alternative in this attempt (R87). -/
def stepAlt (s : State) (w : Nat) : Bool := bit s.start.history w || bit s.start.forced w

def setDegraded (s : State) (i : Nat) (b : Bool) : State := s.setNum Obj.degraded (putBit (s.num Obj.degraded) i b)

def leftOut (s : State) (a : Nat) : Bool := bit (s.num Obj.degraded) a

/-- Actuator a is present (R135). -/
def actPresent (s : State) (a : Nat) : Bool := decide (s.num (Obj.surfaceMask a) ≠ 0)

/-- Actuators that a start brings up: present, not retired, not left out. -/
def startActs (s : State) : List Nat :=
  [0, 1, 2, 3].filter fun a => actPresent s a && !leftOut s a && decide (s.num (Obj.actuatorState a) ≠ stRetired)

/-- Both players of an actuator are retired (R244). -/
def playersRetired (s : State) (a : Nat) : Bool :=
  decide (s.num (Obj.playerState (2 * a)) = stRetired) && decide (s.num (Obj.playerState (2 * a + 1)) = stRetired)

/-- A rein group runs (R282): it is TRIPLE or PAIR, not idle or parked. -/
def groupRuns (s : State) (g : Nat) : Bool := decide (s.num (Obj.groupState g) = 1) || decide (s.num (Obj.groupState g) = 2)

/-- The newest copy of the slot-control record: ACTIVE_SLOT and PENDING_SLOT (R104). -/
def slotControl (s : State) : Nat × Nat × Nat :=
  let a := s.fw.control[0]
  let b := s.fw.control[1]
  if a.1 < b.1 then b else a

def activeSlot (s : State) : Nat := (slotControl s).2.1
def pendingSlot (s : State) : Nat := (slotControl s).2.2

/-- An update overwrites the older copy. -/
def setControl (s : State) (active pending : Nat) : State :=
  let older := if s.fw.control[0].1 < s.fw.control[1].1 then 0 else 1
  s.setFw { s.fw with control := vmod s.fw.control older fun _ => ((slotControl s).1 + 1, active, pending) }

/-- The slot that runs in this attempt (R104): the chosen one, or the other under the alternative of step 4 or 5. -/
def slotInUse (s : State) : Nat := if stepAlt s 4 || stepAlt s 5 then 1 - s.fw.chosenSlot else s.fw.chosenSlot

/-- Step 4 or 5 fails on the pending slot (R104): PENDING_SLOT is cleared, and an event is raised. -/
def pendingFails (s : State) (step : Nat) : State :=
  if (step = 4 ∨ step = 5) ∧ s.fw.chosenPending ∧ slotInUse s = s.fw.chosenSlot ∧ pendingSlot s ≠ 0xFF then
    (setControl s (activeSlot s) 0xFF).raise 66 0 (slotInUse s)
  else s

/-! ### The record of the running attempt (R96, R97) -/

/-- Change the newest record, unless it is sealed. -/
def modRecord (s : State) (f : StartRecord → StartRecord) : State :=
  match s.start.ledger.getLast? with
  | some r => if r.mark then s else s.setStart { s.start with ledger := s.start.ledger.dropLast ++ [f r] }
  | none => s

/-- Milliseconds since the beginning of the start sequence (R85). -/
def elapsedMs (s : State) : Nat := (s.tick - s.start.tick0) / 25000

/-- Actuators of the running attempt that have not what its step asks of them (R91, R96): identified at step 13, loaded at 14, and at 15
tracking, with a player in service. -/
def actsLacking (s : State) : List Nat :=
  (startActs s).filter fun a => match s.start.step with
    | 13 => decide (s.num (Obj.preampState a) ≠ 2)
    | 14 => decide (s.num (Obj.driveState a) ≠ 2)
    | 15 => !groupRuns s a || playersRetired s a
    | _ => false

/-- FAIL_DETAIL as far as the state decides it (R96). -/
def stateDetail (s : State) : Nat := match s.start.step with
  | 4 | 5 => slotInUse s
  | _ => (actsLacking s).foldl (fun m a => setBit m a) 0

/-- STEP_RESULT codes (R96). -/
def srFailed : Nat := 0
def srWatchdog : Nat := 1
def srInterrupted : Nat := 2
def srSkipped : Nat := 3
def srAlternative : Nat := 4
def srPassed : Nat := 5

def stepResult (s : State) (step code : Nat) : State :=
  modRecord s fun r => { r with results := vmod r.results (step - 1) fun _ => code }

/-- The attempt ends: the fields not yet programmed take their none values, then CRC and MARK (R97). A start that ends in ROM_MAINTENANCE
has ATTEMPT 0 (R96). -/
def sealRecord (s : State) (endCode failedStep detail : Nat) : State :=
  let ms := elapsedMs s
  let deg := s.num Obj.degraded
  let s := s.setStart { s.start with interruptedAt := 0 }
  modRecord s fun r => { r with
    attempt := if endCode = 4 then 0 else r.attempt
    endCode := some endCode, failedStep := some failedStep, failDetail := some detail, elapsedMs := some (ms % 2 ^ 32)
    imageSlot := some (r.imageSlot.getD 0xFF), degraded := some deg, imageVersion := some (r.imageVersion.getD 0)
    bundleGen := some (r.bundleGen.getD 0), mark := true }

end Sys2Proof.Machine
end

