-- ==== Sys2Proof/Machine/Drive.lean ====
section
/-!
DEFINITION. What happens to an actuator as a whole: retract, fence, park, a faulted preamp; and the entry to the safe state
(R183, R262, R299, R301, R303, R304, R476).
-/

namespace Sys2Proof.Machine

def State.setMotion (s : State) (m : Motion) : State := { s with motion := m }

/-- DRIVE_STATE values (R307). -/
def dvOff : Nat := 0
def dvLoading : Nat := 1
def dvServo : Nat := 2
def dvRetracting : Nat := 3
def dvParked : Nat := 4

/-- The heads of actuator a are off the ramp under the drive (R303). -/
def loaded (s : State) (a : Nat) : Bool :=
  decide (s.num (Obj.driveState a) = dvLoading) || decide (s.num (Obj.driveState a) = dvServo)

/-- A retract of actuator a starts (R303, R304), unless it is retracting or parked already or its bridge is latched open. -/
def retract (s : State) (a : Nat) : State :=
  let d := s.num (Obj.driveState a)
  if d = dvRetracting ∨ d = dvParked ∨ vget s.motion.vcmOpen a false then s
  else
    let s := s.setMotion { s.motion with
      retract := vmod s.motion.retract a fun _ => .slowing, retractMs := vmod s.motion.retractMs a fun _ => 0
      vcm := vmod s.motion.vcm a fun _ => 0, ma := vmod s.motion.ma a fun _ => 0
      drives := vmod s.motion.drives a fun _ => (s.num Obj.retractBemfMv, s.num Obj.retractMa, s.num Obj.parkHoldMa) }
    (s.setNum (Obj.driveState a) dvRetracting).bump (Obj.retracts a)

def retractLoaded (s : State) : State := s.each [0, 1, 2, 3] fun s a => if loaded s a then retract s a else s

/-- Latch a bit of DRIVE_FAULT. -/
def driveFault (s : State) (a i : Nat) : State := s.setNum (Obj.driveFault a) (setBit (s.num (Obj.driveFault a)) i)

/-- Speed within a percentage of the target, in thousandths. -/
def speedNear (s : State) (perMille : Nat) : Bool :=
  let t := s.num Obj.targetRpm * 1024
  let v := s.num Obj.speed
  decide (((v : Int) - t).natAbs * 1000 ≤ t * perMille)

/-- AT_SPEED and PHASE_LOCKED report the latched STATUS bits of the spindle group (R295); PHASE_LOCKED reads 0 while a change of target
runs (R293), which is while the speed is more than 1 % off its target (R290). -/
def showStatus (s : State) : State :=
  let st := (SMap.findD (s.groupOf 4).latched 0x24 0).toNat
  (s.setNum Obj.atSpeed (st % 2)).setNum Obj.phaseLocked (if speedNear s 10 then st / 2 % 2 else 0)

/-- The spindle is in a mode; AT_SPEED and PHASE_LOCKED read 0 outside REIN (R295). -/
def spinTo (s : State) (mode : Nat) : State :=
  let s := s.setNum Obj.spinMode mode
  if mode = smRein then showStatus s else (s.setNum Obj.atSpeed 0).setNum Obj.phaseLocked 0

/-- The spindle group stops driving: REIN becomes HOLD (R290). -/
def spinHold (s : State) : State := if s.num Obj.spinMode = smRein then spinTo s smHold else s

/-- The group takes the spindle over: HOLD becomes REIN while the group is TRIPLE or PAIR, once "servo acquisition" has passed (R290). -/
def spinRein (s : State) : State :=
  if s.num Obj.spinMode = smHold ∧ groupRuns s 4 ∧ bit s.start.passedSteps 15 then spinTo s smRein else s

/-- A spin-up that waits for its retracts or for standstill is given up. -/
def spinCancel (s : State) : State := s.setMotion { s.motion with spinWaitsPark := false, spinWaitsStill := false }

/-- The spindle is stopped through BRAKE (R297), and a spin-up that waits is given up. -/
def spinStop (s : State) : State :=
  let s := spinCancel (s.setNum Obj.targetRpm 0)
  let m := s.num Obj.spinMode
  if m = smOff ∨ m = smFault then s else spinTo s smBrake

/-- Present surfaces of actuator a. -/
def surfacesOfAct (s : State) (a : Nat) : List Nat := (List.range 12).map (12 * a + ·) |>.filter (present s)

/-- A surface changes state, which log page 0xD1 shows (R394, R421). -/
def surfaceTo (s : State) (u st : Nat) : State :=
  (s.setNum (Obj.surfaceState u) st).setLayout { s.layout with healthGen := s.layout.healthGen + 1 }

/-- The surfaces of an actuator count as failed members, or are good again (R394). -/
def surfacesFail (s : State) (a : Nat) : State :=
  s.each (surfacesOfAct s a) fun s u => if s.num (Obj.surfaceState u) = 1 then surfaceTo s u 2 else s
def surfacesGood (s : State) (a : Nat) : State :=
  s.each (surfacesOfAct s a) fun s u => if s.num (Obj.surfaceState u) = 2 then surfaceTo s u 1 else s

/-- The players follow their actuator (R244). -/
def followPlayers (s : State) (a : Nat) : State :=
  let running := decide (s.num (Obj.actuatorState a) = stRunning)
  s.each [2 * a, 2 * a + 1] fun s p =>
    if 3 ≤ s.num (Obj.playerState p) then s
    else s.setNum (Obj.playerState p) (if running then stRunning else stQuiesced)

/-- The STATE of an actuator; its players and surfaces follow it. -/
def setActuator (s : State) (a st : Nat) : State :=
  let s := followPlayers (s.setNum (Obj.actuatorState a) st) a
  if st = stRunning then surfacesGood s a else s

/-- The STATE of actuator a is FENCED, unless it is RETIRED. -/
def markFenced (s : State) (a : Nat) : State :=
  if s.num (Obj.actuatorState a) < stFenced then s.setNum (Obj.actuatorState a) stFenced else s

/-- Actuator a is FENCED; its sentences end with an outcome, and its surfaces count as failed members. -/
def fenceActuator (s : State) (a : Nat) (o : Outcome) : State := surfacesFail (followPlayers (stopPlayers (markFenced s a) a o) a) a

/-- Actuator a is FENCED by the safe state (R241, R476): a sentence that plays is asked to end at its next clause boundary. -/
def fenceAborting (s : State) (a : Nat) : State := surfacesFail (followPlayers (abortPlayers (markFenced s a) a) a) a

/-- Actuator a is parked (R262): fenced, and the motion die retracts its heads. -/
def parkActuator (s : State) (a : Nat) : State := retract (fenceActuator s a .fault) a

/-- The V3P3_PAa switch opens or closes (R39, V3P3_ENABLE). -/
def preampSwitch (s : State) (a : Nat) (on : Bool) : State := s.setNum Obj.v3p3Enable (putBit (s.num Obj.v3p3Enable) a on)

/-- The consequences of a faulted preamp (R183). -/
def preampFaulted (s : State) (a : Nat) : State :=
  preampSwitch (parkActuator (s.setNum (Obj.preampState a) 3) a) a false

/-- PREAMP_FAULT_PERSIST (R183): PAa_FAULT_N stays low for 1 ms after the clear. -/
def execPreampFaultPersist (a : Fin 4) (s : State) : Host.Outcome State Fault Refusal :=
  if (s.chanOf a.val).faultLow then .next (preampFaulted s a.val) else .next s

/-- V3P3_OVERCURRENT (R39): the switch opens, an event is raised, and the actuator behaves as one whose preamp has faulted. -/
def execV3p3Overcurrent (a : Fin 4) (s : State) : Host.Outcome State Fault Refusal :=
  if bit (s.num Obj.v3p3Enable) a.val then .next ((preampFaulted s a.val).raiseAct a.val 1 a.val) else .next s

/-! ### Gates, lasers and heaters off (R40 step 2, R301, R476) -/

/-- A HEATER 0 frame at the head of a preamp queue. -/
def heaterZero (s : State) (a : Nat) : State :=
  if formatSelected s a then
    let f : PreampFrame := { priority := 0, reg := (preampRegs s a).heater, data := some 0, verify := false, tries := 0 }
    sendNext (s.modChan a fun c => { c with frames := f :: c.frames, heaterSent := 0 }) a
  else s

/-- Write gates forced off on every actuator, lasers to zero, HEATER 0 first (R476 step 2, R40 step 2). -/
def gatesOff (s : State) : State := s.each [0, 1, 2, 3] fun s a => heaterZero (assertWu s a .chip) a

/-! ### The end of a failed attempt (R86, R88) -/

/-- The motion die is told of a reset of the main die (R286): supervision is disarmed for the notified length plus 50 ms. DESIGN CHOICE
(log 80): the length notified is 500 ms. -/
def sendResetNotice (s : State) : State :=
  let s := s.emit (.link "RESET_NOTICE" [500000])
  (s.setNum Obj.heartbeatArmed 0).setMotion { s.motion with notice := some 500000 }

/-- What every end of an attempt does but to its record: gates off, heads retracted, preamp switches open, the spindle at speed or, after
"spin-up", stopped, and the main die reset. -/
def endAttempt (s : State) (stopSpindle : Bool) : State :=
  let s := gatesOff s
  let s := s.each [0, 1, 2, 3] fun s a => stopPlayers s a .aborted
  let s := retractLoaded s
  let s := s.each [0, 1, 2, 3] fun s a => preampSwitch s a false
  let s := if stopSpindle then spinStop s else spinHold s
  mainReset (sendResetNotice s)

/-- HALTED (R99): no port receives, FAULT_OUT_N is low. Only a power cycle leaves it, so the notice of the reset that ended the attempt is
not left to expire (log entry 63); the spindle is never started, so no spin-up is left waiting. -/
def halt (s : State) : State :=
  let s := spinCancel (s.setMotion { s.motion with notice := none })
  faultOut (s.setStart { s.start with mode := .halted, running := false, step := 0 })

/-- ROM_MAINTENANCE (R99). -/
def romMaintenance (s : State) : State :=
  faultOut (s.setStart { s.start with mode := .romMaintenance, running := false, step := 0 })

/-- The events held for the ledger outlive the reset: the start controller keeps them (R472). -/
def holdRaised (s : State) (ev : List Event) : State := { s with raised := s.raised ++ ev }

/-- MAINTENANCE_ENTRY (R98): the spindle is stopped, the heads go to the ramp, the preamp switches are off, FAULT_OUT_N is low; an event is
raised. -/
def maintenanceEntry (s : State) : State :=
  let s := spinStop (s.setStart { s.start with maintenance := true })
  let s := retractLoaded s
  (faultOut (s.each [0, 1, 2, 3] fun s a => preampSwitch s a false)).raise 74

/-- A running attempt fails at its step (R86, R88): FAILED_STARTS counts it, its step enters the history, and at 3, or at the deadline, the
sequence goes on in MAINTENANCE. In a MAINTENANCE start the device enters ROM_MAINTENANCE (R98). -/
def failAttempt (s : State) (code detail : Nat) (deadline : Bool := false) : State :=
  let step := s.start.step
  let s := pendingFails (stepResult s step code) step
  let s := (s.setNum Obj.failedStarts (min 3 (s.num Obj.failedStarts + 1))).raise 72 0 step
  let wasMaint := s.start.maintenance
  let s := sealRecord s (if wasMaint then 4 else if deadline then 2 else 1) step detail
  let raised := s.raised
  let s := holdRaised (endAttempt s (decide (step = 11))) raised
  let s := s.setStart { s.start with
    history := setBit s.start.history step, running := false, step := 0 }
  if wasMaint then romMaintenance (s.setStart { s.start with inReset := false })
  else if deadline || decide (3 ≤ s.num Obj.failedStarts) then maintenanceEntry s else s

/-! ### Safe state (R476) -/

def inSafe (s : State) : Bool := decide (s.num Obj.collectorState = 1)

/-- SAFE_STATE_ENTRY (R476): the decision, and everything that follows from it, but for the record. One before host ready fails the
running attempt (R88, R476), with what the state says of its step; DEDUCED (log 39): an attempt whose rails run down is not ended by it,
since the power loss interrupts it. -/
def safeEntry (s : State) (cause : Nat) : State :=
  let detail := stateDetail s
  let s := ((s.setNum Obj.collectorState 1).setNum Obj.safeCause cause).setNum Obj.safeTick s.tick
  let s := s.setNum Obj.safeEntries (min (s.num Obj.safeEntries + 1) 255)
  let s := gatesOff s
  let s := { s with power := { s.power with faultOutLow := true } }
  let s := s.setHost { s.host with fetchStopped := true }
  let s := s.each [0, 1, 2, 3] fenceAborting
  let s := spinHold (retractLoaded s)
  let s := s.each [Port.a, Port.b] fun s p => s.modCtrl p fun k => { k with cfs := true }
  let s := startMirror s
  if s.start.running && s.power.off.isNone then failAttempt s srFailed detail else s

/-- The record that an event writes when no safe state follows it (R478): a TRIP record takes at least severity 2. -/
def plainRecord (s : State) (ev : Event) (r : Nat × Bool) (action : Nat) : State :=
  let e := sourceNow s ev.source
  writeRecord s (if r.2 then eventRecord ev kTrip (max e.severity 2) e.level action r.1
    else eventRecord ev kEvent e.severity e.level action r.1)

/-- An event takes the safe state, with its SAFE record (R476, R478). In the safe state a second one changes nothing but the ledger. -/
def safeBy (s : State) (ev : Event) : State :=
  let (r, s) := countEvent s ev
  if inSafe s then plainRecord s ev r actNone
  else safeEntry (writeRecord s (eventRecord ev kSafe 3 (sourceNow s ev.source).level actSafe r.1)) ev.source

end Sys2Proof.Machine
end

