-- ==== Sys2Proof/Machine/ReinEngine.lean ====
section
/-!
DEFINITION. Rein engines and groups: programs and coefficients, inputs, triggers, preemption, checkpoints, snapshots, trace
samples, roles and takeover (R247–R283).
-/

namespace Sys2Proof.Machine

/-! ### Objects of engines and groups (R282) -/

/-- Key of an engine's object. -/
def engKey (e sub : Nat) : Key :=
  if e = 15 then 0x550000 + sub else (0x5010 + 0x100 * (e / 3) + e % 3) * 256 + sub

def engState (s : State) (e : Nat) : Nat := s.num (engKey e 2)
def engRole (s : State) (e : Nat) : Nat := s.num (engKey e 3)
def setEngState (s : State) (e st : Nat) : State := s.setNum (engKey e 2) st
def setEngRole (s : State) (e r : Nat) : State := s.setNum (engKey e 3) r

/-- Roles (R248). -/
def roActive : Nat := 0
def roShadow : Nat := 1
def roStandby : Nat := 2
def roProbation : Nat := 3
def roNone : Nat := 4

/-- Group states (R282). -/
def gsIdle : Nat := 0
def gsTriple : Nat := 1
def gsPair : Nat := 2
def gsParked : Nat := 3

/-- Event source of an engine (R467). -/
def engSource (e : Nat) : Nat := if e < 12 then 448 + 64 * (e / 3) + 8 + e % 3 else 342 + e

/-- Event sources of a group and of its program (R467). -/
def groupSource (g : Nat) : Nat := if g < 4 then 448 + 64 * g + 6 else 352
def programSource (g : Nat) : Nat := if g < 4 then 448 + 64 * g + 7 else 353

/-- Engines that run for group g: those of the group with a role (R247). -/
def groupEngines (s : State) (g : Nat) : List Nat :=
  (List.range 16).filter fun e => decide ((s.engineOf e).group = g) && decide (engRole s e ≠ roNone)

/-- Engines that vote (R248). -/
def votingEngines (s : State) (g : Nat) : List Nat := (groupEngines s g).filter fun e => decide (engRole s e < roProbation)

/-- The ACTIVE engine of a group. -/
def activeEngine (s : State) (g : Nat) : Option Nat := (groupEngines s g).find? fun e => decide (engRole s e = roActive)

/-- GROUP_STATE follows the engines that vote, unless the group is parked or idle. -/
def regroup (s : State) (g : Nat) : State :=
  if s.num (Obj.groupState g) = gsParked then s
  else s.setNum (Obj.groupState g) (match (votingEngines s g).length with
    | 0 => gsIdle
    | 1 | 2 => gsPair
    | _ => gsTriple)

/-- Set a BLOB's bytes; its generation increments (R60). -/
def State.setBlob (s : State) (k : Key) (b : List Byte) : State :=
  let s := s.setStr k b
  { s with dict := { s.dict with gens := SMap.put s.dict.gens k (SMap.findD s.dict.gens k 0 + 1) } }

/-! ### Program records (R269, R270) -/

structure ProgRecord where
  group : Nat
  entries : List Nat
  prog : List Byte
  data : List Byte
  coef : List Byte
  profiles : List Profile

def progRecordOf (l : List Byte) : ProgRecord × Nat :=
  let p := fieldAt l 2 2
  let d := fieldAt l 10 2
  let c := fieldAt l 12 2
  let n := fieldAt l 14 2
  let at_ := 16 + 4 * p + 4 * d + 8 * c
  let profs := profileList n (l.drop at_)
  let plen := (List.range n).foldl (fun o _ => o + profileLen (l.drop (at_ + o))) 0
  ({ group := byteAt l 0, entries := [fieldAt l 4 2, fieldAt l 6 2, fieldAt l 8 2], prog := slice l 16 (4 * p)
     data := slice l (16 + 4 * p) (4 * d), coef := slice l (16 + 4 * p + 4 * d) (8 * c), profiles := profs },
   (at_ + plen + 15) / 16 * 16)

def progRecords : Nat → List Byte → List ProgRecord
  | 0, _ => []
  | n + 1, l =>
    let (r, len) := progRecordOf l
    r :: progRecords n (l.drop len)

/-- The program record of a group in an image (R269), and the one of the image whose rein programs run: the image that REIN_SLOT
named when "servo acquisition" took it up, kept until the next start (R115, R271). -/
def recordIn (img : List Byte) (g : Nat) : Option ProgRecord :=
  let sec := sectionData img (imageSections img) 6
  (progRecords (byteAt sec 0) (sec.drop 16)).find? (·.group = g)
def groupRecord (s : State) (g : Nat) : Option ProgRecord := recordIn s.fw.reinImage g

/-- Words of a byte list, those that are not zero, by number. -/
def wordMap (l : List Byte) (n : Nat) : SMap Word32 :=
  ((List.range n).map fun i => (i, BitVec.ofNat 32 (fieldAt l (4 * i) 4))).filter (·.2 ≠ 0)

/-- A coefficient word in Q32 layout (R54): mantissa, then shift. -/
def coefOf (l : List Byte) : Coef := ⟨BitVec.ofNat 32 (fieldAt l 0 4), BitVec.ofNat 5 (fieldAt l 4 4)⟩
def coefBytes (c : Coef) : List Byte := leBytes 4 c.m.toNat ++ leBytes 4 c.s.toNat

def coefMap (l : List Byte) (n : Nat) : SMap Coef :=
  ((List.range n).map fun i => (i, coefOf (slice l (8 * i) 8))).filter fun e => decide (e.2 ≠ ⟨0, 0⟩)

/-- The program memory of engine e is loaded with its group's record (R269, R271). -/
def loadProgram (s : State) (e : Nat) : State :=
  match groupRecord s (s.engineOf e).group with
  | some r => s.modEngine e fun x => { x with prog := wordMap r.prog (r.prog.length / 4) }
  | none => s.modEngine e fun x => { x with prog := [] }

/-- The record's initial data and coefficient words (R269, R281). -/
def loadInitial (s : State) (e : Nat) : State :=
  match groupRecord s (s.engineOf e).group with
  | some r => s.modEngine e fun x => { x with
      data := wordMap r.data (r.data.length / 4), coef := coefMap r.coef (r.coef.length / 8), ctx := Context.reset }
  | none => s.modEngine e fun x => { x with data := [], coef := [], ctx := Context.reset }

/-- The coefficient blocks of bundle section 5 for a group (R270): address and word. -/
def coefBlocks : Nat → List Byte → List (Nat × Nat × Coef)
  | 0, _ => []
  | n + 1, l =>
    let count := fieldAt l 4 2
    ((List.range count).map fun i => (byteAt l 0, fieldAt l 2 2 + i, coefOf (slice l (16 + 8 * i) 8))) ++
      coefBlocks n (l.drop (16 + 8 * count))

def bundleCoefs (s : State) (g : Nat) : List (Nat × Coef) :=
  let sec := bundleSection s.fw.bundle 5
  ((coefBlocks (byteAt sec 0) (sec.drop 16)).filter (·.1 = g)).map (·.2)

/-- Coefficient words due at the next checkpoint of every engine of a group. -/
def queueCoefs (s : State) (g : Nat) (l : List (Nat × Coef)) : State :=
  s.each (groupEngines s g) fun s e => s.modEngine e fun x => { x with coefDue := x.coefDue ++ l }

/-- Profiles in force: the bundle's, or the default ones of the program record (R269, R270). -/
def profilesInForce (s : State) (g : Nat) : List Profile :=
  if s.fw.bundle.isEmpty then ((groupRecord s g).map (·.profiles)).getD [] else profilesOf s.fw.bundle

/-! ### Roles, fences and takeover (R272–R276) -/

/-- The roles after engine e has left the vote (R273): the STANDBY becomes ACTIVE and the other one SHADOW. -/
def takeoverRoles (s : State) (g e : Nat) : State :=
  let was := engRole s e
  let s := setEngRole s e roNone
  if was < roStandby then
    let s := s.each (votingEngines s g) fun s x =>
      setEngRole s x (if engRole s x = roStandby then roActive else roShadow)
    s
  else s

/-- Remember an event for trace triggers of kind 4 (R280). -/
def traceEvent (s : State) (a i : Nat) : State := s.modTrace a fun t => { t with seen := setBit t.seen i }

/-- DETAIL of the event of an engine's first injection of a start, which does not count towards retirement (R278). -/
def injectionDetail : Nat := 1

/-- Engine e leaves its group (R272, R273): its runs end, its role goes, its reload begins unless it is retired. -/
def engineOut (s : State) (e : Nat) : State :=
  let g := (s.engineOf e).group
  let voting := decide (engRole s e < roProbation)
  let rejoin := if engState s e = stRetired then 0 else 1
  let s := s.modEngine e fun x => { x with
    injectHit := false, run := none, saved := [], waiting := [], delivered := [], stopped := [], reruns := [], rerunSets := []
    checkpoint := none, agreed := 0, rejoin := rejoin }
  let s := takeoverRoles s g e
  let s := if engState s e < stFenced then setEngState s e stFenced else s
  let s := if voting then
      let s := s.bump (Obj.reinTakeovers g)
      if g < 4 then traceEvent s g 0 else s
    else s
  regroup s g

/-- Engine e is fenced for what its own source reports (R276): with one event, which counts towards its retirement unless it is that of the
first injection of a start (R278). -/
def fenceEngine (s : State) (e : Nat) : State :=
  let x := s.engineOf e
  let exempt := x.injectHit && decide (x.injections = 1)
  engineOut ((s.bump (engKey e 5)).raise (engSource e) (e % 3) (if exempt then injectionDetail else 0)) e

/-- A pair hold that R274 does not resolve is a missed latch (R262). -/
def holdMissed (s : State) (g : Nat) : State := s.bump (Obj.missedLatches g)

/-- A group is parked (R262, R274): an actuator's heads are retracted and it is FENCED, with one event; for the spindle group the
device enters the safe state, with its SAFE record. -/
def parkGroup (s : State) (g : Nat) : State :=
  let s := s.setNum (Obj.groupState g) gsParked
  let s := s.modGroup g fun x => { x with pairHold := none, holdRerunDone := false }
  if g < 4 then (parkActuator s g).raise (groupSource g) g
  else safeBy (spinHold s) { source := 352 }

/-- A running group with fewer than two voting engines is parked (R274). -/
def parkIfAlone (s : State) (g : Nat) : State :=
  if groupRuns s g && decide ((votingEngines s g).length < 2) then parkGroup s g else s

/-! ### Runs (R250, R256, R258) -/

/-- Budget of an entry (R259). -/
def budgetOf (entry : Nat) : Nat := match entry with
  | 0 => 120
  | 1 => 600
  | _ => 1200

/-- Output ports of an entry: actuator groups (R258) and the spindle group (R295). -/
def outPorts (g entry : Nat) : List Nat :=
  if g < 4 then (match entry with
    | 0 => [0x20, 0x21]
    | 1 => [0x22, 0x23, 0x24]
    | _ => [0x25, 0x26, 0x27])
  else (match entry with
    | 0 => [0x20]
    | 1 => [0x22, 0x24]
    | _ => [0x25])

/-- The address at which an entry's program starts. -/
def entryPc (s : State) (e entry : Nat) : Nat :=
  match groupRecord s (s.engineOf e).group with
  | some r => r.entries.getD entry 0
  | none => 0

/-- The engine starts a run of an entry. -/
def startRun (s : State) (e entry : Nat) (inputs : SMap Word32) (rerun : Bool) : State :=
  let pc := entryPc s e entry
  s.modEngine e fun x => { x with
    run := some { entry := entry, count := 0, staged := [], inputs := inputs, rerun := rerun }
    ctx := { x.ctx with pc := BitVec.ofNat 11 pc, stack := [] }
    stopped := SMap.erase x.stopped entry }

/-- A snapshot of engine e (R275). -/
def snapshotBytes (s : State) (e : Nat) : List Byte :=
  let x := s.engineOf e
  let g := s.groupOf x.group
  let body := leBytes 4 0x53525A4F ++ leBytes 4 (g.posCount % 2 ^ 32) ++ leBytes 2 x.ctx.cb.toNat ++
    [BitVec.ofNat 8 e, BitVec.ofNat 8 (engRole s e)] ++ leBytes 4 0 ++ x.ctx.d.toList.flatMap (fun w => leBytes 4 w.toNat) ++
    leBytes 8 x.ctx.acc0.toNat ++ leBytes 8 x.ctx.acc1.toNat ++
    (List.range 8).flatMap (fun i => leBytes 4 (SMap.findD g.latched (0x20 + i) 0).toNat) ++
    (List.range 1024).flatMap (fun i => leBytes 4 (SMap.findD x.data i 0).toNat) ++
    (List.range 1024).flatMap (fun i => coefBytes (SMap.findD x.coef i ⟨0, 0⟩))
  body ++ leBytes 4 (crc32c body)

/-- Engines of a group that wait for the registers (R273 step 6). -/
def joiners (s : State) (g : Nat) : List Nat :=
  (List.range 16).filter fun e => decide ((s.engineOf e).group = g) && decide ((s.engineOf e).rejoin = 3)

/-- They take those of the ACTIVE engine, with its memories, and enter PROBATION (R273 step 6). DEDUCED (log 87): the sets that the ACTIVE
engine has delivered and that no compare point has taken yet come with them. -/
def joinRegisters (s : State) (g active : Nat) : State :=
  let a := s.engineOf active
  s.each (joiners s g) fun s e =>
    let s := s.modEngine e fun x => { x with
      ctx := a.ctx, data := a.data, coef := a.coef, coefDue := a.coefDue, rejoin := 0, agreed := 0, run := none, saved := [], waiting := []
      delivered := a.delivered, stopped := a.stopped, checkpoint := some (a.ctx, []) }
    setEngRole (setEngState s e stRunning) e roProbation

/-- What the distributor retains from a checkpoint on: the position trigger about to be served, and what follows it (R274). -/
def sinceCheckpoint : List (Nat × SMap Word32) → List (Nat × SMap Word32)
  | [] => []
  | x :: r => if r.any (·.1 = 1) then sinceCheckpoint r else if x.1 = 1 then x :: r else sinceCheckpoint r

/-- REIN_CHECKPOINT (R275): pending coefficients are written, a requested snapshot is copied, waiting engines take the registers. -/
def takeCheckpoint (s : State) (e : Nat) : State :=
  let s := s.modEngine e fun x => { x with
    coef := x.coefDue.foldl (fun m c => if c.2 = ⟨0, 0⟩ then SMap.erase m (c.1 % 1024) else SMap.put m (c.1 % 1024) c.2) x.coef
    coefDue := [] }
  let s := s.modEngine e fun x => { x with checkpoint := some (x.ctx, []) }
  let g := (s.engineOf e).group
  if engRole s e = roActive then
    let s := s.modGroup g fun x => { x with retained := sinceCheckpoint x.retained }
    let s := if (s.groupOf g).snapPending then
        (s.setBlob (Obj.snapshot g) (snapshotBytes s e)).modGroup g fun x => { x with snapPending := false }
      else s
    joinRegisters s g e
  else s

/-- Serve a trigger: a position trigger takes a checkpoint first when no run of the engine is active (R275). The engines that join at the
ACTIVE engine's checkpoint run the trigger it is about to serve. -/
def serveTrigger (s : State) (e entry : Nat) (inputs : SMap Word32) : State :=
  if entry = 1 ∧ (s.engineOf e).run.isNone ∧ (s.engineOf e).saved.isEmpty then
    let join := if engRole s e = roActive then joiners s (s.engineOf e).group else []
    let s := takeCheckpoint s e
    let s := s.each join fun s j => startRun s j entry inputs false
    startRun s e entry inputs false
  else startRun s e entry inputs false

/-- A trigger at one engine (R250): it starts, preempts a lower entry, or waits; one that waits already is replaced. -/
def triggerEngine (s : State) (e entry : Nat) (inputs : SMap Word32) : State :=
  let x := s.engineOf e
  let wait (s : State) : State := s.modEngine e fun x => { x with waiting := SMap.put x.waiting entry inputs }
  if !x.reruns.isEmpty then wait s
  else match x.run with
    | none => serveTrigger s e entry inputs
    | some r =>
      if r.rerun then wait s
      else if entry < r.entry then
        serveTrigger (s.modEngine e fun x => { x with saved := (r, x.ctx) :: x.saved }) e entry inputs
      else wait s

/-- What happens when a run of engine e is over: a preempted run is restored, a re-run follows, or the waiting trigger of the
highest priority is served (R250, R274). -/
def afterRun (s : State) (e : Nat) : State :=
  let x := s.engineOf e
  match x.saved, x.reruns, x.waiting with
  | (r, c) :: rest, _, w =>
    match w with
    | (entry, inputs) :: w' =>
      if entry < r.entry then
        serveTrigger (s.modEngine e fun x => { x with run := none, waiting := w' }) e entry inputs
      else s.modEngine e fun x => { x with run := some r, ctx := c, saved := rest }
    | [] => s.modEngine e fun x => { x with run := some r, ctx := c, saved := rest }
  | [], (entry, inputs) :: rest, _ =>
    startRun (s.modEngine e fun x => { x with run := none, reruns := rest }) e entry inputs true
  | [], [], (entry, inputs) :: w' =>
    serveTrigger (s.modEngine e fun x => { x with run := none, waiting := w' }) e entry inputs
  | [], [], [] => s.modEngine e fun x => { x with run := none }

/-- The output set of a run: its entry's ports, staged or last latched (R258); an injection inverts bit 0 (R278). -/
def outputSet (s : State) (g : Nat) (r : Run) (inject : Bool) : SMap Word32 :=
  let latched := (s.groupOf g).latched
  (outPorts g r.entry).zipIdx.map fun (p, i) =>
    let v := (SMap.find r.staged p).getD (SMap.findD latched p 0)
    (p, if inject && decide (i = 0) then v ^^^ 1 else v)

/-- SAT_COUNT counts the ACTIVE engine's runs that end with a FLAGS bit set (R282). -/
def countSat (s : State) (e : Nat) : State :=
  let x := s.engineOf e
  if engRole s e = roActive ∧ x.ctx.flags ≠ 0 then s.bump (Obj.satCount x.group) else s

/-- A run reaches DONE: its set is delivered (R258). -/
def deliver (s : State) (e : Nat) (r : Run) : State :=
  let x := s.engineOf e
  let g := x.group
  let inj := x.injectNext && decide (r.entry = 1) && !r.rerun
  let set := outputSet s g r inj
  let s := s.modEngine e fun x => { x with
    rerunSets := if r.rerun then x.rerunSets ++ [(r.entry, set)] else x.rerunSets
    delivered := SMap.put x.delivered r.entry set, injectNext := if inj then false else x.injectNext
    injectHit := if r.entry = 1 then inj else x.injectHit }
  afterRun (countSat s e) e

/-- A run ends without outputs (R256): 1 program fault, 2 budget stop. DEDUCED (log 87): runs of one trigger that stop alike on several
engines of the group raise one event and count once in PROGRAM_STOPS. -/
def stopRun (s : State) (e why : Nat) : State :=
  match (s.engineOf e).run with
  | none => s
  | some r =>
    let g := (s.engineOf e).group
    let known := (groupEngines s g).any fun x => decide (x ≠ e) && decide (SMap.find (s.engineOf x).stopped r.entry = some why)
    let s := s.modEngine e fun x => { x with
      rerunSets := if r.rerun then x.rerunSets ++ [(r.entry, [])] else x.rerunSets
      stopped := SMap.put x.stopped r.entry why, delivered := SMap.erase x.delivered r.entry }
    let s := if known then s else (s.bump (Obj.programStops g)).raise (programSource g) g why
    afterRun (countSat s e) e

/-! ### Inputs (R257, R295) -/

def w32 (n : Nat) : Word32 := BitVec.ofNat 32 n
def wi32 (i : Int) : Word32 := BitVec.ofInt 32 i

def sensedOf (s : State) (g port : Nat) : Word32 := SMap.findD (s.groupOf g).sensed port 0
def latchedOf (s : State) (g port : Nat) : Word32 := SMap.findD (s.groupOf g).latched port 0

/-- The profile of a seek that runs on actuator a, with its distance. -/
def runningProfile (s : State) (a : Nat) : Option (Profile × Int) :=
  match (s.actOf a).seekRun with
  | some (n, d) => ((profilesInForce s a).find? (·.number = n)).map fun p => (p, d)
  | none => none

/-- REF of the seek reference at the present profile wedge, in 2^−16 track (R266). -/
def seekRef (p : Profile) (d : Int) (k : Nat) : Int := -d * (65536 - ((p.samples.getD k (65535, 0)).1 : Int))

/-- SEEK_FF at a profile wedge (R266). Where the quotient is not whole, how it is rounded is free (log entry 1). -/
def seekFf (p : Profile) (d : Int) (k v : Nat) : Int :=
  let n := (p.samples.getD k (0, 0)).2 * 1000 * d
  let q := n / (p.distRef : Int)
  let q := if n % (p.distRef : Int) = 0 then q else q + (v % 2 : Nat)
  max (-2000000) (min 2000000 q)

/-- "Servo acquisition" runs, or has run, with its alternative: half the position-loop bandwidth (R91). -/
def halfBandwidth (s : State) : Bool :=
  bit s.start.altSteps 15 || (decide (s.start.step = 15) && (bit s.start.history 15 || bit s.start.forced 15))

/-- MODE: half-bandwidth acquisition, pair mode, re-run (R257, R281). -/
def modeBits (s : State) (g : Nat) (rerun : Bool) : Nat :=
  (if halfBandwidth s then 1 else 0) + (if s.num (Obj.groupState g) = gsPair then 2 else 0) + (if rerun then 4 else 0)

/-- Zone code of the sentence playing on actuator a, and its zone record. -/
def zoneNow (s : State) (a : Nat) : Nat := (s.actOf a).lastZone

/-- Wedges since a local tick, at the target speed: 600 wedges to a revolution (R324). -/
def wedgesSince (s : State) (t : Nat) : Option Nat := if t ≤ s.tick then some ((s.tick - t) * s.num Obj.targetRpm / 2500000) else none

/-- The coupling entry that serves an announcement (R325). -/
def couplingFor (s : State) (x : Announcement) : Option Coupling :=
  (couplingsOf s.fw.bundle).find? fun c => decide (c.enclosure = bundleEnclosure s.fw.bundle ∧ c.d = x.hopDiff ∧ c.srcAct = x.act)

/-- The announcer's profile as actuator r holds it, and the profile wedge that an announcement is at, while there is one (R324). -/
def announcedWedge (s : State) (r : Nat) (x : Announcement) : Option (Profile × Nat) :=
  let delay := ((couplingFor s x).map (·.delayUs)).getD 0
  match (profilesInForce s r).find? (·.number = x.profile), wedgesSince s (x.start + 25 * delay) with
  | some p, some k => if k < p.wedges then some (p, k) else none
  | _, _ => none

/-- The term of one announcement for actuator r at the present time, before the division by 2^15 of its gain (R324). -/
def ffTerm (s : State) (r v : Nat) (x : Announcement) : Int :=
  match couplingFor s x, announcedWedge s r x with
  | some c, some (p, k) => c.k.getD r 0 * seekFf p x.d k v
  | _, _ => 0

/-- GIRTH_FF of actuator r (R324). Where the sum is not whole, how it is rounded is free (log entry 1). -/
def girthFf (s : State) (r v : Nat) : Int :=
  let n := (s.girth.announcements.map (ffTerm s r v)).sum
  let q := n / 32768
  max (-2000000) (min 2000000 (if n % 32768 = 0 then q else q + (v / 2 % 2 : Nat)))

/-- A quotient of which no rule says how it is rounded: exact where it is whole, else one of the two neighbours (log entry 1). -/
def ratio (n d v : Nat) : Nat := n / d + if n % d = 0 then 0 else v % 2

/-- VGA_AVG (R257): the mean VGA code, in 1/16 code, of the read sectors of the last 24 wedges; the code of a sector is that at its
capture's end (log entry 76). With no such sector it is free. -/
def vgaAvg (c : Channel) (v : Nat) : Nat :=
  match c.vga with
  | [] => v % 2032
  | l => ratio (16 * (l.map (·.2)).sum) l.length v

/-- WRITE_DUTY (R257): per mille of the last 24 wedges' data areas, of `dataT` T each, with the write gate open. -/
def writeDuty (c : Channel) (dataT v : Nat) : Nat := ratio (1000 * (c.duty.map (·.2)).sum) (24 * dataT) v

/-- The input ports of actuator group a at a trigger. -/
def actuatorInputs (s : State) (a : Nat) : SMap Word32 × State :=
  let s := s.senseTj
  let c := s.chanOf a
  let (v, s) := s.draw
  let (u, s) := s.draw
  let (k, s) := s.draw
  let sw := (s.actOf a).seekWedge
  let (ref, ff, st) := match runningProfile s a with
    | some (p, d) => (seekRef p d sw, seekFf p d sw k, 1 + (if sw + 1 = p.wedges then 2 else 0) + sw * 4)
    | none => (0, 0, 0)
  let zone := sentenceZone s (12 * a + headNow s a) (zoneNow s a)
  let heater := (zone.map (·.heater)).getD 0
  let dataT := (zone.map (·.dataT)).getD 0
  ([(0x00, wi32 c.pes), (0x01, w32 (c.track % 2 ^ 24)), (0x02, w32 (c.wedge + if c.servoMissed then 65536 else 0)),
    (0x03, w32 (headNow s a)), (0x04, w32 (zoneNow s a)), (0x05, wi32 (ref / 65536)), (0x06, w32 (ref % 65536).toNat),
    (0x07, w32 st), (0x08, wi32 ff), (0x09, wi32 (girthFf s a k)), (0x0A, (s.groupOf a).offset),
    (0x0B, sensedOf s a 0x0B), (0x0C, sensedOf s a 0x0C), (0x0D, latchedOf s a 0x22), (0x0E, latchedOf s a 0x23),
    (0x0F, latchedOf s a 0x25), (0x10, w32 (vgaAvg c v)), (0x11, w32 (writeDuty c dataT u)), (0x12, wi32 (toSigned 16 (s.num Obj.tjC))),
    (0x13, w32 heater), (0x14, w32 (modeBits s a false))], s)

/-- The speed over the last electrical cycle, of six zero-cross intervals, in 1/1,024 rpm (R295); before six have come, SPEED. -/
def cycleSpeed (s : State) : Nat :=
  let l := s.motion.zcCycle
  if l.length < 6 then s.num Obj.speed
  else 60 * 25000000 * 1024 / (max 1 l.sum * max 1 (s.num Obj.polePairs))

/-- SPEED_ERR (R295): TARGET_RPM less that speed. -/
def speedErr (s : State) : Int := (s.num Obj.targetRpm * 1024 : Nat) - (cycleSpeed s : Int)

/-- The device is joined (R319): member or master. -/
def girthJoined (s : State) : Bool := decide (s.num Obj.girthState = 1) || decide (s.num Obj.girthState = 2)

/-- Actuator a tracks: under servo, with its last servo sync confirmed. -/
def tracking (s : State) (a : Nat) : Bool := decide (s.num (Obj.driveState a) = 2) && !(s.chanOf a).servoMissed

/-- PHASE_ERR is valid (R320). -/
def phaseValid (s : State) : Bool :=
  girthJoined s && (match s.girth.phaseTick with
    | some t => decide (s.tick - t ≤ 750000)
    | none => false) &&
  [0, 1, 2, 3].any (tracking s) && decide (s.girth.phaseRpm = s.motion.rpm)

/-- SPIN_FLAGS (R295): a speed change runs while the speed is more than 1 % off its target (R290). -/
def spinFlags (s : State) : Nat :=
  (if phaseValid s then 1 else 0) + (if girthJoined s then 2 else 0) +
  (if s.num Obj.targetRpm * 1024 < (speedErr s).natAbs * 100 then 4 else 0)

/-- The input ports of the spindle group. SPIN_I is measured: a free value (log entry 1). -/
def spindleInputs (s : State) : SMap Word32 × State :=
  let (i, s) := s.draw
  ([(0x00, wi32 (speedErr s)), (0x01, sensedOf s 4 0x01), (0x02, w32 i), (0x03, w32 (spinFlags s)),
    (0x04, w32 (s.num Obj.targetRpm * 1024)), (0x05, w32 (s.num Obj.vmMv)), (0x0D, latchedOf s 4 0x22), (0x0E, latchedOf s 4 0x25),
    (0x14, w32 (modeBits s 4 false))], s)

def groupInputs (s : State) (g : Nat) : SMap Word32 × State := if g < 4 then actuatorInputs s g else spindleInputs s

/-! ### Trace buffers (R279, R280) -/

/-- The value that group g's distributor delivered last at an input port (R247). -/
def distributed (s : State) (g port : Nat) : Word32 := match (s.groupOf g).retained.getLast? with
  | some (_, inputs) => SMap.findD inputs port 0
  | none => 0

/-- Words of one trace sample. -/
def traceNode (s : State) (a code : Nat) : Word32 :=
  let c := s.chanOf a
  let tap (k : Key) : Word32 := match activeEngine s a with
    | some e => SMap.findD (s.engineOf e).data (s.num k % 1024) 0
    | none => 0
  match code with
  | 0 => wi32 c.pes
  | 1 => w32 (c.track % 2 ^ 24 + c.wedge % 256 * 2 ^ 24)
  | 2 => distributed s a 0x08
  | 3 => distributed s a 0x09
  | 4 => latchedOf s a 0x22
  | 5 => latchedOf s a 0x20
  | 6 => sensedOf s a 0x0B
  | 7 => latchedOf s a 0x21
  | 8 => sensedOf s a 0x0C
  | 9 => latchedOf s a 0x25
  | 10 => w32 ((latchedOf s a 0x26).toNat % 256 * 256 + (latchedOf s a 0x27).toNat % 256)
  | 11 => tap (Obj.traceTap0 a)
  | 12 => tap (Obj.traceTap1 a)
  | 13 => w32 ((s.groupOf a).vote + if c.wu ≠ 0 then 2 ^ 10 else 0)
  | 14 => (s.groupOf a).offset
  | _ => wi32 (speedErr s)

/-- Words per sample, samples in the buffer, and the nodes selected. -/
def traceWords (s : State) (a : Nat) : Nat := 2 ^ (fld (s.num (Obj.traceNodes a)) 17 16)
def traceCap (s : State) (a : Nat) : Nat := 8192 / traceWords s a
def traceCodes (s : State) (a : Nat) : List Nat :=
  (List.range (traceWords s a)).map fun i => fld (s.num (Obj.traceNodes a)) (4 * i + 3) (4 * i)

/-- Whether the trigger condition holds at a sample. -/
def traceFires (s : State) (a : Nat) (t : Trace) : Bool :=
  let b := s.str (Obj.traceTrigger a)
  let v := (traceNode s a (byteAt b 1 % 16)).toInt
  let level := toSigned 32 (fieldAt b 4 4)
  match byteAt b 0 with
  | 0 => t.forced
  | 1 => decide (level < v)
  | 2 => decide (v < level)
  | 3 => decide (level < v.natAbs)
  | 4 => decide (t.seen &&& fieldAt b 2 2 ≠ 0)
  | _ => false

/-- TRACE_SAMPLE (R280): a sample at every DECIMATE-th trigger of the selected source. -/
def traceSample (s : State) (a : Nat) (inner : Bool) : State :=
  let st := s.num (Obj.traceState a)
  let rate := s.num (Obj.traceRate a)
  let t := vget s.traces a ⟨[], 0, 0, 0, false⟩
  if (st ≠ 1 ∧ st ≠ 2) ∨ bit rate 15 ≠ inner then s
  else if t.decim + 1 < max (rate % 512) 1 then s.modTrace a fun t => { t with decim := t.decim + 1 }
  else
    let w := (traceCodes s a).map (traceNode s a)
    let pre := s.num (Obj.tracePre a)
    let cap := traceCap s a
    if st = 1 then
      if traceFires s a t ∧ pre ≤ t.samples.length then
        let left := cap - pre - 1
        let s := s.modTrace a fun t => { t with
          samples := t.samples.drop (t.samples.length - pre) ++ [w], left := left, decim := 0, seen := 0, forced := false }
        (s.setNum (Obj.traceState a) (if left = 0 then 3 else 2)).setNum (Obj.triggerTick a) s.tick
      else s.modTrace a fun t => { t with
        samples := (t.samples.drop (t.samples.length + 1 - cap)) ++ [w], decim := 0, seen := 0, forced := false }
    else
      let s := s.modTrace a fun t => { t with samples := t.samples ++ [w], left := t.left - 1, decim := 0, seen := 0 }
      if t.left ≤ 1 then s.setNum (Obj.traceState a) 3 else s

/-! ### Triggers of a group (R259, R261) -/

/-- The write-unsafe comparator's R262 cause on an actuator group. -/
def holdPosition (s : State) (g entry : Nat) : State := if g < 4 ∧ entry = 1 then assertWu s g .position else s

/-- MISSED_LATCH (R262): the latch holds; 3 position or 8 inner misses in a row park the group. -/
def missLatch (s : State) (g entry : Nat) : State :=
  let s := s.bump (Obj.missedLatches g)
  let s := if g < 4 then traceEvent s g 1 else s
  let s := s.modGroup g fun x => { x with
    missedPos := if entry = 1 then x.missedPos + 1 else x.missedPos
    missedInner := if entry = 0 then x.missedInner + 1 else x.missedInner
    vote := setBit x.vote 8 }
  let s := holdPosition s g entry
  let x := s.groupOf g
  if (entry = 1 ∧ 3 ≤ x.missedPos) ∨ (entry = 0 ∧ 8 ≤ x.missedInner) then parkGroup s g
  else if entry = 2 then s.raise (groupSource g) g else s

/-- A run lost because its trigger still waited counts as a missed latch (R250). -/
def lostRun (s : State) (g entry : Nat) : State :=
  if (votingEngines s g).any fun e => (SMap.find (s.engineOf e).waiting entry).isSome then missLatch s g entry else s

/-- A position trigger takes TRACK_OFFSET up at input port OFFSET (R265). -/
def takeOffset (s : State) (g entry : Nat) : State :=
  if g < 4 ∧ entry = 1 then s.modGroup g fun x => { x with offset := w32 (s.num (Obj.trackOffset g)) } else s

/-- The distributor delivers one trigger with the same inputs to every engine of the group (R247). -/
def groupTrigger (s : State) (g entry : Nat) : State :=
  if !groupRuns s g then s
  else
    let s := lostRun s g entry
    if !groupRuns s g then s
    else
      let s := takeOffset s g entry
      let (inputs, s) := groupInputs s g
      let s := s.modGroup g fun x => { x with
        posCount := if entry = 1 then x.posCount + 1 else x.posCount, retained := x.retained ++ [(entry, inputs)]
        awaited := nset x.awaited entry }
      s.each (groupEngines s g) fun s e => triggerEngine s e entry inputs

end Sys2Proof.Machine
end

