-- ==== Sys2Proof/Machine/ReinAlu.lean ====
section
/-!
DEFINITION. The instructions of the rein engines (R251–R256). A command is one instruction that the engine executes in its run;
an engine without a run, one that has used its budget, or one whose program memory holds another word there, executes nothing.
-/

namespace Sys2Proof.Machine

/-! ### Saturation (R251–R253) -/

/-- Saturate to 32 bits, and whether that changed the value. -/
def sat32 (x : Int) : Word32 × Bool :=
  if 2147483647 < x then (BitVec.ofInt 32 2147483647, true)
  else if x < -2147483648 then (BitVec.ofInt 32 (-2147483648), true)
  else (BitVec.ofInt 32 x, false)

/-- Saturate to 64 bits. -/
def sat64 (x : Int) : Word64 × Bool :=
  if 9223372036854775807 < x then (BitVec.ofInt 64 9223372036854775807, true)
  else if x < -9223372036854775808 then (BitVec.ofInt 64 (-9223372036854775808), true)
  else (BitVec.ofInt 64 x, false)

/-- Set a sticky bit of FLAGS when an instruction saturates (R249, R251–R253). -/
def orFlag (c : Context) (i : Nat) (b : Bool) : Context := if b then { c with flags := c.flags ||| BitVec.ofNat 5 (2 ^ i) } else c

def Context.reg (c : Context) (r : Fin 16) : Word32 := c.d.get r
def Context.setReg (c : Context) (r : Fin 16) (v : Word32) : Context := { c with d := c.d.set r v }
def Context.acc (c : Context) (n : Bool) : Word64 := if n then c.acc1 else c.acc0
def Context.setAcc (c : Context) (n : Bool) (v : Word64) : Context := if n then { c with acc1 := v } else { c with acc0 := v }

/-- A register takes a saturated result; FLAGS[3] is the ADD class (R253). -/
def setSat (c : Context) (r : Fin 16) (x : Int) : Context :=
  let v := sat32 x
  orFlag (c.setReg r v.1) 3 v.2

/-- RND (R252): the accumulator over 2^k, by mode. -/
def roundAcc (acc : Int) (k mode : Nat) : Int :=
  let d : Int := (2 ^ k : Nat)
  match mode with
  | 0 => acc / d
  | 1 => (acc + d / 2) / d
  | 2 =>
    let q := acc / d
    let r := acc % d
    if d < 2 * r then q + 1 else if 2 * r = d ∧ q % 2 ≠ 0 then q + 1 else q
  | _ => if acc < 0 then -((-acc) / d) else acc / d

/-- A coefficient word of an engine (R255): (CB + CADDR) mod 1,024. -/
def coefAt (x : Engine) (caddr : BitVec 10) : Coef := SMap.findD x.coef (x.ctx.cb + caddr).toNat ⟨0, 0⟩

/-- The exact product of a register and a mantissa, shifted right arithmetically by the coefficient's shift (R251). -/
def coefProduct (x : Engine) (ra : Fin 16) (caddr : BitVec 10) : Int :=
  let k := coefAt x caddr
  ((x.ctx.reg ra).toInt * k.m.toInt) / ((2 ^ k.s.toNat : Nat) : Int)

/-! ### One instruction (R254, R255) -/

/-- Instruction words of the formats R, I, M, X, B and P (R254). -/
def wordR (op : Nat) (rd ra rb : Fin 16) : Nat := op * 2 ^ 26 + rd.val * 2 ^ 22 + ra.val * 2 ^ 18 + rb.val * 2 ^ 14
def wordI (op : Nat) (rd ra : Fin 16) (imm : BitVec 16) : Nat := op * 2 ^ 26 + rd.val * 2 ^ 22 + ra.val * 2 ^ 18 + imm.toNat
def wordM (op : Nat) (acc : Bool) (ra : Fin 16) (caddr : BitVec 10) : Nat :=
  op * 2 ^ 26 + (if acc then 2 ^ 25 else 0) + ra.val * 2 ^ 21 + caddr.toNat
def wordX (op : Nat) (rd : Fin 16) (acc : Bool) (mode : BitVec 2) (l : BitVec 4) : Nat :=
  op * 2 ^ 26 + rd.val * 2 ^ 22 + (if acc then 2 ^ 21 else 0) + mode.toNat * 2 ^ 19 + l.toNat * 2 ^ 15
def wordB (op : Nat) (ra : Fin 16) (target : BitVec 11) : Nat := op * 2 ^ 26 + ra.val * 2 ^ 22 + target.toNat
def wordP (op : Nat) (rd : Fin 16) (port : BitVec 8) : Nat := op * 2 ^ 26 + rd.val * 2 ^ 22 + port.toNat

/-- Whether an instruction word has an OP of the table and every bit that must be zero zero (R254, R255). -/
def legalWord (w : Nat) : Bool :=
  let z (hi lo : Nat) : Bool := decide (fld w hi lo = 0)
  match fld w 31 26 with
  | 0x00 | 0x3F | 0x37 => z 25 0
  | 0x01 | 0x02 | 0x03 | 0x04 | 0x05 | 0x06 | 0x07 | 0x08 | 0x09 => z 13 0
  | 0x0A | 0x0B => z 17 0
  | 0x0C | 0x0D | 0x0E | 0x11 => z 17 16
  | 0x0F | 0x10 => z 21 16
  | 0x14 | 0x15 => z 17 10
  | 0x16 | 0x17 => z 21 8
  | 0x18 => z 25 16
  | 0x20 | 0x21 | 0x22 => z 20 10
  | 0x23 => z 24 0
  | 0x24 => z 20 0
  | 0x25 => z 14 0
  | 0x30 | 0x36 => z 25 11
  | 0x31 | 0x32 | 0x33 | 0x34 | 0x35 => z 21 11
  | _ => false

/-- The instruction word at engine e's program counter (R249). -/
def instrHere (x : Engine) : Nat := (SMap.findD x.prog x.ctx.pc.toNat 0).toNat

/-- Engine e executes one instruction: the word at its program counter is this one, the program counter advances past it, one of its
budget is used, and f does the rest. An instruction that does not stand there executes nothing. -/
def reinStep (e : Fin 16) (w : Nat) (f : Engine → Engine) (s : State) : State :=
  match (s.engineOf e.val).run with
  | none => s
  | some r =>
    if budgetOf r.entry ≤ r.count ∨ instrHere (s.engineOf e.val) ≠ w then s
    else s.modEngine e.val fun x => f { x with run := some { r with count := r.count + 1 }, ctx := { x.ctx with pc := x.ctx.pc + 1 } }

/-- An instruction that changes only the registers. -/
def reinCtx (e : Fin 16) (w : Nat) (f : Context → Context) (s : State) : Host.Outcome State Fault Refusal :=
  .next (reinStep e w (fun x => { x with ctx := f x.ctx }) s)

/-- A word at engine e's program counter that the run cannot execute (R256): a program fault. -/
def reinFault (e : Fin 16) (w : Nat) (s : State) : Host.Outcome State Fault Refusal :=
  if instrHere (s.engineOf e.val) = w then .next (stopRun s e.val 1) else .next s

def execReinNop (e : Fin 16) (s : State) : Host.Outcome State Fault Refusal := reinCtx e (wordR 0x00 0 0 0) id s

/-- ADD: RD ← sat(RA + RB). -/
def execReinAdd (e rd ra rb : Fin 16) (s : State) : Host.Outcome State Fault Refusal :=
  reinCtx e (wordR 0x01 rd ra rb) (fun c => setSat c rd ((c.reg ra).toInt + (c.reg rb).toInt)) s

/-- SUB: RD ← sat(RA − RB). -/
def execReinSub (e rd ra rb : Fin 16) (s : State) : Host.Outcome State Fault Refusal :=
  reinCtx e (wordR 0x02 rd ra rb) (fun c => setSat c rd ((c.reg ra).toInt - (c.reg rb).toInt)) s

/-- ADDW: RD ← RA + RB, wrapping. -/
def execReinAddw (e rd ra rb : Fin 16) (s : State) : Host.Outcome State Fault Refusal :=
  reinCtx e (wordR 0x03 rd ra rb) (fun c => c.setReg rd (c.reg ra + c.reg rb)) s

/-- SUBW: RD ← RA − RB, wrapping. -/
def execReinSubw (e rd ra rb : Fin 16) (s : State) : Host.Outcome State Fault Refusal :=
  reinCtx e (wordR 0x04 rd ra rb) (fun c => c.setReg rd (c.reg ra - c.reg rb)) s

/-- AND. -/
def execReinAnd (e rd ra rb : Fin 16) (s : State) : Host.Outcome State Fault Refusal :=
  reinCtx e (wordR 0x05 rd ra rb) (fun c => c.setReg rd (c.reg ra &&& c.reg rb)) s

/-- OR. -/
def execReinOr (e rd ra rb : Fin 16) (s : State) : Host.Outcome State Fault Refusal :=
  reinCtx e (wordR 0x06 rd ra rb) (fun c => c.setReg rd (c.reg ra ||| c.reg rb)) s

/-- XOR. -/
def execReinXor (e rd ra rb : Fin 16) (s : State) : Host.Outcome State Fault Refusal :=
  reinCtx e (wordR 0x07 rd ra rb) (fun c => c.setReg rd (c.reg ra ^^^ c.reg rb)) s

/-- MIN: the smaller of RA and RB, signed. -/
def execReinMin (e rd ra rb : Fin 16) (s : State) : Host.Outcome State Fault Refusal :=
  reinCtx e (wordR 0x08 rd ra rb) (fun c => c.setReg rd (if (c.reg ra).toInt ≤ (c.reg rb).toInt then c.reg ra else c.reg rb)) s

/-- MAX: the larger of RA and RB, signed. -/
def execReinMax (e rd ra rb : Fin 16) (s : State) : Host.Outcome State Fault Refusal :=
  reinCtx e (wordR 0x09 rd ra rb) (fun c => c.setReg rd (if (c.reg ra).toInt ≤ (c.reg rb).toInt then c.reg rb else c.reg ra)) s

/-- ABS: RD ← sat(|RA|). -/
def execReinAbs (e rd ra : Fin 16) (s : State) : Host.Outcome State Fault Refusal :=
  reinCtx e (wordR 0x0A rd ra 0) (fun c => setSat c rd ((c.reg ra).toInt.natAbs : Int)) s

/-- NEG: RD ← sat(−RA). -/
def execReinNeg (e rd ra : Fin 16) (s : State) : Host.Outcome State Fault Refusal :=
  reinCtx e (wordR 0x0B rd ra 0) (fun c => setSat c rd (-(c.reg ra).toInt)) s

/-- SHL: RD ← sat(RA × 2^IMM[4:0]). -/
def execReinShl (e rd ra : Fin 16) (imm : BitVec 16) (s : State) : Host.Outcome State Fault Refusal :=
  reinCtx e (wordI 0x0C rd ra imm) (fun c => setSat c rd ((c.reg ra).toInt * (2 ^ (imm.toNat % 32) : Nat))) s

/-- SHR: arithmetic shift right by IMM[4:0]. -/
def execReinShr (e rd ra : Fin 16) (imm : BitVec 16) (s : State) : Host.Outcome State Fault Refusal :=
  reinCtx e (wordI 0x0D rd ra imm) (fun c => c.setReg rd ((c.reg ra).sshiftRight (imm.toNat % 32))) s

/-- SHRL: logical shift right by IMM[4:0]. -/
def execReinShrl (e rd ra : Fin 16) (imm : BitVec 16) (s : State) : Host.Outcome State Fault Refusal :=
  reinCtx e (wordI 0x0E rd ra imm) (fun c => c.setReg rd (c.reg ra >>> (imm.toNat % 32))) s

/-- LI: RD ← IMM16 sign-extended. -/
def execReinLi (e rd : Fin 16) (imm : BitVec 16) (s : State) : Host.Outcome State Fault Refusal :=
  reinCtx e (wordI 0x0F rd 0 imm) (fun c => c.setReg rd (imm.signExtend 32)) s

/-- LUI: RD[31:16] ← IMM16; RD[15:0] unchanged. -/
def execReinLui (e rd : Fin 16) (imm : BitVec 16) (s : State) : Host.Outcome State Fault Refusal :=
  reinCtx e (wordI 0x10 rd 0 imm) (fun c => c.setReg rd (imm ++ (c.reg rd).extractLsb' 0 16)) s

/-- ADDI: RD ← sat(RA + IMM16 sign-extended). -/
def execReinAddi (e rd ra : Fin 16) (imm : BitVec 16) (s : State) : Host.Outcome State Fault Refusal :=
  reinCtx e (wordI 0x11 rd ra imm) (fun c => setSat c rd ((c.reg ra).toInt + imm.toInt)) s

/-- Data address (R255): (RA[9:0] + IMM[9:0]) mod 1,024. -/
def dataAddr (c : Context) (ra : Fin 16) (imm : BitVec 16) : Nat := ((c.reg ra).toNat + imm.toNat % 1024) % 1024

/-- LD: RD ← data word. IMM[15:10] not zero is a program fault (R254, R255). -/
def execReinLd (e rd ra : Fin 16) (imm : BitVec 16) (s : State) : Host.Outcome State Fault Refusal :=
  if imm.toNat < 1024 then
    .next (reinStep e (wordI 0x14 rd ra imm) (fun x => { x with ctx := x.ctx.setReg rd (SMap.findD x.data (dataAddr x.ctx ra imm) 0) }) s)
  else reinFault e (wordI 0x14 rd ra imm) s

/-- A data word is written; the undo journal keeps what it held, and overflows at 256 entries (R275). -/
def storeData (x : Engine) (addr : Nat) (v : Word32) : Engine :=
  { x with
    data := if v = 0 then SMap.erase x.data addr else SMap.put x.data addr v
    checkpoint := match x.checkpoint with
      | some (c, j) => if j.length < 256 then some (c, (addr, SMap.findD x.data addr 0) :: j) else none
      | none => none }

/-- ST: data word ← RD. IMM[15:10] not zero is a program fault. -/
def execReinSt (e rs ra : Fin 16) (imm : BitVec 16) (s : State) : Host.Outcome State Fault Refusal :=
  if imm.toNat < 1024 then .next (reinStep e (wordI 0x15 rs ra imm) (fun x => storeData x (dataAddr x.ctx ra imm) (x.ctx.reg rs)) s)
  else reinFault e (wordI 0x15 rs ra imm) s

/-- The value of an input port (R257): as taken at the trigger; MODE[2] is set in a re-run; an unlisted port reads 0. -/
def inputPort (x : Engine) (port : Nat) : Word32 :=
  match x.run with
  | none => 0
  | some r =>
    let v := SMap.findD r.inputs port 0
    if port = 0x15 then x.ctx.flags.zeroExtend 32
    else if port = 0x14 ∧ r.rerun then v ||| 4 else v

/-- IN: RD ← input port; reading port 0x15 clears FLAGS. -/
def execReinIn (e rd : Fin 16) (port : BitVec 8) (s : State) : Host.Outcome State Fault Refusal :=
  .next (reinStep e (wordP 0x16 rd port) (fun x =>
    let c := x.ctx.setReg rd (inputPort x port.toNat)
    { x with ctx := if port = 0x15 then { c with flags := 0 } else c }) s)

/-- OUT: stage RS for an output port of the run's entry; a port of another entry stages nothing and sets FLAGS[4] (R258). A port
that no entry has is taken as a foreign one (log entry 9). -/
def execReinOut (e rs : Fin 16) (port : BitVec 8) (s : State) : Host.Outcome State Fault Refusal :=
  .next (reinStep e (wordP 0x17 rs port) (fun x =>
    match x.run with
    | none => x
    | some r =>
      if (outPorts x.group r.entry).contains port.toNat then
        { x with run := some { r with staged := SMap.put r.staged port.toNat (x.ctx.reg rs) } }
      else { x with ctx := orFlag x.ctx 4 true }) s)

/-- SETCB: CB ← IMM[9:0]. -/
def execReinSetcb (e : Fin 16) (imm : BitVec 16) (s : State) : Host.Outcome State Fault Refusal :=
  reinCtx e (wordI 0x18 0 0 imm) (fun c => { c with cb := imm.extractLsb' 0 10 }) s

/-- An accumulator takes a saturated value; FLAGS[0] is ACC0 and FLAGS[1] ACC1 (R251). -/
def setAccSat (c : Context) (acc : Bool) (x : Int) : Context :=
  let v := sat64 x
  orFlag (c.setAcc acc v.1) (if acc then 1 else 0) v.2

/-- MUL: ACCn ← (RA × m) shifted right by s. -/
def execReinMul (e : Fin 16) (acc : Bool) (ra : Fin 16) (caddr : BitVec 10) (s : State) : Host.Outcome State Fault Refusal :=
  .next (reinStep e (wordM 0x20 acc ra caddr) (fun x => { x with ctx := setAccSat x.ctx acc (coefProduct x ra caddr) }) s)

/-- MAC: ACCn ← sat(ACCn + (RA × m) shifted right by s). -/
def execReinMac (e : Fin 16) (acc : Bool) (ra : Fin 16) (caddr : BitVec 10) (s : State) : Host.Outcome State Fault Refusal :=
  .next (reinStep e (wordM 0x21 acc ra caddr) (fun x => { x with ctx := setAccSat x.ctx acc ((x.ctx.acc acc).toInt + coefProduct x ra caddr) }) s)

/-- MSU: ACCn ← sat(ACCn − (RA × m) shifted right by s). -/
def execReinMsu (e : Fin 16) (acc : Bool) (ra : Fin 16) (caddr : BitVec 10) (s : State) : Host.Outcome State Fault Refusal :=
  .next (reinStep e (wordM 0x22 acc ra caddr) (fun x => { x with ctx := setAccSat x.ctx acc ((x.ctx.acc acc).toInt - coefProduct x ra caddr) }) s)

/-- CLRA: ACCn ← 0. -/
def execReinClra (e : Fin 16) (acc : Bool) (s : State) : Host.Outcome State Fault Refusal := reinCtx e (wordM 0x23 acc 0 0) (fun c => c.setAcc acc 0) s

/-- LDA: ACCn ← RA × 2^31. -/
def execReinLda (e : Fin 16) (acc : Bool) (ra : Fin 16) (s : State) : Host.Outcome State Fault Refusal :=
  reinCtx e (wordM 0x24 acc ra 0) (fun c => c.setAcc acc (BitVec.ofInt 64 ((c.reg ra).toInt * 2147483648))) s

/-- RND: RD ← ACCn / 2^(31 − L), rounded by MODE and saturated; FLAGS[2] (R252). -/
def execReinRnd (e rd : Fin 16) (acc : Bool) (mode : BitVec 2) (l : BitVec 4) (s : State) : Host.Outcome State Fault Refusal :=
  reinCtx e (wordX 0x25 rd acc mode l) (fun c =>
    let v := sat32 (roundAcc (c.acc acc).toInt (31 - l.toNat) mode.toNat)
    orFlag (c.setReg rd v.1) 2 v.2) s

/-- Continue at a target when a condition holds. -/
def branchIf (c : Context) (b : Bool) (target : BitVec 11) : Context := if b then { c with pc := target } else c

/-- B: continue at TARGET. -/
def execReinB (e : Fin 16) (target : BitVec 11) (s : State) : Host.Outcome State Fault Refusal :=
  reinCtx e (wordB 0x30 0 target) (fun c => branchIf c true target) s

/-- BZ: when RA = 0. -/
def execReinBz (e ra : Fin 16) (target : BitVec 11) (s : State) : Host.Outcome State Fault Refusal :=
  reinCtx e (wordB 0x31 ra target) (fun c => branchIf c (decide (c.reg ra = 0)) target) s

/-- BNZ: when RA ≠ 0. -/
def execReinBnz (e ra : Fin 16) (target : BitVec 11) (s : State) : Host.Outcome State Fault Refusal :=
  reinCtx e (wordB 0x32 ra target) (fun c => branchIf c (decide (c.reg ra ≠ 0)) target) s

/-- BLT: when RA < 0. -/
def execReinBlt (e ra : Fin 16) (target : BitVec 11) (s : State) : Host.Outcome State Fault Refusal :=
  reinCtx e (wordB 0x33 ra target) (fun c => branchIf c (decide ((c.reg ra).toInt < 0)) target) s

/-- BGE: when RA ≥ 0. -/
def execReinBge (e ra : Fin 16) (target : BitVec 11) (s : State) : Host.Outcome State Fault Refusal :=
  reinCtx e (wordB 0x34 ra target) (fun c => branchIf c (decide (0 ≤ (c.reg ra).toInt)) target) s

/-- DBNZ: RA ← RA − 1, wrapping; continue at TARGET when the result ≠ 0. -/
def execReinDbnz (e ra : Fin 16) (target : BitVec 11) (s : State) : Host.Outcome State Fault Refusal :=
  reinCtx e (wordB 0x35 ra target) (fun c =>
    let v := c.reg ra - 1
    branchIf (c.setReg ra v) (decide (v ≠ 0)) target) s

/-- CALL: push the next address and continue at TARGET; with four entries stacked it is a program fault (R256). -/
def execReinCall (e : Fin 16) (target : BitVec 11) (s : State) : Host.Outcome State Fault Refusal :=
  if (s.engineOf e.val).ctx.stack.length < 4 then
    reinCtx e (wordB 0x36 0 target) (fun c => { c with stack := c.pc :: c.stack, pc := target }) s
  else reinFault e (wordB 0x36 0 target) s

/-- RET: continue at the popped address; with none stacked it is a program fault. -/
def execReinRet (e : Fin 16) (s : State) : Host.Outcome State Fault Refusal :=
  match (s.engineOf e.val).ctx.stack with
  | [] => reinFault e (wordR 0x37 0 0 0) s
  | t :: r => reinCtx e (wordR 0x37 0 0 0) (fun c => { c with stack := r, pc := t }) s

/-- DONE: end the run and deliver the staged outputs (R258). -/
def execReinDone (e : Fin 16) (s : State) : Host.Outcome State Fault Refusal :=
  match (s.engineOf e.val).run with
  | none => .next s
  | some r =>
    if budgetOf r.entry ≤ r.count ∨ instrHere (s.engineOf e.val) ≠ wordR 0x3F 0 0 0 then .next s else .next (deliver s e.val r)

/-- Whether the run of engine e meets a program fault at its program counter (R256): a word with an OP outside the table or a
non-zero reserved bit, a CALL with four entries stacked, a RET with none. -/
def faultHere (x : Engine) : Bool :=
  let w := instrHere x
  !legalWord w || (decide (fld w 31 26 = 0x36) && decide (4 ≤ x.ctx.stack.length)) ||
    (decide (fld w 31 26 = 0x37) && x.ctx.stack.isEmpty)

/-- REIN_PROGRAM_FAULT (R256): the run meets an OP outside the table, a non-zero reserved bit, or a bad CALL or RET. -/
def execReinProgramFault (e : Fin 16) (s : State) : Host.Outcome State Fault Refusal :=
  if faultHere (s.engineOf e.val) then .next (stopRun s e.val 1) else .next s

/-- REIN_BUDGET_STOP (R256): the run has executed its budget without reaching DONE. -/
def execReinBudgetStop (e : Fin 16) (s : State) : Host.Outcome State Fault Refusal :=
  match (s.engineOf e.val).run with
  | none => .next s
  | some r => if budgetOf r.entry ≤ r.count then .next (stopRun s e.val 2) else .next s

end Sys2Proof.Machine
end

