-- ==== Sys2Proof/Machine/ReinGroup.lean ====
section
/-!
DEFINITION. The compare point, latches, pair holds, rejoin, and the group's and trace's object writes (R258, R262–R278).
-/

namespace Sys2Proof.Machine

/-! ### Votes (R272, R274) -/

/-- The set an engine delivered for an entry. -/
def deliveredSet (s : State) (entry e : Nat) : Option (SMap Word32) := SMap.find (s.engineOf e).delivered entry

/-- Every voting engine stopped with the same program fault or budget stop (R274, last paragraph). -/
def sameStop (s : State) (entry : Nat) (voters : List Nat) : Bool :=
  match voters.map fun e => SMap.find (s.engineOf e).stopped entry with
  | some w :: r => r.all (· = some w)
  | _ => false

/-- The set that at least two voting engines delivered alike. -/
def majority (s : State) (entry : Nat) (voters : List Nat) : Option (SMap Word32) :=
  let sets := voters.filterMap (deliveredSet s entry)
  sets.find? fun x => decide (2 ≤ (sets.filter (· = x)).length)

/-- Forget what was delivered for an entry. -/
def clearDelivered (s : State) (g entry : Nat) : State :=
  s.each (groupEngines s g) fun s e => s.modEngine e fun x => { x with
    delivered := SMap.erase x.delivered entry, stopped := SMap.erase x.stopped entry }

/-- A voting engine rolls back to its checkpoint and runs again each run triggered since (R274 steps 2, 3). -/
def rollBack (s : State) (g e : Nat) : State :=
  match (s.engineOf e).checkpoint with
  | none => s
  | some (c, undo) =>
    let retained := (s.groupOf g).retained
    let s := s.modEngine e fun x => { x with
      ctx := c, run := none, saved := [], waiting := [], delivered := [], stopped := [], reruns := retained, rerunSets := []
      data := undo.foldl (fun d w => if w.2 = 0 then SMap.erase d w.1 else SMap.put d w.1 w.2) x.data
      checkpoint := some (c, []) }
    match retained with
    | [] => s
    | (entry, inputs) :: rest => startRun (s.modEngine e fun x => { x with reruns := rest }) e entry inputs true

/-- PAIR_HOLD (R274): the latch holds, and every voting engine runs again from its checkpoint; without a valid checkpoint the
hold is persistent at once. -/
def pairHold (s : State) (g entry : Nat) (voters : List Nat) : State :=
  let s := holdPosition s g entry
  let s := if g < 4 then traceEvent s g 2 else s
  let s := s.modGroup g fun x => { x with pairHold := some entry, holdRerunDone := false, vote := setBit x.vote 9 }
  if voters.any fun e => (s.engineOf e).checkpoint.isNone then parkGroup (holdMissed s g) g
  else s.each voters fun s e => rollBack s g e

/-- A PROBATION engine is compared with the agreed set (R272, R273 step 7). -/
def probationCompare (s : State) (g entry : Nat) (set : SMap Word32) : State :=
  s.each ((groupEngines s g).filter fun e => decide (engRole s e = roProbation)) fun s e =>
    if deliveredSet s entry e = some set then
      (if entry = 1 then s.modEngine e fun x => { x with agreed := x.agreed + 1 } else s)
    else fenceEngine s e

/-- Voting slots that delivered the agreed set, as bits. -/
def voteBits (s : State) (entry : Nat) (set : SMap Word32) (voters : List Nat) : Nat :=
  voters.foldl (fun m e => if deliveredSet s entry e = some set then setBit m ((s.engineOf e).slot % 3) else m) 0

/-- The agreed set waits for its latch. A pair hold that stood on this entry is resolved (R274). -/
def agree (s : State) (g entry : Nat) (set : SMap Word32) : State :=
  let x := s.groupOf g
  let s := s.modGroup g fun x => { x with agreed := SMap.put x.agreed entry set }
  if x.pairHold = some entry ∧ x.holdRerunDone then
    ((s.modGroup g fun x => { x with pairHold := none, holdRerunDone := false }).bump (Obj.pairHolds g)).raise (groupSource g) g
  else s

/-- REIN_COMPARE (R272): the vote at the compare point of an entry. -/
def execReinCompare (g : Fin 5) (entry : Fin 3) (s : State) : Host.Outcome State Fault Refusal :=
  let g := g.val
  let entry := entry.val
  if !groupRuns s g then .next s
  else
    let s := s.modGroup g fun x => { x with awaited := x.awaited.filter (· ≠ entry) }
    let voters := votingEngines s g
    let hold := (s.groupOf g).pairHold
    if hold.isSome && !(s.groupOf g).holdRerunDone then .next s
    else if voters.length < 2 then .next (parkGroup s g)
    else
      let s := s.modGroup g fun x => { x with vote := 0 }
      match majority s entry voters with
      | some set =>
        let s := s.modGroup g fun x => { x with vote := voteBits s entry set voters }
        let odd := voters.filter fun e => deliveredSet s entry e ≠ some set
        if hold = some entry ∧ odd ≠ [] then .next (clearDelivered (parkGroup (holdMissed s g) g) g entry)
        else
          let s := probationCompare s g entry set
          let s := s.each odd fun s e => (fenceEngine s e).bump (Obj.mismatches g)
          .next (clearDelivered (agree s g entry set) g entry)
      | none =>
        if sameStop s entry voters then .next (clearDelivered (missLatch s g entry) g entry)
        else if hold = some entry then .next (clearDelivered (parkGroup (holdMissed (holdMissed s g) g) g) g entry)
        else .next (pairHold s g entry voters)

/-- PAIR_HOLD_RERUN_END (R274): the re-run sets are compared; the next latch of the entry then decides. The sets whose latch time has passed
are not latched; those of an entry whose compare point is still to come stay delivered. -/
def execPairHoldRerunEnd (g : Fin 5) (s : State) : Host.Outcome State Fault Refusal :=
  let g := g.val
  let voters := votingEngines s g
  match (s.groupOf g).pairHold with
  | none => .next s
  | some _ =>
    if (s.groupOf g).holdRerunDone then .next s
    else if voters.any fun e => !(s.engineOf e).reruns.isEmpty || ((s.engineOf e).run.map (·.rerun)).getD false then .next s
    else
      let alike := match voters with
        | [] => false
        | e :: r => r.all fun x => decide ((s.engineOf x).rerunSets = (s.engineOf e).rerunSets)
      if alike then
        let due := (s.groupOf g).awaited
        let s := s.each voters fun s e => s.modEngine e fun x => { x with
          delivered := x.delivered.filter fun d => due.contains d.1, stopped := x.stopped.filter fun d => due.contains d.1, rerunSets := [] }
        .next (s.modGroup g fun x => { x with holdRerunDone := true })
      else .next (parkGroup (holdMissed s g) g)

/-! ### Latches (R258, R262, R263) -/

/-- A HEATER or READER_BIAS frame from the outer loop, at priority 3 of the preamp queue (R179, R258, R301). -/
def setPointFrame (s : State) (a reg v : Nat) : State :=
  queueFrame s a { priority := 3, reg := reg, data := some v, verify := false, tries := 0 }

/-- What the outer latch of an actuator sends: set-points that differ from the values last sent. -/
def sendSetPoints (s : State) (a : Nat) : State :=
  if !formatSelected s a then s
  else
    let heater := min ((latchedOf s a 0x26).toNat % 256) (s.num (Obj.heaterMax a))
    let bias := (latchedOf s a 0x27).toNat % 256
    let c := s.chanOf a
    let s := if heater ≠ c.heaterSent then
        (setPointFrame s a (preampRegs s a).heater heater).modChan a fun c => { c with heaterSent := heater } else s
    if bias ≠ c.biasSent then
      (setPointFrame s a (preampRegs s a).readerBias bias).modChan a fun c => { c with biasSent := bias } else s

/-- What a latched set does: the commands to the motion die, the spindle's status bits, the set-points. -/
def latchEffects (s : State) (g entry : Nat) : State :=
  if g < 4 then
    match entry with
    | 0 => s.emit (.link "VCM_CMD" [(g : Int), (latchedOf s g 0x20).toInt, (latchedOf s g 0x21).toInt])
    | 1 => s
    | _ => sendSetPoints s g
  else
    match entry with
    | 0 => s.emit (.link "SPIN_CMD" [(latchedOf s 4 0x20).toInt])
    | 1 => if s.num Obj.spinMode = smRein then showStatus s else s
    | _ =>
      let lim : Int := (s.num Obj.targetRpm * 1024 * 5 / 1000 : Nat)
      let v := max (-lim) (min lim (latchedOf s 4 0x25).toInt)
      s.modGroup 4 fun x => { x with latched := SMap.put x.latched 0x25 (wi32 v) }

/-- REIN_LATCH (R262): at the latch time the agreed set becomes the output; with none the latch holds its previous output. -/
def execReinLatch (g : Fin 5) (entry : Fin 3) (s : State) : Host.Outcome State Fault Refusal :=
  let g := g.val
  let entry := entry.val
  match SMap.find (s.groupOf g).agreed entry with
  | none => .next s
  | some set =>
    let s := s.modGroup g fun x => { x with
      latched := set.foldl (fun m p => SMap.put m p.1 p.2) x.latched, agreed := SMap.erase x.agreed entry
      missedPos := if entry = 1 then 0 else x.missedPos, missedInner := if entry = 0 then 0 else x.missedInner }
    .next (latchEffects s g entry)

/-! ### Rejoin (R273, R276, R277) -/

/-- ENGINE_RELOAD_DONE (R273 step 3): the fenced engine's program memory is reloaded from the image copy. -/
def execEngineReloadDone (e : Fin 16) (s : State) : Host.Outcome State Fault Refusal :=
  if (s.engineOf e.val).rejoin = 1 then .next ((loadProgram s e.val).modEngine e.val fun x => { x with rejoin := 2 }) else .next s

/-- SNAPSHOT_COPY_DONE (R273 step 5): data and coefficient memory are copied from the ACTIVE engine; the registers follow at the
next checkpoint. -/
def execSnapshotCopyDone (e : Fin 16) (s : State) : Host.Outcome State Fault Refusal :=
  let x := s.engineOf e.val
  match activeEngine s x.group with
  | some a =>
    if x.rejoin = 2 then
      let y := s.engineOf a
      .next (s.modEngine e.val fun x => { x with data := y.data, coef := y.coef, rejoin := 3 })
    else .next s
  | none => .next s

/-- PROBATION_END (R273 step 7): 1,200 consecutive position latches in agreement make the engine STANDBY. -/
def execProbationEnd (e : Fin 16) (s : State) : Host.Outcome State Fault Refusal :=
  let x := s.engineOf e.val
  if engRole s e.val = roProbation ∧ 1200 ≤ x.agreed then .next (regroup (setEngRole s e.val roStandby) x.group) else .next s

/-- REIN_MEMORY_FAULT (R276): an uncorrectable word fences the engine at once, as a mismatch does. -/
def execReinMemoryFault (e : Fin 16) (s : State) : Host.Outcome State Fault Refusal :=
  let g := (s.engineOf e.val).group
  .next (parkIfAlone (fenceEngine s e.val) g)

/-- The group that the pool spare served last still has a retired engine, so at a start the spare joins that one (R277). -/
def spareOwed (s : State) : Option Nat :=
  let g := s.start.spareGroup
  if g < 5 ∧ ([3 * g, 3 * g + 1, 3 * g + 2].any fun e => decide (engState s e = stRetired)) then some g else none

/-- SPARE_JOIN (R277): the pool spare joins a group whose engine retires, and rejoins under R273 from its reload. -/
def spareJoin (s : State) (g slot : Nat) : State :=
  let free := decide (s.num Obj.serving = g) || (decide (s.num Obj.serving = 0xFF) && decide ((spareOwed s).getD g = g))
  if engRole s 15 = roNone ∧ engState s 15 < stFenced ∧ free then
    let s := s.modEngine 15 fun x => { Engine.reset g slot with rejoin := 1, injections := x.injections }
    (s.setNum Obj.serving g).setStart { s.start with spareGroup := g }
  else s

/-! ### Writes of group and trace objects (R265, R271, R275, R278, R280) -/

/-- COEF_WRITE accepted (R271). -/
def coefQueue (s : State) (g : Nat) (value : List Byte) : State := queueCoefs s g [(fieldAt value 0 2, coefOf (value.drop 4))]

/-- A coefficient write is pending on a group. -/
def coefBusy (s : State) (g : Nat) : Bool := (groupEngines s g).any fun e => !(s.engineOf e).coefDue.isEmpty

/-- SNAP_REQUEST accepted (R275, R282). -/
def snapAsk (s : State) (g v : Nat) : State := if v = 1 then s.modGroup g fun x => { x with snapPending := true } else s

/-- INJECT accepted (R278): one injection per engine and start does not count towards retirement; an event is raised. -/
def injectAsk (s : State) (g slot : Nat) : State :=
  match (groupEngines s g).find? fun e => decide ((s.engineOf e).slot = slot) with
  | some e => s.modEngine e fun x => { x with injectNext := true, injections := x.injections + 1 }
  | none => s

/-- TRACE_ARM = 1 (R280): the buffer is cleared and armed. -/
def traceArmNow (s : State) (a v : Nat) : State :=
  if v = 1 then (s.modTrace a fun _ => ⟨[], 0, 0, 0, false⟩).setNum (Obj.traceState a) 1 else s

/-- TRACE_FORCE = 1 (R280): a trigger of kind 0 fires at the next sample. -/
def traceForceNow (s : State) (a v : Nat) : State := if v = 1 then s.modTrace a fun t => { t with forced := true } else s

/-- OUTER_TRIGGER (R259): 500 ns after the position latch of each wedge whose number is a multiple of 24. -/
def execOuterTrigger (a : Fin 4) (s : State) : Host.Outcome State Fault Refusal :=
  if (s.chanOf a.val).wedge % 24 = 0 then .next (groupTrigger s a.val 2) else .next s

/-- SPINDLE_REIN_TRIGGER (R259): the spindle group's entries are triggered from the time base. -/
def execSpindleReinTrigger (entry : Fin 3) (s : State) : Host.Outcome State Fault Refusal := .next (groupTrigger s 4 entry.val)

end Sys2Proof.Machine
end

