-- ==== Sys2Proof/Machine/Reset.lean ====
section
/-!
DEFINITION. The dump of the protected region, the reset of the main die, the end of its rails and the beginning of a start
sequence (R40, R85, R86, R287, R431–R437, R477).
-/

namespace Sys2Proof.Machine

/-! ### The dump (R431–R436) -/

/-- The keeper store is in service (R437): DEGRADED[5]. -/
def keeperServes (s : State) : Bool := !bit (s.num Obj.degraded) 5

/-- The start step "dump replay" has completed in this run, so a dump may run (R41). -/
def replayComplete (s : State) : Bool := bit s.start.passedSteps 17 && !s.start.maintenance

/-- Nothing waits for the medium: no dirty block, no open entry. -/
def destaged (s : State) : Bool := (dirtySlots s).isEmpty && s.layout.journal.isEmpty && s.layout.replayQueue.isEmpty

/-- Steps 5 and 7 of R40 run: not before "dump replay" has completed, and not in PS4 once its entry has destaged the protected region
and retired the journal (R41, R43). -/
def dumpDue (s : State) : Bool := replayComplete s && !(decide (s.num Obj.powerState = 4) && destaged s)

/-- A dump is written: it is due, and the keeper store serves (R437). -/
def canDump (s : State) : Bool := dumpDue s && keeperServes s

/-- SEQ of a new generation: one higher than any in the store (R434). -/
def nextGeneration (m : Memory) : Nat := m.keeper.toList.foldl (fun n k => max n k.seq) 0 + 1

/-- The host ports and the cores are quiesced (R40 step 5): the ports stop responding and their links go down without notice, the commands
fetched so far are lost with their controllers, and the cores stop. -/
def quiesceHosts (s : State) : State :=
  let s := s.setPower { s.power with quiesced := true }
  let s := countSlots (s.setHost { s.host with fetchStopped := true, slots := [], psEntry := none, psWaiting := false })
  let s := s.each [Port.a, Port.b] fun s p => s.modCtrl p fun k => { k with
    linkUp := false, en := false, rdy := false, sqs := [], cqs := [], aers := [], notices := [] }
  s.each [0, 1] fun s p => (s.setNum (Obj.linkSpeed p) 0).setNum (Obj.linkWidth p) 0

/-- The dump starts (R435 steps 2, 3): dirty lines of the protected region are written back and the header goes into an erased
slot. With no erased slot it is skipped. -/
def startDump (s : State) : State :=
  let s := cleanLines s fun l => decide (protectedBase ≤ 64 * l)
  match (List.range 6).find? fun i => decide ((vget s.mem.keeper i KeeperSlot.reset).state = 0) with
  | none => s.setPower { s.power with dump := .skipped }
  | some i =>
    let seq := nextGeneration s.mem
    let s := s.setMem { s.mem with keeper := vmod s.mem.keeper i fun _ =>
      { KeeperSlot.reset with state := 2, seq := seq, uid := Config.fuseUniqueId.toNat } }
    s.setPower { s.power with dump := .running i seq }

/-- Steps 2–5 of R40 as far as they go: gates, heaters and lasers off, retract, and where they run, quiesce and dump. -/
def shutDown (s : State) : State :=
  let s := gatesOff s
  let s := s.each [0, 1, 2, 3] abortPlayers
  let s := retractLoaded s
  let s := s.setPower { s.power with writeKill := true, pfN := true }
  let s := if dumpDue s then quiesceHosts s else s
  if canDump s then startDump s else s.setPower { s.power with dump := .skipped }

/-- A cause that waits for the seal without bound: power fail and PWRDIS; the others wait 700 ms at most (R40, R287). -/
def OffCause.waitsForSeal : OffCause → Bool
  | .powerFail | .pwrdis => true
  | _ => false

/-- The sequence that a cause starts; a spin-up that waits is given up. While one runs already, a power fail takes over from its current step
(R287), and DEDUCED (log 39): any other cause changes nothing. -/
def beginOff (s : State) (c : OffCause) : State :=
  match s.power.off with
  | some d => if c.waitsForSeal && !d.waitsForSeal then s.setPower { s.power with off := some c } else s
  | none => shutDown ((spinCancel s).setPower { s.power with off := some c, dump := .idle })

/-- Every actuator is on its ramp: none is off it under the drive and none is retracting. -/
def allParked (s : State) : Bool :=
  [0, 1, 2, 3].all fun a => !loaded s a && decide (s.num (Obj.driveState a) ≠ dvRetracting)

/-- Step 6 of R40: with all heads on the ramp the preamp switches open. -/
def parkedSwitches (s : State) : State :=
  if s.power.off.isSome && allParked s then s.each [0, 1, 2, 3] fun s a => preampSwitch s a false else s

/-- POWER_FAIL (R40, R305): declared when both feeds are lost, or when PWRDIS has been high for 5 ms. The spindle, whatever it does,
rectifies into VM. -/
def powerFail (s : State) (c : OffCause) : State := parkedSwitches (beginOff (spinTo (s.raise 5) smRectify) c)

/-- The generation that a dump seals (R434): hold-up values when it follows a power fail, otherwise all ones (R305). -/
def sealed (s : State) (seq holdup vmMin : Nat) : KeeperSlot :=
  let measured := decide (s.power.off = some .powerFail) || decide (s.power.off = some .pwrdis)
  { state := 1, seq := seq, uid := Config.fuseUniqueId.toNat, cache := s.mem.cache, journal := s.layout.replayQueue ++ s.layout.journal
    dirtyGroups := s.layout.dirtyGroups, cells := s.mem.dram.filter fun c => decide (protectedBase ≤ c.1)
    poison := s.mem.poison.filter fun b => decide (protectedBase ≤ b)
    holdup := if measured then holdup % 2 ^ 32 else 2 ^ 32 - 1, vmMin := if measured then vmMin % 2 ^ 16 else 2 ^ 16 - 1 }

/-! ### RESTART after host ready (R100) -/

/-- The heads are on the ramp: the motion die is told, and the main die is reset as at the end of a failed attempt; what was raised is
kept for the ledger (R472). -/
def restartReset (s : State) : State :=
  let s := spinHold (s.each [0, 1, 2, 3] fun s a => preampSwitch s a false)
  let raised := s.raised
  let s := holdRaised (mainReset (sendResetNotice s)) raised
  s.setStart { s.start with mode := .starting }

/-- A restart that was accepted goes on once the protected region is destaged and the journal retired: the heads are parked, then the
main die is reset. -/
def settleRestart (s : State) : State :=
  if s.start.restartAsked && !s.start.running && !s.start.inReset && s.power.off.isNone && destaged s then
    let s := retractLoaded s
    if allParked s then restartReset s else s
  else s

/-! ### The end of the rails and the beginning of a start sequence -/

/-- The main die's rails go off: what it held is lost with its DRAM, its ledger beyond the copies, and its time base; an attempt that
ran is interrupted, and two in a row at the same step count as one failure of it (R88, R104); the safe state ends, and its entries decide
the next start's mode (R477). The motion die is told of a reset that no power fail has made (R286). -/
def railsCut (s : State) : State :=
  let cut := s.start.running && s.start.step ≠ 0
  let w := s.start.step
  let twice := cut && decide (s.start.interruptedAt = w)
  let at0 := if twice then 0 else if cut then w else s.start.interruptedAt
  let failed := s.num Obj.failedStarts
  let maint := s.start.restartMaintenance || (inSafe s && decide (3 ≤ s.num Obj.safeEntries))
  let s := if (s.power.off.map OffCause.waitsForSeal).getD true then s.setMotion { s.motion with notice := none } else sendResetNotice s
  let s := mainReset s
  let s := if twice then pendingFails s w else s
  let s := s.setMem { s.mem with dram := [], poison := [], written := [] }
  let s := s.setColl { s.coll with ledger := [], newestSeq := 0, restored := false, held := [], changed := false, mirroring := none }
  let s := { s with objs := SMap.erase s.objs Obj.tick }
  let s := s.setStart { s.start with
    interruptedAt := at0, history := if twice then setBit s.start.history w else s.start.history, restartMaintenance := maint, restartAsked := false, mode := .starting }
  let s := s.setPower { s.power with railsOff := true, powerGood := false, writeKill := false, pfN := false, strapsLatched := false, quiesced := false }
  let s := if twice then s.setNum Obj.failedStarts (min 3 (failed + 1)) else s
  let s := s.each [Port.a, Port.b] fun s p => (s.modCtrl p fun k => { k with linkUp := false })
  let s := s.each [0, 1] fun s p => (s.setNum (Obj.linkSpeed p) 0).setNum (Obj.linkWidth p) 0
  (s.setNum Obj.railState 0).setNum Obj.v3p3Enable 0

/-! ### The beginning of a start sequence (R85, R98) -/

/-- Power-good is reached (R38): the straps are sampled (R31), the drivers are off (R306), and a start sequence begins, in MAINTENANCE
where R98 says so. -/
def reachPowerGood (s : State) : State :=
  let n := s.start.powerOns + 1
  let maint := s.start.restartMaintenance || decide (s.num Obj.failedStarts = 3)
  let s := s.setPower { s.power with
    powerGood := true, railsOff := false, off := none, dump := .idle, strapsLatched := true, writeKill := false, pfN := false
    faultOutLow := false, quiesced := false }
  let s := (freshSequence s).setNum Obj.straps s.power.strapPins
  let s := (s.setNum Obj.railState 0x3F).setNum Obj.vcoreMv 860
  let s := s.each [0, 1, 2, 3] fun s a => s.setNum (Obj.driveState a) dvOff
  let s := s.setMotion { s.motion with
    retract := .replicate 4 .none, ma := .replicate 4 0, vcm := .replicate 4 0, spinWaitsPark := false, spinWaitsStill := false }
  let s := s.setNum Obj.heartbeatArmed 0
  let s := s.setStart { s.start with
    mode := .starting, maintenance := false, inReset := false, running := false, step := 0, restartMaintenance := false
    restartAsked := false, powerOns := n, tick0 := 0, passedSteps := 0, altSteps := 0 }
  let s := s.setNum Obj.powerOnCount (n % 2 ^ 32)
  if maint then maintenanceEntry s else s

end Sys2Proof.Machine
end

