-- ==== Sys2Proof/Machine/Power.lean ====
section
/-!
DEFINITION. Feeds, rails, power fail, VCORE and temperature (R20, R31–R47).
-/

namespace Sys2Proof.Machine

def feedBit : Feed → Nat
  | .vfa => 0
  | .vfb => 1

def feedPresentBit (s : State) (f : Feed) : Bool := bit (s.num Obj.feedState) (feedBit f)
def otherFeed : Feed → Feed
  | .vfa => .vfb
  | .vfb => .vfa

def anyFeed (s : State) : Bool := feedPresentBit s .vfa || feedPresentBit s .vfb
def pwrdisHigh (s : State) : Bool := bit (s.num Obj.feedState) 4
def setFeedState (s : State) (i : Nat) (b : Bool) : State := s.setNum Obj.feedState (putBit (s.num Obj.feedState) i b)

/-- The input switch of a feed. -/
def setSwitch (s : State) (f : Feed) (isOpen : Bool) : State :=
  match f with
  | .vfa => s.setPower { s.power with switchOpenA := isOpen }
  | .vfb => s.setPower { s.power with switchOpenB := isOpen }

/-- The main die has power. -/
def mainPowered (s : State) : Bool := s.power.powerGood && !s.power.railsOff

/-- FEED_PRESENT (R33). -/
def execFeedPresent (f : Feed) (s : State) : Host.Outcome State Fault Refusal := .next (setFeedState s (feedBit f) true)

/-- LAST_RESET_CAUSE of a cause (R307). -/
def OffCause.code : OffCause → Nat
  | .powerFail => 1
  | .pwrdis => 2
  | .heartbeatLoss => 3
  | .linkFault => 4
  | .safeRestart => 5

/-- A power fail declared between the end of the rails after another cause and their return (R287): R40 takes over where its steps are done,
so the spindle coasts, and the cause kept is the power fail's. -/
def failWhileOff (s : State) (c : OffCause) : State :=
  match s.power.off with
  | some d => if c.waitsForSeal && !d.waitsForSeal then
      (spinTo ((spinCancel s).setMotion { (spinCancel s).motion with notice := none }) smOff).setNum Obj.lastResetCause c.code
    else s
  | none => s

/-- FEED_LOST (R33, R34, R40): with the other feed present an event is all that follows; with neither, power fail is declared. A loss
by overvoltage opens the feed's switch. -/
def execFeedLost (f : Feed) (why : FeedLoss) (s : State) : Host.Outcome State Fault Refusal :=
  let s := setFeedState s (feedBit f) false
  let s := match why with
    | .overVoltage => setSwitch (setFeedState s (2 + feedBit f) true) f true
    | .underVoltage => s
  if mainPowered s then
    let s := s.raise (match why with
      | .overVoltage => 8
      | .underVoltage => 6 + feedBit f) (feedBit f)
    .next (if anyFeed s then s else powerFail s .powerFail)
  else if anyFeed s then .next s
  else .next ((failWhileOff s .powerFail).setPower { s.power with off := none })

/-- FEED_SWITCH_RECLOSE (R33). DESIGN CHOICE (log 71): the feed's overvoltage bit of FEED_STATE stands until its switch recloses. -/
def execFeedSwitchReclose (f : Feed) (s : State) : Host.Outcome State Fault Refusal :=
  .next (setSwitch (setFeedState s (2 + feedBit f) false) f false)

/-- POWER_GOOD (R38): with a feed present, PWRDIS low and the rails down for want of power. -/
def execPowerGood (s : State) : Host.Outcome State Fault Refusal :=
  if s.power.railsOff && s.power.off.isNone && anyFeed s && !pwrdisHigh s then .next (reachPowerGood s) else .next s

/-- The dump still runs. -/
def dumpRuns (s : State) : Bool := match s.power.dump with
  | .running _ _ => true
  | _ => false

/-- RAILS_OFF (R40 step 8, R287 step 7): the heads are parked, and the dump is sealed or skipped, or its wait has expired. -/
def execRailsOff (s : State) : Host.Outcome State Fault Refusal :=
  match s.power.off with
  | none => .next s
  | some c =>
    if s.power.railsOff || !allParked s || (c.waitsForSeal && dumpRuns s) then .next s
    else
      let s := if dumpRuns s then s.setPower { s.power with dump := .unsealed } else s
      let s := (railsCut s).setNum Obj.lastResetCause c.code
      let s := if c.waitsForSeal ∧ s.num Obj.spinMode = smRectify then spinTo s smOff else s
      .next (if anyFeed s then s else s.setPower { s.power with off := none })

/-- RAILS_UP (R41, R287 step 8): 50 ms later the rails come up as at power-on. -/
def execRailsUp (s : State) : Host.Outcome State Fault Refusal :=
  if s.power.railsOff && s.power.off.isSome && anyFeed s && !pwrdisHigh s then .next (reachPowerGood s) else .next s

/-- PWRDIS_ASSERT (R41): runs exactly as power fail. -/
def execPwrdisAssert (s : State) : Host.Outcome State Fault Refusal :=
  let s := setFeedState s 4 true
  .next (if mainPowered s then powerFail s .pwrdis
    else if s.power.off.isSome then (failWhileOff s .pwrdis).setPower { s.power with off := some .pwrdis } else s)

/-- PWRDIS_RELEASE (R41). -/
def execPwrdisRelease (s : State) : Host.Outcome State Fault Refusal := .next (setFeedState s 4 false)

/-- VM_COLLAPSE (R41, R306): VM falls below 5.5 V with no feed present: the rails drop, an unfinished generation stays unsealed, and the
motion die forgets what it keeps across rail cycles. -/
def execVmCollapse (s : State) : Host.Outcome State Fault Refusal :=
  if anyFeed s then .next s
  else
    let s := if dumpRuns s then s.setPower { s.power with dump := .unsealed } else s
    let s := if s.power.railsOff then s else railsCut s
    let feeds := s.num Obj.feedState
    let s := { s with objs := s.objs.filter fun e => !(decide (0x600000 ≤ e.1) && decide (e.1 < 0x610000)) && e.1 ≠ Obj.safeEntries }
    let s := (s.setNum Obj.feedState feeds).setMotion Motion.reset
    .next (s.setPower { s.power with off := none })

/-! ### VCORE (R20) -/

/-- VCORE_STEER (R20): one 5 mV step towards the lowest voltage at which every monitor reports the worst-corner rate plus 10 %; a monitor
below the worst-corner rate at 0.86 V raises an event. -/
def execVcoreSteer (minPercent : Nat) (s : State) : Host.Outcome State Fault Refusal :=
  let v := s.num Obj.vcoreMv
  if !mainPowered s || !bit s.start.passedSteps 2 then .next s
  else
    let s := if v = 860 ∧ minPercent < 100 then s.raise 10 else s
    if minPercent < 110 then .next (s.setNum Obj.vcoreMv (min 860 (v + 5)))
    else if 110 < minPercent then .next (s.setNum Obj.vcoreMv (max 620 (v - 5)))
    else .next s

/-! ### Temperature (R47) -/

/-- EFFECTIVE_STATE: the reported power state, no lower in number than PS1 while throttled (R47). -/
def settleEffective (s : State) : State :=
  let p := s.num Obj.powerState
  s.setNum Obj.effectiveState (if s.num Obj.thermalState = 1 then max p 1 else p)

def setTj (s : State) (tj : Int) : State := s.setNum Obj.tjC (ofSigned 16 tj)

/-- THROTTLE_ENTER (R47). -/
def execThrottleEnter (tj : Int) (s : State) : Host.Outcome State Fault Refusal :=
  let hot := decide (toSigned 16 (s.num Obj.throttleC) ≤ tj)
  let s := setTj s tj
  if hot && decide (s.num Obj.thermalState = 0) then .next (settleEffective ((s.setNum Obj.thermalState 1).raise 11)) else .next s

/-- THROTTLE_EXIT (R47). -/
def execThrottleExit (tj : Int) (s : State) : Host.Outcome State Fault Refusal :=
  let cool := decide (tj ≤ toSigned 16 (s.num Obj.throttleC) - 5)
  let s := setTj s tj
  if cool then .next (settleEffective (s.setNum Obj.thermalState 0)) else .next s

/-- THERMAL_SHUTDOWN (R47): at 120 °C the device enters the safe state. -/
def execThermalShutdown (tj : Int) (s : State) : Host.Outcome State Fault Refusal :=
  let s := setTj s tj
  if 120 ≤ tj then .next (safeBy s { source := 12 }) else .next s

end Sys2Proof.Machine
end

