-- ==== Sys2Proof/Machine/Motion.lean ====
section
/-!
DEFINITION. The motion die: the die-to-die link and its supervision, the spindle, the actuator drives and retract (R284–R307).
-/

namespace Sys2Proof.Machine

/-! ### Loading a rein group (R281) -/

/-- Engines of a group by slot. -/
def ownEngines (g : Nat) : List Nat := [3 * g, 3 * g + 1, 3 * g + 2]

/-- One engine is loaded and takes a role. -/
def loadEngine (s : State) (g e role : Nat) : State :=
  let s := s.modEngine e fun x => { Engine.reset g (e % 3) with injections := x.injections }
  setEngRole (setEngState (loadInitial (loadProgram s e) e) e stRunning) e role

/-- A group is loaded (R281): its engines that are not retired take the roles ACTIVE, SHADOW and STANDBY in slot order; the pool spare
joins for one that is, or joins again the group that it serves. -/
def startGroup (s : State) (g : Nat) : State :=
  let es := (ownEngines g).filter fun e => decide (engState s e ≠ stRetired)
  let s := (s.modGroup g fun _ => Group.reset).setNum (Obj.groupState g) gsIdle
  let s := s.each es.zipIdx fun s (e, i) => loadEngine s g e i
  let s := s.each ((ownEngines g).filter fun e => decide (engState s e = stRetired)) fun s e => spareJoin s g (e % 3)
  regroup s g

/-- A group stops: its engines become QUIESCED with role NONE. -/
def stopGroup (s : State) (g : Nat) : State :=
  let s := s.each (groupEngines s g) fun s e =>
    let s := setEngRole s e roNone
    if engState s e < stFenced then setEngState s e stQuiesced else s
  s.setNum (Obj.groupState g) gsIdle

/-! ### Link and supervision (R284–R288) -/

/-- A message from the main die has been taken, or one from the motion die: the next one has the next sequence number (R284). -/
def fromMain (s : State) : State :=
  s.setMotion { s.motion with resendsDown := 0, seqDown := (s.motion.seqDown + 1) % 256 }
def fromMotion (s : State) : State := s.setMotion { s.motion with resendsUp := 0, seqUp := (s.motion.seqUp + 1) % 256 }

/-- HEARTBEAT (R285): supervision is armed by the first one of "motion-die handshake". -/
def execHeartbeat (count : Nat) (s : State) : Host.Outcome State Fault Refusal :=
  let s := fromMain (s.setMotion { s.motion with heartbeatCount := count % 65536 })
  if s.start.step = 10 ∧ s.num Obj.heartbeatArmed = 0 then
    .next (((s.setMotion { s.motion with notice := none }).setNum Obj.heartbeatArmed 1).setNum Obj.linkState 1)
  else .next s

/-- The sequence of R287: WRITE_KILL, PF_N, quiesce and dump, retract, HOLD. HALTED is left by a power cycle only (R99, log entry 63). -/
def motionTakesOver (s : State) (c : OffCause) : State :=
  if s.start.mode = .halted then s
  else
  let s := (s.bump Obj.heartbeatLosses).setNum Obj.heartbeatArmed 0
  parkedSwitches (spinHold (beginOff (s.setMotion { s.motion with notice := none }) c))

/-- HEARTBEAT_LOSS (R285–R287): while supervision is armed, or when a notified reset has overrun. -/
def execHeartbeatLoss (s : State) : Host.Outcome State Fault Refusal :=
  if s.num Obj.heartbeatArmed = 1 ∨ s.motion.notice.isSome then .next (motionTakesOver s .heartbeatLoss) else .next s

/-- LINK_FAULT (R284, R285): both ends declare it: the main die enters the safe state, and the motion die takes over where its supervision
was armed. -/
def linkFault (s : State) : State :=
  let armed := decide (s.num Obj.heartbeatArmed = 1)
  let s := safeBy (s.setNum Obj.linkState 2) { source := 2 }
  if armed then motionTakesOver s .linkFault else s

/-- LINK_RESEND (R284): the message is sent again up to three times; a fourth failure is a link fault. -/
def execLinkResend (mainToMotion : Bool) (s : State) : Host.Outcome State Fault Refusal :=
  let n := if mainToMotion then s.motion.resendsDown else s.motion.resendsUp
  let set (s : State) (k : Nat) : State :=
    s.setMotion (if mainToMotion then { s.motion with resendsDown := k } else { s.motion with resendsUp := k })
  if 3 ≤ n then .next (linkFault (set s 0)) else .next (((set s (n + 1)).bump Obj.linkResends).raise 3)

/-- RESET_NOTICE (R286). -/
def execResetNotice (lengthUs : Nat) (s : State) : Host.Outcome State Fault Refusal :=
  .next ((fromMain (s.setMotion { s.motion with notice := some lengthUs })).setNum Obj.heartbeatArmed 0)

/-- STATUS (R284). -/
def execLinkStatus (vm : Nat) (temp : Int) (s : State) : Host.Outcome State Fault Refusal :=
  .next (((fromMotion s).setNum Obj.vmMv (vm % 65536)).setNum Obj.mdTempC (ofSigned 16 temp))

/-- MOTION_DIE_LOST (R285). -/
def execMotionDieLost (s : State) : Host.Outcome State Fault Refusal := .next (safeBy s { source := 2 })

/-! ### Actuator drives (R298–R302) -/

/-- The drive of actuator a takes commands (R302, R303): the group's position loop has taken its loaded heads over, no retract has started,
and the bridge is closed. -/
def takesCommands (s : State) (a : Nat) : Bool :=
  decide (s.num (Obj.driveState a) = dvServo) && groupRuns s a && !(vget s.motion.vcmOpen a false)

/-- VCM_CMD with MA_CMD (R298, R300): applied within the limits; the milli-actuator while its bridge is neither held nor fenced. -/
def execVcmCmd (a : Fin 4) (ua mv : Int) (s : State) : Host.Outcome State Fault Refusal :=
  let a := a.val
  let s := fromMain s
  if !takesCommands s a then .next s
  else
    let lim : Int := (s.num (Obj.vcmLimitMa a) * 1000 : Nat)
    let v := max (-lim) (min lim ua)
    let ml : Int := (min 32000 (s.num (Obj.maLimitMv a)) : Nat)
    let m := if !(vget s.motion.maHeld a false) ∧ !s.coll.fenced.contains (452 + 64 * a) then max (-ml) (min ml mv) else 0
    let s := s.setMotion { s.motion with vcm := vmod s.motion.vcm a fun _ => v, ma := vmod s.motion.ma a fun _ => m }
    .next (if v = ua then s else s.bump (Obj.vcmClamps a))

/-- SENSE (R298): current and voltage reach the group, and the inner entry is triggered (R259). A milli-actuator held after an overcurrent
reads 0 V (R300). -/
def execSenseMsg (a : Fin 4) (ua mv : Int) (s : State) : Host.Outcome State Fault Refusal :=
  let a := a.val
  let s := fromMotion s
  let mv := if vget s.motion.maHeld a false then 0 else mv
  let s := s.modGroup a fun x => { x with sensed := SMap.put (SMap.put x.sensed 0x0B (wi32 ua)) 0x0C (wi32 mv) }
  .next (traceSample (groupTrigger s a 0) a true)

/-- VCM_OVERCURRENT (R299): the bridge opens until the next start sequence, and the actuator is FENCED without being parked. -/
def execVcmOvercurrent (a : Fin 4) (s : State) : Host.Outcome State Fault Refusal :=
  let a := a.val
  if vget s.motion.vcmOpen a false then .next s
  else
    let s := s.setMotion { s.motion with
      vcmOpen := vmod s.motion.vcmOpen a fun _ => true, vcm := vmod s.motion.vcm a fun _ => 0, ma := vmod s.motion.ma a fun _ => 0
      retract := vmod s.motion.retract a fun _ => .none }
    let s := (driveFault s a 0).setNum (Obj.driveState a) dvOff
    .next ((fenceActuator s a .fault).raiseAct a 3 a)

/-- MA_OVERCURRENT (R300): the bridge is held at 0 V for the rest of the start sequence. -/
def execMaOvercurrent (a : Fin 4) (s : State) : Host.Outcome State Fault Refusal :=
  let a := a.val
  if vget s.motion.maHeld a false then .next s
  else
    let s := s.setMotion { s.motion with maHeld := vmod s.motion.maHeld a fun _ => true, ma := vmod s.motion.ma a fun _ => 0 }
    .next ((driveFault s a 1).raiseAct a 4 a)

/-- HEAD_LOAD_TIMEOUT (R302): the arm returns to the ramp. -/
def execHeadLoadTimeout (a : Fin 4) (s : State) : Host.Outcome State Fault Refusal :=
  let a := a.val
  if s.num (Obj.driveState a) = dvLoading then .next ((retract (driveFault s a 3) a).raiseAct a 3 a) else .next s

/-! ### Spindle (R289–R297) -/

/-- The spin-up profiles of the running image (R291): data words 0x3E0–0x3EF of the spindle group's record, and the alternate in
0x3F0–0x3FF. -/
def imageProfile (s : State) (alternate : Bool) : List Byte :=
  match recordIn (runningImage s) 4 with
  | some r => slice r.data (4 * (if alternate then 0x3F0 else 0x3E0)) 64
  | none => List.replicate 64 0

/-- The profile in force: the normal one of those handed over, or the alternate under the alternative of "spin-up". -/
def spinProfile (s : State) : List Byte := vget s.motion.profiles (if stepAlt s 11 then 1 else 0) []

def handoverZc (s : State) : Nat := fieldAt (spinProfile s) 12 2
def spinRetries (s : State) : Nat := byteAt (spinProfile s) 16

/-- A profile record is within its ranges (R291). -/
def spinProfileOk (p : List Byte) : Bool :=
  let within (o lo hi : Nat) : Bool := decide (lo ≤ fieldAt p o 2) && decide (fieldAt p o 2 ≤ hi)
  within 0 200 3000 && within 2 50 5000 && within 4 200 3000 && within 10 100 5000 && within 12 6 96 && within 14 1000 3000 &&
  decide (byteAt p 16 ≤ 3) && (span 17 64).all fun i => decide (byteAt p i = 0)

/-- How the motion die drives the spindle (R290): switches open; a current amplitude in µA; its own regulator on the zero-cross period;
regenerative braking that keeps VM below a level in mV; a short brake; rectification into VM at a level in mV. -/
inductive SpinDrive where
  | open | current (ua : Int) | regulator | regenerate (vmMv : Nat) | shortBrake | rectify (vmMv : Nat)
  deriving DecidableEq, Repr

/-- The drive of the spindle's mode (R289–R291, R305). No amplitude exceeds the SPIN_LIMIT_MA in force, and the alternative of "feed check"
limits ACCEL to 2,000 mA. -/
def spinDrive (s : State) : SpinDrive :=
  let ma (off : Nat) : Int := (fieldAt (spinProfile s) off 2 * 1000 : Nat)
  let limit : Int := (s.motion.spinLimit * 1000 : Nat)
  match s.num Obj.spinMode with
  | 1 => .current (min limit (ma 0))
  | 2 => .current (min limit (ma 4))
  | 3 => .current (min (min limit (ma 14)) (if stepAlt s 1 then 2000000 else 3000000))
  | 4 => .regulator
  | 5 => .current (max (-limit) (min limit s.motion.spinCmd))
  | 6 => if s.num Obj.speed < 600 * 1024 then .shortBrake else .regenerate 14000
  | 7 => .rectify 11000
  | _ => .open

/-- ALIGN begins. -/
def spinAlign (s : State) : State :=
  spinTo (s.setMotion { s.motion with zcValid := 0, zcMissing := 0, zcPhase := 3, spinWaitsStill := false, forward := true }) smAlign

/-- SPIN_LIMIT_MA is taken up by a spin-up or a speed change (R289). -/
def takeSpinLimit (s : State) : State := s.setMotion { s.motion with spinLimit := s.num Obj.spinLimitMa }

/-- The motion die acts on the speed it finds (R292). A spindle in FAULT is not started again (R296). -/
def beginSpin (s : State) : State :=
  if s.num Obj.spinMode = smFault then spinCancel s
  else
  let s := takeSpinLimit ((s.setMotion { s.motion with spinWaitsPark := false, spinTries := spinRetries s }).bump Obj.spinups)
  if 300 * 1024 ≤ s.num Obj.speed ∧ s.motion.forward then spinTo s (if speedNear s 10 then smHold else smAccel)
  else spinTo (s.setMotion { s.motion with spinWaitsStill := true }) smBrake

/-- "spin-up" begins (R292): a retract on every actuator, then the spindle, unless it is in FAULT (R296). -/
def spinUp (s : State) : State :=
  let s := s.each [0, 1, 2, 3] retract
  if s.num Obj.spinMode = smFault then s
  else
    let s := (s.setMotion { s.motion with spinWaitsPark := true }).setNum Obj.targetRpm s.motion.rpm
    if allParked s then beginSpin s else s

/-- SPIN_CMD (R290): the last command of the spindle group; REIN drives with it, clamped (spinDrive). -/
def execSpinCmd (ua : Int) (s : State) : Host.Outcome State Fault Refusal :=
  let s := fromMain s
  .next (s.setMotion { s.motion with spinCmd := ua })

/-- A stall or driver fault (R296): FAULT, every loaded actuator retracts, and an event whose reaction is SAFE. -/
def spindleFault (s : State) : State := (retractLoaded (spinTo (spinCancel s) smFault)).raise 15

/-- The spindle's index counts one zero-cross: once a revolution, of 6 × POLE_PAIRS of them, REV_NOW goes on for each actuator that reads no
servo (R219, R289). -/
def countCross (s : State) : State :=
  let n := s.motion.zcIndex + 1
  if n < 6 * s.num Obj.polePairs then s.setMotion { s.motion with zcIndex := n }
  else
    (s.setMotion { s.motion with zcIndex := 0 }).each [0, 1, 2, 3] fun s a =>
      if s.num (Obj.driveState a) = dvServo then s else countTurn s a

/-- A zero-cross that is missing or out of sequence (R289, R296): one is bridged, as if the expected phase had crossed; two in a row
above 300 rpm outside ALIGN and RAMP are a stall. -/
def zeroCrossLost (s : State) : State :=
  let mode := s.num Obj.spinMode
  let m := s.motion
  let s := (countCross s).setMotion { (countCross s).motion with
    zcValid := 0, zcMissing := m.zcMissing + 1, zcPhase := if m.zcPhase < 3 then (m.zcPhase + 1) % 3 else 3 }
  if mode = smOff ∨ mode = smFault ∨ mode = smAlign ∨ mode = smRamp then s
  else if 2 ≤ s.motion.zcMissing ∧ 300 * 1024 < s.num Obj.speed then spindleFault (s.bump Obj.spinFaults)
  else (s.bump Obj.spinFaults).raise 358

/-- A zero-cross of a phase comes in sequence: the phases SPU, SPV, SPW follow one another (log entry 38). -/
def inSequence (m : Motion) (phase : Nat) : Bool := decide (3 ≤ m.zcPhase) || decide (phase % 3 = (m.zcPhase + 1) % 3)

/-- The driver commutates on zero-crosses in this mode (R289, R290). -/
def commutates (mode : Nat) : Bool :=
  decide (mode = smRamp) || decide (mode = smAccel) || decide (mode = smHold) || decide (mode = smRein) || decide (mode = smBrake)

/-- ZERO_CROSS (R289): the speed over the last electrical step; handover in RAMP, and HOLD once within 1 % of the target. While the driver
commutates, one out of sequence counts as missing; while the spindle coasts, the order tells its direction (R292). -/
def execZeroCross (phase interval : Nat) (s : State) : Host.Outcome State Fault Refusal :=
  let mode := s.num Obj.spinMode
  let seq := inSequence s.motion phase
  let s := fromMotion s
  if commutates mode && !s.motion.spinWaitsStill && !seq then .next (zeroCrossLost s)
  else
    let s := countCross s
    let s := s.setMotion { s.motion with
      zcValid := s.motion.zcValid + 1, zcMissing := 0, zcInterval := interval, zcCycle := (interval :: s.motion.zcCycle).take 6, zcPhase := phase % 3
      forward := if commutates mode then s.motion.forward else seq }
    let speed := 60 * 25000000 * 1024 / (max 1 interval * (6 * max 1 (s.num Obj.polePairs)))
    let s := s.setNum Obj.speed (speed % 2 ^ 32)
    if mode = smRamp ∧ handoverZc s ≤ s.motion.zcValid then .next (spinTo s smAccel)
    else if (mode = smAccel ∨ mode = smBrake) ∧ s.num Obj.targetRpm ≠ 0 ∧ !s.motion.spinWaitsStill ∧ speedNear s 10 then .next (spinTo s smHold)
    else .next s

/-- ZERO_CROSS_MISSING (R289, R296). -/
def execZeroCrossMissing (s : State) : Host.Outcome State Fault Refusal := .next (zeroCrossLost s)

/-- SPINDLE_DRIVER_FAULT (R296). -/
def execSpindleDriverFault (s : State) : Host.Outcome State Fault Refusal :=
  if s.num Obj.spinMode = smFault then .next s else .next (spindleFault s)

/-- SPIN_ALIGN_END (R291). -/
def execSpinAlignEnd (s : State) : Host.Outcome State Fault Refusal :=
  if s.num Obj.spinMode = smAlign then .next (spinTo (s.setMotion { s.motion with zcValid := 0 }) smRamp) else .next s

/-- SPIN_RAMP_END (R292): the ramp ends. With HANDOVER_ZC zero-crosses in sequence it hands over; otherwise another try, or the step fails.
DESIGN CHOICE (log 80): a spin-up of another occasion, which no step waits for, stops the spindle. -/
def execSpinRampEnd (handover : Bool) (s : State) : Host.Outcome State Fault Refusal :=
  if s.num Obj.spinMode ≠ smRamp then .next s
  else if handover ∧ handoverZc s ≤ s.motion.zcValid then .next (spinTo s smAccel)
  else if 0 < s.motion.spinTries then .next (spinAlign (s.setMotion { s.motion with spinTries := s.motion.spinTries - 1 }))
  else if s.start.running ∧ s.start.step = 11 ∧ s.power.off.isNone then .next (failAttempt s srFailed 0)
  else .next (spinStop s)

/-- SPINDLE_STANDSTILL (R292, R297): braking ends; the spin-up that waited aligns, otherwise the spindle is OFF. -/
def execSpindleStandstill (s : State) : Host.Outcome State Fault Refusal :=
  if s.num Obj.spinMode ≠ smBrake then .next (s.setNum Obj.speed 0)
  else
    let s := s.setNum Obj.speed 0
    .next (if s.motion.spinWaitsStill then spinAlign s else spinTo s smOff)

/-! ### DRIVE (R284, R293, R297, R302, R303) -/

/-- A load of actuator a (R302): from the ramp, with its bridge closed. -/
def loadHeads (s : State) (a : Nat) : State :=
  let d := s.num (Obj.driveState a)
  if (d = dvParked ∨ d = dvOff) ∧ !(vget s.motion.vcmOpen a false) then
    (s.setMotion { s.motion with
      retract := vmod s.motion.retract a fun _ => .none
      drives := vmod s.motion.drives a fun _ => (s.num Obj.loadBemfMv, 0, 0) }).setNum (Obj.driveState a) dvLoading
  else s

/-- The motion die drives the spindle and turns it fast enough to go from one speed to another (R290, R292). -/
def changesSpeed (s : State) : Bool :=
  let m := s.num Obj.spinMode
  (decide (m = smHold) || decide (m = smAccel) || decide (m = smBrake)) && !s.motion.spinWaitsStill && decide (300 * 1024 ≤ s.num Obj.speed)

/-- A change of target (R293): the spindle group carries it out in REIN, where PHASE_LOCKED reads 0 while it runs; otherwise the motion die
does, in ACCEL or BRAKE until the speed is within 1 % of the target. -/
def spinTarget (s : State) (rpm : Nat) : State :=
  if rpm = 0 then spinStop s
  else
    let s := takeSpinLimit (s.setNum Obj.targetRpm (rpm % 65536))
    if s.num Obj.spinMode = smRein then showStatus s
    else if changesSpeed s then
      spinTo s (if speedNear s 10 then smHold else if s.num Obj.speed < rpm % 65536 * 1024 then smAccel else smBrake)
    else s

/-- DRIVE: one of the drive's commands. -/
def execDriveMsg (cmd : DriveCmd) (s : State) : Host.Outcome State Fault Refusal :=
  let s := fromMain s
  match cmd with
  | .retract a => .next (retract s a.val)
  | .load a => .next (loadHeads s a.val)
  | .brake => .next (spinStop s)
  | .target rpm => .next (spinTarget s rpm)
  | .mode true => .next (spinHold s)
  | .mode false => .next (spinRein s)

/-! ### Retract (R303, R304) -/

/-- RAMP_CONTACT (R304 step 4): the arm is against the ramp, and the push begins. -/
def execRampContact (a : Fin 4) (s : State) : Host.Outcome State Fault Refusal :=
  if s.num (Obj.driveState a.val) = dvRetracting then
    .next (s.setMotion { s.motion with retract := vmod s.motion.retract a.val fun _ => .pushing })
  else .next s

/-- The heads of actuator a are on the ramp: PARKED with its bridge off. What waited for it follows: a disabled actuator is QUIESCED with
its engines (R189, R281), a spin-up goes on (R292), a power-fail sequence opens the preamp switches (R40), a restart resets the main die
(R100). -/
def parked (s : State) (a ms : Nat) : State :=
  let s := s.setMotion { s.motion with
    retract := vmod s.motion.retract a fun _ => .none, vcm := vmod s.motion.vcm a fun _ => 0
    drives := vmod s.motion.drives a fun _ => (0, 0, 0), retractMs := vmod s.motion.retractMs a fun _ => ms }
  let s := (s.setNum (Obj.driveState a) dvParked).setNum (Obj.retractLastMs a) (ms % 65536)
  let s := if s.num (Obj.actuatorState a) = stQuiescing then setActuator (stopGroup s a) a stQuiesced else s
  let s := if s.motion.spinWaitsPark ∧ allParked s then beginSpin s else s
  let s := if allParked s then finishShutdown s else s
  settleRestart (parkedSwitches s)

/-- RETRACT_PARKED (R304 step 5): the push that followed ramp contact has ended. -/
def execRetractParked (a : Fin 4) (ms : Nat) (s : State) : Host.Outcome State Fault Refusal :=
  if s.num (Obj.driveState a.val) = dvRetracting ∧ vget s.motion.retract a.val .none = .pushing then .next (parked s a.val ms) else .next s

/-- RETRACT_TIMEOUT (R304): ramp contact did not come; the arm is pushed 45 ms anyway and reported PARKED. The spec gives no value for
RETRACT_LAST_MS but that the retract ends within 230 ms: a free value within that bound (log entry 1). -/
def execRetractTimeout (a : Fin 4) (s : State) : Host.Outcome State Fault Refusal :=
  if s.num (Obj.driveState a.val) = dvRetracting ∧ vget s.motion.retract a.val .none ≠ .pushing then
    let (v, s) := s.draw
    .next ((parked (driveFault s a.val 2) a.val (v % 231)).raiseAct a.val 3 a.val)
  else .next s

/-- DUMP_SEALED (R434, R435 step 5): the seal is programmed; DUMP_DONE is pulsed. -/
def execDumpSealed (holdupMj vmMin : Nat) (s : State) : Host.Outcome State Fault Refusal :=
  match s.power.dump with
  | .running slot seq =>
    let k := sealed s seq holdupMj vmMin
    let s := s.setMem { s.mem with keeper := vmod s.mem.keeper slot fun _ => k }
    .next ((s.setPower { s.power with dump := .done }).emit (.link "DUMP_DONE" []))
  | _ => .next s

end Sys2Proof.Machine
end

