-- ==== Sys2Proof/Machine/Servo.lean ====
section
/-!
DEFINITION. Servo syncs: the T counter, the revolution count, the position comparator, the track check, the profile sequencer and the
position trigger (R159, R219, R228, R231, R261–R266, R302).
-/

namespace Sys2Proof.Machine

/-! ### The position comparator (R263, R264) -/

/-- |PES| is within WU_LIMIT. -/
def pesWithin (s : State) (a : Nat) (pes : Int) : Bool := decide (pes.natAbs ≤ s.num (Obj.wuLimit a))

/-- Causes for which the comparator asserts write-unsafe. -/
def positionUnsafe (s : State) (a : Nat) (pes : Int) : Bool :=
  !pesWithin s a pes || decide (s.num (Obj.trackOffset a) ≠ 0) || (s.actOf a).seekRun.isSome ||
  (latchedOf s a 0x24).toNat.testBit 1 || decide ((s.groupOf a).missedPos ≠ 0) || decide ((s.groupOf a).pairHold = some 1)

/-- The comparator acts on a PES. -/
def comparePosition (s : State) (a : Nat) (pes : Int) : State :=
  if positionUnsafe s a pes then assertWu s a .position else clearWu s a .position

/-- On-track for the track check (R264). -/
def onTrack (s : State) (a : Nat) (pes : Int) : Bool := (latchedOf s a 0x24).toNat.testBit 0 && pesWithin s a pes

/-! ### The track check (R231) -/

/-- Wedge and revolution of the track check of a sentence. -/
def checkAt (h : Header) : Nat × Nat :=
  if h.startWedge = 0 then (599, (h.startRev + 65535) % 65536) else (h.startWedge - 1, h.startRev)

/-- The player whose sentence is checked at this wedge. -/
def checkDue (s : State) (a wedge : Nat) : Option Nat :=
  match (s.actOf a).playing with
  | some p =>
    let pl := s.playerOf p
    if pl.preroll && !pl.playing && decide (s.num (Obj.loadState p) = 2) && decide (checkAt pl.header = (wedge, revNow s a % 65536))
    then some p else none
  | none => none

/-- TRACK_CHECK (R231): when it passes, the first clause runs. A level of write-unsafe that stands locks the sentence from here on (R176). -/
def trackCheck (s : State) (a wedge track : Nat) (pes : Int) : State :=
  match checkDue s a wedge with
  | none => s
  | some p =>
    if (s.playerOf p).header.track = track ∧ onTrack s a pes then
      let s := (s.modPlayer p fun pl => { pl with playing := true }).setNum (Obj.loadState p) 3
      if (s.chanOf a).wu = 0 then s else lockSentence s a
    else finishSentence s p .settleMiss

/-- START_TICK is stamped at the servo sync of START_WEDGE, or at its predicted time where it is missed (R159, R225). -/
def stampStart (s : State) (a wedge : Nat) : State :=
  match (s.actOf a).playing with
  | some p =>
    let pl := s.playerOf p
    if pl.playing ∧ pl.header.startWedge = wedge ∧ pl.startTick = 0 then
      s.modPlayer p fun pl => { pl with startTick := (s.chanOf a).syncTick }
    else s
  | none => s

/-! ### The profile sequencer (R266) -/

/-- Ticks from one servo sync to the next at the format speed (R140), rounded down (DESIGN CHOICE, log 81). -/
def wedgeTicks (s : State) : Nat := 2500000 / s.motion.rpm

/-- Why a seek is refused. -/
def seekRefused (s : State) (a : Nat) (p : Option Profile) (d : Int) : Bool :=
  match p with
  | none => true
  | some p =>
    !bit p.actuators a || decide (d.natAbs < p.distMin) || decide (p.distMax < d.natAbs) ||
    decide (s.num (Obj.driveState a) ≠ dvServo) || !(decide (s.num Obj.spinMode = smHold) || decide (s.num Obj.spinMode = smRein))

/-- A seek that starts within one wedge of START_TICK fulfils its announcement (R322). -/
def seekNoticed (s : State) (a : Nat) : State :=
  let late (x : Nat × Nat) : Bool := decide (wedgeTicks s < (toSigned 32 ((s.tick + 2 ^ 32 - x.1 % 2 ^ 32) % 2 ^ 32)).natAbs)
  { s with girth := { s.girth with ownAnnounced := vmod s.girth.ownAnnounced a (·.filter late) } }

/-- Ticks until the peak of the seek that runs on actuator b comes, counted from the servo sync at which its profile wedge began; a peak lasts
one profile wedge (log entry 56). -/
def peakTime (s : State) (b : Nat) (p : Profile) : Int :=
  ((s.chanOf b).syncTick : Int) + ((p.peakWedge : Int) - (s.actOf b).seekWedge) * wedgeTicks s

/-- Peak currents of the seeks running on other actuators whose peaks overlap one that begins k wedges from now (R36). -/
def peaksAt (s : State) (a k : Nat) : Nat :=
  (([0, 1, 2, 3].filter (· ≠ a)).map fun b => match runningProfile s b with
    | some (p, _) => if (peakTime s b p - ((s.tick + k * wedgeTicks s : Nat) : Int)).natAbs < wedgeTicks s then p.peakMa else 0
    | none => 0).sum

/-- A seek would exceed SEEK_CURRENT_BUDGET: it starts later, at the earliest wedge where it fits (R36). -/
def overBudget (s : State) (a : Nat) (p : Profile) : Bool :=
  decide (s.num Obj.seekCurrentBudget < peaksAt s a p.peakWedge + p.peakMa)

/-- SEEK_START (R266): the handed-over seek starts at the first position trigger after the hand-over, since no field of a sentence carries
another wedge (DESIGN CHOICE, log 56); it waits for the current budget (R36), or is refused with an event of the group's
program source. -/
def seekStart (s : State) (a track : Nat) : State :=
  match (s.actOf a).seek with
  | none => s
  | some (n, target) =>
    let d : Int := target - track
    let profile := (profilesInForce s a).find? (·.number = n)
    let wait := match profile with
      | some p => overBudget s a p
      | none => false
    if seekRefused s a profile d then (s.modAct a fun x => { x with seek := none }).raise (programSource a) a
    else if wait then s
    else
      let s := s.modAct a fun x => { x with seek := none }
      let s := seekNoticed s a
      traceEvent (s.modAct a fun x => { x with seekRun := some (n, d), seekWedge := 0 }) a 4

/-- A running seek goes on to its next profile wedge, and ends after WEDGES wedges. -/
def seekAdvance (s : State) (a : Nat) : State :=
  match runningProfile s a with
  | none => s.modAct a fun x => { x with seekRun := none }
  | some (p, _) =>
    if (s.actOf a).seekWedge + 1 < p.wedges then s.modAct a fun x => { x with seekWedge := x.seekWedge + 1 }
    else traceEvent (s.modAct a fun x => { x with seekRun := none, seekWedge := 0 }) a 5

/-- What the sequencer does at a position trigger. -/
def seekStep (s : State) (a track : Nat) : State :=
  if (s.actOf a).seekRun.isSome then seekAdvance s a else seekStart s a track

/-! ### The spindle's phase, and the trim sums (R295, R320, R326) -/

/-- Measured phase of the spindle at master time t (R320). -/
def measuredPhase (t rpm : Nat) : Nat := (t * rpm % 1500000000) * 2 ^ 32 / 1500000000

/-- A quotient rounded as no rule says: exact where it is whole, else one of the two neighbours (log entry 1). -/
def quotient (n : Int) (d : Nat) : Int := n / d + if n % d = 0 then 0 else (Config.roundUp n d % 2 : Nat)

/-- EPOCH_OFFSET now: as the last SYNC gave it, corrected for what the master's time gains on the device's own (R314; log entry 88). -/
def epochNow (s : State) : Int :=
  toSigned 64 (s.num Obj.epochOffset) + match s.girth.drift with
    | some (t, gained, span) => if span = 0 then 0 else quotient (((s.tick : Int) - t) * gained) span
    | none => 0

/-- Master time: the tick count of the master, or the epoch that it continues (R313, R314, R316). -/
def masterTick (s : State) : Nat := ((s.tick : Int) + epochNow s).toNat

/-- The servo sync of wedge 0 on the lowest-numbered actuator that tracks stamps PHASE_ERR: assigned less measured, wrapped. -/
def stampPhase (s : State) (a wedge : Nat) : State :=
  if wedge = 0 ∧ ([0, 1, 2, 3].find? (tracking s)) = some a then
    let e := (s.num Obj.assignedPhase : Int) - measuredPhase (masterTick s) s.motion.rpm
    s.modGroup 4 fun x => { x with sensed := SMap.put x.sensed 0x01 (wi32 e) }
  else s

/-- The sums of R326 run over the position triggers of each announcement, while its profile lasts. -/
def trimSums (s : State) (a : Nat) (pes : Int) : State :=
  if s.girth.announcements.isEmpty then s
  else
    let (v, s) := s.draw
    let ff := girthFf s a v
    let seeking := (s.actOf a).seekRun.isSome
    let l := s.girth.announcements.map fun x => if (announcedWedge s a x).isSome then { x with
      sumPF := vmod x.sumPF a (· + pes * ff), sumF2 := vmod x.sumF2 a (· + ff * ff)
      overlapped := vmod x.overlapped a (· || seeking) } else x
    { s with girth := { s.girth with announcements := l } }

/-! ### Revolutions and starts -/

/-- REV_NOW increments at wedge 0 (R219). -/
def countRev (s : State) (a wedge : Nat) : State := if wedge = 0 then countTurn s a else s

/-- The span after an underrun ends with the servo sync of its start wedge one revolution later (R228). -/
def releaseBlock (s : State) (a : Nat) : State := match (s.actOf a).blockUntil with
  | some (w, rev) => if wedgesTo s a rev w ≤ 0 then s.modAct a fun x => { x with blockUntil := none } else s
  | none => s

/-- At the servo sync of its start wedge, a READY sentence that is not taken up is an underrun: the one before has not ended (R228). -/
def missedStarts (s : State) (a : Nat) : State :=
  s.each [2 * a, 2 * a + 1] fun s p =>
    if isReady s p && startReached s a (s.playerOf p).header then underrunNow s p else s

/-- Lane of the servo demodulator: L1, or the lowest-numbered lane in use when L1 is not (R159). -/
def servoLaneOf (lanes : Nat) : Nat := if bit lanes 1 then 1 else if bit lanes 0 then 0 else if bit lanes 2 then 2 else 1

/-- The lanes that a sector read now would use (R186). -/
def lanesNow (s : State) (a : Nat) : Nat := match (s.actOf a).playing with
  | some p => lanesInUse s a p
  | none => lanesRunning s a &&& s.num (Obj.readerMask a ((s.actOf a).lastSurface % 12))

/-- A load ends with its first servo sync (R302): the arm is held at zero back-EMF until the position loop takes over; an enabled actuator is RUNNING again (R189). -/
def confirmLoad (s : State) (a : Nat) : State :=
  if s.num (Obj.driveState a) = dvLoading then
    let s := (s.setNum (Obj.driveState a) dvServo).setMotion { s.motion with drives := vmod s.motion.drives a fun _ => (0, 0, 0) }
    if s.num (Obj.actuatorState a) = stQuiesced ∧ s.num (Obj.actuatorEnable a) = 1 ∧ bit s.start.passedSteps 15 then
      setActuator s a stRunning
    else s
  else s

/-- One wedge gives way to the next (R257): an open write gate was open to the end of its data area, and what lies more than 24 wedges
back is forgotten. -/
def passWedge (s : State) (a : Nat) : State :=
  let dataT := match (s.actOf a).playing with
    | some p => (s.playerOf p).header.dataT
    | none => 0
  s.modChan a fun c =>
    let c := noteWritten c dataT
    let n := c.syncs + 1
    { c with syncs := n, duty := c.duty.filter fun e => decide (n ≤ e.1 + 24), vga := c.vga.filter fun e => decide (n ≤ e.1 + 24) }

/-- SERVO_SYNC (R159, R261): wedge, track and PES are delivered, the T counter restarts, and the position sample runs. -/
def execServoSync (a : Fin 4) (wedge track : Nat) (pes : Int) (s : State) : Host.Outcome State Fault Refusal :=
  let a := a.val
  let wedge := wedge % 600
  let track := track % 2 ^ 24
  let now := s.tick
  let lane := servoLaneOf (lanesNow s a)
  let s := (passWedge s a).modChan a fun c =>
    { c with wedge := wedge, track := track, pes := pes, servoMissed := false, syncTick := now, headT := 0, servoLane := lane }
  let s := clearWu (confirmLoad s a) a .servoTimeout
  let s := missedStarts (releaseBlock (countRev s a wedge) a) a
  let s := comparePosition s a pes
  let s := stampStart (trackCheck s a wedge track pes) a wedge
  let s := postEvent s a evServo
  let s := trimSums (stampPhase (seekStep s a track) a wedge) a pes
  .next (traceSample (groupTrigger s a 1) a false)

/-- Whether a wedge lies in a sentence's window (R222). -/
def inWindow (h : Header) (wedge : Nat) : Bool := decide ((wedge + 600 - h.startWedge) % 600 < h.wedges)

/-- SERVO_SYNC_TIMEOUT (R159): 64 T after the predicted time the T counter goes on from it, write-unsafe is asserted, and the results are
marked missed; a sentence whose track check it was ends SETTLE_MISS (R231). -/
def execServoSyncTimeout (a : Fin 4) (s : State) : Host.Outcome State Fault Refusal :=
  let a := a.val
  let wedge := ((s.chanOf a).wedge + 1) % 600
  let predicted := (s.chanOf a).syncTick + wedgeTicks s
  let s := (passWedge s a).modChan a fun c => { c with wedge := wedge, servoMissed := true, syncTick := predicted, headT := 64 }
  let s := if (s.actOf a).seekRun.isSome then seekAdvance s a else s
  let s := missedStarts (releaseBlock (countRev s a wedge) a) a
  let s := assertWu s a .servoTimeout
  let s := match (s.actOf a).playing with
    | some p => if (s.playerOf p).playing && inWindow (s.playerOf p).header wedge then setFlags s p fServoMissed else s
    | none => s
  match checkDue s a wedge with
  | some p => .next (finishSentence s p .settleMiss)
  | none => .next (stampStart s a wedge)

end Sys2Proof.Machine
end

