-- ==== Sys2Proof/Machine/Girth.lean ====
section
/-!
DEFINITION. The girth link: forwarding, time, hop numbers, mastership, phase, seek announcements and health (R308–R331). DICT frames are
served in Machine/DictService.lean. A payload is bits [99:16] of its frame as a number.
-/

namespace Sys2Proof.Machine

def State.setGirth (s : State) (g : Girth) : State := { s with girth := g }

/-- Frame types (R309). -/
def gtSync : Nat := 1
def gtPhase : Nat := 2
def gtSeek : Nat := 3
def gtHealth : Nat := 4
def gtDict : Nat := 5

/-- GIRTH_STATE values. -/
def gListening : Nat := 0
def gMember : Nat := 1
def gMaster : Nat := 2
def gUnjoined : Nat := 3

def ownTag : Nat := Config.fuseUniqueId.toNat % 65536
def girthHop (s : State) : Nat := s.num Obj.hop

/-- The girth input listens: it is RUNNING, or the start step "girth join" runs it before its STATE is decided (R80, R319). -/
def girthDelivers (s : State) : Bool :=
  decide (s.num Obj.girthInputState = stRunning) ||
  (decide (s.start.step = 12) && decide (s.num Obj.girthInputState = stQuiesced) && decide (s.num Obj.girthInputEnable = 1))

/-- The girth input delivers and the device sends own frames: it listens, and is not HALTED (R99, R330). -/
def girthRuns (s : State) : Bool := girthDelivers s && decide (s.start.mode ≠ .halted) && mainPowered s

/-! ### Frames and forwarding (R309–R312) -/

/-- The 16 bytes of a frame in the order of the line, bits [127:120] first (R54, R309); a poisoned one carries the complement of its CRC
(R311). -/
def girthFrame (typ origin hops payload : Nat) (good : Bool) : List Byte :=
  let head := (leBytes 14 (typ % 256 * 2 ^ 104 + origin % 1024 * 2 ^ 94 + hops % 1024 * 2 ^ 84 + payload % 2 ^ 84)).reverse
  head ++ (leBytes 2 (if good then crc16 head else 0xFFFF - crc16 head)).reverse

/-- A SYNC is one that this device sent as master: the one it sent last, or, for a master that was not elected, any with its tag, since two
such masters with equal tags take each other's for their own (R310, R317). -/
def ownSync (s : State) (tick baseHop tag : Nat) : Bool :=
  decide (tag = ownTag) && (decide (s.girth.lastSync = some (tick % 2 ^ 54, baseHop)) ||
    (decide (s.num Obj.girthState = gMaster) && !s.girth.elected))

/-- Whether the island forwards a frame. -/
def forwards (s : State) (typ : Nat) (h : GirthHeader) (payload : Nat) : Bool :=
  !(decide (typ ≠ gtSync) && decide (h.origin = girthHop s)) &&
  !(decide (typ = gtSync) && ownSync s (fld payload 83 30) (fld payload 29 20) (fld payload 19 4)) &&
  !(decide (typ = gtDict) && decide (fld payload 83 74 = girthHop s)) &&
  !(decide (typ ≠ gtSync) && decide (h.hops = 1023))

/-- The forwarded copy: HOPS one higher, held at 1,023; a SYNC that arrives with 1,023 gets OVER; a bad CRC goes on complemented. It leaves
6 ticks after it came, and takes 34 ticks on the line (R309, R310). -/
def forward (s : State) (typ : Nat) (h : GirthHeader) (payload : Nat) : State :=
  if mainPowered s && forwards s typ h payload then
    let payload := if typ = gtSync ∧ h.hops = 1023 then setBit payload 1 else payload
    (s.emit (.girth (girthFrame typ h.origin (min 1023 (h.hops + 1)) payload (decide (h.crc = .good))))).setGirth
      { s.girth with lineFree := s.tick + 40 }
  else s

/-- GIRTH_CRC_FAIL (R311): counted; a fault first seen here raises an event of the input's source. -/
def countCrc (s : State) (c : CrcState) : State :=
  match c with
  | .good => s
  | .poisoned => s.bump Obj.poisoned
  | .bad => (s.bump Obj.crcErrors).raise 39

/-- Frames in the receive FIFO. DESIGN CHOICE (log 66): it drains at each tick of 40 ns. -/
def rxHeld (s : State) : Nat := if s.girth.rxTick = s.tick then s.girth.rxCount else 0

/-- A frame enters the receive FIFO of 8, or is dropped and counted, with an event of the input's source (R16, R312, R330). -/
def rxTake (s : State) : State :=
  if rxHeld s < 8 then s.setGirth { s.girth with rxTick := s.tick, rxCount := rxHeld s + 1 }
  else (s.setGirth { s.girth with rxDrops := s.girth.rxDrops + 1 }).raise 39

/-- A frame is received: forwarded, its CRC counted, and delivered when it is valid and the receive FIFO takes it. -/
def receive (s : State) (typ : Nat) (h : GirthHeader) (payload : Nat) (deliver : State → State) : State :=
  let s := countCrc (forward s typ h payload) h.crc
  if girthRuns s && decide (h.crc = .good) then (if rxHeld s < 8 then deliver (rxTake s) else rxTake s) else s

/-- MASTER_TICK of a SYNC is that of the moment when it leaves (R313). -/
def leavingPayload (s : State) (typ payload : Nat) : Nat :=
  if typ = gtSync then payload % 2 ^ 30 + masterTick s % 2 ^ 54 * 2 ^ 30 else payload

/-- The own frame at the front of the transmit FIFO leaves once the line is idle, and takes it for the 34 ticks of a frame (R309, R312). A
SYNC starts at BASE_HOP, every other frame at 0 (R309). -/
def txLeave (s : State) : State := match s.girth.tx with
  | (typ, p) :: rest =>
    if girthRuns s && decide (s.girth.lineFree ≤ s.tick) then
      let p := leavingPayload s typ p
      let hops := if typ = gtSync then fld p 29 20 else 0
      (s.emit (.girth (girthFrame typ (girthHop s) hops p true))).setGirth { s.girth with
        tx := rest, lineFree := s.tick + 34
        lastSync := if typ = gtSync then some (fld p 83 30, fld p 29 20) else s.girth.lastSync }
    else s
  | [] => s

/-- SYNC goes ahead of every other type in the transmit FIFO (R312). -/
def txInsert (l : List (Nat × Nat)) (x : Nat × Nat) : List (Nat × Nat) :=
  if x.1 = gtSync then l.takeWhile (·.1 = gtSync) ++ x :: l.dropWhile (·.1 = gtSync) else l ++ [x]

/-- An own frame enters the transmit FIFO of 8, from which it leaves at once where the line is idle, or is dropped and counted in TX_DROPS
(R312). -/
def sendFrame (s : State) (typ payload : Nat) : State :=
  if !girthRuns s then s
  else if s.girth.tx.length < 8 then txLeave (s.setGirth { s.girth with tx := txInsert s.girth.tx (typ, payload) })
  else s.bump Obj.txDrops

/-- What a tick without a command does (R30, R312; log entry 4): the time base counts, and a frame that waits for the line may leave. -/
def timePasses (s : State) : State := txLeave (idle s)

/-- GIRTH_UNKNOWN_TYPE (R310): forwarded, never delivered. -/
def execGirthUnknownType (h : GirthHeader) (typ payload : Nat) (s : State) : Host.Outcome State Fault Refusal :=
  if 1 ≤ typ ∧ typ ≤ 5 then .next s else .next (countCrc (forward s typ h payload) h.crc)

/-! ### Mastership (R313–R319) -/

/-- The role that ROLE and the strap select (R315). -/
def roleSelected (s : State) : Nat :=
  match s.num Obj.role with
  | 0 => if bit (s.num Obj.straps) 1 then 1 else 2
  | r => r

/-- ASSIGNED_PHASE (R320). Where slot × 2^32 / G is not whole, how it is rounded is free (log entry 1). -/
def assignPhase (s : State) (g : Nat) : State :=
  let g := max g 1
  let slot := if s.num Obj.phaseSlot = 0xFF then girthHop s % g else s.num Obj.phaseSlot
  s.setNum Obj.assignedPhase (ofSigned 32 (quotient (slot * 2 ^ 32 : Nat) g + toSigned 32 (s.num Obj.phaseOffset)))

/-- G: a master's own PHASE_GROUP, and that of the last PHASE frame for a member (R320). -/
def phaseG (s : State) : Option Nat :=
  if s.num Obj.girthState = gMaster then some (s.num Obj.phaseGroup)
  else if s.num Obj.girthState = gMember then s.girth.phaseTick.map fun _ => s.girth.phaseGroup
  else none

/-- The assigned phase follows its slot, its offset, the hop number and G (R320). -/
def rephase (s : State) : State := match phaseG s with
  | some g => assignPhase s g
  | none => s

/-- The device is UNJOINED. -/
def unjoin (s : State) : State :=
  let s := s.setGirth { s.girth with
    elected := false, candidateWait := false, newTagCount := 0, phaseTick := none, rpmMismatch := false, ownTick := none
    listening := false, tx := s.girth.tx.filter (·.1 ≠ gtSync) }
  setDegraded (((s.setNum Obj.girthState gUnjoined).setNum Obj.hop 0xFFFF).setNum Obj.ringSize 0) 4 true

/-- It becomes master with a hop number, and continues the epoch it was tracking (R316). -/
def becomeMaster (s : State) (hop : Nat) (elected : Bool) : State :=
  let s := s.setNum Obj.epochOffset (ofSigned 64 (epochNow s))
  let s := s.setGirth { s.girth with
    elected := elected, takeoverLeft := if elected then 3 else 0, candidateWait := false, baseHop := hop, newTagCount := 0
    listening := false, ownTick := none, rpmMismatch := false, drift := none }
  let s := (((s.setNum Obj.girthState gMaster).setNum Obj.hop hop).setNum Obj.masterTag ownTag).setNum Obj.ringSize 0
  setDegraded (rephase s) 4 false

/-- Hop number and epoch from a SYNC of its master with OVER clear; from one SYNC of it to the next, what its time gained (R314). -/
def follow (s : State) (h : GirthHeader) (tick baseHop tag : Nat) (again : Bool) : State :=
  let t : Int := (tick : Int) + ((h.hops : Int) - baseHop) * 6
  let offset : Int := t - s.tick
  let gained : Int × Nat := match s.girth.drift with
    | some (last, _, _) => if again then (offset - toSigned 64 (s.num Obj.epochOffset), s.tick - last) else (0, 0)
    | none => (0, 0)
  let hop := girthHop s
  let s := ((s.setNum Obj.hop h.hops).setNum Obj.epochOffset (ofSigned 64 offset)).setNum Obj.masterTag tag
  let s := s.setGirth { s.girth with newTagCount := 0, candidateWait := false, drift := some (s.tick, gained) }
  if hop = h.hops then s else rephase s

/-- It becomes a member of a master. -/
def becomeMember (s : State) (h : GirthHeader) (tick baseHop tag : Nat) : State :=
  let joined := girthJoined s
  let s := s.setGirth { s.girth with
    elected := false, listening := false, ownTick := none, rpmMismatch := if joined then s.girth.rpmMismatch else false
    tx := s.girth.tx.filter (·.1 ≠ gtSync) }
  let s := (s.setNum Obj.girthState gMember).setNum Obj.ringSize 0
  setDegraded (follow s h tick baseHop tag false) 4 false

/-- One more SYNC of a tag that is not the master's; at the third in a row the tag is adopted (R317, R319). -/
def otherTag (s : State) (h : GirthHeader) (tick baseHop tag : Nat) : State :=
  let n := if s.girth.newTag = tag then s.girth.newTagCount + 1 else 1
  if 3 ≤ n then becomeMember s h tick baseHop tag else s.setGirth { s.girth with newTag := tag, newTagCount := n }

/-- Its own SYNC has come back within the last 3 ms. -/
def ownRecent (s : State) : Bool := match s.girth.ownTick with
  | some t => decide (s.tick - t ≤ 75000)
  | none => false

/-- A master yields: it becomes a member, or stays UNJOINED where OVER leaves it without a hop number (R314, R317). -/
def yieldTo (s : State) (h : GirthHeader) (tick baseHop tag : Nat) (past : Bool) : State :=
  if past then unjoin s else becomeMember s h tick baseHop tag

/-- What a master makes of a SYNC (R317, R318). -/
def masterSync (s : State) (h : GirthHeader) (tick baseHop tag : Nat) (fixed past : Bool) : State :=
  if ownSync s tick baseHop tag then
    (s.setGirth { s.girth with ownTick := some s.tick }).setNum Obj.ringSize (h.hops - baseHop)
  else if s.girth.role = 1 then
    let s := s.bump Obj.foreignSyncs
    let s := if fixed then s.raise 43 0 1 else s
    if fixed && (!ownRecent s || decide (tag < ownTag)) then yieldTo s h tick baseHop tag past else s
  else if fixed || !ownRecent s || decide (tag ≤ ownTag) then yieldTo s h tick baseHop tag past
  else s

/-- A valid SYNC is delivered. A former master's own that comes back after it yielded says nothing of its new master. -/
def deliverSync (s : State) (h : GirthHeader) (tick baseHop tag : Nat) (fixed past : Bool) : State :=
  let s := s.setGirth { s.girth with candidateWait := false }
  let st := s.num Obj.girthState
  if st = gMaster then masterSync s h tick baseHop tag fixed past
  else if ownSync s tick baseHop tag then s
  else if past then s.setGirth { s.girth with newTagCount := 0 }
  else if st = gMember ∧ tag = s.num Obj.masterTag then follow s h tick baseHop tag true
  else otherTag s h tick baseHop tag

/-- Payload of a SYNC (R313). -/
def syncPayload (tick baseHop tag : Nat) (fixed takeover past : Bool) : Nat :=
  tick % 2 ^ 54 * 2 ^ 30 + baseHop % 1024 * 2 ^ 20 + tag % 65536 * 16 + bits [false, past, takeover, fixed]

/-- GIRTH_SYNC (R314). -/
def execGirthSync (h : GirthHeader) (tick baseHop tag : Nat) (fixed takeover overFlag : Bool) (s : State) :
    Host.Outcome State Fault Refusal :=
  .next (receive s gtSync h (syncPayload tick baseHop tag fixed takeover overFlag) fun s =>
    deliverSync s h tick baseHop tag fixed overFlag)

/-- MASTER_LOSS (R316): a MASTER that had yielded resumes at once, a CANDIDATE waits, a MEMBER is UNJOINED. -/
def execMasterLoss (s : State) : Host.Outcome State Fault Refusal :=
  let st := s.num Obj.girthState
  if !girthRuns s || decide (st = gMaster) || s.girth.listening then .next s
  else match s.girth.role with
    | 1 => .next (becomeMaster s 0 false)
    | 2 => .next (s.setGirth { s.girth with candidateWait := true })
    | _ => .next (unjoin s)

/-- CANDIDATE_WAIT_END (R316): the candidate becomes master, with its hop number and the epoch it was tracking. -/
def execCandidateWaitEnd (s : State) : Host.Outcome State Fault Refusal :=
  if s.girth.candidateWait && girthRuns s then
    let hop := if girthHop s = 0xFFFF then 0 else girthHop s
    .next (((becomeMaster s hop true).bump Obj.takeovers).raise 43)
  else .next s

/-- The join begins (R319): a MASTER sends at once, any other listens. What it was joined to, and its epoch, are gone; what a second has
sent, its request and its neighbours are not. -/
def joinBegin (s : State) : State :=
  let s := (s.setGirth { s.girth with
    role := roleSelected s, ownTick := none, elected := false, takeoverLeft := 0, candidateWait := false, newTagCount := 0, phaseTick := none
    rpmMismatch := false, healthPending := false, tx := [], lastSync := none, drift := none }).setNum Obj.epochOffset 0
  if s.num Obj.girthInputState = stRetired ∨ s.num Obj.girthInputEnable = 0 then unjoin s
  else if s.girth.role = 1 then becomeMaster s 0 false
  else (s.setNum Obj.girthState gListening).setGirth { s.girth with listening := true }

/-- JOIN_LISTEN_TIMEOUT (R319): a CANDIDATE becomes master with BASE_HOP 0, a MEMBER is UNJOINED. -/
def execJoinListenTimeout (_noSymbol : Bool) (s : State) : Host.Outcome State Fault Refusal :=
  if !s.girth.listening || !girthRuns s then .next s
  else
    let s := s.setGirth { s.girth with listening := false }
    .next (if s.girth.role = 2 then becomeMaster s 0 true else unjoin s)

/-! ### Health (R327) -/

/-- Bits [59:52] of the HEALTH payload. -/
def healthBits (s : State) : Nat :=
  let acts := bits ([0, 1, 2, 3].map fun a => decide (s.num (Obj.actuatorState a) = stRunning))
  let mode := match s.start.mode with
    | .normal => 1
    | .maintenance | .romMaintenance => 2
    | _ => 0
  acts * 16 + mode * 4 + bits [decide (s.num Obj.phaseLocked = 1), inSafe s]

def healthPayload (s : State) : Nat :=
  let tj := max (-128) (min 127 (toSigned 16 (s.num Obj.tjC)))
  Config.fuseUniqueId.toNat % 2 ^ 32 * 2 ^ 52 + ofSigned 8 tj * 2 ^ 44 + healthBits s * 2 ^ 36 + s.num Obj.degraded % 65536 * 2 ^ 20 +
    s.coll.newestSeq % 2 ^ 20

/-- At least 250 ms have passed since the previous HEALTH frame. -/
def healthAllowed (s : State) : Bool := match s.girth.lastHealth with
  | some t => decide (6250000 ≤ s.tick - t)
  | none => true

def sendHealth (s : State) : State :=
  let s := s.senseTj
  let s := sendFrame s gtHealth (healthPayload s)
  s.setGirth { s.girth with lastHealth := some s.tick, healthBits := healthBits s, healthPending := false }

/-- A HEALTH frame is due: sent now, or at the end of the minimum interval. -/
def healthDue (s : State) : State :=
  if !girthJoined s || !girthRuns s then s
  else if healthAllowed s then sendHealth s else s.setGirth { s.girth with healthPending := true }

/-- HEALTH_PERIOD (R327). -/
def execHealthPeriod (s : State) : Host.Outcome State Fault Refusal := .next (healthDue s)

/-- HEALTH_DEFERRED (R327). -/
def execHealthDeferred (s : State) : Host.Outcome State Fault Refusal :=
  if s.girth.healthPending && healthAllowed s && girthJoined s && girthRuns s then .next (sendHealth s) else .next s

/-- GIRTH_HEALTH (R327): the last HEALTH of each hop at d = −8 to +8. -/
def execGirthHealth (h : GirthHeader) (payload : List Byte) (s : State) : Host.Outcome State Fault Refusal :=
  let p := leNat payload % 2 ^ 84
  .next (receive s gtHealth h p fun s =>
    let d : Int := (h.origin : Int) - girthHop s
    if girthJoined s ∧ 1 ≤ d.natAbs ∧ d.natAbs ≤ 8 then
      s.setGirth { s.girth with neighbours := SMap.put s.girth.neighbours (d + 8).toNat (h.origin, s.tick, p) }
    else s)

/-- NEIGHBOURS as bytes. -/
def neighboursBytes (s : State) : List Byte :=
  ((List.range 17).filter (· ≠ 8)).flatMap fun i => match SMap.find s.girth.neighbours i with
    | some (hop, t, p) => leBytes 2 hop ++ [0, 0] ++ leBytes 4 (min (2 ^ 32 - 1) ((s.tick - t) / 25000)) ++ leBytes 11 p ++ List.replicate 5 0
    | none => [0xFF, 0xFF] ++ List.replicate 22 0

/-! ### Periods (R313, R315, R318, R320) -/

/-- A change of ROLE takes effect (R315): a MASTER sends SYNC, a MEMBER sends none and does not wait to be elected. -/
def applyRole (s : State) : State :=
  let r := roleSelected s
  if r = s.girth.role then s
  else
    let s := s.setGirth { s.girth with role := r }
    let st := s.num Obj.girthState
    if r = 1 then becomeMaster s 0 false
    else if r = 3 ∧ (st = gMaster ∨ s.girth.candidateWait) then unjoin s
    else if st = gMaster then s.setGirth { s.girth with elected := true }
    else s

/-- The SYNC that a master sends. -/
def sendSync (s : State) : State :=
  let p := syncPayload 0 s.girth.baseHop ownTag (decide (s.girth.role = 1)) (decide (0 < s.girth.takeoverLeft)) false
  let s := sendFrame s gtSync p
  s.setGirth { s.girth with takeoverLeft := s.girth.takeoverLeft - 1 }

/-- SYNC_PERIOD (R313): a new ROLE takes effect, and the master sends its SYNC. RING_SIZE reads 0 when its own has not come back; a change
for HEALTH is noticed. -/
def execSyncPeriod (s : State) : Host.Outcome State Fault Refusal :=
  if !girthRuns s then .next s
  else
    let s := applyRole s
    let s := if s.num Obj.girthState = gMaster then sendSync (if ownRecent s then s else s.setNum Obj.ringSize 0) else s
    .next (if girthJoined s ∧ healthBits s ≠ s.girth.healthBits then healthDue s else s)

/-- PHASE_PERIOD (R320). -/
def execPhasePeriod (s : State) : Host.Outcome State Fault Refusal :=
  if s.num Obj.girthState ≠ gMaster || !girthRuns s then .next s
  else
    let rpm := s.num Obj.formatRpm
    let g := s.num Obj.phaseGroup
    let s := s.setGirth { s.girth with phaseTick := some s.tick, phaseGroup := g, phaseRpm := rpm }
    .next (sendFrame (assignPhase s g) gtPhase (rpm % 65536 * 2 ^ 68 + g % 16 * 2 ^ 64))

/-- GIRTH_PHASE (R320): a member takes the group and its assigned phase; a mismatch of RPM raises one event per join. -/
def execGirthPhase (h : GirthHeader) (rpm group : Nat) (s : State) : Host.Outcome State Fault Refusal :=
  .next (receive s gtPhase h (rpm % 65536 * 2 ^ 68 + group % 16 * 2 ^ 64) fun s =>
    if s.num Obj.girthState ≠ gMember then s
    else
      let s := s.setGirth { s.girth with phaseTick := some s.tick, phaseGroup := group, phaseRpm := rpm }
      let s := if rpm ≠ s.num Obj.formatRpm ∧ !s.girth.rpmMismatch then
          (s.setGirth { s.girth with rpmMismatch := true }).raise 43 0 2 else s
      assignPhase s group)

/-! ### Announcements (R322–R326) -/

/-- Counters of the current second (R312). -/
def newSecond (s : State) : State :=
  let n := s.tick / 25000000
  if n = s.girth.second then s
  else s.setGirth { s.girth with second := n, seekSent := 0, dictSent := 0, requestsSent := 0 }

/-- Payload of a SEEK (R322). -/
def seekPayload (s : State) (startTick profile act : Nat) (d : Int) (set : Nat) : Nat :=
  ofSigned 32 ((startTick : Int) + epochNow s) * 2 ^ 52 + profile % 65536 * 2 ^ 36 + act % 4 * 2 ^ 34 +
    ofSigned 25 d * 2 ^ 9 + set % 256 * 2

def sendSeek (s : State) (payload : Nat) : State :=
  let s := sendFrame s gtSeek payload
  s.setGirth { s.girth with seekSent := s.girth.seekSent + 1 }

/-- SEEK frames that remain in the current second's allowance: what has been sent and the cancels of own announcements that may still have to
be sent are not among them (R312; log entry 88). -/
def seeksRemain (s : State) : Nat :=
  s.num Obj.announceRate - s.girth.seekSent - (s.girth.ownAnnounced.toList.map (·.length)).sum

/-- ANNOUNCE accepted (R322): the status, and the frame where one is sent. -/
def announceNow (s : State) (b : List Byte) : Nat × State :=
  let s := newSecond s
  let start := fieldAt b 0 4
  let d := toSigned 32 (fieldAt b 8 4)
  let act := byteAt b 6
  let ahead := toSigned 32 ((start + 2 ^ 32 - s.tick % 2 ^ 32) % 2 ^ 32)
  if 4 ≤ act ∨ byteAt b 7 ≠ 0 then (5, s)
  else if ahead < 12500 then (5, s)
  else match (profilesInForce s act).find? (·.number = fieldAt b 4 2) with
    | none => (0, s)
    | some p =>
      if p.peakMa * d.natAbs < s.num Obj.announceMinMa * p.distRef || decide (seeksRemain s < 2) ||
          !girthJoined s then (0, s)
      else
        let pay := seekPayload s start p.number act d (profileSetId s.fw.bundle)
        let s := sendSeek s pay
        (0, s.setGirth { s.girth with ownAnnounced := vmod s.girth.ownAnnounced act (· ++ [(start, pay)]) })

/-- SEEK_CANCEL (R322): the oldest announced seek has not started: the same SEEK with PROFILE 0xFFFF, within ANNOUNCE_RATE (R312). -/
def execSeekCancel (a : Fin 4) (s : State) : Host.Outcome State Fault Refusal :=
  match s.girth.ownAnnounced[a] with
  | [] => .next s
  | (_, pay) :: rest =>
    let s := newSecond s
    if s.num Obj.announceRate ≤ s.girth.seekSent then .next s
    else
      let s := sendSeek s (pay - fld pay 51 36 * 2 ^ 36 + 0xFFFF * 2 ^ 36)
      .next (s.setGirth { s.girth with ownAnnounced := vmod s.girth.ownAnnounced a.val fun _ => rest })

/-- The local tick that a frame's 32-bit master tick stands for (R314). -/
def localTick (s : State) (t : Nat) : Nat :=
  let now := masterTick s
  ((s.tick : Int) + toSigned 32 ((t + 2 ^ 32 - now % 2 ^ 32) % 2 ^ 32)).toNat

/-- A SEEK is delivered (R323): applied, cancelled or ignored. -/
def deliverSeek (s : State) (h : GirthHeader) (startTick profile act : Nat) (d : Int) (set : Nat) : State :=
  let hd : Int := (h.origin : Int) - girthHop s
  let start := localTick s startTick
  let same (x : Announcement) : Bool := decide (x.hopDiff = hd ∧ x.act = act ∧ x.master = startTick % 2 ^ 32)
  if profile = 0xFFFF then s.setGirth { s.girth with announcements := s.girth.announcements.filter fun x => !same x }
  else if girthJoined s && decide (1 ≤ hd.natAbs ∧ hd.natAbs ≤ 8) && decide (s.num Obj.ffEnable = 1) && hasCoupling s.fw.bundle &&
      decide (set % 256 = profileSetId s.fw.bundle % 256) && ((profilesInForce s 0).any fun p => decide (p.number = profile)) &&
      decide (s.girth.announcements.length < 16) then
    let x : Announcement :=
      { id := s.girth.nextAnnouncement, start := start, master := startTick % 2 ^ 32, profile := profile, act := act, d := d, hopDiff := hd
        sumPF := .replicate 4 0, sumF2 := .replicate 4 0, overlapped := .replicate 4 false }
    (s.setGirth { s.girth with
      announcements := s.girth.announcements ++ [x], nextAnnouncement := s.girth.nextAnnouncement + 1 }).bump Obj.seeksHeard
  else s.bump Obj.seeksIgnored

/-- GIRTH_SEEK (R323). -/
def execGirthSeek (h : GirthHeader) (startTick profile : Nat) (act : Fin 4) (d : Int) (profileSet : Nat) (s : State) :
    Host.Outcome State Fault Refusal :=
  let pay := startTick % 2 ^ 32 * 2 ^ 52 + profile % 65536 * 2 ^ 36 + act.val * 2 ^ 34 + ofSigned 25 d * 2 ^ 9 + profileSet % 256 * 2
  .next (receive s gtSeek h pay fun s => deliverSeek s h startTick profile act.val d profileSet)

/-! ### Trim (R326) -/

/-- A Q32 value between 0 and 1 in 2^−31 (R54). -/
def q31 (n : Nat) : Int := (toSigned 32 (n % 2 ^ 32)) / (2 ^ (n / 2 ^ 32 % 32) : Nat)

/-- FF_GAIN of actuator r takes a value, which reaches the engines at the next checkpoint (R331). -/
def setFfGain (s : State) (r n : Nat) : State :=
  let s := s.setNum (Obj.ffGain r) n
  queueCoefs s r [(s.num Obj.ffGainAddr % 1024, ⟨BitVec.ofNat 32 n, BitVec.ofNat 5 (n / 2 ^ 32)⟩)]

/-- One actuator's gain after an announcement: the new gain with shift 0, clamped to 0.25–0.9999. How the quotient is rounded is free
(log entry 1). -/
def trimGain (s : State) (x : Announcement) (r : Nat) : State :=
  let pf := vget x.sumPF r 0
  let f2 := vget x.sumF2 r 0
  let mu := s.num Obj.trimMu
  if mu = 0 ∨ f2 < 10 ^ 12 ∨ vget x.overlapped r false ∨ coefBusy s r then s
  else
    let g := q31 (s.num (Obj.ffGain r)) - quotient (pf * 2 ^ 31) (f2 * 2 ^ mu).toNat
    setFfGain s r (max 0x20000000 (min 0x7FFCB923 g)).toNat

/-- ANNOUNCEMENT_END (R326): an applied announcement ends, and the gains are trimmed. -/
def execAnnouncementEnd (id : Nat) (s : State) : Host.Outcome State Fault Refusal :=
  match s.girth.announcements.find? (·.id = id) with
  | none => .next s
  | some x =>
    let s := s.setGirth { s.girth with announcements := s.girth.announcements.filter (·.id ≠ id) }
    .next (s.each [0, 1, 2, 3] fun s r => trimGain s x r)

/-! ### DICT requests (R329) -/

/-- DICT_RESPONSE as bytes. -/
def dictOutcome (result status hop idx sub value : Nat) : List Byte :=
  [BitVec.ofNat 8 result, BitVec.ofNat 8 status] ++ leBytes 2 hop ++ leBytes 2 idx ++ [BitVec.ofNat 8 sub, 0] ++ leBytes 4 value ++
  leBytes 4 0

/-- Payload of a DICT frame (R328). -/
def dictPayload (target kind tag idx sub status value : Nat) : Nat :=
  target % 1024 * 2 ^ 74 + kind % 4 * 2 ^ 72 + tag % 256 * 2 ^ 64 + idx % 65536 * 2 ^ 48 + sub % 256 * 2 ^ 40 + status % 256 * 2 ^ 32 +
    value % 2 ^ 32

/-- A DICT frame is sent within the limit of 100 a second (R312). -/
def sendDict (s : State) (payload : Nat) : State :=
  let s := newSecond s
  if s.girth.dictSent < 100 then
    (sendFrame s gtDict payload).setGirth { (sendFrame s gtDict payload).girth with dictSent := s.girth.dictSent + 1 }
  else s

/-- DICT_REQUEST accepted (R329): the status, and the frame. -/
def dictRequestNow (s : State) (b : List Byte) : Nat × State :=
  let s := newSecond s
  if s.girth.request.isSome ∨ 50 ≤ s.girth.requestsSent then (6, s)
  else
    let tag := s.girth.nextTag
    let target := fieldAt b 2 2
    let s := sendDict s (dictPayload target (byteAt b 0) tag (fieldAt b 4 2) (byteAt b 6) 0 (fieldAt b 8 4))
    let s := s.setGirth { s.girth with
      request := some (tag, target), nextTag := (tag + 1) % 256, requestsSent := s.girth.requestsSent + 1 }
    (0, s.setStr Obj.dictResponse (dictOutcome 0 0 0 (fieldAt b 4 2) (byteAt b 6) 0))

/-- DICT_REQUEST_TIMEOUT (R329). -/
def execDictRequestTimeout (s : State) : Host.Outcome State Fault Refusal :=
  match s.girth.request with
  | none => .next s
  | some _ =>
    let b := s.str Obj.dictResponse
    .next ((s.setGirth { s.girth with request := none }).setStr Obj.dictResponse ([2] ++ b.drop 1))

/-- GIRTH_DICT_RESPONSE (R329). -/
def execGirthDictResponse (h : GirthHeader) (target tag index sub status value : Nat) (s : State) : Host.Outcome State Fault Refusal :=
  .next (receive s gtDict h (dictPayload target 2 tag index sub status value) fun s =>
    if target = girthHop s ∧ s.girth.request.map (·.1) = some tag then
      (s.setGirth { s.girth with request := none }).setStr Obj.dictResponse (dictOutcome 1 status h.origin index sub value)
    else s)

end Sys2Proof.Machine
end

