-- ==== Sys2Proof/Machine/LayoutCore.lean ====
section
/-!
DEFINITION. What the layout gives to every family: translation from a block to its place, substitution and remapping, lost members,
parity arithmetic over sectors, the lost-range list, the write-intent and allocation bits, the protected cache by block
(R368–R411, R431).
-/

namespace Sys2Proof.Machine

/-! ### Runs and maps (R371, R374, R376) -/

def StitchMap.empty : StitchMap := ⟨0, 0, 0, 0, 0, 0, 0, 0, 0, []⟩

/-- Members of a stripe. -/
def StitchMap.width (m : StitchMap) : Nat := m.k + m.m

/-- A run of global stripes: a namespace's own, or the new one of a reshape. -/
structure Run2 where
  nsid : Nat
  mapSlot : Nat
  firstDba : Nat
  firstStripe : Nat
  firstRow : Nat
  periods : Nat
  isNew : Bool
  deriving DecidableEq, Repr

def Namespace.run (n : Namespace) : Run2 := ⟨n.nsid, n.mapSlot, n.firstDba, n.firstStripe, n.firstRow, n.periods, false⟩

def nsOf (s : State) (nsid : Nat) : Option Namespace := SMap.find s.host.namespaces nsid

/-- The new run of the reshape that runs (R416). -/
def reshapeRun (s : State) : Option Run2 :=
  match s.layout.reshape with
  | some r => (nsOf s r.nsid).map fun n => ⟨r.nsid, r.newSlot, n.firstDba, r.firstStripe, r.firstRow, r.periods, true⟩
  | none => none

def runs (s : State) : List Run2 := (s.host.namespaces.map fun e => e.2.run) ++ (reshapeRun s).toList

def mapSlotOf (s : State) (slot : Nat) : StitchMap := SMap.findD s.layout.maps slot StitchMap.empty

def Run2.map (s : State) (r : Run2) : StitchMap := mapSlotOf s r.mapSlot

/-- Global stripes of a run. -/
def Run2.stripes (s : State) (r : Run2) : Nat := r.periods * (r.map s).periodStripes

/-- The run that holds a global stripe. -/
def runOf (s : State) (g : Nat) : Option Run2 :=
  (runs s).find? fun r => decide (r.firstStripe ≤ g) && decide (g < r.firstStripe + r.stripes s)

/-- The block at a member and offset of a stripe (R376). -/
def dbaAt (r : Run2) (m : StitchMap) (g member offset : Nat) : Nat :=
  r.firstDba + (g - r.firstStripe) * (m.k * 64) + member * 64 + offset

/-- Stripe, member and offset of a block in a run. -/
def stripeAt (r : Run2) (m : StitchMap) (dba : Nat) : Nat × Nat × Nat :=
  let b := dba - r.firstDba
  (r.firstStripe + b / (m.k * 64), b % (m.k * 64) / 64, b % 64)

/-- The namespace that holds a block. -/
def nsOfDba (s : State) (dba : Nat) : Option Namespace :=
  (s.host.namespaces.find? fun e => decide (e.2.firstDba ≤ dba) && decide (dba < e.2.firstDba + e.2.blocks)).map (·.2)

/-! ### Surfaces (R80, R147, R394) -/

def retiredSurface (s : State) (u : Nat) : Bool := s.layout.retiredOrder.contains u

/-- A usable surface: present, not retired, on an actuator that is not left out (R147). -/
def usable (s : State) (u : Nat) : Bool := present s u && !retiredSurface s u && !leftOut s (actOf u)

def failedSurface (s : State) (u : Nat) : Bool := decide (s.num (Obj.surfaceState u) = 2)

def actRunning (s : State) (a : Nat) : Bool := decide (s.num (Obj.actuatorState a) = stRunning)

/-! ### The choice of a new place (R378) and substitution (R396) -/

/-- The first position by surface, then row. -/
def lowestPos : List (Nat × Nat) → Option (Nat × Nat)
  | [] => none
  | p :: r => match lowestPos r with
    | some q => some (if p.1 * 65536 + p.2 ≤ q.1 * 65536 + q.2 then p else q)
    | none => some p

/-- The choice among spare positions: `others` are the surfaces of the stripe's other members; the Bool says CROWDED. -/
def pickSpare (m : StitchMap) (lost : Nat) (others : List Nat) (cands : List (Nat × Nat)) : Option ((Nat × Nat) × Bool) :=
  let ok := cands.filter fun c => !others.contains c.1
  let within := ok.filter fun c => decide ((others.filter fun u => actOf u = actOf c.1).length + 1 ≤ m.actMax)
  let own := if m.typ = 2 then within.filter fun c => decide (actOf c.1 = actOf lost) else []
  match lowestPos own with
  | some c => some (c, false)
  | none => match lowestPos within with
    | some c => some (c, false)
    | none => (lowestPos ok).map fun c => (c, true)

/-- The positions of a period after the substitution of retired surfaces: per member position its surface, its row and the surface it
was last moved from; the spare positions left; how many exceed ACT_MAX. -/
structure Subst where
  pos : List (Nat × Nat × Option Nat)
  spares : List (Nat × Nat)
  crowded : Nat
  deriving DecidableEq, Repr

/-- Surfaces of the members of stripe i of a period but for one position. -/
def Subst.others (x : Subst) (m : StitchMap) (i : Nat) : List Nat :=
  let base := i / m.width * m.width
  ((x.pos.zipIdx.filter fun p => decide (base ≤ p.2) && decide (p.2 < base + m.width) && decide (p.2 ≠ i))).map (·.1.1)

/-- One position of a retired surface takes a spare. -/
def substOne (s : State) (m : StitchMap) (earlier : List Nat) (x : Subst) (i : Nat) : Subst :=
  match x.pos[i]? with
  | none => x
  | some (u, _, _) =>
    let cands := x.spares.filter fun c => present s c.1 && !earlier.contains c.1
    match pickSpare m u (x.others m i) cands with
    | none => x
    | some (c, crowd) =>
      { pos := x.pos.set i (c.1, c.2, some u), spares := x.spares.filter (· ≠ c), crowded := x.crowded + if crowd then 1 else 0 }

/-- One retired surface is substituted: its member positions in ascending row. -/
def substSurface (s : State) (m : StitchMap) (earlier : List Nat) (x : Subst) (u : Nat) : Subst :=
  let x := { x with spares := x.spares.filter fun c => decide (c.1 ≠ u) }
  let mine := (List.range m.periodRows).flatMap fun w =>
    (x.pos.zipIdx.filter fun p => decide (p.1.1 = u) && decide (p.1.2.1 = w)).map (·.2)
  mine.foldl (fun x i => substOne s m earlier x i) x

/-- Every retired surface in RETIRED_ORDER. -/
def substAll (s : State) (m : StitchMap) : List Nat → List Nat → Subst → Subst
  | _, [], x => x
  | earlier, u :: r, x => substAll s m (earlier ++ [u]) r (substSurface s m earlier x u)

/-- The substitution of a map now. -/
def substOf (s : State) (m : StitchMap) : Subst :=
  substAll s m [] s.layout.retiredOrder
    ⟨(m.positions.take (m.periodStripes * m.width)).map fun p => (p.1, p.2, none), m.spares, 0⟩

/-! ### Places (R376, R377) -/

def remapKey (g member : Nat) : Nat := member * 2 ^ 27 + g

/-- Where a member of a stripe lies: surface, row, and the retired surface whose substitution put it there. -/
structure Place where
  surface : Nat
  row : Nat
  moved : Option Nat
  deriving DecidableEq, Repr

/-- The place by map and substitution alone. -/
def naturalPlace (r : Run2) (m : StitchMap) (x : Subst) (g member : Nat) : Place :=
  let i := g - r.firstStripe
  let p := x.pos.getD (i % m.periodStripes * m.width + member) (0, 0, none)
  ⟨p.1, r.firstRow + i / m.periodStripes * m.periodRows + p.2.1, p.2.2⟩

/-- The place with the extent remap table. -/
def placeOf (s : State) (r : Run2) (m : StitchMap) (x : Subst) (g member : Nat) : Place :=
  match SMap.find s.layout.remap (remapKey g member) with
  | some e => ⟨e.surface, e.row, none⟩
  | none => naturalPlace r m x g member

/-! ### Lost members (R377, R396, R397, R400) -/

/-- The job of a surface. -/
def jobFor (s : State) (u : Nat) : Option Job := s.layout.jobs.find? (·.surface = u)

/-- A substituted position under a job whose stripe is not yet rebuilt. -/
def pendingFill (s : State) (u g : Nat) : Bool :=
  match jobFor s u with
  | some j => !(decide (g < j.watermark) || s.layout.criticalDone.contains (u, g))
  | none => false

/-- Under STALE_ALL a surface's chunks are stale until they are filled. -/
def staleAllHere (s : State) (u g : Nat) : Bool := bit s.layout.staleAll u && !s.layout.staleFilled.contains (u, g)

/-- Whether a member of a stripe is lost. -/
def memberLost (s : State) (r : Run2) (m : StitchMap) (x : Subst) (g member : Nat) : Bool :=
  match SMap.find s.layout.remap (remapKey g member) with
  | some e => !e.filled || failedSurface s e.surface || retiredSurface s e.surface
  | none =>
    let p := naturalPlace r m x g member
    retiredSurface s p.surface || failedSurface s p.surface || staleAllHere s p.surface g ||
    match p.moved with
    | some u => pendingFill s u g
    | none => false

/-- Lost members of a stripe. -/
def lostMembers (s : State) (r : Run2) (m : StitchMap) (x : Subst) (g : Nat) : List Nat :=
  (List.range m.width).filter (memberLost s r m x g)

/-- A stripe of a parity layout is degraded with one lost member, critical with two or more (R400). -/
def lostCount (s : State) (g : Nat) : Nat :=
  match runOf s g with
  | none => 0
  | some r => (lostMembers s r (r.map s) (substOf s (r.map s)) g).length

def criticalStripe (s : State) (g : Nat) : Bool := s.layout.allocated.contains g && decide (2 ≤ lostCount s g)

/-- Allocated stripes of one run, and how many of them have one, or more than one, lost member. -/
def lossCounts (s : State) : Nat × Nat :=
  (runs s).foldl (fun acc r =>
    let m := r.map s
    let x := substOf s m
    (s.layout.allocated.filter fun g => decide (r.firstStripe ≤ g) && decide (g < r.firstStripe + r.stripes s)).foldl
      (fun acc g =>
        let n := (lostMembers s r m x g).length
        if n = 0 then acc else if n = 1 then (acc.1 + 1, acc.2) else (acc.1, acc.2 + 1)) acc) (0, 0)

/-- Maps in use. -/
def mapsInUse (s : State) : List StitchMap := s.layout.maps.map (·.2)

/-- The layout counts follow the layout (R393, R422). -/
def countLayout (s : State) : State :=
  let (deg, crit) := lossCounts s
  let l := s.layout
  let s := (s.setNum Obj.degradedStripes deg).setNum Obj.criticalStripes crit
  let s := s.setNum Obj.chunksToRebuild ((l.jobs.map fun j => j.total - j.done).sum)
  let s := s.setNum Obj.substCrowded (((mapsInUse s).map fun m => (substOf s m).crowded).sum)
  let s := (s.setNum Obj.remapEntries l.remap.length).setNum Obj.remapCrowded (l.remap.filter (·.2.crowded)).length
  let s := (s.setNum Obj.lostEntries l.lost.length).setNum Obj.lostMerges l.lostMerges
  let s := s.setNum Obj.stripesUsed (((runs s).map fun r => r.stripes s).sum)
  s.setNum Obj.rebuildState (if l.jobs.isEmpty then 0 else if 0 < crit then 2
    else if (mapsInUse s).any fun m => (substOf s m).pos.any fun p => l.retiredOrder.contains p.1 then 3 else 1)

/-- A change that log page 0xD1 shows (R421). -/
def layoutChanged (s : State) : State := (countLayout s).setLayout { (countLayout s).layout with healthGen := s.layout.healthGen + 1 }

/-! ### Bytes and parity (R369, R384) -/

/-- Bytes that parity covers. -/
def body (p : List Byte) : List Byte := padTo 4108 (p.take 4108)

def xorBytes (a b : List Byte) : List Byte := List.zipWith (· ^^^ ·) a b

/-- Each byte times g^n. -/
def mulPowBytes (n : Nat) (l : List Byte) : List Byte := l.map fun b => BitVec.ofNat 8 (gfMulPow b.toNat n)

/-- Each byte times a field element. -/
def mulBytes (c : Nat) (l : List Byte) : List Byte := l.map fun b => BitVec.ofNat 8 (gfMul c b.toNat)

def zeroBody : List Byte := List.replicate 4108 0

/-- P and Q of the data sectors' bodies (R369). -/
def parityP (ds : List (List Byte)) : List Byte := ds.foldl xorBytes zeroBody
def parityQ (ds : List (List Byte)) : List Byte :=
  ds.zipIdx.foldl (fun acc d => xorBytes acc (mulPowBytes d.2 d.1)) zeroBody

/-- What is known of the data sectors, with zeros for the unknown. -/
def knownP (ds : List (Option (List Byte))) : List Byte := parityP (ds.map fun d => d.getD zeroBody)
def knownQ (ds : List (Option (List Byte))) : List Byte := parityQ (ds.map fun d => d.getD zeroBody)

/-- Numbers of the unknown data sectors. -/
def unknowns (ds : List (Option (List Byte))) : List Nat := (ds.zipIdx.filter (·.1.isNone)).map (·.2)

/-- RECONSTRUCT (R384): the data sectors' bodies at one offset, where the equations of R369 give the unknown ones. -/
def solve (ds : List (Option (List Byte))) (p q : Option (List Byte)) : List (Option (List Byte)) :=
  match unknowns ds, p, q with
  | [i], some p, _ => ds.set i (some (xorBytes p (knownP ds)))
  | [i], none, some q => ds.set i (some (mulBytes (gfInv (gfMulPow 1 i)) (xorBytes q (knownQ ds))))
  | [i, j], some p, some q =>
    let px := xorBytes p (knownP ds)
    let qx := xorBytes q (knownQ ds)
    let c := gfInv (gfMulPow 1 i ^^^ gfMulPow 1 j)
    let di := mulBytes c (xorBytes qx (mulPowBytes j px))
    (ds.set i (some di)).set j (some (xorBytes px di))
  | _, _, _ => ds

/-- A body passes under its DBA (R138, R139). -/
def bodyGood (dba : Nat) (b : List Byte) : Bool := scrcGood (scrcSeed (dbaPrefix dba)) b

/-- A sector to be written: its body with GEN and FLAGS (R137). -/
def stamp (b : List Byte) (gen flags : Nat) : List Byte := body b ++ leBytes 3 gen ++ [BitVec.ofNat 8 flags]

/-- FLAGS of a member: data keeps PI_PRESENT, P and Q are marked (R137, R369). -/
def memberFlags (m : StitchMap) (member : Nat) (pi : Bool) : Nat :=
  if member < m.k then (if pi then 8 else 0) else if member = m.k then 0x80 else 0xC0

/-- Whether a namespace's blocks carry protection information. -/
def nsHasPi (s : State) (nsid : Nat) : Bool := ((nsOf s nsid).map fun n => decide (n.lbaFormat = 1)).getD false

/-- The ciphertext of 4,096 zero bytes at a namespace's LBA (R127, R339, R381). -/
def zeroCipher (s : State) (nsid lba : Nat) : List Byte :=
  Config.xtsEncrypt nsid (SMap.findD s.fw.nsKeys nsid 0) lba (.replicate 4096 0)

/-- A fill block (R381): the ciphertext of zeros, with PI of all ones. -/
def fillPayload (s : State) (nsid lba dba : Nat) : List Byte :=
  mkPayload (zeroCipher s nsid lba) (List.replicate 8 0xFF) (scrcSeed (dbaPrefix dba)) 0 0

/-! ### Tracks and user sectors (R142) -/

/-- Physical sectors that a list of SLIP entries removes. -/
def slipped (ds : List Defect) (track p : Nat) : Bool :=
  ds.any fun d => decide (d.kind = 1) && decide (d.track = track) && decide (d.psector ≤ p) && decide (p < d.psector + d.count)

/-- The grown entries of a surface that have taken effect: both copies are written and read back (R144). -/
def grownOf (s : State) (u : Nat) : List Defect := (vget s.media.grown u []).map defectOf

/-- All that have been made, with those that wait for their copies. -/
def grownMade (s : State) (u : Nat) : List Defect := grownOf s u ++ ((s.media.grownPending.filter (·.1 = u)).map (·.2)).map defectOf

/-- Physical sectors of a track less its primary slips. -/
def usablePhys (s : State) (u : Nat) (z : Zone) (track : Nat) : List Nat :=
  (List.range (z.sectors + z.spare)).filter fun p => !slipped (primaryDefects s.fw.bundle u) track p

def reassigns (s : State) (u track : Nat) : List Defect := (grownOf s u).filter fun d => decide (d.track = track) && decide (d.kind = 4)

/-- The track's free spares: left over, and neither a target nor a defective position of a grown entry that has been made. -/
def freeSparesOf (s : State) (u : Nat) (z : Zone) (track : Nat) : List Nat :=
  let rs := (grownMade s u).filter fun d => decide (d.track = track) && decide (d.kind = 4)
  ((usablePhys s u z track).drop z.sectors).filter fun p => !rs.any fun d => decide (d.count = p) || decide (d.psector = p)

/-- The user sector at a physical sector, through the grown REASSIGN entries. -/
def userSector (s : State) (u : Nat) (z : Zone) (track p : Nat) : Option Nat :=
  let first := (usablePhys s u z track).take z.sectors
  let now := first.map fun q => (reassigns s u track).foldl (fun q d => if d.psector = q then d.count else q) q
  (now.zipIdx.find? (·.1 = p)).map (·.2)

def trackOut (ds : List Defect) (track : Nat) : Bool := ds.any fun d => decide (d.kind = 3) && decide (d.track = track)

/-- SSA of a track's first user sector: user sectors of the data tracks before it but for the primary TRACK_OUT ones. -/
def trackSsa (s : State) (u track : Nat) : Nat :=
  let outs := ((primaryDefects s.fw.bundle u).filter fun d => decide (d.kind = 3)).map (·.track)
  ((zonesOf s.fw.bundle u).map fun z =>
    let n := min (track - z.firstTrack) z.trackCount
    (n - (outs.dedup.filter fun t => decide (z.firstTrack ≤ t) && decide (t < z.firstTrack + n)).length) * z.sectors).sum

/-- The n-th track of a zone, past the primary TRACK_OUT ones. -/
def nthTrack (outs : List Nat) (first n : Nat) : Nat := outs.foldl (fun t o => if first ≤ o ∧ o ≤ t then t + 1 else t) (first + n)

/-- Track and physical sector of an SSA, counted from the first of these zones on (R142, R376). -/
def sectorOfSsa (s : State) (u : Nat) : List Zone → Nat → Option (Nat × Nat)
  | [], _ => none
  | z :: r, i =>
    let outs := (((primaryDefects s.fw.bundle u).filter fun d => decide (d.kind = 3)).map (·.track)).dedup
    let n := (z.trackCount - (outs.filter fun t => decide (z.firstTrack ≤ t) && decide (t < z.firstTrack + z.trackCount)).length) * z.sectors
    if i < n then
      let track := nthTrack outs z.firstTrack (i / z.sectors)
      let now := ((usablePhys s u z track).take z.sectors).map fun q =>
        (reassigns s u track).foldl (fun q d => if d.psector = q then d.count else q) q
      now[i % z.sectors]?.map fun p => (track, p)
    else sectorOfSsa s u r (i - n)

/-- Track and physical sector of an offset of a chunk at its place (R376). -/
def sectorAt (s : State) (p : Place) (offset : Nat) : Option (Nat × Nat) :=
  sectorOfSsa s p.surface (zonesOf s.fw.bundle p.surface) (p.row * 64 + offset)

/-- A sector is offered to the grown-defect handling (R212, R412). -/
def offerSector (s : State) (u track p : Nat) : State :=
  if s.media.offered.contains (u, track, p) then s else s.setMedia { s.media with offered := s.media.offered ++ [(u, track, p)] }

/-! ### Surface labels (R146, R148) -/

/-- The areas of the reserved band in the order of the AREAS bits: first track and track count (R146). -/
def bandAreas : List (Nat × Nat) := [(0, 2), (2, 62), (64, 64), (128, 256), (384, 1024), (1408, 128), (1536, 512)]

/-- The partner of a surface (R146). -/
def partnerOf (s : State) (u : Nat) : Option Nat := [12, 24, 36].map (fun d => (u + d) % 48) |>.find? (present s)

/-- A label of this device that holds areas besides those it held, each at its place of the table (R146, R148). The location's
generation is the label's HOLDER_GEN (log entry 65). -/
def Label.hold (l : Label) (areas : List Nat) (gen : Nat) : Label :=
  { l with
    good := true, uid := Config.fuseUniqueId.toNat, holderGen := gen, areas := areas.foldl setBit l.areas
    locs := areas.foldl (fun m i => SMap.put m i ((bandAreas.getD i (0, 0)).1, (bandAreas.getD i (0, 0)).2, gen)) l.locs }

/-- The label as its 4,096 bytes, and as the payload of its reserved sector on a track (R145, R148). -/
def Label.bytes (l : Label) (u : Nat) : List Byte :=
  let b := padTo 4092 (leBytes 4 0x4C535A4F ++ [BitVec.ofNat 8 u, 0] ++ leBytes 2 l.areas ++ leBytes 8 l.uid ++ leBytes 4 l.holderGen ++
    leBytes 4 l.bundleGen ++ l.locs.flatMap fun e => leBytes 4 e.2.1 ++ leBytes 4 e.2.2.1 ++ leBytes 4 e.2.2.2)
  b ++ leBytes 4 (crc32c b)

/-- The payload of a sector of the reserved band: FLAGS[5], and its SCRC under the band's prefix (R145). -/
def bandPayload (u track p : Nat) (data : List Byte) : List Byte := mkPayload data [] (scrcSeed (bandPrefix u track p)) 0 0x20

/-- The 4,096-byte parts of a copy. -/
def bandParts (data : List Byte) : List (Nat × List Byte) :=
  (List.range ((data.length + 4095) / 4096)).map fun i => (i, slice data (4096 * i) 4096)

/-- A copy of an area's data is written to the band. DESIGN CHOICE (log 65): it fills the 320 sectors of each track in order, from sector 0
of a track on (R145). -/
def bandWrite (s : State) (u track : Nat) (data : List Byte) : State :=
  s.each (bandParts data) fun s x =>
    let t := track + x.1 / 320
    let p := x.1 % 320
    s.emit (.band u t p (bandPayload u t p x.2))

/-- A surface's label, read: one that fails its CRC-32C, or that another device wrote, counts as absent (R148). -/
def labelOf (s : State) (u : Nat) : Option Label :=
  let l := vget s.media.labels u ⟨false, 0, 0, 0, 0, []⟩
  if l.good && decide (l.uid = Config.fuseUniqueId.toNat) then some l else none

/-- A surface's label is rewritten, one copy on sector 0 of each of its two tracks (R146, R148). -/
def writeLabel (s : State) (u : Nat) (f : Label → Label) : State :=
  let s := s.setMedia { s.media with labels := vmod s.media.labels u f }
  let b := (vget s.media.labels u ⟨false, 0, 0, 0, 0, []⟩).bytes u
  bandWrite (bandWrite s u 0 b) u 1 b

/-- First track and track count of an area of a surface, as its label has it. -/
def areaAt (s : State) (u area : Nat) : Option (Nat × Nat) :=
  (labelOf s u).bind fun l => (SMap.find l.locs area).map fun e => (e.1, e.2.1)

/-- A copy is written from the first track of an area of a surface that holds it. -/
def areaWrite (s : State) (u area : Nat) (data : List Byte) : State := match areaAt s u area with
  | some x => bandWrite s u x.1 data
  | none => s

/-- Surfaces that hold the mirrors. -/
def holderSurfaces (s : State) : List Nat := (s.media.holders.toList.filter (· < 48)).dedup

/-- The committed grown list of a surface on its media (R144, R146): two own copies, the second from the middle of the area (log 65), and
the copy on each surface whose partner it is. -/
def writeGrown (s : State) (u : Nat) : State :=
  let data := (vget s.media.grown u []).flatten
  let s := match areaAt s u 1 with
    | some x => bandWrite (bandWrite s u x.1 data) u (x.1 + x.2 / 2) data
    | none => s
  s.each ((List.range 48).filter fun v => decide (partnerOf s v = some u)) fun s v => areaWrite s v 2 data

/-- Free tracks for a copy in the relocation space: the lowest run that meets none of the areas that a label has (R146). -/
def freeTracks (l : Label) (count : Nat) : Option Nat :=
  (2048 :: l.locs.map fun e => e.2.1 + e.2.2.1).find? fun t =>
    decide (2048 ≤ t) && decide (t + count ≤ 4096) && l.locs.all fun e => decide (t + count ≤ e.2.1) || decide (e.2.1 + e.2.2.1 ≤ t)

/-- An area copy that fails read-back is moved to free tracks, and the label is rewritten (R146). -/
def moveArea (s : State) (u area : Nat) : State := match labelOf s u with
  | none => s
  | some l => match SMap.find l.locs area with
    | none => s
    | some e => match freeTracks l e.2.1 with
      | some t => writeLabel s u fun l => { l with locs := SMap.put l.locs area (t, e.2) }
      | none => s

/-- Bytes [off, off + len) of a bitmap whose set bits are listed. -/
def bitmapBytes (l : List Nat) (off len : Nat) : List Byte :=
  (List.range len).map fun i =>
    BitVec.ofNat 8 ((l.filter fun n => decide (n / 8 = off + i)).foldl (fun x n => x ||| 2 ^ (n % 8)) 0)

/-- Where a mirror page of a generation goes: area, and sector in it. DESIGN CHOICE (log 65): page n of the journal base has sectors 2n and
2n + 1 of its area, a page of the write-intent bitmap its place in the slot, and the slot is the generation's lowest bit. -/
def mirrorSlot (n gen : Nat) : Nat × Nat :=
  if 0x10 ≤ n ∧ n < 0x30 then (5, gen % 2 * 32 + (n - 0x10)) else (4, 2 * n + gen % 2)

/-- A page is mirrored on each holder that can be written (R386): page generation and number stand in the sector's PI field. -/
def mirrorPage (s : State) (n : Nat) (data : List Byte) : State :=
  let gen := SMap.findD s.layout.pageGens n 0 + 1
  let s := s.setLayout { s.layout with pageGens := SMap.put s.layout.pageGens n gen }
  let slot := mirrorSlot n gen
  s.each ((holderSurfaces s).filter fun u => usable s u && !failedSurface s u) fun s u => match areaAt s u slot.1 with
    | some x =>
      let t := x.1 + slot.2 / 320
      let p := slot.2 % 320
      s.emit (.band u t p (mkPayload data (leBytes 4 gen ++ leBytes 2 n ++ [0, 0]) (scrcSeed (bandPrefix u t p)) 0 0x28))
    | none => s

/-- The pages that a part of the journal region takes, from the i-th of its pages on. -/
def mirrorPages (s : State) (base i : Nat) (data : List Byte) : State :=
  s.each ((bandParts data).drop i) fun s x => mirrorPage s (base + x.1) (padTo 4096 x.2)

/-- The pages of the write-intent bitmap and of the allocation bitmap (R385). -/
def mirrorIntent (s : State) (n : Nat) : State := mirrorPage s (0x10 + n) (bitmapBytes s.layout.dirtyGroups (4096 * n) 4096)
def mirrorAlloc (s : State) (n : Nat) : State := mirrorPage s (0x130 + n) (bitmapBytes s.layout.allocated (4096 * n) 4096)

/-- The ledger's 4,096 slots as bytes, in slot order: an empty slot is erased, all ones (R479, R483). -/
def ledgerBytes (m : SMap Record) : List Byte :=
  (List.range 4096).flatMap fun i => ((SMap.find m i).map Record.bytes).getD (List.replicate 64 0xFF)

/-- The ledger is copied to the holders' reserved band (R483): every 3,600 s, on PS4 entry and at normal shutdown. -/
def bandCopy (s : State) : State :=
  if s.coll.restored then
    (s.setColl { s.coll with bandCopy := s.coll.ledger }).each (holderSurfaces s) fun s u => areaWrite s u 6 (ledgerBytes s.coll.ledger)
  else s

/-! ### The protected cache by block (R346, R431, R432) -/

def cacheSlots : Nat := 129024
def cacheAddr (k : Nat) : Nat := 0x99C020000 + 4160 * k

/-- The filled slot that holds a block: a DIRTY one before a CLEAN one. -/
def cachedSlot (s : State) (dba : Nat) : Option (Nat × CacheSlot) :=
  match s.mem.cache.find? fun e => decide (e.2.state = 1) && decide (e.2.dba = dba) with
  | some e => some e
  | none => s.mem.cache.find? fun e => decide (e.2.state = 2) && decide (e.2.dba = dba)

def blockDirty (s : State) (dba : Nat) : Bool := (dirtySlots s).any fun e => decide (e.2.dba = dba)

/-- CACHE_DIRTY_KIB (R367): 4 KiB for each block not yet on the medium. -/
def countDirty (s : State) : State := s.setNum Obj.cacheDirtyKib (4 * (dirtySlots s).length)

/-- The lowest slot that holds no block, from `next` on. -/
def lowestFree : Nat → SMap CacheSlot → Nat
  | next, [] => next
  | next, (k, c) :: r => if next < k ∨ (c.state ≠ 1 ∧ c.state ≠ 2) then next else lowestFree (next + 1) r

/-- A slot for a new block: the one that holds it, else the lowest free one, else the lowest clean one; none when the cache is full. -/
def slotFor (s : State) (dba : Nat) : Option Nat :=
  match cachedSlot s dba with
  | some (k, _) => some k
  | none =>
    let k := lowestFree 0 s.mem.cache
    if k < cacheSlots then some k else (s.mem.cache.find? fun e => decide (e.2.state = 2)).map (·.1)

/-- A block is written into a slot with its descriptor (R14, R431). -/
def putCache (s : State) (k : Nat) (c : CacheSlot) : State :=
  let a := cacheAddr k
  let bs := blocksOf a 4160
  countDirty (s.setMem { s.mem with
    cache := SMap.put s.mem.cache k c
    written := (pagesOf a 4160).foldl nset s.mem.written
    poison := s.mem.poison.filter fun b => !bs.contains b
    filter := s.mem.filter.filter fun e => !bs.contains e.1 })

/-- Slots become CLEAN, or FREE. -/
def setCacheState (s : State) (p : Nat × CacheSlot → Bool) (st : Nat) : State :=
  countDirty (s.setMem { s.mem with cache := s.mem.cache.map fun e => if p e then (e.1, { e.2 with state := st }) else e })

/-- The cached blocks of a stripe or namespace are dropped: their slots are FREE, and keep the ciphertext until they are overwritten
(R130). -/
def dropCached (s : State) (p : Nat → Bool) : State := setCacheState s (fun e => p e.2.dba) 0

/-- A cached payload reads poisoned (R424). -/
def slotPoisoned (s : State) (k : Nat) : Bool := dramPoisoned s.mem (cacheAddr k) 4112

/-! ### Lost ranges (R409–R411) -/

def lostEntryFull : Nat := 65535

/-- Order of the list: NSID, then LBA. -/
def Lost.before (a b : Lost) : Bool := decide (a.nsid < b.nsid) || (decide (a.nsid = b.nsid) && decide (a.lba < b.lba))

/-- Put an entry at its place. -/
def insertLost (x : Lost) : List Lost → List Lost
  | [] => [x]
  | y :: r => if x.before y then x :: y :: r else y :: insertLost x r

/-- Touching or overlapping ranges of one namespace become one, with the CAUSE of the lower. -/
def mergeTouching : List Lost → List Lost
  | [] => []
  | x :: r => match mergeTouching r with
    | y :: t =>
      if x.nsid = y.nsid ∧ y.lba ≤ x.lba + x.count then
        ⟨x.nsid, x.lba, max (x.lba + x.count) (y.lba + y.count) - x.lba, x.cause⟩ :: t
      else x :: y :: t
    | [] => [x]

/-- Gaps between neighbours of one namespace, with the place of the lower one. -/
def lostGaps : Nat → List Lost → List (Nat × Nat)
  | i, x :: y :: r => (if x.nsid = y.nsid then [(y.lba - (x.lba + x.count), i)] else []) ++ lostGaps (i + 1) (y :: r)
  | _, _ => []

/-- The two entries with the smallest gap become one with CAUSE MERGED (R410). -/
def mergeAt : Nat → List Lost → List Lost
  | 0, x :: y :: r => ⟨x.nsid, x.lba, y.lba + y.count - x.lba, 5⟩ :: r
  | n + 1, x :: r => x :: mergeAt n r
  | _, l => l

def smallestGap (l : List Lost) : Option Nat :=
  ((lostGaps 0 l).foldl (fun best e => match best with
    | some (b : Nat × Nat) => if e.1 < b.1 then some e else best
    | none => some e) none).map (·.2)

/-- The list with room for one more than it holds (R410). -/
def makeRoom (s : State) (n : Nat) : State :=
  if s.layout.lost.length + n ≤ lostEntryFull then s
  else match smallestGap s.layout.lost with
    | none => s
    | some i => (s.setLayout { s.layout with lost := mergeAt i s.layout.lost, lostMerges := s.layout.lostMerges + 1 }).raise 386

/-- A lost-range entry, and the list (R409). -/
def Lost.bytes (x : Lost) : List Byte :=
  leBytes 8 x.lba ++ leBytes 4 x.count ++ [BitVec.ofNat 8 x.nsid, BitVec.ofNat 8 x.cause, 0, 0]
def lostImage (s : State) : List Byte :=
  leBytes 4 0x4C525A4F ++ leBytes 4 s.layout.lost.length ++ leBytes 4 s.layout.lostMerges ++ leBytes 4 s.layout.lostGen ++
  s.layout.lost.flatMap Lost.bytes
/-- The list changed: its generation, its counts, and the mirror (R386, R409). -/
def lostChanged (s : State) : State :=
  let s := s.setLayout { s.layout with lostGen := (s.layout.lostGen + 1) % 2 ^ 32 }
  layoutChanged (mirrorPages s 0x30 0 (lostImage s))

/-- A block is entered as lost, and a notice names log page 0xD2 (R409, R411). -/
def addLost (s : State) (x : Lost) : State :=
  let s := makeRoom s 1
  asyncNotice (lostChanged (s.setLayout { s.layout with lost := mergeTouching (insertLost x s.layout.lost) })) 0xD2

/-- What remains of an entry when blocks [lba, lba + n) are written. -/
def cutLost (nsid lba n : Nat) (x : Lost) : List Lost :=
  if x.nsid ≠ nsid ∨ x.lba + x.count ≤ lba ∨ lba + n ≤ x.lba then [x]
  else
    (if x.lba < lba then [⟨nsid, x.lba, lba - x.lba, x.cause⟩] else []) ++
    (if lba + n < x.lba + x.count then [⟨nsid, lba + n, x.lba + x.count - (lba + n), x.cause⟩] else [])

/-- Lost blocks that a write-kind release covers are removed (R341, R409). -/
def clearLost (s : State) (nsid lba n : Nat) : State :=
  let l := s.layout.lost.flatMap (cutLost nsid lba n)
  if l = s.layout.lost then s
  else
    let s := if s.layout.lost.length < l.length then makeRoom s 1 else s
    lostChanged (s.setLayout { s.layout with lost := s.layout.lost.flatMap (cutLost nsid lba n) })

/-- A namespace range touches a lost one. -/
def touchesLost (s : State) (nsid lba n : Nat) : Bool :=
  s.layout.lost.any fun x => decide (x.nsid = nsid) && decide (x.lba < lba + n) && decide (lba < x.lba + x.count)

/-! ### Bits, generations and updates (R379–R387) -/

def groupOf (g : Nat) : Nat := g / 64

/-- The write-intent bit of a stripe's group is set, and mirrored if it is clear in the mirror (R387). -/
def setIntent (s : State) (g : Nat) : State :=
  let l := s.layout
  let s := s.setLayout { l with
    dirtyGroups := nset l.dirtyGroups (groupOf g), touchedGroups := nset l.touchedGroups (groupOf g)
    mirroredGroups := nset l.mirroredGroups (groupOf g) }
  let s := if l.mirroredGroups.contains (groupOf g) then s else mirrorIntent s (groupOf g / 32768)
  s.setNum Obj.wiDirtyGroups s.layout.dirtyGroups.length

/-- A stripe becomes allocated, whose page is mirrored, or not (R379, R380, R386). -/
def setAllocated (s : State) (g : Nat) : State :=
  mirrorAlloc (s.setLayout { s.layout with allocated := nset s.layout.allocated g, allocCleared := nunset s.layout.allocCleared g })
    (g / 32768)
def clearAllocated (s : State) (g : Nat) : State :=
  if s.layout.allocated.contains g then
    s.setLayout { s.layout with allocated := nunset s.layout.allocated g, allocCleared := nset s.layout.allocCleared g }
  else s

/-- The next GEN (R382). -/
def nextGen (s : State) : Nat × State :=
  let g := (s.num Obj.stripeGen + 1) % 2 ^ 24
  (g, s.setNum Obj.stripeGen g)

def journalSize : Nat := 317952

/-- Entries that stand in the ring: updates in layout NONE have none. -/
def journalled (l : Layout) : Nat := (l.journal.filter (·.valid)).length + l.replayQueue.length

/-- JOURNAL_OPEN, JOURNAL_FREE and REPLAY_PENDING follow the entries. -/
def countJournal (s : State) : State :=
  let n := journalled s.layout
  ((s.setNum Obj.journalOpen n).setNum Obj.journalFree (journalSize - n)).setNum Obj.replayPending s.layout.replayQueue.length

/-- The open update of a stripe (R383), or its replay entry. -/
def openUpdate (s : State) (g : Nat) : Option JournalEntry := s.layout.journal.find? (·.stripe = g)
def replayEntry (s : State) (g : Nat) : Option JournalEntry := s.layout.replayQueue.find? (·.stripe = g)

/-- A stripe that neither an update nor a replay entry holds. -/
def stripeFree (s : State) (g : Nat) : Bool := (openUpdate s g).isNone && (replayEntry s g).isNone

/-- The P/Q engine serves: no collector has fenced it (R7, R469). -/
def pqServes (s : State) : Bool := !s.coll.fenced.contains 172

/-- Count an update by its METHOD (R393). -/
def countUpdate (s : State) (method : Nat) : State :=
  let b := padTo 32 (s.str Obj.updates)
  s.setStr Obj.updates (b.take (8 * method) ++ leBytes 8 (fieldAt b (8 * method) 8 + 1) ++ b.drop (8 * method + 8))

/-- An update is opened (R382 steps 2–5): journal entry with VALID last; in layout NONE there is no entry. -/
def openEntry (s : State) (e : JournalEntry) : State :=
  let s := setIntent s e.stripe
  let s := s.setLayout { s.layout with journal := s.layout.journal ++ [e], journalSeq := s.layout.journalSeq + 1 }
  countJournal (if e.valid ∨ e.method = 3 then countUpdate s e.method else s)

/-- Pages of the journal base that wait for a retry hold back the changes they record (R386). -/
def pageHeld (s : State) (page : Nat) : Bool := s.layout.mirrorWaiting.contains page

/-- Page of the allocation bitmap that holds a stripe's bit; whether a page of the descriptor copies, of the lost-range list, or of the
extent remap table waits (R385). -/
def allocPage (g : Nat) : Nat := 0x130 + g / 8 / 4096
def pagesHeld (s : State) (lo hi : Nat) : Bool := s.layout.mirrorWaiting.any fun p => decide (lo ≤ p) && decide (p < hi)
def descriptorHeld (s : State) : Bool := pagesHeld s 0 0x10
def lostHeld (s : State) : Bool := pagesHeld s 0x30 0x130
def remapHeld (s : State) : Bool := pagesHeld s 0x930 0x1930

/-! ### Not Ready (R373, R398) -/

/-- Actuators with a present surface that are not RUNNING. -/
def actuatorsDown (s : State) : Nat :=
  ([0, 1, 2, 3].filter fun a => !(surfacesOfAct s a).isEmpty && !actRunning s a).length

/-- No read can be decoded, or no host data placed (R215, R456, R458). -/
def deviceDown (s : State) : Bool :=
  ((List.range 8).all fun d => decide (s.num (Obj.detectorState d) ≠ stRunning)) ||
  ((List.range 12).all fun c => decide (s.num (Obj.ldpcState c) ≠ stRunning)) ||
  ((List.range 8).all fun d => decide (s.num (Obj.dmaState d) ≠ stRunning)) ||
  decide (fld (s.num Obj.lanesFenced) 5 4 = 3) || decide (fld (s.num Obj.lanesFenced) 21 20 = 3)

/-- A namespace reports Not Ready. -/
def notReady (s : State) (n : Namespace) : Bool :=
  let m := mapSlotOf s n.mapSlot
  let d := actuatorsDown s
  deviceDown s || (if m.typ = 2 then decide (2 ≤ d) else decide (1 ≤ d)) ||
  (decide (m.typ = 0) && (surfacesOf m.surfaces).any (retiredSurface s))

end Sys2Proof.Machine
end

