-- ==== Sys2Proof/Machine/Restart.lean ====
section
/-!
DEFINITION. RESTART (R88, R100, R477), and the images of the layout's, the ledger's and the health log's tables as bytes.
-/

namespace Sys2Proof.Machine

/-! ### RESTART (R100) -/

/-- Leaving the safe state by one of the three ways (R477): dump, then a rail cycle. In HALTED only a power cycle helps (R99). -/
def leaveSafe (s : State) (maintenance : Bool) : State :=
  if s.start.mode = .halted ∨ s.power.off.isSome then s
  else beginOff (s.setStart { s.start with restartMaintenance := s.start.restartMaintenance || maintenance }) .safeRestart

/-- RESTART takes effect (R88, R100): during a start the running attempt ends, uncounted; after host ready the device first quiesces. In
the safe state R477 applies, with no failed starts and no history. While the rails run down there is nothing to restart (DEDUCED, log 39). -/
def restart (s : State) (maintenance : Bool) : State :=
  if s.power.off.isSome then s
  else if inSafe s then leaveSafe ((s.setNum Obj.failedStarts 0).setStart { s.start with history := 0 }) maintenance
  else
    let s := s.setStart { s.start with restartAsked := true, restartMaintenance := maintenance }
    if s.start.running then
      let s := sealRecord (stepResult s s.start.step srInterrupted) 6 0 0
      let raised := s.raised
      let s := holdRaised (endAttempt s (decide (s.start.step = 11))) raised
      s.setStart { s.start with running := false, step := 0, history := 0 }
    else settleRestart (s.setHost { s.host with fetchStopped := true })

/-! ### Images -/

/-- Put bytes at an offset of an image. -/
def putAt (l : List Byte) (off : Nat) (b : List Byte) : List Byte := overlay l off b

/-- Header and slots of the event ledger (R484). -/
def ledgerHeader (s : State) : List Byte :=
  let m := s.coll.ledger
  let lowest := m.foldl (fun x e => if x = 0 ∨ e.2.seq < x then e.2.seq else x) 0
  let mirror := (s.coll.norCopies.toList.flatMap fun c => c.map (·.2.seq)).foldl max 0
  leBytes 8 s.coll.newestSeq ++ leBytes 8 lowest ++ leBytes 2 m.length ++ leBytes 2 0 ++
  (List.range 4).flatMap (fun i => leBytes 4 (s.num (Obj.dropsSev i))) ++ leBytes 8 mirror ++ List.replicate 20 0

/-- A slot without a record reads as erased memory of zeros. -/
def ledgerSlot (s : State) (i : Nat) : List Byte := ((SMap.find s.coll.ledger i).map (·.bytes)).getD (List.replicate 64 0)

def ledgerImage (s : State) : List Byte := ledgerHeader s ++ (List.range 4096).flatMap (ledgerSlot s)

/-- Log page 0xD2 (R411). -/
def lostLog (s : State) (l : List Lost) : List Byte :=
  leBytes 4 l.length ++ leBytes 4 s.layout.lostMerges ++ leBytes 8 s.layout.lostGen ++ l.flatMap Lost.bytes

/-- A map in the map format (R374). -/
def StitchMap.bytes (m : StitchMap) : List Byte :=
  let head := leBytes 2 m.layoutId ++ [BitVec.ofNat 8 m.typ, BitVec.ofNat 8 m.k, BitVec.ofNat 8 m.m, BitVec.ofNat 8 m.periodRows,
    BitVec.ofNat 8 m.periodStripes, BitVec.ofNat 8 m.actMax] ++ leBytes 8 m.surfaces ++ [BitVec.ofNat 8 m.spare, 0, 0, 0] ++
    leBytes 4 m.positions.length
  let tail := List.replicate 8 (0 : Byte) ++ m.positions.flatMap fun p => leBytes 4 (p.1 * 2 ^ 24 + p.2 % 65536)
  head ++ (Config.shake256 (head ++ List.replicate 32 0 ++ tail) 32).toList ++ tail

def Namespace.bytes (n : Namespace) : List Byte :=
  [BitVec.ofNat 8 n.nsid, BitVec.ofNat 8 n.mapSlot, 0, 0] ++ leBytes 8 n.firstDba ++ leBytes 8 n.blocks ++ leBytes 4 n.firstStripe ++
  leBytes 4 n.firstRow ++ leBytes 4 n.periods

def Job.bytes (j : Job) : List Byte :=
  [BitVec.ofNat 8 j.surface, 0, 0, 0] ++ leBytes 4 j.watermark ++ leBytes 8 j.done ++ leBytes 8 j.total

/-- The checkpoint area (R420). -/
def checkpointBytes (s : State) : List Byte :=
  let rs := match s.layout.reshape with
    | some r => [BitVec.ofNat 8 r.nsid, BitVec.ofNat 8 r.newSlot, 0, 0] ++ leBytes 4 r.firstRow ++ leBytes 4 r.firstStripe ++
        leBytes 4 r.periods ++ leBytes 8 r.blocks ++ leBytes 4 r.groupBlocks ++ leBytes 4 r.groupsTotal ++ leBytes 4 r.nextGroup
    | none => List.replicate 36 0
  let order := s.layout.retiredOrder.map (BitVec.ofNat 8)
  let unused : List Byte := 0xFF :: List.replicate 23 0
  padTo 64 rs ++ leBytes 4 (s.num Obj.patrolPass) ++ leBytes 4 (s.num Obj.patrolNext) ++ List.replicate 8 0 ++
  (order ++ List.replicate (48 - order.length) 0xFF) ++ leBytes 8 s.layout.staleAll ++
  (List.range 12).flatMap (fun i => ((s.layout.jobs[i]?).map Job.bytes).getD unused) ++ List.replicate 88 0

/-- The layout descriptor in force (R372). -/
def descriptorImage (s : State) : List Byte :=
  let l := s.layout
  let head := leBytes 4 0x4C445A4F ++ leBytes 4 0 ++ leBytes 8 l.seq ++ leBytes 4 l.rowsTotal ++
    [BitVec.ofNat 8 (s.num Obj.spareSurfaces), BitVec.ofNat 8 l.maps.length, BitVec.ofNat 8 s.host.namespaces.length,
     if l.reshape.isSome then 1 else 0] ++ leBytes 8 (presentMask s) ++ padTo 32 (bundleFormatId s.fw.bundle)
  let nss := (List.range 16).flatMap fun i => ((nsOf s (i + 1)).map Namespace.bytes).getD (List.replicate 32 0)
  let maps := (List.range 8).flatMap fun i => ((SMap.find l.maps i).map fun m => padTo 3136 m.bytes).getD (List.replicate 3136 0)
  let all := padTo 27136 (padTo 2048 (head ++ nss ++ checkpointBytes s) ++ maps) ++ List.replicate 5628 0
  all ++ leBytes 4 (crc32c all)

/-- The extent remap table (R377), sorted by KEY. -/
def remapImage (s : State) : List Byte :=
  s.layout.remap.flatMap fun (k, e) =>
    leBytes 4 k ++ [BitVec.ofNat 8 e.surface, BitVec.ofNat 8 ((if e.crowded then 1 else 0) + if e.filled then 2 else 0), 0, 0] ++
    leBytes 4 e.row ++ leBytes 4 0

def suspectImage (s : State) : List Byte := s.layout.suspects.flatMap (leBytes 4)

/-- Chunks of allocated stripes that are lost, per surface: those that lie on it, or were moved from it. -/
def lostChunks (s : State) (u : Nat) : Nat :=
  ((runs s).map fun r =>
    let m := r.map s
    let x := substOf s m
    ((s.layout.allocated.filter fun g => decide (r.firstStripe ≤ g) && decide (g < r.firstStripe + r.stripes s)).map fun g =>
      ((lostMembers s r m x g).filter fun j =>
        let p := placeOf s r m x g j
        decide (p.surface = u) || decide (p.moved = some u)).length).sum).sum

/-- Stale entries of a surface: unfilled entries that keep the chunk's place on it (R397). -/
def staleEntries (s : State) (u : Nat) : Nat := (s.layout.remap.filter fun e => decide (e.2.surface = u) && !e.2.filled).length

/-- Patrol progress in per mille of the allocated stripes. -/
def patrolProgress (s : State) : Nat :=
  let n := s.layout.allocated.length
  if n = 0 then 0 else (s.layout.allocated.filter (· < s.num Obj.patrolNext)).length * 1000 / n

/-- Log page 0xD1 (R421). The time to the end of the jobs is reported as unknown. -/
def healthLog (s : State) : List Byte :=
  let s := countLayout s
  let done := (s.layout.jobs.map (·.done)).sum
  let head := leBytes 8 s.layout.healthGen ++ leBytes 4 (s.num Obj.degradedStripes) ++ leBytes 4 (s.num Obj.criticalStripes) ++
    leBytes 4 s.layout.lost.length ++ leBytes 4 s.layout.suspects.length ++ leBytes 8 done ++
    leBytes 8 (s.num Obj.chunksToRebuild) ++ leBytes 4 0xFFFFFFFF ++
    [BitVec.ofNat 8 (s.num Obj.rebuildState), BitVec.ofNat 8 (s.num Obj.rebuildSharePct),
     BitVec.ofNat 8 (s.num Obj.criticalSharePct), BitVec.ofNat 8 (s.num Obj.reshapeSharePct)] ++
    leBytes 4 (s.num Obj.patrolPass) ++ leBytes 4 (patrolProgress s) ++ leBytes 8 (s.num Obj.patrolRepairs) ++
    [BitVec.ofNat 8 (s.num Obj.reshapeState)] ++
    (match s.layout.reshape with
     | some r => BitVec.ofNat 8 r.nsid :: leBytes 2 (mapSlotOf s r.newSlot).layoutId ++ leBytes 4 r.nextGroup ++ leBytes 4 r.groupsTotal
     | none => 0 :: List.replicate 10 0)
  let recs := (List.range 48).flatMap fun u =>
    [BitVec.ofNat 8 (s.num (Obj.surfaceState u)), BitVec.ofNat 8 (actOf u), 0, 0] ++ leBytes 4 (lostChunks s u) ++
    leBytes 4 (staleEntries s u) ++ leBytes 4 (SMap.findD s.layout.rebuiltOf u 0)
  padTo 1024 (padTo 128 head ++ recs)

end Sys2Proof.Machine
end

