-- ==== Sys2Proof/Machine/HostIo.lean ====
section
/-!
DEFINITION. Fetching, the range lock's meeting with Flush, and the I/O commands (R335–R353, R364–R366).
-/

namespace Sys2Proof.Machine

/-! ### Power states (R364–R366) -/

/-- The drive leaves PS3 or PS4: the spindle goes to its speed; heads load at once when it is there already. In MAINTENANCE the spindle
stays stopped (R98). -/
def wakeDrive (s : State) (from4 : Bool) : State :=
  if s.start.maintenance then s
  else
  let s := if from4 then spinUp s else spinTarget s s.motion.rpm
  if speedNear s 10 then s.each [0, 1, 2, 3] fun s a => if actRunning s a then loadHeads s a else s else s

/-- The reported state, no lower than POWER_CAP (R46, R367). -/
def reportPower (s : State) (n : Nat) : State :=
  let n := max n (s.num Obj.powerCap)
  let s := s.setNum Obj.powerState n
  settleEffective (if n < 4 then s.setHost { s.host with lastOperational := n } else s)

/-- A media wake (R364). -/
def mediaWake (s : State) : State := (wakeDrive (s.setHost { s.host with wake := true }) false).bump Obj.mediaWakes

/-- What a command that needs the medium meets (R364, R366): none when it goes on, else the state in which it waits. -/
def mediaGate (s : State) : Option State :=
  match s.host.psEntry with
  | some 3 | some 4 => some (s.setHost { s.host with psWaiting := true })
  | _ =>
    if s.num Obj.powerState = 3 ∧ !s.host.wake then some (mediaWake s)
    else none

/-- An I/O command in PS4, or during entry to it (R364, R366). -/
def wakeFrom4 (s : State) : State :=
  if s.host.psEntry = some 4 then s.setHost { s.host with psWaiting := true }
  else if s.num Obj.powerState = 4 then wakeDrive (reportPower s s.host.lastOperational) true
  else s

/-! ### Flush (R351) -/

def opFlush : Nat := 0x00
def opWrite : Nat := 0x01
def opRead : Nat := 0x02
def opWriteZeroes : Nat := 0x08
def opDsm : Nat := 0x09
def opVerify : Nat := 0x0C

/-- Blocks of a namespace that are not yet on the medium, with their admission numbers. -/
def dirtyOf (s : State) (nsid : Nat) : List (Nat × Nat) :=
  ((dirtySlots s).filter fun e => decide (nsid = 0xFFFFFFFF) || decide (e.2.nsid = nsid)).map fun e => (e.2.dba, e.2.admission)

/-- What a Flush covers when it is fetched: the blocks cached, and the earlier writes that are not. -/
def flushCover (s : State) (c : CmdSlot) : CmdSlot :=
  if c.io && decide (c.cmd.opcode = opFlush) then
    { c with
      media := dirtyOf s c.cmd.nsid
      waits := c.waits ++ (s.host.slots.filter fun e => decide (e.2.kind = .write) && !e.2.released &&
        (decide (c.cmd.nsid = 0xFFFFFFFF) || decide (e.2.cmd.nsid = c.cmd.nsid))).map (·.2.admission) }
  else c

/-- Blocks of a command that its namespace holds. -/
def dbasOf (s : State) (c : CmdSlot) : List Nat :=
  match nsOf s c.cmd.nsid with
  | some n => (List.range c.count).map fun i => n.firstDba + c.lba + i
  | none => []

/-- The dirty ones among them, with their admission numbers. -/
def dirtyBlocks (s : State) (c : CmdSlot) : List (Nat × Nat) :=
  let l := dbasOf s c
  ((dirtySlots s).filter fun e => l.contains e.2.dba).map fun e => (e.2.dba, e.2.admission)

/-- A Flush that waits for an admission also waits for blocks. -/
def coverOne (blocks : List (Nat × Nat)) (adm : Nat) (c : CmdSlot) : CmdSlot :=
  if c.io && decide (c.cmd.opcode = opFlush) && c.waits.contains adm then { c with media := c.media ++ blocks } else c

/-- A write whose entry is about to be released hands its cached blocks to every Flush that covers it. -/
def coverFlush (s : State) (n : Nat) : State :=
  match s.slot n with
  | none => s
  | some w =>
    if (w.kind ≠ LockKind.write) then s
    else
      let l := s.host.slots.map fun e => (e.1, coverOne (dirtyBlocks s w) w.admission e.2)
      s.setHost { s.host with slots := l }

/-- Completes what waited for the medium and waits no more (R348, R351): a write, or a Flush that has been served. -/
def finishMedium (s : State) (n : Nat) : State :=
  match s.slot n with
  | none => s
  | some c =>
    if !c.io || !c.media.isEmpty || !c.waits.isEmpty || !c.started then s
    else if c.cmd.opcode = opFlush then (completeWith s n scOk).bump Obj.flushes
    else if c.kind = LockKind.write ∧ c.released then
      let s := completeWith s n scOk
      if c.wantsMedium then s.bump Obj.fuaWrites else s
    else s

def settleMedium (s : State) : State := s.each (SMap.keys s.host.slots) finishMedium

/-- What a command still waits for when blocks with data of given admission numbers are on the medium. -/
def stillWaits (done : List (Nat × Nat)) (w : Nat × Nat) : Bool := !done.any fun d => decide (d.1 = w.1) && decide (w.2 ≤ d.2)

/-- BLOCK_ON_MEDIUM (R348): blocks count as on the medium, with the data of an admission number. -/
def blocksOnMedium (s : State) (done : List (Nat × Nat)) : State :=
  let l := s.host.slots.map fun e => (e.1, { e.2 with media := e.2.media.filter (stillWaits done) })
  settleMedium (s.setHost { s.host with slots := l })

/-- Blocks that were dropped from the cache: nothing waits for them any more (R339, R353). -/
def blocksDropped (s : State) (dbas : List Nat) : State := blocksOnMedium s (dbas.map fun d => (d, 2 ^ 64))

/-! ### Shutdown (R361) -/

/-- A normal shutdown is complete when the controller has no command left and the cache is destaged; with the other controller shut down
too, the journal is retired and the heads are parked first. -/
def settleShutdown (s : State) (p : Port) : State :=
  let c := s.ctrl p
  let other := s.ctrl (match p with
    | .a => .b
    | .b => .a)
  let mine := s.host.slots.any fun e => decide (e.2.port = p)
  if c.shutdown = 1 ∧ c.shst = 1 ∧ !mine ∧ (dirtySlots s).isEmpty then
    if other.shutdown = 0 then s.modCtrl p fun k => { k with shst := 2 }
    else if !s.layout.journal.isEmpty then s
    else
      let s := (retractLoaded (bandCopy s)).modCtrl p fun k => { k with shutdown := 3 }
      if allParked s then finishShutdown s else s
  else s

def settleShutdowns (s : State) : State := settleShutdown (settleShutdown s .a) .b

/-! ### Fetch (R343–R347, R353) -/

/-- First LBA and count of the span that a command enters, with its kind (R345). -/
def spanOf (cmd : SqEntry) : LockKind × Nat × Nat :=
  let lba := cmd.cdw10 + cmd.cdw11 * 2 ^ 32
  let n := cmd.cdw12 % 2 ^ 16 + 1
  if cmd.opcode = opRead ∨ cmd.opcode = opVerify then (.read, lba, n)
  else if cmd.opcode = opWrite ∨ cmd.opcode = opWriteZeroes then (.write, lba, n)
  else if cmd.opcode = opDsm ∧ bit cmd.cdw11 2 ∧ !cmd.ranges.isEmpty then
    let lo := cmd.ranges.foldl (fun m r => min m r.1) (cmd.ranges.headD (0, 0)).1
    let hi := cmd.ranges.foldl (fun m r => max m (r.1 + r.2)) 0
    (.write, lo, hi - lo)
  else (.free, 0, 0)

/-- WCE of the controller: 1 under PROTECTED, the feature's value (default 1) under STRICT (R350). -/
def wce (s : State) (p : Port) : Bool := !s.host.strict || decide (SMap.findD (s.ctrl p).features 0x06 1 % 2 = 1)

/-- The write asks for the medium: FUA, or WCE = 0 (R348, R350). -/
def wantsMedium (s : State) (p : Port) (cmd : SqEntry) : Bool :=
  (decide (cmd.opcode = opWrite) || decide (cmd.opcode = opWriteZeroes)) && (bit cmd.cdw12 30 || !wce s p)

/-- I/O slots held, by a controller and by both. -/
def ioHeld (s : State) (p : Port) : Nat := (s.host.slots.filter fun e => e.2.io && decide (e.2.port = p)).length
def ioAll (s : State) : Nat := (s.host.slots.filter fun e => e.2.io).length
def adminHeld (s : State) (p : Port) : Nat := (s.host.slots.filter fun e => !e.2.io && decide (e.2.port = p)).length

/-- A controller has an I/O command waiting in a submission queue. -/
def ioWaiting (s : State) (p : Port) : Bool := (s.ctrl p).sqs.any fun e => decide (e.1 ≠ 0) && decide (e.2.head ≠ e.2.tail)

def otherPort : Port → Port
  | .a => .b
  | .b => .a

/-- The other controller has I/O waiting that it may hold a slot for. -/
def otherClaims (s : State) (p : Port) : Bool :=
  ioWaiting s (otherPort p) && decide (ioHeld s (otherPort p) < s.num Obj.portSlotMax)

/-- A slot is free for the controller's next command (R343). From the moment the slots run out, those that come free go to the two
controllers alternately while both have I/O waiting. -/
def slotFree (s : State) (p : Port) (io : Bool) : Bool :=
  if io then
    decide (ioHeld s p < s.num Obj.portSlotMax) && decide (ioAll s < 1008) &&
    !(s.host.scarce && otherClaims s p && decide (s.host.lastPort = p))
  else decide (adminHeld s p < 8)

/-- Who received an I/O slot, and whether slots are scarce. -/
def slotTaken (s : State) (p : Port) : State :=
  s.setHost { s.host with
    lastPort := p, scarce := decide (1008 ≤ ioAll s) || (s.host.scarce && ioWaiting s p && otherClaims s p) }

/-- The lowest free slot number: 0–15 serve admin commands, 8 for each controller. -/
def slotNumber (s : State) (p : Port) (io : Bool) : Nat :=
  let l := if io then (List.range 1008).map (16 + ·) else (List.range 8).map (8 * portNo p + ·)
  (l.find? fun i => (s.slot i).isNone).getD 0

/-- The controller fetches: it is ready, not shut down, not in the safe state, and no activation freeze holds it (R114, R359, R361, R476). -/
def fetches (s : State) (p : Port) : Bool :=
  let c := s.ctrl p
  c.en && c.rdy && decide (c.shutdown = 0) && !s.host.fetchStopped && !s.fw.frozen

def advanceSq (s : State) (p : Port) (qid : Nat) (q : Sq) : State :=
  s.modCtrl p fun k => { k with sqs := SMap.put k.sqs qid { q with head := (q.head + 1) % q.size }, turn := qid }

/-- The submission queue whose turn it is (R343): round robin over those with a command waiting and a slot free for it, the admin queue
first in each turn. -/
def nextQueue (s : State) (p : Port) : Option Nat :=
  let ready := ((s.ctrl p).sqs.filter fun e => decide (e.2.head ≠ e.2.tail) && slotFree s p (decide (e.1 ≠ 0))).map (·.1)
  match ready.find? fun q => decide ((s.ctrl p).turn < q) with
  | some q => some q
  | none => ready.head?

/-- The next admission number (R344). -/
def nextAdmission (s : State) : Nat × State := (s.num Obj.admissionSeq + 1, s.bump Obj.admissionSeq)

/-- An Asynchronous Event Request is admitted (R344): it holds no slot and waits in its controller's list of eight. -/
def admitAer (s : State) (p : Port) (cid : Nat) : State :=
  let s := (nextAdmission s).2
  if 8 ≤ (s.ctrl p).aers.length then postCompletion s p 0 ⟨cid, scAerLimit.1, scAerLimit.2, 0, 0, none⟩
  else giveNotices 8 (s.modCtrl p fun k => { k with aers := k.aers ++ [cid] }) p

/-- COMMAND_FETCH (R336, R343–R347): of the queue whose turn it is. A fused command is refused. A command for a namespace under erase stays in its queue (R129). -/
def fetchCommand (s : State) (p : Port) (qid : Nat) (cmd : SqEntry) : State :=
  match SMap.find (s.ctrl p).sqs qid with
  | none => s
  | some q =>
    let io := decide (qid ≠ 0)
    if !fetches s p || decide (q.head = q.tail) then s
    else if !slotFree s p io then s.bump Obj.slotWaits
    else if nextQueue s p ≠ some qid then s
    else if io && s.fw.erasing.contains cmd.nsid then s.modCtrl p fun k => { k with turn := qid }
    else if !io && decide (cmd.opcode = 0x0C) then admitAer (advanceSq s p qid q) p cmd.cid
    else
      let s := if io then wakeFrom4 s else s
      let n := slotNumber s p io
      let (adm, s) := nextAdmission (advanceSq s p qid q)
      let (kind, lba, count) := if io then spanOf cmd else (.free, 0, 0)
      let c : CmdSlot :=
        { port := p, qid := qid, cq := q.cq, cmd := cmd, admission := adm, io := io, kind := kind, lba := lba, count := count
          released := false, stalled := false, waits := [], locks := [], cached := 0, wantsMedium := io && wantsMedium s p cmd, media := []
          started := false, fetchTick := s.tick, checked := false }
      let w := lockWaits s c
      let l := lockStalls s c
      let c := flushCover s { c with waits := w, locks := l, stalled := !w.isEmpty }
      let s := putSlot (if l.isEmpty then s else s.bump Obj.lockStalls) n c
      let s := settleLock 1024 (countSlots (if io then slotTaken s p else s))
      if cmd.fuse % 4 ≠ 0 then completeWith s n scInvalidField else s

def execCommandFetch (p : Port) (qid : Nat) (cmd : SqEntry) (s : State) : Host.Outcome State Fault Refusal :=
  .next (fetchCommand s p qid cmd)

/-- ASYNC_EVENT_REQUEST (R344): the fetch of an event request from the admin queue. -/
def execAsyncEventRequest (p : Port) (cid : Nat) (s : State) : Host.Outcome State Fault Refusal :=
  .next (fetchCommand s p 0 { opcode := 0x0C, cid := cid })

/-- SQ_DOORBELL (R343): new commands become available for fetch. -/
def execSqDoorbell (p : Port) (qid tail : Nat) (s : State) : Host.Outcome State Fault Refusal :=
  match SMap.find (s.ctrl p).sqs qid with
  | some q =>
    if tail < q.size then .next (s.modCtrl p fun k => { k with sqs := SMap.put k.sqs qid { q with tail := tail } }) else .next s
  | none => .next s

/-- Completions that waited are posted while there is room and no freeze (R114, R342). -/
def postWaiting : Nat → State → Port → Nat → State
  | 0, s, _, _ => s
  | fuel + 1, s, p, qid =>
    match SMap.find (s.ctrl p).cqs qid with
    | none => s
    | some q =>
      match q.waiting with
      | c :: r => if s.fw.frozen || cqFull q then s else postWaiting fuel (postNow s p qid { q with waiting := r } c) p qid
      | [] => s

/-- CQ_HEAD_DOORBELL (R342): the host has consumed entries. -/
def execCqHeadDoorbell (p : Port) (qid head : Nat) (s : State) : Host.Outcome State Fault Refusal :=
  match SMap.find (s.ctrl p).cqs qid with
  | some q =>
    if head < q.size then
      let s := s.modCtrl p fun k => { k with cqs := SMap.put k.cqs qid { q with head := head } }
      .next (settleShutdowns (postWaiting 1024 s p qid))
    else .next s
  | none => .next s

/-! ### What an I/O command meets first -/

/-- The command of a slot, if it may run: an I/O command of this opcode that has left its stall and is not ended. -/
def ioCmd (s : State) (n op : Nat) : Option CmdSlot :=
  match s.slot n with
  | some c => if c.io && decide (c.cmd.opcode = op) && !c.stalled && !c.released then some c else none
  | none => none

def attachedTo (ns : Namespace) : Port → Bool
  | .a => ns.attachedA
  | .b => ns.attachedB

/-- Host ready was reached in NORMAL (R98). -/
def normalMode (s : State) : Bool := decide (s.start.mode = .normal)

/-- The status that turns an I/O command away before it does anything (R98, R335, R373, R398). -/
def turnAway (s : State) (c : CmdSlot) : Option (Nat × Nat) :=
  if !normalMode s then some scNotReady
  else match nsOf s c.cmd.nsid with
    | none => some scInvalidNamespace
    | some ns =>
      if !attachedTo ns c.port then some scInvalidField
      else if notReady s ns then some scNotReady
      else if c.kind ≠ LockKind.free ∧ ns.nsze < c.lba + c.count then some scLbaRange
      else if c.kind ≠ LockKind.free ∧ c.cmd.opcode ≠ opDsm ∧ 512 < c.count ∧ c.cmd.opcode ≠ opWriteZeroes ∧ c.cmd.opcode ≠ opVerify then
        some scInvalidField
      else none

/-- Complete a command from its slot, handing what it has cached to the Flushes that cover it. -/
def endIo (s : State) (n : Nat) (st : Nat × Nat) : State :=
  settleShutdowns (settleMedium (completeWith (coverFlush s n) n st))

/-! ### Protection information (R337, R338) -/

def crc16T10Bits : Nat → Nat → Nat
  | 0, c => c
  | n + 1, c => crc16T10Bits n (if 0x8000 ≤ c then ((c * 2) % 0x10000) ^^^ 0x8BB7 else (c * 2) % 0x10000)

/-- The T10 CRC-16. -/
def crc16T10 (l : List Byte) : Nat := l.foldl (fun c b => crc16T10Bits 8 (c ^^^ (b.toNat * 256))) 0

/-- A big-endian number of a few bytes. -/
def beNat (l : List Byte) : Nat := l.foldl (fun n b => 256 * n + b.toNat) 0
def beBytes (n v : Nat) : List Byte := (leBytes n v).reverse

/-- The plaintext of a block. -/
def plainOf (s : State) (nsid lba : Nat) (cipher : List Byte) : List Byte :=
  (Config.xtsDecrypt nsid (SMap.findD s.fw.nsKeys nsid 0) lba cipher).toList

def pract (c : CmdSlot) : Bool := bit c.cmd.cdw12 29

/-- The protection information that the device generates. -/
def makePi (ns : Namespace) (c : CmdSlot) (lba : Nat) (plain : List Byte) : List Byte :=
  beBytes 2 (crc16T10 plain) ++ beBytes 2 (c.cmd.cdw15 % 65536) ++
  beBytes 4 (if ns.piType = 1 then lba % 2 ^ 32 else c.cmd.cdw14 % 2 ^ 32)

/-- The first check that a block's protection information fails: guard, application tag, reference tag. -/
def piError (ns : Namespace) (c : CmdSlot) (lba : Nat) (plain pi : List Byte) : Option (Nat × Nat) :=
  let guard := beNat (slice pi 0 2)
  let app := beNat (slice pi 2 2)
  let ref := beNat (slice pi 4 4)
  let mask := c.cmd.cdw15 / 65536 % 65536
  let off := decide (app = 0xFFFF) && (decide (ns.piType = 1) || decide (ref = 0xFFFFFFFF))
  if ns.lbaFormat ≠ 1 ∨ off then none
  else if bit c.cmd.cdw12 28 ∧ guard ≠ crc16T10 plain then some (2, 0x82)
  else if bit c.cmd.cdw12 27 ∧ app &&& mask ≠ c.cmd.cdw15 % 65536 &&& mask then some (2, 0x83)
  else if bit c.cmd.cdw12 26 ∧ ns.piType = 1 ∧ ref ≠ lba % 2 ^ 32 then some (2, 0x84)
  else none

/-! ### Write (R338, R346, R348, R349) -/

/-- One block is admitted to the protected cache. -/
def admitBlock (s : State) (ns : Namespace) (c : CmdSlot) (dba k : Nat) (payload : List Byte) : State :=
  putCache (s.setLayout { s.layout with halfDone := s.layout.halfDone.filter (·.1 ≠ dba) }) k
    { state := 1, nsid := ns.nsid, dba := dba, admission := c.admission, payload := payload }

/-- Blocks of a write are admitted in ascending order until one fails its check or the cache is full: how many are cached, and the error. -/
def admitBlocks (ns : Namespace) (c : CmdSlot) : Nat → List HostBlock → State → Nat × Option (Nat × Nat) × State
  | i, [], s => (i, none, s)
  | i, b :: r, s =>
    let lba := c.lba + i
    let dba := ns.firstDba + lba
    let plain := plainOf s ns.nsid lba b.cipher
    let err := if pract c then none else piError ns c lba plain b.pi
    match err with
    | some e => (i, some e, s)
    | none =>
      match slotFor s dba with
      | none => (i, none, s)
      | some k =>
        let pi := if ns.lbaFormat = 1 then (if pract c then makePi ns c lba plain else b.pi) else []
        let flags := if ns.lbaFormat = 1 then 8 else 0
        admitBlocks ns c (i + 1) r (admitBlock s ns c dba k (mkPayload b.cipher pi (scrcSeed (dbaPrefix dba)) 0 flags))

/-- NVME_WRITE: the ingress path admits the blocks that follow those already cached. With the cache full the rest waits (R349), and in
PS3 the medium is woken for it (R364). -/
def execNvmeWrite (slot : Nat) (blocks : List HostBlock) (s : State) : Host.Outcome State Fault Refusal :=
  match ioCmd s slot opWrite with
  | none => .next s
  | some c =>
    match turnAway s c, nsOf s c.cmd.nsid with
    | some st, _ => .next (endIo s slot st)
    | none, none => .next s
    | none, some ns =>
      let (i, err, s) := admitBlocks ns c c.cached (blocks.take (c.count - c.cached)) s
      let s := putSlot s slot { c with cached := i }
      match err with
      | some e => .next (endIo s slot e)
      | none => .next (if i < c.cached + blocks.length ∧ i < c.count then (mediaGate s).getD s else s)

/-- A command that waits for blocks to reach the medium wakes it (R364, R366). -/
def wakeFor (s : State) (blocks : List (Nat × Nat)) : State := if blocks.isEmpty then s else (mediaGate s).getD s

/-- The write completes only with its blocks on the medium: it asked for that, or no dump can keep them (R348, R437). -/
def needsMedium (s : State) (c : CmdSlot) : Bool := c.wantsMedium || !keeperServes s || s.mem.supersedeDue

/-- WRITE_CACHED (R346): every block is cached; lost blocks it covers are cleared, its entry is released, and it completes or waits for
the medium. -/
def execWriteCached (slot : Nat) (s : State) : Host.Outcome State Fault Refusal :=
  match s.slot slot with
  | none => .next s
  | some c =>
    if c.io && decide (c.kind = .write) && !c.stalled && !c.released && decide (c.cached = c.count) && decide (0 < c.count) then
      let s := coverFlush (clearLost s c.cmd.nsid c.lba c.count) slot
      let wait := if needsMedium s c then dirtyBlocks s c else []
      let s := putSlot (wakeFor s wait) slot { c with media := wait, started := true }
      .next (settleShutdowns (settleMedium (releaseEntry s slot)))
    else .next s

/-! ### Deallocation and Write Zeroes (R339, R380) -/

/-- The span [lo, hi) joined to disjoint spans in rising order. -/
def joinSpan (lo hi : Nat) : List (Nat × Nat) → List (Nat × Nat)
  | [] => [(lo, hi)]
  | (a, b) :: r =>
    if hi < a then (lo, hi) :: (a, b) :: r else if b < lo then (a, b) :: joinSpan lo hi r else joinSpan (min lo a) (max hi b) r

/-- What listed ranges cover together, as such spans. -/
def coveredSpans (ranges : List (Nat × Nat)) : List (Nat × Nat) := ranges.foldl (fun l r => joinSpan r.1 (r.1 + r.2) l) []

/-- Stripes of a namespace whose LBAs all lie in the ranges (R339). -/
def wholeStripes (s : State) (ns : Namespace) (ranges : List (Nat × Nat)) : List Nat :=
  let m := mapSlotOf s ns.mapSlot
  let w := m.k * 64
  (coveredSpans ranges).flatMap fun r =>
    let first := (r.1 + w - 1) / w
    (List.range (r.2 / w - first)).map fun i => ns.firstStripe + first + i

/-- The new-layout stripes that a block range covers wholly, while a reshape runs (R417). -/
def newStripes (s : State) (ns : Namespace) (ranges : List (Nat × Nat)) : List Nat :=
  match reshapeRun s with
  | some r => if r.nsid = ns.nsid then
      wholeStripes s { ns with mapSlot := r.mapSlot, firstStripe := r.firstStripe } ranges else []
  | none => []

/-- Stripes are deallocated (R380): their bits are cleared and their cached blocks dropped, which then wait for the medium no more. -/
def deallocate (s : State) (ns : Namespace) (ranges : List (Nat × Nat)) : State :=
  let gs := wholeStripes s ns ranges
  let s := s.each (gs ++ newStripes s ns ranges) fun s g => clearAllocated s g
  let m := mapSlotOf s ns.mapSlot
  let w := m.k * 64
  let inside (dba : Nat) : Bool :=
    decide (ns.firstDba ≤ dba) && decide (dba < ns.firstDba + ns.blocks) && gs.contains (ns.firstStripe + (dba - ns.firstDba) / w)
  let gone := ((dirtySlots s).filter fun e => inside e.2.dba).map (·.2.dba)
  let s := s.each gs fun s g => clearLost s ns.nsid ((g - ns.firstStripe) * w) w
  blocksDropped (layoutChanged (dropCached s inside)) gone

/-- DATASET_MANAGEMENT: with the Deallocate attribute every whole stripe in the ranges is deallocated. -/
def execDatasetManagement (slot : Nat) (s : State) : Host.Outcome State Fault Refusal :=
  match ioCmd s slot opDsm with
  | none => .next s
  | some c =>
    match turnAway s c, nsOf s c.cmd.nsid with
    | some st, _ => .next (endIo s slot st)
    | none, some ns => .next (endIo (if bit c.cmd.cdw11 2 then deallocate s ns c.cmd.ranges else s) slot scOk)
    | none, none => .next s

/-- Zero blocks are admitted from index i on, as the ciphertext of zeros (R127, R339), but for the blocks of whole stripes under DEAC. -/
def zeroBlocks (ns : Namespace) (c : CmdSlot) (skip : Nat → Bool) : Nat → Nat → State → Nat × State
  | 0, i, s => (i, s)
  | n + 1, i, s =>
    let lba := c.lba + i
    let dba := ns.firstDba + lba
    if skip lba then zeroBlocks ns c skip n (i + 1) s
    else
      match slotFor s dba with
      | none => (i, s)
      | some k =>
        let pi := if ns.lbaFormat = 1 then makePi ns c lba (List.replicate 4096 0) else []
        let flags := if ns.lbaFormat = 1 then 8 else 0
        zeroBlocks ns c skip n (i + 1) (admitBlock s ns c dba k (mkPayload (zeroCipher s ns.nsid lba) pi (scrcSeed (dbaPrefix dba)) 0 flags))

/-- WRITE_ZEROES: every block is written as a zero block; with DEAC the whole stripes are deallocated instead. -/
def execWriteZeroes (slot : Nat) (s : State) : Host.Outcome State Fault Refusal :=
  match ioCmd s slot opWriteZeroes with
  | none => .next s
  | some c =>
    match turnAway s c, nsOf s c.cmd.nsid with
    | some st, _ => .next (endIo s slot st)
    | none, none => .next s
    | none, some ns =>
      let deac := bit c.cmd.cdw12 25
      let ranges := [(c.lba, c.count)]
      let gs := if deac then wholeStripes s ns ranges else []
      let w := (mapSlotOf s ns.mapSlot).k * 64
      let s := if deac && decide (c.cached = 0) then deallocate s ns ranges else s
      let (i, s) := zeroBlocks ns c (fun lba => gs.contains (ns.firstStripe + lba / w)) (c.count - c.cached) c.cached s
      .next (putSlot s slot { c with cached := i })

/-! ### Read and Verify (R338–R341, R352, R353) -/

/-- The Error Recovery feature of a namespace (R340): TLER and DULBE. -/
def errorRecovery (s : State) (p : Port) (nsid : Nat) : Nat := SMap.findD (s.ctrl p).features (0x05 + 256 * nsid) 0
def dulbe (s : State) (c : CmdSlot) : Bool := bit (errorRecovery s c.port c.cmd.nsid) 16

/-- A block is deallocated: its stripe is unallocated and the cache does not hold it (R339, R379). -/
def deallocated (s : State) (ns : Namespace) (lba : Nat) : Bool :=
  let dba := ns.firstDba + lba
  let (g, _, _) := stripeAt ns.run (mapSlotOf s ns.mapSlot) dba
  !s.layout.allocated.contains g && (cachedSlot s dba).isNone

/-- What a block gives: data to transfer, an error, or nothing yet because the medium must be read. -/
inductive BlockRead where
  | data (plain pi : List Byte)
  | error (st : Nat × Nat)
  | media
  deriving DecidableEq, Repr

/-- Egress of one payload (R14, R338): SCRC before decryption, protection information after it. -/
def egress (s : State) (ns : Namespace) (c : CmdSlot) (lba : Nat) (payload : List Byte) : BlockRead :=
  if !scrcGood (scrcSeed (dbaPrefix (ns.firstDba + lba))) payload then .error scUnrecoveredRead
  else
    let plain := plainOf s ns.nsid lba (payload.take 4096)
    let pi := slice payload 4096 8
    match piError ns c lba plain pi with
    | some e => .error e
    | none => .data plain pi

/-- Block i of a read: `useCache` is false where the data must come from the medium (R352). -/
def readBlock (s : State) (ns : Namespace) (c : CmdSlot) (useCache : Bool) (media : List MediaBlock) (i : Nat) : BlockRead :=
  let lba := c.lba + i
  let dba := ns.firstDba + lba
  if touchesLost s ns.nsid lba 1 then .error scUnrecoveredRead
  else if deallocated s ns lba then .data (List.replicate 4096 0) (List.replicate 8 0xFF)
  else match (if useCache then cachedSlot s dba else none) with
    | some (k, e) => if slotPoisoned s k then .error scUnrecoveredRead else egress s ns c lba e.payload
    | none => match media[i]? with
      | none => .media
      | some .unrecovered => .error scUnrecoveredRead
      | some (.ok payload) => egress s ns c lba payload

/-- Blocks in order until one fails or must come from the medium: the data of those before it. -/
def readBlocks (s : State) (ns : Namespace) (c : CmdSlot) (useCache : Bool) (media : List MediaBlock) :
    List Nat → List Byte → List Byte × Option BlockRead
  | [], acc => (acc, none)
  | i :: r, acc =>
    match readBlock s ns c useCache media i with
    | .data plain pi =>
      readBlocks s ns c useCache media r (acc ++ plain ++ if ns.lbaFormat = 1 ∧ !pract c then pi else [])
    | x => (acc, some x)

/-- Whether any block of a command must be read on the medium. -/
def touchesMedium (s : State) (ns : Namespace) (c : CmdSlot) (useCache : Bool) : Bool :=
  (List.range c.count).any fun i =>
    !touchesLost s ns.nsid (c.lba + i) 1 && !deallocated s ns (c.lba + i) &&
    !(useCache && (cachedSlot s (ns.firstDba + c.lba + i)).isSome)

/-- A Read of mode `media only` first lets the overlapping cached blocks reach the medium (R352). -/
def firstToMedium (s : State) (n : Nat) (c : CmdSlot) : Option State :=
  let d := dirtyBlocks s c
  if d.isEmpty then none else some (wakeFor (putSlot s n { c with media := d }) d)

/-- Reads the blocks, transferring them when `transfer` holds; none while the medium's answer is missing. -/
def serveRead (s : State) (n : Nat) (c : CmdSlot) (ns : Namespace) (useCache transfer : Bool) (media : List MediaBlock) : State :=
  if dulbe s c && (List.range c.count).any (fun i => deallocated s ns (c.lba + i)) then endIo s n scDeallocated
  else
    match (if touchesMedium s ns c useCache then mediaGate s else none) with
    | some s => s
    | none =>
      match readBlocks s ns c useCache media (List.range c.count) [] with
      | (_, some .media) => s
      | (data, some (.error e)) => endIo (if transfer ∧ data ≠ [] then s.emit (.hostData c.port c.cmd.cid data) else s) n e
      | (data, _) =>
        if transfer then putSlot (s.emit (.hostData c.port c.cmd.cid data)) n { c with started := true }
        else endIo s n scOk

/-- NVME_READ: from the cache where it holds the blocks, otherwise from the medium; a FUA read under STRICT from the medium alone. -/
def execNvmeRead (slot : Nat) (media : List MediaBlock) (s : State) : Host.Outcome State Fault Refusal :=
  match ioCmd s slot opRead with
  | none => .next s
  | some c =>
    if c.started then .next s
    else
      match turnAway s c, nsOf s c.cmd.nsid with
      | some st, _ => .next (endIo s slot st)
      | none, none => .next s
      | none, some ns =>
        let fua := bit c.cmd.cdw12 30 && s.host.strict
        match (if fua then firstToMedium s slot c else none) with
        | some s => .next s
        | none => .next (serveRead s slot c ns (!fua) true media)

/-- NVME_VERIFY (R352): the cached blocks reach the medium first, and every allocated block is read there; nothing is transferred. -/
def execNvmeVerify (slot : Nat) (media : List MediaBlock) (s : State) : Host.Outcome State Fault Refusal :=
  match ioCmd s slot opVerify with
  | none => .next s
  | some c =>
    match turnAway s c, nsOf s c.cmd.nsid with
    | some st, _ => .next (endIo s slot st)
    | none, none => .next s
    | none, some ns =>
      match firstToMedium s slot c with
      | some s => .next s
      | none => .next (serveRead s slot c ns false false media)

/-- READ_TRANSFERRED (R346): the last byte has left; the entry is released and the completion posted. -/
def execReadTransferred (slot : Nat) (s : State) : Host.Outcome State Fault Refusal :=
  match ioCmd s slot opRead with
  | some c => if c.started then .next (endIo s slot scOk) else .next s
  | none => .next s

/-- NVME_FLUSH (R351): it completes when what it covers is on the medium. -/
def execNvmeFlush (slot : Nat) (s : State) : Host.Outcome State Fault Refusal :=
  match ioCmd s slot opFlush with
  | none => .next s
  | some c =>
    if c.cmd.nsid ≠ 0xFFFFFFFF then
      match turnAway s c with
      | some st => .next (endIo s slot st)
      | none => .next (settleShutdowns (finishMedium (putSlot (wakeFor s c.media) slot { c with started := true }) slot))
    else if !normalMode s then .next (endIo s slot scNotReady)
    else .next (settleShutdowns (finishMedium (putSlot (wakeFor s c.media) slot { c with started := true }) slot))

/-- TLER_EXPIRE (R340): the read of an unrecovered block ends; its climb goes on. -/
def execTlerExpire (slot : Nat) (lba : Nat) (s : State) : Host.Outcome State Fault Refusal :=
  match ioCmd s slot opRead with
  | none => .next s
  | some c =>
    if errorRecovery s c.port c.cmd.nsid % 65536 ≠ 0 ∧ c.lba ≤ lba ∧ lba < c.lba + c.count ∧ !c.started then
      .next (endIo s slot scUnrecoveredRead)
    else .next s

end Sys2Proof.Machine
end

