-- ==== Sys2Proof/Machine/HostAdmin.lean ====
section
/-!
DEFINITION. Admin commands, namespaces and reservations (R334–R342, R350, R354–R357, R365, R371).
-/

namespace Sys2Proof.Machine

/-- The admin command of a slot, if it is of this opcode. -/
def adminCmd (s : State) (n op : Nat) : Option CmdSlot :=
  match s.slot n with
  | some c => if !c.io && decide (c.cmd.opcode = op) && !c.released then some c else none
  | none => none

/-- An admin command ends. -/
def endAdmin (s : State) (n : Nat) (st : Nat × Nat) (dw0 : Nat := 0) (dw1 : Nat := 0) : State :=
  settleShutdowns (completeWith s n st dw0 dw1)

/-- An admin command ends with data for the host. -/
def endData (s : State) (n : Nat) (c : CmdSlot) (data : List Byte) : State :=
  endAdmin (s.emit (.hostData c.port c.cmd.cid data)) n scOk

/-- Data whose content the base specification alone defines: free bytes (log entry 1). -/
def freeData (s : State) (len : Nat) : List Byte × State := (leBytes len s.draw.1, s.draw.2)

/-! ### Queues (R342) -/

/-- Submission and completion queues that the Number of Queues feature grants. -/
def queuesFeature (s : State) (p : Port) : Nat := SMap.findD (s.ctrl p).features 0x07 (63 + 63 * 65536)
def sqsGranted (s : State) (p : Port) : Nat := queuesFeature s p % 65536 + 1
def cqsGranted (s : State) (p : Port) : Nat := queuesFeature s p / 65536 % 65536 + 1

/-- IO_QUEUES: I/O submission queues created. -/
def countQueues (s : State) (p : Port) : State :=
  s.setNum (Obj.ioQueues (portNo p)) ((s.ctrl p).sqs.filter fun e => e.1 ≠ 0).length

def execCreateIoCq (slot : Nat) (s : State) : Host.Outcome State Fault Refusal :=
  match adminCmd s slot 0x05 with
  | none => .next s
  | some c =>
    let qid := c.cmd.cdw10 % 65536
    let size := c.cmd.cdw10 / 65536 % 65536 + 1
    let vector := c.cmd.cdw11 / 65536 % 65536
    if qid = 0 ∨ cqsGranted s c.port < qid ∨ (SMap.find (s.ctrl c.port).cqs qid).isSome then .next (endAdmin s slot scQueueIdInvalid)
    else if size < 2 ∨ queueMax (s.ctrl c.port) < size then .next (endAdmin s slot scQueueSizeInvalid)
    else if !bit c.cmd.cdw11 0 then .next (endAdmin s slot scInvalidField)
    else if msixVectors ≤ vector then .next (endAdmin s slot scInvalidVector)
    else .next (endAdmin (s.modCtrl c.port fun k => { k with
      cqs := SMap.put k.cqs qid ⟨size, 0, 0, [], vector, bit c.cmd.cdw11 1, 0, 0⟩ }) slot scOk)

def execCreateIoSq (slot : Nat) (s : State) : Host.Outcome State Fault Refusal :=
  match adminCmd s slot 0x01 with
  | none => .next s
  | some c =>
    let qid := c.cmd.cdw10 % 65536
    let size := c.cmd.cdw10 / 65536 % 65536 + 1
    let cq := c.cmd.cdw11 / 65536 % 65536
    if qid = 0 ∨ sqsGranted s c.port < qid ∨ (SMap.find (s.ctrl c.port).sqs qid).isSome then .next (endAdmin s slot scQueueIdInvalid)
    else if cq = 0 then .next (endAdmin s slot scQueueIdInvalid)
    else if (SMap.find (s.ctrl c.port).cqs cq).isNone then .next (endAdmin s slot scCqInvalid)
    else if size < 2 ∨ queueMax (s.ctrl c.port) < size then .next (endAdmin s slot scQueueSizeInvalid)
    else if !bit c.cmd.cdw11 0 then .next (endAdmin s slot scInvalidField)
    else
      let s := s.modCtrl c.port fun k => { k with sqs := SMap.put k.sqs qid ⟨size, cq, 0, 0⟩ }
      .next (endAdmin (countQueues s c.port) slot scOk)

/-- DELETE_IO_SQ: its commands that have not ended are aborted (0x08, Command Aborted due to SQ Deletion). -/
def execDeleteIoSq (slot : Nat) (s : State) : Host.Outcome State Fault Refusal :=
  match adminCmd s slot 0x00 with
  | none => .next s
  | some c =>
    let qid := c.cmd.cdw10 % 65536
    if qid = 0 ∨ (SMap.find (s.ctrl c.port).sqs qid).isNone then .next (endAdmin s slot scQueueIdInvalid)
    else
      let mine := (s.host.slots.filter fun e => e.2.io && decide (e.2.port = c.port) && decide (e.2.qid = qid)).map (·.1)
      let s := s.each mine fun s n => endIo s n (0, 0x08)
      let s := s.modCtrl c.port fun k => { k with sqs := SMap.erase k.sqs qid }
      .next (endAdmin (countQueues s c.port) slot scOk)

def execDeleteIoCq (slot : Nat) (s : State) : Host.Outcome State Fault Refusal :=
  match adminCmd s slot 0x04 with
  | none => .next s
  | some c =>
    let qid := c.cmd.cdw10 % 65536
    if qid = 0 ∨ (SMap.find (s.ctrl c.port).cqs qid).isNone then .next (endAdmin s slot scQueueIdInvalid)
    else if (s.ctrl c.port).sqs.any fun e => decide (e.2.cq = qid) then .next (endAdmin s slot scQueueDeletion)
    else .next (endAdmin (s.modCtrl c.port fun k => { k with cqs := SMap.erase k.cqs qid }) slot scOk)

/-! ### Log pages (R335, R411, R421, R484) -/

/-- Firmware Slot Information (base specification): slots 1 and 2 are image slots 0 and 1; the slot that runs, the one that the next
controller reset activates, and their revisions. -/
def firmwareLog (s : State) : List Byte :=
  let next := if pendingSlot s = 0xFF then 0 else pendingSlot s + 1
  let rev (i : Nat) : List Byte :=
    if decide ((vget s.fw.slots i ⟨[], 0⟩).state = 1) then slice (vget s.fw.slots i ⟨[], 0⟩).bytes 8 8 else List.replicate 8 0
  padTo 512 ([BitVec.ofNat 8 (s.num Obj.runningSlot + 1 + 16 * next)] ++ List.replicate 7 0 ++ padTo 8 (rev 0) ++ padTo 8 (rev 1))

/-- Sanitize Status (base specification): nothing yet, completed, or in progress, by a crypto erase. -/
def sanitizeLog (s : State) : List Byte :=
  padTo 512 (leBytes 2 65535 ++ leBytes 2 s.host.sanitize ++ leBytes 4 (if s.host.sanitize = 0 then 0 else 4) ++
    List.replicate 24 0xFF)

/-- Changed Namespace List. -/
def changedLog (k : Controller) : List Byte := padTo 4096 (k.changedNs.flatMap (leBytes 4))

/-- Reservation Notification: the oldest one not read, with the count of all and of those that follow it. -/
def reservationLog (k : Controller) : List Byte := match k.resNotes with
  | [] => List.replicate 64 0
  | n :: r => padTo 64 (leBytes 8 (k.resNoteCount - r.length) ++ [BitVec.ofNat 8 n.1, BitVec.ofNat 8 (min r.length 255), 0, 0] ++
      leBytes 4 n.2)

/-- Rotational Media Information of the single endurance group: its actuators and nominal speed; the spin and load counts are free. -/
def rotationalLog (s : State) : List Byte × State :=
  let n := ((List.range 4).filter (actPresent s)).length
  (padTo 512 (leBytes 2 1 ++ leBytes 2 n ++ leBytes 2 (s.num Obj.formatRpm) ++ [0, 0] ++ leBytes 16 s.draw.1), s.draw.2)

/-- Opcodes that the device accepts (R335), admin and I/O. -/
def adminOpcodes : List Nat :=
  [0x00, 0x01, 0x02, 0x04, 0x05, 0x06, 0x08, 0x09, 0x0A, 0x0C, 0x0D, 0x10, 0x11, 0x15, 0x80, 0x81, 0x82, 0x84, 0x86, 0xC0, 0xC1, 0xC2]
def ioOpcodes : List Nat := [0x00, 0x01, 0x02, 0x08, 0x09, 0x0C, 0x0D, 0x0E, 0x11, 0x15]

/-- Commands Supported and Effects: what is supported as R335 says, the other effects free. -/
def effectsLog (s : State) : List Byte × State :=
  let (v, s) := s.draw
  let entry (l : List Nat) (i : Nat) : List Byte := leBytes 4 (if l.contains i then 2 * (v / 2 ^ (31 * i)) + 1 else 0)
  (padTo 4096 ((List.range 256).flatMap (entry adminOpcodes) ++ (List.range 256).flatMap (entry ioOpcodes)), s)

/-- A standard log page (R335), as far as the state decides its content; what only the base specification defines is free (log entry 1). -/
def standardLog (s : State) (p : Port) (lid len : Nat) : Option (List Byte × State) :=
  match lid with
  | 0x01 | 0x02 => some (freeData s (min len (2 ^ 21)))
  | 0x03 => some (firmwareLog s, s)
  | 0x04 => some (changedLog (s.ctrl p), s)
  | 0x05 => some (effectsLog s)
  | 0x16 => some (rotationalLog s)
  | 0x80 => some (reservationLog (s.ctrl p), s)
  | 0x81 => some (sanitizeLog s, s)
  | _ => none

/-- A read of a log page takes what it reported: the changed namespaces, unless the command keeps the event, and the oldest notification. -/
def logTaken (s : State) (p : Port) (lid : Nat) (keep : Bool) : State :=
  if lid = 0x04 ∧ !keep then s.modCtrl p fun k => { k with changedNs := [] }
  else if lid = 0x80 then s.modCtrl p fun k => { k with resNotes := k.resNotes.drop 1 }
  else s

/-- A namespace is changed, added or removed for the controllers it is attached to. -/
def namespaceChanged (s : State) (nsid : Nat) (ps : List Port) : State :=
  s.each ps fun s p => s.modCtrl p fun k => { k with changedNs := nset k.changedNs nsid }

/-- Log page 0xD2 for an NSID, if it names one that may be asked for (R411). -/
def lostFor (s : State) (c : CmdSlot) : Option (List Lost) :=
  if !normalMode s then some []
  else if c.cmd.nsid = 0 ∨ c.cmd.nsid = 0xFFFFFFFF then some s.layout.lost
  else match nsOf s c.cmd.nsid with
    | some ns => if attachedTo ns c.port then some (s.layout.lost.filter fun x => decide (x.nsid = c.cmd.nsid)) else none
    | none => none

/-- GET_LOG_PAGE: the bytes of a page from an offset. -/
def execGetLogPage (slot : Nat) (s : State) : Host.Outcome State Fault Refusal :=
  match adminCmd s slot 0x02 with
  | none => .next s
  | some c =>
    let lid := c.cmd.cdw10 % 256
    let len := 4 * (c.cmd.cdw10 / 65536 % 65536 + c.cmd.cdw11 % 65536 * 65536 + 1)
    let off := c.cmd.cdw12 + c.cmd.cdw13 * 2 ^ 32
    if off % 4 ≠ 0 then .next (endAdmin s slot scInvalidField)
    else if lid = 0xD0 then .next (endData s slot c (slice (ledgerImage s) off len))
    else if lid = 0xD1 then .next (endData s slot c (slice (if normalMode s then healthLog s else List.replicate 1024 0) off len))
    else if lid = 0xD2 then
      match lostFor s c with
      | some l => .next (endData s slot c (slice (lostLog s l) off len))
      | none => .next (endAdmin s slot scInvalidNamespace)
    else match standardLog s c.port lid len with
      | some (d, s) => .next (endData (logTaken s c.port lid (bit c.cmd.cdw10 15)) slot c (slice d off len))
      | none => .next (endAdmin s slot scInvalidLogPage)

/-! ### Identify (R332–R337, R363) -/

/-- Text padded with spaces. -/
def padText (n : Nat) (b : List Byte) : List Byte := (b ++ List.replicate (n - b.length) 0x20).take n

/-- A power-state descriptor (R363): limits in µs; with a format speed of 5,400 rpm those of PS3 drop. -/
def psDescriptor (s : State) (n : Nat) : List Byte :=
  let slow := decide (s.num Obj.formatRpm = 5400)
  let (nops, en, ex) := match n with
    | 0 => (0, 0, 0)
    | 3 => if slow then (0, 250000, 1300000) else (0, 8250000, 11300000)
    | 4 => (2, 70250000, 21300000)
    | _ => (0, 25000, 25000)
  padTo 32 (leBytes 2 (s.num (Obj.psMaxPowerCw n)) ++ [0, BitVec.ofNat 8 nops] ++ leBytes 4 en ++ leBytes 4 ex)

/-- A UUID as text, and the NQN that names it (R332, base specification). -/
def hexDigit (n : Nat) : Byte := BitVec.ofNat 8 (if n < 10 then 0x30 + n else 0x57 + n)
def hexText (b : List Byte) : List Byte := b.flatMap fun x => [hexDigit (x.toNat / 16), hexDigit (x.toNat % 16)]
def uuidText (u : List Byte) : List Byte :=
  hexText (slice u 0 4) ++ [0x2D] ++ hexText (slice u 4 2) ++ [0x2D] ++ hexText (slice u 6 2) ++ [0x2D] ++ hexText (slice u 8 2) ++ [0x2D] ++
  hexText (slice u 10 6)
def subsystemNqn : List Byte :=
  ("nqn.2014-08.org.nvmexpress:uuid:".toList.map fun c => BitVec.ofNat 8 c.toNat) ++ uuidText (Config.uuidOf Config.fuseUniqueId).toList

/-- Identify Controller (R110, R128, R334, R350, R363); FR is IMAGE_VERSION of the running slot (R105). -/
def identifyController (s : State) (p : Port) : List Byte :=
  let img := runningImage s
  let l := List.replicate 4096 (0 : Byte)
  let l := putAt l 0 (leBytes 2 Config.fuseVid.toNat ++ leBytes 2 Config.fuseSsvid.toNat)
  let l := putAt l 4 (padText 20 (s.str Obj.driveSerial) ++ padText 40 (s.str Obj.driveModel) ++ padText 8 (slice img 8 8))
  let l := putAt l 76 ([3, 9] ++ leBytes 2 (portNo p + 1) ++ leBytes 4 0x00020000 ++ leBytes 4 25000000 ++ leBytes 4 40250000)
  let l := putAt l 256 (leBytes 2 0x000F ++ [3, 7, 0x14])
  let l := putAt l 263 [4, 0, 0]
  let l := putAt l 270 (leBytes 2 2)
  let l := putAt l 319 [1]
  let l := putAt l 328 (leBytes 4 1)
  let l := putAt l 512 ([0x66, 0x44] ++ leBytes 2 1024 ++ leBytes 4 16 ++ leBytes 2 0x00AC ++ [0, 0, 0x04, if s.host.strict then 0x07 else 0x06])
  let l := putAt l 768 (padTo 256 subsystemNqn)
  putAt l 2048 ((List.range 5).flatMap (psDescriptor s))

/-- Identify Namespace (R335, R337, R339). -/
def identifyNamespace (s : State) (ns : Namespace) : List Byte :=
  let m := mapSlotOf s ns.mapSlot
  let gran := m.k * 64 - 1
  let l := List.replicate 4096 (0 : Byte)
  let l := putAt l 0 (leBytes 8 ns.nsze ++ leBytes 8 ns.nsze ++ leBytes 8 ns.nsze)
  let l := putAt l 24 [0x10, 1, BitVec.ofNat 8 (ns.lbaFormat + if ns.lbaFormat = 1 then 0x10 else 0), 1, 0x05,
    BitVec.ofNat 8 ns.piType, 1, 0x7F, 0, 0x09]
  let l := putAt l 68 (leBytes 2 gran ++ leBytes 2 gran)
  putAt l 128 (leBytes 4 (12 * 65536) ++ leBytes 4 (8 + 12 * 65536))

/-- Active or allocated namespaces above an NSID. -/
def nsList (s : State) (p : Port) (activeOnly : Bool) (above : Nat) : List Byte :=
  padTo 4096 ((s.host.namespaces.filter fun e => decide (above < e.1) && (!activeOnly || attachedTo e.2 p)).flatMap fun e => leBytes 4 e.1)

def execIdentify (slot : Nat) (s : State) : Host.Outcome State Fault Refusal :=
  match adminCmd s slot 0x06 with
  | none => .next s
  | some c =>
    match c.cmd.cdw10 % 256 with
    | 0x01 => .next (endData s slot c (identifyController s c.port))
    | 0x00 => match nsOf s c.cmd.nsid with
      | some ns => .next (endData s slot c (if attachedTo ns c.port then identifyNamespace s ns else List.replicate 4096 0))
      | none => .next (endAdmin s slot scInvalidNamespace)
    | 0x11 => match nsOf s c.cmd.nsid with
      | some ns => .next (endData s slot c (identifyNamespace s ns))
      | none => .next (endAdmin s slot scInvalidNamespace)
    | 0x02 => .next (endData s slot c (nsList s c.port true c.cmd.nsid))
    | 0x10 => .next (endData s slot c (nsList s c.port false c.cmd.nsid))
    | 0x08 => match nsOf s c.cmd.nsid with
      | some _ => .next (endData s slot c (putAt (List.replicate 4096 0) 0 [0x10, 1]))
      | none => .next (endAdmin s slot scInvalidNamespace)
    | _ =>
      let (d, s) := freeData s 4096
      .next (endData s slot c d)

/-! ### Abort (R334, R346) -/

/-- NVME_ABORT: a command of the named queue whose entry is not released, or an event request that waits, is aborted. -/
def execNvmeAbort (slot : Nat) (s : State) : Host.Outcome State Fault Refusal :=
  match adminCmd s slot 0x08 with
  | none => .next s
  | some c =>
    let qid := c.cmd.cdw10 % 65536
    let cid := c.cmd.cdw10 / 65536 % 65536
    let victim := s.host.slots.find? fun e =>
      e.2.io && !e.2.released && decide (e.2.port = c.port) && decide (e.2.qid = qid) && decide (e.2.cmd.cid = cid)
    match victim with
    | some (n, _) => .next (endAdmin (endIo s n scAbortRequested) slot scOk)
    | none =>
      if qid = 0 ∧ (s.ctrl c.port).aers.contains cid then
        let s := s.modCtrl c.port fun k => { k with aers := k.aers.erase cid }
        .next (endAdmin (postCompletion s c.port 0 ⟨cid, scAbortRequested.1, scAbortRequested.2, 0, 0, none⟩) slot scOk)
      else .next (endAdmin s slot scOk 1)

/-! ### Power management (R46, R365, R366) -/

/-- The entry to a state begins (R365): its first phase. -/
def enterPower (s : State) (n : Nat) : State :=
  let was := s.num Obj.powerState
  let s := reportPower s n
  let s := s.setHost { s.host with psWaiting := false, psPhase := 0, wake := false }
  if n = 3 then retractLoaded (s.setHost { s.host with psEntry := some 3 })
  else if n = 4 then s.setHost { s.host with psEntry := some 4 }
  else
    let s := s.setHost { s.host with psEntry := some n }
    if was = 4 then wakeDrive s true else if was = 3 then wakeDrive s false else s

/-- A request for a state: POWER_CAP's when a lower number is asked for (R46). -/
def requestPower (s : State) (n : Nat) : State := enterPower s (max n (s.num Obj.powerCap))

/-- The entry is over. -/
def powerEntered (s : State) : State := s.setHost { s.host with psEntry := none, psWaiting := false, psPhase := 0 }

/-- A command cut the entry short (R366): it exits at once. -/
def cutEntry (s : State) (n : Nat) : State :=
  let s := (powerEntered s).bump Obj.entriesCut
  if n = 3 then mediaWake s
  else wakeDrive (reportPower s s.host.lastOperational) true

def toPhase (s : State) (i : Nat) : State := s.setHost { s.host with psPhase := i }

/-- A write-intent mirror point (R387): the groups with no entry open since the last one are cleared, and every changed page is written. -/
def mirrorPoint (s : State) : State :=
  let l := s.layout
  let active := l.touchedGroups ++ (l.journal ++ l.replayQueue).map fun e => groupOf e.stripe
  let dirty := l.dirtyGroups.filter fun g => active.contains g || l.resyncQueue.contains g
  let still := (l.journal ++ l.replayQueue).foldl (fun t e => nset t (groupOf e.stripe)) []
  let s := s.setLayout { l with dirtyGroups := dirty, mirroredGroups := dirty, touchedGroups := still, allocCleared := [] }
  let changed := ((l.mirroredGroups.filter fun g => !dirty.contains g) ++ dirty.filter fun g => !l.mirroredGroups.contains g)
  let s := s.each ((changed.map (· / 32768)).dedup) mirrorIntent
  let s := s.each ((l.allocCleared.map (· / 32768)).dedup) mirrorAlloc
  (s.setNum Obj.wiDirtyGroups dirty.length).setNum Obj.wiLastTick s.tick

/-- POWER_STATE_SAFE_POINT (R365, R366): the entry goes on, or exits at once for a command that waits. -/
def execPowerStateSafePoint (s : State) : Host.Outcome State Fault Refusal :=
  match s.host.psEntry with
  | none => .next s
  | some 3 =>
    if s.host.psPhase = 0 then
      if !allParked s then .next s
      else if s.host.psWaiting then .next (cutEntry s 3)
      else .next (toPhase (if s.start.maintenance then s else spinTarget s 5400) 1)
    else if s.host.psWaiting then .next (cutEntry s 3)
    else if speedNear s 10 then .next (powerEntered s) else .next s
  | some 4 =>
    match s.host.psPhase with
    | 0 =>
      if s.host.psWaiting then .next (cutEntry s 4)
      else if destaged s then .next (toPhase (retractLoaded (bandCopy (mirrorPoint s))) 1) else .next s
    | 1 =>
      if !allParked s then .next s
      else if s.host.psWaiting then .next (cutEntry s 4)
      else .next (toPhase (spinStop s) 2)
    | 2 =>
      if 300 * 1024 ≤ s.num Obj.speed then (if s.host.psWaiting then .next (cutEntry s 4) else .next s)
      else .next (toPhase s 3)
    | _ =>
      if s.num Obj.spinMode ≠ smOff then .next s
      else if s.host.psWaiting then .next (cutEntry s 4) else .next (powerEntered s)
  | some _ => .next (powerEntered s)

/-- PS3_IDLE_TIMEOUT (R364): after a media wake the device returns to PS3. -/
def execPs3IdleTimeout (s : State) : Host.Outcome State Fault Refusal :=
  if s.num Obj.powerState = 3 ∧ s.host.wake ∧ s.host.psEntry = none then .next (enterPower s 3) else .next s

/-! ### Features (R336, R340, R342, R350, R354) -/

def fid (c : CmdSlot) : Nat := c.cmd.cdw10 % 256

/-- Features that the device has: those that the spec names, and those that the base specification requires of every I/O controller
(PRESUMED, log 82). Autonomous transitions and host memory buffers are none of them (R336). -/
def featuresServed : List Nat := [0x01, 0x02, 0x04, 0x05, 0x06, 0x07, 0x08, 0x09, 0x0A, 0x0B, 0x81, 0x82, 0x83]

/-- Key of a feature value: namespace-specific features are kept per namespace, the interrupt vectors' per vector. -/
def featureKey (c : CmdSlot) : Nat :=
  if fid c ∈ [0x05, 0x82, 0x83] then fid c + 256 * c.cmd.nsid
  else if fid c = 0x09 then fid c + 256 * (c.cmd.cdw11 % 65536) else fid c

def setFeature (s : State) (p : Port) (k v : Nat) : State := s.modCtrl p fun c => { c with features := SMap.put c.features k v }

/-- A reservation's state changed: with Persist Through Power Loss set, or just changed, the command waits for the write to NOR (R354,
R355). Executed, it holds no later command back. -/
def reservationDone (s : State) (n : Nat) (c : CmdSlot) (old new : Reservation) : State :=
  let s := s.setHost { s.host with reservations := SMap.put s.host.reservations c.cmd.nsid new }
  if old ≠ new ∧ (old.ptpl ∨ new.ptpl) then
    releaseEntry (s.setHost { s.host with resWaiting := s.host.resWaiting ++ [(c.cmd.nsid, n)] }) n
  else endIo s n scOk

/-- Set Features by identifier; a feature that is not there and a Save bit are refused (R336). -/
def setFeatureCommand (s : State) (n : Nat) (c : CmdSlot) : State :=
  let v := c.cmd.cdw11
  if !featuresServed.contains (fid c) then endAdmin s n scInvalidField
  else if bit c.cmd.cdw10 31 then endAdmin s n scNotSaveable
  else match fid c with
    | 0x02 => if 4 < v % 32 then endAdmin s n scInvalidField else endAdmin (requestPower s (v % 32)) n scOk
    | 0x05 => endAdmin (setFeature s c.port (featureKey c) (v % 2 ^ 17)) n scOk
    | 0x06 => if s.host.strict then endAdmin (setFeature s c.port 0x06 (v % 2)) n scOk else endAdmin s n scInvalidField
    | 0x07 =>
      if v % 65536 = 65535 ∨ v / 65536 % 65536 = 65535 then endAdmin s n scInvalidField
      else
        let g := min (v % 65536) 63 + min (v / 65536 % 65536) 63 * 65536
        endAdmin (setFeature s c.port 0x07 g) n scOk g
    | 0x81 => endAdmin (s.modCtrl c.port fun k => { k with hostId := leNat (c.cmd.data.take 16) }) n scOk
    | 0x83 =>
      let old := reservationOf s c.cmd.nsid
      reservationDone s n c old { old with ptpl := bit v 0 }
    | _ => endAdmin (setFeature s c.port (featureKey c) (v % 2 ^ 32)) n scOk

def execSetFeatures (slot : Nat) (s : State) : Host.Outcome State Fault Refusal :=
  match adminCmd s slot 0x09 with
  | some c => .next (setFeatureCommand s slot c)
  | none => .next s

/-- SET_FEATURES_POWER_MANAGEMENT (R365): it completes once the entry has begun. -/
def execSetFeaturesPowerManagement (slot : Nat) (s : State) : Host.Outcome State Fault Refusal :=
  match adminCmd s slot 0x09 with
  | some c => if fid c = 0x02 then .next (setFeatureCommand s slot c) else .next s
  | none => .next s

def execSetFeaturesErrorRecovery (slot : Nat) (s : State) : Host.Outcome State Fault Refusal :=
  match adminCmd s slot 0x09 with
  | some c => if fid c = 0x05 then .next (setFeatureCommand s slot c) else .next s
  | none => .next s

def execSetFeaturesVwc (slot : Nat) (s : State) : Host.Outcome State Fault Refusal :=
  match adminCmd s slot 0x09 with
  | some c => if fid c = 0x06 then .next (setFeatureCommand s slot c) else .next s
  | none => .next s

/-- The current or default value of a feature. -/
def featureValue (s : State) (c : CmdSlot) (dflt : Bool) : Nat :=
  match fid c with
  | 0x02 => if dflt then 0 else s.num Obj.powerState
  | 0x06 => if !s.host.strict then 0 else if dflt then 1 else SMap.findD (s.ctrl c.port).features 0x06 1 % 2
  | 0x07 => if dflt then 63 + 63 * 65536 else SMap.findD (s.ctrl c.port).features 0x07 (63 + 63 * 65536)
  | 0x83 => if dflt then 0 else if (reservationOf s c.cmd.nsid).ptpl then 1 else 0
  | _ => if dflt then 0 else SMap.findD (s.ctrl c.port).features (featureKey c) 0

/-- GET_FEATURES: current (0) or default (1) value, the saved one being the default, and for 3 the capabilities: changeable, not saveable. -/
def execGetFeatures (slot : Nat) (s : State) : Host.Outcome State Fault Refusal :=
  match adminCmd s slot 0x0A with
  | none => .next s
  | some c =>
    if !featuresServed.contains (fid c) then .next (endAdmin s slot scInvalidField)
    else
    let s := if fid c = 0x81 then s.emit (.hostData c.port c.cmd.cid (leBytes 16 (s.ctrl c.port).hostId)) else s
    match fld c.cmd.cdw10 10 8 with
    | 3 => .next (endAdmin s slot scOk (4 + if fid c ∈ [0x05, 0x82, 0x83] then 2 else 0))
    | 0 => .next (endAdmin s slot scOk (featureValue s c false))
    | _ => .next (endAdmin s slot scOk (featureValue s c true))

/-! ### Namespaces (R335, R371) -/

/-- One descriptor update (R372). -/
def descriptorUpdate (s : State) : State :=
  let s := s.setLayout { s.layout with seq := s.layout.seq + 1 }
  layoutChanged (mirrorPages s (8 * (s.layout.seq % 2)) 0 (descriptorImage s))

/-- The lowest run of `size` free numbers below `limit`. -/
def lowestRun (used : List (Nat × Nat)) (size limit : Nat) : Option Nat :=
  let free (a : Nat) : Bool := decide (a + size ≤ limit) && used.all fun u => decide (a + size ≤ u.1) || decide (u.1 + u.2 ≤ a)
  ((0 :: used.map fun u => u.1 + u.2).filter free).foldl (fun best a => match best with
    | some b => some (min a b)
    | none => some a) none

def rowRuns (s : State) : List (Nat × Nat) := (runs s).map fun r => (r.firstRow, r.periods * (r.map s).periodRows)
def stripeRuns (s : State) : List (Nat × Nat) := (runs s).map fun r => (r.firstStripe, r.stripes s)
def dbaRuns (s : State) : List (Nat × Nat) := s.host.namespaces.map fun e => (e.2.firstDba, e.2.blocks)

/-- The map that new namespaces take (R393): 0xFFFF names the lowest-numbered 16+2 S-type map of the loaded bundle. -/
def newMap (s : State) : Option StitchMap :=
  let n := s.num Obj.newNsMap
  if n = 0xFFFF then (s.layout.bundleMaps.find? fun e => decide (e.2.typ = 1) && decide (e.2.k = 16)).map (·.2)
  else SMap.find s.layout.bundleMaps n

/-- A descriptor map slot that holds a map already, or a free one. -/
def slotForMap (s : State) (m : StitchMap) : Option Nat :=
  match s.layout.maps.find? fun e => decide (e.2 = m) with
  | some e => some e.1
  | none => (List.range 8).find? fun i => (SMap.find s.layout.maps i).isNone

/-- Periods that hold a number of blocks (R371). -/
def periodsFor (m : StitchMap) (blocks : Nat) : Nat :=
  let per := m.periodStripes * m.k * 64
  (blocks + per - 1) / per

/-- NAMESPACE_CREATE (R371): the three lowest runs, a key pair, an entry in the descriptor. -/
def execNamespaceCreate (slot : Nat) (nsze : Nat) (lbaFormat : Nat) (s : State) : Host.Outcome State Fault Refusal :=
  match adminCmd s slot 0x0D with
  | none => .next s
  | some c =>
    if c.cmd.cdw10 % 16 ≠ 0 ∨ descriptorHeld s then .next s
    else if !normalMode s then .next (endAdmin s slot (0, 0x0C))
    else if 1 < lbaFormat then .next (endAdmin s slot scInvalidFormat)
    else if nsze = 0 then .next (endAdmin s slot scInvalidField)
    else match newMap s, (List.range 16).find? fun i => (nsOf s (i + 1)).isNone with
      | none, _ => .next (endAdmin s slot scInvalidField)
      | some _, none => .next (endAdmin s slot scNsIdUnavailable)
      | some m, some i =>
        let nsid := i + 1
        let p := periodsFor m nsze
        let stripes := p * m.periodStripes
        let blocks := stripes * m.k * 64
        match lowestRun (rowRuns s) (p * m.periodRows) s.layout.rowsTotal, lowestRun (stripeRuns s) stripes (2 ^ 26),
            lowestRun (dbaRuns s) blocks (2 ^ 36), slotForMap s m with
        | some row, some stripe, some dba, some ms =>
          let ns : Namespace :=
            { nsid := nsid, mapSlot := ms, firstDba := dba, blocks := blocks, firstStripe := stripe, firstRow := row, periods := p
              nsze := nsze, lbaFormat := lbaFormat, piType := lbaFormat, attachedA := false, attachedB := false }
          let s := s.setLayout { s.layout with maps := SMap.put s.layout.maps ms m }
          let s := s.setHost { s.host with namespaces := SMap.put s.host.namespaces nsid ns }
          let s := s.setFw { s.fw with nsKeys := SMap.put s.fw.nsKeys nsid (SMap.findD s.fw.nsKeys nsid 0 + 1) }
          .next (endAdmin (descriptorUpdate (s.setNum (Obj.nsLayout nsid) m.layoutId)) slot scOk nsid)
        | _, _, _, _ => .next (endAdmin s slot scNsCapacity)

/-- Stripes [first, first + n) are freed: bits, remap entries, journal entries and intent go. -/
def freeStripes (s : State) (first n : Nat) : State :=
  let inside (g : Nat) : Bool := decide (first ≤ g) && decide (g < first + n)
  let l := s.layout
  countJournal (s.setLayout { l with
    allocated := l.allocated.filter fun g => !inside g, allocCleared := l.allocCleared.filter fun g => !inside g
    remap := l.remap.filter fun e => !inside (e.1 % 2 ^ 26), journal := l.journal.filter fun e => !inside e.stripe
    replayQueue := l.replayQueue.filter fun e => !inside e.stripe, suspects := l.suspects.filter fun g => !inside g
    staleFilled := l.staleFilled.filter fun e => !inside e.2 })

/-- Map slots that nothing uses are freed. -/
def freeMaps (s : State) : State :=
  s.setLayout { s.layout with maps := s.layout.maps.filter fun e => (runs s).any fun r => decide (r.mapSlot = e.1) }

/-- A reshape is cancelled (R416, R419): its runs and slot are freed, and the old layout stands. -/
def cancelReshape (s : State) : State :=
  match reshapeRun s with
  | none => s
  | some r =>
    let half := (s.layout.halfDone.filter fun e => !e.2).map (·.1)
    let done := ((dirtySlots s).filter fun e => half.contains e.2.dba).map fun e => (e.2.dba, e.2.admission)
    let s := freeStripes s r.firstStripe (r.stripes s)
    let s := freeMaps (s.setLayout { s.layout with reshape := none, reshapeHold := false, halfDone := [] })
    let s := setCacheState s (fun e => decide (e.2.state = 1) && half.contains e.2.dba) 2
    blocksOnMedium (descriptorUpdate (s.setNum Obj.reshapeState 0)) done

/-- What a namespace's erase or delete discards (R129, R371, R392, R409): cached blocks, journal entries, allocation, lost ranges. -/
def discardNamespace (s : State) (ns : Namespace) : State :=
  let s := match s.layout.reshape with
    | some r => if r.nsid = ns.nsid then cancelReshape s else s
    | none => s
  let gone := (dirtyOf s ns.nsid).map (·.1)
  let s := dropCached s fun dba => decide (ns.firstDba ≤ dba) && decide (dba < ns.firstDba + ns.blocks)
  let l := s.layout
  let r := ns.run
  let inside (g : Nat) : Bool := decide (r.firstStripe ≤ g) && decide (g < r.firstStripe + r.stripes s)
  let s := countJournal (s.setLayout { l with
    journal := l.journal.filter fun e => !inside e.stripe, replayQueue := l.replayQueue.filter fun e => !inside e.stripe
    allocated := l.allocated.filter fun g => !inside g
    allocCleared := (l.allocated.filter inside).foldl nset l.allocCleared })
  blocksDropped (clearLost s ns.nsid 0 ns.nsze) gone

/-- One namespace is deleted (R355, R371). -/
def deleteNamespace (s : State) (nsid : Nat) : State :=
  match nsOf s nsid with
  | none => s
  | some ns =>
    let mine := (s.host.slots.filter fun e => e.2.io && decide (e.2.cmd.nsid = nsid)).map (·.1)
    let s := s.each mine fun s n => endIo s n scInvalidNamespace
    let s := discardNamespace s ns
    let s := freeStripes s ns.firstStripe (ns.run.stripes s)
    let s := s.setHost { s.host with
      namespaces := SMap.erase s.host.namespaces nsid, reservations := SMap.erase s.host.reservations nsid }
    let s := namespaceChanged s nsid ([Port.a, Port.b].filter (attachedTo ns))
    descriptorUpdate (freeMaps (s.setNum (Obj.nsLayout nsid) 0xFFFF))

def execNamespaceDelete (slot : Nat) (s : State) : Host.Outcome State Fault Refusal :=
  match adminCmd s slot 0x0D with
  | none => .next s
  | some c =>
    if c.cmd.cdw10 % 16 ≠ 1 ∨ descriptorHeld s then .next s
    else if !normalMode s then .next (endAdmin s slot (0, 0x0C))
    else if c.cmd.nsid = 0xFFFFFFFF then
      .next (endAdmin (s.each (SMap.keys s.host.namespaces) deleteNamespace) slot scOk)
    else if (nsOf s c.cmd.nsid).isNone then .next (endAdmin s slot scInvalidNamespace)
    else .next (endAdmin (deleteNamespace s c.cmd.nsid) slot scOk)

def setAttached (ns : Namespace) (on : Bool) : Port → Namespace
  | .a => { ns with attachedA := on }
  | .b => { ns with attachedB := on }

/-- NAMESPACE_ATTACHMENT (R335): SEL 0 attaches, 1 detaches. -/
def execNamespaceAttachment (slot : Nat) (controllers : List Port) (s : State) : Host.Outcome State Fault Refusal :=
  match adminCmd s slot 0x15 with
  | none => .next s
  | some c =>
    let attach := decide (c.cmd.cdw10 % 16 = 0)
    match nsOf s c.cmd.nsid with
    | none => .next (endAdmin s slot scInvalidNamespace)
    | some ns =>
      if 1 < c.cmd.cdw10 % 16 then .next (endAdmin s slot scInvalidField)
      else if controllers.any fun p => attachedTo ns p == attach then .next (endAdmin s slot (if attach then scNsAttached else scNsNotAttached))
      else
        let ns := controllers.foldl (fun ns p => setAttached ns attach p) ns
        let s := namespaceChanged (s.setHost { s.host with namespaces := SMap.put s.host.namespaces c.cmd.nsid ns }) c.cmd.nsid controllers
        .next (endAdmin s slot scOk)

/-- One LBA Range Descriptor of Get LBA Status, clipped to the command's range. -/
def lbaDescriptor (lo hi : Nat) (x : Lost) : List Byte :=
  let a := max lo x.lba
  let b := min hi (x.lba + x.count)
  leBytes 8 a ++ leBytes 4 (b - a) ++ List.replicate 4 0

/-- GET_LBA_STATUS (R341, R411): the namespace's lost ranges. -/
def execGetLbaStatus (slot : Nat) (s : State) : Host.Outcome State Fault Refusal :=
  match adminCmd s slot 0x86 with
  | none => .next s
  | some c =>
    let action := c.cmd.cdw13 / 2 ^ 24 % 256
    match nsOf s c.cmd.nsid with
    | none => .next (endAdmin s slot scInvalidNamespace)
    | some ns =>
      if action ≠ 0x10 ∧ action ≠ 0x11 then .next (endAdmin s slot scInvalidField)
      else
        let lo := c.cmd.cdw10 + c.cmd.cdw11 * 2 ^ 32
        let n := c.cmd.cdw13 % 65536
        let hi := if n = 0 then ns.nsze else lo + n
        if ns.nsze ≤ lo then .next (endAdmin s slot scLbaRange)
        else
          let l := s.layout.lost.filter fun x => decide (x.nsid = ns.nsid) && decide (x.lba < hi) && decide (lo < x.lba + x.count)
          .next (endData s slot c (leBytes 4 l.length ++ List.replicate 4 0 ++ l.flatMap (lbaDescriptor lo hi)))

/-- INVALID_OPCODE (R335). -/
def execInvalidOpcode (slot : Nat) (s : State) : Host.Outcome State Fault Refusal :=
  match s.slot slot with
  | none => .next s
  | some c =>
    if c.stalled || (if c.io then ioOpcodes else adminOpcodes).contains c.cmd.opcode then .next s
    else .next (endIo s slot scInvalidOpcode)

/-! ### Reservations (R354–R357) -/

/-- The reservation command of a slot, when every earlier one has executed (R356). -/
def resCmd (s : State) (n op : Nat) : Option CmdSlot :=
  match ioCmd s n op with
  | some c =>
    if s.host.slots.any fun e => e.2.isReservation && !e.2.released && decide (e.2.admission < c.admission) then none else some c
  | none => none

def hostOf (s : State) (c : CmdSlot) : Nat := (s.ctrl c.port).hostId

/-- Reservation notifications to other registrants: the controllers of a host, unless the namespace's mask bit is set. -/
def notifyHosts (s : State) (nsid maskBit : Nat) (hosts : List Nat) : State :=
  s.each [Port.a, Port.b] fun s p =>
    let k := s.ctrl p
    if k.en && hosts.contains k.hostId && !bit (SMap.findD k.features (0x82 + 256 * nsid) 0) maskBit then
      giveNotices 8 (s.modCtrl p fun k => { k with
        resNotes := k.resNotes ++ [(maskBit, nsid)], resNoteCount := k.resNoteCount + 1
        notices := if k.notices.contains 0x80 then k.notices else k.notices ++ [0x80] }) p
    else s

/-- Runs a reservation command: turned away, refused with a status, or executed with a new state. -/
def reserveWith (s : State) (n : Nat) (c : CmdSlot) (f : Reservation → (Nat × Nat) ⊕ Reservation) : State :=
  match turnAway s c with
  | some st => endIo s n st
  | none =>
    let old := reservationOf s c.cmd.nsid
    match f old with
    | .inl st => endIo s n st
    | .inr new => reservationDone s n c old new

def Reservation.empty : Registrant := ⟨0, 0, false⟩

/-- A registrant in the first record that is not in use; none when all 32 are. -/
def Reservation.add (r : Reservation) (host key : Nat) : Option Reservation :=
  match (r.regs.zipIdx.find? fun x => !x.1.valid).map (·.2) with
  | some i => some { r with regs := r.regs.set i ⟨host, key, true⟩, prgen := (r.prgen + 1) % 2 ^ 32 }
  | none => if r.regs.length < 32 then some { r with regs := r.regs ++ [⟨host, key, true⟩], prgen := (r.prgen + 1) % 2 ^ 32 } else none

def Reservation.count (r : Reservation) : Nat := (r.regs.filter (·.valid)).length

/-- Record i leaves; a reservation it held, or the last registrant's under an all-registrants type, is released. -/
def Reservation.drop (r : Reservation) (i : Nat) : Reservation :=
  let r := { r with regs := r.regs.set i Reservation.empty }
  if r.holder = i ∨ ((r.rtype = 5 ∨ r.rtype = 6) ∧ r.count = 0) then { r with rtype := 0, holder := 255 } else r

def Reservation.keyOf (r : Reservation) (i : Nat) : Nat := (r.regs.getD i Reservation.empty).key

/-- CPTPL of a Register: 10b clears, 11b sets. -/
def Reservation.setPtpl (r : Reservation) (v : Nat) : Reservation :=
  if v = 2 then { r with ptpl := false } else if v = 3 then { r with ptpl := true } else r

/-- RESERVATION_REGISTER (R354): RREGA 0 registers, 1 unregisters, 2 replaces the key. -/
def execReservationRegister (slot : Nat) (crkey nrkey : Nat) (s : State) : Host.Outcome State Fault Refusal :=
  match resCmd s slot 0x0D with
  | none => .next s
  | some c =>
    let host := hostOf s c
    if host = 0 then .next (endIo s slot scHostIdInconsistent)
    else
      let iekey := bit c.cmd.cdw10 3
      let cptpl := c.cmd.cdw10 / 2 ^ 30 % 4
      .next (reserveWith s slot c fun r =>
        match c.cmd.cdw10 % 8, r.find host with
        | 0, none => match r.add host nrkey with
          | some r => .inr (r.setPtpl cptpl)
          | none => .inl scInvalidField
        | 0, some i => if r.keyOf i = nrkey then .inr (r.setPtpl cptpl) else .inl scReservationConflict
        | 1, some i =>
          if iekey ∨ r.keyOf i = crkey then .inr ({ r.drop i with prgen := (r.prgen + 1) % 2 ^ 32 }.setPtpl cptpl)
          else .inl scReservationConflict
        | 2, some i =>
          if iekey ∨ r.keyOf i = crkey then
            .inr ({ r with regs := r.regs.set i ⟨host, nrkey, true⟩, prgen := (r.prgen + 1) % 2 ^ 32 }.setPtpl cptpl)
          else .inl scReservationConflict
        | 2, none => if iekey then (match r.add host nrkey with
            | some r => .inr (r.setPtpl cptpl)
            | none => .inl scInvalidField) else .inl scReservationConflict
        | 1, none => .inl scReservationConflict
        | _, _ => .inl scInvalidField)

/-- The reservation status as bytes, in the extended form: PRGEN, RTYPE, registrants, PTPL, and a record of 64 bytes each. -/
def reservationBytes (r : Reservation) : List Byte :=
  let recs := r.regs.zipIdx.flatMap fun x =>
    if x.1.valid then
      let holds := decide (r.holder = x.2) || decide (r.rtype = 5) || decide (r.rtype = 6)
      padTo 64 (leBytes 2 0xFFFF ++ [if holds then 1 else 0] ++ List.replicate 5 0 ++ leBytes 8 x.1.key ++ leBytes 16 x.1.host)
    else []
  padTo 64 (leBytes 4 r.prgen ++ [BitVec.ofNat 8 r.rtype] ++ leBytes 2 r.count ++ [0, 0, if r.ptpl then 1 else 0]) ++ recs

def execReservationReport (slot : Nat) (s : State) : Host.Outcome State Fault Refusal :=
  match resCmd s slot 0x0E with
  | none => .next s
  | some c =>
    match turnAway s c with
    | some st => .next (endIo s slot st)
    | none => .next (endIo (s.emit (.hostData c.port c.cmd.cid (reservationBytes (reservationOf s c.cmd.nsid)))) slot scOk)

/-- The caller of Acquire or Release: its record, when it is registered with the key it gives. -/
def Reservation.caller (r : Reservation) (host crkey : Nat) (iekey : Bool) : Option Nat :=
  match r.find host with
  | some i => if iekey || decide (r.keyOf i = crkey) then some i else none
  | none => none

/-- The holder field of a reservation that record i acquires. -/
def holderFor (rtype i : Nat) : Nat := if rtype = 5 ∨ rtype = 6 then 255 else i

def Reservation.holds (r : Reservation) (i : Nat) : Bool := decide (r.holder = i) || decide (r.rtype = 5) || decide (r.rtype = 6)

/-- Preempt (base specification): the registrants with a key leave; where they held the reservation the caller takes it. -/
def Reservation.preempt (r : Reservation) (i prkey rtype : Nat) : (Nat × Nat) ⊕ Reservation :=
  let all := decide (r.rtype = 5) || decide (r.rtype = 6)
  if prkey = 0 ∧ !all then .inl scInvalidField
  else
    let goes (x : Registrant × Nat) : Bool := x.1.valid && decide (x.2 ≠ i) && (decide (x.1.key = prkey) || (all && decide (prkey = 0)))
    let hit := r.regs.zipIdx.filter fun x => x.1.valid && (decide (x.1.key = prkey) || (all && decide (prkey = 0)))
    if hit.isEmpty then .inl scReservationConflict
    else
      let heldByThem := (all && decide (prkey = 0)) || hit.any fun x => decide (r.holder = x.2)
      let regs := r.regs.zipIdx.map fun x => if goes x then Reservation.empty else x.1
      let r := { r with regs := regs, prgen := (r.prgen + 1) % 2 ^ 32 }
      .inr (if heldByThem then { r with rtype := rtype, holder := holderFor rtype i } else r)

/-- Hosts whose registrations differ between two states: those removed. -/
def removedHosts (old new : Reservation) : List Nat :=
  ((old.regs.filter (·.valid)).map (·.host)).filter fun h => (new.find h).isNone

def acquireStep (c : CmdSlot) (host crkey prkey : Nat) (r : Reservation) : (Nat × Nat) ⊕ Reservation :=
  let rtype := c.cmd.cdw10 / 256 % 256
  match r.caller host crkey (bit c.cmd.cdw10 3) with
  | none => .inl scReservationConflict
  | some i =>
    if rtype = 0 ∨ 6 < rtype then .inl scInvalidField
    else match c.cmd.cdw10 % 8 with
      | 0 =>
        if r.rtype = 0 then .inr { r with rtype := rtype, holder := holderFor rtype i }
        else if r.holds i ∧ r.rtype = rtype then .inr r else .inl scReservationConflict
      | 1 | 2 => r.preempt i prkey rtype
      | _ => .inl scInvalidField

/-- Executes an acquire and notifies the registrants it removed. -/
def acquire (s : State) (n : Nat) (c : CmdSlot) (crkey prkey : Nat) : State :=
  let host := hostOf s c
  let old := reservationOf s c.cmd.nsid
  let gone := match turnAway s c, acquireStep c host crkey prkey old with
    | none, .inr new => removedHosts old new
    | _, _ => []
  notifyHosts (reserveWith s n c (acquireStep c host crkey prkey)) c.cmd.nsid 1 gone

/-- RESERVATION_ACQUIRE: acquire or preempt. -/
def execReservationAcquire (slot : Nat) (crkey prkey : Nat) (s : State) : Host.Outcome State Fault Refusal :=
  match resCmd s slot 0x11 with
  | some c => if c.cmd.cdw10 % 8 = 2 then .next s else .next (acquire s slot c crkey prkey)
  | none => .next s

/-- RESERVATION_PREEMPT_AND_ABORT (R357): unreleased commands of the preempted host with lower admission numbers are aborted. -/
def execReservationPreemptAndAbort (slot : Nat) (crkey prkey : Nat) (s : State) : Host.Outcome State Fault Refusal :=
  match resCmd s slot 0x11 with
  | none => .next s
  | some c =>
    if c.cmd.cdw10 % 8 ≠ 2 then .next s
    else
      let old := reservationOf s c.cmd.nsid
      let gone := match turnAway s c, acquireStep c (hostOf s c) crkey prkey old with
        | none, .inr new => removedHosts old new
        | _, _ => []
      let mine := (s.host.slots.filter fun e => e.2.io && !e.2.released && decide (e.2.cmd.nsid = c.cmd.nsid) &&
        decide (e.2.admission < c.admission) && gone.contains (hostOf s e.2)).map (·.1)
      .next ((acquire s slot c crkey prkey).each mine fun s n => endIo s n scPreemptAbort)

/-- RESERVATION_RELEASE: RRELA 0 releases, 1 clears. -/
def execReservationRelease (slot : Nat) (crkey : Nat) (s : State) : Host.Outcome State Fault Refusal :=
  match resCmd s slot 0x15 with
  | none => .next s
  | some c =>
    let host := hostOf s c
    let old := reservationOf s c.cmd.nsid
    let rtype := c.cmd.cdw10 / 256 % 256
    let step (r : Reservation) : (Nat × Nat) ⊕ Reservation :=
      match r.caller host crkey (bit c.cmd.cdw10 3) with
      | none => .inl scReservationConflict
      | some i =>
        if c.cmd.cdw10 % 8 = 1 then .inr { r with rtype := 0, holder := 255, regs := [], prgen := (r.prgen + 1) % 2 ^ 32 }
        else if c.cmd.cdw10 % 8 ≠ 0 then .inl scInvalidField
        else if r.rtype = 0 ∨ !r.holds i then .inr r
        else if r.rtype ≠ rtype then .inl scInvalidField
        else .inr { r with rtype := 0, holder := 255 }
    let others := match turnAway s c, step old with
      | none, .inr new =>
        if old.rtype ≠ 0 ∧ new.rtype = 0 then ((old.regs.filter (·.valid)).map (·.host)).filter (· ≠ host) else []
      | _, _ => []
    .next (notifyHosts (reserveWith s slot c step) c.cmd.nsid (if c.cmd.cdw10 % 8 = 1 then 3 else 2) others)

/-- RESERVATION_STATE_WRITTEN (R355): the whole state is in the copy that was older, and the commands that waited for it complete. -/
def execReservationStateWritten (ns : Nat) (s : State) : Host.Outcome State Fault Refusal :=
  let mine := (s.host.resWaiting.filter fun e => decide (e.1 = ns)).map (·.2)
  if mine.isEmpty then .next s
  else
    let a := s.host.resCopies[0]
    let b := s.host.resCopies[1]
    let copies := if a.1 ≤ b.1 then vmod s.host.resCopies 0 fun _ => (b.1 + 1, s.host.reservations)
      else vmod s.host.resCopies 1 fun _ => (a.1 + 1, s.host.reservations)
    let s := s.setHost { s.host with resCopies := copies, resWaiting := s.host.resWaiting.filter fun e => decide (e.1 ≠ ns) }
    .next (s.each mine fun s n => endIo s n scOk)

end Sys2Proof.Machine
end

