-- ==== Sys2Proof/Machine/HostReset.lean ====
section
/-!
DEFINITION. Controller resets, shutdown, links and PERST# (R93, R100, R116, R358–R361).
-/

namespace Sys2Proof.Machine

/-- The commands of a controller are dropped without completion (R358): what they have cached stays, their entries are freed, and a
commit or erase that runs goes on without them. -/
def dropCommands (s : State) (p : Port) : State :=
  let mine := (s.host.slots.filter fun e => decide (e.2.port = p)).map (·.1)
  let s := s.each mine fun s n => freeSlot (settleLock 1024 (releaseOne (coverFlush s n) n)) n
  let forget (x : Option Nat) : Option Nat := match x with
    | some n => if mine.contains n then none else some n
    | none => none
  let s := s.setFw { s.fw with
    programming := s.fw.programming.map fun x => { x with cmdSlot := forget x.cmdSlot }
    activation := s.fw.activation.map fun x => { x with cmdSlot := forget x.cmdSlot } }
  let s := s.setHost { s.host with resWaiting := s.host.resWaiting.filter fun e => !mine.contains e.2 }
  settleShutdowns (settleMedium s)

/-- A controller reset (R358, R359): queues, features and event requests go, the staging of downloads is discarded; one that follows a
commit with activation starts the new image (R111). -/
def resetNow (s : State) (p : Port) : State :=
  let s := dropCommands s p
  let s := s.modCtrl p fun k => { k with
    rdy := false, shst := 0, shutdown := 0, sqs := [], cqs := [], aers := [], notices := [], features := [], hostId := 0,
    changedNs := [], resNotes := [], resNoteCount := 0 }
  let s := (s.setNum (Obj.ioQueues (portNo p)) 0).bump (Obj.resets (portNo p))
  let s := s.setFw { s.fw with staging := vmod s.fw.staging (portNo p) fun _ => [] }
  if s.fw.resetActivates then restart (s.setFw { s.fw with resetActivates := false }) false else s

/-- A controller reset; during an activation freeze it is held to its end, and CSTS.RDY with it (R116). -/
def controllerReset (s : State) (p : Port) : State :=
  if s.fw.frozen then
    s.setFw { s.fw with heldResets := if s.fw.heldResets.contains p then s.fw.heldResets else s.fw.heldResets ++ [p] }
  else resetNow s p

/-- The controller becomes ready (R93, R359): CC.EN is set, host ready is reached, the port is RUNNING, and neither power fail nor a
collector has stopped it (R7, R40). Its admin queues have the
sizes that the host's registers give, which no command carries: a free value from 2 to 4,096 (log entry 1). -/
def becomeReady (s : State) (p : Port) : State :=
  let k := s.ctrl p
  let up := decide (s.start.mode = .normal) || decide (s.start.mode = .maintenance)
  if k.en && !k.rdy && up && decide (s.num (Obj.portState (portNo p)) = stRunning) && !s.start.restartAsked &&
      !s.power.quiesced && !s.coll.fenced.contains (98 + portNo p) then
    let (a, s) := s.draw
    let (b, s) := s.draw
    s.modCtrl p fun k => { k with
      rdy := true, sqs := SMap.put k.sqs 0 ⟨a % 4095 + 2, 0, 0, 0⟩, cqs := SMap.put k.cqs 0 ⟨b % 4095 + 2, 0, 0, [], 0, true, 0, 0⟩ }
  else s

/-- CC_EN_CLEAR (R359). -/
def execCcEnClear (p : Port) (s : State) : Host.Outcome State Fault Refusal :=
  if (s.ctrl p).en then
    .next (controllerReset (s.modCtrl p fun k => { k with en := false }) p)
  else .next s

/-- CC_EN_SET (R93, R99, R359): in ROM_MAINTENANCE the controller sets CFS and never becomes ready. -/
def execCcEnSet (p : Port) (s : State) : Host.Outcome State Fault Refusal :=
  if (s.ctrl p).en || decide (s.start.mode = .halted) then .next s
  else
    let s := s.modCtrl p fun k => { k with en := true, cfs := k.cfs || decide (s.start.mode = .romMaintenance) }
    .next (becomeReady s p)

def execFunctionLevelReset (p : Port) (s : State) : Host.Outcome State Fault Refusal :=
  .next (controllerReset (s.modCtrl p fun k => { k with en := false }) p)

/-- A port's link goes down. -/
def linkDown (s : State) (p : Port) : State :=
  let s := s.modCtrl p fun k => { k with linkUp := false }
  (s.setNum (Obj.linkSpeed (portNo p)) 0).setNum (Obj.linkWidth (portNo p)) 0

def execPcieLinkDown (p : Port) (s : State) : Host.Outcome State Fault Refusal :=
  .next (linkDown (controllerReset (s.modCtrl p fun k => { k with en := false }) p) p)

/-- PERST_ASSERT (R93, R358). -/
def execPerstAssert (p : Port) (s : State) : Host.Outcome State Fault Refusal :=
  .next (linkDown (controllerReset (s.modCtrl p fun k => { k with en := false, perst := true }) p) p)

/-- PERST_DEASSERT (R93): link training starts 20 ms later; LINK_TRAINING_DONE reports its end. -/
def execPerstDeassert (p : Port) (s : State) : Host.Outcome State Fault Refusal :=
  .next (s.modCtrl p fun k => { k with perst := false })

/-- LINK_TRAINING_DONE (R83, R93, R333): speeds 1–5, widths 1 and 2; in HALTED no link trains (R99), nor after step 5 of R40. -/
def execLinkTrainingDone (p : Port) (speed width : Nat) (s : State) : Host.Outcome State Fault Refusal :=
  if s.power.powerGood && !s.power.quiesced && !(s.ctrl p).perst && decide (s.start.mode ≠ .halted) && decide (1 ≤ speed ∧ speed ≤ 5) &&
      decide (width = 1 ∨ width = 2) then
    let s := s.modCtrl p fun k => { k with linkUp := true }
    .next ((s.setNum (Obj.linkSpeed (portNo p)) speed).setNum (Obj.linkWidth (portNo p)) width)
  else .next s

/-- NVM_SUBSYSTEM_RESET (R360): both controllers are reset and both links retrain; in the safe state it causes a rail cycle (R477). -/
def execNvmSubsystemReset (s : State) : Host.Outcome State Fault Refusal :=
  if inSafe s && decide (s.start.mode ≠ .starting) then .next (leaveSafe s false)
  else
    .next (s.each [Port.a, Port.b] fun s p =>
      linkDown (controllerReset (s.modCtrl p fun k => { k with en := false }) p) p)

/-- SHUTDOWN_NORMAL (R361). -/
def execShutdownNormal (p : Port) (s : State) : Host.Outcome State Fault Refusal :=
  if (s.ctrl p).shutdown = 0 ∧ (s.ctrl p).en then
    .next (settleShutdowns (s.modCtrl p fun k => { k with shutdown := 1, shst := 1 }))
  else .next s

/-- SHUTDOWN_ABRUPT (R361): the commands end as at a reset, and nothing needs flushing. -/
def execShutdownAbrupt (p : Port) (s : State) : Host.Outcome State Fault Refusal :=
  if (s.ctrl p).en then .next ((dropCommands s p).modCtrl p fun k => { k with shutdown := 2, shst := 2 }) else .next s

end Sys2Proof.Machine
end

