-- ==== Sys2Proof/Machine/Stitch.lean ====
section
/-!
DEFINITION. Stripe updates, the journal, write-intent mirror points, replay and resync (R378–R392, R487).
-/

namespace Sys2Proof.Machine

/-! ### Sectors at one offset -/

def readOf (reads : List OffsetReads) (o : Nat) : Option OffsetReads := reads.find? (·.offset = o)

/-- What a member's sector read as, if it was read. -/
def sectorBody (r : OffsetReads) (j : Nat) : Option (List Byte) := (r.members.getD j none).map body

/-- What is known at an offset of a stripe (R406): data that passes its SCRC, P and Q; nothing of a lost member. -/
structure OffsetView where
  data : List (Option (List Byte))
  p : Option (List Byte)
  q : Option (List Byte)
  deriving DecidableEq, Repr

def viewAt (s : State) (r : Run2) (m : StitchMap) (x : Subst) (g : Nat) (o : OffsetReads) : OffsetView :=
  let sector (j : Nat) : Option (List Byte) := if memberLost s r m x g j then none else sectorBody o j
  let data (j : Nat) : Option (List Byte) := (sector j).filter (bodyGood (dbaAt r m g j o.offset))
  { data := (List.range m.k).map data
    p := if m.m = 0 then none else sector m.k
    q := if m.m = 0 then none else sector (m.k + 1) }

/-- The data sectors with those that P and Q give and that pass their SCRC (R384). -/
def OffsetView.recovered (v : OffsetView) (r : Run2) (m : StitchMap) (g offset : Nat) : List (Option (List Byte)) :=
  ((solve v.data v.p v.q).zip v.data).zipIdx.map fun e => match e.1.2 with
    | some d => some d
    | none => e.1.1.filter (bodyGood (dbaAt r m g e.2 offset))

/-- Sectors on GOOD surfaces that could not be read and were reconstructed are offered to the grown-defect handling: data, and parity whose
data are all known (R412, R415). -/
def offerRebuilt (s : State) (r : Run2) (m : StitchMap) (x : Subst) (g offset : Nat) (v : OffsetView) : State :=
  let known := v.recovered r m g offset
  let js := (List.range m.width).filter fun j => !memberLost s r m x g j &&
    if j < m.k then (v.data.getD j none).isNone && (known.getD j none).isSome
    else (if j = m.k then v.p else v.q).isNone && known.all (·.isSome)
  s.each js fun s j =>
    let p := placeOf s r m x g j
    match sectorAt s p offset with
    | some (track, q) => if s.num (Obj.surfaceState p.surface) = 1 then offerSector s p.surface track q else s
    | none => s

/-- A sector to be written: member, offset, body. -/
abbrev Sector := Nat × Nat × List Byte

/-- Fill what is still unknown (R407): the bodies, and the members that were lost. -/
def fillUnknown (s : State) (r : Run2) (m : StitchMap) (g offset : Nat) :
    Nat → List (Option (List Byte)) → List (List Byte) × List Nat
  | _, [] => ([], [])
  | j, some d :: t =>
    let (ds, ls) := fillUnknown s r m g offset (j + 1) t
    (d :: ds, ls)
  | j, none :: t =>
    let dba := dbaAt r m g j offset
    let (ds, ls) := fillUnknown s r m g offset (j + 1) t
    (body (fillPayload s r.nsid (dba - r.firstDba) dba) :: ds, j :: ls)

/-- P and Q of an offset as sectors. -/
def paritySectors (m : StitchMap) (offset : Nat) (ds : List (List Byte)) : List Sector :=
  if m.m = 0 then [] else [(m.k, offset, parityP ds), (m.k + 1, offset, parityQ ds)]

/-- Blocks lost at an offset: entered in the list with a CAUSE, and one event that names stripe and offset (R407, R409). -/
def loseBlocks (s : State) (r : Run2) (m : StitchMap) (g offset cause : Nat) (members : List Nat) : State :=
  if members.isEmpty then s
  else
    let s := s.each members fun s j => addLost s ⟨r.nsid, dbaAt r m g j offset - r.firstDba, 1, cause⟩
    s.raise 384 offset g

/-! ### Places and stale entries (R378, R397) -/

def remapFull : Nat := 1048576

/-- The pages of the remap table from a key's entry on are mirrored (R377, R386). -/
def mirrorRemap (s : State) (k : Nat) : State :=
  mirrorPages s 0x930 (16 * (s.layout.remap.filter fun e => decide (e.1 < k)).length / 4096) (remapImage s)

/-- A member's chunk becomes stale: an entry at its current place with FILLED = 0, or the surface's bit in STALE_ALL. -/
def makeStale (s : State) (r : Run2) (m : StitchMap) (x : Subst) (g j : Nat) : State :=
  let p := placeOf s r m x g j
  let k := remapKey g j
  match SMap.find s.layout.remap k with
  | some e => mirrorRemap (s.setLayout { s.layout with remap := SMap.put s.layout.remap k { e with filled := false } }) k
  | none =>
    if remapFull ≤ s.layout.remap.length then
      s.setLayout { s.layout with
        staleAll := setBit s.layout.staleAll p.surface, staleFilled := s.layout.staleFilled.filter fun e => e ≠ (p.surface, g) }
    else mirrorRemap (s.setLayout { s.layout with remap := SMap.put s.layout.remap k ⟨p.surface, p.row, false, false⟩ }) k

/-- Spare positions of a stripe's period that no remap entry names, as surface and row on the medium. -/
def freeSpares (s : State) (r : Run2) (m : StitchMap) (x : Subst) (g : Nat) : List (Nat × Nat) :=
  let base := r.firstRow + (g - r.firstStripe) / m.periodStripes * m.periodRows
  (x.spares.map fun c => (c.1, base + c.2)).filter fun c =>
    usable s c.1 && !s.layout.remap.any fun e => decide (e.2.surface = c.1) && decide (e.2.row = c.2)

/-- RELOCATE (R378): a chunk takes a new place, whose contents rebuild will fill; without a candidate it stays lost. -/
def relocate (s : State) (r : Run2) (m : StitchMap) (x : Subst) (g j : Nat) : State :=
  let others := ((List.range m.width).filter (· ≠ j)).map fun i => (placeOf s r m x g i).surface
  let k := remapKey g j
  match pickSpare m (placeOf s r m x g j).surface others (freeSpares s r m x g) with
  | some (c, crowd) =>
    if remapFull ≤ s.layout.remap.length ∧ (SMap.find s.layout.remap k).isNone then s.raise 389 0 g
    else mirrorRemap (s.setLayout { s.layout with remap := SMap.put s.layout.remap k ⟨c.1, c.2, crowd, false⟩ }) k
  | none => s.raise 389 0 g

/-! ### DESTAGE_UPDATE (R381–R383, R403) -/

/-- Blocks below a reshape's NEXT_GROUP are kept in both layouts (R417). -/
def inBothLayouts (s : State) (nsid dba : Nat) : Bool :=
  match s.layout.reshape, nsOf s nsid with
  | some rs, some n => decide (rs.nsid = nsid) && decide (dba - n.firstDba < rs.nextGroup * rs.groupBlocks)
  | _, _ => false

/-- The cached blocks that an update of stripe g would write: slot number and contents. -/
def updateBlocks (s : State) (r : Run2) (m : StitchMap) (g : Nat) : List (Nat × CacheSlot) :=
  (dirtySlots s).filter fun e =>
    decide (e.2.nsid = r.nsid) && decide ((stripeAt r m e.2.dba).1 = g) && decide (r.firstDba ≤ e.2.dba) &&
    !s.layout.halfDone.contains (e.2.dba, r.isNew) && (!r.isNew || inBothLayouts s r.nsid e.2.dba)

/-- A block whose payload is poisoned is handled as lost: a fill block takes its place (R487). -/
def scrubPoisoned (s : State) (r : Run2) (m : StitchMap) (e : Nat × CacheSlot) : State :=
  if slotPoisoned s e.1 then
    let f := fillPayload s r.nsid (e.2.dba - r.firstDba) e.2.dba
    let s := addLost (putCache s e.1 { e.2 with payload := f }) ⟨r.nsid, e.2.dba - r.firstDba, 1, 4⟩
    s.raise 384 (stripeAt r m e.2.dba).2.2 (stripeAt r m e.2.dba).1
  else s

/-- The offsets at which a block of an update is poisoned. -/
def poisonedAt (s : State) (r : Run2) (m : StitchMap) (blocks : List (Nat × CacheSlot)) : List Nat :=
  (blocks.filter fun e => slotPoisoned s e.1).map fun e => (stripeAt r m e.2.dba).2.2

/-- The new bodies at an offset, by member. -/
def newAt (r : Run2) (m : StitchMap) (blocks : List (Nat × CacheSlot)) (o : Nat) : List (Nat × List Byte) :=
  (blocks.filter fun e => decide ((stripeAt r m e.2.dba).2.2 = o)).map fun e => ((stripeAt r m e.2.dba).2.1, body e.2.payload)

def pick (l : List (Nat × List Byte)) (j : Nat) : Option (List Byte) := (l.find? (·.1 = j)).map (·.2)

/-- A data sector that the cache holds though it need not be written. -/
def cleanAt (s : State) (r : Run2) (m : StitchMap) (g j o : Nat) : Option (List Byte) :=
  (cachedSlot s (dbaAt r m g j o)).map fun e => body e.2.payload

/-- DELTA (R381): P and Q from the old sectors. -/
def deltaParity (m : StitchMap) (v : OffsetView) (w : List (Nat × List Byte)) : Option (List Byte × List Byte) :=
  match v.p, v.q with
  | some p, some q =>
    w.foldl (fun acc e => match acc, v.data.getD e.1 none with
      | some (p, q), some old =>
        let d := xorBytes old e.2
        some (xorBytes p d, xorBytes q (mulPowBytes e.1 d))
      | _, _ => none) (if m.m = 0 then none else some (p, q))
  | _, _ => none

/-- What one offset of an update writes: METHOD, sectors, members lost; none while reads it needs are missing. An offset with the fill of a
poisoned block (`fill`) is written as RECON (R487). -/
def planOffset (s : State) (r : Run2) (m : StitchMap) (x : Subst) (g : Nat) (alloc degraded fill : Bool) (reads : List OffsetReads)
    (w : List (Nat × List Byte)) (o : Nat) : Option (Nat × List Sector × List Nat) :=
  let mine := w.map fun e => (e.1, o, e.2)
  if alloc then
    let (ds, _) := fillUnknown s r m g o 0 ((List.range m.k).map fun j => (pick w j).orElse fun _ => cleanAt s r m g j o)
    some (3, (ds.zipIdx.map fun d => (d.2, o, d.1)) ++ paritySectors m o ds, [])
  else if w.isEmpty then some (0, [], [])
  else if m.m = 0 then some (0, mine, [])
  else
    let cached := (List.range m.k).map fun j => (pick w j).orElse fun _ => cleanAt s r m g j o
    if cached.all (·.isSome) then some (if fill then 2 else 0, mine ++ paritySectors m o (cached.map (·.getD zeroBody)), [])
    else match readOf reads o with
      | none => none
      | some rd =>
        let v := viewAt s r m x g rd
        let delta := if !degraded && !fill && decide (w.length + 2 ≤ m.k - w.length) then deltaParity m v w else none
        match delta with
        | some (p, q) => some (1, mine ++ [(m.k, o, p), (m.k + 1, o, q)], [])
        | none =>
          let now := (v.recovered r m g o).zipIdx.map fun e => (pick w e.2).orElse fun _ => e.1.orElse fun _ => cleanAt s r m g e.2 o
          let (ds, lost) := fillUnknown s r m g o 0 now
          let fills := lost.map fun j => (j, o, ds.getD j zeroBody)
          some (2, mine ++ fills ++ paritySectors m o ds, lost)

/-- Every offset of an update: the methods used, the sectors, and the lost members per offset. -/
def planUpdate (s : State) (r : Run2) (m : StitchMap) (x : Subst) (g : Nat) (alloc degraded : Bool) (fills : List Nat)
    (reads : List OffsetReads) (blocks : List (Nat × CacheSlot)) : List Nat → Option (List Nat × List Sector × List (Nat × List Nat))
  | [] => some ([], [], [])
  | o :: t =>
    match planOffset s r m x g alloc degraded (fills.contains o) reads (newAt r m blocks o) o with
    | none => none
    | some (k, secs, lost) =>
      match planUpdate s r m x g alloc degraded fills reads blocks t with
      | none => none
      | some (ks, more, losts) =>
        some ((if secs.isEmpty then ks else k :: ks), secs ++ more, if lost.isEmpty then losts else (o, lost) :: losts)

/-- METHOD of an update whose offsets use one method, and RECON of one that writes the fill of a poisoned block to an allocated stripe
(R487); where the offsets differ otherwise, no rule says which of them the entry names: a free value among them (log entry 1). -/
def methodOf (fill : Bool) (ks : List Nat) (s : State) : Nat × State :=
  if fill then (2, s)
  else match ks.dedup with
  | [k] => (k, s)
  | l => (l.getD (s.draw.1 % max l.length 1) 0, s.draw.2)

/-- The sectors stamped with the update's GEN, but for those of lost members, which are not written (R397, R403). -/
def stampSectors (m : StitchMap) (pi : Bool) (gen : Nat) (notWritten : List Nat) (secs : List Sector) : List Sector :=
  (secs.filter fun e => !notWritten.contains e.1).map fun e => (e.1, e.2.1, stamp e.2.2 gen (memberFlags m e.1 pi))

/-- DESTAGE_UPDATE: an update of one stripe is assembled and opened, unless a change that it records waits for its mirror page (R386). -/
def execDestageUpdate (stripe : Nat) (reads : List OffsetReads) (s : State) : Host.Outcome State Fault Refusal :=
  match runOf s stripe with
  | none => .next s
  | some r =>
    let m := r.map s
    let alloc := !s.layout.allocated.contains stripe
    let held := decide ((s.layout.reshape.map (·.nsid)) = some r.nsid) && s.layout.reshapeHold
    let blocks := updateBlocks s r m stripe
    if blocks.isEmpty || !stripeFree s stripe || held || (decide (m.m ≠ 0) && !pqServes s) || (alloc && pageHeld s (allocPage stripe)) then .next s
    else if m.m ≠ 0 ∧ journalSize ≤ journalled s.layout then .next (s.bump Obj.journalWaits)
    else
      let x := substOf s m
      let lost := lostMembers s r m x stripe
      let fills := poisonedAt s r m blocks
      let s1 := s.each blocks fun s e => scrubPoisoned s r m e
      let blocks := updateBlocks s1 r m stripe
      match planUpdate s1 r m x stripe alloc (!lost.isEmpty) fills reads blocks (List.range 64) with
      | none => .next s
      | some (ks, secs, losts) =>
        let stale := ((secs.map (·.1)).dedup).filter fun j => failedSurface s (placeOf s r m x stripe j).surface
        if ((!losts.isEmpty || !fills.isEmpty) && lostHeld s) || (!stale.isEmpty && remapHeld s) then .next s
        else
          let s := s1.each losts fun s e => loseBlocks s r m stripe e.1 4 e.2
          let s := s.each stale fun s j => makeStale s r m x stripe j
          let s := if alloc then setAllocated s stripe else s
          let (gen, s) := nextGen s
          let (method, s) := methodOf (!fills.isEmpty && !alloc && decide (m.m ≠ 0)) ks s
          let entry : JournalEntry :=
            { seq := s.layout.journalSeq + 1, stripe := stripe, nsid := r.nsid, mapSlot := r.mapSlot, method := method, gen := gen
              list := stampSectors m (nsHasPi s r.nsid) gen lost secs
              dbas := blocks.map fun e => (e.2.dba, e.2.admission), valid := decide (m.m ≠ 0), replay := false }
          .next (layoutChanged (openEntry s entry))

/-! ### Retirement of an update (R382, R348) -/

/-- The blocks of an update or replay are on the medium in its layout: those that are there in every layout they need become CLEAN. -/
def retireBlocks (s : State) (r : Run2) (dbas : List (Nat × Nat)) : State :=
  let other := !r.isNew
  let whole := dbas.filter fun d => !inBothLayouts s r.nsid d.1 || s.layout.halfDone.contains (d.1, other)
  let half := dbas.filter fun d => !whole.contains d
  let s := s.setLayout { s.layout with
    halfDone := (s.layout.halfDone.filter fun e => !whole.any fun d => decide (d.1 = e.1)) ++ half.map fun d => (d.1, r.isNew) }
  let s := setCacheState s (fun e => decide (e.2.state = 1) && whole.any fun d => decide (d.1 = e.2.dba) && decide (e.2.admission ≤ d.2)) 2
  blocksOnMedium s whole

/-- What waits for the cache to drain: shutdowns and an accepted restart. -/
def settleDrain (s : State) : State := settleRestart (settleShutdowns s)

/-- STRIPE_UPDATE_RETIRE: every listed sector reads WRITTEN. -/
def execStripeUpdateRetire (stripe : Nat) (s : State) : Host.Outcome State Fault Refusal :=
  match openUpdate s stripe, runOf s stripe with
  | some e, some r =>
    let s := countJournal (s.setLayout { s.layout with journal := s.layout.journal.filter fun x => decide (x.seq ≠ e.seq) })
    .next (settleDrain (retireBlocks s r e.dbas))
  | _, _ => .next s

/-! ### Mirror points and retries (R386, R387, R405) -/

/-- WATERMARK and CHUNKS_DONE go to the checkpoint area (R405). -/
def saveJobs (s : State) : State :=
  s.setLayout { s.layout with savedJobs := s.layout.jobs.foldl (fun t j => SMap.put t j.surface (j.watermark, j.done)) [] }

/-- WI_MIRROR_POINT. -/
def execWiMirrorPoint (s : State) : Host.Outcome State Fault Refusal := .next (saveJobs (mirrorPoint s))

/-- The head's source of a surface (R467). -/
def raiseHead (s : State) (u : Nat) (detail : Nat := 0) : State := s.raiseAct (actOf u) (20 + u % 12) u detail

/-- MIRROR_RETRY (R386): a page whose write failed on both holders is written again; while it fails the change waits, an event is raised
from each holder surface's source and from the layout's, and the journal mirror, area 4, moves to free tracks there (R146). -/
def execMirrorRetry (page : Nat) (ok : Bool) (s : State) : Host.Outcome State Fault Refusal :=
  if ok then .next (s.setLayout { s.layout with mirrorWaiting := nunset s.layout.mirrorWaiting page })
  else
    let s := s.setLayout { s.layout with mirrorWaiting := nset s.layout.mirrorWaiting page }
    .next ((s.each (holderSurfaces s) fun s u => raiseHead (moveArea s u 4) u page).raise 385 0 page)

/-! ### Replay and resync (R389–R391) -/

/-- REPLAY_STATE and the pending counts follow the queues. -/
def countReplay (s : State) : State :=
  let l := s.layout
  let s := s.setNum Obj.replayState (if !l.replayQueue.isEmpty then 1 else if !l.resyncQueue.isEmpty then 2 else 0)
  countJournal (s.setNum Obj.resyncPending l.resyncQueue.length)

/-- JOURNAL_REPLAY: the oldest entry's listed sectors all read WRITTEN at their current places. -/
def execJournalReplay (seq : Nat) (s : State) : Host.Outcome State Fault Refusal :=
  match s.layout.replayQueue with
  | [] => .next s
  | e :: rest =>
    if e.seq ≠ seq ∨ !normalMode s then .next s
    else
      let s := s.setLayout { s.layout with replayQueue := rest, pinned := nunset s.layout.pinned e.stripe }
      match runOf s e.stripe with
      | some r => .next (settleDrain (countReplay (retireBlocks s r e.dbas)))
      | none => .next (settleDrain (countReplay s))

/-- What resync finds at one offset (R390, R407): whether P and Q must be rewritten, and the data members lost. -/
def resyncOffset (s : State) (r : Run2) (m : StitchMap) (x : Subst) (g : Nat) (o : OffsetReads) : Bool × List Nat :=
  let v := viewAt s r m x g o
  let known := v.recovered r m g o.offset
  let (ds, lost) := fillUnknown s r m g o.offset 0 known
  let same := decide (v.p = some (parityP ds)) && decide (v.q = some (parityQ ds)) && v.data.all (·.isSome)
  (!same, lost)

/-- One stripe of a group is visited, offset by offset. -/
def resyncStripe (s : State) (g : Nat) (reads : List OffsetReads) : State :=
  match runOf s g with
  | none => s
  | some r =>
    let m := r.map s
    if m.m = 0 then s
    else
      let x := substOf s m
      let (s, rewrite) := reads.foldl (fun (acc : State × Bool) o =>
        let (w, lost) := resyncOffset acc.1 r m x g o
        let s := loseBlocks (offerRebuilt acc.1 r m x g o.offset (viewAt acc.1 r m x g o)) r m g o.offset 2 lost
        (if lost.isEmpty then s else countUpdate s 2, acc.2 || w)) (s, false)
      if rewrite then (nextGen s).2 else s

/-- Every offset of every allocated stripe of a group has been read. -/
def resyncReady (s : State) (group : Nat) (reads : List (Nat × OffsetReads)) : Bool :=
  (s.layout.allocated.filter fun g => decide (groupOf g = group)).all fun g =>
    (List.range 64).all fun o => reads.any fun e => decide (e.1 = g) && decide (e.2.offset = o)

/-- RESYNC_GROUP: the lowest dirty group waiting; its bit clears when all its stripes are done. -/
def execResyncGroup (group : Nat) (reads : List (Nat × OffsetReads)) (s : State) : Host.Outcome State Fault Refusal :=
  if s.layout.resyncQueue.head? ≠ some group ∨ !normalMode s ∨ !resyncReady s group reads ∨ !pqServes s then .next s
  else
    let gs := s.layout.allocated.filter fun g => decide (groupOf g = group)
    let s := s.each gs fun s g => resyncStripe s g ((reads.filter fun e => decide (e.1 = g)).map (·.2))
    let s := s.setLayout { s.layout with
      resyncQueue := s.layout.resyncQueue.drop 1, dirtyGroups := nunset s.layout.dirtyGroups group }
    .next (countReplay (s.setNum Obj.wiDirtyGroups s.layout.dirtyGroups.length))

end Sys2Proof.Machine
end

