-- ==== Sys2Proof/Machine/Rebuild.lean ====
section
/-!
DEFINITION. Retirement of surfaces, rebuild, patrol, reshape, grown defects, holder moves and the recovery ladder's climb
(R142–R148, R208–R212, R394–R420).
-/

namespace Sys2Proof.Machine

/-! ### RETIRED_UNITS (R471) -/

/-- Source ids in RETIRED_UNITS. -/
def retiredIds (s : State) : List Nat :=
  let b := s.str Obj.retiredUnits
  (List.range (fieldAt b 0 2)).map fun i => fieldAt b (2 + 2 * i) 2

def retiredUnitsBlob (l : List Nat) : List Byte := leBytes 2 l.length ++ l.flatMap (leBytes 2)

/-- A retirement is recorded, and committed by a record store. -/
def recordRetirement (s : State) (id : Nat) : State :=
  if (retiredIds s).contains id then s
  else recordStore (s.setStr Obj.retiredUnits (retiredUnitsBlob (nset (retiredIds s) id))) .retiredUnits

/-- The source of a surface's head (R467). -/
def headSource (u : Nat) : Nat := 448 + 64 * actOf u + 20 + u % 12

/-! ### Holders (R147) -/

/-- Usable surfaces in a range, ascending. -/
def usableIn (s : State) (lo hi : Nat) : List Nat := (List.range 48).filter fun u => decide (lo ≤ u) && decide (u < hi) && usable s u

/-- Two holders within one half: the lowest surface, and the lowest of another actuator, or of the same one. -/
def halfHolders : List Nat → Nat × Nat
  | [] => (255, 255)
  | a :: r => (a, match r.find? fun u => decide (actOf u ≠ actOf a) with
    | some b => b
    | none => r.headD a)

/-- The holders that the rule names now. -/
def chosenHolders (s : State) : Nat × Nat :=
  match usableIn s 0 24, usableIn s 24 48 with
  | a :: _, b :: _ => (a, b)
  | a, [] => halfHolders a
  | [], b => halfHolders b

/-- A holder stops being usable: its areas move to the next one by the rule, while the other serves alone. -/
def settleHolders (s : State) : State :=
  match s.media.moving with
  | some _ => s
  | none =>
    let h0 := s.media.holders[0]
    let h1 := s.media.holders[1]
    let (c0, c1) := chosenHolders s
    if h0 ≠ 255 ∧ !usable s h0 ∧ c0 ≠ 255 then s.setMedia { s.media with moving := some (0, if c0 = h1 then c1 else c0) }
    else if h1 ≠ 255 ∧ !usable s h1 ∧ c0 ≠ 255 then s.setMedia { s.media with moving := some (1, if c1 = h0 then c0 else c1) }
    else s

/-- HOLDER_MOVE_DONE: the areas have been written and read back, and the new label carries the next HOLDER_GEN. -/
def execHolderMoveDone (holder : Fin 2) (surface : Fin 48) (s : State) : Host.Outcome State Fault Refusal :=
  if s.media.moving ≠ some (holder.val, surface.val) then .next s
  else
    let gen := s.media.holderGen + 1
    let copy := vget s.fw.bundleCopies (vget s.media.holders (1 - holder.val) 255) []
    let s := s.setMedia { s.media with
      holders := vmod s.media.holders holder.val fun _ => surface.val, holderGen := gen, moving := none }
    let s := writeLabel s surface.val fun l => { l.hold [3, 4, 5, 6] gen with bundleGen := bundleGen copy }
    let s := areaWrite s surface.val 3 copy
    .next (settleHolders (s.setFw { s.fw with bundleCopies := vmod s.fw.bundleCopies surface.val fun _ => copy }))

/-! ### Jobs (R400) -/

/-- Jobs that are active: at most 12. -/
def activeJobs (s : State) : List Job := s.layout.jobs.take 12

/-- Allocated stripes of a run. -/
def runStripes (s : State) (r : Run2) : List Nat :=
  s.layout.allocated.filter fun g => decide (r.firstStripe ≤ g) && decide (g < r.firstStripe + r.stripes s)

/-- Members of a stripe that the substitution moved from a surface. -/
def movedMembers (s : State) (r : Run2) (m : StitchMap) (x : Subst) (u g : Nat) : List Nat :=
  (List.range m.width).filter fun j =>
    (SMap.find s.layout.remap (remapKey g j)).isNone && decide ((naturalPlace r m x g j).moved = some u)

/-- Chunks that a job of surface u covers. -/
def jobTotal (s : State) (u : Nat) : Nat :=
  ((runs s).map fun r =>
    let m := r.map s
    let x := substOf s m
    ((runStripes s r).map fun g => (movedMembers s r m x u g).length).sum).sum

/-- The lowest allocated stripe from a number on where a surface's job still has a member to fill. -/
def nextPending (s : State) (u from_ : Nat) : Option Nat :=
  (runs s).foldl (fun best r =>
    let m := r.map s
    let x := substOf s m
    match (runStripes s r).find? fun g => decide (from_ ≤ g) && pendingFill s u g && !(movedMembers s r m x u g).isEmpty with
    | some g => match best with
      | some b => some (min b g)
      | none => some g
    | none => best) none

/-- The stripe after the highest one in use. -/
def stripesEnd (s : State) : Nat := (runs s).foldl (fun n r => max n (r.firstStripe + r.stripes s)) 0

/-- An active job's WATERMARK passes what is done; a job that has nothing left ends, and its surface is RETIRED. -/
def settleJob (s : State) (j : Job) : State :=
  match nextPending s j.surface j.watermark with
  | some g => s.setLayout { s.layout with
      jobs := s.layout.jobs.map fun x => if x.surface = j.surface then { x with watermark := g } else x }
  | none => surfaceTo (s.setLayout { s.layout with jobs := s.layout.jobs.filter fun x => decide (x.surface ≠ j.surface) }) j.surface 4

def settleJobs (s : State) : State := layoutChanged (s.each (activeJobs s) settleJob)

/-! ### Retirement (R395–R397, R400) -/

/-- Remap entries at a surface: those that keep a chunk at its natural place are stale entries and are dropped; the others move
individually. -/
def staleAt (r : Run2) (m : StitchMap) (x : Subst) (u : Nat) (e : Nat × Remap) : Bool :=
  let p := naturalPlace r m x (e.1 % 2 ^ 26) (e.1 / 2 ^ 27)
  decide (e.2.surface = u) && !e.2.filled && decide (p.surface = u) && decide (p.row = e.2.row)

/-- The stale entries of a surface are dropped, and its bit in STALE_ALL. -/
def dropStale (s : State) (u : Nat) : State :=
  let stale (e : Nat × Remap) : Bool := match runOf s (e.1 % 2 ^ 26) with
    | some r => staleAt r (r.map s) (substOf s (r.map s)) u e
    | none => false
  s.setLayout { s.layout with
    remap := s.layout.remap.filter fun e => !stale e
    staleAll := clrBit s.layout.staleAll u, staleFilled := s.layout.staleFilled.filter fun e => decide (e.1 ≠ u) }

/-- Entries that point at a retired surface take new places (R378). -/
def moveEntries (s : State) (u : Nat) : State :=
  s.each (s.layout.remap.filter fun e => decide (e.2.surface = u)) fun s e =>
    match runOf s (e.1 % 2 ^ 26) with
    | some r => relocate s r (r.map s) (substOf s (r.map s)) (e.1 % 2 ^ 26) (e.1 / 2 ^ 27)
    | none => s

/-- A surface retires: the descriptor update, its job, its entries, and what it held. -/
def retireSurfaceNow (s : State) (u : Nat) : State :=
  if retiredSurface s u ∨ !present s u then s
  else
    let s := dropStale s u
    let s := s.setLayout { s.layout with retiredOrder := s.layout.retiredOrder ++ [u] }
    let s := moveEntries (surfaceTo s u 3) u
    let s := s.setLayout { s.layout with jobs := s.layout.jobs ++ [⟨u, 0, 0, jobTotal s u⟩] }
    settleHolders (settleJobs (descriptorUpdate (recordRetirement s (headSource u))))

/-- Whether retiring a surface would leave an allocated stripe of a parity layout with three lost members. -/
def thirdLoss (s : State) (u : Nat) : Bool :=
  (runs s).any fun r =>
    let m := r.map s
    let x := substOf s m
    decide (m.m ≠ 0) && (runStripes s r).any fun g =>
      let lost := lostMembers s r m x g
      decide (2 ≤ lost.length) && (List.range m.width).any fun j => decide ((placeOf s r m x g j).surface = u) && !lost.contains j

/-- A namespace in layout NONE places chunks on a surface. -/
def noneUses (s : State) (u : Nat) : Bool := (runs s).any fun r => decide ((r.map s).m = 0) && bit (r.map s).surfaces u

/-- A write to RETIRE_SURFACE: the status, and the state. -/
def retireSurfaceAsk (s : State) (u : Nat) : Nat × State :=
  if !present s u ∨ retiredSurface s u then (0x05, s)
  else if thirdLoss s u ∨ noneUses s u then (0x06, s)
  else (0x00, retireSurfaceNow s u)

/-! ### REBUILD_STRIPE (R400–R403, R406, R407) -/

/-- A lost member whose new contents may be written now. -/
def canFill (s : State) (r : Run2) (m : StitchMap) (x : Subst) (g j : Nat) : Bool :=
  let u := (placeOf s r m x g j).surface
  memberLost s r m x g j && usable s u && !failedSurface s u && actRunning s (actOf u)

/-- A member that an active job must fill. -/
def jobOfMember (s : State) (r : Run2) (m : StitchMap) (x : Subst) (g j : Nat) : Option Nat :=
  if (SMap.find s.layout.remap (remapKey g j)).isSome then none
  else match (naturalPlace r m x g j).moved with
    | some u => if pendingFill s u g then some u else none
    | none => none

/-- The members that a rebuild of a stripe fills: entries and stale chunks whose place can be written, and the jobs' members when
every one of them can. -/
def fillList (s : State) (r : Run2) (m : StitchMap) (x : Subst) (g : Nat) : List Nat :=
  let lost := lostMembers s r m x g
  let jobs := lost.filter fun j => (jobOfMember s r m x g j).isSome
  let active := jobs.all fun j => canFill s r m x g j && match jobOfMember s r m x g j with
    | some u => (activeJobs s).any fun k => decide (k.surface = u)
    | none => false
  lost.filter fun j => canFill s r m x g j && (active || !jobs.contains j)

/-- A critical stripe of which some member can be filled now. -/
def criticalDue (s : State) (g : Nat) : Bool := criticalStripe s g && match runOf s g with
  | some r => !(fillList s r (r.map s) (substOf s (r.map s)) g).isEmpty
  | none => false

/-- The next stripe of the critical pass: one that a reconstruction waits for, else the lowest (R400, R402). -/
def nextCritical (s : State) : Option Nat :=
  (s.layout.critFront.find? (criticalDue s)).orElse fun _ => s.layout.allocated.find? (criticalDue s)

/-- Whether rebuild is at this stripe: the next critical one, the next stripe of a job, or one with entries or stale chunks to fill. -/
def rebuildDue (s : State) (r : Run2) (m : StitchMap) (x : Subst) (g : Nat) (fills : List Nat) : Bool :=
  decide (nextCritical s = some g) || ((activeJobs s).any fun j => decide (nextPending s j.surface j.watermark = some g)) ||
  fills.any fun j => (jobOfMember s r m x g j).isNone

/-- A newer body that the cache holds. -/
def withCache (s : State) (r : Run2) (m : StitchMap) (g o : Nat) (ds : List (Option (List Byte))) : List (Option (List Byte)) :=
  ds.zipIdx.map fun e => e.1.orElse fun _ => cleanAt s r m g e.2 o

/-- A RECON update that is opened and retired within a rebuild, patrol or resync visit (R407, R414). -/
def innerUpdate (s : State) (g : Nat) : State := countUpdate (nextGen (setIntent s g)).2 2

/-- One offset of a rebuild: what stays unknown is lost. -/
def rebuildOffset (s : State) (r : Run2) (m : StitchMap) (x : Subst) (g cause : Nat) (o : OffsetReads) : State :=
  let v := viewAt s r m x g o
  let s := offerRebuilt s r m x g o.offset v
  let lost := (fillUnknown s r m g o.offset 0 (withCache s r m g o.offset (v.recovered r m g o.offset))).2
  if lost.isEmpty then s else innerUpdate (loseBlocks s r m g o.offset cause lost) g

/-- A member is filled (R397, R400). -/
def fillMember (s : State) (r : Run2) (m : StitchMap) (x : Subst) (g j : Nat) : State :=
  let k := remapKey g j
  let p := naturalPlace r m x g j
  let l := s.layout
  match SMap.find l.remap k with
  | some e =>
    if e.surface = p.surface ∧ e.row = p.row then s.setLayout { l with remap := SMap.erase l.remap k }
    else s.setLayout { l with remap := SMap.put l.remap k { e with filled := true } }
  | none =>
    let s := if staleAllHere s p.surface g then s.setLayout { l with staleFilled := l.staleFilled ++ [(p.surface, g)] } else s
    match p.moved with
    | some u => if pendingFill s u g then
        let l := s.layout
        (s.setLayout { l with
          criticalDone := l.criticalDone ++ [(u, g)], rebuiltOf := SMap.put l.rebuiltOf u (SMap.findD l.rebuiltOf u 0 + 1)
          jobs := l.jobs.map fun i => if i.surface = u then { i with done := i.done + 1 } else i }).bump Obj.chunksRebuilt
      else s
    | none => s

/-- A surface whose stale chunks are all filled loses its bit in STALE_ALL. -/
def settleStaleAll (s : State) : State :=
  s.each (surfacesOf s.layout.staleAll) fun s u =>
    let left := (runs s).any fun r =>
      let m := r.map s
      let x := substOf s m
      (runStripes s r).any fun g => (List.range m.width).any fun j =>
        decide ((placeOf s r m x g j).surface = u) && staleAllHere s u g
    if left then s
    else s.setLayout { s.layout with
      staleAll := clrBit s.layout.staleAll u, staleFilled := s.layout.staleFilled.filter fun e => decide (e.1 ≠ u) }

/-- GEN advances by one for each sector written (R401). -/
def skipGens (s : State) (n : Nat) : State := s.setNum Obj.stripeGen ((s.num Obj.stripeGen + n) % 2 ^ 24)

/-- REBUILD_STRIPE. -/
def execRebuildStripe (stripe : Nat) (reads : List OffsetReads) (s : State) : Host.Outcome State Fault Refusal :=
  match runOf s stripe with
  | none => .next s
  | some r =>
    let m := r.map s
    let x := substOf s m
    let fills := fillList s r m x stripe
    if !normalMode s || decide (m.m = 0) || !s.layout.allocated.contains stripe || !stripeFree s stripe || !pqServes s ||
        !(List.range 64).all fun o => (readOf reads o).isSome then .next s
    else if fills.isEmpty || !rebuildDue s r m x stripe fills then .next (settleJobs s)
    else
      let s := (List.range 64).foldl (fun s o => match readOf reads o with
        | some rd => rebuildOffset s r m x stripe 1 rd
        | none => s) s
      let s := skipGens (s.each fills fun s j => fillMember s r m x stripe j) (64 * fills.length)
      let s := s.setLayout { s.layout with critFront := s.layout.critFront.erase stripe }
      .next (settleJobs (settleStaleAll s))

/-- REBUILD_CHECKPOINT (R405). -/
def execRebuildCheckpoint (s : State) : Host.Outcome State Fault Refusal := .next (saveJobs s)

/-! ### PATROL_STRIPE (R413–R415) -/

/-- The next stripe that patrol visits. -/
def patrolTarget (s : State) : Option Nat :=
  s.layout.allocated.find? fun g => decide (s.num Obj.patrolNext ≤ g) && decide (lostCount s g = 0) && (openUpdate s g).isNone

/-- A stripe that patrol cannot explain. -/
def suspect (s : State) (g : Nat) : State :=
  let l := if s.layout.suspects.contains g then s.layout.suspects
    else (if 4096 ≤ s.layout.suspects.length then s.layout.suspects.drop 1 else s.layout.suspects) ++ [g]
  (layoutChanged (s.setLayout { s.layout with suspects := l })).raise 387 0 g

/-- A rewrite by patrol. -/
def patrolRepair (s : State) (g : Nat) : State := (innerUpdate s g).bump Obj.patrolRepairs

/-- The member whose error explains both parities. -/
def errorMember (k : Nat) (sp sq : List Byte) : Option Nat := (List.range k).find? fun i => decide (mulPowBytes i sp = sq)

/-- One offset of a stripe under patrol: the state, and whether the stripe is suspect. -/
def patrolOffset (s : State) (r : Run2) (m : StitchMap) (x : Subst) (g : Nat) (o : OffsetReads) : State × Bool :=
  let v := viewAt s r m x g o
  if v.data.all (·.isSome) then
    let ds := v.data.map (·.getD zeroBody)
    match v.p, v.q with
    | some p, some q =>
      let sp := xorBytes p (parityP ds)
      let sq := xorBytes q (parityQ ds)
      if sp = zeroBody ∧ sq = zeroBody then (s, false)
      else if sp = zeroBody ∨ sq = zeroBody then (patrolRepair s g, false)
      else match errorMember m.k sp sq with
        | some i =>
          if bodyGood (dbaAt r m g i o.offset) (xorBytes (ds.getD i zeroBody) sp) then (patrolRepair s g, false) else (s, true)
        | none => (s, true)
    | _, _ => (if m.m = 0 then s else innerUpdate s g, false)
  else
    let lost := (fillUnknown s r m g o.offset 0 (v.recovered r m g o.offset)).2
    (innerUpdate (loseBlocks (offerRebuilt s r m x g o.offset v) r m g o.offset 3 lost) g, false)

/-- PATROL_STRIPE: patrol pauses while a job, replay or resync has work. -/
def execPatrolStripe (stripe : Nat) (reads : List OffsetReads) (s : State) : Host.Outcome State Fault Refusal :=
  let l := s.layout
  match runOf s stripe with
  | none => .next s
  | some r =>
    if !normalMode s || !pqServes s || decide (s.num Obj.patrolEnable = 0) || !l.jobs.isEmpty || !l.replayQueue.isEmpty || !l.resyncQueue.isEmpty ||
        decide (patrolTarget s ≠ some stripe) || !(List.range 64).all fun o => (readOf reads o).isSome then .next s
    else
      let m := r.map s
      let x := substOf s m
      let s := if s.num Obj.patrolNext = 0 then s.bump Obj.patrolPass else s
      let (s, bad) := (List.range 64).foldl (fun (acc : State × Bool) o => match readOf reads o with
        | some rd =>
          let (s, b) := patrolOffset acc.1 r m x stripe rd
          (s, acc.2 || b)
        | none => acc) (s, false)
      let s := if bad then suspect s stripe else s
      let s := s.setNum Obj.patrolNext (stripe + 1)
      .next (layoutChanged (if (patrolTarget s).isNone then s.setNum Obj.patrolNext 0 else s))

/-! ### Reshape (R416–R419) -/

/-- The namespace has replay or resync pending. -/
def replaying (s : State) (nsid : Nat) : Bool :=
  (s.layout.replayQueue.any fun e => decide (e.nsid = nsid)) ||
  match nsOf s nsid with
  | some n => s.layout.resyncQueue.any fun w =>
      decide (w * 64 < n.firstStripe + n.run.stripes s) && decide (n.firstStripe < w * 64 + 64)
  | none => false

/-- A reshape of a namespace into a map: the checkpoint, or none where a run or a map slot is missing. -/
def planReshape (s : State) (n : Namespace) (m : StitchMap) : Option Reshape :=
  let p := periodsFor m n.nsze
  let blocks := p * m.periodStripes * m.k * 64
  let group := Nat.lcm (mapSlotOf s n.mapSlot).k m.k * 4096
  match (List.range 8).find? fun i => (SMap.find s.layout.maps i).isNone, lowestRun (rowRuns s) (p * m.periodRows) s.layout.rowsTotal,
      lowestRun (stripeRuns s) (p * m.periodStripes) (2 ^ 26) with
  | some slot, some row, some stripe => some ⟨n.nsid, slot, row, stripe, p, blocks, group, (n.nsze + group - 1) / group, 0⟩
  | _, _, _ => none

/-- A write to RESHAPE_REQUEST: the status, and the state. -/
def reshapeAsk (s : State) (value : List Byte) : Nat × State :=
  let nsid := byteAt value 0
  let target := fieldAt value 2 2
  match nsOf s nsid with
  | none => (0x05, s)
  | some n =>
    if byteAt value 1 ≠ 0 then (0x05, s)
    else if target = 0xFFFF then
      if (s.layout.reshape.map (·.nsid)) = some nsid then (0x00, cancelReshape s) else (0x06, s)
    else match SMap.find s.layout.bundleMaps target with
      | none => (0x05, s)
      | some m =>
        if m = mapSlotOf s n.mapSlot then (0x05, s)
        else if s.layout.reshape.isSome ∨ s.layout.allocated.any (criticalStripe s) ∨ replaying s nsid then (0x06, s)
        else match planReshape s n m with
          | none => (0x05, s)
          | some rs =>
            let s := s.setLayout { s.layout with maps := SMap.put s.layout.maps rs.newSlot m, reshape := some rs }
            (0x00, descriptorUpdate (s.setNum Obj.reshapeState 1))

/-- A reshape with every group copied waits for the switch, and updates are held meanwhile (R418). -/
def awaitSwitch (s : State) (rs : Reshape) : State :=
  if rs.nextGroup < rs.groupsTotal then s.setNum Obj.reshapeState 1
  else (s.setLayout { s.layout with reshapeHold := true }).setNum Obj.reshapeState 3

/-- Stripes of a run that hold blocks [a, b) of its namespace. -/
def stripesOver (m : StitchMap) (r : Run2) (a b : Nat) : List Nat :=
  let w := m.k * 64
  if w = 0 then [] else (List.range ((b + w - 1) / w - a / w)).map fun i => r.firstStripe + a / w + i

/-- A new stripe is written with ALLOCATE; members on FAILED surfaces become stale (R381, R397, R417). -/
def copyStripe (r : Run2) (m : StitchMap) (s : State) (g : Nat) : State :=
  let x := substOf s m
  let stale := (List.range m.width).filter fun j => failedSurface s (placeOf s r m x g j).surface
  let s := s.each stale fun s j => makeStale s r m x g j
  countUpdate (nextGen (setIntent (setAllocated s g) g)).2 3

/-- RESHAPE_GROUP_COPY: the group at NEXT_GROUP. -/
def execReshapeGroupCopy (s : State) : Host.Outcome State Fault Refusal :=
  match s.layout.reshape, reshapeRun s with
  | some rs, some nr =>
    match nsOf s rs.nsid with
    | none => .next s
    | some n =>
      if !normalMode s ∨ rs.groupsTotal ≤ rs.nextGroup then .next s
      else if s.layout.allocated.any (criticalStripe s) ∨ notReady s n then .next (s.setNum Obj.reshapeState 2)
      else
        let old := n.run
        let om := old.map s
        let nm := nr.map s
        let a := rs.nextGroup * rs.groupBlocks
        let b := min (a + rs.groupBlocks) n.nsze
        let olds := stripesOver om old a b
        if olds.any fun g => (openUpdate s g).isSome then .next s
        else
          let w := om.k * 64
          let held := olds.filter s.layout.allocated.contains
          let news := (stripesOver nm nr a b).filter fun g =>
            let lo := (g - nr.firstStripe) * (nm.k * 64)
            held.any fun h => decide ((h - old.firstStripe) * w < lo + nm.k * 64) && decide (lo < (h - old.firstStripe) * w + w)
          let s := news.foldl (copyStripe nr nm) s
          let copied := (dirtySlots s).filter fun e => decide (n.firstDba + a ≤ e.2.dba) && decide (e.2.dba < n.firstDba + b) &&
            news.contains (stripeAt nr nm e.2.dba).1
          let rs := { rs with nextGroup := rs.nextGroup + 1 }
          let s := s.setLayout { s.layout with
            reshape := some rs
            halfDone := s.layout.halfDone ++ (copied.map fun e => (e.2.dba, true)).filter (!s.layout.halfDone.contains ·) }
          .next (descriptorUpdate (awaitSwitch s rs))
  | _, _ => .next s

/-- RESHAPE_SWITCH: every open update of the namespace has retired. -/
def execReshapeSwitch (s : State) : Host.Outcome State Fault Refusal :=
  match s.layout.reshape with
  | none => .next s
  | some rs =>
    match nsOf s rs.nsid with
    | none => .next s
    | some n =>
      if rs.nextGroup < rs.groupsTotal ∨ (s.layout.journal.any fun e => decide (e.nsid = rs.nsid)) then .next s
      else
        let onNew := (s.layout.halfDone.filter (·.2)).map (·.1)
        let done := ((dirtySlots s).filter fun e => onNew.contains e.2.dba).map fun e => (e.2.dba, e.2.admission)
        let s := freeStripes s n.firstStripe (n.run.stripes s)
        let n := { n with
          mapSlot := rs.newSlot, firstRow := rs.firstRow, firstStripe := rs.firstStripe, periods := rs.periods, blocks := rs.blocks }
        let s := s.setHost { s.host with namespaces := SMap.put s.host.namespaces n.nsid n }
        let s := freeMaps (s.setLayout { s.layout with reshape := none, reshapeHold := false, halfDone := [] })
        let s := setCacheState s (fun e => decide (e.2.state = 1) && onNew.contains e.2.dba) 2
        let s := (s.setNum (Obj.nsLayout n.nsid) (mapSlotOf s n.mapSlot).layoutId).setNum Obj.reshapeState 0
        .next (settleDrain (blocksOnMedium (settleJobs (descriptorUpdate s)) done))

/-! ### Chunks at a sector (R142) -/

/-- The stripe and member whose place is a row of a surface. -/
def chunkAt (s : State) (u row : Nat) : Option (Run2 × Nat × Nat) :=
  (runs s).foldl (fun best r =>
    let m := r.map s
    match best with
    | some c => some c
    | none =>
      if r.firstRow ≤ row ∧ row < r.firstRow + r.periods * m.periodRows then
        let x := substOf s m
        let base := r.firstStripe + (row - r.firstRow) / m.periodRows * m.periodStripes
        (((List.range m.periodStripes).flatMap fun i => (List.range m.width).map fun j => (r, base + i, j)).find? fun c =>
          let p := placeOf s r m x c.2.1 c.2.2
          decide (p.surface = u) && decide (p.row = row))
      else none) none

/-- The row of a physical sector. -/
def rowOf (s : State) (u track p : Nat) : Option Nat :=
  match zoneAt (zonesOf s.fw.bundle u) track with
  | some (z, _) => (userSector s u z track p).map fun i => (trackSsa s u track + i) / 64
  | none => none

def chunkOfSector (s : State) (u track p : Nat) : Option (Run2 × Nat × Nat) := (rowOf s u track p).bind (chunkAt s u)

def relocateChunk (s : State) (c : Run2 × Nat × Nat) : State := relocate s c.1 (c.1.map s) (substOf s (c.1.map s)) c.2.1 c.2.2

/-! ### Grown defects (R143, R144, R412) -/

/-- A defect entry's 16 bytes. -/
def Defect.bytes (d : Defect) : List Byte :=
  leBytes 3 d.track ++ [BitVec.ofNat 8 d.kind] ++ leBytes 2 d.psector ++ leBytes 2 d.count ++ leBytes 4 d.offset ++ leBytes 2 d.len ++
  [BitVec.ofNat 8 d.origin, 0]

def grownFull : Nat := 32768

/-- A grown entry is made, unless the surface's list is full: then defects are handled by relocation only, and an event is raised. -/
def makeGrown (s : State) (u : Nat) (d : Defect) : Option State :=
  if grownFull ≤ (grownMade s u).length then none
  else some (raiseHead (s.setMedia { s.media with grownPending := s.media.grownPending ++ [(u, d.bytes)] }) u d.track)

/-- A track with four grown REASSIGN entries in effect becomes TRACK_OUT, and its chunks are relocated (R412). -/
def settleTrack (s : State) (u : Nat) (z : Zone) (track : Nat) : State :=
  if (reassigns s u track).length < 4 ∨ trackOut (grownMade s u) track then s
  else
    let a := trackSsa s u track
    let rows := (List.range ((a + z.sectors + 63) / 64 - a / 64)).map (a / 64 + ·)
    let s := (makeGrown s u ⟨track, 3, 0, 0, 0, 0, 1⟩).getD (s.raise 390 u)
    s.each rows fun s row => match chunkAt s u row with
      | some c => relocateChunk s c
      | none => s

/-- The chunk of a defective sector is relocated. -/
def relocateSector (s : State) (u track p : Nat) : State := match chunkOfSector s u track p with
  | some c => layoutChanged (relocateChunk s c)
  | none => s

/-- The absolute wedge where a physical sector starts (R141). -/
def physWedge (z : Zone) (u track p : Nat) : Nat :=
  ((track * z.trackSkew + u % 12 * z.headSkew) % 600 + (z.place.getD p (0, 0)).1) % 600

/-- A grown FREEZE entry has been made for a wedge of a track. -/
def frozenAt (s : State) (u track wedge : Nat) : Bool :=
  (grownMade s u).any fun d => decide (d.kind = 2) && decide (d.track = track) && decide (d.psector = wedge)

/-- GROWN_DEFECT_READBACK: the sector has been rewritten in place and read back at ladder step L0. After a FREEZE
entry it is read back once more, and a second failure takes the next measure (R412). -/
def execGrownDefectReadback (surface : Fin 48) (track psector : Nat) (converged taBoth : Bool) (freezeOffset freezeLen : Nat)
    (s : State) : Host.Outcome State Fault Refusal :=
  let u := surface.val
  match zoneAt (zonesOf s.fw.bundle u) track with
  | none => .next s
  | some (z, _) =>
    let s := s.setMedia { s.media with offered := s.media.offered.erase (u, track, psector) }
    if s.num (Obj.surfaceState u) ≠ 1 ∨ converged then .next s
    else if grownFull ≤ (grownMade s u).length then .next (relocateSector (s.raise 390 u) u track psector)
    else if taBoth ∧ 1 ≤ freezeLen ∧ freezeLen ≤ 8192 ∧ !frozenAt s u track (physWedge z u track psector) then
      let s := (makeGrown s u ⟨track, 2, physWedge z u track psector, 0, freezeOffset, freezeLen, 1⟩).getD s
      .next (offerSector s u track psector)
    else
      let free := freeSparesOf s u z track
      if free.isEmpty then .next (relocateSector s u track psector)
      else
        let (v, s) := s.draw
        let spare := free.getD (v % free.length) 0
        .next ((makeGrown s u ⟨track, 4, psector, spare, 0, 0, 1⟩).getD s)

/-- An entry at its place in a list (R143). -/
def insertDefect (e : List Byte) : List (List Byte) → List (List Byte)
  | [] => [e]
  | x :: r => if (defectOf e).order < (defectOf x).order then e :: x :: r else x :: insertDefect e r

/-- GROWN_ENTRY_COMMIT: both media copies of a pending entry are written and read back, and it takes effect; a REASSIGN that is the
track's fourth makes it TRACK_OUT (R144, R412). -/
def execGrownEntryCommit (surface : Fin 48) (entry : List Byte) (s : State) : Host.Outcome State Fault Refusal :=
  let u := surface.val
  if !s.media.grownPending.contains (u, entry) then .next s
  else
    let s := s.setMedia { s.media with
      grownPending := s.media.grownPending.erase (u, entry), grown := vmod s.media.grown u (insertDefect entry) }
    let s := writeGrown s u
    let s := s.setNum (Obj.grownCount (actOf u) (u % 12)) (vget s.media.grown u []).length
    let d := defectOf entry
    match zoneAt (zonesOf s.fw.bundle u) d.track with
    | some (z, _) => .next (if d.kind = 4 then layoutChanged (settleTrack s u z d.track) else s)
    | none => .next s

/-! ### The climb of a sector up the recovery ladder (R208–R212) -/

/-- Reads of a sector in hold slots that take part in ladder step L3: those of L2 and L3, at most four; a read whose sync outcome was TIMED
is left out, since its L1 found no alignment while the sector still climbs (R209). -/
def heldReads (s : State) (u track p : Nat) : Nat :=
  min 4 (s.dec.holdSlots.filter fun e =>
    decide (e.2.surface = u) && decide (e.2.track = track) && decide (e.2.psector = p) && decide (e.2.outcome ≠ 3) &&
    (decide (e.2.step = 2) || decide (e.2.step = 3))).length

/-- Ladder steps L2 to L4 run while the surface is in use and its actuator RUNNING (R211). -/
def rereads (s : State) (u : Nat) : Bool := actRunning s (actOf u) && !retiredSurface s u

/-- A step that a climb can take now (R209, R211). -/
def stepOpen (s : State) (u track p : Nat) (c : Climb) (k : Nat) : Bool :=
  if k = 1 then c.held
  else if k = 2 then rereads s u && decide (0 < s.num Obj.l2Reads)
  else if k = 3 then rereads s u && decide (2 ≤ heldReads s u track p + s.num Obj.l3Reads)
  else if k = 4 then rereads s u
  else if k = 5 then c.parityLayout && !c.l5Failed
  else true

/-- The steps after one that failed, in their order, up to the highest that the requester names; 6 is End (R208, R210). -/
def stepsAfter (c : Climb) (parityFirst : Bool) : List Nat :=
  let all :=
    if c.lost then []
    else if parityFirst && c.parityLayout then
      match c.step with
      | 0 => [1, 5, 2, 3, 4]
      | 1 => [5, 2, 3, 4]
      | 5 => [2, 3, 4]
      | k => (List.range 5).filter fun i => decide (k < i)
    else (List.range 6).filter fun i => decide (c.step < i)
  all.filter (fun k => decide (k ≤ c.top)) ++ [6]

/-- Outcomes that end a step (R208): L2's reads, L3's reads and the average of them, one read at each offset of L4. DEDUCED (log 67): one
outcome stands for a read with the L0 and L1 that it is decoded by. -/
def stepReads (s : State) (k : Nat) : Nat :=
  match k with
  | 2 => s.num Obj.l2Reads
  | 3 => s.num Obj.l3Reads + 1
  | 4 => 4
  | _ => 1

/-- The step goes on with its next read, or with L3's average when two held reads can take part. -/
def stepGoesOn (s : State) (u track p : Nat) (c : Climb) : Bool :=
  decide (2 ≤ c.step) && decide (c.step ≤ 4) && rereads s u && decide (c.reads + 1 < stepReads s c.step) &&
  (decide (c.step ≠ 3) || decide (c.reads + 1 < s.num Obj.l3Reads) || decide (2 ≤ heldReads s u track p))

/-- The settings of a climb's next read (R209), and the limits of its DEEP request (R208). A track of the reserved band has the band's
preset (R145). -/
def aimRead (s : State) (u track : Nat) (c : Climb) : Climb :=
  let a := actOf u
  let base := if track < 4096 then (bandZone s a).eqPreset else match zoneAt (zonesOf s.fw.bundle u) track with
    | some (z, _) => z.eqPreset
    | none => 0
  let plain := { c with
    preset := base, syncWin := s.num (Obj.syncWin a), syncTol := s.num (Obj.syncTol a), offset := 0, deepLocal := s.num Obj.l1Local
    deepGlobal := s.num Obj.l1Global, deepProbe := s.num Obj.slipProbeGlobal }
  if c.step = 2 then
    { plain with
      preset := (((base : Int) + toSigned 8 (byteAt (s.str Obj.l2PresetOffset) c.reads)) % 64).toNat, syncWin := 63, syncTol := 4 }
  else if c.step = 4 then { plain with offset := toSigned 8 (byteAt (s.str Obj.l4Offsets) c.reads) }
  else plain

/-- The stripe, member and offset whose sector stands at a place of a surface. -/
def sectorOfStripe (s : State) (u track p : Nat) : Option (Run2 × Nat × Nat × Nat) :=
  match zoneAt (zonesOf s.fw.bundle u) track with
  | some (z, _) => (userSector s u z track p).bind fun i =>
      let a := trackSsa s u track + i
      (chunkAt s u (a / 64)).map fun c => (c.1, c.2.1, c.2.2, a % 64)
  | none => none

/-- The sector is one of a lost member: it skips L0 to L4 (R402). -/
def lostSector (s : State) (u track p : Nat) : Bool := match sectorOfStripe s u track p with
  | some (r, g, j, _) => memberLost s r (r.map s) (substOf s (r.map s)) g j
  | none => false

/-- The climb that starts from a failed status word: its samples are held as word 3 says, and L1 searches for slips unless the sync outcome
was BOTH (R208, R209). -/
def startClimb (s : State) (u track p top status : Nat) : Climb :=
  { key := climbKey u track p, step := if lostSector s u track p then 5 else 0, reads := 0, top := top, lost := lostSector s u track p
    parityLayout := match chunkOfSector s u track p with
      | some x => decide ((x.1.map s).m ≠ 0)
      | none => false
    held := decide (dramField s (status + 12) 4 / 2 ^ 21 % 2 = 1), l5Failed := false
    slip := decide (dramField s status 4 / 2 ^ 29 ≠ 0), preset := 0, syncWin := 0, syncTol := 0, offset := 0
    deepLocal := 0, deepGlobal := 0, deepProbe := 0 }

/-- The status word at the end of a climb: RESULT, where the end gives one, and the step that produced the word (R209, R212, R213). -/
def closeStatus (s : State) (status step : Nat) (result : Option Nat) : State :=
  if inDram status 16 && dramServed s then
    let w := dramField s (status + 4) 4
    dramWrite s (status + 4) (leBytes 4 (result.getD (w / 2 ^ 28) * 2 ^ 28 + step * 2 ^ 25 + w % 2 ^ 25))
  else s

/-- A sector is recovered: from L2 on it is offered to the grown-defect handling (R212). -/
def climbRecovered (s : State) (u track p status : Nat) (c : Climb) : State :=
  let s := s.bump (Obj.recovered c.step)
  if c.step < 2 then s
  else
    let s := closeStatus s status c.step (if c.step = 5 then some 7 else none)
    offerSector s u track p

/-- What a reconstruction waits for (R384, R391, R402): the open update of its stripe; its replay, resync or critical pass, to whose front
the stripe moves. None where it need not wait. -/
def stripeWaits (s : State) (u track p : Nat) : Option State := match sectorOfStripe s u track p with
  | none => none
  | some (_, g, _, _) =>
    let l := s.layout
    if (openUpdate s g).isSome then some s
    else match replayEntry s g with
      | some e => some (s.setLayout { l with replayQueue := e :: l.replayQueue.filter fun x => decide (x.seq ≠ e.seq) })
      | none =>
        if l.resyncQueue.contains (groupOf g) then some (s.setLayout { l with resyncQueue := groupOf g :: l.resyncQueue.erase (groupOf g) })
        else if criticalDue s g && actRunning s (actOf u) then some (s.setLayout { l with critFront := g :: l.critFront.erase g })
        else none

/-- Ladder step L5 (R209, R384): the sector is reconstructed from the other sectors at its offset, with newer data from the cache, and
passes its SCRC; P or Q is computed from data that is all known. -/
def reconstructs (s : State) (u track p : Nat) (o : OffsetReads) : Bool := match sectorOfStripe s u track p with
  | none => false
  | some (r, g, j, offset) =>
    let m := r.map s
    let v := viewAt s r m (substOf s m) g { o with members := o.members.set j none }
    let known := withCache s r m g offset (v.recovered r m g offset)
    pqServes s && decide (o.offset = offset) && (if j < m.k then (known.getD j none).isSome else known.all (·.isSome))

/-- LADDER_STEP_ADVANCE: an outcome of the step that a sector stands at; a sector with no climb stands at L0. L5 is decided by what the
stripe's sectors give. -/
def execLadderStepAdvance (surface : Fin 48) (track psector top status : Nat) (outcome : StepOutcome) (s : State) :
    Host.Outcome State Fault Refusal :=
  let u := surface.val
  let k := climbKey u track psector
  let rest := s.dec.climbs.filter fun c => decide (c.key ≠ k)
  let c := (s.dec.climbs.find? fun c => decide (c.key = k)).getD (startClimb s u track psector top status)
  let regained := match outcome with
    | .failed => false
    | .recovered => decide (c.step ≠ 5)
    | .stripe o => decide (c.step = 5) && decide (c.step ≤ c.top) && reconstructs s u track psector o
  match (if c.step = 5 then stripeWaits s u track psector else none) with
  | some s => .next s
  | none =>
  if regained then .next (climbRecovered (s.setDec { s.dec with climbs := rest }) u track psector status c)
  else if stepGoesOn s u track psector c then
    .next (s.setDec { s.dec with climbs := rest ++ [aimRead s u track { c with reads := c.reads + 1 }] })
  else
    let c := if c.step = 5 then { c with l5Failed := true } else c
    let next := ((stepsAfter c (decide (s.num Obj.ladderOrder = 1))).find? (stepOpen s u track psector c)).getD 6
    if next = 6 then
      .next (closeStatus (raiseHead ((s.setDec { s.dec with climbs := rest }).bump Obj.unrecovered) u track) status 6 (some 8))
    else .next (s.setDec { s.dec with climbs := rest ++ [aimRead s u track { c with step := next, reads := 0 }] })

end Sys2Proof.Machine
end

