-- ==== Sys2Proof/Machine/Dma.lean ====
section
/-!
DEFINITION. The DMA engine, the fabric's lanes and the chip arbiter (R446–R463).
-/

namespace Sys2Proof.Machine

def State.setFab (s : State) (f : Fabric) : State := { s with fab := f }
def State.dma (s : State) (ch : Nat) : DmaCh := vget s.fab.dma ch DmaCh.reset
def State.modDma (s : State) (ch : Nat) (f : DmaCh → DmaCh) : State := s.setFab { s.fab with dma := vmod s.fab.dma ch f }

/-! ### Codes (R452) -/

def dcOk : Nat := 0x00
def dcMisalign : Nat := 0x01
def dcRange : Nat := 0x02
def dcPoison : Nat := 0x03
def dcReadErr : Nat := 0x04
def dcWriteErr : Nat := 0x05
def dcTailErr : Nat := 0x06
def dcReadback : Nat := 0x07
def dcAborted : Nat := 0x08
def dcDescErr : Nat := 0x09
def dcWaiting : Nat := 0x0A
def dcFencedStop : Nat := 0x0B
def dcBusy : Nat := 0xFF

/-- A status word (R452). -/
def statusWord (code resends indet : Nat) : Nat := min indet 16 * 2 ^ 16 + min resends 255 * 2 ^ 8 + code

def dmaBusy (s : State) (ch : Nat) : Bool := decide (s.num (Obj.chanStatus ch) % 256 = dcBusy)

/-! ### Checks (R446, R447) -/

/-- The sample buffers, which a transfer may read. -/
def inSampleBuffers (a n : Nat) : Bool := decide (0x40000000 ≤ a) && decide (a + n ≤ 0x40800000)

/-- MISALIGN, then RANGE. -/
def transferCheck (src dst count : Nat) : Option Nat :=
  if src % 64 ≠ 0 ∨ dst % 64 ≠ 0 ∨ count % 64 ≠ 0 ∨ count = 0 then some dcMisalign
  else if !(inDram src count || inSampleBuffers src count) || !inDram dst count then some dcRange
  else if src < dst ∧ dst < src + count then some dcRange
  else none

/-! ### Moving data (R446, R454) -/

/-- A block at a source address: DRAM, or a ring slot of a sample buffer (R202). -/
def sourceBlock (s : State) (a : Nat) : List Byte :=
  if inSampleBuffers a 64 then
    let o := a - 0x40000000
    padTo 64 (slice (sampleSlotBytes (SMap.findD s.dec.ringSlots (slotKey (o / 0x200000) (o % 0x200000 / 0x8000)) SampleSlot.empty))
      (o % 0x8000) 64)
  else dramRead s.mem a 64

/-- One beat: the block is written, as poison when its source is poisoned; the engine keeps its copy. -/
def dmaBlock (s : State) (ch : Nat) : State :=
  let c := s.dma ch
  let o := s.num (Obj.doneCount ch)
  let data := sourceBlock s (c.src + o)
  let bad := inDram (c.src + o) 64 && dramPoisoned s.mem (c.src + o) 64
  let s := dramWrite s (c.dst + o) data
  let s := if bad then poisonBlocks s [c.dst + o] else s
  let s := s.modDma ch fun c => { c with
    poison := c.poison || bad, firstPoison := if bad && !c.poison then c.dst + o else c.firstPoison
    lastCopy := data, lastPoison := bad }
  (s.setNum (Obj.doneCount ch) (o + 64)).add (Obj.objBytes ch) 64

/-- Beats acknowledged good, in ascending order. -/
def dmaBlocks (ch : Nat) : Nat → State → State
  | 0, s => s
  | n + 1, s => dmaBlocks ch n (dmaBlock s ch)

/-- The prefix acknowledged good reaches a number of bytes. -/
def dmaTo (s : State) (ch bytes : Nat) : State := dmaBlocks ch ((min bytes (s.dma ch).count - s.num (Obj.doneCount ch)) / 64) s

/-! ### Completion (R449, R451, R453) -/

/-- A notification (R449). -/
def dmaNotify (s : State) (ch ctrl code : Nat) : State :=
  if bit ctrl 13 && decide (code = dcOk) then s
  else s.setNum (Obj.notifyPending ch) (s.num (Obj.notifyPending ch) ||| fld ctrl 12 4)

/-- A channel that was being disabled is QUIESCED once it is idle (R79). -/
def settleDma (s : State) (ch : Nat) : State :=
  if s.num (Obj.dmaState ch) = stQuiescing ∧ (s.dma ch).phase = .idle then s.setNum (Obj.dmaState ch) stQuiesced else s

/-- The channel becomes idle with a status word, and its own notification is posted. -/
def dmaIdle (s : State) (ch word : Nat) : State :=
  let s := (s.modDma ch fun c => { c with phase := .idle, stop := false }).setNum (Obj.chanStatus ch) word
  settleDma (dmaNotify s ch (s.num (Obj.objCtrl ch)) (word % 256)) ch

/-- A transfer ends with a code: register mode reports it in the channel; a chain's descriptor is completed, and the chain goes on
after OK and POISON. -/
def dmaEnd (s : State) (ch code indet : Nat) : State :=
  let c := s.dma ch
  let word := statusWord code c.resends indet
  let s := (s.bump (Obj.objTransfers ch)).setNum (Obj.poisonAddr ch) c.firstPoison
  if !c.chain then dmaIdle s ch word
  else
    let s := dramWrite s (c.desc + 32) (leBytes 4 word ++ leBytes 4 (s.num (Obj.doneCount ch)) ++ leBytes 8 c.firstPoison)
    let s := dmaNotify (dramWrite s (c.desc + 60) (leBytes 4 0)) ch c.ctrl code
    if code = dcOk ∨ code = dcPoison then
      if c.next = 0 then dmaIdle s ch word
      else
        let s := s.setNum (Obj.chainAddr ch) c.next
        if c.stop then dmaIdle s ch word else s.modDma ch fun c => { c with phase := .fetching, desc := c.next }
    else dmaIdle (s.setNum (Obj.chainAddr ch) (if code = dcAborted then c.next else c.desc)) ch word

/-- A transfer starts, or ends at once under R447. -/
def dmaStart (s : State) (ch : Nat) (chain : Bool) (desc src dst next count ctrl : Nat) : State :=
  let s := (s.modDma ch fun _ => { DmaCh.reset with
    phase := .moving, chain := chain, desc := desc, src := src, dst := dst, next := next, count := count, ctrl := ctrl }).setNum
      (Obj.doneCount ch) 0
  match transferCheck src dst count with
  | some code => dmaEnd s ch code 0
  | none => s

/-- An accepted write to CTRL (R448, R449, R451, R455): the command bits read 0 afterwards. -/
def dmaCtrl (s : State) (ch v : Nat) : State :=
  if bit v 0 then
    let s := (s.setNum (Obj.objCtrl ch) (v / 16 * 16 + if bit v 1 then 2 else 0)).setNum (Obj.chanStatus ch) dcBusy
    if bit v 1 then
      s.modDma ch fun _ => { DmaCh.reset with phase := .fetching, chain := true, desc := s.num (Obj.chainAddr ch) }
    else dmaStart s ch false 0 (s.num (Obj.objSrc ch)) (s.num (Obj.objDst ch)) 0 (s.num (Obj.objCount ch)) v
  else if bit v 2 then (if (s.dma ch).phase = .idle then s else s.modDma ch fun c => { c with stop := true })
  else s.setNum (Obj.objCtrl ch) v

/-- ENABLE = 0 of a channel (R455). -/
def dmaDisable (s : State) (ch : Nat) : State :=
  settleDma ((s.setNum (Obj.dmaState ch) stQuiescing).modDma ch fun c => { c with stop := decide (c.phase ≠ .idle) }) ch

/-- The collector fences a channel: the transfer in flight ends FENCED_STOP (R455, R456). -/
def dmaFence (s : State) (ch : Nat) : State :=
  let s := if (s.dma ch).phase = .idle then s else s.setNum (Obj.chanStatus ch) dcFencedStop
  s.modDma ch fun _ => DmaCh.reset

/-! ### The engine's steps -/

/-- A descriptor whose reserved fields are not zero (R450, R451). -/
def descBad (b : List Byte) : Bool :=
  decide (fieldAt b 28 4 % 16 ≠ 0) || decide (fieldAt b 28 4 / 2 ^ 14 ≠ 0) || decide (fieldAt b 48 8 ≠ 0) || decide (fieldAt b 56 4 ≠ 0) ||
  decide (fieldAt b 60 4 / 2 ≠ 0) || decide (fieldAt b 16 8 % 64 ≠ 0)

/-- DMA_DESCRIPTOR_FETCHED (R451). -/
def execDmaDescriptorFetched (ch : Fin 8) (ok : Bool) (s : State) : Host.Outcome State Fault Refusal :=
  let c := s.dma ch.val
  if c.phase ≠ .fetching then .next s
  else if c.stop then .next (dmaIdle s ch.val dcAborted)
  else if !ok || !inDram c.desc 64 || dramPoisoned s.mem c.desc 64 then .next (dmaIdle s ch.val dcDescErr)
  else
    let b := dramRead s.mem c.desc 64
    if fieldAt b 60 4 % 2 = 0 then .next (dmaIdle s ch.val dcWaiting)
    else if descBad b then
      .next (dmaIdle (dramWrite (dramWrite s (c.desc + 32) (leBytes 4 dcDescErr)) (c.desc + 60) (leBytes 4 0)) ch.val dcDescErr)
    else .next (dmaStart s ch.val true c.desc (fieldAt b 0 8) (fieldAt b 8 8) (fieldAt b 16 8) (fieldAt b 24 4) (fieldAt b 28 4))

/-- DMA_BEATS_ACKNOWLEDGED (R453 steps 1, 2). -/
def execDmaBeatsAcknowledged (ch : Fin 8) (s : State) : Host.Outcome State Fault Refusal :=
  if (s.dma ch.val).phase ≠ .moving then .next s
  else .next ((dmaTo s ch.val (s.dma ch.val).count).modDma ch.val fun c => { c with phase := .readback })

/-- DMA_READBACK_DONE (R453 step 3, R454): a mismatch is rewritten once. -/
def execDmaReadbackDone (ch : Fin 8) (s : State) : Host.Outcome State Fault Refusal :=
  let c := s.dma ch.val
  let a := c.dst + c.count - 64
  let matched := if dramPoisoned s.mem a 64 then c.lastPoison else decide (dramRead s.mem a 64 = c.lastCopy)
  if c.phase ≠ .readback ∧ c.phase ≠ .rewritten then .next s
  else if matched then .next (dmaEnd s ch.val (if c.poison then dcPoison else dcOk) 0)
  else if c.phase = .readback then
    let s := dramWrite s a c.lastCopy
    let s := if c.lastPoison then poisonBlocks s [a] else s
    .next (s.modDma ch.val fun c => { c with phase := .rewritten })
  else .next (dmaEnd (s.setNum (Obj.doneCount ch.val) (c.count - 64)) ch.val dcReadback 1)

/-- DMA_BEAT_ERROR (R454): the destination blocks counted in INDET hold free values (log entry 1). -/
def execDmaBeatError (ch : Fin 8) (kind : BeatError) (doneBytes indet : Nat) (s : State) : Host.Outcome State Fault Refusal :=
  let c := s.dma ch.val
  if c.phase ≠ .moving then .next s
  else
    let s := dmaTo s ch.val (min doneBytes (c.count - 64))
    let code := match kind with
      | .read => dcReadErr
      | .write => dcWriteErr
      | .tail => dcTailErr
    let done := s.num (Obj.doneCount ch.val)
    let n := min (match kind with
      | .tail => 1
      | _ => min indet 16) ((c.count - done) / 64)
    let a := match kind with
      | .tail => c.dst + c.count - 64
      | _ => c.dst + done
    let (v, s) := s.draw
    let s := if n = 0 then s else dramWrite s a (leBytes (64 * n) v)
    .next (dmaEnd s ch.val code n)

/-! ### Fabric lanes (R457–R459) -/

/-- Lanes of a region and direction of the group that holds a lane: H 0–3, D 4–5, A0–A3 6–13, S 14–15; down direction at +16. -/
def laneGroup (lane : Nat) : List Nat :=
  let d := lane / 16 * 16
  let l := lane % 16
  (if l < 4 then [0, 1, 2, 3] else [l / 2 * 2, l / 2 * 2 + 1]).map (d + ·)

def laneOut (s : State) (lane : Nat) : Bool := bit (s.num Obj.lanesFenced) lane

/-- What follows when every lane of one direction of a region is out (R458). -/
def lanesGone (s : State) (lane : Nat) : State :=
  let l := lane % 16
  if l < 4 ∨ 14 ≤ l then s.raise 17 0 lane
  else if l < 6 then s.raise 20 0 lane
  else fenceActuator s ((l - 6) / 2) .fault

/-- A lane goes out of service; with the last one of its direction the fault rises to the next level (R9, R458). -/
def laneStop (s : State) (lane : Nat) : State :=
  if laneOut s lane then s
  else
    let s := s.setNum Obj.lanesFenced (setBit (s.num Obj.lanesFenced) lane)
    if (laneGroup lane).all (laneOut s) then lanesGone s lane else s

/-- FABRIC_LANE_RETIRE (R457, R458): a lane that a collector has fenced retires too. -/
def laneRetire (s : State) (lane : Nat) : State :=
  if (retiredIds s).contains (320 + lane) then s
  else
    let s := recordRetirement s (320 + lane)
    laneStop (s.setFab { s.fab with naks := vmod s.fab.naks lane fun _ => 0 }) lane

/-- The DMA channel behind a requester number (R460). -/
def channelOf (requester : Nat) : Option Nat := if 3 ≤ requester ∧ requester ≤ 10 then some (requester - 3) else none

/-- The lane of a lane's group that a requester uses: its number modulo the lanes in service (R457). -/
def laneUsed (s : State) (lane requester : Nat) : Bool :=
  let l := (laneGroup lane).filter fun i => !laneOut s i
  decide (l[requester % l.length]? = some lane)

/-- FABRIC_NAK: the block is re-sent up to three times; its fourth failure retires the lane, and the block moves to another, if one
is left. -/
def execFabricNak (lane : Fin 32) (requester : Fin 28) (s : State) : Host.Outcome State Fault Refusal :=
  let l := lane.val
  if laneOut s l || !laneUsed s l requester.val then .next s
  else
    let n := vget s.fab.naks l 0 + 1
    let s := s.raiseEv { source := 320 + l, master := requester.val, access := 3, syndrome := l }
    let resent (s : State) : State := match channelOf requester.val with
      | some ch => (s.bump Obj.objResends).modDma ch fun c => { c with resends := c.resends + 1 }
      | none => s.bump Obj.objResends
    if n ≤ 3 then .next (resent (s.setFab { s.fab with naks := vmod s.fab.naks l fun _ => n }))
    else
      let s := laneRetire s l
      .next (if (laneGroup l).all (laneOut s) then s.bump Obj.blocksFailed else resent s)

/-- FABRIC_ACK: the sender releases its copy; a DMA transfer's prefix grows, and a stopped one ends with its burst (R448, R455). -/
def execFabricAck (lane : Fin 32) (requester : Fin 28) (beats : Nat) (s : State) : Host.Outcome State Fault Refusal :=
  let s := s.setFab { s.fab with naks := vmod s.fab.naks lane.val fun _ => 0 }
  match channelOf requester.val with
  | none => .next s
  | some ch =>
    if (s.dma ch).phase ≠ .moving then .next s
    else
      let s := dmaTo s ch (s.num (Obj.doneCount ch) + 64 * beats)
      .next (if (s.dma ch).stop ∧ s.num (Obj.doneCount ch) < (s.dma ch).count then dmaEnd s ch dcAborted 0 else s)

/-! ### The chip arbiter (R460–R463) -/

/-- Region of a requester: H, B, D, A0–A3, S. -/
def requesterRegion (r : Nat) : Nat :=
  if r ≤ 1 then 0 else if r ≤ 12 then 1 else if r ≤ 14 then 2 else if r ≤ 26 then 3 + (r - 15) / 3 else 7

def weightOf (s : State) (r : Nat) : Nat := s.num (Obj.weight r)

/-- The token buckets are filled up to now: RESERVE_MBS / 1,600 beats a tick, at most 256 (R461). -/
def fillTokens (s : State) : State :=
  let add := s.fab.reserve * (s.tick - s.fab.tokenTick)
  s.setFab { s.fab with tokens := s.fab.tokens.map fun t => min (256 * 1600) (t + add), tokenTick := s.tick }

def hasToken (s : State) (b : Beat) : Bool := match b.tag with
  | some a => decide (1600 ≤ vget s.fab.tokens a.val 0)
  | none => false

def isHoldCopy (b : Beat) : Bool := decide (15 ≤ b.requester.val) && decide (b.requester.val ≤ 26) && decide (b.requester.val % 3 = 2)

/-- The reserved request that is granted next: hold copies first; which of several comes first is a free value (log entry 1). -/
def reservedNext (s : State) (l : List Beat) : Option Beat × State :=
  let ready := l.filter (hasToken s)
  let first := ready.filter isHoldCopy
  match (if first.isEmpty then ready else first) with
  | [] => (none, s)
  | [b] => (some b, s)
  | b :: r => (((b :: r)[s.draw.1 % (r.length + 1)]?).orElse fun _ => some b, s.draw.2)

/-- Waiting requesters of a region, ascending. -/
def waitingOf (l : List Beat) (r : Nat) : List Nat :=
  (List.range 28).filter fun i => decide (requesterRegion i = r) && l.any fun b => decide (b.requester.val = i)

/-- A region whose turn comes adds its quantum, or loses its deficit. -/
def enterRegion (s : State) (l : List Beat) (r : Nat) : State :=
  let w := waitingOf l r
  s.setFab { s.fab with region := r, deficit := vmod s.fab.deficit r fun d => if w.isEmpty then 0 else d + (w.map (weightOf s)).sum }

/-- The region that grants next. -/
def pickRegion (l : List Beat) : Nat → State → State
  | 0, s => s
  | n + 1, s =>
    let r := s.fab.region
    if (waitingOf l r).isEmpty then
      pickRegion l n (enterRegion (s.setFab { s.fab with deficit := vmod s.fab.deficit r fun _ => 0 }) l ((r + 1) % 8))
    else if 1 ≤ vget s.fab.deficit r 0 then s
    else pickRegion l n (enterRegion s l ((r + 1) % 8))

/-- The region arbiter's next choice: WEIGHT consecutive beats per turn, requesters in ascending number. -/
def pickRequester (s : State) (l : List Beat) : Option Nat × State :=
  let r := s.fab.region
  let w := waitingOf l r
  let last := vget s.fab.last r 0
  let left := vget s.fab.turnLeft r 0
  if 0 < left ∧ w.contains last then (some last, s.setFab { s.fab with turnLeft := vmod s.fab.turnLeft r fun _ => left - 1 })
  else match (w.filter (last < ·)).head?.orElse fun _ => w.head? with
    | some i => (some i, s.setFab { s.fab with
        last := vmod s.fab.last r fun _ => i, turnLeft := vmod s.fab.turnLeft r fun _ => weightOf s i - 1 })
    | none => (none, s)

/-- What a granted beat does in DRAM (R424–R426, R429): a partial write reads and merges. -/
def serveBeat (s : State) (b : Beat) : State :=
  let ecc := eccOf s.mem b.address b.ecc
  match b.write with
  | none => eccRead s b.address b.requester.val ecc
  | some data =>
    if 64 ≤ data.length then dramWrite s b.address (data.take 64)
    else
      let s := eccRead s b.address b.requester.val ecc
      let s := dramWrite s b.address data
      if eccBad ecc then poisonBlocks s [blockOf b.address] else s

/-- A beat can be granted: its block lies in usable DRAM, and its page is not being copied (R427). -/
def beatReady (s : State) (b : Beat) : Bool :=
  inDram b.address 64 && decide (b.address % 64 = 0) && !s.mem.copying.contains (pageOf b.address)

/-- ARBITER_GRANT: one beat of the requests that wait. -/
def execArbiterGrant (waiting : List Beat) (s : State) : Host.Outcome State Fault Refusal :=
  let l := waiting.filter (beatReady s)
  if l.isEmpty then .next s
  else
    let s := fillTokens s
    match reservedNext s l with
    | (some b, s) =>
      let a := (b.tag.map (·.val)).getD 0
      let s := s.setFab { s.fab with tokens := vmod s.fab.tokens a fun t => t - 1600 }
      .next (serveBeat (s.bump Obj.reservedGrants) b)
    | (none, s) =>
      match pickRequester (pickRegion l 16 s) l with
      | (some i, s) =>
        let s := s.setFab { s.fab with deficit := vmod s.fab.deficit s.fab.region fun d => d - 1 }
        match l.find? fun b => decide (b.requester.val = i) with
        | some b => .next (serveBeat (s.bump Obj.grants) b)
        | none => .next s
      | (none, s) => .next s

end Sys2Proof.Machine
end

