-- ==== Sys2Proof/Machine/Collector.lean ====
section
/-!
DEFINITION. The collectors: units and their STATE, reactions and trips, retirement, the safe state's end, and the event ledger's
mirrors (R78–R80, R184, R201, R215, R244, R245, R276, R277, R330, R437, R439, R456, R458, R466–R484).
-/

namespace Sys2Proof.Machine

/-! ### Units (R78, R467) -/

/-- The unit that an event source belongs to. -/
inductive Owner where
  | nobody
  /-- a block without a STATE object: NVMe controllers, cores, the P/Q engine and the rest (R7) -/
  | block (id : Nat)
  | girth
  | port (p : Nat)
  | dma (ch : Nat)
  | keeper
  | way (w : Nat)
  | detector (d : Nat)
  | ldpc (c : Nat)
  | lane (l : Nat)
  | engine (e : Nat)
  | actuator (a : Nat)
  | reader (a k : Nat)
  | player (p : Nat)
  | head (u : Nat)
  | ramBlock (m : Nat)
  deriving DecidableEq, Repr

/-- The unit of an actuator's source at offset k: its preamp, drive, and clause and phrase store are the actuator itself. -/
def actuatorOwner (a k : Nat) : Owner :=
  if k = 0 ∨ k = 1 ∨ k = 3 ∨ k = 5 then .actuator a
  else if 8 ≤ k ∧ k ≤ 10 then .engine (3 * a + (k - 8))
  else if 11 ≤ k ∧ k ≤ 13 then .reader a (k - 11)
  else if 14 ≤ k ∧ k ≤ 17 then .player (2 * a + (k - 14) / 2)
  else if 20 ≤ k ∧ k ≤ 31 then .head (12 * a + (k - 20))
  else .block (448 + 64 * a + k)

/-- The unit of a source. -/
def ownerOf (id : Nat) : Owner :=
  if 704 ≤ id then .ramBlock (id - 704)
  else if 448 ≤ id then actuatorOwner ((id - 448) / 64) ((id - 448) % 64)
  else if id = 39 then .girth
  else if id = 96 ∨ id = 97 then .port (id - 96)
  else if 164 ≤ id ∧ id ≤ 171 then .dma (id - 164)
  else if id = 173 then .keeper
  else if 178 ≤ id ∧ id ≤ 193 then .way (id - 178)
  else if 256 ≤ id ∧ id ≤ 263 then .detector (id - 256)
  else if 264 ≤ id ∧ id ≤ 275 then .ldpc (id - 264)
  else if 320 ≤ id ∧ id ≤ 351 then .lane (id - 320)
  else if 354 ≤ id ∧ id ≤ 357 then .engine (id - 342)
  else .block id

/-- The id under which a unit's retirement is recorded (R471); none for what retires in another way or not at all. -/
def Owner.listed : Owner → Option Nat
  | .girth => some 39
  | .port p => some (96 + p)
  | .dma ch => some (164 + ch)
  | .way w => some (178 + w)
  | .detector d => some (256 + d)
  | .ldpc c => some (264 + c)
  | .lane l => some (320 + l)
  | .engine e => some (engSource e)
  | .actuator a => some (448 + 64 * a)
  | .reader a k => some (448 + 64 * a + 11 + k)
  | .player p => some (448 + 64 * (p / 2) + 15 + 2 * (p % 2))
  | .head u => some (headSource u)
  | .keeper | .ramBlock _ | .block _ | .nobody => none

/-- The unit's STATE object, where it has one. -/
def Owner.state : Owner → Option Key
  | .girth => some Obj.girthInputState
  | .port p => some (Obj.portState p)
  | .dma ch => some (Obj.dmaState ch)
  | .detector d => some (Obj.detectorState d)
  | .ldpc c => some (Obj.ldpcState c)
  | .engine e => some (engKey e 2)
  | .actuator a => some (Obj.actuatorState a)
  | .reader a k => some (Obj.laneState a k)
  | .player p => some (Obj.playerState p)
  | .way _ | .lane _ | .head _ | .keeper | .ramBlock _ | .block _ | .nobody => none

/-- The unit's ENABLE object, where it has one. -/
def Owner.enable : Owner → Option Key
  | .girth => some Obj.girthInputEnable
  | .port p => some (Obj.portEnable p)
  | .dma ch => some (Obj.dmaEnable ch)
  | .detector d => some (Obj.detectorEnable d)
  | .ldpc c => some (Obj.ldpcEnable c)
  | .actuator a => some (Obj.actuatorEnable a)
  | .reader a k => some (Obj.laneEnable a k)
  | .engine _ | .player _ | .way _ | .lane _ | .head _ | .keeper | .ramBlock _ | .block _ | .nobody => none

/-- The unit's retirement is recorded. -/
def unitRetired (s : State) (o : Owner) : Bool := match o.listed with
  | some id => (retiredIds s).contains id
  | none => false

/-! ### Decode reservations with fewer cores (R201) -/

/-- RESERVE2_PM and RATE_PM of one pool, for the highest demand of R198: four actuators reading outer-zone tracks at once. -/
def poolRates (pct rate cores : Nat) : Nat × Nat :=
  let cap := pct * rate * cores
  let d := 432000 * 100
  if 3 * d ≤ cap then (0, 1000)
  else if 2 * d ≤ cap then ((1000 * (3 * d - cap) + d - 1) / d, 1000)
  else (1000, 1000 * cap / (2 * d))

/-- The cores of a pool that are RUNNING. -/
def runningDet (s : State) : Nat := ((List.range 8).filter fun d => decide (s.num (Obj.detectorState d) = stRunning)).length
def runningLdpc (s : State) : Nat := ((List.range 12).filter fun c => decide (s.num (Obj.ldpcState c) = stRunning)).length
def runningDma (s : State) : Nat := ((List.range 8).filter fun c => decide (s.num (Obj.dmaState c) = stRunning)).length
def runningReaders (s : State) (a : Nat) : Nat := ((List.range 3).filter fun k => decide (s.num (Obj.laneState a k) = stRunning)).length

/-- The noun cores apply R198 with the cores that are RUNNING. -/
def settleRates (s : State) : State :=
  let l := s.num Obj.reserveLimitPct
  let d := poolRates l (s.num Obj.detCoreRate) (runningDet s)
  let c := poolRates l (s.num Obj.ldpcCoreRate) (runningLdpc s)
  (s.setNum Obj.reserve2Pm (max d.1 c.1)).setNum Obj.ratePm (min d.2 c.2)

/-! ### What a unit does when it leaves RUNNING through the collector -/

/-- A player's sentence, playing or READY, ends FAULT (R245). With no player left its actuator is FENCED. -/
def stopPlayer (s : State) (p st : Nat) : State :=
  let s := s.setNum (Obj.playerState p) st
  let s := match s.num (Obj.loadState p) with
    | 3 => giveUp s p .fault
    | 2 => dropReady s p .fault
    | _ => s
  let a := playerAct p
  if 3 ≤ s.num (Obj.playerState (2 * a)) ∧ 3 ≤ s.num (Obj.playerState (2 * a + 1)) then fenceActuator s a .fault else s

/-- A block without a STATE object is fenced (R7, R469): it takes no part until it is readmitted. A controller loses its commands, and
the milli-actuator bridge of an actuator is held at 0 V. -/
def blockFence (s : State) (id : Nat) : State :=
  let s := s.setColl { s.coll with fenced := nset s.coll.fenced id }
  if id = 98 ∨ id = 99 then controllerReset s (if id = 98 then .a else .b)
  else if 448 ≤ id ∧ (id - 448) % 64 = 4 then s.setMotion { s.motion with ma := vmod s.motion.ma ((id - 448) / 64) fun _ => 0 }
  else s

/-- A unit enters FENCED or RETIRED (R79): its in-flight work is abandoned as its chapter states. -/
def stopUnit (s : State) (o : Owner) (st : Nat) : State :=
  match o with
  | .girth => unjoin (s.setNum Obj.girthInputState st)
  | .port p => controllerReset (s.setNum (Obj.portState p) st) (if p = 0 then .a else .b)
  | .dma ch => (dmaFence s ch).setNum (Obj.dmaState ch) st
  | .detector d => settleRates (abandonPasses (s.setNum (Obj.detectorState d) st) true d)
  | .ldpc c => settleRates (abandonPasses (s.setNum (Obj.ldpcState c) st) false c)
  | .reader a k => laneTo s a k st
  | .player p => stopPlayer s p st
  | .actuator a => (fenceActuator s a .fault).setNum (Obj.actuatorState a) st
  | .engine e =>
    let s := if engState s e < stFenced then parkIfAlone (engineOut s e) (s.engineOf e).group else s
    if st = stFenced then s else (setEngState s e st).modEngine e fun x => { x with rejoin := 0 }
  | .lane l => laneStop s l
  | .keeper => (setDegraded s 5 true).setNum Obj.keeperState 1
  | .block id => blockFence s id
  | .way _ | .head _ | .ramBlock _ | .nobody => s

/-- The unit may be fenced: it is in RUNNING, QUIESCING or QUIESCED. -/
def canFence (s : State) (o : Owner) : Bool := match o, o.state with
  | .lane l, _ => !laneOut s l
  | .keeper, _ => true
  | .block id, _ => !s.coll.fenced.contains id
  | _, some k => decide (s.num k < stFenced)
  | _, none => false

/-- FENCE (R469): the unit is readmitted after its self-check; a rein engine by its own rejoin. -/
def fenceUnit (s : State) (id : Nat) (o : Owner) : State :=
  if canFence s o then
    let s := stopUnit s o stFenced
    match o with
    | .engine _ => s
    | _ => s.setColl { s.coll with readmitting := nset s.coll.readmitting id }
  else s

/-- DEGRADE (R469): as FENCE, to the next start sequence. -/
def degradeUnit (s : State) (id : Nat) (o : Owner) : State :=
  let s := if canFence s o then stopUnit s o stFenced else s
  s.setColl { s.coll with readmitting := nunset s.coll.readmitting id }

/-- A unit's retirement (R469, R471) with what its chapter adds: an actuator's surfaces retire with it, a preamp's trip has every
consequence of R183, the pool spare joins for a rein engine, and an empty pool is an event of its own. -/
def retireUnit (s : State) (id : Nat) (o : Owner) : State :=
  let record (s : State) : State := match o.listed with
    | some n => recordRetirement s n
    | none => s
  match o with
  | .head u => retireSurfaceNow s u
  | .lane l => laneRetire s l
  | .way w => record (wayRetire s w)
  | .actuator a =>
    let s := if (id - 448) % 64 = 1 then preampFaulted s a else s
    let s := record (stopUnit s o stRetired)
    s.each (surfacesOfAct s a) retireSurfaceNow
  | .engine e =>
    let g := (s.engineOf e).group
    let slot := (s.engineOf e).slot
    let s := record (stopUnit s o stRetired)
    if e < 15 then spareJoin s g slot else s
  | .detector _ =>
    let s := record (stopUnit s o stRetired)
    if runningDet s = 0 then s.raise 18 else s
  | .ldpc _ =>
    let s := record (stopUnit s o stRetired)
    if runningLdpc s = 0 then s.raise 18 else s
  | .dma _ =>
    let s := record (stopUnit s o stRetired)
    if runningDma s = 0 then s.raise 19 else s
  | .girth | .port _ | .reader _ _ | .player _ => record (stopUnit s o stRetired)
  | .keeper | .ramBlock _ | .block _ | .nobody => s

/-- REPAIR (R439, R469): the row goes into the fuse-map shadow. -/
def repairRow (s : State) (o : Owner) (row : Nat) : State := match o with
  | .ramBlock m => 
    let r : Repair := { macroNo := m, index := row }
    if s.start.shadow.contains r then s else s.setStart { s.start with shadow := s.start.shadow ++ [r] }
  | _ => s

/-! ### COLLECTOR_EVENT (R466–R473, R478) -/

/-- The action of a trip. -/
def tripAction (t : Nat) : Nat :=
  if t = tpRetire then actRetire else if t = tpDegrade then actDegrade else if t = tpSafe then actSafe
  else if t = tpRepair then actRepair else actNone

/-- A stronger action that the unit's own chapter has taken (R469): a parked group's or a faulted preamp's actuator is fenced, and a lane
whose block failed four times is retired. -/
def chapterAction (s : State) (id action : Nat) : Nat :=
  let a := (id - 448) / 64
  if 448 ≤ id ∧ id < 704 ∧ (id - 448) % 64 = 6 ∧ s.num (Obj.groupState a) = gsParked ∧ action < actFence then actFence
  else if 448 ≤ id ∧ id < 704 ∧ (id - 448) % 64 = 1 ∧ s.num (Obj.preampState a) = 3 ∧ action < actFence then actFence
  else if 320 ≤ id ∧ id < 352 ∧ laneOut s (id - 320) ∧ action < actFence then actRetire
  else action

/-- The action that an event receives: its reaction, or on a trip the source's TRIP, unless its unit is retired already (R470). -/
def actionOf (s : State) (e : SourceEntry) (tripped : Bool) : Nat :=
  if tripped then (if unitRetired s (ownerOf e.id) then actNone else tripAction e.trip) else chapterAction s e.id e.reaction

/-- The action is applied. -/
def applyAction (s : State) (ev : Event) (action : Nat) : State :=
  let o := ownerOf ev.source
  if action = actFence ∧ (sourceNow s ev.source).reaction = rcFence then fenceUnit s ev.source o
  else if action = actDegrade then degradeUnit s ev.source o
  else if action = actRetire then retireUnit s ev.source o
  else if action = actRepair then repairRow s o ev.unit
  else s

/-- RAIL_STATE shows a rail out of regulation (R52, source 9): PRESUMED (log 60) that the event's UNIT is the rail's bit. -/
def railSeen (s : State) (ev : Event) : State :=
  if ev.source = 9 then s.setNum Obj.railState (clrBit (s.num Obj.railState) ev.unit) else s

/-- An event at the collector: counted, captured, classified, recorded, and its action applied. The first injection of an engine in a
start does not count towards its retirement (R278): it fills no bucket. -/
def collect (s : State) (ev : Event) : State :=
  let e := sourceNow s ev.source
  let exempt := decide (ev.detail = injectionDetail) && match ownerOf ev.source with
    | .engine _ => true
    | _ => false
  if exempt then
    let s := (captureAll s ev).bump Obj.eventsTotal
    plainRecord s ev (leakedLevel s ev.source e.window, false) e.reaction
  else
    let (r, s) := countEvent s ev
    let action := actionOf s e r.2
    if action = actSafe then
      if inSafe s then plainRecord s ev r actNone
      else safeEntry (writeRecord s (eventRecord ev kSafe 3 e.level actSafe r.1)) ev.source
    else applyAction (plainRecord s ev r action) ev action

/-- A source that can raise events at stepping B0: not one that R467 reserves. -/
def raises (id : Nat) : Bool :=
  decide (id < 1152) && (decide (704 ≤ id) || (decide (448 ≤ id) &&
    !decide ((id - 448) % 64 = 19) && decide ((id - 448) % 64 < 32)) || decide (id ≤ 20) || (decide (32 ≤ id) && decide (id ≤ 43)) ||
    (decide (64 ≤ id) && decide (id ≤ 74)) || (decide (96 ≤ id) && decide (id ≤ 107)) || (decide (160 ≤ id) && decide (id ≤ 195)) ||
    (decide (256 ≤ id) && decide (id ≤ 277)) || (decide (320 ≤ id) && decide (id ≤ 358)) || (decide (384 ≤ id) && decide (id ≤ 390)))

/-- COLLECTOR_EVENT: an event that one of the block's commands raised, or one of a checker of its own. -/
def execCollectorEvent (ev : Event) (s : State) : Host.Outcome State Fault Refusal :=
  if !mainPowered s || !raises ev.source then .next s
  else .next (railSeen (collect { s with raised := s.raised.erase ev } ev) ev)

/-! ### Readmission (R79, R469) -/

/-- A unit leaves FENCED: RUNNING with ENABLE = 1, otherwise QUIESCED; a player follows its actuator. -/
def readmitted (s : State) (o : Owner) : State :=
  let st := match o.enable with
    | some k => if s.num k = 1 then stRunning else stQuiesced
    | none => stRunning
  match o with
  | .actuator a => setActuator s a st
  | .player p => followPlayers (s.setNum (Obj.playerState p) stQuiesced) (playerAct p)
  | .detector _ | .ldpc _ => match o.state with
    | some k => dispatch (settleRates (s.setNum k st))
    | none => s
  | .block id =>
    let s := s.setColl { s.coll with fenced := nunset s.coll.fenced id }
    if id = 98 then becomeReady s .a else if id = 99 then becomeReady s .b else s
  | .girth => if st = stRunning then joinBegin (s.setNum Obj.girthInputState st) else s.setNum Obj.girthInputState st
  | .lane l => s.setNum Obj.lanesFenced (clrBit (s.num Obj.lanesFenced) l)
  | .keeper => (setDegraded s 5 false).setNum Obj.keeperState 0
  | _ => match o.state with
    | some k => s.setNum k st
    | none => s

/-- The unit is still fenced. -/
def stillFenced (s : State) (o : Owner) : Bool := !unitRetired s o && match o.state with
  | some k => decide (s.num k = stFenced)
  | none => true

/-- UNIT_READMIT (R469): the unit's self-check has passed. -/
def execUnitReadmit (source : Nat) (s : State) : Host.Outcome State Fault Refusal :=
  if s.coll.readmitting.contains source then
    let s := s.setColl { s.coll with readmitting := nunset s.coll.readmitting source }
    .next (if stillFenced s (ownerOf source) then readmitted s (ownerOf source) else s)
  else .next s

/-! ### The safe state's end, core watchdog, self-fault (R467, R475, R477) -/

/-- SAFE_RESTART_TIMEOUT (R477). -/
def execSafeRestartTimeout (s : State) : Host.Outcome State Fault Refusal :=
  if inSafe s && decide (s.num Obj.safeRestartS ≠ 0) && decide (s.num Obj.safeTick + 25000000 * s.num Obj.safeRestartS ≤ s.tick) then
    .next (leaveSafe s false)
  else .next s

/-- SAFE_ENTRIES_EXPIRE (R477). -/
def execSafeEntriesExpire (s : State) : Host.Outcome State Fault Refusal := .next (s.setNum Obj.safeEntries 0)

/-- CORE_WATCHDOG (R467): source 1. -/
def execCoreWatchdog (core : Fin 9) (s : State) : Host.Outcome State Fault Refusal :=
  if mainPowered s then .next (safeBy s { source := 1, unit := core.val }) else .next s

/-- COLLECTOR_SELF_FAULT (R475): a region collector's fault is delivered as source 0 with no classification; the chip collector's own
drives the safe-state lines, stops HEARTBEAT, and the motion die runs the heartbeat-loss sequence. DESIGN CHOICE (log 49): the chip
collector's ledger path still works. -/
def execCollectorSelfFault (collector : Fin 9) (s : State) : Host.Outcome State Fault Refusal :=
  if !mainPowered s then .next s
  else
    let e : Event := { source := 0, unit := collector.val }
    let rec0 := eventRecord e (if inSafe s then kEvent else kSafe) 3 lvChip (if inSafe s then actNone else actSafe) 0
    let s := (captureAll s e).bump Obj.eventsTotal
    let s := if inSafe s then writeRecord s rec0 else safeEntry (writeRecord s rec0) 0
    if collector.val < 8 then .next s
    else .next (if s.num Obj.heartbeatArmed = 1 ∨ s.motion.notice.isSome then motionTakesOver s .heartbeatLoss else s)

/-! ### Captures, clears, source entries, UNRETIRE (R466, R471, R473, R482) -/

/-- CAPTURE_CLEAR = 1 (R473). -/
def captureRearm (s : State) (r : Nat) : State :=
  s.setColl { s.coll with captures := vmod s.coll.captures r fun _ => ⟨false, ⟨0, 0, 0, 0, 5, 0, 0⟩, 0, 0⟩ }

/-- A write of a source entry is in range (R466, R467). -/
def sourceEntryOk (s : State) (id : Nat) (b : List Byte) : Bool :=
  let d := sourceDefault id
  decide (fieldAt b 0 2 = id) && decide (byteAt b 2 = (sourceNow s id).level) &&
  (decide (d.reaction ≠ rcSafe) || (decide (byteAt b 4 = rcSafe) && decide (byteAt b 5 = d.trip))) &&
  decide (byteAt b 3 ≤ 3) && decide (byteAt b 4 ≤ 4) && decide (byteAt b 5 ≤ 4) &&
  decide (1 ≤ fieldAt b 8 4) && decide (fieldAt b 8 4 ≤ 2592000) && decide (fieldAt b 12 4 = 0)

/-- UNRETIRE (R471): the status, and the state. A surface stays in RETIRED_ORDER, which no rule takes it out of; a lane or way stays out
of service to the next start. -/
def unretireAsk (s : State) (id : Nat) : Nat × State :=
  if !(retiredIds s).contains id then (0x05, s)
  else
    let s := recordStore (s.setStr Obj.retiredUnits (retiredUnitsBlob (nunset (retiredIds s) id))) .retiredUnits
    let o := ownerOf id
    match o with
    | .actuator a => (0, setActuator s a stQuiesced)
    | _ => match o.state with
      | some k => (0, s.setNum k stQuiesced)
      | none => (0, s)

/-! ### Mirrors (R483) -/

/-- LEDGER_MIRROR: every 4 s when a record has changed. -/
def execLedgerMirror (s : State) : Host.Outcome State Fault Refusal :=
  if s.coll.restored && s.coll.changed then .next (startMirror s) else .next s

/-- LEDGER_MIRROR_DONE: the older copy holds the ledger, and MIRROR_SEQ its newest SEQ. -/
def execLedgerMirrorDone (s : State) : Host.Outcome State Fault Refusal :=
  match s.coll.mirroring with
  | none => .next s
  | some m =>
    let s := s.setColl { s.coll with
      norCopies := vmod s.coll.norCopies s.coll.norNext fun _ => m, norNext := 1 - s.coll.norNext, mirroring := none }
    .next (s.setNum Obj.mirrorSeq (max (s.num Obj.mirrorSeq) (m.foldl (fun t e => max t e.2.seq) 0)))

/-- LEDGER_BAND_COPY: while a holder can be written. -/
def execLedgerBandCopy (s : State) : Host.Outcome State Fault Refusal :=
  if s.media.holders.toList.any fun h => decide (h ≠ 255) && usable s h && !failedSurface s h then .next (bandCopy s)
  else .next s

end Sys2Proof.Machine
end

