-- ==== Sys2Proof/Machine/Firmware.lean ====
section
/-!
DEFINITION. Image slots, download, commit and activation without reset; bundle staging; owner key, certificate chains and lifecycle;
SPDM; crypto erase (R103–R131).
-/

namespace Sys2Proof.Machine

/-! ### Slot-control record and slots (R104, R105) -/

def imageSlot (s : State) (i : Nat) : ImageSlot := vget s.fw.slots i ⟨[], 0⟩
def slotValid (s : State) (i : Nat) : Bool := decide ((imageSlot s i).state = 1)
def minSecurity (s : State) : Nat := s.num Obj.minSecurityVersion

/-- The image in a slot passes R105 and R107. -/
def slotAccepted (s : State) (i : Nat) : Bool := imageAccepted (imageSlot s i).bytes s.fw.ownerKey (minSecurity s)

/-! ### Lifecycle (R119–R122) -/

def lcBlank : Nat := 0
def lcManufacture : Nat := 1
def lcDeployed : Nat := 2
def lcReturn : Nat := 3
def lcScrapped : Nat := 4

/-- The lifecycle state: two fuse bits, and once DEP is set the lifecycle record; without a valid one it is DEPLOYED. A destroyed key
store says SCRAPPED, since the sealed key area has gone with it (R122). -/
def lifecycle (s : State) : Nat :=
  if !s.fw.mfg then lcBlank
  else if !s.fw.dep then lcManufacture
  else if s.fw.destroyed then lcScrapped
  else s.fw.lifecycleRecord.getD lcDeployed

/-- Boundary scan is locked (R121). -/
def scanLocked (s : State) : Bool := decide (lifecycle s = lcDeployed) || decide (lifecycle s = lcScrapped)

/-! ### Download (R110) -/

/-- The pieces of a staging joined from offset 0 on. -/
def stagedImage (m : SMap (List Byte)) : List Byte := m.foldl (fun acc e => if e.1 = acc.length then acc ++ e.2 else acc) []

/-- IMAGE_LENGTH of a staging whose first piece has arrived. -/
def stagedLength (m : SMap (List Byte)) : Option Nat := match SMap.find m 0 with
  | some b => if 24 ≤ b.length then some (imageLen b) else none
  | none => none

/-- FIRMWARE_IMAGE_DOWNLOAD: the piece at its offset, both as the command's Dwords 10 and 11 give them. DESIGN CHOICE (log 73): a last piece of
unaligned length that comes before the header's piece, and a piece beyond 24 MiB, complete with Invalid Field. -/
def execFirmwareImageDownload (slot : Nat) (piece : Bytes) (s : State) : Host.Outcome State Fault Refusal :=
  match adminCmd s slot 0x11 with
  | none => .next s
  | some c =>
    let len := 4 * (c.cmd.cdw10 + 1)
    let off := 4 * c.cmd.cdw11
    let b := padTo len (piece.take len)
    let m := vget s.fw.staging (portNo c.port) []
    let final := decide (stagedLength m = some (off + len))
    if 24 * 2 ^ 20 < off + len ∨ ((off % 4096 ≠ 0 ∨ len % 4096 ≠ 0) ∧ !final) then .next (endAdmin s slot scInvalidField)
    else if m.any fun e => decide (off < e.1 + e.2.length) && decide (e.1 < off + len) then .next (endAdmin s slot scOverlappingRange)
    else
      let s := s.setFw { s.fw with staging := vmod s.fw.staging (portNo c.port) fun m => SMap.put m off b }
      .next (endAdmin s slot scOk)

/-! ### Commit (R111, R112) -/

def scActivationReset : Nat × Nat := (1, 0x11)
def scActivationProhibited : Nat × Nat := (1, 0x13)
def scSequenceError : Nat × Nat := (0, 0x0C)
def scSanitizeInProgress : Nat × Nat := (0, 0x1D)

/-- A Firmware Commit whose turn it is: commits execute one at a time, in admission order. -/
def commitTurn (s : State) (n : Nat) (cas : List Nat) : Option CmdSlot :=
  match adminCmd s n 0x10 with
  | none => none
  | some c =>
    let earlier := s.host.slots.any fun e =>
      !e.2.io && decide (e.2.cmd.opcode = 0x10) && !e.2.released && decide (e.2.admission < c.admission)
    let busy := s.fw.programming.isSome || (match s.fw.activation with
      | some a => !a.unfrozen
      | none => false)
    if earlier || busy || !cas.contains (fld c.cmd.cdw10 5 3) then none else some c

/-- The NOR slot that a commit names: 0 names the one that is not running. DESIGN CHOICE (log 73): 3 to 7 give Invalid Firmware Slot. -/
def commitSlot (s : State) (c : CmdSlot) : Option Nat := match c.cmd.cdw10 % 8 with
  | 0 => some (1 - s.num Obj.runningSlot % 2)
  | 1 => some 0
  | 2 => some 1
  | _ => none

/-- A slot begins to be programmed: it reads WRITING. -/
def programSlot (s : State) (x : SlotProgram) : State :=
  s.setFw { s.fw with programming := some x, slots := vmod s.fw.slots x.slot fun _ => ⟨[], 3⟩ }

/-- Commit actions 000 and 001. DESIGN CHOICE (log 73): the staging area keeps the image after the commit, to a controller reset. -/
def commitProgram (s : State) (n : Nat) (c : CmdSlot) (pend : Bool) : State :=
  let img := stagedImage (vget s.fw.staging (portNo c.port) [])
  match commitSlot s c with
  | none => endAdmin s n scFirmwareSlot
  | some i =>
    if i = s.num Obj.runningSlot then endAdmin s n scFirmwareSlot
    else if !imageAccepted img s.fw.ownerKey (minSecurity s) then endAdmin (s.raise 64) n scFirmwareImage
    else programSlot s { slot := i, image := img.take (imageLen img), pend := pend, activate := pend, cmdSlot := some n }

def execFirmwareCommitReplace (slot : Nat) (s : State) : Host.Outcome State Fault Refusal :=
  match commitTurn s slot [0] with
  | some c => .next (commitProgram s slot c false)
  | none => .next s

def execFirmwareCommitReplaceActivate (slot : Nat) (s : State) : Host.Outcome State Fault Refusal :=
  match commitTurn s slot [1] with
  | some c => .next (commitProgram s slot c true)
  | none => .next s

/-- PENDING_SLOT is set, and the next Controller Level Reset activates it. -/
def pendSlot (s : State) (i : Nat) : State :=
  let s := setControl s (activeSlot s) i
  s.setFw { s.fw with resetActivates := true }

/-- CA 010. -/
def execFirmwareCommitActivate (slot : Nat) (s : State) : Host.Outcome State Fault Refusal :=
  match commitTurn s slot [2] with
  | none => .next s
  | some c => match commitSlot s c with
    | none => .next (endAdmin s slot scFirmwareSlot)
    | some i =>
      if slotValid s i then .next (endAdmin (pendSlot s i) slot scOk) else .next (endAdmin s slot scFirmwareImage)

/-- CA 011 (R112). -/
def execFirmwareCommitActivateNow (slot : Nat) (s : State) : Host.Outcome State Fault Refusal :=
  match commitTurn s slot [3] with
  | none => .next s
  | some c => match commitSlot s c with
    | none => .next (endAdmin s slot scFirmwareSlot)
    | some i =>
      if !slotValid s i then .next (endAdmin s slot scFirmwareImage)
      else if i = s.num Obj.runningSlot then .next (endAdmin s slot scOk)
      else if s.fw.activation.isSome then .next (endAdmin s slot scActivationProhibited)
      else if !normalMode s || decide (imageHandoff (imageSlot s i).bytes ≠ imageHandoff (runningImage s)) then
        .next (endAdmin (pendSlot s i) slot scActivationReset)
      else
        let bank := 1 - s.num (Obj.bankCurrent 0) % 2
        let a : Activation := { slot := i, cmdSlot := some slot, staged := false, unfrozen := false, switched := false, bank := bank }
        .next ((s.setFw { s.fw with activation := some a }).setNum Obj.activationState 1)

/-- CA 110 and 111; the codes that the table does not list end the same way. -/
def execFirmwareCommitInvalidAction (slot : Nat) (s : State) : Host.Outcome State Fault Refusal :=
  match commitTurn s slot [4, 5, 6, 7] with
  | some _ => .next (endAdmin s slot scInvalidField)
  | none => .next s

/-- FIRMWARE_COMMIT_DONE: the header is written last, the slot is VALID, and the commit completes. -/
def execFirmwareCommitDone (s : State) : Host.Outcome State Fault Refusal :=
  match s.fw.programming with
  | none => .next s
  | some x =>
    let s := s.setFw { s.fw with programming := none, slots := vmod s.fw.slots x.slot fun _ => ⟨x.image, 1⟩ }
    let s := if x.pend then setControl s (activeSlot s) x.slot else s
    let s := if x.activate then s.setFw { s.fw with resetActivates := true } else s
    match x.cmdSlot with
    | some n => .next (endAdmin s n scOk)
    | none => .next s

/-! ### Activation without reset (R113–R116) -/

/-- Words of `w` bytes that are not zero, by number. -/
def wordsOf (l : List Byte) (w n : Nat) : SMap Nat :=
  ((List.range n).map fun i => (i, fieldAt l (w * i) w)).filter fun e => decide (e.2 ≠ 0)

/-- The clause and phrase stores of a slot's image go into one bank of every actuator. -/
def loadStores (s : State) (slot bank : Nat) : State :=
  let img := (imageSlot s slot).bytes
  let secs := imageSections img
  s.each [0, 1, 2, 3] fun s a => s.modAct a fun x => { x with
    clauses := vmod x.clauses bank fun _ => wordsOf (slice (sectionData img secs 4) (16384 * a) 16384) 4 4096
    phrases := vmod x.phrases bank fun _ => wordsOf (slice (sectionData img secs 5) (32768 * a) 32768) 32 1024
    banksHeld := setBit x.banksHeld bank }

/-- Sentences compiled from now on use a bank. -/
def bankTo (s : State) (bank : Nat) : State := s.each (List.range 8) fun s p => s.setNum (Obj.bankCurrent p) bank

/-- ACTIVATION_STAGED (R113 steps 1, 2): the slot is re-checked, the shadow banks are loaded, and the freeze begins. DESIGN CHOICE (log 73): a
slot that fails the check completes the commit with Invalid Firmware Image. -/
def execActivationStaged (s : State) : Host.Outcome State Fault Refusal :=
  match s.fw.activation with
  | none => .next s
  | some a =>
    if a.staged then .next s
    else if !slotAccepted s a.slot then
      let s := ((s.setFw { s.fw with activation := none }).setNum Obj.activationState 0).raise 64
      match a.cmdSlot with
      | some n => .next (endAdmin s n scFirmwareImage)
      | none => .next s
    else
      let s := (activationNotice s).setFw { s.fw with activation := some { a with staged := true }, frozen := true }
      .next ((loadStores s a.slot a.bank).setNum Obj.activationState 2)

/-- The activation is over once the freeze has ended and the banks are switched. -/
def settleActivation (s : State) : State :=
  match s.fw.activation with
  | none => s
  | some a =>
    if a.unfrozen && a.switched then (s.setFw { s.fw with activation := none }).setNum Obj.activationState 0
    else if a.unfrozen then s.setNum Obj.activationState 3 else s

/-- The cores run the image of a slot, which brings its level to the dictionary (R84, R105, R115); when it is another image than the
last, DIRECTORY has its next generation. -/
def imageRuns (s : State) (slot : Nat) : State :=
  let img := (imageSlot s slot).bytes
  let s := (s.setNum Obj.runningSlot slot).setNum Obj.dictLevel (fieldAt img 24 2)
  if s.fw.coreImage = img then s
  else
    let s := s.setFw { s.fw with coreImage := img }
    { s with dict := { s.dict with gens := SMap.put s.dict.gens Obj.directory (SMap.findD s.dict.gens Obj.directory 0 + 1) } }

/-- ACTIVATION_FREEZE_END (R113 steps 3–6): all cores run the new code, ACTIVE_SLOT is recorded, fetching resumes, the new code posts the
completions of the commands in flight (R114), the commit completes;
controller resets that were held are carried out, and a controller that was enabled again becomes ready (R116). -/
def execActivationFreezeEnd (freezeUs : Nat) (s : State) : Host.Outcome State Fault Refusal :=
  match s.fw.activation with
  | none => .next s
  | some a =>
    if !a.staged || a.unfrozen then .next s
    else
      let held := s.fw.heldResets
      let s := bankTo (imageRuns (setControl s a.slot (pendingSlot s)) a.slot) a.bank
      let s := (activationResumes s).setFw { s.fw with activation := some { a with unfrozen := true }, frozen := false, heldResets := [] }
      let s := settleActivation (s.setNum Obj.lastFreezeUs (freezeUs % 2 ^ 32))
      let s := s.each [Port.a, Port.b] fun s p => s.each (s.ctrl p).cqs fun s q => postWaiting 1024 s p q.1
      let s := match a.cmdSlot with
        | some n => endAdmin s n scOk
        | none => s
      .next (s.each held fun s p => becomeReady (resetNow s p) p)

/-- ACTIVATION_BANK_SWITCH (R113 step 7): no player plays or holds a sentence of the old bank any more; it is released. -/
def execActivationBankSwitch (s : State) : Host.Outcome State Fault Refusal :=
  match s.fw.activation with
  | none => .next s
  | some a =>
    let busy := (List.range 8).any fun p =>
      (decide (s.num (Obj.loadState p) = 2) || decide (s.num (Obj.loadState p) = 3)) && decide ((s.playerOf p).header.bank ≠ a.bank)
    if !a.staged || a.switched || busy then .next s
    else
      let s := s.each [0, 1, 2, 3] fun s i => s.modAct i fun x => { x with banksHeld := 2 ^ a.bank }
      let s := s.setFw { s.fw with activation := some { a with switched := true }, bankImage := (imageSlot s a.slot).bytes }
      .next (settleActivation (bankTo s a.bank))

/-! ### Table bundle (R117, R151) -/

/-- LAST of BUNDLE_STAGE: the status, and the state. -/
def bundleAsk (s : State) (b : List Byte) : Nat × State :=
  let loaded := if s.host.namespaces.isEmpty then none else some s.fw.bundle
  if !bundleAccepted b s.fw.ownerKey (minSecurity s) (presentMask s) (s.num Obj.formatRpm) loaded then (0x05, s.raise 68)
  else if s.fw.bundleWriting.isSome then (0x06, s)
  else (0x00, s.setFw { s.fw with bundleWriting := some (b.take (bundleLen b)) })

/-- A medium without holders takes those that the rule names, and every present surface its label with the areas that the rule gives it
(R146, R147, R148). -/
def firstHolders (s : State) : State :=
  if s.media.holders[0] = 255 ∧ s.media.holders[1] = 255 then
    let (a, b) := chosenHolders s
    let s := s.setMedia { s.media with holders := #v[a, b], holderGen := 1 }
    s.each ((List.range 48).filter (present s)) fun s u => writeLabel s u fun l =>
      l.hold ([0, 1] ++ (if (partnerOf s u).isSome then [2] else []) ++ (if u = a ∨ u = b then [3, 4, 5, 6] else [])) 1
  else s

/-- A bundle copy stands on a holder, and its label names the generation (R146, R148). -/
def bundleOnto (s : State) (u : Nat) (b : List Byte) : State :=
  let gen := s.media.holderGen
  let s := s.setFw { s.fw with bundleCopies := vmod s.fw.bundleCopies u fun _ => b }
  areaWrite (writeLabel s u fun l => { l.hold [3] gen with bundleGen := bundleGen b }) u 3 b

/-- BUNDLE_WRITE_DONE: both copies are written, and their holders' labels name the generation. -/
def execBundleWriteDone (s : State) : Host.Outcome State Fault Refusal :=
  match s.fw.bundleWriting with
  | none => .next s
  | some b =>
    let s := firstHolders (s.setFw { s.fw with bundleWriting := none })
    let s := s.each (holderSurfaces s) fun s u => bundleOnto s u b
    .next (s.setNum Obj.bundlePendingGen (bundleGen b))

/-! ### Recovery image (R118) -/

/-- LAST of RECOVERY_IMAGE in MAINTENANCE or ROM_MAINTENANCE. -/
def recoveryAsk (s : State) (b : List Byte) : Nat × State :=
  if s.start.mode ≠ .maintenance ∧ s.start.mode ≠ .romMaintenance then (0x06, s)
  else if !imageAccepted b s.fw.ownerKey (minSecurity s) then (0x05, s.raise 64)
  else if s.fw.programming.isSome then (0x06, s)
  else (0x00, programSlot s
    { slot := s.num Obj.recoverySlot, image := b.take (imageLen b), pend := true, activate := false, cmdSlot := none })

/-! ### Owner key and certificate chains (R109, R124) -/

/-- Requester classes H, M, G, F, C as 0–4 (R55). -/
def clsNo : Requester → Nat
  | .portA | .portB => 0
  | .mbus => 1
  | .girth => 2
  | .factory => 3
  | .core _ => 4

/-- Who may write OWNER_KEY now. -/
def ownerKeyAllowed (s : State) (who : Requester) : Bool :=
  ((decide (lifecycle s = lcManufacture) || decide (lifecycle s = lcReturn)) && decide (clsNo who = 3)) ||
  (decide (lifecycle s = lcDeployed) && decide (clsNo who = 1) && s.fw.ownerKey.isEmpty)

/-- Every VALID slot and the loaded bundle are countersigned under a key. -/
def countersigned (s : State) (k : List Byte) : Bool :=
  ([0, 1].all fun i => !slotValid s i || ownerSigOk (sigBlock (imageSlot s i).bytes (imageLen (imageSlot s i).bytes)) k) &&
  (s.fw.bundle.isEmpty || ownerSigOk (sigBlock s.fw.bundle (bundleLen s.fw.bundle)) k)

/-- LAST of OWNER_KEY. -/
def ownerKeyAsk (s : State) (k : List Byte) : Nat × State :=
  if k.isEmpty ∨ (k.length = 1952 ∧ countersigned s k) then
    (0x00, (s.setFw { s.fw with ownerKey := k }).setNum Obj.ownerKeyState (if k.isEmpty then 0 else 1))
  else (0x05, s.raise 73)

/-- Who may write a certificate chain now. -/
def chainAllowed (s : State) (who : Requester) (i : Nat) : Bool :=
  if i = 0 then decide (lifecycle s = lcManufacture) || decide (lifecycle s = lcReturn)
  else decide (clsNo who = 3) || (decide (clsNo who = 1) && decide (lifecycle s = lcDeployed))

def chainKey (i : Nat) : Key := if i = 0 then Obj.certChain0 else Obj.certChain1
def chainOf (s : State) (i : Nat) : List Byte := s.str (chainKey i)
def pubkeyOf (s : State) : List Byte := if s.fw.identity then Config.devicePubkey else []

/-- LAST of a certificate chain. -/
def chainAsk (s : State) (i : Nat) (b : List Byte) : Nat × State :=
  if b.length ≤ 16384 ∧ Config.leafHolds b (pubkeyOf s) then (0x00, s.setStr (chainKey i) b) else (0x05, s)

/-! ### Crypto erase (R128, R129) -/

/-- The erase of one namespace: its cached data, journal entries, allocation and lost ranges go, a new key pair replaces the old one, and
the format that Format NVM asked for applies. -/
def eraseNamespace (s : State) (ns : Namespace) : State :=
  let s := discardNamespace s ns
  let n := ns.nsid
  let s := match SMap.find s.fw.formats n with
    | some (f, p) => s.setHost { s.host with
        namespaces := SMap.mod s.host.namespaces n fun x => { x with lbaFormat := f, piType := p } }
    | none => s
  let s := namespaceChanged s n ([Port.a, Port.b].filter (attachedTo ns))
  let s := s.setFw { s.fw with
    nsKeys := SMap.put s.fw.nsKeys n (SMap.findD s.fw.nsKeys n 0 + 1), erasing := s.fw.erasing.filter (· ≠ n)
    formats := SMap.erase s.fw.formats n }
  descriptorUpdate (s.bump (Obj.nsKeyGen n))

/-- Format NVM commands that wait for no further erase complete. -/
def settleFormats (s : State) : State :=
  let waiting := (s.host.slots.filter fun e =>
    !e.2.io && decide (e.2.cmd.opcode = 0x80) && e.2.started && !e.2.released &&
    (if e.2.cmd.nsid = 0xFFFFFFFF then s.fw.erasing.isEmpty else !s.fw.erasing.contains e.2.cmd.nsid)).map (·.1)
  let s := s.each waiting fun s n => endAdmin s n scOk
  if s.fw.erasing.isEmpty ∧ s.host.sanitize = 2 then s.setHost { s.host with sanitize := 1 } else s

/-- Erases begin: the namespaces' fetches are held. -/
def eraseBegin (s : State) (l : List Nat) : State := s.setFw { s.fw with erasing := l.foldl nset s.fw.erasing }

/-- SANITIZE: crypto erase acts on every namespace; the command completes as the erase begins (base specification). -/
def execSanitize (slot : Nat) (action : SanitizeAction) (s : State) : Host.Outcome State Fault Refusal :=
  match adminCmd s slot 0x84 with
  | none => .next s
  | some c =>
    let act := match action with
      | .blockErase => 2
      | .overwrite => 3
      | .cryptoErase => 4
    if c.cmd.cdw10 % 8 ≠ act then .next s
    else if act ≠ 4 then .next (endAdmin s slot scInvalidField)
    else if !normalMode s then .next (endAdmin s slot scSequenceError)
    else if !s.fw.erasing.isEmpty then .next (endAdmin s slot scSanitizeInProgress)
    else .next (endAdmin (settleFormats ((eraseBegin s (SMap.keys s.host.namespaces)).setHost { s.host with sanitize := 2 })) slot scOk)

/-- FORMAT_NVM: every Secure Erase Setting is carried out as a crypto erase; the command completes with it. -/
def execFormatNvm (slot : Nat) (s : State) : Host.Outcome State Fault Refusal :=
  match adminCmd s slot 0x80 with
  | none => .next s
  | some c =>
    let f := c.cmd.cdw10 % 16
    let p := fld c.cmd.cdw10 7 5
    let l := if c.cmd.nsid = 0xFFFFFFFF then SMap.keys s.host.namespaces else [c.cmd.nsid]
    if c.started then .next s
    else if !normalMode s then .next (endAdmin s slot scSequenceError)
    else if 1 < f then .next (endAdmin s slot scInvalidFormat)
    else if (f = 0 ∧ p ≠ 0) ∨ (f = 1 ∧ p ≠ 1 ∧ p ≠ 3) ∨ 2 < fld c.cmd.cdw10 11 9 ∨ (f = 1 ∧ !bit c.cmd.cdw10 4) then
      .next (endAdmin s slot scInvalidField)
    else if c.cmd.nsid ≠ 0xFFFFFFFF ∧ (nsOf s c.cmd.nsid).isNone then .next (endAdmin s slot scInvalidNamespace)
    else if l.any fun n => s.fw.erasing.contains n then .next (endAdmin s slot scSanitizeInProgress)
    else
      let s := eraseBegin (putSlot s slot { c with started := true }) l
      let s := s.setFw { s.fw with formats := l.foldl (fun m n => SMap.put m n (f, p)) s.fw.formats }
      .next (settleFormats s)

/-- The transition to RETURN takes place once every namespace is erased (R120, R129). -/
def settleReturn (s : State) : State :=
  if s.fw.returning ∧ s.fw.erasing.isEmpty then
    restart (s.setFw { s.fw with returning := false, dep := true, lifecycleRecord := some 3 }) false
  else s

/-- CRYPTO_ERASE_DONE: once the commands admitted for the namespace have completed. -/
def execCryptoEraseDone (ns : Nat) (s : State) : Host.Outcome State Fault Refusal :=
  let admitted := s.host.slots.any fun e => e.2.io && !e.2.released && decide (e.2.cmd.nsid = ns)
  if !s.fw.erasing.contains ns || admitted then .next s
  else
    let s := match nsOf s ns with
      | some x => eraseNamespace s x
      | none => s.setFw { s.fw with erasing := s.fw.erasing.filter (· ≠ ns) }
    .next (settleReturn (settleDrain (settleFormats s)))

/-- Erases that a power loss cut short are finished by the next start (R129). -/
def finishErases (s : State) : State :=
  settleFormats (s.each s.fw.erasing fun s n => match nsOf s n with
    | some x => eraseNamespace s x
    | none => s.setFw { s.fw with erasing := s.fw.erasing.filter (· ≠ n) })

/-! ### Lifecycle transitions (R120, R122, R123) -/

/-- Target, from, class: a row of the table. -/
def transitionAllowed (s : State) (cls target : Nat) : Bool :=
  match lifecycle s, target with
  | 1, 2 => decide (cls = 3)
  | 2, 3 => decide (cls = 1)
  | 3, 2 => decide (cls = 3)
  | 2, 4 => decide (cls = 1)
  | 3, 4 => decide (cls = 3) || decide (cls = 1)
  | _, _ => false

/-- A target that the current state allows to some requester, its preconditions met. -/
def targetAllowed (s : State) (target : Nat) : Bool :=
  (transitionAllowed s 1 target || transitionAllowed s 3 target) &&
  (decide (lifecycle s ≠ lcManufacture) || (s.fw.identity && !(chainOf s 0).isEmpty && !(s.str Obj.driveModel).isEmpty &&
    !(s.str Obj.driveSerial).isEmpty && slotValid s (activeSlot s)))

/-- SCRAPPED: the key store is destroyed and the sealed key area erased. -/
def scrap (s : State) : State :=
  let s := s.setFw { s.fw with
    destroyed := true, identity := false, lifecycleRecord := none, ownerKey := [], nsKeys := [], erasing := [], formats := [], returning := false }
  let s := { s with objs := s.objs.filter fun e => !(decide (0x124100 ≤ e.1) && decide (e.1 < 0x126100)) }
  (s.setNum Obj.ownerKeyState 0).setHost { s.host with namespaces := [] }

/-- The transition with its restart (R100, R120). DEPLOYED to RETURN is first a crypto erase of every namespace, in the order of R129; a
reset before its end leaves the state DEPLOYED (DESIGN CHOICE, log 84). -/
def transition (s : State) (target : Nat) : State :=
  if target = lcScrapped then restart (scrap s) false
  else if lifecycle s = lcDeployed then
    let s := eraseBegin s (SMap.keys s.host.namespaces)
    settleReturn (s.setFw { s.fw with returning := true })
  else restart (s.setFw { s.fw with dep := true, lifecycleRecord := some target }) false

/-- A write of LIFECYCLE_REQUEST after check 4: another class than the one that read the nonce, a class the table does not name, or a
stale or wrong nonce gives 0x05. -/
def lifecycleAsk (s : State) (who : Requester) (b : List Byte) : Nat × State :=
  let good := match s.fw.nonce with
    | some (r, n) => decide (clsNo r = clsNo who) && decide (fieldAt b 4 4 = n)
    | none => false
  if !good || decide (fieldAt b 1 3 ≠ 0) || !transitionAllowed s (clsNo who) (byteAt b 0) then (0x05, s)
  else (0x00, transition (s.setFw { s.fw with nonce := none }) (byteAt b 0))

/-- A read of LIFECYCLE_NONCE: a new random value, which nothing fixes (log entry 1). -/
def nonceRead (s : State) (who : Requester) : Nat × State :=
  let v := s.draw.1 % 2 ^ 32
  (v, (s.draw.2).setFw { s.fw with nonce := some (who, v), nonceCount := s.fw.nonceCount + 1 })

/-- LIFECYCLE_NONCE_EXPIRE. -/
def execLifecycleNonceExpire (s : State) : Host.Outcome State Fault Refusal := .next (s.setFw { s.fw with nonce := none })

/-- TAP_INSTRUCTION (R121): in DEPLOYED and SCRAPPED all but BYPASS and IDCODE are ignored; Osmizon's package test programs MFG. -/
def execTapInstruction (i : TapInstr) (s : State) : Host.Outcome State Fault Refusal :=
  if scanLocked s && decide (i ≠ .bypass) && decide (i ≠ .idcode) then .next s
  else match i with
    | .programMfg => .next (s.setFw { s.fw with mfg := true })
    | _ => .next (s.emit (.tap i))

/-! ### SPDM (R125, R126) -/

def spdmIx : SpdmPort → Nat
  | .mctp => 0
  | .nvme .a => 1
  | .nvme .b => 2

/-- The responder answers: the security core runs (R92). -/
def spdmServes (s : State) : Bool := mainPowered s && !s.start.inReset && bit s.start.passedSteps 9

/-- A response leaves over MCTP, or waits for Security Receive. -/
def spdmSend (s : State) (via : SpdmPort) (msg : List Byte) : State := match via with
  | .mctp => s.emit (.spdm via (byteAt msg 1) msg)
  | .nvme _ => s.setFw { s.fw with spdmWaiting := vmod s.fw.spdmWaiting (spdmIx via) fun _ => msg }

/-- An SPDM message. -/
def spdmMsg (code p1 p2 : Nat) (rest : List Byte) : List Byte :=
  [0x12, BitVec.ofNat 8 code, BitVec.ofNat 8 p1, BitVec.ofNat 8 p2] ++ rest

/-- An ERROR response. -/
def spdmError (s : State) (via : SpdmPort) (code : Nat) : State := spdmSend s via (spdmMsg 0x7F code 0 [])

/-- The message-to-be-signed of SPDM 1.2 over a transcript, hashed with SHA3-512, and the signature over its SHAKE256 output. -/
def spdmSign (context : List Byte) (transcript : List Byte) : List Byte :=
  let version : List Byte := [0x64, 0x6D, 0x74, 0x66, 0x2D, 0x73, 0x70, 0x64, 0x6D, 0x2D, 0x76, 0x31, 0x2E, 0x32, 0x2E, 0x2A]
  let pfx := version ++ version ++ version ++ version ++ List.replicate (36 - context.length) 0 ++ context
  Config.deviceSign (Config.shake256 (pfx ++ (Config.sha3_512 transcript).toList) 64).toList

/-- "responder-challenge_auth signing" and "responder-measurements signing". -/
def spdmContext : List Byte := [0x72, 0x65, 0x73, 0x70, 0x6F, 0x6E, 0x64, 0x65, 0x72, 0x2D]
def spdmSigning : List Byte := [0x20, 0x73, 0x69, 0x67, 0x6E, 0x69, 0x6E, 0x67]
def challengeContext : List Byte :=
  spdmContext ++ [0x63, 0x68, 0x61, 0x6C, 0x6C, 0x65, 0x6E, 0x67, 0x65, 0x5F, 0x61, 0x75, 0x74, 0x68] ++ spdmSigning
def measureContext : List Byte :=
  spdmContext ++ [0x6D, 0x65, 0x61, 0x73, 0x75, 0x72, 0x65, 0x6D, 0x65, 0x6E, 0x74, 0x73] ++ spdmSigning

def addVca (s : State) (via : SpdmPort) (b : List Byte) : State :=
  s.setFw { s.fw with spdmVca := vmod s.fw.spdmVca (spdmIx via) (· ++ b) }
def addChal (s : State) (via : SpdmPort) (b : List Byte) : State :=
  s.setFw { s.fw with spdmChal := vmod s.fw.spdmChal (spdmIx via) (· ++ b) }
def setMeas (s : State) (via : SpdmPort) (b : List Byte) : State :=
  s.setFw { s.fw with spdmMeas := vmod s.fw.spdmMeas (spdmIx via) fun _ => b }

/-- A request after the algorithms: refused in SCRAPPED, out of order before they are negotiated. -/
def spdmReady (s : State) (via : SpdmPort) : Option Nat :=
  if lifecycle s = lcScrapped then some 0x05
  else if vget s.fw.spdmAlgs (spdmIx via) false then none else some 0x04

/-- SPDM_GET_VERSION: version 1.2; the exchange starts again. The transcripts hold the requests as they were sent. -/
def spdmVersion (s : State) (via : SpdmPort) (request : List Byte) : State :=
  let msg : List Byte := [0x10, 0x04, 0, 0, 0, 1, 0x00, 0x12]
  let s := s.setFw { s.fw with
    spdmAlgs := vmod s.fw.spdmAlgs (spdmIx via) fun _ => false, spdmVca := vmod s.fw.spdmVca (spdmIx via) fun _ => request ++ msg
    spdmChal := vmod s.fw.spdmChal (spdmIx via) fun _ => [], spdmMeas := vmod s.fw.spdmMeas (spdmIx via) fun _ => [] }
  spdmSend s via msg

/-- SPDM_GET_CAPABILITIES: CERT_CAP, CHAL_CAP and signed MEAS_CAP; timing exponent and sizes are free (log entry 1). -/
def spdmCapabilities (s : State) (via : SpdmPort) (request : List Byte) : State :=
  let (v, s) := s.draw
  let msg := spdmMsg 0x61 0 0 ([0, BitVec.ofNat 8 v, 0, 0] ++ leBytes 4 0x16 ++ leBytes 8 (v / 256))
  spdmSend (addVca s via (request ++ msg)) via msg

/-- SPDM_NEGOTIATE_ALGORITHMS: SHA3-512, no base asymmetric algorithm, ML-DSA-65 as an external entry under Osmizon's number, measurements
as raw bit streams. -/
def spdmAlgorithms (s : State) (via : SpdmPort) (request : List Byte) : State :=
  let body := leBytes 2 44 ++ [1, 0] ++ leBytes 4 1 ++ leBytes 4 0 ++ leBytes 4 0x20 ++ List.replicate 12 0 ++ [1, 0, 0, 0] ++
    [4, 0] ++ leBytes 2 1 ++ leBytes 4 (s.num Obj.ianaPen)
  let msg := spdmMsg 0x63 0 0 body
  let s := s.setFw { s.fw with spdmAlgs := vmod s.fw.spdmAlgs (spdmIx via) fun _ => true }
  spdmSend (addVca s via (request ++ msg)) via msg

/-- Chains that are installed, as a mask. -/
def chainMask (s : State) : Nat := bits ([0, 1].map fun i => !(chainOf s i).isEmpty)
def chainHash (s : State) (i : Nat) : List Byte := (Config.sha3_512 (chainOf s i)).toList

def spdmDigests (s : State) (via : SpdmPort) (request : List Byte) : State :=
  let msg := spdmMsg 0x01 0 (chainMask s) (([0, 1].filter fun i => bit (chainMask s) i).flatMap (chainHash s))
  spdmSend (addChal s via (request ++ msg)) via msg

def spdmCertificate (s : State) (via : SpdmPort) (slot offset len : Nat) (request : List Byte) : State :=
  let c := chainOf s slot
  if 1 < slot ∨ c.length ≤ offset then spdmError s via 0x01
  else
    let part := slice c offset (min len 65535)
    let msg := spdmMsg 0x02 slot 0 (leBytes 2 part.length ++ leBytes 2 (c.length - offset - part.length) ++ part)
    spdmSend (addChal s via (request ++ msg)) via msg

/-- The digest of one measurement block (R126): of the images that the cores, the banks and the rein engines run. DESIGN CHOICE (log 75):
block 6 hashes the lifecycle state, the lock and OWNER_KEY in that order, a byte for each of the first two; while no rein programs have been
taken up, block 4 hashes the empty string. -/
def measurement (s : State) (i : Nat) : List Byte :=
  let sections (img : List Byte) (l : List Nat) : List Byte := l.flatMap (sectionData img (imageSections img))
  let data := match i with
    | 1 => (List.range 262144).map Config.bootRom
    | 2 => sections s.fw.coreImage [1, 2, 3]
    | 3 => sections s.fw.bankImage [4, 5]
    | 4 => sections s.fw.reinImage [6, 7]
    | 5 => s.fw.bundle
    | _ => [BitVec.ofNat 8 (lifecycle s), if scanLocked s then 1 else 0] ++ s.fw.ownerKey
  (Config.shake256 data 64).toList

/-- A block in the measurement format of SPDM 1.2: index, DMTF, size, raw bit stream. -/
def measurementBlock (s : State) (i : Nat) : List Byte :=
  [BitVec.ofNat 8 i, 1] ++ leBytes 2 67 ++ [0x80] ++ leBytes 2 64 ++ measurement s i

/-- The measurement summary hash that a CHALLENGE asks for: none, of the blocks of the trusted computing base, of all. DESIGN CHOICE (log 75):
every block of R126 belongs to that base. -/
def measurementSummary (s : State) (hashType : Nat) : List Byte :=
  if hashType = 0 then [] else (Config.sha3_512 ([1, 2, 3, 4, 5, 6].flatMap (measurementBlock s))).toList

/-- SPDM_CHALLENGE: CHALLENGE_AUTH with the chain's digest, a nonce, the measurement summary asked for, and the signature. -/
def spdmChallenge (s : State) (via : SpdmPort) (slot hashType : Nat) (request : List Byte) : State :=
  if 1 < slot ∨ (chainOf s slot).isEmpty ∨ hashType ∉ [0, 1, 0xFF] then spdmError s via 0x01
  else
    let (v, s) := s.draw
    let msg := spdmMsg 0x03 slot (2 ^ slot) (chainHash s slot ++ leBytes 32 v ++ measurementSummary s hashType ++ leBytes 2 0)
    let m := vget s.fw.spdmVca (spdmIx via) [] ++ vget s.fw.spdmChal (spdmIx via) [] ++ request ++ msg
    spdmSend (s.setFw { s.fw with spdmChal := vmod s.fw.spdmChal (spdmIx via) fun _ => [] }) via (msg ++ spdmSign challengeContext m)

/-- SPDM_GET_MEASUREMENTS: index 0 asks for the number of blocks, 0xFF for all. A signed answer is for a slot with a chain, and names it. -/
def spdmMeasurements (s : State) (via : SpdmPort) (index : Nat) (signed : Bool) (slot : Nat) (request : List Byte) : State :=
  if (6 < index ∧ index ≠ 0xFF) ∨ (signed ∧ (1 < slot ∨ (chainOf s slot).isEmpty)) then spdmError s via 0x01
  else
    let l := if index = 0 then [] else if index = 0xFF then [1, 2, 3, 4, 5, 6] else [index]
    let blocks := l.flatMap (measurementBlock s)
    let (v, s) := s.draw
    let msg := spdmMsg 0x60 (if index = 0 then 6 else 0) (if signed then slot else 0)
      ([BitVec.ofNat 8 l.length] ++ leBytes 3 blocks.length ++ blocks ++ leBytes 32 v ++ leBytes 2 0)
    let m := vget s.fw.spdmMeas (spdmIx via) [] ++ request ++ msg
    if signed then
      spdmSend (setMeas s via []) via (msg ++ spdmSign measureContext (vget s.fw.spdmVca (spdmIx via) [] ++ m))
    else spdmSend (setMeas s via m) via msg

/-- A request that needs the algorithms. -/
def spdmAfter (s : State) (via : SpdmPort) (f : State → State) : State := match spdmReady s via with
  | some e => spdmError s via e
  | none => f s

/-- SPDM_UNSUPPORTED. -/
def spdmRefuse (s : State) (via : SpdmPort) : State := spdmError s via (if lifecycle s = lcScrapped then 0x05 else 0x07)

def execSpdmGetVersion (via : SpdmPort) (s : State) : Host.Outcome State Fault Refusal :=
  .next (if spdmServes s then spdmVersion s via [0x10, 0x84, 0, 0] else s)

def execSpdmGetCapabilities (via : SpdmPort) (request : Bytes) (s : State) : Host.Outcome State Fault Refusal :=
  .next (if spdmServes s then spdmCapabilities s via request else s)

def execSpdmNegotiateAlgorithms (via : SpdmPort) (request : Bytes) (s : State) : Host.Outcome State Fault Refusal :=
  .next (if spdmServes s then spdmAlgorithms s via request else s)

def execSpdmGetDigests (via : SpdmPort) (s : State) : Host.Outcome State Fault Refusal :=
  .next (if spdmServes s then spdmAfter s via fun s => spdmDigests s via (spdmMsg 0x81 0 0 []) else s)

def execSpdmGetCertificate (via : SpdmPort) (slot offset len : Nat) (s : State) : Host.Outcome State Fault Refusal :=
  .next (if spdmServes s then spdmAfter s via fun s =>
    spdmCertificate s via (slot % 16) offset len (spdmMsg 0x82 slot 0 (leBytes 2 offset ++ leBytes 2 len)) else s)

def execSpdmChallenge (via : SpdmPort) (slot hashType : Nat) (nonce : Bytes) (s : State) : Host.Outcome State Fault Refusal :=
  .next (if spdmServes s then spdmAfter s via fun s =>
    spdmChallenge s via (slot % 16) (hashType % 256) (spdmMsg 0x83 slot hashType nonce) else s)

def execSpdmGetMeasurements (via : SpdmPort) (attributes index slotId : Nat) (nonce : Bytes) (s : State) :
    Host.Outcome State Fault Refusal :=
  .next (if spdmServes s then spdmAfter s via fun s =>
    spdmMeasurements s via (index % 256) (bit attributes 0) (slotId % 16)
      (spdmMsg 0xE0 attributes index (if bit attributes 0 then nonce ++ [BitVec.ofNat 8 slotId] else [])) else s)

def execSpdmUnsupported (via : SpdmPort) (_req : SpdmUnsupported) (s : State) : Host.Outcome State Fault Refusal :=
  .next (if spdmServes s then spdmRefuse s via else s)

/-- An SPDM request as bytes, by the request codes of SPDM 1.2. -/
def spdmRequest (s : State) (via : SpdmPort) (b : List Byte) : State :=
  match byteAt b 1 with
  | 0x84 => spdmVersion s via (b.take 4)
  | 0xE1 => spdmCapabilities s via (b.take 20)
  | 0xE3 => spdmAlgorithms s via (b.take (fieldAt b 4 2))
  | 0x81 => spdmAfter s via fun s => spdmDigests s via (b.take 4)
  | 0x82 => spdmAfter s via fun s => spdmCertificate s via (byteAt b 2 % 16) (fieldAt b 4 2) (fieldAt b 6 2) (b.take 8)
  | 0x83 => spdmAfter s via fun s => spdmChallenge s via (byteAt b 2 % 16) (byteAt b 3) (b.take 36)
  | 0xE0 => spdmAfter s via fun s => spdmMeasurements s via (byteAt b 3) (bit (byteAt b 2) 0)
      (byteAt b 36 % 16) (b.take (if bit (byteAt b 2) 0 then 37 else 4))
  | _ => spdmRefuse s via

/-- SECURITY_SEND (R125, R335): protocol 0xE8 carries an SPDM request. -/
def execSecuritySend (slot : Nat) (data : Bytes) (s : State) : Host.Outcome State Fault Refusal :=
  match adminCmd s slot 0x81 with
  | none => .next s
  | some c =>
    if c.cmd.cdw10 / 2 ^ 24 % 256 ≠ 0xE8 then .next (endAdmin s slot scInvalidField)
    else .next (endAdmin (spdmRequest s (.nvme c.port) data) slot scOk)

/-- SECURITY_RECEIVE: the response that waits; protocol 0 lists the protocols. -/
def execSecurityReceive (slot : Nat) (s : State) : Host.Outcome State Fault Refusal :=
  match adminCmd s slot 0x82 with
  | none => .next s
  | some c =>
    let via : SpdmPort := .nvme c.port
    let secp := c.cmd.cdw10 / 2 ^ 24 % 256
    if secp = 0 then .next (endData s slot c (([0, 0, 0, 0, 0, 0, 0, 2, 0x00, 0xE8] : List Byte).take c.cmd.cdw11))
    else if secp ≠ 0xE8 then .next (endAdmin s slot scInvalidField)
    else
      let b := vget s.fw.spdmWaiting (spdmIx via) []
      let s := s.setFw { s.fw with spdmWaiting := vmod s.fw.spdmWaiting (spdmIx via) fun _ => [] }
      .next (endData s slot c (b.take c.cmd.cdw11))

end Sys2Proof.Machine
end

