-- ==== Sys2Proof/Machine/Ranges.lean ====
section
/-!
DEFINITION. The range check of a value against its object (R54, R56 check 7), as far as it asks for the value alone and for other
objects. The start step "core release" applies it to stored values too (R62).
-/

namespace Sys2Proof.Machine

/-- A Q32 is well formed: a shift of at most 31 and bytes 5–7 zero (R54). -/
def q32Ok (n : Nat) : Bool := decide (n / 2 ^ 32 ≤ 31)

/-- Its exact value lies between lo and hi ten-thousandths. -/
def q32Within (n lo hi : Nat) : Bool :=
  let m := toSigned 32 (n % 2 ^ 32) * 10000
  let one : Int := (2 ^ 31 * 2 ^ (n / 2 ^ 32 % 32) : Nat)
  decide ((lo : Int) * one ≤ m) && decide (m ≤ (hi : Int) * one)

/-- The scalar `n` of a type is within a row's range. -/
def Rng.ok (r : Rng) (t : Typ) (n : Nat) : Bool :=
  match r with
  | .any => true
  | .between lo hi => decide (lo ≤ n) && decide (n ≤ hi)
  | .signed lo hi => decide (lo ≤ toSigned (8 * t.size) n) && decide (toSigned (8 * t.size) n ≤ hi)
  | .mask m => decide (n &&& m = n)
  | .maskNonzero m => decide (n &&& m = n) && decide (n ≠ 0)
  | .zeroOr lo hi => decide (n = 0) || (decide (lo ≤ n) && decide (n ≤ hi))
  | .orAbsent lo hi x => decide (n = x) || (decide (lo ≤ n) && decide (n ≤ hi))
  | .aligned k => decide (n % k = 0)
  | .bytesWithin m => (List.range 4).all fun i => decide (n / 256 ^ i % 256 ≤ m)
  | .q32 lo hi => q32Within n lo hi

/-- A scalar fits its type and its row's range. -/
def scalarOk (r : ObjRow) (n : Nat) : Bool :=
  (match r.typ with
   | .bool => decide (n ≤ 1)
   | .q32 => q32Ok n
   | t => decide (n < 2 ^ (8 * t.size))) && r.rng.ok r.typ n

/-- Printable ASCII (R54). -/
def asciiOk (b : List Byte) : Bool := b.all fun x => decide (0x20 ≤ x.toNat) && decide (x.toNat ≤ 0x7E)

/-- EQ_PRESETS (R158): 64 records, every tap within −1,024 to +1,023. -/
def eqPresetsOk (b : List Byte) : Bool :=
  decide (b.length = 32768) && (List.range 64).all fun n => (List.range 240).all fun i =>
    let t := toSigned 16 (fieldAt b (512 * n + 2 * i) 2)
    decide (-1024 ≤ t) && decide (t ≤ 1023)

/-- NP_SETS (R217): 64 records of 256 bytes; no variance is 0. -/
def npSetsOk (b : List Byte) : Bool :=
  decide (b.length = 16384) && (List.range 2048).all fun i => decide (fieldAt b (8 * i + 6) 2 ≠ 0)

/-- Keys of one object for each of four actuators, 0x100 indices apart. -/
def isActKey (f : Nat → Key) (k : Key) : Bool := (List.range 4).any fun a => decide (f a = k)

/-- The bytes of a REC or BLOB are in range, as far as they are stored. -/
def bytesOk (s : State) (k : Key) (b : List Byte) : Bool :=
  if isActKey Obj.eqPresets k then eqPresetsOk b
  else if (List.range 4).any fun a => decide (Obj.npSets a = k) then npSetsOk b
  else if k = Obj.l4Offsets then b.all fun x => decide (x.toInt.natAbs ≤ 8)
  else if 0x710000 ≤ k ∧ k < 0x710000 + 1152 then sourceEntryOk s (k - 0x710000) b
  else true

/-- LATCH_POS_NS + 500 + LATCH_OUTER_NS does not exceed 13,000 (R260). -/
def latchOk (s : State) (k : Key) (n : Nat) : Bool := (List.range 5).all fun g =>
  if k = Obj.latchPosNs g then decide (n + 500 + s.num (Obj.latchOuterNs g) ≤ 13000)
  else if k = Obj.latchOuterNs g then decide (s.num (Obj.latchPosNs g) + 500 + n ≤ 13000)
  else true

/-- A value is within its object's range. -/
def valueOk (s : State) (k : Key) (v : Val) : Bool :=
  match findRow k, v with
  | none, _ => false
  | some r, .num n => r.typ.scalar && scalarOk r n && latchOk s k n
  | some r, .bytes b => match r.typ with
    | .str => decide (b.length ≤ r.len) && asciiOk b
    | .record => decide (b.length = r.len) && bytesOk s k b
    | .blob => bytesOk s k b
    | _ => false

end Sys2Proof.Machine
end

