-- ==== Sys2Proof/Machine/Start.lean ====
section
/-!
DEFINITION. The start sequence: attempts, the twenty steps with their alternatives, MAINTENANCE, and host ready (R85–R102, and what the
chapters say of each step).
-/

namespace Sys2Proof.Machine

def State.setDict (s : State) (d : DictSvc) : State := { s with dict := d }

/-! ### Attempts (R85–R88, R96–R98) -/

/-- The record of an attempt that begins (R96, R97). -/
def newRecord (s : State) : StartRecord where
  seq := ((s.start.ledger.getLast?).map (·.seq)).getD 0 + 1
  powerOnCount := s.num Obj.powerOnCount
  attempt := if s.start.maintenance then 0 else min 3 (s.num Obj.failedStarts + 1)
  imageSlot := none
  failedStep := none
  endCode := none
  results := .replicate 20 0xF
  failDetail := none
  elapsedMs := none
  degraded := none
  imageVersion := none
  bundleGen := none
  mark := false

/-- "Feed check" begins: ALT_FORCE is read and cleared, the record is created. -/
def attemptStart (s : State) : State :=
  let l := s.start.ledger ++ [newRecord s]
  let s := s.setStart { s.start with
    running := true, inReset := false, step := 1, passedSteps := 0, altSteps := 0, restartAsked := false
    forced := 2 * s.num Obj.altForce, ledger := l.drop (l.length - 256) }
  let s := (s.setNum Obj.altForce 0).setNum Obj.degraded 0
  s.setNum Obj.attempt (min 3 (s.num Obj.failedStarts + 1))

/-- A sequence that RESTART begins (R100): FAILED_STARTS = 0, no history, its own time; it runs as a MAINTENANCE start when that was asked,
and always in SCRAPPED (R122). -/
def restartSequence (s : State) : State :=
  let s := freshSequence s
  let maint := s.start.restartMaintenance
  let s := (s.setStart { s.start with
    mode := .starting, maintenance := false, restartMaintenance := false, history := 0, interruptedAt := 0, tick0 := s.tick }).setNum
      Obj.failedStarts 0
  if maint then maintenanceEntry s else s

/-- ATTEMPT_BEGIN (R85): at power-good, after the rails come up again, after a RESTART has taken effect, after a failed attempt. -/
def execAttemptBegin (cause : AttemptCause) (s : State) : Host.Outcome State Fault Refusal :=
  let idle := mainPowered s && !s.start.running && s.power.off.isNone
  let scrapped (s : State) : State := if lifecycle s = lcScrapped ∧ !s.start.maintenance then maintenanceEntry s else s
  match cause with
  | .powerGood | .railCycle =>
    if idle && decide (s.start.mode = .starting) && !s.start.inReset && !s.start.restartAsked then
      let c := s.num Obj.lastResetCause
      let s := attemptStart (scrapped s)
      .next (if c = 3 ∨ c = 4 then s.raise 4 0 c else s)
    else .next s
  | .afterFailure =>
    if idle && decide (s.start.mode = .starting) && s.start.inReset && !s.start.restartAsked then .next (attemptStart (scrapped s))
    else .next s
  | .restart =>
    if idle && s.start.restartAsked && decide (s.start.mode ≠ .halted) && s.start.inReset then
      .next (attemptStart (scrapped (restartSequence s)))
    else .next s

/-! ### Units at a start (R80, R135) -/

/-- The STATE of a unit is decided (R80): RETIRED stays; found faulty it is FENCED; otherwise by ENABLE. -/
def decideUnit (s : State) (st en : Key) (faulty : Bool) : State :=
  if s.num st = stRetired then s
  else s.setNum st (if faulty then stFenced else if s.num en = 0 then stQuiesced else stRunning)

/-- An alternative leaves an actuator out (R89): FENCED, its surfaces failed members, an event from one of its sources. -/
def leaveOut (s : State) (a k : Nat) : State :=
  (surfacesFail ((setDegraded s a true).setNum (Obj.actuatorState a) stFenced) a).raiseAct a k 0 a

/-- Actuators of a mask that a start brings up. -/
def faultyActs (s : State) (mask : Nat) : List Nat := (startActs s).filter (bit mask)

/-! ### Steps 3 to 9 -/

/-- "Image select" chooses (R104): PENDING_SLOT when it is set, otherwise ACTIVE_SLOT; a sequence that has failed here keeps its choice. -/
def chooseSlot (s : State) : State :=
  if bit s.start.history 4 || bit s.start.history 5 then s
  else
    let pend := pendingSlot s
    s.setFw { s.fw with chosenSlot := if pend < 2 then pend else activeSlot s, chosenPending := decide (pend < 2) }

/-- Repairs of the fuse-map shadow that "fuse map and SRAM repair" applies (R95): a shadow that fails its CRC is ignored, and one that
conflicts with a fuse repair gives way to it. DEDUCED (log 68): a conflict is a repair of the same row, or of the same column group, of the
same macro. -/
def shadowBase (s : State) (found : StepFindings) : List Repair :=
  if found.shadowBad then [] else s.start.shadow.filter fun r => !s.start.fuseRepairs.contains r

/-- Spares of a macro for rows, or for column groups, that fuse and shadow repairs use, and those there are (R95). -/
def sparesUsed (s : State) (shadow : List Repair) (r : Repair) : Nat :=
  ((s.start.fuseRepairs ++ shadow).filter fun x => decide (x.macroNo = r.macroNo) && decide (x.column = r.column)).length
def sparesThere (r : Repair) : Nat := if r.column then Config.macroSpareColumns r.macroNo else Config.macroSpares r.macroNo

/-- A failing row or column is repaired while its macro has a free spare of its kind. -/
def repairFound (s : State) (l : List Repair) (r : Repair) : List Repair :=
  if s.start.fuseRepairs.contains r || l.contains r then l
  else if sparesUsed s l r < sparesThere r then l ++ [r] else l

/-- The repair entries that the start can switch in: a shadow entry beyond its macro's spares finds none free (R439). -/
def repairedShadow (s : State) (found : StepFindings) : List Repair :=
  (shadowBase s found ++ found.repairs).foldl (repairFound s) []

/-- Macros whose failures exceed their spares (R95, R439). -/
def badMacros (s : State) (found : StepFindings) : List Nat :=
  (((shadowBase s found ++ found.repairs).filter fun r => !s.start.fuseRepairs.contains r && !(repairedShadow s found).contains r).map
    (·.macroNo)).dedup

/-- Source ids of the units that own unrepairable macros. -/
def unrepairable (s : State) (found : StepFindings) : List Nat := found.failedUnits ++ (badMacros s found).map Config.macroUnit

/-- A fuse word has good parity in neither copy (R94). -/
def fuseWordLost (found : StepFindings) : Bool := found.fuseBadA.any fun w => found.fuseBadB.contains w

/-- "Fuse map and SRAM repair" passes (R95): the shadow is rewritten. -/
def repairsDone (s : State) (found : StepFindings) : State := s.setStart { s.start with shadow := repairedShadow s found }

/-- "Zero-fill init" (R91, R428, R429): every page unwritten, the retired pages of the newest store copy substituted in list order. -/
def zeroFillInit (s : State) (alt : Bool) : State :=
  let b := if alt then [] else ((SMap.find (storedValues s) Obj.retiredPages).map Val.toBytes).getD []
  let s := s.setStr Obj.retiredPages b
  let l := retiredPageList s
  let s := s.setMem { s.mem with
    dram := [], poison := [], written := [], errors := [], filter := [], copying := [], zeroing := none
    substituted := (l.filter deviceOwned).foldl (fun m p => match freeSpare { s.mem with substituted := m } with
      | some i => SMap.put m p i
      | none => m) [] }
  let s := (s.setNum Obj.pagesRetired l.length).setNum Obj.sparesFree (4096 - s.mem.substituted.length)
  if alt then recordStore s .retiredPages else s

/-- The retired-page list passes its checks (R91 step 7). -/
def retiredPagesOk (s : State) : Bool :=
  match (SMap.find (storedValues s) Obj.retiredPages).map Val.toBytes with
  | none => true
  | some b => b.isEmpty || (decide (fieldAt b 0 4 ≤ 114688) && decide (fieldAt b 4 4 = crc32c (b.drop 16)) &&
      decide (b.length = 16 + 4 * fieldAt b 0 4))

/-- The sealed generation of this device with the highest SEQ among some slots (R436). -/
def newestSealed (s : State) (slots : List Nat) : Option Nat :=
  slots.foldl (fun best i =>
    let k := vget s.mem.keeper i KeeperSlot.reset
    if k.state = 1 ∧ k.uid = Config.fuseUniqueId.toNat then
      match best with
      | some j => if (vget s.mem.keeper j KeeperSlot.reset).seq < k.seq then some i else best
      | none => some i
    else best) none

/-- The slot that "keeper scan" erases when none is erased (R436). -/
def slotToErase (s : State) (chosen : Option Nat) : Option Nat :=
  let ks := s.mem.keeper.toList.zipIdx
  if ks.any fun e => decide (e.1.state = 0) then none
  else (ks.filter fun e => decide (e.1.state ≠ 4) && decide (chosen ≠ some e.2)).foldl (fun best e => match best with
    | some (b : KeeperSlot × Nat) => if e.1.seq < b.1.seq then some e else best
    | none => some e) none |>.map (·.2)

/-- "Keeper scan" passes (R305, R436). -/
def keeperScan (s : State) : State :=
  let chosen := newestSealed s (List.range 6)
  let top := (s.mem.keeper.toList.filter fun k => decide (k.state = 1) || decide (k.state = 3)).foldl (fun n k => max n k.seq) 0
  let cut := s.mem.keeper.toList.any fun k => decide (k.state = 2) && decide (top < k.seq)
  let s := s.setMem { s.mem with
    keeperChosen := chosen
    keeper := match slotToErase s chosen with
      | some i => vmod s.mem.keeper i fun _ => KeeperSlot.reset
      | none => s.mem.keeper }
  let (bad, s) := s.draw
  let s := (s.setNum Obj.keeperBadBlocks (bad % 65536)).setNum Obj.keeperState 0
  let s := match chosen with
    | some _ => (s.draw.2).setNum Obj.lastDumpMs (s.draw.1 % 2 ^ 32)
    | none => s
  if cut then s.raise 14 else s

/-- The keeper is left out (R91 step 8): its unreplayed generations are superseded, with an event for each that names its sequence number;
an empty store raises one event. -/
def keeperLeftOut (s : State) : State :=
  let seqs := (s.mem.keeper.toList.filter fun k => decide (k.state = 1)).map (·.seq)
  let s := s.setMem { s.mem with
    keeperChosen := none, keeper := s.mem.keeper.map fun k => if k.state = 1 then { k with state := 3 } else k }
  let s := (setDegraded s 5 true).setNum Obj.keeperState 1
  if seqs.isEmpty then s.raise 173 else s.each seqs fun s q => s.raise 173 0 q

/-- An object takes its default again. -/
def eraseObj (s : State) (k : Key) : State := { s with objs := SMap.erase s.objs k }

/-- One stored object takes its value (R62): the stored one when it is in range, else its default, with an event. -/
def loadStored (values : SMap Val) (s : State) (k : Key) : State :=
  match SMap.find values k with
  | none => eraseObj s k
  | some v => if valueOk s k v then s.setObj k v else (eraseObj s k).raise 70 0 k

/-- Both store copies hold the values that outlive RESTORE_DEFAULTS, with the flag clear (R65). -/
def rewriteCopies (s : State) (kept : SMap Val) : State :=
  let seq := ((newestCopy s).map (·.2.seq)).getD 0
  let count := ((newestCopy s).map (·.2.count)).getD 0
  s.setDict { s.dict with copies := #v[⟨true, seq + 1, false, count, kept⟩, ⟨true, seq + 2, false, count, kept⟩] }

/-- Stored objects at "core release" (R62, R65, R66): under the alternative only RETIRED_UNITS; with RESTORE_DEFAULTS the defaults, and both NOR
copies rewritten. RETIRED_PAGES is the business of "zero-fill init". -/
def loadObjects (s : State) (alt : Bool) : State :=
  let values := storedValues s
  let keys := storedKeys.filter fun k => decide (k ≠ Obj.retiredPages)
  if alt then
    let s := s.each keys eraseObj
    setDegraded (loadStored values s Obj.retiredUnits) 7 true
  else if restoreAsked s then
    let kept := values.filter fun e => keepsThroughRestore e.1
    let s := s.each keys (loadStored kept)
    settleRestore (rewriteCopies (eraseObj s Obj.restoreDefaults) kept)
  else s.each keys (loadStored values)

/-- Recorded retirements come into force (R80, R471). -/
def applyRetired (s : State) : State := s.each (retiredIds s) fun s id =>
  let o := ownerOf id
  match o with
  | .lane l => s.setNum Obj.lanesFenced (setBit (s.num Obj.lanesFenced) l)
  | .way w => s.setNum Obj.waysRetired (setBit (s.num Obj.waysRetired) w)
  | _ => match o.state with
    | some k => s.setNum k stRetired
    | none => s

/-- Persisted reservations (R355): the namespaces whose state persists, from the newest copy. -/
def loadReservations (s : State) : State :=
  let a := s.host.resCopies[0]
  let b := s.host.resCopies[1]
  let c := if a.1 < b.1 then b else a
  if c.1 = 0 then s.raise 35 else s.setHost { s.host with reservations := c.2.filter (·.2.ptpl) }

/-- Section 7 of an image carries the default presets after its format records (R158). -/
def imagePresets (img : List Byte) : List Byte :=
  let sec := sectionData img (imageSections img) 7
  slice sec (16 + 64 * byteAt sec 0) 32768

def defaultPresets (s : State) (slot : Nat) : List Byte :=
  imagePresets (imageSlot s slot).bytes

/-- EQ_PRESETS without a stored value takes the image's set (R158). -/
def loadPresets (s : State) (slot : Nat) : State := s.each [0, 1, 2, 3] fun s a =>
  if (SMap.find s.objs (Obj.eqPresets a)).isSome then s else s.setStr (Obj.eqPresets a) (defaultPresets s slot)

/-- What the stored objects set that is not read from them again (R217, R350, R465). -/
def takeSettings (s : State) : State :=
  let s := s.setHost { s.host with strict := decide (s.num Obj.cachePolicy = 1) }
  let s := s.setDec { s.dec with holdCount := s.num Obj.holdSlots }
  { s with fab := { s.fab with reserve := s.num Obj.reserveMbs } }

/-- ENABLE values written since the sequence began are in force over the stored ones (R80). -/
def keepEnables (s : State) : State := s.each s.start.enables fun s e => s.setNum e.1 e.2

/-- The stored objects, the image's presets and its clause and phrase stores are loaded, PREAMP_STATE of a present actuator reads OFF (R62,
R80, R113, R115, R158, R188). -/
def releaseImage (s : State) (alt : Bool) : State :=
  let slot := slotInUse s
  let s := imageRuns (loadPresets (applyRetired (keepEnables (loadObjects s alt))) slot) slot
  let s := s.each ([0, 1, 2, 3].filter (actPresent s)) fun s a => s.setNum (Obj.preampState a) 1
  let s := loadStores (s.setFw { s.fw with bankImage := s.fw.coreImage }) slot 0
  bankTo (s.each [0, 1, 2, 3] fun s a => s.modAct a fun x => { x with banksHeld := 1 }) 0

/-- The decoder cores and the DMA channels enter service as their ENABLE and their built-in tests say (R80). -/
def releaseUnits (s : State) (failedUnits : List Nat) : State :=
  let s := s.each (List.range 8) fun s d => decideUnit s (Obj.detectorState d) (Obj.detectorEnable d) (failedUnits.contains (256 + d))
  let s := s.each (List.range 12) fun s c => decideUnit s (Obj.ldpcState c) (Obj.ldpcEnable c) (failedUnits.contains (264 + c))
  let s := s.each (List.range 8) fun s c => decideUnit s (Obj.dmaState c) (Obj.dmaEnable c) false
  s.each (failedUnits.filter fun i => decide (256 ≤ i) && decide (i ≤ 275)) fun s i => s.raise i

/-- The reservations and the event ledger are restored, and the lifecycle's own records come into force (R119, R123, R355, R472). -/
def releaseRecords (s : State) : State :=
  let s := restoreLedger (loadReservations s)
  let s := if s.fw.dep ∧ s.fw.lifecycleRecord.isNone ∧ !s.fw.destroyed then s.raise 67 else s
  if lifecycle s = lcManufacture ∧ !s.fw.identity then s.setFw { s.fw with identity := true } else s

/-- "Core release" passes (R62, R65, R66, R80, R91, R115, R123, R216, R244, R305, R355, R471, R483). Under the alternative the NOR copies stay
unchanged, so no hold-up values are committed. -/
def coreRelease (s : State) (alt : Bool) (failedUnits : List Nat) : State :=
  let s := releaseRecords (settleRates (takeSettings (releaseUnits (releaseImage s alt) failedUnits)))
  let held := if alt then none else s.mem.keeperChosen.map fun i => vget s.mem.keeper i KeeperSlot.reset
  match held with
  | some k =>
    if k.holdup = 2 ^ 32 - 1 ∧ k.vmMin = 2 ^ 16 - 1 then s
    else recordStore ((s.setNum Obj.holdupLastMj k.holdup).setNum Obj.vmMinMv k.vmMin) .holdup
  | none => s

/-! ### Steps 10 to 15 -/

/-- "Motion-die handshake" passes (R52, R285, R291, R304). -/
def handshake (s : State) (found : StepFindings) : State :=
  let (v, s) := s.draw
  let s := (s.setNum Obj.mdVersion (v % 2 ^ 32)).setNum Obj.holdupUf (found.measured % 2 ^ 32)
  let s := s.each [0, 1, 2, 3] fun s a => s.setNum (Obj.vcmRMohm a) (found.coils.getD a 0 % 65536)
  let s := ((s.setNum Obj.heartbeatArmed 1).setNum Obj.linkState 1).setMotion { s.motion with
    notice := none, profiles := #v[imageProfile s false, imageProfile s true] }
  if s.num Obj.holdupUf < 2200 then s.raise 13 else s

/-- Its alternative restarts the motion die's logic with the rails held. -/
def restartMotion (s : State) : State :=
  (s.setMotion { s.motion with resendsDown := 0, resendsUp := 0, heartbeatCount := 0, notice := none }).setNum Obj.heartbeatArmed 0

/-- A preamp format record has every field in its range (R177). -/
def formatOk (r : List Byte) : Bool :=
  decide (16 ≤ byteAt r 8) && decide (byteAt r 8 ≤ 64) && decide (byteAt r 9 < 32) && decide (byteAt r 11 ≤ 1) &&
  decide (4 ≤ byteAt r 13) && decide (byteAt r 13 ≤ 8) && decide (byteAt r 12 < byteAt r 14) && decide (byteAt r 10 < byteAt r 14) &&
  decide (8 ≤ byteAt r 15) && decide (byteAt r 15 ≤ 32) && decide (byteAt r 17 ≤ 4) && decide (byteAt r 40 ≤ 63) &&
  (span 33 40 ++ span 44 64).all fun i => decide (byteAt r i = 0)

/-- The format record that an ID read selects: the first that is in range and matches (R178). -/
def formatFor (s : State) (found : StepFindings) (a : Nat) : Option Nat :=
  (List.range (byteAt (formatSection s) 0)).find? fun n =>
    let r := formatRecordN s n
    formatOk r && match (found.ids.getD a []).getD n none with
      | some id => decide (id % 2 ^ 32 &&& fieldAt r 4 4 = fieldAt r 0 4)
      | none => false

/-- Set bits of a SURFACE_MASK. -/
def headCount (s : State) (a : Nat) : Nat := ((List.range 12).filter (bit (s.num (Obj.surfaceMask a)))).length

/-- Actuators that fail "preamp discovery": found at fault, with no record selected, or with another head count (R135, R178). -/
def undiscovered (s : State) (found : StepFindings) : List Nat :=
  (startActs s).filter fun a =>
    bit found.actuators a || (formatFor s found a).isNone || decide (found.heads.getD a 0 ≠ headCount s a)

/-- "Preamp discovery" passes (R39, R80, R178, R188): the actuators at fault are left out under the alternative. -/
def discovery (s : State) (found : StepFindings) : State :=
  let s := s.each (undiscovered s found) fun s a => leaveOut s a 1
  let s := s.each (startActs s) fun s a =>
    let n := (formatFor s found a).getD 0xFF
    let id := (((found.ids.getD a []).getD n none).getD 0) % 2 ^ 32
    ((s.setNum (Obj.preampState a) 2).setNum (Obj.preampId a) id).setNum (Obj.preampFormat a) (n % 256)
  s.each ([0, 1, 2, 3].filter (actPresent s)) fun s a =>
    s.each [0, 1, 2] fun s k => decideUnit s (Obj.laneState a k) (Obj.laneEnable a k) false

/-- "Preamp discovery" begins: the V3P3 switches close (R39), and the image's format table is taken up (R115). -/
def switchesOn (s : State) : State :=
  let s := s.setFw { s.fw with formatImage := s.fw.coreImage }
  s.each (startActs s) fun s a => (preampSwitch s a true).setNum (Obj.preampState a) 1

/-- "Servo acquisition" begins (R115, R271, R281): the rein programs of the running image are taken up, and kept until the next start. -/
def acquisition (s : State) : State :=
  let s := (s.setFw { s.fw with reinImage := s.fw.coreImage }).setNum Obj.reinSlot (s.num Obj.runningSlot)
  s.each (startActs s ++ [4]) startGroup

/-- "Servo acquisition" passes (R80, R91, R244): an actuator that still fails is parked and left out; the position loops take over, the
spindle group takes its spindle (R290), and a disabled actuator goes back to the ramp, where its group stops (R281). -/
def acquired (s : State) (found : StepFindings) : State :=
  let bad := faultyActs s found.actuators ++ (startActs s).filter (playersRetired s)
  let s := s.each bad.dedup fun s a => leaveOut (followPlayers (retract (stopGroup s a) a) a) a 6
  let s := if s.num Obj.spinMode = smHold ∧ groupRuns s 4 then spinTo s smRein else s
  s.each (startActs s) fun s a =>
    if s.num (Obj.actuatorEnable a) = 1 then setActuator s a stRunning
    else if s.num (Obj.driveState a) = dvServo then setActuator (retract s a) a stQuiescing
    else setActuator (stopGroup s a) a stQuiesced

/-! ### Steps 16 to 19 -/

/-- The surface whose copy a half's labels name (R152): the label with the highest HOLDER_GEN that names a bundle copy among the half's
present surfaces on actuators not left out. DESIGN CHOICE (log 32): of two labels with that HOLDER_GEN, the lower-numbered surface's. -/
def halfCopy (s : State) (half : Nat) : Option Nat :=
  let names (u : Nat) : Bool := ((labelOf s u).map fun l => bit l.areas 3 && decide (l.bundleGen ≠ 0)).getD false
  let gen (u : Nat) : Nat := ((labelOf s u).map (·.holderGen)).getD 0
  ((span (24 * half) (24 * half + 24)).filter fun u => present s u && !leftOut s (actOf u) && names u).foldl
    (fun (b : Option Nat) u => match b with
      | some v => if gen v < gen u then some u else b
      | none => some u) none

/-- The bundle copy of a surface passes R107 and R151 at a start. -/
def copyValid (s : State) (u : Nat) : Bool :=
  bundleAccepted (vget s.fw.bundleCopies u []) s.fw.ownerKey (minSecurity s) (presentMask s) (s.num Obj.formatRpm) none

/-- Surfaces of the valid copies, in reading order. -/
def validCopies (s : State) : List Nat :=
  let order := if stepAlt s 16 then [1, 0] else [0, 1]
  ((order.filterMap (halfCopy s)).dedup).filter (copyValid s)

/-- The copy to load: the newest valid one. -/
def chosenCopy (s : State) : Option Nat :=
  (validCopies s).foldl (fun best i => match best with
    | some j => if bundleGen (vget s.fw.bundleCopies j []) < bundleGen (vget s.fw.bundleCopies i []) then some i else best
    | none => some i) none

/-- "Table bundle load" passes (R152, R270). -/
def loadBundle (s : State) (i : Nat) : State :=
  let b := vget s.fw.bundleCopies i []
  let s := s.setFw { s.fw with bundle := b }
  let s := s.setLayout { s.layout with
    bundleMaps := (rawMapsOf b).foldl (fun m r => SMap.put m r.map.layoutId r.map) [] }
  let s := s.each [0, 1, 2, 3, 4] fun s g => if groupRuns s g then queueCoefs s g (bundleCoefs s g) else s
  (modRecord s fun r => { r with bundleGen := some (bundleGen b) }).setNum Obj.bundlePendingGen 0

/-- Put cells into a memory. -/
def putCells (m : List Host.Cell) (l : List Host.Cell) : List Host.Cell := l.foldl (fun m c => cellWrite m c.1 c.2) m

/-- The keeper slot to replay, once those whose checks fail are skipped (R91 step 17). -/
def generationToReplay (s : State) (bad : List Nat) : Option Nat :=
  match s.mem.keeperChosen with
  | none => none
  | some _ => newestSealed s ((List.range 6).filter fun i => !bad.contains i)

/-- "Dump replay" passes (R436): every unit is back at its address, the journal with it. -/
def dumpReplay (s : State) (bad : List Nat) : State :=
  match generationToReplay s bad with
  | none => s.setMem { s.mem with keeperChosen := none }
  | some i =>
    let k := vget s.mem.keeper i KeeperSlot.reset
    let s := s.setMem { s.mem with
      keeperChosen := some i, cache := k.cache, dram := putCells s.mem.dram k.cells
      poison := k.poison.foldl nset s.mem.poison
      written := s.mem.written.filter (· < pageOf protectedBase) ++ span (pageOf protectedBase) pageCount }
    let s := s.setLayout { s.layout with journal := k.journal, dirtyGroups := k.dirtyGroups }
    countDirty (s.setNum Obj.lastReplaySeq k.seq)

/-- Journal entries in SEQ order. -/
def insertEntry (e : JournalEntry) : List JournalEntry → List JournalEntry
  | [] => [e]
  | x :: l => if e.seq < x.seq then e :: x :: l else x :: insertEntry e l

/-- An entry as replay writes it: every payload with FLAGS[4] REPLAY and the GEN it had (R137, R389). -/
def forReplay (e : JournalEntry) : JournalEntry :=
  { e with replay := true, list := e.list.map fun x => (x.1, x.2.1, stamp x.2.2 (payloadGen x.2.2) (setBit (payloadFlags x.2.2) 4)) }

/-- Groups with an allocated stripe. -/
def allocatedGroups (s : State) : List Nat := s.layout.allocated.foldl (fun l g => nset l (groupOf g)) []

/-- "Journal resync" passes (R388–R391): from the dump, replay of every valid entry; otherwise resync of the dirty groups of the mirror, or under
the alternative of every group with an allocated stripe. Bits cleared since the last mirror point are set in the mirror still. -/
def journalResync (s : State) (alt : Bool) : State :=
  let l := s.layout
  match s.mem.keeperChosen with
  | some _ =>
    let s := countDirty (s.setMem { s.mem with cache := indexCache s.mem.cache })
    let entries := (l.journal.filter (·.valid)).foldl (fun q e => insertEntry (forReplay e) q) []
    let s := s.setLayout { l with
      journal := [], replayQueue := entries, pinned := entries.foldl (fun p e => nset p e.stripe) []
      mirroredGroups := l.dirtyGroups, resyncQueue := [], allocCleared := [] }
    countReplay ((s.setNum Obj.replaySource 1).setNum Obj.wiDirtyGroups l.dirtyGroups.length)
  | none =>
    let s := s.setLayout { l with
      journal := [], replayQueue := [], pinned := [], allocated := l.allocCleared.foldl nset l.allocated, allocCleared := [] }
    let groups := if alt then allocatedGroups s else l.mirroredGroups
    let s := s.setLayout { s.layout with dirtyGroups := groups, mirroredGroups := groups, resyncQueue := groups }
    let s := countReplay ((s.setNum Obj.replaySource (if alt then 3 else 2)).setNum Obj.wiDirtyGroups groups.length)
    if alt then setDegraded s 11 true else s

/-- User sectors of a surface. -/
def userSectors (b : List Byte) (u : Nat) : Nat := ((zonesOf b u).map fun z => z.trackCount * z.sectors).sum

/-- ROWS_TOTAL of a medium that has no descriptor yet (R370). -/
def formatRows (s : State) : Nat :=
  match surfacesOf (presentMask s) with
  | [] => 0
  | u :: us => us.foldl (fun n v => min n (userSectors s.fw.bundle v / 64)) (userSectors s.fw.bundle u / 64)

/-- SURFACE_STATE at a start (R394). -/
def surfaceAtStart (s : State) (u : Nat) : Nat :=
  if !present s u then 0
  else if retiredSurface s u then (if (jobFor s u).isSome then 3 else 4)
  else if actRunning s (actOf u) then 1 else 2

/-- "Layout mount" passes (R91, R129, R147, R372, R405, R420, R483). -/
def layoutMount (s : State) (alt : Bool) : State :=
  let s := if s.layout.seq = 0 then s.setLayout { s.layout with rowsTotal := formatRows s } else s
  let s := if alt then
      setDegraded (s.setLayout { s.layout with
        allocated := (runs s).foldl (fun l r => (span r.firstStripe (r.firstStripe + r.stripes s)).foldl nset l) s.layout.allocated }) 10 true
    else s
  let s := s.setNum Obj.rowsTotal s.layout.rowsTotal
  let s := s.each s.host.namespaces fun s e => s.setNum (Obj.nsLayout e.1) (mapSlotOf s e.2.mapSlot).layoutId
  let s := s.each (List.range 48) fun s u => s.setNum (Obj.surfaceState u) (surfaceAtStart s u)
  let s := s.setNum Obj.reshapeState (if s.layout.reshape.isSome then 1 else 0)
  let s := if s.coll.norCopies.toList.all (·.isEmpty) then
      let m := mergeCopies [s.coll.bandCopy, s.coll.ledger]
      countRecords (s.setColl { s.coll with ledger := m, newestSeq := m.foldl (fun t e => max t e.2.seq) s.coll.newestSeq })
    else s
  countJournal (countDirty (settleHolders (layoutChanged (finishErases s))))

/-! ### Step 20 and host ready (R46, R87, R89, R101, R104, R108) -/

/-- The ports' STATE is decided; one that failed its self-check starts QUIESCED under the alternative. -/
def portsDecided (s : State) (ports : Nat) : State := s.each [0, 1] fun s p =>
  if bit ports p ∧ s.num (Obj.portState p) ≠ stRetired then (setDegraded (s.setNum (Obj.portState p) stQuiesced) (8 + p) true).raise (96 + p)
  else decideUnit s (Obj.portState p) (Obj.portEnable p) false

/-- The slot-control record at host ready (R104). -/
def settleSlots (s : State) : State :=
  let slot := slotInUse s
  if slot = s.fw.chosenSlot then
    if s.fw.chosenPending then setControl s slot 0xFF else s
  else if (bit s.start.history 4 || bit s.start.history 5) && !s.fw.chosenPending then setControl s slot (pendingSlot s)
  else s

/-- MIN_SECURITY_VERSION follows the image; a slot below it reads INVALID (R108). -/
def raiseSecurity (s : State) : State :=
  let v := imageSecurityVersion (imageSlot s (slotInUse s)).bytes
  if minSecurity s < v then
    let s := s.setNum Obj.minSecurityVersion v
    s.setFw { s.fw with slots := s.fw.slots.map fun x =>
      if x.state = 1 ∧ imageSecurityVersion x.bytes < v then { x with state := 2 } else x }
  else s

/-- The older of two valid bundle copies whose BUNDLE_GEN differ is rewritten (R152). -/
def levelBundles (s : State) : State :=
  let gen (u : Nat) : Nat := bundleGen (vget s.fw.bundleCopies u [])
  match validCopies s with
  | [u, v] => if gen u < gen v then bundleOnto s u s.fw.bundle else if gen v < gen u then bundleOnto s v s.fw.bundle else s
  | _ => s

/-- HOST_READY: the sequence ends; in MAINTENANCE the record says so and nothing of a normal start is undone. -/
def hostReady (s : State) (ports : Nat) : State :=
  let s := portsDecided s ports
  let s := s.setNum Obj.elapsedMs (elapsedMs s % 2 ^ 32)
  let maint := s.start.maintenance
  let s := sealRecord s (if maint then 3 else 0) 0 0
  let s := s.setStart { s.start with mode := if maint then .maintenance else .normal, running := false, step := 0 }
  let s := if maint then reportPower (faultOut s) (s.num Obj.powerCap)
    else
      let s := raiseSecurity (settleSlots s)
      let s := (s.setNum Obj.failedStarts 0).setStart { s.start with history := 0 }
      let s := s.setMem { s.mem with supersedeDue := s.mem.keeperChosen.isSome }
      levelBundles (reportPower s (s.num Obj.powerCap))
  becomeReady (becomeReady s .a) .b

/-! ### The steps -/

/-- Bits of a mask for units of a list. -/
def maskOf (l : List Nat) : Nat := l.foldl (fun m i => setBit m i) 0

/-- What a step has to say when it is told to have passed: it passes, it has not yet, or a check that the state decides fails. -/
inductive StepCheck where
  | pass | wait | fail
  deriving DecidableEq, Repr

def passWhen (b : Bool) : StepCheck := if b then .pass else .wait
def failWhen (b : Bool) : StepCheck := if b then .fail else .pass

/-- Pass conditions (R91) as far as the state decides them. DESIGN CHOICE (log 69): "dump replay" with every sealed generation failing its
check fails without its alternative, and passes under it as when none exists. -/
def stepCheck (s : State) (found : StepFindings) : StepCheck :=
  let alt := stepAlt s s.start.step
  match s.start.step with
  | 1 => passWhen (anyFeed s && decide (fld (s.num Obj.feedState) 3 2 = 0) && !pwrdisHigh s &&
      decide ((if alt then 10200 else 10800) ≤ s.num Obj.vmMv))
  | 3 => failWhen (fuseWordLost found || (!alt && !(unrepairable s found).isEmpty))
  | 4 => failWhen (!imageHeaderOk (imageSlot s (slotInUse s)).bytes)
  | 5 => failWhen (!slotAccepted s (slotInUse s))
  | 7 => failWhen (!alt && !retiredPagesOk s)
  | 8 => failWhen (!alt && found.failedUnits.contains 173)
  | 10 => failWhen (!spinProfileOk (imageProfile s false) || !spinProfileOk (imageProfile s true))
  | 11 => passWhen (decide (s.num Obj.spinMode = smHold) && speedNear s 1)
  | 12 => if alt then .pass else if !(decide (232 ≤ found.measured) && decide (found.measured ≤ 248)) then .fail else passWhen (!s.girth.listening)
  | 13 => failWhen (!alt && decide (undiscovered s found ≠ []))
  | 14 =>
    if alt then passWhen ((startActs s).all fun a => bit found.actuators a || decide (s.num (Obj.driveState a) = dvServo))
    else passWhen ((startActs s).all fun a => decide (s.num (Obj.driveState a) = dvServo))
  | 15 =>
    if (startActs s).any (playersRetired s) && !alt then .fail
    else passWhen ((4 :: (startActs s).filter fun a => !(alt && (bit found.actuators a || playersRetired s a))).all (groupRuns s))
  | 16 => failWhen (chosenCopy s).isNone
  | 17 => failWhen (s.mem.keeperChosen.isSome && (generationToReplay s found.badGenerations).isNone && !alt)
  | 20 =>
    if !alt && !s.start.maintenance && decide (found.ports % 4 ≠ 0) then .fail
    else passWhen (s.start.maintenance || decide (s.num Obj.spinMode = smRein))
  | _ => .pass

/-- A start sequence takes FORMAT_RPM up once (R294). -/
def takeRpm (s : State) : State :=
  if s.motion.rpmTaken then s else s.setMotion { s.motion with rpm := s.num Obj.formatRpm, rpmTaken := true }

/-- What a step does as it begins (R91, R104, R281, R286, R292, R302, R319). -/
def stepBegins (s : State) : State :=
  let alt := stepAlt s s.start.step
  match s.start.step with
  | 4 => chooseSlot s
  | 10 => if alt then restartMotion s else s.setMotion { s.motion with notice := none }
  | 11 => spinUp (takeRpm s)
  | 12 => if alt then unjoin s else joinBegin s
  | 13 => switchesOn s
  | 14 => s.each (startActs s) loadHeads
  | 15 => acquisition s
  | _ => s

/-- Units that a start takes out because their SRAM cannot be repaired (R91 step 3): they start RETIRED, each in the place that shows it. -/
def retireUnrepairable (s : State) (ids : List Nat) : State := s.each ids fun s id => match ownerOf id with
  | .lane l => s.setNum Obj.lanesFenced (setBit (s.num Obj.lanesFenced) l)
  | .way w => s.setNum Obj.waysRetired (setBit (s.num Obj.waysRetired) w)
  | .keeper => (setDegraded s 5 true).setNum Obj.keeperState 1
  | .block b => s.setColl { s.coll with fenced := nset s.coll.fenced b }
  | o => match o.state with
    | some k => s.setNum k stRetired
    | none => s

/-- What a step has done once it has passed. -/
def stepPassed (s : State) (found : StepFindings) : State :=
  let alt := stepAlt s s.start.step
  match s.start.step with
  | 3 => retireUnrepairable (repairsDone s found) (unrepairable s found)
  | 5 =>
    let slot := slotInUse s
    modRecord s fun r => { r with imageSlot := some slot, imageVersion := some (fieldAt (imageSlot s slot).bytes 8 8) }
  | 6 => setDegraded (s.setNum Obj.dramRateMts (if alt then 6400 else 8533)) 6 alt
  | 7 => zeroFillInit s alt
  | 8 => if alt && found.failedUnits.contains 173 then keeperLeftOut s else keeperScan s
  | 9 => coreRelease s alt found.failedUnits
  | 10 => handshake s found
  | 11 => s.setNum Obj.spinupLastMs (found.measured % 2 ^ 32)
  | 12 => if alt then decideUnit s Obj.girthInputState Obj.girthInputEnable false
    else decideUnit (s.setNum Obj.hopLatencyNs (found.measured % 65536)) Obj.girthInputState Obj.girthInputEnable false
  | 13 => discovery s found
  | 14 => s.each (faultyActs s found.actuators) fun s a => leaveOut (retract s a) a 3
  | 15 => acquired s found
  | 16 => match chosenCopy s with
    | some i => loadBundle s i
    | none => s
  | 17 => dumpReplay s found.badGenerations
  | 18 => journalResync s alt
  | 19 => layoutMount s alt
  | _ => s

/-- The step that follows. In MAINTENANCE steps 11–19 are skipped when step 20 begins (R98, R486). -/
def nextStep (s : State) : State :=
  let w := s.start.step
  if s.start.maintenance ∧ w = 10 then
    let s := s.each (span 11 20) fun s i => stepResult s i srSkipped
    s.setStart { s.start with step := 20, passedSteps := s.start.passedSteps ||| (2 ^ 20 - 2 ^ 11) }
  else stepBegins (s.setStart { s.start with step := w + 1 })

/-- A step ends well (R85). -/
def stepEnds (s : State) (found : StepFindings) : State :=
  let w := s.start.step
  let alt := stepAlt s w
  let code := if w = 12 ∧ alt then srSkipped else if alt then srAlternative else srPassed
  let s := stepPassed (stepResult s w code) found
  let s := s.setStart { s.start with
    passedSteps := setBit s.start.passedSteps w, altSteps := if alt then setBit s.start.altSteps w else s.start.altSteps }
  if w = 20 then hostReady s found.ports else nextStep s

/-- FAIL_DETAIL (R96). -/
def failDetail (s : State) (found : StepFindings) : Nat :=
  match s.start.step with
  | 3 => (badMacros s found).headD found.detail
  | 13 => maskOf (undiscovered s found)
  | 14 | 15 => maskOf ((startActs s).filter fun a => bit found.actuators a || (actsLacking s).contains a)
  | 20 => found.ports % 4
  | _ => stateDetail s

/-- The attempt ends for good: in HALTED or ROM_MAINTENANCE, with END 5 or 4 (R91, R96, R99). -/
def endForGood (s : State) (code endCode detail : Nat) : State :=
  let w := s.start.step
  let s := pendingFails s w
  let s := (s.setNum Obj.failedStarts (min 3 (s.num Obj.failedStarts + 1))).raise 72 0 w
  let s := sealRecord (stepResult s w code) endCode w detail
  let raised := s.raised
  let s := holdRaised (endAttempt s (decide (w = 11))) raised
  let s := s.setStart { s.start with running := false, step := 0 }
  if endCode = 5 then halt s else romMaintenance (s.setStart { s.start with inReset := false })

/-- A step fails (R86, R91, R94, R104). DESIGN CHOICE (log 69): "ROM self-test" that fails under an alternative, also one that ALT_FORCE
forced, has failed a second time, and the device is HALTED; with neither slot valid the device enters ROM_MAINTENANCE at the first failure of
step 4 or 5, since its alternative has nothing to run. -/
def stepFails (s : State) (found : StepFindings) (code : Nat) : State :=
  let w := s.start.step
  let detail := failDetail s found
  if w = 2 ∧ stepAlt s 2 then endForGood s code 5 0
  else if w = 3 ∧ fuseWordLost found then endForGood (s.raise 36) code 5 detail
  else if w = 4 ∨ w = 5 then
    let s := if w = 5 then s.raise 64 0 (slotInUse s) else s
    if !slotAccepted s 0 && !slotAccepted s 1 then endForGood s code 4 detail else failAttempt s code detail
  else failAttempt s code detail

/-- An attempt runs. DEDUCED (log 39): once the rails run down, it is interrupted (R88), and no step of it ends. -/
def attemptRuns (s : State) : Bool := s.start.running && s.power.off.isNone

/-- START_STEP_END (R85, R91): the running step ends; a step that is told to have passed before its condition holds goes on. -/
def execStartStepEnd (result : StepEnd) (found : StepFindings) (s : State) : Host.Outcome State Fault Refusal :=
  if !attemptRuns s then .next s
  else match result with
    | .failed => .next (stepFails s found srFailed)
    | .skipped => if s.start.step = 12 ∧ stepAlt s 12 then .next (stepEnds s found) else .next s
    | .passed | .passedWithAlternative => match stepCheck s found with
      | .pass => .next (stepEnds s found)
      | .wait => .next s
      | .fail => .next (stepFails s found srFailed)

/-- STEP_WATCHDOG (R85). -/
def execStepWatchdog (found : StepFindings) (s : State) : Host.Outcome State Fault Refusal :=
  if attemptRuns s then .next (stepFails s found srWatchdog) else .next s

/-- START_DEADLINE (R88): the running attempt fails at its step with END 2, and MAINTENANCE follows; between two attempts there is none to
end. -/
def execStartDeadline (s : State) : Host.Outcome State Fault Refusal :=
  if s.start.mode ≠ .starting ∨ s.start.maintenance ∨ !mainPowered s ∨ s.power.off.isSome ∨ elapsedMs s < 1000 * s.num Obj.startDeadlineS then .next s
  else if s.start.running then .next (failAttempt s srWatchdog (failDetail s {}) true)
  else if s.start.inReset ∧ !s.start.restartAsked then .next (maintenanceEntry s)
  else .next s

/-- RESTART = NORMAL or MAINTENANCE (R88, R100, R477). -/
def restartNormal (s : State) : State := restart s false
def restartMaintenance (s : State) : State := restart s true

end Sys2Proof.Machine
end

