-- ==== Sys2Proof/Machine/DictRead.lean ====
section
/-!
DEFINITION. The dictionary service as a reader: who is heard, the order of access checks, and what each object reads
(R53–R60, R77, R80, R82–R84, R92, R96, R99, R476, R484, R486).
-/

namespace Sys2Proof.Machine

/-! ### Requesters (R55, R83) -/

/-- The number of a requester's port, as REQUESTER and the ledger's PORT field give it. -/
def reqNo : Requester → Nat
  | .portA => 0
  | .portB => 1
  | .mbus => 2
  | .girth => 3
  | .factory => 4
  | .core _ => 5

/-- The factory port receives (R55). -/
def factoryListens (s : State) : Bool := decide (lifecycle s = lcManufacture) || decide (lifecycle s = lcReturn)

/-- Objects of the event ledger, which class G is served in the safe state (R476). -/
def ledgerIdx (idx : Nat) : Bool := decide (idx / 256 = 0x78)

/-- A request reaches the dictionary service. While the main die has no power or is in reset, in HALTED, in ROM_MAINTENANCE for all
but classes M and F, in the safe state for class H and class G's other objects, and from ports and cores that are quiesced for power
fail or fenced, it is lost without a response (R7, R40, R92, R99, R476). -/
def heard (s : State) (who : Requester) (k : Key) : Bool :=
  mainPowered s && !s.start.inReset && decide (s.start.mode ≠ .halted) &&
  (match who with
   | .portA | .portB => decide (s.start.mode ≠ .romMaintenance) && !inSafe s && !s.power.quiesced
   | .mbus => !s.coll.fenced.contains 40
   | .girth => girthDelivers s && decide (s.start.mode ≠ .romMaintenance) && (!inSafe s || ledgerIdx (keyIdx k))
   | .factory => factoryListens s && !s.coll.fenced.contains 41
   | .core n => decide (s.start.mode ≠ .romMaintenance) && !coreStopped s n.val)

/-! ### Status codes (R77) -/

def dsOk : Nat := 0x00
def dsNoObject : Nat := 0x01
def dsNoSub : Nat := 0x02
def dsDenied : Nat := 0x03
def dsType : Nat := 0x04
def dsRange : Nat := 0x05
def dsBusy : Nat := 0x06
def dsLifecycle : Nat := 0x07
def dsUnavailable : Nat := 0x09
def dsPoisoned : Nat := 0x0A

/-- The first status that is not OK. -/
def firstOf : List Nat → Nat
  | [] => dsOk
  | x :: r => if x = dsOk then firstOf r else x

/-- A check's status when it fails. -/
def failIf (b : Bool) (st : Nat) : Nat := if b then st else dsOk

/-! ### Units of objects (R78, R82) -/

/-- The unit at whose index an object stands; every other object of an actuator's channel belongs to the actuator. -/
def unitOfIdx (idx : Nat) : Owner :=
  if 0x4000 ≤ idx ∧ idx < 0x4400 then
    let a := (idx - 0x4000) / 0x100
    let r := idx % 0x100
    if 0x10 ≤ r ∧ r ≤ 0x12 then .reader a (r - 0x10) else .actuator a
  else if 0x4810 ≤ idx ∧ idx ≤ 0x4817 then .detector (idx - 0x4810)
  else if 0x4820 ≤ idx ∧ idx ≤ 0x482B then .ldpc (idx - 0x4820)
  else if 0x4C00 ≤ idx ∧ idx ≤ 0x4C07 then .player (idx - 0x4C00)
  else if 0x1110 ≤ idx ∧ idx ≤ 0x1111 then .port (idx - 0x1110)
  else if 0x9200 ≤ idx ∧ idx ≤ 0x9207 then .dma (idx - 0x9200)
  else if idx = 0x6801 then .girth
  else match (List.range 16).find? fun e => decide (engKey e 2 / 256 = idx) with
    | some e => .engine e
    | none => .nobody

/-- A key is its unit's ENABLE or STATE. -/
def isEnable (k : Key) : Bool := decide ((unitOfIdx (keyIdx k)).enable = some k)
def isState (k : Key) : Bool := decide ((unitOfIdx (keyIdx k)).state = some k)
def exempt (k : Key) : Bool := isEnable k || isState k

/-- The owning unit is FENCED or RETIRED (R56 check 5). -/
def unitOut (s : State) (k : Key) : Bool := !exempt k && match (unitOfIdx (keyIdx k)).state with
  | some j => decide (stFenced ≤ s.num j)
  | none => false

/-! ### Checks 1 to 3, and the start sequence's limits (R56, R92, R99, R486) -/

/-- Whether a row's column for a class gives reading or writing (R84). -/
def ObjRow.allows (r : ObjRow) (who : Requester) (write : Bool) : Bool :=
  bit (r.acc >>> (8 - 2 * clsNo who)) (if write then 1 else 0)

/-- A core's own mailbox and maintenance objects are closed to every other core (R69, R442). -/
def otherCore (who : Requester) (k : Key) : Bool := match who with
  | .core n =>
    let idx := keyIdx k
    (decide (0x1180 ≤ idx) && decide (idx ≤ 0x1188) && decide (idx ≠ 0x1180 + n.val)) ||
    (decide (0x9110 ≤ idx) && decide (idx ≤ 0x9118) && decide (idx ≠ 0x9110 + n.val))
  | _ => false

/-- Objects served from step 1 on (R92), and in ROM_MAINTENANCE (R99, R118). -/
def startIdx (idx : Nat) : Bool := decide (idx / 256 = 0x10) || decide (idx = 0x1400) || decide (idx = 0x1401)
def romIdx (idx : Nat) : Bool :=
  decide (idx = 0x1000) || decide (idx = 0x1400) || decide (idx = 0x1401) || decide (idx = 0x1210) || decide (idx = 0x1211) ||
  decide (idx = 0x1212) || decide (idx = 0x1214)

/-- The step that owns an index; 0 for none (R486). -/
def owningStep (idx : Nat) : Nat :=
  if startIdx idx then 0
  else if idx / 256 = 0x60 then 10
  else if idx / 256 = 0x68 then 12
  else if 0x4000 ≤ idx ∧ idx < 0x4400 then 13
  else if (0x4C00 ≤ idx ∧ idx ≤ 0x4C07) ∨ (0x5000 ≤ idx ∧ idx ≤ 0x55FF) then 15
  else if 0x3000 ≤ idx ∧ idx ≤ 0x33FF then 19
  else if idx = 0x1110 ∨ idx = 0x1111 ∨ (0x2000 ≤ idx ∧ idx ≤ 0x22FF) then 20
  else 9

/-- A step has passed in the current attempt. -/
def stepDone (s : State) (n : Nat) : Bool := decide (n = 0) || bit s.start.passedSteps n

/-- The unit's owning step has not passed yet: 0x06 stands in place of checks 4 to 8. -/
def stepOwed (s : State) (k : Key) : Bool :=
  decide (s.start.mode ≠ .romMaintenance) && !exempt k && !stepDone s (owningStep (keyIdx k))

/-- Checks 1 to 3. -/
def firstChecks (who : Requester) (k : Key) (write : Bool) : Nat :=
  if !idxAssigned (keyIdx k) then dsNoObject
  else match findRow k with
    | none => dsNoSub
    | some r => failIf (!r.allows who write || otherCore who k) dsDenied

/-- Everything that precedes checks 4 to 8. -/
def gateStatus (s : State) (who : Requester) (k : Key) (write : Bool) : Nat :=
  if s.start.mode = .romMaintenance then firstOf [failIf (!romIdx (keyIdx k)) dsNoObject, firstChecks who k write]
  else if !stepDone s 9 && !startIdx (keyIdx k) then dsBusy
  else firstOf [firstChecks who k write, failIf (stepOwed s k) dsBusy]

/-! ### Images that only the dictionary shows -/

/-- A value as the bytes of its object (R54). -/
def valBytes (k : Key) : Val → List Byte
  | .num n => leBytes (((findRow k).map fun r => r.typ.size).getD 8) n
  | .bytes b => b

/-- A field of a start-ledger record: erased while it is not programmed (R97). -/
def ledgerField (n : Nat) : Option Nat → List Byte
  | some v => leBytes n v
  | none => List.replicate n 0xFF

/-- One start-ledger record (R96). CRC and MARK stand once the record is sealed. -/
def StartRecord.bytes (r : StartRecord) : List Byte :=
  let b := leBytes 8 r.seq ++ leBytes 4 r.powerOnCount ++ leBytes 1 r.attempt ++ ledgerField 1 r.imageSlot ++
    ledgerField 1 r.failedStep ++ ledgerField 1 r.endCode ++
    ((List.range 10).map fun i => BitVec.ofNat 8 (vget r.results (2 * i) 15 + 16 * vget r.results (2 * i + 1) 15)) ++
    (if r.mark then [0, 0] else [0xFF, 0xFF]) ++ ledgerField 4 r.failDetail ++ ledgerField 4 r.elapsedMs ++
    ledgerField 4 r.degraded ++ ledgerField 8 r.imageVersion ++ ledgerField 8 r.bundleGen
  b ++ (if r.mark then leBytes 4 (crc32c b) ++ leBytes 4 0x5A3C0000 else List.replicate 8 0xFF)

/-- The ring of 256 records: record n stands in slot (n − 1) mod 256, and a slot never written reads erased. -/
def startLedgerImage (s : State) : List Byte := (List.range 256).flatMap fun i =>
  match s.start.ledger.find? fun r => decide ((r.seq + 255) % 256 = i) with
  | some r => r.bytes
  | none => List.replicate 64 0xFF

/-- The first 8 bytes of an object's default: EQ_PRESETS and DICT_LEVEL have that of the running image (R84, R115, R190). -/
def defaultBytes (s : State) (k : Key) : List Byte :=
  if isActKey Obj.eqPresets k then slice (imagePresets (runningImage s)) 0 8
  else padTo 8 ((valBytes k (if k = Obj.dictLevel then .num (s.num Obj.dictLevel) else dfltVal k)).take 8)

/-- A DIRECTORY record (R84). -/
def directoryRecord (s : State) (k : Key) : List Byte := match findRow k with
  | none => []
  | some r => leBytes 2 (keyIdx k) ++ leBytes 1 (keySub k) ++ leBytes 1 r.typ.code ++
    leBytes 2 (r.acc + if r.stored then 1024 else 0) ++ leBytes 2 (if r.typ.scalar then r.typ.size else r.len) ++
    defaultBytes s k

/-- Every assigned key in rising order. -/
def allKeys : List Key :=
  SMap.keys ((objTable.flatMap ObjRow.keys).foldl (fun m k => if (findRow k).isSome then SMap.put m k () else m) ([] : SMap Unit))

/-- DIRECTORY as a requester sees it: class F objects only for class F. -/
def directoryImage (s : State) (who : Requester) : List Byte :=
  (allKeys.filter fun k => decide (clsNo who = 3) || decide (keyIdx k < 0xF000)).flatMap (directoryRecord s)

/-- BUCKETS: the level of each source now; of an SRAM macro, that of its rows with the newest event. -/
def bucketLevel (s : State) (id : Nat) : Nat :=
  let ks := (SMap.keys s.coll.buckets).filter fun k => decide (k % 2048 = id)
  let tick (k : Nat) : Nat := ((SMap.find s.coll.buckets k).map (·.2)).getD 0
  match ks.foldl (fun b k => match b with
    | some j => if tick j < tick k then some k else some j
    | none => some k) none with
  | some k => leakedLevel s k (sourceNow s id).window
  | none => 0

def bucketsImage (s : State) : List Byte := (List.range 1152).flatMap fun id => leBytes 4 (bucketLevel s id)

/-- KEEPER_DIRECTORY: six records of state and SEQ. -/
def keeperImage (s : State) : List Byte := s.mem.keeper.toList.flatMap fun k =>
  [BitVec.ofNat 8 k.state] ++ List.replicate 7 0 ++ leBytes 8 k.seq

/-- TRACE_DATA: the words held, oldest sample first. -/
def traceImage (s : State) (a : Nat) : List Byte :=
  (vget s.traces a ⟨[], 0, 0, 0, false⟩).samples.flatMap fun w => w.flatMap fun x => leBytes 4 x.toNat

/-- A word of the ledger slot that the requester's class selects (R484). -/
def ledgerWord (s : State) (who : Requester) (j : Nat) : Nat :=
  fieldAt (ledgerSlot s (vget s.dict.slotSelect (clsNo who) 0)) (4 * j) 4

/-! ### What an object reads -/

/-- The unit number of a key of a family. -/
def unitIx (f : Nat → Key) (n : Nat) (k : Key) : Option Nat := (List.range n).find? fun i => decide (f i = k)

/-- The surface of a per-head object. -/
def surfaceIx (f : Nat → Nat → Key) (k : Key) : Option Nat :=
  (List.range 48).find? fun u => decide (f (u / 12) (u % 12) = k)

/-- START_MODE (R102). HALTED answers nobody. -/
def RunMode.code : RunMode → Nat
  | .starting | .halted => 0
  | .normal => 1
  | .maintenance => 2
  | .romMaintenance => 3

/-- Objects that are views of the service, the start controller and the package. -/
def viewService (s : State) (who : Requester) (k : Key) : Option Val :=
  if k = Obj.deviceSerial then some (.bytes Config.fuseSerial.toList)
  else if k = Obj.uniqueId then some (.num Config.fuseUniqueId.toNat)
  else if k = Obj.directory then some (.bytes (directoryImage s who))
  else if k = Obj.restoreDefaults then
    some ((SMap.find s.objs k).getD (.num (if storedFlag s then 1 else 0)))
  else if k = Obj.storeCount then some (.num (((newestCopy s).map (·.2.count)).getD 0))
  else if k = Obj.requester then some (.num (reqNo who))
  else if k = Obj.mbusTransport then some (.num (s.num Obj.straps % 2))
  else if k = Obj.mbusStaticAddr then some (.num (0x38 + s.num Obj.straps / 4 % 4))
  else if k = Obj.factoryActive then some (.num (if factoryListens s then 1 else 0))
  else if k = Obj.startMode then some (.num s.start.mode.code)
  else if k = Obj.currentStep then some (.num s.start.step)
  else if k = Obj.startLedger then some (.bytes (startLedgerImage s))
  else if k = Obj.ledgerNewest then some (.num (((s.start.ledger.getLast?).map (·.seq)).getD 0))
  else none

/-- Objects that are views of firmware, lifecycle and keys. DESIGN CHOICE (log 74): a slot INVALID because power was lost while it was
programmed shows an empty version, security version 0 and a digest of zeros. -/
def viewFirmware (s : State) (k : Key) : Option Val :=
  if k = Obj.lifecycle then some (.num (lifecycle s))
  else if k = Obj.scanLock then some (.num (if scanLocked s then 1 else 0))
  else if k = Obj.activeSlot then some (.num (activeSlot s))
  else if k = Obj.pendingSlot then some (.num (pendingSlot s))
  else if k = Obj.ownerKey then some (.bytes s.fw.ownerKey)
  else if k = Obj.devicePubkey then some (.bytes (pubkeyOf s))
  else match unitIx Obj.slotState 2 k, unitIx Obj.slotVersion 2 k, unitIx Obj.slotSecurityVersion 2 k, unitIx Obj.slotDigest 2 k with
    | some i, _, _, _ => some (.num (imageSlot s i).state)
    | _, some i, _, _ => some (.bytes (slice (imageSlot s i).bytes 8 8))
    | _, _, some i, _ => some (.num (imageSecurityVersion (imageSlot s i).bytes))
    | _, _, _, some i => some (.bytes (padTo 64 (sigDigest (sigBlock (imageSlot s i).bytes (imageLen (imageSlot s i).bytes)))))
    | _, _, _, _ => none

/-- Objects that are views of the medium, the layout, memory and the motion and girth units. -/
def viewMedia (s : State) (k : Key) : Option Val :=
  if k = Obj.descriptor then some (.bytes (descriptorImage s))
  else if k = Obj.wiBitmap then some (.bytes (bitmapBytes s.layout.dirtyGroups 0 131072))
  else if k = Obj.allocBitmap then some (.bytes (bitmapBytes s.layout.allocated 0 8388608))
  else if k = Obj.remapTable then some (.bytes (remapImage s))
  else if k = Obj.holders then some (.bytes (s.media.holders.toList.map fun h => BitVec.ofNat 8 h))
  else if k = Obj.suspectList then some (.bytes (suspectImage s))
  else if k = Obj.lostList then some (.bytes (lostImage s))
  else if k = Obj.unwrittenPages then some (.num (pageCount - s.mem.written.length))
  else if k = Obj.keeperDirectory then some (.bytes (keeperImage s))
  else if k = Obj.neighbours then some (.bytes (neighboursBytes s))
  else if k = Obj.ringSize ∧ !ownRecent s then some (.num 0)
  else if k = Obj.epochOffset then some (.num (ofSigned 64 (epochNow s)))
  else match surfaceIx Obj.zoneTable k, surfaceIx Obj.grownList k, unitIx Obj.traceData 4 k, unitIx (engKey · 4) 16 k with
    | some u, _, _, _ => some (.bytes (zoneBlock s.fw.bundle u))
    | _, some u, _, _ => some (.bytes (vget s.media.grown u []).flatten)
    | _, _, some a, _ => some (.bytes (traceImage s a))
    | _, _, _, some e => some (.num e)
    | _, _, _, _ => none

/-- Objects that are views of the collectors. -/
def viewCollector (s : State) (who : Requester) (k : Key) : Option Val :=
  if k = Obj.buckets then some (.bytes (bucketsImage s))
  else if k = Obj.macroMap then some (.bytes Config.macroMap)
  else if k = Obj.eventLedger then some (.bytes (ledgerImage s))
  else if k = Obj.slotSelect then some (.num (vget s.dict.slotSelect (clsNo who) 0))
  else match unitIx Obj.firstError 9 k, unitIx Obj.objWord 16 k with
    | some r, _ => some (.bytes (captureBytes (vget s.coll.captures r ⟨false, ⟨0, 0, 0, 0, 5, 0, 0⟩, 0, 0⟩)))
    | _, some j => some (.num (ledgerWord s who j))
    | _, _ => none

/-- What an object reads where the state fixes it. -/
def view (s : State) (who : Requester) (k : Key) : Val :=
  (viewService s who k <|> viewFirmware s k <|> viewMedia s k <|> viewCollector s who k).getD (s.obj k)

/-- Objects whose value the state does not fix: what a converter measures, the words that an engine's memories corrected as they were read
(R249; log entry 37), and what stands in a slot that holds no image (log entry 1). -/
def measured (s : State) (k : Key) : Bool :=
  decide (k ∈ [Obj.vfaMv, Obj.vfbMv, Obj.inputMa, Obj.spinIMa]) || (unitIx (engKey · 6) 16 k).isSome ||
  [0, 1].any fun i => (decide (k = Obj.slotVersion i) || decide (k = Obj.slotSecurityVersion i) || decide (k = Obj.slotDigest i)) &&
    decide ((imageSlot s i).state ≠ 1) && decide ((imageSlot s i).state ≠ 2)

/-- A free value of an object's type. -/
def freeVal (s : State) (k : Key) : Val × State :=
  let (v, s) := s.draw
  match findRow k with
  | some r =>
    if r.typ.scalar then (.num (v % 2 ^ (8 * r.typ.size)), s)
    else (.bytes ((leBytes r.len v).map fun b => if r.typ = .str then BitVec.ofNat 8 (0x20 + b.toNat % 95) else b), s)
  | none => (.num 0, s)

/-- The value that a read returns, with what reading it does: LIFECYCLE_NONCE draws a new one (R120), TJ_C the sensors' present value
(R47), FEED_STATE whether the current limit is active, which no rule fixes (R52). -/
def readValue (s : State) (who : Requester) (k : Key) : Val × State :=
  if k = Obj.lifecycleNonce then ((.num (nonceRead s who).1), (nonceRead s who).2)
  else if measured s k then freeVal s k
  else if k = Obj.tjC then (view s.senseTj who k, s.senseTj)
  else if k = Obj.feedState then
    let s := (s.draw.2).setNum k (putBit (s.num k) 5 (decide (s.draw.1 % 2 = 1)))
    (view s who k, s)
  else (view s who k, s)

/-- The cores that switch at this moment of a freeze (R113): none, the security core, one noun core, or verb cores. Which it is nothing
fixes (log 64). -/
def switchingCores (s : State) : List Nat :=
  let x := Config.switching s.tick s.free
  if !s.fw.frozen then []
  else match x % 7 with
    | 0 => []
    | 1 => [8]
    | 6 => (List.range 4).filter (bit (x / 7))
    | n => [n + 2]

/-- The core that owns an object (DEDUCED, log 64): its mailbox, its request ring, its maintenance registers (R69, R205, R442). -/
def coreOwning (k : Key) : Option Nat :=
  let idx := keyIdx k
  if 0x1180 ≤ idx ∧ idx ≤ 0x1188 then some (idx - 0x1180)
  else if 0x4808 ≤ idx ∧ idx ≤ 0x480B then some (idx - 0x4808 + 4)
  else if 0x9110 ≤ idx ∧ idx ≤ 0x9118 then some (idx - 0x9110)
  else none

/-- Objects owned by a core that is switching give 0x06 (R114). -/
def switchingBusy (s : State) (k : Key) : Bool := match coreOwning k with
  | some c => (switchingCores s).contains c
  | none => false

/-- Check 8 of a read: TRACE_DATA reads in DONE only (R280), and nothing of a switching core (R114). -/
def readBusy (s : State) (k : Key) : Bool := switchingBusy s k || match unitIx Obj.traceData 4 k with
  | some a => decide (s.num (Obj.traceState a) ≠ 3)
  | none => false

/-- The status of a read, as far as it does not depend on the form of the request. -/
def readStatus (s : State) (who : Requester) (k : Key) : Nat :=
  firstOf [gateStatus s who k false, failIf (unitOut s k) dsUnavailable]

/-- A read of a whole value: a BLOB moves only by block transfer, and some paths carry scalars alone. -/
def readObject (s : State) (who : Requester) (k : Key) (scalarOnly : Bool) : Nat × Val × State :=
  let typ := (findRow k).map (·.typ)
  let st := firstOf [readStatus s who k,
    failIf (decide (typ = some .blob) || (scalarOnly && !(typ.map Typ.scalar).getD false)) dsType, failIf (readBusy s k) dsBusy]
  if st = dsOk then (st, readValue s who k) else (st, .num 0, s)

/-! ### Segments (R60) -/

def genOf (s : State) (k : Key) : Nat := SMap.findD s.dict.gens k 0

/-- A generation's step. -/
def bumpGen (s : State) (k : Key) : State :=
  s.setDict { s.dict with gens := SMap.put s.dict.gens k ((genOf s k + 1) % 2 ^ 32) }

/-- BLOBs whose generation the rules count: those that are written, the directory, the event ledger and the snapshots. -/
def countsGen (k : Key) : Bool :=
  decide (k = Obj.directory) || decide (k = Obj.eventLedger) || (unitIx Obj.snapshot 5 k).isSome ||
  match findRow k with
  | some r => [0, 2, 4, 6, 8].any fun i => bit r.acc (i + 1)
  | none => true

/-- A segment's read of a BLOB that the device keeps finds it changed since the last one: its generation has stepped. -/
def noteContents (s : State) (k : Key) (b : List Byte) : State :=
  if countsGen k then s
  else match SMap.find s.dict.seen k with
    | none => s.setDict { s.dict with seen := SMap.put s.dict.seen k b }
    | some old => if old = b then s else bumpGen (s.setDict { s.dict with seen := SMap.put s.dict.seen k b }) k

/-- A segment of an object's value: status, generation (0 but for a BLOB), total length, data. -/
structure Segment where
  status : Nat
  gen : Nat
  total : Nat
  data : List Byte
  deriving DecidableEq, Repr

/-- A block read (R60). DESIGN CHOICE (log 72): a STR or REC reads like a BLOB's segment, the part that OFFSET and LENGTH name. -/
def readSegment (s : State) (who : Requester) (k : Key) (off len : Nat) : Segment × State :=
  let st := firstOf [readStatus s who k, failIf (readBusy s k) dsBusy]
  if st = dsOk then
    let (v, s) := readValue s who k
    let b := valBytes k v
    let blob := decide ((findRow k).map (·.typ) = some .blob)
    let s := if blob then noteContents s k b else s
    (⟨st, if blob then genOf s k else 0, b.length, slice b off len⟩, s)
  else (⟨st, 0, 0, []⟩, s)

end Sys2Proof.Machine
end

