-- ==== Sys2Proof/Machine/DictWrite.lean ====
section
/-!
DEFINITION. The dictionary service as a writer: checks 4 to 8 of a write, what each object's write does, units' ENABLE,
BLOB staging, mailboxes (R46, R54–R58, R60, R61, R63, R65, R69, R78–R81, R89, R100, R109, R117–R120, R124, R180, R189,
R206, R227, R229, R271, R275, R278, R280, R281, R294, R315, R322, R326, R329, R330, R395, R416, R429, R442, R448, R449,
R471, R473, R482, R484).
-/

namespace Sys2Proof.Machine

/-! ### Check 4: lifecycle -/

def inFactory (s : State) : Bool := factoryListens s

/-- The lifecycle state allows the write. -/
def lifecycleAllows (s : State) (who : Requester) (k : Key) (b : List Byte) : Bool :=
  if k = Obj.driveModel ∨ k = Obj.driveSerial then decide (lifecycle s = lcManufacture)
  else if isActKey Obj.surfaceMask k ∨ k = Obj.formatRpm ∨ k = Obj.polePairs then inFactory s
  else if k = Obj.ownerKey then ownerKeyAllowed s who
  else if k = Obj.certChain0 then chainAllowed s who 0
  else if k = Obj.certChain1 then chainAllowed s who 1
  else if k = Obj.unretire then decide (lifecycle s = lcReturn)
  else if k = Obj.lifecycleRequest then targetAllowed s (byteAt b 0)
  else true

/-! ### Units (R79–R81, R89, R189, R281) -/

/-- The start step after which a unit's STATE is decided (R80). -/
def unitStep : Owner → Nat
  | .actuator _ | .player _ | .engine _ => 15
  | .reader _ _ => 13
  | .girth => 12
  | .port _ => 20
  | _ => 9

/-- An absent actuator and its lanes keep their STATE (R135). -/
def unitAbsent (s : State) : Owner → Bool
  | .actuator a | .reader a _ => !actPresent s a
  | _ => false

/-- A namespace on an S-type map exists. -/
def sTypeExists (s : State) : Bool := s.host.namespaces.any fun e => decide ((mapSlotOf s e.2.mapSlot).typ = 1)

/-- The requester is host port p. -/
def isPort (who : Requester) (p : Nat) : Bool := match who with
  | .portA => decide (p = 0)
  | .portB => decide (p = 1)
  | _ => false

/-- ENABLE = 0 of a RUNNING unit is refused (R81). -/
def disableRefused (s : State) (who : Requester) : Owner → Bool
  | .actuator a => sTypeExists s && decide (s.num (Obj.actuatorForce a) ≠ 1)
  | .reader a _ => decide (runningReaders s a ≤ 1)
  | .detector _ => decide (runningDet s ≤ 1)
  | .ldpc _ => decide (runningLdpc s ≤ 1)
  | .dma _ => decide (runningDma s ≤ 1)
  | .port p => isPort who p && decide (s.num (Obj.portState (1 - p)) ≠ stRunning)
  | _ => false

/-- A host port that step 20 left out (R89). -/
def portLeftOut (s : State) (p : Nat) : Bool :=
  bit (s.num Obj.degraded) (8 + p) && decide (s.num (Obj.portState p) = stQuiesced)

/-- A write of ENABLE = 1 that runs the controller self-check of step 20 again. -/
def selfCheckDue (s : State) (k : Key) (v : Val) : Option Nat :=
  if v = .num 1 then (unitIx Obj.portEnable 2 k).filter (portLeftOut s) else none

/-- Check 8 of an ENABLE write. -/
def enableBusy (s : State) (who : Requester) (o : Owner) (v : Nat) (pass : Bool) : Bool :=
  let st := ((o.state).map s.num).getD stRunning
  (decide (v = 1) && decide (st = stQuiescing)) ||
  (decide (v = 0) && decide (st = stRunning) && disableRefused s who o) ||
  (match o with
   | .port p => decide (v = 1) && portLeftOut s p && !pass
   | _ => false)

/-- An actuator has no sentence playing. -/
def nothingPlays (s : State) (a : Nat) : Bool :=
  [2 * a, 2 * a + 1].all fun p => decide (s.num (Obj.loadState p) ≠ 3)

/-- A QUIESCING actuator whose last sentence has ended: its heads are parked, and once they are on the ramp it is QUIESCED with its rein
group stopped (R189, R281). -/
def settleActuator (s : State) (a : Nat) : State :=
  if s.num (Obj.actuatorState a) = stQuiescing ∧ nothingPlays s a then
    if loaded s a then retract s a
    else if s.num (Obj.driveState a) = dvRetracting then s
    else setActuator (stopGroup s a) a stQuiesced
  else s

/-- ENABLE = 0 of a RUNNING unit (R81, R214). -/
def disableUnit (s : State) (o : Owner) : State := match o with
  | .actuator a =>
    let s := surfacesFail (setActuator s a stQuiescing) a
    settleActuator (s.each [2 * a, 2 * a + 1] fun s p => if s.num (Obj.loadState p) = 2 then discardReady s p else s) a
  | .reader a k => laneTo s a k stQuiescing
  | .detector d => settleRates (s.setNum (Obj.detectorState d) stQuiescing)
  | .ldpc c => settleRates (s.setNum (Obj.ldpcState c) stQuiescing)
  | .dma ch => dmaDisable s ch
  | .girth => unjoin (s.setNum Obj.girthInputState stQuiesced)
  | .port p =>
    let q := if p = 0 then Port.a else Port.b
    let s := controllerReset (s.setNum (Obj.portState p) stQuiescing) q
    if s.fw.heldResets.contains q then s else s.setNum (Obj.portState p) stQuiesced
  | _ => s

/-- ENABLE = 1 of a QUIESCED unit. -/
def enableUnit (s : State) (o : Owner) : State := match o with
  | .actuator a => loadHeads (queueCoefs (startGroup s a) a (bundleCoefs s a)) a
  | .reader a k => laneTo s a k stRunning
  | .detector d => dispatch (settleRates (s.setNum (Obj.detectorState d) stRunning))
  | .ldpc c => dispatch (settleRates (s.setNum (Obj.ldpcState c) stRunning))
  | .dma ch => s.setNum (Obj.dmaState ch) stRunning
  | .girth => joinBegin (s.setNum Obj.girthInputState stRunning)
  | .port p => becomeReady (setDegraded (s.setNum (Obj.portState p) stRunning) (8 + p) false) (if p = 0 then .a else .b)
  | _ => s

/-- The STATE of a unit has been decided: its start step has passed, and was not skipped by a MAINTENANCE start (R80, R98). -/
def unitDecided (s : State) (o : Owner) : Bool :=
  stepDone s (unitStep o) && !(s.start.maintenance && decide (11 ≤ unitStep o) && decide (unitStep o ≤ 19))

/-- An accepted ENABLE write (R79, R80, R89, R135): the value is recorded, also for the attempts that follow in this start sequence; STATE
changes only from RUNNING and QUIESCED, after the unit's start step. -/
def enableWrite (s : State) (o : Owner) (v : Nat) : State :=
  match o.enable, o.state with
  | some ek, some sk =>
    let was := s.num ek
    let st := s.num sk
    let out : Bool := match o with
      | .port p => portLeftOut s p
      | _ => false
    let s := s.setNum ek v
    let s := s.setStart { s.start with enables := SMap.put s.start.enables ek v }
    if !unitDecided s o || unitAbsent s o then s
    else if v = 0 ∧ was = 1 ∧ st = stRunning then disableUnit s o
    else if v = 1 ∧ st = stQuiesced ∧ (was = 0 ∨ out) then enableUnit s o
    else s
  | _, _ => s

/-- UNIT_QUIESCED (R79): the last in-flight work of a QUIESCING unit has ended. -/
def quiesced (s : State) (o : Owner) : State := match o, o.state with
  | .actuator a, _ => settleActuator s a
  | .dma ch, _ => settleDma s ch
  | .port p, some k =>
    if s.num k = stQuiescing ∧ !s.fw.heldResets.contains (if p = 0 then Port.a else Port.b) then s.setNum k stQuiesced else s
  | .detector d, some k => if s.num k = stQuiescing ∧ !coreBusy s true d then s.setNum k stQuiesced else s
  | .ldpc c, some k => if s.num k = stQuiescing ∧ !coreBusy s false c then s.setNum k stQuiesced else s
  | .reader _ _, some k => if s.num k = stQuiescing then s.setNum k stQuiesced else s
  | _, _ => s

/-! ### Check 7: ranges that depend on the state or lie inside a REC -/

/-- Ranges of the scalars that depend on other state. -/
def scalarRange (s : State) (k : Key) (n : Nat) : Bool :=
  if k = Obj.clearUpto then decide (n ≤ s.coll.newestSeq)
  else if k = Obj.newNsMap then decide (n = 0xFFFF) || (SMap.find s.layout.bundleMaps n).isSome
  else if k = Obj.retireSurface then decide ((retireSurfaceAsk s n).1 ≠ dsRange)
  else if k = Obj.unretire then (retiredIds s).contains n
  else match unitIx Obj.ringTail 4 k, unitIx Obj.loadAddr 8 k, unitIx Obj.traceRate 4 k, unitIx Obj.traceNodes 4 k, unitIx Obj.tracePre 4 k with
    | some r, _, _, _, _ => decide (n < s.num (Obj.ringEntries r))
    | _, some _, _, _, _ => inDram n 128
    | _, _, some _, _, _ => decide (1 ≤ n % 512) && decide (n % 512 ≤ 256) && decide (n % 2 ^ 15 / 512 = 0)
    | _, _, _, some _, _ => decide (fld n 17 16 ≤ 2)
    | _, _, _, _, some a => decide (n < traceCap s a)
    | _, _, _, _, _ => true

/-- Fields of the RECs. -/
def recordRange (s : State) (who : Requester) (k : Key) (b : List Byte) : Bool :=
  if k = Obj.zeroRange then
    decide (fieldAt b 0 8 % 4096 = 0) && decide (fieldAt b 8 8 % 4096 = 0) && inDram (fieldAt b 0 8) (fieldAt b 8 8)
  else if k = Obj.dictRequest then
    decide (byteAt b 0 ≤ 1) && decide (byteAt b 1 = 0) && decide (fieldAt b 2 2 ≤ 1023) && decide (byteAt b 7 = 0) &&
    decide (fieldAt b 12 4 = 0)
  else if k = Obj.announce then decide ((announceNow s b).1 ≠ dsRange)
  else if k = Obj.reshapeRequest then decide ((reshapeAsk s b).1 ≠ dsRange)
  else if k = Obj.lifecycleRequest then decide ((lifecycleAsk s who b).1 = dsOk)
  else match unitIx Obj.preampAccess 4 k, unitIx Obj.coefWrite 5 k, unitIx Obj.traceTrigger 4 k with
    | some _, _, _ => decide (byteAt b 0 ≤ 1) && decide (fieldAt b 2 2 = 0)
    | _, some _, _ => decide (fieldAt b 0 2 ≤ 1023) && decide (fieldAt b 2 2 = 0) && q32Ok (fieldAt b 4 8)
    | _, _, some _ =>
      decide (byteAt b 0 ≤ 4) && decide (byteAt b 1 ≤ 15) && decide (fieldAt b 2 2 < 128) && decide (fieldAt b 8 4 = 0)
    | _, _, _ => true

/-- Check 7. -/
def inRange (s : State) (who : Requester) (k : Key) (v : Val) : Bool :=
  valueOk s k v && match v with
  | .num n => scalarRange s k n
  | .bytes b => recordRange s who k b

/-! ### Check 8: the owner cannot take the access now -/

/-- The trace of an actuator is armed or triggered (R280). -/
def traceBusy (s : State) (k : Key) : Bool := (List.range 4).any fun a =>
  (decide (k = Obj.traceNodes a) || decide (k = Obj.traceRate a) || decide (k = Obj.traceTrigger a) || decide (k = Obj.tracePre a) ||
    decide (k = Obj.traceTap0 a) || decide (k = Obj.traceTap1 a)) &&
  (decide (s.num (Obj.traceState a) = 1) || decide (s.num (Obj.traceState a) = 2))

/-- A DMA channel's objects while it is BUSY, and GO while its STATE is not RUNNING (R448); STOP is for a channel at work. -/
def dmaAskBusy (s : State) (k : Key) (n : Nat) : Bool := (List.range 8).any fun ch =>
  ((decide (k = Obj.objSrc ch) || decide (k = Obj.objDst ch) || decide (k = Obj.objCount ch)) && dmaBusy s ch) ||
  (decide (k = Obj.objCtrl ch) &&
    ((dmaBusy s ch && !(bit n 2 && !bit n 0)) || (bit n 0 && decide (s.num (Obj.dmaState ch) ≠ stRunning))))

/-- Objects of a sentence player (R227, R230). -/
def playerBusy (s : State) (k : Key) : Bool := (List.range 8).any fun p =>
  (decide (k = Obj.timingMode p) && (decide (s.num (Obj.loadState p) ≠ 0) || !nothingPlays s (playerAct p))) ||
  (decide (k = Obj.loadAddr p) && ((decide (s.num (Obj.loadState p) ≠ 0) && decide (s.num (Obj.loadState p) ≠ 4)) ||
    decide (s.num (Obj.playerState p) ≠ stRunning)))

/-- PREAMP_ACCESS (R180). -/
def preampBusy (s : State) (k : Key) (b : List Byte) : Bool := (List.range 4).any fun a =>
  decide (k = Obj.preampAccess a) && (!formatSelected s a ||
    (decide (byteAt b 0 = 1) && decide (s.num (Obj.actuatorState a) ≠ stQuiesced) &&
      (decide (byteAt b 1 = (preampRegs s a).mode) || decide (byteAt b 1 = (preampRegs s a).head) ||
        decide (byteAt b 1 = (preampRegs s a).writeCurrent))))

/-- Objects of rings, groups and per-core units. -/
def unitBusy (s : State) (k : Key) : Bool :=
  (match unitIx Obj.ringBase 4 k <|> unitIx Obj.ringEntries 4 k with
   | some r => decide (s.num (Obj.ringHead r) ≠ s.num (Obj.ringTail r))
   | none => false) ||
  (match unitIx Obj.coefWrite 5 k, unitIx Obj.inject 5 k with
   | some g, _ => coefBusy s g
   | _, some g => decide (s.num (Obj.groupState g) = gsPair)
   | _, _ => false) ||
  (match unitIx Obj.maintOp 9 k, unitIx Obj.mbCmd 9 k with
   | some n, _ => decide (s.num (Obj.maintStatus n) = 1)
   | _, some n => (SMap.find s.dict.mailbox n).isSome
   | _, _ => false)

/-- Check 8 of a write. -/
def writeBusy (s : State) (who : Requester) (k : Key) (v : Val) (pass : Bool) : Bool :=
  (isEnable k && enableBusy s who (unitOfIdx (keyIdx k)) v.toNum pass) ||
  (decide (k = Obj.objStore) && decide (v.toNum = 1) && s.dict.job.isSome) ||
  ((decide (k = Obj.spareSurfaces) || decide (k = Obj.formatRpm) || decide (k = Obj.polePairs)) && !s.host.namespaces.isEmpty) ||
  (decide (k = Obj.zeroRange) && s.mem.zeroing.isSome) ||
  (decide (k = Obj.retireSurface) && decide ((retireSurfaceAsk s v.toNum).1 = dsBusy)) ||
  (decide (k = Obj.reshapeRequest) && decide ((reshapeAsk s v.toBytes).1 = dsBusy)) ||
  (decide (k = Obj.dictRequest) && decide ((dictRequestNow s v.toBytes).1 = dsBusy)) ||
  switchingBusy s k || traceBusy s k || dmaAskBusy s k v.toNum || playerBusy s k || preampBusy s k v.toBytes || unitBusy s k

/-- The status of a write of a whole value; none is a value whose type code or length does not match its object. -/
def writeStatus (s : State) (who : Requester) (k : Key) (v : Option Val) (pass : Bool) : Nat :=
  firstOf [gateStatus s who k true, failIf (!lifecycleAllows s who k ((v.map Val.toBytes).getD [])) dsLifecycle,
    failIf (unitOut s k) dsUnavailable,
    match v with
    | none => dsType
    | some v => firstOf [failIf (!inRange s who k v) dsRange, failIf (writeBusy s who k v pass) dsBusy]]

/-! ### What a write does -/

/-- A mailbox command is accepted (R69). -/
def mailboxStart (s : State) (core cmd : Nat) : State :=
  if cmd = 0 then s.setNum (Obj.mbCmd core) 0
  else
    let a := s.num (Obj.mbAddr core)
    let n := s.num (Obj.mbLength core)
    if !inDram a n then (s.setNum (Obj.mbCmd core) 0).setNum (Obj.mbStatus core) dsRange
    else
      let job : MailboxJob := ⟨decide (cmd ≠ 1), decide (cmd = 3), s.num (Obj.mbObject core) % 2 ^ 24, a, s.num (Obj.mbOffset core), n⟩
      let s := s.setDict { s.dict with mailbox := SMap.put s.dict.mailbox core job }
      (s.setNum (Obj.mbCmd core) cmd).setNum (Obj.mbStatus core) dsBusy

/-- The frame that PREAMP_ACCESS queues (R179, R180). -/
def accessFrame (b : List Byte) : PreampFrame where
  priority := 4
  reg := byteAt b 1
  data := if byteAt b 0 = 1 then some (fieldAt b 4 4) else none
  verify := false
  tries := 0

/-- Writes that act on the service, the start controller, power and the collectors. -/
def actService (s : State) (who : Requester) (k : Key) (v : Val) : Option State :=
  let n := v.toNum
  if k = Obj.objStore then some (if n = 1 then storeBegin s else s)
  else if k = Obj.restoreDefaults then some (recordStore (s.setNum k n) .restoreFlag)
  else if k = Obj.restart then some (restart s (decide (n = 2)))
  else if k = Obj.powerCap then
    some (let s := s.setNum k n
      if s.num Obj.powerState < n ∧ !s.start.running then requestPower s n else s)
  else if k = Obj.lifecycleRequest then some (lifecycleAsk s who v.toBytes).2
  else if k = Obj.unretire then some (unretireAsk s n).2
  else if k = Obj.clearUpto then some (clearLedger s n (reqNo who))
  else if k = Obj.clearAll then some (if n = 1 then clearLedger s s.coll.newestSeq (reqNo who) else s)
  else if k = Obj.slotSelect then some (s.setDict { s.dict with slotSelect := vmod s.dict.slotSelect (clsNo who) fun _ => n })
  else if k = Obj.retireSurface then some (retireSurfaceAsk s n).2
  else if k = Obj.reshapeRequest then some (reshapeAsk s v.toBytes).2
  else if k = Obj.zeroRange then some (zeroRangeBegin s (fieldAt v.toBytes 0 8) (fieldAt v.toBytes 8 8))
  else if k = Obj.reserveLimitPct then some (settleRates (s.setNum k n))
  else if k = Obj.phaseSlot ∨ k = Obj.phaseOffset ∨ k = Obj.phaseGroup then some (rephase (s.setNum k n))
  else if k = Obj.announce then some (announceNow s v.toBytes).2
  else if k = Obj.dictRequest then some (dictRequestNow s v.toBytes).2
  else (unitIx Obj.captureClear 9 k).map fun r => if n = 1 then captureRearm s r else s

/-- Writes that act on the channel, the players, the rein engines and the trace. -/
def actServo (s : State) (k : Key) (v : Val) : Option State :=
  let n := v.toNum
  (unitIx Obj.preampAccess 4 k).map (fun a => queueFrame s a (accessFrame v.toBytes)) <|>
  (unitIx Obj.loadAddr 8 k).map (fun p => loadBegin s p n) <|>
  (unitIx Obj.objAbort 8 k).map (fun p => if n = 1 then playerAbort s p else s) <|>
  (unitIx Obj.coefWrite 5 k).map (fun g => coefQueue s g v.toBytes) <|>
  (unitIx Obj.snapRequest 5 k).map (fun g => snapAsk s g n) <|>
  (unitIx Obj.inject 5 k).map (fun g => injectAsk s g n) <|>
  (unitIx Obj.traceArm 4 k).map (fun a => traceArmNow s a n) <|>
  (unitIx Obj.traceForce 4 k).map (fun a => traceForceNow s a n) <|>
  (unitIx Obj.ffGain 4 k).map (fun r => setFfGain s r n)

/-- Writes that act on per-core and DMA units. -/
def actCore (s : State) (k : Key) (v : Val) : Option State :=
  let n := v.toNum
  (unitIx Obj.mbCmd 9 k).map (fun c => mailboxStart s c n) <|>
  (unitIx Obj.maintOp 9 k).map (fun c => maintBegin s c n) <|>
  (unitIx Obj.objCtrl 8 k).map (fun ch => dmaCtrl s ch n) <|>
  (unitIx Obj.notifyPending 8 k).map (fun ch => s.setNum (Obj.notifyPending ch) (s.num (Obj.notifyPending ch) &&& (0x1FF ^^^ n)))

/-- The effect of an accepted write: the object's own, else its new value. -/
def effect (s : State) (who : Requester) (k : Key) (v : Val) : State :=
  if isEnable k then enableWrite s (unitOfIdx (keyIdx k)) v.toNum
  else (actService s who k v <|> actServo s k v <|> actCore s k v).getD (s.setObj k v)

/-! ### Values on the wire -/

/-- The value of bytes under an object's type; none when the type code or the length does not match (R54, R56 check 6). -/
def decodeVal (k : Key) (typ len : Nat) (b : List Byte) : Option Val :=
  match findRow k with
  | none => none
  | some r =>
    if typ ≠ r.typ.code ∨ b.length ≠ len then none
    else if r.typ.scalar then (if len = r.typ.size then some (.num (leNat b)) else none)
    else match r.typ with
      | .str => if len ≤ r.len then some (.bytes b) else none
      | .record => if len = r.len then some (.bytes b) else none
      | _ => none

/-- The type code of an object. -/
def typOf (k : Key) : Nat := ((findRow k).map fun r => r.typ.code).getD 0
def isScalar (k : Key) : Bool := ((findRow k).map fun r => r.typ.scalar).getD false
def isBlob (k : Key) : Bool := decide ((findRow k).map (·.typ) = some .blob)

/-! ### Whole writes and lists -/

/-- The outcome of the controller self-check that a write runs, where the request does not bring it: a free value (log entry 1). -/
def selfCheckOutcome (s : State) (due : Bool) (given : Option Bool) : Bool × State :=
  match given with
  | some b => (b, s)
  | none => if due then (decide (s.draw.1 % 2 = 1), s.draw.2) else (true, s)

/-- A self-check that failed raises a further event of its port (R89). -/
def selfCheckEvent (s : State) (k : Key) (v : Option Val) (pass : Bool) : State :=
  match v.bind (selfCheckDue s k) with
  | some p => if pass then s else s.raise (96 + p)
  | none => s

/-- Whether the response leaves before the effect (R81, R100, R120): a port that disables itself, a restart, a lifecycle transition. -/
def answersFirst (who : Requester) (k : Key) : Bool :=
  decide (k = Obj.restart) || decide (k = Obj.lifecycleRequest) || (isPort who 0 && decide (k = Obj.portEnable 0)) ||
  (isPort who 1 && decide (k = Obj.portEnable 1))

/-- A write of a whole value with its response: checks, effect, answer (R56, R61). -/
def writeObject (s : State) (who : Requester) (k : Key) (v : Option Val) (given : Option Bool) (answer : State → Nat → State) : State :=
  let due := (v.bind (selfCheckDue s k)).isSome
  let (pass, s) := selfCheckOutcome s due given
  let st := writeStatus s who k v pass
  if st = dsOk then
    match v with
    | some v => if answersFirst who k then effect (answer s st) who k v else answer (effect s who k v) st
    | none => answer s st
  else answer (if st = dsBusy then selfCheckEvent s k v pass else s) st

/-- The number and status of a list's first failing entry (R58). -/
def firstFailing (s : State) (who : Requester) (pass : Bool) (l : List (Key × Option Val)) : Option (Nat × Nat) :=
  (l.zipIdx.map fun (e, i) => (i, writeStatus s who e.1 e.2 pass)).find? fun x => decide (x.2 ≠ dsOk)

/-- A list write: all or nothing, in list order (R58). The answer gets the first failing entry, if any. -/
def writeList (s : State) (who : Requester) (l : List (Key × Option Val)) (answer : State → Option (Nat × Nat) → State) : State :=
  let due := l.any fun e => (e.2.bind (selfCheckDue s e.1)).isSome
  let (pass, s) := selfCheckOutcome s due none
  match firstFailing s who pass l with
  | some f =>
    let s := match l[f.1]? with
      | some e => if f.2 = dsBusy then selfCheckEvent s e.1 e.2 pass else s
      | none => s
    answer s (some f)
  | none =>
    let run (s : State) (l : List (Key × Option Val)) : State := l.foldl (fun s e => match e.2 with
      | some v => effect s who e.1 v
      | none => s) s
    let first := l.any fun e => answersFirst who e.1
    if first then run (answer s none) l else answer (run s l) none

/-! ### BLOB staging (R60) -/

def stagingOf (s : State) (k : Key) : Option Staging := SMap.find s.dict.stagings k

def dropStaging (s : State) (k : Key) : State := s.setDict { s.dict with stagings := SMap.erase s.dict.stagings k }

/-- What LAST does with the whole BLOB: the status, and the state. -/
def applyBlob (s : State) (k : Key) (b : List Byte) : Nat × State :=
  if k = Obj.bundleStage then bundleAsk s b
  else if k = Obj.recoveryImage then recoveryAsk s b
  else if k = Obj.ownerKey then ownerKeyAsk s b
  else if k = Obj.certChain0 then chainAsk s 0 b
  else if k = Obj.certChain1 then chainAsk s 1 b
  else if valueOk s k (.bytes b) then (dsOk, s.setStr k b) else (dsRange, s)

/-- RECOVERY_IMAGE is taken only in MAINTENANCE and ROM_MAINTENANCE (R118). -/
def blobBusy (s : State) (who : Requester) (k : Key) : Bool :=
  (decide (k = Obj.recoveryImage) && decide (s.start.mode ≠ .maintenance) && decide (s.start.mode ≠ .romMaintenance)) ||
  match stagingOf s k with
  | some g => decide (g.owner ≠ who)
  | none => false

/-- Bytes of the requester's own open staging. -/
def ownStaged (s : State) (who : Requester) (k : Key) : List Byte := match stagingOf s k with
  | some g => if g.owner = who then g.data else []
  | none => []

/-- A segment of a BLOB write: the status, the generation, the state. -/
def writeSegment (s : State) (who : Requester) (k : Key) (off : Nat) (data : List Byte) (last : Bool) : Nat × Nat × State :=
  let st := firstOf [gateStatus s who k true, failIf (!lifecycleAllows s who k []) dsLifecycle, failIf (unitOut s k) dsUnavailable,
    failIf (!isBlob k) dsType]
  if st ≠ dsOk then (st, 0, s)
  else
    let held := ownStaged s who k
    if blobBusy s who k then (dsBusy, genOf s k, s)
    else if off ≠ held.length ∨ 16 * 2 ^ 20 < off + data.length then
      (dsRange, genOf s k, if (stagingOf s k).isSome then dropStaging s k else s)
    else if !last then
      (dsOk, genOf s k, s.setDict { s.dict with stagings := SMap.put s.dict.stagings k ⟨who, held ++ data⟩ })
    else
      let r := applyBlob s k (held ++ data)
      if r.1 = dsOk then
        let s := bumpGen (dropStaging r.2 k) k
        (dsOk, genOf s k, s)
      else (r.1, genOf s k, if r.1 = dsBusy then r.2 else dropStaging r.2 k)

/-! ### Mailbox transfers (R69) -/

/-- A transfer ends with a status. -/
def mailboxEnd (s : State) (core status gen : Nat) : State :=
  let s := s.setDict { s.dict with mailbox := SMap.erase s.dict.mailbox core }
  ((s.setNum (Obj.mbCmd core) 0).setNum (Obj.mbStatus core) status).setNum (Obj.mbGen core) gen

/-- What a finished transfer moved. -/
def mailboxMove (s : State) (who : Requester) (core : Nat) (j : MailboxJob) : State :=
  if (findRow j.key).isSome ∧ isScalar j.key then
    mailboxEnd s core (firstOf [gateStatus s who j.key j.write, failIf (unitOut s j.key) dsUnavailable, dsType]) 0
  else if !j.write then
    let (x, s) := readSegment s who j.key j.offset j.len
    if x.status = dsOk then mailboxEnd (cachedWrite s j.addr x.data) core dsOk x.gen else mailboxEnd s core x.status 0
  else
    let st := firstOf [gateStatus s who j.key true, failIf (unitOut s j.key) dsUnavailable]
    if st = dsOk ∧ cachedPoisoned s.mem j.addr j.len then mailboxEnd s core dsPoisoned (genOf s j.key)
    else
      let data := cachedRead s.mem j.addr j.len
      if isBlob j.key then
        let (st, gen, s) := writeSegment s who j.key j.offset data j.last
        mailboxEnd s core st gen
      else writeObject s who j.key (decodeVal j.key (typOf j.key) j.len data) none fun s st => mailboxEnd s core st 0

end Sys2Proof.Machine
end

