-- ==== Sys2Proof/Machine/DictService.lean ====
section
/-!
DEFINITION. The dictionary's transports: NVMe vendor admin commands, Bolhoba messages on the management bus and the factory port, the
cores' window and mailboxes, DICT frames, the die-to-die link, and the writes that have a row of their own (R67–R76, R284, R328).
-/

namespace Sys2Proof.Machine

/-! ### NVMe vendor admin commands (R70–R72) -/

def portWho : Port → Requester
  | .a => .portA
  | .b => .portB

/-- A dictionary status as an NVMe status code type and code. -/
def nvmeStatus (st : Nat) : Nat × Nat := if st = dsOk then scOk else (7, 0xC0 + st)

/-- Key and MODE of Dword 10. -/
def cmdKey (c : CmdSlot) : Key := key (c.cmd.cdw10 / 65536 % 65536) (c.cmd.cdw10 / 256 % 256)
def cmdMode (c : CmdSlot) : Nat := c.cmd.cdw10 % 256

/-- A vendor dictionary command whose controller is served: its slot, requester and key. -/
def dictCmd (s : State) (slot op : Nat) : Option (CmdSlot × Requester × Key) :=
  match adminCmd s slot op with
  | some c => if heard s (portWho c.port) (cmdKey c) then some (c, portWho c.port, cmdKey c) else none
  | none => none

/-- 0xC0 Get: a scalar's bytes in Dwords 0 and 1. -/
def execDictionaryGet (slot : Nat) (s : State) : Host.Outcome State Fault Refusal :=
  match dictCmd s slot 0xC0 with
  | none => .next s
  | some (c, who, k) =>
    if cmdMode c ≠ 0 then .next (endAdmin s slot scInvalidField)
    else
      let (st, v, s) := readObject s who k true
      .next (endAdmin s slot (nvmeStatus st) (v.toNum % 2 ^ 32) (v.toNum / 2 ^ 32))

/-- 0xC1 Set, MODE 1: a whole value, or a BLOB's segment. -/
def execDictionarySet (slot : Nat) (data : List Byte) (s : State) : Host.Outcome State Fault Refusal :=
  match dictCmd s slot 0xC1 with
  | none => .next s
  | some (c, who, k) =>
    let len := c.cmd.cdw12
    let b := padTo len (data.take len)
    if cmdMode c = 0 then .next s
    else if cmdMode c ≠ 1 ∨ 2 * 2 ^ 20 < len then .next (endAdmin s slot scInvalidField)
    else if isBlob k then
      let (st, gen, s) := writeSegment s who k c.cmd.cdw11 b (bit c.cmd.cdw13 0)
      .next (endAdmin s slot (nvmeStatus st) 0 (if st = dsOk ∧ bit c.cmd.cdw13 0 then gen else 0))
    else .next (writeObject s who k (decodeVal k (typOf k) len b) none fun s st => endAdmin s slot (nvmeStatus st))

/-- An entry of a list (R72). -/
def listEntryAt (b : List Byte) (i : Nat) : ListEntry :=
  let e := slice b (16 * i) 16
  ⟨fieldAt e 0 2, byteAt e 2, byteAt e 3, byteAt e 5, slice e 8 8⟩

/-- What an entry asks to be written: none when it names no scalar, or its type code or length does not match. -/
def entryAsk (e : ListEntry) : Key × Option Val :=
  let k := key e.index e.sub
  (k, if isScalar k then decodeVal k e.typ e.length (e.value.take e.length) else none)

/-- 0xC1 Set, MODE 0: a list, all or nothing. -/
def execDictionarySetList (slot : Nat) (data : List Byte) (s : State) : Host.Outcome State Fault Refusal :=
  match dictCmd s slot 0xC1 with
  | none => .next s
  | some (c, who, _) =>
    let len := c.cmd.cdw12
    let b := padTo len (data.take len)
    let n := fieldAt b 0 4
    if cmdMode c ≠ 0 then .next s
    else if n = 0 ∨ 256 < n ∨ len ≠ 16 + 16 * n ∨ (slice b 4 12).any (· ≠ 0) then .next (endAdmin s slot scInvalidField)
    else
      .next (writeList s who ((List.range n).map fun i => entryAsk (listEntryAt (b.drop 16) i)) fun s f => match f with
        | some (i, st) => endAdmin s slot (nvmeStatus st) (i % 65536) 0
        | none => endAdmin s slot scOk 0xFFFF 0)

/-- 0xC2 Block Transfer, MODE 1: a value, or a BLOB's segment. -/
def execDictionaryBlockRead (slot : Nat) (s : State) : Host.Outcome State Fault Refusal :=
  match dictCmd s slot 0xC2 with
  | none => .next s
  | some (c, who, k) =>
    if cmdMode c = 2 then .next s
    else if cmdMode c ≠ 1 then .next (endAdmin s slot scInvalidField)
    else
      let (x, s) := readSegment s who k c.cmd.cdw11 c.cmd.cdw12
      if x.status = dsOk then .next (endAdmin (s.emit (.hostData c.port c.cmd.cid x.data)) slot scOk x.gen x.total)
      else .next (endAdmin s slot (nvmeStatus x.status))

/-- A returned list entry. The fields of a failing entry besides its name and status are free (log entry 1). -/
def entryBytes (k : Key) (typ status len value : Nat) : List Byte :=
  leBytes 2 (keyIdx k) ++ leBytes 1 (keySub k) ++ leBytes 1 typ ++ leBytes 1 status ++ leBytes 1 len ++ [0, 0] ++ leBytes 8 value

/-- Read the objects of a list, entry by entry (R59). -/
def readList (who : Requester) : List Key → State → List Byte × State
  | [], s => ([], s)
  | k :: r, s =>
    let (st, v, s) := readObject s who k true
    if st = dsOk then
      let rest := readList who r s
      (entryBytes k (typOf k) st (valBytes k v).length v.toNum ++ rest.1, rest.2)
    else
      let (x, s) := s.draw
      let rest := readList who r s
      (entryBytes k (x % 256) st (x / 256 % 256) (x / 65536) ++ rest.1, rest.2)

/-- The further objects that Dwords 11–15 name, up to a zero Dword. -/
def listDwords (c : CmdSlot) : List Nat :=
  [c.cmd.cdw11, c.cmd.cdw12, c.cmd.cdw13, c.cmd.cdw14, c.cmd.cdw15].takeWhile (· ≠ 0)

/-- 0xC2 Block Transfer, MODE 2: up to six objects. -/
def execDictionaryListRead (slot : Nat) (s : State) : Host.Outcome State Fault Refusal :=
  match dictCmd s slot 0xC2 with
  | none => .next s
  | some (c, who, k) =>
    if cmdMode c ≠ 2 then .next s
    else if (listDwords c).any fun d => decide (d % 256 ≠ 0) then .next (endAdmin s slot scInvalidField)
    else
      let ks := k :: (listDwords c).map fun d => d / 256
      let (b, s) := readList who ks s
      .next (endAdmin (s.emit (.hostData c.port c.cmd.cid b)) slot scOk ks.length 0)

/-! ### Bolhoba messages (R73–R76) -/

def bolhobaWho : BolhobaPort → Requester
  | .mbus => .mbus
  | .factory => .factory

def hdrKey (h : BolhobaHeader) : Key := key (h.index % 65536) (h.sub % 256)

/-- What goes on the wire around a body: the message type and the enterprise number, most significant byte first, or the factory port's frame
(R54, R73, R76). -/
def wireOf (p : BolhobaPort) (b : List Byte) : List Byte := match p with
  | .mbus => [0x7F, 0x00, 0x00, 0xE5, 0x5A] ++ b
  | .factory =>
    let f := leBytes 2 b.length ++ b
    0xA5 :: f ++ leBytes 2 (crc16 f)

/-- A response's body: the header, and a payload. -/
def responseBody (h : BolhobaHeader) (opcode st idx sub count : Nat) (payload : List Byte) : List Byte :=
  [0x01, BitVec.ofNat 8 (opcode + 128), BitVec.ofNat 8 h.tag, BitVec.ofNat 8 st] ++ leBytes 2 idx ++
    [BitVec.ofNat 8 sub, BitVec.ofNat 8 count] ++ payload

def bolhobaPortNo : BolhobaPort → Nat
  | .mbus => 0
  | .factory => 1

/-- Requests of a port that are outstanding: their response has not left. DESIGN CHOICE (log 62): the management bus has one endpoint. -/
def outstanding (s : State) (p : BolhobaPort) : Nat :=
  (s.dict.inFlight.filter fun e => decide (e.1 = bolhobaPortNo p) && decide (s.tick < e.2)).length

/-- The port holds as many requests as it accepts (R75, R76). -/
def portFull (s : State) (p : BolhobaPort) : Bool := match p with
  | .mbus => decide (4 ≤ outstanding s p)
  | .factory => decide (1 ≤ outstanding s p)

/-- A response leaves; its request is outstanding until a tick within 10 ms (R75; log 62). -/
def respond (s : State) (h : BolhobaHeader) (opcode st idx sub count : Nat) (payload : List Byte) : State :=
  let due := s.tick + Config.answerTicks s.tick h.tag % 250001
  let s := s.setDict { s.dict with
    inFlight := (s.dict.inFlight.filter fun e => decide (s.tick < e.2)) ++ [(bolhobaPortNo h.port, due)] }
  s.emit (.bolhoba h.port (wireOf h.port (responseBody h opcode st idx sub count payload)))

/-- A response about the object that the request names. -/
def answerBolhoba (s : State) (h : BolhobaHeader) (opcode st : Nat) (payload : List Byte) : State :=
  respond s h opcode st h.index h.sub 0 payload

/-- The message reaches the service: a factory frame with a bad CRC is discarded (R76). -/
def bolhobaReaches (s : State) (h : BolhobaHeader) : Bool :=
  (decide (h.port = .mbus) || h.crcOk) && heard s (bolhobaWho h.port) (hdrKey h)

/-- The message is served. -/
def bolhobaHeard (s : State) (h : BolhobaHeader) : Bool := bolhobaReaches s h && !portFull s h.port

/-- A message that is not served: one too many is answered at once with 0x06 and its own TAG (R75, R76); else it is lost. -/
def bolhobaTurned (s : State) (h : BolhobaHeader) (opcode : Nat) : State :=
  if bolhobaReaches s h then s.emit (.bolhoba h.port (wireOf h.port (responseBody h opcode dsBusy h.index h.sub 0 []))) else s

/-- GET. -/
def execBolhobaGet (h : BolhobaHeader) (s : State) : Host.Outcome State Fault Refusal :=
  if !bolhobaHeard s h then .next (bolhobaTurned s h 0x01)
  else
    let k := hdrKey h
    let (st, v, s) := readObject s (bolhobaWho h.port) k false
    let b := valBytes k v
    .next (answerBolhoba s h 0x01 st (if st = dsOk then [BitVec.ofNat 8 (typOf k), 0] ++ leBytes 2 b.length ++ b else []))

/-- SET. -/
def execBolhobaSet (h : BolhobaHeader) (typ len : Nat) (value : List Byte) (s : State) : Host.Outcome State Fault Refusal :=
  if !bolhobaHeard s h then .next (bolhobaTurned s h 0x02)
  else .next (writeObject s (bolhobaWho h.port) (hdrKey h) (decodeVal (hdrKey h) typ len value) none fun s st =>
    answerBolhoba s h 0x02 st [])

/-- LIST_GET. -/
def execBolhobaListGet (h : BolhobaHeader) (keys : List (Nat × Nat)) (s : State) : Host.Outcome State Fault Refusal :=
  if !bolhobaHeard s h then .next (bolhobaTurned s h 0x03)
  else if keys.isEmpty ∨ 32 < keys.length then .next (respond s h 0x03 dsType h.index h.sub keys.length [])
  else
    let (b, s) := readList (bolhobaWho h.port) (keys.map fun e => key (e.1 % 65536) (e.2 % 256)) s
    .next (respond s h 0x03 dsOk h.index h.sub keys.length b)

/-- LIST_SET. -/
def execBolhobaListSet (h : BolhobaHeader) (entries : List ListEntry) (s : State) : Host.Outcome State Fault Refusal :=
  if !bolhobaHeard s h then .next (bolhobaTurned s h 0x04)
  else if entries.isEmpty ∨ 32 < entries.length then .next (respond s h 0x04 dsType h.index h.sub entries.length [])
  else
    .next (writeList s (bolhobaWho h.port) (entries.map entryAsk) fun s f => match f with
      | some (i, st) => match entries[i]? with
        | some e => respond s h 0x04 st e.index e.sub entries.length []
        | none => respond s h 0x04 st h.index h.sub entries.length []
      | none => respond s h 0x04 dsOk h.index h.sub entries.length [])

/-- BLOCK_READ. -/
def execBolhobaBlockRead (h : BolhobaHeader) (offset len : Nat) (s : State) : Host.Outcome State Fault Refusal :=
  if !bolhobaHeard s h then .next (bolhobaTurned s h 0x05)
  else if 960 < len then .next (answerBolhoba s h 0x05 dsType [])
  else
    let (x, s) := readSegment s (bolhobaWho h.port) (hdrKey h) offset len
    .next (answerBolhoba s h 0x05 x.status (if x.status = dsOk then leBytes 4 x.gen ++ leBytes 4 x.total ++ x.data else []))

/-- BLOCK_WRITE: GENERATION is valid after LAST; before it, it is free (log entry 1). -/
def execBolhobaBlockWrite (h : BolhobaHeader) (offset : Nat) (last : Bool) (data : List Byte) (s : State) :
    Host.Outcome State Fault Refusal :=
  if !bolhobaHeard s h then .next (bolhobaTurned s h 0x06)
  else if 960 < data.length then .next (answerBolhoba s h 0x06 dsType [])
  else
    let (st, gen, s) := writeSegment s (bolhobaWho h.port) (hdrKey h) offset data last
    if st ≠ dsOk then .next (answerBolhoba s h 0x06 st [])
    else if last then .next (answerBolhoba s h 0x06 st (leBytes 4 gen))
    else .next (answerBolhoba s.draw.2 h 0x06 st (leBytes 4 s.draw.1))

/-- BOLHOBA_UNKNOWN_OPCODE: another enterprise number is discarded; an unknown opcode or VERSION is answered with 0x04. -/
def execBolhobaUnknownOpcode (h : BolhobaHeader) (pen version opcode : Nat) (s : State) : Host.Outcome State Fault Refusal :=
  if pen ≠ 58714 then .next s
  else if version = 1 ∧ 1 ≤ opcode ∧ opcode ≤ 6 then .next s
  else if !bolhobaHeard s h then .next (bolhobaTurned s h (opcode % 128))
  else .next (answerBolhoba s h (opcode % 128) dsType [])

/-- FACTORY_FRAME_GAP (R76): the frame is discarded without a response, and the service has seen nothing of it. -/
def execFactoryFrameGap (s : State) : Host.Outcome State Fault Refusal := .next s

/-- DYNAMIC_ADDRESS_ASSIGNMENT (R31): on an I3C bus, a 7-bit address. -/
def execDynamicAddressAssignment (addr : Nat) (s : State) : Host.Outcome State Fault Refusal :=
  if mainPowered s && decide (s.start.mode ≠ .halted) && decide (s.num Obj.straps % 2 = 0) && decide (addr < 128) then
    .next (s.setNum Obj.mbusDynamicAddr addr)
  else .next s

/-! ### The cores' window (R22, R67, R68) -/

def windowBase : Nat := 0x20000000

/-- Slot and offset of a window address. -/
def windowKey (addr : Nat) : Key := key ((addr - windowBase) / 0x1000) ((addr - windowBase) / 16 % 256)
def windowOff (addr : Nat) : Nat := (addr - windowBase) % 16
def inCoreWindow (addr : Nat) : Bool := decide (windowBase ≤ addr) && decide (addr < 0x30000000)

/-- Width of VALUE: the type's size, 4 for STR, REC and BLOB. -/
def valueWidth (k : Key) : Nat := match findRow k with
  | some r => if r.typ.scalar then r.typ.size else 4
  | none => 0

/-- A well-formed access at VALUE. -/
def valueAccess (k : Key) (off width : Nat) : Bool :=
  decide (off = 0) && (decide (width = valueWidth k) || ((findRow k).isNone && decide (width ∈ [1, 2, 4, 8])))

/-- STATUS of a core's last access to a slot. -/
def statusKey (core : Nat) (k : Key) : Nat := core * 2 ^ 24 + k
def noteStatus (s : State) (core : Nat) (k : Key) (st : Nat) : State :=
  s.setDict { s.dict with windowStatus := SMap.put s.dict.windowStatus (statusKey core k) st }

/-- ATTR: type code, maximum length, stored. -/
def attrOf (k : Key) : Nat := match findRow k with
  | some r => r.typ.code + 256 * (if r.typ.scalar then r.typ.size else r.len) + if r.stored then 65536 else 0
  | none => 0

/-- VALUE as a core reads it: a scalar, or the current length of a STR, REC or BLOB. A refused read returns zero. -/
def windowValue (s : State) (who : Requester) (k : Key) : Nat × Nat × State :=
  let st := firstOf [readStatus s who k, failIf (readBusy s k) dsBusy]
  if st = dsOk then
    let (v, s) := readValue s who k
    (st, (match v with
      | .num n => n
      | .bytes b => b.length), s)
  else (st, 0, s)

/-- WINDOW_READ. -/
def windowLoad (s : State) (core : Fin 9) (addr width : Nat) : State :=
  let k := windowKey addr
  let off := windowOff addr
  if !heard s (.core core) k then s
  else if !inCoreWindow addr then accessFault s core.val addr 0
  else if valueAccess k off width then
    let (st, v, s) := windowValue s (.core core) k
    (noteStatus s core.val k st).emit (.window core.val v)
  else if off = 8 ∧ width = 1 then s.emit (.window core.val (SMap.findD s.dict.windowStatus (statusKey core.val k) 0))
  else if off = 12 ∧ width = 4 then s.emit (.window core.val (attrOf k))
  else accessFault s core.val addr 0

def execWindowRead (core : Fin 9) (addr width : Nat) (s : State) : Host.Outcome State Fault Refusal :=
  .next (windowLoad s core addr width)

/-- WINDOW_WRITE: a scalar's value; STR, REC and BLOB give 0x04. -/
def windowStore (s : State) (core : Fin 9) (addr width value : Nat) : State :=
  let k := windowKey addr
  if !heard s (.core core) k then s
  else if !inCoreWindow addr ∨ !valueAccess k (windowOff addr) width then accessFault s core.val addr 1
  else writeObject s (.core core) k (if isScalar k then some (.num (value % 2 ^ (8 * width))) else none) none fun s st =>
    noteStatus s core.val k st

def execWindowWrite (core : Fin 9) (addr width value : Nat) (s : State) : Host.Outcome State Fault Refusal :=
  .next (windowStore s core addr width value)

/-! ### Writes with a row of their own -/

/-- The answer to a request whose transport the row leaves open: its status, which a core finds in STATUS too. -/
def answerPlain (who : Requester) (k : Key) (s : State) (st : Nat) : State :=
  let s := match who with
    | .core n => noteStatus s n.val k st
    | _ => s
  s.emit (.dictStatus who k st)

/-- A write of a whole value by a requester. -/
def commandWrite (s : State) (who : Requester) (k : Key) (v : Option Val) (check : Option Bool := none) : State :=
  if heard s who k then writeObject s who k v check (answerPlain who k) else s

/-- A scalar, and the bytes of a STR or REC; a scalar that does not fit its type is no value of it. -/
def numAsk (k : Key) (n : Nat) : Option Val := if isScalar k ∧ n < 2 ^ widthOf k then some (.num n) else none
def recAsk (k : Key) (b : List Byte) : Option Val := decodeVal k (typOf k) b.length b

/-- The last segment of a BLOB by a requester. -/
def commandLast (s : State) (who : Requester) (k : Key) (offset : Nat) (data : List Byte) : State :=
  if heard s who k then
    let (st, _, s) := writeSegment s who k offset data true
    answerPlain who k s st
  else s

/-- POWER_CAP_WRITE (R46). -/
def execPowerCapWrite (who : Requester) (value : Nat) (s : State) : Host.Outcome State Fault Refusal :=
  .next (commandWrite s who Obj.powerCap (numAsk Obj.powerCap value))

/-- STORE (R63). -/
def execStore (who : Requester) (value : Nat) (s : State) : Host.Outcome State Fault Refusal :=
  .next (commandWrite s who Obj.objStore (numAsk Obj.objStore value))

/-- RESTORE_DEFAULTS (R65). -/
def execRestoreDefaults (who : Requester) (value : Nat) (s : State) : Host.Outcome State Fault Refusal :=
  .next (commandWrite s who Obj.restoreDefaults (numAsk Obj.restoreDefaults value))

/-- UNIT_DISABLE, UNIT_ENABLE (R79–R81): ENABLE of a unit's index. -/
def execUnitDisable (who : Requester) (index : Nat) (s : State) : Host.Outcome State Fault Refusal :=
  if isEnable (key index 1) then .next (commandWrite s who (key index 1) (some (.num 0))) else .next s

def execUnitEnable (who : Requester) (index : Nat) (selfCheck : Bool) (s : State) : Host.Outcome State Fault Refusal :=
  if isEnable (key index 1) then .next (commandWrite s who (key index 1) (some (.num 1)) (some selfCheck)) else .next s

/-- UNIT_QUIESCED (R79). -/
def execUnitQuiesced (index : Nat) (s : State) : Host.Outcome State Fault Refusal := .next (quiesced s (unitOfIdx index))

/-- OBJECT_WRITE (R56). -/
def execObjectWrite (who : Requester) (index sub typ len : Nat) (value : List Byte) (s : State) : Host.Outcome State Fault Refusal :=
  .next (commandWrite s who (key index sub) (decodeVal (key index sub) typ len value))

/-- RESTART (R100). -/
def execRestartNormal (who : Requester) (s : State) : Host.Outcome State Fault Refusal :=
  .next (commandWrite s who Obj.restart (some (.num 1)))
def execRestartMaintenance (who : Requester) (s : State) : Host.Outcome State Fault Refusal :=
  .next (commandWrite s who Obj.restart (some (.num 2)))

/-- BUNDLE_STAGE_LAST (R117), RECOVERY_IMAGE_LAST (R118), OWNER_KEY_WRITE (R109), CERT_CHAIN_WRITE (R124). -/
def execBundleStageLast (who : Requester) (offset : Nat) (data : Bytes) (s : State) : Host.Outcome State Fault Refusal :=
  .next (commandLast s who Obj.bundleStage offset data)
def execRecoveryImageLast (who : Requester) (offset : Nat) (data : Bytes) (s : State) : Host.Outcome State Fault Refusal :=
  .next (commandLast s who Obj.recoveryImage offset data)
def execOwnerKeyWrite (who : Requester) (offset : Nat) (data : Bytes) (s : State) : Host.Outcome State Fault Refusal :=
  .next (commandLast s who Obj.ownerKey offset data)
def execCertChainWrite (who : Requester) (chain : Fin 2) (offset : Nat) (data : Bytes) (s : State) :
    Host.Outcome State Fault Refusal :=
  .next (commandLast s who (chainKey chain.val) offset data)

/-- LIFECYCLE_NONCE_READ (R120). -/
def execLifecycleNonceRead (who : Requester) (s : State) : Host.Outcome State Fault Refusal :=
  if heard s who Obj.lifecycleNonce then
    let (st, v, s) := readObject s who Obj.lifecycleNonce true
    .next (s.emit (.dictValue who Obj.lifecycleNonce st v.toNum))
  else .next s

/-- LIFECYCLE_REQUEST (R120). -/
def execLifecycleRequest (who : Requester) (value : List Byte) (s : State) : Host.Outcome State Fault Refusal :=
  .next (commandWrite s who Obj.lifecycleRequest (recAsk Obj.lifecycleRequest value))

/-- PREAMP_ACCESS (R180). -/
def execPreampAccess (who : Requester) (a : Fin 4) (value : List Byte) (s : State) : Host.Outcome State Fault Refusal :=
  .next (commandWrite s who (Obj.preampAccess a.val) (recAsk (Obj.preampAccess a.val) value))

/-- RING_TAIL_WRITE (R206): the noun core's own ring. -/
def execRingTailWrite (core : Fin 9) (value : Nat) (s : State) : Host.Outcome State Fault Refusal :=
  if 4 ≤ core.val ∧ core.val < 8 then
    .next (commandWrite s (.core core) (Obj.ringTail (core.val - 4)) (numAsk (Obj.ringTail (core.val - 4)) value))
  else .next s

/-- SENTENCE_LOAD (R227), PLAYER_ABORT (R229). -/
def execSentenceLoad (core : Fin 9) (p : Fin 8) (addr : Nat) (s : State) : Host.Outcome State Fault Refusal :=
  .next (commandWrite s (.core core) (Obj.loadAddr p.val) (numAsk (Obj.loadAddr p.val) addr))
def execPlayerAbort (core : Fin 9) (p : Fin 8) (value : Nat) (s : State) : Host.Outcome State Fault Refusal :=
  .next (commandWrite s (.core core) (Obj.objAbort p.val) (numAsk (Obj.objAbort p.val) value))

/-- COEF_WRITE (R271), SNAP_REQUEST (R275), INJECT (R278). -/
def execCoefWrite (who : Requester) (g : Fin 5) (value : List Byte) (s : State) : Host.Outcome State Fault Refusal :=
  .next (commandWrite s who (Obj.coefWrite g.val) (recAsk (Obj.coefWrite g.val) value))
def execSnapRequest (who : Requester) (g : Fin 5) (value : Nat) (s : State) : Host.Outcome State Fault Refusal :=
  .next (commandWrite s who (Obj.snapRequest g.val) (numAsk (Obj.snapRequest g.val) value))
def execInject (who : Requester) (g : Fin 5) (slot : Nat) (s : State) : Host.Outcome State Fault Refusal :=
  .next (commandWrite s who (Obj.inject g.val) (numAsk (Obj.inject g.val) slot))

/-- TRACE_ARM, TRACE_FORCE (R280). -/
def execTraceArm (who : Requester) (a : Fin 4) (value : Nat) (s : State) : Host.Outcome State Fault Refusal :=
  .next (commandWrite s who (Obj.traceArm a.val) (numAsk (Obj.traceArm a.val) value))
def execTraceForce (who : Requester) (a : Fin 4) (value : Nat) (s : State) : Host.Outcome State Fault Refusal :=
  .next (commandWrite s who (Obj.traceForce a.val) (numAsk (Obj.traceForce a.val) value))

/-- ANNOUNCE (R322), DICT_REQUEST (R329). -/
def execAnnounce (who : Requester) (value : List Byte) (s : State) : Host.Outcome State Fault Refusal :=
  .next (commandWrite s who Obj.announce (recAsk Obj.announce value))
def execDictRequest (who : Requester) (value : List Byte) (s : State) : Host.Outcome State Fault Refusal :=
  .next (commandWrite s who Obj.dictRequest (recAsk Obj.dictRequest value))

/-- RETIRE_SURFACE (R395), RESHAPE_REQUEST and its cancel (R416). -/
def execRetireSurface (who : Requester) (value : Nat) (s : State) : Host.Outcome State Fault Refusal :=
  .next (commandWrite s who Obj.retireSurface (numAsk Obj.retireSurface value))
def execReshapeRequest (who : Requester) (value : List Byte) (s : State) : Host.Outcome State Fault Refusal :=
  .next (commandWrite s who Obj.reshapeRequest (recAsk Obj.reshapeRequest value))
def execReshapeCancel (who : Requester) (value : List Byte) (s : State) : Host.Outcome State Fault Refusal :=
  .next (commandWrite s who Obj.reshapeRequest (recAsk Obj.reshapeRequest value))

/-- ZERO_RANGE (R429). -/
def execZeroRange (who : Requester) (value : List Byte) (s : State) : Host.Outcome State Fault Refusal :=
  .next (commandWrite s who Obj.zeroRange (recAsk Obj.zeroRange value))

/-- A write of a core's own MAINT_OP (R442). -/
def maintWrite (s : State) (core : Fin 9) (op : Nat) : State :=
  commandWrite s (.core core) (Obj.maintOp core.val) (some (.num op))

def execCacheClean (core : Fin 9) (s : State) : Host.Outcome State Fault Refusal := .next (maintWrite s core 1)
def execCacheInvalidate (core : Fin 9) (s : State) : Host.Outcome State Fault Refusal := .next (maintWrite s core 2)
def execCacheCleanInvalidate (core : Fin 9) (s : State) : Host.Outcome State Fault Refusal := .next (maintWrite s core 3)
def execCacheFillLock (core : Fin 9) (s : State) : Host.Outcome State Fault Refusal := .next (maintWrite s core 4)
def execCacheUnlock (core : Fin 9) (s : State) : Host.Outcome State Fault Refusal := .next (maintWrite s core 5)
def execCacheCleanSw (core : Fin 9) (s : State) : Host.Outcome State Fault Refusal := .next (maintWrite s core 6)
def execCacheInvalidateSw (core : Fin 9) (s : State) : Host.Outcome State Fault Refusal := .next (maintWrite s core 7)
def execCacheCleanInvalidateSw (core : Fin 9) (s : State) : Host.Outcome State Fault Refusal := .next (maintWrite s core 8)

/-- Writes of CTRL (R448, R451, R455) and NOTIFY_PENDING (R449). -/
def execDmaGo (who : Requester) (ch : Fin 8) (ctrl : Nat) (s : State) : Host.Outcome State Fault Refusal :=
  .next (commandWrite s who (Obj.objCtrl ch.val) (numAsk (Obj.objCtrl ch.val) ctrl))
def execDmaChainGo (who : Requester) (ch : Fin 8) (ctrl : Nat) (s : State) : Host.Outcome State Fault Refusal :=
  .next (commandWrite s who (Obj.objCtrl ch.val) (numAsk (Obj.objCtrl ch.val) ctrl))
def execDmaStop (who : Requester) (ch : Fin 8) (ctrl : Nat) (s : State) : Host.Outcome State Fault Refusal :=
  .next (commandWrite s who (Obj.objCtrl ch.val) (numAsk (Obj.objCtrl ch.val) ctrl))
def execNotifyClear (who : Requester) (ch : Fin 8) (value : Nat) (s : State) : Host.Outcome State Fault Refusal :=
  .next (commandWrite s who (Obj.notifyPending ch.val) (numAsk (Obj.notifyPending ch.val) value))

/-- CAPTURE_CLEAR (R473), CLEAR_UPTO and CLEAR_ALL (R482), UNRETIRE (R471), a source entry (R466). -/
def execCaptureClear (who : Requester) (r : Fin 9) (value : Nat) (s : State) : Host.Outcome State Fault Refusal :=
  .next (commandWrite s who (Obj.captureClear r.val) (numAsk (Obj.captureClear r.val) value))
def execClearUpto (who : Requester) (value : Nat) (s : State) : Host.Outcome State Fault Refusal :=
  .next (commandWrite s who Obj.clearUpto (numAsk Obj.clearUpto value))
def execClearAll (who : Requester) (value : Nat) (s : State) : Host.Outcome State Fault Refusal :=
  .next (commandWrite s who Obj.clearAll (numAsk Obj.clearAll value))
def execUnretire (who : Requester) (value : Nat) (s : State) : Host.Outcome State Fault Refusal :=
  .next (commandWrite s who Obj.unretire (numAsk Obj.unretire value))
def execSourceEntryWrite (who : Requester) (id : Nat) (value : List Byte) (s : State) : Host.Outcome State Fault Refusal :=
  .next (commandWrite s who (0x710000 + id) (recAsk (0x710000 + id) value))

/-! ### Mailboxes and staging (R60, R69) -/

/-- A write of a core's own MB_CMD. -/
def mailboxWrite (s : State) (core : Fin 9) (cmd : Nat) : State :=
  commandWrite s (.core core) (Obj.mbCmd core.val) (some (.num cmd))

def execMbRead (core : Fin 9) (s : State) : Host.Outcome State Fault Refusal := .next (mailboxWrite s core 1)
def execMbWrite (core : Fin 9) (s : State) : Host.Outcome State Fault Refusal := .next (mailboxWrite s core 2)
def execMbWriteLast (core : Fin 9) (s : State) : Host.Outcome State Fault Refusal := .next (mailboxWrite s core 3)

/-- MB_TRANSFER_DONE. -/
def execMbTransferDone (core : Fin 9) (s : State) : Host.Outcome State Fault Refusal :=
  match SMap.find s.dict.mailbox core.val with
  | none => .next s
  | some j => if heard s (.core core) j.key then .next (mailboxMove s (.core core) core.val j) else .next s

/-- BLOB_STAGING_ABANDON. -/
def execBlobStagingAbandon (index sub : Nat) (s : State) : Host.Outcome State Fault Refusal := .next (dropStaging s (key index sub))

/-! ### DICT frames (R328) -/

/-- The VALUE field of an object: a Q32 as its value with shift 0; none for what is longer than 4 bytes. -/
def girthValue (k : Key) (v : Val) : Option Nat := match findRow k with
  | some r =>
    if r.typ = .q32 then some (ofSigned 32 (q31 v.toNum))
    else if r.typ.scalar && decide (r.typ.size ≤ 4) then some v.toNum else none
  | none => none

/-- The value that a SET brings. -/
def girthAsk (k : Key) (value : Nat) : Option Val := match findRow k with
  | some r =>
    if r.typ = .q32 then some (.num (value % 2 ^ 32))
    else if r.typ.scalar && decide (r.typ.size ≤ 4) && decide (value < 2 ^ (8 * r.typ.size)) then some (.num value) else none
  | none => none

/-- The RESPONSE goes to the requester's ORIGIN with its TAG. -/
def girthAnswer (s : State) (h : GirthHeader) (tag idx sub st value : Nat) : State :=
  sendDict s (dictPayload h.origin 2 tag idx sub st value)

/-- GIRTH_DICT_GET. -/
def execGirthDictGet (h : GirthHeader) (target tag index sub : Nat) (s : State) : Host.Outcome State Fault Refusal :=
  .next (receive s gtDict h (dictPayload target 0 tag index sub 0 0) fun s =>
    let k := key index sub
    if target ≠ girthHop s ∨ !heard s .girth k then s
    else
      let (st, v, s) := readObject s .girth k true
      if st ≠ dsOk then girthAnswer s h tag index sub st 0
      else match girthValue k v with
        | some n => girthAnswer s h tag index sub dsOk n
        | none => girthAnswer s h tag index sub dsType 0)

/-- GIRTH_DICT_SET. -/
def execGirthDictSet (h : GirthHeader) (target tag index sub value : Nat) (s : State) : Host.Outcome State Fault Refusal :=
  .next (receive s gtDict h (dictPayload target 1 tag index sub 0 value) fun s =>
    let k := key index sub
    if target ≠ girthHop s ∨ !heard s .girth k then s
    else writeObject s .girth k (girthAsk k (value % 2 ^ 32)) none fun s st => girthAnswer s h tag index sub st 0)

/-! ### Motion-die objects (R284, R286) -/

/-- LINK_OBJECT: an access to 0x6000–0x60FF goes to the motion die and back as OBJECT messages. During the reset of the main die it gives
0x06; so it does while the link is not up. -/
def execLinkObject (who : Requester) (index sub : Nat) (write : Option (List Byte)) (s : State) : Host.Outcome State Fault Refusal :=
  let k := key index sub
  if index / 256 ≠ 0x60 then .next s
  else if s.start.inReset ∧ s.motion.notice.isSome ∧ mainPowered s ∧ s.start.mode ≠ .halted then .next (answerPlain who k s dsBusy)
  else if !heard s who k then .next s
  else if gateStatus s who k write.isSome = dsOk ∧ s.num Obj.linkState ≠ 1 then .next (answerPlain who k s dsBusy)
  else
    let asked := if gateStatus s who k write.isSome = dsOk then s.emit (.link "OBJECT" [index, sub]) else s
    match write with
    | some b => .next (writeObject asked who k (decodeVal k (typOf k) b.length b) none (answerPlain who k))
    | none =>
      let (st, v, s) := readObject asked who k false
      .next (s.emit (.dictValue who k st v.toNum))

/-! ### Core accesses to the memory map (R21, R440) -/

/-- Parts of an access, one for each cache line it touches. -/
def accPart (acc : CoreAccess) (off n : Nat) : CoreAccess := match acc with
  | .store d => .store (slice d off n)
  | a => a

/-- A DRAM access, in the one or two lines it touches. -/
def dramParts (s : State) (core a width : Nat) (acc : CoreAccess) (ecc : EccOutcome) : State :=
  let n := 64 - a % 64
  if width ≤ n then dramAccess s core a width acc ecc
  else dramAccess (dramAccess s core a n (accPart acc 0 n) ecc) core (a + n) (width - n) (accPart acc n (width - n)) ecc

/-- The access lies in [base, base + size). -/
def within (a width base size : Nat) : Bool := decide (base ≤ a) && decide (a + width ≤ base + size)

/-- A namespace block of the reservation state (R355). -/
def reservationBlock (e : Nat × Reservation) : List Byte :=
  let r := e.2
  [BitVec.ofNat 8 e.1, if r.ptpl then 1 else 0, BitVec.ofNat 8 r.rtype, BitVec.ofNat 8 (r.regs.filter (·.valid)).length] ++
  leBytes 4 r.prgen ++ [BitVec.ofNat 8 r.holder] ++ List.replicate 55 0 ++
  padTo 1024 (r.regs.flatMap fun x => leBytes 16 x.host ++ leBytes 8 x.key ++ [if x.valid then 1 else 0] ++ List.replicate 7 0)

/-- A copy of the reservation state as it stands in NOR (R355). -/
def reservationCopy (c : Nat × SMap Reservation) : List Byte :=
  let b := leBytes 4 0x50525A4F ++ leBytes 4 0 ++ leBytes 8 c.1 ++
    ((List.range 16).flatMap fun i => match SMap.find c.2 (i + 1) with
      | some r => reservationBlock (i + 1, r)
      | none => List.replicate 1088 0) ++ List.replicate 15340 0
  b ++ leBytes 4 (crc32c b)

/-- The part of the NOR that holds an offset, where a rule gives its bytes (R96, R103, R105, R355, R483): its bytes, and its start. -/
def norPart (s : State) (off : Nat) : Option (List Byte × Nat) :=
  if off < 0x3000000 then some ((imageSlot s (off / 0x1800000)).bytes, off / 0x1800000 * 0x1800000)
  else if 0x3230000 ≤ off ∧ off < 0x3240000 then some (startLedgerImage s, 0x3230000)
  else if 0x3240000 ≤ off ∧ off < 0x32C0000 then
    let i := (off - 0x3240000) / 0x40000
    some (ledgerBytes (vget s.coll.norCopies i []), 0x3240000 + 0x40000 * i)
  else if 0x32D0000 ≤ off ∧ off < 0x32E0000 then
    let i := (off - 0x32D0000) / 0x8000
    let c := vget s.host.resCopies i (0, [])
    if c.1 = 0 then none else some (reservationCopy c, 0x32D0000 + 0x8000 * i)
  else none

/-- Bytes of the NOR window; free where no rule gives the layout, or nothing is programmed (log entry 1). -/
def norBytes (s : State) (off width : Nat) : List Byte × State :=
  match norPart s off with
  | some (b, base) =>
    if off - base + width ≤ b.length then (slice b (off - base) width, s) else (leBytes width s.draw.1, s.draw.2)
  | none => (leBytes width s.draw.1, s.draw.2)

/-- Bytes of a word store in the bank that BANK_CURRENT names. -/
def storeBytes (m : SMap Nat) (w off width : Nat) : List Byte :=
  (List.range width).map fun i => BitVec.ofNat 8 (SMap.findD m ((off + i) / w) 0 / 256 ^ ((off + i) % w))

/-- Byte of a slot of a sample buffer, of a phrase or clause store, of a trace buffer: the windows that cores read only (R21). None outside
them; a trace buffer's byte that holds no sample is free (log entry 1). -/
def windowByte (s : State) (a : Nat) : Option (Option Byte) :=
  if within a 1 0x40000000 0x800000 then
    let o := a - 0x40000000
    some ((sampleSlotBytes (SMap.findD s.dec.ringSlots (slotKey (o / 0x200000) (o % 0x200000 / 0x8000)) SampleSlot.empty))[o % 0x8000]?)
  else if within a 1 0x40800000 0x20000 then
    let i := (a - 0x40800000) / 0x8000
    some (storeBytes (vget (s.actOf i).phrases (s.num (Obj.bankCurrent (2 * i))) []) 32 ((a - 0x40800000) % 0x8000) 1)[0]?
  else if within a 1 0x40880000 0x20000 then some (traceImage s ((a - 0x40880000) / 0x8000))[(a - 0x40880000) % 0x8000]?
  else if within a 1 0x408A0000 0x10000 then
    let i := (a - 0x408A0000) / 0x4000
    some (storeBytes (vget (s.actOf i).clauses (s.num (Obj.bankCurrent (2 * i))) []) 4 ((a - 0x408A0000) % 0x4000) 1)[0]?
  else none

/-- What the read-only windows hold, byte by byte, also across a boundary between two slots, actuators or windows. -/
def windowBytes (s : State) (a width : Nat) : Option (List Byte × State) :=
  let l := (List.range width).map fun i => windowByte s (a + i)
  if l.any (·.isNone) then none
  else if l.all fun b => (b.getD none).isSome then some (l.map fun b => (b.getD none).getD 0, s)
  else
    let free := leBytes width s.draw.1
    some (l.zipIdx.map fun (b, i) => (b.getD none).getD (free.getD i 0), s.draw.2)

/-- The cores run: the main die has power and is not in reset. -/
def coresRun (s : State) : Bool := mainPowered s && !s.start.inReset && decide (s.start.mode ≠ .halted)

/-- A load from the NOR window, at an offset in the NOR (R21). -/
def norLoad (s : State) (core off width : Nat) : State :=
  let (b, s) := norBytes s off width
  s.emit (.coreData core b)

/-- CORE_MEMORY_ACCESS. DEDUCED (log 59): in ROM_MAINTENANCE, where DRAM is not used (R99), it is not there to be accessed. -/
def coreAccess (s : State) (core : Fin 9) (addr width : Nat) (acc : CoreAccess) (ecc : EccOutcome) : State :=
  let c := core.val
  let fault := accessFault s c addr (accKind acc)
  if inDram addr width then
    (if s.start.mode = .romMaintenance then fault else dramParts s c addr width acc ecc)
  else if within addr width (sramBase c) (sramSize c) then sramAccess s c addr width acc ecc
  else if inCoreWindow addr then
    match acc with
    | .load => windowLoad s core addr width
    | .store d => windowStore s core addr width (leNat (d.take width))
    | .fetch => fault
  else if accStore acc then fault
  else if within addr width 0 0x40000 then s.emit (.coreData c ((List.range width).map fun i => Config.bootRom (addr + i)))
  else if within addr width 0x10000000 0x4000000 then
    norLoad s c (addr - 0x10000000) width
  else if accFetch acc then fault
  else match windowBytes s addr width with
    | some (b, s) => s.emit (.coreData c b)
    | none => fault

def execCoreMemoryAccess (core : Fin 9) (addr width : Nat) (access : CoreAccess) (ecc : EccOutcome) (s : State) :
    Host.Outcome State Fault Refusal :=
  if coresRun s ∧ !coreStopped s core.val then .next (coreAccess s core addr width access ecc) else .next s

end Sys2Proof.Machine
end

