-- ==== Sys2Proof/Machine/Dispatch.lean ====
section
/-! DEFINITION. One arm per command: its meaning, named in full. -/

namespace Sys2Proof.Machine

def exec (i : Instr) (s : State) : Host.Outcome State Fault Refusal :=
  match i with
  | .powerGood => Sys2Proof.Machine.execPowerGood s
  | .feedPresent f => Sys2Proof.Machine.execFeedPresent f s
  | .feedLost f why => Sys2Proof.Machine.execFeedLost f why s
  | .feedSwitchReclose f => Sys2Proof.Machine.execFeedSwitchReclose f s
  | .railsOff => Sys2Proof.Machine.execRailsOff s
  | .railsUp => Sys2Proof.Machine.execRailsUp s
  | .pwrdisAssert => Sys2Proof.Machine.execPwrdisAssert s
  | .pwrdisRelease => Sys2Proof.Machine.execPwrdisRelease s
  | .vmCollapse => Sys2Proof.Machine.execVmCollapse s
  | .v3p3Overcurrent a => Sys2Proof.Machine.execV3p3Overcurrent a s
  | .throttleEnter tj => Sys2Proof.Machine.execThrottleEnter tj s
  | .throttleExit tj => Sys2Proof.Machine.execThrottleExit tj s
  | .thermalShutdown tj => Sys2Proof.Machine.execThermalShutdown tj s
  | .powerCapWrite who value => Sys2Proof.Machine.execPowerCapWrite who value s
  | .vcoreSteer minPercent => Sys2Proof.Machine.execVcoreSteer minPercent s
  | .writeUnsafe a src t => Sys2Proof.Machine.execWriteUnsafe a src t s
  | .writeFifoEmpty a => Sys2Proof.Machine.execWriteFifoEmpty a s
  | .gateEntryExecute p t adc => Sys2Proof.Machine.execGateEntryExecute p t adc s
  | .sampleOverrun a lane => Sys2Proof.Machine.execSampleOverrun a lane s
  | .dictionaryGet slot => Sys2Proof.Machine.execDictionaryGet slot s
  | .dictionarySet slot data => Sys2Proof.Machine.execDictionarySet slot data s
  | .dictionarySetList slot data => Sys2Proof.Machine.execDictionarySetList slot data s
  | .dictionaryBlockRead slot => Sys2Proof.Machine.execDictionaryBlockRead slot s
  | .dictionaryListRead slot => Sys2Proof.Machine.execDictionaryListRead slot s
  | .bolhobaGet h => Sys2Proof.Machine.execBolhobaGet h s
  | .bolhobaSet h typ len value => Sys2Proof.Machine.execBolhobaSet h typ len value s
  | .bolhobaListGet h keys => Sys2Proof.Machine.execBolhobaListGet h keys s
  | .bolhobaListSet h entries => Sys2Proof.Machine.execBolhobaListSet h entries s
  | .bolhobaBlockRead h offset len => Sys2Proof.Machine.execBolhobaBlockRead h offset len s
  | .bolhobaBlockWrite h offset last data => Sys2Proof.Machine.execBolhobaBlockWrite h offset last data s
  | .factoryFrameGap => Sys2Proof.Machine.execFactoryFrameGap s
  | .windowRead core addr width => Sys2Proof.Machine.execWindowRead core addr width s
  | .windowWrite core addr width value => Sys2Proof.Machine.execWindowWrite core addr width value s
  | .mbRead core => Sys2Proof.Machine.execMbRead core s
  | .mbWrite core => Sys2Proof.Machine.execMbWrite core s
  | .mbWriteLast core => Sys2Proof.Machine.execMbWriteLast core s
  | .mbTransferDone core => Sys2Proof.Machine.execMbTransferDone core s
  | .blobStagingAbandon index sub => Sys2Proof.Machine.execBlobStagingAbandon index sub s
  | .store who value => Sys2Proof.Machine.execStore who value s
  | .storeCommit programmed => Sys2Proof.Machine.execStoreCommit programmed s
  | .restoreDefaults who value => Sys2Proof.Machine.execRestoreDefaults who value s
  | .unitDisable who index => Sys2Proof.Machine.execUnitDisable who index s
  | .unitEnable who index selfCheck => Sys2Proof.Machine.execUnitEnable who index selfCheck s
  | .unitQuiesced index => Sys2Proof.Machine.execUnitQuiesced index s
  | .objectWrite who index sub typ len value => Sys2Proof.Machine.execObjectWrite who index sub typ len value s
  | .attemptBegin cause => Sys2Proof.Machine.execAttemptBegin cause s
  | .startStepEnd result found => Sys2Proof.Machine.execStartStepEnd result found s
  | .stepWatchdog found => Sys2Proof.Machine.execStepWatchdog found s
  | .startDeadline => Sys2Proof.Machine.execStartDeadline s
  | .restartNormal who => Sys2Proof.Machine.execRestartNormal who s
  | .restartMaintenance who => Sys2Proof.Machine.execRestartMaintenance who s
  | .perstDeassert p => Sys2Proof.Machine.execPerstDeassert p s
  | .perstAssert p => Sys2Proof.Machine.execPerstAssert p s
  | .firmwareImageDownload slot piece => Sys2Proof.Machine.execFirmwareImageDownload slot piece s
  | .firmwareCommitReplace slot => Sys2Proof.Machine.execFirmwareCommitReplace slot s
  | .firmwareCommitReplaceActivate slot => Sys2Proof.Machine.execFirmwareCommitReplaceActivate slot s
  | .firmwareCommitActivate slot => Sys2Proof.Machine.execFirmwareCommitActivate slot s
  | .firmwareCommitActivateNow slot => Sys2Proof.Machine.execFirmwareCommitActivateNow slot s
  | .firmwareCommitInvalidAction slot => Sys2Proof.Machine.execFirmwareCommitInvalidAction slot s
  | .firmwareCommitDone => Sys2Proof.Machine.execFirmwareCommitDone s
  | .activationStaged => Sys2Proof.Machine.execActivationStaged s
  | .activationFreezeEnd freezeUs => Sys2Proof.Machine.execActivationFreezeEnd freezeUs s
  | .activationBankSwitch => Sys2Proof.Machine.execActivationBankSwitch s
  | .bundleStageLast who offset data => Sys2Proof.Machine.execBundleStageLast who offset data s
  | .bundleWriteDone => Sys2Proof.Machine.execBundleWriteDone s
  | .recoveryImageLast who offset data => Sys2Proof.Machine.execRecoveryImageLast who offset data s
  | .lifecycleNonceRead who => Sys2Proof.Machine.execLifecycleNonceRead who s
  | .lifecycleNonceExpire => Sys2Proof.Machine.execLifecycleNonceExpire s
  | .lifecycleRequest who value => Sys2Proof.Machine.execLifecycleRequest who value s
  | .ownerKeyWrite who offset data => Sys2Proof.Machine.execOwnerKeyWrite who offset data s
  | .certChainWrite who chain offset data => Sys2Proof.Machine.execCertChainWrite who chain offset data s
  | .spdmGetVersion via => Sys2Proof.Machine.execSpdmGetVersion via s
  | .spdmGetCapabilities via request => Sys2Proof.Machine.execSpdmGetCapabilities via request s
  | .spdmNegotiateAlgorithms via request => Sys2Proof.Machine.execSpdmNegotiateAlgorithms via request s
  | .spdmGetDigests via => Sys2Proof.Machine.execSpdmGetDigests via s
  | .spdmGetCertificate via slot offset len => Sys2Proof.Machine.execSpdmGetCertificate via slot offset len s
  | .spdmChallenge via slot hashType nonce => Sys2Proof.Machine.execSpdmChallenge via slot hashType nonce s
  | .spdmGetMeasurements via attributes index slotId nonce => Sys2Proof.Machine.execSpdmGetMeasurements via attributes index slotId nonce s
  | .spdmUnsupported via req => Sys2Proof.Machine.execSpdmUnsupported via req s
  | .sanitize slot action => Sys2Proof.Machine.execSanitize slot action s
  | .formatNvm slot => Sys2Proof.Machine.execFormatNvm slot s
  | .grownEntryCommit surface entry => Sys2Proof.Machine.execGrownEntryCommit surface entry s
  | .holderMoveDone holder surface => Sys2Proof.Machine.execHolderMoveDone holder surface s
  | .servoSync a wedge track pes => Sys2Proof.Machine.execServoSync a wedge track pes s
  | .servoSyncTimeout a => Sys2Proof.Machine.execServoSyncTimeout a s
  | .synthLock a => Sys2Proof.Machine.execSynthLock a s
  | .synthUnlock a => Sys2Proof.Machine.execSynthUnlock a s
  | .thermalAsperity a adc => Sys2Proof.Machine.execThermalAsperity a adc s
  | .dropDetect a adc => Sys2Proof.Machine.execDropDetect a adc s
  | .freezeHangoverEnd a adc => Sys2Proof.Machine.execFreezeHangoverEnd a adc s
  | .longFreeze a adc => Sys2Proof.Machine.execLongFreeze a adc s
  | .syncWindowEnd p first candidates => Sys2Proof.Machine.execSyncWindowEnd p first candidates s
  | .captureEnd p adc => Sys2Proof.Machine.execCaptureEnd p adc s
  | .preampFaultAssert a => Sys2Proof.Machine.execPreampFaultAssert a s
  | .preampFaultPersist a => Sys2Proof.Machine.execPreampFaultPersist a s
  | .preampFrameDone a readback parityOk => Sys2Proof.Machine.execPreampFrameDone a readback parityOk s
  | .preampAccess who a value => Sys2Proof.Machine.execPreampAccess who a value s
  | .writePayloadPoisoned p entry => Sys2Proof.Machine.execWritePayloadPoisoned p entry s
  | .detectorPassDone core job check => Sys2Proof.Machine.execDetectorPassDone core job check s
  | .ldpcIterationDone core job check => Sys2Proof.Machine.execLdpcIterationDone core job check s
  | .decodeDeadline job => Sys2Proof.Machine.execDecodeDeadline job s
  | .holdCopyDone a hold => Sys2Proof.Machine.execHoldCopyDone a hold s
  | .ringTailWrite core value => Sys2Proof.Machine.execRingTailWrite core value s
  | .ladderDeep ring => Sys2Proof.Machine.execLadderDeep ring s
  | .ladderAverage ring => Sys2Proof.Machine.execLadderAverage ring s
  | .ladderReleaseHold ring => Sys2Proof.Machine.execLadderReleaseHold ring s
  | .ladderRequestEnd job => Sys2Proof.Machine.execLadderRequestEnd job s
  | .ladderStepAdvance surface track psector top status outcome => Sys2Proof.Machine.execLadderStepAdvance surface track psector top status outcome s
  | .sentenceLoad core p addr => Sys2Proof.Machine.execSentenceLoad core p addr s
  | .sentenceFetchDone p => Sys2Proof.Machine.execSentenceFetchDone p s
  | .sentenceUnderrun p => Sys2Proof.Machine.execSentenceUnderrun p s
  | .playerAbort core p value => Sys2Proof.Machine.execPlayerAbort core p value s
  | .clauseStep p phrase arg => Sys2Proof.Machine.execClauseStep p phrase arg s
  | .clauseGoto p phrase arg => Sys2Proof.Machine.execClauseGoto p phrase arg s
  | .clauseCall p phrase arg => Sys2Proof.Machine.execClauseCall p phrase arg s
  | .clauseRet p phrase arg => Sys2Proof.Machine.execClauseRet p phrase arg s
  | .clauseSetcnt p phrase arg => Sys2Proof.Machine.execClauseSetcnt p phrase arg s
  | .clauseLoop p phrase arg => Sys2Proof.Machine.execClauseLoop p phrase arg s
  | .clauseSector p phrase arg => Sys2Proof.Machine.execClauseSector p phrase arg s
  | .clauseIfwrite p phrase arg => Sys2Proof.Machine.execClauseIfwrite p phrase arg s
  | .clauseIfparity p phrase arg => Sys2Proof.Machine.execClauseIfparity p phrase arg s
  | .clauseEnd p phrase arg => Sys2Proof.Machine.execClauseEnd p phrase arg s
  | .clauseBad p why => Sys2Proof.Machine.execClauseBad p why s
  | .clauseTimeEnd p => Sys2Proof.Machine.execClauseTimeEnd p s
  | .clauseWaitMet p wedge t => Sys2Proof.Machine.execClauseWaitMet p wedge t s
  | .clauseWaitTimeout p => Sys2Proof.Machine.execClauseWaitTimeout p s
  | .playerStallEnd p => Sys2Proof.Machine.execPlayerStallEnd p s
  | .windowEndReached p => Sys2Proof.Machine.execWindowEndReached p s
  | .playerMemoryFault p store => Sys2Proof.Machine.execPlayerMemoryFault p store s
  | .sentenceEnd p => Sys2Proof.Machine.execSentenceEnd p s
  | .sentenceRecordWrite p => Sys2Proof.Machine.execSentenceRecordWrite p s
  | .outerTrigger a => Sys2Proof.Machine.execOuterTrigger a s
  | .reinNop e => Sys2Proof.Machine.execReinNop e s
  | .reinAdd e rd ra rb => Sys2Proof.Machine.execReinAdd e rd ra rb s
  | .reinSub e rd ra rb => Sys2Proof.Machine.execReinSub e rd ra rb s
  | .reinAddw e rd ra rb => Sys2Proof.Machine.execReinAddw e rd ra rb s
  | .reinSubw e rd ra rb => Sys2Proof.Machine.execReinSubw e rd ra rb s
  | .reinAnd e rd ra rb => Sys2Proof.Machine.execReinAnd e rd ra rb s
  | .reinOr e rd ra rb => Sys2Proof.Machine.execReinOr e rd ra rb s
  | .reinXor e rd ra rb => Sys2Proof.Machine.execReinXor e rd ra rb s
  | .reinMin e rd ra rb => Sys2Proof.Machine.execReinMin e rd ra rb s
  | .reinMax e rd ra rb => Sys2Proof.Machine.execReinMax e rd ra rb s
  | .reinAbs e rd ra => Sys2Proof.Machine.execReinAbs e rd ra s
  | .reinNeg e rd ra => Sys2Proof.Machine.execReinNeg e rd ra s
  | .reinShl e rd ra imm => Sys2Proof.Machine.execReinShl e rd ra imm s
  | .reinShr e rd ra imm => Sys2Proof.Machine.execReinShr e rd ra imm s
  | .reinShrl e rd ra imm => Sys2Proof.Machine.execReinShrl e rd ra imm s
  | .reinLi e rd imm => Sys2Proof.Machine.execReinLi e rd imm s
  | .reinLui e rd imm => Sys2Proof.Machine.execReinLui e rd imm s
  | .reinAddi e rd ra imm => Sys2Proof.Machine.execReinAddi e rd ra imm s
  | .reinLd e rd ra imm => Sys2Proof.Machine.execReinLd e rd ra imm s
  | .reinSt e rs ra imm => Sys2Proof.Machine.execReinSt e rs ra imm s
  | .reinIn e rd port => Sys2Proof.Machine.execReinIn e rd port s
  | .reinOut e rs port => Sys2Proof.Machine.execReinOut e rs port s
  | .reinSetcb e imm => Sys2Proof.Machine.execReinSetcb e imm s
  | .reinMul e acc ra caddr => Sys2Proof.Machine.execReinMul e acc ra caddr s
  | .reinMac e acc ra caddr => Sys2Proof.Machine.execReinMac e acc ra caddr s
  | .reinMsu e acc ra caddr => Sys2Proof.Machine.execReinMsu e acc ra caddr s
  | .reinClra e acc => Sys2Proof.Machine.execReinClra e acc s
  | .reinLda e acc ra => Sys2Proof.Machine.execReinLda e acc ra s
  | .reinRnd e rd acc mode l => Sys2Proof.Machine.execReinRnd e rd acc mode l s
  | .reinB e target => Sys2Proof.Machine.execReinB e target s
  | .reinBz e ra target => Sys2Proof.Machine.execReinBz e ra target s
  | .reinBnz e ra target => Sys2Proof.Machine.execReinBnz e ra target s
  | .reinBlt e ra target => Sys2Proof.Machine.execReinBlt e ra target s
  | .reinBge e ra target => Sys2Proof.Machine.execReinBge e ra target s
  | .reinDbnz e ra target => Sys2Proof.Machine.execReinDbnz e ra target s
  | .reinCall e target => Sys2Proof.Machine.execReinCall e target s
  | .reinRet e => Sys2Proof.Machine.execReinRet e s
  | .reinDone e => Sys2Proof.Machine.execReinDone e s
  | .reinProgramFault e => Sys2Proof.Machine.execReinProgramFault e s
  | .reinBudgetStop e => Sys2Proof.Machine.execReinBudgetStop e s
  | .reinCompare g entry => Sys2Proof.Machine.execReinCompare g entry s
  | .pairHoldRerunEnd g => Sys2Proof.Machine.execPairHoldRerunEnd g s
  | .reinLatch g entry => Sys2Proof.Machine.execReinLatch g entry s
  | .engineReloadDone e => Sys2Proof.Machine.execEngineReloadDone e s
  | .snapshotCopyDone e => Sys2Proof.Machine.execSnapshotCopyDone e s
  | .probationEnd e => Sys2Proof.Machine.execProbationEnd e s
  | .reinMemoryFault e => Sys2Proof.Machine.execReinMemoryFault e s
  | .coefWrite who g value => Sys2Proof.Machine.execCoefWrite who g value s
  | .snapRequest who g value => Sys2Proof.Machine.execSnapRequest who g value s
  | .inject who g slot => Sys2Proof.Machine.execInject who g slot s
  | .traceArm who a value => Sys2Proof.Machine.execTraceArm who a value s
  | .traceForce who a value => Sys2Proof.Machine.execTraceForce who a value s
  | .heartbeat count => Sys2Proof.Machine.execHeartbeat count s
  | .heartbeatLoss => Sys2Proof.Machine.execHeartbeatLoss s
  | .linkResend mainToMotion => Sys2Proof.Machine.execLinkResend mainToMotion s
  | .vcmCmd a ua mv => Sys2Proof.Machine.execVcmCmd a ua mv s
  | .spinCmd ua => Sys2Proof.Machine.execSpinCmd ua s
  | .driveMsg cmd => Sys2Proof.Machine.execDriveMsg cmd s
  | .resetNotice lengthUs => Sys2Proof.Machine.execResetNotice lengthUs s
  | .linkObject who index sub write => Sys2Proof.Machine.execLinkObject who index sub write s
  | .senseMsg a ua mv => Sys2Proof.Machine.execSenseMsg a ua mv s
  | .zeroCross phase interval => Sys2Proof.Machine.execZeroCross phase interval s
  | .linkStatus vm temp => Sys2Proof.Machine.execLinkStatus vm temp s
  | .motionDieLost => Sys2Proof.Machine.execMotionDieLost s
  | .zeroCrossMissing => Sys2Proof.Machine.execZeroCrossMissing s
  | .spindleDriverFault => Sys2Proof.Machine.execSpindleDriverFault s
  | .spinAlignEnd => Sys2Proof.Machine.execSpinAlignEnd s
  | .spinRampEnd handover => Sys2Proof.Machine.execSpinRampEnd handover s
  | .spindleStandstill => Sys2Proof.Machine.execSpindleStandstill s
  | .vcmOvercurrent a => Sys2Proof.Machine.execVcmOvercurrent a s
  | .maOvercurrent a => Sys2Proof.Machine.execMaOvercurrent a s
  | .headLoadTimeout a => Sys2Proof.Machine.execHeadLoadTimeout a s
  | .rampContact a => Sys2Proof.Machine.execRampContact a s
  | .retractParked a ms => Sys2Proof.Machine.execRetractParked a ms s
  | .retractTimeout a => Sys2Proof.Machine.execRetractTimeout a s
  | .dumpSealed holdupMj vmMin => Sys2Proof.Machine.execDumpSealed holdupMj vmMin s
  | .girthSync h tick baseHop tag fixed takeover overFlag => Sys2Proof.Machine.execGirthSync h tick baseHop tag fixed takeover overFlag s
  | .girthPhase h rpm group => Sys2Proof.Machine.execGirthPhase h rpm group s
  | .girthSeek h startTick profile act d profileSet => Sys2Proof.Machine.execGirthSeek h startTick profile act d profileSet s
  | .girthHealth h payload => Sys2Proof.Machine.execGirthHealth h payload s
  | .girthDictGet h target tag index sub => Sys2Proof.Machine.execGirthDictGet h target tag index sub s
  | .girthDictSet h target tag index sub value => Sys2Proof.Machine.execGirthDictSet h target tag index sub value s
  | .girthDictResponse h target tag index sub status value => Sys2Proof.Machine.execGirthDictResponse h target tag index sub status value s
  | .girthUnknownType h typ payload => Sys2Proof.Machine.execGirthUnknownType h typ payload s
  | .syncPeriod => Sys2Proof.Machine.execSyncPeriod s
  | .phasePeriod => Sys2Proof.Machine.execPhasePeriod s
  | .healthPeriod => Sys2Proof.Machine.execHealthPeriod s
  | .healthDeferred => Sys2Proof.Machine.execHealthDeferred s
  | .masterLoss => Sys2Proof.Machine.execMasterLoss s
  | .candidateWaitEnd => Sys2Proof.Machine.execCandidateWaitEnd s
  | .joinListenTimeout noSymbol => Sys2Proof.Machine.execJoinListenTimeout noSymbol s
  | .announce who value => Sys2Proof.Machine.execAnnounce who value s
  | .seekCancel a => Sys2Proof.Machine.execSeekCancel a s
  | .announcementEnd id => Sys2Proof.Machine.execAnnouncementEnd id s
  | .dictRequest who value => Sys2Proof.Machine.execDictRequest who value s
  | .dictRequestTimeout => Sys2Proof.Machine.execDictRequestTimeout s
  | .sqDoorbell p qid tail => Sys2Proof.Machine.execSqDoorbell p qid tail s
  | .commandFetch p qid cmd => Sys2Proof.Machine.execCommandFetch p qid cmd s
  | .createIoSq slot => Sys2Proof.Machine.execCreateIoSq slot s
  | .createIoCq slot => Sys2Proof.Machine.execCreateIoCq slot s
  | .deleteIoSq slot => Sys2Proof.Machine.execDeleteIoSq slot s
  | .deleteIoCq slot => Sys2Proof.Machine.execDeleteIoCq slot s
  | .getLogPage slot => Sys2Proof.Machine.execGetLogPage slot s
  | .identify slot => Sys2Proof.Machine.execIdentify slot s
  | .nvmeAbort slot => Sys2Proof.Machine.execNvmeAbort slot s
  | .setFeatures slot => Sys2Proof.Machine.execSetFeatures slot s
  | .setFeaturesPowerManagement slot => Sys2Proof.Machine.execSetFeaturesPowerManagement slot s
  | .setFeaturesErrorRecovery slot => Sys2Proof.Machine.execSetFeaturesErrorRecovery slot s
  | .setFeaturesVwc slot => Sys2Proof.Machine.execSetFeaturesVwc slot s
  | .getFeatures slot => Sys2Proof.Machine.execGetFeatures slot s
  | .asyncEventRequest p cid => Sys2Proof.Machine.execAsyncEventRequest p cid s
  | .namespaceCreate slot nsze lbaFormat => Sys2Proof.Machine.execNamespaceCreate slot nsze lbaFormat s
  | .namespaceDelete slot => Sys2Proof.Machine.execNamespaceDelete slot s
  | .namespaceAttachment slot controllers => Sys2Proof.Machine.execNamespaceAttachment slot controllers s
  | .securitySend slot data => Sys2Proof.Machine.execSecuritySend slot data s
  | .securityReceive slot => Sys2Proof.Machine.execSecurityReceive slot s
  | .getLbaStatus slot => Sys2Proof.Machine.execGetLbaStatus slot s
  | .nvmeFlush slot => Sys2Proof.Machine.execNvmeFlush slot s
  | .nvmeWrite slot blocks => Sys2Proof.Machine.execNvmeWrite slot blocks s
  | .nvmeRead slot media => Sys2Proof.Machine.execNvmeRead slot media s
  | .writeZeroes slot => Sys2Proof.Machine.execWriteZeroes slot s
  | .datasetManagement slot => Sys2Proof.Machine.execDatasetManagement slot s
  | .nvmeVerify slot media => Sys2Proof.Machine.execNvmeVerify slot media s
  | .reservationRegister slot crkey nrkey => Sys2Proof.Machine.execReservationRegister slot crkey nrkey s
  | .reservationReport slot => Sys2Proof.Machine.execReservationReport slot s
  | .reservationAcquire slot crkey prkey => Sys2Proof.Machine.execReservationAcquire slot crkey prkey s
  | .reservationPreemptAndAbort slot crkey prkey => Sys2Proof.Machine.execReservationPreemptAndAbort slot crkey prkey s
  | .reservationRelease slot crkey => Sys2Proof.Machine.execReservationRelease slot crkey s
  | .invalidOpcode slot => Sys2Proof.Machine.execInvalidOpcode slot s
  | .writeCached slot => Sys2Proof.Machine.execWriteCached slot s
  | .readTransferred slot => Sys2Proof.Machine.execReadTransferred slot s
  | .ccEnClear p => Sys2Proof.Machine.execCcEnClear p s
  | .ccEnSet p => Sys2Proof.Machine.execCcEnSet p s
  | .functionLevelReset p => Sys2Proof.Machine.execFunctionLevelReset p s
  | .pcieLinkDown p => Sys2Proof.Machine.execPcieLinkDown p s
  | .nvmSubsystemReset => Sys2Proof.Machine.execNvmSubsystemReset s
  | .shutdownNormal p => Sys2Proof.Machine.execShutdownNormal p s
  | .shutdownAbrupt p => Sys2Proof.Machine.execShutdownAbrupt p s
  | .ps3IdleTimeout => Sys2Proof.Machine.execPs3IdleTimeout s
  | .powerStateSafePoint => Sys2Proof.Machine.execPowerStateSafePoint s
  | .tlerExpire slot lba => Sys2Proof.Machine.execTlerExpire slot lba s
  | .destageUpdate stripe reads => Sys2Proof.Machine.execDestageUpdate stripe reads s
  | .stripeUpdateRetire stripe => Sys2Proof.Machine.execStripeUpdateRetire stripe s
  | .wiMirrorPoint => Sys2Proof.Machine.execWiMirrorPoint s
  | .mirrorRetry page ok => Sys2Proof.Machine.execMirrorRetry page ok s
  | .journalReplay seq => Sys2Proof.Machine.execJournalReplay seq s
  | .resyncGroup group reads => Sys2Proof.Machine.execResyncGroup group reads s
  | .retireSurface who value => Sys2Proof.Machine.execRetireSurface who value s
  | .rebuildStripe stripe reads => Sys2Proof.Machine.execRebuildStripe stripe reads s
  | .rebuildCheckpoint => Sys2Proof.Machine.execRebuildCheckpoint s
  | .patrolStripe stripe reads => Sys2Proof.Machine.execPatrolStripe stripe reads s
  | .reshapeRequest who value => Sys2Proof.Machine.execReshapeRequest who value s
  | .reshapeCancel who value => Sys2Proof.Machine.execReshapeCancel who value s
  | .reshapeGroupCopy => Sys2Proof.Machine.execReshapeGroupCopy s
  | .reshapeSwitch => Sys2Proof.Machine.execReshapeSwitch s
  | .grownDefectReadback surface track psector converged taBoth freezeOffset freezeLen => Sys2Proof.Machine.execGrownDefectReadback surface track psector converged taBoth freezeOffset freezeLen s
  | .arbiterGrant waiting => Sys2Proof.Machine.execArbiterGrant waiting s
  | .pageSubstitutionDone page => Sys2Proof.Machine.execPageSubstitutionDone page s
  | .zeroRange who value => Sys2Proof.Machine.execZeroRange who value s
  | .zeroRangeDone => Sys2Proof.Machine.execZeroRangeDone s
  | .keeperSlotErased slot => Sys2Proof.Machine.execKeeperSlotErased slot s
  | .cacheClean core => Sys2Proof.Machine.execCacheClean core s
  | .cacheInvalidate core => Sys2Proof.Machine.execCacheInvalidate core s
  | .cacheCleanInvalidate core => Sys2Proof.Machine.execCacheCleanInvalidate core s
  | .cacheFillLock core => Sys2Proof.Machine.execCacheFillLock core s
  | .cacheUnlock core => Sys2Proof.Machine.execCacheUnlock core s
  | .cacheCleanSw core => Sys2Proof.Machine.execCacheCleanSw core s
  | .cacheInvalidateSw core => Sys2Proof.Machine.execCacheInvalidateSw core s
  | .cacheCleanInvalidateSw core => Sys2Proof.Machine.execCacheCleanInvalidateSw core s
  | .cacheMaintDone core => Sys2Proof.Machine.execCacheMaintDone core s
  | .cacheFillReturn line => Sys2Proof.Machine.execCacheFillReturn line s
  | .dmaGo who ch ctrl => Sys2Proof.Machine.execDmaGo who ch ctrl s
  | .dmaChainGo who ch ctrl => Sys2Proof.Machine.execDmaChainGo who ch ctrl s
  | .dmaStop who ch ctrl => Sys2Proof.Machine.execDmaStop who ch ctrl s
  | .dmaDescriptorFetched ch ok => Sys2Proof.Machine.execDmaDescriptorFetched ch ok s
  | .dmaBeatsAcknowledged ch => Sys2Proof.Machine.execDmaBeatsAcknowledged ch s
  | .dmaReadbackDone ch => Sys2Proof.Machine.execDmaReadbackDone ch s
  | .dmaBeatError ch kind doneBytes indet => Sys2Proof.Machine.execDmaBeatError ch kind doneBytes indet s
  | .notifyClear who ch value => Sys2Proof.Machine.execNotifyClear who ch value s
  | .fabricNak lane requester => Sys2Proof.Machine.execFabricNak lane requester s
  | .collectorEvent ev => Sys2Proof.Machine.execCollectorEvent ev s
  | .unitReadmit source => Sys2Proof.Machine.execUnitReadmit source s
  | .safeRestartTimeout => Sys2Proof.Machine.execSafeRestartTimeout s
  | .safeEntriesExpire => Sys2Proof.Machine.execSafeEntriesExpire s
  | .coreWatchdog core => Sys2Proof.Machine.execCoreWatchdog core s
  | .collectorSelfFault collector => Sys2Proof.Machine.execCollectorSelfFault collector s
  | .captureClear who r value => Sys2Proof.Machine.execCaptureClear who r value s
  | .clearUpto who value => Sys2Proof.Machine.execClearUpto who value s
  | .clearAll who value => Sys2Proof.Machine.execClearAll who value s
  | .ledgerMirror => Sys2Proof.Machine.execLedgerMirror s
  | .ledgerMirrorDone => Sys2Proof.Machine.execLedgerMirrorDone s
  | .ledgerBandCopy => Sys2Proof.Machine.execLedgerBandCopy s
  | .unretire who value => Sys2Proof.Machine.execUnretire who value s
  | .sourceEntryWrite who id value => Sys2Proof.Machine.execSourceEntryWrite who id value s
  | .spindleReinTrigger entry => Sys2Proof.Machine.execSpindleReinTrigger entry s
  | .coreMemoryAccess core addr width access ecc => Sys2Proof.Machine.execCoreMemoryAccess core addr width access ecc s
  | .linkTrainingDone p speed width => Sys2Proof.Machine.execLinkTrainingDone p speed width s
  | .tapInstruction ins => Sys2Proof.Machine.execTapInstruction ins s
  | .dynamicAddressAssignment addr => Sys2Proof.Machine.execDynamicAddressAssignment addr s
  | .preampFaultRelease a => Sys2Proof.Machine.execPreampFaultRelease a s
  | .bolhobaUnknownOpcode h pen version opcode => Sys2Proof.Machine.execBolhobaUnknownOpcode h pen version opcode s
  | .cqHeadDoorbell p qid head => Sys2Proof.Machine.execCqHeadDoorbell p qid head s
  | .fabricAck lane requester beats => Sys2Proof.Machine.execFabricAck lane requester beats s
  | .supersededPageProgrammed => Sys2Proof.Machine.execSupersededPageProgrammed s
  | .cryptoEraseDone ns => Sys2Proof.Machine.execCryptoEraseDone ns s
  | .reservationStateWritten ns => Sys2Proof.Machine.execReservationStateWritten ns s

end Sys2Proof.Machine
end

