-- ==== Sys2Proof/WellFormed.lean ====
section
/-!
DEFINITION. The commands whose operands the spec's fields can carry: a field of n bits holds a value below 2^n, a number
that picks one of a table lies in the table. What the device itself checks (a value out of an object's range, a
record of the wrong length) is no part of this: such a command is well formed, and its meaning refuses it by the
status that the spec names.
-/

namespace Sys2Proof

/-- A value of an unsigned field of `n` bits. -/
def u (n v : Nat) : Bool := v < 2 ^ n

/-- A value of a two's-complement field of `n` bits. -/
def i (n : Nat) (v : Int) : Bool := -(2 ^ (n - 1) : Nat) ≤ v && v < (2 ^ (n - 1) : Nat)

/-- The widths of a core's access (R21, R68). -/
def widthOk (w : Nat) : Bool := w = 1 || w = 2 || w = 4 || w = 8

/-- A block is 4 KiB with at most eight bytes of protection information (R137, R338). -/
def HostBlock.ok (b : HostBlock) : Bool := b.cipher.length = 4096 && b.pi.length ≤ 8

/-- Header of a Bolhoba request (R73). -/
def BolhobaHeader.ok (h : BolhobaHeader) : Bool := u 8 h.tag && u 16 h.index && u 8 h.sub

/-- Fields of a list entry (R72). -/
def ListEntry.ok (e : ListEntry) : Bool := u 16 e.index && u 8 e.sub && u 8 e.typ && u 16 e.length

/-- Routing fields of a girth frame (R309). -/
def GirthHeader.ok (h : GirthHeader) : Bool := u 10 h.origin && u 10 h.hops

/-- The queue entry's fields. -/
def SqEntry.ok (c : SqEntry) : Bool :=
  u 8 c.opcode && u 2 c.fuse && u 16 c.cid && u 32 c.nsid && u 64 c.prp && u 32 c.cdw10 && u 32 c.cdw11 && u 32 c.cdw12 && u 32 c.cdw13 &&
  u 32 c.cdw14 && u 32 c.cdw15 && c.ranges.all (fun r => u 64 r.1 && u 32 r.2) && c.ranges.length ≤ 256

/-- An event comes from one of the 1,152 sources (R466). -/
def Event.ok (e : Event) : Bool :=
  e.source < 1152 && u 16 e.unit && u 64 e.address && u 6 e.master && u 8 e.access && u 64 e.syndrome && u 64 e.detail

/-- What a start step reports names units that exist. -/
def StepFindings.ok (f : StepFindings) : Bool :=
  u 4 f.actuators && u 2 f.ports && u 32 f.detail && u 32 f.measured && f.ids.length ≤ 4 && f.heads.length ≤ 4 &&
  f.coils.length ≤ 4 && f.failedUnits.all (· < 1152) && f.badGenerations.all (· < 6) && f.repairs.all (·.1 < 448)

/-- A syndrome names one of the 512 data bits or 64 check bits of a block (R424). -/
def EccOutcome.ok : EccOutcome → Bool
  | .corrected syn => u 16 syn
  | .clean | .uncorrectable | .poison => true

/-- An ADC sample has 7 bits, two's complement (R154). -/
def AdcRow.ok (r : AdcRow) : Bool := i 7 r.1 && i 7 r.2.1 && i 7 r.2.2

/-- A message memory lies in one of the 448 SRAM macros (R467); its row fits the UNIT of an event (R472). -/
def PassCheck.ok : PassCheck → Bool
  | .corrected n row => n < 448 && u 16 row
  | .clean | .disagrees | .uncorrectable => true

/-- A store carries the bytes of its width. -/
def CoreAccess.fits (w : Nat) : CoreAccess → Bool
  | .store d => d.length = w
  | .load | .fetch => true

/-- A DRAM beat is one block of 64 bytes (R424, R460). -/
def Beat.ok (b : Beat) : Bool :=
  b.address % 64 = 0 && u 40 b.address && (match b.write with | some d => decide (d.length = 64) | none => true) && b.ecc.ok

/-- TARGET carries a speed of 16 bits (R284, R289). -/
def DriveCmd.ok : DriveCmd → Bool
  | .target rpm => u 16 rpm
  | .retract _ | .load _ | .brake | .mode _ => true

/-- The operands of a command lie in the fields that carry them. -/
def Instr.wf : Instr → Bool
  | .throttleEnter tj => i 16 tj
  | .throttleExit tj => i 16 tj
  | .thermalShutdown tj => i 16 tj
  | .powerCapWrite _ value => u 8 value
  | .vcoreSteer minPercent => u 16 minPercent
  | .writeUnsafe _ _ t => u 18 t
  | .gateEntryExecute _ t adc => u 18 t && adc.all AdcRow.ok
  | .dictionaryGet slot => slot < 1024
  | .dictionarySet slot _ => slot < 1024
  | .dictionarySetList slot _ => slot < 1024
  | .dictionaryBlockRead slot => slot < 1024
  | .dictionaryListRead slot => slot < 1024
  | .bolhobaGet h => h.ok
  | .bolhobaSet h typ len _ => h.ok && u 8 typ && u 16 len
  | .bolhobaListGet h keys => h.ok && keys.all (fun k => u 16 k.1 && u 8 k.2)
  | .bolhobaListSet h entries => h.ok && entries.all ListEntry.ok
  | .bolhobaBlockRead h offset len => h.ok && u 32 offset && u 16 len
  | .bolhobaBlockWrite h offset _ data => h.ok && u 32 offset && data.length ≤ 960
  | .windowRead _ addr width => u 32 addr && widthOk width
  | .windowWrite _ addr width value => u 32 addr && widthOk width && value < 256 ^ width
  | .blobStagingAbandon index sub => u 16 index && u 8 sub
  | .store _ value => u 8 value
  | .restoreDefaults _ value => u 8 value
  | .unitDisable _ index => u 16 index
  | .unitEnable _ index _ => u 16 index
  | .unitQuiesced index => u 16 index
  | .objectWrite _ index sub typ len _ => u 16 index && u 8 sub && u 8 typ && u 16 len
  | .startStepEnd _ found => found.ok
  | .stepWatchdog found => found.ok
  | .firmwareImageDownload slot piece => slot < 1024 && piece.length % 4 = 0
  | .firmwareCommitReplace slot => slot < 1024
  | .firmwareCommitReplaceActivate slot => slot < 1024
  | .firmwareCommitActivate slot => slot < 1024
  | .firmwareCommitActivateNow slot => slot < 1024
  | .firmwareCommitInvalidAction slot => slot < 1024
  | .bundleStageLast _ offset _ => u 32 offset
  | .recoveryImageLast _ offset _ => u 32 offset
  | .ownerKeyWrite _ offset _ => u 32 offset
  | .certChainWrite _ _ offset _ => u 32 offset
  | .spdmGetCapabilities _ request => request.length ≤ 65535
  | .spdmNegotiateAlgorithms _ request => request.length ≤ 65535
  | .spdmGetCertificate _ slot offset len => u 8 slot && u 16 offset && u 16 len
  | .spdmChallenge _ slot hashType nonce => u 8 slot && u 8 hashType && nonce.length = 32
  | .spdmGetMeasurements _ attributes index slotId nonce => u 8 attributes && u 8 index && u 8 slotId && nonce.length = 32
  | .sanitize slot _ => slot < 1024
  | .formatNvm slot => slot < 1024
  | .grownEntryCommit _ entry => entry.length = 16
  | .servoSync _ wedge track pes => wedge < 600 && u 24 track && i 16 pes
  | .thermalAsperity _ adc => adc.all AdcRow.ok
  | .dropDetect _ adc => adc.all AdcRow.ok
  | .freezeHangoverEnd _ adc => adc.all AdcRow.ok
  | .longFreeze _ adc => adc.all AdcRow.ok
  | .syncWindowEnd _ _ adc => adc.all AdcRow.ok
  | .captureEnd _ adc => adc.all AdcRow.ok
  | .writePayloadPoisoned _ entry => u 10 entry
  | .detectorPassDone _ _ check => check.ok
  | .ldpcIterationDone _ _ check => check.ok
  | .preampFrameDone _ readback _ => u 32 readback
  | .ringTailWrite _ value => u 16 value
  | .ladderStepAdvance _ track psector top status _ => u 24 track && u 16 psector && decide (top ≤ 5) && u 64 status
  | .sentenceLoad _ _ addr => u 64 addr
  | .playerAbort _ _ value => u 8 value
  | .clauseWaitMet _ wedge _ => wedge < 600
  | .snapRequest _ _ value => u 8 value
  | .inject _ _ slot => u 8 slot
  | .traceArm _ _ value => u 8 value
  | .traceForce _ _ value => u 8 value
  | .heartbeat count => u 16 count
  | .vcmCmd _ ua mv => i 32 ua && i 32 mv
  | .spinCmd ua => i 32 ua
  | .driveMsg cmd => cmd.ok
  | .linkObject _ index sub _ => 0x6000 ≤ index && index ≤ 0x60FF && u 8 sub
  | .senseMsg _ ua mv => i 32 ua && i 32 mv
  | .zeroCross phase _ => phase < 3
  | .linkStatus vm temp => u 16 vm && i 16 temp
  | .retractParked _ ms => u 16 ms
  | .dumpSealed holdupMj vmMin => u 32 holdupMj && u 16 vmMin
  | .girthSync h tick baseHop tag _ _ _ => h.ok && u 54 tick && u 10 baseHop && u 16 tag
  | .girthPhase h rpm group => h.ok && u 16 rpm && group < 16
  | .girthSeek h startTick profile _ d profileSet => h.ok && u 32 startTick && u 16 profile && i 25 d && u 8 profileSet
  | .girthHealth h payload => h.ok && payload.length = 11
  | .girthDictGet h target tag index sub => h.ok && u 10 target && u 8 tag && u 16 index && u 8 sub
  | .girthDictSet h target tag index sub value => h.ok && u 10 target && u 8 tag && u 16 index && u 8 sub && u 32 value
  | .girthDictResponse h target tag index sub status value => h.ok && u 10 target && u 8 tag && u 16 index && u 8 sub && u 8 status && u 32 value
  | .girthUnknownType h typ payload => h.ok && (typ = 0 || 6 ≤ typ) && u 8 typ && u 84 payload
  | .sqDoorbell _ qid tail => u 16 qid && u 16 tail
  | .commandFetch _ qid cmd => u 16 qid && cmd.ok
  | .createIoSq slot => slot < 1024
  | .createIoCq slot => slot < 1024
  | .deleteIoSq slot => slot < 1024
  | .deleteIoCq slot => slot < 1024
  | .getLogPage slot => slot < 1024
  | .identify slot => slot < 1024
  | .nvmeAbort slot => slot < 1024
  | .setFeatures slot => slot < 1024
  | .setFeaturesPowerManagement slot => slot < 1024
  | .setFeaturesErrorRecovery slot => slot < 1024
  | .setFeaturesVwc slot => slot < 1024
  | .getFeatures slot => slot < 1024
  | .asyncEventRequest _ cid => u 16 cid
  | .namespaceCreate slot nsze lbaFormat => slot < 1024 && u 64 nsze && lbaFormat < 64
  | .namespaceDelete slot => slot < 1024
  | .namespaceAttachment slot _ => slot < 1024
  | .securitySend slot _ => slot < 1024
  | .securityReceive slot => slot < 1024
  | .getLbaStatus slot => slot < 1024
  | .nvmeFlush slot => slot < 1024
  | .nvmeWrite slot blocks => slot < 1024 && blocks.all HostBlock.ok
  | .nvmeRead slot _ => slot < 1024
  | .writeZeroes slot => slot < 1024
  | .datasetManagement slot => slot < 1024
  | .nvmeVerify slot _ => slot < 1024
  | .reservationRegister slot crkey nrkey => slot < 1024 && u 64 crkey && u 64 nrkey
  | .reservationReport slot => slot < 1024
  | .reservationAcquire slot crkey prkey => slot < 1024 && u 64 crkey && u 64 prkey
  | .reservationPreemptAndAbort slot crkey prkey => slot < 1024 && u 64 crkey && u 64 prkey
  | .reservationRelease slot crkey => slot < 1024 && u 64 crkey
  | .invalidOpcode slot => slot < 1024
  | .writeCached slot => slot < 1024
  | .readTransferred slot => slot < 1024
  | .tlerExpire slot lba => slot < 1024 && u 64 lba
  | .mirrorRetry page _ => u 32 page
  | .retireSurface _ value => u 8 value
  | .grownDefectReadback _ track psector _ _ _ _ => u 24 track && u 16 psector
  | .arbiterGrant waiting => waiting.all Beat.ok
  | .pageSubstitutionDone page => u 32 page
  | .cacheFillReturn line => 64 * line < 2 ^ 40
  | .dmaGo _ _ ctrl => u 32 ctrl && ctrl.testBit 0 && !ctrl.testBit 1
  | .dmaChainGo _ _ ctrl => u 32 ctrl && ctrl.testBit 0 && ctrl.testBit 1
  | .dmaStop _ _ ctrl => u 32 ctrl && ctrl.testBit 2 && !ctrl.testBit 0
  | .dmaBeatError _ _ doneBytes indet => u 32 doneBytes && u 32 indet
  | .notifyClear _ _ value => u 32 value
  | .collectorEvent ev => ev.ok
  | .unitReadmit source => source < 1152
  | .captureClear _ _ value => u 8 value
  | .clearUpto _ value => u 64 value
  | .clearAll _ value => u 8 value
  | .unretire _ value => u 16 value
  | .sourceEntryWrite _ id _ => id < 1152
  | .coreMemoryAccess _ addr width access ecc => u 40 addr && widthOk width && access.fits width && ecc.ok
  | .linkTrainingDone _ speed width => 1 ≤ speed && speed ≤ 5 && (width = 1 || width = 2)
  | .dynamicAddressAssignment addr => u 7 addr
  | .bolhobaUnknownOpcode h pen version opcode => h.ok && u 16 pen && u 8 version && u 8 opcode
  | .cqHeadDoorbell _ qid head => u 16 qid && u 16 head
  | .fabricAck _ _ beats => 1 ≤ beats && beats ≤ 16
  | .powerGood | .feedPresent _ | .feedLost _ _ | .feedSwitchReclose _ | .railsOff | .railsUp | .pwrdisAssert | .pwrdisRelease | .vmCollapse
  | .v3p3Overcurrent _ | .writeFifoEmpty _ | .sampleOverrun _ _ | .factoryFrameGap | .mbRead _ | .mbWrite _ | .mbWriteLast _
  | .mbTransferDone _ | .storeCommit _ | .attemptBegin _ | .startDeadline | .restartNormal _ | .restartMaintenance _ | .perstDeassert _
  | .perstAssert _ | .firmwareCommitDone | .activationStaged | .activationFreezeEnd _ | .activationBankSwitch | .bundleWriteDone
  | .lifecycleNonceRead _ | .lifecycleNonceExpire | .lifecycleRequest _ _ | .spdmGetVersion _ | .spdmGetDigests _
  | .spdmUnsupported _ _ | .holderMoveDone _ _ | .servoSyncTimeout _ | .synthLock _ | .synthUnlock _
  | .preampFaultAssert _ | .preampFaultPersist _ | .preampAccess _ _ _
  | .decodeDeadline _ | .holdCopyDone _ _ | .ladderDeep _ | .ladderAverage _
  | .ladderReleaseHold _ | .ladderRequestEnd _ | .sentenceFetchDone _ | .sentenceUnderrun _ | .clauseStep _ _ _ | .clauseGoto _ _ _
  | .clauseCall _ _ _ | .clauseRet _ _ _ | .clauseSetcnt _ _ _ | .clauseLoop _ _ _ | .clauseSector _ _ _ | .clauseIfwrite _ _ _
  | .clauseIfparity _ _ _ | .clauseEnd _ _ _ | .clauseBad _ _ | .clauseTimeEnd _ | .clauseWaitTimeout _ | .playerStallEnd _ | .windowEndReached _
  | .playerMemoryFault _ _ | .sentenceEnd _ | .sentenceRecordWrite _ | .outerTrigger _ | .reinNop _ | .reinAdd _ _ _ _ | .reinSub _ _ _ _
  | .reinAddw _ _ _ _ | .reinSubw _ _ _ _ | .reinAnd _ _ _ _ | .reinOr _ _ _ _ | .reinXor _ _ _ _ | .reinMin _ _ _ _ | .reinMax _ _ _ _
  | .reinAbs _ _ _ | .reinNeg _ _ _ | .reinShl _ _ _ _ | .reinShr _ _ _ _ | .reinShrl _ _ _ _ | .reinLi _ _ _ | .reinLui _ _ _ | .reinAddi _ _ _ _
  | .reinLd _ _ _ _ | .reinSt _ _ _ _ | .reinIn _ _ _ | .reinOut _ _ _ | .reinSetcb _ _ | .reinMul _ _ _ _ | .reinMac _ _ _ _ | .reinMsu _ _ _ _
  | .reinClra _ _ | .reinLda _ _ _ | .reinRnd _ _ _ _ _ | .reinB _ _ | .reinBz _ _ _ | .reinBnz _ _ _ | .reinBlt _ _ _ | .reinBge _ _ _
  | .reinDbnz _ _ _ | .reinCall _ _ | .reinRet _ | .reinDone _ | .reinProgramFault _ | .reinBudgetStop _ | .reinCompare _ _ | .pairHoldRerunEnd _
  | .reinLatch _ _ | .engineReloadDone _ | .snapshotCopyDone _ | .probationEnd _ | .reinMemoryFault _ | .coefWrite _ _ _ | .heartbeatLoss
  | .linkResend _ | .resetNotice _ | .motionDieLost | .zeroCrossMissing | .spindleDriverFault | .spinAlignEnd | .spinRampEnd _ | .spindleStandstill
  | .vcmOvercurrent _ | .maOvercurrent _ | .headLoadTimeout _ | .rampContact _ | .retractTimeout _ | .syncPeriod | .phasePeriod | .healthPeriod
  | .healthDeferred | .masterLoss | .candidateWaitEnd | .joinListenTimeout _ | .announce _ _ | .seekCancel _ | .announcementEnd _ | .dictRequest _ _
  | .dictRequestTimeout | .ccEnClear _ | .ccEnSet _ | .functionLevelReset _ | .pcieLinkDown _ | .nvmSubsystemReset | .shutdownNormal _
  | .shutdownAbrupt _ | .ps3IdleTimeout | .powerStateSafePoint | .destageUpdate _ _ | .stripeUpdateRetire _ | .wiMirrorPoint | .journalReplay _
  | .resyncGroup _ _ | .rebuildStripe _ _ | .rebuildCheckpoint | .patrolStripe _ _ | .reshapeRequest _ _ | .reshapeCancel _ _ | .reshapeGroupCopy
  | .reshapeSwitch | .zeroRange _ _ | .zeroRangeDone | .keeperSlotErased _ | .cacheClean _ | .cacheInvalidate _ | .cacheCleanInvalidate _
  | .cacheFillLock _ | .cacheUnlock _ | .cacheCleanSw _ | .cacheInvalidateSw _ | .cacheCleanInvalidateSw _ | .cacheMaintDone _
  | .dmaDescriptorFetched _ _ | .dmaBeatsAcknowledged _ | .dmaReadbackDone _ | .fabricNak _ _ | .safeRestartTimeout | .safeEntriesExpire
  | .coreWatchdog _ | .collectorSelfFault _ | .ledgerMirror | .ledgerMirrorDone | .ledgerBandCopy | .spindleReinTrigger _ | .tapInstruction _
  | .preampFaultRelease _ | .supersededPageProgrammed | .cryptoEraseDone _ | .reservationStateWritten _ => true

end Sys2Proof
end

