-- ==== Sys2Proof/Safety.lean ====
section
/-!
DEFINITION. The terms that claims are stated in: a command completes with a result, what it leaves as it was, and the terms of each family.
-/

namespace Sys2Proof.Machine

/-- The command answers a next state, and that state has the property. -/
def Completes (c : Instr) (s : State) (P : State → Prop) : Prop := ∃ t, exec c s = .next t ∧ P t

/-- Every dictionary object but those in a set reads as before. -/
def ObjsKept (written : Key → Prop) (s t : State) : Prop := ∀ k, ¬ written k → t.obj k = s.obj k

/-- Every byte of the byte memories reads as before: DRAM and core-local SRAM. -/
def MemoryKept (s t : State) : Prop :=
  (∀ a, cellRead t.mem.dram a = cellRead s.mem.dram a) ∧ (∀ a, cellRead t.mem.sram a = cellRead s.mem.sram a) ∧
  ∀ a, cellRead t.mem.secSram a = cellRead s.mem.secSram a

/-- The parts of the state. -/
inductive Part where
  | objs | power | dict | start | fw | media | chan | dec | players | acts | engines | groups | traces | motion | girth | host | layout | mem | fab | coll | raised | outs | free | pending
  deriving DecidableEq, Repr

/-- One part of the state is as it was. -/
def Part.same : Part → State → State → Prop
  | .objs, s, t => t.objs = s.objs
  | .power, s, t => t.power = s.power
  | .dict, s, t => t.dict = s.dict
  | .start, s, t => t.start = s.start
  | .fw, s, t => t.fw = s.fw
  | .media, s, t => t.media = s.media
  | .chan, s, t => t.chan = s.chan
  | .dec, s, t => t.dec = s.dec
  | .players, s, t => t.players = s.players
  | .acts, s, t => t.acts = s.acts
  | .engines, s, t => t.engines = s.engines
  | .groups, s, t => t.groups = s.groups
  | .traces, s, t => t.traces = s.traces
  | .motion, s, t => t.motion = s.motion
  | .girth, s, t => t.girth = s.girth
  | .host, s, t => t.host = s.host
  | .layout, s, t => t.layout = s.layout
  | .mem, s, t => t.mem = s.mem
  | .fab, s, t => t.fab = s.fab
  | .coll, s, t => t.coll = s.coll
  | .raised, s, t => t.raised = s.raised
  | .outs, s, t => t.outs = s.outs
  | .free, s, t => t.free = s.free
  | .pending, s, t => t.pending = s.pending

/-- Nothing outside these parts has changed. -/
def SameBut (T : List Part) (s t : State) : Prop := ∀ p, p ∉ T → p.same s t

/-- The parts of the state that a command can change. The queue is in none of them: a command never queues another. -/
def touches : Instr → List Part
  | .factoryFrameGap => []
  | .synthLock _ | .preampFaultRelease _ => [.chan]
  | .ledgerMirror => [.coll]
  | .blobStagingAbandon _ _ => [.dict]
  | .reinNop _ | .reinAdd _ _ _ _ | .reinSub _ _ _ _ | .reinAddw _ _ _ _ | .reinSubw _ _ _ _ | .reinAnd _ _ _ _ | .reinOr _ _ _ _
  | .reinXor _ _ _ _ | .reinMin _ _ _ _ | .reinMax _ _ _ _ | .reinAbs _ _ _ | .reinNeg _ _ _ | .reinShl _ _ _ _ | .reinShr _ _ _ _
  | .reinShrl _ _ _ _ | .reinLi _ _ _ | .reinLui _ _ _ | .reinAddi _ _ _ _ | .reinIn _ _ _ | .reinOut _ _ _ | .reinSetcb _ _
  | .reinMul _ _ _ _ | .reinMac _ _ _ _ | .reinMsu _ _ _ _ | .reinClra _ _ | .reinLda _ _ _ | .reinRnd _ _ _ _ _ | .reinB _ _
  | .reinBz _ _ _ | .reinBnz _ _ _ | .reinBlt _ _ _ | .reinBge _ _ _ | .reinDbnz _ _ _ | .engineReloadDone _ | .snapshotCopyDone _ =>
    [.engines]
  | .lifecycleNonceExpire => [.fw]
  | .perstDeassert _ | .sqDoorbell _ _ _ => [.host]
  | .rebuildCheckpoint => [.layout]
  | .zeroRangeDone | .keeperSlotErased _ | .supersededPageProgrammed => [.mem]
  | .spinCmd _ | .rampContact _ => [.motion]
  | .feedPresent _ | .pwrdisRelease | .throttleExit _ | .probationEnd _ | .safeEntriesExpire | .dynamicAddressAssignment _ => [.objs]
  | .freezeHangoverEnd _ _ => [.chan, .players]
  | .ledgerBandCopy => [.coll, .outs]
  | .holdCopyDone _ _ => [.dec, .mem]
  | .bolhobaUnknownOpcode _ _ _ _ => [.dict, .outs]
  | .spdmGetVersion _ | .spdmNegotiateAlgorithms _ _ | .spdmGetDigests _ | .spdmGetCertificate _ _ _ _ | .spdmUnsupported _ _
  | .tapInstruction _ => [.fw, .outs]
  | .ccEnSet _ => [.host, .free]
  | .ledgerMirrorDone => [.objs, .coll]
  | .ladderDeep _ | .ladderReleaseHold _ => [.objs, .dec]
  | .masterLoss | .joinListenTimeout _ | .dictRequestTimeout => [.objs, .girth]
  | .linkTrainingDone _ _ _ => [.objs, .host]
  | .cacheMaintDone _ => [.objs, .mem]
  | .heartbeat _ | .resetNotice _ | .linkStatus _ _ | .spinAlignEnd | .spindleStandstill => [.objs, .motion]
  | .feedSwitchReclose _ => [.objs, .power]
  | .throttleEnter _ | .vcoreSteer _ => [.objs, .raised]
  | .sentenceRecordWrite _ => [.players, .mem]
  | .sampleOverrun _ _ => [.players, .raised]
  | .holderMoveDone _ _ => [.fw, .media, .outs]
  | .spdmGetCapabilities _ _ | .spdmChallenge _ _ _ _ | .spdmGetMeasurements _ _ _ _ _ => [.fw, .outs, .free]
  | .ladderAverage _ => [.objs, .dec, .mem]
  | .storeCommit _ => [.objs, .dict, .raised]
  | .announcementEnd _ => [.objs, .engines, .girth]
  | .activationBankSwitch => [.objs, .fw, .acts]
  | .wiMirrorPoint | .reshapeGroupCopy => [.objs, .layout, .outs]
  | .pageSubstitutionDone _ => [.objs, .mem, .raised]
  | .vcmCmd _ _ _ | .driveMsg _ => [.objs, .motion, .free]
  | .maOvercurrent _ => [.objs, .motion, .raised]
  | .dumpSealed _ _ => [.power, .mem, .outs]
  | .mirrorRetry _ _ => [.media, .layout, .raised, .outs]
  | .reinLatch _ _ => [.objs, .chan, .groups, .outs]
  | .longFreeze _ _ => [.objs, .chan, .players, .free]
  | .ladderRequestEnd _ => [.objs, .dec, .mem, .free]
  | .detectorPassDone _ _ _ => [.objs, .dec, .raised, .free]
  | .bundleWriteDone => [.objs, .fw, .media, .outs]
  | .lifecycleNonceRead _ => [.objs, .fw, .outs, .free]
  | .syncPeriod | .phasePeriod | .healthPeriod | .healthDeferred | .seekCancel _ => [.objs, .girth, .outs, .free]
  | .candidateWaitEnd => [.objs, .girth, .raised, .free]
  | .dmaDescriptorFetched _ _ | .dmaBeatsAcknowledged _ | .dmaReadbackDone _ | .dmaBeatError _ _ _ _ | .fabricAck _ _ _ =>
    [.objs, .mem, .fab, .free]
  | .cacheFillReturn _ => [.objs, .mem, .outs, .free]
  | .ps3IdleTimeout => [.objs, .motion, .host, .free]
  | .unitQuiesced _ => [.objs, .motion, .layout, .free]
  | .zeroCross _ _ | .zeroCrossMissing | .spindleDriverFault | .headLoadTimeout _ => [.objs, .motion, .raised, .free]
  | .thermalAsperity _ _ | .dropDetect _ _ | .syncWindowEnd _ _ _ => [.objs, .chan, .players, .raised, .free]
  | .decodeDeadline _ => [.objs, .dec, .players, .mem, .free]
  | .reinDone _ => [.objs, .dict, .engines, .groups, .free]
  | .bolhobaGet _ | .bolhobaListGet _ _ | .bolhobaBlockRead _ _ _ => [.objs, .dict, .fw, .outs, .free]
  | .bundleStageLast _ _ _ | .recoveryImageLast _ _ _ | .ownerKeyWrite _ _ _ | .certChainWrite _ _ _ _ =>
    [.objs, .dict, .fw, .raised, .outs]
  | .girthSync _ _ _ _ _ _ _ | .girthPhase _ _ _ | .girthSeek _ _ _ _ _ _ | .girthHealth _ _ | .girthDictResponse _ _ _ _ _ _ _
  | .girthUnknownType _ _ _ => [.objs, .girth, .raised, .outs, .free]
  | .grownEntryCommit _ _ => [.objs, .media, .layout, .raised, .outs]
  | .commandFetch _ _ _ | .asyncEventRequest _ _ => [.objs, .motion, .host, .outs, .free]
  | .writeFifoEmpty _ => [.objs, .chan, .players, .mem, .outs, .free]
  | .ldpcIterationDone _ _ _ => [.objs, .dec, .players, .mem, .raised, .free]
  | .reinLd _ _ _ _ | .reinSt _ _ _ _ | .reinCall _ _ | .reinRet _ | .reinProgramFault _ | .reinBudgetStop _ =>
    [.objs, .dict, .engines, .groups, .raised, .free]
  | .bolhobaBlockWrite _ _ _ _ | .windowRead _ _ _ => [.objs, .dict, .fw, .raised, .outs, .free]
  | .arbiterGrant _ => [.objs, .dict, .mem, .fab, .raised, .free]
  | .girthDictGet _ _ _ _ _ => [.objs, .fw, .girth, .raised, .outs, .free]
  | .grownDefectReadback _ _ _ _ _ _ _ => [.objs, .media, .layout, .raised, .outs, .free]
  | .firmwareCommitInvalidAction _ | .createIoSq _ | .createIoCq _ | .deleteIoSq _ | .deleteIoCq _ | .getLogPage _ | .identify _
  | .nvmeAbort _ | .setFeatures _ | .setFeaturesPowerManagement _ | .setFeaturesErrorRecovery _ | .setFeaturesVwc _ | .getFeatures _
  | .namespaceAttachment _ _ | .getLbaStatus _ | .nvmeFlush _ | .nvmeRead _ _ | .nvmeVerify _ _ | .reservationRegister _ _ _
  | .reservationReport _ | .reservationAcquire _ _ _ | .reservationPreemptAndAbort _ _ _ | .reservationRelease _ _ | .invalidOpcode _
  | .readTransferred _ | .shutdownNormal _ | .tlerExpire _ _ | .cqHeadDoorbell _ _ _ | .reservationStateWritten _ =>
    [.objs, .motion, .host, .coll, .outs, .free]
  | .powerGood | .railsUp | .attemptBegin _ => [.objs, .power, .start, .motion, .raised, .free]
  | .captureEnd _ _ => [.objs, .chan, .dec, .players, .mem, .raised, .free]
  | .writePayloadPoisoned _ _ => [.objs, .chan, .players, .mem, .raised, .outs, .free]
  | .unitReadmit _ => [.objs, .dec, .girth, .host, .layout, .coll, .free]
  | .dictionaryGet _ | .dictionaryListRead _ | .firmwareImageDownload _ _ | .firmwareCommitActivate _ | .firmwareCommitActivateNow _
  | .firmwareCommitDone | .sanitize _ _ | .formatNvm _ | .securitySend _ _ | .securityReceive _ | .shutdownAbrupt _ =>
    [.objs, .fw, .motion, .host, .coll, .outs, .free]
  | .destageUpdate _ _ => [.objs, .host, .layout, .mem, .raised, .outs, .free]
  | .ladderStepAdvance _ _ _ _ _ _ => [.objs, .media, .dec, .layout, .mem, .raised, .free]
  | .resyncGroup _ _ | .rebuildStripe _ _ | .patrolStripe _ _ => [.objs, .media, .host, .layout, .raised, .outs, .free]
  | .powerStateSafePoint => [.objs, .motion, .host, .layout, .coll, .outs, .free]
  | .writeUnsafe _ _ _ | .synthUnlock _ | .preampFaultAssert _ | .preampFrameDone _ _ _ =>
    [.objs, .chan, .players, .traces, .mem, .raised, .outs, .free]
  | .dictionaryBlockRead _ => [.objs, .dict, .fw, .motion, .host, .coll, .outs, .free]
  | .firmwareCommitReplace _ | .firmwareCommitReplaceActivate _ => [.objs, .fw, .motion, .host, .coll, .raised, .outs, .free]
  | .namespaceCreate _ _ _ => [.objs, .fw, .motion, .host, .layout, .coll, .outs, .free]
  | .writeCached _ => [.objs, .motion, .host, .layout, .coll, .raised, .outs, .free]
  | .nvmeWrite _ _ => [.objs, .motion, .host, .layout, .mem, .coll, .outs, .free]
  | .gateEntryExecute _ _ _ => [.objs, .chan, .dec, .players, .traces, .mem, .raised, .outs, .free]
  | .servoSyncTimeout _ | .sentenceFetchDone _ | .sentenceUnderrun _ | .sentenceEnd _ =>
    [.objs, .chan, .players, .acts, .traces, .mem, .raised, .outs, .free]
  | .activationStaged => [.objs, .fw, .acts, .motion, .host, .coll, .raised, .outs, .free]
  | .namespaceDelete _ | .writeZeroes _ | .datasetManagement _ => [.objs, .motion, .host, .layout, .mem, .coll, .raised, .outs, .free]
  | .clauseStep _ _ _ | .clauseGoto _ _ _ | .clauseCall _ _ _ | .clauseRet _ _ _ | .clauseSetcnt _ _ _ | .clauseLoop _ _ _
  | .clauseSector _ _ _ | .clauseIfwrite _ _ _ | .clauseIfparity _ _ _ | .clauseEnd _ _ _ | .clauseBad _ _ | .clauseTimeEnd _
  | .clauseWaitMet _ _ _ | .clauseWaitTimeout _ | .playerStallEnd _ | .windowEndReached _ | .playerMemoryFault _ _ =>
    [.objs, .chan, .dec, .players, .acts, .traces, .mem, .raised, .outs, .free]
  | .v3p3Overcurrent _ | .preampFaultPersist _ | .vcmOvercurrent _ =>
    [.objs, .chan, .dec, .players, .acts, .traces, .motion, .layout, .mem, .raised, .outs, .free]
  | .fabricNak _ _ => [.objs, .dict, .chan, .dec, .players, .acts, .traces, .layout, .mem, .fab, .raised, .outs, .free]
  | .feedLost _ _ | .pwrdisAssert | .heartbeatLoss =>
    [.objs, .power, .chan, .dec, .players, .acts, .traces, .motion, .host, .mem, .raised, .outs, .free]
  | .safeRestartTimeout => [.objs, .power, .start, .chan, .dec, .players, .acts, .traces, .motion, .host, .mem, .raised, .outs, .free]
  | .railsOff | .vmCollapse =>
    [.objs, .power, .dict, .start, .fw, .media, .chan, .dec, .players, .acts, .engines, .groups, .traces, .motion, .girth, .host,
    .layout, .mem, .fab, .coll, .raised, .outs]
  | .thermalShutdown _ | .powerCapWrite _ _ | .dictionarySet _ _ | .dictionarySetList _ _ | .bolhobaSet _ _ _ _ | .bolhobaListSet _ _
  | .windowWrite _ _ _ _ | .mbRead _ | .mbWrite _ | .mbWriteLast _ | .mbTransferDone _ | .store _ _ | .restoreDefaults _ _
  | .unitDisable _ _ | .unitEnable _ _ _ | .objectWrite _ _ _ _ _ _ | .startStepEnd _ _ | .stepWatchdog _ | .startDeadline
  | .restartNormal _ | .restartMaintenance _ | .perstAssert _ | .activationFreezeEnd _ | .lifecycleRequest _ _ | .servoSync _ _ _ _
  | .preampAccess _ _ _ | .ringTailWrite _ _ | .sentenceLoad _ _ _ | .playerAbort _ _ _ | .outerTrigger _ | .reinCompare _ _
  | .pairHoldRerunEnd _ | .reinMemoryFault _ | .coefWrite _ _ _ | .snapRequest _ _ _ | .inject _ _ _ | .traceArm _ _ _ | .traceForce _ _ _
  | .linkResend _ | .linkObject _ _ _ _ | .senseMsg _ _ _ | .motionDieLost | .spinRampEnd _ | .retractParked _ _ | .retractTimeout _
  | .girthDictSet _ _ _ _ _ _ | .announce _ _ | .dictRequest _ _ | .ccEnClear _ | .functionLevelReset _ | .pcieLinkDown _
  | .nvmSubsystemReset | .stripeUpdateRetire _ | .journalReplay _ | .retireSurface _ _ | .reshapeRequest _ _ | .reshapeCancel _ _
  | .reshapeSwitch | .zeroRange _ _ | .cacheClean _ | .cacheInvalidate _ | .cacheCleanInvalidate _ | .cacheFillLock _ | .cacheUnlock _
  | .cacheCleanSw _ | .cacheInvalidateSw _ | .cacheCleanInvalidateSw _ | .dmaGo _ _ _ | .dmaChainGo _ _ _ | .dmaStop _ _ _
  | .notifyClear _ _ _ | .collectorEvent _ | .coreWatchdog _ | .collectorSelfFault _ | .captureClear _ _ _ | .clearUpto _ _ | .clearAll _ _
  | .unretire _ _ | .sourceEntryWrite _ _ _ | .spindleReinTrigger _ | .coreMemoryAccess _ _ _ _ _ | .cryptoEraseDone _ =>
    [.objs, .power, .dict, .start, .fw, .media, .chan, .dec, .players, .acts, .engines, .groups, .traces, .motion, .girth, .host,
    .layout, .mem, .fab, .coll, .raised, .outs, .free]

/-- The objects that a command can write, the unit numbers left open; a command that writes an object of the requester's choice, or resets
a part of the store, can write any. -/
def writes : Instr → Key → Prop
  | .sampleOverrun _ _, _ | .factoryFrameGap, _ | .blobStagingAbandon _ _, _ | .perstDeassert _, _ | .lifecycleNonceExpire, _
  | .spdmGetVersion _, _ | .spdmGetCapabilities _ _, _ | .spdmNegotiateAlgorithms _ _, _ | .spdmGetDigests _, _
  | .spdmGetCertificate _ _ _ _, _ | .spdmChallenge _ _ _ _, _ | .spdmGetMeasurements _ _ _ _ _, _ | .spdmUnsupported _ _, _
  | .holderMoveDone _ _, _ | .synthLock _, _ | .freezeHangoverEnd _ _, _ | .holdCopyDone _ _, _ | .sentenceRecordWrite _, _ | .reinNop _, _
  | .reinAdd _ _ _ _, _ | .reinSub _ _ _ _, _ | .reinAddw _ _ _ _, _ | .reinSubw _ _ _ _, _ | .reinAnd _ _ _ _, _ | .reinOr _ _ _ _, _
  | .reinXor _ _ _ _, _ | .reinMin _ _ _ _, _ | .reinMax _ _ _ _, _ | .reinAbs _ _ _, _ | .reinNeg _ _ _, _ | .reinShl _ _ _ _, _
  | .reinShr _ _ _ _, _ | .reinShrl _ _ _ _, _ | .reinLi _ _ _, _ | .reinLui _ _ _, _ | .reinAddi _ _ _ _, _ | .reinIn _ _ _, _
  | .reinOut _ _ _, _ | .reinSetcb _ _, _ | .reinMul _ _ _ _, _ | .reinMac _ _ _ _, _ | .reinMsu _ _ _ _, _ | .reinClra _ _, _
  | .reinLda _ _ _, _ | .reinRnd _ _ _ _ _, _ | .reinB _ _, _ | .reinBz _ _ _, _ | .reinBnz _ _ _, _ | .reinBlt _ _ _, _ | .reinBge _ _ _, _
  | .reinDbnz _ _ _, _ | .engineReloadDone _, _ | .snapshotCopyDone _, _ | .spinCmd _, _ | .rampContact _, _ | .dumpSealed _ _, _
  | .sqDoorbell _ _ _, _ | .ccEnSet _, _ | .mirrorRetry _ _, _ | .rebuildCheckpoint, _ | .zeroRangeDone, _ | .keeperSlotErased _, _
  | .ledgerMirror, _ | .ledgerBandCopy, _ | .tapInstruction _, _ | .preampFaultRelease _, _ | .bolhobaUnknownOpcode _ _ _ _, _
  | .supersededPageProgrammed, _ => False
  | .vcoreSteer _, k => k ∈ [Obj.vcoreMv]
  | .seekCancel _, k => k ∈ [Obj.txDrops]
  | .feedPresent _, k | .feedSwitchReclose _, k | .pwrdisRelease, k => k ∈ [Obj.feedState]
  | .ledgerMirrorDone, k => k ∈ [Obj.mirrorSeq]
  | .pageSubstitutionDone _, k => k ∈ [Obj.sparesFree]
  | .safeEntriesExpire, k => k ∈ [Obj.safeEntries]
  | .dictRequestTimeout, k => k ∈ [Obj.dictResponse]
  | .resetNotice _, k => k ∈ [Obj.heartbeatArmed]
  | .announcementEnd _, k => (∃ a, k ∈ [Obj.ffGain a])
  | .dynamicAddressAssignment _, k => k ∈ [Obj.mbusDynamicAddr]
  | .bundleWriteDone, k => k ∈ [Obj.bundlePendingGen]
  | .thermalAsperity _ _, k => (∃ a, k ∈ [Obj.taCount a])
  | .healthPeriod, k | .healthDeferred, k => k ∈ [Obj.tjC, Obj.txDrops]
  | .ladderDeep _, k | .ladderAverage _, k | .ladderReleaseHold _, k => (∃ a, k ∈ [Obj.ringHead a])
  | .ladderRequestEnd _, k => (∃ a, k ∈ [Obj.ringDone a])
  | .linkStatus _ _, k => k ∈ [Obj.mdTempC, Obj.vmMv]
  | .bolhobaGet _, k | .bolhobaListGet _ _, k | .bolhobaBlockRead _ _ _, k | .windowRead _ _ _, k | .lifecycleNonceRead _, k =>
    k ∈ [Obj.feedState, Obj.tjC]
  | .dropDetect _ _, k => (∃ a, k ∈ [Obj.dropCount a])
  | .vcmCmd _ _ _, k => (∃ a, k ∈ [Obj.vcmClamps a])
  | .maOvercurrent _, k => (∃ a, k ∈ [Obj.driveFault a])
  | .girthHealth _ _, k | .girthUnknownType _ _ _, k => k ∈ [Obj.crcErrors, Obj.poisoned]
  | .writeFifoEmpty _, k | .writePayloadPoisoned _ _, k => (∃ a, k ∈ [Obj.incompleteCount a])
  | .longFreeze _ _, k => (∃ a, k ∈ [Obj.longFreezeCount a])
  | .reinLatch _ _, k => k ∈ [Obj.atSpeed, Obj.phaseLocked]
  | .phasePeriod, k => k ∈ [Obj.assignedPhase, Obj.txDrops]
  | .storeCommit _, k => k ∈ [Obj.storeResult, Obj.storeState]
  | .heartbeat _, k => k ∈ [Obj.heartbeatArmed, Obj.linkState]
  | .wiMirrorPoint, k => k ∈ [Obj.wiDirtyGroups, Obj.wiLastTick]
  | .dmaBeatsAcknowledged _, k => (∃ a, k ∈ [Obj.doneCount a, Obj.objBytes a])
  | .shutdownNormal _, k => (∃ a, k ∈ [Obj.driveState a, Obj.retracts a])
  | .cacheMaintDone _, k => (∃ a, k ∈ [Obj.maintOp a, Obj.maintStatus a])
  | .linkTrainingDone _ _ _, k => (∃ a, k ∈ [Obj.linkSpeed a, Obj.linkWidth a])
  | .spinAlignEnd, k => k ∈ [Obj.atSpeed, Obj.phaseLocked, Obj.spinMode]
  | .cacheFillReturn _, k => k ∈ [Obj.lockedLines, Obj.misses, Obj.writebacks]
  | .throttleEnter _, k | .throttleExit _, k => k ∈ [Obj.effectiveState, Obj.thermalState, Obj.tjC]
  | .syncWindowEnd _ _ _, k => (∃ a, k ∈ [Obj.sm1MissCount a, Obj.sm2MissCount a])
  | .girthDictResponse _ _ _ _ _ _ _, k => k ∈ [Obj.crcErrors, Obj.dictResponse, Obj.poisoned]
  | .ladderStepAdvance _ _ _ _ _ _, k => k ∈ [Obj.unrecovered] ∨ (∃ a, k ∈ [Obj.recovered a])
  | .girthPhase _ _ _, k => k ∈ [Obj.assignedPhase, Obj.crcErrors, Obj.poisoned]
  | .probationEnd _, k => (∃ a, k ∈ [Obj.groupState a]) ∨ (∃ a b, k ∈ [engKey a b])
  | .writeUnsafe _ _ _, k => (∃ a, k ∈ [Obj.incompleteCount a, Obj.writeUnsafeCount a])
  | .activationBankSwitch, k => k ∈ [Obj.activationState] ∨ (∃ a, k ∈ [Obj.bankCurrent a])
  | .spindleStandstill, k => k ∈ [Obj.atSpeed, Obj.phaseLocked, Obj.speed, Obj.spinMode]
  | .headLoadTimeout _, k => (∃ a, k ∈ [Obj.driveFault a, Obj.driveState a, Obj.retracts a])
  | .decodeDeadline _, k => k ∈ [Obj.extendedCount, Obj.samplesLostCount, Obj.slotOverrunCount]
  | .girthSeek _ _ _ _ _ _, k => k ∈ [Obj.crcErrors, Obj.poisoned, Obj.seeksHeard, Obj.seeksIgnored]
  | .girthDictGet _ _ _ _ _, k => k ∈ [Obj.crcErrors, Obj.feedState, Obj.poisoned, Obj.tjC, Obj.txDrops]
  | .reinDone _, k => (∃ a, k ∈ [Obj.satCount a, Obj.snapshot a]) ∨ (∃ a b, k ∈ [engKey a b])
  | .detectorPassDone _ _ _, k => (∃ a, k ∈ [Obj.detCheckFails a, Obj.detSectors a, Obj.ldpcCheckFails a])
  | .preampFaultAssert _, k => (∃ a, k ∈ [Obj.incompleteCount a, Obj.preampFaults a, Obj.writeUnsafeCount a])
  | .synthUnlock _, k => (∃ a, k ∈ [Obj.incompleteCount a, Obj.synthUnlockCount a, Obj.writeUnsafeCount a])
  | .reinLd _ _ _ _, k | .reinSt _ _ _ _, k | .reinCall _ _, k | .reinRet _, k | .reinProgramFault _, k | .reinBudgetStop _, k =>
    (∃ a, k ∈ [Obj.programStops a, Obj.satCount a, Obj.snapshot a]) ∨ (∃ a b, k ∈ [engKey a b])
  | .spindleDriverFault, k => k ∈ [Obj.atSpeed, Obj.phaseLocked, Obj.spinMode] ∨ (∃ a, k ∈ [Obj.driveState a, Obj.retracts a])
  | .masterLoss, k | .joinListenTimeout _, k =>
    k ∈ [Obj.assignedPhase, Obj.degraded, Obj.epochOffset, Obj.girthState, Obj.hop, Obj.masterTag, Obj.ringSize]
  | .driveMsg _, k => k ∈ [Obj.atSpeed, Obj.phaseLocked, Obj.spinMode, Obj.targetRpm] ∨ (∃ a, k ∈ [Obj.driveState a, Obj.retracts a])
  | .cqHeadDoorbell _ _ _, k =>
    k ∈ [Obj.lockInUse, Obj.slotsInUse] ∨ (∃ a, k ∈ [Obj.commands a, Obj.driveState a, Obj.ioSlotsHeld a, Obj.retracts a])
  | .preampFrameDone _ _ _, k =>
    (∃ a, k ∈ [Obj.frameRetries a, Obj.incompleteCount a, Obj.preampAccess a, Obj.preampFaultStatus a, Obj.writeUnsafeCount a])
  | .candidateWaitEnd, k =>
    k ∈ [Obj.assignedPhase, Obj.degraded, Obj.epochOffset, Obj.girthState, Obj.hop, Obj.masterTag, Obj.ringSize, Obj.takeovers]
  | .zeroCrossMissing, k =>
    k ∈ [Obj.atSpeed, Obj.phaseLocked, Obj.spinFaults, Obj.spinMode] ∨ (∃ a, k ∈ [Obj.driveState a, Obj.retracts a, Obj.revNow a])
  | .syncPeriod, k =>
    k ∈ [Obj.assignedPhase, Obj.degraded, Obj.epochOffset, Obj.girthState, Obj.hop, Obj.masterTag, Obj.ringSize, Obj.tjC, Obj.txDrops]
  | .captureEnd _ _, k =>
    (∃ a, k ∈ [Obj.sm1CorrectedCount a, Obj.timedCount a]) ∨ (∃ a b, k ∈ [Obj.clipCount a b, Obj.offsetRailCount a b, Obj.stuckCount a
    b])
  | .sentenceEnd _, k =>
    (∃ a, k ∈ [Obj.badClauses a, Obj.loadState a, Obj.objFaults a, Obj.sentences a, Obj.settleMisses a, Obj.underruns a,
    Obj.windowEnds a])
  | .zeroCross _ _, k =>
    k ∈ [Obj.atSpeed, Obj.phaseLocked, Obj.speed, Obj.spinFaults, Obj.spinMode] ∨ (∃ a, k ∈ [Obj.driveState a, Obj.retracts a,
    Obj.revNow a])
  | .firmwareImageDownload _ _, k | .firmwareCommitReplace _, k | .firmwareCommitReplaceActivate _, k | .firmwareCommitActivate _, k
  | .firmwareCommitInvalidAction _, k | .firmwareCommitDone, k | .sanitize _ _, k | .formatNvm _, k | .createIoCq _, k | .deleteIoCq _, k
  | .identify _, k | .getFeatures _, k | .namespaceAttachment _ _, k | .securitySend _ _, k | .securityReceive _, k | .getLbaStatus _, k =>
    k ∈ [Obj.lockInUse, Obj.lockStallMaxUs, Obj.slotsInUse] ∨ (∃ a, k ∈ [Obj.commands a, Obj.driveState a, Obj.ioSlotsHeld a,
    Obj.retracts a])
  | .dmaDescriptorFetched _ _, k | .dmaReadbackDone _, k =>
    (∃ a, k ∈ [Obj.chainAddr a, Obj.chanStatus a, Obj.dmaState a, Obj.doneCount a, Obj.notifyPending a, Obj.objTransfers a,
    Obj.poisonAddr a])
  | .arbiterGrant _, k =>
    k ∈ [Obj.ceCount, Obj.grants, Obj.lastError, Obj.pagesRetired, Obj.poisonReads, Obj.reservedGrants, Obj.retiredPages,
    Obj.storeState, Obj.ueCount]
  | .sentenceUnderrun _, k =>
    (∃ a, k ∈ [Obj.badClauses a, Obj.loadState a, Obj.objFaults a, Obj.sentences a, Obj.seqNow a, Obj.settleMisses a, Obj.underruns a,
    Obj.windowEnds a])
  | .createIoSq _, k =>
    k ∈ [Obj.lockInUse, Obj.lockStallMaxUs, Obj.slotsInUse] ∨ (∃ a, k ∈ [Obj.commands a, Obj.driveState a, Obj.ioQueues a,
    Obj.ioSlotsHeld a, Obj.retracts a])
  | .dmaBeatError _ _ _ _, k | .fabricAck _ _ _, k =>
    (∃ a, k ∈ [Obj.chainAddr a, Obj.chanStatus a, Obj.dmaState a, Obj.doneCount a, Obj.notifyPending a, Obj.objBytes a,
    Obj.objTransfers a, Obj.poisonAddr a])
  | .girthSync _ _ _ _ _ _ _, k =>
    k ∈ [Obj.assignedPhase, Obj.crcErrors, Obj.degraded, Obj.epochOffset, Obj.foreignSyncs, Obj.girthState, Obj.hop, Obj.masterTag,
    Obj.poisoned, Obj.ringSize]
  | .firmwareCommitActivateNow _, k | .activationStaged, k =>
    k ∈ [Obj.activationState, Obj.lockInUse, Obj.lockStallMaxUs, Obj.slotsInUse] ∨ (∃ a, k ∈ [Obj.commands a, Obj.driveState a,
    Obj.ioSlotsHeld a, Obj.retracts a])
  | .ps3IdleTimeout, k =>
    k ∈ [Obj.atSpeed, Obj.effectiveState, Obj.phaseLocked, Obj.powerState, Obj.spinMode, Obj.spinups, Obj.targetRpm] ∨ (∃ a, k ∈
    [Obj.driveState a, Obj.retracts a])
  | .ldpcIterationDone _ _ _, k =>
    k ∈ [Obj.crcFailCount, Obj.extendedCount, Obj.samplesLostCount, Obj.slotOverrunCount] ∨ (∃ a, k ∈ [Obj.detCheckFails a,
    Obj.ldpcCheckFails a, Obj.ldpcSectors a])
  | .dictionaryGet _, k | .dictionaryBlockRead _, k | .dictionaryListRead _, k =>
    k ∈ [Obj.feedState, Obj.lockInUse, Obj.lockStallMaxUs, Obj.slotsInUse, Obj.tjC] ∨ (∃ a, k ∈ [Obj.commands a, Obj.driveState a,
    Obj.ioSlotsHeld a, Obj.retracts a])
  | .nvmeAbort _, k | .reservationRegister _ _ _, k | .reservationReport _, k | .reservationAcquire _ _ _, k
  | .reservationPreemptAndAbort _ _ _, k | .reservationRelease _ _, k | .invalidOpcode _, k | .readTransferred _, k | .shutdownAbrupt _, k
  | .tlerExpire _ _, k | .reservationStateWritten _, k =>
    k ∈ [Obj.flushes, Obj.fuaWrites, Obj.lockInUse, Obj.lockStallMaxUs, Obj.slotsInUse] ∨ (∃ a, k ∈ [Obj.commands a, Obj.driveState a,
    Obj.ioSlotsHeld a, Obj.retracts a])
  | .sentenceFetchDone _, k =>
    (∃ a, k ∈ [Obj.badClauses a, Obj.loadReject a, Obj.loadState a, Obj.objFaults a, Obj.sentences a, Obj.seqNow a, Obj.settleMisses
    a, Obj.underruns a, Obj.windowEnds a])
  | .deleteIoSq _, k =>
    k ∈ [Obj.flushes, Obj.fuaWrites, Obj.lockInUse, Obj.lockStallMaxUs, Obj.slotsInUse] ∨ (∃ a, k ∈ [Obj.commands a, Obj.driveState a,
    Obj.ioQueues a, Obj.ioSlotsHeld a, Obj.retracts a])
  | .grownDefectReadback _ _ _ _ _ _ _, k =>
    k ∈ [Obj.chunksToRebuild, Obj.criticalStripes, Obj.degradedStripes, Obj.lostEntries, Obj.lostMerges, Obj.rebuildState,
    Obj.remapCrowded, Obj.remapEntries, Obj.stripesUsed, Obj.substCrowded]
  | .servoSyncTimeout _, k =>
    (∃ a, k ∈ [Obj.badClauses a, Obj.incompleteCount a, Obj.loadState a, Obj.objFaults a, Obj.revNow a, Obj.sentences a,
    Obj.settleMisses a, Obj.underruns a, Obj.windowEnds a, Obj.writeUnsafeCount a])
  | .gateEntryExecute _ _ _, k =>
    (∃ a, k ∈ [Obj.incompleteCount a, Obj.lateGates a, Obj.sm1CorrectedCount a, Obj.synthUnlockCount a, Obj.timedCount a,
    Obj.writeUnsafeCount a]) ∨ (∃ a b, k ∈ [Obj.clipCount a b, Obj.offsetRailCount a b, Obj.stuckCount a b])
  | .grownEntryCommit _ _, k =>
    k ∈ [Obj.chunksToRebuild, Obj.criticalStripes, Obj.degradedStripes, Obj.lostEntries, Obj.lostMerges, Obj.rebuildState,
    Obj.remapCrowded, Obj.remapEntries, Obj.stripesUsed, Obj.substCrowded] ∨ (∃ a b, k ∈ [Obj.grownCount a b])
  | .powerStateSafePoint, k =>
    k ∈ [Obj.atSpeed, Obj.effectiveState, Obj.entriesCut, Obj.mediaWakes, Obj.phaseLocked, Obj.powerState, Obj.spinMode, Obj.spinups,
    Obj.targetRpm, Obj.wiDirtyGroups, Obj.wiLastTick] ∨ (∃ a, k ∈ [Obj.driveState a, Obj.retracts a])
  | .nvmeFlush _, k | .nvmeRead _ _, k | .nvmeVerify _ _, k =>
    k ∈ [Obj.atSpeed, Obj.flushes, Obj.fuaWrites, Obj.lockInUse, Obj.lockStallMaxUs, Obj.mediaWakes, Obj.phaseLocked, Obj.slotsInUse,
    Obj.spinMode, Obj.spinups, Obj.targetRpm] ∨ (∃ a, k ∈ [Obj.commands a, Obj.driveState a, Obj.ioSlotsHeld a, Obj.retracts a])
  | .reshapeGroupCopy, k =>
    k ∈ [Obj.chunksToRebuild, Obj.criticalStripes, Obj.degradedStripes, Obj.lostEntries, Obj.lostMerges, Obj.rebuildState,
    Obj.remapCrowded, Obj.remapEntries, Obj.reshapeState, Obj.stripeGen, Obj.stripesUsed, Obj.substCrowded, Obj.updates,
    Obj.wiDirtyGroups]
  | .nvmeWrite _ _, k =>
    k ∈ [Obj.atSpeed, Obj.cacheDirtyKib, Obj.flushes, Obj.fuaWrites, Obj.lockInUse, Obj.lockStallMaxUs, Obj.mediaWakes,
    Obj.phaseLocked, Obj.slotsInUse, Obj.spinMode, Obj.spinups, Obj.targetRpm] ∨ (∃ a, k ∈ [Obj.commands a, Obj.driveState a,
    Obj.ioSlotsHeld a, Obj.retracts a])
  | .setFeatures _, k | .setFeaturesPowerManagement _, k | .setFeaturesErrorRecovery _, k | .setFeaturesVwc _, k =>
    k ∈ [Obj.atSpeed, Obj.effectiveState, Obj.flushes, Obj.fuaWrites, Obj.lockInUse, Obj.lockStallMaxUs, Obj.phaseLocked,
    Obj.powerState, Obj.slotsInUse, Obj.spinMode, Obj.spinups, Obj.targetRpm] ∨ (∃ a, k ∈ [Obj.commands a, Obj.driveState a,
    Obj.ioSlotsHeld a, Obj.retracts a])
  | .clauseStep _ _ _, k | .clauseGoto _ _ _, k | .clauseCall _ _ _, k | .clauseRet _ _ _, k | .clauseSetcnt _ _ _, k | .clauseLoop _ _ _, k
  | .clauseSector _ _ _, k | .clauseIfwrite _ _ _, k | .clauseIfparity _ _ _, k | .clauseEnd _ _ _, k | .clauseBad _ _, k
  | .clauseTimeEnd _, k | .clauseWaitMet _ _ _, k | .playerStallEnd _, k | .windowEndReached _, k | .playerMemoryFault _ _, k =>
    (∃ a, k ∈ [Obj.badClauses a, Obj.incompleteCount a, Obj.loadState a, Obj.objFaults a, Obj.sentences a, Obj.settleMisses a,
    Obj.sm1CorrectedCount a, Obj.timedCount a, Obj.underruns a, Obj.windowEnds a]) ∨ (∃ a b, k ∈ [Obj.clipCount a b,
    Obj.offsetRailCount a b, Obj.stuckCount a b])
  | .commandFetch _ _ _, k | .asyncEventRequest _ _, k =>
    k ∈ [Obj.admissionSeq, Obj.atSpeed, Obj.effectiveState, Obj.lockInUse, Obj.lockStallMaxUs, Obj.lockStalls, Obj.phaseLocked,
    Obj.powerState, Obj.slotWaits, Obj.slotsInUse, Obj.spinMode, Obj.spinups, Obj.targetRpm] ∨ (∃ a, k ∈ [Obj.commands a,
    Obj.driveState a, Obj.ioSlotsHeld a, Obj.retracts a])
  | .clauseWaitTimeout _, k =>
    (∃ a, k ∈ [Obj.badClauses a, Obj.incompleteCount a, Obj.loadState a, Obj.objFaults a, Obj.sentences a, Obj.settleMisses a,
    Obj.sm1CorrectedCount a, Obj.timedCount a, Obj.underruns a, Obj.waitTimeouts a, Obj.windowEnds a]) ∨ (∃ a b, k ∈ [Obj.clipCount a
    b, Obj.offsetRailCount a b, Obj.stuckCount a b])
  | .getLogPage _, k =>
    k ∈ [Obj.chunksToRebuild, Obj.criticalStripes, Obj.degradedStripes, Obj.lockInUse, Obj.lockStallMaxUs, Obj.lostEntries,
    Obj.lostMerges, Obj.rebuildState, Obj.remapCrowded, Obj.remapEntries, Obj.slotsInUse, Obj.stripesUsed, Obj.substCrowded] ∨ (∃ a, k
    ∈ [Obj.commands a, Obj.driveState a, Obj.ioSlotsHeld a, Obj.retracts a])
  | .namespaceCreate _ _ _, k =>
    k ∈ [Obj.chunksToRebuild, Obj.criticalStripes, Obj.degradedStripes, Obj.lockInUse, Obj.lockStallMaxUs, Obj.lostEntries,
    Obj.lostMerges, Obj.rebuildState, Obj.remapCrowded, Obj.remapEntries, Obj.slotsInUse, Obj.stripesUsed, Obj.substCrowded] ∨ (∃ a, k
    ∈ [Obj.commands a, Obj.driveState a, Obj.ioSlotsHeld a, Obj.nsLayout a, Obj.retracts a])
  | .rebuildStripe _ _, k =>
    k ∈ [Obj.chunksRebuilt, Obj.chunksToRebuild, Obj.criticalStripes, Obj.degradedStripes, Obj.lockInUse, Obj.lostEntries,
    Obj.lostMerges, Obj.rebuildState, Obj.remapCrowded, Obj.remapEntries, Obj.slotsInUse, Obj.stripeGen, Obj.stripesUsed,
    Obj.substCrowded, Obj.updates, Obj.wiDirtyGroups] ∨ (∃ a, k ∈ [Obj.commands a, Obj.ioSlotsHeld a, Obj.surfaceState a])
  | .patrolStripe _ _, k =>
    k ∈ [Obj.chunksToRebuild, Obj.criticalStripes, Obj.degradedStripes, Obj.lockInUse, Obj.lostEntries, Obj.lostMerges,
    Obj.patrolNext, Obj.patrolPass, Obj.patrolRepairs, Obj.rebuildState, Obj.remapCrowded, Obj.remapEntries, Obj.slotsInUse,
    Obj.stripeGen, Obj.stripesUsed, Obj.substCrowded, Obj.updates, Obj.wiDirtyGroups] ∨ (∃ a, k ∈ [Obj.commands a, Obj.ioSlotsHeld a])
  | .writeZeroes _, k | .datasetManagement _, k =>
    k ∈ [Obj.cacheDirtyKib, Obj.chunksToRebuild, Obj.criticalStripes, Obj.degradedStripes, Obj.flushes, Obj.fuaWrites, Obj.lockInUse,
    Obj.lockStallMaxUs, Obj.lostEntries, Obj.lostMerges, Obj.rebuildState, Obj.remapCrowded, Obj.remapEntries, Obj.slotsInUse,
    Obj.stripesUsed, Obj.substCrowded] ∨ (∃ a, k ∈ [Obj.commands a, Obj.driveState a, Obj.ioSlotsHeld a, Obj.retracts a])
  | .vcmOvercurrent _, k =>
    (∃ a, k ∈ [Obj.actuatorState a, Obj.badClauses a, Obj.driveFault a, Obj.driveState a, Obj.incompleteCount a, Obj.loadState a,
    Obj.objFaults a, Obj.playerState a, Obj.sentences a, Obj.settleMisses a, Obj.sm1CorrectedCount a, Obj.surfaceState a,
    Obj.timedCount a, Obj.underruns a, Obj.windowEnds a]) ∨ (∃ a b, k ∈ [Obj.clipCount a b, Obj.offsetRailCount a b, Obj.stuckCount a
    b])
  | .resyncGroup _ _, k =>
    k ∈ [Obj.chunksToRebuild, Obj.criticalStripes, Obj.degradedStripes, Obj.journalFree, Obj.journalOpen, Obj.lockInUse,
    Obj.lostEntries, Obj.lostMerges, Obj.rebuildState, Obj.remapCrowded, Obj.remapEntries, Obj.replayPending, Obj.replayState,
    Obj.resyncPending, Obj.slotsInUse, Obj.stripeGen, Obj.stripesUsed, Obj.substCrowded, Obj.updates, Obj.wiDirtyGroups] ∨ (∃ a, k ∈
    [Obj.commands a, Obj.ioSlotsHeld a])
  | .destageUpdate _ _, k =>
    k ∈ [Obj.cacheDirtyKib, Obj.chunksToRebuild, Obj.criticalStripes, Obj.degradedStripes, Obj.journalFree, Obj.journalOpen,
    Obj.journalWaits, Obj.lockInUse, Obj.lostEntries, Obj.lostMerges, Obj.rebuildState, Obj.remapCrowded, Obj.remapEntries,
    Obj.replayPending, Obj.slotsInUse, Obj.stripeGen, Obj.stripesUsed, Obj.substCrowded, Obj.updates, Obj.wiDirtyGroups] ∨ (∃ a, k ∈
    [Obj.commands a, Obj.ioSlotsHeld a])
  | .v3p3Overcurrent _, k | .preampFaultPersist _, k =>
    k ∈ [Obj.v3p3Enable] ∨ (∃ a, k ∈ [Obj.actuatorState a, Obj.badClauses a, Obj.driveState a, Obj.incompleteCount a, Obj.loadState a,
    Obj.objFaults a, Obj.playerState a, Obj.preampState a, Obj.retracts a, Obj.sentences a, Obj.settleMisses a, Obj.sm1CorrectedCount
    a, Obj.surfaceState a, Obj.timedCount a, Obj.underruns a, Obj.windowEnds a]) ∨ (∃ a b, k ∈ [Obj.clipCount a b, Obj.offsetRailCount
    a b, Obj.stuckCount a b])
  | .fabricNak _ _, k =>
    k ∈ [Obj.blocksFailed, Obj.lanesFenced, Obj.objResends, Obj.retiredUnits, Obj.storeState] ∨ (∃ a, k ∈ [Obj.actuatorState a,
    Obj.badClauses a, Obj.incompleteCount a, Obj.loadState a, Obj.objFaults a, Obj.playerState a, Obj.sentences a, Obj.settleMisses a,
    Obj.sm1CorrectedCount a, Obj.surfaceState a, Obj.timedCount a, Obj.underruns a, Obj.windowEnds a]) ∨ (∃ a b, k ∈ [Obj.clipCount a
    b, Obj.offsetRailCount a b, Obj.stuckCount a b])
  | .writeCached _, k =>
    k ∈ [Obj.atSpeed, Obj.chunksToRebuild, Obj.criticalStripes, Obj.degradedStripes, Obj.flushes, Obj.fuaWrites, Obj.lockInUse,
    Obj.lockStallMaxUs, Obj.lostEntries, Obj.lostMerges, Obj.mediaWakes, Obj.phaseLocked, Obj.rebuildState, Obj.remapCrowded,
    Obj.remapEntries, Obj.slotsInUse, Obj.spinMode, Obj.spinups, Obj.stripesUsed, Obj.substCrowded, Obj.targetRpm] ∨ (∃ a, k ∈
    [Obj.commands a, Obj.driveState a, Obj.ioSlotsHeld a, Obj.retracts a])
  | .safeRestartTimeout, k =>
    k ∈ [Obj.lockInUse, Obj.slotsInUse, Obj.writebacks] ∨ (∃ a, k ∈ [Obj.badClauses a, Obj.driveState a, Obj.incompleteCount a,
    Obj.ioSlotsHeld a, Obj.linkSpeed a, Obj.linkWidth a, Obj.loadState a, Obj.objFaults a, Obj.retracts a, Obj.sentences a,
    Obj.settleMisses a, Obj.sm1CorrectedCount a, Obj.timedCount a, Obj.underruns a, Obj.windowEnds a, Obj.writeUnsafeCount a]) ∨ (∃ a
    b, k ∈ [Obj.clipCount a b, Obj.offsetRailCount a b, Obj.stuckCount a b])
  | .namespaceDelete _, k =>
    k ∈ [Obj.cacheDirtyKib, Obj.chunksToRebuild, Obj.criticalStripes, Obj.degradedStripes, Obj.flushes, Obj.fuaWrites,
    Obj.journalFree, Obj.journalOpen, Obj.lockInUse, Obj.lockStallMaxUs, Obj.lostEntries, Obj.lostMerges, Obj.rebuildState,
    Obj.remapCrowded, Obj.remapEntries, Obj.replayPending, Obj.reshapeState, Obj.slotsInUse, Obj.stripesUsed, Obj.substCrowded] ∨ (∃
    a, k ∈ [Obj.commands a, Obj.driveState a, Obj.ioSlotsHeld a, Obj.nsLayout a, Obj.retracts a])
  | .feedLost _ _, k | .pwrdisAssert, k =>
    k ∈ [Obj.atSpeed, Obj.feedState, Obj.lastResetCause, Obj.lockInUse, Obj.phaseLocked, Obj.slotsInUse, Obj.spinMode, Obj.v3p3Enable,
    Obj.writebacks] ∨ (∃ a, k ∈ [Obj.badClauses a, Obj.driveState a, Obj.incompleteCount a, Obj.ioSlotsHeld a, Obj.linkSpeed a,
    Obj.linkWidth a, Obj.loadState a, Obj.objFaults a, Obj.retracts a, Obj.sentences a, Obj.settleMisses a, Obj.sm1CorrectedCount a,
    Obj.timedCount a, Obj.underruns a, Obj.windowEnds a, Obj.writeUnsafeCount a]) ∨ (∃ a b, k ∈ [Obj.clipCount a b,
    Obj.offsetRailCount a b, Obj.stuckCount a b])
  | .heartbeatLoss, k =>
    k ∈ [Obj.atSpeed, Obj.heartbeatArmed, Obj.heartbeatLosses, Obj.lockInUse, Obj.phaseLocked, Obj.slotsInUse, Obj.spinMode,
    Obj.v3p3Enable, Obj.writebacks] ∨ (∃ a, k ∈ [Obj.badClauses a, Obj.driveState a, Obj.incompleteCount a, Obj.ioSlotsHeld a,
    Obj.linkSpeed a, Obj.linkWidth a, Obj.loadState a, Obj.objFaults a, Obj.retracts a, Obj.sentences a, Obj.settleMisses a,
    Obj.sm1CorrectedCount a, Obj.timedCount a, Obj.underruns a, Obj.windowEnds a, Obj.writeUnsafeCount a]) ∨ (∃ a b, k ∈
    [Obj.clipCount a b, Obj.offsetRailCount a b, Obj.stuckCount a b])
  | .powerGood, _ | .railsOff, _ | .railsUp, _ | .vmCollapse, _ | .thermalShutdown _, _ | .powerCapWrite _ _, _ | .dictionarySet _ _, _
  | .dictionarySetList _ _, _ | .bolhobaSet _ _ _ _, _ | .bolhobaListSet _ _, _ | .bolhobaBlockWrite _ _ _ _, _ | .windowWrite _ _ _ _, _
  | .mbRead _, _ | .mbWrite _, _ | .mbWriteLast _, _ | .mbTransferDone _, _ | .store _ _, _ | .restoreDefaults _ _, _ | .unitDisable _ _, _
  | .unitEnable _ _ _, _ | .unitQuiesced _, _ | .objectWrite _ _ _ _ _ _, _ | .attemptBegin _, _ | .startStepEnd _ _, _ | .stepWatchdog _, _
  | .startDeadline, _ | .restartNormal _, _ | .restartMaintenance _, _ | .perstAssert _, _ | .activationFreezeEnd _, _
  | .bundleStageLast _ _ _, _ | .recoveryImageLast _ _ _, _ | .lifecycleRequest _ _, _ | .ownerKeyWrite _ _ _, _
  | .certChainWrite _ _ _ _, _ | .servoSync _ _ _ _, _ | .preampAccess _ _ _, _ | .ringTailWrite _ _, _ | .sentenceLoad _ _ _, _
  | .playerAbort _ _ _, _ | .outerTrigger _, _ | .reinCompare _ _, _ | .pairHoldRerunEnd _, _ | .reinMemoryFault _, _ | .coefWrite _ _ _, _
  | .snapRequest _ _ _, _ | .inject _ _ _, _ | .traceArm _ _ _, _ | .traceForce _ _ _, _ | .linkResend _, _ | .linkObject _ _ _ _, _
  | .senseMsg _ _ _, _ | .motionDieLost, _ | .spinRampEnd _, _ | .retractParked _ _, _ | .retractTimeout _, _ | .girthDictSet _ _ _ _ _ _, _
  | .announce _ _, _ | .dictRequest _ _, _ | .ccEnClear _, _ | .functionLevelReset _, _ | .pcieLinkDown _, _ | .nvmSubsystemReset, _
  | .stripeUpdateRetire _, _ | .journalReplay _, _ | .retireSurface _ _, _ | .reshapeRequest _ _, _ | .reshapeCancel _ _, _
  | .reshapeSwitch, _ | .zeroRange _ _, _ | .cacheClean _, _ | .cacheInvalidate _, _ | .cacheCleanInvalidate _, _ | .cacheFillLock _, _
  | .cacheUnlock _, _ | .cacheCleanSw _, _ | .cacheInvalidateSw _, _ | .cacheCleanInvalidateSw _, _ | .dmaGo _ _ _, _ | .dmaChainGo _ _ _, _
  | .dmaStop _ _ _, _ | .notifyClear _ _ _, _ | .collectorEvent _, _ | .unitReadmit _, _ | .coreWatchdog _, _ | .collectorSelfFault _, _
  | .captureClear _ _ _, _ | .clearUpto _ _, _ | .clearAll _ _, _ | .unretire _ _, _ | .sourceEntryWrite _ _ _, _ | .spindleReinTrigger _, _
  | .coreMemoryAccess _ _ _ _ _, _ | .cryptoEraseDone _, _ => True

/-! ### Terms of the statements about the rein engines -/

/-- Engine `e` is in run `r` and has budget left (R250, R259). -/
abbrev Runs (s : State) (e : Fin 16) (r : Run) : Prop := s.engines[e].run = some r ∧ r.count < budgetOf r.entry

/-- The registers of engine `e`. -/
def regs (s : State) (e : Fin 16) : Context := s.engines[e].ctx

/-- The state after one instruction of run `r` of engine `e` that leaves registers `c`: one instruction more of the budget is used, and
nothing else of the block differs. -/
def ranOne (s : State) (e : Fin 16) (r : Run) (c : Context) : State :=
  { s with engines := s.engines.set e { s.engines[e] with run := some { r with count := r.count + 1 }, ctx := c } }

/-- The instruction, whose word is `w`, leaves registers `c` where that word stands at engine `e`'s program counter, and nothing of the block changes
where another word stands there (R249, R254). -/
def Executes (s : State) (e : Fin 16) (r : Run) (i : Instr) (w : Nat) (c : Context) : Prop :=
  (instrHere s.engines[e] = w → exec i s = .next (ranOne s e r c)) ∧ (instrHere s.engines[e] ≠ w → exec i s = .next s)

/-- The same for an instruction whose form here is a program fault: it ends the run as REIN_PROGRAM_FAULT does. -/
def Faults (s : State) (e : Fin 16) (i : Instr) (w : Nat) : Prop :=
  (instrHere s.engines[e] = w → exec i s = exec (.reinProgramFault e) s) ∧ (instrHere s.engines[e] ≠ w → exec i s = .next s)

/-- Saturation to a signed code of `w` bits. -/
def clampTo (w : Nat) (x : Int) : Int := max (-2 ^ (w - 1)) (min (2 ^ (w - 1) - 1) x)

/-- Registers after an instruction that writes RD and goes on with the next one. -/
def wrote (c : Context) (rd : Fin 16) (v : Word32) : Context := { c with d := c.d.set rd v, pc := c.pc + 1 }

/-- The same for a result that saturates to 32 bits: a saturation sets one bit of FLAGS. -/
def wroteSat (c : Context) (rd : Fin 16) (flag : Nat) (x : Int) : Context :=
  { wrote c rd (BitVec.ofInt 32 (clampTo 32 x)) with
    flags := if clampTo 32 x = x then c.flags else c.flags ||| BitVec.ofNat 5 (2 ^ flag) }

/-- Registers after an instruction whose accumulator result saturates to 64 bits, with FLAGS[0] for ACC0 and FLAGS[1] for ACC1. -/
def accumulated (c : Context) (acc : Bool) (x : Int) : Context :=
  let v := BitVec.ofInt 64 (clampTo 64 x)
  { c with
    acc0 := if acc then c.acc0 else v
    acc1 := if acc then v else c.acc1
    flags := if clampTo 64 x = x then c.flags else c.flags ||| (if acc then 2 else 1)
    pc := c.pc + 1 }

/-- The coefficient word at (CB + CADDR) mod 1,024 of engine `e`. -/
def coefWord (s : State) (e : Fin 16) (caddr : BitVec 10) : Coef := SMap.findD s.engines[e].coef ((regs s e).cb + caddr).toNat ⟨0, 0⟩

/-- The data address (RA[9:0] + IMM[9:0]) mod 1,024. -/
def dataAt (c : Context) (ra : Fin 16) (imm : BitVec 16) : Nat := ((c.d.get ra).toNat % 1024 + imm.toNat % 1024) % 1024

/-- Registers after a branch instruction that has written `d`. -/
def branched (c : Context) (taken : Prop) [Decidable taken] (target : BitVec 11) : Context :=
  { c with pc := if taken then target else c.pc + 1 }

/-- A counter has counted once, unless it held its type's largest value, where no rule says what it reads (log entry 3). -/
def Counted (k : Key) (s t : State) : Prop := s.num k + 1 < 2 ^ widthOf k → t.num k = s.num k + 1

/-- What an engine's run leaves when it is over (R250): an engine with nothing else to do is idle; a preempted run goes on from its saved
registers when no trigger waits. -/
def RunOver (x y : Engine) : Prop :=
  (x.saved = [] → x.reruns = [] → x.waiting = [] → y.run = none ∧ y.ctx = x.ctx) ∧
  ∀ r c rest, x.saved = (r, c) :: rest → x.waiting = [] → y.run = some r ∧ y.ctx = c ∧ y.saved = rest

/-- No voting engine of group `g` still has a trigger of this entry waiting. -/
abbrev NoneWaits (s : State) (g entry : Nat) : Prop := ∀ e ∈ votingEngines s g, SMap.find (s.engineOf e).waiting entry = none

/-- Parking group `g` does not end a start attempt: it is an actuator's group, or no start sequence runs (the spindle group's parking takes the
safe state, R262, which fails a running attempt, R86). -/
abbrev StartKept (s : State) (g : Nat) : Prop := g < 4 ∨ s.start.running = false

/-- A bit of FEED_STATE (R33). -/
def feedStateBit (s : State) (i : Nat) : Bool := (s.num Obj.feedState).testBit i

/-- The number of a feed's bit in FEED_STATE. -/
def feedNo : Feed → Nat
  | .vfa => 0
  | .vfb => 1

/-- No feed is present. -/
abbrev NoFeed (s : State) : Prop := feedStateBit s 0 = false ∧ feedStateBit s 1 = false

/-- The rails come up with a start sequence (R31, R38, R98): power-good, VCORE at 0.86 V, every rail up, the drives off, the straps as their pins. -/
def RailsComeUp (s t : State) : Prop :=
  t.power.powerGood = true ∧ t.power.railsOff = false ∧ t.power.off = none ∧ t.power.strapsLatched = true ∧
  t.num Obj.straps = s.power.strapPins ∧ t.num Obj.vcoreMv = 860 ∧ t.num Obj.railState = 0x3F ∧
  t.num Obj.powerOnCount = (s.start.powerOns + 1) % 2 ^ 32 ∧ t.start.mode = .starting ∧
  (∀ a : Fin 4, t.num (Obj.driveState a) = 0) ∧
  (t.start.maintenance = true ↔ s.start.restartMaintenance = true ∨ s.num Obj.failedStarts = 3)

/-- An event of this source, unit and detail is among those raised since `s`. -/
def RaisedSince (s t : State) (source unit detail : Nat) : Prop :=
  ∃ l, t.raised = s.raised ++ l ∧ { source := source, unit := unit, detail := detail } ∈ l

/-- Entry `i` of player `p` is the first of its sentence with a property. -/
abbrev FirstEntry (s : State) (p i : Nat) (f : Entry → Bool) : Prop := (entriesWhere s p f).head? = some i

/-- Entry `i` of player `p` has ended with a result, and its channel report has these bits (R170, R225). -/
def EntryEnded (t : State) (p i result mask : Nat) : Prop :=
  ∃ e, t.entryOf p i = some e ∧ e.final = true ∧ e.result = result ∧ e.report &&& mask = mask

/-- The entry that the write gate of actuator `a` is open for belongs to player `p` and has no final status word. -/
abbrev Writing (s : State) (a p i : Nat) : Prop :=
  (s.actOf a).playing = some p ∧ (s.chanOf a).writeGate = some i ∧ (s.entryOf p i).map (·.final) = some false

/-- The channel of actuator `a` and nothing else takes a new value. -/
def withChan (s : State) (a : Fin 4) (c : Channel) : State := { s with chan := s.chan.set a c }

/-- What a clause does once its time has passed (R233): where the program goes on, and its stack and counters. -/
def ClauseDone (op arg : Nat) (x y : Player) : Prop :=
  let next := (x.pc + 1) % 4096
  let target := arg % 4096
  let c := arg / 2 ^ 14 % 4
  let bound (f : Entry → Bool) : Bool := match x.bound with
    | some i => match x.entries[i]? with
      | some e => f e
      | none => false
    | none => false
  y.clause = .none ∧
  (op = 0x00 → y.pc = next) ∧
  (op = 0x01 → y.pc = target) ∧
  (op = 0x02 → x.stack.length < 4 → y.pc = target ∧ y.stack = next :: x.stack) ∧
  (op = 0x03 → ∀ r rest, x.stack = r :: rest → y.pc = r % 4096 ∧ y.stack = rest) ∧
  (op = 0x04 → y.pc = next ∧ vget y.counters c 0 = arg % 2048) ∧
  (op = 0x05 → vget x.counters c 0 ≠ 0 → y.pc = target ∧ vget y.counters c 0 = vget x.counters c 0 - 1) ∧
  (op = 0x05 → vget x.counters c 0 = 0 → y.pc = next ∧ vget y.counters c 0 = 0) ∧
  (op = 0x06 → y.pc = next) ∧
  (op = 0x07 → y.pc = if bound (·.isWrite) then target else next) ∧
  (op = 0x08 → y.pc = if bound (·.isParity) then target else next) ∧
  (op = 0x3F → y.ended = true)

/-- A sentence of player `p` has ended with an outcome (R242): the player is EMPTY again and the sentence counts. -/
def SentenceEnded (t : State) (p : Nat) (o : Outcome) : Prop :=
  t.num (Obj.loadState p) = 0 ∧ (t.playerOf p).outcome = some o ∧ (t.playerOf p).playing = false ∧ (t.playerOf p).bound = none

/-- Player `p` stands at a clause boundary of its program, with no abort asked and room in its gate FIFO. -/
abbrev AtBoundary (s : State) (p : Fin 8) : Prop :=
  let x := s.playerOf p
  x.playing = true ∧ x.ended = false ∧ x.clause = .none ∧ x.abortAsked = false ∧ x.gates.length ≤ 29

/-- A write of value `v` to object `k` passes every check of R56: the requester is served and the status is OK. A write that would run a port's
self-check again (R89) is spoken of on its own. -/
abbrev Accepted (s : State) (who : Requester) (k : Key) (v : Val) : Prop :=
  heard s who k = true ∧ selfCheckDue s k v = none ∧ writeStatus s who k (some v) true = dsOk

/-- The command leaves a state with a property and then answers its requester with OK; the answer itself changes the requester's STATUS and the port only. -/
def Answers (c : Instr) (s : State) (who : Requester) (k : Key) (P : State → Prop) : Prop :=
  ∃ t, exec c s = .next (answerPlain who k t dsOk) ∧ P t

/-- The command leaves a state and then answers its requester with a status. -/
def AnswersWith (c : Instr) (s : State) (who : Requester) (k : Key) (P : State → Nat → Prop) : Prop :=
  ∃ t st, exec c s = .next (answerPlain who k t st) ∧ P t st

/-- The object has no effect of its own: a write of it leaves its new value and no more. -/
abbrev OwnValue (s : State) (who : Requester) (k : Key) (v : Val) : Prop :=
  isEnable k = false ∧ actService s who k v = none ∧ actServo s k v = none ∧ actCore s k v = none

/-- A read of object `k` passes every check, and the state fixes what it reads. -/
abbrev Readable (s : State) (who : Requester) (k : Key) : Prop :=
  heard s who k = true ∧ readStatus s who k = dsOk ∧ readBusy s k = false ∧ k ≠ Obj.lifecycleNonce ∧ k ≠ Obj.tjC ∧
  k ≠ Obj.feedState ∧ measured s k = false

/-- The index of a unit (R81). -/
def unitIndex : Owner → Nat
  | .girth => 0x6801
  | .port p => 0x1110 + p
  | .dma ch => 0x9200 + ch
  | .detector d => 0x4810 + d
  | .ldpc c => 0x4820 + c
  | .reader a k => 0x4010 + 0x100 * a + k
  | .actuator a => 0x4000 + 0x100 * a
  | _ => 0

/-- The write of number `n`, or of the bytes `b`, to object `k` fits the object's type and is accepted. -/
abbrev AcceptedNum (s : State) (who : Requester) (k : Key) (n : Nat) : Prop := numAsk k n = some (.num n) ∧ Accepted s who k (.num n)
abbrev AcceptedRec (s : State) (who : Requester) (k : Key) (b : List Byte) : Prop := recAsk k b = some (.bytes b) ∧ Accepted s who k (.bytes b)

/-- A segment of a BLOB write passes every check and continues its requester's staging (R60). -/
abbrev BlobOpen (s : State) (who : Requester) (k : Key) (off : Nat) (data : List Byte) : Prop :=
  heard s who k = true ∧ gateStatus s who k true = dsOk ∧ lifecycleAllows s who k [] = true ∧ unitOut s k = false ∧ isBlob k = true ∧
  off = (ownStaged s who k).length ∧ off + data.length ≤ 16 * 2 ^ 20 ∧ blobBusy s who k = false

/-- The staging of a BLOB is used up and its generation has stepped (R60). -/
def StagingUsed (s t : State) (k : Key) : Prop :=
  t.dict.stagings = SMap.erase s.dict.stagings k ∧ genOf t k = (genOf s k + 1) % 2 ^ 32

/-- A staged BLOB that its checks turn down: the staging is gone, and the BLOB's generation has not stepped. -/
def StagingRefused (s t : State) (k : Key) : Prop := t.dict.stagings = SMap.erase s.dict.stagings k ∧ genOf t k = genOf s k

/-- The command leaves a state with a property, and then the admin command in `slot` ends with a status and two Dwords. -/
def EndsAdmin (c : Instr) (s : State) (slot : Nat) (st : Nat × Nat) (dw0 dw1 : Nat) (P : State → Prop) : Prop :=
  ∃ t, exec c s = .next (endAdmin t slot st dw0 dw1) ∧ P t

/-- An SPDM response has left over MCTP, or waits for Security Receive of its controller (R125). -/
def SpdmSent (s t : State) (via : SpdmPort) (msg : List Byte) : Prop :=
  (via = .mctp → t.outs = .spdm via (byteAt msg 1) msg :: s.outs) ∧
  (via ≠ .mctp → t.outs = s.outs ∧ vget t.fw.spdmWaiting (spdmIx via) [0] = msg)

/-- The command leaves a state with a property, and then the I/O command in `slot` ends with a status. -/
def EndsIo (c : Instr) (s : State) (slot : Nat) (st : Nat × Nat) (P : State → Prop) : Prop :=
  ∃ t, exec c s = .next (endIo t slot st) ∧ P t

/-- The completion queue exists and has room, no completion waits for it, and no activation freeze holds completions back (R114). -/
abbrev CqRoom (s : State) (p : Port) (cq : Nat) (q : Cq) : Prop :=
  s.fw.frozen = false ∧ SMap.find (s.ctrl p).cqs cq = some q ∧ cqFull q = false ∧ q.waiting = []

/-- A completion is posted to completion queue `q` (R342): the tail moves, and the queue's vector interrupts, unless the queue asks for none or the vector coalesces with fewer
completions than its threshold and within its time. -/
def Posted (s t : State) (p : Port) (cq : Nat) (q : Cq) (x : Completion) : Prop :=
  let done := Out.completion p cq x.cid x.sct x.sc x.dw0 x.dw1 :: s.outs
  let now := Out.interrupt p q.vector :: done
  let holds (n tick : Nat) : Prop :=
    SMap.find (t.ctrl p).cqs cq = some { q with tail := (q.tail + 1) % q.size, held := n, heldTick := tick }
  (q.interrupts = false → t.outs = done ∧ holds q.held q.heldTick) ∧
  (q.interrupts = true → coalescing (s.ctrl p) cq q.vector = none → t.outs = now ∧ holds 0 0) ∧
  ∀ n u, q.interrupts = true → coalescing (s.ctrl p) cq q.vector = some (n, u) →
    (n ≤ q.held + 1 → t.outs = now ∧ holds 0 0) ∧
    (q.held + 1 < n → q.held ≠ 0 → s.num Obj.tick < q.heldTick + u * 2500 → t.outs = done ∧ holds (q.held + 1) q.heldTick)

/-- No command waits at the range lock or is still to be checked for a reservation conflict. -/
abbrev LockQuiet (s : State) : Prop := ∀ e ∈ s.host.slots, e.2.stalled = false ∧ (e.2.io = true → e.2.checked = true)

/-- No controller is shutting down. -/
abbrev NoShutdown (s : State) : Prop := (s.ctrl .a).shutdown = 0 ∧ (s.ctrl .b).shutdown = 0

/-- An I/O command in `slot` of opcode `op` that may run, with its namespace. -/
abbrev IoRuns (s : State) (slot op : Nat) (c : CmdSlot) (ns : Namespace) : Prop :=
  ioCmd s slot op = some c ∧ turnAway s c = none ∧ nsOf s c.cmd.nsid = some ns

/-- A controller after a reset (R358, R359): disabled, without queues, event requests and features. -/
def ControllerReset (t : State) (p : Port) : Prop :=
  let k := t.ctrl p
  k.en = false ∧ k.rdy = false ∧ k.sqs = [] ∧ k.cqs = [] ∧ k.aers = [] ∧ k.features = [] ∧ k.hostId = 0 ∧ k.shst = 0 ∧
  vget t.fw.staging (portNo p) [(0, [])] = [] ∧ t.num (Obj.ioQueues (portNo p)) = 0

/-- The tables of command slots, cache lines and remapped chunks have strictly rising keys. -/
def tablesSorted (s : State) : Bool := SMap.wf s.host.slots && SMap.wf s.mem.lines && SMap.wf s.layout.remap

/-- The source belongs to a rein engine, whose first injection in a start counts less (R278). -/
def ofEngine (source : Nat) : Bool := match ownerOf source with
  | .engine _ => true
  | _ => false

/-- An own girth frame has been sent (R312): a full transmit FIFO drops it and counts it; otherwise it enters the FIFO, SYNC ahead of the rest, and
the first of the FIFO leaves at once where the line is idle, which it takes for 34 ticks. -/
def Queued (s t : State) (typ payload : Nat) : Prop :=
  let l := txInsert s.girth.tx (typ, payload)
  let x := l.headD (0, 0)
  let p := leavingPayload s x.1 x.2
  (8 ≤ s.girth.tx.length → t.girth.tx = s.girth.tx ∧ t.outs = s.outs ∧ Counted Obj.txDrops s t) ∧
  (s.girth.tx.length < 8 → s.num Obj.tick < s.girth.lineFree → t.girth.tx = l ∧ t.outs = s.outs) ∧
  (s.girth.tx.length < 8 → s.girth.lineFree ≤ s.num Obj.tick → t.girth.tx = l.tail ∧ t.girth.lineFree = s.num Obj.tick + 34 ∧
    t.outs = .girth (girthFrame x.1 (s.num Obj.hop) (if x.1 = gtSync then fld p 29 20 else 0) p true) :: s.outs)

end Sys2Proof.Machine
end

