-- ==== Sys2Proof/Certificates/Slice0/Obligations.lean ====
section
/-! DEFINITION. What the provers are asked to show of the block: one Prop per obligation of OBLIGATIONS.json. -/

set_option maxRecDepth 4000

open Sys2Proof Sys2Proof.Machine

/-- The step runs the command at the front of the queue on the state with the queue's rest. On an empty queue nothing is commanded, and a tick passes:
the time base counts while the main die has power, and the first own girth frame that waits for the line leaves when it is idle (R312; the model's
choice, log entry 4). -/
def Obligations.StepRunsFrontCommand : Prop :=
  (∀ (c : Instr) (r : List Instr) (s : State), step { s with pending := c :: r } = exec c { s with pending := r }) ∧
  ∀ s : State, s.pending = [] → ∃ t, step s = .next t ∧ t = { s with objs := t.objs, girth := t.girth, outs := t.outs, free := t.free } ∧
    (∀ k, k ≠ Obj.tick → t.obj k = s.obj k) ∧ (s.power.powerGood = true → Counted Obj.tick s t) ∧ (s.power.powerGood = false → t.objs = s.objs) ∧
    (s.girth.tx = [] ∨ girthRuns s = false → t.girth = s.girth ∧ t.outs = s.outs) ∧
    ∀ typ p rest, s.girth.tx = (typ, p) :: rest → girthRuns s = true → s.num Obj.tick + 1 < 2 ^ widthOf Obj.tick →
      (s.num Obj.tick + 1 < s.girth.lineFree → t.girth = s.girth ∧ t.outs = s.outs) ∧
      (s.girth.lineFree ≤ s.num Obj.tick → typ ≠ gtSync → t.girth.tx = rest ∧ t.outs = .girth (girthFrame typ (girthHop s) 0 p true) :: s.outs)

/-- The state after reset: no command waits, nothing is placed, the rails are off, no start runs, the byte memories are empty, and the objects that
the tables give a default read it (R62, R88, R426, R477). The values that the spec does not give are the model's choice (log entry 2). -/
def Obligations.ResetState : Prop :=
  let s := State.reset
  s.pending = [] ∧ s.wf = true ∧ tablesSorted s = true ∧ s.mem.dram = [] ∧ s.mem.sram = [] ∧ s.mem.secSram = [] ∧ s.mem.written = [] ∧ s.power.powerGood = false ∧ s.power.railsOff = true ∧
  s.start.running = false ∧ s.host.namespaces = [] ∧ s.coll.ledger = [] ∧ s.raised = [] ∧ s.num Obj.retireThreshold = 16 ∧
  s.num Obj.startDeadlineS = 55 ∧ s.num Obj.safeRestartS = 10 ∧ s.num Obj.throttleC = 110 ∧ s.num Obj.hop = 0xFFFF ∧ s.num Obj.feedState = 0 ∧
  ∀ a : Fin 4, s.num (Obj.driveState a) = 0

/-- Every command answers a next state: no command of the table stops the block. -/
def Obligations.EveryCommandAnswersANextState : Prop :=
  ∀ (c : Instr) (s : State), ∃ t, exec c s = .next t

/-- An invariant of every step: the object store and the byte memories keep their canonical form (strictly rising keys, and no byte listed that an
unlisted address reads as), whatever command runs. -/
def Obligations.StepKeepsCanonicalForm : Prop :=
  ∀ s t : State, s.wf = true → step s = .next t → t.wf = true

/-- R343, R377 and R440: the tables of command slots, system-cache lines and remapped chunks stay sorted by their keys, with one entry for each key.
That a table is a sorted list is the model's choice (log entry 51); statements about one entry of such a table assume it. -/
def Obligations.StepKeepsTablesSorted : Prop :=
  ∀ s t : State, tablesSorted s = true → step s = .next t → tablesSorted t = true

/-- The frame of every command: the parts of the state outside its list are as they were, and where the list does not name the memories every byte of
them reads as before. No command touches the queue. -/
def Obligations.CommandsTouchOnlyTheirParts : Prop :=
  ∀ (c : Instr) (s t : State), exec c s = .next t →
    SameBut (touches c) s t ∧ (Part.mem ∉ touches c → MemoryKept s t) ∧ t.pending = s.pending

/-- The frame of every command over the object dictionary: an object that the command does not write reads as before. -/
def Obligations.CommandsWriteOnlyTheirObjects : Prop :=
  ∀ (c : Instr) (s t : State), exec c s = .next t → ObjsKept (writes c) s t

/-- R253, with the operations of R255: ADD, SUB, ADDI, NEG, ABS and SHL saturate to 32 bits and set FLAGS[3] when they do; ADDW, SUBW and DBNZ wrap;
logical operations, SHR and SHRL take their result as it is and leave FLAGS. Each, where its word (R254) stands at the program counter, uses one
instruction of the budget and changes nothing else of the block; where another word stands there it changes nothing (log entry 77). -/
def Obligations.ReinArithmeticSaturatesOrWraps : Prop :=
  ∀ (s : State) (e rd ra rb : Fin 16) (imm : BitVec 16) (target : BitVec 11) (r : Run), Runs s e r →
    let c := regs s e
    let a := c.d.get ra
    let b := c.d.get rb
    Executes s e r (.reinAdd e rd ra rb) (wordR 0x01 rd ra rb) (wroteSat c rd 3 (a.toInt + b.toInt)) ∧
    Executes s e r (.reinSub e rd ra rb) (wordR 0x02 rd ra rb) (wroteSat c rd 3 (a.toInt - b.toInt)) ∧
    Executes s e r (.reinAddi e rd ra imm) (wordI 0x11 rd ra imm) (wroteSat c rd 3 (a.toInt + imm.toInt)) ∧
    Executes s e r (.reinNeg e rd ra) (wordR 0x0B rd ra 0) (wroteSat c rd 3 (-a.toInt)) ∧
    Executes s e r (.reinAbs e rd ra) (wordR 0x0A rd ra 0) (wroteSat c rd 3 (if a.toInt < 0 then -a.toInt else a.toInt)) ∧
    Executes s e r (.reinShl e rd ra imm) (wordI 0x0C rd ra imm) (wroteSat c rd 3 (a.toInt * 2 ^ (imm.toNat % 32))) ∧
    Executes s e r (.reinAddw e rd ra rb) (wordR 0x03 rd ra rb) (wrote c rd (a + b)) ∧
    Executes s e r (.reinSubw e rd ra rb) (wordR 0x04 rd ra rb) (wrote c rd (a - b)) ∧
    Executes s e r (.reinDbnz e ra target) (wordB 0x35 ra target) { c with d := c.d.set ra (a - 1), pc := if a = 1 then c.pc + 1 else target } ∧
    Executes s e r (.reinAnd e rd ra rb) (wordR 0x05 rd ra rb) (wrote c rd (a &&& b)) ∧
    Executes s e r (.reinOr e rd ra rb) (wordR 0x06 rd ra rb) (wrote c rd (a ||| b)) ∧
    Executes s e r (.reinXor e rd ra rb) (wordR 0x07 rd ra rb) (wrote c rd (a ^^^ b)) ∧
    Executes s e r (.reinShr e rd ra imm) (wordI 0x0D rd ra imm) (wrote c rd (BitVec.ofInt 32 (a.toInt / 2 ^ (imm.toNat % 32)))) ∧
    Executes s e r (.reinShrl e rd ra imm) (wordI 0x0E rd ra imm) (wrote c rd (BitVec.ofNat 32 (a.toNat / 2 ^ (imm.toNat % 32)))) ∧
    (a = BitVec.ofInt 32 (-2 ^ 31) →
      Executes s e r (.reinNeg e rd ra) (wordR 0x0B rd ra 0) { wrote c rd 0x7FFFFFFF with flags := c.flags ||| 8 } ∧
      Executes s e r (.reinAbs e rd ra) (wordR 0x0A rd ra 0) { wrote c rd 0x7FFFFFFF with flags := c.flags ||| 8 })

/-- R255, with R249's registers: NOP, MIN, MAX, LI, LUI and SETCB. R255, R256: the branches, CALL and RET continue at their target; CALL with four
entries stacked and RET with none are program faults. -/
def Obligations.ReinMovesAndBranches : Prop :=
  (∀ (s : State) (e rd ra rb : Fin 16) (imm : BitVec 16) (r : Run), Runs s e r →
      let c := regs s e
      let a := c.d.get ra
      let b := c.d.get rb
      Executes s e r (.reinNop e) (wordR 0 0 0 0) { c with pc := c.pc + 1 } ∧
      Executes s e r (.reinMin e rd ra rb) (wordR 0x08 rd ra rb) (wrote c rd (if b.slt a then b else a)) ∧
      Executes s e r (.reinMax e rd ra rb) (wordR 0x09 rd ra rb) (wrote c rd (if a.slt b then b else a)) ∧
      Executes s e r (.reinLi e rd imm) (wordI 0x0F rd 0 imm) (wrote c rd (BitVec.ofInt 32 imm.toInt)) ∧
      Executes s e r (.reinLui e rd imm) (wordI 0x10 rd 0 imm) (wrote c rd (BitVec.ofNat 32 (imm.toNat * 65536 + (c.d.get rd).toNat % 65536))) ∧
      Executes s e r (.reinSetcb e imm) (wordI 0x18 0 0 imm) { c with cb := BitVec.ofNat 10 (imm.toNat % 1024), pc := c.pc + 1 }) ∧
  (∀ (s : State) (e ra : Fin 16) (target : BitVec 11) (r : Run), Runs s e r →
      let c := regs s e
      let a := c.d.get ra
      Executes s e r (.reinB e target) (wordB 0x30 0 target) (branched c True target) ∧
      Executes s e r (.reinBz e ra target) (wordB 0x31 ra target) (branched c (a = 0) target) ∧
      Executes s e r (.reinBnz e ra target) (wordB 0x32 ra target) (branched c (a ≠ 0) target) ∧
      Executes s e r (.reinBlt e ra target) (wordB 0x33 ra target) (branched c (a.toInt < 0) target) ∧
      Executes s e r (.reinBge e ra target) (wordB 0x34 ra target) (branched c (0 ≤ a.toInt) target) ∧
      (c.stack.length < 4 → Executes s e r (.reinCall e target) (wordB 0x36 0 target) { c with stack := (c.pc + 1) :: c.stack, pc := target }) ∧
      (4 ≤ c.stack.length → Faults s e (.reinCall e target) (wordB 0x36 0 target)) ∧
      (∀ t rest, c.stack = t :: rest → Executes s e r (.reinRet e) (wordR 0x37 0 0 0) { c with stack := rest, pc := t }) ∧
      (c.stack = [] → Faults s e (.reinRet e) (wordR 0x37 0 0 0)))

/-- R255 and R275: LD and ST reach the data word at (RA[9:0] + IMM[9:0]) mod 1,024. ST keeps the word's old value in the undo journal, which overflows
at 256 entries and then leaves no checkpoint. IMM[15:10] not zero is a program fault (R254, R256). R257 and R258: IN takes the port as it was at the
trigger (an unlisted port reads 0), port 0x15 reads FLAGS and clears them, and MODE[2] is set in a re-run; OUT stages a value for a port of the run's
entry, and sets FLAGS[4] for a port of another. -/
def Obligations.ReinLoadsStoresAndPorts : Prop :=
  (∀ (s : State) (e rd ra : Fin 16) (imm : BitVec 16) (r : Run), Runs s e r →
      let c := regs s e
      let at_ := dataAt c ra imm
      let old := SMap.findD s.engines[e].data at_ 0
      let v := c.d.get rd
      (imm.toNat < 1024 →
        Executes s e r (.reinLd e rd ra imm) (wordI 0x14 rd ra imm) (wrote c rd old) ∧
        (instrHere s.engines[e] ≠ wordI 0x15 rd ra imm → exec (.reinSt e rd ra imm) s = .next s) ∧
        (instrHere s.engines[e] = wordI 0x15 rd ra imm → exec (.reinSt e rd ra imm) s =
          .next { s with engines := s.engines.set e { s.engines[e] with
            run := some { r with count := r.count + 1 }, ctx := { c with pc := c.pc + 1 }
            data := if v = 0 then SMap.erase s.engines[e].data at_ else SMap.put s.engines[e].data at_ v
            checkpoint := match s.engines[e].checkpoint with
              | some (cp, undo) => if undo.length < 256 then some (cp, (at_, old) :: undo) else none
              | none => none } })) ∧
      (1024 ≤ imm.toNat →
        Faults s e (.reinLd e rd ra imm) (wordI 0x14 rd ra imm) ∧ Faults s e (.reinSt e rd ra imm) (wordI 0x15 rd ra imm))) ∧
  (∀ (s : State) (e rd : Fin 16) (port : BitVec 8) (r : Run), Runs s e r →
      let c := regs s e
      let taken := SMap.findD r.inputs port.toNat 0
      (port = 0x15 → Executes s e r (.reinIn e rd port) (wordP 0x16 rd port) { wrote c rd (c.flags.zeroExtend 32) with flags := 0 }) ∧
      (port = 0x14 → Executes s e r (.reinIn e rd port) (wordP 0x16 rd port) (wrote c rd (if r.rerun then taken ||| 4 else taken))) ∧
      (port ≠ 0x15 → port ≠ 0x14 → Executes s e r (.reinIn e rd port) (wordP 0x16 rd port) (wrote c rd taken)) ∧
      (port.toNat ∈ outPorts s.engines[e].group r.entry →
        Executes s e { r with staged := SMap.put r.staged port.toNat (c.d.get rd) } (.reinOut e rd port) (wordP 0x17 rd port) { c with pc := c.pc + 1 }) ∧
      (port.toNat ∉ outPorts s.engines[e].group r.entry →
        Executes s e r (.reinOut e rd port) (wordP 0x17 rd port) { c with flags := c.flags ||| 16, pc := c.pc + 1 }))

/-- R251 and R252: the multiply instructions apply (RA × m) shifted right arithmetically by s to the accumulator with saturation to 64 bits; RND
divides by 2^(31 − L), rounds by MODE and saturates to 32 bits. With CLRA and LDA of R255. -/
def Obligations.ReinMultiplyAndRoundSaturate : Prop :=
  ∀ (s : State) (e rd ra : Fin 16) (acc : Bool) (caddr : BitVec 10) (mode : BitVec 2) (l : BitVec 4) (r : Run), Runs s e r →
    let c := regs s e
    let m := coefWord s e caddr
    let p : Int := (c.d.get ra).toInt * m.m.toInt / 2 ^ m.s.toNat
    let x : Int := (if acc then c.acc1 else c.acc0).toInt
    let k := 31 - l.toNat
    let d : Int := 2 ^ k
    Executes s e r (.reinMul e acc ra caddr) (wordM 0x20 acc ra caddr) (accumulated c acc p) ∧
    Executes s e r (.reinMac e acc ra caddr) (wordM 0x21 acc ra caddr) (accumulated c acc (x + p)) ∧
    Executes s e r (.reinMsu e acc ra caddr) (wordM 0x22 acc ra caddr) (accumulated c acc (x - p)) ∧
    Executes s e r (.reinClra e acc) (wordM 0x23 acc 0 0) (accumulated c acc 0) ∧
    Executes s e r (.reinLda e acc ra) (wordM 0x24 acc ra 0) (accumulated c acc ((c.d.get ra).toInt * 2 ^ 31)) ∧
    (mode = 0 → Executes s e r (.reinRnd e rd acc mode l) (wordX 0x25 rd acc mode l) (wroteSat c rd 2 (x / d))) ∧
    (mode = 1 → Executes s e r (.reinRnd e rd acc mode l) (wordX 0x25 rd acc mode l) (wroteSat c rd 2 ((x + 2 ^ (k - 1)) / d))) ∧
    (mode = 2 → ∃ y : Int, 2 * (x - y * d).natAbs ≤ d.natAbs ∧ (2 * (x - y * d).natAbs = d.natAbs → y % 2 = 0) ∧
      Executes s e r (.reinRnd e rd acc mode l) (wordX 0x25 rd acc mode l) (wroteSat c rd 2 y)) ∧
    (mode = 3 → Executes s e r (.reinRnd e rd acc mode l) (wordX 0x25 rd acc mode l) (wroteSat c rd 2 (x.tdiv d)))

/-- R256, R258 and R282: DONE delivers the run's output set, each port of its entry staged or last latched; a program fault (an OP outside the table,
a non-zero reserved bit, a bad CALL or RET at the program counter) or budget stop delivers nothing, is remembered with its reason, and counts
PROGRAM_STOPS and raises the group's program source, unless another engine of the group has stopped so in that run already (log entry 87). SAT_COUNT
counts the ACTIVE engine's runs, of either end, that leave a bit of FLAGS set. -/
def Obligations.ReinRunEndsWithOrWithoutOutputs : Prop :=
  ∀ (s : State) (e : Fin 16) (r : Run),
    let x := s.engineOf e
    let g := x.group
    let first (why : Nat) : Prop := ∀ f, f ∈ groupEngines s g → f ≠ e.val → SMap.find (s.engineOf f).stopped r.entry ≠ some why
    (Runs s e r → instrHere x = wordR 0x3F 0 0 0 → x.injectNext = false → Completes (.reinDone e) s fun t =>
      RunOver x (t.engineOf e) ∧
      (x.waiting = [] → x.reruns = [] → SMap.find (t.engineOf e).delivered r.entry =
        some ((outPorts g r.entry).map fun p => (p, (SMap.find r.staged p).getD (SMap.findD (s.groupOf g).latched p 0)))) ∧
      (engRole s e = 0 → x.ctx.flags ≠ 0 → x.waiting = [] → Counted (Obj.satCount g) s t)) ∧
    (x.run = some r → faultHere x = true → Completes (.reinProgramFault e) s fun t =>
      RunOver x (t.engineOf e) ∧
      (x.waiting = [] → x.reruns = [] → SMap.find (t.engineOf e).stopped r.entry = some 1) ∧
      (engRole s e = 0 → x.ctx.flags ≠ 0 → x.waiting = [] → Counted (Obj.satCount g) s t) ∧
      (first 1 → x.waiting = [] → Counted (Obj.programStops g) s t ∧ t.raised = s.raised ++ [{ source := programSource g, unit := g, detail := 1 }])) ∧
    (x.run = some r → budgetOf r.entry ≤ r.count → Completes (.reinBudgetStop e) s fun t =>
      RunOver x (t.engineOf e) ∧
      (x.waiting = [] → x.reruns = [] → SMap.find (t.engineOf e).stopped r.entry = some 2) ∧
      (engRole s e = 0 → x.ctx.flags ≠ 0 → x.waiting = [] → Counted (Obj.satCount g) s t) ∧
      (first 2 → x.waiting = [] → Counted (Obj.programStops g) s t ∧ t.raised = s.raised ++ [{ source := programSource g, unit := g, detail := 2 }]))

/-- R247, R250 and R259: the outer trigger of a wedge whose number is a multiple of 24, and the three triggers of the spindle group, deliver the same
inputs to every engine of the group that holds a role. One that is idle starts the entry's run at its program's address; one in a run of a lower
priority saves it and starts the entry's; one in a run of the same or a higher priority keeps it, and the trigger waits. (Where a voting engine's
trigger of that entry still waits, its run is lost as a missed latch, R250; an engine that joins at this trigger takes the registers of the ACTIVE
one, R273.) In other wedges there is no outer trigger. R262 with R258, R293 and R295: at its latch time an agreed set becomes the output, and its
entry's misses in a row are over. An actuator's inner set is sent to the motion die as VCM_CMD with MA_CMD, its position set only stands at the ports,
its outer set gives the preamp's heater, within HEATER_MAX, and reader bias. The spindle's inner set is sent as SPIN_CMD, its position set shows
AT_SPEED and PHASE_LOCKED while the loop drives the spindle, PHASE_LOCKED only within 1 % of the target, and its outer set is held within 0.5 % of the
target speed. With no agreed set the latch holds its previous output. -/
def Obligations.ReinTriggersStartRunsAndLatchesEndThem : Prop :=
  (∀ (s : State) (a : Fin 4) (entry : Fin 3),
      let begins (g : Nat) (entry : Nat) (t : State) : Prop := ∃ inputs, ∀ e : Fin 16,
        let x := s.engineOf e
        let y := t.engineOf e
        let begun : Prop := y.run = some { entry := entry, count := 0, staged := [], inputs := inputs, rerun := false } ∧
          y.ctx = { x.ctx with pc := BitVec.ofNat 11 (entryPc s e entry), stack := [] }
        x.group = g → engRole s e ≠ 4 → x.rejoin ≠ 3 → x.reruns = [] →
          (x.run = none → begun ∧ y.saved = x.saved) ∧
          ∀ r, x.run = some r → r.rerun = false →
            (entry < r.entry → begun ∧ y.saved = (r, x.ctx) :: x.saved) ∧
            (r.entry ≤ entry → y.run = some r ∧ y.ctx = x.ctx ∧ (x.waiting = [] → y.waiting = [(entry, inputs)]))
      (groupRuns s a = true → NoneWaits s a 2 → (s.chanOf a).wedge % 24 = 0 → Completes (.outerTrigger a) s (begins a 2)) ∧
      ((s.chanOf a).wedge % 24 ≠ 0 → exec (.outerTrigger a) s = .next s) ∧
      (groupRuns s 4 = true → NoneWaits s 4 entry → Completes (.spindleReinTrigger entry) s fun t =>
        begins 4 entry t ∧ (t.groupOf 4).posCount = if entry.val = 1 then (s.groupOf 4).posCount + 1 else (s.groupOf 4).posCount)) ∧
  (∀ (s : State) (a : Fin 4) (g : Fin 5) (entry : Fin 3) (u v w : Word32),
      let agreed (g : Nat) (entry : Nat) (set : SMap Word32) : Prop := SMap.find (s.groupOf g).agreed entry = some set
      let lim : Int := (s.num Obj.targetRpm * 1024 * 5 / 1000 : Nat)
      (SMap.find (s.groupOf g).agreed entry = none → exec (.reinLatch g entry) s = .next s) ∧
      (agreed a 0 [(0x20, u), (0x21, v)] → Completes (.reinLatch a.castSucc 0) s fun t =>
        latchedOf t a 0x20 = u ∧ latchedOf t a 0x21 = v ∧ (t.groupOf a).missedInner = 0 ∧ t.objs = s.objs ∧
        t.outs = .link "VCM_CMD" [(a.val : Int), u.toInt, v.toInt] :: s.outs) ∧
      (agreed a 1 [(0x22, u), (0x23, v), (0x24, w)] → Completes (.reinLatch a.castSucc 1) s fun t =>
        latchedOf t a 0x22 = u ∧ latchedOf t a 0x23 = v ∧ latchedOf t a 0x24 = w ∧ (t.groupOf a).missedPos = 0 ∧ t.objs = s.objs ∧ t.outs = s.outs) ∧
      (agreed a 2 [(0x25, u), (0x26, v), (0x27, w)] → Completes (.reinLatch a.castSucc 2) s fun t =>
        latchedOf t a 0x25 = u ∧ latchedOf t a 0x26 = v ∧ latchedOf t a 0x27 = w ∧ t.objs = s.objs ∧
        (formatSelected s a = true → (t.chanOf a).heaterSent = min (v.toNat % 256) (s.num (Obj.heaterMax a)) ∧ (t.chanOf a).biasSent = w.toNat % 256)) ∧
      (agreed 4 0 [(0x20, u)] → Completes (.reinLatch 4 0) s fun t =>
        latchedOf t 4 0x20 = u ∧ (t.groupOf 4).missedInner = 0 ∧ t.objs = s.objs ∧ t.outs = .link "SPIN_CMD" [u.toInt] :: s.outs) ∧
      (agreed 4 1 [(0x22, u), (0x24, w)] → Completes (.reinLatch 4 1) s fun t =>
        latchedOf t 4 0x22 = u ∧ latchedOf t 4 0x24 = w ∧ (t.groupOf 4).missedPos = 0 ∧ t.outs = s.outs ∧
        (s.num Obj.spinMode = smRein →
          t.num Obj.atSpeed = w.toNat % 2 ∧ t.num Obj.phaseLocked = if speedNear s 10 then w.toNat / 2 % 2 else 0) ∧
        (s.num Obj.spinMode ≠ smRein → t.objs = s.objs)) ∧
      (agreed 4 2 [(0x25, u)] → Completes (.reinLatch 4 2) s fun t =>
        latchedOf t 4 0x25 = BitVec.ofInt 32 (max (-lim) (min lim u.toInt)) ∧ t.objs = s.objs ∧ t.outs = s.outs))

/-- R272 and R273: at the compare point the set that the voting engines delivered alike is agreed and waits for the latch; a voting engine that
delivered another set is FENCED. R262 and R274: re-run sets that differ park the group as a missed latch, and sets alike release the hold for the next
latch. R273, R276: the rejoin of a fenced engine (program reload, memory copy), its promotion from PROBATION after 1,200 position latches in
agreement, and the fence of an engine with an uncorrectable memory word. -/
def Obligations.ReinEnginesAreComparedFencedAndRejoined : Prop :=
  (∀ (s : State) (g : Fin 5) (entry : Fin 3) (set : SMap Word32),
      let voters := votingEngines s g
      (groupRuns s g = true → (s.groupOf g).pairHold = none → 2 ≤ voters.length → majority s entry voters = some set →
        Completes (.reinCompare g entry) s fun t =>
          SMap.find (t.groupOf g).agreed entry = some set ∧
          (∀ e, e ∈ voters → deliveredSet s entry e ≠ some set → engState s e < 3 → engState t e = 3)) ∧
      ((s.groupOf g).pairHold ≠ none → (s.groupOf g).holdRerunDone = false →
        (∀ e, e ∈ voters → (s.engineOf e).reruns = [] ∧ ∀ r, (s.engineOf e).run = some r → r.rerun = false) →
        Completes (.pairHoldRerunEnd g) s fun t =>
          (voters ≠ [] → (∀ e f, e ∈ voters → f ∈ voters → (s.engineOf e).rerunSets = (s.engineOf f).rerunSets) →
            (t.groupOf g).holdRerunDone = true ∧ (t.groupOf g).pairHold = (s.groupOf g).pairHold) ∧
          (∀ e f, e ∈ voters → f ∈ voters → (s.engineOf e).rerunSets ≠ (s.engineOf f).rerunSets → StartKept s g →
            t.num (Obj.groupState g) = 3 ∧ (g.val < 4 → Counted (Obj.missedLatches g) s t)))) ∧
  (∀ (s : State) (e : Fin 16),
      let x := s.engineOf e
      (x.rejoin = 1 → Completes (.engineReloadDone e) s fun t =>
        (t.engineOf e).rejoin = 2 ∧
        ∀ rec, groupRecord s x.group = some rec → (t.engineOf e).prog = wordMap rec.prog (rec.prog.length / 4)) ∧
      (∀ a : Fin 16, activeEngine s x.group = some a.val → x.rejoin = 2 → Completes (.snapshotCopyDone e) s fun t =>
        (t.engineOf e).data = (s.engineOf a).data ∧ (t.engineOf e).coef = (s.engineOf a).coef ∧ (t.engineOf e).rejoin = 3 ∧
        (t.engineOf e).ctx = x.ctx) ∧
      (engRole s e = 3 → 1200 ≤ x.agreed → Completes (.probationEnd e) s fun t => engRole t e = 2) ∧
      (engState s e < 3 → StartKept s x.group → Completes (.reinMemoryFault e) s fun t => engState t e = 3 ∧ engRole t e = 4))

/-- R33, R34, R40 and R41: what happens at the feeds and at PWRDIS. A feed's arrival sets its bit of FEED_STATE and changes nothing else. The
reclosing of its switch closes the switch and clears its overvoltage bit, which stood until then (the model's choice, log entry 71). The loss of a
feed with the other present clears its bit, raises that feed's event and starts no power fail; an overvoltage also opens the feed's switch. The loss
of the last feed, and PWRDIS, start the power-fail sequence: WRITE_KILL and PF_N are asserted, the spindle goes to RECTIFY (R305), the preamps of
heads that are all parked lose their supply, and the hosts' commands are fetched no longer, but not before "dump replay" has completed (R41). It takes
over from the sequence of another cause, also between the end of the rails and their return, where the spindle then coasts (R287). The release of
PWRDIS clears its bit and changes no other power state. R38, R40 step 8, R41, R287, R306: with a feed present and PWRDIS low the rails come up with a
start sequence, in MAINTENANCE where a restart asked for it or three starts failed (R98); they go down, with their cause, once the heads are parked
and the dump is over, and the DRAM is lost; when VM collapses with no feed present they drop, and what the motion die and SAFE_ENTRIES keep across
rail cycles is lost as well. -/
def Obligations.FeedsAndRailsSetPower : Prop :=
  (∀ (s : State) (f : Feed) (why : FeedLoss),
      let i := feedNo f
      let on := s.power.powerGood = true ∧ s.power.railsOff = false
      let failing (c : OffCause) (t : State) : Prop :=
        t.power.off = some c ∧ t.power.writeKill = true ∧ t.power.pfN = true ∧
        t.num Obj.spinMode = smRectify ∧ (allParked s = true → t.num Obj.v3p3Enable = s.num Obj.v3p3Enable / 16 * 16) ∧
        (replayComplete s = true → s.num Obj.powerState ≠ 4 → t.host.fetchStopped = true ∧ t.power.quiesced = true) ∧
        (replayComplete s = false → t.host.fetchStopped = s.host.fetchStopped ∧ t.power.quiesced = s.power.quiesced)
      exec (.feedPresent f) s = .next (s.setNum Obj.feedState (s.num Obj.feedState ||| 2 ^ i)) ∧
      Completes (.feedSwitchReclose f) s (fun t =>
        feedStateBit t (2 + i) = false ∧ (f = .vfa → t.power.switchOpenA = false) ∧ (f = .vfb → t.power.switchOpenB = false) ∧
        ∀ j, j ≠ 2 + i → feedStateBit t j = feedStateBit s j) ∧
      Completes .pwrdisRelease s (fun t => feedStateBit t 4 = false ∧ (∀ j, j ≠ 4 → feedStateBit t j = feedStateBit s j) ∧ t.power = s.power) ∧
      (on → feedStateBit s (1 - i) = true → Completes (.feedLost f why) s fun t =>
        feedStateBit t i = false ∧ feedStateBit t (1 - i) = true ∧ t.power.off = s.power.off ∧
        (why = .overVoltage → feedStateBit t (2 + i) = true ∧ t.raised = s.raised ++ [{ source := 8, unit := i, detail := 0 }] ∧
          (f = .vfa → t.power.switchOpenA = true) ∧ (f = .vfb → t.power.switchOpenB = true)) ∧
        (why = .underVoltage → t.raised = s.raised ++ [{ source := 6 + i, unit := i, detail := 0 }] ∧ t.power = s.power)) ∧
      (on → s.power.off = none → feedStateBit s (1 - i) = false → Completes (.feedLost f why) s (failing .powerFail)) ∧
      (on → s.power.off = none → Completes .pwrdisAssert s fun t => feedStateBit t 4 = true ∧ failing .pwrdis t) ∧
      (∀ d, s.power.off = some d → d = .heartbeatLoss ∨ d = .linkFault ∨ d = .safeRestart →
        (on → feedStateBit s (1 - i) = false → Completes (.feedLost f why) s fun t => t.power.off = some .powerFail ∧ t.num Obj.spinMode = smRectify) ∧
        (on → Completes .pwrdisAssert s fun t => t.power.off = some .pwrdis ∧ t.num Obj.spinMode = smRectify) ∧
        (¬on → feedStateBit s (1 - i) = false → Completes (.feedLost f why) s fun t => t.num Obj.lastResetCause = 1 ∧ t.num Obj.spinMode = smOff) ∧
        (¬on → Completes .pwrdisAssert s fun t => t.num Obj.lastResetCause = 2 ∧ t.num Obj.spinMode = smOff))) ∧
  (∀ (s : State) (c : OffCause),
      (s.power.railsOff = true → s.power.off = none → ¬NoFeed s → feedStateBit s 4 = false →
        Completes .powerGood s (RailsComeUp s)) ∧
      (s.power.railsOff = true → s.power.off = some c → ¬NoFeed s → feedStateBit s 4 = false →
        Completes .railsUp s (RailsComeUp s)) ∧
      (s.power.off = some c → s.power.railsOff = false →
        (∀ a : Fin 4, s.num (Obj.driveState a) = 0 ∨ s.num (Obj.driveState a) = 4) → s.power.dump = .done → Completes .railsOff s fun t =>
          t.power.railsOff = true ∧ t.power.powerGood = false ∧ t.num Obj.railState = 0 ∧ t.num Obj.v3p3Enable = 0 ∧
          t.num Obj.lastResetCause = c.code ∧ t.mem.dram = [] ∧ t.start.mode = .starting ∧
          (c = .powerFail ∨ c = .pwrdis → s.num Obj.spinMode = smRectify → t.num Obj.spinMode = smOff)) ∧
      (NoFeed s → Completes .vmCollapse s fun t =>
        t.motion = Motion.reset ∧ t.power.off = none ∧ (s.power.railsOff = false → t.power.railsOff = true ∧ t.mem.dram = []) ∧
        t.num Obj.feedState = s.num Obj.feedState ∧ t.num Obj.safeEntries = 0))

/-- R20, R46 and R47: VCORE moves by one 5 mV step between 0.62 V and 0.86 V towards the worst-corner rate plus 10 %, and an event reports a monitor
below the worst-corner rate at 0.86 V. The throttle holds EFFECTIVE_STATE at PS1 or higher in number while it lasts; at 120 °C the device enters the
safe state. A POWER_CAP above the present state moves the device there. -/
def Obligations.VcoreTemperatureAndPowerCap : Prop :=
  ∀ (s : State) (who : Requester) (p n : Nat) (tj : Int),
    let v := s.num Obj.vcoreMv
    let limit := toSigned 16 (s.num Obj.throttleC)
    let ps := s.num Obj.powerState
    (s.power.powerGood = true → s.power.railsOff = false → s.start.passedSteps.testBit 2 = true →
      (p < 110 → Completes (.vcoreSteer p) s fun t =>
        t.num Obj.vcoreMv = min 860 (v + 5) ∧
        t.raised = if v = 860 ∧ p < 100 then s.raised ++ [{ source := 10, unit := 0, detail := 0 }] else s.raised) ∧
      (110 < p → exec (.vcoreSteer p) s = .next (s.setNum Obj.vcoreMv (max 620 (v - 5)))) ∧
      (p = 110 → exec (.vcoreSteer p) s = .next s)) ∧
    (limit ≤ tj → s.num Obj.thermalState = 0 → Completes (.throttleEnter tj) s fun t =>
      t.num Obj.tjC = ofSigned 16 tj ∧ t.num Obj.thermalState = 1 ∧ t.num Obj.effectiveState = max ps 1 ∧
      t.raised = s.raised ++ [{ source := 11, unit := 0, detail := 0 }]) ∧
    (tj ≤ limit - 5 → Completes (.throttleExit tj) s fun t =>
      t.num Obj.tjC = ofSigned 16 tj ∧ t.num Obj.thermalState = 0 ∧ t.num Obj.effectiveState = ps ∧ t.raised = s.raised) ∧
    (120 ≤ tj → s.num Obj.collectorState = 0 → s.start.running = false → Completes (.thermalShutdown tj) s fun t =>
      t.num Obj.tjC = ofSigned 16 tj ∧ t.num Obj.collectorState = 1 ∧ t.num Obj.safeCause = 12 ∧ t.power.faultOutLow = true ∧
      t.host.fetchStopped = true) ∧
    (AcceptedNum s who Obj.powerCap n → Answers (.powerCapWrite who n) s who Obj.powerCap fun t =>
      t.num Obj.powerCap = n ∧
      (ps < n → s.start.running = false → t.num Obj.powerState = n ∧ t.host.psEntry = some n) ∧
      (n ≤ ps ∨ s.start.running = true → t = s.setNum Obj.powerCap n))

/-- R284 to R287: the die-to-die messages of supervision. Each takes the next sequence number of its direction. HEARTBEAT brings its count, arms
supervision at "motion-die handshake", and RESET_NOTICE disarms it; the heartbeat's loss while it is armed, or after a notice, counts and starts the
motion die's sequence with WRITE_KILL and PF_N, but not in HALTED (the model's choice, log entry 63). A message is resent with a count and an event
three times; then the link is a fault, which takes the safe state, and starts that sequence where supervision was armed. STATUS brings VM and the
motion die's temperature. A lost motion die brings the safe state, where the hosts' commands are fetched no longer. -/
def Obligations.LinkSupervisionMessages : Prop :=
  ∀ (s : State) (n : Nat) (temp : Int) (down : Bool),
    let resends := if down then s.motion.resendsDown else s.motion.resendsUp
    let armed := s.num Obj.heartbeatArmed = 1
    (s.start.step = 10 → s.num Obj.heartbeatArmed = 0 → Completes (.heartbeat n) s fun t =>
      t.motion.heartbeatCount = n % 65536 ∧ t.num Obj.heartbeatArmed = 1 ∧ t.num Obj.linkState = 1 ∧ t.motion.notice = none) ∧
    (armed ∨ s.start.step ≠ 10 → exec (.heartbeat n) s = .next { s with
      motion := { s.motion with heartbeatCount := n % 65536, resendsDown := 0, seqDown := (s.motion.seqDown + 1) % 256 } }) ∧
    Completes (.resetNotice n) s (fun t => t.motion.notice = some n ∧ t.num Obj.heartbeatArmed = 0) ∧
    (armed ∨ s.motion.notice ≠ none → s.power.off = none → s.start.mode ≠ .halted → Completes .heartbeatLoss s fun t =>
      t.num Obj.heartbeatArmed = 0 ∧ t.motion.notice = none ∧ t.power.off = some .heartbeatLoss ∧ t.power.writeKill = true ∧
      t.power.pfN = true ∧ Counted Obj.heartbeatLosses s t) ∧
    ((¬armed ∧ s.motion.notice = none) ∨ s.start.mode = .halted → exec .heartbeatLoss s = .next s) ∧
    (resends < 3 → Completes (.linkResend down) s fun t =>
      (if down then t.motion.resendsDown else t.motion.resendsUp) = resends + 1 ∧ Counted Obj.linkResends s t ∧
      t.raised = s.raised ++ [{ source := 3, unit := 0, detail := 0 }]) ∧
    (3 ≤ resends → s.num Obj.collectorState = 0 → s.start.running = false → Completes (.linkResend down) s fun t =>
      t.num Obj.linkState = 2 ∧ t.num Obj.collectorState = 1 ∧ t.num Obj.safeCause = 2 ∧ (¬armed → t.power.off = s.power.off) ∧
      (armed → s.power.off = none → s.start.mode ≠ .halted → t.power.off = some .linkFault ∧ t.power.writeKill = true)) ∧
    Completes (.linkStatus n temp) s (fun t => t.num Obj.vmMv = n % 65536 ∧ t.num Obj.mdTempC = ofSigned 16 temp ∧ t.motion.resendsUp = 0 ∧
      t.motion.seqUp = (s.motion.seqUp + 1) % 256) ∧
    (s.num Obj.collectorState = 0 → s.start.running = false → Completes .motionDieLost s fun t =>
      t.num Obj.collectorState = 1 ∧ t.num Obj.safeCause = 2 ∧ t.host.fetchStopped = true)

/-- R289 to R297: what moves the spindle from one mode to the next; on entering a mode other than REIN, AT_SPEED and PHASE_LOCKED read 0. SPIN_CMD is
held, and drives the spindle in REIN, within the limit that the last spin-up or speed change took up. A zero-cross in sequence gives the speed over
the last electrical step, hands over from RAMP once enough of them were valid, and ends ACCEL and BRAKE in HOLD within 1 % of the target; while the
driver commutates, one out of sequence counts as missing (the order SPU, SPV, SPW is the model's choice, log entry 38). Of missing ones the first is
bridged with an event, and a second in a row above 300 rpm is a stall: FAULT with an event, as for a driver fault. ALIGN goes on with RAMP; a RAMP
that ends without HANDOVER_ZC valid zero-crosses aligns again while tries are left; then the attempt fails at step 11 of a running start, and
otherwise it brakes; at standstill a spin-up that waited aligns. -/
def Obligations.SpindleModesFollowTheSequence : Prop :=
  ∀ (s : State) (phase interval : Nat) (ua : Int) (handover : Bool),
    let mode := s.num Obj.spinMode
    let lim : Int := s.motion.spinLimit * 1000
    let target := s.num Obj.targetRpm
    let speed := 60 * 25000000 * 1024 / (interval * (6 * s.num Obj.polePairs))
    let driven := mode = smRamp ∨ mode = smAccel ∨ mode = smHold ∨ mode = smRein ∨ mode = smBrake
    let handsOver := handover = true ∧ handoverZc s ≤ s.motion.zcValid
    let inOrder := s.motion.zcPhase ≥ 3 ∨ phase % 3 = (s.motion.zcPhase + 1) % 3
    let enters (m : Nat) (t : State) : Prop := t.num Obj.spinMode = m ∧ (m ≠ smRein → t.num Obj.atSpeed = 0 ∧ t.num Obj.phaseLocked = 0)
    Completes (.spinCmd ua) s (fun t =>
      t = { s with motion := { s.motion with resendsDown := 0, seqDown := (s.motion.seqDown + 1) % 256, spinCmd := ua } } ∧
      (mode = smRein → spinDrive t = .current (max (-lim) (min lim ua)))) ∧
    (0 < interval → 0 < s.num Obj.polePairs → speed < 2 ^ 32 → (driven → s.motion.spinWaitsStill = false → inOrder) → Completes (.zeroCross phase interval) s fun t =>
      t.num Obj.speed = speed ∧ t.motion.zcMissing = 0 ∧
      t.motion.zcValid = s.motion.zcValid + 1 ∧ t.motion.zcInterval = interval ∧ t.motion.zcPhase = phase % 3 ∧
      (mode = smRamp → handoverZc s ≤ s.motion.zcValid + 1 → enters smAccel t) ∧
      (mode = smAccel ∨ mode = smBrake → s.motion.spinWaitsStill = false → target ≠ 0 → ((speed : Int) - target * 1024).natAbs * 100 ≤ target * 1024 → enters smHold t) ∧
      (mode = smRein → t.num Obj.spinMode = smRein)) ∧
    (driven → s.motion.spinWaitsStill = false → ¬inOrder → exec (.zeroCross phase interval) s =
      exec .zeroCrossMissing { s with motion := { s.motion with resendsUp := 0, seqUp := (s.motion.seqUp + 1) % 256 } }) ∧
    (mode = smAccel ∨ mode = smHold ∨ mode = smRein ∨ mode = smBrake →
      (1 ≤ s.motion.zcMissing → 300 * 1024 < s.num Obj.speed → Completes .zeroCrossMissing s fun t =>
        enters smFault t ∧ t.raised = s.raised ++ [{ source := 15, unit := 0, detail := 0 }]) ∧
      (s.motion.zcMissing = 0 → Completes .zeroCrossMissing s fun t =>
        t.motion.zcMissing = 1 ∧ t.num Obj.spinMode = mode ∧ Counted Obj.spinFaults s t ∧
        t.raised = s.raised ++ [{ source := 358, unit := 0, detail := 0 }])) ∧
    (mode ≠ smFault → Completes .spindleDriverFault s fun t =>
      enters smFault t ∧ t.raised = s.raised ++ [{ source := 15, unit := 0, detail := 0 }]) ∧
    (mode = smAlign → Completes .spinAlignEnd s fun t => enters smRamp t ∧ t.motion.zcValid = 0) ∧
    (mode = smRamp → Completes (.spinRampEnd handover) s fun t =>
      (handsOver → enters smAccel t) ∧
      (¬handsOver → 0 < s.motion.spinTries → enters smAlign t ∧ t.motion.spinTries = s.motion.spinTries - 1) ∧
      (¬handsOver → s.motion.spinTries = 0 → enters smBrake t ∧ t.num Obj.targetRpm = 0 ∧
        (s.start.running = true → s.start.step = 11 → s.power.off = none →
          t.start.running = false ∧ t.num Obj.failedStarts = min 3 (s.num Obj.failedStarts + 1)))) ∧
    (mode = smBrake → Completes .spindleStandstill s fun t =>
      t.num Obj.speed = 0 ∧ (s.motion.spinWaitsStill = true → enters smAlign t) ∧ (s.motion.spinWaitsStill = false → enters smOff t))

/-- R284, R293, R297, R302, R303: the DRIVE message's commands to the motion die. A retract slows the arm, drops the voice coil's and the
milli-actuator's commands, takes its set-points and counts; a load begins from the ramp with the bridge closed at LOAD_BEMF_MV; BRAKE and the target 0
stop the spindle through BRAKE and give up a spin-up that waits; a new target takes up SPIN_LIMIT_MA and is carried out by the spindle group in REIN,
where PHASE_LOCKED reads 0 while the speed is more than 1 % off it, and otherwise by HOLD, ACCEL or BRAKE at 300 rpm and more; the mode command hands
a held spindle to the running spindle group once "servo acquisition" has passed, and takes it back. A command that the drive's state does not allow
changes nothing but the link's sequence. R298 to R300, R302: in SERVO, with its bridge closed and its rein group running, the drive holds the commands
within its limits, a clamp counts, and the milli-actuator moves only unfenced and unheld; otherwise nothing is applied. SENSE's current and voltage
become the group's inputs, the voltage as 0 while the milli-actuator is held. A VCM overcurrent opens the bridge, sets its DRIVE_FAULT bit and fences
the actuator; one of the milli-actuator holds it at 0 with its bit and an event; a load that does not find servo syncs retracts with its bit and an
event. -/
def Obligations.DrivesFollowCommandsAndLimits : Prop :=
  (∀ (s : State) (a : Fin 4) (rpm : Nat),
      let d := s.num (Obj.driveState a)
      let mode := s.num Obj.spinMode
      let closed := vget s.motion.vcmOpen a false = false
      let latched : Nat := (SMap.findD (s.groupOf 4).latched 0x24 0).toNat
      let off := ((s.num Obj.speed : Int) - rpm * 1024).natAbs * 100
      let changes := (mode = smHold ∨ mode = smAccel ∨ mode = smBrake) ∧ s.motion.spinWaitsStill = false ∧ 300 * 1024 ≤ s.num Obj.speed
      let idle (c : DriveCmd) : Prop :=
        exec (.driveMsg c) s = .next { s with motion := { s.motion with resendsDown := 0, seqDown := (s.motion.seqDown + 1) % 256 } }
      (d ≠ 3 → d ≠ 4 → closed → Completes (.driveMsg (.retract a)) s fun t =>
        t.num (Obj.driveState a) = 3 ∧ vget t.motion.retract a .none = .slowing ∧ vget t.motion.vcm a 1 = 0 ∧ vget t.motion.ma a 1 = 0 ∧
        vget t.motion.drives a (0, 0, 0) = (s.num Obj.retractBemfMv, s.num Obj.retractMa, s.num Obj.parkHoldMa) ∧ Counted (Obj.retracts a) s t) ∧
      (d = 3 ∨ d = 4 ∨ ¬closed → idle (.retract a)) ∧
      (d = 0 ∨ d = 4 → closed → Completes (.driveMsg (.load a)) s fun t =>
        t.num (Obj.driveState a) = 1 ∧ vget t.motion.retract a .slowing = .none ∧ vget t.motion.drives a (0, 0, 0) = (s.num Obj.loadBemfMv, 0, 0)) ∧
      ((d ≠ 0 ∧ d ≠ 4) ∨ ¬closed → idle (.load a)) ∧
      Completes (.driveMsg .brake) s (fun t =>
        t.num Obj.targetRpm = 0 ∧ t.motion.spinWaitsPark = false ∧ t.motion.spinWaitsStill = false ∧
        (mode ≠ smOff → mode ≠ smFault → t.num Obj.spinMode = smBrake ∧ t.num Obj.atSpeed = 0 ∧ t.num Obj.phaseLocked = 0) ∧
        (mode = smOff ∨ mode = smFault → t.num Obj.spinMode = mode)) ∧
      exec (.driveMsg (.target 0)) s = exec (.driveMsg .brake) s ∧
      (0 < rpm → rpm < 65536 → Completes (.driveMsg (.target rpm)) s fun t =>
        t.num Obj.targetRpm = rpm ∧ t.motion.spinLimit = s.num Obj.spinLimitMa ∧
        (mode = smRein → t.num Obj.spinMode = smRein ∧ t.num Obj.phaseLocked = if off ≤ rpm * 1024 then latched / 2 % 2 else 0) ∧
        (changes → t.num Obj.spinMode = if off ≤ rpm * 1024 then smHold else if s.num Obj.speed < rpm * 1024 then smAccel else smBrake) ∧
        (mode ≠ smRein → ¬changes → t.num Obj.spinMode = mode)) ∧
      (mode = smRein → Completes (.driveMsg (.mode true)) s fun t =>
        t.num Obj.spinMode = smHold ∧ t.num Obj.atSpeed = 0 ∧ t.num Obj.phaseLocked = 0) ∧
      (mode ≠ smRein → idle (.mode true)) ∧
      (mode = smHold → groupRuns s 4 = true → s.start.passedSteps.testBit 15 = true → Completes (.driveMsg (.mode false)) s fun t =>
        t.num Obj.spinMode = smRein ∧ t.num Obj.atSpeed = latched % 2) ∧
      (mode ≠ smHold ∨ groupRuns s 4 = false ∨ s.start.passedSteps.testBit 15 = false → idle (.mode false))) ∧
  (∀ (s : State) (a : Fin 4) (ua mv : Int),
      let d := s.num (Obj.driveState a)
      let lim : Int := s.num (Obj.vcmLimitMa a) * 1000
      let ml : Int := min 32000 (s.num (Obj.maLimitMv a))
      let closed := vget s.motion.vcmOpen a false = false
      (d = 2 → closed → groupRuns s a = true → Completes (.vcmCmd a ua mv) s fun t =>
        vget t.motion.vcm a 0 = max (-lim) (min lim ua) ∧
        vget t.motion.ma a 0 = (if vget s.motion.maHeld a false = false ∧ 452 + 64 * a.val ∉ s.coll.fenced then max (-ml) (min ml mv) else 0) ∧
        (max (-lim) (min lim ua) ≠ ua → Counted (Obj.vcmClamps a) s t) ∧ (max (-lim) (min lim ua) = ua → t.objs = s.objs)) ∧
      (d ≠ 2 ∨ ¬closed ∨ groupRuns s a = false → exec (.vcmCmd a ua mv) s =
        .next { s with motion := { s.motion with resendsDown := 0, seqDown := (s.motion.seqDown + 1) % 256 } }) ∧
      Completes (.senseMsg a ua mv) s (fun t =>
        sensedOf t a 0x0B = BitVec.ofInt 32 ua ∧ sensedOf t a 0x0C = BitVec.ofInt 32 (if vget s.motion.maHeld a false then 0 else mv) ∧
        t.motion.resendsUp = 0 ∧ t.motion.seqUp = (s.motion.seqUp + 1) % 256) ∧
      (closed → Completes (.vcmOvercurrent a) s fun t =>
        vget t.motion.vcmOpen a false = true ∧ vget t.motion.vcm a 1 = 0 ∧ vget t.motion.ma a 1 = 0 ∧ t.num (Obj.driveState a) = 0 ∧
        (t.num (Obj.driveFault a)).testBit 0 = true ∧ t.num (Obj.actuatorState a) = max 3 (s.num (Obj.actuatorState a))) ∧
      (¬closed → exec (.vcmOvercurrent a) s = .next s) ∧
      (vget s.motion.maHeld a false = false → Completes (.maOvercurrent a) s fun t =>
        vget t.motion.maHeld a false = true ∧ vget t.motion.ma a 1 = 0 ∧ (t.num (Obj.driveFault a)).testBit 1 = true ∧
        t.raised = s.raised ++ [{ source := 448 + 64 * a.val + 4, unit := a, detail := 0 }]) ∧
      (vget s.motion.maHeld a false = true → exec (.maOvercurrent a) s = .next s) ∧
      (d = 1 → Completes (.headLoadTimeout a) s fun t =>
        (t.num (Obj.driveFault a)).testBit 3 = true ∧ (closed → t.num (Obj.driveState a) = 3) ∧
        t.raised = s.raised ++ [{ source := 448 + 64 * a.val + 3, unit := a, detail := 0 }]) ∧
      (d ≠ 1 → exec (.headLoadTimeout a) s = .next s))

/-- R303, R304, R305 and R435: the end of a retract at the ramp, and the end of the dump. At ramp contact the arm is pushed on, and after the push it
is PARKED with the retract's time, and an actuator that was being quiesced is QUIESCED. A retract without ramp contact is reported PARKED all the
same, with a DRIVE_FAULT bit and an event (the time that RETRACT_LAST_MS then reads is open but for R304's bound). The seal makes the dump's slot
SEALED with its SEQ, the cache it keeps and the hold-up that a power fail left, pulses DUMP_DONE and leaves the DRAM as it is. R39 and R183: an
actuator whose preamp fault persists, or whose V3P3 is overloaded, is FENCED, retracts and loses its preamp supply; the overload raises the preamp's
event. (Clauses about parking speak of a device that no accepted restart waits to reset.) -/
def Obligations.RetractsParkTheHeads : Prop :=
  ∀ (s : State) (a : Fin 4) (ms holdup vmMin : Nat),
    let d := s.num (Obj.driveState a)
    let pushing := vget s.motion.retract a .none = .pushing
    let faulted (t : State) : Prop :=
      t.num (Obj.preampState a) = 3 ∧ t.num (Obj.actuatorState a) = max 3 (s.num (Obj.actuatorState a)) ∧
      (t.num Obj.v3p3Enable).testBit a = false ∧ (d ≠ 4 → vget s.motion.vcmOpen a false = false → t.num (Obj.driveState a) = 3)
    (d = 3 → Completes (.rampContact a) s fun t => vget t.motion.retract a .none = .pushing ∧ t.objs = s.objs) ∧
    (d ≠ 3 → exec (.rampContact a) s = .next s) ∧
    (d = 3 → pushing → s.start.restartAsked = false → Completes (.retractParked a ms) s fun t =>
      t.num (Obj.driveState a) = 4 ∧ t.num (Obj.retractLastMs a) = ms % 65536 ∧ vget t.motion.retract a .slowing = .none ∧
      (s.num (Obj.actuatorState a) = 1 → t.num (Obj.actuatorState a) = 2)) ∧
    (d ≠ 3 ∨ ¬pushing → exec (.retractParked a ms) s = .next s) ∧
    (d = 3 → ¬pushing → s.start.restartAsked = false → Completes (.retractTimeout a) s fun t =>
      t.num (Obj.driveState a) = 4 ∧ (t.num (Obj.driveFault a)).testBit 2 = true ∧ t.num (Obj.retractLastMs a) ≤ 230 ∧
      { source := 448 + 64 * a.val + 3, unit := a, detail := 0 } ∈ t.raised) ∧
    (d ≠ 3 ∨ pushing → exec (.retractTimeout a) s = .next s) ∧
    (∀ slot : Fin 6, ∀ seq, s.power.dump = .running slot seq → Completes (.dumpSealed holdup vmMin) s fun t =>
      let k := vget t.mem.keeper slot KeeperSlot.reset
      t.power.dump = .done ∧ t.outs = .link "DUMP_DONE" [] :: s.outs ∧ t.mem.dram = s.mem.dram ∧
      k.state = 1 ∧ k.seq = seq ∧ k.cache = s.mem.cache ∧
      (s.power.off = some .powerFail ∨ s.power.off = some .pwrdis → k.holdup = holdup % 2 ^ 32 ∧ k.vmMin = vmMin % 2 ^ 16) ∧
      (s.power.off ≠ some .powerFail → s.power.off ≠ some .pwrdis → k.holdup = 2 ^ 32 - 1 ∧ k.vmMin = 2 ^ 16 - 1)) ∧
    ((s.chanOf a).faultLow = true → Completes (.preampFaultPersist a) s faulted) ∧
    ((s.num Obj.v3p3Enable).testBit a = true → Completes (.v3p3Overcurrent a) s fun t =>
      faulted t ∧ (448 + 64 * a.val + 1) ∈ t.raised.map (·.source))

/-- R16, R17, R155, R162, R174 to R176, R182, R487: whatever asserts write-unsafe closes the write gate at once and takes the laser to zero; a
sentence that plays is locked out, at the moment that the source gives, and counts once; the sector being written ends INCOMPLETE with its report
bits, and the medium holds what was written of it. A write FIFO that runs empty closes the gate likewise. The level of a source clears when the source
does. A synthesiser that unlocks with a gate open counts once and raises an event besides, and so does a preamp fault. A poisoned block of a write
entry's payload ends that entry INCOMPLETE with an event, and closes the gate where it is open for that entry. -/
def Obligations.WriteUnsafeClosesTheGate : Prop :=
  ∀ (s : State) (a : Fin 4) (p : Fin 8) (i tt : Nat) (src : WuSource),
    let c := s.chanOf a
    let held (e : Entry) (m : Nat) : Out :=
      .medium a (s.playerOf p).header.surface (s.playerOf p).header.track e.psector (piecesBefore (s.playerOf p).header c.wedge m (piecesOf s p e))
    let unsafeBy (k bits m : Nat) (t : State) : Prop :=
      (t.chanOf a).wu.testBit k = true ∧ (t.chanOf a).writeGate = none ∧ (t.chanOf a).laser = 0 ∧
      (sentencePlays s a = true → (t.chanOf a).locked = true ∧ (c.locked = false → Counted (Obj.writeUnsafeCount a) s t)) ∧
      (p.val / 2 = a → Writing s a p i → EntryEnded t p i 6 (2 ^ 9 + 2 ^ 8 + bits) ∧
        ∀ e, s.entryOf p i = some e → (piecesBefore (s.playerOf p).header c.wedge m (piecesOf s p e)).any (!·.2.2.isEmpty) = true → held e m ∈ t.outs)
    Completes (.writeUnsafe a src tt) s (fun t => unsafeBy (wuBit src) 0 tt t ∧
      (sentencePlays s a = true → c.locked = false → (t.chanOf a).lockAt = some (c.wedge, tt))) ∧
    (c.writeGate ≠ none → Completes (.writeFifoEmpty a) s fun t =>
      (t.chanOf a).writeFifo = 0 ∧ (t.chanOf a).writeGate = none ∧ (t.chanOf a).laser = 0 ∧
      (p.val / 2 = a → Writing s a p i → EntryEnded t p i 6 (2 ^ 9))) ∧
    exec (.synthLock a) s = .next (withChan s a { s.chan[a] with synthLocked := true, wu := clrBit s.chan[a].wu 3 }) ∧
    (c.readGate = true ∨ gatedEntries s a ≠ [] →
      (c.wu.testBit 3 = false → Completes (.synthUnlock a) s fun t =>
        (t.chanOf a).synthLocked = false ∧ unsafeBy 3 (2 ^ 2) c.headT t ∧ Counted (Obj.synthUnlockCount a) s t ∧
        RaisedSince s t (448 + 64 * a.val + 2) a 0) ∧
      (c.wu.testBit 3 = true → Completes (.synthUnlock a) s fun t => (t.chanOf a).synthLocked = false ∧ t.objs = s.objs ∧ t.raised = s.raised)) ∧
    (c.readGate = false → gatedEntries s a = [] → exec (.synthUnlock a) s = .next (withChan s a { s.chan[a] with synthLocked := false })) ∧
    Completes (.preampFaultAssert a) s (fun t =>
      (t.chanOf a).faultLow = true ∧ unsafeBy 2 (2 ^ 7) c.headT t ∧ Counted (Obj.preampFaults a) s t ∧ RaisedSince s t (448 + 64 * a.val + 1) a 0) ∧
    exec (.preampFaultRelease a) s = .next (withChan s a { s.chan[a] with faultLow := false, wu := clrBit s.chan[a].wu 2 }) ∧
    (p.val / 2 = a → ∀ e, s.entryOf p i = some e → e.isWrite = true → e.final = false → i < (s.playerOf p).nextEntry →
      Completes (.writePayloadPoisoned p i) s fun t =>
        EntryEnded t p i 6 (2 ^ 9) ∧ RaisedSince s t (448 + 64 * a.val + 18) a 1 ∧
        ((s.actOf a).playing = some p.val → c.writeGate = some i → (t.chanOf a).writeGate = none ∧ (t.chanOf a).laser = 0) ∧
        (c.writeGate ≠ some i → (t.chanOf a).writeGate = c.writeGate))

/-- R157, R166, R167, R202: a capture that is at its end after the rows of samples stores its samples in the ring slot with its outcome, and posts one
decode job, unless its entry is final or the phrase does not post; a read without a capture buffer stores and posts nothing. Samples that a capture
takes lie within 6 bits. One that is not at its end goes on. R179 to R182: the frames of the preamp's serial bus. A fault read brings
PREAMP_FAULT_STATUS, all ones after two parity errors; a sentence's verified frame takes effect when its read-back agrees, is sent again once when it
does not, and then asserts write-unsafe with a count and an event; a frame that PREAMP_ACCESS queued leaves there what was read, or what was written. -/
def Obligations.CapturesAndPreampFrames : Prop :=
  (∀ (s : State) (p : Fin 8) (i : Nat) (e : Entry) (adc : List AdcRow),
      let u := if (s.actOf (p.val / 2)).playing = some p.val then streamSamples s (p.val / 2) adc else s
      let h := (s.playerOf p).header
      FirstEntry u p i (·.capturing) → u.entryOf p i = some e →
      (captureAtEnd h (u.chanOf (p.val / 2)) e = false → exec (.captureEnd p adc) s = .next u) ∧
      (captureAtEnd h (u.chanOf (p.val / 2)) e = true → e.noCapture = true → Completes (.captureEnd p adc) s fun t =>
        (∃ e', t.entryOf p i = some e' ∧ e'.capturing = false) ∧ t.dec = s.dec) ∧
      (captureAtEnd h (u.chanOf (p.val / 2)) e = true → e.noCapture = false → Completes (.captureEnd p adc) s fun t =>
        (∃ e', t.entryOf p i = some e' ∧ e'.capturing = false ∧ e'.sm1 = e.sm1 ∧ e'.sm2 = e.sm2) ∧
        (∃ x, SMap.find t.dec.ringSlots (p.val / 2 * 64 + e.ringSlot) = some x ∧ x.samples = e.samples.take 43605 ∧
          ((∀ e0, s.entryOf p i = some e0 → ∀ y, y ∈ e0.samples → -32 ≤ y ∧ y ≤ 31) → ∀ y, y ∈ x.samples → -32 ≤ y ∧ y ≤ 31) ∧
          x.parity = e.isParity ∧ x.psector = e.psector ∧
          x.outcome = match e.sm1, e.sm2 with
            | some u, some v => if v.1 = u.1 + 32 + 64 * (257 + circOfSectorT h.sectorT) then 0 else 4
            | none, some _ => 1
            | some _, none => 2
            | none, none => 3) ∧
        (e.final = false → e.noPost = false → ∃ j, t.dec.jobs = s.dec.jobs ++ [j] ∧ t.dec.nextId = s.dec.nextId + 1 ∧ j.id = s.dec.nextId ∧
          j.player = p.val ∧ j.entry = i ∧ j.reserve = e.reserve ∧ j.seed = e.seed ∧ j.cuts = entryCuts h e ∧ j.phase = .waitDetector) ∧
        (e.final = true ∨ e.noPost = true → t.dec.jobs = s.dec.jobs))) ∧
  (∀ (s : State) (a : Fin 4) (f : PreampFrame) (readback d : Nat) (ok : Bool), (s.chanOf a).onBus = some f →
      (f.priority = 0 → f.data = none → Completes (.preampFrameDone a readback true) s fun t =>
        t.num (Obj.preampFaultStatus a) = readback % 2 ^ 32) ∧
      (f.priority = 0 → f.data = none → f.tries ≠ 0 → Completes (.preampFrameDone a readback false) s fun t =>
        t.num (Obj.preampFaultStatus a) = 0xFFFFFFFF) ∧
      (f.priority = 2 → f.verify = true → f.data = some d → readback = d → Completes (.preampFrameDone a readback true) s fun t =>
        (f.reg = (preampRegs s a).mode → (t.chanOf a).mode = d) ∧
        (f.reg = (preampRegs s a).head → f.reg ≠ (preampRegs s a).mode → (t.chanOf a).head = d)) ∧
      (f.priority = 2 → f.verify = true → f.tries = 0 → f.data ≠ some readback ∨ ok = false → Completes (.preampFrameDone a readback ok) s fun t =>
        ({ f with tries := 1 } ∈ (t.chanOf a).frames ∨ (t.chanOf a).onBus = some { f with tries := 1 }) ∧ (t.chanOf a).wu = (s.chanOf a).wu ∧
        t.raised = s.raised) ∧
      (f.priority = 2 → f.verify = true → f.tries ≠ 0 → f.data ≠ some readback ∨ ok = false → Completes (.preampFrameDone a readback ok) s fun t =>
        (t.chanOf a).wu.testBit 4 = true ∧ Counted (Obj.frameRetries a) s t ∧ RaisedSince s t (448 + 64 * a.val + 1) a 0) ∧
      (f.priority = 4 → f.verify = false → f.data = none → Completes (.preampFrameDone a readback ok) s fun t =>
        t.str (Obj.preampAccess a) = [0, BitVec.ofNat 8 f.reg, 0, 0] ++ leBytes 4 readback) ∧
      (f.priority = 4 → f.verify = false → f.data = some d → Completes (.preampFrameDone a readback ok) s fun t =>
        t.str (Obj.preampAccess a) = [1, BitVec.ofNat 8 f.reg, 0, 0] ++ leBytes 4 d))

/-- R227 to R229: a load that fails a check is refused with the check's number and an event, and leaves the player REJECTED, or IDLE where its
actuator has left RUNNING meanwhile; one that passes in time is READY, and discarded where the actuator has left RUNNING. R228: a load that passes its
checks after its deadline, a READY sentence not taken up whose start wedge comes, and one whose start falls inside the span after an underrun, end
UNDERRUN with an event; but for the last, their actuator starts none until the start wedge one revolution later, where that still lies ahead. R230:
one that is READY with no other begins its pre-roll. -/
def Obligations.SentenceLoadsAndUnderruns : Prop :=
  ∀ (s : State) (p : Fin 8) (n : Nat),
    let a := p.val / 2
    let x := s.playerOf p
    let h := headerOf (dramRead s.mem x.loadAddr 128)
    let event (t : State) (detail : Nat) : Prop := RaisedSince s t (448 + 64 * a + 14 + 2 * (p.val % 2)) p detail
    let underran (t : State) : Prop := SentenceEnded t p .underrun ∧ Counted (Obj.underruns p) s t ∧ event t 1
    let blocks (t : State) (h : Header) : Prop :=
      0 < wedgesTo s a ((h.startRev + 1) % 65536) h.startWedge → (t.actOf a).blockUntil = some (h.startWedge, (h.startRev + 1) % 65536)
    (s.num (Obj.loadState p) = 1 → loadReject s p x.loadAddr = n → n ≠ 0 → Completes (.sentenceFetchDone p) s fun t =>
      t.num (Obj.loadState p) = (if s.num (Obj.playerState p) = 0 then 4 else 0) ∧ t.num (Obj.loadReject p) = n ∧ event t 3 ∧ t.players = s.players) ∧
    (s.num (Obj.loadState p) = 1 → loadReject s p x.loadAddr = 0 →
      (s.num (Obj.playerState p) = 0 → deadlinePassed s a h = false → (s.actOf a).playing = none → s.num Obj.collectorState ≠ 1 →
        s.num (Obj.loadState (if p.val % 2 = 0 then p.val + 1 else p.val - 1)) ≠ 2 → startBlocked s a h = false → Completes (.sentenceFetchDone p) s fun t =>
        t.num (Obj.loadState p) = 2 ∧ (t.playerOf p).preroll = true ∧ (t.actOf a).playing = some p.val ∧ (t.actOf a).lastSurface = h.surface) ∧
      (s.num (Obj.playerState p) = 0 → deadlinePassed s a h = false → (s.actOf a).playing ≠ none → Completes (.sentenceFetchDone p) s fun t =>
        t.num (Obj.loadState p) = 2 ∧ t.num (Obj.seqNow p) = h.seq ∧ (t.playerOf p).header = h ∧ (t.playerOf p).pc = h.entry ∧
        (t.playerOf p).entries.length = h.sectors ∧ (t.playerOf p).loadOrder = x.loadOrder ∧ (t.playerOf p).playing = false) ∧
      (s.num (Obj.playerState p) ≠ 0 → Completes (.sentenceFetchDone p) s fun t => SentenceEnded t p .discarded) ∧
      (s.num (Obj.playerState p) = 0 → deadlinePassed s a h = true → Completes (.sentenceFetchDone p) s fun t => underran t ∧ blocks t h) ∧
      (deadlinePassed s a h = true → startBlocked s a h = false → Completes (.sentenceUnderrun p) s fun t => underran t ∧ blocks t h)) ∧
    (s.num (Obj.loadState p) = 2 → x.preroll = false →
      (startBlocked s a x.header = true → Completes (.sentenceUnderrun p) s underran) ∧
      (startBlocked s a x.header = false → startReached s a x.header = true →
        Completes (.sentenceUnderrun p) s fun t => underran t ∧ blocks t x.header))

/-- R225, R241, R242, R245: how a sentence ends: END with nothing outstanding gives COMPLETE; the end of its window gives WINDOW_END, or ABORTED where
an abort that was asked for stands no later; a clause of an unknown opcode, and in a WAIT sentence a condition outside the list, a CALL with four
returns stacked and a RET with none, give BAD_CLAUSE; an uncorrectable word gives FAULT, with the event of its memory. R226 with R225: the record of a
sentence is written to its status area once no status word of it is outstanding, and no other byte changes. -/
def Obligations.SentencesEndAndAreRecorded : Prop :=
  (∀ (s : State) (p : Fin 8) (why : BadClause) (store : Bool),
      let a := p.val / 2
      let x := s.playerOf p
      let here := clauseHere s p
      let cond := (phraseOf (phraseWord s p here.2.1)).cond
      let bad : Prop :=
        (why = .opcode → knownOp here.1 = false) ∧
        (why = .condition → knownOp here.1 = true ∧ here.1 ≠ 6 ∧ x.header.timingMode = 1 ∧ 8 < cond) ∧
        (why = .callOverflow → here.1 = 2 ∧ x.header.timingMode = 1 ∧ cond = 0 ∧ 4 ≤ x.stack.length) ∧
        (why = .retEmpty → here.1 = 3 ∧ x.header.timingMode = 1 ∧ cond = 0 ∧ x.stack = [])
      let unreadable (t : State) : Prop :=
        (store = true → RaisedSince s t (448 + 64 * a + 5) a 0) ∧ (store = false → RaisedSince s t (448 + 64 * a + 15 + 2 * (p.val % 2)) p 0)
      (x.playing = true → x.ended = true → x.gates = [] → ((s.actOf a).playing = some p.val → (s.chanOf a).writeGate = none) →
        (∀ e, e ∈ x.entries → e.capturing = false) →
        Completes (.sentenceEnd p) s fun t => SentenceEnded t p .complete ∧ Counted (Obj.sentences p) s t) ∧
      (x.playing = true → x.ended = false →
        (∀ m, x.abortAsked = true → abortStands x = some m → m ≤ windowEnd x.header →
          Completes (.windowEndReached p) s fun t => SentenceEnded t p .aborted) ∧
        (x.abortAsked = false ∨ (abortStands x).all (fun m => decide (windowEnd x.header < m)) = true →
          Completes (.windowEndReached p) s fun t => SentenceEnded t p .windowEnd ∧ Counted (Obj.windowEnds p) s t)) ∧
      (AtBoundary s p → bad → Completes (.clauseBad p why) s fun t => SentenceEnded t p .badClause ∧ Counted (Obj.badClauses p) s t) ∧
      (s.num (Obj.loadState p) = 2 ∨ s.num (Obj.loadState p) = 3 → Completes (.playerMemoryFault p store) s fun t =>
        SentenceEnded t p .fault ∧ Counted (Obj.objFaults p) s t ∧ unreadable t) ∧
      (s.num (Obj.loadState p) ≠ 2 → s.num (Obj.loadState p) ≠ 3 → Completes (.playerMemoryFault p store) s fun t =>
        t.players = s.players ∧ unreadable t)) ∧
  (∀ (s : State) (p : Fin 8) (r : PendingRecord), s.mem.wf = true → s.power.powerGood = true → s.power.railsOff = false →
      ((s.playerOf p).records.find? fun r => !recordWaits s r) = some r → (∀ i, i < r.bytes.length → slotAt (r.base + i) = none) →
      Completes (.sentenceRecordWrite p) s fun t =>
        (∀ i, i < r.bytes.length → dramByte t.mem (r.base + i) = r.bytes.getD i 0) ∧
        (∀ x, x < r.base ∨ r.base + r.bytes.length ≤ x → dramByte t.mem x = dramByte s.mem x) ∧
        t.mem.sram = s.mem.sram ∧ (t.playerOf p).records = (s.playerOf p).records.erase r ∧ t.objs = s.objs)

/-- R232, R233, R238: the clause at a player's address, in a WAIT sentence and with a phrase that waits for nothing, acts at once: where the program
goes on, the return stack, the counters, the binding of the next entry by SECTOR, and END. A SECTOR with no entry left continues at its exit and keeps
the entry that is bound. A clause that does not stand at the player's address does nothing. R237 to R241: a clause acts when its time has passed, when
its condition's event comes out of the event FIFO, or when its timeout has run out, which is counted and marked, once the gate FIFO has room for the
end of its freeze mask; a condition that belongs to a sector is met by the bound entry's event only. A stalled clause of a TIMED sentence begins when
nothing keeps it any longer, and stays stalled until then. -/
def Obligations.ClausesRunAndTakeTheirTime : Prop :=
  (∀ (s : State) (p : Fin 8) (phrase : Fin 1024) (arg : BitVec 16), AtBoundary s p →
      let x := s.playerOf p
      let at_ (op : Nat) : Prop := clauseHere s p = (op, phrase.val, arg.toNat)
      let acts (op : Nat) (t : State) : Prop := ClauseDone op arg.toNat x (t.playerOf p) ∧ (t.playerOf p).lastClause = x.pc
      (x.header.timingMode = 1 → (phraseOf (phraseWord s p phrase)).cond = 0 →
        (at_ 0x00 → Completes (.clauseStep p phrase arg) s (acts 0x00)) ∧
        (at_ 0x01 → Completes (.clauseGoto p phrase arg) s (acts 0x01)) ∧
        (at_ 0x02 → x.stack.length < 4 → Completes (.clauseCall p phrase arg) s (acts 0x02)) ∧
        (at_ 0x03 → x.stack ≠ [] → Completes (.clauseRet p phrase arg) s (acts 0x03)) ∧
        (at_ 0x04 → Completes (.clauseSetcnt p phrase arg) s (acts 0x04)) ∧
        (at_ 0x05 → Completes (.clauseLoop p phrase arg) s (acts 0x05)) ∧
        (at_ 0x07 → Completes (.clauseIfwrite p phrase arg) s (acts 0x07)) ∧
        (at_ 0x08 → Completes (.clauseIfparity p phrase arg) s (acts 0x08)) ∧
        (at_ 0x3F → Completes (.clauseEnd p phrase arg) s (acts 0x3F)) ∧
        (at_ 0x06 → x.nextEntry < x.entries.length → Completes (.clauseSector p phrase arg) s fun t =>
          (t.playerOf p).bound = some x.nextEntry ∧ (t.playerOf p).nextEntry = x.nextEntry + 1 ∧ (t.playerOf p).pc = (x.pc + 1) % 4096)) ∧
      (at_ 0x06 → x.entries.length ≤ x.nextEntry → Completes (.clauseSector p phrase arg) s fun t =>
        (t.playerOf p).bound = x.bound ∧ (t.playerOf p).pc = arg.toNat % 4096 ∧ (t.playerOf p).gates = x.gates) ∧
      (¬at_ 0x00 → exec (.clauseStep p phrase arg) s = .next s) ∧ (¬at_ 0x01 → exec (.clauseGoto p phrase arg) s = .next s) ∧
      (¬at_ 0x02 → exec (.clauseCall p phrase arg) s = .next s) ∧ (¬at_ 0x03 → exec (.clauseRet p phrase arg) s = .next s) ∧
      (¬at_ 0x04 → exec (.clauseSetcnt p phrase arg) s = .next s) ∧ (¬at_ 0x05 → exec (.clauseLoop p phrase arg) s = .next s) ∧
      (¬at_ 0x06 → exec (.clauseSector p phrase arg) s = .next s) ∧ (¬at_ 0x07 → exec (.clauseIfwrite p phrase arg) s = .next s) ∧
      (¬at_ 0x08 → exec (.clauseIfparity p phrase arg) s = .next s) ∧ (¬at_ 0x3F → exec (.clauseEnd p phrase arg) s = .next s)) ∧
  (∀ (s : State) (p : Fin 8) (len cond units wedge tt : Nat),
      let x := s.playerOf p
      let done (t : State) : Prop :=
        (x.clauseOp = 2 → x.stack.length < 4) → (x.clauseOp = 3 → x.stack ≠ []) → ClauseDone x.clauseOp x.clauseArg x (t.playerOf p)
      (x.gates.length ≤ 31 →
        (x.clause = .timed len → Completes (.clauseTimeEnd p) s done) ∧
        (∀ of_ : Option Nat, of_ = none ∨ of_ = x.bound →
          (x.clause = .wait cond units → cond ≠ 2 → ⟨cond, wedge, tt, of_⟩ ∈ (s.chanOf (p.val / 2)).events → Completes (.clauseWaitMet p wedge tt) s done) ∧
          (x.clause = .wait 2 units → ⟨evServo, wedge, tt, of_⟩ ∈ (s.chanOf (p.val / 2)).events → wedge = x.clauseArg % 1024 →
            Completes (.clauseWaitMet p wedge tt) s done)) ∧
        (x.clause = .wait cond units → (x.clauseOp = 2 → x.stack.length < 4) → (x.clauseOp = 3 → x.stack ≠ []) →
          Completes (.clauseWaitTimeout p) s fun t =>
            done t ∧ (t.playerOf p).waitTimeouts = x.waitTimeouts + 1 ∧ (t.playerOf p).flags.testBit 2 = true ∧ Counted (Obj.waitTimeouts p) s t)) ∧
      (x.clause ≠ .stalled ∨ mustStall s p = true → exec (.playerStallEnd p) s = .next s) ∧
      (x.clause = .stalled → mustStall s p = false → x.header.timingMode = 0 → Completes (.playerStallEnd p) s fun t =>
          (t.playerOf p).clause = .timed (let f := phraseOf (phraseWord s p x.clausePhrase)
            if f.timeSel = 0 then f.time else if f.timeSel = 1 then x.header.sectorT else if f.timeSel = 2 then x.header.sm2At else x.clauseArg)))

/-- R235 with R174, R176 and R16, after the rows of samples that the lanes have delivered: a gate entry ahead of its target waits, and lights the
laser of a write in time; one at its target opens or closes its gate: a read capture starts and goes into its tail, a write gate opens with its laser
code, or stays shut with its sector INCOMPLETE where write-unsafe stands or the sector is not ready, and closes with its sector WRITTEN and on the
medium, or INCOMPLETE where the sector has not passed whole; ALL_CLOSE closes both and ends the captures. One that is late, posted too late or past
its target, is counted: its close takes effect at once, its open is discarded, with SPLIT where the sector crosses a servo field. -/
def Obligations.GateEntriesOpenAndCloseGates : Prop :=
  ∀ (s : State) (p : Fin 8) (t0 : Nat) (g : GateEntry) (rest : List GateEntry) (e : Entry) (adc : List AdcRow),
    let a := p.val / 2
    let u := if (s.actOf a).playing = some p.val then streamSamples s a adc else s
    let x := u.playerOf p
    let c := u.chanOf a
    let d : Int := windowWedge u p g.wedge
    let ahead := 0 < d ∨ d = 0 ∧ t0 < g.target
    let due := d = 0 ∧ t0 = g.target
    let split := if entrySplit x.header e then 2 ^ 3 else 0
    let medium : Out := .medium a x.header.surface x.header.track e.psector (piecesOf s p e)
    let open_ (P : State → Prop) : Prop := Completes (.gateEntryExecute p t0 adc) s fun t => (t.playerOf p).gates = rest ∧ P t
    x.gates = g :: rest → u.entryOf p g.entry = some e →
    (ahead → g.late = false → Completes (.gateEntryExecute p t0 adc) s fun t =>
      t.players = u.players ∧ t.objs = s.objs ∧
      (g.action = 3 → gapT s x.header c.wedge t0 g.wedge g.target ≤ x.set.laserLead → c.locked = false → c.wu = 0 →
        (t.chanOf a).laser = laserCode s x.header x.selector)) ∧
    (due → g.late = false →
      (g.action = 1 → open_ fun t => (t.chanOf a).readGate = true ∧ ∃ e', t.entryOf p g.entry = some e' ∧ e'.opened = true ∧ e'.capturing = true) ∧
      (g.action = 2 → open_ fun t => ∃ e', t.entryOf p g.entry = some e' ∧ e'.closing = e.capturing) ∧
      (g.action = 3 → e.final = false → c.synthLocked = true →
        (c.locked = false → c.wu = 0 → writeReady u a = true → open_ fun t =>
          (t.chanOf a).writeGate = some g.entry ∧ (t.chanOf a).laser = laserCode s x.header x.selector ∧ (t.chanOf a).freeze.testBit 3 = true) ∧
        (c.locked = true ∨ c.wu ≠ 0 ∨ writeReady u a = false → open_ fun t =>
          (t.chanOf a).writeGate = c.writeGate ∧ EntryEnded t p g.entry 6 (2 ^ 9 + split) ∧ (c.writeGate = none → (t.chanOf a).laser = 0) ∧
          (c.locked = false → c.wu ≠ 0 → EntryEnded t p g.entry 6 (2 ^ 9 + 2 ^ 8 + split)))) ∧
      (g.action = 4 → c.writeGate = some g.entry → e.final = false → entryEnd x.header e ≤ posIdx x.header g.wedge g.target → open_ fun t =>
        (t.chanOf a).writeGate = none ∧ EntryEnded t p g.entry 5 0 ∧ ((piecesOf s p e).any (!·.2.2.isEmpty) = true → t.outs = medium :: s.outs)) ∧
      (g.action = 4 → c.writeGate = some g.entry → e.final = false → posIdx x.header g.wedge g.target < entryEnd x.header e →
        (s.actOf a).playing = some p.val → open_ fun t => (t.chanOf a).writeGate = none ∧ EntryEnded t p g.entry 6 (2 ^ 9 + split)) ∧
      (g.action = 5 → open_ fun t => (t.chanOf a).writeGate = none ∧ (t.chanOf a).readGate = false ∧
        ∃ e', t.entryOf p g.entry = some e' ∧ e'.capturing = false)) ∧
    ((¬ahead ∧ ¬due) ∨ g.late = true → g.action = 1 ∨ g.action = 2 ∨ g.action = 3 ∨ g.action = 4 ∨ g.action = 5 → e.final = false → open_ fun t =>
      (t.playerOf p).lateGates = x.lateGates + 1 ∧ (t.playerOf p).flags.testBit 3 = true ∧ Counted (Obj.lateGates p) s t ∧
      (g.action = 1 → e.played = true → EntryEnded t p g.entry 3 (2 ^ 11 + split)) ∧
      (g.action = 1 ∨ g.action = 3 → (t.chanOf a).readGate = c.readGate ∧ (t.chanOf a).writeGate = c.writeGate) ∧
      (g.action = 2 → ∃ e', t.entryOf p g.entry = some e' ∧ e'.closing = e.capturing) ∧
      (g.action = 3 → EntryEnded t p g.entry 6 (2 ^ 11 + 2 ^ 9 + split)) ∧
      (g.action = 4 ∨ g.action = 5 → (t.chanOf a).writeGate = none) ∧ (g.action = 5 → (t.chanOf a).readGate = false))

/-- R191 to R196, R199, R200, R213: a job of the decode pool goes from the detector pass that a core has in hand, with its LLRs, to the iterations of
an LDPC core's pass. An iteration short of a codeword goes on up to the local limit, and the pass then ends one global iteration; a zero syndrome
whose SCRC matches ends an online sector CONVERGED, its payload and then its status word stored, and one whose SCRC does not match is counted, and
ends an online sector CRC_FAIL. A checker that disagrees, or an uncorrectable word, sends the alignment back to its start on another core, counted and
with its core's event; a corrected word is an event of its macro, by row. A deadline ends an online job with its status word. -/
def Obligations.DecodeJobsPassAndEnd : Prop :=
  ∀ (s : State) (det : Fin 8) (ldpc : Fin 12) (id : Nat) (check : PassCheck) (j : DecodeJob), jobOf s id = some j →
    let d := (dispatch s).dec
    let llr := detectorPass j.target j.np j.parityCirc (jobSamples s j) (j.aligns.getD j.alignIndex 0) (extrinsic (s.num Obj.extScale) j.llr j.post) j.cuts
    let z := localIteration j.parityCirc (s.num Obj.msOffset) j.post j.msgs
    let hard := hardOf z.1
    let u := unsatisfied j.parityCirc hard
    let bad := check = .uncorrectable ∨ check = .disagrees
    let matches_ := j.parity = true ∨ scrcGood j.seed (hardBytes hard) = true
    let stored (t : State) (m : Memory) (results : List Nat) : Prop :=
      jobOf t id = none ∧ ∃ word, word.length = 16 ∧ t.mem = dramWriteM m j.statusAddr word ∧ fieldAt word 4 4 / 2 ^ 28 ∈ results
    (j.phase = .waitDetector → SMap.find d.detRun det = some id →
      (¬bad → Completes (.detectorPassDone det id check) s fun t =>
        jobOf t id = some { j with
          phase := .waitLdpc, detCore := det, avoidDet := 0xFF, passLocals := 0, llr := llr, post := softBlocks j.parityCirc llr, msgs := [] } ∧
        Counted (Obj.detSectors det) s t ∧
        ∀ n row, check = .corrected n row → n < 448 → RaisedSince s t (704 + n) row 0) ∧
      (bad → Completes (.detectorPassDone det id check) s fun t =>
        jobOf t id = some { restartAlignment j with avoidDet := det } ∧ Counted (Obj.detSectors det) s t ∧ Counted (Obj.detCheckFails det) s t ∧
        RaisedSince s t (256 + det.val) det 0)) ∧
    (j.phase = .waitLdpc → SMap.find d.ldpcRun ldpc = some id →
      (u ≠ 0 → check ≠ .uncorrectable → j.passLocals + 1 < j.limitLocal → Completes (.ldpcIterationDone ldpc id check) s fun t =>
        jobOf t id = some { j with
          ldpcCore := ldpc, locals := j.locals + 1, passLocals := j.passLocals + 1, minUnsat := min j.minUnsat u, post := z.1, msgs := z.2 } ∧
        t.mem = s.mem) ∧
      (u ≠ 0 → check ≠ .uncorrectable → j.limitLocal ≤ j.passLocals + 1 → j.alignGlobals + 1 < alignLimit j →
        Completes (.ldpcIterationDone ldpc id check) s fun t =>
          Counted (Obj.ldpcSectors ldpc) s t ∧ t.mem = s.mem ∧
          ∃ j', jobOf t id = some j' ∧ j'.phase = .waitDetector ∧ j'.globals = j.globals + 1 ∧ j'.alignGlobals = j.alignGlobals + 1 ∧ j'.passLocals = 0) ∧
      (u = 0 → ¬bad → matches_ → j.ring = none → Completes (.ldpcIterationDone ldpc id check) s fun t =>
        stored t (dramWriteM s.mem j.payloadAddr (hardBytes hard)) [0] ∧ Counted (Obj.ldpcSectors ldpc) s t) ∧
      (u = 0 → ¬bad → ¬matches_ → Completes (.ldpcIterationDone ldpc id check) s fun t =>
        Counted (Obj.ldpcSectors ldpc) s t ∧ Counted Obj.crcFailCount s t ∧
        (j.ring = none → j.aligns.length ≤ j.alignIndex + 1 → stored t s.mem [2])) ∧
      (check = .uncorrectable ∨ u = 0 ∧ bad → Completes (.ldpcIterationDone ldpc id check) s fun t =>
        Counted (Obj.ldpcSectors ldpc) s t ∧ Counted (Obj.ldpcCheckFails ldpc) s t ∧ RaisedSince s t (264 + ldpc.val) ldpc 0 ∧
        ∃ j', jobOf t id = some j' ∧ j'.phase = .waitDetector ∧ j'.coreFault = true ∧ j'.alignGlobals = 0 ∧ j'.avoidLdpc = ldpc)) ∧
    (j.ring = none → Completes (.decodeDeadline id) s fun t => stored t s.mem [1, 3])

/-- R159, R219, R261, R266, R302: a servo sync delivers wedge, track and PES, restarts the T counter, counts a revolution at wedge 0 and confirms a
load, whose arm is then held at zero back-EMF, no trigger of the wedge before it being left; its timeout takes the predicted wedge and time (rounded
down, the model's choice, log entry 81), marks the results missed, asserts write-unsafe, and lets a running seek go on to its next wedge. R16, R157,
R162 to R165: the asperity and drop detectors, freezes and sync windows, each after the rows of samples that the lanes have delivered since the last
command. Eight consecutive corrected samples of a lane in use whose sum exceeds TA_THRESH, and a mean of |y| over 16 T below DROP_THRESH while a
sector is tracked, fire while the detectors are armed: the loops freeze, the firing counts, and the one that reaches TA_EVENT_LIMIT raises an event.
The hangover's end with the read gate closed lets the loops go on; while samples come they tell HANGOVER_T themselves. A capture whose freeze run has
become long is marked and counts. A lane's overrun marks the captures and raises an event. A closed window holds the earliest position within its
bounds whose distance is within the tolerance, and an armed one without a match counts as missed, and posts its event with the entry and the stream's
place. -/
def Obligations.WedgesAreReadAndDetectorsRun : Prop :=
  (∀ (s : State) (a : Fin 4) (wedge track : Nat) (pes : Int),
      let d := s.num (Obj.driveState a)
      (NoneWaits s a 1 → Completes (.servoSync a wedge track pes) s fun t =>
        (t.chanOf a).wedge = wedge % 600 ∧ (t.chanOf a).track = track % 2 ^ 24 ∧ (t.chanOf a).pes = pes ∧ (t.chanOf a).headT = 0 ∧
        (t.chanOf a).servoMissed = false ∧ (t.chanOf a).syncTick = s.num Obj.tick ∧
        (d = 1 → t.num (Obj.driveState a) = 2 ∧ vget t.motion.drives a (1, 1, 1) = (0, 0, 0)) ∧
        (wedge % 600 = 0 → t.num (Obj.revNow (2 * a)) = (s.num (Obj.revNow (2 * a)) + 1) % 2 ^ widthOf (Obj.revNow (2 * a)))) ∧
      Completes (.servoSyncTimeout a) s (fun t =>
        (t.chanOf a).wedge = ((s.chanOf a).wedge + 1) % 600 ∧ (t.chanOf a).syncTick = (s.chanOf a).syncTick + 2500000 / s.motion.rpm ∧
        (t.chanOf a).headT = 64 ∧ (t.chanOf a).servoMissed = true ∧ (t.chanOf a).wu.testBit 1 = true ∧
        (t.chanOf a).writeGate = none ∧ (t.chanOf a).laser = 0 ∧
        (∀ r, (s.actOf a).seekRun = some r →
          (t.actOf a).seekRun = ((seekAdvance s a).actOf a).seekRun ∧ (t.actOf a).seekWedge = ((seekAdvance s a).actOf a).seekWedge))) ∧
  (∀ (s : State) (a : Fin 4) (p : Fin 8) (i : Nat) (lane : Fin 3) (first : Bool) (adc : List AdcRow),
      let u := streamSamples s a adc
      let c := u.chanOf a
      let set := (s.playerOf p).set
      let head := (s.actOf a).lastSurface % 12
      let report (firings cause : Nat) (t : State) : Prop :=
        t.raised = if firings = set.taLimit then s.raised ++ [{ source := 448 + 64 * a.val + (20 + head), unit := head, detail := cause }] else s.raised
      let tracked : Bool := match captureOffset (signalCtx u a p) (u.playerOf p).entries c.streamWedge c.streamT with
        | some n => !c.acquiring || decide (set.acqT ≤ n)
        | none => false
      let loud (k : Nat) : Prop := c.lanesInUse.testBit k = true ∧ set.taThresh * 2 ^ 30 < (((vget c.tails k ⟨[], [], 0, 0⟩).xs.take 8).sum).natAbs
      ((s.actOf a).playing = some p.val → (s.playerOf p).frontEnd.testBit 0 = true →
        (loud 0 ∨ loud 1 ∨ loud 2 → Completes (.thermalAsperity a adc) s fun t =>
          (t.chanOf a).taFirings = c.taFirings + 1 ∧ (t.chanOf a).freeze.testBit 1 = true ∧ Counted (Obj.taCount a) s t ∧ report (c.taFirings + 1) 1 t) ∧
        (¬(loud 0 ∨ loud 1 ∨ loud 2) → exec (.thermalAsperity a adc) s = .next u) ∧
        (set.dropThresh ≠ 0 → tracked = true → c.ys.length = 16 → (c.ys.map Int.natAbs).sum < 16 * set.dropThresh →
          Completes (.dropDetect a adc) s fun t =>
            (t.chanOf a).dropFirings = c.dropFirings + 1 ∧ (t.chanOf a).freeze.testBit 2 = true ∧ Counted (Obj.dropCount a) s t ∧
            report (c.dropFirings + 1) 2 t) ∧
        (set.dropThresh = 0 ∨ tracked = false ∨ 16 * set.dropThresh ≤ (c.ys.map Int.natAbs).sum → exec (.dropDetect a adc) s = .next u) ∧
        (∀ e, u.entryOf p i = some e → e.capturing = true → 8192 ≤ e.run → e.report.testBit 15 = false → e.final = false →
          Completes (.longFreeze a adc) s fun t =>
            (t.chanOf a).longFreeze = true ∧ Counted (Obj.longFreezeCount a) s t ∧ ∃ e', t.entryOf p i = some e' ∧ e'.report.testBit 15 = true)) ∧
      (c.readGate = true → exec (.freezeHangoverEnd a adc) s = .next u) ∧
      (c.readGate = false → exec (.freezeHangoverEnd a adc) s = .next (withChan u a { u.chan[a] with freeze := clrBit (clrBit u.chan[a].freeze 1) 2 })) ∧
      Completes (.sampleOverrun a lane) s (fun t =>
        RaisedSince s t (448 + 64 * a.val + 18) a lane ∧
        (p.val / 2 = a → ∀ e, s.entryOf p i = some e → e.capturing = true → e.final = false →
          ∃ e', t.entryOf p i = some e' ∧ e'.report.testBit 12 = true)) ∧
      (p.val / 2 = a → (s.actOf a).playing = some p.val →
        ∀ e, u.entryOf p i = some e → FirstEntry u p i (fun e => e.capturing && !(if first then e.sm1Done else e.sm2Done)) →
        Completes (.syncWindowEnd p first adc) s fun t =>
          let armed := e.arm.testBit (if first then 1 else 0)
          let h := (s.playerOf p).header
          let centre := if first then 96 else h.sm2At
          let cands := windowCandidates (presetTarget (presetOf s a h.eqPreset)) (if first then syncMark1 else syncMark2) centre h.syncWin e.samples
          let fits (x : Nat × Nat) : Prop := centre ≤ x.1 + h.syncWin ∧ x.1 ≤ centre + h.syncWin ∧ x.2 ≤ h.syncTol
          (drains u a = false → c.events.length < 32 →
            (t.chanOf a).events = c.events ++ [⟨if first then evSm1 else evSm2, c.streamWedge, c.streamT, some i⟩]) ∧
          ∃ e', t.entryOf p i = some e' ∧ (if first then e'.sm1Done else e'.sm2Done) = true ∧
            let found := if first then e'.sm1 else e'.sm2
            (found = none ↔ armed = false ∨ ∀ x ∈ cands, ¬fits x) ∧
            (∀ x, found = some x → x ∈ cands ∧ fits x ∧ ∀ y ∈ cands, fits y → x.1 ≤ y.1) ∧
            (armed = true → found = none → Counted (if first then Obj.sm1MissCount (p.val / 2) else Obj.sm2MissCount (p.val / 2)) s t)))

/-- R203 to R207, R213: hold slots and the ladder's requests. An accepted request advances RING_HEAD and becomes a job of its ring, with its step,
alignments and limits; its end stores one status word, advances RING_DONE and frees the hold slots of RELEASE_AFTER. A hold copy is what the ring slot
held when it was asked for, an average is saturated to 6 bits and replaces the first listed slot, and released hold slots are free. -/
def Obligations.LadderRequestsAreServed : Prop :=
  ∀ (s : State) (ring : Fin 4) (r : LadderReq) (a : Fin 4) (hold : Fin 64) (id : Nat) (x : SampleSlot) (j : DecodeJob),
    let head := s.num (Obj.ringHead ring) + 1
    let accepted (t : State) (P : DecodeJob → Prop) : Prop :=
      t.num (Obj.ringHead ring) = (if s.num (Obj.ringEntries ring) ≤ head then 0 else head) ∧ t.dec.nextId = s.dec.nextId + 1 ∧
      ∃ j, t.dec.jobs = s.dec.jobs ++ [j] ∧ j.id = s.dec.nextId ∧ j.ring = some ring.val ∧ j.actuator = r.act ∧ j.payloadAddr = r.dst ∧
        j.statusAddr = r.dst + 4160 ∧ j.kind = r.kind ∧ P j
    let freed (t : State) (act : Nat) (l : List Nat) : Prop :=
      ∀ n, n ∈ l → n < 64 → SMap.find t.dec.holdSlots (act * 64 + n) = none ∧ SMap.find t.dec.copies (act * 64 + n) = none
    (SMap.find s.dec.copies (a.val * 64 + hold) = some x → Completes (.holdCopyDone a hold) s fun t =>
      SMap.find t.dec.holdSlots (a.val * 64 + hold) = some x ∧ SMap.find t.dec.copies (a.val * 64 + hold) = none ∧ t.dec.ringSlots = s.dec.ringSlots ∧
      t.mem = dramWriteM s.mem (holdAddr a hold) (sampleSlotBytes x)) ∧
    (ladderHead s ring = some r → r.kind = 1 → Completes (.ladderDeep ring) s fun t =>
      accepted t (fun j => let y := slotOf s r (r.slots.headD 0xFF)
        j.ladder = 1 ∧ j.aligns = alignsFor y (alignments r y.align) ∧ j.limitLocal = max r.localLimit 1 ∧ j.limitGlobal = max r.globalLimit 1 ∧
        j.limitProbe = max r.probe 1 ∧ j.seed = y.seed ∧ j.cuts = y.cuts) ∧
      t.mem = s.mem ∧ t.dec.ringSlots = s.dec.ringSlots ∧ t.dec.holdSlots = s.dec.holdSlots) ∧
    (ladderHead s ring = some r → r.kind = 2 → r.slots.headD 0xFF < 64 → r.slots.map (slotOf s r) = x :: (r.slots.drop 1).map (slotOf s r) →
      Completes (.ladderAverage ring) s fun t =>
        accepted t (fun j => j.ladder = 3 ∧ j.aligns.length ≤ 1) ∧
        ∃ y, SMap.find (if r.fromRing then t.dec.ringSlots else t.dec.holdSlots) (r.act * 64 + r.slots.headD 0xFF) = some y ∧
          y.samples.length = x.samples.length ∧ (∀ v, v ∈ y.samples → -32 ≤ v ∧ v ≤ 31) ∧
          t.mem = (if r.fromRing then s.mem else dramWriteM s.mem (holdAddr r.act (r.slots.headD 0xFF)) (sampleSlotBytes y))) ∧
    (ladderHead s ring = some r → r.kind = 3 → Completes (.ladderReleaseHold ring) s fun t =>
      accepted t (fun j => j.ladder = 0 ∧ j.aligns = [] ∧ j.phase = .ended) ∧ t.mem = s.mem ∧ (r.fromRing = true → t.dec.holdSlots = s.dec.holdSlots) ∧ (r.fromRing = false → freed t r.act r.slots)) ∧
    (jobOf s id = some j → j.ring = some ring.val → j.phase = .ended → Completes (.ladderRequestEnd id) s fun t =>
      jobOf t id = none ∧ t.num (Obj.ringDone ring) = (s.num (Obj.ringDone ring) + 1) % 65536 ∧
      (j.releaseAfter = true → j.fromRing = false → freed t j.actuator j.slots) ∧
      ∃ word, word.length = 16 ∧ t.mem = dramWriteM s.mem j.statusAddr word ∧ fieldAt word 4 4 / 2 ^ 28 = j.result % 16)

/-- R310, R311: a frame of a type the device does not know is forwarded with HOPS one higher and never delivered; its CRC faults are counted, and one
seen first here raises the input's event; the line is taken until it has left. A frame that has come back to its origin, or has made 1,023 hops, goes
no further. R320 and R327: a member takes group and speed from PHASE, with the phase that they assign to it, and a mismatch of speed raises one event;
the master sends PHASE; HEALTH frames are sent no more often than every 250 ms, with the junction temperature as it is sensed, and those of the
neighbours at d = −8 to +8 are kept. -/
def Obligations.GirthFramesPhaseAndHealth : Prop :=
  (∀ (s : State) (h : GirthHeader) (typ payload : Nat), typ = 0 ∨ 5 < typ → s.power.powerGood = true → s.power.railsOff = false →
      Completes (.girthUnknownType h typ payload) s fun t =>
        (h.origin ≠ s.num Obj.hop → h.hops < 1023 →
          t.outs = .girth (girthFrame typ h.origin (h.hops + 1) payload (decide (h.crc = .good))) :: s.outs ∧
          t.girth = { s.girth with lineFree := s.num Obj.tick + 40 }) ∧
        (h.origin = s.num Obj.hop ∨ h.hops = 1023 → t.outs = s.outs ∧ t.girth = s.girth) ∧
        (h.crc = .bad → Counted Obj.crcErrors s t ∧ t.raised = s.raised ++ [{ source := 39, unit := 0, detail := 0 }]) ∧
        (h.crc = .poisoned → Counted Obj.poisoned s t ∧ t.raised = s.raised) ∧ (h.crc = .good → t.objs = s.objs ∧ t.raised = s.raised)) ∧
  (∀ (s : State) (h : GirthHeader) (rpm group : Nat) (payload : List Byte),
      let hop := s.num Obj.hop
      let d : Int := (h.origin : Int) - hop
      let g := max group 1
      let slot := if s.num Obj.phaseSlot = 0xFF then hop % g else s.num Obj.phaseSlot
      let sent (t : State) : Prop :=
        Queued s t 4 (healthPayload s.senseTj) ∧ t.girth.lastHealth = some (s.num Obj.tick) ∧ t.girth.healthPending = false
      (girthRuns s = true → h.crc = .good → rxHeld s < 8 → s.num Obj.girthState = 1 → Completes (.girthPhase h rpm group) s fun t =>
        t.girth.phaseTick = some (s.num Obj.tick) ∧ t.girth.phaseGroup = group ∧ t.girth.phaseRpm = rpm ∧
        (slot * 2 ^ 32 % g = 0 → t.num Obj.assignedPhase = ofSigned 32 ((slot * 2 ^ 32 / g : Nat) + toSigned 32 (s.num Obj.phaseOffset))) ∧
        (rpm ≠ s.num Obj.formatRpm → s.girth.rpmMismatch = false →
          t.girth.rpmMismatch = true ∧ t.raised = s.raised ++ [{ source := 43, unit := 0, detail := 2 }]) ∧
        (rpm = s.num Obj.formatRpm → t.raised = s.raised)) ∧
      (girthRuns s = true → s.num Obj.girthState = 2 → Completes .phasePeriod s fun t =>
        Queued s t 2 (s.num Obj.formatRpm % 65536 * 2 ^ 68 + s.num Obj.phaseGroup % 16 * 2 ^ 64) ∧
        t.girth.phaseTick = some (s.num Obj.tick) ∧ t.girth.phaseRpm = s.num Obj.formatRpm) ∧
      (girthRuns s = true → girthJoined s = true → healthAllowed s = true → Completes .healthPeriod s sent) ∧
      (girthRuns s = true → girthJoined s = true → healthAllowed s = false → exec .healthPeriod s =
        .next { s with girth := { s.girth with healthPending := true } }) ∧
      (girthRuns s = true → girthJoined s = true → healthAllowed s = true → s.girth.healthPending = true → Completes .healthDeferred s sent) ∧
      (girthRuns s = true → girthJoined s = true → h.crc = .good → rxHeld s < 8 → 1 ≤ d.natAbs → d.natAbs ≤ 8 → Completes (.girthHealth h payload) s fun t =>
        SMap.find t.girth.neighbours (d + 8).toNat = some (h.origin, s.num Obj.tick, leNat payload % 2 ^ 84)))

/-- R313 to R319, R16 and R330: time and mastership. A member follows the SYNC of its master, unless its OVER bit is set, and one that a full receive
FIFO drops is counted and raises its event; the third SYNC in a row of one tag is adopted while it listens; a lost master is followed by the role; a
candidate whose wait ends takes over with an event; a new ROLE takes effect at a SYNC period, when a master's SYNC enters the transmit FIFO, ahead of
what waits there, with the time of the moment when it leaves. A new master continues the epoch that it followed. -/
def Obligations.GirthMastershipFollowsTheRules : Prop :=
  ∀ (s : State) (h : GirthHeader) (tick base tag : Nat) (fixed take quiet : Bool),
    let hop := s.num Obj.hop
    let st := s.num Obj.girthState
    let member (t : State) : Prop :=
      t.num Obj.hop = h.hops ∧ t.num Obj.masterTag = tag ∧
      t.num Obj.epochOffset = ofSigned 64 ((tick : Int) + ((h.hops : Int) - base) * 6 - s.num Obj.tick)
    let master (hop : Nat) (t : State) : Prop :=
      t.num Obj.girthState = 2 ∧ t.num Obj.hop = hop ∧ t.num Obj.masterTag = ownTag ∧ t.girth.baseHop = hop ∧ t.num Obj.ringSize = 0 ∧
      t.num Obj.epochOffset = ofSigned 64 (epochNow s)
    let unjoined (t : State) : Prop := t.num Obj.girthState = 3 ∧ t.num Obj.hop = 0xFFFF ∧ t.num Obj.ringSize = 0
    (girthRuns s = true → h.crc = .good →
      (rxHeld s < 8 → st = 1 → tag = s.num Obj.masterTag → ownSync s tick base tag = false →
        Completes (.girthSync h tick base tag fixed take false) s fun t => member t ∧ t.num Obj.girthState = 1 ∧ t.girth.newTagCount = 0) ∧
      (rxHeld s < 8 → st = 1 → ownSync s tick base tag = false → Completes (.girthSync h tick base tag fixed take true) s fun t =>
        t.objs = s.objs ∧ t.girth.newTagCount = 0) ∧
      (8 ≤ rxHeld s → Completes (.girthSync h tick base tag fixed take false) s fun t =>
        t.objs = s.objs ∧ t.girth = { s.girth with rxDrops := s.girth.rxDrops + 1, lineFree := t.girth.lineFree } ∧
        t.raised = s.raised ++ [{ source := 39 }]) ∧
      (rxHeld s < 8 → st = 0 → s.girth.newTag = tag → s.girth.newTagCount = 2 → ownSync s tick base tag = false →
        Completes (.girthSync h tick base tag fixed take false) s fun t =>
          member t ∧ t.num Obj.girthState = 1 ∧ t.girth.listening = false ∧ t.num Obj.ringSize = 0)) ∧
    (girthRuns s = true → st ≠ 2 → s.girth.listening = false → Completes .masterLoss s fun t =>
      (s.girth.role = 1 → master 0 t) ∧ (s.girth.role = 2 → t.girth.candidateWait = true ∧ t.objs = s.objs) ∧ (s.girth.role = 3 → unjoined t)) ∧
    (s.girth.candidateWait = true → girthRuns s = true → Completes .candidateWaitEnd s fun t =>
      master (if hop = 0xFFFF then 0 else hop) t ∧ t.girth.elected = true ∧ t.girth.takeoverLeft = 3 ∧ Counted Obj.takeovers s t ∧
      t.raised = s.raised ++ [{ source := 43, unit := 0, detail := 0 }]) ∧
    (s.girth.listening = true → girthRuns s = true → Completes (.joinListenTimeout quiet) s fun t =>
      t.girth.listening = false ∧ (s.girth.role = 2 → master 0 t) ∧ (s.girth.role ≠ 2 → unjoined t)) ∧
    (girthRuns s = true → st = 2 →
      (roleSelected s = s.girth.role → healthBits s = s.girth.healthBits → Completes .syncPeriod s fun t =>
        Queued s t 1 (syncPayload 0 s.girth.baseHop ownTag (decide (s.girth.role = 1)) (decide (0 < s.girth.takeoverLeft)) false) ∧
        t.girth.takeoverLeft = s.girth.takeoverLeft - 1 ∧ (ownRecent s = false → t.num Obj.ringSize = 0)) ∧
      (roleSelected s = 3 → s.girth.role ≠ 3 → Completes .syncPeriod s unjoined))

/-- R312, R322, R323, R326: an announced seek is applied or ignored as its conditions say, cancelled by the same SEEK with profile 0xFFFF, and dropped
at its end, when the gains are trimmed within their clamp where the sums allow it. An own announcement that has not started is cancelled by that SEEK,
the oldest first, within ANNOUNCE_RATE. -/
def Obligations.GirthSeeksAreAppliedAndCancelled : Prop :=
  ∀ (s : State) (h : GirthHeader) (start profile set id at_ pay : Nat) (rest : List (Nat × Nat)) (act a : Fin 4) (d : Int) (x : Announcement),
    let hd : Int := (h.origin : Int) - s.num Obj.hop
    let applies : Prop := girthJoined s = true ∧ 1 ≤ hd.natAbs ∧ hd.natAbs ≤ 8 ∧ s.num Obj.ffEnable = 1 ∧ hasCoupling s.fw.bundle = true ∧
      set % 256 = profileSetId s.fw.bundle % 256 ∧ ((profilesInForce s 0).any fun p => decide (p.number = profile)) = true ∧ s.girth.announcements.length < 16
    (girthRuns s = true → h.crc = .good → rxHeld s < 8 → profile ≠ 0xFFFF → applies → Completes (.girthSeek h start profile act d set) s fun t =>
      Counted Obj.seeksHeard s t ∧ ∃ x, t.girth.announcements = s.girth.announcements ++ [x] ∧ x.id = s.girth.nextAnnouncement ∧
        x.profile = profile ∧ x.act = act.val ∧ x.d = d ∧ x.hopDiff = hd ∧ x.start = localTick s start ∧ x.master = start % 2 ^ 32) ∧
    (girthRuns s = true → h.crc = .good → rxHeld s < 8 → profile ≠ 0xFFFF → ¬applies → Completes (.girthSeek h start profile act d set) s fun t =>
      Counted Obj.seeksIgnored s t ∧ t.girth = { (rxTake s).girth with lineFree := t.girth.lineFree }) ∧
    (girthRuns s = true → h.crc = .good → rxHeld s < 8 → Completes (.girthSeek h start 0xFFFF act d set) s fun t =>
      ∀ x, x ∈ t.girth.announcements ↔
        x ∈ s.girth.announcements ∧ ¬(x.hopDiff = hd ∧ x.act = act.val ∧ x.master = start % 2 ^ 32)) ∧
    (s.girth.ownAnnounced[a] = (at_, pay) :: rest → girthRuns s = true →
      ((newSecond s).girth.seekSent < s.num Obj.announceRate → Completes (.seekCancel a) s fun t =>
        t.girth.ownAnnounced[a] = rest ∧ t.girth.seekSent = (newSecond s).girth.seekSent + 1 ∧
        Queued s t 3 (pay - pay / 2 ^ 36 % 2 ^ 16 * 2 ^ 36 + 0xFFFF * 2 ^ 36)) ∧
      (s.num Obj.announceRate ≤ (newSecond s).girth.seekSent → exec (.seekCancel a) s = .next (newSecond s))) ∧
    (s.girth.ownAnnounced[a] = [] → exec (.seekCancel a) s = .next s) ∧
    ((s.girth.announcements.find? fun x => decide (x.id = id)) = some x → Completes (.announcementEnd id) s fun t =>
      (∀ y, y ∈ t.girth.announcements ↔ y ∈ s.girth.announcements ∧ y.id ≠ id) ∧
      (s.num Obj.trimMu = 0 ∨ x.sumF2[a] < 10 ^ 12 ∨ x.overlapped[a] = true → t.num (Obj.ffGain a) = s.num (Obj.ffGain a)) ∧
      (s.num Obj.trimMu ≠ 0 → 10 ^ 12 ≤ x.sumF2[a] → x.overlapped[a] = false → coefBusy s a = false →
        0x20000000 ≤ t.num (Obj.ffGain a) ∧ t.num (Obj.ffGain a) ≤ 0x7FFCB923))

/-- R312, R322 and R329: an accepted ANNOUNCE sends one SEEK frame, if its conditions hold; a dictionary request sends its frame, and its outcome is
taken from the response with its tag or from the timeout. -/
def Obligations.GirthAnnouncesAndRequests : Prop :=
  ∀ (s : State) (who : Requester) (b : List Byte) (h : GirthHeader) (p : Profile) (tag target index sub status value : Nat) (a : Fin 4),
    let s0 := newSecond s
    let hop := girthHop s
    let pay := seekPayload s (fieldAt b 0 4) p.number a (toSigned 32 (fieldAt b 8 4)) (profileSetId s.fw.bundle)
    let loud := s.num Obj.announceMinMa * p.distRef ≤ p.peakMa * (toSigned 32 (fieldAt b 8 4)).natAbs ∧
      2 ≤ seeksRemain s0 ∧ girthJoined s = true
    let found := byteAt b 6 = a.val ∧ ((profilesInForce s a).find? (·.number = fieldAt b 4 2)) = some p
    let tagNow := s.girth.nextTag
    let frame := dictPayload (fieldAt b 2 2) (byteAt b 0) tagNow (fieldAt b 4 2) (byteAt b 6) 0 (fieldAt b 8 4)
    (AcceptedRec s who Obj.announce b → found → girthRuns s = true →
      Answers (.announce who b) s who Obj.announce fun t =>
        (loud → Queued s t 3 pay ∧ t.girth.ownAnnounced[a] = s.girth.ownAnnounced[a] ++ [(fieldAt b 0 4, pay)] ∧
          t.girth.seekSent = s0.girth.seekSent + 1) ∧
        (¬loud → t = s0)) ∧
    (AcceptedRec s who Obj.dictRequest b → girthRuns s = true → Answers (.dictRequest who b) s who Obj.dictRequest fun t =>
      t.girth.request = some (tagNow, fieldAt b 2 2) ∧ t.girth.nextTag = (tagNow + 1) % 256 ∧ t.girth.requestsSent = s0.girth.requestsSent + 1 ∧
      t.str Obj.dictResponse = dictOutcome 0 0 0 (fieldAt b 4 2) (byteAt b 6) 0 ∧
      (s0.girth.dictSent < 100 → Queued s t 5 frame)) ∧
    (girthRuns s = true → h.crc = .good → rxHeld s < 8 → s.girth.request = some (tag, target) →
      Completes (.girthDictResponse h hop tag index sub status value) s fun t =>
        t.girth.request = none ∧ t.str Obj.dictResponse = dictOutcome 1 status h.origin index sub value) ∧
    (girthRuns s = true → h.crc = .good → rxHeld s < 8 → s.girth.request = none →
      Completes (.girthDictResponse h hop tag index sub status value) s fun t => t.girth = { (rxTake s).girth with lineFree := t.girth.lineFree } ∧ t.objs = s.objs) ∧
    (s.girth.request = some (tag, target) → Completes .dictRequestTimeout s fun t =>
      t.girth.request = none ∧ byteAt (t.str Obj.dictResponse) 0 = 2 ∧ (t.str Obj.dictResponse).drop 1 = (s.str Obj.dictResponse).drop 1 ∧
      t.outs = s.outs)

/-- R53, R56, R61 and R466: a write is answered with the first check that fails and changes nothing then; one that passes leaves its new value, and
nothing else differs where the object has no effect of its own. A request that does not reach the service is lost. -/
def Obligations.WritesAreCheckedThenTakeEffect : Prop :=
  ∀ (s : State) (who : Requester) (index sub typ len id : Nat) (value : List Byte) (v : Val),
    let k := key index sub
    let e := 0x710000 + id
    (heard s who k = false → exec (.objectWrite who index sub typ len value) s = .next s) ∧
    (heard s who k = true → decodeVal k typ len value = some v → selfCheckDue s k v = none → writeStatus s who k (some v) true ≠ dsOk →
      exec (.objectWrite who index sub typ len value) s = .next (answerPlain who k s (writeStatus s who k (some v) true))) ∧
    (Accepted s who k v → decodeVal k typ len value = some v → OwnValue s who k v →
      Answers (.objectWrite who index sub typ len value) s who k fun t =>
        t.obj k = v ∧ (∀ j, j ≠ k → t.obj j = s.obj j) ∧ t = { s with objs := t.objs }) ∧
    (id < 1152 → value.length = 16 → Accepted s who e (.bytes value) → Answers (.sourceEntryWrite who id value) s who e fun t =>
      t.obj e = .bytes value ∧ (∀ j, j ≠ e → t.obj j = s.obj j) ∧ t = { s with objs := t.objs })

/-- R62 to R66: STORE takes a snapshot of every stored object; its end makes that snapshot the newest copy, or after two failures leaves the copies
alone and raises an event; a record's store ends with its values over those of the newest copy as they are then, and a record that waits follows.
RESTORE_DEFAULTS commits its flag over the newest copy. -/
def Obligations.StoresSnapshotAndCommit : Prop :=
  ∀ (s : State) (who : Requester) (n : Nat) (j : StoreJob) (k : RecordKind) (rest : List RecordKind),
    (Accepted s who Obj.objStore (.num 1) → Answers (.store who 1) s who Obj.objStore fun t =>
      t.num Obj.storeState = 1 ∧ ∃ x, t.dict.job = some x ∧ x.whole = true ∧ x.flag = none ∧
        (∀ k ∈ storedKeys, SMap.find x.values k = some (s.obj k)) ∧
        ∀ k, k ∉ storedKeys → SMap.find x.values k = SMap.find (storedValues s) k) ∧
    (Accepted s who Obj.objStore (.num 0) → Answers (.store who 0) s who Obj.objStore fun t => t = s) ∧
    (s.dict.job = some j → s.dict.waitingRecords = [] → Completes (.storeCommit true) s fun t =>
      t.num Obj.storeState = 0 ∧ t.num Obj.storeResult = 0 ∧ t.dict.job = none ∧ storedFlag t = j.flag.getD (storedFlag s) ∧
      storedValues t = (if j.whole then j.values else j.values.foldl (fun m e => SMap.put m e.1 e.2) (storedValues s)) ∧
      ∀ i c, newestCopy s = some (i, c) → vget t.dict.copies i StoreCopy.reset = c) ∧
    (s.dict.job = some j → s.dict.waitingRecords = [] → Completes (.storeCommit false) s fun t =>
      t.num Obj.storeState = 0 ∧ t.num Obj.storeResult = 8 ∧ t.dict.job = none ∧ t.dict.copies = s.dict.copies ∧
      t.raised = s.raised ++ [{ source := 71, unit := 0, detail := 0 }]) ∧
    (s.dict.job = some j → s.dict.waitingRecords = k :: rest → Completes (.storeCommit true) s fun t =>
      t.num Obj.storeState = 1 ∧ t.dict.waitingRecords = rest ∧ ∃ x, t.dict.job = some x ∧ x.whole = false ∧
        ∀ i ∈ k.keys, SMap.find x.values i = some (s.obj i)) ∧
    (Accepted s who Obj.restoreDefaults (.num n) → Answers (.restoreDefaults who n) s who Obj.restoreDefaults fun t =>
      t.num Obj.restoreDefaults = n ∧
      (s.dict.job = none → t.dict.job = some ⟨false, some (decide (n = 1)), []⟩ ∧ t.num Obj.storeState = 1) ∧
      (s.dict.job ≠ none → t.dict.waitingRecords = s.dict.waitingRecords ++ [.restoreFlag]))

/-- R78 to R81, R89, R189 and R455: ENABLE of a unit after its start step. A core or lane goes RUNNING to QUIESCING, an idle DMA channel, the girth
input and a host port at once to QUIESCED; an actuator's heads are parked first. ENABLE = 1 brings a QUIESCED unit back; a port left out at the start
needs its self-check. -/
def Obligations.UnitsAreDisabledAndEnabled : Prop :=
  ∀ (s : State) (who : Requester) (a : Fin 4) (l : Fin 3) (d : Fin 8) (c : Fin 12) (ch : Fin 8) (p : Fin 2) (check : Bool),
    let off (o : Owner) (st : Nat) (P : State → Prop) : Prop := ∀ ek sk, o.enable = some ek → o.state = some sk →
      Accepted s who ek (.num 0) → unitDecided s o = true → unitAbsent s o = false → s.num ek = 1 → s.num sk = 0 →
        Answers (.unitDisable who (unitIndex o)) s who ek fun t => t.num ek = 0 ∧ t.num sk = st ∧ P t
    let on (o : Owner) (st : Nat) (P : State → Prop) : Prop := ∀ ek sk, o.enable = some ek → o.state = some sk →
      Accepted s who ek (.num 1) → unitDecided s o = true → unitAbsent s o = false → s.num ek = 0 → s.num sk = 2 →
        Answers (.unitEnable who (unitIndex o) check) s who ek fun t => t.num ek = 1 ∧ t.num sk = st ∧ P t
    let any (_ : State) : Prop := True
    (off (.detector d) 1 any ∧ off (.ldpc c) 1 any ∧ off (.reader a l) 1 any ∧ off .girth 2 (fun t => t.num Obj.girthState = 3) ∧
      off (.dma ch) (if (s.dma ch).phase = .idle then 2 else 1) any ∧
      (loaded s a = true → off (.actuator a) 1 fun t => loaded t a = false ∨ vget s.motion.vcmOpen a false = true) ∧
      (isPort who p = false → s.fw.frozen = false → s.fw.heldResets = [] → s.fw.resetActivates = false → off (.port p) 2 any)) ∧
    (on (.detector d) 0 any ∧ on (.ldpc c) 0 any ∧ on (.reader a l) 0 any ∧ on .girth 0 any ∧ on (.dma ch) 0 any ∧ on (.port p) 0 any ∧
      (vget s.motion.vcmOpen a false = false → s.num (Obj.driveState a) = 4 → on (.actuator a) 2 fun t => t.num (Obj.driveState a) = 1)) ∧
    (portLeftOut s p = true → heard s who (Obj.portEnable p) = true → s.num (Obj.portState p) = 2 → unitDecided s (.port p) = true →
      (writeStatus s who (Obj.portEnable p) (some (.num 1)) true = dsOk → isPort who p = false →
        Answers (.unitEnable who (0x1110 + p) true) s who (Obj.portEnable p) fun t =>
          t.num (Obj.portState p) = 0 ∧ bit (t.num Obj.degraded) (8 + p) = false) ∧
      (writeStatus s who (Obj.portEnable p) (some (.num 1)) false = dsBusy →
        exec (.unitEnable who (0x1110 + p) false) s = .next (answerPlain who (Obj.portEnable p) (s.raise (96 + p)) dsBusy))) ∧
    (s.num (Obj.detectorState d) = 1 → coreBusy s true d = false → exec (.unitQuiesced (0x4810 + d)) s = .next (s.setNum (Obj.detectorState d) 2)) ∧
    (s.num (Obj.ldpcState c) = 1 → coreBusy s false c = false → exec (.unitQuiesced (0x4820 + c)) s = .next (s.setNum (Obj.ldpcState c) 2)) ∧
    (s.num (Obj.laneState a l) = 1 → exec (.unitQuiesced (0x4010 + 0x100 * a + l)) s = .next (s.setNum (Obj.laneState a l) 2)) ∧
    (s.num (Obj.dmaState ch) = 1 → (s.dma ch).phase = .idle →
      exec (.unitQuiesced (0x9200 + ch)) s = .next (s.setNum (Obj.dmaState ch) 2)) ∧
    (s.num (Obj.actuatorState a) = 1 → nothingPlays s a = true → s.num (Obj.driveState a) = 4 →
      Completes (.unitQuiesced (0x4000 + 0x100 * a)) s fun t => t.num (Obj.actuatorState a) = 2 ∧ t.num (Obj.groupState a) = 0)

/-- R59, R60, R67, R71, R74, R120 and R328: a read returns the object's value on every port, with OK and in that port's form. LIFECYCLE_NONCE draws a
new value, which its reader's class must bring back. -/
def Obligations.ReadsReturnTheValueOnEveryPort : Prop :=
  ∀ (s : State) (slot : Nat) (c : CmdSlot) (h : BolhobaHeader) (g : GirthHeader) (core : Fin 9) (addr width n off len tag index sub : Nat)
    (who : Requester),
    let bwho := bolhobaWho h.port
    let bk := hdrKey h
    let wk := windowKey addr
    let gk := key index sub
    let fw := rxTake (forward s gtDict g (dictPayload (s.num Obj.hop) 0 tag index sub 0 0))
    (∀ k w, dictCmd s slot 0xC0 = some (c, w, k) → cmdMode c = 0 → Readable s w k → isScalar k = true → view s w k = .num n →
      exec (.dictionaryGet slot) s = .next (endAdmin s slot scOk (n % 2 ^ 32) (n / 2 ^ 32))) ∧
    (∀ k w, dictCmd s slot 0xC2 = some (c, w, k) → cmdMode c = 1 → Readable s w k → isBlob k = false →
      exec (.dictionaryBlockRead slot) s = .next (endAdmin
        (s.emit (.hostData c.port c.cmd.cid (slice (valBytes k (view s w k)) c.cmd.cdw11 c.cmd.cdw12))) slot scOk 0 (valBytes k (view s w k)).length)) ∧
    (∀ k w, dictCmd s slot 0xC2 = some (c, w, k) → cmdMode c = 2 → listDwords c = [] → Readable s w k → isScalar k = true → view s w k = .num n →
      exec (.dictionaryListRead slot) s = .next (endAdmin
        (s.emit (.hostData c.port c.cmd.cid (entryBytes k (typOf k) dsOk (leBytes (valueWidth k) n).length n))) slot scOk 1 0)) ∧
    (bolhobaHeard s h = true → Readable s bwho bk → isScalar bk = true → view s bwho bk = .num n →
      exec (.bolhobaGet h) s = .next (answerBolhoba s h 1 dsOk ([BitVec.ofNat 8 (typOf bk), 0] ++ leBytes 2 (valueWidth bk) ++ leBytes (valueWidth bk) n)) ∧
      exec (.bolhobaListGet h [(h.index, h.sub)]) s =
        .next (respond s h 3 dsOk h.index h.sub 1 (entryBytes bk (typOf bk) dsOk (leBytes (valueWidth bk) n).length n)) ∧
      (len ≤ 960 → exec (.bolhobaBlockRead h off len) s =
        .next (answerBolhoba s h 5 dsOk (leBytes 4 0 ++ leBytes 4 (valueWidth bk) ++ slice (leBytes (valueWidth bk) n) off len)))) ∧
    (inCoreWindow addr = true → valueAccess wk (windowOff addr) width = true → Readable s (.core core) wk → view s (.core core) wk = .num n →
      exec (.windowRead core addr width) s = .next ((noteStatus s core wk dsOk).emit (.window core n))) ∧
    (inCoreWindow addr = true → windowOff addr = 8 → heard s (.core core) wk = true →
      exec (.windowRead core addr 1) s = .next (s.emit (.window core (SMap.findD s.dict.windowStatus (statusKey core wk) 0)))) ∧
    (girthRuns s = true → g.crc = .good → rxHeld s < 8 → Readable fw .girth gk → isScalar gk = true → view fw .girth gk = .num n → girthValue gk (.num n) = some n →
      exec (.girthDictGet g (s.num Obj.hop) tag index sub) s = .next (girthAnswer fw g tag index sub dsOk n)) ∧
    (heard s who Obj.lifecycleNonce = true → readStatus s who Obj.lifecycleNonce = dsOk → Completes (.lifecycleNonceRead who) s fun t =>
      ∃ v, t.fw.nonce = some (who, v) ∧ v < 2 ^ 32 ∧ t.outs = .dictValue who Obj.lifecycleNonce dsOk v :: s.outs ∧ t.objs = s.objs)

/-- R57, R58, R60, R67, R70 to R74, R328: a write has the same effect on every port, and is answered in that port's form. A list is written whole or
not at all. -/
def Obligations.WritesHaveOneEffectOnEveryPort : Prop :=
  ∀ (s : State) (slot : Nat) (data value : List Byte) (c : CmdSlot) (h : BolhobaHeader) (g : GirthHeader) (core : Fin 9)
    (addr width n typ len tag index sub i st : Nat) (entries : List ListEntry) (v : Val),
    let bwho := bolhobaWho h.port
    let bk := hdrKey h
    let wk := windowKey addr
    let gk := key index sub
    let fw := rxTake (forward s gtDict g (dictPayload (s.num Obj.hop) 1 tag index sub 0 n))
    let asks := entries.map entryAsk
    (∀ k w, dictCmd s slot 0xC1 = some (c, w, k) → cmdMode c = 1 → c.cmd.cdw12 ≤ 2 ^ 21 → isBlob k = false → answersFirst w k = false →
      decodeVal k (typOf k) c.cmd.cdw12 (padTo c.cmd.cdw12 (data.take c.cmd.cdw12)) = some v → Accepted s w k v →
      exec (.dictionarySet slot data) s = .next (endAdmin (effect s w k v) slot scOk)) ∧
    (∀ k0 k w, dictCmd s slot 0xC1 = some (c, w, k0) → cmdMode c = 0 → c.cmd.cdw12 = 32 → data.length = 32 → slice data 0 16 = leBytes 16 1 →
      entryAsk (listEntryAt (data.drop 16) 0) = (k, some v) → answersFirst w k = false → Accepted s w k v →
      exec (.dictionarySetList slot data) s = .next (endAdmin (effect s w k v) slot scOk 0xFFFF 0)) ∧
    (decodeVal bk typ len value = some v → answersFirst bwho bk = false → bolhobaHeard s h = true → Accepted s bwho bk v →
      exec (.bolhobaSet h typ len value) s = .next (answerBolhoba (effect s bwho bk v) h 2 dsOk [])) ∧
    (bolhobaHeard s h = true → entries ≠ [] → entries.length ≤ 32 → (∀ e ∈ asks, ∀ w, e.2 = some w → selfCheckDue s e.1 w = none) →
      (firstFailing s bwho true asks = some (i, st) → exec (.bolhobaListSet h entries) s =
        .next (respond s h 4 st ((entries[i]?.map (·.index)).getD h.index) ((entries[i]?.map (·.sub)).getD h.sub) entries.length [])) ∧
      (firstFailing s bwho true asks = none → (∀ e ∈ asks, answersFirst bwho e.1 = false) → exec (.bolhobaListSet h entries) s =
        .next (respond (asks.foldl (fun t e => match e.2 with
          | some w => effect t bwho e.1 w
          | none => t) s) h 4 dsOk h.index h.sub entries.length []))) ∧
    (inCoreWindow addr = true → valueAccess wk (windowOff addr) width = true → isScalar wk = true →
      Accepted s (.core core) wk (.num (n % 2 ^ (8 * width))) → answersFirst (.core core) wk = false →
      exec (.windowWrite core addr width n) s = .next (noteStatus (effect s (.core core) wk (.num (n % 2 ^ (8 * width)))) core wk dsOk)) ∧
    (girthRuns s = true → g.crc = .good → rxHeld s < 8 → girthAsk gk (n % 2 ^ 32) = some v → Accepted fw .girth gk v → answersFirst .girth gk = false →
      exec (.girthDictSet g (s.num Obj.hop) tag index sub n) s = .next (girthAnswer (effect fw .girth gk v) g tag index sub dsOk 0))

/-- R60, R69, R105, R107, R109, R117, R118 and R124: a BLOB is staged segment by segment; LAST applies it whole, and the checks of an image, bundle,
key or chain decide. A mailbox moves between its object and DRAM. -/
def Obligations.BlobsAreStagedAndApplied : Prop :=
  ∀ (s : State) (who : Requester) (h : BolhobaHeader) (core : Fin 9) (chain : Fin 2) (off index sub : Nat) (data : List Byte) (j : MailboxJob),
    let bk := hdrKey h
    let whole (k : Key) : List Byte := ownStaged s who k ++ data
    let me : Requester := .core core
    let a := s.num (Obj.mbAddr core)
    let n := s.num (Obj.mbLength core)
    let box (c : Instr) (cmd : Nat) (write last : Bool) : Prop := Accepted s me (Obj.mbCmd core) (.num cmd) →
      (inDram a n = true → Answers c s me (Obj.mbCmd core) fun t =>
        t.num (Obj.mbCmd core) = cmd ∧ t.num (Obj.mbStatus core) = dsBusy ∧
        SMap.find t.dict.mailbox core = some ⟨write, last, s.num (Obj.mbObject core) % 2 ^ 24, a, s.num (Obj.mbOffset core), n⟩) ∧
      (inDram a n = false → Answers c s me (Obj.mbCmd core) fun t =>
        t.num (Obj.mbCmd core) = 0 ∧ t.num (Obj.mbStatus core) = dsRange ∧ t.dict = s.dict)
    let ended (t : State) : Prop :=
      t.num (Obj.mbCmd core) = 0 ∧ t.num (Obj.mbStatus core) = dsOk ∧ t.dict.mailbox = SMap.erase s.dict.mailbox core
    (bolhobaHeard s h = true → BlobOpen s (bolhobaWho h.port) bk off data → data.length ≤ 960 → Completes (.bolhobaBlockWrite h off false data) s fun t =>
      stagingOf t bk = some ⟨bolhobaWho h.port, ownStaged s (bolhobaWho h.port) bk ++ data⟩ ∧ t.objs = s.objs ∧ genOf t bk = genOf s bk) ∧
    (BlobOpen s who Obj.ownerKey off data → (whole Obj.ownerKey = [] ∨ (whole Obj.ownerKey).length = 1952 ∧ countersigned s (whole Obj.ownerKey) = true) →
      Answers (.ownerKeyWrite who off data) s who Obj.ownerKey fun t =>
        t.fw.ownerKey = whole Obj.ownerKey ∧ t.num Obj.ownerKeyState = (if whole Obj.ownerKey = [] then 0 else 1) ∧ StagingUsed s t Obj.ownerKey) ∧
    (BlobOpen s who (chainKey chain) off data → AnswersWith (.certChainWrite who chain off data) s who (chainKey chain) fun t st =>
      if (whole (chainKey chain)).length ≤ 16384 ∧ Config.leafHolds (whole (chainKey chain)) (pubkeyOf s) = true then
        st = dsOk ∧ t.str (chainKey chain) = whole (chainKey chain) ∧ StagingUsed s t (chainKey chain)
      else st = dsRange ∧ t.objs = s.objs ∧ StagingRefused s t (chainKey chain)) ∧
    (BlobOpen s who Obj.bundleStage off data → s.fw.bundleWriting = none → AnswersWith (.bundleStageLast who off data) s who Obj.bundleStage fun t st =>
      t.fw.bundle = s.fw.bundle ∧ t.fw.bundleCopies = s.fw.bundleCopies ∧
      if bundleAccepted (whole Obj.bundleStage) s.fw.ownerKey (minSecurity s) (presentMask s) (s.num Obj.formatRpm)
          (if s.host.namespaces.isEmpty then none else some s.fw.bundle) = true then
        st = dsOk ∧ t.fw.bundleWriting = some ((whole Obj.bundleStage).take (bundleLen (whole Obj.bundleStage))) ∧ StagingUsed s t Obj.bundleStage
      else st = dsRange ∧ t.fw = s.fw ∧ t.raised = s.raised ++ [{ source := 68, unit := 0, detail := 0 }] ∧ StagingRefused s t Obj.bundleStage) ∧
    (BlobOpen s who Obj.recoveryImage off data → s.fw.programming = none → s.num Obj.recoverySlot < 2 →
      AnswersWith (.recoveryImageLast who off data) s who Obj.recoveryImage fun t st =>
        if imageAccepted (whole Obj.recoveryImage) s.fw.ownerKey (minSecurity s) = true then
          st = dsOk ∧ (imageSlot t (s.num Obj.recoverySlot)).state = 3 ∧ StagingUsed s t Obj.recoveryImage ∧ t.fw.programming =
            some ⟨s.num Obj.recoverySlot, (whole Obj.recoveryImage).take (imageLen (whole Obj.recoveryImage)), true, false, none⟩
        else st = dsRange ∧ t.fw = s.fw ∧ t.raised = s.raised ++ [{ source := 64, unit := 0, detail := 0 }] ∧ StagingRefused s t Obj.recoveryImage) ∧
    box (.mbRead core) 1 false false ∧ box (.mbWrite core) 2 true false ∧ box (.mbWriteLast core) 3 true true ∧
    (SMap.find s.dict.mailbox core = some j → j.write = false → isScalar j.key = false → isBlob j.key = false → Readable s me j.key →
      Completes (.mbTransferDone core) s fun t =>
        ended t ∧ t.mem = (cachedWrite s j.addr (slice (valBytes j.key (view s me j.key)) j.offset j.len)).mem) ∧
    (SMap.find s.dict.mailbox core = some j → j.write = true → j.last = false → isScalar j.key = false → cachedPoisoned s.mem j.addr j.len = false →
      BlobOpen s me j.key j.offset (cachedRead s.mem j.addr j.len) → Completes (.mbTransferDone core) s fun t =>
        ended t ∧ stagingOf t j.key = some ⟨me, ownStaged s me j.key ++ cachedRead s.mem j.addr j.len⟩ ∧ t.mem = s.mem) ∧
    exec (.blobStagingAbandon index sub) s =
      .next { s with dict := { s.dict with stagings := SMap.erase s.dict.stagings (key index sub) } }

/-- R31, R73 to R76, R284 and R286: the other messages of the management ports and of the die-to-die link. A message of another enterprise number is
discarded, one that is one too many for its port is answered BUSY with its own TAG, and one that does not reach the service is lost. An access to an
object of the motion die crosses the link; while a notified reset of the main die lasts it gives 0x06. -/
def Obligations.ManagementMessagesAreAnswered : Prop :=
  ∀ (s : State) (who : Requester) (h : BolhobaHeader) (pen version opcode addr index sub typ len : Nat) (b : List Byte) (v : Val)
    (l : List (Nat × Nat)) (es : List ListEntry) (last : Bool),
    let busy (n : Nat) : Host.Outcome State Fault Refusal :=
      .next (s.emit (.bolhoba h.port (wireOf h.port (responseBody h n dsBusy h.index h.sub 0 []))))
    let k := key index sub
    let sent := s.emit (.link "OBJECT" [(index : Int), (sub : Int)])
    (bolhobaReaches s h = false → exec (.bolhobaGet h) s = .next s ∧ exec (.bolhobaSet h typ len b) s = .next s ∧ exec (.bolhobaListGet h l) s = .next s ∧
      exec (.bolhobaListSet h es) s = .next s ∧ exec (.bolhobaBlockRead h addr len) s = .next s ∧ exec (.bolhobaBlockWrite h addr last b) s = .next s) ∧
    (bolhobaReaches s h = true → portFull s h.port = true → exec (.bolhobaGet h) s = busy 1 ∧ exec (.bolhobaSet h typ len b) s = busy 2 ∧
      exec (.bolhobaListGet h l) s = busy 3 ∧ exec (.bolhobaListSet h es) s = busy 4 ∧ exec (.bolhobaBlockRead h addr len) s = busy 5 ∧
      exec (.bolhobaBlockWrite h addr last b) s = busy 6) ∧
    (bolhobaHeard s h = true → pen = 58714 → version ≠ 1 ∨ opcode = 0 ∨ 6 < opcode →
      exec (.bolhobaUnknownOpcode h pen version opcode) s = .next (answerBolhoba s h (opcode % 128) dsType [])) ∧
    (pen ≠ 58714 → exec (.bolhobaUnknownOpcode h pen version opcode) s = .next s) ∧
    exec .factoryFrameGap s = .next s ∧
    (mainPowered s = true → s.start.mode ≠ .halted → s.num Obj.straps % 2 = 0 → addr < 128 →
      exec (.dynamicAddressAssignment addr) s = .next (s.setNum Obj.mbusDynamicAddr addr)) ∧
    (index / 256 = 0x60 → s.start.inReset = true → s.motion.notice ≠ none → mainPowered s = true → s.start.mode ≠ .halted →
      exec (.linkObject who index sub none) s = .next (answerPlain who k s dsBusy) ∧
      exec (.linkObject who index sub (some b)) s = .next (answerPlain who k s dsBusy)) ∧
    (index / 256 = 0x60 → s.num Obj.linkState = 1 → Readable sent who k → isScalar k = true →
      exec (.linkObject who index sub none) s = .next (sent.emit (.dictValue who k dsOk (view sent who k).toNum))) ∧
    (index / 256 = 0x60 → s.num Obj.linkState = 1 → decodeVal k (typOf k) b.length b = some v → Accepted sent who k v → OwnValue sent who k v →
      Answers (.linkObject who index sub (some b)) s who k fun t => t = sent.setObj k v) ∧
    (index / 256 = 0x60 → s.num Obj.linkState ≠ 1 → heard s who k = true → gateStatus s who k true = dsOk →
      exec (.linkObject who index sub (some b)) s = .next (answerPlain who k s dsBusy))

/-- R180, R206, R227, R229, R271, R275, R278 and R280: the writes that load or abort a sentence, reach a preamp, move a ring, or act on a rein group
or a trace. -/
def Obligations.WritesActOnPlayersAndGroups : Prop :=
  ∀ (s : State) (who : Requester) (core : Fin 9) (p : Fin 8) (a : Fin 4) (g : Fin 5) (e : Fin 16) (addr n : Nat) (b : List Byte),
    let me : Requester := .core core
    let f := accessFrame b
    (AcceptedNum s me (Obj.loadAddr p) addr → Answers (.sentenceLoad core p addr) s me (Obj.loadAddr p) fun t =>
      t.num (Obj.loadState p) = 1 ∧ t.num (Obj.loadAddr p) = addr ∧ (t.playerOf p).loadAddr = addr ∧
      (t.playerOf p).loadOrder = (s.actOf (p / 2)).loadCount ∧ (t.actOf (p / 2)).loadCount = (s.actOf (p / 2)).loadCount + 1) ∧
    (AcceptedNum s me (Obj.objAbort p) 1 → Answers (.playerAbort core p 1) s me (Obj.objAbort p) fun t =>
      (s.num (Obj.loadState p) = 3 → (s.playerOf p).clause ≠ .stalled → (t.playerOf p).abortAsked = true ∧ t.objs = s.objs) ∧
      (s.num (Obj.loadState p) = 3 → (s.playerOf p).clause = .stalled → SentenceEnded t p .aborted) ∧
      (s.num (Obj.loadState p) = 2 → t.num (Obj.loadState p) = 0 ∧ (t.playerOf p).outcome = some .discarded)) ∧
    (AcceptedRec s who (Obj.preampAccess a) b → Answers (.preampAccess who a b) s who (Obj.preampAccess a) fun t =>
      ((s.chanOf a).onBus = none → (s.chanOf a).frames = [] →
        (t.chanOf a).onBus = some f ∧ (t.chanOf a).frames = [] ∧ t.outs = .preamp a f.reg f.data (bit (byteAt (formatRecord s a) 9) 1)
          (bit (byteAt (formatRecord s a) 9) 2) (frameLevels (formatRecord s a) f.reg f.data) :: s.outs) ∧
      ((s.chanOf a).onBus ≠ none → (t.chanOf a).frames = (s.chanOf a).frames ++ [f] ∧ t.outs = s.outs)) ∧
    (4 ≤ core.val → core.val < 8 → AcceptedNum s me (Obj.ringTail (core - 4)) n →
      Answers (.ringTailWrite core n) s me (Obj.ringTail (core - 4)) fun t => t = s.setNum (Obj.ringTail (core - 4)) n) ∧
    (AcceptedRec s who (Obj.coefWrite g) b → Answers (.coefWrite who g b) s who (Obj.coefWrite g) fun t =>
      e.val ∈ groupEngines s g → (t.engineOf e).coefDue = (s.engineOf e).coefDue ++ [(fieldAt b 0 2, coefOf (b.drop 4))]) ∧
    (AcceptedNum s who (Obj.snapRequest g) 1 → Answers (.snapRequest who g 1) s who (Obj.snapRequest g) fun t =>
      (t.groupOf g).snapPending = true ∧ t.objs = s.objs) ∧
    (AcceptedNum s who (Obj.inject g) n → Answers (.inject who g n) s who (Obj.inject g) fun t =>
      e.val ∈ groupEngines s g → (s.engineOf e).slot = n → (∀ x ∈ groupEngines s g, (s.engineOf x).slot = n → x = e.val) →
        (t.engineOf e).injectNext = true ∧ (t.engineOf e).injections = (s.engineOf e).injections + 1) ∧
    (AcceptedNum s who (Obj.traceArm a) 1 → Answers (.traceArm who a 1) s who (Obj.traceArm a) fun t =>
      t.num (Obj.traceState a) = 1 ∧ vget t.traces a ⟨[], 1, 1, 1, true⟩ = ⟨[], 0, 0, 0, false⟩) ∧
    (AcceptedNum s who (Obj.traceForce a) 1 → Answers (.traceForce who a 1) s who (Obj.traceForce a) fun t =>
      (vget t.traces a ⟨[], 0, 0, 0, false⟩).forced = true ∧ t.objs = s.objs)

/-- R85 to R88 and R96 to R98: an attempt begins with "feed check" and a new record, reads and clears ALT_FORCE; one that fails, or whose step's
watchdog expires, is counted and sealed with its step and detail, the heads are retracted unless a bridge is latched open, the preamp switches open, a
spin-up is given up and the main die is reset; the third, and the deadline, during an attempt or between two, lead to MAINTENANCE; a lost fuse word,
and a second failure of "ROM self-test", to HALTED; no slot that steps 4 and 5 accept (the model's choice of the moment, log entry 69) and a failure
in MAINTENANCE to ROM_MAINTENANCE. No step ends while the rails run down (log entry 39). After RESTART = NORMAL the attempt begins with no failures
and no history, after RESTART = MAINTENANCE in MAINTENANCE. -/
def Obligations.StartAttemptsBeginAndFail : Prop :=
  ∀ (s : State) (found : StepFindings) (r : StartRecord),
    let x := s.start
    let n := s.num Obj.failedStarts
    let w := x.step
    let begun (n : Nat) (history : Nat) (t : State) : Prop :=
      t.start.running = true ∧ t.start.inReset = false ∧ t.start.step = 1 ∧ t.start.passedSteps = 0 ∧ t.start.history = history ∧
      t.start.forced = 2 * s.num Obj.altForce ∧ t.num Obj.altForce = 0 ∧ t.num Obj.degraded = 0 ∧ t.num Obj.attempt = min 3 (n + 1) ∧
      ∃ r, t.start.ledger.getLast? = some r ∧ r.seq = ((x.ledger.getLast?).map (·.seq)).getD 0 + 1 ∧ r.endCode = none ∧ r.mark = false
    let ready := mainPowered s = true ∧ x.running = false ∧ s.power.off = none ∧ lifecycle s ≠ lcScrapped
    let failed (code endCode detail : Nat) (t : State) : Prop :=
      t.start.running = false ∧ t.start.inReset = true ∧ t.start.history = setBit x.history w ∧ t.num Obj.failedStarts = min 3 (n + 1) ∧
      t.num Obj.v3p3Enable = s.num Obj.v3p3Enable / 16 * 16 ∧ (∀ a : Fin 4, loaded t a = false ∨ vget s.motion.vcmOpen a false = true) ∧ (t.start.maintenance = true ↔ endCode = 2 ∨ 2 ≤ n) ∧
      { source := 72, unit := 0, detail := w } ∈ t.raised ∧
      ∃ y, t.start.ledger.getLast? = some y ∧ y.mark = true ∧ y.endCode = some endCode ∧ y.failedStep = some w ∧ y.failDetail = some detail ∧ vget y.results (w - 1) 15 = code ∧
        (w = 11 → t.motion.spinWaitsPark = false ∧ t.motion.spinWaitsStill = false)
    let endedFor (endCode : Nat) (t : State) : Prop := t.start.running = false ∧ t.power.faultOutLow = true ∧
      ∃ y, t.start.ledger.getLast? = some y ∧ y.mark = true ∧ y.endCode = some endCode ∧ y.failedStep = some w
    let runs := x.running = true ∧ s.power.off = none ∧ 1 ≤ w ∧ w ≤ 20 ∧ x.ledger.getLast? = some r ∧ r.mark = false
    let halts := w = 2 ∧ stepAlt s 2 = true ∨ w = 3 ∧ fuseWordLost found = true
    let noSlot := (w = 4 ∨ w = 5) ∧ slotAccepted s 0 = false ∧ slotAccepted s 1 = false
    let late := s.power.off = none ∧ x.mode = .starting ∧ x.maintenance = false ∧ mainPowered s = true ∧ 1000 * s.num Obj.startDeadlineS ≤ elapsedMs s
    (ready → x.mode = .starting → x.restartAsked = false → x.inReset = false →
      Completes (.attemptBegin .powerGood) s (begun n x.history) ∧
      Completes (.attemptBegin .railCycle) s (fun t => begun n x.history t ∧
        (s.num Obj.lastResetCause = 3 ∨ s.num Obj.lastResetCause = 4 →
          t.raised = s.raised ++ [{ source := 4, unit := 0, detail := s.num Obj.lastResetCause }]))) ∧
    (ready → x.mode = .starting → x.restartAsked = false → x.inReset = true →
      Completes (.attemptBegin .afterFailure) s (begun n x.history)) ∧
    (ready → x.mode ≠ .halted → x.restartAsked = true → x.inReset = true → x.restartMaintenance = false →
      Completes (.attemptBegin .restart) s fun t => begun 0 0 t ∧ t.num Obj.failedStarts = 0 ∧ t.start.mode = .starting ∧ t.start.maintenance = false) ∧
    (ready → x.mode ≠ .halted → x.restartAsked = true → x.inReset = true → x.restartMaintenance = true →
      Completes (.attemptBegin .restart) s fun t => begun 0 0 t ∧ t.start.maintenance = true ∧ t.power.faultOutLow = true) ∧
    (runs → x.maintenance = false → ¬halts → ¬noSlot →
      Completes (.startStepEnd .failed found) s (failed 0 1 (failDetail s found)) ∧ Completes (.stepWatchdog found) s (failed 1 1 (failDetail s found))) ∧
    (runs → halts → Completes (.startStepEnd .failed found) s (fun t => endedFor 5 t ∧ t.start.mode = .halted) ∧
      Completes (.stepWatchdog found) s fun t => endedFor 5 t ∧ t.start.mode = .halted) ∧
    (runs → ¬halts → noSlot ∨ x.maintenance = true → Completes (.startStepEnd .failed found) s (fun t => endedFor 4 t ∧ t.start.mode = .romMaintenance) ∧
      Completes (.stepWatchdog found) s fun t => endedFor 4 t ∧ t.start.mode = .romMaintenance) ∧
    (x.running = false ∨ s.power.off ≠ none → exec (.startStepEnd .failed found) s = .next s ∧ exec (.stepWatchdog found) s = .next s) ∧
    (runs → late → Completes .startDeadline s (failed 1 2 (failDetail s {}))) ∧
    (late → x.running = false → x.inReset = true → x.restartAsked = false → Completes .startDeadline s fun t =>
      t.start.maintenance = true ∧ t.power.faultOutLow = true ∧ t.num Obj.v3p3Enable = s.num Obj.v3p3Enable / 16 * 16 ∧ t.num Obj.targetRpm = 0 ∧
      { source := 74, unit := 0, detail := 0 } ∈ t.raised)

/-- R85, R91, R93, R100, R101 and R104: a step that has met its condition passes, does what it is for, and the next begins; one whose condition does
not hold yet goes on, and one whose check the state decides against fails. The last makes the device ready, with the spindle in REIN in a normal
start. RESTART answers, then stops the hosts first, retracts the heads once the protected region is destaged (those whose bridge is not latched open),
and resets the main die with a notice once they are parked; during an attempt it ends that, uncounted; in the safe state it leads to a rail cycle;
while the rails run down it changes nothing (log entry 39). -/
def Obligations.StartStepsPassAndRestartQuiesces : Prop :=
  ∀ (s : State) (who : Requester) (found : StepFindings) (r : StartRecord) (p : Fin 2) (a : Fin 4) (i : Nat),
    let x := s.start
    let w := x.step
    let alt := stepAlt s w
    let runs := x.running = true ∧ s.power.off = none ∧ x.ledger.getLast? = some r ∧ r.mark = false
    let passes := runs ∧ stepCheck s found = .pass
    let ends (P : State → Prop) : Prop := Completes (.startStepEnd .passed found) s P ∧ Completes (.startStepEnd .passedWithAlternative found) s P
    let goes (w' : Nat) (t : State) : Prop := t.start.step = w' ∧ t.start.running = true ∧ t.start.passedSteps.testBit w = true ∧
      ∃ y, t.start.ledger.getLast? = some y ∧ y.mark = false ∧ vget y.results (w - 1) 15 = if w = 12 ∧ alt = true then 3 else if alt then 4 else 5
    let asked (maint : Bool) (t : State) : Prop :=
      t.start.restartAsked = true ∧ t.start.restartMaintenance = maint ∧ t.start.running = false ∧ t.num Obj.failedStarts = s.num Obj.failedStarts ∧
      (x.running = false → x.inReset = false →
        (destaged s = false → t.start.inReset = false ∧ t.host.fetchStopped = true ∧ t.motion = s.motion) ∧
        (destaged s = true → ∀ a : Fin 4, loaded t a = false ∨ vget s.motion.vcmOpen a false = true) ∧
        (destaged s = true → allParked s = true → t.start.inReset = true ∧ t.start.mode = .starting ∧ t.motion.notice = some 500000)) ∧
      (x.running = true → t.start.inReset = true ∧ t.start.step = 0 ∧ t.start.history = 0)
    let leaves (t : State) : Prop := t.power.off = some .safeRestart ∧ t.num Obj.failedStarts = 0 ∧ t.start.history = 0
    (passes → 1 ≤ w → w ≤ 19 → x.maintenance = false ∨ w ≠ 10 → ends fun t => goes (w + 1) t ∧
      (w = 1 ∨ w = 2 → t.objs = s.objs) ∧
      (w = 3 → t.start.shadow = repairedShadow s found) ∧
      (w = 5 → ∃ y, t.start.ledger.getLast? = some y ∧ y.imageSlot = some (slotInUse s)) ∧
      (w = 6 → t.num Obj.dramRateMts = (if alt then 6400 else 8533) ∧ bit (t.num Obj.degraded) 6 = alt) ∧
      (w = 9 → t.num Obj.runningSlot = slotInUse s ∧ t.fw.coreImage = (imageSlot s (slotInUse s)).bytes ∧ (alt = true → bit (t.num Obj.degraded) 7 = true)) ∧
      (w = 10 → t.num Obj.heartbeatArmed = 1 ∧ t.num Obj.linkState = 1 ∧ t.motion.profiles = #v[imageProfile s false, imageProfile s true]) ∧
      (w = 11 → t.num Obj.spinupLastMs = found.measured % 2 ^ 32) ∧
      (w = 13 → a.val ∈ startActs s → a.val ∉ undiscovered s found →
        t.num (Obj.preampState a) = 2 ∧ t.num (Obj.preampFormat a) = (formatFor s found a).getD 0xFF % 256) ∧
      (w = 15 → s.num Obj.spinMode = smHold → t.num Obj.spinMode = smRein) ∧
      (w = 15 → a.val ∈ startActs s → bit found.actuators a = false → playersRetired s a = false → s.num (Obj.actuatorEnable a) = 1 →
        t.num (Obj.actuatorState a) = 0) ∧
      (w = 16 → chosenCopy s = some i → t.fw.bundle = vget s.fw.bundleCopies i []) ∧
      (w = 17 → generationToReplay s found.badGenerations = some i →
        t.mem.cache = (vget s.mem.keeper i KeeperSlot.reset).cache ∧ t.num Obj.lastReplaySeq = (vget s.mem.keeper i KeeperSlot.reset).seq) ∧
      (w = 18 → t.num Obj.replaySource = if s.mem.keeperChosen.isSome then 1 else if alt then 3 else 2) ∧
      (w = 19 → t.num Obj.rowsTotal = if s.layout.seq = 0 then formatRows s else s.layout.rowsTotal)) ∧
    (passes → w = 10 → x.maintenance = true → ends fun t => goes 20 t ∧
      ∃ y, t.start.ledger.getLast? = some y ∧ ∀ k : Fin 20, 10 ≤ k.val → k.val < 19 → vget y.results k 15 = 3) ∧
    (passes → w = 20 → ends fun t => t.start.running = false ∧ t.start.step = 0 ∧
      (x.maintenance = false ∨ bit found.ports p = false → s.num (Obj.portState p) ≠ 4 →
        t.num (Obj.portState p) = if bit found.ports p = true ∨ s.num (Obj.portEnable p) = 0 then 2 else 0) ∧
      (x.maintenance = false → t.start.mode = .normal ∧ t.num Obj.failedStarts = 0 ∧ t.start.history = 0 ∧ s.num Obj.spinMode = smRein) ∧
      (x.maintenance = true → t.start.mode = .maintenance ∧ t.power.faultOutLow = true) ∧
      ∃ y, t.start.ledger.getLast? = some y ∧ y.mark = true ∧ y.endCode = some (if x.maintenance then 3 else 0)) ∧
    (runs → w = 12 → alt = true → Completes (.startStepEnd .skipped found) s (goes 13)) ∧
    (w ≠ 12 ∨ alt = false → exec (.startStepEnd .skipped found) s = .next s) ∧
    (runs → stepCheck s found = .wait → exec (.startStepEnd .passed found) s = .next s) ∧
    (runs → stepCheck s found = .fail → exec (.startStepEnd .passed found) s = exec (.startStepEnd .failed found) s) ∧
    (Accepted s who Obj.restart (.num 1) →
      (s.power.off = none → inSafe s = false → Completes (.restartNormal who) s (asked false)) ∧
      (s.power.off = none → inSafe s = true → x.mode ≠ .halted → Completes (.restartNormal who) s leaves) ∧
      (s.power.off ≠ none → exec (.restartNormal who) s = .next (answerPlain who Obj.restart s dsOk))) ∧
    (Accepted s who Obj.restart (.num 2) →
      (s.power.off = none → inSafe s = false → Completes (.restartMaintenance who) s (asked true)) ∧
      (s.power.off = none → inSafe s = true → x.mode ≠ .halted → Completes (.restartMaintenance who) s fun t => leaves t ∧ t.start.restartMaintenance = true) ∧
      (s.power.off ≠ none → exec (.restartMaintenance who) s = .next (answerPlain who Obj.restart s dsOk)))

/-- R104, R105, R110 to R112: pieces are staged at their offset; a commit checks the staged image, programs the slot that does not run and sets
PENDING_SLOT when it is asked to; commits run one at a time. -/
def Obligations.FirmwareIsDownloadedAndCommitted : Prop :=
  ∀ (s : State) (slot i : Nat) (c : CmdSlot) (piece : List Byte) (x : SlotProgram),
    let m := vget s.fw.staging (portNo c.port) []
    let img := stagedImage m
    let run := s.num Obj.runningSlot
    let len := 4 * (c.cmd.cdw10 + 1)
    let off := 4 * c.cmd.cdw11
    let programs (cmd : Instr) (act : Bool) : Prop := commitSlot s c = some i → i ≠ run → Completes cmd s fun t =>
      if imageAccepted img s.fw.ownerKey (minSecurity s) = true then
        t.fw.programming = some ⟨i, img.take (imageLen img), act, act, some slot⟩ ∧ (imageSlot t i).state = 3 ∧
        imageSlot t (1 - i) = imageSlot s (1 - i) ∧ t.fw.control = s.fw.control
      else t = endAdmin (s.raise 64) slot scFirmwareImage
    (adminCmd s slot 0x11 = some c → off + len ≤ 24 * 2 ^ 20 → off % 4096 = 0 → len % 4096 = 0 → piece.length = len →
      (∀ e ∈ m, e.1 + e.2.length ≤ off ∨ off + len ≤ e.1) → EndsAdmin (.firmwareImageDownload slot piece) s slot scOk 0 0 fun t =>
        SMap.find (vget t.fw.staging (portNo c.port) []) off = some piece ∧ t.fw.slots = s.fw.slots) ∧
    (commitTurn s slot [0] = some c → programs (.firmwareCommitReplace slot) false) ∧
    (commitTurn s slot [1] = some c → programs (.firmwareCommitReplaceActivate slot) true) ∧
    (commitTurn s slot [2] = some c → commitSlot s c = some i → slotValid s i = true →
      EndsAdmin (.firmwareCommitActivate slot) s slot scOk 0 0 fun t =>
        pendingSlot t = i ∧ activeSlot t = activeSlot s ∧ t.fw.resetActivates = true ∧ t.fw.slots = s.fw.slots) ∧
    (commitTurn s slot [3] = some c → commitSlot s c = some i → slotValid s i = true → i ≠ run → s.fw.activation = none → normalMode s = true →
      imageHandoff (imageSlot s i).bytes = imageHandoff (runningImage s) → Completes (.firmwareCommitActivateNow slot) s fun t =>
        t.fw.activation = some ⟨i, some slot, false, false, false, 1 - s.num (Obj.bankCurrent 0) % 2⟩ ∧ t.num Obj.activationState = 1 ∧
        t.fw.frozen = s.fw.frozen) ∧
    (commitTurn s slot [4, 5, 6, 7] = some c → exec (.firmwareCommitInvalidAction slot) s = .next (endAdmin s slot scInvalidField)) ∧
    (s.fw.programming = some x → x.slot < 2 →
      let done (t : State) : Prop := t.fw.programming = none ∧ imageSlot t x.slot = ⟨x.image, 1⟩ ∧ (x.pend = true → pendingSlot t = x.slot) ∧
        (x.pend = false → t.fw.control = s.fw.control) ∧ activeSlot t = activeSlot s ∧ (x.activate = true → t.fw.resetActivates = true)
      (x.cmdSlot = none → Completes .firmwareCommitDone s done) ∧ ∀ n, x.cmdSlot = some n → EndsAdmin .firmwareCommitDone s n scOk 0 0 done)

/-- R113 to R117, R151 and R362: activation without reset re-checks the image, freezes the cores and sets CSTS.PP, runs the new code and clears it,
and releases the old banks once no sentence uses them; a staged bundle is written to the copies on both holders, whose labels name its generation, and
applies at the next start. -/
def Obligations.ActivationsAndBundlesTakeTheirSteps : Prop :=
  ∀ (s : State) (x : Activation) (n us : Nat) (act : Fin 4) (p : Fin 8) (b : List Byte),
    let ended (t : State) : Prop :=
      t.fw.frozen = false ∧ t.num Obj.runningSlot = x.slot ∧ activeSlot t = x.slot ∧ pendingSlot t = pendingSlot s ∧
      t.num Obj.lastFreezeUs = us % 2 ^ 32 ∧ t.num (Obj.bankCurrent p) = x.bank ∧ t.fw.coreImage = (imageSlot s x.slot).bytes ∧
      (∀ q : Port, (t.ctrl q).pp = false) ∧
      (x.switched = false → t.fw.activation = some { x with unfrozen := true } ∧ t.num Obj.activationState = 3) ∧
      (x.switched = true → t.fw.activation = none ∧ t.num Obj.activationState = 0)
    (s.fw.activation = some x → x.staged = false → Completes .activationStaged s fun t => slotAccepted s x.slot = true →
      t.fw.frozen = true ∧ t.fw.activation = some { x with staged := true } ∧ t.num Obj.activationState = 2 ∧
      bit (t.actOf act).banksHeld x.bank = true ∧ t.num Obj.runningSlot = s.num Obj.runningSlot ∧ ∀ q : Port, (t.ctrl q).pp = true) ∧
    (s.fw.activation = some x → x.staged = false → slotAccepted s x.slot = false → x.cmdSlot = some n →
      EndsAdmin .activationStaged s n scFirmwareImage 0 0 fun t =>
        t.fw.activation = none ∧ t.num Obj.activationState = 0 ∧ t.raised = s.raised ++ [{ source := 64, unit := 0, detail := 0 }]) ∧
    (s.fw.activation = some x → x.staged = true → x.unfrozen = false → s.fw.heldResets = [] →
      (x.cmdSlot = none → Completes (.activationFreezeEnd us) s ended) ∧
      (x.cmdSlot = some n → EndsAdmin (.activationFreezeEnd us) s n scOk 0 0 ended)) ∧
    (s.fw.activation = some x → x.staged = true → x.switched = false →
      (∀ p : Fin 8, (s.num (Obj.loadState p) = 2 ∨ s.num (Obj.loadState p) = 3) → (s.playerOf p).header.bank = x.bank) →
      Completes .activationBankSwitch s fun t =>
        (t.actOf act).banksHeld = 2 ^ x.bank ∧ t.num (Obj.bankCurrent p) = x.bank ∧ t.fw.bankImage = (imageSlot s x.slot).bytes ∧
        (x.unfrozen = true → t.fw.activation = none ∧ t.num Obj.activationState = 0) ∧
        (x.unfrozen = false → t.fw.activation = some { x with switched := true })) ∧
    (s.fw.bundleWriting = some b → Completes .bundleWriteDone s fun t =>
      t.fw.bundleWriting = none ∧ t.num Obj.bundlePendingGen = bundleGen b ∧ t.fw.bundle = s.fw.bundle ∧
      ∀ u : Fin 48, u.val ∈ t.media.holders.toList → vget t.fw.bundleCopies u [] = b ∧
        ∃ l, labelOf t u = some l ∧ bit l.areas 3 = true ∧ l.bundleGen = bundleGen b)

/-- R119 to R122, R127 to R129, R143, R144 and R147: a lifecycle transition takes effect with a restart, that to RETURN once every namespace is
erased; an erase holds the namespace until its commands have ended and then puts a new key in force; the TAP is locked in DEPLOYED and SCRAPPED; a
grown entry and a holder move take effect once written. -/
def Obligations.LifecycleKeysAndEraseTakeEffect : Prop :=
  ∀ (s : State) (who : Requester) (slot ns : Nat) (c : CmdSlot) (b entry : List Byte) (x : Namespace) (i : TapInstr) (u : Fin 48) (h : Fin 2),
    let f := c.cmd.cdw10 % 16
    let pt := fld c.cmd.cdw10 7 5
    exec .lifecycleNonceExpire s = .next { s with fw := { s.fw with nonce := none } } ∧
    (AcceptedRec s who Obj.lifecycleRequest b → inSafe s = false → s.start.running = false → s.fw.destroyed = false → s.power.off = none →
      Completes (.lifecycleRequest who b) s fun t =>
        t.fw.nonce = none ∧
        (byteAt b 0 ≠ 3 ∨ (s.host.namespaces = [] ∧ s.fw.erasing = []) →
          lifecycle t = byteAt b 0 ∧ t.start.restartAsked = true ∧ (t.host.fetchStopped = true ∨ t.start.inReset = true)) ∧
        (byteAt b 0 = 4 → t.fw.ownerKey = [] ∧ t.fw.nsKeys = [] ∧ t.fw.identity = false ∧ t.host.namespaces = []) ∧
        (byteAt b 0 = 3 → s.host.namespaces ≠ [] → lifecycle t = 2 ∧ t.fw.returning = true ∧ t.start = s.start ∧ t.fw.nsKeys = s.fw.nsKeys ∧
          ∀ n ∈ SMap.keys s.host.namespaces, n ∈ t.fw.erasing)) ∧
    (adminCmd s slot 0x84 = some c → c.cmd.cdw10 % 8 = 4 → normalMode s = true → s.fw.erasing = [] → s.host.namespaces ≠ [] →
      EndsAdmin (.sanitize slot .cryptoErase) s slot scOk 0 0 fun t =>
        (∀ n ∈ SMap.keys s.host.namespaces, n ∈ t.fw.erasing) ∧ t.host.sanitize = 2) ∧
    (adminCmd s slot 0x84 = some c → c.cmd.cdw10 % 8 = 2 → exec (.sanitize slot .blockErase) s = .next (endAdmin s slot scInvalidField)) ∧
    (adminCmd s slot 0x84 = some c → c.cmd.cdw10 % 8 = 3 → exec (.sanitize slot .overwrite) s = .next (endAdmin s slot scInvalidField)) ∧
    (adminCmd s slot 0x80 = some c → c.started = false → normalMode s = true → c.cmd.nsid ≠ 0xFFFFFFFF → nsOf s c.cmd.nsid = some x →
      s.fw.erasing.contains c.cmd.nsid = false → (f = 0 ∧ pt = 0) ∨ (f = 1 ∧ (pt = 1 ∨ pt = 3) ∧ bit c.cmd.cdw10 4 = true) →
      fld c.cmd.cdw10 11 9 ≤ 2 → Completes (.formatNvm slot) s fun t =>
        c.cmd.nsid ∈ t.fw.erasing ∧ SMap.find t.fw.formats c.cmd.nsid = some (f, pt)) ∧
    (s.fw.erasing.contains ns = true → nsOf s ns = some x → x.nsid = ns →
      (∀ e ∈ s.host.slots, e.2.io = true → e.2.released = false → e.2.cmd.nsid ≠ ns) → Completes (.cryptoEraseDone ns) s fun t =>
        ns ∉ t.fw.erasing ∧ SMap.findD t.fw.nsKeys ns 0 = SMap.findD s.fw.nsKeys ns 0 + 1 ∧ Counted (Obj.nsKeyGen ns) s t ∧
        (s.fw.returning = true → s.fw.mfg = true → s.fw.destroyed = false → s.power.off = none → inSafe s = false → s.start.running = false →
          (∀ n ∈ s.fw.erasing, n = ns) → lifecycle t = 3 ∧ t.start.restartAsked = true)) ∧
    (scanLocked s = false → i ≠ .programMfg → exec (.tapInstruction i) s = .next (s.emit (.tap i))) ∧
    (scanLocked s = false → exec (.tapInstruction .programMfg) s = .next { s with fw := { s.fw with mfg := true } }) ∧
    (scanLocked s = true → exec (.tapInstruction .idcode) s = .next (s.emit (.tap .idcode)) ∧
      exec (.tapInstruction .extest) s = .next s ∧ exec (.tapInstruction .programMfg) s = .next s) ∧
    (s.media.grownPending.contains (u.val, entry) = true → Completes (.grownEntryCommit u entry) s fun t =>
      vget t.media.grown u [] = insertDefect entry (vget s.media.grown u []) ∧
      ((defectOf entry).kind ≠ 4 → t.media.grownPending = s.media.grownPending.erase (u.val, entry)) ∧
      (∀ e ∈ s.media.grownPending.erase (u.val, entry), e ∈ t.media.grownPending) ∧
      t.num (Obj.grownCount (u / 12) (u % 12)) = (vget t.media.grown u []).length) ∧
    (s.media.moving = some (h.val, u.val) → Completes (.holderMoveDone h u) s fun t =>
      vget t.media.holders h 255 = u ∧ t.media.holderGen = s.media.holderGen + 1 ∧
      vget t.fw.bundleCopies u [] = vget s.fw.bundleCopies (vget s.media.holders (1 - h) 255) [] ∧
      ∃ l, labelOf t u = some l ∧ l.holderGen = s.media.holderGen + 1 ∧ (bit l.areas 3 && bit l.areas 4 && bit l.areas 5 && bit l.areas 6) = true)

/-- R124 to R126 and R335: the SPDM responder's answers, on MCTP and through Security Send and Receive. -/
def Obligations.SpdmRequestsAreAnswered : Prop :=
  ∀ (s : State) (via : SpdmPort) (request nonce : List Byte) (slot offset len index cmdSlot hashType attributes slotId : Nat) (req : SpdmUnsupported)
    (c : CmdSlot),
    let chain := chainOf s slot
    let answers (i : Instr) (code : Nat) (P : List Byte → State → Prop) : Prop :=
      Completes i s fun t => ∃ msg, SpdmSent s t via msg ∧ byteAt msg 0 = 0x12 ∧ byteAt msg 1 = code ∧ P msg t
    (spdmServes s = true →
      Completes (.spdmGetVersion via) s (fun t => SpdmSent s t via [0x10, 0x04, 0, 0, 0, 1, 0x00, 0x12] ∧
        vget t.fw.spdmAlgs (spdmIx via) true = false ∧ vget t.fw.spdmChal (spdmIx via) [0] = []) ∧
      answers (.spdmGetCapabilities via request) 0x61 (fun msg t => msg.length = 20 ∧ fieldAt msg 8 4 = 0x16 ∧
        vget t.fw.spdmVca (spdmIx via) [] = vget s.fw.spdmVca (spdmIx via) [] ++ (request ++ msg)) ∧
      answers (.spdmNegotiateAlgorithms via request) 0x63 (fun msg t => vget t.fw.spdmAlgs (spdmIx via) false = true ∧
        vget t.fw.spdmVca (spdmIx via) [] = vget s.fw.spdmVca (spdmIx via) [] ++ (request ++ msg)) ∧
      answers (.spdmUnsupported via req) 0x7F (fun msg _ => msg = [0x12, 0x7F, if lifecycle s = lcScrapped then 0x05 else 0x07, 0])) ∧
    (spdmServes s = true → spdmReady s via = none →
      answers (.spdmGetDigests via) 0x01 (fun msg _ => byteAt msg 3 = chainMask s) ∧
      (slot < 2 → offset < chain.length → answers (.spdmGetCertificate via slot offset len) 0x02 fun msg _ =>
        byteAt msg 2 = slot ∧ msg.drop 8 = slice chain offset (min len 65535)) ∧
      (slot < 2 → chain ≠ [] → hashType ∈ [0, 1, 0xFF] → answers (.spdmChallenge via slot hashType nonce) 0x03 fun msg t =>
        byteAt msg 2 = slot ∧ slice msg 4 64 = (Config.sha3_512 chain).toList ∧ vget t.fw.spdmChal (spdmIx via) [0] = [] ∧
        (hashType = 0xFF → slice msg 100 64 = (Config.sha3_512 ([1, 2, 3, 4, 5, 6].flatMap (measurementBlock s))).toList) ∧
        (hashType = 0 → slice msg 100 2 = [0, 0])) ∧
      (slot < 2 → (chain = [] ∨ hashType % 256 ∉ [0, 1, 0xFF]) → answers (.spdmChallenge via slot hashType nonce) 0x7F fun msg _ => msg = [0x12, 0x7F, 1, 0]) ∧
      (1 ≤ index → index ≤ 6 → attributes.testBit 0 = false → answers (.spdmGetMeasurements via attributes index slotId nonce) 0x60 fun msg _ =>
        byteAt msg 4 = 1 ∧ slice msg 15 64 = measurement s index) ∧
      (1 ≤ index → index ≤ 6 → attributes.testBit 0 = true → slotId < 2 → chainOf s slotId ≠ [] →
        answers (.spdmGetMeasurements via attributes index slotId nonce) 0x60 fun msg t => byteAt msg 3 = slotId ∧
          byteAt msg 4 = 1 ∧ slice msg 15 64 = measurement s index ∧ vget t.fw.spdmMeas (spdmIx via) [0] = []) ∧
      (1 ≤ index → index ≤ 6 → attributes.testBit 0 = true → slotId < 2 → chainOf s slotId = [] →
        answers (.spdmGetMeasurements via attributes index slotId nonce) 0x7F fun msg _ => msg = [0x12, 0x7F, 1, 0])) ∧
    (spdmServes s = true → ∀ e, spdmReady s via = some e →
      answers (.spdmGetDigests via) 0x7F fun msg _ => msg = [0x12, 0x7F, BitVec.ofNat 8 e, 0]) ∧
    (adminCmd s cmdSlot 0x81 = some c → c.cmd.cdw10 / 2 ^ 24 % 256 = 0xE8 →
      EndsAdmin (.securitySend cmdSlot request) s cmdSlot scOk 0 0 fun t => t = spdmRequest s (.nvme c.port) request) ∧
    (adminCmd s cmdSlot 0x82 = some c → c.cmd.cdw10 / 2 ^ 24 % 256 = 0xE8 → EndsAdmin (.securityReceive cmdSlot) s cmdSlot scOk 0 0 fun t =>
      t.outs = .hostData c.port c.cmd.cid ((vget s.fw.spdmWaiting (spdmIx (.nvme c.port)) []).take c.cmd.cdw11) :: s.outs ∧
      vget t.fw.spdmWaiting (spdmIx (.nvme c.port)) [0] = [])

/-- R114, R129, R335, R336, R342 to R347 and R356: commands become available at the doorbell, are fetched one by one under the next admission number,
and stall on earlier entries they conflict with, an I/O queue's command for a namespace under erase stays where it is (R129), the queues take turns
and a fused command is refused; an event request waits in its controller's list; a command's end posts its completion and frees its slot; completions
wait for room, and for the end of an activation freeze (R114). -/
def Obligations.CommandsAreFetchedAndEnd : Prop :=
  ∀ (s : State) (p : Port) (qid tail head cid n slot sct sc dw0 dw1 : Nat) (cmd : SqEntry) (q : Sq) (cq : Cq) (c : CmdSlot) (x : Completion),
    let k := s.ctrl p
    let io := decide (qid ≠ 0)
    (SMap.find k.sqs qid = some q → tail < q.size → Completes (.sqDoorbell p qid tail) s fun t =>
      SMap.find (t.ctrl p).sqs qid = some { q with tail := tail } ∧ t.ctrl (otherPort p) = s.ctrl (otherPort p) ∧ t.host.slots = s.host.slots ∧
      t.outs = s.outs) ∧
    (SMap.find k.cqs qid = some cq → head < cq.size → NoShutdown s →
      (cq.waiting = [] → Completes (.cqHeadDoorbell p qid head) s fun t =>
        SMap.find (t.ctrl p).cqs qid = some { cq with head := head } ∧ t.outs = s.outs) ∧
      (cq.waiting = [x] → s.fw.frozen = false → (cq.tail + 1) % cq.size ≠ head → Completes (.cqHeadDoorbell p qid head) s fun t =>
        Posted s t p qid { cq with head := head, waiting := [] } x)) ∧
    (SMap.find k.sqs qid = some q → fetches s p = true → q.head ≠ q.tail → nextQueue s p = some qid → slotFree s p io = true → io = true →
      s.fw.erasing.contains cmd.nsid = true → Completes (.commandFetch p qid cmd) s fun t =>
        t.ctrl p = { k with turn := qid } ∧ t.ctrl (otherPort p) = s.ctrl (otherPort p) ∧ t.host.slots = s.host.slots ∧ t.outs = s.outs) ∧
    (SMap.find k.sqs qid = some q → fetches s p = true → q.head ≠ q.tail → slotFree s p io = false →
      Completes (.commandFetch p qid cmd) s fun t => Counted Obj.slotWaits s t ∧ t.host = s.host) ∧
    (SMap.find k.sqs qid = some q → fetches s p = true → q.head ≠ q.tail → nextQueue s p = some qid → (io = true → s.fw.erasing.contains cmd.nsid = false) →
      (io = false → cmd.opcode ≠ 0x0C) → slotFree s p io = true → s.num Obj.powerState ≠ 4 → s.host.psEntry ≠ some 4 → uncheckedSlot s = none →
      reservationOf s cmd.nsid = Reservation.blank → Completes (.commandFetch p qid cmd) s fun t =>
        SMap.find (t.ctrl p).sqs qid = some { q with head := (q.head + 1) % q.size } ∧ (t.ctrl p).turn = qid ∧ Counted Obj.admissionSeq s t ∧
        (io = true → t.host.lastPort = p) ∧
        (cmd.fuse % 4 ≠ 0 → LockQuiet s → SMap.wf s.host.slots = true → CqRoom s p q.cq cq → Posted s t p q.cq cq ⟨cmd.cid, 0, 2, 0, 0, none⟩) ∧
        (cmd.fuse % 4 = 0 → ∃ x, t.slot (slotNumber s p io) = some x ∧ x.cmd = cmd ∧ x.port = p ∧ x.cq = q.cq ∧ x.io = io ∧
          x.admission = s.num Obj.admissionSeq + 1 ∧ x.released = false ∧ x.stalled = !(lockWaits s x).isEmpty ∧
          (lockStalls s x ≠ [] → Counted Obj.lockStalls s t) ∧ (lockStalls s x = [] → t.num Obj.lockStalls = s.num Obj.lockStalls) ∧
          (io = true → (x.kind, x.lba, x.count) = spanOf cmd))) ∧
    (SMap.find k.sqs 0 = some q → fetches s p = true → q.head ≠ q.tail → nextQueue s p = some 0 → slotFree s p false = true →
      (k.aers.length < 8 → k.notices = [] → Completes (.asyncEventRequest p cid) s fun t =>
        (t.ctrl p).aers = k.aers ++ [cid] ∧ t.host.slots = s.host.slots ∧ t.outs = s.outs ∧ Counted Obj.admissionSeq s t) ∧
      (8 ≤ k.aers.length → CqRoom s p 0 cq → Completes (.asyncEventRequest p cid) s fun t =>
        (t.ctrl p).aers = k.aers ∧ Posted s t p 0 cq ⟨cid, 1, 5, 0, 0, none⟩)) ∧
    (s.slot slot = some c → c.stalled = false → (if c.io then ioOpcodes else adminOpcodes).contains c.cmd.opcode = false →
      exec (.invalidOpcode slot) s = .next (endIo s slot scInvalidOpcode)) ∧
    (adminCmd s slot 0x08 = some c →
      (s.host.slots.find? (fun e => e.2.io && !e.2.released && decide (e.2.port = c.port) && decide (e.2.qid = c.cmd.cdw10 % 65536) &&
          decide (e.2.cmd.cid = c.cmd.cdw10 / 65536 % 65536))).map (·.1) = some n →
        exec (.nvmeAbort slot) s = .next (endAdmin (endIo s n scAbortRequested) slot scOk)) ∧
    (s.slot n = some c → c.released = false → LockQuiet s → SMap.wf s.host.slots = true → CqRoom s c.port c.cq cq →
      let t := complete s n sct sc dw0 dw1
      Posted s t c.port c.cq cq ⟨c.cmd.cid, sct, sc, dw0, dw1, none⟩ ∧ t.slot n = none ∧ Counted (Obj.commands (portNo c.port)) s t) ∧
    (s.slot n = some c → c.released = false → LockQuiet s → SMap.wf s.host.slots = true → s.fw.frozen = true →
      SMap.find (s.ctrl c.port).cqs c.cq = some cq →
      let t := complete s n sct sc dw0 dw1
      t.outs = s.outs ∧ SMap.find (t.ctrl c.port).cqs c.cq = some { cq with waiting := cq.waiting ++ [⟨c.cmd.cid, sct, sc, dw0, dw1, some n⟩] })

/-- R332 to R337, R340, R342, R350, R365 and R411: the admin commands that keep queues, report what the device holds, and set or get features. -/
def Obligations.AdminCommandsServeQueuesAndFeatures : Prop :=
  ∀ (s : State) (slot : Nat) (c : CmdSlot) (ns : Namespace),
    let p := c.port
    let k := s.ctrl p
    let d10 := c.cmd.cdw10
    let d11 := c.cmd.cdw11
    let qid := d10 % 65536
    let size := d10 / 65536 % 65536 + 1
    let cqid := d11 / 65536 % 65536
    let len := 4 * (d10 / 65536 % 65536 + d11 % 65536 * 65536 + 1)
    let off := c.cmd.cdw12 + c.cmd.cdw13 * 2 ^ 32
    let sets (i : Instr) (P : State → Prop) : Prop := EndsAdmin i s slot scOk 0 0 P
    (adminCmd s slot 0x05 = some c → qid ≠ 0 → qid ≤ cqsGranted s p → SMap.find k.cqs qid = none → 2 ≤ size → size ≤ 4096 → bit d11 0 = true →
      (cqid < 65 → sets (.createIoCq slot) fun t =>
        SMap.find (t.ctrl p).cqs qid = some ⟨size, 0, 0, [], cqid, bit d11 1, 0, 0⟩ ∧ t.objs = s.objs) ∧
      (65 ≤ cqid → exec (.createIoCq slot) s = .next (endAdmin s slot scInvalidVector))) ∧
    (adminCmd s slot 0x05 = some c → cqsGranted s p < qid → exec (.createIoCq slot) s = .next (endAdmin s slot scQueueIdInvalid)) ∧
    (adminCmd s slot 0x01 = some c → sqsGranted s p < qid → exec (.createIoSq slot) s = .next (endAdmin s slot scQueueIdInvalid)) ∧
    (adminCmd s slot 0x01 = some c → qid ≠ 0 → qid ≤ sqsGranted s p → SMap.find k.sqs qid = none → cqid ≠ 0 →
      (SMap.find k.cqs cqid).isSome = true → 2 ≤ size → size ≤ 4096 → bit d11 0 = true → sets (.createIoSq slot) fun t =>
        SMap.find (t.ctrl p).sqs qid = some ⟨size, cqid, 0, 0⟩ ∧
        t.num (Obj.ioQueues (portNo p)) = ((t.ctrl p).sqs.filter fun e => e.1 ≠ 0).length) ∧
    (adminCmd s slot 0x04 = some c → qid ≠ 0 → (SMap.find k.cqs qid).isSome = true → (∀ e ∈ k.sqs, e.2.cq ≠ qid) →
      sets (.deleteIoCq slot) fun t => (t.ctrl p).cqs = SMap.erase k.cqs qid) ∧
    (adminCmd s slot 0x00 = some c → qid ≠ 0 → (SMap.find k.sqs qid).isSome = true →
      (∀ e ∈ s.host.slots, e.2.io = true → e.2.port = p → e.2.qid ≠ qid) → sets (.deleteIoSq slot) fun t =>
        (t.ctrl p).sqs = SMap.erase k.sqs qid ∧ t.num (Obj.ioQueues (portNo p)) = ((t.ctrl p).sqs.filter fun e => e.1 ≠ 0).length) ∧
    (adminCmd s slot 0x02 = some c → off % 4 = 0 →
      (d10 % 256 = 0xD0 → exec (.getLogPage slot) s = .next (endData s slot c (slice (ledgerImage s) off len))) ∧
      (d10 % 256 = 0xD1 → normalMode s = true → exec (.getLogPage slot) s = .next (endData s slot c (slice (healthLog s) off len))) ∧
      (d10 % 256 = 0xD2 → normalMode s = true → c.cmd.nsid = 0xFFFFFFFF →
        exec (.getLogPage slot) s = .next (endData s slot c (slice (lostLog s s.layout.lost) off len))) ∧
      (d10 % 256 = 0x03 → exec (.getLogPage slot) s = .next (endData s slot c (slice (firmwareLog s) off len))) ∧
      (d10 % 256 = 0x81 → exec (.getLogPage slot) s = .next (endData s slot c (slice (sanitizeLog s) off len))) ∧
      (d10 % 256 = 0x04 → EndsAdmin (.getLogPage slot) s slot scOk 0 0 fun t =>
        t.outs = .hostData p c.cmd.cid (slice (changedLog k) off len) :: s.outs ∧ (bit d10 15 = false → (t.ctrl p).changedNs = []) ∧
        (bit d10 15 = true → (t.ctrl p).changedNs = k.changedNs)) ∧
      (d10 % 256 = 0x80 → EndsAdmin (.getLogPage slot) s slot scOk 0 0 fun t =>
        t.outs = .hostData p c.cmd.cid (slice (reservationLog k) off len) :: s.outs ∧ (t.ctrl p).resNotes = k.resNotes.drop 1) ∧
      (d10 % 256 = 0xD3 → exec (.getLogPage slot) s = .next (endAdmin s slot scInvalidLogPage))) ∧
    (adminCmd s slot 0x06 = some c →
      (d10 % 256 = 1 → exec (.identify slot) s = .next (endData s slot c (identifyController s p))) ∧
      (d10 % 256 = 0 → nsOf s c.cmd.nsid = some ns → attachedTo ns p = true → exec (.identify slot) s = .next (endData s slot c (identifyNamespace s ns))) ∧
      (d10 % 256 = 0 → nsOf s c.cmd.nsid = none → exec (.identify slot) s = .next (endAdmin s slot scInvalidNamespace))) ∧
    (adminCmd s slot 0x09 = some c → fid c = 0x0C ∨ fid c = 0x0D → exec (.setFeatures slot) s = .next (endAdmin s slot scInvalidField)) ∧
    (adminCmd s slot 0x0A = some c → fid c = 0x0C ∨ fid c = 0x0D → exec (.getFeatures slot) s = .next (endAdmin s slot scInvalidField)) ∧
    (adminCmd s slot 0x09 = some c → bit d10 31 = true → fid c ∈ featuresServed → exec (.setFeatures slot) s = .next (endAdmin s slot scNotSaveable)) ∧
    (adminCmd s slot 0x09 = some c → bit d10 31 = false →
      (fid c = 0x07 → d11 % 65536 ≠ 65535 → d11 / 65536 % 65536 ≠ 65535 →
        let g := min (d11 % 65536) 63 + min (d11 / 65536 % 65536) 63 * 65536
        EndsAdmin (.setFeatures slot) s slot scOk g 0 fun t => SMap.find (t.ctrl p).features 7 = some g) ∧
      (fid c = 0x0B → sets (.setFeatures slot) fun t => SMap.find (t.ctrl p).features 0x0B = some (d11 % 2 ^ 32)) ∧
      (fid c = 0x08 → sets (.setFeatures slot) fun t => SMap.find (t.ctrl p).features 0x08 = some (d11 % 2 ^ 32)) ∧
      (fid c = 0x81 → sets (.setFeatures slot) fun t => (t.ctrl p).hostId = leNat (c.cmd.data.take 16)) ∧
      (fid c = 0x02 → d11 % 32 ≤ 4 → sets (.setFeaturesPowerManagement slot) fun t =>
        t.num Obj.powerState = max (d11 % 32) (s.num Obj.powerCap) ∧ t.host.psEntry = some (max (d11 % 32) (s.num Obj.powerCap))) ∧
      (fid c = 0x05 → sets (.setFeaturesErrorRecovery slot) fun t => errorRecovery t p c.cmd.nsid = d11 % 2 ^ 17) ∧
      (fid c = 0x06 → s.host.strict = true → sets (.setFeaturesVwc slot) fun t =>
        SMap.find (t.ctrl p).features 6 = some (d11 % 2) ∧ wce t p = decide (d11 % 2 = 1)) ∧
      (fid c = 0x06 → s.host.strict = false → exec (.setFeaturesVwc slot) s = .next (endAdmin s slot scInvalidField))) ∧
    (adminCmd s slot 0x0A = some c → fld d10 10 8 = 0 → fid c = 0x02 →
      exec (.getFeatures slot) s = .next (endAdmin s slot scOk (s.num Obj.powerState))) ∧
    (adminCmd s slot 0x0A = some c → fld d10 10 8 = 0 → fid c = 0x0B →
      exec (.getFeatures slot) s = .next (endAdmin s slot scOk (SMap.findD k.features 0x0B 0)))

/-- R335, R341, R354 to R357 and R371: namespaces are created at the lowest free runs, deleted with all they hold, attached and asked for lost ranges;
reservations are registered, reported, acquired, preempted and released, and persisted where they must be. While a descriptor page's write to the NOR
mirror stands out, creation and deletion wait (log entry 44). -/
def Obligations.NamespacesAndReservationsAreKept : Prop :=
  ∀ (s : State) (slot nsze fmt i row stripe dba ms prkey crkey nrkey ns j : Nat) (p : Port) (c : CmdSlot) (m : StitchMap) (x : Namespace)
    (new : Reservation),
    let nsid := c.cmd.nsid
    let d10 := c.cmd.cdw10
    let old := reservationOf s nsid
    let rtype := d10 / 256 % 256
    let lo := d10 + c.cmd.cdw11 * 2 ^ 32
    let hi := if c.cmd.cdw13 % 65536 = 0 then x.nsze else lo + c.cmd.cdw13 % 65536
    let lost := s.layout.lost.filter fun e => decide (e.nsid = x.nsid) && decide (e.lba < hi) && decide (lo < e.lba + e.count)
    let takes (op : Nat) : Prop := resCmd s slot op = some c ∧ turnAway s c = none ∧ hostOf s c ≠ 0 ∧ old.ptpl = false
    (descriptorHeld s = true → exec (.namespaceCreate slot nsze fmt) s = .next s ∧ exec (.namespaceDelete slot) s = .next s) ∧
    (adminCmd s slot 0x0D = some c → d10 % 16 = 0 → descriptorHeld s = false → normalMode s = true → fmt ≤ 1 → nsze ≠ 0 → newMap s = some m →
      (List.range 16).find? (fun i => (nsOf s (i + 1)).isNone) = some i →
      lowestRun (rowRuns s) (periodsFor m nsze * m.periodRows) s.layout.rowsTotal = some row →
      lowestRun (stripeRuns s) (periodsFor m nsze * m.periodStripes) (2 ^ 26) = some stripe →
      lowestRun (dbaRuns s) (periodsFor m nsze * m.periodStripes * m.k * 64) (2 ^ 36) = some dba → slotForMap s m = some ms →
      EndsAdmin (.namespaceCreate slot nsze fmt) s slot scOk (i + 1) 0 fun t =>
        nsOf t (i + 1) = some ⟨i + 1, ms, dba, periodsFor m nsze * m.periodStripes * m.k * 64, stripe, row, periodsFor m nsze, nsze, fmt, fmt, false, false⟩ ∧
        SMap.findD t.fw.nsKeys (i + 1) 0 = SMap.findD s.fw.nsKeys (i + 1) 0 + 1 ∧ t.num (Obj.nsLayout (i + 1)) = m.layoutId ∧
        t.layout.seq = s.layout.seq + 1 ∧ t.layout.allocated = s.layout.allocated) ∧
    (adminCmd s slot 0x0D = some c → d10 % 16 = 1 → descriptorHeld s = false → normalMode s = true → nsid ≠ 0xFFFFFFFF → nsOf s nsid = some x →
      EndsAdmin (.namespaceDelete slot) s slot scOk 0 0 fun t =>
        t.host.namespaces = SMap.erase s.host.namespaces nsid ∧ t.host.reservations = SMap.erase s.host.reservations nsid) ∧
    (adminCmd s slot 0x15 = some c → nsOf s nsid = some x →
      (d10 % 16 = 0 → attachedTo x p = false → EndsAdmin (.namespaceAttachment slot [p]) s slot scOk 0 0 fun t =>
        nsOf t nsid = some (setAttached x true p) ∧ nsid ∈ (t.ctrl p).changedNs) ∧
      (d10 % 16 = 1 → attachedTo x p = true → EndsAdmin (.namespaceAttachment slot [p]) s slot scOk 0 0 fun t =>
        nsOf t nsid = some (setAttached x false p) ∧ nsid ∈ (t.ctrl p).changedNs)) ∧
    (adminCmd s slot 0x86 = some c → nsOf s nsid = some x → c.cmd.cdw13 / 2 ^ 24 % 256 = 0x10 ∨ c.cmd.cdw13 / 2 ^ 24 % 256 = 0x11 → lo < x.nsze →
      exec (.getLbaStatus slot) s = .next (endData s slot c
        (leBytes 4 lost.length ++ List.replicate 4 0 ++ lost.flatMap fun e =>
          leBytes 8 (max lo e.lba) ++ leBytes 4 (min hi (e.lba + e.count) - max lo e.lba) ++ List.replicate 4 0))) ∧
    (takes 0x0D → d10 / 2 ^ 30 % 4 = 0 →
      (d10 % 8 = 0 → old.find (hostOf s c) = none → old.add (hostOf s c) nrkey = some new →
        EndsIo (.reservationRegister slot crkey nrkey) s slot scOk fun t => reservationOf t nsid = new) ∧
      (d10 % 8 = 1 → old.find (hostOf s c) = some j → old.keyOf j = crkey →
        EndsIo (.reservationRegister slot crkey nrkey) s slot scOk fun t =>
          reservationOf t nsid = { old.drop j with prgen := (old.prgen + 1) % 2 ^ 32 }) ∧
      (d10 % 8 = 0 → old.find (hostOf s c) = some j → old.keyOf j ≠ nrkey →
        exec (.reservationRegister slot crkey nrkey) s = .next (endIo s slot scReservationConflict))) ∧
    (takes 0x0E → exec (.reservationReport slot) s = .next (endIo (s.emit (.hostData c.port c.cmd.cid (reservationBytes old))) slot scOk)) ∧
    (takes 0x11 → old.caller (hostOf s c) crkey (bit d10 3) = some j → 1 ≤ rtype → rtype ≤ 6 →
      (d10 % 8 = 0 → old.rtype = 0 → Completes (.reservationAcquire slot crkey prkey) s fun t =>
        reservationOf t nsid = { old with rtype := rtype, holder := holderFor rtype j }) ∧
      (d10 % 8 = 1 → old.preempt j prkey rtype = .inr new → Completes (.reservationAcquire slot crkey prkey) s fun t =>
        reservationOf t nsid = new) ∧
      (d10 % 8 = 2 → old.preempt j prkey rtype = .inr new → Completes (.reservationPreemptAndAbort slot crkey prkey) s fun t =>
        reservationOf t nsid = new)) ∧
    (takes 0x15 → old.caller (hostOf s c) crkey (bit d10 3) = some j →
      (d10 % 8 = 0 → old.rtype ≠ 0 → old.holds j = true → old.rtype = rtype → Completes (.reservationRelease slot crkey) s fun t =>
        reservationOf t nsid = { old with rtype := 0, holder := 255 }) ∧
      (d10 % 8 = 1 → Completes (.reservationRelease slot crkey) s fun t =>
        reservationOf t nsid = { old with rtype := 0, holder := 255, regs := [], prgen := (old.prgen + 1) % 2 ^ 32 })) ∧
    (s.host.resWaiting = [(ns, slot)] → Completes (.reservationStateWritten ns) s fun t =>
      t.host.resWaiting = [] ∧ ∃ i : Fin 2, (vget t.host.resCopies i (0, [])).2 = s.host.reservations ∧
        (vget t.host.resCopies i (0, [])).1 = (vget s.host.resCopies (1 - i) (0, [])).1 + 1)

/-- R337 to R340, R345 to R353, R380 and R409: blocks of a write are admitted to the protected cache, and the write ends once all are; a read
transfers the newest data of every block; deallocation frees whole stripes; a Flush ends when nothing it covers is missing from the medium. A command
that is turned away ends with its status. -/
def Obligations.IoCommandsMoveBlocks : Prop :=
  ∀ (s : State) (slot k lba : Nat) (c : CmdSlot) (ns : Namespace) (q : Cq) (b : HostBlock) (media : List MediaBlock) (data : List Byte) (st : Nat × Nat),
    let dba := ns.firstDba + (c.lba + c.cached)
    let admitted (t : State) (payload : List Byte) : Prop :=
      SMap.find t.mem.cache k = some ⟨1, ns.nsid, dba, c.admission, payload, none⟩ ∧ t.slot slot = some { c with cached := c.cached + 1 } ∧
      t.layout.halfDone = s.layout.halfDone.filter (·.1 ≠ dba)
    let reads (useCache : Bool) : Prop :=
      (dulbe s c = true → ∀ i, i < c.count → deallocated s ns (c.lba + i) = false) ∧
      (touchesMedium s ns c useCache = true → mediaGate s = none) ∧
      readBlocks s ns c useCache media (List.range c.count) [] = (data, none)
    let done (t : State) : Prop := t.slot slot = some { c with started := true }
    (turnAway s c = some st →
      (ioCmd s slot opWrite = some c → exec (.nvmeWrite slot [b]) s = .next (endIo s slot st)) ∧
      (ioCmd s slot opRead = some c → c.started = false → exec (.nvmeRead slot media) s = .next (endIo s slot st)) ∧
      (ioCmd s slot opFlush = some c → c.cmd.nsid ≠ 0xFFFFFFFF → exec (.nvmeFlush slot) s = .next (endIo s slot st))) ∧
    (IoRuns s slot opWrite c ns → ns.lbaFormat = 0 → c.cached < c.count → slotFor s dba = some k → Completes (.nvmeWrite slot [b]) s fun t =>
      admitted t (mkPayload b.cipher [] (scrcSeed (dbaPrefix dba)) 0 0)) ∧
    (IoRuns s slot opWriteZeroes c ns → ns.lbaFormat = 0 → c.count = c.cached + 1 → bit c.cmd.cdw12 25 = false → slotFor s dba = some k →
      Completes (.writeZeroes slot) s fun t =>
        admitted t (mkPayload (zeroCipher s ns.nsid (c.lba + c.cached)) [] (scrcSeed (dbaPrefix dba)) 0 0)) ∧
    (s.host.slots = [(slot, c)] → c.io = true → c.kind = .write → c.stalled = false → c.released = false → c.waits = [] → c.checked = true →
      c.cmd.opcode ≠ opFlush → c.cached = c.count → 0 < c.count → CqRoom s c.port c.cq q → NoShutdown s → Completes (.writeCached slot) s fun t =>
        (needsMedium s c = false → Posted s t c.port c.cq q ⟨c.cmd.cid, 0, 0, 0, 0, none⟩ ∧ t.host.slots = []) ∧
        (needsMedium s c = true → dirtyBlocks s c ≠ [] →
          (∃ x, t.slot slot = some x ∧ x.media = dirtyBlocks s c ∧ x.released = true) ∧ (mediaGate s = none → t.outs = s.outs) ∧
          (s.host.psEntry = none → s.num Obj.powerState = 3 → s.host.wake = false → t.host.wake = true))) ∧
    (IoRuns s slot opRead c ns → c.started = false → bit c.cmd.cdw12 30 = false → reads true → Completes (.nvmeRead slot media) s fun t =>
      t.outs = .hostData c.port c.cmd.cid data :: s.outs ∧ done t) ∧
    (IoRuns s slot opRead c ns → c.started = false → bit c.cmd.cdw12 30 = false → dulbe s c = false → c.count = 1 →
      touchesLost s ns.nsid c.lba 1 = true → exec (.nvmeRead slot media) s = .next (endIo s slot scUnrecoveredRead)) ∧
    (ioCmd s slot opRead = some c → c.started = true → exec (.readTransferred slot) s = .next (endIo s slot scOk)) ∧
    (IoRuns s slot opVerify c ns → dirtyBlocks s c = [] → reads false → exec (.nvmeVerify slot media) s = .next (endIo s slot scOk)) ∧
    (IoRuns s slot opFlush c ns → c.cmd.nsid ≠ 0xFFFFFFFF →
      (c.media = [] → c.waits = [] → exec (.nvmeFlush slot) s = .next (settleShutdowns
        ((completeWith (putSlot s slot { c with started := true }) slot scOk).bump Obj.flushes))) ∧
      (c.media ≠ [] ∨ c.waits ≠ [] → exec (.nvmeFlush slot) s = .next (settleShutdowns
        (putSlot (wakeFor s c.media) slot { c with started := true })))) ∧
    (IoRuns s slot opDsm c ns →
      (bit c.cmd.cdw11 2 = false → exec (.datasetManagement slot) s = .next (endIo s slot scOk)) ∧
      (bit c.cmd.cdw11 2 = true → EndsIo (.datasetManagement slot) s slot scOk fun t =>
        ∀ g ∈ wholeStripes s ns c.cmd.ranges, g ∉ t.layout.allocated)) ∧
    (ioCmd s slot opRead = some c → errorRecovery s c.port c.cmd.nsid % 65536 ≠ 0 → c.lba ≤ lba → lba < c.lba + c.count → c.started = false →
      exec (.tlerExpire slot lba) s = .next (endIo s slot scUnrecoveredRead))

/-- R93, R116, R333, R358 to R361, R364 to R366 and R477: what resets, links and shutdowns leave of a controller, and how the device goes down into a
power state. -/
def Obligations.ResetsShutdownsAndPowerStates : Prop :=
  ∀ (s : State) (p : Port) (speed width n : Nat),
    let k := s.ctrl p
    let u := portNo p
    let acts := s.fw.frozen = false ∧ s.fw.resetActivates = false
    let reset (t : State) : Prop := ControllerReset t p ∧ Counted (Obj.resets u) s t
    let down (t : State) : Prop := (t.ctrl p).linkUp = false ∧ t.num (Obj.linkSpeed u) = 0 ∧ t.num (Obj.linkWidth u) = 0
    (k.en = true → acts → Completes (.ccEnClear p) s reset) ∧
    (k.en = true → s.fw.frozen = true → Completes (.ccEnClear p) s fun t => p ∈ t.fw.heldResets ∧ (t.ctrl p).en = false ∧
      (t.ctrl p).rdy = k.rdy ∧ (t.ctrl p).sqs = k.sqs) ∧
    (k.en = false → k.rdy = false → s.start.mode ≠ .halted → Completes (.ccEnSet p) s fun t =>
      (t.ctrl p).en = true ∧
      (s.start.mode = .normal → s.num (Obj.portState u) = 0 → s.start.restartAsked = false → s.power.quiesced = false →
        s.coll.fenced.contains (98 + u) = false → (t.ctrl p).rdy = true ∧ (SMap.find (t.ctrl p).sqs 0).isSome = true ∧ (SMap.find (t.ctrl p).cqs 0).isSome = true) ∧
      (s.start.mode = .romMaintenance → (t.ctrl p).cfs = true ∧ (t.ctrl p).rdy = false)) ∧
    (acts → Completes (.functionLevelReset p) s reset ∧
      Completes (.pcieLinkDown p) s (fun t => reset t ∧ down t) ∧
      Completes (.perstAssert p) s (fun t => reset t ∧ down t ∧ (t.ctrl p).perst = true)) ∧
    (acts → inSafe s = false → Completes .nvmSubsystemReset s fun t => ControllerReset t p ∧ down t) ∧
    (inSafe s = true → s.start.mode ≠ .starting → s.start.mode ≠ .halted → s.power.off = none → Completes .nvmSubsystemReset s fun t => t.power.off = some .safeRestart) ∧
    (k.shutdown = 0 → k.en = true → (s.ctrl (otherPort p)).shutdown = 0 → Completes (.shutdownNormal p) s fun t =>
      (t.ctrl p).shutdown = 1 ∧ (t.ctrl p).shst = if (s.host.slots.any fun e => decide (e.2.port = p)) || !(dirtySlots s).isEmpty then 1 else 2) ∧
    (k.en = true → Completes (.shutdownAbrupt p) s fun t => (t.ctrl p).shutdown = 2 ∧ (t.ctrl p).shst = 2) ∧
    Completes (.perstDeassert p) s (fun t => (t.ctrl p).perst = false ∧ t.ctrl (otherPort p) = s.ctrl (otherPort p) ∧ t.objs = s.objs ∧ t.start = s.start) ∧
    (s.power.powerGood = true → s.power.quiesced = false → k.perst = false → s.start.mode ≠ .halted → 1 ≤ speed → speed ≤ 5 → width = 1 ∨ width = 2 →
      Completes (.linkTrainingDone p speed width) s fun t =>
        (t.ctrl p).linkUp = true ∧ t.num (Obj.linkSpeed u) = speed ∧ t.num (Obj.linkWidth u) = width) ∧
    (s.num Obj.powerState = 3 → s.host.wake = true → s.host.psEntry = none → Completes .ps3IdleTimeout s fun t =>
      t.host.psEntry = some 3 ∧ t.host.psPhase = 0 ∧ t.host.wake = false ∧ t.num Obj.powerState = 3) ∧
    (s.host.psEntry = some n → n < 3 → Completes .powerStateSafePoint s fun t => t.host.psEntry = none ∧ t.objs = s.objs) ∧
    (s.host.psEntry = some 3 → s.host.psPhase = 0 → allParked s = true → s.host.psWaiting = false → s.start.maintenance = false → Completes .powerStateSafePoint s fun t =>
      t.host.psPhase = 1 ∧ t.num Obj.targetRpm = 5400) ∧
    (s.host.psEntry = some 4 → s.host.psPhase = 1 → allParked s = true → s.host.psWaiting = false → Completes .powerStateSafePoint s fun t =>
      t.host.psPhase = 2 ∧ t.num Obj.targetRpm = 0)

/-- R146, R348, R381 to R383, R386, R387 and R389 to R391: an update of a stripe is journalled under the next sequence and generation, waits while the
journal is full, and retires when its sectors are written; the mirror point clears idle groups; a page that fails on both holders waits, and the area
that holds it moves to free tracks; replay goes entry by entry, resync group by group. While a collector has fenced the P/Q engine no parity is
computed, and a change that an unwritten mirror page would record waits (log entry 44). -/
def Obligations.StripeUpdatesAreJournalledAndRetired : Prop :=
  ∀ (s : State) (g group page : Nat) (reads : List OffsetReads) (all : List (Nat × OffsetReads)) (r : Run2) (e : JournalEntry)
    (rest : List JournalEntry) (groups : List Nat),
    let m := r.map s
    let l := s.layout
    let fresh := l.allocated.contains g = false
    let opens := runOf s g = some r ∧ updateBlocks s r m g ≠ [] ∧ stripeFree s g = true ∧
      ((l.reshape.map (·.nsid)) = some r.nsid → l.reshapeHold = false) ∧ (m.m ≠ 0 → pqServes s = true) ∧ (fresh → pageHeld s (allocPage g) = false)
    let retired (t : State) : Prop := s.host.slots = [] → l.reshape = none → ∀ k c, SMap.find s.mem.cache k = some c →
      SMap.find t.mem.cache k = some (if c.state = 1 ∧ (∃ d ∈ e.dbas, d.1 = c.dba ∧ c.admission ≤ d.2) then { c with state := 2 } else c)
    (opens → (m.m = 0 ∨ journalled l < journalSize) → 0 < m.k → (fresh ∨ ∀ o < 64, (readOf reads o).isSome = true) → lostHeld s = false →
      remapHeld s = false →
      Completes (.destageUpdate g reads) s fun t =>
        ∃ x, t.layout.journal = l.journal ++ [x] ∧ x.seq = l.journalSeq + 1 ∧ t.layout.journalSeq = x.seq ∧ x.stripe = g ∧ x.nsid = r.nsid ∧
          x.mapSlot = r.mapSlot ∧ x.gen = (s.num Obj.stripeGen + 1) % 2 ^ 24 ∧ t.num Obj.stripeGen = x.gen ∧ x.valid = decide (m.m ≠ 0) ∧
          (fresh → x.method = 3) ∧ t.layout.allocated.contains g = true ∧ t.layout.dirtyGroups.contains (g / 64) = true) ∧
    (opens → m.m ≠ 0 → journalSize ≤ journalled l → exec (.destageUpdate g reads) s = .next (s.bump Obj.journalWaits)) ∧
    (runOf s g = some r → m.m ≠ 0 → pqServes s = false → exec (.destageUpdate g reads) s = .next s) ∧
    (openUpdate s g = some e → runOf s g = some r → Completes (.stripeUpdateRetire g) s fun t =>
      (∀ x, x ∈ t.layout.journal ↔ x ∈ l.journal ∧ x.seq ≠ e.seq) ∧ retired t) ∧
    Completes .wiMirrorPoint s (fun t =>
      (∀ w, w ∈ t.layout.dirtyGroups ↔ w ∈ l.dirtyGroups ∧
        (w ∈ l.touchedGroups ∨ w ∈ l.resyncQueue ∨ ∃ x ∈ l.journal ++ l.replayQueue, x.stripe / 64 = w)) ∧
      t.layout.mirroredGroups = t.layout.dirtyGroups ∧ t.num Obj.wiDirtyGroups = t.layout.dirtyGroups.length ∧
      t.num Obj.wiLastTick = s.num Obj.tick) ∧
    Completes (.mirrorRetry page true) s (fun t => page ∉ t.layout.mirrorWaiting ∧ t.raised = s.raised) ∧
    Completes (.mirrorRetry page false) s (fun t => page ∈ t.layout.mirrorWaiting ∧ RaisedSince s t 385 0 page ∧
      ∀ u ∈ holderSurfaces s, RaisedSince s t (448 + 64 * (u / 12) + 20 + u % 12) u page ∧ ∀ lb a w v n, u < 48 → labelOf s u = some lb →
        SMap.find lb.locs 4 = some (a, w, v) → freeTracks lb w = some n → ∃ x, labelOf t u = some x ∧ SMap.find x.locs 4 = some (n, w, v)) ∧
    (l.replayQueue = e :: rest → normalMode s = true → Completes (.journalReplay e.seq) s fun t =>
      t.layout.replayQueue = rest ∧ t.num Obj.replayPending = rest.length ∧ e.stripe ∉ t.layout.pinned ∧ (runOf s e.stripe = some r → retired t)) ∧
    (l.resyncQueue = group :: groups → normalMode s = true → resyncReady s group all = true → pqServes s = true → Completes (.resyncGroup group all) s fun t =>
      t.layout.resyncQueue = groups ∧ t.num Obj.resyncPending = groups.length ∧
      ∀ w, w ∈ t.layout.dirtyGroups ↔ w ∈ l.dirtyGroups ∧ w ≠ group)

/-- R143, R144, R208 to R212, R395, R397, R400, R405 and R412 to R414: a retired surface is recorded, taken out of use and rebuilt elsewhere; rebuild
fills the lost members of a stripe; patrol visits the stripes in turn; a defect found on a rewrite is entered, once as a FREEZE after which the sector
is read back again; a sector climbs the recovery ladder, read by read and step by step (log entry 67), with the settings of each reread and, at its
last step, from the other sectors of its stripe; its status word says how the climb ended. -/
def Obligations.SurfacesAreRetiredRebuiltAndPatrolled : Prop :=
  ∀ (s : State) (who : Requester) (u : Fin 48) (g track psector off len : Nat) (reads : List OffsetReads) (r : Run2) (z : Zone) (n : Nat)
    (both : Bool) (top status : Nat) (o : OffsetReads),
    let m := r.map s
    let l := s.layout
    let x := substOf s m
    let fills := fillList s r m x g
    let read := ∀ o < 64, (readOf reads o).isSome = true
    let head := 448 + 64 * (u.val / 12) + 20 + u.val % 12
    let full := grownFull ≤ (grownMade s u).length
    let defect := zoneAt (zonesOf s.fw.bundle u) track = some (z, n) ∧ s.num (Obj.surfaceState u) = 1
    let asked := { s.media with offered := s.media.offered.erase (u.val, track, psector) }
    let ta := 1 ≤ len ∧ len ≤ 8192 ∧ frozenAt s u track (physWedge z u track psector) = false
    let cl := (s.dec.climbs.find? fun c => decide (c.key = climbKey u track psector)).getD (startClimb s u track psector top status)
    let failed := { cl with l5Failed := cl.l5Failed || decide (cl.step = 5) }
    let next := ((stepsAfter failed (decide (s.num Obj.ladderOrder = 1))).find? (stepOpen s u track psector failed)).getD 6
    let again := stepGoesOn s u track psector cl
    let word (t : State) (result : Option Nat) (step : Nat) : Prop := inDram status 16 = true → dramServed s = true →
      let w := dramField s (status + 4) 4
      t.mem = (dramWrite s (status + 4) (leBytes 4 (result.getD (w / 2 ^ 28) * 2 ^ 28 + step * 2 ^ 25 + w % 2 ^ 25))).mem
    let settings (c : Climb) : Prop := (c.step = 2 → c.syncWin = 63 ∧ c.syncTol = 4 ∧ (4096 ≤ track → zoneAt (zonesOf s.fw.bundle u) track = some (z, n) →
        c.preset = ((z.eqPreset + toSigned 8 (byteAt (s.str Obj.l2PresetOffset) c.reads) : Int) % 64).toNat) ∧
        (track < 4096 → c.preset = (((bandZone s (u / 12)).eqPreset + toSigned 8 (byteAt (s.str Obj.l2PresetOffset) c.reads) : Int) % 64).toNat)) ∧
      c.deepLocal = s.num Obj.l1Local ∧ c.deepGlobal = s.num Obj.l1Global ∧ c.deepProbe = s.num Obj.slipProbeGlobal ∧
      (c.step = 4 → c.offset = toSigned 8 (byteAt (s.str Obj.l4Offsets) c.reads))
    let gone (t : State) : Prop := ∀ c, c ∈ t.dec.climbs ↔ c ∈ s.dec.climbs ∧ c.key ≠ climbKey u track psector
    let climb (o : StepOutcome) : Instr := .ladderStepAdvance u track psector top status o
    let clear := cl.step = 5 → stripeWaits s u track psector = none
    let regained (o : StepOutcome) : Prop := Completes (climb o) s fun t => gone t ∧ Counted (Obj.recovered cl.step) s t ∧ t.raised = s.raised ∧
      (cl.step < 2 → t.mem = s.mem ∧ t.media = s.media) ∧
      (2 ≤ cl.step → word t (if cl.step = 5 then some 7 else none) cl.step ∧ (u.val, track, psector) ∈ t.media.offered)
    (AcceptedNum s who Obj.retireSurface u → Answers (.retireSurface who u) s who Obj.retireSurface fun t =>
      t.layout.retiredOrder = l.retiredOrder ++ [u.val] ∧
      t.num (Obj.surfaceState u) = (if t.layout.jobs.any fun j => decide (j.surface = u.val) then 3 else 4) ∧
      (head ∉ retiredIds s → t.str Obj.retiredUnits = retiredUnitsBlob (nset (retiredIds s) head))) ∧
    (runOf s g = some r → normalMode s = true → pqServes s = true → m.m ≠ 0 → l.allocated.contains g = true → stripeFree s g = true → read → fills ≠ [] →
      rebuildDue s r m x g fills = true → SMap.wf l.remap = true → Completes (.rebuildStripe g reads) s fun t => ∀ j ∈ fills,
        let p := naturalPlace r m x g j
        match SMap.find l.remap (remapKey g j) with
        | some e => SMap.find t.layout.remap (remapKey g j) =
            if e.surface = p.surface ∧ e.row = p.row then none else some { e with filled := true }
        | none => ∀ v, p.moved = some v → pendingFill s v g = true → (v, g) ∈ t.layout.criticalDone) ∧
    (Completes .rebuildCheckpoint s fun t =>
      (∀ v, SMap.find t.layout.savedJobs v = (l.jobs.reverse.find? fun j => decide (j.surface = v)).map fun j => (j.watermark, j.done)) ∧
      t.layout.jobs = l.jobs ∧ t.objs = s.objs) ∧
    (runOf s g = some r → normalMode s = true → pqServes s = true → s.num Obj.patrolEnable ≠ 0 → l.jobs = [] → l.replayQueue = [] → l.resyncQueue = [] →
      patrolTarget s = some g → read → Completes (.patrolStripe g reads) s fun t =>
        t.num Obj.patrolNext = (if l.allocated.any (fun h => decide (g < h) && decide (lostCount s h = 0) && (openUpdate s h).isNone)
          then g + 1 else 0) ∧
        (s.num Obj.patrolNext = 0 → Counted Obj.patrolPass s t) ∧ (s.num Obj.patrolNext ≠ 0 → t.num Obj.patrolPass = s.num Obj.patrolPass)) ∧
    (defect → full → Completes (.grownDefectReadback u track psector false both off len) s fun t => RaisedSince s t 390 u 0 ∧ t.media = asked) ∧
    (defect → Completes (.grownDefectReadback u track psector true both off len) s fun t => t = { s with media := asked }) ∧
    (defect → ¬full → ta → Completes (.grownDefectReadback u track psector false true off len) s fun t =>
      t.media.grownPending = s.media.grownPending ++ [(u.val, Defect.bytes ⟨track, 2, physWedge z u track psector, 0, off, len, 1⟩)] ∧
      (u.val, track, psector) ∈ t.media.offered ∧
      t.raised = s.raised ++ [{ source := head, unit := u, detail := track }]) ∧
    (defect → ¬full → both = false ∨ ¬ta → freeSparesOf s u z track ≠ [] →
      Completes (.grownDefectReadback u track psector false both off len) s fun t =>
      ∃ spare ∈ freeSparesOf s u z track, (u.val, Defect.bytes ⟨track, 4, psector, spare, 0, 0, 1⟩) ∈ t.media.grownPending ∧
        RaisedSince s t head u track) ∧
    (cl.step ≠ 5 → regained .recovered) ∧
    (cl.step = 5 → 5 ≤ cl.top → clear → reconstructs s u track psector o = true → regained (.stripe o)) ∧
    (cl.step ≠ 5 ∨ cl.top < 5 ∨ reconstructs s u track psector o = false → exec (climb (.stripe o)) s = exec (climb .failed) s) ∧
    (cl.step = 5 → exec (climb .recovered) s = exec (climb .failed) s ∧ ∀ t out, stripeWaits s u track psector = some t → exec (climb out) s = .next t) ∧
    (again = true → Completes (climb .failed) s fun t =>
      (∃ c ∈ t.dec.climbs, c.key = cl.key ∧ c.step = cl.step ∧ c.reads = cl.reads + 1 ∧ settings c) ∧ t.objs = s.objs ∧ t.raised = s.raised) ∧
    (again = false → clear → next = 6 → Completes (climb .failed) s fun t => gone t ∧ Counted Obj.unrecovered s t ∧ word t (some 8) 6 ∧
      t.raised = s.raised ++ [{ source := head, unit := u, detail := track }]) ∧
    (again = false → clear → next ≠ 6 → Completes (climb .failed) s fun t =>
      (∃ c ∈ t.dec.climbs, c.key = cl.key ∧ c.step = next ∧ c.reads = 0 ∧ settings c) ∧ t.objs = s.objs ∧ t.raised = s.raised)

/-- R416 to R419: a reshape is planned into free rows, stripes and a free map slot, copies one group of blocks at a time, pauses while a stripe is
critical, and ends with a switch to the new run; a cancel leaves the old layout. -/
def Obligations.ReshapesMoveANamespace : Prop :=
  ∀ (s : State) (who : Requester) (b : List Byte) (n : Namespace) (m : StitchMap) (rs : Reshape) (nr : Run2),
    let l := s.layout
    let k := Obj.reshapeRequest
    let copies := l.reshape = some rs ∧ reshapeRun s = some nr ∧ nsOf s rs.nsid = some n ∧ normalMode s = true ∧ rs.nextGroup < rs.groupsTotal
    let may := l.allocated.any (criticalStripe s) = false ∧ notReady s n = false
    (AcceptedRec s who k b → fieldAt b 2 2 ≠ 0xFFFF → nsOf s (byteAt b 0) = some n → SMap.find l.bundleMaps (fieldAt b 2 2) = some m →
      planReshape s n m = some rs → Answers (.reshapeRequest who b) s who k fun t =>
        t.layout.reshape = some rs ∧ SMap.find t.layout.maps rs.newSlot = some m ∧ t.num Obj.reshapeState = 1 ∧ t.layout.seq = l.seq + 1 ∧
        t.host = s.host) ∧
    (AcceptedRec s who k b → fieldAt b 2 2 = 0xFFFF → Answers (.reshapeCancel who b) s who k fun t =>
      t.layout.reshape = none ∧ t.num Obj.reshapeState = 0 ∧ t.layout.reshapeHold = false ∧ t.host.namespaces = s.host.namespaces) ∧
    (copies → may → (∀ g ∈ stripesOver (n.run.map s) n.run (rs.nextGroup * rs.groupBlocks) (min (rs.nextGroup * rs.groupBlocks + rs.groupBlocks) n.nsze),
        openUpdate s g = none) → Completes .reshapeGroupCopy s fun t =>
      t.layout.reshape = some { rs with nextGroup := rs.nextGroup + 1 } ∧
      (rs.nextGroup + 1 < rs.groupsTotal → t.num Obj.reshapeState = 1) ∧
      (rs.nextGroup + 1 = rs.groupsTotal → t.num Obj.reshapeState = 3 ∧ t.layout.reshapeHold = true)) ∧
    (copies → ¬may → exec .reshapeGroupCopy s = .next (s.setNum Obj.reshapeState 2)) ∧
    (l.reshape = some rs → nsOf s rs.nsid = some n → n.nsid = rs.nsid → rs.groupsTotal ≤ rs.nextGroup → (∀ e ∈ l.journal, e.nsid ≠ rs.nsid) →
      Completes .reshapeSwitch s fun t =>
        nsOf t rs.nsid = some { n with
          mapSlot := rs.newSlot, firstRow := rs.firstRow, firstStripe := rs.firstStripe, periods := rs.periods, blocks := rs.blocks } ∧
        t.layout.reshape = none ∧ t.layout.reshapeHold = false ∧ t.num Obj.reshapeState = 0)

/-- R7, R21, R23, R40, R99, R424, R425, R427, R429, R438, R440, R460 to R463, R473 and R474: one waiting beat is granted, reserved traffic first, and
a write stores its bytes and nothing else; a substituted page, a zeroed range; a core's loads and stores reach its own SRAM, cached lines, ROM and the
window, or fault, and an access to another core's SRAM faults; a fill serves its loads and stores in their order. In ROM_MAINTENANCE only verb core 0
runs, without DRAM, which is then not there to be accessed (the model's reading, log entry 59). Where the security core sees its private SRAM is the
model's (log entry 59). -/
def Obligations.MemoryIsGrantedReadAndWritten : Prop :=
  ∀ (s : State) (who : Requester) (w : List Beat) (page k line addr width : Nat) (b d : List Byte) (core : Fin 9) (l : Line) (f : Fill)
    (x : Nat × Nat) (ecc : EccOutcome),
    let m := s.mem
    let ready := fun q => q ∈ w ∧ beatReady s q = true
    let other (t : State) : Prop := (∀ a, slotAt a = none → cellRead t.mem.dram a = cellRead m.dram a) ∧ t.mem.cache = m.cache
    let za := fieldAt b 0 8
    let zn := fieldAt b 8 8
    let acc (a : CoreAccess) : Instr := .coreMemoryAccess core addr width a ecc
    let own := within addr width (sramBase core) (sramSize core)
    let faults (i : Instr) (kind : Nat) : Prop := Completes i s fun t => t.mem = m ∧ t.outs = .accessFault core :: s.outs ∧ t.raised = s.raised ++
      [{ source := coreSource core, unit := core, address := addr, master := coreMaster core, access := kind }]
    let cached := inDram addr width = true ∧ width ≤ 64 - addr % 64 ∧ ecc = .clean ∧ s.start.mode ≠ .romMaintenance
    let laid (data : List Byte) (a : Nat) (new : List Byte) := data.take (a % 64) ++ new ++ data.drop (a % 64 + new.length)
    let fetched := dramRead m (64 * line) 64
    let bad := f.poison = true ∨ dramPoisoned m (64 * line) 64 = true
    (s.wf = true → w.any (beatReady s) = true → (∀ i < 28, 1 ≤ s.num (Obj.weight i)) → Completes (.arbiterGrant w) s fun t => ∃ q, ready q ∧
      ((w.any fun r => beatReady s r && hasToken (fillTokens s) r) = true → Counted Obj.reservedGrants s t ∧ t.num Obj.grants = s.num Obj.grants) ∧
      ((w.any fun r => beatReady s r && hasToken (fillTokens s) r) = false → Counted Obj.grants s t ∧ t.num Obj.reservedGrants = s.num Obj.reservedGrants) ∧
      (q.write = none → other t) ∧
      (∀ data, q.write = some data → (64 ≤ data.length ∨ eccOf m q.address q.ecc = .clean) → t.raised = s.raised ∧
        ∀ a, slotAt a = none → cellRead t.mem.dram a =
        if q.address ≤ a ∧ a < q.address + min 64 data.length then data.getD (a - q.address) 0 else cellRead m.dram a)) ∧
    (page ∈ m.copying → freeSpare m = some k → Completes (.pageSubstitutionDone page) s fun t =>
      SMap.find t.mem.substituted page = some k ∧ page ∉ t.mem.copying ∧ t.num Obj.sparesFree = 4096 - t.mem.substituted.length ∧ t.raised = s.raised) ∧
    (s.wf = true → AcceptedRec s who Obj.zeroRange b → Answers (.zeroRange who b) s who Obj.zeroRange fun t =>
      t.mem.zeroing = some (za, zn) ∧ (∀ p ∈ pagesOf za zn, p ∉ t.mem.written) ∧
      ∀ a, cellRead t.mem.dram a = if za ≤ a ∧ a < za + zn then 0 else cellRead m.dram a) ∧
    Completes .zeroRangeDone s (fun t => t.mem.zeroing = none ∧ t.mem.dram = m.dram ∧ t.objs = s.objs) ∧
    (coresRun s = true → coreStopped s core = false → (own = true → ecc = .clean →
        (s.wf = true → Completes (acc (.store d)) s fun t => t.mem.dram = m.dram ∧ t.objs = s.objs ∧ t.outs = s.outs ∧
          (core.val < 8 → t.mem.secSram = m.secSram) ∧ (core.val = 8 → t.mem.sram = m.sram) ∧ ∀ a, cellRead (sramCells t.mem core) a =
          if addr ≤ a ∧ a < addr + min width d.length then d.getD (a - addr) 0 else cellRead (sramCells m core) a) ∧
        exec (acc .load) s = .next (s.emit (.coreData core (cellsRead (sramCells m core) addr width))) ∧
        exec (acc .fetch) s = exec (acc .load) s) ∧
      (within addr width 0x1000000 0x200000 = true → own = false →
        faults (acc .load) 0 ∧ faults (acc (.store d)) 1 ∧ faults (acc .fetch) 2) ∧
      (cached → SMap.find m.lines (addr / 64) = some l →
        (l.poisoned = false → Completes (acc .load) s fun t =>
          t.outs = .coreData core (slice l.data (addr % 64) width) :: s.outs ∧ Counted Obj.hits s t ∧ t.mem.lines = m.lines) ∧
        (Completes (acc (.store d)) s fun t => SMap.find t.mem.lines (addr / 64) =
          some { l with data := l.data.take (addr % 64) ++ d ++ l.data.drop (addr % 64 + d.length), dirty := true } ∧ t.mem.dram = m.dram)) ∧
      (cached → SMap.find m.lines (addr / 64) = none → SMap.find m.fills (addr / 64) = none →
        Completes (acc .load) s fun t => ∃ f, SMap.find t.mem.fills (addr / 64) = some f ∧ f.ops = [.load core addr width] ∧
          f.install = true ∧ Counted Obj.misses s t) ∧
      (addr + width ≤ 0x40000 → exec (acc .load) s =
          .next (s.emit (.coreData core ((List.range width).map fun i => Config.bootRom (addr + i)))) ∧
        faults (acc (.store d)) 1) ∧
      (inCoreWindow addr = true → exec (acc .load) s = exec (.windowRead core addr width) s ∧
        exec (acc (.store d)) s = exec (.windowWrite core addr width (leNat (d.take width))) s ∧
        faults (acc .fetch) 2)) ∧
    (coresRun s = true → coreStopped s core = false → s.start.mode = .romMaintenance → inDram addr width = true →
      core = 0 ∧ faults (acc .load) 0 ∧ faults (acc (.store d)) 1 ∧ faults (acc .fetch) 2) ∧
    (coreStopped s core = true → ∀ a, exec (acc a) s = .next s) ∧
    (SMap.find m.fills line = some f → Completes (.cacheFillReturn line) s fun t =>
      (f.install = true ∨ (f.later = [] ∧ f.lock = false) → t.mem.fills = SMap.erase m.fills line) ∧
      (f.install = true → f.way < 16 → ∃ y, SMap.find t.mem.lines line = some y ∧ y.way = f.way ∧ y.locked = f.lock ∧
        y.data = (fillStores f.ops).foldl (fun data e => laid data e.1 e.2) fetched ∧
        (FillOp.clean ∉ f.ops → y.dirty = !(fillStores f.ops).isEmpty ∧ t.mem.dram = m.dram)) ∧
      (f.install = false → f.later = [] → f.lock = false → t.mem.lines = m.lines) ∧
      (f.install = false → f.later ≠ [] ∨ f.lock = true →
        ∃ y, SMap.find t.mem.fills line = some y ∧ y.ops = f.later ∧ y.install = true ∧ y.lock = f.lock ∧ Counted Obj.misses s t) ∧
      (f.ops = [.load core addr width] → ¬bad → t.outs = .coreData core (slice fetched (addr % 64) width) :: s.outs) ∧
      (f.ops = [.store x.1 d, .load core addr width] → ¬bad →
        t.outs = .coreData core (slice (laid fetched x.1 d) (addr % 64) width) :: s.outs) ∧
      (f.ops = [.load core addr width] → bad → t.outs = .accessFault core :: s.outs))

/-- R435 to R437, R442 and R443: what a core's maintenance operation does to the lines it addresses, and when it ends; keeper slots are erased but for
the chosen generation, and the replayed generation and older ones are superseded. -/
def Obligations.CacheAndKeeperMaintenance : Prop :=
  ∀ (s : State) (core : Fin 9) (slot : Fin 6) (st c : Nat),
    let m := s.mem
    let base := s.num (Obj.maintBase core)
    let len := s.num (Obj.maintLength core)
    let me : Requester := .core core
    let k := Obj.maintOp core
    let byAddr (line : Nat) : Prop := base ≤ 64 * line ∧ 64 * line < base + len
    let bySet (line way : Nat) : Prop := (line % 4096 + 4096 - base % 4096) % 4096 < len ∧ bit (fld base 31 16) way = true
    let running (op : Nat) (t : State) : Prop :=
      t.num k = op ∧ t.num (Obj.maintStatus core) = 1 ∧ (SMap.find t.mem.maint core).isSome = true
    let fits : Prop := base % 64 = 0 ∧ len % 64 = 0 ∧ inDram base len = true
    let starts (i : Instr) (op : Nat) (P : State → Prop) : Prop := Answers i s me k fun t => running op t ∧ P t
    let runs (i : Instr) (op : Nat) (P : State → Prop) : Prop := SMap.wf m.lines = true → Accepted s me k (.num op) →
      (fits → starts i op P) ∧
      (¬fits → Answers i s me k fun t => t.num k = op ∧ t.num (Obj.maintStatus core) = 3 ∧ t.mem = m)
    let runsBySet (i : Instr) (op : Nat) (P : State → Prop) : Prop := SMap.wf m.lines = true → Accepted s me k (.num op) → starts i op P
    let lines (hit : Nat → Nat → Prop) (P : Line → Prop) (t : State) : Prop :=
      ∀ line l, SMap.find t.mem.lines line = some l → hit line l.way → P l
    let addressed (line _way : Nat) : Prop := byAddr line
    let slotAfter (t : State) (i : Fin 6) : Prop :=
      let x := m.keeper[i]
      t.mem.keeper[i] = if x.state = 1 ∧ x.seq ≤ (vget m.keeper c KeeperSlot.reset).seq then { x with state := 3 } else x
    runs (.cacheClean core) 1 (lines addressed fun l => l.dirty = false) ∧
    runs (.cacheInvalidate core) 2 (lines addressed fun l => l.locked = true) ∧
    runs (.cacheCleanInvalidate core) 3 (lines addressed fun l => l.locked = true ∧ l.dirty = false) ∧
    runs (.cacheFillLock core) 4 (fun t => SMap.find t.mem.maint core = some 0 → ∀ line, byAddr line →
      (∃ l, SMap.find t.mem.lines line = some l ∧ l.locked = true) ∨ ∃ f, SMap.find t.mem.fills line = some f ∧ f.lock = true) ∧
    runs (.cacheUnlock core) 5 (lines addressed fun l => l.locked = false) ∧
    runsBySet (.cacheCleanSw core) 6 (lines bySet fun l => l.dirty = false) ∧
    runsBySet (.cacheInvalidateSw core) 7 (lines bySet fun l => l.locked = true) ∧
    runsBySet (.cacheCleanInvalidateSw core) 8 (lines bySet fun l => l.locked = true ∧ l.dirty = false) ∧
    (SMap.find m.maint core = some st → maintFillPending s core = false → Completes (.cacheMaintDone core) s fun t =>
      t.num k = 0 ∧ t.num (Obj.maintStatus core) = st ∧ t.mem.maint = SMap.erase m.maint core ∧ t.mem.lines = m.lines) ∧
    (m.keeper[slot].state ≠ 0 → m.keeper[slot].state ≠ 4 → ¬(m.keeperChosen = some slot.val ∧ m.keeper[slot].state = 1) →
      Completes (.keeperSlotErased slot) s fun t => t.mem.keeper[slot] = KeeperSlot.reset ∧ ∀ i : Fin 6, i ≠ slot → t.mem.keeper[i] = m.keeper[i]) ∧
    (m.supersedeDue = true → m.keeperChosen = some c → Completes .supersededPageProgrammed s fun t =>
      t.mem.supersedeDue = false ∧ ∀ i : Fin 6, slotAfter t i)

/-- R446 to R455 and R457: GO starts a transfer that passes the checks and ends one that fails them at once; a chain fetches its descriptor; STOP asks
a busy channel to stop; beats copy the source, the last block is read back and rewritten once; a block is re-sent three times on its requester's lane
before that retires. -/
def Obligations.DmaTransfersAndFabricLanes : Prop :=
  ∀ (s : State) (who : Requester) (ch : Fin 8) (n done : Nat) (kind : BeatError) (lane : Fin 32) (r : Fin 28) (beats indet : Nat),
    let ctrl := Obj.objCtrl ch
    let status (t : State) : Nat := t.num (Obj.chanStatus ch)
    let src := s.num (Obj.objSrc ch)
    let dst := s.num (Obj.objDst ch)
    let count := s.num (Obj.objCount ch)
    let c := s.dma ch
    let d := dramRead s.mem c.desc 64
    let fresh (t : State) (chain : Bool) (desc src dst next count : Nat) : Prop :=
      let y := t.dma ch
      y.phase = .moving ∧ y.chain = chain ∧ y.desc = desc ∧ y.src = src ∧ y.dst = dst ∧ y.next = next ∧ y.count = count ∧
      t.num (Obj.doneCount ch) = 0
    let last := c.dst + c.count - 64
    let matched := dramPoisoned s.mem last 64 = false ∧ dramRead s.mem last 64 = c.lastCopy
    let differs := dramPoisoned s.mem last 64 = false ∧ dramRead s.mem last 64 ≠ c.lastCopy
    let code := match kind with
      | .read => 4
      | .write => 5
      | .tail => 6
    let naks := vget s.fab.naks lane 0
    let ours := channelOf r = some ch.val ∧ c.phase = .moving
    (AcceptedNum s who ctrl n → bit n 0 = true → bit n 1 = false → Answers (.dmaGo who ch n) s who ctrl fun t =>
      t.num ctrl = n / 16 * 16 ∧
      (transferCheck src dst count = none → status t = 0xFF ∧ fresh t false 0 src dst 0 count) ∧
      ∀ e, transferCheck src dst count = some e → status t = e ∧ (t.dma ch).phase = .idle ∧ t.mem = s.mem) ∧
    (AcceptedNum s who ctrl n → bit n 0 = true → bit n 1 = true → Answers (.dmaChainGo who ch n) s who ctrl fun t =>
      status t = 0xFF ∧ (t.dma ch).phase = .fetching ∧ (t.dma ch).chain = true ∧ (t.dma ch).desc = s.num (Obj.chainAddr ch)) ∧
    (AcceptedNum s who ctrl n → bit n 0 = false → bit n 2 = true → Answers (.dmaStop who ch n) s who ctrl fun t =>
      t.objs = s.objs ∧ t.dma ch = { c with stop := c.stop || decide (c.phase ≠ .idle) }) ∧
    (AcceptedNum s who (Obj.notifyPending ch) n → Answers (.notifyClear who ch n) s who (Obj.notifyPending ch) fun t =>
      t = s.setNum (Obj.notifyPending ch) (s.num (Obj.notifyPending ch) &&& (0x1FF ^^^ n))) ∧
    (c.phase = .fetching → c.stop = false → inDram c.desc 64 = true → dramPoisoned s.mem c.desc 64 = false →
      (fieldAt d 60 4 % 2 = 1 → descBad d = false → transferCheck (fieldAt d 0 8) (fieldAt d 8 8) (fieldAt d 24 4) = none →
        Completes (.dmaDescriptorFetched ch true) s fun t =>
          fresh t true c.desc (fieldAt d 0 8) (fieldAt d 8 8) (fieldAt d 16 8) (fieldAt d 24 4) ∧ t.mem = s.mem) ∧
      (fieldAt d 60 4 % 2 = 0 → Completes (.dmaDescriptorFetched ch true) s fun t => status t = 0x0A ∧ (t.dma ch).phase = .idle)) ∧
    (c.phase = .fetching → c.stop = false → Completes (.dmaDescriptorFetched ch false) s fun t => status t = 9 ∧ (t.dma ch).phase = .idle) ∧
    (c.phase = .moving → s.num (Obj.doneCount ch) = 0 → c.count % 64 = 0 → Completes (.dmaBeatsAcknowledged ch) s fun t =>
      (t.dma ch).phase = .readback ∧ t.num (Obj.doneCount ch) = c.count ∧
      (s.wf = true → inDram c.src c.count = true → inDram c.dst c.count = true → (c.dst + c.count ≤ c.src ∨ c.src + c.count ≤ c.dst) →
        (∀ i < c.count, slotAt (c.dst + i) = none) →
        ∀ a, slotAt a = none → cellRead t.mem.dram a =
          if c.dst ≤ a ∧ a < c.dst + c.count then dramByte s.mem (c.src + (a - c.dst)) else cellRead s.mem.dram a)) ∧
    (c.phase = .readback → matched → c.chain = false → Completes (.dmaReadbackDone ch) s fun t =>
      status t = statusWord (if c.poison then 3 else 0) c.resends 0 ∧ (t.dma ch).phase = .idle ∧ t.mem = s.mem ∧ Counted (Obj.objTransfers ch) s t) ∧
    (c.phase = .readback → differs → c.lastPoison = false → Completes (.dmaReadbackDone ch) s fun t =>
      (t.dma ch).phase = .rewritten ∧ t.mem = dramWriteM s.mem last c.lastCopy ∧ t.objs = s.objs) ∧
    (c.phase = .rewritten → differs → Completes (.dmaReadbackDone ch) s fun t =>
      status t = statusWord 7 c.resends 1 ∧ (t.dma ch).phase = .idle ∧ t.num (Obj.doneCount ch) = c.count - 64) ∧
    (c.phase = .moving → s.num (Obj.doneCount ch) = 0 → done % 64 = 0 → done + 64 ≤ c.count → c.count % 64 = 0 →
      Completes (.dmaBeatError ch kind done indet) s fun t =>
        status t % 256 = code ∧ status t / 256 % 256 = min c.resends 255 ∧ (t.dma ch).phase = .idle ∧ t.num (Obj.doneCount ch) = done ∧
        Counted (Obj.objTransfers ch) s t) ∧
    (laneUsed s lane r = false → exec (.fabricNak lane r) s = .next s) ∧
    (laneOut s lane = false → laneUsed s lane r = true → naks < 3 → Completes (.fabricNak lane r) s fun t =>
      vget t.fab.naks lane 0 = naks + 1 ∧ Counted Obj.objResends s t ∧ laneOut t lane = false ∧
      t.raised = s.raised ++ [{ source := 320 + lane, master := r, access := 3, syndrome := lane }] ∧
      (channelOf r = some ch.val → (t.dma ch).resends = c.resends + 1)) ∧
    (laneOut s lane = false → laneUsed s lane r = true → 3 ≤ naks → (retiredIds s).contains (320 + lane) = false → Completes (.fabricNak lane r) s fun t => laneOut t lane = true ∧ vget t.fab.naks lane 1 = 0) ∧
    ((∀ i : Fin 8, channelOf r ≠ some i.val) → Completes (.fabricAck lane r beats) s fun t =>
      vget t.fab.naks lane 1 = 0 ∧ t.mem = s.mem ∧ t.objs = s.objs) ∧
    (ours → s.num (Obj.doneCount ch) = 0 → c.count % 64 = 0 → Completes (.fabricAck lane r beats) s fun t =>
      vget t.fab.naks lane 1 = 0 ∧ t.num (Obj.doneCount ch) = min (64 * beats) c.count ∧
      (c.stop = true → 64 * beats < c.count → status t % 256 = 8 ∧ (t.dma ch).phase = .idle) ∧
      (c.stop = false → (t.dma ch).phase = .moving))

/-- R241 and R466 to R477: an event at the collector is counted, captured and put into its bucket; a SAFE trip and the watchdog enter the safe state,
which fences the actuators, asks the sentences that play to end and is itself ended by a rail cycle; a fenced unit, or a fenced block with no STATE
object (R7, here the P/Q engine), is readmitted after its self-check; the collector's own fault takes the safe state, the chip collector's the motion
die's sequence. -/
def Obligations.CollectorsReactToEvents : Prop :=
  ∀ (s : State) (ev : Event) (core coll : Fin 9) (d p : Fin 8) (act : Fin 4),
    let e := sourceNow s ev.source
    let r := bucketAfter s e (bucketKey ev)
    let heard := mainPowered s = true ∧ raises ev.source = true ∧ ofEngine ev.source = false
    let safe (cause : Nat) (t : State) : Prop := t.num Obj.collectorState = 1 ∧ t.num Obj.safeCause = cause ∧ t.num Obj.safeTick = s.num Obj.tick ∧
      t.num Obj.safeEntries = min (s.num Obj.safeEntries + 1) 255 ∧ t.power.faultOutLow = true ∧ t.host.fetchStopped = true ∧
      (t.ctrl .a).cfs = true ∧ (t.ctrl .b).cfs = true ∧ t.num (Obj.actuatorState act) ≠ 0 ∧
      (s.num (Obj.loadState p) = 3 → (s.playerOf p).clause ≠ .stalled → (t.playerOf p).abortAsked = true ∨ t.num (Obj.loadState p) = 0)
    let quiet := s.num Obj.collectorState = 0 ∧ s.start.running = false
    (heard → (s.start.running = true → r.2 = false ∧ e.reaction ≤ 1) → Completes (.collectorEvent ev) s fun t =>
      Counted Obj.eventsTotal s t ∧ (r.2 = true → Counted Obj.trips s t) ∧
      (let c := s.coll.captures[8]
       if c.frozen then t.coll.captures[8] = { c with later := min (c.later + 1) (2 ^ 32 - 1) }
       else t.coll.captures[8] = ⟨true, ev, s.num Obj.tick, 0⟩) ∧
      SMap.find t.coll.buckets ev.source = some (if r.2 then 0 else r.1, s.num Obj.tick)) ∧
    (heard → r.2 = true → e.trip = 3 → unitRetired s (ownerOf ev.source) = false → quiet →
      Completes (.collectorEvent ev) s (safe ev.source)) ∧
    (mainPowered s = true → ev.source = 256 + d → r.2 = false → e.reaction = 2 → s.num (Obj.detectorState d) < 3 →
      Completes (.collectorEvent ev) s fun t => t.num (Obj.detectorState d) = 3 ∧ t.coll.readmitting.contains (256 + d.val) = true) ∧
    (s.coll.readmitting.contains (256 + d.val) = true → s.num (Obj.detectorState d) = 3 → (retiredIds s).contains (256 + d.val) = false →
      Completes (.unitReadmit (256 + d)) s fun t =>
        t.num (Obj.detectorState d) = (if s.num (Obj.detectorEnable d) = 1 then 0 else 2) ∧ t.coll.readmitting.contains (256 + d.val) = false) ∧
    (mainPowered s = true → ev.source = 172 → r.2 = false → e.reaction = 2 → pqServes s = true → Completes (.collectorEvent ev) s fun t =>
      pqServes t = false ∧ t.coll.readmitting.contains 172 = true) ∧
    (s.coll.readmitting.contains 172 = true → (retiredIds s).contains 172 = false → Completes (.unitReadmit 172) s fun t =>
      pqServes t = true ∧ t.coll.readmitting.contains 172 = false) ∧
    (inSafe s = true → s.start.mode ≠ .halted → s.power.off = none → s.num Obj.safeRestartS ≠ 0 → s.num Obj.safeTick + 25000000 * s.num Obj.safeRestartS ≤ s.num Obj.tick →
      Completes .safeRestartTimeout s fun t => t.power.off = some .safeRestart) ∧
    exec .safeEntriesExpire s = .next (s.setNum Obj.safeEntries 0) ∧
    (mainPowered s = true → quiet → Completes (.coreWatchdog core) s fun t => safe 1 t ∧ Counted Obj.eventsTotal s t) ∧
    (mainPowered s = true → inSafe s = true → Completes (.coreWatchdog core) s fun t =>
      Counted Obj.eventsTotal s t ∧ t.num Obj.safeCause = s.num Obj.safeCause ∧ t.num Obj.safeEntries = s.num Obj.safeEntries) ∧
    (mainPowered s = true → quiet → coll.val < 8 → Completes (.collectorSelfFault coll) s (safe 0)) ∧
    (mainPowered s = true → quiet → s.start.mode ≠ .halted → s.num Obj.heartbeatArmed = 1 → Completes (.collectorSelfFault 8) s fun t =>
      safe 0 t ∧ t.power.off = some .heartbeatLoss ∧ t.num Obj.heartbeatArmed = 0 ∧ Counted Obj.heartbeatLosses s t)

/-- R471, R473, R482 and R483: captures are rearmed; a clear removes the records up to a number and leaves a CLEAR record; the ledger is mirrored to
the older NOR copy and to the holders' band; UNRETIRE takes a unit out of the list and leaves it QUIESCED. -/
def Obligations.LedgerIsClearedMirroredAndCopied : Prop :=
  ∀ (s : State) (who : Requester) (n : Nat) (r : Fin 9) (copy : SMap Record) (d : Fin 8) (h : Fin 2),
    let newest := s.coll.newestSeq
    let cleared (v : Nat) (t : State) : Prop :=
      (∀ e ∈ t.coll.ledger, v < e.2.seq) ∧ (∀ e ∈ s.coll.ledger, v < e.2.seq → s.coll.ledger.length < 4096 → e ∈ t.coll.ledger) ∧
      (s.coll.ledger.length < 4096 →
        t.coll.newestSeq = nextSeq s ∧ ∃ e ∈ t.coll.ledger, e.2.kind = 3 ∧ e.2.source = 37 ∧ e.2.detail2 = v ∧ e.2.seq = nextSeq s)
    (AcceptedNum s who (Obj.captureClear r) 1 → Answers (.captureClear who r 1) s who (Obj.captureClear r) fun t =>
      t.coll.captures[r].frozen = false ∧ ∀ i : Fin 9, i ≠ r → t.coll.captures[i] = s.coll.captures[i]) ∧
    (AcceptedNum s who Obj.clearUpto n → s.coll.restored = true → n ≤ newest →
      Answers (.clearUpto who n) s who Obj.clearUpto fun t => cleared n t) ∧
    (AcceptedNum s who Obj.clearAll 1 → s.coll.restored = true → Answers (.clearAll who 1) s who Obj.clearAll fun t =>
      cleared newest t ∧ (s.coll.ledger.length < 4096 → ∀ i : Fin 4, t.num (Obj.dropsSev i) = 0)) ∧
    (s.coll.restored = true → s.coll.changed = true → s.coll.mirroring = none → Completes .ledgerMirror s fun t =>
      t.coll.mirroring = some s.coll.ledger ∧ t.coll.changed = false ∧ t.coll.norCopies = s.coll.norCopies) ∧
    (s.coll.mirroring = some copy → Completes .ledgerMirrorDone s fun t =>
      vget t.coll.norCopies s.coll.norNext copy = copy ∧ t.coll.norNext = 1 - s.coll.norNext ∧ t.coll.mirroring = none ∧
      t.num Obj.mirrorSeq = max (s.num Obj.mirrorSeq) (copy.foldl (fun t e => max t e.2.seq) 0)) ∧
    (s.coll.restored = true → s.media.holders[h] ≠ 255 → usable s s.media.holders[h] = true → failedSurface s s.media.holders[h] = false →
      Completes .ledgerBandCopy s fun t => t.coll.bandCopy = s.coll.ledger ∧ t.coll.ledger = s.coll.ledger) ∧
    (AcceptedNum s who Obj.unretire (256 + d) → Answers (.unretire who (256 + d)) s who Obj.unretire fun t =>
      t.num (Obj.detectorState d) = 2 ∧ t.str Obj.retiredUnits = retiredUnitsBlob (nunset (retiredIds s) (256 + d.val)))
end

