-- ==== Sys2Proof/Laws/Maps.lean ====
section
/-!
SUPPORT. The laws of finite maps, of byte memories and of vectors by number: a read after a write, and the canonical
forms that every operation keeps.
-/

namespace Sys2Proof.Machine

/-! ### Finite maps -/

section
variable {α : Type}

@[simp] theorem SMap.find_nil (k : Nat) : SMap.find ([] : SMap α) k = none := rfl

/-- Read after write. -/
theorem SMap.find_put (m : SMap α) (k j : Nat) (x : α) :
    SMap.find (SMap.put m k x) j = if j = k then some x else SMap.find m j := by
  induction m with
  | nil => simp only [SMap.put, SMap.find]; split_ifs <;> rfl
  | cons e r ih =>
    obtain ⟨i, v⟩ := e
    simp only [SMap.put]
    split_ifs with h1 h2 <;> simp only [SMap.find] <;> (try rw [ih]) <;> split_ifs <;> first | rfl | omega

@[simp] theorem SMap.find_put_self (m : SMap α) (k : Nat) (x : α) : SMap.find (SMap.put m k x) k = some x := by
  simp [SMap.find_put]

theorem SMap.find_put_other (m : SMap α) {k j : Nat} (x : α) (h : j ≠ k) :
    SMap.find (SMap.put m k x) j = SMap.find m j := by simp [SMap.find_put, h]

theorem SMap.above_mono {b c : Nat} (h : b ≤ c) : ∀ {m : SMap α}, SMap.above c m = true → SMap.above b m = true
  | [], _ => rfl
  | (j, _) :: r, hm => by
    simp only [SMap.above, Bool.and_eq_true, decide_eq_true_eq] at hm ⊢
    exact ⟨by omega, SMap.above_mono h hm.2⟩

theorem SMap.above_put {b k : Nat} {x : α} (h : b < k) :
    ∀ {m : SMap α}, SMap.above b m = true → SMap.above b (SMap.put m k x) = true
  | [], _ => by simp [SMap.put, SMap.above, h]
  | (j, v) :: r, hm => by
    have hm' := hm
    simp only [SMap.above, Bool.and_eq_true, decide_eq_true_eq] at hm'
    simp only [SMap.put]
    split_ifs
    · simp [SMap.above, h, hm'.2]
    · simpa [SMap.above, h] using hm'
    · simpa [SMap.above, hm'.1] using SMap.above_put h hm'.2

/-- A write keeps the canonical form. -/
@[simp] theorem SMap.wf_put {k : Nat} {x : α} : ∀ {m : SMap α}, SMap.wf m = true → SMap.wf (SMap.put m k x) = true
  | [], _ => rfl
  | (j, v) :: r, hm => by
    have hm' := hm
    simp only [SMap.wf, Bool.and_eq_true] at hm'
    simp only [SMap.put]
    split_ifs with h1 h2
    · subst h1; simpa [SMap.wf] using hm'
    · simp only [SMap.wf, Bool.and_eq_true, SMap.above, decide_eq_true_eq]
      exact ⟨⟨h2, SMap.above_mono (by omega) hm'.1⟩, hm'⟩
    · simp only [SMap.wf, Bool.and_eq_true]
      exact ⟨SMap.above_put (by omega) hm'.1, SMap.wf_put hm'.2⟩

theorem SMap.above_erase {b k : Nat} : ∀ {m : SMap α}, SMap.above b m = true → SMap.above b (SMap.erase m k) = true
  | [], _ => rfl
  | (j, v) :: r, hm => by
    simp only [SMap.above, Bool.and_eq_true, decide_eq_true_eq] at hm
    simp only [SMap.erase]
    split_ifs
    · exact hm.2
    · simpa [SMap.above, hm.1] using SMap.above_erase hm.2

/-- So does an erasure. -/
@[simp] theorem SMap.wf_erase {k : Nat} : ∀ {m : SMap α}, SMap.wf m = true → SMap.wf (SMap.erase m k) = true
  | [], _ => rfl
  | (j, v) :: r, hm => by
    simp only [SMap.wf, Bool.and_eq_true] at hm
    simp only [SMap.erase]
    split_ifs
    · exact hm.2
    · simpa [SMap.wf] using ⟨SMap.above_erase hm.1, SMap.wf_erase hm.2⟩

theorem SMap.above_filter {b : Nat} {p : Nat × α → Bool} :
    ∀ {m : SMap α}, SMap.above b m = true → SMap.above b (List.filter p m) = true
  | [], _ => rfl
  | (j, v) :: r, hm => by
    simp only [SMap.above, Bool.and_eq_true, decide_eq_true_eq] at hm
    rw [List.filter_cons]
    split_ifs
    · simpa [SMap.above, hm.1] using SMap.above_filter hm.2
    · exact SMap.above_filter hm.2

/-- So does keeping some of the entries. -/
@[simp] theorem SMap.wf_filter {p : Nat × α → Bool} :
    ∀ {m : SMap α}, SMap.wf m = true → SMap.wf (List.filter p m) = true
  | [], _ => rfl
  | (j, v) :: r, hm => by
    simp only [SMap.wf, Bool.and_eq_true] at hm
    rw [List.filter_cons]
    split_ifs
    · simpa [SMap.wf] using ⟨SMap.above_filter hm.1, SMap.wf_filter hm.2⟩
    · exact SMap.wf_filter hm.2

/-- So does a change of one entry. -/
@[simp] theorem SMap.wf_mod {m : SMap α} {k : Nat} {f : α → α} (h : SMap.wf m = true) :
    SMap.wf (SMap.mod m k f) = true := by unfold SMap.mod; split <;> simp [h]

end

/-! ### Byte memories -/

theorem cellsAbove_mono {b c : Nat} (h : b ≤ c) : ∀ {m : List Host.Cell}, cellsAbove c m = true → cellsAbove b m = true
  | [], _ => rfl
  | (j, _) :: r, hm => by
    simp only [cellsAbove, Bool.and_eq_true, decide_eq_true_eq] at hm ⊢
    exact ⟨by omega, cellsAbove_mono h hm.2⟩

theorem cellRead_above {a : Nat} : ∀ {m : List Host.Cell}, cellsAbove a m = true → cellRead m a = 0
  | [], _ => rfl
  | (j, v) :: r, hm => by
    simp only [cellsAbove, Bool.and_eq_true, decide_eq_true_eq] at hm
    simp only [cellRead]
    split_ifs
    · omega
    · rfl
    · omega

/-- Read after write, in a memory of canonical form. -/
theorem cellRead_cellWrite (m : List Host.Cell) (a x : Nat) (b : Byte) (h : cellsWf m = true) :
    cellRead (cellWrite m a b) x = if x = a then b else cellRead m x := by
  induction m with
  | nil => simp only [cellWrite]; split_ifs <;> simp_all [cellRead]
  | cons e r ih =>
    obtain ⟨j, v⟩ := e
    simp only [cellsWf, Bool.and_eq_true, decide_eq_true_eq] at h
    have key : ∀ y, y ≤ j → cellRead r y = 0 := fun y hy => cellRead_above (cellsAbove_mono hy h.1.2)
    simp only [cellWrite]
    by_cases h1 : a = j
    · subst h1
      rw [if_pos rfl]
      by_cases h2 : b = 0
      · rw [if_pos h2]
        simp only [cellRead]
        split_ifs with h3 h4
        · subst h3; rw [key x le_rfl, h2]
        · exact key x (by omega)
        · rfl
      · rw [if_neg h2]; simp only [cellRead]; split_ifs <;> rfl
    · rw [if_neg h1]
      by_cases h2 : a < j
      · rw [if_pos h2]
        by_cases h3 : b = 0
        · rw [if_pos h3]; simp only [cellRead]; split_ifs <;> first | rfl | omega | simp_all
        · rw [if_neg h3]; simp only [cellRead]; split_ifs <;> first | rfl | omega
      · rw [if_neg h2]; simp only [cellRead]; rw [ih h.2]; split_ifs <;> first | rfl | omega

theorem cellsAbove_cellWrite {b a : Nat} {v : Byte} (h : b < a) :
    ∀ {m : List Host.Cell}, cellsAbove b m = true → cellsAbove b (cellWrite m a v) = true
  | [], _ => by simp only [cellWrite]; split_ifs <;> simp [cellsAbove, h]
  | (j, w) :: r, hm => by
    have hm' := hm
    simp only [cellsAbove, Bool.and_eq_true, decide_eq_true_eq] at hm'
    simp only [cellWrite]
    split_ifs
    · exact hm'.2
    · simp [cellsAbove, h, hm'.2]
    · exact hm
    · simpa [cellsAbove, h] using hm'
    · simpa [cellsAbove, hm'.1] using cellsAbove_cellWrite h hm'.2

/-- Writing a byte keeps the canonical form. -/
@[simp] theorem cellsWf_cellWrite {a : Nat} {v : Byte} :
    ∀ {m : List Host.Cell}, cellsWf m = true → cellsWf (cellWrite m a v) = true
  | [], _ => by simp only [cellWrite]; split_ifs <;> simp_all [cellsWf, cellsAbove]
  | (j, w) :: r, hm => by
    have hm' := hm
    simp only [cellsWf, Bool.and_eq_true, decide_eq_true_eq] at hm'
    simp only [cellWrite]
    split_ifs with h1 h2 h3 h4
    · exact hm'.2
    · subst h1; simpa [cellsWf, hm'.1.2, hm'.2] using h2
    · exact hm
    · simp only [cellsWf, cellsAbove, Bool.and_eq_true, decide_eq_true_eq]
      exact ⟨⟨h4, h3, cellsAbove_mono (by omega) hm'.1.2⟩, hm'⟩
    · simp only [cellsWf, Bool.and_eq_true, decide_eq_true_eq]
      exact ⟨⟨hm'.1.1, cellsAbove_cellWrite (by omega) hm'.1.2⟩, cellsWf_cellWrite hm'.2⟩

/-- So does writing a run of bytes. -/
@[simp] theorem cellsWf_cellsWrite {a : Nat} {l : List Byte} {m : List Host.Cell} (h : cellsWf m = true) :
    cellsWf (cellsWrite m a l) = true := by
  induction l generalizing m a with
  | nil => exact h
  | cons b r ih => exact ih (cellsWf_cellWrite h)

/-- A run of written bytes leaves every byte outside it. -/
theorem cellRead_cellsWrite_outside {m : List Host.Cell} {a x : Nat} {l : List Byte} (h : cellsWf m = true)
    (hx : x < a ∨ a + l.length ≤ x) : cellRead (cellsWrite m a l) x = cellRead m x := by
  induction l generalizing m a with
  | nil => rfl
  | cons b r ih =>
    simp only [List.length_cons] at hx
    simp only [cellsWrite]
    rw [ih (cellsWf_cellWrite h) (by omega), cellRead_cellWrite _ _ _ _ h, if_neg (by omega)]

/-- A run of written bytes reads back. -/
theorem cellsRead_cellsWrite {m : List Host.Cell} {a : Nat} {l : List Byte} (h : cellsWf m = true) :
    cellsRead (cellsWrite m a l) a l.length = l := by
  induction l generalizing m a with
  | nil => rfl
  | cons b r ih =>
    simp only [cellsWrite, List.length_cons, cellsRead]
    rw [ih (cellsWf_cellWrite h), cellRead_cellsWrite_outside (cellsWf_cellWrite h) (by omega),
      cellRead_cellWrite _ _ _ _ h, if_pos rfl]

theorem cellsAbove_filter {b : Nat} {p : Host.Cell → Bool} :
    ∀ {m : List Host.Cell}, cellsAbove b m = true → cellsAbove b (m.filter p) = true
  | [], _ => rfl
  | (j, v) :: r, hm => by
    simp only [cellsAbove, Bool.and_eq_true, decide_eq_true_eq] at hm
    rw [List.filter_cons]
    split_ifs
    · simpa [cellsAbove, hm.1] using cellsAbove_filter hm.2
    · exact cellsAbove_filter hm.2

/-- Dropping cells keeps the canonical form. -/
@[simp] theorem cellsWf_filter {p : Host.Cell → Bool} :
    ∀ {m : List Host.Cell}, cellsWf m = true → cellsWf (m.filter p) = true
  | [], _ => rfl
  | (j, v) :: r, hm => by
    simp only [cellsWf, Bool.and_eq_true, decide_eq_true_eq] at hm
    rw [List.filter_cons]
    split_ifs
    · simp only [cellsWf, Bool.and_eq_true, decide_eq_true_eq]
      exact ⟨⟨hm.1.1, cellsAbove_filter hm.1.2⟩, cellsWf_filter hm.2⟩
    · exact cellsWf_filter hm.2

@[simp] theorem cellsWf_cellsZero {m : List Host.Cell} {a n : Nat} (h : cellsWf m = true) :
    cellsWf (cellsZero m a n) = true := cellsWf_filter h

/-- The bytes of a zeroed run read 0, the others as before. -/
theorem cellRead_filter {p : Nat → Bool} : ∀ {m : List Host.Cell} (x : Nat), cellsWf m = true →
    cellRead (m.filter fun c => p c.1) x = if p x then cellRead m x else 0
  | [], x, _ => by simp [cellRead]
  | (j, v) :: r, x, hm => by
    simp only [cellsWf, Bool.and_eq_true, decide_eq_true_eq] at hm
    have key : ∀ y, y ≤ j → cellRead r y = 0 := fun y hy => cellRead_above (cellsAbove_mono hy hm.1.2)
    have ih := cellRead_filter (p := p) x hm.2
    rw [List.filter_cons]
    by_cases hj : p j = true
    · rw [if_pos hj]
      simp only [cellRead]
      by_cases h1 : x = j
      · subst h1; simp [hj]
      · rw [if_neg h1, if_neg h1]
        by_cases h2 : x < j
        · rw [if_pos h2, if_pos h2]; simp
        · rw [if_neg h2, if_neg h2, ih]
    · rw [if_neg hj, ih]
      simp only [cellRead]
      by_cases h1 : x = j
      · subst h1; simp [hj]
      · rw [if_neg h1]
        by_cases h2 : x < j
        · rw [if_pos h2, key x (by omega)]
        · rw [if_neg h2]

theorem cellRead_cellsZero {m : List Host.Cell} {a n x : Nat} (h : cellsWf m = true) :
    cellRead (cellsZero m a n) x = if a ≤ x ∧ x < a + n then 0 else cellRead m x := by
  have := cellRead_filter (p := fun y => !(decide (a ≤ y) && decide (y < a + n))) x h
  rw [cellsZero, this]
  by_cases hx : a ≤ x ∧ x < a + n
  · simp [hx]
  · rw [if_neg hx, if_pos]
    simp only [Bool.not_eq_true', Bool.and_eq_false_iff, decide_eq_false_iff_not]
    omega

/-! ### Vectors by number -/

theorem vget_vmod {α : Type} {n : Nat} (v : Vector α n) (i j : Nat) (f : α → α) (d : α) :
    vget (vmod v i f) j d = if i = j ∧ j < n then f (vget v j d) else vget v j d := by
  unfold vget vmod
  by_cases hi : i < n <;> by_cases hj : j < n <;> simp only [hi, hj, dite_true, dite_false, and_true, and_false, if_false]
  · by_cases hij : i = j
    · subst hij; simp
    · simp [hij]
  · have : i ≠ j := by omega
    simp [this]

@[simp] theorem vget_vmod_self {α : Type} {n : Nat} (v : Vector α n) (i : Nat) (f : α → α) (d : α) (h : i < n) :
    vget (vmod v i f) i d = f (vget v i d) := by simp [vget_vmod, h]

theorem vget_vmod_other {α : Type} {n : Nat} (v : Vector α n) {i j : Nat} (f : α → α) (d : α) (h : i ≠ j) :
    vget (vmod v i f) j d = vget v j d := by simp [vget_vmod, h]

@[simp] theorem vget_replicate {α : Type} {n : Nat} (x d : α) (i : Nat) (h : i < n) : vget (Vector.replicate n x) i d = x := by
  simp [vget, h]

end Sys2Proof.Machine
end

