-- ==== Sys2Proof/Laws/State.lean ====
section
/-!
SUPPORT. What each named update of the state does to each of its parts: one lemma a part.
-/

namespace Sys2Proof.Machine

variable (s : State)

/-! ### setObj -/

@[simp] theorem State.setObj_objs (k : Key) (v : Val) : (s.setObj k v).objs = SMap.put s.objs k v := rfl
@[simp] theorem State.setObj_power (k : Key) (v : Val) : (s.setObj k v).power = s.power := rfl
@[simp] theorem State.setObj_dict (k : Key) (v : Val) : (s.setObj k v).dict = s.dict := rfl
@[simp] theorem State.setObj_start (k : Key) (v : Val) : (s.setObj k v).start = s.start := rfl
@[simp] theorem State.setObj_fw (k : Key) (v : Val) : (s.setObj k v).fw = s.fw := rfl
@[simp] theorem State.setObj_media (k : Key) (v : Val) : (s.setObj k v).media = s.media := rfl
@[simp] theorem State.setObj_chan (k : Key) (v : Val) : (s.setObj k v).chan = s.chan := rfl
@[simp] theorem State.setObj_dec (k : Key) (v : Val) : (s.setObj k v).dec = s.dec := rfl
@[simp] theorem State.setObj_players (k : Key) (v : Val) : (s.setObj k v).players = s.players := rfl
@[simp] theorem State.setObj_acts (k : Key) (v : Val) : (s.setObj k v).acts = s.acts := rfl
@[simp] theorem State.setObj_engines (k : Key) (v : Val) : (s.setObj k v).engines = s.engines := rfl
@[simp] theorem State.setObj_groups (k : Key) (v : Val) : (s.setObj k v).groups = s.groups := rfl
@[simp] theorem State.setObj_traces (k : Key) (v : Val) : (s.setObj k v).traces = s.traces := rfl
@[simp] theorem State.setObj_motion (k : Key) (v : Val) : (s.setObj k v).motion = s.motion := rfl
@[simp] theorem State.setObj_girth (k : Key) (v : Val) : (s.setObj k v).girth = s.girth := rfl
@[simp] theorem State.setObj_host (k : Key) (v : Val) : (s.setObj k v).host = s.host := rfl
@[simp] theorem State.setObj_layout (k : Key) (v : Val) : (s.setObj k v).layout = s.layout := rfl
@[simp] theorem State.setObj_mem (k : Key) (v : Val) : (s.setObj k v).mem = s.mem := rfl
@[simp] theorem State.setObj_fab (k : Key) (v : Val) : (s.setObj k v).fab = s.fab := rfl
@[simp] theorem State.setObj_coll (k : Key) (v : Val) : (s.setObj k v).coll = s.coll := rfl
@[simp] theorem State.setObj_raised (k : Key) (v : Val) : (s.setObj k v).raised = s.raised := rfl
@[simp] theorem State.setObj_outs (k : Key) (v : Val) : (s.setObj k v).outs = s.outs := rfl
@[simp] theorem State.setObj_free (k : Key) (v : Val) : (s.setObj k v).free = s.free := rfl
@[simp] theorem State.setObj_pending (k : Key) (v : Val) : (s.setObj k v).pending = s.pending := rfl

/-! ### setNum -/

@[simp] theorem State.setNum_objs (k : Key) (n : Nat) : (s.setNum k n).objs = SMap.put s.objs k (.num n) := rfl
@[simp] theorem State.setNum_power (k : Key) (n : Nat) : (s.setNum k n).power = s.power := rfl
@[simp] theorem State.setNum_dict (k : Key) (n : Nat) : (s.setNum k n).dict = s.dict := rfl
@[simp] theorem State.setNum_start (k : Key) (n : Nat) : (s.setNum k n).start = s.start := rfl
@[simp] theorem State.setNum_fw (k : Key) (n : Nat) : (s.setNum k n).fw = s.fw := rfl
@[simp] theorem State.setNum_media (k : Key) (n : Nat) : (s.setNum k n).media = s.media := rfl
@[simp] theorem State.setNum_chan (k : Key) (n : Nat) : (s.setNum k n).chan = s.chan := rfl
@[simp] theorem State.setNum_dec (k : Key) (n : Nat) : (s.setNum k n).dec = s.dec := rfl
@[simp] theorem State.setNum_players (k : Key) (n : Nat) : (s.setNum k n).players = s.players := rfl
@[simp] theorem State.setNum_acts (k : Key) (n : Nat) : (s.setNum k n).acts = s.acts := rfl
@[simp] theorem State.setNum_engines (k : Key) (n : Nat) : (s.setNum k n).engines = s.engines := rfl
@[simp] theorem State.setNum_groups (k : Key) (n : Nat) : (s.setNum k n).groups = s.groups := rfl
@[simp] theorem State.setNum_traces (k : Key) (n : Nat) : (s.setNum k n).traces = s.traces := rfl
@[simp] theorem State.setNum_motion (k : Key) (n : Nat) : (s.setNum k n).motion = s.motion := rfl
@[simp] theorem State.setNum_girth (k : Key) (n : Nat) : (s.setNum k n).girth = s.girth := rfl
@[simp] theorem State.setNum_host (k : Key) (n : Nat) : (s.setNum k n).host = s.host := rfl
@[simp] theorem State.setNum_layout (k : Key) (n : Nat) : (s.setNum k n).layout = s.layout := rfl
@[simp] theorem State.setNum_mem (k : Key) (n : Nat) : (s.setNum k n).mem = s.mem := rfl
@[simp] theorem State.setNum_fab (k : Key) (n : Nat) : (s.setNum k n).fab = s.fab := rfl
@[simp] theorem State.setNum_coll (k : Key) (n : Nat) : (s.setNum k n).coll = s.coll := rfl
@[simp] theorem State.setNum_raised (k : Key) (n : Nat) : (s.setNum k n).raised = s.raised := rfl
@[simp] theorem State.setNum_outs (k : Key) (n : Nat) : (s.setNum k n).outs = s.outs := rfl
@[simp] theorem State.setNum_free (k : Key) (n : Nat) : (s.setNum k n).free = s.free := rfl
@[simp] theorem State.setNum_pending (k : Key) (n : Nat) : (s.setNum k n).pending = s.pending := rfl

/-! ### setStr -/

@[simp] theorem State.setStr_objs (k : Key) (b : List Byte) : (s.setStr k b).objs = SMap.put s.objs k (.bytes b) := rfl
@[simp] theorem State.setStr_power (k : Key) (b : List Byte) : (s.setStr k b).power = s.power := rfl
@[simp] theorem State.setStr_dict (k : Key) (b : List Byte) : (s.setStr k b).dict = s.dict := rfl
@[simp] theorem State.setStr_start (k : Key) (b : List Byte) : (s.setStr k b).start = s.start := rfl
@[simp] theorem State.setStr_fw (k : Key) (b : List Byte) : (s.setStr k b).fw = s.fw := rfl
@[simp] theorem State.setStr_media (k : Key) (b : List Byte) : (s.setStr k b).media = s.media := rfl
@[simp] theorem State.setStr_chan (k : Key) (b : List Byte) : (s.setStr k b).chan = s.chan := rfl
@[simp] theorem State.setStr_dec (k : Key) (b : List Byte) : (s.setStr k b).dec = s.dec := rfl
@[simp] theorem State.setStr_players (k : Key) (b : List Byte) : (s.setStr k b).players = s.players := rfl
@[simp] theorem State.setStr_acts (k : Key) (b : List Byte) : (s.setStr k b).acts = s.acts := rfl
@[simp] theorem State.setStr_engines (k : Key) (b : List Byte) : (s.setStr k b).engines = s.engines := rfl
@[simp] theorem State.setStr_groups (k : Key) (b : List Byte) : (s.setStr k b).groups = s.groups := rfl
@[simp] theorem State.setStr_traces (k : Key) (b : List Byte) : (s.setStr k b).traces = s.traces := rfl
@[simp] theorem State.setStr_motion (k : Key) (b : List Byte) : (s.setStr k b).motion = s.motion := rfl
@[simp] theorem State.setStr_girth (k : Key) (b : List Byte) : (s.setStr k b).girth = s.girth := rfl
@[simp] theorem State.setStr_host (k : Key) (b : List Byte) : (s.setStr k b).host = s.host := rfl
@[simp] theorem State.setStr_layout (k : Key) (b : List Byte) : (s.setStr k b).layout = s.layout := rfl
@[simp] theorem State.setStr_mem (k : Key) (b : List Byte) : (s.setStr k b).mem = s.mem := rfl
@[simp] theorem State.setStr_fab (k : Key) (b : List Byte) : (s.setStr k b).fab = s.fab := rfl
@[simp] theorem State.setStr_coll (k : Key) (b : List Byte) : (s.setStr k b).coll = s.coll := rfl
@[simp] theorem State.setStr_raised (k : Key) (b : List Byte) : (s.setStr k b).raised = s.raised := rfl
@[simp] theorem State.setStr_outs (k : Key) (b : List Byte) : (s.setStr k b).outs = s.outs := rfl
@[simp] theorem State.setStr_free (k : Key) (b : List Byte) : (s.setStr k b).free = s.free := rfl
@[simp] theorem State.setStr_pending (k : Key) (b : List Byte) : (s.setStr k b).pending = s.pending := rfl

/-! ### raiseEv -/

@[simp] theorem State.raiseEv_objs (e : Event) : (s.raiseEv e).objs = s.objs := rfl
@[simp] theorem State.raiseEv_power (e : Event) : (s.raiseEv e).power = s.power := rfl
@[simp] theorem State.raiseEv_dict (e : Event) : (s.raiseEv e).dict = s.dict := rfl
@[simp] theorem State.raiseEv_start (e : Event) : (s.raiseEv e).start = s.start := rfl
@[simp] theorem State.raiseEv_fw (e : Event) : (s.raiseEv e).fw = s.fw := rfl
@[simp] theorem State.raiseEv_media (e : Event) : (s.raiseEv e).media = s.media := rfl
@[simp] theorem State.raiseEv_chan (e : Event) : (s.raiseEv e).chan = s.chan := rfl
@[simp] theorem State.raiseEv_dec (e : Event) : (s.raiseEv e).dec = s.dec := rfl
@[simp] theorem State.raiseEv_players (e : Event) : (s.raiseEv e).players = s.players := rfl
@[simp] theorem State.raiseEv_acts (e : Event) : (s.raiseEv e).acts = s.acts := rfl
@[simp] theorem State.raiseEv_engines (e : Event) : (s.raiseEv e).engines = s.engines := rfl
@[simp] theorem State.raiseEv_groups (e : Event) : (s.raiseEv e).groups = s.groups := rfl
@[simp] theorem State.raiseEv_traces (e : Event) : (s.raiseEv e).traces = s.traces := rfl
@[simp] theorem State.raiseEv_motion (e : Event) : (s.raiseEv e).motion = s.motion := rfl
@[simp] theorem State.raiseEv_girth (e : Event) : (s.raiseEv e).girth = s.girth := rfl
@[simp] theorem State.raiseEv_host (e : Event) : (s.raiseEv e).host = s.host := rfl
@[simp] theorem State.raiseEv_layout (e : Event) : (s.raiseEv e).layout = s.layout := rfl
@[simp] theorem State.raiseEv_mem (e : Event) : (s.raiseEv e).mem = s.mem := rfl
@[simp] theorem State.raiseEv_fab (e : Event) : (s.raiseEv e).fab = s.fab := rfl
@[simp] theorem State.raiseEv_coll (e : Event) : (s.raiseEv e).coll = s.coll := rfl
@[simp] theorem State.raiseEv_raised (e : Event) : (s.raiseEv e).raised = s.raised ++ [e] := rfl
@[simp] theorem State.raiseEv_outs (e : Event) : (s.raiseEv e).outs = s.outs := rfl
@[simp] theorem State.raiseEv_free (e : Event) : (s.raiseEv e).free = s.free := rfl
@[simp] theorem State.raiseEv_pending (e : Event) : (s.raiseEv e).pending = s.pending := rfl

/-! ### raise -/

@[simp] theorem State.raise_objs (id u d : Nat) : (s.raise id u d).objs = s.objs := rfl
@[simp] theorem State.raise_power (id u d : Nat) : (s.raise id u d).power = s.power := rfl
@[simp] theorem State.raise_dict (id u d : Nat) : (s.raise id u d).dict = s.dict := rfl
@[simp] theorem State.raise_start (id u d : Nat) : (s.raise id u d).start = s.start := rfl
@[simp] theorem State.raise_fw (id u d : Nat) : (s.raise id u d).fw = s.fw := rfl
@[simp] theorem State.raise_media (id u d : Nat) : (s.raise id u d).media = s.media := rfl
@[simp] theorem State.raise_chan (id u d : Nat) : (s.raise id u d).chan = s.chan := rfl
@[simp] theorem State.raise_dec (id u d : Nat) : (s.raise id u d).dec = s.dec := rfl
@[simp] theorem State.raise_players (id u d : Nat) : (s.raise id u d).players = s.players := rfl
@[simp] theorem State.raise_acts (id u d : Nat) : (s.raise id u d).acts = s.acts := rfl
@[simp] theorem State.raise_engines (id u d : Nat) : (s.raise id u d).engines = s.engines := rfl
@[simp] theorem State.raise_groups (id u d : Nat) : (s.raise id u d).groups = s.groups := rfl
@[simp] theorem State.raise_traces (id u d : Nat) : (s.raise id u d).traces = s.traces := rfl
@[simp] theorem State.raise_motion (id u d : Nat) : (s.raise id u d).motion = s.motion := rfl
@[simp] theorem State.raise_girth (id u d : Nat) : (s.raise id u d).girth = s.girth := rfl
@[simp] theorem State.raise_host (id u d : Nat) : (s.raise id u d).host = s.host := rfl
@[simp] theorem State.raise_layout (id u d : Nat) : (s.raise id u d).layout = s.layout := rfl
@[simp] theorem State.raise_mem (id u d : Nat) : (s.raise id u d).mem = s.mem := rfl
@[simp] theorem State.raise_fab (id u d : Nat) : (s.raise id u d).fab = s.fab := rfl
@[simp] theorem State.raise_coll (id u d : Nat) : (s.raise id u d).coll = s.coll := rfl
@[simp] theorem State.raise_raised (id u d : Nat) : (s.raise id u d).raised = s.raised ++ [{ source := id, unit := u, detail := d }] := rfl
@[simp] theorem State.raise_outs (id u d : Nat) : (s.raise id u d).outs = s.outs := rfl
@[simp] theorem State.raise_free (id u d : Nat) : (s.raise id u d).free = s.free := rfl
@[simp] theorem State.raise_pending (id u d : Nat) : (s.raise id u d).pending = s.pending := rfl

/-! ### raiseAct -/

@[simp] theorem State.raiseAct_objs (a k u d : Nat) : (s.raiseAct a k u d).objs = s.objs := rfl
@[simp] theorem State.raiseAct_power (a k u d : Nat) : (s.raiseAct a k u d).power = s.power := rfl
@[simp] theorem State.raiseAct_dict (a k u d : Nat) : (s.raiseAct a k u d).dict = s.dict := rfl
@[simp] theorem State.raiseAct_start (a k u d : Nat) : (s.raiseAct a k u d).start = s.start := rfl
@[simp] theorem State.raiseAct_fw (a k u d : Nat) : (s.raiseAct a k u d).fw = s.fw := rfl
@[simp] theorem State.raiseAct_media (a k u d : Nat) : (s.raiseAct a k u d).media = s.media := rfl
@[simp] theorem State.raiseAct_chan (a k u d : Nat) : (s.raiseAct a k u d).chan = s.chan := rfl
@[simp] theorem State.raiseAct_dec (a k u d : Nat) : (s.raiseAct a k u d).dec = s.dec := rfl
@[simp] theorem State.raiseAct_players (a k u d : Nat) : (s.raiseAct a k u d).players = s.players := rfl
@[simp] theorem State.raiseAct_acts (a k u d : Nat) : (s.raiseAct a k u d).acts = s.acts := rfl
@[simp] theorem State.raiseAct_engines (a k u d : Nat) : (s.raiseAct a k u d).engines = s.engines := rfl
@[simp] theorem State.raiseAct_groups (a k u d : Nat) : (s.raiseAct a k u d).groups = s.groups := rfl
@[simp] theorem State.raiseAct_traces (a k u d : Nat) : (s.raiseAct a k u d).traces = s.traces := rfl
@[simp] theorem State.raiseAct_motion (a k u d : Nat) : (s.raiseAct a k u d).motion = s.motion := rfl
@[simp] theorem State.raiseAct_girth (a k u d : Nat) : (s.raiseAct a k u d).girth = s.girth := rfl
@[simp] theorem State.raiseAct_host (a k u d : Nat) : (s.raiseAct a k u d).host = s.host := rfl
@[simp] theorem State.raiseAct_layout (a k u d : Nat) : (s.raiseAct a k u d).layout = s.layout := rfl
@[simp] theorem State.raiseAct_mem (a k u d : Nat) : (s.raiseAct a k u d).mem = s.mem := rfl
@[simp] theorem State.raiseAct_fab (a k u d : Nat) : (s.raiseAct a k u d).fab = s.fab := rfl
@[simp] theorem State.raiseAct_coll (a k u d : Nat) : (s.raiseAct a k u d).coll = s.coll := rfl
@[simp] theorem State.raiseAct_raised (a k u d : Nat) : (s.raiseAct a k u d).raised = s.raised ++ [{ source := 448 + 64 * a + k, unit := u, detail := d }] := rfl
@[simp] theorem State.raiseAct_outs (a k u d : Nat) : (s.raiseAct a k u d).outs = s.outs := rfl
@[simp] theorem State.raiseAct_free (a k u d : Nat) : (s.raiseAct a k u d).free = s.free := rfl
@[simp] theorem State.raiseAct_pending (a k u d : Nat) : (s.raiseAct a k u d).pending = s.pending := rfl

/-! ### emit -/

@[simp] theorem State.emit_objs (o : Out) : (s.emit o).objs = s.objs := rfl
@[simp] theorem State.emit_power (o : Out) : (s.emit o).power = s.power := rfl
@[simp] theorem State.emit_dict (o : Out) : (s.emit o).dict = s.dict := rfl
@[simp] theorem State.emit_start (o : Out) : (s.emit o).start = s.start := rfl
@[simp] theorem State.emit_fw (o : Out) : (s.emit o).fw = s.fw := rfl
@[simp] theorem State.emit_media (o : Out) : (s.emit o).media = s.media := rfl
@[simp] theorem State.emit_chan (o : Out) : (s.emit o).chan = s.chan := rfl
@[simp] theorem State.emit_dec (o : Out) : (s.emit o).dec = s.dec := rfl
@[simp] theorem State.emit_players (o : Out) : (s.emit o).players = s.players := rfl
@[simp] theorem State.emit_acts (o : Out) : (s.emit o).acts = s.acts := rfl
@[simp] theorem State.emit_engines (o : Out) : (s.emit o).engines = s.engines := rfl
@[simp] theorem State.emit_groups (o : Out) : (s.emit o).groups = s.groups := rfl
@[simp] theorem State.emit_traces (o : Out) : (s.emit o).traces = s.traces := rfl
@[simp] theorem State.emit_motion (o : Out) : (s.emit o).motion = s.motion := rfl
@[simp] theorem State.emit_girth (o : Out) : (s.emit o).girth = s.girth := rfl
@[simp] theorem State.emit_host (o : Out) : (s.emit o).host = s.host := rfl
@[simp] theorem State.emit_layout (o : Out) : (s.emit o).layout = s.layout := rfl
@[simp] theorem State.emit_mem (o : Out) : (s.emit o).mem = s.mem := rfl
@[simp] theorem State.emit_fab (o : Out) : (s.emit o).fab = s.fab := rfl
@[simp] theorem State.emit_coll (o : Out) : (s.emit o).coll = s.coll := rfl
@[simp] theorem State.emit_raised (o : Out) : (s.emit o).raised = s.raised := rfl
@[simp] theorem State.emit_outs (o : Out) : (s.emit o).outs = o :: s.outs := rfl
@[simp] theorem State.emit_free (o : Out) : (s.emit o).free = s.free := rfl
@[simp] theorem State.emit_pending (o : Out) : (s.emit o).pending = s.pending := rfl

/-! ### modChan -/

@[simp] theorem State.modChan_objs (a : Nat) (f : Channel → Channel) : (s.modChan a f).objs = s.objs := rfl
@[simp] theorem State.modChan_power (a : Nat) (f : Channel → Channel) : (s.modChan a f).power = s.power := rfl
@[simp] theorem State.modChan_dict (a : Nat) (f : Channel → Channel) : (s.modChan a f).dict = s.dict := rfl
@[simp] theorem State.modChan_start (a : Nat) (f : Channel → Channel) : (s.modChan a f).start = s.start := rfl
@[simp] theorem State.modChan_fw (a : Nat) (f : Channel → Channel) : (s.modChan a f).fw = s.fw := rfl
@[simp] theorem State.modChan_media (a : Nat) (f : Channel → Channel) : (s.modChan a f).media = s.media := rfl
@[simp] theorem State.modChan_chan (a : Nat) (f : Channel → Channel) : (s.modChan a f).chan = vmod s.chan a f := rfl
@[simp] theorem State.modChan_dec (a : Nat) (f : Channel → Channel) : (s.modChan a f).dec = s.dec := rfl
@[simp] theorem State.modChan_players (a : Nat) (f : Channel → Channel) : (s.modChan a f).players = s.players := rfl
@[simp] theorem State.modChan_acts (a : Nat) (f : Channel → Channel) : (s.modChan a f).acts = s.acts := rfl
@[simp] theorem State.modChan_engines (a : Nat) (f : Channel → Channel) : (s.modChan a f).engines = s.engines := rfl
@[simp] theorem State.modChan_groups (a : Nat) (f : Channel → Channel) : (s.modChan a f).groups = s.groups := rfl
@[simp] theorem State.modChan_traces (a : Nat) (f : Channel → Channel) : (s.modChan a f).traces = s.traces := rfl
@[simp] theorem State.modChan_motion (a : Nat) (f : Channel → Channel) : (s.modChan a f).motion = s.motion := rfl
@[simp] theorem State.modChan_girth (a : Nat) (f : Channel → Channel) : (s.modChan a f).girth = s.girth := rfl
@[simp] theorem State.modChan_host (a : Nat) (f : Channel → Channel) : (s.modChan a f).host = s.host := rfl
@[simp] theorem State.modChan_layout (a : Nat) (f : Channel → Channel) : (s.modChan a f).layout = s.layout := rfl
@[simp] theorem State.modChan_mem (a : Nat) (f : Channel → Channel) : (s.modChan a f).mem = s.mem := rfl
@[simp] theorem State.modChan_fab (a : Nat) (f : Channel → Channel) : (s.modChan a f).fab = s.fab := rfl
@[simp] theorem State.modChan_coll (a : Nat) (f : Channel → Channel) : (s.modChan a f).coll = s.coll := rfl
@[simp] theorem State.modChan_raised (a : Nat) (f : Channel → Channel) : (s.modChan a f).raised = s.raised := rfl
@[simp] theorem State.modChan_outs (a : Nat) (f : Channel → Channel) : (s.modChan a f).outs = s.outs := rfl
@[simp] theorem State.modChan_free (a : Nat) (f : Channel → Channel) : (s.modChan a f).free = s.free := rfl
@[simp] theorem State.modChan_pending (a : Nat) (f : Channel → Channel) : (s.modChan a f).pending = s.pending := rfl

/-! ### modPlayer -/

@[simp] theorem State.modPlayer_objs (p : Nat) (f : Player → Player) : (s.modPlayer p f).objs = s.objs := rfl
@[simp] theorem State.modPlayer_power (p : Nat) (f : Player → Player) : (s.modPlayer p f).power = s.power := rfl
@[simp] theorem State.modPlayer_dict (p : Nat) (f : Player → Player) : (s.modPlayer p f).dict = s.dict := rfl
@[simp] theorem State.modPlayer_start (p : Nat) (f : Player → Player) : (s.modPlayer p f).start = s.start := rfl
@[simp] theorem State.modPlayer_fw (p : Nat) (f : Player → Player) : (s.modPlayer p f).fw = s.fw := rfl
@[simp] theorem State.modPlayer_media (p : Nat) (f : Player → Player) : (s.modPlayer p f).media = s.media := rfl
@[simp] theorem State.modPlayer_chan (p : Nat) (f : Player → Player) : (s.modPlayer p f).chan = s.chan := rfl
@[simp] theorem State.modPlayer_dec (p : Nat) (f : Player → Player) : (s.modPlayer p f).dec = s.dec := rfl
@[simp] theorem State.modPlayer_players (p : Nat) (f : Player → Player) : (s.modPlayer p f).players = vmod s.players p f := rfl
@[simp] theorem State.modPlayer_acts (p : Nat) (f : Player → Player) : (s.modPlayer p f).acts = s.acts := rfl
@[simp] theorem State.modPlayer_engines (p : Nat) (f : Player → Player) : (s.modPlayer p f).engines = s.engines := rfl
@[simp] theorem State.modPlayer_groups (p : Nat) (f : Player → Player) : (s.modPlayer p f).groups = s.groups := rfl
@[simp] theorem State.modPlayer_traces (p : Nat) (f : Player → Player) : (s.modPlayer p f).traces = s.traces := rfl
@[simp] theorem State.modPlayer_motion (p : Nat) (f : Player → Player) : (s.modPlayer p f).motion = s.motion := rfl
@[simp] theorem State.modPlayer_girth (p : Nat) (f : Player → Player) : (s.modPlayer p f).girth = s.girth := rfl
@[simp] theorem State.modPlayer_host (p : Nat) (f : Player → Player) : (s.modPlayer p f).host = s.host := rfl
@[simp] theorem State.modPlayer_layout (p : Nat) (f : Player → Player) : (s.modPlayer p f).layout = s.layout := rfl
@[simp] theorem State.modPlayer_mem (p : Nat) (f : Player → Player) : (s.modPlayer p f).mem = s.mem := rfl
@[simp] theorem State.modPlayer_fab (p : Nat) (f : Player → Player) : (s.modPlayer p f).fab = s.fab := rfl
@[simp] theorem State.modPlayer_coll (p : Nat) (f : Player → Player) : (s.modPlayer p f).coll = s.coll := rfl
@[simp] theorem State.modPlayer_raised (p : Nat) (f : Player → Player) : (s.modPlayer p f).raised = s.raised := rfl
@[simp] theorem State.modPlayer_outs (p : Nat) (f : Player → Player) : (s.modPlayer p f).outs = s.outs := rfl
@[simp] theorem State.modPlayer_free (p : Nat) (f : Player → Player) : (s.modPlayer p f).free = s.free := rfl
@[simp] theorem State.modPlayer_pending (p : Nat) (f : Player → Player) : (s.modPlayer p f).pending = s.pending := rfl

/-! ### modAct -/

@[simp] theorem State.modAct_objs (a : Nat) (f : Actuator → Actuator) : (s.modAct a f).objs = s.objs := rfl
@[simp] theorem State.modAct_power (a : Nat) (f : Actuator → Actuator) : (s.modAct a f).power = s.power := rfl
@[simp] theorem State.modAct_dict (a : Nat) (f : Actuator → Actuator) : (s.modAct a f).dict = s.dict := rfl
@[simp] theorem State.modAct_start (a : Nat) (f : Actuator → Actuator) : (s.modAct a f).start = s.start := rfl
@[simp] theorem State.modAct_fw (a : Nat) (f : Actuator → Actuator) : (s.modAct a f).fw = s.fw := rfl
@[simp] theorem State.modAct_media (a : Nat) (f : Actuator → Actuator) : (s.modAct a f).media = s.media := rfl
@[simp] theorem State.modAct_chan (a : Nat) (f : Actuator → Actuator) : (s.modAct a f).chan = s.chan := rfl
@[simp] theorem State.modAct_dec (a : Nat) (f : Actuator → Actuator) : (s.modAct a f).dec = s.dec := rfl
@[simp] theorem State.modAct_players (a : Nat) (f : Actuator → Actuator) : (s.modAct a f).players = s.players := rfl
@[simp] theorem State.modAct_acts (a : Nat) (f : Actuator → Actuator) : (s.modAct a f).acts = vmod s.acts a f := rfl
@[simp] theorem State.modAct_engines (a : Nat) (f : Actuator → Actuator) : (s.modAct a f).engines = s.engines := rfl
@[simp] theorem State.modAct_groups (a : Nat) (f : Actuator → Actuator) : (s.modAct a f).groups = s.groups := rfl
@[simp] theorem State.modAct_traces (a : Nat) (f : Actuator → Actuator) : (s.modAct a f).traces = s.traces := rfl
@[simp] theorem State.modAct_motion (a : Nat) (f : Actuator → Actuator) : (s.modAct a f).motion = s.motion := rfl
@[simp] theorem State.modAct_girth (a : Nat) (f : Actuator → Actuator) : (s.modAct a f).girth = s.girth := rfl
@[simp] theorem State.modAct_host (a : Nat) (f : Actuator → Actuator) : (s.modAct a f).host = s.host := rfl
@[simp] theorem State.modAct_layout (a : Nat) (f : Actuator → Actuator) : (s.modAct a f).layout = s.layout := rfl
@[simp] theorem State.modAct_mem (a : Nat) (f : Actuator → Actuator) : (s.modAct a f).mem = s.mem := rfl
@[simp] theorem State.modAct_fab (a : Nat) (f : Actuator → Actuator) : (s.modAct a f).fab = s.fab := rfl
@[simp] theorem State.modAct_coll (a : Nat) (f : Actuator → Actuator) : (s.modAct a f).coll = s.coll := rfl
@[simp] theorem State.modAct_raised (a : Nat) (f : Actuator → Actuator) : (s.modAct a f).raised = s.raised := rfl
@[simp] theorem State.modAct_outs (a : Nat) (f : Actuator → Actuator) : (s.modAct a f).outs = s.outs := rfl
@[simp] theorem State.modAct_free (a : Nat) (f : Actuator → Actuator) : (s.modAct a f).free = s.free := rfl
@[simp] theorem State.modAct_pending (a : Nat) (f : Actuator → Actuator) : (s.modAct a f).pending = s.pending := rfl

/-! ### modEngine -/

@[simp] theorem State.modEngine_objs (e : Nat) (f : Engine → Engine) : (s.modEngine e f).objs = s.objs := rfl
@[simp] theorem State.modEngine_power (e : Nat) (f : Engine → Engine) : (s.modEngine e f).power = s.power := rfl
@[simp] theorem State.modEngine_dict (e : Nat) (f : Engine → Engine) : (s.modEngine e f).dict = s.dict := rfl
@[simp] theorem State.modEngine_start (e : Nat) (f : Engine → Engine) : (s.modEngine e f).start = s.start := rfl
@[simp] theorem State.modEngine_fw (e : Nat) (f : Engine → Engine) : (s.modEngine e f).fw = s.fw := rfl
@[simp] theorem State.modEngine_media (e : Nat) (f : Engine → Engine) : (s.modEngine e f).media = s.media := rfl
@[simp] theorem State.modEngine_chan (e : Nat) (f : Engine → Engine) : (s.modEngine e f).chan = s.chan := rfl
@[simp] theorem State.modEngine_dec (e : Nat) (f : Engine → Engine) : (s.modEngine e f).dec = s.dec := rfl
@[simp] theorem State.modEngine_players (e : Nat) (f : Engine → Engine) : (s.modEngine e f).players = s.players := rfl
@[simp] theorem State.modEngine_acts (e : Nat) (f : Engine → Engine) : (s.modEngine e f).acts = s.acts := rfl
@[simp] theorem State.modEngine_engines (e : Nat) (f : Engine → Engine) : (s.modEngine e f).engines = vmod s.engines e f := rfl
@[simp] theorem State.modEngine_groups (e : Nat) (f : Engine → Engine) : (s.modEngine e f).groups = s.groups := rfl
@[simp] theorem State.modEngine_traces (e : Nat) (f : Engine → Engine) : (s.modEngine e f).traces = s.traces := rfl
@[simp] theorem State.modEngine_motion (e : Nat) (f : Engine → Engine) : (s.modEngine e f).motion = s.motion := rfl
@[simp] theorem State.modEngine_girth (e : Nat) (f : Engine → Engine) : (s.modEngine e f).girth = s.girth := rfl
@[simp] theorem State.modEngine_host (e : Nat) (f : Engine → Engine) : (s.modEngine e f).host = s.host := rfl
@[simp] theorem State.modEngine_layout (e : Nat) (f : Engine → Engine) : (s.modEngine e f).layout = s.layout := rfl
@[simp] theorem State.modEngine_mem (e : Nat) (f : Engine → Engine) : (s.modEngine e f).mem = s.mem := rfl
@[simp] theorem State.modEngine_fab (e : Nat) (f : Engine → Engine) : (s.modEngine e f).fab = s.fab := rfl
@[simp] theorem State.modEngine_coll (e : Nat) (f : Engine → Engine) : (s.modEngine e f).coll = s.coll := rfl
@[simp] theorem State.modEngine_raised (e : Nat) (f : Engine → Engine) : (s.modEngine e f).raised = s.raised := rfl
@[simp] theorem State.modEngine_outs (e : Nat) (f : Engine → Engine) : (s.modEngine e f).outs = s.outs := rfl
@[simp] theorem State.modEngine_free (e : Nat) (f : Engine → Engine) : (s.modEngine e f).free = s.free := rfl
@[simp] theorem State.modEngine_pending (e : Nat) (f : Engine → Engine) : (s.modEngine e f).pending = s.pending := rfl

/-! ### modGroup -/

@[simp] theorem State.modGroup_objs (g : Nat) (f : Group → Group) : (s.modGroup g f).objs = s.objs := rfl
@[simp] theorem State.modGroup_power (g : Nat) (f : Group → Group) : (s.modGroup g f).power = s.power := rfl
@[simp] theorem State.modGroup_dict (g : Nat) (f : Group → Group) : (s.modGroup g f).dict = s.dict := rfl
@[simp] theorem State.modGroup_start (g : Nat) (f : Group → Group) : (s.modGroup g f).start = s.start := rfl
@[simp] theorem State.modGroup_fw (g : Nat) (f : Group → Group) : (s.modGroup g f).fw = s.fw := rfl
@[simp] theorem State.modGroup_media (g : Nat) (f : Group → Group) : (s.modGroup g f).media = s.media := rfl
@[simp] theorem State.modGroup_chan (g : Nat) (f : Group → Group) : (s.modGroup g f).chan = s.chan := rfl
@[simp] theorem State.modGroup_dec (g : Nat) (f : Group → Group) : (s.modGroup g f).dec = s.dec := rfl
@[simp] theorem State.modGroup_players (g : Nat) (f : Group → Group) : (s.modGroup g f).players = s.players := rfl
@[simp] theorem State.modGroup_acts (g : Nat) (f : Group → Group) : (s.modGroup g f).acts = s.acts := rfl
@[simp] theorem State.modGroup_engines (g : Nat) (f : Group → Group) : (s.modGroup g f).engines = s.engines := rfl
@[simp] theorem State.modGroup_groups (g : Nat) (f : Group → Group) : (s.modGroup g f).groups = vmod s.groups g f := rfl
@[simp] theorem State.modGroup_traces (g : Nat) (f : Group → Group) : (s.modGroup g f).traces = s.traces := rfl
@[simp] theorem State.modGroup_motion (g : Nat) (f : Group → Group) : (s.modGroup g f).motion = s.motion := rfl
@[simp] theorem State.modGroup_girth (g : Nat) (f : Group → Group) : (s.modGroup g f).girth = s.girth := rfl
@[simp] theorem State.modGroup_host (g : Nat) (f : Group → Group) : (s.modGroup g f).host = s.host := rfl
@[simp] theorem State.modGroup_layout (g : Nat) (f : Group → Group) : (s.modGroup g f).layout = s.layout := rfl
@[simp] theorem State.modGroup_mem (g : Nat) (f : Group → Group) : (s.modGroup g f).mem = s.mem := rfl
@[simp] theorem State.modGroup_fab (g : Nat) (f : Group → Group) : (s.modGroup g f).fab = s.fab := rfl
@[simp] theorem State.modGroup_coll (g : Nat) (f : Group → Group) : (s.modGroup g f).coll = s.coll := rfl
@[simp] theorem State.modGroup_raised (g : Nat) (f : Group → Group) : (s.modGroup g f).raised = s.raised := rfl
@[simp] theorem State.modGroup_outs (g : Nat) (f : Group → Group) : (s.modGroup g f).outs = s.outs := rfl
@[simp] theorem State.modGroup_free (g : Nat) (f : Group → Group) : (s.modGroup g f).free = s.free := rfl
@[simp] theorem State.modGroup_pending (g : Nat) (f : Group → Group) : (s.modGroup g f).pending = s.pending := rfl

/-! ### modTrace -/

@[simp] theorem State.modTrace_objs (a : Nat) (f : Trace → Trace) : (s.modTrace a f).objs = s.objs := rfl
@[simp] theorem State.modTrace_power (a : Nat) (f : Trace → Trace) : (s.modTrace a f).power = s.power := rfl
@[simp] theorem State.modTrace_dict (a : Nat) (f : Trace → Trace) : (s.modTrace a f).dict = s.dict := rfl
@[simp] theorem State.modTrace_start (a : Nat) (f : Trace → Trace) : (s.modTrace a f).start = s.start := rfl
@[simp] theorem State.modTrace_fw (a : Nat) (f : Trace → Trace) : (s.modTrace a f).fw = s.fw := rfl
@[simp] theorem State.modTrace_media (a : Nat) (f : Trace → Trace) : (s.modTrace a f).media = s.media := rfl
@[simp] theorem State.modTrace_chan (a : Nat) (f : Trace → Trace) : (s.modTrace a f).chan = s.chan := rfl
@[simp] theorem State.modTrace_dec (a : Nat) (f : Trace → Trace) : (s.modTrace a f).dec = s.dec := rfl
@[simp] theorem State.modTrace_players (a : Nat) (f : Trace → Trace) : (s.modTrace a f).players = s.players := rfl
@[simp] theorem State.modTrace_acts (a : Nat) (f : Trace → Trace) : (s.modTrace a f).acts = s.acts := rfl
@[simp] theorem State.modTrace_engines (a : Nat) (f : Trace → Trace) : (s.modTrace a f).engines = s.engines := rfl
@[simp] theorem State.modTrace_groups (a : Nat) (f : Trace → Trace) : (s.modTrace a f).groups = s.groups := rfl
@[simp] theorem State.modTrace_traces (a : Nat) (f : Trace → Trace) : (s.modTrace a f).traces = vmod s.traces a f := rfl
@[simp] theorem State.modTrace_motion (a : Nat) (f : Trace → Trace) : (s.modTrace a f).motion = s.motion := rfl
@[simp] theorem State.modTrace_girth (a : Nat) (f : Trace → Trace) : (s.modTrace a f).girth = s.girth := rfl
@[simp] theorem State.modTrace_host (a : Nat) (f : Trace → Trace) : (s.modTrace a f).host = s.host := rfl
@[simp] theorem State.modTrace_layout (a : Nat) (f : Trace → Trace) : (s.modTrace a f).layout = s.layout := rfl
@[simp] theorem State.modTrace_mem (a : Nat) (f : Trace → Trace) : (s.modTrace a f).mem = s.mem := rfl
@[simp] theorem State.modTrace_fab (a : Nat) (f : Trace → Trace) : (s.modTrace a f).fab = s.fab := rfl
@[simp] theorem State.modTrace_coll (a : Nat) (f : Trace → Trace) : (s.modTrace a f).coll = s.coll := rfl
@[simp] theorem State.modTrace_raised (a : Nat) (f : Trace → Trace) : (s.modTrace a f).raised = s.raised := rfl
@[simp] theorem State.modTrace_outs (a : Nat) (f : Trace → Trace) : (s.modTrace a f).outs = s.outs := rfl
@[simp] theorem State.modTrace_free (a : Nat) (f : Trace → Trace) : (s.modTrace a f).free = s.free := rfl
@[simp] theorem State.modTrace_pending (a : Nat) (f : Trace → Trace) : (s.modTrace a f).pending = s.pending := rfl

/-! ### setDec -/

@[simp] theorem State.setDec_objs (d : Decode) : (s.setDec d).objs = s.objs := rfl
@[simp] theorem State.setDec_power (d : Decode) : (s.setDec d).power = s.power := rfl
@[simp] theorem State.setDec_dict (d : Decode) : (s.setDec d).dict = s.dict := rfl
@[simp] theorem State.setDec_start (d : Decode) : (s.setDec d).start = s.start := rfl
@[simp] theorem State.setDec_fw (d : Decode) : (s.setDec d).fw = s.fw := rfl
@[simp] theorem State.setDec_media (d : Decode) : (s.setDec d).media = s.media := rfl
@[simp] theorem State.setDec_chan (d : Decode) : (s.setDec d).chan = s.chan := rfl
@[simp] theorem State.setDec_dec (d : Decode) : (s.setDec d).dec = d := rfl
@[simp] theorem State.setDec_players (d : Decode) : (s.setDec d).players = s.players := rfl
@[simp] theorem State.setDec_acts (d : Decode) : (s.setDec d).acts = s.acts := rfl
@[simp] theorem State.setDec_engines (d : Decode) : (s.setDec d).engines = s.engines := rfl
@[simp] theorem State.setDec_groups (d : Decode) : (s.setDec d).groups = s.groups := rfl
@[simp] theorem State.setDec_traces (d : Decode) : (s.setDec d).traces = s.traces := rfl
@[simp] theorem State.setDec_motion (d : Decode) : (s.setDec d).motion = s.motion := rfl
@[simp] theorem State.setDec_girth (d : Decode) : (s.setDec d).girth = s.girth := rfl
@[simp] theorem State.setDec_host (d : Decode) : (s.setDec d).host = s.host := rfl
@[simp] theorem State.setDec_layout (d : Decode) : (s.setDec d).layout = s.layout := rfl
@[simp] theorem State.setDec_mem (d : Decode) : (s.setDec d).mem = s.mem := rfl
@[simp] theorem State.setDec_fab (d : Decode) : (s.setDec d).fab = s.fab := rfl
@[simp] theorem State.setDec_coll (d : Decode) : (s.setDec d).coll = s.coll := rfl
@[simp] theorem State.setDec_raised (d : Decode) : (s.setDec d).raised = s.raised := rfl
@[simp] theorem State.setDec_outs (d : Decode) : (s.setDec d).outs = s.outs := rfl
@[simp] theorem State.setDec_free (d : Decode) : (s.setDec d).free = s.free := rfl
@[simp] theorem State.setDec_pending (d : Decode) : (s.setDec d).pending = s.pending := rfl

/-! ### setFab -/

@[simp] theorem State.setFab_objs (f : Fabric) : (s.setFab f).objs = s.objs := rfl
@[simp] theorem State.setFab_power (f : Fabric) : (s.setFab f).power = s.power := rfl
@[simp] theorem State.setFab_dict (f : Fabric) : (s.setFab f).dict = s.dict := rfl
@[simp] theorem State.setFab_start (f : Fabric) : (s.setFab f).start = s.start := rfl
@[simp] theorem State.setFab_fw (f : Fabric) : (s.setFab f).fw = s.fw := rfl
@[simp] theorem State.setFab_media (f : Fabric) : (s.setFab f).media = s.media := rfl
@[simp] theorem State.setFab_chan (f : Fabric) : (s.setFab f).chan = s.chan := rfl
@[simp] theorem State.setFab_dec (f : Fabric) : (s.setFab f).dec = s.dec := rfl
@[simp] theorem State.setFab_players (f : Fabric) : (s.setFab f).players = s.players := rfl
@[simp] theorem State.setFab_acts (f : Fabric) : (s.setFab f).acts = s.acts := rfl
@[simp] theorem State.setFab_engines (f : Fabric) : (s.setFab f).engines = s.engines := rfl
@[simp] theorem State.setFab_groups (f : Fabric) : (s.setFab f).groups = s.groups := rfl
@[simp] theorem State.setFab_traces (f : Fabric) : (s.setFab f).traces = s.traces := rfl
@[simp] theorem State.setFab_motion (f : Fabric) : (s.setFab f).motion = s.motion := rfl
@[simp] theorem State.setFab_girth (f : Fabric) : (s.setFab f).girth = s.girth := rfl
@[simp] theorem State.setFab_host (f : Fabric) : (s.setFab f).host = s.host := rfl
@[simp] theorem State.setFab_layout (f : Fabric) : (s.setFab f).layout = s.layout := rfl
@[simp] theorem State.setFab_mem (f : Fabric) : (s.setFab f).mem = s.mem := rfl
@[simp] theorem State.setFab_fab (f : Fabric) : (s.setFab f).fab = f := rfl
@[simp] theorem State.setFab_coll (f : Fabric) : (s.setFab f).coll = s.coll := rfl
@[simp] theorem State.setFab_raised (f : Fabric) : (s.setFab f).raised = s.raised := rfl
@[simp] theorem State.setFab_outs (f : Fabric) : (s.setFab f).outs = s.outs := rfl
@[simp] theorem State.setFab_free (f : Fabric) : (s.setFab f).free = s.free := rfl
@[simp] theorem State.setFab_pending (f : Fabric) : (s.setFab f).pending = s.pending := rfl

/-! ### modDma -/

@[simp] theorem State.modDma_objs (ch : Nat) (f : DmaCh → DmaCh) : (s.modDma ch f).objs = s.objs := rfl
@[simp] theorem State.modDma_power (ch : Nat) (f : DmaCh → DmaCh) : (s.modDma ch f).power = s.power := rfl
@[simp] theorem State.modDma_dict (ch : Nat) (f : DmaCh → DmaCh) : (s.modDma ch f).dict = s.dict := rfl
@[simp] theorem State.modDma_start (ch : Nat) (f : DmaCh → DmaCh) : (s.modDma ch f).start = s.start := rfl
@[simp] theorem State.modDma_fw (ch : Nat) (f : DmaCh → DmaCh) : (s.modDma ch f).fw = s.fw := rfl
@[simp] theorem State.modDma_media (ch : Nat) (f : DmaCh → DmaCh) : (s.modDma ch f).media = s.media := rfl
@[simp] theorem State.modDma_chan (ch : Nat) (f : DmaCh → DmaCh) : (s.modDma ch f).chan = s.chan := rfl
@[simp] theorem State.modDma_dec (ch : Nat) (f : DmaCh → DmaCh) : (s.modDma ch f).dec = s.dec := rfl
@[simp] theorem State.modDma_players (ch : Nat) (f : DmaCh → DmaCh) : (s.modDma ch f).players = s.players := rfl
@[simp] theorem State.modDma_acts (ch : Nat) (f : DmaCh → DmaCh) : (s.modDma ch f).acts = s.acts := rfl
@[simp] theorem State.modDma_engines (ch : Nat) (f : DmaCh → DmaCh) : (s.modDma ch f).engines = s.engines := rfl
@[simp] theorem State.modDma_groups (ch : Nat) (f : DmaCh → DmaCh) : (s.modDma ch f).groups = s.groups := rfl
@[simp] theorem State.modDma_traces (ch : Nat) (f : DmaCh → DmaCh) : (s.modDma ch f).traces = s.traces := rfl
@[simp] theorem State.modDma_motion (ch : Nat) (f : DmaCh → DmaCh) : (s.modDma ch f).motion = s.motion := rfl
@[simp] theorem State.modDma_girth (ch : Nat) (f : DmaCh → DmaCh) : (s.modDma ch f).girth = s.girth := rfl
@[simp] theorem State.modDma_host (ch : Nat) (f : DmaCh → DmaCh) : (s.modDma ch f).host = s.host := rfl
@[simp] theorem State.modDma_layout (ch : Nat) (f : DmaCh → DmaCh) : (s.modDma ch f).layout = s.layout := rfl
@[simp] theorem State.modDma_mem (ch : Nat) (f : DmaCh → DmaCh) : (s.modDma ch f).mem = s.mem := rfl
@[simp] theorem State.modDma_fab (ch : Nat) (f : DmaCh → DmaCh) : (s.modDma ch f).fab = { s.fab with dma := vmod s.fab.dma ch f } := rfl
@[simp] theorem State.modDma_coll (ch : Nat) (f : DmaCh → DmaCh) : (s.modDma ch f).coll = s.coll := rfl
@[simp] theorem State.modDma_raised (ch : Nat) (f : DmaCh → DmaCh) : (s.modDma ch f).raised = s.raised := rfl
@[simp] theorem State.modDma_outs (ch : Nat) (f : DmaCh → DmaCh) : (s.modDma ch f).outs = s.outs := rfl
@[simp] theorem State.modDma_free (ch : Nat) (f : DmaCh → DmaCh) : (s.modDma ch f).free = s.free := rfl
@[simp] theorem State.modDma_pending (ch : Nat) (f : DmaCh → DmaCh) : (s.modDma ch f).pending = s.pending := rfl

/-! ### setMotion -/

@[simp] theorem State.setMotion_objs (m : Motion) : (s.setMotion m).objs = s.objs := rfl
@[simp] theorem State.setMotion_power (m : Motion) : (s.setMotion m).power = s.power := rfl
@[simp] theorem State.setMotion_dict (m : Motion) : (s.setMotion m).dict = s.dict := rfl
@[simp] theorem State.setMotion_start (m : Motion) : (s.setMotion m).start = s.start := rfl
@[simp] theorem State.setMotion_fw (m : Motion) : (s.setMotion m).fw = s.fw := rfl
@[simp] theorem State.setMotion_media (m : Motion) : (s.setMotion m).media = s.media := rfl
@[simp] theorem State.setMotion_chan (m : Motion) : (s.setMotion m).chan = s.chan := rfl
@[simp] theorem State.setMotion_dec (m : Motion) : (s.setMotion m).dec = s.dec := rfl
@[simp] theorem State.setMotion_players (m : Motion) : (s.setMotion m).players = s.players := rfl
@[simp] theorem State.setMotion_acts (m : Motion) : (s.setMotion m).acts = s.acts := rfl
@[simp] theorem State.setMotion_engines (m : Motion) : (s.setMotion m).engines = s.engines := rfl
@[simp] theorem State.setMotion_groups (m : Motion) : (s.setMotion m).groups = s.groups := rfl
@[simp] theorem State.setMotion_traces (m : Motion) : (s.setMotion m).traces = s.traces := rfl
@[simp] theorem State.setMotion_motion (m : Motion) : (s.setMotion m).motion = m := rfl
@[simp] theorem State.setMotion_girth (m : Motion) : (s.setMotion m).girth = s.girth := rfl
@[simp] theorem State.setMotion_host (m : Motion) : (s.setMotion m).host = s.host := rfl
@[simp] theorem State.setMotion_layout (m : Motion) : (s.setMotion m).layout = s.layout := rfl
@[simp] theorem State.setMotion_mem (m : Motion) : (s.setMotion m).mem = s.mem := rfl
@[simp] theorem State.setMotion_fab (m : Motion) : (s.setMotion m).fab = s.fab := rfl
@[simp] theorem State.setMotion_coll (m : Motion) : (s.setMotion m).coll = s.coll := rfl
@[simp] theorem State.setMotion_raised (m : Motion) : (s.setMotion m).raised = s.raised := rfl
@[simp] theorem State.setMotion_outs (m : Motion) : (s.setMotion m).outs = s.outs := rfl
@[simp] theorem State.setMotion_free (m : Motion) : (s.setMotion m).free = s.free := rfl
@[simp] theorem State.setMotion_pending (m : Motion) : (s.setMotion m).pending = s.pending := rfl

/-! ### setGirth -/

@[simp] theorem State.setGirth_objs (g : Girth) : (s.setGirth g).objs = s.objs := rfl
@[simp] theorem State.setGirth_power (g : Girth) : (s.setGirth g).power = s.power := rfl
@[simp] theorem State.setGirth_dict (g : Girth) : (s.setGirth g).dict = s.dict := rfl
@[simp] theorem State.setGirth_start (g : Girth) : (s.setGirth g).start = s.start := rfl
@[simp] theorem State.setGirth_fw (g : Girth) : (s.setGirth g).fw = s.fw := rfl
@[simp] theorem State.setGirth_media (g : Girth) : (s.setGirth g).media = s.media := rfl
@[simp] theorem State.setGirth_chan (g : Girth) : (s.setGirth g).chan = s.chan := rfl
@[simp] theorem State.setGirth_dec (g : Girth) : (s.setGirth g).dec = s.dec := rfl
@[simp] theorem State.setGirth_players (g : Girth) : (s.setGirth g).players = s.players := rfl
@[simp] theorem State.setGirth_acts (g : Girth) : (s.setGirth g).acts = s.acts := rfl
@[simp] theorem State.setGirth_engines (g : Girth) : (s.setGirth g).engines = s.engines := rfl
@[simp] theorem State.setGirth_groups (g : Girth) : (s.setGirth g).groups = s.groups := rfl
@[simp] theorem State.setGirth_traces (g : Girth) : (s.setGirth g).traces = s.traces := rfl
@[simp] theorem State.setGirth_motion (g : Girth) : (s.setGirth g).motion = s.motion := rfl
@[simp] theorem State.setGirth_girth (g : Girth) : (s.setGirth g).girth = g := rfl
@[simp] theorem State.setGirth_host (g : Girth) : (s.setGirth g).host = s.host := rfl
@[simp] theorem State.setGirth_layout (g : Girth) : (s.setGirth g).layout = s.layout := rfl
@[simp] theorem State.setGirth_mem (g : Girth) : (s.setGirth g).mem = s.mem := rfl
@[simp] theorem State.setGirth_fab (g : Girth) : (s.setGirth g).fab = s.fab := rfl
@[simp] theorem State.setGirth_coll (g : Girth) : (s.setGirth g).coll = s.coll := rfl
@[simp] theorem State.setGirth_raised (g : Girth) : (s.setGirth g).raised = s.raised := rfl
@[simp] theorem State.setGirth_outs (g : Girth) : (s.setGirth g).outs = s.outs := rfl
@[simp] theorem State.setGirth_free (g : Girth) : (s.setGirth g).free = s.free := rfl
@[simp] theorem State.setGirth_pending (g : Girth) : (s.setGirth g).pending = s.pending := rfl

/-! ### setHost -/

@[simp] theorem State.setHost_objs (h : HostIf) : (s.setHost h).objs = s.objs := rfl
@[simp] theorem State.setHost_power (h : HostIf) : (s.setHost h).power = s.power := rfl
@[simp] theorem State.setHost_dict (h : HostIf) : (s.setHost h).dict = s.dict := rfl
@[simp] theorem State.setHost_start (h : HostIf) : (s.setHost h).start = s.start := rfl
@[simp] theorem State.setHost_fw (h : HostIf) : (s.setHost h).fw = s.fw := rfl
@[simp] theorem State.setHost_media (h : HostIf) : (s.setHost h).media = s.media := rfl
@[simp] theorem State.setHost_chan (h : HostIf) : (s.setHost h).chan = s.chan := rfl
@[simp] theorem State.setHost_dec (h : HostIf) : (s.setHost h).dec = s.dec := rfl
@[simp] theorem State.setHost_players (h : HostIf) : (s.setHost h).players = s.players := rfl
@[simp] theorem State.setHost_acts (h : HostIf) : (s.setHost h).acts = s.acts := rfl
@[simp] theorem State.setHost_engines (h : HostIf) : (s.setHost h).engines = s.engines := rfl
@[simp] theorem State.setHost_groups (h : HostIf) : (s.setHost h).groups = s.groups := rfl
@[simp] theorem State.setHost_traces (h : HostIf) : (s.setHost h).traces = s.traces := rfl
@[simp] theorem State.setHost_motion (h : HostIf) : (s.setHost h).motion = s.motion := rfl
@[simp] theorem State.setHost_girth (h : HostIf) : (s.setHost h).girth = s.girth := rfl
@[simp] theorem State.setHost_host (h : HostIf) : (s.setHost h).host = h := rfl
@[simp] theorem State.setHost_layout (h : HostIf) : (s.setHost h).layout = s.layout := rfl
@[simp] theorem State.setHost_mem (h : HostIf) : (s.setHost h).mem = s.mem := rfl
@[simp] theorem State.setHost_fab (h : HostIf) : (s.setHost h).fab = s.fab := rfl
@[simp] theorem State.setHost_coll (h : HostIf) : (s.setHost h).coll = s.coll := rfl
@[simp] theorem State.setHost_raised (h : HostIf) : (s.setHost h).raised = s.raised := rfl
@[simp] theorem State.setHost_outs (h : HostIf) : (s.setHost h).outs = s.outs := rfl
@[simp] theorem State.setHost_free (h : HostIf) : (s.setHost h).free = s.free := rfl
@[simp] theorem State.setHost_pending (h : HostIf) : (s.setHost h).pending = s.pending := rfl

/-! ### setColl -/

@[simp] theorem State.setColl_objs (c : Collector) : (s.setColl c).objs = s.objs := rfl
@[simp] theorem State.setColl_power (c : Collector) : (s.setColl c).power = s.power := rfl
@[simp] theorem State.setColl_dict (c : Collector) : (s.setColl c).dict = s.dict := rfl
@[simp] theorem State.setColl_start (c : Collector) : (s.setColl c).start = s.start := rfl
@[simp] theorem State.setColl_fw (c : Collector) : (s.setColl c).fw = s.fw := rfl
@[simp] theorem State.setColl_media (c : Collector) : (s.setColl c).media = s.media := rfl
@[simp] theorem State.setColl_chan (c : Collector) : (s.setColl c).chan = s.chan := rfl
@[simp] theorem State.setColl_dec (c : Collector) : (s.setColl c).dec = s.dec := rfl
@[simp] theorem State.setColl_players (c : Collector) : (s.setColl c).players = s.players := rfl
@[simp] theorem State.setColl_acts (c : Collector) : (s.setColl c).acts = s.acts := rfl
@[simp] theorem State.setColl_engines (c : Collector) : (s.setColl c).engines = s.engines := rfl
@[simp] theorem State.setColl_groups (c : Collector) : (s.setColl c).groups = s.groups := rfl
@[simp] theorem State.setColl_traces (c : Collector) : (s.setColl c).traces = s.traces := rfl
@[simp] theorem State.setColl_motion (c : Collector) : (s.setColl c).motion = s.motion := rfl
@[simp] theorem State.setColl_girth (c : Collector) : (s.setColl c).girth = s.girth := rfl
@[simp] theorem State.setColl_host (c : Collector) : (s.setColl c).host = s.host := rfl
@[simp] theorem State.setColl_layout (c : Collector) : (s.setColl c).layout = s.layout := rfl
@[simp] theorem State.setColl_mem (c : Collector) : (s.setColl c).mem = s.mem := rfl
@[simp] theorem State.setColl_fab (c : Collector) : (s.setColl c).fab = s.fab := rfl
@[simp] theorem State.setColl_coll (c : Collector) : (s.setColl c).coll = c := rfl
@[simp] theorem State.setColl_raised (c : Collector) : (s.setColl c).raised = s.raised := rfl
@[simp] theorem State.setColl_outs (c : Collector) : (s.setColl c).outs = s.outs := rfl
@[simp] theorem State.setColl_free (c : Collector) : (s.setColl c).free = s.free := rfl
@[simp] theorem State.setColl_pending (c : Collector) : (s.setColl c).pending = s.pending := rfl

/-! ### setStart -/

@[simp] theorem State.setStart_objs (t : Start) : (s.setStart t).objs = s.objs := rfl
@[simp] theorem State.setStart_power (t : Start) : (s.setStart t).power = s.power := rfl
@[simp] theorem State.setStart_dict (t : Start) : (s.setStart t).dict = s.dict := rfl
@[simp] theorem State.setStart_start (t : Start) : (s.setStart t).start = t := rfl
@[simp] theorem State.setStart_fw (t : Start) : (s.setStart t).fw = s.fw := rfl
@[simp] theorem State.setStart_media (t : Start) : (s.setStart t).media = s.media := rfl
@[simp] theorem State.setStart_chan (t : Start) : (s.setStart t).chan = s.chan := rfl
@[simp] theorem State.setStart_dec (t : Start) : (s.setStart t).dec = s.dec := rfl
@[simp] theorem State.setStart_players (t : Start) : (s.setStart t).players = s.players := rfl
@[simp] theorem State.setStart_acts (t : Start) : (s.setStart t).acts = s.acts := rfl
@[simp] theorem State.setStart_engines (t : Start) : (s.setStart t).engines = s.engines := rfl
@[simp] theorem State.setStart_groups (t : Start) : (s.setStart t).groups = s.groups := rfl
@[simp] theorem State.setStart_traces (t : Start) : (s.setStart t).traces = s.traces := rfl
@[simp] theorem State.setStart_motion (t : Start) : (s.setStart t).motion = s.motion := rfl
@[simp] theorem State.setStart_girth (t : Start) : (s.setStart t).girth = s.girth := rfl
@[simp] theorem State.setStart_host (t : Start) : (s.setStart t).host = s.host := rfl
@[simp] theorem State.setStart_layout (t : Start) : (s.setStart t).layout = s.layout := rfl
@[simp] theorem State.setStart_mem (t : Start) : (s.setStart t).mem = s.mem := rfl
@[simp] theorem State.setStart_fab (t : Start) : (s.setStart t).fab = s.fab := rfl
@[simp] theorem State.setStart_coll (t : Start) : (s.setStart t).coll = s.coll := rfl
@[simp] theorem State.setStart_raised (t : Start) : (s.setStart t).raised = s.raised := rfl
@[simp] theorem State.setStart_outs (t : Start) : (s.setStart t).outs = s.outs := rfl
@[simp] theorem State.setStart_free (t : Start) : (s.setStart t).free = s.free := rfl
@[simp] theorem State.setStart_pending (t : Start) : (s.setStart t).pending = s.pending := rfl

/-! ### setPower -/

@[simp] theorem State.setPower_objs (p : Power) : (s.setPower p).objs = s.objs := rfl
@[simp] theorem State.setPower_power (p : Power) : (s.setPower p).power = p := rfl
@[simp] theorem State.setPower_dict (p : Power) : (s.setPower p).dict = s.dict := rfl
@[simp] theorem State.setPower_start (p : Power) : (s.setPower p).start = s.start := rfl
@[simp] theorem State.setPower_fw (p : Power) : (s.setPower p).fw = s.fw := rfl
@[simp] theorem State.setPower_media (p : Power) : (s.setPower p).media = s.media := rfl
@[simp] theorem State.setPower_chan (p : Power) : (s.setPower p).chan = s.chan := rfl
@[simp] theorem State.setPower_dec (p : Power) : (s.setPower p).dec = s.dec := rfl
@[simp] theorem State.setPower_players (p : Power) : (s.setPower p).players = s.players := rfl
@[simp] theorem State.setPower_acts (p : Power) : (s.setPower p).acts = s.acts := rfl
@[simp] theorem State.setPower_engines (p : Power) : (s.setPower p).engines = s.engines := rfl
@[simp] theorem State.setPower_groups (p : Power) : (s.setPower p).groups = s.groups := rfl
@[simp] theorem State.setPower_traces (p : Power) : (s.setPower p).traces = s.traces := rfl
@[simp] theorem State.setPower_motion (p : Power) : (s.setPower p).motion = s.motion := rfl
@[simp] theorem State.setPower_girth (p : Power) : (s.setPower p).girth = s.girth := rfl
@[simp] theorem State.setPower_host (p : Power) : (s.setPower p).host = s.host := rfl
@[simp] theorem State.setPower_layout (p : Power) : (s.setPower p).layout = s.layout := rfl
@[simp] theorem State.setPower_mem (p : Power) : (s.setPower p).mem = s.mem := rfl
@[simp] theorem State.setPower_fab (p : Power) : (s.setPower p).fab = s.fab := rfl
@[simp] theorem State.setPower_coll (p : Power) : (s.setPower p).coll = s.coll := rfl
@[simp] theorem State.setPower_raised (p : Power) : (s.setPower p).raised = s.raised := rfl
@[simp] theorem State.setPower_outs (p : Power) : (s.setPower p).outs = s.outs := rfl
@[simp] theorem State.setPower_free (p : Power) : (s.setPower p).free = s.free := rfl
@[simp] theorem State.setPower_pending (p : Power) : (s.setPower p).pending = s.pending := rfl

/-! ### setMem -/

@[simp] theorem State.setMem_objs (m : Memory) : (s.setMem m).objs = s.objs := rfl
@[simp] theorem State.setMem_power (m : Memory) : (s.setMem m).power = s.power := rfl
@[simp] theorem State.setMem_dict (m : Memory) : (s.setMem m).dict = s.dict := rfl
@[simp] theorem State.setMem_start (m : Memory) : (s.setMem m).start = s.start := rfl
@[simp] theorem State.setMem_fw (m : Memory) : (s.setMem m).fw = s.fw := rfl
@[simp] theorem State.setMem_media (m : Memory) : (s.setMem m).media = s.media := rfl
@[simp] theorem State.setMem_chan (m : Memory) : (s.setMem m).chan = s.chan := rfl
@[simp] theorem State.setMem_dec (m : Memory) : (s.setMem m).dec = s.dec := rfl
@[simp] theorem State.setMem_players (m : Memory) : (s.setMem m).players = s.players := rfl
@[simp] theorem State.setMem_acts (m : Memory) : (s.setMem m).acts = s.acts := rfl
@[simp] theorem State.setMem_engines (m : Memory) : (s.setMem m).engines = s.engines := rfl
@[simp] theorem State.setMem_groups (m : Memory) : (s.setMem m).groups = s.groups := rfl
@[simp] theorem State.setMem_traces (m : Memory) : (s.setMem m).traces = s.traces := rfl
@[simp] theorem State.setMem_motion (m : Memory) : (s.setMem m).motion = s.motion := rfl
@[simp] theorem State.setMem_girth (m : Memory) : (s.setMem m).girth = s.girth := rfl
@[simp] theorem State.setMem_host (m : Memory) : (s.setMem m).host = s.host := rfl
@[simp] theorem State.setMem_layout (m : Memory) : (s.setMem m).layout = s.layout := rfl
@[simp] theorem State.setMem_mem (m : Memory) : (s.setMem m).mem = m := rfl
@[simp] theorem State.setMem_fab (m : Memory) : (s.setMem m).fab = s.fab := rfl
@[simp] theorem State.setMem_coll (m : Memory) : (s.setMem m).coll = s.coll := rfl
@[simp] theorem State.setMem_raised (m : Memory) : (s.setMem m).raised = s.raised := rfl
@[simp] theorem State.setMem_outs (m : Memory) : (s.setMem m).outs = s.outs := rfl
@[simp] theorem State.setMem_free (m : Memory) : (s.setMem m).free = s.free := rfl
@[simp] theorem State.setMem_pending (m : Memory) : (s.setMem m).pending = s.pending := rfl

/-! ### setLayout -/

@[simp] theorem State.setLayout_objs (l : Layout) : (s.setLayout l).objs = s.objs := rfl
@[simp] theorem State.setLayout_power (l : Layout) : (s.setLayout l).power = s.power := rfl
@[simp] theorem State.setLayout_dict (l : Layout) : (s.setLayout l).dict = s.dict := rfl
@[simp] theorem State.setLayout_start (l : Layout) : (s.setLayout l).start = s.start := rfl
@[simp] theorem State.setLayout_fw (l : Layout) : (s.setLayout l).fw = s.fw := rfl
@[simp] theorem State.setLayout_media (l : Layout) : (s.setLayout l).media = s.media := rfl
@[simp] theorem State.setLayout_chan (l : Layout) : (s.setLayout l).chan = s.chan := rfl
@[simp] theorem State.setLayout_dec (l : Layout) : (s.setLayout l).dec = s.dec := rfl
@[simp] theorem State.setLayout_players (l : Layout) : (s.setLayout l).players = s.players := rfl
@[simp] theorem State.setLayout_acts (l : Layout) : (s.setLayout l).acts = s.acts := rfl
@[simp] theorem State.setLayout_engines (l : Layout) : (s.setLayout l).engines = s.engines := rfl
@[simp] theorem State.setLayout_groups (l : Layout) : (s.setLayout l).groups = s.groups := rfl
@[simp] theorem State.setLayout_traces (l : Layout) : (s.setLayout l).traces = s.traces := rfl
@[simp] theorem State.setLayout_motion (l : Layout) : (s.setLayout l).motion = s.motion := rfl
@[simp] theorem State.setLayout_girth (l : Layout) : (s.setLayout l).girth = s.girth := rfl
@[simp] theorem State.setLayout_host (l : Layout) : (s.setLayout l).host = s.host := rfl
@[simp] theorem State.setLayout_layout (l : Layout) : (s.setLayout l).layout = l := rfl
@[simp] theorem State.setLayout_mem (l : Layout) : (s.setLayout l).mem = s.mem := rfl
@[simp] theorem State.setLayout_fab (l : Layout) : (s.setLayout l).fab = s.fab := rfl
@[simp] theorem State.setLayout_coll (l : Layout) : (s.setLayout l).coll = s.coll := rfl
@[simp] theorem State.setLayout_raised (l : Layout) : (s.setLayout l).raised = s.raised := rfl
@[simp] theorem State.setLayout_outs (l : Layout) : (s.setLayout l).outs = s.outs := rfl
@[simp] theorem State.setLayout_free (l : Layout) : (s.setLayout l).free = s.free := rfl
@[simp] theorem State.setLayout_pending (l : Layout) : (s.setLayout l).pending = s.pending := rfl

/-! ### setFw -/

@[simp] theorem State.setFw_objs (f : Firmware) : (s.setFw f).objs = s.objs := rfl
@[simp] theorem State.setFw_power (f : Firmware) : (s.setFw f).power = s.power := rfl
@[simp] theorem State.setFw_dict (f : Firmware) : (s.setFw f).dict = s.dict := rfl
@[simp] theorem State.setFw_start (f : Firmware) : (s.setFw f).start = s.start := rfl
@[simp] theorem State.setFw_fw (f : Firmware) : (s.setFw f).fw = f := rfl
@[simp] theorem State.setFw_media (f : Firmware) : (s.setFw f).media = s.media := rfl
@[simp] theorem State.setFw_chan (f : Firmware) : (s.setFw f).chan = s.chan := rfl
@[simp] theorem State.setFw_dec (f : Firmware) : (s.setFw f).dec = s.dec := rfl
@[simp] theorem State.setFw_players (f : Firmware) : (s.setFw f).players = s.players := rfl
@[simp] theorem State.setFw_acts (f : Firmware) : (s.setFw f).acts = s.acts := rfl
@[simp] theorem State.setFw_engines (f : Firmware) : (s.setFw f).engines = s.engines := rfl
@[simp] theorem State.setFw_groups (f : Firmware) : (s.setFw f).groups = s.groups := rfl
@[simp] theorem State.setFw_traces (f : Firmware) : (s.setFw f).traces = s.traces := rfl
@[simp] theorem State.setFw_motion (f : Firmware) : (s.setFw f).motion = s.motion := rfl
@[simp] theorem State.setFw_girth (f : Firmware) : (s.setFw f).girth = s.girth := rfl
@[simp] theorem State.setFw_host (f : Firmware) : (s.setFw f).host = s.host := rfl
@[simp] theorem State.setFw_layout (f : Firmware) : (s.setFw f).layout = s.layout := rfl
@[simp] theorem State.setFw_mem (f : Firmware) : (s.setFw f).mem = s.mem := rfl
@[simp] theorem State.setFw_fab (f : Firmware) : (s.setFw f).fab = s.fab := rfl
@[simp] theorem State.setFw_coll (f : Firmware) : (s.setFw f).coll = s.coll := rfl
@[simp] theorem State.setFw_raised (f : Firmware) : (s.setFw f).raised = s.raised := rfl
@[simp] theorem State.setFw_outs (f : Firmware) : (s.setFw f).outs = s.outs := rfl
@[simp] theorem State.setFw_free (f : Firmware) : (s.setFw f).free = s.free := rfl
@[simp] theorem State.setFw_pending (f : Firmware) : (s.setFw f).pending = s.pending := rfl

/-! ### setMedia -/

@[simp] theorem State.setMedia_objs (m : Media) : (s.setMedia m).objs = s.objs := rfl
@[simp] theorem State.setMedia_power (m : Media) : (s.setMedia m).power = s.power := rfl
@[simp] theorem State.setMedia_dict (m : Media) : (s.setMedia m).dict = s.dict := rfl
@[simp] theorem State.setMedia_start (m : Media) : (s.setMedia m).start = s.start := rfl
@[simp] theorem State.setMedia_fw (m : Media) : (s.setMedia m).fw = s.fw := rfl
@[simp] theorem State.setMedia_media (m : Media) : (s.setMedia m).media = m := rfl
@[simp] theorem State.setMedia_chan (m : Media) : (s.setMedia m).chan = s.chan := rfl
@[simp] theorem State.setMedia_dec (m : Media) : (s.setMedia m).dec = s.dec := rfl
@[simp] theorem State.setMedia_players (m : Media) : (s.setMedia m).players = s.players := rfl
@[simp] theorem State.setMedia_acts (m : Media) : (s.setMedia m).acts = s.acts := rfl
@[simp] theorem State.setMedia_engines (m : Media) : (s.setMedia m).engines = s.engines := rfl
@[simp] theorem State.setMedia_groups (m : Media) : (s.setMedia m).groups = s.groups := rfl
@[simp] theorem State.setMedia_traces (m : Media) : (s.setMedia m).traces = s.traces := rfl
@[simp] theorem State.setMedia_motion (m : Media) : (s.setMedia m).motion = s.motion := rfl
@[simp] theorem State.setMedia_girth (m : Media) : (s.setMedia m).girth = s.girth := rfl
@[simp] theorem State.setMedia_host (m : Media) : (s.setMedia m).host = s.host := rfl
@[simp] theorem State.setMedia_layout (m : Media) : (s.setMedia m).layout = s.layout := rfl
@[simp] theorem State.setMedia_mem (m : Media) : (s.setMedia m).mem = s.mem := rfl
@[simp] theorem State.setMedia_fab (m : Media) : (s.setMedia m).fab = s.fab := rfl
@[simp] theorem State.setMedia_coll (m : Media) : (s.setMedia m).coll = s.coll := rfl
@[simp] theorem State.setMedia_raised (m : Media) : (s.setMedia m).raised = s.raised := rfl
@[simp] theorem State.setMedia_outs (m : Media) : (s.setMedia m).outs = s.outs := rfl
@[simp] theorem State.setMedia_free (m : Media) : (s.setMedia m).free = s.free := rfl
@[simp] theorem State.setMedia_pending (m : Media) : (s.setMedia m).pending = s.pending := rfl

/-! ### setDict -/

@[simp] theorem State.setDict_objs (d : DictSvc) : (s.setDict d).objs = s.objs := rfl
@[simp] theorem State.setDict_power (d : DictSvc) : (s.setDict d).power = s.power := rfl
@[simp] theorem State.setDict_dict (d : DictSvc) : (s.setDict d).dict = d := rfl
@[simp] theorem State.setDict_start (d : DictSvc) : (s.setDict d).start = s.start := rfl
@[simp] theorem State.setDict_fw (d : DictSvc) : (s.setDict d).fw = s.fw := rfl
@[simp] theorem State.setDict_media (d : DictSvc) : (s.setDict d).media = s.media := rfl
@[simp] theorem State.setDict_chan (d : DictSvc) : (s.setDict d).chan = s.chan := rfl
@[simp] theorem State.setDict_dec (d : DictSvc) : (s.setDict d).dec = s.dec := rfl
@[simp] theorem State.setDict_players (d : DictSvc) : (s.setDict d).players = s.players := rfl
@[simp] theorem State.setDict_acts (d : DictSvc) : (s.setDict d).acts = s.acts := rfl
@[simp] theorem State.setDict_engines (d : DictSvc) : (s.setDict d).engines = s.engines := rfl
@[simp] theorem State.setDict_groups (d : DictSvc) : (s.setDict d).groups = s.groups := rfl
@[simp] theorem State.setDict_traces (d : DictSvc) : (s.setDict d).traces = s.traces := rfl
@[simp] theorem State.setDict_motion (d : DictSvc) : (s.setDict d).motion = s.motion := rfl
@[simp] theorem State.setDict_girth (d : DictSvc) : (s.setDict d).girth = s.girth := rfl
@[simp] theorem State.setDict_host (d : DictSvc) : (s.setDict d).host = s.host := rfl
@[simp] theorem State.setDict_layout (d : DictSvc) : (s.setDict d).layout = s.layout := rfl
@[simp] theorem State.setDict_mem (d : DictSvc) : (s.setDict d).mem = s.mem := rfl
@[simp] theorem State.setDict_fab (d : DictSvc) : (s.setDict d).fab = s.fab := rfl
@[simp] theorem State.setDict_coll (d : DictSvc) : (s.setDict d).coll = s.coll := rfl
@[simp] theorem State.setDict_raised (d : DictSvc) : (s.setDict d).raised = s.raised := rfl
@[simp] theorem State.setDict_outs (d : DictSvc) : (s.setDict d).outs = s.outs := rfl
@[simp] theorem State.setDict_free (d : DictSvc) : (s.setDict d).free = s.free := rfl
@[simp] theorem State.setDict_pending (d : DictSvc) : (s.setDict d).pending = s.pending := rfl

/-! ### setJob -/

@[simp] theorem State.setJob_objs (j : Option StoreJob) : (s.setJob j).objs = s.objs := rfl
@[simp] theorem State.setJob_power (j : Option StoreJob) : (s.setJob j).power = s.power := rfl
@[simp] theorem State.setJob_dict (j : Option StoreJob) : (s.setJob j).dict = { s.dict with job := j } := rfl
@[simp] theorem State.setJob_start (j : Option StoreJob) : (s.setJob j).start = s.start := rfl
@[simp] theorem State.setJob_fw (j : Option StoreJob) : (s.setJob j).fw = s.fw := rfl
@[simp] theorem State.setJob_media (j : Option StoreJob) : (s.setJob j).media = s.media := rfl
@[simp] theorem State.setJob_chan (j : Option StoreJob) : (s.setJob j).chan = s.chan := rfl
@[simp] theorem State.setJob_dec (j : Option StoreJob) : (s.setJob j).dec = s.dec := rfl
@[simp] theorem State.setJob_players (j : Option StoreJob) : (s.setJob j).players = s.players := rfl
@[simp] theorem State.setJob_acts (j : Option StoreJob) : (s.setJob j).acts = s.acts := rfl
@[simp] theorem State.setJob_engines (j : Option StoreJob) : (s.setJob j).engines = s.engines := rfl
@[simp] theorem State.setJob_groups (j : Option StoreJob) : (s.setJob j).groups = s.groups := rfl
@[simp] theorem State.setJob_traces (j : Option StoreJob) : (s.setJob j).traces = s.traces := rfl
@[simp] theorem State.setJob_motion (j : Option StoreJob) : (s.setJob j).motion = s.motion := rfl
@[simp] theorem State.setJob_girth (j : Option StoreJob) : (s.setJob j).girth = s.girth := rfl
@[simp] theorem State.setJob_host (j : Option StoreJob) : (s.setJob j).host = s.host := rfl
@[simp] theorem State.setJob_layout (j : Option StoreJob) : (s.setJob j).layout = s.layout := rfl
@[simp] theorem State.setJob_mem (j : Option StoreJob) : (s.setJob j).mem = s.mem := rfl
@[simp] theorem State.setJob_fab (j : Option StoreJob) : (s.setJob j).fab = s.fab := rfl
@[simp] theorem State.setJob_coll (j : Option StoreJob) : (s.setJob j).coll = s.coll := rfl
@[simp] theorem State.setJob_raised (j : Option StoreJob) : (s.setJob j).raised = s.raised := rfl
@[simp] theorem State.setJob_outs (j : Option StoreJob) : (s.setJob j).outs = s.outs := rfl
@[simp] theorem State.setJob_free (j : Option StoreJob) : (s.setJob j).free = s.free := rfl
@[simp] theorem State.setJob_pending (j : Option StoreJob) : (s.setJob j).pending = s.pending := rfl

/-! ### modCtrl -/

@[simp] theorem State.modCtrl_objs (p : Port) (f : Controller → Controller) : (s.modCtrl p f).objs = s.objs := rfl
@[simp] theorem State.modCtrl_power (p : Port) (f : Controller → Controller) : (s.modCtrl p f).power = s.power := rfl
@[simp] theorem State.modCtrl_dict (p : Port) (f : Controller → Controller) : (s.modCtrl p f).dict = s.dict := rfl
@[simp] theorem State.modCtrl_start (p : Port) (f : Controller → Controller) : (s.modCtrl p f).start = s.start := rfl
@[simp] theorem State.modCtrl_fw (p : Port) (f : Controller → Controller) : (s.modCtrl p f).fw = s.fw := rfl
@[simp] theorem State.modCtrl_media (p : Port) (f : Controller → Controller) : (s.modCtrl p f).media = s.media := rfl
@[simp] theorem State.modCtrl_chan (p : Port) (f : Controller → Controller) : (s.modCtrl p f).chan = s.chan := rfl
@[simp] theorem State.modCtrl_dec (p : Port) (f : Controller → Controller) : (s.modCtrl p f).dec = s.dec := rfl
@[simp] theorem State.modCtrl_players (p : Port) (f : Controller → Controller) : (s.modCtrl p f).players = s.players := rfl
@[simp] theorem State.modCtrl_acts (p : Port) (f : Controller → Controller) : (s.modCtrl p f).acts = s.acts := rfl
@[simp] theorem State.modCtrl_engines (p : Port) (f : Controller → Controller) : (s.modCtrl p f).engines = s.engines := rfl
@[simp] theorem State.modCtrl_groups (p : Port) (f : Controller → Controller) : (s.modCtrl p f).groups = s.groups := rfl
@[simp] theorem State.modCtrl_traces (p : Port) (f : Controller → Controller) : (s.modCtrl p f).traces = s.traces := rfl
@[simp] theorem State.modCtrl_motion (p : Port) (f : Controller → Controller) : (s.modCtrl p f).motion = s.motion := rfl
@[simp] theorem State.modCtrl_girth (p : Port) (f : Controller → Controller) : (s.modCtrl p f).girth = s.girth := rfl
@[simp] theorem State.modCtrl_host (p : Port) (f : Controller → Controller) : (s.modCtrl p f).host = { s.host with ctrls := vmod s.host.ctrls (portNo p) f } := by cases p <;> rfl
@[simp] theorem State.modCtrl_layout (p : Port) (f : Controller → Controller) : (s.modCtrl p f).layout = s.layout := rfl
@[simp] theorem State.modCtrl_mem (p : Port) (f : Controller → Controller) : (s.modCtrl p f).mem = s.mem := rfl
@[simp] theorem State.modCtrl_fab (p : Port) (f : Controller → Controller) : (s.modCtrl p f).fab = s.fab := rfl
@[simp] theorem State.modCtrl_coll (p : Port) (f : Controller → Controller) : (s.modCtrl p f).coll = s.coll := rfl
@[simp] theorem State.modCtrl_raised (p : Port) (f : Controller → Controller) : (s.modCtrl p f).raised = s.raised := rfl
@[simp] theorem State.modCtrl_outs (p : Port) (f : Controller → Controller) : (s.modCtrl p f).outs = s.outs := rfl
@[simp] theorem State.modCtrl_free (p : Port) (f : Controller → Controller) : (s.modCtrl p f).free = s.free := rfl
@[simp] theorem State.modCtrl_pending (p : Port) (f : Controller → Controller) : (s.modCtrl p f).pending = s.pending := rfl

/-! ### draw -/

@[simp] theorem State.draw_objs : s.draw.2.objs = s.objs := rfl
@[simp] theorem State.draw_power : s.draw.2.power = s.power := rfl
@[simp] theorem State.draw_dict : s.draw.2.dict = s.dict := rfl
@[simp] theorem State.draw_start : s.draw.2.start = s.start := rfl
@[simp] theorem State.draw_fw : s.draw.2.fw = s.fw := rfl
@[simp] theorem State.draw_media : s.draw.2.media = s.media := rfl
@[simp] theorem State.draw_chan : s.draw.2.chan = s.chan := rfl
@[simp] theorem State.draw_dec : s.draw.2.dec = s.dec := rfl
@[simp] theorem State.draw_players : s.draw.2.players = s.players := rfl
@[simp] theorem State.draw_acts : s.draw.2.acts = s.acts := rfl
@[simp] theorem State.draw_engines : s.draw.2.engines = s.engines := rfl
@[simp] theorem State.draw_groups : s.draw.2.groups = s.groups := rfl
@[simp] theorem State.draw_traces : s.draw.2.traces = s.traces := rfl
@[simp] theorem State.draw_motion : s.draw.2.motion = s.motion := rfl
@[simp] theorem State.draw_girth : s.draw.2.girth = s.girth := rfl
@[simp] theorem State.draw_host : s.draw.2.host = s.host := rfl
@[simp] theorem State.draw_layout : s.draw.2.layout = s.layout := rfl
@[simp] theorem State.draw_mem : s.draw.2.mem = s.mem := rfl
@[simp] theorem State.draw_fab : s.draw.2.fab = s.fab := rfl
@[simp] theorem State.draw_coll : s.draw.2.coll = s.coll := rfl
@[simp] theorem State.draw_raised : s.draw.2.raised = s.raised := rfl
@[simp] theorem State.draw_outs : s.draw.2.outs = s.outs := rfl
@[simp] theorem State.draw_free : s.draw.2.free = s.free + 1 := rfl
@[simp] theorem State.draw_pending : s.draw.2.pending = s.pending := rfl

/-! ### add, bump, sub: they touch the object and the free counter alone -/

@[simp] theorem State.add_power (k : Key) (n : Nat) : (s.add k n).power = s.power := by unfold State.add; dsimp only; split <;> rfl
@[simp] theorem State.bump_power (k : Key) : (s.bump k).power = s.power := State.add_power s k 1
@[simp] theorem State.add_dict (k : Key) (n : Nat) : (s.add k n).dict = s.dict := by unfold State.add; dsimp only; split <;> rfl
@[simp] theorem State.bump_dict (k : Key) : (s.bump k).dict = s.dict := State.add_dict s k 1
@[simp] theorem State.add_start (k : Key) (n : Nat) : (s.add k n).start = s.start := by unfold State.add; dsimp only; split <;> rfl
@[simp] theorem State.bump_start (k : Key) : (s.bump k).start = s.start := State.add_start s k 1
@[simp] theorem State.add_fw (k : Key) (n : Nat) : (s.add k n).fw = s.fw := by unfold State.add; dsimp only; split <;> rfl
@[simp] theorem State.bump_fw (k : Key) : (s.bump k).fw = s.fw := State.add_fw s k 1
@[simp] theorem State.add_media (k : Key) (n : Nat) : (s.add k n).media = s.media := by unfold State.add; dsimp only; split <;> rfl
@[simp] theorem State.bump_media (k : Key) : (s.bump k).media = s.media := State.add_media s k 1
@[simp] theorem State.add_chan (k : Key) (n : Nat) : (s.add k n).chan = s.chan := by unfold State.add; dsimp only; split <;> rfl
@[simp] theorem State.bump_chan (k : Key) : (s.bump k).chan = s.chan := State.add_chan s k 1
@[simp] theorem State.add_dec (k : Key) (n : Nat) : (s.add k n).dec = s.dec := by unfold State.add; dsimp only; split <;> rfl
@[simp] theorem State.bump_dec (k : Key) : (s.bump k).dec = s.dec := State.add_dec s k 1
@[simp] theorem State.add_players (k : Key) (n : Nat) : (s.add k n).players = s.players := by unfold State.add; dsimp only; split <;> rfl
@[simp] theorem State.bump_players (k : Key) : (s.bump k).players = s.players := State.add_players s k 1
@[simp] theorem State.add_acts (k : Key) (n : Nat) : (s.add k n).acts = s.acts := by unfold State.add; dsimp only; split <;> rfl
@[simp] theorem State.bump_acts (k : Key) : (s.bump k).acts = s.acts := State.add_acts s k 1
@[simp] theorem State.add_engines (k : Key) (n : Nat) : (s.add k n).engines = s.engines := by unfold State.add; dsimp only; split <;> rfl
@[simp] theorem State.bump_engines (k : Key) : (s.bump k).engines = s.engines := State.add_engines s k 1
@[simp] theorem State.add_groups (k : Key) (n : Nat) : (s.add k n).groups = s.groups := by unfold State.add; dsimp only; split <;> rfl
@[simp] theorem State.bump_groups (k : Key) : (s.bump k).groups = s.groups := State.add_groups s k 1
@[simp] theorem State.add_traces (k : Key) (n : Nat) : (s.add k n).traces = s.traces := by unfold State.add; dsimp only; split <;> rfl
@[simp] theorem State.bump_traces (k : Key) : (s.bump k).traces = s.traces := State.add_traces s k 1
@[simp] theorem State.add_motion (k : Key) (n : Nat) : (s.add k n).motion = s.motion := by unfold State.add; dsimp only; split <;> rfl
@[simp] theorem State.bump_motion (k : Key) : (s.bump k).motion = s.motion := State.add_motion s k 1
@[simp] theorem State.add_girth (k : Key) (n : Nat) : (s.add k n).girth = s.girth := by unfold State.add; dsimp only; split <;> rfl
@[simp] theorem State.bump_girth (k : Key) : (s.bump k).girth = s.girth := State.add_girth s k 1
@[simp] theorem State.add_host (k : Key) (n : Nat) : (s.add k n).host = s.host := by unfold State.add; dsimp only; split <;> rfl
@[simp] theorem State.bump_host (k : Key) : (s.bump k).host = s.host := State.add_host s k 1
@[simp] theorem State.add_layout (k : Key) (n : Nat) : (s.add k n).layout = s.layout := by unfold State.add; dsimp only; split <;> rfl
@[simp] theorem State.bump_layout (k : Key) : (s.bump k).layout = s.layout := State.add_layout s k 1
@[simp] theorem State.add_mem (k : Key) (n : Nat) : (s.add k n).mem = s.mem := by unfold State.add; dsimp only; split <;> rfl
@[simp] theorem State.bump_mem (k : Key) : (s.bump k).mem = s.mem := State.add_mem s k 1
@[simp] theorem State.add_fab (k : Key) (n : Nat) : (s.add k n).fab = s.fab := by unfold State.add; dsimp only; split <;> rfl
@[simp] theorem State.bump_fab (k : Key) : (s.bump k).fab = s.fab := State.add_fab s k 1
@[simp] theorem State.add_coll (k : Key) (n : Nat) : (s.add k n).coll = s.coll := by unfold State.add; dsimp only; split <;> rfl
@[simp] theorem State.bump_coll (k : Key) : (s.bump k).coll = s.coll := State.add_coll s k 1
@[simp] theorem State.add_raised (k : Key) (n : Nat) : (s.add k n).raised = s.raised := by unfold State.add; dsimp only; split <;> rfl
@[simp] theorem State.bump_raised (k : Key) : (s.bump k).raised = s.raised := State.add_raised s k 1
@[simp] theorem State.add_outs (k : Key) (n : Nat) : (s.add k n).outs = s.outs := by unfold State.add; dsimp only; split <;> rfl
@[simp] theorem State.bump_outs (k : Key) : (s.bump k).outs = s.outs := State.add_outs s k 1
@[simp] theorem State.add_pending (k : Key) (n : Nat) : (s.add k n).pending = s.pending := by unfold State.add; dsimp only; split <;> rfl
@[simp] theorem State.bump_pending (k : Key) : (s.bump k).pending = s.pending := State.add_pending s k 1
@[simp] theorem State.sub_power (k : Key) (n : Nat) : (s.sub k n).power = s.power := rfl
@[simp] theorem State.sub_dict (k : Key) (n : Nat) : (s.sub k n).dict = s.dict := rfl
@[simp] theorem State.sub_start (k : Key) (n : Nat) : (s.sub k n).start = s.start := rfl
@[simp] theorem State.sub_fw (k : Key) (n : Nat) : (s.sub k n).fw = s.fw := rfl
@[simp] theorem State.sub_media (k : Key) (n : Nat) : (s.sub k n).media = s.media := rfl
@[simp] theorem State.sub_chan (k : Key) (n : Nat) : (s.sub k n).chan = s.chan := rfl
@[simp] theorem State.sub_dec (k : Key) (n : Nat) : (s.sub k n).dec = s.dec := rfl
@[simp] theorem State.sub_players (k : Key) (n : Nat) : (s.sub k n).players = s.players := rfl
@[simp] theorem State.sub_acts (k : Key) (n : Nat) : (s.sub k n).acts = s.acts := rfl
@[simp] theorem State.sub_engines (k : Key) (n : Nat) : (s.sub k n).engines = s.engines := rfl
@[simp] theorem State.sub_groups (k : Key) (n : Nat) : (s.sub k n).groups = s.groups := rfl
@[simp] theorem State.sub_traces (k : Key) (n : Nat) : (s.sub k n).traces = s.traces := rfl
@[simp] theorem State.sub_motion (k : Key) (n : Nat) : (s.sub k n).motion = s.motion := rfl
@[simp] theorem State.sub_girth (k : Key) (n : Nat) : (s.sub k n).girth = s.girth := rfl
@[simp] theorem State.sub_host (k : Key) (n : Nat) : (s.sub k n).host = s.host := rfl
@[simp] theorem State.sub_layout (k : Key) (n : Nat) : (s.sub k n).layout = s.layout := rfl
@[simp] theorem State.sub_mem (k : Key) (n : Nat) : (s.sub k n).mem = s.mem := rfl
@[simp] theorem State.sub_fab (k : Key) (n : Nat) : (s.sub k n).fab = s.fab := rfl
@[simp] theorem State.sub_coll (k : Key) (n : Nat) : (s.sub k n).coll = s.coll := rfl
@[simp] theorem State.sub_raised (k : Key) (n : Nat) : (s.sub k n).raised = s.raised := rfl
@[simp] theorem State.sub_outs (k : Key) (n : Nat) : (s.sub k n).outs = s.outs := rfl
@[simp] theorem State.sub_free (k : Key) (n : Nat) : (s.sub k n).free = s.free := rfl
@[simp] theorem State.sub_pending (k : Key) (n : Nat) : (s.sub k n).pending = s.pending := rfl

end Sys2Proof.Machine
end

