-- ==== Sys2Proof/Laws/Objects.lean ====
section
/-!
SUPPORT. What an object reads after an update of the state, and the canonical form of the object store.
-/

namespace Sys2Proof.Machine

variable (s : State)

theorem State.obj_setObj (k j : Key) (v : Val) : (s.setObj k v).obj j = if j = k then v else s.obj j := by
  simp only [State.obj, State.setObj, SMap.find_put]; split_ifs <;> rfl

theorem State.obj_setNum (k j : Key) (n : Nat) : (s.setNum k n).obj j = if j = k then .num n else s.obj j :=
  s.obj_setObj k j _

theorem State.obj_setStr (k j : Key) (b : List Byte) : (s.setStr k b).obj j = if j = k then .bytes b else s.obj j :=
  s.obj_setObj k j _

@[simp] theorem State.num_setNum_self (k : Key) (n : Nat) : (s.setNum k n).num k = n := by
  simp [State.num, State.obj_setNum, Val.toNum]

theorem State.num_setNum (k j : Key) (n : Nat) : (s.setNum k n).num j = if j = k then n else s.num j := by
  simp only [State.num, State.obj_setNum]; split_ifs <;> rfl

@[simp] theorem State.str_setStr_self (k : Key) (b : List Byte) : (s.setStr k b).str k = b := by
  simp [State.str, State.obj_setStr, Val.toBytes]

theorem State.num_setNum_other {k j : Key} (n : Nat) (h : j ≠ k) : (s.setNum k n).num j = s.num j := by
  simp [State.num_setNum, h]

theorem State.num_setStr_other {k j : Key} (b : List Byte) (h : j ≠ k) : (s.setStr k b).num j = s.num j := by
  simp [State.num, State.obj_setStr, h]

theorem State.str_setStr_other {k j : Key} (b : List Byte) (h : j ≠ k) : (s.setStr k b).str j = s.str j := by
  simp [State.str, State.obj_setStr, h]

theorem State.str_setNum_other {k j : Key} (n : Nat) (h : j ≠ k) : (s.setNum k n).str j = s.str j := by
  simp [State.str, State.obj_setNum, h]

/-- A counter that stays within its type counts. -/
theorem State.num_bump_self (k : Key) (h : s.num k + 1 < 2 ^ widthOf k) : (s.bump k).num k = s.num k + 1 := by
  simp [State.bump, State.add, h]

theorem State.obj_add_other {k j : Key} (n : Nat) (h : j ≠ k) : (s.add k n).obj j = s.obj j := by
  unfold State.add; dsimp only; split <;> simp [State.obj_setNum, h] <;> rfl

theorem State.obj_bump_other {k j : Key} (h : j ≠ k) : (s.bump k).obj j = s.obj j := s.obj_add_other 1 h

theorem State.num_bump_other {k j : Key} (h : j ≠ k) : (s.bump k).num j = s.num j := by
  simp [State.num, s.obj_bump_other h]

/-- Two states with the same object store read every object alike. -/
theorem State.obj_congr {s t : State} (h : t.objs = s.objs) (k : Key) : t.obj k = s.obj k := by simp [State.obj, h]

theorem State.num_congr {s t : State} (h : t.objs = s.objs) (k : Key) : t.num k = s.num k := by
  simp [State.num, State.obj_congr h]

theorem State.str_congr {s t : State} (h : t.objs = s.objs) (k : Key) : t.str k = s.str k := by
  simp [State.str, State.obj_congr h]

end Sys2Proof.Machine
end

