-- ==== Sys2Proof/Laws/At.lean ====
section
/-!
SUPPORT. Which objects an operation leaves as they were. `At k v t` says that object k holds v; `Away` names the objects that k is known not to be.
The files Laws/At*.lean say of every operation of the file they are named after which objects it can write.
-/

namespace Sys2Proof.Machine

/-- A fact about an object's key. -/
class Away (P : Prop) : Prop where
  out : P

/-- Object k holds v. -/
def At (k : Key) (v : Val) (t : State) : Prop := t.obj k = v

def AtObjs (k : Key) (v : Val) (m : SMap Val) : Prop := (SMap.find m k).getD (dfltVal k) = v

def optAt (k : Key) (v : Val) : Option State → Prop
  | some t => At k v t
  | none => True

def outAt (k : Key) (v : Val) : Host.Outcome State Fault Refusal → Prop
  | .next t => At k v t
  | .fault _ | .refused _ => True

variable {k : Key} {v : Val}

theorem at_iff {t : State} : At k v t ↔ t.obj k = v := Iff.rfl

@[simp] theorem At.self (t : State) : At k (t.obj k) t := rfl
@[simp] theorem optAt_some (t : State) : optAt k v (some t) = At k v t := rfl
@[simp] theorem optAt_none : optAt k v none = True := rfl
@[simp] theorem outAt_next (t : State) : outAt k v (.next t) = At k v t := rfl

@[simp] theorem At.mk_iff (objs power dict start fw media chan dec players acts engines groups traces motion girth host layout mem fab
    coll raised outs free pending) :
    At k v (State.mk objs power dict start fw media chan dec players acts engines groups traces motion girth host layout mem fab coll
      raised outs free pending) ↔ AtObjs k v objs := Iff.rfl

@[simp] theorem AtObjs.objs {s : State} : AtObjs k v s.objs ↔ At k v s := Iff.rfl

@[simp] theorem AtObjs.put {j : Key} {w : Val} {m : SMap Val} (hk : ¬k = j) (h : AtObjs k v m) : AtObjs k v (SMap.put m j w) := by
  simpa [AtObjs, SMap.find_put, hk] using h

@[simp] theorem AtObjs.setObj_objs {j : Key} {w : Val} {s : State} : AtObjs k v (s.setObj j w).objs ↔ At k v (s.setObj j w) := Iff.rfl

theorem At.num {s : State} {n : Nat} (h : At k (.num n) s) : s.num k = n := by
  unfold State.num; rw [show s.obj k = _ from h]; rfl

theorem At.num_eq {s z : State} (h : At k (z.obj k) s) : s.num k = z.num k := by
  unfold State.num; rw [show s.obj k = _ from h]

@[simp] theorem At.setObj_self (s : State) (w : Val) : At k v (s.setObj k w) ↔ w = v := by simp [At, State.obj_setObj]
@[simp] theorem At.setNum_self (s : State) (n : Nat) : At k v (s.setNum k n) ↔ Val.num n = v := At.setObj_self s _
@[simp] theorem At.setStr_self (s : State) (b : List Byte) : At k v (s.setStr k b) ↔ Val.bytes b = v := At.setObj_self s _
@[simp] theorem At.setObj {j : Key} {w : Val} {s : State} (hk : ¬k = j) (h : At k v s) : At k v (s.setObj j w) := by
  simpa [At, State.obj_setObj, hk] using h
@[simp] theorem At.setNum {j : Key} {n : Nat} {s : State} (hk : ¬k = j) (h : At k v s) : At k v (s.setNum j n) := At.setObj hk h
@[simp] theorem At.setStr {j : Key} {b : List Byte} {s : State} (hk : ¬k = j) (h : At k v s) : At k v (s.setStr j b) := At.setObj hk h
@[simp] theorem At.add {j : Key} {n : Nat} {s : State} (hk : ¬k = j) (h : At k v s) : At k v (s.add j n) :=
  (State.obj_add_other s n hk).trans h
@[simp] theorem At.bump {j : Key} {s : State} (hk : ¬k = j) (h : At k v s) : At k v (s.bump j) := At.add hk h
@[simp] theorem At.sub {j : Key} {n : Nat} {s : State} (hk : ¬k = j) (h : At k v s) : At k v (s.sub j n) := At.setNum hk h

@[simp] theorem At.ite_eq {c : Prop} [Decidable c] (s t : State) :
    At k v (if c then s else t) = if c then At k v s else At k v t := apply_ite _ _ _ _

@[simp] theorem outAt_ite {c : Prop} [Decidable c] (s t) :
    outAt k v (if c then s else t) = if c then outAt k v s else outAt k v t := apply_ite _ _ _ _

@[simp] theorem State.each_at {α : Type} {s : State} {l : List α} {f : State → α → State} (h : At k v s)
    (hf : ∀ t x, At k v t → At k v (f t x)) : At k v (s.each l f) := by
  unfold State.each
  induction l generalizing s with
  | nil => exact h
  | cons x r ih => exact ih (hf s x h)

@[simp] theorem getD_at (o : Option State) (s : State) (ho : optAt k v o) (hs : At k v s) : At k v (o.getD s) := by
  cases o <;> assumption

@[simp] theorem foldl_at {α : Type} {f : State → α → State} {l : List α} {s : State} (h : At k v s)
    (hf : ∀ t x, At k v t → At k v (f t x)) : At k v (l.foldl f s) := State.each_at h hf

@[simp] theorem foldl_fst_at {α β : Type} {f : State × β → α → State × β} {l : List α} {x : State × β} (h : At k v x.1)
    (hf : ∀ y a, At k v y.1 → At k v (f y a).1) : At k v (l.foldl f x).1 := by
  induction l generalizing x with
  | nil => exact h
  | cons a r ih => exact ih (hf x a h)

@[simp] theorem foldl_snd_at {α β : Type} {f : β × State → α → β × State} {l : List α} {x : β × State} (h : At k v x.2)
    (hf : ∀ y a, At k v y.2 → At k v (f y a).2) : At k v (l.foldl f x).2 := by
  induction l generalizing x with
  | nil => exact h
  | cons a r ih => exact ih (hf x a h)

theorem optAt_orElse {a b : Option State} (ha : optAt k v a) (hb : optAt k v b) : optAt k v (a <|> b) := by cases a <;> assumption

theorem optAt_map {α : Type} {o : Option α} {f : α → State} (hf : ∀ x, At k v (f x)) : optAt k v (o.map f) := by
  cases o <;> simp [hf]

@[simp] theorem optAt_ite {c : Prop} [Decidable c] (a b : Option State) :
    optAt k v (if c then a else b) = if c then optAt k v a else optAt k v b := apply_ite _ _ _ _

@[simp] theorem State.draw_at  (s : State) (hwf : At k v s) :
    At k v (State.draw s).2 := by
  simp (maxDischargeDepth := 30) [State.draw, *]

@[simp] theorem State.senseTj_at [Away (¬k = Obj.tjC)] (s : State) (hwf : At k v s) :
    At k v (State.senseTj s) := by
  have := ‹Away (¬k = Obj.tjC)›.out
  simp (maxDischargeDepth := 30) [State.senseTj, *]

@[simp] theorem State.raiseEv_at  (s : State) (e : Event) (hwf : At k v s) :
    At k v (State.raiseEv s e) := by
  simp (maxDischargeDepth := 30) [State.raiseEv, *]

@[simp] theorem State.raise_at  (s : State) (source : ℕ) (unit : optParam ℕ 0) (detail : optParam ℕ 0) (hwf : At k v s) :
    At k v (State.raise s source unit detail) := by
  simp (maxDischargeDepth := 30) [State.raise, *]

@[simp] theorem State.raiseAct_at  (s : State) (a : ℕ) (k1 : ℕ) (unit : optParam ℕ 0) (detail : optParam ℕ 0) (hwf : At k v s) :
    At k v (State.raiseAct s a k1 unit detail) := by
  simp (maxDischargeDepth := 30) [State.raiseAct, *]

@[simp] theorem State.emit_at  (s : State) (o : Out) (hwf : At k v s) :
    At k v (State.emit s o) := by
  simp (maxDischargeDepth := 30) [State.emit, *]

@[simp] theorem idle_at [Away (¬k = Obj.tick)] (s : State) (hwf : At k v s) :
    At k v (idle s) := by
  have := ‹Away (¬k = Obj.tick)›.out
  simp (maxDischargeDepth := 30) [idle, *]

@[simp] theorem State.modChan_at  (s : State) (a : ℕ) (f : Channel → Channel) (hwf : At k v s) :
    At k v (State.modChan s a f) := by
  simp (maxDischargeDepth := 30) [State.modChan, *]

@[simp] theorem State.modPlayer_at  (s : State) (p : ℕ) (f : Player → Player) (hwf : At k v s) :
    At k v (State.modPlayer s p f) := by
  simp (maxDischargeDepth := 30) [State.modPlayer, *]

@[simp] theorem State.modAct_at  (s : State) (a : ℕ) (f : Actuator → Actuator) (hwf : At k v s) :
    At k v (State.modAct s a f) := by
  simp (maxDischargeDepth := 30) [State.modAct, *]

@[simp] theorem State.modEngine_at  (s : State) (e : ℕ) (f : Engine → Engine) (hwf : At k v s) :
    At k v (State.modEngine s e f) := by
  simp (maxDischargeDepth := 30) [State.modEngine, *]

@[simp] theorem State.modGroup_at  (s : State) (g : ℕ) (f : Group → Group) (hwf : At k v s) :
    At k v (State.modGroup s g f) := by
  simp (maxDischargeDepth := 30) [State.modGroup, *]

@[simp] theorem State.modTrace_at  (s : State) (a : ℕ) (f : Trace → Trace) (hwf : At k v s) :
    At k v (State.modTrace s a f) := by
  simp (maxDischargeDepth := 30) [State.modTrace, *]

@[simp] theorem State.modCtrl_at  (s : State) (p : Port) (f : Controller → Controller) (hwf : At k v s) :
    At k v (State.modCtrl s p f) := by
  simp (maxDischargeDepth := 30) [State.modCtrl, *]

end Sys2Proof.Machine
end

