-- ==== Sys2Proof/Laws/AtStore.lean ====
section
/-! SUPPORT. The objects that every operation of Machine/Store.lean can write. -/

namespace Sys2Proof.Machine

variable {k : Key} {v : Val}

@[simp] theorem State.setJob_at (s : State) (j : Option StoreJob) (hwf : At k v s) :
    At k v (State.setJob s j) := by
  simp (maxDischargeDepth := 30) [State.setJob, *]

@[simp] theorem storeBegin_at [Away (¬k = Obj.storeState)] (s : State) (hwf : At k v s) :
    At k v (storeBegin s) := by
  have := ‹Away (¬k = Obj.storeState)›.out
  simp (maxDischargeDepth := 30) [storeBegin, *]

@[simp] theorem recordBegin_at [Away (¬k = Obj.storeState)] (s : State) (k1 : RecordKind) (hwf : At k v s) :
    At k v (recordBegin s k1) := by
  have := ‹Away (¬k = Obj.storeState)›.out
  simp (maxDischargeDepth := 30) [recordBegin, *]

@[simp] theorem recordStore_at [Away (¬k = Obj.storeState)] (s : State) (k1 : RecordKind) (hwf : At k v s) :
    At k v (recordStore s k1) := by
  simp only [recordStore]
  split <;> simp (maxDischargeDepth := 30) [*]

@[simp] theorem settleRestore_at (s : State) (hwf : At k v s) :
    At k v (settleRestore s) := by
  simp (maxDischargeDepth := 30) [settleRestore, *]

@[simp] theorem commitCopy_at (s : State) (j : StoreJob) (hwf : At k v s) :
    At k v (commitCopy s j) := by
  simp (maxDischargeDepth := 30) [commitCopy, *]

@[simp] theorem nextRecord_at [Away (¬k = Obj.storeState)] (s : State) (hwf : At k v s) :
    At k v (nextRecord s) := by
  simp only [nextRecord]
  split <;> simp (maxDischargeDepth := 30) [*]

theorem execStoreCommit_at [Away (¬k = Obj.storeResult)] [Away (¬k = Obj.storeState)] (programmed : Bool) (s : State) (hwf : At k v s) :
    outAt k v (execStoreCommit programmed s) := by
  have := ‹Away (¬k = Obj.storeResult)›.out
  have := ‹Away (¬k = Obj.storeState)›.out
  simp only [execStoreCommit]
  split <;> simp (maxDischargeDepth := 30) [*]

end Sys2Proof.Machine
end

