-- ==== Sys2Proof/Laws/AtMemory.lean ====
section
/-! SUPPORT. The objects that every operation of Machine/Memory.lean can write. -/

namespace Sys2Proof.Machine

variable {k : Key} {v : Val}

@[simp] theorem dramWrite_at (s : State) (a : ℕ) (data : List Byte) (hwf : At k v s) :
    At k v (dramWrite s a data) := by
  simp (maxDischargeDepth := 30) [dramWrite, *]

@[simp] theorem poisonBlocks_at (s : State) (bs : List ℕ) (hwf : At k v s) :
    At k v (poisonBlocks s bs) := by
  simp (maxDischargeDepth := 30) [poisonBlocks, *]

@[simp] theorem pageRetire_at [Away (¬k = Obj.pagesRetired)] [Away (¬k = Obj.retiredPages)] [Away (¬k = Obj.storeState)] (s : State) (page : ℕ) (hwf : At k v s) :
    At k v (pageRetire s page) := by
  have := ‹Away (¬k = Obj.pagesRetired)›.out
  have := ‹Away (¬k = Obj.retiredPages)›.out
  simp only [pageRetire]
  repeat' split
  all_goals simp (maxDischargeDepth := 30) [*]

@[simp] theorem pageCountTo_at [Away (¬k = Obj.pagesRetired)] [Away (¬k = Obj.retiredPages)] [Away (¬k = Obj.storeState)] (s : State) (page : ℕ) (n : ℕ) (hwf : At k v s) :
    At k v (pageCountTo s page n) := by
  simp (maxDischargeDepth := 30) [pageCountTo, *]

@[simp] theorem eccRead_at [Away (¬k = Obj.ceCount)] [Away (¬k = Obj.lastError)] [Away (¬k = Obj.pagesRetired)] [Away (¬k = Obj.poisonReads)] [Away (¬k = Obj.retiredPages)] [Away (¬k = Obj.storeState)] [Away (¬k = Obj.ueCount)] (s : State) (a : ℕ) (master : ℕ) (o : EccOutcome) (hwf : At k v s) :
    At k v (eccRead s a master o) := by
  have := ‹Away (¬k = Obj.ceCount)›.out
  have := ‹Away (¬k = Obj.lastError)›.out
  have := ‹Away (¬k = Obj.poisonReads)›.out
  have := ‹Away (¬k = Obj.ueCount)›.out
  simp only [eccRead]
  split <;> simp (maxDischargeDepth := 30) [*]

theorem execPageSubstitutionDone_at [Away (¬k = Obj.sparesFree)] (page : ℕ) (s : State) (hwf : At k v s) :
    outAt k v (execPageSubstitutionDone page s) := by
  have := ‹Away (¬k = Obj.sparesFree)›.out
  simp only [execPageSubstitutionDone]
  repeat' split
  all_goals simp (maxDischargeDepth := 30) [*]

@[simp] theorem zeroRangeBegin_at (s : State) (a : ℕ) (n : ℕ) (hwf : At k v s) :
    At k v (zeroRangeBegin s a n) := by
  simp (maxDischargeDepth := 30) [zeroRangeBegin, *]

theorem execZeroRangeDone_at (s : State) (hwf : At k v s) :
    outAt k v (execZeroRangeDone s) := by
  simp (maxDischargeDepth := 30) [execZeroRangeDone, *]

theorem execKeeperSlotErased_at (slot : Fin 6) (s : State) (hwf : At k v s) :
    outAt k v (execKeeperSlotErased slot s) := by
  simp (maxDischargeDepth := 30) [execKeeperSlotErased, *]

theorem execSupersededPageProgrammed_at (s : State) (hwf : At k v s) :
    outAt k v (execSupersededPageProgrammed s) := by
  simp only [execSupersededPageProgrammed]
  split <;> simp (maxDischargeDepth := 30) [*]

@[simp] theorem countLocked_at [Away (¬k = Obj.lockedLines)] (s : State) (hwf : At k v s) :
    At k v (countLocked s) := by
  have := ‹Away (¬k = Obj.lockedLines)›.out
  simp (maxDischargeDepth := 30) [countLocked, *]

@[simp] theorem writeBack_at [Away (¬k = Obj.writebacks)] (s : State) (line : ℕ) (hwf : At k v s) :
    At k v (writeBack s line) := by
  have := ‹Away (¬k = Obj.writebacks)›.out
  simp only [writeBack]
  split <;> simp (maxDischargeDepth := 30) [*]

@[simp] theorem dropLine_at (s : State) (line : ℕ) (hwf : At k v s) :
    At k v (dropLine s line) := by
  simp (maxDischargeDepth := 30) [dropLine, *]

@[simp] theorem takeWay_at [Away (¬k = Obj.writebacks)] (s : State) (set : ℕ) (hwf : At k v s) :
    At k v (takeWay s set).2 := by
  simp only [takeWay]
  repeat' split
  all_goals simp (maxDischargeDepth := 30) [*]

@[simp] theorem startFill_at [Away (¬k = Obj.misses)] [Away (¬k = Obj.writebacks)] (s : State) (line : ℕ) (f : Fill) (hwf : At k v s) :
    At k v (startFill s line f) := by
  have := ‹Away (¬k = Obj.misses)›.out
  simp (maxDischargeDepth := 30) [startFill, *]

@[simp] theorem lineAccess_at [Away (¬k = Obj.hits)] [Away (¬k = Obj.lastError)] [Away (¬k = Obj.misses)] [Away (¬k = Obj.writebacks)] (s : State) (core : ℕ) (a : ℕ) (width : ℕ) (store : Option (List Byte)) (poison : Bool) (hwf : At k v s) :
    At k v (lineAccess s core a width store poison) := by
  have := ‹Away (¬k = Obj.hits)›.out
  have := ‹Away (¬k = Obj.lastError)›.out
  simp only [lineAccess]
  repeat' split
  all_goals simp (maxDischargeDepth := 30) [*]

@[simp] theorem serveOp_at [Away (¬k = Obj.writebacks)] (line : ℕ) (bad : Bool) (x : State × FillLine) (x3 : FillOp) (hwf : At k v x.1) :
    At k v (serveOp line bad x x3).1 := by
  have := ‹Away (¬k = Obj.writebacks)›.out
  simp only [serveOp]
  repeat' split
  all_goals simp (maxDischargeDepth := 30) [*]

theorem execCacheFillReturn_at [Away (¬k = Obj.lockedLines)] [Away (¬k = Obj.misses)] [Away (¬k = Obj.writebacks)] (line : ℕ) (s : State) (hwf : At k v s) :
    outAt k v (execCacheFillReturn line s) := by
  unfold execCacheFillReturn
  repeat' split
  all_goals simp_all (maxDischargeDepth := 30)

@[simp] theorem lineFetch_at [Away (¬k = Obj.hits)] [Away (¬k = Obj.misses)] [Away (¬k = Obj.writebacks)] (s : State) (line : ℕ) (hwf : At k v s) :
    At k v (lineFetch s line) := by
  have := ‹Away (¬k = Obj.hits)›.out
  have := ‹Away (¬k = Obj.misses)›.out
  simp only [lineFetch]
  split <;> simp (maxDischargeDepth := 30) [*]

@[simp] theorem cachedPut_at (s : State) (a : ℕ) (b : Byte) (hwf : At k v s) :
    At k v (cachedPut s a b) := by
  simp only [cachedPut]
  split <;> simp (maxDischargeDepth := 30) [*]

@[simp] theorem cachedWrite_at [Away (¬k = Obj.hits)] [Away (¬k = Obj.misses)] [Away (¬k = Obj.writebacks)] (s : State) (a : ℕ) (data : List Byte) (hwf : At k v s) :
    At k v (cachedWrite s a data) := by
  unfold cachedWrite
  repeat' split
  all_goals simp_all (maxDischargeDepth := 30)

@[simp] theorem cleanLines_at [Away (¬k = Obj.writebacks)] (s : State) (p : ℕ → Bool) (hwf : At k v s) :
    At k v (cleanLines s p) := by
  unfold cleanLines
  repeat' split
  all_goals simp_all (maxDischargeDepth := 30)

@[simp] theorem wayRetire_at [Away (¬k = Obj.lockedLines)] [Away (¬k = Obj.waysRetired)] [Away (¬k = Obj.writebacks)] (s : State) (w : ℕ) (hwf : At k v s) :
    At k v (wayRetire s w) := by
  have := ‹Away (¬k = Obj.waysRetired)›.out
  unfold wayRetire
  repeat' split
  all_goals simp_all (maxDischargeDepth := 30)

@[simp] theorem maintLine_at [Away (¬k = Obj.misses)] [Away (¬k = Obj.writebacks)] (e : MaintEffect) (bySet : Bool) (x : State × MaintResult) (line : Nat) (h : At k v x.1) :
    At k v (maintLine e bySet x line).1 := by
  obtain ⟨s, r⟩ := x
  simp only [maintLine]
  repeat' split
  all_goals simp_all (maxDischargeDepth := 30)

@[simp] theorem maintBegin_at [Away (¬k = Obj.lockedLines)] [Away (∀ a, ¬k = Obj.maintFirst a)] [Away (∀ a, ¬k = Obj.maintOp a)] [Away (∀ a, ¬k = Obj.maintStatus a)] [Away (¬k = Obj.misses)] [Away (¬k = Obj.writebacks)] (s : State) (core : ℕ) (op : ℕ) (hwf : At k v s) :
    At k v (maintBegin s core op) := by
  have := ‹Away (∀ a, ¬k = Obj.maintFirst a)›.out
  have := ‹Away (∀ a, ¬k = Obj.maintOp a)›.out
  have := ‹Away (∀ a, ¬k = Obj.maintStatus a)›.out
  unfold maintBegin
  repeat' split
  all_goals simp_all (maxDischargeDepth := 30)

theorem execCacheMaintDone_at [Away (∀ a, ¬k = Obj.maintOp a)] [Away (∀ a, ¬k = Obj.maintStatus a)] (core : Fin 9) (s : State) (hwf : At k v s) :
    outAt k v (execCacheMaintDone core s) := by
  have := ‹Away (∀ a, ¬k = Obj.maintOp a)›.out
  have := ‹Away (∀ a, ¬k = Obj.maintStatus a)›.out
  simp only [execCacheMaintDone]
  split <;> simp (maxDischargeDepth := 30) [*]

@[simp] theorem accessFault_at (s : State) (core : ℕ) (a : ℕ) (kind : ℕ) (hwf : At k v s) :
    At k v (accessFault s core a kind) := by
  simp (maxDischargeDepth := 30) [accessFault, *]

@[simp] theorem sramAccess_at (s : State) (core : ℕ) (a : ℕ) (width : ℕ) (acc : CoreAccess) (ecc : EccOutcome) (hwf : At k v s) :
    At k v (sramAccess s core a width acc ecc) := by
  simp only [sramAccess]
  repeat' split
  all_goals simp (maxDischargeDepth := 30) [*]

@[simp] theorem lineUncorrectable_at [Away (¬k = Obj.dataUe)] [Away (¬k = Obj.lockedLines)] [Away (¬k = Obj.writebacks)] (s : State) (core : ℕ) (acc : CoreAccess) (line : ℕ) (l : Line) (hwf : At k v s) :
    At k v (lineUncorrectable s core acc line l) := by
  have := ‹Away (¬k = Obj.dataUe)›.out
  simp (maxDischargeDepth := 30) [lineUncorrectable, *]

@[simp] theorem dramAccess_at [Away (¬k = Obj.ceCount)] [Away (¬k = Obj.dataCe)] [Away (¬k = Obj.dataUe)] [Away (¬k = Obj.hits)] [Away (¬k = Obj.lastError)] [Away (¬k = Obj.lockedLines)] [Away (¬k = Obj.misses)] [Away (¬k = Obj.pagesRetired)] [Away (¬k = Obj.poisonReads)] [Away (¬k = Obj.retiredPages)] [Away (¬k = Obj.storeState)] [Away (¬k = Obj.ueCount)] [Away (¬k = Obj.writebacks)] (s : State) (core : ℕ) (a : ℕ) (width : ℕ) (acc : CoreAccess) (ecc : EccOutcome) (hwf : At k v s) :
    At k v (dramAccess s core a width acc ecc) := by
  have := ‹Away (¬k = Obj.dataCe)›.out
  simp only [dramAccess]
  repeat' split
  all_goals simp (maxDischargeDepth := 30) [*]

end Sys2Proof.Machine
end

