-- ==== Sys2Proof/Laws/AtFront.lean ====
section
/-! SUPPORT. The objects that every operation of Machine/Front.lean can write. -/

namespace Sys2Proof.Machine

variable {k : Key} {v : Val}

@[simp] theorem modEntry_at (s : State) (p : ℕ) (i : ℕ) (f : Entry → Entry) (hwf : At k v s) :
    At k v (modEntry s p i f) := by
  simp (maxDischargeDepth := 30) [modEntry, *]

@[simp] theorem endEntry_at (s : State) (p : ℕ) (i : ℕ) (result : ℕ) (poisoned : optParam Bool false) (hwf : At k v s) :
    At k v (endEntry s p i result poisoned) := by
  simp only [endEntry]
  split <;> simp (maxDischargeDepth := 30) [*]

@[simp] theorem report_at (s : State) (p : ℕ) (i : ℕ) (mask : ℕ) (hwf : At k v s) :
    At k v (report s p i mask) := by
  simp (maxDischargeDepth := 30) [report, *]

@[simp] theorem reportGated_at (s : State) (a : ℕ) (mask : ℕ) (hwf : At k v s) :
    At k v (reportGated s a mask) := by
  unfold reportGated
  repeat' split
  all_goals simp_all (maxDischargeDepth := 30)

@[simp] theorem writeIncomplete_at [Away (∀ a, ¬k = Obj.incompleteCount a)] (s : State) (p : ℕ) (i : ℕ) (mask : ℕ) (poisoned : optParam Bool false) (hwf : At k v s) :
    At k v (writeIncomplete s p i mask poisoned) := by
  have := ‹Away (∀ a, ¬k = Obj.incompleteCount a)›.out
  simp only [writeIncomplete]
  split <;> simp (maxDischargeDepth := 30) [*]

@[simp] theorem postFront_at (s : State) (a : ℕ) (e : FrontEvent) (hwf : At k v s) :
    At k v (postFront s a e) := by
  simp (maxDischargeDepth := 30) [postFront, *]

@[simp] theorem postEvent_at (s : State) (a : ℕ) (code : ℕ) (hwf : At k v s) :
    At k v (postEvent s a code) := by
  simp (maxDischargeDepth := 30) [postEvent, *]

@[simp] theorem postSector_at (s : State) (a : ℕ) (code : ℕ) (i : ℕ) (hwf : At k v s) :
    At k v (postSector s a code i) := by
  simp (maxDischargeDepth := 30) [postSector, *]

@[simp] theorem sendNext_at (s : State) (a : ℕ) (hwf : At k v s) :
    At k v (sendNext s a) := by
  simp only [sendNext]
  repeat' split
  all_goals simp (maxDischargeDepth := 30) [*]

@[simp] theorem queueFrame_at (s : State) (a : ℕ) (f : PreampFrame) (hwf : At k v s) :
    At k v (queueFrame s a f) := by
  simp (maxDischargeDepth := 30) [queueFrame, *]

@[simp] theorem postMode_at (s : State) (a : ℕ) (mode : ℕ) (hwf : At k v s) :
    At k v (postMode s a mode) := by
  simp (maxDischargeDepth := 30) [postMode, *]

@[simp] theorem postHead_at (s : State) (a : ℕ) (surface : ℕ) (hwf : At k v s) :
    At k v (postHead s a surface) := by
  simp (maxDischargeDepth := 30) [postHead, *]

end Sys2Proof.Machine
end

