-- ==== Sys2Proof/Laws/AtCode.lean ====
section
/-! SUPPORT. The objects that every operation of Machine/Code.lean can write. -/

namespace Sys2Proof.Machine

variable {k : Key} {v : Val}

@[simp] theorem emitPieces_at (s : State) (p : ℕ) (e : Entry) (pieces : List (ℕ × ℕ × List (Bool × ℕ))) (hwf : At k v s) :
    At k v (emitPieces s p e pieces) := by
  simp (maxDischargeDepth := 30) [emitPieces, *]

@[simp] theorem cutWrite_at [Away (∀ a, ¬k = Obj.incompleteCount a)] (s : State) (a : ℕ) (mask : ℕ) (poisoned : optParam Bool false) (hwf : At k v s) :
    At k v (cutWrite s a mask poisoned) := by
  simp only [cutWrite]
  repeat' split
  all_goals simp (maxDischargeDepth := 30) [*]

@[simp] theorem lockSentence_at [Away (∀ a, ¬k = Obj.writeUnsafeCount a)] (s : State) (a : ℕ) (hwf : At k v s) :
    At k v (lockSentence s a) := by
  have := ‹Away (∀ a, ¬k = Obj.writeUnsafeCount a)›.out
  simp (maxDischargeDepth := 30) [lockSentence, *]

@[simp] theorem assertWu_at [Away (∀ a, ¬k = Obj.incompleteCount a)] [Away (∀ a, ¬k = Obj.writeUnsafeCount a)] (s : State) (a : ℕ) (src : WuSource) (hwf : At k v s) :
    At k v (assertWu s a src) := by
  simp (maxDischargeDepth := 30) [assertWu, *]

@[simp] theorem clearWu_at (s : State) (a : ℕ) (src : WuSource) (hwf : At k v s) :
    At k v (clearWu s a src) := by
  simp (maxDischargeDepth := 30) [clearWu, *]

@[simp] theorem unlockSeen_at [Away (∀ a, ¬k = Obj.incompleteCount a)] [Away (∀ a, ¬k = Obj.synthUnlockCount a)] [Away (∀ a, ¬k = Obj.writeUnsafeCount a)] (s : State) (a : ℕ) (hwf : At k v s) :
    At k v (unlockSeen s a) := by
  have := ‹Away (∀ a, ¬k = Obj.synthUnlockCount a)›.out
  simp (maxDischargeDepth := 30) [unlockSeen, *]

end Sys2Proof.Machine
end

