-- ==== Sys2Proof/Laws/AtSignal.lean ====
section
/-! SUPPORT. The objects that every operation of Machine/Signal.lean can write. -/

namespace Sys2Proof.Machine

variable {k : Key} {v : Val}

@[simp] theorem streamSamples_at (s : State) (a : ℕ) (adc : List AdcRow) (hwf : At k v s) :
    At k v (streamSamples s a adc) := by
  simp only [streamSamples]
  split <;> simp (maxDischargeDepth := 30) [*]

@[simp] theorem storeRingSlot_at (s : State) (p : ℕ) (e : Entry) (x : SampleSlot) (hwf : At k v s) :
    At k v (storeRingSlot s p e x) := by
  simp (maxDischargeDepth := 30) [storeRingSlot, *]

end Sys2Proof.Machine
end

