-- ==== Sys2Proof/Laws/AtPool.lean ====
section
/-! SUPPORT. The objects that every operation of Machine/Pool.lean can write. -/

namespace Sys2Proof.Machine

variable {k : Key} {v : Val}

@[simp] theorem State.setDec_at (s : State) (d : Decode) (hwf : At k v s) :
    At k v (State.setDec s d) := by
  simp (maxDischargeDepth := 30) [State.setDec, *]

@[simp] theorem setJobs_at (s : State) (l : List DecodeJob) (hwf : At k v s) :
    At k v (setJobs s l) := by
  simp (maxDischargeDepth := 30) [setJobs, *]

@[simp] theorem putJob_at (s : State) (j : DecodeJob) (hwf : At k v s) :
    At k v (putJob s j) := by
  simp (maxDischargeDepth := 30) [putJob, *]

@[simp] theorem dropJob_at (s : State) (id : ℕ) (hwf : At k v s) :
    At k v (dropJob s id) := by
  simp (maxDischargeDepth := 30) [dropJob, *]

@[simp] theorem startDetector_at (s : State) (d : ℕ) (hwf : At k v s) :
    At k v (startDetector s d) := by
  simp only [startDetector]
  repeat' split
  all_goals simp (maxDischargeDepth := 30) [*]

@[simp] theorem startLdpc_at (s : State) (c : ℕ) (hwf : At k v s) :
    At k v (startLdpc s c) := by
  simp only [startLdpc]
  repeat' split
  all_goals simp (maxDischargeDepth := 30) [*]

@[simp] theorem dispatch_at (s : State) (hwf : At k v s) :
    At k v (dispatch s) := by
  unfold dispatch
  repeat' split
  all_goals simp_all (maxDischargeDepth := 30)

@[simp] theorem addJob_at (s : State) (j : DecodeJob) (hwf : At k v s) :
    At k v (addJob s j) := by
  simp (maxDischargeDepth := 30) [addJob, *]

@[simp] theorem abandonPasses_at (s : State) (det : Bool) (core : ℕ) (hwf : At k v s) :
    At k v (abandonPasses s det core) := by
  simp only [abandonPasses]
  split <;> simp (maxDischargeDepth := 30) [*]

end Sys2Proof.Machine
end

