-- ==== Sys2Proof/Laws/AtCapture.lean ====
section
/-! SUPPORT. The objects that every operation of Machine/Capture.lean can write. -/

namespace Sys2Proof.Machine

variable {k : Key} {v : Val}

@[simp] theorem laneFaults_at [Away (∀ a b, ¬k = Obj.clipCount a b)] [Away (∀ a b, ¬k = Obj.offsetRailCount a b)] [Away (∀ a b, ¬k = Obj.stuckCount a b)] (s : State) (a : ℕ) (lanes : ℕ) (e : Entry) (hwf : At k v s) :
    At k v (laneFaults s a lanes e) := by
  have := ‹Away (∀ a b, ¬k = Obj.clipCount a b)›.out
  have := ‹Away (∀ a b, ¬k = Obj.offsetRailCount a b)›.out
  have := ‹Away (∀ a b, ¬k = Obj.stuckCount a b)›.out
  unfold laneFaults
  repeat' split
  all_goals simp_all (maxDischargeDepth := 30)

@[simp] theorem postJob_at (s : State) (p : ℕ) (i : ℕ) (e : Entry) (h : Header) (align : ℤ) (hwf : At k v s) :
    At k v (postJob s p i e h align) := by
  simp (maxDischargeDepth := 30) [postJob, *]

@[simp] theorem captureStored_at [Away (∀ a, ¬k = Obj.sm1CorrectedCount a)] [Away (∀ a, ¬k = Obj.timedCount a)] (s : State) (p : ℕ) (i : ℕ) (e : Entry) (hwf : At k v s) :
    At k v (captureStored s p i e) := by
  have := ‹Away (∀ a, ¬k = Obj.sm1CorrectedCount a)›.out
  have := ‹Away (∀ a, ¬k = Obj.timedCount a)›.out
  simp (maxDischargeDepth := 30) [captureStored, *]

@[simp] theorem endCapture_at [Away (∀ a b, ¬k = Obj.clipCount a b)] [Away (∀ a b, ¬k = Obj.offsetRailCount a b)] [Away (∀ a, ¬k = Obj.sm1CorrectedCount a)] [Away (∀ a b, ¬k = Obj.stuckCount a b)] [Away (∀ a, ¬k = Obj.timedCount a)] (s : State) (p : ℕ) (i : ℕ) (hwf : At k v s) :
    At k v (endCapture s p i) := by
  simp only [endCapture]
  split <;> simp (maxDischargeDepth := 30) [*]

@[simp] theorem cutCapture_at (s : State) (p : ℕ) (i : ℕ) (hwf : At k v s) :
    At k v (cutCapture s p i) := by
  simp only [cutCapture]
  split <;> simp (maxDischargeDepth := 30) [*]

@[simp] theorem stopCapture_at [Away (∀ a b, ¬k = Obj.clipCount a b)] [Away (∀ a b, ¬k = Obj.offsetRailCount a b)] [Away (∀ a, ¬k = Obj.sm1CorrectedCount a)] [Away (∀ a b, ¬k = Obj.stuckCount a b)] [Away (∀ a, ¬k = Obj.timedCount a)] (s : State) (p : ℕ) (i : ℕ) (hwf : At k v s) :
    At k v (stopCapture s p i) := by
  simp only [stopCapture]
  split <;> simp (maxDischargeDepth := 30) [*]

end Sys2Proof.Machine
end

