-- ==== Sys2Proof/Laws/AtPlayers.lean ====
section
/-! SUPPORT. The objects that every operation of Machine/Players.lean can write. -/

namespace Sys2Proof.Machine

variable {k : Key} {v : Val}

@[simp] theorem setFlags_at (s : State) (p : ℕ) (mask : ℕ) (hwf : At k v s) :
    At k v (setFlags s p mask) := by
  simp (maxDischargeDepth := 30) [setFlags, *]

@[simp] theorem putRecord_at (s : State) (r : PendingRecord) (hwf : At k v s) :
    At k v (putRecord s r) := by
  simp (maxDischargeDepth := 30) [putRecord, *]

@[simp] theorem countTurn_at [Away (∀ a, ¬k = Obj.revNow a)] (s : State) (a : ℕ) (hwf : At k v s) :
    At k v (countTurn s a) := by
  have := ‹Away (∀ a, ¬k = Obj.revNow a)›.out
  unfold countTurn
  repeat' split
  all_goals simp_all (maxDischargeDepth := 30)

@[simp] theorem prerollPosts_at (s : State) (a : ℕ) (p : ℕ) (hwf : At k v s) :
    At k v (prerollPosts s a p) := by
  simp (maxDischargeDepth := 30) [prerollPosts, *]

@[simp] theorem closeSentence_at [Away (∀ a, ¬k = Obj.badClauses a)] [Away (∀ a, ¬k = Obj.loadState a)] [Away (∀ a, ¬k = Obj.objFaults a)] [Away (∀ a, ¬k = Obj.sentences a)] [Away (∀ a, ¬k = Obj.settleMisses a)] [Away (∀ a, ¬k = Obj.underruns a)] [Away (∀ a, ¬k = Obj.windowEnds a)] (s : State) (p : ℕ) (o : Outcome) (hwf : At k v s) :
    At k v (closeSentence s p o) := by
  have := ‹Away (∀ a, ¬k = Obj.badClauses a)›.out
  have := ‹Away (∀ a, ¬k = Obj.loadState a)›.out
  have := ‹Away (∀ a, ¬k = Obj.objFaults a)›.out
  have := ‹Away (∀ a, ¬k = Obj.sentences a)›.out
  have := ‹Away (∀ a, ¬k = Obj.settleMisses a)›.out
  have := ‹Away (∀ a, ¬k = Obj.underruns a)›.out
  have := ‹Away (∀ a, ¬k = Obj.windowEnds a)›.out
  unfold closeSentence
  repeat' split
  all_goals simp_all (maxDischargeDepth := 30)

@[simp] theorem blockAfter_at (s : State) (p : ℕ) (hwf : At k v s) :
    At k v (blockAfter s p) := by
  simp (maxDischargeDepth := 30) [blockAfter, *]

@[simp] theorem blockedUnderrun_at [Away (∀ a, ¬k = Obj.badClauses a)] [Away (∀ a, ¬k = Obj.loadState a)] [Away (∀ a, ¬k = Obj.objFaults a)] [Away (∀ a, ¬k = Obj.sentences a)] [Away (∀ a, ¬k = Obj.settleMisses a)] [Away (∀ a, ¬k = Obj.underruns a)] [Away (∀ a, ¬k = Obj.windowEnds a)] (s : State) (p : ℕ) (hwf : At k v s) :
    At k v (blockedUnderrun s p) := by
  simp (maxDischargeDepth := 30) [blockedUnderrun, *]

@[simp] theorem underrunNow_at [Away (∀ a, ¬k = Obj.badClauses a)] [Away (∀ a, ¬k = Obj.loadState a)] [Away (∀ a, ¬k = Obj.objFaults a)] [Away (∀ a, ¬k = Obj.sentences a)] [Away (∀ a, ¬k = Obj.settleMisses a)] [Away (∀ a, ¬k = Obj.underruns a)] [Away (∀ a, ¬k = Obj.windowEnds a)] (s : State) (p : ℕ) (hwf : At k v s) :
    At k v (underrunNow s p) := by
  simp (maxDischargeDepth := 30) [underrunNow, *]

@[simp] theorem prerollNext_at [Away (∀ a, ¬k = Obj.badClauses a)] [Away (∀ a, ¬k = Obj.loadState a)] [Away (∀ a, ¬k = Obj.objFaults a)] [Away (∀ a, ¬k = Obj.sentences a)] [Away (∀ a, ¬k = Obj.settleMisses a)] [Away (∀ a, ¬k = Obj.underruns a)] [Away (∀ a, ¬k = Obj.windowEnds a)] (fuel : Nat) (s : State) (a : Nat) (h : At k v s) : At k v (prerollNext fuel s a) := by
  induction fuel generalizing s with
  | zero => simpa [prerollNext] using h
  | succ n ih =>
    simp only [prerollNext]
    repeat' first | (simp +contextual (maxDischargeDepth := 30) [*]; done) | split

@[simp] theorem finishSentence_at [Away (∀ a, ¬k = Obj.badClauses a)] [Away (∀ a, ¬k = Obj.loadState a)] [Away (∀ a, ¬k = Obj.objFaults a)] [Away (∀ a, ¬k = Obj.sentences a)] [Away (∀ a, ¬k = Obj.settleMisses a)] [Away (∀ a, ¬k = Obj.underruns a)] [Away (∀ a, ¬k = Obj.windowEnds a)] (s : State) (p : ℕ) (o : Outcome) (hwf : At k v s) :
    At k v (finishSentence s p o) := by
  simp (maxDischargeDepth := 30) [finishSentence, *]

@[simp] theorem allCloseCut_at [Away (∀ a b, ¬k = Obj.clipCount a b)] [Away (∀ a, ¬k = Obj.incompleteCount a)] [Away (∀ a b, ¬k = Obj.offsetRailCount a b)] [Away (∀ a, ¬k = Obj.sm1CorrectedCount a)] [Away (∀ a b, ¬k = Obj.stuckCount a b)] [Away (∀ a, ¬k = Obj.timedCount a)] (s : State) (a : ℕ) (p : ℕ) (hwf : At k v s) :
    At k v (allCloseCut s a p) := by
  unfold allCloseCut
  repeat' split
  all_goals simp_all (maxDischargeDepth := 30)

@[simp] theorem settleReads_at (s : State) (p : ℕ) (hwf : At k v s) :
    At k v (settleReads s p) := by
  unfold settleReads
  repeat' split
  all_goals simp_all (maxDischargeDepth := 30)

@[simp] theorem giveUp_at [Away (∀ a, ¬k = Obj.badClauses a)] [Away (∀ a b, ¬k = Obj.clipCount a b)] [Away (∀ a, ¬k = Obj.incompleteCount a)] [Away (∀ a, ¬k = Obj.loadState a)] [Away (∀ a, ¬k = Obj.objFaults a)] [Away (∀ a b, ¬k = Obj.offsetRailCount a b)] [Away (∀ a, ¬k = Obj.sentences a)] [Away (∀ a, ¬k = Obj.settleMisses a)] [Away (∀ a, ¬k = Obj.sm1CorrectedCount a)] [Away (∀ a b, ¬k = Obj.stuckCount a b)] [Away (∀ a, ¬k = Obj.timedCount a)] [Away (∀ a, ¬k = Obj.underruns a)] [Away (∀ a, ¬k = Obj.windowEnds a)] (s : State) (p : ℕ) (o : Outcome) (hwf : At k v s) :
    At k v (giveUp s p o) := by
  simp (maxDischargeDepth := 30) [giveUp, *]

@[simp] theorem dropReady_at [Away (∀ a, ¬k = Obj.badClauses a)] [Away (∀ a, ¬k = Obj.loadState a)] [Away (∀ a, ¬k = Obj.objFaults a)] [Away (∀ a, ¬k = Obj.sentences a)] [Away (∀ a, ¬k = Obj.settleMisses a)] [Away (∀ a, ¬k = Obj.underruns a)] [Away (∀ a, ¬k = Obj.windowEnds a)] (s : State) (p : ℕ) (o : Outcome) (hwf : At k v s) :
    At k v (dropReady s p o) := by
  simp (maxDischargeDepth := 30) [dropReady, *]

@[simp] theorem discardReady_at [Away (∀ a, ¬k = Obj.badClauses a)] [Away (∀ a, ¬k = Obj.loadState a)] [Away (∀ a, ¬k = Obj.objFaults a)] [Away (∀ a, ¬k = Obj.sentences a)] [Away (∀ a, ¬k = Obj.settleMisses a)] [Away (∀ a, ¬k = Obj.underruns a)] [Away (∀ a, ¬k = Obj.windowEnds a)] (s : State) (p : ℕ) (hwf : At k v s) :
    At k v (discardReady s p) := by
  simp (maxDischargeDepth := 30) [discardReady, *]

@[simp] theorem sampleEvents_at (s : State) (p : ℕ) (hwf : At k v s) :
    At k v (sampleEvents s p) := by
  simp (maxDischargeDepth := 30) [sampleEvents, *]

@[simp] theorem askAbort_at [Away (∀ a, ¬k = Obj.badClauses a)] [Away (∀ a b, ¬k = Obj.clipCount a b)] [Away (∀ a, ¬k = Obj.incompleteCount a)] [Away (∀ a, ¬k = Obj.loadState a)] [Away (∀ a, ¬k = Obj.objFaults a)] [Away (∀ a b, ¬k = Obj.offsetRailCount a b)] [Away (∀ a, ¬k = Obj.sentences a)] [Away (∀ a, ¬k = Obj.settleMisses a)] [Away (∀ a, ¬k = Obj.sm1CorrectedCount a)] [Away (∀ a b, ¬k = Obj.stuckCount a b)] [Away (∀ a, ¬k = Obj.timedCount a)] [Away (∀ a, ¬k = Obj.underruns a)] [Away (∀ a, ¬k = Obj.windowEnds a)] (s : State) (p : ℕ) (hwf : At k v s) :
    At k v (askAbort s p) := by
  simp (maxDischargeDepth := 30) [askAbort, *]

@[simp] theorem playerAbort_at [Away (∀ a, ¬k = Obj.badClauses a)] [Away (∀ a b, ¬k = Obj.clipCount a b)] [Away (∀ a, ¬k = Obj.incompleteCount a)] [Away (∀ a, ¬k = Obj.loadState a)] [Away (∀ a, ¬k = Obj.objFaults a)] [Away (∀ a b, ¬k = Obj.offsetRailCount a b)] [Away (∀ a, ¬k = Obj.sentences a)] [Away (∀ a, ¬k = Obj.settleMisses a)] [Away (∀ a, ¬k = Obj.sm1CorrectedCount a)] [Away (∀ a b, ¬k = Obj.stuckCount a b)] [Away (∀ a, ¬k = Obj.timedCount a)] [Away (∀ a, ¬k = Obj.underruns a)] [Away (∀ a, ¬k = Obj.windowEnds a)] (s : State) (p : ℕ) (hwf : At k v s) :
    At k v (playerAbort s p) := by
  simp only [playerAbort]
  split <;> simp (maxDischargeDepth := 30) [*]

@[simp] theorem abortPlayers_at [Away (∀ a, ¬k = Obj.badClauses a)] [Away (∀ a b, ¬k = Obj.clipCount a b)] [Away (∀ a, ¬k = Obj.incompleteCount a)] [Away (∀ a, ¬k = Obj.loadState a)] [Away (∀ a, ¬k = Obj.objFaults a)] [Away (∀ a b, ¬k = Obj.offsetRailCount a b)] [Away (∀ a, ¬k = Obj.sentences a)] [Away (∀ a, ¬k = Obj.settleMisses a)] [Away (∀ a, ¬k = Obj.sm1CorrectedCount a)] [Away (∀ a b, ¬k = Obj.stuckCount a b)] [Away (∀ a, ¬k = Obj.timedCount a)] [Away (∀ a, ¬k = Obj.underruns a)] [Away (∀ a, ¬k = Obj.windowEnds a)] (s : State) (a : ℕ) (hwf : At k v s) :
    At k v (abortPlayers s a) := by
  unfold abortPlayers
  repeat' split
  all_goals simp_all (maxDischargeDepth := 30)

@[simp] theorem stopPlayers_at [Away (∀ a, ¬k = Obj.badClauses a)] [Away (∀ a b, ¬k = Obj.clipCount a b)] [Away (∀ a, ¬k = Obj.incompleteCount a)] [Away (∀ a, ¬k = Obj.loadState a)] [Away (∀ a, ¬k = Obj.objFaults a)] [Away (∀ a b, ¬k = Obj.offsetRailCount a b)] [Away (∀ a, ¬k = Obj.sentences a)] [Away (∀ a, ¬k = Obj.settleMisses a)] [Away (∀ a, ¬k = Obj.sm1CorrectedCount a)] [Away (∀ a b, ¬k = Obj.stuckCount a b)] [Away (∀ a, ¬k = Obj.timedCount a)] [Away (∀ a, ¬k = Obj.underruns a)] [Away (∀ a, ¬k = Obj.windowEnds a)] (s : State) (a : Nat) (o : Outcome) (h : At k v s) : At k v (stopPlayers s a o) := by
  unfold stopPlayers
  refine State.each_at (by simp (maxDischargeDepth := 30) [*]) fun t x ht => ?_
  repeat' first | (simp +contextual (maxDischargeDepth := 30) [*]; done) | split

@[simp] theorem loadBegin_at [Away (∀ a, ¬k = Obj.loadAddr a)] [Away (∀ a, ¬k = Obj.loadState a)] (s : State) (p : ℕ) (addr : ℕ) (hwf : At k v s) :
    At k v (loadBegin s p addr) := by
  have := ‹Away (∀ a, ¬k = Obj.loadAddr a)›.out
  have := ‹Away (∀ a, ¬k = Obj.loadState a)›.out
  simp (maxDischargeDepth := 30) [loadBegin, *]

@[simp] theorem laneTo_at [Away (∀ a b, ¬k = Obj.laneState a b)] (s : State) (a : ℕ) (k1 : ℕ) (st : ℕ) (hwf : At k v s) :
    At k v (laneTo s a k1 st) := by
  have := ‹Away (∀ a b, ¬k = Obj.laneState a b)›.out
  unfold laneTo
  repeat' split
  all_goals simp_all (maxDischargeDepth := 30)

@[simp] theorem takeSentence_at [Away (∀ a, ¬k = Obj.loadState a)] [Away (∀ a, ¬k = Obj.seqNow a)] (s : State) (p : ℕ) (addr : ℕ) (hwf : At k v s) :
    At k v (takeSentence s p addr) := by
  have := ‹Away (∀ a, ¬k = Obj.loadState a)›.out
  have := ‹Away (∀ a, ¬k = Obj.seqNow a)›.out
  unfold takeSentence
  repeat' split
  all_goals simp_all (maxDischargeDepth := 30)

theorem execSentenceFetchDone_at [Away (∀ a, ¬k = Obj.badClauses a)] [Away (∀ a, ¬k = Obj.loadReject a)] [Away (∀ a, ¬k = Obj.loadState a)] [Away (∀ a, ¬k = Obj.objFaults a)] [Away (∀ a, ¬k = Obj.sentences a)] [Away (∀ a, ¬k = Obj.seqNow a)] [Away (∀ a, ¬k = Obj.settleMisses a)] [Away (∀ a, ¬k = Obj.underruns a)] [Away (∀ a, ¬k = Obj.windowEnds a)] (p : Fin 8) (s : State) (hwf : At k v s) :
    outAt k v (execSentenceFetchDone p s) := by
  have := ‹Away (∀ a, ¬k = Obj.loadReject a)›.out
  have := ‹Away (∀ a, ¬k = Obj.loadState a)›.out
  simp only [execSentenceFetchDone]
  repeat' split
  all_goals simp (maxDischargeDepth := 30) [*]

theorem execSentenceUnderrun_at [Away (∀ a, ¬k = Obj.badClauses a)] [Away (∀ a, ¬k = Obj.loadState a)] [Away (∀ a, ¬k = Obj.objFaults a)] [Away (∀ a, ¬k = Obj.sentences a)] [Away (∀ a, ¬k = Obj.seqNow a)] [Away (∀ a, ¬k = Obj.settleMisses a)] [Away (∀ a, ¬k = Obj.underruns a)] [Away (∀ a, ¬k = Obj.windowEnds a)] (p : Fin 8) (s : State) (hwf : At k v s) :
    outAt k v (execSentenceUnderrun p s) := by
  simp (maxDischargeDepth := 30) [execSentenceUnderrun, *]

@[simp] theorem postGate_at (s : State) (p : ℕ) (action : ℕ) (off : ℕ) (entry : ℕ) (hwf : At k v s) :
    At k v (postGate s p action off entry) := by
  simp (maxDischargeDepth := 30) [postGate, *]

@[simp] theorem phraseFrame_at (s : State) (p : ℕ) (f : Phrase) (hwf : At k v s) :
    At k v (phraseFrame s p f) := by
  simp only [phraseFrame]
  split <;> simp (maxDischargeDepth := 30) [*]

@[simp] theorem phraseGate_at [Away (∀ a, ¬k = Obj.incompleteCount a)] (s : State) (p : ℕ) (f : Phrase) (hwf : At k v s) :
    At k v (phraseGate s p f) := by
  simp only [phraseGate]
  split <;> simp (maxDischargeDepth := 30) [*]

@[simp] theorem applyPhrase_at [Away (∀ a, ¬k = Obj.incompleteCount a)] (s : State) (p : ℕ) (f : Phrase) (hwf : At k v s) :
    At k v (applyPhrase s p f) := by
  simp (maxDischargeDepth := 30) [applyPhrase, *]

@[simp] theorem settleUnposted_at (s : State) (p : ℕ) (i : ℕ) (hwf : At k v s) :
    At k v (settleUnposted s p i) := by
  simp only [settleUnposted]
  split <;> simp (maxDischargeDepth := 30) [*]

@[simp] theorem leaveEntry_at (s : State) (p : ℕ) (hwf : At k v s) :
    At k v (leaveEntry s p) := by
  simp only [leaveEntry]
  split <;> simp (maxDischargeDepth := 30) [*]

@[simp] theorem clauseAct_at [Away (∀ a, ¬k = Obj.badClauses a)] [Away (∀ a b, ¬k = Obj.clipCount a b)] [Away (∀ a, ¬k = Obj.incompleteCount a)] [Away (∀ a, ¬k = Obj.loadState a)] [Away (∀ a, ¬k = Obj.objFaults a)] [Away (∀ a b, ¬k = Obj.offsetRailCount a b)] [Away (∀ a, ¬k = Obj.sentences a)] [Away (∀ a, ¬k = Obj.settleMisses a)] [Away (∀ a, ¬k = Obj.sm1CorrectedCount a)] [Away (∀ a b, ¬k = Obj.stuckCount a b)] [Away (∀ a, ¬k = Obj.timedCount a)] [Away (∀ a, ¬k = Obj.underruns a)] [Away (∀ a, ¬k = Obj.windowEnds a)] (s : State) (p : ℕ) (hwf : At k v s) :
    At k v (clauseAct s p) := by
  simp only [clauseAct]
  repeat' split
  all_goals simp (maxDischargeDepth := 30) [*]

@[simp] theorem endMask_at (s : State) (p : ℕ) (hwf : At k v s) :
    At k v (endMask s p) := by
  simp (maxDischargeDepth := 30) [endMask, *]

@[simp] theorem waitBegins_at (s : State) (p : ℕ) (cond : ℕ) (units : ℕ) (hwf : At k v s) :
    At k v (waitBegins s p cond units) := by
  simp (maxDischargeDepth := 30) [waitBegins, *]

@[simp] theorem clauseRun_at [Away (∀ a, ¬k = Obj.badClauses a)] [Away (∀ a b, ¬k = Obj.clipCount a b)] [Away (∀ a, ¬k = Obj.incompleteCount a)] [Away (∀ a, ¬k = Obj.loadState a)] [Away (∀ a, ¬k = Obj.objFaults a)] [Away (∀ a b, ¬k = Obj.offsetRailCount a b)] [Away (∀ a, ¬k = Obj.sentences a)] [Away (∀ a, ¬k = Obj.settleMisses a)] [Away (∀ a, ¬k = Obj.sm1CorrectedCount a)] [Away (∀ a b, ¬k = Obj.stuckCount a b)] [Away (∀ a, ¬k = Obj.timedCount a)] [Away (∀ a, ¬k = Obj.underruns a)] [Away (∀ a, ¬k = Obj.windowEnds a)] (s : State) (p : ℕ) (hwf : At k v s) :
    At k v (clauseRun s p) := by
  simp (maxDischargeDepth := 30) [clauseRun, *]

@[simp] theorem drainEvents_at (s : State) (p : ℕ) (hwf : At k v s) :
    At k v (drainEvents s p) := by
  simp (maxDischargeDepth := 30) [drainEvents, *]

@[simp] theorem fillWriteFifo_at (s : State) (a : ℕ) (hwf : At k v s) :
    At k v (fillWriteFifo s a) := by
  simp (maxDischargeDepth := 30) [fillWriteFifo, *]

@[simp] theorem clauseStart_at [Away (∀ a, ¬k = Obj.badClauses a)] [Away (∀ a b, ¬k = Obj.clipCount a b)] [Away (∀ a, ¬k = Obj.incompleteCount a)] [Away (∀ a, ¬k = Obj.loadState a)] [Away (∀ a, ¬k = Obj.objFaults a)] [Away (∀ a b, ¬k = Obj.offsetRailCount a b)] [Away (∀ a, ¬k = Obj.sentences a)] [Away (∀ a, ¬k = Obj.settleMisses a)] [Away (∀ a, ¬k = Obj.sm1CorrectedCount a)] [Away (∀ a b, ¬k = Obj.stuckCount a b)] [Away (∀ a, ¬k = Obj.timedCount a)] [Away (∀ a, ¬k = Obj.underruns a)] [Away (∀ a, ¬k = Obj.windowEnds a)] (s : State) (p : ℕ) (op : ℕ) (phrase : ℕ) (arg : ℕ) (hwf : At k v s) :
    At k v (clauseStart s p op phrase arg) := by
  simp only [clauseStart]
  repeat' split
  all_goals simp (maxDischargeDepth := 30) [*]

theorem execClauseStep_at [Away (∀ a, ¬k = Obj.badClauses a)] [Away (∀ a b, ¬k = Obj.clipCount a b)] [Away (∀ a, ¬k = Obj.incompleteCount a)] [Away (∀ a, ¬k = Obj.loadState a)] [Away (∀ a, ¬k = Obj.objFaults a)] [Away (∀ a b, ¬k = Obj.offsetRailCount a b)] [Away (∀ a, ¬k = Obj.sentences a)] [Away (∀ a, ¬k = Obj.settleMisses a)] [Away (∀ a, ¬k = Obj.sm1CorrectedCount a)] [Away (∀ a b, ¬k = Obj.stuckCount a b)] [Away (∀ a, ¬k = Obj.timedCount a)] [Away (∀ a, ¬k = Obj.underruns a)] [Away (∀ a, ¬k = Obj.windowEnds a)] (p : Fin 8) (phrase : Fin 1024) (arg : BitVec 16) (s : State) (hwf : At k v s) :
    outAt k v (execClauseStep p phrase arg s) := by
  simp (maxDischargeDepth := 30) [execClauseStep, *]

theorem execClauseGoto_at [Away (∀ a, ¬k = Obj.badClauses a)] [Away (∀ a b, ¬k = Obj.clipCount a b)] [Away (∀ a, ¬k = Obj.incompleteCount a)] [Away (∀ a, ¬k = Obj.loadState a)] [Away (∀ a, ¬k = Obj.objFaults a)] [Away (∀ a b, ¬k = Obj.offsetRailCount a b)] [Away (∀ a, ¬k = Obj.sentences a)] [Away (∀ a, ¬k = Obj.settleMisses a)] [Away (∀ a, ¬k = Obj.sm1CorrectedCount a)] [Away (∀ a b, ¬k = Obj.stuckCount a b)] [Away (∀ a, ¬k = Obj.timedCount a)] [Away (∀ a, ¬k = Obj.underruns a)] [Away (∀ a, ¬k = Obj.windowEnds a)] (p : Fin 8) (phrase : Fin 1024) (arg : BitVec 16) (s : State) (hwf : At k v s) :
    outAt k v (execClauseGoto p phrase arg s) := by
  simp (maxDischargeDepth := 30) [execClauseGoto, *]

theorem execClauseCall_at [Away (∀ a, ¬k = Obj.badClauses a)] [Away (∀ a b, ¬k = Obj.clipCount a b)] [Away (∀ a, ¬k = Obj.incompleteCount a)] [Away (∀ a, ¬k = Obj.loadState a)] [Away (∀ a, ¬k = Obj.objFaults a)] [Away (∀ a b, ¬k = Obj.offsetRailCount a b)] [Away (∀ a, ¬k = Obj.sentences a)] [Away (∀ a, ¬k = Obj.settleMisses a)] [Away (∀ a, ¬k = Obj.sm1CorrectedCount a)] [Away (∀ a b, ¬k = Obj.stuckCount a b)] [Away (∀ a, ¬k = Obj.timedCount a)] [Away (∀ a, ¬k = Obj.underruns a)] [Away (∀ a, ¬k = Obj.windowEnds a)] (p : Fin 8) (phrase : Fin 1024) (arg : BitVec 16) (s : State) (hwf : At k v s) :
    outAt k v (execClauseCall p phrase arg s) := by
  simp (maxDischargeDepth := 30) [execClauseCall, *]

theorem execClauseRet_at [Away (∀ a, ¬k = Obj.badClauses a)] [Away (∀ a b, ¬k = Obj.clipCount a b)] [Away (∀ a, ¬k = Obj.incompleteCount a)] [Away (∀ a, ¬k = Obj.loadState a)] [Away (∀ a, ¬k = Obj.objFaults a)] [Away (∀ a b, ¬k = Obj.offsetRailCount a b)] [Away (∀ a, ¬k = Obj.sentences a)] [Away (∀ a, ¬k = Obj.settleMisses a)] [Away (∀ a, ¬k = Obj.sm1CorrectedCount a)] [Away (∀ a b, ¬k = Obj.stuckCount a b)] [Away (∀ a, ¬k = Obj.timedCount a)] [Away (∀ a, ¬k = Obj.underruns a)] [Away (∀ a, ¬k = Obj.windowEnds a)] (p : Fin 8) (phrase : Fin 1024) (arg : BitVec 16) (s : State) (hwf : At k v s) :
    outAt k v (execClauseRet p phrase arg s) := by
  simp (maxDischargeDepth := 30) [execClauseRet, *]

theorem execClauseSetcnt_at [Away (∀ a, ¬k = Obj.badClauses a)] [Away (∀ a b, ¬k = Obj.clipCount a b)] [Away (∀ a, ¬k = Obj.incompleteCount a)] [Away (∀ a, ¬k = Obj.loadState a)] [Away (∀ a, ¬k = Obj.objFaults a)] [Away (∀ a b, ¬k = Obj.offsetRailCount a b)] [Away (∀ a, ¬k = Obj.sentences a)] [Away (∀ a, ¬k = Obj.settleMisses a)] [Away (∀ a, ¬k = Obj.sm1CorrectedCount a)] [Away (∀ a b, ¬k = Obj.stuckCount a b)] [Away (∀ a, ¬k = Obj.timedCount a)] [Away (∀ a, ¬k = Obj.underruns a)] [Away (∀ a, ¬k = Obj.windowEnds a)] (p : Fin 8) (phrase : Fin 1024) (arg : BitVec 16) (s : State) (hwf : At k v s) :
    outAt k v (execClauseSetcnt p phrase arg s) := by
  simp (maxDischargeDepth := 30) [execClauseSetcnt, *]

theorem execClauseLoop_at [Away (∀ a, ¬k = Obj.badClauses a)] [Away (∀ a b, ¬k = Obj.clipCount a b)] [Away (∀ a, ¬k = Obj.incompleteCount a)] [Away (∀ a, ¬k = Obj.loadState a)] [Away (∀ a, ¬k = Obj.objFaults a)] [Away (∀ a b, ¬k = Obj.offsetRailCount a b)] [Away (∀ a, ¬k = Obj.sentences a)] [Away (∀ a, ¬k = Obj.settleMisses a)] [Away (∀ a, ¬k = Obj.sm1CorrectedCount a)] [Away (∀ a b, ¬k = Obj.stuckCount a b)] [Away (∀ a, ¬k = Obj.timedCount a)] [Away (∀ a, ¬k = Obj.underruns a)] [Away (∀ a, ¬k = Obj.windowEnds a)] (p : Fin 8) (phrase : Fin 1024) (arg : BitVec 16) (s : State) (hwf : At k v s) :
    outAt k v (execClauseLoop p phrase arg s) := by
  simp (maxDischargeDepth := 30) [execClauseLoop, *]

theorem execClauseSector_at [Away (∀ a, ¬k = Obj.badClauses a)] [Away (∀ a b, ¬k = Obj.clipCount a b)] [Away (∀ a, ¬k = Obj.incompleteCount a)] [Away (∀ a, ¬k = Obj.loadState a)] [Away (∀ a, ¬k = Obj.objFaults a)] [Away (∀ a b, ¬k = Obj.offsetRailCount a b)] [Away (∀ a, ¬k = Obj.sentences a)] [Away (∀ a, ¬k = Obj.settleMisses a)] [Away (∀ a, ¬k = Obj.sm1CorrectedCount a)] [Away (∀ a b, ¬k = Obj.stuckCount a b)] [Away (∀ a, ¬k = Obj.timedCount a)] [Away (∀ a, ¬k = Obj.underruns a)] [Away (∀ a, ¬k = Obj.windowEnds a)] (p : Fin 8) (phrase : Fin 1024) (arg : BitVec 16) (s : State) (hwf : At k v s) :
    outAt k v (execClauseSector p phrase arg s) := by
  simp (maxDischargeDepth := 30) [execClauseSector, *]

theorem execClauseIfwrite_at [Away (∀ a, ¬k = Obj.badClauses a)] [Away (∀ a b, ¬k = Obj.clipCount a b)] [Away (∀ a, ¬k = Obj.incompleteCount a)] [Away (∀ a, ¬k = Obj.loadState a)] [Away (∀ a, ¬k = Obj.objFaults a)] [Away (∀ a b, ¬k = Obj.offsetRailCount a b)] [Away (∀ a, ¬k = Obj.sentences a)] [Away (∀ a, ¬k = Obj.settleMisses a)] [Away (∀ a, ¬k = Obj.sm1CorrectedCount a)] [Away (∀ a b, ¬k = Obj.stuckCount a b)] [Away (∀ a, ¬k = Obj.timedCount a)] [Away (∀ a, ¬k = Obj.underruns a)] [Away (∀ a, ¬k = Obj.windowEnds a)] (p : Fin 8) (phrase : Fin 1024) (arg : BitVec 16) (s : State) (hwf : At k v s) :
    outAt k v (execClauseIfwrite p phrase arg s) := by
  simp (maxDischargeDepth := 30) [execClauseIfwrite, *]

theorem execClauseIfparity_at [Away (∀ a, ¬k = Obj.badClauses a)] [Away (∀ a b, ¬k = Obj.clipCount a b)] [Away (∀ a, ¬k = Obj.incompleteCount a)] [Away (∀ a, ¬k = Obj.loadState a)] [Away (∀ a, ¬k = Obj.objFaults a)] [Away (∀ a b, ¬k = Obj.offsetRailCount a b)] [Away (∀ a, ¬k = Obj.sentences a)] [Away (∀ a, ¬k = Obj.settleMisses a)] [Away (∀ a, ¬k = Obj.sm1CorrectedCount a)] [Away (∀ a b, ¬k = Obj.stuckCount a b)] [Away (∀ a, ¬k = Obj.timedCount a)] [Away (∀ a, ¬k = Obj.underruns a)] [Away (∀ a, ¬k = Obj.windowEnds a)] (p : Fin 8) (phrase : Fin 1024) (arg : BitVec 16) (s : State) (hwf : At k v s) :
    outAt k v (execClauseIfparity p phrase arg s) := by
  simp (maxDischargeDepth := 30) [execClauseIfparity, *]

theorem execClauseEnd_at [Away (∀ a, ¬k = Obj.badClauses a)] [Away (∀ a b, ¬k = Obj.clipCount a b)] [Away (∀ a, ¬k = Obj.incompleteCount a)] [Away (∀ a, ¬k = Obj.loadState a)] [Away (∀ a, ¬k = Obj.objFaults a)] [Away (∀ a b, ¬k = Obj.offsetRailCount a b)] [Away (∀ a, ¬k = Obj.sentences a)] [Away (∀ a, ¬k = Obj.settleMisses a)] [Away (∀ a, ¬k = Obj.sm1CorrectedCount a)] [Away (∀ a b, ¬k = Obj.stuckCount a b)] [Away (∀ a, ¬k = Obj.timedCount a)] [Away (∀ a, ¬k = Obj.underruns a)] [Away (∀ a, ¬k = Obj.windowEnds a)] (p : Fin 8) (phrase : Fin 1024) (arg : BitVec 16) (s : State) (hwf : At k v s) :
    outAt k v (execClauseEnd p phrase arg s) := by
  simp (maxDischargeDepth := 30) [execClauseEnd, *]

theorem execClauseBad_at [Away (∀ a, ¬k = Obj.badClauses a)] [Away (∀ a b, ¬k = Obj.clipCount a b)] [Away (∀ a, ¬k = Obj.incompleteCount a)] [Away (∀ a, ¬k = Obj.loadState a)] [Away (∀ a, ¬k = Obj.objFaults a)] [Away (∀ a b, ¬k = Obj.offsetRailCount a b)] [Away (∀ a, ¬k = Obj.sentences a)] [Away (∀ a, ¬k = Obj.settleMisses a)] [Away (∀ a, ¬k = Obj.sm1CorrectedCount a)] [Away (∀ a b, ¬k = Obj.stuckCount a b)] [Away (∀ a, ¬k = Obj.timedCount a)] [Away (∀ a, ¬k = Obj.underruns a)] [Away (∀ a, ¬k = Obj.windowEnds a)] (p : Fin 8) (why : BadClause) (s : State) (hwf : At k v s) :
    outAt k v (execClauseBad p why s) := by
  simp (maxDischargeDepth := 30) [execClauseBad, *]

theorem execClauseTimeEnd_at [Away (∀ a, ¬k = Obj.badClauses a)] [Away (∀ a b, ¬k = Obj.clipCount a b)] [Away (∀ a, ¬k = Obj.incompleteCount a)] [Away (∀ a, ¬k = Obj.loadState a)] [Away (∀ a, ¬k = Obj.objFaults a)] [Away (∀ a b, ¬k = Obj.offsetRailCount a b)] [Away (∀ a, ¬k = Obj.sentences a)] [Away (∀ a, ¬k = Obj.settleMisses a)] [Away (∀ a, ¬k = Obj.sm1CorrectedCount a)] [Away (∀ a b, ¬k = Obj.stuckCount a b)] [Away (∀ a, ¬k = Obj.timedCount a)] [Away (∀ a, ¬k = Obj.underruns a)] [Away (∀ a, ¬k = Obj.windowEnds a)] (p : Fin 8) (s : State) (hwf : At k v s) :
    outAt k v (execClauseTimeEnd p s) := by
  simp only [execClauseTimeEnd]
  split <;> simp (maxDischargeDepth := 30) [*]

theorem execClauseWaitMet_at [Away (∀ a, ¬k = Obj.badClauses a)] [Away (∀ a b, ¬k = Obj.clipCount a b)] [Away (∀ a, ¬k = Obj.incompleteCount a)] [Away (∀ a, ¬k = Obj.loadState a)] [Away (∀ a, ¬k = Obj.objFaults a)] [Away (∀ a b, ¬k = Obj.offsetRailCount a b)] [Away (∀ a, ¬k = Obj.sentences a)] [Away (∀ a, ¬k = Obj.settleMisses a)] [Away (∀ a, ¬k = Obj.sm1CorrectedCount a)] [Away (∀ a b, ¬k = Obj.stuckCount a b)] [Away (∀ a, ¬k = Obj.timedCount a)] [Away (∀ a, ¬k = Obj.underruns a)] [Away (∀ a, ¬k = Obj.windowEnds a)] (p : Fin 8) (wedge : ℕ) (t : ℕ) (s : State) (hwf : At k v s) :
    outAt k v (execClauseWaitMet p wedge t s) := by
  simp only [execClauseWaitMet]
  split <;> simp (maxDischargeDepth := 30) [*]

theorem execClauseWaitTimeout_at [Away (∀ a, ¬k = Obj.badClauses a)] [Away (∀ a b, ¬k = Obj.clipCount a b)] [Away (∀ a, ¬k = Obj.incompleteCount a)] [Away (∀ a, ¬k = Obj.loadState a)] [Away (∀ a, ¬k = Obj.objFaults a)] [Away (∀ a b, ¬k = Obj.offsetRailCount a b)] [Away (∀ a, ¬k = Obj.sentences a)] [Away (∀ a, ¬k = Obj.settleMisses a)] [Away (∀ a, ¬k = Obj.sm1CorrectedCount a)] [Away (∀ a b, ¬k = Obj.stuckCount a b)] [Away (∀ a, ¬k = Obj.timedCount a)] [Away (∀ a, ¬k = Obj.underruns a)] [Away (∀ a, ¬k = Obj.waitTimeouts a)] [Away (∀ a, ¬k = Obj.windowEnds a)] (p : Fin 8) (s : State) (hwf : At k v s) :
    outAt k v (execClauseWaitTimeout p s) := by
  have := ‹Away (∀ a, ¬k = Obj.waitTimeouts a)›.out
  simp only [execClauseWaitTimeout]
  split <;> simp (maxDischargeDepth := 30) [*]

theorem execPlayerStallEnd_at [Away (∀ a, ¬k = Obj.badClauses a)] [Away (∀ a b, ¬k = Obj.clipCount a b)] [Away (∀ a, ¬k = Obj.incompleteCount a)] [Away (∀ a, ¬k = Obj.loadState a)] [Away (∀ a, ¬k = Obj.objFaults a)] [Away (∀ a b, ¬k = Obj.offsetRailCount a b)] [Away (∀ a, ¬k = Obj.sentences a)] [Away (∀ a, ¬k = Obj.settleMisses a)] [Away (∀ a, ¬k = Obj.sm1CorrectedCount a)] [Away (∀ a b, ¬k = Obj.stuckCount a b)] [Away (∀ a, ¬k = Obj.timedCount a)] [Away (∀ a, ¬k = Obj.underruns a)] [Away (∀ a, ¬k = Obj.windowEnds a)] (p : Fin 8) (s : State) (hwf : At k v s) :
    outAt k v (execPlayerStallEnd p s) := by
  simp (maxDischargeDepth := 30) [execPlayerStallEnd, *]

theorem execWindowEndReached_at [Away (∀ a, ¬k = Obj.badClauses a)] [Away (∀ a b, ¬k = Obj.clipCount a b)] [Away (∀ a, ¬k = Obj.incompleteCount a)] [Away (∀ a, ¬k = Obj.loadState a)] [Away (∀ a, ¬k = Obj.objFaults a)] [Away (∀ a b, ¬k = Obj.offsetRailCount a b)] [Away (∀ a, ¬k = Obj.sentences a)] [Away (∀ a, ¬k = Obj.settleMisses a)] [Away (∀ a, ¬k = Obj.sm1CorrectedCount a)] [Away (∀ a b, ¬k = Obj.stuckCount a b)] [Away (∀ a, ¬k = Obj.timedCount a)] [Away (∀ a, ¬k = Obj.underruns a)] [Away (∀ a, ¬k = Obj.windowEnds a)] (p : Fin 8) (s : State) (hwf : At k v s) :
    outAt k v (execWindowEndReached p s) := by
  simp (maxDischargeDepth := 30) [execWindowEndReached, *]

theorem execPlayerMemoryFault_at [Away (∀ a, ¬k = Obj.badClauses a)] [Away (∀ a b, ¬k = Obj.clipCount a b)] [Away (∀ a, ¬k = Obj.incompleteCount a)] [Away (∀ a, ¬k = Obj.loadState a)] [Away (∀ a, ¬k = Obj.objFaults a)] [Away (∀ a b, ¬k = Obj.offsetRailCount a b)] [Away (∀ a, ¬k = Obj.sentences a)] [Away (∀ a, ¬k = Obj.settleMisses a)] [Away (∀ a, ¬k = Obj.sm1CorrectedCount a)] [Away (∀ a b, ¬k = Obj.stuckCount a b)] [Away (∀ a, ¬k = Obj.timedCount a)] [Away (∀ a, ¬k = Obj.underruns a)] [Away (∀ a, ¬k = Obj.windowEnds a)] (p : Fin 8) (store : Bool) (s : State) (hwf : At k v s) :
    outAt k v (execPlayerMemoryFault p store s) := by
  simp only [execPlayerMemoryFault]
  split <;> simp (maxDischargeDepth := 30) [*]

theorem execSentenceEnd_at [Away (∀ a, ¬k = Obj.badClauses a)] [Away (∀ a, ¬k = Obj.loadState a)] [Away (∀ a, ¬k = Obj.objFaults a)] [Away (∀ a, ¬k = Obj.sentences a)] [Away (∀ a, ¬k = Obj.settleMisses a)] [Away (∀ a, ¬k = Obj.underruns a)] [Away (∀ a, ¬k = Obj.windowEnds a)] (p : Fin 8) (s : State) (hwf : At k v s) :
    outAt k v (execSentenceEnd p s) := by
  simp (maxDischargeDepth := 30) [execSentenceEnd, *]

theorem execSentenceRecordWrite_at (p : Fin 8) (s : State) (hwf : At k v s) :
    outAt k v (execSentenceRecordWrite p s) := by
  simp only [execSentenceRecordWrite]
  split <;> simp (maxDischargeDepth := 30) [*]

@[simp] theorem preambleLoops_at (a : ℕ) (s : State) (h : Header) (first : Bool) (hwf : At k v s) :
    At k v (preambleLoops a s h first) := by
  simp (maxDischargeDepth := 30) [preambleLoops, *]

@[simp] theorem readOpen_at [Away (∀ a, ¬k = Obj.incompleteCount a)] [Away (∀ a, ¬k = Obj.synthUnlockCount a)] [Away (∀ a, ¬k = Obj.writeUnsafeCount a)] (s : State) (p : ℕ) (g : GateEntry) (hwf : At k v s) :
    At k v (readOpen s p g) := by
  simp only [readOpen]
  split <;> simp (maxDischargeDepth := 30) [*]

@[simp] theorem laserDark_at (s : State) (a : ℕ) (hwf : At k v s) :
    At k v (laserDark s a) := by
  simp (maxDischargeDepth := 30) [laserDark, *]

@[simp] theorem writeOpen_at [Away (∀ a, ¬k = Obj.incompleteCount a)] [Away (∀ a, ¬k = Obj.synthUnlockCount a)] [Away (∀ a, ¬k = Obj.writeUnsafeCount a)] (s : State) (p : ℕ) (g : GateEntry) (hwf : At k v s) :
    At k v (writeOpen s p g) := by
  simp only [writeOpen]
  split <;> simp (maxDischargeDepth := 30) [*]

@[simp] theorem writeClose_at [Away (∀ a, ¬k = Obj.incompleteCount a)] (s : State) (p : ℕ) (w : ℕ) (t : ℕ) (hwf : At k v s) :
    At k v (writeClose s p w t) := by
  simp only [writeClose]
  repeat' split
  all_goals simp (maxDischargeDepth := 30) [*]

@[simp] theorem readClose_at (s : State) (p : ℕ) (i : ℕ) (hwf : At k v s) :
    At k v (readClose s p i) := by
  simp (maxDischargeDepth := 30) [readClose, *]

@[simp] theorem gateAct_at [Away (∀ a b, ¬k = Obj.clipCount a b)] [Away (∀ a, ¬k = Obj.incompleteCount a)] [Away (∀ a b, ¬k = Obj.offsetRailCount a b)] [Away (∀ a, ¬k = Obj.sm1CorrectedCount a)] [Away (∀ a b, ¬k = Obj.stuckCount a b)] [Away (∀ a, ¬k = Obj.synthUnlockCount a)] [Away (∀ a, ¬k = Obj.timedCount a)] [Away (∀ a, ¬k = Obj.writeUnsafeCount a)] (s : State) (p : Nat) (g : GateEntry) (h : At k v s) : At k v (gateAct s p g) := by
  unfold gateAct
  dsimp only
  repeat' first | (simp +contextual (maxDischargeDepth := 30) [*]; done) | split

@[simp] theorem lateGate_at [Away (∀ a b, ¬k = Obj.clipCount a b)] [Away (∀ a, ¬k = Obj.incompleteCount a)] [Away (∀ a, ¬k = Obj.lateGates a)] [Away (∀ a b, ¬k = Obj.offsetRailCount a b)] [Away (∀ a, ¬k = Obj.sm1CorrectedCount a)] [Away (∀ a b, ¬k = Obj.stuckCount a b)] [Away (∀ a, ¬k = Obj.synthUnlockCount a)] [Away (∀ a, ¬k = Obj.timedCount a)] [Away (∀ a, ¬k = Obj.writeUnsafeCount a)] (s : State) (p : ℕ) (g : GateEntry) (hwf : At k v s) :
    At k v (lateGate s p g) := by
  have := ‹Away (∀ a, ¬k = Obj.lateGates a)›.out
  simp only [lateGate]
  repeat' split
  all_goals simp (maxDischargeDepth := 30) [*]

@[simp] theorem laserLead_at (s : State) (p : ℕ) (hwf : At k v s) :
    At k v (laserLead s p) := by
  simp only [laserLead]
  split <;> simp (maxDischargeDepth := 30) [*]

theorem execGateEntryExecute_at [Away (∀ a b, ¬k = Obj.clipCount a b)] [Away (∀ a, ¬k = Obj.incompleteCount a)] [Away (∀ a, ¬k = Obj.lateGates a)] [Away (∀ a b, ¬k = Obj.offsetRailCount a b)] [Away (∀ a, ¬k = Obj.sm1CorrectedCount a)] [Away (∀ a b, ¬k = Obj.stuckCount a b)] [Away (∀ a, ¬k = Obj.synthUnlockCount a)] [Away (∀ a, ¬k = Obj.timedCount a)] [Away (∀ a, ¬k = Obj.writeUnsafeCount a)] (p : Fin 8) (t : ℕ) (adc : List AdcRow) (s : State) (hwf : At k v s) :
    outAt k v (execGateEntryExecute p t adc s) := by
  simp only [execGateEntryExecute]
  split <;> simp (maxDischargeDepth := 30) [*]

end Sys2Proof.Machine
end

