-- ==== Sys2Proof/Laws/AtChannel.lean ====
section
/-! SUPPORT. The objects that every operation of Machine/Channel.lean can write. -/

namespace Sys2Proof.Machine

variable {k : Key} {v : Val}

theorem execWriteUnsafe_at [Away (∀ a, ¬k = Obj.incompleteCount a)] [Away (∀ a, ¬k = Obj.writeUnsafeCount a)] (a : Fin 4) (src : WuSource) (t : ℕ) (s : State) (hwf : At k v s) :
    outAt k v (execWriteUnsafe a src t s) := by
  simp (maxDischargeDepth := 30) [execWriteUnsafe, *]

theorem execWriteFifoEmpty_at [Away (∀ a, ¬k = Obj.incompleteCount a)] (a : Fin 4) (s : State) (hwf : At k v s) :
    outAt k v (execWriteFifoEmpty a s) := by
  simp (maxDischargeDepth := 30) [execWriteFifoEmpty, *]

@[simp] theorem reportCaptures_at (s : State) (a : ℕ) (mask : ℕ) (hwf : At k v s) :
    At k v (reportCaptures s a mask) := by
  unfold reportCaptures
  repeat' split
  all_goals simp_all (maxDischargeDepth := 30)

theorem execSampleOverrun_at (a : Fin 4) (lane : Fin 3) (s : State) (hwf : At k v s) :
    outAt k v (execSampleOverrun a lane s) := by
  simp (maxDischargeDepth := 30) [execSampleOverrun, *]

theorem execSynthLock_at (a : Fin 4) (s : State) (hwf : At k v s) :
    outAt k v (execSynthLock a s) := by
  simp (maxDischargeDepth := 30) [execSynthLock, *]

theorem execSynthUnlock_at [Away (∀ a, ¬k = Obj.incompleteCount a)] [Away (∀ a, ¬k = Obj.synthUnlockCount a)] [Away (∀ a, ¬k = Obj.writeUnsafeCount a)] (a : Fin 4) (s : State) (hwf : At k v s) :
    outAt k v (execSynthUnlock a s) := by
  simp (maxDischargeDepth := 30) [execSynthUnlock, *]

@[simp] theorem detectorFires_at (s : State) (a mask cause count firings : Nat) (hc : k ≠ count) (hwf : At k v s) :
    At k v (detectorFires s a mask cause count firings) := by
  simp only [detectorFires]
  simp (maxDischargeDepth := 30) [*]

theorem execThermalAsperity_at [Away (∀ a, ¬k = Obj.taCount a)] (a : Fin 4) (adc : List AdcRow) (s : State) (hwf : At k v s) :
    outAt k v (execThermalAsperity a adc s) := by
  have := ‹Away (∀ a, ¬k = Obj.taCount a)›.out
  simp (maxDischargeDepth := 30) [execThermalAsperity, *]

theorem execDropDetect_at [Away (∀ a, ¬k = Obj.dropCount a)] (a : Fin 4) (adc : List AdcRow) (s : State) (hwf : At k v s) :
    outAt k v (execDropDetect a adc s) := by
  have := ‹Away (∀ a, ¬k = Obj.dropCount a)›.out
  simp (maxDischargeDepth := 30) [execDropDetect, *]

theorem execFreezeHangoverEnd_at (a : Fin 4) (adc : List AdcRow) (s : State) (hwf : At k v s) :
    outAt k v (execFreezeHangoverEnd a adc s) := by
  simp (maxDischargeDepth := 30) [execFreezeHangoverEnd, *]

theorem execLongFreeze_at [Away (∀ a, ¬k = Obj.longFreezeCount a)] (a : Fin 4) (adc : List AdcRow) (s : State) (hwf : At k v s) :
    outAt k v (execLongFreeze a adc s) := by
  have := ‹Away (∀ a, ¬k = Obj.longFreezeCount a)›.out
  unfold execLongFreeze
  dsimp only
  repeat' split
  all_goals simp_all (maxDischargeDepth := 30)

theorem execSyncWindowEnd_at [Away (∀ a, ¬k = Obj.sm1MissCount a)] [Away (∀ a, ¬k = Obj.sm2MissCount a)] (p : Fin 8) (first : Bool) (adc : List AdcRow) (s : State) (hwf : At k v s) :
    outAt k v (execSyncWindowEnd p first adc s) := by
  have := ‹Away (∀ a, ¬k = Obj.sm1MissCount a)›.out
  have := ‹Away (∀ a, ¬k = Obj.sm2MissCount a)›.out
  simp only [execSyncWindowEnd]
  repeat' split
  all_goals simp (maxDischargeDepth := 30) [*]

theorem execCaptureEnd_at [Away (∀ a b, ¬k = Obj.clipCount a b)] [Away (∀ a b, ¬k = Obj.offsetRailCount a b)] [Away (∀ a, ¬k = Obj.sm1CorrectedCount a)] [Away (∀ a b, ¬k = Obj.stuckCount a b)] [Away (∀ a, ¬k = Obj.timedCount a)] (p : Fin 8) (adc : List AdcRow) (s : State) (hwf : At k v s) :
    outAt k v (execCaptureEnd p adc s) := by
  simp only [execCaptureEnd]
  repeat' split
  all_goals simp (maxDischargeDepth := 30) [*]

theorem execPreampFaultAssert_at [Away (∀ a, ¬k = Obj.incompleteCount a)] [Away (∀ a, ¬k = Obj.preampFaults a)] [Away (∀ a, ¬k = Obj.writeUnsafeCount a)] (a : Fin 4) (s : State) (hwf : At k v s) :
    outAt k v (execPreampFaultAssert a s) := by
  have := ‹Away (∀ a, ¬k = Obj.preampFaults a)›.out
  simp (maxDischargeDepth := 30) [execPreampFaultAssert, *]

theorem execPreampFaultRelease_at (a : Fin 4) (s : State) (hwf : At k v s) :
    outAt k v (execPreampFaultRelease a s) := by
  simp (maxDischargeDepth := 30) [execPreampFaultRelease, *]

@[simp] theorem verifyFail_at [Away (∀ a, ¬k = Obj.frameRetries a)] [Away (∀ a, ¬k = Obj.incompleteCount a)] [Away (∀ a, ¬k = Obj.writeUnsafeCount a)] (s : State) (a : ℕ) (hwf : At k v s) :
    At k v (verifyFail s a) := by
  have := ‹Away (∀ a, ¬k = Obj.frameRetries a)›.out
  simp (maxDischargeDepth := 30) [verifyFail, *]

@[simp] theorem frameTaken_at (s : State) (a : ℕ) (f : PreampFrame) (hwf : At k v s) :
    At k v (frameTaken s a f) := by
  simp only [frameTaken]
  split <;> simp (maxDischargeDepth := 30) [*]

@[simp] theorem accessResult_at [Away (∀ a, ¬k = Obj.preampAccess a)] (s : State) (a : ℕ) (f : PreampFrame) (readback : ℕ) (hwf : At k v s) :
    At k v (accessResult s a f readback) := by
  have := ‹Away (∀ a, ¬k = Obj.preampAccess a)›.out
  simp only [accessResult]
  split <;> simp (maxDischargeDepth := 30) [*]

@[simp] theorem frameDone_at [Away (∀ a, ¬k = Obj.frameRetries a)] [Away (∀ a, ¬k = Obj.incompleteCount a)] [Away (∀ a, ¬k = Obj.preampAccess a)] [Away (∀ a, ¬k = Obj.preampFaultStatus a)] [Away (∀ a, ¬k = Obj.writeUnsafeCount a)] (s : State) (a : ℕ) (f : PreampFrame) (readback : ℕ) (parityOk : Bool) (hwf : At k v s) :
    At k v (frameDone s a f readback parityOk) := by
  have := ‹Away (∀ a, ¬k = Obj.preampFaultStatus a)›.out
  simp only [frameDone]
  repeat' split
  all_goals simp (maxDischargeDepth := 30) [*]

theorem execPreampFrameDone_at [Away (∀ a, ¬k = Obj.frameRetries a)] [Away (∀ a, ¬k = Obj.incompleteCount a)] [Away (∀ a, ¬k = Obj.preampAccess a)] [Away (∀ a, ¬k = Obj.preampFaultStatus a)] [Away (∀ a, ¬k = Obj.writeUnsafeCount a)] (a : Fin 4) (readback : ℕ) (parityOk : Bool) (s : State) (hwf : At k v s) :
    outAt k v (execPreampFrameDone a readback parityOk s) := by
  simp only [execPreampFrameDone]
  split <;> simp (maxDischargeDepth := 30) [*]

theorem execWritePayloadPoisoned_at [Away (∀ a, ¬k = Obj.incompleteCount a)] (p : Fin 8) (entry : ℕ) (s : State) (hwf : At k v s) :
    outAt k v (execWritePayloadPoisoned p entry s) := by
  simp only [execWritePayloadPoisoned]
  repeat' split
  all_goals simp (maxDischargeDepth := 30) [*]

end Sys2Proof.Machine
end

