-- ==== Sys2Proof/Laws/AtDecoder.lean ====
section
/-! SUPPORT. The objects that every operation of Machine/Decoder.lean can write. -/

namespace Sys2Proof.Machine

variable {k : Key} {v : Val}

@[simp] theorem releaseHold_at (s : State) (a : ℕ) (h : ℕ) (hwf : At k v s) :
    At k v (releaseHold s a h) := by
  simp (maxDischargeDepth := 30) [releaseHold, *]

theorem execHoldCopyDone_at (a : Fin 4) (hold : ℕ) (s : State) (hwf : At k v s) :
    outAt k v (execHoldCopyDone a hold s) := by
  simp only [execHoldCopyDone]
  repeat' split
  all_goals simp (maxDischargeDepth := 30) [*]

@[simp] theorem holdSamples_at [Away (¬k = Obj.samplesLostCount)] (s : State) (j : DecodeJob) (hwf : At k v s) :
    At k v (holdSamples s j).1 := by
  have := ‹Away (¬k = Obj.samplesLostCount)›.out
  simp only [holdSamples]
  split <;> simp (maxDischargeDepth := 30) [*]

@[simp] theorem noteIterations_at (s : State) (j : DecodeJob) (hwf : At k v s) :
    At k v (noteIterations s j) := by
  simp (maxDischargeDepth := 30) [noteIterations, *]

@[simp] theorem endOnline_at [Away (¬k = Obj.extendedCount)] [Away (¬k = Obj.samplesLostCount)] [Away (¬k = Obj.slotOverrunCount)] (s : State) (j : DecodeJob) (payload : Option (List Byte)) (hwf : At k v s) :
    At k v (endOnline s j payload) := by
  have := ‹Away (¬k = Obj.extendedCount)›.out
  have := ‹Away (¬k = Obj.slotOverrunCount)›.out
  simp only [endOnline]
  repeat' split
  all_goals simp (maxDischargeDepth := 30) [*]

@[simp] theorem endJob_at [Away (¬k = Obj.extendedCount)] [Away (¬k = Obj.samplesLostCount)] [Away (¬k = Obj.slotOverrunCount)] (s : State) (j : DecodeJob) (payload : Option (List Byte)) (hwf : At k v s) :
    At k v (endJob s j payload) := by
  simp only [endJob]
  repeat' split
  all_goals simp (maxDischargeDepth := 30) [*]

@[simp] theorem alignmentFails_at [Away (¬k = Obj.extendedCount)] [Away (¬k = Obj.samplesLostCount)] [Away (¬k = Obj.slotOverrunCount)] (s : State) (j : DecodeJob) (result : ℕ) (hwf : At k v s) :
    At k v (alignmentFails s j result) := by
  simp (maxDischargeDepth := 30) [alignmentFails, *]

@[simp] theorem freeDetector_at (s : State) (core : ℕ) (hwf : At k v s) :
    At k v (freeDetector s core) := by
  simp (maxDischargeDepth := 30) [freeDetector, *]

@[simp] theorem freeLdpc_at (s : State) (core : ℕ) (hwf : At k v s) :
    At k v (freeLdpc s core) := by
  simp (maxDischargeDepth := 30) [freeLdpc, *]

@[simp] theorem countCorrected_at (s : State) (check : PassCheck) (hwf : At k v s) :
    At k v (countCorrected s check) := by
  simp only [countCorrected]
  split <;> simp (maxDischargeDepth := 30) [*]

@[simp] theorem checkerDisagrees_at [Away (∀ a, ¬k = Obj.detCheckFails a)] [Away (∀ a, ¬k = Obj.ldpcCheckFails a)] (s : State) (j : DecodeJob) (det : Bool) (core : ℕ) (hwf : At k v s) :
    At k v (checkerDisagrees s j det core) := by
  have := ‹Away (∀ a, ¬k = Obj.detCheckFails a)›.out
  have := ‹Away (∀ a, ¬k = Obj.ldpcCheckFails a)›.out
  simp (maxDischargeDepth := 30) [checkerDisagrees, *]

theorem execDetectorPassDone_at [Away (∀ a, ¬k = Obj.detCheckFails a)] [Away (∀ a, ¬k = Obj.detSectors a)] [Away (∀ a, ¬k = Obj.ldpcCheckFails a)] (core : Fin 8) (job : ℕ) (check : PassCheck) (s : State) (hwf : At k v s) :
    outAt k v (execDetectorPassDone core job check s) := by
  have := ‹Away (∀ a, ¬k = Obj.detSectors a)›.out
  unfold execDetectorPassDone
  have h : At k v (dispatch s) := by simp (maxDischargeDepth := 30) [*]
  dsimp only
  generalize dispatch s = t at h ⊢
  split
  · simpa
  · simp (maxDischargeDepth := 30) [*]

@[simp] theorem codewordReached_at [Away (¬k = Obj.crcFailCount)] [Away (¬k = Obj.extendedCount)] [Away (¬k = Obj.samplesLostCount)] [Away (¬k = Obj.slotOverrunCount)] (s : State) (j : DecodeJob) (hard : List Bool) (hwf : At k v s) :
    At k v (codewordReached s j hard) := by
  have := ‹Away (¬k = Obj.crcFailCount)›.out
  simp (maxDischargeDepth := 30) [codewordReached, *]

theorem execLdpcIterationDone_at [Away (¬k = Obj.crcFailCount)] [Away (∀ a, ¬k = Obj.detCheckFails a)] [Away (¬k = Obj.extendedCount)] [Away (∀ a, ¬k = Obj.ldpcCheckFails a)] [Away (∀ a, ¬k = Obj.ldpcSectors a)] [Away (¬k = Obj.samplesLostCount)] [Away (¬k = Obj.slotOverrunCount)] (core : Fin 12) (job : ℕ) (check : PassCheck) (s : State) (hwf : At k v s) :
    outAt k v (execLdpcIterationDone core job check s) := by
  have := ‹Away (∀ a, ¬k = Obj.ldpcSectors a)›.out
  unfold execLdpcIterationDone
  have h : At k v (dispatch s) := by simp (maxDischargeDepth := 30) [*]
  dsimp only
  generalize dispatch s = t at h ⊢
  split
  · simpa
  · simp (maxDischargeDepth := 30) [*]

theorem execDecodeDeadline_at [Away (¬k = Obj.extendedCount)] [Away (¬k = Obj.samplesLostCount)] [Away (¬k = Obj.slotOverrunCount)] (job : ℕ) (s : State) (hwf : At k v s) :
    outAt k v (execDecodeDeadline job s) := by
  simp only [execDecodeDeadline]
  split <;> simp (maxDischargeDepth := 30) [*]

@[simp] theorem advanceRing_at [Away (∀ a, ¬k = Obj.ringHead a)] (s : State) (ring : ℕ) (hwf : At k v s) :
    At k v (advanceRing s ring) := by
  have := ‹Away (∀ a, ¬k = Obj.ringHead a)›.out
  simp (maxDischargeDepth := 30) [advanceRing, *]

theorem execLadderDeep_at [Away (∀ a, ¬k = Obj.ringHead a)] (ring : Fin 4) (s : State) (hwf : At k v s) :
    outAt k v (execLadderDeep ring s) := by
  simp only [execLadderDeep]
  split <;> simp (maxDischargeDepth := 30) [*]

theorem execLadderAverage_at [Away (∀ a, ¬k = Obj.ringHead a)] (ring : Fin 4) (s : State) (hwf : At k v s) :
    outAt k v (execLadderAverage ring s) := by
  simp only [execLadderAverage]
  split <;> simp (maxDischargeDepth := 30) [*]

theorem execLadderReleaseHold_at [Away (∀ a, ¬k = Obj.ringHead a)] (ring : Fin 4) (s : State) (hwf : At k v s) :
    outAt k v (execLadderReleaseHold ring s) := by
  unfold execLadderReleaseHold
  repeat' split
  all_goals simp_all (maxDischargeDepth := 30)

theorem execLadderRequestEnd_at [Away (∀ a, ¬k = Obj.ringDone a)] (job : ℕ) (s : State) (hwf : At k v s) :
    outAt k v (execLadderRequestEnd job s) := by
  have := ‹Away (∀ a, ¬k = Obj.ringDone a)›.out
  unfold execLadderRequestEnd
  repeat' first | (simp +contextual (maxDischargeDepth := 30) [*]; done) | split

end Sys2Proof.Machine
end

