-- ==== Sys2Proof/Laws/AtHostCore.lean ====
section
/-! SUPPORT. The objects that every operation of Machine/HostCore.lean can write. -/

namespace Sys2Proof.Machine

variable {k : Key} {v : Val}

@[simp] theorem State.setHost_at (s : State) (h : HostIf) (hwf : At k v s) :
    At k v (State.setHost s h) := by
  simp (maxDischargeDepth := 30) [State.setHost, *]

@[simp] theorem putSlot_at (s : State) (n : ℕ) (c : CmdSlot) (hwf : At k v s) :
    At k v (putSlot s n c) := by
  simp (maxDischargeDepth := 30) [putSlot, *]

@[simp] theorem countSlots_at [Away (∀ a, ¬k = Obj.ioSlotsHeld a)] [Away (¬k = Obj.lockInUse)] [Away (¬k = Obj.slotsInUse)] (s : State) (hwf : At k v s) :
    At k v (countSlots s) := by
  have := ‹Away (∀ a, ¬k = Obj.ioSlotsHeld a)›.out
  have := ‹Away (¬k = Obj.lockInUse)›.out
  have := ‹Away (¬k = Obj.slotsInUse)›.out
  simp (maxDischargeDepth := 30) [countSlots, *]

@[simp] theorem freeSlot_at [Away (∀ a, ¬k = Obj.ioSlotsHeld a)] [Away (¬k = Obj.lockInUse)] [Away (¬k = Obj.slotsInUse)] (s : State) (n : ℕ) (hwf : At k v s) :
    At k v (freeSlot s n) := by
  simp (maxDischargeDepth := 30) [freeSlot, *]

@[simp] theorem releaseOne_at [Away (∀ a, ¬k = Obj.ioSlotsHeld a)] [Away (¬k = Obj.lockInUse)] [Away (¬k = Obj.lockStallMaxUs)] [Away (¬k = Obj.slotsInUse)] (s : State) (n : ℕ) (hwf : At k v s) :
    At k v (releaseOne s n) := by
  have := ‹Away (¬k = Obj.lockStallMaxUs)›.out
  simp only [releaseOne]
  split <;> simp (maxDischargeDepth := 30) [*]

@[simp] theorem signal_at (s : State) (p : Port) (qid : ℕ) (q : Cq) (hwf : At k v s) :
    At k v (signal s p qid q) := by
  simp only [signal]
  repeat' split
  all_goals simp (maxDischargeDepth := 30) [*]

@[simp] theorem postNow_at [Away (∀ a, ¬k = Obj.commands a)] [Away (∀ a, ¬k = Obj.ioSlotsHeld a)] [Away (¬k = Obj.lockInUse)] [Away (¬k = Obj.slotsInUse)] (s : State) (p : Port) (qid : ℕ) (q : Cq) (c : Completion) (hwf : At k v s) :
    At k v (postNow s p qid q c) := by
  have := ‹Away (∀ a, ¬k = Obj.commands a)›.out
  simp only [postNow]
  split <;> simp (maxDischargeDepth := 30) [*]

@[simp] theorem postCompletion_at [Away (∀ a, ¬k = Obj.commands a)] [Away (∀ a, ¬k = Obj.ioSlotsHeld a)] [Away (¬k = Obj.lockInUse)] [Away (¬k = Obj.slotsInUse)] (s : State) (p : Port) (qid : ℕ) (c : Completion) (hwf : At k v s) :
    At k v (postCompletion s p qid c) := by
  simp only [postCompletion]
  repeat' split
  all_goals simp (maxDischargeDepth := 30) [*]

@[simp] theorem settleLock_at [Away (∀ a, ¬k = Obj.commands a)] [Away (∀ a, ¬k = Obj.ioSlotsHeld a)] [Away (¬k = Obj.lockInUse)] [Away (¬k = Obj.lockStallMaxUs)] [Away (¬k = Obj.slotsInUse)] (fuel : Nat) (s : State) (h : At k v s) : At k v (settleLock fuel s) := by
  induction fuel generalizing s with
  | zero => simpa [settleLock] using h
  | succ n ih =>
    simp only [settleLock]
    repeat' first | (simp +contextual (maxDischargeDepth := 30) [*]; done) | split

@[simp] theorem releaseEntry_at [Away (∀ a, ¬k = Obj.commands a)] [Away (∀ a, ¬k = Obj.ioSlotsHeld a)] [Away (¬k = Obj.lockInUse)] [Away (¬k = Obj.lockStallMaxUs)] [Away (¬k = Obj.slotsInUse)] (s : State) (n : ℕ) (hwf : At k v s) :
    At k v (releaseEntry s n) := by
  simp (maxDischargeDepth := 30) [releaseEntry, *]

@[simp] theorem complete_at [Away (∀ a, ¬k = Obj.commands a)] [Away (∀ a, ¬k = Obj.ioSlotsHeld a)] [Away (¬k = Obj.lockInUse)] [Away (¬k = Obj.lockStallMaxUs)] [Away (¬k = Obj.slotsInUse)] (s : State) (n : ℕ) (sct : ℕ) (sc : ℕ) (dw0 : optParam ℕ 0) (dw1 : optParam ℕ 0) (hwf : At k v s) :
    At k v (complete s n sct sc dw0 dw1) := by
  simp only [complete]
  split <;> simp (maxDischargeDepth := 30) [*]

@[simp] theorem completeWith_at [Away (∀ a, ¬k = Obj.commands a)] [Away (∀ a, ¬k = Obj.ioSlotsHeld a)] [Away (¬k = Obj.lockInUse)] [Away (¬k = Obj.lockStallMaxUs)] [Away (¬k = Obj.slotsInUse)] (s : State) (n : ℕ) (st : ℕ × ℕ) (dw0 : optParam ℕ 0) (dw1 : optParam ℕ 0) (hwf : At k v s) :
    At k v (completeWith s n st dw0 dw1) := by
  simp (maxDischargeDepth := 30) [completeWith, *]

@[simp] theorem giveNotices_at [Away (∀ a, ¬k = Obj.commands a)] [Away (∀ a, ¬k = Obj.ioSlotsHeld a)] [Away (¬k = Obj.lockInUse)] [Away (¬k = Obj.slotsInUse)] (fuel : Nat) (s : State) (p : Port) (h : At k v s) : At k v (giveNotices fuel s p) := by
  induction fuel generalizing s with
  | zero => simpa [giveNotices] using h
  | succ n ih =>
    simp only [giveNotices]
    repeat' first | (simp +contextual (maxDischargeDepth := 30) [*]; done) | split

@[simp] theorem asyncNotice_at [Away (∀ a, ¬k = Obj.commands a)] [Away (∀ a, ¬k = Obj.ioSlotsHeld a)] [Away (¬k = Obj.lockInUse)] [Away (¬k = Obj.slotsInUse)] (s : State) (page : ℕ) (hwf : At k v s) :
    At k v (asyncNotice s page) := by
  unfold asyncNotice
  repeat' split
  all_goals simp_all (maxDischargeDepth := 30)

@[simp] theorem activationNotice_at [Away (∀ a, ¬k = Obj.commands a)] [Away (∀ a, ¬k = Obj.ioSlotsHeld a)] [Away (¬k = Obj.lockInUse)] [Away (¬k = Obj.slotsInUse)] (s : State) (hwf : At k v s) :
    At k v (activationNotice s) := by
  unfold activationNotice
  repeat' split
  all_goals simp_all (maxDischargeDepth := 30)

@[simp] theorem activationResumes_at (s : State) (hwf : At k v s) :
    At k v (activationResumes s) := by
  unfold activationResumes
  repeat' split
  all_goals simp_all (maxDischargeDepth := 30)

@[simp] theorem finishShutdown_at (s : State) (hwf : At k v s) :
    At k v (finishShutdown s) := by
  simp (maxDischargeDepth := 30) [finishShutdown, *]

end Sys2Proof.Machine
end

