-- ==== Sys2Proof/Laws/AtLedger.lean ====
section
/-! SUPPORT. The objects that every operation of Machine/Ledger.lean can write. -/

namespace Sys2Proof.Machine

variable {k : Key} {v : Val}

@[simp] theorem State.setColl_at (s : State) (c : Collector) (hwf : At k v s) :
    At k v (State.setColl s c) := by
  simp (maxDischargeDepth := 30) [State.setColl, *]

@[simp] theorem capture_at (s : State) (r : ℕ) (ev : Event) (hwf : At k v s) :
    At k v (capture s r ev) := by
  simp (maxDischargeDepth := 30) [capture, *]

@[simp] theorem captureAll_at (s : State) (ev : Event) (hwf : At k v s) :
    At k v (captureAll s ev) := by
  simp (maxDischargeDepth := 30) [captureAll, *]

@[simp] theorem countEvent_at [Away (¬k = Obj.eventsTotal)] [Away (¬k = Obj.trips)] (s : State) (ev : Event) (hwf : At k v s) :
    At k v (countEvent s ev).2 := by
  have := ‹Away (¬k = Obj.eventsTotal)›.out
  have := ‹Away (¬k = Obj.trips)›.out
  simp (maxDischargeDepth := 30) [countEvent, *]

@[simp] theorem countRecords_at [Away (¬k = Obj.newestSeq)] [Away (¬k = Obj.newestSeqLo)] [Away (¬k = Obj.records)] (s : State) (hwf : At k v s) :
    At k v (countRecords s) := by
  have := ‹Away (¬k = Obj.newestSeq)›.out
  have := ‹Away (¬k = Obj.newestSeqLo)›.out
  have := ‹Away (¬k = Obj.records)›.out
  simp (maxDischargeDepth := 30) [countRecords, *]

@[simp] theorem recordNotice_at [Away (∀ a, ¬k = Obj.commands a)] [Away (∀ a, ¬k = Obj.ioSlotsHeld a)] [Away (¬k = Obj.lockInUse)] [Away (¬k = Obj.slotsInUse)] (s : State) (severity : ℕ) (hwf : At k v s) :
    At k v (recordNotice s severity) := by
  simp (maxDischargeDepth := 30) [recordNotice, *]

@[simp] theorem appendRecord_at [Away (∀ a, ¬k = Obj.commands a)] [Away (∀ a, ¬k = Obj.dropsSev a)] [Away (∀ a, ¬k = Obj.ioSlotsHeld a)] [Away (¬k = Obj.lockInUse)] [Away (¬k = Obj.newestSeq)] [Away (¬k = Obj.newestSeqLo)] [Away (¬k = Obj.records)] [Away (¬k = Obj.slotsInUse)] (s : State) (r : Record) (hwf : At k v s) :
    At k v (appendRecord s r) := by
  have := ‹Away (∀ a, ¬k = Obj.dropsSev a)›.out
  simp only [appendRecord]
  repeat' split
  all_goals simp (maxDischargeDepth := 30) [*]

@[simp] theorem writeRecord_at [Away (∀ a, ¬k = Obj.commands a)] [Away (∀ a, ¬k = Obj.dropsSev a)] [Away (∀ a, ¬k = Obj.ioSlotsHeld a)] [Away (¬k = Obj.lockInUse)] [Away (¬k = Obj.newestSeq)] [Away (¬k = Obj.newestSeqLo)] [Away (¬k = Obj.records)] [Away (¬k = Obj.slotsInUse)] (s : State) (r : Record) (hwf : At k v s) :
    At k v (writeRecord s r) := by
  have := ‹Away (∀ a, ¬k = Obj.dropsSev a)›.out
  simp (maxDischargeDepth := 30) [writeRecord, *]

@[simp] theorem zeroDrops_at [Away (∀ a, ¬k = Obj.dropsSev a)] (s : State) (hwf : At k v s) :
    At k v (zeroDrops s) := by
  have := ‹Away (∀ a, ¬k = Obj.dropsSev a)›.out
  unfold zeroDrops
  repeat' split
  all_goals simp_all (maxDischargeDepth := 30)

@[simp] theorem clearLedger_at [Away (∀ a, ¬k = Obj.commands a)] [Away (∀ a, ¬k = Obj.dropsSev a)] [Away (∀ a, ¬k = Obj.ioSlotsHeld a)] [Away (¬k = Obj.lockInUse)] [Away (¬k = Obj.newestSeq)] [Away (¬k = Obj.newestSeqLo)] [Away (¬k = Obj.records)] [Away (¬k = Obj.slotsInUse)] (s : State) (v1 : ℕ) (port : ℕ) (hwf : At k v s) :
    At k v (clearLedger s v1 port) := by
  simp (maxDischargeDepth := 30) [clearLedger, *]

@[simp] theorem startMirror_at (s : State) (hwf : At k v s) :
    At k v (startMirror s) := by
  simp only [startMirror]
  split <;> simp (maxDischargeDepth := 30) [*]

@[simp] theorem restoreLedger_at [Away (∀ a, ¬k = Obj.commands a)] [Away (∀ a, ¬k = Obj.dropsSev a)] [Away (∀ a, ¬k = Obj.ioSlotsHeld a)] [Away (¬k = Obj.lockInUse)] [Away (¬k = Obj.newestSeq)] [Away (¬k = Obj.newestSeqLo)] [Away (¬k = Obj.records)] [Away (¬k = Obj.slotsInUse)] (s : State) (hwf : At k v s) :
    At k v (restoreLedger s) := by
  unfold restoreLedger
  repeat' split
  all_goals simp_all (maxDischargeDepth := 30)

end Sys2Proof.Machine
end

