-- ==== Sys2Proof/Laws/AtMainReset.lean ====
section
/-! SUPPORT. The objects that every operation of Machine/MainReset.lean can write. -/

namespace Sys2Proof.Machine

variable {k : Key} {v : Val}

@[simp] theorem State.setStart_at (s : State) (t : Start) (hwf : At k v s) :
    At k v (State.setStart s t) := by
  simp (maxDischargeDepth := 30) [State.setStart, *]

@[simp] theorem State.setPower_at (s : State) (p : Power) (hwf : At k v s) :
    At k v (State.setPower s p) := by
  simp (maxDischargeDepth := 30) [State.setPower, *]

@[simp] theorem State.setMem_at (s : State) (m : Memory) (hwf : At k v s) :
    At k v (State.setMem s m) := by
  simp (maxDischargeDepth := 30) [State.setMem, *]

@[simp] theorem State.setLayout_at (s : State) (l : Layout) (hwf : At k v s) :
    At k v (State.setLayout s l) := by
  simp (maxDischargeDepth := 30) [State.setLayout, *]

@[simp] theorem State.setFw_at (s : State) (f : Firmware) (hwf : At k v s) :
    At k v (State.setFw s f) := by
  simp (maxDischargeDepth := 30) [State.setFw, *]

@[simp] theorem State.setMedia_at (s : State) (m : Media) (hwf : At k v s) :
    At k v (State.setMedia s m) := by
  simp (maxDischargeDepth := 30) [State.setMedia, *]

@[simp] theorem faultOut_at (s : State) (hwf : At k v s) :
    At k v (faultOut s) := by
  simp (maxDischargeDepth := 30) [faultOut, *]

@[simp] theorem setDegraded_at [Away (¬k = Obj.degraded)] (s : State) (i : ℕ) (b : Bool) (hwf : At k v s) :
    At k v (setDegraded s i b) := by
  have := ‹Away (¬k = Obj.degraded)›.out
  simp (maxDischargeDepth := 30) [setDegraded, *]

@[simp] theorem setControl_at (s : State) (active : ℕ) (pending : ℕ) (hwf : At k v s) :
    At k v (setControl s active pending) := by
  simp (maxDischargeDepth := 30) [setControl, *]

@[simp] theorem pendingFails_at (s : State) (step : ℕ) (hwf : At k v s) :
    At k v (pendingFails s step) := by
  simp (maxDischargeDepth := 30) [pendingFails, *]

@[simp] theorem modRecord_at (s : State) (f : StartRecord → StartRecord) (hwf : At k v s) :
    At k v (modRecord s f) := by
  simp only [modRecord]
  split <;> simp (maxDischargeDepth := 30) [*]

@[simp] theorem stepResult_at (s : State) (step : ℕ) (code : ℕ) (hwf : At k v s) :
    At k v (stepResult s step code) := by
  simp (maxDischargeDepth := 30) [stepResult, *]

@[simp] theorem sealRecord_at (s : State) (endCode : ℕ) (failedStep : ℕ) (detail : ℕ) (hwf : At k v s) :
    At k v (sealRecord s endCode failedStep detail) := by
  simp (maxDischargeDepth := 30) [sealRecord, *]

end Sys2Proof.Machine
end

