-- ==== Sys2Proof/Laws/AtDrive.lean ====
section
/-! SUPPORT. The objects that every operation of Machine/Drive.lean can write. -/

namespace Sys2Proof.Machine

variable {k : Key} {v : Val}

@[simp] theorem State.setMotion_at (s : State) (m : Motion) (hwf : At k v s) :
    At k v (State.setMotion s m) := by
  simp (maxDischargeDepth := 30) [State.setMotion, *]

@[simp] theorem retract_at [Away (∀ a, ¬k = Obj.driveState a)] [Away (∀ a, ¬k = Obj.retracts a)] (s : State) (a : ℕ) (hwf : At k v s) :
    At k v (retract s a) := by
  have := ‹Away (∀ a, ¬k = Obj.driveState a)›.out
  have := ‹Away (∀ a, ¬k = Obj.retracts a)›.out
  simp (maxDischargeDepth := 30) [retract, *]

@[simp] theorem retractLoaded_at [Away (∀ a, ¬k = Obj.driveState a)] [Away (∀ a, ¬k = Obj.retracts a)] (s : State) (hwf : At k v s) :
    At k v (retractLoaded s) := by
  unfold retractLoaded
  repeat' split
  all_goals simp_all (maxDischargeDepth := 30)

@[simp] theorem driveFault_at [Away (∀ a, ¬k = Obj.driveFault a)] (s : State) (a : ℕ) (i : ℕ) (hwf : At k v s) :
    At k v (driveFault s a i) := by
  have := ‹Away (∀ a, ¬k = Obj.driveFault a)›.out
  simp (maxDischargeDepth := 30) [driveFault, *]

@[simp] theorem showStatus_at [Away (¬k = Obj.atSpeed)] [Away (¬k = Obj.phaseLocked)] (s : State) (hwf : At k v s) :
    At k v (showStatus s) := by
  have := ‹Away (¬k = Obj.atSpeed)›.out
  have := ‹Away (¬k = Obj.phaseLocked)›.out
  simp (maxDischargeDepth := 30) [showStatus, *]

@[simp] theorem spinTo_at [Away (¬k = Obj.atSpeed)] [Away (¬k = Obj.phaseLocked)] [Away (¬k = Obj.spinMode)] (s : State) (mode : ℕ) (hwf : At k v s) :
    At k v (spinTo s mode) := by
  have := ‹Away (¬k = Obj.atSpeed)›.out
  have := ‹Away (¬k = Obj.phaseLocked)›.out
  have := ‹Away (¬k = Obj.spinMode)›.out
  simp (maxDischargeDepth := 30) [spinTo, *]

@[simp] theorem spinHold_at [Away (¬k = Obj.atSpeed)] [Away (¬k = Obj.phaseLocked)] [Away (¬k = Obj.spinMode)] (s : State) (hwf : At k v s) :
    At k v (spinHold s) := by
  simp (maxDischargeDepth := 30) [spinHold, *]

@[simp] theorem spinRein_at [Away (¬k = Obj.atSpeed)] [Away (¬k = Obj.phaseLocked)] [Away (¬k = Obj.spinMode)] (s : State) (hwf : At k v s) :
    At k v (spinRein s) := by
  simp (maxDischargeDepth := 30) [spinRein, *]

@[simp] theorem spinCancel_at (s : State) (hwf : At k v s) :
    At k v (spinCancel s) := by
  simp (maxDischargeDepth := 30) [spinCancel, *]

@[simp] theorem spinStop_at [Away (¬k = Obj.atSpeed)] [Away (¬k = Obj.phaseLocked)] [Away (¬k = Obj.spinMode)] [Away (¬k = Obj.targetRpm)] (s : State) (hwf : At k v s) :
    At k v (spinStop s) := by
  have := ‹Away (¬k = Obj.targetRpm)›.out
  simp (maxDischargeDepth := 30) [spinStop, *]

@[simp] theorem surfaceTo_at [Away (∀ a, ¬k = Obj.surfaceState a)] (s : State) (u : ℕ) (st : ℕ) (hwf : At k v s) :
    At k v (surfaceTo s u st) := by
  have := ‹Away (∀ a, ¬k = Obj.surfaceState a)›.out
  simp (maxDischargeDepth := 30) [surfaceTo, *]

@[simp] theorem surfacesFail_at [Away (∀ a, ¬k = Obj.surfaceState a)] (s : State) (a : ℕ) (hwf : At k v s) :
    At k v (surfacesFail s a) := by
  unfold surfacesFail
  repeat' split
  all_goals simp_all (maxDischargeDepth := 30)

@[simp] theorem surfacesGood_at [Away (∀ a, ¬k = Obj.surfaceState a)] (s : State) (a : ℕ) (hwf : At k v s) :
    At k v (surfacesGood s a) := by
  unfold surfacesGood
  repeat' split
  all_goals simp_all (maxDischargeDepth := 30)

@[simp] theorem followPlayers_at [Away (∀ a, ¬k = Obj.playerState a)] (s : State) (a : ℕ) (hwf : At k v s) :
    At k v (followPlayers s a) := by
  have := ‹Away (∀ a, ¬k = Obj.playerState a)›.out
  unfold followPlayers
  repeat' split
  all_goals simp_all (maxDischargeDepth := 30)

@[simp] theorem setActuator_at [Away (∀ a, ¬k = Obj.actuatorState a)] [Away (∀ a, ¬k = Obj.playerState a)] [Away (∀ a, ¬k = Obj.surfaceState a)] (s : State) (a : ℕ) (st : ℕ) (hwf : At k v s) :
    At k v (setActuator s a st) := by
  have := ‹Away (∀ a, ¬k = Obj.actuatorState a)›.out
  simp (maxDischargeDepth := 30) [setActuator, *]

@[simp] theorem markFenced_at [Away (∀ a, ¬k = Obj.actuatorState a)] (s : State) (a : ℕ) (hwf : At k v s) :
    At k v (markFenced s a) := by
  have := ‹Away (∀ a, ¬k = Obj.actuatorState a)›.out
  simp (maxDischargeDepth := 30) [markFenced, *]

@[simp] theorem fenceActuator_at [Away (∀ a, ¬k = Obj.actuatorState a)] [Away (∀ a, ¬k = Obj.badClauses a)] [Away (∀ a b, ¬k = Obj.clipCount a b)] [Away (∀ a, ¬k = Obj.incompleteCount a)] [Away (∀ a, ¬k = Obj.loadState a)] [Away (∀ a, ¬k = Obj.objFaults a)] [Away (∀ a b, ¬k = Obj.offsetRailCount a b)] [Away (∀ a, ¬k = Obj.playerState a)] [Away (∀ a, ¬k = Obj.sentences a)] [Away (∀ a, ¬k = Obj.settleMisses a)] [Away (∀ a, ¬k = Obj.sm1CorrectedCount a)] [Away (∀ a b, ¬k = Obj.stuckCount a b)] [Away (∀ a, ¬k = Obj.surfaceState a)] [Away (∀ a, ¬k = Obj.timedCount a)] [Away (∀ a, ¬k = Obj.underruns a)] [Away (∀ a, ¬k = Obj.windowEnds a)] (s : State) (a : ℕ) (o : Outcome) (hwf : At k v s) :
    At k v (fenceActuator s a o) := by
  simp (maxDischargeDepth := 30) [fenceActuator, *]

@[simp] theorem fenceAborting_at [Away (∀ a, ¬k = Obj.actuatorState a)] [Away (∀ a, ¬k = Obj.badClauses a)] [Away (∀ a b, ¬k = Obj.clipCount a b)] [Away (∀ a, ¬k = Obj.incompleteCount a)] [Away (∀ a, ¬k = Obj.loadState a)] [Away (∀ a, ¬k = Obj.objFaults a)] [Away (∀ a b, ¬k = Obj.offsetRailCount a b)] [Away (∀ a, ¬k = Obj.playerState a)] [Away (∀ a, ¬k = Obj.sentences a)] [Away (∀ a, ¬k = Obj.settleMisses a)] [Away (∀ a, ¬k = Obj.sm1CorrectedCount a)] [Away (∀ a b, ¬k = Obj.stuckCount a b)] [Away (∀ a, ¬k = Obj.surfaceState a)] [Away (∀ a, ¬k = Obj.timedCount a)] [Away (∀ a, ¬k = Obj.underruns a)] [Away (∀ a, ¬k = Obj.windowEnds a)] (s : State) (a : ℕ) (hwf : At k v s) :
    At k v (fenceAborting s a) := by
  simp (maxDischargeDepth := 30) [fenceAborting, *]

@[simp] theorem parkActuator_at [Away (∀ a, ¬k = Obj.actuatorState a)] [Away (∀ a, ¬k = Obj.badClauses a)] [Away (∀ a b, ¬k = Obj.clipCount a b)] [Away (∀ a, ¬k = Obj.driveState a)] [Away (∀ a, ¬k = Obj.incompleteCount a)] [Away (∀ a, ¬k = Obj.loadState a)] [Away (∀ a, ¬k = Obj.objFaults a)] [Away (∀ a b, ¬k = Obj.offsetRailCount a b)] [Away (∀ a, ¬k = Obj.playerState a)] [Away (∀ a, ¬k = Obj.retracts a)] [Away (∀ a, ¬k = Obj.sentences a)] [Away (∀ a, ¬k = Obj.settleMisses a)] [Away (∀ a, ¬k = Obj.sm1CorrectedCount a)] [Away (∀ a b, ¬k = Obj.stuckCount a b)] [Away (∀ a, ¬k = Obj.surfaceState a)] [Away (∀ a, ¬k = Obj.timedCount a)] [Away (∀ a, ¬k = Obj.underruns a)] [Away (∀ a, ¬k = Obj.windowEnds a)] (s : State) (a : ℕ) (hwf : At k v s) :
    At k v (parkActuator s a) := by
  simp (maxDischargeDepth := 30) [parkActuator, *]

@[simp] theorem preampSwitch_at [Away (¬k = Obj.v3p3Enable)] (s : State) (a : ℕ) (on : Bool) (hwf : At k v s) :
    At k v (preampSwitch s a on) := by
  have := ‹Away (¬k = Obj.v3p3Enable)›.out
  simp (maxDischargeDepth := 30) [preampSwitch, *]

@[simp] theorem preampFaulted_at [Away (∀ a, ¬k = Obj.actuatorState a)] [Away (∀ a, ¬k = Obj.badClauses a)] [Away (∀ a b, ¬k = Obj.clipCount a b)] [Away (∀ a, ¬k = Obj.driveState a)] [Away (∀ a, ¬k = Obj.incompleteCount a)] [Away (∀ a, ¬k = Obj.loadState a)] [Away (∀ a, ¬k = Obj.objFaults a)] [Away (∀ a b, ¬k = Obj.offsetRailCount a b)] [Away (∀ a, ¬k = Obj.playerState a)] [Away (∀ a, ¬k = Obj.preampState a)] [Away (∀ a, ¬k = Obj.retracts a)] [Away (∀ a, ¬k = Obj.sentences a)] [Away (∀ a, ¬k = Obj.settleMisses a)] [Away (∀ a, ¬k = Obj.sm1CorrectedCount a)] [Away (∀ a b, ¬k = Obj.stuckCount a b)] [Away (∀ a, ¬k = Obj.surfaceState a)] [Away (∀ a, ¬k = Obj.timedCount a)] [Away (∀ a, ¬k = Obj.underruns a)] [Away (¬k = Obj.v3p3Enable)] [Away (∀ a, ¬k = Obj.windowEnds a)] (s : State) (a : ℕ) (hwf : At k v s) :
    At k v (preampFaulted s a) := by
  have := ‹Away (∀ a, ¬k = Obj.preampState a)›.out
  simp (maxDischargeDepth := 30) [preampFaulted, *]

theorem execPreampFaultPersist_at [Away (∀ a, ¬k = Obj.actuatorState a)] [Away (∀ a, ¬k = Obj.badClauses a)] [Away (∀ a b, ¬k = Obj.clipCount a b)] [Away (∀ a, ¬k = Obj.driveState a)] [Away (∀ a, ¬k = Obj.incompleteCount a)] [Away (∀ a, ¬k = Obj.loadState a)] [Away (∀ a, ¬k = Obj.objFaults a)] [Away (∀ a b, ¬k = Obj.offsetRailCount a b)] [Away (∀ a, ¬k = Obj.playerState a)] [Away (∀ a, ¬k = Obj.preampState a)] [Away (∀ a, ¬k = Obj.retracts a)] [Away (∀ a, ¬k = Obj.sentences a)] [Away (∀ a, ¬k = Obj.settleMisses a)] [Away (∀ a, ¬k = Obj.sm1CorrectedCount a)] [Away (∀ a b, ¬k = Obj.stuckCount a b)] [Away (∀ a, ¬k = Obj.surfaceState a)] [Away (∀ a, ¬k = Obj.timedCount a)] [Away (∀ a, ¬k = Obj.underruns a)] [Away (¬k = Obj.v3p3Enable)] [Away (∀ a, ¬k = Obj.windowEnds a)] (a : Fin 4) (s : State) (hwf : At k v s) :
    outAt k v (execPreampFaultPersist a s) := by
  simp (maxDischargeDepth := 30) [execPreampFaultPersist, *]

theorem execV3p3Overcurrent_at [Away (∀ a, ¬k = Obj.actuatorState a)] [Away (∀ a, ¬k = Obj.badClauses a)] [Away (∀ a b, ¬k = Obj.clipCount a b)] [Away (∀ a, ¬k = Obj.driveState a)] [Away (∀ a, ¬k = Obj.incompleteCount a)] [Away (∀ a, ¬k = Obj.loadState a)] [Away (∀ a, ¬k = Obj.objFaults a)] [Away (∀ a b, ¬k = Obj.offsetRailCount a b)] [Away (∀ a, ¬k = Obj.playerState a)] [Away (∀ a, ¬k = Obj.preampState a)] [Away (∀ a, ¬k = Obj.retracts a)] [Away (∀ a, ¬k = Obj.sentences a)] [Away (∀ a, ¬k = Obj.settleMisses a)] [Away (∀ a, ¬k = Obj.sm1CorrectedCount a)] [Away (∀ a b, ¬k = Obj.stuckCount a b)] [Away (∀ a, ¬k = Obj.surfaceState a)] [Away (∀ a, ¬k = Obj.timedCount a)] [Away (∀ a, ¬k = Obj.underruns a)] [Away (¬k = Obj.v3p3Enable)] [Away (∀ a, ¬k = Obj.windowEnds a)] (a : Fin 4) (s : State) (hwf : At k v s) :
    outAt k v (execV3p3Overcurrent a s) := by
  simp (maxDischargeDepth := 30) [execV3p3Overcurrent, *]

@[simp] theorem heaterZero_at (s : State) (a : ℕ) (hwf : At k v s) :
    At k v (heaterZero s a) := by
  simp (maxDischargeDepth := 30) [heaterZero, *]

@[simp] theorem gatesOff_at [Away (∀ a, ¬k = Obj.incompleteCount a)] [Away (∀ a, ¬k = Obj.writeUnsafeCount a)] (s : State) (hwf : At k v s) :
    At k v (gatesOff s) := by
  unfold gatesOff
  repeat' split
  all_goals simp_all (maxDischargeDepth := 30)

@[simp] theorem sendResetNotice_at [Away (¬k = Obj.heartbeatArmed)] (s : State) (hwf : At k v s) :
    At k v (sendResetNotice s) := by
  have := ‹Away (¬k = Obj.heartbeatArmed)›.out
  simp (maxDischargeDepth := 30) [sendResetNotice, *]

@[simp] theorem halt_at (s : State) (hwf : At k v s) :
    At k v (halt s) := by
  simp (maxDischargeDepth := 30) [halt, *]

@[simp] theorem romMaintenance_at (s : State) (hwf : At k v s) :
    At k v (romMaintenance s) := by
  simp (maxDischargeDepth := 30) [romMaintenance, *]

@[simp] theorem holdRaised_at (s : State) (ev : List Event) (hwf : At k v s) :
    At k v (holdRaised s ev) := by
  simp (maxDischargeDepth := 30) [holdRaised, *]

@[simp] theorem maintenanceEntry_at [Away (¬k = Obj.atSpeed)] [Away (∀ a, ¬k = Obj.driveState a)] [Away (¬k = Obj.phaseLocked)] [Away (∀ a, ¬k = Obj.retracts a)] [Away (¬k = Obj.spinMode)] [Away (¬k = Obj.targetRpm)] [Away (¬k = Obj.v3p3Enable)] (s : State) (hwf : At k v s) :
    At k v (maintenanceEntry s) := by
  unfold maintenanceEntry
  repeat' split
  all_goals simp_all (maxDischargeDepth := 30)

@[simp] theorem plainRecord_at [Away (∀ a, ¬k = Obj.commands a)] [Away (∀ a, ¬k = Obj.dropsSev a)] [Away (∀ a, ¬k = Obj.ioSlotsHeld a)] [Away (¬k = Obj.lockInUse)] [Away (¬k = Obj.newestSeq)] [Away (¬k = Obj.newestSeqLo)] [Away (¬k = Obj.records)] [Away (¬k = Obj.slotsInUse)] (s : State) (ev : Event) (r : ℕ × Bool) (action : ℕ) (hwf : At k v s) :
    At k v (plainRecord s ev r action) := by
  simp (maxDischargeDepth := 30) [plainRecord, *]

end Sys2Proof.Machine
end

