-- ==== Sys2Proof/Laws/AtReinEngine.lean ====
section
/-! SUPPORT. The objects that every operation of Machine/ReinEngine.lean can write. -/

namespace Sys2Proof.Machine

variable {k : Key} {v : Val}

@[simp] theorem setEngState_at [Away (∀ a b, ¬k = engKey a b)] (s : State) (e : ℕ) (st : ℕ) (hwf : At k v s) :
    At k v (setEngState s e st) := by
  have := ‹Away (∀ a b, ¬k = engKey a b)›.out
  simp (maxDischargeDepth := 30) [setEngState, *]

@[simp] theorem setEngRole_at [Away (∀ a b, ¬k = engKey a b)] (s : State) (e : ℕ) (r : ℕ) (hwf : At k v s) :
    At k v (setEngRole s e r) := by
  have := ‹Away (∀ a b, ¬k = engKey a b)›.out
  simp (maxDischargeDepth := 30) [setEngRole, *]

@[simp] theorem regroup_at [Away (∀ a, ¬k = Obj.groupState a)] (s : State) (g : ℕ) (hwf : At k v s) :
    At k v (regroup s g) := by
  have := ‹Away (∀ a, ¬k = Obj.groupState a)›.out
  simp (maxDischargeDepth := 30) [regroup, *]

@[simp] theorem State.setBlob_at {j : Key} (s : State) (b : List Byte) (hk : ¬k = j) (hwf : At k v s) :
    At k v (State.setBlob s j b) := At.setObj hk hwf

@[simp] theorem loadProgram_at (s : State) (e : ℕ) (hwf : At k v s) :
    At k v (loadProgram s e) := by
  simp only [loadProgram]
  split <;> simp (maxDischargeDepth := 30) [*]

@[simp] theorem loadInitial_at (s : State) (e : ℕ) (hwf : At k v s) :
    At k v (loadInitial s e) := by
  simp only [loadInitial]
  split <;> simp (maxDischargeDepth := 30) [*]

@[simp] theorem queueCoefs_at (s : State) (g : ℕ) (l : List (ℕ × Coef)) (hwf : At k v s) :
    At k v (queueCoefs s g l) := by
  unfold queueCoefs
  repeat' split
  all_goals simp_all (maxDischargeDepth := 30)

@[simp] theorem takeoverRoles_at [Away (∀ a b, ¬k = engKey a b)] (s : State) (g : ℕ) (e : ℕ) (hwf : At k v s) :
    At k v (takeoverRoles s g e) := by
  unfold takeoverRoles
  repeat' split
  all_goals simp_all (maxDischargeDepth := 30)

@[simp] theorem traceEvent_at (s : State) (a : ℕ) (i : ℕ) (hwf : At k v s) :
    At k v (traceEvent s a i) := by
  simp (maxDischargeDepth := 30) [traceEvent, *]

@[simp] theorem engineOut_at [Away (∀ a, ¬k = Obj.groupState a)] [Away (∀ a, ¬k = Obj.reinTakeovers a)] [Away (∀ a b, ¬k = engKey a b)] (s : State) (e : ℕ) (hwf : At k v s) :
    At k v (engineOut s e) := by
  have := ‹Away (∀ a, ¬k = Obj.reinTakeovers a)›.out
  simp (maxDischargeDepth := 30) [engineOut, *]

@[simp] theorem fenceEngine_at [Away (∀ a, ¬k = Obj.groupState a)] [Away (∀ a, ¬k = Obj.reinTakeovers a)] [Away (∀ a b, ¬k = engKey a b)] (s : State) (e : ℕ) (hwf : At k v s) :
    At k v (fenceEngine s e) := by
  have := ‹Away (∀ a b, ¬k = engKey a b)›.out
  simp (maxDischargeDepth := 30) [fenceEngine, *]

@[simp] theorem holdMissed_at [Away (∀ a, ¬k = Obj.missedLatches a)] (s : State) (g : ℕ) (hwf : At k v s) :
    At k v (holdMissed s g) := by
  have := ‹Away (∀ a, ¬k = Obj.missedLatches a)›.out
  simp (maxDischargeDepth := 30) [holdMissed, *]

@[simp] theorem startRun_at (s : State) (e : ℕ) (entry : ℕ) (inputs : SMap Word32) (rerun : Bool) (hwf : At k v s) :
    At k v (startRun s e entry inputs rerun) := by
  simp (maxDischargeDepth := 30) [startRun, *]

@[simp] theorem joinRegisters_at [Away (∀ a b, ¬k = engKey a b)] (s : State) (g : ℕ) (active : ℕ) (hwf : At k v s) :
    At k v (joinRegisters s g active) := by
  unfold joinRegisters
  repeat' split
  all_goals simp_all (maxDischargeDepth := 30)

@[simp] theorem takeCheckpoint_at [Away (∀ a, ¬k = Obj.snapshot a)] [Away (∀ a b, ¬k = engKey a b)] (s : State) (e : ℕ) (hwf : At k v s) :
    At k v (takeCheckpoint s e) := by
  have := ‹Away (∀ a, ¬k = Obj.snapshot a)›.out
  unfold takeCheckpoint
  dsimp only
  repeat' split
  all_goals simp (maxDischargeDepth := 30) [*]

@[simp] theorem serveTrigger_at [Away (∀ a, ¬k = Obj.snapshot a)] [Away (∀ a b, ¬k = engKey a b)] (s : State) (e : ℕ) (entry : ℕ) (inputs : SMap Word32) (hwf : At k v s) :
    At k v (serveTrigger s e entry inputs) := by
  unfold serveTrigger
  repeat' split
  all_goals simp_all (maxDischargeDepth := 30)

@[simp] theorem triggerEngine_at [Away (∀ a, ¬k = Obj.snapshot a)] [Away (∀ a b, ¬k = engKey a b)] (s : State) (e : ℕ) (entry : ℕ) (inputs : SMap Word32) (hwf : At k v s) :
    At k v (triggerEngine s e entry inputs) := by
  simp only [triggerEngine]
  repeat' split
  all_goals simp (maxDischargeDepth := 30) [*]

@[simp] theorem afterRun_at [Away (∀ a, ¬k = Obj.snapshot a)] [Away (∀ a b, ¬k = engKey a b)] (s : State) (e : ℕ) (hwf : At k v s) :
    At k v (afterRun s e) := by
  simp only [afterRun]
  repeat' split
  all_goals simp (maxDischargeDepth := 30) [*]

@[simp] theorem countSat_at [Away (∀ a, ¬k = Obj.satCount a)] (s : State) (e : ℕ) (hwf : At k v s) :
    At k v (countSat s e) := by
  have := ‹Away (∀ a, ¬k = Obj.satCount a)›.out
  simp only [countSat]
  split <;> simp (maxDischargeDepth := 30) [*]

@[simp] theorem deliver_at [Away (∀ a, ¬k = Obj.satCount a)] [Away (∀ a, ¬k = Obj.snapshot a)] [Away (∀ a b, ¬k = engKey a b)] (s : State) (e : ℕ) (r : Run) (hwf : At k v s) :
    At k v (deliver s e r) := by
  simp (maxDischargeDepth := 30) [deliver, *]

@[simp] theorem stopRun_at [Away (∀ a, ¬k = Obj.programStops a)] [Away (∀ a, ¬k = Obj.satCount a)] [Away (∀ a, ¬k = Obj.snapshot a)] [Away (∀ a b, ¬k = engKey a b)] (s : State) (e : ℕ) (why : ℕ) (hwf : At k v s) :
    At k v (stopRun s e why) := by
  have := ‹Away (∀ a, ¬k = Obj.programStops a)›.out
  simp only [stopRun]
  split <;> simp (maxDischargeDepth := 30) [*]

@[simp] theorem actuatorInputs_at [Away (¬k = Obj.tjC)] (s : State) (a : ℕ) (hwf : At k v s) :
    At k v (actuatorInputs s a).2 := by
  simp (maxDischargeDepth := 30) [actuatorInputs, *]

@[simp] theorem spindleInputs_at (s : State) (hwf : At k v s) :
    At k v (spindleInputs s).2 := by
  simp (maxDischargeDepth := 30) [spindleInputs, *]

@[simp] theorem groupInputs_at [Away (¬k = Obj.tjC)] (s : State) (g : ℕ) (hwf : At k v s) :
    At k v (groupInputs s g).2 := by
  simp only [groupInputs]
  split <;> simp (maxDischargeDepth := 30) [*]

@[simp] theorem traceSample_at [Away (∀ a, ¬k = Obj.traceState a)] [Away (∀ a, ¬k = Obj.triggerTick a)] (s : State) (a : ℕ) (inner : Bool) (hwf : At k v s) :
    At k v (traceSample s a inner) := by
  have := ‹Away (∀ a, ¬k = Obj.traceState a)›.out
  have := ‹Away (∀ a, ¬k = Obj.triggerTick a)›.out
  simp (maxDischargeDepth := 30) [traceSample, *]

@[simp] theorem holdPosition_at [Away (∀ a, ¬k = Obj.incompleteCount a)] [Away (∀ a, ¬k = Obj.writeUnsafeCount a)] (s : State) (g : ℕ) (entry : ℕ) (hwf : At k v s) :
    At k v (holdPosition s g entry) := by
  simp (maxDischargeDepth := 30) [holdPosition, *]

@[simp] theorem takeOffset_at (s : State) (g : ℕ) (entry : ℕ) (hwf : At k v s) :
    At k v (takeOffset s g entry) := by
  simp (maxDischargeDepth := 30) [takeOffset, *]

end Sys2Proof.Machine
end

