-- ==== Sys2Proof/Laws/AtReinAlu.lean ====
section
/-! SUPPORT. The objects that every operation of Machine/ReinAlu.lean can write. -/

namespace Sys2Proof.Machine

variable {k : Key} {v : Val}

@[simp] theorem reinStep_at (e : Fin 16) (w : ℕ) (f : Engine → Engine) (s : State) (hwf : At k v s) :
    At k v (reinStep e w f s) := by
  simp only [reinStep]
  split <;> simp (maxDischargeDepth := 30) [*]

@[simp] theorem reinCtx_at (e : Fin 16) (w : ℕ) (f : Context → Context) (s : State) (hwf : At k v s) :
    outAt k v (reinCtx e w f s) := by
  simp (maxDischargeDepth := 30) [reinCtx, *]

@[simp] theorem reinFault_at [Away (∀ a, ¬k = Obj.programStops a)] [Away (∀ a, ¬k = Obj.satCount a)] [Away (∀ a, ¬k = Obj.snapshot a)] [Away (∀ a b, ¬k = engKey a b)] (e : Fin 16) (w : ℕ) (s : State) (hwf : At k v s) :
    outAt k v (reinFault e w s) := by
  simp (maxDischargeDepth := 30) [reinFault, *]

theorem execReinNop_at (e : Fin 16) (s : State) (hwf : At k v s) :
    outAt k v (execReinNop e s) := by
  simp (maxDischargeDepth := 30) [execReinNop, *]

theorem execReinAdd_at (e : Fin 16) (rd : Fin 16) (ra : Fin 16) (rb : Fin 16) (s : State) (hwf : At k v s) :
    outAt k v (execReinAdd e rd ra rb s) := by
  simp (maxDischargeDepth := 30) [execReinAdd, *]

theorem execReinSub_at (e : Fin 16) (rd : Fin 16) (ra : Fin 16) (rb : Fin 16) (s : State) (hwf : At k v s) :
    outAt k v (execReinSub e rd ra rb s) := by
  simp (maxDischargeDepth := 30) [execReinSub, *]

theorem execReinAddw_at (e : Fin 16) (rd : Fin 16) (ra : Fin 16) (rb : Fin 16) (s : State) (hwf : At k v s) :
    outAt k v (execReinAddw e rd ra rb s) := by
  simp (maxDischargeDepth := 30) [execReinAddw, *]

theorem execReinSubw_at (e : Fin 16) (rd : Fin 16) (ra : Fin 16) (rb : Fin 16) (s : State) (hwf : At k v s) :
    outAt k v (execReinSubw e rd ra rb s) := by
  simp (maxDischargeDepth := 30) [execReinSubw, *]

theorem execReinAnd_at (e : Fin 16) (rd : Fin 16) (ra : Fin 16) (rb : Fin 16) (s : State) (hwf : At k v s) :
    outAt k v (execReinAnd e rd ra rb s) := by
  simp (maxDischargeDepth := 30) [execReinAnd, *]

theorem execReinOr_at (e : Fin 16) (rd : Fin 16) (ra : Fin 16) (rb : Fin 16) (s : State) (hwf : At k v s) :
    outAt k v (execReinOr e rd ra rb s) := by
  simp (maxDischargeDepth := 30) [execReinOr, *]

theorem execReinXor_at (e : Fin 16) (rd : Fin 16) (ra : Fin 16) (rb : Fin 16) (s : State) (hwf : At k v s) :
    outAt k v (execReinXor e rd ra rb s) := by
  simp (maxDischargeDepth := 30) [execReinXor, *]

theorem execReinMin_at (e : Fin 16) (rd : Fin 16) (ra : Fin 16) (rb : Fin 16) (s : State) (hwf : At k v s) :
    outAt k v (execReinMin e rd ra rb s) := by
  simp (maxDischargeDepth := 30) [execReinMin, *]

theorem execReinMax_at (e : Fin 16) (rd : Fin 16) (ra : Fin 16) (rb : Fin 16) (s : State) (hwf : At k v s) :
    outAt k v (execReinMax e rd ra rb s) := by
  simp (maxDischargeDepth := 30) [execReinMax, *]

theorem execReinAbs_at (e : Fin 16) (rd : Fin 16) (ra : Fin 16) (s : State) (hwf : At k v s) :
    outAt k v (execReinAbs e rd ra s) := by
  simp (maxDischargeDepth := 30) [execReinAbs, *]

theorem execReinNeg_at (e : Fin 16) (rd : Fin 16) (ra : Fin 16) (s : State) (hwf : At k v s) :
    outAt k v (execReinNeg e rd ra s) := by
  simp (maxDischargeDepth := 30) [execReinNeg, *]

theorem execReinShl_at (e : Fin 16) (rd : Fin 16) (ra : Fin 16) (imm : BitVec 16) (s : State) (hwf : At k v s) :
    outAt k v (execReinShl e rd ra imm s) := by
  simp (maxDischargeDepth := 30) [execReinShl, *]

theorem execReinShr_at (e : Fin 16) (rd : Fin 16) (ra : Fin 16) (imm : BitVec 16) (s : State) (hwf : At k v s) :
    outAt k v (execReinShr e rd ra imm s) := by
  simp (maxDischargeDepth := 30) [execReinShr, *]

theorem execReinShrl_at (e : Fin 16) (rd : Fin 16) (ra : Fin 16) (imm : BitVec 16) (s : State) (hwf : At k v s) :
    outAt k v (execReinShrl e rd ra imm s) := by
  simp (maxDischargeDepth := 30) [execReinShrl, *]

theorem execReinLi_at (e : Fin 16) (rd : Fin 16) (imm : BitVec 16) (s : State) (hwf : At k v s) :
    outAt k v (execReinLi e rd imm s) := by
  simp (maxDischargeDepth := 30) [execReinLi, *]

theorem execReinLui_at (e : Fin 16) (rd : Fin 16) (imm : BitVec 16) (s : State) (hwf : At k v s) :
    outAt k v (execReinLui e rd imm s) := by
  simp (maxDischargeDepth := 30) [execReinLui, *]

theorem execReinAddi_at (e : Fin 16) (rd : Fin 16) (ra : Fin 16) (imm : BitVec 16) (s : State) (hwf : At k v s) :
    outAt k v (execReinAddi e rd ra imm s) := by
  simp (maxDischargeDepth := 30) [execReinAddi, *]

theorem execReinLd_at [Away (∀ a, ¬k = Obj.programStops a)] [Away (∀ a, ¬k = Obj.satCount a)] [Away (∀ a, ¬k = Obj.snapshot a)] [Away (∀ a b, ¬k = engKey a b)] (e : Fin 16) (rd : Fin 16) (ra : Fin 16) (imm : BitVec 16) (s : State) (hwf : At k v s) :
    outAt k v (execReinLd e rd ra imm s) := by
  simp (maxDischargeDepth := 30) [execReinLd, *]

theorem execReinSt_at [Away (∀ a, ¬k = Obj.programStops a)] [Away (∀ a, ¬k = Obj.satCount a)] [Away (∀ a, ¬k = Obj.snapshot a)] [Away (∀ a b, ¬k = engKey a b)] (e : Fin 16) (rs : Fin 16) (ra : Fin 16) (imm : BitVec 16) (s : State) (hwf : At k v s) :
    outAt k v (execReinSt e rs ra imm s) := by
  simp (maxDischargeDepth := 30) [execReinSt, *]

theorem execReinIn_at (e : Fin 16) (rd : Fin 16) (port : BitVec 8) (s : State) (hwf : At k v s) :
    outAt k v (execReinIn e rd port s) := by
  simp (maxDischargeDepth := 30) [execReinIn, *]

theorem execReinOut_at (e : Fin 16) (rs : Fin 16) (port : BitVec 8) (s : State) (hwf : At k v s) :
    outAt k v (execReinOut e rs port s) := by
  simp (maxDischargeDepth := 30) [execReinOut, *]

theorem execReinSetcb_at (e : Fin 16) (imm : BitVec 16) (s : State) (hwf : At k v s) :
    outAt k v (execReinSetcb e imm s) := by
  simp (maxDischargeDepth := 30) [execReinSetcb, *]

theorem execReinMul_at (e : Fin 16) (acc : Bool) (ra : Fin 16) (caddr : BitVec 10) (s : State) (hwf : At k v s) :
    outAt k v (execReinMul e acc ra caddr s) := by
  simp (maxDischargeDepth := 30) [execReinMul, *]

theorem execReinMac_at (e : Fin 16) (acc : Bool) (ra : Fin 16) (caddr : BitVec 10) (s : State) (hwf : At k v s) :
    outAt k v (execReinMac e acc ra caddr s) := by
  simp (maxDischargeDepth := 30) [execReinMac, *]

theorem execReinMsu_at (e : Fin 16) (acc : Bool) (ra : Fin 16) (caddr : BitVec 10) (s : State) (hwf : At k v s) :
    outAt k v (execReinMsu e acc ra caddr s) := by
  simp (maxDischargeDepth := 30) [execReinMsu, *]

theorem execReinClra_at (e : Fin 16) (acc : Bool) (s : State) (hwf : At k v s) :
    outAt k v (execReinClra e acc s) := by
  simp (maxDischargeDepth := 30) [execReinClra, *]

theorem execReinLda_at (e : Fin 16) (acc : Bool) (ra : Fin 16) (s : State) (hwf : At k v s) :
    outAt k v (execReinLda e acc ra s) := by
  simp (maxDischargeDepth := 30) [execReinLda, *]

theorem execReinRnd_at (e : Fin 16) (rd : Fin 16) (acc : Bool) (mode : BitVec 2) (l : BitVec 4) (s : State) (hwf : At k v s) :
    outAt k v (execReinRnd e rd acc mode l s) := by
  simp (maxDischargeDepth := 30) [execReinRnd, *]

theorem execReinB_at (e : Fin 16) (target : BitVec 11) (s : State) (hwf : At k v s) :
    outAt k v (execReinB e target s) := by
  simp (maxDischargeDepth := 30) [execReinB, *]

theorem execReinBz_at (e : Fin 16) (ra : Fin 16) (target : BitVec 11) (s : State) (hwf : At k v s) :
    outAt k v (execReinBz e ra target s) := by
  simp (maxDischargeDepth := 30) [execReinBz, *]

theorem execReinBnz_at (e : Fin 16) (ra : Fin 16) (target : BitVec 11) (s : State) (hwf : At k v s) :
    outAt k v (execReinBnz e ra target s) := by
  simp (maxDischargeDepth := 30) [execReinBnz, *]

theorem execReinBlt_at (e : Fin 16) (ra : Fin 16) (target : BitVec 11) (s : State) (hwf : At k v s) :
    outAt k v (execReinBlt e ra target s) := by
  simp (maxDischargeDepth := 30) [execReinBlt, *]

theorem execReinBge_at (e : Fin 16) (ra : Fin 16) (target : BitVec 11) (s : State) (hwf : At k v s) :
    outAt k v (execReinBge e ra target s) := by
  simp (maxDischargeDepth := 30) [execReinBge, *]

theorem execReinDbnz_at (e : Fin 16) (ra : Fin 16) (target : BitVec 11) (s : State) (hwf : At k v s) :
    outAt k v (execReinDbnz e ra target s) := by
  simp (maxDischargeDepth := 30) [execReinDbnz, *]

theorem execReinCall_at [Away (∀ a, ¬k = Obj.programStops a)] [Away (∀ a, ¬k = Obj.satCount a)] [Away (∀ a, ¬k = Obj.snapshot a)] [Away (∀ a b, ¬k = engKey a b)] (e : Fin 16) (target : BitVec 11) (s : State) (hwf : At k v s) :
    outAt k v (execReinCall e target s) := by
  simp (maxDischargeDepth := 30) [execReinCall, *]

theorem execReinRet_at [Away (∀ a, ¬k = Obj.programStops a)] [Away (∀ a, ¬k = Obj.satCount a)] [Away (∀ a, ¬k = Obj.snapshot a)] [Away (∀ a b, ¬k = engKey a b)] (e : Fin 16) (s : State) (hwf : At k v s) :
    outAt k v (execReinRet e s) := by
  simp only [execReinRet]
  split <;> simp (maxDischargeDepth := 30) [*]

theorem execReinDone_at [Away (∀ a, ¬k = Obj.satCount a)] [Away (∀ a, ¬k = Obj.snapshot a)] [Away (∀ a b, ¬k = engKey a b)] (e : Fin 16) (s : State) (hwf : At k v s) :
    outAt k v (execReinDone e s) := by
  simp only [execReinDone]
  split <;> simp (maxDischargeDepth := 30) [*]

theorem execReinProgramFault_at [Away (∀ a, ¬k = Obj.programStops a)] [Away (∀ a, ¬k = Obj.satCount a)] [Away (∀ a, ¬k = Obj.snapshot a)] [Away (∀ a b, ¬k = engKey a b)] (e : Fin 16) (s : State) (hwf : At k v s) :
    outAt k v (execReinProgramFault e s) := by
  simp (maxDischargeDepth := 30) [execReinProgramFault, *]

theorem execReinBudgetStop_at [Away (∀ a, ¬k = Obj.programStops a)] [Away (∀ a, ¬k = Obj.satCount a)] [Away (∀ a, ¬k = Obj.snapshot a)] [Away (∀ a b, ¬k = engKey a b)] (e : Fin 16) (s : State) (hwf : At k v s) :
    outAt k v (execReinBudgetStop e s) := by
  simp only [execReinBudgetStop]
  split <;> simp (maxDischargeDepth := 30) [*]

end Sys2Proof.Machine
end

