-- ==== Sys2Proof/Laws/AtReinGroup.lean ====
section
/-! SUPPORT. The objects that every operation of Machine/ReinGroup.lean can write. -/

namespace Sys2Proof.Machine

variable {k : Key} {v : Val}

@[simp] theorem clearDelivered_at (s : State) (g : ℕ) (entry : ℕ) (hwf : At k v s) :
    At k v (clearDelivered s g entry) := by
  unfold clearDelivered
  repeat' split
  all_goals simp_all (maxDischargeDepth := 30)

@[simp] theorem rollBack_at (s : State) (g : ℕ) (e : ℕ) (hwf : At k v s) :
    At k v (rollBack s g e) := by
  simp only [rollBack]
  repeat' split
  all_goals simp (maxDischargeDepth := 30) [*]

@[simp] theorem probationCompare_at [Away (∀ a, ¬k = Obj.groupState a)] [Away (∀ a, ¬k = Obj.reinTakeovers a)] [Away (∀ a b, ¬k = engKey a b)] (s : State) (g : ℕ) (entry : ℕ) (set : SMap Word32) (hwf : At k v s) :
    At k v (probationCompare s g entry set) := by
  unfold probationCompare
  repeat' split
  all_goals simp_all (maxDischargeDepth := 30)

@[simp] theorem agree_at [Away (∀ a, ¬k = Obj.pairHolds a)] (s : State) (g : ℕ) (entry : ℕ) (set : SMap Word32) (hwf : At k v s) :
    At k v (agree s g entry set) := by
  have := ‹Away (∀ a, ¬k = Obj.pairHolds a)›.out
  simp (maxDischargeDepth := 30) [agree, *]

@[simp] theorem setPointFrame_at (s : State) (a : ℕ) (reg : ℕ) (v1 : ℕ) (hwf : At k v s) :
    At k v (setPointFrame s a reg v1) := by
  simp (maxDischargeDepth := 30) [setPointFrame, *]

@[simp] theorem sendSetPoints_at (s : State) (a : ℕ) (hwf : At k v s) :
    At k v (sendSetPoints s a) := by
  simp (maxDischargeDepth := 30) [sendSetPoints, *]

@[simp] theorem latchEffects_at [Away (¬k = Obj.atSpeed)] [Away (¬k = Obj.phaseLocked)] (s : State) (g : ℕ) (entry : ℕ) (hwf : At k v s) :
    At k v (latchEffects s g entry) := by
  simp only [latchEffects]
  repeat' split
  all_goals simp (maxDischargeDepth := 30) [*]

theorem execReinLatch_at [Away (¬k = Obj.atSpeed)] [Away (¬k = Obj.phaseLocked)] (g : Fin 5) (entry : Fin 3) (s : State) (hwf : At k v s) :
    outAt k v (execReinLatch g entry s) := by
  simp only [execReinLatch]
  split <;> simp (maxDischargeDepth := 30) [*]

theorem execEngineReloadDone_at (e : Fin 16) (s : State) (hwf : At k v s) :
    outAt k v (execEngineReloadDone e s) := by
  simp (maxDischargeDepth := 30) [execEngineReloadDone, *]

theorem execSnapshotCopyDone_at (e : Fin 16) (s : State) (hwf : At k v s) :
    outAt k v (execSnapshotCopyDone e s) := by
  simp only [execSnapshotCopyDone]
  split <;> simp (maxDischargeDepth := 30) [*]

theorem execProbationEnd_at [Away (∀ a, ¬k = Obj.groupState a)] [Away (∀ a b, ¬k = engKey a b)] (e : Fin 16) (s : State) (hwf : At k v s) :
    outAt k v (execProbationEnd e s) := by
  simp (maxDischargeDepth := 30) [execProbationEnd, *]

@[simp] theorem spareJoin_at [Away (¬k = Obj.serving)] (s : State) (g : ℕ) (slot : ℕ) (hwf : At k v s) :
    At k v (spareJoin s g slot) := by
  have := ‹Away (¬k = Obj.serving)›.out
  simp (maxDischargeDepth := 30) [spareJoin, *]

@[simp] theorem coefQueue_at (s : State) (g : ℕ) (value : List Byte) (hwf : At k v s) :
    At k v (coefQueue s g value) := by
  simp (maxDischargeDepth := 30) [coefQueue, *]

@[simp] theorem snapAsk_at (s : State) (g : ℕ) (v1 : ℕ) (hwf : At k v s) :
    At k v (snapAsk s g v1) := by
  simp (maxDischargeDepth := 30) [snapAsk, *]

@[simp] theorem injectAsk_at (s : State) (g : ℕ) (slot : ℕ) (hwf : At k v s) :
    At k v (injectAsk s g slot) := by
  simp only [injectAsk]
  split <;> simp (maxDischargeDepth := 30) [*]

@[simp] theorem traceArmNow_at [Away (∀ a, ¬k = Obj.traceState a)] (s : State) (a : ℕ) (v1 : ℕ) (hwf : At k v s) :
    At k v (traceArmNow s a v1) := by
  have := ‹Away (∀ a, ¬k = Obj.traceState a)›.out
  simp (maxDischargeDepth := 30) [traceArmNow, *]

@[simp] theorem traceForceNow_at (s : State) (a : ℕ) (v1 : ℕ) (hwf : At k v s) :
    At k v (traceForceNow s a v1) := by
  simp (maxDischargeDepth := 30) [traceForceNow, *]

end Sys2Proof.Machine
end

