-- ==== Sys2Proof/Laws/AtReset.lean ====
section
/-! SUPPORT. The objects that every operation of Machine/Reset.lean can write. -/

namespace Sys2Proof.Machine

variable {k : Key} {v : Val}

@[simp] theorem quiesceHosts_at [Away (∀ a, ¬k = Obj.ioSlotsHeld a)] [Away (∀ a, ¬k = Obj.linkSpeed a)] [Away (∀ a, ¬k = Obj.linkWidth a)] [Away (¬k = Obj.lockInUse)] [Away (¬k = Obj.slotsInUse)] (s : State) (hwf : At k v s) :
    At k v (quiesceHosts s) := by
  have := ‹Away (∀ a, ¬k = Obj.linkSpeed a)›.out
  have := ‹Away (∀ a, ¬k = Obj.linkWidth a)›.out
  unfold quiesceHosts
  repeat' split
  all_goals simp_all (maxDischargeDepth := 30)

@[simp] theorem startDump_at [Away (¬k = Obj.writebacks)] (s : State) (hwf : At k v s) :
    At k v (startDump s) := by
  simp only [startDump]
  split <;> simp (maxDischargeDepth := 30) [*]

@[simp] theorem shutDown_at [Away (∀ a, ¬k = Obj.badClauses a)] [Away (∀ a b, ¬k = Obj.clipCount a b)] [Away (∀ a, ¬k = Obj.driveState a)] [Away (∀ a, ¬k = Obj.incompleteCount a)] [Away (∀ a, ¬k = Obj.ioSlotsHeld a)] [Away (∀ a, ¬k = Obj.linkSpeed a)] [Away (∀ a, ¬k = Obj.linkWidth a)] [Away (∀ a, ¬k = Obj.loadState a)] [Away (¬k = Obj.lockInUse)] [Away (∀ a, ¬k = Obj.objFaults a)] [Away (∀ a b, ¬k = Obj.offsetRailCount a b)] [Away (∀ a, ¬k = Obj.retracts a)] [Away (∀ a, ¬k = Obj.sentences a)] [Away (∀ a, ¬k = Obj.settleMisses a)] [Away (¬k = Obj.slotsInUse)] [Away (∀ a, ¬k = Obj.sm1CorrectedCount a)] [Away (∀ a b, ¬k = Obj.stuckCount a b)] [Away (∀ a, ¬k = Obj.timedCount a)] [Away (∀ a, ¬k = Obj.underruns a)] [Away (∀ a, ¬k = Obj.windowEnds a)] [Away (¬k = Obj.writebacks)] [Away (∀ a, ¬k = Obj.writeUnsafeCount a)] (s : State) (hwf : At k v s) :
    At k v (shutDown s) := by
  unfold shutDown
  repeat' split
  all_goals simp_all (maxDischargeDepth := 30)

@[simp] theorem beginOff_at [Away (∀ a, ¬k = Obj.badClauses a)] [Away (∀ a b, ¬k = Obj.clipCount a b)] [Away (∀ a, ¬k = Obj.driveState a)] [Away (∀ a, ¬k = Obj.incompleteCount a)] [Away (∀ a, ¬k = Obj.ioSlotsHeld a)] [Away (∀ a, ¬k = Obj.linkSpeed a)] [Away (∀ a, ¬k = Obj.linkWidth a)] [Away (∀ a, ¬k = Obj.loadState a)] [Away (¬k = Obj.lockInUse)] [Away (∀ a, ¬k = Obj.objFaults a)] [Away (∀ a b, ¬k = Obj.offsetRailCount a b)] [Away (∀ a, ¬k = Obj.retracts a)] [Away (∀ a, ¬k = Obj.sentences a)] [Away (∀ a, ¬k = Obj.settleMisses a)] [Away (¬k = Obj.slotsInUse)] [Away (∀ a, ¬k = Obj.sm1CorrectedCount a)] [Away (∀ a b, ¬k = Obj.stuckCount a b)] [Away (∀ a, ¬k = Obj.timedCount a)] [Away (∀ a, ¬k = Obj.underruns a)] [Away (∀ a, ¬k = Obj.windowEnds a)] [Away (¬k = Obj.writebacks)] [Away (∀ a, ¬k = Obj.writeUnsafeCount a)] (s : State) (c : OffCause) (hwf : At k v s) :
    At k v (beginOff s c) := by
  simp only [beginOff]
  split <;> simp (maxDischargeDepth := 30) [*]

@[simp] theorem parkedSwitches_at [Away (¬k = Obj.v3p3Enable)] (s : State) (hwf : At k v s) :
    At k v (parkedSwitches s) := by
  unfold parkedSwitches
  repeat' split
  all_goals simp_all (maxDischargeDepth := 30)

@[simp] theorem powerFail_at [Away (¬k = Obj.atSpeed)] [Away (∀ a, ¬k = Obj.badClauses a)] [Away (∀ a b, ¬k = Obj.clipCount a b)] [Away (∀ a, ¬k = Obj.driveState a)] [Away (∀ a, ¬k = Obj.incompleteCount a)] [Away (∀ a, ¬k = Obj.ioSlotsHeld a)] [Away (∀ a, ¬k = Obj.linkSpeed a)] [Away (∀ a, ¬k = Obj.linkWidth a)] [Away (∀ a, ¬k = Obj.loadState a)] [Away (¬k = Obj.lockInUse)] [Away (∀ a, ¬k = Obj.objFaults a)] [Away (∀ a b, ¬k = Obj.offsetRailCount a b)] [Away (¬k = Obj.phaseLocked)] [Away (∀ a, ¬k = Obj.retracts a)] [Away (∀ a, ¬k = Obj.sentences a)] [Away (∀ a, ¬k = Obj.settleMisses a)] [Away (¬k = Obj.slotsInUse)] [Away (∀ a, ¬k = Obj.sm1CorrectedCount a)] [Away (¬k = Obj.spinMode)] [Away (∀ a b, ¬k = Obj.stuckCount a b)] [Away (∀ a, ¬k = Obj.timedCount a)] [Away (∀ a, ¬k = Obj.underruns a)] [Away (¬k = Obj.v3p3Enable)] [Away (∀ a, ¬k = Obj.windowEnds a)] [Away (¬k = Obj.writebacks)] [Away (∀ a, ¬k = Obj.writeUnsafeCount a)] (s : State) (c : OffCause) (hwf : At k v s) :
    At k v (powerFail s c) := by
  simp (maxDischargeDepth := 30) [powerFail, *]

end Sys2Proof.Machine
end

