-- ==== Sys2Proof/Laws/AtPower.lean ====
section
/-! SUPPORT. The objects that every operation of Machine/Power.lean can write. -/

namespace Sys2Proof.Machine

variable {k : Key} {v : Val}

@[simp] theorem setFeedState_at [Away (¬k = Obj.feedState)] (s : State) (i : ℕ) (b : Bool) (hwf : At k v s) :
    At k v (setFeedState s i b) := by
  have := ‹Away (¬k = Obj.feedState)›.out
  simp (maxDischargeDepth := 30) [setFeedState, *]

@[simp] theorem setSwitch_at (s : State) (f : Feed) (isOpen : Bool) (hwf : At k v s) :
    At k v (setSwitch s f isOpen) := by
  simp only [setSwitch]
  split <;> simp (maxDischargeDepth := 30) [*]

theorem execFeedPresent_at [Away (¬k = Obj.feedState)] (f : Feed) (s : State) (hwf : At k v s) :
    outAt k v (execFeedPresent f s) := by
  simp (maxDischargeDepth := 30) [execFeedPresent, *]

@[simp] theorem failWhileOff_at [Away (¬k = Obj.atSpeed)] [Away (¬k = Obj.lastResetCause)] [Away (¬k = Obj.phaseLocked)] [Away (¬k = Obj.spinMode)] (s : State) (c : OffCause) (hwf : At k v s) :
    At k v (failWhileOff s c) := by
  have := ‹Away (¬k = Obj.lastResetCause)›.out
  simp only [failWhileOff]
  split <;> simp (maxDischargeDepth := 30) [*]

theorem execFeedLost_at [Away (¬k = Obj.atSpeed)] [Away (∀ a, ¬k = Obj.badClauses a)] [Away (∀ a b, ¬k = Obj.clipCount a b)] [Away (∀ a, ¬k = Obj.driveState a)] [Away (¬k = Obj.feedState)] [Away (∀ a, ¬k = Obj.incompleteCount a)] [Away (∀ a, ¬k = Obj.ioSlotsHeld a)] [Away (¬k = Obj.lastResetCause)] [Away (∀ a, ¬k = Obj.linkSpeed a)] [Away (∀ a, ¬k = Obj.linkWidth a)] [Away (∀ a, ¬k = Obj.loadState a)] [Away (¬k = Obj.lockInUse)] [Away (∀ a, ¬k = Obj.objFaults a)] [Away (∀ a b, ¬k = Obj.offsetRailCount a b)] [Away (¬k = Obj.phaseLocked)] [Away (∀ a, ¬k = Obj.retracts a)] [Away (∀ a, ¬k = Obj.sentences a)] [Away (∀ a, ¬k = Obj.settleMisses a)] [Away (¬k = Obj.slotsInUse)] [Away (∀ a, ¬k = Obj.sm1CorrectedCount a)] [Away (¬k = Obj.spinMode)] [Away (∀ a b, ¬k = Obj.stuckCount a b)] [Away (∀ a, ¬k = Obj.timedCount a)] [Away (∀ a, ¬k = Obj.underruns a)] [Away (¬k = Obj.v3p3Enable)] [Away (∀ a, ¬k = Obj.windowEnds a)] [Away (¬k = Obj.writebacks)] [Away (∀ a, ¬k = Obj.writeUnsafeCount a)] (f : Feed) (why : FeedLoss) (s : State) (hwf : At k v s) :
    outAt k v (execFeedLost f why s) := by
  simp only [execFeedLost]
  split <;> simp (maxDischargeDepth := 30) [*]

theorem execFeedSwitchReclose_at [Away (¬k = Obj.feedState)] (f : Feed) (s : State) (hwf : At k v s) :
    outAt k v (execFeedSwitchReclose f s) := by
  simp (maxDischargeDepth := 30) [execFeedSwitchReclose, *]

theorem execPwrdisAssert_at [Away (¬k = Obj.atSpeed)] [Away (∀ a, ¬k = Obj.badClauses a)] [Away (∀ a b, ¬k = Obj.clipCount a b)] [Away (∀ a, ¬k = Obj.driveState a)] [Away (¬k = Obj.feedState)] [Away (∀ a, ¬k = Obj.incompleteCount a)] [Away (∀ a, ¬k = Obj.ioSlotsHeld a)] [Away (¬k = Obj.lastResetCause)] [Away (∀ a, ¬k = Obj.linkSpeed a)] [Away (∀ a, ¬k = Obj.linkWidth a)] [Away (∀ a, ¬k = Obj.loadState a)] [Away (¬k = Obj.lockInUse)] [Away (∀ a, ¬k = Obj.objFaults a)] [Away (∀ a b, ¬k = Obj.offsetRailCount a b)] [Away (¬k = Obj.phaseLocked)] [Away (∀ a, ¬k = Obj.retracts a)] [Away (∀ a, ¬k = Obj.sentences a)] [Away (∀ a, ¬k = Obj.settleMisses a)] [Away (¬k = Obj.slotsInUse)] [Away (∀ a, ¬k = Obj.sm1CorrectedCount a)] [Away (¬k = Obj.spinMode)] [Away (∀ a b, ¬k = Obj.stuckCount a b)] [Away (∀ a, ¬k = Obj.timedCount a)] [Away (∀ a, ¬k = Obj.underruns a)] [Away (¬k = Obj.v3p3Enable)] [Away (∀ a, ¬k = Obj.windowEnds a)] [Away (¬k = Obj.writebacks)] [Away (∀ a, ¬k = Obj.writeUnsafeCount a)] (s : State) (hwf : At k v s) :
    outAt k v (execPwrdisAssert s) := by
  simp (maxDischargeDepth := 30) [execPwrdisAssert, *]

theorem execPwrdisRelease_at [Away (¬k = Obj.feedState)] (s : State) (hwf : At k v s) :
    outAt k v (execPwrdisRelease s) := by
  simp (maxDischargeDepth := 30) [execPwrdisRelease, *]

theorem execVcoreSteer_at [Away (¬k = Obj.vcoreMv)] (minPercent : ℕ) (s : State) (hwf : At k v s) :
    outAt k v (execVcoreSteer minPercent s) := by
  have := ‹Away (¬k = Obj.vcoreMv)›.out
  simp (maxDischargeDepth := 30) [execVcoreSteer, *]

@[simp] theorem settleEffective_at [Away (¬k = Obj.effectiveState)] (s : State) (hwf : At k v s) :
    At k v (settleEffective s) := by
  have := ‹Away (¬k = Obj.effectiveState)›.out
  simp (maxDischargeDepth := 30) [settleEffective, *]

@[simp] theorem setTj_at [Away (¬k = Obj.tjC)] (s : State) (tj : ℤ) (hwf : At k v s) :
    At k v (setTj s tj) := by
  have := ‹Away (¬k = Obj.tjC)›.out
  simp (maxDischargeDepth := 30) [setTj, *]

theorem execThrottleEnter_at [Away (¬k = Obj.effectiveState)] [Away (¬k = Obj.thermalState)] [Away (¬k = Obj.tjC)] (tj : ℤ) (s : State) (hwf : At k v s) :
    outAt k v (execThrottleEnter tj s) := by
  have := ‹Away (¬k = Obj.thermalState)›.out
  simp (maxDischargeDepth := 30) [execThrottleEnter, *]

theorem execThrottleExit_at [Away (¬k = Obj.effectiveState)] [Away (¬k = Obj.thermalState)] [Away (¬k = Obj.tjC)] (tj : ℤ) (s : State) (hwf : At k v s) :
    outAt k v (execThrottleExit tj s) := by
  have := ‹Away (¬k = Obj.thermalState)›.out
  simp (maxDischargeDepth := 30) [execThrottleExit, *]

end Sys2Proof.Machine
end

