-- ==== Sys2Proof/Laws/AtMotion.lean ====
section
/-! SUPPORT. The objects that every operation of Machine/Motion.lean can write. -/

namespace Sys2Proof.Machine

variable {k : Key} {v : Val}

@[simp] theorem loadEngine_at [Away (∀ a b, ¬k = engKey a b)] (s : State) (g : ℕ) (e : ℕ) (role : ℕ) (hwf : At k v s) :
    At k v (loadEngine s g e role) := by
  simp (maxDischargeDepth := 30) [loadEngine, *]

@[simp] theorem startGroup_at [Away (∀ a, ¬k = Obj.groupState a)] [Away (¬k = Obj.serving)] [Away (∀ a b, ¬k = engKey a b)] (s : State) (g : ℕ) (hwf : At k v s) :
    At k v (startGroup s g) := by
  have := ‹Away (∀ a, ¬k = Obj.groupState a)›.out
  unfold startGroup
  repeat' split
  all_goals simp_all (maxDischargeDepth := 30)

@[simp] theorem stopGroup_at [Away (∀ a, ¬k = Obj.groupState a)] [Away (∀ a b, ¬k = engKey a b)] (s : State) (g : ℕ) (hwf : At k v s) :
    At k v (stopGroup s g) := by
  have := ‹Away (∀ a, ¬k = Obj.groupState a)›.out
  unfold stopGroup
  repeat' split
  all_goals simp_all (maxDischargeDepth := 30)

@[simp] theorem fromMain_at (s : State) (hwf : At k v s) :
    At k v (fromMain s) := by
  simp (maxDischargeDepth := 30) [fromMain, *]

@[simp] theorem fromMotion_at (s : State) (hwf : At k v s) :
    At k v (fromMotion s) := by
  simp (maxDischargeDepth := 30) [fromMotion, *]

theorem execHeartbeat_at [Away (¬k = Obj.heartbeatArmed)] [Away (¬k = Obj.linkState)] (count : ℕ) (s : State) (hwf : At k v s) :
    outAt k v (execHeartbeat count s) := by
  have := ‹Away (¬k = Obj.heartbeatArmed)›.out
  have := ‹Away (¬k = Obj.linkState)›.out
  simp only [execHeartbeat]
  split <;> simp (maxDischargeDepth := 30) [*]

@[simp] theorem motionTakesOver_at [Away (¬k = Obj.atSpeed)] [Away (∀ a, ¬k = Obj.badClauses a)] [Away (∀ a b, ¬k = Obj.clipCount a b)] [Away (∀ a, ¬k = Obj.driveState a)] [Away (¬k = Obj.heartbeatArmed)] [Away (¬k = Obj.heartbeatLosses)] [Away (∀ a, ¬k = Obj.incompleteCount a)] [Away (∀ a, ¬k = Obj.ioSlotsHeld a)] [Away (∀ a, ¬k = Obj.linkSpeed a)] [Away (∀ a, ¬k = Obj.linkWidth a)] [Away (∀ a, ¬k = Obj.loadState a)] [Away (¬k = Obj.lockInUse)] [Away (∀ a, ¬k = Obj.objFaults a)] [Away (∀ a b, ¬k = Obj.offsetRailCount a b)] [Away (¬k = Obj.phaseLocked)] [Away (∀ a, ¬k = Obj.retracts a)] [Away (∀ a, ¬k = Obj.sentences a)] [Away (∀ a, ¬k = Obj.settleMisses a)] [Away (¬k = Obj.slotsInUse)] [Away (∀ a, ¬k = Obj.sm1CorrectedCount a)] [Away (¬k = Obj.spinMode)] [Away (∀ a b, ¬k = Obj.stuckCount a b)] [Away (∀ a, ¬k = Obj.timedCount a)] [Away (∀ a, ¬k = Obj.underruns a)] [Away (¬k = Obj.v3p3Enable)] [Away (∀ a, ¬k = Obj.windowEnds a)] [Away (¬k = Obj.writebacks)] [Away (∀ a, ¬k = Obj.writeUnsafeCount a)] (s : State) (c : OffCause) (hwf : At k v s) :
    At k v (motionTakesOver s c) := by
  have := ‹Away (¬k = Obj.heartbeatArmed)›.out
  have := ‹Away (¬k = Obj.heartbeatLosses)›.out
  simp (maxDischargeDepth := 30) [motionTakesOver, *]

theorem execHeartbeatLoss_at [Away (¬k = Obj.atSpeed)] [Away (∀ a, ¬k = Obj.badClauses a)] [Away (∀ a b, ¬k = Obj.clipCount a b)] [Away (∀ a, ¬k = Obj.driveState a)] [Away (¬k = Obj.heartbeatArmed)] [Away (¬k = Obj.heartbeatLosses)] [Away (∀ a, ¬k = Obj.incompleteCount a)] [Away (∀ a, ¬k = Obj.ioSlotsHeld a)] [Away (∀ a, ¬k = Obj.linkSpeed a)] [Away (∀ a, ¬k = Obj.linkWidth a)] [Away (∀ a, ¬k = Obj.loadState a)] [Away (¬k = Obj.lockInUse)] [Away (∀ a, ¬k = Obj.objFaults a)] [Away (∀ a b, ¬k = Obj.offsetRailCount a b)] [Away (¬k = Obj.phaseLocked)] [Away (∀ a, ¬k = Obj.retracts a)] [Away (∀ a, ¬k = Obj.sentences a)] [Away (∀ a, ¬k = Obj.settleMisses a)] [Away (¬k = Obj.slotsInUse)] [Away (∀ a, ¬k = Obj.sm1CorrectedCount a)] [Away (¬k = Obj.spinMode)] [Away (∀ a b, ¬k = Obj.stuckCount a b)] [Away (∀ a, ¬k = Obj.timedCount a)] [Away (∀ a, ¬k = Obj.underruns a)] [Away (¬k = Obj.v3p3Enable)] [Away (∀ a, ¬k = Obj.windowEnds a)] [Away (¬k = Obj.writebacks)] [Away (∀ a, ¬k = Obj.writeUnsafeCount a)] (s : State) (hwf : At k v s) :
    outAt k v (execHeartbeatLoss s) := by
  simp (maxDischargeDepth := 30) [execHeartbeatLoss, *]

theorem execResetNotice_at [Away (¬k = Obj.heartbeatArmed)] (lengthUs : ℕ) (s : State) (hwf : At k v s) :
    outAt k v (execResetNotice lengthUs s) := by
  have := ‹Away (¬k = Obj.heartbeatArmed)›.out
  simp (maxDischargeDepth := 30) [execResetNotice, *]

theorem execLinkStatus_at [Away (¬k = Obj.mdTempC)] [Away (¬k = Obj.vmMv)] (vm : ℕ) (temp : ℤ) (s : State) (hwf : At k v s) :
    outAt k v (execLinkStatus vm temp s) := by
  have := ‹Away (¬k = Obj.mdTempC)›.out
  have := ‹Away (¬k = Obj.vmMv)›.out
  simp (maxDischargeDepth := 30) [execLinkStatus, *]

theorem execVcmCmd_at [Away (∀ a, ¬k = Obj.vcmClamps a)] (a : Fin 4) (ua : ℤ) (mv : ℤ) (s : State) (hwf : At k v s) :
    outAt k v (execVcmCmd a ua mv s) := by
  have := ‹Away (∀ a, ¬k = Obj.vcmClamps a)›.out
  simp (maxDischargeDepth := 30) [execVcmCmd, *]

theorem execVcmOvercurrent_at [Away (∀ a, ¬k = Obj.actuatorState a)] [Away (∀ a, ¬k = Obj.badClauses a)] [Away (∀ a b, ¬k = Obj.clipCount a b)] [Away (∀ a, ¬k = Obj.driveFault a)] [Away (∀ a, ¬k = Obj.driveState a)] [Away (∀ a, ¬k = Obj.incompleteCount a)] [Away (∀ a, ¬k = Obj.loadState a)] [Away (∀ a, ¬k = Obj.objFaults a)] [Away (∀ a b, ¬k = Obj.offsetRailCount a b)] [Away (∀ a, ¬k = Obj.playerState a)] [Away (∀ a, ¬k = Obj.sentences a)] [Away (∀ a, ¬k = Obj.settleMisses a)] [Away (∀ a, ¬k = Obj.sm1CorrectedCount a)] [Away (∀ a b, ¬k = Obj.stuckCount a b)] [Away (∀ a, ¬k = Obj.surfaceState a)] [Away (∀ a, ¬k = Obj.timedCount a)] [Away (∀ a, ¬k = Obj.underruns a)] [Away (∀ a, ¬k = Obj.windowEnds a)] (a : Fin 4) (s : State) (hwf : At k v s) :
    outAt k v (execVcmOvercurrent a s) := by
  have := ‹Away (∀ a, ¬k = Obj.driveState a)›.out
  simp (maxDischargeDepth := 30) [execVcmOvercurrent, *]

theorem execMaOvercurrent_at [Away (∀ a, ¬k = Obj.driveFault a)] (a : Fin 4) (s : State) (hwf : At k v s) :
    outAt k v (execMaOvercurrent a s) := by
  simp (maxDischargeDepth := 30) [execMaOvercurrent, *]

theorem execHeadLoadTimeout_at [Away (∀ a, ¬k = Obj.driveFault a)] [Away (∀ a, ¬k = Obj.driveState a)] [Away (∀ a, ¬k = Obj.retracts a)] (a : Fin 4) (s : State) (hwf : At k v s) :
    outAt k v (execHeadLoadTimeout a s) := by
  simp (maxDischargeDepth := 30) [execHeadLoadTimeout, *]

@[simp] theorem spinAlign_at [Away (¬k = Obj.atSpeed)] [Away (¬k = Obj.phaseLocked)] [Away (¬k = Obj.spinMode)] (s : State) (hwf : At k v s) :
    At k v (spinAlign s) := by
  simp (maxDischargeDepth := 30) [spinAlign, *]

@[simp] theorem takeSpinLimit_at (s : State) (hwf : At k v s) :
    At k v (takeSpinLimit s) := by
  simp (maxDischargeDepth := 30) [takeSpinLimit, *]

@[simp] theorem beginSpin_at [Away (¬k = Obj.atSpeed)] [Away (¬k = Obj.phaseLocked)] [Away (¬k = Obj.spinMode)] [Away (¬k = Obj.spinups)] (s : State) (hwf : At k v s) :
    At k v (beginSpin s) := by
  have := ‹Away (¬k = Obj.spinups)›.out
  simp (maxDischargeDepth := 30) [beginSpin, *]

@[simp] theorem spinUp_at [Away (¬k = Obj.atSpeed)] [Away (∀ a, ¬k = Obj.driveState a)] [Away (¬k = Obj.phaseLocked)] [Away (∀ a, ¬k = Obj.retracts a)] [Away (¬k = Obj.spinMode)] [Away (¬k = Obj.spinups)] [Away (¬k = Obj.targetRpm)] (s : State) (hwf : At k v s) :
    At k v (spinUp s) := by
  have := ‹Away (¬k = Obj.targetRpm)›.out
  unfold spinUp
  repeat' split
  all_goals simp_all (maxDischargeDepth := 30)

theorem execSpinCmd_at (ua : ℤ) (s : State) (hwf : At k v s) :
    outAt k v (execSpinCmd ua s) := by
  simp (maxDischargeDepth := 30) [execSpinCmd, *]

@[simp] theorem spindleFault_at [Away (¬k = Obj.atSpeed)] [Away (∀ a, ¬k = Obj.driveState a)] [Away (¬k = Obj.phaseLocked)] [Away (∀ a, ¬k = Obj.retracts a)] [Away (¬k = Obj.spinMode)] (s : State) (hwf : At k v s) :
    At k v (spindleFault s) := by
  simp (maxDischargeDepth := 30) [spindleFault, *]

@[simp] theorem countCross_at [Away (∀ a, ¬k = Obj.revNow a)] (s : State) (hwf : At k v s) :
    At k v (countCross s) := by
  unfold countCross
  repeat' split
  all_goals simp_all (maxDischargeDepth := 30)

@[simp] theorem zeroCrossLost_at [Away (¬k = Obj.atSpeed)] [Away (∀ a, ¬k = Obj.driveState a)] [Away (¬k = Obj.phaseLocked)] [Away (∀ a, ¬k = Obj.retracts a)] [Away (∀ a, ¬k = Obj.revNow a)] [Away (¬k = Obj.spinFaults)] [Away (¬k = Obj.spinMode)] (s : State) (hwf : At k v s) :
    At k v (zeroCrossLost s) := by
  have := ‹Away (¬k = Obj.spinFaults)›.out
  simp (maxDischargeDepth := 30) [zeroCrossLost, *]

theorem execZeroCross_at [Away (¬k = Obj.atSpeed)] [Away (∀ a, ¬k = Obj.driveState a)] [Away (¬k = Obj.phaseLocked)] [Away (∀ a, ¬k = Obj.retracts a)] [Away (∀ a, ¬k = Obj.revNow a)] [Away (¬k = Obj.speed)] [Away (¬k = Obj.spinFaults)] [Away (¬k = Obj.spinMode)] (phase : ℕ) (interval : ℕ) (s : State) (hwf : At k v s) :
    outAt k v (execZeroCross phase interval s) := by
  have := ‹Away (¬k = Obj.speed)›.out
  simp (maxDischargeDepth := 30) [execZeroCross, *]

theorem execZeroCrossMissing_at [Away (¬k = Obj.atSpeed)] [Away (∀ a, ¬k = Obj.driveState a)] [Away (¬k = Obj.phaseLocked)] [Away (∀ a, ¬k = Obj.retracts a)] [Away (∀ a, ¬k = Obj.revNow a)] [Away (¬k = Obj.spinFaults)] [Away (¬k = Obj.spinMode)] (s : State) (hwf : At k v s) :
    outAt k v (execZeroCrossMissing s) := by
  simp (maxDischargeDepth := 30) [execZeroCrossMissing, *]

theorem execSpindleDriverFault_at [Away (¬k = Obj.atSpeed)] [Away (∀ a, ¬k = Obj.driveState a)] [Away (¬k = Obj.phaseLocked)] [Away (∀ a, ¬k = Obj.retracts a)] [Away (¬k = Obj.spinMode)] (s : State) (hwf : At k v s) :
    outAt k v (execSpindleDriverFault s) := by
  simp (maxDischargeDepth := 30) [execSpindleDriverFault, *]

theorem execSpinAlignEnd_at [Away (¬k = Obj.atSpeed)] [Away (¬k = Obj.phaseLocked)] [Away (¬k = Obj.spinMode)] (s : State) (hwf : At k v s) :
    outAt k v (execSpinAlignEnd s) := by
  simp (maxDischargeDepth := 30) [execSpinAlignEnd, *]

theorem execSpindleStandstill_at [Away (¬k = Obj.atSpeed)] [Away (¬k = Obj.phaseLocked)] [Away (¬k = Obj.speed)] [Away (¬k = Obj.spinMode)] (s : State) (hwf : At k v s) :
    outAt k v (execSpindleStandstill s) := by
  have := ‹Away (¬k = Obj.speed)›.out
  simp only [execSpindleStandstill]
  repeat' split
  all_goals simp (maxDischargeDepth := 30) [*]

@[simp] theorem loadHeads_at [Away (∀ a, ¬k = Obj.driveState a)] (s : State) (a : ℕ) (hwf : At k v s) :
    At k v (loadHeads s a) := by
  have := ‹Away (∀ a, ¬k = Obj.driveState a)›.out
  simp (maxDischargeDepth := 30) [loadHeads, *]

@[simp] theorem spinTarget_at [Away (¬k = Obj.atSpeed)] [Away (¬k = Obj.phaseLocked)] [Away (¬k = Obj.spinMode)] [Away (¬k = Obj.targetRpm)] (s : State) (rpm : ℕ) (hwf : At k v s) :
    At k v (spinTarget s rpm) := by
  have := ‹Away (¬k = Obj.targetRpm)›.out
  simp (maxDischargeDepth := 30) [spinTarget, *]

theorem execDriveMsg_at [Away (¬k = Obj.atSpeed)] [Away (∀ a, ¬k = Obj.driveState a)] [Away (¬k = Obj.phaseLocked)] [Away (∀ a, ¬k = Obj.retracts a)] [Away (¬k = Obj.spinMode)] [Away (¬k = Obj.targetRpm)] (cmd : DriveCmd) (s : State) (hwf : At k v s) :
    outAt k v (execDriveMsg cmd s) := by
  simp only [execDriveMsg]
  split <;> simp (maxDischargeDepth := 30) [*]

theorem execRampContact_at (a : Fin 4) (s : State) (hwf : At k v s) :
    outAt k v (execRampContact a s) := by
  simp (maxDischargeDepth := 30) [execRampContact, *]

theorem execDumpSealed_at (holdupMj : ℕ) (vmMin : ℕ) (s : State) (hwf : At k v s) :
    outAt k v (execDumpSealed holdupMj vmMin s) := by
  simp only [execDumpSealed]
  split <;> simp (maxDischargeDepth := 30) [*]

end Sys2Proof.Machine
end

