-- ==== Sys2Proof/Laws/AtServo.lean ====
section
/-! SUPPORT. The objects that every operation of Machine/Servo.lean can write. -/

namespace Sys2Proof.Machine

variable {k : Key} {v : Val}

@[simp] theorem comparePosition_at [Away (∀ a, ¬k = Obj.incompleteCount a)] [Away (∀ a, ¬k = Obj.writeUnsafeCount a)] (s : State) (a : ℕ) (pes : ℤ) (hwf : At k v s) :
    At k v (comparePosition s a pes) := by
  simp (maxDischargeDepth := 30) [comparePosition, *]

@[simp] theorem trackCheck_at [Away (∀ a, ¬k = Obj.badClauses a)] [Away (∀ a, ¬k = Obj.loadState a)] [Away (∀ a, ¬k = Obj.objFaults a)] [Away (∀ a, ¬k = Obj.sentences a)] [Away (∀ a, ¬k = Obj.settleMisses a)] [Away (∀ a, ¬k = Obj.underruns a)] [Away (∀ a, ¬k = Obj.windowEnds a)] [Away (∀ a, ¬k = Obj.writeUnsafeCount a)] (s : State) (a : ℕ) (wedge : ℕ) (track : ℕ) (pes : ℤ) (hwf : At k v s) :
    At k v (trackCheck s a wedge track pes) := by
  have := ‹Away (∀ a, ¬k = Obj.loadState a)›.out
  simp only [trackCheck]
  split <;> simp (maxDischargeDepth := 30) [*]

@[simp] theorem stampStart_at (s : State) (a : ℕ) (wedge : ℕ) (hwf : At k v s) :
    At k v (stampStart s a wedge) := by
  simp only [stampStart]
  split <;> simp (maxDischargeDepth := 30) [*]

@[simp] theorem seekNoticed_at (s : State) (a : ℕ) (hwf : At k v s) :
    At k v (seekNoticed s a) := by
  simp (maxDischargeDepth := 30) [seekNoticed, *]

@[simp] theorem seekStart_at (s : State) (a : ℕ) (track : ℕ) (hwf : At k v s) :
    At k v (seekStart s a track) := by
  simp only [seekStart]
  split <;> simp (maxDischargeDepth := 30) [*]

@[simp] theorem seekAdvance_at (s : State) (a : ℕ) (hwf : At k v s) :
    At k v (seekAdvance s a) := by
  simp only [seekAdvance]
  split <;> simp (maxDischargeDepth := 30) [*]

@[simp] theorem seekStep_at (s : State) (a : ℕ) (track : ℕ) (hwf : At k v s) :
    At k v (seekStep s a track) := by
  simp (maxDischargeDepth := 30) [seekStep, *]

@[simp] theorem stampPhase_at (s : State) (a : ℕ) (wedge : ℕ) (hwf : At k v s) :
    At k v (stampPhase s a wedge) := by
  simp (maxDischargeDepth := 30) [stampPhase, *]

@[simp] theorem trimSums_at (s : State) (a : ℕ) (pes : ℤ) (hwf : At k v s) :
    At k v (trimSums s a pes) := by
  simp (maxDischargeDepth := 30) [trimSums, *]

@[simp] theorem countRev_at [Away (∀ a, ¬k = Obj.revNow a)] (s : State) (a : ℕ) (wedge : ℕ) (hwf : At k v s) :
    At k v (countRev s a wedge) := by
  unfold countRev
  repeat' split
  all_goals simp_all (maxDischargeDepth := 30)

@[simp] theorem releaseBlock_at (s : State) (a : ℕ) (hwf : At k v s) :
    At k v (releaseBlock s a) := by
  simp only [releaseBlock]
  split <;> simp (maxDischargeDepth := 30) [*]

@[simp] theorem missedStarts_at [Away (∀ a, ¬k = Obj.badClauses a)] [Away (∀ a, ¬k = Obj.loadState a)] [Away (∀ a, ¬k = Obj.objFaults a)] [Away (∀ a, ¬k = Obj.sentences a)] [Away (∀ a, ¬k = Obj.settleMisses a)] [Away (∀ a, ¬k = Obj.underruns a)] [Away (∀ a, ¬k = Obj.windowEnds a)] (s : State) (a : ℕ) (hwf : At k v s) :
    At k v (missedStarts s a) := by
  unfold missedStarts
  repeat' split
  all_goals simp_all (maxDischargeDepth := 30)

@[simp] theorem confirmLoad_at [Away (∀ a, ¬k = Obj.actuatorState a)] [Away (∀ a, ¬k = Obj.driveState a)] [Away (∀ a, ¬k = Obj.playerState a)] [Away (∀ a, ¬k = Obj.surfaceState a)] (s : State) (a : ℕ) (hwf : At k v s) :
    At k v (confirmLoad s a) := by
  have := ‹Away (∀ a, ¬k = Obj.driveState a)›.out
  simp only [confirmLoad]
  repeat' split
  all_goals simp (maxDischargeDepth := 30) [*]

@[simp] theorem passWedge_at (s : State) (a : ℕ) (hwf : At k v s) :
    At k v (passWedge s a) := by
  simp (maxDischargeDepth := 30) [passWedge, *]

theorem execServoSyncTimeout_at [Away (∀ a, ¬k = Obj.badClauses a)] [Away (∀ a, ¬k = Obj.incompleteCount a)] [Away (∀ a, ¬k = Obj.loadState a)] [Away (∀ a, ¬k = Obj.objFaults a)] [Away (∀ a, ¬k = Obj.revNow a)] [Away (∀ a, ¬k = Obj.sentences a)] [Away (∀ a, ¬k = Obj.settleMisses a)] [Away (∀ a, ¬k = Obj.underruns a)] [Away (∀ a, ¬k = Obj.windowEnds a)] [Away (∀ a, ¬k = Obj.writeUnsafeCount a)] (a : Fin 4) (s : State) (hwf : At k v s) :
    outAt k v (execServoSyncTimeout a s) := by
  simp only [execServoSyncTimeout]
  repeat' split
  all_goals simp (maxDischargeDepth := 30) [*]

end Sys2Proof.Machine
end

