-- ==== Sys2Proof/Laws/AtGirth.lean ====
section
/-! SUPPORT. The objects that every operation of Machine/Girth.lean can write. -/

namespace Sys2Proof.Machine

variable {k : Key} {v : Val}

@[simp] theorem State.setGirth_at (s : State) (g : Girth) (hwf : At k v s) :
    At k v (State.setGirth s g) := by
  simp (maxDischargeDepth := 30) [State.setGirth, *]

@[simp] theorem forward_at (s : State) (typ : ℕ) (h : GirthHeader) (payload : ℕ) (hwf : At k v s) :
    At k v (forward s typ h payload) := by
  simp (maxDischargeDepth := 30) [forward, *]

@[simp] theorem countCrc_at [Away (¬k = Obj.crcErrors)] [Away (¬k = Obj.poisoned)] (s : State) (c : CrcState) (hwf : At k v s) :
    At k v (countCrc s c) := by
  have := ‹Away (¬k = Obj.crcErrors)›.out
  have := ‹Away (¬k = Obj.poisoned)›.out
  simp only [countCrc]
  split <;> simp (maxDischargeDepth := 30) [*]

@[simp] theorem rxTake_at (s : State) (hwf : At k v s) :
    At k v (rxTake s) := by
  simp (maxDischargeDepth := 30) [rxTake, *]

@[simp] theorem receive_at [Away (¬k = Obj.crcErrors)] [Away (¬k = Obj.poisoned)] (s : State) (typ : Nat) (h : GirthHeader) (payload : Nat) (deliver : State → State) (hwf : At k v s)
    (hd : ∀ t : State, At k v t → At k v (deliver t)) : At k v (receive s typ h payload deliver) := by
  simp only [receive]
  split <;> simp (maxDischargeDepth := 30) [*]

@[simp] theorem txLeave_at (s : State) (hwf : At k v s) :
    At k v (txLeave s) := by
  simp only [txLeave]
  split <;> simp (maxDischargeDepth := 30) [*]

@[simp] theorem sendFrame_at [Away (¬k = Obj.txDrops)] (s : State) (typ : ℕ) (payload : ℕ) (hwf : At k v s) :
    At k v (sendFrame s typ payload) := by
  have := ‹Away (¬k = Obj.txDrops)›.out
  simp (maxDischargeDepth := 30) [sendFrame, *]

@[simp] theorem timePasses_at [Away (¬k = Obj.tick)] (s : State) (hwf : At k v s) :
    At k v (timePasses s) := by
  simp (maxDischargeDepth := 30) [timePasses, *]

theorem execGirthUnknownType_at [Away (¬k = Obj.crcErrors)] [Away (¬k = Obj.poisoned)] (h : GirthHeader) (typ : ℕ) (payload : ℕ) (s : State) (hwf : At k v s) :
    outAt k v (execGirthUnknownType h typ payload s) := by
  simp (maxDischargeDepth := 30) [execGirthUnknownType, *]

@[simp] theorem assignPhase_at [Away (¬k = Obj.assignedPhase)] (s : State) (g : ℕ) (hwf : At k v s) :
    At k v (assignPhase s g) := by
  have := ‹Away (¬k = Obj.assignedPhase)›.out
  simp (maxDischargeDepth := 30) [assignPhase, *]

@[simp] theorem rephase_at [Away (¬k = Obj.assignedPhase)] (s : State) (hwf : At k v s) :
    At k v (rephase s) := by
  simp only [rephase]
  split <;> simp (maxDischargeDepth := 30) [*]

@[simp] theorem unjoin_at [Away (¬k = Obj.degraded)] [Away (¬k = Obj.girthState)] [Away (¬k = Obj.hop)] [Away (¬k = Obj.ringSize)] (s : State) (hwf : At k v s) :
    At k v (unjoin s) := by
  have := ‹Away (¬k = Obj.girthState)›.out
  have := ‹Away (¬k = Obj.hop)›.out
  have := ‹Away (¬k = Obj.ringSize)›.out
  simp (maxDischargeDepth := 30) [unjoin, *]

@[simp] theorem becomeMaster_at [Away (¬k = Obj.assignedPhase)] [Away (¬k = Obj.degraded)] [Away (¬k = Obj.epochOffset)] [Away (¬k = Obj.girthState)] [Away (¬k = Obj.hop)] [Away (¬k = Obj.masterTag)] [Away (¬k = Obj.ringSize)] (s : State) (hop : ℕ) (elected : Bool) (hwf : At k v s) :
    At k v (becomeMaster s hop elected) := by
  have := ‹Away (¬k = Obj.epochOffset)›.out
  have := ‹Away (¬k = Obj.girthState)›.out
  have := ‹Away (¬k = Obj.hop)›.out
  have := ‹Away (¬k = Obj.masterTag)›.out
  have := ‹Away (¬k = Obj.ringSize)›.out
  simp (maxDischargeDepth := 30) [becomeMaster, *]

@[simp] theorem follow_at [Away (¬k = Obj.assignedPhase)] [Away (¬k = Obj.epochOffset)] [Away (¬k = Obj.hop)] [Away (¬k = Obj.masterTag)] (s : State) (h : GirthHeader) (tick : ℕ) (baseHop : ℕ) (tag : ℕ) (again : Bool) (hwf : At k v s) :
    At k v (follow s h tick baseHop tag again) := by
  have := ‹Away (¬k = Obj.epochOffset)›.out
  have := ‹Away (¬k = Obj.hop)›.out
  have := ‹Away (¬k = Obj.masterTag)›.out
  simp (maxDischargeDepth := 30) [follow, *]

@[simp] theorem becomeMember_at [Away (¬k = Obj.assignedPhase)] [Away (¬k = Obj.degraded)] [Away (¬k = Obj.epochOffset)] [Away (¬k = Obj.girthState)] [Away (¬k = Obj.hop)] [Away (¬k = Obj.masterTag)] [Away (¬k = Obj.ringSize)] (s : State) (h : GirthHeader) (tick : ℕ) (baseHop : ℕ) (tag : ℕ) (hwf : At k v s) :
    At k v (becomeMember s h tick baseHop tag) := by
  have := ‹Away (¬k = Obj.girthState)›.out
  have := ‹Away (¬k = Obj.ringSize)›.out
  simp (maxDischargeDepth := 30) [becomeMember, *]

@[simp] theorem otherTag_at [Away (¬k = Obj.assignedPhase)] [Away (¬k = Obj.degraded)] [Away (¬k = Obj.epochOffset)] [Away (¬k = Obj.girthState)] [Away (¬k = Obj.hop)] [Away (¬k = Obj.masterTag)] [Away (¬k = Obj.ringSize)] (s : State) (h : GirthHeader) (tick : ℕ) (baseHop : ℕ) (tag : ℕ) (hwf : At k v s) :
    At k v (otherTag s h tick baseHop tag) := by
  simp (maxDischargeDepth := 30) [otherTag, *]

@[simp] theorem yieldTo_at [Away (¬k = Obj.assignedPhase)] [Away (¬k = Obj.degraded)] [Away (¬k = Obj.epochOffset)] [Away (¬k = Obj.girthState)] [Away (¬k = Obj.hop)] [Away (¬k = Obj.masterTag)] [Away (¬k = Obj.ringSize)] (s : State) (h : GirthHeader) (tick : ℕ) (baseHop : ℕ) (tag : ℕ) (past : Bool) (hwf : At k v s) :
    At k v (yieldTo s h tick baseHop tag past) := by
  simp (maxDischargeDepth := 30) [yieldTo, *]

@[simp] theorem masterSync_at [Away (¬k = Obj.assignedPhase)] [Away (¬k = Obj.degraded)] [Away (¬k = Obj.epochOffset)] [Away (¬k = Obj.foreignSyncs)] [Away (¬k = Obj.girthState)] [Away (¬k = Obj.hop)] [Away (¬k = Obj.masterTag)] [Away (¬k = Obj.ringSize)] (s : State) (h : GirthHeader) (tick : ℕ) (baseHop : ℕ) (tag : ℕ) (fixed : Bool) (past : Bool) (hwf : At k v s) :
    At k v (masterSync s h tick baseHop tag fixed past) := by
  have := ‹Away (¬k = Obj.foreignSyncs)›.out
  have := ‹Away (¬k = Obj.ringSize)›.out
  simp (maxDischargeDepth := 30) [masterSync, *]

@[simp] theorem deliverSync_at [Away (¬k = Obj.assignedPhase)] [Away (¬k = Obj.degraded)] [Away (¬k = Obj.epochOffset)] [Away (¬k = Obj.foreignSyncs)] [Away (¬k = Obj.girthState)] [Away (¬k = Obj.hop)] [Away (¬k = Obj.masterTag)] [Away (¬k = Obj.ringSize)] (s : State) (h : GirthHeader) (tick : ℕ) (baseHop : ℕ) (tag : ℕ) (fixed : Bool) (past : Bool) (hwf : At k v s) :
    At k v (deliverSync s h tick baseHop tag fixed past) := by
  simp (maxDischargeDepth := 30) [deliverSync, *]

theorem execGirthSync_at [Away (¬k = Obj.assignedPhase)] [Away (¬k = Obj.crcErrors)] [Away (¬k = Obj.degraded)] [Away (¬k = Obj.epochOffset)] [Away (¬k = Obj.foreignSyncs)] [Away (¬k = Obj.girthState)] [Away (¬k = Obj.hop)] [Away (¬k = Obj.masterTag)] [Away (¬k = Obj.poisoned)] [Away (¬k = Obj.ringSize)] (h : GirthHeader) (tick : ℕ) (baseHop : ℕ) (tag : ℕ) (fixed : Bool) (takeover : Bool) (overFlag : Bool) (s : State) (hwf : At k v s) :
    outAt k v (execGirthSync h tick baseHop tag fixed takeover overFlag s) := by
  unfold execGirthSync
  repeat' split
  all_goals simp_all (maxDischargeDepth := 30)

theorem execMasterLoss_at [Away (¬k = Obj.assignedPhase)] [Away (¬k = Obj.degraded)] [Away (¬k = Obj.epochOffset)] [Away (¬k = Obj.girthState)] [Away (¬k = Obj.hop)] [Away (¬k = Obj.masterTag)] [Away (¬k = Obj.ringSize)] (s : State) (hwf : At k v s) :
    outAt k v (execMasterLoss s) := by
  simp only [execMasterLoss]
  repeat' split
  all_goals simp (maxDischargeDepth := 30) [*]

theorem execCandidateWaitEnd_at [Away (¬k = Obj.assignedPhase)] [Away (¬k = Obj.degraded)] [Away (¬k = Obj.epochOffset)] [Away (¬k = Obj.girthState)] [Away (¬k = Obj.hop)] [Away (¬k = Obj.masterTag)] [Away (¬k = Obj.ringSize)] [Away (¬k = Obj.takeovers)] (s : State) (hwf : At k v s) :
    outAt k v (execCandidateWaitEnd s) := by
  have := ‹Away (¬k = Obj.takeovers)›.out
  simp (maxDischargeDepth := 30) [execCandidateWaitEnd, *]

@[simp] theorem joinBegin_at [Away (¬k = Obj.assignedPhase)] [Away (¬k = Obj.degraded)] [Away (¬k = Obj.epochOffset)] [Away (¬k = Obj.girthState)] [Away (¬k = Obj.hop)] [Away (¬k = Obj.masterTag)] [Away (¬k = Obj.ringSize)] (s : State) (hwf : At k v s) :
    At k v (joinBegin s) := by
  have := ‹Away (¬k = Obj.epochOffset)›.out
  have := ‹Away (¬k = Obj.girthState)›.out
  simp only [joinBegin]
  repeat' split
  all_goals simp (maxDischargeDepth := 30) [*]

theorem execJoinListenTimeout_at [Away (¬k = Obj.assignedPhase)] [Away (¬k = Obj.degraded)] [Away (¬k = Obj.epochOffset)] [Away (¬k = Obj.girthState)] [Away (¬k = Obj.hop)] [Away (¬k = Obj.masterTag)] [Away (¬k = Obj.ringSize)] (_noSymbol : Bool) (s : State) (hwf : At k v s) :
    outAt k v (execJoinListenTimeout _noSymbol s) := by
  simp only [execJoinListenTimeout]
  repeat' split
  all_goals simp (maxDischargeDepth := 30) [*]

@[simp] theorem sendHealth_at [Away (¬k = Obj.tjC)] [Away (¬k = Obj.txDrops)] (s : State) (hwf : At k v s) :
    At k v (sendHealth s) := by
  simp (maxDischargeDepth := 30) [sendHealth, *]

@[simp] theorem healthDue_at [Away (¬k = Obj.tjC)] [Away (¬k = Obj.txDrops)] (s : State) (hwf : At k v s) :
    At k v (healthDue s) := by
  simp (maxDischargeDepth := 30) [healthDue, *]

theorem execHealthPeriod_at [Away (¬k = Obj.tjC)] [Away (¬k = Obj.txDrops)] (s : State) (hwf : At k v s) :
    outAt k v (execHealthPeriod s) := by
  simp (maxDischargeDepth := 30) [execHealthPeriod, *]

theorem execHealthDeferred_at [Away (¬k = Obj.tjC)] [Away (¬k = Obj.txDrops)] (s : State) (hwf : At k v s) :
    outAt k v (execHealthDeferred s) := by
  simp (maxDischargeDepth := 30) [execHealthDeferred, *]

theorem execGirthHealth_at [Away (¬k = Obj.crcErrors)] [Away (¬k = Obj.poisoned)] (h : GirthHeader) (payload : List Byte) (s : State) (hwf : At k v s) :
    outAt k v (execGirthHealth h payload s) := by
  unfold execGirthHealth
  repeat' split
  all_goals simp_all (maxDischargeDepth := 30)

@[simp] theorem applyRole_at [Away (¬k = Obj.assignedPhase)] [Away (¬k = Obj.degraded)] [Away (¬k = Obj.epochOffset)] [Away (¬k = Obj.girthState)] [Away (¬k = Obj.hop)] [Away (¬k = Obj.masterTag)] [Away (¬k = Obj.ringSize)] (s : State) (hwf : At k v s) :
    At k v (applyRole s) := by
  simp only [applyRole]
  repeat' split
  all_goals simp (maxDischargeDepth := 30) [*]

@[simp] theorem sendSync_at [Away (¬k = Obj.txDrops)] (s : State) (hwf : At k v s) :
    At k v (sendSync s) := by
  simp (maxDischargeDepth := 30) [sendSync, *]

theorem execSyncPeriod_at [Away (¬k = Obj.assignedPhase)] [Away (¬k = Obj.degraded)] [Away (¬k = Obj.epochOffset)] [Away (¬k = Obj.girthState)] [Away (¬k = Obj.hop)] [Away (¬k = Obj.masterTag)] [Away (¬k = Obj.ringSize)] [Away (¬k = Obj.tjC)] [Away (¬k = Obj.txDrops)] (s : State) (hwf : At k v s) :
    outAt k v (execSyncPeriod s) := by
  have := ‹Away (¬k = Obj.ringSize)›.out
  simp (maxDischargeDepth := 30) [execSyncPeriod, *]

theorem execPhasePeriod_at [Away (¬k = Obj.assignedPhase)] [Away (¬k = Obj.txDrops)] (s : State) (hwf : At k v s) :
    outAt k v (execPhasePeriod s) := by
  simp (maxDischargeDepth := 30) [execPhasePeriod, *]

theorem execGirthPhase_at [Away (¬k = Obj.assignedPhase)] [Away (¬k = Obj.crcErrors)] [Away (¬k = Obj.poisoned)] (h : GirthHeader) (rpm : ℕ) (group : ℕ) (s : State) (hwf : At k v s) :
    outAt k v (execGirthPhase h rpm group s) := by
  unfold execGirthPhase
  repeat' split
  all_goals simp_all (maxDischargeDepth := 30)

@[simp] theorem newSecond_at (s : State) (hwf : At k v s) :
    At k v (newSecond s) := by
  simp (maxDischargeDepth := 30) [newSecond, *]

@[simp] theorem sendSeek_at [Away (¬k = Obj.txDrops)] (s : State) (payload : ℕ) (hwf : At k v s) :
    At k v (sendSeek s payload) := by
  simp (maxDischargeDepth := 30) [sendSeek, *]

@[simp] theorem announceNow_at [Away (¬k = Obj.txDrops)] (s : State) (b : List Byte) (hwf : At k v s) :
    At k v (announceNow s b).2 := by
  simp only [announceNow]
  repeat' split
  all_goals simp (maxDischargeDepth := 30) [*]

theorem execSeekCancel_at [Away (¬k = Obj.txDrops)] (a : Fin 4) (s : State) (hwf : At k v s) :
    outAt k v (execSeekCancel a s) := by
  simp only [execSeekCancel]
  split <;> simp (maxDischargeDepth := 30) [*]

@[simp] theorem deliverSeek_at [Away (¬k = Obj.seeksHeard)] [Away (¬k = Obj.seeksIgnored)] (s : State) (h : GirthHeader) (startTick : ℕ) (profile : ℕ) (act : ℕ) (d : ℤ) (set : ℕ) (hwf : At k v s) :
    At k v (deliverSeek s h startTick profile act d set) := by
  have := ‹Away (¬k = Obj.seeksHeard)›.out
  have := ‹Away (¬k = Obj.seeksIgnored)›.out
  simp (maxDischargeDepth := 30) [deliverSeek, *]

theorem execGirthSeek_at [Away (¬k = Obj.crcErrors)] [Away (¬k = Obj.poisoned)] [Away (¬k = Obj.seeksHeard)] [Away (¬k = Obj.seeksIgnored)] (h : GirthHeader) (startTick : ℕ) (profile : ℕ) (act : Fin 4) (d : ℤ) (profileSet : ℕ) (s : State) (hwf : At k v s) :
    outAt k v (execGirthSeek h startTick profile act d profileSet s) := by
  unfold execGirthSeek
  repeat' split
  all_goals simp_all (maxDischargeDepth := 30)

@[simp] theorem setFfGain_at [Away (∀ a, ¬k = Obj.ffGain a)] (s : State) (r : ℕ) (n : ℕ) (hwf : At k v s) :
    At k v (setFfGain s r n) := by
  have := ‹Away (∀ a, ¬k = Obj.ffGain a)›.out
  simp (maxDischargeDepth := 30) [setFfGain, *]

@[simp] theorem trimGain_at [Away (∀ a, ¬k = Obj.ffGain a)] (s : State) (x : Announcement) (r : ℕ) (hwf : At k v s) :
    At k v (trimGain s x r) := by
  simp (maxDischargeDepth := 30) [trimGain, *]

theorem execAnnouncementEnd_at [Away (∀ a, ¬k = Obj.ffGain a)] (id : ℕ) (s : State) (hwf : At k v s) :
    outAt k v (execAnnouncementEnd id s) := by
  unfold execAnnouncementEnd
  repeat' split
  all_goals simp_all (maxDischargeDepth := 30)

@[simp] theorem sendDict_at [Away (¬k = Obj.txDrops)] (s : State) (payload : ℕ) (hwf : At k v s) :
    At k v (sendDict s payload) := by
  simp (maxDischargeDepth := 30) [sendDict, *]

@[simp] theorem dictRequestNow_at [Away (¬k = Obj.dictResponse)] [Away (¬k = Obj.txDrops)] (s : State) (b : List Byte) (hwf : At k v s) :
    At k v (dictRequestNow s b).2 := by
  have := ‹Away (¬k = Obj.dictResponse)›.out
  simp only [dictRequestNow]
  split <;> simp (maxDischargeDepth := 30) [*]

theorem execDictRequestTimeout_at [Away (¬k = Obj.dictResponse)] (s : State) (hwf : At k v s) :
    outAt k v (execDictRequestTimeout s) := by
  have := ‹Away (¬k = Obj.dictResponse)›.out
  simp only [execDictRequestTimeout]
  split <;> simp (maxDischargeDepth := 30) [*]

theorem execGirthDictResponse_at [Away (¬k = Obj.crcErrors)] [Away (¬k = Obj.dictResponse)] [Away (¬k = Obj.poisoned)] (h : GirthHeader) (target : ℕ) (tag : ℕ) (index : ℕ) (sub : ℕ) (status : ℕ) (value : ℕ) (s : State) (hwf : At k v s) :
    outAt k v (execGirthDictResponse h target tag index sub status value s) := by
  have := ‹Away (¬k = Obj.dictResponse)›.out
  unfold execGirthDictResponse
  repeat' split
  all_goals simp_all (maxDischargeDepth := 30)

end Sys2Proof.Machine
end

