-- ==== Sys2Proof/Laws/AtLayoutCore.lean ====
section
/-! SUPPORT. The objects that every operation of Machine/LayoutCore.lean can write. -/

namespace Sys2Proof.Machine

variable {k : Key} {v : Val}

@[simp] theorem countLayout_at [Away (¬k = Obj.chunksToRebuild)] [Away (¬k = Obj.criticalStripes)] [Away (¬k = Obj.degradedStripes)] [Away (¬k = Obj.lostEntries)] [Away (¬k = Obj.lostMerges)] [Away (¬k = Obj.rebuildState)] [Away (¬k = Obj.remapCrowded)] [Away (¬k = Obj.remapEntries)] [Away (¬k = Obj.stripesUsed)] [Away (¬k = Obj.substCrowded)] (s : State) (hwf : At k v s) :
    At k v (countLayout s) := by
  have := ‹Away (¬k = Obj.chunksToRebuild)›.out
  have := ‹Away (¬k = Obj.criticalStripes)›.out
  have := ‹Away (¬k = Obj.degradedStripes)›.out
  have := ‹Away (¬k = Obj.lostEntries)›.out
  have := ‹Away (¬k = Obj.lostMerges)›.out
  have := ‹Away (¬k = Obj.rebuildState)›.out
  have := ‹Away (¬k = Obj.remapCrowded)›.out
  have := ‹Away (¬k = Obj.remapEntries)›.out
  have := ‹Away (¬k = Obj.stripesUsed)›.out
  have := ‹Away (¬k = Obj.substCrowded)›.out
  simp (maxDischargeDepth := 30) [countLayout, *]

@[simp] theorem layoutChanged_at [Away (¬k = Obj.chunksToRebuild)] [Away (¬k = Obj.criticalStripes)] [Away (¬k = Obj.degradedStripes)] [Away (¬k = Obj.lostEntries)] [Away (¬k = Obj.lostMerges)] [Away (¬k = Obj.rebuildState)] [Away (¬k = Obj.remapCrowded)] [Away (¬k = Obj.remapEntries)] [Away (¬k = Obj.stripesUsed)] [Away (¬k = Obj.substCrowded)] (s : State) (hwf : At k v s) :
    At k v (layoutChanged s) := by
  simp (maxDischargeDepth := 30) [layoutChanged, *]

@[simp] theorem offerSector_at (s : State) (u : ℕ) (track : ℕ) (p : ℕ) (hwf : At k v s) :
    At k v (offerSector s u track p) := by
  simp only [offerSector]
  split <;> simp (maxDischargeDepth := 30) [*]

@[simp] theorem bandWrite_at (s : State) (u : ℕ) (track : ℕ) (data : List Byte) (hwf : At k v s) :
    At k v (bandWrite s u track data) := by
  unfold bandWrite
  repeat' split
  all_goals simp_all (maxDischargeDepth := 30)

@[simp] theorem writeLabel_at (s : State) (u : ℕ) (f : Label → Label) (hwf : At k v s) :
    At k v (writeLabel s u f) := by
  simp (maxDischargeDepth := 30) [writeLabel, *]

@[simp] theorem areaWrite_at (s : State) (u : ℕ) (area : ℕ) (data : List Byte) (hwf : At k v s) :
    At k v (areaWrite s u area data) := by
  simp only [areaWrite]
  split <;> simp (maxDischargeDepth := 30) [*]

@[simp] theorem writeGrown_at (s : State) (u : ℕ) (hwf : At k v s) :
    At k v (writeGrown s u) := by
  unfold writeGrown
  repeat' split
  all_goals simp_all (maxDischargeDepth := 30)

@[simp] theorem moveArea_at (s : State) (u : ℕ) (area : ℕ) (hwf : At k v s) :
    At k v (moveArea s u area) := by
  simp only [moveArea]
  repeat' split
  all_goals simp (maxDischargeDepth := 30) [*]

@[simp] theorem mirrorPage_at (s : State) (n : ℕ) (data : List Byte) (hwf : At k v s) :
    At k v (mirrorPage s n data) := by
  unfold mirrorPage
  dsimp only
  refine State.each_at (by simp [*]) fun t u ht => ?_
  split <;> simp [*]

@[simp] theorem mirrorPages_at (s : State) (base : ℕ) (i : ℕ) (data : List Byte) (hwf : At k v s) :
    At k v (mirrorPages s base i data) := by
  unfold mirrorPages
  repeat' split
  all_goals simp_all (maxDischargeDepth := 30)

@[simp] theorem mirrorIntent_at (s : State) (n : ℕ) (hwf : At k v s) :
    At k v (mirrorIntent s n) := by
  simp (maxDischargeDepth := 30) [mirrorIntent, *]

@[simp] theorem mirrorAlloc_at (s : State) (n : ℕ) (hwf : At k v s) :
    At k v (mirrorAlloc s n) := by
  simp (maxDischargeDepth := 30) [mirrorAlloc, *]

@[simp] theorem bandCopy_at (s : State) (hwf : At k v s) :
    At k v (bandCopy s) := by
  unfold bandCopy
  repeat' split
  all_goals simp_all (maxDischargeDepth := 30)

@[simp] theorem countDirty_at [Away (¬k = Obj.cacheDirtyKib)] (s : State) (hwf : At k v s) :
    At k v (countDirty s) := by
  have := ‹Away (¬k = Obj.cacheDirtyKib)›.out
  simp (maxDischargeDepth := 30) [countDirty, *]

@[simp] theorem putCache_at [Away (¬k = Obj.cacheDirtyKib)] (s : State) (k1 : ℕ) (c : CacheSlot) (hwf : At k v s) :
    At k v (putCache s k1 c) := by
  simp (maxDischargeDepth := 30) [putCache, *]

@[simp] theorem setCacheState_at [Away (¬k = Obj.cacheDirtyKib)] (s : State) (p : ℕ × CacheSlot → Bool) (st : ℕ) (hwf : At k v s) :
    At k v (setCacheState s p st) := by
  simp (maxDischargeDepth := 30) [setCacheState, *]

@[simp] theorem dropCached_at [Away (¬k = Obj.cacheDirtyKib)] (s : State) (p : ℕ → Bool) (hwf : At k v s) :
    At k v (dropCached s p) := by
  simp (maxDischargeDepth := 30) [dropCached, *]

@[simp] theorem makeRoom_at (s : State) (n : ℕ) (hwf : At k v s) :
    At k v (makeRoom s n) := by
  simp only [makeRoom]
  repeat' split
  all_goals simp (maxDischargeDepth := 30) [*]

@[simp] theorem lostChanged_at [Away (¬k = Obj.chunksToRebuild)] [Away (¬k = Obj.criticalStripes)] [Away (¬k = Obj.degradedStripes)] [Away (¬k = Obj.lostEntries)] [Away (¬k = Obj.lostMerges)] [Away (¬k = Obj.rebuildState)] [Away (¬k = Obj.remapCrowded)] [Away (¬k = Obj.remapEntries)] [Away (¬k = Obj.stripesUsed)] [Away (¬k = Obj.substCrowded)] (s : State) (hwf : At k v s) :
    At k v (lostChanged s) := by
  simp (maxDischargeDepth := 30) [lostChanged, *]

@[simp] theorem addLost_at [Away (¬k = Obj.chunksToRebuild)] [Away (∀ a, ¬k = Obj.commands a)] [Away (¬k = Obj.criticalStripes)] [Away (¬k = Obj.degradedStripes)] [Away (∀ a, ¬k = Obj.ioSlotsHeld a)] [Away (¬k = Obj.lockInUse)] [Away (¬k = Obj.lostEntries)] [Away (¬k = Obj.lostMerges)] [Away (¬k = Obj.rebuildState)] [Away (¬k = Obj.remapCrowded)] [Away (¬k = Obj.remapEntries)] [Away (¬k = Obj.slotsInUse)] [Away (¬k = Obj.stripesUsed)] [Away (¬k = Obj.substCrowded)] (s : State) (x : Lost) (hwf : At k v s) :
    At k v (addLost s x) := by
  simp (maxDischargeDepth := 30) [addLost, *]

@[simp] theorem clearLost_at [Away (¬k = Obj.chunksToRebuild)] [Away (¬k = Obj.criticalStripes)] [Away (¬k = Obj.degradedStripes)] [Away (¬k = Obj.lostEntries)] [Away (¬k = Obj.lostMerges)] [Away (¬k = Obj.rebuildState)] [Away (¬k = Obj.remapCrowded)] [Away (¬k = Obj.remapEntries)] [Away (¬k = Obj.stripesUsed)] [Away (¬k = Obj.substCrowded)] (s : State) (nsid : ℕ) (lba : ℕ) (n : ℕ) (hwf : At k v s) :
    At k v (clearLost s nsid lba n) := by
  simp (maxDischargeDepth := 30) [clearLost, *]

@[simp] theorem setIntent_at [Away (¬k = Obj.wiDirtyGroups)] (s : State) (g : ℕ) (hwf : At k v s) :
    At k v (setIntent s g) := by
  have := ‹Away (¬k = Obj.wiDirtyGroups)›.out
  simp (maxDischargeDepth := 30) [setIntent, *]

@[simp] theorem setAllocated_at (s : State) (g : ℕ) (hwf : At k v s) :
    At k v (setAllocated s g) := by
  simp (maxDischargeDepth := 30) [setAllocated, *]

@[simp] theorem clearAllocated_at (s : State) (g : ℕ) (hwf : At k v s) :
    At k v (clearAllocated s g) := by
  simp (maxDischargeDepth := 30) [clearAllocated, *]

@[simp] theorem nextGen_at [Away (¬k = Obj.stripeGen)] (s : State) (hwf : At k v s) :
    At k v (nextGen s).2 := by
  have := ‹Away (¬k = Obj.stripeGen)›.out
  simp (maxDischargeDepth := 30) [nextGen, *]

@[simp] theorem countJournal_at [Away (¬k = Obj.journalFree)] [Away (¬k = Obj.journalOpen)] [Away (¬k = Obj.replayPending)] (s : State) (hwf : At k v s) :
    At k v (countJournal s) := by
  have := ‹Away (¬k = Obj.journalFree)›.out
  have := ‹Away (¬k = Obj.journalOpen)›.out
  have := ‹Away (¬k = Obj.replayPending)›.out
  simp (maxDischargeDepth := 30) [countJournal, *]

@[simp] theorem countUpdate_at [Away (¬k = Obj.updates)] (s : State) (method : ℕ) (hwf : At k v s) :
    At k v (countUpdate s method) := by
  have := ‹Away (¬k = Obj.updates)›.out
  simp (maxDischargeDepth := 30) [countUpdate, *]

@[simp] theorem openEntry_at [Away (¬k = Obj.journalFree)] [Away (¬k = Obj.journalOpen)] [Away (¬k = Obj.replayPending)] [Away (¬k = Obj.updates)] [Away (¬k = Obj.wiDirtyGroups)] (s : State) (e : JournalEntry) (hwf : At k v s) :
    At k v (openEntry s e) := by
  simp (maxDischargeDepth := 30) [openEntry, *]

end Sys2Proof.Machine
end

