-- ==== Sys2Proof/Laws/AtRestart.lean ====
section
/-! SUPPORT. The objects that every operation of Machine/Restart.lean can write. -/

namespace Sys2Proof.Machine

variable {k : Key} {v : Val}

@[simp] theorem leaveSafe_at [Away (∀ a, ¬k = Obj.badClauses a)] [Away (∀ a b, ¬k = Obj.clipCount a b)] [Away (∀ a, ¬k = Obj.driveState a)] [Away (∀ a, ¬k = Obj.incompleteCount a)] [Away (∀ a, ¬k = Obj.ioSlotsHeld a)] [Away (∀ a, ¬k = Obj.linkSpeed a)] [Away (∀ a, ¬k = Obj.linkWidth a)] [Away (∀ a, ¬k = Obj.loadState a)] [Away (¬k = Obj.lockInUse)] [Away (∀ a, ¬k = Obj.objFaults a)] [Away (∀ a b, ¬k = Obj.offsetRailCount a b)] [Away (∀ a, ¬k = Obj.retracts a)] [Away (∀ a, ¬k = Obj.sentences a)] [Away (∀ a, ¬k = Obj.settleMisses a)] [Away (¬k = Obj.slotsInUse)] [Away (∀ a, ¬k = Obj.sm1CorrectedCount a)] [Away (∀ a b, ¬k = Obj.stuckCount a b)] [Away (∀ a, ¬k = Obj.timedCount a)] [Away (∀ a, ¬k = Obj.underruns a)] [Away (∀ a, ¬k = Obj.windowEnds a)] [Away (¬k = Obj.writebacks)] [Away (∀ a, ¬k = Obj.writeUnsafeCount a)] (s : State) (maintenance : Bool) (hwf : At k v s) :
    At k v (leaveSafe s maintenance) := by
  simp (maxDischargeDepth := 30) [leaveSafe, *]

end Sys2Proof.Machine
end

