-- ==== Sys2Proof/Laws/AtHostIo.lean ====
section
/-! SUPPORT. The objects that every operation of Machine/HostIo.lean can write. -/

namespace Sys2Proof.Machine

variable {k : Key} {v : Val}

@[simp] theorem wakeDrive_at [Away (¬k = Obj.atSpeed)] [Away (∀ a, ¬k = Obj.driveState a)] [Away (¬k = Obj.phaseLocked)] [Away (∀ a, ¬k = Obj.retracts a)] [Away (¬k = Obj.spinMode)] [Away (¬k = Obj.spinups)] [Away (¬k = Obj.targetRpm)] (s : State) (from4 : Bool) (hwf : At k v s) :
    At k v (wakeDrive s from4) := by
  unfold wakeDrive
  repeat' split
  all_goals simp_all (maxDischargeDepth := 30)

@[simp] theorem reportPower_at [Away (¬k = Obj.effectiveState)] [Away (¬k = Obj.powerState)] (s : State) (n : ℕ) (hwf : At k v s) :
    At k v (reportPower s n) := by
  have := ‹Away (¬k = Obj.powerState)›.out
  simp (maxDischargeDepth := 30) [reportPower, *]

@[simp] theorem mediaWake_at [Away (¬k = Obj.atSpeed)] [Away (∀ a, ¬k = Obj.driveState a)] [Away (¬k = Obj.mediaWakes)] [Away (¬k = Obj.phaseLocked)] [Away (∀ a, ¬k = Obj.retracts a)] [Away (¬k = Obj.spinMode)] [Away (¬k = Obj.spinups)] [Away (¬k = Obj.targetRpm)] (s : State) (hwf : At k v s) :
    At k v (mediaWake s) := by
  have := ‹Away (¬k = Obj.mediaWakes)›.out
  simp (maxDischargeDepth := 30) [mediaWake, *]

@[simp] theorem mediaGate_at [Away (¬k = Obj.atSpeed)] [Away (∀ a, ¬k = Obj.driveState a)] [Away (¬k = Obj.mediaWakes)] [Away (¬k = Obj.phaseLocked)] [Away (∀ a, ¬k = Obj.retracts a)] [Away (¬k = Obj.spinMode)] [Away (¬k = Obj.spinups)] [Away (¬k = Obj.targetRpm)] (s : State) (hwf : At k v s) :
    optAt k v (mediaGate s) := by
  simp only [mediaGate]
  repeat' split
  all_goals simp (maxDischargeDepth := 30) [*]

@[simp] theorem wakeFrom4_at [Away (¬k = Obj.atSpeed)] [Away (∀ a, ¬k = Obj.driveState a)] [Away (¬k = Obj.effectiveState)] [Away (¬k = Obj.phaseLocked)] [Away (¬k = Obj.powerState)] [Away (∀ a, ¬k = Obj.retracts a)] [Away (¬k = Obj.spinMode)] [Away (¬k = Obj.spinups)] [Away (¬k = Obj.targetRpm)] (s : State) (hwf : At k v s) :
    At k v (wakeFrom4 s) := by
  simp (maxDischargeDepth := 30) [wakeFrom4, *]

@[simp] theorem coverFlush_at (s : State) (n : ℕ) (hwf : At k v s) :
    At k v (coverFlush s n) := by
  simp only [coverFlush]
  split <;> simp (maxDischargeDepth := 30) [*]

@[simp] theorem finishMedium_at [Away (∀ a, ¬k = Obj.commands a)] [Away (¬k = Obj.flushes)] [Away (¬k = Obj.fuaWrites)] [Away (∀ a, ¬k = Obj.ioSlotsHeld a)] [Away (¬k = Obj.lockInUse)] [Away (¬k = Obj.lockStallMaxUs)] [Away (¬k = Obj.slotsInUse)] (s : State) (n : ℕ) (hwf : At k v s) :
    At k v (finishMedium s n) := by
  have := ‹Away (¬k = Obj.flushes)›.out
  have := ‹Away (¬k = Obj.fuaWrites)›.out
  simp only [finishMedium]
  split <;> simp (maxDischargeDepth := 30) [*]

@[simp] theorem settleMedium_at [Away (∀ a, ¬k = Obj.commands a)] [Away (¬k = Obj.flushes)] [Away (¬k = Obj.fuaWrites)] [Away (∀ a, ¬k = Obj.ioSlotsHeld a)] [Away (¬k = Obj.lockInUse)] [Away (¬k = Obj.lockStallMaxUs)] [Away (¬k = Obj.slotsInUse)] (s : State) (hwf : At k v s) :
    At k v (settleMedium s) := by
  unfold settleMedium
  repeat' split
  all_goals simp_all (maxDischargeDepth := 30)

@[simp] theorem blocksOnMedium_at [Away (∀ a, ¬k = Obj.commands a)] [Away (¬k = Obj.flushes)] [Away (¬k = Obj.fuaWrites)] [Away (∀ a, ¬k = Obj.ioSlotsHeld a)] [Away (¬k = Obj.lockInUse)] [Away (¬k = Obj.lockStallMaxUs)] [Away (¬k = Obj.slotsInUse)] (s : State) (done : List (ℕ × ℕ)) (hwf : At k v s) :
    At k v (blocksOnMedium s done) := by
  simp (maxDischargeDepth := 30) [blocksOnMedium, *]

@[simp] theorem blocksDropped_at [Away (∀ a, ¬k = Obj.commands a)] [Away (¬k = Obj.flushes)] [Away (¬k = Obj.fuaWrites)] [Away (∀ a, ¬k = Obj.ioSlotsHeld a)] [Away (¬k = Obj.lockInUse)] [Away (¬k = Obj.lockStallMaxUs)] [Away (¬k = Obj.slotsInUse)] (s : State) (dbas : List ℕ) (hwf : At k v s) :
    At k v (blocksDropped s dbas) := by
  simp (maxDischargeDepth := 30) [blocksDropped, *]

@[simp] theorem settleShutdown_at [Away (∀ a, ¬k = Obj.driveState a)] [Away (∀ a, ¬k = Obj.retracts a)] (s : State) (p : Port) (hwf : At k v s) :
    At k v (settleShutdown s p) := by
  simp (maxDischargeDepth := 30) [settleShutdown, *]

@[simp] theorem settleShutdowns_at [Away (∀ a, ¬k = Obj.driveState a)] [Away (∀ a, ¬k = Obj.retracts a)] (s : State) (hwf : At k v s) :
    At k v (settleShutdowns s) := by
  simp (maxDischargeDepth := 30) [settleShutdowns, *]

@[simp] theorem slotTaken_at (s : State) (p : Port) (hwf : At k v s) :
    At k v (slotTaken s p) := by
  simp (maxDischargeDepth := 30) [slotTaken, *]

@[simp] theorem advanceSq_at (s : State) (p : Port) (qid : ℕ) (q : Sq) (hwf : At k v s) :
    At k v (advanceSq s p qid q) := by
  simp (maxDischargeDepth := 30) [advanceSq, *]

@[simp] theorem nextAdmission_at [Away (¬k = Obj.admissionSeq)] (s : State) (hwf : At k v s) :
    At k v (nextAdmission s).2 := by
  have := ‹Away (¬k = Obj.admissionSeq)›.out
  simp (maxDischargeDepth := 30) [nextAdmission, *]

@[simp] theorem admitAer_at [Away (¬k = Obj.admissionSeq)] [Away (∀ a, ¬k = Obj.commands a)] [Away (∀ a, ¬k = Obj.ioSlotsHeld a)] [Away (¬k = Obj.lockInUse)] [Away (¬k = Obj.slotsInUse)] (s : State) (p : Port) (cid : ℕ) (hwf : At k v s) :
    At k v (admitAer s p cid) := by
  simp (maxDischargeDepth := 30) [admitAer, *]

@[simp] theorem fetchCommand_at [Away (¬k = Obj.admissionSeq)] [Away (¬k = Obj.atSpeed)] [Away (∀ a, ¬k = Obj.commands a)] [Away (∀ a, ¬k = Obj.driveState a)] [Away (¬k = Obj.effectiveState)] [Away (∀ a, ¬k = Obj.ioSlotsHeld a)] [Away (¬k = Obj.lockInUse)] [Away (¬k = Obj.lockStallMaxUs)] [Away (¬k = Obj.lockStalls)] [Away (¬k = Obj.phaseLocked)] [Away (¬k = Obj.powerState)] [Away (∀ a, ¬k = Obj.retracts a)] [Away (¬k = Obj.slotsInUse)] [Away (¬k = Obj.slotWaits)] [Away (¬k = Obj.spinMode)] [Away (¬k = Obj.spinups)] [Away (¬k = Obj.targetRpm)] (s : State) (p : Port) (qid : ℕ) (cmd : SqEntry) (hwf : At k v s) :
    At k v (fetchCommand s p qid cmd) := by
  have := ‹Away (¬k = Obj.lockStalls)›.out
  have := ‹Away (¬k = Obj.slotWaits)›.out
  simp only [fetchCommand]
  split <;> simp (maxDischargeDepth := 30) [*]

theorem execCommandFetch_at [Away (¬k = Obj.admissionSeq)] [Away (¬k = Obj.atSpeed)] [Away (∀ a, ¬k = Obj.commands a)] [Away (∀ a, ¬k = Obj.driveState a)] [Away (¬k = Obj.effectiveState)] [Away (∀ a, ¬k = Obj.ioSlotsHeld a)] [Away (¬k = Obj.lockInUse)] [Away (¬k = Obj.lockStallMaxUs)] [Away (¬k = Obj.lockStalls)] [Away (¬k = Obj.phaseLocked)] [Away (¬k = Obj.powerState)] [Away (∀ a, ¬k = Obj.retracts a)] [Away (¬k = Obj.slotsInUse)] [Away (¬k = Obj.slotWaits)] [Away (¬k = Obj.spinMode)] [Away (¬k = Obj.spinups)] [Away (¬k = Obj.targetRpm)] (p : Port) (qid : ℕ) (cmd : SqEntry) (s : State) (hwf : At k v s) :
    outAt k v (execCommandFetch p qid cmd s) := by
  simp (maxDischargeDepth := 30) [execCommandFetch, *]

theorem execAsyncEventRequest_at [Away (¬k = Obj.admissionSeq)] [Away (¬k = Obj.atSpeed)] [Away (∀ a, ¬k = Obj.commands a)] [Away (∀ a, ¬k = Obj.driveState a)] [Away (¬k = Obj.effectiveState)] [Away (∀ a, ¬k = Obj.ioSlotsHeld a)] [Away (¬k = Obj.lockInUse)] [Away (¬k = Obj.lockStallMaxUs)] [Away (¬k = Obj.lockStalls)] [Away (¬k = Obj.phaseLocked)] [Away (¬k = Obj.powerState)] [Away (∀ a, ¬k = Obj.retracts a)] [Away (¬k = Obj.slotsInUse)] [Away (¬k = Obj.slotWaits)] [Away (¬k = Obj.spinMode)] [Away (¬k = Obj.spinups)] [Away (¬k = Obj.targetRpm)] (p : Port) (cid : ℕ) (s : State) (hwf : At k v s) :
    outAt k v (execAsyncEventRequest p cid s) := by
  simp (maxDischargeDepth := 30) [execAsyncEventRequest, *]

theorem execSqDoorbell_at (p : Port) (qid : ℕ) (tail : ℕ) (s : State) (hwf : At k v s) :
    outAt k v (execSqDoorbell p qid tail s) := by
  simp only [execSqDoorbell]
  split <;> simp (maxDischargeDepth := 30) [*]

@[simp] theorem postWaiting_at [Away (∀ a, ¬k = Obj.commands a)] [Away (∀ a, ¬k = Obj.ioSlotsHeld a)] [Away (¬k = Obj.lockInUse)] [Away (¬k = Obj.slotsInUse)] (fuel : Nat) (s : State) (p : Port) (qid : Nat) (h : At k v s) : At k v (postWaiting fuel s p qid) := by
  induction fuel generalizing s with
  | zero => simpa [postWaiting] using h
  | succ n ih =>
    simp only [postWaiting]
    repeat' first | (simp +contextual (maxDischargeDepth := 30) [*]; done) | split

theorem execCqHeadDoorbell_at [Away (∀ a, ¬k = Obj.commands a)] [Away (∀ a, ¬k = Obj.driveState a)] [Away (∀ a, ¬k = Obj.ioSlotsHeld a)] [Away (¬k = Obj.lockInUse)] [Away (∀ a, ¬k = Obj.retracts a)] [Away (¬k = Obj.slotsInUse)] (p : Port) (qid : ℕ) (head : ℕ) (s : State) (hwf : At k v s) :
    outAt k v (execCqHeadDoorbell p qid head s) := by
  simp only [execCqHeadDoorbell]
  split <;> simp (maxDischargeDepth := 30) [*]

@[simp] theorem endIo_at [Away (∀ a, ¬k = Obj.commands a)] [Away (∀ a, ¬k = Obj.driveState a)] [Away (¬k = Obj.flushes)] [Away (¬k = Obj.fuaWrites)] [Away (∀ a, ¬k = Obj.ioSlotsHeld a)] [Away (¬k = Obj.lockInUse)] [Away (¬k = Obj.lockStallMaxUs)] [Away (∀ a, ¬k = Obj.retracts a)] [Away (¬k = Obj.slotsInUse)] (s : State) (n : ℕ) (st : ℕ × ℕ) (hwf : At k v s) :
    At k v (endIo s n st) := by
  simp (maxDischargeDepth := 30) [endIo, *]

@[simp] theorem admitBlock_at [Away (¬k = Obj.cacheDirtyKib)] (s : State) (ns : Namespace) (c : CmdSlot) (dba : ℕ) (k1 : ℕ) (payload : List Byte) (hwf : At k v s) :
    At k v (admitBlock s ns c dba k1 payload) := by
  simp (maxDischargeDepth := 30) [admitBlock, *]

@[simp] theorem admitBlocks_at [Away (¬k = Obj.cacheDirtyKib)] (ns : Namespace) (c : CmdSlot) (i : Nat) (l : List HostBlock) (s : State) (h : At k v s) :
    At k v (admitBlocks ns c i l s).2.2 := by
  induction l generalizing i s with
  | nil => simpa [admitBlocks] using h
  | cons b r ih =>
    simp only [admitBlocks]
    repeat' first | (simp +contextual (maxDischargeDepth := 30) [*]; done) | split

theorem execNvmeWrite_at [Away (¬k = Obj.atSpeed)] [Away (¬k = Obj.cacheDirtyKib)] [Away (∀ a, ¬k = Obj.commands a)] [Away (∀ a, ¬k = Obj.driveState a)] [Away (¬k = Obj.flushes)] [Away (¬k = Obj.fuaWrites)] [Away (∀ a, ¬k = Obj.ioSlotsHeld a)] [Away (¬k = Obj.lockInUse)] [Away (¬k = Obj.lockStallMaxUs)] [Away (¬k = Obj.mediaWakes)] [Away (¬k = Obj.phaseLocked)] [Away (∀ a, ¬k = Obj.retracts a)] [Away (¬k = Obj.slotsInUse)] [Away (¬k = Obj.spinMode)] [Away (¬k = Obj.spinups)] [Away (¬k = Obj.targetRpm)] (slot : ℕ) (blocks : List HostBlock) (s : State) (hwf : At k v s) :
    outAt k v (execNvmeWrite slot blocks s) := by
  unfold execNvmeWrite
  dsimp only
  split
  · exact hwf
  · split
    · simp [hwf, *]
    · exact hwf
    · repeat' first | (simp +contextual (maxDischargeDepth := 30) [hwf, *]; done) | split

@[simp] theorem wakeFor_at [Away (¬k = Obj.atSpeed)] [Away (∀ a, ¬k = Obj.driveState a)] [Away (¬k = Obj.mediaWakes)] [Away (¬k = Obj.phaseLocked)] [Away (∀ a, ¬k = Obj.retracts a)] [Away (¬k = Obj.spinMode)] [Away (¬k = Obj.spinups)] [Away (¬k = Obj.targetRpm)] (s : State) (blocks : List (ℕ × ℕ)) (hwf : At k v s) :
    At k v (wakeFor s blocks) := by
  simp (maxDischargeDepth := 30) [wakeFor, *]

theorem execWriteCached_at [Away (¬k = Obj.atSpeed)] [Away (¬k = Obj.chunksToRebuild)] [Away (∀ a, ¬k = Obj.commands a)] [Away (¬k = Obj.criticalStripes)] [Away (¬k = Obj.degradedStripes)] [Away (∀ a, ¬k = Obj.driveState a)] [Away (¬k = Obj.flushes)] [Away (¬k = Obj.fuaWrites)] [Away (∀ a, ¬k = Obj.ioSlotsHeld a)] [Away (¬k = Obj.lockInUse)] [Away (¬k = Obj.lockStallMaxUs)] [Away (¬k = Obj.lostEntries)] [Away (¬k = Obj.lostMerges)] [Away (¬k = Obj.mediaWakes)] [Away (¬k = Obj.phaseLocked)] [Away (¬k = Obj.rebuildState)] [Away (¬k = Obj.remapCrowded)] [Away (¬k = Obj.remapEntries)] [Away (∀ a, ¬k = Obj.retracts a)] [Away (¬k = Obj.slotsInUse)] [Away (¬k = Obj.spinMode)] [Away (¬k = Obj.spinups)] [Away (¬k = Obj.stripesUsed)] [Away (¬k = Obj.substCrowded)] [Away (¬k = Obj.targetRpm)] (slot : ℕ) (s : State) (hwf : At k v s) :
    outAt k v (execWriteCached slot s) := by
  simp only [execWriteCached]
  split <;> simp (maxDischargeDepth := 30) [*]

@[simp] theorem deallocate_at [Away (¬k = Obj.cacheDirtyKib)] [Away (¬k = Obj.chunksToRebuild)] [Away (∀ a, ¬k = Obj.commands a)] [Away (¬k = Obj.criticalStripes)] [Away (¬k = Obj.degradedStripes)] [Away (¬k = Obj.flushes)] [Away (¬k = Obj.fuaWrites)] [Away (∀ a, ¬k = Obj.ioSlotsHeld a)] [Away (¬k = Obj.lockInUse)] [Away (¬k = Obj.lockStallMaxUs)] [Away (¬k = Obj.lostEntries)] [Away (¬k = Obj.lostMerges)] [Away (¬k = Obj.rebuildState)] [Away (¬k = Obj.remapCrowded)] [Away (¬k = Obj.remapEntries)] [Away (¬k = Obj.slotsInUse)] [Away (¬k = Obj.stripesUsed)] [Away (¬k = Obj.substCrowded)] (s : State) (ns : Namespace) (ranges : List (ℕ × ℕ)) (hwf : At k v s) :
    At k v (deallocate s ns ranges) := by
  unfold deallocate
  repeat' split
  all_goals simp_all (maxDischargeDepth := 30)

theorem execDatasetManagement_at [Away (¬k = Obj.cacheDirtyKib)] [Away (¬k = Obj.chunksToRebuild)] [Away (∀ a, ¬k = Obj.commands a)] [Away (¬k = Obj.criticalStripes)] [Away (¬k = Obj.degradedStripes)] [Away (∀ a, ¬k = Obj.driveState a)] [Away (¬k = Obj.flushes)] [Away (¬k = Obj.fuaWrites)] [Away (∀ a, ¬k = Obj.ioSlotsHeld a)] [Away (¬k = Obj.lockInUse)] [Away (¬k = Obj.lockStallMaxUs)] [Away (¬k = Obj.lostEntries)] [Away (¬k = Obj.lostMerges)] [Away (¬k = Obj.rebuildState)] [Away (¬k = Obj.remapCrowded)] [Away (¬k = Obj.remapEntries)] [Away (∀ a, ¬k = Obj.retracts a)] [Away (¬k = Obj.slotsInUse)] [Away (¬k = Obj.stripesUsed)] [Away (¬k = Obj.substCrowded)] (slot : ℕ) (s : State) (hwf : At k v s) :
    outAt k v (execDatasetManagement slot s) := by
  simp only [execDatasetManagement]
  repeat' split
  all_goals simp (maxDischargeDepth := 30) [*]

@[simp] theorem zeroBlocks_at [Away (¬k = Obj.cacheDirtyKib)] (ns : Namespace) (c : CmdSlot) (skip : Nat → Bool) (fuel i : Nat) (s : State) (h : At k v s) :
    At k v (zeroBlocks ns c skip fuel i s).2 := by
  induction fuel generalizing i s with
  | zero => exact h
  | succ n ih =>
    rw [zeroBlocks]
    dsimp only
    split
    · exact ih _ _ h
    · split
      · exact h
      · exact ih _ _ (admitBlock_at _ _ _ _ _ _ h)

theorem execWriteZeroes_at [Away (¬k = Obj.cacheDirtyKib)] [Away (¬k = Obj.chunksToRebuild)] [Away (∀ a, ¬k = Obj.commands a)] [Away (¬k = Obj.criticalStripes)] [Away (¬k = Obj.degradedStripes)] [Away (∀ a, ¬k = Obj.driveState a)] [Away (¬k = Obj.flushes)] [Away (¬k = Obj.fuaWrites)] [Away (∀ a, ¬k = Obj.ioSlotsHeld a)] [Away (¬k = Obj.lockInUse)] [Away (¬k = Obj.lockStallMaxUs)] [Away (¬k = Obj.lostEntries)] [Away (¬k = Obj.lostMerges)] [Away (¬k = Obj.rebuildState)] [Away (¬k = Obj.remapCrowded)] [Away (¬k = Obj.remapEntries)] [Away (∀ a, ¬k = Obj.retracts a)] [Away (¬k = Obj.slotsInUse)] [Away (¬k = Obj.stripesUsed)] [Away (¬k = Obj.substCrowded)] (slot : ℕ) (s : State) (hwf : At k v s) :
    outAt k v (execWriteZeroes slot s) := by
  simp only [execWriteZeroes]
  repeat' split
  all_goals simp (maxDischargeDepth := 30) [*]

@[simp] theorem firstToMedium_at [Away (¬k = Obj.atSpeed)] [Away (∀ a, ¬k = Obj.driveState a)] [Away (¬k = Obj.mediaWakes)] [Away (¬k = Obj.phaseLocked)] [Away (∀ a, ¬k = Obj.retracts a)] [Away (¬k = Obj.spinMode)] [Away (¬k = Obj.spinups)] [Away (¬k = Obj.targetRpm)] (s : State) (n : ℕ) (c : CmdSlot) (hwf : At k v s) :
    optAt k v (firstToMedium s n c) := by
  simp only [firstToMedium]
  split <;> simp (maxDischargeDepth := 30) [*]

@[simp] theorem serveRead_at [Away (¬k = Obj.atSpeed)] [Away (∀ a, ¬k = Obj.commands a)] [Away (∀ a, ¬k = Obj.driveState a)] [Away (¬k = Obj.flushes)] [Away (¬k = Obj.fuaWrites)] [Away (∀ a, ¬k = Obj.ioSlotsHeld a)] [Away (¬k = Obj.lockInUse)] [Away (¬k = Obj.lockStallMaxUs)] [Away (¬k = Obj.mediaWakes)] [Away (¬k = Obj.phaseLocked)] [Away (∀ a, ¬k = Obj.retracts a)] [Away (¬k = Obj.slotsInUse)] [Away (¬k = Obj.spinMode)] [Away (¬k = Obj.spinups)] [Away (¬k = Obj.targetRpm)] (s : State) (n : Nat) (c : CmdSlot) (ns : Namespace) (useCache transfer : Bool) (media : List MediaBlock)
    (h : At k v s) : At k v (serveRead s n c ns useCache transfer media) := by
  have gate : ∀ t, (if touchesMedium s ns c useCache then mediaGate s else none) = some t → At k v t := fun t ht => by
    have := mediaGate_at s h
    split at ht <;> simp_all
  simp only [serveRead]
  split
  · simp [*]
  · split
    · exact gate _ (by assumption)
    · repeat' first | (simp +contextual (maxDischargeDepth := 30) [*]; done) | split

theorem execNvmeRead_at [Away (¬k = Obj.atSpeed)] [Away (∀ a, ¬k = Obj.commands a)] [Away (∀ a, ¬k = Obj.driveState a)] [Away (¬k = Obj.flushes)] [Away (¬k = Obj.fuaWrites)] [Away (∀ a, ¬k = Obj.ioSlotsHeld a)] [Away (¬k = Obj.lockInUse)] [Away (¬k = Obj.lockStallMaxUs)] [Away (¬k = Obj.mediaWakes)] [Away (¬k = Obj.phaseLocked)] [Away (∀ a, ¬k = Obj.retracts a)] [Away (¬k = Obj.slotsInUse)] [Away (¬k = Obj.spinMode)] [Away (¬k = Obj.spinups)] [Away (¬k = Obj.targetRpm)] (slot : ℕ) (media : List MediaBlock) (s : State) (hwf : At k v s) :
    outAt k v (execNvmeRead slot media s) := by
  unfold execNvmeRead
  dsimp only
  split
  · exact hwf
  split
  · exact hwf
  split
  · simp [hwf, *]
  · exact hwf
  rename_i c _ _ _ _ _ _ _
  have first : ∀ t, (if (bit c.cmd.cdw12 30 && s.host.strict) = true then firstToMedium s slot c else none) = some t → At k v t := fun t ht => by
    have := firstToMedium_at s slot c hwf
    split at ht <;> simp_all
  split
  · exact first _ (by assumption)
  · simp [hwf, *]

theorem execNvmeVerify_at [Away (¬k = Obj.atSpeed)] [Away (∀ a, ¬k = Obj.commands a)] [Away (∀ a, ¬k = Obj.driveState a)] [Away (¬k = Obj.flushes)] [Away (¬k = Obj.fuaWrites)] [Away (∀ a, ¬k = Obj.ioSlotsHeld a)] [Away (¬k = Obj.lockInUse)] [Away (¬k = Obj.lockStallMaxUs)] [Away (¬k = Obj.mediaWakes)] [Away (¬k = Obj.phaseLocked)] [Away (∀ a, ¬k = Obj.retracts a)] [Away (¬k = Obj.slotsInUse)] [Away (¬k = Obj.spinMode)] [Away (¬k = Obj.spinups)] [Away (¬k = Obj.targetRpm)] (slot : ℕ) (media : List MediaBlock) (s : State) (hwf : At k v s) :
    outAt k v (execNvmeVerify slot media s) := by
  unfold execNvmeVerify
  split
  · exact hwf
  split
  · simp [hwf, *]
  · exact hwf
  have first := firstToMedium_at s slot ‹CmdSlot› hwf
  split
  · simp_all
  · simp [hwf, *]

theorem execReadTransferred_at [Away (∀ a, ¬k = Obj.commands a)] [Away (∀ a, ¬k = Obj.driveState a)] [Away (¬k = Obj.flushes)] [Away (¬k = Obj.fuaWrites)] [Away (∀ a, ¬k = Obj.ioSlotsHeld a)] [Away (¬k = Obj.lockInUse)] [Away (¬k = Obj.lockStallMaxUs)] [Away (∀ a, ¬k = Obj.retracts a)] [Away (¬k = Obj.slotsInUse)] (slot : ℕ) (s : State) (hwf : At k v s) :
    outAt k v (execReadTransferred slot s) := by
  simp only [execReadTransferred]
  split <;> simp (maxDischargeDepth := 30) [*]

theorem execNvmeFlush_at [Away (¬k = Obj.atSpeed)] [Away (∀ a, ¬k = Obj.commands a)] [Away (∀ a, ¬k = Obj.driveState a)] [Away (¬k = Obj.flushes)] [Away (¬k = Obj.fuaWrites)] [Away (∀ a, ¬k = Obj.ioSlotsHeld a)] [Away (¬k = Obj.lockInUse)] [Away (¬k = Obj.lockStallMaxUs)] [Away (¬k = Obj.mediaWakes)] [Away (¬k = Obj.phaseLocked)] [Away (∀ a, ¬k = Obj.retracts a)] [Away (¬k = Obj.slotsInUse)] [Away (¬k = Obj.spinMode)] [Away (¬k = Obj.spinups)] [Away (¬k = Obj.targetRpm)] (slot : ℕ) (s : State) (hwf : At k v s) :
    outAt k v (execNvmeFlush slot s) := by
  simp only [execNvmeFlush]
  repeat' split
  all_goals simp (maxDischargeDepth := 30) [*]

theorem execTlerExpire_at [Away (∀ a, ¬k = Obj.commands a)] [Away (∀ a, ¬k = Obj.driveState a)] [Away (¬k = Obj.flushes)] [Away (¬k = Obj.fuaWrites)] [Away (∀ a, ¬k = Obj.ioSlotsHeld a)] [Away (¬k = Obj.lockInUse)] [Away (¬k = Obj.lockStallMaxUs)] [Away (∀ a, ¬k = Obj.retracts a)] [Away (¬k = Obj.slotsInUse)] (slot : ℕ) (lba : ℕ) (s : State) (hwf : At k v s) :
    outAt k v (execTlerExpire slot lba s) := by
  simp only [execTlerExpire]
  split <;> simp (maxDischargeDepth := 30) [*]

end Sys2Proof.Machine
end

