-- ==== Sys2Proof/Laws/AtHostAdmin.lean ====
section
/-! SUPPORT. The objects that every operation of Machine/HostAdmin.lean can write. -/

namespace Sys2Proof.Machine

variable {k : Key} {v : Val}

@[simp] theorem endAdmin_at [Away (∀ a, ¬k = Obj.commands a)] [Away (∀ a, ¬k = Obj.driveState a)] [Away (∀ a, ¬k = Obj.ioSlotsHeld a)] [Away (¬k = Obj.lockInUse)] [Away (¬k = Obj.lockStallMaxUs)] [Away (∀ a, ¬k = Obj.retracts a)] [Away (¬k = Obj.slotsInUse)] (s : State) (n : ℕ) (st : ℕ × ℕ) (dw0 : optParam ℕ 0) (dw1 : optParam ℕ 0) (hwf : At k v s) :
    At k v (endAdmin s n st dw0 dw1) := by
  simp (maxDischargeDepth := 30) [endAdmin, *]

@[simp] theorem endData_at [Away (∀ a, ¬k = Obj.commands a)] [Away (∀ a, ¬k = Obj.driveState a)] [Away (∀ a, ¬k = Obj.ioSlotsHeld a)] [Away (¬k = Obj.lockInUse)] [Away (¬k = Obj.lockStallMaxUs)] [Away (∀ a, ¬k = Obj.retracts a)] [Away (¬k = Obj.slotsInUse)] (s : State) (n : ℕ) (c : CmdSlot) (data : List Byte) (hwf : At k v s) :
    At k v (endData s n c data) := by
  simp (maxDischargeDepth := 30) [endData, *]

@[simp] theorem freeData_at (s : State) (len : ℕ) (hwf : At k v s) :
    At k v (freeData s len).2 := by
  simp (maxDischargeDepth := 30) [freeData, *]

@[simp] theorem countQueues_at [Away (∀ a, ¬k = Obj.ioQueues a)] (s : State) (p : Port) (hwf : At k v s) :
    At k v (countQueues s p) := by
  have := ‹Away (∀ a, ¬k = Obj.ioQueues a)›.out
  simp (maxDischargeDepth := 30) [countQueues, *]

theorem execCreateIoCq_at [Away (∀ a, ¬k = Obj.commands a)] [Away (∀ a, ¬k = Obj.driveState a)] [Away (∀ a, ¬k = Obj.ioSlotsHeld a)] [Away (¬k = Obj.lockInUse)] [Away (¬k = Obj.lockStallMaxUs)] [Away (∀ a, ¬k = Obj.retracts a)] [Away (¬k = Obj.slotsInUse)] (slot : ℕ) (s : State) (hwf : At k v s) :
    outAt k v (execCreateIoCq slot s) := by
  simp only [execCreateIoCq]
  split <;> simp (maxDischargeDepth := 30) [*]

theorem execCreateIoSq_at [Away (∀ a, ¬k = Obj.commands a)] [Away (∀ a, ¬k = Obj.driveState a)] [Away (∀ a, ¬k = Obj.ioQueues a)] [Away (∀ a, ¬k = Obj.ioSlotsHeld a)] [Away (¬k = Obj.lockInUse)] [Away (¬k = Obj.lockStallMaxUs)] [Away (∀ a, ¬k = Obj.retracts a)] [Away (¬k = Obj.slotsInUse)] (slot : ℕ) (s : State) (hwf : At k v s) :
    outAt k v (execCreateIoSq slot s) := by
  simp only [execCreateIoSq]
  split <;> simp (maxDischargeDepth := 30) [*]

theorem execDeleteIoSq_at [Away (∀ a, ¬k = Obj.commands a)] [Away (∀ a, ¬k = Obj.driveState a)] [Away (¬k = Obj.flushes)] [Away (¬k = Obj.fuaWrites)] [Away (∀ a, ¬k = Obj.ioQueues a)] [Away (∀ a, ¬k = Obj.ioSlotsHeld a)] [Away (¬k = Obj.lockInUse)] [Away (¬k = Obj.lockStallMaxUs)] [Away (∀ a, ¬k = Obj.retracts a)] [Away (¬k = Obj.slotsInUse)] (slot : ℕ) (s : State) (hwf : At k v s) :
    outAt k v (execDeleteIoSq slot s) := by
  unfold execDeleteIoSq
  repeat' split
  all_goals simp_all (maxDischargeDepth := 30)

theorem execDeleteIoCq_at [Away (∀ a, ¬k = Obj.commands a)] [Away (∀ a, ¬k = Obj.driveState a)] [Away (∀ a, ¬k = Obj.ioSlotsHeld a)] [Away (¬k = Obj.lockInUse)] [Away (¬k = Obj.lockStallMaxUs)] [Away (∀ a, ¬k = Obj.retracts a)] [Away (¬k = Obj.slotsInUse)] (slot : ℕ) (s : State) (hwf : At k v s) :
    outAt k v (execDeleteIoCq slot s) := by
  simp only [execDeleteIoCq]
  split <;> simp (maxDischargeDepth := 30) [*]

@[simp] theorem rotationalLog_at (s : State) (hwf : At k v s) :
    At k v (rotationalLog s).2 := by
  simp (maxDischargeDepth := 30) [rotationalLog, *]

@[simp] theorem effectsLog_at (s : State) (hwf : At k v s) :
    At k v (effectsLog s).2 := by
  simp (maxDischargeDepth := 30) [effectsLog, *]

theorem standardLog_at (s : State) (p : Port) (lid len : Nat) (h : At k v s) (e) (he : standardLog s p lid len = some e) : At k v e.2 := by
  unfold standardLog at he
  split at he <;> cases he <;> simp [h]

@[simp] theorem logTaken_at (s : State) (p : Port) (lid : ℕ) (keep : Bool) (hwf : At k v s) :
    At k v (logTaken s p lid keep) := by
  simp (maxDischargeDepth := 30) [logTaken, *]

@[simp] theorem namespaceChanged_at (s : State) (nsid : ℕ) (ps : List Port) (hwf : At k v s) :
    At k v (namespaceChanged s nsid ps) := by
  unfold namespaceChanged
  repeat' split
  all_goals simp_all (maxDischargeDepth := 30)

theorem execGetLogPage_at [Away (¬k = Obj.chunksToRebuild)] [Away (∀ a, ¬k = Obj.commands a)] [Away (¬k = Obj.criticalStripes)] [Away (¬k = Obj.degradedStripes)] [Away (∀ a, ¬k = Obj.driveState a)] [Away (∀ a, ¬k = Obj.ioSlotsHeld a)] [Away (¬k = Obj.lockInUse)] [Away (¬k = Obj.lockStallMaxUs)] [Away (¬k = Obj.lostEntries)] [Away (¬k = Obj.lostMerges)] [Away (¬k = Obj.rebuildState)] [Away (¬k = Obj.remapCrowded)] [Away (¬k = Obj.remapEntries)] [Away (∀ a, ¬k = Obj.retracts a)] [Away (¬k = Obj.slotsInUse)] [Away (¬k = Obj.stripesUsed)] [Away (¬k = Obj.substCrowded)] (slot : ℕ) (s : State) (hwf : At k v s) :
    outAt k v (execGetLogPage slot s) := by
  unfold execGetLogPage
  split
  · simp [hwf]
  · next c h =>
    dsimp only
    split
    · exact endAdmin_at _ _ _ _ _ hwf
    · split
      · exact endData_at _ _ _ _ hwf
      · split
        · exact endData_at _ _ _ _ hwf
        · split
          · split
            · exact endData_at _ _ _ _ hwf
            · exact endAdmin_at _ _ _ _ _ hwf
          · split
            · next d t e => exact endData_at _ _ _ _ (logTaken_at _ _ _ _ (standardLog_at _ _ _ _ hwf _ e))
            · exact endAdmin_at _ _ _ _ _ hwf

theorem execIdentify_at [Away (∀ a, ¬k = Obj.commands a)] [Away (∀ a, ¬k = Obj.driveState a)] [Away (∀ a, ¬k = Obj.ioSlotsHeld a)] [Away (¬k = Obj.lockInUse)] [Away (¬k = Obj.lockStallMaxUs)] [Away (∀ a, ¬k = Obj.retracts a)] [Away (¬k = Obj.slotsInUse)] (slot : ℕ) (s : State) (hwf : At k v s) :
    outAt k v (execIdentify slot s) := by
  unfold execIdentify
  dsimp only
  repeat' split
  all_goals simp (maxDischargeDepth := 30) only [outAt_next, endData, State.emit_at, endAdmin_at, State.draw_at, freeData, hwf]

theorem execNvmeAbort_at [Away (∀ a, ¬k = Obj.commands a)] [Away (∀ a, ¬k = Obj.driveState a)] [Away (¬k = Obj.flushes)] [Away (¬k = Obj.fuaWrites)] [Away (∀ a, ¬k = Obj.ioSlotsHeld a)] [Away (¬k = Obj.lockInUse)] [Away (¬k = Obj.lockStallMaxUs)] [Away (∀ a, ¬k = Obj.retracts a)] [Away (¬k = Obj.slotsInUse)] (slot : ℕ) (s : State) (hwf : At k v s) :
    outAt k v (execNvmeAbort slot s) := by
  simp only [execNvmeAbort]
  repeat' split
  all_goals simp (maxDischargeDepth := 30) [*]

@[simp] theorem enterPower_at [Away (¬k = Obj.atSpeed)] [Away (∀ a, ¬k = Obj.driveState a)] [Away (¬k = Obj.effectiveState)] [Away (¬k = Obj.phaseLocked)] [Away (¬k = Obj.powerState)] [Away (∀ a, ¬k = Obj.retracts a)] [Away (¬k = Obj.spinMode)] [Away (¬k = Obj.spinups)] [Away (¬k = Obj.targetRpm)] (s : State) (n : ℕ) (hwf : At k v s) :
    At k v (enterPower s n) := by
  simp (maxDischargeDepth := 30) [enterPower, *]

@[simp] theorem requestPower_at [Away (¬k = Obj.atSpeed)] [Away (∀ a, ¬k = Obj.driveState a)] [Away (¬k = Obj.effectiveState)] [Away (¬k = Obj.phaseLocked)] [Away (¬k = Obj.powerState)] [Away (∀ a, ¬k = Obj.retracts a)] [Away (¬k = Obj.spinMode)] [Away (¬k = Obj.spinups)] [Away (¬k = Obj.targetRpm)] (s : State) (n : ℕ) (hwf : At k v s) :
    At k v (requestPower s n) := by
  simp (maxDischargeDepth := 30) [requestPower, *]

@[simp] theorem powerEntered_at (s : State) (hwf : At k v s) :
    At k v (powerEntered s) := by
  simp (maxDischargeDepth := 30) [powerEntered, *]

@[simp] theorem cutEntry_at [Away (¬k = Obj.atSpeed)] [Away (∀ a, ¬k = Obj.driveState a)] [Away (¬k = Obj.effectiveState)] [Away (¬k = Obj.entriesCut)] [Away (¬k = Obj.mediaWakes)] [Away (¬k = Obj.phaseLocked)] [Away (¬k = Obj.powerState)] [Away (∀ a, ¬k = Obj.retracts a)] [Away (¬k = Obj.spinMode)] [Away (¬k = Obj.spinups)] [Away (¬k = Obj.targetRpm)] (s : State) (n : ℕ) (hwf : At k v s) :
    At k v (cutEntry s n) := by
  have := ‹Away (¬k = Obj.entriesCut)›.out
  simp (maxDischargeDepth := 30) [cutEntry, *]

@[simp] theorem toPhase_at (s : State) (i : ℕ) (hwf : At k v s) :
    At k v (toPhase s i) := by
  simp (maxDischargeDepth := 30) [toPhase, *]

@[simp] theorem mirrorPoint_at [Away (¬k = Obj.wiDirtyGroups)] [Away (¬k = Obj.wiLastTick)] (s : State) (hwf : At k v s) :
    At k v (mirrorPoint s) := by
  have := ‹Away (¬k = Obj.wiDirtyGroups)›.out
  have := ‹Away (¬k = Obj.wiLastTick)›.out
  unfold mirrorPoint
  repeat' split
  all_goals simp_all (maxDischargeDepth := 30)

theorem execPowerStateSafePoint_at [Away (¬k = Obj.atSpeed)] [Away (∀ a, ¬k = Obj.driveState a)] [Away (¬k = Obj.effectiveState)] [Away (¬k = Obj.entriesCut)] [Away (¬k = Obj.mediaWakes)] [Away (¬k = Obj.phaseLocked)] [Away (¬k = Obj.powerState)] [Away (∀ a, ¬k = Obj.retracts a)] [Away (¬k = Obj.spinMode)] [Away (¬k = Obj.spinups)] [Away (¬k = Obj.targetRpm)] [Away (¬k = Obj.wiDirtyGroups)] [Away (¬k = Obj.wiLastTick)] (s : State) (hwf : At k v s) :
    outAt k v (execPowerStateSafePoint s) := by
  simp only [execPowerStateSafePoint]
  repeat' split
  all_goals simp (maxDischargeDepth := 30) [*]

theorem execPs3IdleTimeout_at [Away (¬k = Obj.atSpeed)] [Away (∀ a, ¬k = Obj.driveState a)] [Away (¬k = Obj.effectiveState)] [Away (¬k = Obj.phaseLocked)] [Away (¬k = Obj.powerState)] [Away (∀ a, ¬k = Obj.retracts a)] [Away (¬k = Obj.spinMode)] [Away (¬k = Obj.spinups)] [Away (¬k = Obj.targetRpm)] (s : State) (hwf : At k v s) :
    outAt k v (execPs3IdleTimeout s) := by
  simp (maxDischargeDepth := 30) [execPs3IdleTimeout, *]

@[simp] theorem setFeature_at (s : State) (p : Port) (k1 : ℕ) (v1 : ℕ) (hwf : At k v s) :
    At k v (setFeature s p k1 v1) := by
  simp (maxDischargeDepth := 30) [setFeature, *]

@[simp] theorem reservationDone_at [Away (∀ a, ¬k = Obj.commands a)] [Away (∀ a, ¬k = Obj.driveState a)] [Away (¬k = Obj.flushes)] [Away (¬k = Obj.fuaWrites)] [Away (∀ a, ¬k = Obj.ioSlotsHeld a)] [Away (¬k = Obj.lockInUse)] [Away (¬k = Obj.lockStallMaxUs)] [Away (∀ a, ¬k = Obj.retracts a)] [Away (¬k = Obj.slotsInUse)] (s : State) (n : ℕ) (c : CmdSlot) (old : Reservation) (new : Reservation) (hwf : At k v s) :
    At k v (reservationDone s n c old new) := by
  simp (maxDischargeDepth := 30) [reservationDone, *]

@[simp] theorem setFeatureCommand_at [Away (¬k = Obj.atSpeed)] [Away (∀ a, ¬k = Obj.commands a)] [Away (∀ a, ¬k = Obj.driveState a)] [Away (¬k = Obj.effectiveState)] [Away (¬k = Obj.flushes)] [Away (¬k = Obj.fuaWrites)] [Away (∀ a, ¬k = Obj.ioSlotsHeld a)] [Away (¬k = Obj.lockInUse)] [Away (¬k = Obj.lockStallMaxUs)] [Away (¬k = Obj.phaseLocked)] [Away (¬k = Obj.powerState)] [Away (∀ a, ¬k = Obj.retracts a)] [Away (¬k = Obj.slotsInUse)] [Away (¬k = Obj.spinMode)] [Away (¬k = Obj.spinups)] [Away (¬k = Obj.targetRpm)] (s : State) (n : ℕ) (c : CmdSlot) (hwf : At k v s) :
    At k v (setFeatureCommand s n c) := by
  simp only [setFeatureCommand]
  repeat' split
  all_goals simp (maxDischargeDepth := 30) [*]

theorem execSetFeatures_at [Away (¬k = Obj.atSpeed)] [Away (∀ a, ¬k = Obj.commands a)] [Away (∀ a, ¬k = Obj.driveState a)] [Away (¬k = Obj.effectiveState)] [Away (¬k = Obj.flushes)] [Away (¬k = Obj.fuaWrites)] [Away (∀ a, ¬k = Obj.ioSlotsHeld a)] [Away (¬k = Obj.lockInUse)] [Away (¬k = Obj.lockStallMaxUs)] [Away (¬k = Obj.phaseLocked)] [Away (¬k = Obj.powerState)] [Away (∀ a, ¬k = Obj.retracts a)] [Away (¬k = Obj.slotsInUse)] [Away (¬k = Obj.spinMode)] [Away (¬k = Obj.spinups)] [Away (¬k = Obj.targetRpm)] (slot : ℕ) (s : State) (hwf : At k v s) :
    outAt k v (execSetFeatures slot s) := by
  simp only [execSetFeatures]
  split <;> simp (maxDischargeDepth := 30) [*]

theorem execSetFeaturesPowerManagement_at [Away (¬k = Obj.atSpeed)] [Away (∀ a, ¬k = Obj.commands a)] [Away (∀ a, ¬k = Obj.driveState a)] [Away (¬k = Obj.effectiveState)] [Away (¬k = Obj.flushes)] [Away (¬k = Obj.fuaWrites)] [Away (∀ a, ¬k = Obj.ioSlotsHeld a)] [Away (¬k = Obj.lockInUse)] [Away (¬k = Obj.lockStallMaxUs)] [Away (¬k = Obj.phaseLocked)] [Away (¬k = Obj.powerState)] [Away (∀ a, ¬k = Obj.retracts a)] [Away (¬k = Obj.slotsInUse)] [Away (¬k = Obj.spinMode)] [Away (¬k = Obj.spinups)] [Away (¬k = Obj.targetRpm)] (slot : ℕ) (s : State) (hwf : At k v s) :
    outAt k v (execSetFeaturesPowerManagement slot s) := by
  simp only [execSetFeaturesPowerManagement]
  split <;> simp (maxDischargeDepth := 30) [*]

theorem execSetFeaturesErrorRecovery_at [Away (¬k = Obj.atSpeed)] [Away (∀ a, ¬k = Obj.commands a)] [Away (∀ a, ¬k = Obj.driveState a)] [Away (¬k = Obj.effectiveState)] [Away (¬k = Obj.flushes)] [Away (¬k = Obj.fuaWrites)] [Away (∀ a, ¬k = Obj.ioSlotsHeld a)] [Away (¬k = Obj.lockInUse)] [Away (¬k = Obj.lockStallMaxUs)] [Away (¬k = Obj.phaseLocked)] [Away (¬k = Obj.powerState)] [Away (∀ a, ¬k = Obj.retracts a)] [Away (¬k = Obj.slotsInUse)] [Away (¬k = Obj.spinMode)] [Away (¬k = Obj.spinups)] [Away (¬k = Obj.targetRpm)] (slot : ℕ) (s : State) (hwf : At k v s) :
    outAt k v (execSetFeaturesErrorRecovery slot s) := by
  simp only [execSetFeaturesErrorRecovery]
  split <;> simp (maxDischargeDepth := 30) [*]

theorem execSetFeaturesVwc_at [Away (¬k = Obj.atSpeed)] [Away (∀ a, ¬k = Obj.commands a)] [Away (∀ a, ¬k = Obj.driveState a)] [Away (¬k = Obj.effectiveState)] [Away (¬k = Obj.flushes)] [Away (¬k = Obj.fuaWrites)] [Away (∀ a, ¬k = Obj.ioSlotsHeld a)] [Away (¬k = Obj.lockInUse)] [Away (¬k = Obj.lockStallMaxUs)] [Away (¬k = Obj.phaseLocked)] [Away (¬k = Obj.powerState)] [Away (∀ a, ¬k = Obj.retracts a)] [Away (¬k = Obj.slotsInUse)] [Away (¬k = Obj.spinMode)] [Away (¬k = Obj.spinups)] [Away (¬k = Obj.targetRpm)] (slot : ℕ) (s : State) (hwf : At k v s) :
    outAt k v (execSetFeaturesVwc slot s) := by
  simp only [execSetFeaturesVwc]
  split <;> simp (maxDischargeDepth := 30) [*]

theorem execGetFeatures_at [Away (∀ a, ¬k = Obj.commands a)] [Away (∀ a, ¬k = Obj.driveState a)] [Away (∀ a, ¬k = Obj.ioSlotsHeld a)] [Away (¬k = Obj.lockInUse)] [Away (¬k = Obj.lockStallMaxUs)] [Away (∀ a, ¬k = Obj.retracts a)] [Away (¬k = Obj.slotsInUse)] (slot : ℕ) (s : State) (hwf : At k v s) :
    outAt k v (execGetFeatures slot s) := by
  simp only [execGetFeatures]
  repeat' split
  all_goals simp (maxDischargeDepth := 30) [*]

@[simp] theorem descriptorUpdate_at [Away (¬k = Obj.chunksToRebuild)] [Away (¬k = Obj.criticalStripes)] [Away (¬k = Obj.degradedStripes)] [Away (¬k = Obj.lostEntries)] [Away (¬k = Obj.lostMerges)] [Away (¬k = Obj.rebuildState)] [Away (¬k = Obj.remapCrowded)] [Away (¬k = Obj.remapEntries)] [Away (¬k = Obj.stripesUsed)] [Away (¬k = Obj.substCrowded)] (s : State) (hwf : At k v s) :
    At k v (descriptorUpdate s) := by
  simp (maxDischargeDepth := 30) [descriptorUpdate, *]

theorem execNamespaceCreate_at [Away (¬k = Obj.chunksToRebuild)] [Away (∀ a, ¬k = Obj.commands a)] [Away (¬k = Obj.criticalStripes)] [Away (¬k = Obj.degradedStripes)] [Away (∀ a, ¬k = Obj.driveState a)] [Away (∀ a, ¬k = Obj.ioSlotsHeld a)] [Away (¬k = Obj.lockInUse)] [Away (¬k = Obj.lockStallMaxUs)] [Away (¬k = Obj.lostEntries)] [Away (¬k = Obj.lostMerges)] [Away (∀ a, ¬k = Obj.nsLayout a)] [Away (¬k = Obj.rebuildState)] [Away (¬k = Obj.remapCrowded)] [Away (¬k = Obj.remapEntries)] [Away (∀ a, ¬k = Obj.retracts a)] [Away (¬k = Obj.slotsInUse)] [Away (¬k = Obj.stripesUsed)] [Away (¬k = Obj.substCrowded)] (slot : ℕ) (nsze : ℕ) (lbaFormat : ℕ) (s : State) (hwf : At k v s) :
    outAt k v (execNamespaceCreate slot nsze lbaFormat s) := by
  have := ‹Away (∀ a, ¬k = Obj.nsLayout a)›.out
  simp only [execNamespaceCreate]
  repeat' split
  all_goals simp (maxDischargeDepth := 30) [*]

@[simp] theorem freeStripes_at [Away (¬k = Obj.journalFree)] [Away (¬k = Obj.journalOpen)] [Away (¬k = Obj.replayPending)] (s : State) (first : ℕ) (n : ℕ) (hwf : At k v s) :
    At k v (freeStripes s first n) := by
  simp (maxDischargeDepth := 30) [freeStripes, *]

@[simp] theorem freeMaps_at (s : State) (hwf : At k v s) :
    At k v (freeMaps s) := by
  simp (maxDischargeDepth := 30) [freeMaps, *]

@[simp] theorem cancelReshape_at [Away (¬k = Obj.cacheDirtyKib)] [Away (¬k = Obj.chunksToRebuild)] [Away (∀ a, ¬k = Obj.commands a)] [Away (¬k = Obj.criticalStripes)] [Away (¬k = Obj.degradedStripes)] [Away (¬k = Obj.flushes)] [Away (¬k = Obj.fuaWrites)] [Away (∀ a, ¬k = Obj.ioSlotsHeld a)] [Away (¬k = Obj.journalFree)] [Away (¬k = Obj.journalOpen)] [Away (¬k = Obj.lockInUse)] [Away (¬k = Obj.lockStallMaxUs)] [Away (¬k = Obj.lostEntries)] [Away (¬k = Obj.lostMerges)] [Away (¬k = Obj.rebuildState)] [Away (¬k = Obj.remapCrowded)] [Away (¬k = Obj.remapEntries)] [Away (¬k = Obj.replayPending)] [Away (¬k = Obj.reshapeState)] [Away (¬k = Obj.slotsInUse)] [Away (¬k = Obj.stripesUsed)] [Away (¬k = Obj.substCrowded)] (s : State) (hwf : At k v s) :
    At k v (cancelReshape s) := by
  have := ‹Away (¬k = Obj.reshapeState)›.out
  simp only [cancelReshape]
  split <;> simp (maxDischargeDepth := 30) [*]

@[simp] theorem discardNamespace_at [Away (¬k = Obj.cacheDirtyKib)] [Away (¬k = Obj.chunksToRebuild)] [Away (∀ a, ¬k = Obj.commands a)] [Away (¬k = Obj.criticalStripes)] [Away (¬k = Obj.degradedStripes)] [Away (¬k = Obj.flushes)] [Away (¬k = Obj.fuaWrites)] [Away (∀ a, ¬k = Obj.ioSlotsHeld a)] [Away (¬k = Obj.journalFree)] [Away (¬k = Obj.journalOpen)] [Away (¬k = Obj.lockInUse)] [Away (¬k = Obj.lockStallMaxUs)] [Away (¬k = Obj.lostEntries)] [Away (¬k = Obj.lostMerges)] [Away (¬k = Obj.rebuildState)] [Away (¬k = Obj.remapCrowded)] [Away (¬k = Obj.remapEntries)] [Away (¬k = Obj.replayPending)] [Away (¬k = Obj.reshapeState)] [Away (¬k = Obj.slotsInUse)] [Away (¬k = Obj.stripesUsed)] [Away (¬k = Obj.substCrowded)] (s : State) (ns : Namespace) (hwf : At k v s) :
    At k v (discardNamespace s ns) := by
  simp only [discardNamespace]
  split <;> simp (maxDischargeDepth := 30) [*]

@[simp] theorem deleteNamespace_at [Away (¬k = Obj.cacheDirtyKib)] [Away (¬k = Obj.chunksToRebuild)] [Away (∀ a, ¬k = Obj.commands a)] [Away (¬k = Obj.criticalStripes)] [Away (¬k = Obj.degradedStripes)] [Away (∀ a, ¬k = Obj.driveState a)] [Away (¬k = Obj.flushes)] [Away (¬k = Obj.fuaWrites)] [Away (∀ a, ¬k = Obj.ioSlotsHeld a)] [Away (¬k = Obj.journalFree)] [Away (¬k = Obj.journalOpen)] [Away (¬k = Obj.lockInUse)] [Away (¬k = Obj.lockStallMaxUs)] [Away (¬k = Obj.lostEntries)] [Away (¬k = Obj.lostMerges)] [Away (∀ a, ¬k = Obj.nsLayout a)] [Away (¬k = Obj.rebuildState)] [Away (¬k = Obj.remapCrowded)] [Away (¬k = Obj.remapEntries)] [Away (¬k = Obj.replayPending)] [Away (¬k = Obj.reshapeState)] [Away (∀ a, ¬k = Obj.retracts a)] [Away (¬k = Obj.slotsInUse)] [Away (¬k = Obj.stripesUsed)] [Away (¬k = Obj.substCrowded)] (s : State) (nsid : ℕ) (hwf : At k v s) :
    At k v (deleteNamespace s nsid) := by
  have := ‹Away (∀ a, ¬k = Obj.nsLayout a)›.out
  unfold deleteNamespace
  repeat' split
  all_goals simp_all (maxDischargeDepth := 30)

theorem execNamespaceDelete_at [Away (¬k = Obj.cacheDirtyKib)] [Away (¬k = Obj.chunksToRebuild)] [Away (∀ a, ¬k = Obj.commands a)] [Away (¬k = Obj.criticalStripes)] [Away (¬k = Obj.degradedStripes)] [Away (∀ a, ¬k = Obj.driveState a)] [Away (¬k = Obj.flushes)] [Away (¬k = Obj.fuaWrites)] [Away (∀ a, ¬k = Obj.ioSlotsHeld a)] [Away (¬k = Obj.journalFree)] [Away (¬k = Obj.journalOpen)] [Away (¬k = Obj.lockInUse)] [Away (¬k = Obj.lockStallMaxUs)] [Away (¬k = Obj.lostEntries)] [Away (¬k = Obj.lostMerges)] [Away (∀ a, ¬k = Obj.nsLayout a)] [Away (¬k = Obj.rebuildState)] [Away (¬k = Obj.remapCrowded)] [Away (¬k = Obj.remapEntries)] [Away (¬k = Obj.replayPending)] [Away (¬k = Obj.reshapeState)] [Away (∀ a, ¬k = Obj.retracts a)] [Away (¬k = Obj.slotsInUse)] [Away (¬k = Obj.stripesUsed)] [Away (¬k = Obj.substCrowded)] (slot : ℕ) (s : State) (hwf : At k v s) :
    outAt k v (execNamespaceDelete slot s) := by
  unfold execNamespaceDelete
  repeat' split
  all_goals simp_all (maxDischargeDepth := 30)

theorem execNamespaceAttachment_at [Away (∀ a, ¬k = Obj.commands a)] [Away (∀ a, ¬k = Obj.driveState a)] [Away (∀ a, ¬k = Obj.ioSlotsHeld a)] [Away (¬k = Obj.lockInUse)] [Away (¬k = Obj.lockStallMaxUs)] [Away (∀ a, ¬k = Obj.retracts a)] [Away (¬k = Obj.slotsInUse)] (slot : ℕ) (controllers : List Port) (s : State) (hwf : At k v s) :
    outAt k v (execNamespaceAttachment slot controllers s) := by
  simp only [execNamespaceAttachment]
  repeat' split
  all_goals simp (maxDischargeDepth := 30) [*]

theorem execGetLbaStatus_at [Away (∀ a, ¬k = Obj.commands a)] [Away (∀ a, ¬k = Obj.driveState a)] [Away (∀ a, ¬k = Obj.ioSlotsHeld a)] [Away (¬k = Obj.lockInUse)] [Away (¬k = Obj.lockStallMaxUs)] [Away (∀ a, ¬k = Obj.retracts a)] [Away (¬k = Obj.slotsInUse)] (slot : ℕ) (s : State) (hwf : At k v s) :
    outAt k v (execGetLbaStatus slot s) := by
  simp only [execGetLbaStatus]
  repeat' split
  all_goals simp (maxDischargeDepth := 30) [*]

theorem execInvalidOpcode_at [Away (∀ a, ¬k = Obj.commands a)] [Away (∀ a, ¬k = Obj.driveState a)] [Away (¬k = Obj.flushes)] [Away (¬k = Obj.fuaWrites)] [Away (∀ a, ¬k = Obj.ioSlotsHeld a)] [Away (¬k = Obj.lockInUse)] [Away (¬k = Obj.lockStallMaxUs)] [Away (∀ a, ¬k = Obj.retracts a)] [Away (¬k = Obj.slotsInUse)] (slot : ℕ) (s : State) (hwf : At k v s) :
    outAt k v (execInvalidOpcode slot s) := by
  simp only [execInvalidOpcode]
  split <;> simp (maxDischargeDepth := 30) [*]

@[simp] theorem notifyHosts_at [Away (∀ a, ¬k = Obj.commands a)] [Away (∀ a, ¬k = Obj.ioSlotsHeld a)] [Away (¬k = Obj.lockInUse)] [Away (¬k = Obj.slotsInUse)] (s : State) (nsid : ℕ) (maskBit : ℕ) (hosts : List ℕ) (hwf : At k v s) :
    At k v (notifyHosts s nsid maskBit hosts) := by
  unfold notifyHosts
  repeat' split
  all_goals simp_all (maxDischargeDepth := 30)

@[simp] theorem reserveWith_at [Away (∀ a, ¬k = Obj.commands a)] [Away (∀ a, ¬k = Obj.driveState a)] [Away (¬k = Obj.flushes)] [Away (¬k = Obj.fuaWrites)] [Away (∀ a, ¬k = Obj.ioSlotsHeld a)] [Away (¬k = Obj.lockInUse)] [Away (¬k = Obj.lockStallMaxUs)] [Away (∀ a, ¬k = Obj.retracts a)] [Away (¬k = Obj.slotsInUse)] (s : State) (n : ℕ) (c : CmdSlot) (f : Reservation → ℕ × ℕ ⊕ Reservation) (hwf : At k v s) :
    At k v (reserveWith s n c f) := by
  simp only [reserveWith]
  repeat' split
  all_goals simp (maxDischargeDepth := 30) [*]

theorem execReservationRegister_at [Away (∀ a, ¬k = Obj.commands a)] [Away (∀ a, ¬k = Obj.driveState a)] [Away (¬k = Obj.flushes)] [Away (¬k = Obj.fuaWrites)] [Away (∀ a, ¬k = Obj.ioSlotsHeld a)] [Away (¬k = Obj.lockInUse)] [Away (¬k = Obj.lockStallMaxUs)] [Away (∀ a, ¬k = Obj.retracts a)] [Away (¬k = Obj.slotsInUse)] (slot : ℕ) (crkey : ℕ) (nrkey : ℕ) (s : State) (hwf : At k v s) :
    outAt k v (execReservationRegister slot crkey nrkey s) := by
  simp only [execReservationRegister]
  split <;> simp (maxDischargeDepth := 30) [*]

theorem execReservationReport_at [Away (∀ a, ¬k = Obj.commands a)] [Away (∀ a, ¬k = Obj.driveState a)] [Away (¬k = Obj.flushes)] [Away (¬k = Obj.fuaWrites)] [Away (∀ a, ¬k = Obj.ioSlotsHeld a)] [Away (¬k = Obj.lockInUse)] [Away (¬k = Obj.lockStallMaxUs)] [Away (∀ a, ¬k = Obj.retracts a)] [Away (¬k = Obj.slotsInUse)] (slot : ℕ) (s : State) (hwf : At k v s) :
    outAt k v (execReservationReport slot s) := by
  simp only [execReservationReport]
  repeat' split
  all_goals simp (maxDischargeDepth := 30) [*]

@[simp] theorem acquire_at [Away (∀ a, ¬k = Obj.commands a)] [Away (∀ a, ¬k = Obj.driveState a)] [Away (¬k = Obj.flushes)] [Away (¬k = Obj.fuaWrites)] [Away (∀ a, ¬k = Obj.ioSlotsHeld a)] [Away (¬k = Obj.lockInUse)] [Away (¬k = Obj.lockStallMaxUs)] [Away (∀ a, ¬k = Obj.retracts a)] [Away (¬k = Obj.slotsInUse)] (s : State) (n : ℕ) (c : CmdSlot) (crkey : ℕ) (prkey : ℕ) (hwf : At k v s) :
    At k v (acquire s n c crkey prkey) := by
  simp (maxDischargeDepth := 30) [acquire, *]

theorem execReservationAcquire_at [Away (∀ a, ¬k = Obj.commands a)] [Away (∀ a, ¬k = Obj.driveState a)] [Away (¬k = Obj.flushes)] [Away (¬k = Obj.fuaWrites)] [Away (∀ a, ¬k = Obj.ioSlotsHeld a)] [Away (¬k = Obj.lockInUse)] [Away (¬k = Obj.lockStallMaxUs)] [Away (∀ a, ¬k = Obj.retracts a)] [Away (¬k = Obj.slotsInUse)] (slot : ℕ) (crkey : ℕ) (prkey : ℕ) (s : State) (hwf : At k v s) :
    outAt k v (execReservationAcquire slot crkey prkey s) := by
  simp only [execReservationAcquire]
  split <;> simp (maxDischargeDepth := 30) [*]

theorem execReservationPreemptAndAbort_at [Away (∀ a, ¬k = Obj.commands a)] [Away (∀ a, ¬k = Obj.driveState a)] [Away (¬k = Obj.flushes)] [Away (¬k = Obj.fuaWrites)] [Away (∀ a, ¬k = Obj.ioSlotsHeld a)] [Away (¬k = Obj.lockInUse)] [Away (¬k = Obj.lockStallMaxUs)] [Away (∀ a, ¬k = Obj.retracts a)] [Away (¬k = Obj.slotsInUse)] (slot : ℕ) (crkey : ℕ) (prkey : ℕ) (s : State) (hwf : At k v s) :
    outAt k v (execReservationPreemptAndAbort slot crkey prkey s) := by
  unfold execReservationPreemptAndAbort
  repeat' split
  all_goals simp_all (maxDischargeDepth := 30)

theorem execReservationRelease_at [Away (∀ a, ¬k = Obj.commands a)] [Away (∀ a, ¬k = Obj.driveState a)] [Away (¬k = Obj.flushes)] [Away (¬k = Obj.fuaWrites)] [Away (∀ a, ¬k = Obj.ioSlotsHeld a)] [Away (¬k = Obj.lockInUse)] [Away (¬k = Obj.lockStallMaxUs)] [Away (∀ a, ¬k = Obj.retracts a)] [Away (¬k = Obj.slotsInUse)] (slot : ℕ) (crkey : ℕ) (s : State) (hwf : At k v s) :
    outAt k v (execReservationRelease slot crkey s) := by
  simp only [execReservationRelease]
  split <;> simp (maxDischargeDepth := 30) [*]

theorem execReservationStateWritten_at [Away (∀ a, ¬k = Obj.commands a)] [Away (∀ a, ¬k = Obj.driveState a)] [Away (¬k = Obj.flushes)] [Away (¬k = Obj.fuaWrites)] [Away (∀ a, ¬k = Obj.ioSlotsHeld a)] [Away (¬k = Obj.lockInUse)] [Away (¬k = Obj.lockStallMaxUs)] [Away (∀ a, ¬k = Obj.retracts a)] [Away (¬k = Obj.slotsInUse)] (ns : ℕ) (s : State) (hwf : At k v s) :
    outAt k v (execReservationStateWritten ns s) := by
  unfold execReservationStateWritten
  repeat' split
  all_goals simp_all (maxDischargeDepth := 30)

end Sys2Proof.Machine
end

