-- ==== Sys2Proof/Laws/AtHostReset.lean ====
section
/-! SUPPORT. The objects that every operation of Machine/HostReset.lean can write. -/

namespace Sys2Proof.Machine

variable {k : Key} {v : Val}

@[simp] theorem dropCommands_at [Away (∀ a, ¬k = Obj.commands a)] [Away (∀ a, ¬k = Obj.driveState a)] [Away (¬k = Obj.flushes)] [Away (¬k = Obj.fuaWrites)] [Away (∀ a, ¬k = Obj.ioSlotsHeld a)] [Away (¬k = Obj.lockInUse)] [Away (¬k = Obj.lockStallMaxUs)] [Away (∀ a, ¬k = Obj.retracts a)] [Away (¬k = Obj.slotsInUse)] (s : State) (p : Port) (hwf : At k v s) :
    At k v (dropCommands s p) := by
  unfold dropCommands
  repeat' split
  all_goals simp_all (maxDischargeDepth := 30)

@[simp] theorem becomeReady_at (s : State) (p : Port) (hwf : At k v s) :
    At k v (becomeReady s p) := by
  simp (maxDischargeDepth := 30) [becomeReady, *]

theorem execCcEnSet_at (p : Port) (s : State) (hwf : At k v s) :
    outAt k v (execCcEnSet p s) := by
  simp (maxDischargeDepth := 30) [execCcEnSet, *]

@[simp] theorem linkDown_at [Away (∀ a, ¬k = Obj.linkSpeed a)] [Away (∀ a, ¬k = Obj.linkWidth a)] (s : State) (p : Port) (hwf : At k v s) :
    At k v (linkDown s p) := by
  have := ‹Away (∀ a, ¬k = Obj.linkSpeed a)›.out
  have := ‹Away (∀ a, ¬k = Obj.linkWidth a)›.out
  simp (maxDischargeDepth := 30) [linkDown, *]

theorem execPerstDeassert_at (p : Port) (s : State) (hwf : At k v s) :
    outAt k v (execPerstDeassert p s) := by
  simp (maxDischargeDepth := 30) [execPerstDeassert, *]

theorem execLinkTrainingDone_at [Away (∀ a, ¬k = Obj.linkSpeed a)] [Away (∀ a, ¬k = Obj.linkWidth a)] (p : Port) (speed : ℕ) (width : ℕ) (s : State) (hwf : At k v s) :
    outAt k v (execLinkTrainingDone p speed width s) := by
  have := ‹Away (∀ a, ¬k = Obj.linkSpeed a)›.out
  have := ‹Away (∀ a, ¬k = Obj.linkWidth a)›.out
  simp (maxDischargeDepth := 30) [execLinkTrainingDone, *]

theorem execShutdownNormal_at [Away (∀ a, ¬k = Obj.driveState a)] [Away (∀ a, ¬k = Obj.retracts a)] (p : Port) (s : State) (hwf : At k v s) :
    outAt k v (execShutdownNormal p s) := by
  simp (maxDischargeDepth := 30) [execShutdownNormal, *]

theorem execShutdownAbrupt_at [Away (∀ a, ¬k = Obj.commands a)] [Away (∀ a, ¬k = Obj.driveState a)] [Away (¬k = Obj.flushes)] [Away (¬k = Obj.fuaWrites)] [Away (∀ a, ¬k = Obj.ioSlotsHeld a)] [Away (¬k = Obj.lockInUse)] [Away (¬k = Obj.lockStallMaxUs)] [Away (∀ a, ¬k = Obj.retracts a)] [Away (¬k = Obj.slotsInUse)] (p : Port) (s : State) (hwf : At k v s) :
    outAt k v (execShutdownAbrupt p s) := by
  simp (maxDischargeDepth := 30) [execShutdownAbrupt, *]

end Sys2Proof.Machine
end

