-- ==== Sys2Proof/Laws/AtStitch.lean ====
section
/-! SUPPORT. The objects that every operation of Machine/Stitch.lean can write. -/

namespace Sys2Proof.Machine

variable {k : Key} {v : Val}

@[simp] theorem offerRebuilt_at (s : State) (r : Run2) (m : StitchMap) (x : Subst) (g : ℕ) (offset : ℕ) (v1 : OffsetView) (hwf : At k v s) :
    At k v (offerRebuilt s r m x g offset v1) := by
  simp only [offerRebuilt]
  refine State.each_at hwf fun t j h => ?_
  repeat' split
  all_goals simp [h]

@[simp] theorem loseBlocks_at [Away (¬k = Obj.chunksToRebuild)] [Away (∀ a, ¬k = Obj.commands a)] [Away (¬k = Obj.criticalStripes)] [Away (¬k = Obj.degradedStripes)] [Away (∀ a, ¬k = Obj.ioSlotsHeld a)] [Away (¬k = Obj.lockInUse)] [Away (¬k = Obj.lostEntries)] [Away (¬k = Obj.lostMerges)] [Away (¬k = Obj.rebuildState)] [Away (¬k = Obj.remapCrowded)] [Away (¬k = Obj.remapEntries)] [Away (¬k = Obj.slotsInUse)] [Away (¬k = Obj.stripesUsed)] [Away (¬k = Obj.substCrowded)] (s : State) (r : Run2) (m : StitchMap) (g : ℕ) (offset : ℕ) (cause : ℕ) (members : List ℕ) (hwf : At k v s) :
    At k v (loseBlocks s r m g offset cause members) := by
  unfold loseBlocks
  repeat' split
  all_goals simp_all (maxDischargeDepth := 30)

@[simp] theorem mirrorRemap_at (s : State) (k1 : ℕ) (hwf : At k v s) :
    At k v (mirrorRemap s k1) := by
  simp (maxDischargeDepth := 30) [mirrorRemap, *]

@[simp] theorem makeStale_at (s : State) (r : Run2) (m : StitchMap) (x : Subst) (g : ℕ) (j : ℕ) (hwf : At k v s) :
    At k v (makeStale s r m x g j) := by
  simp only [makeStale]
  split <;> simp (maxDischargeDepth := 30) [*]

@[simp] theorem relocate_at (s : State) (r : Run2) (m : StitchMap) (x : Subst) (g : ℕ) (j : ℕ) (hwf : At k v s) :
    At k v (relocate s r m x g j) := by
  simp only [relocate]
  split <;> simp (maxDischargeDepth := 30) [*]

@[simp] theorem scrubPoisoned_at [Away (¬k = Obj.cacheDirtyKib)] [Away (¬k = Obj.chunksToRebuild)] [Away (∀ a, ¬k = Obj.commands a)] [Away (¬k = Obj.criticalStripes)] [Away (¬k = Obj.degradedStripes)] [Away (∀ a, ¬k = Obj.ioSlotsHeld a)] [Away (¬k = Obj.lockInUse)] [Away (¬k = Obj.lostEntries)] [Away (¬k = Obj.lostMerges)] [Away (¬k = Obj.rebuildState)] [Away (¬k = Obj.remapCrowded)] [Away (¬k = Obj.remapEntries)] [Away (¬k = Obj.slotsInUse)] [Away (¬k = Obj.stripesUsed)] [Away (¬k = Obj.substCrowded)] (s : State) (r : Run2) (m : StitchMap) (e : ℕ × CacheSlot) (hwf : At k v s) :
    At k v (scrubPoisoned s r m e) := by
  simp (maxDischargeDepth := 30) [scrubPoisoned, *]

@[simp] theorem methodOf_at (fill : Bool) (ks : List ℕ) (s : State) (hwf : At k v s) :
    At k v (methodOf fill ks s).2 := by
  simp only [methodOf]
  repeat' split
  all_goals simp (maxDischargeDepth := 30) [*]

theorem execDestageUpdate_at [Away (¬k = Obj.cacheDirtyKib)] [Away (¬k = Obj.chunksToRebuild)] [Away (∀ a, ¬k = Obj.commands a)] [Away (¬k = Obj.criticalStripes)] [Away (¬k = Obj.degradedStripes)] [Away (∀ a, ¬k = Obj.ioSlotsHeld a)] [Away (¬k = Obj.journalFree)] [Away (¬k = Obj.journalOpen)] [Away (¬k = Obj.journalWaits)] [Away (¬k = Obj.lockInUse)] [Away (¬k = Obj.lostEntries)] [Away (¬k = Obj.lostMerges)] [Away (¬k = Obj.rebuildState)] [Away (¬k = Obj.remapCrowded)] [Away (¬k = Obj.remapEntries)] [Away (¬k = Obj.replayPending)] [Away (¬k = Obj.slotsInUse)] [Away (¬k = Obj.stripeGen)] [Away (¬k = Obj.stripesUsed)] [Away (¬k = Obj.substCrowded)] [Away (¬k = Obj.updates)] [Away (¬k = Obj.wiDirtyGroups)] (stripe : ℕ) (reads : List OffsetReads) (s : State) (hwf : At k v s) :
    outAt k v (execDestageUpdate stripe reads s) := by
  have := ‹Away (¬k = Obj.journalWaits)›.out
  unfold execDestageUpdate
  dsimp only
  split
  · exact hwf
  split
  · exact hwf
  split
  · simp [hwf, *]
  split
  · exact hwf
  · simp +contextual (maxDischargeDepth := 30) [hwf, *]

@[simp] theorem retireBlocks_at [Away (¬k = Obj.cacheDirtyKib)] [Away (∀ a, ¬k = Obj.commands a)] [Away (¬k = Obj.flushes)] [Away (¬k = Obj.fuaWrites)] [Away (∀ a, ¬k = Obj.ioSlotsHeld a)] [Away (¬k = Obj.lockInUse)] [Away (¬k = Obj.lockStallMaxUs)] [Away (¬k = Obj.slotsInUse)] (s : State) (r : Run2) (dbas : List (ℕ × ℕ)) (hwf : At k v s) :
    At k v (retireBlocks s r dbas) := by
  simp (maxDischargeDepth := 30) [retireBlocks, *]

@[simp] theorem saveJobs_at (s : State) (hwf : At k v s) :
    At k v (saveJobs s) := by
  simp (maxDischargeDepth := 30) [saveJobs, *]

theorem execWiMirrorPoint_at [Away (¬k = Obj.wiDirtyGroups)] [Away (¬k = Obj.wiLastTick)] (s : State) (hwf : At k v s) :
    outAt k v (execWiMirrorPoint s) := by
  simp (maxDischargeDepth := 30) [execWiMirrorPoint, *]

@[simp] theorem raiseHead_at (s : State) (u : ℕ) (detail : optParam ℕ 0) (hwf : At k v s) :
    At k v (raiseHead s u detail) := by
  simp (maxDischargeDepth := 30) [raiseHead, *]

theorem execMirrorRetry_at (page : ℕ) (ok : Bool) (s : State) (hwf : At k v s) :
    outAt k v (execMirrorRetry page ok s) := by
  unfold execMirrorRetry
  repeat' split
  all_goals simp_all (maxDischargeDepth := 30)

@[simp] theorem countReplay_at [Away (¬k = Obj.journalFree)] [Away (¬k = Obj.journalOpen)] [Away (¬k = Obj.replayPending)] [Away (¬k = Obj.replayState)] [Away (¬k = Obj.resyncPending)] (s : State) (hwf : At k v s) :
    At k v (countReplay s) := by
  have := ‹Away (¬k = Obj.replayState)›.out
  have := ‹Away (¬k = Obj.resyncPending)›.out
  simp (maxDischargeDepth := 30) [countReplay, *]

@[simp] theorem resyncStripe_at [Away (¬k = Obj.chunksToRebuild)] [Away (∀ a, ¬k = Obj.commands a)] [Away (¬k = Obj.criticalStripes)] [Away (¬k = Obj.degradedStripes)] [Away (∀ a, ¬k = Obj.ioSlotsHeld a)] [Away (¬k = Obj.lockInUse)] [Away (¬k = Obj.lostEntries)] [Away (¬k = Obj.lostMerges)] [Away (¬k = Obj.rebuildState)] [Away (¬k = Obj.remapCrowded)] [Away (¬k = Obj.remapEntries)] [Away (¬k = Obj.slotsInUse)] [Away (¬k = Obj.stripeGen)] [Away (¬k = Obj.stripesUsed)] [Away (¬k = Obj.substCrowded)] [Away (¬k = Obj.updates)] (s : State) (g : ℕ) (reads : List OffsetReads) (hwf : At k v s) :
    At k v (resyncStripe s g reads) := by
  unfold resyncStripe
  repeat' split
  all_goals simp_all (maxDischargeDepth := 30)

theorem execResyncGroup_at [Away (¬k = Obj.chunksToRebuild)] [Away (∀ a, ¬k = Obj.commands a)] [Away (¬k = Obj.criticalStripes)] [Away (¬k = Obj.degradedStripes)] [Away (∀ a, ¬k = Obj.ioSlotsHeld a)] [Away (¬k = Obj.journalFree)] [Away (¬k = Obj.journalOpen)] [Away (¬k = Obj.lockInUse)] [Away (¬k = Obj.lostEntries)] [Away (¬k = Obj.lostMerges)] [Away (¬k = Obj.rebuildState)] [Away (¬k = Obj.remapCrowded)] [Away (¬k = Obj.remapEntries)] [Away (¬k = Obj.replayPending)] [Away (¬k = Obj.replayState)] [Away (¬k = Obj.resyncPending)] [Away (¬k = Obj.slotsInUse)] [Away (¬k = Obj.stripeGen)] [Away (¬k = Obj.stripesUsed)] [Away (¬k = Obj.substCrowded)] [Away (¬k = Obj.updates)] [Away (¬k = Obj.wiDirtyGroups)] (group : ℕ) (reads : List (ℕ × OffsetReads)) (s : State) (hwf : At k v s) :
    outAt k v (execResyncGroup group reads s) := by
  have := ‹Away (¬k = Obj.wiDirtyGroups)›.out
  unfold execResyncGroup
  repeat' split
  all_goals simp_all (maxDischargeDepth := 30)

end Sys2Proof.Machine
end

