-- ==== Sys2Proof/Laws/AtRebuild.lean ====
section
/-! SUPPORT. The objects that every operation of Machine/Rebuild.lean can write. -/

namespace Sys2Proof.Machine

variable {k : Key} {v : Val}

@[simp] theorem recordRetirement_at [Away (¬k = Obj.retiredUnits)] [Away (¬k = Obj.storeState)] (s : State) (id : ℕ) (hwf : At k v s) :
    At k v (recordRetirement s id) := by
  have := ‹Away (¬k = Obj.retiredUnits)›.out
  simp (maxDischargeDepth := 30) [recordRetirement, *]

@[simp] theorem settleHolders_at (s : State) (hwf : At k v s) :
    At k v (settleHolders s) := by
  simp only [settleHolders]
  split <;> simp (maxDischargeDepth := 30) [*]

theorem execHolderMoveDone_at (holder : Fin 2) (surface : Fin 48) (s : State) (hwf : At k v s) :
    outAt k v (execHolderMoveDone holder surface s) := by
  simp (maxDischargeDepth := 30) [execHolderMoveDone, *]

@[simp] theorem settleJob_at [Away (∀ a, ¬k = Obj.surfaceState a)] (s : State) (j : Job) (hwf : At k v s) :
    At k v (settleJob s j) := by
  simp only [settleJob]
  split <;> simp (maxDischargeDepth := 30) [*]

@[simp] theorem settleJobs_at [Away (¬k = Obj.chunksToRebuild)] [Away (¬k = Obj.criticalStripes)] [Away (¬k = Obj.degradedStripes)] [Away (¬k = Obj.lostEntries)] [Away (¬k = Obj.lostMerges)] [Away (¬k = Obj.rebuildState)] [Away (¬k = Obj.remapCrowded)] [Away (¬k = Obj.remapEntries)] [Away (¬k = Obj.stripesUsed)] [Away (¬k = Obj.substCrowded)] [Away (∀ a, ¬k = Obj.surfaceState a)] (s : State) (hwf : At k v s) :
    At k v (settleJobs s) := by
  unfold settleJobs
  repeat' split
  all_goals simp_all (maxDischargeDepth := 30)

@[simp] theorem dropStale_at (s : State) (u : ℕ) (hwf : At k v s) :
    At k v (dropStale s u) := by
  simp (maxDischargeDepth := 30) [dropStale, *]

@[simp] theorem moveEntries_at (s : State) (u : Nat) (h : At k v s) : At k v (moveEntries s u) := by
  unfold moveEntries
  refine State.each_at (by simp (maxDischargeDepth := 30) [*]) fun t x ht => ?_
  repeat' first | (simp +contextual (maxDischargeDepth := 30) [*]; done) | split

@[simp] theorem retireSurfaceNow_at [Away (¬k = Obj.chunksToRebuild)] [Away (¬k = Obj.criticalStripes)] [Away (¬k = Obj.degradedStripes)] [Away (¬k = Obj.lostEntries)] [Away (¬k = Obj.lostMerges)] [Away (¬k = Obj.rebuildState)] [Away (¬k = Obj.remapCrowded)] [Away (¬k = Obj.remapEntries)] [Away (¬k = Obj.retiredUnits)] [Away (¬k = Obj.storeState)] [Away (¬k = Obj.stripesUsed)] [Away (¬k = Obj.substCrowded)] [Away (∀ a, ¬k = Obj.surfaceState a)] (s : State) (u : ℕ) (hwf : At k v s) :
    At k v (retireSurfaceNow s u) := by
  simp (maxDischargeDepth := 30) [retireSurfaceNow, *]

@[simp] theorem retireSurfaceAsk_at [Away (¬k = Obj.chunksToRebuild)] [Away (¬k = Obj.criticalStripes)] [Away (¬k = Obj.degradedStripes)] [Away (¬k = Obj.lostEntries)] [Away (¬k = Obj.lostMerges)] [Away (¬k = Obj.rebuildState)] [Away (¬k = Obj.remapCrowded)] [Away (¬k = Obj.remapEntries)] [Away (¬k = Obj.retiredUnits)] [Away (¬k = Obj.storeState)] [Away (¬k = Obj.stripesUsed)] [Away (¬k = Obj.substCrowded)] [Away (∀ a, ¬k = Obj.surfaceState a)] (s : State) (u : ℕ) (hwf : At k v s) :
    At k v (retireSurfaceAsk s u).2 := by
  simp only [retireSurfaceAsk]
  repeat' split
  all_goals simp (maxDischargeDepth := 30) [*]

@[simp] theorem innerUpdate_at [Away (¬k = Obj.stripeGen)] [Away (¬k = Obj.updates)] [Away (¬k = Obj.wiDirtyGroups)] (s : State) (g : ℕ) (hwf : At k v s) :
    At k v (innerUpdate s g) := by
  simp (maxDischargeDepth := 30) [innerUpdate, *]

@[simp] theorem rebuildOffset_at [Away (¬k = Obj.chunksToRebuild)] [Away (∀ a, ¬k = Obj.commands a)] [Away (¬k = Obj.criticalStripes)] [Away (¬k = Obj.degradedStripes)] [Away (∀ a, ¬k = Obj.ioSlotsHeld a)] [Away (¬k = Obj.lockInUse)] [Away (¬k = Obj.lostEntries)] [Away (¬k = Obj.lostMerges)] [Away (¬k = Obj.rebuildState)] [Away (¬k = Obj.remapCrowded)] [Away (¬k = Obj.remapEntries)] [Away (¬k = Obj.slotsInUse)] [Away (¬k = Obj.stripeGen)] [Away (¬k = Obj.stripesUsed)] [Away (¬k = Obj.substCrowded)] [Away (¬k = Obj.updates)] [Away (¬k = Obj.wiDirtyGroups)] (s : State) (r : Run2) (m : StitchMap) (x : Subst) (g : ℕ) (cause : ℕ) (o : OffsetReads) (hwf : At k v s) :
    At k v (rebuildOffset s r m x g cause o) := by
  simp (maxDischargeDepth := 30) [rebuildOffset, *]

@[simp] theorem fillMember_at [Away (¬k = Obj.chunksRebuilt)] (s : State) (r : Run2) (m : StitchMap) (x : Subst) (g : ℕ) (j : ℕ) (hwf : At k v s) :
    At k v (fillMember s r m x g j) := by
  have := ‹Away (¬k = Obj.chunksRebuilt)›.out
  simp only [fillMember]
  repeat' split
  all_goals simp (maxDischargeDepth := 30) [*]

@[simp] theorem settleStaleAll_at (s : State) (hwf : At k v s) :
    At k v (settleStaleAll s) := by
  unfold settleStaleAll
  repeat' split
  all_goals simp_all (maxDischargeDepth := 30)

@[simp] theorem skipGens_at [Away (¬k = Obj.stripeGen)] (s : State) (n : ℕ) (hwf : At k v s) :
    At k v (skipGens s n) := by
  have := ‹Away (¬k = Obj.stripeGen)›.out
  simp (maxDischargeDepth := 30) [skipGens, *]

theorem execRebuildStripe_at [Away (¬k = Obj.chunksRebuilt)] [Away (¬k = Obj.chunksToRebuild)] [Away (∀ a, ¬k = Obj.commands a)] [Away (¬k = Obj.criticalStripes)] [Away (¬k = Obj.degradedStripes)] [Away (∀ a, ¬k = Obj.ioSlotsHeld a)] [Away (¬k = Obj.lockInUse)] [Away (¬k = Obj.lostEntries)] [Away (¬k = Obj.lostMerges)] [Away (¬k = Obj.rebuildState)] [Away (¬k = Obj.remapCrowded)] [Away (¬k = Obj.remapEntries)] [Away (¬k = Obj.slotsInUse)] [Away (¬k = Obj.stripeGen)] [Away (¬k = Obj.stripesUsed)] [Away (¬k = Obj.substCrowded)] [Away (∀ a, ¬k = Obj.surfaceState a)] [Away (¬k = Obj.updates)] [Away (¬k = Obj.wiDirtyGroups)] (stripe : ℕ) (reads : List OffsetReads) (s : State) (hwf : At k v s) :
    outAt k v (execRebuildStripe stripe reads s) := by
  unfold execRebuildStripe
  dsimp only
  split
  · exact hwf
  rename_i r _
  split
  · exact hwf
  split
  · simp [hwf, *]
  have key : At k v (List.foldl (fun s_1 o => match readOf reads o with
        | some rd => rebuildOffset s_1 r (r.map s) (substOf s (r.map s)) stripe 1 rd
        | none => s_1) s (List.range 64)) := foldl_at hwf fun t o ht => by split <;> simp [ht, *]
  exact settleJobs_at _ (settleStaleAll_at _ (skipGens_at _ _ (State.each_at key fun t j ht => fillMember_at _ _ _ _ _ _ ht)))

theorem execRebuildCheckpoint_at (s : State) (hwf : At k v s) :
    outAt k v (execRebuildCheckpoint s) := by
  simp (maxDischargeDepth := 30) [execRebuildCheckpoint, *]

@[simp] theorem suspect_at [Away (¬k = Obj.chunksToRebuild)] [Away (¬k = Obj.criticalStripes)] [Away (¬k = Obj.degradedStripes)] [Away (¬k = Obj.lostEntries)] [Away (¬k = Obj.lostMerges)] [Away (¬k = Obj.rebuildState)] [Away (¬k = Obj.remapCrowded)] [Away (¬k = Obj.remapEntries)] [Away (¬k = Obj.stripesUsed)] [Away (¬k = Obj.substCrowded)] (s : State) (g : ℕ) (hwf : At k v s) :
    At k v (suspect s g) := by
  simp (maxDischargeDepth := 30) [suspect, *]

@[simp] theorem patrolRepair_at [Away (¬k = Obj.patrolRepairs)] [Away (¬k = Obj.stripeGen)] [Away (¬k = Obj.updates)] [Away (¬k = Obj.wiDirtyGroups)] (s : State) (g : ℕ) (hwf : At k v s) :
    At k v (patrolRepair s g) := by
  have := ‹Away (¬k = Obj.patrolRepairs)›.out
  simp (maxDischargeDepth := 30) [patrolRepair, *]

@[simp] theorem patrolOffset_at [Away (¬k = Obj.chunksToRebuild)] [Away (∀ a, ¬k = Obj.commands a)] [Away (¬k = Obj.criticalStripes)] [Away (¬k = Obj.degradedStripes)] [Away (∀ a, ¬k = Obj.ioSlotsHeld a)] [Away (¬k = Obj.lockInUse)] [Away (¬k = Obj.lostEntries)] [Away (¬k = Obj.lostMerges)] [Away (¬k = Obj.patrolRepairs)] [Away (¬k = Obj.rebuildState)] [Away (¬k = Obj.remapCrowded)] [Away (¬k = Obj.remapEntries)] [Away (¬k = Obj.slotsInUse)] [Away (¬k = Obj.stripeGen)] [Away (¬k = Obj.stripesUsed)] [Away (¬k = Obj.substCrowded)] [Away (¬k = Obj.updates)] [Away (¬k = Obj.wiDirtyGroups)] (s : State) (r : Run2) (m : StitchMap) (x : Subst) (g : ℕ) (o : OffsetReads) (hwf : At k v s) :
    At k v (patrolOffset s r m x g o).1 := by
  simp only [patrolOffset]
  repeat' split
  all_goals simp (maxDischargeDepth := 30) [*]

theorem execPatrolStripe_at [Away (¬k = Obj.chunksToRebuild)] [Away (∀ a, ¬k = Obj.commands a)] [Away (¬k = Obj.criticalStripes)] [Away (¬k = Obj.degradedStripes)] [Away (∀ a, ¬k = Obj.ioSlotsHeld a)] [Away (¬k = Obj.lockInUse)] [Away (¬k = Obj.lostEntries)] [Away (¬k = Obj.lostMerges)] [Away (¬k = Obj.patrolNext)] [Away (¬k = Obj.patrolPass)] [Away (¬k = Obj.patrolRepairs)] [Away (¬k = Obj.rebuildState)] [Away (¬k = Obj.remapCrowded)] [Away (¬k = Obj.remapEntries)] [Away (¬k = Obj.slotsInUse)] [Away (¬k = Obj.stripeGen)] [Away (¬k = Obj.stripesUsed)] [Away (¬k = Obj.substCrowded)] [Away (¬k = Obj.updates)] [Away (¬k = Obj.wiDirtyGroups)] (stripe : ℕ) (reads : List OffsetReads) (s : State) (hwf : At k v s) :
    outAt k v (execPatrolStripe stripe reads s) := by
  have := ‹Away (¬k = Obj.patrolNext)›.out
  have := ‹Away (¬k = Obj.patrolPass)›.out
  unfold execPatrolStripe
  dsimp only
  split
  · exact hwf
  split
  · exact hwf
  have tail : ∀ acc : State × Bool, At k v acc.1 → ∀ kf u : State → State, (∀ t : State, At k v t → At k v (kf t)) →
      (∀ t : State, At k v t → At k v (u t)) →
      At k v (layoutChanged (if (patrolTarget (kf (if acc.2 then u acc.1 else acc.1))).isNone = true then
        (kf (if acc.2 then u acc.1 else acc.1)).setNum Obj.patrolNext 0 else kf (if acc.2 then u acc.1 else acc.1))) :=
    fun acc h kf u hk hu => by
      have h1 : At k v (kf (if acc.2 then u acc.1 else acc.1)) := hk _ (by split <;> simp [hu, h])
      generalize kf (if acc.2 then u acc.1 else acc.1) = y at h1 ⊢
      split <;> simp [h1, *]
  exact tail _ (foldl_fst_at (by split <;> simp [hwf, *]) fun y o hy => by split <;> simp [hy, *]) (·.setNum Obj.patrolNext (stripe + 1))
    (suspect · stripe) (by simp +contextual [*]) (by simp +contextual [*])

@[simp] theorem reshapeAsk_at [Away (¬k = Obj.cacheDirtyKib)] [Away (¬k = Obj.chunksToRebuild)] [Away (∀ a, ¬k = Obj.commands a)] [Away (¬k = Obj.criticalStripes)] [Away (¬k = Obj.degradedStripes)] [Away (¬k = Obj.flushes)] [Away (¬k = Obj.fuaWrites)] [Away (∀ a, ¬k = Obj.ioSlotsHeld a)] [Away (¬k = Obj.journalFree)] [Away (¬k = Obj.journalOpen)] [Away (¬k = Obj.lockInUse)] [Away (¬k = Obj.lockStallMaxUs)] [Away (¬k = Obj.lostEntries)] [Away (¬k = Obj.lostMerges)] [Away (¬k = Obj.rebuildState)] [Away (¬k = Obj.remapCrowded)] [Away (¬k = Obj.remapEntries)] [Away (¬k = Obj.replayPending)] [Away (¬k = Obj.reshapeState)] [Away (¬k = Obj.slotsInUse)] [Away (¬k = Obj.stripesUsed)] [Away (¬k = Obj.substCrowded)] (s : State) (value : List Byte) (hwf : At k v s) :
    At k v (reshapeAsk s value).2 := by
  have := ‹Away (¬k = Obj.reshapeState)›.out
  simp only [reshapeAsk]
  repeat' split
  all_goals simp (maxDischargeDepth := 30) [*]

@[simp] theorem awaitSwitch_at [Away (¬k = Obj.reshapeState)] (s : State) (rs : Reshape) (hwf : At k v s) :
    At k v (awaitSwitch s rs) := by
  have := ‹Away (¬k = Obj.reshapeState)›.out
  simp (maxDischargeDepth := 30) [awaitSwitch, *]

@[simp] theorem copyStripe_at [Away (¬k = Obj.stripeGen)] [Away (¬k = Obj.updates)] [Away (¬k = Obj.wiDirtyGroups)] (r : Run2) (m : StitchMap) (s : State) (g : ℕ) (hwf : At k v s) :
    At k v (copyStripe r m s g) := by
  unfold copyStripe
  repeat' split
  all_goals simp_all (maxDischargeDepth := 30)

theorem execReshapeGroupCopy_at [Away (¬k = Obj.chunksToRebuild)] [Away (¬k = Obj.criticalStripes)] [Away (¬k = Obj.degradedStripes)] [Away (¬k = Obj.lostEntries)] [Away (¬k = Obj.lostMerges)] [Away (¬k = Obj.rebuildState)] [Away (¬k = Obj.remapCrowded)] [Away (¬k = Obj.remapEntries)] [Away (¬k = Obj.reshapeState)] [Away (¬k = Obj.stripeGen)] [Away (¬k = Obj.stripesUsed)] [Away (¬k = Obj.substCrowded)] [Away (¬k = Obj.updates)] [Away (¬k = Obj.wiDirtyGroups)] (s : State) (hwf : At k v s) :
    outAt k v (execReshapeGroupCopy s) := by
  have := ‹Away (¬k = Obj.reshapeState)›.out
  unfold execReshapeGroupCopy
  repeat' split
  all_goals simp_all (maxDischargeDepth := 30)

@[simp] theorem relocateChunk_at (s : State) (c : Run2 × ℕ × ℕ) (hwf : At k v s) :
    At k v (relocateChunk s c) := by
  simp (maxDischargeDepth := 30) [relocateChunk, *]

@[simp] theorem makeGrown_at (s : State) (u : ℕ) (d : Defect) (hwf : At k v s) :
    optAt k v (makeGrown s u d) := by
  simp only [makeGrown]
  split <;> simp (maxDischargeDepth := 30) [*]

@[simp] theorem settleTrack_at (s : State) (u : Nat) (zn : Zone) (track : Nat) (h : At k v s) : At k v (settleTrack s u zn track) := by
  simp only [settleTrack]
  split
  · exact h
  · refine State.each_at (getD_at _ _ (makeGrown_at _ _ _ h) (by simp [h, *])) fun t row ht => ?_
    split <;> simp [ht, *]

@[simp] theorem relocateSector_at [Away (¬k = Obj.chunksToRebuild)] [Away (¬k = Obj.criticalStripes)] [Away (¬k = Obj.degradedStripes)] [Away (¬k = Obj.lostEntries)] [Away (¬k = Obj.lostMerges)] [Away (¬k = Obj.rebuildState)] [Away (¬k = Obj.remapCrowded)] [Away (¬k = Obj.remapEntries)] [Away (¬k = Obj.stripesUsed)] [Away (¬k = Obj.substCrowded)] (s : State) (u : ℕ) (track : ℕ) (p : ℕ) (hwf : At k v s) :
    At k v (relocateSector s u track p) := by
  simp only [relocateSector]
  split <;> simp (maxDischargeDepth := 30) [*]

theorem execGrownDefectReadback_at [Away (¬k = Obj.chunksToRebuild)] [Away (¬k = Obj.criticalStripes)] [Away (¬k = Obj.degradedStripes)] [Away (¬k = Obj.lostEntries)] [Away (¬k = Obj.lostMerges)] [Away (¬k = Obj.rebuildState)] [Away (¬k = Obj.remapCrowded)] [Away (¬k = Obj.remapEntries)] [Away (¬k = Obj.stripesUsed)] [Away (¬k = Obj.substCrowded)] (surface : Fin 48) (track : ℕ) (psector : ℕ) (converged : Bool) (taBoth : Bool) (freezeOffset : ℕ) (freezeLen : ℕ) (s : State) (hwf : At k v s) :
    outAt k v (execGrownDefectReadback surface track psector converged taBoth freezeOffset freezeLen s) := by
  simp only [execGrownDefectReadback]
  repeat' split
  all_goals simp (maxDischargeDepth := 30) [hwf, *]

theorem execGrownEntryCommit_at [Away (¬k = Obj.chunksToRebuild)] [Away (¬k = Obj.criticalStripes)] [Away (¬k = Obj.degradedStripes)] [Away (∀ a b, ¬k = Obj.grownCount a b)] [Away (¬k = Obj.lostEntries)] [Away (¬k = Obj.lostMerges)] [Away (¬k = Obj.rebuildState)] [Away (¬k = Obj.remapCrowded)] [Away (¬k = Obj.remapEntries)] [Away (¬k = Obj.stripesUsed)] [Away (¬k = Obj.substCrowded)] (surface : Fin 48) (entry : List Byte) (s : State) (hwf : At k v s) :
    outAt k v (execGrownEntryCommit surface entry s) := by
  have := ‹Away (∀ a b, ¬k = Obj.grownCount a b)›.out
  simp only [execGrownEntryCommit]
  repeat' split
  all_goals simp (maxDischargeDepth := 30) [*]

@[simp] theorem closeStatus_at (s : State) (status : ℕ) (step : ℕ) (result : Option ℕ) (hwf : At k v s) :
    At k v (closeStatus s status step result) := by
  simp (maxDischargeDepth := 30) [closeStatus, *]

@[simp] theorem climbRecovered_at [Away (∀ a, ¬k = Obj.recovered a)] (s : State) (u : ℕ) (track : ℕ) (p : ℕ) (status : ℕ) (c : Climb) (hwf : At k v s) :
    At k v (climbRecovered s u track p status c) := by
  have := ‹Away (∀ a, ¬k = Obj.recovered a)›.out
  simp (maxDischargeDepth := 30) [climbRecovered, *]

@[simp] theorem stripeWaits_at (s : State) (u : ℕ) (track : ℕ) (p : ℕ) (hwf : At k v s) :
    optAt k v (stripeWaits s u track p) := by
  simp only [stripeWaits]
  repeat' split
  all_goals simp (maxDischargeDepth := 30) [*]

theorem execLadderStepAdvance_at [Away (∀ a, ¬k = Obj.recovered a)] [Away (¬k = Obj.unrecovered)] (surface : Fin 48) (track : ℕ) (psector : ℕ) (top : ℕ) (status : ℕ) (outcome : StepOutcome) (s : State) (hwf : At k v s) :
    outAt k v (execLadderStepAdvance surface track psector top status outcome s) := by
  have := ‹Away (¬k = Obj.unrecovered)›.out
  unfold execLadderStepAdvance
  dsimp only
  split
  · next t e =>
    split at e
    · have := stripeWaits_at s surface.val track psector hwf
      rw [e] at this
      exact this
    · cases e
  · repeat' split
    all_goals simp (maxDischargeDepth := 30) [*]

end Sys2Proof.Machine
end

