-- ==== Sys2Proof/Laws/AtDma.lean ====
section
/-! SUPPORT. The objects that every operation of Machine/Dma.lean can write. -/

namespace Sys2Proof.Machine

variable {k : Key} {v : Val}

@[simp] theorem State.setFab_at (s : State) (f : Fabric) (hwf : At k v s) :
    At k v (State.setFab s f) := by
  simp (maxDischargeDepth := 30) [State.setFab, *]

@[simp] theorem State.modDma_at (s : State) (ch : ℕ) (f : DmaCh → DmaCh) (hwf : At k v s) :
    At k v (State.modDma s ch f) := by
  simp (maxDischargeDepth := 30) [State.modDma, *]

@[simp] theorem dmaBlock_at [Away (∀ a, ¬k = Obj.doneCount a)] [Away (∀ a, ¬k = Obj.objBytes a)] (s : State) (ch : ℕ) (hwf : At k v s) :
    At k v (dmaBlock s ch) := by
  have := ‹Away (∀ a, ¬k = Obj.doneCount a)›.out
  have := ‹Away (∀ a, ¬k = Obj.objBytes a)›.out
  simp (maxDischargeDepth := 30) [dmaBlock, *]

@[simp] theorem dmaBlocks_at [Away (∀ a, ¬k = Obj.doneCount a)] [Away (∀ a, ¬k = Obj.objBytes a)] (ch fuel : Nat) (s : State) (h : At k v s) : At k v (dmaBlocks ch fuel s) := by
  induction fuel generalizing s with
  | zero => simpa [dmaBlocks] using h
  | succ n ih =>
    simp only [dmaBlocks]
    repeat' first | (simp +contextual (maxDischargeDepth := 30) [*]; done) | split

@[simp] theorem dmaTo_at [Away (∀ a, ¬k = Obj.doneCount a)] [Away (∀ a, ¬k = Obj.objBytes a)] (s : State) (ch : ℕ) (bytes : ℕ) (hwf : At k v s) :
    At k v (dmaTo s ch bytes) := by
  simp (maxDischargeDepth := 30) [dmaTo, *]

@[simp] theorem dmaNotify_at [Away (∀ a, ¬k = Obj.notifyPending a)] (s : State) (ch : ℕ) (ctrl : ℕ) (code : ℕ) (hwf : At k v s) :
    At k v (dmaNotify s ch ctrl code) := by
  have := ‹Away (∀ a, ¬k = Obj.notifyPending a)›.out
  simp (maxDischargeDepth := 30) [dmaNotify, *]

@[simp] theorem settleDma_at [Away (∀ a, ¬k = Obj.dmaState a)] (s : State) (ch : ℕ) (hwf : At k v s) :
    At k v (settleDma s ch) := by
  have := ‹Away (∀ a, ¬k = Obj.dmaState a)›.out
  simp (maxDischargeDepth := 30) [settleDma, *]

@[simp] theorem dmaIdle_at [Away (∀ a, ¬k = Obj.chanStatus a)] [Away (∀ a, ¬k = Obj.dmaState a)] [Away (∀ a, ¬k = Obj.notifyPending a)] (s : State) (ch : ℕ) (word : ℕ) (hwf : At k v s) :
    At k v (dmaIdle s ch word) := by
  have := ‹Away (∀ a, ¬k = Obj.chanStatus a)›.out
  simp (maxDischargeDepth := 30) [dmaIdle, *]

@[simp] theorem dmaEnd_at [Away (∀ a, ¬k = Obj.chainAddr a)] [Away (∀ a, ¬k = Obj.chanStatus a)] [Away (∀ a, ¬k = Obj.dmaState a)] [Away (∀ a, ¬k = Obj.notifyPending a)] [Away (∀ a, ¬k = Obj.objTransfers a)] [Away (∀ a, ¬k = Obj.poisonAddr a)] (s : State) (ch : ℕ) (code : ℕ) (indet : ℕ) (hwf : At k v s) :
    At k v (dmaEnd s ch code indet) := by
  have := ‹Away (∀ a, ¬k = Obj.chainAddr a)›.out
  have := ‹Away (∀ a, ¬k = Obj.objTransfers a)›.out
  have := ‹Away (∀ a, ¬k = Obj.poisonAddr a)›.out
  simp (maxDischargeDepth := 30) [dmaEnd, *]

@[simp] theorem dmaStart_at [Away (∀ a, ¬k = Obj.chainAddr a)] [Away (∀ a, ¬k = Obj.chanStatus a)] [Away (∀ a, ¬k = Obj.dmaState a)] [Away (∀ a, ¬k = Obj.doneCount a)] [Away (∀ a, ¬k = Obj.notifyPending a)] [Away (∀ a, ¬k = Obj.objTransfers a)] [Away (∀ a, ¬k = Obj.poisonAddr a)] (s : State) (ch : ℕ) (chain : Bool) (desc : ℕ) (src : ℕ) (dst : ℕ) (next : ℕ) (count : ℕ) (ctrl : ℕ) (hwf : At k v s) :
    At k v (dmaStart s ch chain desc src dst next count ctrl) := by
  have := ‹Away (∀ a, ¬k = Obj.doneCount a)›.out
  simp only [dmaStart]
  split <;> simp (maxDischargeDepth := 30) [*]

@[simp] theorem dmaCtrl_at [Away (∀ a, ¬k = Obj.chainAddr a)] [Away (∀ a, ¬k = Obj.chanStatus a)] [Away (∀ a, ¬k = Obj.dmaState a)] [Away (∀ a, ¬k = Obj.doneCount a)] [Away (∀ a, ¬k = Obj.notifyPending a)] [Away (∀ a, ¬k = Obj.objCtrl a)] [Away (∀ a, ¬k = Obj.objTransfers a)] [Away (∀ a, ¬k = Obj.poisonAddr a)] (s : State) (ch : ℕ) (v1 : ℕ) (hwf : At k v s) :
    At k v (dmaCtrl s ch v1) := by
  have := ‹Away (∀ a, ¬k = Obj.chanStatus a)›.out
  have := ‹Away (∀ a, ¬k = Obj.objCtrl a)›.out
  simp (maxDischargeDepth := 30) [dmaCtrl, *]

@[simp] theorem dmaDisable_at [Away (∀ a, ¬k = Obj.dmaState a)] (s : State) (ch : ℕ) (hwf : At k v s) :
    At k v (dmaDisable s ch) := by
  have := ‹Away (∀ a, ¬k = Obj.dmaState a)›.out
  simp (maxDischargeDepth := 30) [dmaDisable, *]

@[simp] theorem dmaFence_at [Away (∀ a, ¬k = Obj.chanStatus a)] (s : State) (ch : ℕ) (hwf : At k v s) :
    At k v (dmaFence s ch) := by
  have := ‹Away (∀ a, ¬k = Obj.chanStatus a)›.out
  simp (maxDischargeDepth := 30) [dmaFence, *]

theorem execDmaDescriptorFetched_at [Away (∀ a, ¬k = Obj.chainAddr a)] [Away (∀ a, ¬k = Obj.chanStatus a)] [Away (∀ a, ¬k = Obj.dmaState a)] [Away (∀ a, ¬k = Obj.doneCount a)] [Away (∀ a, ¬k = Obj.notifyPending a)] [Away (∀ a, ¬k = Obj.objTransfers a)] [Away (∀ a, ¬k = Obj.poisonAddr a)] (ch : Fin 8) (ok : Bool) (s : State) (hwf : At k v s) :
    outAt k v (execDmaDescriptorFetched ch ok s) := by
  simp (maxDischargeDepth := 30) [execDmaDescriptorFetched, *]

theorem execDmaBeatsAcknowledged_at [Away (∀ a, ¬k = Obj.doneCount a)] [Away (∀ a, ¬k = Obj.objBytes a)] (ch : Fin 8) (s : State) (hwf : At k v s) :
    outAt k v (execDmaBeatsAcknowledged ch s) := by
  simp (maxDischargeDepth := 30) [execDmaBeatsAcknowledged, *]

theorem execDmaReadbackDone_at [Away (∀ a, ¬k = Obj.chainAddr a)] [Away (∀ a, ¬k = Obj.chanStatus a)] [Away (∀ a, ¬k = Obj.dmaState a)] [Away (∀ a, ¬k = Obj.doneCount a)] [Away (∀ a, ¬k = Obj.notifyPending a)] [Away (∀ a, ¬k = Obj.objTransfers a)] [Away (∀ a, ¬k = Obj.poisonAddr a)] (ch : Fin 8) (s : State) (hwf : At k v s) :
    outAt k v (execDmaReadbackDone ch s) := by
  have := ‹Away (∀ a, ¬k = Obj.doneCount a)›.out
  simp (maxDischargeDepth := 30) [execDmaReadbackDone, *]

theorem execDmaBeatError_at [Away (∀ a, ¬k = Obj.chainAddr a)] [Away (∀ a, ¬k = Obj.chanStatus a)] [Away (∀ a, ¬k = Obj.dmaState a)] [Away (∀ a, ¬k = Obj.doneCount a)] [Away (∀ a, ¬k = Obj.notifyPending a)] [Away (∀ a, ¬k = Obj.objBytes a)] [Away (∀ a, ¬k = Obj.objTransfers a)] [Away (∀ a, ¬k = Obj.poisonAddr a)] (ch : Fin 8) (kind : BeatError) (doneBytes : ℕ) (indet : ℕ) (s : State) (hwf : At k v s) :
    outAt k v (execDmaBeatError ch kind doneBytes indet s) := by
  simp (maxDischargeDepth := 30) [execDmaBeatError, *]

@[simp] theorem lanesGone_at [Away (∀ a, ¬k = Obj.actuatorState a)] [Away (∀ a, ¬k = Obj.badClauses a)] [Away (∀ a b, ¬k = Obj.clipCount a b)] [Away (∀ a, ¬k = Obj.incompleteCount a)] [Away (∀ a, ¬k = Obj.loadState a)] [Away (∀ a, ¬k = Obj.objFaults a)] [Away (∀ a b, ¬k = Obj.offsetRailCount a b)] [Away (∀ a, ¬k = Obj.playerState a)] [Away (∀ a, ¬k = Obj.sentences a)] [Away (∀ a, ¬k = Obj.settleMisses a)] [Away (∀ a, ¬k = Obj.sm1CorrectedCount a)] [Away (∀ a b, ¬k = Obj.stuckCount a b)] [Away (∀ a, ¬k = Obj.surfaceState a)] [Away (∀ a, ¬k = Obj.timedCount a)] [Away (∀ a, ¬k = Obj.underruns a)] [Away (∀ a, ¬k = Obj.windowEnds a)] (s : State) (lane : ℕ) (hwf : At k v s) :
    At k v (lanesGone s lane) := by
  simp (maxDischargeDepth := 30) [lanesGone, *]

@[simp] theorem laneStop_at [Away (∀ a, ¬k = Obj.actuatorState a)] [Away (∀ a, ¬k = Obj.badClauses a)] [Away (∀ a b, ¬k = Obj.clipCount a b)] [Away (∀ a, ¬k = Obj.incompleteCount a)] [Away (¬k = Obj.lanesFenced)] [Away (∀ a, ¬k = Obj.loadState a)] [Away (∀ a, ¬k = Obj.objFaults a)] [Away (∀ a b, ¬k = Obj.offsetRailCount a b)] [Away (∀ a, ¬k = Obj.playerState a)] [Away (∀ a, ¬k = Obj.sentences a)] [Away (∀ a, ¬k = Obj.settleMisses a)] [Away (∀ a, ¬k = Obj.sm1CorrectedCount a)] [Away (∀ a b, ¬k = Obj.stuckCount a b)] [Away (∀ a, ¬k = Obj.surfaceState a)] [Away (∀ a, ¬k = Obj.timedCount a)] [Away (∀ a, ¬k = Obj.underruns a)] [Away (∀ a, ¬k = Obj.windowEnds a)] (s : State) (lane : ℕ) (hwf : At k v s) :
    At k v (laneStop s lane) := by
  have := ‹Away (¬k = Obj.lanesFenced)›.out
  simp (maxDischargeDepth := 30) [laneStop, *]

@[simp] theorem laneRetire_at [Away (∀ a, ¬k = Obj.actuatorState a)] [Away (∀ a, ¬k = Obj.badClauses a)] [Away (∀ a b, ¬k = Obj.clipCount a b)] [Away (∀ a, ¬k = Obj.incompleteCount a)] [Away (¬k = Obj.lanesFenced)] [Away (∀ a, ¬k = Obj.loadState a)] [Away (∀ a, ¬k = Obj.objFaults a)] [Away (∀ a b, ¬k = Obj.offsetRailCount a b)] [Away (∀ a, ¬k = Obj.playerState a)] [Away (¬k = Obj.retiredUnits)] [Away (∀ a, ¬k = Obj.sentences a)] [Away (∀ a, ¬k = Obj.settleMisses a)] [Away (∀ a, ¬k = Obj.sm1CorrectedCount a)] [Away (¬k = Obj.storeState)] [Away (∀ a b, ¬k = Obj.stuckCount a b)] [Away (∀ a, ¬k = Obj.surfaceState a)] [Away (∀ a, ¬k = Obj.timedCount a)] [Away (∀ a, ¬k = Obj.underruns a)] [Away (∀ a, ¬k = Obj.windowEnds a)] (s : State) (lane : ℕ) (hwf : At k v s) :
    At k v (laneRetire s lane) := by
  simp (maxDischargeDepth := 30) [laneRetire, *]

theorem execFabricNak_at [Away (∀ a, ¬k = Obj.actuatorState a)] [Away (∀ a, ¬k = Obj.badClauses a)] [Away (¬k = Obj.blocksFailed)] [Away (∀ a b, ¬k = Obj.clipCount a b)] [Away (∀ a, ¬k = Obj.incompleteCount a)] [Away (¬k = Obj.lanesFenced)] [Away (∀ a, ¬k = Obj.loadState a)] [Away (∀ a, ¬k = Obj.objFaults a)] [Away (¬k = Obj.objResends)] [Away (∀ a b, ¬k = Obj.offsetRailCount a b)] [Away (∀ a, ¬k = Obj.playerState a)] [Away (¬k = Obj.retiredUnits)] [Away (∀ a, ¬k = Obj.sentences a)] [Away (∀ a, ¬k = Obj.settleMisses a)] [Away (∀ a, ¬k = Obj.sm1CorrectedCount a)] [Away (¬k = Obj.storeState)] [Away (∀ a b, ¬k = Obj.stuckCount a b)] [Away (∀ a, ¬k = Obj.surfaceState a)] [Away (∀ a, ¬k = Obj.timedCount a)] [Away (∀ a, ¬k = Obj.underruns a)] [Away (∀ a, ¬k = Obj.windowEnds a)] (lane : Fin 32) (requester : Fin 28) (s : State) (hwf : At k v s) :
    outAt k v (execFabricNak lane requester s) := by
  have := ‹Away (¬k = Obj.blocksFailed)›.out
  have := ‹Away (¬k = Obj.objResends)›.out
  simp only [execFabricNak]
  repeat' split
  all_goals simp (maxDischargeDepth := 30) [*]

theorem execFabricAck_at [Away (∀ a, ¬k = Obj.chainAddr a)] [Away (∀ a, ¬k = Obj.chanStatus a)] [Away (∀ a, ¬k = Obj.dmaState a)] [Away (∀ a, ¬k = Obj.doneCount a)] [Away (∀ a, ¬k = Obj.notifyPending a)] [Away (∀ a, ¬k = Obj.objBytes a)] [Away (∀ a, ¬k = Obj.objTransfers a)] [Away (∀ a, ¬k = Obj.poisonAddr a)] (lane : Fin 32) (requester : Fin 28) (beats : ℕ) (s : State) (hwf : At k v s) :
    outAt k v (execFabricAck lane requester beats s) := by
  simp only [execFabricAck]
  split <;> simp (maxDischargeDepth := 30) [*]

@[simp] theorem fillTokens_at (s : State) (hwf : At k v s) :
    At k v (fillTokens s) := by
  simp (maxDischargeDepth := 30) [fillTokens, *]

@[simp] theorem reservedNext_at (s : State) (l : List Beat) (hwf : At k v s) :
    At k v (reservedNext s l).2 := by
  simp only [reservedNext]
  split <;> simp (maxDischargeDepth := 30) [*]

@[simp] theorem enterRegion_at (s : State) (l : List Beat) (r : ℕ) (hwf : At k v s) :
    At k v (enterRegion s l r) := by
  simp (maxDischargeDepth := 30) [enterRegion, *]

@[simp] theorem pickRegion_at (l : List Beat) (fuel : Nat) (s : State) (h : At k v s) : At k v (pickRegion l fuel s) := by
  induction fuel generalizing s with
  | zero => simpa [pickRegion] using h
  | succ n ih =>
    simp only [pickRegion]
    repeat' first | (simp +contextual (maxDischargeDepth := 30) [*]; done) | split

@[simp] theorem pickRequester_at (s : State) (l : List Beat) (hwf : At k v s) :
    At k v (pickRequester s l).2 := by
  simp only [pickRequester]
  repeat' split
  all_goals simp (maxDischargeDepth := 30) [*]

@[simp] theorem serveBeat_at [Away (¬k = Obj.ceCount)] [Away (¬k = Obj.lastError)] [Away (¬k = Obj.pagesRetired)] [Away (¬k = Obj.poisonReads)] [Away (¬k = Obj.retiredPages)] [Away (¬k = Obj.storeState)] [Away (¬k = Obj.ueCount)] (s : State) (b : Beat) (hwf : At k v s) :
    At k v (serveBeat s b) := by
  simp only [serveBeat]
  split <;> simp (maxDischargeDepth := 30) [*]

theorem execArbiterGrant_at [Away (¬k = Obj.ceCount)] [Away (¬k = Obj.grants)] [Away (¬k = Obj.lastError)] [Away (¬k = Obj.pagesRetired)] [Away (¬k = Obj.poisonReads)] [Away (¬k = Obj.reservedGrants)] [Away (¬k = Obj.retiredPages)] [Away (¬k = Obj.storeState)] [Away (¬k = Obj.ueCount)] (waiting : List Beat) (s : State) (hwf : At k v s) :
    outAt k v (execArbiterGrant waiting s) := by
  have := ‹Away (¬k = Obj.grants)›.out
  have := ‹Away (¬k = Obj.reservedGrants)›.out
  unfold execArbiterGrant
  dsimp only
  split
  · simpa
  · have hs : At k v (fillTokens s) := fillTokens_at s hwf
    generalize List.filter (beatReady s) waiting = l
    generalize fillTokens s = s at hs ⊢
    split
    next b t e =>
      have ht := reservedNext_at s l hs
      rw [e] at ht
      simp (maxDischargeDepth := 30) [*]
    next t e =>
      have ht := reservedNext_at s l hs
      rw [e] at ht
      have hp := pickRegion_at l 16 t ht
      generalize pickRegion l 16 t = p at hp ⊢
      have hq := pickRequester_at p l hp
      generalize pickRequester p l = q at hq ⊢
      split
      · split <;> simp (maxDischargeDepth := 30) [*]
      · simpa

end Sys2Proof.Machine
end

