-- ==== Sys2Proof/Laws/AtCollector.lean ====
section
/-! SUPPORT. The objects that every operation of Machine/Collector.lean can write. -/

namespace Sys2Proof.Machine

variable {k : Key} {v : Val}

@[simp] theorem settleRates_at [Away (¬k = Obj.ratePm)] [Away (¬k = Obj.reserve2Pm)] (s : State) (hwf : At k v s) :
    At k v (settleRates s) := by
  have := ‹Away (¬k = Obj.ratePm)›.out
  have := ‹Away (¬k = Obj.reserve2Pm)›.out
  simp (maxDischargeDepth := 30) [settleRates, *]

@[simp] theorem stopPlayer_at [Away (∀ a, ¬k = Obj.actuatorState a)] [Away (∀ a, ¬k = Obj.badClauses a)] [Away (∀ a b, ¬k = Obj.clipCount a b)] [Away (∀ a, ¬k = Obj.incompleteCount a)] [Away (∀ a, ¬k = Obj.loadState a)] [Away (∀ a, ¬k = Obj.objFaults a)] [Away (∀ a b, ¬k = Obj.offsetRailCount a b)] [Away (∀ a, ¬k = Obj.playerState a)] [Away (∀ a, ¬k = Obj.sentences a)] [Away (∀ a, ¬k = Obj.settleMisses a)] [Away (∀ a, ¬k = Obj.sm1CorrectedCount a)] [Away (∀ a b, ¬k = Obj.stuckCount a b)] [Away (∀ a, ¬k = Obj.surfaceState a)] [Away (∀ a, ¬k = Obj.timedCount a)] [Away (∀ a, ¬k = Obj.underruns a)] [Away (∀ a, ¬k = Obj.windowEnds a)] (s : State) (p : ℕ) (st : ℕ) (hwf : At k v s) :
    At k v (stopPlayer s p st) := by
  have := ‹Away (∀ a, ¬k = Obj.playerState a)›.out
  simp only [stopPlayer]
  split <;> simp (maxDischargeDepth := 30) [*]

@[simp] theorem repairRow_at (s : State) (o : Owner) (row : ℕ) (hwf : At k v s) :
    At k v (repairRow s o row) := by
  simp only [repairRow]
  split <;> simp (maxDischargeDepth := 30) [*]

@[simp] theorem railSeen_at [Away (¬k = Obj.railState)] (s : State) (ev : Event) (hwf : At k v s) :
    At k v (railSeen s ev) := by
  have := ‹Away (¬k = Obj.railState)›.out
  simp (maxDischargeDepth := 30) [railSeen, *]

theorem execSafeRestartTimeout_at [Away (∀ a, ¬k = Obj.badClauses a)] [Away (∀ a b, ¬k = Obj.clipCount a b)] [Away (∀ a, ¬k = Obj.driveState a)] [Away (∀ a, ¬k = Obj.incompleteCount a)] [Away (∀ a, ¬k = Obj.ioSlotsHeld a)] [Away (∀ a, ¬k = Obj.linkSpeed a)] [Away (∀ a, ¬k = Obj.linkWidth a)] [Away (∀ a, ¬k = Obj.loadState a)] [Away (¬k = Obj.lockInUse)] [Away (∀ a, ¬k = Obj.objFaults a)] [Away (∀ a b, ¬k = Obj.offsetRailCount a b)] [Away (∀ a, ¬k = Obj.retracts a)] [Away (∀ a, ¬k = Obj.sentences a)] [Away (∀ a, ¬k = Obj.settleMisses a)] [Away (¬k = Obj.slotsInUse)] [Away (∀ a, ¬k = Obj.sm1CorrectedCount a)] [Away (∀ a b, ¬k = Obj.stuckCount a b)] [Away (∀ a, ¬k = Obj.timedCount a)] [Away (∀ a, ¬k = Obj.underruns a)] [Away (∀ a, ¬k = Obj.windowEnds a)] [Away (¬k = Obj.writebacks)] [Away (∀ a, ¬k = Obj.writeUnsafeCount a)] (s : State) (hwf : At k v s) :
    outAt k v (execSafeRestartTimeout s) := by
  simp (maxDischargeDepth := 30) [execSafeRestartTimeout, *]

theorem execSafeEntriesExpire_at [Away (¬k = Obj.safeEntries)] (s : State) (hwf : At k v s) :
    outAt k v (execSafeEntriesExpire s) := by
  have := ‹Away (¬k = Obj.safeEntries)›.out
  simp (maxDischargeDepth := 30) [execSafeEntriesExpire, *]

@[simp] theorem captureRearm_at (s : State) (r : ℕ) (hwf : At k v s) :
    At k v (captureRearm s r) := by
  simp (maxDischargeDepth := 30) [captureRearm, *]

theorem execLedgerMirror_at (s : State) (hwf : At k v s) :
    outAt k v (execLedgerMirror s) := by
  simp (maxDischargeDepth := 30) [execLedgerMirror, *]

theorem execLedgerMirrorDone_at [Away (¬k = Obj.mirrorSeq)] (s : State) (hwf : At k v s) :
    outAt k v (execLedgerMirrorDone s) := by
  have := ‹Away (¬k = Obj.mirrorSeq)›.out
  simp only [execLedgerMirrorDone]
  split <;> simp (maxDischargeDepth := 30) [*]

theorem execLedgerBandCopy_at (s : State) (hwf : At k v s) :
    outAt k v (execLedgerBandCopy s) := by
  simp (maxDischargeDepth := 30) [execLedgerBandCopy, *]

end Sys2Proof.Machine
end

