-- ==== Sys2Proof/Laws/AtFirmware.lean ====
section
/-! SUPPORT. The objects that every operation of Machine/Firmware.lean can write. -/

namespace Sys2Proof.Machine

variable {k : Key} {v : Val}

theorem execFirmwareImageDownload_at [Away (∀ a, ¬k = Obj.commands a)] [Away (∀ a, ¬k = Obj.driveState a)] [Away (∀ a, ¬k = Obj.ioSlotsHeld a)] [Away (¬k = Obj.lockInUse)] [Away (¬k = Obj.lockStallMaxUs)] [Away (∀ a, ¬k = Obj.retracts a)] [Away (¬k = Obj.slotsInUse)] (slot : ℕ) (piece : Bytes) (s : State) (hwf : At k v s) :
    outAt k v (execFirmwareImageDownload slot piece s) := by
  simp only [execFirmwareImageDownload]
  split <;> simp (maxDischargeDepth := 30) [*]

@[simp] theorem programSlot_at (s : State) (x : SlotProgram) (hwf : At k v s) :
    At k v (programSlot s x) := by
  simp (maxDischargeDepth := 30) [programSlot, *]

@[simp] theorem commitProgram_at [Away (∀ a, ¬k = Obj.commands a)] [Away (∀ a, ¬k = Obj.driveState a)] [Away (∀ a, ¬k = Obj.ioSlotsHeld a)] [Away (¬k = Obj.lockInUse)] [Away (¬k = Obj.lockStallMaxUs)] [Away (∀ a, ¬k = Obj.retracts a)] [Away (¬k = Obj.slotsInUse)] (s : State) (n : ℕ) (c : CmdSlot) (pend : Bool) (hwf : At k v s) :
    At k v (commitProgram s n c pend) := by
  simp only [commitProgram]
  split <;> simp (maxDischargeDepth := 30) [*]

theorem execFirmwareCommitReplace_at [Away (∀ a, ¬k = Obj.commands a)] [Away (∀ a, ¬k = Obj.driveState a)] [Away (∀ a, ¬k = Obj.ioSlotsHeld a)] [Away (¬k = Obj.lockInUse)] [Away (¬k = Obj.lockStallMaxUs)] [Away (∀ a, ¬k = Obj.retracts a)] [Away (¬k = Obj.slotsInUse)] (slot : ℕ) (s : State) (hwf : At k v s) :
    outAt k v (execFirmwareCommitReplace slot s) := by
  simp only [execFirmwareCommitReplace]
  split <;> simp (maxDischargeDepth := 30) [*]

theorem execFirmwareCommitReplaceActivate_at [Away (∀ a, ¬k = Obj.commands a)] [Away (∀ a, ¬k = Obj.driveState a)] [Away (∀ a, ¬k = Obj.ioSlotsHeld a)] [Away (¬k = Obj.lockInUse)] [Away (¬k = Obj.lockStallMaxUs)] [Away (∀ a, ¬k = Obj.retracts a)] [Away (¬k = Obj.slotsInUse)] (slot : ℕ) (s : State) (hwf : At k v s) :
    outAt k v (execFirmwareCommitReplaceActivate slot s) := by
  simp only [execFirmwareCommitReplaceActivate]
  split <;> simp (maxDischargeDepth := 30) [*]

@[simp] theorem pendSlot_at (s : State) (i : ℕ) (hwf : At k v s) :
    At k v (pendSlot s i) := by
  simp (maxDischargeDepth := 30) [pendSlot, *]

theorem execFirmwareCommitActivate_at [Away (∀ a, ¬k = Obj.commands a)] [Away (∀ a, ¬k = Obj.driveState a)] [Away (∀ a, ¬k = Obj.ioSlotsHeld a)] [Away (¬k = Obj.lockInUse)] [Away (¬k = Obj.lockStallMaxUs)] [Away (∀ a, ¬k = Obj.retracts a)] [Away (¬k = Obj.slotsInUse)] (slot : ℕ) (s : State) (hwf : At k v s) :
    outAt k v (execFirmwareCommitActivate slot s) := by
  simp only [execFirmwareCommitActivate]
  repeat' split
  all_goals simp (maxDischargeDepth := 30) [*]

theorem execFirmwareCommitActivateNow_at [Away (¬k = Obj.activationState)] [Away (∀ a, ¬k = Obj.commands a)] [Away (∀ a, ¬k = Obj.driveState a)] [Away (∀ a, ¬k = Obj.ioSlotsHeld a)] [Away (¬k = Obj.lockInUse)] [Away (¬k = Obj.lockStallMaxUs)] [Away (∀ a, ¬k = Obj.retracts a)] [Away (¬k = Obj.slotsInUse)] (slot : ℕ) (s : State) (hwf : At k v s) :
    outAt k v (execFirmwareCommitActivateNow slot s) := by
  have := ‹Away (¬k = Obj.activationState)›.out
  simp only [execFirmwareCommitActivateNow]
  repeat' split
  all_goals simp (maxDischargeDepth := 30) [*]

theorem execFirmwareCommitInvalidAction_at [Away (∀ a, ¬k = Obj.commands a)] [Away (∀ a, ¬k = Obj.driveState a)] [Away (∀ a, ¬k = Obj.ioSlotsHeld a)] [Away (¬k = Obj.lockInUse)] [Away (¬k = Obj.lockStallMaxUs)] [Away (∀ a, ¬k = Obj.retracts a)] [Away (¬k = Obj.slotsInUse)] (slot : ℕ) (s : State) (hwf : At k v s) :
    outAt k v (execFirmwareCommitInvalidAction slot s) := by
  simp only [execFirmwareCommitInvalidAction]
  split <;> simp (maxDischargeDepth := 30) [*]

theorem execFirmwareCommitDone_at [Away (∀ a, ¬k = Obj.commands a)] [Away (∀ a, ¬k = Obj.driveState a)] [Away (∀ a, ¬k = Obj.ioSlotsHeld a)] [Away (¬k = Obj.lockInUse)] [Away (¬k = Obj.lockStallMaxUs)] [Away (∀ a, ¬k = Obj.retracts a)] [Away (¬k = Obj.slotsInUse)] (s : State) (hwf : At k v s) :
    outAt k v (execFirmwareCommitDone s) := by
  simp only [execFirmwareCommitDone]
  repeat' split
  all_goals simp (maxDischargeDepth := 30) [*]

@[simp] theorem loadStores_at (s : State) (slot : ℕ) (bank : ℕ) (hwf : At k v s) :
    At k v (loadStores s slot bank) := by
  unfold loadStores
  repeat' split
  all_goals simp_all (maxDischargeDepth := 30)

@[simp] theorem bankTo_at [Away (∀ a, ¬k = Obj.bankCurrent a)] (s : State) (bank : ℕ) (hwf : At k v s) :
    At k v (bankTo s bank) := by
  have := ‹Away (∀ a, ¬k = Obj.bankCurrent a)›.out
  unfold bankTo
  repeat' split
  all_goals simp_all (maxDischargeDepth := 30)

theorem execActivationStaged_at [Away (¬k = Obj.activationState)] [Away (∀ a, ¬k = Obj.commands a)] [Away (∀ a, ¬k = Obj.driveState a)] [Away (∀ a, ¬k = Obj.ioSlotsHeld a)] [Away (¬k = Obj.lockInUse)] [Away (¬k = Obj.lockStallMaxUs)] [Away (∀ a, ¬k = Obj.retracts a)] [Away (¬k = Obj.slotsInUse)] (s : State) (hwf : At k v s) :
    outAt k v (execActivationStaged s) := by
  have := ‹Away (¬k = Obj.activationState)›.out
  simp only [execActivationStaged]
  repeat' split
  all_goals simp (maxDischargeDepth := 30) [*]

@[simp] theorem settleActivation_at [Away (¬k = Obj.activationState)] (s : State) (hwf : At k v s) :
    At k v (settleActivation s) := by
  have := ‹Away (¬k = Obj.activationState)›.out
  simp only [settleActivation]
  split <;> simp (maxDischargeDepth := 30) [*]

@[simp] theorem imageRuns_at [Away (¬k = Obj.dictLevel)] [Away (¬k = Obj.runningSlot)] (s : State) (slot : ℕ) (hwf : At k v s) :
    At k v (imageRuns s slot) := by
  have := ‹Away (¬k = Obj.dictLevel)›.out
  have := ‹Away (¬k = Obj.runningSlot)›.out
  simp only [imageRuns]
  split <;> simp (maxDischargeDepth := 30) [*]

theorem execActivationBankSwitch_at [Away (¬k = Obj.activationState)] [Away (∀ a, ¬k = Obj.bankCurrent a)] (s : State) (hwf : At k v s) :
    outAt k v (execActivationBankSwitch s) := by
  unfold execActivationBankSwitch
  repeat' split
  all_goals simp_all (maxDischargeDepth := 30)

@[simp] theorem bundleAsk_at (s : State) (b : List Byte) (hwf : At k v s) :
    At k v (bundleAsk s b).2 := by
  simp only [bundleAsk]
  repeat' split
  all_goals simp (maxDischargeDepth := 30) [*]

@[simp] theorem firstHolders_at (s : State) (hwf : At k v s) :
    At k v (firstHolders s) := by
  unfold firstHolders
  repeat' split
  all_goals simp_all (maxDischargeDepth := 30)

@[simp] theorem bundleOnto_at (s : State) (u : ℕ) (b : List Byte) (hwf : At k v s) :
    At k v (bundleOnto s u b) := by
  simp (maxDischargeDepth := 30) [bundleOnto, *]

theorem execBundleWriteDone_at [Away (¬k = Obj.bundlePendingGen)] (s : State) (hwf : At k v s) :
    outAt k v (execBundleWriteDone s) := by
  have := ‹Away (¬k = Obj.bundlePendingGen)›.out
  unfold execBundleWriteDone
  repeat' split
  all_goals simp_all (maxDischargeDepth := 30)

@[simp] theorem recoveryAsk_at (s : State) (b : List Byte) (hwf : At k v s) :
    At k v (recoveryAsk s b).2 := by
  simp only [recoveryAsk]
  repeat' split
  all_goals simp (maxDischargeDepth := 30) [*]

@[simp] theorem ownerKeyAsk_at [Away (¬k = Obj.ownerKeyState)] (s : State) (k1 : List Byte) (hwf : At k v s) :
    At k v (ownerKeyAsk s k1).2 := by
  have := ‹Away (¬k = Obj.ownerKeyState)›.out
  simp only [ownerKeyAsk]
  split <;> simp (maxDischargeDepth := 30) [*]

@[simp] theorem eraseNamespace_at [Away (¬k = Obj.cacheDirtyKib)] [Away (¬k = Obj.chunksToRebuild)] [Away (∀ a, ¬k = Obj.commands a)] [Away (¬k = Obj.criticalStripes)] [Away (¬k = Obj.degradedStripes)] [Away (¬k = Obj.flushes)] [Away (¬k = Obj.fuaWrites)] [Away (∀ a, ¬k = Obj.ioSlotsHeld a)] [Away (¬k = Obj.journalFree)] [Away (¬k = Obj.journalOpen)] [Away (¬k = Obj.lockInUse)] [Away (¬k = Obj.lockStallMaxUs)] [Away (¬k = Obj.lostEntries)] [Away (¬k = Obj.lostMerges)] [Away (∀ a, ¬k = Obj.nsKeyGen a)] [Away (¬k = Obj.rebuildState)] [Away (¬k = Obj.remapCrowded)] [Away (¬k = Obj.remapEntries)] [Away (¬k = Obj.replayPending)] [Away (¬k = Obj.reshapeState)] [Away (¬k = Obj.slotsInUse)] [Away (¬k = Obj.stripesUsed)] [Away (¬k = Obj.substCrowded)] (s : State) (ns : Namespace) (hwf : At k v s) :
    At k v (eraseNamespace s ns) := by
  have := ‹Away (∀ a, ¬k = Obj.nsKeyGen a)›.out
  simp only [eraseNamespace]
  split <;> simp (maxDischargeDepth := 30) [*]

@[simp] theorem settleFormats_at [Away (∀ a, ¬k = Obj.commands a)] [Away (∀ a, ¬k = Obj.driveState a)] [Away (∀ a, ¬k = Obj.ioSlotsHeld a)] [Away (¬k = Obj.lockInUse)] [Away (¬k = Obj.lockStallMaxUs)] [Away (∀ a, ¬k = Obj.retracts a)] [Away (¬k = Obj.slotsInUse)] (s : State) (hwf : At k v s) :
    At k v (settleFormats s) := by
  unfold settleFormats
  repeat' split
  all_goals simp_all (maxDischargeDepth := 30)

@[simp] theorem eraseBegin_at (s : State) (l : List ℕ) (hwf : At k v s) :
    At k v (eraseBegin s l) := by
  simp (maxDischargeDepth := 30) [eraseBegin, *]

theorem execSanitize_at [Away (∀ a, ¬k = Obj.commands a)] [Away (∀ a, ¬k = Obj.driveState a)] [Away (∀ a, ¬k = Obj.ioSlotsHeld a)] [Away (¬k = Obj.lockInUse)] [Away (¬k = Obj.lockStallMaxUs)] [Away (∀ a, ¬k = Obj.retracts a)] [Away (¬k = Obj.slotsInUse)] (slot : ℕ) (action : SanitizeAction) (s : State) (hwf : At k v s) :
    outAt k v (execSanitize slot action s) := by
  simp only [execSanitize]
  split <;> simp (maxDischargeDepth := 30) [*]

theorem execFormatNvm_at [Away (∀ a, ¬k = Obj.commands a)] [Away (∀ a, ¬k = Obj.driveState a)] [Away (∀ a, ¬k = Obj.ioSlotsHeld a)] [Away (¬k = Obj.lockInUse)] [Away (¬k = Obj.lockStallMaxUs)] [Away (∀ a, ¬k = Obj.retracts a)] [Away (¬k = Obj.slotsInUse)] (slot : ℕ) (s : State) (hwf : At k v s) :
    outAt k v (execFormatNvm slot s) := by
  simp only [execFormatNvm]
  split <;> simp (maxDischargeDepth := 30) [*]

@[simp] theorem finishErases_at [Away (¬k = Obj.cacheDirtyKib)] [Away (¬k = Obj.chunksToRebuild)] [Away (∀ a, ¬k = Obj.commands a)] [Away (¬k = Obj.criticalStripes)] [Away (¬k = Obj.degradedStripes)] [Away (∀ a, ¬k = Obj.driveState a)] [Away (¬k = Obj.flushes)] [Away (¬k = Obj.fuaWrites)] [Away (∀ a, ¬k = Obj.ioSlotsHeld a)] [Away (¬k = Obj.journalFree)] [Away (¬k = Obj.journalOpen)] [Away (¬k = Obj.lockInUse)] [Away (¬k = Obj.lockStallMaxUs)] [Away (¬k = Obj.lostEntries)] [Away (¬k = Obj.lostMerges)] [Away (∀ a, ¬k = Obj.nsKeyGen a)] [Away (¬k = Obj.rebuildState)] [Away (¬k = Obj.remapCrowded)] [Away (¬k = Obj.remapEntries)] [Away (¬k = Obj.replayPending)] [Away (¬k = Obj.reshapeState)] [Away (∀ a, ¬k = Obj.retracts a)] [Away (¬k = Obj.slotsInUse)] [Away (¬k = Obj.stripesUsed)] [Away (¬k = Obj.substCrowded)] (s : State) (h : At k v s) : At k v (finishErases s) := by
  unfold finishErases
  refine settleFormats_at _ (State.each_at h fun t x ht => ?_)
  repeat' first | (simp +contextual (maxDischargeDepth := 30) [*]; done) | split

@[simp] theorem nonceRead_at (s : State) (who : Requester) (hwf : At k v s) :
    At k v (nonceRead s who).2 := by
  simp (maxDischargeDepth := 30) [nonceRead, *]

theorem execLifecycleNonceExpire_at (s : State) (hwf : At k v s) :
    outAt k v (execLifecycleNonceExpire s) := by
  simp (maxDischargeDepth := 30) [execLifecycleNonceExpire, *]

theorem execTapInstruction_at (i : TapInstr) (s : State) (hwf : At k v s) :
    outAt k v (execTapInstruction i s) := by
  simp only [execTapInstruction]
  repeat' split
  all_goals simp (maxDischargeDepth := 30) [*]

@[simp] theorem spdmSend_at (s : State) (via : SpdmPort) (msg : List Byte) (hwf : At k v s) :
    At k v (spdmSend s via msg) := by
  simp only [spdmSend]
  split <;> simp (maxDischargeDepth := 30) [*]

@[simp] theorem spdmError_at (s : State) (via : SpdmPort) (code : ℕ) (hwf : At k v s) :
    At k v (spdmError s via code) := by
  simp (maxDischargeDepth := 30) [spdmError, *]

@[simp] theorem addVca_at (s : State) (via : SpdmPort) (b : List Byte) (hwf : At k v s) :
    At k v (addVca s via b) := by
  simp (maxDischargeDepth := 30) [addVca, *]

@[simp] theorem addChal_at (s : State) (via : SpdmPort) (b : List Byte) (hwf : At k v s) :
    At k v (addChal s via b) := by
  simp (maxDischargeDepth := 30) [addChal, *]

@[simp] theorem setMeas_at (s : State) (via : SpdmPort) (b : List Byte) (hwf : At k v s) :
    At k v (setMeas s via b) := by
  simp (maxDischargeDepth := 30) [setMeas, *]

@[simp] theorem spdmVersion_at (s : State) (via : SpdmPort) (request : List Byte) (hwf : At k v s) :
    At k v (spdmVersion s via request) := by
  simp (maxDischargeDepth := 30) [spdmVersion, *]

@[simp] theorem spdmCapabilities_at (s : State) (via : SpdmPort) (request : List Byte) (hwf : At k v s) :
    At k v (spdmCapabilities s via request) := by
  simp (maxDischargeDepth := 30) [spdmCapabilities, *]

@[simp] theorem spdmAlgorithms_at (s : State) (via : SpdmPort) (request : List Byte) (hwf : At k v s) :
    At k v (spdmAlgorithms s via request) := by
  simp (maxDischargeDepth := 30) [spdmAlgorithms, *]

@[simp] theorem spdmDigests_at (s : State) (via : SpdmPort) (request : List Byte) (hwf : At k v s) :
    At k v (spdmDigests s via request) := by
  simp (maxDischargeDepth := 30) [spdmDigests, *]

@[simp] theorem spdmCertificate_at (s : State) (via : SpdmPort) (slot : ℕ) (offset : ℕ) (len : ℕ) (request : List Byte) (hwf : At k v s) :
    At k v (spdmCertificate s via slot offset len request) := by
  simp (maxDischargeDepth := 30) [spdmCertificate, *]

@[simp] theorem spdmChallenge_at (s : State) (via : SpdmPort) (slot : ℕ) (hashType : ℕ) (request : List Byte) (hwf : At k v s) :
    At k v (spdmChallenge s via slot hashType request) := by
  simp (maxDischargeDepth := 30) [spdmChallenge, *]

@[simp] theorem spdmMeasurements_at (s : State) (via : SpdmPort) (index : ℕ) (signed : Bool) (slot : ℕ) (request : List Byte) (hwf : At k v s) :
    At k v (spdmMeasurements s via index signed slot request) := by
  simp (maxDischargeDepth := 30) [spdmMeasurements, *]

@[simp] theorem spdmAfter_at (s : State) (via : SpdmPort) (f : State → State) (hwf : At k v s)
    (hd : ∀ t : State, At k v t → At k v (f t)) : At k v (spdmAfter s via f) := by
  simp only [spdmAfter]
  split <;> simp (maxDischargeDepth := 30) [*]

@[simp] theorem spdmRefuse_at (s : State) (via : SpdmPort) (hwf : At k v s) :
    At k v (spdmRefuse s via) := by
  simp (maxDischargeDepth := 30) [spdmRefuse, *]

theorem execSpdmGetVersion_at (via : SpdmPort) (s : State) (hwf : At k v s) :
    outAt k v (execSpdmGetVersion via s) := by
  simp (maxDischargeDepth := 30) [execSpdmGetVersion, *]

theorem execSpdmGetCapabilities_at (via : SpdmPort) (request : Bytes) (s : State) (hwf : At k v s) :
    outAt k v (execSpdmGetCapabilities via request s) := by
  simp (maxDischargeDepth := 30) [execSpdmGetCapabilities, *]

theorem execSpdmNegotiateAlgorithms_at (via : SpdmPort) (request : Bytes) (s : State) (hwf : At k v s) :
    outAt k v (execSpdmNegotiateAlgorithms via request s) := by
  simp (maxDischargeDepth := 30) [execSpdmNegotiateAlgorithms, *]

theorem execSpdmGetDigests_at (via : SpdmPort) (s : State) (hwf : At k v s) :
    outAt k v (execSpdmGetDigests via s) := by
  unfold execSpdmGetDigests
  repeat' split
  all_goals simp_all (maxDischargeDepth := 30)

theorem execSpdmGetCertificate_at (via : SpdmPort) (slot : ℕ) (offset : ℕ) (len : ℕ) (s : State) (hwf : At k v s) :
    outAt k v (execSpdmGetCertificate via slot offset len s) := by
  unfold execSpdmGetCertificate
  repeat' split
  all_goals simp_all (maxDischargeDepth := 30)

theorem execSpdmChallenge_at (via : SpdmPort) (slot : ℕ) (hashType : ℕ) (nonce : Bytes) (s : State) (hwf : At k v s) :
    outAt k v (execSpdmChallenge via slot hashType nonce s) := by
  unfold execSpdmChallenge
  repeat' split
  all_goals simp_all (maxDischargeDepth := 30)

theorem execSpdmGetMeasurements_at (via : SpdmPort) (attributes : ℕ) (index : ℕ) (slotId : ℕ) (nonce : Bytes) (s : State) (hwf : At k v s) :
    outAt k v (execSpdmGetMeasurements via attributes index slotId nonce s) := by
  unfold execSpdmGetMeasurements
  repeat' split
  all_goals simp_all (maxDischargeDepth := 30)

theorem execSpdmUnsupported_at (via : SpdmPort) (_req : SpdmUnsupported) (s : State) (hwf : At k v s) :
    outAt k v (execSpdmUnsupported via _req s) := by
  simp (maxDischargeDepth := 30) [execSpdmUnsupported, *]

@[simp] theorem spdmRequest_at (s : State) (via : SpdmPort) (b : List Byte) (hwf : At k v s) :
    At k v (spdmRequest s via b) := by
  unfold spdmRequest
  repeat' split
  all_goals simp_all (maxDischargeDepth := 30)

theorem execSecuritySend_at [Away (∀ a, ¬k = Obj.commands a)] [Away (∀ a, ¬k = Obj.driveState a)] [Away (∀ a, ¬k = Obj.ioSlotsHeld a)] [Away (¬k = Obj.lockInUse)] [Away (¬k = Obj.lockStallMaxUs)] [Away (∀ a, ¬k = Obj.retracts a)] [Away (¬k = Obj.slotsInUse)] (slot : ℕ) (data : Bytes) (s : State) (hwf : At k v s) :
    outAt k v (execSecuritySend slot data s) := by
  simp only [execSecuritySend]
  split <;> simp (maxDischargeDepth := 30) [*]

theorem execSecurityReceive_at [Away (∀ a, ¬k = Obj.commands a)] [Away (∀ a, ¬k = Obj.driveState a)] [Away (∀ a, ¬k = Obj.ioSlotsHeld a)] [Away (¬k = Obj.lockInUse)] [Away (¬k = Obj.lockStallMaxUs)] [Away (∀ a, ¬k = Obj.retracts a)] [Away (¬k = Obj.slotsInUse)] (slot : ℕ) (s : State) (hwf : At k v s) :
    outAt k v (execSecurityReceive slot s) := by
  simp only [execSecurityReceive]
  split <;> simp (maxDischargeDepth := 30) [*]

end Sys2Proof.Machine
end

