-- ==== Sys2Proof/Laws/AtStart.lean ====
section
/-! SUPPORT. The objects that every operation of Machine/Start.lean can write. -/

namespace Sys2Proof.Machine

variable {k : Key} {v : Val}

@[simp] theorem State.setDict_at (s : State) (d : DictSvc) (hwf : At k v s) :
    At k v (State.setDict s d) := by
  simp (maxDischargeDepth := 30) [State.setDict, *]

@[simp] theorem attemptStart_at [Away (¬k = Obj.altForce)] [Away (¬k = Obj.attempt)] [Away (¬k = Obj.degraded)] (s : State) (hwf : At k v s) :
    At k v (attemptStart s) := by
  have := ‹Away (¬k = Obj.altForce)›.out
  have := ‹Away (¬k = Obj.attempt)›.out
  have := ‹Away (¬k = Obj.degraded)›.out
  simp (maxDischargeDepth := 30) [attemptStart, *]

@[simp] theorem leaveOut_at [Away (∀ a, ¬k = Obj.actuatorState a)] [Away (¬k = Obj.degraded)] [Away (∀ a, ¬k = Obj.surfaceState a)] (s : State) (a : ℕ) (k1 : ℕ) (hwf : At k v s) :
    At k v (leaveOut s a k1) := by
  have := ‹Away (∀ a, ¬k = Obj.actuatorState a)›.out
  simp (maxDischargeDepth := 30) [leaveOut, *]

@[simp] theorem chooseSlot_at (s : State) (hwf : At k v s) :
    At k v (chooseSlot s) := by
  simp (maxDischargeDepth := 30) [chooseSlot, *]

@[simp] theorem repairsDone_at (s : State) (found : StepFindings) (hwf : At k v s) :
    At k v (repairsDone s found) := by
  simp (maxDischargeDepth := 30) [repairsDone, *]

@[simp] theorem zeroFillInit_at [Away (¬k = Obj.pagesRetired)] [Away (¬k = Obj.retiredPages)] [Away (¬k = Obj.sparesFree)] [Away (¬k = Obj.storeState)] (s : State) (alt : Bool) (hwf : At k v s) :
    At k v (zeroFillInit s alt) := by
  have := ‹Away (¬k = Obj.pagesRetired)›.out
  have := ‹Away (¬k = Obj.retiredPages)›.out
  have := ‹Away (¬k = Obj.sparesFree)›.out
  simp (maxDischargeDepth := 30) [zeroFillInit, *]

@[simp] theorem keeperScan_at [Away (¬k = Obj.keeperBadBlocks)] [Away (¬k = Obj.keeperState)] [Away (¬k = Obj.lastDumpMs)] (s : State) (hwf : At k v s) :
    At k v (keeperScan s) := by
  have := ‹Away (¬k = Obj.keeperBadBlocks)›.out
  have := ‹Away (¬k = Obj.keeperState)›.out
  have := ‹Away (¬k = Obj.lastDumpMs)›.out
  simp only [keeperScan]
  repeat' split
  all_goals simp (maxDischargeDepth := 30) [*]

@[simp] theorem keeperLeftOut_at [Away (¬k = Obj.degraded)] [Away (¬k = Obj.keeperState)] (s : State) (hwf : At k v s) :
    At k v (keeperLeftOut s) := by
  have := ‹Away (¬k = Obj.keeperState)›.out
  unfold keeperLeftOut
  repeat' split
  all_goals simp_all (maxDischargeDepth := 30)

@[simp] theorem rewriteCopies_at (s : State) (kept : SMap Val) (hwf : At k v s) :
    At k v (rewriteCopies s kept) := by
  simp (maxDischargeDepth := 30) [rewriteCopies, *]

@[simp] theorem loadReservations_at (s : State) (hwf : At k v s) :
    At k v (loadReservations s) := by
  simp (maxDischargeDepth := 30) [loadReservations, *]

@[simp] theorem loadPresets_at [Away (∀ a, ¬k = Obj.eqPresets a)] (s : State) (slot : ℕ) (hwf : At k v s) :
    At k v (loadPresets s slot) := by
  have := ‹Away (∀ a, ¬k = Obj.eqPresets a)›.out
  unfold loadPresets
  repeat' split
  all_goals simp_all (maxDischargeDepth := 30)

@[simp] theorem takeSettings_at (s : State) (hwf : At k v s) :
    At k v (takeSettings s) := by
  simp (maxDischargeDepth := 30) [takeSettings, *]

@[simp] theorem releaseRecords_at [Away (∀ a, ¬k = Obj.commands a)] [Away (∀ a, ¬k = Obj.dropsSev a)] [Away (∀ a, ¬k = Obj.ioSlotsHeld a)] [Away (¬k = Obj.lockInUse)] [Away (¬k = Obj.newestSeq)] [Away (¬k = Obj.newestSeqLo)] [Away (¬k = Obj.records)] [Away (¬k = Obj.slotsInUse)] (s : State) (hwf : At k v s) :
    At k v (releaseRecords s) := by
  simp (maxDischargeDepth := 30) [releaseRecords, *]

@[simp] theorem handshake_at [Away (¬k = Obj.heartbeatArmed)] [Away (¬k = Obj.holdupUf)] [Away (¬k = Obj.linkState)] [Away (¬k = Obj.mdVersion)] [Away (∀ a, ¬k = Obj.vcmRMohm a)] (s : State) (found : StepFindings) (hwf : At k v s) :
    At k v (handshake s found) := by
  have := ‹Away (¬k = Obj.heartbeatArmed)›.out
  have := ‹Away (¬k = Obj.holdupUf)›.out
  have := ‹Away (¬k = Obj.linkState)›.out
  have := ‹Away (¬k = Obj.mdVersion)›.out
  have := ‹Away (∀ a, ¬k = Obj.vcmRMohm a)›.out
  unfold handshake
  repeat' first | (simp +contextual (maxDischargeDepth := 30) [*]; done) | split

@[simp] theorem restartMotion_at [Away (¬k = Obj.heartbeatArmed)] (s : State) (hwf : At k v s) :
    At k v (restartMotion s) := by
  have := ‹Away (¬k = Obj.heartbeatArmed)›.out
  simp (maxDischargeDepth := 30) [restartMotion, *]

@[simp] theorem switchesOn_at [Away (∀ a, ¬k = Obj.preampState a)] [Away (¬k = Obj.v3p3Enable)] (s : State) (hwf : At k v s) :
    At k v (switchesOn s) := by
  have := ‹Away (∀ a, ¬k = Obj.preampState a)›.out
  unfold switchesOn
  repeat' split
  all_goals simp_all (maxDischargeDepth := 30)

@[simp] theorem acquisition_at [Away (∀ a, ¬k = Obj.groupState a)] [Away (¬k = Obj.reinSlot)] [Away (¬k = Obj.serving)] [Away (∀ a b, ¬k = engKey a b)] (s : State) (hwf : At k v s) :
    At k v (acquisition s) := by
  have := ‹Away (¬k = Obj.reinSlot)›.out
  unfold acquisition
  repeat' split
  all_goals simp_all (maxDischargeDepth := 30)

@[simp] theorem acquired_at [Away (∀ a, ¬k = Obj.actuatorState a)] [Away (¬k = Obj.atSpeed)] [Away (¬k = Obj.degraded)] [Away (∀ a, ¬k = Obj.driveState a)] [Away (∀ a, ¬k = Obj.groupState a)] [Away (¬k = Obj.phaseLocked)] [Away (∀ a, ¬k = Obj.playerState a)] [Away (∀ a, ¬k = Obj.retracts a)] [Away (¬k = Obj.spinMode)] [Away (∀ a, ¬k = Obj.surfaceState a)] [Away (∀ a b, ¬k = engKey a b)] (s : State) (found : StepFindings) (hwf : At k v s) :
    At k v (acquired s found) := by
  unfold acquired
  repeat' split
  all_goals simp_all (maxDischargeDepth := 30)

@[simp] theorem loadBundle_at [Away (¬k = Obj.bundlePendingGen)] (s : State) (i : ℕ) (hwf : At k v s) :
    At k v (loadBundle s i) := by
  have := ‹Away (¬k = Obj.bundlePendingGen)›.out
  unfold loadBundle
  repeat' split
  all_goals simp_all (maxDischargeDepth := 30)

@[simp] theorem dumpReplay_at [Away (¬k = Obj.cacheDirtyKib)] [Away (¬k = Obj.lastReplaySeq)] (s : State) (bad : List ℕ) (hwf : At k v s) :
    At k v (dumpReplay s bad) := by
  have := ‹Away (¬k = Obj.lastReplaySeq)›.out
  simp only [dumpReplay]
  split <;> simp (maxDischargeDepth := 30) [*]

@[simp] theorem journalResync_at [Away (¬k = Obj.cacheDirtyKib)] [Away (¬k = Obj.degraded)] [Away (¬k = Obj.journalFree)] [Away (¬k = Obj.journalOpen)] [Away (¬k = Obj.replayPending)] [Away (¬k = Obj.replaySource)] [Away (¬k = Obj.replayState)] [Away (¬k = Obj.resyncPending)] [Away (¬k = Obj.wiDirtyGroups)] (s : State) (alt : Bool) (hwf : At k v s) :
    At k v (journalResync s alt) := by
  have := ‹Away (¬k = Obj.replaySource)›.out
  have := ‹Away (¬k = Obj.wiDirtyGroups)›.out
  simp only [journalResync]
  split <;> simp (maxDischargeDepth := 30) [*]

@[simp] theorem layoutMount_at [Away (¬k = Obj.cacheDirtyKib)] [Away (¬k = Obj.chunksToRebuild)] [Away (∀ a, ¬k = Obj.commands a)] [Away (¬k = Obj.criticalStripes)] [Away (¬k = Obj.degraded)] [Away (¬k = Obj.degradedStripes)] [Away (∀ a, ¬k = Obj.driveState a)] [Away (¬k = Obj.flushes)] [Away (¬k = Obj.fuaWrites)] [Away (∀ a, ¬k = Obj.ioSlotsHeld a)] [Away (¬k = Obj.journalFree)] [Away (¬k = Obj.journalOpen)] [Away (¬k = Obj.lockInUse)] [Away (¬k = Obj.lockStallMaxUs)] [Away (¬k = Obj.lostEntries)] [Away (¬k = Obj.lostMerges)] [Away (¬k = Obj.newestSeq)] [Away (¬k = Obj.newestSeqLo)] [Away (∀ a, ¬k = Obj.nsKeyGen a)] [Away (∀ a, ¬k = Obj.nsLayout a)] [Away (¬k = Obj.rebuildState)] [Away (¬k = Obj.records)] [Away (¬k = Obj.remapCrowded)] [Away (¬k = Obj.remapEntries)] [Away (¬k = Obj.replayPending)] [Away (¬k = Obj.reshapeState)] [Away (∀ a, ¬k = Obj.retracts a)] [Away (¬k = Obj.rowsTotal)] [Away (¬k = Obj.slotsInUse)] [Away (¬k = Obj.stripesUsed)] [Away (¬k = Obj.substCrowded)] [Away (∀ a, ¬k = Obj.surfaceState a)] (s : State) (alt : Bool) (hwf : At k v s) :
    At k v (layoutMount s alt) := by
  have := ‹Away (∀ a, ¬k = Obj.nsLayout a)›.out
  have := ‹Away (¬k = Obj.reshapeState)›.out
  have := ‹Away (¬k = Obj.rowsTotal)›.out
  have := ‹Away (∀ a, ¬k = Obj.surfaceState a)›.out
  unfold layoutMount
  extract_lets l1 s1 l2 s2 s3 s4 s5 s6 m c s7
  have h1 : At k v s1 := by
    unfold s1; split
    · exact State.setLayout_at _ _ hwf
    · exact hwf
  clear_value s1
  have h2 : At k v s2 := by
    unfold s2; split
    · exact setDegraded_at _ _ _ (State.setLayout_at _ _ h1)
    · exact h1
  clear_value s2
  have h3 : At k v s3 := At.setNum ‹_› h2
  clear_value s3
  have h4 : At k v s4 := State.each_at h3 fun t x h => At.setNum (‹∀ a, ¬k = Obj.nsLayout a› _) h
  clear_value s4
  have h5 : At k v s5 := State.each_at h4 fun t x h => At.setNum (‹∀ a, ¬k = Obj.surfaceState a› _) h
  clear_value s5
  have h6 : At k v s6 := At.setNum ‹_› h5
  clear_value s6
  have h7 : At k v s7 := by
    unfold s7; split
    · exact countRecords_at _ (State.setColl_at _ _ h6)
    · exact h6
  clear_value s7
  exact countJournal_at _ (countDirty_at _ (settleHolders_at _ (layoutChanged_at _ (finishErases_at _ h7))))

@[simp] theorem settleSlots_at (s : State) (hwf : At k v s) :
    At k v (settleSlots s) := by
  simp (maxDischargeDepth := 30) [settleSlots, *]

@[simp] theorem raiseSecurity_at [Away (¬k = Obj.minSecurityVersion)] (s : State) (hwf : At k v s) :
    At k v (raiseSecurity s) := by
  have := ‹Away (¬k = Obj.minSecurityVersion)›.out
  simp (maxDischargeDepth := 30) [raiseSecurity, *]

@[simp] theorem levelBundles_at (s : State) (hwf : At k v s) :
    At k v (levelBundles s) := by
  unfold levelBundles
  repeat' split
  all_goals simp_all (maxDischargeDepth := 30)

@[simp] theorem takeRpm_at (s : State) (hwf : At k v s) :
    At k v (takeRpm s) := by
  simp (maxDischargeDepth := 30) [takeRpm, *]

@[simp] theorem stepBegins_at [Away (¬k = Obj.assignedPhase)] [Away (¬k = Obj.atSpeed)] [Away (¬k = Obj.degraded)] [Away (∀ a, ¬k = Obj.driveState a)] [Away (¬k = Obj.epochOffset)] [Away (¬k = Obj.girthState)] [Away (∀ a, ¬k = Obj.groupState a)] [Away (¬k = Obj.heartbeatArmed)] [Away (¬k = Obj.hop)] [Away (¬k = Obj.masterTag)] [Away (¬k = Obj.phaseLocked)] [Away (∀ a, ¬k = Obj.preampState a)] [Away (¬k = Obj.reinSlot)] [Away (∀ a, ¬k = Obj.retracts a)] [Away (¬k = Obj.ringSize)] [Away (¬k = Obj.serving)] [Away (¬k = Obj.spinMode)] [Away (¬k = Obj.spinups)] [Away (¬k = Obj.targetRpm)] [Away (¬k = Obj.v3p3Enable)] [Away (∀ a b, ¬k = engKey a b)] (s : State) (hwf : At k v s) :
    At k v (stepBegins s) := by
  unfold stepBegins
  repeat' split
  all_goals simp_all (maxDischargeDepth := 30)

@[simp] theorem nextStep_at [Away (¬k = Obj.assignedPhase)] [Away (¬k = Obj.atSpeed)] [Away (¬k = Obj.degraded)] [Away (∀ a, ¬k = Obj.driveState a)] [Away (¬k = Obj.epochOffset)] [Away (¬k = Obj.girthState)] [Away (∀ a, ¬k = Obj.groupState a)] [Away (¬k = Obj.heartbeatArmed)] [Away (¬k = Obj.hop)] [Away (¬k = Obj.masterTag)] [Away (¬k = Obj.phaseLocked)] [Away (∀ a, ¬k = Obj.preampState a)] [Away (¬k = Obj.reinSlot)] [Away (∀ a, ¬k = Obj.retracts a)] [Away (¬k = Obj.ringSize)] [Away (¬k = Obj.serving)] [Away (¬k = Obj.spinMode)] [Away (¬k = Obj.spinups)] [Away (¬k = Obj.targetRpm)] [Away (¬k = Obj.v3p3Enable)] [Away (∀ a b, ¬k = engKey a b)] (s : State) (hwf : At k v s) :
    At k v (nextStep s) := by
  unfold nextStep
  repeat' split
  all_goals simp_all (maxDischargeDepth := 30)

end Sys2Proof.Machine
end

