-- ==== Sys2Proof/Laws/AtDictRead.lean ====
section
/-! SUPPORT. The objects that every operation of Machine/DictRead.lean can write. -/

namespace Sys2Proof.Machine

variable {k : Key} {v : Val}

@[simp] theorem freeVal_at (s : State) (k1 : Key) (hwf : At k v s) :
    At k v (freeVal s k1).2 := by
  simp only [freeVal]
  repeat' split
  all_goals simp (maxDischargeDepth := 30) [*]

@[simp] theorem readValue_at [Away (¬k = Obj.feedState)] [Away (¬k = Obj.tjC)] (s : State) (who : Requester) (k1 : Key) (hwf : At k v s) :
    At k v (readValue s who k1).2 := by
  have := ‹Away (¬k = Obj.feedState)›.out
  unfold readValue
  dsimp only
  split
  · simp [hwf]
  · split
    · simp [hwf]
    · split
      · simp [hwf]
      · split
        · subst_vars
          simp [*]
        · exact hwf

@[simp] theorem readObject_at [Away (¬k = Obj.feedState)] [Away (¬k = Obj.tjC)] (s : State) (who : Requester) (k1 : Key) (scalarOnly : Bool) (hwf : At k v s) :
    At k v (readObject s who k1 scalarOnly).2.2 := by
  simp only [readObject]
  split <;> simp (maxDischargeDepth := 30) [*]

@[simp] theorem bumpGen_at (s : State) (k1 : Key) (hwf : At k v s) :
    At k v (bumpGen s k1) := by
  simp (maxDischargeDepth := 30) [bumpGen, *]

@[simp] theorem noteContents_at (s : State) (k1 : Key) (b : List Byte) (hwf : At k v s) :
    At k v (noteContents s k1 b) := by
  simp only [noteContents]
  repeat' split
  all_goals simp (maxDischargeDepth := 30) [*]

@[simp] theorem readSegment_at [Away (¬k = Obj.feedState)] [Away (¬k = Obj.tjC)] (s : State) (who : Requester) (k1 : Key) (off : ℕ) (len : ℕ) (hwf : At k v s) :
    At k v (readSegment s who k1 off len).2 := by
  simp only [readSegment]
  split <;> simp (maxDischargeDepth := 30) [*]

end Sys2Proof.Machine
end

