-- ==== Sys2Proof/Laws/AtDictWrite.lean ====
section
/-! SUPPORT. The objects that every operation of Machine/DictWrite.lean can write. -/

namespace Sys2Proof.Machine

variable {k : Key} {v : Val}

@[simp] theorem settleActuator_at [Away (∀ a, ¬k = Obj.actuatorState a)] [Away (∀ a, ¬k = Obj.driveState a)] [Away (∀ a, ¬k = Obj.groupState a)] [Away (∀ a, ¬k = Obj.playerState a)] [Away (∀ a, ¬k = Obj.retracts a)] [Away (∀ a, ¬k = Obj.surfaceState a)] [Away (∀ a b, ¬k = engKey a b)] (s : State) (a : ℕ) (hwf : At k v s) :
    At k v (settleActuator s a) := by
  simp (maxDischargeDepth := 30) [settleActuator, *]

@[simp] theorem enableUnit_at [Away (¬k = Obj.assignedPhase)] [Away (¬k = Obj.degraded)] [Away (∀ a, ¬k = Obj.detectorState a)] [Away (∀ a, ¬k = Obj.dmaState a)] [Away (∀ a, ¬k = Obj.driveState a)] [Away (¬k = Obj.epochOffset)] [Away (¬k = Obj.girthInputState)] [Away (¬k = Obj.girthState)] [Away (∀ a, ¬k = Obj.groupState a)] [Away (¬k = Obj.hop)] [Away (∀ a b, ¬k = Obj.laneState a b)] [Away (∀ a, ¬k = Obj.ldpcState a)] [Away (¬k = Obj.masterTag)] [Away (∀ a, ¬k = Obj.portState a)] [Away (¬k = Obj.ratePm)] [Away (¬k = Obj.reserve2Pm)] [Away (¬k = Obj.ringSize)] [Away (¬k = Obj.serving)] [Away (∀ a b, ¬k = engKey a b)] (s : State) (o : Owner) (hwf : At k v s) :
    At k v (enableUnit s o) := by
  have := ‹Away (∀ a, ¬k = Obj.detectorState a)›.out
  have := ‹Away (∀ a, ¬k = Obj.dmaState a)›.out
  have := ‹Away (¬k = Obj.girthInputState)›.out
  have := ‹Away (∀ a, ¬k = Obj.ldpcState a)›.out
  have := ‹Away (∀ a, ¬k = Obj.portState a)›.out
  simp only [enableUnit]
  split <;> simp (maxDischargeDepth := 30) [*]

@[simp] theorem mailboxStart_at [Away (∀ a, ¬k = Obj.mbCmd a)] [Away (∀ a, ¬k = Obj.mbStatus a)] (s : State) (core : ℕ) (cmd : ℕ) (hwf : At k v s) :
    At k v (mailboxStart s core cmd) := by
  have := ‹Away (∀ a, ¬k = Obj.mbCmd a)›.out
  have := ‹Away (∀ a, ¬k = Obj.mbStatus a)›.out
  simp (maxDischargeDepth := 30) [mailboxStart, *]

@[simp] theorem actServo_at [Away (∀ a, ¬k = Obj.badClauses a)] [Away (∀ a b, ¬k = Obj.clipCount a b)] [Away (∀ a, ¬k = Obj.ffGain a)] [Away (∀ a, ¬k = Obj.incompleteCount a)] [Away (∀ a, ¬k = Obj.loadAddr a)] [Away (∀ a, ¬k = Obj.loadState a)] [Away (∀ a, ¬k = Obj.objFaults a)] [Away (∀ a b, ¬k = Obj.offsetRailCount a b)] [Away (∀ a, ¬k = Obj.sentences a)] [Away (∀ a, ¬k = Obj.settleMisses a)] [Away (∀ a, ¬k = Obj.sm1CorrectedCount a)] [Away (∀ a b, ¬k = Obj.stuckCount a b)] [Away (∀ a, ¬k = Obj.timedCount a)] [Away (∀ a, ¬k = Obj.traceState a)] [Away (∀ a, ¬k = Obj.underruns a)] [Away (∀ a, ¬k = Obj.windowEnds a)] (s : State) (j : Key) (w : Val) (h : At k v s) : optAt k v (actServo s j w) := by
  unfold actServo
  dsimp only
  repeat' apply optAt_orElse
  all_goals
    refine optAt_map fun x => ?_
    simp (maxDischargeDepth := 30) [h, *]

@[simp] theorem actCore_at [Away (∀ a, ¬k = Obj.chainAddr a)] [Away (∀ a, ¬k = Obj.chanStatus a)] [Away (∀ a, ¬k = Obj.dmaState a)] [Away (∀ a, ¬k = Obj.doneCount a)] [Away (¬k = Obj.lockedLines)] [Away (∀ a, ¬k = Obj.maintFirst a)] [Away (∀ a, ¬k = Obj.maintOp a)] [Away (∀ a, ¬k = Obj.maintStatus a)] [Away (∀ a, ¬k = Obj.mbCmd a)] [Away (∀ a, ¬k = Obj.mbStatus a)] [Away (¬k = Obj.misses)] [Away (∀ a, ¬k = Obj.notifyPending a)] [Away (∀ a, ¬k = Obj.objCtrl a)] [Away (∀ a, ¬k = Obj.objTransfers a)] [Away (∀ a, ¬k = Obj.poisonAddr a)] [Away (¬k = Obj.writebacks)] (s : State) (j : Key) (w : Val) (h : At k v s) : optAt k v (actCore s j w) := by
  have := ‹Away (∀ a, ¬k = Obj.notifyPending a)›.out
  unfold actCore
  dsimp only
  repeat' apply optAt_orElse
  all_goals
    refine optAt_map fun x => ?_
    simp (maxDischargeDepth := 30) [h, *]

@[simp] theorem selfCheckOutcome_at (s : State) (due : Bool) (given : Option Bool) (hwf : At k v s) :
    At k v (selfCheckOutcome s due given).2 := by
  simp only [selfCheckOutcome]
  repeat' split
  all_goals simp (maxDischargeDepth := 30) [*]

@[simp] theorem selfCheckEvent_at (s : State) (k1 : Key) (v1 : Option Val) (pass : Bool) (hwf : At k v s) :
    At k v (selfCheckEvent s k1 v1 pass) := by
  simp only [selfCheckEvent]
  split <;> simp (maxDischargeDepth := 30) [*]

@[simp] theorem dropStaging_at (s : State) (k1 : Key) (hwf : At k v s) :
    At k v (dropStaging s k1) := by
  simp (maxDischargeDepth := 30) [dropStaging, *]

@[simp] theorem mailboxEnd_at [Away (∀ a, ¬k = Obj.mbCmd a)] [Away (∀ a, ¬k = Obj.mbGen a)] [Away (∀ a, ¬k = Obj.mbStatus a)] (s : State) (core : ℕ) (status : ℕ) (gen : ℕ) (hwf : At k v s) :
    At k v (mailboxEnd s core status gen) := by
  have := ‹Away (∀ a, ¬k = Obj.mbCmd a)›.out
  have := ‹Away (∀ a, ¬k = Obj.mbGen a)›.out
  have := ‹Away (∀ a, ¬k = Obj.mbStatus a)›.out
  simp (maxDischargeDepth := 30) [mailboxEnd, *]

end Sys2Proof.Machine
end

