-- ==== Sys2Proof/Laws/AtDictService.lean ====
section
/-! SUPPORT. The objects that every operation of Machine/DictService.lean can write. -/

namespace Sys2Proof.Machine

variable {k : Key} {v : Val}

theorem execDictionaryGet_at [Away (∀ a, ¬k = Obj.commands a)] [Away (∀ a, ¬k = Obj.driveState a)] [Away (¬k = Obj.feedState)] [Away (∀ a, ¬k = Obj.ioSlotsHeld a)] [Away (¬k = Obj.lockInUse)] [Away (¬k = Obj.lockStallMaxUs)] [Away (∀ a, ¬k = Obj.retracts a)] [Away (¬k = Obj.slotsInUse)] [Away (¬k = Obj.tjC)] (slot : ℕ) (s : State) (hwf : At k v s) :
    outAt k v (execDictionaryGet slot s) := by
  simp only [execDictionaryGet]
  split <;> simp (maxDischargeDepth := 30) [*]

theorem execDictionaryBlockRead_at [Away (∀ a, ¬k = Obj.commands a)] [Away (∀ a, ¬k = Obj.driveState a)] [Away (¬k = Obj.feedState)] [Away (∀ a, ¬k = Obj.ioSlotsHeld a)] [Away (¬k = Obj.lockInUse)] [Away (¬k = Obj.lockStallMaxUs)] [Away (∀ a, ¬k = Obj.retracts a)] [Away (¬k = Obj.slotsInUse)] [Away (¬k = Obj.tjC)] (slot : ℕ) (s : State) (hwf : At k v s) :
    outAt k v (execDictionaryBlockRead slot s) := by
  simp only [execDictionaryBlockRead]
  split <;> simp (maxDischargeDepth := 30) [*]

@[simp] theorem readList_at [Away (¬k = Obj.feedState)] [Away (¬k = Obj.tjC)] (who : Requester) (l : List Key) (s : State) (h : At k v s) : At k v (readList who l s).2 := by
  induction l generalizing s with
  | nil => exact h
  | cons k r ih =>
    have h1 := readObject_at s who k true h
    rw [readList]
    generalize readObject s who k true = x at h1 ⊢
    obtain ⟨st, v, t⟩ := x
    dsimp only at h1 ⊢
    split
    · exact ih _ h1
    · exact ih _ (State.draw_at _ h1)

theorem execDictionaryListRead_at [Away (∀ a, ¬k = Obj.commands a)] [Away (∀ a, ¬k = Obj.driveState a)] [Away (¬k = Obj.feedState)] [Away (∀ a, ¬k = Obj.ioSlotsHeld a)] [Away (¬k = Obj.lockInUse)] [Away (¬k = Obj.lockStallMaxUs)] [Away (∀ a, ¬k = Obj.retracts a)] [Away (¬k = Obj.slotsInUse)] [Away (¬k = Obj.tjC)] (slot : ℕ) (s : State) (hwf : At k v s) :
    outAt k v (execDictionaryListRead slot s) := by
  simp only [execDictionaryListRead]
  split <;> simp (maxDischargeDepth := 30) [*]

@[simp] theorem respond_at (s : State) (h : BolhobaHeader) (opcode : ℕ) (st : ℕ) (idx : ℕ) (sub : ℕ) (count : ℕ) (payload : List Byte) (hwf : At k v s) :
    At k v (respond s h opcode st idx sub count payload) := by
  simp (maxDischargeDepth := 30) [respond, *]

@[simp] theorem answerBolhoba_at (s : State) (h : BolhobaHeader) (opcode : ℕ) (st : ℕ) (payload : List Byte) (hwf : At k v s) :
    At k v (answerBolhoba s h opcode st payload) := by
  simp (maxDischargeDepth := 30) [answerBolhoba, *]

@[simp] theorem bolhobaTurned_at (s : State) (h : BolhobaHeader) (opcode : ℕ) (hwf : At k v s) :
    At k v (bolhobaTurned s h opcode) := by
  simp (maxDischargeDepth := 30) [bolhobaTurned, *]

theorem execBolhobaGet_at [Away (¬k = Obj.feedState)] [Away (¬k = Obj.tjC)] (h : BolhobaHeader) (s : State) (hwf : At k v s) :
    outAt k v (execBolhobaGet h s) := by
  simp (maxDischargeDepth := 30) [execBolhobaGet, *]

theorem execBolhobaListGet_at [Away (¬k = Obj.feedState)] [Away (¬k = Obj.tjC)] (h : BolhobaHeader) (keys : List (ℕ × ℕ)) (s : State) (hwf : At k v s) :
    outAt k v (execBolhobaListGet h keys s) := by
  simp (maxDischargeDepth := 30) [execBolhobaListGet, *]

theorem execBolhobaBlockRead_at [Away (¬k = Obj.feedState)] [Away (¬k = Obj.tjC)] (h : BolhobaHeader) (offset : ℕ) (len : ℕ) (s : State) (hwf : At k v s) :
    outAt k v (execBolhobaBlockRead h offset len s) := by
  simp (maxDischargeDepth := 30) [execBolhobaBlockRead, *]

theorem execBolhobaUnknownOpcode_at (h : BolhobaHeader) (pen : ℕ) (version : ℕ) (opcode : ℕ) (s : State) (hwf : At k v s) :
    outAt k v (execBolhobaUnknownOpcode h pen version opcode s) := by
  simp (maxDischargeDepth := 30) [execBolhobaUnknownOpcode, *]

theorem execFactoryFrameGap_at (s : State) (hwf : At k v s) :
    outAt k v (execFactoryFrameGap s) := by
  simp (maxDischargeDepth := 30) [execFactoryFrameGap, *]

theorem execDynamicAddressAssignment_at [Away (¬k = Obj.mbusDynamicAddr)] (addr : ℕ) (s : State) (hwf : At k v s) :
    outAt k v (execDynamicAddressAssignment addr s) := by
  have := ‹Away (¬k = Obj.mbusDynamicAddr)›.out
  simp (maxDischargeDepth := 30) [execDynamicAddressAssignment, *]

@[simp] theorem noteStatus_at (s : State) (core : ℕ) (k1 : Key) (st : ℕ) (hwf : At k v s) :
    At k v (noteStatus s core k1 st) := by
  simp (maxDischargeDepth := 30) [noteStatus, *]

@[simp] theorem windowValue_at [Away (¬k = Obj.feedState)] [Away (¬k = Obj.tjC)] (s : State) (who : Requester) (k1 : Key) (hwf : At k v s) :
    At k v (windowValue s who k1).2.2 := by
  simp only [windowValue]
  split <;> simp (maxDischargeDepth := 30) [*]

@[simp] theorem windowLoad_at [Away (¬k = Obj.feedState)] [Away (¬k = Obj.tjC)] (s : State) (core : Fin 9) (addr : ℕ) (width : ℕ) (hwf : At k v s) :
    At k v (windowLoad s core addr width) := by
  simp (maxDischargeDepth := 30) [windowLoad, *]

theorem execWindowRead_at [Away (¬k = Obj.feedState)] [Away (¬k = Obj.tjC)] (core : Fin 9) (addr : ℕ) (width : ℕ) (s : State) (hwf : At k v s) :
    outAt k v (execWindowRead core addr width s) := by
  simp (maxDischargeDepth := 30) [execWindowRead, *]

@[simp] theorem answerPlain_at (who : Requester) (k1 : Key) (s : State) (st : ℕ) (hwf : At k v s) :
    At k v (answerPlain who k1 s st) := by
  simp only [answerPlain]
  split <;> simp (maxDischargeDepth := 30) [*]

theorem execLifecycleNonceRead_at [Away (¬k = Obj.feedState)] [Away (¬k = Obj.tjC)] (who : Requester) (s : State) (hwf : At k v s) :
    outAt k v (execLifecycleNonceRead who s) := by
  simp (maxDischargeDepth := 30) [execLifecycleNonceRead, *]

theorem execBlobStagingAbandon_at (index : ℕ) (sub : ℕ) (s : State) (hwf : At k v s) :
    outAt k v (execBlobStagingAbandon index sub s) := by
  simp (maxDischargeDepth := 30) [execBlobStagingAbandon, *]

@[simp] theorem girthAnswer_at [Away (¬k = Obj.txDrops)] (s : State) (h : GirthHeader) (tag : ℕ) (idx : ℕ) (sub : ℕ) (st : ℕ) (value : ℕ) (hwf : At k v s) :
    At k v (girthAnswer s h tag idx sub st value) := by
  simp (maxDischargeDepth := 30) [girthAnswer, *]

theorem execGirthDictGet_at [Away (¬k = Obj.crcErrors)] [Away (¬k = Obj.feedState)] [Away (¬k = Obj.poisoned)] [Away (¬k = Obj.tjC)] [Away (¬k = Obj.txDrops)] (h : GirthHeader) (target : ℕ) (tag : ℕ) (index : ℕ) (sub : ℕ) (s : State) (hwf : At k v s) :
    outAt k v (execGirthDictGet h target tag index sub s) := by
  unfold execGirthDictGet
  rw [outAt_next]
  refine receive_at _ _ _ _ _ hwf fun t ht => ?_
  have h1 := readObject_at t .girth (key index sub) true ht
  dsimp only
  split
  · exact ht
  · split
    · simp [h1, *]
    · split <;> simp [h1, *]

@[simp] theorem dramParts_at [Away (¬k = Obj.ceCount)] [Away (¬k = Obj.dataCe)] [Away (¬k = Obj.dataUe)] [Away (¬k = Obj.hits)] [Away (¬k = Obj.lastError)] [Away (¬k = Obj.lockedLines)] [Away (¬k = Obj.misses)] [Away (¬k = Obj.pagesRetired)] [Away (¬k = Obj.poisonReads)] [Away (¬k = Obj.retiredPages)] [Away (¬k = Obj.storeState)] [Away (¬k = Obj.ueCount)] [Away (¬k = Obj.writebacks)] (s : State) (core : ℕ) (a : ℕ) (width : ℕ) (acc : CoreAccess) (ecc : EccOutcome) (hwf : At k v s) :
    At k v (dramParts s core a width acc ecc) := by
  simp (maxDischargeDepth := 30) [dramParts, *]

@[simp] theorem norBytes_at (s : State) (off : ℕ) (width : ℕ) (hwf : At k v s) :
    At k v (norBytes s off width).2 := by
  simp only [norBytes]
  repeat' split
  all_goals simp (maxDischargeDepth := 30) [*]

theorem windowBytes_at (s : State) (a width : Nat) (h : At k v s) (e) (he : windowBytes s a width = some e) : At k v e.2 := by
  unfold windowBytes at he
  dsimp only at he
  repeat' split at he
  all_goals cases he
  all_goals (try split)
  all_goals simp [h]

@[simp] theorem norLoad_at (s : State) (core : ℕ) (off : ℕ) (width : ℕ) (hwf : At k v s) :
    At k v (norLoad s core off width) := by
  simp (maxDischargeDepth := 30) [norLoad, *]

end Sys2Proof.Machine
end

