-- ==== Sys2Proof/Laws/Frame.lean ====
section
/-!
SUPPORT. Which parts of the state an operation can change. `Within T z t` says that t is as z in every part outside T; an operation that changes
the parts its lemma names (`Touch`) keeps it. The files Laws/Frame*.lean say so of every operation of the file they are named after.
-/

namespace Sys2Proof.Machine

/-- A part is among those that may change. -/
class Touch (p : Part) (T : List Part) : Prop where
  mem : p ∈ T

/-- The same as `SameBut`, part by part. -/
def Within (T : List Part) (z t : State) : Prop :=
  (Part.objs ∈ T ∨ t.objs = z.objs) ∧
  (Part.power ∈ T ∨ t.power = z.power) ∧
  (Part.dict ∈ T ∨ t.dict = z.dict) ∧
  (Part.start ∈ T ∨ t.start = z.start) ∧
  (Part.fw ∈ T ∨ t.fw = z.fw) ∧
  (Part.media ∈ T ∨ t.media = z.media) ∧
  (Part.chan ∈ T ∨ t.chan = z.chan) ∧
  (Part.dec ∈ T ∨ t.dec = z.dec) ∧
  (Part.players ∈ T ∨ t.players = z.players) ∧
  (Part.acts ∈ T ∨ t.acts = z.acts) ∧
  (Part.engines ∈ T ∨ t.engines = z.engines) ∧
  (Part.groups ∈ T ∨ t.groups = z.groups) ∧
  (Part.traces ∈ T ∨ t.traces = z.traces) ∧
  (Part.motion ∈ T ∨ t.motion = z.motion) ∧
  (Part.girth ∈ T ∨ t.girth = z.girth) ∧
  (Part.host ∈ T ∨ t.host = z.host) ∧
  (Part.layout ∈ T ∨ t.layout = z.layout) ∧
  (Part.mem ∈ T ∨ t.mem = z.mem) ∧
  (Part.fab ∈ T ∨ t.fab = z.fab) ∧
  (Part.coll ∈ T ∨ t.coll = z.coll) ∧
  (Part.raised ∈ T ∨ t.raised = z.raised) ∧
  (Part.outs ∈ T ∨ t.outs = z.outs) ∧
  (Part.free ∈ T ∨ t.free = z.free) ∧
  (Part.pending ∈ T ∨ t.pending = z.pending)

theorem within_iff {T : List Part} {z t : State} : Within T z t ↔ SameBut T z t := by
  constructor
  · intro h p hp
    cases p <;> simp_all [Within, Part.same]
  · intro h
    exact ⟨(Classical.em _).imp_right (h .objs),
      (Classical.em _).imp_right (h .power),
      (Classical.em _).imp_right (h .dict),
      (Classical.em _).imp_right (h .start),
      (Classical.em _).imp_right (h .fw),
      (Classical.em _).imp_right (h .media),
      (Classical.em _).imp_right (h .chan),
      (Classical.em _).imp_right (h .dec),
      (Classical.em _).imp_right (h .players),
      (Classical.em _).imp_right (h .acts),
      (Classical.em _).imp_right (h .engines),
      (Classical.em _).imp_right (h .groups),
      (Classical.em _).imp_right (h .traces),
      (Classical.em _).imp_right (h .motion),
      (Classical.em _).imp_right (h .girth),
      (Classical.em _).imp_right (h .host),
      (Classical.em _).imp_right (h .layout),
      (Classical.em _).imp_right (h .mem),
      (Classical.em _).imp_right (h .fab),
      (Classical.em _).imp_right (h .coll),
      (Classical.em _).imp_right (h .raised),
      (Classical.em _).imp_right (h .outs),
      (Classical.em _).imp_right (h .free),
      (Classical.em _).imp_right (h .pending)⟩

@[simp] theorem Within.refl (T : List Part) (z : State) : Within T z z := by simp [Within]

/-- What a command answers is as z outside T; a stop has nothing to show. -/
def outWithin (T : List Part) (z : State) : Host.Outcome State Fault Refusal → Prop
  | .next t => Within T z t
  | .fault _ | .refused _ => True

def optWithin (T : List Part) (z : State) : Option State → Prop
  | some t => Within T z t
  | none => True

variable {T : List Part} {z : State}

@[simp] theorem touch_mem {p : Part} [h : Touch p T] : p ∈ T := h.mem

@[simp] theorem outWithin_next (t : State) : outWithin T z (.next t) = Within T z t := rfl
@[simp] theorem optWithin_some (t : State) : optWithin T z (some t) = Within T z t := rfl
@[simp] theorem optWithin_none : optWithin T z none = True := rfl

@[simp] theorem Within.mk_iff (objs power dict start fw media chan dec players acts engines groups traces motion girth host layout mem fab
    coll raised outs free pending) :
    Within T z (State.mk objs power dict start fw media chan dec players acts engines groups traces motion girth host layout mem fab coll
      raised outs free pending) ↔
      (Part.objs ∈ T ∨ objs = z.objs) ∧
      (Part.power ∈ T ∨ power = z.power) ∧
      (Part.dict ∈ T ∨ dict = z.dict) ∧
      (Part.start ∈ T ∨ start = z.start) ∧
      (Part.fw ∈ T ∨ fw = z.fw) ∧
      (Part.media ∈ T ∨ media = z.media) ∧
      (Part.chan ∈ T ∨ chan = z.chan) ∧
      (Part.dec ∈ T ∨ dec = z.dec) ∧
      (Part.players ∈ T ∨ players = z.players) ∧
      (Part.acts ∈ T ∨ acts = z.acts) ∧
      (Part.engines ∈ T ∨ engines = z.engines) ∧
      (Part.groups ∈ T ∨ groups = z.groups) ∧
      (Part.traces ∈ T ∨ traces = z.traces) ∧
      (Part.motion ∈ T ∨ motion = z.motion) ∧
      (Part.girth ∈ T ∨ girth = z.girth) ∧
      (Part.host ∈ T ∨ host = z.host) ∧
      (Part.layout ∈ T ∨ layout = z.layout) ∧
      (Part.mem ∈ T ∨ mem = z.mem) ∧
      (Part.fab ∈ T ∨ fab = z.fab) ∧
      (Part.coll ∈ T ∨ coll = z.coll) ∧
      (Part.raised ∈ T ∨ raised = z.raised) ∧
      (Part.outs ∈ T ∨ outs = z.outs) ∧
      (Part.free ∈ T ∨ free = z.free) ∧
      (Part.pending ∈ T ∨ pending = z.pending) := Iff.rfl

@[simp] theorem Within.at_objs {s : State} (h : Within T z s) : Part.objs ∈ T ∨ s.objs = z.objs := h.1
@[simp] theorem Within.at_power {s : State} (h : Within T z s) : Part.power ∈ T ∨ s.power = z.power := h.2.1
@[simp] theorem Within.at_dict {s : State} (h : Within T z s) : Part.dict ∈ T ∨ s.dict = z.dict := h.2.2.1
@[simp] theorem Within.at_start {s : State} (h : Within T z s) : Part.start ∈ T ∨ s.start = z.start := h.2.2.2.1
@[simp] theorem Within.at_fw {s : State} (h : Within T z s) : Part.fw ∈ T ∨ s.fw = z.fw := h.2.2.2.2.1
@[simp] theorem Within.at_media {s : State} (h : Within T z s) : Part.media ∈ T ∨ s.media = z.media := h.2.2.2.2.2.1
@[simp] theorem Within.at_chan {s : State} (h : Within T z s) : Part.chan ∈ T ∨ s.chan = z.chan := h.2.2.2.2.2.2.1
@[simp] theorem Within.at_dec {s : State} (h : Within T z s) : Part.dec ∈ T ∨ s.dec = z.dec := h.2.2.2.2.2.2.2.1
@[simp] theorem Within.at_players {s : State} (h : Within T z s) : Part.players ∈ T ∨ s.players = z.players := h.2.2.2.2.2.2.2.2.1
@[simp] theorem Within.at_acts {s : State} (h : Within T z s) : Part.acts ∈ T ∨ s.acts = z.acts := h.2.2.2.2.2.2.2.2.2.1
@[simp] theorem Within.at_engines {s : State} (h : Within T z s) : Part.engines ∈ T ∨ s.engines = z.engines := h.2.2.2.2.2.2.2.2.2.2.1
@[simp] theorem Within.at_groups {s : State} (h : Within T z s) : Part.groups ∈ T ∨ s.groups = z.groups := h.2.2.2.2.2.2.2.2.2.2.2.1
@[simp] theorem Within.at_traces {s : State} (h : Within T z s) : Part.traces ∈ T ∨ s.traces = z.traces := h.2.2.2.2.2.2.2.2.2.2.2.2.1
@[simp] theorem Within.at_motion {s : State} (h : Within T z s) : Part.motion ∈ T ∨ s.motion = z.motion := h.2.2.2.2.2.2.2.2.2.2.2.2.2.1
@[simp] theorem Within.at_girth {s : State} (h : Within T z s) : Part.girth ∈ T ∨ s.girth = z.girth := h.2.2.2.2.2.2.2.2.2.2.2.2.2.2.1
@[simp] theorem Within.at_host {s : State} (h : Within T z s) : Part.host ∈ T ∨ s.host = z.host := h.2.2.2.2.2.2.2.2.2.2.2.2.2.2.2.1
@[simp] theorem Within.at_layout {s : State} (h : Within T z s) : Part.layout ∈ T ∨ s.layout = z.layout := h.2.2.2.2.2.2.2.2.2.2.2.2.2.2.2.2.1
@[simp] theorem Within.at_mem {s : State} (h : Within T z s) : Part.mem ∈ T ∨ s.mem = z.mem := h.2.2.2.2.2.2.2.2.2.2.2.2.2.2.2.2.2.1
@[simp] theorem Within.at_fab {s : State} (h : Within T z s) : Part.fab ∈ T ∨ s.fab = z.fab := h.2.2.2.2.2.2.2.2.2.2.2.2.2.2.2.2.2.2.1
@[simp] theorem Within.at_coll {s : State} (h : Within T z s) : Part.coll ∈ T ∨ s.coll = z.coll := h.2.2.2.2.2.2.2.2.2.2.2.2.2.2.2.2.2.2.2.1
@[simp] theorem Within.at_raised {s : State} (h : Within T z s) : Part.raised ∈ T ∨ s.raised = z.raised := h.2.2.2.2.2.2.2.2.2.2.2.2.2.2.2.2.2.2.2.2.1
@[simp] theorem Within.at_outs {s : State} (h : Within T z s) : Part.outs ∈ T ∨ s.outs = z.outs := h.2.2.2.2.2.2.2.2.2.2.2.2.2.2.2.2.2.2.2.2.2.1
@[simp] theorem Within.at_free {s : State} (h : Within T z s) : Part.free ∈ T ∨ s.free = z.free := h.2.2.2.2.2.2.2.2.2.2.2.2.2.2.2.2.2.2.2.2.2.2.1
@[simp] theorem Within.at_pending {s : State} (h : Within T z s) : Part.pending ∈ T ∨ s.pending = z.pending := h.2.2.2.2.2.2.2.2.2.2.2.2.2.2.2.2.2.2.2.2.2.2.2

theorem Within.ite {c : Prop} [Decidable c] {s t : State} (hs : Within T z s) (ht : Within T z t) : Within T z (if c then s else t) := by
  split <;> assumption

@[simp] theorem Within.ite_eq {c : Prop} [Decidable c] (s t : State) :
    Within T z (if c then s else t) = if c then Within T z s else Within T z t := apply_ite _ _ _ _

@[simp] theorem outWithin_ite {c : Prop} [Decidable c] (s t) :
    outWithin T z (if c then s else t) = if c then outWithin T z s else outWithin T z t := apply_ite _ _ _ _

@[simp] theorem State.each_frame {α : Type} {s : State} {l : List α} {f : State → α → State} (h : Within T z s)
    (hf : ∀ t x, Within T z t → Within T z (f t x)) : Within T z (s.each l f) := by
  unfold State.each
  induction l generalizing s with
  | nil => exact h
  | cons x r ih => exact ih (hf s x h)

@[simp] theorem getD_frame (o : Option State) (s : State) (ho : optWithin T z o) (hs : Within T z s) : Within T z (o.getD s) := by
  cases o <;> assumption

@[simp] theorem foldl_frame {α : Type} {f : State → α → State} {l : List α} {s : State} (h : Within T z s)
    (hf : ∀ t x, Within T z t → Within T z (f t x)) : Within T z (l.foldl f s) := State.each_frame h hf

@[simp] theorem foldl_fst_frame {α β : Type} {f : State × β → α → State × β} {l : List α} {x : State × β} (h : Within T z x.1)
    (hf : ∀ y a, Within T z y.1 → Within T z (f y a).1) : Within T z (l.foldl f x).1 := by
  induction l generalizing x with
  | nil => exact h
  | cons a r ih => exact ih (hf x a h)

@[simp] theorem foldl_snd_frame {α β : Type} {f : β × State → α → β × State} {l : List α} {x : β × State} (h : Within T z x.2)
    (hf : ∀ y a, Within T z y.2 → Within T z (f y a).2) : Within T z (l.foldl f x).2 := by
  induction l generalizing x with
  | nil => exact h
  | cons a r ih => exact ih (hf x a h)

@[simp] theorem State.setObj_frame [Touch .objs T] (s : State) (k : Key) (v : Val) (hwf : Within T z s) :
    Within T z (State.setObj s k v) := by
  simp (maxDischargeDepth := 30) [State.setObj, *]

@[simp] theorem State.setNum_frame [Touch .objs T] (s : State) (k : Key) (n : ℕ) (hwf : Within T z s) :
    Within T z (State.setNum s k n) := by
  simp (maxDischargeDepth := 30) [State.setNum, *]

@[simp] theorem State.setStr_frame [Touch .objs T] (s : State) (k : Key) (b : List Byte) (hwf : Within T z s) :
    Within T z (State.setStr s k b) := by
  simp (maxDischargeDepth := 30) [State.setStr, *]

@[simp] theorem State.draw_frame [Touch .free T] (s : State) (hwf : Within T z s) :
    Within T z (State.draw s).2 := by
  simp (maxDischargeDepth := 30) [State.draw, *]

@[simp] theorem State.add_frame [Touch .objs T] [Touch .free T] (s : State) (k : Key) (n : ℕ) (hwf : Within T z s) :
    Within T z (State.add s k n) := by
  simp (maxDischargeDepth := 30) [State.add, *]

@[simp] theorem State.bump_frame [Touch .objs T] [Touch .free T] (s : State) (k : Key) (hwf : Within T z s) :
    Within T z (State.bump s k) := by
  simp (maxDischargeDepth := 30) [State.bump, *]

@[simp] theorem State.sub_frame [Touch .objs T] (s : State) (k : Key) (n : ℕ) (hwf : Within T z s) :
    Within T z (State.sub s k n) := by
  simp (maxDischargeDepth := 30) [State.sub, *]

@[simp] theorem State.senseTj_frame [Touch .objs T] [Touch .free T] (s : State) (hwf : Within T z s) :
    Within T z (State.senseTj s) := by
  simp (maxDischargeDepth := 30) [State.senseTj, *]

@[simp] theorem State.raiseEv_frame [Touch .raised T] (s : State) (e : Event) (hwf : Within T z s) :
    Within T z (State.raiseEv s e) := by
  simp (maxDischargeDepth := 30) [State.raiseEv, *]

@[simp] theorem State.raise_frame [Touch .raised T] (s : State) (source : ℕ) (unit : optParam ℕ 0) (detail : optParam ℕ 0) (hwf : Within T z s) :
    Within T z (State.raise s source unit detail) := by
  simp (maxDischargeDepth := 30) [State.raise, *]

@[simp] theorem State.raiseAct_frame [Touch .raised T] (s : State) (a : ℕ) (k : ℕ) (unit : optParam ℕ 0) (detail : optParam ℕ 0) (hwf : Within T z s) :
    Within T z (State.raiseAct s a k unit detail) := by
  simp (maxDischargeDepth := 30) [State.raiseAct, *]

@[simp] theorem State.emit_frame [Touch .outs T] (s : State) (o : Out) (hwf : Within T z s) :
    Within T z (State.emit s o) := by
  simp (maxDischargeDepth := 30) [State.emit, *]

@[simp] theorem idle_frame [Touch .objs T] [Touch .free T] (s : State) (hwf : Within T z s) :
    Within T z (idle s) := by
  simp (maxDischargeDepth := 30) [idle, *]

@[simp] theorem State.modChan_frame [Touch .chan T] (s : State) (a : ℕ) (f : Channel → Channel) (hwf : Within T z s) :
    Within T z (State.modChan s a f) := by
  simp (maxDischargeDepth := 30) [State.modChan, *]

@[simp] theorem State.modPlayer_frame [Touch .players T] (s : State) (p : ℕ) (f : Player → Player) (hwf : Within T z s) :
    Within T z (State.modPlayer s p f) := by
  simp (maxDischargeDepth := 30) [State.modPlayer, *]

@[simp] theorem State.modAct_frame [Touch .acts T] (s : State) (a : ℕ) (f : Actuator → Actuator) (hwf : Within T z s) :
    Within T z (State.modAct s a f) := by
  simp (maxDischargeDepth := 30) [State.modAct, *]

@[simp] theorem State.modEngine_frame [Touch .engines T] (s : State) (e : ℕ) (f : Engine → Engine) (hwf : Within T z s) :
    Within T z (State.modEngine s e f) := by
  simp (maxDischargeDepth := 30) [State.modEngine, *]

@[simp] theorem State.modGroup_frame [Touch .groups T] (s : State) (g : ℕ) (f : Group → Group) (hwf : Within T z s) :
    Within T z (State.modGroup s g f) := by
  simp (maxDischargeDepth := 30) [State.modGroup, *]

@[simp] theorem State.modTrace_frame [Touch .traces T] (s : State) (a : ℕ) (f : Trace → Trace) (hwf : Within T z s) :
    Within T z (State.modTrace s a f) := by
  simp (maxDischargeDepth := 30) [State.modTrace, *]

@[simp] theorem State.modCtrl_frame [Touch .host T] (s : State) (p : Port) (f : Controller → Controller) (hwf : Within T z s) :
    Within T z (State.modCtrl s p f) := by
  simp (maxDischargeDepth := 30) [State.modCtrl, *]

end Sys2Proof.Machine
end

