-- ==== Sys2Proof/Laws/FrameStore.lean ====
section
/-! SUPPORT. The parts of the state that every operation of Machine/Store.lean can change. -/

namespace Sys2Proof.Machine

variable {T : List Part} {z : State}

@[simp] theorem State.setJob_frame [Touch .dict T] (s : State) (j : Option StoreJob) (hwf : Within T z s) :
    Within T z (State.setJob s j) := by
  simp (maxDischargeDepth := 30) [State.setJob, *]

@[simp] theorem storeBegin_frame [Touch .objs T] [Touch .dict T] (s : State) (hwf : Within T z s) :
    Within T z (storeBegin s) := by
  simp (maxDischargeDepth := 30) [storeBegin, *]

@[simp] theorem recordBegin_frame [Touch .objs T] [Touch .dict T] (s : State) (k : RecordKind) (hwf : Within T z s) :
    Within T z (recordBegin s k) := by
  simp (maxDischargeDepth := 30) [recordBegin, *]

@[simp] theorem recordStore_frame [Touch .objs T] [Touch .dict T] (s : State) (k : RecordKind) (hwf : Within T z s) :
    Within T z (recordStore s k) := by
  simp only [recordStore]
  split <;> simp (maxDischargeDepth := 30) [*]

@[simp] theorem settleRestore_frame [Touch .dict T] (s : State) (hwf : Within T z s) :
    Within T z (settleRestore s) := by
  simp (maxDischargeDepth := 30) [settleRestore, *]

@[simp] theorem commitCopy_frame [Touch .dict T] (s : State) (j : StoreJob) (hwf : Within T z s) :
    Within T z (commitCopy s j) := by
  simp (maxDischargeDepth := 30) [commitCopy, *]

@[simp] theorem nextRecord_frame [Touch .objs T] [Touch .dict T] (s : State) (hwf : Within T z s) :
    Within T z (nextRecord s) := by
  simp only [nextRecord]
  split <;> simp (maxDischargeDepth := 30) [*]

theorem execStoreCommit_frame [Touch .objs T] [Touch .dict T] [Touch .raised T] (programmed : Bool) (s : State) (hwf : Within T z s) :
    outWithin T z (execStoreCommit programmed s) := by
  simp only [execStoreCommit]
  split <;> simp (maxDischargeDepth := 30) [*]

end Sys2Proof.Machine
end

