-- ==== Sys2Proof/Laws/FrameMemory.lean ====
section
/-! SUPPORT. The parts of the state that every operation of Machine/Memory.lean can change. -/

namespace Sys2Proof.Machine

variable {T : List Part} {z : State}

@[simp] theorem dramWrite_frame [Touch .mem T] (s : State) (a : ℕ) (data : List Byte) (hwf : Within T z s) :
    Within T z (dramWrite s a data) := by
  simp (maxDischargeDepth := 30) [dramWrite, *]

@[simp] theorem poisonBlocks_frame [Touch .mem T] (s : State) (bs : List ℕ) (hwf : Within T z s) :
    Within T z (poisonBlocks s bs) := by
  simp (maxDischargeDepth := 30) [poisonBlocks, *]

@[simp] theorem pageRetire_frame [Touch .objs T] [Touch .dict T] [Touch .mem T] [Touch .raised T] (s : State) (page : ℕ) (hwf : Within T z s) :
    Within T z (pageRetire s page) := by
  simp only [pageRetire]
  repeat' split
  all_goals simp (maxDischargeDepth := 30) [*]

@[simp] theorem pageCountTo_frame [Touch .objs T] [Touch .dict T] [Touch .mem T] [Touch .raised T] (s : State) (page : ℕ) (n : ℕ) (hwf : Within T z s) :
    Within T z (pageCountTo s page n) := by
  simp (maxDischargeDepth := 30) [pageCountTo, *]

@[simp] theorem eccRead_frame [Touch .objs T] [Touch .dict T] [Touch .mem T] [Touch .raised T] [Touch .free T] (s : State) (a : ℕ) (master : ℕ) (o : EccOutcome) (hwf : Within T z s) :
    Within T z (eccRead s a master o) := by
  simp only [eccRead]
  split <;> simp (maxDischargeDepth := 30) [*]

theorem execPageSubstitutionDone_frame [Touch .objs T] [Touch .mem T] [Touch .raised T] (page : ℕ) (s : State) (hwf : Within T z s) :
    outWithin T z (execPageSubstitutionDone page s) := by
  simp only [execPageSubstitutionDone]
  repeat' split
  all_goals simp (maxDischargeDepth := 30) [*]

@[simp] theorem zeroRangeBegin_frame [Touch .mem T] (s : State) (a : ℕ) (n : ℕ) (hwf : Within T z s) :
    Within T z (zeroRangeBegin s a n) := by
  simp (maxDischargeDepth := 30) [zeroRangeBegin, *]

theorem execZeroRangeDone_frame [Touch .mem T] (s : State) (hwf : Within T z s) :
    outWithin T z (execZeroRangeDone s) := by
  simp (maxDischargeDepth := 30) [execZeroRangeDone, *]

theorem execKeeperSlotErased_frame [Touch .mem T] (slot : Fin 6) (s : State) (hwf : Within T z s) :
    outWithin T z (execKeeperSlotErased slot s) := by
  simp (maxDischargeDepth := 30) [execKeeperSlotErased, *]

theorem execSupersededPageProgrammed_frame [Touch .mem T] (s : State) (hwf : Within T z s) :
    outWithin T z (execSupersededPageProgrammed s) := by
  simp only [execSupersededPageProgrammed]
  split <;> simp (maxDischargeDepth := 30) [*]

@[simp] theorem countLocked_frame [Touch .objs T] (s : State) (hwf : Within T z s) :
    Within T z (countLocked s) := by
  simp (maxDischargeDepth := 30) [countLocked, *]

@[simp] theorem writeBack_frame [Touch .objs T] [Touch .mem T] [Touch .free T] (s : State) (line : ℕ) (hwf : Within T z s) :
    Within T z (writeBack s line) := by
  simp only [writeBack]
  split <;> simp (maxDischargeDepth := 30) [*]

@[simp] theorem dropLine_frame [Touch .mem T] (s : State) (line : ℕ) (hwf : Within T z s) :
    Within T z (dropLine s line) := by
  simp (maxDischargeDepth := 30) [dropLine, *]

@[simp] theorem takeWay_frame [Touch .objs T] [Touch .mem T] [Touch .free T] (s : State) (set : ℕ) (hwf : Within T z s) :
    Within T z (takeWay s set).2 := by
  simp only [takeWay]
  repeat' split
  all_goals simp (maxDischargeDepth := 30) [*]

@[simp] theorem startFill_frame [Touch .objs T] [Touch .mem T] [Touch .free T] (s : State) (line : ℕ) (f : Fill) (hwf : Within T z s) :
    Within T z (startFill s line f) := by
  simp (maxDischargeDepth := 30) [startFill, *]

@[simp] theorem lineAccess_frame [Touch .objs T] [Touch .mem T] [Touch .outs T] [Touch .free T] (s : State) (core : ℕ) (a : ℕ) (width : ℕ) (store : Option (List Byte)) (poison : Bool) (hwf : Within T z s) :
    Within T z (lineAccess s core a width store poison) := by
  simp only [lineAccess]
  repeat' split
  all_goals simp (maxDischargeDepth := 30) [*]

@[simp] theorem serveOp_frame [Touch .objs T] [Touch .mem T] [Touch .outs T] [Touch .free T] (line : ℕ) (bad : Bool) (x : State × FillLine) (x3 : FillOp) (hwf : Within T z x.1) :
    Within T z (serveOp line bad x x3).1 := by
  simp only [serveOp]
  repeat' split
  all_goals simp (maxDischargeDepth := 30) [*]

theorem execCacheFillReturn_frame [Touch .objs T] [Touch .mem T] [Touch .outs T] [Touch .free T] (line : ℕ) (s : State) (hwf : Within T z s) :
    outWithin T z (execCacheFillReturn line s) := by
  unfold execCacheFillReturn
  repeat' split
  all_goals simp_all (maxDischargeDepth := 30)

@[simp] theorem lineFetch_frame [Touch .objs T] [Touch .mem T] [Touch .free T] (s : State) (line : ℕ) (hwf : Within T z s) :
    Within T z (lineFetch s line) := by
  simp only [lineFetch]
  split <;> simp (maxDischargeDepth := 30) [*]

@[simp] theorem cachedPut_frame [Touch .mem T] (s : State) (a : ℕ) (b : Byte) (hwf : Within T z s) :
    Within T z (cachedPut s a b) := by
  simp only [cachedPut]
  split <;> simp (maxDischargeDepth := 30) [*]

@[simp] theorem cachedWrite_frame [Touch .objs T] [Touch .mem T] [Touch .free T] (s : State) (a : ℕ) (data : List Byte) (hwf : Within T z s) :
    Within T z (cachedWrite s a data) := by
  unfold cachedWrite
  repeat' split
  all_goals simp_all (maxDischargeDepth := 30)

@[simp] theorem cleanLines_frame [Touch .objs T] [Touch .mem T] [Touch .free T] (s : State) (p : ℕ → Bool) (hwf : Within T z s) :
    Within T z (cleanLines s p) := by
  unfold cleanLines
  repeat' split
  all_goals simp_all (maxDischargeDepth := 30)

@[simp] theorem wayRetire_frame [Touch .objs T] [Touch .mem T] [Touch .free T] (s : State) (w : ℕ) (hwf : Within T z s) :
    Within T z (wayRetire s w) := by
  unfold wayRetire
  repeat' split
  all_goals simp_all (maxDischargeDepth := 30)

@[simp] theorem maintLine_frame [Touch .objs T] [Touch .mem T] [Touch .free T] (e : MaintEffect) (bySet : Bool) (x : State × MaintResult) (line : Nat) (h : Within T z x.1) :
    Within T z (maintLine e bySet x line).1 := by
  obtain ⟨s, r⟩ := x
  simp only [maintLine]
  repeat' split
  all_goals simp_all (maxDischargeDepth := 30)

@[simp] theorem maintBegin_frame [Touch .objs T] [Touch .mem T] [Touch .free T] (s : State) (core : ℕ) (op : ℕ) (hwf : Within T z s) :
    Within T z (maintBegin s core op) := by
  unfold maintBegin
  repeat' split
  all_goals simp_all (maxDischargeDepth := 30)

theorem execCacheMaintDone_frame [Touch .objs T] [Touch .mem T] (core : Fin 9) (s : State) (hwf : Within T z s) :
    outWithin T z (execCacheMaintDone core s) := by
  simp only [execCacheMaintDone]
  split <;> simp (maxDischargeDepth := 30) [*]

@[simp] theorem accessFault_frame [Touch .raised T] [Touch .outs T] (s : State) (core : ℕ) (a : ℕ) (kind : ℕ) (hwf : Within T z s) :
    Within T z (accessFault s core a kind) := by
  simp (maxDischargeDepth := 30) [accessFault, *]

@[simp] theorem sramAccess_frame [Touch .mem T] [Touch .raised T] [Touch .outs T] (s : State) (core : ℕ) (a : ℕ) (width : ℕ) (acc : CoreAccess) (ecc : EccOutcome) (hwf : Within T z s) :
    Within T z (sramAccess s core a width acc ecc) := by
  simp only [sramAccess]
  repeat' split
  all_goals simp (maxDischargeDepth := 30) [*]

@[simp] theorem lineUncorrectable_frame [Touch .objs T] [Touch .mem T] [Touch .raised T] [Touch .free T] (s : State) (core : ℕ) (acc : CoreAccess) (line : ℕ) (l : Line) (hwf : Within T z s) :
    Within T z (lineUncorrectable s core acc line l) := by
  simp (maxDischargeDepth := 30) [lineUncorrectable, *]

@[simp] theorem dramAccess_frame [Touch .objs T] [Touch .dict T] [Touch .mem T] [Touch .raised T] [Touch .outs T] [Touch .free T] (s : State) (core : ℕ) (a : ℕ) (width : ℕ) (acc : CoreAccess) (ecc : EccOutcome) (hwf : Within T z s) :
    Within T z (dramAccess s core a width acc ecc) := by
  simp only [dramAccess]
  repeat' split
  all_goals simp (maxDischargeDepth := 30) [*]

end Sys2Proof.Machine
end

