-- ==== Sys2Proof/Laws/FrameFront.lean ====
section
/-! SUPPORT. The parts of the state that every operation of Machine/Front.lean can change. -/

namespace Sys2Proof.Machine

variable {T : List Part} {z : State}

@[simp] theorem modEntry_frame [Touch .players T] (s : State) (p : ℕ) (i : ℕ) (f : Entry → Entry) (hwf : Within T z s) :
    Within T z (modEntry s p i f) := by
  simp (maxDischargeDepth := 30) [modEntry, *]

@[simp] theorem endEntry_frame [Touch .players T] [Touch .mem T] (s : State) (p : ℕ) (i : ℕ) (result : ℕ) (poisoned : optParam Bool false) (hwf : Within T z s) :
    Within T z (endEntry s p i result poisoned) := by
  simp only [endEntry]
  split <;> simp (maxDischargeDepth := 30) [*]

@[simp] theorem report_frame [Touch .players T] (s : State) (p : ℕ) (i : ℕ) (mask : ℕ) (hwf : Within T z s) :
    Within T z (report s p i mask) := by
  simp (maxDischargeDepth := 30) [report, *]

@[simp] theorem reportGated_frame [Touch .players T] (s : State) (a : ℕ) (mask : ℕ) (hwf : Within T z s) :
    Within T z (reportGated s a mask) := by
  unfold reportGated
  repeat' split
  all_goals simp_all (maxDischargeDepth := 30)

@[simp] theorem writeIncomplete_frame [Touch .objs T] [Touch .players T] [Touch .mem T] [Touch .free T] (s : State) (p : ℕ) (i : ℕ) (mask : ℕ) (poisoned : optParam Bool false) (hwf : Within T z s) :
    Within T z (writeIncomplete s p i mask poisoned) := by
  simp only [writeIncomplete]
  split <;> simp (maxDischargeDepth := 30) [*]

@[simp] theorem postFront_frame [Touch .chan T] [Touch .players T] [Touch .raised T] (s : State) (a : ℕ) (e : FrontEvent) (hwf : Within T z s) :
    Within T z (postFront s a e) := by
  simp (maxDischargeDepth := 30) [postFront, *]

@[simp] theorem postEvent_frame [Touch .chan T] [Touch .players T] [Touch .raised T] (s : State) (a : ℕ) (code : ℕ) (hwf : Within T z s) :
    Within T z (postEvent s a code) := by
  simp (maxDischargeDepth := 30) [postEvent, *]

@[simp] theorem postSector_frame [Touch .chan T] [Touch .players T] [Touch .raised T] (s : State) (a : ℕ) (code : ℕ) (i : ℕ) (hwf : Within T z s) :
    Within T z (postSector s a code i) := by
  simp (maxDischargeDepth := 30) [postSector, *]

@[simp] theorem sendNext_frame [Touch .chan T] [Touch .outs T] (s : State) (a : ℕ) (hwf : Within T z s) :
    Within T z (sendNext s a) := by
  simp only [sendNext]
  repeat' split
  all_goals simp (maxDischargeDepth := 30) [*]

@[simp] theorem queueFrame_frame [Touch .chan T] [Touch .outs T] (s : State) (a : ℕ) (f : PreampFrame) (hwf : Within T z s) :
    Within T z (queueFrame s a f) := by
  simp (maxDischargeDepth := 30) [queueFrame, *]

@[simp] theorem postMode_frame [Touch .chan T] [Touch .outs T] (s : State) (a : ℕ) (mode : ℕ) (hwf : Within T z s) :
    Within T z (postMode s a mode) := by
  simp (maxDischargeDepth := 30) [postMode, *]

@[simp] theorem postHead_frame [Touch .chan T] [Touch .outs T] (s : State) (a : ℕ) (surface : ℕ) (hwf : Within T z s) :
    Within T z (postHead s a surface) := by
  simp (maxDischargeDepth := 30) [postHead, *]

end Sys2Proof.Machine
end

