-- ==== Sys2Proof/Laws/FrameCode.lean ====
section
/-! SUPPORT. The parts of the state that every operation of Machine/Code.lean can change. -/

namespace Sys2Proof.Machine

variable {T : List Part} {z : State}

@[simp] theorem emitPieces_frame [Touch .outs T] (s : State) (p : ℕ) (e : Entry) (pieces : List (ℕ × ℕ × List (Bool × ℕ))) (hwf : Within T z s) :
    Within T z (emitPieces s p e pieces) := by
  simp (maxDischargeDepth := 30) [emitPieces, *]

@[simp] theorem cutWrite_frame [Touch .objs T] [Touch .chan T] [Touch .players T] [Touch .mem T] [Touch .outs T] [Touch .free T] (s : State) (a : ℕ) (mask : ℕ) (poisoned : optParam Bool false) (hwf : Within T z s) :
    Within T z (cutWrite s a mask poisoned) := by
  simp only [cutWrite]
  repeat' split
  all_goals simp (maxDischargeDepth := 30) [*]

@[simp] theorem lockSentence_frame [Touch .objs T] [Touch .chan T] [Touch .players T] [Touch .raised T] [Touch .free T] (s : State) (a : ℕ) (hwf : Within T z s) :
    Within T z (lockSentence s a) := by
  simp (maxDischargeDepth := 30) [lockSentence, *]

@[simp] theorem assertWu_frame [Touch .objs T] [Touch .chan T] [Touch .players T] [Touch .traces T] [Touch .mem T] [Touch .raised T] [Touch .outs T] [Touch .free T] (s : State) (a : ℕ) (src : WuSource) (hwf : Within T z s) :
    Within T z (assertWu s a src) := by
  simp (maxDischargeDepth := 30) [assertWu, *]

@[simp] theorem clearWu_frame [Touch .chan T] (s : State) (a : ℕ) (src : WuSource) (hwf : Within T z s) :
    Within T z (clearWu s a src) := by
  simp (maxDischargeDepth := 30) [clearWu, *]

@[simp] theorem unlockSeen_frame [Touch .objs T] [Touch .chan T] [Touch .players T] [Touch .traces T] [Touch .mem T] [Touch .raised T] [Touch .outs T] [Touch .free T] (s : State) (a : ℕ) (hwf : Within T z s) :
    Within T z (unlockSeen s a) := by
  simp (maxDischargeDepth := 30) [unlockSeen, *]

end Sys2Proof.Machine
end

