-- ==== Sys2Proof/Laws/FrameSignal.lean ====
section
/-! SUPPORT. The parts of the state that every operation of Machine/Signal.lean can change. -/

namespace Sys2Proof.Machine

variable {T : List Part} {z : State}

@[simp] theorem streamSamples_frame [Touch .chan T] [Touch .players T] (s : State) (a : ℕ) (adc : List AdcRow) (hwf : Within T z s) :
    Within T z (streamSamples s a adc) := by
  simp only [streamSamples]
  split <;> simp (maxDischargeDepth := 30) [*]

@[simp] theorem storeRingSlot_frame [Touch .dec T] (s : State) (p : ℕ) (e : Entry) (x : SampleSlot) (hwf : Within T z s) :
    Within T z (storeRingSlot s p e x) := by
  simp (maxDischargeDepth := 30) [storeRingSlot, *]

end Sys2Proof.Machine
end

