-- ==== Sys2Proof/Laws/FramePool.lean ====
section
/-! SUPPORT. The parts of the state that every operation of Machine/Pool.lean can change. -/

namespace Sys2Proof.Machine

variable {T : List Part} {z : State}

@[simp] theorem State.setDec_frame [Touch .dec T] (s : State) (d : Decode) (hwf : Within T z s) :
    Within T z (State.setDec s d) := by
  simp (maxDischargeDepth := 30) [State.setDec, *]

@[simp] theorem setJobs_frame [Touch .dec T] (s : State) (l : List DecodeJob) (hwf : Within T z s) :
    Within T z (setJobs s l) := by
  simp (maxDischargeDepth := 30) [setJobs, *]

@[simp] theorem putJob_frame [Touch .dec T] (s : State) (j : DecodeJob) (hwf : Within T z s) :
    Within T z (putJob s j) := by
  simp (maxDischargeDepth := 30) [putJob, *]

@[simp] theorem dropJob_frame [Touch .dec T] (s : State) (id : ℕ) (hwf : Within T z s) :
    Within T z (dropJob s id) := by
  simp (maxDischargeDepth := 30) [dropJob, *]

@[simp] theorem startDetector_frame [Touch .dec T] (s : State) (d : ℕ) (hwf : Within T z s) :
    Within T z (startDetector s d) := by
  simp only [startDetector]
  repeat' split
  all_goals simp (maxDischargeDepth := 30) [*]

@[simp] theorem startLdpc_frame [Touch .dec T] (s : State) (c : ℕ) (hwf : Within T z s) :
    Within T z (startLdpc s c) := by
  simp only [startLdpc]
  repeat' split
  all_goals simp (maxDischargeDepth := 30) [*]

@[simp] theorem dispatch_frame [Touch .dec T] (s : State) (hwf : Within T z s) :
    Within T z (dispatch s) := by
  unfold dispatch
  repeat' split
  all_goals simp_all (maxDischargeDepth := 30)

@[simp] theorem addJob_frame [Touch .dec T] (s : State) (j : DecodeJob) (hwf : Within T z s) :
    Within T z (addJob s j) := by
  simp (maxDischargeDepth := 30) [addJob, *]

@[simp] theorem abandonPasses_frame [Touch .dec T] (s : State) (det : Bool) (core : ℕ) (hwf : Within T z s) :
    Within T z (abandonPasses s det core) := by
  simp only [abandonPasses]
  split <;> simp (maxDischargeDepth := 30) [*]

end Sys2Proof.Machine
end

