-- ==== Sys2Proof/Laws/FrameCapture.lean ====
section
/-! SUPPORT. The parts of the state that every operation of Machine/Capture.lean can change. -/

namespace Sys2Proof.Machine

variable {T : List Part} {z : State}

@[simp] theorem laneFaults_frame [Touch .objs T] [Touch .raised T] [Touch .free T] (s : State) (a : ℕ) (lanes : ℕ) (e : Entry) (hwf : Within T z s) :
    Within T z (laneFaults s a lanes e) := by
  unfold laneFaults
  repeat' split
  all_goals simp_all (maxDischargeDepth := 30)

@[simp] theorem postJob_frame [Touch .dec T] (s : State) (p : ℕ) (i : ℕ) (e : Entry) (h : Header) (align : ℤ) (hwf : Within T z s) :
    Within T z (postJob s p i e h align) := by
  simp (maxDischargeDepth := 30) [postJob, *]

@[simp] theorem captureStored_frame [Touch .objs T] [Touch .chan T] [Touch .dec T] [Touch .players T] [Touch .mem T] [Touch .raised T] [Touch .free T] (s : State) (p : ℕ) (i : ℕ) (e : Entry) (hwf : Within T z s) :
    Within T z (captureStored s p i e) := by
  simp (maxDischargeDepth := 30) [captureStored, *]

@[simp] theorem endCapture_frame [Touch .objs T] [Touch .chan T] [Touch .dec T] [Touch .players T] [Touch .mem T] [Touch .raised T] [Touch .free T] (s : State) (p : ℕ) (i : ℕ) (hwf : Within T z s) :
    Within T z (endCapture s p i) := by
  simp only [endCapture]
  split <;> simp (maxDischargeDepth := 30) [*]

@[simp] theorem cutCapture_frame [Touch .dec T] [Touch .players T] [Touch .mem T] (s : State) (p : ℕ) (i : ℕ) (hwf : Within T z s) :
    Within T z (cutCapture s p i) := by
  simp only [cutCapture]
  split <;> simp (maxDischargeDepth := 30) [*]

@[simp] theorem stopCapture_frame [Touch .objs T] [Touch .chan T] [Touch .dec T] [Touch .players T] [Touch .mem T] [Touch .raised T] [Touch .free T] (s : State) (p : ℕ) (i : ℕ) (hwf : Within T z s) :
    Within T z (stopCapture s p i) := by
  simp only [stopCapture]
  split <;> simp (maxDischargeDepth := 30) [*]

end Sys2Proof.Machine
end

