-- ==== Sys2Proof/Laws/FramePlayers.lean ====
section
/-! SUPPORT. The parts of the state that every operation of Machine/Players.lean can change. -/

namespace Sys2Proof.Machine

variable {T : List Part} {z : State}

@[simp] theorem setFlags_frame [Touch .players T] (s : State) (p : ℕ) (mask : ℕ) (hwf : Within T z s) :
    Within T z (setFlags s p mask) := by
  simp (maxDischargeDepth := 30) [setFlags, *]

@[simp] theorem putRecord_frame [Touch .mem T] (s : State) (r : PendingRecord) (hwf : Within T z s) :
    Within T z (putRecord s r) := by
  simp (maxDischargeDepth := 30) [putRecord, *]

@[simp] theorem countTurn_frame [Touch .objs T] (s : State) (a : ℕ) (hwf : Within T z s) :
    Within T z (countTurn s a) := by
  unfold countTurn
  repeat' split
  all_goals simp_all (maxDischargeDepth := 30)

@[simp] theorem prerollPosts_frame [Touch .chan T] [Touch .players T] [Touch .acts T] [Touch .outs T] (s : State) (a : ℕ) (p : ℕ) (hwf : Within T z s) :
    Within T z (prerollPosts s a p) := by
  simp (maxDischargeDepth := 30) [prerollPosts, *]

@[simp] theorem closeSentence_frame [Touch .objs T] [Touch .chan T] [Touch .players T] [Touch .acts T] [Touch .traces T] [Touch .mem T] [Touch .raised T] [Touch .free T] (s : State) (p : ℕ) (o : Outcome) (hwf : Within T z s) :
    Within T z (closeSentence s p o) := by
  unfold closeSentence
  repeat' split
  all_goals simp_all (maxDischargeDepth := 30)

@[simp] theorem blockAfter_frame [Touch .acts T] (s : State) (p : ℕ) (hwf : Within T z s) :
    Within T z (blockAfter s p) := by
  simp (maxDischargeDepth := 30) [blockAfter, *]

@[simp] theorem blockedUnderrun_frame [Touch .objs T] [Touch .chan T] [Touch .players T] [Touch .acts T] [Touch .traces T] [Touch .mem T] [Touch .raised T] [Touch .free T] (s : State) (p : ℕ) (hwf : Within T z s) :
    Within T z (blockedUnderrun s p) := by
  simp (maxDischargeDepth := 30) [blockedUnderrun, *]

@[simp] theorem underrunNow_frame [Touch .objs T] [Touch .chan T] [Touch .players T] [Touch .acts T] [Touch .traces T] [Touch .mem T] [Touch .raised T] [Touch .free T] (s : State) (p : ℕ) (hwf : Within T z s) :
    Within T z (underrunNow s p) := by
  simp (maxDischargeDepth := 30) [underrunNow, *]

@[simp] theorem prerollNext_frame [Touch .objs T] [Touch .chan T] [Touch .players T] [Touch .acts T] [Touch .traces T] [Touch .mem T] [Touch .raised T] [Touch .outs T] [Touch .free T] (fuel : Nat) (s : State) (a : Nat) (h : Within T z s) : Within T z (prerollNext fuel s a) := by
  induction fuel generalizing s with
  | zero => simpa [prerollNext] using h
  | succ n ih =>
    simp only [prerollNext]
    repeat' first | (simp +contextual (maxDischargeDepth := 30) [*]; done) | split

@[simp] theorem finishSentence_frame [Touch .objs T] [Touch .chan T] [Touch .players T] [Touch .acts T] [Touch .traces T] [Touch .mem T] [Touch .raised T] [Touch .outs T] [Touch .free T] (s : State) (p : ℕ) (o : Outcome) (hwf : Within T z s) :
    Within T z (finishSentence s p o) := by
  simp (maxDischargeDepth := 30) [finishSentence, *]

@[simp] theorem allCloseCut_frame [Touch .objs T] [Touch .chan T] [Touch .dec T] [Touch .players T] [Touch .mem T] [Touch .raised T] [Touch .outs T] [Touch .free T] (s : State) (a : ℕ) (p : ℕ) (hwf : Within T z s) :
    Within T z (allCloseCut s a p) := by
  unfold allCloseCut
  repeat' split
  all_goals simp_all (maxDischargeDepth := 30)

@[simp] theorem settleReads_frame [Touch .players T] [Touch .mem T] (s : State) (p : ℕ) (hwf : Within T z s) :
    Within T z (settleReads s p) := by
  unfold settleReads
  repeat' split
  all_goals simp_all (maxDischargeDepth := 30)

@[simp] theorem giveUp_frame [Touch .objs T] [Touch .chan T] [Touch .dec T] [Touch .players T] [Touch .acts T] [Touch .traces T] [Touch .mem T] [Touch .raised T] [Touch .outs T] [Touch .free T] (s : State) (p : ℕ) (o : Outcome) (hwf : Within T z s) :
    Within T z (giveUp s p o) := by
  simp (maxDischargeDepth := 30) [giveUp, *]

@[simp] theorem dropReady_frame [Touch .objs T] [Touch .chan T] [Touch .players T] [Touch .acts T] [Touch .traces T] [Touch .mem T] [Touch .raised T] [Touch .outs T] [Touch .free T] (s : State) (p : ℕ) (o : Outcome) (hwf : Within T z s) :
    Within T z (dropReady s p o) := by
  simp (maxDischargeDepth := 30) [dropReady, *]

@[simp] theorem discardReady_frame [Touch .objs T] [Touch .chan T] [Touch .players T] [Touch .acts T] [Touch .traces T] [Touch .mem T] [Touch .raised T] [Touch .outs T] [Touch .free T] (s : State) (p : ℕ) (hwf : Within T z s) :
    Within T z (discardReady s p) := by
  simp (maxDischargeDepth := 30) [discardReady, *]

@[simp] theorem sampleEvents_frame [Touch .players T] (s : State) (p : ℕ) (hwf : Within T z s) :
    Within T z (sampleEvents s p) := by
  simp (maxDischargeDepth := 30) [sampleEvents, *]

@[simp] theorem askAbort_frame [Touch .objs T] [Touch .chan T] [Touch .dec T] [Touch .players T] [Touch .acts T] [Touch .traces T] [Touch .mem T] [Touch .raised T] [Touch .outs T] [Touch .free T] (s : State) (p : ℕ) (hwf : Within T z s) :
    Within T z (askAbort s p) := by
  simp (maxDischargeDepth := 30) [askAbort, *]

@[simp] theorem playerAbort_frame [Touch .objs T] [Touch .chan T] [Touch .dec T] [Touch .players T] [Touch .acts T] [Touch .traces T] [Touch .mem T] [Touch .raised T] [Touch .outs T] [Touch .free T] (s : State) (p : ℕ) (hwf : Within T z s) :
    Within T z (playerAbort s p) := by
  simp only [playerAbort]
  split <;> simp (maxDischargeDepth := 30) [*]

@[simp] theorem abortPlayers_frame [Touch .objs T] [Touch .chan T] [Touch .dec T] [Touch .players T] [Touch .acts T] [Touch .traces T] [Touch .mem T] [Touch .raised T] [Touch .outs T] [Touch .free T] (s : State) (a : ℕ) (hwf : Within T z s) :
    Within T z (abortPlayers s a) := by
  unfold abortPlayers
  repeat' split
  all_goals simp_all (maxDischargeDepth := 30)

@[simp] theorem stopPlayers_frame [Touch .objs T] [Touch .chan T] [Touch .dec T] [Touch .players T] [Touch .acts T] [Touch .traces T] [Touch .mem T] [Touch .raised T] [Touch .outs T] [Touch .free T] (s : State) (a : Nat) (o : Outcome) (h : Within T z s) : Within T z (stopPlayers s a o) := by
  unfold stopPlayers
  refine State.each_frame (by simp (maxDischargeDepth := 30) [*]) fun t x ht => ?_
  repeat' first | (simp +contextual (maxDischargeDepth := 30) [*]; done) | split

@[simp] theorem loadBegin_frame [Touch .objs T] [Touch .players T] [Touch .acts T] (s : State) (p : ℕ) (addr : ℕ) (hwf : Within T z s) :
    Within T z (loadBegin s p addr) := by
  simp (maxDischargeDepth := 30) [loadBegin, *]

@[simp] theorem laneTo_frame [Touch .objs T] [Touch .players T] (s : State) (a : ℕ) (k : ℕ) (st : ℕ) (hwf : Within T z s) :
    Within T z (laneTo s a k st) := by
  unfold laneTo
  repeat' split
  all_goals simp_all (maxDischargeDepth := 30)

@[simp] theorem takeSentence_frame [Touch .objs T] [Touch .players T] [Touch .mem T] (s : State) (p : ℕ) (addr : ℕ) (hwf : Within T z s) :
    Within T z (takeSentence s p addr) := by
  unfold takeSentence
  repeat' split
  all_goals simp_all (maxDischargeDepth := 30)

theorem execSentenceFetchDone_frame [Touch .objs T] [Touch .chan T] [Touch .players T] [Touch .acts T] [Touch .traces T] [Touch .mem T] [Touch .raised T] [Touch .outs T] [Touch .free T] (p : Fin 8) (s : State) (hwf : Within T z s) :
    outWithin T z (execSentenceFetchDone p s) := by
  simp only [execSentenceFetchDone]
  repeat' split
  all_goals simp (maxDischargeDepth := 30) [*]

theorem execSentenceUnderrun_frame [Touch .objs T] [Touch .chan T] [Touch .players T] [Touch .acts T] [Touch .traces T] [Touch .mem T] [Touch .raised T] [Touch .outs T] [Touch .free T] (p : Fin 8) (s : State) (hwf : Within T z s) :
    outWithin T z (execSentenceUnderrun p s) := by
  simp (maxDischargeDepth := 30) [execSentenceUnderrun, *]

@[simp] theorem postGate_frame [Touch .players T] (s : State) (p : ℕ) (action : ℕ) (off : ℕ) (entry : ℕ) (hwf : Within T z s) :
    Within T z (postGate s p action off entry) := by
  simp (maxDischargeDepth := 30) [postGate, *]

@[simp] theorem phraseFrame_frame [Touch .chan T] [Touch .outs T] (s : State) (p : ℕ) (f : Phrase) (hwf : Within T z s) :
    Within T z (phraseFrame s p f) := by
  simp only [phraseFrame]
  split <;> simp (maxDischargeDepth := 30) [*]

@[simp] theorem phraseGate_frame [Touch .objs T] [Touch .players T] [Touch .mem T] [Touch .free T] (s : State) (p : ℕ) (f : Phrase) (hwf : Within T z s) :
    Within T z (phraseGate s p f) := by
  simp only [phraseGate]
  split <;> simp (maxDischargeDepth := 30) [*]

@[simp] theorem applyPhrase_frame [Touch .objs T] [Touch .chan T] [Touch .players T] [Touch .mem T] [Touch .outs T] [Touch .free T] (s : State) (p : ℕ) (f : Phrase) (hwf : Within T z s) :
    Within T z (applyPhrase s p f) := by
  simp (maxDischargeDepth := 30) [applyPhrase, *]

@[simp] theorem settleUnposted_frame [Touch .players T] [Touch .mem T] (s : State) (p : ℕ) (i : ℕ) (hwf : Within T z s) :
    Within T z (settleUnposted s p i) := by
  simp only [settleUnposted]
  split <;> simp (maxDischargeDepth := 30) [*]

@[simp] theorem leaveEntry_frame [Touch .players T] [Touch .mem T] (s : State) (p : ℕ) (hwf : Within T z s) :
    Within T z (leaveEntry s p) := by
  simp only [leaveEntry]
  split <;> simp (maxDischargeDepth := 30) [*]

@[simp] theorem clauseAct_frame [Touch .objs T] [Touch .chan T] [Touch .dec T] [Touch .players T] [Touch .acts T] [Touch .traces T] [Touch .mem T] [Touch .raised T] [Touch .outs T] [Touch .free T] (s : State) (p : ℕ) (hwf : Within T z s) :
    Within T z (clauseAct s p) := by
  simp only [clauseAct]
  repeat' split
  all_goals simp (maxDischargeDepth := 30) [*]

@[simp] theorem endMask_frame [Touch .players T] (s : State) (p : ℕ) (hwf : Within T z s) :
    Within T z (endMask s p) := by
  simp (maxDischargeDepth := 30) [endMask, *]

@[simp] theorem waitBegins_frame [Touch .chan T] [Touch .players T] [Touch .raised T] (s : State) (p : ℕ) (cond : ℕ) (units : ℕ) (hwf : Within T z s) :
    Within T z (waitBegins s p cond units) := by
  simp (maxDischargeDepth := 30) [waitBegins, *]

@[simp] theorem clauseRun_frame [Touch .objs T] [Touch .chan T] [Touch .dec T] [Touch .players T] [Touch .acts T] [Touch .traces T] [Touch .mem T] [Touch .raised T] [Touch .outs T] [Touch .free T] (s : State) (p : ℕ) (hwf : Within T z s) :
    Within T z (clauseRun s p) := by
  simp (maxDischargeDepth := 30) [clauseRun, *]

@[simp] theorem drainEvents_frame [Touch .chan T] [Touch .players T] (s : State) (p : ℕ) (hwf : Within T z s) :
    Within T z (drainEvents s p) := by
  simp (maxDischargeDepth := 30) [drainEvents, *]

@[simp] theorem fillWriteFifo_frame [Touch .chan T] [Touch .players T] [Touch .raised T] (s : State) (a : ℕ) (hwf : Within T z s) :
    Within T z (fillWriteFifo s a) := by
  simp (maxDischargeDepth := 30) [fillWriteFifo, *]

@[simp] theorem clauseStart_frame [Touch .objs T] [Touch .chan T] [Touch .dec T] [Touch .players T] [Touch .acts T] [Touch .traces T] [Touch .mem T] [Touch .raised T] [Touch .outs T] [Touch .free T] (s : State) (p : ℕ) (op : ℕ) (phrase : ℕ) (arg : ℕ) (hwf : Within T z s) :
    Within T z (clauseStart s p op phrase arg) := by
  simp only [clauseStart]
  repeat' split
  all_goals simp (maxDischargeDepth := 30) [*]

theorem execClauseStep_frame [Touch .objs T] [Touch .chan T] [Touch .dec T] [Touch .players T] [Touch .acts T] [Touch .traces T] [Touch .mem T] [Touch .raised T] [Touch .outs T] [Touch .free T] (p : Fin 8) (phrase : Fin 1024) (arg : BitVec 16) (s : State) (hwf : Within T z s) :
    outWithin T z (execClauseStep p phrase arg s) := by
  simp (maxDischargeDepth := 30) [execClauseStep, *]

theorem execClauseGoto_frame [Touch .objs T] [Touch .chan T] [Touch .dec T] [Touch .players T] [Touch .acts T] [Touch .traces T] [Touch .mem T] [Touch .raised T] [Touch .outs T] [Touch .free T] (p : Fin 8) (phrase : Fin 1024) (arg : BitVec 16) (s : State) (hwf : Within T z s) :
    outWithin T z (execClauseGoto p phrase arg s) := by
  simp (maxDischargeDepth := 30) [execClauseGoto, *]

theorem execClauseCall_frame [Touch .objs T] [Touch .chan T] [Touch .dec T] [Touch .players T] [Touch .acts T] [Touch .traces T] [Touch .mem T] [Touch .raised T] [Touch .outs T] [Touch .free T] (p : Fin 8) (phrase : Fin 1024) (arg : BitVec 16) (s : State) (hwf : Within T z s) :
    outWithin T z (execClauseCall p phrase arg s) := by
  simp (maxDischargeDepth := 30) [execClauseCall, *]

theorem execClauseRet_frame [Touch .objs T] [Touch .chan T] [Touch .dec T] [Touch .players T] [Touch .acts T] [Touch .traces T] [Touch .mem T] [Touch .raised T] [Touch .outs T] [Touch .free T] (p : Fin 8) (phrase : Fin 1024) (arg : BitVec 16) (s : State) (hwf : Within T z s) :
    outWithin T z (execClauseRet p phrase arg s) := by
  simp (maxDischargeDepth := 30) [execClauseRet, *]

theorem execClauseSetcnt_frame [Touch .objs T] [Touch .chan T] [Touch .dec T] [Touch .players T] [Touch .acts T] [Touch .traces T] [Touch .mem T] [Touch .raised T] [Touch .outs T] [Touch .free T] (p : Fin 8) (phrase : Fin 1024) (arg : BitVec 16) (s : State) (hwf : Within T z s) :
    outWithin T z (execClauseSetcnt p phrase arg s) := by
  simp (maxDischargeDepth := 30) [execClauseSetcnt, *]

theorem execClauseLoop_frame [Touch .objs T] [Touch .chan T] [Touch .dec T] [Touch .players T] [Touch .acts T] [Touch .traces T] [Touch .mem T] [Touch .raised T] [Touch .outs T] [Touch .free T] (p : Fin 8) (phrase : Fin 1024) (arg : BitVec 16) (s : State) (hwf : Within T z s) :
    outWithin T z (execClauseLoop p phrase arg s) := by
  simp (maxDischargeDepth := 30) [execClauseLoop, *]

theorem execClauseSector_frame [Touch .objs T] [Touch .chan T] [Touch .dec T] [Touch .players T] [Touch .acts T] [Touch .traces T] [Touch .mem T] [Touch .raised T] [Touch .outs T] [Touch .free T] (p : Fin 8) (phrase : Fin 1024) (arg : BitVec 16) (s : State) (hwf : Within T z s) :
    outWithin T z (execClauseSector p phrase arg s) := by
  simp (maxDischargeDepth := 30) [execClauseSector, *]

theorem execClauseIfwrite_frame [Touch .objs T] [Touch .chan T] [Touch .dec T] [Touch .players T] [Touch .acts T] [Touch .traces T] [Touch .mem T] [Touch .raised T] [Touch .outs T] [Touch .free T] (p : Fin 8) (phrase : Fin 1024) (arg : BitVec 16) (s : State) (hwf : Within T z s) :
    outWithin T z (execClauseIfwrite p phrase arg s) := by
  simp (maxDischargeDepth := 30) [execClauseIfwrite, *]

theorem execClauseIfparity_frame [Touch .objs T] [Touch .chan T] [Touch .dec T] [Touch .players T] [Touch .acts T] [Touch .traces T] [Touch .mem T] [Touch .raised T] [Touch .outs T] [Touch .free T] (p : Fin 8) (phrase : Fin 1024) (arg : BitVec 16) (s : State) (hwf : Within T z s) :
    outWithin T z (execClauseIfparity p phrase arg s) := by
  simp (maxDischargeDepth := 30) [execClauseIfparity, *]

theorem execClauseEnd_frame [Touch .objs T] [Touch .chan T] [Touch .dec T] [Touch .players T] [Touch .acts T] [Touch .traces T] [Touch .mem T] [Touch .raised T] [Touch .outs T] [Touch .free T] (p : Fin 8) (phrase : Fin 1024) (arg : BitVec 16) (s : State) (hwf : Within T z s) :
    outWithin T z (execClauseEnd p phrase arg s) := by
  simp (maxDischargeDepth := 30) [execClauseEnd, *]

theorem execClauseBad_frame [Touch .objs T] [Touch .chan T] [Touch .dec T] [Touch .players T] [Touch .acts T] [Touch .traces T] [Touch .mem T] [Touch .raised T] [Touch .outs T] [Touch .free T] (p : Fin 8) (why : BadClause) (s : State) (hwf : Within T z s) :
    outWithin T z (execClauseBad p why s) := by
  simp (maxDischargeDepth := 30) [execClauseBad, *]

theorem execClauseTimeEnd_frame [Touch .objs T] [Touch .chan T] [Touch .dec T] [Touch .players T] [Touch .acts T] [Touch .traces T] [Touch .mem T] [Touch .raised T] [Touch .outs T] [Touch .free T] (p : Fin 8) (s : State) (hwf : Within T z s) :
    outWithin T z (execClauseTimeEnd p s) := by
  simp only [execClauseTimeEnd]
  split <;> simp (maxDischargeDepth := 30) [*]

theorem execClauseWaitMet_frame [Touch .objs T] [Touch .chan T] [Touch .dec T] [Touch .players T] [Touch .acts T] [Touch .traces T] [Touch .mem T] [Touch .raised T] [Touch .outs T] [Touch .free T] (p : Fin 8) (wedge : ℕ) (t : ℕ) (s : State) (hwf : Within T z s) :
    outWithin T z (execClauseWaitMet p wedge t s) := by
  simp only [execClauseWaitMet]
  split <;> simp (maxDischargeDepth := 30) [*]

theorem execClauseWaitTimeout_frame [Touch .objs T] [Touch .chan T] [Touch .dec T] [Touch .players T] [Touch .acts T] [Touch .traces T] [Touch .mem T] [Touch .raised T] [Touch .outs T] [Touch .free T] (p : Fin 8) (s : State) (hwf : Within T z s) :
    outWithin T z (execClauseWaitTimeout p s) := by
  simp only [execClauseWaitTimeout]
  split <;> simp (maxDischargeDepth := 30) [*]

theorem execPlayerStallEnd_frame [Touch .objs T] [Touch .chan T] [Touch .dec T] [Touch .players T] [Touch .acts T] [Touch .traces T] [Touch .mem T] [Touch .raised T] [Touch .outs T] [Touch .free T] (p : Fin 8) (s : State) (hwf : Within T z s) :
    outWithin T z (execPlayerStallEnd p s) := by
  simp (maxDischargeDepth := 30) [execPlayerStallEnd, *]

theorem execWindowEndReached_frame [Touch .objs T] [Touch .chan T] [Touch .dec T] [Touch .players T] [Touch .acts T] [Touch .traces T] [Touch .mem T] [Touch .raised T] [Touch .outs T] [Touch .free T] (p : Fin 8) (s : State) (hwf : Within T z s) :
    outWithin T z (execWindowEndReached p s) := by
  simp (maxDischargeDepth := 30) [execWindowEndReached, *]

theorem execPlayerMemoryFault_frame [Touch .objs T] [Touch .chan T] [Touch .dec T] [Touch .players T] [Touch .acts T] [Touch .traces T] [Touch .mem T] [Touch .raised T] [Touch .outs T] [Touch .free T] (p : Fin 8) (store : Bool) (s : State) (hwf : Within T z s) :
    outWithin T z (execPlayerMemoryFault p store s) := by
  simp only [execPlayerMemoryFault]
  split <;> simp (maxDischargeDepth := 30) [*]

theorem execSentenceEnd_frame [Touch .objs T] [Touch .chan T] [Touch .players T] [Touch .acts T] [Touch .traces T] [Touch .mem T] [Touch .raised T] [Touch .outs T] [Touch .free T] (p : Fin 8) (s : State) (hwf : Within T z s) :
    outWithin T z (execSentenceEnd p s) := by
  simp (maxDischargeDepth := 30) [execSentenceEnd, *]

theorem execSentenceRecordWrite_frame [Touch .players T] [Touch .mem T] (p : Fin 8) (s : State) (hwf : Within T z s) :
    outWithin T z (execSentenceRecordWrite p s) := by
  simp only [execSentenceRecordWrite]
  split <;> simp (maxDischargeDepth := 30) [*]

@[simp] theorem preambleLoops_frame [Touch .chan T] (a : ℕ) (s : State) (h : Header) (first : Bool) (hwf : Within T z s) :
    Within T z (preambleLoops a s h first) := by
  simp (maxDischargeDepth := 30) [preambleLoops, *]

@[simp] theorem readOpen_frame [Touch .objs T] [Touch .chan T] [Touch .players T] [Touch .traces T] [Touch .mem T] [Touch .raised T] [Touch .outs T] [Touch .free T] (s : State) (p : ℕ) (g : GateEntry) (hwf : Within T z s) :
    Within T z (readOpen s p g) := by
  simp only [readOpen]
  split <;> simp (maxDischargeDepth := 30) [*]

@[simp] theorem laserDark_frame [Touch .chan T] (s : State) (a : ℕ) (hwf : Within T z s) :
    Within T z (laserDark s a) := by
  simp (maxDischargeDepth := 30) [laserDark, *]

@[simp] theorem writeOpen_frame [Touch .objs T] [Touch .chan T] [Touch .players T] [Touch .traces T] [Touch .mem T] [Touch .raised T] [Touch .outs T] [Touch .free T] (s : State) (p : ℕ) (g : GateEntry) (hwf : Within T z s) :
    Within T z (writeOpen s p g) := by
  simp only [writeOpen]
  split <;> simp (maxDischargeDepth := 30) [*]

@[simp] theorem writeClose_frame [Touch .objs T] [Touch .chan T] [Touch .players T] [Touch .mem T] [Touch .outs T] [Touch .free T] (s : State) (p : ℕ) (w : ℕ) (t : ℕ) (hwf : Within T z s) :
    Within T z (writeClose s p w t) := by
  simp only [writeClose]
  repeat' split
  all_goals simp (maxDischargeDepth := 30) [*]

@[simp] theorem readClose_frame [Touch .players T] (s : State) (p : ℕ) (i : ℕ) (hwf : Within T z s) :
    Within T z (readClose s p i) := by
  simp (maxDischargeDepth := 30) [readClose, *]

@[simp] theorem gateAct_frame [Touch .objs T] [Touch .chan T] [Touch .dec T] [Touch .players T] [Touch .traces T] [Touch .mem T] [Touch .raised T] [Touch .outs T] [Touch .free T] (s : State) (p : Nat) (g : GateEntry) (h : Within T z s) : Within T z (gateAct s p g) := by
  unfold gateAct
  dsimp only
  repeat' first | (simp +contextual (maxDischargeDepth := 30) [*]; done) | split

@[simp] theorem lateGate_frame [Touch .objs T] [Touch .chan T] [Touch .dec T] [Touch .players T] [Touch .traces T] [Touch .mem T] [Touch .raised T] [Touch .outs T] [Touch .free T] (s : State) (p : ℕ) (g : GateEntry) (hwf : Within T z s) :
    Within T z (lateGate s p g) := by
  simp only [lateGate]
  repeat' split
  all_goals simp (maxDischargeDepth := 30) [*]

@[simp] theorem laserLead_frame [Touch .chan T] (s : State) (p : ℕ) (hwf : Within T z s) :
    Within T z (laserLead s p) := by
  simp only [laserLead]
  split <;> simp (maxDischargeDepth := 30) [*]

theorem execGateEntryExecute_frame [Touch .objs T] [Touch .chan T] [Touch .dec T] [Touch .players T] [Touch .traces T] [Touch .mem T] [Touch .raised T] [Touch .outs T] [Touch .free T] (p : Fin 8) (t : ℕ) (adc : List AdcRow) (s : State) (hwf : Within T z s) :
    outWithin T z (execGateEntryExecute p t adc s) := by
  simp only [execGateEntryExecute]
  split <;> simp (maxDischargeDepth := 30) [*]

end Sys2Proof.Machine
end

