-- ==== Sys2Proof/Laws/FrameChannel.lean ====
section
/-! SUPPORT. The parts of the state that every operation of Machine/Channel.lean can change. -/

namespace Sys2Proof.Machine

variable {T : List Part} {z : State}

theorem execWriteUnsafe_frame [Touch .objs T] [Touch .chan T] [Touch .players T] [Touch .traces T] [Touch .mem T] [Touch .raised T] [Touch .outs T] [Touch .free T] (a : Fin 4) (src : WuSource) (t : ℕ) (s : State) (hwf : Within T z s) :
    outWithin T z (execWriteUnsafe a src t s) := by
  simp (maxDischargeDepth := 30) [execWriteUnsafe, *]

theorem execWriteFifoEmpty_frame [Touch .objs T] [Touch .chan T] [Touch .players T] [Touch .mem T] [Touch .outs T] [Touch .free T] (a : Fin 4) (s : State) (hwf : Within T z s) :
    outWithin T z (execWriteFifoEmpty a s) := by
  simp (maxDischargeDepth := 30) [execWriteFifoEmpty, *]

@[simp] theorem reportCaptures_frame [Touch .players T] (s : State) (a : ℕ) (mask : ℕ) (hwf : Within T z s) :
    Within T z (reportCaptures s a mask) := by
  unfold reportCaptures
  repeat' split
  all_goals simp_all (maxDischargeDepth := 30)

theorem execSampleOverrun_frame [Touch .players T] [Touch .raised T] (a : Fin 4) (lane : Fin 3) (s : State) (hwf : Within T z s) :
    outWithin T z (execSampleOverrun a lane s) := by
  simp (maxDischargeDepth := 30) [execSampleOverrun, *]

theorem execSynthLock_frame [Touch .chan T] (a : Fin 4) (s : State) (hwf : Within T z s) :
    outWithin T z (execSynthLock a s) := by
  simp (maxDischargeDepth := 30) [execSynthLock, *]

theorem execSynthUnlock_frame [Touch .objs T] [Touch .chan T] [Touch .players T] [Touch .traces T] [Touch .mem T] [Touch .raised T] [Touch .outs T] [Touch .free T] (a : Fin 4) (s : State) (hwf : Within T z s) :
    outWithin T z (execSynthUnlock a s) := by
  simp (maxDischargeDepth := 30) [execSynthUnlock, *]

@[simp] theorem detectorFires_frame [Touch .objs T] [Touch .chan T] [Touch .players T] [Touch .raised T] [Touch .free T] (s : State) (a : ℕ) (mask : ℕ) (cause : ℕ) (count : ℕ) (firings : ℕ) (hwf : Within T z s) :
    Within T z (detectorFires s a mask cause count firings) := by
  simp (maxDischargeDepth := 30) [detectorFires, *]

theorem execThermalAsperity_frame [Touch .objs T] [Touch .chan T] [Touch .players T] [Touch .raised T] [Touch .free T] (a : Fin 4) (adc : List AdcRow) (s : State) (hwf : Within T z s) :
    outWithin T z (execThermalAsperity a adc s) := by
  simp (maxDischargeDepth := 30) [execThermalAsperity, *]

theorem execDropDetect_frame [Touch .objs T] [Touch .chan T] [Touch .players T] [Touch .raised T] [Touch .free T] (a : Fin 4) (adc : List AdcRow) (s : State) (hwf : Within T z s) :
    outWithin T z (execDropDetect a adc s) := by
  simp (maxDischargeDepth := 30) [execDropDetect, *]

theorem execFreezeHangoverEnd_frame [Touch .chan T] [Touch .players T] (a : Fin 4) (adc : List AdcRow) (s : State) (hwf : Within T z s) :
    outWithin T z (execFreezeHangoverEnd a adc s) := by
  simp (maxDischargeDepth := 30) [execFreezeHangoverEnd, *]

theorem execLongFreeze_frame [Touch .objs T] [Touch .chan T] [Touch .players T] [Touch .free T] (a : Fin 4) (adc : List AdcRow) (s : State) (hwf : Within T z s) :
    outWithin T z (execLongFreeze a adc s) := by
  unfold execLongFreeze
  dsimp only
  repeat' split
  all_goals simp_all (maxDischargeDepth := 30)

theorem execSyncWindowEnd_frame [Touch .objs T] [Touch .chan T] [Touch .players T] [Touch .raised T] [Touch .free T] (p : Fin 8) (first : Bool) (adc : List AdcRow) (s : State) (hwf : Within T z s) :
    outWithin T z (execSyncWindowEnd p first adc s) := by
  simp only [execSyncWindowEnd]
  split <;> simp (maxDischargeDepth := 30) [*]

theorem execCaptureEnd_frame [Touch .objs T] [Touch .chan T] [Touch .dec T] [Touch .players T] [Touch .mem T] [Touch .raised T] [Touch .free T] (p : Fin 8) (adc : List AdcRow) (s : State) (hwf : Within T z s) :
    outWithin T z (execCaptureEnd p adc s) := by
  simp only [execCaptureEnd]
  repeat' split
  all_goals simp (maxDischargeDepth := 30) [*]

theorem execPreampFaultAssert_frame [Touch .objs T] [Touch .chan T] [Touch .players T] [Touch .traces T] [Touch .mem T] [Touch .raised T] [Touch .outs T] [Touch .free T] (a : Fin 4) (s : State) (hwf : Within T z s) :
    outWithin T z (execPreampFaultAssert a s) := by
  simp (maxDischargeDepth := 30) [execPreampFaultAssert, *]

theorem execPreampFaultRelease_frame [Touch .chan T] (a : Fin 4) (s : State) (hwf : Within T z s) :
    outWithin T z (execPreampFaultRelease a s) := by
  simp (maxDischargeDepth := 30) [execPreampFaultRelease, *]

@[simp] theorem verifyFail_frame [Touch .objs T] [Touch .chan T] [Touch .players T] [Touch .traces T] [Touch .mem T] [Touch .raised T] [Touch .outs T] [Touch .free T] (s : State) (a : ℕ) (hwf : Within T z s) :
    Within T z (verifyFail s a) := by
  simp (maxDischargeDepth := 30) [verifyFail, *]

@[simp] theorem frameTaken_frame [Touch .chan T] (s : State) (a : ℕ) (f : PreampFrame) (hwf : Within T z s) :
    Within T z (frameTaken s a f) := by
  simp only [frameTaken]
  split <;> simp (maxDischargeDepth := 30) [*]

@[simp] theorem accessResult_frame [Touch .objs T] (s : State) (a : ℕ) (f : PreampFrame) (readback : ℕ) (hwf : Within T z s) :
    Within T z (accessResult s a f readback) := by
  simp only [accessResult]
  split <;> simp (maxDischargeDepth := 30) [*]

@[simp] theorem frameDone_frame [Touch .objs T] [Touch .chan T] [Touch .players T] [Touch .traces T] [Touch .mem T] [Touch .raised T] [Touch .outs T] [Touch .free T] (s : State) (a : ℕ) (f : PreampFrame) (readback : ℕ) (parityOk : Bool) (hwf : Within T z s) :
    Within T z (frameDone s a f readback parityOk) := by
  simp only [frameDone]
  repeat' split
  all_goals simp (maxDischargeDepth := 30) [*]

theorem execPreampFrameDone_frame [Touch .objs T] [Touch .chan T] [Touch .players T] [Touch .traces T] [Touch .mem T] [Touch .raised T] [Touch .outs T] [Touch .free T] (a : Fin 4) (readback : ℕ) (parityOk : Bool) (s : State) (hwf : Within T z s) :
    outWithin T z (execPreampFrameDone a readback parityOk s) := by
  simp only [execPreampFrameDone]
  split <;> simp (maxDischargeDepth := 30) [*]

theorem execWritePayloadPoisoned_frame [Touch .objs T] [Touch .chan T] [Touch .players T] [Touch .mem T] [Touch .raised T] [Touch .outs T] [Touch .free T] (p : Fin 8) (entry : ℕ) (s : State) (hwf : Within T z s) :
    outWithin T z (execWritePayloadPoisoned p entry s) := by
  simp only [execWritePayloadPoisoned]
  repeat' split
  all_goals simp (maxDischargeDepth := 30) [*]

end Sys2Proof.Machine
end

