-- ==== Sys2Proof/Laws/FrameDecoder.lean ====
section
/-! SUPPORT. The parts of the state that every operation of Machine/Decoder.lean can change. -/

namespace Sys2Proof.Machine

variable {T : List Part} {z : State}

@[simp] theorem releaseHold_frame [Touch .dec T] (s : State) (a : ℕ) (h : ℕ) (hwf : Within T z s) :
    Within T z (releaseHold s a h) := by
  simp (maxDischargeDepth := 30) [releaseHold, *]

theorem execHoldCopyDone_frame [Touch .dec T] [Touch .mem T] (a : Fin 4) (hold : ℕ) (s : State) (hwf : Within T z s) :
    outWithin T z (execHoldCopyDone a hold s) := by
  simp only [execHoldCopyDone]
  repeat' split
  all_goals simp (maxDischargeDepth := 30) [*]

@[simp] theorem holdSamples_frame [Touch .objs T] [Touch .dec T] [Touch .free T] (s : State) (j : DecodeJob) (hwf : Within T z s) :
    Within T z (holdSamples s j).1 := by
  simp only [holdSamples]
  split <;> simp (maxDischargeDepth := 30) [*]

@[simp] theorem noteIterations_frame [Touch .dec T] (s : State) (j : DecodeJob) (hwf : Within T z s) :
    Within T z (noteIterations s j) := by
  simp (maxDischargeDepth := 30) [noteIterations, *]

@[simp] theorem endOnline_frame [Touch .objs T] [Touch .dec T] [Touch .players T] [Touch .mem T] [Touch .free T] (s : State) (j : DecodeJob) (payload : Option (List Byte)) (hwf : Within T z s) :
    Within T z (endOnline s j payload) := by
  simp only [endOnline]
  repeat' split
  all_goals simp (maxDischargeDepth := 30) [*]

@[simp] theorem endJob_frame [Touch .objs T] [Touch .dec T] [Touch .players T] [Touch .mem T] [Touch .free T] (s : State) (j : DecodeJob) (payload : Option (List Byte)) (hwf : Within T z s) :
    Within T z (endJob s j payload) := by
  simp only [endJob]
  repeat' split
  all_goals simp (maxDischargeDepth := 30) [*]

@[simp] theorem alignmentFails_frame [Touch .objs T] [Touch .dec T] [Touch .players T] [Touch .mem T] [Touch .free T] (s : State) (j : DecodeJob) (result : ℕ) (hwf : Within T z s) :
    Within T z (alignmentFails s j result) := by
  simp (maxDischargeDepth := 30) [alignmentFails, *]

@[simp] theorem freeDetector_frame [Touch .dec T] (s : State) (core : ℕ) (hwf : Within T z s) :
    Within T z (freeDetector s core) := by
  simp (maxDischargeDepth := 30) [freeDetector, *]

@[simp] theorem freeLdpc_frame [Touch .dec T] (s : State) (core : ℕ) (hwf : Within T z s) :
    Within T z (freeLdpc s core) := by
  simp (maxDischargeDepth := 30) [freeLdpc, *]

@[simp] theorem countCorrected_frame [Touch .raised T] (s : State) (check : PassCheck) (hwf : Within T z s) :
    Within T z (countCorrected s check) := by
  simp only [countCorrected]
  split <;> simp (maxDischargeDepth := 30) [*]

@[simp] theorem checkerDisagrees_frame [Touch .objs T] [Touch .dec T] [Touch .raised T] [Touch .free T] (s : State) (j : DecodeJob) (det : Bool) (core : ℕ) (hwf : Within T z s) :
    Within T z (checkerDisagrees s j det core) := by
  simp (maxDischargeDepth := 30) [checkerDisagrees, *]

theorem execDetectorPassDone_frame [Touch .objs T] [Touch .dec T] [Touch .raised T] [Touch .free T] (core : Fin 8) (job : ℕ) (check : PassCheck) (s : State) (hwf : Within T z s) :
    outWithin T z (execDetectorPassDone core job check s) := by
  unfold execDetectorPassDone
  have h : Within T z (dispatch s) := by simp (maxDischargeDepth := 30) [*]
  dsimp only
  generalize dispatch s = t at h ⊢
  split
  · simpa
  · simp (maxDischargeDepth := 30) [*]

@[simp] theorem codewordReached_frame [Touch .objs T] [Touch .dec T] [Touch .players T] [Touch .mem T] [Touch .free T] (s : State) (j : DecodeJob) (hard : List Bool) (hwf : Within T z s) :
    Within T z (codewordReached s j hard) := by
  simp (maxDischargeDepth := 30) [codewordReached, *]

theorem execLdpcIterationDone_frame [Touch .objs T] [Touch .dec T] [Touch .players T] [Touch .mem T] [Touch .raised T] [Touch .free T] (core : Fin 12) (job : ℕ) (check : PassCheck) (s : State) (hwf : Within T z s) :
    outWithin T z (execLdpcIterationDone core job check s) := by
  unfold execLdpcIterationDone
  have h : Within T z (dispatch s) := by simp (maxDischargeDepth := 30) [*]
  dsimp only
  generalize dispatch s = t at h ⊢
  split
  · simpa
  · simp (maxDischargeDepth := 30) [*]

theorem execDecodeDeadline_frame [Touch .objs T] [Touch .dec T] [Touch .players T] [Touch .mem T] [Touch .free T] (job : ℕ) (s : State) (hwf : Within T z s) :
    outWithin T z (execDecodeDeadline job s) := by
  simp only [execDecodeDeadline]
  split <;> simp (maxDischargeDepth := 30) [*]

@[simp] theorem advanceRing_frame [Touch .objs T] (s : State) (ring : ℕ) (hwf : Within T z s) :
    Within T z (advanceRing s ring) := by
  simp (maxDischargeDepth := 30) [advanceRing, *]

theorem execLadderDeep_frame [Touch .objs T] [Touch .dec T] (ring : Fin 4) (s : State) (hwf : Within T z s) :
    outWithin T z (execLadderDeep ring s) := by
  simp only [execLadderDeep]
  split <;> simp (maxDischargeDepth := 30) [*]

theorem execLadderAverage_frame [Touch .objs T] [Touch .dec T] [Touch .mem T] (ring : Fin 4) (s : State) (hwf : Within T z s) :
    outWithin T z (execLadderAverage ring s) := by
  simp only [execLadderAverage]
  split <;> simp (maxDischargeDepth := 30) [*]

theorem execLadderReleaseHold_frame [Touch .objs T] [Touch .dec T] (ring : Fin 4) (s : State) (hwf : Within T z s) :
    outWithin T z (execLadderReleaseHold ring s) := by
  unfold execLadderReleaseHold
  repeat' split
  all_goals simp_all (maxDischargeDepth := 30)

theorem execLadderRequestEnd_frame [Touch .objs T] [Touch .dec T] [Touch .mem T] [Touch .free T] (job : ℕ) (s : State) (hwf : Within T z s) :
    outWithin T z (execLadderRequestEnd job s) := by
  unfold execLadderRequestEnd
  repeat' first | (simp +contextual (maxDischargeDepth := 30) [*]; done) | split

end Sys2Proof.Machine
end

