-- ==== Sys2Proof/Laws/FrameHostCore.lean ====
section
/-! SUPPORT. The parts of the state that every operation of Machine/HostCore.lean can change. -/

namespace Sys2Proof.Machine

variable {T : List Part} {z : State}

@[simp] theorem State.setHost_frame [Touch .host T] (s : State) (h : HostIf) (hwf : Within T z s) :
    Within T z (State.setHost s h) := by
  simp (maxDischargeDepth := 30) [State.setHost, *]

@[simp] theorem putSlot_frame [Touch .host T] (s : State) (n : ℕ) (c : CmdSlot) (hwf : Within T z s) :
    Within T z (putSlot s n c) := by
  simp (maxDischargeDepth := 30) [putSlot, *]

@[simp] theorem countSlots_frame [Touch .objs T] (s : State) (hwf : Within T z s) :
    Within T z (countSlots s) := by
  simp (maxDischargeDepth := 30) [countSlots, *]

@[simp] theorem freeSlot_frame [Touch .objs T] [Touch .host T] (s : State) (n : ℕ) (hwf : Within T z s) :
    Within T z (freeSlot s n) := by
  simp (maxDischargeDepth := 30) [freeSlot, *]

@[simp] theorem releaseOne_frame [Touch .objs T] [Touch .host T] (s : State) (n : ℕ) (hwf : Within T z s) :
    Within T z (releaseOne s n) := by
  simp only [releaseOne]
  split <;> simp (maxDischargeDepth := 30) [*]

@[simp] theorem signal_frame [Touch .host T] [Touch .outs T] (s : State) (p : Port) (qid : ℕ) (q : Cq) (hwf : Within T z s) :
    Within T z (signal s p qid q) := by
  simp only [signal]
  repeat' split
  all_goals simp (maxDischargeDepth := 30) [*]

@[simp] theorem postNow_frame [Touch .objs T] [Touch .host T] [Touch .outs T] [Touch .free T] (s : State) (p : Port) (qid : ℕ) (q : Cq) (c : Completion) (hwf : Within T z s) :
    Within T z (postNow s p qid q c) := by
  simp only [postNow]
  split <;> simp (maxDischargeDepth := 30) [*]

@[simp] theorem postCompletion_frame [Touch .objs T] [Touch .host T] [Touch .outs T] [Touch .free T] (s : State) (p : Port) (qid : ℕ) (c : Completion) (hwf : Within T z s) :
    Within T z (postCompletion s p qid c) := by
  simp only [postCompletion]
  repeat' split
  all_goals simp (maxDischargeDepth := 30) [*]

@[simp] theorem settleLock_frame [Touch .objs T] [Touch .host T] [Touch .outs T] [Touch .free T] (fuel : Nat) (s : State) (h : Within T z s) : Within T z (settleLock fuel s) := by
  induction fuel generalizing s with
  | zero => simpa [settleLock] using h
  | succ n ih =>
    simp only [settleLock]
    repeat' first | (simp +contextual (maxDischargeDepth := 30) [*]; done) | split

@[simp] theorem releaseEntry_frame [Touch .objs T] [Touch .host T] [Touch .outs T] [Touch .free T] (s : State) (n : ℕ) (hwf : Within T z s) :
    Within T z (releaseEntry s n) := by
  simp (maxDischargeDepth := 30) [releaseEntry, *]

@[simp] theorem complete_frame [Touch .objs T] [Touch .host T] [Touch .outs T] [Touch .free T] (s : State) (n : ℕ) (sct : ℕ) (sc : ℕ) (dw0 : optParam ℕ 0) (dw1 : optParam ℕ 0) (hwf : Within T z s) :
    Within T z (complete s n sct sc dw0 dw1) := by
  simp only [complete]
  split <;> simp (maxDischargeDepth := 30) [*]

@[simp] theorem completeWith_frame [Touch .objs T] [Touch .host T] [Touch .outs T] [Touch .free T] (s : State) (n : ℕ) (st : ℕ × ℕ) (dw0 : optParam ℕ 0) (dw1 : optParam ℕ 0) (hwf : Within T z s) :
    Within T z (completeWith s n st dw0 dw1) := by
  simp (maxDischargeDepth := 30) [completeWith, *]

@[simp] theorem giveNotices_frame [Touch .objs T] [Touch .host T] [Touch .outs T] [Touch .free T] (fuel : Nat) (s : State) (p : Port) (h : Within T z s) : Within T z (giveNotices fuel s p) := by
  induction fuel generalizing s with
  | zero => simpa [giveNotices] using h
  | succ n ih =>
    simp only [giveNotices]
    repeat' first | (simp +contextual (maxDischargeDepth := 30) [*]; done) | split

@[simp] theorem asyncNotice_frame [Touch .objs T] [Touch .host T] [Touch .outs T] [Touch .free T] (s : State) (page : ℕ) (hwf : Within T z s) :
    Within T z (asyncNotice s page) := by
  unfold asyncNotice
  repeat' split
  all_goals simp_all (maxDischargeDepth := 30)

@[simp] theorem activationNotice_frame [Touch .objs T] [Touch .host T] [Touch .outs T] [Touch .free T] (s : State) (hwf : Within T z s) :
    Within T z (activationNotice s) := by
  unfold activationNotice
  repeat' split
  all_goals simp_all (maxDischargeDepth := 30)

@[simp] theorem activationResumes_frame [Touch .host T] (s : State) (hwf : Within T z s) :
    Within T z (activationResumes s) := by
  unfold activationResumes
  repeat' split
  all_goals simp_all (maxDischargeDepth := 30)

@[simp] theorem finishShutdown_frame [Touch .host T] (s : State) (hwf : Within T z s) :
    Within T z (finishShutdown s) := by
  simp (maxDischargeDepth := 30) [finishShutdown, *]

end Sys2Proof.Machine
end

