-- ==== Sys2Proof/Laws/FrameLedger.lean ====
section
/-! SUPPORT. The parts of the state that every operation of Machine/Ledger.lean can change. -/

namespace Sys2Proof.Machine

variable {T : List Part} {z : State}

@[simp] theorem State.setColl_frame [Touch .coll T] (s : State) (c : Collector) (hwf : Within T z s) :
    Within T z (State.setColl s c) := by
  simp (maxDischargeDepth := 30) [State.setColl, *]

@[simp] theorem capture_frame [Touch .coll T] (s : State) (r : ℕ) (ev : Event) (hwf : Within T z s) :
    Within T z (capture s r ev) := by
  simp (maxDischargeDepth := 30) [capture, *]

@[simp] theorem captureAll_frame [Touch .coll T] (s : State) (ev : Event) (hwf : Within T z s) :
    Within T z (captureAll s ev) := by
  simp (maxDischargeDepth := 30) [captureAll, *]

@[simp] theorem countEvent_frame [Touch .objs T] [Touch .coll T] [Touch .free T] (s : State) (ev : Event) (hwf : Within T z s) :
    Within T z (countEvent s ev).2 := by
  simp (maxDischargeDepth := 30) [countEvent, *]

@[simp] theorem countRecords_frame [Touch .objs T] (s : State) (hwf : Within T z s) :
    Within T z (countRecords s) := by
  simp (maxDischargeDepth := 30) [countRecords, *]

@[simp] theorem recordNotice_frame [Touch .objs T] [Touch .host T] [Touch .outs T] [Touch .free T] (s : State) (severity : ℕ) (hwf : Within T z s) :
    Within T z (recordNotice s severity) := by
  simp (maxDischargeDepth := 30) [recordNotice, *]

@[simp] theorem appendRecord_frame [Touch .objs T] [Touch .host T] [Touch .coll T] [Touch .outs T] [Touch .free T] (s : State) (r : Record) (hwf : Within T z s) :
    Within T z (appendRecord s r) := by
  simp only [appendRecord]
  repeat' split
  all_goals simp (maxDischargeDepth := 30) [*]

@[simp] theorem writeRecord_frame [Touch .objs T] [Touch .host T] [Touch .coll T] [Touch .outs T] [Touch .free T] (s : State) (r : Record) (hwf : Within T z s) :
    Within T z (writeRecord s r) := by
  simp (maxDischargeDepth := 30) [writeRecord, *]

@[simp] theorem zeroDrops_frame [Touch .objs T] (s : State) (hwf : Within T z s) :
    Within T z (zeroDrops s) := by
  unfold zeroDrops
  repeat' split
  all_goals simp_all (maxDischargeDepth := 30)

@[simp] theorem clearLedger_frame [Touch .objs T] [Touch .dict T] [Touch .host T] [Touch .coll T] [Touch .outs T] [Touch .free T] (s : State) (v : ℕ) (port : ℕ) (hwf : Within T z s) :
    Within T z (clearLedger s v port) := by
  simp (maxDischargeDepth := 30) [clearLedger, *]

@[simp] theorem startMirror_frame [Touch .coll T] (s : State) (hwf : Within T z s) :
    Within T z (startMirror s) := by
  simp only [startMirror]
  split <;> simp (maxDischargeDepth := 30) [*]

@[simp] theorem restoreLedger_frame [Touch .objs T] [Touch .host T] [Touch .coll T] [Touch .outs T] [Touch .free T] (s : State) (hwf : Within T z s) :
    Within T z (restoreLedger s) := by
  unfold restoreLedger
  repeat' split
  all_goals simp_all (maxDischargeDepth := 30)

end Sys2Proof.Machine
end

