-- ==== Sys2Proof/Laws/FrameMainReset.lean ====
section
/-! SUPPORT. The parts of the state that every operation of Machine/MainReset.lean can change. -/

namespace Sys2Proof.Machine

variable {T : List Part} {z : State}

@[simp] theorem State.setStart_frame [Touch .start T] (s : State) (t : Start) (hwf : Within T z s) :
    Within T z (State.setStart s t) := by
  simp (maxDischargeDepth := 30) [State.setStart, *]

@[simp] theorem State.setPower_frame [Touch .power T] (s : State) (p : Power) (hwf : Within T z s) :
    Within T z (State.setPower s p) := by
  simp (maxDischargeDepth := 30) [State.setPower, *]

@[simp] theorem State.setMem_frame [Touch .mem T] (s : State) (m : Memory) (hwf : Within T z s) :
    Within T z (State.setMem s m) := by
  simp (maxDischargeDepth := 30) [State.setMem, *]

@[simp] theorem State.setLayout_frame [Touch .layout T] (s : State) (l : Layout) (hwf : Within T z s) :
    Within T z (State.setLayout s l) := by
  simp (maxDischargeDepth := 30) [State.setLayout, *]

@[simp] theorem State.setFw_frame [Touch .fw T] (s : State) (f : Firmware) (hwf : Within T z s) :
    Within T z (State.setFw s f) := by
  simp (maxDischargeDepth := 30) [State.setFw, *]

@[simp] theorem State.setMedia_frame [Touch .media T] (s : State) (m : Media) (hwf : Within T z s) :
    Within T z (State.setMedia s m) := by
  simp (maxDischargeDepth := 30) [State.setMedia, *]

@[simp] theorem freshSequence_frame [Touch .objs T] [Touch .start T] [Touch .motion T] (s : State) (hwf : Within T z s) :
    Within T z (freshSequence s) := by
  simp only [freshSequence]
  refine State.each_frame ?_ fun t x h => ?_
  · simp (maxDischargeDepth := 30) [*]
  · simp [h]

@[simp] theorem mainReset_frame [Touch .objs T] [Touch .power T] [Touch .dict T] [Touch .start T] [Touch .fw T] [Touch .media T] [Touch .chan T] [Touch .dec T] [Touch .players T] [Touch .acts T] [Touch .engines T] [Touch .groups T] [Touch .traces T] [Touch .girth T] [Touch .host T] [Touch .layout T] [Touch .mem T] [Touch .fab T] [Touch .coll T] [Touch .raised T] (s : State) (h : Within T z s) : Within T z (mainReset s) := by
  unfold mainReset
  simp [h]

@[simp] theorem faultOut_frame [Touch .power T] (s : State) (hwf : Within T z s) :
    Within T z (faultOut s) := by
  simp (maxDischargeDepth := 30) [faultOut, *]

@[simp] theorem setDegraded_frame [Touch .objs T] (s : State) (i : ℕ) (b : Bool) (hwf : Within T z s) :
    Within T z (setDegraded s i b) := by
  simp (maxDischargeDepth := 30) [setDegraded, *]

@[simp] theorem setControl_frame [Touch .fw T] (s : State) (active : ℕ) (pending : ℕ) (hwf : Within T z s) :
    Within T z (setControl s active pending) := by
  simp (maxDischargeDepth := 30) [setControl, *]

@[simp] theorem pendingFails_frame [Touch .fw T] [Touch .raised T] (s : State) (step : ℕ) (hwf : Within T z s) :
    Within T z (pendingFails s step) := by
  simp (maxDischargeDepth := 30) [pendingFails, *]

@[simp] theorem modRecord_frame [Touch .start T] (s : State) (f : StartRecord → StartRecord) (hwf : Within T z s) :
    Within T z (modRecord s f) := by
  simp only [modRecord]
  split <;> simp (maxDischargeDepth := 30) [*]

@[simp] theorem stepResult_frame [Touch .start T] (s : State) (step : ℕ) (code : ℕ) (hwf : Within T z s) :
    Within T z (stepResult s step code) := by
  simp (maxDischargeDepth := 30) [stepResult, *]

@[simp] theorem sealRecord_frame [Touch .start T] (s : State) (endCode : ℕ) (failedStep : ℕ) (detail : ℕ) (hwf : Within T z s) :
    Within T z (sealRecord s endCode failedStep detail) := by
  simp (maxDischargeDepth := 30) [sealRecord, *]

end Sys2Proof.Machine
end

