-- ==== Sys2Proof/Laws/FrameDrive.lean ====
section
/-! SUPPORT. The parts of the state that every operation of Machine/Drive.lean can change. -/

namespace Sys2Proof.Machine

variable {T : List Part} {z : State}

@[simp] theorem State.setMotion_frame [Touch .motion T] (s : State) (m : Motion) (hwf : Within T z s) :
    Within T z (State.setMotion s m) := by
  simp (maxDischargeDepth := 30) [State.setMotion, *]

@[simp] theorem retract_frame [Touch .objs T] [Touch .motion T] [Touch .free T] (s : State) (a : ℕ) (hwf : Within T z s) :
    Within T z (retract s a) := by
  simp (maxDischargeDepth := 30) [retract, *]

@[simp] theorem retractLoaded_frame [Touch .objs T] [Touch .motion T] [Touch .free T] (s : State) (hwf : Within T z s) :
    Within T z (retractLoaded s) := by
  unfold retractLoaded
  repeat' split
  all_goals simp_all (maxDischargeDepth := 30)

@[simp] theorem driveFault_frame [Touch .objs T] (s : State) (a : ℕ) (i : ℕ) (hwf : Within T z s) :
    Within T z (driveFault s a i) := by
  simp (maxDischargeDepth := 30) [driveFault, *]

@[simp] theorem showStatus_frame [Touch .objs T] (s : State) (hwf : Within T z s) :
    Within T z (showStatus s) := by
  simp (maxDischargeDepth := 30) [showStatus, *]

@[simp] theorem spinTo_frame [Touch .objs T] (s : State) (mode : ℕ) (hwf : Within T z s) :
    Within T z (spinTo s mode) := by
  simp (maxDischargeDepth := 30) [spinTo, *]

@[simp] theorem spinHold_frame [Touch .objs T] (s : State) (hwf : Within T z s) :
    Within T z (spinHold s) := by
  simp (maxDischargeDepth := 30) [spinHold, *]

@[simp] theorem spinRein_frame [Touch .objs T] (s : State) (hwf : Within T z s) :
    Within T z (spinRein s) := by
  simp (maxDischargeDepth := 30) [spinRein, *]

@[simp] theorem spinCancel_frame [Touch .motion T] (s : State) (hwf : Within T z s) :
    Within T z (spinCancel s) := by
  simp (maxDischargeDepth := 30) [spinCancel, *]

@[simp] theorem spinStop_frame [Touch .objs T] [Touch .motion T] (s : State) (hwf : Within T z s) :
    Within T z (spinStop s) := by
  simp (maxDischargeDepth := 30) [spinStop, *]

@[simp] theorem surfaceTo_frame [Touch .objs T] [Touch .layout T] (s : State) (u : ℕ) (st : ℕ) (hwf : Within T z s) :
    Within T z (surfaceTo s u st) := by
  simp (maxDischargeDepth := 30) [surfaceTo, *]

@[simp] theorem surfacesFail_frame [Touch .objs T] [Touch .layout T] (s : State) (a : ℕ) (hwf : Within T z s) :
    Within T z (surfacesFail s a) := by
  unfold surfacesFail
  repeat' split
  all_goals simp_all (maxDischargeDepth := 30)

@[simp] theorem surfacesGood_frame [Touch .objs T] [Touch .layout T] (s : State) (a : ℕ) (hwf : Within T z s) :
    Within T z (surfacesGood s a) := by
  unfold surfacesGood
  repeat' split
  all_goals simp_all (maxDischargeDepth := 30)

@[simp] theorem followPlayers_frame [Touch .objs T] (s : State) (a : ℕ) (hwf : Within T z s) :
    Within T z (followPlayers s a) := by
  unfold followPlayers
  repeat' split
  all_goals simp_all (maxDischargeDepth := 30)

@[simp] theorem setActuator_frame [Touch .objs T] [Touch .layout T] (s : State) (a : ℕ) (st : ℕ) (hwf : Within T z s) :
    Within T z (setActuator s a st) := by
  simp (maxDischargeDepth := 30) [setActuator, *]

@[simp] theorem markFenced_frame [Touch .objs T] (s : State) (a : ℕ) (hwf : Within T z s) :
    Within T z (markFenced s a) := by
  simp (maxDischargeDepth := 30) [markFenced, *]

@[simp] theorem fenceActuator_frame [Touch .objs T] [Touch .chan T] [Touch .dec T] [Touch .players T] [Touch .acts T] [Touch .traces T] [Touch .layout T] [Touch .mem T] [Touch .raised T] [Touch .outs T] [Touch .free T] (s : State) (a : ℕ) (o : Outcome) (hwf : Within T z s) :
    Within T z (fenceActuator s a o) := by
  simp (maxDischargeDepth := 30) [fenceActuator, *]

@[simp] theorem fenceAborting_frame [Touch .objs T] [Touch .chan T] [Touch .dec T] [Touch .players T] [Touch .acts T] [Touch .traces T] [Touch .layout T] [Touch .mem T] [Touch .raised T] [Touch .outs T] [Touch .free T] (s : State) (a : ℕ) (hwf : Within T z s) :
    Within T z (fenceAborting s a) := by
  simp (maxDischargeDepth := 30) [fenceAborting, *]

@[simp] theorem parkActuator_frame [Touch .objs T] [Touch .chan T] [Touch .dec T] [Touch .players T] [Touch .acts T] [Touch .traces T] [Touch .motion T] [Touch .layout T] [Touch .mem T] [Touch .raised T] [Touch .outs T] [Touch .free T] (s : State) (a : ℕ) (hwf : Within T z s) :
    Within T z (parkActuator s a) := by
  simp (maxDischargeDepth := 30) [parkActuator, *]

@[simp] theorem preampSwitch_frame [Touch .objs T] (s : State) (a : ℕ) (on : Bool) (hwf : Within T z s) :
    Within T z (preampSwitch s a on) := by
  simp (maxDischargeDepth := 30) [preampSwitch, *]

@[simp] theorem preampFaulted_frame [Touch .objs T] [Touch .chan T] [Touch .dec T] [Touch .players T] [Touch .acts T] [Touch .traces T] [Touch .motion T] [Touch .layout T] [Touch .mem T] [Touch .raised T] [Touch .outs T] [Touch .free T] (s : State) (a : ℕ) (hwf : Within T z s) :
    Within T z (preampFaulted s a) := by
  simp (maxDischargeDepth := 30) [preampFaulted, *]

theorem execPreampFaultPersist_frame [Touch .objs T] [Touch .chan T] [Touch .dec T] [Touch .players T] [Touch .acts T] [Touch .traces T] [Touch .motion T] [Touch .layout T] [Touch .mem T] [Touch .raised T] [Touch .outs T] [Touch .free T] (a : Fin 4) (s : State) (hwf : Within T z s) :
    outWithin T z (execPreampFaultPersist a s) := by
  simp (maxDischargeDepth := 30) [execPreampFaultPersist, *]

theorem execV3p3Overcurrent_frame [Touch .objs T] [Touch .chan T] [Touch .dec T] [Touch .players T] [Touch .acts T] [Touch .traces T] [Touch .motion T] [Touch .layout T] [Touch .mem T] [Touch .raised T] [Touch .outs T] [Touch .free T] (a : Fin 4) (s : State) (hwf : Within T z s) :
    outWithin T z (execV3p3Overcurrent a s) := by
  simp (maxDischargeDepth := 30) [execV3p3Overcurrent, *]

@[simp] theorem heaterZero_frame [Touch .chan T] [Touch .outs T] (s : State) (a : ℕ) (hwf : Within T z s) :
    Within T z (heaterZero s a) := by
  simp (maxDischargeDepth := 30) [heaterZero, *]

@[simp] theorem gatesOff_frame [Touch .objs T] [Touch .chan T] [Touch .players T] [Touch .traces T] [Touch .mem T] [Touch .raised T] [Touch .outs T] [Touch .free T] (s : State) (hwf : Within T z s) :
    Within T z (gatesOff s) := by
  unfold gatesOff
  repeat' split
  all_goals simp_all (maxDischargeDepth := 30)

@[simp] theorem sendResetNotice_frame [Touch .objs T] [Touch .motion T] [Touch .outs T] (s : State) (hwf : Within T z s) :
    Within T z (sendResetNotice s) := by
  simp (maxDischargeDepth := 30) [sendResetNotice, *]

@[simp] theorem endAttempt_frame [Touch .objs T] [Touch .power T] [Touch .dict T] [Touch .start T] [Touch .fw T] [Touch .media T] [Touch .chan T] [Touch .dec T] [Touch .players T] [Touch .acts T] [Touch .engines T] [Touch .groups T] [Touch .traces T] [Touch .motion T] [Touch .girth T] [Touch .host T] [Touch .layout T] [Touch .mem T] [Touch .fab T] [Touch .coll T] [Touch .raised T] [Touch .outs T] [Touch .free T] (s : State) (stopSpindle : Bool) (hwf : Within T z s) :
    Within T z (endAttempt s stopSpindle) := by
  unfold endAttempt
  repeat' split
  all_goals simp_all (maxDischargeDepth := 30)

@[simp] theorem halt_frame [Touch .power T] [Touch .start T] [Touch .motion T] (s : State) (hwf : Within T z s) :
    Within T z (halt s) := by
  simp (maxDischargeDepth := 30) [halt, *]

@[simp] theorem romMaintenance_frame [Touch .power T] [Touch .start T] (s : State) (hwf : Within T z s) :
    Within T z (romMaintenance s) := by
  simp (maxDischargeDepth := 30) [romMaintenance, *]

@[simp] theorem holdRaised_frame [Touch .raised T] (s : State) (ev : List Event) (hwf : Within T z s) :
    Within T z (holdRaised s ev) := by
  simp (maxDischargeDepth := 30) [holdRaised, *]

@[simp] theorem maintenanceEntry_frame [Touch .objs T] [Touch .power T] [Touch .start T] [Touch .motion T] [Touch .raised T] [Touch .free T] (s : State) (hwf : Within T z s) :
    Within T z (maintenanceEntry s) := by
  unfold maintenanceEntry
  repeat' split
  all_goals simp_all (maxDischargeDepth := 30)

@[simp] theorem failAttempt_frame [Touch .objs T] [Touch .power T] [Touch .dict T] [Touch .start T] [Touch .fw T] [Touch .media T] [Touch .chan T] [Touch .dec T] [Touch .players T] [Touch .acts T] [Touch .engines T] [Touch .groups T] [Touch .traces T] [Touch .motion T] [Touch .girth T] [Touch .host T] [Touch .layout T] [Touch .mem T] [Touch .fab T] [Touch .coll T] [Touch .raised T] [Touch .outs T] [Touch .free T] (s : State) (code : ℕ) (detail : ℕ) (deadline : optParam Bool false) (hwf : Within T z s) :
    Within T z (failAttempt s code detail deadline) := by
  simp (maxDischargeDepth := 30) [failAttempt, *]

@[simp] theorem safeEntry_frame [Touch .objs T] [Touch .power T] [Touch .dict T] [Touch .start T] [Touch .fw T] [Touch .media T] [Touch .chan T] [Touch .dec T] [Touch .players T] [Touch .acts T] [Touch .engines T] [Touch .groups T] [Touch .traces T] [Touch .motion T] [Touch .girth T] [Touch .host T] [Touch .layout T] [Touch .mem T] [Touch .fab T] [Touch .coll T] [Touch .raised T] [Touch .outs T] [Touch .free T] (s : State) (cause : ℕ) (hwf : Within T z s) :
    Within T z (safeEntry s cause) := by
  unfold safeEntry
  repeat' split
  all_goals simp_all (maxDischargeDepth := 30)

@[simp] theorem plainRecord_frame [Touch .objs T] [Touch .host T] [Touch .coll T] [Touch .outs T] [Touch .free T] (s : State) (ev : Event) (r : ℕ × Bool) (action : ℕ) (hwf : Within T z s) :
    Within T z (plainRecord s ev r action) := by
  simp (maxDischargeDepth := 30) [plainRecord, *]

@[simp] theorem safeBy_frame [Touch .objs T] [Touch .power T] [Touch .dict T] [Touch .start T] [Touch .fw T] [Touch .media T] [Touch .chan T] [Touch .dec T] [Touch .players T] [Touch .acts T] [Touch .engines T] [Touch .groups T] [Touch .traces T] [Touch .motion T] [Touch .girth T] [Touch .host T] [Touch .layout T] [Touch .mem T] [Touch .fab T] [Touch .coll T] [Touch .raised T] [Touch .outs T] [Touch .free T] (s : State) (ev : Event) (hwf : Within T z s) :
    Within T z (safeBy s ev) := by
  simp (maxDischargeDepth := 30) [safeBy, *]

end Sys2Proof.Machine
end

