-- ==== Sys2Proof/Laws/FrameReinEngine.lean ====
section
/-! SUPPORT. The parts of the state that every operation of Machine/ReinEngine.lean can change. -/

namespace Sys2Proof.Machine

variable {T : List Part} {z : State}

@[simp] theorem setEngState_frame [Touch .objs T] (s : State) (e : ℕ) (st : ℕ) (hwf : Within T z s) :
    Within T z (setEngState s e st) := by
  simp (maxDischargeDepth := 30) [setEngState, *]

@[simp] theorem setEngRole_frame [Touch .objs T] (s : State) (e : ℕ) (r : ℕ) (hwf : Within T z s) :
    Within T z (setEngRole s e r) := by
  simp (maxDischargeDepth := 30) [setEngRole, *]

@[simp] theorem regroup_frame [Touch .objs T] (s : State) (g : ℕ) (hwf : Within T z s) :
    Within T z (regroup s g) := by
  simp (maxDischargeDepth := 30) [regroup, *]

@[simp] theorem State.setBlob_frame [Touch .objs T] [Touch .dict T] (s : State) (k : Key) (b : List Byte) (hwf : Within T z s) :
    Within T z (State.setBlob s k b) := by
  simp (maxDischargeDepth := 30) [State.setBlob, *]

@[simp] theorem loadProgram_frame [Touch .engines T] (s : State) (e : ℕ) (hwf : Within T z s) :
    Within T z (loadProgram s e) := by
  simp only [loadProgram]
  split <;> simp (maxDischargeDepth := 30) [*]

@[simp] theorem loadInitial_frame [Touch .engines T] (s : State) (e : ℕ) (hwf : Within T z s) :
    Within T z (loadInitial s e) := by
  simp only [loadInitial]
  split <;> simp (maxDischargeDepth := 30) [*]

@[simp] theorem queueCoefs_frame [Touch .engines T] (s : State) (g : ℕ) (l : List (ℕ × Coef)) (hwf : Within T z s) :
    Within T z (queueCoefs s g l) := by
  unfold queueCoefs
  repeat' split
  all_goals simp_all (maxDischargeDepth := 30)

@[simp] theorem takeoverRoles_frame [Touch .objs T] (s : State) (g : ℕ) (e : ℕ) (hwf : Within T z s) :
    Within T z (takeoverRoles s g e) := by
  unfold takeoverRoles
  repeat' split
  all_goals simp_all (maxDischargeDepth := 30)

@[simp] theorem traceEvent_frame [Touch .traces T] (s : State) (a : ℕ) (i : ℕ) (hwf : Within T z s) :
    Within T z (traceEvent s a i) := by
  simp (maxDischargeDepth := 30) [traceEvent, *]

@[simp] theorem engineOut_frame [Touch .objs T] [Touch .engines T] [Touch .traces T] [Touch .free T] (s : State) (e : ℕ) (hwf : Within T z s) :
    Within T z (engineOut s e) := by
  simp (maxDischargeDepth := 30) [engineOut, *]

@[simp] theorem fenceEngine_frame [Touch .objs T] [Touch .engines T] [Touch .traces T] [Touch .raised T] [Touch .free T] (s : State) (e : ℕ) (hwf : Within T z s) :
    Within T z (fenceEngine s e) := by
  simp (maxDischargeDepth := 30) [fenceEngine, *]

@[simp] theorem holdMissed_frame [Touch .objs T] [Touch .free T] (s : State) (g : ℕ) (hwf : Within T z s) :
    Within T z (holdMissed s g) := by
  simp (maxDischargeDepth := 30) [holdMissed, *]

@[simp] theorem parkGroup_frame [Touch .objs T] [Touch .power T] [Touch .dict T] [Touch .start T] [Touch .fw T] [Touch .media T] [Touch .chan T] [Touch .dec T] [Touch .players T] [Touch .acts T] [Touch .engines T] [Touch .groups T] [Touch .traces T] [Touch .motion T] [Touch .girth T] [Touch .host T] [Touch .layout T] [Touch .mem T] [Touch .fab T] [Touch .coll T] [Touch .raised T] [Touch .outs T] [Touch .free T] (s : State) (g : ℕ) (hwf : Within T z s) :
    Within T z (parkGroup s g) := by
  simp (maxDischargeDepth := 30) [parkGroup, *]

@[simp] theorem parkIfAlone_frame [Touch .objs T] [Touch .power T] [Touch .dict T] [Touch .start T] [Touch .fw T] [Touch .media T] [Touch .chan T] [Touch .dec T] [Touch .players T] [Touch .acts T] [Touch .engines T] [Touch .groups T] [Touch .traces T] [Touch .motion T] [Touch .girth T] [Touch .host T] [Touch .layout T] [Touch .mem T] [Touch .fab T] [Touch .coll T] [Touch .raised T] [Touch .outs T] [Touch .free T] (s : State) (g : ℕ) (hwf : Within T z s) :
    Within T z (parkIfAlone s g) := by
  simp (maxDischargeDepth := 30) [parkIfAlone, *]

@[simp] theorem startRun_frame [Touch .engines T] (s : State) (e : ℕ) (entry : ℕ) (inputs : SMap Word32) (rerun : Bool) (hwf : Within T z s) :
    Within T z (startRun s e entry inputs rerun) := by
  simp (maxDischargeDepth := 30) [startRun, *]

@[simp] theorem joinRegisters_frame [Touch .objs T] [Touch .engines T] (s : State) (g : ℕ) (active : ℕ) (hwf : Within T z s) :
    Within T z (joinRegisters s g active) := by
  unfold joinRegisters
  repeat' split
  all_goals simp_all (maxDischargeDepth := 30)

@[simp] theorem takeCheckpoint_frame [Touch .objs T] [Touch .dict T] [Touch .engines T] [Touch .groups T] (s : State) (e : ℕ) (hwf : Within T z s) :
    Within T z (takeCheckpoint s e) := by
  simp (maxDischargeDepth := 30) [takeCheckpoint, *]

@[simp] theorem serveTrigger_frame [Touch .objs T] [Touch .dict T] [Touch .engines T] [Touch .groups T] (s : State) (e : ℕ) (entry : ℕ) (inputs : SMap Word32) (hwf : Within T z s) :
    Within T z (serveTrigger s e entry inputs) := by
  unfold serveTrigger
  repeat' split
  all_goals simp_all (maxDischargeDepth := 30)

@[simp] theorem triggerEngine_frame [Touch .objs T] [Touch .dict T] [Touch .engines T] [Touch .groups T] (s : State) (e : ℕ) (entry : ℕ) (inputs : SMap Word32) (hwf : Within T z s) :
    Within T z (triggerEngine s e entry inputs) := by
  simp only [triggerEngine]
  repeat' split
  all_goals simp (maxDischargeDepth := 30) [*]

@[simp] theorem afterRun_frame [Touch .objs T] [Touch .dict T] [Touch .engines T] [Touch .groups T] (s : State) (e : ℕ) (hwf : Within T z s) :
    Within T z (afterRun s e) := by
  simp only [afterRun]
  repeat' split
  all_goals simp (maxDischargeDepth := 30) [*]

@[simp] theorem countSat_frame [Touch .objs T] [Touch .free T] (s : State) (e : ℕ) (hwf : Within T z s) :
    Within T z (countSat s e) := by
  simp only [countSat]
  split <;> simp (maxDischargeDepth := 30) [*]

@[simp] theorem deliver_frame [Touch .objs T] [Touch .dict T] [Touch .engines T] [Touch .groups T] [Touch .free T] (s : State) (e : ℕ) (r : Run) (hwf : Within T z s) :
    Within T z (deliver s e r) := by
  simp (maxDischargeDepth := 30) [deliver, *]

@[simp] theorem stopRun_frame [Touch .objs T] [Touch .dict T] [Touch .engines T] [Touch .groups T] [Touch .raised T] [Touch .free T] (s : State) (e : ℕ) (why : ℕ) (hwf : Within T z s) :
    Within T z (stopRun s e why) := by
  simp only [stopRun]
  split <;> simp (maxDischargeDepth := 30) [*]

@[simp] theorem actuatorInputs_frame [Touch .objs T] [Touch .free T] (s : State) (a : ℕ) (hwf : Within T z s) :
    Within T z (actuatorInputs s a).2 := by
  simp (maxDischargeDepth := 30) [actuatorInputs, *]

@[simp] theorem spindleInputs_frame [Touch .free T] (s : State) (hwf : Within T z s) :
    Within T z (spindleInputs s).2 := by
  simp (maxDischargeDepth := 30) [spindleInputs, *]

@[simp] theorem groupInputs_frame [Touch .objs T] [Touch .free T] (s : State) (g : ℕ) (hwf : Within T z s) :
    Within T z (groupInputs s g).2 := by
  simp only [groupInputs]
  split <;> simp (maxDischargeDepth := 30) [*]

@[simp] theorem traceSample_frame [Touch .objs T] [Touch .traces T] (s : State) (a : ℕ) (inner : Bool) (hwf : Within T z s) :
    Within T z (traceSample s a inner) := by
  simp (maxDischargeDepth := 30) [traceSample, *]

@[simp] theorem holdPosition_frame [Touch .objs T] [Touch .chan T] [Touch .players T] [Touch .traces T] [Touch .mem T] [Touch .raised T] [Touch .outs T] [Touch .free T] (s : State) (g : ℕ) (entry : ℕ) (hwf : Within T z s) :
    Within T z (holdPosition s g entry) := by
  simp (maxDischargeDepth := 30) [holdPosition, *]

@[simp] theorem missLatch_frame [Touch .objs T] [Touch .power T] [Touch .dict T] [Touch .start T] [Touch .fw T] [Touch .media T] [Touch .chan T] [Touch .dec T] [Touch .players T] [Touch .acts T] [Touch .engines T] [Touch .groups T] [Touch .traces T] [Touch .motion T] [Touch .girth T] [Touch .host T] [Touch .layout T] [Touch .mem T] [Touch .fab T] [Touch .coll T] [Touch .raised T] [Touch .outs T] [Touch .free T] (s : State) (g : ℕ) (entry : ℕ) (hwf : Within T z s) :
    Within T z (missLatch s g entry) := by
  simp (maxDischargeDepth := 30) [missLatch, *]

@[simp] theorem lostRun_frame [Touch .objs T] [Touch .power T] [Touch .dict T] [Touch .start T] [Touch .fw T] [Touch .media T] [Touch .chan T] [Touch .dec T] [Touch .players T] [Touch .acts T] [Touch .engines T] [Touch .groups T] [Touch .traces T] [Touch .motion T] [Touch .girth T] [Touch .host T] [Touch .layout T] [Touch .mem T] [Touch .fab T] [Touch .coll T] [Touch .raised T] [Touch .outs T] [Touch .free T] (s : State) (g : ℕ) (entry : ℕ) (hwf : Within T z s) :
    Within T z (lostRun s g entry) := by
  simp (maxDischargeDepth := 30) [lostRun, *]

@[simp] theorem takeOffset_frame [Touch .groups T] (s : State) (g : ℕ) (entry : ℕ) (hwf : Within T z s) :
    Within T z (takeOffset s g entry) := by
  simp only [takeOffset]
  split <;> simp (maxDischargeDepth := 30) [*]

@[simp] theorem groupTrigger_frame [Touch .objs T] [Touch .power T] [Touch .dict T] [Touch .start T] [Touch .fw T] [Touch .media T] [Touch .chan T] [Touch .dec T] [Touch .players T] [Touch .acts T] [Touch .engines T] [Touch .groups T] [Touch .traces T] [Touch .motion T] [Touch .girth T] [Touch .host T] [Touch .layout T] [Touch .mem T] [Touch .fab T] [Touch .coll T] [Touch .raised T] [Touch .outs T] [Touch .free T] (s : State) (g : ℕ) (entry : ℕ) (hwf : Within T z s) :
    Within T z (groupTrigger s g entry) := by
  unfold groupTrigger
  repeat' split
  all_goals simp_all (maxDischargeDepth := 30)

end Sys2Proof.Machine
end

