-- ==== Sys2Proof/Laws/FrameReinAlu.lean ====
section
/-! SUPPORT. The parts of the state that every operation of Machine/ReinAlu.lean can change. -/

namespace Sys2Proof.Machine

variable {T : List Part} {z : State}

@[simp] theorem reinStep_frame [Touch .engines T] (e : Fin 16) (w : ℕ) (f : Engine → Engine) (s : State) (hwf : Within T z s) :
    Within T z (reinStep e w f s) := by
  simp only [reinStep]
  split <;> simp (maxDischargeDepth := 30) [*]

@[simp] theorem reinCtx_frame [Touch .engines T] (e : Fin 16) (w : ℕ) (f : Context → Context) (s : State) (hwf : Within T z s) :
    outWithin T z (reinCtx e w f s) := by
  simp (maxDischargeDepth := 30) [reinCtx, *]

@[simp] theorem reinFault_frame [Touch .objs T] [Touch .dict T] [Touch .engines T] [Touch .groups T] [Touch .raised T] [Touch .free T] (e : Fin 16) (w : ℕ) (s : State) (hwf : Within T z s) :
    outWithin T z (reinFault e w s) := by
  simp (maxDischargeDepth := 30) [reinFault, *]

theorem execReinNop_frame [Touch .engines T] (e : Fin 16) (s : State) (hwf : Within T z s) :
    outWithin T z (execReinNop e s) := by
  simp (maxDischargeDepth := 30) [execReinNop, *]

theorem execReinAdd_frame [Touch .engines T] (e : Fin 16) (rd : Fin 16) (ra : Fin 16) (rb : Fin 16) (s : State) (hwf : Within T z s) :
    outWithin T z (execReinAdd e rd ra rb s) := by
  simp (maxDischargeDepth := 30) [execReinAdd, *]

theorem execReinSub_frame [Touch .engines T] (e : Fin 16) (rd : Fin 16) (ra : Fin 16) (rb : Fin 16) (s : State) (hwf : Within T z s) :
    outWithin T z (execReinSub e rd ra rb s) := by
  simp (maxDischargeDepth := 30) [execReinSub, *]

theorem execReinAddw_frame [Touch .engines T] (e : Fin 16) (rd : Fin 16) (ra : Fin 16) (rb : Fin 16) (s : State) (hwf : Within T z s) :
    outWithin T z (execReinAddw e rd ra rb s) := by
  simp (maxDischargeDepth := 30) [execReinAddw, *]

theorem execReinSubw_frame [Touch .engines T] (e : Fin 16) (rd : Fin 16) (ra : Fin 16) (rb : Fin 16) (s : State) (hwf : Within T z s) :
    outWithin T z (execReinSubw e rd ra rb s) := by
  simp (maxDischargeDepth := 30) [execReinSubw, *]

theorem execReinAnd_frame [Touch .engines T] (e : Fin 16) (rd : Fin 16) (ra : Fin 16) (rb : Fin 16) (s : State) (hwf : Within T z s) :
    outWithin T z (execReinAnd e rd ra rb s) := by
  simp (maxDischargeDepth := 30) [execReinAnd, *]

theorem execReinOr_frame [Touch .engines T] (e : Fin 16) (rd : Fin 16) (ra : Fin 16) (rb : Fin 16) (s : State) (hwf : Within T z s) :
    outWithin T z (execReinOr e rd ra rb s) := by
  simp (maxDischargeDepth := 30) [execReinOr, *]

theorem execReinXor_frame [Touch .engines T] (e : Fin 16) (rd : Fin 16) (ra : Fin 16) (rb : Fin 16) (s : State) (hwf : Within T z s) :
    outWithin T z (execReinXor e rd ra rb s) := by
  simp (maxDischargeDepth := 30) [execReinXor, *]

theorem execReinMin_frame [Touch .engines T] (e : Fin 16) (rd : Fin 16) (ra : Fin 16) (rb : Fin 16) (s : State) (hwf : Within T z s) :
    outWithin T z (execReinMin e rd ra rb s) := by
  simp (maxDischargeDepth := 30) [execReinMin, *]

theorem execReinMax_frame [Touch .engines T] (e : Fin 16) (rd : Fin 16) (ra : Fin 16) (rb : Fin 16) (s : State) (hwf : Within T z s) :
    outWithin T z (execReinMax e rd ra rb s) := by
  simp (maxDischargeDepth := 30) [execReinMax, *]

theorem execReinAbs_frame [Touch .engines T] (e : Fin 16) (rd : Fin 16) (ra : Fin 16) (s : State) (hwf : Within T z s) :
    outWithin T z (execReinAbs e rd ra s) := by
  simp (maxDischargeDepth := 30) [execReinAbs, *]

theorem execReinNeg_frame [Touch .engines T] (e : Fin 16) (rd : Fin 16) (ra : Fin 16) (s : State) (hwf : Within T z s) :
    outWithin T z (execReinNeg e rd ra s) := by
  simp (maxDischargeDepth := 30) [execReinNeg, *]

theorem execReinShl_frame [Touch .engines T] (e : Fin 16) (rd : Fin 16) (ra : Fin 16) (imm : BitVec 16) (s : State) (hwf : Within T z s) :
    outWithin T z (execReinShl e rd ra imm s) := by
  simp (maxDischargeDepth := 30) [execReinShl, *]

theorem execReinShr_frame [Touch .engines T] (e : Fin 16) (rd : Fin 16) (ra : Fin 16) (imm : BitVec 16) (s : State) (hwf : Within T z s) :
    outWithin T z (execReinShr e rd ra imm s) := by
  simp (maxDischargeDepth := 30) [execReinShr, *]

theorem execReinShrl_frame [Touch .engines T] (e : Fin 16) (rd : Fin 16) (ra : Fin 16) (imm : BitVec 16) (s : State) (hwf : Within T z s) :
    outWithin T z (execReinShrl e rd ra imm s) := by
  simp (maxDischargeDepth := 30) [execReinShrl, *]

theorem execReinLi_frame [Touch .engines T] (e : Fin 16) (rd : Fin 16) (imm : BitVec 16) (s : State) (hwf : Within T z s) :
    outWithin T z (execReinLi e rd imm s) := by
  simp (maxDischargeDepth := 30) [execReinLi, *]

theorem execReinLui_frame [Touch .engines T] (e : Fin 16) (rd : Fin 16) (imm : BitVec 16) (s : State) (hwf : Within T z s) :
    outWithin T z (execReinLui e rd imm s) := by
  simp (maxDischargeDepth := 30) [execReinLui, *]

theorem execReinAddi_frame [Touch .engines T] (e : Fin 16) (rd : Fin 16) (ra : Fin 16) (imm : BitVec 16) (s : State) (hwf : Within T z s) :
    outWithin T z (execReinAddi e rd ra imm s) := by
  simp (maxDischargeDepth := 30) [execReinAddi, *]

theorem execReinLd_frame [Touch .objs T] [Touch .dict T] [Touch .engines T] [Touch .groups T] [Touch .raised T] [Touch .free T] (e : Fin 16) (rd : Fin 16) (ra : Fin 16) (imm : BitVec 16) (s : State) (hwf : Within T z s) :
    outWithin T z (execReinLd e rd ra imm s) := by
  simp (maxDischargeDepth := 30) [execReinLd, *]

theorem execReinSt_frame [Touch .objs T] [Touch .dict T] [Touch .engines T] [Touch .groups T] [Touch .raised T] [Touch .free T] (e : Fin 16) (rs : Fin 16) (ra : Fin 16) (imm : BitVec 16) (s : State) (hwf : Within T z s) :
    outWithin T z (execReinSt e rs ra imm s) := by
  simp (maxDischargeDepth := 30) [execReinSt, *]

theorem execReinIn_frame [Touch .engines T] (e : Fin 16) (rd : Fin 16) (port : BitVec 8) (s : State) (hwf : Within T z s) :
    outWithin T z (execReinIn e rd port s) := by
  simp (maxDischargeDepth := 30) [execReinIn, *]

theorem execReinOut_frame [Touch .engines T] (e : Fin 16) (rs : Fin 16) (port : BitVec 8) (s : State) (hwf : Within T z s) :
    outWithin T z (execReinOut e rs port s) := by
  simp (maxDischargeDepth := 30) [execReinOut, *]

theorem execReinSetcb_frame [Touch .engines T] (e : Fin 16) (imm : BitVec 16) (s : State) (hwf : Within T z s) :
    outWithin T z (execReinSetcb e imm s) := by
  simp (maxDischargeDepth := 30) [execReinSetcb, *]

theorem execReinMul_frame [Touch .engines T] (e : Fin 16) (acc : Bool) (ra : Fin 16) (caddr : BitVec 10) (s : State) (hwf : Within T z s) :
    outWithin T z (execReinMul e acc ra caddr s) := by
  simp (maxDischargeDepth := 30) [execReinMul, *]

theorem execReinMac_frame [Touch .engines T] (e : Fin 16) (acc : Bool) (ra : Fin 16) (caddr : BitVec 10) (s : State) (hwf : Within T z s) :
    outWithin T z (execReinMac e acc ra caddr s) := by
  simp (maxDischargeDepth := 30) [execReinMac, *]

theorem execReinMsu_frame [Touch .engines T] (e : Fin 16) (acc : Bool) (ra : Fin 16) (caddr : BitVec 10) (s : State) (hwf : Within T z s) :
    outWithin T z (execReinMsu e acc ra caddr s) := by
  simp (maxDischargeDepth := 30) [execReinMsu, *]

theorem execReinClra_frame [Touch .engines T] (e : Fin 16) (acc : Bool) (s : State) (hwf : Within T z s) :
    outWithin T z (execReinClra e acc s) := by
  simp (maxDischargeDepth := 30) [execReinClra, *]

theorem execReinLda_frame [Touch .engines T] (e : Fin 16) (acc : Bool) (ra : Fin 16) (s : State) (hwf : Within T z s) :
    outWithin T z (execReinLda e acc ra s) := by
  simp (maxDischargeDepth := 30) [execReinLda, *]

theorem execReinRnd_frame [Touch .engines T] (e : Fin 16) (rd : Fin 16) (acc : Bool) (mode : BitVec 2) (l : BitVec 4) (s : State) (hwf : Within T z s) :
    outWithin T z (execReinRnd e rd acc mode l s) := by
  simp (maxDischargeDepth := 30) [execReinRnd, *]

theorem execReinB_frame [Touch .engines T] (e : Fin 16) (target : BitVec 11) (s : State) (hwf : Within T z s) :
    outWithin T z (execReinB e target s) := by
  simp (maxDischargeDepth := 30) [execReinB, *]

theorem execReinBz_frame [Touch .engines T] (e : Fin 16) (ra : Fin 16) (target : BitVec 11) (s : State) (hwf : Within T z s) :
    outWithin T z (execReinBz e ra target s) := by
  simp (maxDischargeDepth := 30) [execReinBz, *]

theorem execReinBnz_frame [Touch .engines T] (e : Fin 16) (ra : Fin 16) (target : BitVec 11) (s : State) (hwf : Within T z s) :
    outWithin T z (execReinBnz e ra target s) := by
  simp (maxDischargeDepth := 30) [execReinBnz, *]

theorem execReinBlt_frame [Touch .engines T] (e : Fin 16) (ra : Fin 16) (target : BitVec 11) (s : State) (hwf : Within T z s) :
    outWithin T z (execReinBlt e ra target s) := by
  simp (maxDischargeDepth := 30) [execReinBlt, *]

theorem execReinBge_frame [Touch .engines T] (e : Fin 16) (ra : Fin 16) (target : BitVec 11) (s : State) (hwf : Within T z s) :
    outWithin T z (execReinBge e ra target s) := by
  simp (maxDischargeDepth := 30) [execReinBge, *]

theorem execReinDbnz_frame [Touch .engines T] (e : Fin 16) (ra : Fin 16) (target : BitVec 11) (s : State) (hwf : Within T z s) :
    outWithin T z (execReinDbnz e ra target s) := by
  simp (maxDischargeDepth := 30) [execReinDbnz, *]

theorem execReinCall_frame [Touch .objs T] [Touch .dict T] [Touch .engines T] [Touch .groups T] [Touch .raised T] [Touch .free T] (e : Fin 16) (target : BitVec 11) (s : State) (hwf : Within T z s) :
    outWithin T z (execReinCall e target s) := by
  simp (maxDischargeDepth := 30) [execReinCall, *]

theorem execReinRet_frame [Touch .objs T] [Touch .dict T] [Touch .engines T] [Touch .groups T] [Touch .raised T] [Touch .free T] (e : Fin 16) (s : State) (hwf : Within T z s) :
    outWithin T z (execReinRet e s) := by
  simp only [execReinRet]
  split <;> simp (maxDischargeDepth := 30) [*]

theorem execReinDone_frame [Touch .objs T] [Touch .dict T] [Touch .engines T] [Touch .groups T] [Touch .free T] (e : Fin 16) (s : State) (hwf : Within T z s) :
    outWithin T z (execReinDone e s) := by
  simp only [execReinDone]
  split <;> simp (maxDischargeDepth := 30) [*]

theorem execReinProgramFault_frame [Touch .objs T] [Touch .dict T] [Touch .engines T] [Touch .groups T] [Touch .raised T] [Touch .free T] (e : Fin 16) (s : State) (hwf : Within T z s) :
    outWithin T z (execReinProgramFault e s) := by
  simp (maxDischargeDepth := 30) [execReinProgramFault, *]

theorem execReinBudgetStop_frame [Touch .objs T] [Touch .dict T] [Touch .engines T] [Touch .groups T] [Touch .raised T] [Touch .free T] (e : Fin 16) (s : State) (hwf : Within T z s) :
    outWithin T z (execReinBudgetStop e s) := by
  simp only [execReinBudgetStop]
  split <;> simp (maxDischargeDepth := 30) [*]

end Sys2Proof.Machine
end

