-- ==== Sys2Proof/Laws/FrameReinGroup.lean ====
section
/-! SUPPORT. The parts of the state that every operation of Machine/ReinGroup.lean can change. -/

namespace Sys2Proof.Machine

variable {T : List Part} {z : State}

@[simp] theorem clearDelivered_frame [Touch .engines T] (s : State) (g : ℕ) (entry : ℕ) (hwf : Within T z s) :
    Within T z (clearDelivered s g entry) := by
  unfold clearDelivered
  repeat' split
  all_goals simp_all (maxDischargeDepth := 30)

@[simp] theorem rollBack_frame [Touch .engines T] (s : State) (g : ℕ) (e : ℕ) (hwf : Within T z s) :
    Within T z (rollBack s g e) := by
  simp only [rollBack]
  repeat' split
  all_goals simp (maxDischargeDepth := 30) [*]

@[simp] theorem pairHold_frame [Touch .objs T] [Touch .power T] [Touch .dict T] [Touch .start T] [Touch .fw T] [Touch .media T] [Touch .chan T] [Touch .dec T] [Touch .players T] [Touch .acts T] [Touch .engines T] [Touch .groups T] [Touch .traces T] [Touch .motion T] [Touch .girth T] [Touch .host T] [Touch .layout T] [Touch .mem T] [Touch .fab T] [Touch .coll T] [Touch .raised T] [Touch .outs T] [Touch .free T] (s : State) (g : ℕ) (entry : ℕ) (voters : List ℕ) (hwf : Within T z s) :
    Within T z (pairHold s g entry voters) := by
  unfold pairHold
  repeat' split
  all_goals simp_all (maxDischargeDepth := 30)

@[simp] theorem probationCompare_frame [Touch .objs T] [Touch .engines T] [Touch .traces T] [Touch .raised T] [Touch .free T] (s : State) (g : ℕ) (entry : ℕ) (set : SMap Word32) (hwf : Within T z s) :
    Within T z (probationCompare s g entry set) := by
  unfold probationCompare
  repeat' split
  all_goals simp_all (maxDischargeDepth := 30)

@[simp] theorem agree_frame [Touch .objs T] [Touch .groups T] [Touch .raised T] [Touch .free T] (s : State) (g : ℕ) (entry : ℕ) (set : SMap Word32) (hwf : Within T z s) :
    Within T z (agree s g entry set) := by
  simp (maxDischargeDepth := 30) [agree, *]

theorem execReinCompare_frame [Touch .objs T] [Touch .power T] [Touch .dict T] [Touch .start T] [Touch .fw T] [Touch .media T] [Touch .chan T] [Touch .dec T] [Touch .players T] [Touch .acts T] [Touch .engines T] [Touch .groups T] [Touch .traces T] [Touch .motion T] [Touch .girth T] [Touch .host T] [Touch .layout T] [Touch .mem T] [Touch .fab T] [Touch .coll T] [Touch .raised T] [Touch .outs T] [Touch .free T] (g : Fin 5) (entry : Fin 3) (s : State) (hwf : Within T z s) :
    outWithin T z (execReinCompare g entry s) := by
  unfold execReinCompare
  dsimp only
  repeat' split
  all_goals rw [outWithin_next]
  all_goals simp +contextual (maxDischargeDepth := 30) [hwf]

theorem execPairHoldRerunEnd_frame [Touch .objs T] [Touch .power T] [Touch .dict T] [Touch .start T] [Touch .fw T] [Touch .media T] [Touch .chan T] [Touch .dec T] [Touch .players T] [Touch .acts T] [Touch .engines T] [Touch .groups T] [Touch .traces T] [Touch .motion T] [Touch .girth T] [Touch .host T] [Touch .layout T] [Touch .mem T] [Touch .fab T] [Touch .coll T] [Touch .raised T] [Touch .outs T] [Touch .free T] (g : Fin 5) (s : State) (hwf : Within T z s) :
    outWithin T z (execPairHoldRerunEnd g s) := by
  unfold execPairHoldRerunEnd
  dsimp only
  split
  · exact hwf
  repeat' split
  all_goals rw [outWithin_next]
  all_goals simp +contextual (maxDischargeDepth := 30) [hwf]

@[simp] theorem setPointFrame_frame [Touch .chan T] [Touch .outs T] (s : State) (a : ℕ) (reg : ℕ) (v : ℕ) (hwf : Within T z s) :
    Within T z (setPointFrame s a reg v) := by
  simp (maxDischargeDepth := 30) [setPointFrame, *]

@[simp] theorem sendSetPoints_frame [Touch .chan T] [Touch .outs T] (s : State) (a : ℕ) (hwf : Within T z s) :
    Within T z (sendSetPoints s a) := by
  simp (maxDischargeDepth := 30) [sendSetPoints, *]

@[simp] theorem latchEffects_frame [Touch .objs T] [Touch .chan T] [Touch .groups T] [Touch .outs T] (s : State) (g : ℕ) (entry : ℕ) (hwf : Within T z s) :
    Within T z (latchEffects s g entry) := by
  simp only [latchEffects]
  repeat' split
  all_goals simp (maxDischargeDepth := 30) [*]

theorem execReinLatch_frame [Touch .objs T] [Touch .chan T] [Touch .groups T] [Touch .outs T] (g : Fin 5) (entry : Fin 3) (s : State) (hwf : Within T z s) :
    outWithin T z (execReinLatch g entry s) := by
  simp only [execReinLatch]
  split <;> simp (maxDischargeDepth := 30) [*]

theorem execEngineReloadDone_frame [Touch .engines T] (e : Fin 16) (s : State) (hwf : Within T z s) :
    outWithin T z (execEngineReloadDone e s) := by
  simp (maxDischargeDepth := 30) [execEngineReloadDone, *]

theorem execSnapshotCopyDone_frame [Touch .engines T] (e : Fin 16) (s : State) (hwf : Within T z s) :
    outWithin T z (execSnapshotCopyDone e s) := by
  simp only [execSnapshotCopyDone]
  split <;> simp (maxDischargeDepth := 30) [*]

theorem execProbationEnd_frame [Touch .objs T] (e : Fin 16) (s : State) (hwf : Within T z s) :
    outWithin T z (execProbationEnd e s) := by
  simp (maxDischargeDepth := 30) [execProbationEnd, *]

theorem execReinMemoryFault_frame [Touch .objs T] [Touch .power T] [Touch .dict T] [Touch .start T] [Touch .fw T] [Touch .media T] [Touch .chan T] [Touch .dec T] [Touch .players T] [Touch .acts T] [Touch .engines T] [Touch .groups T] [Touch .traces T] [Touch .motion T] [Touch .girth T] [Touch .host T] [Touch .layout T] [Touch .mem T] [Touch .fab T] [Touch .coll T] [Touch .raised T] [Touch .outs T] [Touch .free T] (e : Fin 16) (s : State) (hwf : Within T z s) :
    outWithin T z (execReinMemoryFault e s) := by
  simp (maxDischargeDepth := 30) [execReinMemoryFault, *]

@[simp] theorem spareJoin_frame [Touch .objs T] [Touch .start T] [Touch .engines T] (s : State) (g : ℕ) (slot : ℕ) (hwf : Within T z s) :
    Within T z (spareJoin s g slot) := by
  simp (maxDischargeDepth := 30) [spareJoin, *]

@[simp] theorem coefQueue_frame [Touch .engines T] (s : State) (g : ℕ) (value : List Byte) (hwf : Within T z s) :
    Within T z (coefQueue s g value) := by
  simp (maxDischargeDepth := 30) [coefQueue, *]

@[simp] theorem snapAsk_frame [Touch .groups T] (s : State) (g : ℕ) (v : ℕ) (hwf : Within T z s) :
    Within T z (snapAsk s g v) := by
  simp (maxDischargeDepth := 30) [snapAsk, *]

@[simp] theorem injectAsk_frame [Touch .engines T] (s : State) (g : ℕ) (slot : ℕ) (hwf : Within T z s) :
    Within T z (injectAsk s g slot) := by
  simp only [injectAsk]
  split <;> simp (maxDischargeDepth := 30) [*]

@[simp] theorem traceArmNow_frame [Touch .objs T] [Touch .traces T] (s : State) (a : ℕ) (v : ℕ) (hwf : Within T z s) :
    Within T z (traceArmNow s a v) := by
  simp (maxDischargeDepth := 30) [traceArmNow, *]

@[simp] theorem traceForceNow_frame [Touch .traces T] (s : State) (a : ℕ) (v : ℕ) (hwf : Within T z s) :
    Within T z (traceForceNow s a v) := by
  simp (maxDischargeDepth := 30) [traceForceNow, *]

theorem execOuterTrigger_frame [Touch .objs T] [Touch .power T] [Touch .dict T] [Touch .start T] [Touch .fw T] [Touch .media T] [Touch .chan T] [Touch .dec T] [Touch .players T] [Touch .acts T] [Touch .engines T] [Touch .groups T] [Touch .traces T] [Touch .motion T] [Touch .girth T] [Touch .host T] [Touch .layout T] [Touch .mem T] [Touch .fab T] [Touch .coll T] [Touch .raised T] [Touch .outs T] [Touch .free T] (a : Fin 4) (s : State) (hwf : Within T z s) :
    outWithin T z (execOuterTrigger a s) := by
  simp (maxDischargeDepth := 30) [execOuterTrigger, *]

theorem execSpindleReinTrigger_frame [Touch .objs T] [Touch .power T] [Touch .dict T] [Touch .start T] [Touch .fw T] [Touch .media T] [Touch .chan T] [Touch .dec T] [Touch .players T] [Touch .acts T] [Touch .engines T] [Touch .groups T] [Touch .traces T] [Touch .motion T] [Touch .girth T] [Touch .host T] [Touch .layout T] [Touch .mem T] [Touch .fab T] [Touch .coll T] [Touch .raised T] [Touch .outs T] [Touch .free T] (entry : Fin 3) (s : State) (hwf : Within T z s) :
    outWithin T z (execSpindleReinTrigger entry s) := by
  simp (maxDischargeDepth := 30) [execSpindleReinTrigger, *]

end Sys2Proof.Machine
end

