-- ==== Sys2Proof/Laws/FrameReset.lean ====
section
/-! SUPPORT. The parts of the state that every operation of Machine/Reset.lean can change. -/

namespace Sys2Proof.Machine

variable {T : List Part} {z : State}

@[simp] theorem quiesceHosts_frame [Touch .objs T] [Touch .power T] [Touch .host T] (s : State) (hwf : Within T z s) :
    Within T z (quiesceHosts s) := by
  unfold quiesceHosts
  repeat' split
  all_goals simp_all (maxDischargeDepth := 30)

@[simp] theorem startDump_frame [Touch .objs T] [Touch .power T] [Touch .mem T] [Touch .free T] (s : State) (hwf : Within T z s) :
    Within T z (startDump s) := by
  simp only [startDump]
  split <;> simp (maxDischargeDepth := 30) [*]

@[simp] theorem shutDown_frame [Touch .objs T] [Touch .power T] [Touch .chan T] [Touch .dec T] [Touch .players T] [Touch .acts T] [Touch .traces T] [Touch .motion T] [Touch .host T] [Touch .mem T] [Touch .raised T] [Touch .outs T] [Touch .free T] (s : State) (hwf : Within T z s) :
    Within T z (shutDown s) := by
  unfold shutDown
  repeat' split
  all_goals simp_all (maxDischargeDepth := 30)

@[simp] theorem beginOff_frame [Touch .objs T] [Touch .power T] [Touch .chan T] [Touch .dec T] [Touch .players T] [Touch .acts T] [Touch .traces T] [Touch .motion T] [Touch .host T] [Touch .mem T] [Touch .raised T] [Touch .outs T] [Touch .free T] (s : State) (c : OffCause) (hwf : Within T z s) :
    Within T z (beginOff s c) := by
  simp only [beginOff]
  split <;> simp (maxDischargeDepth := 30) [*]

@[simp] theorem parkedSwitches_frame [Touch .objs T] (s : State) (hwf : Within T z s) :
    Within T z (parkedSwitches s) := by
  unfold parkedSwitches
  repeat' split
  all_goals simp_all (maxDischargeDepth := 30)

@[simp] theorem powerFail_frame [Touch .objs T] [Touch .power T] [Touch .chan T] [Touch .dec T] [Touch .players T] [Touch .acts T] [Touch .traces T] [Touch .motion T] [Touch .host T] [Touch .mem T] [Touch .raised T] [Touch .outs T] [Touch .free T] (s : State) (c : OffCause) (hwf : Within T z s) :
    Within T z (powerFail s c) := by
  simp (maxDischargeDepth := 30) [powerFail, *]

@[simp] theorem restartReset_frame [Touch .objs T] [Touch .power T] [Touch .dict T] [Touch .start T] [Touch .fw T] [Touch .media T] [Touch .chan T] [Touch .dec T] [Touch .players T] [Touch .acts T] [Touch .engines T] [Touch .groups T] [Touch .traces T] [Touch .motion T] [Touch .girth T] [Touch .host T] [Touch .layout T] [Touch .mem T] [Touch .fab T] [Touch .coll T] [Touch .raised T] [Touch .outs T] (s : State) (hwf : Within T z s) :
    Within T z (restartReset s) := by
  unfold restartReset
  repeat' split
  all_goals simp_all (maxDischargeDepth := 30)

@[simp] theorem settleRestart_frame [Touch .objs T] [Touch .power T] [Touch .dict T] [Touch .start T] [Touch .fw T] [Touch .media T] [Touch .chan T] [Touch .dec T] [Touch .players T] [Touch .acts T] [Touch .engines T] [Touch .groups T] [Touch .traces T] [Touch .motion T] [Touch .girth T] [Touch .host T] [Touch .layout T] [Touch .mem T] [Touch .fab T] [Touch .coll T] [Touch .raised T] [Touch .outs T] [Touch .free T] (s : State) (hwf : Within T z s) :
    Within T z (settleRestart s) := by
  simp (maxDischargeDepth := 30) [settleRestart, *]

@[simp] theorem railsCut_frame [Touch .objs T] [Touch .power T] [Touch .dict T] [Touch .start T] [Touch .fw T] [Touch .media T] [Touch .chan T] [Touch .dec T] [Touch .players T] [Touch .acts T] [Touch .engines T] [Touch .groups T] [Touch .traces T] [Touch .motion T] [Touch .girth T] [Touch .host T] [Touch .layout T] [Touch .mem T] [Touch .fab T] [Touch .coll T] [Touch .raised T] [Touch .outs T] (s : State) (h : Within T z s) : Within T z (railsCut s) := by
  unfold railsCut
  dsimp only
  repeat' first | (simp +contextual (maxDischargeDepth := 30) [*]; done) | split

@[simp] theorem reachPowerGood_frame [Touch .objs T] [Touch .power T] [Touch .start T] [Touch .motion T] [Touch .raised T] [Touch .free T] (s : State) (hwf : Within T z s) :
    Within T z (reachPowerGood s) := by
  unfold reachPowerGood
  repeat' split
  all_goals simp_all (maxDischargeDepth := 30)

end Sys2Proof.Machine
end

