-- ==== Sys2Proof/Laws/FramePower.lean ====
section
/-! SUPPORT. The parts of the state that every operation of Machine/Power.lean can change. -/

namespace Sys2Proof.Machine

variable {T : List Part} {z : State}

@[simp] theorem setFeedState_frame [Touch .objs T] (s : State) (i : ℕ) (b : Bool) (hwf : Within T z s) :
    Within T z (setFeedState s i b) := by
  simp (maxDischargeDepth := 30) [setFeedState, *]

@[simp] theorem setSwitch_frame [Touch .power T] (s : State) (f : Feed) (isOpen : Bool) (hwf : Within T z s) :
    Within T z (setSwitch s f isOpen) := by
  simp only [setSwitch]
  split <;> simp (maxDischargeDepth := 30) [*]

theorem execFeedPresent_frame [Touch .objs T] (f : Feed) (s : State) (hwf : Within T z s) :
    outWithin T z (execFeedPresent f s) := by
  simp (maxDischargeDepth := 30) [execFeedPresent, *]

@[simp] theorem failWhileOff_frame [Touch .objs T] [Touch .motion T] (s : State) (c : OffCause) (hwf : Within T z s) :
    Within T z (failWhileOff s c) := by
  simp only [failWhileOff]
  split <;> simp (maxDischargeDepth := 30) [*]

theorem execFeedLost_frame [Touch .objs T] [Touch .power T] [Touch .chan T] [Touch .dec T] [Touch .players T] [Touch .acts T] [Touch .traces T] [Touch .motion T] [Touch .host T] [Touch .mem T] [Touch .raised T] [Touch .outs T] [Touch .free T] (f : Feed) (why : FeedLoss) (s : State) (hwf : Within T z s) :
    outWithin T z (execFeedLost f why s) := by
  simp only [execFeedLost]
  split <;> simp (maxDischargeDepth := 30) [*]

theorem execFeedSwitchReclose_frame [Touch .objs T] [Touch .power T] (f : Feed) (s : State) (hwf : Within T z s) :
    outWithin T z (execFeedSwitchReclose f s) := by
  simp (maxDischargeDepth := 30) [execFeedSwitchReclose, *]

theorem execPowerGood_frame [Touch .objs T] [Touch .power T] [Touch .start T] [Touch .motion T] [Touch .raised T] [Touch .free T] (s : State) (hwf : Within T z s) :
    outWithin T z (execPowerGood s) := by
  simp (maxDischargeDepth := 30) [execPowerGood, *]

theorem execRailsOff_frame [Touch .objs T] [Touch .power T] [Touch .dict T] [Touch .start T] [Touch .fw T] [Touch .media T] [Touch .chan T] [Touch .dec T] [Touch .players T] [Touch .acts T] [Touch .engines T] [Touch .groups T] [Touch .traces T] [Touch .motion T] [Touch .girth T] [Touch .host T] [Touch .layout T] [Touch .mem T] [Touch .fab T] [Touch .coll T] [Touch .raised T] [Touch .outs T] (s : State) (hwf : Within T z s) :
    outWithin T z (execRailsOff s) := by
  simp only [execRailsOff]
  split <;> simp (maxDischargeDepth := 30) [*]

theorem execRailsUp_frame [Touch .objs T] [Touch .power T] [Touch .start T] [Touch .motion T] [Touch .raised T] [Touch .free T] (s : State) (hwf : Within T z s) :
    outWithin T z (execRailsUp s) := by
  simp (maxDischargeDepth := 30) [execRailsUp, *]

theorem execPwrdisAssert_frame [Touch .objs T] [Touch .power T] [Touch .chan T] [Touch .dec T] [Touch .players T] [Touch .acts T] [Touch .traces T] [Touch .motion T] [Touch .host T] [Touch .mem T] [Touch .raised T] [Touch .outs T] [Touch .free T] (s : State) (hwf : Within T z s) :
    outWithin T z (execPwrdisAssert s) := by
  simp (maxDischargeDepth := 30) [execPwrdisAssert, *]

theorem execPwrdisRelease_frame [Touch .objs T] (s : State) (hwf : Within T z s) :
    outWithin T z (execPwrdisRelease s) := by
  simp (maxDischargeDepth := 30) [execPwrdisRelease, *]

theorem execVmCollapse_frame [Touch .objs T] [Touch .power T] [Touch .dict T] [Touch .start T] [Touch .fw T] [Touch .media T] [Touch .chan T] [Touch .dec T] [Touch .players T] [Touch .acts T] [Touch .engines T] [Touch .groups T] [Touch .traces T] [Touch .motion T] [Touch .girth T] [Touch .host T] [Touch .layout T] [Touch .mem T] [Touch .fab T] [Touch .coll T] [Touch .raised T] [Touch .outs T] (s : State) (hwf : Within T z s) :
    outWithin T z (execVmCollapse s) := by
  simp (maxDischargeDepth := 30) [execVmCollapse, *]

theorem execVcoreSteer_frame [Touch .objs T] [Touch .raised T] (minPercent : ℕ) (s : State) (hwf : Within T z s) :
    outWithin T z (execVcoreSteer minPercent s) := by
  simp (maxDischargeDepth := 30) [execVcoreSteer, *]

@[simp] theorem settleEffective_frame [Touch .objs T] (s : State) (hwf : Within T z s) :
    Within T z (settleEffective s) := by
  simp (maxDischargeDepth := 30) [settleEffective, *]

@[simp] theorem setTj_frame [Touch .objs T] (s : State) (tj : ℤ) (hwf : Within T z s) :
    Within T z (setTj s tj) := by
  simp (maxDischargeDepth := 30) [setTj, *]

theorem execThrottleEnter_frame [Touch .objs T] [Touch .raised T] (tj : ℤ) (s : State) (hwf : Within T z s) :
    outWithin T z (execThrottleEnter tj s) := by
  simp (maxDischargeDepth := 30) [execThrottleEnter, *]

theorem execThrottleExit_frame [Touch .objs T] (tj : ℤ) (s : State) (hwf : Within T z s) :
    outWithin T z (execThrottleExit tj s) := by
  simp (maxDischargeDepth := 30) [execThrottleExit, *]

theorem execThermalShutdown_frame [Touch .objs T] [Touch .power T] [Touch .dict T] [Touch .start T] [Touch .fw T] [Touch .media T] [Touch .chan T] [Touch .dec T] [Touch .players T] [Touch .acts T] [Touch .engines T] [Touch .groups T] [Touch .traces T] [Touch .motion T] [Touch .girth T] [Touch .host T] [Touch .layout T] [Touch .mem T] [Touch .fab T] [Touch .coll T] [Touch .raised T] [Touch .outs T] [Touch .free T] (tj : ℤ) (s : State) (hwf : Within T z s) :
    outWithin T z (execThermalShutdown tj s) := by
  simp (maxDischargeDepth := 30) [execThermalShutdown, *]

end Sys2Proof.Machine
end

