-- ==== Sys2Proof/Laws/FrameMotion.lean ====
section
/-! SUPPORT. The parts of the state that every operation of Machine/Motion.lean can change. -/

namespace Sys2Proof.Machine

variable {T : List Part} {z : State}

@[simp] theorem loadEngine_frame [Touch .objs T] [Touch .engines T] (s : State) (g : ℕ) (e : ℕ) (role : ℕ) (hwf : Within T z s) :
    Within T z (loadEngine s g e role) := by
  simp (maxDischargeDepth := 30) [loadEngine, *]

@[simp] theorem startGroup_frame [Touch .objs T] [Touch .start T] [Touch .engines T] [Touch .groups T] (s : State) (g : ℕ) (hwf : Within T z s) :
    Within T z (startGroup s g) := by
  unfold startGroup
  repeat' split
  all_goals simp_all (maxDischargeDepth := 30)

@[simp] theorem stopGroup_frame [Touch .objs T] (s : State) (g : ℕ) (hwf : Within T z s) :
    Within T z (stopGroup s g) := by
  unfold stopGroup
  repeat' split
  all_goals simp_all (maxDischargeDepth := 30)

@[simp] theorem fromMain_frame [Touch .motion T] (s : State) (hwf : Within T z s) :
    Within T z (fromMain s) := by
  simp (maxDischargeDepth := 30) [fromMain, *]

@[simp] theorem fromMotion_frame [Touch .motion T] (s : State) (hwf : Within T z s) :
    Within T z (fromMotion s) := by
  simp (maxDischargeDepth := 30) [fromMotion, *]

theorem execHeartbeat_frame [Touch .objs T] [Touch .motion T] (count : ℕ) (s : State) (hwf : Within T z s) :
    outWithin T z (execHeartbeat count s) := by
  simp only [execHeartbeat]
  split <;> simp (maxDischargeDepth := 30) [*]

@[simp] theorem motionTakesOver_frame [Touch .objs T] [Touch .power T] [Touch .chan T] [Touch .dec T] [Touch .players T] [Touch .acts T] [Touch .traces T] [Touch .motion T] [Touch .host T] [Touch .mem T] [Touch .raised T] [Touch .outs T] [Touch .free T] (s : State) (c : OffCause) (hwf : Within T z s) :
    Within T z (motionTakesOver s c) := by
  simp (maxDischargeDepth := 30) [motionTakesOver, *]

theorem execHeartbeatLoss_frame [Touch .objs T] [Touch .power T] [Touch .chan T] [Touch .dec T] [Touch .players T] [Touch .acts T] [Touch .traces T] [Touch .motion T] [Touch .host T] [Touch .mem T] [Touch .raised T] [Touch .outs T] [Touch .free T] (s : State) (hwf : Within T z s) :
    outWithin T z (execHeartbeatLoss s) := by
  simp (maxDischargeDepth := 30) [execHeartbeatLoss, *]

@[simp] theorem linkFault_frame [Touch .objs T] [Touch .power T] [Touch .dict T] [Touch .start T] [Touch .fw T] [Touch .media T] [Touch .chan T] [Touch .dec T] [Touch .players T] [Touch .acts T] [Touch .engines T] [Touch .groups T] [Touch .traces T] [Touch .motion T] [Touch .girth T] [Touch .host T] [Touch .layout T] [Touch .mem T] [Touch .fab T] [Touch .coll T] [Touch .raised T] [Touch .outs T] [Touch .free T] (s : State) (hwf : Within T z s) :
    Within T z (linkFault s) := by
  simp (maxDischargeDepth := 30) [linkFault, *]

theorem execLinkResend_frame [Touch .objs T] [Touch .power T] [Touch .dict T] [Touch .start T] [Touch .fw T] [Touch .media T] [Touch .chan T] [Touch .dec T] [Touch .players T] [Touch .acts T] [Touch .engines T] [Touch .groups T] [Touch .traces T] [Touch .motion T] [Touch .girth T] [Touch .host T] [Touch .layout T] [Touch .mem T] [Touch .fab T] [Touch .coll T] [Touch .raised T] [Touch .outs T] [Touch .free T] (mainToMotion : Bool) (s : State) (hwf : Within T z s) :
    outWithin T z (execLinkResend mainToMotion s) := by
  simp (maxDischargeDepth := 30) [execLinkResend, *]

theorem execResetNotice_frame [Touch .objs T] [Touch .motion T] (lengthUs : ℕ) (s : State) (hwf : Within T z s) :
    outWithin T z (execResetNotice lengthUs s) := by
  simp (maxDischargeDepth := 30) [execResetNotice, *]

theorem execLinkStatus_frame [Touch .objs T] [Touch .motion T] (vm : ℕ) (temp : ℤ) (s : State) (hwf : Within T z s) :
    outWithin T z (execLinkStatus vm temp s) := by
  simp (maxDischargeDepth := 30) [execLinkStatus, *]

theorem execMotionDieLost_frame [Touch .objs T] [Touch .power T] [Touch .dict T] [Touch .start T] [Touch .fw T] [Touch .media T] [Touch .chan T] [Touch .dec T] [Touch .players T] [Touch .acts T] [Touch .engines T] [Touch .groups T] [Touch .traces T] [Touch .motion T] [Touch .girth T] [Touch .host T] [Touch .layout T] [Touch .mem T] [Touch .fab T] [Touch .coll T] [Touch .raised T] [Touch .outs T] [Touch .free T] (s : State) (hwf : Within T z s) :
    outWithin T z (execMotionDieLost s) := by
  simp (maxDischargeDepth := 30) [execMotionDieLost, *]

theorem execVcmCmd_frame [Touch .objs T] [Touch .motion T] [Touch .free T] (a : Fin 4) (ua : ℤ) (mv : ℤ) (s : State) (hwf : Within T z s) :
    outWithin T z (execVcmCmd a ua mv s) := by
  simp (maxDischargeDepth := 30) [execVcmCmd, *]

theorem execSenseMsg_frame [Touch .objs T] [Touch .power T] [Touch .dict T] [Touch .start T] [Touch .fw T] [Touch .media T] [Touch .chan T] [Touch .dec T] [Touch .players T] [Touch .acts T] [Touch .engines T] [Touch .groups T] [Touch .traces T] [Touch .motion T] [Touch .girth T] [Touch .host T] [Touch .layout T] [Touch .mem T] [Touch .fab T] [Touch .coll T] [Touch .raised T] [Touch .outs T] [Touch .free T] (a : Fin 4) (ua : ℤ) (mv : ℤ) (s : State) (hwf : Within T z s) :
    outWithin T z (execSenseMsg a ua mv s) := by
  simp (maxDischargeDepth := 30) [execSenseMsg, *]

theorem execVcmOvercurrent_frame [Touch .objs T] [Touch .chan T] [Touch .dec T] [Touch .players T] [Touch .acts T] [Touch .traces T] [Touch .motion T] [Touch .layout T] [Touch .mem T] [Touch .raised T] [Touch .outs T] [Touch .free T] (a : Fin 4) (s : State) (hwf : Within T z s) :
    outWithin T z (execVcmOvercurrent a s) := by
  simp (maxDischargeDepth := 30) [execVcmOvercurrent, *]

theorem execMaOvercurrent_frame [Touch .objs T] [Touch .motion T] [Touch .raised T] (a : Fin 4) (s : State) (hwf : Within T z s) :
    outWithin T z (execMaOvercurrent a s) := by
  simp (maxDischargeDepth := 30) [execMaOvercurrent, *]

theorem execHeadLoadTimeout_frame [Touch .objs T] [Touch .motion T] [Touch .raised T] [Touch .free T] (a : Fin 4) (s : State) (hwf : Within T z s) :
    outWithin T z (execHeadLoadTimeout a s) := by
  simp (maxDischargeDepth := 30) [execHeadLoadTimeout, *]

@[simp] theorem spinAlign_frame [Touch .objs T] [Touch .motion T] (s : State) (hwf : Within T z s) :
    Within T z (spinAlign s) := by
  simp (maxDischargeDepth := 30) [spinAlign, *]

@[simp] theorem takeSpinLimit_frame [Touch .motion T] (s : State) (hwf : Within T z s) :
    Within T z (takeSpinLimit s) := by
  simp (maxDischargeDepth := 30) [takeSpinLimit, *]

@[simp] theorem beginSpin_frame [Touch .objs T] [Touch .motion T] [Touch .free T] (s : State) (hwf : Within T z s) :
    Within T z (beginSpin s) := by
  simp (maxDischargeDepth := 30) [beginSpin, *]

@[simp] theorem spinUp_frame [Touch .objs T] [Touch .motion T] [Touch .free T] (s : State) (hwf : Within T z s) :
    Within T z (spinUp s) := by
  unfold spinUp
  repeat' split
  all_goals simp_all (maxDischargeDepth := 30)

theorem execSpinCmd_frame [Touch .motion T] (ua : ℤ) (s : State) (hwf : Within T z s) :
    outWithin T z (execSpinCmd ua s) := by
  simp (maxDischargeDepth := 30) [execSpinCmd, *]

@[simp] theorem spindleFault_frame [Touch .objs T] [Touch .motion T] [Touch .raised T] [Touch .free T] (s : State) (hwf : Within T z s) :
    Within T z (spindleFault s) := by
  simp (maxDischargeDepth := 30) [spindleFault, *]

@[simp] theorem countCross_frame [Touch .objs T] [Touch .motion T] (s : State) (hwf : Within T z s) :
    Within T z (countCross s) := by
  unfold countCross
  repeat' split
  all_goals simp_all (maxDischargeDepth := 30)

@[simp] theorem zeroCrossLost_frame [Touch .objs T] [Touch .motion T] [Touch .raised T] [Touch .free T] (s : State) (hwf : Within T z s) :
    Within T z (zeroCrossLost s) := by
  simp (maxDischargeDepth := 30) [zeroCrossLost, *]

theorem execZeroCross_frame [Touch .objs T] [Touch .motion T] [Touch .raised T] [Touch .free T] (phase : ℕ) (interval : ℕ) (s : State) (hwf : Within T z s) :
    outWithin T z (execZeroCross phase interval s) := by
  simp (maxDischargeDepth := 30) [execZeroCross, *]

theorem execZeroCrossMissing_frame [Touch .objs T] [Touch .motion T] [Touch .raised T] [Touch .free T] (s : State) (hwf : Within T z s) :
    outWithin T z (execZeroCrossMissing s) := by
  simp (maxDischargeDepth := 30) [execZeroCrossMissing, *]

theorem execSpindleDriverFault_frame [Touch .objs T] [Touch .motion T] [Touch .raised T] [Touch .free T] (s : State) (hwf : Within T z s) :
    outWithin T z (execSpindleDriverFault s) := by
  simp (maxDischargeDepth := 30) [execSpindleDriverFault, *]

theorem execSpinAlignEnd_frame [Touch .objs T] [Touch .motion T] (s : State) (hwf : Within T z s) :
    outWithin T z (execSpinAlignEnd s) := by
  simp (maxDischargeDepth := 30) [execSpinAlignEnd, *]

theorem execSpinRampEnd_frame [Touch .objs T] [Touch .power T] [Touch .dict T] [Touch .start T] [Touch .fw T] [Touch .media T] [Touch .chan T] [Touch .dec T] [Touch .players T] [Touch .acts T] [Touch .engines T] [Touch .groups T] [Touch .traces T] [Touch .motion T] [Touch .girth T] [Touch .host T] [Touch .layout T] [Touch .mem T] [Touch .fab T] [Touch .coll T] [Touch .raised T] [Touch .outs T] [Touch .free T] (handover : Bool) (s : State) (hwf : Within T z s) :
    outWithin T z (execSpinRampEnd handover s) := by
  simp (maxDischargeDepth := 30) [execSpinRampEnd, *]

theorem execSpindleStandstill_frame [Touch .objs T] [Touch .motion T] (s : State) (hwf : Within T z s) :
    outWithin T z (execSpindleStandstill s) := by
  simp only [execSpindleStandstill]
  repeat' split
  all_goals simp (maxDischargeDepth := 30) [*]

@[simp] theorem loadHeads_frame [Touch .objs T] [Touch .motion T] (s : State) (a : ℕ) (hwf : Within T z s) :
    Within T z (loadHeads s a) := by
  simp (maxDischargeDepth := 30) [loadHeads, *]

@[simp] theorem spinTarget_frame [Touch .objs T] [Touch .motion T] (s : State) (rpm : ℕ) (hwf : Within T z s) :
    Within T z (spinTarget s rpm) := by
  simp (maxDischargeDepth := 30) [spinTarget, *]

theorem execDriveMsg_frame [Touch .objs T] [Touch .motion T] [Touch .free T] (cmd : DriveCmd) (s : State) (hwf : Within T z s) :
    outWithin T z (execDriveMsg cmd s) := by
  simp only [execDriveMsg]
  split <;> simp (maxDischargeDepth := 30) [*]

theorem execRampContact_frame [Touch .motion T] (a : Fin 4) (s : State) (hwf : Within T z s) :
    outWithin T z (execRampContact a s) := by
  simp (maxDischargeDepth := 30) [execRampContact, *]

@[simp] theorem parked_frame [Touch .objs T] [Touch .power T] [Touch .dict T] [Touch .start T] [Touch .fw T] [Touch .media T] [Touch .chan T] [Touch .dec T] [Touch .players T] [Touch .acts T] [Touch .engines T] [Touch .groups T] [Touch .traces T] [Touch .motion T] [Touch .girth T] [Touch .host T] [Touch .layout T] [Touch .mem T] [Touch .fab T] [Touch .coll T] [Touch .raised T] [Touch .outs T] [Touch .free T] (s : State) (a : ℕ) (ms : ℕ) (hwf : Within T z s) :
    Within T z (parked s a ms) := by
  simp (maxDischargeDepth := 30) [parked, *]

theorem execRetractParked_frame [Touch .objs T] [Touch .power T] [Touch .dict T] [Touch .start T] [Touch .fw T] [Touch .media T] [Touch .chan T] [Touch .dec T] [Touch .players T] [Touch .acts T] [Touch .engines T] [Touch .groups T] [Touch .traces T] [Touch .motion T] [Touch .girth T] [Touch .host T] [Touch .layout T] [Touch .mem T] [Touch .fab T] [Touch .coll T] [Touch .raised T] [Touch .outs T] [Touch .free T] (a : Fin 4) (ms : ℕ) (s : State) (hwf : Within T z s) :
    outWithin T z (execRetractParked a ms s) := by
  simp (maxDischargeDepth := 30) [execRetractParked, *]

theorem execRetractTimeout_frame [Touch .objs T] [Touch .power T] [Touch .dict T] [Touch .start T] [Touch .fw T] [Touch .media T] [Touch .chan T] [Touch .dec T] [Touch .players T] [Touch .acts T] [Touch .engines T] [Touch .groups T] [Touch .traces T] [Touch .motion T] [Touch .girth T] [Touch .host T] [Touch .layout T] [Touch .mem T] [Touch .fab T] [Touch .coll T] [Touch .raised T] [Touch .outs T] [Touch .free T] (a : Fin 4) (s : State) (hwf : Within T z s) :
    outWithin T z (execRetractTimeout a s) := by
  simp (maxDischargeDepth := 30) [execRetractTimeout, *]

theorem execDumpSealed_frame [Touch .power T] [Touch .mem T] [Touch .outs T] (holdupMj : ℕ) (vmMin : ℕ) (s : State) (hwf : Within T z s) :
    outWithin T z (execDumpSealed holdupMj vmMin s) := by
  simp only [execDumpSealed]
  split <;> simp (maxDischargeDepth := 30) [*]

end Sys2Proof.Machine
end

