-- ==== Sys2Proof/Laws/FrameServo.lean ====
section
/-! SUPPORT. The parts of the state that every operation of Machine/Servo.lean can change. -/

namespace Sys2Proof.Machine

variable {T : List Part} {z : State}

@[simp] theorem comparePosition_frame [Touch .objs T] [Touch .chan T] [Touch .players T] [Touch .traces T] [Touch .mem T] [Touch .raised T] [Touch .outs T] [Touch .free T] (s : State) (a : ℕ) (pes : ℤ) (hwf : Within T z s) :
    Within T z (comparePosition s a pes) := by
  simp (maxDischargeDepth := 30) [comparePosition, *]

@[simp] theorem trackCheck_frame [Touch .objs T] [Touch .chan T] [Touch .players T] [Touch .acts T] [Touch .traces T] [Touch .mem T] [Touch .raised T] [Touch .outs T] [Touch .free T] (s : State) (a : ℕ) (wedge : ℕ) (track : ℕ) (pes : ℤ) (hwf : Within T z s) :
    Within T z (trackCheck s a wedge track pes) := by
  simp only [trackCheck]
  split <;> simp (maxDischargeDepth := 30) [*]

@[simp] theorem stampStart_frame [Touch .players T] (s : State) (a : ℕ) (wedge : ℕ) (hwf : Within T z s) :
    Within T z (stampStart s a wedge) := by
  simp only [stampStart]
  split <;> simp (maxDischargeDepth := 30) [*]

@[simp] theorem seekNoticed_frame [Touch .girth T] (s : State) (a : ℕ) (hwf : Within T z s) :
    Within T z (seekNoticed s a) := by
  simp (maxDischargeDepth := 30) [seekNoticed, *]

@[simp] theorem seekStart_frame [Touch .acts T] [Touch .traces T] [Touch .girth T] [Touch .raised T] (s : State) (a : ℕ) (track : ℕ) (hwf : Within T z s) :
    Within T z (seekStart s a track) := by
  simp only [seekStart]
  split <;> simp (maxDischargeDepth := 30) [*]

@[simp] theorem seekAdvance_frame [Touch .acts T] [Touch .traces T] (s : State) (a : ℕ) (hwf : Within T z s) :
    Within T z (seekAdvance s a) := by
  simp only [seekAdvance]
  split <;> simp (maxDischargeDepth := 30) [*]

@[simp] theorem seekStep_frame [Touch .acts T] [Touch .traces T] [Touch .girth T] [Touch .raised T] (s : State) (a : ℕ) (track : ℕ) (hwf : Within T z s) :
    Within T z (seekStep s a track) := by
  simp (maxDischargeDepth := 30) [seekStep, *]

@[simp] theorem stampPhase_frame [Touch .groups T] (s : State) (a : ℕ) (wedge : ℕ) (hwf : Within T z s) :
    Within T z (stampPhase s a wedge) := by
  simp (maxDischargeDepth := 30) [stampPhase, *]

@[simp] theorem trimSums_frame [Touch .girth T] [Touch .free T] (s : State) (a : ℕ) (pes : ℤ) (hwf : Within T z s) :
    Within T z (trimSums s a pes) := by
  simp (maxDischargeDepth := 30) [trimSums, *]

@[simp] theorem countRev_frame [Touch .objs T] (s : State) (a : ℕ) (wedge : ℕ) (hwf : Within T z s) :
    Within T z (countRev s a wedge) := by
  unfold countRev
  repeat' split
  all_goals simp_all (maxDischargeDepth := 30)

@[simp] theorem releaseBlock_frame [Touch .acts T] (s : State) (a : ℕ) (hwf : Within T z s) :
    Within T z (releaseBlock s a) := by
  simp only [releaseBlock]
  split <;> simp (maxDischargeDepth := 30) [*]

@[simp] theorem missedStarts_frame [Touch .objs T] [Touch .chan T] [Touch .players T] [Touch .acts T] [Touch .traces T] [Touch .mem T] [Touch .raised T] [Touch .free T] (s : State) (a : ℕ) (hwf : Within T z s) :
    Within T z (missedStarts s a) := by
  unfold missedStarts
  repeat' split
  all_goals simp_all (maxDischargeDepth := 30)

@[simp] theorem confirmLoad_frame [Touch .objs T] [Touch .motion T] [Touch .layout T] (s : State) (a : ℕ) (hwf : Within T z s) :
    Within T z (confirmLoad s a) := by
  simp only [confirmLoad]
  repeat' split
  all_goals simp (maxDischargeDepth := 30) [*]

@[simp] theorem passWedge_frame [Touch .chan T] (s : State) (a : ℕ) (hwf : Within T z s) :
    Within T z (passWedge s a) := by
  simp (maxDischargeDepth := 30) [passWedge, *]

theorem execServoSync_frame [Touch .objs T] [Touch .power T] [Touch .dict T] [Touch .start T] [Touch .fw T] [Touch .media T] [Touch .chan T] [Touch .dec T] [Touch .players T] [Touch .acts T] [Touch .engines T] [Touch .groups T] [Touch .traces T] [Touch .motion T] [Touch .girth T] [Touch .host T] [Touch .layout T] [Touch .mem T] [Touch .fab T] [Touch .coll T] [Touch .raised T] [Touch .outs T] [Touch .free T] (a : Fin 4) (wedge : ℕ) (track : ℕ) (pes : ℤ) (s : State) (hwf : Within T z s) :
    outWithin T z (execServoSync a wedge track pes s) := by
  simp (maxDischargeDepth := 30) [execServoSync, *]

theorem execServoSyncTimeout_frame [Touch .objs T] [Touch .chan T] [Touch .players T] [Touch .acts T] [Touch .traces T] [Touch .mem T] [Touch .raised T] [Touch .outs T] [Touch .free T] (a : Fin 4) (s : State) (hwf : Within T z s) :
    outWithin T z (execServoSyncTimeout a s) := by
  simp only [execServoSyncTimeout]
  repeat' split
  all_goals simp (maxDischargeDepth := 30) [*]

end Sys2Proof.Machine
end

