-- ==== Sys2Proof/Laws/FrameGirth.lean ====
section
/-! SUPPORT. The parts of the state that every operation of Machine/Girth.lean can change. -/

namespace Sys2Proof.Machine

variable {T : List Part} {z : State}

@[simp] theorem State.setGirth_frame [Touch .girth T] (s : State) (g : Girth) (hwf : Within T z s) :
    Within T z (State.setGirth s g) := by
  simp (maxDischargeDepth := 30) [State.setGirth, *]

@[simp] theorem forward_frame [Touch .girth T] [Touch .outs T] (s : State) (typ : ℕ) (h : GirthHeader) (payload : ℕ) (hwf : Within T z s) :
    Within T z (forward s typ h payload) := by
  simp (maxDischargeDepth := 30) [forward, *]

@[simp] theorem countCrc_frame [Touch .objs T] [Touch .raised T] [Touch .free T] (s : State) (c : CrcState) (hwf : Within T z s) :
    Within T z (countCrc s c) := by
  simp only [countCrc]
  split <;> simp (maxDischargeDepth := 30) [*]

@[simp] theorem rxTake_frame [Touch .girth T] [Touch .raised T] (s : State) (hwf : Within T z s) :
    Within T z (rxTake s) := by
  simp (maxDischargeDepth := 30) [rxTake, *]

@[simp] theorem receive_frame [Touch .objs T] [Touch .girth T] [Touch .raised T] [Touch .outs T] [Touch .free T] (s : State) (typ : Nat) (h : GirthHeader) (payload : Nat) (deliver : State → State) (hwf : Within T z s)
    (hd : ∀ t : State, Within T z t → Within T z (deliver t)) : Within T z (receive s typ h payload deliver) := by
  simp only [receive]
  split <;> simp (maxDischargeDepth := 30) [*]

@[simp] theorem txLeave_frame [Touch .girth T] [Touch .outs T] (s : State) (hwf : Within T z s) :
    Within T z (txLeave s) := by
  simp only [txLeave]
  split <;> simp (maxDischargeDepth := 30) [*]

@[simp] theorem sendFrame_frame [Touch .objs T] [Touch .girth T] [Touch .outs T] [Touch .free T] (s : State) (typ : ℕ) (payload : ℕ) (hwf : Within T z s) :
    Within T z (sendFrame s typ payload) := by
  simp (maxDischargeDepth := 30) [sendFrame, *]

@[simp] theorem timePasses_frame [Touch .objs T] [Touch .girth T] [Touch .outs T] [Touch .free T] (s : State) (hwf : Within T z s) :
    Within T z (timePasses s) := by
  simp (maxDischargeDepth := 30) [timePasses, *]

theorem execGirthUnknownType_frame [Touch .objs T] [Touch .girth T] [Touch .raised T] [Touch .outs T] [Touch .free T] (h : GirthHeader) (typ : ℕ) (payload : ℕ) (s : State) (hwf : Within T z s) :
    outWithin T z (execGirthUnknownType h typ payload s) := by
  simp (maxDischargeDepth := 30) [execGirthUnknownType, *]

@[simp] theorem assignPhase_frame [Touch .objs T] (s : State) (g : ℕ) (hwf : Within T z s) :
    Within T z (assignPhase s g) := by
  simp (maxDischargeDepth := 30) [assignPhase, *]

@[simp] theorem rephase_frame [Touch .objs T] (s : State) (hwf : Within T z s) :
    Within T z (rephase s) := by
  simp only [rephase]
  split <;> simp (maxDischargeDepth := 30) [*]

@[simp] theorem unjoin_frame [Touch .objs T] [Touch .girth T] (s : State) (hwf : Within T z s) :
    Within T z (unjoin s) := by
  simp (maxDischargeDepth := 30) [unjoin, *]

@[simp] theorem becomeMaster_frame [Touch .objs T] [Touch .girth T] (s : State) (hop : ℕ) (elected : Bool) (hwf : Within T z s) :
    Within T z (becomeMaster s hop elected) := by
  simp (maxDischargeDepth := 30) [becomeMaster, *]

@[simp] theorem follow_frame [Touch .objs T] [Touch .girth T] (s : State) (h : GirthHeader) (tick : ℕ) (baseHop : ℕ) (tag : ℕ) (again : Bool) (hwf : Within T z s) :
    Within T z (follow s h tick baseHop tag again) := by
  simp (maxDischargeDepth := 30) [follow, *]

@[simp] theorem becomeMember_frame [Touch .objs T] [Touch .girth T] (s : State) (h : GirthHeader) (tick : ℕ) (baseHop : ℕ) (tag : ℕ) (hwf : Within T z s) :
    Within T z (becomeMember s h tick baseHop tag) := by
  simp (maxDischargeDepth := 30) [becomeMember, *]

@[simp] theorem otherTag_frame [Touch .objs T] [Touch .girth T] (s : State) (h : GirthHeader) (tick : ℕ) (baseHop : ℕ) (tag : ℕ) (hwf : Within T z s) :
    Within T z (otherTag s h tick baseHop tag) := by
  simp (maxDischargeDepth := 30) [otherTag, *]

@[simp] theorem yieldTo_frame [Touch .objs T] [Touch .girth T] (s : State) (h : GirthHeader) (tick : ℕ) (baseHop : ℕ) (tag : ℕ) (past : Bool) (hwf : Within T z s) :
    Within T z (yieldTo s h tick baseHop tag past) := by
  simp (maxDischargeDepth := 30) [yieldTo, *]

@[simp] theorem masterSync_frame [Touch .objs T] [Touch .girth T] [Touch .raised T] [Touch .free T] (s : State) (h : GirthHeader) (tick : ℕ) (baseHop : ℕ) (tag : ℕ) (fixed : Bool) (past : Bool) (hwf : Within T z s) :
    Within T z (masterSync s h tick baseHop tag fixed past) := by
  simp (maxDischargeDepth := 30) [masterSync, *]

@[simp] theorem deliverSync_frame [Touch .objs T] [Touch .girth T] [Touch .raised T] [Touch .free T] (s : State) (h : GirthHeader) (tick : ℕ) (baseHop : ℕ) (tag : ℕ) (fixed : Bool) (past : Bool) (hwf : Within T z s) :
    Within T z (deliverSync s h tick baseHop tag fixed past) := by
  simp (maxDischargeDepth := 30) [deliverSync, *]

theorem execGirthSync_frame [Touch .objs T] [Touch .girth T] [Touch .raised T] [Touch .outs T] [Touch .free T] (h : GirthHeader) (tick : ℕ) (baseHop : ℕ) (tag : ℕ) (fixed : Bool) (takeover : Bool) (overFlag : Bool) (s : State) (hwf : Within T z s) :
    outWithin T z (execGirthSync h tick baseHop tag fixed takeover overFlag s) := by
  unfold execGirthSync
  repeat' split
  all_goals simp_all (maxDischargeDepth := 30)

theorem execMasterLoss_frame [Touch .objs T] [Touch .girth T] (s : State) (hwf : Within T z s) :
    outWithin T z (execMasterLoss s) := by
  simp only [execMasterLoss]
  repeat' split
  all_goals simp (maxDischargeDepth := 30) [*]

theorem execCandidateWaitEnd_frame [Touch .objs T] [Touch .girth T] [Touch .raised T] [Touch .free T] (s : State) (hwf : Within T z s) :
    outWithin T z (execCandidateWaitEnd s) := by
  simp (maxDischargeDepth := 30) [execCandidateWaitEnd, *]

@[simp] theorem joinBegin_frame [Touch .objs T] [Touch .girth T] (s : State) (hwf : Within T z s) :
    Within T z (joinBegin s) := by
  simp only [joinBegin]
  repeat' split
  all_goals simp (maxDischargeDepth := 30) [*]

theorem execJoinListenTimeout_frame [Touch .objs T] [Touch .girth T] (_noSymbol : Bool) (s : State) (hwf : Within T z s) :
    outWithin T z (execJoinListenTimeout _noSymbol s) := by
  simp only [execJoinListenTimeout]
  repeat' split
  all_goals simp (maxDischargeDepth := 30) [*]

@[simp] theorem sendHealth_frame [Touch .objs T] [Touch .girth T] [Touch .outs T] [Touch .free T] (s : State) (hwf : Within T z s) :
    Within T z (sendHealth s) := by
  simp (maxDischargeDepth := 30) [sendHealth, *]

@[simp] theorem healthDue_frame [Touch .objs T] [Touch .girth T] [Touch .outs T] [Touch .free T] (s : State) (hwf : Within T z s) :
    Within T z (healthDue s) := by
  simp (maxDischargeDepth := 30) [healthDue, *]

theorem execHealthPeriod_frame [Touch .objs T] [Touch .girth T] [Touch .outs T] [Touch .free T] (s : State) (hwf : Within T z s) :
    outWithin T z (execHealthPeriod s) := by
  simp (maxDischargeDepth := 30) [execHealthPeriod, *]

theorem execHealthDeferred_frame [Touch .objs T] [Touch .girth T] [Touch .outs T] [Touch .free T] (s : State) (hwf : Within T z s) :
    outWithin T z (execHealthDeferred s) := by
  simp (maxDischargeDepth := 30) [execHealthDeferred, *]

theorem execGirthHealth_frame [Touch .objs T] [Touch .girth T] [Touch .raised T] [Touch .outs T] [Touch .free T] (h : GirthHeader) (payload : List Byte) (s : State) (hwf : Within T z s) :
    outWithin T z (execGirthHealth h payload s) := by
  unfold execGirthHealth
  repeat' split
  all_goals simp_all (maxDischargeDepth := 30)

@[simp] theorem applyRole_frame [Touch .objs T] [Touch .girth T] (s : State) (hwf : Within T z s) :
    Within T z (applyRole s) := by
  simp only [applyRole]
  repeat' split
  all_goals simp (maxDischargeDepth := 30) [*]

@[simp] theorem sendSync_frame [Touch .objs T] [Touch .girth T] [Touch .outs T] [Touch .free T] (s : State) (hwf : Within T z s) :
    Within T z (sendSync s) := by
  simp (maxDischargeDepth := 30) [sendSync, *]

theorem execSyncPeriod_frame [Touch .objs T] [Touch .girth T] [Touch .outs T] [Touch .free T] (s : State) (hwf : Within T z s) :
    outWithin T z (execSyncPeriod s) := by
  simp (maxDischargeDepth := 30) [execSyncPeriod, *]

theorem execPhasePeriod_frame [Touch .objs T] [Touch .girth T] [Touch .outs T] [Touch .free T] (s : State) (hwf : Within T z s) :
    outWithin T z (execPhasePeriod s) := by
  simp (maxDischargeDepth := 30) [execPhasePeriod, *]

theorem execGirthPhase_frame [Touch .objs T] [Touch .girth T] [Touch .raised T] [Touch .outs T] [Touch .free T] (h : GirthHeader) (rpm : ℕ) (group : ℕ) (s : State) (hwf : Within T z s) :
    outWithin T z (execGirthPhase h rpm group s) := by
  unfold execGirthPhase
  repeat' split
  all_goals simp_all (maxDischargeDepth := 30)

@[simp] theorem newSecond_frame [Touch .girth T] (s : State) (hwf : Within T z s) :
    Within T z (newSecond s) := by
  simp (maxDischargeDepth := 30) [newSecond, *]

@[simp] theorem sendSeek_frame [Touch .objs T] [Touch .girth T] [Touch .outs T] [Touch .free T] (s : State) (payload : ℕ) (hwf : Within T z s) :
    Within T z (sendSeek s payload) := by
  simp (maxDischargeDepth := 30) [sendSeek, *]

@[simp] theorem announceNow_frame [Touch .objs T] [Touch .girth T] [Touch .outs T] [Touch .free T] (s : State) (b : List Byte) (hwf : Within T z s) :
    Within T z (announceNow s b).2 := by
  simp only [announceNow]
  repeat' split
  all_goals simp (maxDischargeDepth := 30) [*]

theorem execSeekCancel_frame [Touch .objs T] [Touch .girth T] [Touch .outs T] [Touch .free T] (a : Fin 4) (s : State) (hwf : Within T z s) :
    outWithin T z (execSeekCancel a s) := by
  simp only [execSeekCancel]
  split <;> simp (maxDischargeDepth := 30) [*]

@[simp] theorem deliverSeek_frame [Touch .objs T] [Touch .girth T] [Touch .free T] (s : State) (h : GirthHeader) (startTick : ℕ) (profile : ℕ) (act : ℕ) (d : ℤ) (set : ℕ) (hwf : Within T z s) :
    Within T z (deliverSeek s h startTick profile act d set) := by
  simp (maxDischargeDepth := 30) [deliverSeek, *]

theorem execGirthSeek_frame [Touch .objs T] [Touch .girth T] [Touch .raised T] [Touch .outs T] [Touch .free T] (h : GirthHeader) (startTick : ℕ) (profile : ℕ) (act : Fin 4) (d : ℤ) (profileSet : ℕ) (s : State) (hwf : Within T z s) :
    outWithin T z (execGirthSeek h startTick profile act d profileSet s) := by
  unfold execGirthSeek
  repeat' split
  all_goals simp_all (maxDischargeDepth := 30)

@[simp] theorem setFfGain_frame [Touch .objs T] [Touch .engines T] (s : State) (r : ℕ) (n : ℕ) (hwf : Within T z s) :
    Within T z (setFfGain s r n) := by
  simp (maxDischargeDepth := 30) [setFfGain, *]

@[simp] theorem trimGain_frame [Touch .objs T] [Touch .engines T] (s : State) (x : Announcement) (r : ℕ) (hwf : Within T z s) :
    Within T z (trimGain s x r) := by
  simp (maxDischargeDepth := 30) [trimGain, *]

theorem execAnnouncementEnd_frame [Touch .objs T] [Touch .engines T] [Touch .girth T] (id : ℕ) (s : State) (hwf : Within T z s) :
    outWithin T z (execAnnouncementEnd id s) := by
  unfold execAnnouncementEnd
  repeat' split
  all_goals simp_all (maxDischargeDepth := 30)

@[simp] theorem sendDict_frame [Touch .objs T] [Touch .girth T] [Touch .outs T] [Touch .free T] (s : State) (payload : ℕ) (hwf : Within T z s) :
    Within T z (sendDict s payload) := by
  simp (maxDischargeDepth := 30) [sendDict, *]

@[simp] theorem dictRequestNow_frame [Touch .objs T] [Touch .girth T] [Touch .outs T] [Touch .free T] (s : State) (b : List Byte) (hwf : Within T z s) :
    Within T z (dictRequestNow s b).2 := by
  simp only [dictRequestNow]
  split <;> simp (maxDischargeDepth := 30) [*]

theorem execDictRequestTimeout_frame [Touch .objs T] [Touch .girth T] (s : State) (hwf : Within T z s) :
    outWithin T z (execDictRequestTimeout s) := by
  simp only [execDictRequestTimeout]
  split <;> simp (maxDischargeDepth := 30) [*]

theorem execGirthDictResponse_frame [Touch .objs T] [Touch .girth T] [Touch .raised T] [Touch .outs T] [Touch .free T] (h : GirthHeader) (target : ℕ) (tag : ℕ) (index : ℕ) (sub : ℕ) (status : ℕ) (value : ℕ) (s : State) (hwf : Within T z s) :
    outWithin T z (execGirthDictResponse h target tag index sub status value s) := by
  unfold execGirthDictResponse
  repeat' split
  all_goals simp_all (maxDischargeDepth := 30)

end Sys2Proof.Machine
end

