-- ==== Sys2Proof/Laws/FrameLayoutCore.lean ====
section
/-! SUPPORT. The parts of the state that every operation of Machine/LayoutCore.lean can change. -/

namespace Sys2Proof.Machine

variable {T : List Part} {z : State}

@[simp] theorem countLayout_frame [Touch .objs T] (s : State) (hwf : Within T z s) :
    Within T z (countLayout s) := by
  simp (maxDischargeDepth := 30) [countLayout, *]

@[simp] theorem layoutChanged_frame [Touch .objs T] [Touch .layout T] (s : State) (hwf : Within T z s) :
    Within T z (layoutChanged s) := by
  simp (maxDischargeDepth := 30) [layoutChanged, *]

@[simp] theorem offerSector_frame [Touch .media T] (s : State) (u : ℕ) (track : ℕ) (p : ℕ) (hwf : Within T z s) :
    Within T z (offerSector s u track p) := by
  simp only [offerSector]
  split <;> simp (maxDischargeDepth := 30) [*]

@[simp] theorem bandWrite_frame [Touch .outs T] (s : State) (u : ℕ) (track : ℕ) (data : List Byte) (hwf : Within T z s) :
    Within T z (bandWrite s u track data) := by
  unfold bandWrite
  repeat' split
  all_goals simp_all (maxDischargeDepth := 30)

@[simp] theorem writeLabel_frame [Touch .media T] [Touch .outs T] (s : State) (u : ℕ) (f : Label → Label) (hwf : Within T z s) :
    Within T z (writeLabel s u f) := by
  simp (maxDischargeDepth := 30) [writeLabel, *]

@[simp] theorem areaWrite_frame [Touch .outs T] (s : State) (u : ℕ) (area : ℕ) (data : List Byte) (hwf : Within T z s) :
    Within T z (areaWrite s u area data) := by
  simp only [areaWrite]
  split <;> simp (maxDischargeDepth := 30) [*]

@[simp] theorem writeGrown_frame [Touch .outs T] (s : State) (u : ℕ) (hwf : Within T z s) :
    Within T z (writeGrown s u) := by
  unfold writeGrown
  repeat' split
  all_goals simp_all (maxDischargeDepth := 30)

@[simp] theorem moveArea_frame [Touch .media T] [Touch .outs T] (s : State) (u : ℕ) (area : ℕ) (hwf : Within T z s) :
    Within T z (moveArea s u area) := by
  simp only [moveArea]
  repeat' split
  all_goals simp (maxDischargeDepth := 30) [*]

@[simp] theorem mirrorPage_frame [Touch .layout T] [Touch .outs T] (s : State) (n : ℕ) (data : List Byte) (hwf : Within T z s) :
    Within T z (mirrorPage s n data) := by
  unfold mirrorPage
  dsimp only
  refine State.each_frame (by simp [*]) fun t u ht => ?_
  split <;> simp [*]

@[simp] theorem mirrorPages_frame [Touch .layout T] [Touch .outs T] (s : State) (base : ℕ) (i : ℕ) (data : List Byte) (hwf : Within T z s) :
    Within T z (mirrorPages s base i data) := by
  unfold mirrorPages
  repeat' split
  all_goals simp_all (maxDischargeDepth := 30)

@[simp] theorem mirrorIntent_frame [Touch .layout T] [Touch .outs T] (s : State) (n : ℕ) (hwf : Within T z s) :
    Within T z (mirrorIntent s n) := by
  simp (maxDischargeDepth := 30) [mirrorIntent, *]

@[simp] theorem mirrorAlloc_frame [Touch .layout T] [Touch .outs T] (s : State) (n : ℕ) (hwf : Within T z s) :
    Within T z (mirrorAlloc s n) := by
  simp (maxDischargeDepth := 30) [mirrorAlloc, *]

@[simp] theorem bandCopy_frame [Touch .coll T] [Touch .outs T] (s : State) (hwf : Within T z s) :
    Within T z (bandCopy s) := by
  unfold bandCopy
  repeat' split
  all_goals simp_all (maxDischargeDepth := 30)

@[simp] theorem countDirty_frame [Touch .objs T] (s : State) (hwf : Within T z s) :
    Within T z (countDirty s) := by
  simp (maxDischargeDepth := 30) [countDirty, *]

@[simp] theorem putCache_frame [Touch .objs T] [Touch .mem T] (s : State) (k : ℕ) (c : CacheSlot) (hwf : Within T z s) :
    Within T z (putCache s k c) := by
  simp (maxDischargeDepth := 30) [putCache, *]

@[simp] theorem setCacheState_frame [Touch .objs T] [Touch .mem T] (s : State) (p : ℕ × CacheSlot → Bool) (st : ℕ) (hwf : Within T z s) :
    Within T z (setCacheState s p st) := by
  simp (maxDischargeDepth := 30) [setCacheState, *]

@[simp] theorem dropCached_frame [Touch .objs T] [Touch .mem T] (s : State) (p : ℕ → Bool) (hwf : Within T z s) :
    Within T z (dropCached s p) := by
  simp (maxDischargeDepth := 30) [dropCached, *]

@[simp] theorem makeRoom_frame [Touch .layout T] [Touch .raised T] (s : State) (n : ℕ) (hwf : Within T z s) :
    Within T z (makeRoom s n) := by
  simp only [makeRoom]
  repeat' split
  all_goals simp (maxDischargeDepth := 30) [*]

@[simp] theorem lostChanged_frame [Touch .objs T] [Touch .layout T] [Touch .outs T] (s : State) (hwf : Within T z s) :
    Within T z (lostChanged s) := by
  simp (maxDischargeDepth := 30) [lostChanged, *]

@[simp] theorem addLost_frame [Touch .objs T] [Touch .host T] [Touch .layout T] [Touch .raised T] [Touch .outs T] [Touch .free T] (s : State) (x : Lost) (hwf : Within T z s) :
    Within T z (addLost s x) := by
  simp (maxDischargeDepth := 30) [addLost, *]

@[simp] theorem clearLost_frame [Touch .objs T] [Touch .layout T] [Touch .raised T] [Touch .outs T] (s : State) (nsid : ℕ) (lba : ℕ) (n : ℕ) (hwf : Within T z s) :
    Within T z (clearLost s nsid lba n) := by
  simp (maxDischargeDepth := 30) [clearLost, *]

@[simp] theorem setIntent_frame [Touch .objs T] [Touch .layout T] [Touch .outs T] (s : State) (g : ℕ) (hwf : Within T z s) :
    Within T z (setIntent s g) := by
  simp (maxDischargeDepth := 30) [setIntent, *]

@[simp] theorem setAllocated_frame [Touch .layout T] [Touch .outs T] (s : State) (g : ℕ) (hwf : Within T z s) :
    Within T z (setAllocated s g) := by
  simp (maxDischargeDepth := 30) [setAllocated, *]

@[simp] theorem clearAllocated_frame [Touch .layout T] (s : State) (g : ℕ) (hwf : Within T z s) :
    Within T z (clearAllocated s g) := by
  simp (maxDischargeDepth := 30) [clearAllocated, *]

@[simp] theorem nextGen_frame [Touch .objs T] (s : State) (hwf : Within T z s) :
    Within T z (nextGen s).2 := by
  simp (maxDischargeDepth := 30) [nextGen, *]

@[simp] theorem countJournal_frame [Touch .objs T] (s : State) (hwf : Within T z s) :
    Within T z (countJournal s) := by
  simp (maxDischargeDepth := 30) [countJournal, *]

@[simp] theorem countUpdate_frame [Touch .objs T] (s : State) (method : ℕ) (hwf : Within T z s) :
    Within T z (countUpdate s method) := by
  simp (maxDischargeDepth := 30) [countUpdate, *]

@[simp] theorem openEntry_frame [Touch .objs T] [Touch .layout T] [Touch .outs T] (s : State) (e : JournalEntry) (hwf : Within T z s) :
    Within T z (openEntry s e) := by
  simp (maxDischargeDepth := 30) [openEntry, *]

end Sys2Proof.Machine
end

