-- ==== Sys2Proof/Laws/FrameRestart.lean ====
section
/-! SUPPORT. The parts of the state that every operation of Machine/Restart.lean can change. -/

namespace Sys2Proof.Machine

variable {T : List Part} {z : State}

@[simp] theorem leaveSafe_frame [Touch .objs T] [Touch .power T] [Touch .start T] [Touch .chan T] [Touch .dec T] [Touch .players T] [Touch .acts T] [Touch .traces T] [Touch .motion T] [Touch .host T] [Touch .mem T] [Touch .raised T] [Touch .outs T] [Touch .free T] (s : State) (maintenance : Bool) (hwf : Within T z s) :
    Within T z (leaveSafe s maintenance) := by
  simp (maxDischargeDepth := 30) [leaveSafe, *]

@[simp] theorem restart_frame [Touch .objs T] [Touch .power T] [Touch .dict T] [Touch .start T] [Touch .fw T] [Touch .media T] [Touch .chan T] [Touch .dec T] [Touch .players T] [Touch .acts T] [Touch .engines T] [Touch .groups T] [Touch .traces T] [Touch .motion T] [Touch .girth T] [Touch .host T] [Touch .layout T] [Touch .mem T] [Touch .fab T] [Touch .coll T] [Touch .raised T] [Touch .outs T] [Touch .free T] (s : State) (maintenance : Bool) (hwf : Within T z s) :
    Within T z (restart s maintenance) := by
  simp only [restart]
  repeat' split
  all_goals simp (maxDischargeDepth := 30) [*]

end Sys2Proof.Machine
end

