-- ==== Sys2Proof/Laws/FrameHostIo.lean ====
section
/-! SUPPORT. The parts of the state that every operation of Machine/HostIo.lean can change. -/

namespace Sys2Proof.Machine

variable {T : List Part} {z : State}

@[simp] theorem wakeDrive_frame [Touch .objs T] [Touch .motion T] [Touch .free T] (s : State) (from4 : Bool) (hwf : Within T z s) :
    Within T z (wakeDrive s from4) := by
  unfold wakeDrive
  repeat' split
  all_goals simp_all (maxDischargeDepth := 30)

@[simp] theorem reportPower_frame [Touch .objs T] [Touch .host T] (s : State) (n : ℕ) (hwf : Within T z s) :
    Within T z (reportPower s n) := by
  simp (maxDischargeDepth := 30) [reportPower, *]

@[simp] theorem mediaWake_frame [Touch .objs T] [Touch .motion T] [Touch .host T] [Touch .free T] (s : State) (hwf : Within T z s) :
    Within T z (mediaWake s) := by
  simp (maxDischargeDepth := 30) [mediaWake, *]

@[simp] theorem mediaGate_frame [Touch .objs T] [Touch .motion T] [Touch .host T] [Touch .free T] (s : State) (hwf : Within T z s) :
    optWithin T z (mediaGate s) := by
  simp only [mediaGate]
  repeat' split
  all_goals simp (maxDischargeDepth := 30) [*]

@[simp] theorem wakeFrom4_frame [Touch .objs T] [Touch .motion T] [Touch .host T] [Touch .free T] (s : State) (hwf : Within T z s) :
    Within T z (wakeFrom4 s) := by
  simp (maxDischargeDepth := 30) [wakeFrom4, *]

@[simp] theorem coverFlush_frame [Touch .host T] (s : State) (n : ℕ) (hwf : Within T z s) :
    Within T z (coverFlush s n) := by
  simp only [coverFlush]
  split <;> simp (maxDischargeDepth := 30) [*]

@[simp] theorem finishMedium_frame [Touch .objs T] [Touch .host T] [Touch .outs T] [Touch .free T] (s : State) (n : ℕ) (hwf : Within T z s) :
    Within T z (finishMedium s n) := by
  simp only [finishMedium]
  split <;> simp (maxDischargeDepth := 30) [*]

@[simp] theorem settleMedium_frame [Touch .objs T] [Touch .host T] [Touch .outs T] [Touch .free T] (s : State) (hwf : Within T z s) :
    Within T z (settleMedium s) := by
  unfold settleMedium
  repeat' split
  all_goals simp_all (maxDischargeDepth := 30)

@[simp] theorem blocksOnMedium_frame [Touch .objs T] [Touch .host T] [Touch .outs T] [Touch .free T] (s : State) (done : List (ℕ × ℕ)) (hwf : Within T z s) :
    Within T z (blocksOnMedium s done) := by
  simp (maxDischargeDepth := 30) [blocksOnMedium, *]

@[simp] theorem blocksDropped_frame [Touch .objs T] [Touch .host T] [Touch .outs T] [Touch .free T] (s : State) (dbas : List ℕ) (hwf : Within T z s) :
    Within T z (blocksDropped s dbas) := by
  simp (maxDischargeDepth := 30) [blocksDropped, *]

@[simp] theorem settleShutdown_frame [Touch .objs T] [Touch .motion T] [Touch .host T] [Touch .coll T] [Touch .outs T] [Touch .free T] (s : State) (p : Port) (hwf : Within T z s) :
    Within T z (settleShutdown s p) := by
  simp (maxDischargeDepth := 30) [settleShutdown, *]

@[simp] theorem settleShutdowns_frame [Touch .objs T] [Touch .motion T] [Touch .host T] [Touch .coll T] [Touch .outs T] [Touch .free T] (s : State) (hwf : Within T z s) :
    Within T z (settleShutdowns s) := by
  simp (maxDischargeDepth := 30) [settleShutdowns, *]

@[simp] theorem slotTaken_frame [Touch .host T] (s : State) (p : Port) (hwf : Within T z s) :
    Within T z (slotTaken s p) := by
  simp (maxDischargeDepth := 30) [slotTaken, *]

@[simp] theorem advanceSq_frame [Touch .host T] (s : State) (p : Port) (qid : ℕ) (q : Sq) (hwf : Within T z s) :
    Within T z (advanceSq s p qid q) := by
  simp (maxDischargeDepth := 30) [advanceSq, *]

@[simp] theorem nextAdmission_frame [Touch .objs T] [Touch .free T] (s : State) (hwf : Within T z s) :
    Within T z (nextAdmission s).2 := by
  simp (maxDischargeDepth := 30) [nextAdmission, *]

@[simp] theorem admitAer_frame [Touch .objs T] [Touch .host T] [Touch .outs T] [Touch .free T] (s : State) (p : Port) (cid : ℕ) (hwf : Within T z s) :
    Within T z (admitAer s p cid) := by
  simp (maxDischargeDepth := 30) [admitAer, *]

@[simp] theorem fetchCommand_frame [Touch .objs T] [Touch .motion T] [Touch .host T] [Touch .outs T] [Touch .free T] (s : State) (p : Port) (qid : ℕ) (cmd : SqEntry) (hwf : Within T z s) :
    Within T z (fetchCommand s p qid cmd) := by
  simp only [fetchCommand]
  split <;> simp (maxDischargeDepth := 30) [*]

theorem execCommandFetch_frame [Touch .objs T] [Touch .motion T] [Touch .host T] [Touch .outs T] [Touch .free T] (p : Port) (qid : ℕ) (cmd : SqEntry) (s : State) (hwf : Within T z s) :
    outWithin T z (execCommandFetch p qid cmd s) := by
  simp (maxDischargeDepth := 30) [execCommandFetch, *]

theorem execAsyncEventRequest_frame [Touch .objs T] [Touch .motion T] [Touch .host T] [Touch .outs T] [Touch .free T] (p : Port) (cid : ℕ) (s : State) (hwf : Within T z s) :
    outWithin T z (execAsyncEventRequest p cid s) := by
  simp (maxDischargeDepth := 30) [execAsyncEventRequest, *]

theorem execSqDoorbell_frame [Touch .host T] (p : Port) (qid : ℕ) (tail : ℕ) (s : State) (hwf : Within T z s) :
    outWithin T z (execSqDoorbell p qid tail s) := by
  simp only [execSqDoorbell]
  split <;> simp (maxDischargeDepth := 30) [*]

@[simp] theorem postWaiting_frame [Touch .objs T] [Touch .host T] [Touch .outs T] [Touch .free T] (fuel : Nat) (s : State) (p : Port) (qid : Nat) (h : Within T z s) : Within T z (postWaiting fuel s p qid) := by
  induction fuel generalizing s with
  | zero => simpa [postWaiting] using h
  | succ n ih =>
    simp only [postWaiting]
    repeat' first | (simp +contextual (maxDischargeDepth := 30) [*]; done) | split

theorem execCqHeadDoorbell_frame [Touch .objs T] [Touch .motion T] [Touch .host T] [Touch .coll T] [Touch .outs T] [Touch .free T] (p : Port) (qid : ℕ) (head : ℕ) (s : State) (hwf : Within T z s) :
    outWithin T z (execCqHeadDoorbell p qid head s) := by
  simp only [execCqHeadDoorbell]
  split <;> simp (maxDischargeDepth := 30) [*]

@[simp] theorem endIo_frame [Touch .objs T] [Touch .motion T] [Touch .host T] [Touch .coll T] [Touch .outs T] [Touch .free T] (s : State) (n : ℕ) (st : ℕ × ℕ) (hwf : Within T z s) :
    Within T z (endIo s n st) := by
  simp (maxDischargeDepth := 30) [endIo, *]

@[simp] theorem admitBlock_frame [Touch .objs T] [Touch .layout T] [Touch .mem T] (s : State) (ns : Namespace) (c : CmdSlot) (dba : ℕ) (k : ℕ) (payload : List Byte) (hwf : Within T z s) :
    Within T z (admitBlock s ns c dba k payload) := by
  simp (maxDischargeDepth := 30) [admitBlock, *]

@[simp] theorem admitBlocks_frame [Touch .objs T] [Touch .layout T] [Touch .mem T] (ns : Namespace) (c : CmdSlot) (i : Nat) (l : List HostBlock) (s : State) (h : Within T z s) :
    Within T z (admitBlocks ns c i l s).2.2 := by
  induction l generalizing i s with
  | nil => simpa [admitBlocks] using h
  | cons b r ih =>
    simp only [admitBlocks]
    repeat' first | (simp +contextual (maxDischargeDepth := 30) [*]; done) | split

theorem execNvmeWrite_frame [Touch .objs T] [Touch .motion T] [Touch .host T] [Touch .layout T] [Touch .mem T] [Touch .coll T] [Touch .outs T] [Touch .free T] (slot : ℕ) (blocks : List HostBlock) (s : State) (hwf : Within T z s) :
    outWithin T z (execNvmeWrite slot blocks s) := by
  unfold execNvmeWrite
  dsimp only
  split
  · exact hwf
  · split
    · simp [hwf]
    · exact hwf
    · repeat' first | (simp +contextual (maxDischargeDepth := 30) [hwf]; done) | split

@[simp] theorem wakeFor_frame [Touch .objs T] [Touch .motion T] [Touch .host T] [Touch .free T] (s : State) (blocks : List (ℕ × ℕ)) (hwf : Within T z s) :
    Within T z (wakeFor s blocks) := by
  simp (maxDischargeDepth := 30) [wakeFor, *]

theorem execWriteCached_frame [Touch .objs T] [Touch .motion T] [Touch .host T] [Touch .layout T] [Touch .coll T] [Touch .raised T] [Touch .outs T] [Touch .free T] (slot : ℕ) (s : State) (hwf : Within T z s) :
    outWithin T z (execWriteCached slot s) := by
  simp only [execWriteCached]
  split <;> simp (maxDischargeDepth := 30) [*]

@[simp] theorem deallocate_frame [Touch .objs T] [Touch .host T] [Touch .layout T] [Touch .mem T] [Touch .raised T] [Touch .outs T] [Touch .free T] (s : State) (ns : Namespace) (ranges : List (ℕ × ℕ)) (hwf : Within T z s) :
    Within T z (deallocate s ns ranges) := by
  unfold deallocate
  repeat' split
  all_goals simp_all (maxDischargeDepth := 30)

theorem execDatasetManagement_frame [Touch .objs T] [Touch .motion T] [Touch .host T] [Touch .layout T] [Touch .mem T] [Touch .coll T] [Touch .raised T] [Touch .outs T] [Touch .free T] (slot : ℕ) (s : State) (hwf : Within T z s) :
    outWithin T z (execDatasetManagement slot s) := by
  simp only [execDatasetManagement]
  repeat' split
  all_goals simp (maxDischargeDepth := 30) [*]

@[simp] theorem zeroBlocks_frame [Touch .objs T] [Touch .layout T] [Touch .mem T] (ns : Namespace) (c : CmdSlot) (skip : Nat → Bool) (fuel i : Nat) (s : State) (h : Within T z s) :
    Within T z (zeroBlocks ns c skip fuel i s).2 := by
  induction fuel generalizing i s with
  | zero => exact h
  | succ n ih =>
    rw [zeroBlocks]
    dsimp only
    split
    · exact ih _ _ h
    · split
      · exact h
      · exact ih _ _ (admitBlock_frame _ _ _ _ _ _ h)

theorem execWriteZeroes_frame [Touch .objs T] [Touch .motion T] [Touch .host T] [Touch .layout T] [Touch .mem T] [Touch .coll T] [Touch .raised T] [Touch .outs T] [Touch .free T] (slot : ℕ) (s : State) (hwf : Within T z s) :
    outWithin T z (execWriteZeroes slot s) := by
  simp only [execWriteZeroes]
  repeat' split
  all_goals simp (maxDischargeDepth := 30) [*]

@[simp] theorem firstToMedium_frame [Touch .objs T] [Touch .motion T] [Touch .host T] [Touch .free T] (s : State) (n : ℕ) (c : CmdSlot) (hwf : Within T z s) :
    optWithin T z (firstToMedium s n c) := by
  simp only [firstToMedium]
  split <;> simp (maxDischargeDepth := 30) [*]

@[simp] theorem serveRead_frame [Touch .objs T] [Touch .motion T] [Touch .host T] [Touch .coll T] [Touch .outs T] [Touch .free T] (s : State) (n : Nat) (c : CmdSlot) (ns : Namespace) (useCache transfer : Bool) (media : List MediaBlock)
    (h : Within T z s) : Within T z (serveRead s n c ns useCache transfer media) := by
  have gate : ∀ t, (if touchesMedium s ns c useCache then mediaGate s else none) = some t → Within T z t := fun t ht => by
    have := mediaGate_frame s h
    split at ht <;> simp_all
  simp only [serveRead]
  split
  · simp [*]
  · split
    · exact gate _ (by assumption)
    · repeat' first | (simp +contextual (maxDischargeDepth := 30) [*]; done) | split

theorem execNvmeRead_frame [Touch .objs T] [Touch .motion T] [Touch .host T] [Touch .coll T] [Touch .outs T] [Touch .free T] (slot : ℕ) (media : List MediaBlock) (s : State) (hwf : Within T z s) :
    outWithin T z (execNvmeRead slot media s) := by
  unfold execNvmeRead
  dsimp only
  split
  · exact hwf
  split
  · exact hwf
  split
  · simp [hwf]
  · exact hwf
  rename_i c _ _ _ _ _ _ _
  have first : ∀ t, (if (bit c.cmd.cdw12 30 && s.host.strict) = true then firstToMedium s slot c else none) = some t → Within T z t := fun t ht => by
    have := firstToMedium_frame s slot c hwf
    split at ht <;> simp_all
  split
  · exact first _ (by assumption)
  · simp [hwf]

theorem execNvmeVerify_frame [Touch .objs T] [Touch .motion T] [Touch .host T] [Touch .coll T] [Touch .outs T] [Touch .free T] (slot : ℕ) (media : List MediaBlock) (s : State) (hwf : Within T z s) :
    outWithin T z (execNvmeVerify slot media s) := by
  unfold execNvmeVerify
  split
  · exact hwf
  split
  · simp [hwf]
  · exact hwf
  have first := firstToMedium_frame s slot ‹CmdSlot› hwf
  split
  · simp_all
  · simp [hwf]

theorem execReadTransferred_frame [Touch .objs T] [Touch .motion T] [Touch .host T] [Touch .coll T] [Touch .outs T] [Touch .free T] (slot : ℕ) (s : State) (hwf : Within T z s) :
    outWithin T z (execReadTransferred slot s) := by
  simp only [execReadTransferred]
  split <;> simp (maxDischargeDepth := 30) [*]

theorem execNvmeFlush_frame [Touch .objs T] [Touch .motion T] [Touch .host T] [Touch .coll T] [Touch .outs T] [Touch .free T] (slot : ℕ) (s : State) (hwf : Within T z s) :
    outWithin T z (execNvmeFlush slot s) := by
  simp only [execNvmeFlush]
  repeat' split
  all_goals simp (maxDischargeDepth := 30) [*]

theorem execTlerExpire_frame [Touch .objs T] [Touch .motion T] [Touch .host T] [Touch .coll T] [Touch .outs T] [Touch .free T] (slot : ℕ) (lba : ℕ) (s : State) (hwf : Within T z s) :
    outWithin T z (execTlerExpire slot lba s) := by
  simp only [execTlerExpire]
  split <;> simp (maxDischargeDepth := 30) [*]

end Sys2Proof.Machine
end

