-- ==== Sys2Proof/Laws/FrameHostAdmin.lean ====
section
/-! SUPPORT. The parts of the state that every operation of Machine/HostAdmin.lean can change. -/

namespace Sys2Proof.Machine

variable {T : List Part} {z : State}

@[simp] theorem endAdmin_frame [Touch .objs T] [Touch .motion T] [Touch .host T] [Touch .coll T] [Touch .outs T] [Touch .free T] (s : State) (n : ℕ) (st : ℕ × ℕ) (dw0 : optParam ℕ 0) (dw1 : optParam ℕ 0) (hwf : Within T z s) :
    Within T z (endAdmin s n st dw0 dw1) := by
  simp (maxDischargeDepth := 30) [endAdmin, *]

@[simp] theorem endData_frame [Touch .objs T] [Touch .motion T] [Touch .host T] [Touch .coll T] [Touch .outs T] [Touch .free T] (s : State) (n : ℕ) (c : CmdSlot) (data : List Byte) (hwf : Within T z s) :
    Within T z (endData s n c data) := by
  simp (maxDischargeDepth := 30) [endData, *]

@[simp] theorem freeData_frame [Touch .free T] (s : State) (len : ℕ) (hwf : Within T z s) :
    Within T z (freeData s len).2 := by
  simp (maxDischargeDepth := 30) [freeData, *]

@[simp] theorem countQueues_frame [Touch .objs T] (s : State) (p : Port) (hwf : Within T z s) :
    Within T z (countQueues s p) := by
  simp (maxDischargeDepth := 30) [countQueues, *]

theorem execCreateIoCq_frame [Touch .objs T] [Touch .motion T] [Touch .host T] [Touch .coll T] [Touch .outs T] [Touch .free T] (slot : ℕ) (s : State) (hwf : Within T z s) :
    outWithin T z (execCreateIoCq slot s) := by
  simp only [execCreateIoCq]
  split <;> simp (maxDischargeDepth := 30) [*]

theorem execCreateIoSq_frame [Touch .objs T] [Touch .motion T] [Touch .host T] [Touch .coll T] [Touch .outs T] [Touch .free T] (slot : ℕ) (s : State) (hwf : Within T z s) :
    outWithin T z (execCreateIoSq slot s) := by
  simp only [execCreateIoSq]
  split <;> simp (maxDischargeDepth := 30) [*]

theorem execDeleteIoSq_frame [Touch .objs T] [Touch .motion T] [Touch .host T] [Touch .coll T] [Touch .outs T] [Touch .free T] (slot : ℕ) (s : State) (hwf : Within T z s) :
    outWithin T z (execDeleteIoSq slot s) := by
  unfold execDeleteIoSq
  repeat' split
  all_goals simp_all (maxDischargeDepth := 30)

theorem execDeleteIoCq_frame [Touch .objs T] [Touch .motion T] [Touch .host T] [Touch .coll T] [Touch .outs T] [Touch .free T] (slot : ℕ) (s : State) (hwf : Within T z s) :
    outWithin T z (execDeleteIoCq slot s) := by
  simp only [execDeleteIoCq]
  split <;> simp (maxDischargeDepth := 30) [*]

@[simp] theorem rotationalLog_frame [Touch .free T] (s : State) (hwf : Within T z s) :
    Within T z (rotationalLog s).2 := by
  simp (maxDischargeDepth := 30) [rotationalLog, *]

@[simp] theorem effectsLog_frame [Touch .free T] (s : State) (hwf : Within T z s) :
    Within T z (effectsLog s).2 := by
  simp (maxDischargeDepth := 30) [effectsLog, *]

theorem standardLog_frame [Touch .free T] (s : State) (p : Port) (lid len : Nat) (h : Within T z s) (e) (he : standardLog s p lid len = some e) : Within T z e.2 := by
  unfold standardLog at he
  split at he <;> cases he <;> simp [h]

@[simp] theorem logTaken_frame [Touch .host T] (s : State) (p : Port) (lid : ℕ) (keep : Bool) (hwf : Within T z s) :
    Within T z (logTaken s p lid keep) := by
  simp (maxDischargeDepth := 30) [logTaken, *]

@[simp] theorem namespaceChanged_frame [Touch .host T] (s : State) (nsid : ℕ) (ps : List Port) (hwf : Within T z s) :
    Within T z (namespaceChanged s nsid ps) := by
  unfold namespaceChanged
  repeat' split
  all_goals simp_all (maxDischargeDepth := 30)

theorem execGetLogPage_frame [Touch .objs T] [Touch .motion T] [Touch .host T] [Touch .coll T] [Touch .outs T] [Touch .free T] (slot : ℕ) (s : State) (hwf : Within T z s) :
    outWithin T z (execGetLogPage slot s) := by
  unfold execGetLogPage
  split
  · simp [hwf]
  · next c h =>
    dsimp only
    split
    · exact endAdmin_frame _ _ _ _ _ hwf
    · split
      · exact endData_frame _ _ _ _ hwf
      · split
        · exact endData_frame _ _ _ _ hwf
        · split
          · split
            · exact endData_frame _ _ _ _ hwf
            · exact endAdmin_frame _ _ _ _ _ hwf
          · split
            · next d t e => exact endData_frame _ _ _ _ (logTaken_frame _ _ _ _ (standardLog_frame _ _ _ _ hwf _ e))
            · exact endAdmin_frame _ _ _ _ _ hwf

theorem execIdentify_frame [Touch .objs T] [Touch .motion T] [Touch .host T] [Touch .coll T] [Touch .outs T] [Touch .free T] (slot : ℕ) (s : State) (hwf : Within T z s) :
    outWithin T z (execIdentify slot s) := by
  unfold execIdentify
  dsimp only
  repeat' split
  all_goals simp (maxDischargeDepth := 30) only [outWithin_next, endData, State.emit_frame, endAdmin_frame, State.draw_frame, freeData, hwf]

theorem execNvmeAbort_frame [Touch .objs T] [Touch .motion T] [Touch .host T] [Touch .coll T] [Touch .outs T] [Touch .free T] (slot : ℕ) (s : State) (hwf : Within T z s) :
    outWithin T z (execNvmeAbort slot s) := by
  simp only [execNvmeAbort]
  repeat' split
  all_goals simp (maxDischargeDepth := 30) [*]

@[simp] theorem enterPower_frame [Touch .objs T] [Touch .motion T] [Touch .host T] [Touch .free T] (s : State) (n : ℕ) (hwf : Within T z s) :
    Within T z (enterPower s n) := by
  simp (maxDischargeDepth := 30) [enterPower, *]

@[simp] theorem requestPower_frame [Touch .objs T] [Touch .motion T] [Touch .host T] [Touch .free T] (s : State) (n : ℕ) (hwf : Within T z s) :
    Within T z (requestPower s n) := by
  simp (maxDischargeDepth := 30) [requestPower, *]

@[simp] theorem powerEntered_frame [Touch .host T] (s : State) (hwf : Within T z s) :
    Within T z (powerEntered s) := by
  simp (maxDischargeDepth := 30) [powerEntered, *]

@[simp] theorem cutEntry_frame [Touch .objs T] [Touch .motion T] [Touch .host T] [Touch .free T] (s : State) (n : ℕ) (hwf : Within T z s) :
    Within T z (cutEntry s n) := by
  simp (maxDischargeDepth := 30) [cutEntry, *]

@[simp] theorem toPhase_frame [Touch .host T] (s : State) (i : ℕ) (hwf : Within T z s) :
    Within T z (toPhase s i) := by
  simp (maxDischargeDepth := 30) [toPhase, *]

@[simp] theorem mirrorPoint_frame [Touch .objs T] [Touch .layout T] [Touch .outs T] (s : State) (hwf : Within T z s) :
    Within T z (mirrorPoint s) := by
  unfold mirrorPoint
  repeat' split
  all_goals simp_all (maxDischargeDepth := 30)

theorem execPowerStateSafePoint_frame [Touch .objs T] [Touch .motion T] [Touch .host T] [Touch .layout T] [Touch .coll T] [Touch .outs T] [Touch .free T] (s : State) (hwf : Within T z s) :
    outWithin T z (execPowerStateSafePoint s) := by
  simp only [execPowerStateSafePoint]
  repeat' split
  all_goals simp (maxDischargeDepth := 30) [*]

theorem execPs3IdleTimeout_frame [Touch .objs T] [Touch .motion T] [Touch .host T] [Touch .free T] (s : State) (hwf : Within T z s) :
    outWithin T z (execPs3IdleTimeout s) := by
  simp (maxDischargeDepth := 30) [execPs3IdleTimeout, *]

@[simp] theorem setFeature_frame [Touch .host T] (s : State) (p : Port) (k : ℕ) (v : ℕ) (hwf : Within T z s) :
    Within T z (setFeature s p k v) := by
  simp (maxDischargeDepth := 30) [setFeature, *]

@[simp] theorem reservationDone_frame [Touch .objs T] [Touch .motion T] [Touch .host T] [Touch .coll T] [Touch .outs T] [Touch .free T] (s : State) (n : ℕ) (c : CmdSlot) (old : Reservation) (new : Reservation) (hwf : Within T z s) :
    Within T z (reservationDone s n c old new) := by
  simp (maxDischargeDepth := 30) [reservationDone, *]

@[simp] theorem setFeatureCommand_frame [Touch .objs T] [Touch .motion T] [Touch .host T] [Touch .coll T] [Touch .outs T] [Touch .free T] (s : State) (n : ℕ) (c : CmdSlot) (hwf : Within T z s) :
    Within T z (setFeatureCommand s n c) := by
  simp only [setFeatureCommand]
  repeat' split
  all_goals simp (maxDischargeDepth := 30) [*]

theorem execSetFeatures_frame [Touch .objs T] [Touch .motion T] [Touch .host T] [Touch .coll T] [Touch .outs T] [Touch .free T] (slot : ℕ) (s : State) (hwf : Within T z s) :
    outWithin T z (execSetFeatures slot s) := by
  simp only [execSetFeatures]
  split <;> simp (maxDischargeDepth := 30) [*]

theorem execSetFeaturesPowerManagement_frame [Touch .objs T] [Touch .motion T] [Touch .host T] [Touch .coll T] [Touch .outs T] [Touch .free T] (slot : ℕ) (s : State) (hwf : Within T z s) :
    outWithin T z (execSetFeaturesPowerManagement slot s) := by
  simp only [execSetFeaturesPowerManagement]
  split <;> simp (maxDischargeDepth := 30) [*]

theorem execSetFeaturesErrorRecovery_frame [Touch .objs T] [Touch .motion T] [Touch .host T] [Touch .coll T] [Touch .outs T] [Touch .free T] (slot : ℕ) (s : State) (hwf : Within T z s) :
    outWithin T z (execSetFeaturesErrorRecovery slot s) := by
  simp only [execSetFeaturesErrorRecovery]
  split <;> simp (maxDischargeDepth := 30) [*]

theorem execSetFeaturesVwc_frame [Touch .objs T] [Touch .motion T] [Touch .host T] [Touch .coll T] [Touch .outs T] [Touch .free T] (slot : ℕ) (s : State) (hwf : Within T z s) :
    outWithin T z (execSetFeaturesVwc slot s) := by
  simp only [execSetFeaturesVwc]
  split <;> simp (maxDischargeDepth := 30) [*]

theorem execGetFeatures_frame [Touch .objs T] [Touch .motion T] [Touch .host T] [Touch .coll T] [Touch .outs T] [Touch .free T] (slot : ℕ) (s : State) (hwf : Within T z s) :
    outWithin T z (execGetFeatures slot s) := by
  simp only [execGetFeatures]
  repeat' split
  all_goals simp (maxDischargeDepth := 30) [*]

@[simp] theorem descriptorUpdate_frame [Touch .objs T] [Touch .layout T] [Touch .outs T] (s : State) (hwf : Within T z s) :
    Within T z (descriptorUpdate s) := by
  simp (maxDischargeDepth := 30) [descriptorUpdate, *]

theorem execNamespaceCreate_frame [Touch .objs T] [Touch .fw T] [Touch .motion T] [Touch .host T] [Touch .layout T] [Touch .coll T] [Touch .outs T] [Touch .free T] (slot : ℕ) (nsze : ℕ) (lbaFormat : ℕ) (s : State) (hwf : Within T z s) :
    outWithin T z (execNamespaceCreate slot nsze lbaFormat s) := by
  simp only [execNamespaceCreate]
  repeat' split
  all_goals simp (maxDischargeDepth := 30) [*]

@[simp] theorem freeStripes_frame [Touch .objs T] [Touch .layout T] (s : State) (first : ℕ) (n : ℕ) (hwf : Within T z s) :
    Within T z (freeStripes s first n) := by
  simp (maxDischargeDepth := 30) [freeStripes, *]

@[simp] theorem freeMaps_frame [Touch .layout T] (s : State) (hwf : Within T z s) :
    Within T z (freeMaps s) := by
  simp (maxDischargeDepth := 30) [freeMaps, *]

@[simp] theorem cancelReshape_frame [Touch .objs T] [Touch .host T] [Touch .layout T] [Touch .mem T] [Touch .outs T] [Touch .free T] (s : State) (hwf : Within T z s) :
    Within T z (cancelReshape s) := by
  simp only [cancelReshape]
  split <;> simp (maxDischargeDepth := 30) [*]

@[simp] theorem discardNamespace_frame [Touch .objs T] [Touch .host T] [Touch .layout T] [Touch .mem T] [Touch .raised T] [Touch .outs T] [Touch .free T] (s : State) (ns : Namespace) (hwf : Within T z s) :
    Within T z (discardNamespace s ns) := by
  simp only [discardNamespace]
  split <;> simp (maxDischargeDepth := 30) [*]

@[simp] theorem deleteNamespace_frame [Touch .objs T] [Touch .motion T] [Touch .host T] [Touch .layout T] [Touch .mem T] [Touch .coll T] [Touch .raised T] [Touch .outs T] [Touch .free T] (s : State) (nsid : ℕ) (hwf : Within T z s) :
    Within T z (deleteNamespace s nsid) := by
  unfold deleteNamespace
  repeat' split
  all_goals simp_all (maxDischargeDepth := 30)

theorem execNamespaceDelete_frame [Touch .objs T] [Touch .motion T] [Touch .host T] [Touch .layout T] [Touch .mem T] [Touch .coll T] [Touch .raised T] [Touch .outs T] [Touch .free T] (slot : ℕ) (s : State) (hwf : Within T z s) :
    outWithin T z (execNamespaceDelete slot s) := by
  unfold execNamespaceDelete
  repeat' split
  all_goals simp_all (maxDischargeDepth := 30)

theorem execNamespaceAttachment_frame [Touch .objs T] [Touch .motion T] [Touch .host T] [Touch .coll T] [Touch .outs T] [Touch .free T] (slot : ℕ) (controllers : List Port) (s : State) (hwf : Within T z s) :
    outWithin T z (execNamespaceAttachment slot controllers s) := by
  simp only [execNamespaceAttachment]
  repeat' split
  all_goals simp (maxDischargeDepth := 30) [*]

theorem execGetLbaStatus_frame [Touch .objs T] [Touch .motion T] [Touch .host T] [Touch .coll T] [Touch .outs T] [Touch .free T] (slot : ℕ) (s : State) (hwf : Within T z s) :
    outWithin T z (execGetLbaStatus slot s) := by
  simp only [execGetLbaStatus]
  repeat' split
  all_goals simp (maxDischargeDepth := 30) [*]

theorem execInvalidOpcode_frame [Touch .objs T] [Touch .motion T] [Touch .host T] [Touch .coll T] [Touch .outs T] [Touch .free T] (slot : ℕ) (s : State) (hwf : Within T z s) :
    outWithin T z (execInvalidOpcode slot s) := by
  simp only [execInvalidOpcode]
  split <;> simp (maxDischargeDepth := 30) [*]

@[simp] theorem notifyHosts_frame [Touch .objs T] [Touch .host T] [Touch .outs T] [Touch .free T] (s : State) (nsid : ℕ) (maskBit : ℕ) (hosts : List ℕ) (hwf : Within T z s) :
    Within T z (notifyHosts s nsid maskBit hosts) := by
  unfold notifyHosts
  repeat' split
  all_goals simp_all (maxDischargeDepth := 30)

@[simp] theorem reserveWith_frame [Touch .objs T] [Touch .motion T] [Touch .host T] [Touch .coll T] [Touch .outs T] [Touch .free T] (s : State) (n : ℕ) (c : CmdSlot) (f : Reservation → ℕ × ℕ ⊕ Reservation) (hwf : Within T z s) :
    Within T z (reserveWith s n c f) := by
  simp only [reserveWith]
  repeat' split
  all_goals simp (maxDischargeDepth := 30) [*]

theorem execReservationRegister_frame [Touch .objs T] [Touch .motion T] [Touch .host T] [Touch .coll T] [Touch .outs T] [Touch .free T] (slot : ℕ) (crkey : ℕ) (nrkey : ℕ) (s : State) (hwf : Within T z s) :
    outWithin T z (execReservationRegister slot crkey nrkey s) := by
  simp only [execReservationRegister]
  split <;> simp (maxDischargeDepth := 30) [*]

theorem execReservationReport_frame [Touch .objs T] [Touch .motion T] [Touch .host T] [Touch .coll T] [Touch .outs T] [Touch .free T] (slot : ℕ) (s : State) (hwf : Within T z s) :
    outWithin T z (execReservationReport slot s) := by
  simp only [execReservationReport]
  repeat' split
  all_goals simp (maxDischargeDepth := 30) [*]

@[simp] theorem acquire_frame [Touch .objs T] [Touch .motion T] [Touch .host T] [Touch .coll T] [Touch .outs T] [Touch .free T] (s : State) (n : ℕ) (c : CmdSlot) (crkey : ℕ) (prkey : ℕ) (hwf : Within T z s) :
    Within T z (acquire s n c crkey prkey) := by
  simp (maxDischargeDepth := 30) [acquire, *]

theorem execReservationAcquire_frame [Touch .objs T] [Touch .motion T] [Touch .host T] [Touch .coll T] [Touch .outs T] [Touch .free T] (slot : ℕ) (crkey : ℕ) (prkey : ℕ) (s : State) (hwf : Within T z s) :
    outWithin T z (execReservationAcquire slot crkey prkey s) := by
  simp only [execReservationAcquire]
  split <;> simp (maxDischargeDepth := 30) [*]

theorem execReservationPreemptAndAbort_frame [Touch .objs T] [Touch .motion T] [Touch .host T] [Touch .coll T] [Touch .outs T] [Touch .free T] (slot : ℕ) (crkey : ℕ) (prkey : ℕ) (s : State) (hwf : Within T z s) :
    outWithin T z (execReservationPreemptAndAbort slot crkey prkey s) := by
  unfold execReservationPreemptAndAbort
  repeat' split
  all_goals simp_all (maxDischargeDepth := 30)

theorem execReservationRelease_frame [Touch .objs T] [Touch .motion T] [Touch .host T] [Touch .coll T] [Touch .outs T] [Touch .free T] (slot : ℕ) (crkey : ℕ) (s : State) (hwf : Within T z s) :
    outWithin T z (execReservationRelease slot crkey s) := by
  simp only [execReservationRelease]
  split <;> simp (maxDischargeDepth := 30) [*]

theorem execReservationStateWritten_frame [Touch .objs T] [Touch .motion T] [Touch .host T] [Touch .coll T] [Touch .outs T] [Touch .free T] (ns : ℕ) (s : State) (hwf : Within T z s) :
    outWithin T z (execReservationStateWritten ns s) := by
  unfold execReservationStateWritten
  repeat' split
  all_goals simp_all (maxDischargeDepth := 30)

end Sys2Proof.Machine
end

