-- ==== Sys2Proof/Laws/FrameHostReset.lean ====
section
/-! SUPPORT. The parts of the state that every operation of Machine/HostReset.lean can change. -/

namespace Sys2Proof.Machine

variable {T : List Part} {z : State}

@[simp] theorem dropCommands_frame [Touch .objs T] [Touch .fw T] [Touch .motion T] [Touch .host T] [Touch .coll T] [Touch .outs T] [Touch .free T] (s : State) (p : Port) (hwf : Within T z s) :
    Within T z (dropCommands s p) := by
  unfold dropCommands
  repeat' split
  all_goals simp_all (maxDischargeDepth := 30)

@[simp] theorem resetNow_frame [Touch .objs T] [Touch .power T] [Touch .dict T] [Touch .start T] [Touch .fw T] [Touch .media T] [Touch .chan T] [Touch .dec T] [Touch .players T] [Touch .acts T] [Touch .engines T] [Touch .groups T] [Touch .traces T] [Touch .motion T] [Touch .girth T] [Touch .host T] [Touch .layout T] [Touch .mem T] [Touch .fab T] [Touch .coll T] [Touch .raised T] [Touch .outs T] [Touch .free T] (s : State) (p : Port) (hwf : Within T z s) :
    Within T z (resetNow s p) := by
  simp (maxDischargeDepth := 30) [resetNow, *]

@[simp] theorem controllerReset_frame [Touch .objs T] [Touch .power T] [Touch .dict T] [Touch .start T] [Touch .fw T] [Touch .media T] [Touch .chan T] [Touch .dec T] [Touch .players T] [Touch .acts T] [Touch .engines T] [Touch .groups T] [Touch .traces T] [Touch .motion T] [Touch .girth T] [Touch .host T] [Touch .layout T] [Touch .mem T] [Touch .fab T] [Touch .coll T] [Touch .raised T] [Touch .outs T] [Touch .free T] (s : State) (p : Port) (hwf : Within T z s) :
    Within T z (controllerReset s p) := by
  simp (maxDischargeDepth := 30) [controllerReset, *]

@[simp] theorem becomeReady_frame [Touch .host T] [Touch .free T] (s : State) (p : Port) (hwf : Within T z s) :
    Within T z (becomeReady s p) := by
  simp (maxDischargeDepth := 30) [becomeReady, *]

theorem execCcEnClear_frame [Touch .objs T] [Touch .power T] [Touch .dict T] [Touch .start T] [Touch .fw T] [Touch .media T] [Touch .chan T] [Touch .dec T] [Touch .players T] [Touch .acts T] [Touch .engines T] [Touch .groups T] [Touch .traces T] [Touch .motion T] [Touch .girth T] [Touch .host T] [Touch .layout T] [Touch .mem T] [Touch .fab T] [Touch .coll T] [Touch .raised T] [Touch .outs T] [Touch .free T] (p : Port) (s : State) (hwf : Within T z s) :
    outWithin T z (execCcEnClear p s) := by
  simp (maxDischargeDepth := 30) [execCcEnClear, *]

theorem execCcEnSet_frame [Touch .host T] [Touch .free T] (p : Port) (s : State) (hwf : Within T z s) :
    outWithin T z (execCcEnSet p s) := by
  simp (maxDischargeDepth := 30) [execCcEnSet, *]

theorem execFunctionLevelReset_frame [Touch .objs T] [Touch .power T] [Touch .dict T] [Touch .start T] [Touch .fw T] [Touch .media T] [Touch .chan T] [Touch .dec T] [Touch .players T] [Touch .acts T] [Touch .engines T] [Touch .groups T] [Touch .traces T] [Touch .motion T] [Touch .girth T] [Touch .host T] [Touch .layout T] [Touch .mem T] [Touch .fab T] [Touch .coll T] [Touch .raised T] [Touch .outs T] [Touch .free T] (p : Port) (s : State) (hwf : Within T z s) :
    outWithin T z (execFunctionLevelReset p s) := by
  simp (maxDischargeDepth := 30) [execFunctionLevelReset, *]

@[simp] theorem linkDown_frame [Touch .objs T] [Touch .host T] (s : State) (p : Port) (hwf : Within T z s) :
    Within T z (linkDown s p) := by
  simp (maxDischargeDepth := 30) [linkDown, *]

theorem execPcieLinkDown_frame [Touch .objs T] [Touch .power T] [Touch .dict T] [Touch .start T] [Touch .fw T] [Touch .media T] [Touch .chan T] [Touch .dec T] [Touch .players T] [Touch .acts T] [Touch .engines T] [Touch .groups T] [Touch .traces T] [Touch .motion T] [Touch .girth T] [Touch .host T] [Touch .layout T] [Touch .mem T] [Touch .fab T] [Touch .coll T] [Touch .raised T] [Touch .outs T] [Touch .free T] (p : Port) (s : State) (hwf : Within T z s) :
    outWithin T z (execPcieLinkDown p s) := by
  simp (maxDischargeDepth := 30) [execPcieLinkDown, *]

theorem execPerstAssert_frame [Touch .objs T] [Touch .power T] [Touch .dict T] [Touch .start T] [Touch .fw T] [Touch .media T] [Touch .chan T] [Touch .dec T] [Touch .players T] [Touch .acts T] [Touch .engines T] [Touch .groups T] [Touch .traces T] [Touch .motion T] [Touch .girth T] [Touch .host T] [Touch .layout T] [Touch .mem T] [Touch .fab T] [Touch .coll T] [Touch .raised T] [Touch .outs T] [Touch .free T] (p : Port) (s : State) (hwf : Within T z s) :
    outWithin T z (execPerstAssert p s) := by
  simp (maxDischargeDepth := 30) [execPerstAssert, *]

theorem execPerstDeassert_frame [Touch .host T] (p : Port) (s : State) (hwf : Within T z s) :
    outWithin T z (execPerstDeassert p s) := by
  simp (maxDischargeDepth := 30) [execPerstDeassert, *]

theorem execLinkTrainingDone_frame [Touch .objs T] [Touch .host T] (p : Port) (speed : ℕ) (width : ℕ) (s : State) (hwf : Within T z s) :
    outWithin T z (execLinkTrainingDone p speed width s) := by
  simp (maxDischargeDepth := 30) [execLinkTrainingDone, *]

theorem execNvmSubsystemReset_frame [Touch .objs T] [Touch .power T] [Touch .dict T] [Touch .start T] [Touch .fw T] [Touch .media T] [Touch .chan T] [Touch .dec T] [Touch .players T] [Touch .acts T] [Touch .engines T] [Touch .groups T] [Touch .traces T] [Touch .motion T] [Touch .girth T] [Touch .host T] [Touch .layout T] [Touch .mem T] [Touch .fab T] [Touch .coll T] [Touch .raised T] [Touch .outs T] [Touch .free T] (s : State) (hwf : Within T z s) :
    outWithin T z (execNvmSubsystemReset s) := by
  unfold execNvmSubsystemReset
  repeat' split
  all_goals simp_all (maxDischargeDepth := 30)

theorem execShutdownNormal_frame [Touch .objs T] [Touch .motion T] [Touch .host T] [Touch .coll T] [Touch .outs T] [Touch .free T] (p : Port) (s : State) (hwf : Within T z s) :
    outWithin T z (execShutdownNormal p s) := by
  simp (maxDischargeDepth := 30) [execShutdownNormal, *]

theorem execShutdownAbrupt_frame [Touch .objs T] [Touch .fw T] [Touch .motion T] [Touch .host T] [Touch .coll T] [Touch .outs T] [Touch .free T] (p : Port) (s : State) (hwf : Within T z s) :
    outWithin T z (execShutdownAbrupt p s) := by
  simp (maxDischargeDepth := 30) [execShutdownAbrupt, *]

end Sys2Proof.Machine
end

