-- ==== Sys2Proof/Laws/FrameStitch.lean ====
section
/-! SUPPORT. The parts of the state that every operation of Machine/Stitch.lean can change. -/

namespace Sys2Proof.Machine

variable {T : List Part} {z : State}

@[simp] theorem offerRebuilt_frame [Touch .media T] (s : State) (r : Run2) (m : StitchMap) (x : Subst) (g : ℕ) (offset : ℕ) (v : OffsetView) (hwf : Within T z s) :
    Within T z (offerRebuilt s r m x g offset v) := by
  simp only [offerRebuilt]
  refine State.each_frame hwf fun t j h => ?_
  repeat' split
  all_goals simp [h]

@[simp] theorem loseBlocks_frame [Touch .objs T] [Touch .host T] [Touch .layout T] [Touch .raised T] [Touch .outs T] [Touch .free T] (s : State) (r : Run2) (m : StitchMap) (g : ℕ) (offset : ℕ) (cause : ℕ) (members : List ℕ) (hwf : Within T z s) :
    Within T z (loseBlocks s r m g offset cause members) := by
  unfold loseBlocks
  repeat' split
  all_goals simp_all (maxDischargeDepth := 30)

@[simp] theorem mirrorRemap_frame [Touch .layout T] [Touch .outs T] (s : State) (k : ℕ) (hwf : Within T z s) :
    Within T z (mirrorRemap s k) := by
  simp (maxDischargeDepth := 30) [mirrorRemap, *]

@[simp] theorem makeStale_frame [Touch .layout T] [Touch .outs T] (s : State) (r : Run2) (m : StitchMap) (x : Subst) (g : ℕ) (j : ℕ) (hwf : Within T z s) :
    Within T z (makeStale s r m x g j) := by
  simp only [makeStale]
  split <;> simp (maxDischargeDepth := 30) [*]

@[simp] theorem relocate_frame [Touch .layout T] [Touch .raised T] [Touch .outs T] (s : State) (r : Run2) (m : StitchMap) (x : Subst) (g : ℕ) (j : ℕ) (hwf : Within T z s) :
    Within T z (relocate s r m x g j) := by
  simp only [relocate]
  split <;> simp (maxDischargeDepth := 30) [*]

@[simp] theorem scrubPoisoned_frame [Touch .objs T] [Touch .host T] [Touch .layout T] [Touch .mem T] [Touch .raised T] [Touch .outs T] [Touch .free T] (s : State) (r : Run2) (m : StitchMap) (e : ℕ × CacheSlot) (hwf : Within T z s) :
    Within T z (scrubPoisoned s r m e) := by
  simp (maxDischargeDepth := 30) [scrubPoisoned, *]

@[simp] theorem methodOf_frame [Touch .free T] (fill : Bool) (ks : List ℕ) (s : State) (hwf : Within T z s) :
    Within T z (methodOf fill ks s).2 := by
  simp only [methodOf]
  repeat' split
  all_goals simp (maxDischargeDepth := 30) [*]

theorem execDestageUpdate_frame [Touch .objs T] [Touch .host T] [Touch .layout T] [Touch .mem T] [Touch .raised T] [Touch .outs T] [Touch .free T] (stripe : ℕ) (reads : List OffsetReads) (s : State) (hwf : Within T z s) :
    outWithin T z (execDestageUpdate stripe reads s) := by
  unfold execDestageUpdate
  dsimp only
  split
  · exact hwf
  split
  · exact hwf
  split
  · simp [hwf]
  split
  · exact hwf
  · simp +contextual (maxDischargeDepth := 30) [hwf, *]

@[simp] theorem retireBlocks_frame [Touch .objs T] [Touch .host T] [Touch .layout T] [Touch .mem T] [Touch .outs T] [Touch .free T] (s : State) (r : Run2) (dbas : List (ℕ × ℕ)) (hwf : Within T z s) :
    Within T z (retireBlocks s r dbas) := by
  simp (maxDischargeDepth := 30) [retireBlocks, *]

@[simp] theorem settleDrain_frame [Touch .objs T] [Touch .power T] [Touch .dict T] [Touch .start T] [Touch .fw T] [Touch .media T] [Touch .chan T] [Touch .dec T] [Touch .players T] [Touch .acts T] [Touch .engines T] [Touch .groups T] [Touch .traces T] [Touch .motion T] [Touch .girth T] [Touch .host T] [Touch .layout T] [Touch .mem T] [Touch .fab T] [Touch .coll T] [Touch .raised T] [Touch .outs T] [Touch .free T] (s : State) (hwf : Within T z s) :
    Within T z (settleDrain s) := by
  simp (maxDischargeDepth := 30) [settleDrain, *]

theorem execStripeUpdateRetire_frame [Touch .objs T] [Touch .power T] [Touch .dict T] [Touch .start T] [Touch .fw T] [Touch .media T] [Touch .chan T] [Touch .dec T] [Touch .players T] [Touch .acts T] [Touch .engines T] [Touch .groups T] [Touch .traces T] [Touch .motion T] [Touch .girth T] [Touch .host T] [Touch .layout T] [Touch .mem T] [Touch .fab T] [Touch .coll T] [Touch .raised T] [Touch .outs T] [Touch .free T] (stripe : ℕ) (s : State) (hwf : Within T z s) :
    outWithin T z (execStripeUpdateRetire stripe s) := by
  simp only [execStripeUpdateRetire]
  split <;> simp (maxDischargeDepth := 30) [*]

@[simp] theorem saveJobs_frame [Touch .layout T] (s : State) (hwf : Within T z s) :
    Within T z (saveJobs s) := by
  simp (maxDischargeDepth := 30) [saveJobs, *]

theorem execWiMirrorPoint_frame [Touch .objs T] [Touch .layout T] [Touch .outs T] (s : State) (hwf : Within T z s) :
    outWithin T z (execWiMirrorPoint s) := by
  simp (maxDischargeDepth := 30) [execWiMirrorPoint, *]

@[simp] theorem raiseHead_frame [Touch .raised T] (s : State) (u : ℕ) (detail : optParam ℕ 0) (hwf : Within T z s) :
    Within T z (raiseHead s u detail) := by
  simp (maxDischargeDepth := 30) [raiseHead, *]

theorem execMirrorRetry_frame [Touch .media T] [Touch .layout T] [Touch .raised T] [Touch .outs T] (page : ℕ) (ok : Bool) (s : State) (hwf : Within T z s) :
    outWithin T z (execMirrorRetry page ok s) := by
  unfold execMirrorRetry
  repeat' split
  all_goals simp_all (maxDischargeDepth := 30)

@[simp] theorem countReplay_frame [Touch .objs T] (s : State) (hwf : Within T z s) :
    Within T z (countReplay s) := by
  simp (maxDischargeDepth := 30) [countReplay, *]

theorem execJournalReplay_frame [Touch .objs T] [Touch .power T] [Touch .dict T] [Touch .start T] [Touch .fw T] [Touch .media T] [Touch .chan T] [Touch .dec T] [Touch .players T] [Touch .acts T] [Touch .engines T] [Touch .groups T] [Touch .traces T] [Touch .motion T] [Touch .girth T] [Touch .host T] [Touch .layout T] [Touch .mem T] [Touch .fab T] [Touch .coll T] [Touch .raised T] [Touch .outs T] [Touch .free T] (seq : ℕ) (s : State) (hwf : Within T z s) :
    outWithin T z (execJournalReplay seq s) := by
  simp only [execJournalReplay]
  repeat' split
  all_goals simp (maxDischargeDepth := 30) [*]

@[simp] theorem resyncStripe_frame [Touch .objs T] [Touch .media T] [Touch .host T] [Touch .layout T] [Touch .raised T] [Touch .outs T] [Touch .free T] (s : State) (g : ℕ) (reads : List OffsetReads) (hwf : Within T z s) :
    Within T z (resyncStripe s g reads) := by
  unfold resyncStripe
  repeat' split
  all_goals simp_all (maxDischargeDepth := 30)

theorem execResyncGroup_frame [Touch .objs T] [Touch .media T] [Touch .host T] [Touch .layout T] [Touch .raised T] [Touch .outs T] [Touch .free T] (group : ℕ) (reads : List (ℕ × OffsetReads)) (s : State) (hwf : Within T z s) :
    outWithin T z (execResyncGroup group reads s) := by
  unfold execResyncGroup
  repeat' split
  all_goals simp_all (maxDischargeDepth := 30)

end Sys2Proof.Machine
end

