-- ==== Sys2Proof/Laws/FrameRebuild.lean ====
section
/-! SUPPORT. The parts of the state that every operation of Machine/Rebuild.lean can change. -/

namespace Sys2Proof.Machine

variable {T : List Part} {z : State}

@[simp] theorem recordRetirement_frame [Touch .objs T] [Touch .dict T] (s : State) (id : ℕ) (hwf : Within T z s) :
    Within T z (recordRetirement s id) := by
  simp (maxDischargeDepth := 30) [recordRetirement, *]

@[simp] theorem settleHolders_frame [Touch .media T] (s : State) (hwf : Within T z s) :
    Within T z (settleHolders s) := by
  simp only [settleHolders]
  split <;> simp (maxDischargeDepth := 30) [*]

theorem execHolderMoveDone_frame [Touch .fw T] [Touch .media T] [Touch .outs T] (holder : Fin 2) (surface : Fin 48) (s : State) (hwf : Within T z s) :
    outWithin T z (execHolderMoveDone holder surface s) := by
  simp (maxDischargeDepth := 30) [execHolderMoveDone, *]

@[simp] theorem settleJob_frame [Touch .objs T] [Touch .layout T] (s : State) (j : Job) (hwf : Within T z s) :
    Within T z (settleJob s j) := by
  simp only [settleJob]
  split <;> simp (maxDischargeDepth := 30) [*]

@[simp] theorem settleJobs_frame [Touch .objs T] [Touch .layout T] (s : State) (hwf : Within T z s) :
    Within T z (settleJobs s) := by
  unfold settleJobs
  repeat' split
  all_goals simp_all (maxDischargeDepth := 30)

@[simp] theorem dropStale_frame [Touch .layout T] (s : State) (u : ℕ) (hwf : Within T z s) :
    Within T z (dropStale s u) := by
  simp (maxDischargeDepth := 30) [dropStale, *]

@[simp] theorem moveEntries_frame [Touch .layout T] [Touch .raised T] [Touch .outs T] (s : State) (u : Nat) (h : Within T z s) : Within T z (moveEntries s u) := by
  unfold moveEntries
  refine State.each_frame (by simp (maxDischargeDepth := 30) [*]) fun t x ht => ?_
  repeat' first | (simp +contextual (maxDischargeDepth := 30) [*]; done) | split

@[simp] theorem retireSurfaceNow_frame [Touch .objs T] [Touch .dict T] [Touch .media T] [Touch .layout T] [Touch .raised T] [Touch .outs T] (s : State) (u : ℕ) (hwf : Within T z s) :
    Within T z (retireSurfaceNow s u) := by
  simp (maxDischargeDepth := 30) [retireSurfaceNow, *]

@[simp] theorem retireSurfaceAsk_frame [Touch .objs T] [Touch .dict T] [Touch .media T] [Touch .layout T] [Touch .raised T] [Touch .outs T] (s : State) (u : ℕ) (hwf : Within T z s) :
    Within T z (retireSurfaceAsk s u).2 := by
  simp only [retireSurfaceAsk]
  repeat' split
  all_goals simp (maxDischargeDepth := 30) [*]

@[simp] theorem innerUpdate_frame [Touch .objs T] [Touch .layout T] [Touch .outs T] (s : State) (g : ℕ) (hwf : Within T z s) :
    Within T z (innerUpdate s g) := by
  simp (maxDischargeDepth := 30) [innerUpdate, *]

@[simp] theorem rebuildOffset_frame [Touch .objs T] [Touch .media T] [Touch .host T] [Touch .layout T] [Touch .raised T] [Touch .outs T] [Touch .free T] (s : State) (r : Run2) (m : StitchMap) (x : Subst) (g : ℕ) (cause : ℕ) (o : OffsetReads) (hwf : Within T z s) :
    Within T z (rebuildOffset s r m x g cause o) := by
  simp (maxDischargeDepth := 30) [rebuildOffset, *]

@[simp] theorem fillMember_frame [Touch .objs T] [Touch .layout T] [Touch .free T] (s : State) (r : Run2) (m : StitchMap) (x : Subst) (g : ℕ) (j : ℕ) (hwf : Within T z s) :
    Within T z (fillMember s r m x g j) := by
  simp only [fillMember]
  repeat' split
  all_goals simp (maxDischargeDepth := 30) [*]

@[simp] theorem settleStaleAll_frame [Touch .layout T] (s : State) (hwf : Within T z s) :
    Within T z (settleStaleAll s) := by
  unfold settleStaleAll
  repeat' split
  all_goals simp_all (maxDischargeDepth := 30)

@[simp] theorem skipGens_frame [Touch .objs T] (s : State) (n : ℕ) (hwf : Within T z s) :
    Within T z (skipGens s n) := by
  simp (maxDischargeDepth := 30) [skipGens, *]

theorem execRebuildStripe_frame [Touch .objs T] [Touch .media T] [Touch .host T] [Touch .layout T] [Touch .raised T] [Touch .outs T] [Touch .free T] (stripe : ℕ) (reads : List OffsetReads) (s : State) (hwf : Within T z s) :
    outWithin T z (execRebuildStripe stripe reads s) := by
  unfold execRebuildStripe
  dsimp only
  split
  · exact hwf
  rename_i r _
  split
  · exact hwf
  split
  · simp [hwf]
  have key : Within T z (List.foldl (fun s_1 o => match readOf reads o with
        | some rd => rebuildOffset s_1 r (r.map s) (substOf s (r.map s)) stripe 1 rd
        | none => s_1) s (List.range 64)) := foldl_frame hwf fun t o ht => by split <;> simp [ht]
  exact settleJobs_frame _ (settleStaleAll_frame _ (State.setLayout_frame _ _ (skipGens_frame _ _ (State.each_frame key fun t j ht => fillMember_frame _ _ _ _ _ _ ht))))

theorem execRebuildCheckpoint_frame [Touch .layout T] (s : State) (hwf : Within T z s) :
    outWithin T z (execRebuildCheckpoint s) := by
  simp (maxDischargeDepth := 30) [execRebuildCheckpoint, *]

@[simp] theorem suspect_frame [Touch .objs T] [Touch .layout T] [Touch .raised T] (s : State) (g : ℕ) (hwf : Within T z s) :
    Within T z (suspect s g) := by
  simp (maxDischargeDepth := 30) [suspect, *]

@[simp] theorem patrolRepair_frame [Touch .objs T] [Touch .layout T] [Touch .outs T] [Touch .free T] (s : State) (g : ℕ) (hwf : Within T z s) :
    Within T z (patrolRepair s g) := by
  simp (maxDischargeDepth := 30) [patrolRepair, *]

@[simp] theorem patrolOffset_frame [Touch .objs T] [Touch .media T] [Touch .host T] [Touch .layout T] [Touch .raised T] [Touch .outs T] [Touch .free T] (s : State) (r : Run2) (m : StitchMap) (x : Subst) (g : ℕ) (o : OffsetReads) (hwf : Within T z s) :
    Within T z (patrolOffset s r m x g o).1 := by
  simp only [patrolOffset]
  repeat' split
  all_goals simp (maxDischargeDepth := 30) [*]

theorem execPatrolStripe_frame [Touch .objs T] [Touch .media T] [Touch .host T] [Touch .layout T] [Touch .raised T] [Touch .outs T] [Touch .free T] (stripe : ℕ) (reads : List OffsetReads) (s : State) (hwf : Within T z s) :
    outWithin T z (execPatrolStripe stripe reads s) := by
  unfold execPatrolStripe
  dsimp only
  split
  · exact hwf
  split
  · exact hwf
  have tail : ∀ acc : State × Bool, Within T z acc.1 → ∀ k u : State → State, (∀ t : State, Within T z t → Within T z (k t)) →
      (∀ t : State, Within T z t → Within T z (u t)) →
      Within T z (layoutChanged (if (patrolTarget (k (if acc.2 then u acc.1 else acc.1))).isNone = true then
        (k (if acc.2 then u acc.1 else acc.1)).setNum Obj.patrolNext 0 else k (if acc.2 then u acc.1 else acc.1))) :=
    fun acc h k u hk hu => by
      have h1 : Within T z (k (if acc.2 then u acc.1 else acc.1)) := hk _ (by split <;> simp [hu, h])
      generalize k (if acc.2 then u acc.1 else acc.1) = y at h1 ⊢
      split <;> simp [h1]
  exact tail _ (foldl_fst_frame (by split <;> simp [hwf]) fun y o hy => by split <;> simp [hy]) (·.setNum Obj.patrolNext (stripe + 1))
    (suspect · stripe) (by simp +contextual) (by simp +contextual)

@[simp] theorem reshapeAsk_frame [Touch .objs T] [Touch .host T] [Touch .layout T] [Touch .mem T] [Touch .outs T] [Touch .free T] (s : State) (value : List Byte) (hwf : Within T z s) :
    Within T z (reshapeAsk s value).2 := by
  simp only [reshapeAsk]
  repeat' split
  all_goals simp (maxDischargeDepth := 30) [*]

@[simp] theorem awaitSwitch_frame [Touch .objs T] [Touch .layout T] (s : State) (rs : Reshape) (hwf : Within T z s) :
    Within T z (awaitSwitch s rs) := by
  simp (maxDischargeDepth := 30) [awaitSwitch, *]

@[simp] theorem copyStripe_frame [Touch .objs T] [Touch .layout T] [Touch .outs T] (r : Run2) (m : StitchMap) (s : State) (g : ℕ) (hwf : Within T z s) :
    Within T z (copyStripe r m s g) := by
  unfold copyStripe
  repeat' split
  all_goals simp_all (maxDischargeDepth := 30)

theorem execReshapeGroupCopy_frame [Touch .objs T] [Touch .layout T] [Touch .outs T] (s : State) (hwf : Within T z s) :
    outWithin T z (execReshapeGroupCopy s) := by
  unfold execReshapeGroupCopy
  repeat' split
  all_goals simp_all (maxDischargeDepth := 30)

theorem execReshapeSwitch_frame [Touch .objs T] [Touch .power T] [Touch .dict T] [Touch .start T] [Touch .fw T] [Touch .media T] [Touch .chan T] [Touch .dec T] [Touch .players T] [Touch .acts T] [Touch .engines T] [Touch .groups T] [Touch .traces T] [Touch .motion T] [Touch .girth T] [Touch .host T] [Touch .layout T] [Touch .mem T] [Touch .fab T] [Touch .coll T] [Touch .raised T] [Touch .outs T] [Touch .free T] (s : State) (hwf : Within T z s) :
    outWithin T z (execReshapeSwitch s) := by
  simp only [execReshapeSwitch]
  repeat' split
  all_goals simp (maxDischargeDepth := 30) [*]

@[simp] theorem relocateChunk_frame [Touch .layout T] [Touch .raised T] [Touch .outs T] (s : State) (c : Run2 × ℕ × ℕ) (hwf : Within T z s) :
    Within T z (relocateChunk s c) := by
  simp (maxDischargeDepth := 30) [relocateChunk, *]

@[simp] theorem makeGrown_frame [Touch .media T] [Touch .raised T] (s : State) (u : ℕ) (d : Defect) (hwf : Within T z s) :
    optWithin T z (makeGrown s u d) := by
  simp only [makeGrown]
  split <;> simp (maxDischargeDepth := 30) [*]

@[simp] theorem settleTrack_frame [Touch .media T] [Touch .layout T] [Touch .raised T] [Touch .outs T] (s : State) (u : Nat) (zn : Zone) (track : Nat) (h : Within T z s) : Within T z (settleTrack s u zn track) := by
  simp only [settleTrack]
  split
  · exact h
  · refine State.each_frame (getD_frame _ _ (makeGrown_frame _ _ _ h) (by simp [h])) fun t row ht => ?_
    split <;> simp [ht]

@[simp] theorem relocateSector_frame [Touch .objs T] [Touch .layout T] [Touch .raised T] [Touch .outs T] (s : State) (u : ℕ) (track : ℕ) (p : ℕ) (hwf : Within T z s) :
    Within T z (relocateSector s u track p) := by
  simp only [relocateSector]
  split <;> simp (maxDischargeDepth := 30) [*]

theorem execGrownDefectReadback_frame [Touch .objs T] [Touch .media T] [Touch .layout T] [Touch .raised T] [Touch .outs T] [Touch .free T] (surface : Fin 48) (track : ℕ) (psector : ℕ) (converged : Bool) (taBoth : Bool) (freezeOffset : ℕ) (freezeLen : ℕ) (s : State) (hwf : Within T z s) :
    outWithin T z (execGrownDefectReadback surface track psector converged taBoth freezeOffset freezeLen s) := by
  simp only [execGrownDefectReadback]
  repeat' split
  all_goals simp (maxDischargeDepth := 30) [hwf]

theorem execGrownEntryCommit_frame [Touch .objs T] [Touch .media T] [Touch .layout T] [Touch .raised T] [Touch .outs T] (surface : Fin 48) (entry : List Byte) (s : State) (hwf : Within T z s) :
    outWithin T z (execGrownEntryCommit surface entry s) := by
  simp only [execGrownEntryCommit]
  repeat' split
  all_goals simp (maxDischargeDepth := 30) [*]

@[simp] theorem closeStatus_frame [Touch .mem T] (s : State) (status : ℕ) (step : ℕ) (result : Option ℕ) (hwf : Within T z s) :
    Within T z (closeStatus s status step result) := by
  simp (maxDischargeDepth := 30) [closeStatus, *]

@[simp] theorem climbRecovered_frame [Touch .objs T] [Touch .media T] [Touch .mem T] [Touch .free T] (s : State) (u : ℕ) (track : ℕ) (p : ℕ) (status : ℕ) (c : Climb) (hwf : Within T z s) :
    Within T z (climbRecovered s u track p status c) := by
  simp (maxDischargeDepth := 30) [climbRecovered, *]

@[simp] theorem stripeWaits_frame [Touch .layout T] (s : State) (u : ℕ) (track : ℕ) (p : ℕ) (hwf : Within T z s) :
    optWithin T z (stripeWaits s u track p) := by
  simp only [stripeWaits]
  repeat' split
  all_goals simp (maxDischargeDepth := 30) [*]

theorem execLadderStepAdvance_frame [Touch .objs T] [Touch .media T] [Touch .dec T] [Touch .layout T] [Touch .mem T] [Touch .raised T] [Touch .free T] (surface : Fin 48) (track : ℕ) (psector : ℕ) (top : ℕ) (status : ℕ) (outcome : StepOutcome) (s : State) (hwf : Within T z s) :
    outWithin T z (execLadderStepAdvance surface track psector top status outcome s) := by
  unfold execLadderStepAdvance
  dsimp only
  split
  · next t e =>
    split at e
    · have := stripeWaits_frame s surface.val track psector hwf
      rw [e] at this
      exact this
    · cases e
  · repeat' split
    all_goals simp (maxDischargeDepth := 30) [*]

end Sys2Proof.Machine
end

