-- ==== Sys2Proof/Laws/FrameDma.lean ====
section
/-! SUPPORT. The parts of the state that every operation of Machine/Dma.lean can change. -/

namespace Sys2Proof.Machine

variable {T : List Part} {z : State}

@[simp] theorem State.setFab_frame [Touch .fab T] (s : State) (f : Fabric) (hwf : Within T z s) :
    Within T z (State.setFab s f) := by
  simp (maxDischargeDepth := 30) [State.setFab, *]

@[simp] theorem State.modDma_frame [Touch .fab T] (s : State) (ch : ℕ) (f : DmaCh → DmaCh) (hwf : Within T z s) :
    Within T z (State.modDma s ch f) := by
  simp (maxDischargeDepth := 30) [State.modDma, *]

@[simp] theorem dmaBlock_frame [Touch .objs T] [Touch .mem T] [Touch .fab T] [Touch .free T] (s : State) (ch : ℕ) (hwf : Within T z s) :
    Within T z (dmaBlock s ch) := by
  simp (maxDischargeDepth := 30) [dmaBlock, *]

@[simp] theorem dmaBlocks_frame [Touch .objs T] [Touch .mem T] [Touch .fab T] [Touch .free T] (ch fuel : Nat) (s : State) (h : Within T z s) : Within T z (dmaBlocks ch fuel s) := by
  induction fuel generalizing s with
  | zero => simpa [dmaBlocks] using h
  | succ n ih =>
    simp only [dmaBlocks]
    repeat' first | (simp +contextual (maxDischargeDepth := 30) [*]; done) | split

@[simp] theorem dmaTo_frame [Touch .objs T] [Touch .mem T] [Touch .fab T] [Touch .free T] (s : State) (ch : ℕ) (bytes : ℕ) (hwf : Within T z s) :
    Within T z (dmaTo s ch bytes) := by
  simp (maxDischargeDepth := 30) [dmaTo, *]

@[simp] theorem dmaNotify_frame [Touch .objs T] (s : State) (ch : ℕ) (ctrl : ℕ) (code : ℕ) (hwf : Within T z s) :
    Within T z (dmaNotify s ch ctrl code) := by
  simp (maxDischargeDepth := 30) [dmaNotify, *]

@[simp] theorem settleDma_frame [Touch .objs T] (s : State) (ch : ℕ) (hwf : Within T z s) :
    Within T z (settleDma s ch) := by
  simp (maxDischargeDepth := 30) [settleDma, *]

@[simp] theorem dmaIdle_frame [Touch .objs T] [Touch .fab T] (s : State) (ch : ℕ) (word : ℕ) (hwf : Within T z s) :
    Within T z (dmaIdle s ch word) := by
  simp (maxDischargeDepth := 30) [dmaIdle, *]

@[simp] theorem dmaEnd_frame [Touch .objs T] [Touch .mem T] [Touch .fab T] [Touch .free T] (s : State) (ch : ℕ) (code : ℕ) (indet : ℕ) (hwf : Within T z s) :
    Within T z (dmaEnd s ch code indet) := by
  simp (maxDischargeDepth := 30) [dmaEnd, *]

@[simp] theorem dmaStart_frame [Touch .objs T] [Touch .mem T] [Touch .fab T] [Touch .free T] (s : State) (ch : ℕ) (chain : Bool) (desc : ℕ) (src : ℕ) (dst : ℕ) (next : ℕ) (count : ℕ) (ctrl : ℕ) (hwf : Within T z s) :
    Within T z (dmaStart s ch chain desc src dst next count ctrl) := by
  simp only [dmaStart]
  split <;> simp (maxDischargeDepth := 30) [*]

@[simp] theorem dmaCtrl_frame [Touch .objs T] [Touch .mem T] [Touch .fab T] [Touch .free T] (s : State) (ch : ℕ) (v : ℕ) (hwf : Within T z s) :
    Within T z (dmaCtrl s ch v) := by
  simp (maxDischargeDepth := 30) [dmaCtrl, *]

@[simp] theorem dmaDisable_frame [Touch .objs T] [Touch .fab T] (s : State) (ch : ℕ) (hwf : Within T z s) :
    Within T z (dmaDisable s ch) := by
  simp (maxDischargeDepth := 30) [dmaDisable, *]

@[simp] theorem dmaFence_frame [Touch .objs T] [Touch .fab T] (s : State) (ch : ℕ) (hwf : Within T z s) :
    Within T z (dmaFence s ch) := by
  simp (maxDischargeDepth := 30) [dmaFence, *]

theorem execDmaDescriptorFetched_frame [Touch .objs T] [Touch .mem T] [Touch .fab T] [Touch .free T] (ch : Fin 8) (ok : Bool) (s : State) (hwf : Within T z s) :
    outWithin T z (execDmaDescriptorFetched ch ok s) := by
  simp (maxDischargeDepth := 30) [execDmaDescriptorFetched, *]

theorem execDmaBeatsAcknowledged_frame [Touch .objs T] [Touch .mem T] [Touch .fab T] [Touch .free T] (ch : Fin 8) (s : State) (hwf : Within T z s) :
    outWithin T z (execDmaBeatsAcknowledged ch s) := by
  simp (maxDischargeDepth := 30) [execDmaBeatsAcknowledged, *]

theorem execDmaReadbackDone_frame [Touch .objs T] [Touch .mem T] [Touch .fab T] [Touch .free T] (ch : Fin 8) (s : State) (hwf : Within T z s) :
    outWithin T z (execDmaReadbackDone ch s) := by
  simp (maxDischargeDepth := 30) [execDmaReadbackDone, *]

theorem execDmaBeatError_frame [Touch .objs T] [Touch .mem T] [Touch .fab T] [Touch .free T] (ch : Fin 8) (kind : BeatError) (doneBytes : ℕ) (indet : ℕ) (s : State) (hwf : Within T z s) :
    outWithin T z (execDmaBeatError ch kind doneBytes indet s) := by
  simp (maxDischargeDepth := 30) [execDmaBeatError, *]

@[simp] theorem lanesGone_frame [Touch .objs T] [Touch .chan T] [Touch .dec T] [Touch .players T] [Touch .acts T] [Touch .traces T] [Touch .layout T] [Touch .mem T] [Touch .raised T] [Touch .outs T] [Touch .free T] (s : State) (lane : ℕ) (hwf : Within T z s) :
    Within T z (lanesGone s lane) := by
  simp (maxDischargeDepth := 30) [lanesGone, *]

@[simp] theorem laneStop_frame [Touch .objs T] [Touch .chan T] [Touch .dec T] [Touch .players T] [Touch .acts T] [Touch .traces T] [Touch .layout T] [Touch .mem T] [Touch .raised T] [Touch .outs T] [Touch .free T] (s : State) (lane : ℕ) (hwf : Within T z s) :
    Within T z (laneStop s lane) := by
  simp (maxDischargeDepth := 30) [laneStop, *]

@[simp] theorem laneRetire_frame [Touch .objs T] [Touch .dict T] [Touch .chan T] [Touch .dec T] [Touch .players T] [Touch .acts T] [Touch .traces T] [Touch .layout T] [Touch .mem T] [Touch .fab T] [Touch .raised T] [Touch .outs T] [Touch .free T] (s : State) (lane : ℕ) (hwf : Within T z s) :
    Within T z (laneRetire s lane) := by
  simp (maxDischargeDepth := 30) [laneRetire, *]

theorem execFabricNak_frame [Touch .objs T] [Touch .dict T] [Touch .chan T] [Touch .dec T] [Touch .players T] [Touch .acts T] [Touch .traces T] [Touch .layout T] [Touch .mem T] [Touch .fab T] [Touch .raised T] [Touch .outs T] [Touch .free T] (lane : Fin 32) (requester : Fin 28) (s : State) (hwf : Within T z s) :
    outWithin T z (execFabricNak lane requester s) := by
  simp only [execFabricNak]
  repeat' split
  all_goals simp (maxDischargeDepth := 30) [*]

theorem execFabricAck_frame [Touch .objs T] [Touch .mem T] [Touch .fab T] [Touch .free T] (lane : Fin 32) (requester : Fin 28) (beats : ℕ) (s : State) (hwf : Within T z s) :
    outWithin T z (execFabricAck lane requester beats s) := by
  simp only [execFabricAck]
  split <;> simp (maxDischargeDepth := 30) [*]

@[simp] theorem fillTokens_frame [Touch .fab T] (s : State) (hwf : Within T z s) :
    Within T z (fillTokens s) := by
  simp (maxDischargeDepth := 30) [fillTokens, *]

@[simp] theorem reservedNext_frame [Touch .free T] (s : State) (l : List Beat) (hwf : Within T z s) :
    Within T z (reservedNext s l).2 := by
  simp only [reservedNext]
  split <;> simp (maxDischargeDepth := 30) [*]

@[simp] theorem enterRegion_frame [Touch .fab T] (s : State) (l : List Beat) (r : ℕ) (hwf : Within T z s) :
    Within T z (enterRegion s l r) := by
  simp (maxDischargeDepth := 30) [enterRegion, *]

@[simp] theorem pickRegion_frame [Touch .fab T] (l : List Beat) (fuel : Nat) (s : State) (h : Within T z s) : Within T z (pickRegion l fuel s) := by
  induction fuel generalizing s with
  | zero => simpa [pickRegion] using h
  | succ n ih =>
    simp only [pickRegion]
    repeat' first | (simp +contextual (maxDischargeDepth := 30) [*]; done) | split

@[simp] theorem pickRequester_frame [Touch .fab T] (s : State) (l : List Beat) (hwf : Within T z s) :
    Within T z (pickRequester s l).2 := by
  simp only [pickRequester]
  repeat' split
  all_goals simp (maxDischargeDepth := 30) [*]

@[simp] theorem serveBeat_frame [Touch .objs T] [Touch .dict T] [Touch .mem T] [Touch .raised T] [Touch .free T] (s : State) (b : Beat) (hwf : Within T z s) :
    Within T z (serveBeat s b) := by
  simp only [serveBeat]
  split <;> simp (maxDischargeDepth := 30) [*]

theorem execArbiterGrant_frame [Touch .objs T] [Touch .dict T] [Touch .mem T] [Touch .fab T] [Touch .raised T] [Touch .free T] (waiting : List Beat) (s : State) (hwf : Within T z s) :
    outWithin T z (execArbiterGrant waiting s) := by
  unfold execArbiterGrant
  dsimp only
  split
  · simpa
  · have hs : Within T z (fillTokens s) := fillTokens_frame s hwf
    generalize List.filter (beatReady s) waiting = l
    generalize fillTokens s = s at hs ⊢
    split
    next b t e =>
      have ht := reservedNext_frame s l hs
      rw [e] at ht
      simp (maxDischargeDepth := 30) [*]
    next t e =>
      have ht := reservedNext_frame s l hs
      rw [e] at ht
      have hp := pickRegion_frame l 16 t ht
      generalize pickRegion l 16 t = p at hp ⊢
      have hq := pickRequester_frame p l hp
      generalize pickRequester p l = q at hq ⊢
      split
      · split <;> simp (maxDischargeDepth := 30) [*]
      · simpa

end Sys2Proof.Machine
end

