-- ==== Sys2Proof/Laws/FrameCollector.lean ====
section
/-! SUPPORT. The parts of the state that every operation of Machine/Collector.lean can change. -/

namespace Sys2Proof.Machine

variable {T : List Part} {z : State}

@[simp] theorem settleRates_frame [Touch .objs T] (s : State) (hwf : Within T z s) :
    Within T z (settleRates s) := by
  simp (maxDischargeDepth := 30) [settleRates, *]

@[simp] theorem stopPlayer_frame [Touch .objs T] [Touch .chan T] [Touch .dec T] [Touch .players T] [Touch .acts T] [Touch .traces T] [Touch .layout T] [Touch .mem T] [Touch .raised T] [Touch .outs T] [Touch .free T] (s : State) (p : ℕ) (st : ℕ) (hwf : Within T z s) :
    Within T z (stopPlayer s p st) := by
  simp only [stopPlayer]
  split <;> simp (maxDischargeDepth := 30) [*]

@[simp] theorem blockFence_frame [Touch .objs T] [Touch .power T] [Touch .dict T] [Touch .start T] [Touch .fw T] [Touch .media T] [Touch .chan T] [Touch .dec T] [Touch .players T] [Touch .acts T] [Touch .engines T] [Touch .groups T] [Touch .traces T] [Touch .motion T] [Touch .girth T] [Touch .host T] [Touch .layout T] [Touch .mem T] [Touch .fab T] [Touch .coll T] [Touch .raised T] [Touch .outs T] [Touch .free T] (s : State) (id : ℕ) (hwf : Within T z s) :
    Within T z (blockFence s id) := by
  simp (maxDischargeDepth := 30) [blockFence, *]

@[simp] theorem stopUnit_frame [Touch .objs T] [Touch .power T] [Touch .dict T] [Touch .start T] [Touch .fw T] [Touch .media T] [Touch .chan T] [Touch .dec T] [Touch .players T] [Touch .acts T] [Touch .engines T] [Touch .groups T] [Touch .traces T] [Touch .motion T] [Touch .girth T] [Touch .host T] [Touch .layout T] [Touch .mem T] [Touch .fab T] [Touch .coll T] [Touch .raised T] [Touch .outs T] [Touch .free T] (s : State) (o : Owner) (st : ℕ) (hwf : Within T z s) :
    Within T z (stopUnit s o st) := by
  simp only [stopUnit]
  split <;> simp (maxDischargeDepth := 30) [*]

@[simp] theorem fenceUnit_frame [Touch .objs T] [Touch .power T] [Touch .dict T] [Touch .start T] [Touch .fw T] [Touch .media T] [Touch .chan T] [Touch .dec T] [Touch .players T] [Touch .acts T] [Touch .engines T] [Touch .groups T] [Touch .traces T] [Touch .motion T] [Touch .girth T] [Touch .host T] [Touch .layout T] [Touch .mem T] [Touch .fab T] [Touch .coll T] [Touch .raised T] [Touch .outs T] [Touch .free T] (s : State) (id : ℕ) (o : Owner) (hwf : Within T z s) :
    Within T z (fenceUnit s id o) := by
  simp only [fenceUnit]
  repeat' split
  all_goals simp (maxDischargeDepth := 30) [*]

@[simp] theorem degradeUnit_frame [Touch .objs T] [Touch .power T] [Touch .dict T] [Touch .start T] [Touch .fw T] [Touch .media T] [Touch .chan T] [Touch .dec T] [Touch .players T] [Touch .acts T] [Touch .engines T] [Touch .groups T] [Touch .traces T] [Touch .motion T] [Touch .girth T] [Touch .host T] [Touch .layout T] [Touch .mem T] [Touch .fab T] [Touch .coll T] [Touch .raised T] [Touch .outs T] [Touch .free T] (s : State) (id : ℕ) (o : Owner) (hwf : Within T z s) :
    Within T z (degradeUnit s id o) := by
  simp (maxDischargeDepth := 30) [degradeUnit, *]

@[simp] theorem retireUnit_frame [Touch .objs T] [Touch .power T] [Touch .dict T] [Touch .start T] [Touch .fw T] [Touch .media T] [Touch .chan T] [Touch .dec T] [Touch .players T] [Touch .acts T] [Touch .engines T] [Touch .groups T] [Touch .traces T] [Touch .motion T] [Touch .girth T] [Touch .host T] [Touch .layout T] [Touch .mem T] [Touch .fab T] [Touch .coll T] [Touch .raised T] [Touch .outs T] [Touch .free T] (s : State) (id : ℕ) (o : Owner) (hwf : Within T z s) :
    Within T z (retireUnit s id o) := by
  unfold retireUnit
  repeat' split
  all_goals simp_all (maxDischargeDepth := 30)

@[simp] theorem repairRow_frame [Touch .start T] (s : State) (o : Owner) (row : ℕ) (hwf : Within T z s) :
    Within T z (repairRow s o row) := by
  simp only [repairRow]
  split <;> simp (maxDischargeDepth := 30) [*]

@[simp] theorem applyAction_frame [Touch .objs T] [Touch .power T] [Touch .dict T] [Touch .start T] [Touch .fw T] [Touch .media T] [Touch .chan T] [Touch .dec T] [Touch .players T] [Touch .acts T] [Touch .engines T] [Touch .groups T] [Touch .traces T] [Touch .motion T] [Touch .girth T] [Touch .host T] [Touch .layout T] [Touch .mem T] [Touch .fab T] [Touch .coll T] [Touch .raised T] [Touch .outs T] [Touch .free T] (s : State) (ev : Event) (action : ℕ) (hwf : Within T z s) :
    Within T z (applyAction s ev action) := by
  simp (maxDischargeDepth := 30) [applyAction, *]

@[simp] theorem railSeen_frame [Touch .objs T] (s : State) (ev : Event) (hwf : Within T z s) :
    Within T z (railSeen s ev) := by
  simp (maxDischargeDepth := 30) [railSeen, *]

@[simp] theorem collect_frame [Touch .objs T] [Touch .power T] [Touch .dict T] [Touch .start T] [Touch .fw T] [Touch .media T] [Touch .chan T] [Touch .dec T] [Touch .players T] [Touch .acts T] [Touch .engines T] [Touch .groups T] [Touch .traces T] [Touch .motion T] [Touch .girth T] [Touch .host T] [Touch .layout T] [Touch .mem T] [Touch .fab T] [Touch .coll T] [Touch .raised T] [Touch .outs T] [Touch .free T] (s : State) (ev : Event) (hwf : Within T z s) :
    Within T z (collect s ev) := by
  simp (maxDischargeDepth := 30) [collect, *]

theorem execCollectorEvent_frame [Touch .objs T] [Touch .power T] [Touch .dict T] [Touch .start T] [Touch .fw T] [Touch .media T] [Touch .chan T] [Touch .dec T] [Touch .players T] [Touch .acts T] [Touch .engines T] [Touch .groups T] [Touch .traces T] [Touch .motion T] [Touch .girth T] [Touch .host T] [Touch .layout T] [Touch .mem T] [Touch .fab T] [Touch .coll T] [Touch .raised T] [Touch .outs T] [Touch .free T] (ev : Event) (s : State) (hwf : Within T z s) :
    outWithin T z (execCollectorEvent ev s) := by
  simp (maxDischargeDepth := 30) [execCollectorEvent, *]

@[simp] theorem readmitted_frame [Touch .objs T] [Touch .dec T] [Touch .girth T] [Touch .host T] [Touch .layout T] [Touch .coll T] [Touch .free T] (s : State) (o : Owner) (hwf : Within T z s) :
    Within T z (readmitted s o) := by
  simp only [readmitted]
  repeat' split
  all_goals simp (maxDischargeDepth := 30) [*]

theorem execUnitReadmit_frame [Touch .objs T] [Touch .dec T] [Touch .girth T] [Touch .host T] [Touch .layout T] [Touch .coll T] [Touch .free T] (source : ℕ) (s : State) (hwf : Within T z s) :
    outWithin T z (execUnitReadmit source s) := by
  simp (maxDischargeDepth := 30) [execUnitReadmit, *]

theorem execSafeRestartTimeout_frame [Touch .objs T] [Touch .power T] [Touch .start T] [Touch .chan T] [Touch .dec T] [Touch .players T] [Touch .acts T] [Touch .traces T] [Touch .motion T] [Touch .host T] [Touch .mem T] [Touch .raised T] [Touch .outs T] [Touch .free T] (s : State) (hwf : Within T z s) :
    outWithin T z (execSafeRestartTimeout s) := by
  simp (maxDischargeDepth := 30) [execSafeRestartTimeout, *]

theorem execSafeEntriesExpire_frame [Touch .objs T] (s : State) (hwf : Within T z s) :
    outWithin T z (execSafeEntriesExpire s) := by
  simp (maxDischargeDepth := 30) [execSafeEntriesExpire, *]

theorem execCoreWatchdog_frame [Touch .objs T] [Touch .power T] [Touch .dict T] [Touch .start T] [Touch .fw T] [Touch .media T] [Touch .chan T] [Touch .dec T] [Touch .players T] [Touch .acts T] [Touch .engines T] [Touch .groups T] [Touch .traces T] [Touch .motion T] [Touch .girth T] [Touch .host T] [Touch .layout T] [Touch .mem T] [Touch .fab T] [Touch .coll T] [Touch .raised T] [Touch .outs T] [Touch .free T] (core : Fin 9) (s : State) (hwf : Within T z s) :
    outWithin T z (execCoreWatchdog core s) := by
  simp (maxDischargeDepth := 30) [execCoreWatchdog, *]

theorem execCollectorSelfFault_frame [Touch .objs T] [Touch .power T] [Touch .dict T] [Touch .start T] [Touch .fw T] [Touch .media T] [Touch .chan T] [Touch .dec T] [Touch .players T] [Touch .acts T] [Touch .engines T] [Touch .groups T] [Touch .traces T] [Touch .motion T] [Touch .girth T] [Touch .host T] [Touch .layout T] [Touch .mem T] [Touch .fab T] [Touch .coll T] [Touch .raised T] [Touch .outs T] [Touch .free T] (collector : Fin 9) (s : State) (hwf : Within T z s) :
    outWithin T z (execCollectorSelfFault collector s) := by
  simp (maxDischargeDepth := 30) [execCollectorSelfFault, *]

@[simp] theorem captureRearm_frame [Touch .coll T] (s : State) (r : ℕ) (hwf : Within T z s) :
    Within T z (captureRearm s r) := by
  simp (maxDischargeDepth := 30) [captureRearm, *]

@[simp] theorem unretireAsk_frame [Touch .objs T] [Touch .dict T] [Touch .layout T] (s : State) (id : ℕ) (hwf : Within T z s) :
    Within T z (unretireAsk s id).2 := by
  simp only [unretireAsk]
  repeat' split
  all_goals simp (maxDischargeDepth := 30) [*]

theorem execLedgerMirror_frame [Touch .coll T] (s : State) (hwf : Within T z s) :
    outWithin T z (execLedgerMirror s) := by
  simp (maxDischargeDepth := 30) [execLedgerMirror, *]

theorem execLedgerMirrorDone_frame [Touch .objs T] [Touch .coll T] (s : State) (hwf : Within T z s) :
    outWithin T z (execLedgerMirrorDone s) := by
  simp only [execLedgerMirrorDone]
  split <;> simp (maxDischargeDepth := 30) [*]

theorem execLedgerBandCopy_frame [Touch .coll T] [Touch .outs T] (s : State) (hwf : Within T z s) :
    outWithin T z (execLedgerBandCopy s) := by
  simp (maxDischargeDepth := 30) [execLedgerBandCopy, *]

end Sys2Proof.Machine
end

