-- ==== Sys2Proof/Laws/FrameFirmware.lean ====
section
/-! SUPPORT. The parts of the state that every operation of Machine/Firmware.lean can change. -/

namespace Sys2Proof.Machine

variable {T : List Part} {z : State}

theorem execFirmwareImageDownload_frame [Touch .objs T] [Touch .fw T] [Touch .motion T] [Touch .host T] [Touch .coll T] [Touch .outs T] [Touch .free T] (slot : ℕ) (piece : Bytes) (s : State) (hwf : Within T z s) :
    outWithin T z (execFirmwareImageDownload slot piece s) := by
  simp only [execFirmwareImageDownload]
  split <;> simp (maxDischargeDepth := 30) [*]

@[simp] theorem programSlot_frame [Touch .fw T] (s : State) (x : SlotProgram) (hwf : Within T z s) :
    Within T z (programSlot s x) := by
  simp (maxDischargeDepth := 30) [programSlot, *]

@[simp] theorem commitProgram_frame [Touch .objs T] [Touch .fw T] [Touch .motion T] [Touch .host T] [Touch .coll T] [Touch .raised T] [Touch .outs T] [Touch .free T] (s : State) (n : ℕ) (c : CmdSlot) (pend : Bool) (hwf : Within T z s) :
    Within T z (commitProgram s n c pend) := by
  simp only [commitProgram]
  split <;> simp (maxDischargeDepth := 30) [*]

theorem execFirmwareCommitReplace_frame [Touch .objs T] [Touch .fw T] [Touch .motion T] [Touch .host T] [Touch .coll T] [Touch .raised T] [Touch .outs T] [Touch .free T] (slot : ℕ) (s : State) (hwf : Within T z s) :
    outWithin T z (execFirmwareCommitReplace slot s) := by
  simp only [execFirmwareCommitReplace]
  split <;> simp (maxDischargeDepth := 30) [*]

theorem execFirmwareCommitReplaceActivate_frame [Touch .objs T] [Touch .fw T] [Touch .motion T] [Touch .host T] [Touch .coll T] [Touch .raised T] [Touch .outs T] [Touch .free T] (slot : ℕ) (s : State) (hwf : Within T z s) :
    outWithin T z (execFirmwareCommitReplaceActivate slot s) := by
  simp only [execFirmwareCommitReplaceActivate]
  split <;> simp (maxDischargeDepth := 30) [*]

@[simp] theorem pendSlot_frame [Touch .fw T] (s : State) (i : ℕ) (hwf : Within T z s) :
    Within T z (pendSlot s i) := by
  simp (maxDischargeDepth := 30) [pendSlot, *]

theorem execFirmwareCommitActivate_frame [Touch .objs T] [Touch .fw T] [Touch .motion T] [Touch .host T] [Touch .coll T] [Touch .outs T] [Touch .free T] (slot : ℕ) (s : State) (hwf : Within T z s) :
    outWithin T z (execFirmwareCommitActivate slot s) := by
  simp only [execFirmwareCommitActivate]
  repeat' split
  all_goals simp (maxDischargeDepth := 30) [*]

theorem execFirmwareCommitActivateNow_frame [Touch .objs T] [Touch .fw T] [Touch .motion T] [Touch .host T] [Touch .coll T] [Touch .outs T] [Touch .free T] (slot : ℕ) (s : State) (hwf : Within T z s) :
    outWithin T z (execFirmwareCommitActivateNow slot s) := by
  simp only [execFirmwareCommitActivateNow]
  repeat' split
  all_goals simp (maxDischargeDepth := 30) [*]

theorem execFirmwareCommitInvalidAction_frame [Touch .objs T] [Touch .motion T] [Touch .host T] [Touch .coll T] [Touch .outs T] [Touch .free T] (slot : ℕ) (s : State) (hwf : Within T z s) :
    outWithin T z (execFirmwareCommitInvalidAction slot s) := by
  simp only [execFirmwareCommitInvalidAction]
  split <;> simp (maxDischargeDepth := 30) [*]

theorem execFirmwareCommitDone_frame [Touch .objs T] [Touch .fw T] [Touch .motion T] [Touch .host T] [Touch .coll T] [Touch .outs T] [Touch .free T] (s : State) (hwf : Within T z s) :
    outWithin T z (execFirmwareCommitDone s) := by
  simp only [execFirmwareCommitDone]
  repeat' split
  all_goals simp (maxDischargeDepth := 30) [*]

@[simp] theorem loadStores_frame [Touch .acts T] (s : State) (slot : ℕ) (bank : ℕ) (hwf : Within T z s) :
    Within T z (loadStores s slot bank) := by
  unfold loadStores
  repeat' split
  all_goals simp_all (maxDischargeDepth := 30)

@[simp] theorem bankTo_frame [Touch .objs T] (s : State) (bank : ℕ) (hwf : Within T z s) :
    Within T z (bankTo s bank) := by
  unfold bankTo
  repeat' split
  all_goals simp_all (maxDischargeDepth := 30)

theorem execActivationStaged_frame [Touch .objs T] [Touch .fw T] [Touch .acts T] [Touch .motion T] [Touch .host T] [Touch .coll T] [Touch .raised T] [Touch .outs T] [Touch .free T] (s : State) (hwf : Within T z s) :
    outWithin T z (execActivationStaged s) := by
  simp only [execActivationStaged]
  repeat' split
  all_goals simp (maxDischargeDepth := 30) [*]

@[simp] theorem settleActivation_frame [Touch .objs T] [Touch .fw T] (s : State) (hwf : Within T z s) :
    Within T z (settleActivation s) := by
  simp only [settleActivation]
  split <;> simp (maxDischargeDepth := 30) [*]

@[simp] theorem imageRuns_frame [Touch .objs T] [Touch .dict T] [Touch .fw T] (s : State) (slot : ℕ) (hwf : Within T z s) :
    Within T z (imageRuns s slot) := by
  simp only [imageRuns]
  split <;> simp (maxDischargeDepth := 30) [*]

theorem execActivationFreezeEnd_frame [Touch .objs T] [Touch .power T] [Touch .dict T] [Touch .start T] [Touch .fw T] [Touch .media T] [Touch .chan T] [Touch .dec T] [Touch .players T] [Touch .acts T] [Touch .engines T] [Touch .groups T] [Touch .traces T] [Touch .motion T] [Touch .girth T] [Touch .host T] [Touch .layout T] [Touch .mem T] [Touch .fab T] [Touch .coll T] [Touch .raised T] [Touch .outs T] [Touch .free T] (freezeUs : ℕ) (s : State) (hwf : Within T z s) :
    outWithin T z (execActivationFreezeEnd freezeUs s) := by
  unfold execActivationFreezeEnd
  repeat' split
  all_goals simp_all (maxDischargeDepth := 30)

theorem execActivationBankSwitch_frame [Touch .objs T] [Touch .fw T] [Touch .acts T] (s : State) (hwf : Within T z s) :
    outWithin T z (execActivationBankSwitch s) := by
  unfold execActivationBankSwitch
  repeat' split
  all_goals simp_all (maxDischargeDepth := 30)

@[simp] theorem bundleAsk_frame [Touch .fw T] [Touch .raised T] (s : State) (b : List Byte) (hwf : Within T z s) :
    Within T z (bundleAsk s b).2 := by
  simp only [bundleAsk]
  repeat' split
  all_goals simp (maxDischargeDepth := 30) [*]

@[simp] theorem firstHolders_frame [Touch .media T] [Touch .outs T] (s : State) (hwf : Within T z s) :
    Within T z (firstHolders s) := by
  unfold firstHolders
  repeat' split
  all_goals simp_all (maxDischargeDepth := 30)

@[simp] theorem bundleOnto_frame [Touch .fw T] [Touch .media T] [Touch .outs T] (s : State) (u : ℕ) (b : List Byte) (hwf : Within T z s) :
    Within T z (bundleOnto s u b) := by
  simp (maxDischargeDepth := 30) [bundleOnto, *]

theorem execBundleWriteDone_frame [Touch .objs T] [Touch .fw T] [Touch .media T] [Touch .outs T] (s : State) (hwf : Within T z s) :
    outWithin T z (execBundleWriteDone s) := by
  unfold execBundleWriteDone
  repeat' split
  all_goals simp_all (maxDischargeDepth := 30)

@[simp] theorem recoveryAsk_frame [Touch .fw T] [Touch .raised T] (s : State) (b : List Byte) (hwf : Within T z s) :
    Within T z (recoveryAsk s b).2 := by
  simp only [recoveryAsk]
  repeat' split
  all_goals simp (maxDischargeDepth := 30) [*]

@[simp] theorem ownerKeyAsk_frame [Touch .objs T] [Touch .fw T] [Touch .raised T] (s : State) (k : List Byte) (hwf : Within T z s) :
    Within T z (ownerKeyAsk s k).2 := by
  simp only [ownerKeyAsk]
  split <;> simp (maxDischargeDepth := 30) [*]

@[simp] theorem chainAsk_frame [Touch .objs T] (s : State) (i : ℕ) (b : List Byte) (hwf : Within T z s) :
    Within T z (chainAsk s i b).2 := by
  simp only [chainAsk]
  split <;> simp (maxDischargeDepth := 30) [*]

@[simp] theorem eraseNamespace_frame [Touch .objs T] [Touch .fw T] [Touch .host T] [Touch .layout T] [Touch .mem T] [Touch .raised T] [Touch .outs T] [Touch .free T] (s : State) (ns : Namespace) (hwf : Within T z s) :
    Within T z (eraseNamespace s ns) := by
  simp only [eraseNamespace]
  split <;> simp (maxDischargeDepth := 30) [*]

@[simp] theorem settleFormats_frame [Touch .objs T] [Touch .motion T] [Touch .host T] [Touch .coll T] [Touch .outs T] [Touch .free T] (s : State) (hwf : Within T z s) :
    Within T z (settleFormats s) := by
  unfold settleFormats
  repeat' split
  all_goals simp_all (maxDischargeDepth := 30)

@[simp] theorem eraseBegin_frame [Touch .fw T] (s : State) (l : List ℕ) (hwf : Within T z s) :
    Within T z (eraseBegin s l) := by
  simp (maxDischargeDepth := 30) [eraseBegin, *]

theorem execSanitize_frame [Touch .objs T] [Touch .fw T] [Touch .motion T] [Touch .host T] [Touch .coll T] [Touch .outs T] [Touch .free T] (slot : ℕ) (action : SanitizeAction) (s : State) (hwf : Within T z s) :
    outWithin T z (execSanitize slot action s) := by
  simp only [execSanitize]
  split <;> simp (maxDischargeDepth := 30) [*]

theorem execFormatNvm_frame [Touch .objs T] [Touch .fw T] [Touch .motion T] [Touch .host T] [Touch .coll T] [Touch .outs T] [Touch .free T] (slot : ℕ) (s : State) (hwf : Within T z s) :
    outWithin T z (execFormatNvm slot s) := by
  simp only [execFormatNvm]
  split <;> simp (maxDischargeDepth := 30) [*]

@[simp] theorem settleReturn_frame [Touch .objs T] [Touch .power T] [Touch .dict T] [Touch .start T] [Touch .fw T] [Touch .media T] [Touch .chan T] [Touch .dec T] [Touch .players T] [Touch .acts T] [Touch .engines T] [Touch .groups T] [Touch .traces T] [Touch .motion T] [Touch .girth T] [Touch .host T] [Touch .layout T] [Touch .mem T] [Touch .fab T] [Touch .coll T] [Touch .raised T] [Touch .outs T] [Touch .free T] (s : State) (hwf : Within T z s) :
    Within T z (settleReturn s) := by
  simp (maxDischargeDepth := 30) [settleReturn, *]

theorem execCryptoEraseDone_frame [Touch .objs T] [Touch .power T] [Touch .dict T] [Touch .start T] [Touch .fw T] [Touch .media T] [Touch .chan T] [Touch .dec T] [Touch .players T] [Touch .acts T] [Touch .engines T] [Touch .groups T] [Touch .traces T] [Touch .motion T] [Touch .girth T] [Touch .host T] [Touch .layout T] [Touch .mem T] [Touch .fab T] [Touch .coll T] [Touch .raised T] [Touch .outs T] [Touch .free T] (ns : ℕ) (s : State) (hwf : Within T z s) :
    outWithin T z (execCryptoEraseDone ns s) := by
  simp only [execCryptoEraseDone]
  repeat' split
  all_goals simp (maxDischargeDepth := 30) [*]

@[simp] theorem finishErases_frame [Touch .objs T] [Touch .fw T] [Touch .motion T] [Touch .host T] [Touch .layout T] [Touch .mem T] [Touch .coll T] [Touch .raised T] [Touch .outs T] [Touch .free T] (s : State) (h : Within T z s) : Within T z (finishErases s) := by
  unfold finishErases
  refine settleFormats_frame _ (State.each_frame h fun t x ht => ?_)
  repeat' first | (simp +contextual (maxDischargeDepth := 30) [*]; done) | split

@[simp] theorem scrap_frame [Touch .objs T] [Touch .fw T] [Touch .host T] (s : State) (hwf : Within T z s) :
    Within T z (scrap s) := by
  simp (maxDischargeDepth := 30) [scrap, *]

@[simp] theorem transition_frame [Touch .objs T] [Touch .power T] [Touch .dict T] [Touch .start T] [Touch .fw T] [Touch .media T] [Touch .chan T] [Touch .dec T] [Touch .players T] [Touch .acts T] [Touch .engines T] [Touch .groups T] [Touch .traces T] [Touch .motion T] [Touch .girth T] [Touch .host T] [Touch .layout T] [Touch .mem T] [Touch .fab T] [Touch .coll T] [Touch .raised T] [Touch .outs T] [Touch .free T] (s : State) (target : ℕ) (hwf : Within T z s) :
    Within T z (transition s target) := by
  unfold transition
  repeat' split
  all_goals simp_all (maxDischargeDepth := 30)

@[simp] theorem lifecycleAsk_frame [Touch .objs T] [Touch .power T] [Touch .dict T] [Touch .start T] [Touch .fw T] [Touch .media T] [Touch .chan T] [Touch .dec T] [Touch .players T] [Touch .acts T] [Touch .engines T] [Touch .groups T] [Touch .traces T] [Touch .motion T] [Touch .girth T] [Touch .host T] [Touch .layout T] [Touch .mem T] [Touch .fab T] [Touch .coll T] [Touch .raised T] [Touch .outs T] [Touch .free T] (s : State) (who : Requester) (b : List Byte) (hwf : Within T z s) :
    Within T z (lifecycleAsk s who b).2 := by
  simp only [lifecycleAsk]
  repeat' split
  all_goals simp (maxDischargeDepth := 30) [*]

@[simp] theorem nonceRead_frame [Touch .fw T] [Touch .free T] (s : State) (who : Requester) (hwf : Within T z s) :
    Within T z (nonceRead s who).2 := by
  simp (maxDischargeDepth := 30) [nonceRead, *]

theorem execLifecycleNonceExpire_frame [Touch .fw T] (s : State) (hwf : Within T z s) :
    outWithin T z (execLifecycleNonceExpire s) := by
  simp (maxDischargeDepth := 30) [execLifecycleNonceExpire, *]

theorem execTapInstruction_frame [Touch .fw T] [Touch .outs T] (i : TapInstr) (s : State) (hwf : Within T z s) :
    outWithin T z (execTapInstruction i s) := by
  simp only [execTapInstruction]
  repeat' split
  all_goals simp (maxDischargeDepth := 30) [*]

@[simp] theorem spdmSend_frame [Touch .fw T] [Touch .outs T] (s : State) (via : SpdmPort) (msg : List Byte) (hwf : Within T z s) :
    Within T z (spdmSend s via msg) := by
  simp only [spdmSend]
  split <;> simp (maxDischargeDepth := 30) [*]

@[simp] theorem spdmError_frame [Touch .fw T] [Touch .outs T] (s : State) (via : SpdmPort) (code : ℕ) (hwf : Within T z s) :
    Within T z (spdmError s via code) := by
  simp (maxDischargeDepth := 30) [spdmError, *]

@[simp] theorem addVca_frame [Touch .fw T] (s : State) (via : SpdmPort) (b : List Byte) (hwf : Within T z s) :
    Within T z (addVca s via b) := by
  simp (maxDischargeDepth := 30) [addVca, *]

@[simp] theorem addChal_frame [Touch .fw T] (s : State) (via : SpdmPort) (b : List Byte) (hwf : Within T z s) :
    Within T z (addChal s via b) := by
  simp (maxDischargeDepth := 30) [addChal, *]

@[simp] theorem setMeas_frame [Touch .fw T] (s : State) (via : SpdmPort) (b : List Byte) (hwf : Within T z s) :
    Within T z (setMeas s via b) := by
  simp (maxDischargeDepth := 30) [setMeas, *]

@[simp] theorem spdmVersion_frame [Touch .fw T] [Touch .outs T] (s : State) (via : SpdmPort) (request : List Byte) (hwf : Within T z s) :
    Within T z (spdmVersion s via request) := by
  simp (maxDischargeDepth := 30) [spdmVersion, *]

@[simp] theorem spdmCapabilities_frame [Touch .fw T] [Touch .outs T] [Touch .free T] (s : State) (via : SpdmPort) (request : List Byte) (hwf : Within T z s) :
    Within T z (spdmCapabilities s via request) := by
  simp (maxDischargeDepth := 30) [spdmCapabilities, *]

@[simp] theorem spdmAlgorithms_frame [Touch .fw T] [Touch .outs T] (s : State) (via : SpdmPort) (request : List Byte) (hwf : Within T z s) :
    Within T z (spdmAlgorithms s via request) := by
  simp (maxDischargeDepth := 30) [spdmAlgorithms, *]

@[simp] theorem spdmDigests_frame [Touch .fw T] [Touch .outs T] (s : State) (via : SpdmPort) (request : List Byte) (hwf : Within T z s) :
    Within T z (spdmDigests s via request) := by
  simp (maxDischargeDepth := 30) [spdmDigests, *]

@[simp] theorem spdmCertificate_frame [Touch .fw T] [Touch .outs T] (s : State) (via : SpdmPort) (slot : ℕ) (offset : ℕ) (len : ℕ) (request : List Byte) (hwf : Within T z s) :
    Within T z (spdmCertificate s via slot offset len request) := by
  simp (maxDischargeDepth := 30) [spdmCertificate, *]

@[simp] theorem spdmChallenge_frame [Touch .fw T] [Touch .outs T] [Touch .free T] (s : State) (via : SpdmPort) (slot : ℕ) (hashType : ℕ) (request : List Byte) (hwf : Within T z s) :
    Within T z (spdmChallenge s via slot hashType request) := by
  simp (maxDischargeDepth := 30) [spdmChallenge, *]

@[simp] theorem spdmMeasurements_frame [Touch .fw T] [Touch .outs T] [Touch .free T] (s : State) (via : SpdmPort) (index : ℕ) (signed : Bool) (slot : ℕ) (request : List Byte) (hwf : Within T z s) :
    Within T z (spdmMeasurements s via index signed slot request) := by
  simp (maxDischargeDepth := 30) [spdmMeasurements, *]

@[simp] theorem spdmAfter_frame [Touch .fw T] [Touch .outs T] (s : State) (via : SpdmPort) (f : State → State) (hwf : Within T z s)
    (hd : ∀ t : State, Within T z t → Within T z (f t)) : Within T z (spdmAfter s via f) := by
  simp only [spdmAfter]
  split <;> simp (maxDischargeDepth := 30) [*]

@[simp] theorem spdmRefuse_frame [Touch .fw T] [Touch .outs T] (s : State) (via : SpdmPort) (hwf : Within T z s) :
    Within T z (spdmRefuse s via) := by
  simp (maxDischargeDepth := 30) [spdmRefuse, *]

theorem execSpdmGetVersion_frame [Touch .fw T] [Touch .outs T] (via : SpdmPort) (s : State) (hwf : Within T z s) :
    outWithin T z (execSpdmGetVersion via s) := by
  simp (maxDischargeDepth := 30) [execSpdmGetVersion, *]

theorem execSpdmGetCapabilities_frame [Touch .fw T] [Touch .outs T] [Touch .free T] (via : SpdmPort) (request : Bytes) (s : State) (hwf : Within T z s) :
    outWithin T z (execSpdmGetCapabilities via request s) := by
  simp (maxDischargeDepth := 30) [execSpdmGetCapabilities, *]

theorem execSpdmNegotiateAlgorithms_frame [Touch .fw T] [Touch .outs T] (via : SpdmPort) (request : Bytes) (s : State) (hwf : Within T z s) :
    outWithin T z (execSpdmNegotiateAlgorithms via request s) := by
  simp (maxDischargeDepth := 30) [execSpdmNegotiateAlgorithms, *]

theorem execSpdmGetDigests_frame [Touch .fw T] [Touch .outs T] (via : SpdmPort) (s : State) (hwf : Within T z s) :
    outWithin T z (execSpdmGetDigests via s) := by
  unfold execSpdmGetDigests
  repeat' split
  all_goals simp_all (maxDischargeDepth := 30)

theorem execSpdmGetCertificate_frame [Touch .fw T] [Touch .outs T] (via : SpdmPort) (slot : ℕ) (offset : ℕ) (len : ℕ) (s : State) (hwf : Within T z s) :
    outWithin T z (execSpdmGetCertificate via slot offset len s) := by
  unfold execSpdmGetCertificate
  repeat' split
  all_goals simp_all (maxDischargeDepth := 30)

theorem execSpdmChallenge_frame [Touch .fw T] [Touch .outs T] [Touch .free T] (via : SpdmPort) (slot : ℕ) (hashType : ℕ) (nonce : Bytes) (s : State) (hwf : Within T z s) :
    outWithin T z (execSpdmChallenge via slot hashType nonce s) := by
  unfold execSpdmChallenge
  repeat' split
  all_goals simp_all (maxDischargeDepth := 30)

theorem execSpdmGetMeasurements_frame [Touch .fw T] [Touch .outs T] [Touch .free T] (via : SpdmPort) (attributes : ℕ) (index : ℕ) (slotId : ℕ) (nonce : Bytes) (s : State) (hwf : Within T z s) :
    outWithin T z (execSpdmGetMeasurements via attributes index slotId nonce s) := by
  unfold execSpdmGetMeasurements
  repeat' split
  all_goals simp_all (maxDischargeDepth := 30)

theorem execSpdmUnsupported_frame [Touch .fw T] [Touch .outs T] (via : SpdmPort) (_req : SpdmUnsupported) (s : State) (hwf : Within T z s) :
    outWithin T z (execSpdmUnsupported via _req s) := by
  simp (maxDischargeDepth := 30) [execSpdmUnsupported, *]

@[simp] theorem spdmRequest_frame [Touch .fw T] [Touch .outs T] [Touch .free T] (s : State) (via : SpdmPort) (b : List Byte) (hwf : Within T z s) :
    Within T z (spdmRequest s via b) := by
  unfold spdmRequest
  repeat' split
  all_goals simp_all (maxDischargeDepth := 30)

theorem execSecuritySend_frame [Touch .objs T] [Touch .fw T] [Touch .motion T] [Touch .host T] [Touch .coll T] [Touch .outs T] [Touch .free T] (slot : ℕ) (data : Bytes) (s : State) (hwf : Within T z s) :
    outWithin T z (execSecuritySend slot data s) := by
  simp only [execSecuritySend]
  split <;> simp (maxDischargeDepth := 30) [*]

theorem execSecurityReceive_frame [Touch .objs T] [Touch .fw T] [Touch .motion T] [Touch .host T] [Touch .coll T] [Touch .outs T] [Touch .free T] (slot : ℕ) (s : State) (hwf : Within T z s) :
    outWithin T z (execSecurityReceive slot s) := by
  simp only [execSecurityReceive]
  split <;> simp (maxDischargeDepth := 30) [*]

end Sys2Proof.Machine
end

