-- ==== Sys2Proof/Laws/FrameStart.lean ====
section
/-! SUPPORT. The parts of the state that every operation of Machine/Start.lean can change. -/

namespace Sys2Proof.Machine

variable {T : List Part} {z : State}

@[simp] theorem State.setDict_frame [Touch .dict T] (s : State) (d : DictSvc) (hwf : Within T z s) :
    Within T z (State.setDict s d) := by
  simp (maxDischargeDepth := 30) [State.setDict, *]

@[simp] theorem attemptStart_frame [Touch .objs T] [Touch .start T] (s : State) (hwf : Within T z s) :
    Within T z (attemptStart s) := by
  simp (maxDischargeDepth := 30) [attemptStart, *]

@[simp] theorem restartSequence_frame [Touch .objs T] [Touch .power T] [Touch .start T] [Touch .motion T] [Touch .raised T] [Touch .free T] (s : State) (hwf : Within T z s) :
    Within T z (restartSequence s) := by
  unfold restartSequence
  repeat' split
  all_goals simp_all (maxDischargeDepth := 30)

theorem execAttemptBegin_frame [Touch .objs T] [Touch .power T] [Touch .start T] [Touch .motion T] [Touch .raised T] [Touch .free T] (cause : AttemptCause) (s : State) (hwf : Within T z s) :
    outWithin T z (execAttemptBegin cause s) := by
  simp only [execAttemptBegin]
  split <;> simp (maxDischargeDepth := 30) [*]

@[simp] theorem decideUnit_frame [Touch .objs T] (s : State) (st : Key) (en : Key) (faulty : Bool) (hwf : Within T z s) :
    Within T z (decideUnit s st en faulty) := by
  simp (maxDischargeDepth := 30) [decideUnit, *]

@[simp] theorem leaveOut_frame [Touch .objs T] [Touch .layout T] [Touch .raised T] (s : State) (a : ℕ) (k : ℕ) (hwf : Within T z s) :
    Within T z (leaveOut s a k) := by
  simp (maxDischargeDepth := 30) [leaveOut, *]

@[simp] theorem chooseSlot_frame [Touch .fw T] (s : State) (hwf : Within T z s) :
    Within T z (chooseSlot s) := by
  simp (maxDischargeDepth := 30) [chooseSlot, *]

@[simp] theorem repairsDone_frame [Touch .start T] (s : State) (found : StepFindings) (hwf : Within T z s) :
    Within T z (repairsDone s found) := by
  simp (maxDischargeDepth := 30) [repairsDone, *]

@[simp] theorem zeroFillInit_frame [Touch .objs T] [Touch .dict T] [Touch .mem T] (s : State) (alt : Bool) (hwf : Within T z s) :
    Within T z (zeroFillInit s alt) := by
  simp (maxDischargeDepth := 30) [zeroFillInit, *]

@[simp] theorem keeperScan_frame [Touch .objs T] [Touch .mem T] [Touch .raised T] [Touch .free T] (s : State) (hwf : Within T z s) :
    Within T z (keeperScan s) := by
  simp only [keeperScan]
  repeat' split
  all_goals simp (maxDischargeDepth := 30) [*]

@[simp] theorem keeperLeftOut_frame [Touch .objs T] [Touch .mem T] [Touch .raised T] (s : State) (hwf : Within T z s) :
    Within T z (keeperLeftOut s) := by
  unfold keeperLeftOut
  repeat' split
  all_goals simp_all (maxDischargeDepth := 30)

@[simp] theorem eraseObj_frame [Touch .objs T] (s : State) (k : Key) (hwf : Within T z s) :
    Within T z (eraseObj s k) := by
  simp (maxDischargeDepth := 30) [eraseObj, *]

@[simp] theorem loadStored_frame [Touch .objs T] [Touch .raised T] (values : SMap Val) (s : State) (k : Key) (hwf : Within T z s) :
    Within T z (loadStored values s k) := by
  simp only [loadStored]
  split <;> simp (maxDischargeDepth := 30) [*]

@[simp] theorem rewriteCopies_frame [Touch .dict T] (s : State) (kept : SMap Val) (hwf : Within T z s) :
    Within T z (rewriteCopies s kept) := by
  simp (maxDischargeDepth := 30) [rewriteCopies, *]

@[simp] theorem loadObjects_frame [Touch .objs T] [Touch .dict T] [Touch .raised T] (s : State) (alt : Bool) (h : Within T z s) : Within T z (loadObjects s alt) := by
  unfold loadObjects
  repeat' split
  all_goals simp_all (maxDischargeDepth := 30)

@[simp] theorem applyRetired_frame [Touch .objs T] (s : State) (h : Within T z s) : Within T z (applyRetired s) := by
  unfold applyRetired
  refine State.each_frame h fun t x ht => ?_
  dsimp only
  repeat' split
  all_goals simp [ht]

@[simp] theorem loadReservations_frame [Touch .host T] [Touch .raised T] (s : State) (hwf : Within T z s) :
    Within T z (loadReservations s) := by
  simp (maxDischargeDepth := 30) [loadReservations, *]

@[simp] theorem loadPresets_frame [Touch .objs T] (s : State) (slot : ℕ) (hwf : Within T z s) :
    Within T z (loadPresets s slot) := by
  unfold loadPresets
  repeat' split
  all_goals simp_all (maxDischargeDepth := 30)

@[simp] theorem takeSettings_frame [Touch .dec T] [Touch .host T] [Touch .fab T] (s : State) (hwf : Within T z s) :
    Within T z (takeSettings s) := by
  simp (maxDischargeDepth := 30) [takeSettings, *]

@[simp] theorem keepEnables_frame [Touch .objs T] (s : State) (hwf : Within T z s) :
    Within T z (keepEnables s) := by
  unfold keepEnables
  repeat' split
  all_goals simp_all (maxDischargeDepth := 30)

@[simp] theorem releaseImage_frame [Touch .objs T] [Touch .dict T] [Touch .fw T] [Touch .acts T] [Touch .raised T] (s : State) (alt : Bool) (hwf : Within T z s) :
    Within T z (releaseImage s alt) := by
  unfold releaseImage
  repeat' split
  all_goals simp_all (maxDischargeDepth := 30)

@[simp] theorem releaseUnits_frame [Touch .objs T] [Touch .raised T] (s : State) (failedUnits : List ℕ) (hwf : Within T z s) :
    Within T z (releaseUnits s failedUnits) := by
  unfold releaseUnits
  repeat' split
  all_goals simp_all (maxDischargeDepth := 30)

@[simp] theorem releaseRecords_frame [Touch .objs T] [Touch .fw T] [Touch .host T] [Touch .coll T] [Touch .raised T] [Touch .outs T] [Touch .free T] (s : State) (hwf : Within T z s) :
    Within T z (releaseRecords s) := by
  simp (maxDischargeDepth := 30) [releaseRecords, *]

@[simp] theorem coreRelease_frame [Touch .objs T] [Touch .dict T] [Touch .fw T] [Touch .dec T] [Touch .acts T] [Touch .host T] [Touch .fab T] [Touch .coll T] [Touch .raised T] [Touch .outs T] [Touch .free T] (s : State) (alt : Bool) (failedUnits : List ℕ) (hwf : Within T z s) :
    Within T z (coreRelease s alt failedUnits) := by
  simp only [coreRelease]
  split <;> simp (maxDischargeDepth := 30) [*]

@[simp] theorem handshake_frame [Touch .objs T] [Touch .motion T] [Touch .raised T] [Touch .free T] (s : State) (found : StepFindings) (hwf : Within T z s) :
    Within T z (handshake s found) := by
  unfold handshake
  repeat' first | (simp +contextual (maxDischargeDepth := 30) [*]; done) | split

@[simp] theorem restartMotion_frame [Touch .objs T] [Touch .motion T] (s : State) (hwf : Within T z s) :
    Within T z (restartMotion s) := by
  simp (maxDischargeDepth := 30) [restartMotion, *]

@[simp] theorem discovery_frame [Touch .objs T] [Touch .layout T] [Touch .raised T] (s : State) (found : StepFindings) (hwf : Within T z s) :
    Within T z (discovery s found) := by
  unfold discovery
  repeat' split
  all_goals simp_all (maxDischargeDepth := 30)

@[simp] theorem switchesOn_frame [Touch .objs T] [Touch .fw T] (s : State) (hwf : Within T z s) :
    Within T z (switchesOn s) := by
  unfold switchesOn
  repeat' split
  all_goals simp_all (maxDischargeDepth := 30)

@[simp] theorem acquisition_frame [Touch .objs T] [Touch .start T] [Touch .fw T] [Touch .engines T] [Touch .groups T] (s : State) (hwf : Within T z s) :
    Within T z (acquisition s) := by
  unfold acquisition
  repeat' split
  all_goals simp_all (maxDischargeDepth := 30)

@[simp] theorem acquired_frame [Touch .objs T] [Touch .motion T] [Touch .layout T] [Touch .raised T] [Touch .free T] (s : State) (found : StepFindings) (hwf : Within T z s) :
    Within T z (acquired s found) := by
  unfold acquired
  repeat' split
  all_goals simp_all (maxDischargeDepth := 30)

@[simp] theorem loadBundle_frame [Touch .objs T] [Touch .start T] [Touch .fw T] [Touch .engines T] [Touch .layout T] (s : State) (i : ℕ) (hwf : Within T z s) :
    Within T z (loadBundle s i) := by
  unfold loadBundle
  repeat' split
  all_goals simp_all (maxDischargeDepth := 30)

@[simp] theorem dumpReplay_frame [Touch .objs T] [Touch .layout T] [Touch .mem T] (s : State) (bad : List ℕ) (hwf : Within T z s) :
    Within T z (dumpReplay s bad) := by
  simp only [dumpReplay]
  split <;> simp (maxDischargeDepth := 30) [*]

@[simp] theorem journalResync_frame [Touch .objs T] [Touch .layout T] [Touch .mem T] (s : State) (alt : Bool) (hwf : Within T z s) :
    Within T z (journalResync s alt) := by
  simp only [journalResync]
  split <;> simp (maxDischargeDepth := 30) [*]

@[simp] theorem layoutMount_frame [Touch .objs T] [Touch .fw T] [Touch .media T] [Touch .motion T] [Touch .host T] [Touch .layout T] [Touch .mem T] [Touch .coll T] [Touch .raised T] [Touch .outs T] [Touch .free T] (s : State) (alt : Bool) (hwf : Within T z s) :
    Within T z (layoutMount s alt) := by
  unfold layoutMount
  repeat' split
  all_goals simp_all (maxDischargeDepth := 30)

@[simp] theorem portsDecided_frame [Touch .objs T] [Touch .raised T] (s : State) (ports : ℕ) (hwf : Within T z s) :
    Within T z (portsDecided s ports) := by
  unfold portsDecided
  repeat' split
  all_goals simp_all (maxDischargeDepth := 30)

@[simp] theorem settleSlots_frame [Touch .fw T] (s : State) (hwf : Within T z s) :
    Within T z (settleSlots s) := by
  simp (maxDischargeDepth := 30) [settleSlots, *]

@[simp] theorem raiseSecurity_frame [Touch .objs T] [Touch .fw T] (s : State) (hwf : Within T z s) :
    Within T z (raiseSecurity s) := by
  simp (maxDischargeDepth := 30) [raiseSecurity, *]

@[simp] theorem levelBundles_frame [Touch .fw T] [Touch .media T] [Touch .outs T] (s : State) (hwf : Within T z s) :
    Within T z (levelBundles s) := by
  unfold levelBundles
  repeat' split
  all_goals simp_all (maxDischargeDepth := 30)

@[simp] theorem hostReady_frame [Touch .objs T] [Touch .power T] [Touch .start T] [Touch .fw T] [Touch .media T] [Touch .host T] [Touch .mem T] [Touch .raised T] [Touch .outs T] [Touch .free T] (s : State) (ports : ℕ) (hwf : Within T z s) :
    Within T z (hostReady s ports) := by
  simp only [hostReady]
  split <;> simp (maxDischargeDepth := 30) [*]

@[simp] theorem takeRpm_frame [Touch .motion T] (s : State) (hwf : Within T z s) :
    Within T z (takeRpm s) := by
  simp (maxDischargeDepth := 30) [takeRpm, *]

@[simp] theorem stepBegins_frame [Touch .objs T] [Touch .start T] [Touch .fw T] [Touch .engines T] [Touch .groups T] [Touch .motion T] [Touch .girth T] [Touch .free T] (s : State) (hwf : Within T z s) :
    Within T z (stepBegins s) := by
  unfold stepBegins
  repeat' split
  all_goals simp_all (maxDischargeDepth := 30)

@[simp] theorem retireUnrepairable_frame [Touch .objs T] [Touch .coll T] (s : State) (ids : List Nat) (h : Within T z s) : Within T z (retireUnrepairable s ids) := by
  unfold retireUnrepairable
  refine State.each_frame h fun t x ht => ?_
  repeat' split
  all_goals simp [ht]

@[simp] theorem stepPassed_frame [Touch .objs T] [Touch .dict T] [Touch .start T] [Touch .fw T] [Touch .media T] [Touch .dec T] [Touch .acts T] [Touch .engines T] [Touch .motion T] [Touch .host T] [Touch .layout T] [Touch .mem T] [Touch .fab T] [Touch .coll T] [Touch .raised T] [Touch .outs T] [Touch .free T] (s : State) (found : StepFindings) (hwf : Within T z s) :
    Within T z (stepPassed s found) := by
  unfold stepPassed
  repeat' first | (simp +contextual (maxDischargeDepth := 30) [*]; done) | split

@[simp] theorem nextStep_frame [Touch .objs T] [Touch .start T] [Touch .fw T] [Touch .engines T] [Touch .groups T] [Touch .motion T] [Touch .girth T] [Touch .free T] (s : State) (hwf : Within T z s) :
    Within T z (nextStep s) := by
  unfold nextStep
  repeat' split
  all_goals simp_all (maxDischargeDepth := 30)

@[simp] theorem stepEnds_frame [Touch .objs T] [Touch .power T] [Touch .dict T] [Touch .start T] [Touch .fw T] [Touch .media T] [Touch .dec T] [Touch .acts T] [Touch .engines T] [Touch .groups T] [Touch .motion T] [Touch .girth T] [Touch .host T] [Touch .layout T] [Touch .mem T] [Touch .fab T] [Touch .coll T] [Touch .raised T] [Touch .outs T] [Touch .free T] (s : State) (found : StepFindings) (hwf : Within T z s) :
    Within T z (stepEnds s found) := by
  simp (maxDischargeDepth := 30) [stepEnds, *]

@[simp] theorem endForGood_frame [Touch .objs T] [Touch .power T] [Touch .dict T] [Touch .start T] [Touch .fw T] [Touch .media T] [Touch .chan T] [Touch .dec T] [Touch .players T] [Touch .acts T] [Touch .engines T] [Touch .groups T] [Touch .traces T] [Touch .motion T] [Touch .girth T] [Touch .host T] [Touch .layout T] [Touch .mem T] [Touch .fab T] [Touch .coll T] [Touch .raised T] [Touch .outs T] [Touch .free T] (s : State) (code : ℕ) (endCode : ℕ) (detail : ℕ) (hwf : Within T z s) :
    Within T z (endForGood s code endCode detail) := by
  simp (maxDischargeDepth := 30) [endForGood, *]

@[simp] theorem stepFails_frame [Touch .objs T] [Touch .power T] [Touch .dict T] [Touch .start T] [Touch .fw T] [Touch .media T] [Touch .chan T] [Touch .dec T] [Touch .players T] [Touch .acts T] [Touch .engines T] [Touch .groups T] [Touch .traces T] [Touch .motion T] [Touch .girth T] [Touch .host T] [Touch .layout T] [Touch .mem T] [Touch .fab T] [Touch .coll T] [Touch .raised T] [Touch .outs T] [Touch .free T] (s : State) (found : StepFindings) (code : ℕ) (hwf : Within T z s) :
    Within T z (stepFails s found code) := by
  simp (maxDischargeDepth := 30) [stepFails, *]

theorem execStartStepEnd_frame [Touch .objs T] [Touch .power T] [Touch .dict T] [Touch .start T] [Touch .fw T] [Touch .media T] [Touch .chan T] [Touch .dec T] [Touch .players T] [Touch .acts T] [Touch .engines T] [Touch .groups T] [Touch .traces T] [Touch .motion T] [Touch .girth T] [Touch .host T] [Touch .layout T] [Touch .mem T] [Touch .fab T] [Touch .coll T] [Touch .raised T] [Touch .outs T] [Touch .free T] (result : StepEnd) (found : StepFindings) (s : State) (hwf : Within T z s) :
    outWithin T z (execStartStepEnd result found s) := by
  simp only [execStartStepEnd]
  repeat' split
  all_goals simp (maxDischargeDepth := 30) [*]

theorem execStepWatchdog_frame [Touch .objs T] [Touch .power T] [Touch .dict T] [Touch .start T] [Touch .fw T] [Touch .media T] [Touch .chan T] [Touch .dec T] [Touch .players T] [Touch .acts T] [Touch .engines T] [Touch .groups T] [Touch .traces T] [Touch .motion T] [Touch .girth T] [Touch .host T] [Touch .layout T] [Touch .mem T] [Touch .fab T] [Touch .coll T] [Touch .raised T] [Touch .outs T] [Touch .free T] (found : StepFindings) (s : State) (hwf : Within T z s) :
    outWithin T z (execStepWatchdog found s) := by
  simp (maxDischargeDepth := 30) [execStepWatchdog, *]

theorem execStartDeadline_frame [Touch .objs T] [Touch .power T] [Touch .dict T] [Touch .start T] [Touch .fw T] [Touch .media T] [Touch .chan T] [Touch .dec T] [Touch .players T] [Touch .acts T] [Touch .engines T] [Touch .groups T] [Touch .traces T] [Touch .motion T] [Touch .girth T] [Touch .host T] [Touch .layout T] [Touch .mem T] [Touch .fab T] [Touch .coll T] [Touch .raised T] [Touch .outs T] [Touch .free T] (s : State) (hwf : Within T z s) :
    outWithin T z (execStartDeadline s) := by
  simp (maxDischargeDepth := 30) [execStartDeadline, *]

@[simp] theorem restartNormal_frame [Touch .objs T] [Touch .power T] [Touch .dict T] [Touch .start T] [Touch .fw T] [Touch .media T] [Touch .chan T] [Touch .dec T] [Touch .players T] [Touch .acts T] [Touch .engines T] [Touch .groups T] [Touch .traces T] [Touch .motion T] [Touch .girth T] [Touch .host T] [Touch .layout T] [Touch .mem T] [Touch .fab T] [Touch .coll T] [Touch .raised T] [Touch .outs T] [Touch .free T] (s : State) (hwf : Within T z s) :
    Within T z (restartNormal s) := by
  simp (maxDischargeDepth := 30) [restartNormal, *]

@[simp] theorem restartMaintenance_frame [Touch .objs T] [Touch .power T] [Touch .dict T] [Touch .start T] [Touch .fw T] [Touch .media T] [Touch .chan T] [Touch .dec T] [Touch .players T] [Touch .acts T] [Touch .engines T] [Touch .groups T] [Touch .traces T] [Touch .motion T] [Touch .girth T] [Touch .host T] [Touch .layout T] [Touch .mem T] [Touch .fab T] [Touch .coll T] [Touch .raised T] [Touch .outs T] [Touch .free T] (s : State) (hwf : Within T z s) :
    Within T z (restartMaintenance s) := by
  simp (maxDischargeDepth := 30) [restartMaintenance, *]

end Sys2Proof.Machine
end

