-- ==== Sys2Proof/Laws/FrameDictRead.lean ====
section
/-! SUPPORT. The parts of the state that every operation of Machine/DictRead.lean can change. -/

namespace Sys2Proof.Machine

variable {T : List Part} {z : State}

@[simp] theorem freeVal_frame [Touch .free T] (s : State) (k : Key) (hwf : Within T z s) :
    Within T z (freeVal s k).2 := by
  simp only [freeVal]
  repeat' split
  all_goals simp (maxDischargeDepth := 30) [*]

@[simp] theorem readValue_frame [Touch .objs T] [Touch .fw T] [Touch .free T] (s : State) (who : Requester) (k : Key) (hwf : Within T z s) :
    Within T z (readValue s who k).2 := by
  simp only [readValue]
  repeat' split
  all_goals simp (maxDischargeDepth := 30) [*]

@[simp] theorem readObject_frame [Touch .objs T] [Touch .fw T] [Touch .free T] (s : State) (who : Requester) (k : Key) (scalarOnly : Bool) (hwf : Within T z s) :
    Within T z (readObject s who k scalarOnly).2.2 := by
  simp only [readObject]
  split <;> simp (maxDischargeDepth := 30) [*]

@[simp] theorem bumpGen_frame [Touch .dict T] (s : State) (k : Key) (hwf : Within T z s) :
    Within T z (bumpGen s k) := by
  simp (maxDischargeDepth := 30) [bumpGen, *]

@[simp] theorem noteContents_frame [Touch .dict T] (s : State) (k : Key) (b : List Byte) (hwf : Within T z s) :
    Within T z (noteContents s k b) := by
  simp only [noteContents]
  repeat' split
  all_goals simp (maxDischargeDepth := 30) [*]

@[simp] theorem readSegment_frame [Touch .objs T] [Touch .dict T] [Touch .fw T] [Touch .free T] (s : State) (who : Requester) (k : Key) (off : ℕ) (len : ℕ) (hwf : Within T z s) :
    Within T z (readSegment s who k off len).2 := by
  simp only [readSegment]
  split <;> simp (maxDischargeDepth := 30) [*]

end Sys2Proof.Machine
end

