-- ==== Sys2Proof/Laws/FrameDictWrite.lean ====
section
/-! SUPPORT. The parts of the state that every operation of Machine/DictWrite.lean can change. -/

namespace Sys2Proof.Machine

variable {T : List Part} {z : State}

@[simp] theorem settleActuator_frame [Touch .objs T] [Touch .motion T] [Touch .layout T] [Touch .free T] (s : State) (a : ℕ) (hwf : Within T z s) :
    Within T z (settleActuator s a) := by
  simp (maxDischargeDepth := 30) [settleActuator, *]

@[simp] theorem disableUnit_frame [Touch .objs T] [Touch .power T] [Touch .dict T] [Touch .start T] [Touch .fw T] [Touch .media T] [Touch .chan T] [Touch .dec T] [Touch .players T] [Touch .acts T] [Touch .engines T] [Touch .groups T] [Touch .traces T] [Touch .motion T] [Touch .girth T] [Touch .host T] [Touch .layout T] [Touch .mem T] [Touch .fab T] [Touch .coll T] [Touch .raised T] [Touch .outs T] [Touch .free T] (s : State) (o : Owner) (hwf : Within T z s) :
    Within T z (disableUnit s o) := by
  unfold disableUnit
  repeat' split
  all_goals simp_all (maxDischargeDepth := 30)

@[simp] theorem enableUnit_frame [Touch .objs T] [Touch .start T] [Touch .dec T] [Touch .players T] [Touch .engines T] [Touch .groups T] [Touch .motion T] [Touch .girth T] [Touch .host T] [Touch .free T] (s : State) (o : Owner) (hwf : Within T z s) :
    Within T z (enableUnit s o) := by
  simp only [enableUnit]
  split <;> simp (maxDischargeDepth := 30) [*]

@[simp] theorem enableWrite_frame [Touch .objs T] [Touch .power T] [Touch .dict T] [Touch .start T] [Touch .fw T] [Touch .media T] [Touch .chan T] [Touch .dec T] [Touch .players T] [Touch .acts T] [Touch .engines T] [Touch .groups T] [Touch .traces T] [Touch .motion T] [Touch .girth T] [Touch .host T] [Touch .layout T] [Touch .mem T] [Touch .fab T] [Touch .coll T] [Touch .raised T] [Touch .outs T] [Touch .free T] (s : State) (o : Owner) (v : ℕ) (hwf : Within T z s) :
    Within T z (enableWrite s o v) := by
  simp only [enableWrite]
  split <;> simp (maxDischargeDepth := 30) [*]

@[simp] theorem quiesced_frame [Touch .objs T] [Touch .motion T] [Touch .layout T] [Touch .free T] (s : State) (o : Owner) (hwf : Within T z s) :
    Within T z (quiesced s o) := by
  simp only [quiesced]
  split <;> simp (maxDischargeDepth := 30) [*]

@[simp] theorem mailboxStart_frame [Touch .objs T] [Touch .dict T] (s : State) (core : ℕ) (cmd : ℕ) (hwf : Within T z s) :
    Within T z (mailboxStart s core cmd) := by
  simp (maxDischargeDepth := 30) [mailboxStart, *]

theorem optWithin_orElse {a b : Option State} (ha : optWithin T z a) (hb : optWithin T z b) : optWithin T z (a <|> b) := by
  cases a <;> assumption

theorem optWithin_map {α : Type} {o : Option α} {f : α → State} (hf : ∀ x, Within T z (f x)) : optWithin T z (o.map f) := by
  cases o <;> simp [hf]

@[simp] theorem optWithin_ite {c : Prop} [Decidable c] (a b : Option State) : optWithin T z (if c then a else b) = if c then optWithin T z a else optWithin T z b :=
  apply_ite _ _ _ _

@[simp] theorem actService_frame [Touch .objs T] [Touch .power T] [Touch .dict T] [Touch .start T] [Touch .fw T] [Touch .media T] [Touch .chan T] [Touch .dec T] [Touch .players T] [Touch .acts T] [Touch .engines T] [Touch .groups T] [Touch .traces T] [Touch .motion T] [Touch .girth T] [Touch .host T] [Touch .layout T] [Touch .mem T] [Touch .fab T] [Touch .coll T] [Touch .raised T] [Touch .outs T] [Touch .free T] (s : State) (who : Requester) (k : Key) (v : Val) (h : Within T z s) : optWithin T z (actService s who k v) := by
  have h1 : optWithin T z ((unitIx Obj.captureClear 9 k).map fun r => if v.toNum = 1 then captureRearm s r else s) :=
    optWithin_map fun r => by split <;> simp [h]
  simp (maxDischargeDepth := 30) [actService, h, h1]

@[simp] theorem actServo_frame [Touch .objs T] [Touch .chan T] [Touch .dec T] [Touch .players T] [Touch .acts T] [Touch .engines T] [Touch .groups T] [Touch .traces T] [Touch .mem T] [Touch .raised T] [Touch .outs T] [Touch .free T] (s : State) (k : Key) (v : Val) (h : Within T z s) : optWithin T z (actServo s k v) := by
  unfold actServo
  dsimp only
  repeat' apply optWithin_orElse
  all_goals
    refine optWithin_map fun x => ?_
    simp (maxDischargeDepth := 30) [h]

@[simp] theorem actCore_frame [Touch .objs T] [Touch .dict T] [Touch .mem T] [Touch .fab T] [Touch .free T] (s : State) (k : Key) (v : Val) (h : Within T z s) : optWithin T z (actCore s k v) := by
  unfold actCore
  dsimp only
  repeat' apply optWithin_orElse
  all_goals
    refine optWithin_map fun x => ?_
    simp (maxDischargeDepth := 30) [h]

@[simp] theorem effect_frame [Touch .objs T] [Touch .power T] [Touch .dict T] [Touch .start T] [Touch .fw T] [Touch .media T] [Touch .chan T] [Touch .dec T] [Touch .players T] [Touch .acts T] [Touch .engines T] [Touch .groups T] [Touch .traces T] [Touch .motion T] [Touch .girth T] [Touch .host T] [Touch .layout T] [Touch .mem T] [Touch .fab T] [Touch .coll T] [Touch .raised T] [Touch .outs T] [Touch .free T] (s : State) (who : Requester) (k : Key) (v : Val) (hwf : Within T z s) :
    Within T z (effect s who k v) := by
  simp (maxDischargeDepth := 30) [effect, *]

@[simp] theorem selfCheckOutcome_frame [Touch .free T] (s : State) (due : Bool) (given : Option Bool) (hwf : Within T z s) :
    Within T z (selfCheckOutcome s due given).2 := by
  simp only [selfCheckOutcome]
  repeat' split
  all_goals simp (maxDischargeDepth := 30) [*]

@[simp] theorem selfCheckEvent_frame [Touch .raised T] (s : State) (k : Key) (v : Option Val) (pass : Bool) (hwf : Within T z s) :
    Within T z (selfCheckEvent s k v pass) := by
  simp only [selfCheckEvent]
  split <;> simp (maxDischargeDepth := 30) [*]

@[simp] theorem writeObject_frame [Touch .objs T] [Touch .power T] [Touch .dict T] [Touch .start T] [Touch .fw T] [Touch .media T] [Touch .chan T] [Touch .dec T] [Touch .players T] [Touch .acts T] [Touch .engines T] [Touch .groups T] [Touch .traces T] [Touch .motion T] [Touch .girth T] [Touch .host T] [Touch .layout T] [Touch .mem T] [Touch .fab T] [Touch .coll T] [Touch .raised T] [Touch .outs T] [Touch .free T] (s : State) (who : Requester) (k : Key) (v : Option Val) (given : Option Bool) (answer : State → Nat → State)
    (h : Within T z s) (ha : ∀ t n, Within T z t → Within T z (answer t n)) : Within T z (writeObject s who k v given answer) := by
  simp only [writeObject]
  repeat' first | (simp +contextual (maxDischargeDepth := 30) [*]; done) | split

@[simp] theorem writeList_frame [Touch .objs T] [Touch .power T] [Touch .dict T] [Touch .start T] [Touch .fw T] [Touch .media T] [Touch .chan T] [Touch .dec T] [Touch .players T] [Touch .acts T] [Touch .engines T] [Touch .groups T] [Touch .traces T] [Touch .motion T] [Touch .girth T] [Touch .host T] [Touch .layout T] [Touch .mem T] [Touch .fab T] [Touch .coll T] [Touch .raised T] [Touch .outs T] [Touch .free T] (s : State) (who : Requester) (l : List (Key × Option Val)) (answer : State → Option (Nat × Nat) → State)
    (h : Within T z s) (ha : ∀ t n, Within T z t → Within T z (answer t n)) : Within T z (writeList s who l answer) := by
  have run : ∀ (t : State) (m : List (Key × Option Val)), Within T z t → Within T z (m.foldl (fun s e => match e.2 with
      | some v => effect s who e.1 v
      | none => s) t) := fun t m ht => foldl_frame ht fun u e hu => by split <;> simp [hu]
  have h0 := fun d => selfCheckOutcome_frame s d none h
  simp only [writeList]
  split
  · repeat' first | (simp +contextual (maxDischargeDepth := 30) [*]; done) | split
  · split
    · exact run _ _ (ha _ _ (h0 _))
    · exact ha _ _ (run _ _ (h0 _))

@[simp] theorem dropStaging_frame [Touch .dict T] (s : State) (k : Key) (hwf : Within T z s) :
    Within T z (dropStaging s k) := by
  simp (maxDischargeDepth := 30) [dropStaging, *]

@[simp] theorem applyBlob_frame [Touch .objs T] [Touch .fw T] [Touch .raised T] (s : State) (k : Key) (b : List Byte) (hwf : Within T z s) :
    Within T z (applyBlob s k b).2 := by
  simp only [applyBlob]
  repeat' split
  all_goals simp (maxDischargeDepth := 30) [*]

@[simp] theorem writeSegment_frame [Touch .objs T] [Touch .dict T] [Touch .fw T] [Touch .raised T] (s : State) (who : Requester) (k : Key) (off : ℕ) (data : List Byte) (last : Bool) (hwf : Within T z s) :
    Within T z (writeSegment s who k off data last).2.2 := by
  simp only [writeSegment]
  repeat' split
  all_goals simp (maxDischargeDepth := 30) [*]

@[simp] theorem mailboxEnd_frame [Touch .objs T] [Touch .dict T] (s : State) (core : ℕ) (status : ℕ) (gen : ℕ) (hwf : Within T z s) :
    Within T z (mailboxEnd s core status gen) := by
  simp (maxDischargeDepth := 30) [mailboxEnd, *]

@[simp] theorem mailboxMove_frame [Touch .objs T] [Touch .power T] [Touch .dict T] [Touch .start T] [Touch .fw T] [Touch .media T] [Touch .chan T] [Touch .dec T] [Touch .players T] [Touch .acts T] [Touch .engines T] [Touch .groups T] [Touch .traces T] [Touch .motion T] [Touch .girth T] [Touch .host T] [Touch .layout T] [Touch .mem T] [Touch .fab T] [Touch .coll T] [Touch .raised T] [Touch .outs T] [Touch .free T] (s : State) (who : Requester) (core : ℕ) (j : MailboxJob) (hwf : Within T z s) :
    Within T z (mailboxMove s who core j) := by
  unfold mailboxMove
  repeat' first | (simp +contextual (maxDischargeDepth := 30) [*]; done) | split

end Sys2Proof.Machine
end

