-- ==== Sys2Proof/Laws/FrameDictService.lean ====
section
/-! SUPPORT. The parts of the state that every operation of Machine/DictService.lean can change. -/

namespace Sys2Proof.Machine

variable {T : List Part} {z : State}

theorem execDictionaryGet_frame [Touch .objs T] [Touch .fw T] [Touch .motion T] [Touch .host T] [Touch .coll T] [Touch .outs T] [Touch .free T] (slot : ℕ) (s : State) (hwf : Within T z s) :
    outWithin T z (execDictionaryGet slot s) := by
  simp only [execDictionaryGet]
  split <;> simp (maxDischargeDepth := 30) [*]

theorem execDictionarySet_frame [Touch .objs T] [Touch .power T] [Touch .dict T] [Touch .start T] [Touch .fw T] [Touch .media T] [Touch .chan T] [Touch .dec T] [Touch .players T] [Touch .acts T] [Touch .engines T] [Touch .groups T] [Touch .traces T] [Touch .motion T] [Touch .girth T] [Touch .host T] [Touch .layout T] [Touch .mem T] [Touch .fab T] [Touch .coll T] [Touch .raised T] [Touch .outs T] [Touch .free T] (slot : ℕ) (data : List Byte) (s : State) (hwf : Within T z s) :
    outWithin T z (execDictionarySet slot data s) := by
  unfold execDictionarySet
  repeat' split
  all_goals simp_all (maxDischargeDepth := 30)

theorem execDictionarySetList_frame [Touch .objs T] [Touch .power T] [Touch .dict T] [Touch .start T] [Touch .fw T] [Touch .media T] [Touch .chan T] [Touch .dec T] [Touch .players T] [Touch .acts T] [Touch .engines T] [Touch .groups T] [Touch .traces T] [Touch .motion T] [Touch .girth T] [Touch .host T] [Touch .layout T] [Touch .mem T] [Touch .fab T] [Touch .coll T] [Touch .raised T] [Touch .outs T] [Touch .free T] (slot : ℕ) (data : List Byte) (s : State) (hwf : Within T z s) :
    outWithin T z (execDictionarySetList slot data s) := by
  unfold execDictionarySetList
  dsimp only
  repeat' split
  all_goals rw [outWithin_next]
  · exact hwf
  · exact hwf
  · simp [hwf]
  · refine writeList_frame _ _ _ _ hwf fun t n ht => ?_
    split <;> simp [ht]

theorem execDictionaryBlockRead_frame [Touch .objs T] [Touch .dict T] [Touch .fw T] [Touch .motion T] [Touch .host T] [Touch .coll T] [Touch .outs T] [Touch .free T] (slot : ℕ) (s : State) (hwf : Within T z s) :
    outWithin T z (execDictionaryBlockRead slot s) := by
  simp only [execDictionaryBlockRead]
  split <;> simp (maxDischargeDepth := 30) [*]

@[simp] theorem readList_frame [Touch .objs T] [Touch .fw T] [Touch .free T] (who : Requester) (l : List Key) (s : State) (h : Within T z s) : Within T z (readList who l s).2 := by
  induction l generalizing s with
  | nil => exact h
  | cons k r ih =>
    have h1 := readObject_frame s who k true h
    rw [readList]
    generalize readObject s who k true = x at h1 ⊢
    obtain ⟨st, v, t⟩ := x
    dsimp only at h1 ⊢
    split
    · exact ih _ h1
    · exact ih _ (State.draw_frame _ h1)

theorem execDictionaryListRead_frame [Touch .objs T] [Touch .fw T] [Touch .motion T] [Touch .host T] [Touch .coll T] [Touch .outs T] [Touch .free T] (slot : ℕ) (s : State) (hwf : Within T z s) :
    outWithin T z (execDictionaryListRead slot s) := by
  simp only [execDictionaryListRead]
  split <;> simp (maxDischargeDepth := 30) [*]

@[simp] theorem respond_frame [Touch .dict T] [Touch .outs T] (s : State) (h : BolhobaHeader) (opcode : ℕ) (st : ℕ) (idx : ℕ) (sub : ℕ) (count : ℕ) (payload : List Byte) (hwf : Within T z s) :
    Within T z (respond s h opcode st idx sub count payload) := by
  simp (maxDischargeDepth := 30) [respond, *]

@[simp] theorem answerBolhoba_frame [Touch .dict T] [Touch .outs T] (s : State) (h : BolhobaHeader) (opcode : ℕ) (st : ℕ) (payload : List Byte) (hwf : Within T z s) :
    Within T z (answerBolhoba s h opcode st payload) := by
  simp (maxDischargeDepth := 30) [answerBolhoba, *]

@[simp] theorem bolhobaTurned_frame [Touch .outs T] (s : State) (h : BolhobaHeader) (opcode : ℕ) (hwf : Within T z s) :
    Within T z (bolhobaTurned s h opcode) := by
  simp (maxDischargeDepth := 30) [bolhobaTurned, *]

theorem execBolhobaGet_frame [Touch .objs T] [Touch .dict T] [Touch .fw T] [Touch .outs T] [Touch .free T] (h : BolhobaHeader) (s : State) (hwf : Within T z s) :
    outWithin T z (execBolhobaGet h s) := by
  simp (maxDischargeDepth := 30) [execBolhobaGet, *]

theorem execBolhobaSet_frame [Touch .objs T] [Touch .power T] [Touch .dict T] [Touch .start T] [Touch .fw T] [Touch .media T] [Touch .chan T] [Touch .dec T] [Touch .players T] [Touch .acts T] [Touch .engines T] [Touch .groups T] [Touch .traces T] [Touch .motion T] [Touch .girth T] [Touch .host T] [Touch .layout T] [Touch .mem T] [Touch .fab T] [Touch .coll T] [Touch .raised T] [Touch .outs T] [Touch .free T] (h : BolhobaHeader) (typ : ℕ) (len : ℕ) (value : List Byte) (s : State) (hwf : Within T z s) :
    outWithin T z (execBolhobaSet h typ len value s) := by
  unfold execBolhobaSet
  repeat' split
  all_goals simp_all (maxDischargeDepth := 30)

theorem execBolhobaListGet_frame [Touch .objs T] [Touch .dict T] [Touch .fw T] [Touch .outs T] [Touch .free T] (h : BolhobaHeader) (keys : List (ℕ × ℕ)) (s : State) (hwf : Within T z s) :
    outWithin T z (execBolhobaListGet h keys s) := by
  simp (maxDischargeDepth := 30) [execBolhobaListGet, *]

theorem execBolhobaListSet_frame [Touch .objs T] [Touch .power T] [Touch .dict T] [Touch .start T] [Touch .fw T] [Touch .media T] [Touch .chan T] [Touch .dec T] [Touch .players T] [Touch .acts T] [Touch .engines T] [Touch .groups T] [Touch .traces T] [Touch .motion T] [Touch .girth T] [Touch .host T] [Touch .layout T] [Touch .mem T] [Touch .fab T] [Touch .coll T] [Touch .raised T] [Touch .outs T] [Touch .free T] (h : BolhobaHeader) (entries : List ListEntry) (s : State) (hwf : Within T z s) :
    outWithin T z (execBolhobaListSet h entries s) := by
  unfold execBolhobaListSet
  split
  · simp [hwf]
  · split
    · simp [hwf]
    · refine writeList_frame _ _ _ _ hwf fun t n ht => ?_
      split
      · split <;> simp [ht]
      · simp [ht]

theorem execBolhobaBlockRead_frame [Touch .objs T] [Touch .dict T] [Touch .fw T] [Touch .outs T] [Touch .free T] (h : BolhobaHeader) (offset : ℕ) (len : ℕ) (s : State) (hwf : Within T z s) :
    outWithin T z (execBolhobaBlockRead h offset len s) := by
  simp (maxDischargeDepth := 30) [execBolhobaBlockRead, *]

theorem execBolhobaBlockWrite_frame [Touch .objs T] [Touch .dict T] [Touch .fw T] [Touch .raised T] [Touch .outs T] [Touch .free T] (h : BolhobaHeader) (offset : ℕ) (last : Bool) (data : List Byte) (s : State) (hwf : Within T z s) :
    outWithin T z (execBolhobaBlockWrite h offset last data s) := by
  simp (maxDischargeDepth := 30) [execBolhobaBlockWrite, *]

theorem execBolhobaUnknownOpcode_frame [Touch .dict T] [Touch .outs T] (h : BolhobaHeader) (pen : ℕ) (version : ℕ) (opcode : ℕ) (s : State) (hwf : Within T z s) :
    outWithin T z (execBolhobaUnknownOpcode h pen version opcode s) := by
  simp (maxDischargeDepth := 30) [execBolhobaUnknownOpcode, *]

theorem execFactoryFrameGap_frame (s : State) (hwf : Within T z s) :
    outWithin T z (execFactoryFrameGap s) := by
  simp (maxDischargeDepth := 30) [execFactoryFrameGap, *]

theorem execDynamicAddressAssignment_frame [Touch .objs T] (addr : ℕ) (s : State) (hwf : Within T z s) :
    outWithin T z (execDynamicAddressAssignment addr s) := by
  simp (maxDischargeDepth := 30) [execDynamicAddressAssignment, *]

@[simp] theorem noteStatus_frame [Touch .dict T] (s : State) (core : ℕ) (k : Key) (st : ℕ) (hwf : Within T z s) :
    Within T z (noteStatus s core k st) := by
  simp (maxDischargeDepth := 30) [noteStatus, *]

@[simp] theorem windowValue_frame [Touch .objs T] [Touch .fw T] [Touch .free T] (s : State) (who : Requester) (k : Key) (hwf : Within T z s) :
    Within T z (windowValue s who k).2.2 := by
  simp only [windowValue]
  split <;> simp (maxDischargeDepth := 30) [*]

@[simp] theorem windowLoad_frame [Touch .objs T] [Touch .dict T] [Touch .fw T] [Touch .raised T] [Touch .outs T] [Touch .free T] (s : State) (core : Fin 9) (addr : ℕ) (width : ℕ) (hwf : Within T z s) :
    Within T z (windowLoad s core addr width) := by
  simp (maxDischargeDepth := 30) [windowLoad, *]

theorem execWindowRead_frame [Touch .objs T] [Touch .dict T] [Touch .fw T] [Touch .raised T] [Touch .outs T] [Touch .free T] (core : Fin 9) (addr : ℕ) (width : ℕ) (s : State) (hwf : Within T z s) :
    outWithin T z (execWindowRead core addr width s) := by
  simp (maxDischargeDepth := 30) [execWindowRead, *]

@[simp] theorem windowStore_frame [Touch .objs T] [Touch .power T] [Touch .dict T] [Touch .start T] [Touch .fw T] [Touch .media T] [Touch .chan T] [Touch .dec T] [Touch .players T] [Touch .acts T] [Touch .engines T] [Touch .groups T] [Touch .traces T] [Touch .motion T] [Touch .girth T] [Touch .host T] [Touch .layout T] [Touch .mem T] [Touch .fab T] [Touch .coll T] [Touch .raised T] [Touch .outs T] [Touch .free T] (s : State) (core : Fin 9) (addr : ℕ) (width : ℕ) (value : ℕ) (hwf : Within T z s) :
    Within T z (windowStore s core addr width value) := by
  unfold windowStore
  repeat' split
  all_goals simp_all (maxDischargeDepth := 30)

theorem execWindowWrite_frame [Touch .objs T] [Touch .power T] [Touch .dict T] [Touch .start T] [Touch .fw T] [Touch .media T] [Touch .chan T] [Touch .dec T] [Touch .players T] [Touch .acts T] [Touch .engines T] [Touch .groups T] [Touch .traces T] [Touch .motion T] [Touch .girth T] [Touch .host T] [Touch .layout T] [Touch .mem T] [Touch .fab T] [Touch .coll T] [Touch .raised T] [Touch .outs T] [Touch .free T] (core : Fin 9) (addr : ℕ) (width : ℕ) (value : ℕ) (s : State) (hwf : Within T z s) :
    outWithin T z (execWindowWrite core addr width value s) := by
  simp (maxDischargeDepth := 30) [execWindowWrite, *]

@[simp] theorem answerPlain_frame [Touch .dict T] [Touch .outs T] (who : Requester) (k : Key) (s : State) (st : ℕ) (hwf : Within T z s) :
    Within T z (answerPlain who k s st) := by
  simp only [answerPlain]
  split <;> simp (maxDischargeDepth := 30) [*]

@[simp] theorem commandWrite_frame [Touch .objs T] [Touch .power T] [Touch .dict T] [Touch .start T] [Touch .fw T] [Touch .media T] [Touch .chan T] [Touch .dec T] [Touch .players T] [Touch .acts T] [Touch .engines T] [Touch .groups T] [Touch .traces T] [Touch .motion T] [Touch .girth T] [Touch .host T] [Touch .layout T] [Touch .mem T] [Touch .fab T] [Touch .coll T] [Touch .raised T] [Touch .outs T] [Touch .free T] (s : State) (who : Requester) (k : Key) (v : Option Val) (check : optParam (Option Bool) none) (hwf : Within T z s) :
    Within T z (commandWrite s who k v check) := by
  unfold commandWrite
  repeat' split
  all_goals simp_all (maxDischargeDepth := 30)

@[simp] theorem commandLast_frame [Touch .objs T] [Touch .dict T] [Touch .fw T] [Touch .raised T] [Touch .outs T] (s : State) (who : Requester) (k : Key) (offset : ℕ) (data : List Byte) (hwf : Within T z s) :
    Within T z (commandLast s who k offset data) := by
  simp (maxDischargeDepth := 30) [commandLast, *]

theorem execPowerCapWrite_frame [Touch .objs T] [Touch .power T] [Touch .dict T] [Touch .start T] [Touch .fw T] [Touch .media T] [Touch .chan T] [Touch .dec T] [Touch .players T] [Touch .acts T] [Touch .engines T] [Touch .groups T] [Touch .traces T] [Touch .motion T] [Touch .girth T] [Touch .host T] [Touch .layout T] [Touch .mem T] [Touch .fab T] [Touch .coll T] [Touch .raised T] [Touch .outs T] [Touch .free T] (who : Requester) (value : ℕ) (s : State) (hwf : Within T z s) :
    outWithin T z (execPowerCapWrite who value s) := by
  simp (maxDischargeDepth := 30) [execPowerCapWrite, *]

theorem execStore_frame [Touch .objs T] [Touch .power T] [Touch .dict T] [Touch .start T] [Touch .fw T] [Touch .media T] [Touch .chan T] [Touch .dec T] [Touch .players T] [Touch .acts T] [Touch .engines T] [Touch .groups T] [Touch .traces T] [Touch .motion T] [Touch .girth T] [Touch .host T] [Touch .layout T] [Touch .mem T] [Touch .fab T] [Touch .coll T] [Touch .raised T] [Touch .outs T] [Touch .free T] (who : Requester) (value : ℕ) (s : State) (hwf : Within T z s) :
    outWithin T z (execStore who value s) := by
  simp (maxDischargeDepth := 30) [execStore, *]

theorem execRestoreDefaults_frame [Touch .objs T] [Touch .power T] [Touch .dict T] [Touch .start T] [Touch .fw T] [Touch .media T] [Touch .chan T] [Touch .dec T] [Touch .players T] [Touch .acts T] [Touch .engines T] [Touch .groups T] [Touch .traces T] [Touch .motion T] [Touch .girth T] [Touch .host T] [Touch .layout T] [Touch .mem T] [Touch .fab T] [Touch .coll T] [Touch .raised T] [Touch .outs T] [Touch .free T] (who : Requester) (value : ℕ) (s : State) (hwf : Within T z s) :
    outWithin T z (execRestoreDefaults who value s) := by
  simp (maxDischargeDepth := 30) [execRestoreDefaults, *]

theorem execUnitDisable_frame [Touch .objs T] [Touch .power T] [Touch .dict T] [Touch .start T] [Touch .fw T] [Touch .media T] [Touch .chan T] [Touch .dec T] [Touch .players T] [Touch .acts T] [Touch .engines T] [Touch .groups T] [Touch .traces T] [Touch .motion T] [Touch .girth T] [Touch .host T] [Touch .layout T] [Touch .mem T] [Touch .fab T] [Touch .coll T] [Touch .raised T] [Touch .outs T] [Touch .free T] (who : Requester) (index : ℕ) (s : State) (hwf : Within T z s) :
    outWithin T z (execUnitDisable who index s) := by
  simp (maxDischargeDepth := 30) [execUnitDisable, *]

theorem execUnitEnable_frame [Touch .objs T] [Touch .power T] [Touch .dict T] [Touch .start T] [Touch .fw T] [Touch .media T] [Touch .chan T] [Touch .dec T] [Touch .players T] [Touch .acts T] [Touch .engines T] [Touch .groups T] [Touch .traces T] [Touch .motion T] [Touch .girth T] [Touch .host T] [Touch .layout T] [Touch .mem T] [Touch .fab T] [Touch .coll T] [Touch .raised T] [Touch .outs T] [Touch .free T] (who : Requester) (index : ℕ) (selfCheck : Bool) (s : State) (hwf : Within T z s) :
    outWithin T z (execUnitEnable who index selfCheck s) := by
  simp (maxDischargeDepth := 30) [execUnitEnable, *]

theorem execUnitQuiesced_frame [Touch .objs T] [Touch .motion T] [Touch .layout T] [Touch .free T] (index : ℕ) (s : State) (hwf : Within T z s) :
    outWithin T z (execUnitQuiesced index s) := by
  simp (maxDischargeDepth := 30) [execUnitQuiesced, *]

theorem execObjectWrite_frame [Touch .objs T] [Touch .power T] [Touch .dict T] [Touch .start T] [Touch .fw T] [Touch .media T] [Touch .chan T] [Touch .dec T] [Touch .players T] [Touch .acts T] [Touch .engines T] [Touch .groups T] [Touch .traces T] [Touch .motion T] [Touch .girth T] [Touch .host T] [Touch .layout T] [Touch .mem T] [Touch .fab T] [Touch .coll T] [Touch .raised T] [Touch .outs T] [Touch .free T] (who : Requester) (index : ℕ) (sub : ℕ) (typ : ℕ) (len : ℕ) (value : List Byte) (s : State) (hwf : Within T z s) :
    outWithin T z (execObjectWrite who index sub typ len value s) := by
  simp (maxDischargeDepth := 30) [execObjectWrite, *]

theorem execRestartNormal_frame [Touch .objs T] [Touch .power T] [Touch .dict T] [Touch .start T] [Touch .fw T] [Touch .media T] [Touch .chan T] [Touch .dec T] [Touch .players T] [Touch .acts T] [Touch .engines T] [Touch .groups T] [Touch .traces T] [Touch .motion T] [Touch .girth T] [Touch .host T] [Touch .layout T] [Touch .mem T] [Touch .fab T] [Touch .coll T] [Touch .raised T] [Touch .outs T] [Touch .free T] (who : Requester) (s : State) (hwf : Within T z s) :
    outWithin T z (execRestartNormal who s) := by
  simp (maxDischargeDepth := 30) [execRestartNormal, *]

theorem execRestartMaintenance_frame [Touch .objs T] [Touch .power T] [Touch .dict T] [Touch .start T] [Touch .fw T] [Touch .media T] [Touch .chan T] [Touch .dec T] [Touch .players T] [Touch .acts T] [Touch .engines T] [Touch .groups T] [Touch .traces T] [Touch .motion T] [Touch .girth T] [Touch .host T] [Touch .layout T] [Touch .mem T] [Touch .fab T] [Touch .coll T] [Touch .raised T] [Touch .outs T] [Touch .free T] (who : Requester) (s : State) (hwf : Within T z s) :
    outWithin T z (execRestartMaintenance who s) := by
  simp (maxDischargeDepth := 30) [execRestartMaintenance, *]

theorem execBundleStageLast_frame [Touch .objs T] [Touch .dict T] [Touch .fw T] [Touch .raised T] [Touch .outs T] (who : Requester) (offset : ℕ) (data : Bytes) (s : State) (hwf : Within T z s) :
    outWithin T z (execBundleStageLast who offset data s) := by
  simp (maxDischargeDepth := 30) [execBundleStageLast, *]

theorem execRecoveryImageLast_frame [Touch .objs T] [Touch .dict T] [Touch .fw T] [Touch .raised T] [Touch .outs T] (who : Requester) (offset : ℕ) (data : Bytes) (s : State) (hwf : Within T z s) :
    outWithin T z (execRecoveryImageLast who offset data s) := by
  simp (maxDischargeDepth := 30) [execRecoveryImageLast, *]

theorem execOwnerKeyWrite_frame [Touch .objs T] [Touch .dict T] [Touch .fw T] [Touch .raised T] [Touch .outs T] (who : Requester) (offset : ℕ) (data : Bytes) (s : State) (hwf : Within T z s) :
    outWithin T z (execOwnerKeyWrite who offset data s) := by
  simp (maxDischargeDepth := 30) [execOwnerKeyWrite, *]

theorem execCertChainWrite_frame [Touch .objs T] [Touch .dict T] [Touch .fw T] [Touch .raised T] [Touch .outs T] (who : Requester) (chain : Fin 2) (offset : ℕ) (data : Bytes) (s : State) (hwf : Within T z s) :
    outWithin T z (execCertChainWrite who chain offset data s) := by
  simp (maxDischargeDepth := 30) [execCertChainWrite, *]

theorem execLifecycleNonceRead_frame [Touch .objs T] [Touch .fw T] [Touch .outs T] [Touch .free T] (who : Requester) (s : State) (hwf : Within T z s) :
    outWithin T z (execLifecycleNonceRead who s) := by
  simp (maxDischargeDepth := 30) [execLifecycleNonceRead, *]

theorem execLifecycleRequest_frame [Touch .objs T] [Touch .power T] [Touch .dict T] [Touch .start T] [Touch .fw T] [Touch .media T] [Touch .chan T] [Touch .dec T] [Touch .players T] [Touch .acts T] [Touch .engines T] [Touch .groups T] [Touch .traces T] [Touch .motion T] [Touch .girth T] [Touch .host T] [Touch .layout T] [Touch .mem T] [Touch .fab T] [Touch .coll T] [Touch .raised T] [Touch .outs T] [Touch .free T] (who : Requester) (value : List Byte) (s : State) (hwf : Within T z s) :
    outWithin T z (execLifecycleRequest who value s) := by
  simp (maxDischargeDepth := 30) [execLifecycleRequest, *]

theorem execPreampAccess_frame [Touch .objs T] [Touch .power T] [Touch .dict T] [Touch .start T] [Touch .fw T] [Touch .media T] [Touch .chan T] [Touch .dec T] [Touch .players T] [Touch .acts T] [Touch .engines T] [Touch .groups T] [Touch .traces T] [Touch .motion T] [Touch .girth T] [Touch .host T] [Touch .layout T] [Touch .mem T] [Touch .fab T] [Touch .coll T] [Touch .raised T] [Touch .outs T] [Touch .free T] (who : Requester) (a : Fin 4) (value : List Byte) (s : State) (hwf : Within T z s) :
    outWithin T z (execPreampAccess who a value s) := by
  simp (maxDischargeDepth := 30) [execPreampAccess, *]

theorem execRingTailWrite_frame [Touch .objs T] [Touch .power T] [Touch .dict T] [Touch .start T] [Touch .fw T] [Touch .media T] [Touch .chan T] [Touch .dec T] [Touch .players T] [Touch .acts T] [Touch .engines T] [Touch .groups T] [Touch .traces T] [Touch .motion T] [Touch .girth T] [Touch .host T] [Touch .layout T] [Touch .mem T] [Touch .fab T] [Touch .coll T] [Touch .raised T] [Touch .outs T] [Touch .free T] (core : Fin 9) (value : ℕ) (s : State) (hwf : Within T z s) :
    outWithin T z (execRingTailWrite core value s) := by
  simp (maxDischargeDepth := 30) [execRingTailWrite, *]

theorem execSentenceLoad_frame [Touch .objs T] [Touch .power T] [Touch .dict T] [Touch .start T] [Touch .fw T] [Touch .media T] [Touch .chan T] [Touch .dec T] [Touch .players T] [Touch .acts T] [Touch .engines T] [Touch .groups T] [Touch .traces T] [Touch .motion T] [Touch .girth T] [Touch .host T] [Touch .layout T] [Touch .mem T] [Touch .fab T] [Touch .coll T] [Touch .raised T] [Touch .outs T] [Touch .free T] (core : Fin 9) (p : Fin 8) (addr : ℕ) (s : State) (hwf : Within T z s) :
    outWithin T z (execSentenceLoad core p addr s) := by
  simp (maxDischargeDepth := 30) [execSentenceLoad, *]

theorem execPlayerAbort_frame [Touch .objs T] [Touch .power T] [Touch .dict T] [Touch .start T] [Touch .fw T] [Touch .media T] [Touch .chan T] [Touch .dec T] [Touch .players T] [Touch .acts T] [Touch .engines T] [Touch .groups T] [Touch .traces T] [Touch .motion T] [Touch .girth T] [Touch .host T] [Touch .layout T] [Touch .mem T] [Touch .fab T] [Touch .coll T] [Touch .raised T] [Touch .outs T] [Touch .free T] (core : Fin 9) (p : Fin 8) (value : ℕ) (s : State) (hwf : Within T z s) :
    outWithin T z (execPlayerAbort core p value s) := by
  simp (maxDischargeDepth := 30) [execPlayerAbort, *]

theorem execCoefWrite_frame [Touch .objs T] [Touch .power T] [Touch .dict T] [Touch .start T] [Touch .fw T] [Touch .media T] [Touch .chan T] [Touch .dec T] [Touch .players T] [Touch .acts T] [Touch .engines T] [Touch .groups T] [Touch .traces T] [Touch .motion T] [Touch .girth T] [Touch .host T] [Touch .layout T] [Touch .mem T] [Touch .fab T] [Touch .coll T] [Touch .raised T] [Touch .outs T] [Touch .free T] (who : Requester) (g : Fin 5) (value : List Byte) (s : State) (hwf : Within T z s) :
    outWithin T z (execCoefWrite who g value s) := by
  simp (maxDischargeDepth := 30) [execCoefWrite, *]

theorem execSnapRequest_frame [Touch .objs T] [Touch .power T] [Touch .dict T] [Touch .start T] [Touch .fw T] [Touch .media T] [Touch .chan T] [Touch .dec T] [Touch .players T] [Touch .acts T] [Touch .engines T] [Touch .groups T] [Touch .traces T] [Touch .motion T] [Touch .girth T] [Touch .host T] [Touch .layout T] [Touch .mem T] [Touch .fab T] [Touch .coll T] [Touch .raised T] [Touch .outs T] [Touch .free T] (who : Requester) (g : Fin 5) (value : ℕ) (s : State) (hwf : Within T z s) :
    outWithin T z (execSnapRequest who g value s) := by
  simp (maxDischargeDepth := 30) [execSnapRequest, *]

theorem execInject_frame [Touch .objs T] [Touch .power T] [Touch .dict T] [Touch .start T] [Touch .fw T] [Touch .media T] [Touch .chan T] [Touch .dec T] [Touch .players T] [Touch .acts T] [Touch .engines T] [Touch .groups T] [Touch .traces T] [Touch .motion T] [Touch .girth T] [Touch .host T] [Touch .layout T] [Touch .mem T] [Touch .fab T] [Touch .coll T] [Touch .raised T] [Touch .outs T] [Touch .free T] (who : Requester) (g : Fin 5) (slot : ℕ) (s : State) (hwf : Within T z s) :
    outWithin T z (execInject who g slot s) := by
  simp (maxDischargeDepth := 30) [execInject, *]

theorem execTraceArm_frame [Touch .objs T] [Touch .power T] [Touch .dict T] [Touch .start T] [Touch .fw T] [Touch .media T] [Touch .chan T] [Touch .dec T] [Touch .players T] [Touch .acts T] [Touch .engines T] [Touch .groups T] [Touch .traces T] [Touch .motion T] [Touch .girth T] [Touch .host T] [Touch .layout T] [Touch .mem T] [Touch .fab T] [Touch .coll T] [Touch .raised T] [Touch .outs T] [Touch .free T] (who : Requester) (a : Fin 4) (value : ℕ) (s : State) (hwf : Within T z s) :
    outWithin T z (execTraceArm who a value s) := by
  simp (maxDischargeDepth := 30) [execTraceArm, *]

theorem execTraceForce_frame [Touch .objs T] [Touch .power T] [Touch .dict T] [Touch .start T] [Touch .fw T] [Touch .media T] [Touch .chan T] [Touch .dec T] [Touch .players T] [Touch .acts T] [Touch .engines T] [Touch .groups T] [Touch .traces T] [Touch .motion T] [Touch .girth T] [Touch .host T] [Touch .layout T] [Touch .mem T] [Touch .fab T] [Touch .coll T] [Touch .raised T] [Touch .outs T] [Touch .free T] (who : Requester) (a : Fin 4) (value : ℕ) (s : State) (hwf : Within T z s) :
    outWithin T z (execTraceForce who a value s) := by
  simp (maxDischargeDepth := 30) [execTraceForce, *]

theorem execAnnounce_frame [Touch .objs T] [Touch .power T] [Touch .dict T] [Touch .start T] [Touch .fw T] [Touch .media T] [Touch .chan T] [Touch .dec T] [Touch .players T] [Touch .acts T] [Touch .engines T] [Touch .groups T] [Touch .traces T] [Touch .motion T] [Touch .girth T] [Touch .host T] [Touch .layout T] [Touch .mem T] [Touch .fab T] [Touch .coll T] [Touch .raised T] [Touch .outs T] [Touch .free T] (who : Requester) (value : List Byte) (s : State) (hwf : Within T z s) :
    outWithin T z (execAnnounce who value s) := by
  simp (maxDischargeDepth := 30) [execAnnounce, *]

theorem execDictRequest_frame [Touch .objs T] [Touch .power T] [Touch .dict T] [Touch .start T] [Touch .fw T] [Touch .media T] [Touch .chan T] [Touch .dec T] [Touch .players T] [Touch .acts T] [Touch .engines T] [Touch .groups T] [Touch .traces T] [Touch .motion T] [Touch .girth T] [Touch .host T] [Touch .layout T] [Touch .mem T] [Touch .fab T] [Touch .coll T] [Touch .raised T] [Touch .outs T] [Touch .free T] (who : Requester) (value : List Byte) (s : State) (hwf : Within T z s) :
    outWithin T z (execDictRequest who value s) := by
  simp (maxDischargeDepth := 30) [execDictRequest, *]

theorem execRetireSurface_frame [Touch .objs T] [Touch .power T] [Touch .dict T] [Touch .start T] [Touch .fw T] [Touch .media T] [Touch .chan T] [Touch .dec T] [Touch .players T] [Touch .acts T] [Touch .engines T] [Touch .groups T] [Touch .traces T] [Touch .motion T] [Touch .girth T] [Touch .host T] [Touch .layout T] [Touch .mem T] [Touch .fab T] [Touch .coll T] [Touch .raised T] [Touch .outs T] [Touch .free T] (who : Requester) (value : ℕ) (s : State) (hwf : Within T z s) :
    outWithin T z (execRetireSurface who value s) := by
  simp (maxDischargeDepth := 30) [execRetireSurface, *]

theorem execReshapeRequest_frame [Touch .objs T] [Touch .power T] [Touch .dict T] [Touch .start T] [Touch .fw T] [Touch .media T] [Touch .chan T] [Touch .dec T] [Touch .players T] [Touch .acts T] [Touch .engines T] [Touch .groups T] [Touch .traces T] [Touch .motion T] [Touch .girth T] [Touch .host T] [Touch .layout T] [Touch .mem T] [Touch .fab T] [Touch .coll T] [Touch .raised T] [Touch .outs T] [Touch .free T] (who : Requester) (value : List Byte) (s : State) (hwf : Within T z s) :
    outWithin T z (execReshapeRequest who value s) := by
  simp (maxDischargeDepth := 30) [execReshapeRequest, *]

theorem execReshapeCancel_frame [Touch .objs T] [Touch .power T] [Touch .dict T] [Touch .start T] [Touch .fw T] [Touch .media T] [Touch .chan T] [Touch .dec T] [Touch .players T] [Touch .acts T] [Touch .engines T] [Touch .groups T] [Touch .traces T] [Touch .motion T] [Touch .girth T] [Touch .host T] [Touch .layout T] [Touch .mem T] [Touch .fab T] [Touch .coll T] [Touch .raised T] [Touch .outs T] [Touch .free T] (who : Requester) (value : List Byte) (s : State) (hwf : Within T z s) :
    outWithin T z (execReshapeCancel who value s) := by
  simp (maxDischargeDepth := 30) [execReshapeCancel, *]

theorem execZeroRange_frame [Touch .objs T] [Touch .power T] [Touch .dict T] [Touch .start T] [Touch .fw T] [Touch .media T] [Touch .chan T] [Touch .dec T] [Touch .players T] [Touch .acts T] [Touch .engines T] [Touch .groups T] [Touch .traces T] [Touch .motion T] [Touch .girth T] [Touch .host T] [Touch .layout T] [Touch .mem T] [Touch .fab T] [Touch .coll T] [Touch .raised T] [Touch .outs T] [Touch .free T] (who : Requester) (value : List Byte) (s : State) (hwf : Within T z s) :
    outWithin T z (execZeroRange who value s) := by
  simp (maxDischargeDepth := 30) [execZeroRange, *]

@[simp] theorem maintWrite_frame [Touch .objs T] [Touch .power T] [Touch .dict T] [Touch .start T] [Touch .fw T] [Touch .media T] [Touch .chan T] [Touch .dec T] [Touch .players T] [Touch .acts T] [Touch .engines T] [Touch .groups T] [Touch .traces T] [Touch .motion T] [Touch .girth T] [Touch .host T] [Touch .layout T] [Touch .mem T] [Touch .fab T] [Touch .coll T] [Touch .raised T] [Touch .outs T] [Touch .free T] (s : State) (core : Fin 9) (op : ℕ) (hwf : Within T z s) :
    Within T z (maintWrite s core op) := by
  simp (maxDischargeDepth := 30) [maintWrite, *]

theorem execCacheClean_frame [Touch .objs T] [Touch .power T] [Touch .dict T] [Touch .start T] [Touch .fw T] [Touch .media T] [Touch .chan T] [Touch .dec T] [Touch .players T] [Touch .acts T] [Touch .engines T] [Touch .groups T] [Touch .traces T] [Touch .motion T] [Touch .girth T] [Touch .host T] [Touch .layout T] [Touch .mem T] [Touch .fab T] [Touch .coll T] [Touch .raised T] [Touch .outs T] [Touch .free T] (core : Fin 9) (s : State) (hwf : Within T z s) :
    outWithin T z (execCacheClean core s) := by
  simp (maxDischargeDepth := 30) [execCacheClean, *]

theorem execCacheInvalidate_frame [Touch .objs T] [Touch .power T] [Touch .dict T] [Touch .start T] [Touch .fw T] [Touch .media T] [Touch .chan T] [Touch .dec T] [Touch .players T] [Touch .acts T] [Touch .engines T] [Touch .groups T] [Touch .traces T] [Touch .motion T] [Touch .girth T] [Touch .host T] [Touch .layout T] [Touch .mem T] [Touch .fab T] [Touch .coll T] [Touch .raised T] [Touch .outs T] [Touch .free T] (core : Fin 9) (s : State) (hwf : Within T z s) :
    outWithin T z (execCacheInvalidate core s) := by
  simp (maxDischargeDepth := 30) [execCacheInvalidate, *]

theorem execCacheCleanInvalidate_frame [Touch .objs T] [Touch .power T] [Touch .dict T] [Touch .start T] [Touch .fw T] [Touch .media T] [Touch .chan T] [Touch .dec T] [Touch .players T] [Touch .acts T] [Touch .engines T] [Touch .groups T] [Touch .traces T] [Touch .motion T] [Touch .girth T] [Touch .host T] [Touch .layout T] [Touch .mem T] [Touch .fab T] [Touch .coll T] [Touch .raised T] [Touch .outs T] [Touch .free T] (core : Fin 9) (s : State) (hwf : Within T z s) :
    outWithin T z (execCacheCleanInvalidate core s) := by
  simp (maxDischargeDepth := 30) [execCacheCleanInvalidate, *]

theorem execCacheFillLock_frame [Touch .objs T] [Touch .power T] [Touch .dict T] [Touch .start T] [Touch .fw T] [Touch .media T] [Touch .chan T] [Touch .dec T] [Touch .players T] [Touch .acts T] [Touch .engines T] [Touch .groups T] [Touch .traces T] [Touch .motion T] [Touch .girth T] [Touch .host T] [Touch .layout T] [Touch .mem T] [Touch .fab T] [Touch .coll T] [Touch .raised T] [Touch .outs T] [Touch .free T] (core : Fin 9) (s : State) (hwf : Within T z s) :
    outWithin T z (execCacheFillLock core s) := by
  simp (maxDischargeDepth := 30) [execCacheFillLock, *]

theorem execCacheUnlock_frame [Touch .objs T] [Touch .power T] [Touch .dict T] [Touch .start T] [Touch .fw T] [Touch .media T] [Touch .chan T] [Touch .dec T] [Touch .players T] [Touch .acts T] [Touch .engines T] [Touch .groups T] [Touch .traces T] [Touch .motion T] [Touch .girth T] [Touch .host T] [Touch .layout T] [Touch .mem T] [Touch .fab T] [Touch .coll T] [Touch .raised T] [Touch .outs T] [Touch .free T] (core : Fin 9) (s : State) (hwf : Within T z s) :
    outWithin T z (execCacheUnlock core s) := by
  simp (maxDischargeDepth := 30) [execCacheUnlock, *]

theorem execCacheCleanSw_frame [Touch .objs T] [Touch .power T] [Touch .dict T] [Touch .start T] [Touch .fw T] [Touch .media T] [Touch .chan T] [Touch .dec T] [Touch .players T] [Touch .acts T] [Touch .engines T] [Touch .groups T] [Touch .traces T] [Touch .motion T] [Touch .girth T] [Touch .host T] [Touch .layout T] [Touch .mem T] [Touch .fab T] [Touch .coll T] [Touch .raised T] [Touch .outs T] [Touch .free T] (core : Fin 9) (s : State) (hwf : Within T z s) :
    outWithin T z (execCacheCleanSw core s) := by
  simp (maxDischargeDepth := 30) [execCacheCleanSw, *]

theorem execCacheInvalidateSw_frame [Touch .objs T] [Touch .power T] [Touch .dict T] [Touch .start T] [Touch .fw T] [Touch .media T] [Touch .chan T] [Touch .dec T] [Touch .players T] [Touch .acts T] [Touch .engines T] [Touch .groups T] [Touch .traces T] [Touch .motion T] [Touch .girth T] [Touch .host T] [Touch .layout T] [Touch .mem T] [Touch .fab T] [Touch .coll T] [Touch .raised T] [Touch .outs T] [Touch .free T] (core : Fin 9) (s : State) (hwf : Within T z s) :
    outWithin T z (execCacheInvalidateSw core s) := by
  simp (maxDischargeDepth := 30) [execCacheInvalidateSw, *]

theorem execCacheCleanInvalidateSw_frame [Touch .objs T] [Touch .power T] [Touch .dict T] [Touch .start T] [Touch .fw T] [Touch .media T] [Touch .chan T] [Touch .dec T] [Touch .players T] [Touch .acts T] [Touch .engines T] [Touch .groups T] [Touch .traces T] [Touch .motion T] [Touch .girth T] [Touch .host T] [Touch .layout T] [Touch .mem T] [Touch .fab T] [Touch .coll T] [Touch .raised T] [Touch .outs T] [Touch .free T] (core : Fin 9) (s : State) (hwf : Within T z s) :
    outWithin T z (execCacheCleanInvalidateSw core s) := by
  simp (maxDischargeDepth := 30) [execCacheCleanInvalidateSw, *]

theorem execDmaGo_frame [Touch .objs T] [Touch .power T] [Touch .dict T] [Touch .start T] [Touch .fw T] [Touch .media T] [Touch .chan T] [Touch .dec T] [Touch .players T] [Touch .acts T] [Touch .engines T] [Touch .groups T] [Touch .traces T] [Touch .motion T] [Touch .girth T] [Touch .host T] [Touch .layout T] [Touch .mem T] [Touch .fab T] [Touch .coll T] [Touch .raised T] [Touch .outs T] [Touch .free T] (who : Requester) (ch : Fin 8) (ctrl : ℕ) (s : State) (hwf : Within T z s) :
    outWithin T z (execDmaGo who ch ctrl s) := by
  simp (maxDischargeDepth := 30) [execDmaGo, *]

theorem execDmaChainGo_frame [Touch .objs T] [Touch .power T] [Touch .dict T] [Touch .start T] [Touch .fw T] [Touch .media T] [Touch .chan T] [Touch .dec T] [Touch .players T] [Touch .acts T] [Touch .engines T] [Touch .groups T] [Touch .traces T] [Touch .motion T] [Touch .girth T] [Touch .host T] [Touch .layout T] [Touch .mem T] [Touch .fab T] [Touch .coll T] [Touch .raised T] [Touch .outs T] [Touch .free T] (who : Requester) (ch : Fin 8) (ctrl : ℕ) (s : State) (hwf : Within T z s) :
    outWithin T z (execDmaChainGo who ch ctrl s) := by
  simp (maxDischargeDepth := 30) [execDmaChainGo, *]

theorem execDmaStop_frame [Touch .objs T] [Touch .power T] [Touch .dict T] [Touch .start T] [Touch .fw T] [Touch .media T] [Touch .chan T] [Touch .dec T] [Touch .players T] [Touch .acts T] [Touch .engines T] [Touch .groups T] [Touch .traces T] [Touch .motion T] [Touch .girth T] [Touch .host T] [Touch .layout T] [Touch .mem T] [Touch .fab T] [Touch .coll T] [Touch .raised T] [Touch .outs T] [Touch .free T] (who : Requester) (ch : Fin 8) (ctrl : ℕ) (s : State) (hwf : Within T z s) :
    outWithin T z (execDmaStop who ch ctrl s) := by
  simp (maxDischargeDepth := 30) [execDmaStop, *]

theorem execNotifyClear_frame [Touch .objs T] [Touch .power T] [Touch .dict T] [Touch .start T] [Touch .fw T] [Touch .media T] [Touch .chan T] [Touch .dec T] [Touch .players T] [Touch .acts T] [Touch .engines T] [Touch .groups T] [Touch .traces T] [Touch .motion T] [Touch .girth T] [Touch .host T] [Touch .layout T] [Touch .mem T] [Touch .fab T] [Touch .coll T] [Touch .raised T] [Touch .outs T] [Touch .free T] (who : Requester) (ch : Fin 8) (value : ℕ) (s : State) (hwf : Within T z s) :
    outWithin T z (execNotifyClear who ch value s) := by
  simp (maxDischargeDepth := 30) [execNotifyClear, *]

theorem execCaptureClear_frame [Touch .objs T] [Touch .power T] [Touch .dict T] [Touch .start T] [Touch .fw T] [Touch .media T] [Touch .chan T] [Touch .dec T] [Touch .players T] [Touch .acts T] [Touch .engines T] [Touch .groups T] [Touch .traces T] [Touch .motion T] [Touch .girth T] [Touch .host T] [Touch .layout T] [Touch .mem T] [Touch .fab T] [Touch .coll T] [Touch .raised T] [Touch .outs T] [Touch .free T] (who : Requester) (r : Fin 9) (value : ℕ) (s : State) (hwf : Within T z s) :
    outWithin T z (execCaptureClear who r value s) := by
  simp (maxDischargeDepth := 30) [execCaptureClear, *]

theorem execClearUpto_frame [Touch .objs T] [Touch .power T] [Touch .dict T] [Touch .start T] [Touch .fw T] [Touch .media T] [Touch .chan T] [Touch .dec T] [Touch .players T] [Touch .acts T] [Touch .engines T] [Touch .groups T] [Touch .traces T] [Touch .motion T] [Touch .girth T] [Touch .host T] [Touch .layout T] [Touch .mem T] [Touch .fab T] [Touch .coll T] [Touch .raised T] [Touch .outs T] [Touch .free T] (who : Requester) (value : ℕ) (s : State) (hwf : Within T z s) :
    outWithin T z (execClearUpto who value s) := by
  simp (maxDischargeDepth := 30) [execClearUpto, *]

theorem execClearAll_frame [Touch .objs T] [Touch .power T] [Touch .dict T] [Touch .start T] [Touch .fw T] [Touch .media T] [Touch .chan T] [Touch .dec T] [Touch .players T] [Touch .acts T] [Touch .engines T] [Touch .groups T] [Touch .traces T] [Touch .motion T] [Touch .girth T] [Touch .host T] [Touch .layout T] [Touch .mem T] [Touch .fab T] [Touch .coll T] [Touch .raised T] [Touch .outs T] [Touch .free T] (who : Requester) (value : ℕ) (s : State) (hwf : Within T z s) :
    outWithin T z (execClearAll who value s) := by
  simp (maxDischargeDepth := 30) [execClearAll, *]

theorem execUnretire_frame [Touch .objs T] [Touch .power T] [Touch .dict T] [Touch .start T] [Touch .fw T] [Touch .media T] [Touch .chan T] [Touch .dec T] [Touch .players T] [Touch .acts T] [Touch .engines T] [Touch .groups T] [Touch .traces T] [Touch .motion T] [Touch .girth T] [Touch .host T] [Touch .layout T] [Touch .mem T] [Touch .fab T] [Touch .coll T] [Touch .raised T] [Touch .outs T] [Touch .free T] (who : Requester) (value : ℕ) (s : State) (hwf : Within T z s) :
    outWithin T z (execUnretire who value s) := by
  simp (maxDischargeDepth := 30) [execUnretire, *]

theorem execSourceEntryWrite_frame [Touch .objs T] [Touch .power T] [Touch .dict T] [Touch .start T] [Touch .fw T] [Touch .media T] [Touch .chan T] [Touch .dec T] [Touch .players T] [Touch .acts T] [Touch .engines T] [Touch .groups T] [Touch .traces T] [Touch .motion T] [Touch .girth T] [Touch .host T] [Touch .layout T] [Touch .mem T] [Touch .fab T] [Touch .coll T] [Touch .raised T] [Touch .outs T] [Touch .free T] (who : Requester) (id : ℕ) (value : List Byte) (s : State) (hwf : Within T z s) :
    outWithin T z (execSourceEntryWrite who id value s) := by
  simp (maxDischargeDepth := 30) [execSourceEntryWrite, *]

@[simp] theorem mailboxWrite_frame [Touch .objs T] [Touch .power T] [Touch .dict T] [Touch .start T] [Touch .fw T] [Touch .media T] [Touch .chan T] [Touch .dec T] [Touch .players T] [Touch .acts T] [Touch .engines T] [Touch .groups T] [Touch .traces T] [Touch .motion T] [Touch .girth T] [Touch .host T] [Touch .layout T] [Touch .mem T] [Touch .fab T] [Touch .coll T] [Touch .raised T] [Touch .outs T] [Touch .free T] (s : State) (core : Fin 9) (cmd : ℕ) (hwf : Within T z s) :
    Within T z (mailboxWrite s core cmd) := by
  simp (maxDischargeDepth := 30) [mailboxWrite, *]

theorem execMbRead_frame [Touch .objs T] [Touch .power T] [Touch .dict T] [Touch .start T] [Touch .fw T] [Touch .media T] [Touch .chan T] [Touch .dec T] [Touch .players T] [Touch .acts T] [Touch .engines T] [Touch .groups T] [Touch .traces T] [Touch .motion T] [Touch .girth T] [Touch .host T] [Touch .layout T] [Touch .mem T] [Touch .fab T] [Touch .coll T] [Touch .raised T] [Touch .outs T] [Touch .free T] (core : Fin 9) (s : State) (hwf : Within T z s) :
    outWithin T z (execMbRead core s) := by
  simp (maxDischargeDepth := 30) [execMbRead, *]

theorem execMbWrite_frame [Touch .objs T] [Touch .power T] [Touch .dict T] [Touch .start T] [Touch .fw T] [Touch .media T] [Touch .chan T] [Touch .dec T] [Touch .players T] [Touch .acts T] [Touch .engines T] [Touch .groups T] [Touch .traces T] [Touch .motion T] [Touch .girth T] [Touch .host T] [Touch .layout T] [Touch .mem T] [Touch .fab T] [Touch .coll T] [Touch .raised T] [Touch .outs T] [Touch .free T] (core : Fin 9) (s : State) (hwf : Within T z s) :
    outWithin T z (execMbWrite core s) := by
  simp (maxDischargeDepth := 30) [execMbWrite, *]

theorem execMbWriteLast_frame [Touch .objs T] [Touch .power T] [Touch .dict T] [Touch .start T] [Touch .fw T] [Touch .media T] [Touch .chan T] [Touch .dec T] [Touch .players T] [Touch .acts T] [Touch .engines T] [Touch .groups T] [Touch .traces T] [Touch .motion T] [Touch .girth T] [Touch .host T] [Touch .layout T] [Touch .mem T] [Touch .fab T] [Touch .coll T] [Touch .raised T] [Touch .outs T] [Touch .free T] (core : Fin 9) (s : State) (hwf : Within T z s) :
    outWithin T z (execMbWriteLast core s) := by
  simp (maxDischargeDepth := 30) [execMbWriteLast, *]

theorem execMbTransferDone_frame [Touch .objs T] [Touch .power T] [Touch .dict T] [Touch .start T] [Touch .fw T] [Touch .media T] [Touch .chan T] [Touch .dec T] [Touch .players T] [Touch .acts T] [Touch .engines T] [Touch .groups T] [Touch .traces T] [Touch .motion T] [Touch .girth T] [Touch .host T] [Touch .layout T] [Touch .mem T] [Touch .fab T] [Touch .coll T] [Touch .raised T] [Touch .outs T] [Touch .free T] (core : Fin 9) (s : State) (hwf : Within T z s) :
    outWithin T z (execMbTransferDone core s) := by
  simp only [execMbTransferDone]
  split <;> simp (maxDischargeDepth := 30) [*]

theorem execBlobStagingAbandon_frame [Touch .dict T] (index : ℕ) (sub : ℕ) (s : State) (hwf : Within T z s) :
    outWithin T z (execBlobStagingAbandon index sub s) := by
  simp (maxDischargeDepth := 30) [execBlobStagingAbandon, *]

@[simp] theorem girthAnswer_frame [Touch .objs T] [Touch .girth T] [Touch .outs T] [Touch .free T] (s : State) (h : GirthHeader) (tag : ℕ) (idx : ℕ) (sub : ℕ) (st : ℕ) (value : ℕ) (hwf : Within T z s) :
    Within T z (girthAnswer s h tag idx sub st value) := by
  simp (maxDischargeDepth := 30) [girthAnswer, *]

theorem execGirthDictGet_frame [Touch .objs T] [Touch .fw T] [Touch .girth T] [Touch .raised T] [Touch .outs T] [Touch .free T] (h : GirthHeader) (target : ℕ) (tag : ℕ) (index : ℕ) (sub : ℕ) (s : State) (hwf : Within T z s) :
    outWithin T z (execGirthDictGet h target tag index sub s) := by
  unfold execGirthDictGet
  rw [outWithin_next]
  refine receive_frame _ _ _ _ _ hwf fun t ht => ?_
  have h1 := readObject_frame t .girth (key index sub) true ht
  dsimp only
  split
  · exact ht
  · split
    · simp [h1]
    · split <;> simp [h1]

theorem execGirthDictSet_frame [Touch .objs T] [Touch .power T] [Touch .dict T] [Touch .start T] [Touch .fw T] [Touch .media T] [Touch .chan T] [Touch .dec T] [Touch .players T] [Touch .acts T] [Touch .engines T] [Touch .groups T] [Touch .traces T] [Touch .motion T] [Touch .girth T] [Touch .host T] [Touch .layout T] [Touch .mem T] [Touch .fab T] [Touch .coll T] [Touch .raised T] [Touch .outs T] [Touch .free T] (h : GirthHeader) (target : ℕ) (tag : ℕ) (index : ℕ) (sub : ℕ) (value : ℕ) (s : State) (hwf : Within T z s) :
    outWithin T z (execGirthDictSet h target tag index sub value s) := by
  unfold execGirthDictSet
  repeat' split
  all_goals simp_all (maxDischargeDepth := 30)

theorem execLinkObject_frame [Touch .objs T] [Touch .power T] [Touch .dict T] [Touch .start T] [Touch .fw T] [Touch .media T] [Touch .chan T] [Touch .dec T] [Touch .players T] [Touch .acts T] [Touch .engines T] [Touch .groups T] [Touch .traces T] [Touch .motion T] [Touch .girth T] [Touch .host T] [Touch .layout T] [Touch .mem T] [Touch .fab T] [Touch .coll T] [Touch .raised T] [Touch .outs T] [Touch .free T] (who : Requester) (index : ℕ) (sub : ℕ) (write : Option (List Byte)) (s : State) (hwf : Within T z s) :
    outWithin T z (execLinkObject who index sub write s) := by
  unfold execLinkObject
  repeat' split
  all_goals simp_all (maxDischargeDepth := 30)

@[simp] theorem dramParts_frame [Touch .objs T] [Touch .dict T] [Touch .mem T] [Touch .raised T] [Touch .outs T] [Touch .free T] (s : State) (core : ℕ) (a : ℕ) (width : ℕ) (acc : CoreAccess) (ecc : EccOutcome) (hwf : Within T z s) :
    Within T z (dramParts s core a width acc ecc) := by
  simp (maxDischargeDepth := 30) [dramParts, *]

@[simp] theorem norBytes_frame [Touch .free T] (s : State) (off : ℕ) (width : ℕ) (hwf : Within T z s) :
    Within T z (norBytes s off width).2 := by
  simp only [norBytes]
  repeat' split
  all_goals simp (maxDischargeDepth := 30) [*]

theorem windowBytes_frame [Touch .free T] (s : State) (a width : Nat) (h : Within T z s) (e) (he : windowBytes s a width = some e) : Within T z e.2 := by
  unfold windowBytes at he
  dsimp only at he
  repeat' split at he
  all_goals cases he
  all_goals (try split)
  all_goals simp [h]

@[simp] theorem norLoad_frame [Touch .outs T] [Touch .free T] (s : State) (core : ℕ) (off : ℕ) (width : ℕ) (hwf : Within T z s) :
    Within T z (norLoad s core off width) := by
  simp (maxDischargeDepth := 30) [norLoad, *]

@[simp] theorem coreAccess_frame [Touch .objs T] [Touch .power T] [Touch .dict T] [Touch .start T] [Touch .fw T] [Touch .media T] [Touch .chan T] [Touch .dec T] [Touch .players T] [Touch .acts T] [Touch .engines T] [Touch .groups T] [Touch .traces T] [Touch .motion T] [Touch .girth T] [Touch .host T] [Touch .layout T] [Touch .mem T] [Touch .fab T] [Touch .coll T] [Touch .raised T] [Touch .outs T] [Touch .free T] (s : State) (core : Fin 9) (addr : ℕ) (width : ℕ) (acc : CoreAccess) (ecc : EccOutcome) (hwf : Within T z s) :
    Within T z (coreAccess s core addr width acc ecc) := by
  unfold coreAccess
  dsimp only
  repeat' split
  all_goals first
    | (simp (maxDischargeDepth := 30) [*]; done)
    | (have := windowBytes_frame _ _ _ hwf _ ‹_›; simp_all)

theorem execCoreMemoryAccess_frame [Touch .objs T] [Touch .power T] [Touch .dict T] [Touch .start T] [Touch .fw T] [Touch .media T] [Touch .chan T] [Touch .dec T] [Touch .players T] [Touch .acts T] [Touch .engines T] [Touch .groups T] [Touch .traces T] [Touch .motion T] [Touch .girth T] [Touch .host T] [Touch .layout T] [Touch .mem T] [Touch .fab T] [Touch .coll T] [Touch .raised T] [Touch .outs T] [Touch .free T] (core : Fin 9) (addr : ℕ) (width : ℕ) (access : CoreAccess) (ecc : EccOutcome) (s : State) (hwf : Within T z s) :
    outWithin T z (execCoreMemoryAccess core addr width access ecc s) := by
  simp (maxDischargeDepth := 30) [execCoreMemoryAccess, *]

end Sys2Proof.Machine
end

