-- ==== Sys2Proof/Laws/Touches.lean ====
section
/-!
SUPPORT. Every command changes only the parts of the state that `touches` lists for it, one lemma per command.
-/

namespace Sys2Proof.Machine

theorem sameBut_of_outWithin {T : List Part} {s t : State} {o : Host.Outcome State Fault Refusal} (h : outWithin T s o) (e : o = .next t) :
    SameBut T s t := by
  subst e; exact within_iff.mp h

theorem touch_of {p : Part} {T : List Part} (h : decide (p ∈ T) = true) : Touch p T := ⟨of_decide_eq_true h⟩

theorem powerGood_touches {s nx : State} (he : exec (.powerGood) s = .next nx) : SameBut (touches (.powerGood)) s nx :=
  sameBut_of_outWithin (@execPowerGood_frame _ s (touch_of rfl) (touch_of rfl) (touch_of rfl) (touch_of rfl) (touch_of rfl) (touch_of rfl) s (.refl _ s)) he

theorem feedPresent_touches {f} {s nx : State} (he : exec (.feedPresent f) s = .next nx) : SameBut (touches (.feedPresent f)) s nx :=
  sameBut_of_outWithin (@execFeedPresent_frame _ s (touch_of rfl) f s (.refl _ s)) he

theorem feedLost_touches {f why} {s nx : State} (he : exec (.feedLost f why) s = .next nx) : SameBut (touches (.feedLost f why)) s nx :=
  sameBut_of_outWithin (@execFeedLost_frame _ s (touch_of rfl) (touch_of rfl) (touch_of rfl) (touch_of rfl) (touch_of rfl) (touch_of rfl) (touch_of rfl) (touch_of rfl) (touch_of rfl) (touch_of rfl) (touch_of rfl) (touch_of rfl) (touch_of rfl) f why s (.refl _ s)) he

theorem feedSwitchReclose_touches {f} {s nx : State} (he : exec (.feedSwitchReclose f) s = .next nx) : SameBut (touches (.feedSwitchReclose f)) s nx :=
  sameBut_of_outWithin (@execFeedSwitchReclose_frame _ s (touch_of rfl) (touch_of rfl) f s (.refl _ s)) he

theorem railsOff_touches {s nx : State} (he : exec (.railsOff) s = .next nx) : SameBut (touches (.railsOff)) s nx :=
  sameBut_of_outWithin (@execRailsOff_frame _ s (touch_of rfl) (touch_of rfl) (touch_of rfl) (touch_of rfl) (touch_of rfl) (touch_of rfl) (touch_of rfl) (touch_of rfl) (touch_of rfl) (touch_of rfl) (touch_of rfl) (touch_of rfl) (touch_of rfl) (touch_of rfl) (touch_of rfl) (touch_of rfl) (touch_of rfl) (touch_of rfl) (touch_of rfl) (touch_of rfl) (touch_of rfl) (touch_of rfl) s (.refl _ s)) he

theorem railsUp_touches {s nx : State} (he : exec (.railsUp) s = .next nx) : SameBut (touches (.railsUp)) s nx :=
  sameBut_of_outWithin (@execRailsUp_frame _ s (touch_of rfl) (touch_of rfl) (touch_of rfl) (touch_of rfl) (touch_of rfl) (touch_of rfl) s (.refl _ s)) he

theorem pwrdisAssert_touches {s nx : State} (he : exec (.pwrdisAssert) s = .next nx) : SameBut (touches (.pwrdisAssert)) s nx :=
  sameBut_of_outWithin (@execPwrdisAssert_frame _ s (touch_of rfl) (touch_of rfl) (touch_of rfl) (touch_of rfl) (touch_of rfl) (touch_of rfl) (touch_of rfl) (touch_of rfl) (touch_of rfl) (touch_of rfl) (touch_of rfl) (touch_of rfl) (touch_of rfl) s (.refl _ s)) he

theorem pwrdisRelease_touches {s nx : State} (he : exec (.pwrdisRelease) s = .next nx) : SameBut (touches (.pwrdisRelease)) s nx :=
  sameBut_of_outWithin (@execPwrdisRelease_frame _ s (touch_of rfl) s (.refl _ s)) he

theorem vmCollapse_touches {s nx : State} (he : exec (.vmCollapse) s = .next nx) : SameBut (touches (.vmCollapse)) s nx :=
  sameBut_of_outWithin (@execVmCollapse_frame _ s (touch_of rfl) (touch_of rfl) (touch_of rfl) (touch_of rfl) (touch_of rfl) (touch_of rfl) (touch_of rfl) (touch_of rfl) (touch_of rfl) (touch_of rfl) (touch_of rfl) (touch_of rfl) (touch_of rfl) (touch_of rfl) (touch_of rfl) (touch_of rfl) (touch_of rfl) (touch_of rfl) (touch_of rfl) (touch_of rfl) (touch_of rfl) (touch_of rfl) s (.refl _ s)) he

theorem v3p3Overcurrent_touches {a} {s nx : State} (he : exec (.v3p3Overcurrent a) s = .next nx) : SameBut (touches (.v3p3Overcurrent a)) s nx :=
  sameBut_of_outWithin (@execV3p3Overcurrent_frame _ s (touch_of rfl) (touch_of rfl) (touch_of rfl) (touch_of rfl) (touch_of rfl) (touch_of rfl) (touch_of rfl) (touch_of rfl) (touch_of rfl) (touch_of rfl) (touch_of rfl) (touch_of rfl) a s (.refl _ s)) he

theorem throttleEnter_touches {tj} {s nx : State} (he : exec (.throttleEnter tj) s = .next nx) : SameBut (touches (.throttleEnter tj)) s nx :=
  sameBut_of_outWithin (@execThrottleEnter_frame _ s (touch_of rfl) (touch_of rfl) tj s (.refl _ s)) he

theorem throttleExit_touches {tj} {s nx : State} (he : exec (.throttleExit tj) s = .next nx) : SameBut (touches (.throttleExit tj)) s nx :=
  sameBut_of_outWithin (@execThrottleExit_frame _ s (touch_of rfl) tj s (.refl _ s)) he

theorem thermalShutdown_touches {tj} {s nx : State} (he : exec (.thermalShutdown tj) s = .next nx) : SameBut (touches (.thermalShutdown tj)) s nx :=
  sameBut_of_outWithin (@execThermalShutdown_frame _ s (touch_of rfl) (touch_of rfl) (touch_of rfl) (touch_of rfl) (touch_of rfl) (touch_of rfl) (touch_of rfl) (touch_of rfl) (touch_of rfl) (touch_of rfl) (touch_of rfl) (touch_of rfl) (touch_of rfl) (touch_of rfl) (touch_of rfl) (touch_of rfl) (touch_of rfl) (touch_of rfl) (touch_of rfl) (touch_of rfl) (touch_of rfl) (touch_of rfl) (touch_of rfl) tj s (.refl _ s)) he

theorem powerCapWrite_touches {who value} {s nx : State} (he : exec (.powerCapWrite who value) s = .next nx) : SameBut (touches (.powerCapWrite who value)) s nx :=
  sameBut_of_outWithin (@execPowerCapWrite_frame _ s (touch_of rfl) (touch_of rfl) (touch_of rfl) (touch_of rfl) (touch_of rfl) (touch_of rfl) (touch_of rfl) (touch_of rfl) (touch_of rfl) (touch_of rfl) (touch_of rfl) (touch_of rfl) (touch_of rfl) (touch_of rfl) (touch_of rfl) (touch_of rfl) (touch_of rfl) (touch_of rfl) (touch_of rfl) (touch_of rfl) (touch_of rfl) (touch_of rfl) (touch_of rfl) who value s (.refl _ s)) he

theorem vcoreSteer_touches {minPercent} {s nx : State} (he : exec (.vcoreSteer minPercent) s = .next nx) : SameBut (touches (.vcoreSteer minPercent)) s nx :=
  sameBut_of_outWithin (@execVcoreSteer_frame _ s (touch_of rfl) (touch_of rfl) minPercent s (.refl _ s)) he

theorem writeUnsafe_touches {a src t} {s nx : State} (he : exec (.writeUnsafe a src t) s = .next nx) : SameBut (touches (.writeUnsafe a src t)) s nx :=
  sameBut_of_outWithin (@execWriteUnsafe_frame _ s (touch_of rfl) (touch_of rfl) (touch_of rfl) (touch_of rfl) (touch_of rfl) (touch_of rfl) (touch_of rfl) (touch_of rfl) a src t s (.refl _ s)) he

theorem writeFifoEmpty_touches {a} {s nx : State} (he : exec (.writeFifoEmpty a) s = .next nx) : SameBut (touches (.writeFifoEmpty a)) s nx :=
  sameBut_of_outWithin (@execWriteFifoEmpty_frame _ s (touch_of rfl) (touch_of rfl) (touch_of rfl) (touch_of rfl) (touch_of rfl) (touch_of rfl) a s (.refl _ s)) he

theorem gateEntryExecute_touches {p t adc} {s nx : State} (he : exec (.gateEntryExecute p t adc) s = .next nx) : SameBut (touches (.gateEntryExecute p t adc)) s nx :=
  sameBut_of_outWithin (@execGateEntryExecute_frame _ s (touch_of rfl) (touch_of rfl) (touch_of rfl) (touch_of rfl) (touch_of rfl) (touch_of rfl) (touch_of rfl) (touch_of rfl) (touch_of rfl) p t adc s (.refl _ s)) he

theorem sampleOverrun_touches {a lane} {s nx : State} (he : exec (.sampleOverrun a lane) s = .next nx) : SameBut (touches (.sampleOverrun a lane)) s nx :=
  sameBut_of_outWithin (@execSampleOverrun_frame _ s (touch_of rfl) (touch_of rfl) a lane s (.refl _ s)) he

theorem dictionaryGet_touches {slot} {s nx : State} (he : exec (.dictionaryGet slot) s = .next nx) : SameBut (touches (.dictionaryGet slot)) s nx :=
  sameBut_of_outWithin (@execDictionaryGet_frame _ s (touch_of rfl) (touch_of rfl) (touch_of rfl) (touch_of rfl) (touch_of rfl) (touch_of rfl) (touch_of rfl) slot s (.refl _ s)) he

theorem dictionarySet_touches {slot data} {s nx : State} (he : exec (.dictionarySet slot data) s = .next nx) : SameBut (touches (.dictionarySet slot data)) s nx :=
  sameBut_of_outWithin (@execDictionarySet_frame _ s (touch_of rfl) (touch_of rfl) (touch_of rfl) (touch_of rfl) (touch_of rfl) (touch_of rfl) (touch_of rfl) (touch_of rfl) (touch_of rfl) (touch_of rfl) (touch_of rfl) (touch_of rfl) (touch_of rfl) (touch_of rfl) (touch_of rfl) (touch_of rfl) (touch_of rfl) (touch_of rfl) (touch_of rfl) (touch_of rfl) (touch_of rfl) (touch_of rfl) (touch_of rfl) slot data s (.refl _ s)) he

theorem dictionarySetList_touches {slot data} {s nx : State} (he : exec (.dictionarySetList slot data) s = .next nx) : SameBut (touches (.dictionarySetList slot data)) s nx :=
  sameBut_of_outWithin (@execDictionarySetList_frame _ s (touch_of rfl) (touch_of rfl) (touch_of rfl) (touch_of rfl) (touch_of rfl) (touch_of rfl) (touch_of rfl) (touch_of rfl) (touch_of rfl) (touch_of rfl) (touch_of rfl) (touch_of rfl) (touch_of rfl) (touch_of rfl) (touch_of rfl) (touch_of rfl) (touch_of rfl) (touch_of rfl) (touch_of rfl) (touch_of rfl) (touch_of rfl) (touch_of rfl) (touch_of rfl) slot data s (.refl _ s)) he

theorem dictionaryBlockRead_touches {slot} {s nx : State} (he : exec (.dictionaryBlockRead slot) s = .next nx) : SameBut (touches (.dictionaryBlockRead slot)) s nx :=
  sameBut_of_outWithin (@execDictionaryBlockRead_frame _ s (touch_of rfl) (touch_of rfl) (touch_of rfl) (touch_of rfl) (touch_of rfl) (touch_of rfl) (touch_of rfl) (touch_of rfl) slot s (.refl _ s)) he

theorem dictionaryListRead_touches {slot} {s nx : State} (he : exec (.dictionaryListRead slot) s = .next nx) : SameBut (touches (.dictionaryListRead slot)) s nx :=
  sameBut_of_outWithin (@execDictionaryListRead_frame _ s (touch_of rfl) (touch_of rfl) (touch_of rfl) (touch_of rfl) (touch_of rfl) (touch_of rfl) (touch_of rfl) slot s (.refl _ s)) he

theorem bolhobaGet_touches {h} {s nx : State} (he : exec (.bolhobaGet h) s = .next nx) : SameBut (touches (.bolhobaGet h)) s nx :=
  sameBut_of_outWithin (@execBolhobaGet_frame _ s (touch_of rfl) (touch_of rfl) (touch_of rfl) (touch_of rfl) (touch_of rfl) h s (.refl _ s)) he

theorem bolhobaSet_touches {h typ len value} {s nx : State} (he : exec (.bolhobaSet h typ len value) s = .next nx) : SameBut (touches (.bolhobaSet h typ len value)) s nx :=
  sameBut_of_outWithin (@execBolhobaSet_frame _ s (touch_of rfl) (touch_of rfl) (touch_of rfl) (touch_of rfl) (touch_of rfl) (touch_of rfl) (touch_of rfl) (touch_of rfl) (touch_of rfl) (touch_of rfl) (touch_of rfl) (touch_of rfl) (touch_of rfl) (touch_of rfl) (touch_of rfl) (touch_of rfl) (touch_of rfl) (touch_of rfl) (touch_of rfl) (touch_of rfl) (touch_of rfl) (touch_of rfl) (touch_of rfl) h typ len value s (.refl _ s)) he

theorem bolhobaListGet_touches {h keys} {s nx : State} (he : exec (.bolhobaListGet h keys) s = .next nx) : SameBut (touches (.bolhobaListGet h keys)) s nx :=
  sameBut_of_outWithin (@execBolhobaListGet_frame _ s (touch_of rfl) (touch_of rfl) (touch_of rfl) (touch_of rfl) (touch_of rfl) h keys s (.refl _ s)) he

theorem bolhobaListSet_touches {h entries} {s nx : State} (he : exec (.bolhobaListSet h entries) s = .next nx) : SameBut (touches (.bolhobaListSet h entries)) s nx :=
  sameBut_of_outWithin (@execBolhobaListSet_frame _ s (touch_of rfl) (touch_of rfl) (touch_of rfl) (touch_of rfl) (touch_of rfl) (touch_of rfl) (touch_of rfl) (touch_of rfl) (touch_of rfl) (touch_of rfl) (touch_of rfl) (touch_of rfl) (touch_of rfl) (touch_of rfl) (touch_of rfl) (touch_of rfl) (touch_of rfl) (touch_of rfl) (touch_of rfl) (touch_of rfl) (touch_of rfl) (touch_of rfl) (touch_of rfl) h entries s (.refl _ s)) he

theorem bolhobaBlockRead_touches {h offset len} {s nx : State} (he : exec (.bolhobaBlockRead h offset len) s = .next nx) : SameBut (touches (.bolhobaBlockRead h offset len)) s nx :=
  sameBut_of_outWithin (@execBolhobaBlockRead_frame _ s (touch_of rfl) (touch_of rfl) (touch_of rfl) (touch_of rfl) (touch_of rfl) h offset len s (.refl _ s)) he

theorem bolhobaBlockWrite_touches {h offset last data} {s nx : State} (he : exec (.bolhobaBlockWrite h offset last data) s = .next nx) : SameBut (touches (.bolhobaBlockWrite h offset last data)) s nx :=
  sameBut_of_outWithin (@execBolhobaBlockWrite_frame _ s (touch_of rfl) (touch_of rfl) (touch_of rfl) (touch_of rfl) (touch_of rfl) (touch_of rfl) h offset last data s (.refl _ s)) he

theorem factoryFrameGap_touches {s nx : State} (he : exec (.factoryFrameGap) s = .next nx) : SameBut (touches (.factoryFrameGap)) s nx :=
  sameBut_of_outWithin (@execFactoryFrameGap_frame _ s s (.refl _ s)) he

theorem windowRead_touches {core addr width} {s nx : State} (he : exec (.windowRead core addr width) s = .next nx) : SameBut (touches (.windowRead core addr width)) s nx :=
  sameBut_of_outWithin (@execWindowRead_frame _ s (touch_of rfl) (touch_of rfl) (touch_of rfl) (touch_of rfl) (touch_of rfl) (touch_of rfl) core addr width s (.refl _ s)) he

theorem windowWrite_touches {core addr width value} {s nx : State} (he : exec (.windowWrite core addr width value) s = .next nx) : SameBut (touches (.windowWrite core addr width value)) s nx :=
  sameBut_of_outWithin (@execWindowWrite_frame _ s (touch_of rfl) (touch_of rfl) (touch_of rfl) (touch_of rfl) (touch_of rfl) (touch_of rfl) (touch_of rfl) (touch_of rfl) (touch_of rfl) (touch_of rfl) (touch_of rfl) (touch_of rfl) (touch_of rfl) (touch_of rfl) (touch_of rfl) (touch_of rfl) (touch_of rfl) (touch_of rfl) (touch_of rfl) (touch_of rfl) (touch_of rfl) (touch_of rfl) (touch_of rfl) core addr width value s (.refl _ s)) he

theorem mbRead_touches {core} {s nx : State} (he : exec (.mbRead core) s = .next nx) : SameBut (touches (.mbRead core)) s nx :=
  sameBut_of_outWithin (@execMbRead_frame _ s (touch_of rfl) (touch_of rfl) (touch_of rfl) (touch_of rfl) (touch_of rfl) (touch_of rfl) (touch_of rfl) (touch_of rfl) (touch_of rfl) (touch_of rfl) (touch_of rfl) (touch_of rfl) (touch_of rfl) (touch_of rfl) (touch_of rfl) (touch_of rfl) (touch_of rfl) (touch_of rfl) (touch_of rfl) (touch_of rfl) (touch_of rfl) (touch_of rfl) (touch_of rfl) core s (.refl _ s)) he

theorem mbWrite_touches {core} {s nx : State} (he : exec (.mbWrite core) s = .next nx) : SameBut (touches (.mbWrite core)) s nx :=
  sameBut_of_outWithin (@execMbWrite_frame _ s (touch_of rfl) (touch_of rfl) (touch_of rfl) (touch_of rfl) (touch_of rfl) (touch_of rfl) (touch_of rfl) (touch_of rfl) (touch_of rfl) (touch_of rfl) (touch_of rfl) (touch_of rfl) (touch_of rfl) (touch_of rfl) (touch_of rfl) (touch_of rfl) (touch_of rfl) (touch_of rfl) (touch_of rfl) (touch_of rfl) (touch_of rfl) (touch_of rfl) (touch_of rfl) core s (.refl _ s)) he

theorem mbWriteLast_touches {core} {s nx : State} (he : exec (.mbWriteLast core) s = .next nx) : SameBut (touches (.mbWriteLast core)) s nx :=
  sameBut_of_outWithin (@execMbWriteLast_frame _ s (touch_of rfl) (touch_of rfl) (touch_of rfl) (touch_of rfl) (touch_of rfl) (touch_of rfl) (touch_of rfl) (touch_of rfl) (touch_of rfl) (touch_of rfl) (touch_of rfl) (touch_of rfl) (touch_of rfl) (touch_of rfl) (touch_of rfl) (touch_of rfl) (touch_of rfl) (touch_of rfl) (touch_of rfl) (touch_of rfl) (touch_of rfl) (touch_of rfl) (touch_of rfl) core s (.refl _ s)) he

theorem mbTransferDone_touches {core} {s nx : State} (he : exec (.mbTransferDone core) s = .next nx) : SameBut (touches (.mbTransferDone core)) s nx :=
  sameBut_of_outWithin (@execMbTransferDone_frame _ s (touch_of rfl) (touch_of rfl) (touch_of rfl) (touch_of rfl) (touch_of rfl) (touch_of rfl) (touch_of rfl) (touch_of rfl) (touch_of rfl) (touch_of rfl) (touch_of rfl) (touch_of rfl) (touch_of rfl) (touch_of rfl) (touch_of rfl) (touch_of rfl) (touch_of rfl) (touch_of rfl) (touch_of rfl) (touch_of rfl) (touch_of rfl) (touch_of rfl) (touch_of rfl) core s (.refl _ s)) he

theorem blobStagingAbandon_touches {index sub} {s nx : State} (he : exec (.blobStagingAbandon index sub) s = .next nx) : SameBut (touches (.blobStagingAbandon index sub)) s nx :=
  sameBut_of_outWithin (@execBlobStagingAbandon_frame _ s (touch_of rfl) index sub s (.refl _ s)) he

theorem store_touches {who value} {s nx : State} (he : exec (.store who value) s = .next nx) : SameBut (touches (.store who value)) s nx :=
  sameBut_of_outWithin (@execStore_frame _ s (touch_of rfl) (touch_of rfl) (touch_of rfl) (touch_of rfl) (touch_of rfl) (touch_of rfl) (touch_of rfl) (touch_of rfl) (touch_of rfl) (touch_of rfl) (touch_of rfl) (touch_of rfl) (touch_of rfl) (touch_of rfl) (touch_of rfl) (touch_of rfl) (touch_of rfl) (touch_of rfl) (touch_of rfl) (touch_of rfl) (touch_of rfl) (touch_of rfl) (touch_of rfl) who value s (.refl _ s)) he

theorem storeCommit_touches {programmed} {s nx : State} (he : exec (.storeCommit programmed) s = .next nx) : SameBut (touches (.storeCommit programmed)) s nx :=
  sameBut_of_outWithin (@execStoreCommit_frame _ s (touch_of rfl) (touch_of rfl) (touch_of rfl) programmed s (.refl _ s)) he

theorem restoreDefaults_touches {who value} {s nx : State} (he : exec (.restoreDefaults who value) s = .next nx) : SameBut (touches (.restoreDefaults who value)) s nx :=
  sameBut_of_outWithin (@execRestoreDefaults_frame _ s (touch_of rfl) (touch_of rfl) (touch_of rfl) (touch_of rfl) (touch_of rfl) (touch_of rfl) (touch_of rfl) (touch_of rfl) (touch_of rfl) (touch_of rfl) (touch_of rfl) (touch_of rfl) (touch_of rfl) (touch_of rfl) (touch_of rfl) (touch_of rfl) (touch_of rfl) (touch_of rfl) (touch_of rfl) (touch_of rfl) (touch_of rfl) (touch_of rfl) (touch_of rfl) who value s (.refl _ s)) he

theorem unitDisable_touches {who index} {s nx : State} (he : exec (.unitDisable who index) s = .next nx) : SameBut (touches (.unitDisable who index)) s nx :=
  sameBut_of_outWithin (@execUnitDisable_frame _ s (touch_of rfl) (touch_of rfl) (touch_of rfl) (touch_of rfl) (touch_of rfl) (touch_of rfl) (touch_of rfl) (touch_of rfl) (touch_of rfl) (touch_of rfl) (touch_of rfl) (touch_of rfl) (touch_of rfl) (touch_of rfl) (touch_of rfl) (touch_of rfl) (touch_of rfl) (touch_of rfl) (touch_of rfl) (touch_of rfl) (touch_of rfl) (touch_of rfl) (touch_of rfl) who index s (.refl _ s)) he

theorem unitEnable_touches {who index selfCheck} {s nx : State} (he : exec (.unitEnable who index selfCheck) s = .next nx) : SameBut (touches (.unitEnable who index selfCheck)) s nx :=
  sameBut_of_outWithin (@execUnitEnable_frame _ s (touch_of rfl) (touch_of rfl) (touch_of rfl) (touch_of rfl) (touch_of rfl) (touch_of rfl) (touch_of rfl) (touch_of rfl) (touch_of rfl) (touch_of rfl) (touch_of rfl) (touch_of rfl) (touch_of rfl) (touch_of rfl) (touch_of rfl) (touch_of rfl) (touch_of rfl) (touch_of rfl) (touch_of rfl) (touch_of rfl) (touch_of rfl) (touch_of rfl) (touch_of rfl) who index selfCheck s (.refl _ s)) he

theorem unitQuiesced_touches {index} {s nx : State} (he : exec (.unitQuiesced index) s = .next nx) : SameBut (touches (.unitQuiesced index)) s nx :=
  sameBut_of_outWithin (@execUnitQuiesced_frame _ s (touch_of rfl) (touch_of rfl) (touch_of rfl) (touch_of rfl) index s (.refl _ s)) he

theorem objectWrite_touches {who index sub typ len value} {s nx : State} (he : exec (.objectWrite who index sub typ len value) s = .next nx) : SameBut (touches (.objectWrite who index sub typ len value)) s nx :=
  sameBut_of_outWithin (@execObjectWrite_frame _ s (touch_of rfl) (touch_of rfl) (touch_of rfl) (touch_of rfl) (touch_of rfl) (touch_of rfl) (touch_of rfl) (touch_of rfl) (touch_of rfl) (touch_of rfl) (touch_of rfl) (touch_of rfl) (touch_of rfl) (touch_of rfl) (touch_of rfl) (touch_of rfl) (touch_of rfl) (touch_of rfl) (touch_of rfl) (touch_of rfl) (touch_of rfl) (touch_of rfl) (touch_of rfl) who index sub typ len value s (.refl _ s)) he

theorem attemptBegin_touches {cause} {s nx : State} (he : exec (.attemptBegin cause) s = .next nx) : SameBut (touches (.attemptBegin cause)) s nx :=
  sameBut_of_outWithin (@execAttemptBegin_frame _ s (touch_of rfl) (touch_of rfl) (touch_of rfl) (touch_of rfl) (touch_of rfl) (touch_of rfl) cause s (.refl _ s)) he

theorem startStepEnd_touches {result found} {s nx : State} (he : exec (.startStepEnd result found) s = .next nx) : SameBut (touches (.startStepEnd result found)) s nx :=
  sameBut_of_outWithin (@execStartStepEnd_frame _ s (touch_of rfl) (touch_of rfl) (touch_of rfl) (touch_of rfl) (touch_of rfl) (touch_of rfl) (touch_of rfl) (touch_of rfl) (touch_of rfl) (touch_of rfl) (touch_of rfl) (touch_of rfl) (touch_of rfl) (touch_of rfl) (touch_of rfl) (touch_of rfl) (touch_of rfl) (touch_of rfl) (touch_of rfl) (touch_of rfl) (touch_of rfl) (touch_of rfl) (touch_of rfl) result found s (.refl _ s)) he

theorem stepWatchdog_touches {found} {s nx : State} (he : exec (.stepWatchdog found) s = .next nx) : SameBut (touches (.stepWatchdog found)) s nx :=
  sameBut_of_outWithin (@execStepWatchdog_frame _ s (touch_of rfl) (touch_of rfl) (touch_of rfl) (touch_of rfl) (touch_of rfl) (touch_of rfl) (touch_of rfl) (touch_of rfl) (touch_of rfl) (touch_of rfl) (touch_of rfl) (touch_of rfl) (touch_of rfl) (touch_of rfl) (touch_of rfl) (touch_of rfl) (touch_of rfl) (touch_of rfl) (touch_of rfl) (touch_of rfl) (touch_of rfl) (touch_of rfl) (touch_of rfl) found s (.refl _ s)) he

theorem startDeadline_touches {s nx : State} (he : exec (.startDeadline) s = .next nx) : SameBut (touches (.startDeadline)) s nx :=
  sameBut_of_outWithin (@execStartDeadline_frame _ s (touch_of rfl) (touch_of rfl) (touch_of rfl) (touch_of rfl) (touch_of rfl) (touch_of rfl) (touch_of rfl) (touch_of rfl) (touch_of rfl) (touch_of rfl) (touch_of rfl) (touch_of rfl) (touch_of rfl) (touch_of rfl) (touch_of rfl) (touch_of rfl) (touch_of rfl) (touch_of rfl) (touch_of rfl) (touch_of rfl) (touch_of rfl) (touch_of rfl) (touch_of rfl) s (.refl _ s)) he

theorem restartNormal_touches {who} {s nx : State} (he : exec (.restartNormal who) s = .next nx) : SameBut (touches (.restartNormal who)) s nx :=
  sameBut_of_outWithin (@execRestartNormal_frame _ s (touch_of rfl) (touch_of rfl) (touch_of rfl) (touch_of rfl) (touch_of rfl) (touch_of rfl) (touch_of rfl) (touch_of rfl) (touch_of rfl) (touch_of rfl) (touch_of rfl) (touch_of rfl) (touch_of rfl) (touch_of rfl) (touch_of rfl) (touch_of rfl) (touch_of rfl) (touch_of rfl) (touch_of rfl) (touch_of rfl) (touch_of rfl) (touch_of rfl) (touch_of rfl) who s (.refl _ s)) he

theorem restartMaintenance_touches {who} {s nx : State} (he : exec (.restartMaintenance who) s = .next nx) : SameBut (touches (.restartMaintenance who)) s nx :=
  sameBut_of_outWithin (@execRestartMaintenance_frame _ s (touch_of rfl) (touch_of rfl) (touch_of rfl) (touch_of rfl) (touch_of rfl) (touch_of rfl) (touch_of rfl) (touch_of rfl) (touch_of rfl) (touch_of rfl) (touch_of rfl) (touch_of rfl) (touch_of rfl) (touch_of rfl) (touch_of rfl) (touch_of rfl) (touch_of rfl) (touch_of rfl) (touch_of rfl) (touch_of rfl) (touch_of rfl) (touch_of rfl) (touch_of rfl) who s (.refl _ s)) he

theorem perstDeassert_touches {p} {s nx : State} (he : exec (.perstDeassert p) s = .next nx) : SameBut (touches (.perstDeassert p)) s nx :=
  sameBut_of_outWithin (@execPerstDeassert_frame _ s (touch_of rfl) p s (.refl _ s)) he

theorem perstAssert_touches {p} {s nx : State} (he : exec (.perstAssert p) s = .next nx) : SameBut (touches (.perstAssert p)) s nx :=
  sameBut_of_outWithin (@execPerstAssert_frame _ s (touch_of rfl) (touch_of rfl) (touch_of rfl) (touch_of rfl) (touch_of rfl) (touch_of rfl) (touch_of rfl) (touch_of rfl) (touch_of rfl) (touch_of rfl) (touch_of rfl) (touch_of rfl) (touch_of rfl) (touch_of rfl) (touch_of rfl) (touch_of rfl) (touch_of rfl) (touch_of rfl) (touch_of rfl) (touch_of rfl) (touch_of rfl) (touch_of rfl) (touch_of rfl) p s (.refl _ s)) he

theorem firmwareImageDownload_touches {slot piece} {s nx : State} (he : exec (.firmwareImageDownload slot piece) s = .next nx) : SameBut (touches (.firmwareImageDownload slot piece)) s nx :=
  sameBut_of_outWithin (@execFirmwareImageDownload_frame _ s (touch_of rfl) (touch_of rfl) (touch_of rfl) (touch_of rfl) (touch_of rfl) (touch_of rfl) (touch_of rfl) slot piece s (.refl _ s)) he

theorem firmwareCommitReplace_touches {slot} {s nx : State} (he : exec (.firmwareCommitReplace slot) s = .next nx) : SameBut (touches (.firmwareCommitReplace slot)) s nx :=
  sameBut_of_outWithin (@execFirmwareCommitReplace_frame _ s (touch_of rfl) (touch_of rfl) (touch_of rfl) (touch_of rfl) (touch_of rfl) (touch_of rfl) (touch_of rfl) (touch_of rfl) slot s (.refl _ s)) he

theorem firmwareCommitReplaceActivate_touches {slot} {s nx : State} (he : exec (.firmwareCommitReplaceActivate slot) s = .next nx) : SameBut (touches (.firmwareCommitReplaceActivate slot)) s nx :=
  sameBut_of_outWithin (@execFirmwareCommitReplaceActivate_frame _ s (touch_of rfl) (touch_of rfl) (touch_of rfl) (touch_of rfl) (touch_of rfl) (touch_of rfl) (touch_of rfl) (touch_of rfl) slot s (.refl _ s)) he

theorem firmwareCommitActivate_touches {slot} {s nx : State} (he : exec (.firmwareCommitActivate slot) s = .next nx) : SameBut (touches (.firmwareCommitActivate slot)) s nx :=
  sameBut_of_outWithin (@execFirmwareCommitActivate_frame _ s (touch_of rfl) (touch_of rfl) (touch_of rfl) (touch_of rfl) (touch_of rfl) (touch_of rfl) (touch_of rfl) slot s (.refl _ s)) he

theorem firmwareCommitActivateNow_touches {slot} {s nx : State} (he : exec (.firmwareCommitActivateNow slot) s = .next nx) : SameBut (touches (.firmwareCommitActivateNow slot)) s nx :=
  sameBut_of_outWithin (@execFirmwareCommitActivateNow_frame _ s (touch_of rfl) (touch_of rfl) (touch_of rfl) (touch_of rfl) (touch_of rfl) (touch_of rfl) (touch_of rfl) slot s (.refl _ s)) he

theorem firmwareCommitInvalidAction_touches {slot} {s nx : State} (he : exec (.firmwareCommitInvalidAction slot) s = .next nx) : SameBut (touches (.firmwareCommitInvalidAction slot)) s nx :=
  sameBut_of_outWithin (@execFirmwareCommitInvalidAction_frame _ s (touch_of rfl) (touch_of rfl) (touch_of rfl) (touch_of rfl) (touch_of rfl) (touch_of rfl) slot s (.refl _ s)) he

theorem firmwareCommitDone_touches {s nx : State} (he : exec (.firmwareCommitDone) s = .next nx) : SameBut (touches (.firmwareCommitDone)) s nx :=
  sameBut_of_outWithin (@execFirmwareCommitDone_frame _ s (touch_of rfl) (touch_of rfl) (touch_of rfl) (touch_of rfl) (touch_of rfl) (touch_of rfl) (touch_of rfl) s (.refl _ s)) he

theorem activationStaged_touches {s nx : State} (he : exec (.activationStaged) s = .next nx) : SameBut (touches (.activationStaged)) s nx :=
  sameBut_of_outWithin (@execActivationStaged_frame _ s (touch_of rfl) (touch_of rfl) (touch_of rfl) (touch_of rfl) (touch_of rfl) (touch_of rfl) (touch_of rfl) (touch_of rfl) (touch_of rfl) s (.refl _ s)) he

theorem activationFreezeEnd_touches {freezeUs} {s nx : State} (he : exec (.activationFreezeEnd freezeUs) s = .next nx) : SameBut (touches (.activationFreezeEnd freezeUs)) s nx :=
  sameBut_of_outWithin (@execActivationFreezeEnd_frame _ s (touch_of rfl) (touch_of rfl) (touch_of rfl) (touch_of rfl) (touch_of rfl) (touch_of rfl) (touch_of rfl) (touch_of rfl) (touch_of rfl) (touch_of rfl) (touch_of rfl) (touch_of rfl) (touch_of rfl) (touch_of rfl) (touch_of rfl) (touch_of rfl) (touch_of rfl) (touch_of rfl) (touch_of rfl) (touch_of rfl) (touch_of rfl) (touch_of rfl) (touch_of rfl) freezeUs s (.refl _ s)) he

theorem activationBankSwitch_touches {s nx : State} (he : exec (.activationBankSwitch) s = .next nx) : SameBut (touches (.activationBankSwitch)) s nx :=
  sameBut_of_outWithin (@execActivationBankSwitch_frame _ s (touch_of rfl) (touch_of rfl) (touch_of rfl) s (.refl _ s)) he

theorem bundleStageLast_touches {who offset data} {s nx : State} (he : exec (.bundleStageLast who offset data) s = .next nx) : SameBut (touches (.bundleStageLast who offset data)) s nx :=
  sameBut_of_outWithin (@execBundleStageLast_frame _ s (touch_of rfl) (touch_of rfl) (touch_of rfl) (touch_of rfl) (touch_of rfl) who offset data s (.refl _ s)) he

theorem bundleWriteDone_touches {s nx : State} (he : exec (.bundleWriteDone) s = .next nx) : SameBut (touches (.bundleWriteDone)) s nx :=
  sameBut_of_outWithin (@execBundleWriteDone_frame _ s (touch_of rfl) (touch_of rfl) (touch_of rfl) (touch_of rfl) s (.refl _ s)) he

theorem recoveryImageLast_touches {who offset data} {s nx : State} (he : exec (.recoveryImageLast who offset data) s = .next nx) : SameBut (touches (.recoveryImageLast who offset data)) s nx :=
  sameBut_of_outWithin (@execRecoveryImageLast_frame _ s (touch_of rfl) (touch_of rfl) (touch_of rfl) (touch_of rfl) (touch_of rfl) who offset data s (.refl _ s)) he

theorem lifecycleNonceRead_touches {who} {s nx : State} (he : exec (.lifecycleNonceRead who) s = .next nx) : SameBut (touches (.lifecycleNonceRead who)) s nx :=
  sameBut_of_outWithin (@execLifecycleNonceRead_frame _ s (touch_of rfl) (touch_of rfl) (touch_of rfl) (touch_of rfl) who s (.refl _ s)) he

theorem lifecycleNonceExpire_touches {s nx : State} (he : exec (.lifecycleNonceExpire) s = .next nx) : SameBut (touches (.lifecycleNonceExpire)) s nx :=
  sameBut_of_outWithin (@execLifecycleNonceExpire_frame _ s (touch_of rfl) s (.refl _ s)) he

theorem lifecycleRequest_touches {who value} {s nx : State} (he : exec (.lifecycleRequest who value) s = .next nx) : SameBut (touches (.lifecycleRequest who value)) s nx :=
  sameBut_of_outWithin (@execLifecycleRequest_frame _ s (touch_of rfl) (touch_of rfl) (touch_of rfl) (touch_of rfl) (touch_of rfl) (touch_of rfl) (touch_of rfl) (touch_of rfl) (touch_of rfl) (touch_of rfl) (touch_of rfl) (touch_of rfl) (touch_of rfl) (touch_of rfl) (touch_of rfl) (touch_of rfl) (touch_of rfl) (touch_of rfl) (touch_of rfl) (touch_of rfl) (touch_of rfl) (touch_of rfl) (touch_of rfl) who value s (.refl _ s)) he

theorem ownerKeyWrite_touches {who offset data} {s nx : State} (he : exec (.ownerKeyWrite who offset data) s = .next nx) : SameBut (touches (.ownerKeyWrite who offset data)) s nx :=
  sameBut_of_outWithin (@execOwnerKeyWrite_frame _ s (touch_of rfl) (touch_of rfl) (touch_of rfl) (touch_of rfl) (touch_of rfl) who offset data s (.refl _ s)) he

theorem certChainWrite_touches {who chain offset data} {s nx : State} (he : exec (.certChainWrite who chain offset data) s = .next nx) : SameBut (touches (.certChainWrite who chain offset data)) s nx :=
  sameBut_of_outWithin (@execCertChainWrite_frame _ s (touch_of rfl) (touch_of rfl) (touch_of rfl) (touch_of rfl) (touch_of rfl) who chain offset data s (.refl _ s)) he

theorem spdmGetVersion_touches {via} {s nx : State} (he : exec (.spdmGetVersion via) s = .next nx) : SameBut (touches (.spdmGetVersion via)) s nx :=
  sameBut_of_outWithin (@execSpdmGetVersion_frame _ s (touch_of rfl) (touch_of rfl) via s (.refl _ s)) he

theorem spdmGetCapabilities_touches {via request} {s nx : State} (he : exec (.spdmGetCapabilities via request) s = .next nx) : SameBut (touches (.spdmGetCapabilities via request)) s nx :=
  sameBut_of_outWithin (@execSpdmGetCapabilities_frame _ s (touch_of rfl) (touch_of rfl) (touch_of rfl) via request s (.refl _ s)) he

theorem spdmNegotiateAlgorithms_touches {via request} {s nx : State} (he : exec (.spdmNegotiateAlgorithms via request) s = .next nx) : SameBut (touches (.spdmNegotiateAlgorithms via request)) s nx :=
  sameBut_of_outWithin (@execSpdmNegotiateAlgorithms_frame _ s (touch_of rfl) (touch_of rfl) via request s (.refl _ s)) he

theorem spdmGetDigests_touches {via} {s nx : State} (he : exec (.spdmGetDigests via) s = .next nx) : SameBut (touches (.spdmGetDigests via)) s nx :=
  sameBut_of_outWithin (@execSpdmGetDigests_frame _ s (touch_of rfl) (touch_of rfl) via s (.refl _ s)) he

theorem spdmGetCertificate_touches {via slot offset len} {s nx : State} (he : exec (.spdmGetCertificate via slot offset len) s = .next nx) : SameBut (touches (.spdmGetCertificate via slot offset len)) s nx :=
  sameBut_of_outWithin (@execSpdmGetCertificate_frame _ s (touch_of rfl) (touch_of rfl) via slot offset len s (.refl _ s)) he

theorem spdmChallenge_touches {via slot hashType nonce} {s nx : State} (he : exec (.spdmChallenge via slot hashType nonce) s = .next nx) : SameBut (touches (.spdmChallenge via slot hashType nonce)) s nx :=
  sameBut_of_outWithin (@execSpdmChallenge_frame _ s (touch_of rfl) (touch_of rfl) (touch_of rfl) via slot hashType nonce s (.refl _ s)) he

theorem spdmGetMeasurements_touches {via attributes index slotId nonce} {s nx : State} (he : exec (.spdmGetMeasurements via attributes index slotId nonce) s = .next nx) : SameBut (touches (.spdmGetMeasurements via attributes index slotId nonce)) s nx :=
  sameBut_of_outWithin (@execSpdmGetMeasurements_frame _ s (touch_of rfl) (touch_of rfl) (touch_of rfl) via attributes index slotId nonce s (.refl _ s)) he

theorem spdmUnsupported_touches {via req} {s nx : State} (he : exec (.spdmUnsupported via req) s = .next nx) : SameBut (touches (.spdmUnsupported via req)) s nx :=
  sameBut_of_outWithin (@execSpdmUnsupported_frame _ s (touch_of rfl) (touch_of rfl) via req s (.refl _ s)) he

theorem sanitize_touches {slot action} {s nx : State} (he : exec (.sanitize slot action) s = .next nx) : SameBut (touches (.sanitize slot action)) s nx :=
  sameBut_of_outWithin (@execSanitize_frame _ s (touch_of rfl) (touch_of rfl) (touch_of rfl) (touch_of rfl) (touch_of rfl) (touch_of rfl) (touch_of rfl) slot action s (.refl _ s)) he

theorem formatNvm_touches {slot} {s nx : State} (he : exec (.formatNvm slot) s = .next nx) : SameBut (touches (.formatNvm slot)) s nx :=
  sameBut_of_outWithin (@execFormatNvm_frame _ s (touch_of rfl) (touch_of rfl) (touch_of rfl) (touch_of rfl) (touch_of rfl) (touch_of rfl) (touch_of rfl) slot s (.refl _ s)) he

theorem grownEntryCommit_touches {surface entry} {s nx : State} (he : exec (.grownEntryCommit surface entry) s = .next nx) : SameBut (touches (.grownEntryCommit surface entry)) s nx :=
  sameBut_of_outWithin (@execGrownEntryCommit_frame _ s (touch_of rfl) (touch_of rfl) (touch_of rfl) (touch_of rfl) (touch_of rfl) surface entry s (.refl _ s)) he

theorem holderMoveDone_touches {holder surface} {s nx : State} (he : exec (.holderMoveDone holder surface) s = .next nx) : SameBut (touches (.holderMoveDone holder surface)) s nx :=
  sameBut_of_outWithin (@execHolderMoveDone_frame _ s (touch_of rfl) (touch_of rfl) (touch_of rfl) holder surface s (.refl _ s)) he

theorem servoSync_touches {a wedge track pes} {s nx : State} (he : exec (.servoSync a wedge track pes) s = .next nx) : SameBut (touches (.servoSync a wedge track pes)) s nx :=
  sameBut_of_outWithin (@execServoSync_frame _ s (touch_of rfl) (touch_of rfl) (touch_of rfl) (touch_of rfl) (touch_of rfl) (touch_of rfl) (touch_of rfl) (touch_of rfl) (touch_of rfl) (touch_of rfl) (touch_of rfl) (touch_of rfl) (touch_of rfl) (touch_of rfl) (touch_of rfl) (touch_of rfl) (touch_of rfl) (touch_of rfl) (touch_of rfl) (touch_of rfl) (touch_of rfl) (touch_of rfl) (touch_of rfl) a wedge track pes s (.refl _ s)) he

theorem servoSyncTimeout_touches {a} {s nx : State} (he : exec (.servoSyncTimeout a) s = .next nx) : SameBut (touches (.servoSyncTimeout a)) s nx :=
  sameBut_of_outWithin (@execServoSyncTimeout_frame _ s (touch_of rfl) (touch_of rfl) (touch_of rfl) (touch_of rfl) (touch_of rfl) (touch_of rfl) (touch_of rfl) (touch_of rfl) (touch_of rfl) a s (.refl _ s)) he

theorem synthLock_touches {a} {s nx : State} (he : exec (.synthLock a) s = .next nx) : SameBut (touches (.synthLock a)) s nx :=
  sameBut_of_outWithin (@execSynthLock_frame _ s (touch_of rfl) a s (.refl _ s)) he

theorem synthUnlock_touches {a} {s nx : State} (he : exec (.synthUnlock a) s = .next nx) : SameBut (touches (.synthUnlock a)) s nx :=
  sameBut_of_outWithin (@execSynthUnlock_frame _ s (touch_of rfl) (touch_of rfl) (touch_of rfl) (touch_of rfl) (touch_of rfl) (touch_of rfl) (touch_of rfl) (touch_of rfl) a s (.refl _ s)) he

theorem thermalAsperity_touches {a adc} {s nx : State} (he : exec (.thermalAsperity a adc) s = .next nx) : SameBut (touches (.thermalAsperity a adc)) s nx :=
  sameBut_of_outWithin (@execThermalAsperity_frame _ s (touch_of rfl) (touch_of rfl) (touch_of rfl) (touch_of rfl) (touch_of rfl) a adc s (.refl _ s)) he

theorem dropDetect_touches {a adc} {s nx : State} (he : exec (.dropDetect a adc) s = .next nx) : SameBut (touches (.dropDetect a adc)) s nx :=
  sameBut_of_outWithin (@execDropDetect_frame _ s (touch_of rfl) (touch_of rfl) (touch_of rfl) (touch_of rfl) (touch_of rfl) a adc s (.refl _ s)) he

theorem freezeHangoverEnd_touches {a adc} {s nx : State} (he : exec (.freezeHangoverEnd a adc) s = .next nx) : SameBut (touches (.freezeHangoverEnd a adc)) s nx :=
  sameBut_of_outWithin (@execFreezeHangoverEnd_frame _ s (touch_of rfl) (touch_of rfl) a adc s (.refl _ s)) he

theorem longFreeze_touches {a adc} {s nx : State} (he : exec (.longFreeze a adc) s = .next nx) : SameBut (touches (.longFreeze a adc)) s nx :=
  sameBut_of_outWithin (@execLongFreeze_frame _ s (touch_of rfl) (touch_of rfl) (touch_of rfl) (touch_of rfl) a adc s (.refl _ s)) he

theorem syncWindowEnd_touches {p first candidates} {s nx : State} (he : exec (.syncWindowEnd p first candidates) s = .next nx) : SameBut (touches (.syncWindowEnd p first candidates)) s nx :=
  sameBut_of_outWithin (@execSyncWindowEnd_frame _ s (touch_of rfl) (touch_of rfl) (touch_of rfl) (touch_of rfl) (touch_of rfl) p first candidates s (.refl _ s)) he

theorem captureEnd_touches {p adc} {s nx : State} (he : exec (.captureEnd p adc) s = .next nx) : SameBut (touches (.captureEnd p adc)) s nx :=
  sameBut_of_outWithin (@execCaptureEnd_frame _ s (touch_of rfl) (touch_of rfl) (touch_of rfl) (touch_of rfl) (touch_of rfl) (touch_of rfl) (touch_of rfl) p adc s (.refl _ s)) he

theorem preampFaultAssert_touches {a} {s nx : State} (he : exec (.preampFaultAssert a) s = .next nx) : SameBut (touches (.preampFaultAssert a)) s nx :=
  sameBut_of_outWithin (@execPreampFaultAssert_frame _ s (touch_of rfl) (touch_of rfl) (touch_of rfl) (touch_of rfl) (touch_of rfl) (touch_of rfl) (touch_of rfl) (touch_of rfl) a s (.refl _ s)) he

theorem preampFaultPersist_touches {a} {s nx : State} (he : exec (.preampFaultPersist a) s = .next nx) : SameBut (touches (.preampFaultPersist a)) s nx :=
  sameBut_of_outWithin (@execPreampFaultPersist_frame _ s (touch_of rfl) (touch_of rfl) (touch_of rfl) (touch_of rfl) (touch_of rfl) (touch_of rfl) (touch_of rfl) (touch_of rfl) (touch_of rfl) (touch_of rfl) (touch_of rfl) (touch_of rfl) a s (.refl _ s)) he

theorem preampFrameDone_touches {a readback parityOk} {s nx : State} (he : exec (.preampFrameDone a readback parityOk) s = .next nx) : SameBut (touches (.preampFrameDone a readback parityOk)) s nx :=
  sameBut_of_outWithin (@execPreampFrameDone_frame _ s (touch_of rfl) (touch_of rfl) (touch_of rfl) (touch_of rfl) (touch_of rfl) (touch_of rfl) (touch_of rfl) (touch_of rfl) a readback parityOk s (.refl _ s)) he

theorem preampAccess_touches {who a value} {s nx : State} (he : exec (.preampAccess who a value) s = .next nx) : SameBut (touches (.preampAccess who a value)) s nx :=
  sameBut_of_outWithin (@execPreampAccess_frame _ s (touch_of rfl) (touch_of rfl) (touch_of rfl) (touch_of rfl) (touch_of rfl) (touch_of rfl) (touch_of rfl) (touch_of rfl) (touch_of rfl) (touch_of rfl) (touch_of rfl) (touch_of rfl) (touch_of rfl) (touch_of rfl) (touch_of rfl) (touch_of rfl) (touch_of rfl) (touch_of rfl) (touch_of rfl) (touch_of rfl) (touch_of rfl) (touch_of rfl) (touch_of rfl) who a value s (.refl _ s)) he

theorem writePayloadPoisoned_touches {p entry} {s nx : State} (he : exec (.writePayloadPoisoned p entry) s = .next nx) : SameBut (touches (.writePayloadPoisoned p entry)) s nx :=
  sameBut_of_outWithin (@execWritePayloadPoisoned_frame _ s (touch_of rfl) (touch_of rfl) (touch_of rfl) (touch_of rfl) (touch_of rfl) (touch_of rfl) (touch_of rfl) p entry s (.refl _ s)) he

theorem detectorPassDone_touches {core job check} {s nx : State} (he : exec (.detectorPassDone core job check) s = .next nx) : SameBut (touches (.detectorPassDone core job check)) s nx := by
  have : Touch .objs (touches (.detectorPassDone core job check)) := touch_of rfl
  have : Touch .dec (touches (.detectorPassDone core job check)) := touch_of rfl
  have : Touch .raised (touches (.detectorPassDone core job check)) := touch_of rfl
  have : Touch .free (touches (.detectorPassDone core job check)) := touch_of rfl
  refine sameBut_of_outWithin ?_ he
  simp only [exec, execDetectorPassDone_frame, Within.refl]

theorem ldpcIterationDone_touches {core job check} {s nx : State} (he : exec (.ldpcIterationDone core job check) s = .next nx) : SameBut (touches (.ldpcIterationDone core job check)) s nx := by
  have : Touch .objs (touches (.ldpcIterationDone core job check)) := touch_of rfl
  have : Touch .dec (touches (.ldpcIterationDone core job check)) := touch_of rfl
  have : Touch .players (touches (.ldpcIterationDone core job check)) := touch_of rfl
  have : Touch .mem (touches (.ldpcIterationDone core job check)) := touch_of rfl
  have : Touch .raised (touches (.ldpcIterationDone core job check)) := touch_of rfl
  have : Touch .free (touches (.ldpcIterationDone core job check)) := touch_of rfl
  refine sameBut_of_outWithin ?_ he
  simp only [exec, execLdpcIterationDone_frame, Within.refl]

theorem decodeDeadline_touches {job} {s nx : State} (he : exec (.decodeDeadline job) s = .next nx) : SameBut (touches (.decodeDeadline job)) s nx :=
  sameBut_of_outWithin (@execDecodeDeadline_frame _ s (touch_of rfl) (touch_of rfl) (touch_of rfl) (touch_of rfl) (touch_of rfl) job s (.refl _ s)) he

theorem holdCopyDone_touches {a hold} {s nx : State} (he : exec (.holdCopyDone a hold) s = .next nx) : SameBut (touches (.holdCopyDone a hold)) s nx :=
  sameBut_of_outWithin (@execHoldCopyDone_frame _ s (touch_of rfl) (touch_of rfl) a hold s (.refl _ s)) he

theorem ringTailWrite_touches {core value} {s nx : State} (he : exec (.ringTailWrite core value) s = .next nx) : SameBut (touches (.ringTailWrite core value)) s nx :=
  sameBut_of_outWithin (@execRingTailWrite_frame _ s (touch_of rfl) (touch_of rfl) (touch_of rfl) (touch_of rfl) (touch_of rfl) (touch_of rfl) (touch_of rfl) (touch_of rfl) (touch_of rfl) (touch_of rfl) (touch_of rfl) (touch_of rfl) (touch_of rfl) (touch_of rfl) (touch_of rfl) (touch_of rfl) (touch_of rfl) (touch_of rfl) (touch_of rfl) (touch_of rfl) (touch_of rfl) (touch_of rfl) (touch_of rfl) core value s (.refl _ s)) he

theorem ladderDeep_touches {ring} {s nx : State} (he : exec (.ladderDeep ring) s = .next nx) : SameBut (touches (.ladderDeep ring)) s nx :=
  sameBut_of_outWithin (@execLadderDeep_frame _ s (touch_of rfl) (touch_of rfl) ring s (.refl _ s)) he

theorem ladderAverage_touches {ring} {s nx : State} (he : exec (.ladderAverage ring) s = .next nx) : SameBut (touches (.ladderAverage ring)) s nx :=
  sameBut_of_outWithin (@execLadderAverage_frame _ s (touch_of rfl) (touch_of rfl) (touch_of rfl) ring s (.refl _ s)) he

theorem ladderReleaseHold_touches {ring} {s nx : State} (he : exec (.ladderReleaseHold ring) s = .next nx) : SameBut (touches (.ladderReleaseHold ring)) s nx :=
  sameBut_of_outWithin (@execLadderReleaseHold_frame _ s (touch_of rfl) (touch_of rfl) ring s (.refl _ s)) he

theorem ladderRequestEnd_touches {job} {s nx : State} (he : exec (.ladderRequestEnd job) s = .next nx) : SameBut (touches (.ladderRequestEnd job)) s nx :=
  sameBut_of_outWithin (@execLadderRequestEnd_frame _ s (touch_of rfl) (touch_of rfl) (touch_of rfl) (touch_of rfl) job s (.refl _ s)) he

theorem ladderStepAdvance_touches {surface track psector top status outcome} {s nx : State} (he : exec (.ladderStepAdvance surface track psector top status outcome) s = .next nx) : SameBut (touches (.ladderStepAdvance surface track psector top status outcome)) s nx :=
  sameBut_of_outWithin (@execLadderStepAdvance_frame _ s (touch_of rfl) (touch_of rfl) (touch_of rfl) (touch_of rfl) (touch_of rfl) (touch_of rfl) (touch_of rfl) surface track psector top status outcome s (.refl _ s)) he

theorem sentenceLoad_touches {core p addr} {s nx : State} (he : exec (.sentenceLoad core p addr) s = .next nx) : SameBut (touches (.sentenceLoad core p addr)) s nx :=
  sameBut_of_outWithin (@execSentenceLoad_frame _ s (touch_of rfl) (touch_of rfl) (touch_of rfl) (touch_of rfl) (touch_of rfl) (touch_of rfl) (touch_of rfl) (touch_of rfl) (touch_of rfl) (touch_of rfl) (touch_of rfl) (touch_of rfl) (touch_of rfl) (touch_of rfl) (touch_of rfl) (touch_of rfl) (touch_of rfl) (touch_of rfl) (touch_of rfl) (touch_of rfl) (touch_of rfl) (touch_of rfl) (touch_of rfl) core p addr s (.refl _ s)) he

theorem sentenceFetchDone_touches {p} {s nx : State} (he : exec (.sentenceFetchDone p) s = .next nx) : SameBut (touches (.sentenceFetchDone p)) s nx :=
  sameBut_of_outWithin (@execSentenceFetchDone_frame _ s (touch_of rfl) (touch_of rfl) (touch_of rfl) (touch_of rfl) (touch_of rfl) (touch_of rfl) (touch_of rfl) (touch_of rfl) (touch_of rfl) p s (.refl _ s)) he

theorem sentenceUnderrun_touches {p} {s nx : State} (he : exec (.sentenceUnderrun p) s = .next nx) : SameBut (touches (.sentenceUnderrun p)) s nx :=
  sameBut_of_outWithin (@execSentenceUnderrun_frame _ s (touch_of rfl) (touch_of rfl) (touch_of rfl) (touch_of rfl) (touch_of rfl) (touch_of rfl) (touch_of rfl) (touch_of rfl) (touch_of rfl) p s (.refl _ s)) he

theorem playerAbort_touches {core p value} {s nx : State} (he : exec (.playerAbort core p value) s = .next nx) : SameBut (touches (.playerAbort core p value)) s nx :=
  sameBut_of_outWithin (@execPlayerAbort_frame _ s (touch_of rfl) (touch_of rfl) (touch_of rfl) (touch_of rfl) (touch_of rfl) (touch_of rfl) (touch_of rfl) (touch_of rfl) (touch_of rfl) (touch_of rfl) (touch_of rfl) (touch_of rfl) (touch_of rfl) (touch_of rfl) (touch_of rfl) (touch_of rfl) (touch_of rfl) (touch_of rfl) (touch_of rfl) (touch_of rfl) (touch_of rfl) (touch_of rfl) (touch_of rfl) core p value s (.refl _ s)) he

theorem clauseStep_touches {p phrase arg} {s nx : State} (he : exec (.clauseStep p phrase arg) s = .next nx) : SameBut (touches (.clauseStep p phrase arg)) s nx :=
  sameBut_of_outWithin (@execClauseStep_frame _ s (touch_of rfl) (touch_of rfl) (touch_of rfl) (touch_of rfl) (touch_of rfl) (touch_of rfl) (touch_of rfl) (touch_of rfl) (touch_of rfl) (touch_of rfl) p phrase arg s (.refl _ s)) he

theorem clauseGoto_touches {p phrase arg} {s nx : State} (he : exec (.clauseGoto p phrase arg) s = .next nx) : SameBut (touches (.clauseGoto p phrase arg)) s nx :=
  sameBut_of_outWithin (@execClauseGoto_frame _ s (touch_of rfl) (touch_of rfl) (touch_of rfl) (touch_of rfl) (touch_of rfl) (touch_of rfl) (touch_of rfl) (touch_of rfl) (touch_of rfl) (touch_of rfl) p phrase arg s (.refl _ s)) he

theorem clauseCall_touches {p phrase arg} {s nx : State} (he : exec (.clauseCall p phrase arg) s = .next nx) : SameBut (touches (.clauseCall p phrase arg)) s nx :=
  sameBut_of_outWithin (@execClauseCall_frame _ s (touch_of rfl) (touch_of rfl) (touch_of rfl) (touch_of rfl) (touch_of rfl) (touch_of rfl) (touch_of rfl) (touch_of rfl) (touch_of rfl) (touch_of rfl) p phrase arg s (.refl _ s)) he

theorem clauseRet_touches {p phrase arg} {s nx : State} (he : exec (.clauseRet p phrase arg) s = .next nx) : SameBut (touches (.clauseRet p phrase arg)) s nx :=
  sameBut_of_outWithin (@execClauseRet_frame _ s (touch_of rfl) (touch_of rfl) (touch_of rfl) (touch_of rfl) (touch_of rfl) (touch_of rfl) (touch_of rfl) (touch_of rfl) (touch_of rfl) (touch_of rfl) p phrase arg s (.refl _ s)) he

theorem clauseSetcnt_touches {p phrase arg} {s nx : State} (he : exec (.clauseSetcnt p phrase arg) s = .next nx) : SameBut (touches (.clauseSetcnt p phrase arg)) s nx :=
  sameBut_of_outWithin (@execClauseSetcnt_frame _ s (touch_of rfl) (touch_of rfl) (touch_of rfl) (touch_of rfl) (touch_of rfl) (touch_of rfl) (touch_of rfl) (touch_of rfl) (touch_of rfl) (touch_of rfl) p phrase arg s (.refl _ s)) he

theorem clauseLoop_touches {p phrase arg} {s nx : State} (he : exec (.clauseLoop p phrase arg) s = .next nx) : SameBut (touches (.clauseLoop p phrase arg)) s nx :=
  sameBut_of_outWithin (@execClauseLoop_frame _ s (touch_of rfl) (touch_of rfl) (touch_of rfl) (touch_of rfl) (touch_of rfl) (touch_of rfl) (touch_of rfl) (touch_of rfl) (touch_of rfl) (touch_of rfl) p phrase arg s (.refl _ s)) he

theorem clauseSector_touches {p phrase arg} {s nx : State} (he : exec (.clauseSector p phrase arg) s = .next nx) : SameBut (touches (.clauseSector p phrase arg)) s nx :=
  sameBut_of_outWithin (@execClauseSector_frame _ s (touch_of rfl) (touch_of rfl) (touch_of rfl) (touch_of rfl) (touch_of rfl) (touch_of rfl) (touch_of rfl) (touch_of rfl) (touch_of rfl) (touch_of rfl) p phrase arg s (.refl _ s)) he

theorem clauseIfwrite_touches {p phrase arg} {s nx : State} (he : exec (.clauseIfwrite p phrase arg) s = .next nx) : SameBut (touches (.clauseIfwrite p phrase arg)) s nx :=
  sameBut_of_outWithin (@execClauseIfwrite_frame _ s (touch_of rfl) (touch_of rfl) (touch_of rfl) (touch_of rfl) (touch_of rfl) (touch_of rfl) (touch_of rfl) (touch_of rfl) (touch_of rfl) (touch_of rfl) p phrase arg s (.refl _ s)) he

theorem clauseIfparity_touches {p phrase arg} {s nx : State} (he : exec (.clauseIfparity p phrase arg) s = .next nx) : SameBut (touches (.clauseIfparity p phrase arg)) s nx :=
  sameBut_of_outWithin (@execClauseIfparity_frame _ s (touch_of rfl) (touch_of rfl) (touch_of rfl) (touch_of rfl) (touch_of rfl) (touch_of rfl) (touch_of rfl) (touch_of rfl) (touch_of rfl) (touch_of rfl) p phrase arg s (.refl _ s)) he

theorem clauseEnd_touches {p phrase arg} {s nx : State} (he : exec (.clauseEnd p phrase arg) s = .next nx) : SameBut (touches (.clauseEnd p phrase arg)) s nx :=
  sameBut_of_outWithin (@execClauseEnd_frame _ s (touch_of rfl) (touch_of rfl) (touch_of rfl) (touch_of rfl) (touch_of rfl) (touch_of rfl) (touch_of rfl) (touch_of rfl) (touch_of rfl) (touch_of rfl) p phrase arg s (.refl _ s)) he

theorem clauseBad_touches {p why} {s nx : State} (he : exec (.clauseBad p why) s = .next nx) : SameBut (touches (.clauseBad p why)) s nx :=
  sameBut_of_outWithin (@execClauseBad_frame _ s (touch_of rfl) (touch_of rfl) (touch_of rfl) (touch_of rfl) (touch_of rfl) (touch_of rfl) (touch_of rfl) (touch_of rfl) (touch_of rfl) (touch_of rfl) p why s (.refl _ s)) he

theorem clauseTimeEnd_touches {p} {s nx : State} (he : exec (.clauseTimeEnd p) s = .next nx) : SameBut (touches (.clauseTimeEnd p)) s nx :=
  sameBut_of_outWithin (@execClauseTimeEnd_frame _ s (touch_of rfl) (touch_of rfl) (touch_of rfl) (touch_of rfl) (touch_of rfl) (touch_of rfl) (touch_of rfl) (touch_of rfl) (touch_of rfl) (touch_of rfl) p s (.refl _ s)) he

theorem clauseWaitMet_touches {p wedge t} {s nx : State} (he : exec (.clauseWaitMet p wedge t) s = .next nx) : SameBut (touches (.clauseWaitMet p wedge t)) s nx :=
  sameBut_of_outWithin (@execClauseWaitMet_frame _ s (touch_of rfl) (touch_of rfl) (touch_of rfl) (touch_of rfl) (touch_of rfl) (touch_of rfl) (touch_of rfl) (touch_of rfl) (touch_of rfl) (touch_of rfl) p wedge t s (.refl _ s)) he

theorem clauseWaitTimeout_touches {p} {s nx : State} (he : exec (.clauseWaitTimeout p) s = .next nx) : SameBut (touches (.clauseWaitTimeout p)) s nx :=
  sameBut_of_outWithin (@execClauseWaitTimeout_frame _ s (touch_of rfl) (touch_of rfl) (touch_of rfl) (touch_of rfl) (touch_of rfl) (touch_of rfl) (touch_of rfl) (touch_of rfl) (touch_of rfl) (touch_of rfl) p s (.refl _ s)) he

theorem playerStallEnd_touches {p} {s nx : State} (he : exec (.playerStallEnd p) s = .next nx) : SameBut (touches (.playerStallEnd p)) s nx :=
  sameBut_of_outWithin (@execPlayerStallEnd_frame _ s (touch_of rfl) (touch_of rfl) (touch_of rfl) (touch_of rfl) (touch_of rfl) (touch_of rfl) (touch_of rfl) (touch_of rfl) (touch_of rfl) (touch_of rfl) p s (.refl _ s)) he

theorem windowEndReached_touches {p} {s nx : State} (he : exec (.windowEndReached p) s = .next nx) : SameBut (touches (.windowEndReached p)) s nx :=
  sameBut_of_outWithin (@execWindowEndReached_frame _ s (touch_of rfl) (touch_of rfl) (touch_of rfl) (touch_of rfl) (touch_of rfl) (touch_of rfl) (touch_of rfl) (touch_of rfl) (touch_of rfl) (touch_of rfl) p s (.refl _ s)) he

theorem playerMemoryFault_touches {p store} {s nx : State} (he : exec (.playerMemoryFault p store) s = .next nx) : SameBut (touches (.playerMemoryFault p store)) s nx :=
  sameBut_of_outWithin (@execPlayerMemoryFault_frame _ s (touch_of rfl) (touch_of rfl) (touch_of rfl) (touch_of rfl) (touch_of rfl) (touch_of rfl) (touch_of rfl) (touch_of rfl) (touch_of rfl) (touch_of rfl) p store s (.refl _ s)) he

theorem sentenceEnd_touches {p} {s nx : State} (he : exec (.sentenceEnd p) s = .next nx) : SameBut (touches (.sentenceEnd p)) s nx :=
  sameBut_of_outWithin (@execSentenceEnd_frame _ s (touch_of rfl) (touch_of rfl) (touch_of rfl) (touch_of rfl) (touch_of rfl) (touch_of rfl) (touch_of rfl) (touch_of rfl) (touch_of rfl) p s (.refl _ s)) he

theorem sentenceRecordWrite_touches {p} {s nx : State} (he : exec (.sentenceRecordWrite p) s = .next nx) : SameBut (touches (.sentenceRecordWrite p)) s nx :=
  sameBut_of_outWithin (@execSentenceRecordWrite_frame _ s (touch_of rfl) (touch_of rfl) p s (.refl _ s)) he

theorem outerTrigger_touches {a} {s nx : State} (he : exec (.outerTrigger a) s = .next nx) : SameBut (touches (.outerTrigger a)) s nx :=
  sameBut_of_outWithin (@execOuterTrigger_frame _ s (touch_of rfl) (touch_of rfl) (touch_of rfl) (touch_of rfl) (touch_of rfl) (touch_of rfl) (touch_of rfl) (touch_of rfl) (touch_of rfl) (touch_of rfl) (touch_of rfl) (touch_of rfl) (touch_of rfl) (touch_of rfl) (touch_of rfl) (touch_of rfl) (touch_of rfl) (touch_of rfl) (touch_of rfl) (touch_of rfl) (touch_of rfl) (touch_of rfl) (touch_of rfl) a s (.refl _ s)) he

theorem reinNop_touches {e} {s nx : State} (he : exec (.reinNop e) s = .next nx) : SameBut (touches (.reinNop e)) s nx :=
  sameBut_of_outWithin (@execReinNop_frame _ s (touch_of rfl) e s (.refl _ s)) he

theorem reinAdd_touches {e rd ra rb} {s nx : State} (he : exec (.reinAdd e rd ra rb) s = .next nx) : SameBut (touches (.reinAdd e rd ra rb)) s nx :=
  sameBut_of_outWithin (@execReinAdd_frame _ s (touch_of rfl) e rd ra rb s (.refl _ s)) he

theorem reinSub_touches {e rd ra rb} {s nx : State} (he : exec (.reinSub e rd ra rb) s = .next nx) : SameBut (touches (.reinSub e rd ra rb)) s nx :=
  sameBut_of_outWithin (@execReinSub_frame _ s (touch_of rfl) e rd ra rb s (.refl _ s)) he

theorem reinAddw_touches {e rd ra rb} {s nx : State} (he : exec (.reinAddw e rd ra rb) s = .next nx) : SameBut (touches (.reinAddw e rd ra rb)) s nx :=
  sameBut_of_outWithin (@execReinAddw_frame _ s (touch_of rfl) e rd ra rb s (.refl _ s)) he

theorem reinSubw_touches {e rd ra rb} {s nx : State} (he : exec (.reinSubw e rd ra rb) s = .next nx) : SameBut (touches (.reinSubw e rd ra rb)) s nx :=
  sameBut_of_outWithin (@execReinSubw_frame _ s (touch_of rfl) e rd ra rb s (.refl _ s)) he

theorem reinAnd_touches {e rd ra rb} {s nx : State} (he : exec (.reinAnd e rd ra rb) s = .next nx) : SameBut (touches (.reinAnd e rd ra rb)) s nx :=
  sameBut_of_outWithin (@execReinAnd_frame _ s (touch_of rfl) e rd ra rb s (.refl _ s)) he

theorem reinOr_touches {e rd ra rb} {s nx : State} (he : exec (.reinOr e rd ra rb) s = .next nx) : SameBut (touches (.reinOr e rd ra rb)) s nx :=
  sameBut_of_outWithin (@execReinOr_frame _ s (touch_of rfl) e rd ra rb s (.refl _ s)) he

theorem reinXor_touches {e rd ra rb} {s nx : State} (he : exec (.reinXor e rd ra rb) s = .next nx) : SameBut (touches (.reinXor e rd ra rb)) s nx :=
  sameBut_of_outWithin (@execReinXor_frame _ s (touch_of rfl) e rd ra rb s (.refl _ s)) he

theorem reinMin_touches {e rd ra rb} {s nx : State} (he : exec (.reinMin e rd ra rb) s = .next nx) : SameBut (touches (.reinMin e rd ra rb)) s nx :=
  sameBut_of_outWithin (@execReinMin_frame _ s (touch_of rfl) e rd ra rb s (.refl _ s)) he

theorem reinMax_touches {e rd ra rb} {s nx : State} (he : exec (.reinMax e rd ra rb) s = .next nx) : SameBut (touches (.reinMax e rd ra rb)) s nx :=
  sameBut_of_outWithin (@execReinMax_frame _ s (touch_of rfl) e rd ra rb s (.refl _ s)) he

theorem reinAbs_touches {e rd ra} {s nx : State} (he : exec (.reinAbs e rd ra) s = .next nx) : SameBut (touches (.reinAbs e rd ra)) s nx :=
  sameBut_of_outWithin (@execReinAbs_frame _ s (touch_of rfl) e rd ra s (.refl _ s)) he

theorem reinNeg_touches {e rd ra} {s nx : State} (he : exec (.reinNeg e rd ra) s = .next nx) : SameBut (touches (.reinNeg e rd ra)) s nx :=
  sameBut_of_outWithin (@execReinNeg_frame _ s (touch_of rfl) e rd ra s (.refl _ s)) he

theorem reinShl_touches {e rd ra imm} {s nx : State} (he : exec (.reinShl e rd ra imm) s = .next nx) : SameBut (touches (.reinShl e rd ra imm)) s nx :=
  sameBut_of_outWithin (@execReinShl_frame _ s (touch_of rfl) e rd ra imm s (.refl _ s)) he

theorem reinShr_touches {e rd ra imm} {s nx : State} (he : exec (.reinShr e rd ra imm) s = .next nx) : SameBut (touches (.reinShr e rd ra imm)) s nx :=
  sameBut_of_outWithin (@execReinShr_frame _ s (touch_of rfl) e rd ra imm s (.refl _ s)) he

theorem reinShrl_touches {e rd ra imm} {s nx : State} (he : exec (.reinShrl e rd ra imm) s = .next nx) : SameBut (touches (.reinShrl e rd ra imm)) s nx :=
  sameBut_of_outWithin (@execReinShrl_frame _ s (touch_of rfl) e rd ra imm s (.refl _ s)) he

theorem reinLi_touches {e rd imm} {s nx : State} (he : exec (.reinLi e rd imm) s = .next nx) : SameBut (touches (.reinLi e rd imm)) s nx :=
  sameBut_of_outWithin (@execReinLi_frame _ s (touch_of rfl) e rd imm s (.refl _ s)) he

theorem reinLui_touches {e rd imm} {s nx : State} (he : exec (.reinLui e rd imm) s = .next nx) : SameBut (touches (.reinLui e rd imm)) s nx :=
  sameBut_of_outWithin (@execReinLui_frame _ s (touch_of rfl) e rd imm s (.refl _ s)) he

theorem reinAddi_touches {e rd ra imm} {s nx : State} (he : exec (.reinAddi e rd ra imm) s = .next nx) : SameBut (touches (.reinAddi e rd ra imm)) s nx :=
  sameBut_of_outWithin (@execReinAddi_frame _ s (touch_of rfl) e rd ra imm s (.refl _ s)) he

theorem reinLd_touches {e rd ra imm} {s nx : State} (he : exec (.reinLd e rd ra imm) s = .next nx) : SameBut (touches (.reinLd e rd ra imm)) s nx :=
  sameBut_of_outWithin (@execReinLd_frame _ s (touch_of rfl) (touch_of rfl) (touch_of rfl) (touch_of rfl) (touch_of rfl) (touch_of rfl) e rd ra imm s (.refl _ s)) he

theorem reinSt_touches {e rs ra imm} {s nx : State} (he : exec (.reinSt e rs ra imm) s = .next nx) : SameBut (touches (.reinSt e rs ra imm)) s nx :=
  sameBut_of_outWithin (@execReinSt_frame _ s (touch_of rfl) (touch_of rfl) (touch_of rfl) (touch_of rfl) (touch_of rfl) (touch_of rfl) e rs ra imm s (.refl _ s)) he

theorem reinIn_touches {e rd port} {s nx : State} (he : exec (.reinIn e rd port) s = .next nx) : SameBut (touches (.reinIn e rd port)) s nx :=
  sameBut_of_outWithin (@execReinIn_frame _ s (touch_of rfl) e rd port s (.refl _ s)) he

theorem reinOut_touches {e rs port} {s nx : State} (he : exec (.reinOut e rs port) s = .next nx) : SameBut (touches (.reinOut e rs port)) s nx :=
  sameBut_of_outWithin (@execReinOut_frame _ s (touch_of rfl) e rs port s (.refl _ s)) he

theorem reinSetcb_touches {e imm} {s nx : State} (he : exec (.reinSetcb e imm) s = .next nx) : SameBut (touches (.reinSetcb e imm)) s nx :=
  sameBut_of_outWithin (@execReinSetcb_frame _ s (touch_of rfl) e imm s (.refl _ s)) he

theorem reinMul_touches {e acc ra caddr} {s nx : State} (he : exec (.reinMul e acc ra caddr) s = .next nx) : SameBut (touches (.reinMul e acc ra caddr)) s nx :=
  sameBut_of_outWithin (@execReinMul_frame _ s (touch_of rfl) e acc ra caddr s (.refl _ s)) he

theorem reinMac_touches {e acc ra caddr} {s nx : State} (he : exec (.reinMac e acc ra caddr) s = .next nx) : SameBut (touches (.reinMac e acc ra caddr)) s nx :=
  sameBut_of_outWithin (@execReinMac_frame _ s (touch_of rfl) e acc ra caddr s (.refl _ s)) he

theorem reinMsu_touches {e acc ra caddr} {s nx : State} (he : exec (.reinMsu e acc ra caddr) s = .next nx) : SameBut (touches (.reinMsu e acc ra caddr)) s nx :=
  sameBut_of_outWithin (@execReinMsu_frame _ s (touch_of rfl) e acc ra caddr s (.refl _ s)) he

theorem reinClra_touches {e acc} {s nx : State} (he : exec (.reinClra e acc) s = .next nx) : SameBut (touches (.reinClra e acc)) s nx :=
  sameBut_of_outWithin (@execReinClra_frame _ s (touch_of rfl) e acc s (.refl _ s)) he

theorem reinLda_touches {e acc ra} {s nx : State} (he : exec (.reinLda e acc ra) s = .next nx) : SameBut (touches (.reinLda e acc ra)) s nx :=
  sameBut_of_outWithin (@execReinLda_frame _ s (touch_of rfl) e acc ra s (.refl _ s)) he

theorem reinRnd_touches {e rd acc mode l} {s nx : State} (he : exec (.reinRnd e rd acc mode l) s = .next nx) : SameBut (touches (.reinRnd e rd acc mode l)) s nx :=
  sameBut_of_outWithin (@execReinRnd_frame _ s (touch_of rfl) e rd acc mode l s (.refl _ s)) he

theorem reinB_touches {e target} {s nx : State} (he : exec (.reinB e target) s = .next nx) : SameBut (touches (.reinB e target)) s nx :=
  sameBut_of_outWithin (@execReinB_frame _ s (touch_of rfl) e target s (.refl _ s)) he

theorem reinBz_touches {e ra target} {s nx : State} (he : exec (.reinBz e ra target) s = .next nx) : SameBut (touches (.reinBz e ra target)) s nx :=
  sameBut_of_outWithin (@execReinBz_frame _ s (touch_of rfl) e ra target s (.refl _ s)) he

theorem reinBnz_touches {e ra target} {s nx : State} (he : exec (.reinBnz e ra target) s = .next nx) : SameBut (touches (.reinBnz e ra target)) s nx :=
  sameBut_of_outWithin (@execReinBnz_frame _ s (touch_of rfl) e ra target s (.refl _ s)) he

theorem reinBlt_touches {e ra target} {s nx : State} (he : exec (.reinBlt e ra target) s = .next nx) : SameBut (touches (.reinBlt e ra target)) s nx :=
  sameBut_of_outWithin (@execReinBlt_frame _ s (touch_of rfl) e ra target s (.refl _ s)) he

theorem reinBge_touches {e ra target} {s nx : State} (he : exec (.reinBge e ra target) s = .next nx) : SameBut (touches (.reinBge e ra target)) s nx :=
  sameBut_of_outWithin (@execReinBge_frame _ s (touch_of rfl) e ra target s (.refl _ s)) he

theorem reinDbnz_touches {e ra target} {s nx : State} (he : exec (.reinDbnz e ra target) s = .next nx) : SameBut (touches (.reinDbnz e ra target)) s nx :=
  sameBut_of_outWithin (@execReinDbnz_frame _ s (touch_of rfl) e ra target s (.refl _ s)) he

theorem reinCall_touches {e target} {s nx : State} (he : exec (.reinCall e target) s = .next nx) : SameBut (touches (.reinCall e target)) s nx :=
  sameBut_of_outWithin (@execReinCall_frame _ s (touch_of rfl) (touch_of rfl) (touch_of rfl) (touch_of rfl) (touch_of rfl) (touch_of rfl) e target s (.refl _ s)) he

theorem reinRet_touches {e} {s nx : State} (he : exec (.reinRet e) s = .next nx) : SameBut (touches (.reinRet e)) s nx :=
  sameBut_of_outWithin (@execReinRet_frame _ s (touch_of rfl) (touch_of rfl) (touch_of rfl) (touch_of rfl) (touch_of rfl) (touch_of rfl) e s (.refl _ s)) he

theorem reinDone_touches {e} {s nx : State} (he : exec (.reinDone e) s = .next nx) : SameBut (touches (.reinDone e)) s nx :=
  sameBut_of_outWithin (@execReinDone_frame _ s (touch_of rfl) (touch_of rfl) (touch_of rfl) (touch_of rfl) (touch_of rfl) e s (.refl _ s)) he

theorem reinProgramFault_touches {e} {s nx : State} (he : exec (.reinProgramFault e) s = .next nx) : SameBut (touches (.reinProgramFault e)) s nx :=
  sameBut_of_outWithin (@execReinProgramFault_frame _ s (touch_of rfl) (touch_of rfl) (touch_of rfl) (touch_of rfl) (touch_of rfl) (touch_of rfl) e s (.refl _ s)) he

theorem reinBudgetStop_touches {e} {s nx : State} (he : exec (.reinBudgetStop e) s = .next nx) : SameBut (touches (.reinBudgetStop e)) s nx :=
  sameBut_of_outWithin (@execReinBudgetStop_frame _ s (touch_of rfl) (touch_of rfl) (touch_of rfl) (touch_of rfl) (touch_of rfl) (touch_of rfl) e s (.refl _ s)) he

theorem reinCompare_touches {g entry} {s nx : State} (he : exec (.reinCompare g entry) s = .next nx) : SameBut (touches (.reinCompare g entry)) s nx :=
  sameBut_of_outWithin (@execReinCompare_frame _ s (touch_of rfl) (touch_of rfl) (touch_of rfl) (touch_of rfl) (touch_of rfl) (touch_of rfl) (touch_of rfl) (touch_of rfl) (touch_of rfl) (touch_of rfl) (touch_of rfl) (touch_of rfl) (touch_of rfl) (touch_of rfl) (touch_of rfl) (touch_of rfl) (touch_of rfl) (touch_of rfl) (touch_of rfl) (touch_of rfl) (touch_of rfl) (touch_of rfl) (touch_of rfl) g entry s (.refl _ s)) he

theorem pairHoldRerunEnd_touches {g} {s nx : State} (he : exec (.pairHoldRerunEnd g) s = .next nx) : SameBut (touches (.pairHoldRerunEnd g)) s nx :=
  sameBut_of_outWithin (@execPairHoldRerunEnd_frame _ s (touch_of rfl) (touch_of rfl) (touch_of rfl) (touch_of rfl) (touch_of rfl) (touch_of rfl) (touch_of rfl) (touch_of rfl) (touch_of rfl) (touch_of rfl) (touch_of rfl) (touch_of rfl) (touch_of rfl) (touch_of rfl) (touch_of rfl) (touch_of rfl) (touch_of rfl) (touch_of rfl) (touch_of rfl) (touch_of rfl) (touch_of rfl) (touch_of rfl) (touch_of rfl) g s (.refl _ s)) he

theorem reinLatch_touches {g entry} {s nx : State} (he : exec (.reinLatch g entry) s = .next nx) : SameBut (touches (.reinLatch g entry)) s nx :=
  sameBut_of_outWithin (@execReinLatch_frame _ s (touch_of rfl) (touch_of rfl) (touch_of rfl) (touch_of rfl) g entry s (.refl _ s)) he

theorem engineReloadDone_touches {e} {s nx : State} (he : exec (.engineReloadDone e) s = .next nx) : SameBut (touches (.engineReloadDone e)) s nx :=
  sameBut_of_outWithin (@execEngineReloadDone_frame _ s (touch_of rfl) e s (.refl _ s)) he

theorem snapshotCopyDone_touches {e} {s nx : State} (he : exec (.snapshotCopyDone e) s = .next nx) : SameBut (touches (.snapshotCopyDone e)) s nx :=
  sameBut_of_outWithin (@execSnapshotCopyDone_frame _ s (touch_of rfl) e s (.refl _ s)) he

theorem probationEnd_touches {e} {s nx : State} (he : exec (.probationEnd e) s = .next nx) : SameBut (touches (.probationEnd e)) s nx :=
  sameBut_of_outWithin (@execProbationEnd_frame _ s (touch_of rfl) e s (.refl _ s)) he

theorem reinMemoryFault_touches {e} {s nx : State} (he : exec (.reinMemoryFault e) s = .next nx) : SameBut (touches (.reinMemoryFault e)) s nx :=
  sameBut_of_outWithin (@execReinMemoryFault_frame _ s (touch_of rfl) (touch_of rfl) (touch_of rfl) (touch_of rfl) (touch_of rfl) (touch_of rfl) (touch_of rfl) (touch_of rfl) (touch_of rfl) (touch_of rfl) (touch_of rfl) (touch_of rfl) (touch_of rfl) (touch_of rfl) (touch_of rfl) (touch_of rfl) (touch_of rfl) (touch_of rfl) (touch_of rfl) (touch_of rfl) (touch_of rfl) (touch_of rfl) (touch_of rfl) e s (.refl _ s)) he

theorem coefWrite_touches {who g value} {s nx : State} (he : exec (.coefWrite who g value) s = .next nx) : SameBut (touches (.coefWrite who g value)) s nx :=
  sameBut_of_outWithin (@execCoefWrite_frame _ s (touch_of rfl) (touch_of rfl) (touch_of rfl) (touch_of rfl) (touch_of rfl) (touch_of rfl) (touch_of rfl) (touch_of rfl) (touch_of rfl) (touch_of rfl) (touch_of rfl) (touch_of rfl) (touch_of rfl) (touch_of rfl) (touch_of rfl) (touch_of rfl) (touch_of rfl) (touch_of rfl) (touch_of rfl) (touch_of rfl) (touch_of rfl) (touch_of rfl) (touch_of rfl) who g value s (.refl _ s)) he

theorem snapRequest_touches {who g value} {s nx : State} (he : exec (.snapRequest who g value) s = .next nx) : SameBut (touches (.snapRequest who g value)) s nx :=
  sameBut_of_outWithin (@execSnapRequest_frame _ s (touch_of rfl) (touch_of rfl) (touch_of rfl) (touch_of rfl) (touch_of rfl) (touch_of rfl) (touch_of rfl) (touch_of rfl) (touch_of rfl) (touch_of rfl) (touch_of rfl) (touch_of rfl) (touch_of rfl) (touch_of rfl) (touch_of rfl) (touch_of rfl) (touch_of rfl) (touch_of rfl) (touch_of rfl) (touch_of rfl) (touch_of rfl) (touch_of rfl) (touch_of rfl) who g value s (.refl _ s)) he

theorem inject_touches {who g slot} {s nx : State} (he : exec (.inject who g slot) s = .next nx) : SameBut (touches (.inject who g slot)) s nx :=
  sameBut_of_outWithin (@execInject_frame _ s (touch_of rfl) (touch_of rfl) (touch_of rfl) (touch_of rfl) (touch_of rfl) (touch_of rfl) (touch_of rfl) (touch_of rfl) (touch_of rfl) (touch_of rfl) (touch_of rfl) (touch_of rfl) (touch_of rfl) (touch_of rfl) (touch_of rfl) (touch_of rfl) (touch_of rfl) (touch_of rfl) (touch_of rfl) (touch_of rfl) (touch_of rfl) (touch_of rfl) (touch_of rfl) who g slot s (.refl _ s)) he

theorem traceArm_touches {who a value} {s nx : State} (he : exec (.traceArm who a value) s = .next nx) : SameBut (touches (.traceArm who a value)) s nx :=
  sameBut_of_outWithin (@execTraceArm_frame _ s (touch_of rfl) (touch_of rfl) (touch_of rfl) (touch_of rfl) (touch_of rfl) (touch_of rfl) (touch_of rfl) (touch_of rfl) (touch_of rfl) (touch_of rfl) (touch_of rfl) (touch_of rfl) (touch_of rfl) (touch_of rfl) (touch_of rfl) (touch_of rfl) (touch_of rfl) (touch_of rfl) (touch_of rfl) (touch_of rfl) (touch_of rfl) (touch_of rfl) (touch_of rfl) who a value s (.refl _ s)) he

theorem traceForce_touches {who a value} {s nx : State} (he : exec (.traceForce who a value) s = .next nx) : SameBut (touches (.traceForce who a value)) s nx :=
  sameBut_of_outWithin (@execTraceForce_frame _ s (touch_of rfl) (touch_of rfl) (touch_of rfl) (touch_of rfl) (touch_of rfl) (touch_of rfl) (touch_of rfl) (touch_of rfl) (touch_of rfl) (touch_of rfl) (touch_of rfl) (touch_of rfl) (touch_of rfl) (touch_of rfl) (touch_of rfl) (touch_of rfl) (touch_of rfl) (touch_of rfl) (touch_of rfl) (touch_of rfl) (touch_of rfl) (touch_of rfl) (touch_of rfl) who a value s (.refl _ s)) he

theorem heartbeat_touches {count} {s nx : State} (he : exec (.heartbeat count) s = .next nx) : SameBut (touches (.heartbeat count)) s nx :=
  sameBut_of_outWithin (@execHeartbeat_frame _ s (touch_of rfl) (touch_of rfl) count s (.refl _ s)) he

theorem heartbeatLoss_touches {s nx : State} (he : exec (.heartbeatLoss) s = .next nx) : SameBut (touches (.heartbeatLoss)) s nx :=
  sameBut_of_outWithin (@execHeartbeatLoss_frame _ s (touch_of rfl) (touch_of rfl) (touch_of rfl) (touch_of rfl) (touch_of rfl) (touch_of rfl) (touch_of rfl) (touch_of rfl) (touch_of rfl) (touch_of rfl) (touch_of rfl) (touch_of rfl) (touch_of rfl) s (.refl _ s)) he

theorem linkResend_touches {mainToMotion} {s nx : State} (he : exec (.linkResend mainToMotion) s = .next nx) : SameBut (touches (.linkResend mainToMotion)) s nx :=
  sameBut_of_outWithin (@execLinkResend_frame _ s (touch_of rfl) (touch_of rfl) (touch_of rfl) (touch_of rfl) (touch_of rfl) (touch_of rfl) (touch_of rfl) (touch_of rfl) (touch_of rfl) (touch_of rfl) (touch_of rfl) (touch_of rfl) (touch_of rfl) (touch_of rfl) (touch_of rfl) (touch_of rfl) (touch_of rfl) (touch_of rfl) (touch_of rfl) (touch_of rfl) (touch_of rfl) (touch_of rfl) (touch_of rfl) mainToMotion s (.refl _ s)) he

theorem vcmCmd_touches {a ua mv} {s nx : State} (he : exec (.vcmCmd a ua mv) s = .next nx) : SameBut (touches (.vcmCmd a ua mv)) s nx :=
  sameBut_of_outWithin (@execVcmCmd_frame _ s (touch_of rfl) (touch_of rfl) (touch_of rfl) a ua mv s (.refl _ s)) he

theorem spinCmd_touches {ua} {s nx : State} (he : exec (.spinCmd ua) s = .next nx) : SameBut (touches (.spinCmd ua)) s nx :=
  sameBut_of_outWithin (@execSpinCmd_frame _ s (touch_of rfl) ua s (.refl _ s)) he

theorem driveMsg_touches {cmd} {s nx : State} (he : exec (.driveMsg cmd) s = .next nx) : SameBut (touches (.driveMsg cmd)) s nx :=
  sameBut_of_outWithin (@execDriveMsg_frame _ s (touch_of rfl) (touch_of rfl) (touch_of rfl) cmd s (.refl _ s)) he

theorem resetNotice_touches {lengthUs} {s nx : State} (he : exec (.resetNotice lengthUs) s = .next nx) : SameBut (touches (.resetNotice lengthUs)) s nx :=
  sameBut_of_outWithin (@execResetNotice_frame _ s (touch_of rfl) (touch_of rfl) lengthUs s (.refl _ s)) he

theorem linkObject_touches {who index sub write} {s nx : State} (he : exec (.linkObject who index sub write) s = .next nx) : SameBut (touches (.linkObject who index sub write)) s nx :=
  sameBut_of_outWithin (@execLinkObject_frame _ s (touch_of rfl) (touch_of rfl) (touch_of rfl) (touch_of rfl) (touch_of rfl) (touch_of rfl) (touch_of rfl) (touch_of rfl) (touch_of rfl) (touch_of rfl) (touch_of rfl) (touch_of rfl) (touch_of rfl) (touch_of rfl) (touch_of rfl) (touch_of rfl) (touch_of rfl) (touch_of rfl) (touch_of rfl) (touch_of rfl) (touch_of rfl) (touch_of rfl) (touch_of rfl) who index sub write s (.refl _ s)) he

theorem senseMsg_touches {a ua mv} {s nx : State} (he : exec (.senseMsg a ua mv) s = .next nx) : SameBut (touches (.senseMsg a ua mv)) s nx :=
  sameBut_of_outWithin (@execSenseMsg_frame _ s (touch_of rfl) (touch_of rfl) (touch_of rfl) (touch_of rfl) (touch_of rfl) (touch_of rfl) (touch_of rfl) (touch_of rfl) (touch_of rfl) (touch_of rfl) (touch_of rfl) (touch_of rfl) (touch_of rfl) (touch_of rfl) (touch_of rfl) (touch_of rfl) (touch_of rfl) (touch_of rfl) (touch_of rfl) (touch_of rfl) (touch_of rfl) (touch_of rfl) (touch_of rfl) a ua mv s (.refl _ s)) he

theorem zeroCross_touches {phase interval} {s nx : State} (he : exec (.zeroCross phase interval) s = .next nx) : SameBut (touches (.zeroCross phase interval)) s nx :=
  sameBut_of_outWithin (@execZeroCross_frame _ s (touch_of rfl) (touch_of rfl) (touch_of rfl) (touch_of rfl) phase interval s (.refl _ s)) he

theorem linkStatus_touches {vm temp} {s nx : State} (he : exec (.linkStatus vm temp) s = .next nx) : SameBut (touches (.linkStatus vm temp)) s nx :=
  sameBut_of_outWithin (@execLinkStatus_frame _ s (touch_of rfl) (touch_of rfl) vm temp s (.refl _ s)) he

theorem motionDieLost_touches {s nx : State} (he : exec (.motionDieLost) s = .next nx) : SameBut (touches (.motionDieLost)) s nx :=
  sameBut_of_outWithin (@execMotionDieLost_frame _ s (touch_of rfl) (touch_of rfl) (touch_of rfl) (touch_of rfl) (touch_of rfl) (touch_of rfl) (touch_of rfl) (touch_of rfl) (touch_of rfl) (touch_of rfl) (touch_of rfl) (touch_of rfl) (touch_of rfl) (touch_of rfl) (touch_of rfl) (touch_of rfl) (touch_of rfl) (touch_of rfl) (touch_of rfl) (touch_of rfl) (touch_of rfl) (touch_of rfl) (touch_of rfl) s (.refl _ s)) he

theorem zeroCrossMissing_touches {s nx : State} (he : exec (.zeroCrossMissing) s = .next nx) : SameBut (touches (.zeroCrossMissing)) s nx :=
  sameBut_of_outWithin (@execZeroCrossMissing_frame _ s (touch_of rfl) (touch_of rfl) (touch_of rfl) (touch_of rfl) s (.refl _ s)) he

theorem spindleDriverFault_touches {s nx : State} (he : exec (.spindleDriverFault) s = .next nx) : SameBut (touches (.spindleDriverFault)) s nx :=
  sameBut_of_outWithin (@execSpindleDriverFault_frame _ s (touch_of rfl) (touch_of rfl) (touch_of rfl) (touch_of rfl) s (.refl _ s)) he

theorem spinAlignEnd_touches {s nx : State} (he : exec (.spinAlignEnd) s = .next nx) : SameBut (touches (.spinAlignEnd)) s nx :=
  sameBut_of_outWithin (@execSpinAlignEnd_frame _ s (touch_of rfl) (touch_of rfl) s (.refl _ s)) he

theorem spinRampEnd_touches {handover} {s nx : State} (he : exec (.spinRampEnd handover) s = .next nx) : SameBut (touches (.spinRampEnd handover)) s nx :=
  sameBut_of_outWithin (@execSpinRampEnd_frame _ s (touch_of rfl) (touch_of rfl) (touch_of rfl) (touch_of rfl) (touch_of rfl) (touch_of rfl) (touch_of rfl) (touch_of rfl) (touch_of rfl) (touch_of rfl) (touch_of rfl) (touch_of rfl) (touch_of rfl) (touch_of rfl) (touch_of rfl) (touch_of rfl) (touch_of rfl) (touch_of rfl) (touch_of rfl) (touch_of rfl) (touch_of rfl) (touch_of rfl) (touch_of rfl) handover s (.refl _ s)) he

theorem spindleStandstill_touches {s nx : State} (he : exec (.spindleStandstill) s = .next nx) : SameBut (touches (.spindleStandstill)) s nx :=
  sameBut_of_outWithin (@execSpindleStandstill_frame _ s (touch_of rfl) (touch_of rfl) s (.refl _ s)) he

theorem vcmOvercurrent_touches {a} {s nx : State} (he : exec (.vcmOvercurrent a) s = .next nx) : SameBut (touches (.vcmOvercurrent a)) s nx :=
  sameBut_of_outWithin (@execVcmOvercurrent_frame _ s (touch_of rfl) (touch_of rfl) (touch_of rfl) (touch_of rfl) (touch_of rfl) (touch_of rfl) (touch_of rfl) (touch_of rfl) (touch_of rfl) (touch_of rfl) (touch_of rfl) (touch_of rfl) a s (.refl _ s)) he

theorem maOvercurrent_touches {a} {s nx : State} (he : exec (.maOvercurrent a) s = .next nx) : SameBut (touches (.maOvercurrent a)) s nx :=
  sameBut_of_outWithin (@execMaOvercurrent_frame _ s (touch_of rfl) (touch_of rfl) (touch_of rfl) a s (.refl _ s)) he

theorem headLoadTimeout_touches {a} {s nx : State} (he : exec (.headLoadTimeout a) s = .next nx) : SameBut (touches (.headLoadTimeout a)) s nx :=
  sameBut_of_outWithin (@execHeadLoadTimeout_frame _ s (touch_of rfl) (touch_of rfl) (touch_of rfl) (touch_of rfl) a s (.refl _ s)) he

theorem rampContact_touches {a} {s nx : State} (he : exec (.rampContact a) s = .next nx) : SameBut (touches (.rampContact a)) s nx :=
  sameBut_of_outWithin (@execRampContact_frame _ s (touch_of rfl) a s (.refl _ s)) he

theorem retractParked_touches {a ms} {s nx : State} (he : exec (.retractParked a ms) s = .next nx) : SameBut (touches (.retractParked a ms)) s nx :=
  sameBut_of_outWithin (@execRetractParked_frame _ s (touch_of rfl) (touch_of rfl) (touch_of rfl) (touch_of rfl) (touch_of rfl) (touch_of rfl) (touch_of rfl) (touch_of rfl) (touch_of rfl) (touch_of rfl) (touch_of rfl) (touch_of rfl) (touch_of rfl) (touch_of rfl) (touch_of rfl) (touch_of rfl) (touch_of rfl) (touch_of rfl) (touch_of rfl) (touch_of rfl) (touch_of rfl) (touch_of rfl) (touch_of rfl) a ms s (.refl _ s)) he

theorem retractTimeout_touches {a} {s nx : State} (he : exec (.retractTimeout a) s = .next nx) : SameBut (touches (.retractTimeout a)) s nx :=
  sameBut_of_outWithin (@execRetractTimeout_frame _ s (touch_of rfl) (touch_of rfl) (touch_of rfl) (touch_of rfl) (touch_of rfl) (touch_of rfl) (touch_of rfl) (touch_of rfl) (touch_of rfl) (touch_of rfl) (touch_of rfl) (touch_of rfl) (touch_of rfl) (touch_of rfl) (touch_of rfl) (touch_of rfl) (touch_of rfl) (touch_of rfl) (touch_of rfl) (touch_of rfl) (touch_of rfl) (touch_of rfl) (touch_of rfl) a s (.refl _ s)) he

theorem dumpSealed_touches {holdupMj vmMin} {s nx : State} (he : exec (.dumpSealed holdupMj vmMin) s = .next nx) : SameBut (touches (.dumpSealed holdupMj vmMin)) s nx :=
  sameBut_of_outWithin (@execDumpSealed_frame _ s (touch_of rfl) (touch_of rfl) (touch_of rfl) holdupMj vmMin s (.refl _ s)) he

theorem girthSync_touches {h tick baseHop tag fixed takeover overFlag} {s nx : State} (he : exec (.girthSync h tick baseHop tag fixed takeover overFlag) s = .next nx) : SameBut (touches (.girthSync h tick baseHop tag fixed takeover overFlag)) s nx :=
  sameBut_of_outWithin (@execGirthSync_frame _ s (touch_of rfl) (touch_of rfl) (touch_of rfl) (touch_of rfl) (touch_of rfl) h tick baseHop tag fixed takeover overFlag s (.refl _ s)) he

theorem girthPhase_touches {h rpm group} {s nx : State} (he : exec (.girthPhase h rpm group) s = .next nx) : SameBut (touches (.girthPhase h rpm group)) s nx :=
  sameBut_of_outWithin (@execGirthPhase_frame _ s (touch_of rfl) (touch_of rfl) (touch_of rfl) (touch_of rfl) (touch_of rfl) h rpm group s (.refl _ s)) he

theorem girthSeek_touches {h startTick profile act d profileSet} {s nx : State} (he : exec (.girthSeek h startTick profile act d profileSet) s = .next nx) : SameBut (touches (.girthSeek h startTick profile act d profileSet)) s nx :=
  sameBut_of_outWithin (@execGirthSeek_frame _ s (touch_of rfl) (touch_of rfl) (touch_of rfl) (touch_of rfl) (touch_of rfl) h startTick profile act d profileSet s (.refl _ s)) he

theorem girthHealth_touches {h payload} {s nx : State} (he : exec (.girthHealth h payload) s = .next nx) : SameBut (touches (.girthHealth h payload)) s nx :=
  sameBut_of_outWithin (@execGirthHealth_frame _ s (touch_of rfl) (touch_of rfl) (touch_of rfl) (touch_of rfl) (touch_of rfl) h payload s (.refl _ s)) he

theorem girthDictGet_touches {h target tag index sub} {s nx : State} (he : exec (.girthDictGet h target tag index sub) s = .next nx) : SameBut (touches (.girthDictGet h target tag index sub)) s nx :=
  sameBut_of_outWithin (@execGirthDictGet_frame _ s (touch_of rfl) (touch_of rfl) (touch_of rfl) (touch_of rfl) (touch_of rfl) (touch_of rfl) h target tag index sub s (.refl _ s)) he

theorem girthDictSet_touches {h target tag index sub value} {s nx : State} (he : exec (.girthDictSet h target tag index sub value) s = .next nx) : SameBut (touches (.girthDictSet h target tag index sub value)) s nx :=
  sameBut_of_outWithin (@execGirthDictSet_frame _ s (touch_of rfl) (touch_of rfl) (touch_of rfl) (touch_of rfl) (touch_of rfl) (touch_of rfl) (touch_of rfl) (touch_of rfl) (touch_of rfl) (touch_of rfl) (touch_of rfl) (touch_of rfl) (touch_of rfl) (touch_of rfl) (touch_of rfl) (touch_of rfl) (touch_of rfl) (touch_of rfl) (touch_of rfl) (touch_of rfl) (touch_of rfl) (touch_of rfl) (touch_of rfl) h target tag index sub value s (.refl _ s)) he

theorem girthDictResponse_touches {h target tag index sub status value} {s nx : State} (he : exec (.girthDictResponse h target tag index sub status value) s = .next nx) : SameBut (touches (.girthDictResponse h target tag index sub status value)) s nx :=
  sameBut_of_outWithin (@execGirthDictResponse_frame _ s (touch_of rfl) (touch_of rfl) (touch_of rfl) (touch_of rfl) (touch_of rfl) h target tag index sub status value s (.refl _ s)) he

theorem girthUnknownType_touches {h typ payload} {s nx : State} (he : exec (.girthUnknownType h typ payload) s = .next nx) : SameBut (touches (.girthUnknownType h typ payload)) s nx :=
  sameBut_of_outWithin (@execGirthUnknownType_frame _ s (touch_of rfl) (touch_of rfl) (touch_of rfl) (touch_of rfl) (touch_of rfl) h typ payload s (.refl _ s)) he

theorem syncPeriod_touches {s nx : State} (he : exec (.syncPeriod) s = .next nx) : SameBut (touches (.syncPeriod)) s nx :=
  sameBut_of_outWithin (@execSyncPeriod_frame _ s (touch_of rfl) (touch_of rfl) (touch_of rfl) (touch_of rfl) s (.refl _ s)) he

theorem phasePeriod_touches {s nx : State} (he : exec (.phasePeriod) s = .next nx) : SameBut (touches (.phasePeriod)) s nx :=
  sameBut_of_outWithin (@execPhasePeriod_frame _ s (touch_of rfl) (touch_of rfl) (touch_of rfl) (touch_of rfl) s (.refl _ s)) he

theorem healthPeriod_touches {s nx : State} (he : exec (.healthPeriod) s = .next nx) : SameBut (touches (.healthPeriod)) s nx :=
  sameBut_of_outWithin (@execHealthPeriod_frame _ s (touch_of rfl) (touch_of rfl) (touch_of rfl) (touch_of rfl) s (.refl _ s)) he

theorem healthDeferred_touches {s nx : State} (he : exec (.healthDeferred) s = .next nx) : SameBut (touches (.healthDeferred)) s nx :=
  sameBut_of_outWithin (@execHealthDeferred_frame _ s (touch_of rfl) (touch_of rfl) (touch_of rfl) (touch_of rfl) s (.refl _ s)) he

theorem masterLoss_touches {s nx : State} (he : exec (.masterLoss) s = .next nx) : SameBut (touches (.masterLoss)) s nx :=
  sameBut_of_outWithin (@execMasterLoss_frame _ s (touch_of rfl) (touch_of rfl) s (.refl _ s)) he

theorem candidateWaitEnd_touches {s nx : State} (he : exec (.candidateWaitEnd) s = .next nx) : SameBut (touches (.candidateWaitEnd)) s nx :=
  sameBut_of_outWithin (@execCandidateWaitEnd_frame _ s (touch_of rfl) (touch_of rfl) (touch_of rfl) (touch_of rfl) s (.refl _ s)) he

theorem joinListenTimeout_touches {noSymbol} {s nx : State} (he : exec (.joinListenTimeout noSymbol) s = .next nx) : SameBut (touches (.joinListenTimeout noSymbol)) s nx :=
  sameBut_of_outWithin (@execJoinListenTimeout_frame _ s (touch_of rfl) (touch_of rfl) noSymbol s (.refl _ s)) he

theorem announce_touches {who value} {s nx : State} (he : exec (.announce who value) s = .next nx) : SameBut (touches (.announce who value)) s nx :=
  sameBut_of_outWithin (@execAnnounce_frame _ s (touch_of rfl) (touch_of rfl) (touch_of rfl) (touch_of rfl) (touch_of rfl) (touch_of rfl) (touch_of rfl) (touch_of rfl) (touch_of rfl) (touch_of rfl) (touch_of rfl) (touch_of rfl) (touch_of rfl) (touch_of rfl) (touch_of rfl) (touch_of rfl) (touch_of rfl) (touch_of rfl) (touch_of rfl) (touch_of rfl) (touch_of rfl) (touch_of rfl) (touch_of rfl) who value s (.refl _ s)) he

theorem seekCancel_touches {a} {s nx : State} (he : exec (.seekCancel a) s = .next nx) : SameBut (touches (.seekCancel a)) s nx :=
  sameBut_of_outWithin (@execSeekCancel_frame _ s (touch_of rfl) (touch_of rfl) (touch_of rfl) (touch_of rfl) a s (.refl _ s)) he

theorem announcementEnd_touches {id} {s nx : State} (he : exec (.announcementEnd id) s = .next nx) : SameBut (touches (.announcementEnd id)) s nx :=
  sameBut_of_outWithin (@execAnnouncementEnd_frame _ s (touch_of rfl) (touch_of rfl) (touch_of rfl) id s (.refl _ s)) he

theorem dictRequest_touches {who value} {s nx : State} (he : exec (.dictRequest who value) s = .next nx) : SameBut (touches (.dictRequest who value)) s nx :=
  sameBut_of_outWithin (@execDictRequest_frame _ s (touch_of rfl) (touch_of rfl) (touch_of rfl) (touch_of rfl) (touch_of rfl) (touch_of rfl) (touch_of rfl) (touch_of rfl) (touch_of rfl) (touch_of rfl) (touch_of rfl) (touch_of rfl) (touch_of rfl) (touch_of rfl) (touch_of rfl) (touch_of rfl) (touch_of rfl) (touch_of rfl) (touch_of rfl) (touch_of rfl) (touch_of rfl) (touch_of rfl) (touch_of rfl) who value s (.refl _ s)) he

theorem dictRequestTimeout_touches {s nx : State} (he : exec (.dictRequestTimeout) s = .next nx) : SameBut (touches (.dictRequestTimeout)) s nx :=
  sameBut_of_outWithin (@execDictRequestTimeout_frame _ s (touch_of rfl) (touch_of rfl) s (.refl _ s)) he

theorem sqDoorbell_touches {p qid tail} {s nx : State} (he : exec (.sqDoorbell p qid tail) s = .next nx) : SameBut (touches (.sqDoorbell p qid tail)) s nx :=
  sameBut_of_outWithin (@execSqDoorbell_frame _ s (touch_of rfl) p qid tail s (.refl _ s)) he

theorem commandFetch_touches {p qid cmd} {s nx : State} (he : exec (.commandFetch p qid cmd) s = .next nx) : SameBut (touches (.commandFetch p qid cmd)) s nx :=
  sameBut_of_outWithin (@execCommandFetch_frame _ s (touch_of rfl) (touch_of rfl) (touch_of rfl) (touch_of rfl) (touch_of rfl) p qid cmd s (.refl _ s)) he

theorem createIoSq_touches {slot} {s nx : State} (he : exec (.createIoSq slot) s = .next nx) : SameBut (touches (.createIoSq slot)) s nx :=
  sameBut_of_outWithin (@execCreateIoSq_frame _ s (touch_of rfl) (touch_of rfl) (touch_of rfl) (touch_of rfl) (touch_of rfl) (touch_of rfl) slot s (.refl _ s)) he

theorem createIoCq_touches {slot} {s nx : State} (he : exec (.createIoCq slot) s = .next nx) : SameBut (touches (.createIoCq slot)) s nx :=
  sameBut_of_outWithin (@execCreateIoCq_frame _ s (touch_of rfl) (touch_of rfl) (touch_of rfl) (touch_of rfl) (touch_of rfl) (touch_of rfl) slot s (.refl _ s)) he

theorem deleteIoSq_touches {slot} {s nx : State} (he : exec (.deleteIoSq slot) s = .next nx) : SameBut (touches (.deleteIoSq slot)) s nx :=
  sameBut_of_outWithin (@execDeleteIoSq_frame _ s (touch_of rfl) (touch_of rfl) (touch_of rfl) (touch_of rfl) (touch_of rfl) (touch_of rfl) slot s (.refl _ s)) he

theorem deleteIoCq_touches {slot} {s nx : State} (he : exec (.deleteIoCq slot) s = .next nx) : SameBut (touches (.deleteIoCq slot)) s nx :=
  sameBut_of_outWithin (@execDeleteIoCq_frame _ s (touch_of rfl) (touch_of rfl) (touch_of rfl) (touch_of rfl) (touch_of rfl) (touch_of rfl) slot s (.refl _ s)) he

theorem getLogPage_touches {slot} {s nx : State} (he : exec (.getLogPage slot) s = .next nx) : SameBut (touches (.getLogPage slot)) s nx :=
  sameBut_of_outWithin (@execGetLogPage_frame _ s (touch_of rfl) (touch_of rfl) (touch_of rfl) (touch_of rfl) (touch_of rfl) (touch_of rfl) slot s (.refl _ s)) he

theorem identify_touches {slot} {s nx : State} (he : exec (.identify slot) s = .next nx) : SameBut (touches (.identify slot)) s nx :=
  sameBut_of_outWithin (@execIdentify_frame _ s (touch_of rfl) (touch_of rfl) (touch_of rfl) (touch_of rfl) (touch_of rfl) (touch_of rfl) slot s (.refl _ s)) he

theorem nvmeAbort_touches {slot} {s nx : State} (he : exec (.nvmeAbort slot) s = .next nx) : SameBut (touches (.nvmeAbort slot)) s nx :=
  sameBut_of_outWithin (@execNvmeAbort_frame _ s (touch_of rfl) (touch_of rfl) (touch_of rfl) (touch_of rfl) (touch_of rfl) (touch_of rfl) slot s (.refl _ s)) he

theorem setFeatures_touches {slot} {s nx : State} (he : exec (.setFeatures slot) s = .next nx) : SameBut (touches (.setFeatures slot)) s nx :=
  sameBut_of_outWithin (@execSetFeatures_frame _ s (touch_of rfl) (touch_of rfl) (touch_of rfl) (touch_of rfl) (touch_of rfl) (touch_of rfl) slot s (.refl _ s)) he

theorem setFeaturesPowerManagement_touches {slot} {s nx : State} (he : exec (.setFeaturesPowerManagement slot) s = .next nx) : SameBut (touches (.setFeaturesPowerManagement slot)) s nx :=
  sameBut_of_outWithin (@execSetFeaturesPowerManagement_frame _ s (touch_of rfl) (touch_of rfl) (touch_of rfl) (touch_of rfl) (touch_of rfl) (touch_of rfl) slot s (.refl _ s)) he

theorem setFeaturesErrorRecovery_touches {slot} {s nx : State} (he : exec (.setFeaturesErrorRecovery slot) s = .next nx) : SameBut (touches (.setFeaturesErrorRecovery slot)) s nx :=
  sameBut_of_outWithin (@execSetFeaturesErrorRecovery_frame _ s (touch_of rfl) (touch_of rfl) (touch_of rfl) (touch_of rfl) (touch_of rfl) (touch_of rfl) slot s (.refl _ s)) he

theorem setFeaturesVwc_touches {slot} {s nx : State} (he : exec (.setFeaturesVwc slot) s = .next nx) : SameBut (touches (.setFeaturesVwc slot)) s nx :=
  sameBut_of_outWithin (@execSetFeaturesVwc_frame _ s (touch_of rfl) (touch_of rfl) (touch_of rfl) (touch_of rfl) (touch_of rfl) (touch_of rfl) slot s (.refl _ s)) he

theorem getFeatures_touches {slot} {s nx : State} (he : exec (.getFeatures slot) s = .next nx) : SameBut (touches (.getFeatures slot)) s nx :=
  sameBut_of_outWithin (@execGetFeatures_frame _ s (touch_of rfl) (touch_of rfl) (touch_of rfl) (touch_of rfl) (touch_of rfl) (touch_of rfl) slot s (.refl _ s)) he

theorem asyncEventRequest_touches {p cid} {s nx : State} (he : exec (.asyncEventRequest p cid) s = .next nx) : SameBut (touches (.asyncEventRequest p cid)) s nx :=
  sameBut_of_outWithin (@execAsyncEventRequest_frame _ s (touch_of rfl) (touch_of rfl) (touch_of rfl) (touch_of rfl) (touch_of rfl) p cid s (.refl _ s)) he

theorem namespaceCreate_touches {slot nsze lbaFormat} {s nx : State} (he : exec (.namespaceCreate slot nsze lbaFormat) s = .next nx) : SameBut (touches (.namespaceCreate slot nsze lbaFormat)) s nx :=
  sameBut_of_outWithin (@execNamespaceCreate_frame _ s (touch_of rfl) (touch_of rfl) (touch_of rfl) (touch_of rfl) (touch_of rfl) (touch_of rfl) (touch_of rfl) (touch_of rfl) slot nsze lbaFormat s (.refl _ s)) he

theorem namespaceDelete_touches {slot} {s nx : State} (he : exec (.namespaceDelete slot) s = .next nx) : SameBut (touches (.namespaceDelete slot)) s nx :=
  sameBut_of_outWithin (@execNamespaceDelete_frame _ s (touch_of rfl) (touch_of rfl) (touch_of rfl) (touch_of rfl) (touch_of rfl) (touch_of rfl) (touch_of rfl) (touch_of rfl) (touch_of rfl) slot s (.refl _ s)) he

theorem namespaceAttachment_touches {slot controllers} {s nx : State} (he : exec (.namespaceAttachment slot controllers) s = .next nx) : SameBut (touches (.namespaceAttachment slot controllers)) s nx :=
  sameBut_of_outWithin (@execNamespaceAttachment_frame _ s (touch_of rfl) (touch_of rfl) (touch_of rfl) (touch_of rfl) (touch_of rfl) (touch_of rfl) slot controllers s (.refl _ s)) he

theorem securitySend_touches {slot data} {s nx : State} (he : exec (.securitySend slot data) s = .next nx) : SameBut (touches (.securitySend slot data)) s nx :=
  sameBut_of_outWithin (@execSecuritySend_frame _ s (touch_of rfl) (touch_of rfl) (touch_of rfl) (touch_of rfl) (touch_of rfl) (touch_of rfl) (touch_of rfl) slot data s (.refl _ s)) he

theorem securityReceive_touches {slot} {s nx : State} (he : exec (.securityReceive slot) s = .next nx) : SameBut (touches (.securityReceive slot)) s nx :=
  sameBut_of_outWithin (@execSecurityReceive_frame _ s (touch_of rfl) (touch_of rfl) (touch_of rfl) (touch_of rfl) (touch_of rfl) (touch_of rfl) (touch_of rfl) slot s (.refl _ s)) he

theorem getLbaStatus_touches {slot} {s nx : State} (he : exec (.getLbaStatus slot) s = .next nx) : SameBut (touches (.getLbaStatus slot)) s nx :=
  sameBut_of_outWithin (@execGetLbaStatus_frame _ s (touch_of rfl) (touch_of rfl) (touch_of rfl) (touch_of rfl) (touch_of rfl) (touch_of rfl) slot s (.refl _ s)) he

theorem nvmeFlush_touches {slot} {s nx : State} (he : exec (.nvmeFlush slot) s = .next nx) : SameBut (touches (.nvmeFlush slot)) s nx :=
  sameBut_of_outWithin (@execNvmeFlush_frame _ s (touch_of rfl) (touch_of rfl) (touch_of rfl) (touch_of rfl) (touch_of rfl) (touch_of rfl) slot s (.refl _ s)) he

theorem nvmeWrite_touches {slot blocks} {s nx : State} (he : exec (.nvmeWrite slot blocks) s = .next nx) : SameBut (touches (.nvmeWrite slot blocks)) s nx :=
  sameBut_of_outWithin (@execNvmeWrite_frame _ s (touch_of rfl) (touch_of rfl) (touch_of rfl) (touch_of rfl) (touch_of rfl) (touch_of rfl) (touch_of rfl) (touch_of rfl) slot blocks s (.refl _ s)) he

theorem nvmeRead_touches {slot media} {s nx : State} (he : exec (.nvmeRead slot media) s = .next nx) : SameBut (touches (.nvmeRead slot media)) s nx :=
  sameBut_of_outWithin (@execNvmeRead_frame _ s (touch_of rfl) (touch_of rfl) (touch_of rfl) (touch_of rfl) (touch_of rfl) (touch_of rfl) slot media s (.refl _ s)) he

theorem writeZeroes_touches {slot} {s nx : State} (he : exec (.writeZeroes slot) s = .next nx) : SameBut (touches (.writeZeroes slot)) s nx :=
  sameBut_of_outWithin (@execWriteZeroes_frame _ s (touch_of rfl) (touch_of rfl) (touch_of rfl) (touch_of rfl) (touch_of rfl) (touch_of rfl) (touch_of rfl) (touch_of rfl) (touch_of rfl) slot s (.refl _ s)) he

theorem datasetManagement_touches {slot} {s nx : State} (he : exec (.datasetManagement slot) s = .next nx) : SameBut (touches (.datasetManagement slot)) s nx :=
  sameBut_of_outWithin (@execDatasetManagement_frame _ s (touch_of rfl) (touch_of rfl) (touch_of rfl) (touch_of rfl) (touch_of rfl) (touch_of rfl) (touch_of rfl) (touch_of rfl) (touch_of rfl) slot s (.refl _ s)) he

theorem nvmeVerify_touches {slot media} {s nx : State} (he : exec (.nvmeVerify slot media) s = .next nx) : SameBut (touches (.nvmeVerify slot media)) s nx :=
  sameBut_of_outWithin (@execNvmeVerify_frame _ s (touch_of rfl) (touch_of rfl) (touch_of rfl) (touch_of rfl) (touch_of rfl) (touch_of rfl) slot media s (.refl _ s)) he

theorem reservationRegister_touches {slot crkey nrkey} {s nx : State} (he : exec (.reservationRegister slot crkey nrkey) s = .next nx) : SameBut (touches (.reservationRegister slot crkey nrkey)) s nx :=
  sameBut_of_outWithin (@execReservationRegister_frame _ s (touch_of rfl) (touch_of rfl) (touch_of rfl) (touch_of rfl) (touch_of rfl) (touch_of rfl) slot crkey nrkey s (.refl _ s)) he

theorem reservationReport_touches {slot} {s nx : State} (he : exec (.reservationReport slot) s = .next nx) : SameBut (touches (.reservationReport slot)) s nx :=
  sameBut_of_outWithin (@execReservationReport_frame _ s (touch_of rfl) (touch_of rfl) (touch_of rfl) (touch_of rfl) (touch_of rfl) (touch_of rfl) slot s (.refl _ s)) he

theorem reservationAcquire_touches {slot crkey prkey} {s nx : State} (he : exec (.reservationAcquire slot crkey prkey) s = .next nx) : SameBut (touches (.reservationAcquire slot crkey prkey)) s nx :=
  sameBut_of_outWithin (@execReservationAcquire_frame _ s (touch_of rfl) (touch_of rfl) (touch_of rfl) (touch_of rfl) (touch_of rfl) (touch_of rfl) slot crkey prkey s (.refl _ s)) he

theorem reservationPreemptAndAbort_touches {slot crkey prkey} {s nx : State} (he : exec (.reservationPreemptAndAbort slot crkey prkey) s = .next nx) : SameBut (touches (.reservationPreemptAndAbort slot crkey prkey)) s nx :=
  sameBut_of_outWithin (@execReservationPreemptAndAbort_frame _ s (touch_of rfl) (touch_of rfl) (touch_of rfl) (touch_of rfl) (touch_of rfl) (touch_of rfl) slot crkey prkey s (.refl _ s)) he

theorem reservationRelease_touches {slot crkey} {s nx : State} (he : exec (.reservationRelease slot crkey) s = .next nx) : SameBut (touches (.reservationRelease slot crkey)) s nx :=
  sameBut_of_outWithin (@execReservationRelease_frame _ s (touch_of rfl) (touch_of rfl) (touch_of rfl) (touch_of rfl) (touch_of rfl) (touch_of rfl) slot crkey s (.refl _ s)) he

theorem invalidOpcode_touches {slot} {s nx : State} (he : exec (.invalidOpcode slot) s = .next nx) : SameBut (touches (.invalidOpcode slot)) s nx :=
  sameBut_of_outWithin (@execInvalidOpcode_frame _ s (touch_of rfl) (touch_of rfl) (touch_of rfl) (touch_of rfl) (touch_of rfl) (touch_of rfl) slot s (.refl _ s)) he

theorem writeCached_touches {slot} {s nx : State} (he : exec (.writeCached slot) s = .next nx) : SameBut (touches (.writeCached slot)) s nx :=
  sameBut_of_outWithin (@execWriteCached_frame _ s (touch_of rfl) (touch_of rfl) (touch_of rfl) (touch_of rfl) (touch_of rfl) (touch_of rfl) (touch_of rfl) (touch_of rfl) slot s (.refl _ s)) he

theorem readTransferred_touches {slot} {s nx : State} (he : exec (.readTransferred slot) s = .next nx) : SameBut (touches (.readTransferred slot)) s nx :=
  sameBut_of_outWithin (@execReadTransferred_frame _ s (touch_of rfl) (touch_of rfl) (touch_of rfl) (touch_of rfl) (touch_of rfl) (touch_of rfl) slot s (.refl _ s)) he

theorem ccEnClear_touches {p} {s nx : State} (he : exec (.ccEnClear p) s = .next nx) : SameBut (touches (.ccEnClear p)) s nx :=
  sameBut_of_outWithin (@execCcEnClear_frame _ s (touch_of rfl) (touch_of rfl) (touch_of rfl) (touch_of rfl) (touch_of rfl) (touch_of rfl) (touch_of rfl) (touch_of rfl) (touch_of rfl) (touch_of rfl) (touch_of rfl) (touch_of rfl) (touch_of rfl) (touch_of rfl) (touch_of rfl) (touch_of rfl) (touch_of rfl) (touch_of rfl) (touch_of rfl) (touch_of rfl) (touch_of rfl) (touch_of rfl) (touch_of rfl) p s (.refl _ s)) he

theorem ccEnSet_touches {p} {s nx : State} (he : exec (.ccEnSet p) s = .next nx) : SameBut (touches (.ccEnSet p)) s nx :=
  sameBut_of_outWithin (@execCcEnSet_frame _ s (touch_of rfl) (touch_of rfl) p s (.refl _ s)) he

theorem functionLevelReset_touches {p} {s nx : State} (he : exec (.functionLevelReset p) s = .next nx) : SameBut (touches (.functionLevelReset p)) s nx :=
  sameBut_of_outWithin (@execFunctionLevelReset_frame _ s (touch_of rfl) (touch_of rfl) (touch_of rfl) (touch_of rfl) (touch_of rfl) (touch_of rfl) (touch_of rfl) (touch_of rfl) (touch_of rfl) (touch_of rfl) (touch_of rfl) (touch_of rfl) (touch_of rfl) (touch_of rfl) (touch_of rfl) (touch_of rfl) (touch_of rfl) (touch_of rfl) (touch_of rfl) (touch_of rfl) (touch_of rfl) (touch_of rfl) (touch_of rfl) p s (.refl _ s)) he

theorem pcieLinkDown_touches {p} {s nx : State} (he : exec (.pcieLinkDown p) s = .next nx) : SameBut (touches (.pcieLinkDown p)) s nx :=
  sameBut_of_outWithin (@execPcieLinkDown_frame _ s (touch_of rfl) (touch_of rfl) (touch_of rfl) (touch_of rfl) (touch_of rfl) (touch_of rfl) (touch_of rfl) (touch_of rfl) (touch_of rfl) (touch_of rfl) (touch_of rfl) (touch_of rfl) (touch_of rfl) (touch_of rfl) (touch_of rfl) (touch_of rfl) (touch_of rfl) (touch_of rfl) (touch_of rfl) (touch_of rfl) (touch_of rfl) (touch_of rfl) (touch_of rfl) p s (.refl _ s)) he

theorem nvmSubsystemReset_touches {s nx : State} (he : exec (.nvmSubsystemReset) s = .next nx) : SameBut (touches (.nvmSubsystemReset)) s nx :=
  sameBut_of_outWithin (@execNvmSubsystemReset_frame _ s (touch_of rfl) (touch_of rfl) (touch_of rfl) (touch_of rfl) (touch_of rfl) (touch_of rfl) (touch_of rfl) (touch_of rfl) (touch_of rfl) (touch_of rfl) (touch_of rfl) (touch_of rfl) (touch_of rfl) (touch_of rfl) (touch_of rfl) (touch_of rfl) (touch_of rfl) (touch_of rfl) (touch_of rfl) (touch_of rfl) (touch_of rfl) (touch_of rfl) (touch_of rfl) s (.refl _ s)) he

theorem shutdownNormal_touches {p} {s nx : State} (he : exec (.shutdownNormal p) s = .next nx) : SameBut (touches (.shutdownNormal p)) s nx :=
  sameBut_of_outWithin (@execShutdownNormal_frame _ s (touch_of rfl) (touch_of rfl) (touch_of rfl) (touch_of rfl) (touch_of rfl) (touch_of rfl) p s (.refl _ s)) he

theorem shutdownAbrupt_touches {p} {s nx : State} (he : exec (.shutdownAbrupt p) s = .next nx) : SameBut (touches (.shutdownAbrupt p)) s nx :=
  sameBut_of_outWithin (@execShutdownAbrupt_frame _ s (touch_of rfl) (touch_of rfl) (touch_of rfl) (touch_of rfl) (touch_of rfl) (touch_of rfl) (touch_of rfl) p s (.refl _ s)) he

theorem ps3IdleTimeout_touches {s nx : State} (he : exec (.ps3IdleTimeout) s = .next nx) : SameBut (touches (.ps3IdleTimeout)) s nx :=
  sameBut_of_outWithin (@execPs3IdleTimeout_frame _ s (touch_of rfl) (touch_of rfl) (touch_of rfl) (touch_of rfl) s (.refl _ s)) he

theorem powerStateSafePoint_touches {s nx : State} (he : exec (.powerStateSafePoint) s = .next nx) : SameBut (touches (.powerStateSafePoint)) s nx :=
  sameBut_of_outWithin (@execPowerStateSafePoint_frame _ s (touch_of rfl) (touch_of rfl) (touch_of rfl) (touch_of rfl) (touch_of rfl) (touch_of rfl) (touch_of rfl) s (.refl _ s)) he

theorem tlerExpire_touches {slot lba} {s nx : State} (he : exec (.tlerExpire slot lba) s = .next nx) : SameBut (touches (.tlerExpire slot lba)) s nx :=
  sameBut_of_outWithin (@execTlerExpire_frame _ s (touch_of rfl) (touch_of rfl) (touch_of rfl) (touch_of rfl) (touch_of rfl) (touch_of rfl) slot lba s (.refl _ s)) he

theorem destageUpdate_touches {stripe reads} {s nx : State} (he : exec (.destageUpdate stripe reads) s = .next nx) : SameBut (touches (.destageUpdate stripe reads)) s nx :=
  sameBut_of_outWithin (@execDestageUpdate_frame _ s (touch_of rfl) (touch_of rfl) (touch_of rfl) (touch_of rfl) (touch_of rfl) (touch_of rfl) (touch_of rfl) stripe reads s (.refl _ s)) he

theorem stripeUpdateRetire_touches {stripe} {s nx : State} (he : exec (.stripeUpdateRetire stripe) s = .next nx) : SameBut (touches (.stripeUpdateRetire stripe)) s nx :=
  sameBut_of_outWithin (@execStripeUpdateRetire_frame _ s (touch_of rfl) (touch_of rfl) (touch_of rfl) (touch_of rfl) (touch_of rfl) (touch_of rfl) (touch_of rfl) (touch_of rfl) (touch_of rfl) (touch_of rfl) (touch_of rfl) (touch_of rfl) (touch_of rfl) (touch_of rfl) (touch_of rfl) (touch_of rfl) (touch_of rfl) (touch_of rfl) (touch_of rfl) (touch_of rfl) (touch_of rfl) (touch_of rfl) (touch_of rfl) stripe s (.refl _ s)) he

theorem wiMirrorPoint_touches {s nx : State} (he : exec (.wiMirrorPoint) s = .next nx) : SameBut (touches (.wiMirrorPoint)) s nx :=
  sameBut_of_outWithin (@execWiMirrorPoint_frame _ s (touch_of rfl) (touch_of rfl) (touch_of rfl) s (.refl _ s)) he

theorem mirrorRetry_touches {page ok} {s nx : State} (he : exec (.mirrorRetry page ok) s = .next nx) : SameBut (touches (.mirrorRetry page ok)) s nx :=
  sameBut_of_outWithin (@execMirrorRetry_frame _ s (touch_of rfl) (touch_of rfl) (touch_of rfl) (touch_of rfl) page ok s (.refl _ s)) he

theorem journalReplay_touches {seq} {s nx : State} (he : exec (.journalReplay seq) s = .next nx) : SameBut (touches (.journalReplay seq)) s nx :=
  sameBut_of_outWithin (@execJournalReplay_frame _ s (touch_of rfl) (touch_of rfl) (touch_of rfl) (touch_of rfl) (touch_of rfl) (touch_of rfl) (touch_of rfl) (touch_of rfl) (touch_of rfl) (touch_of rfl) (touch_of rfl) (touch_of rfl) (touch_of rfl) (touch_of rfl) (touch_of rfl) (touch_of rfl) (touch_of rfl) (touch_of rfl) (touch_of rfl) (touch_of rfl) (touch_of rfl) (touch_of rfl) (touch_of rfl) seq s (.refl _ s)) he

theorem resyncGroup_touches {group reads} {s nx : State} (he : exec (.resyncGroup group reads) s = .next nx) : SameBut (touches (.resyncGroup group reads)) s nx :=
  sameBut_of_outWithin (@execResyncGroup_frame _ s (touch_of rfl) (touch_of rfl) (touch_of rfl) (touch_of rfl) (touch_of rfl) (touch_of rfl) (touch_of rfl) group reads s (.refl _ s)) he

theorem retireSurface_touches {who value} {s nx : State} (he : exec (.retireSurface who value) s = .next nx) : SameBut (touches (.retireSurface who value)) s nx :=
  sameBut_of_outWithin (@execRetireSurface_frame _ s (touch_of rfl) (touch_of rfl) (touch_of rfl) (touch_of rfl) (touch_of rfl) (touch_of rfl) (touch_of rfl) (touch_of rfl) (touch_of rfl) (touch_of rfl) (touch_of rfl) (touch_of rfl) (touch_of rfl) (touch_of rfl) (touch_of rfl) (touch_of rfl) (touch_of rfl) (touch_of rfl) (touch_of rfl) (touch_of rfl) (touch_of rfl) (touch_of rfl) (touch_of rfl) who value s (.refl _ s)) he

theorem rebuildStripe_touches {stripe reads} {s nx : State} (he : exec (.rebuildStripe stripe reads) s = .next nx) : SameBut (touches (.rebuildStripe stripe reads)) s nx :=
  sameBut_of_outWithin (@execRebuildStripe_frame _ s (touch_of rfl) (touch_of rfl) (touch_of rfl) (touch_of rfl) (touch_of rfl) (touch_of rfl) (touch_of rfl) stripe reads s (.refl _ s)) he

theorem rebuildCheckpoint_touches {s nx : State} (he : exec (.rebuildCheckpoint) s = .next nx) : SameBut (touches (.rebuildCheckpoint)) s nx :=
  sameBut_of_outWithin (@execRebuildCheckpoint_frame _ s (touch_of rfl) s (.refl _ s)) he

theorem patrolStripe_touches {stripe reads} {s nx : State} (he : exec (.patrolStripe stripe reads) s = .next nx) : SameBut (touches (.patrolStripe stripe reads)) s nx :=
  sameBut_of_outWithin (@execPatrolStripe_frame _ s (touch_of rfl) (touch_of rfl) (touch_of rfl) (touch_of rfl) (touch_of rfl) (touch_of rfl) (touch_of rfl) stripe reads s (.refl _ s)) he

theorem reshapeRequest_touches {who value} {s nx : State} (he : exec (.reshapeRequest who value) s = .next nx) : SameBut (touches (.reshapeRequest who value)) s nx :=
  sameBut_of_outWithin (@execReshapeRequest_frame _ s (touch_of rfl) (touch_of rfl) (touch_of rfl) (touch_of rfl) (touch_of rfl) (touch_of rfl) (touch_of rfl) (touch_of rfl) (touch_of rfl) (touch_of rfl) (touch_of rfl) (touch_of rfl) (touch_of rfl) (touch_of rfl) (touch_of rfl) (touch_of rfl) (touch_of rfl) (touch_of rfl) (touch_of rfl) (touch_of rfl) (touch_of rfl) (touch_of rfl) (touch_of rfl) who value s (.refl _ s)) he

theorem reshapeCancel_touches {who value} {s nx : State} (he : exec (.reshapeCancel who value) s = .next nx) : SameBut (touches (.reshapeCancel who value)) s nx :=
  sameBut_of_outWithin (@execReshapeCancel_frame _ s (touch_of rfl) (touch_of rfl) (touch_of rfl) (touch_of rfl) (touch_of rfl) (touch_of rfl) (touch_of rfl) (touch_of rfl) (touch_of rfl) (touch_of rfl) (touch_of rfl) (touch_of rfl) (touch_of rfl) (touch_of rfl) (touch_of rfl) (touch_of rfl) (touch_of rfl) (touch_of rfl) (touch_of rfl) (touch_of rfl) (touch_of rfl) (touch_of rfl) (touch_of rfl) who value s (.refl _ s)) he

theorem reshapeGroupCopy_touches {s nx : State} (he : exec (.reshapeGroupCopy) s = .next nx) : SameBut (touches (.reshapeGroupCopy)) s nx :=
  sameBut_of_outWithin (@execReshapeGroupCopy_frame _ s (touch_of rfl) (touch_of rfl) (touch_of rfl) s (.refl _ s)) he

theorem reshapeSwitch_touches {s nx : State} (he : exec (.reshapeSwitch) s = .next nx) : SameBut (touches (.reshapeSwitch)) s nx :=
  sameBut_of_outWithin (@execReshapeSwitch_frame _ s (touch_of rfl) (touch_of rfl) (touch_of rfl) (touch_of rfl) (touch_of rfl) (touch_of rfl) (touch_of rfl) (touch_of rfl) (touch_of rfl) (touch_of rfl) (touch_of rfl) (touch_of rfl) (touch_of rfl) (touch_of rfl) (touch_of rfl) (touch_of rfl) (touch_of rfl) (touch_of rfl) (touch_of rfl) (touch_of rfl) (touch_of rfl) (touch_of rfl) (touch_of rfl) s (.refl _ s)) he

theorem grownDefectReadback_touches {surface track psector converged taBoth freezeOffset freezeLen} {s nx : State} (he : exec (.grownDefectReadback surface track psector converged taBoth freezeOffset freezeLen) s = .next nx) : SameBut (touches (.grownDefectReadback surface track psector converged taBoth freezeOffset freezeLen)) s nx :=
  sameBut_of_outWithin (@execGrownDefectReadback_frame _ s (touch_of rfl) (touch_of rfl) (touch_of rfl) (touch_of rfl) (touch_of rfl) (touch_of rfl) surface track psector converged taBoth freezeOffset freezeLen s (.refl _ s)) he

theorem arbiterGrant_touches {waiting} {s nx : State} (he : exec (.arbiterGrant waiting) s = .next nx) : SameBut (touches (.arbiterGrant waiting)) s nx :=
  sameBut_of_outWithin (@execArbiterGrant_frame _ s (touch_of rfl) (touch_of rfl) (touch_of rfl) (touch_of rfl) (touch_of rfl) (touch_of rfl) waiting s (.refl _ s)) he

theorem pageSubstitutionDone_touches {page} {s nx : State} (he : exec (.pageSubstitutionDone page) s = .next nx) : SameBut (touches (.pageSubstitutionDone page)) s nx :=
  sameBut_of_outWithin (@execPageSubstitutionDone_frame _ s (touch_of rfl) (touch_of rfl) (touch_of rfl) page s (.refl _ s)) he

theorem zeroRange_touches {who value} {s nx : State} (he : exec (.zeroRange who value) s = .next nx) : SameBut (touches (.zeroRange who value)) s nx :=
  sameBut_of_outWithin (@execZeroRange_frame _ s (touch_of rfl) (touch_of rfl) (touch_of rfl) (touch_of rfl) (touch_of rfl) (touch_of rfl) (touch_of rfl) (touch_of rfl) (touch_of rfl) (touch_of rfl) (touch_of rfl) (touch_of rfl) (touch_of rfl) (touch_of rfl) (touch_of rfl) (touch_of rfl) (touch_of rfl) (touch_of rfl) (touch_of rfl) (touch_of rfl) (touch_of rfl) (touch_of rfl) (touch_of rfl) who value s (.refl _ s)) he

theorem zeroRangeDone_touches {s nx : State} (he : exec (.zeroRangeDone) s = .next nx) : SameBut (touches (.zeroRangeDone)) s nx :=
  sameBut_of_outWithin (@execZeroRangeDone_frame _ s (touch_of rfl) s (.refl _ s)) he

theorem keeperSlotErased_touches {slot} {s nx : State} (he : exec (.keeperSlotErased slot) s = .next nx) : SameBut (touches (.keeperSlotErased slot)) s nx :=
  sameBut_of_outWithin (@execKeeperSlotErased_frame _ s (touch_of rfl) slot s (.refl _ s)) he

theorem cacheClean_touches {core} {s nx : State} (he : exec (.cacheClean core) s = .next nx) : SameBut (touches (.cacheClean core)) s nx :=
  sameBut_of_outWithin (@execCacheClean_frame _ s (touch_of rfl) (touch_of rfl) (touch_of rfl) (touch_of rfl) (touch_of rfl) (touch_of rfl) (touch_of rfl) (touch_of rfl) (touch_of rfl) (touch_of rfl) (touch_of rfl) (touch_of rfl) (touch_of rfl) (touch_of rfl) (touch_of rfl) (touch_of rfl) (touch_of rfl) (touch_of rfl) (touch_of rfl) (touch_of rfl) (touch_of rfl) (touch_of rfl) (touch_of rfl) core s (.refl _ s)) he

theorem cacheInvalidate_touches {core} {s nx : State} (he : exec (.cacheInvalidate core) s = .next nx) : SameBut (touches (.cacheInvalidate core)) s nx :=
  sameBut_of_outWithin (@execCacheInvalidate_frame _ s (touch_of rfl) (touch_of rfl) (touch_of rfl) (touch_of rfl) (touch_of rfl) (touch_of rfl) (touch_of rfl) (touch_of rfl) (touch_of rfl) (touch_of rfl) (touch_of rfl) (touch_of rfl) (touch_of rfl) (touch_of rfl) (touch_of rfl) (touch_of rfl) (touch_of rfl) (touch_of rfl) (touch_of rfl) (touch_of rfl) (touch_of rfl) (touch_of rfl) (touch_of rfl) core s (.refl _ s)) he

theorem cacheCleanInvalidate_touches {core} {s nx : State} (he : exec (.cacheCleanInvalidate core) s = .next nx) : SameBut (touches (.cacheCleanInvalidate core)) s nx :=
  sameBut_of_outWithin (@execCacheCleanInvalidate_frame _ s (touch_of rfl) (touch_of rfl) (touch_of rfl) (touch_of rfl) (touch_of rfl) (touch_of rfl) (touch_of rfl) (touch_of rfl) (touch_of rfl) (touch_of rfl) (touch_of rfl) (touch_of rfl) (touch_of rfl) (touch_of rfl) (touch_of rfl) (touch_of rfl) (touch_of rfl) (touch_of rfl) (touch_of rfl) (touch_of rfl) (touch_of rfl) (touch_of rfl) (touch_of rfl) core s (.refl _ s)) he

theorem cacheFillLock_touches {core} {s nx : State} (he : exec (.cacheFillLock core) s = .next nx) : SameBut (touches (.cacheFillLock core)) s nx :=
  sameBut_of_outWithin (@execCacheFillLock_frame _ s (touch_of rfl) (touch_of rfl) (touch_of rfl) (touch_of rfl) (touch_of rfl) (touch_of rfl) (touch_of rfl) (touch_of rfl) (touch_of rfl) (touch_of rfl) (touch_of rfl) (touch_of rfl) (touch_of rfl) (touch_of rfl) (touch_of rfl) (touch_of rfl) (touch_of rfl) (touch_of rfl) (touch_of rfl) (touch_of rfl) (touch_of rfl) (touch_of rfl) (touch_of rfl) core s (.refl _ s)) he

theorem cacheUnlock_touches {core} {s nx : State} (he : exec (.cacheUnlock core) s = .next nx) : SameBut (touches (.cacheUnlock core)) s nx :=
  sameBut_of_outWithin (@execCacheUnlock_frame _ s (touch_of rfl) (touch_of rfl) (touch_of rfl) (touch_of rfl) (touch_of rfl) (touch_of rfl) (touch_of rfl) (touch_of rfl) (touch_of rfl) (touch_of rfl) (touch_of rfl) (touch_of rfl) (touch_of rfl) (touch_of rfl) (touch_of rfl) (touch_of rfl) (touch_of rfl) (touch_of rfl) (touch_of rfl) (touch_of rfl) (touch_of rfl) (touch_of rfl) (touch_of rfl) core s (.refl _ s)) he

theorem cacheCleanSw_touches {core} {s nx : State} (he : exec (.cacheCleanSw core) s = .next nx) : SameBut (touches (.cacheCleanSw core)) s nx :=
  sameBut_of_outWithin (@execCacheCleanSw_frame _ s (touch_of rfl) (touch_of rfl) (touch_of rfl) (touch_of rfl) (touch_of rfl) (touch_of rfl) (touch_of rfl) (touch_of rfl) (touch_of rfl) (touch_of rfl) (touch_of rfl) (touch_of rfl) (touch_of rfl) (touch_of rfl) (touch_of rfl) (touch_of rfl) (touch_of rfl) (touch_of rfl) (touch_of rfl) (touch_of rfl) (touch_of rfl) (touch_of rfl) (touch_of rfl) core s (.refl _ s)) he

theorem cacheInvalidateSw_touches {core} {s nx : State} (he : exec (.cacheInvalidateSw core) s = .next nx) : SameBut (touches (.cacheInvalidateSw core)) s nx :=
  sameBut_of_outWithin (@execCacheInvalidateSw_frame _ s (touch_of rfl) (touch_of rfl) (touch_of rfl) (touch_of rfl) (touch_of rfl) (touch_of rfl) (touch_of rfl) (touch_of rfl) (touch_of rfl) (touch_of rfl) (touch_of rfl) (touch_of rfl) (touch_of rfl) (touch_of rfl) (touch_of rfl) (touch_of rfl) (touch_of rfl) (touch_of rfl) (touch_of rfl) (touch_of rfl) (touch_of rfl) (touch_of rfl) (touch_of rfl) core s (.refl _ s)) he

theorem cacheCleanInvalidateSw_touches {core} {s nx : State} (he : exec (.cacheCleanInvalidateSw core) s = .next nx) : SameBut (touches (.cacheCleanInvalidateSw core)) s nx :=
  sameBut_of_outWithin (@execCacheCleanInvalidateSw_frame _ s (touch_of rfl) (touch_of rfl) (touch_of rfl) (touch_of rfl) (touch_of rfl) (touch_of rfl) (touch_of rfl) (touch_of rfl) (touch_of rfl) (touch_of rfl) (touch_of rfl) (touch_of rfl) (touch_of rfl) (touch_of rfl) (touch_of rfl) (touch_of rfl) (touch_of rfl) (touch_of rfl) (touch_of rfl) (touch_of rfl) (touch_of rfl) (touch_of rfl) (touch_of rfl) core s (.refl _ s)) he

theorem cacheMaintDone_touches {core} {s nx : State} (he : exec (.cacheMaintDone core) s = .next nx) : SameBut (touches (.cacheMaintDone core)) s nx :=
  sameBut_of_outWithin (@execCacheMaintDone_frame _ s (touch_of rfl) (touch_of rfl) core s (.refl _ s)) he

theorem cacheFillReturn_touches {line} {s nx : State} (he : exec (.cacheFillReturn line) s = .next nx) : SameBut (touches (.cacheFillReturn line)) s nx :=
  sameBut_of_outWithin (@execCacheFillReturn_frame _ s (touch_of rfl) (touch_of rfl) (touch_of rfl) (touch_of rfl) line s (.refl _ s)) he

theorem dmaGo_touches {who ch ctrl} {s nx : State} (he : exec (.dmaGo who ch ctrl) s = .next nx) : SameBut (touches (.dmaGo who ch ctrl)) s nx :=
  sameBut_of_outWithin (@execDmaGo_frame _ s (touch_of rfl) (touch_of rfl) (touch_of rfl) (touch_of rfl) (touch_of rfl) (touch_of rfl) (touch_of rfl) (touch_of rfl) (touch_of rfl) (touch_of rfl) (touch_of rfl) (touch_of rfl) (touch_of rfl) (touch_of rfl) (touch_of rfl) (touch_of rfl) (touch_of rfl) (touch_of rfl) (touch_of rfl) (touch_of rfl) (touch_of rfl) (touch_of rfl) (touch_of rfl) who ch ctrl s (.refl _ s)) he

theorem dmaChainGo_touches {who ch ctrl} {s nx : State} (he : exec (.dmaChainGo who ch ctrl) s = .next nx) : SameBut (touches (.dmaChainGo who ch ctrl)) s nx :=
  sameBut_of_outWithin (@execDmaChainGo_frame _ s (touch_of rfl) (touch_of rfl) (touch_of rfl) (touch_of rfl) (touch_of rfl) (touch_of rfl) (touch_of rfl) (touch_of rfl) (touch_of rfl) (touch_of rfl) (touch_of rfl) (touch_of rfl) (touch_of rfl) (touch_of rfl) (touch_of rfl) (touch_of rfl) (touch_of rfl) (touch_of rfl) (touch_of rfl) (touch_of rfl) (touch_of rfl) (touch_of rfl) (touch_of rfl) who ch ctrl s (.refl _ s)) he

theorem dmaStop_touches {who ch ctrl} {s nx : State} (he : exec (.dmaStop who ch ctrl) s = .next nx) : SameBut (touches (.dmaStop who ch ctrl)) s nx :=
  sameBut_of_outWithin (@execDmaStop_frame _ s (touch_of rfl) (touch_of rfl) (touch_of rfl) (touch_of rfl) (touch_of rfl) (touch_of rfl) (touch_of rfl) (touch_of rfl) (touch_of rfl) (touch_of rfl) (touch_of rfl) (touch_of rfl) (touch_of rfl) (touch_of rfl) (touch_of rfl) (touch_of rfl) (touch_of rfl) (touch_of rfl) (touch_of rfl) (touch_of rfl) (touch_of rfl) (touch_of rfl) (touch_of rfl) who ch ctrl s (.refl _ s)) he

theorem dmaDescriptorFetched_touches {ch ok} {s nx : State} (he : exec (.dmaDescriptorFetched ch ok) s = .next nx) : SameBut (touches (.dmaDescriptorFetched ch ok)) s nx :=
  sameBut_of_outWithin (@execDmaDescriptorFetched_frame _ s (touch_of rfl) (touch_of rfl) (touch_of rfl) (touch_of rfl) ch ok s (.refl _ s)) he

theorem dmaBeatsAcknowledged_touches {ch} {s nx : State} (he : exec (.dmaBeatsAcknowledged ch) s = .next nx) : SameBut (touches (.dmaBeatsAcknowledged ch)) s nx :=
  sameBut_of_outWithin (@execDmaBeatsAcknowledged_frame _ s (touch_of rfl) (touch_of rfl) (touch_of rfl) (touch_of rfl) ch s (.refl _ s)) he

theorem dmaReadbackDone_touches {ch} {s nx : State} (he : exec (.dmaReadbackDone ch) s = .next nx) : SameBut (touches (.dmaReadbackDone ch)) s nx :=
  sameBut_of_outWithin (@execDmaReadbackDone_frame _ s (touch_of rfl) (touch_of rfl) (touch_of rfl) (touch_of rfl) ch s (.refl _ s)) he

theorem dmaBeatError_touches {ch kind doneBytes indet} {s nx : State} (he : exec (.dmaBeatError ch kind doneBytes indet) s = .next nx) : SameBut (touches (.dmaBeatError ch kind doneBytes indet)) s nx :=
  sameBut_of_outWithin (@execDmaBeatError_frame _ s (touch_of rfl) (touch_of rfl) (touch_of rfl) (touch_of rfl) ch kind doneBytes indet s (.refl _ s)) he

theorem notifyClear_touches {who ch value} {s nx : State} (he : exec (.notifyClear who ch value) s = .next nx) : SameBut (touches (.notifyClear who ch value)) s nx :=
  sameBut_of_outWithin (@execNotifyClear_frame _ s (touch_of rfl) (touch_of rfl) (touch_of rfl) (touch_of rfl) (touch_of rfl) (touch_of rfl) (touch_of rfl) (touch_of rfl) (touch_of rfl) (touch_of rfl) (touch_of rfl) (touch_of rfl) (touch_of rfl) (touch_of rfl) (touch_of rfl) (touch_of rfl) (touch_of rfl) (touch_of rfl) (touch_of rfl) (touch_of rfl) (touch_of rfl) (touch_of rfl) (touch_of rfl) who ch value s (.refl _ s)) he

theorem fabricNak_touches {lane requester} {s nx : State} (he : exec (.fabricNak lane requester) s = .next nx) : SameBut (touches (.fabricNak lane requester)) s nx :=
  sameBut_of_outWithin (@execFabricNak_frame _ s (touch_of rfl) (touch_of rfl) (touch_of rfl) (touch_of rfl) (touch_of rfl) (touch_of rfl) (touch_of rfl) (touch_of rfl) (touch_of rfl) (touch_of rfl) (touch_of rfl) (touch_of rfl) (touch_of rfl) lane requester s (.refl _ s)) he

theorem collectorEvent_touches {ev} {s nx : State} (he : exec (.collectorEvent ev) s = .next nx) : SameBut (touches (.collectorEvent ev)) s nx :=
  sameBut_of_outWithin (@execCollectorEvent_frame _ s (touch_of rfl) (touch_of rfl) (touch_of rfl) (touch_of rfl) (touch_of rfl) (touch_of rfl) (touch_of rfl) (touch_of rfl) (touch_of rfl) (touch_of rfl) (touch_of rfl) (touch_of rfl) (touch_of rfl) (touch_of rfl) (touch_of rfl) (touch_of rfl) (touch_of rfl) (touch_of rfl) (touch_of rfl) (touch_of rfl) (touch_of rfl) (touch_of rfl) (touch_of rfl) ev s (.refl _ s)) he

theorem unitReadmit_touches {source} {s nx : State} (he : exec (.unitReadmit source) s = .next nx) : SameBut (touches (.unitReadmit source)) s nx :=
  sameBut_of_outWithin (@execUnitReadmit_frame _ s (touch_of rfl) (touch_of rfl) (touch_of rfl) (touch_of rfl) (touch_of rfl) (touch_of rfl) (touch_of rfl) source s (.refl _ s)) he

theorem safeRestartTimeout_touches {s nx : State} (he : exec (.safeRestartTimeout) s = .next nx) : SameBut (touches (.safeRestartTimeout)) s nx :=
  sameBut_of_outWithin (@execSafeRestartTimeout_frame _ s (touch_of rfl) (touch_of rfl) (touch_of rfl) (touch_of rfl) (touch_of rfl) (touch_of rfl) (touch_of rfl) (touch_of rfl) (touch_of rfl) (touch_of rfl) (touch_of rfl) (touch_of rfl) (touch_of rfl) (touch_of rfl) s (.refl _ s)) he

theorem safeEntriesExpire_touches {s nx : State} (he : exec (.safeEntriesExpire) s = .next nx) : SameBut (touches (.safeEntriesExpire)) s nx :=
  sameBut_of_outWithin (@execSafeEntriesExpire_frame _ s (touch_of rfl) s (.refl _ s)) he

theorem coreWatchdog_touches {core} {s nx : State} (he : exec (.coreWatchdog core) s = .next nx) : SameBut (touches (.coreWatchdog core)) s nx :=
  sameBut_of_outWithin (@execCoreWatchdog_frame _ s (touch_of rfl) (touch_of rfl) (touch_of rfl) (touch_of rfl) (touch_of rfl) (touch_of rfl) (touch_of rfl) (touch_of rfl) (touch_of rfl) (touch_of rfl) (touch_of rfl) (touch_of rfl) (touch_of rfl) (touch_of rfl) (touch_of rfl) (touch_of rfl) (touch_of rfl) (touch_of rfl) (touch_of rfl) (touch_of rfl) (touch_of rfl) (touch_of rfl) (touch_of rfl) core s (.refl _ s)) he

theorem collectorSelfFault_touches {collector} {s nx : State} (he : exec (.collectorSelfFault collector) s = .next nx) : SameBut (touches (.collectorSelfFault collector)) s nx :=
  sameBut_of_outWithin (@execCollectorSelfFault_frame _ s (touch_of rfl) (touch_of rfl) (touch_of rfl) (touch_of rfl) (touch_of rfl) (touch_of rfl) (touch_of rfl) (touch_of rfl) (touch_of rfl) (touch_of rfl) (touch_of rfl) (touch_of rfl) (touch_of rfl) (touch_of rfl) (touch_of rfl) (touch_of rfl) (touch_of rfl) (touch_of rfl) (touch_of rfl) (touch_of rfl) (touch_of rfl) (touch_of rfl) (touch_of rfl) collector s (.refl _ s)) he

theorem captureClear_touches {who r value} {s nx : State} (he : exec (.captureClear who r value) s = .next nx) : SameBut (touches (.captureClear who r value)) s nx :=
  sameBut_of_outWithin (@execCaptureClear_frame _ s (touch_of rfl) (touch_of rfl) (touch_of rfl) (touch_of rfl) (touch_of rfl) (touch_of rfl) (touch_of rfl) (touch_of rfl) (touch_of rfl) (touch_of rfl) (touch_of rfl) (touch_of rfl) (touch_of rfl) (touch_of rfl) (touch_of rfl) (touch_of rfl) (touch_of rfl) (touch_of rfl) (touch_of rfl) (touch_of rfl) (touch_of rfl) (touch_of rfl) (touch_of rfl) who r value s (.refl _ s)) he

theorem clearUpto_touches {who value} {s nx : State} (he : exec (.clearUpto who value) s = .next nx) : SameBut (touches (.clearUpto who value)) s nx :=
  sameBut_of_outWithin (@execClearUpto_frame _ s (touch_of rfl) (touch_of rfl) (touch_of rfl) (touch_of rfl) (touch_of rfl) (touch_of rfl) (touch_of rfl) (touch_of rfl) (touch_of rfl) (touch_of rfl) (touch_of rfl) (touch_of rfl) (touch_of rfl) (touch_of rfl) (touch_of rfl) (touch_of rfl) (touch_of rfl) (touch_of rfl) (touch_of rfl) (touch_of rfl) (touch_of rfl) (touch_of rfl) (touch_of rfl) who value s (.refl _ s)) he

theorem clearAll_touches {who value} {s nx : State} (he : exec (.clearAll who value) s = .next nx) : SameBut (touches (.clearAll who value)) s nx :=
  sameBut_of_outWithin (@execClearAll_frame _ s (touch_of rfl) (touch_of rfl) (touch_of rfl) (touch_of rfl) (touch_of rfl) (touch_of rfl) (touch_of rfl) (touch_of rfl) (touch_of rfl) (touch_of rfl) (touch_of rfl) (touch_of rfl) (touch_of rfl) (touch_of rfl) (touch_of rfl) (touch_of rfl) (touch_of rfl) (touch_of rfl) (touch_of rfl) (touch_of rfl) (touch_of rfl) (touch_of rfl) (touch_of rfl) who value s (.refl _ s)) he

theorem ledgerMirror_touches {s nx : State} (he : exec (.ledgerMirror) s = .next nx) : SameBut (touches (.ledgerMirror)) s nx :=
  sameBut_of_outWithin (@execLedgerMirror_frame _ s (touch_of rfl) s (.refl _ s)) he

theorem ledgerMirrorDone_touches {s nx : State} (he : exec (.ledgerMirrorDone) s = .next nx) : SameBut (touches (.ledgerMirrorDone)) s nx :=
  sameBut_of_outWithin (@execLedgerMirrorDone_frame _ s (touch_of rfl) (touch_of rfl) s (.refl _ s)) he

theorem ledgerBandCopy_touches {s nx : State} (he : exec (.ledgerBandCopy) s = .next nx) : SameBut (touches (.ledgerBandCopy)) s nx :=
  sameBut_of_outWithin (@execLedgerBandCopy_frame _ s (touch_of rfl) (touch_of rfl) s (.refl _ s)) he

theorem unretire_touches {who value} {s nx : State} (he : exec (.unretire who value) s = .next nx) : SameBut (touches (.unretire who value)) s nx :=
  sameBut_of_outWithin (@execUnretire_frame _ s (touch_of rfl) (touch_of rfl) (touch_of rfl) (touch_of rfl) (touch_of rfl) (touch_of rfl) (touch_of rfl) (touch_of rfl) (touch_of rfl) (touch_of rfl) (touch_of rfl) (touch_of rfl) (touch_of rfl) (touch_of rfl) (touch_of rfl) (touch_of rfl) (touch_of rfl) (touch_of rfl) (touch_of rfl) (touch_of rfl) (touch_of rfl) (touch_of rfl) (touch_of rfl) who value s (.refl _ s)) he

theorem sourceEntryWrite_touches {who id value} {s nx : State} (he : exec (.sourceEntryWrite who id value) s = .next nx) : SameBut (touches (.sourceEntryWrite who id value)) s nx :=
  sameBut_of_outWithin (@execSourceEntryWrite_frame _ s (touch_of rfl) (touch_of rfl) (touch_of rfl) (touch_of rfl) (touch_of rfl) (touch_of rfl) (touch_of rfl) (touch_of rfl) (touch_of rfl) (touch_of rfl) (touch_of rfl) (touch_of rfl) (touch_of rfl) (touch_of rfl) (touch_of rfl) (touch_of rfl) (touch_of rfl) (touch_of rfl) (touch_of rfl) (touch_of rfl) (touch_of rfl) (touch_of rfl) (touch_of rfl) who id value s (.refl _ s)) he

theorem spindleReinTrigger_touches {entry} {s nx : State} (he : exec (.spindleReinTrigger entry) s = .next nx) : SameBut (touches (.spindleReinTrigger entry)) s nx :=
  sameBut_of_outWithin (@execSpindleReinTrigger_frame _ s (touch_of rfl) (touch_of rfl) (touch_of rfl) (touch_of rfl) (touch_of rfl) (touch_of rfl) (touch_of rfl) (touch_of rfl) (touch_of rfl) (touch_of rfl) (touch_of rfl) (touch_of rfl) (touch_of rfl) (touch_of rfl) (touch_of rfl) (touch_of rfl) (touch_of rfl) (touch_of rfl) (touch_of rfl) (touch_of rfl) (touch_of rfl) (touch_of rfl) (touch_of rfl) entry s (.refl _ s)) he

theorem coreMemoryAccess_touches {core addr width access ecc} {s nx : State} (he : exec (.coreMemoryAccess core addr width access ecc) s = .next nx) : SameBut (touches (.coreMemoryAccess core addr width access ecc)) s nx :=
  sameBut_of_outWithin (@execCoreMemoryAccess_frame _ s (touch_of rfl) (touch_of rfl) (touch_of rfl) (touch_of rfl) (touch_of rfl) (touch_of rfl) (touch_of rfl) (touch_of rfl) (touch_of rfl) (touch_of rfl) (touch_of rfl) (touch_of rfl) (touch_of rfl) (touch_of rfl) (touch_of rfl) (touch_of rfl) (touch_of rfl) (touch_of rfl) (touch_of rfl) (touch_of rfl) (touch_of rfl) (touch_of rfl) (touch_of rfl) core addr width access ecc s (.refl _ s)) he

theorem linkTrainingDone_touches {p speed width} {s nx : State} (he : exec (.linkTrainingDone p speed width) s = .next nx) : SameBut (touches (.linkTrainingDone p speed width)) s nx :=
  sameBut_of_outWithin (@execLinkTrainingDone_frame _ s (touch_of rfl) (touch_of rfl) p speed width s (.refl _ s)) he

theorem tapInstruction_touches {ins} {s nx : State} (he : exec (.tapInstruction ins) s = .next nx) : SameBut (touches (.tapInstruction ins)) s nx :=
  sameBut_of_outWithin (@execTapInstruction_frame _ s (touch_of rfl) (touch_of rfl) ins s (.refl _ s)) he

theorem dynamicAddressAssignment_touches {addr} {s nx : State} (he : exec (.dynamicAddressAssignment addr) s = .next nx) : SameBut (touches (.dynamicAddressAssignment addr)) s nx :=
  sameBut_of_outWithin (@execDynamicAddressAssignment_frame _ s (touch_of rfl) addr s (.refl _ s)) he

theorem preampFaultRelease_touches {a} {s nx : State} (he : exec (.preampFaultRelease a) s = .next nx) : SameBut (touches (.preampFaultRelease a)) s nx :=
  sameBut_of_outWithin (@execPreampFaultRelease_frame _ s (touch_of rfl) a s (.refl _ s)) he

theorem bolhobaUnknownOpcode_touches {h pen version opcode} {s nx : State} (he : exec (.bolhobaUnknownOpcode h pen version opcode) s = .next nx) : SameBut (touches (.bolhobaUnknownOpcode h pen version opcode)) s nx :=
  sameBut_of_outWithin (@execBolhobaUnknownOpcode_frame _ s (touch_of rfl) (touch_of rfl) h pen version opcode s (.refl _ s)) he

theorem cqHeadDoorbell_touches {p qid head} {s nx : State} (he : exec (.cqHeadDoorbell p qid head) s = .next nx) : SameBut (touches (.cqHeadDoorbell p qid head)) s nx :=
  sameBut_of_outWithin (@execCqHeadDoorbell_frame _ s (touch_of rfl) (touch_of rfl) (touch_of rfl) (touch_of rfl) (touch_of rfl) (touch_of rfl) p qid head s (.refl _ s)) he

theorem fabricAck_touches {lane requester beats} {s nx : State} (he : exec (.fabricAck lane requester beats) s = .next nx) : SameBut (touches (.fabricAck lane requester beats)) s nx :=
  sameBut_of_outWithin (@execFabricAck_frame _ s (touch_of rfl) (touch_of rfl) (touch_of rfl) (touch_of rfl) lane requester beats s (.refl _ s)) he

theorem supersededPageProgrammed_touches {s nx : State} (he : exec (.supersededPageProgrammed) s = .next nx) : SameBut (touches (.supersededPageProgrammed)) s nx :=
  sameBut_of_outWithin (@execSupersededPageProgrammed_frame _ s (touch_of rfl) s (.refl _ s)) he

theorem cryptoEraseDone_touches {ns} {s nx : State} (he : exec (.cryptoEraseDone ns) s = .next nx) : SameBut (touches (.cryptoEraseDone ns)) s nx :=
  sameBut_of_outWithin (@execCryptoEraseDone_frame _ s (touch_of rfl) (touch_of rfl) (touch_of rfl) (touch_of rfl) (touch_of rfl) (touch_of rfl) (touch_of rfl) (touch_of rfl) (touch_of rfl) (touch_of rfl) (touch_of rfl) (touch_of rfl) (touch_of rfl) (touch_of rfl) (touch_of rfl) (touch_of rfl) (touch_of rfl) (touch_of rfl) (touch_of rfl) (touch_of rfl) (touch_of rfl) (touch_of rfl) (touch_of rfl) ns s (.refl _ s)) he

theorem reservationStateWritten_touches {ns} {s nx : State} (he : exec (.reservationStateWritten ns) s = .next nx) : SameBut (touches (.reservationStateWritten ns)) s nx :=
  sameBut_of_outWithin (@execReservationStateWritten_frame _ s (touch_of rfl) (touch_of rfl) (touch_of rfl) (touch_of rfl) (touch_of rfl) (touch_of rfl) ns s (.refl _ s)) he

end Sys2Proof.Machine
end

