-- ==== Sys2Proof/Laws/Wf.lean ====
section
/-!
SUPPORT. The canonical form of the block's data, part by part, and the operations of Machine/Ops.lean that keep it. The files Laws/Wf*.lean
say of every operation of the file they are named after that it keeps the canonical form.
-/

namespace Sys2Proof.Machine

/-- What a command answers has the canonical form; a stop has nothing to show. -/
def outWf : Host.Outcome State Fault Refusal → Bool
  | .next t => t.wf
  | .fault _ | .refused _ => true

def optWf : Option State → Bool
  | some t => t.wf
  | none => true

@[simp] theorem outWf_next (t : State) : outWf (.next t) = t.wf := rfl
@[simp] theorem optWf_some (t : State) : optWf (some t) = t.wf := rfl
@[simp] theorem optWf_none : optWf none = true := rfl

@[simp] theorem State.wf_mk (objs power dict start fw media chan dec players acts engines groups traces motion girth host layout)
    (mem : Memory) (fab coll raised outs free pending) :
    (State.mk objs power dict start fw media chan dec players acts engines groups traces motion girth host layout mem fab coll
      raised outs free pending).wf = (SMap.wf objs && mem.wf) := rfl

@[simp] theorem Memory.wf_mk (dram poison written errors filter substituted copying zeroing sram secSram cache keeper keeperChosen
    supersedeDue lines recency fills maint) :
    (Memory.mk dram poison written errors filter substituted copying zeroing sram secSram cache keeper keeperChosen supersedeDue
      lines recency fills maint).wf = (cellsWf dram && cellsWf sram && cellsWf secSram) := rfl

@[simp] theorem cellsWf_nil : cellsWf [] = true := rfl
@[simp] theorem SMap.wf_nil {α : Type} : SMap.wf ([] : SMap α) = true := rfl

@[simp] theorem State.wf_objs {s : State} (h : s.wf = true) : SMap.wf s.objs = true := by
  simp only [State.wf, Bool.and_eq_true] at h; exact h.1

@[simp] theorem State.wf_mem {s : State} (h : s.wf = true) : s.mem.wf = true := by
  simp only [State.wf, Bool.and_eq_true] at h; exact h.2

@[simp] theorem Memory.wf_dram {m : Memory} (h : m.wf = true) : cellsWf m.dram = true := by
  simp only [Memory.wf, Bool.and_eq_true] at h; exact h.1.1

@[simp] theorem Memory.wf_sram {m : Memory} (h : m.wf = true) : cellsWf m.sram = true := by
  simp only [Memory.wf, Bool.and_eq_true] at h; exact h.1.2

@[simp] theorem Memory.wf_secSram {m : Memory} (h : m.wf = true) : cellsWf m.secSram = true := by
  simp only [Memory.wf, Bool.and_eq_true] at h; exact h.2

@[simp] theorem State.wf_ite {c : Prop} [Decidable c] (s t : State) : (if c then s else t).wf = if c then s.wf else t.wf :=
  apply_ite _ _ _ _

@[simp] theorem outWf_ite {c : Prop} [Decidable c] (s t) : outWf (if c then s else t) = if c then outWf s else outWf t :=
  apply_ite _ _ _ _

@[simp] theorem State.each_wf {α : Type} {s : State} {l : List α} {f : State → α → State} (h : s.wf = true)
    (hf : ∀ t x, t.wf = true → (f t x).wf = true) : (s.each l f).wf = true := by
  unfold State.each
  induction l generalizing s with
  | nil => exact h
  | cons x r ih => exact ih (hf s x h)

@[simp] theorem getD_wf (o : Option State) (s : State) (ho : optWf o = true) (hs : s.wf = true) : (o.getD s).wf = true := by
  cases o <;> assumption

@[simp] theorem foldl_wf {α : Type} {f : State → α → State} {l : List α} {s : State} (h : s.wf = true)
    (hf : ∀ t x, t.wf = true → (f t x).wf = true) : (l.foldl f s).wf = true := State.each_wf h hf

@[simp] theorem foldl_fst_wf {α β : Type} {f : State × β → α → State × β} {l : List α} {x : State × β} (h : x.1.wf = true)
    (hf : ∀ y a, y.1.wf = true → (f y a).1.wf = true) : (l.foldl f x).1.wf = true := by
  induction l generalizing x with
  | nil => exact h
  | cons a r ih => exact ih (hf x a h)

@[simp] theorem foldl_snd_wf {α β : Type} {f : β × State → α → β × State} {l : List α} {x : β × State} (h : x.2.wf = true)
    (hf : ∀ y a, y.2.wf = true → (f y a).2.wf = true) : (l.foldl f x).2.wf = true := by
  induction l generalizing x with
  | nil => exact h
  | cons a r ih => exact ih (hf x a h)

@[simp] theorem State.setObj_wf (s : State) (k : Key) (v : Val) (hwf : s.wf = true) :
    (State.setObj s k v).wf = true := by
  simp (maxDischargeDepth := 30) [State.setObj, *]

@[simp] theorem State.setNum_wf (s : State) (k : Key) (n : ℕ) (hwf : s.wf = true) :
    (State.setNum s k n).wf = true := by
  simp (maxDischargeDepth := 30) [State.setNum, *]

@[simp] theorem State.setStr_wf (s : State) (k : Key) (b : List Byte) (hwf : s.wf = true) :
    (State.setStr s k b).wf = true := by
  simp (maxDischargeDepth := 30) [State.setStr, *]

@[simp] theorem State.draw_wf (s : State) (hwf : s.wf = true) :
    (State.draw s).2.wf = true := by
  simp (maxDischargeDepth := 30) [State.draw, *]

@[simp] theorem State.add_wf (s : State) (k : Key) (n : ℕ) (hwf : s.wf = true) :
    (State.add s k n).wf = true := by
  simp (maxDischargeDepth := 30) [State.add, *]

@[simp] theorem State.bump_wf (s : State) (k : Key) (hwf : s.wf = true) :
    (State.bump s k).wf = true := by
  simp (maxDischargeDepth := 30) [State.bump, *]

@[simp] theorem State.sub_wf (s : State) (k : Key) (n : ℕ) (hwf : s.wf = true) :
    (State.sub s k n).wf = true := by
  simp (maxDischargeDepth := 30) [State.sub, *]

@[simp] theorem State.senseTj_wf (s : State) (hwf : s.wf = true) :
    (State.senseTj s).wf = true := by
  simp (maxDischargeDepth := 30) [State.senseTj, *]

@[simp] theorem State.raiseEv_wf (s : State) (e : Event) (hwf : s.wf = true) :
    (State.raiseEv s e).wf = true := by
  simp (maxDischargeDepth := 30) [State.raiseEv, *]

@[simp] theorem State.raise_wf (s : State) (source : ℕ) (unit : optParam ℕ 0) (detail : optParam ℕ 0) (hwf : s.wf = true) :
    (State.raise s source unit detail).wf = true := by
  simp (maxDischargeDepth := 30) [State.raise, *]

@[simp] theorem State.raiseAct_wf (s : State) (a : ℕ) (k : ℕ) (unit : optParam ℕ 0) (detail : optParam ℕ 0) (hwf : s.wf = true) :
    (State.raiseAct s a k unit detail).wf = true := by
  simp (maxDischargeDepth := 30) [State.raiseAct, *]

@[simp] theorem State.emit_wf (s : State) (o : Out) (hwf : s.wf = true) :
    (State.emit s o).wf = true := by
  simp (maxDischargeDepth := 30) [State.emit, *]

@[simp] theorem idle_wf (s : State) (hwf : s.wf = true) :
    (idle s).wf = true := by
  simp (maxDischargeDepth := 30) [idle, *]

@[simp] theorem State.modChan_wf (s : State) (a : ℕ) (f : Channel → Channel) (hwf : s.wf = true) :
    (State.modChan s a f).wf = true := by
  simp (maxDischargeDepth := 30) [State.modChan, *]

@[simp] theorem State.modPlayer_wf (s : State) (p : ℕ) (f : Player → Player) (hwf : s.wf = true) :
    (State.modPlayer s p f).wf = true := by
  simp (maxDischargeDepth := 30) [State.modPlayer, *]

@[simp] theorem State.modAct_wf (s : State) (a : ℕ) (f : Actuator → Actuator) (hwf : s.wf = true) :
    (State.modAct s a f).wf = true := by
  simp (maxDischargeDepth := 30) [State.modAct, *]

@[simp] theorem State.modEngine_wf (s : State) (e : ℕ) (f : Engine → Engine) (hwf : s.wf = true) :
    (State.modEngine s e f).wf = true := by
  simp (maxDischargeDepth := 30) [State.modEngine, *]

@[simp] theorem State.modGroup_wf (s : State) (g : ℕ) (f : Group → Group) (hwf : s.wf = true) :
    (State.modGroup s g f).wf = true := by
  simp (maxDischargeDepth := 30) [State.modGroup, *]

@[simp] theorem State.modTrace_wf (s : State) (a : ℕ) (f : Trace → Trace) (hwf : s.wf = true) :
    (State.modTrace s a f).wf = true := by
  simp (maxDischargeDepth := 30) [State.modTrace, *]

@[simp] theorem State.modCtrl_wf (s : State) (p : Port) (f : Controller → Controller) (hwf : s.wf = true) :
    (State.modCtrl s p f).wf = true := by
  simp (maxDischargeDepth := 30) [State.modCtrl, *]

end Sys2Proof.Machine
end

