-- ==== Sys2Proof/Laws/WfStore.lean ====
section
/-! SUPPORT. Every operation of Machine/Store.lean keeps the canonical form of the block's data. -/

namespace Sys2Proof.Machine

@[simp] theorem State.setJob_wf (s : State) (j : Option StoreJob) (hwf : s.wf = true) :
    (State.setJob s j).wf = true := by
  simp (maxDischargeDepth := 30) [State.setJob, *]

@[simp] theorem storeBegin_wf (s : State) (hwf : s.wf = true) :
    (storeBegin s).wf = true := by
  simp (maxDischargeDepth := 30) [storeBegin, *]

@[simp] theorem recordBegin_wf (s : State) (k : RecordKind) (hwf : s.wf = true) :
    (recordBegin s k).wf = true := by
  simp (maxDischargeDepth := 30) [recordBegin, *]

@[simp] theorem recordStore_wf (s : State) (k : RecordKind) (hwf : s.wf = true) :
    (recordStore s k).wf = true := by
  simp only [recordStore]
  split <;> simp (maxDischargeDepth := 30) [*]

@[simp] theorem settleRestore_wf (s : State) (hwf : s.wf = true) :
    (settleRestore s).wf = true := by
  simp (maxDischargeDepth := 30) [settleRestore, *]

@[simp] theorem commitCopy_wf (s : State) (j : StoreJob) (hwf : s.wf = true) :
    (commitCopy s j).wf = true := by
  simp (maxDischargeDepth := 30) [commitCopy, *]

@[simp] theorem nextRecord_wf (s : State) (hwf : s.wf = true) :
    (nextRecord s).wf = true := by
  simp only [nextRecord]
  split <;> simp (maxDischargeDepth := 30) [*]

theorem execStoreCommit_wf (programmed : Bool) (s : State) (hwf : s.wf = true) :
    outWf (execStoreCommit programmed s) = true := by
  simp only [execStoreCommit]
  split <;> simp (maxDischargeDepth := 30) [*]

end Sys2Proof.Machine
end

