-- ==== Sys2Proof/Laws/WfMemory.lean ====
section
/-! SUPPORT. Every operation of Machine/Memory.lean keeps the canonical form of the block's data. -/

namespace Sys2Proof.Machine

@[simp] theorem dramPutByte_wf (m : Memory) (a : ℕ) (b : Byte) (hwf : m.wf = true) :
    (dramPutByte m a b).wf = true := by
  simp only [dramPutByte]
  repeat' split
  all_goals simp (maxDischargeDepth := 30) [*]

@[simp] theorem dramPut_wf (m : Memory) (a : Nat) (l : List Byte) (h : m.wf = true) : (dramPut m a l).wf = true := by
  induction l generalizing m a with
  | nil => exact h
  | cons b r ih => exact ih _ _ (dramPutByte_wf m a b h)

@[simp] theorem dramWriteM_wf (m : Memory) (a : ℕ) (data : List Byte) (hwf : m.wf = true) :
    (dramWriteM m a data).wf = true := by
  simp (maxDischargeDepth := 30) [dramWriteM, *]

@[simp] theorem dramWrite_wf (s : State) (a : ℕ) (data : List Byte) (hwf : s.wf = true) :
    (dramWrite s a data).wf = true := by
  simp (maxDischargeDepth := 30) [dramWrite, *]

@[simp] theorem poisonBlocks_wf (s : State) (bs : List ℕ) (hwf : s.wf = true) :
    (poisonBlocks s bs).wf = true := by
  simp (maxDischargeDepth := 30) [poisonBlocks, *]

@[simp] theorem pageRetire_wf (s : State) (page : ℕ) (hwf : s.wf = true) :
    (pageRetire s page).wf = true := by
  simp only [pageRetire]
  repeat' split
  all_goals simp (maxDischargeDepth := 30) [*]

@[simp] theorem pageCountTo_wf (s : State) (page : ℕ) (n : ℕ) (hwf : s.wf = true) :
    (pageCountTo s page n).wf = true := by
  simp (maxDischargeDepth := 30) [pageCountTo, *]

@[simp] theorem eccRead_wf (s : State) (a : ℕ) (master : ℕ) (o : EccOutcome) (hwf : s.wf = true) :
    (eccRead s a master o).wf = true := by
  simp only [eccRead]
  split <;> simp (maxDischargeDepth := 30) [*]

theorem execPageSubstitutionDone_wf (page : ℕ) (s : State) (hwf : s.wf = true) :
    outWf (execPageSubstitutionDone page s) = true := by
  simp only [execPageSubstitutionDone]
  repeat' split
  all_goals simp (maxDischargeDepth := 30) [*]

@[simp] theorem markUnwritten_wf (m : Memory) (a : ℕ) (n : ℕ) (hwf : m.wf = true) :
    (markUnwritten m a n).wf = true := by
  simp (maxDischargeDepth := 30) [markUnwritten, *]

@[simp] theorem zeroRangeBegin_wf (s : State) (a : ℕ) (n : ℕ) (hwf : s.wf = true) :
    (zeroRangeBegin s a n).wf = true := by
  simp (maxDischargeDepth := 30) [zeroRangeBegin, *]

theorem execZeroRangeDone_wf (s : State) (hwf : s.wf = true) :
    outWf (execZeroRangeDone s) = true := by
  simp (maxDischargeDepth := 30) [execZeroRangeDone, *]

theorem execKeeperSlotErased_wf (slot : Fin 6) (s : State) (hwf : s.wf = true) :
    outWf (execKeeperSlotErased slot s) = true := by
  simp (maxDischargeDepth := 30) [execKeeperSlotErased, *]

theorem execSupersededPageProgrammed_wf (s : State) (hwf : s.wf = true) :
    outWf (execSupersededPageProgrammed s) = true := by
  simp only [execSupersededPageProgrammed]
  split <;> simp (maxDischargeDepth := 30) [*]

@[simp] theorem countLocked_wf (s : State) (hwf : s.wf = true) :
    (countLocked s).wf = true := by
  simp (maxDischargeDepth := 30) [countLocked, *]

@[simp] theorem touchLine_wf (m : Memory) (line : ℕ) (hwf : m.wf = true) :
    (touchLine m line).wf = true := by
  simp (maxDischargeDepth := 30) [touchLine, *]

@[simp] theorem writeBack_wf (s : State) (line : ℕ) (hwf : s.wf = true) :
    (writeBack s line).wf = true := by
  simp only [writeBack]
  split <;> simp (maxDischargeDepth := 30) [*]

@[simp] theorem dropLine_wf (s : State) (line : ℕ) (hwf : s.wf = true) :
    (dropLine s line).wf = true := by
  simp (maxDischargeDepth := 30) [dropLine, *]

@[simp] theorem takeWay_wf (s : State) (set : ℕ) (hwf : s.wf = true) :
    (takeWay s set).2.wf = true := by
  simp only [takeWay]
  repeat' split
  all_goals simp (maxDischargeDepth := 30) [*]

@[simp] theorem startFill_wf (s : State) (line : ℕ) (f : Fill) (hwf : s.wf = true) :
    (startFill s line f).wf = true := by
  simp (maxDischargeDepth := 30) [startFill, *]

@[simp] theorem lineAccess_wf (s : State) (core : ℕ) (a : ℕ) (width : ℕ) (store : Option (List Byte)) (poison : Bool) (hwf : s.wf = true) :
    (lineAccess s core a width store poison).wf = true := by
  simp only [lineAccess]
  repeat' split
  all_goals simp (maxDischargeDepth := 30) [*]

@[simp] theorem serveOp_wf (line : ℕ) (bad : Bool) (x : State × FillLine) (x3 : FillOp) (hwf : x.1.wf = true) :
    (serveOp line bad x x3).1.wf = true := by
  simp only [serveOp]
  repeat' split
  all_goals simp (maxDischargeDepth := 30) [*]

theorem execCacheFillReturn_wf (line : ℕ) (s : State) (hwf : s.wf = true) :
    outWf (execCacheFillReturn line s) = true := by
  unfold execCacheFillReturn
  repeat' split
  all_goals simp_all (maxDischargeDepth := 30)

@[simp] theorem lineFetch_wf (s : State) (line : ℕ) (hwf : s.wf = true) :
    (lineFetch s line).wf = true := by
  simp only [lineFetch]
  split <;> simp (maxDischargeDepth := 30) [*]

@[simp] theorem cachedPut_wf (s : State) (a : ℕ) (b : Byte) (hwf : s.wf = true) :
    (cachedPut s a b).wf = true := by
  simp only [cachedPut]
  split <;> simp (maxDischargeDepth := 30) [*]

@[simp] theorem cachedWrite_wf (s : State) (a : ℕ) (data : List Byte) (hwf : s.wf = true) :
    (cachedWrite s a data).wf = true := by
  unfold cachedWrite
  repeat' split
  all_goals simp_all (maxDischargeDepth := 30)

@[simp] theorem cleanLines_wf (s : State) (p : ℕ → Bool) (hwf : s.wf = true) :
    (cleanLines s p).wf = true := by
  unfold cleanLines
  repeat' split
  all_goals simp_all (maxDischargeDepth := 30)

@[simp] theorem wayRetire_wf (s : State) (w : ℕ) (hwf : s.wf = true) :
    (wayRetire s w).wf = true := by
  unfold wayRetire
  repeat' split
  all_goals simp_all (maxDischargeDepth := 30)

@[simp] theorem maintLine_wf (e : MaintEffect) (bySet : Bool) (x : State × MaintResult) (line : Nat) (h : x.1.wf = true) :
    (maintLine e bySet x line).1.wf = true := by
  obtain ⟨s, r⟩ := x
  simp only [maintLine]
  repeat' split
  all_goals simp_all (maxDischargeDepth := 30)

@[simp] theorem maintBegin_wf (s : State) (core : ℕ) (op : ℕ) (hwf : s.wf = true) :
    (maintBegin s core op).wf = true := by
  unfold maintBegin
  repeat' split
  all_goals simp_all (maxDischargeDepth := 30)

theorem execCacheMaintDone_wf (core : Fin 9) (s : State) (hwf : s.wf = true) :
    outWf (execCacheMaintDone core s) = true := by
  simp only [execCacheMaintDone]
  split <;> simp (maxDischargeDepth := 30) [*]

@[simp] theorem accessFault_wf (s : State) (core : ℕ) (a : ℕ) (kind : ℕ) (hwf : s.wf = true) :
    (accessFault s core a kind).wf = true := by
  simp (maxDischargeDepth := 30) [accessFault, *]

@[simp] theorem sramPut_wf (m : Memory) (core : ℕ) (a : ℕ) (d : List Byte) (hwf : m.wf = true) :
    (sramPut m core a d).wf = true := by
  simp only [sramPut]
  split <;> simp (maxDischargeDepth := 30) [*]

@[simp] theorem sramAccess_wf (s : State) (core : ℕ) (a : ℕ) (width : ℕ) (acc : CoreAccess) (ecc : EccOutcome) (hwf : s.wf = true) :
    (sramAccess s core a width acc ecc).wf = true := by
  simp only [sramAccess]
  repeat' split
  all_goals simp (maxDischargeDepth := 30) [*]

@[simp] theorem lineUncorrectable_wf (s : State) (core : ℕ) (acc : CoreAccess) (line : ℕ) (l : Line) (hwf : s.wf = true) :
    (lineUncorrectable s core acc line l).wf = true := by
  simp (maxDischargeDepth := 30) [lineUncorrectable, *]

@[simp] theorem dramAccess_wf (s : State) (core : ℕ) (a : ℕ) (width : ℕ) (acc : CoreAccess) (ecc : EccOutcome) (hwf : s.wf = true) :
    (dramAccess s core a width acc ecc).wf = true := by
  simp only [dramAccess]
  repeat' split
  all_goals simp (maxDischargeDepth := 30) [*]

end Sys2Proof.Machine
end

