-- ==== Sys2Proof/Laws/WfFront.lean ====
section
/-! SUPPORT. Every operation of Machine/Front.lean keeps the canonical form of the block's data. -/

namespace Sys2Proof.Machine

@[simp] theorem modEntry_wf (s : State) (p : ℕ) (i : ℕ) (f : Entry → Entry) (hwf : s.wf = true) :
    (modEntry s p i f).wf = true := by
  simp (maxDischargeDepth := 30) [modEntry, *]

@[simp] theorem endEntry_wf (s : State) (p : ℕ) (i : ℕ) (result : ℕ) (poisoned : optParam Bool false) (hwf : s.wf = true) :
    (endEntry s p i result poisoned).wf = true := by
  simp only [endEntry]
  split <;> simp (maxDischargeDepth := 30) [*]

@[simp] theorem report_wf (s : State) (p : ℕ) (i : ℕ) (mask : ℕ) (hwf : s.wf = true) :
    (report s p i mask).wf = true := by
  simp (maxDischargeDepth := 30) [report, *]

@[simp] theorem reportGated_wf (s : State) (a : ℕ) (mask : ℕ) (hwf : s.wf = true) :
    (reportGated s a mask).wf = true := by
  unfold reportGated
  repeat' split
  all_goals simp_all (maxDischargeDepth := 30)

@[simp] theorem writeIncomplete_wf (s : State) (p : ℕ) (i : ℕ) (mask : ℕ) (poisoned : optParam Bool false) (hwf : s.wf = true) :
    (writeIncomplete s p i mask poisoned).wf = true := by
  simp only [writeIncomplete]
  split <;> simp (maxDischargeDepth := 30) [*]

@[simp] theorem postFront_wf (s : State) (a : ℕ) (e : FrontEvent) (hwf : s.wf = true) :
    (postFront s a e).wf = true := by
  simp (maxDischargeDepth := 30) [postFront, *]

@[simp] theorem postEvent_wf (s : State) (a : ℕ) (code : ℕ) (hwf : s.wf = true) :
    (postEvent s a code).wf = true := by
  simp (maxDischargeDepth := 30) [postEvent, *]

@[simp] theorem postSector_wf (s : State) (a : ℕ) (code : ℕ) (i : ℕ) (hwf : s.wf = true) :
    (postSector s a code i).wf = true := by
  simp (maxDischargeDepth := 30) [postSector, *]

@[simp] theorem sendNext_wf (s : State) (a : ℕ) (hwf : s.wf = true) :
    (sendNext s a).wf = true := by
  simp only [sendNext]
  repeat' split
  all_goals simp (maxDischargeDepth := 30) [*]

@[simp] theorem queueFrame_wf (s : State) (a : ℕ) (f : PreampFrame) (hwf : s.wf = true) :
    (queueFrame s a f).wf = true := by
  simp (maxDischargeDepth := 30) [queueFrame, *]

@[simp] theorem postMode_wf (s : State) (a : ℕ) (mode : ℕ) (hwf : s.wf = true) :
    (postMode s a mode).wf = true := by
  simp (maxDischargeDepth := 30) [postMode, *]

@[simp] theorem postHead_wf (s : State) (a : ℕ) (surface : ℕ) (hwf : s.wf = true) :
    (postHead s a surface).wf = true := by
  simp (maxDischargeDepth := 30) [postHead, *]

end Sys2Proof.Machine
end

