-- ==== Sys2Proof/Laws/WfCode.lean ====
section
/-! SUPPORT. Every operation of Machine/Code.lean keeps the canonical form. -/

namespace Sys2Proof.Machine

@[simp] theorem emitPieces_wf (s : State) (p : ℕ) (e : Entry) (pieces : List (ℕ × ℕ × List (Bool × ℕ))) (hwf : s.wf = true) :
    (emitPieces s p e pieces).wf = true := by
  simp (maxDischargeDepth := 30) [emitPieces, *]

@[simp] theorem cutWrite_wf (s : State) (a : ℕ) (mask : ℕ) (poisoned : optParam Bool false) (hwf : s.wf = true) :
    (cutWrite s a mask poisoned).wf = true := by
  simp only [cutWrite]
  repeat' split
  all_goals simp (maxDischargeDepth := 30) [*]

@[simp] theorem lockSentence_wf (s : State) (a : ℕ) (hwf : s.wf = true) :
    (lockSentence s a).wf = true := by
  simp (maxDischargeDepth := 30) [lockSentence, *]

@[simp] theorem assertWu_wf (s : State) (a : ℕ) (src : WuSource) (hwf : s.wf = true) :
    (assertWu s a src).wf = true := by
  simp (maxDischargeDepth := 30) [assertWu, *]

@[simp] theorem clearWu_wf (s : State) (a : ℕ) (src : WuSource) (hwf : s.wf = true) :
    (clearWu s a src).wf = true := by
  simp (maxDischargeDepth := 30) [clearWu, *]

@[simp] theorem unlockSeen_wf (s : State) (a : ℕ) (hwf : s.wf = true) :
    (unlockSeen s a).wf = true := by
  simp (maxDischargeDepth := 30) [unlockSeen, *]

end Sys2Proof.Machine
end

