-- ==== Sys2Proof/Laws/WfSignal.lean ====
section
/-! SUPPORT. Every operation of Machine/Signal.lean keeps the canonical form. -/

namespace Sys2Proof.Machine

@[simp] theorem streamSamples_wf (s : State) (a : ℕ) (adc : List AdcRow) (hwf : s.wf = true) :
    (streamSamples s a adc).wf = true := by
  simp only [streamSamples]
  split <;> simp (maxDischargeDepth := 30) [*]

@[simp] theorem storeRingSlot_wf (s : State) (p : ℕ) (e : Entry) (x : SampleSlot) (hwf : s.wf = true) :
    (storeRingSlot s p e x).wf = true := by
  simp (maxDischargeDepth := 30) [storeRingSlot, *]

end Sys2Proof.Machine
end

