-- ==== Sys2Proof/Laws/WfPool.lean ====
section
/-! SUPPORT. Every operation of Machine/Pool.lean keeps the canonical form. -/

namespace Sys2Proof.Machine

@[simp] theorem State.setDec_wf (s : State) (d : Decode) (hwf : s.wf = true) :
    (State.setDec s d).wf = true := by
  simp (maxDischargeDepth := 30) [State.setDec, *]

@[simp] theorem setJobs_wf (s : State) (l : List DecodeJob) (hwf : s.wf = true) :
    (setJobs s l).wf = true := by
  simp (maxDischargeDepth := 30) [setJobs, *]

@[simp] theorem putJob_wf (s : State) (j : DecodeJob) (hwf : s.wf = true) :
    (putJob s j).wf = true := by
  simp (maxDischargeDepth := 30) [putJob, *]

@[simp] theorem dropJob_wf (s : State) (id : ℕ) (hwf : s.wf = true) :
    (dropJob s id).wf = true := by
  simp (maxDischargeDepth := 30) [dropJob, *]

@[simp] theorem startDetector_wf (s : State) (d : ℕ) (hwf : s.wf = true) :
    (startDetector s d).wf = true := by
  simp only [startDetector]
  repeat' split
  all_goals simp (maxDischargeDepth := 30) [*]

@[simp] theorem startLdpc_wf (s : State) (c : ℕ) (hwf : s.wf = true) :
    (startLdpc s c).wf = true := by
  simp only [startLdpc]
  repeat' split
  all_goals simp (maxDischargeDepth := 30) [*]

@[simp] theorem dispatch_wf (s : State) (hwf : s.wf = true) :
    (dispatch s).wf = true := by
  unfold dispatch
  repeat' split
  all_goals simp_all (maxDischargeDepth := 30)

@[simp] theorem addJob_wf (s : State) (j : DecodeJob) (hwf : s.wf = true) :
    (addJob s j).wf = true := by
  simp (maxDischargeDepth := 30) [addJob, *]

@[simp] theorem abandonPasses_wf (s : State) (det : Bool) (core : ℕ) (hwf : s.wf = true) :
    (abandonPasses s det core).wf = true := by
  simp only [abandonPasses]
  split <;> simp (maxDischargeDepth := 30) [*]

end Sys2Proof.Machine
end

