-- ==== Sys2Proof/Laws/WfCapture.lean ====
section
/-! SUPPORT. Every operation of Machine/Capture.lean keeps the canonical form. -/

namespace Sys2Proof.Machine

@[simp] theorem laneFaults_wf (s : State) (a : ℕ) (lanes : ℕ) (e : Entry) (hwf : s.wf = true) :
    (laneFaults s a lanes e).wf = true := by
  unfold laneFaults
  repeat' split
  all_goals simp_all (maxDischargeDepth := 30)

@[simp] theorem postJob_wf (s : State) (p : ℕ) (i : ℕ) (e : Entry) (h : Header) (align : ℤ) (hwf : s.wf = true) :
    (postJob s p i e h align).wf = true := by
  simp (maxDischargeDepth := 30) [postJob, *]

@[simp] theorem captureStored_wf (s : State) (p : ℕ) (i : ℕ) (e : Entry) (hwf : s.wf = true) :
    (captureStored s p i e).wf = true := by
  simp (maxDischargeDepth := 30) [captureStored, *]

@[simp] theorem endCapture_wf (s : State) (p : ℕ) (i : ℕ) (hwf : s.wf = true) :
    (endCapture s p i).wf = true := by
  simp only [endCapture]
  split <;> simp (maxDischargeDepth := 30) [*]

@[simp] theorem cutCapture_wf (s : State) (p : ℕ) (i : ℕ) (hwf : s.wf = true) :
    (cutCapture s p i).wf = true := by
  simp only [cutCapture]
  split <;> simp (maxDischargeDepth := 30) [*]

@[simp] theorem stopCapture_wf (s : State) (p : ℕ) (i : ℕ) (hwf : s.wf = true) :
    (stopCapture s p i).wf = true := by
  simp only [stopCapture]
  split <;> simp (maxDischargeDepth := 30) [*]

end Sys2Proof.Machine
end

