-- ==== Sys2Proof/Laws/WfPlayers.lean ====
section
/-! SUPPORT. Every operation of Machine/Players.lean keeps the canonical form of the block's data. -/

namespace Sys2Proof.Machine

@[simp] theorem setFlags_wf (s : State) (p : ℕ) (mask : ℕ) (hwf : s.wf = true) :
    (setFlags s p mask).wf = true := by
  simp (maxDischargeDepth := 30) [setFlags, *]

@[simp] theorem putRecord_wf (s : State) (r : PendingRecord) (hwf : s.wf = true) :
    (putRecord s r).wf = true := by
  simp (maxDischargeDepth := 30) [putRecord, *]

@[simp] theorem countTurn_wf (s : State) (a : ℕ) (hwf : s.wf = true) :
    (countTurn s a).wf = true := by
  unfold countTurn
  repeat' split
  all_goals simp_all (maxDischargeDepth := 30)

@[simp] theorem prerollPosts_wf (s : State) (a : ℕ) (p : ℕ) (hwf : s.wf = true) :
    (prerollPosts s a p).wf = true := by
  simp (maxDischargeDepth := 30) [prerollPosts, *]

@[simp] theorem closeSentence_wf (s : State) (p : ℕ) (o : Outcome) (hwf : s.wf = true) :
    (closeSentence s p o).wf = true := by
  unfold closeSentence
  repeat' split
  all_goals simp_all (maxDischargeDepth := 30)

@[simp] theorem blockAfter_wf (s : State) (p : ℕ) (hwf : s.wf = true) :
    (blockAfter s p).wf = true := by
  simp (maxDischargeDepth := 30) [blockAfter, *]

@[simp] theorem blockedUnderrun_wf (s : State) (p : ℕ) (hwf : s.wf = true) :
    (blockedUnderrun s p).wf = true := by
  simp (maxDischargeDepth := 30) [blockedUnderrun, *]

@[simp] theorem underrunNow_wf (s : State) (p : ℕ) (hwf : s.wf = true) :
    (underrunNow s p).wf = true := by
  simp (maxDischargeDepth := 30) [underrunNow, *]

@[simp] theorem prerollNext_wf (fuel : Nat) (s : State) (a : Nat) (h : s.wf = true) : (prerollNext fuel s a).wf = true := by
  induction fuel generalizing s with
  | zero => simpa [prerollNext] using h
  | succ n ih =>
    simp only [prerollNext]
    repeat' first | (simp +contextual (maxDischargeDepth := 30) [*]; done) | split

@[simp] theorem finishSentence_wf (s : State) (p : ℕ) (o : Outcome) (hwf : s.wf = true) :
    (finishSentence s p o).wf = true := by
  simp (maxDischargeDepth := 30) [finishSentence, *]

@[simp] theorem allCloseCut_wf (s : State) (a : ℕ) (p : ℕ) (hwf : s.wf = true) :
    (allCloseCut s a p).wf = true := by
  unfold allCloseCut
  repeat' split
  all_goals simp_all (maxDischargeDepth := 30)

@[simp] theorem settleReads_wf (s : State) (p : ℕ) (hwf : s.wf = true) :
    (settleReads s p).wf = true := by
  unfold settleReads
  repeat' split
  all_goals simp_all (maxDischargeDepth := 30)

@[simp] theorem giveUp_wf (s : State) (p : ℕ) (o : Outcome) (hwf : s.wf = true) :
    (giveUp s p o).wf = true := by
  simp (maxDischargeDepth := 30) [giveUp, *]

@[simp] theorem dropReady_wf (s : State) (p : ℕ) (o : Outcome) (hwf : s.wf = true) :
    (dropReady s p o).wf = true := by
  simp (maxDischargeDepth := 30) [dropReady, *]

@[simp] theorem discardReady_wf (s : State) (p : ℕ) (hwf : s.wf = true) :
    (discardReady s p).wf = true := by
  simp (maxDischargeDepth := 30) [discardReady, *]

@[simp] theorem sampleEvents_wf (s : State) (p : ℕ) (hwf : s.wf = true) :
    (sampleEvents s p).wf = true := by
  simp (maxDischargeDepth := 30) [sampleEvents, *]

@[simp] theorem askAbort_wf (s : State) (p : ℕ) (hwf : s.wf = true) :
    (askAbort s p).wf = true := by
  simp (maxDischargeDepth := 30) [askAbort, *]

@[simp] theorem playerAbort_wf (s : State) (p : ℕ) (hwf : s.wf = true) :
    (playerAbort s p).wf = true := by
  simp only [playerAbort]
  split <;> simp (maxDischargeDepth := 30) [*]

@[simp] theorem abortPlayers_wf (s : State) (a : ℕ) (hwf : s.wf = true) :
    (abortPlayers s a).wf = true := by
  unfold abortPlayers
  repeat' split
  all_goals simp_all (maxDischargeDepth := 30)

@[simp] theorem stopPlayers_wf (s : State) (a : Nat) (o : Outcome) (h : s.wf = true) : (stopPlayers s a o).wf = true := by
  unfold stopPlayers
  refine State.each_wf (by simp (maxDischargeDepth := 30) [*]) fun t x ht => ?_
  repeat' first | (simp +contextual (maxDischargeDepth := 30) [*]; done) | split

@[simp] theorem loadBegin_wf (s : State) (p : ℕ) (addr : ℕ) (hwf : s.wf = true) :
    (loadBegin s p addr).wf = true := by
  simp (maxDischargeDepth := 30) [loadBegin, *]

@[simp] theorem laneTo_wf (s : State) (a : ℕ) (k : ℕ) (st : ℕ) (hwf : s.wf = true) :
    (laneTo s a k st).wf = true := by
  unfold laneTo
  repeat' split
  all_goals simp_all (maxDischargeDepth := 30)

@[simp] theorem takeSentence_wf (s : State) (p : ℕ) (addr : ℕ) (hwf : s.wf = true) :
    (takeSentence s p addr).wf = true := by
  unfold takeSentence
  repeat' split
  all_goals simp_all (maxDischargeDepth := 30)

theorem execSentenceFetchDone_wf (p : Fin 8) (s : State) (hwf : s.wf = true) :
    outWf (execSentenceFetchDone p s) = true := by
  simp only [execSentenceFetchDone]
  repeat' split
  all_goals simp (maxDischargeDepth := 30) [*]

theorem execSentenceUnderrun_wf (p : Fin 8) (s : State) (hwf : s.wf = true) :
    outWf (execSentenceUnderrun p s) = true := by
  simp (maxDischargeDepth := 30) [execSentenceUnderrun, *]

@[simp] theorem postGate_wf (s : State) (p : ℕ) (action : ℕ) (off : ℕ) (entry : ℕ) (hwf : s.wf = true) :
    (postGate s p action off entry).wf = true := by
  simp (maxDischargeDepth := 30) [postGate, *]

@[simp] theorem phraseFrame_wf (s : State) (p : ℕ) (f : Phrase) (hwf : s.wf = true) :
    (phraseFrame s p f).wf = true := by
  simp only [phraseFrame]
  split <;> simp (maxDischargeDepth := 30) [*]

@[simp] theorem phraseGate_wf (s : State) (p : ℕ) (f : Phrase) (hwf : s.wf = true) :
    (phraseGate s p f).wf = true := by
  simp only [phraseGate]
  split <;> simp (maxDischargeDepth := 30) [*]

@[simp] theorem applyPhrase_wf (s : State) (p : ℕ) (f : Phrase) (hwf : s.wf = true) :
    (applyPhrase s p f).wf = true := by
  simp (maxDischargeDepth := 30) [applyPhrase, *]

@[simp] theorem settleUnposted_wf (s : State) (p : ℕ) (i : ℕ) (hwf : s.wf = true) :
    (settleUnposted s p i).wf = true := by
  simp only [settleUnposted]
  split <;> simp (maxDischargeDepth := 30) [*]

@[simp] theorem leaveEntry_wf (s : State) (p : ℕ) (hwf : s.wf = true) :
    (leaveEntry s p).wf = true := by
  simp only [leaveEntry]
  split <;> simp (maxDischargeDepth := 30) [*]

@[simp] theorem clauseAct_wf (s : State) (p : ℕ) (hwf : s.wf = true) :
    (clauseAct s p).wf = true := by
  simp only [clauseAct]
  repeat' split
  all_goals simp (maxDischargeDepth := 30) [*]

@[simp] theorem endMask_wf (s : State) (p : ℕ) (hwf : s.wf = true) :
    (endMask s p).wf = true := by
  simp (maxDischargeDepth := 30) [endMask, *]

@[simp] theorem waitBegins_wf (s : State) (p : ℕ) (cond : ℕ) (units : ℕ) (hwf : s.wf = true) :
    (waitBegins s p cond units).wf = true := by
  simp (maxDischargeDepth := 30) [waitBegins, *]

@[simp] theorem clauseRun_wf (s : State) (p : ℕ) (hwf : s.wf = true) :
    (clauseRun s p).wf = true := by
  simp (maxDischargeDepth := 30) [clauseRun, *]

@[simp] theorem drainEvents_wf (s : State) (p : ℕ) (hwf : s.wf = true) :
    (drainEvents s p).wf = true := by
  simp (maxDischargeDepth := 30) [drainEvents, *]

@[simp] theorem fillWriteFifo_wf (s : State) (a : ℕ) (hwf : s.wf = true) :
    (fillWriteFifo s a).wf = true := by
  simp (maxDischargeDepth := 30) [fillWriteFifo, *]

@[simp] theorem clauseStart_wf (s : State) (p : ℕ) (op : ℕ) (phrase : ℕ) (arg : ℕ) (hwf : s.wf = true) :
    (clauseStart s p op phrase arg).wf = true := by
  simp only [clauseStart]
  repeat' split
  all_goals simp (maxDischargeDepth := 30) [*]

theorem execClauseStep_wf (p : Fin 8) (phrase : Fin 1024) (arg : BitVec 16) (s : State) (hwf : s.wf = true) :
    outWf (execClauseStep p phrase arg s) = true := by
  simp (maxDischargeDepth := 30) [execClauseStep, *]

theorem execClauseGoto_wf (p : Fin 8) (phrase : Fin 1024) (arg : BitVec 16) (s : State) (hwf : s.wf = true) :
    outWf (execClauseGoto p phrase arg s) = true := by
  simp (maxDischargeDepth := 30) [execClauseGoto, *]

theorem execClauseCall_wf (p : Fin 8) (phrase : Fin 1024) (arg : BitVec 16) (s : State) (hwf : s.wf = true) :
    outWf (execClauseCall p phrase arg s) = true := by
  simp (maxDischargeDepth := 30) [execClauseCall, *]

theorem execClauseRet_wf (p : Fin 8) (phrase : Fin 1024) (arg : BitVec 16) (s : State) (hwf : s.wf = true) :
    outWf (execClauseRet p phrase arg s) = true := by
  simp (maxDischargeDepth := 30) [execClauseRet, *]

theorem execClauseSetcnt_wf (p : Fin 8) (phrase : Fin 1024) (arg : BitVec 16) (s : State) (hwf : s.wf = true) :
    outWf (execClauseSetcnt p phrase arg s) = true := by
  simp (maxDischargeDepth := 30) [execClauseSetcnt, *]

theorem execClauseLoop_wf (p : Fin 8) (phrase : Fin 1024) (arg : BitVec 16) (s : State) (hwf : s.wf = true) :
    outWf (execClauseLoop p phrase arg s) = true := by
  simp (maxDischargeDepth := 30) [execClauseLoop, *]

theorem execClauseSector_wf (p : Fin 8) (phrase : Fin 1024) (arg : BitVec 16) (s : State) (hwf : s.wf = true) :
    outWf (execClauseSector p phrase arg s) = true := by
  simp (maxDischargeDepth := 30) [execClauseSector, *]

theorem execClauseIfwrite_wf (p : Fin 8) (phrase : Fin 1024) (arg : BitVec 16) (s : State) (hwf : s.wf = true) :
    outWf (execClauseIfwrite p phrase arg s) = true := by
  simp (maxDischargeDepth := 30) [execClauseIfwrite, *]

theorem execClauseIfparity_wf (p : Fin 8) (phrase : Fin 1024) (arg : BitVec 16) (s : State) (hwf : s.wf = true) :
    outWf (execClauseIfparity p phrase arg s) = true := by
  simp (maxDischargeDepth := 30) [execClauseIfparity, *]

theorem execClauseEnd_wf (p : Fin 8) (phrase : Fin 1024) (arg : BitVec 16) (s : State) (hwf : s.wf = true) :
    outWf (execClauseEnd p phrase arg s) = true := by
  simp (maxDischargeDepth := 30) [execClauseEnd, *]

theorem execClauseBad_wf (p : Fin 8) (why : BadClause) (s : State) (hwf : s.wf = true) :
    outWf (execClauseBad p why s) = true := by
  simp (maxDischargeDepth := 30) [execClauseBad, *]

theorem execClauseTimeEnd_wf (p : Fin 8) (s : State) (hwf : s.wf = true) :
    outWf (execClauseTimeEnd p s) = true := by
  simp only [execClauseTimeEnd]
  split <;> simp (maxDischargeDepth := 30) [*]

theorem execClauseWaitMet_wf (p : Fin 8) (wedge : ℕ) (t : ℕ) (s : State) (hwf : s.wf = true) :
    outWf (execClauseWaitMet p wedge t s) = true := by
  simp only [execClauseWaitMet]
  split <;> simp (maxDischargeDepth := 30) [*]

theorem execClauseWaitTimeout_wf (p : Fin 8) (s : State) (hwf : s.wf = true) :
    outWf (execClauseWaitTimeout p s) = true := by
  simp only [execClauseWaitTimeout]
  split <;> simp (maxDischargeDepth := 30) [*]

theorem execPlayerStallEnd_wf (p : Fin 8) (s : State) (hwf : s.wf = true) :
    outWf (execPlayerStallEnd p s) = true := by
  simp (maxDischargeDepth := 30) [execPlayerStallEnd, *]

theorem execWindowEndReached_wf (p : Fin 8) (s : State) (hwf : s.wf = true) :
    outWf (execWindowEndReached p s) = true := by
  simp (maxDischargeDepth := 30) [execWindowEndReached, *]

theorem execPlayerMemoryFault_wf (p : Fin 8) (store : Bool) (s : State) (hwf : s.wf = true) :
    outWf (execPlayerMemoryFault p store s) = true := by
  simp only [execPlayerMemoryFault]
  split <;> simp (maxDischargeDepth := 30) [*]

theorem execSentenceEnd_wf (p : Fin 8) (s : State) (hwf : s.wf = true) :
    outWf (execSentenceEnd p s) = true := by
  simp (maxDischargeDepth := 30) [execSentenceEnd, *]

theorem execSentenceRecordWrite_wf (p : Fin 8) (s : State) (hwf : s.wf = true) :
    outWf (execSentenceRecordWrite p s) = true := by
  simp only [execSentenceRecordWrite]
  split <;> simp (maxDischargeDepth := 30) [*]

@[simp] theorem preambleLoops_wf (a : ℕ) (s : State) (h : Header) (first : Bool) (hwf : s.wf = true) :
    (preambleLoops a s h first).wf = true := by
  simp (maxDischargeDepth := 30) [preambleLoops, *]

@[simp] theorem readOpen_wf (s : State) (p : ℕ) (g : GateEntry) (hwf : s.wf = true) :
    (readOpen s p g).wf = true := by
  simp only [readOpen]
  split <;> simp (maxDischargeDepth := 30) [*]

@[simp] theorem laserDark_wf (s : State) (a : ℕ) (hwf : s.wf = true) :
    (laserDark s a).wf = true := by
  simp (maxDischargeDepth := 30) [laserDark, *]

@[simp] theorem writeOpen_wf (s : State) (p : ℕ) (g : GateEntry) (hwf : s.wf = true) :
    (writeOpen s p g).wf = true := by
  simp only [writeOpen]
  split <;> simp (maxDischargeDepth := 30) [*]

@[simp] theorem writeClose_wf (s : State) (p : ℕ) (w : ℕ) (t : ℕ) (hwf : s.wf = true) :
    (writeClose s p w t).wf = true := by
  simp only [writeClose]
  repeat' split
  all_goals simp (maxDischargeDepth := 30) [*]

@[simp] theorem readClose_wf (s : State) (p : ℕ) (i : ℕ) (hwf : s.wf = true) :
    (readClose s p i).wf = true := by
  simp (maxDischargeDepth := 30) [readClose, *]

@[simp] theorem gateAct_wf (s : State) (p : Nat) (g : GateEntry) (h : s.wf = true) : (gateAct s p g).wf = true := by
  unfold gateAct
  dsimp only
  repeat' first | (simp +contextual (maxDischargeDepth := 30) [*]; done) | split

@[simp] theorem lateGate_wf (s : State) (p : ℕ) (g : GateEntry) (hwf : s.wf = true) :
    (lateGate s p g).wf = true := by
  simp only [lateGate]
  repeat' split
  all_goals simp (maxDischargeDepth := 30) [*]

@[simp] theorem laserLead_wf (s : State) (p : ℕ) (hwf : s.wf = true) :
    (laserLead s p).wf = true := by
  simp only [laserLead]
  split <;> simp (maxDischargeDepth := 30) [*]

theorem execGateEntryExecute_wf (p : Fin 8) (t : ℕ) (adc : List AdcRow) (s : State) (hwf : s.wf = true) :
    outWf (execGateEntryExecute p t adc s) = true := by
  simp only [execGateEntryExecute]
  split <;> simp (maxDischargeDepth := 30) [*]

end Sys2Proof.Machine
end

