-- ==== Sys2Proof/Laws/WfChannel.lean ====
section
/-! SUPPORT. Every operation of Machine/Channel.lean keeps the canonical form of the block's data. -/

namespace Sys2Proof.Machine

theorem execWriteUnsafe_wf (a : Fin 4) (src : WuSource) (t : ℕ) (s : State) (hwf : s.wf = true) :
    outWf (execWriteUnsafe a src t s) = true := by
  simp (maxDischargeDepth := 30) [execWriteUnsafe, *]

theorem execWriteFifoEmpty_wf (a : Fin 4) (s : State) (hwf : s.wf = true) :
    outWf (execWriteFifoEmpty a s) = true := by
  simp (maxDischargeDepth := 30) [execWriteFifoEmpty, *]

@[simp] theorem reportCaptures_wf (s : State) (a : ℕ) (mask : ℕ) (hwf : s.wf = true) :
    (reportCaptures s a mask).wf = true := by
  unfold reportCaptures
  repeat' split
  all_goals simp_all (maxDischargeDepth := 30)

theorem execSampleOverrun_wf (a : Fin 4) (lane : Fin 3) (s : State) (hwf : s.wf = true) :
    outWf (execSampleOverrun a lane s) = true := by
  simp (maxDischargeDepth := 30) [execSampleOverrun, *]

theorem execSynthLock_wf (a : Fin 4) (s : State) (hwf : s.wf = true) :
    outWf (execSynthLock a s) = true := by
  simp (maxDischargeDepth := 30) [execSynthLock, *]

theorem execSynthUnlock_wf (a : Fin 4) (s : State) (hwf : s.wf = true) :
    outWf (execSynthUnlock a s) = true := by
  simp (maxDischargeDepth := 30) [execSynthUnlock, *]

@[simp] theorem detectorFires_wf (s : State) (a : ℕ) (mask : ℕ) (cause : ℕ) (count : ℕ) (firings : ℕ) (hwf : s.wf = true) :
    (detectorFires s a mask cause count firings).wf = true := by
  simp (maxDischargeDepth := 30) [detectorFires, *]

theorem execThermalAsperity_wf (a : Fin 4) (adc : List AdcRow) (s : State) (hwf : s.wf = true) :
    outWf (execThermalAsperity a adc s) = true := by
  simp (maxDischargeDepth := 30) [execThermalAsperity, *]

theorem execDropDetect_wf (a : Fin 4) (adc : List AdcRow) (s : State) (hwf : s.wf = true) :
    outWf (execDropDetect a adc s) = true := by
  simp (maxDischargeDepth := 30) [execDropDetect, *]

theorem execFreezeHangoverEnd_wf (a : Fin 4) (adc : List AdcRow) (s : State) (hwf : s.wf = true) :
    outWf (execFreezeHangoverEnd a adc s) = true := by
  simp (maxDischargeDepth := 30) [execFreezeHangoverEnd, *]

theorem execLongFreeze_wf (a : Fin 4) (adc : List AdcRow) (s : State) (hwf : s.wf = true) :
    outWf (execLongFreeze a adc s) = true := by
  unfold execLongFreeze
  dsimp only
  repeat' split
  all_goals simp_all (maxDischargeDepth := 30)

theorem execSyncWindowEnd_wf (p : Fin 8) (first : Bool) (adc : List AdcRow) (s : State) (hwf : s.wf = true) :
    outWf (execSyncWindowEnd p first adc s) = true := by
  simp only [execSyncWindowEnd]
  split <;> simp (maxDischargeDepth := 30) [*]

theorem execCaptureEnd_wf (p : Fin 8) (adc : List AdcRow) (s : State) (hwf : s.wf = true) :
    outWf (execCaptureEnd p adc s) = true := by
  simp only [execCaptureEnd]
  repeat' split
  all_goals simp (maxDischargeDepth := 30) [*]

theorem execPreampFaultAssert_wf (a : Fin 4) (s : State) (hwf : s.wf = true) :
    outWf (execPreampFaultAssert a s) = true := by
  simp (maxDischargeDepth := 30) [execPreampFaultAssert, *]

theorem execPreampFaultRelease_wf (a : Fin 4) (s : State) (hwf : s.wf = true) :
    outWf (execPreampFaultRelease a s) = true := by
  simp (maxDischargeDepth := 30) [execPreampFaultRelease, *]

@[simp] theorem verifyFail_wf (s : State) (a : ℕ) (hwf : s.wf = true) :
    (verifyFail s a).wf = true := by
  simp (maxDischargeDepth := 30) [verifyFail, *]

@[simp] theorem frameTaken_wf (s : State) (a : ℕ) (f : PreampFrame) (hwf : s.wf = true) :
    (frameTaken s a f).wf = true := by
  simp only [frameTaken]
  split <;> simp (maxDischargeDepth := 30) [*]

@[simp] theorem accessResult_wf (s : State) (a : ℕ) (f : PreampFrame) (readback : ℕ) (hwf : s.wf = true) :
    (accessResult s a f readback).wf = true := by
  simp only [accessResult]
  split <;> simp (maxDischargeDepth := 30) [*]

@[simp] theorem frameDone_wf (s : State) (a : ℕ) (f : PreampFrame) (readback : ℕ) (parityOk : Bool) (hwf : s.wf = true) :
    (frameDone s a f readback parityOk).wf = true := by
  simp only [frameDone]
  repeat' split
  all_goals simp (maxDischargeDepth := 30) [*]

theorem execPreampFrameDone_wf (a : Fin 4) (readback : ℕ) (parityOk : Bool) (s : State) (hwf : s.wf = true) :
    outWf (execPreampFrameDone a readback parityOk s) = true := by
  simp only [execPreampFrameDone]
  split <;> simp (maxDischargeDepth := 30) [*]

theorem execWritePayloadPoisoned_wf (p : Fin 8) (entry : ℕ) (s : State) (hwf : s.wf = true) :
    outWf (execWritePayloadPoisoned p entry s) = true := by
  simp only [execWritePayloadPoisoned]
  repeat' split
  all_goals simp (maxDischargeDepth := 30) [*]

end Sys2Proof.Machine
end

