-- ==== Sys2Proof/Laws/WfDecoder.lean ====
section
/-! SUPPORT. Every operation of Machine/Decoder.lean keeps the canonical form of the block's data. -/

namespace Sys2Proof.Machine

@[simp] theorem releaseHold_wf (s : State) (a : ℕ) (h : ℕ) (hwf : s.wf = true) :
    (releaseHold s a h).wf = true := by
  simp (maxDischargeDepth := 30) [releaseHold, *]

theorem execHoldCopyDone_wf (a : Fin 4) (hold : ℕ) (s : State) (hwf : s.wf = true) :
    outWf (execHoldCopyDone a hold s) = true := by
  simp only [execHoldCopyDone]
  repeat' split
  all_goals simp (maxDischargeDepth := 30) [*]

@[simp] theorem holdSamples_wf (s : State) (j : DecodeJob) (hwf : s.wf = true) :
    (holdSamples s j).1.wf = true := by
  simp only [holdSamples]
  split <;> simp (maxDischargeDepth := 30) [*]

@[simp] theorem noteIterations_wf (s : State) (j : DecodeJob) (hwf : s.wf = true) :
    (noteIterations s j).wf = true := by
  simp (maxDischargeDepth := 30) [noteIterations, *]

@[simp] theorem endOnline_wf (s : State) (j : DecodeJob) (payload : Option (List Byte)) (hwf : s.wf = true) :
    (endOnline s j payload).wf = true := by
  simp only [endOnline]
  repeat' split
  all_goals simp (maxDischargeDepth := 30) [*]

@[simp] theorem endJob_wf (s : State) (j : DecodeJob) (payload : Option (List Byte)) (hwf : s.wf = true) :
    (endJob s j payload).wf = true := by
  simp only [endJob]
  repeat' split
  all_goals simp (maxDischargeDepth := 30) [*]

@[simp] theorem alignmentFails_wf (s : State) (j : DecodeJob) (result : ℕ) (hwf : s.wf = true) :
    (alignmentFails s j result).wf = true := by
  simp (maxDischargeDepth := 30) [alignmentFails, *]

@[simp] theorem freeDetector_wf (s : State) (core : ℕ) (hwf : s.wf = true) :
    (freeDetector s core).wf = true := by
  simp (maxDischargeDepth := 30) [freeDetector, *]

@[simp] theorem freeLdpc_wf (s : State) (core : ℕ) (hwf : s.wf = true) :
    (freeLdpc s core).wf = true := by
  simp (maxDischargeDepth := 30) [freeLdpc, *]

@[simp] theorem countCorrected_wf (s : State) (check : PassCheck) (hwf : s.wf = true) :
    (countCorrected s check).wf = true := by
  simp only [countCorrected]
  split <;> simp (maxDischargeDepth := 30) [*]

@[simp] theorem checkerDisagrees_wf (s : State) (j : DecodeJob) (det : Bool) (core : ℕ) (hwf : s.wf = true) :
    (checkerDisagrees s j det core).wf = true := by
  simp (maxDischargeDepth := 30) [checkerDisagrees, *]

theorem execDetectorPassDone_wf (core : Fin 8) (job : ℕ) (check : PassCheck) (s : State) (hwf : s.wf = true) :
    outWf (execDetectorPassDone core job check s) = true := by
  unfold execDetectorPassDone
  have h : (dispatch s).wf = true := by simp (maxDischargeDepth := 30) [*]
  dsimp only
  generalize dispatch s = t at h ⊢
  split
  · simpa
  · simp (maxDischargeDepth := 30) [*]

@[simp] theorem codewordReached_wf (s : State) (j : DecodeJob) (hard : List Bool) (hwf : s.wf = true) :
    (codewordReached s j hard).wf = true := by
  simp (maxDischargeDepth := 30) [codewordReached, *]

theorem execLdpcIterationDone_wf (core : Fin 12) (job : ℕ) (check : PassCheck) (s : State) (hwf : s.wf = true) :
    outWf (execLdpcIterationDone core job check s) = true := by
  unfold execLdpcIterationDone
  have h : (dispatch s).wf = true := by simp (maxDischargeDepth := 30) [*]
  dsimp only
  generalize dispatch s = t at h ⊢
  split
  · simpa
  · simp (maxDischargeDepth := 30) [*]

theorem execDecodeDeadline_wf (job : ℕ) (s : State) (hwf : s.wf = true) :
    outWf (execDecodeDeadline job s) = true := by
  simp only [execDecodeDeadline]
  split <;> simp (maxDischargeDepth := 30) [*]

@[simp] theorem advanceRing_wf (s : State) (ring : ℕ) (hwf : s.wf = true) :
    (advanceRing s ring).wf = true := by
  simp (maxDischargeDepth := 30) [advanceRing, *]

theorem execLadderDeep_wf (ring : Fin 4) (s : State) (hwf : s.wf = true) :
    outWf (execLadderDeep ring s) = true := by
  simp only [execLadderDeep]
  split <;> simp (maxDischargeDepth := 30) [*]

theorem execLadderAverage_wf (ring : Fin 4) (s : State) (hwf : s.wf = true) :
    outWf (execLadderAverage ring s) = true := by
  simp only [execLadderAverage]
  split <;> simp (maxDischargeDepth := 30) [*]

theorem execLadderReleaseHold_wf (ring : Fin 4) (s : State) (hwf : s.wf = true) :
    outWf (execLadderReleaseHold ring s) = true := by
  unfold execLadderReleaseHold
  repeat' split
  all_goals simp_all (maxDischargeDepth := 30)

theorem execLadderRequestEnd_wf (job : ℕ) (s : State) (hwf : s.wf = true) :
    outWf (execLadderRequestEnd job s) = true := by
  unfold execLadderRequestEnd
  repeat' first | (simp +contextual (maxDischargeDepth := 30) [*]; done) | split

end Sys2Proof.Machine
end

