-- ==== Sys2Proof/Laws/WfHostCore.lean ====
section
/-! SUPPORT. Every operation of Machine/HostCore.lean keeps the canonical form of the block's data. -/

namespace Sys2Proof.Machine

@[simp] theorem State.setHost_wf (s : State) (h : HostIf) (hwf : s.wf = true) :
    (State.setHost s h).wf = true := by
  simp (maxDischargeDepth := 30) [State.setHost, *]

@[simp] theorem putSlot_wf (s : State) (n : ℕ) (c : CmdSlot) (hwf : s.wf = true) :
    (putSlot s n c).wf = true := by
  simp (maxDischargeDepth := 30) [putSlot, *]

@[simp] theorem countSlots_wf (s : State) (hwf : s.wf = true) :
    (countSlots s).wf = true := by
  simp (maxDischargeDepth := 30) [countSlots, *]

@[simp] theorem freeSlot_wf (s : State) (n : ℕ) (hwf : s.wf = true) :
    (freeSlot s n).wf = true := by
  simp (maxDischargeDepth := 30) [freeSlot, *]

@[simp] theorem releaseOne_wf (s : State) (n : ℕ) (hwf : s.wf = true) :
    (releaseOne s n).wf = true := by
  simp only [releaseOne]
  split <;> simp (maxDischargeDepth := 30) [*]

@[simp] theorem signal_wf (s : State) (p : Port) (qid : ℕ) (q : Cq) (hwf : s.wf = true) :
    (signal s p qid q).wf = true := by
  simp only [signal]
  repeat' split
  all_goals simp (maxDischargeDepth := 30) [*]

@[simp] theorem postNow_wf (s : State) (p : Port) (qid : ℕ) (q : Cq) (c : Completion) (hwf : s.wf = true) :
    (postNow s p qid q c).wf = true := by
  simp only [postNow]
  split <;> simp (maxDischargeDepth := 30) [*]

@[simp] theorem postCompletion_wf (s : State) (p : Port) (qid : ℕ) (c : Completion) (hwf : s.wf = true) :
    (postCompletion s p qid c).wf = true := by
  simp only [postCompletion]
  repeat' split
  all_goals simp (maxDischargeDepth := 30) [*]

@[simp] theorem settleLock_wf (fuel : Nat) (s : State) (h : s.wf = true) : (settleLock fuel s).wf = true := by
  induction fuel generalizing s with
  | zero => simpa [settleLock] using h
  | succ n ih =>
    simp only [settleLock]
    repeat' first | (simp +contextual (maxDischargeDepth := 30) [*]; done) | split

@[simp] theorem releaseEntry_wf (s : State) (n : ℕ) (hwf : s.wf = true) :
    (releaseEntry s n).wf = true := by
  simp (maxDischargeDepth := 30) [releaseEntry, *]

@[simp] theorem complete_wf (s : State) (n : ℕ) (sct : ℕ) (sc : ℕ) (dw0 : optParam ℕ 0) (dw1 : optParam ℕ 0) (hwf : s.wf = true) :
    (complete s n sct sc dw0 dw1).wf = true := by
  simp only [complete]
  split <;> simp (maxDischargeDepth := 30) [*]

@[simp] theorem completeWith_wf (s : State) (n : ℕ) (st : ℕ × ℕ) (dw0 : optParam ℕ 0) (dw1 : optParam ℕ 0) (hwf : s.wf = true) :
    (completeWith s n st dw0 dw1).wf = true := by
  simp (maxDischargeDepth := 30) [completeWith, *]

@[simp] theorem giveNotices_wf (fuel : Nat) (s : State) (p : Port) (h : s.wf = true) : (giveNotices fuel s p).wf = true := by
  induction fuel generalizing s with
  | zero => simpa [giveNotices] using h
  | succ n ih =>
    simp only [giveNotices]
    repeat' first | (simp +contextual (maxDischargeDepth := 30) [*]; done) | split

@[simp] theorem asyncNotice_wf (s : State) (page : ℕ) (hwf : s.wf = true) :
    (asyncNotice s page).wf = true := by
  unfold asyncNotice
  repeat' split
  all_goals simp_all (maxDischargeDepth := 30)

@[simp] theorem activationNotice_wf (s : State) (hwf : s.wf = true) :
    (activationNotice s).wf = true := by
  unfold activationNotice
  repeat' split
  all_goals simp_all (maxDischargeDepth := 30)

@[simp] theorem activationResumes_wf (s : State) (hwf : s.wf = true) :
    (activationResumes s).wf = true := by
  unfold activationResumes
  repeat' split
  all_goals simp_all (maxDischargeDepth := 30)

@[simp] theorem finishShutdown_wf (s : State) (hwf : s.wf = true) :
    (finishShutdown s).wf = true := by
  simp (maxDischargeDepth := 30) [finishShutdown, *]

end Sys2Proof.Machine
end

