-- ==== Sys2Proof/Laws/WfLedger.lean ====
section
/-! SUPPORT. Every operation of Machine/Ledger.lean keeps the canonical form of the block's data. -/

namespace Sys2Proof.Machine

@[simp] theorem State.setColl_wf (s : State) (c : Collector) (hwf : s.wf = true) :
    (State.setColl s c).wf = true := by
  simp (maxDischargeDepth := 30) [State.setColl, *]

@[simp] theorem capture_wf (s : State) (r : ℕ) (ev : Event) (hwf : s.wf = true) :
    (capture s r ev).wf = true := by
  simp (maxDischargeDepth := 30) [capture, *]

@[simp] theorem captureAll_wf (s : State) (ev : Event) (hwf : s.wf = true) :
    (captureAll s ev).wf = true := by
  simp (maxDischargeDepth := 30) [captureAll, *]

@[simp] theorem countEvent_wf (s : State) (ev : Event) (hwf : s.wf = true) :
    (countEvent s ev).2.wf = true := by
  simp (maxDischargeDepth := 30) [countEvent, *]

@[simp] theorem countRecords_wf (s : State) (hwf : s.wf = true) :
    (countRecords s).wf = true := by
  simp (maxDischargeDepth := 30) [countRecords, *]

@[simp] theorem recordNotice_wf (s : State) (severity : ℕ) (hwf : s.wf = true) :
    (recordNotice s severity).wf = true := by
  simp (maxDischargeDepth := 30) [recordNotice, *]

@[simp] theorem appendRecord_wf (s : State) (r : Record) (hwf : s.wf = true) :
    (appendRecord s r).wf = true := by
  simp only [appendRecord]
  repeat' split
  all_goals simp (maxDischargeDepth := 30) [*]

@[simp] theorem writeRecord_wf (s : State) (r : Record) (hwf : s.wf = true) :
    (writeRecord s r).wf = true := by
  simp (maxDischargeDepth := 30) [writeRecord, *]

@[simp] theorem zeroDrops_wf (s : State) (hwf : s.wf = true) :
    (zeroDrops s).wf = true := by
  unfold zeroDrops
  repeat' split
  all_goals simp_all (maxDischargeDepth := 30)

@[simp] theorem clearLedger_wf (s : State) (v : ℕ) (port : ℕ) (hwf : s.wf = true) :
    (clearLedger s v port).wf = true := by
  simp (maxDischargeDepth := 30) [clearLedger, *]

@[simp] theorem startMirror_wf (s : State) (hwf : s.wf = true) :
    (startMirror s).wf = true := by
  simp only [startMirror]
  split <;> simp (maxDischargeDepth := 30) [*]

@[simp] theorem restoreLedger_wf (s : State) (hwf : s.wf = true) :
    (restoreLedger s).wf = true := by
  unfold restoreLedger
  repeat' split
  all_goals simp_all (maxDischargeDepth := 30)

end Sys2Proof.Machine
end

