-- ==== Sys2Proof/Laws/WfMainReset.lean ====
section
/-! SUPPORT. Every operation of Machine/MainReset.lean keeps the canonical form of the block's data. -/

namespace Sys2Proof.Machine

@[simp] theorem State.setStart_wf (s : State) (t : Start) (hwf : s.wf = true) :
    (State.setStart s t).wf = true := by
  simp (maxDischargeDepth := 30) [State.setStart, *]

@[simp] theorem State.setPower_wf (s : State) (p : Power) (hwf : s.wf = true) :
    (State.setPower s p).wf = true := by
  simp (maxDischargeDepth := 30) [State.setPower, *]

@[simp] theorem State.setMem_wf (s : State) (m : Memory) (hwf : s.wf = true) (hwf2 : m.wf = true) :
    (State.setMem s m).wf = true := by
  simp (maxDischargeDepth := 30) [State.setMem, *]

@[simp] theorem State.setLayout_wf (s : State) (l : Layout) (hwf : s.wf = true) :
    (State.setLayout s l).wf = true := by
  simp (maxDischargeDepth := 30) [State.setLayout, *]

@[simp] theorem State.setFw_wf (s : State) (f : Firmware) (hwf : s.wf = true) :
    (State.setFw s f).wf = true := by
  simp (maxDischargeDepth := 30) [State.setFw, *]

@[simp] theorem State.setMedia_wf (s : State) (m : Media) (hwf : s.wf = true) :
    (State.setMedia s m).wf = true := by
  simp (maxDischargeDepth := 30) [State.setMedia, *]

@[simp] theorem freshSequence_wf (s : State) (hwf : s.wf = true) :
    (freshSequence s).wf = true := by
  simp only [freshSequence]
  refine State.each_wf ?_ fun t x h => ?_
  · simp (maxDischargeDepth := 30) [*]
  · simp [h]

@[simp] theorem mainReset_wf (s : State) (h : s.wf = true) : (mainReset s).wf = true := by
  unfold mainReset
  rw [State.wf_mk, Memory.wf_mk, SMap.wf_filter (State.wf_objs h), Memory.wf_dram (State.wf_mem h)]
  rfl

@[simp] theorem faultOut_wf (s : State) (hwf : s.wf = true) :
    (faultOut s).wf = true := by
  simp (maxDischargeDepth := 30) [faultOut, *]

@[simp] theorem setDegraded_wf (s : State) (i : ℕ) (b : Bool) (hwf : s.wf = true) :
    (setDegraded s i b).wf = true := by
  simp (maxDischargeDepth := 30) [setDegraded, *]

@[simp] theorem setControl_wf (s : State) (active : ℕ) (pending : ℕ) (hwf : s.wf = true) :
    (setControl s active pending).wf = true := by
  simp (maxDischargeDepth := 30) [setControl, *]

@[simp] theorem pendingFails_wf (s : State) (step : ℕ) (hwf : s.wf = true) :
    (pendingFails s step).wf = true := by
  simp (maxDischargeDepth := 30) [pendingFails, *]

@[simp] theorem modRecord_wf (s : State) (f : StartRecord → StartRecord) (hwf : s.wf = true) :
    (modRecord s f).wf = true := by
  simp only [modRecord]
  split <;> simp (maxDischargeDepth := 30) [*]

@[simp] theorem stepResult_wf (s : State) (step : ℕ) (code : ℕ) (hwf : s.wf = true) :
    (stepResult s step code).wf = true := by
  simp (maxDischargeDepth := 30) [stepResult, *]

@[simp] theorem sealRecord_wf (s : State) (endCode : ℕ) (failedStep : ℕ) (detail : ℕ) (hwf : s.wf = true) :
    (sealRecord s endCode failedStep detail).wf = true := by
  simp (maxDischargeDepth := 30) [sealRecord, *]

end Sys2Proof.Machine
end

