-- ==== Sys2Proof/Laws/WfDrive.lean ====
section
/-! SUPPORT. Every operation of Machine/Drive.lean keeps the canonical form of the block's data. -/

namespace Sys2Proof.Machine

@[simp] theorem State.setMotion_wf (s : State) (m : Motion) (hwf : s.wf = true) :
    (State.setMotion s m).wf = true := by
  simp (maxDischargeDepth := 30) [State.setMotion, *]

@[simp] theorem retract_wf (s : State) (a : ℕ) (hwf : s.wf = true) :
    (retract s a).wf = true := by
  simp (maxDischargeDepth := 30) [retract, *]

@[simp] theorem retractLoaded_wf (s : State) (hwf : s.wf = true) :
    (retractLoaded s).wf = true := by
  unfold retractLoaded
  repeat' split
  all_goals simp_all (maxDischargeDepth := 30)

@[simp] theorem driveFault_wf (s : State) (a : ℕ) (i : ℕ) (hwf : s.wf = true) :
    (driveFault s a i).wf = true := by
  simp (maxDischargeDepth := 30) [driveFault, *]

@[simp] theorem showStatus_wf (s : State) (hwf : s.wf = true) :
    (showStatus s).wf = true := by
  simp (maxDischargeDepth := 30) [showStatus, *]

@[simp] theorem spinTo_wf (s : State) (mode : ℕ) (hwf : s.wf = true) :
    (spinTo s mode).wf = true := by
  simp (maxDischargeDepth := 30) [spinTo, *]

@[simp] theorem spinHold_wf (s : State) (hwf : s.wf = true) :
    (spinHold s).wf = true := by
  simp (maxDischargeDepth := 30) [spinHold, *]

@[simp] theorem spinRein_wf (s : State) (hwf : s.wf = true) :
    (spinRein s).wf = true := by
  simp (maxDischargeDepth := 30) [spinRein, *]

@[simp] theorem spinCancel_wf (s : State) (hwf : s.wf = true) :
    (spinCancel s).wf = true := by
  simp (maxDischargeDepth := 30) [spinCancel, *]

@[simp] theorem spinStop_wf (s : State) (hwf : s.wf = true) :
    (spinStop s).wf = true := by
  simp (maxDischargeDepth := 30) [spinStop, *]

@[simp] theorem surfaceTo_wf (s : State) (u : ℕ) (st : ℕ) (hwf : s.wf = true) :
    (surfaceTo s u st).wf = true := by
  simp (maxDischargeDepth := 30) [surfaceTo, *]

@[simp] theorem surfacesFail_wf (s : State) (a : ℕ) (hwf : s.wf = true) :
    (surfacesFail s a).wf = true := by
  unfold surfacesFail
  repeat' split
  all_goals simp_all (maxDischargeDepth := 30)

@[simp] theorem surfacesGood_wf (s : State) (a : ℕ) (hwf : s.wf = true) :
    (surfacesGood s a).wf = true := by
  unfold surfacesGood
  repeat' split
  all_goals simp_all (maxDischargeDepth := 30)

@[simp] theorem followPlayers_wf (s : State) (a : ℕ) (hwf : s.wf = true) :
    (followPlayers s a).wf = true := by
  unfold followPlayers
  repeat' split
  all_goals simp_all (maxDischargeDepth := 30)

@[simp] theorem setActuator_wf (s : State) (a : ℕ) (st : ℕ) (hwf : s.wf = true) :
    (setActuator s a st).wf = true := by
  simp (maxDischargeDepth := 30) [setActuator, *]

@[simp] theorem markFenced_wf (s : State) (a : ℕ) (hwf : s.wf = true) :
    (markFenced s a).wf = true := by
  simp (maxDischargeDepth := 30) [markFenced, *]

@[simp] theorem fenceActuator_wf (s : State) (a : ℕ) (o : Outcome) (hwf : s.wf = true) :
    (fenceActuator s a o).wf = true := by
  simp (maxDischargeDepth := 30) [fenceActuator, *]

@[simp] theorem fenceAborting_wf (s : State) (a : ℕ) (hwf : s.wf = true) :
    (fenceAborting s a).wf = true := by
  simp (maxDischargeDepth := 30) [fenceAborting, *]

@[simp] theorem parkActuator_wf (s : State) (a : ℕ) (hwf : s.wf = true) :
    (parkActuator s a).wf = true := by
  simp (maxDischargeDepth := 30) [parkActuator, *]

@[simp] theorem preampSwitch_wf (s : State) (a : ℕ) (on : Bool) (hwf : s.wf = true) :
    (preampSwitch s a on).wf = true := by
  simp (maxDischargeDepth := 30) [preampSwitch, *]

@[simp] theorem preampFaulted_wf (s : State) (a : ℕ) (hwf : s.wf = true) :
    (preampFaulted s a).wf = true := by
  simp (maxDischargeDepth := 30) [preampFaulted, *]

theorem execPreampFaultPersist_wf (a : Fin 4) (s : State) (hwf : s.wf = true) :
    outWf (execPreampFaultPersist a s) = true := by
  simp (maxDischargeDepth := 30) [execPreampFaultPersist, *]

theorem execV3p3Overcurrent_wf (a : Fin 4) (s : State) (hwf : s.wf = true) :
    outWf (execV3p3Overcurrent a s) = true := by
  simp (maxDischargeDepth := 30) [execV3p3Overcurrent, *]

@[simp] theorem heaterZero_wf (s : State) (a : ℕ) (hwf : s.wf = true) :
    (heaterZero s a).wf = true := by
  simp (maxDischargeDepth := 30) [heaterZero, *]

@[simp] theorem gatesOff_wf (s : State) (hwf : s.wf = true) :
    (gatesOff s).wf = true := by
  unfold gatesOff
  repeat' split
  all_goals simp_all (maxDischargeDepth := 30)

@[simp] theorem sendResetNotice_wf (s : State) (hwf : s.wf = true) :
    (sendResetNotice s).wf = true := by
  simp (maxDischargeDepth := 30) [sendResetNotice, *]

@[simp] theorem endAttempt_wf (s : State) (stopSpindle : Bool) (hwf : s.wf = true) :
    (endAttempt s stopSpindle).wf = true := by
  unfold endAttempt
  repeat' split
  all_goals simp_all (maxDischargeDepth := 30)

@[simp] theorem halt_wf (s : State) (hwf : s.wf = true) :
    (halt s).wf = true := by
  simp (maxDischargeDepth := 30) [halt, *]

@[simp] theorem romMaintenance_wf (s : State) (hwf : s.wf = true) :
    (romMaintenance s).wf = true := by
  simp (maxDischargeDepth := 30) [romMaintenance, *]

@[simp] theorem holdRaised_wf (s : State) (ev : List Event) (hwf : s.wf = true) :
    (holdRaised s ev).wf = true := by
  simp (maxDischargeDepth := 30) [holdRaised, *]

@[simp] theorem maintenanceEntry_wf (s : State) (hwf : s.wf = true) :
    (maintenanceEntry s).wf = true := by
  unfold maintenanceEntry
  repeat' split
  all_goals simp_all (maxDischargeDepth := 30)

@[simp] theorem failAttempt_wf (s : State) (code : ℕ) (detail : ℕ) (deadline : optParam Bool false) (hwf : s.wf = true) :
    (failAttempt s code detail deadline).wf = true := by
  simp (maxDischargeDepth := 30) [failAttempt, *]

@[simp] theorem safeEntry_wf (s : State) (cause : ℕ) (hwf : s.wf = true) :
    (safeEntry s cause).wf = true := by
  unfold safeEntry
  repeat' split
  all_goals simp_all (maxDischargeDepth := 30)

@[simp] theorem plainRecord_wf (s : State) (ev : Event) (r : ℕ × Bool) (action : ℕ) (hwf : s.wf = true) :
    (plainRecord s ev r action).wf = true := by
  simp (maxDischargeDepth := 30) [plainRecord, *]

@[simp] theorem safeBy_wf (s : State) (ev : Event) (hwf : s.wf = true) :
    (safeBy s ev).wf = true := by
  simp (maxDischargeDepth := 30) [safeBy, *]

end Sys2Proof.Machine
end

