-- ==== Sys2Proof/Laws/WfReinEngine.lean ====
section
/-! SUPPORT. Every operation of Machine/ReinEngine.lean keeps the canonical form of the block's data. -/

namespace Sys2Proof.Machine

@[simp] theorem setEngState_wf (s : State) (e : ℕ) (st : ℕ) (hwf : s.wf = true) :
    (setEngState s e st).wf = true := by
  simp (maxDischargeDepth := 30) [setEngState, *]

@[simp] theorem setEngRole_wf (s : State) (e : ℕ) (r : ℕ) (hwf : s.wf = true) :
    (setEngRole s e r).wf = true := by
  simp (maxDischargeDepth := 30) [setEngRole, *]

@[simp] theorem regroup_wf (s : State) (g : ℕ) (hwf : s.wf = true) :
    (regroup s g).wf = true := by
  simp (maxDischargeDepth := 30) [regroup, *]

@[simp] theorem State.setBlob_wf (s : State) (k : Key) (b : List Byte) (hwf : s.wf = true) :
    (State.setBlob s k b).wf = true := by
  simp (maxDischargeDepth := 30) [State.setBlob, *]

@[simp] theorem loadProgram_wf (s : State) (e : ℕ) (hwf : s.wf = true) :
    (loadProgram s e).wf = true := by
  simp only [loadProgram]
  split <;> simp (maxDischargeDepth := 30) [*]

@[simp] theorem loadInitial_wf (s : State) (e : ℕ) (hwf : s.wf = true) :
    (loadInitial s e).wf = true := by
  simp only [loadInitial]
  split <;> simp (maxDischargeDepth := 30) [*]

@[simp] theorem queueCoefs_wf (s : State) (g : ℕ) (l : List (ℕ × Coef)) (hwf : s.wf = true) :
    (queueCoefs s g l).wf = true := by
  unfold queueCoefs
  repeat' split
  all_goals simp_all (maxDischargeDepth := 30)

@[simp] theorem takeoverRoles_wf (s : State) (g : ℕ) (e : ℕ) (hwf : s.wf = true) :
    (takeoverRoles s g e).wf = true := by
  unfold takeoverRoles
  repeat' split
  all_goals simp_all (maxDischargeDepth := 30)

@[simp] theorem traceEvent_wf (s : State) (a : ℕ) (i : ℕ) (hwf : s.wf = true) :
    (traceEvent s a i).wf = true := by
  simp (maxDischargeDepth := 30) [traceEvent, *]

@[simp] theorem engineOut_wf (s : State) (e : ℕ) (hwf : s.wf = true) :
    (engineOut s e).wf = true := by
  simp (maxDischargeDepth := 30) [engineOut, *]

@[simp] theorem fenceEngine_wf (s : State) (e : ℕ) (hwf : s.wf = true) :
    (fenceEngine s e).wf = true := by
  simp (maxDischargeDepth := 30) [fenceEngine, *]

@[simp] theorem holdMissed_wf (s : State) (g : ℕ) (hwf : s.wf = true) :
    (holdMissed s g).wf = true := by
  simp (maxDischargeDepth := 30) [holdMissed, *]

@[simp] theorem parkGroup_wf (s : State) (g : ℕ) (hwf : s.wf = true) :
    (parkGroup s g).wf = true := by
  simp (maxDischargeDepth := 30) [parkGroup, *]

@[simp] theorem parkIfAlone_wf (s : State) (g : ℕ) (hwf : s.wf = true) :
    (parkIfAlone s g).wf = true := by
  simp (maxDischargeDepth := 30) [parkIfAlone, *]

@[simp] theorem startRun_wf (s : State) (e : ℕ) (entry : ℕ) (inputs : SMap Word32) (rerun : Bool) (hwf : s.wf = true) :
    (startRun s e entry inputs rerun).wf = true := by
  simp (maxDischargeDepth := 30) [startRun, *]

@[simp] theorem joinRegisters_wf (s : State) (g : ℕ) (active : ℕ) (hwf : s.wf = true) :
    (joinRegisters s g active).wf = true := by
  unfold joinRegisters
  repeat' split
  all_goals simp_all (maxDischargeDepth := 30)

@[simp] theorem takeCheckpoint_wf (s : State) (e : ℕ) (hwf : s.wf = true) :
    (takeCheckpoint s e).wf = true := by
  simp (maxDischargeDepth := 30) [takeCheckpoint, *]

@[simp] theorem serveTrigger_wf (s : State) (e : ℕ) (entry : ℕ) (inputs : SMap Word32) (hwf : s.wf = true) :
    (serveTrigger s e entry inputs).wf = true := by
  unfold serveTrigger
  repeat' split
  all_goals simp_all (maxDischargeDepth := 30)

@[simp] theorem triggerEngine_wf (s : State) (e : ℕ) (entry : ℕ) (inputs : SMap Word32) (hwf : s.wf = true) :
    (triggerEngine s e entry inputs).wf = true := by
  simp only [triggerEngine]
  repeat' split
  all_goals simp (maxDischargeDepth := 30) [*]

@[simp] theorem afterRun_wf (s : State) (e : ℕ) (hwf : s.wf = true) :
    (afterRun s e).wf = true := by
  simp only [afterRun]
  repeat' split
  all_goals simp (maxDischargeDepth := 30) [*]

@[simp] theorem countSat_wf (s : State) (e : ℕ) (hwf : s.wf = true) :
    (countSat s e).wf = true := by
  simp only [countSat]
  split <;> simp (maxDischargeDepth := 30) [*]

@[simp] theorem deliver_wf (s : State) (e : ℕ) (r : Run) (hwf : s.wf = true) :
    (deliver s e r).wf = true := by
  simp (maxDischargeDepth := 30) [deliver, *]

@[simp] theorem stopRun_wf (s : State) (e : ℕ) (why : ℕ) (hwf : s.wf = true) :
    (stopRun s e why).wf = true := by
  simp only [stopRun]
  split <;> simp (maxDischargeDepth := 30) [*]

@[simp] theorem actuatorInputs_wf (s : State) (a : ℕ) (hwf : s.wf = true) :
    (actuatorInputs s a).2.wf = true := by
  simp (maxDischargeDepth := 30) [actuatorInputs, *]

@[simp] theorem spindleInputs_wf (s : State) (hwf : s.wf = true) :
    (spindleInputs s).2.wf = true := by
  simp (maxDischargeDepth := 30) [spindleInputs, *]

@[simp] theorem groupInputs_wf (s : State) (g : ℕ) (hwf : s.wf = true) :
    (groupInputs s g).2.wf = true := by
  simp only [groupInputs]
  split <;> simp (maxDischargeDepth := 30) [*]

@[simp] theorem traceSample_wf (s : State) (a : ℕ) (inner : Bool) (hwf : s.wf = true) :
    (traceSample s a inner).wf = true := by
  simp (maxDischargeDepth := 30) [traceSample, *]

@[simp] theorem holdPosition_wf (s : State) (g : ℕ) (entry : ℕ) (hwf : s.wf = true) :
    (holdPosition s g entry).wf = true := by
  simp (maxDischargeDepth := 30) [holdPosition, *]

@[simp] theorem missLatch_wf (s : State) (g : ℕ) (entry : ℕ) (hwf : s.wf = true) :
    (missLatch s g entry).wf = true := by
  simp (maxDischargeDepth := 30) [missLatch, *]

@[simp] theorem lostRun_wf (s : State) (g : ℕ) (entry : ℕ) (hwf : s.wf = true) :
    (lostRun s g entry).wf = true := by
  simp (maxDischargeDepth := 30) [lostRun, *]

@[simp] theorem takeOffset_wf (s : State) (g : ℕ) (entry : ℕ) (hwf : s.wf = true) :
    (takeOffset s g entry).wf = true := by
  simp only [takeOffset]
  split <;> simp (maxDischargeDepth := 30) [*]

@[simp] theorem groupTrigger_wf (s : State) (g : ℕ) (entry : ℕ) (hwf : s.wf = true) :
    (groupTrigger s g entry).wf = true := by
  unfold groupTrigger
  repeat' split
  all_goals simp_all (maxDischargeDepth := 30)

end Sys2Proof.Machine
end

