-- ==== Sys2Proof/Laws/WfReinAlu.lean ====
section
/-! SUPPORT. Every operation of Machine/ReinAlu.lean keeps the canonical form of the block's data. -/

namespace Sys2Proof.Machine

@[simp] theorem reinStep_wf (e : Fin 16) (w : ℕ) (f : Engine → Engine) (s : State) (hwf : s.wf = true) :
    (reinStep e w f s).wf = true := by
  simp only [reinStep]
  split <;> simp (maxDischargeDepth := 30) [*]

@[simp] theorem reinCtx_wf (e : Fin 16) (w : ℕ) (f : Context → Context) (s : State) (hwf : s.wf = true) :
    outWf (reinCtx e w f s) = true := by
  simp (maxDischargeDepth := 30) [reinCtx, *]

@[simp] theorem reinFault_wf (e : Fin 16) (w : ℕ) (s : State) (hwf : s.wf = true) :
    outWf (reinFault e w s) = true := by
  simp (maxDischargeDepth := 30) [reinFault, *]

theorem execReinNop_wf (e : Fin 16) (s : State) (hwf : s.wf = true) :
    outWf (execReinNop e s) = true := by
  simp (maxDischargeDepth := 30) [execReinNop, *]

theorem execReinAdd_wf (e : Fin 16) (rd : Fin 16) (ra : Fin 16) (rb : Fin 16) (s : State) (hwf : s.wf = true) :
    outWf (execReinAdd e rd ra rb s) = true := by
  simp (maxDischargeDepth := 30) [execReinAdd, *]

theorem execReinSub_wf (e : Fin 16) (rd : Fin 16) (ra : Fin 16) (rb : Fin 16) (s : State) (hwf : s.wf = true) :
    outWf (execReinSub e rd ra rb s) = true := by
  simp (maxDischargeDepth := 30) [execReinSub, *]

theorem execReinAddw_wf (e : Fin 16) (rd : Fin 16) (ra : Fin 16) (rb : Fin 16) (s : State) (hwf : s.wf = true) :
    outWf (execReinAddw e rd ra rb s) = true := by
  simp (maxDischargeDepth := 30) [execReinAddw, *]

theorem execReinSubw_wf (e : Fin 16) (rd : Fin 16) (ra : Fin 16) (rb : Fin 16) (s : State) (hwf : s.wf = true) :
    outWf (execReinSubw e rd ra rb s) = true := by
  simp (maxDischargeDepth := 30) [execReinSubw, *]

theorem execReinAnd_wf (e : Fin 16) (rd : Fin 16) (ra : Fin 16) (rb : Fin 16) (s : State) (hwf : s.wf = true) :
    outWf (execReinAnd e rd ra rb s) = true := by
  simp (maxDischargeDepth := 30) [execReinAnd, *]

theorem execReinOr_wf (e : Fin 16) (rd : Fin 16) (ra : Fin 16) (rb : Fin 16) (s : State) (hwf : s.wf = true) :
    outWf (execReinOr e rd ra rb s) = true := by
  simp (maxDischargeDepth := 30) [execReinOr, *]

theorem execReinXor_wf (e : Fin 16) (rd : Fin 16) (ra : Fin 16) (rb : Fin 16) (s : State) (hwf : s.wf = true) :
    outWf (execReinXor e rd ra rb s) = true := by
  simp (maxDischargeDepth := 30) [execReinXor, *]

theorem execReinMin_wf (e : Fin 16) (rd : Fin 16) (ra : Fin 16) (rb : Fin 16) (s : State) (hwf : s.wf = true) :
    outWf (execReinMin e rd ra rb s) = true := by
  simp (maxDischargeDepth := 30) [execReinMin, *]

theorem execReinMax_wf (e : Fin 16) (rd : Fin 16) (ra : Fin 16) (rb : Fin 16) (s : State) (hwf : s.wf = true) :
    outWf (execReinMax e rd ra rb s) = true := by
  simp (maxDischargeDepth := 30) [execReinMax, *]

theorem execReinAbs_wf (e : Fin 16) (rd : Fin 16) (ra : Fin 16) (s : State) (hwf : s.wf = true) :
    outWf (execReinAbs e rd ra s) = true := by
  simp (maxDischargeDepth := 30) [execReinAbs, *]

theorem execReinNeg_wf (e : Fin 16) (rd : Fin 16) (ra : Fin 16) (s : State) (hwf : s.wf = true) :
    outWf (execReinNeg e rd ra s) = true := by
  simp (maxDischargeDepth := 30) [execReinNeg, *]

theorem execReinShl_wf (e : Fin 16) (rd : Fin 16) (ra : Fin 16) (imm : BitVec 16) (s : State) (hwf : s.wf = true) :
    outWf (execReinShl e rd ra imm s) = true := by
  simp (maxDischargeDepth := 30) [execReinShl, *]

theorem execReinShr_wf (e : Fin 16) (rd : Fin 16) (ra : Fin 16) (imm : BitVec 16) (s : State) (hwf : s.wf = true) :
    outWf (execReinShr e rd ra imm s) = true := by
  simp (maxDischargeDepth := 30) [execReinShr, *]

theorem execReinShrl_wf (e : Fin 16) (rd : Fin 16) (ra : Fin 16) (imm : BitVec 16) (s : State) (hwf : s.wf = true) :
    outWf (execReinShrl e rd ra imm s) = true := by
  simp (maxDischargeDepth := 30) [execReinShrl, *]

theorem execReinLi_wf (e : Fin 16) (rd : Fin 16) (imm : BitVec 16) (s : State) (hwf : s.wf = true) :
    outWf (execReinLi e rd imm s) = true := by
  simp (maxDischargeDepth := 30) [execReinLi, *]

theorem execReinLui_wf (e : Fin 16) (rd : Fin 16) (imm : BitVec 16) (s : State) (hwf : s.wf = true) :
    outWf (execReinLui e rd imm s) = true := by
  simp (maxDischargeDepth := 30) [execReinLui, *]

theorem execReinAddi_wf (e : Fin 16) (rd : Fin 16) (ra : Fin 16) (imm : BitVec 16) (s : State) (hwf : s.wf = true) :
    outWf (execReinAddi e rd ra imm s) = true := by
  simp (maxDischargeDepth := 30) [execReinAddi, *]

theorem execReinLd_wf (e : Fin 16) (rd : Fin 16) (ra : Fin 16) (imm : BitVec 16) (s : State) (hwf : s.wf = true) :
    outWf (execReinLd e rd ra imm s) = true := by
  simp (maxDischargeDepth := 30) [execReinLd, *]

theorem execReinSt_wf (e : Fin 16) (rs : Fin 16) (ra : Fin 16) (imm : BitVec 16) (s : State) (hwf : s.wf = true) :
    outWf (execReinSt e rs ra imm s) = true := by
  simp (maxDischargeDepth := 30) [execReinSt, *]

theorem execReinIn_wf (e : Fin 16) (rd : Fin 16) (port : BitVec 8) (s : State) (hwf : s.wf = true) :
    outWf (execReinIn e rd port s) = true := by
  simp (maxDischargeDepth := 30) [execReinIn, *]

theorem execReinOut_wf (e : Fin 16) (rs : Fin 16) (port : BitVec 8) (s : State) (hwf : s.wf = true) :
    outWf (execReinOut e rs port s) = true := by
  simp (maxDischargeDepth := 30) [execReinOut, *]

theorem execReinSetcb_wf (e : Fin 16) (imm : BitVec 16) (s : State) (hwf : s.wf = true) :
    outWf (execReinSetcb e imm s) = true := by
  simp (maxDischargeDepth := 30) [execReinSetcb, *]

theorem execReinMul_wf (e : Fin 16) (acc : Bool) (ra : Fin 16) (caddr : BitVec 10) (s : State) (hwf : s.wf = true) :
    outWf (execReinMul e acc ra caddr s) = true := by
  simp (maxDischargeDepth := 30) [execReinMul, *]

theorem execReinMac_wf (e : Fin 16) (acc : Bool) (ra : Fin 16) (caddr : BitVec 10) (s : State) (hwf : s.wf = true) :
    outWf (execReinMac e acc ra caddr s) = true := by
  simp (maxDischargeDepth := 30) [execReinMac, *]

theorem execReinMsu_wf (e : Fin 16) (acc : Bool) (ra : Fin 16) (caddr : BitVec 10) (s : State) (hwf : s.wf = true) :
    outWf (execReinMsu e acc ra caddr s) = true := by
  simp (maxDischargeDepth := 30) [execReinMsu, *]

theorem execReinClra_wf (e : Fin 16) (acc : Bool) (s : State) (hwf : s.wf = true) :
    outWf (execReinClra e acc s) = true := by
  simp (maxDischargeDepth := 30) [execReinClra, *]

theorem execReinLda_wf (e : Fin 16) (acc : Bool) (ra : Fin 16) (s : State) (hwf : s.wf = true) :
    outWf (execReinLda e acc ra s) = true := by
  simp (maxDischargeDepth := 30) [execReinLda, *]

theorem execReinRnd_wf (e : Fin 16) (rd : Fin 16) (acc : Bool) (mode : BitVec 2) (l : BitVec 4) (s : State) (hwf : s.wf = true) :
    outWf (execReinRnd e rd acc mode l s) = true := by
  simp (maxDischargeDepth := 30) [execReinRnd, *]

theorem execReinB_wf (e : Fin 16) (target : BitVec 11) (s : State) (hwf : s.wf = true) :
    outWf (execReinB e target s) = true := by
  simp (maxDischargeDepth := 30) [execReinB, *]

theorem execReinBz_wf (e : Fin 16) (ra : Fin 16) (target : BitVec 11) (s : State) (hwf : s.wf = true) :
    outWf (execReinBz e ra target s) = true := by
  simp (maxDischargeDepth := 30) [execReinBz, *]

theorem execReinBnz_wf (e : Fin 16) (ra : Fin 16) (target : BitVec 11) (s : State) (hwf : s.wf = true) :
    outWf (execReinBnz e ra target s) = true := by
  simp (maxDischargeDepth := 30) [execReinBnz, *]

theorem execReinBlt_wf (e : Fin 16) (ra : Fin 16) (target : BitVec 11) (s : State) (hwf : s.wf = true) :
    outWf (execReinBlt e ra target s) = true := by
  simp (maxDischargeDepth := 30) [execReinBlt, *]

theorem execReinBge_wf (e : Fin 16) (ra : Fin 16) (target : BitVec 11) (s : State) (hwf : s.wf = true) :
    outWf (execReinBge e ra target s) = true := by
  simp (maxDischargeDepth := 30) [execReinBge, *]

theorem execReinDbnz_wf (e : Fin 16) (ra : Fin 16) (target : BitVec 11) (s : State) (hwf : s.wf = true) :
    outWf (execReinDbnz e ra target s) = true := by
  simp (maxDischargeDepth := 30) [execReinDbnz, *]

theorem execReinCall_wf (e : Fin 16) (target : BitVec 11) (s : State) (hwf : s.wf = true) :
    outWf (execReinCall e target s) = true := by
  simp (maxDischargeDepth := 30) [execReinCall, *]

theorem execReinRet_wf (e : Fin 16) (s : State) (hwf : s.wf = true) :
    outWf (execReinRet e s) = true := by
  simp only [execReinRet]
  split <;> simp (maxDischargeDepth := 30) [*]

theorem execReinDone_wf (e : Fin 16) (s : State) (hwf : s.wf = true) :
    outWf (execReinDone e s) = true := by
  simp only [execReinDone]
  split <;> simp (maxDischargeDepth := 30) [*]

theorem execReinProgramFault_wf (e : Fin 16) (s : State) (hwf : s.wf = true) :
    outWf (execReinProgramFault e s) = true := by
  simp (maxDischargeDepth := 30) [execReinProgramFault, *]

theorem execReinBudgetStop_wf (e : Fin 16) (s : State) (hwf : s.wf = true) :
    outWf (execReinBudgetStop e s) = true := by
  simp only [execReinBudgetStop]
  split <;> simp (maxDischargeDepth := 30) [*]

end Sys2Proof.Machine
end

