-- ==== Sys2Proof/Laws/WfReinGroup.lean ====
section
/-! SUPPORT. Every operation of Machine/ReinGroup.lean keeps the canonical form of the block's data. -/

namespace Sys2Proof.Machine

@[simp] theorem clearDelivered_wf (s : State) (g : ℕ) (entry : ℕ) (hwf : s.wf = true) :
    (clearDelivered s g entry).wf = true := by
  unfold clearDelivered
  repeat' split
  all_goals simp_all (maxDischargeDepth := 30)

@[simp] theorem rollBack_wf (s : State) (g : ℕ) (e : ℕ) (hwf : s.wf = true) :
    (rollBack s g e).wf = true := by
  simp only [rollBack]
  repeat' split
  all_goals simp (maxDischargeDepth := 30) [*]

@[simp] theorem pairHold_wf (s : State) (g : ℕ) (entry : ℕ) (voters : List ℕ) (hwf : s.wf = true) :
    (pairHold s g entry voters).wf = true := by
  unfold pairHold
  repeat' split
  all_goals simp_all (maxDischargeDepth := 30)

@[simp] theorem probationCompare_wf (s : State) (g : ℕ) (entry : ℕ) (set : SMap Word32) (hwf : s.wf = true) :
    (probationCompare s g entry set).wf = true := by
  unfold probationCompare
  repeat' split
  all_goals simp_all (maxDischargeDepth := 30)

@[simp] theorem agree_wf (s : State) (g : ℕ) (entry : ℕ) (set : SMap Word32) (hwf : s.wf = true) :
    (agree s g entry set).wf = true := by
  simp (maxDischargeDepth := 30) [agree, *]

theorem execReinCompare_wf (g : Fin 5) (entry : Fin 3) (s : State) (hwf : s.wf = true) :
    outWf (execReinCompare g entry s) = true := by
  unfold execReinCompare
  dsimp only
  repeat' split
  all_goals rw [outWf_next]
  all_goals simp +contextual (maxDischargeDepth := 30) [hwf]

theorem execPairHoldRerunEnd_wf (g : Fin 5) (s : State) (hwf : s.wf = true) :
    outWf (execPairHoldRerunEnd g s) = true := by
  unfold execPairHoldRerunEnd
  dsimp only
  split
  · exact hwf
  repeat' split
  all_goals rw [outWf_next]
  all_goals simp +contextual (maxDischargeDepth := 30) [hwf]

@[simp] theorem setPointFrame_wf (s : State) (a : ℕ) (reg : ℕ) (v : ℕ) (hwf : s.wf = true) :
    (setPointFrame s a reg v).wf = true := by
  simp (maxDischargeDepth := 30) [setPointFrame, *]

@[simp] theorem sendSetPoints_wf (s : State) (a : ℕ) (hwf : s.wf = true) :
    (sendSetPoints s a).wf = true := by
  simp (maxDischargeDepth := 30) [sendSetPoints, *]

@[simp] theorem latchEffects_wf (s : State) (g : ℕ) (entry : ℕ) (hwf : s.wf = true) :
    (latchEffects s g entry).wf = true := by
  simp only [latchEffects]
  repeat' split
  all_goals simp (maxDischargeDepth := 30) [*]

theorem execReinLatch_wf (g : Fin 5) (entry : Fin 3) (s : State) (hwf : s.wf = true) :
    outWf (execReinLatch g entry s) = true := by
  simp only [execReinLatch]
  split <;> simp (maxDischargeDepth := 30) [*]

theorem execEngineReloadDone_wf (e : Fin 16) (s : State) (hwf : s.wf = true) :
    outWf (execEngineReloadDone e s) = true := by
  simp (maxDischargeDepth := 30) [execEngineReloadDone, *]

theorem execSnapshotCopyDone_wf (e : Fin 16) (s : State) (hwf : s.wf = true) :
    outWf (execSnapshotCopyDone e s) = true := by
  simp only [execSnapshotCopyDone]
  split <;> simp (maxDischargeDepth := 30) [*]

theorem execProbationEnd_wf (e : Fin 16) (s : State) (hwf : s.wf = true) :
    outWf (execProbationEnd e s) = true := by
  simp (maxDischargeDepth := 30) [execProbationEnd, *]

theorem execReinMemoryFault_wf (e : Fin 16) (s : State) (hwf : s.wf = true) :
    outWf (execReinMemoryFault e s) = true := by
  simp (maxDischargeDepth := 30) [execReinMemoryFault, *]

@[simp] theorem spareJoin_wf (s : State) (g : ℕ) (slot : ℕ) (hwf : s.wf = true) :
    (spareJoin s g slot).wf = true := by
  simp (maxDischargeDepth := 30) [spareJoin, *]

@[simp] theorem coefQueue_wf (s : State) (g : ℕ) (value : List Byte) (hwf : s.wf = true) :
    (coefQueue s g value).wf = true := by
  simp (maxDischargeDepth := 30) [coefQueue, *]

@[simp] theorem snapAsk_wf (s : State) (g : ℕ) (v : ℕ) (hwf : s.wf = true) :
    (snapAsk s g v).wf = true := by
  simp (maxDischargeDepth := 30) [snapAsk, *]

@[simp] theorem injectAsk_wf (s : State) (g : ℕ) (slot : ℕ) (hwf : s.wf = true) :
    (injectAsk s g slot).wf = true := by
  simp only [injectAsk]
  split <;> simp (maxDischargeDepth := 30) [*]

@[simp] theorem traceArmNow_wf (s : State) (a : ℕ) (v : ℕ) (hwf : s.wf = true) :
    (traceArmNow s a v).wf = true := by
  simp (maxDischargeDepth := 30) [traceArmNow, *]

@[simp] theorem traceForceNow_wf (s : State) (a : ℕ) (v : ℕ) (hwf : s.wf = true) :
    (traceForceNow s a v).wf = true := by
  simp (maxDischargeDepth := 30) [traceForceNow, *]

theorem execOuterTrigger_wf (a : Fin 4) (s : State) (hwf : s.wf = true) :
    outWf (execOuterTrigger a s) = true := by
  simp (maxDischargeDepth := 30) [execOuterTrigger, *]

theorem execSpindleReinTrigger_wf (entry : Fin 3) (s : State) (hwf : s.wf = true) :
    outWf (execSpindleReinTrigger entry s) = true := by
  simp (maxDischargeDepth := 30) [execSpindleReinTrigger, *]

end Sys2Proof.Machine
end

