-- ==== Sys2Proof/Laws/WfReset.lean ====
section
/-! SUPPORT. Every operation of Machine/Reset.lean keeps the canonical form of the block's data. -/

namespace Sys2Proof.Machine

@[simp] theorem quiesceHosts_wf (s : State) (hwf : s.wf = true) :
    (quiesceHosts s).wf = true := by
  unfold quiesceHosts
  repeat' split
  all_goals simp_all (maxDischargeDepth := 30)

@[simp] theorem startDump_wf (s : State) (hwf : s.wf = true) :
    (startDump s).wf = true := by
  simp only [startDump]
  split <;> simp (maxDischargeDepth := 30) [*]

@[simp] theorem shutDown_wf (s : State) (hwf : s.wf = true) :
    (shutDown s).wf = true := by
  unfold shutDown
  repeat' split
  all_goals simp_all (maxDischargeDepth := 30)

@[simp] theorem beginOff_wf (s : State) (c : OffCause) (hwf : s.wf = true) :
    (beginOff s c).wf = true := by
  simp only [beginOff]
  split <;> simp (maxDischargeDepth := 30) [*]

@[simp] theorem parkedSwitches_wf (s : State) (hwf : s.wf = true) :
    (parkedSwitches s).wf = true := by
  unfold parkedSwitches
  repeat' split
  all_goals simp_all (maxDischargeDepth := 30)

@[simp] theorem powerFail_wf (s : State) (c : OffCause) (hwf : s.wf = true) :
    (powerFail s c).wf = true := by
  simp (maxDischargeDepth := 30) [powerFail, *]

@[simp] theorem restartReset_wf (s : State) (hwf : s.wf = true) :
    (restartReset s).wf = true := by
  unfold restartReset
  repeat' split
  all_goals simp_all (maxDischargeDepth := 30)

@[simp] theorem settleRestart_wf (s : State) (hwf : s.wf = true) :
    (settleRestart s).wf = true := by
  simp (maxDischargeDepth := 30) [settleRestart, *]

@[simp] theorem railsCut_wf (s : State) (h : s.wf = true) : (railsCut s).wf = true := by
  unfold railsCut
  dsimp only
  repeat' first | (simp +contextual (maxDischargeDepth := 30) [*]; done) | split

@[simp] theorem reachPowerGood_wf (s : State) (hwf : s.wf = true) :
    (reachPowerGood s).wf = true := by
  unfold reachPowerGood
  repeat' split
  all_goals simp_all (maxDischargeDepth := 30)

end Sys2Proof.Machine
end

