-- ==== Sys2Proof/Laws/WfPower.lean ====
section
/-! SUPPORT. Every operation of Machine/Power.lean keeps the canonical form of the block's data. -/

namespace Sys2Proof.Machine

@[simp] theorem setFeedState_wf (s : State) (i : ℕ) (b : Bool) (hwf : s.wf = true) :
    (setFeedState s i b).wf = true := by
  simp (maxDischargeDepth := 30) [setFeedState, *]

@[simp] theorem setSwitch_wf (s : State) (f : Feed) (isOpen : Bool) (hwf : s.wf = true) :
    (setSwitch s f isOpen).wf = true := by
  simp only [setSwitch]
  split <;> simp (maxDischargeDepth := 30) [*]

theorem execFeedPresent_wf (f : Feed) (s : State) (hwf : s.wf = true) :
    outWf (execFeedPresent f s) = true := by
  simp (maxDischargeDepth := 30) [execFeedPresent, *]

@[simp] theorem failWhileOff_wf (s : State) (c : OffCause) (hwf : s.wf = true) :
    (failWhileOff s c).wf = true := by
  simp only [failWhileOff]
  split <;> simp (maxDischargeDepth := 30) [*]

theorem execFeedLost_wf (f : Feed) (why : FeedLoss) (s : State) (hwf : s.wf = true) :
    outWf (execFeedLost f why s) = true := by
  simp only [execFeedLost]
  split <;> simp (maxDischargeDepth := 30) [*]

theorem execFeedSwitchReclose_wf (f : Feed) (s : State) (hwf : s.wf = true) :
    outWf (execFeedSwitchReclose f s) = true := by
  simp (maxDischargeDepth := 30) [execFeedSwitchReclose, *]

theorem execPowerGood_wf (s : State) (hwf : s.wf = true) :
    outWf (execPowerGood s) = true := by
  simp (maxDischargeDepth := 30) [execPowerGood, *]

theorem execRailsOff_wf (s : State) (hwf : s.wf = true) :
    outWf (execRailsOff s) = true := by
  simp only [execRailsOff]
  split <;> simp (maxDischargeDepth := 30) [*]

theorem execRailsUp_wf (s : State) (hwf : s.wf = true) :
    outWf (execRailsUp s) = true := by
  simp (maxDischargeDepth := 30) [execRailsUp, *]

theorem execPwrdisAssert_wf (s : State) (hwf : s.wf = true) :
    outWf (execPwrdisAssert s) = true := by
  simp (maxDischargeDepth := 30) [execPwrdisAssert, *]

theorem execPwrdisRelease_wf (s : State) (hwf : s.wf = true) :
    outWf (execPwrdisRelease s) = true := by
  simp (maxDischargeDepth := 30) [execPwrdisRelease, *]

theorem execVmCollapse_wf (s : State) (hwf : s.wf = true) :
    outWf (execVmCollapse s) = true := by
  simp (maxDischargeDepth := 30) [execVmCollapse, *]

theorem execVcoreSteer_wf (minPercent : ℕ) (s : State) (hwf : s.wf = true) :
    outWf (execVcoreSteer minPercent s) = true := by
  simp (maxDischargeDepth := 30) [execVcoreSteer, *]

@[simp] theorem settleEffective_wf (s : State) (hwf : s.wf = true) :
    (settleEffective s).wf = true := by
  simp (maxDischargeDepth := 30) [settleEffective, *]

@[simp] theorem setTj_wf (s : State) (tj : ℤ) (hwf : s.wf = true) :
    (setTj s tj).wf = true := by
  simp (maxDischargeDepth := 30) [setTj, *]

theorem execThrottleEnter_wf (tj : ℤ) (s : State) (hwf : s.wf = true) :
    outWf (execThrottleEnter tj s) = true := by
  simp (maxDischargeDepth := 30) [execThrottleEnter, *]

theorem execThrottleExit_wf (tj : ℤ) (s : State) (hwf : s.wf = true) :
    outWf (execThrottleExit tj s) = true := by
  simp (maxDischargeDepth := 30) [execThrottleExit, *]

theorem execThermalShutdown_wf (tj : ℤ) (s : State) (hwf : s.wf = true) :
    outWf (execThermalShutdown tj s) = true := by
  simp (maxDischargeDepth := 30) [execThermalShutdown, *]

end Sys2Proof.Machine
end

