-- ==== Sys2Proof/Laws/WfMotion.lean ====
section
/-! SUPPORT. Every operation of Machine/Motion.lean keeps the canonical form of the block's data. -/

namespace Sys2Proof.Machine

@[simp] theorem loadEngine_wf (s : State) (g : ℕ) (e : ℕ) (role : ℕ) (hwf : s.wf = true) :
    (loadEngine s g e role).wf = true := by
  simp (maxDischargeDepth := 30) [loadEngine, *]

@[simp] theorem startGroup_wf (s : State) (g : ℕ) (hwf : s.wf = true) :
    (startGroup s g).wf = true := by
  unfold startGroup
  repeat' split
  all_goals simp_all (maxDischargeDepth := 30)

@[simp] theorem stopGroup_wf (s : State) (g : ℕ) (hwf : s.wf = true) :
    (stopGroup s g).wf = true := by
  unfold stopGroup
  repeat' split
  all_goals simp_all (maxDischargeDepth := 30)

@[simp] theorem fromMain_wf (s : State) (hwf : s.wf = true) :
    (fromMain s).wf = true := by
  simp (maxDischargeDepth := 30) [fromMain, *]

@[simp] theorem fromMotion_wf (s : State) (hwf : s.wf = true) :
    (fromMotion s).wf = true := by
  simp (maxDischargeDepth := 30) [fromMotion, *]

theorem execHeartbeat_wf (count : ℕ) (s : State) (hwf : s.wf = true) :
    outWf (execHeartbeat count s) = true := by
  simp only [execHeartbeat]
  repeat' split
  all_goals simp (maxDischargeDepth := 30) [*]

@[simp] theorem motionTakesOver_wf (s : State) (c : OffCause) (hwf : s.wf = true) :
    (motionTakesOver s c).wf = true := by
  simp (maxDischargeDepth := 30) [motionTakesOver, *]

theorem execHeartbeatLoss_wf (s : State) (hwf : s.wf = true) :
    outWf (execHeartbeatLoss s) = true := by
  simp (maxDischargeDepth := 30) [execHeartbeatLoss, *]

@[simp] theorem linkFault_wf (s : State) (hwf : s.wf = true) :
    (linkFault s).wf = true := by
  simp (maxDischargeDepth := 30) [linkFault, *]

theorem execLinkResend_wf (mainToMotion : Bool) (s : State) (hwf : s.wf = true) :
    outWf (execLinkResend mainToMotion s) = true := by
  simp (maxDischargeDepth := 30) [execLinkResend, *]

theorem execResetNotice_wf (lengthUs : ℕ) (s : State) (hwf : s.wf = true) :
    outWf (execResetNotice lengthUs s) = true := by
  simp (maxDischargeDepth := 30) [execResetNotice, *]

theorem execLinkStatus_wf (vm : ℕ) (temp : ℤ) (s : State) (hwf : s.wf = true) :
    outWf (execLinkStatus vm temp s) = true := by
  simp (maxDischargeDepth := 30) [execLinkStatus, *]

theorem execMotionDieLost_wf (s : State) (hwf : s.wf = true) :
    outWf (execMotionDieLost s) = true := by
  simp (maxDischargeDepth := 30) [execMotionDieLost, *]

theorem execVcmCmd_wf (a : Fin 4) (ua : ℤ) (mv : ℤ) (s : State) (hwf : s.wf = true) :
    outWf (execVcmCmd a ua mv s) = true := by
  simp (maxDischargeDepth := 30) [execVcmCmd, *]

theorem execSenseMsg_wf (a : Fin 4) (ua : ℤ) (mv : ℤ) (s : State) (hwf : s.wf = true) :
    outWf (execSenseMsg a ua mv s) = true := by
  simp (maxDischargeDepth := 30) [execSenseMsg, *]

theorem execVcmOvercurrent_wf (a : Fin 4) (s : State) (hwf : s.wf = true) :
    outWf (execVcmOvercurrent a s) = true := by
  simp (maxDischargeDepth := 30) [execVcmOvercurrent, *]

theorem execMaOvercurrent_wf (a : Fin 4) (s : State) (hwf : s.wf = true) :
    outWf (execMaOvercurrent a s) = true := by
  simp (maxDischargeDepth := 30) [execMaOvercurrent, *]

theorem execHeadLoadTimeout_wf (a : Fin 4) (s : State) (hwf : s.wf = true) :
    outWf (execHeadLoadTimeout a s) = true := by
  simp (maxDischargeDepth := 30) [execHeadLoadTimeout, *]

@[simp] theorem spinAlign_wf (s : State) (hwf : s.wf = true) :
    (spinAlign s).wf = true := by
  simp (maxDischargeDepth := 30) [spinAlign, *]

@[simp] theorem takeSpinLimit_wf (s : State) (hwf : s.wf = true) :
    (takeSpinLimit s).wf = true := by
  simp (maxDischargeDepth := 30) [takeSpinLimit, *]

@[simp] theorem beginSpin_wf (s : State) (hwf : s.wf = true) :
    (beginSpin s).wf = true := by
  simp (maxDischargeDepth := 30) [beginSpin, *]

@[simp] theorem spinUp_wf (s : State) (hwf : s.wf = true) :
    (spinUp s).wf = true := by
  unfold spinUp
  repeat' split
  all_goals simp_all (maxDischargeDepth := 30)

theorem execSpinCmd_wf (ua : ℤ) (s : State) (hwf : s.wf = true) :
    outWf (execSpinCmd ua s) = true := by
  simp (maxDischargeDepth := 30) [execSpinCmd, *]

@[simp] theorem spindleFault_wf (s : State) (hwf : s.wf = true) :
    (spindleFault s).wf = true := by
  simp (maxDischargeDepth := 30) [spindleFault, *]

@[simp] theorem countCross_wf (s : State) (hwf : s.wf = true) :
    (countCross s).wf = true := by
  unfold countCross
  repeat' split
  all_goals simp_all (maxDischargeDepth := 30)

@[simp] theorem zeroCrossLost_wf (s : State) (hwf : s.wf = true) :
    (zeroCrossLost s).wf = true := by
  simp (maxDischargeDepth := 30) [zeroCrossLost, *]

theorem execZeroCross_wf (phase : ℕ) (interval : ℕ) (s : State) (hwf : s.wf = true) :
    outWf (execZeroCross phase interval s) = true := by
  simp (maxDischargeDepth := 30) [execZeroCross, *]

theorem execZeroCrossMissing_wf (s : State) (hwf : s.wf = true) :
    outWf (execZeroCrossMissing s) = true := by
  simp (maxDischargeDepth := 30) [execZeroCrossMissing, *]

theorem execSpindleDriverFault_wf (s : State) (hwf : s.wf = true) :
    outWf (execSpindleDriverFault s) = true := by
  simp (maxDischargeDepth := 30) [execSpindleDriverFault, *]

theorem execSpinAlignEnd_wf (s : State) (hwf : s.wf = true) :
    outWf (execSpinAlignEnd s) = true := by
  simp (maxDischargeDepth := 30) [execSpinAlignEnd, *]

theorem execSpinRampEnd_wf (handover : Bool) (s : State) (hwf : s.wf = true) :
    outWf (execSpinRampEnd handover s) = true := by
  simp (maxDischargeDepth := 30) [execSpinRampEnd, *]

theorem execSpindleStandstill_wf (s : State) (hwf : s.wf = true) :
    outWf (execSpindleStandstill s) = true := by
  simp only [execSpindleStandstill]
  repeat' split
  all_goals simp (maxDischargeDepth := 30) [*]

@[simp] theorem loadHeads_wf (s : State) (a : ℕ) (hwf : s.wf = true) :
    (loadHeads s a).wf = true := by
  simp (maxDischargeDepth := 30) [loadHeads, *]

@[simp] theorem spinTarget_wf (s : State) (rpm : ℕ) (hwf : s.wf = true) :
    (spinTarget s rpm).wf = true := by
  simp (maxDischargeDepth := 30) [spinTarget, *]

theorem execDriveMsg_wf (cmd : DriveCmd) (s : State) (hwf : s.wf = true) :
    outWf (execDriveMsg cmd s) = true := by
  simp only [execDriveMsg]
  split <;> simp (maxDischargeDepth := 30) [*]

theorem execRampContact_wf (a : Fin 4) (s : State) (hwf : s.wf = true) :
    outWf (execRampContact a s) = true := by
  simp (maxDischargeDepth := 30) [execRampContact, *]

@[simp] theorem parked_wf (s : State) (a : ℕ) (ms : ℕ) (hwf : s.wf = true) :
    (parked s a ms).wf = true := by
  simp (maxDischargeDepth := 30) [parked, *]

theorem execRetractParked_wf (a : Fin 4) (ms : ℕ) (s : State) (hwf : s.wf = true) :
    outWf (execRetractParked a ms s) = true := by
  simp (maxDischargeDepth := 30) [execRetractParked, *]

theorem execRetractTimeout_wf (a : Fin 4) (s : State) (hwf : s.wf = true) :
    outWf (execRetractTimeout a s) = true := by
  simp (maxDischargeDepth := 30) [execRetractTimeout, *]

theorem execDumpSealed_wf (holdupMj : ℕ) (vmMin : ℕ) (s : State) (hwf : s.wf = true) :
    outWf (execDumpSealed holdupMj vmMin s) = true := by
  simp only [execDumpSealed]
  split <;> simp (maxDischargeDepth := 30) [*]

end Sys2Proof.Machine
end

