-- ==== Sys2Proof/Laws/WfServo.lean ====
section
/-! SUPPORT. Every operation of Machine/Servo.lean keeps the canonical form of the block's data. -/

namespace Sys2Proof.Machine

@[simp] theorem comparePosition_wf (s : State) (a : ℕ) (pes : ℤ) (hwf : s.wf = true) :
    (comparePosition s a pes).wf = true := by
  simp (maxDischargeDepth := 30) [comparePosition, *]

@[simp] theorem trackCheck_wf (s : State) (a : ℕ) (wedge : ℕ) (track : ℕ) (pes : ℤ) (hwf : s.wf = true) :
    (trackCheck s a wedge track pes).wf = true := by
  simp only [trackCheck]
  split <;> simp (maxDischargeDepth := 30) [*]

@[simp] theorem stampStart_wf (s : State) (a : ℕ) (wedge : ℕ) (hwf : s.wf = true) :
    (stampStart s a wedge).wf = true := by
  simp only [stampStart]
  split <;> simp (maxDischargeDepth := 30) [*]

@[simp] theorem seekNoticed_wf (s : State) (a : ℕ) (hwf : s.wf = true) :
    (seekNoticed s a).wf = true := by
  simp (maxDischargeDepth := 30) [seekNoticed, *]

@[simp] theorem seekStart_wf (s : State) (a : ℕ) (track : ℕ) (hwf : s.wf = true) :
    (seekStart s a track).wf = true := by
  simp only [seekStart]
  split <;> simp (maxDischargeDepth := 30) [*]

@[simp] theorem seekAdvance_wf (s : State) (a : ℕ) (hwf : s.wf = true) :
    (seekAdvance s a).wf = true := by
  simp only [seekAdvance]
  split <;> simp (maxDischargeDepth := 30) [*]

@[simp] theorem seekStep_wf (s : State) (a : ℕ) (track : ℕ) (hwf : s.wf = true) :
    (seekStep s a track).wf = true := by
  simp (maxDischargeDepth := 30) [seekStep, *]

@[simp] theorem stampPhase_wf (s : State) (a : ℕ) (wedge : ℕ) (hwf : s.wf = true) :
    (stampPhase s a wedge).wf = true := by
  simp (maxDischargeDepth := 30) [stampPhase, *]

@[simp] theorem trimSums_wf (s : State) (a : ℕ) (pes : ℤ) (hwf : s.wf = true) :
    (trimSums s a pes).wf = true := by
  simp (maxDischargeDepth := 30) [trimSums, *]

@[simp] theorem countRev_wf (s : State) (a : ℕ) (wedge : ℕ) (hwf : s.wf = true) :
    (countRev s a wedge).wf = true := by
  unfold countRev
  repeat' split
  all_goals simp_all (maxDischargeDepth := 30)

@[simp] theorem releaseBlock_wf (s : State) (a : ℕ) (hwf : s.wf = true) :
    (releaseBlock s a).wf = true := by
  simp only [releaseBlock]
  split <;> simp (maxDischargeDepth := 30) [*]

@[simp] theorem missedStarts_wf (s : State) (a : ℕ) (hwf : s.wf = true) :
    (missedStarts s a).wf = true := by
  unfold missedStarts
  repeat' split
  all_goals simp_all (maxDischargeDepth := 30)

@[simp] theorem confirmLoad_wf (s : State) (a : ℕ) (hwf : s.wf = true) :
    (confirmLoad s a).wf = true := by
  simp only [confirmLoad]
  repeat' split
  all_goals simp (maxDischargeDepth := 30) [*]

@[simp] theorem passWedge_wf (s : State) (a : ℕ) (hwf : s.wf = true) :
    (passWedge s a).wf = true := by
  simp (maxDischargeDepth := 30) [passWedge, *]

theorem execServoSync_wf (a : Fin 4) (wedge : ℕ) (track : ℕ) (pes : ℤ) (s : State) (hwf : s.wf = true) :
    outWf (execServoSync a wedge track pes s) = true := by
  simp (maxDischargeDepth := 30) [execServoSync, *]

theorem execServoSyncTimeout_wf (a : Fin 4) (s : State) (hwf : s.wf = true) :
    outWf (execServoSyncTimeout a s) = true := by
  simp only [execServoSyncTimeout]
  repeat' split
  all_goals simp (maxDischargeDepth := 30) [*]

end Sys2Proof.Machine
end

