-- ==== Sys2Proof/Laws/WfGirth.lean ====
section
/-! SUPPORT. Every operation of Machine/Girth.lean keeps the canonical form of the block's data. -/

namespace Sys2Proof.Machine

@[simp] theorem State.setGirth_wf (s : State) (g : Girth) (hwf : s.wf = true) :
    (State.setGirth s g).wf = true := by
  simp (maxDischargeDepth := 30) [State.setGirth, *]

@[simp] theorem forward_wf (s : State) (typ : ℕ) (h : GirthHeader) (payload : ℕ) (hwf : s.wf = true) :
    (forward s typ h payload).wf = true := by
  simp (maxDischargeDepth := 30) [forward, *]

@[simp] theorem countCrc_wf (s : State) (c : CrcState) (hwf : s.wf = true) :
    (countCrc s c).wf = true := by
  simp only [countCrc]
  split <;> simp (maxDischargeDepth := 30) [*]

@[simp] theorem rxTake_wf (s : State) (hwf : s.wf = true) :
    (rxTake s).wf = true := by
  simp (maxDischargeDepth := 30) [rxTake, *]

@[simp] theorem receive_wf (s : State) (typ : Nat) (h : GirthHeader) (payload : Nat) (deliver : State → State) (hwf : s.wf = true)
    (hd : ∀ t : State, t.wf = true → (deliver t).wf = true) : (receive s typ h payload deliver).wf = true := by
  simp only [receive]
  split <;> simp (maxDischargeDepth := 30) [*]

@[simp] theorem txLeave_wf (s : State) (hwf : s.wf = true) :
    (txLeave s).wf = true := by
  simp only [txLeave]
  split <;> simp (maxDischargeDepth := 30) [*]

@[simp] theorem sendFrame_wf (s : State) (typ : ℕ) (payload : ℕ) (hwf : s.wf = true) :
    (sendFrame s typ payload).wf = true := by
  simp (maxDischargeDepth := 30) [sendFrame, *]

@[simp] theorem timePasses_wf (s : State) (hwf : s.wf = true) :
    (timePasses s).wf = true := by
  simp (maxDischargeDepth := 30) [timePasses, *]

theorem execGirthUnknownType_wf (h : GirthHeader) (typ : ℕ) (payload : ℕ) (s : State) (hwf : s.wf = true) :
    outWf (execGirthUnknownType h typ payload s) = true := by
  simp (maxDischargeDepth := 30) [execGirthUnknownType, *]

@[simp] theorem assignPhase_wf (s : State) (g : ℕ) (hwf : s.wf = true) :
    (assignPhase s g).wf = true := by
  simp (maxDischargeDepth := 30) [assignPhase, *]

@[simp] theorem rephase_wf (s : State) (hwf : s.wf = true) :
    (rephase s).wf = true := by
  simp only [rephase]
  split <;> simp (maxDischargeDepth := 30) [*]

@[simp] theorem unjoin_wf (s : State) (hwf : s.wf = true) :
    (unjoin s).wf = true := by
  simp (maxDischargeDepth := 30) [unjoin, *]

@[simp] theorem becomeMaster_wf (s : State) (hop : ℕ) (elected : Bool) (hwf : s.wf = true) :
    (becomeMaster s hop elected).wf = true := by
  simp (maxDischargeDepth := 30) [becomeMaster, *]

@[simp] theorem follow_wf (s : State) (h : GirthHeader) (tick : ℕ) (baseHop : ℕ) (tag : ℕ) (again : Bool) (hwf : s.wf = true) :
    (follow s h tick baseHop tag again).wf = true := by
  simp (maxDischargeDepth := 30) [follow, *]

@[simp] theorem becomeMember_wf (s : State) (h : GirthHeader) (tick : ℕ) (baseHop : ℕ) (tag : ℕ) (hwf : s.wf = true) :
    (becomeMember s h tick baseHop tag).wf = true := by
  simp (maxDischargeDepth := 30) [becomeMember, *]

@[simp] theorem otherTag_wf (s : State) (h : GirthHeader) (tick : ℕ) (baseHop : ℕ) (tag : ℕ) (hwf : s.wf = true) :
    (otherTag s h tick baseHop tag).wf = true := by
  simp (maxDischargeDepth := 30) [otherTag, *]

@[simp] theorem yieldTo_wf (s : State) (h : GirthHeader) (tick : ℕ) (baseHop : ℕ) (tag : ℕ) (past : Bool) (hwf : s.wf = true) :
    (yieldTo s h tick baseHop tag past).wf = true := by
  simp (maxDischargeDepth := 30) [yieldTo, *]

@[simp] theorem masterSync_wf (s : State) (h : GirthHeader) (tick : ℕ) (baseHop : ℕ) (tag : ℕ) (fixed : Bool) (past : Bool) (hwf : s.wf = true) :
    (masterSync s h tick baseHop tag fixed past).wf = true := by
  simp (maxDischargeDepth := 30) [masterSync, *]

@[simp] theorem deliverSync_wf (s : State) (h : GirthHeader) (tick : ℕ) (baseHop : ℕ) (tag : ℕ) (fixed : Bool) (past : Bool) (hwf : s.wf = true) :
    (deliverSync s h tick baseHop tag fixed past).wf = true := by
  simp (maxDischargeDepth := 30) [deliverSync, *]

theorem execGirthSync_wf (h : GirthHeader) (tick : ℕ) (baseHop : ℕ) (tag : ℕ) (fixed : Bool) (takeover : Bool) (overFlag : Bool) (s : State) (hwf : s.wf = true) :
    outWf (execGirthSync h tick baseHop tag fixed takeover overFlag s) = true := by
  unfold execGirthSync
  repeat' split
  all_goals simp_all (maxDischargeDepth := 30)

theorem execMasterLoss_wf (s : State) (hwf : s.wf = true) :
    outWf (execMasterLoss s) = true := by
  simp only [execMasterLoss]
  repeat' split
  all_goals simp (maxDischargeDepth := 30) [*]

theorem execCandidateWaitEnd_wf (s : State) (hwf : s.wf = true) :
    outWf (execCandidateWaitEnd s) = true := by
  simp (maxDischargeDepth := 30) [execCandidateWaitEnd, *]

@[simp] theorem joinBegin_wf (s : State) (hwf : s.wf = true) :
    (joinBegin s).wf = true := by
  simp only [joinBegin]
  repeat' split
  all_goals simp (maxDischargeDepth := 30) [*]

theorem execJoinListenTimeout_wf (_noSymbol : Bool) (s : State) (hwf : s.wf = true) :
    outWf (execJoinListenTimeout _noSymbol s) = true := by
  simp only [execJoinListenTimeout]
  repeat' split
  all_goals simp (maxDischargeDepth := 30) [*]

@[simp] theorem sendHealth_wf (s : State) (hwf : s.wf = true) :
    (sendHealth s).wf = true := by
  simp (maxDischargeDepth := 30) [sendHealth, *]

@[simp] theorem healthDue_wf (s : State) (hwf : s.wf = true) :
    (healthDue s).wf = true := by
  simp (maxDischargeDepth := 30) [healthDue, *]

theorem execHealthPeriod_wf (s : State) (hwf : s.wf = true) :
    outWf (execHealthPeriod s) = true := by
  simp (maxDischargeDepth := 30) [execHealthPeriod, *]

theorem execHealthDeferred_wf (s : State) (hwf : s.wf = true) :
    outWf (execHealthDeferred s) = true := by
  simp (maxDischargeDepth := 30) [execHealthDeferred, *]

theorem execGirthHealth_wf (h : GirthHeader) (payload : List Byte) (s : State) (hwf : s.wf = true) :
    outWf (execGirthHealth h payload s) = true := by
  unfold execGirthHealth
  repeat' split
  all_goals simp_all (maxDischargeDepth := 30)

@[simp] theorem applyRole_wf (s : State) (hwf : s.wf = true) :
    (applyRole s).wf = true := by
  simp only [applyRole]
  repeat' (first | done | split)
  all_goals simp (maxDischargeDepth := 30) [*]

@[simp] theorem sendSync_wf (s : State) (hwf : s.wf = true) :
    (sendSync s).wf = true := by
  simp (maxDischargeDepth := 30) [sendSync, *]

theorem execSyncPeriod_wf (s : State) (hwf : s.wf = true) :
    outWf (execSyncPeriod s) = true := by
  simp (maxDischargeDepth := 30) [execSyncPeriod, *]

theorem execPhasePeriod_wf (s : State) (hwf : s.wf = true) :
    outWf (execPhasePeriod s) = true := by
  simp (maxDischargeDepth := 30) [execPhasePeriod, *]

theorem execGirthPhase_wf (h : GirthHeader) (rpm : ℕ) (group : ℕ) (s : State) (hwf : s.wf = true) :
    outWf (execGirthPhase h rpm group s) = true := by
  unfold execGirthPhase
  repeat' split
  all_goals simp_all (maxDischargeDepth := 30)

@[simp] theorem newSecond_wf (s : State) (hwf : s.wf = true) :
    (newSecond s).wf = true := by
  simp (maxDischargeDepth := 30) [newSecond, *]

@[simp] theorem sendSeek_wf (s : State) (payload : ℕ) (hwf : s.wf = true) :
    (sendSeek s payload).wf = true := by
  simp (maxDischargeDepth := 30) [sendSeek, *]

@[simp] theorem announceNow_wf (s : State) (b : List Byte) (hwf : s.wf = true) :
    (announceNow s b).2.wf = true := by
  simp only [announceNow]
  repeat' split
  all_goals simp (maxDischargeDepth := 30) [*]

theorem execSeekCancel_wf (a : Fin 4) (s : State) (hwf : s.wf = true) :
    outWf (execSeekCancel a s) = true := by
  simp only [execSeekCancel]
  split <;> simp (maxDischargeDepth := 30) [*]

@[simp] theorem deliverSeek_wf (s : State) (h : GirthHeader) (startTick : ℕ) (profile : ℕ) (act : ℕ) (d : ℤ) (set : ℕ) (hwf : s.wf = true) :
    (deliverSeek s h startTick profile act d set).wf = true := by
  simp (maxDischargeDepth := 30) [deliverSeek, *]

theorem execGirthSeek_wf (h : GirthHeader) (startTick : ℕ) (profile : ℕ) (act : Fin 4) (d : ℤ) (profileSet : ℕ) (s : State) (hwf : s.wf = true) :
    outWf (execGirthSeek h startTick profile act d profileSet s) = true := by
  unfold execGirthSeek
  repeat' split
  all_goals simp_all (maxDischargeDepth := 30)

@[simp] theorem setFfGain_wf (s : State) (r : ℕ) (n : ℕ) (hwf : s.wf = true) :
    (setFfGain s r n).wf = true := by
  simp (maxDischargeDepth := 30) [setFfGain, *]

@[simp] theorem trimGain_wf (s : State) (x : Announcement) (r : ℕ) (hwf : s.wf = true) :
    (trimGain s x r).wf = true := by
  simp (maxDischargeDepth := 30) [trimGain, *]

theorem execAnnouncementEnd_wf (id : ℕ) (s : State) (hwf : s.wf = true) :
    outWf (execAnnouncementEnd id s) = true := by
  unfold execAnnouncementEnd
  repeat' split
  all_goals simp_all (maxDischargeDepth := 30)

@[simp] theorem sendDict_wf (s : State) (payload : ℕ) (hwf : s.wf = true) :
    (sendDict s payload).wf = true := by
  simp (maxDischargeDepth := 30) [sendDict, *]

@[simp] theorem dictRequestNow_wf (s : State) (b : List Byte) (hwf : s.wf = true) :
    (dictRequestNow s b).2.wf = true := by
  simp only [dictRequestNow]
  split <;> simp (maxDischargeDepth := 30) [*]

theorem execDictRequestTimeout_wf (s : State) (hwf : s.wf = true) :
    outWf (execDictRequestTimeout s) = true := by
  simp only [execDictRequestTimeout]
  split <;> simp (maxDischargeDepth := 30) [*]

theorem execGirthDictResponse_wf (h : GirthHeader) (target : ℕ) (tag : ℕ) (index : ℕ) (sub : ℕ) (status : ℕ) (value : ℕ) (s : State) (hwf : s.wf = true) :
    outWf (execGirthDictResponse h target tag index sub status value s) = true := by
  unfold execGirthDictResponse
  repeat' split
  all_goals simp_all (maxDischargeDepth := 30)

end Sys2Proof.Machine
end

