-- ==== Sys2Proof/Laws/WfLayoutCore.lean ====
section
/-! SUPPORT. Every operation of Machine/LayoutCore.lean keeps the canonical form of the block's data. -/

namespace Sys2Proof.Machine

@[simp] theorem countLayout_wf (s : State) (hwf : s.wf = true) :
    (countLayout s).wf = true := by
  simp (maxDischargeDepth := 30) [countLayout, *]

@[simp] theorem layoutChanged_wf (s : State) (hwf : s.wf = true) :
    (layoutChanged s).wf = true := by
  simp (maxDischargeDepth := 30) [layoutChanged, *]

@[simp] theorem offerSector_wf (s : State) (u : ℕ) (track : ℕ) (p : ℕ) (hwf : s.wf = true) :
    (offerSector s u track p).wf = true := by
  simp only [offerSector]
  split <;> simp (maxDischargeDepth := 30) [*]

@[simp] theorem bandWrite_wf (s : State) (u : ℕ) (track : ℕ) (data : List Byte) (hwf : s.wf = true) :
    (bandWrite s u track data).wf = true := by
  unfold bandWrite
  repeat' split
  all_goals simp_all (maxDischargeDepth := 30)

@[simp] theorem writeLabel_wf (s : State) (u : ℕ) (f : Label → Label) (hwf : s.wf = true) :
    (writeLabel s u f).wf = true := by
  simp (maxDischargeDepth := 30) [writeLabel, *]

@[simp] theorem areaWrite_wf (s : State) (u : ℕ) (area : ℕ) (data : List Byte) (hwf : s.wf = true) :
    (areaWrite s u area data).wf = true := by
  simp only [areaWrite]
  split <;> simp (maxDischargeDepth := 30) [*]

@[simp] theorem writeGrown_wf (s : State) (u : ℕ) (hwf : s.wf = true) :
    (writeGrown s u).wf = true := by
  unfold writeGrown
  repeat' split
  all_goals simp_all (maxDischargeDepth := 30)

@[simp] theorem moveArea_wf (s : State) (u : ℕ) (area : ℕ) (hwf : s.wf = true) :
    (moveArea s u area).wf = true := by
  simp only [moveArea]
  repeat' split
  all_goals simp (maxDischargeDepth := 30) [*]

@[simp] theorem mirrorPage_wf (s : State) (n : ℕ) (data : List Byte) (hwf : s.wf = true) :
    (mirrorPage s n data).wf = true := by
  unfold mirrorPage
  dsimp only
  refine State.each_wf (by simp [*]) fun t u ht => ?_
  split <;> simp [*]

@[simp] theorem mirrorPages_wf (s : State) (base : ℕ) (i : ℕ) (data : List Byte) (hwf : s.wf = true) :
    (mirrorPages s base i data).wf = true := by
  unfold mirrorPages
  repeat' split
  all_goals simp_all (maxDischargeDepth := 30)

@[simp] theorem mirrorIntent_wf (s : State) (n : ℕ) (hwf : s.wf = true) :
    (mirrorIntent s n).wf = true := by
  simp (maxDischargeDepth := 30) [mirrorIntent, *]

@[simp] theorem mirrorAlloc_wf (s : State) (n : ℕ) (hwf : s.wf = true) :
    (mirrorAlloc s n).wf = true := by
  simp (maxDischargeDepth := 30) [mirrorAlloc, *]

@[simp] theorem bandCopy_wf (s : State) (hwf : s.wf = true) :
    (bandCopy s).wf = true := by
  unfold bandCopy
  repeat' split
  all_goals simp_all (maxDischargeDepth := 30)

@[simp] theorem countDirty_wf (s : State) (hwf : s.wf = true) :
    (countDirty s).wf = true := by
  simp (maxDischargeDepth := 30) [countDirty, *]

@[simp] theorem putCache_wf (s : State) (k : ℕ) (c : CacheSlot) (hwf : s.wf = true) :
    (putCache s k c).wf = true := by
  simp (maxDischargeDepth := 30) [putCache, *]

@[simp] theorem setCacheState_wf (s : State) (p : ℕ × CacheSlot → Bool) (st : ℕ) (hwf : s.wf = true) :
    (setCacheState s p st).wf = true := by
  simp (maxDischargeDepth := 30) [setCacheState, *]

@[simp] theorem dropCached_wf (s : State) (p : ℕ → Bool) (hwf : s.wf = true) :
    (dropCached s p).wf = true := by
  simp (maxDischargeDepth := 30) [dropCached, *]

@[simp] theorem makeRoom_wf (s : State) (n : ℕ) (hwf : s.wf = true) :
    (makeRoom s n).wf = true := by
  simp only [makeRoom]
  repeat' split
  all_goals simp (maxDischargeDepth := 30) [*]

@[simp] theorem lostChanged_wf (s : State) (hwf : s.wf = true) :
    (lostChanged s).wf = true := by
  simp (maxDischargeDepth := 30) [lostChanged, *]

@[simp] theorem addLost_wf (s : State) (x : Lost) (hwf : s.wf = true) :
    (addLost s x).wf = true := by
  simp (maxDischargeDepth := 30) [addLost, *]

@[simp] theorem clearLost_wf (s : State) (nsid : ℕ) (lba : ℕ) (n : ℕ) (hwf : s.wf = true) :
    (clearLost s nsid lba n).wf = true := by
  simp (maxDischargeDepth := 30) [clearLost, *]

@[simp] theorem setIntent_wf (s : State) (g : ℕ) (hwf : s.wf = true) :
    (setIntent s g).wf = true := by
  simp (maxDischargeDepth := 30) [setIntent, *]

@[simp] theorem setAllocated_wf (s : State) (g : ℕ) (hwf : s.wf = true) :
    (setAllocated s g).wf = true := by
  simp (maxDischargeDepth := 30) [setAllocated, *]

@[simp] theorem clearAllocated_wf (s : State) (g : ℕ) (hwf : s.wf = true) :
    (clearAllocated s g).wf = true := by
  simp (maxDischargeDepth := 30) [clearAllocated, *]

@[simp] theorem nextGen_wf (s : State) (hwf : s.wf = true) :
    (nextGen s).2.wf = true := by
  simp (maxDischargeDepth := 30) [nextGen, *]

@[simp] theorem countJournal_wf (s : State) (hwf : s.wf = true) :
    (countJournal s).wf = true := by
  simp (maxDischargeDepth := 30) [countJournal, *]

@[simp] theorem countUpdate_wf (s : State) (method : ℕ) (hwf : s.wf = true) :
    (countUpdate s method).wf = true := by
  simp (maxDischargeDepth := 30) [countUpdate, *]

@[simp] theorem openEntry_wf (s : State) (e : JournalEntry) (hwf : s.wf = true) :
    (openEntry s e).wf = true := by
  simp (maxDischargeDepth := 30) [openEntry, *]

end Sys2Proof.Machine
end

