-- ==== Sys2Proof/Laws/WfRestart.lean ====
section
/-! SUPPORT. Every operation of Machine/Restart.lean keeps the canonical form of the block's data. -/

namespace Sys2Proof.Machine

@[simp] theorem leaveSafe_wf (s : State) (maintenance : Bool) (hwf : s.wf = true) :
    (leaveSafe s maintenance).wf = true := by
  simp (maxDischargeDepth := 30) [leaveSafe, *]

@[simp] theorem restart_wf (s : State) (maintenance : Bool) (hwf : s.wf = true) :
    (restart s maintenance).wf = true := by
  simp only [restart]
  repeat' split
  all_goals simp (maxDischargeDepth := 30) [*]

end Sys2Proof.Machine
end

