-- ==== Sys2Proof/Laws/WfHostIo.lean ====
section
/-! SUPPORT. Every operation of Machine/HostIo.lean keeps the canonical form of the block's data. -/

namespace Sys2Proof.Machine

@[simp] theorem wakeDrive_wf (s : State) (from4 : Bool) (hwf : s.wf = true) :
    (wakeDrive s from4).wf = true := by
  unfold wakeDrive
  repeat' split
  all_goals simp_all (maxDischargeDepth := 30)

@[simp] theorem reportPower_wf (s : State) (n : ℕ) (hwf : s.wf = true) :
    (reportPower s n).wf = true := by
  simp (maxDischargeDepth := 30) [reportPower, *]

@[simp] theorem mediaWake_wf (s : State) (hwf : s.wf = true) :
    (mediaWake s).wf = true := by
  simp (maxDischargeDepth := 30) [mediaWake, *]

@[simp] theorem mediaGate_wf (s : State) (hwf : s.wf = true) :
    optWf (mediaGate s) = true := by
  simp only [mediaGate]
  repeat' split
  all_goals simp (maxDischargeDepth := 30) [*]

@[simp] theorem wakeFrom4_wf (s : State) (hwf : s.wf = true) :
    (wakeFrom4 s).wf = true := by
  simp (maxDischargeDepth := 30) [wakeFrom4, *]

@[simp] theorem coverFlush_wf (s : State) (n : ℕ) (hwf : s.wf = true) :
    (coverFlush s n).wf = true := by
  simp only [coverFlush]
  split <;> simp (maxDischargeDepth := 30) [*]

@[simp] theorem finishMedium_wf (s : State) (n : ℕ) (hwf : s.wf = true) :
    (finishMedium s n).wf = true := by
  simp only [finishMedium]
  split <;> simp (maxDischargeDepth := 30) [*]

@[simp] theorem settleMedium_wf (s : State) (hwf : s.wf = true) :
    (settleMedium s).wf = true := by
  unfold settleMedium
  repeat' split
  all_goals simp_all (maxDischargeDepth := 30)

@[simp] theorem blocksOnMedium_wf (s : State) (done : List (ℕ × ℕ)) (hwf : s.wf = true) :
    (blocksOnMedium s done).wf = true := by
  simp (maxDischargeDepth := 30) [blocksOnMedium, *]

@[simp] theorem blocksDropped_wf (s : State) (dbas : List ℕ) (hwf : s.wf = true) :
    (blocksDropped s dbas).wf = true := by
  simp (maxDischargeDepth := 30) [blocksDropped, *]

@[simp] theorem settleShutdown_wf (s : State) (p : Port) (hwf : s.wf = true) :
    (settleShutdown s p).wf = true := by
  simp (maxDischargeDepth := 30) [settleShutdown, *]

@[simp] theorem settleShutdowns_wf (s : State) (hwf : s.wf = true) :
    (settleShutdowns s).wf = true := by
  simp (maxDischargeDepth := 30) [settleShutdowns, *]

@[simp] theorem slotTaken_wf (s : State) (p : Port) (hwf : s.wf = true) :
    (slotTaken s p).wf = true := by
  simp (maxDischargeDepth := 30) [slotTaken, *]

@[simp] theorem advanceSq_wf (s : State) (p : Port) (qid : ℕ) (q : Sq) (hwf : s.wf = true) :
    (advanceSq s p qid q).wf = true := by
  simp (maxDischargeDepth := 30) [advanceSq, *]

@[simp] theorem nextAdmission_wf (s : State) (hwf : s.wf = true) :
    (nextAdmission s).2.wf = true := by
  simp (maxDischargeDepth := 30) [nextAdmission, *]

@[simp] theorem admitAer_wf (s : State) (p : Port) (cid : ℕ) (hwf : s.wf = true) :
    (admitAer s p cid).wf = true := by
  simp (maxDischargeDepth := 30) [admitAer, *]

@[simp] theorem fetchCommand_wf (s : State) (p : Port) (qid : ℕ) (cmd : SqEntry) (hwf : s.wf = true) :
    (fetchCommand s p qid cmd).wf = true := by
  simp only [fetchCommand]
  split <;> simp (maxDischargeDepth := 30) [*]

theorem execCommandFetch_wf (p : Port) (qid : ℕ) (cmd : SqEntry) (s : State) (hwf : s.wf = true) :
    outWf (execCommandFetch p qid cmd s) = true := by
  simp (maxDischargeDepth := 30) [execCommandFetch, *]

theorem execAsyncEventRequest_wf (p : Port) (cid : ℕ) (s : State) (hwf : s.wf = true) :
    outWf (execAsyncEventRequest p cid s) = true := by
  simp (maxDischargeDepth := 30) [execAsyncEventRequest, *]

theorem execSqDoorbell_wf (p : Port) (qid : ℕ) (tail : ℕ) (s : State) (hwf : s.wf = true) :
    outWf (execSqDoorbell p qid tail s) = true := by
  simp only [execSqDoorbell]
  split <;> simp (maxDischargeDepth := 30) [*]

@[simp] theorem postWaiting_wf (fuel : Nat) (s : State) (p : Port) (qid : Nat) (h : s.wf = true) : (postWaiting fuel s p qid).wf = true := by
  induction fuel generalizing s with
  | zero => simpa [postWaiting] using h
  | succ n ih =>
    simp only [postWaiting]
    repeat' first | (simp +contextual (maxDischargeDepth := 30) [*]; done) | split

theorem execCqHeadDoorbell_wf (p : Port) (qid : ℕ) (head : ℕ) (s : State) (hwf : s.wf = true) :
    outWf (execCqHeadDoorbell p qid head s) = true := by
  simp only [execCqHeadDoorbell]
  split <;> simp (maxDischargeDepth := 30) [*]

@[simp] theorem endIo_wf (s : State) (n : ℕ) (st : ℕ × ℕ) (hwf : s.wf = true) :
    (endIo s n st).wf = true := by
  simp (maxDischargeDepth := 30) [endIo, *]

@[simp] theorem admitBlock_wf (s : State) (ns : Namespace) (c : CmdSlot) (dba : ℕ) (k : ℕ) (payload : List Byte) (hwf : s.wf = true) :
    (admitBlock s ns c dba k payload).wf = true := by
  simp (maxDischargeDepth := 30) [admitBlock, *]

@[simp] theorem admitBlocks_wf (ns : Namespace) (c : CmdSlot) (i : Nat) (l : List HostBlock) (s : State) (h : s.wf = true) :
    (admitBlocks ns c i l s).2.2.wf = true := by
  induction l generalizing i s with
  | nil => simpa [admitBlocks] using h
  | cons b r ih =>
    simp only [admitBlocks]
    repeat' first | (simp +contextual (maxDischargeDepth := 30) [*]; done) | split

theorem execNvmeWrite_wf (slot : ℕ) (blocks : List HostBlock) (s : State) (hwf : s.wf = true) :
    outWf (execNvmeWrite slot blocks s) = true := by
  unfold execNvmeWrite
  dsimp only
  split
  · exact hwf
  · split
    · simp [hwf]
    · exact hwf
    · repeat' first | (simp +contextual (maxDischargeDepth := 30) [hwf]; done) | split

@[simp] theorem wakeFor_wf (s : State) (blocks : List (ℕ × ℕ)) (hwf : s.wf = true) :
    (wakeFor s blocks).wf = true := by
  simp (maxDischargeDepth := 30) [wakeFor, *]

theorem execWriteCached_wf (slot : ℕ) (s : State) (hwf : s.wf = true) :
    outWf (execWriteCached slot s) = true := by
  simp only [execWriteCached]
  split <;> simp (maxDischargeDepth := 30) [*]

@[simp] theorem deallocate_wf (s : State) (ns : Namespace) (ranges : List (ℕ × ℕ)) (hwf : s.wf = true) :
    (deallocate s ns ranges).wf = true := by
  unfold deallocate
  repeat' split
  all_goals simp_all (maxDischargeDepth := 30)

theorem execDatasetManagement_wf (slot : ℕ) (s : State) (hwf : s.wf = true) :
    outWf (execDatasetManagement slot s) = true := by
  simp only [execDatasetManagement]
  repeat' split
  all_goals simp (maxDischargeDepth := 30) [*]

@[simp] theorem zeroBlocks_wf (ns : Namespace) (c : CmdSlot) (skip : Nat → Bool) (fuel i : Nat) (s : State) (h : s.wf = true) :
    (zeroBlocks ns c skip fuel i s).2.wf = true := by
  induction fuel generalizing i s with
  | zero => exact h
  | succ n ih =>
    rw [zeroBlocks]
    dsimp only
    split
    · exact ih _ _ h
    · split
      · exact h
      · exact ih _ _ (admitBlock_wf _ _ _ _ _ _ h)

theorem execWriteZeroes_wf (slot : ℕ) (s : State) (hwf : s.wf = true) :
    outWf (execWriteZeroes slot s) = true := by
  simp only [execWriteZeroes]
  repeat' split
  all_goals simp (maxDischargeDepth := 30) [*]

@[simp] theorem firstToMedium_wf (s : State) (n : ℕ) (c : CmdSlot) (hwf : s.wf = true) :
    optWf (firstToMedium s n c) = true := by
  simp only [firstToMedium]
  split <;> simp (maxDischargeDepth := 30) [*]

@[simp] theorem serveRead_wf (s : State) (n : Nat) (c : CmdSlot) (ns : Namespace) (useCache transfer : Bool) (media : List MediaBlock)
    (h : s.wf = true) : (serveRead s n c ns useCache transfer media).wf = true := by
  have gate : ∀ t, (if touchesMedium s ns c useCache then mediaGate s else none) = some t → t.wf = true := fun t ht => by
    have := mediaGate_wf s h
    split at ht <;> simp_all
  simp only [serveRead]
  split
  · simp [*]
  · split
    · exact gate _ (by assumption)
    · repeat' first | (simp +contextual (maxDischargeDepth := 30) [*]; done) | split

theorem execNvmeRead_wf (slot : ℕ) (media : List MediaBlock) (s : State) (hwf : s.wf = true) :
    outWf (execNvmeRead slot media s) = true := by
  unfold execNvmeRead
  dsimp only
  split
  · exact hwf
  split
  · exact hwf
  split
  · simp [hwf]
  · exact hwf
  rename_i c _ _ _ _ _ _ _
  have first : ∀ t, (if (bit c.cmd.cdw12 30 && s.host.strict) = true then firstToMedium s slot c else none) = some t → t.wf = true := fun t ht => by
    have := firstToMedium_wf s slot c hwf
    split at ht <;> simp_all
  split
  · exact first _ (by assumption)
  · simp [hwf]

theorem execNvmeVerify_wf (slot : ℕ) (media : List MediaBlock) (s : State) (hwf : s.wf = true) :
    outWf (execNvmeVerify slot media s) = true := by
  unfold execNvmeVerify
  split
  · exact hwf
  split
  · simp [hwf]
  · exact hwf
  have first := firstToMedium_wf s slot ‹CmdSlot› hwf
  split
  · simp_all
  · simp [hwf]

theorem execReadTransferred_wf (slot : ℕ) (s : State) (hwf : s.wf = true) :
    outWf (execReadTransferred slot s) = true := by
  simp only [execReadTransferred]
  split <;> simp (maxDischargeDepth := 30) [*]

theorem execNvmeFlush_wf (slot : ℕ) (s : State) (hwf : s.wf = true) :
    outWf (execNvmeFlush slot s) = true := by
  simp only [execNvmeFlush]
  repeat' split
  all_goals simp (maxDischargeDepth := 30) [*]

theorem execTlerExpire_wf (slot : ℕ) (lba : ℕ) (s : State) (hwf : s.wf = true) :
    outWf (execTlerExpire slot lba s) = true := by
  simp only [execTlerExpire]
  split <;> simp (maxDischargeDepth := 30) [*]

end Sys2Proof.Machine
end

