-- ==== Sys2Proof/Laws/WfHostAdmin.lean ====
section
/-! SUPPORT. Every operation of Machine/HostAdmin.lean keeps the canonical form of the block's data. -/

namespace Sys2Proof.Machine

@[simp] theorem endAdmin_wf (s : State) (n : ℕ) (st : ℕ × ℕ) (dw0 : optParam ℕ 0) (dw1 : optParam ℕ 0) (hwf : s.wf = true) :
    (endAdmin s n st dw0 dw1).wf = true := by
  simp (maxDischargeDepth := 30) [endAdmin, *]

@[simp] theorem endData_wf (s : State) (n : ℕ) (c : CmdSlot) (data : List Byte) (hwf : s.wf = true) :
    (endData s n c data).wf = true := by
  simp (maxDischargeDepth := 30) [endData, *]

@[simp] theorem freeData_wf (s : State) (len : ℕ) (hwf : s.wf = true) :
    (freeData s len).2.wf = true := by
  simp (maxDischargeDepth := 30) [freeData, *]

@[simp] theorem countQueues_wf (s : State) (p : Port) (hwf : s.wf = true) :
    (countQueues s p).wf = true := by
  simp (maxDischargeDepth := 30) [countQueues, *]

theorem execCreateIoCq_wf (slot : ℕ) (s : State) (hwf : s.wf = true) :
    outWf (execCreateIoCq slot s) = true := by
  simp only [execCreateIoCq]
  split <;> simp (maxDischargeDepth := 30) [*]

theorem execCreateIoSq_wf (slot : ℕ) (s : State) (hwf : s.wf = true) :
    outWf (execCreateIoSq slot s) = true := by
  simp only [execCreateIoSq]
  split <;> simp (maxDischargeDepth := 30) [*]

theorem execDeleteIoSq_wf (slot : ℕ) (s : State) (hwf : s.wf = true) :
    outWf (execDeleteIoSq slot s) = true := by
  unfold execDeleteIoSq
  repeat' split
  all_goals simp_all (maxDischargeDepth := 30)

theorem execDeleteIoCq_wf (slot : ℕ) (s : State) (hwf : s.wf = true) :
    outWf (execDeleteIoCq slot s) = true := by
  simp only [execDeleteIoCq]
  split <;> simp (maxDischargeDepth := 30) [*]

@[simp] theorem rotationalLog_wf (s : State) (hwf : s.wf = true) :
    (rotationalLog s).2.wf = true := by
  simp (maxDischargeDepth := 30) [rotationalLog, *]

@[simp] theorem effectsLog_wf (s : State) (hwf : s.wf = true) :
    (effectsLog s).2.wf = true := by
  simp (maxDischargeDepth := 30) [effectsLog, *]

theorem standardLog_wf (s : State) (p : Port) (lid len : Nat) (h : s.wf = true) (e) (he : standardLog s p lid len = some e) : e.2.wf = true := by
  unfold standardLog at he
  split at he <;> cases he <;> simp [h]

@[simp] theorem logTaken_wf (s : State) (p : Port) (lid : ℕ) (keep : Bool) (hwf : s.wf = true) :
    (logTaken s p lid keep).wf = true := by
  simp (maxDischargeDepth := 30) [logTaken, *]

@[simp] theorem namespaceChanged_wf (s : State) (nsid : ℕ) (ps : List Port) (hwf : s.wf = true) :
    (namespaceChanged s nsid ps).wf = true := by
  unfold namespaceChanged
  repeat' split
  all_goals simp_all (maxDischargeDepth := 30)

theorem execGetLogPage_wf (slot : ℕ) (s : State) (hwf : s.wf = true) :
    outWf (execGetLogPage slot s) = true := by
  unfold execGetLogPage
  split
  · simp [hwf]
  · next c h =>
    dsimp only
    split
    · exact endAdmin_wf _ _ _ _ _ hwf
    · split
      · exact endData_wf _ _ _ _ hwf
      · split
        · exact endData_wf _ _ _ _ hwf
        · split
          · split
            · exact endData_wf _ _ _ _ hwf
            · exact endAdmin_wf _ _ _ _ _ hwf
          · split
            · next d t e => exact endData_wf _ _ _ _ (logTaken_wf _ _ _ _ (standardLog_wf _ _ _ _ hwf _ e))
            · exact endAdmin_wf _ _ _ _ _ hwf

theorem execIdentify_wf (slot : ℕ) (s : State) (hwf : s.wf = true) :
    outWf (execIdentify slot s) = true := by
  unfold execIdentify
  dsimp only
  repeat' split
  all_goals simp (maxDischargeDepth := 30) only [outWf_next, endData, State.emit_wf, endAdmin_wf, State.draw_wf, freeData, hwf]

theorem execNvmeAbort_wf (slot : ℕ) (s : State) (hwf : s.wf = true) :
    outWf (execNvmeAbort slot s) = true := by
  simp only [execNvmeAbort]
  repeat' split
  all_goals simp (maxDischargeDepth := 30) [*]

@[simp] theorem enterPower_wf (s : State) (n : ℕ) (hwf : s.wf = true) :
    (enterPower s n).wf = true := by
  simp (maxDischargeDepth := 30) [enterPower, *]

@[simp] theorem requestPower_wf (s : State) (n : ℕ) (hwf : s.wf = true) :
    (requestPower s n).wf = true := by
  simp (maxDischargeDepth := 30) [requestPower, *]

@[simp] theorem powerEntered_wf (s : State) (hwf : s.wf = true) :
    (powerEntered s).wf = true := by
  simp (maxDischargeDepth := 30) [powerEntered, *]

@[simp] theorem cutEntry_wf (s : State) (n : ℕ) (hwf : s.wf = true) :
    (cutEntry s n).wf = true := by
  simp (maxDischargeDepth := 30) [cutEntry, *]

@[simp] theorem toPhase_wf (s : State) (i : ℕ) (hwf : s.wf = true) :
    (toPhase s i).wf = true := by
  simp (maxDischargeDepth := 30) [toPhase, *]

@[simp] theorem mirrorPoint_wf (s : State) (hwf : s.wf = true) :
    (mirrorPoint s).wf = true := by
  unfold mirrorPoint
  repeat' split
  all_goals simp_all (maxDischargeDepth := 30)

theorem execPowerStateSafePoint_wf (s : State) (hwf : s.wf = true) :
    outWf (execPowerStateSafePoint s) = true := by
  simp only [execPowerStateSafePoint]
  repeat' split
  all_goals simp (maxDischargeDepth := 30) [*]

theorem execPs3IdleTimeout_wf (s : State) (hwf : s.wf = true) :
    outWf (execPs3IdleTimeout s) = true := by
  simp (maxDischargeDepth := 30) [execPs3IdleTimeout, *]

@[simp] theorem setFeature_wf (s : State) (p : Port) (k : ℕ) (v : ℕ) (hwf : s.wf = true) :
    (setFeature s p k v).wf = true := by
  simp (maxDischargeDepth := 30) [setFeature, *]

@[simp] theorem reservationDone_wf (s : State) (n : ℕ) (c : CmdSlot) (old : Reservation) (new : Reservation) (hwf : s.wf = true) :
    (reservationDone s n c old new).wf = true := by
  simp (maxDischargeDepth := 30) [reservationDone, *]

@[simp] theorem setFeatureCommand_wf (s : State) (n : ℕ) (c : CmdSlot) (hwf : s.wf = true) :
    (setFeatureCommand s n c).wf = true := by
  simp only [setFeatureCommand]
  repeat' split
  all_goals simp (maxDischargeDepth := 30) [*]

theorem execSetFeatures_wf (slot : ℕ) (s : State) (hwf : s.wf = true) :
    outWf (execSetFeatures slot s) = true := by
  simp only [execSetFeatures]
  split <;> simp (maxDischargeDepth := 30) [*]

theorem execSetFeaturesPowerManagement_wf (slot : ℕ) (s : State) (hwf : s.wf = true) :
    outWf (execSetFeaturesPowerManagement slot s) = true := by
  simp only [execSetFeaturesPowerManagement]
  split <;> simp (maxDischargeDepth := 30) [*]

theorem execSetFeaturesErrorRecovery_wf (slot : ℕ) (s : State) (hwf : s.wf = true) :
    outWf (execSetFeaturesErrorRecovery slot s) = true := by
  simp only [execSetFeaturesErrorRecovery]
  split <;> simp (maxDischargeDepth := 30) [*]

theorem execSetFeaturesVwc_wf (slot : ℕ) (s : State) (hwf : s.wf = true) :
    outWf (execSetFeaturesVwc slot s) = true := by
  simp only [execSetFeaturesVwc]
  split <;> simp (maxDischargeDepth := 30) [*]

theorem execGetFeatures_wf (slot : ℕ) (s : State) (hwf : s.wf = true) :
    outWf (execGetFeatures slot s) = true := by
  simp only [execGetFeatures]
  repeat' split
  all_goals simp (maxDischargeDepth := 30) [*]

@[simp] theorem descriptorUpdate_wf (s : State) (hwf : s.wf = true) :
    (descriptorUpdate s).wf = true := by
  simp (maxDischargeDepth := 30) [descriptorUpdate, *]

theorem execNamespaceCreate_wf (slot : ℕ) (nsze : ℕ) (lbaFormat : ℕ) (s : State) (hwf : s.wf = true) :
    outWf (execNamespaceCreate slot nsze lbaFormat s) = true := by
  simp only [execNamespaceCreate]
  repeat' split
  all_goals simp (maxDischargeDepth := 30) [*]

@[simp] theorem freeStripes_wf (s : State) (first : ℕ) (n : ℕ) (hwf : s.wf = true) :
    (freeStripes s first n).wf = true := by
  simp (maxDischargeDepth := 30) [freeStripes, *]

@[simp] theorem freeMaps_wf (s : State) (hwf : s.wf = true) :
    (freeMaps s).wf = true := by
  simp (maxDischargeDepth := 30) [freeMaps, *]

@[simp] theorem cancelReshape_wf (s : State) (hwf : s.wf = true) :
    (cancelReshape s).wf = true := by
  simp only [cancelReshape]
  split <;> simp (maxDischargeDepth := 30) [*]

@[simp] theorem discardNamespace_wf (s : State) (ns : Namespace) (hwf : s.wf = true) :
    (discardNamespace s ns).wf = true := by
  simp only [discardNamespace]
  split <;> simp (maxDischargeDepth := 30) [*]

@[simp] theorem deleteNamespace_wf (s : State) (nsid : ℕ) (hwf : s.wf = true) :
    (deleteNamespace s nsid).wf = true := by
  unfold deleteNamespace
  repeat' split
  all_goals simp_all (maxDischargeDepth := 30)

theorem execNamespaceDelete_wf (slot : ℕ) (s : State) (hwf : s.wf = true) :
    outWf (execNamespaceDelete slot s) = true := by
  unfold execNamespaceDelete
  repeat' split
  all_goals simp_all (maxDischargeDepth := 30)

theorem execNamespaceAttachment_wf (slot : ℕ) (controllers : List Port) (s : State) (hwf : s.wf = true) :
    outWf (execNamespaceAttachment slot controllers s) = true := by
  simp only [execNamespaceAttachment]
  repeat' split
  all_goals simp (maxDischargeDepth := 30) [*]

theorem execGetLbaStatus_wf (slot : ℕ) (s : State) (hwf : s.wf = true) :
    outWf (execGetLbaStatus slot s) = true := by
  simp only [execGetLbaStatus]
  repeat' split
  all_goals simp (maxDischargeDepth := 30) [*]

theorem execInvalidOpcode_wf (slot : ℕ) (s : State) (hwf : s.wf = true) :
    outWf (execInvalidOpcode slot s) = true := by
  simp only [execInvalidOpcode]
  split <;> simp (maxDischargeDepth := 30) [*]

@[simp] theorem notifyHosts_wf (s : State) (nsid : ℕ) (maskBit : ℕ) (hosts : List ℕ) (hwf : s.wf = true) :
    (notifyHosts s nsid maskBit hosts).wf = true := by
  unfold notifyHosts
  repeat' split
  all_goals simp_all (maxDischargeDepth := 30)

@[simp] theorem reserveWith_wf (s : State) (n : ℕ) (c : CmdSlot) (f : Reservation → ℕ × ℕ ⊕ Reservation) (hwf : s.wf = true) :
    (reserveWith s n c f).wf = true := by
  simp only [reserveWith]
  repeat' split
  all_goals simp (maxDischargeDepth := 30) [*]

theorem execReservationRegister_wf (slot : ℕ) (crkey : ℕ) (nrkey : ℕ) (s : State) (hwf : s.wf = true) :
    outWf (execReservationRegister slot crkey nrkey s) = true := by
  simp only [execReservationRegister]
  split <;> simp (maxDischargeDepth := 30) [*]

theorem execReservationReport_wf (slot : ℕ) (s : State) (hwf : s.wf = true) :
    outWf (execReservationReport slot s) = true := by
  simp only [execReservationReport]
  repeat' split
  all_goals simp (maxDischargeDepth := 30) [*]

@[simp] theorem acquire_wf (s : State) (n : ℕ) (c : CmdSlot) (crkey : ℕ) (prkey : ℕ) (hwf : s.wf = true) :
    (acquire s n c crkey prkey).wf = true := by
  simp (maxDischargeDepth := 30) [acquire, *]

theorem execReservationAcquire_wf (slot : ℕ) (crkey : ℕ) (prkey : ℕ) (s : State) (hwf : s.wf = true) :
    outWf (execReservationAcquire slot crkey prkey s) = true := by
  simp only [execReservationAcquire]
  split <;> simp (maxDischargeDepth := 30) [*]

theorem execReservationPreemptAndAbort_wf (slot : ℕ) (crkey : ℕ) (prkey : ℕ) (s : State) (hwf : s.wf = true) :
    outWf (execReservationPreemptAndAbort slot crkey prkey s) = true := by
  unfold execReservationPreemptAndAbort
  repeat' split
  all_goals simp_all (maxDischargeDepth := 30)

theorem execReservationRelease_wf (slot : ℕ) (crkey : ℕ) (s : State) (hwf : s.wf = true) :
    outWf (execReservationRelease slot crkey s) = true := by
  simp only [execReservationRelease]
  split <;> simp (maxDischargeDepth := 30) [*]

theorem execReservationStateWritten_wf (ns : ℕ) (s : State) (hwf : s.wf = true) :
    outWf (execReservationStateWritten ns s) = true := by
  unfold execReservationStateWritten
  repeat' split
  all_goals simp_all (maxDischargeDepth := 30)

end Sys2Proof.Machine
end

