-- ==== Sys2Proof/Laws/WfHostReset.lean ====
section
/-! SUPPORT. Every operation of Machine/HostReset.lean keeps the canonical form of the block's data. -/

namespace Sys2Proof.Machine

@[simp] theorem dropCommands_wf (s : State) (p : Port) (hwf : s.wf = true) :
    (dropCommands s p).wf = true := by
  unfold dropCommands
  repeat' split
  all_goals simp_all (maxDischargeDepth := 30)

@[simp] theorem resetNow_wf (s : State) (p : Port) (hwf : s.wf = true) :
    (resetNow s p).wf = true := by
  simp (maxDischargeDepth := 30) [resetNow, *]

@[simp] theorem controllerReset_wf (s : State) (p : Port) (hwf : s.wf = true) :
    (controllerReset s p).wf = true := by
  simp (maxDischargeDepth := 30) [controllerReset, *]

@[simp] theorem becomeReady_wf (s : State) (p : Port) (hwf : s.wf = true) :
    (becomeReady s p).wf = true := by
  simp (maxDischargeDepth := 30) [becomeReady, *]

theorem execCcEnClear_wf (p : Port) (s : State) (hwf : s.wf = true) :
    outWf (execCcEnClear p s) = true := by
  simp (maxDischargeDepth := 30) [execCcEnClear, *]

theorem execCcEnSet_wf (p : Port) (s : State) (hwf : s.wf = true) :
    outWf (execCcEnSet p s) = true := by
  simp (maxDischargeDepth := 30) [execCcEnSet, *]

theorem execFunctionLevelReset_wf (p : Port) (s : State) (hwf : s.wf = true) :
    outWf (execFunctionLevelReset p s) = true := by
  simp (maxDischargeDepth := 30) [execFunctionLevelReset, *]

@[simp] theorem linkDown_wf (s : State) (p : Port) (hwf : s.wf = true) :
    (linkDown s p).wf = true := by
  simp (maxDischargeDepth := 30) [linkDown, *]

theorem execPcieLinkDown_wf (p : Port) (s : State) (hwf : s.wf = true) :
    outWf (execPcieLinkDown p s) = true := by
  simp (maxDischargeDepth := 30) [execPcieLinkDown, *]

theorem execPerstAssert_wf (p : Port) (s : State) (hwf : s.wf = true) :
    outWf (execPerstAssert p s) = true := by
  simp (maxDischargeDepth := 30) [execPerstAssert, *]

theorem execPerstDeassert_wf (p : Port) (s : State) (hwf : s.wf = true) :
    outWf (execPerstDeassert p s) = true := by
  simp (maxDischargeDepth := 30) [execPerstDeassert, *]

theorem execLinkTrainingDone_wf (p : Port) (speed : ℕ) (width : ℕ) (s : State) (hwf : s.wf = true) :
    outWf (execLinkTrainingDone p speed width s) = true := by
  simp (maxDischargeDepth := 30) [execLinkTrainingDone, *]

theorem execNvmSubsystemReset_wf (s : State) (hwf : s.wf = true) :
    outWf (execNvmSubsystemReset s) = true := by
  unfold execNvmSubsystemReset
  repeat' split
  all_goals simp_all (maxDischargeDepth := 30)

theorem execShutdownNormal_wf (p : Port) (s : State) (hwf : s.wf = true) :
    outWf (execShutdownNormal p s) = true := by
  simp (maxDischargeDepth := 30) [execShutdownNormal, *]

theorem execShutdownAbrupt_wf (p : Port) (s : State) (hwf : s.wf = true) :
    outWf (execShutdownAbrupt p s) = true := by
  simp (maxDischargeDepth := 30) [execShutdownAbrupt, *]

end Sys2Proof.Machine
end

