-- ==== Sys2Proof/Laws/WfStitch.lean ====
section
/-! SUPPORT. Every operation of Machine/Stitch.lean keeps the canonical form of the block's data. -/

namespace Sys2Proof.Machine

@[simp] theorem offerRebuilt_wf (s : State) (r : Run2) (m : StitchMap) (x : Subst) (g : ℕ) (offset : ℕ) (v : OffsetView) (hwf : s.wf = true) :
    (offerRebuilt s r m x g offset v).wf = true := by
  simp only [offerRebuilt]
  refine State.each_wf hwf fun t j h => ?_
  repeat' split
  all_goals simp [h]

@[simp] theorem loseBlocks_wf (s : State) (r : Run2) (m : StitchMap) (g : ℕ) (offset : ℕ) (cause : ℕ) (members : List ℕ) (hwf : s.wf = true) :
    (loseBlocks s r m g offset cause members).wf = true := by
  unfold loseBlocks
  repeat' split
  all_goals simp_all (maxDischargeDepth := 30)

@[simp] theorem mirrorRemap_wf (s : State) (k : ℕ) (hwf : s.wf = true) :
    (mirrorRemap s k).wf = true := by
  simp (maxDischargeDepth := 30) [mirrorRemap, *]

@[simp] theorem makeStale_wf (s : State) (r : Run2) (m : StitchMap) (x : Subst) (g : ℕ) (j : ℕ) (hwf : s.wf = true) :
    (makeStale s r m x g j).wf = true := by
  simp only [makeStale]
  split <;> simp (maxDischargeDepth := 30) [*]

@[simp] theorem relocate_wf (s : State) (r : Run2) (m : StitchMap) (x : Subst) (g : ℕ) (j : ℕ) (hwf : s.wf = true) :
    (relocate s r m x g j).wf = true := by
  simp only [relocate]
  split <;> simp (maxDischargeDepth := 30) [*]

@[simp] theorem scrubPoisoned_wf (s : State) (r : Run2) (m : StitchMap) (e : ℕ × CacheSlot) (hwf : s.wf = true) :
    (scrubPoisoned s r m e).wf = true := by
  simp (maxDischargeDepth := 30) [scrubPoisoned, *]

@[simp] theorem methodOf_wf (fill : Bool) (ks : List ℕ) (s : State) (hwf : s.wf = true) :
    (methodOf fill ks s).2.wf = true := by
  simp only [methodOf]
  repeat' split
  all_goals simp (maxDischargeDepth := 30) [*]

theorem execDestageUpdate_wf (stripe : ℕ) (reads : List OffsetReads) (s : State) (hwf : s.wf = true) :
    outWf (execDestageUpdate stripe reads s) = true := by
  unfold execDestageUpdate
  dsimp only
  split
  · exact hwf
  split
  · exact hwf
  split
  · simp [hwf]
  split
  · exact hwf
  · simp +contextual (maxDischargeDepth := 30) [hwf, *]

@[simp] theorem retireBlocks_wf (s : State) (r : Run2) (dbas : List (ℕ × ℕ)) (hwf : s.wf = true) :
    (retireBlocks s r dbas).wf = true := by
  simp (maxDischargeDepth := 30) [retireBlocks, *]

@[simp] theorem settleDrain_wf (s : State) (hwf : s.wf = true) :
    (settleDrain s).wf = true := by
  simp (maxDischargeDepth := 30) [settleDrain, *]

theorem execStripeUpdateRetire_wf (stripe : ℕ) (s : State) (hwf : s.wf = true) :
    outWf (execStripeUpdateRetire stripe s) = true := by
  simp only [execStripeUpdateRetire]
  split <;> simp (maxDischargeDepth := 30) [*]

@[simp] theorem saveJobs_wf (s : State) (hwf : s.wf = true) :
    (saveJobs s).wf = true := by
  simp (maxDischargeDepth := 30) [saveJobs, *]

theorem execWiMirrorPoint_wf (s : State) (hwf : s.wf = true) :
    outWf (execWiMirrorPoint s) = true := by
  simp (maxDischargeDepth := 30) [execWiMirrorPoint, *]

@[simp] theorem raiseHead_wf (s : State) (u : ℕ) (detail : optParam ℕ 0) (hwf : s.wf = true) :
    (raiseHead s u detail).wf = true := by
  simp (maxDischargeDepth := 30) [raiseHead, *]

theorem execMirrorRetry_wf (page : ℕ) (ok : Bool) (s : State) (hwf : s.wf = true) :
    outWf (execMirrorRetry page ok s) = true := by
  unfold execMirrorRetry
  repeat' split
  all_goals simp_all (maxDischargeDepth := 30)

@[simp] theorem countReplay_wf (s : State) (hwf : s.wf = true) :
    (countReplay s).wf = true := by
  simp (maxDischargeDepth := 30) [countReplay, *]

theorem execJournalReplay_wf (seq : ℕ) (s : State) (hwf : s.wf = true) :
    outWf (execJournalReplay seq s) = true := by
  simp only [execJournalReplay]
  repeat' split
  all_goals simp (maxDischargeDepth := 30) [*]

@[simp] theorem resyncStripe_wf (s : State) (g : ℕ) (reads : List OffsetReads) (hwf : s.wf = true) :
    (resyncStripe s g reads).wf = true := by
  unfold resyncStripe
  repeat' split
  all_goals simp_all (maxDischargeDepth := 30)

theorem execResyncGroup_wf (group : ℕ) (reads : List (ℕ × OffsetReads)) (s : State) (hwf : s.wf = true) :
    outWf (execResyncGroup group reads s) = true := by
  unfold execResyncGroup
  repeat' split
  all_goals simp_all (maxDischargeDepth := 30)

end Sys2Proof.Machine
end

