-- ==== Sys2Proof/Laws/WfRebuild.lean ====
section
/-! SUPPORT. Every operation of Machine/Rebuild.lean keeps the canonical form of the block's data. -/

namespace Sys2Proof.Machine

@[simp] theorem recordRetirement_wf (s : State) (id : ℕ) (hwf : s.wf = true) :
    (recordRetirement s id).wf = true := by
  simp (maxDischargeDepth := 30) [recordRetirement, *]

@[simp] theorem settleHolders_wf (s : State) (hwf : s.wf = true) :
    (settleHolders s).wf = true := by
  simp only [settleHolders]
  split <;> simp (maxDischargeDepth := 30) [*]

theorem execHolderMoveDone_wf (holder : Fin 2) (surface : Fin 48) (s : State) (hwf : s.wf = true) :
    outWf (execHolderMoveDone holder surface s) = true := by
  simp (maxDischargeDepth := 30) [execHolderMoveDone, *]

@[simp] theorem settleJob_wf (s : State) (j : Job) (hwf : s.wf = true) :
    (settleJob s j).wf = true := by
  simp only [settleJob]
  split <;> simp (maxDischargeDepth := 30) [*]

@[simp] theorem settleJobs_wf (s : State) (hwf : s.wf = true) :
    (settleJobs s).wf = true := by
  unfold settleJobs
  repeat' split
  all_goals simp_all (maxDischargeDepth := 30)

@[simp] theorem dropStale_wf (s : State) (u : ℕ) (hwf : s.wf = true) :
    (dropStale s u).wf = true := by
  simp (maxDischargeDepth := 30) [dropStale, *]

@[simp] theorem moveEntries_wf (s : State) (u : Nat) (h : s.wf = true) : (moveEntries s u).wf = true := by
  unfold moveEntries
  refine State.each_wf (by simp (maxDischargeDepth := 30) [*]) fun t x ht => ?_
  repeat' first | (simp +contextual (maxDischargeDepth := 30) [*]; done) | split

@[simp] theorem retireSurfaceNow_wf (s : State) (u : ℕ) (hwf : s.wf = true) :
    (retireSurfaceNow s u).wf = true := by
  simp (maxDischargeDepth := 30) [retireSurfaceNow, *]

@[simp] theorem retireSurfaceAsk_wf (s : State) (u : ℕ) (hwf : s.wf = true) :
    (retireSurfaceAsk s u).2.wf = true := by
  simp only [retireSurfaceAsk]
  repeat' split
  all_goals simp (maxDischargeDepth := 30) [*]

@[simp] theorem innerUpdate_wf (s : State) (g : ℕ) (hwf : s.wf = true) :
    (innerUpdate s g).wf = true := by
  simp (maxDischargeDepth := 30) [innerUpdate, *]

@[simp] theorem rebuildOffset_wf (s : State) (r : Run2) (m : StitchMap) (x : Subst) (g : ℕ) (cause : ℕ) (o : OffsetReads) (hwf : s.wf = true) :
    (rebuildOffset s r m x g cause o).wf = true := by
  simp (maxDischargeDepth := 30) [rebuildOffset, *]

@[simp] theorem fillMember_wf (s : State) (r : Run2) (m : StitchMap) (x : Subst) (g : ℕ) (j : ℕ) (hwf : s.wf = true) :
    (fillMember s r m x g j).wf = true := by
  simp only [fillMember]
  repeat' split
  all_goals simp (maxDischargeDepth := 30) [*]

@[simp] theorem settleStaleAll_wf (s : State) (hwf : s.wf = true) :
    (settleStaleAll s).wf = true := by
  unfold settleStaleAll
  repeat' split
  all_goals simp_all (maxDischargeDepth := 30)

@[simp] theorem skipGens_wf (s : State) (n : ℕ) (hwf : s.wf = true) :
    (skipGens s n).wf = true := by
  simp (maxDischargeDepth := 30) [skipGens, *]

theorem execRebuildStripe_wf (stripe : ℕ) (reads : List OffsetReads) (s : State) (hwf : s.wf = true) :
    outWf (execRebuildStripe stripe reads s) = true := by
  unfold execRebuildStripe
  dsimp only
  split
  · exact hwf
  rename_i r _
  split
  · exact hwf
  split
  · simp [hwf]
  have key : (List.foldl (fun s_1 o => match readOf reads o with
        | some rd => rebuildOffset s_1 r (r.map s) (substOf s (r.map s)) stripe 1 rd
        | none => s_1) s (List.range 64)).wf = true := foldl_wf hwf fun t o ht => by split <;> simp [ht]
  exact settleJobs_wf _ (settleStaleAll_wf _ (skipGens_wf _ _ (State.each_wf key fun t j ht => fillMember_wf _ _ _ _ _ _ ht)))

theorem execRebuildCheckpoint_wf (s : State) (hwf : s.wf = true) :
    outWf (execRebuildCheckpoint s) = true := by
  simp (maxDischargeDepth := 30) [execRebuildCheckpoint, *]

@[simp] theorem suspect_wf (s : State) (g : ℕ) (hwf : s.wf = true) :
    (suspect s g).wf = true := by
  simp (maxDischargeDepth := 30) [suspect, *]

@[simp] theorem patrolRepair_wf (s : State) (g : ℕ) (hwf : s.wf = true) :
    (patrolRepair s g).wf = true := by
  simp (maxDischargeDepth := 30) [patrolRepair, *]

@[simp] theorem patrolOffset_wf (s : State) (r : Run2) (m : StitchMap) (x : Subst) (g : ℕ) (o : OffsetReads) (hwf : s.wf = true) :
    (patrolOffset s r m x g o).1.wf = true := by
  simp only [patrolOffset]
  repeat' split
  all_goals simp (maxDischargeDepth := 30) [*]

theorem execPatrolStripe_wf (stripe : ℕ) (reads : List OffsetReads) (s : State) (hwf : s.wf = true) :
    outWf (execPatrolStripe stripe reads s) = true := by
  unfold execPatrolStripe
  dsimp only
  split
  · exact hwf
  split
  · exact hwf
  have tail : ∀ acc : State × Bool, acc.1.wf = true → ∀ k u : State → State, (∀ t : State, t.wf = true → (k t).wf = true) →
      (∀ t : State, t.wf = true → (u t).wf = true) →
      (layoutChanged (if (patrolTarget (k (if acc.2 then u acc.1 else acc.1))).isNone = true then
        (k (if acc.2 then u acc.1 else acc.1)).setNum Obj.patrolNext 0 else k (if acc.2 then u acc.1 else acc.1))).wf = true :=
    fun acc h k u hk hu => by
      have h1 : (k (if acc.2 then u acc.1 else acc.1)).wf = true := hk _ (by split <;> simp [hu, h])
      generalize k (if acc.2 then u acc.1 else acc.1) = y at h1 ⊢
      split <;> simp [h1]
  exact tail _ (foldl_fst_wf (by split <;> simp [hwf]) fun y o hy => by split <;> simp [hy]) (·.setNum Obj.patrolNext (stripe + 1))
    (suspect · stripe) (by simp +contextual) (by simp +contextual)

@[simp] theorem reshapeAsk_wf (s : State) (value : List Byte) (hwf : s.wf = true) :
    (reshapeAsk s value).2.wf = true := by
  simp only [reshapeAsk]
  repeat' split
  all_goals simp (maxDischargeDepth := 30) [*]

@[simp] theorem awaitSwitch_wf (s : State) (rs : Reshape) (hwf : s.wf = true) :
    (awaitSwitch s rs).wf = true := by
  simp (maxDischargeDepth := 30) [awaitSwitch, *]

@[simp] theorem copyStripe_wf (r : Run2) (m : StitchMap) (s : State) (g : ℕ) (hwf : s.wf = true) :
    (copyStripe r m s g).wf = true := by
  unfold copyStripe
  repeat' split
  all_goals simp_all (maxDischargeDepth := 30)

theorem execReshapeGroupCopy_wf (s : State) (hwf : s.wf = true) :
    outWf (execReshapeGroupCopy s) = true := by
  unfold execReshapeGroupCopy
  repeat' split
  all_goals simp_all (maxDischargeDepth := 30)

theorem execReshapeSwitch_wf (s : State) (hwf : s.wf = true) :
    outWf (execReshapeSwitch s) = true := by
  simp only [execReshapeSwitch]
  repeat' split
  all_goals simp (maxDischargeDepth := 30) [*]

@[simp] theorem relocateChunk_wf (s : State) (c : Run2 × ℕ × ℕ) (hwf : s.wf = true) :
    (relocateChunk s c).wf = true := by
  simp (maxDischargeDepth := 30) [relocateChunk, *]

@[simp] theorem makeGrown_wf (s : State) (u : ℕ) (d : Defect) (hwf : s.wf = true) :
    optWf (makeGrown s u d) = true := by
  simp only [makeGrown]
  split <;> simp (maxDischargeDepth := 30) [*]

@[simp] theorem settleTrack_wf (s : State) (u : Nat) (z : Zone) (track : Nat) (h : s.wf = true) : (settleTrack s u z track).wf = true := by
  simp only [settleTrack]
  split
  · exact h
  · refine State.each_wf (getD_wf _ _ (makeGrown_wf _ _ _ h) (by simp [h])) fun t row ht => ?_
    split <;> simp [ht]

@[simp] theorem relocateSector_wf (s : State) (u : ℕ) (track : ℕ) (p : ℕ) (hwf : s.wf = true) :
    (relocateSector s u track p).wf = true := by
  simp only [relocateSector]
  split <;> simp (maxDischargeDepth := 30) [*]

theorem execGrownDefectReadback_wf (surface : Fin 48) (track : ℕ) (psector : ℕ) (converged : Bool) (taBoth : Bool) (freezeOffset : ℕ) (freezeLen : ℕ) (s : State) (hwf : s.wf = true) :
    outWf (execGrownDefectReadback surface track psector converged taBoth freezeOffset freezeLen s) = true := by
  simp only [execGrownDefectReadback]
  repeat' split
  all_goals simp (maxDischargeDepth := 30) [hwf]

theorem execGrownEntryCommit_wf (surface : Fin 48) (entry : List Byte) (s : State) (hwf : s.wf = true) :
    outWf (execGrownEntryCommit surface entry s) = true := by
  simp only [execGrownEntryCommit]
  repeat' split
  all_goals simp (maxDischargeDepth := 30) [*]

@[simp] theorem closeStatus_wf (s : State) (status : ℕ) (step : ℕ) (result : Option ℕ) (hwf : s.wf = true) :
    (closeStatus s status step result).wf = true := by
  simp (maxDischargeDepth := 30) [closeStatus, *]

@[simp] theorem climbRecovered_wf (s : State) (u : ℕ) (track : ℕ) (p : ℕ) (status : ℕ) (c : Climb) (hwf : s.wf = true) :
    (climbRecovered s u track p status c).wf = true := by
  simp (maxDischargeDepth := 30) [climbRecovered, *]

@[simp] theorem stripeWaits_wf (s : State) (u : ℕ) (track : ℕ) (p : ℕ) (hwf : s.wf = true) :
    optWf (stripeWaits s u track p) = true := by
  simp only [stripeWaits]
  repeat' split
  all_goals simp (maxDischargeDepth := 30) [*]

theorem execLadderStepAdvance_wf (surface : Fin 48) (track : ℕ) (psector : ℕ) (top : ℕ) (status : ℕ) (outcome : StepOutcome) (s : State) (hwf : s.wf = true) :
    outWf (execLadderStepAdvance surface track psector top status outcome s) = true := by
  unfold execLadderStepAdvance
  dsimp only
  split
  · next t e =>
    split at e
    · have := stripeWaits_wf s surface.val track psector hwf
      rw [e] at this
      exact this
    · cases e
  · repeat' split
    all_goals simp (maxDischargeDepth := 30) [*]

end Sys2Proof.Machine
end

