-- ==== Sys2Proof/Laws/WfDma.lean ====
section
/-! SUPPORT. Every operation of Machine/Dma.lean keeps the canonical form of the block's data. -/

namespace Sys2Proof.Machine

@[simp] theorem State.setFab_wf (s : State) (f : Fabric) (hwf : s.wf = true) :
    (State.setFab s f).wf = true := by
  simp (maxDischargeDepth := 30) [State.setFab, *]

@[simp] theorem State.modDma_wf (s : State) (ch : ℕ) (f : DmaCh → DmaCh) (hwf : s.wf = true) :
    (State.modDma s ch f).wf = true := by
  simp (maxDischargeDepth := 30) [State.modDma, *]

@[simp] theorem dmaBlock_wf (s : State) (ch : ℕ) (hwf : s.wf = true) :
    (dmaBlock s ch).wf = true := by
  simp (maxDischargeDepth := 30) [dmaBlock, *]

@[simp] theorem dmaBlocks_wf (ch fuel : Nat) (s : State) (h : s.wf = true) : (dmaBlocks ch fuel s).wf = true := by
  induction fuel generalizing s with
  | zero => simpa [dmaBlocks] using h
  | succ n ih =>
    simp only [dmaBlocks]
    repeat' first | (simp +contextual (maxDischargeDepth := 30) [*]; done) | split

@[simp] theorem dmaTo_wf (s : State) (ch : ℕ) (bytes : ℕ) (hwf : s.wf = true) :
    (dmaTo s ch bytes).wf = true := by
  simp (maxDischargeDepth := 30) [dmaTo, *]

@[simp] theorem dmaNotify_wf (s : State) (ch : ℕ) (ctrl : ℕ) (code : ℕ) (hwf : s.wf = true) :
    (dmaNotify s ch ctrl code).wf = true := by
  simp (maxDischargeDepth := 30) [dmaNotify, *]

@[simp] theorem settleDma_wf (s : State) (ch : ℕ) (hwf : s.wf = true) :
    (settleDma s ch).wf = true := by
  simp (maxDischargeDepth := 30) [settleDma, *]

@[simp] theorem dmaIdle_wf (s : State) (ch : ℕ) (word : ℕ) (hwf : s.wf = true) :
    (dmaIdle s ch word).wf = true := by
  simp (maxDischargeDepth := 30) [dmaIdle, *]

@[simp] theorem dmaEnd_wf (s : State) (ch : ℕ) (code : ℕ) (indet : ℕ) (hwf : s.wf = true) :
    (dmaEnd s ch code indet).wf = true := by
  simp (maxDischargeDepth := 30) [dmaEnd, *]

@[simp] theorem dmaStart_wf (s : State) (ch : ℕ) (chain : Bool) (desc : ℕ) (src : ℕ) (dst : ℕ) (next : ℕ) (count : ℕ) (ctrl : ℕ) (hwf : s.wf = true) :
    (dmaStart s ch chain desc src dst next count ctrl).wf = true := by
  simp only [dmaStart]
  split <;> simp (maxDischargeDepth := 30) [*]

@[simp] theorem dmaCtrl_wf (s : State) (ch : ℕ) (v : ℕ) (hwf : s.wf = true) :
    (dmaCtrl s ch v).wf = true := by
  simp (maxDischargeDepth := 30) [dmaCtrl, *]

@[simp] theorem dmaDisable_wf (s : State) (ch : ℕ) (hwf : s.wf = true) :
    (dmaDisable s ch).wf = true := by
  simp (maxDischargeDepth := 30) [dmaDisable, *]

@[simp] theorem dmaFence_wf (s : State) (ch : ℕ) (hwf : s.wf = true) :
    (dmaFence s ch).wf = true := by
  simp (maxDischargeDepth := 30) [dmaFence, *]

theorem execDmaDescriptorFetched_wf (ch : Fin 8) (ok : Bool) (s : State) (hwf : s.wf = true) :
    outWf (execDmaDescriptorFetched ch ok s) = true := by
  simp (maxDischargeDepth := 30) [execDmaDescriptorFetched, *]

theorem execDmaBeatsAcknowledged_wf (ch : Fin 8) (s : State) (hwf : s.wf = true) :
    outWf (execDmaBeatsAcknowledged ch s) = true := by
  simp (maxDischargeDepth := 30) [execDmaBeatsAcknowledged, *]

theorem execDmaReadbackDone_wf (ch : Fin 8) (s : State) (hwf : s.wf = true) :
    outWf (execDmaReadbackDone ch s) = true := by
  simp (maxDischargeDepth := 30) [execDmaReadbackDone, *]

theorem execDmaBeatError_wf (ch : Fin 8) (kind : BeatError) (doneBytes : ℕ) (indet : ℕ) (s : State) (hwf : s.wf = true) :
    outWf (execDmaBeatError ch kind doneBytes indet s) = true := by
  simp (maxDischargeDepth := 30) [execDmaBeatError, *]

@[simp] theorem lanesGone_wf (s : State) (lane : ℕ) (hwf : s.wf = true) :
    (lanesGone s lane).wf = true := by
  simp (maxDischargeDepth := 30) [lanesGone, *]

@[simp] theorem laneStop_wf (s : State) (lane : ℕ) (hwf : s.wf = true) :
    (laneStop s lane).wf = true := by
  simp (maxDischargeDepth := 30) [laneStop, *]

@[simp] theorem laneRetire_wf (s : State) (lane : ℕ) (hwf : s.wf = true) :
    (laneRetire s lane).wf = true := by
  simp (maxDischargeDepth := 30) [laneRetire, *]

theorem execFabricNak_wf (lane : Fin 32) (requester : Fin 28) (s : State) (hwf : s.wf = true) :
    outWf (execFabricNak lane requester s) = true := by
  simp only [execFabricNak]
  repeat' split
  all_goals simp (maxDischargeDepth := 30) [*]

theorem execFabricAck_wf (lane : Fin 32) (requester : Fin 28) (beats : ℕ) (s : State) (hwf : s.wf = true) :
    outWf (execFabricAck lane requester beats s) = true := by
  simp only [execFabricAck]
  split <;> simp (maxDischargeDepth := 30) [*]

@[simp] theorem fillTokens_wf (s : State) (hwf : s.wf = true) :
    (fillTokens s).wf = true := by
  simp (maxDischargeDepth := 30) [fillTokens, *]

@[simp] theorem reservedNext_wf (s : State) (l : List Beat) (hwf : s.wf = true) :
    (reservedNext s l).2.wf = true := by
  simp only [reservedNext]
  split <;> simp (maxDischargeDepth := 30) [*]

@[simp] theorem enterRegion_wf (s : State) (l : List Beat) (r : ℕ) (hwf : s.wf = true) :
    (enterRegion s l r).wf = true := by
  simp (maxDischargeDepth := 30) [enterRegion, *]

@[simp] theorem pickRegion_wf (l : List Beat) (fuel : Nat) (s : State) (h : s.wf = true) : (pickRegion l fuel s).wf = true := by
  induction fuel generalizing s with
  | zero => simpa [pickRegion] using h
  | succ n ih =>
    simp only [pickRegion]
    repeat' first | (simp +contextual (maxDischargeDepth := 30) [*]; done) | split

@[simp] theorem pickRequester_wf (s : State) (l : List Beat) (hwf : s.wf = true) :
    (pickRequester s l).2.wf = true := by
  simp only [pickRequester]
  repeat' split
  all_goals simp (maxDischargeDepth := 30) [*]

@[simp] theorem serveBeat_wf (s : State) (b : Beat) (hwf : s.wf = true) :
    (serveBeat s b).wf = true := by
  simp only [serveBeat]
  split <;> simp (maxDischargeDepth := 30) [*]

theorem execArbiterGrant_wf (waiting : List Beat) (s : State) (hwf : s.wf = true) :
    outWf (execArbiterGrant waiting s) = true := by
  unfold execArbiterGrant
  dsimp only
  split
  · simpa
  · have hs : (fillTokens s).wf = true := fillTokens_wf s hwf
    generalize List.filter (beatReady s) waiting = l
    generalize fillTokens s = s at hs ⊢
    split
    next b t e =>
      have ht := reservedNext_wf s l hs
      rw [e] at ht
      simp (maxDischargeDepth := 30) [*]
    next t e =>
      have ht := reservedNext_wf s l hs
      rw [e] at ht
      have hp := pickRegion_wf l 16 t ht
      generalize pickRegion l 16 t = p at hp ⊢
      have hq := pickRequester_wf p l hp
      generalize pickRequester p l = q at hq ⊢
      split
      · split <;> simp (maxDischargeDepth := 30) [*]
      · simpa

end Sys2Proof.Machine
end

