-- ==== Sys2Proof/Laws/WfCollector.lean ====
section
/-! SUPPORT. Every operation of Machine/Collector.lean keeps the canonical form of the block's data. -/

namespace Sys2Proof.Machine

@[simp] theorem settleRates_wf (s : State) (hwf : s.wf = true) :
    (settleRates s).wf = true := by
  simp (maxDischargeDepth := 30) [settleRates, *]

@[simp] theorem stopPlayer_wf (s : State) (p : ℕ) (st : ℕ) (hwf : s.wf = true) :
    (stopPlayer s p st).wf = true := by
  simp only [stopPlayer]
  split <;> simp (maxDischargeDepth := 30) [*]

@[simp] theorem blockFence_wf (s : State) (id : ℕ) (hwf : s.wf = true) :
    (blockFence s id).wf = true := by
  simp (maxDischargeDepth := 30) [blockFence, *]

@[simp] theorem stopUnit_wf (s : State) (o : Owner) (st : ℕ) (hwf : s.wf = true) :
    (stopUnit s o st).wf = true := by
  simp only [stopUnit]
  split <;> simp (maxDischargeDepth := 30) [*]

@[simp] theorem fenceUnit_wf (s : State) (id : ℕ) (o : Owner) (hwf : s.wf = true) :
    (fenceUnit s id o).wf = true := by
  simp only [fenceUnit]
  repeat' split
  all_goals simp (maxDischargeDepth := 30) [*]

@[simp] theorem degradeUnit_wf (s : State) (id : ℕ) (o : Owner) (hwf : s.wf = true) :
    (degradeUnit s id o).wf = true := by
  simp (maxDischargeDepth := 30) [degradeUnit, *]

@[simp] theorem retireUnit_wf (s : State) (id : ℕ) (o : Owner) (hwf : s.wf = true) :
    (retireUnit s id o).wf = true := by
  unfold retireUnit
  repeat' split
  all_goals simp_all (maxDischargeDepth := 30)

@[simp] theorem repairRow_wf (s : State) (o : Owner) (row : ℕ) (hwf : s.wf = true) :
    (repairRow s o row).wf = true := by
  simp only [repairRow]
  split <;> simp (maxDischargeDepth := 30) [*]

@[simp] theorem applyAction_wf (s : State) (ev : Event) (action : ℕ) (hwf : s.wf = true) :
    (applyAction s ev action).wf = true := by
  simp (maxDischargeDepth := 30) [applyAction, *]

@[simp] theorem railSeen_wf (s : State) (ev : Event) (hwf : s.wf = true) :
    (railSeen s ev).wf = true := by
  simp (maxDischargeDepth := 30) [railSeen, *]

@[simp] theorem collect_wf (s : State) (ev : Event) (hwf : s.wf = true) :
    (collect s ev).wf = true := by
  simp (maxDischargeDepth := 30) [collect, *]

theorem execCollectorEvent_wf (ev : Event) (s : State) (hwf : s.wf = true) :
    outWf (execCollectorEvent ev s) = true := by
  simp (maxDischargeDepth := 30) [execCollectorEvent, *]

@[simp] theorem readmitted_wf (s : State) (o : Owner) (hwf : s.wf = true) :
    (readmitted s o).wf = true := by
  simp only [readmitted]
  repeat' split
  all_goals simp (maxDischargeDepth := 30) [*]

theorem execUnitReadmit_wf (source : ℕ) (s : State) (hwf : s.wf = true) :
    outWf (execUnitReadmit source s) = true := by
  simp (maxDischargeDepth := 30) [execUnitReadmit, *]

theorem execSafeRestartTimeout_wf (s : State) (hwf : s.wf = true) :
    outWf (execSafeRestartTimeout s) = true := by
  simp (maxDischargeDepth := 30) [execSafeRestartTimeout, *]

theorem execSafeEntriesExpire_wf (s : State) (hwf : s.wf = true) :
    outWf (execSafeEntriesExpire s) = true := by
  simp (maxDischargeDepth := 30) [execSafeEntriesExpire, *]

theorem execCoreWatchdog_wf (core : Fin 9) (s : State) (hwf : s.wf = true) :
    outWf (execCoreWatchdog core s) = true := by
  simp (maxDischargeDepth := 30) [execCoreWatchdog, *]

theorem execCollectorSelfFault_wf (collector : Fin 9) (s : State) (hwf : s.wf = true) :
    outWf (execCollectorSelfFault collector s) = true := by
  simp (maxDischargeDepth := 30) [execCollectorSelfFault, *]

@[simp] theorem captureRearm_wf (s : State) (r : ℕ) (hwf : s.wf = true) :
    (captureRearm s r).wf = true := by
  simp (maxDischargeDepth := 30) [captureRearm, *]

@[simp] theorem unretireAsk_wf (s : State) (id : ℕ) (hwf : s.wf = true) :
    (unretireAsk s id).2.wf = true := by
  simp only [unretireAsk]
  repeat' split
  all_goals simp (maxDischargeDepth := 30) [*]

theorem execLedgerMirror_wf (s : State) (hwf : s.wf = true) :
    outWf (execLedgerMirror s) = true := by
  simp (maxDischargeDepth := 30) [execLedgerMirror, *]

theorem execLedgerMirrorDone_wf (s : State) (hwf : s.wf = true) :
    outWf (execLedgerMirrorDone s) = true := by
  simp only [execLedgerMirrorDone]
  split <;> simp (maxDischargeDepth := 30) [*]

theorem execLedgerBandCopy_wf (s : State) (hwf : s.wf = true) :
    outWf (execLedgerBandCopy s) = true := by
  simp (maxDischargeDepth := 30) [execLedgerBandCopy, *]

end Sys2Proof.Machine
end

