-- ==== Sys2Proof/Laws/WfFirmware.lean ====
section
/-! SUPPORT. Every operation of Machine/Firmware.lean keeps the canonical form of the block's data. -/

namespace Sys2Proof.Machine

theorem execFirmwareImageDownload_wf (slot : ℕ) (piece : Bytes) (s : State) (hwf : s.wf = true) :
    outWf (execFirmwareImageDownload slot piece s) = true := by
  simp only [execFirmwareImageDownload]
  split <;> simp (maxDischargeDepth := 30) [*]

@[simp] theorem programSlot_wf (s : State) (x : SlotProgram) (hwf : s.wf = true) :
    (programSlot s x).wf = true := by
  simp (maxDischargeDepth := 30) [programSlot, *]

@[simp] theorem commitProgram_wf (s : State) (n : ℕ) (c : CmdSlot) (pend : Bool) (hwf : s.wf = true) :
    (commitProgram s n c pend).wf = true := by
  simp only [commitProgram]
  split <;> simp (maxDischargeDepth := 30) [*]

theorem execFirmwareCommitReplace_wf (slot : ℕ) (s : State) (hwf : s.wf = true) :
    outWf (execFirmwareCommitReplace slot s) = true := by
  simp only [execFirmwareCommitReplace]
  split <;> simp (maxDischargeDepth := 30) [*]

theorem execFirmwareCommitReplaceActivate_wf (slot : ℕ) (s : State) (hwf : s.wf = true) :
    outWf (execFirmwareCommitReplaceActivate slot s) = true := by
  simp only [execFirmwareCommitReplaceActivate]
  split <;> simp (maxDischargeDepth := 30) [*]

@[simp] theorem pendSlot_wf (s : State) (i : ℕ) (hwf : s.wf = true) :
    (pendSlot s i).wf = true := by
  simp (maxDischargeDepth := 30) [pendSlot, *]

theorem execFirmwareCommitActivate_wf (slot : ℕ) (s : State) (hwf : s.wf = true) :
    outWf (execFirmwareCommitActivate slot s) = true := by
  simp only [execFirmwareCommitActivate]
  repeat' split
  all_goals simp (maxDischargeDepth := 30) [*]

theorem execFirmwareCommitActivateNow_wf (slot : ℕ) (s : State) (hwf : s.wf = true) :
    outWf (execFirmwareCommitActivateNow slot s) = true := by
  simp only [execFirmwareCommitActivateNow]
  repeat' split
  all_goals simp (maxDischargeDepth := 30) [*]

theorem execFirmwareCommitInvalidAction_wf (slot : ℕ) (s : State) (hwf : s.wf = true) :
    outWf (execFirmwareCommitInvalidAction slot s) = true := by
  simp only [execFirmwareCommitInvalidAction]
  split <;> simp (maxDischargeDepth := 30) [*]

theorem execFirmwareCommitDone_wf (s : State) (hwf : s.wf = true) :
    outWf (execFirmwareCommitDone s) = true := by
  simp only [execFirmwareCommitDone]
  repeat' split
  all_goals simp (maxDischargeDepth := 30) [*]

@[simp] theorem loadStores_wf (s : State) (slot : ℕ) (bank : ℕ) (hwf : s.wf = true) :
    (loadStores s slot bank).wf = true := by
  unfold loadStores
  repeat' split
  all_goals simp_all (maxDischargeDepth := 30)

@[simp] theorem bankTo_wf (s : State) (bank : ℕ) (hwf : s.wf = true) :
    (bankTo s bank).wf = true := by
  unfold bankTo
  repeat' split
  all_goals simp_all (maxDischargeDepth := 30)

theorem execActivationStaged_wf (s : State) (hwf : s.wf = true) :
    outWf (execActivationStaged s) = true := by
  simp only [execActivationStaged]
  repeat' split
  all_goals simp (maxDischargeDepth := 30) [*]

@[simp] theorem settleActivation_wf (s : State) (hwf : s.wf = true) :
    (settleActivation s).wf = true := by
  simp only [settleActivation]
  split <;> simp (maxDischargeDepth := 30) [*]

@[simp] theorem imageRuns_wf (s : State) (slot : ℕ) (hwf : s.wf = true) :
    (imageRuns s slot).wf = true := by
  have h : ((s.setNum Obj.runningSlot slot).setNum Obj.dictLevel (fieldAt (imageSlot s slot).bytes 24 2)).wf = true := by simp [hwf]
  unfold imageRuns
  dsimp only
  split <;> exact h

theorem execActivationFreezeEnd_wf (freezeUs : ℕ) (s : State) (hwf : s.wf = true) :
    outWf (execActivationFreezeEnd freezeUs s) = true := by
  unfold execActivationFreezeEnd
  repeat' split
  all_goals simp_all (maxDischargeDepth := 30)

theorem execActivationBankSwitch_wf (s : State) (hwf : s.wf = true) :
    outWf (execActivationBankSwitch s) = true := by
  unfold execActivationBankSwitch
  repeat' split
  all_goals simp_all (maxDischargeDepth := 30)

@[simp] theorem bundleAsk_wf (s : State) (b : List Byte) (hwf : s.wf = true) :
    (bundleAsk s b).2.wf = true := by
  simp only [bundleAsk]
  repeat' split
  all_goals simp (maxDischargeDepth := 30) [*]

@[simp] theorem firstHolders_wf (s : State) (hwf : s.wf = true) :
    (firstHolders s).wf = true := by
  unfold firstHolders
  repeat' split
  all_goals simp_all (maxDischargeDepth := 30)

@[simp] theorem bundleOnto_wf (s : State) (u : ℕ) (b : List Byte) (hwf : s.wf = true) :
    (bundleOnto s u b).wf = true := by
  simp (maxDischargeDepth := 30) [bundleOnto, *]

theorem execBundleWriteDone_wf (s : State) (hwf : s.wf = true) :
    outWf (execBundleWriteDone s) = true := by
  unfold execBundleWriteDone
  repeat' split
  all_goals simp_all (maxDischargeDepth := 30)

@[simp] theorem recoveryAsk_wf (s : State) (b : List Byte) (hwf : s.wf = true) :
    (recoveryAsk s b).2.wf = true := by
  simp only [recoveryAsk]
  repeat' split
  all_goals simp (maxDischargeDepth := 30) [*]

@[simp] theorem ownerKeyAsk_wf (s : State) (k : List Byte) (hwf : s.wf = true) :
    (ownerKeyAsk s k).2.wf = true := by
  simp only [ownerKeyAsk]
  split <;> simp (maxDischargeDepth := 30) [*]

@[simp] theorem chainAsk_wf (s : State) (i : ℕ) (b : List Byte) (hwf : s.wf = true) :
    (chainAsk s i b).2.wf = true := by
  simp only [chainAsk]
  split <;> simp (maxDischargeDepth := 30) [*]

@[simp] theorem eraseNamespace_wf (s : State) (ns : Namespace) (hwf : s.wf = true) :
    (eraseNamespace s ns).wf = true := by
  simp only [eraseNamespace]
  split <;> simp (maxDischargeDepth := 30) [*]

@[simp] theorem settleFormats_wf (s : State) (hwf : s.wf = true) :
    (settleFormats s).wf = true := by
  unfold settleFormats
  repeat' split
  all_goals simp_all (maxDischargeDepth := 30)

@[simp] theorem eraseBegin_wf (s : State) (l : List ℕ) (hwf : s.wf = true) :
    (eraseBegin s l).wf = true := by
  simp (maxDischargeDepth := 30) [eraseBegin, *]

theorem execSanitize_wf (slot : ℕ) (action : SanitizeAction) (s : State) (hwf : s.wf = true) :
    outWf (execSanitize slot action s) = true := by
  simp only [execSanitize]
  split <;> simp (maxDischargeDepth := 30) [*]

theorem execFormatNvm_wf (slot : ℕ) (s : State) (hwf : s.wf = true) :
    outWf (execFormatNvm slot s) = true := by
  simp only [execFormatNvm]
  split <;> simp (maxDischargeDepth := 30) [*]

@[simp] theorem settleReturn_wf (s : State) (hwf : s.wf = true) :
    (settleReturn s).wf = true := by
  simp (maxDischargeDepth := 30) [settleReturn, *]

theorem execCryptoEraseDone_wf (ns : ℕ) (s : State) (hwf : s.wf = true) :
    outWf (execCryptoEraseDone ns s) = true := by
  simp only [execCryptoEraseDone]
  repeat' split
  all_goals simp (maxDischargeDepth := 30) [*]

@[simp] theorem finishErases_wf (s : State) (h : s.wf = true) : (finishErases s).wf = true := by
  unfold finishErases
  refine settleFormats_wf _ (State.each_wf h fun t x ht => ?_)
  repeat' first | (simp +contextual (maxDischargeDepth := 30) [*]; done) | split

@[simp] theorem scrap_wf (s : State) (hwf : s.wf = true) :
    (scrap s).wf = true := by
  simp (maxDischargeDepth := 30) [scrap, *]

@[simp] theorem transition_wf (s : State) (target : ℕ) (hwf : s.wf = true) :
    (transition s target).wf = true := by
  unfold transition
  repeat' split
  all_goals simp_all (maxDischargeDepth := 30)

@[simp] theorem lifecycleAsk_wf (s : State) (who : Requester) (b : List Byte) (hwf : s.wf = true) :
    (lifecycleAsk s who b).2.wf = true := by
  simp only [lifecycleAsk]
  repeat' split
  all_goals simp (maxDischargeDepth := 30) [*]

@[simp] theorem nonceRead_wf (s : State) (who : Requester) (hwf : s.wf = true) :
    (nonceRead s who).2.wf = true := by
  simp (maxDischargeDepth := 30) [nonceRead, *]

theorem execLifecycleNonceExpire_wf (s : State) (hwf : s.wf = true) :
    outWf (execLifecycleNonceExpire s) = true := by
  simp (maxDischargeDepth := 30) [execLifecycleNonceExpire, *]

theorem execTapInstruction_wf (i : TapInstr) (s : State) (hwf : s.wf = true) :
    outWf (execTapInstruction i s) = true := by
  simp only [execTapInstruction]
  repeat' split
  all_goals simp (maxDischargeDepth := 30) [*]

@[simp] theorem spdmSend_wf (s : State) (via : SpdmPort) (msg : List Byte) (hwf : s.wf = true) :
    (spdmSend s via msg).wf = true := by
  simp only [spdmSend]
  split <;> simp (maxDischargeDepth := 30) [*]

@[simp] theorem spdmError_wf (s : State) (via : SpdmPort) (code : ℕ) (hwf : s.wf = true) :
    (spdmError s via code).wf = true := by
  simp (maxDischargeDepth := 30) [spdmError, *]

@[simp] theorem addVca_wf (s : State) (via : SpdmPort) (b : List Byte) (hwf : s.wf = true) :
    (addVca s via b).wf = true := by
  simp (maxDischargeDepth := 30) [addVca, *]

@[simp] theorem addChal_wf (s : State) (via : SpdmPort) (b : List Byte) (hwf : s.wf = true) :
    (addChal s via b).wf = true := by
  simp (maxDischargeDepth := 30) [addChal, *]

@[simp] theorem setMeas_wf (s : State) (via : SpdmPort) (b : List Byte) (hwf : s.wf = true) :
    (setMeas s via b).wf = true := by
  simp (maxDischargeDepth := 30) [setMeas, *]

@[simp] theorem spdmVersion_wf (s : State) (via : SpdmPort) (request : List Byte) (hwf : s.wf = true) :
    (spdmVersion s via request).wf = true := by
  simp (maxDischargeDepth := 30) [spdmVersion, *]

@[simp] theorem spdmCapabilities_wf (s : State) (via : SpdmPort) (request : List Byte) (hwf : s.wf = true) :
    (spdmCapabilities s via request).wf = true := by
  simp (maxDischargeDepth := 30) [spdmCapabilities, *]

@[simp] theorem spdmAlgorithms_wf (s : State) (via : SpdmPort) (request : List Byte) (hwf : s.wf = true) :
    (spdmAlgorithms s via request).wf = true := by
  simp (maxDischargeDepth := 30) [spdmAlgorithms, *]

@[simp] theorem spdmDigests_wf (s : State) (via : SpdmPort) (request : List Byte) (hwf : s.wf = true) :
    (spdmDigests s via request).wf = true := by
  simp (maxDischargeDepth := 30) [spdmDigests, *]

@[simp] theorem spdmCertificate_wf (s : State) (via : SpdmPort) (slot : ℕ) (offset : ℕ) (len : ℕ) (request : List Byte) (hwf : s.wf = true) :
    (spdmCertificate s via slot offset len request).wf = true := by
  simp (maxDischargeDepth := 30) [spdmCertificate, *]

@[simp] theorem spdmChallenge_wf (s : State) (via : SpdmPort) (slot : ℕ) (hashType : ℕ) (request : List Byte) (hwf : s.wf = true) :
    (spdmChallenge s via slot hashType request).wf = true := by
  simp (maxDischargeDepth := 30) [spdmChallenge, *]

@[simp] theorem spdmMeasurements_wf (s : State) (via : SpdmPort) (index : ℕ) (signed : Bool) (slot : ℕ) (request : List Byte) (hwf : s.wf = true) :
    (spdmMeasurements s via index signed slot request).wf = true := by
  simp (maxDischargeDepth := 30) [spdmMeasurements, *]

@[simp] theorem spdmAfter_wf (s : State) (via : SpdmPort) (f : State → State) (hwf : s.wf = true)
    (hd : ∀ t : State, t.wf = true → (f t).wf = true) : (spdmAfter s via f).wf = true := by
  simp only [spdmAfter]
  split <;> simp (maxDischargeDepth := 30) [*]

@[simp] theorem spdmRefuse_wf (s : State) (via : SpdmPort) (hwf : s.wf = true) :
    (spdmRefuse s via).wf = true := by
  simp (maxDischargeDepth := 30) [spdmRefuse, *]

theorem execSpdmGetVersion_wf (via : SpdmPort) (s : State) (hwf : s.wf = true) :
    outWf (execSpdmGetVersion via s) = true := by
  simp (maxDischargeDepth := 30) [execSpdmGetVersion, *]

theorem execSpdmGetCapabilities_wf (via : SpdmPort) (request : Bytes) (s : State) (hwf : s.wf = true) :
    outWf (execSpdmGetCapabilities via request s) = true := by
  simp (maxDischargeDepth := 30) [execSpdmGetCapabilities, *]

theorem execSpdmNegotiateAlgorithms_wf (via : SpdmPort) (request : Bytes) (s : State) (hwf : s.wf = true) :
    outWf (execSpdmNegotiateAlgorithms via request s) = true := by
  simp (maxDischargeDepth := 30) [execSpdmNegotiateAlgorithms, *]

theorem execSpdmGetDigests_wf (via : SpdmPort) (s : State) (hwf : s.wf = true) :
    outWf (execSpdmGetDigests via s) = true := by
  unfold execSpdmGetDigests
  repeat' split
  all_goals simp_all (maxDischargeDepth := 30)

theorem execSpdmGetCertificate_wf (via : SpdmPort) (slot : ℕ) (offset : ℕ) (len : ℕ) (s : State) (hwf : s.wf = true) :
    outWf (execSpdmGetCertificate via slot offset len s) = true := by
  unfold execSpdmGetCertificate
  repeat' split
  all_goals simp_all (maxDischargeDepth := 30)

theorem execSpdmChallenge_wf (via : SpdmPort) (slot : ℕ) (hashType : ℕ) (nonce : Bytes) (s : State) (hwf : s.wf = true) :
    outWf (execSpdmChallenge via slot hashType nonce s) = true := by
  unfold execSpdmChallenge
  repeat' split
  all_goals simp_all (maxDischargeDepth := 30)

theorem execSpdmGetMeasurements_wf (via : SpdmPort) (attributes : ℕ) (index : ℕ) (slotId : ℕ) (nonce : Bytes) (s : State) (hwf : s.wf = true) :
    outWf (execSpdmGetMeasurements via attributes index slotId nonce s) = true := by
  unfold execSpdmGetMeasurements
  repeat' split
  all_goals simp_all (maxDischargeDepth := 30)

theorem execSpdmUnsupported_wf (via : SpdmPort) (_req : SpdmUnsupported) (s : State) (hwf : s.wf = true) :
    outWf (execSpdmUnsupported via _req s) = true := by
  simp (maxDischargeDepth := 30) [execSpdmUnsupported, *]

@[simp] theorem spdmRequest_wf (s : State) (via : SpdmPort) (b : List Byte) (hwf : s.wf = true) :
    (spdmRequest s via b).wf = true := by
  unfold spdmRequest
  repeat' split
  all_goals simp_all (maxDischargeDepth := 30)

theorem execSecuritySend_wf (slot : ℕ) (data : Bytes) (s : State) (hwf : s.wf = true) :
    outWf (execSecuritySend slot data s) = true := by
  simp only [execSecuritySend]
  split <;> simp (maxDischargeDepth := 30) [*]

theorem execSecurityReceive_wf (slot : ℕ) (s : State) (hwf : s.wf = true) :
    outWf (execSecurityReceive slot s) = true := by
  simp only [execSecurityReceive]
  split <;> simp (maxDischargeDepth := 30) [*]

end Sys2Proof.Machine
end

