-- ==== Sys2Proof/Laws/WfStart.lean ====
section
/-! SUPPORT. Every operation of Machine/Start.lean keeps the canonical form of the block's data. -/

namespace Sys2Proof.Machine

@[simp] theorem State.setDict_wf (s : State) (d : DictSvc) (hwf : s.wf = true) :
    (State.setDict s d).wf = true := by
  simp (maxDischargeDepth := 30) [State.setDict, *]

@[simp] theorem attemptStart_wf (s : State) (hwf : s.wf = true) :
    (attemptStart s).wf = true := by
  simp (maxDischargeDepth := 30) [attemptStart, *]

@[simp] theorem restartSequence_wf (s : State) (hwf : s.wf = true) :
    (restartSequence s).wf = true := by
  unfold restartSequence
  repeat' split
  all_goals simp_all (maxDischargeDepth := 30)

theorem execAttemptBegin_wf (cause : AttemptCause) (s : State) (hwf : s.wf = true) :
    outWf (execAttemptBegin cause s) = true := by
  simp only [execAttemptBegin]
  split <;> simp (maxDischargeDepth := 30) [*]

@[simp] theorem decideUnit_wf (s : State) (st : Key) (en : Key) (faulty : Bool) (hwf : s.wf = true) :
    (decideUnit s st en faulty).wf = true := by
  simp (maxDischargeDepth := 30) [decideUnit, *]

@[simp] theorem leaveOut_wf (s : State) (a : ℕ) (k : ℕ) (hwf : s.wf = true) :
    (leaveOut s a k).wf = true := by
  simp (maxDischargeDepth := 30) [leaveOut, *]

@[simp] theorem chooseSlot_wf (s : State) (hwf : s.wf = true) :
    (chooseSlot s).wf = true := by
  simp (maxDischargeDepth := 30) [chooseSlot, *]

@[simp] theorem repairsDone_wf (s : State) (found : StepFindings) (hwf : s.wf = true) :
    (repairsDone s found).wf = true := by
  simp (maxDischargeDepth := 30) [repairsDone, *]

@[simp] theorem zeroFillInit_wf (s : State) (alt : Bool) (hwf : s.wf = true) :
    (zeroFillInit s alt).wf = true := by
  simp (maxDischargeDepth := 30) [zeroFillInit, *]

@[simp] theorem keeperScan_wf (s : State) (hwf : s.wf = true) :
    (keeperScan s).wf = true := by
  simp only [keeperScan]
  repeat' split
  all_goals simp (maxDischargeDepth := 30) [*]

@[simp] theorem keeperLeftOut_wf (s : State) (hwf : s.wf = true) :
    (keeperLeftOut s).wf = true := by
  unfold keeperLeftOut
  repeat' split
  all_goals simp_all (maxDischargeDepth := 30)

@[simp] theorem eraseObj_wf (s : State) (k : Key) (hwf : s.wf = true) :
    (eraseObj s k).wf = true := by
  simp (maxDischargeDepth := 30) [eraseObj, *]

@[simp] theorem loadStored_wf (values : SMap Val) (s : State) (k : Key) (hwf : s.wf = true) :
    (loadStored values s k).wf = true := by
  simp only [loadStored]
  split <;> simp (maxDischargeDepth := 30) [*]

@[simp] theorem rewriteCopies_wf (s : State) (kept : SMap Val) (hwf : s.wf = true) :
    (rewriteCopies s kept).wf = true := by
  simp (maxDischargeDepth := 30) [rewriteCopies, *]

@[simp] theorem loadObjects_wf (s : State) (alt : Bool) (h : s.wf = true) : (loadObjects s alt).wf = true := by
  unfold loadObjects
  repeat' split
  all_goals simp_all (maxDischargeDepth := 30)

@[simp] theorem applyRetired_wf (s : State) (h : s.wf = true) : (applyRetired s).wf = true := by
  unfold applyRetired
  refine State.each_wf h fun t x ht => ?_
  dsimp only
  repeat' split
  all_goals simp [ht]

@[simp] theorem loadReservations_wf (s : State) (hwf : s.wf = true) :
    (loadReservations s).wf = true := by
  simp (maxDischargeDepth := 30) [loadReservations, *]

@[simp] theorem loadPresets_wf (s : State) (slot : ℕ) (hwf : s.wf = true) :
    (loadPresets s slot).wf = true := by
  unfold loadPresets
  repeat' split
  all_goals simp_all (maxDischargeDepth := 30)

@[simp] theorem takeSettings_wf (s : State) (hwf : s.wf = true) :
    (takeSettings s).wf = true := by
  simp (maxDischargeDepth := 30) [takeSettings, *]

@[simp] theorem keepEnables_wf (s : State) (hwf : s.wf = true) :
    (keepEnables s).wf = true := by
  unfold keepEnables
  repeat' split
  all_goals simp_all (maxDischargeDepth := 30)

@[simp] theorem releaseImage_wf (s : State) (alt : Bool) (hwf : s.wf = true) :
    (releaseImage s alt).wf = true := by
  unfold releaseImage
  repeat' split
  all_goals simp_all (maxDischargeDepth := 30)

@[simp] theorem releaseUnits_wf (s : State) (failedUnits : List ℕ) (hwf : s.wf = true) :
    (releaseUnits s failedUnits).wf = true := by
  unfold releaseUnits
  repeat' split
  all_goals simp_all (maxDischargeDepth := 30)

@[simp] theorem releaseRecords_wf (s : State) (hwf : s.wf = true) :
    (releaseRecords s).wf = true := by
  simp (maxDischargeDepth := 30) [releaseRecords, *]

@[simp] theorem coreRelease_wf (s : State) (alt : Bool) (failedUnits : List ℕ) (hwf : s.wf = true) :
    (coreRelease s alt failedUnits).wf = true := by
  simp only [coreRelease]
  split <;> simp (maxDischargeDepth := 30) [*]

@[simp] theorem handshake_wf (s : State) (found : StepFindings) (hwf : s.wf = true) :
    (handshake s found).wf = true := by
  unfold handshake
  repeat' first | (simp +contextual (maxDischargeDepth := 30) [*]; done) | split

@[simp] theorem restartMotion_wf (s : State) (hwf : s.wf = true) :
    (restartMotion s).wf = true := by
  simp (maxDischargeDepth := 30) [restartMotion, *]

@[simp] theorem discovery_wf (s : State) (found : StepFindings) (hwf : s.wf = true) :
    (discovery s found).wf = true := by
  unfold discovery
  repeat' split
  all_goals simp_all (maxDischargeDepth := 30)

@[simp] theorem switchesOn_wf (s : State) (hwf : s.wf = true) :
    (switchesOn s).wf = true := by
  unfold switchesOn
  repeat' split
  all_goals simp_all (maxDischargeDepth := 30)

@[simp] theorem acquisition_wf (s : State) (hwf : s.wf = true) :
    (acquisition s).wf = true := by
  unfold acquisition
  repeat' split
  all_goals simp_all (maxDischargeDepth := 30)

@[simp] theorem acquired_wf (s : State) (found : StepFindings) (hwf : s.wf = true) :
    (acquired s found).wf = true := by
  unfold acquired
  repeat' split
  all_goals simp_all (maxDischargeDepth := 30)

@[simp] theorem loadBundle_wf (s : State) (i : ℕ) (hwf : s.wf = true) :
    (loadBundle s i).wf = true := by
  unfold loadBundle
  repeat' split
  all_goals simp_all (maxDischargeDepth := 30)

@[simp] theorem cellsWf_putCells (l : List Host.Cell) : ∀ m : List Host.Cell, cellsWf m = true → cellsWf (putCells m l) = true := by
  induction l with
  | nil => exact fun m h => h
  | cons c l ih => exact fun m h => ih _ (cellsWf_cellWrite h)

@[simp] theorem dumpReplay_wf (s : State) (bad : List ℕ) (hwf : s.wf = true) :
    (dumpReplay s bad).wf = true := by
  have h := hwf
  simp only [State.wf, Memory.wf, Bool.and_eq_true] at h
  unfold dumpReplay
  dsimp only
  split
  · simp [State.wf, Memory.wf, State.setMem, State.setLayout, h]
  · refine countDirty_wf _ (State.setNum_wf _ _ _ ?_)
    simp [State.wf, Memory.wf, State.setMem, State.setLayout, h]

@[simp] theorem journalResync_wf (s : State) (alt : Bool) (hwf : s.wf = true) :
    (journalResync s alt).wf = true := by
  simp only [journalResync]
  split <;> simp (maxDischargeDepth := 30) [*]

@[simp] theorem layoutMount_wf (s : State) (alt : Bool) (hwf : s.wf = true) :
    (layoutMount s alt).wf = true := by
  unfold layoutMount
  repeat' split
  all_goals simp_all (maxDischargeDepth := 30)

@[simp] theorem portsDecided_wf (s : State) (ports : ℕ) (hwf : s.wf = true) :
    (portsDecided s ports).wf = true := by
  unfold portsDecided
  repeat' split
  all_goals simp_all (maxDischargeDepth := 30)

@[simp] theorem settleSlots_wf (s : State) (hwf : s.wf = true) :
    (settleSlots s).wf = true := by
  simp (maxDischargeDepth := 30) [settleSlots, *]

@[simp] theorem raiseSecurity_wf (s : State) (hwf : s.wf = true) :
    (raiseSecurity s).wf = true := by
  simp (maxDischargeDepth := 30) [raiseSecurity, *]

@[simp] theorem levelBundles_wf (s : State) (hwf : s.wf = true) :
    (levelBundles s).wf = true := by
  unfold levelBundles
  repeat' split
  all_goals simp_all (maxDischargeDepth := 30)

@[simp] theorem hostReady_wf (s : State) (ports : ℕ) (hwf : s.wf = true) :
    (hostReady s ports).wf = true := by
  simp only [hostReady]
  repeat' split
  all_goals simp (maxDischargeDepth := 30) [*]

@[simp] theorem takeRpm_wf (s : State) (hwf : s.wf = true) :
    (takeRpm s).wf = true := by
  simp (maxDischargeDepth := 30) [takeRpm, *]

@[simp] theorem stepBegins_wf (s : State) (hwf : s.wf = true) :
    (stepBegins s).wf = true := by
  unfold stepBegins
  repeat' split
  all_goals simp_all (maxDischargeDepth := 30)

@[simp] theorem retireUnrepairable_wf (s : State) (ids : List Nat) (h : s.wf = true) : (retireUnrepairable s ids).wf = true := by
  unfold retireUnrepairable
  refine State.each_wf h fun t x ht => ?_
  repeat' split
  all_goals simp [ht]

@[simp] theorem stepPassed_wf (s : State) (found : StepFindings) (hwf : s.wf = true) :
    (stepPassed s found).wf = true := by
  unfold stepPassed
  repeat' first | (simp +contextual (maxDischargeDepth := 30) [*]; done) | split

@[simp] theorem nextStep_wf (s : State) (hwf : s.wf = true) :
    (nextStep s).wf = true := by
  unfold nextStep
  repeat' split
  all_goals simp_all (maxDischargeDepth := 30)

@[simp] theorem stepEnds_wf (s : State) (found : StepFindings) (hwf : s.wf = true) :
    (stepEnds s found).wf = true := by
  simp (maxDischargeDepth := 30) [stepEnds, *]

@[simp] theorem endForGood_wf (s : State) (code : ℕ) (endCode : ℕ) (detail : ℕ) (hwf : s.wf = true) :
    (endForGood s code endCode detail).wf = true := by
  simp (maxDischargeDepth := 30) [endForGood, *]

@[simp] theorem stepFails_wf (s : State) (found : StepFindings) (code : ℕ) (hwf : s.wf = true) :
    (stepFails s found code).wf = true := by
  simp (maxDischargeDepth := 30) [stepFails, *]

theorem execStartStepEnd_wf (result : StepEnd) (found : StepFindings) (s : State) (hwf : s.wf = true) :
    outWf (execStartStepEnd result found s) = true := by
  simp only [execStartStepEnd]
  repeat' split
  all_goals simp (maxDischargeDepth := 30) [*]

theorem execStepWatchdog_wf (found : StepFindings) (s : State) (hwf : s.wf = true) :
    outWf (execStepWatchdog found s) = true := by
  simp (maxDischargeDepth := 30) [execStepWatchdog, *]

theorem execStartDeadline_wf (s : State) (hwf : s.wf = true) :
    outWf (execStartDeadline s) = true := by
  simp (maxDischargeDepth := 30) [execStartDeadline, *]

@[simp] theorem restartNormal_wf (s : State) (hwf : s.wf = true) :
    (restartNormal s).wf = true := by
  simp (maxDischargeDepth := 30) [restartNormal, *]

@[simp] theorem restartMaintenance_wf (s : State) (hwf : s.wf = true) :
    (restartMaintenance s).wf = true := by
  simp (maxDischargeDepth := 30) [restartMaintenance, *]

end Sys2Proof.Machine
end

