-- ==== Sys2Proof/Laws/WfDictRead.lean ====
section
/-! SUPPORT. Every operation of Machine/DictRead.lean keeps the canonical form of the block's data. -/

namespace Sys2Proof.Machine

@[simp] theorem freeVal_wf (s : State) (k : Key) (hwf : s.wf = true) :
    (freeVal s k).2.wf = true := by
  simp only [freeVal]
  repeat' split
  all_goals simp (maxDischargeDepth := 30) [*]

@[simp] theorem readValue_wf (s : State) (who : Requester) (k : Key) (hwf : s.wf = true) :
    (readValue s who k).2.wf = true := by
  simp only [readValue]
  repeat' split
  all_goals simp (maxDischargeDepth := 30) [*]

@[simp] theorem readObject_wf (s : State) (who : Requester) (k : Key) (scalarOnly : Bool) (hwf : s.wf = true) :
    (readObject s who k scalarOnly).2.2.wf = true := by
  simp only [readObject]
  split <;> simp (maxDischargeDepth := 30) [*]

@[simp] theorem bumpGen_wf (s : State) (k : Key) (hwf : s.wf = true) :
    (bumpGen s k).wf = true := by
  simp (maxDischargeDepth := 30) [bumpGen, *]

@[simp] theorem noteContents_wf (s : State) (k : Key) (b : List Byte) (hwf : s.wf = true) :
    (noteContents s k b).wf = true := by
  simp only [noteContents]
  repeat' split
  all_goals simp (maxDischargeDepth := 30) [*]

@[simp] theorem readSegment_wf (s : State) (who : Requester) (k : Key) (off : ℕ) (len : ℕ) (hwf : s.wf = true) :
    (readSegment s who k off len).2.wf = true := by
  simp only [readSegment]
  split <;> simp (maxDischargeDepth := 30) [*]

end Sys2Proof.Machine
end

