-- ==== Sys2Proof/Laws/WfDictWrite.lean ====
section
/-! SUPPORT. Every operation of Machine/DictWrite.lean keeps the canonical form of the block's data. -/

namespace Sys2Proof.Machine

@[simp] theorem settleActuator_wf (s : State) (a : ℕ) (hwf : s.wf = true) :
    (settleActuator s a).wf = true := by
  simp (maxDischargeDepth := 30) [settleActuator, *]

@[simp] theorem disableUnit_wf (s : State) (o : Owner) (hwf : s.wf = true) :
    (disableUnit s o).wf = true := by
  unfold disableUnit
  repeat' split
  all_goals simp_all (maxDischargeDepth := 30)

@[simp] theorem enableUnit_wf (s : State) (o : Owner) (hwf : s.wf = true) :
    (enableUnit s o).wf = true := by
  simp only [enableUnit]
  split <;> simp (maxDischargeDepth := 30) [*]

@[simp] theorem enableWrite_wf (s : State) (o : Owner) (v : ℕ) (hwf : s.wf = true) :
    (enableWrite s o v).wf = true := by
  simp only [enableWrite]
  split <;> simp (maxDischargeDepth := 30) [*]

@[simp] theorem quiesced_wf (s : State) (o : Owner) (hwf : s.wf = true) :
    (quiesced s o).wf = true := by
  simp only [quiesced]
  split <;> simp (maxDischargeDepth := 30) [*]

@[simp] theorem mailboxStart_wf (s : State) (core : ℕ) (cmd : ℕ) (hwf : s.wf = true) :
    (mailboxStart s core cmd).wf = true := by
  simp (maxDischargeDepth := 30) [mailboxStart, *]

theorem optWf_orElse {a b : Option State} (ha : optWf a = true) (hb : optWf b = true) : optWf (a <|> b) = true := by
  cases a <;> assumption

theorem optWf_map {α : Type} {o : Option α} {f : α → State} (hf : ∀ x, (f x).wf = true) : optWf (o.map f) = true := by
  cases o <;> simp [hf]

@[simp] theorem optWf_ite {c : Prop} [Decidable c] (a b : Option State) : optWf (if c then a else b) = if c then optWf a else optWf b :=
  apply_ite _ _ _ _

@[simp] theorem actService_wf (s : State) (who : Requester) (k : Key) (v : Val) (h : s.wf = true) : optWf (actService s who k v) = true := by
  have h1 : optWf ((unitIx Obj.captureClear 9 k).map fun r => if v.toNum = 1 then captureRearm s r else s) = true :=
    optWf_map fun r => by split <;> simp [h]
  simp (maxDischargeDepth := 30) [actService, h, h1]

@[simp] theorem actServo_wf (s : State) (k : Key) (v : Val) (h : s.wf = true) : optWf (actServo s k v) = true := by
  unfold actServo
  dsimp only
  repeat' apply optWf_orElse
  all_goals
    refine optWf_map fun x => ?_
    simp (maxDischargeDepth := 30) [h]

@[simp] theorem actCore_wf (s : State) (k : Key) (v : Val) (h : s.wf = true) : optWf (actCore s k v) = true := by
  unfold actCore
  dsimp only
  repeat' apply optWf_orElse
  all_goals
    refine optWf_map fun x => ?_
    simp (maxDischargeDepth := 30) [h]

@[simp] theorem effect_wf (s : State) (who : Requester) (k : Key) (v : Val) (hwf : s.wf = true) :
    (effect s who k v).wf = true := by
  simp (maxDischargeDepth := 30) [effect, *]

@[simp] theorem selfCheckOutcome_wf (s : State) (due : Bool) (given : Option Bool) (hwf : s.wf = true) :
    (selfCheckOutcome s due given).2.wf = true := by
  simp only [selfCheckOutcome]
  repeat' split
  all_goals simp (maxDischargeDepth := 30) [*]

@[simp] theorem selfCheckEvent_wf (s : State) (k : Key) (v : Option Val) (pass : Bool) (hwf : s.wf = true) :
    (selfCheckEvent s k v pass).wf = true := by
  simp only [selfCheckEvent]
  split <;> simp (maxDischargeDepth := 30) [*]

@[simp] theorem writeObject_wf (s : State) (who : Requester) (k : Key) (v : Option Val) (given : Option Bool) (answer : State → Nat → State)
    (h : s.wf = true) (ha : ∀ t n, t.wf = true → (answer t n).wf = true) : (writeObject s who k v given answer).wf = true := by
  simp only [writeObject]
  repeat' first | (simp +contextual (maxDischargeDepth := 30) [*]; done) | split

@[simp] theorem writeList_wf (s : State) (who : Requester) (l : List (Key × Option Val)) (answer : State → Option (Nat × Nat) → State)
    (h : s.wf = true) (ha : ∀ t n, t.wf = true → (answer t n).wf = true) : (writeList s who l answer).wf = true := by
  have run : ∀ (t : State) (m : List (Key × Option Val)), t.wf = true → (m.foldl (fun s e => match e.2 with
      | some v => effect s who e.1 v
      | none => s) t).wf = true := fun t m ht => foldl_wf ht fun u e hu => by split <;> simp [hu]
  have h0 := fun d => selfCheckOutcome_wf s d none h
  simp only [writeList]
  split
  · repeat' first | (simp +contextual (maxDischargeDepth := 30) [*]; done) | split
  · split
    · exact run _ _ (ha _ _ (h0 _))
    · exact ha _ _ (run _ _ (h0 _))

@[simp] theorem dropStaging_wf (s : State) (k : Key) (hwf : s.wf = true) :
    (dropStaging s k).wf = true := by
  simp (maxDischargeDepth := 30) [dropStaging, *]

@[simp] theorem applyBlob_wf (s : State) (k : Key) (b : List Byte) (hwf : s.wf = true) :
    (applyBlob s k b).2.wf = true := by
  simp only [applyBlob]
  repeat' split
  all_goals simp (maxDischargeDepth := 30) [*]

@[simp] theorem writeSegment_wf (s : State) (who : Requester) (k : Key) (off : ℕ) (data : List Byte) (last : Bool) (hwf : s.wf = true) :
    (writeSegment s who k off data last).2.2.wf = true := by
  simp only [writeSegment]
  repeat' split
  all_goals simp (maxDischargeDepth := 30) [*]

@[simp] theorem mailboxEnd_wf (s : State) (core : ℕ) (status : ℕ) (gen : ℕ) (hwf : s.wf = true) :
    (mailboxEnd s core status gen).wf = true := by
  simp (maxDischargeDepth := 30) [mailboxEnd, *]

@[simp] theorem mailboxMove_wf (s : State) (who : Requester) (core : ℕ) (j : MailboxJob) (hwf : s.wf = true) :
    (mailboxMove s who core j).wf = true := by
  unfold mailboxMove
  repeat' first | (simp +contextual (maxDischargeDepth := 30) [*]; done) | split

end Sys2Proof.Machine
end

