-- ==== Sys2Proof/Laws/WfDictService.lean ====
section
/-! SUPPORT. Every operation of Machine/DictService.lean keeps the canonical form of the block's data. -/

namespace Sys2Proof.Machine

theorem execDictionaryGet_wf (slot : ℕ) (s : State) (hwf : s.wf = true) :
    outWf (execDictionaryGet slot s) = true := by
  simp only [execDictionaryGet]
  split <;> simp (maxDischargeDepth := 30) [*]

theorem execDictionarySet_wf (slot : ℕ) (data : List Byte) (s : State) (hwf : s.wf = true) :
    outWf (execDictionarySet slot data s) = true := by
  unfold execDictionarySet
  repeat' split
  all_goals simp_all (maxDischargeDepth := 30)

theorem execDictionarySetList_wf (slot : ℕ) (data : List Byte) (s : State) (hwf : s.wf = true) :
    outWf (execDictionarySetList slot data s) = true := by
  unfold execDictionarySetList
  dsimp only
  repeat' split
  all_goals rw [outWf_next]
  · exact hwf
  · exact hwf
  · simp [hwf]
  · refine writeList_wf _ _ _ _ hwf fun t n ht => ?_
    split <;> simp [ht]

theorem execDictionaryBlockRead_wf (slot : ℕ) (s : State) (hwf : s.wf = true) :
    outWf (execDictionaryBlockRead slot s) = true := by
  simp only [execDictionaryBlockRead]
  split <;> simp (maxDischargeDepth := 30) [*]

@[simp] theorem readList_wf (who : Requester) (l : List Key) (s : State) (h : s.wf = true) : (readList who l s).2.wf = true := by
  induction l generalizing s with
  | nil => exact h
  | cons k r ih =>
    have h1 := readObject_wf s who k true h
    rw [readList]
    generalize readObject s who k true = x at h1 ⊢
    obtain ⟨st, v, t⟩ := x
    dsimp only at h1 ⊢
    split
    · exact ih _ h1
    · exact ih _ (State.draw_wf _ h1)

theorem execDictionaryListRead_wf (slot : ℕ) (s : State) (hwf : s.wf = true) :
    outWf (execDictionaryListRead slot s) = true := by
  simp only [execDictionaryListRead]
  split <;> simp (maxDischargeDepth := 30) [*]

@[simp] theorem respond_wf (s : State) (h : BolhobaHeader) (opcode : ℕ) (st : ℕ) (idx : ℕ) (sub : ℕ) (count : ℕ) (payload : List Byte) (hwf : s.wf = true) :
    (respond s h opcode st idx sub count payload).wf = true := by
  simp (maxDischargeDepth := 30) [respond, *]

@[simp] theorem answerBolhoba_wf (s : State) (h : BolhobaHeader) (opcode : ℕ) (st : ℕ) (payload : List Byte) (hwf : s.wf = true) :
    (answerBolhoba s h opcode st payload).wf = true := by
  simp (maxDischargeDepth := 30) [answerBolhoba, *]

@[simp] theorem bolhobaTurned_wf (s : State) (h : BolhobaHeader) (opcode : ℕ) (hwf : s.wf = true) :
    (bolhobaTurned s h opcode).wf = true := by
  simp (maxDischargeDepth := 30) [bolhobaTurned, *]

theorem execBolhobaGet_wf (h : BolhobaHeader) (s : State) (hwf : s.wf = true) :
    outWf (execBolhobaGet h s) = true := by
  simp (maxDischargeDepth := 30) [execBolhobaGet, *]

theorem execBolhobaSet_wf (h : BolhobaHeader) (typ : ℕ) (len : ℕ) (value : List Byte) (s : State) (hwf : s.wf = true) :
    outWf (execBolhobaSet h typ len value s) = true := by
  unfold execBolhobaSet
  repeat' split
  all_goals simp_all (maxDischargeDepth := 30)

theorem execBolhobaListGet_wf (h : BolhobaHeader) (keys : List (ℕ × ℕ)) (s : State) (hwf : s.wf = true) :
    outWf (execBolhobaListGet h keys s) = true := by
  simp (maxDischargeDepth := 30) [execBolhobaListGet, *]

theorem execBolhobaListSet_wf (h : BolhobaHeader) (entries : List ListEntry) (s : State) (hwf : s.wf = true) :
    outWf (execBolhobaListSet h entries s) = true := by
  unfold execBolhobaListSet
  split
  · simp [hwf]
  · split
    · simp [hwf]
    · refine writeList_wf _ _ _ _ hwf fun t n ht => ?_
      split
      · split <;> simp [ht]
      · simp [ht]

theorem execBolhobaBlockRead_wf (h : BolhobaHeader) (offset : ℕ) (len : ℕ) (s : State) (hwf : s.wf = true) :
    outWf (execBolhobaBlockRead h offset len s) = true := by
  simp (maxDischargeDepth := 30) [execBolhobaBlockRead, *]

theorem execBolhobaBlockWrite_wf (h : BolhobaHeader) (offset : ℕ) (last : Bool) (data : List Byte) (s : State) (hwf : s.wf = true) :
    outWf (execBolhobaBlockWrite h offset last data s) = true := by
  simp (maxDischargeDepth := 30) [execBolhobaBlockWrite, *]

theorem execBolhobaUnknownOpcode_wf (h : BolhobaHeader) (pen : ℕ) (version : ℕ) (opcode : ℕ) (s : State) (hwf : s.wf = true) :
    outWf (execBolhobaUnknownOpcode h pen version opcode s) = true := by
  simp (maxDischargeDepth := 30) [execBolhobaUnknownOpcode, *]

theorem execFactoryFrameGap_wf (s : State) (hwf : s.wf = true) :
    outWf (execFactoryFrameGap s) = true := by
  simp (maxDischargeDepth := 30) [execFactoryFrameGap, *]

theorem execDynamicAddressAssignment_wf (addr : ℕ) (s : State) (hwf : s.wf = true) :
    outWf (execDynamicAddressAssignment addr s) = true := by
  simp (maxDischargeDepth := 30) [execDynamicAddressAssignment, *]

@[simp] theorem noteStatus_wf (s : State) (core : ℕ) (k : Key) (st : ℕ) (hwf : s.wf = true) :
    (noteStatus s core k st).wf = true := by
  simp (maxDischargeDepth := 30) [noteStatus, *]

@[simp] theorem windowValue_wf (s : State) (who : Requester) (k : Key) (hwf : s.wf = true) :
    (windowValue s who k).2.2.wf = true := by
  simp only [windowValue]
  split <;> simp (maxDischargeDepth := 30) [*]

@[simp] theorem windowLoad_wf (s : State) (core : Fin 9) (addr : ℕ) (width : ℕ) (hwf : s.wf = true) :
    (windowLoad s core addr width).wf = true := by
  simp (maxDischargeDepth := 30) [windowLoad, *]

theorem execWindowRead_wf (core : Fin 9) (addr : ℕ) (width : ℕ) (s : State) (hwf : s.wf = true) :
    outWf (execWindowRead core addr width s) = true := by
  simp (maxDischargeDepth := 30) [execWindowRead, *]

@[simp] theorem windowStore_wf (s : State) (core : Fin 9) (addr : ℕ) (width : ℕ) (value : ℕ) (hwf : s.wf = true) :
    (windowStore s core addr width value).wf = true := by
  unfold windowStore
  repeat' split
  all_goals simp_all (maxDischargeDepth := 30)

theorem execWindowWrite_wf (core : Fin 9) (addr : ℕ) (width : ℕ) (value : ℕ) (s : State) (hwf : s.wf = true) :
    outWf (execWindowWrite core addr width value s) = true := by
  simp (maxDischargeDepth := 30) [execWindowWrite, *]

@[simp] theorem answerPlain_wf (who : Requester) (k : Key) (s : State) (st : ℕ) (hwf : s.wf = true) :
    (answerPlain who k s st).wf = true := by
  simp only [answerPlain]
  split <;> simp (maxDischargeDepth := 30) [*]

@[simp] theorem commandWrite_wf (s : State) (who : Requester) (k : Key) (v : Option Val) (check : optParam (Option Bool) none) (hwf : s.wf = true) :
    (commandWrite s who k v check).wf = true := by
  unfold commandWrite
  repeat' split
  all_goals simp_all (maxDischargeDepth := 30)

@[simp] theorem commandLast_wf (s : State) (who : Requester) (k : Key) (offset : ℕ) (data : List Byte) (hwf : s.wf = true) :
    (commandLast s who k offset data).wf = true := by
  simp (maxDischargeDepth := 30) [commandLast, *]

theorem execPowerCapWrite_wf (who : Requester) (value : ℕ) (s : State) (hwf : s.wf = true) :
    outWf (execPowerCapWrite who value s) = true := by
  simp (maxDischargeDepth := 30) [execPowerCapWrite, *]

theorem execStore_wf (who : Requester) (value : ℕ) (s : State) (hwf : s.wf = true) :
    outWf (execStore who value s) = true := by
  simp (maxDischargeDepth := 30) [execStore, *]

theorem execRestoreDefaults_wf (who : Requester) (value : ℕ) (s : State) (hwf : s.wf = true) :
    outWf (execRestoreDefaults who value s) = true := by
  simp (maxDischargeDepth := 30) [execRestoreDefaults, *]

theorem execUnitDisable_wf (who : Requester) (index : ℕ) (s : State) (hwf : s.wf = true) :
    outWf (execUnitDisable who index s) = true := by
  simp (maxDischargeDepth := 30) [execUnitDisable, *]

theorem execUnitEnable_wf (who : Requester) (index : ℕ) (selfCheck : Bool) (s : State) (hwf : s.wf = true) :
    outWf (execUnitEnable who index selfCheck s) = true := by
  simp (maxDischargeDepth := 30) [execUnitEnable, *]

theorem execUnitQuiesced_wf (index : ℕ) (s : State) (hwf : s.wf = true) :
    outWf (execUnitQuiesced index s) = true := by
  simp (maxDischargeDepth := 30) [execUnitQuiesced, *]

theorem execObjectWrite_wf (who : Requester) (index : ℕ) (sub : ℕ) (typ : ℕ) (len : ℕ) (value : List Byte) (s : State) (hwf : s.wf = true) :
    outWf (execObjectWrite who index sub typ len value s) = true := by
  simp (maxDischargeDepth := 30) [execObjectWrite, *]

theorem execRestartNormal_wf (who : Requester) (s : State) (hwf : s.wf = true) :
    outWf (execRestartNormal who s) = true := by
  simp (maxDischargeDepth := 30) [execRestartNormal, *]

theorem execRestartMaintenance_wf (who : Requester) (s : State) (hwf : s.wf = true) :
    outWf (execRestartMaintenance who s) = true := by
  simp (maxDischargeDepth := 30) [execRestartMaintenance, *]

theorem execBundleStageLast_wf (who : Requester) (offset : ℕ) (data : Bytes) (s : State) (hwf : s.wf = true) :
    outWf (execBundleStageLast who offset data s) = true := by
  simp (maxDischargeDepth := 30) [execBundleStageLast, *]

theorem execRecoveryImageLast_wf (who : Requester) (offset : ℕ) (data : Bytes) (s : State) (hwf : s.wf = true) :
    outWf (execRecoveryImageLast who offset data s) = true := by
  simp (maxDischargeDepth := 30) [execRecoveryImageLast, *]

theorem execOwnerKeyWrite_wf (who : Requester) (offset : ℕ) (data : Bytes) (s : State) (hwf : s.wf = true) :
    outWf (execOwnerKeyWrite who offset data s) = true := by
  simp (maxDischargeDepth := 30) [execOwnerKeyWrite, *]

theorem execCertChainWrite_wf (who : Requester) (chain : Fin 2) (offset : ℕ) (data : Bytes) (s : State) (hwf : s.wf = true) :
    outWf (execCertChainWrite who chain offset data s) = true := by
  simp (maxDischargeDepth := 30) [execCertChainWrite, *]

theorem execLifecycleNonceRead_wf (who : Requester) (s : State) (hwf : s.wf = true) :
    outWf (execLifecycleNonceRead who s) = true := by
  simp (maxDischargeDepth := 30) [execLifecycleNonceRead, *]

theorem execLifecycleRequest_wf (who : Requester) (value : List Byte) (s : State) (hwf : s.wf = true) :
    outWf (execLifecycleRequest who value s) = true := by
  simp (maxDischargeDepth := 30) [execLifecycleRequest, *]

theorem execPreampAccess_wf (who : Requester) (a : Fin 4) (value : List Byte) (s : State) (hwf : s.wf = true) :
    outWf (execPreampAccess who a value s) = true := by
  simp (maxDischargeDepth := 30) [execPreampAccess, *]

theorem execRingTailWrite_wf (core : Fin 9) (value : ℕ) (s : State) (hwf : s.wf = true) :
    outWf (execRingTailWrite core value s) = true := by
  simp (maxDischargeDepth := 30) [execRingTailWrite, *]

theorem execSentenceLoad_wf (core : Fin 9) (p : Fin 8) (addr : ℕ) (s : State) (hwf : s.wf = true) :
    outWf (execSentenceLoad core p addr s) = true := by
  simp (maxDischargeDepth := 30) [execSentenceLoad, *]

theorem execPlayerAbort_wf (core : Fin 9) (p : Fin 8) (value : ℕ) (s : State) (hwf : s.wf = true) :
    outWf (execPlayerAbort core p value s) = true := by
  simp (maxDischargeDepth := 30) [execPlayerAbort, *]

theorem execCoefWrite_wf (who : Requester) (g : Fin 5) (value : List Byte) (s : State) (hwf : s.wf = true) :
    outWf (execCoefWrite who g value s) = true := by
  simp (maxDischargeDepth := 30) [execCoefWrite, *]

theorem execSnapRequest_wf (who : Requester) (g : Fin 5) (value : ℕ) (s : State) (hwf : s.wf = true) :
    outWf (execSnapRequest who g value s) = true := by
  simp (maxDischargeDepth := 30) [execSnapRequest, *]

theorem execInject_wf (who : Requester) (g : Fin 5) (slot : ℕ) (s : State) (hwf : s.wf = true) :
    outWf (execInject who g slot s) = true := by
  simp (maxDischargeDepth := 30) [execInject, *]

theorem execTraceArm_wf (who : Requester) (a : Fin 4) (value : ℕ) (s : State) (hwf : s.wf = true) :
    outWf (execTraceArm who a value s) = true := by
  simp (maxDischargeDepth := 30) [execTraceArm, *]

theorem execTraceForce_wf (who : Requester) (a : Fin 4) (value : ℕ) (s : State) (hwf : s.wf = true) :
    outWf (execTraceForce who a value s) = true := by
  simp (maxDischargeDepth := 30) [execTraceForce, *]

theorem execAnnounce_wf (who : Requester) (value : List Byte) (s : State) (hwf : s.wf = true) :
    outWf (execAnnounce who value s) = true := by
  simp (maxDischargeDepth := 30) [execAnnounce, *]

theorem execDictRequest_wf (who : Requester) (value : List Byte) (s : State) (hwf : s.wf = true) :
    outWf (execDictRequest who value s) = true := by
  simp (maxDischargeDepth := 30) [execDictRequest, *]

theorem execRetireSurface_wf (who : Requester) (value : ℕ) (s : State) (hwf : s.wf = true) :
    outWf (execRetireSurface who value s) = true := by
  simp (maxDischargeDepth := 30) [execRetireSurface, *]

theorem execReshapeRequest_wf (who : Requester) (value : List Byte) (s : State) (hwf : s.wf = true) :
    outWf (execReshapeRequest who value s) = true := by
  simp (maxDischargeDepth := 30) [execReshapeRequest, *]

theorem execReshapeCancel_wf (who : Requester) (value : List Byte) (s : State) (hwf : s.wf = true) :
    outWf (execReshapeCancel who value s) = true := by
  simp (maxDischargeDepth := 30) [execReshapeCancel, *]

theorem execZeroRange_wf (who : Requester) (value : List Byte) (s : State) (hwf : s.wf = true) :
    outWf (execZeroRange who value s) = true := by
  simp (maxDischargeDepth := 30) [execZeroRange, *]

@[simp] theorem maintWrite_wf (s : State) (core : Fin 9) (op : ℕ) (hwf : s.wf = true) :
    (maintWrite s core op).wf = true := by
  simp (maxDischargeDepth := 30) [maintWrite, *]

theorem execCacheClean_wf (core : Fin 9) (s : State) (hwf : s.wf = true) :
    outWf (execCacheClean core s) = true := by
  simp (maxDischargeDepth := 30) [execCacheClean, *]

theorem execCacheInvalidate_wf (core : Fin 9) (s : State) (hwf : s.wf = true) :
    outWf (execCacheInvalidate core s) = true := by
  simp (maxDischargeDepth := 30) [execCacheInvalidate, *]

theorem execCacheCleanInvalidate_wf (core : Fin 9) (s : State) (hwf : s.wf = true) :
    outWf (execCacheCleanInvalidate core s) = true := by
  simp (maxDischargeDepth := 30) [execCacheCleanInvalidate, *]

theorem execCacheFillLock_wf (core : Fin 9) (s : State) (hwf : s.wf = true) :
    outWf (execCacheFillLock core s) = true := by
  simp (maxDischargeDepth := 30) [execCacheFillLock, *]

theorem execCacheUnlock_wf (core : Fin 9) (s : State) (hwf : s.wf = true) :
    outWf (execCacheUnlock core s) = true := by
  simp (maxDischargeDepth := 30) [execCacheUnlock, *]

theorem execCacheCleanSw_wf (core : Fin 9) (s : State) (hwf : s.wf = true) :
    outWf (execCacheCleanSw core s) = true := by
  simp (maxDischargeDepth := 30) [execCacheCleanSw, *]

theorem execCacheInvalidateSw_wf (core : Fin 9) (s : State) (hwf : s.wf = true) :
    outWf (execCacheInvalidateSw core s) = true := by
  simp (maxDischargeDepth := 30) [execCacheInvalidateSw, *]

theorem execCacheCleanInvalidateSw_wf (core : Fin 9) (s : State) (hwf : s.wf = true) :
    outWf (execCacheCleanInvalidateSw core s) = true := by
  simp (maxDischargeDepth := 30) [execCacheCleanInvalidateSw, *]

theorem execDmaGo_wf (who : Requester) (ch : Fin 8) (ctrl : ℕ) (s : State) (hwf : s.wf = true) :
    outWf (execDmaGo who ch ctrl s) = true := by
  simp (maxDischargeDepth := 30) [execDmaGo, *]

theorem execDmaChainGo_wf (who : Requester) (ch : Fin 8) (ctrl : ℕ) (s : State) (hwf : s.wf = true) :
    outWf (execDmaChainGo who ch ctrl s) = true := by
  simp (maxDischargeDepth := 30) [execDmaChainGo, *]

theorem execDmaStop_wf (who : Requester) (ch : Fin 8) (ctrl : ℕ) (s : State) (hwf : s.wf = true) :
    outWf (execDmaStop who ch ctrl s) = true := by
  simp (maxDischargeDepth := 30) [execDmaStop, *]

theorem execNotifyClear_wf (who : Requester) (ch : Fin 8) (value : ℕ) (s : State) (hwf : s.wf = true) :
    outWf (execNotifyClear who ch value s) = true := by
  simp (maxDischargeDepth := 30) [execNotifyClear, *]

theorem execCaptureClear_wf (who : Requester) (r : Fin 9) (value : ℕ) (s : State) (hwf : s.wf = true) :
    outWf (execCaptureClear who r value s) = true := by
  simp (maxDischargeDepth := 30) [execCaptureClear, *]

theorem execClearUpto_wf (who : Requester) (value : ℕ) (s : State) (hwf : s.wf = true) :
    outWf (execClearUpto who value s) = true := by
  simp (maxDischargeDepth := 30) [execClearUpto, *]

theorem execClearAll_wf (who : Requester) (value : ℕ) (s : State) (hwf : s.wf = true) :
    outWf (execClearAll who value s) = true := by
  simp (maxDischargeDepth := 30) [execClearAll, *]

theorem execUnretire_wf (who : Requester) (value : ℕ) (s : State) (hwf : s.wf = true) :
    outWf (execUnretire who value s) = true := by
  simp (maxDischargeDepth := 30) [execUnretire, *]

theorem execSourceEntryWrite_wf (who : Requester) (id : ℕ) (value : List Byte) (s : State) (hwf : s.wf = true) :
    outWf (execSourceEntryWrite who id value s) = true := by
  simp (maxDischargeDepth := 30) [execSourceEntryWrite, *]

@[simp] theorem mailboxWrite_wf (s : State) (core : Fin 9) (cmd : ℕ) (hwf : s.wf = true) :
    (mailboxWrite s core cmd).wf = true := by
  simp (maxDischargeDepth := 30) [mailboxWrite, *]

theorem execMbRead_wf (core : Fin 9) (s : State) (hwf : s.wf = true) :
    outWf (execMbRead core s) = true := by
  simp (maxDischargeDepth := 30) [execMbRead, *]

theorem execMbWrite_wf (core : Fin 9) (s : State) (hwf : s.wf = true) :
    outWf (execMbWrite core s) = true := by
  simp (maxDischargeDepth := 30) [execMbWrite, *]

theorem execMbWriteLast_wf (core : Fin 9) (s : State) (hwf : s.wf = true) :
    outWf (execMbWriteLast core s) = true := by
  simp (maxDischargeDepth := 30) [execMbWriteLast, *]

theorem execMbTransferDone_wf (core : Fin 9) (s : State) (hwf : s.wf = true) :
    outWf (execMbTransferDone core s) = true := by
  simp only [execMbTransferDone]
  split <;> simp (maxDischargeDepth := 30) [*]

theorem execBlobStagingAbandon_wf (index : ℕ) (sub : ℕ) (s : State) (hwf : s.wf = true) :
    outWf (execBlobStagingAbandon index sub s) = true := by
  simp (maxDischargeDepth := 30) [execBlobStagingAbandon, *]

@[simp] theorem girthAnswer_wf (s : State) (h : GirthHeader) (tag : ℕ) (idx : ℕ) (sub : ℕ) (st : ℕ) (value : ℕ) (hwf : s.wf = true) :
    (girthAnswer s h tag idx sub st value).wf = true := by
  simp (maxDischargeDepth := 30) [girthAnswer, *]

theorem execGirthDictGet_wf (h : GirthHeader) (target : ℕ) (tag : ℕ) (index : ℕ) (sub : ℕ) (s : State) (hwf : s.wf = true) :
    outWf (execGirthDictGet h target tag index sub s) = true := by
  unfold execGirthDictGet
  rw [outWf_next]
  refine receive_wf _ _ _ _ _ hwf fun t ht => ?_
  have h1 := readObject_wf t .girth (key index sub) true ht
  dsimp only
  split
  · exact ht
  · split
    · simp [h1]
    · split <;> simp [h1]

theorem execGirthDictSet_wf (h : GirthHeader) (target : ℕ) (tag : ℕ) (index : ℕ) (sub : ℕ) (value : ℕ) (s : State) (hwf : s.wf = true) :
    outWf (execGirthDictSet h target tag index sub value s) = true := by
  unfold execGirthDictSet
  repeat' split
  all_goals simp_all (maxDischargeDepth := 30)

theorem execLinkObject_wf (who : Requester) (index : ℕ) (sub : ℕ) (write : Option (List Byte)) (s : State) (hwf : s.wf = true) :
    outWf (execLinkObject who index sub write s) = true := by
  unfold execLinkObject
  repeat' split
  all_goals simp_all (maxDischargeDepth := 30)

@[simp] theorem dramParts_wf (s : State) (core : ℕ) (a : ℕ) (width : ℕ) (acc : CoreAccess) (ecc : EccOutcome) (hwf : s.wf = true) :
    (dramParts s core a width acc ecc).wf = true := by
  simp (maxDischargeDepth := 30) [dramParts, *]

@[simp] theorem norBytes_wf (s : State) (off : ℕ) (width : ℕ) (hwf : s.wf = true) :
    (norBytes s off width).2.wf = true := by
  simp only [norBytes]
  repeat' split
  all_goals simp (maxDischargeDepth := 30) [*]

theorem windowBytes_wf (s : State) (a width : Nat) (h : s.wf = true) (e) (he : windowBytes s a width = some e) : e.2.wf = true := by
  unfold windowBytes at he
  dsimp only at he
  repeat' split at he
  all_goals cases he
  all_goals (try split)
  all_goals simp [h]

@[simp] theorem norLoad_wf (s : State) (core : ℕ) (off : ℕ) (width : ℕ) (hwf : s.wf = true) :
    (norLoad s core off width).wf = true := by
  simp (maxDischargeDepth := 30) [norLoad, *]

@[simp] theorem coreAccess_wf (s : State) (core : Fin 9) (addr : ℕ) (width : ℕ) (acc : CoreAccess) (ecc : EccOutcome) (hwf : s.wf = true) :
    (coreAccess s core addr width acc ecc).wf = true := by
  unfold coreAccess
  dsimp only
  repeat' split
  all_goals first
    | (simp (maxDischargeDepth := 30) [*]; done)
    | (have := windowBytes_wf _ _ _ hwf _ ‹_›; simp_all)

theorem execCoreMemoryAccess_wf (core : Fin 9) (addr : ℕ) (width : ℕ) (access : CoreAccess) (ecc : EccOutcome) (s : State) (hwf : s.wf = true) :
    outWf (execCoreMemoryAccess core addr width access ecc s) = true := by
  simp (maxDischargeDepth := 30) [execCoreMemoryAccess, *]

end Sys2Proof.Machine
end

