-- ==== Sys2Proof/Laws/Writes.lean ====
section
/-!
SUPPORT. Every command writes only the objects that `writes` lists for it, one lemma per command whose list is not everything.
-/

namespace Sys2Proof.Machine

theorem kept_of_outAt {k : Key} {s t : State} {o : Host.Outcome State Fault Refusal} (h : outAt k (s.obj k) o) (e : o = .next t) :
    t.obj k = s.obj k := by
  subst e; exact h

theorem feedPresent_writes {i_f} {s nx : State} (he : exec (.feedPresent i_f) s = .next nx) : ObjsKept (writes (.feedPresent i_f)) s nx := fun k hk =>
  kept_of_outAt (@execFeedPresent_at k _
    ⟨fun e => hk (by show _ ∈ _; simp [e])⟩ i_f s (At.self s)) he

theorem feedLost_writes {i_f i_why} {s nx : State} (he : exec (.feedLost i_f i_why) s = .next nx) : ObjsKept (writes (.feedLost i_f i_why)) s nx := fun k hk =>
  kept_of_outAt (@execFeedLost_at k _
    ⟨fun e => hk (.inl (by simp [e]))⟩
    ⟨fun a e => hk (.inr (.inl (⟨a, by simp [e]⟩)))⟩
    ⟨fun a b e => hk (.inr (.inr (⟨a, b, by simp [e]⟩)))⟩
    ⟨fun a e => hk (.inr (.inl (⟨a, by simp [e]⟩)))⟩
    ⟨fun e => hk (.inl (by simp [e]))⟩
    ⟨fun a e => hk (.inr (.inl (⟨a, by simp [e]⟩)))⟩
    ⟨fun a e => hk (.inr (.inl (⟨a, by simp [e]⟩)))⟩
    ⟨fun e => hk (.inl (by simp [e]))⟩
    ⟨fun a e => hk (.inr (.inl (⟨a, by simp [e]⟩)))⟩
    ⟨fun a e => hk (.inr (.inl (⟨a, by simp [e]⟩)))⟩
    ⟨fun a e => hk (.inr (.inl (⟨a, by simp [e]⟩)))⟩
    ⟨fun e => hk (.inl (by simp [e]))⟩
    ⟨fun a e => hk (.inr (.inl (⟨a, by simp [e]⟩)))⟩
    ⟨fun a b e => hk (.inr (.inr (⟨a, b, by simp [e]⟩)))⟩
    ⟨fun e => hk (.inl (by simp [e]))⟩
    ⟨fun a e => hk (.inr (.inl (⟨a, by simp [e]⟩)))⟩
    ⟨fun a e => hk (.inr (.inl (⟨a, by simp [e]⟩)))⟩
    ⟨fun a e => hk (.inr (.inl (⟨a, by simp [e]⟩)))⟩
    ⟨fun e => hk (.inl (by simp [e]))⟩
    ⟨fun a e => hk (.inr (.inl (⟨a, by simp [e]⟩)))⟩
    ⟨fun e => hk (.inl (by simp [e]))⟩
    ⟨fun a b e => hk (.inr (.inr (⟨a, b, by simp [e]⟩)))⟩
    ⟨fun a e => hk (.inr (.inl (⟨a, by simp [e]⟩)))⟩
    ⟨fun a e => hk (.inr (.inl (⟨a, by simp [e]⟩)))⟩
    ⟨fun e => hk (.inl (by simp [e]))⟩
    ⟨fun a e => hk (.inr (.inl (⟨a, by simp [e]⟩)))⟩
    ⟨fun e => hk (.inl (by simp [e]))⟩
    ⟨fun a e => hk (.inr (.inl (⟨a, by simp [e]⟩)))⟩ i_f i_why s (At.self s)) he

theorem feedSwitchReclose_writes {i_f} {s nx : State} (he : exec (.feedSwitchReclose i_f) s = .next nx) : ObjsKept (writes (.feedSwitchReclose i_f)) s nx := fun k hk =>
  kept_of_outAt (@execFeedSwitchReclose_at k _
    ⟨fun e => hk (by show _ ∈ _; simp [e])⟩ i_f s (At.self s)) he

theorem pwrdisAssert_writes {s nx : State} (he : exec (.pwrdisAssert) s = .next nx) : ObjsKept (writes (.pwrdisAssert)) s nx := fun k hk =>
  kept_of_outAt (@execPwrdisAssert_at k _
    ⟨fun e => hk (.inl (by simp [e]))⟩
    ⟨fun a e => hk (.inr (.inl (⟨a, by simp [e]⟩)))⟩
    ⟨fun a b e => hk (.inr (.inr (⟨a, b, by simp [e]⟩)))⟩
    ⟨fun a e => hk (.inr (.inl (⟨a, by simp [e]⟩)))⟩
    ⟨fun e => hk (.inl (by simp [e]))⟩
    ⟨fun a e => hk (.inr (.inl (⟨a, by simp [e]⟩)))⟩
    ⟨fun a e => hk (.inr (.inl (⟨a, by simp [e]⟩)))⟩
    ⟨fun e => hk (.inl (by simp [e]))⟩
    ⟨fun a e => hk (.inr (.inl (⟨a, by simp [e]⟩)))⟩
    ⟨fun a e => hk (.inr (.inl (⟨a, by simp [e]⟩)))⟩
    ⟨fun a e => hk (.inr (.inl (⟨a, by simp [e]⟩)))⟩
    ⟨fun e => hk (.inl (by simp [e]))⟩
    ⟨fun a e => hk (.inr (.inl (⟨a, by simp [e]⟩)))⟩
    ⟨fun a b e => hk (.inr (.inr (⟨a, b, by simp [e]⟩)))⟩
    ⟨fun e => hk (.inl (by simp [e]))⟩
    ⟨fun a e => hk (.inr (.inl (⟨a, by simp [e]⟩)))⟩
    ⟨fun a e => hk (.inr (.inl (⟨a, by simp [e]⟩)))⟩
    ⟨fun a e => hk (.inr (.inl (⟨a, by simp [e]⟩)))⟩
    ⟨fun e => hk (.inl (by simp [e]))⟩
    ⟨fun a e => hk (.inr (.inl (⟨a, by simp [e]⟩)))⟩
    ⟨fun e => hk (.inl (by simp [e]))⟩
    ⟨fun a b e => hk (.inr (.inr (⟨a, b, by simp [e]⟩)))⟩
    ⟨fun a e => hk (.inr (.inl (⟨a, by simp [e]⟩)))⟩
    ⟨fun a e => hk (.inr (.inl (⟨a, by simp [e]⟩)))⟩
    ⟨fun e => hk (.inl (by simp [e]))⟩
    ⟨fun a e => hk (.inr (.inl (⟨a, by simp [e]⟩)))⟩
    ⟨fun e => hk (.inl (by simp [e]))⟩
    ⟨fun a e => hk (.inr (.inl (⟨a, by simp [e]⟩)))⟩ s (At.self s)) he

theorem pwrdisRelease_writes {s nx : State} (he : exec (.pwrdisRelease) s = .next nx) : ObjsKept (writes (.pwrdisRelease)) s nx := fun k hk =>
  kept_of_outAt (@execPwrdisRelease_at k _
    ⟨fun e => hk (by show _ ∈ _; simp [e])⟩ s (At.self s)) he

theorem v3p3Overcurrent_writes {i_a} {s nx : State} (he : exec (.v3p3Overcurrent i_a) s = .next nx) : ObjsKept (writes (.v3p3Overcurrent i_a)) s nx := fun k hk =>
  kept_of_outAt (@execV3p3Overcurrent_at k _
    ⟨fun a e => hk (.inr (.inl (⟨a, by simp [e]⟩)))⟩
    ⟨fun a e => hk (.inr (.inl (⟨a, by simp [e]⟩)))⟩
    ⟨fun a b e => hk (.inr (.inr (⟨a, b, by simp [e]⟩)))⟩
    ⟨fun a e => hk (.inr (.inl (⟨a, by simp [e]⟩)))⟩
    ⟨fun a e => hk (.inr (.inl (⟨a, by simp [e]⟩)))⟩
    ⟨fun a e => hk (.inr (.inl (⟨a, by simp [e]⟩)))⟩
    ⟨fun a e => hk (.inr (.inl (⟨a, by simp [e]⟩)))⟩
    ⟨fun a b e => hk (.inr (.inr (⟨a, b, by simp [e]⟩)))⟩
    ⟨fun a e => hk (.inr (.inl (⟨a, by simp [e]⟩)))⟩
    ⟨fun a e => hk (.inr (.inl (⟨a, by simp [e]⟩)))⟩
    ⟨fun a e => hk (.inr (.inl (⟨a, by simp [e]⟩)))⟩
    ⟨fun a e => hk (.inr (.inl (⟨a, by simp [e]⟩)))⟩
    ⟨fun a e => hk (.inr (.inl (⟨a, by simp [e]⟩)))⟩
    ⟨fun a e => hk (.inr (.inl (⟨a, by simp [e]⟩)))⟩
    ⟨fun a b e => hk (.inr (.inr (⟨a, b, by simp [e]⟩)))⟩
    ⟨fun a e => hk (.inr (.inl (⟨a, by simp [e]⟩)))⟩
    ⟨fun a e => hk (.inr (.inl (⟨a, by simp [e]⟩)))⟩
    ⟨fun a e => hk (.inr (.inl (⟨a, by simp [e]⟩)))⟩
    ⟨fun e => hk (.inl (by simp [e]))⟩
    ⟨fun a e => hk (.inr (.inl (⟨a, by simp [e]⟩)))⟩ i_a s (At.self s)) he

theorem throttleEnter_writes {i_tj} {s nx : State} (he : exec (.throttleEnter i_tj) s = .next nx) : ObjsKept (writes (.throttleEnter i_tj)) s nx := fun k hk =>
  kept_of_outAt (@execThrottleEnter_at k _
    ⟨fun e => hk (by show _ ∈ _; simp [e])⟩
    ⟨fun e => hk (by show _ ∈ _; simp [e])⟩
    ⟨fun e => hk (by show _ ∈ _; simp [e])⟩ i_tj s (At.self s)) he

theorem throttleExit_writes {i_tj} {s nx : State} (he : exec (.throttleExit i_tj) s = .next nx) : ObjsKept (writes (.throttleExit i_tj)) s nx := fun k hk =>
  kept_of_outAt (@execThrottleExit_at k _
    ⟨fun e => hk (by show _ ∈ _; simp [e])⟩
    ⟨fun e => hk (by show _ ∈ _; simp [e])⟩
    ⟨fun e => hk (by show _ ∈ _; simp [e])⟩ i_tj s (At.self s)) he

theorem vcoreSteer_writes {i_minPercent} {s nx : State} (he : exec (.vcoreSteer i_minPercent) s = .next nx) : ObjsKept (writes (.vcoreSteer i_minPercent)) s nx := fun k hk =>
  kept_of_outAt (@execVcoreSteer_at k _
    ⟨fun e => hk (by show _ ∈ _; simp [e])⟩ i_minPercent s (At.self s)) he

theorem writeUnsafe_writes {i_a i_src i_t} {s nx : State} (he : exec (.writeUnsafe i_a i_src i_t) s = .next nx) : ObjsKept (writes (.writeUnsafe i_a i_src i_t)) s nx := fun k hk =>
  kept_of_outAt (@execWriteUnsafe_at k _
    ⟨fun a e => hk (⟨a, by simp [e]⟩)⟩
    ⟨fun a e => hk (⟨a, by simp [e]⟩)⟩ i_a i_src i_t s (At.self s)) he

theorem writeFifoEmpty_writes {i_a} {s nx : State} (he : exec (.writeFifoEmpty i_a) s = .next nx) : ObjsKept (writes (.writeFifoEmpty i_a)) s nx := fun k hk =>
  kept_of_outAt (@execWriteFifoEmpty_at k _
    ⟨fun a e => hk (⟨a, by simp [e]⟩)⟩ i_a s (At.self s)) he

theorem gateEntryExecute_writes {i_p i_t i_adc} {s nx : State} (he : exec (.gateEntryExecute i_p i_t i_adc) s = .next nx) : ObjsKept (writes (.gateEntryExecute i_p i_t i_adc)) s nx := fun k hk =>
  kept_of_outAt (@execGateEntryExecute_at k _
    ⟨fun a b e => hk (.inr (⟨a, b, by simp [e]⟩))⟩
    ⟨fun a e => hk (.inl (⟨a, by simp [e]⟩))⟩
    ⟨fun a e => hk (.inl (⟨a, by simp [e]⟩))⟩
    ⟨fun a b e => hk (.inr (⟨a, b, by simp [e]⟩))⟩
    ⟨fun a e => hk (.inl (⟨a, by simp [e]⟩))⟩
    ⟨fun a b e => hk (.inr (⟨a, b, by simp [e]⟩))⟩
    ⟨fun a e => hk (.inl (⟨a, by simp [e]⟩))⟩
    ⟨fun a e => hk (.inl (⟨a, by simp [e]⟩))⟩
    ⟨fun a e => hk (.inl (⟨a, by simp [e]⟩))⟩ i_p i_t i_adc s (At.self s)) he

theorem sampleOverrun_writes {i_a i_lane} {s nx : State} (he : exec (.sampleOverrun i_a i_lane) s = .next nx) : ObjsKept (writes (.sampleOverrun i_a i_lane)) s nx := fun k _ =>
  kept_of_outAt (@execSampleOverrun_at k _ i_a i_lane s (At.self s)) he

theorem dictionaryGet_writes {i_slot} {s nx : State} (he : exec (.dictionaryGet i_slot) s = .next nx) : ObjsKept (writes (.dictionaryGet i_slot)) s nx := fun k hk =>
  kept_of_outAt (@execDictionaryGet_at k _
    ⟨fun a e => hk (.inr (⟨a, by simp [e]⟩))⟩
    ⟨fun a e => hk (.inr (⟨a, by simp [e]⟩))⟩
    ⟨fun e => hk (.inl (by simp [e]))⟩
    ⟨fun a e => hk (.inr (⟨a, by simp [e]⟩))⟩
    ⟨fun e => hk (.inl (by simp [e]))⟩
    ⟨fun e => hk (.inl (by simp [e]))⟩
    ⟨fun a e => hk (.inr (⟨a, by simp [e]⟩))⟩
    ⟨fun e => hk (.inl (by simp [e]))⟩
    ⟨fun e => hk (.inl (by simp [e]))⟩ i_slot s (At.self s)) he

theorem dictionaryBlockRead_writes {i_slot} {s nx : State} (he : exec (.dictionaryBlockRead i_slot) s = .next nx) : ObjsKept (writes (.dictionaryBlockRead i_slot)) s nx := fun k hk =>
  kept_of_outAt (@execDictionaryBlockRead_at k _
    ⟨fun a e => hk (.inr (⟨a, by simp [e]⟩))⟩
    ⟨fun a e => hk (.inr (⟨a, by simp [e]⟩))⟩
    ⟨fun e => hk (.inl (by simp [e]))⟩
    ⟨fun a e => hk (.inr (⟨a, by simp [e]⟩))⟩
    ⟨fun e => hk (.inl (by simp [e]))⟩
    ⟨fun e => hk (.inl (by simp [e]))⟩
    ⟨fun a e => hk (.inr (⟨a, by simp [e]⟩))⟩
    ⟨fun e => hk (.inl (by simp [e]))⟩
    ⟨fun e => hk (.inl (by simp [e]))⟩ i_slot s (At.self s)) he

theorem dictionaryListRead_writes {i_slot} {s nx : State} (he : exec (.dictionaryListRead i_slot) s = .next nx) : ObjsKept (writes (.dictionaryListRead i_slot)) s nx := fun k hk =>
  kept_of_outAt (@execDictionaryListRead_at k _
    ⟨fun a e => hk (.inr (⟨a, by simp [e]⟩))⟩
    ⟨fun a e => hk (.inr (⟨a, by simp [e]⟩))⟩
    ⟨fun e => hk (.inl (by simp [e]))⟩
    ⟨fun a e => hk (.inr (⟨a, by simp [e]⟩))⟩
    ⟨fun e => hk (.inl (by simp [e]))⟩
    ⟨fun e => hk (.inl (by simp [e]))⟩
    ⟨fun a e => hk (.inr (⟨a, by simp [e]⟩))⟩
    ⟨fun e => hk (.inl (by simp [e]))⟩
    ⟨fun e => hk (.inl (by simp [e]))⟩ i_slot s (At.self s)) he

theorem bolhobaGet_writes {i_h} {s nx : State} (he : exec (.bolhobaGet i_h) s = .next nx) : ObjsKept (writes (.bolhobaGet i_h)) s nx := fun k hk =>
  kept_of_outAt (@execBolhobaGet_at k _
    ⟨fun e => hk (by show _ ∈ _; simp [e])⟩
    ⟨fun e => hk (by show _ ∈ _; simp [e])⟩ i_h s (At.self s)) he

theorem bolhobaListGet_writes {i_h i_keys} {s nx : State} (he : exec (.bolhobaListGet i_h i_keys) s = .next nx) : ObjsKept (writes (.bolhobaListGet i_h i_keys)) s nx := fun k hk =>
  kept_of_outAt (@execBolhobaListGet_at k _
    ⟨fun e => hk (by show _ ∈ _; simp [e])⟩
    ⟨fun e => hk (by show _ ∈ _; simp [e])⟩ i_h i_keys s (At.self s)) he

theorem bolhobaBlockRead_writes {i_h i_offset i_len} {s nx : State} (he : exec (.bolhobaBlockRead i_h i_offset i_len) s = .next nx) : ObjsKept (writes (.bolhobaBlockRead i_h i_offset i_len)) s nx := fun k hk =>
  kept_of_outAt (@execBolhobaBlockRead_at k _
    ⟨fun e => hk (by show _ ∈ _; simp [e])⟩
    ⟨fun e => hk (by show _ ∈ _; simp [e])⟩ i_h i_offset i_len s (At.self s)) he

theorem factoryFrameGap_writes {s nx : State} (he : exec (.factoryFrameGap) s = .next nx) : ObjsKept (writes (.factoryFrameGap)) s nx := fun k _ =>
  kept_of_outAt (@execFactoryFrameGap_at k _ s (At.self s)) he

theorem windowRead_writes {i_core i_addr i_width} {s nx : State} (he : exec (.windowRead i_core i_addr i_width) s = .next nx) : ObjsKept (writes (.windowRead i_core i_addr i_width)) s nx := fun k hk =>
  kept_of_outAt (@execWindowRead_at k _
    ⟨fun e => hk (by show _ ∈ _; simp [e])⟩
    ⟨fun e => hk (by show _ ∈ _; simp [e])⟩ i_core i_addr i_width s (At.self s)) he

theorem blobStagingAbandon_writes {i_index i_sub} {s nx : State} (he : exec (.blobStagingAbandon i_index i_sub) s = .next nx) : ObjsKept (writes (.blobStagingAbandon i_index i_sub)) s nx := fun k _ =>
  kept_of_outAt (@execBlobStagingAbandon_at k _ i_index i_sub s (At.self s)) he

theorem storeCommit_writes {i_programmed} {s nx : State} (he : exec (.storeCommit i_programmed) s = .next nx) : ObjsKept (writes (.storeCommit i_programmed)) s nx := fun k hk =>
  kept_of_outAt (@execStoreCommit_at k _
    ⟨fun e => hk (by show _ ∈ _; simp [e])⟩
    ⟨fun e => hk (by show _ ∈ _; simp [e])⟩ i_programmed s (At.self s)) he

theorem perstDeassert_writes {i_p} {s nx : State} (he : exec (.perstDeassert i_p) s = .next nx) : ObjsKept (writes (.perstDeassert i_p)) s nx := fun k _ =>
  kept_of_outAt (@execPerstDeassert_at k _ i_p s (At.self s)) he

theorem firmwareImageDownload_writes {i_slot i_piece} {s nx : State} (he : exec (.firmwareImageDownload i_slot i_piece) s = .next nx) : ObjsKept (writes (.firmwareImageDownload i_slot i_piece)) s nx := fun k hk =>
  kept_of_outAt (@execFirmwareImageDownload_at k _
    ⟨fun a e => hk (.inr (⟨a, by simp [e]⟩))⟩
    ⟨fun a e => hk (.inr (⟨a, by simp [e]⟩))⟩
    ⟨fun a e => hk (.inr (⟨a, by simp [e]⟩))⟩
    ⟨fun e => hk (.inl (by simp [e]))⟩
    ⟨fun e => hk (.inl (by simp [e]))⟩
    ⟨fun a e => hk (.inr (⟨a, by simp [e]⟩))⟩
    ⟨fun e => hk (.inl (by simp [e]))⟩ i_slot i_piece s (At.self s)) he

theorem firmwareCommitReplace_writes {i_slot} {s nx : State} (he : exec (.firmwareCommitReplace i_slot) s = .next nx) : ObjsKept (writes (.firmwareCommitReplace i_slot)) s nx := fun k hk =>
  kept_of_outAt (@execFirmwareCommitReplace_at k _
    ⟨fun a e => hk (.inr (⟨a, by simp [e]⟩))⟩
    ⟨fun a e => hk (.inr (⟨a, by simp [e]⟩))⟩
    ⟨fun a e => hk (.inr (⟨a, by simp [e]⟩))⟩
    ⟨fun e => hk (.inl (by simp [e]))⟩
    ⟨fun e => hk (.inl (by simp [e]))⟩
    ⟨fun a e => hk (.inr (⟨a, by simp [e]⟩))⟩
    ⟨fun e => hk (.inl (by simp [e]))⟩ i_slot s (At.self s)) he

theorem firmwareCommitReplaceActivate_writes {i_slot} {s nx : State} (he : exec (.firmwareCommitReplaceActivate i_slot) s = .next nx) : ObjsKept (writes (.firmwareCommitReplaceActivate i_slot)) s nx := fun k hk =>
  kept_of_outAt (@execFirmwareCommitReplaceActivate_at k _
    ⟨fun a e => hk (.inr (⟨a, by simp [e]⟩))⟩
    ⟨fun a e => hk (.inr (⟨a, by simp [e]⟩))⟩
    ⟨fun a e => hk (.inr (⟨a, by simp [e]⟩))⟩
    ⟨fun e => hk (.inl (by simp [e]))⟩
    ⟨fun e => hk (.inl (by simp [e]))⟩
    ⟨fun a e => hk (.inr (⟨a, by simp [e]⟩))⟩
    ⟨fun e => hk (.inl (by simp [e]))⟩ i_slot s (At.self s)) he

theorem firmwareCommitActivate_writes {i_slot} {s nx : State} (he : exec (.firmwareCommitActivate i_slot) s = .next nx) : ObjsKept (writes (.firmwareCommitActivate i_slot)) s nx := fun k hk =>
  kept_of_outAt (@execFirmwareCommitActivate_at k _
    ⟨fun a e => hk (.inr (⟨a, by simp [e]⟩))⟩
    ⟨fun a e => hk (.inr (⟨a, by simp [e]⟩))⟩
    ⟨fun a e => hk (.inr (⟨a, by simp [e]⟩))⟩
    ⟨fun e => hk (.inl (by simp [e]))⟩
    ⟨fun e => hk (.inl (by simp [e]))⟩
    ⟨fun a e => hk (.inr (⟨a, by simp [e]⟩))⟩
    ⟨fun e => hk (.inl (by simp [e]))⟩ i_slot s (At.self s)) he

theorem firmwareCommitActivateNow_writes {i_slot} {s nx : State} (he : exec (.firmwareCommitActivateNow i_slot) s = .next nx) : ObjsKept (writes (.firmwareCommitActivateNow i_slot)) s nx := fun k hk =>
  kept_of_outAt (@execFirmwareCommitActivateNow_at k _
    ⟨fun e => hk (.inl (by simp [e]))⟩
    ⟨fun a e => hk (.inr (⟨a, by simp [e]⟩))⟩
    ⟨fun a e => hk (.inr (⟨a, by simp [e]⟩))⟩
    ⟨fun a e => hk (.inr (⟨a, by simp [e]⟩))⟩
    ⟨fun e => hk (.inl (by simp [e]))⟩
    ⟨fun e => hk (.inl (by simp [e]))⟩
    ⟨fun a e => hk (.inr (⟨a, by simp [e]⟩))⟩
    ⟨fun e => hk (.inl (by simp [e]))⟩ i_slot s (At.self s)) he

theorem firmwareCommitInvalidAction_writes {i_slot} {s nx : State} (he : exec (.firmwareCommitInvalidAction i_slot) s = .next nx) : ObjsKept (writes (.firmwareCommitInvalidAction i_slot)) s nx := fun k hk =>
  kept_of_outAt (@execFirmwareCommitInvalidAction_at k _
    ⟨fun a e => hk (.inr (⟨a, by simp [e]⟩))⟩
    ⟨fun a e => hk (.inr (⟨a, by simp [e]⟩))⟩
    ⟨fun a e => hk (.inr (⟨a, by simp [e]⟩))⟩
    ⟨fun e => hk (.inl (by simp [e]))⟩
    ⟨fun e => hk (.inl (by simp [e]))⟩
    ⟨fun a e => hk (.inr (⟨a, by simp [e]⟩))⟩
    ⟨fun e => hk (.inl (by simp [e]))⟩ i_slot s (At.self s)) he

theorem firmwareCommitDone_writes {s nx : State} (he : exec (.firmwareCommitDone) s = .next nx) : ObjsKept (writes (.firmwareCommitDone)) s nx := fun k hk =>
  kept_of_outAt (@execFirmwareCommitDone_at k _
    ⟨fun a e => hk (.inr (⟨a, by simp [e]⟩))⟩
    ⟨fun a e => hk (.inr (⟨a, by simp [e]⟩))⟩
    ⟨fun a e => hk (.inr (⟨a, by simp [e]⟩))⟩
    ⟨fun e => hk (.inl (by simp [e]))⟩
    ⟨fun e => hk (.inl (by simp [e]))⟩
    ⟨fun a e => hk (.inr (⟨a, by simp [e]⟩))⟩
    ⟨fun e => hk (.inl (by simp [e]))⟩ s (At.self s)) he

theorem activationStaged_writes {s nx : State} (he : exec (.activationStaged) s = .next nx) : ObjsKept (writes (.activationStaged)) s nx := fun k hk =>
  kept_of_outAt (@execActivationStaged_at k _
    ⟨fun e => hk (.inl (by simp [e]))⟩
    ⟨fun a e => hk (.inr (⟨a, by simp [e]⟩))⟩
    ⟨fun a e => hk (.inr (⟨a, by simp [e]⟩))⟩
    ⟨fun a e => hk (.inr (⟨a, by simp [e]⟩))⟩
    ⟨fun e => hk (.inl (by simp [e]))⟩
    ⟨fun e => hk (.inl (by simp [e]))⟩
    ⟨fun a e => hk (.inr (⟨a, by simp [e]⟩))⟩
    ⟨fun e => hk (.inl (by simp [e]))⟩ s (At.self s)) he

theorem activationBankSwitch_writes {s nx : State} (he : exec (.activationBankSwitch) s = .next nx) : ObjsKept (writes (.activationBankSwitch)) s nx := fun k hk =>
  kept_of_outAt (@execActivationBankSwitch_at k _
    ⟨fun e => hk (.inl (by simp [e]))⟩
    ⟨fun a e => hk (.inr (⟨a, by simp [e]⟩))⟩ s (At.self s)) he

theorem bundleWriteDone_writes {s nx : State} (he : exec (.bundleWriteDone) s = .next nx) : ObjsKept (writes (.bundleWriteDone)) s nx := fun k hk =>
  kept_of_outAt (@execBundleWriteDone_at k _
    ⟨fun e => hk (by show _ ∈ _; simp [e])⟩ s (At.self s)) he

theorem lifecycleNonceRead_writes {i_who} {s nx : State} (he : exec (.lifecycleNonceRead i_who) s = .next nx) : ObjsKept (writes (.lifecycleNonceRead i_who)) s nx := fun k hk =>
  kept_of_outAt (@execLifecycleNonceRead_at k _
    ⟨fun e => hk (by show _ ∈ _; simp [e])⟩
    ⟨fun e => hk (by show _ ∈ _; simp [e])⟩ i_who s (At.self s)) he

theorem lifecycleNonceExpire_writes {s nx : State} (he : exec (.lifecycleNonceExpire) s = .next nx) : ObjsKept (writes (.lifecycleNonceExpire)) s nx := fun k _ =>
  kept_of_outAt (@execLifecycleNonceExpire_at k _ s (At.self s)) he

theorem spdmGetVersion_writes {i_via} {s nx : State} (he : exec (.spdmGetVersion i_via) s = .next nx) : ObjsKept (writes (.spdmGetVersion i_via)) s nx := fun k _ =>
  kept_of_outAt (@execSpdmGetVersion_at k _ i_via s (At.self s)) he

theorem spdmGetCapabilities_writes {i_via i_request} {s nx : State} (he : exec (.spdmGetCapabilities i_via i_request) s = .next nx) : ObjsKept (writes (.spdmGetCapabilities i_via i_request)) s nx := fun k _ =>
  kept_of_outAt (@execSpdmGetCapabilities_at k _ i_via i_request s (At.self s)) he

theorem spdmNegotiateAlgorithms_writes {i_via i_request} {s nx : State} (he : exec (.spdmNegotiateAlgorithms i_via i_request) s = .next nx) : ObjsKept (writes (.spdmNegotiateAlgorithms i_via i_request)) s nx := fun k _ =>
  kept_of_outAt (@execSpdmNegotiateAlgorithms_at k _ i_via i_request s (At.self s)) he

theorem spdmGetDigests_writes {i_via} {s nx : State} (he : exec (.spdmGetDigests i_via) s = .next nx) : ObjsKept (writes (.spdmGetDigests i_via)) s nx := fun k _ =>
  kept_of_outAt (@execSpdmGetDigests_at k _ i_via s (At.self s)) he

theorem spdmGetCertificate_writes {i_via i_slot i_offset i_len} {s nx : State} (he : exec (.spdmGetCertificate i_via i_slot i_offset i_len) s = .next nx) : ObjsKept (writes (.spdmGetCertificate i_via i_slot i_offset i_len)) s nx := fun k _ =>
  kept_of_outAt (@execSpdmGetCertificate_at k _ i_via i_slot i_offset i_len s (At.self s)) he

theorem spdmChallenge_writes {i_via i_slot i_hashType i_nonce} {s nx : State} (he : exec (.spdmChallenge i_via i_slot i_hashType i_nonce) s = .next nx) : ObjsKept (writes (.spdmChallenge i_via i_slot i_hashType i_nonce)) s nx := fun k _ =>
  kept_of_outAt (@execSpdmChallenge_at k _ i_via i_slot i_hashType i_nonce s (At.self s)) he

theorem spdmGetMeasurements_writes {i_via i_attributes i_index i_slotId i_nonce} {s nx : State} (he : exec (.spdmGetMeasurements i_via i_attributes i_index i_slotId i_nonce) s = .next nx) : ObjsKept (writes (.spdmGetMeasurements i_via i_attributes i_index i_slotId i_nonce)) s nx := fun k _ =>
  kept_of_outAt (@execSpdmGetMeasurements_at k _ i_via i_attributes i_index i_slotId i_nonce s (At.self s)) he

theorem spdmUnsupported_writes {i_via i_req} {s nx : State} (he : exec (.spdmUnsupported i_via i_req) s = .next nx) : ObjsKept (writes (.spdmUnsupported i_via i_req)) s nx := fun k _ =>
  kept_of_outAt (@execSpdmUnsupported_at k _ i_via i_req s (At.self s)) he

theorem sanitize_writes {i_slot i_action} {s nx : State} (he : exec (.sanitize i_slot i_action) s = .next nx) : ObjsKept (writes (.sanitize i_slot i_action)) s nx := fun k hk =>
  kept_of_outAt (@execSanitize_at k _
    ⟨fun a e => hk (.inr (⟨a, by simp [e]⟩))⟩
    ⟨fun a e => hk (.inr (⟨a, by simp [e]⟩))⟩
    ⟨fun a e => hk (.inr (⟨a, by simp [e]⟩))⟩
    ⟨fun e => hk (.inl (by simp [e]))⟩
    ⟨fun e => hk (.inl (by simp [e]))⟩
    ⟨fun a e => hk (.inr (⟨a, by simp [e]⟩))⟩
    ⟨fun e => hk (.inl (by simp [e]))⟩ i_slot i_action s (At.self s)) he

theorem formatNvm_writes {i_slot} {s nx : State} (he : exec (.formatNvm i_slot) s = .next nx) : ObjsKept (writes (.formatNvm i_slot)) s nx := fun k hk =>
  kept_of_outAt (@execFormatNvm_at k _
    ⟨fun a e => hk (.inr (⟨a, by simp [e]⟩))⟩
    ⟨fun a e => hk (.inr (⟨a, by simp [e]⟩))⟩
    ⟨fun a e => hk (.inr (⟨a, by simp [e]⟩))⟩
    ⟨fun e => hk (.inl (by simp [e]))⟩
    ⟨fun e => hk (.inl (by simp [e]))⟩
    ⟨fun a e => hk (.inr (⟨a, by simp [e]⟩))⟩
    ⟨fun e => hk (.inl (by simp [e]))⟩ i_slot s (At.self s)) he

theorem grownEntryCommit_writes {i_surface i_entry} {s nx : State} (he : exec (.grownEntryCommit i_surface i_entry) s = .next nx) : ObjsKept (writes (.grownEntryCommit i_surface i_entry)) s nx := fun k hk =>
  kept_of_outAt (@execGrownEntryCommit_at k _
    ⟨fun e => hk (.inl (by simp [e]))⟩
    ⟨fun e => hk (.inl (by simp [e]))⟩
    ⟨fun e => hk (.inl (by simp [e]))⟩
    ⟨fun a b e => hk (.inr (⟨a, b, by simp [e]⟩))⟩
    ⟨fun e => hk (.inl (by simp [e]))⟩
    ⟨fun e => hk (.inl (by simp [e]))⟩
    ⟨fun e => hk (.inl (by simp [e]))⟩
    ⟨fun e => hk (.inl (by simp [e]))⟩
    ⟨fun e => hk (.inl (by simp [e]))⟩
    ⟨fun e => hk (.inl (by simp [e]))⟩
    ⟨fun e => hk (.inl (by simp [e]))⟩ i_surface i_entry s (At.self s)) he

theorem holderMoveDone_writes {i_holder i_surface} {s nx : State} (he : exec (.holderMoveDone i_holder i_surface) s = .next nx) : ObjsKept (writes (.holderMoveDone i_holder i_surface)) s nx := fun k _ =>
  kept_of_outAt (@execHolderMoveDone_at k _ i_holder i_surface s (At.self s)) he

theorem servoSyncTimeout_writes {i_a} {s nx : State} (he : exec (.servoSyncTimeout i_a) s = .next nx) : ObjsKept (writes (.servoSyncTimeout i_a)) s nx := fun k hk =>
  kept_of_outAt (@execServoSyncTimeout_at k _
    ⟨fun a e => hk (⟨a, by simp [e]⟩)⟩
    ⟨fun a e => hk (⟨a, by simp [e]⟩)⟩
    ⟨fun a e => hk (⟨a, by simp [e]⟩)⟩
    ⟨fun a e => hk (⟨a, by simp [e]⟩)⟩
    ⟨fun a e => hk (⟨a, by simp [e]⟩)⟩
    ⟨fun a e => hk (⟨a, by simp [e]⟩)⟩
    ⟨fun a e => hk (⟨a, by simp [e]⟩)⟩
    ⟨fun a e => hk (⟨a, by simp [e]⟩)⟩
    ⟨fun a e => hk (⟨a, by simp [e]⟩)⟩
    ⟨fun a e => hk (⟨a, by simp [e]⟩)⟩ i_a s (At.self s)) he

theorem synthLock_writes {i_a} {s nx : State} (he : exec (.synthLock i_a) s = .next nx) : ObjsKept (writes (.synthLock i_a)) s nx := fun k _ =>
  kept_of_outAt (@execSynthLock_at k _ i_a s (At.self s)) he

theorem synthUnlock_writes {i_a} {s nx : State} (he : exec (.synthUnlock i_a) s = .next nx) : ObjsKept (writes (.synthUnlock i_a)) s nx := fun k hk =>
  kept_of_outAt (@execSynthUnlock_at k _
    ⟨fun a e => hk (⟨a, by simp [e]⟩)⟩
    ⟨fun a e => hk (⟨a, by simp [e]⟩)⟩
    ⟨fun a e => hk (⟨a, by simp [e]⟩)⟩ i_a s (At.self s)) he

theorem thermalAsperity_writes {i_a i_adc} {s nx : State} (he : exec (.thermalAsperity i_a i_adc) s = .next nx) : ObjsKept (writes (.thermalAsperity i_a i_adc)) s nx := fun k hk =>
  kept_of_outAt (@execThermalAsperity_at k _
    ⟨fun a e => hk (⟨a, by simp [e]⟩)⟩ i_a i_adc s (At.self s)) he

theorem dropDetect_writes {i_a i_adc} {s nx : State} (he : exec (.dropDetect i_a i_adc) s = .next nx) : ObjsKept (writes (.dropDetect i_a i_adc)) s nx := fun k hk =>
  kept_of_outAt (@execDropDetect_at k _
    ⟨fun a e => hk (⟨a, by simp [e]⟩)⟩ i_a i_adc s (At.self s)) he

theorem freezeHangoverEnd_writes {i_a i_adc} {s nx : State} (he : exec (.freezeHangoverEnd i_a i_adc) s = .next nx) : ObjsKept (writes (.freezeHangoverEnd i_a i_adc)) s nx := fun k _ =>
  kept_of_outAt (@execFreezeHangoverEnd_at k _ i_a i_adc s (At.self s)) he

theorem longFreeze_writes {i_a i_adc} {s nx : State} (he : exec (.longFreeze i_a i_adc) s = .next nx) : ObjsKept (writes (.longFreeze i_a i_adc)) s nx := fun k hk =>
  kept_of_outAt (@execLongFreeze_at k _
    ⟨fun a e => hk (⟨a, by simp [e]⟩)⟩ i_a i_adc s (At.self s)) he

theorem syncWindowEnd_writes {i_p i_first i_candidates} {s nx : State} (he : exec (.syncWindowEnd i_p i_first i_candidates) s = .next nx) : ObjsKept (writes (.syncWindowEnd i_p i_first i_candidates)) s nx := fun k hk =>
  kept_of_outAt (@execSyncWindowEnd_at k _
    ⟨fun a e => hk (⟨a, by simp [e]⟩)⟩
    ⟨fun a e => hk (⟨a, by simp [e]⟩)⟩ i_p i_first i_candidates s (At.self s)) he

theorem captureEnd_writes {i_p i_adc} {s nx : State} (he : exec (.captureEnd i_p i_adc) s = .next nx) : ObjsKept (writes (.captureEnd i_p i_adc)) s nx := fun k hk =>
  kept_of_outAt (@execCaptureEnd_at k _
    ⟨fun a b e => hk (.inr (⟨a, b, by simp [e]⟩))⟩
    ⟨fun a b e => hk (.inr (⟨a, b, by simp [e]⟩))⟩
    ⟨fun a e => hk (.inl (⟨a, by simp [e]⟩))⟩
    ⟨fun a b e => hk (.inr (⟨a, b, by simp [e]⟩))⟩
    ⟨fun a e => hk (.inl (⟨a, by simp [e]⟩))⟩ i_p i_adc s (At.self s)) he

theorem preampFaultAssert_writes {i_a} {s nx : State} (he : exec (.preampFaultAssert i_a) s = .next nx) : ObjsKept (writes (.preampFaultAssert i_a)) s nx := fun k hk =>
  kept_of_outAt (@execPreampFaultAssert_at k _
    ⟨fun a e => hk (⟨a, by simp [e]⟩)⟩
    ⟨fun a e => hk (⟨a, by simp [e]⟩)⟩
    ⟨fun a e => hk (⟨a, by simp [e]⟩)⟩ i_a s (At.self s)) he

theorem preampFaultPersist_writes {i_a} {s nx : State} (he : exec (.preampFaultPersist i_a) s = .next nx) : ObjsKept (writes (.preampFaultPersist i_a)) s nx := fun k hk =>
  kept_of_outAt (@execPreampFaultPersist_at k _
    ⟨fun a e => hk (.inr (.inl (⟨a, by simp [e]⟩)))⟩
    ⟨fun a e => hk (.inr (.inl (⟨a, by simp [e]⟩)))⟩
    ⟨fun a b e => hk (.inr (.inr (⟨a, b, by simp [e]⟩)))⟩
    ⟨fun a e => hk (.inr (.inl (⟨a, by simp [e]⟩)))⟩
    ⟨fun a e => hk (.inr (.inl (⟨a, by simp [e]⟩)))⟩
    ⟨fun a e => hk (.inr (.inl (⟨a, by simp [e]⟩)))⟩
    ⟨fun a e => hk (.inr (.inl (⟨a, by simp [e]⟩)))⟩
    ⟨fun a b e => hk (.inr (.inr (⟨a, b, by simp [e]⟩)))⟩
    ⟨fun a e => hk (.inr (.inl (⟨a, by simp [e]⟩)))⟩
    ⟨fun a e => hk (.inr (.inl (⟨a, by simp [e]⟩)))⟩
    ⟨fun a e => hk (.inr (.inl (⟨a, by simp [e]⟩)))⟩
    ⟨fun a e => hk (.inr (.inl (⟨a, by simp [e]⟩)))⟩
    ⟨fun a e => hk (.inr (.inl (⟨a, by simp [e]⟩)))⟩
    ⟨fun a e => hk (.inr (.inl (⟨a, by simp [e]⟩)))⟩
    ⟨fun a b e => hk (.inr (.inr (⟨a, b, by simp [e]⟩)))⟩
    ⟨fun a e => hk (.inr (.inl (⟨a, by simp [e]⟩)))⟩
    ⟨fun a e => hk (.inr (.inl (⟨a, by simp [e]⟩)))⟩
    ⟨fun a e => hk (.inr (.inl (⟨a, by simp [e]⟩)))⟩
    ⟨fun e => hk (.inl (by simp [e]))⟩
    ⟨fun a e => hk (.inr (.inl (⟨a, by simp [e]⟩)))⟩ i_a s (At.self s)) he

theorem preampFrameDone_writes {i_a i_readback i_parityOk} {s nx : State} (he : exec (.preampFrameDone i_a i_readback i_parityOk) s = .next nx) : ObjsKept (writes (.preampFrameDone i_a i_readback i_parityOk)) s nx := fun k hk =>
  kept_of_outAt (@execPreampFrameDone_at k _
    ⟨fun a e => hk (⟨a, by simp [e]⟩)⟩
    ⟨fun a e => hk (⟨a, by simp [e]⟩)⟩
    ⟨fun a e => hk (⟨a, by simp [e]⟩)⟩
    ⟨fun a e => hk (⟨a, by simp [e]⟩)⟩
    ⟨fun a e => hk (⟨a, by simp [e]⟩)⟩ i_a i_readback i_parityOk s (At.self s)) he

theorem writePayloadPoisoned_writes {i_p i_entry} {s nx : State} (he : exec (.writePayloadPoisoned i_p i_entry) s = .next nx) : ObjsKept (writes (.writePayloadPoisoned i_p i_entry)) s nx := fun k hk =>
  kept_of_outAt (@execWritePayloadPoisoned_at k _
    ⟨fun a e => hk (⟨a, by simp [e]⟩)⟩ i_p i_entry s (At.self s)) he

theorem detectorPassDone_writes {i_core i_job i_check} {s nx : State} (he : exec (.detectorPassDone i_core i_job i_check) s = .next nx) : ObjsKept (writes (.detectorPassDone i_core i_job i_check)) s nx := fun k hk => by
  have : Away (∀ a, ¬k = Obj.detCheckFails a) := ⟨fun a e => hk (⟨a, by simp [e]⟩)⟩
  have : Away (∀ a, ¬k = Obj.detSectors a) := ⟨fun a e => hk (⟨a, by simp [e]⟩)⟩
  have : Away (∀ a, ¬k = Obj.ldpcCheckFails a) := ⟨fun a e => hk (⟨a, by simp [e]⟩)⟩
  refine kept_of_outAt (k := k) ?_ he
  have h := At.self (k := k) s
  simp only [exec, execDetectorPassDone_at, h]

theorem ldpcIterationDone_writes {i_core i_job i_check} {s nx : State} (he : exec (.ldpcIterationDone i_core i_job i_check) s = .next nx) : ObjsKept (writes (.ldpcIterationDone i_core i_job i_check)) s nx := fun k hk => by
  have : Away (¬k = Obj.crcFailCount) := ⟨fun e => hk (.inl (by simp [e]))⟩
  have : Away (∀ a, ¬k = Obj.detCheckFails a) := ⟨fun a e => hk (.inr (⟨a, by simp [e]⟩))⟩
  have : Away (¬k = Obj.extendedCount) := ⟨fun e => hk (.inl (by simp [e]))⟩
  have : Away (∀ a, ¬k = Obj.ldpcCheckFails a) := ⟨fun a e => hk (.inr (⟨a, by simp [e]⟩))⟩
  have : Away (∀ a, ¬k = Obj.ldpcSectors a) := ⟨fun a e => hk (.inr (⟨a, by simp [e]⟩))⟩
  have : Away (¬k = Obj.samplesLostCount) := ⟨fun e => hk (.inl (by simp [e]))⟩
  have : Away (¬k = Obj.slotOverrunCount) := ⟨fun e => hk (.inl (by simp [e]))⟩
  refine kept_of_outAt (k := k) ?_ he
  have h := At.self (k := k) s
  simp only [exec, execLdpcIterationDone_at, h]

theorem decodeDeadline_writes {i_job} {s nx : State} (he : exec (.decodeDeadline i_job) s = .next nx) : ObjsKept (writes (.decodeDeadline i_job)) s nx := fun k hk =>
  kept_of_outAt (@execDecodeDeadline_at k _
    ⟨fun e => hk (by show _ ∈ _; simp [e])⟩
    ⟨fun e => hk (by show _ ∈ _; simp [e])⟩
    ⟨fun e => hk (by show _ ∈ _; simp [e])⟩ i_job s (At.self s)) he

theorem holdCopyDone_writes {i_a i_hold} {s nx : State} (he : exec (.holdCopyDone i_a i_hold) s = .next nx) : ObjsKept (writes (.holdCopyDone i_a i_hold)) s nx := fun k _ =>
  kept_of_outAt (@execHoldCopyDone_at k _ i_a i_hold s (At.self s)) he

theorem ladderDeep_writes {i_ring} {s nx : State} (he : exec (.ladderDeep i_ring) s = .next nx) : ObjsKept (writes (.ladderDeep i_ring)) s nx := fun k hk =>
  kept_of_outAt (@execLadderDeep_at k _
    ⟨fun a e => hk (⟨a, by simp [e]⟩)⟩ i_ring s (At.self s)) he

theorem ladderAverage_writes {i_ring} {s nx : State} (he : exec (.ladderAverage i_ring) s = .next nx) : ObjsKept (writes (.ladderAverage i_ring)) s nx := fun k hk =>
  kept_of_outAt (@execLadderAverage_at k _
    ⟨fun a e => hk (⟨a, by simp [e]⟩)⟩ i_ring s (At.self s)) he

theorem ladderReleaseHold_writes {i_ring} {s nx : State} (he : exec (.ladderReleaseHold i_ring) s = .next nx) : ObjsKept (writes (.ladderReleaseHold i_ring)) s nx := fun k hk =>
  kept_of_outAt (@execLadderReleaseHold_at k _
    ⟨fun a e => hk (⟨a, by simp [e]⟩)⟩ i_ring s (At.self s)) he

theorem ladderRequestEnd_writes {i_job} {s nx : State} (he : exec (.ladderRequestEnd i_job) s = .next nx) : ObjsKept (writes (.ladderRequestEnd i_job)) s nx := fun k hk =>
  kept_of_outAt (@execLadderRequestEnd_at k _
    ⟨fun a e => hk (⟨a, by simp [e]⟩)⟩ i_job s (At.self s)) he

theorem ladderStepAdvance_writes {i_surface i_track i_psector i_top i_status i_outcome} {s nx : State} (he : exec (.ladderStepAdvance i_surface i_track i_psector i_top i_status i_outcome) s = .next nx) : ObjsKept (writes (.ladderStepAdvance i_surface i_track i_psector i_top i_status i_outcome)) s nx := fun k hk =>
  kept_of_outAt (@execLadderStepAdvance_at k _
    ⟨fun a e => hk (.inr (⟨a, by simp [e]⟩))⟩
    ⟨fun e => hk (.inl (by simp [e]))⟩ i_surface i_track i_psector i_top i_status i_outcome s (At.self s)) he

theorem sentenceFetchDone_writes {i_p} {s nx : State} (he : exec (.sentenceFetchDone i_p) s = .next nx) : ObjsKept (writes (.sentenceFetchDone i_p)) s nx := fun k hk =>
  kept_of_outAt (@execSentenceFetchDone_at k _
    ⟨fun a e => hk (⟨a, by simp [e]⟩)⟩
    ⟨fun a e => hk (⟨a, by simp [e]⟩)⟩
    ⟨fun a e => hk (⟨a, by simp [e]⟩)⟩
    ⟨fun a e => hk (⟨a, by simp [e]⟩)⟩
    ⟨fun a e => hk (⟨a, by simp [e]⟩)⟩
    ⟨fun a e => hk (⟨a, by simp [e]⟩)⟩
    ⟨fun a e => hk (⟨a, by simp [e]⟩)⟩
    ⟨fun a e => hk (⟨a, by simp [e]⟩)⟩
    ⟨fun a e => hk (⟨a, by simp [e]⟩)⟩ i_p s (At.self s)) he

theorem sentenceUnderrun_writes {i_p} {s nx : State} (he : exec (.sentenceUnderrun i_p) s = .next nx) : ObjsKept (writes (.sentenceUnderrun i_p)) s nx := fun k hk =>
  kept_of_outAt (@execSentenceUnderrun_at k _
    ⟨fun a e => hk (⟨a, by simp [e]⟩)⟩
    ⟨fun a e => hk (⟨a, by simp [e]⟩)⟩
    ⟨fun a e => hk (⟨a, by simp [e]⟩)⟩
    ⟨fun a e => hk (⟨a, by simp [e]⟩)⟩
    ⟨fun a e => hk (⟨a, by simp [e]⟩)⟩
    ⟨fun a e => hk (⟨a, by simp [e]⟩)⟩
    ⟨fun a e => hk (⟨a, by simp [e]⟩)⟩
    ⟨fun a e => hk (⟨a, by simp [e]⟩)⟩ i_p s (At.self s)) he

theorem clauseStep_writes {i_p i_phrase i_arg} {s nx : State} (he : exec (.clauseStep i_p i_phrase i_arg) s = .next nx) : ObjsKept (writes (.clauseStep i_p i_phrase i_arg)) s nx := fun k hk =>
  kept_of_outAt (@execClauseStep_at k _
    ⟨fun a e => hk (.inl (⟨a, by simp [e]⟩))⟩
    ⟨fun a b e => hk (.inr (⟨a, b, by simp [e]⟩))⟩
    ⟨fun a e => hk (.inl (⟨a, by simp [e]⟩))⟩
    ⟨fun a e => hk (.inl (⟨a, by simp [e]⟩))⟩
    ⟨fun a e => hk (.inl (⟨a, by simp [e]⟩))⟩
    ⟨fun a b e => hk (.inr (⟨a, b, by simp [e]⟩))⟩
    ⟨fun a e => hk (.inl (⟨a, by simp [e]⟩))⟩
    ⟨fun a e => hk (.inl (⟨a, by simp [e]⟩))⟩
    ⟨fun a e => hk (.inl (⟨a, by simp [e]⟩))⟩
    ⟨fun a b e => hk (.inr (⟨a, b, by simp [e]⟩))⟩
    ⟨fun a e => hk (.inl (⟨a, by simp [e]⟩))⟩
    ⟨fun a e => hk (.inl (⟨a, by simp [e]⟩))⟩
    ⟨fun a e => hk (.inl (⟨a, by simp [e]⟩))⟩ i_p i_phrase i_arg s (At.self s)) he

theorem clauseGoto_writes {i_p i_phrase i_arg} {s nx : State} (he : exec (.clauseGoto i_p i_phrase i_arg) s = .next nx) : ObjsKept (writes (.clauseGoto i_p i_phrase i_arg)) s nx := fun k hk =>
  kept_of_outAt (@execClauseGoto_at k _
    ⟨fun a e => hk (.inl (⟨a, by simp [e]⟩))⟩
    ⟨fun a b e => hk (.inr (⟨a, b, by simp [e]⟩))⟩
    ⟨fun a e => hk (.inl (⟨a, by simp [e]⟩))⟩
    ⟨fun a e => hk (.inl (⟨a, by simp [e]⟩))⟩
    ⟨fun a e => hk (.inl (⟨a, by simp [e]⟩))⟩
    ⟨fun a b e => hk (.inr (⟨a, b, by simp [e]⟩))⟩
    ⟨fun a e => hk (.inl (⟨a, by simp [e]⟩))⟩
    ⟨fun a e => hk (.inl (⟨a, by simp [e]⟩))⟩
    ⟨fun a e => hk (.inl (⟨a, by simp [e]⟩))⟩
    ⟨fun a b e => hk (.inr (⟨a, b, by simp [e]⟩))⟩
    ⟨fun a e => hk (.inl (⟨a, by simp [e]⟩))⟩
    ⟨fun a e => hk (.inl (⟨a, by simp [e]⟩))⟩
    ⟨fun a e => hk (.inl (⟨a, by simp [e]⟩))⟩ i_p i_phrase i_arg s (At.self s)) he

theorem clauseCall_writes {i_p i_phrase i_arg} {s nx : State} (he : exec (.clauseCall i_p i_phrase i_arg) s = .next nx) : ObjsKept (writes (.clauseCall i_p i_phrase i_arg)) s nx := fun k hk =>
  kept_of_outAt (@execClauseCall_at k _
    ⟨fun a e => hk (.inl (⟨a, by simp [e]⟩))⟩
    ⟨fun a b e => hk (.inr (⟨a, b, by simp [e]⟩))⟩
    ⟨fun a e => hk (.inl (⟨a, by simp [e]⟩))⟩
    ⟨fun a e => hk (.inl (⟨a, by simp [e]⟩))⟩
    ⟨fun a e => hk (.inl (⟨a, by simp [e]⟩))⟩
    ⟨fun a b e => hk (.inr (⟨a, b, by simp [e]⟩))⟩
    ⟨fun a e => hk (.inl (⟨a, by simp [e]⟩))⟩
    ⟨fun a e => hk (.inl (⟨a, by simp [e]⟩))⟩
    ⟨fun a e => hk (.inl (⟨a, by simp [e]⟩))⟩
    ⟨fun a b e => hk (.inr (⟨a, b, by simp [e]⟩))⟩
    ⟨fun a e => hk (.inl (⟨a, by simp [e]⟩))⟩
    ⟨fun a e => hk (.inl (⟨a, by simp [e]⟩))⟩
    ⟨fun a e => hk (.inl (⟨a, by simp [e]⟩))⟩ i_p i_phrase i_arg s (At.self s)) he

theorem clauseRet_writes {i_p i_phrase i_arg} {s nx : State} (he : exec (.clauseRet i_p i_phrase i_arg) s = .next nx) : ObjsKept (writes (.clauseRet i_p i_phrase i_arg)) s nx := fun k hk =>
  kept_of_outAt (@execClauseRet_at k _
    ⟨fun a e => hk (.inl (⟨a, by simp [e]⟩))⟩
    ⟨fun a b e => hk (.inr (⟨a, b, by simp [e]⟩))⟩
    ⟨fun a e => hk (.inl (⟨a, by simp [e]⟩))⟩
    ⟨fun a e => hk (.inl (⟨a, by simp [e]⟩))⟩
    ⟨fun a e => hk (.inl (⟨a, by simp [e]⟩))⟩
    ⟨fun a b e => hk (.inr (⟨a, b, by simp [e]⟩))⟩
    ⟨fun a e => hk (.inl (⟨a, by simp [e]⟩))⟩
    ⟨fun a e => hk (.inl (⟨a, by simp [e]⟩))⟩
    ⟨fun a e => hk (.inl (⟨a, by simp [e]⟩))⟩
    ⟨fun a b e => hk (.inr (⟨a, b, by simp [e]⟩))⟩
    ⟨fun a e => hk (.inl (⟨a, by simp [e]⟩))⟩
    ⟨fun a e => hk (.inl (⟨a, by simp [e]⟩))⟩
    ⟨fun a e => hk (.inl (⟨a, by simp [e]⟩))⟩ i_p i_phrase i_arg s (At.self s)) he

theorem clauseSetcnt_writes {i_p i_phrase i_arg} {s nx : State} (he : exec (.clauseSetcnt i_p i_phrase i_arg) s = .next nx) : ObjsKept (writes (.clauseSetcnt i_p i_phrase i_arg)) s nx := fun k hk =>
  kept_of_outAt (@execClauseSetcnt_at k _
    ⟨fun a e => hk (.inl (⟨a, by simp [e]⟩))⟩
    ⟨fun a b e => hk (.inr (⟨a, b, by simp [e]⟩))⟩
    ⟨fun a e => hk (.inl (⟨a, by simp [e]⟩))⟩
    ⟨fun a e => hk (.inl (⟨a, by simp [e]⟩))⟩
    ⟨fun a e => hk (.inl (⟨a, by simp [e]⟩))⟩
    ⟨fun a b e => hk (.inr (⟨a, b, by simp [e]⟩))⟩
    ⟨fun a e => hk (.inl (⟨a, by simp [e]⟩))⟩
    ⟨fun a e => hk (.inl (⟨a, by simp [e]⟩))⟩
    ⟨fun a e => hk (.inl (⟨a, by simp [e]⟩))⟩
    ⟨fun a b e => hk (.inr (⟨a, b, by simp [e]⟩))⟩
    ⟨fun a e => hk (.inl (⟨a, by simp [e]⟩))⟩
    ⟨fun a e => hk (.inl (⟨a, by simp [e]⟩))⟩
    ⟨fun a e => hk (.inl (⟨a, by simp [e]⟩))⟩ i_p i_phrase i_arg s (At.self s)) he

theorem clauseLoop_writes {i_p i_phrase i_arg} {s nx : State} (he : exec (.clauseLoop i_p i_phrase i_arg) s = .next nx) : ObjsKept (writes (.clauseLoop i_p i_phrase i_arg)) s nx := fun k hk =>
  kept_of_outAt (@execClauseLoop_at k _
    ⟨fun a e => hk (.inl (⟨a, by simp [e]⟩))⟩
    ⟨fun a b e => hk (.inr (⟨a, b, by simp [e]⟩))⟩
    ⟨fun a e => hk (.inl (⟨a, by simp [e]⟩))⟩
    ⟨fun a e => hk (.inl (⟨a, by simp [e]⟩))⟩
    ⟨fun a e => hk (.inl (⟨a, by simp [e]⟩))⟩
    ⟨fun a b e => hk (.inr (⟨a, b, by simp [e]⟩))⟩
    ⟨fun a e => hk (.inl (⟨a, by simp [e]⟩))⟩
    ⟨fun a e => hk (.inl (⟨a, by simp [e]⟩))⟩
    ⟨fun a e => hk (.inl (⟨a, by simp [e]⟩))⟩
    ⟨fun a b e => hk (.inr (⟨a, b, by simp [e]⟩))⟩
    ⟨fun a e => hk (.inl (⟨a, by simp [e]⟩))⟩
    ⟨fun a e => hk (.inl (⟨a, by simp [e]⟩))⟩
    ⟨fun a e => hk (.inl (⟨a, by simp [e]⟩))⟩ i_p i_phrase i_arg s (At.self s)) he

theorem clauseSector_writes {i_p i_phrase i_arg} {s nx : State} (he : exec (.clauseSector i_p i_phrase i_arg) s = .next nx) : ObjsKept (writes (.clauseSector i_p i_phrase i_arg)) s nx := fun k hk =>
  kept_of_outAt (@execClauseSector_at k _
    ⟨fun a e => hk (.inl (⟨a, by simp [e]⟩))⟩
    ⟨fun a b e => hk (.inr (⟨a, b, by simp [e]⟩))⟩
    ⟨fun a e => hk (.inl (⟨a, by simp [e]⟩))⟩
    ⟨fun a e => hk (.inl (⟨a, by simp [e]⟩))⟩
    ⟨fun a e => hk (.inl (⟨a, by simp [e]⟩))⟩
    ⟨fun a b e => hk (.inr (⟨a, b, by simp [e]⟩))⟩
    ⟨fun a e => hk (.inl (⟨a, by simp [e]⟩))⟩
    ⟨fun a e => hk (.inl (⟨a, by simp [e]⟩))⟩
    ⟨fun a e => hk (.inl (⟨a, by simp [e]⟩))⟩
    ⟨fun a b e => hk (.inr (⟨a, b, by simp [e]⟩))⟩
    ⟨fun a e => hk (.inl (⟨a, by simp [e]⟩))⟩
    ⟨fun a e => hk (.inl (⟨a, by simp [e]⟩))⟩
    ⟨fun a e => hk (.inl (⟨a, by simp [e]⟩))⟩ i_p i_phrase i_arg s (At.self s)) he

theorem clauseIfwrite_writes {i_p i_phrase i_arg} {s nx : State} (he : exec (.clauseIfwrite i_p i_phrase i_arg) s = .next nx) : ObjsKept (writes (.clauseIfwrite i_p i_phrase i_arg)) s nx := fun k hk =>
  kept_of_outAt (@execClauseIfwrite_at k _
    ⟨fun a e => hk (.inl (⟨a, by simp [e]⟩))⟩
    ⟨fun a b e => hk (.inr (⟨a, b, by simp [e]⟩))⟩
    ⟨fun a e => hk (.inl (⟨a, by simp [e]⟩))⟩
    ⟨fun a e => hk (.inl (⟨a, by simp [e]⟩))⟩
    ⟨fun a e => hk (.inl (⟨a, by simp [e]⟩))⟩
    ⟨fun a b e => hk (.inr (⟨a, b, by simp [e]⟩))⟩
    ⟨fun a e => hk (.inl (⟨a, by simp [e]⟩))⟩
    ⟨fun a e => hk (.inl (⟨a, by simp [e]⟩))⟩
    ⟨fun a e => hk (.inl (⟨a, by simp [e]⟩))⟩
    ⟨fun a b e => hk (.inr (⟨a, b, by simp [e]⟩))⟩
    ⟨fun a e => hk (.inl (⟨a, by simp [e]⟩))⟩
    ⟨fun a e => hk (.inl (⟨a, by simp [e]⟩))⟩
    ⟨fun a e => hk (.inl (⟨a, by simp [e]⟩))⟩ i_p i_phrase i_arg s (At.self s)) he

theorem clauseIfparity_writes {i_p i_phrase i_arg} {s nx : State} (he : exec (.clauseIfparity i_p i_phrase i_arg) s = .next nx) : ObjsKept (writes (.clauseIfparity i_p i_phrase i_arg)) s nx := fun k hk =>
  kept_of_outAt (@execClauseIfparity_at k _
    ⟨fun a e => hk (.inl (⟨a, by simp [e]⟩))⟩
    ⟨fun a b e => hk (.inr (⟨a, b, by simp [e]⟩))⟩
    ⟨fun a e => hk (.inl (⟨a, by simp [e]⟩))⟩
    ⟨fun a e => hk (.inl (⟨a, by simp [e]⟩))⟩
    ⟨fun a e => hk (.inl (⟨a, by simp [e]⟩))⟩
    ⟨fun a b e => hk (.inr (⟨a, b, by simp [e]⟩))⟩
    ⟨fun a e => hk (.inl (⟨a, by simp [e]⟩))⟩
    ⟨fun a e => hk (.inl (⟨a, by simp [e]⟩))⟩
    ⟨fun a e => hk (.inl (⟨a, by simp [e]⟩))⟩
    ⟨fun a b e => hk (.inr (⟨a, b, by simp [e]⟩))⟩
    ⟨fun a e => hk (.inl (⟨a, by simp [e]⟩))⟩
    ⟨fun a e => hk (.inl (⟨a, by simp [e]⟩))⟩
    ⟨fun a e => hk (.inl (⟨a, by simp [e]⟩))⟩ i_p i_phrase i_arg s (At.self s)) he

theorem clauseEnd_writes {i_p i_phrase i_arg} {s nx : State} (he : exec (.clauseEnd i_p i_phrase i_arg) s = .next nx) : ObjsKept (writes (.clauseEnd i_p i_phrase i_arg)) s nx := fun k hk =>
  kept_of_outAt (@execClauseEnd_at k _
    ⟨fun a e => hk (.inl (⟨a, by simp [e]⟩))⟩
    ⟨fun a b e => hk (.inr (⟨a, b, by simp [e]⟩))⟩
    ⟨fun a e => hk (.inl (⟨a, by simp [e]⟩))⟩
    ⟨fun a e => hk (.inl (⟨a, by simp [e]⟩))⟩
    ⟨fun a e => hk (.inl (⟨a, by simp [e]⟩))⟩
    ⟨fun a b e => hk (.inr (⟨a, b, by simp [e]⟩))⟩
    ⟨fun a e => hk (.inl (⟨a, by simp [e]⟩))⟩
    ⟨fun a e => hk (.inl (⟨a, by simp [e]⟩))⟩
    ⟨fun a e => hk (.inl (⟨a, by simp [e]⟩))⟩
    ⟨fun a b e => hk (.inr (⟨a, b, by simp [e]⟩))⟩
    ⟨fun a e => hk (.inl (⟨a, by simp [e]⟩))⟩
    ⟨fun a e => hk (.inl (⟨a, by simp [e]⟩))⟩
    ⟨fun a e => hk (.inl (⟨a, by simp [e]⟩))⟩ i_p i_phrase i_arg s (At.self s)) he

theorem clauseBad_writes {i_p i_why} {s nx : State} (he : exec (.clauseBad i_p i_why) s = .next nx) : ObjsKept (writes (.clauseBad i_p i_why)) s nx := fun k hk =>
  kept_of_outAt (@execClauseBad_at k _
    ⟨fun a e => hk (.inl (⟨a, by simp [e]⟩))⟩
    ⟨fun a b e => hk (.inr (⟨a, b, by simp [e]⟩))⟩
    ⟨fun a e => hk (.inl (⟨a, by simp [e]⟩))⟩
    ⟨fun a e => hk (.inl (⟨a, by simp [e]⟩))⟩
    ⟨fun a e => hk (.inl (⟨a, by simp [e]⟩))⟩
    ⟨fun a b e => hk (.inr (⟨a, b, by simp [e]⟩))⟩
    ⟨fun a e => hk (.inl (⟨a, by simp [e]⟩))⟩
    ⟨fun a e => hk (.inl (⟨a, by simp [e]⟩))⟩
    ⟨fun a e => hk (.inl (⟨a, by simp [e]⟩))⟩
    ⟨fun a b e => hk (.inr (⟨a, b, by simp [e]⟩))⟩
    ⟨fun a e => hk (.inl (⟨a, by simp [e]⟩))⟩
    ⟨fun a e => hk (.inl (⟨a, by simp [e]⟩))⟩
    ⟨fun a e => hk (.inl (⟨a, by simp [e]⟩))⟩ i_p i_why s (At.self s)) he

theorem clauseTimeEnd_writes {i_p} {s nx : State} (he : exec (.clauseTimeEnd i_p) s = .next nx) : ObjsKept (writes (.clauseTimeEnd i_p)) s nx := fun k hk =>
  kept_of_outAt (@execClauseTimeEnd_at k _
    ⟨fun a e => hk (.inl (⟨a, by simp [e]⟩))⟩
    ⟨fun a b e => hk (.inr (⟨a, b, by simp [e]⟩))⟩
    ⟨fun a e => hk (.inl (⟨a, by simp [e]⟩))⟩
    ⟨fun a e => hk (.inl (⟨a, by simp [e]⟩))⟩
    ⟨fun a e => hk (.inl (⟨a, by simp [e]⟩))⟩
    ⟨fun a b e => hk (.inr (⟨a, b, by simp [e]⟩))⟩
    ⟨fun a e => hk (.inl (⟨a, by simp [e]⟩))⟩
    ⟨fun a e => hk (.inl (⟨a, by simp [e]⟩))⟩
    ⟨fun a e => hk (.inl (⟨a, by simp [e]⟩))⟩
    ⟨fun a b e => hk (.inr (⟨a, b, by simp [e]⟩))⟩
    ⟨fun a e => hk (.inl (⟨a, by simp [e]⟩))⟩
    ⟨fun a e => hk (.inl (⟨a, by simp [e]⟩))⟩
    ⟨fun a e => hk (.inl (⟨a, by simp [e]⟩))⟩ i_p s (At.self s)) he

theorem clauseWaitMet_writes {i_p i_wedge i_t} {s nx : State} (he : exec (.clauseWaitMet i_p i_wedge i_t) s = .next nx) : ObjsKept (writes (.clauseWaitMet i_p i_wedge i_t)) s nx := fun k hk =>
  kept_of_outAt (@execClauseWaitMet_at k _
    ⟨fun a e => hk (.inl (⟨a, by simp [e]⟩))⟩
    ⟨fun a b e => hk (.inr (⟨a, b, by simp [e]⟩))⟩
    ⟨fun a e => hk (.inl (⟨a, by simp [e]⟩))⟩
    ⟨fun a e => hk (.inl (⟨a, by simp [e]⟩))⟩
    ⟨fun a e => hk (.inl (⟨a, by simp [e]⟩))⟩
    ⟨fun a b e => hk (.inr (⟨a, b, by simp [e]⟩))⟩
    ⟨fun a e => hk (.inl (⟨a, by simp [e]⟩))⟩
    ⟨fun a e => hk (.inl (⟨a, by simp [e]⟩))⟩
    ⟨fun a e => hk (.inl (⟨a, by simp [e]⟩))⟩
    ⟨fun a b e => hk (.inr (⟨a, b, by simp [e]⟩))⟩
    ⟨fun a e => hk (.inl (⟨a, by simp [e]⟩))⟩
    ⟨fun a e => hk (.inl (⟨a, by simp [e]⟩))⟩
    ⟨fun a e => hk (.inl (⟨a, by simp [e]⟩))⟩ i_p i_wedge i_t s (At.self s)) he

theorem clauseWaitTimeout_writes {i_p} {s nx : State} (he : exec (.clauseWaitTimeout i_p) s = .next nx) : ObjsKept (writes (.clauseWaitTimeout i_p)) s nx := fun k hk =>
  kept_of_outAt (@execClauseWaitTimeout_at k _
    ⟨fun a e => hk (.inl (⟨a, by simp [e]⟩))⟩
    ⟨fun a b e => hk (.inr (⟨a, b, by simp [e]⟩))⟩
    ⟨fun a e => hk (.inl (⟨a, by simp [e]⟩))⟩
    ⟨fun a e => hk (.inl (⟨a, by simp [e]⟩))⟩
    ⟨fun a e => hk (.inl (⟨a, by simp [e]⟩))⟩
    ⟨fun a b e => hk (.inr (⟨a, b, by simp [e]⟩))⟩
    ⟨fun a e => hk (.inl (⟨a, by simp [e]⟩))⟩
    ⟨fun a e => hk (.inl (⟨a, by simp [e]⟩))⟩
    ⟨fun a e => hk (.inl (⟨a, by simp [e]⟩))⟩
    ⟨fun a b e => hk (.inr (⟨a, b, by simp [e]⟩))⟩
    ⟨fun a e => hk (.inl (⟨a, by simp [e]⟩))⟩
    ⟨fun a e => hk (.inl (⟨a, by simp [e]⟩))⟩
    ⟨fun a e => hk (.inl (⟨a, by simp [e]⟩))⟩
    ⟨fun a e => hk (.inl (⟨a, by simp [e]⟩))⟩ i_p s (At.self s)) he

theorem playerStallEnd_writes {i_p} {s nx : State} (he : exec (.playerStallEnd i_p) s = .next nx) : ObjsKept (writes (.playerStallEnd i_p)) s nx := fun k hk =>
  kept_of_outAt (@execPlayerStallEnd_at k _
    ⟨fun a e => hk (.inl (⟨a, by simp [e]⟩))⟩
    ⟨fun a b e => hk (.inr (⟨a, b, by simp [e]⟩))⟩
    ⟨fun a e => hk (.inl (⟨a, by simp [e]⟩))⟩
    ⟨fun a e => hk (.inl (⟨a, by simp [e]⟩))⟩
    ⟨fun a e => hk (.inl (⟨a, by simp [e]⟩))⟩
    ⟨fun a b e => hk (.inr (⟨a, b, by simp [e]⟩))⟩
    ⟨fun a e => hk (.inl (⟨a, by simp [e]⟩))⟩
    ⟨fun a e => hk (.inl (⟨a, by simp [e]⟩))⟩
    ⟨fun a e => hk (.inl (⟨a, by simp [e]⟩))⟩
    ⟨fun a b e => hk (.inr (⟨a, b, by simp [e]⟩))⟩
    ⟨fun a e => hk (.inl (⟨a, by simp [e]⟩))⟩
    ⟨fun a e => hk (.inl (⟨a, by simp [e]⟩))⟩
    ⟨fun a e => hk (.inl (⟨a, by simp [e]⟩))⟩ i_p s (At.self s)) he

theorem windowEndReached_writes {i_p} {s nx : State} (he : exec (.windowEndReached i_p) s = .next nx) : ObjsKept (writes (.windowEndReached i_p)) s nx := fun k hk =>
  kept_of_outAt (@execWindowEndReached_at k _
    ⟨fun a e => hk (.inl (⟨a, by simp [e]⟩))⟩
    ⟨fun a b e => hk (.inr (⟨a, b, by simp [e]⟩))⟩
    ⟨fun a e => hk (.inl (⟨a, by simp [e]⟩))⟩
    ⟨fun a e => hk (.inl (⟨a, by simp [e]⟩))⟩
    ⟨fun a e => hk (.inl (⟨a, by simp [e]⟩))⟩
    ⟨fun a b e => hk (.inr (⟨a, b, by simp [e]⟩))⟩
    ⟨fun a e => hk (.inl (⟨a, by simp [e]⟩))⟩
    ⟨fun a e => hk (.inl (⟨a, by simp [e]⟩))⟩
    ⟨fun a e => hk (.inl (⟨a, by simp [e]⟩))⟩
    ⟨fun a b e => hk (.inr (⟨a, b, by simp [e]⟩))⟩
    ⟨fun a e => hk (.inl (⟨a, by simp [e]⟩))⟩
    ⟨fun a e => hk (.inl (⟨a, by simp [e]⟩))⟩
    ⟨fun a e => hk (.inl (⟨a, by simp [e]⟩))⟩ i_p s (At.self s)) he

theorem playerMemoryFault_writes {i_p i_store} {s nx : State} (he : exec (.playerMemoryFault i_p i_store) s = .next nx) : ObjsKept (writes (.playerMemoryFault i_p i_store)) s nx := fun k hk =>
  kept_of_outAt (@execPlayerMemoryFault_at k _
    ⟨fun a e => hk (.inl (⟨a, by simp [e]⟩))⟩
    ⟨fun a b e => hk (.inr (⟨a, b, by simp [e]⟩))⟩
    ⟨fun a e => hk (.inl (⟨a, by simp [e]⟩))⟩
    ⟨fun a e => hk (.inl (⟨a, by simp [e]⟩))⟩
    ⟨fun a e => hk (.inl (⟨a, by simp [e]⟩))⟩
    ⟨fun a b e => hk (.inr (⟨a, b, by simp [e]⟩))⟩
    ⟨fun a e => hk (.inl (⟨a, by simp [e]⟩))⟩
    ⟨fun a e => hk (.inl (⟨a, by simp [e]⟩))⟩
    ⟨fun a e => hk (.inl (⟨a, by simp [e]⟩))⟩
    ⟨fun a b e => hk (.inr (⟨a, b, by simp [e]⟩))⟩
    ⟨fun a e => hk (.inl (⟨a, by simp [e]⟩))⟩
    ⟨fun a e => hk (.inl (⟨a, by simp [e]⟩))⟩
    ⟨fun a e => hk (.inl (⟨a, by simp [e]⟩))⟩ i_p i_store s (At.self s)) he

theorem sentenceEnd_writes {i_p} {s nx : State} (he : exec (.sentenceEnd i_p) s = .next nx) : ObjsKept (writes (.sentenceEnd i_p)) s nx := fun k hk =>
  kept_of_outAt (@execSentenceEnd_at k _
    ⟨fun a e => hk (⟨a, by simp [e]⟩)⟩
    ⟨fun a e => hk (⟨a, by simp [e]⟩)⟩
    ⟨fun a e => hk (⟨a, by simp [e]⟩)⟩
    ⟨fun a e => hk (⟨a, by simp [e]⟩)⟩
    ⟨fun a e => hk (⟨a, by simp [e]⟩)⟩
    ⟨fun a e => hk (⟨a, by simp [e]⟩)⟩
    ⟨fun a e => hk (⟨a, by simp [e]⟩)⟩ i_p s (At.self s)) he

theorem sentenceRecordWrite_writes {i_p} {s nx : State} (he : exec (.sentenceRecordWrite i_p) s = .next nx) : ObjsKept (writes (.sentenceRecordWrite i_p)) s nx := fun k _ =>
  kept_of_outAt (@execSentenceRecordWrite_at k _ i_p s (At.self s)) he

theorem reinNop_writes {i_e} {s nx : State} (he : exec (.reinNop i_e) s = .next nx) : ObjsKept (writes (.reinNop i_e)) s nx := fun k _ =>
  kept_of_outAt (@execReinNop_at k _ i_e s (At.self s)) he

theorem reinAdd_writes {i_e i_rd i_ra i_rb} {s nx : State} (he : exec (.reinAdd i_e i_rd i_ra i_rb) s = .next nx) : ObjsKept (writes (.reinAdd i_e i_rd i_ra i_rb)) s nx := fun k _ =>
  kept_of_outAt (@execReinAdd_at k _ i_e i_rd i_ra i_rb s (At.self s)) he

theorem reinSub_writes {i_e i_rd i_ra i_rb} {s nx : State} (he : exec (.reinSub i_e i_rd i_ra i_rb) s = .next nx) : ObjsKept (writes (.reinSub i_e i_rd i_ra i_rb)) s nx := fun k _ =>
  kept_of_outAt (@execReinSub_at k _ i_e i_rd i_ra i_rb s (At.self s)) he

theorem reinAddw_writes {i_e i_rd i_ra i_rb} {s nx : State} (he : exec (.reinAddw i_e i_rd i_ra i_rb) s = .next nx) : ObjsKept (writes (.reinAddw i_e i_rd i_ra i_rb)) s nx := fun k _ =>
  kept_of_outAt (@execReinAddw_at k _ i_e i_rd i_ra i_rb s (At.self s)) he

theorem reinSubw_writes {i_e i_rd i_ra i_rb} {s nx : State} (he : exec (.reinSubw i_e i_rd i_ra i_rb) s = .next nx) : ObjsKept (writes (.reinSubw i_e i_rd i_ra i_rb)) s nx := fun k _ =>
  kept_of_outAt (@execReinSubw_at k _ i_e i_rd i_ra i_rb s (At.self s)) he

theorem reinAnd_writes {i_e i_rd i_ra i_rb} {s nx : State} (he : exec (.reinAnd i_e i_rd i_ra i_rb) s = .next nx) : ObjsKept (writes (.reinAnd i_e i_rd i_ra i_rb)) s nx := fun k _ =>
  kept_of_outAt (@execReinAnd_at k _ i_e i_rd i_ra i_rb s (At.self s)) he

theorem reinOr_writes {i_e i_rd i_ra i_rb} {s nx : State} (he : exec (.reinOr i_e i_rd i_ra i_rb) s = .next nx) : ObjsKept (writes (.reinOr i_e i_rd i_ra i_rb)) s nx := fun k _ =>
  kept_of_outAt (@execReinOr_at k _ i_e i_rd i_ra i_rb s (At.self s)) he

theorem reinXor_writes {i_e i_rd i_ra i_rb} {s nx : State} (he : exec (.reinXor i_e i_rd i_ra i_rb) s = .next nx) : ObjsKept (writes (.reinXor i_e i_rd i_ra i_rb)) s nx := fun k _ =>
  kept_of_outAt (@execReinXor_at k _ i_e i_rd i_ra i_rb s (At.self s)) he

theorem reinMin_writes {i_e i_rd i_ra i_rb} {s nx : State} (he : exec (.reinMin i_e i_rd i_ra i_rb) s = .next nx) : ObjsKept (writes (.reinMin i_e i_rd i_ra i_rb)) s nx := fun k _ =>
  kept_of_outAt (@execReinMin_at k _ i_e i_rd i_ra i_rb s (At.self s)) he

theorem reinMax_writes {i_e i_rd i_ra i_rb} {s nx : State} (he : exec (.reinMax i_e i_rd i_ra i_rb) s = .next nx) : ObjsKept (writes (.reinMax i_e i_rd i_ra i_rb)) s nx := fun k _ =>
  kept_of_outAt (@execReinMax_at k _ i_e i_rd i_ra i_rb s (At.self s)) he

theorem reinAbs_writes {i_e i_rd i_ra} {s nx : State} (he : exec (.reinAbs i_e i_rd i_ra) s = .next nx) : ObjsKept (writes (.reinAbs i_e i_rd i_ra)) s nx := fun k _ =>
  kept_of_outAt (@execReinAbs_at k _ i_e i_rd i_ra s (At.self s)) he

theorem reinNeg_writes {i_e i_rd i_ra} {s nx : State} (he : exec (.reinNeg i_e i_rd i_ra) s = .next nx) : ObjsKept (writes (.reinNeg i_e i_rd i_ra)) s nx := fun k _ =>
  kept_of_outAt (@execReinNeg_at k _ i_e i_rd i_ra s (At.self s)) he

theorem reinShl_writes {i_e i_rd i_ra i_imm} {s nx : State} (he : exec (.reinShl i_e i_rd i_ra i_imm) s = .next nx) : ObjsKept (writes (.reinShl i_e i_rd i_ra i_imm)) s nx := fun k _ =>
  kept_of_outAt (@execReinShl_at k _ i_e i_rd i_ra i_imm s (At.self s)) he

theorem reinShr_writes {i_e i_rd i_ra i_imm} {s nx : State} (he : exec (.reinShr i_e i_rd i_ra i_imm) s = .next nx) : ObjsKept (writes (.reinShr i_e i_rd i_ra i_imm)) s nx := fun k _ =>
  kept_of_outAt (@execReinShr_at k _ i_e i_rd i_ra i_imm s (At.self s)) he

theorem reinShrl_writes {i_e i_rd i_ra i_imm} {s nx : State} (he : exec (.reinShrl i_e i_rd i_ra i_imm) s = .next nx) : ObjsKept (writes (.reinShrl i_e i_rd i_ra i_imm)) s nx := fun k _ =>
  kept_of_outAt (@execReinShrl_at k _ i_e i_rd i_ra i_imm s (At.self s)) he

theorem reinLi_writes {i_e i_rd i_imm} {s nx : State} (he : exec (.reinLi i_e i_rd i_imm) s = .next nx) : ObjsKept (writes (.reinLi i_e i_rd i_imm)) s nx := fun k _ =>
  kept_of_outAt (@execReinLi_at k _ i_e i_rd i_imm s (At.self s)) he

theorem reinLui_writes {i_e i_rd i_imm} {s nx : State} (he : exec (.reinLui i_e i_rd i_imm) s = .next nx) : ObjsKept (writes (.reinLui i_e i_rd i_imm)) s nx := fun k _ =>
  kept_of_outAt (@execReinLui_at k _ i_e i_rd i_imm s (At.self s)) he

theorem reinAddi_writes {i_e i_rd i_ra i_imm} {s nx : State} (he : exec (.reinAddi i_e i_rd i_ra i_imm) s = .next nx) : ObjsKept (writes (.reinAddi i_e i_rd i_ra i_imm)) s nx := fun k _ =>
  kept_of_outAt (@execReinAddi_at k _ i_e i_rd i_ra i_imm s (At.self s)) he

theorem reinLd_writes {i_e i_rd i_ra i_imm} {s nx : State} (he : exec (.reinLd i_e i_rd i_ra i_imm) s = .next nx) : ObjsKept (writes (.reinLd i_e i_rd i_ra i_imm)) s nx := fun k hk =>
  kept_of_outAt (@execReinLd_at k _
    ⟨fun a e => hk (.inl (⟨a, by simp [e]⟩))⟩
    ⟨fun a e => hk (.inl (⟨a, by simp [e]⟩))⟩
    ⟨fun a e => hk (.inl (⟨a, by simp [e]⟩))⟩
    ⟨fun a b e => hk (.inr (⟨a, b, by simp [e]⟩))⟩ i_e i_rd i_ra i_imm s (At.self s)) he

theorem reinSt_writes {i_e i_rs i_ra i_imm} {s nx : State} (he : exec (.reinSt i_e i_rs i_ra i_imm) s = .next nx) : ObjsKept (writes (.reinSt i_e i_rs i_ra i_imm)) s nx := fun k hk =>
  kept_of_outAt (@execReinSt_at k _
    ⟨fun a e => hk (.inl (⟨a, by simp [e]⟩))⟩
    ⟨fun a e => hk (.inl (⟨a, by simp [e]⟩))⟩
    ⟨fun a e => hk (.inl (⟨a, by simp [e]⟩))⟩
    ⟨fun a b e => hk (.inr (⟨a, b, by simp [e]⟩))⟩ i_e i_rs i_ra i_imm s (At.self s)) he

theorem reinIn_writes {i_e i_rd i_port} {s nx : State} (he : exec (.reinIn i_e i_rd i_port) s = .next nx) : ObjsKept (writes (.reinIn i_e i_rd i_port)) s nx := fun k _ =>
  kept_of_outAt (@execReinIn_at k _ i_e i_rd i_port s (At.self s)) he

theorem reinOut_writes {i_e i_rs i_port} {s nx : State} (he : exec (.reinOut i_e i_rs i_port) s = .next nx) : ObjsKept (writes (.reinOut i_e i_rs i_port)) s nx := fun k _ =>
  kept_of_outAt (@execReinOut_at k _ i_e i_rs i_port s (At.self s)) he

theorem reinSetcb_writes {i_e i_imm} {s nx : State} (he : exec (.reinSetcb i_e i_imm) s = .next nx) : ObjsKept (writes (.reinSetcb i_e i_imm)) s nx := fun k _ =>
  kept_of_outAt (@execReinSetcb_at k _ i_e i_imm s (At.self s)) he

theorem reinMul_writes {i_e i_acc i_ra i_caddr} {s nx : State} (he : exec (.reinMul i_e i_acc i_ra i_caddr) s = .next nx) : ObjsKept (writes (.reinMul i_e i_acc i_ra i_caddr)) s nx := fun k _ =>
  kept_of_outAt (@execReinMul_at k _ i_e i_acc i_ra i_caddr s (At.self s)) he

theorem reinMac_writes {i_e i_acc i_ra i_caddr} {s nx : State} (he : exec (.reinMac i_e i_acc i_ra i_caddr) s = .next nx) : ObjsKept (writes (.reinMac i_e i_acc i_ra i_caddr)) s nx := fun k _ =>
  kept_of_outAt (@execReinMac_at k _ i_e i_acc i_ra i_caddr s (At.self s)) he

theorem reinMsu_writes {i_e i_acc i_ra i_caddr} {s nx : State} (he : exec (.reinMsu i_e i_acc i_ra i_caddr) s = .next nx) : ObjsKept (writes (.reinMsu i_e i_acc i_ra i_caddr)) s nx := fun k _ =>
  kept_of_outAt (@execReinMsu_at k _ i_e i_acc i_ra i_caddr s (At.self s)) he

theorem reinClra_writes {i_e i_acc} {s nx : State} (he : exec (.reinClra i_e i_acc) s = .next nx) : ObjsKept (writes (.reinClra i_e i_acc)) s nx := fun k _ =>
  kept_of_outAt (@execReinClra_at k _ i_e i_acc s (At.self s)) he

theorem reinLda_writes {i_e i_acc i_ra} {s nx : State} (he : exec (.reinLda i_e i_acc i_ra) s = .next nx) : ObjsKept (writes (.reinLda i_e i_acc i_ra)) s nx := fun k _ =>
  kept_of_outAt (@execReinLda_at k _ i_e i_acc i_ra s (At.self s)) he

theorem reinRnd_writes {i_e i_rd i_acc i_mode i_l} {s nx : State} (he : exec (.reinRnd i_e i_rd i_acc i_mode i_l) s = .next nx) : ObjsKept (writes (.reinRnd i_e i_rd i_acc i_mode i_l)) s nx := fun k _ =>
  kept_of_outAt (@execReinRnd_at k _ i_e i_rd i_acc i_mode i_l s (At.self s)) he

theorem reinB_writes {i_e i_target} {s nx : State} (he : exec (.reinB i_e i_target) s = .next nx) : ObjsKept (writes (.reinB i_e i_target)) s nx := fun k _ =>
  kept_of_outAt (@execReinB_at k _ i_e i_target s (At.self s)) he

theorem reinBz_writes {i_e i_ra i_target} {s nx : State} (he : exec (.reinBz i_e i_ra i_target) s = .next nx) : ObjsKept (writes (.reinBz i_e i_ra i_target)) s nx := fun k _ =>
  kept_of_outAt (@execReinBz_at k _ i_e i_ra i_target s (At.self s)) he

theorem reinBnz_writes {i_e i_ra i_target} {s nx : State} (he : exec (.reinBnz i_e i_ra i_target) s = .next nx) : ObjsKept (writes (.reinBnz i_e i_ra i_target)) s nx := fun k _ =>
  kept_of_outAt (@execReinBnz_at k _ i_e i_ra i_target s (At.self s)) he

theorem reinBlt_writes {i_e i_ra i_target} {s nx : State} (he : exec (.reinBlt i_e i_ra i_target) s = .next nx) : ObjsKept (writes (.reinBlt i_e i_ra i_target)) s nx := fun k _ =>
  kept_of_outAt (@execReinBlt_at k _ i_e i_ra i_target s (At.self s)) he

theorem reinBge_writes {i_e i_ra i_target} {s nx : State} (he : exec (.reinBge i_e i_ra i_target) s = .next nx) : ObjsKept (writes (.reinBge i_e i_ra i_target)) s nx := fun k _ =>
  kept_of_outAt (@execReinBge_at k _ i_e i_ra i_target s (At.self s)) he

theorem reinDbnz_writes {i_e i_ra i_target} {s nx : State} (he : exec (.reinDbnz i_e i_ra i_target) s = .next nx) : ObjsKept (writes (.reinDbnz i_e i_ra i_target)) s nx := fun k _ =>
  kept_of_outAt (@execReinDbnz_at k _ i_e i_ra i_target s (At.self s)) he

theorem reinCall_writes {i_e i_target} {s nx : State} (he : exec (.reinCall i_e i_target) s = .next nx) : ObjsKept (writes (.reinCall i_e i_target)) s nx := fun k hk =>
  kept_of_outAt (@execReinCall_at k _
    ⟨fun a e => hk (.inl (⟨a, by simp [e]⟩))⟩
    ⟨fun a e => hk (.inl (⟨a, by simp [e]⟩))⟩
    ⟨fun a e => hk (.inl (⟨a, by simp [e]⟩))⟩
    ⟨fun a b e => hk (.inr (⟨a, b, by simp [e]⟩))⟩ i_e i_target s (At.self s)) he

theorem reinRet_writes {i_e} {s nx : State} (he : exec (.reinRet i_e) s = .next nx) : ObjsKept (writes (.reinRet i_e)) s nx := fun k hk =>
  kept_of_outAt (@execReinRet_at k _
    ⟨fun a e => hk (.inl (⟨a, by simp [e]⟩))⟩
    ⟨fun a e => hk (.inl (⟨a, by simp [e]⟩))⟩
    ⟨fun a e => hk (.inl (⟨a, by simp [e]⟩))⟩
    ⟨fun a b e => hk (.inr (⟨a, b, by simp [e]⟩))⟩ i_e s (At.self s)) he

theorem reinDone_writes {i_e} {s nx : State} (he : exec (.reinDone i_e) s = .next nx) : ObjsKept (writes (.reinDone i_e)) s nx := fun k hk =>
  kept_of_outAt (@execReinDone_at k _
    ⟨fun a e => hk (.inl (⟨a, by simp [e]⟩))⟩
    ⟨fun a e => hk (.inl (⟨a, by simp [e]⟩))⟩
    ⟨fun a b e => hk (.inr (⟨a, b, by simp [e]⟩))⟩ i_e s (At.self s)) he

theorem reinProgramFault_writes {i_e} {s nx : State} (he : exec (.reinProgramFault i_e) s = .next nx) : ObjsKept (writes (.reinProgramFault i_e)) s nx := fun k hk =>
  kept_of_outAt (@execReinProgramFault_at k _
    ⟨fun a e => hk (.inl (⟨a, by simp [e]⟩))⟩
    ⟨fun a e => hk (.inl (⟨a, by simp [e]⟩))⟩
    ⟨fun a e => hk (.inl (⟨a, by simp [e]⟩))⟩
    ⟨fun a b e => hk (.inr (⟨a, b, by simp [e]⟩))⟩ i_e s (At.self s)) he

theorem reinBudgetStop_writes {i_e} {s nx : State} (he : exec (.reinBudgetStop i_e) s = .next nx) : ObjsKept (writes (.reinBudgetStop i_e)) s nx := fun k hk =>
  kept_of_outAt (@execReinBudgetStop_at k _
    ⟨fun a e => hk (.inl (⟨a, by simp [e]⟩))⟩
    ⟨fun a e => hk (.inl (⟨a, by simp [e]⟩))⟩
    ⟨fun a e => hk (.inl (⟨a, by simp [e]⟩))⟩
    ⟨fun a b e => hk (.inr (⟨a, b, by simp [e]⟩))⟩ i_e s (At.self s)) he

theorem reinLatch_writes {i_g i_entry} {s nx : State} (he : exec (.reinLatch i_g i_entry) s = .next nx) : ObjsKept (writes (.reinLatch i_g i_entry)) s nx := fun k hk =>
  kept_of_outAt (@execReinLatch_at k _
    ⟨fun e => hk (by show _ ∈ _; simp [e])⟩
    ⟨fun e => hk (by show _ ∈ _; simp [e])⟩ i_g i_entry s (At.self s)) he

theorem engineReloadDone_writes {i_e} {s nx : State} (he : exec (.engineReloadDone i_e) s = .next nx) : ObjsKept (writes (.engineReloadDone i_e)) s nx := fun k _ =>
  kept_of_outAt (@execEngineReloadDone_at k _ i_e s (At.self s)) he

theorem snapshotCopyDone_writes {i_e} {s nx : State} (he : exec (.snapshotCopyDone i_e) s = .next nx) : ObjsKept (writes (.snapshotCopyDone i_e)) s nx := fun k _ =>
  kept_of_outAt (@execSnapshotCopyDone_at k _ i_e s (At.self s)) he

theorem probationEnd_writes {i_e} {s nx : State} (he : exec (.probationEnd i_e) s = .next nx) : ObjsKept (writes (.probationEnd i_e)) s nx := fun k hk =>
  kept_of_outAt (@execProbationEnd_at k _
    ⟨fun a e => hk (.inl (⟨a, by simp [e]⟩))⟩
    ⟨fun a b e => hk (.inr (⟨a, b, by simp [e]⟩))⟩ i_e s (At.self s)) he

theorem heartbeat_writes {i_count} {s nx : State} (he : exec (.heartbeat i_count) s = .next nx) : ObjsKept (writes (.heartbeat i_count)) s nx := fun k hk =>
  kept_of_outAt (@execHeartbeat_at k _
    ⟨fun e => hk (by show _ ∈ _; simp [e])⟩
    ⟨fun e => hk (by show _ ∈ _; simp [e])⟩ i_count s (At.self s)) he

theorem heartbeatLoss_writes {s nx : State} (he : exec (.heartbeatLoss) s = .next nx) : ObjsKept (writes (.heartbeatLoss)) s nx := fun k hk =>
  kept_of_outAt (@execHeartbeatLoss_at k _
    ⟨fun e => hk (.inl (by simp [e]))⟩
    ⟨fun a e => hk (.inr (.inl (⟨a, by simp [e]⟩)))⟩
    ⟨fun a b e => hk (.inr (.inr (⟨a, b, by simp [e]⟩)))⟩
    ⟨fun a e => hk (.inr (.inl (⟨a, by simp [e]⟩)))⟩
    ⟨fun e => hk (.inl (by simp [e]))⟩
    ⟨fun e => hk (.inl (by simp [e]))⟩
    ⟨fun a e => hk (.inr (.inl (⟨a, by simp [e]⟩)))⟩
    ⟨fun a e => hk (.inr (.inl (⟨a, by simp [e]⟩)))⟩
    ⟨fun a e => hk (.inr (.inl (⟨a, by simp [e]⟩)))⟩
    ⟨fun a e => hk (.inr (.inl (⟨a, by simp [e]⟩)))⟩
    ⟨fun a e => hk (.inr (.inl (⟨a, by simp [e]⟩)))⟩
    ⟨fun e => hk (.inl (by simp [e]))⟩
    ⟨fun a e => hk (.inr (.inl (⟨a, by simp [e]⟩)))⟩
    ⟨fun a b e => hk (.inr (.inr (⟨a, b, by simp [e]⟩)))⟩
    ⟨fun e => hk (.inl (by simp [e]))⟩
    ⟨fun a e => hk (.inr (.inl (⟨a, by simp [e]⟩)))⟩
    ⟨fun a e => hk (.inr (.inl (⟨a, by simp [e]⟩)))⟩
    ⟨fun a e => hk (.inr (.inl (⟨a, by simp [e]⟩)))⟩
    ⟨fun e => hk (.inl (by simp [e]))⟩
    ⟨fun a e => hk (.inr (.inl (⟨a, by simp [e]⟩)))⟩
    ⟨fun e => hk (.inl (by simp [e]))⟩
    ⟨fun a b e => hk (.inr (.inr (⟨a, b, by simp [e]⟩)))⟩
    ⟨fun a e => hk (.inr (.inl (⟨a, by simp [e]⟩)))⟩
    ⟨fun a e => hk (.inr (.inl (⟨a, by simp [e]⟩)))⟩
    ⟨fun e => hk (.inl (by simp [e]))⟩
    ⟨fun a e => hk (.inr (.inl (⟨a, by simp [e]⟩)))⟩
    ⟨fun e => hk (.inl (by simp [e]))⟩
    ⟨fun a e => hk (.inr (.inl (⟨a, by simp [e]⟩)))⟩ s (At.self s)) he

theorem vcmCmd_writes {i_a i_ua i_mv} {s nx : State} (he : exec (.vcmCmd i_a i_ua i_mv) s = .next nx) : ObjsKept (writes (.vcmCmd i_a i_ua i_mv)) s nx := fun k hk =>
  kept_of_outAt (@execVcmCmd_at k _
    ⟨fun a e => hk (⟨a, by simp [e]⟩)⟩ i_a i_ua i_mv s (At.self s)) he

theorem spinCmd_writes {i_ua} {s nx : State} (he : exec (.spinCmd i_ua) s = .next nx) : ObjsKept (writes (.spinCmd i_ua)) s nx := fun k _ =>
  kept_of_outAt (@execSpinCmd_at k _ i_ua s (At.self s)) he

theorem driveMsg_writes {i_cmd} {s nx : State} (he : exec (.driveMsg i_cmd) s = .next nx) : ObjsKept (writes (.driveMsg i_cmd)) s nx := fun k hk =>
  kept_of_outAt (@execDriveMsg_at k _
    ⟨fun e => hk (.inl (by simp [e]))⟩
    ⟨fun a e => hk (.inr (⟨a, by simp [e]⟩))⟩
    ⟨fun e => hk (.inl (by simp [e]))⟩
    ⟨fun a e => hk (.inr (⟨a, by simp [e]⟩))⟩
    ⟨fun e => hk (.inl (by simp [e]))⟩
    ⟨fun e => hk (.inl (by simp [e]))⟩ i_cmd s (At.self s)) he

theorem resetNotice_writes {i_lengthUs} {s nx : State} (he : exec (.resetNotice i_lengthUs) s = .next nx) : ObjsKept (writes (.resetNotice i_lengthUs)) s nx := fun k hk =>
  kept_of_outAt (@execResetNotice_at k _
    ⟨fun e => hk (by show _ ∈ _; simp [e])⟩ i_lengthUs s (At.self s)) he

theorem zeroCross_writes {i_phase i_interval} {s nx : State} (he : exec (.zeroCross i_phase i_interval) s = .next nx) : ObjsKept (writes (.zeroCross i_phase i_interval)) s nx := fun k hk =>
  kept_of_outAt (@execZeroCross_at k _
    ⟨fun e => hk (.inl (by simp [e]))⟩
    ⟨fun a e => hk (.inr (⟨a, by simp [e]⟩))⟩
    ⟨fun e => hk (.inl (by simp [e]))⟩
    ⟨fun a e => hk (.inr (⟨a, by simp [e]⟩))⟩
    ⟨fun a e => hk (.inr (⟨a, by simp [e]⟩))⟩
    ⟨fun e => hk (.inl (by simp [e]))⟩
    ⟨fun e => hk (.inl (by simp [e]))⟩
    ⟨fun e => hk (.inl (by simp [e]))⟩ i_phase i_interval s (At.self s)) he

theorem linkStatus_writes {i_vm i_temp} {s nx : State} (he : exec (.linkStatus i_vm i_temp) s = .next nx) : ObjsKept (writes (.linkStatus i_vm i_temp)) s nx := fun k hk =>
  kept_of_outAt (@execLinkStatus_at k _
    ⟨fun e => hk (by show _ ∈ _; simp [e])⟩
    ⟨fun e => hk (by show _ ∈ _; simp [e])⟩ i_vm i_temp s (At.self s)) he

theorem zeroCrossMissing_writes {s nx : State} (he : exec (.zeroCrossMissing) s = .next nx) : ObjsKept (writes (.zeroCrossMissing)) s nx := fun k hk =>
  kept_of_outAt (@execZeroCrossMissing_at k _
    ⟨fun e => hk (.inl (by simp [e]))⟩
    ⟨fun a e => hk (.inr (⟨a, by simp [e]⟩))⟩
    ⟨fun e => hk (.inl (by simp [e]))⟩
    ⟨fun a e => hk (.inr (⟨a, by simp [e]⟩))⟩
    ⟨fun a e => hk (.inr (⟨a, by simp [e]⟩))⟩
    ⟨fun e => hk (.inl (by simp [e]))⟩
    ⟨fun e => hk (.inl (by simp [e]))⟩ s (At.self s)) he

theorem spindleDriverFault_writes {s nx : State} (he : exec (.spindleDriverFault) s = .next nx) : ObjsKept (writes (.spindleDriverFault)) s nx := fun k hk =>
  kept_of_outAt (@execSpindleDriverFault_at k _
    ⟨fun e => hk (.inl (by simp [e]))⟩
    ⟨fun a e => hk (.inr (⟨a, by simp [e]⟩))⟩
    ⟨fun e => hk (.inl (by simp [e]))⟩
    ⟨fun a e => hk (.inr (⟨a, by simp [e]⟩))⟩
    ⟨fun e => hk (.inl (by simp [e]))⟩ s (At.self s)) he

theorem spinAlignEnd_writes {s nx : State} (he : exec (.spinAlignEnd) s = .next nx) : ObjsKept (writes (.spinAlignEnd)) s nx := fun k hk =>
  kept_of_outAt (@execSpinAlignEnd_at k _
    ⟨fun e => hk (by show _ ∈ _; simp [e])⟩
    ⟨fun e => hk (by show _ ∈ _; simp [e])⟩
    ⟨fun e => hk (by show _ ∈ _; simp [e])⟩ s (At.self s)) he

theorem spindleStandstill_writes {s nx : State} (he : exec (.spindleStandstill) s = .next nx) : ObjsKept (writes (.spindleStandstill)) s nx := fun k hk =>
  kept_of_outAt (@execSpindleStandstill_at k _
    ⟨fun e => hk (by show _ ∈ _; simp [e])⟩
    ⟨fun e => hk (by show _ ∈ _; simp [e])⟩
    ⟨fun e => hk (by show _ ∈ _; simp [e])⟩
    ⟨fun e => hk (by show _ ∈ _; simp [e])⟩ s (At.self s)) he

theorem vcmOvercurrent_writes {i_a} {s nx : State} (he : exec (.vcmOvercurrent i_a) s = .next nx) : ObjsKept (writes (.vcmOvercurrent i_a)) s nx := fun k hk =>
  kept_of_outAt (@execVcmOvercurrent_at k _
    ⟨fun a e => hk (.inl (⟨a, by simp [e]⟩))⟩
    ⟨fun a e => hk (.inl (⟨a, by simp [e]⟩))⟩
    ⟨fun a b e => hk (.inr (⟨a, b, by simp [e]⟩))⟩
    ⟨fun a e => hk (.inl (⟨a, by simp [e]⟩))⟩
    ⟨fun a e => hk (.inl (⟨a, by simp [e]⟩))⟩
    ⟨fun a e => hk (.inl (⟨a, by simp [e]⟩))⟩
    ⟨fun a e => hk (.inl (⟨a, by simp [e]⟩))⟩
    ⟨fun a e => hk (.inl (⟨a, by simp [e]⟩))⟩
    ⟨fun a b e => hk (.inr (⟨a, b, by simp [e]⟩))⟩
    ⟨fun a e => hk (.inl (⟨a, by simp [e]⟩))⟩
    ⟨fun a e => hk (.inl (⟨a, by simp [e]⟩))⟩
    ⟨fun a e => hk (.inl (⟨a, by simp [e]⟩))⟩
    ⟨fun a e => hk (.inl (⟨a, by simp [e]⟩))⟩
    ⟨fun a b e => hk (.inr (⟨a, b, by simp [e]⟩))⟩
    ⟨fun a e => hk (.inl (⟨a, by simp [e]⟩))⟩
    ⟨fun a e => hk (.inl (⟨a, by simp [e]⟩))⟩
    ⟨fun a e => hk (.inl (⟨a, by simp [e]⟩))⟩
    ⟨fun a e => hk (.inl (⟨a, by simp [e]⟩))⟩ i_a s (At.self s)) he

theorem maOvercurrent_writes {i_a} {s nx : State} (he : exec (.maOvercurrent i_a) s = .next nx) : ObjsKept (writes (.maOvercurrent i_a)) s nx := fun k hk =>
  kept_of_outAt (@execMaOvercurrent_at k _
    ⟨fun a e => hk (⟨a, by simp [e]⟩)⟩ i_a s (At.self s)) he

theorem headLoadTimeout_writes {i_a} {s nx : State} (he : exec (.headLoadTimeout i_a) s = .next nx) : ObjsKept (writes (.headLoadTimeout i_a)) s nx := fun k hk =>
  kept_of_outAt (@execHeadLoadTimeout_at k _
    ⟨fun a e => hk (⟨a, by simp [e]⟩)⟩
    ⟨fun a e => hk (⟨a, by simp [e]⟩)⟩
    ⟨fun a e => hk (⟨a, by simp [e]⟩)⟩ i_a s (At.self s)) he

theorem rampContact_writes {i_a} {s nx : State} (he : exec (.rampContact i_a) s = .next nx) : ObjsKept (writes (.rampContact i_a)) s nx := fun k _ =>
  kept_of_outAt (@execRampContact_at k _ i_a s (At.self s)) he

theorem dumpSealed_writes {i_holdupMj i_vmMin} {s nx : State} (he : exec (.dumpSealed i_holdupMj i_vmMin) s = .next nx) : ObjsKept (writes (.dumpSealed i_holdupMj i_vmMin)) s nx := fun k _ =>
  kept_of_outAt (@execDumpSealed_at k _ i_holdupMj i_vmMin s (At.self s)) he

theorem girthSync_writes {i_h i_tick i_baseHop i_tag i_fixed i_takeover i_overFlag} {s nx : State} (he : exec (.girthSync i_h i_tick i_baseHop i_tag i_fixed i_takeover i_overFlag) s = .next nx) : ObjsKept (writes (.girthSync i_h i_tick i_baseHop i_tag i_fixed i_takeover i_overFlag)) s nx := fun k hk =>
  kept_of_outAt (@execGirthSync_at k _
    ⟨fun e => hk (by show _ ∈ _; simp [e])⟩
    ⟨fun e => hk (by show _ ∈ _; simp [e])⟩
    ⟨fun e => hk (by show _ ∈ _; simp [e])⟩
    ⟨fun e => hk (by show _ ∈ _; simp [e])⟩
    ⟨fun e => hk (by show _ ∈ _; simp [e])⟩
    ⟨fun e => hk (by show _ ∈ _; simp [e])⟩
    ⟨fun e => hk (by show _ ∈ _; simp [e])⟩
    ⟨fun e => hk (by show _ ∈ _; simp [e])⟩
    ⟨fun e => hk (by show _ ∈ _; simp [e])⟩
    ⟨fun e => hk (by show _ ∈ _; simp [e])⟩ i_h i_tick i_baseHop i_tag i_fixed i_takeover i_overFlag s (At.self s)) he

theorem girthPhase_writes {i_h i_rpm i_group} {s nx : State} (he : exec (.girthPhase i_h i_rpm i_group) s = .next nx) : ObjsKept (writes (.girthPhase i_h i_rpm i_group)) s nx := fun k hk =>
  kept_of_outAt (@execGirthPhase_at k _
    ⟨fun e => hk (by show _ ∈ _; simp [e])⟩
    ⟨fun e => hk (by show _ ∈ _; simp [e])⟩
    ⟨fun e => hk (by show _ ∈ _; simp [e])⟩ i_h i_rpm i_group s (At.self s)) he

theorem girthSeek_writes {i_h i_startTick i_profile i_act i_d i_profileSet} {s nx : State} (he : exec (.girthSeek i_h i_startTick i_profile i_act i_d i_profileSet) s = .next nx) : ObjsKept (writes (.girthSeek i_h i_startTick i_profile i_act i_d i_profileSet)) s nx := fun k hk =>
  kept_of_outAt (@execGirthSeek_at k _
    ⟨fun e => hk (by show _ ∈ _; simp [e])⟩
    ⟨fun e => hk (by show _ ∈ _; simp [e])⟩
    ⟨fun e => hk (by show _ ∈ _; simp [e])⟩
    ⟨fun e => hk (by show _ ∈ _; simp [e])⟩ i_h i_startTick i_profile i_act i_d i_profileSet s (At.self s)) he

theorem girthHealth_writes {i_h i_payload} {s nx : State} (he : exec (.girthHealth i_h i_payload) s = .next nx) : ObjsKept (writes (.girthHealth i_h i_payload)) s nx := fun k hk =>
  kept_of_outAt (@execGirthHealth_at k _
    ⟨fun e => hk (by show _ ∈ _; simp [e])⟩
    ⟨fun e => hk (by show _ ∈ _; simp [e])⟩ i_h i_payload s (At.self s)) he

theorem girthDictGet_writes {i_h i_target i_tag i_index i_sub} {s nx : State} (he : exec (.girthDictGet i_h i_target i_tag i_index i_sub) s = .next nx) : ObjsKept (writes (.girthDictGet i_h i_target i_tag i_index i_sub)) s nx := fun k hk =>
  kept_of_outAt (@execGirthDictGet_at k _
    ⟨fun e => hk (by show _ ∈ _; simp [e])⟩
    ⟨fun e => hk (by show _ ∈ _; simp [e])⟩
    ⟨fun e => hk (by show _ ∈ _; simp [e])⟩
    ⟨fun e => hk (by show _ ∈ _; simp [e])⟩
    ⟨fun e => hk (by show _ ∈ _; simp [e])⟩ i_h i_target i_tag i_index i_sub s (At.self s)) he

theorem girthDictResponse_writes {i_h i_target i_tag i_index i_sub i_status i_value} {s nx : State} (he : exec (.girthDictResponse i_h i_target i_tag i_index i_sub i_status i_value) s = .next nx) : ObjsKept (writes (.girthDictResponse i_h i_target i_tag i_index i_sub i_status i_value)) s nx := fun k hk =>
  kept_of_outAt (@execGirthDictResponse_at k _
    ⟨fun e => hk (by show _ ∈ _; simp [e])⟩
    ⟨fun e => hk (by show _ ∈ _; simp [e])⟩
    ⟨fun e => hk (by show _ ∈ _; simp [e])⟩ i_h i_target i_tag i_index i_sub i_status i_value s (At.self s)) he

theorem girthUnknownType_writes {i_h i_typ i_payload} {s nx : State} (he : exec (.girthUnknownType i_h i_typ i_payload) s = .next nx) : ObjsKept (writes (.girthUnknownType i_h i_typ i_payload)) s nx := fun k hk =>
  kept_of_outAt (@execGirthUnknownType_at k _
    ⟨fun e => hk (by show _ ∈ _; simp [e])⟩
    ⟨fun e => hk (by show _ ∈ _; simp [e])⟩ i_h i_typ i_payload s (At.self s)) he

theorem syncPeriod_writes {s nx : State} (he : exec (.syncPeriod) s = .next nx) : ObjsKept (writes (.syncPeriod)) s nx := fun k hk =>
  kept_of_outAt (@execSyncPeriod_at k _
    ⟨fun e => hk (by show _ ∈ _; simp [e])⟩
    ⟨fun e => hk (by show _ ∈ _; simp [e])⟩
    ⟨fun e => hk (by show _ ∈ _; simp [e])⟩
    ⟨fun e => hk (by show _ ∈ _; simp [e])⟩
    ⟨fun e => hk (by show _ ∈ _; simp [e])⟩
    ⟨fun e => hk (by show _ ∈ _; simp [e])⟩
    ⟨fun e => hk (by show _ ∈ _; simp [e])⟩
    ⟨fun e => hk (by show _ ∈ _; simp [e])⟩
    ⟨fun e => hk (by show _ ∈ _; simp [e])⟩ s (At.self s)) he

theorem phasePeriod_writes {s nx : State} (he : exec (.phasePeriod) s = .next nx) : ObjsKept (writes (.phasePeriod)) s nx := fun k hk =>
  kept_of_outAt (@execPhasePeriod_at k _
    ⟨fun e => hk (by show _ ∈ _; simp [e])⟩
    ⟨fun e => hk (by show _ ∈ _; simp [e])⟩ s (At.self s)) he

theorem healthPeriod_writes {s nx : State} (he : exec (.healthPeriod) s = .next nx) : ObjsKept (writes (.healthPeriod)) s nx := fun k hk =>
  kept_of_outAt (@execHealthPeriod_at k _
    ⟨fun e => hk (by show _ ∈ _; simp [e])⟩
    ⟨fun e => hk (by show _ ∈ _; simp [e])⟩ s (At.self s)) he

theorem healthDeferred_writes {s nx : State} (he : exec (.healthDeferred) s = .next nx) : ObjsKept (writes (.healthDeferred)) s nx := fun k hk =>
  kept_of_outAt (@execHealthDeferred_at k _
    ⟨fun e => hk (by show _ ∈ _; simp [e])⟩
    ⟨fun e => hk (by show _ ∈ _; simp [e])⟩ s (At.self s)) he

theorem masterLoss_writes {s nx : State} (he : exec (.masterLoss) s = .next nx) : ObjsKept (writes (.masterLoss)) s nx := fun k hk =>
  kept_of_outAt (@execMasterLoss_at k _
    ⟨fun e => hk (by show _ ∈ _; simp [e])⟩
    ⟨fun e => hk (by show _ ∈ _; simp [e])⟩
    ⟨fun e => hk (by show _ ∈ _; simp [e])⟩
    ⟨fun e => hk (by show _ ∈ _; simp [e])⟩
    ⟨fun e => hk (by show _ ∈ _; simp [e])⟩
    ⟨fun e => hk (by show _ ∈ _; simp [e])⟩
    ⟨fun e => hk (by show _ ∈ _; simp [e])⟩ s (At.self s)) he

theorem candidateWaitEnd_writes {s nx : State} (he : exec (.candidateWaitEnd) s = .next nx) : ObjsKept (writes (.candidateWaitEnd)) s nx := fun k hk =>
  kept_of_outAt (@execCandidateWaitEnd_at k _
    ⟨fun e => hk (by show _ ∈ _; simp [e])⟩
    ⟨fun e => hk (by show _ ∈ _; simp [e])⟩
    ⟨fun e => hk (by show _ ∈ _; simp [e])⟩
    ⟨fun e => hk (by show _ ∈ _; simp [e])⟩
    ⟨fun e => hk (by show _ ∈ _; simp [e])⟩
    ⟨fun e => hk (by show _ ∈ _; simp [e])⟩
    ⟨fun e => hk (by show _ ∈ _; simp [e])⟩
    ⟨fun e => hk (by show _ ∈ _; simp [e])⟩ s (At.self s)) he

theorem joinListenTimeout_writes {i_noSymbol} {s nx : State} (he : exec (.joinListenTimeout i_noSymbol) s = .next nx) : ObjsKept (writes (.joinListenTimeout i_noSymbol)) s nx := fun k hk =>
  kept_of_outAt (@execJoinListenTimeout_at k _
    ⟨fun e => hk (by show _ ∈ _; simp [e])⟩
    ⟨fun e => hk (by show _ ∈ _; simp [e])⟩
    ⟨fun e => hk (by show _ ∈ _; simp [e])⟩
    ⟨fun e => hk (by show _ ∈ _; simp [e])⟩
    ⟨fun e => hk (by show _ ∈ _; simp [e])⟩
    ⟨fun e => hk (by show _ ∈ _; simp [e])⟩
    ⟨fun e => hk (by show _ ∈ _; simp [e])⟩ i_noSymbol s (At.self s)) he

theorem seekCancel_writes {i_a} {s nx : State} (he : exec (.seekCancel i_a) s = .next nx) : ObjsKept (writes (.seekCancel i_a)) s nx := fun k hk =>
  kept_of_outAt (@execSeekCancel_at k _
    ⟨fun e => hk (by show _ ∈ _; simp [e])⟩ i_a s (At.self s)) he

theorem announcementEnd_writes {i_id} {s nx : State} (he : exec (.announcementEnd i_id) s = .next nx) : ObjsKept (writes (.announcementEnd i_id)) s nx := fun k hk =>
  kept_of_outAt (@execAnnouncementEnd_at k _
    ⟨fun a e => hk (⟨a, by simp [e]⟩)⟩ i_id s (At.self s)) he

theorem dictRequestTimeout_writes {s nx : State} (he : exec (.dictRequestTimeout) s = .next nx) : ObjsKept (writes (.dictRequestTimeout)) s nx := fun k hk =>
  kept_of_outAt (@execDictRequestTimeout_at k _
    ⟨fun e => hk (by show _ ∈ _; simp [e])⟩ s (At.self s)) he

theorem sqDoorbell_writes {i_p i_qid i_tail} {s nx : State} (he : exec (.sqDoorbell i_p i_qid i_tail) s = .next nx) : ObjsKept (writes (.sqDoorbell i_p i_qid i_tail)) s nx := fun k _ =>
  kept_of_outAt (@execSqDoorbell_at k _ i_p i_qid i_tail s (At.self s)) he

theorem commandFetch_writes {i_p i_qid i_cmd} {s nx : State} (he : exec (.commandFetch i_p i_qid i_cmd) s = .next nx) : ObjsKept (writes (.commandFetch i_p i_qid i_cmd)) s nx := fun k hk =>
  kept_of_outAt (@execCommandFetch_at k _
    ⟨fun e => hk (.inl (by simp [e]))⟩
    ⟨fun e => hk (.inl (by simp [e]))⟩
    ⟨fun a e => hk (.inr (⟨a, by simp [e]⟩))⟩
    ⟨fun a e => hk (.inr (⟨a, by simp [e]⟩))⟩
    ⟨fun e => hk (.inl (by simp [e]))⟩
    ⟨fun a e => hk (.inr (⟨a, by simp [e]⟩))⟩
    ⟨fun e => hk (.inl (by simp [e]))⟩
    ⟨fun e => hk (.inl (by simp [e]))⟩
    ⟨fun e => hk (.inl (by simp [e]))⟩
    ⟨fun e => hk (.inl (by simp [e]))⟩
    ⟨fun e => hk (.inl (by simp [e]))⟩
    ⟨fun a e => hk (.inr (⟨a, by simp [e]⟩))⟩
    ⟨fun e => hk (.inl (by simp [e]))⟩
    ⟨fun e => hk (.inl (by simp [e]))⟩
    ⟨fun e => hk (.inl (by simp [e]))⟩
    ⟨fun e => hk (.inl (by simp [e]))⟩
    ⟨fun e => hk (.inl (by simp [e]))⟩ i_p i_qid i_cmd s (At.self s)) he

theorem createIoSq_writes {i_slot} {s nx : State} (he : exec (.createIoSq i_slot) s = .next nx) : ObjsKept (writes (.createIoSq i_slot)) s nx := fun k hk =>
  kept_of_outAt (@execCreateIoSq_at k _
    ⟨fun a e => hk (.inr (⟨a, by simp [e]⟩))⟩
    ⟨fun a e => hk (.inr (⟨a, by simp [e]⟩))⟩
    ⟨fun a e => hk (.inr (⟨a, by simp [e]⟩))⟩
    ⟨fun a e => hk (.inr (⟨a, by simp [e]⟩))⟩
    ⟨fun e => hk (.inl (by simp [e]))⟩
    ⟨fun e => hk (.inl (by simp [e]))⟩
    ⟨fun a e => hk (.inr (⟨a, by simp [e]⟩))⟩
    ⟨fun e => hk (.inl (by simp [e]))⟩ i_slot s (At.self s)) he

theorem createIoCq_writes {i_slot} {s nx : State} (he : exec (.createIoCq i_slot) s = .next nx) : ObjsKept (writes (.createIoCq i_slot)) s nx := fun k hk =>
  kept_of_outAt (@execCreateIoCq_at k _
    ⟨fun a e => hk (.inr (⟨a, by simp [e]⟩))⟩
    ⟨fun a e => hk (.inr (⟨a, by simp [e]⟩))⟩
    ⟨fun a e => hk (.inr (⟨a, by simp [e]⟩))⟩
    ⟨fun e => hk (.inl (by simp [e]))⟩
    ⟨fun e => hk (.inl (by simp [e]))⟩
    ⟨fun a e => hk (.inr (⟨a, by simp [e]⟩))⟩
    ⟨fun e => hk (.inl (by simp [e]))⟩ i_slot s (At.self s)) he

theorem deleteIoSq_writes {i_slot} {s nx : State} (he : exec (.deleteIoSq i_slot) s = .next nx) : ObjsKept (writes (.deleteIoSq i_slot)) s nx := fun k hk =>
  kept_of_outAt (@execDeleteIoSq_at k _
    ⟨fun a e => hk (.inr (⟨a, by simp [e]⟩))⟩
    ⟨fun a e => hk (.inr (⟨a, by simp [e]⟩))⟩
    ⟨fun e => hk (.inl (by simp [e]))⟩
    ⟨fun e => hk (.inl (by simp [e]))⟩
    ⟨fun a e => hk (.inr (⟨a, by simp [e]⟩))⟩
    ⟨fun a e => hk (.inr (⟨a, by simp [e]⟩))⟩
    ⟨fun e => hk (.inl (by simp [e]))⟩
    ⟨fun e => hk (.inl (by simp [e]))⟩
    ⟨fun a e => hk (.inr (⟨a, by simp [e]⟩))⟩
    ⟨fun e => hk (.inl (by simp [e]))⟩ i_slot s (At.self s)) he

theorem deleteIoCq_writes {i_slot} {s nx : State} (he : exec (.deleteIoCq i_slot) s = .next nx) : ObjsKept (writes (.deleteIoCq i_slot)) s nx := fun k hk =>
  kept_of_outAt (@execDeleteIoCq_at k _
    ⟨fun a e => hk (.inr (⟨a, by simp [e]⟩))⟩
    ⟨fun a e => hk (.inr (⟨a, by simp [e]⟩))⟩
    ⟨fun a e => hk (.inr (⟨a, by simp [e]⟩))⟩
    ⟨fun e => hk (.inl (by simp [e]))⟩
    ⟨fun e => hk (.inl (by simp [e]))⟩
    ⟨fun a e => hk (.inr (⟨a, by simp [e]⟩))⟩
    ⟨fun e => hk (.inl (by simp [e]))⟩ i_slot s (At.self s)) he

theorem getLogPage_writes {i_slot} {s nx : State} (he : exec (.getLogPage i_slot) s = .next nx) : ObjsKept (writes (.getLogPage i_slot)) s nx := fun k hk =>
  kept_of_outAt (@execGetLogPage_at k _
    ⟨fun e => hk (.inl (by simp [e]))⟩
    ⟨fun a e => hk (.inr (⟨a, by simp [e]⟩))⟩
    ⟨fun e => hk (.inl (by simp [e]))⟩
    ⟨fun e => hk (.inl (by simp [e]))⟩
    ⟨fun a e => hk (.inr (⟨a, by simp [e]⟩))⟩
    ⟨fun a e => hk (.inr (⟨a, by simp [e]⟩))⟩
    ⟨fun e => hk (.inl (by simp [e]))⟩
    ⟨fun e => hk (.inl (by simp [e]))⟩
    ⟨fun e => hk (.inl (by simp [e]))⟩
    ⟨fun e => hk (.inl (by simp [e]))⟩
    ⟨fun e => hk (.inl (by simp [e]))⟩
    ⟨fun e => hk (.inl (by simp [e]))⟩
    ⟨fun e => hk (.inl (by simp [e]))⟩
    ⟨fun a e => hk (.inr (⟨a, by simp [e]⟩))⟩
    ⟨fun e => hk (.inl (by simp [e]))⟩
    ⟨fun e => hk (.inl (by simp [e]))⟩
    ⟨fun e => hk (.inl (by simp [e]))⟩ i_slot s (At.self s)) he

theorem identify_writes {i_slot} {s nx : State} (he : exec (.identify i_slot) s = .next nx) : ObjsKept (writes (.identify i_slot)) s nx := fun k hk =>
  kept_of_outAt (@execIdentify_at k _
    ⟨fun a e => hk (.inr (⟨a, by simp [e]⟩))⟩
    ⟨fun a e => hk (.inr (⟨a, by simp [e]⟩))⟩
    ⟨fun a e => hk (.inr (⟨a, by simp [e]⟩))⟩
    ⟨fun e => hk (.inl (by simp [e]))⟩
    ⟨fun e => hk (.inl (by simp [e]))⟩
    ⟨fun a e => hk (.inr (⟨a, by simp [e]⟩))⟩
    ⟨fun e => hk (.inl (by simp [e]))⟩ i_slot s (At.self s)) he

theorem nvmeAbort_writes {i_slot} {s nx : State} (he : exec (.nvmeAbort i_slot) s = .next nx) : ObjsKept (writes (.nvmeAbort i_slot)) s nx := fun k hk =>
  kept_of_outAt (@execNvmeAbort_at k _
    ⟨fun a e => hk (.inr (⟨a, by simp [e]⟩))⟩
    ⟨fun a e => hk (.inr (⟨a, by simp [e]⟩))⟩
    ⟨fun e => hk (.inl (by simp [e]))⟩
    ⟨fun e => hk (.inl (by simp [e]))⟩
    ⟨fun a e => hk (.inr (⟨a, by simp [e]⟩))⟩
    ⟨fun e => hk (.inl (by simp [e]))⟩
    ⟨fun e => hk (.inl (by simp [e]))⟩
    ⟨fun a e => hk (.inr (⟨a, by simp [e]⟩))⟩
    ⟨fun e => hk (.inl (by simp [e]))⟩ i_slot s (At.self s)) he

theorem setFeatures_writes {i_slot} {s nx : State} (he : exec (.setFeatures i_slot) s = .next nx) : ObjsKept (writes (.setFeatures i_slot)) s nx := fun k hk =>
  kept_of_outAt (@execSetFeatures_at k _
    ⟨fun e => hk (.inl (by simp [e]))⟩
    ⟨fun a e => hk (.inr (⟨a, by simp [e]⟩))⟩
    ⟨fun a e => hk (.inr (⟨a, by simp [e]⟩))⟩
    ⟨fun e => hk (.inl (by simp [e]))⟩
    ⟨fun e => hk (.inl (by simp [e]))⟩
    ⟨fun e => hk (.inl (by simp [e]))⟩
    ⟨fun a e => hk (.inr (⟨a, by simp [e]⟩))⟩
    ⟨fun e => hk (.inl (by simp [e]))⟩
    ⟨fun e => hk (.inl (by simp [e]))⟩
    ⟨fun e => hk (.inl (by simp [e]))⟩
    ⟨fun e => hk (.inl (by simp [e]))⟩
    ⟨fun a e => hk (.inr (⟨a, by simp [e]⟩))⟩
    ⟨fun e => hk (.inl (by simp [e]))⟩
    ⟨fun e => hk (.inl (by simp [e]))⟩
    ⟨fun e => hk (.inl (by simp [e]))⟩
    ⟨fun e => hk (.inl (by simp [e]))⟩ i_slot s (At.self s)) he

theorem setFeaturesPowerManagement_writes {i_slot} {s nx : State} (he : exec (.setFeaturesPowerManagement i_slot) s = .next nx) : ObjsKept (writes (.setFeaturesPowerManagement i_slot)) s nx := fun k hk =>
  kept_of_outAt (@execSetFeaturesPowerManagement_at k _
    ⟨fun e => hk (.inl (by simp [e]))⟩
    ⟨fun a e => hk (.inr (⟨a, by simp [e]⟩))⟩
    ⟨fun a e => hk (.inr (⟨a, by simp [e]⟩))⟩
    ⟨fun e => hk (.inl (by simp [e]))⟩
    ⟨fun e => hk (.inl (by simp [e]))⟩
    ⟨fun e => hk (.inl (by simp [e]))⟩
    ⟨fun a e => hk (.inr (⟨a, by simp [e]⟩))⟩
    ⟨fun e => hk (.inl (by simp [e]))⟩
    ⟨fun e => hk (.inl (by simp [e]))⟩
    ⟨fun e => hk (.inl (by simp [e]))⟩
    ⟨fun e => hk (.inl (by simp [e]))⟩
    ⟨fun a e => hk (.inr (⟨a, by simp [e]⟩))⟩
    ⟨fun e => hk (.inl (by simp [e]))⟩
    ⟨fun e => hk (.inl (by simp [e]))⟩
    ⟨fun e => hk (.inl (by simp [e]))⟩
    ⟨fun e => hk (.inl (by simp [e]))⟩ i_slot s (At.self s)) he

theorem setFeaturesErrorRecovery_writes {i_slot} {s nx : State} (he : exec (.setFeaturesErrorRecovery i_slot) s = .next nx) : ObjsKept (writes (.setFeaturesErrorRecovery i_slot)) s nx := fun k hk =>
  kept_of_outAt (@execSetFeaturesErrorRecovery_at k _
    ⟨fun e => hk (.inl (by simp [e]))⟩
    ⟨fun a e => hk (.inr (⟨a, by simp [e]⟩))⟩
    ⟨fun a e => hk (.inr (⟨a, by simp [e]⟩))⟩
    ⟨fun e => hk (.inl (by simp [e]))⟩
    ⟨fun e => hk (.inl (by simp [e]))⟩
    ⟨fun e => hk (.inl (by simp [e]))⟩
    ⟨fun a e => hk (.inr (⟨a, by simp [e]⟩))⟩
    ⟨fun e => hk (.inl (by simp [e]))⟩
    ⟨fun e => hk (.inl (by simp [e]))⟩
    ⟨fun e => hk (.inl (by simp [e]))⟩
    ⟨fun e => hk (.inl (by simp [e]))⟩
    ⟨fun a e => hk (.inr (⟨a, by simp [e]⟩))⟩
    ⟨fun e => hk (.inl (by simp [e]))⟩
    ⟨fun e => hk (.inl (by simp [e]))⟩
    ⟨fun e => hk (.inl (by simp [e]))⟩
    ⟨fun e => hk (.inl (by simp [e]))⟩ i_slot s (At.self s)) he

theorem setFeaturesVwc_writes {i_slot} {s nx : State} (he : exec (.setFeaturesVwc i_slot) s = .next nx) : ObjsKept (writes (.setFeaturesVwc i_slot)) s nx := fun k hk =>
  kept_of_outAt (@execSetFeaturesVwc_at k _
    ⟨fun e => hk (.inl (by simp [e]))⟩
    ⟨fun a e => hk (.inr (⟨a, by simp [e]⟩))⟩
    ⟨fun a e => hk (.inr (⟨a, by simp [e]⟩))⟩
    ⟨fun e => hk (.inl (by simp [e]))⟩
    ⟨fun e => hk (.inl (by simp [e]))⟩
    ⟨fun e => hk (.inl (by simp [e]))⟩
    ⟨fun a e => hk (.inr (⟨a, by simp [e]⟩))⟩
    ⟨fun e => hk (.inl (by simp [e]))⟩
    ⟨fun e => hk (.inl (by simp [e]))⟩
    ⟨fun e => hk (.inl (by simp [e]))⟩
    ⟨fun e => hk (.inl (by simp [e]))⟩
    ⟨fun a e => hk (.inr (⟨a, by simp [e]⟩))⟩
    ⟨fun e => hk (.inl (by simp [e]))⟩
    ⟨fun e => hk (.inl (by simp [e]))⟩
    ⟨fun e => hk (.inl (by simp [e]))⟩
    ⟨fun e => hk (.inl (by simp [e]))⟩ i_slot s (At.self s)) he

theorem getFeatures_writes {i_slot} {s nx : State} (he : exec (.getFeatures i_slot) s = .next nx) : ObjsKept (writes (.getFeatures i_slot)) s nx := fun k hk =>
  kept_of_outAt (@execGetFeatures_at k _
    ⟨fun a e => hk (.inr (⟨a, by simp [e]⟩))⟩
    ⟨fun a e => hk (.inr (⟨a, by simp [e]⟩))⟩
    ⟨fun a e => hk (.inr (⟨a, by simp [e]⟩))⟩
    ⟨fun e => hk (.inl (by simp [e]))⟩
    ⟨fun e => hk (.inl (by simp [e]))⟩
    ⟨fun a e => hk (.inr (⟨a, by simp [e]⟩))⟩
    ⟨fun e => hk (.inl (by simp [e]))⟩ i_slot s (At.self s)) he

theorem asyncEventRequest_writes {i_p i_cid} {s nx : State} (he : exec (.asyncEventRequest i_p i_cid) s = .next nx) : ObjsKept (writes (.asyncEventRequest i_p i_cid)) s nx := fun k hk =>
  kept_of_outAt (@execAsyncEventRequest_at k _
    ⟨fun e => hk (.inl (by simp [e]))⟩
    ⟨fun e => hk (.inl (by simp [e]))⟩
    ⟨fun a e => hk (.inr (⟨a, by simp [e]⟩))⟩
    ⟨fun a e => hk (.inr (⟨a, by simp [e]⟩))⟩
    ⟨fun e => hk (.inl (by simp [e]))⟩
    ⟨fun a e => hk (.inr (⟨a, by simp [e]⟩))⟩
    ⟨fun e => hk (.inl (by simp [e]))⟩
    ⟨fun e => hk (.inl (by simp [e]))⟩
    ⟨fun e => hk (.inl (by simp [e]))⟩
    ⟨fun e => hk (.inl (by simp [e]))⟩
    ⟨fun e => hk (.inl (by simp [e]))⟩
    ⟨fun a e => hk (.inr (⟨a, by simp [e]⟩))⟩
    ⟨fun e => hk (.inl (by simp [e]))⟩
    ⟨fun e => hk (.inl (by simp [e]))⟩
    ⟨fun e => hk (.inl (by simp [e]))⟩
    ⟨fun e => hk (.inl (by simp [e]))⟩
    ⟨fun e => hk (.inl (by simp [e]))⟩ i_p i_cid s (At.self s)) he

theorem namespaceCreate_writes {i_slot i_nsze i_lbaFormat} {s nx : State} (he : exec (.namespaceCreate i_slot i_nsze i_lbaFormat) s = .next nx) : ObjsKept (writes (.namespaceCreate i_slot i_nsze i_lbaFormat)) s nx := fun k hk =>
  kept_of_outAt (@execNamespaceCreate_at k _
    ⟨fun e => hk (.inl (by simp [e]))⟩
    ⟨fun a e => hk (.inr (⟨a, by simp [e]⟩))⟩
    ⟨fun e => hk (.inl (by simp [e]))⟩
    ⟨fun e => hk (.inl (by simp [e]))⟩
    ⟨fun a e => hk (.inr (⟨a, by simp [e]⟩))⟩
    ⟨fun a e => hk (.inr (⟨a, by simp [e]⟩))⟩
    ⟨fun e => hk (.inl (by simp [e]))⟩
    ⟨fun e => hk (.inl (by simp [e]))⟩
    ⟨fun e => hk (.inl (by simp [e]))⟩
    ⟨fun e => hk (.inl (by simp [e]))⟩
    ⟨fun a e => hk (.inr (⟨a, by simp [e]⟩))⟩
    ⟨fun e => hk (.inl (by simp [e]))⟩
    ⟨fun e => hk (.inl (by simp [e]))⟩
    ⟨fun e => hk (.inl (by simp [e]))⟩
    ⟨fun a e => hk (.inr (⟨a, by simp [e]⟩))⟩
    ⟨fun e => hk (.inl (by simp [e]))⟩
    ⟨fun e => hk (.inl (by simp [e]))⟩
    ⟨fun e => hk (.inl (by simp [e]))⟩ i_slot i_nsze i_lbaFormat s (At.self s)) he

theorem namespaceDelete_writes {i_slot} {s nx : State} (he : exec (.namespaceDelete i_slot) s = .next nx) : ObjsKept (writes (.namespaceDelete i_slot)) s nx := fun k hk =>
  kept_of_outAt (@execNamespaceDelete_at k _
    ⟨fun e => hk (.inl (by simp [e]))⟩
    ⟨fun e => hk (.inl (by simp [e]))⟩
    ⟨fun a e => hk (.inr (⟨a, by simp [e]⟩))⟩
    ⟨fun e => hk (.inl (by simp [e]))⟩
    ⟨fun e => hk (.inl (by simp [e]))⟩
    ⟨fun a e => hk (.inr (⟨a, by simp [e]⟩))⟩
    ⟨fun e => hk (.inl (by simp [e]))⟩
    ⟨fun e => hk (.inl (by simp [e]))⟩
    ⟨fun a e => hk (.inr (⟨a, by simp [e]⟩))⟩
    ⟨fun e => hk (.inl (by simp [e]))⟩
    ⟨fun e => hk (.inl (by simp [e]))⟩
    ⟨fun e => hk (.inl (by simp [e]))⟩
    ⟨fun e => hk (.inl (by simp [e]))⟩
    ⟨fun e => hk (.inl (by simp [e]))⟩
    ⟨fun e => hk (.inl (by simp [e]))⟩
    ⟨fun a e => hk (.inr (⟨a, by simp [e]⟩))⟩
    ⟨fun e => hk (.inl (by simp [e]))⟩
    ⟨fun e => hk (.inl (by simp [e]))⟩
    ⟨fun e => hk (.inl (by simp [e]))⟩
    ⟨fun e => hk (.inl (by simp [e]))⟩
    ⟨fun e => hk (.inl (by simp [e]))⟩
    ⟨fun a e => hk (.inr (⟨a, by simp [e]⟩))⟩
    ⟨fun e => hk (.inl (by simp [e]))⟩
    ⟨fun e => hk (.inl (by simp [e]))⟩
    ⟨fun e => hk (.inl (by simp [e]))⟩ i_slot s (At.self s)) he

theorem namespaceAttachment_writes {i_slot i_controllers} {s nx : State} (he : exec (.namespaceAttachment i_slot i_controllers) s = .next nx) : ObjsKept (writes (.namespaceAttachment i_slot i_controllers)) s nx := fun k hk =>
  kept_of_outAt (@execNamespaceAttachment_at k _
    ⟨fun a e => hk (.inr (⟨a, by simp [e]⟩))⟩
    ⟨fun a e => hk (.inr (⟨a, by simp [e]⟩))⟩
    ⟨fun a e => hk (.inr (⟨a, by simp [e]⟩))⟩
    ⟨fun e => hk (.inl (by simp [e]))⟩
    ⟨fun e => hk (.inl (by simp [e]))⟩
    ⟨fun a e => hk (.inr (⟨a, by simp [e]⟩))⟩
    ⟨fun e => hk (.inl (by simp [e]))⟩ i_slot i_controllers s (At.self s)) he

theorem securitySend_writes {i_slot i_data} {s nx : State} (he : exec (.securitySend i_slot i_data) s = .next nx) : ObjsKept (writes (.securitySend i_slot i_data)) s nx := fun k hk =>
  kept_of_outAt (@execSecuritySend_at k _
    ⟨fun a e => hk (.inr (⟨a, by simp [e]⟩))⟩
    ⟨fun a e => hk (.inr (⟨a, by simp [e]⟩))⟩
    ⟨fun a e => hk (.inr (⟨a, by simp [e]⟩))⟩
    ⟨fun e => hk (.inl (by simp [e]))⟩
    ⟨fun e => hk (.inl (by simp [e]))⟩
    ⟨fun a e => hk (.inr (⟨a, by simp [e]⟩))⟩
    ⟨fun e => hk (.inl (by simp [e]))⟩ i_slot i_data s (At.self s)) he

theorem securityReceive_writes {i_slot} {s nx : State} (he : exec (.securityReceive i_slot) s = .next nx) : ObjsKept (writes (.securityReceive i_slot)) s nx := fun k hk =>
  kept_of_outAt (@execSecurityReceive_at k _
    ⟨fun a e => hk (.inr (⟨a, by simp [e]⟩))⟩
    ⟨fun a e => hk (.inr (⟨a, by simp [e]⟩))⟩
    ⟨fun a e => hk (.inr (⟨a, by simp [e]⟩))⟩
    ⟨fun e => hk (.inl (by simp [e]))⟩
    ⟨fun e => hk (.inl (by simp [e]))⟩
    ⟨fun a e => hk (.inr (⟨a, by simp [e]⟩))⟩
    ⟨fun e => hk (.inl (by simp [e]))⟩ i_slot s (At.self s)) he

theorem getLbaStatus_writes {i_slot} {s nx : State} (he : exec (.getLbaStatus i_slot) s = .next nx) : ObjsKept (writes (.getLbaStatus i_slot)) s nx := fun k hk =>
  kept_of_outAt (@execGetLbaStatus_at k _
    ⟨fun a e => hk (.inr (⟨a, by simp [e]⟩))⟩
    ⟨fun a e => hk (.inr (⟨a, by simp [e]⟩))⟩
    ⟨fun a e => hk (.inr (⟨a, by simp [e]⟩))⟩
    ⟨fun e => hk (.inl (by simp [e]))⟩
    ⟨fun e => hk (.inl (by simp [e]))⟩
    ⟨fun a e => hk (.inr (⟨a, by simp [e]⟩))⟩
    ⟨fun e => hk (.inl (by simp [e]))⟩ i_slot s (At.self s)) he

theorem nvmeFlush_writes {i_slot} {s nx : State} (he : exec (.nvmeFlush i_slot) s = .next nx) : ObjsKept (writes (.nvmeFlush i_slot)) s nx := fun k hk =>
  kept_of_outAt (@execNvmeFlush_at k _
    ⟨fun e => hk (.inl (by simp [e]))⟩
    ⟨fun a e => hk (.inr (⟨a, by simp [e]⟩))⟩
    ⟨fun a e => hk (.inr (⟨a, by simp [e]⟩))⟩
    ⟨fun e => hk (.inl (by simp [e]))⟩
    ⟨fun e => hk (.inl (by simp [e]))⟩
    ⟨fun a e => hk (.inr (⟨a, by simp [e]⟩))⟩
    ⟨fun e => hk (.inl (by simp [e]))⟩
    ⟨fun e => hk (.inl (by simp [e]))⟩
    ⟨fun e => hk (.inl (by simp [e]))⟩
    ⟨fun e => hk (.inl (by simp [e]))⟩
    ⟨fun a e => hk (.inr (⟨a, by simp [e]⟩))⟩
    ⟨fun e => hk (.inl (by simp [e]))⟩
    ⟨fun e => hk (.inl (by simp [e]))⟩
    ⟨fun e => hk (.inl (by simp [e]))⟩
    ⟨fun e => hk (.inl (by simp [e]))⟩ i_slot s (At.self s)) he

theorem nvmeWrite_writes {i_slot i_blocks} {s nx : State} (he : exec (.nvmeWrite i_slot i_blocks) s = .next nx) : ObjsKept (writes (.nvmeWrite i_slot i_blocks)) s nx := fun k hk =>
  kept_of_outAt (@execNvmeWrite_at k _
    ⟨fun e => hk (.inl (by simp [e]))⟩
    ⟨fun e => hk (.inl (by simp [e]))⟩
    ⟨fun a e => hk (.inr (⟨a, by simp [e]⟩))⟩
    ⟨fun a e => hk (.inr (⟨a, by simp [e]⟩))⟩
    ⟨fun e => hk (.inl (by simp [e]))⟩
    ⟨fun e => hk (.inl (by simp [e]))⟩
    ⟨fun a e => hk (.inr (⟨a, by simp [e]⟩))⟩
    ⟨fun e => hk (.inl (by simp [e]))⟩
    ⟨fun e => hk (.inl (by simp [e]))⟩
    ⟨fun e => hk (.inl (by simp [e]))⟩
    ⟨fun e => hk (.inl (by simp [e]))⟩
    ⟨fun a e => hk (.inr (⟨a, by simp [e]⟩))⟩
    ⟨fun e => hk (.inl (by simp [e]))⟩
    ⟨fun e => hk (.inl (by simp [e]))⟩
    ⟨fun e => hk (.inl (by simp [e]))⟩
    ⟨fun e => hk (.inl (by simp [e]))⟩ i_slot i_blocks s (At.self s)) he

theorem nvmeRead_writes {i_slot i_media} {s nx : State} (he : exec (.nvmeRead i_slot i_media) s = .next nx) : ObjsKept (writes (.nvmeRead i_slot i_media)) s nx := fun k hk =>
  kept_of_outAt (@execNvmeRead_at k _
    ⟨fun e => hk (.inl (by simp [e]))⟩
    ⟨fun a e => hk (.inr (⟨a, by simp [e]⟩))⟩
    ⟨fun a e => hk (.inr (⟨a, by simp [e]⟩))⟩
    ⟨fun e => hk (.inl (by simp [e]))⟩
    ⟨fun e => hk (.inl (by simp [e]))⟩
    ⟨fun a e => hk (.inr (⟨a, by simp [e]⟩))⟩
    ⟨fun e => hk (.inl (by simp [e]))⟩
    ⟨fun e => hk (.inl (by simp [e]))⟩
    ⟨fun e => hk (.inl (by simp [e]))⟩
    ⟨fun e => hk (.inl (by simp [e]))⟩
    ⟨fun a e => hk (.inr (⟨a, by simp [e]⟩))⟩
    ⟨fun e => hk (.inl (by simp [e]))⟩
    ⟨fun e => hk (.inl (by simp [e]))⟩
    ⟨fun e => hk (.inl (by simp [e]))⟩
    ⟨fun e => hk (.inl (by simp [e]))⟩ i_slot i_media s (At.self s)) he

theorem writeZeroes_writes {i_slot} {s nx : State} (he : exec (.writeZeroes i_slot) s = .next nx) : ObjsKept (writes (.writeZeroes i_slot)) s nx := fun k hk =>
  kept_of_outAt (@execWriteZeroes_at k _
    ⟨fun e => hk (.inl (by simp [e]))⟩
    ⟨fun e => hk (.inl (by simp [e]))⟩
    ⟨fun a e => hk (.inr (⟨a, by simp [e]⟩))⟩
    ⟨fun e => hk (.inl (by simp [e]))⟩
    ⟨fun e => hk (.inl (by simp [e]))⟩
    ⟨fun a e => hk (.inr (⟨a, by simp [e]⟩))⟩
    ⟨fun e => hk (.inl (by simp [e]))⟩
    ⟨fun e => hk (.inl (by simp [e]))⟩
    ⟨fun a e => hk (.inr (⟨a, by simp [e]⟩))⟩
    ⟨fun e => hk (.inl (by simp [e]))⟩
    ⟨fun e => hk (.inl (by simp [e]))⟩
    ⟨fun e => hk (.inl (by simp [e]))⟩
    ⟨fun e => hk (.inl (by simp [e]))⟩
    ⟨fun e => hk (.inl (by simp [e]))⟩
    ⟨fun e => hk (.inl (by simp [e]))⟩
    ⟨fun e => hk (.inl (by simp [e]))⟩
    ⟨fun a e => hk (.inr (⟨a, by simp [e]⟩))⟩
    ⟨fun e => hk (.inl (by simp [e]))⟩
    ⟨fun e => hk (.inl (by simp [e]))⟩
    ⟨fun e => hk (.inl (by simp [e]))⟩ i_slot s (At.self s)) he

theorem datasetManagement_writes {i_slot} {s nx : State} (he : exec (.datasetManagement i_slot) s = .next nx) : ObjsKept (writes (.datasetManagement i_slot)) s nx := fun k hk =>
  kept_of_outAt (@execDatasetManagement_at k _
    ⟨fun e => hk (.inl (by simp [e]))⟩
    ⟨fun e => hk (.inl (by simp [e]))⟩
    ⟨fun a e => hk (.inr (⟨a, by simp [e]⟩))⟩
    ⟨fun e => hk (.inl (by simp [e]))⟩
    ⟨fun e => hk (.inl (by simp [e]))⟩
    ⟨fun a e => hk (.inr (⟨a, by simp [e]⟩))⟩
    ⟨fun e => hk (.inl (by simp [e]))⟩
    ⟨fun e => hk (.inl (by simp [e]))⟩
    ⟨fun a e => hk (.inr (⟨a, by simp [e]⟩))⟩
    ⟨fun e => hk (.inl (by simp [e]))⟩
    ⟨fun e => hk (.inl (by simp [e]))⟩
    ⟨fun e => hk (.inl (by simp [e]))⟩
    ⟨fun e => hk (.inl (by simp [e]))⟩
    ⟨fun e => hk (.inl (by simp [e]))⟩
    ⟨fun e => hk (.inl (by simp [e]))⟩
    ⟨fun e => hk (.inl (by simp [e]))⟩
    ⟨fun a e => hk (.inr (⟨a, by simp [e]⟩))⟩
    ⟨fun e => hk (.inl (by simp [e]))⟩
    ⟨fun e => hk (.inl (by simp [e]))⟩
    ⟨fun e => hk (.inl (by simp [e]))⟩ i_slot s (At.self s)) he

theorem nvmeVerify_writes {i_slot i_media} {s nx : State} (he : exec (.nvmeVerify i_slot i_media) s = .next nx) : ObjsKept (writes (.nvmeVerify i_slot i_media)) s nx := fun k hk =>
  kept_of_outAt (@execNvmeVerify_at k _
    ⟨fun e => hk (.inl (by simp [e]))⟩
    ⟨fun a e => hk (.inr (⟨a, by simp [e]⟩))⟩
    ⟨fun a e => hk (.inr (⟨a, by simp [e]⟩))⟩
    ⟨fun e => hk (.inl (by simp [e]))⟩
    ⟨fun e => hk (.inl (by simp [e]))⟩
    ⟨fun a e => hk (.inr (⟨a, by simp [e]⟩))⟩
    ⟨fun e => hk (.inl (by simp [e]))⟩
    ⟨fun e => hk (.inl (by simp [e]))⟩
    ⟨fun e => hk (.inl (by simp [e]))⟩
    ⟨fun e => hk (.inl (by simp [e]))⟩
    ⟨fun a e => hk (.inr (⟨a, by simp [e]⟩))⟩
    ⟨fun e => hk (.inl (by simp [e]))⟩
    ⟨fun e => hk (.inl (by simp [e]))⟩
    ⟨fun e => hk (.inl (by simp [e]))⟩
    ⟨fun e => hk (.inl (by simp [e]))⟩ i_slot i_media s (At.self s)) he

theorem reservationRegister_writes {i_slot i_crkey i_nrkey} {s nx : State} (he : exec (.reservationRegister i_slot i_crkey i_nrkey) s = .next nx) : ObjsKept (writes (.reservationRegister i_slot i_crkey i_nrkey)) s nx := fun k hk =>
  kept_of_outAt (@execReservationRegister_at k _
    ⟨fun a e => hk (.inr (⟨a, by simp [e]⟩))⟩
    ⟨fun a e => hk (.inr (⟨a, by simp [e]⟩))⟩
    ⟨fun e => hk (.inl (by simp [e]))⟩
    ⟨fun e => hk (.inl (by simp [e]))⟩
    ⟨fun a e => hk (.inr (⟨a, by simp [e]⟩))⟩
    ⟨fun e => hk (.inl (by simp [e]))⟩
    ⟨fun e => hk (.inl (by simp [e]))⟩
    ⟨fun a e => hk (.inr (⟨a, by simp [e]⟩))⟩
    ⟨fun e => hk (.inl (by simp [e]))⟩ i_slot i_crkey i_nrkey s (At.self s)) he

theorem reservationReport_writes {i_slot} {s nx : State} (he : exec (.reservationReport i_slot) s = .next nx) : ObjsKept (writes (.reservationReport i_slot)) s nx := fun k hk =>
  kept_of_outAt (@execReservationReport_at k _
    ⟨fun a e => hk (.inr (⟨a, by simp [e]⟩))⟩
    ⟨fun a e => hk (.inr (⟨a, by simp [e]⟩))⟩
    ⟨fun e => hk (.inl (by simp [e]))⟩
    ⟨fun e => hk (.inl (by simp [e]))⟩
    ⟨fun a e => hk (.inr (⟨a, by simp [e]⟩))⟩
    ⟨fun e => hk (.inl (by simp [e]))⟩
    ⟨fun e => hk (.inl (by simp [e]))⟩
    ⟨fun a e => hk (.inr (⟨a, by simp [e]⟩))⟩
    ⟨fun e => hk (.inl (by simp [e]))⟩ i_slot s (At.self s)) he

theorem reservationAcquire_writes {i_slot i_crkey i_prkey} {s nx : State} (he : exec (.reservationAcquire i_slot i_crkey i_prkey) s = .next nx) : ObjsKept (writes (.reservationAcquire i_slot i_crkey i_prkey)) s nx := fun k hk =>
  kept_of_outAt (@execReservationAcquire_at k _
    ⟨fun a e => hk (.inr (⟨a, by simp [e]⟩))⟩
    ⟨fun a e => hk (.inr (⟨a, by simp [e]⟩))⟩
    ⟨fun e => hk (.inl (by simp [e]))⟩
    ⟨fun e => hk (.inl (by simp [e]))⟩
    ⟨fun a e => hk (.inr (⟨a, by simp [e]⟩))⟩
    ⟨fun e => hk (.inl (by simp [e]))⟩
    ⟨fun e => hk (.inl (by simp [e]))⟩
    ⟨fun a e => hk (.inr (⟨a, by simp [e]⟩))⟩
    ⟨fun e => hk (.inl (by simp [e]))⟩ i_slot i_crkey i_prkey s (At.self s)) he

theorem reservationPreemptAndAbort_writes {i_slot i_crkey i_prkey} {s nx : State} (he : exec (.reservationPreemptAndAbort i_slot i_crkey i_prkey) s = .next nx) : ObjsKept (writes (.reservationPreemptAndAbort i_slot i_crkey i_prkey)) s nx := fun k hk =>
  kept_of_outAt (@execReservationPreemptAndAbort_at k _
    ⟨fun a e => hk (.inr (⟨a, by simp [e]⟩))⟩
    ⟨fun a e => hk (.inr (⟨a, by simp [e]⟩))⟩
    ⟨fun e => hk (.inl (by simp [e]))⟩
    ⟨fun e => hk (.inl (by simp [e]))⟩
    ⟨fun a e => hk (.inr (⟨a, by simp [e]⟩))⟩
    ⟨fun e => hk (.inl (by simp [e]))⟩
    ⟨fun e => hk (.inl (by simp [e]))⟩
    ⟨fun a e => hk (.inr (⟨a, by simp [e]⟩))⟩
    ⟨fun e => hk (.inl (by simp [e]))⟩ i_slot i_crkey i_prkey s (At.self s)) he

theorem reservationRelease_writes {i_slot i_crkey} {s nx : State} (he : exec (.reservationRelease i_slot i_crkey) s = .next nx) : ObjsKept (writes (.reservationRelease i_slot i_crkey)) s nx := fun k hk =>
  kept_of_outAt (@execReservationRelease_at k _
    ⟨fun a e => hk (.inr (⟨a, by simp [e]⟩))⟩
    ⟨fun a e => hk (.inr (⟨a, by simp [e]⟩))⟩
    ⟨fun e => hk (.inl (by simp [e]))⟩
    ⟨fun e => hk (.inl (by simp [e]))⟩
    ⟨fun a e => hk (.inr (⟨a, by simp [e]⟩))⟩
    ⟨fun e => hk (.inl (by simp [e]))⟩
    ⟨fun e => hk (.inl (by simp [e]))⟩
    ⟨fun a e => hk (.inr (⟨a, by simp [e]⟩))⟩
    ⟨fun e => hk (.inl (by simp [e]))⟩ i_slot i_crkey s (At.self s)) he

theorem invalidOpcode_writes {i_slot} {s nx : State} (he : exec (.invalidOpcode i_slot) s = .next nx) : ObjsKept (writes (.invalidOpcode i_slot)) s nx := fun k hk =>
  kept_of_outAt (@execInvalidOpcode_at k _
    ⟨fun a e => hk (.inr (⟨a, by simp [e]⟩))⟩
    ⟨fun a e => hk (.inr (⟨a, by simp [e]⟩))⟩
    ⟨fun e => hk (.inl (by simp [e]))⟩
    ⟨fun e => hk (.inl (by simp [e]))⟩
    ⟨fun a e => hk (.inr (⟨a, by simp [e]⟩))⟩
    ⟨fun e => hk (.inl (by simp [e]))⟩
    ⟨fun e => hk (.inl (by simp [e]))⟩
    ⟨fun a e => hk (.inr (⟨a, by simp [e]⟩))⟩
    ⟨fun e => hk (.inl (by simp [e]))⟩ i_slot s (At.self s)) he

theorem writeCached_writes {i_slot} {s nx : State} (he : exec (.writeCached i_slot) s = .next nx) : ObjsKept (writes (.writeCached i_slot)) s nx := fun k hk =>
  kept_of_outAt (@execWriteCached_at k _
    ⟨fun e => hk (.inl (by simp [e]))⟩
    ⟨fun e => hk (.inl (by simp [e]))⟩
    ⟨fun a e => hk (.inr (⟨a, by simp [e]⟩))⟩
    ⟨fun e => hk (.inl (by simp [e]))⟩
    ⟨fun e => hk (.inl (by simp [e]))⟩
    ⟨fun a e => hk (.inr (⟨a, by simp [e]⟩))⟩
    ⟨fun e => hk (.inl (by simp [e]))⟩
    ⟨fun e => hk (.inl (by simp [e]))⟩
    ⟨fun a e => hk (.inr (⟨a, by simp [e]⟩))⟩
    ⟨fun e => hk (.inl (by simp [e]))⟩
    ⟨fun e => hk (.inl (by simp [e]))⟩
    ⟨fun e => hk (.inl (by simp [e]))⟩
    ⟨fun e => hk (.inl (by simp [e]))⟩
    ⟨fun e => hk (.inl (by simp [e]))⟩
    ⟨fun e => hk (.inl (by simp [e]))⟩
    ⟨fun e => hk (.inl (by simp [e]))⟩
    ⟨fun e => hk (.inl (by simp [e]))⟩
    ⟨fun e => hk (.inl (by simp [e]))⟩
    ⟨fun a e => hk (.inr (⟨a, by simp [e]⟩))⟩
    ⟨fun e => hk (.inl (by simp [e]))⟩
    ⟨fun e => hk (.inl (by simp [e]))⟩
    ⟨fun e => hk (.inl (by simp [e]))⟩
    ⟨fun e => hk (.inl (by simp [e]))⟩
    ⟨fun e => hk (.inl (by simp [e]))⟩
    ⟨fun e => hk (.inl (by simp [e]))⟩ i_slot s (At.self s)) he

theorem readTransferred_writes {i_slot} {s nx : State} (he : exec (.readTransferred i_slot) s = .next nx) : ObjsKept (writes (.readTransferred i_slot)) s nx := fun k hk =>
  kept_of_outAt (@execReadTransferred_at k _
    ⟨fun a e => hk (.inr (⟨a, by simp [e]⟩))⟩
    ⟨fun a e => hk (.inr (⟨a, by simp [e]⟩))⟩
    ⟨fun e => hk (.inl (by simp [e]))⟩
    ⟨fun e => hk (.inl (by simp [e]))⟩
    ⟨fun a e => hk (.inr (⟨a, by simp [e]⟩))⟩
    ⟨fun e => hk (.inl (by simp [e]))⟩
    ⟨fun e => hk (.inl (by simp [e]))⟩
    ⟨fun a e => hk (.inr (⟨a, by simp [e]⟩))⟩
    ⟨fun e => hk (.inl (by simp [e]))⟩ i_slot s (At.self s)) he

theorem ccEnSet_writes {i_p} {s nx : State} (he : exec (.ccEnSet i_p) s = .next nx) : ObjsKept (writes (.ccEnSet i_p)) s nx := fun k _ =>
  kept_of_outAt (@execCcEnSet_at k _ i_p s (At.self s)) he

theorem shutdownNormal_writes {i_p} {s nx : State} (he : exec (.shutdownNormal i_p) s = .next nx) : ObjsKept (writes (.shutdownNormal i_p)) s nx := fun k hk =>
  kept_of_outAt (@execShutdownNormal_at k _
    ⟨fun a e => hk (⟨a, by simp [e]⟩)⟩
    ⟨fun a e => hk (⟨a, by simp [e]⟩)⟩ i_p s (At.self s)) he

theorem shutdownAbrupt_writes {i_p} {s nx : State} (he : exec (.shutdownAbrupt i_p) s = .next nx) : ObjsKept (writes (.shutdownAbrupt i_p)) s nx := fun k hk =>
  kept_of_outAt (@execShutdownAbrupt_at k _
    ⟨fun a e => hk (.inr (⟨a, by simp [e]⟩))⟩
    ⟨fun a e => hk (.inr (⟨a, by simp [e]⟩))⟩
    ⟨fun e => hk (.inl (by simp [e]))⟩
    ⟨fun e => hk (.inl (by simp [e]))⟩
    ⟨fun a e => hk (.inr (⟨a, by simp [e]⟩))⟩
    ⟨fun e => hk (.inl (by simp [e]))⟩
    ⟨fun e => hk (.inl (by simp [e]))⟩
    ⟨fun a e => hk (.inr (⟨a, by simp [e]⟩))⟩
    ⟨fun e => hk (.inl (by simp [e]))⟩ i_p s (At.self s)) he

theorem ps3IdleTimeout_writes {s nx : State} (he : exec (.ps3IdleTimeout) s = .next nx) : ObjsKept (writes (.ps3IdleTimeout)) s nx := fun k hk =>
  kept_of_outAt (@execPs3IdleTimeout_at k _
    ⟨fun e => hk (.inl (by simp [e]))⟩
    ⟨fun a e => hk (.inr (⟨a, by simp [e]⟩))⟩
    ⟨fun e => hk (.inl (by simp [e]))⟩
    ⟨fun e => hk (.inl (by simp [e]))⟩
    ⟨fun e => hk (.inl (by simp [e]))⟩
    ⟨fun a e => hk (.inr (⟨a, by simp [e]⟩))⟩
    ⟨fun e => hk (.inl (by simp [e]))⟩
    ⟨fun e => hk (.inl (by simp [e]))⟩
    ⟨fun e => hk (.inl (by simp [e]))⟩ s (At.self s)) he

theorem powerStateSafePoint_writes {s nx : State} (he : exec (.powerStateSafePoint) s = .next nx) : ObjsKept (writes (.powerStateSafePoint)) s nx := fun k hk =>
  kept_of_outAt (@execPowerStateSafePoint_at k _
    ⟨fun e => hk (.inl (by simp [e]))⟩
    ⟨fun a e => hk (.inr (⟨a, by simp [e]⟩))⟩
    ⟨fun e => hk (.inl (by simp [e]))⟩
    ⟨fun e => hk (.inl (by simp [e]))⟩
    ⟨fun e => hk (.inl (by simp [e]))⟩
    ⟨fun e => hk (.inl (by simp [e]))⟩
    ⟨fun e => hk (.inl (by simp [e]))⟩
    ⟨fun a e => hk (.inr (⟨a, by simp [e]⟩))⟩
    ⟨fun e => hk (.inl (by simp [e]))⟩
    ⟨fun e => hk (.inl (by simp [e]))⟩
    ⟨fun e => hk (.inl (by simp [e]))⟩
    ⟨fun e => hk (.inl (by simp [e]))⟩
    ⟨fun e => hk (.inl (by simp [e]))⟩ s (At.self s)) he

theorem tlerExpire_writes {i_slot i_lba} {s nx : State} (he : exec (.tlerExpire i_slot i_lba) s = .next nx) : ObjsKept (writes (.tlerExpire i_slot i_lba)) s nx := fun k hk =>
  kept_of_outAt (@execTlerExpire_at k _
    ⟨fun a e => hk (.inr (⟨a, by simp [e]⟩))⟩
    ⟨fun a e => hk (.inr (⟨a, by simp [e]⟩))⟩
    ⟨fun e => hk (.inl (by simp [e]))⟩
    ⟨fun e => hk (.inl (by simp [e]))⟩
    ⟨fun a e => hk (.inr (⟨a, by simp [e]⟩))⟩
    ⟨fun e => hk (.inl (by simp [e]))⟩
    ⟨fun e => hk (.inl (by simp [e]))⟩
    ⟨fun a e => hk (.inr (⟨a, by simp [e]⟩))⟩
    ⟨fun e => hk (.inl (by simp [e]))⟩ i_slot i_lba s (At.self s)) he

theorem destageUpdate_writes {i_stripe i_reads} {s nx : State} (he : exec (.destageUpdate i_stripe i_reads) s = .next nx) : ObjsKept (writes (.destageUpdate i_stripe i_reads)) s nx := fun k hk =>
  kept_of_outAt (@execDestageUpdate_at k _
    ⟨fun e => hk (.inl (by simp [e]))⟩
    ⟨fun e => hk (.inl (by simp [e]))⟩
    ⟨fun a e => hk (.inr (⟨a, by simp [e]⟩))⟩
    ⟨fun e => hk (.inl (by simp [e]))⟩
    ⟨fun e => hk (.inl (by simp [e]))⟩
    ⟨fun a e => hk (.inr (⟨a, by simp [e]⟩))⟩
    ⟨fun e => hk (.inl (by simp [e]))⟩
    ⟨fun e => hk (.inl (by simp [e]))⟩
    ⟨fun e => hk (.inl (by simp [e]))⟩
    ⟨fun e => hk (.inl (by simp [e]))⟩
    ⟨fun e => hk (.inl (by simp [e]))⟩
    ⟨fun e => hk (.inl (by simp [e]))⟩
    ⟨fun e => hk (.inl (by simp [e]))⟩
    ⟨fun e => hk (.inl (by simp [e]))⟩
    ⟨fun e => hk (.inl (by simp [e]))⟩
    ⟨fun e => hk (.inl (by simp [e]))⟩
    ⟨fun e => hk (.inl (by simp [e]))⟩
    ⟨fun e => hk (.inl (by simp [e]))⟩
    ⟨fun e => hk (.inl (by simp [e]))⟩
    ⟨fun e => hk (.inl (by simp [e]))⟩
    ⟨fun e => hk (.inl (by simp [e]))⟩
    ⟨fun e => hk (.inl (by simp [e]))⟩ i_stripe i_reads s (At.self s)) he

theorem wiMirrorPoint_writes {s nx : State} (he : exec (.wiMirrorPoint) s = .next nx) : ObjsKept (writes (.wiMirrorPoint)) s nx := fun k hk =>
  kept_of_outAt (@execWiMirrorPoint_at k _
    ⟨fun e => hk (by show _ ∈ _; simp [e])⟩
    ⟨fun e => hk (by show _ ∈ _; simp [e])⟩ s (At.self s)) he

theorem mirrorRetry_writes {i_page i_ok} {s nx : State} (he : exec (.mirrorRetry i_page i_ok) s = .next nx) : ObjsKept (writes (.mirrorRetry i_page i_ok)) s nx := fun k _ =>
  kept_of_outAt (@execMirrorRetry_at k _ i_page i_ok s (At.self s)) he

theorem resyncGroup_writes {i_group i_reads} {s nx : State} (he : exec (.resyncGroup i_group i_reads) s = .next nx) : ObjsKept (writes (.resyncGroup i_group i_reads)) s nx := fun k hk =>
  kept_of_outAt (@execResyncGroup_at k _
    ⟨fun e => hk (.inl (by simp [e]))⟩
    ⟨fun a e => hk (.inr (⟨a, by simp [e]⟩))⟩
    ⟨fun e => hk (.inl (by simp [e]))⟩
    ⟨fun e => hk (.inl (by simp [e]))⟩
    ⟨fun a e => hk (.inr (⟨a, by simp [e]⟩))⟩
    ⟨fun e => hk (.inl (by simp [e]))⟩
    ⟨fun e => hk (.inl (by simp [e]))⟩
    ⟨fun e => hk (.inl (by simp [e]))⟩
    ⟨fun e => hk (.inl (by simp [e]))⟩
    ⟨fun e => hk (.inl (by simp [e]))⟩
    ⟨fun e => hk (.inl (by simp [e]))⟩
    ⟨fun e => hk (.inl (by simp [e]))⟩
    ⟨fun e => hk (.inl (by simp [e]))⟩
    ⟨fun e => hk (.inl (by simp [e]))⟩
    ⟨fun e => hk (.inl (by simp [e]))⟩
    ⟨fun e => hk (.inl (by simp [e]))⟩
    ⟨fun e => hk (.inl (by simp [e]))⟩
    ⟨fun e => hk (.inl (by simp [e]))⟩
    ⟨fun e => hk (.inl (by simp [e]))⟩
    ⟨fun e => hk (.inl (by simp [e]))⟩
    ⟨fun e => hk (.inl (by simp [e]))⟩
    ⟨fun e => hk (.inl (by simp [e]))⟩ i_group i_reads s (At.self s)) he

theorem rebuildStripe_writes {i_stripe i_reads} {s nx : State} (he : exec (.rebuildStripe i_stripe i_reads) s = .next nx) : ObjsKept (writes (.rebuildStripe i_stripe i_reads)) s nx := fun k hk =>
  kept_of_outAt (@execRebuildStripe_at k _
    ⟨fun e => hk (.inl (by simp [e]))⟩
    ⟨fun e => hk (.inl (by simp [e]))⟩
    ⟨fun a e => hk (.inr (⟨a, by simp [e]⟩))⟩
    ⟨fun e => hk (.inl (by simp [e]))⟩
    ⟨fun e => hk (.inl (by simp [e]))⟩
    ⟨fun a e => hk (.inr (⟨a, by simp [e]⟩))⟩
    ⟨fun e => hk (.inl (by simp [e]))⟩
    ⟨fun e => hk (.inl (by simp [e]))⟩
    ⟨fun e => hk (.inl (by simp [e]))⟩
    ⟨fun e => hk (.inl (by simp [e]))⟩
    ⟨fun e => hk (.inl (by simp [e]))⟩
    ⟨fun e => hk (.inl (by simp [e]))⟩
    ⟨fun e => hk (.inl (by simp [e]))⟩
    ⟨fun e => hk (.inl (by simp [e]))⟩
    ⟨fun e => hk (.inl (by simp [e]))⟩
    ⟨fun e => hk (.inl (by simp [e]))⟩
    ⟨fun a e => hk (.inr (⟨a, by simp [e]⟩))⟩
    ⟨fun e => hk (.inl (by simp [e]))⟩
    ⟨fun e => hk (.inl (by simp [e]))⟩ i_stripe i_reads s (At.self s)) he

theorem rebuildCheckpoint_writes {s nx : State} (he : exec (.rebuildCheckpoint) s = .next nx) : ObjsKept (writes (.rebuildCheckpoint)) s nx := fun k _ =>
  kept_of_outAt (@execRebuildCheckpoint_at k _ s (At.self s)) he

theorem patrolStripe_writes {i_stripe i_reads} {s nx : State} (he : exec (.patrolStripe i_stripe i_reads) s = .next nx) : ObjsKept (writes (.patrolStripe i_stripe i_reads)) s nx := fun k hk =>
  kept_of_outAt (@execPatrolStripe_at k _
    ⟨fun e => hk (.inl (by simp [e]))⟩
    ⟨fun a e => hk (.inr (⟨a, by simp [e]⟩))⟩
    ⟨fun e => hk (.inl (by simp [e]))⟩
    ⟨fun e => hk (.inl (by simp [e]))⟩
    ⟨fun a e => hk (.inr (⟨a, by simp [e]⟩))⟩
    ⟨fun e => hk (.inl (by simp [e]))⟩
    ⟨fun e => hk (.inl (by simp [e]))⟩
    ⟨fun e => hk (.inl (by simp [e]))⟩
    ⟨fun e => hk (.inl (by simp [e]))⟩
    ⟨fun e => hk (.inl (by simp [e]))⟩
    ⟨fun e => hk (.inl (by simp [e]))⟩
    ⟨fun e => hk (.inl (by simp [e]))⟩
    ⟨fun e => hk (.inl (by simp [e]))⟩
    ⟨fun e => hk (.inl (by simp [e]))⟩
    ⟨fun e => hk (.inl (by simp [e]))⟩
    ⟨fun e => hk (.inl (by simp [e]))⟩
    ⟨fun e => hk (.inl (by simp [e]))⟩
    ⟨fun e => hk (.inl (by simp [e]))⟩
    ⟨fun e => hk (.inl (by simp [e]))⟩
    ⟨fun e => hk (.inl (by simp [e]))⟩ i_stripe i_reads s (At.self s)) he

theorem reshapeGroupCopy_writes {s nx : State} (he : exec (.reshapeGroupCopy) s = .next nx) : ObjsKept (writes (.reshapeGroupCopy)) s nx := fun k hk =>
  kept_of_outAt (@execReshapeGroupCopy_at k _
    ⟨fun e => hk (by show _ ∈ _; simp [e])⟩
    ⟨fun e => hk (by show _ ∈ _; simp [e])⟩
    ⟨fun e => hk (by show _ ∈ _; simp [e])⟩
    ⟨fun e => hk (by show _ ∈ _; simp [e])⟩
    ⟨fun e => hk (by show _ ∈ _; simp [e])⟩
    ⟨fun e => hk (by show _ ∈ _; simp [e])⟩
    ⟨fun e => hk (by show _ ∈ _; simp [e])⟩
    ⟨fun e => hk (by show _ ∈ _; simp [e])⟩
    ⟨fun e => hk (by show _ ∈ _; simp [e])⟩
    ⟨fun e => hk (by show _ ∈ _; simp [e])⟩
    ⟨fun e => hk (by show _ ∈ _; simp [e])⟩
    ⟨fun e => hk (by show _ ∈ _; simp [e])⟩
    ⟨fun e => hk (by show _ ∈ _; simp [e])⟩
    ⟨fun e => hk (by show _ ∈ _; simp [e])⟩ s (At.self s)) he

theorem grownDefectReadback_writes {i_surface i_track i_psector i_converged i_taBoth i_freezeOffset i_freezeLen} {s nx : State} (he : exec (.grownDefectReadback i_surface i_track i_psector i_converged i_taBoth i_freezeOffset i_freezeLen) s = .next nx) : ObjsKept (writes (.grownDefectReadback i_surface i_track i_psector i_converged i_taBoth i_freezeOffset i_freezeLen)) s nx := fun k hk =>
  kept_of_outAt (@execGrownDefectReadback_at k _
    ⟨fun e => hk (by show _ ∈ _; simp [e])⟩
    ⟨fun e => hk (by show _ ∈ _; simp [e])⟩
    ⟨fun e => hk (by show _ ∈ _; simp [e])⟩
    ⟨fun e => hk (by show _ ∈ _; simp [e])⟩
    ⟨fun e => hk (by show _ ∈ _; simp [e])⟩
    ⟨fun e => hk (by show _ ∈ _; simp [e])⟩
    ⟨fun e => hk (by show _ ∈ _; simp [e])⟩
    ⟨fun e => hk (by show _ ∈ _; simp [e])⟩
    ⟨fun e => hk (by show _ ∈ _; simp [e])⟩
    ⟨fun e => hk (by show _ ∈ _; simp [e])⟩ i_surface i_track i_psector i_converged i_taBoth i_freezeOffset i_freezeLen s (At.self s)) he

theorem arbiterGrant_writes {i_waiting} {s nx : State} (he : exec (.arbiterGrant i_waiting) s = .next nx) : ObjsKept (writes (.arbiterGrant i_waiting)) s nx := fun k hk =>
  kept_of_outAt (@execArbiterGrant_at k _
    ⟨fun e => hk (by show _ ∈ _; simp [e])⟩
    ⟨fun e => hk (by show _ ∈ _; simp [e])⟩
    ⟨fun e => hk (by show _ ∈ _; simp [e])⟩
    ⟨fun e => hk (by show _ ∈ _; simp [e])⟩
    ⟨fun e => hk (by show _ ∈ _; simp [e])⟩
    ⟨fun e => hk (by show _ ∈ _; simp [e])⟩
    ⟨fun e => hk (by show _ ∈ _; simp [e])⟩
    ⟨fun e => hk (by show _ ∈ _; simp [e])⟩
    ⟨fun e => hk (by show _ ∈ _; simp [e])⟩ i_waiting s (At.self s)) he

theorem pageSubstitutionDone_writes {i_page} {s nx : State} (he : exec (.pageSubstitutionDone i_page) s = .next nx) : ObjsKept (writes (.pageSubstitutionDone i_page)) s nx := fun k hk =>
  kept_of_outAt (@execPageSubstitutionDone_at k _
    ⟨fun e => hk (by show _ ∈ _; simp [e])⟩ i_page s (At.self s)) he

theorem zeroRangeDone_writes {s nx : State} (he : exec (.zeroRangeDone) s = .next nx) : ObjsKept (writes (.zeroRangeDone)) s nx := fun k _ =>
  kept_of_outAt (@execZeroRangeDone_at k _ s (At.self s)) he

theorem keeperSlotErased_writes {i_slot} {s nx : State} (he : exec (.keeperSlotErased i_slot) s = .next nx) : ObjsKept (writes (.keeperSlotErased i_slot)) s nx := fun k _ =>
  kept_of_outAt (@execKeeperSlotErased_at k _ i_slot s (At.self s)) he

theorem cacheMaintDone_writes {i_core} {s nx : State} (he : exec (.cacheMaintDone i_core) s = .next nx) : ObjsKept (writes (.cacheMaintDone i_core)) s nx := fun k hk =>
  kept_of_outAt (@execCacheMaintDone_at k _
    ⟨fun a e => hk (⟨a, by simp [e]⟩)⟩
    ⟨fun a e => hk (⟨a, by simp [e]⟩)⟩ i_core s (At.self s)) he

theorem cacheFillReturn_writes {i_line} {s nx : State} (he : exec (.cacheFillReturn i_line) s = .next nx) : ObjsKept (writes (.cacheFillReturn i_line)) s nx := fun k hk =>
  kept_of_outAt (@execCacheFillReturn_at k _
    ⟨fun e => hk (by show _ ∈ _; simp [e])⟩
    ⟨fun e => hk (by show _ ∈ _; simp [e])⟩
    ⟨fun e => hk (by show _ ∈ _; simp [e])⟩ i_line s (At.self s)) he

theorem dmaDescriptorFetched_writes {i_ch i_ok} {s nx : State} (he : exec (.dmaDescriptorFetched i_ch i_ok) s = .next nx) : ObjsKept (writes (.dmaDescriptorFetched i_ch i_ok)) s nx := fun k hk =>
  kept_of_outAt (@execDmaDescriptorFetched_at k _
    ⟨fun a e => hk (⟨a, by simp [e]⟩)⟩
    ⟨fun a e => hk (⟨a, by simp [e]⟩)⟩
    ⟨fun a e => hk (⟨a, by simp [e]⟩)⟩
    ⟨fun a e => hk (⟨a, by simp [e]⟩)⟩
    ⟨fun a e => hk (⟨a, by simp [e]⟩)⟩
    ⟨fun a e => hk (⟨a, by simp [e]⟩)⟩
    ⟨fun a e => hk (⟨a, by simp [e]⟩)⟩ i_ch i_ok s (At.self s)) he

theorem dmaBeatsAcknowledged_writes {i_ch} {s nx : State} (he : exec (.dmaBeatsAcknowledged i_ch) s = .next nx) : ObjsKept (writes (.dmaBeatsAcknowledged i_ch)) s nx := fun k hk =>
  kept_of_outAt (@execDmaBeatsAcknowledged_at k _
    ⟨fun a e => hk (⟨a, by simp [e]⟩)⟩
    ⟨fun a e => hk (⟨a, by simp [e]⟩)⟩ i_ch s (At.self s)) he

theorem dmaReadbackDone_writes {i_ch} {s nx : State} (he : exec (.dmaReadbackDone i_ch) s = .next nx) : ObjsKept (writes (.dmaReadbackDone i_ch)) s nx := fun k hk =>
  kept_of_outAt (@execDmaReadbackDone_at k _
    ⟨fun a e => hk (⟨a, by simp [e]⟩)⟩
    ⟨fun a e => hk (⟨a, by simp [e]⟩)⟩
    ⟨fun a e => hk (⟨a, by simp [e]⟩)⟩
    ⟨fun a e => hk (⟨a, by simp [e]⟩)⟩
    ⟨fun a e => hk (⟨a, by simp [e]⟩)⟩
    ⟨fun a e => hk (⟨a, by simp [e]⟩)⟩
    ⟨fun a e => hk (⟨a, by simp [e]⟩)⟩ i_ch s (At.self s)) he

theorem dmaBeatError_writes {i_ch i_kind i_doneBytes i_indet} {s nx : State} (he : exec (.dmaBeatError i_ch i_kind i_doneBytes i_indet) s = .next nx) : ObjsKept (writes (.dmaBeatError i_ch i_kind i_doneBytes i_indet)) s nx := fun k hk =>
  kept_of_outAt (@execDmaBeatError_at k _
    ⟨fun a e => hk (⟨a, by simp [e]⟩)⟩
    ⟨fun a e => hk (⟨a, by simp [e]⟩)⟩
    ⟨fun a e => hk (⟨a, by simp [e]⟩)⟩
    ⟨fun a e => hk (⟨a, by simp [e]⟩)⟩
    ⟨fun a e => hk (⟨a, by simp [e]⟩)⟩
    ⟨fun a e => hk (⟨a, by simp [e]⟩)⟩
    ⟨fun a e => hk (⟨a, by simp [e]⟩)⟩
    ⟨fun a e => hk (⟨a, by simp [e]⟩)⟩ i_ch i_kind i_doneBytes i_indet s (At.self s)) he

theorem fabricNak_writes {i_lane i_requester} {s nx : State} (he : exec (.fabricNak i_lane i_requester) s = .next nx) : ObjsKept (writes (.fabricNak i_lane i_requester)) s nx := fun k hk =>
  kept_of_outAt (@execFabricNak_at k _
    ⟨fun a e => hk (.inr (.inl (⟨a, by simp [e]⟩)))⟩
    ⟨fun a e => hk (.inr (.inl (⟨a, by simp [e]⟩)))⟩
    ⟨fun e => hk (.inl (by simp [e]))⟩
    ⟨fun a b e => hk (.inr (.inr (⟨a, b, by simp [e]⟩)))⟩
    ⟨fun a e => hk (.inr (.inl (⟨a, by simp [e]⟩)))⟩
    ⟨fun e => hk (.inl (by simp [e]))⟩
    ⟨fun a e => hk (.inr (.inl (⟨a, by simp [e]⟩)))⟩
    ⟨fun a e => hk (.inr (.inl (⟨a, by simp [e]⟩)))⟩
    ⟨fun e => hk (.inl (by simp [e]))⟩
    ⟨fun a b e => hk (.inr (.inr (⟨a, b, by simp [e]⟩)))⟩
    ⟨fun a e => hk (.inr (.inl (⟨a, by simp [e]⟩)))⟩
    ⟨fun e => hk (.inl (by simp [e]))⟩
    ⟨fun a e => hk (.inr (.inl (⟨a, by simp [e]⟩)))⟩
    ⟨fun a e => hk (.inr (.inl (⟨a, by simp [e]⟩)))⟩
    ⟨fun a e => hk (.inr (.inl (⟨a, by simp [e]⟩)))⟩
    ⟨fun e => hk (.inl (by simp [e]))⟩
    ⟨fun a b e => hk (.inr (.inr (⟨a, b, by simp [e]⟩)))⟩
    ⟨fun a e => hk (.inr (.inl (⟨a, by simp [e]⟩)))⟩
    ⟨fun a e => hk (.inr (.inl (⟨a, by simp [e]⟩)))⟩
    ⟨fun a e => hk (.inr (.inl (⟨a, by simp [e]⟩)))⟩
    ⟨fun a e => hk (.inr (.inl (⟨a, by simp [e]⟩)))⟩ i_lane i_requester s (At.self s)) he

theorem safeRestartTimeout_writes {s nx : State} (he : exec (.safeRestartTimeout) s = .next nx) : ObjsKept (writes (.safeRestartTimeout)) s nx := fun k hk =>
  kept_of_outAt (@execSafeRestartTimeout_at k _
    ⟨fun a e => hk (.inr (.inl (⟨a, by simp [e]⟩)))⟩
    ⟨fun a b e => hk (.inr (.inr (⟨a, b, by simp [e]⟩)))⟩
    ⟨fun a e => hk (.inr (.inl (⟨a, by simp [e]⟩)))⟩
    ⟨fun a e => hk (.inr (.inl (⟨a, by simp [e]⟩)))⟩
    ⟨fun a e => hk (.inr (.inl (⟨a, by simp [e]⟩)))⟩
    ⟨fun a e => hk (.inr (.inl (⟨a, by simp [e]⟩)))⟩
    ⟨fun a e => hk (.inr (.inl (⟨a, by simp [e]⟩)))⟩
    ⟨fun a e => hk (.inr (.inl (⟨a, by simp [e]⟩)))⟩
    ⟨fun e => hk (.inl (by simp [e]))⟩
    ⟨fun a e => hk (.inr (.inl (⟨a, by simp [e]⟩)))⟩
    ⟨fun a b e => hk (.inr (.inr (⟨a, b, by simp [e]⟩)))⟩
    ⟨fun a e => hk (.inr (.inl (⟨a, by simp [e]⟩)))⟩
    ⟨fun a e => hk (.inr (.inl (⟨a, by simp [e]⟩)))⟩
    ⟨fun a e => hk (.inr (.inl (⟨a, by simp [e]⟩)))⟩
    ⟨fun e => hk (.inl (by simp [e]))⟩
    ⟨fun a e => hk (.inr (.inl (⟨a, by simp [e]⟩)))⟩
    ⟨fun a b e => hk (.inr (.inr (⟨a, b, by simp [e]⟩)))⟩
    ⟨fun a e => hk (.inr (.inl (⟨a, by simp [e]⟩)))⟩
    ⟨fun a e => hk (.inr (.inl (⟨a, by simp [e]⟩)))⟩
    ⟨fun a e => hk (.inr (.inl (⟨a, by simp [e]⟩)))⟩
    ⟨fun e => hk (.inl (by simp [e]))⟩
    ⟨fun a e => hk (.inr (.inl (⟨a, by simp [e]⟩)))⟩ s (At.self s)) he

theorem safeEntriesExpire_writes {s nx : State} (he : exec (.safeEntriesExpire) s = .next nx) : ObjsKept (writes (.safeEntriesExpire)) s nx := fun k hk =>
  kept_of_outAt (@execSafeEntriesExpire_at k _
    ⟨fun e => hk (by show _ ∈ _; simp [e])⟩ s (At.self s)) he

theorem ledgerMirror_writes {s nx : State} (he : exec (.ledgerMirror) s = .next nx) : ObjsKept (writes (.ledgerMirror)) s nx := fun k _ =>
  kept_of_outAt (@execLedgerMirror_at k _ s (At.self s)) he

theorem ledgerMirrorDone_writes {s nx : State} (he : exec (.ledgerMirrorDone) s = .next nx) : ObjsKept (writes (.ledgerMirrorDone)) s nx := fun k hk =>
  kept_of_outAt (@execLedgerMirrorDone_at k _
    ⟨fun e => hk (by show _ ∈ _; simp [e])⟩ s (At.self s)) he

theorem ledgerBandCopy_writes {s nx : State} (he : exec (.ledgerBandCopy) s = .next nx) : ObjsKept (writes (.ledgerBandCopy)) s nx := fun k _ =>
  kept_of_outAt (@execLedgerBandCopy_at k _ s (At.self s)) he

theorem linkTrainingDone_writes {i_p i_speed i_width} {s nx : State} (he : exec (.linkTrainingDone i_p i_speed i_width) s = .next nx) : ObjsKept (writes (.linkTrainingDone i_p i_speed i_width)) s nx := fun k hk =>
  kept_of_outAt (@execLinkTrainingDone_at k _
    ⟨fun a e => hk (⟨a, by simp [e]⟩)⟩
    ⟨fun a e => hk (⟨a, by simp [e]⟩)⟩ i_p i_speed i_width s (At.self s)) he

theorem tapInstruction_writes {i_ins} {s nx : State} (he : exec (.tapInstruction i_ins) s = .next nx) : ObjsKept (writes (.tapInstruction i_ins)) s nx := fun k _ =>
  kept_of_outAt (@execTapInstruction_at k _ i_ins s (At.self s)) he

theorem dynamicAddressAssignment_writes {i_addr} {s nx : State} (he : exec (.dynamicAddressAssignment i_addr) s = .next nx) : ObjsKept (writes (.dynamicAddressAssignment i_addr)) s nx := fun k hk =>
  kept_of_outAt (@execDynamicAddressAssignment_at k _
    ⟨fun e => hk (by show _ ∈ _; simp [e])⟩ i_addr s (At.self s)) he

theorem preampFaultRelease_writes {i_a} {s nx : State} (he : exec (.preampFaultRelease i_a) s = .next nx) : ObjsKept (writes (.preampFaultRelease i_a)) s nx := fun k _ =>
  kept_of_outAt (@execPreampFaultRelease_at k _ i_a s (At.self s)) he

theorem bolhobaUnknownOpcode_writes {i_h i_pen i_version i_opcode} {s nx : State} (he : exec (.bolhobaUnknownOpcode i_h i_pen i_version i_opcode) s = .next nx) : ObjsKept (writes (.bolhobaUnknownOpcode i_h i_pen i_version i_opcode)) s nx := fun k _ =>
  kept_of_outAt (@execBolhobaUnknownOpcode_at k _ i_h i_pen i_version i_opcode s (At.self s)) he

theorem cqHeadDoorbell_writes {i_p i_qid i_head} {s nx : State} (he : exec (.cqHeadDoorbell i_p i_qid i_head) s = .next nx) : ObjsKept (writes (.cqHeadDoorbell i_p i_qid i_head)) s nx := fun k hk =>
  kept_of_outAt (@execCqHeadDoorbell_at k _
    ⟨fun a e => hk (.inr (⟨a, by simp [e]⟩))⟩
    ⟨fun a e => hk (.inr (⟨a, by simp [e]⟩))⟩
    ⟨fun a e => hk (.inr (⟨a, by simp [e]⟩))⟩
    ⟨fun e => hk (.inl (by simp [e]))⟩
    ⟨fun a e => hk (.inr (⟨a, by simp [e]⟩))⟩
    ⟨fun e => hk (.inl (by simp [e]))⟩ i_p i_qid i_head s (At.self s)) he

theorem fabricAck_writes {i_lane i_requester i_beats} {s nx : State} (he : exec (.fabricAck i_lane i_requester i_beats) s = .next nx) : ObjsKept (writes (.fabricAck i_lane i_requester i_beats)) s nx := fun k hk =>
  kept_of_outAt (@execFabricAck_at k _
    ⟨fun a e => hk (⟨a, by simp [e]⟩)⟩
    ⟨fun a e => hk (⟨a, by simp [e]⟩)⟩
    ⟨fun a e => hk (⟨a, by simp [e]⟩)⟩
    ⟨fun a e => hk (⟨a, by simp [e]⟩)⟩
    ⟨fun a e => hk (⟨a, by simp [e]⟩)⟩
    ⟨fun a e => hk (⟨a, by simp [e]⟩)⟩
    ⟨fun a e => hk (⟨a, by simp [e]⟩)⟩
    ⟨fun a e => hk (⟨a, by simp [e]⟩)⟩ i_lane i_requester i_beats s (At.self s)) he

theorem supersededPageProgrammed_writes {s nx : State} (he : exec (.supersededPageProgrammed) s = .next nx) : ObjsKept (writes (.supersededPageProgrammed)) s nx := fun k _ =>
  kept_of_outAt (@execSupersededPageProgrammed_at k _ s (At.self s)) he

theorem reservationStateWritten_writes {i_ns} {s nx : State} (he : exec (.reservationStateWritten i_ns) s = .next nx) : ObjsKept (writes (.reservationStateWritten i_ns)) s nx := fun k hk =>
  kept_of_outAt (@execReservationStateWritten_at k _
    ⟨fun a e => hk (.inr (⟨a, by simp [e]⟩))⟩
    ⟨fun a e => hk (.inr (⟨a, by simp [e]⟩))⟩
    ⟨fun e => hk (.inl (by simp [e]))⟩
    ⟨fun e => hk (.inl (by simp [e]))⟩
    ⟨fun a e => hk (.inr (⟨a, by simp [e]⟩))⟩
    ⟨fun e => hk (.inl (by simp [e]))⟩
    ⟨fun e => hk (.inl (by simp [e]))⟩
    ⟨fun a e => hk (.inr (⟨a, by simp [e]⟩))⟩
    ⟨fun e => hk (.inl (by simp [e]))⟩ i_ns s (At.self s)) he

end Sys2Proof.Machine
end

