-- ==== Sys2Proof/Tests/Slice0.lean ====
section
/-!
SUPPORT. Tests of the model: an ill-formed command for every check of WellFormed.lean, single steps with results worked out by hand from the
rules, and for every statement concrete states and operands that meet its hypotheses, clause by clause.
-/

namespace Sys2Proof.Machine

set_option maxRecDepth 100000
set_option Elab.async false

/-! ### Well-formed commands, and the ill-formed ones that each check refuses -/

theorem test_wellformed_1 :
    Instr.wf (.throttleEnter 0) = true ∧ Instr.wf (.throttleEnter (2 ^ 15)) = false ∧ Instr.wf (.throttleEnter (-(2 ^ 15) - 1)) = false ∧
    Instr.wf (.throttleExit 0) = true ∧ Instr.wf (.throttleExit (2 ^ 15)) = false ∧ Instr.wf (.throttleExit (-(2 ^ 15) - 1)) = false ∧
    Instr.wf (.thermalShutdown 0) = true ∧ Instr.wf (.thermalShutdown (2 ^ 15)) = false ∧ Instr.wf (.thermalShutdown (-(2 ^ 15) - 1)) = false ∧
    Instr.wf (.powerCapWrite .mbus 0) = true ∧ Instr.wf (.powerCapWrite .mbus (2 ^ 8)) = false ∧ Instr.wf (.vcoreSteer 0) = true ∧
    Instr.wf (.vcoreSteer (2 ^ 16)) = false ∧ Instr.wf (.writeUnsafe 0 .position 0) = true ∧
    Instr.wf (.writeUnsafe 0 .position (2 ^ 18)) = false ∧ Instr.wf (.gateEntryExecute 0 0 []) = true ∧
    Instr.wf (.gateEntryExecute 0 (2 ^ 18) []) = false ∧ Instr.wf (.gateEntryExecute 0 0 [(64, 0, 0)]) = false ∧
    Instr.wf (.gateEntryExecute 0 0 [(-65, 0, 0)]) = false ∧ Instr.wf (.gateEntryExecute 0 0 [(0, 64, 0)]) = false ∧
    Instr.wf (.gateEntryExecute 0 0 [(0, 0, -65)]) = false ∧ Instr.wf (.dictionaryGet 0) = true ∧ Instr.wf (.dictionaryGet 1024) = false ∧
    Instr.wf (.dictionarySet 0 []) = true ∧ Instr.wf (.dictionarySet 1024 []) = false ∧ Instr.wf (.dictionarySetList 0 []) = true ∧
    Instr.wf (.dictionarySetList 1024 []) = false ∧ Instr.wf (.dictionaryBlockRead 0) = true ∧ Instr.wf (.dictionaryBlockRead 1024) = false ∧
    Instr.wf (.dictionaryListRead 0) = true ∧ Instr.wf (.dictionaryListRead 1024) = false := by decide +kernel

theorem test_wellformed_2 :
    Instr.wf (.bolhobaGet ⟨.mbus, 0, 0, 0, true⟩) = true ∧ Instr.wf (.bolhobaGet ⟨.mbus, 256, 0, 0, true⟩) = false ∧
    Instr.wf (.bolhobaGet ⟨.mbus, 0, 65536, 0, true⟩) = false ∧ Instr.wf (.bolhobaGet ⟨.mbus, 0, 0, 256, true⟩) = false ∧
    Instr.wf (.bolhobaSet ⟨.mbus, 0, 0, 0, true⟩ 0 0 []) = true ∧ Instr.wf (.bolhobaSet ⟨.mbus, 256, 0, 0, true⟩ 0 0 []) = false ∧
    Instr.wf (.bolhobaSet ⟨.mbus, 0, 65536, 0, true⟩ 0 0 []) = false ∧ Instr.wf (.bolhobaSet ⟨.mbus, 0, 0, 256, true⟩ 0 0 []) = false ∧
    Instr.wf (.bolhobaSet ⟨.mbus, 0, 0, 0, true⟩ (2 ^ 8) 0 []) = false ∧ Instr.wf (.bolhobaSet ⟨.mbus, 0, 0, 0, true⟩ 0 (2 ^ 16) []) = false ∧
    Instr.wf (.bolhobaListGet ⟨.mbus, 0, 0, 0, true⟩ []) = true ∧ Instr.wf (.bolhobaListGet ⟨.mbus, 256, 0, 0, true⟩ []) = false ∧
    Instr.wf (.bolhobaListGet ⟨.mbus, 0, 65536, 0, true⟩ []) = false ∧ Instr.wf (.bolhobaListGet ⟨.mbus, 0, 0, 256, true⟩ []) = false ∧
    Instr.wf (.bolhobaListGet ⟨.mbus, 0, 0, 0, true⟩ [(65536, 0)]) = false ∧
    Instr.wf (.bolhobaListGet ⟨.mbus, 0, 0, 0, true⟩ [(0, 256)]) = false ∧ Instr.wf (.bolhobaListSet ⟨.mbus, 0, 0, 0, true⟩ []) = true ∧
    Instr.wf (.bolhobaListSet ⟨.mbus, 256, 0, 0, true⟩ []) = false ∧ Instr.wf (.bolhobaListSet ⟨.mbus, 0, 65536, 0, true⟩ []) = false ∧
    Instr.wf (.bolhobaListSet ⟨.mbus, 0, 0, 256, true⟩ []) = false ∧
    Instr.wf (.bolhobaListSet ⟨.mbus, 0, 0, 0, true⟩ [⟨65536, 0, 0, 0, []⟩]) = false ∧
    Instr.wf (.bolhobaListSet ⟨.mbus, 0, 0, 0, true⟩ [⟨0, 256, 0, 0, []⟩]) = false ∧
    Instr.wf (.bolhobaListSet ⟨.mbus, 0, 0, 0, true⟩ [⟨0, 0, 256, 0, []⟩]) = false ∧
    Instr.wf (.bolhobaListSet ⟨.mbus, 0, 0, 0, true⟩ [⟨0, 0, 0, 65536, []⟩]) = false ∧
    Instr.wf (.bolhobaBlockRead ⟨.mbus, 0, 0, 0, true⟩ 0 0) = true ∧ Instr.wf (.bolhobaBlockRead ⟨.mbus, 256, 0, 0, true⟩ 0 0) = false ∧
    Instr.wf (.bolhobaBlockRead ⟨.mbus, 0, 65536, 0, true⟩ 0 0) = false ∧ Instr.wf (.bolhobaBlockRead ⟨.mbus, 0, 0, 256, true⟩ 0 0) = false ∧
    Instr.wf (.bolhobaBlockRead ⟨.mbus, 0, 0, 0, true⟩ (2 ^ 32) 0) = false ∧
    Instr.wf (.bolhobaBlockRead ⟨.mbus, 0, 0, 0, true⟩ 0 (2 ^ 16)) = false ∧
    Instr.wf (.bolhobaBlockWrite ⟨.mbus, 0, 0, 0, true⟩ 0 true []) = true ∧
    Instr.wf (.bolhobaBlockWrite ⟨.mbus, 256, 0, 0, true⟩ 0 true []) = false ∧
    Instr.wf (.bolhobaBlockWrite ⟨.mbus, 0, 65536, 0, true⟩ 0 true []) = false ∧
    Instr.wf (.bolhobaBlockWrite ⟨.mbus, 0, 0, 256, true⟩ 0 true []) = false ∧
    Instr.wf (.bolhobaBlockWrite ⟨.mbus, 0, 0, 0, true⟩ (2 ^ 32) true []) = false ∧
    Instr.wf (.bolhobaBlockWrite ⟨.mbus, 0, 0, 0, true⟩ 0 true (List.replicate 961 0)) = false ∧ Instr.wf (.windowRead 0 0 4) = true ∧
    Instr.wf (.windowRead 0 (2 ^ 32) 4) = false ∧ Instr.wf (.windowRead 0 0 3) = false ∧ Instr.wf (.windowRead 0 0 16) = false ∧
    Instr.wf (.windowWrite 0 0 4 0) = true ∧ Instr.wf (.windowWrite 0 (2 ^ 32) 4 0) = false ∧ Instr.wf (.windowWrite 0 0 3 0) = false ∧
    Instr.wf (.windowWrite 0 0 16 0) = false ∧ Instr.wf (.windowWrite 0 0 4 (2 ^ 32)) = false ∧ Instr.wf (.blobStagingAbandon 0 0) = true ∧
    Instr.wf (.blobStagingAbandon (2 ^ 16) 0) = false ∧ Instr.wf (.blobStagingAbandon 0 (2 ^ 8)) = false ∧ Instr.wf (.store .mbus 0) = true ∧
    Instr.wf (.store .mbus (2 ^ 8)) = false ∧ Instr.wf (.restoreDefaults .mbus 0) = true ∧ Instr.wf (.restoreDefaults .mbus (2 ^ 8)) = false ∧
    Instr.wf (.unitDisable .mbus 0) = true ∧ Instr.wf (.unitDisable .mbus (2 ^ 16)) = false := by decide +kernel

theorem test_wellformed_3 :
    Instr.wf (.unitEnable .mbus 0 true) = true ∧ Instr.wf (.unitEnable .mbus (2 ^ 16) true) = false ∧ Instr.wf (.unitQuiesced 0) = true ∧
    Instr.wf (.unitQuiesced (2 ^ 16)) = false ∧ Instr.wf (.objectWrite .mbus 0 0 0 0 []) = true ∧
    Instr.wf (.objectWrite .mbus (2 ^ 16) 0 0 0 []) = false ∧ Instr.wf (.objectWrite .mbus 0 (2 ^ 8) 0 0 []) = false ∧
    Instr.wf (.objectWrite .mbus 0 0 (2 ^ 8) 0 []) = false ∧ Instr.wf (.objectWrite .mbus 0 0 0 (2 ^ 16) []) = false ∧
    Instr.wf (.startStepEnd .passed {}) = true ∧ Instr.wf (.startStepEnd .passed { actuators := 16 }) = false ∧
    Instr.wf (.startStepEnd .passed { ports := 4 }) = false ∧ Instr.wf (.startStepEnd .passed { detail := 2 ^ 32 }) = false ∧
    Instr.wf (.startStepEnd .passed { measured := 2 ^ 32 }) = false ∧ Instr.wf (.startStepEnd .passed { ids := [[], [], [], [], []] }) = false ∧
    Instr.wf (.startStepEnd .passed { heads := [0, 0, 0, 0, 0] }) = false ∧
    Instr.wf (.startStepEnd .passed { coils := [0, 0, 0, 0, 0] }) = false ∧ Instr.wf (.startStepEnd .passed { failedUnits := [1152] }) = false ∧
    Instr.wf (.startStepEnd .passed { badGenerations := [6] }) = false ∧
    Instr.wf (.startStepEnd .passed { repairs := [⟨448, false, 0⟩] }) = false ∧ Instr.wf (.stepWatchdog {}) = true ∧
    Instr.wf (.stepWatchdog { actuators := 16 }) = false ∧ Instr.wf (.stepWatchdog { ports := 4 }) = false ∧
    Instr.wf (.stepWatchdog { detail := 2 ^ 32 }) = false ∧ Instr.wf (.stepWatchdog { measured := 2 ^ 32 }) = false ∧
    Instr.wf (.stepWatchdog { ids := [[], [], [], [], []] }) = false ∧ Instr.wf (.stepWatchdog { heads := [0, 0, 0, 0, 0] }) = false ∧
    Instr.wf (.stepWatchdog { coils := [0, 0, 0, 0, 0] }) = false ∧ Instr.wf (.stepWatchdog { failedUnits := [1152] }) = false ∧
    Instr.wf (.stepWatchdog { badGenerations := [6] }) = false ∧ Instr.wf (.stepWatchdog { repairs := [⟨448, false, 0⟩] }) = false ∧
    Instr.wf (.firmwareImageDownload 0 []) = true ∧ Instr.wf (.firmwareImageDownload 1024 []) = false ∧
    Instr.wf (.firmwareImageDownload 0 [1]) = false ∧ Instr.wf (.firmwareCommitReplace 0) = true ∧
    Instr.wf (.firmwareCommitReplace 1024) = false ∧ Instr.wf (.firmwareCommitReplaceActivate 0) = true ∧
    Instr.wf (.firmwareCommitReplaceActivate 1024) = false ∧ Instr.wf (.firmwareCommitActivate 0) = true ∧
    Instr.wf (.firmwareCommitActivate 1024) = false ∧ Instr.wf (.firmwareCommitActivateNow 0) = true ∧
    Instr.wf (.firmwareCommitActivateNow 1024) = false ∧ Instr.wf (.firmwareCommitInvalidAction 0) = true ∧
    Instr.wf (.firmwareCommitInvalidAction 1024) = false ∧ Instr.wf (.bundleStageLast .mbus 0 []) = true ∧
    Instr.wf (.bundleStageLast .mbus (2 ^ 32) []) = false := by decide +kernel

theorem test_wellformed_4 :
    Instr.wf (.recoveryImageLast .mbus 0 []) = true ∧ Instr.wf (.recoveryImageLast .mbus (2 ^ 32) []) = false ∧
    Instr.wf (.ownerKeyWrite .mbus 0 []) = true ∧ Instr.wf (.ownerKeyWrite .mbus (2 ^ 32) []) = false ∧
    Instr.wf (.certChainWrite .mbus 0 0 []) = true ∧ Instr.wf (.certChainWrite .mbus 0 (2 ^ 32) []) = false ∧
    Instr.wf (.spdmGetCapabilities .mctp []) = true ∧ Instr.wf (.spdmGetCapabilities .mctp (List.replicate 65536 0)) = false ∧
    Instr.wf (.spdmNegotiateAlgorithms .mctp []) = true ∧ Instr.wf (.spdmNegotiateAlgorithms .mctp (List.replicate 65536 0)) = false ∧
    Instr.wf (.spdmGetCertificate .mctp 0 0 0) = true ∧ Instr.wf (.spdmGetCertificate .mctp (2 ^ 8) 0 0) = false ∧
    Instr.wf (.spdmGetCertificate .mctp 0 (2 ^ 16) 0) = false ∧ Instr.wf (.spdmGetCertificate .mctp 0 0 (2 ^ 16)) = false ∧
    Instr.wf (.spdmChallenge .mctp 0 0 (List.replicate 32 0)) = true ∧ Instr.wf (.spdmChallenge .mctp (2 ^ 8) 0 (List.replicate 32 0)) = false ∧
    Instr.wf (.spdmChallenge .mctp 0 (2 ^ 8) (List.replicate 32 0)) = false ∧
    Instr.wf (.spdmChallenge .mctp 0 0 (List.replicate 33 0)) = false ∧
    Instr.wf (.spdmGetMeasurements .mctp 0 0 0 (List.replicate 32 0)) = true ∧
    Instr.wf (.spdmGetMeasurements .mctp (2 ^ 8) 0 0 (List.replicate 32 0)) = false ∧
    Instr.wf (.spdmGetMeasurements .mctp 0 (2 ^ 8) 0 (List.replicate 32 0)) = false ∧
    Instr.wf (.spdmGetMeasurements .mctp 0 0 (2 ^ 8) (List.replicate 32 0)) = false ∧
    Instr.wf (.spdmGetMeasurements .mctp 0 0 0 (List.replicate 33 0)) = false ∧ Instr.wf (.sanitize 0 .cryptoErase) = true ∧
    Instr.wf (.sanitize 1024 .cryptoErase) = false ∧ Instr.wf (.formatNvm 0) = true ∧ Instr.wf (.formatNvm 1024) = false ∧
    Instr.wf (.grownEntryCommit 0 (List.replicate 16 0)) = true ∧ Instr.wf (.grownEntryCommit 0 (List.replicate 17 0)) = false ∧
    Instr.wf (.servoSync 0 0 0 0) = true ∧ Instr.wf (.servoSync 0 600 0 0) = false ∧ Instr.wf (.servoSync 0 0 (2 ^ 24) 0) = false ∧
    Instr.wf (.servoSync 0 0 0 (2 ^ 15)) = false ∧ Instr.wf (.servoSync 0 0 0 (-(2 ^ 15) - 1)) = false := by decide +kernel

theorem test_wellformed_5 :
    Instr.wf (.thermalAsperity 0 []) = true ∧ Instr.wf (.thermalAsperity 0 [(64, 0, 0)]) = false ∧
    Instr.wf (.thermalAsperity 0 [(-65, 0, 0)]) = false ∧ Instr.wf (.thermalAsperity 0 [(0, 64, 0)]) = false ∧
    Instr.wf (.thermalAsperity 0 [(0, 0, -65)]) = false ∧ Instr.wf (.dropDetect 0 []) = true ∧ Instr.wf (.dropDetect 0 [(64, 0, 0)]) = false ∧
    Instr.wf (.dropDetect 0 [(-65, 0, 0)]) = false ∧ Instr.wf (.dropDetect 0 [(0, 64, 0)]) = false ∧
    Instr.wf (.dropDetect 0 [(0, 0, -65)]) = false ∧ Instr.wf (.freezeHangoverEnd 0 []) = true ∧
    Instr.wf (.freezeHangoverEnd 0 [(64, 0, 0)]) = false ∧ Instr.wf (.freezeHangoverEnd 0 [(-65, 0, 0)]) = false ∧
    Instr.wf (.freezeHangoverEnd 0 [(0, 64, 0)]) = false ∧ Instr.wf (.freezeHangoverEnd 0 [(0, 0, -65)]) = false ∧
    Instr.wf (.longFreeze 0 []) = true ∧ Instr.wf (.longFreeze 0 [(64, 0, 0)]) = false ∧ Instr.wf (.longFreeze 0 [(-65, 0, 0)]) = false ∧
    Instr.wf (.longFreeze 0 [(0, 64, 0)]) = false ∧ Instr.wf (.longFreeze 0 [(0, 0, -65)]) = false ∧
    Instr.wf (.syncWindowEnd 0 true []) = true ∧ Instr.wf (.syncWindowEnd 0 true [(64, 0, 0)]) = false ∧
    Instr.wf (.syncWindowEnd 0 true [(-65, 0, 0)]) = false ∧ Instr.wf (.syncWindowEnd 0 true [(0, 64, 0)]) = false ∧
    Instr.wf (.syncWindowEnd 0 true [(0, 0, -65)]) = false ∧ Instr.wf (.captureEnd 0 []) = true ∧
    Instr.wf (.captureEnd 0 [(64, 0, 0)]) = false ∧ Instr.wf (.captureEnd 0 [(-65, 0, 0)]) = false ∧
    Instr.wf (.captureEnd 0 [(0, 64, 0)]) = false ∧ Instr.wf (.captureEnd 0 [(0, 0, -65)]) = false ∧
    Instr.wf (.writePayloadPoisoned 0 0) = true ∧ Instr.wf (.writePayloadPoisoned 0 (2 ^ 10)) = false ∧
    Instr.wf (.detectorPassDone 0 0 .clean) = true ∧ Instr.wf (.detectorPassDone 0 0 (.corrected 448 0)) = false ∧
    Instr.wf (.detectorPassDone 0 0 (.corrected 0 65536)) = false ∧ Instr.wf (.ldpcIterationDone 0 0 .clean) = true ∧
    Instr.wf (.ldpcIterationDone 0 0 (.corrected 448 0)) = false ∧ Instr.wf (.ldpcIterationDone 0 0 (.corrected 0 65536)) = false ∧
    Instr.wf (.preampFrameDone 0 0 true) = true ∧ Instr.wf (.preampFrameDone 0 (2 ^ 32) true) = false ∧ Instr.wf (.ringTailWrite 0 0) = true ∧
    Instr.wf (.ringTailWrite 0 (2 ^ 16)) = false ∧ Instr.wf (.ladderStepAdvance 0 0 0 0 0 .recovered) = true ∧
    Instr.wf (.ladderStepAdvance 0 (2 ^ 24) 0 0 0 .recovered) = false ∧ Instr.wf (.ladderStepAdvance 0 0 (2 ^ 16) 0 0 .recovered) = false ∧
    Instr.wf (.ladderStepAdvance 0 0 0 6 0 .recovered) = false ∧ Instr.wf (.ladderStepAdvance 0 0 0 0 (2 ^ 64) .recovered) = false := by decide +kernel

theorem test_wellformed_6 :
    Instr.wf (.sentenceLoad 0 0 0) = true ∧ Instr.wf (.sentenceLoad 0 0 (2 ^ 64)) = false ∧ Instr.wf (.playerAbort 0 0 0) = true ∧
    Instr.wf (.playerAbort 0 0 (2 ^ 8)) = false ∧ Instr.wf (.clauseWaitMet 0 0 0) = true ∧ Instr.wf (.clauseWaitMet 0 600 0) = false ∧
    Instr.wf (.snapRequest .mbus 0 0) = true ∧ Instr.wf (.snapRequest .mbus 0 (2 ^ 8)) = false ∧ Instr.wf (.inject .mbus 0 0) = true ∧
    Instr.wf (.inject .mbus 0 (2 ^ 8)) = false ∧ Instr.wf (.traceArm .mbus 0 0) = true ∧ Instr.wf (.traceArm .mbus 0 (2 ^ 8)) = false ∧
    Instr.wf (.traceForce .mbus 0 0) = true ∧ Instr.wf (.traceForce .mbus 0 (2 ^ 8)) = false ∧ Instr.wf (.heartbeat 0) = true ∧
    Instr.wf (.heartbeat (2 ^ 16)) = false ∧ Instr.wf (.vcmCmd 0 0 0) = true ∧ Instr.wf (.vcmCmd 0 (2 ^ 31) 0) = false ∧
    Instr.wf (.vcmCmd 0 (-(2 ^ 31) - 1) 0) = false ∧ Instr.wf (.vcmCmd 0 0 (2 ^ 31)) = false ∧ Instr.wf (.vcmCmd 0 0 (-(2 ^ 31) - 1)) = false ∧
    Instr.wf (.spinCmd 0) = true ∧ Instr.wf (.spinCmd (2 ^ 31)) = false ∧ Instr.wf (.spinCmd (-(2 ^ 31) - 1)) = false ∧
    Instr.wf (.driveMsg .brake) = true ∧ Instr.wf (.driveMsg (.target 65536)) = false ∧ Instr.wf (.linkObject .mbus 0x6000 0 none) = true ∧
    Instr.wf (.linkObject .mbus 0x5FFF 0 none) = false ∧ Instr.wf (.linkObject .mbus 0x6100 0 none) = false ∧
    Instr.wf (.linkObject .mbus 0x6000 (2 ^ 8) none) = false := by decide +kernel

theorem test_wellformed_7 :
    Instr.wf (.senseMsg 0 0 0) = true ∧ Instr.wf (.senseMsg 0 (2 ^ 31) 0) = false ∧ Instr.wf (.senseMsg 0 (-(2 ^ 31) - 1) 0) = false ∧
    Instr.wf (.senseMsg 0 0 (2 ^ 31)) = false ∧ Instr.wf (.senseMsg 0 0 (-(2 ^ 31) - 1)) = false ∧ Instr.wf (.zeroCross 0 0) = true ∧
    Instr.wf (.zeroCross 3 0) = false ∧ Instr.wf (.linkStatus 0 0) = true ∧ Instr.wf (.linkStatus (2 ^ 16) 0) = false ∧
    Instr.wf (.linkStatus 0 (2 ^ 15)) = false ∧ Instr.wf (.linkStatus 0 (-(2 ^ 15) - 1)) = false ∧ Instr.wf (.retractParked 0 0) = true ∧
    Instr.wf (.retractParked 0 (2 ^ 16)) = false ∧ Instr.wf (.dumpSealed 0 0) = true ∧ Instr.wf (.dumpSealed (2 ^ 32) 0) = false ∧
    Instr.wf (.dumpSealed 0 (2 ^ 16)) = false ∧ Instr.wf (.girthSync { origin := 0, hops := 0 } 0 0 0 true true true) = true ∧
    Instr.wf (.girthSync { origin := 1024, hops := 0 } 0 0 0 true true true) = false ∧
    Instr.wf (.girthSync { origin := 0, hops := 1024 } 0 0 0 true true true) = false ∧
    Instr.wf (.girthSync { origin := 0, hops := 0 } (2 ^ 54) 0 0 true true true) = false ∧
    Instr.wf (.girthSync { origin := 0, hops := 0 } 0 (2 ^ 10) 0 true true true) = false ∧
    Instr.wf (.girthSync { origin := 0, hops := 0 } 0 0 (2 ^ 16) true true true) = false ∧
    Instr.wf (.girthPhase { origin := 0, hops := 0 } 0 0) = true ∧ Instr.wf (.girthPhase { origin := 1024, hops := 0 } 0 0) = false ∧
    Instr.wf (.girthPhase { origin := 0, hops := 1024 } 0 0) = false ∧ Instr.wf (.girthPhase { origin := 0, hops := 0 } (2 ^ 16) 0) = false ∧
    Instr.wf (.girthPhase { origin := 0, hops := 0 } 0 16) = false ∧ Instr.wf (.girthSeek { origin := 0, hops := 0 } 0 0 0 0 0) = true ∧
    Instr.wf (.girthSeek { origin := 1024, hops := 0 } 0 0 0 0 0) = false ∧
    Instr.wf (.girthSeek { origin := 0, hops := 1024 } 0 0 0 0 0) = false ∧
    Instr.wf (.girthSeek { origin := 0, hops := 0 } (2 ^ 32) 0 0 0 0) = false ∧
    Instr.wf (.girthSeek { origin := 0, hops := 0 } 0 (2 ^ 16) 0 0 0) = false ∧
    Instr.wf (.girthSeek { origin := 0, hops := 0 } 0 0 0 (2 ^ 24) 0) = false ∧
    Instr.wf (.girthSeek { origin := 0, hops := 0 } 0 0 0 (-(2 ^ 24) - 1) 0) = false ∧
    Instr.wf (.girthSeek { origin := 0, hops := 0 } 0 0 0 0 (2 ^ 8)) = false ∧
    Instr.wf (.girthHealth { origin := 0, hops := 0 } (List.replicate 11 0)) = true ∧
    Instr.wf (.girthHealth { origin := 1024, hops := 0 } (List.replicate 11 0)) = false ∧
    Instr.wf (.girthHealth { origin := 0, hops := 1024 } (List.replicate 11 0)) = false ∧
    Instr.wf (.girthHealth { origin := 0, hops := 0 } (List.replicate 12 0)) = false ∧
    Instr.wf (.girthDictGet { origin := 0, hops := 0 } 0 0 0 0) = true ∧
    Instr.wf (.girthDictGet { origin := 1024, hops := 0 } 0 0 0 0) = false ∧
    Instr.wf (.girthDictGet { origin := 0, hops := 1024 } 0 0 0 0) = false ∧
    Instr.wf (.girthDictGet { origin := 0, hops := 0 } (2 ^ 10) 0 0 0) = false ∧
    Instr.wf (.girthDictGet { origin := 0, hops := 0 } 0 (2 ^ 8) 0 0) = false ∧
    Instr.wf (.girthDictGet { origin := 0, hops := 0 } 0 0 (2 ^ 16) 0) = false ∧
    Instr.wf (.girthDictGet { origin := 0, hops := 0 } 0 0 0 (2 ^ 8)) = false ∧
    Instr.wf (.girthDictSet { origin := 0, hops := 0 } 0 0 0 0 0) = true ∧
    Instr.wf (.girthDictSet { origin := 1024, hops := 0 } 0 0 0 0 0) = false ∧
    Instr.wf (.girthDictSet { origin := 0, hops := 1024 } 0 0 0 0 0) = false ∧
    Instr.wf (.girthDictSet { origin := 0, hops := 0 } (2 ^ 10) 0 0 0 0) = false ∧
    Instr.wf (.girthDictSet { origin := 0, hops := 0 } 0 (2 ^ 8) 0 0 0) = false ∧
    Instr.wf (.girthDictSet { origin := 0, hops := 0 } 0 0 (2 ^ 16) 0 0) = false ∧
    Instr.wf (.girthDictSet { origin := 0, hops := 0 } 0 0 0 (2 ^ 8) 0) = false ∧
    Instr.wf (.girthDictSet { origin := 0, hops := 0 } 0 0 0 0 (2 ^ 32)) = false ∧
    Instr.wf (.girthDictResponse { origin := 0, hops := 0 } 0 0 0 0 0 0) = true ∧
    Instr.wf (.girthDictResponse { origin := 1024, hops := 0 } 0 0 0 0 0 0) = false ∧
    Instr.wf (.girthDictResponse { origin := 0, hops := 1024 } 0 0 0 0 0 0) = false ∧
    Instr.wf (.girthDictResponse { origin := 0, hops := 0 } (2 ^ 10) 0 0 0 0 0) = false ∧
    Instr.wf (.girthDictResponse { origin := 0, hops := 0 } 0 (2 ^ 8) 0 0 0 0) = false ∧
    Instr.wf (.girthDictResponse { origin := 0, hops := 0 } 0 0 (2 ^ 16) 0 0 0) = false ∧
    Instr.wf (.girthDictResponse { origin := 0, hops := 0 } 0 0 0 (2 ^ 8) 0 0) = false ∧
    Instr.wf (.girthDictResponse { origin := 0, hops := 0 } 0 0 0 0 (2 ^ 8) 0) = false ∧
    Instr.wf (.girthDictResponse { origin := 0, hops := 0 } 0 0 0 0 0 (2 ^ 32)) = false := by decide +kernel

theorem test_wellformed_8 :
    Instr.wf (.girthUnknownType { origin := 0, hops := 0 } 6 0) = true ∧
    Instr.wf (.girthUnknownType { origin := 1024, hops := 0 } 6 0) = false ∧
    Instr.wf (.girthUnknownType { origin := 0, hops := 1024 } 6 0) = false ∧
    Instr.wf (.girthUnknownType { origin := 0, hops := 0 } 5 0) = false ∧
    Instr.wf (.girthUnknownType { origin := 0, hops := 0 } (2 ^ 8) 0) = false ∧
    Instr.wf (.girthUnknownType { origin := 0, hops := 0 } 6 (2 ^ 84)) = false ∧ Instr.wf (.sqDoorbell .a 0 0) = true ∧
    Instr.wf (.sqDoorbell .a (2 ^ 16) 0) = false ∧ Instr.wf (.sqDoorbell .a 0 (2 ^ 16)) = false ∧
    Instr.wf (.commandFetch .a 0 { opcode := 0, cid := 0 }) = true ∧ Instr.wf (.commandFetch .a (2 ^ 16) { opcode := 0, cid := 0 }) = false ∧
    Instr.wf (.commandFetch .a 0 { opcode := 256, cid := 0 }) = false ∧ Instr.wf (.commandFetch .a 0 { opcode := 0, cid := 65536 }) = false ∧
    Instr.wf (.commandFetch .a 0 { opcode := 0, cid := 0, nsid := 2 ^ 32 }) = false ∧
    Instr.wf (.commandFetch .a 0 { opcode := 0, cid := 0, prp := 2 ^ 64 }) = false ∧
    Instr.wf (.commandFetch .a 0 { opcode := 0, cid := 0, cdw10 := 2 ^ 32 }) = false ∧
    Instr.wf (.commandFetch .a 0 { opcode := 0, cid := 0, cdw11 := 2 ^ 32 }) = false ∧
    Instr.wf (.commandFetch .a 0 { opcode := 0, cid := 0, cdw12 := 2 ^ 32 }) = false ∧
    Instr.wf (.commandFetch .a 0 { opcode := 0, cid := 0, cdw13 := 2 ^ 32 }) = false ∧
    Instr.wf (.commandFetch .a 0 { opcode := 0, cid := 0, cdw14 := 2 ^ 32 }) = false ∧
    Instr.wf (.commandFetch .a 0 { opcode := 0, cid := 0, cdw15 := 2 ^ 32 }) = false ∧
    Instr.wf (.commandFetch .a 0 { opcode := 0, cid := 0, ranges := [(2 ^ 64, 0)] }) = false ∧
    Instr.wf (.commandFetch .a 0 { opcode := 0, cid := 0, ranges := [(0, 2 ^ 32)] }) = false ∧
    Instr.wf (.commandFetch .a 0 { opcode := 0, cid := 0, ranges := List.replicate 257 (0, 0) }) = false ∧ Instr.wf (.createIoSq 0) = true ∧
    Instr.wf (.createIoSq 1024) = false ∧ Instr.wf (.createIoCq 0) = true ∧ Instr.wf (.createIoCq 1024) = false ∧
    Instr.wf (.deleteIoSq 0) = true ∧ Instr.wf (.deleteIoSq 1024) = false ∧ Instr.wf (.deleteIoCq 0) = true ∧
    Instr.wf (.deleteIoCq 1024) = false ∧ Instr.wf (.getLogPage 0) = true ∧ Instr.wf (.getLogPage 1024) = false ∧
    Instr.wf (.identify 0) = true ∧ Instr.wf (.identify 1024) = false ∧ Instr.wf (.nvmeAbort 0) = true ∧ Instr.wf (.nvmeAbort 1024) = false ∧
    Instr.wf (.setFeatures 0) = true ∧ Instr.wf (.setFeatures 1024) = false ∧ Instr.wf (.setFeaturesPowerManagement 0) = true ∧
    Instr.wf (.setFeaturesPowerManagement 1024) = false := by decide +kernel

theorem test_wellformed_9 :
    Instr.wf (.setFeaturesErrorRecovery 0) = true ∧ Instr.wf (.setFeaturesErrorRecovery 1024) = false ∧ Instr.wf (.setFeaturesVwc 0) = true ∧
    Instr.wf (.setFeaturesVwc 1024) = false ∧ Instr.wf (.getFeatures 0) = true ∧ Instr.wf (.getFeatures 1024) = false ∧
    Instr.wf (.asyncEventRequest .a 0) = true ∧ Instr.wf (.asyncEventRequest .a (2 ^ 16)) = false ∧ Instr.wf (.namespaceCreate 0 0 0) = true ∧
    Instr.wf (.namespaceCreate 1024 0 0) = false ∧ Instr.wf (.namespaceCreate 0 (2 ^ 64) 0) = false ∧
    Instr.wf (.namespaceCreate 0 0 64) = false ∧ Instr.wf (.namespaceDelete 0) = true ∧ Instr.wf (.namespaceDelete 1024) = false ∧
    Instr.wf (.namespaceAttachment 0 []) = true ∧ Instr.wf (.namespaceAttachment 1024 []) = false ∧ Instr.wf (.securitySend 0 []) = true ∧
    Instr.wf (.securitySend 1024 []) = false ∧ Instr.wf (.securityReceive 0) = true ∧ Instr.wf (.securityReceive 1024) = false ∧
    Instr.wf (.getLbaStatus 0) = true ∧ Instr.wf (.getLbaStatus 1024) = false ∧ Instr.wf (.nvmeFlush 0) = true ∧
    Instr.wf (.nvmeFlush 1024) = false ∧ Instr.wf (.nvmeWrite 0 []) = true ∧ Instr.wf (.nvmeWrite 1024 []) = false ∧
    Instr.wf (.nvmeWrite 0 [⟨List.replicate 4095 0, []⟩]) = false ∧
    Instr.wf (.nvmeWrite 0 [⟨List.replicate 4096 0, List.replicate 9 0⟩]) = false := by decide +kernel

theorem test_wellformed_10 :
    Instr.wf (.nvmeRead 0 []) = true ∧ Instr.wf (.nvmeRead 1024 []) = false ∧ Instr.wf (.writeZeroes 0) = true ∧
    Instr.wf (.writeZeroes 1024) = false ∧ Instr.wf (.datasetManagement 0) = true ∧ Instr.wf (.datasetManagement 1024) = false ∧
    Instr.wf (.nvmeVerify 0 []) = true ∧ Instr.wf (.nvmeVerify 1024 []) = false ∧ Instr.wf (.reservationRegister 0 0 0) = true ∧
    Instr.wf (.reservationRegister 1024 0 0) = false ∧ Instr.wf (.reservationRegister 0 (2 ^ 64) 0) = false ∧
    Instr.wf (.reservationRegister 0 0 (2 ^ 64)) = false ∧ Instr.wf (.reservationReport 0) = true ∧ Instr.wf (.reservationReport 1024) = false ∧
    Instr.wf (.reservationAcquire 0 0 0) = true ∧ Instr.wf (.reservationAcquire 1024 0 0) = false ∧
    Instr.wf (.reservationAcquire 0 (2 ^ 64) 0) = false ∧ Instr.wf (.reservationAcquire 0 0 (2 ^ 64)) = false ∧
    Instr.wf (.reservationPreemptAndAbort 0 0 0) = true ∧ Instr.wf (.reservationPreemptAndAbort 1024 0 0) = false ∧
    Instr.wf (.reservationPreemptAndAbort 0 (2 ^ 64) 0) = false ∧ Instr.wf (.reservationPreemptAndAbort 0 0 (2 ^ 64)) = false ∧
    Instr.wf (.reservationRelease 0 0) = true ∧ Instr.wf (.reservationRelease 1024 0) = false ∧
    Instr.wf (.reservationRelease 0 (2 ^ 64)) = false ∧ Instr.wf (.invalidOpcode 0) = true ∧ Instr.wf (.invalidOpcode 1024) = false ∧
    Instr.wf (.writeCached 0) = true ∧ Instr.wf (.writeCached 1024) = false ∧ Instr.wf (.readTransferred 0) = true ∧
    Instr.wf (.readTransferred 1024) = false := by decide +kernel

theorem test_wellformed_11 :
    Instr.wf (.tlerExpire 0 0) = true ∧ Instr.wf (.tlerExpire 1024 0) = false ∧ Instr.wf (.tlerExpire 0 (2 ^ 64)) = false ∧
    Instr.wf (.mirrorRetry 0 true) = true ∧ Instr.wf (.mirrorRetry (2 ^ 32) true) = false ∧ Instr.wf (.retireSurface .mbus 0) = true ∧
    Instr.wf (.retireSurface .mbus (2 ^ 8)) = false ∧ Instr.wf (.grownDefectReadback 0 0 0 true true 0 0) = true ∧
    Instr.wf (.grownDefectReadback 0 (2 ^ 24) 0 true true 0 0) = false ∧ Instr.wf (.grownDefectReadback 0 0 (2 ^ 16) true true 0 0) = false ∧
    Instr.wf (.arbiterGrant []) = true ∧ Instr.wf (.arbiterGrant [{ requester := 0, address := 1 }]) = false ∧
    Instr.wf (.arbiterGrant [{ requester := 0, address := 2 ^ 40 }]) = false ∧
    Instr.wf (.arbiterGrant [{ requester := 0, address := 0, write := some [1] }]) = false ∧
    Instr.wf (.arbiterGrant [{ requester := 0, address := 0, ecc := .corrected 65536 }]) = false ∧ Instr.wf (.pageSubstitutionDone 0) = true ∧
    Instr.wf (.pageSubstitutionDone (2 ^ 32)) = false ∧ Instr.wf (.cacheFillReturn 0) = true ∧ Instr.wf (.cacheFillReturn (2 ^ 34)) = false ∧
    Instr.wf (.dmaGo .mbus 0 1) = true ∧ Instr.wf (.dmaGo .mbus 0 (2 ^ 32)) = false ∧ Instr.wf (.dmaGo .mbus 0 0) = false ∧
    Instr.wf (.dmaGo .mbus 0 3) = false ∧ Instr.wf (.dmaChainGo .mbus 0 3) = true ∧ Instr.wf (.dmaChainGo .mbus 0 (2 ^ 32)) = false ∧
    Instr.wf (.dmaChainGo .mbus 0 2) = false ∧ Instr.wf (.dmaChainGo .mbus 0 1) = false ∧ Instr.wf (.dmaStop .mbus 0 4) = true ∧
    Instr.wf (.dmaStop .mbus 0 (2 ^ 32)) = false ∧ Instr.wf (.dmaStop .mbus 0 0) = false ∧ Instr.wf (.dmaStop .mbus 0 5) = false ∧
    Instr.wf (.dmaBeatError 0 .read 0 0) = true ∧ Instr.wf (.dmaBeatError 0 .read (2 ^ 32) 0) = false ∧
    Instr.wf (.dmaBeatError 0 .read 0 (2 ^ 32)) = false ∧ Instr.wf (.notifyClear .mbus 0 0) = true ∧
    Instr.wf (.notifyClear .mbus 0 (2 ^ 32)) = false := by decide +kernel

theorem test_wellformed_12 :
    Instr.wf (.collectorEvent ⟨0, 0, 0, 0, 5, 0, 0⟩) = true ∧ Instr.wf (.collectorEvent ⟨1152, 0, 0, 0, 5, 0, 0⟩) = false ∧
    Instr.wf (.collectorEvent ⟨0, 65536, 0, 0, 5, 0, 0⟩) = false ∧ Instr.wf (.collectorEvent ⟨0, 0, 2 ^ 64, 0, 5, 0, 0⟩) = false ∧
    Instr.wf (.collectorEvent ⟨0, 0, 0, 64, 5, 0, 0⟩) = false ∧ Instr.wf (.collectorEvent ⟨0, 0, 0, 0, 256, 0, 0⟩) = false ∧
    Instr.wf (.collectorEvent ⟨0, 0, 0, 0, 5, 2 ^ 64, 0⟩) = false ∧ Instr.wf (.collectorEvent ⟨0, 0, 0, 0, 5, 0, 2 ^ 64⟩) = false ∧
    Instr.wf (.unitReadmit 0) = true ∧ Instr.wf (.unitReadmit 1152) = false ∧ Instr.wf (.captureClear .mbus 0 0) = true ∧
    Instr.wf (.captureClear .mbus 0 (2 ^ 8)) = false ∧ Instr.wf (.clearUpto .mbus 0) = true ∧ Instr.wf (.clearUpto .mbus (2 ^ 64)) = false ∧
    Instr.wf (.clearAll .mbus 0) = true ∧ Instr.wf (.clearAll .mbus (2 ^ 8)) = false ∧ Instr.wf (.unretire .mbus 0) = true ∧
    Instr.wf (.unretire .mbus (2 ^ 16)) = false ∧ Instr.wf (.sourceEntryWrite .mbus 0 []) = true ∧
    Instr.wf (.sourceEntryWrite .mbus 1152 []) = false ∧ Instr.wf (.coreMemoryAccess 0 0 4 .load .clean) = true ∧
    Instr.wf (.coreMemoryAccess 0 (2 ^ 40) 4 .load .clean) = false ∧ Instr.wf (.coreMemoryAccess 0 0 3 .load .clean) = false ∧
    Instr.wf (.coreMemoryAccess 0 0 16 .load .clean) = false ∧ Instr.wf (.coreMemoryAccess 0 0 4 (.store [1, 2, 3]) .clean) = false ∧
    Instr.wf (.coreMemoryAccess 0 0 4 .load (.corrected 65536)) = false ∧ Instr.wf (.linkTrainingDone .a 1 1) = true ∧
    Instr.wf (.linkTrainingDone .a 0 1) = false ∧ Instr.wf (.linkTrainingDone .a 6 1) = false ∧ Instr.wf (.linkTrainingDone .a 1 3) = false ∧
    Instr.wf (.dynamicAddressAssignment 0) = true ∧ Instr.wf (.dynamicAddressAssignment (2 ^ 7)) = false ∧
    Instr.wf (.bolhobaUnknownOpcode ⟨.mbus, 0, 0, 0, true⟩ 0 0 0) = true ∧
    Instr.wf (.bolhobaUnknownOpcode ⟨.mbus, 256, 0, 0, true⟩ 0 0 0) = false ∧
    Instr.wf (.bolhobaUnknownOpcode ⟨.mbus, 0, 65536, 0, true⟩ 0 0 0) = false ∧
    Instr.wf (.bolhobaUnknownOpcode ⟨.mbus, 0, 0, 256, true⟩ 0 0 0) = false ∧
    Instr.wf (.bolhobaUnknownOpcode ⟨.mbus, 0, 0, 0, true⟩ (2 ^ 16) 0 0) = false ∧
    Instr.wf (.bolhobaUnknownOpcode ⟨.mbus, 0, 0, 0, true⟩ 0 (2 ^ 8) 0) = false ∧
    Instr.wf (.bolhobaUnknownOpcode ⟨.mbus, 0, 0, 0, true⟩ 0 0 (2 ^ 8)) = false ∧ Instr.wf (.cqHeadDoorbell .a 0 0) = true ∧
    Instr.wf (.cqHeadDoorbell .a (2 ^ 16) 0) = false ∧ Instr.wf (.cqHeadDoorbell .a 0 (2 ^ 16)) = false := by decide +kernel

theorem test_wellformed_13 :
    Instr.wf (.fabricAck 0 0 1) = true ∧ Instr.wf (.fabricAck 0 0 0) = false ∧ Instr.wf (.fabricAck 0 0 17) = false := by decide +kernel

/-! ### States that the tests start from -/


/-- Objects take numbers. -/
def wNums (l : List (Key × Nat)) (s : State) : State := l.foldl (fun s e => s.setNum e.1 e.2) s

/-- Both feeds present, the rails up, every start step passed, host ready. -/
def wLive : State :=
  wNums [(Obj.feedState, 3), (Obj.tick, 100000)] { State.reset with
    power := { State.reset.power with powerGood := true, railsOff := false }
    start := { State.reset.start with mode := .normal, inReset := false, passedSteps := 2 ^ 21 - 1 } }

/-! #### Rein engines -/

def wRun (entry : Nat) : Run := ⟨entry, 3, [(0x20, 9)], [(0x01, 77), (0x14, 1)], false⟩

/-- Engine 0 runs an entry with these registers; it stands first of group 0. -/
def wRuns (c : Context) (entry : Nat) (s : State := wLive) : State :=
  s.modEngine 0 fun x => { x with run := some (wRun entry), ctx := c, coef := [(5, ⟨0x40000001, 3⟩)], data := [(7, 0x1234)] }

/-- The word at engine 0's program counter in `wCtx`. -/
def wWord (w : Nat) (s : State) : State := s.modEngine 0 fun x => { x with prog := [(0x7FF, BitVec.ofNat 32 w)] }

def wCtx : Context :=
  { (State.reset.engineOf 0).ctx with
    d := .ofFn fun i => if i.val = 1 then 0x80000000 else if i.val = 2 then 0x7FFFFFFF else if i.val = 3 then 1 else 5
    acc0 := 0x7FFFFFFFFFFFFFFF, acc1 := 0x8000000000000001, cb := 0, flags := 2, stack := [], pc := 0x7FF }

def wStack (n : Nat) : Context := { wCtx with stack := (List.range n).map fun i => BitVec.ofNat 11 i }

/-- Three engines of group `g` vote in normal operation. -/
def wGroup (g : Nat) (s : State := wLive) : State :=
  wNums ([(Obj.groupState g, 1)] ++ (List.range 3).map fun i => (engKey (3 * g + i) 3, i)) s

/-! #### Channel and players -/

/-- One sector-table entry that captures. -/
def wEntry : Entry :=
  { psector := 5, wedge := 3, pos := 1000, seed := 77, ringSlot := 2, isWrite := false, isParity := false, reserve := 1, bufIndex := 4, selector := 1
    sm1 := none, sm2 := none, sm1Done := false, sm2Done := false, report := 0, capturing := true, closing := false, opened := true, posted := false
    samples := [], stats := .replicate 3 ⟨0, 0, 0, 0⟩, run := 0, gap := 0, arm := 3, noCapture := false, noPost := false, played := false, final := false, result := 0 }

/-- The header of the sentence that player 0 plays. -/
def wHeader : Header :=
  { Header.reset with
    seq := 9, lanes := 7, track := 100, startWedge := 2, wedges := 40, startRev := 1, sectors := 2, dataT := 80000, sectorT := 44000, sm2At := 16544
    syncWin := 20, syncTol := 3, bufBase := dramBase + 0x10000, statusBase := dramBase + 0x20000 }

/-- Player 0 plays a sentence with these entries on actuator 0. -/
def wPlays (es : List Entry) (s : State := wLive) : State :=
  let s := s.modPlayer 0 fun x => { x with header := wHeader, entries := es, preroll := true, playing := true, pc := 0xFFF, curWedge := 3 }
  let s := s.modAct 0 fun x => { x with playing := some 0, banksHeld := 1 }
  wNums [(Obj.loadState 0, 3)] s

/-- A sentence of one sector in the reserved band's format, as bytes: header, sector-table entry, power selectors. -/
def wSentence : List Byte :=
  leBytes 4 0x4E535A4F ++ leBytes 4 9 ++ [0, 0, 0xFF, 0, 0, 0, 7, 0] ++ leBytes 4 100 ++ leBytes 2 2 ++ leBytes 2 40 ++ leBytes 2 1 ++ leBytes 2 7 ++
  leBytes 2 1 ++ [0, 0] ++ leBytes 4 24000 ++ leBytes 2 39352 ++ leBytes 2 19712 ++ [20, 3] ++ leBytes 2 0xFFFF ++ leBytes 4 0 ++
  leBytes 8 (dramBase + 0x30000) ++ leBytes 8 (dramBase + 0x20000) ++ List.replicate 64 0 ++
  leBytes 2 5 ++ leBytes 2 3 ++ leBytes 4 100 ++ leBytes 4 77 ++ [2, 1] ++ leBytes 2 0 ++ List.replicate 16 0

/-- Player 0 has fetched `wSentence` while player 1's sentence plays. -/
def wFetched : State :=
  let s := wLive.modPlayer 0 fun x => { x with loadAddr := dramBase + 0x10000, loadOrder := 4 }
  let s := s.modAct 0 fun x => { x with playing := some 1, banksHeld := 1 }
  dramWrite (wNums [(Obj.loadState 0, 1), (Obj.surfaceMask 0, 1), (Obj.timingMode 0, 0), (Obj.playerState 0, 0)] s) (dramBase + 0x10000) wSentence

/-- Player 0 plays with its detectors armed; the newest corrected samples of every lane sum to `x`, and the newest 16 samples are `y`. -/
def wLoud (x y : Int) (es : List Entry) : State :=
  ((wPlays es).modPlayer 0 fun q => { q with frontEnd := 1, set := { q.set with taThresh := 10, taLimit := 1, dropThresh := 5 } }).modChan 0 fun c =>
    { c with lanesInUse := 7, tails := .replicate 3 ⟨[x], [], 0, 0⟩, ys := List.replicate 16 y }

/-! #### Decode pool, girth, bundle -/

/-- A job of the decode pool. -/
def wJob : DecodeJob :=
  { id := 3, ring := none, player := 0, entry := 0, actuator := 0, ringSlot := 2, hold := none, reserve := 1, parity := true, parityCirc := 20, seed := 7
    report := 0, statusAddr := dramBase + 0x20040, payloadAddr := dramBase + 0x40000, phase := .waitDetector, globals := 0, locals := 0, passLocals := 0
    alignGlobals := 0, minUnsat := 255, result := 0, detCore := 15, ldpcCore := 15, extended := false, overrun := false, coreFault := false, held := false
    lost := false, aligns := [0], alignIndex := 0, limitLocal := 4, limitGlobal := 2, limitProbe := 1, releaseAfter := false, slots := [], fromRing := false
    acceptTick := 5, seq := 1, ladder := 0, kind := 0, target := 20, np := List.replicate 256 0, llr := [], post := [], msgs := [], avoidDet := 0xFF
    avoidLdpc := 0xFF, deadline := 500000, cuts := [] }

/-- A job in mid-decode whose hard decisions satisfy not every check. -/
def wJobLdpc (pass : Nat) : DecodeJob := { wJob with phase := .waitLdpc, parityCirc := 1, post := List.replicate 258 [-1], passLocals := pass }

/-- Detectors and LDPC cores run, and the pool holds these jobs. -/
def wPool (js : List DecodeJob) (s : State := wLive) : State :=
  wNums [(Obj.detectorState 7, 0), (Obj.ldpcState 11, 0)] { s with dec := { s.dec with jobs := js, nextId := 9, holdCount := 2 } }

def wSlot (l : List Int) : SampleSlot :=
  { samples := l, align := 1, sm1 := 96, sm2 := 20000, parityCirc := 20, outcome := 0, parity := false, preset := 0, seed := 7, report := 0, surface := 0
    track := 5, psector := 6, globals := 0, locals := 0, cuts := [], step := 2 }

/-- A ring whose head holds this request, with samples in the slots that it lists. -/
def wRing (kind flags : Byte) : State :=
  let s := wNums [(Obj.ringBase 1, dramBase + 0x5000), (Obj.ringEntries 1, 4), (Obj.ringHead 1, 3), (Obj.ringTail 1, 1)] (wPool [])
  let s := { s with dec := { s.dec with
    ringSlots := [(0, wSlot [1, 2, 3]), (1, wSlot [4, -32, 6])], holdSlots := [(0, wSlot [7, 8]), (1, wSlot [31, 10, 11])], copies := [(4, wSlot [1, 2])] } }
  dramWrite s (dramBase + 0x5000 + 96) ([kind, 2, flags, 3, 0, 1, 0, 0] ++ leBytes 2 4 ++ [1, 0] ++ leBytes 4 0 ++ leBytes 8 0 ++ leBytes 8 (dramBase + 0x70000))

/-- The device takes part in the girth link with a state and a role. -/
def wGirth (st role : Nat) (s : State := wLive) : State :=
  let s := wNums [(Obj.girthInputState, 0), (Obj.girthState, st), (Obj.hop, 5), (Obj.masterTag, 0x1234), (Obj.formatRpm, 7200), (Obj.phaseGroup, 4), (Obj.ffEnable, 1)] s
  { s with girth := { s.girth with role := role, baseHop := 2 } }

/-- A table bundle of these sections for surface 0: header, section table and sections; the checks of R149 are not met. -/
def wSections (l : List (Nat × List Byte)) : List Byte :=
  let entries := l.foldl (fun (acc : Nat × List Byte) x =>
    (acc.1 + x.2.length, acc.2 ++ leBytes 4 x.1 ++ leBytes 4 acc.1 ++ leBytes 4 x.2.length ++ leBytes 4 0)) (320, [])
  List.replicate 24 0 ++ leBytes 8 1 ++ List.replicate 32 0 ++ entries.2 ++ List.replicate (256 - entries.2.length) 0 ++ l.flatMap (·.2)

/-- The request at the head of a ring. -/
def wAsk (s : State) (ring : Nat) : LadderReq := (ladderHead s ring).getD (ladderReqOf [])

theorem wAsk_head {s : State} {ring : Nat} (h : (ladderHead s ring).isSome = true) : ladderHead s ring = some (wAsk s ring) := by
  cases hs : ladderHead s ring with
  | none => simp [hs] at h
  | some r => simp [wAsk, hs]

/-- One zone of the whole surface. -/
def wZoneRecord : List Byte :=
  leBytes 4 4096 ++ leBytes 4 1000 ++ leBytes 4 4000000 ++ leBytes 4 4000000 ++ leBytes 4 80000 ++ leBytes 2 300 ++ [4, 20] ++ leBytes 2 60 ++ leBytes 2 60 ++
  [1, 2, 3, 4]

/-- A bundle with one zone, one seek profile and an empty coupling table. -/
def wBundle : List Byte :=
  wSections [(1, [0, 1] ++ List.replicate 30 0 ++ wZoneRecord),
    (4, leBytes 4 1 ++ List.replicate 12 0 ++ leBytes 2 7 ++ [0, 0] ++ leBytes 4 1 ++ leBytes 4 1000 ++ leBytes 4 100 ++ leBytes 2 1 ++ leBytes 2 900 ++
      List.replicate 10 0 ++ leBytes 2 65535 ++ leBytes 2 3 ++ List.replicate 12 0),
    (6, leBytes 4 2 ++ List.replicate 12 0)]

/-- The seek profile of `wBundle`. -/
def wProfile : Profile := (profilesOf wBundle).headD ⟨0, 0, 0, 0, 0, 0, 0, 0, []⟩

/-! #### Dictionary and host -/

/-- An admin command of port A. -/
def wCmd (cmd : SqEntry) : CmdSlot :=
  { port := .a, qid := 0, cq := 0, cmd := cmd, admission := 1, io := false, kind := .free, lba := 0, count := 0, released := false, stalled := false
    waits := [], locks := [], cached := 0, wantsMedium := false, media := [], started := true, fetchTick := 5, checked := true }

/-- Slot 7 holds an admin command of controller A, which is enabled and has its admin queues. -/
def wAdmin (cmd : SqEntry) (s : State := wLive) : State :=
  let s := s.modCtrl .a fun c => { c with en := true, rdy := true, linkUp := true, cqs := [(0, ⟨8, 0, 0, [], 0, false, 0, 0⟩)], sqs := [(0, ⟨8, 0, 0, 0⟩)], hostId := 5 }
  wNums [(Obj.portState 0, 0)] { s with host := { s.host with slots := [(7, wCmd cmd)] } }

/-- Every unit is in one state, with ENABLE at a value. -/
def wUnits (st en : Nat) (s : State := wLive) : State :=
  let units : List Owner := [.detector 0, .detector 7, .ldpc 0, .ldpc 11, .reader 1 0, .reader 1 2, .girth, .dma 0, .dma 7, .port 0, .port 1, .actuator 1]
  let l : List (Key × Nat) := units.flatMap fun o => match o.enable, o.state with
    | some e, some k => [(e, en), (k, st)]
    | _, _ => []
  wNums (l ++ [(Obj.surfaceMask 1, 1)]) s

/-! #### Start and firmware -/

/-- A start-ledger record that is not sealed. -/
def wRecord : StartRecord :=
  { seq := 12, powerOnCount := 4, attempt := 1, imageSlot := some 0, failedStep := none, endCode := none, results := .replicate 20 15, failDetail := none
    elapsedMs := none, degraded := none, imageVersion := none, bundleGen := none, mark := false }

/-- Step `w` of a start attempt runs, with these steps to take their alternative. -/
def wStarts (w history : Nat) (s : State := wLive) : State :=
  { s with start := { s.start with mode := .starting, running := true, step := w, history := history, passedSteps := 2 ^ w - 2, ledger := [wRecord] } }

/-- No attempt runs. -/
def wIdle (reset asked : Bool) (s : State := wLive) : State :=
  { s with start := { s.start with mode := .starting, running := false, inReset := reset, restartAsked := asked, step := 0, ledger := [wRecord] } }

/-- A namespace of ten blocks. -/
def wNs : Namespace :=
  { nsid := 3, mapSlot := 0, firstDba := 0, blocks := 10, firstStripe := 0, firstRow := 0, periods := 1, nsze := 10, lbaFormat := 0, piType := 0
    attachedA := true, attachedB := true }

def wFw (f : Firmware → Firmware) (s : State := wLive) : State := { s with fw := f s.fw }

/-- A 2 + 1 map of three surfaces. -/
def wMap : StitchMap := ⟨9, 1, 2, 1, 2, 1, 1, 7, 0, [(0, 0), (1, 0), (2, 0)]⟩

/-- Both controllers run with an I/O queue each, and namespace 3 lies in map slot 0. -/
def wHost (s : State := wLive) : State :=
  let s := [Port.a, Port.b].foldl (fun s p => s.modCtrl p fun c => { c with
    en := true, rdy := true, linkUp := true, cqs := [(0, ⟨8, 0, 0, [], 0, false, 0, 0⟩), (1, ⟨8, 3, 3, [], 0, false, 0, 0⟩)], sqs := [(0, ⟨8, 0, 0, 2⟩), (1, ⟨8, 1, 7, 2⟩)]
    hostId := 5 + portNo p }) s
  wNums [(Obj.portState 0, 0), (Obj.portState 1, 0), (Obj.portSlotMax, 500), (Obj.detectorState 0, 0), (Obj.ldpcState 0, 0), (Obj.dmaState 0, 0), (Obj.actuatorState 0, 0), (Obj.actuatorState 1, 0), (Obj.actuatorState 2, 0), (Obj.actuatorState 3, 0)] { s with
    host := { s.host with namespaces := [(3, wNs)], fetchStopped := false }
    layout := { s.layout with maps := [(0, wMap)], bundleMaps := [(9, wMap)], rowsTotal := 100 } }

/-- An I/O command of port A, admitted and checked. -/
def wIo (cmd : SqEntry) (kind : LockKind := .free) (lba count : Nat := 0) : CmdSlot :=
  { wCmd cmd with qid := 1, cq := 1, io := true, kind := kind, lba := lba, count := count, started := false }

/-- These slots hold these commands. -/
def wSlots (l : SMap CmdSlot) (s : State := wHost) : State := { s with host := { s.host with slots := l } }

/-- Hosts 5 and 6 are registered for namespace 3. -/
def wRes (rtype holder : Nat) : Reservation := ⟨false, rtype, 4, holder, [⟨5, 77, true⟩, ⟨6, 88, true⟩] ++ List.replicate 14 ⟨0, 0, false⟩⟩

def wResHost (r : Reservation) (s : State) : State := { s with host := { s.host with reservations := [(3, r)] } }

/-! #### Layout -/

def wLay (f : Layout → Layout) (s : State := wHost) : State := { s with layout := f s.layout }

/-- Every offset of a stripe was read, and no member's sector could be read. -/
def wReads : List OffsetReads := (List.range 64).map fun o => ⟨o, []⟩

/-- An update of stripe 0 that covers DBA 3. -/
def wUpdate : JournalEntry :=
  { seq := 4, stripe := 0, nsid := 3, mapSlot := 0, method := 1, gen := 6, list := [(0, 3, [1])], dbas := [(3, 1)], valid := true, replay := false }

/-- The cache holds DBA 3 as a DIRTY block. -/
def wDirty (s : State := wHost) : State := { s with mem := { s.mem with cache := [(0, ⟨1, 3, 3, 1, [1], none⟩), (1, ⟨1, 3, 4, 1, [1], none⟩)] } }

/-- The zone of `wBundle`. -/
def wZone : Zone := match zoneAt (zonesOf wBundle 0) 5000 with
  | some z => z.1
  | none => ⟨0, 0, 0, 0, 0, 0, 0, 0, 0, 0, 0, 0, 0, 0⟩

/-- A sector of surface 2 stands at a step of the ladder, and another sector climbs too. -/
def wClimb (key step : Nat) : Climb := ⟨key, step, 0, 5, true, true, false, false, false, 0, 0, 0, 0, 0, 0, 0⟩
def wClimbs (step : Nat) (s : State := wHost) : State := { s with dec := { s.dec with climbs := [wClimb 9 1, wClimb (climbKey 2 5 7) step] } }

/-- A reshape of namespace 3 into map slot 1. -/
def wReshape (next : Nat) : Reshape := ⟨3, 1, 2, 1, 1, 128, 8192, 1, next⟩

def wReshaping (next : Nat) (s : State := wHost) : State := wLay (fun l => { l with reshape := some (wReshape next), maps := [(0, wMap), (1, { wMap with layoutId := 12 })] }) s

/-- A spin-up profile in range. -/
def wSpin : List Byte := leBytes 2 200 ++ leBytes 2 50 ++ leBytes 2 200 ++ List.replicate 4 0 ++ leBytes 2 100 ++ leBytes 2 6 ++ leBytes 2 1000 ++ List.replicate 48 0

/-- An image whose section 6 holds one program record, of the spindle's group with two spin-up profiles. -/
def wImage : List Byte :=
  List.replicate 32 0 ++ leBytes 4 6 ++ leBytes 4 160 ++ leBytes 4 4128 ++ List.replicate 116 0 ++ [1] ++ List.replicate 15 0 ++ [4] ++ List.replicate 9 0 ++
  leBytes 2 1024 ++ List.replicate 4 0 ++ List.replicate 3968 0 ++ wSpin ++ wSpin

/-- A sector of surface 0 stands at step L5 while an update of its stripe is open. -/
def wHeldStripe : State :=
  let s := wFw (fun f => { f with bundle := wBundle }) (wNums [(Obj.surfaceState 0, 1)] (wLay fun l => { l with journal := [wUpdate] }))
  { s with dec := { s.dec with climbs := [wClimb (climbKey 0 4096 3) 5] } }

/-! ### Single steps, with results worked out by hand from the rules -/

/-- The state after one step that runs a command. -/
def wAfter (c : Instr) (s : State) : State := match step { s with pending := [c] } with
  | .next t => t
  | _ => State.reset

/-- R253: −2³¹ + −2³¹ saturates to −2³¹ and sets FLAGS[3]. -/
theorem test_add_saturates :
    let x := ((wAfter (.reinAdd 0 4 1 1) (wWord 0x05044000 (wRuns wCtx 0))).engineOf 0).ctx
    x.d.get 4 = 0x80000000 ∧ x.flags = 10 := by decide +kernel

/-- R253: ADDW wraps 2³¹ − 1 + 1 to −2³¹ and leaves FLAGS. -/
theorem test_addw_wraps :
    let x := ((wAfter (.reinAddw 0 4 2 3) (wWord 0x0D08C000 (wRuns wCtx 0))).engineOf 0).ctx
    x.d.get 4 = 0x80000000 ∧ x.flags = 2 := by decide +kernel

/-- R255: ABS of −2³¹ saturates, with the source as the destination. -/
theorem test_abs_saturates :
    let x := ((wAfter (.reinAbs 0 1 1) (wWord 0x28440000 (wRuns wCtx 0))).engineOf 0).ctx
    x.d.get 1 = 0x7FFFFFFF ∧ x.flags = 10 := by decide +kernel

/-- R255: SHR of −2³¹ by 31 is −1; SHRL is 1. -/
theorem test_shr_sign :
    ((wAfter (.reinShr 0 4 1 31) (wWord 0x3504001F (wRuns wCtx 0))).engineOf 0).ctx.d.get 4 = 0xFFFFFFFF ∧
    ((wAfter (.reinShrl 0 4 1 31) (wWord 0x3904001F (wRuns wCtx 0))).engineOf 0).ctx.d.get 4 = 1 := by decide +kernel

/-- R33: FEED_STATE bit 0 is feed A. -/
theorem test_feed_present : (wAfter (.feedPresent .vfa) State.reset).num Obj.feedState = 1 := by decide +kernel

/-- An empty queue: the time base counts one tick once power is good (log entry 4). -/
theorem test_idle_tick : (match step wLive with
  | .next t => t.num Obj.tick
  | _ => 0) = 100001 := by decide +kernel

/-- The step takes the command at the front and leaves the rest in order. -/
theorem test_queue_order : (match step { wLive with pending := [.zeroRangeDone, .safeEntriesExpire, .zeroRangeDone] } with
  | .next t => t.pending
  | _ => []) = [.safeEntriesExpire, .zeroRangeDone] := by decide +kernel

/-- R21: the last byte of a core's SRAM window is stored, and its bytes come back least significant first. -/
theorem test_sram_top :
    let t := wAfter (.coreMemoryAccess 7 0x11FFFFE 2 (.store [1, 2]) .clean) wLive
    cellRead t.mem.sram 0x11FFFFF = 2 ∧ t.mem.dram = [] := by decide +kernel

/-- R21: one byte further lies outside: an access fault, and nothing is stored. -/
theorem test_sram_past_top :
    let t := wAfter (.coreMemoryAccess 7 0x11FFFFF 2 (.store [1, 2]) .clean) wLive
    t.mem.sram = [] ∧ t.outs = [.accessFault 7] := by decide +kernel

/-- R446: a transfer of one block copies its 64 bytes, and the last byte lands at DST + 63. -/
theorem test_dma_copies :
    let s := dramWrite (wLive.modDma 2 fun c => { c with phase := .moving, src := dramBase, dst := dramBase + 64, count := 64 }) dramBase
      ((List.range 64).map fun i => BitVec.ofNat 8 (i + 1))
    dramByte (wAfter (.dmaBeatsAcknowledged 2) s).mem (dramBase + 127) = 64 ∧
    dramByte (wAfter (.dmaBeatsAcknowledged 2) s).mem (dramBase + 128) = 0 := by decide +kernel

/-- R467, R476: a core watchdog takes the safe state with cause 1. -/
theorem test_watchdog_safe :
    let t := wAfter (.coreWatchdog 3) wLive
    t.num Obj.collectorState = 1 ∧ t.num Obj.safeCause = 1 ∧ t.num Obj.safeEntries = 1 := by decide +kernel

/-- R333: a link of speed 6 does not train. -/
theorem test_link_speed :
    (wAfter (.linkTrainingDone .b 6 2) (wLive.modCtrl .b fun k => { k with perst := false })).num (Obj.linkSpeed 1) = 0 ∧
    (wAfter (.linkTrainingDone .b 5 2) (wLive.modCtrl .b fun k => { k with perst := false })).num (Obj.linkSpeed 1) = 5 := by decide +kernel

/-- R354: a host that leaves gives up the reservation it holds, and PRGEN steps. -/
theorem test_unregister_releases :
    reservationOf (wAfter (.reservationRegister 20 77 0) (wResHost (wRes 1 0) (wSlots [(20, wIo { opcode := 13, cid := 4, nsid := 3, cdw10 := 1 })]))) 3 =
      ⟨false, 0, 5, 255, [⟨0, 0, false⟩, ⟨6, 88, true⟩] ++ List.replicate 14 ⟨0, 0, false⟩⟩ := by decide +kernel

/-- R346: a write of one block stands as DIRTY in the lowest cache slot under its DBA. -/
theorem test_write_admitted :
    let t := wAfter (.nvmeWrite 20 [⟨List.replicate 4096 7, []⟩]) (wSlots [(20, wIo { opcode := 1, cid := 6, nsid := 3 } .write 3 1)])
    ((SMap.find t.mem.cache 0).map fun c => (c.state, c.dba, c.payload.getD 4095 0)) = some (1, 3, 7) ∧ t.outs = [] := by decide +kernel

/-- R442, R443: an invalidation leaves a locked line. -/
theorem test_locked_line_stays :
    let s := wNums [(Obj.maintBase 2, dramBase), (Obj.maintLength 2, 64)] { wLive with mem := { wLive.mem with
      lines := [(dramBase / 64, ⟨3, List.replicate 64 1, true, true, false⟩)], recency := [dramBase / 64] } }
    (SMap.find (wAfter (.cacheInvalidate 2) s).mem.lines (dramBase / 64)).isSome = true ∧
    (wAfter (.cacheInvalidate 2) s).num (Obj.maintStatus 2) = 1 := by decide +kernel

/-- R457: three NAKs re-send the block; the fourth retires the lane. -/
theorem test_lane_retires :
    laneOut (wAfter (.fabricNak 5 1) { wLive with fab := { wLive.fab with naks := .replicate 32 2 } }) 5 = false ∧
    laneOut (wAfter (.fabricNak 5 1) { wLive with fab := { wLive.fab with naks := .replicate 32 3 } }) 5 = true := by decide +kernel

/-- R56: a value outside an object's range is not taken. -/
theorem test_range_refused :
    let t := wAfter (.objectWrite .mbus 0x3100 2 2 1 [91]) wLive
    t.num (key 0x3100 2) = 20 ∧ (wAfter (.objectWrite .mbus 0x3100 2 2 1 [90]) wLive).num (key 0x3100 2) = 90 := by decide +kernel

/-! ### Witnesses: states and operands that meet each statement's hypotheses, clause by clause -/

/-- The one command at the front of the queue. -/
theorem test_hypotheses_of_steps :
    State.reset.pending = [] ∧ State.reset.power.powerGood = false ∧ wLive.pending = [] ∧ wLive.power.powerGood = true ∧
    State.reset.wf = true ∧ wLive.wf = true ∧ tablesSorted State.reset = true ∧ tablesSorted wLive = true ∧
    (match step { wLive with pending := [.zeroRangeDone] } with
      | .next _ => true
      | _ => false) = true := by decide +kernel

theorem test_hypotheses_of_frames : ∃ t, exec .zeroRangeDone wLive = .next t := ⟨_, rfl⟩

/-- Not one of this device's own SYNCs, whatever its tag (R310). -/
theorem wOwnSync {s : State} {tick base tag : Nat}
    (h : (decide (s.girth.lastSync = some (tick % 2 ^ 54, base)) || (decide (s.num Obj.girthState = gMaster) && !s.girth.elected)) = false) :
    ownSync s tick base tag = false := by unfold ownSync; rw [h, Bool.and_false]

def wA1 : State :=
  wRuns wCtx 0

theorem test_hypotheses_of_rein_arithmetic_saturates_or_wraps :
    (Runs wA1 0 (wRun 0)) ∧
    (Runs wA1 0 (wRun 0)) ∧
    ((regs wA1 0).d.get 1 = BitVec.ofInt 32 (-2 ^ 31)) := by decide +kernel

def wA2 : State :=
  wRuns (wStack 2) 0

def wA3 : State :=
  wRuns (wStack 4) 0

def wA4 : State :=
  wRuns (wStack 0) 0

theorem test_hypotheses_of_rein_moves_and_branches :
    (Runs wA2 0 (wRun 0)) ∧
    (Runs wA2 0 (wRun 0)) ∧
    ((regs wA2 0).stack.length < 4) ∧
    (Runs wA3 0 (wRun 0)) ∧
    (4 ≤ (regs wA3 0).stack.length) ∧
    (Runs wA2 0 (wRun 0)) ∧
    ((regs wA2 0).stack = [0, 1]) ∧
    (Runs wA4 0 (wRun 0)) ∧
    ((regs wA4 0).stack = []) := by decide +kernel

def wA16 : State :=
  wWord (wordI 0x15 4 5 2) (wRuns wCtx 0)

theorem test_hypotheses_of_rein_loads_stores_and_ports_1 :
    (Runs wA1 0 (wRun 0)) ∧
    (BitVec.toNat (2 : BitVec (16 : ℕ)) < (1024 : ℕ)) ∧
    (Runs wA1 0 (wRun 0)) ∧
    (BitVec.toNat (2 : BitVec (16 : ℕ)) < (1024 : ℕ)) ∧
    (instrHere wA1.engines[0] ≠ wordI 21 4 5 2) ∧
    (Runs wA16 0 (wRun 0)) ∧
    (BitVec.toNat (2 : BitVec (16 : ℕ)) < (1024 : ℕ)) ∧
    (instrHere wA16.engines[0] = wordI 21 4 5 2) ∧
    (Runs wA1 0 (wRun 0)) ∧
    ((1024 : ℕ) ≤ BitVec.toNat (1024 : BitVec (16 : ℕ))) ∧
    (Runs wA1 0 (wRun 0)) ∧
    ((21 : BitVec (8 : ℕ)) = (21 : BitVec (8 : ℕ))) ∧
    (Runs wA1 0 (wRun 0)) ∧
    ((20 : BitVec (8 : ℕ)) = (20 : BitVec (8 : ℕ))) := by decide +kernel

theorem test_hypotheses_of_rein_loads_stores_and_ports_2 :
    (Runs wA1 0 (wRun 0)) ∧
    ((33 : BitVec (8 : ℕ)) ≠ (21 : BitVec (8 : ℕ))) ∧
    ((33 : BitVec (8 : ℕ)) ≠ (20 : BitVec (8 : ℕ))) ∧
    (Runs wA1 0 (wRun 0)) ∧
    (BitVec.toNat (33 : BitVec (8 : ℕ)) ∈ outPorts wA1.engines[(0 : Fin (16 : ℕ))].group (wRun (0 : ℕ)).entry) ∧
    (Runs wA1 0 (wRun 0)) ∧
    (BitVec.toNat (21 : BitVec (8 : ℕ)) ∉ outPorts wA1.engines[(0 : Fin (16 : ℕ))].group (wRun (0 : ℕ)).entry) := by decide +kernel

theorem test_hypotheses_of_rein_multiply_and_round_saturate :
    (Runs wA1 0 (wRun 0)) ∧
    (Runs wA1 0 (wRun 0)) ∧
    ((0 : BitVec (2 : ℕ)) = (0 : BitVec (2 : ℕ))) ∧
    (Runs wA1 0 (wRun 0)) ∧
    ((1 : BitVec (2 : ℕ)) = (1 : BitVec (2 : ℕ))) ∧
    (Runs wA1 0 (wRun 0)) ∧
    ((2 : BitVec (2 : ℕ)) = (2 : BitVec (2 : ℕ))) ∧
    (Runs wA1 0 (wRun 0)) ∧
    ((3 : BitVec (2 : ℕ)) = (3 : BitVec (2 : ℕ))) := by decide +kernel

def wA18 : State :=
  wWord (wordR 63 0 0 0) (wRuns wCtx 0 (wGroup 0))

def wA19 : State :=
  wWord 0xFC000001 (wRuns wCtx 0 (wGroup 0))

def wA6 : State :=
  wRuns wCtx 0 (wGroup 0) |>.modEngine 0 fun x => { x with run := x.run.map fun r => { r with count := budgetOf 0 } }

def wAv1 : Run :=
  { wRun 0 with count := budgetOf 0 }

theorem test_hypotheses_of_rein_run_ends_with_or_without_outputs :
    (Runs wA18 0 (wRun 0)) ∧
    (instrHere (wA18.engineOf ↑0) = wordR 63 0 0 0) ∧
    ((wA18.engineOf ↑0).injectNext = false) ∧
    ((wA19.engineOf ↑0).run = some (wRun 0)) ∧
    (faultHere (wA19.engineOf ↑0) = true) ∧
    ((wA6.engineOf ↑0).run = some wAv1) ∧
    (budgetOf wAv1.entry ≤ wAv1.count) := by decide +kernel

def wA7 : State :=
  wGroup 0 (wGroup 4)

def wA20 : State :=
  wGroup 0 (wGroup 4) |>.modChan 0 fun c => { c with wedge := 5 }

def wA8 : State :=
  wGroup 0 (wGroup 4) |>.modGroup 0 fun g => { g with agreed := [(0, [(0x20, 5), (0x21, 6)])] }

def wA9 : State :=
  wGroup 0 (wGroup 4) |>.modGroup 0 fun g => { g with agreed := [(1, [(0x22, 5), (0x23, 6), (0x24, 7)])] }

def wA21 : State :=
  wGroup 0 (wGroup 4) |>.modGroup 0 fun g => { g with agreed := [(2, [(0x25, 5), (0x26, 6), (0x27, 7)])] }

def wA22 : State :=
  wGroup 4 |>.modGroup 4 fun g => { g with agreed := [(0, [(0x20, 5)])] }

def wA10 : State :=
  wNums [(Obj.spinMode, smRein)] (wGroup 4 |>.modGroup 4 fun g => { g with agreed := [(1, [(0x22, 5), (0x24, 3)])] })

def wA23 : State :=
  wGroup 4 |>.modGroup 4 fun g => { g with agreed := [(2, [(0x25, 5)])] }

theorem test_hypotheses_of_rein_triggers_start_runs_and_latches_end_them :
    (groupRuns wA7 ↑0 = true) ∧
    (NoneWaits wA7 (↑0) 2) ∧
    ((wA7.chanOf ↑0).wedge % 24 = 0) ∧
    ((wA20.chanOf ↑0).wedge % 24 ≠ 0) ∧
    (groupRuns wA7 4 = true) ∧
    (NoneWaits wA7 4 ↑0) ∧
    ((wA7.groupOf ↑0).agreed.find ↑0 = none) ∧
    ((wA8.groupOf ↑0).agreed.find 0 = some [(32, 5), (33, 6)]) ∧
    ((wA9.groupOf ↑0).agreed.find 1 = some [(34, 5), (35, 6), (36, 7)]) ∧
    ((wA21.groupOf ↑0).agreed.find 2 = some [(37, 5), (38, 6), (39, 7)]) ∧
    ((wA22.groupOf 4).agreed.find 0 = some [(32, 5)]) ∧
    ((wA10.groupOf 4).agreed.find 1 = some [(34, 5), (36, 3)]) ∧
    ((wA23.groupOf 4).agreed.find 2 = some [(37, 5)]) := by decide +kernel

def wA11 : State :=
  ((wGroup 0).modEngine 0 fun x => { x with delivered := [(0, [(0x20, 5)])] }).modEngine 1 fun x => { x with delivered := [(0, [(0x20, 5)])] }

def wA12 : State :=
  (wGroup 0).modGroup 0 fun g => { g with pairHold := some 0 }

def wA13 : State :=
  wLive.modEngine 0 fun x => { x with rejoin := 1 }

def wA14 : State :=
  (wGroup 0).modEngine 2 fun x => { x with rejoin := 2 }

def wA15 : State :=
  wNums [(engKey 2 3, 3)] ((wGroup 0).modEngine 2 fun x => { x with agreed := 1200 })

theorem test_hypotheses_of_rein_engines_are_compared_fenced_and_rejoined_1 :
    (groupRuns wA11 ↑0 = true) ∧
    ((wA11.groupOf ↑0).pairHold = none) ∧
    (2 ≤ (votingEngines wA11 ↑0).length) ∧
    (majority wA11 (↑0) (votingEngines wA11 ↑0) = some [(32, 5)]) ∧
    ((wA12.groupOf ↑0).pairHold ≠ none) ∧
    ((wA12.groupOf ↑0).holdRerunDone = false) ∧
    (∀ e ∈ votingEngines wA12 ↑0, (wA12.engineOf e).reruns = [] ∧ ∀ (r : Run), (wA12.engineOf e).run = some r → r.rerun = false) ∧
    ((wA13.engineOf ↑0).rejoin = 1) ∧
    (activeEngine wA14 (wA14.engineOf ↑2).group = some ↑0) ∧
    ((wA14.engineOf ↑2).rejoin = 2) ∧
    (engRole wA15 ↑2 = 3) ∧
    (1200 ≤ (wA15.engineOf ↑2).agreed) := by decide +kernel

theorem test_hypotheses_of_rein_engines_are_compared_fenced_and_rejoined_2 :
    (engState wA11 ↑0 < 3) ∧
    (StartKept wA11 (wA11.engineOf ↑0).group) := by decide +kernel

def wB2 : State :=
  wNums [(Obj.feedState, 1), (Obj.spinMode, 6)] wLive

def wB19 : State :=
  wNums [(Obj.feedState, 1)] { wLive with power := { wLive.power with off := some .linkFault } }

def wB20 : State :=
  wNums [(Obj.feedState, 1)] { wLive with power := { wLive.power with off := some .heartbeatLoss, railsOff := true } }

def wB1 : State :=
  wNums [(Obj.feedState, 1)] State.reset

def wB3 : State :=
  let s := wNums [(Obj.feedState, 1)] State.reset; { s with power := { s.power with off := some .powerFail } }

def wB4 : State :=
  wNums [(Obj.feedState, 1)] { wLive with power := { wLive.power with off := some .pwrdis, dump := .done } }

def wB5 : State :=
  wNums [(Obj.feedState, 0)] wLive

theorem test_hypotheses_of_feeds_and_rails_set_power_1 :
    (wLive.power.powerGood = true ∧ wLive.power.railsOff = false) ∧
    (feedStateBit wLive (1 - feedNo Feed.vfa) = true) ∧
    (wB2.power.powerGood = true ∧ wB2.power.railsOff = false) ∧
    (wB2.power.off = none) ∧
    (feedStateBit wB2 (1 - feedNo Feed.vfa) = false) ∧
    (wLive.power.powerGood = true ∧ wLive.power.railsOff = false) ∧
    (wLive.power.off = none) := by decide +kernel

theorem test_hypotheses_of_feeds_and_rails_set_power_2 :
    (wB19.power.off = some OffCause.linkFault) ∧
    (OffCause.linkFault = OffCause.heartbeatLoss ∨ OffCause.linkFault = OffCause.linkFault ∨ OffCause.linkFault = OffCause.safeRestart) ∧
    (wB19.power.powerGood = true ∧ wB19.power.railsOff = false) ∧
    (feedStateBit wB19 (1 - feedNo Feed.vfa) = false) ∧
    (wB19.power.off = some OffCause.linkFault) ∧
    (OffCause.linkFault = OffCause.heartbeatLoss ∨ OffCause.linkFault = OffCause.linkFault ∨ OffCause.linkFault = OffCause.safeRestart) ∧
    (wB19.power.powerGood = true ∧ wB19.power.railsOff = false) := by decide +kernel

theorem test_hypotheses_of_feeds_and_rails_set_power_3 :
    (wB20.power.off = some OffCause.heartbeatLoss) ∧
    (OffCause.heartbeatLoss = OffCause.heartbeatLoss ∨
      OffCause.heartbeatLoss = OffCause.linkFault ∨ OffCause.heartbeatLoss = OffCause.safeRestart) ∧
    (¬(wB20.power.powerGood = true ∧ wB20.power.railsOff = false)) ∧
    (feedStateBit wB20 (1 - feedNo Feed.vfa) = false) := by decide +kernel

theorem test_hypotheses_of_feeds_and_rails_set_power_4 :
    (wB20.power.off = some OffCause.heartbeatLoss) ∧
    (OffCause.heartbeatLoss = OffCause.heartbeatLoss ∨
      OffCause.heartbeatLoss = OffCause.linkFault ∨ OffCause.heartbeatLoss = OffCause.safeRestart) ∧
    (¬(wB20.power.powerGood = true ∧ wB20.power.railsOff = false)) ∧
    (wB1.power.railsOff = true) ∧
    (wB1.power.off = none) ∧
    (¬NoFeed wB1) ∧
    (feedStateBit wB1 4 = false) := by decide +kernel

theorem test_hypotheses_of_feeds_and_rails_set_power_5 :
    (wB3.power.railsOff = true) ∧
    (wB3.power.off = some OffCause.powerFail) ∧
    (¬NoFeed wB3) ∧
    (feedStateBit wB3 4 = false) ∧
    (wB4.power.off = some OffCause.pwrdis) ∧
    (wB4.power.railsOff = false) ∧
    (∀ (a : Fin 4), wB4.num (Obj.driveState ↑a) = 0 ∨ wB4.num (Obj.driveState ↑a) = 4) ∧
    (wB4.power.dump = DumpState.done) ∧
    (NoFeed wB5) := by decide +kernel

def wB6 : State :=
  wNums [(Obj.vcoreMv, 860)] wLive

def wB7 : State :=
  wNums [(Obj.vcoreMv, 800)] wLive

theorem test_hypotheses_of_vcore_temperature_and_power_cap_1 :
    (wB6.power.powerGood = true) ∧
    (wB6.power.railsOff = false) ∧
    (wB6.start.passedSteps.testBit 2 = true) ∧
    (99 < 110) ∧
    (wB7.power.powerGood = true) ∧
    (wB7.power.railsOff = false) ∧
    (wB7.start.passedSteps.testBit 2 = true) ∧
    (110 < 111) ∧
    (wB7.power.powerGood = true) ∧
    (wB7.power.railsOff = false) ∧
    (wB7.start.passedSteps.testBit 2 = true) ∧
    (110 = 110) ∧
    (toSigned 16 (wB6.num Obj.throttleC) ≤ 120) ∧
    (wB6.num Obj.thermalState = 0) := by decide +kernel

theorem test_hypotheses_of_vcore_temperature_and_power_cap_2 :
    (60 ≤ toSigned 16 (wB7.num Obj.throttleC) - 5) ∧
    ((120 : ℤ) ≤ (120 : ℤ)) ∧
    (wB6.num Obj.collectorState = 0) ∧
    (wB6.start.running = false) ∧
    (AcceptedNum wB6 Requester.mbus Obj.powerCap 0) ∧
    (AcceptedNum wB7 Requester.mbus Obj.powerCap 2) := by decide +kernel

def wB8 : State :=
  { wLive with start := { wLive.start with step := 10 } }

def wB9 : State :=
  { wNums [(Obj.heartbeatArmed, 1)] wLive with motion := { State.reset.motion with resendsUp := 3 } }

theorem test_hypotheses_of_link_supervision_messages_1 :
    (wB8.start.step = 10) ∧
    (wB8.num Obj.heartbeatArmed = 0) ∧
    (wB9.num Obj.heartbeatArmed = 1 ∨ wB9.start.step ≠ 10) ∧
    (wB9.num Obj.heartbeatArmed = 1 ∨ wB9.motion.notice ≠ none) ∧
    (wB9.power.off = none) ∧
    (wB9.start.mode ≠ RunMode.halted) ∧
    (¬wB8.num Obj.heartbeatArmed = 1 ∧ wB8.motion.notice = none ∨ wB8.start.mode = RunMode.halted) ∧
    ((if true = true then wB8.motion.resendsDown else wB8.motion.resendsUp) < 3) := by decide +kernel

theorem test_hypotheses_of_link_supervision_messages_2 :
    (3 ≤ if false = true then wB9.motion.resendsDown else wB9.motion.resendsUp) ∧
    (wB9.num Obj.collectorState = 0) ∧
    (wB9.start.running = false) ∧
    (wB8.num Obj.collectorState = 0) ∧
    (wB8.start.running = false) := by decide +kernel

def wB14 : State :=
  wNums [(Obj.spinMode, smAccel), (Obj.polePairs, 6)] wLive

def wB18 : State :=
  wNums [(Obj.spinMode, smRein), (Obj.polePairs, 6)] { wLive with motion := { wLive.motion with zcPhase := 0 } }

def wB13 : State :=
  wNums [(Obj.spinMode, smRein), (Obj.polePairs, 6), (Obj.speed, 400000)] { wLive with motion := { wLive.motion with zcMissing := 1 } }

def wB10 : State :=
  wNums [(Obj.spinMode, smRein), (Obj.spinLimitMa, 1000)] wLive

def wB15 : State :=
  wNums [(Obj.spinMode, smAlign)] wLive

def wB11 : State :=
  wNums [(Obj.spinMode, smRamp), (Obj.polePairs, 6)] { wLive with motion := { wLive.motion with zcValid := 100, spinTries := 1 } }

def wB12 : State :=
  wNums [(Obj.spinMode, smRamp), (Obj.polePairs, 6)] wLive

def wB16 : State :=
  wNums [(Obj.spinMode, smBrake)] wLive

theorem test_hypotheses_of_spindle_modes_follow_the_sequence_1 :
    (0 < 500) ∧
    (0 < wB14.num Obj.polePairs) ∧
    (60 * 25000000 * 1024 / (500 * (6 * wB14.num Obj.polePairs)) < 2 ^ 32) ∧
    (wB14.num Obj.spinMode = smRamp ∨
        wB14.num Obj.spinMode = smAccel ∨
          wB14.num Obj.spinMode = smHold ∨ wB14.num Obj.spinMode = smRein ∨ wB14.num Obj.spinMode = smBrake →
      wB14.motion.spinWaitsStill = false → wB14.motion.zcPhase ≥ 3 ∨ 1 % 3 = (wB14.motion.zcPhase + 1) % 3) := by decide +kernel

theorem test_hypotheses_of_spindle_modes_follow_the_sequence_2 :
    (wB18.num Obj.spinMode = smRamp ∨
      wB18.num Obj.spinMode = smAccel ∨
        wB18.num Obj.spinMode = smHold ∨ wB18.num Obj.spinMode = smRein ∨ wB18.num Obj.spinMode = smBrake) ∧
    (wB18.motion.spinWaitsStill = false) ∧
    (¬(wB18.motion.zcPhase ≥ 3 ∨ 2 % 3 = (wB18.motion.zcPhase + 1) % 3)) := by decide +kernel

theorem test_hypotheses_of_spindle_modes_follow_the_sequence_3 :
    (wB13.num Obj.spinMode = smAccel ∨
      wB13.num Obj.spinMode = smHold ∨ wB13.num Obj.spinMode = smRein ∨ wB13.num Obj.spinMode = smBrake) ∧
    (1 ≤ wB13.motion.zcMissing) ∧
    (300 * 1024 < wB13.num Obj.speed) ∧
    (wB10.num Obj.spinMode = smAccel ∨
      wB10.num Obj.spinMode = smHold ∨ wB10.num Obj.spinMode = smRein ∨ wB10.num Obj.spinMode = smBrake) ∧
    (wB10.motion.zcMissing = 0) ∧
    (wB10.num Obj.spinMode ≠ smFault) ∧
    (wB15.num Obj.spinMode = smAlign) ∧
    (wB11.num Obj.spinMode = smRamp) := by decide +kernel

theorem test_hypotheses_of_spindle_modes_follow_the_sequence_4 :
    (wB12.num Obj.spinMode = smRamp) ∧
    (wB16.num Obj.spinMode = smBrake) := by decide +kernel

def wC1 : State :=
  wNums [(Obj.driveState 1, 2), (Obj.spinMode, smRein)] (wGroup 4)

def wC25 : State :=
  wNums [(Obj.driveState 1, 3)] wLive

def wC2 : State :=
  wNums [(Obj.driveState 1, 0), (Obj.spinMode, smHold)] (wGroup 4)

def wC26 : State :=
  wNums [(Obj.driveState 1, 2)] (wGroup 1)

def wC27 : State :=
  wNums [(Obj.driveState 1, 2)] { wLive with motion := { wLive.motion with vcmOpen := .replicate 4 true, maHeld := .replicate 4 true } }

def wC3 : State :=
  wNums [(Obj.driveState 1, 1)] (wGroup 4)

theorem test_hypotheses_of_drives_follow_commands_and_limits_1 :
    (wC1.num (Obj.driveState ↑1) ≠ 3) ∧
    (wC1.num (Obj.driveState ↑1) ≠ 4) ∧
    (vget wC1.motion.vcmOpen (↑1) false = false) ∧
    (wC25.num (Obj.driveState ↑1) = 3 ∨ wC25.num (Obj.driveState ↑1) = 4 ∨ ¬vget wC25.motion.vcmOpen (↑1) false = false) ∧
    (wC2.num (Obj.driveState ↑1) = 0 ∨ wC2.num (Obj.driveState ↑1) = 4) ∧
    (vget wC2.motion.vcmOpen (↑1) false = false) ∧
    (wC1.num (Obj.driveState ↑1) ≠ 0 ∧ wC1.num (Obj.driveState ↑1) ≠ 4 ∨ ¬vget wC1.motion.vcmOpen (↑1) false = false) := by decide +kernel

theorem test_hypotheses_of_drives_follow_commands_and_limits_2 :
    (0 < 7200) ∧
    (7200 < 65536) ∧
    (wC1.num Obj.spinMode = smRein) ∧
    (wC2.num Obj.spinMode ≠ smRein) ∧
    (wC2.num Obj.spinMode = smHold) ∧
    (groupRuns wC2 4 = true) ∧
    (wC2.start.passedSteps.testBit 15 = true) ∧
    (wC1.num Obj.spinMode ≠ smHold ∨ groupRuns wC1 4 = false ∨ wC1.start.passedSteps.testBit 15 = false) ∧
    (wC26.num (Obj.driveState ↑1) = 2) ∧
    (vget wC26.motion.vcmOpen (↑1) false = false) ∧
    (groupRuns wC26 ↑1 = true) := by decide +kernel

theorem test_hypotheses_of_drives_follow_commands_and_limits_3 :
    (wC1.num (Obj.driveState ↑1) ≠ 2 ∨ ¬vget wC1.motion.vcmOpen (↑1) false = false ∨ groupRuns wC1 ↑1 = false) ∧
    (vget wC1.motion.vcmOpen (↑1) false = false) ∧
    (¬vget wC27.motion.vcmOpen (↑1) false = false) ∧
    (vget wC1.motion.maHeld (↑1) false = false) ∧
    (vget wC27.motion.maHeld (↑1) false = true) ∧
    (wC3.num (Obj.driveState ↑1) = 1) ∧
    (wC1.num (Obj.driveState ↑1) ≠ 1) := by decide +kernel

def wC4 : State :=
  wNums [(Obj.driveState 1, 3), (Obj.actuatorState 1, 1), (Obj.v3p3Enable, 0xF)] { wLive with power := { wLive.power with dump := .running 5 9 } } |>.modChan 1 fun c => { c with faultLow := true }

def wC5 : State :=
  wNums [(Obj.driveState 1, 2), (Obj.actuatorState 1, 1), (Obj.v3p3Enable, 0xF)] { wLive with power := { wLive.power with dump := .running 5 9 } } |>.modChan 1 fun c => { c with faultLow := true }

def wC28 : State :=
  wNums [(Obj.driveState 1, 3), (Obj.actuatorState 1, 1)] { wLive with motion := { wLive.motion with retract := .replicate 4 .pushing } }

theorem test_hypotheses_of_retracts_park_the_heads_1 :
    (wC4.num (Obj.driveState ↑1) = 3) ∧
    (wC5.num (Obj.driveState ↑1) ≠ 3) ∧
    (wC28.num (Obj.driveState ↑1) = 3) ∧
    (vget wC28.motion.retract (↑1) Retract.none = Retract.pushing) ∧
    (wC28.start.restartAsked = false) ∧
    (wC4.num (Obj.driveState ↑1) ≠ 3 ∨ ¬vget wC4.motion.retract (↑1) Retract.none = Retract.pushing) ∧
    (wC4.num (Obj.driveState ↑1) = 3) ∧
    (¬vget wC4.motion.retract (↑1) Retract.none = Retract.pushing) ∧
    (wC4.start.restartAsked = false) ∧
    (wC5.num (Obj.driveState ↑1) ≠ 3 ∨ vget wC5.motion.retract (↑1) Retract.none = Retract.pushing) := by decide +kernel

theorem test_hypotheses_of_retracts_park_the_heads_2 :
    (wC4.power.dump = DumpState.running (↑5) 9) ∧
    ((wC4.chanOf ↑1).faultLow = true) ∧
    ((wC4.num Obj.v3p3Enable).testBit ↑1 = true) := by decide +kernel

def wC6 : State :=
  wPlays [{ wEntry with isWrite := true, capturing := false }] |>.modChan 0 fun c => { c with writeGate := some 0, laser := 9, readGate := true, writeFifo := 4 }

def wC29 : State :=
  wPlays [{ wEntry with isWrite := true, capturing := false }] |>.modChan 0 fun c => { c with readGate := true, wu := 8 }

def wC8 : State :=
  wPlays [{ wEntry with isWrite := true, capturing := false }] |>.modChan 0 fun c => { c with laser := 9, readGate := true, writeFifo := 4 }

def wC19 : State :=
  (wPlays [{ wEntry with isWrite := true, capturing := false }] |>.modPlayer 0 fun x => { x with nextEntry := 1 }) |>.modChan 0 fun c => { c with writeGate := some 0, laser := 9, writeFifo := 4 }

def wCv6 : Entry :=
  { wEntry with isWrite := true, capturing := false }

theorem test_hypotheses_of_write_unsafe_closes_the_gate :
    ((wC6.chanOf ↑0).writeGate ≠ none) ∧
    ((wC6.chanOf ↑0).readGate = true ∨ gatedEntries wC6 ↑0 ≠ []) ∧
    ((wC6.chanOf ↑0).wu.testBit 3 = false) ∧
    ((wC29.chanOf ↑0).readGate = true ∨ gatedEntries wC29 ↑0 ≠ []) ∧
    ((wC29.chanOf ↑0).wu.testBit 3 = true) ∧
    ((wC8.chanOf ↑1).readGate = false) ∧
    (gatedEntries wC8 ↑1 = []) ∧
    (↑0 / 2 = ↑0) ∧
    (wC19.entryOf (↑0) 0 = some wCv6) ∧
    (wCv6.isWrite = true) ∧
    (wCv6.final = false) ∧
    (0 < (wC19.playerOf ↑0).nextEntry) := by decide +kernel

def wC11 : State :=
  wPlays [wEntry] |>.modChan 0 fun c => { c with onBus := some { priority := 0, reg := 3, data := none, verify := false, tries := 1 } }

def wC22 : State :=
  wPlays [{ wEntry with closing := true, noCapture := true }] |>.modChan 0 fun c => { c with onBus := some { priority := 2, reg := 3, data := some 5, verify := true, tries := 0 } }

def wCv7 : Entry :=
  { wEntry with closing := true, noCapture := true }

def wC23 : State :=
  wPlays [{ wEntry with closing := true, samples := [1, 2, 3] }] |>.modChan 0 fun c => { c with onBus := some { priority := 4, reg := 3, data := some 5, verify := false, tries := 0 } }

def wCv9 : Entry :=
  { wEntry with closing := true, samples := [1, 2, 3] }

def wC24 : State :=
  wPlays [{ wEntry with closing := true, final := true, samples := [1, 2, 3] }] |>.modChan 0 fun c => { c with onBus := some { priority := 4, reg := 3, data := some 5, verify := false, tries := 0 } }

def wCv11 : Entry :=
  { wEntry with closing := true, final := true, samples := [1, 2, 3] }

def wCv1 : PreampFrame :=
  { priority := 0, reg := 3, data := none, verify := false, tries := 1 }

def wC12 : State :=
  wPlays [{ wEntry with final := true, sm1 := some (96, 0) }] |>.modChan 0 fun c => { c with onBus := some { priority := 2, reg := 3, data := some 5, verify := true, tries := 1 } }

def wCv3 : PreampFrame :=
  { priority := 2, reg := 3, data := some 5, verify := true, tries := 1 }

def wC13 : State :=
  wPlays [wEntry] |>.modChan 0 fun c => { c with onBus := some { priority := 2, reg := 0, data := some 5, verify := true, tries := 1 } }

def wCv4 : PreampFrame :=
  { priority := 2, reg := 0, data := some 5, verify := true, tries := 1 }

def wCv8 : PreampFrame :=
  { priority := 2, reg := 3, data := some 5, verify := true, tries := 0 }

def wC14 : State :=
  wPlays [wEntry] |>.modChan 0 fun c => { c with onBus := some { priority := 4, reg := 3, data := none, verify := false, tries := 1 } }

def wCv5 : PreampFrame :=
  { priority := 4, reg := 3, data := none, verify := false, tries := 1 }

def wCv10 : PreampFrame :=
  { priority := 4, reg := 3, data := some 5, verify := false, tries := 0 }

theorem test_hypotheses_of_captures_and_preamp_frames_1 :
    (FirstEntry (if (wC11.actOf (↑0 / 2)).playing = some ↑0 then streamSamples wC11 (↑0 / 2) [] else wC11) (↑0) 0 fun x => x.capturing) ∧
    ((if (wC11.actOf (↑0 / 2)).playing = some ↑0 then streamSamples wC11 (↑0 / 2) [] else wC11).entryOf (↑0) 0 = some wEntry) ∧
    (captureAtEnd (wC11.playerOf ↑0).header
        ((if (wC11.actOf (↑0 / 2)).playing = some ↑0 then streamSamples wC11 (↑0 / 2) [] else wC11).chanOf (↑0 / 2)) wEntry =
      false) ∧
    (FirstEntry (if (wC22.actOf (↑0 / 2)).playing = some ↑0 then streamSamples wC22 (↑0 / 2) [] else wC22) (↑0) 0 fun x => x.capturing) ∧
    ((if (wC22.actOf (↑0 / 2)).playing = some ↑0 then streamSamples wC22 (↑0 / 2) [] else wC22).entryOf (↑0) 0 = some wCv7) ∧
    (captureAtEnd (wC22.playerOf ↑0).header
        ((if (wC22.actOf (↑0 / 2)).playing = some ↑0 then streamSamples wC22 (↑0 / 2) [] else wC22).chanOf (↑0 / 2)) wCv7 =
      true) ∧
    (wCv7.noCapture = true) ∧
    (FirstEntry (if (wC23.actOf (↑0 / 2)).playing = some ↑0 then streamSamples wC23 (↑0 / 2) [] else wC23) (↑0) 0 fun x => x.capturing) ∧
    ((if (wC23.actOf (↑0 / 2)).playing = some ↑0 then streamSamples wC23 (↑0 / 2) [] else wC23).entryOf (↑0) 0 = some wCv9) ∧
    (captureAtEnd (wC23.playerOf ↑0).header
        ((if (wC23.actOf (↑0 / 2)).playing = some ↑0 then streamSamples wC23 (↑0 / 2) [] else wC23).chanOf (↑0 / 2)) wCv9 =
      true) ∧
    (wCv9.noCapture = false) := by decide +kernel

theorem test_hypotheses_of_captures_and_preamp_frames_2 :
    (FirstEntry (if (wC24.actOf (↑0 / 2)).playing = some ↑0 then streamSamples wC24 (↑0 / 2) [] else wC24) (↑0) 0 fun x => x.capturing) ∧
    ((if (wC24.actOf (↑0 / 2)).playing = some ↑0 then streamSamples wC24 (↑0 / 2) [] else wC24).entryOf (↑0) 0 = some wCv11) ∧
    (captureAtEnd (wC24.playerOf ↑0).header
        ((if (wC24.actOf (↑0 / 2)).playing = some ↑0 then streamSamples wC24 (↑0 / 2) [] else wC24).chanOf (↑0 / 2)) wCv11 =
      true) ∧
    (wCv11.noCapture = false) ∧
    ((wC11.chanOf ↑0).onBus = some wCv1) ∧
    (wCv1.priority = 0) ∧
    (wCv1.data = none) ∧
    ((wC11.chanOf ↑0).onBus = some wCv1) ∧
    (wCv1.priority = 0) ∧
    (wCv1.data = none) ∧
    (wCv1.tries ≠ 0) := by decide +kernel

theorem test_hypotheses_of_captures_and_preamp_frames_3 :
    ((wC12.chanOf ↑0).onBus = some wCv3) ∧
    (wCv3.priority = 2) ∧
    (wCv3.verify = true) ∧
    (wCv3.data = some 5) ∧
    (5 = 5) ∧
    ((wC13.chanOf ↑0).onBus = some wCv4) ∧
    (wCv4.priority = 2) ∧
    (wCv4.verify = true) ∧
    (wCv4.data = some 5) ∧
    (5 = 5) := by decide +kernel

theorem test_hypotheses_of_captures_and_preamp_frames_4 :
    ((wC22.chanOf ↑0).onBus = some wCv8) ∧
    (wCv8.priority = 2) ∧
    (wCv8.verify = true) ∧
    (wCv8.tries = 0) ∧
    (wCv8.data ≠ some 6 ∨ false = false) ∧
    ((wC12.chanOf ↑0).onBus = some wCv3) ∧
    (wCv3.priority = 2) ∧
    (wCv3.verify = true) ∧
    (wCv3.tries ≠ 0) ∧
    (wCv3.data ≠ some 5 ∨ false = false) := by decide +kernel

theorem test_hypotheses_of_captures_and_preamp_frames_5 :
    ((wC14.chanOf ↑0).onBus = some wCv5) ∧
    (wCv5.priority = 4) ∧
    (wCv5.verify = false) ∧
    (wCv5.data = none) ∧
    ((wC23.chanOf ↑0).onBus = some wCv10) ∧
    (wCv10.priority = 4) ∧
    (wCv10.verify = false) ∧
    (wCv10.data = some 5) := by decide +kernel

def wD1 : State :=
  wNums [(Obj.loadState 0, 1)] wLive

def wD2 : State :=
  wNums [(Obj.loadState 0, 2)] wLive

theorem test_hypotheses_of_sentence_loads_and_underruns :
    (wD1.num (Obj.loadState ↑0) = 1) ∧
    (loadReject wD1 (↑0) (wD1.playerOf ↑0).loadAddr = 1) ∧
    (1 ≠ 0) ∧
    (wFetched.num (Obj.loadState ↑0) = 1) ∧
    (loadReject wFetched (↑0) (wFetched.playerOf ↑0).loadAddr = 0) ∧
    (wFetched.num (Obj.playerState ↑0) = 0) ∧
    (deadlinePassed wFetched (↑0 / 2) (headerOf (dramRead wFetched.mem (wFetched.playerOf ↑0).loadAddr 128)) = false) ∧
    ((wFetched.actOf (↑0 / 2)).playing ≠ none) ∧
    (wD2.num (Obj.loadState ↑0) = 2) ∧
    ((wD2.playerOf ↑0).preroll = false) ∧
    (startBlocked wD2 (↑0 / 2) (wD2.playerOf ↑0).header = false) ∧
    (startReached wD2 (↑0 / 2) (wD2.playerOf ↑0).header = true) := by decide +kernel

def wD3 : State :=
  wPlays [{ wEntry with capturing := false }] |>.modPlayer 0 fun x => { x with ended := true }

def wD4 : State :=
  wPlays [wEntry]

def wD5 : State :=
  wPlays [wEntry] |>.modPlayer 0 fun x => { x with records := [{ seq := 4, base := dramBase + 0x20000, sectors := 0, bytes := [1, 2, 3] }] }

def wDv1 : PendingRecord :=
  { seq := 4, base := dramBase + 0x20000, sectors := 0, bytes := [1, 2, 3] }

theorem test_hypotheses_of_sentences_end_and_are_recorded_1 :
    ((wD3.playerOf ↑0).playing = true) ∧
    ((wD3.playerOf ↑0).ended = true) ∧
    ((wD3.playerOf ↑0).gates = []) ∧
    ((wD3.actOf (↑0 / 2)).playing = some ↑0 → (wD3.chanOf (↑0 / 2)).writeGate = none) ∧
    (∀ e ∈ (wD3.playerOf ↑0).entries, e.capturing = false) ∧
    ((wD4.playerOf ↑0).playing = true) ∧
    ((wD4.playerOf ↑0).ended = false) ∧
    ((wD4.playerOf ↑0).abortAsked = false ∨
      Option.all (fun m => decide (windowEnd (wD4.playerOf ↑0).header < m)) (abortStands (wD4.playerOf ↑0)) = true) ∧
    (wD3.num (Obj.loadState ↑0) = 2 ∨ wD3.num (Obj.loadState ↑0) = 3) ∧
    (wD4.num (Obj.loadState ↑0) = 2 ∨ wD4.num (Obj.loadState ↑0) = 3) := by decide +kernel

theorem test_hypotheses_of_sentences_end_and_are_recorded_2 :
    (wD5.mem.wf = true) ∧
    (wD5.power.powerGood = true) ∧
    (wD5.power.railsOff = false) ∧
    (List.find? (fun r => !recordWaits wD5 r) (wD5.playerOf ↑0).records = some wDv1) ∧
    (∀ i < wDv1.bytes.length, slotAt (wDv1.base + i) = none) := by decide +kernel

def wD6 : State :=
  wPlays [wEntry] |>.modPlayer 0 fun x => { x with header := { x.header with timingMode := 1 } }

def wD9 : State :=
  wPlays [wEntry] |>.modPlayer 0 fun x => { x with clause := .timed 5, clauseOp := 2, clauseArg := 0xC123 }

def wD12 : State :=
  (wPlays [wEntry] |>.modPlayer 0 fun x => { x with clause := .wait 4 3, clauseOp := 3, stack := [9], clauseArg := 0xC123 }).modChan 0 fun c => { c with events := [⟨4, 7, 0, none⟩] }

theorem test_hypotheses_of_clauses_run_and_take_their_time_1 :
    (AtBoundary wD6 0) ∧
    (¬(fun op => clauseHere wD6 ↑(0 : Fin (8 : ℕ)) = (op, ↑(0 : Fin (1024 : ℕ)), BitVec.toNat (49443 : BitVec (16 : ℕ)))) (0 : ℕ)) ∧
    (AtBoundary wD6 0) ∧
    (¬(fun op => clauseHere wD6 ↑(0 : Fin (8 : ℕ)) = (op, ↑(0 : Fin (1024 : ℕ)), BitVec.toNat (49443 : BitVec (16 : ℕ)))) (1 : ℕ)) ∧
    (AtBoundary wD6 0) ∧
    (¬(fun op => clauseHere wD6 ↑(0 : Fin (8 : ℕ)) = (op, ↑(0 : Fin (1024 : ℕ)), BitVec.toNat (49443 : BitVec (16 : ℕ)))) (2 : ℕ)) ∧
    (AtBoundary wD6 0) ∧
    (¬(fun op => clauseHere wD6 ↑(0 : Fin (8 : ℕ)) = (op, ↑(0 : Fin (1024 : ℕ)), BitVec.toNat (49443 : BitVec (16 : ℕ)))) (3 : ℕ)) := by decide +kernel

theorem test_hypotheses_of_clauses_run_and_take_their_time_2 :
    (AtBoundary wD6 0) ∧
    (¬(fun op => clauseHere wD6 ↑(0 : Fin (8 : ℕ)) = (op, ↑(0 : Fin (1024 : ℕ)), BitVec.toNat (49443 : BitVec (16 : ℕ)))) (4 : ℕ)) ∧
    (AtBoundary wD6 0) ∧
    (¬(fun op => clauseHere wD6 ↑(0 : Fin (8 : ℕ)) = (op, ↑(0 : Fin (1024 : ℕ)), BitVec.toNat (49443 : BitVec (16 : ℕ)))) (5 : ℕ)) ∧
    (AtBoundary wD6 0) ∧
    (¬(fun op => clauseHere wD6 ↑(0 : Fin (8 : ℕ)) = (op, ↑(0 : Fin (1024 : ℕ)), BitVec.toNat (49443 : BitVec (16 : ℕ)))) (6 : ℕ)) ∧
    (AtBoundary wD6 0) ∧
    (¬(fun op => clauseHere wD6 ↑(0 : Fin (8 : ℕ)) = (op, ↑(0 : Fin (1024 : ℕ)), BitVec.toNat (49443 : BitVec (16 : ℕ)))) (7 : ℕ)) := by decide +kernel

theorem test_hypotheses_of_clauses_run_and_take_their_time_3 :
    (AtBoundary wD6 0) ∧
    (¬(fun op => clauseHere wD6 ↑(0 : Fin (8 : ℕ)) = (op, ↑(0 : Fin (1024 : ℕ)), BitVec.toNat (49443 : BitVec (16 : ℕ)))) (8 : ℕ)) ∧
    (AtBoundary wD6 0) ∧
    (¬(fun op => clauseHere wD6 ↑(0 : Fin (8 : ℕ)) = (op, ↑(0 : Fin (1024 : ℕ)), BitVec.toNat (49443 : BitVec (16 : ℕ)))) (63 : ℕ)) ∧
    ((wD9.playerOf ↑0).gates.length ≤ 31) ∧
    ((wD9.playerOf ↑0).clause = ClauseTime.timed 5) ∧
    ((wD12.playerOf ↑0).gates.length ≤ 31) ∧
    ((wD12.playerOf ↑0).clause = ClauseTime.wait 4 3) ∧
    ((wD12.playerOf ↑0).clauseOp = 2 → (wD12.playerOf ↑0).stack.length < 4) ∧
    ((wD12.playerOf ↑0).clauseOp = 3 → (wD12.playerOf ↑0).stack ≠ []) := by decide +kernel

theorem test_hypotheses_of_clauses_run_and_take_their_time_4 :
    ((wD6.playerOf ↑0).clause ≠ ClauseTime.stalled ∨ mustStall wD6 ↑0 = true) := by decide +kernel

def wD16 : State :=
  (wPlays [wEntry] |>.modPlayer 0 fun x => { x with gates := [⟨1, 3, 500, 0, false⟩] }).modChan 0 fun c => { c with wedge := 3 }

def wD18 : State :=
  (wPlays [wEntry] |>.modPlayer 0 fun x => { x with gates := [⟨3, 3, 500, 0, false⟩] }).modChan 0 fun c => { c with wedge := 3, synthLocked := true }

theorem test_hypotheses_of_gate_entries_open_and_close_gates :
    (((if (wD16.actOf (↑0 / 2)).playing = some ↑0 then streamSamples wD16 (↑0 / 2) [] else wD16).playerOf ↑0).gates =
      [{ action := 1, wedge := 3, target := 500, entry := 0, late := false }]) ∧
    ((if (wD16.actOf (↑0 / 2)).playing = some ↑0 then streamSamples wD16 (↑0 / 2) [] else wD16).entryOf ↑0
        { action := 1, wedge := 3, target := 500, entry := 0, late := false : GateEntry }.entry =
      some wEntry) ∧
    (0 <
        windowWedge (if (wD16.actOf (↑0 / 2)).playing = some ↑0 then streamSamples wD16 (↑0 / 2) [] else wD16) ↑0
          { action := 1, wedge := 3, target := 500, entry := 0, late := false : GateEntry }.wedge ∨
      windowWedge (if (wD16.actOf (↑0 / 2)).playing = some ↑0 then streamSamples wD16 (↑0 / 2) [] else wD16) ↑0
            { action := 1, wedge := 3, target := 500, entry := 0, late := false : GateEntry }.wedge =
          0 ∧
        500 < { action := 1, wedge := 3, target := 500, entry := 0, late := false : GateEntry }.target) ∧
    ({ action := 1, wedge := 3, target := 500, entry := 0, late := false : GateEntry }.late = false) ∧
    (((if (wD18.actOf (↑0 / 2)).playing = some ↑0 then streamSamples wD18 (↑0 / 2) [] else wD18).playerOf ↑0).gates =
      [{ action := 3, wedge := 3, target := 500, entry := 0, late := false }]) ∧
    ((if (wD18.actOf (↑0 / 2)).playing = some ↑0 then streamSamples wD18 (↑0 / 2) [] else wD18).entryOf ↑0
        { action := 3, wedge := 3, target := 500, entry := 0, late := false : GateEntry }.entry =
      some wEntry) ∧
    (0 <
        windowWedge (if (wD18.actOf (↑0 / 2)).playing = some ↑0 then streamSamples wD18 (↑0 / 2) [] else wD18) ↑0
          { action := 3, wedge := 3, target := 500, entry := 0, late := false : GateEntry }.wedge ∨
      windowWedge (if (wD18.actOf (↑0 / 2)).playing = some ↑0 then streamSamples wD18 (↑0 / 2) [] else wD18) ↑0
            { action := 3, wedge := 3, target := 500, entry := 0, late := false : GateEntry }.wedge =
          0 ∧
        500 < { action := 3, wedge := 3, target := 500, entry := 0, late := false : GateEntry }.target) ∧
    ({ action := 3, wedge := 3, target := 500, entry := 0, late := false : GateEntry }.late = false) := by decide +kernel

def wE1 : State :=
  wPool [wJob]

def wE20 : State :=
  wPool [wJobLdpc 0]

def wE21 : State :=
  wPool [wJobLdpc 3]

def wE2 : State :=
  wPool [{ wJob with phase := .waitLdpc }]

def wEv1 : DecodeJob :=
  { wJob with phase := .waitLdpc }

def wE3 : State :=
  wPool [{ wJob with phase := .waitLdpc, parity := false }]

def wEv2 : DecodeJob :=
  { wJob with phase := .waitLdpc, parity := false }

theorem test_hypotheses_of_decode_jobs_pass_and_end_1 :
    (jobOf wE1 3 = some wJob) ∧
    (wJob.phase = JobPhase.waitDetector) ∧
    ((dispatch wE1).dec.detRun.find ↑7 = some 3) ∧
    (¬(PassCheck.clean = PassCheck.uncorrectable ∨ PassCheck.clean = PassCheck.disagrees)) ∧
    (jobOf wE1 3 = some wJob) ∧
    (wJob.phase = JobPhase.waitDetector) ∧
    ((dispatch wE1).dec.detRun.find ↑7 = some 3) ∧
    (PassCheck.disagrees = PassCheck.uncorrectable ∨ PassCheck.disagrees = PassCheck.disagrees) := by decide +kernel

theorem test_hypotheses_of_decode_jobs_pass_and_end_2 :
    (jobOf wE20 3 = some (wJobLdpc 0)) ∧
    ((wJobLdpc 0).phase = JobPhase.waitLdpc) ∧
    ((dispatch wE20).dec.ldpcRun.find ↑11 = some 3) ∧
    (unsatisfied (wJobLdpc 0).parityCirc
        (hardOf (localIteration (wJobLdpc 0).parityCirc (wE20.num Obj.msOffset) (wJobLdpc 0).post (wJobLdpc 0).msgs).1) ≠
      0) ∧
    (PassCheck.clean ≠ PassCheck.uncorrectable) ∧
    ((wJobLdpc 0).passLocals + 1 < (wJobLdpc 0).limitLocal) ∧
    (jobOf wE21 3 = some (wJobLdpc 3)) ∧
    ((wJobLdpc 3).phase = JobPhase.waitLdpc) ∧
    ((dispatch wE21).dec.ldpcRun.find ↑11 = some 3) ∧
    (unsatisfied (wJobLdpc 3).parityCirc
        (hardOf (localIteration (wJobLdpc 3).parityCirc (wE21.num Obj.msOffset) (wJobLdpc 3).post (wJobLdpc 3).msgs).1) ≠
      0) ∧
    (PassCheck.clean ≠ PassCheck.uncorrectable) ∧
    ((wJobLdpc 3).limitLocal ≤ (wJobLdpc 3).passLocals + 1) ∧
    ((wJobLdpc 3).alignGlobals + 1 < alignLimit (wJobLdpc 3)) := by decide +kernel

theorem test_hypotheses_of_decode_jobs_pass_and_end_3 :
    (jobOf wE2 3 = some wEv1) ∧
    (wEv1.phase = JobPhase.waitLdpc) ∧
    ((dispatch wE2).dec.ldpcRun.find ↑11 = some 3) ∧
    (unsatisfied wEv1.parityCirc (hardOf (localIteration wEv1.parityCirc (wE2.num Obj.msOffset) wEv1.post wEv1.msgs).1) = 0) ∧
    (¬(PassCheck.clean = PassCheck.uncorrectable ∨ PassCheck.clean = PassCheck.disagrees)) ∧
    (wEv1.parity = true ∨
      scrcGood wEv1.seed (hardBytes (hardOf (localIteration wEv1.parityCirc (wE2.num Obj.msOffset) wEv1.post wEv1.msgs).1)) = true) ∧
    (wEv1.ring = none) := by decide +kernel

theorem test_hypotheses_of_decode_jobs_pass_and_end_4 :
    (jobOf wE3 3 = some wEv2) ∧
    (wEv2.phase = JobPhase.waitLdpc) ∧
    ((dispatch wE3).dec.ldpcRun.find ↑11 = some 3) ∧
    (unsatisfied wEv2.parityCirc (hardOf (localIteration wEv2.parityCirc (wE3.num Obj.msOffset) wEv2.post wEv2.msgs).1) = 0) ∧
    (¬(PassCheck.clean = PassCheck.uncorrectable ∨ PassCheck.clean = PassCheck.disagrees)) ∧
    (¬(wEv2.parity = true ∨
        scrcGood wEv2.seed (hardBytes (hardOf (localIteration wEv2.parityCirc (wE3.num Obj.msOffset) wEv2.post wEv2.msgs).1)) = true)) := by decide +kernel

theorem test_hypotheses_of_decode_jobs_pass_and_end_5 :
    (jobOf wE2 3 = some wEv1) ∧
    (wEv1.phase = JobPhase.waitLdpc) ∧
    ((dispatch wE2).dec.ldpcRun.find ↑11 = some 3) ∧
    (PassCheck.uncorrectable = PassCheck.uncorrectable ∨
      unsatisfied wEv1.parityCirc (hardOf (localIteration wEv1.parityCirc (wE2.num Obj.msOffset) wEv1.post wEv1.msgs).1) = 0 ∧
        (PassCheck.uncorrectable = PassCheck.uncorrectable ∨ PassCheck.uncorrectable = PassCheck.disagrees)) ∧
    (jobOf wE1 3 = some wJob) ∧
    (wJob.ring = none) := by decide +kernel

def wC9 : State :=
  wNums [(Obj.taEventLimit 0, 1), (Obj.dropThresh 0, 3)] (wPlays [wEntry]) |>.modChan 0 fun c => { c with readGate := true }

def wC15 : State :=
  wNums [(Obj.driveState 1, 1), (Obj.revNow 2, 0xFFFF)] wLive

def wC20 : State :=
  wLoud (2 ^ 40) 1 [wEntry]

def wC17 : State :=
  wNums [(Obj.taEventLimit 0, 1), (Obj.dropThresh 0, 3)] (wPlays [wEntry]) |>.modPlayer 0 fun x => { x with frontEnd := 1 }

def wC30 : State :=
  wLoud 0 1 [wEntry] |>.modChan 0 fun c => { c with acquiring := false, streamWedge := 3, streamT := 1500 }

def wC21 : State :=
  wLoud 0 20 [{ wEntry with run := 9000 }]

theorem test_hypotheses_of_wedges_are_read_and_detectors_run_1 :
    (NoneWaits wC9 (↑0) 1) ∧
    (NoneWaits wC15 (↑1) 1) ∧
    ((wC20.actOf ↑0).playing = some ↑0) ∧
    ((wC20.playerOf ↑0).frontEnd.testBit 0 = true) ∧
    ((fun k =>
          ((streamSamples wC20 ↑0 []).chanOf ↑0).lanesInUse.testBit k = true ∧
            (wC20.playerOf ↑0).set.taThresh * 2 ^ 30 <
              (List.take 8
                    (vget ((streamSamples wC20 ↑0 []).chanOf ↑0).tails k { xs := [], ws := [], sumX := 0, sumS := 0 }).xs).sum.natAbs)
        0 ∨
      (fun k =>
            ((streamSamples wC20 ↑0 []).chanOf ↑0).lanesInUse.testBit k = true ∧
              (wC20.playerOf ↑0).set.taThresh * 2 ^ 30 <
                (List.take 8
                      (vget ((streamSamples wC20 ↑0 []).chanOf ↑0).tails k
                          { xs := [], ws := [], sumX := 0, sumS := 0 }).xs).sum.natAbs)
          1 ∨
        (fun k =>
            ((streamSamples wC20 ↑0 []).chanOf ↑0).lanesInUse.testBit k = true ∧
              (wC20.playerOf ↑0).set.taThresh * 2 ^ 30 <
                (List.take 8
                      (vget ((streamSamples wC20 ↑0 []).chanOf ↑0).tails k
                          { xs := [], ws := [], sumX := 0, sumS := 0 }).xs).sum.natAbs)
          2) := by decide +kernel

theorem test_hypotheses_of_wedges_are_read_and_detectors_run_2 :
    ((wC17.actOf ↑0).playing = some ↑0) ∧
    ((wC17.playerOf ↑0).frontEnd.testBit 0 = true) ∧
    (¬((fun k =>
            ((streamSamples wC17 ↑0 []).chanOf ↑0).lanesInUse.testBit k = true ∧
              (wC17.playerOf ↑0).set.taThresh * 2 ^ 30 <
                (List.take 8
                      (vget ((streamSamples wC17 ↑0 []).chanOf ↑0).tails k
                          { xs := [], ws := [], sumX := 0, sumS := 0 }).xs).sum.natAbs)
          0 ∨
        (fun k =>
              ((streamSamples wC17 ↑0 []).chanOf ↑0).lanesInUse.testBit k = true ∧
                (wC17.playerOf ↑0).set.taThresh * 2 ^ 30 <
                  (List.take 8
                        (vget ((streamSamples wC17 ↑0 []).chanOf ↑0).tails k
                            { xs := [], ws := [], sumX := 0, sumS := 0 }).xs).sum.natAbs)
            1 ∨
          (fun k =>
              ((streamSamples wC17 ↑0 []).chanOf ↑0).lanesInUse.testBit k = true ∧
                (wC17.playerOf ↑0).set.taThresh * 2 ^ 30 <
                  (List.take 8
                        (vget ((streamSamples wC17 ↑0 []).chanOf ↑0).tails k
                            { xs := [], ws := [], sumX := 0, sumS := 0 }).xs).sum.natAbs)
            2)) := by decide +kernel

theorem test_hypotheses_of_wedges_are_read_and_detectors_run_3 :
    ((wC30.actOf ↑0).playing = some ↑0) ∧
    ((wC30.playerOf ↑0).frontEnd.testBit 0 = true) ∧
    ((wC30.playerOf ↑0).set.dropThresh ≠ 0) ∧
    ((match
        captureOffset (signalCtx (streamSamples wC30 ↑0 []) ↑0 ↑0) ((streamSamples wC30 ↑0 []).playerOf ↑0).entries
          ((streamSamples wC30 ↑0 []).chanOf ↑0).streamWedge ((streamSamples wC30 ↑0 []).chanOf ↑0).streamT with
      | some n => !((streamSamples wC30 ↑0 []).chanOf ↑0).acquiring || decide ((wC30.playerOf ↑0).set.acqT ≤ n)
      | none => false) =
      true) ∧
    (((streamSamples wC30 ↑0 []).chanOf ↑0).ys.length = 16) ∧
    ((List.map Int.natAbs ((streamSamples wC30 ↑0 []).chanOf ↑0).ys).sum < 16 * (wC30.playerOf ↑0).set.dropThresh) ∧
    ((wC17.actOf ↑0).playing = some ↑0) ∧
    ((wC17.playerOf ↑0).frontEnd.testBit 0 = true) ∧
    ((wC17.playerOf ↑0).set.dropThresh = 0 ∨
      (match
            captureOffset (signalCtx (streamSamples wC17 ↑0 []) ↑0 ↑0) ((streamSamples wC17 ↑0 []).playerOf ↑0).entries
              ((streamSamples wC17 ↑0 []).chanOf ↑0).streamWedge ((streamSamples wC17 ↑0 []).chanOf ↑0).streamT with
          | some n => !((streamSamples wC17 ↑0 []).chanOf ↑0).acquiring || decide ((wC17.playerOf ↑0).set.acqT ≤ n)
          | none => false) =
          false ∨
        16 * (wC17.playerOf ↑0).set.dropThresh ≤ (List.map Int.natAbs ((streamSamples wC17 ↑0 []).chanOf ↑0).ys).sum) := by decide +kernel

theorem test_hypotheses_of_wedges_are_read_and_detectors_run_4 :
    ((wC21.actOf ↑0).playing = some ↑0) ∧
    ((wC21.playerOf ↑0).frontEnd.testBit 0 = true) ∧
    ((streamSamples wC21 ↑0 []).entryOf (↑0) 0 =
      some
        (let __src := wEntry;
        { psector := __src.psector, wedge := __src.wedge, pos := __src.pos, seed := __src.seed, ringSlot := __src.ringSlot,
          isWrite := __src.isWrite, isParity := __src.isParity, reserve := __src.reserve, bufIndex := __src.bufIndex,
          selector := __src.selector, sm1 := __src.sm1, sm2 := __src.sm2, sm1Done := __src.sm1Done, sm2Done := __src.sm2Done,
          report := __src.report, capturing := __src.capturing, closing := __src.closing, opened := __src.opened,
          posted := __src.posted, samples := __src.samples, stats := __src.stats, run := 9000, gap := __src.gap, arm := __src.arm,
          noCapture := __src.noCapture, noPost := __src.noPost, played := __src.played, final := __src.final,
          result := __src.result })) ∧
    ((let __src := wEntry;
        { psector := __src.psector, wedge := __src.wedge, pos := __src.pos, seed := __src.seed, ringSlot := __src.ringSlot,
          isWrite := __src.isWrite, isParity := __src.isParity, reserve := __src.reserve, bufIndex := __src.bufIndex,
          selector := __src.selector, sm1 := __src.sm1, sm2 := __src.sm2, sm1Done := __src.sm1Done, sm2Done := __src.sm2Done,
          report := __src.report, capturing := __src.capturing, closing := __src.closing, opened := __src.opened,
          posted := __src.posted, samples := __src.samples, stats := __src.stats, run := 9000, gap := __src.gap, arm := __src.arm,
          noCapture := __src.noCapture, noPost := __src.noPost, played := __src.played, final := __src.final, result := __src.result :
          Entry }).capturing =
      true) ∧
    (8192 ≤
      (let __src := wEntry;
        { psector := __src.psector, wedge := __src.wedge, pos := __src.pos, seed := __src.seed, ringSlot := __src.ringSlot,
          isWrite := __src.isWrite, isParity := __src.isParity, reserve := __src.reserve, bufIndex := __src.bufIndex,
          selector := __src.selector, sm1 := __src.sm1, sm2 := __src.sm2, sm1Done := __src.sm1Done, sm2Done := __src.sm2Done,
          report := __src.report, capturing := __src.capturing, closing := __src.closing, opened := __src.opened,
          posted := __src.posted, samples := __src.samples, stats := __src.stats, run := 9000, gap := __src.gap, arm := __src.arm,
          noCapture := __src.noCapture, noPost := __src.noPost, played := __src.played, final := __src.final, result := __src.result :
          Entry }).run) ∧
    ((let __src := wEntry;
            { psector := __src.psector, wedge := __src.wedge, pos := __src.pos, seed := __src.seed, ringSlot := __src.ringSlot,
              isWrite := __src.isWrite, isParity := __src.isParity, reserve := __src.reserve, bufIndex := __src.bufIndex,
              selector := __src.selector, sm1 := __src.sm1, sm2 := __src.sm2, sm1Done := __src.sm1Done, sm2Done := __src.sm2Done,
              report := __src.report, capturing := __src.capturing, closing := __src.closing, opened := __src.opened,
              posted := __src.posted, samples := __src.samples, stats := __src.stats, run := 9000, gap := __src.gap, arm := __src.arm,
              noCapture := __src.noCapture, noPost := __src.noPost, played := __src.played, final := __src.final,
              result := __src.result : Entry }).report.testBit
        15 =
      false) ∧
    ((let __src := wEntry;
        { psector := __src.psector, wedge := __src.wedge, pos := __src.pos, seed := __src.seed, ringSlot := __src.ringSlot,
          isWrite := __src.isWrite, isParity := __src.isParity, reserve := __src.reserve, bufIndex := __src.bufIndex,
          selector := __src.selector, sm1 := __src.sm1, sm2 := __src.sm2, sm1Done := __src.sm1Done, sm2Done := __src.sm2Done,
          report := __src.report, capturing := __src.capturing, closing := __src.closing, opened := __src.opened,
          posted := __src.posted, samples := __src.samples, stats := __src.stats, run := 9000, gap := __src.gap, arm := __src.arm,
          noCapture := __src.noCapture, noPost := __src.noPost, played := __src.played, final := __src.final, result := __src.result :
          Entry }).final =
      false) ∧
    (((streamSamples wC9 ↑0 []).chanOf ↑0).readGate = true) ∧
    (((streamSamples wC15 ↑1 []).chanOf ↑1).readGate = false) ∧
    (↑0 / 2 = ↑0) ∧
    ((wC9.actOf ↑0).playing = some ↑0) ∧
    ((streamSamples wC9 ↑0 []).entryOf (↑0) 0 = some wEntry) ∧
    (FirstEntry (streamSamples wC9 ↑0 []) (↑0) 0 fun e => e.capturing && !if true = true then e.sm1Done else e.sm2Done) := by decide +kernel

def wE4 : State :=
  wRing 1 0

def wE5 : State :=
  wRing 2 0

def wE7 : State :=
  wRing 3 0

def wE8 : State :=
  wPool [{ wJob with ring := some 1, phase := .ended }]

def wEv3 : DecodeJob :=
  { wJob with ring := some 1, phase := .ended }

theorem test_hypotheses_of_ladder_requests_are_served :
    (wE4.dec.copies.find (↑0 * 64 + ↑4) = some (wSlot [1, 2])) ∧
    (jobOf wE8 3 = some wEv3) ∧
    (wEv3.ring = some ↑1) ∧
    (wEv3.phase = JobPhase.ended) := by decide +kernel

theorem test_hypotheses_of_ladder_requests_are_served_2 :
    (ladderHead wE4 ↑1 = some (wAsk (wRing 1 0) 1)) ∧
    ((wAsk (wRing 1 0) 1).kind = 1) := ⟨wAsk_head (by decide +kernel), by decide +kernel⟩

theorem test_hypotheses_of_ladder_requests_are_served_3 :
    (ladderHead wE5 ↑1 = some (wAsk (wRing 2 0) 1)) ∧
    ((wAsk (wRing 2 0) 1).kind = 2) ∧
    ((wAsk (wRing 2 0) 1).slots.headD 255 < 64) ∧
    (List.map (slotOf wE5 (wAsk (wRing 2 0) 1)) (wAsk (wRing 2 0) 1).slots =
      wSlot [7, 8] :: List.map (slotOf wE5 (wAsk (wRing 2 0) 1)) (List.drop 1 (wAsk (wRing 2 0) 1).slots)) := ⟨wAsk_head (by decide +kernel), by decide +kernel⟩

theorem test_hypotheses_of_ladder_requests_are_served_4 :
    (ladderHead wE7 ↑1 = some (wAsk (wRing 3 0) 1)) ∧
    ((wAsk (wRing 3 0) 1).kind = 3) := ⟨wAsk_head (by decide +kernel), by decide +kernel⟩

def wE9 : State :=
  wGirth 1 2

def wEv6 : GirthHeader :=
  { origin := 9, hops := 1 }

def wE10 : State :=
  let s := wGirth 1 2; { s with girth := { s.girth with healthPending := true, lastHealth := some 99999 } }

def wEv7 : GirthHeader :=
  { origin := 3, hops := 1 }

def wE11 : State :=
  let s := wGirth 2 2; { s with girth := { s.girth with healthPending := true } }

theorem test_hypotheses_of_girth_frames_phase_and_health_1 :
    (6 = 0 ∨ 5 < 6) ∧
    (wE9.power.powerGood = true) ∧
    (wE9.power.railsOff = false) ∧
    (girthRuns wE9 = true) ∧
    (wEv6.crc = CrcState.good) ∧
    (rxHeld wE9 < 8) ∧
    (wE9.num Obj.girthState = 1) ∧
    (girthRuns wE10 = true) ∧
    (wEv7.crc = CrcState.good) ∧
    (rxHeld wE10 < 8) ∧
    (wE10.num Obj.girthState = 1) ∧
    (girthRuns wE11 = true) ∧
    (wE11.num Obj.girthState = 2) := by decide +kernel

theorem test_hypotheses_of_girth_frames_phase_and_health_2 :
    (girthRuns wE9 = true) ∧
    (girthJoined wE9 = true) ∧
    (healthAllowed wE9 = true) ∧
    (girthRuns wE10 = true) ∧
    (girthJoined wE10 = true) ∧
    (healthAllowed wE10 = false) ∧
    (girthRuns wE11 = true) ∧
    (girthJoined wE11 = true) ∧
    (healthAllowed wE11 = true) ∧
    (wE11.girth.healthPending = true) := by decide +kernel

theorem test_hypotheses_of_girth_frames_phase_and_health_3 :
    (girthRuns wE9 = true) ∧
    (girthJoined wE9 = true) ∧
    (wEv6.crc = CrcState.good) ∧
    (rxHeld wE9 < 8) ∧
    ((1 : ℕ) ≤ Int.natAbs (↑(GirthHeader.origin wEv6) - ↑(State.num wE9 Obj.hop))) ∧
    (Int.natAbs (↑(GirthHeader.origin wEv6) - ↑(State.num wE9 Obj.hop)) ≤ (8 : ℕ)) := by decide +kernel

def wE12 : State :=
  wGirth 1 1

def wEv8 : GirthHeader :=
  { origin := 9, hops := 6 }

def wE22 : State :=
  let s := wGirth 1 2; { s with girth := { s.girth with rxTick := s.tick, rxCount := 8 } }

def wE14 : State :=
  let s := wGirth 0 3; { s with girth := { s.girth with listening := true, newTag := 7, newTagCount := 2 } }

def wE13 : State :=
  let s := wGirth 1 3; { s with girth := { s.girth with candidateWait := true } }

def wE15 : State :=
  let s := wGirth 0 2; { s with girth := { s.girth with listening := true, newTag := 7, newTagCount := 2 } }

def wE16 : State :=
  let s := wGirth 2 2; { s with girth := { s.girth with healthBits := healthBits s } }

def wE23 : State :=
  wNums [(Obj.role, 3)] (wGirth 2 2)

theorem test_hypotheses_of_girth_mastership_follows_the_rules_1 :
    (girthRuns wE22 = true) ∧
    (wEv8.crc = CrcState.good) ∧
    (8 ≤ rxHeld wE22) ∧
    (girthRuns wE12 = true) ∧
    (wE12.num Obj.girthState ≠ 2) ∧
    (wE12.girth.listening = false) ∧
    (girthRuns wE9 = true) ∧
    (wE9.num Obj.girthState ≠ 2) ∧
    (wE9.girth.listening = false) ∧
    (girthRuns wE13 = true) ∧
    (wE13.num Obj.girthState ≠ 2) ∧
    (wE13.girth.listening = false) ∧
    (wE13.girth.candidateWait = true) ∧
    (girthRuns wE13 = true) := by decide +kernel

theorem test_hypotheses_of_girth_mastership_follows_the_rules_2 :
    (wE14.girth.listening = true) ∧
    (girthRuns wE14 = true) ∧
    (wE15.girth.listening = true) ∧
    (girthRuns wE15 = true) ∧
    (girthRuns wE16 = true) ∧
    (wE16.num Obj.girthState = 2) ∧
    (roleSelected wE16 = wE16.girth.role) ∧
    (healthBits wE16 = wE16.girth.healthBits) ∧
    (girthRuns wE23 = true) ∧
    (wE23.num Obj.girthState = 2) ∧
    (roleSelected wE23 = 3) ∧
    (wE23.girth.role ≠ 3) := by decide +kernel

theorem test_hypotheses_of_girth_mastership_follows_the_rules_3 :
    (girthRuns wE12 = true) ∧
    (wEv8.crc = CrcState.good) ∧
    (rxHeld wE12 < 8) ∧
    (wE12.num Obj.girthState = 1) ∧
    (4660 = wE12.num Obj.masterTag) ∧
    (ownSync wE12 1000 2 4660 = false) := ⟨by decide +kernel, by decide +kernel, by decide +kernel, by decide +kernel, by decide +kernel, wOwnSync (by decide +kernel)⟩

theorem test_hypotheses_of_girth_mastership_follows_the_rules_4 :
    (girthRuns wE12 = true) ∧
    (wEv8.crc = CrcState.good) ∧
    (rxHeld wE12 < 8) ∧
    (wE12.num Obj.girthState = 1) ∧
    (ownSync wE12 1000 2 4660 = false) := ⟨by decide +kernel, by decide +kernel, by decide +kernel, by decide +kernel, wOwnSync (by decide +kernel)⟩

theorem test_hypotheses_of_girth_mastership_follows_the_rules_5 :
    (girthRuns wE14 = true) ∧
    (wEv8.crc = CrcState.good) ∧
    (rxHeld wE14 < 8) ∧
    (wE14.num Obj.girthState = 0) ∧
    (wE14.girth.newTag = 7) ∧
    (wE14.girth.newTagCount = 2) ∧
    (ownSync wE14 1000 2 7 = false) := ⟨by decide +kernel, by decide +kernel, by decide +kernel, by decide +kernel, by decide +kernel, by decide +kernel, wOwnSync (by decide +kernel)⟩

def wE17 : State :=
  wGirth 1 2 { wLive with fw := { wLive.fw with bundle := wBundle } }

def wE24 : State :=
  let s := wNums [(Obj.announceRate, 5)] (wGirth 1 2); { s with girth := { s.girth with ownAnnounced := .replicate 4 [(0x7000, 0x7000000000)] } }

def wE25 : State :=
  let s := wNums [(Obj.announceRate, 0)] (wGirth 1 2); { s with girth := { s.girth with ownAnnounced := .replicate 4 [(0x7000, 0x7000000000)] } }

def wE18 : State :=
  let s := wGirth 1 2; { s with girth := { s.girth with ownAnnounced := .ofFn fun i => if i.val = 1 then [(0x7000, 0x7000000000)] else [], announcements := [⟨4, 7000, 7000, 7, 1, 50, 4, .replicate 4 1, .replicate 4 1, .replicate 4 false⟩] } }

def wEv9 : Announcement :=
  ⟨4, 7000, 7000, 7, 1, 50, 4, .replicate 4 1, .replicate 4 1, .replicate 4 false⟩

theorem test_hypotheses_of_girth_seeks_are_applied_and_cancelled_1 :
    (girthRuns wE17 = true) ∧
    (wEv8.crc = CrcState.good) ∧
    (rxHeld wE17 < 8) ∧
    (7 ≠ 65535) ∧
    (girthJoined wE17 = true ∧
      (1 : ℕ) ≤ Int.natAbs (↑(GirthHeader.origin wEv8) - ↑(State.num wE17 Obj.hop)) ∧
        Int.natAbs (↑(GirthHeader.origin wEv8) - ↑(State.num wE17 Obj.hop)) ≤ (8 : ℕ) ∧
          State.num wE17 Obj.ffEnable = (1 : ℕ) ∧
            hasCoupling (Firmware.bundle (State.fw wE17)) = true ∧
              (2 : ℕ) % (256 : ℕ) = profileSetId (Firmware.bundle (State.fw wE17)) % (256 : ℕ) ∧
                (List.any (profilesInForce wE17 (0 : ℕ)) fun p => decide (Profile.number p = (7 : ℕ))) = true ∧
                  List.length (Girth.announcements (State.girth wE17)) < (16 : ℕ)) := by decide +kernel

theorem test_hypotheses_of_girth_seeks_are_applied_and_cancelled_2 :
    (girthRuns wE9 = true) ∧
    (wEv8.crc = CrcState.good) ∧
    (rxHeld wE9 < 8) ∧
    (7 ≠ 65535) ∧
    (¬(girthJoined wE9 = true ∧
        (1 : ℕ) ≤ Int.natAbs (↑(GirthHeader.origin wEv8) - ↑(State.num wE9 Obj.hop)) ∧
          Int.natAbs (↑(GirthHeader.origin wEv8) - ↑(State.num wE9 Obj.hop)) ≤ (8 : ℕ) ∧
            State.num wE9 Obj.ffEnable = (1 : ℕ) ∧
              hasCoupling (Firmware.bundle (State.fw wE9)) = true ∧
                (2 : ℕ) % (256 : ℕ) = profileSetId (Firmware.bundle (State.fw wE9)) % (256 : ℕ) ∧
                  (List.any (profilesInForce wE9 (0 : ℕ)) fun p => decide (Profile.number p = (7 : ℕ))) = true ∧
                    List.length (Girth.announcements (State.girth wE9)) < (16 : ℕ))) := by decide +kernel

theorem test_hypotheses_of_girth_seeks_are_applied_and_cancelled_3 :
    (girthRuns wE17 = true) ∧
    (wEv8.crc = CrcState.good) ∧
    (rxHeld wE17 < 8) ∧
    (wE24.girth.ownAnnounced[1] = [(28672, 481036337152)]) ∧
    (girthRuns wE24 = true) ∧
    ((newSecond wE24).girth.seekSent < wE24.num Obj.announceRate) ∧
    (wE25.girth.ownAnnounced[1] = [(28672, 481036337152)]) ∧
    (girthRuns wE25 = true) ∧
    (wE25.num Obj.announceRate ≤ (newSecond wE25).girth.seekSent) ∧
    (wE17.girth.ownAnnounced[0] = []) ∧
    (List.find? (fun x => decide (x.id = 4)) wE18.girth.announcements = some wEv9) := by decide +kernel

def wEv10 : List Byte :=
  leBytes 4 200000 ++ leBytes 2 7 ++ [1, 0] ++ leBytes 4 50

def wEv12 : List Byte :=
  leBytes 4 200000 ++ leBytes 2 7 ++ [1, 0] ++ leBytes 4 500

def wEv11 : List Byte :=
  [1, 0, 9, 0] ++ leBytes 2 0x1000 ++ [2, 0] ++ leBytes 4 50 ++ leBytes 4 0

def wE19 : State :=
  let s := wGirth 1 2; { s with girth := { s.girth with request := some (7, 5) } }

theorem test_hypotheses_of_girth_announces_and_requests_1 :
    (AcceptedRec wE17 (Requester.core 3) Obj.announce wEv10) ∧
    (byteAt wEv10 6 = ↑1 ∧ List.find? (fun x => decide (x.number = fieldAt wEv10 4 2)) (profilesInForce wE17 ↑1) = some wProfile) ∧
    (girthRuns wE17 = true) ∧
    (AcceptedRec wE17 (Requester.core 3) Obj.announce wEv12) ∧
    (byteAt wEv12 6 = ↑1 ∧ List.find? (fun x => decide (x.number = fieldAt wEv12 4 2)) (profilesInForce wE17 ↑1) = some wProfile) ∧
    (girthRuns wE17 = true) ∧
    (AcceptedRec wE9 (Requester.core 3) Obj.dictRequest wEv11) ∧
    (girthRuns wE9 = true) ∧
    (girthRuns wE19 = true) ∧
    (wEv8.crc = CrcState.good) ∧
    (rxHeld wE19 < 8) ∧
    (wE19.girth.request = some (7, 5)) := by decide +kernel

theorem test_hypotheses_of_girth_announces_and_requests_2 :
    (girthRuns wE17 = true) ∧
    (wEv8.crc = CrcState.good) ∧
    (rxHeld wE17 < 8) ∧
    (wE17.girth.request = none) ∧
    (wE19.girth.request = some (7, 5)) := by decide +kernel

def wFv1 : List Byte :=
  leBytes 2 1151 ++ [BitVec.ofNat 8 (sourceNow wLive 1151).level, 0, 0, 0, 0, 0] ++ leBytes 4 60 ++ leBytes 4 0

def wF1 : State :=
  { wLive with fw := { wLive.fw with mfg := true } }

theorem test_hypotheses_of_writes_are_checked_then_take_effect :
    (heard State.reset Requester.mbus (key 0 0) = false) ∧
    (heard wLive Requester.mbus (key 12544 2) = true) ∧
    (decodeVal (key 12544 2) 2 1 [91] = some (Val.num 91)) ∧
    (selfCheckDue wLive (key 12544 2) (Val.num 91) = none) ∧
    (writeStatus wLive Requester.mbus (key 12544 2) (some (Val.num 91)) true ≠ dsOk) ∧
    (Accepted wLive Requester.mbus (key 12544 2) (Val.num 90)) ∧
    (decodeVal (key 12544 2) 2 1 [90] = some (Val.num 90)) ∧
    (OwnValue wLive Requester.mbus (key 12544 2) (Val.num 90)) ∧
    (1151 < 1152) ∧
    (wFv1.length = 16) ∧
    (Accepted wF1 Requester.factory (7405568 + 1151) (Val.bytes wFv1)) := by decide +kernel

def wF2 : State :=
  { wLive with dict := { wLive.dict with job := some ⟨true, none, [(5, .num 6)]⟩ } }

def wFv2 : StoreJob :=
  ⟨true, none, [(5, .num 6)]⟩

def wF3 : State :=
  { wLive with dict := { wLive.dict with job := some ⟨true, none, [(5, .num 6)]⟩, waitingRecords := [.retiredPages] } }

theorem test_hypotheses_of_stores_snapshot_and_commit :
    (Accepted wLive Requester.mbus Obj.objStore (Val.num 1)) ∧
    (Accepted wLive Requester.mbus Obj.objStore (Val.num 0)) ∧
    (wF2.dict.job = some wFv2) ∧
    (wF2.dict.waitingRecords = []) ∧
    (wF3.dict.job = some wFv2) ∧
    (wF3.dict.waitingRecords = [RecordKind.retiredPages]) ∧
    (Accepted wLive Requester.mbus Obj.restoreDefaults (Val.num 1)) ∧
    (Accepted wF2 Requester.mbus Obj.restoreDefaults (Val.num 0)) := by decide +kernel

def wF4 : State :=
  wUnits 0 1

def wF7 : State :=
  wUnits 0 1 |>.setNum (Obj.driveState 1) 2

def wF5 : State :=
  wUnits 2 0

def wF8 : State :=
  wUnits 2 0 |>.setNum (Obj.driveState 1) 4

def wF10 : State :=
  wUnits 2 1 |>.setNum Obj.degraded 0x300

def wF6 : State :=
  wUnits 1 0

def wF9 : State :=
  wUnits 1 0 |>.setNum (Obj.driveState 1) 4

theorem test_hypotheses_of_units_are_disabled_and_enabled_1 :
    ((Owner.detector ↑7).enable = some ((Owner.detector 7).enable.getD 0)) ∧
    ((Owner.detector ↑7).state = some ((Owner.detector 7).state.getD 0)) ∧
    (Accepted wF4 Requester.mbus ((Owner.detector 7).enable.getD 0) (Val.num 0)) ∧
    (unitDecided wF4 (Owner.detector ↑7) = true) ∧
    (unitAbsent wF4 (Owner.detector ↑7) = false) ∧
    (wF4.num ((Owner.detector 7).enable.getD 0) = 1) ∧
    (wF4.num ((Owner.detector 7).state.getD 0) = 0) ∧
    ((Owner.ldpc ↑11).enable = some ((Owner.ldpc 11).enable.getD 0)) ∧
    ((Owner.ldpc ↑11).state = some ((Owner.ldpc 11).state.getD 0)) ∧
    (Accepted wF4 Requester.mbus ((Owner.ldpc 11).enable.getD 0) (Val.num 0)) ∧
    (unitDecided wF4 (Owner.ldpc ↑11) = true) ∧
    (unitAbsent wF4 (Owner.ldpc ↑11) = false) ∧
    (wF4.num ((Owner.ldpc 11).enable.getD 0) = 1) ∧
    (wF4.num ((Owner.ldpc 11).state.getD 0) = 0) := by decide +kernel

theorem test_hypotheses_of_units_are_disabled_and_enabled_2 :
    ((Owner.reader ↑1 ↑2).enable = some ((Owner.reader 1 2).enable.getD 0)) ∧
    ((Owner.reader ↑1 ↑2).state = some ((Owner.reader 1 2).state.getD 0)) ∧
    (Accepted wF4 Requester.mbus ((Owner.reader 1 2).enable.getD 0) (Val.num 0)) ∧
    (unitDecided wF4 (Owner.reader ↑1 ↑2) = true) ∧
    (unitAbsent wF4 (Owner.reader ↑1 ↑2) = false) ∧
    (wF4.num ((Owner.reader 1 2).enable.getD 0) = 1) ∧
    (wF4.num ((Owner.reader 1 2).state.getD 0) = 0) ∧
    (Owner.girth.enable = some (Owner.girth.enable.getD 0)) ∧
    (Owner.girth.state = some (Owner.girth.state.getD 0)) ∧
    (Accepted wF4 Requester.mbus (Owner.girth.enable.getD 0) (Val.num 0)) ∧
    (unitDecided wF4 Owner.girth = true) ∧
    (unitAbsent wF4 Owner.girth = false) ∧
    (wF4.num (Owner.girth.enable.getD 0) = 1) ∧
    (wF4.num (Owner.girth.state.getD 0) = 0) := by decide +kernel

theorem test_hypotheses_of_units_are_disabled_and_enabled_3 :
    ((Owner.dma ↑7).enable = some ((Owner.dma 7).enable.getD 0)) ∧
    ((Owner.dma ↑7).state = some ((Owner.dma 7).state.getD 0)) ∧
    (Accepted wF4 Requester.mbus ((Owner.dma 7).enable.getD 0) (Val.num 0)) ∧
    (unitDecided wF4 (Owner.dma ↑7) = true) ∧
    (unitAbsent wF4 (Owner.dma ↑7) = false) ∧
    (wF4.num ((Owner.dma 7).enable.getD 0) = 1) ∧
    (wF4.num ((Owner.dma 7).state.getD 0) = 0) := by decide +kernel

theorem test_hypotheses_of_units_are_disabled_and_enabled_4 :
    (loaded wF7 ↑1 = true) ∧
    ((Owner.actuator ↑1).enable = some ((Owner.actuator 1).enable.getD 0)) ∧
    ((Owner.actuator ↑1).state = some ((Owner.actuator 1).state.getD 0)) ∧
    (Accepted wF7 Requester.mbus ((Owner.actuator 1).enable.getD 0) (Val.num 0)) ∧
    (unitDecided wF7 (Owner.actuator ↑1) = true) ∧
    (unitAbsent wF7 (Owner.actuator ↑1) = false) ∧
    (wF7.num ((Owner.actuator 1).enable.getD 0) = 1) ∧
    (wF7.num ((Owner.actuator 1).state.getD 0) = 0) := by decide +kernel

theorem test_hypotheses_of_units_are_disabled_and_enabled_5 :
    (isPort Requester.mbus ↑1 = false) ∧
    (wF4.fw.frozen = false) ∧
    (wF4.fw.heldResets = []) ∧
    (wF4.fw.resetActivates = false) ∧
    ((Owner.port ↑1).enable = some ((Owner.port 1).enable.getD 0)) ∧
    ((Owner.port ↑1).state = some ((Owner.port 1).state.getD 0)) ∧
    (Accepted wF4 Requester.mbus ((Owner.port 1).enable.getD 0) (Val.num 0)) ∧
    (unitDecided wF4 (Owner.port ↑1) = true) ∧
    (unitAbsent wF4 (Owner.port ↑1) = false) ∧
    (wF4.num ((Owner.port 1).enable.getD 0) = 1) ∧
    (wF4.num ((Owner.port 1).state.getD 0) = 0) := by decide +kernel

theorem test_hypotheses_of_units_are_disabled_and_enabled_6 :
    ((Owner.detector ↑7).enable = some ((Owner.detector 7).enable.getD 0)) ∧
    ((Owner.detector ↑7).state = some ((Owner.detector 7).state.getD 0)) ∧
    (Accepted wF5 Requester.mbus ((Owner.detector 7).enable.getD 0) (Val.num 1)) ∧
    (unitDecided wF5 (Owner.detector ↑7) = true) ∧
    (unitAbsent wF5 (Owner.detector ↑7) = false) ∧
    (wF5.num ((Owner.detector 7).enable.getD 0) = 0) ∧
    (wF5.num ((Owner.detector 7).state.getD 0) = 2) ∧
    ((Owner.ldpc ↑11).enable = some ((Owner.ldpc 11).enable.getD 0)) ∧
    ((Owner.ldpc ↑11).state = some ((Owner.ldpc 11).state.getD 0)) ∧
    (Accepted wF5 Requester.mbus ((Owner.ldpc 11).enable.getD 0) (Val.num 1)) ∧
    (unitDecided wF5 (Owner.ldpc ↑11) = true) ∧
    (unitAbsent wF5 (Owner.ldpc ↑11) = false) ∧
    (wF5.num ((Owner.ldpc 11).enable.getD 0) = 0) ∧
    (wF5.num ((Owner.ldpc 11).state.getD 0) = 2) := by decide +kernel

theorem test_hypotheses_of_units_are_disabled_and_enabled_7 :
    ((Owner.reader ↑1 ↑2).enable = some ((Owner.reader 1 2).enable.getD 0)) ∧
    ((Owner.reader ↑1 ↑2).state = some ((Owner.reader 1 2).state.getD 0)) ∧
    (Accepted wF5 Requester.mbus ((Owner.reader 1 2).enable.getD 0) (Val.num 1)) ∧
    (unitDecided wF5 (Owner.reader ↑1 ↑2) = true) ∧
    (unitAbsent wF5 (Owner.reader ↑1 ↑2) = false) ∧
    (wF5.num ((Owner.reader 1 2).enable.getD 0) = 0) ∧
    (wF5.num ((Owner.reader 1 2).state.getD 0) = 2) ∧
    (Owner.girth.enable = some (Owner.girth.enable.getD 0)) ∧
    (Owner.girth.state = some (Owner.girth.state.getD 0)) ∧
    (Accepted wF5 Requester.mbus (Owner.girth.enable.getD 0) (Val.num 1)) ∧
    (unitDecided wF5 Owner.girth = true) ∧
    (unitAbsent wF5 Owner.girth = false) ∧
    (wF5.num (Owner.girth.enable.getD 0) = 0) ∧
    (wF5.num (Owner.girth.state.getD 0) = 2) := by decide +kernel

theorem test_hypotheses_of_units_are_disabled_and_enabled_8 :
    ((Owner.dma ↑7).enable = some ((Owner.dma 7).enable.getD 0)) ∧
    ((Owner.dma ↑7).state = some ((Owner.dma 7).state.getD 0)) ∧
    (Accepted wF5 Requester.mbus ((Owner.dma 7).enable.getD 0) (Val.num 1)) ∧
    (unitDecided wF5 (Owner.dma ↑7) = true) ∧
    (unitAbsent wF5 (Owner.dma ↑7) = false) ∧
    (wF5.num ((Owner.dma 7).enable.getD 0) = 0) ∧
    (wF5.num ((Owner.dma 7).state.getD 0) = 2) ∧
    ((Owner.port ↑1).enable = some ((Owner.port 1).enable.getD 0)) ∧
    ((Owner.port ↑1).state = some ((Owner.port 1).state.getD 0)) ∧
    (Accepted wF5 Requester.mbus ((Owner.port 1).enable.getD 0) (Val.num 1)) ∧
    (unitDecided wF5 (Owner.port ↑1) = true) ∧
    (unitAbsent wF5 (Owner.port ↑1) = false) ∧
    (wF5.num ((Owner.port 1).enable.getD 0) = 0) ∧
    (wF5.num ((Owner.port 1).state.getD 0) = 2) := by decide +kernel

theorem test_hypotheses_of_units_are_disabled_and_enabled_9 :
    (vget wF8.motion.vcmOpen (↑1) false = false) ∧
    (wF8.num (Obj.driveState ↑1) = 4) ∧
    ((Owner.actuator ↑1).enable = some ((Owner.actuator 1).enable.getD 0)) ∧
    ((Owner.actuator ↑1).state = some ((Owner.actuator 1).state.getD 0)) ∧
    (Accepted wF8 Requester.mbus ((Owner.actuator 1).enable.getD 0) (Val.num 1)) ∧
    (unitDecided wF8 (Owner.actuator ↑1) = true) ∧
    (unitAbsent wF8 (Owner.actuator ↑1) = false) ∧
    (wF8.num ((Owner.actuator 1).enable.getD 0) = 0) ∧
    (wF8.num ((Owner.actuator 1).state.getD 0) = 2) := by decide +kernel

theorem test_hypotheses_of_units_are_disabled_and_enabled_10 :
    (portLeftOut wF10 ↑1 = true) ∧
    (heard wF10 Requester.mbus (Obj.portEnable ↑1) = true) ∧
    (wF10.num (Obj.portState ↑1) = 2) ∧
    (unitDecided wF10 (Owner.port ↑1) = true) ∧
    (writeStatus wF10 Requester.mbus (Obj.portEnable ↑1) (some (Val.num 1)) true = dsOk) ∧
    (isPort Requester.mbus ↑1 = false) ∧
    (portLeftOut wF10 ↑1 = true) ∧
    (heard wF10 Requester.mbus (Obj.portEnable ↑1) = true) ∧
    (wF10.num (Obj.portState ↑1) = 2) ∧
    (unitDecided wF10 (Owner.port ↑1) = true) ∧
    (writeStatus wF10 Requester.mbus (Obj.portEnable ↑1) (some (Val.num 1)) false = dsBusy) ∧
    (wF6.num (Obj.detectorState ↑7) = 1) ∧
    (coreBusy wF6 true ↑7 = false) := by decide +kernel

theorem test_hypotheses_of_units_are_disabled_and_enabled_11 :
    (wF6.num (Obj.ldpcState ↑0) = 1) ∧
    (coreBusy wF6 false ↑0 = false) ∧
    (wF6.num (Obj.laneState ↑1 ↑2) = 1) ∧
    (wF6.num (Obj.dmaState ↑0) = 1) ∧
    ((wF6.dma ↑0).phase = DmaPhase.idle) ∧
    (wF9.num (Obj.actuatorState ↑1) = 1) ∧
    (nothingPlays wF9 ↑1 = true) ∧
    (wF9.num (Obj.driveState ↑1) = 4) := by decide +kernel

def wG1 : State :=
  wAdmin { opcode := 0xC0, cid := 4, cdw10 := 0x31000200 }

def wGv1 : CmdSlot :=
  wCmd { opcode := 0xC0, cid := 4, cdw10 := 0x31000200 }

def wG2 : State :=
  wAdmin { opcode := 0xC2, cid := 4, cdw10 := 0x31000201, cdw12 := 4 }

def wGv2 : CmdSlot :=
  wCmd { opcode := 0xC2, cid := 4, cdw10 := 0x31000201, cdw12 := 4 }

def wG3 : State :=
  wAdmin { opcode := 0xC2, cid := 4, cdw10 := 0x31000202 }

def wGv3 : CmdSlot :=
  wCmd { opcode := 0xC2, cid := 4, cdw10 := 0x31000202 }

def wGv4 : BolhobaHeader :=
  { port := .mbus, tag := 3, index := 0x3100, sub := 2 }

def wG4 : State :=
  wGirth 1 2

def wGv5 : GirthHeader :=
  { origin := 9, hops := 3 }

theorem test_hypotheses_of_reads_return_the_value_on_every_port_1 :
    (dictCmd wG1 7 192 = some (wGv1, Requester.portA, 3211266)) ∧
    (cmdMode wGv1 = 0) ∧
    (Readable wG1 Requester.portA 3211266) ∧
    (isScalar 3211266 = true) ∧
    (view wG1 Requester.portA 3211266 = Val.num 20) ∧
    (dictCmd wG2 7 194 = some (wGv2, Requester.portA, 3211266)) ∧
    (cmdMode wGv2 = 1) ∧
    (Readable wG2 Requester.portA 3211266) ∧
    (isBlob 3211266 = false) := by decide +kernel

theorem test_hypotheses_of_reads_return_the_value_on_every_port_2 :
    (dictCmd wG3 7 194 = some (wGv3, Requester.portA, 3211266)) ∧
    (cmdMode wGv3 = 2) ∧
    (listDwords wGv3 = []) ∧
    (Readable wG3 Requester.portA 3211266) ∧
    (isScalar 3211266 = true) ∧
    (view wG3 Requester.portA 3211266 = Val.num 20) ∧
    (bolhobaHeard wLive wGv4 = true) ∧
    (Readable wLive (bolhobaWho wGv4.port) (hdrKey wGv4)) ∧
    (isScalar (hdrKey wGv4) = true) ∧
    (view wLive (bolhobaWho wGv4.port) (hdrKey wGv4) = Val.num 20) := by decide +kernel

theorem test_hypotheses_of_reads_return_the_value_on_every_port_3 :
    (bolhobaHeard wLive wGv4 = true) ∧
    (Readable wLive (bolhobaWho wGv4.port) (hdrKey wGv4)) ∧
    (isScalar (hdrKey wGv4) = true) ∧
    (view wLive (bolhobaWho wGv4.port) (hdrKey wGv4) = Val.num 20) ∧
    (4 ≤ 960) ∧
    (inCoreWindow 588251168 = true) ∧
    (valueAccess (windowKey 588251168) (windowOff 588251168) 1 = true) ∧
    (Readable wLive (Requester.core 8) (windowKey 588251168)) ∧
    (view wLive (Requester.core 8) (windowKey 588251168) = Val.num 20) ∧
    (inCoreWindow 588251176 = true) ∧
    (windowOff 588251176 = 8) ∧
    (heard wLive (Requester.core 8) (windowKey 588251176) = true) := by decide +kernel

theorem test_hypotheses_of_reads_return_the_value_on_every_port_4 :
    (girthRuns wG4 = true) ∧
    (wGv5.crc = CrcState.good) ∧
    (rxHeld wG4 < 8) ∧
    (Readable (rxTake (forward wG4 gtDict wGv5 (dictPayload (wG4.num Obj.hop) 0 3 30736 1 0 0))) Requester.girth (key 30736 1)) ∧
    (isScalar (key 30736 1) = true) ∧
    (view (rxTake (forward wG4 gtDict wGv5 (dictPayload (wG4.num Obj.hop) 0 3 30736 1 0 0))) Requester.girth (key 30736 1) = Val.num 0) ∧
    (girthValue (key 30736 1) (Val.num 0) = some 0) ∧
    (heard wG1 Requester.mbus Obj.lifecycleNonce = true) ∧
    (readStatus wG1 Requester.mbus Obj.lifecycleNonce = dsOk) := by decide +kernel

def wG5 : State :=
  wAdmin { opcode := 0xC1, cid := 4, cdw10 := 0x31000201, cdw12 := 1 }

def wGv6 : CmdSlot :=
  wCmd { opcode := 0xC1, cid := 4, cdw10 := 0x31000201, cdw12 := 1 }

def wG6 : State :=
  wAdmin { opcode := 0xC1, cid := 4, cdw10 := 0, cdw12 := 32 }

def wGv7 : CmdSlot :=
  wCmd { opcode := 0xC1, cid := 4, cdw10 := 0, cdw12 := 32 }

def wGv8 : List Byte :=
  leBytes 16 1 ++ [0, 0x31, 2, 2, 0, 1, 0, 0, 30, 0, 0, 0, 0, 0, 0, 0]

def wGv10 : List ListEntry :=
  [⟨0x3100, 2, 2, 1, [30]⟩, ⟨0x3100, 2, 2, 1, [91]⟩]

def wGv9 : List ListEntry :=
  [⟨0x3100, 2, 2, 1, [30]⟩]

theorem test_hypotheses_of_writes_have_one_effect_on_every_port_1 :
    (dictCmd wG5 7 193 = some (wGv6, Requester.portA, 3211266)) ∧
    (cmdMode wGv6 = 1) ∧
    (wGv6.cmd.cdw12 ≤ 2 ^ 21) ∧
    (isBlob 3211266 = false) ∧
    (answersFirst Requester.portA 3211266 = false) ∧
    (decodeVal 3211266 (typOf 3211266) wGv6.cmd.cdw12 (padTo wGv6.cmd.cdw12 (List.take wGv6.cmd.cdw12 [30])) = some (Val.num 30)) ∧
    (Accepted wG5 Requester.portA 3211266 (Val.num 30)) := by decide +kernel

theorem test_hypotheses_of_writes_have_one_effect_on_every_port_2 :
    (dictCmd wG6 7 193 = some (wGv7, Requester.portA, 0)) ∧
    (cmdMode wGv7 = 0) ∧
    (wGv7.cmd.cdw12 = 32) ∧
    (wGv8.length = 32) ∧
    (slice wGv8 0 16 = leBytes 16 1) ∧
    (entryAsk (listEntryAt (List.drop 16 wGv8) 0) = (3211266, some (Val.num 30))) ∧
    (answersFirst Requester.portA 3211266 = false) ∧
    (Accepted wG6 Requester.portA 3211266 (Val.num 30)) ∧
    (decodeVal (hdrKey wGv4) 2 1 [30] = some (Val.num 30)) ∧
    (answersFirst (bolhobaWho wGv4.port) (hdrKey wGv4) = false) ∧
    (bolhobaHeard wG4 wGv4 = true) ∧
    (Accepted wG4 (bolhobaWho wGv4.port) (hdrKey wGv4) (Val.num 30)) := by decide +kernel

theorem test_hypotheses_of_writes_have_one_effect_on_every_port_3 :
    (bolhobaHeard wG4 wGv4 = true) ∧
    (wGv10 ≠ []) ∧
    (wGv10.length ≤ 32) ∧
    (∀ e ∈ List.map entryAsk wGv10, ∀ (w : Val), e.2 = some w → selfCheckDue wG4 e.1 w = none) ∧
    (firstFailing wG4 (bolhobaWho wGv4.port) true (List.map entryAsk wGv10) = some (1, 5)) ∧
    (bolhobaHeard wG4 wGv4 = true) ∧
    (wGv9 ≠ []) ∧
    (wGv9.length ≤ 32) ∧
    (∀ e ∈ List.map entryAsk wGv9, ∀ (w : Val), e.2 = some w → selfCheckDue wG4 e.1 w = none) ∧
    (firstFailing wG4 (bolhobaWho wGv4.port) true (List.map entryAsk wGv9) = none) ∧
    (∀ e ∈ List.map entryAsk wGv9, answersFirst (bolhobaWho wGv4.port) e.1 = false) := by decide +kernel

theorem test_hypotheses_of_writes_have_one_effect_on_every_port_4 :
    (inCoreWindow 588251168 = true) ∧
    (valueAccess (windowKey 588251168) (windowOff 588251168) 1 = true) ∧
    (isScalar (windowKey 588251168) = true) ∧
    (Accepted wG4 (Requester.core 8) (windowKey 588251168) (Val.num (1310 % 2 ^ (8 * 1)))) ∧
    (answersFirst (Requester.core 8) (windowKey 588251168) = false) ∧
    (girthRuns wG4 = true) ∧
    (wGv5.crc = CrcState.good) ∧
    (rxHeld wG4 < 8) ∧
    (girthAsk (key 30736 1) (77 % 2 ^ 32) = some (Val.num 77)) ∧
    (Accepted (rxTake (forward wG4 gtDict wGv5 (dictPayload (wG4.num Obj.hop) 1 3 30736 1 0 77))) Requester.girth (key 30736 1)
      (Val.num 77)) ∧
    (answersFirst Requester.girth (key 30736 1) = false) := by decide +kernel

def wG17 : State :=
  { { wLive with fw := { wLive.fw with mfg := true } } with dict := { wLive.dict with stagings := [(Obj.ownerKey, ⟨.factory, [1, 2]⟩)] } }

def wGv15 : BolhobaHeader :=
  { port := .factory, tag := 1, index := 0x1230, sub := 1 }

def wG8 : State :=
  { wLive with fw := { wLive.fw with mfg := true } }

def wG18 : State :=
  { wLive with fw := { wLive.fw with mfg := true }, start := { wLive.start with mode := .maintenance } }

def wG9 : State :=
  wNums [(Obj.mbAddr 8, dramBase), (Obj.mbLength 8, 64), (Obj.mbObject 8, 0x310002)] { wLive with fw := { wLive.fw with mfg := true } }

def wG7 : State :=
  { wLive with dict := { wLive.dict with stagings := [(Obj.ownerKey, ⟨.mbus, [1, 2]⟩)] } }

def wG19 : State :=
  { wLive with dict := { wLive.dict with mailbox := [(8, ⟨false, false, 0x100001, dramBase, 0, 4⟩)] } }

def wGv16 : MailboxJob :=
  ⟨false, false, 0x100001, dramBase, 0, 4⟩

def wG20 : State :=
  { wLive with dict := { wLive.dict with mailbox := [(8, ⟨true, false, Obj.bundleStage, dramBase, 0, 4⟩)] } }

def wGv17 : MailboxJob :=
  ⟨true, false, Obj.bundleStage, dramBase, 0, 4⟩

theorem test_hypotheses_of_blobs_are_staged_and_applied_1 :
    (bolhobaHeard wG17 wGv15 = true) ∧
    (BlobOpen wG17 (bolhobaWho wGv15.port) (hdrKey wGv15) 2 [5, 6]) ∧
    ([5, 6].length ≤ 960) ∧
    (BlobOpen wG8 Requester.factory Obj.ownerKey 0 []) ∧
    ((fun k => ownStaged wG8 Requester.factory k ++ []) Obj.ownerKey = [] ∨
      ((fun k => ownStaged wG8 Requester.factory k ++ []) Obj.ownerKey).length = 1952 ∧
        countersigned wG8 ((fun k => ownStaged wG8 Requester.factory k ++ []) Obj.ownerKey) = true) ∧
    (BlobOpen wG8 Requester.factory (chainKey ↑0) 0 []) ∧
    (BlobOpen wG8 Requester.factory Obj.bundleStage 0 []) ∧
    (wG8.fw.bundleWriting = none) ∧
    (BlobOpen wG18 Requester.factory Obj.recoveryImage 0 [1]) ∧
    (wG18.fw.programming = none) ∧
    (wG18.num Obj.recoverySlot < 2) := by decide +kernel

theorem test_hypotheses_of_blobs_are_staged_and_applied_2 :
    (Accepted wG9 (Requester.core 8) (Obj.mbCmd ↑8) (Val.num 1)) ∧
    (inDram (wG9.num (Obj.mbAddr ↑8)) (wG9.num (Obj.mbLength ↑8)) = true) ∧
    (Accepted wG7 (Requester.core 8) (Obj.mbCmd ↑8) (Val.num 1)) ∧
    (inDram (wG7.num (Obj.mbAddr ↑8)) (wG7.num (Obj.mbLength ↑8)) = false) ∧
    (Accepted wG9 (Requester.core 8) (Obj.mbCmd ↑8) (Val.num 2)) ∧
    (inDram (wG9.num (Obj.mbAddr ↑8)) (wG9.num (Obj.mbLength ↑8)) = true) ∧
    (Accepted wG7 (Requester.core 8) (Obj.mbCmd ↑8) (Val.num 2)) ∧
    (inDram (wG7.num (Obj.mbAddr ↑8)) (wG7.num (Obj.mbLength ↑8)) = false) ∧
    (Accepted wG9 (Requester.core 8) (Obj.mbCmd ↑8) (Val.num 3)) ∧
    (inDram (wG9.num (Obj.mbAddr ↑8)) (wG9.num (Obj.mbLength ↑8)) = true) ∧
    (Accepted wG7 (Requester.core 8) (Obj.mbCmd ↑8) (Val.num 3)) ∧
    (inDram (wG7.num (Obj.mbAddr ↑8)) (wG7.num (Obj.mbLength ↑8)) = false) := by decide +kernel

theorem test_hypotheses_of_blobs_are_staged_and_applied_3 :
    (wG19.dict.mailbox.find ↑8 = some wGv16) ∧
    (wGv16.write = false) ∧
    (isScalar wGv16.key = false) ∧
    (isBlob wGv16.key = false) ∧
    (Readable wG19 (Requester.core 8) wGv16.key) ∧
    (wG20.dict.mailbox.find ↑8 = some wGv17) ∧
    (wGv17.write = true) ∧
    (wGv17.last = false) ∧
    (isScalar wGv17.key = false) ∧
    (cachedPoisoned wG20.mem wGv17.addr wGv17.len = false) ∧
    (BlobOpen wG20 (Requester.core 8) wGv17.key wGv17.offset (cachedRead wG20.mem wGv17.addr wGv17.len)) := by decide +kernel

def wG10 : State :=
  wNums [(Obj.straps, 0), (Obj.linkState, 1)] wLive

def wG11 : State :=
  wNums [(Obj.straps, 0), (Obj.linkState, 2)] wLive

theorem test_hypotheses_of_management_messages_are_answered_1 :
    (bolhobaHeard wG10 wGv4 = true) ∧
    (58714 = 58714) ∧
    (2 ≠ 1 ∨ 133 = 0 ∨ 6 < 133) ∧
    (5 ≠ 58714) ∧
    (mainPowered wG10 = true) ∧
    (wG10.start.mode ≠ RunMode.halted) ∧
    (wG10.num Obj.straps % 2 = 0) ∧
    (127 < 128) ∧
    (24576 / 256 = 96) ∧
    (wG10.num Obj.linkState = 1) ∧
    (Readable (wG10.emit (Out.link "OBJECT" [↑24576, ↑7])) Requester.mbus (key 24576 7)) ∧
    (isScalar (key 24576 7) = true) := by decide +kernel

theorem test_hypotheses_of_management_messages_are_answered_2 :
    (24576 / 256 = 96) ∧
    (wG10.num Obj.linkState = 1) ∧
    (decodeVal (key 24576 7) (typOf (key 24576 7)) (leBytes 2 4001).length (leBytes 2 4001) = some (Val.num 4001)) ∧
    (Accepted (wG10.emit (Out.link "OBJECT" [↑24576, ↑7])) Requester.mbus (key 24576 7) (Val.num 4001)) ∧
    (OwnValue (wG10.emit (Out.link "OBJECT" [↑24576, ↑7])) Requester.mbus (key 24576 7) (Val.num 4001)) ∧
    (24576 / 256 = 96) ∧
    (wG11.num Obj.linkState ≠ 1) ∧
    (heard wG11 Requester.mbus (key 24576 7) = true) ∧
    (gateStatus wG11 Requester.mbus (key 24576 7) true = dsOk) := by decide +kernel

def wG12 : State :=
  wNums [(Obj.playerState 0, 0), (Obj.ringEntries 0, 8)] (wGroup 1)

def wG13 : State :=
  wPlays [wEntry]

def wG14 : State :=
  wNums [(Obj.loadState 0, 2)] wLive

def wG21 : State :=
  let s := wNums [(Obj.preampFormat 1, 0)] (wGroup 1 { wLive with fw := { wLive.fw with mfg := true } }); s.modEngine 4 fun x => { x with slot := 1 }

def wGv14 : List Byte :=
  [0, 5, 0, 0, 0, 0, 0, 0]

def wG22 : State :=
  let s := wNums [(Obj.preampFormat 1, 0)] (wGroup 1 { wLive with fw := { wLive.fw with mfg := true } }); s.modChan 1 fun c => { c with onBus := some ⟨0, 0, none, false, 0⟩ }

def wGv13 : List Byte :=
  leBytes 2 5 ++ [0, 0] ++ leBytes 4 0x40000001 ++ leBytes 4 3

theorem test_hypotheses_of_writes_act_on_players_and_groups :
    (AcceptedNum wG12 (Requester.core 0) (Obj.loadAddr ↑0) dramBase) ∧
    (AcceptedNum wG12 (Requester.core 0) (Obj.objAbort ↑0) 1) ∧
    (AcceptedNum wG13 (Requester.core 0) (Obj.objAbort ↑0) 1) ∧
    (AcceptedNum wG14 (Requester.core 0) (Obj.objAbort ↑0) 1) ∧
    (AcceptedRec wG21 Requester.factory (Obj.preampAccess ↑1) wGv14) ∧
    (AcceptedRec wG22 Requester.factory (Obj.preampAccess ↑1) wGv14) ∧
    (4 ≤ ↑4) ∧
    (↑4 < 8) ∧
    (AcceptedNum wG12 (Requester.core 4) (Obj.ringTail (↑4 - 4)) 1) ∧
    (AcceptedRec wG12 (Requester.core 4) (Obj.coefWrite ↑1) wGv13) ∧
    (AcceptedNum wG12 (Requester.core 4) (Obj.snapRequest ↑1) 1) ∧
    (AcceptedNum wG21 Requester.factory (Obj.inject ↑1) 1) ∧
    (AcceptedNum wG12 (Requester.core 4) (Obj.traceArm ↑1) 1) ∧
    (AcceptedNum wG12 (Requester.core 4) (Obj.traceForce ↑1) 1) := by decide +kernel

def wH1 : State :=
  wNums [(Obj.lastResetCause, 3), (Obj.altForce, 5)] (wIdle false false)

def wH2 : State :=
  wIdle true false

def wH3 : State :=
  wIdle true true

def wH40 : State :=
  let s := wIdle true true; { s with start := { s.start with restartMaintenance := true } }

def wH4 : State :=
  wStarts 6 0

def wH8 : State :=
  wStarts 2 4

def wH42 : State :=
  wStarts 4 0

def wH41 : State :=
  wNums [(Obj.tick, 60 * 25000000), (Obj.v3p3Enable, 15)] (wStarts 6 0)

def wH6 : State :=
  wNums [(Obj.tick, 60 * 25000000), (Obj.v3p3Enable, 15)] (wIdle true false)

theorem test_hypotheses_of_start_attempts_begin_and_fail_1 :
    (mainPowered wH1 = true ∧ wH1.start.running = false ∧ wH1.power.off = none ∧ lifecycle wH1 ≠ lcScrapped) ∧
    (wH1.start.mode = RunMode.starting) ∧
    (wH1.start.restartAsked = false) ∧
    (wH1.start.inReset = false) ∧
    (mainPowered wH2 = true ∧ wH2.start.running = false ∧ wH2.power.off = none ∧ lifecycle wH2 ≠ lcScrapped) ∧
    (wH2.start.mode = RunMode.starting) ∧
    (wH2.start.restartAsked = false) ∧
    (wH2.start.inReset = true) := by decide +kernel

theorem test_hypotheses_of_start_attempts_begin_and_fail_2 :
    (mainPowered wH3 = true ∧ wH3.start.running = false ∧ wH3.power.off = none ∧ lifecycle wH3 ≠ lcScrapped) ∧
    (wH3.start.mode ≠ RunMode.halted) ∧
    (wH3.start.restartAsked = true) ∧
    (wH3.start.inReset = true) ∧
    (wH3.start.restartMaintenance = false) := by decide +kernel

theorem test_hypotheses_of_start_attempts_begin_and_fail_3 :
    (mainPowered wH40 = true ∧ wH40.start.running = false ∧ wH40.power.off = none ∧ lifecycle wH40 ≠ lcScrapped) ∧
    (wH40.start.mode ≠ RunMode.halted) ∧
    (wH40.start.restartAsked = true) ∧
    (wH40.start.inReset = true) ∧
    (wH40.start.restartMaintenance = true) := by decide +kernel

theorem test_hypotheses_of_start_attempts_begin_and_fail_4 :
    (wH4.start.running = true ∧
      wH4.power.off = none ∧
        1 ≤ wH4.start.step ∧ wH4.start.step ≤ 20 ∧ wH4.start.ledger.getLast? = some wRecord ∧ wRecord.mark = false) ∧
    (wH4.start.maintenance = false) ∧
    (¬(wH4.start.step = 2 ∧ stepAlt wH4 2 = true ∨ wH4.start.step = 3 ∧ fuseWordLost {} = true)) ∧
    (¬((wH4.start.step = 4 ∨ wH4.start.step = 5) ∧ slotAccepted wH4 0 = false ∧ slotAccepted wH4 1 = false)) := by decide +kernel

theorem test_hypotheses_of_start_attempts_begin_and_fail_5 :
    (wH8.start.running = true ∧
      wH8.power.off = none ∧
        1 ≤ wH8.start.step ∧ wH8.start.step ≤ 20 ∧ wH8.start.ledger.getLast? = some wRecord ∧ wRecord.mark = false) ∧
    (wH8.start.step = 2 ∧ stepAlt wH8 2 = true ∨ wH8.start.step = 3 ∧ fuseWordLost { } = true) := by decide +kernel

theorem test_hypotheses_of_start_attempts_begin_and_fail_6 :
    (wH42.start.running = true ∧
      wH42.power.off = none ∧
        1 ≤ wH42.start.step ∧ wH42.start.step ≤ 20 ∧ wH42.start.ledger.getLast? = some wRecord ∧ wRecord.mark = false) ∧
    (¬(wH42.start.step = 2 ∧ stepAlt wH42 2 = true ∨ wH42.start.step = 3 ∧ fuseWordLost { } = true)) ∧
    ((wH42.start.step = 4 ∨ wH42.start.step = 5) ∧ slotAccepted wH42 0 = false ∧ slotAccepted wH42 1 = false ∨
      wH42.start.maintenance = true) := by decide +kernel

theorem test_hypotheses_of_start_attempts_begin_and_fail_7 :
    (wH1.start.running = false ∨ wH1.power.off ≠ none) ∧
    (wH41.start.running = true ∧
      wH41.power.off = none ∧
        1 ≤ wH41.start.step ∧ wH41.start.step ≤ 20 ∧ wH41.start.ledger.getLast? = some wRecord ∧ wRecord.mark = false) ∧
    (wH41.power.off = none ∧
      wH41.start.mode = RunMode.starting ∧
        wH41.start.maintenance = false ∧ mainPowered wH41 = true ∧ 1000 * wH41.num Obj.startDeadlineS ≤ elapsedMs wH41) := by decide +kernel

theorem test_hypotheses_of_start_attempts_begin_and_fail_8 :
    (wH6.power.off = none ∧
      wH6.start.mode = RunMode.starting ∧
        wH6.start.maintenance = false ∧ mainPowered wH6 = true ∧ 1000 * wH6.num Obj.startDeadlineS ≤ elapsedMs wH6) ∧
    (wH6.start.running = false) ∧
    (wH6.start.inReset = true) ∧
    (wH6.start.restartAsked = false) := by decide +kernel

def wH44 : State :=
  wFw (fun f => { f with coreImage := wImage }) (wStarts 10 0)

def wH43 : State :=
  let s := wFw (fun f => { f with coreImage := wImage }) (wStarts 10 0); { s with start := { s.start with maintenance := true } }

def wH45 : State :=
  wNums [(Obj.spinMode, smRein)] (wStarts 20 0)

def wH46 : State :=
  wStarts 12 4096

def wH7 : State :=
  wStarts 1 0

def wH47 : State :=
  wStarts 16 0

def wH10 : State :=
  wStarts 20 0 (wNums [(Obj.collectorState, 1)] wLive)

def wH48 : State :=
  { wLive with power := { wLive.power with off := some .linkFault } }

theorem test_hypotheses_of_start_steps_pass_and_restart_quiesces_1 :
    ((wH8.start.running = true ∧ wH8.power.off = none ∧ wH8.start.ledger.getLast? = some wRecord ∧ wRecord.mark = false) ∧
      stepCheck wH8 { } = StepCheck.pass) ∧
    (1 ≤ wH8.start.step) ∧
    (wH8.start.step ≤ 19) ∧
    (wH8.start.maintenance = false ∨ wH8.start.step ≠ 10) := by decide +kernel

theorem test_hypotheses_of_start_steps_pass_and_restart_quiesces_2 :
    ((wH4.start.running = true ∧ wH4.power.off = none ∧ wH4.start.ledger.getLast? = some wRecord ∧ wRecord.mark = false) ∧
      stepCheck wH4 { } = StepCheck.pass) ∧
    (1 ≤ wH4.start.step) ∧
    (wH4.start.step ≤ 19) ∧
    (wH4.start.maintenance = false ∨ wH4.start.step ≠ 10) := by decide +kernel

theorem test_hypotheses_of_start_steps_pass_and_restart_quiesces_3 :
    ((wH44.start.running = true ∧ wH44.power.off = none ∧ wH44.start.ledger.getLast? = some wRecord ∧ wRecord.mark = false) ∧
      stepCheck wH44 { } = StepCheck.pass) ∧
    (1 ≤ wH44.start.step) ∧
    (wH44.start.step ≤ 19) ∧
    (wH44.start.maintenance = false ∨ wH44.start.step ≠ 10) := by decide +kernel

theorem test_hypotheses_of_start_steps_pass_and_restart_quiesces_4 :
    ((wH43.start.running = true ∧ wH43.power.off = none ∧ wH43.start.ledger.getLast? = some wRecord ∧ wRecord.mark = false) ∧
      stepCheck wH43 { } = StepCheck.pass) ∧
    (wH43.start.step = 10) ∧
    (wH43.start.maintenance = true) ∧
    ((wH45.start.running = true ∧ wH45.power.off = none ∧ wH45.start.ledger.getLast? = some wRecord ∧ wRecord.mark = false) ∧
      stepCheck wH45 { } = StepCheck.pass) ∧
    (wH45.start.step = 20) := by decide +kernel

theorem test_hypotheses_of_start_steps_pass_and_restart_quiesces_5 :
    (wH46.start.running = true ∧ wH46.power.off = none ∧ wH46.start.ledger.getLast? = some wRecord ∧ wRecord.mark = false) ∧
    (wH46.start.step = 12) ∧
    (stepAlt wH46 wH46.start.step = true) ∧
    (wH7.start.step ≠ 12 ∨ stepAlt wH7 wH7.start.step = false) ∧
    (wH7.start.running = true ∧ wH7.power.off = none ∧ wH7.start.ledger.getLast? = some wRecord ∧ wRecord.mark = false) ∧
    (stepCheck wH7 { } = StepCheck.wait) := by decide +kernel

theorem test_hypotheses_of_start_steps_pass_and_restart_quiesces_6 :
    (wH47.start.running = true ∧ wH47.power.off = none ∧ wH47.start.ledger.getLast? = some wRecord ∧ wRecord.mark = false) ∧
    (stepCheck wH47 { } = StepCheck.fail) ∧
    (Accepted wH7 Requester.mbus Obj.restart (Val.num 1)) ∧
    (wH7.power.off = none) ∧
    (inSafe wH7 = false) ∧
    (Accepted wLive Requester.mbus Obj.restart (Val.num 1)) ∧
    (wLive.power.off = none) ∧
    (inSafe wLive = false) := by decide +kernel

theorem test_hypotheses_of_start_steps_pass_and_restart_quiesces_7 :
    (Accepted wH10 Requester.mbus Obj.restart (Val.num 1)) ∧
    (wH10.power.off = none) ∧
    (inSafe wH10 = true) ∧
    (wH10.start.mode ≠ RunMode.halted) ∧
    (Accepted wH48 Requester.mbus Obj.restart (Val.num 1)) ∧
    (wH48.power.off ≠ none) ∧
    (Accepted wH7 Requester.mbus Obj.restart (Val.num 2)) ∧
    (wH7.power.off = none) ∧
    (inSafe wH7 = false) ∧
    (Accepted wLive Requester.mbus Obj.restart (Val.num 2)) ∧
    (wLive.power.off = none) ∧
    (inSafe wLive = false) := by decide +kernel

theorem test_hypotheses_of_start_steps_pass_and_restart_quiesces_8 :
    (Accepted wH10 Requester.mbus Obj.restart (Val.num 2)) ∧
    (wH10.power.off = none) ∧
    (inSafe wH10 = true) ∧
    (wH10.start.mode ≠ RunMode.halted) ∧
    (Accepted wH48 Requester.mbus Obj.restart (Val.num 2)) ∧
    (wH48.power.off ≠ none) := by decide +kernel

def wH11 : State :=
  wAdmin { opcode := 0x11, cid := 4, cdw10 := 1023, cdw11 := 1024 } wLive

def wHv1 : CmdSlot :=
  wCmd { opcode := 0x11, cid := 4, cdw10 := 1023, cdw11 := 1024 }

def wH12 : State :=
  wAdmin { opcode := 0x10, cid := 4, cdw10 := 2 } wLive

def wHv2 : CmdSlot :=
  wCmd { opcode := 0x10, cid := 4, cdw10 := 2 }

def wH13 : State :=
  wAdmin { opcode := 0x10, cid := 4, cdw10 := 10 } wLive

def wHv3 : CmdSlot :=
  wCmd { opcode := 0x10, cid := 4, cdw10 := 10 }

def wH14 : State :=
  wAdmin { opcode := 0x10, cid := 4, cdw10 := 18 } (wFw (fun f => { f with slots := .replicate 2 ⟨[], 1⟩ }))

def wHv4 : CmdSlot :=
  wCmd { opcode := 0x10, cid := 4, cdw10 := 18 }

def wH15 : State :=
  wAdmin { opcode := 0x10, cid := 4, cdw10 := 26 } (wFw (fun f => { f with slots := .replicate 2 ⟨[], 1⟩ }))

def wHv5 : CmdSlot :=
  wCmd { opcode := 0x10, cid := 4, cdw10 := 26 }

def wH16 : State :=
  wAdmin { opcode := 0x10, cid := 4, cdw10 := 58 } wLive

def wHv6 : CmdSlot :=
  wCmd { opcode := 0x10, cid := 4, cdw10 := 58 }

def wH17 : State :=
  wFw (fun f => { f with programming := some ⟨1, [1, 2], true, true, none⟩ })

def wHv7 : SlotProgram :=
  ⟨1, [1, 2], true, true, none⟩

def wH18 : State :=
  wFw (fun f => { f with programming := some ⟨1, [1, 2], false, false, some 7⟩ }) (wAdmin { opcode := 0x10, cid := 4 })

def wHv8 : SlotProgram :=
  ⟨1, [1, 2], false, false, some 7⟩

theorem test_hypotheses_of_firmware_is_downloaded_and_committed_1 :
    (adminCmd wH11 7 17 = some wHv1) ∧
    (4 * wHv1.cmd.cdw11 + 4 * (wHv1.cmd.cdw10 + 1) ≤ 24 * 2 ^ 20) ∧
    (4 * wHv1.cmd.cdw11 % 4096 = 0) ∧
    (4 * (wHv1.cmd.cdw10 + 1) % 4096 = 0) ∧
    ((List.replicate 4096 1).length = 4 * (wHv1.cmd.cdw10 + 1)) ∧
    (∀ e ∈ vget wH11.fw.staging (portNo wHv1.port) [],
      e.1 + e.2.length ≤ 4 * wHv1.cmd.cdw11 ∨ 4 * wHv1.cmd.cdw11 + 4 * (wHv1.cmd.cdw10 + 1) ≤ e.1) ∧
    (commitTurn wH12 7 [0] = some wHv2) ∧
    (commitSlot wH12 wHv2 = some 1) ∧
    (1 ≠ wH12.num Obj.runningSlot) ∧
    (commitTurn wH13 7 [1] = some wHv3) ∧
    (commitSlot wH13 wHv3 = some 1) ∧
    (1 ≠ wH13.num Obj.runningSlot) := by decide +kernel

theorem test_hypotheses_of_firmware_is_downloaded_and_committed_2 :
    (commitTurn wH14 7 [2] = some wHv4) ∧
    (commitSlot wH14 wHv4 = some 1) ∧
    (slotValid wH14 1 = true) ∧
    (commitTurn wH15 7 [3] = some wHv5) ∧
    (commitSlot wH15 wHv5 = some 1) ∧
    (slotValid wH15 1 = true) ∧
    (1 ≠ wH15.num Obj.runningSlot) ∧
    (wH15.fw.activation = none) ∧
    (normalMode wH15 = true) ∧
    (imageHandoff (imageSlot wH15 1).bytes = imageHandoff (runningImage wH15)) ∧
    (commitTurn wH16 7 [4, 5, 6, 7] = some wHv6) ∧
    (wH17.fw.programming = some wHv7) ∧
    (wHv7.slot < 2) ∧
    (wHv7.cmdSlot = none) := by decide +kernel

theorem test_hypotheses_of_firmware_is_downloaded_and_committed_3 :
    (wH18.fw.programming = some wHv8) ∧
    (wHv8.slot < 2) ∧
    (wHv8.cmdSlot = some 7) := by decide +kernel

def wH19 : State :=
  wFw (fun f => { f with activation := some ⟨1, none, false, false, false, 1⟩ }) (wAdmin { opcode := 0x10, cid := 4 })

def wHv9 : Activation :=
  ⟨1, none, false, false, false, 1⟩

def wH20 : State :=
  wFw (fun f => { f with activation := some ⟨1, some 7, false, false, false, 1⟩ }) (wAdmin { opcode := 0x10, cid := 4 })

def wHv10 : Activation :=
  ⟨1, some 7, false, false, false, 1⟩

def wH21 : State :=
  wFw (fun f => { f with activation := some ⟨1, none, true, false, false, 1⟩ }) (wAdmin { opcode := 0x10, cid := 4 })

def wHv11 : Activation :=
  ⟨1, none, true, false, false, 1⟩

def wH24 : State :=
  wFw (fun f => { f with activation := some ⟨1, none, true, false, true, 1⟩ }) (wAdmin { opcode := 0x10, cid := 4 })

def wHv14 : Activation :=
  ⟨1, none, true, false, true, 1⟩

def wH22 : State :=
  wFw (fun f => { f with activation := some ⟨1, some 7, true, false, false, 1⟩ }) (wAdmin { opcode := 0x10, cid := 4 })

def wHv12 : Activation :=
  ⟨1, some 7, true, false, false, 1⟩

def wH23 : State :=
  wFw (fun f => { f with activation := some ⟨1, some 7, true, false, true, 1⟩ }) (wAdmin { opcode := 0x10, cid := 4 })

def wHv13 : Activation :=
  ⟨1, some 7, true, false, true, 1⟩

def wH25 : State :=
  wFw (fun f => { f with activation := some ⟨1, none, true, true, false, 1⟩ }) (wAdmin { opcode := 0x10, cid := 4 })

def wHv15 : Activation :=
  ⟨1, none, true, true, false, 1⟩

def wH26 : State :=
  wFw (fun f => { f with bundleWriting := some wBundle })

theorem test_hypotheses_of_activations_and_bundles_take_their_steps_1 :
    (wH19.fw.activation = some wHv9) ∧
    (wHv9.staged = false) ∧
    (wH20.fw.activation = some wHv10) ∧
    (wHv10.staged = false) ∧
    (slotAccepted wH20 wHv10.slot = false) ∧
    (wHv10.cmdSlot = some 7) ∧
    (wH21.fw.activation = some wHv11) ∧
    (wHv11.staged = true) ∧
    (wHv11.unfrozen = false) ∧
    (wH21.fw.heldResets = []) ∧
    (wHv11.cmdSlot = none) := by decide +kernel

theorem test_hypotheses_of_activations_and_bundles_take_their_steps_2 :
    (wH24.fw.activation = some wHv14) ∧
    (wHv14.staged = true) ∧
    (wHv14.unfrozen = false) ∧
    (wH24.fw.heldResets = []) ∧
    (wHv14.cmdSlot = none) ∧
    (wH22.fw.activation = some wHv12) ∧
    (wHv12.staged = true) ∧
    (wHv12.unfrozen = false) ∧
    (wH22.fw.heldResets = []) ∧
    (wHv12.cmdSlot = some 7) := by decide +kernel

theorem test_hypotheses_of_activations_and_bundles_take_their_steps_3 :
    (wH23.fw.activation = some wHv13) ∧
    (wHv13.staged = true) ∧
    (wHv13.unfrozen = false) ∧
    (wH23.fw.heldResets = []) ∧
    (wHv13.cmdSlot = some 7) ∧
    (wH21.fw.activation = some wHv11) ∧
    (wHv11.staged = true) ∧
    (wHv11.switched = false) ∧
    (∀ (p : Fin 8), wH21.num (Obj.loadState ↑p) = 2 ∨ wH21.num (Obj.loadState ↑p) = 3 → (wH21.playerOf ↑p).header.bank = wHv11.bank) := by decide +kernel

theorem test_hypotheses_of_activations_and_bundles_take_their_steps_4 :
    (wH25.fw.activation = some wHv15) ∧
    (wHv15.staged = true) ∧
    (wHv15.switched = false) ∧
    (∀ (p : Fin 8), wH25.num (Obj.loadState ↑p) = 2 ∨ wH25.num (Obj.loadState ↑p) = 3 → (wH25.playerOf ↑p).header.bank = wHv15.bank) ∧
    (wH26.fw.bundleWriting = some wBundle) := by decide +kernel

def wH27 : State :=
  wFw (fun f => { f with mfg := true, dep := true, identity := true, nonce := some (.mbus, 9) })

def wHv16 : List Byte :=
  [3, 0, 0, 0, 9, 0, 0, 0]

def wH39 : State :=
  wFw (fun f => { f with mfg := true, dep := true, identity := true, nonce := some (.mbus, 9), ownerKey := [1], nsKeys := [(3, 1)] })

def wHv23 : List Byte :=
  [4, 0, 0, 0, 9, 0, 0, 0]

def wH28 : State :=
  wAdmin { opcode := 0x84, cid := 4, nsid := 3, cdw10 := 4 } { wLive with host := { wLive.host with namespaces := [(3, wNs)] } }

def wHv17 : CmdSlot :=
  { wCmd { opcode := 0x84, cid := 4, nsid := 3, cdw10 := 4 } with started := true }

def wH29 : State :=
  wAdmin { opcode := 0x84, cid := 4, nsid := 3, cdw10 := 2 } { wLive with host := { wLive.host with namespaces := [(3, wNs)] } }

def wHv18 : CmdSlot :=
  { wCmd { opcode := 0x84, cid := 4, nsid := 3, cdw10 := 2 } with started := true }

def wH30 : State :=
  wAdmin { opcode := 0x84, cid := 4, nsid := 3, cdw10 := 3 } { wLive with host := { wLive.host with namespaces := [(3, wNs)] } }

def wHv19 : CmdSlot :=
  { wCmd { opcode := 0x84, cid := 4, nsid := 3, cdw10 := 3 } with started := true }

def wH31 : State :=
  let s := wAdmin { opcode := 0x80, cid := 4, nsid := 3, cdw10 := 0x31 } { wLive with host := { wLive.host with namespaces := [(3, wNs)] } }; { s with host := { s.host with slots := [(7, { wCmd { opcode := 0x80, cid := 4, nsid := 3, cdw10 := 0x31 } with started := false })] } }

def wHv20 : CmdSlot :=
  { wCmd { opcode := 0x80, cid := 4, nsid := 3, cdw10 := 0x31 } with started := false }

def wH32 : State :=
  wFw (fun f => { f with erasing := [3], nsKeys := [(3, 8)] }) { wLive with host := { wLive.host with namespaces := [(3, wNs)] } }

def wH34 : State :=
  { wLive with media := { wLive.media with grownPending := [(47, List.replicate 16 5)], moving := some (1, 47) } }

theorem test_hypotheses_of_lifecycle_keys_and_erase_take_effect_1 :
    (AcceptedRec wH27 Requester.mbus Obj.lifecycleRequest wHv16) ∧
    (inSafe wH27 = false) ∧
    (wH27.start.running = false) ∧
    (wH27.fw.destroyed = false) ∧
    (wH27.power.off = none) ∧
    (AcceptedRec wH39 Requester.mbus Obj.lifecycleRequest wHv23) ∧
    (inSafe wH39 = false) ∧
    (wH39.start.running = false) ∧
    (wH39.fw.destroyed = false) ∧
    (wH39.power.off = none) := by decide +kernel

theorem test_hypotheses_of_lifecycle_keys_and_erase_take_effect_2 :
    (adminCmd wH28 7 132 = some wHv17) ∧
    (wHv17.cmd.cdw10 % 8 = 4) ∧
    (normalMode wH28 = true) ∧
    (wH28.fw.erasing = []) ∧
    (wH28.host.namespaces ≠ []) ∧
    (adminCmd wH29 7 132 = some wHv18) ∧
    (wHv18.cmd.cdw10 % 8 = 2) ∧
    (adminCmd wH30 7 132 = some wHv19) ∧
    (wHv19.cmd.cdw10 % 8 = 3) := by decide +kernel

theorem test_hypotheses_of_lifecycle_keys_and_erase_take_effect_3 :
    (adminCmd wH31 7 128 = some wHv20) ∧
    (wHv20.started = false) ∧
    (normalMode wH31 = true) ∧
    (wHv20.cmd.nsid ≠ 4294967295) ∧
    (nsOf wH31 wHv20.cmd.nsid = some wNs) ∧
    (wH31.fw.erasing.contains wHv20.cmd.nsid = false) ∧
    (wHv20.cmd.cdw10 % 16 = 0 ∧ fld wHv20.cmd.cdw10 7 5 = 0 ∨
      wHv20.cmd.cdw10 % 16 = 1 ∧ (fld wHv20.cmd.cdw10 7 5 = 1 ∨ fld wHv20.cmd.cdw10 7 5 = 3) ∧ bit wHv20.cmd.cdw10 4 = true) ∧
    (fld wHv20.cmd.cdw10 11 9 ≤ 2) := by decide +kernel

theorem test_hypotheses_of_lifecycle_keys_and_erase_take_effect_4 :
    (wH32.fw.erasing.contains 3 = true) ∧
    (nsOf wH32 3 = some wNs) ∧
    (wNs.nsid = 3) ∧
    (∀ e ∈ wH32.host.slots, e.2.io = true → e.2.released = false → e.2.cmd.nsid ≠ 3) ∧
    (scanLocked wH28 = false) ∧
    (TapInstr.bypass ≠ TapInstr.programMfg) ∧
    (scanLocked wH28 = false) ∧
    (scanLocked wH27 = true) ∧
    (wH34.media.grownPending.contains (↑47, List.replicate 16 5) = true) ∧
    (wH34.media.moving = some (↑1, ↑47)) := by decide +kernel

def wH35 : State :=
  wFw (fun f => { f with spdmAlgs := .replicate 3 true }) (wLive.setStr Obj.certChain0 [1, 2, 3])

def wH36 : State :=
  wFw (fun f => { f with mfg := true, dep := true, destroyed := true })

def wH37 : State :=
  wAdmin { opcode := 0x81, cid := 4, cdw10 := 0xE8000100 } wLive

def wHv21 : CmdSlot :=
  wCmd { opcode := 0x81, cid := 4, cdw10 := 0xE8000100 }

def wH38 : State :=
  wAdmin { opcode := 0x82, cid := 4, cdw10 := 0xE8000100 } wLive

def wHv22 : CmdSlot :=
  wCmd { opcode := 0x82, cid := 4, cdw10 := 0xE8000100 }

theorem test_hypotheses_of_spdm_requests_are_answered_1 :
    (spdmServes wLive = true) ∧
    (spdmServes wH35 = true) ∧
    (spdmReady wH35 SpdmPort.mctp = none) ∧
    (spdmServes wH35 = true) ∧
    (spdmReady wH35 SpdmPort.mctp = none) ∧
    (0 < 2) ∧
    (1 < (chainOf wH35 0).length) ∧
    (spdmServes wH35 = true) ∧
    (spdmReady wH35 SpdmPort.mctp = none) ∧
    (0 < 2) ∧
    (chainOf wH35 0 ≠ []) ∧
    (0 ∈ [0, 1, 255]) := by decide +kernel

theorem test_hypotheses_of_spdm_requests_are_answered_2 :
    (spdmServes wH35 = true) ∧
    (spdmReady wH35 SpdmPort.mctp = none) ∧
    (1 ≤ 6) ∧
    (6 ≤ 6) ∧
    (Nat.testBit 0 0 = false) ∧
    (spdmServes wH36 = true) ∧
    (spdmReady wH36 SpdmPort.mctp = some 5) ∧
    (adminCmd wH37 7 129 = some wHv21) ∧
    (wHv21.cmd.cdw10 / 2 ^ 24 % 256 = 232) ∧
    (adminCmd wH38 7 130 = some wHv22) ∧
    (wHv22.cmd.cdw10 / 2 ^ 24 % 256 = 232) := by decide +kernel

def wIv1 : Cq :=
  ⟨8, 3, 3, [], 0, false, 0, 0⟩

def wI1 : State :=
  wHost.modCtrl .a fun k => { k with cqs := [(0, ⟨8, 0, 0, [], 0, false, 0, 0⟩), (1, ⟨8, 4, 3, [⟨9, 1, 2, 3, 4, none⟩], 0, false, 0, 0⟩)] }

def wIv3 : Cq :=
  ⟨8, 4, 3, [⟨9, 1, 2, 3, 4, none⟩], 0, false, 0, 0⟩

def wI28 : State :=
  ({ wHost with fw := { wHost.fw with erasing := [3] } } : State).modCtrl .a fun k => { k with turn := 0 }

def wIv4 : SqEntry :=
  { opcode := 2, cid := 6, nsid := 3, cdw10 := 4, cdw12 := 1 }

def wI29 : State :=
  wNums [(Obj.portSlotMax, 0)] wHost

def wI2 : State :=
  wHost.modCtrl .a fun k => { k with turn := 0 }

def wI3 : State :=
  wHost.modCtrl .b fun k => { k with aers := [1, 2, 3, 4, 5, 6, 7, 8] }

def wIv5 : Cq :=
  ⟨8, 0, 0, [], 0, false, 0, 0⟩

def wI4 : State :=
  wSlots [(20, wIo { opcode := 0x70, cid := 6 })]

def wIv7 : CmdSlot :=
  wIo { opcode := 0x70, cid := 6 }

def wI5 : State :=
  wSlots [(7, wCmd { opcode := 8, cid := 6, cdw10 := 0x60001 }), (20, wIo { opcode := 2, cid := 6 })]

def wIv8 : CmdSlot :=
  wCmd { opcode := 8, cid := 6, cdw10 := 0x60001 }

def wI31 : State :=
  wSlots [(20, wIo { opcode := 2, cid := 6 })]

def wIv30 : CmdSlot :=
  wIo { opcode := 2, cid := 6 }

def wI30 : State :=
  let s := wSlots [(20, wIo { opcode := 0x70, cid := 6 })]; { s with fw := { s.fw with frozen := true } }

theorem test_hypotheses_of_commands_are_fetched_and_end_1 :
    ((wHost.ctrl Port.a).sqs.find 1 = some { size := 8, cq := 1, head := 7, tail := 2 }) ∧
    (4 < { size := 8, cq := 1, head := 7, tail := 2 : Sq }.size) ∧
    ((wHost.ctrl Port.a).cqs.find 1 = some wIv1) ∧
    (5 < wIv1.size) ∧
    (NoShutdown wHost) ∧
    (wIv1.waiting = []) ∧
    ((wI1.ctrl Port.a).cqs.find 1 = some wIv3) ∧
    (5 < wIv3.size) ∧
    (NoShutdown wI1) ∧
    (wIv3.waiting = [{ cid := 9, sct := 1, sc := 2, dw0 := 3, dw1 := 4, slot := none }]) ∧
    (wI1.fw.frozen = false) ∧
    ((wIv3.tail + 1) % wIv3.size ≠ 5) := by decide +kernel

theorem test_hypotheses_of_commands_are_fetched_and_end_2 :
    ((wI28.ctrl Port.a).sqs.find 1 = some { size := 8, cq := 1, head := 7, tail := 2 }) ∧
    (fetches wI28 Port.a = true) ∧
    ({ size := 8, cq := 1, head := 7, tail := 2 : Sq }.head ≠ { size := 8, cq := 1, head := 7, tail := 2 : Sq }.tail) ∧
    (nextQueue wI28 Port.a = some 1) ∧
    (slotFree wI28 Port.a (decide (1 ≠ 0)) = true) ∧
    (decide (1 ≠ 0) = true) ∧
    (wI28.fw.erasing.contains wIv4.nsid = true) ∧
    ((wI29.ctrl Port.a).sqs.find 1 = some { size := 8, cq := 1, head := 7, tail := 2 }) ∧
    (fetches wI29 Port.a = true) ∧
    ({ size := 8, cq := 1, head := 7, tail := 2 : Sq }.head ≠ { size := 8, cq := 1, head := 7, tail := 2 : Sq }.tail) ∧
    (slotFree wI29 Port.a (decide (1 ≠ 0)) = false) := by decide +kernel

theorem test_hypotheses_of_commands_are_fetched_and_end_3 :
    ((wI2.ctrl Port.a).sqs.find 1 = some { size := 8, cq := 1, head := 7, tail := 2 }) ∧
    (fetches wI2 Port.a = true) ∧
    ({ size := 8, cq := 1, head := 7, tail := 2 : Sq }.head ≠ { size := 8, cq := 1, head := 7, tail := 2 : Sq }.tail) ∧
    (nextQueue wI2 Port.a = some 1) ∧
    (decide (1 ≠ 0) = true → wI2.fw.erasing.contains wIv4.nsid = false) ∧
    (decide (1 ≠ 0) = false → wIv4.opcode ≠ 12) ∧
    (slotFree wI2 Port.a (decide (1 ≠ 0)) = true) ∧
    (wI2.num Obj.powerState ≠ 4) ∧
    (wI2.host.psEntry ≠ some 4) ∧
    (uncheckedSlot wI2 = none) ∧
    (reservationOf wI2 wIv4.nsid = Reservation.blank) := by decide +kernel

theorem test_hypotheses_of_commands_are_fetched_and_end_4 :
    ((wHost.ctrl Port.b).sqs.find 0 = some { size := 8, cq := 0, head := 0, tail := 2 }) ∧
    (fetches wHost Port.b = true) ∧
    ({ size := 8, cq := 0, head := 0, tail := 2 : Sq }.head ≠ { size := 8, cq := 0, head := 0, tail := 2 : Sq }.tail) ∧
    (nextQueue wHost Port.b = some 0) ∧
    (slotFree wHost Port.b false = true) ∧
    ((wHost.ctrl Port.b).aers.length < 8) ∧
    ((wHost.ctrl Port.b).notices = []) ∧
    ((wI3.ctrl Port.b).sqs.find 0 = some { size := 8, cq := 0, head := 0, tail := 2 }) ∧
    (fetches wI3 Port.b = true) ∧
    ({ size := 8, cq := 0, head := 0, tail := 2 : Sq }.head ≠ { size := 8, cq := 0, head := 0, tail := 2 : Sq }.tail) ∧
    (nextQueue wI3 Port.b = some 0) ∧
    (slotFree wI3 Port.b false = true) ∧
    (8 ≤ (wI3.ctrl Port.b).aers.length) ∧
    (CqRoom wI3 Port.b 0 wIv5) := by decide +kernel

theorem test_hypotheses_of_commands_are_fetched_and_end_5 :
    (wI4.slot 20 = some wIv7) ∧
    (wIv7.stalled = false) ∧
    ((if wIv7.io = true then ioOpcodes else adminOpcodes).contains wIv7.cmd.opcode = false) ∧
    (adminCmd wI5 7 8 = some wIv8) ∧
    (Option.map (fun x => x.1)
        (List.find?
          (fun e =>
            e.2.io && !e.2.released && decide (e.2.port = wIv8.port) && decide (e.2.qid = wIv8.cmd.cdw10 % 65536) &&
              decide (e.2.cmd.cid = wIv8.cmd.cdw10 / 65536 % 65536))
          wI5.host.slots) =
      some 20) ∧
    (wI31.slot 20 = some wIv30) ∧
    (wIv30.released = false) ∧
    (LockQuiet wI31) ∧
    (wI31.host.slots.wf = true) ∧
    (CqRoom wI31 wIv30.port wIv30.cq wIv1) := by decide +kernel

theorem test_hypotheses_of_commands_are_fetched_and_end_6 :
    (wI30.slot 20 = some wIv7) ∧
    (wIv7.released = false) ∧
    (LockQuiet wI30) ∧
    (wI30.host.slots.wf = true) ∧
    (wI30.fw.frozen = true) ∧
    ((wI30.ctrl wIv7.port).cqs.find wIv7.cq = some wIv1) := by decide +kernel

def wI6 : State :=
  wSlots [(7, wCmd { opcode := 5, cid := 4, cdw10 := 458754, cdw11 := 1 })] (wHost.modCtrl .a fun k => { k with features := [(7, 63 + 63 * 65536)] })

def wIv9 : CmdSlot :=
  wCmd { opcode := 5, cid := 4, cdw10 := 458754, cdw11 := 1 }

def wI32 : State :=
  wSlots [(7, wCmd { opcode := 5, cid := 4, cdw10 := 458754, cdw11 := 1 + 65 * 65536 })] (wHost.modCtrl .a fun k => { k with features := [(7, 63 + 63 * 65536)] })

def wIv31 : CmdSlot :=
  wCmd { opcode := 5, cid := 4, cdw10 := 458754, cdw11 := 1 + 65 * 65536 }

def wI33 : State :=
  wSlots [(7, wCmd { opcode := 5, cid := 4, cdw10 := 458752 + 400, cdw11 := 1 })] (wHost.modCtrl .a fun k => { k with features := [(7, 63 + 63 * 65536)] })

def wIv32 : CmdSlot :=
  wCmd { opcode := 5, cid := 4, cdw10 := 458752 + 400, cdw11 := 1 }

def wI34 : State :=
  wSlots [(7, wCmd { opcode := 1, cid := 4, cdw10 := 458752 + 400, cdw11 := 65537 })] (wHost.modCtrl .a fun k => { k with features := [(7, 63 + 63 * 65536)] })

def wIv33 : CmdSlot :=
  wCmd { opcode := 1, cid := 4, cdw10 := 458752 + 400, cdw11 := 65537 }

def wI7 : State :=
  wSlots [(7, wCmd { opcode := 1, cid := 4, cdw10 := 458754, cdw11 := 65537 })] (wHost.modCtrl .a fun k => { k with features := [(7, 63 + 63 * 65536)] })

def wIv10 : CmdSlot :=
  wCmd { opcode := 1, cid := 4, cdw10 := 458754, cdw11 := 65537 }

def wI8 : State :=
  wSlots [(7, wCmd { opcode := 4, cid := 4, cdw10 := 1 })] (wHost.modCtrl .a fun k => { k with sqs := [(0, ⟨8, 0, 0, 2⟩)] })

def wIv11 : CmdSlot :=
  wCmd { opcode := 4, cid := 4, cdw10 := 1 }

def wI9 : State :=
  wSlots [(7, wCmd { opcode := 0, cid := 4, cdw10 := 1 })]

def wIv12 : CmdSlot :=
  wCmd { opcode := 0, cid := 4, cdw10 := 1 }

def wI10 : State :=
  wSlots [(7, wCmd { opcode := 2, cid := 4, cdw10 := 196816 })]

def wIv13 : CmdSlot :=
  wCmd { opcode := 2, cid := 4, cdw10 := 196816 }

def wI11 : State :=
  wSlots [(7, wCmd { opcode := 2, cid := 4, cdw10 := 196817 })]

def wIv14 : CmdSlot :=
  wCmd { opcode := 2, cid := 4, cdw10 := 196817 }

def wI12 : State :=
  wSlots [(7, wCmd { opcode := 2, cid := 4, cdw10 := 196818, nsid := 4294967295 })]

def wIv15 : CmdSlot :=
  wCmd { opcode := 2, cid := 4, cdw10 := 196818, nsid := 4294967295 }

def wI35 : State :=
  wSlots [(7, wCmd { opcode := 2, cid := 4, cdw10 := 196611 })] (wHost.modCtrl .a fun k => { k with changedNs := [3] })

def wIv34 : CmdSlot :=
  wCmd { opcode := 2, cid := 4, cdw10 := 196611 }

def wI36 : State :=
  wSlots [(7, wCmd { opcode := 2, cid := 4, cdw10 := 196737 })] (wHost.modCtrl .a fun k => { k with changedNs := [3] })

def wIv35 : CmdSlot :=
  wCmd { opcode := 2, cid := 4, cdw10 := 196737 }

def wI37 : State :=
  wSlots [(7, wCmd { opcode := 2, cid := 4, cdw10 := 196612 })] (wHost.modCtrl .a fun k => { k with changedNs := [3] })

def wIv36 : CmdSlot :=
  wCmd { opcode := 2, cid := 4, cdw10 := 196612 }

def wI38 : State :=
  wSlots [(7, wCmd { opcode := 2, cid := 4, cdw10 := 196736 })] (wHost.modCtrl .a fun k => { k with changedNs := [3] })

def wIv37 : CmdSlot :=
  wCmd { opcode := 2, cid := 4, cdw10 := 196736 }

def wI13 : State :=
  wSlots [(7, wCmd { opcode := 2, cid := 4, cdw10 := 196819 })]

def wIv16 : CmdSlot :=
  wCmd { opcode := 2, cid := 4, cdw10 := 196819 }

def wI14 : State :=
  wSlots [(7, wCmd { opcode := 6, cid := 4, cdw10 := 1 })]

def wIv17 : CmdSlot :=
  wCmd { opcode := 6, cid := 4, cdw10 := 1 }

def wI15 : State :=
  wSlots [(7, wCmd { opcode := 6, cid := 4, cdw10 := 0, nsid := 3 })]

def wIv18 : CmdSlot :=
  wCmd { opcode := 6, cid := 4, cdw10 := 0, nsid := 3 }

def wI16 : State :=
  wSlots [(7, wCmd { opcode := 6, cid := 4, cdw10 := 0, nsid := 4 })]

def wIv19 : CmdSlot :=
  wCmd { opcode := 6, cid := 4, cdw10 := 0, nsid := 4 }

def wI39 : State :=
  wSlots [(7, wCmd { opcode := 9, cid := 4, cdw10 := 12 })] (wHost)

def wIv38 : CmdSlot :=
  wCmd { opcode := 9, cid := 4, cdw10 := 12 }

def wI40 : State :=
  wSlots [(7, wCmd { opcode := 10, cid := 4, cdw10 := 13 })] (wHost)

def wIv39 : CmdSlot :=
  wCmd { opcode := 10, cid := 4, cdw10 := 13 }

def wI17 : State :=
  wSlots [(7, wCmd { opcode := 9, cid := 4, cdw10 := 2147483655 })]

def wIv20 : CmdSlot :=
  wCmd { opcode := 9, cid := 4, cdw10 := 2147483655 }

def wI18 : State :=
  wSlots [(7, wCmd { opcode := 9, cid := 4, cdw10 := 7, cdw11 := 4587525 })]

def wIv21 : CmdSlot :=
  wCmd { opcode := 9, cid := 4, cdw10 := 7, cdw11 := 4587525 }

def wI19 : State :=
  wSlots [(7, wCmd { opcode := 9, cid := 4, cdw10 := 11, cdw11 := 5 })]

def wIv22 : CmdSlot :=
  wCmd { opcode := 9, cid := 4, cdw10 := 11, cdw11 := 5 }

def wI41 : State :=
  wSlots [(7, wCmd { opcode := 9, cid := 4, cdw10 := 8, cdw11 := 5 })] (wHost)

def wIv40 : CmdSlot :=
  wCmd { opcode := 9, cid := 4, cdw10 := 8, cdw11 := 5 }

def wI20 : State :=
  wSlots [(7, wCmd { opcode := 9, cid := 4, cdw10 := 129, data := [1, 2, 3, 4, 5, 6, 7, 8] })]

def wIv23 : CmdSlot :=
  wCmd { opcode := 9, cid := 4, cdw10 := 129, data := [1, 2, 3, 4, 5, 6, 7, 8] }

def wI21 : State :=
  wSlots [(7, wCmd { opcode := 9, cid := 4, cdw10 := 2, cdw11 := 1 })]

def wIv24 : CmdSlot :=
  wCmd { opcode := 9, cid := 4, cdw10 := 2, cdw11 := 1 }

def wI23 : State :=
  wSlots [(7, wCmd { opcode := 9, cid := 4, cdw10 := 5, nsid := 3, cdw11 := 65541 })]

def wIv26 : CmdSlot :=
  wCmd { opcode := 9, cid := 4, cdw10 := 5, nsid := 3, cdw11 := 65541 }

def wI24 : State :=
  wSlots [(7, wCmd { opcode := 9, cid := 4, cdw10 := 6, cdw11 := 0 })] ({ wHost with host := { wHost.host with strict := true } })

def wIv27 : CmdSlot :=
  wCmd { opcode := 9, cid := 4, cdw10 := 6, cdw11 := 0 }

def wI25 : State :=
  wSlots [(7, wCmd { opcode := 9, cid := 4, cdw10 := 6, cdw11 := 0 })] ({ wHost with host := { wHost.host with strict := false } })

def wI26 : State :=
  wSlots [(7, wCmd { opcode := 10, cid := 4, cdw10 := 2 })]

def wIv28 : CmdSlot :=
  wCmd { opcode := 10, cid := 4, cdw10 := 2 }

def wI27 : State :=
  wSlots [(7, wCmd { opcode := 10, cid := 4, cdw10 := 11 })]

def wIv29 : CmdSlot :=
  wCmd { opcode := 10, cid := 4, cdw10 := 11 }

theorem test_hypotheses_of_admin_commands_serve_queues_and_features_1 :
    (adminCmd wI6 7 5 = some wIv9) ∧
    (wIv9.cmd.cdw10 % 65536 ≠ 0) ∧
    (wIv9.cmd.cdw10 % 65536 ≤ cqsGranted wI6 wIv9.port) ∧
    ((wI6.ctrl wIv9.port).cqs.find (wIv9.cmd.cdw10 % 65536) = none) ∧
    (2 ≤ wIv9.cmd.cdw10 / 65536 % 65536 + 1) ∧
    (wIv9.cmd.cdw10 / 65536 % 65536 + 1 ≤ 4096) ∧
    (bit wIv9.cmd.cdw11 0 = true) ∧
    (wIv9.cmd.cdw11 / 65536 % 65536 < 65) := by decide +kernel

theorem test_hypotheses_of_admin_commands_serve_queues_and_features_2 :
    (adminCmd wI32 7 5 = some wIv31) ∧
    (wIv31.cmd.cdw10 % 65536 ≠ 0) ∧
    (wIv31.cmd.cdw10 % 65536 ≤ cqsGranted wI32 wIv31.port) ∧
    ((wI32.ctrl wIv31.port).cqs.find (wIv31.cmd.cdw10 % 65536) = none) ∧
    (2 ≤ wIv31.cmd.cdw10 / 65536 % 65536 + 1) ∧
    (wIv31.cmd.cdw10 / 65536 % 65536 + 1 ≤ 4096) ∧
    (bit wIv31.cmd.cdw11 0 = true) ∧
    (65 ≤ wIv31.cmd.cdw11 / 65536 % 65536) ∧
    (adminCmd wI33 7 5 = some wIv32) ∧
    (cqsGranted wI33 wIv32.port < wIv32.cmd.cdw10 % 65536) ∧
    (adminCmd wI34 7 1 = some wIv33) ∧
    (sqsGranted wI34 wIv33.port < wIv33.cmd.cdw10 % 65536) := by decide +kernel

theorem test_hypotheses_of_admin_commands_serve_queues_and_features_3 :
    (adminCmd wI7 7 1 = some wIv10) ∧
    (wIv10.cmd.cdw10 % 65536 ≠ 0) ∧
    (wIv10.cmd.cdw10 % 65536 ≤ sqsGranted wI7 wIv10.port) ∧
    ((wI7.ctrl wIv10.port).sqs.find (wIv10.cmd.cdw10 % 65536) = none) ∧
    (wIv10.cmd.cdw11 / 65536 % 65536 ≠ 0) ∧
    (((wI7.ctrl wIv10.port).cqs.find (wIv10.cmd.cdw11 / 65536 % 65536)).isSome = true) ∧
    (2 ≤ wIv10.cmd.cdw10 / 65536 % 65536 + 1) ∧
    (wIv10.cmd.cdw10 / 65536 % 65536 + 1 ≤ 4096) ∧
    (bit wIv10.cmd.cdw11 0 = true) ∧
    (adminCmd wI8 7 4 = some wIv11) ∧
    (wIv11.cmd.cdw10 % 65536 ≠ 0) ∧
    (((wI8.ctrl wIv11.port).cqs.find (wIv11.cmd.cdw10 % 65536)).isSome = true) ∧
    (∀ e ∈ (wI8.ctrl wIv11.port).sqs, e.2.cq ≠ wIv11.cmd.cdw10 % 65536) := by decide +kernel

theorem test_hypotheses_of_admin_commands_serve_queues_and_features_4 :
    (adminCmd wI9 7 0 = some wIv12) ∧
    (wIv12.cmd.cdw10 % 65536 ≠ 0) ∧
    (((wI9.ctrl wIv12.port).sqs.find (wIv12.cmd.cdw10 % 65536)).isSome = true) ∧
    (∀ e ∈ wI9.host.slots, e.2.io = true → e.2.port = wIv12.port → e.2.qid ≠ wIv12.cmd.cdw10 % 65536) ∧
    (adminCmd wI10 7 2 = some wIv13) ∧
    ((wIv13.cmd.cdw12 + wIv13.cmd.cdw13 * 2 ^ 32) % 4 = 0) ∧
    (wIv13.cmd.cdw10 % 256 = 208) ∧
    (adminCmd wI11 7 2 = some wIv14) ∧
    ((wIv14.cmd.cdw12 + wIv14.cmd.cdw13 * 2 ^ 32) % 4 = 0) ∧
    (wIv14.cmd.cdw10 % 256 = 209) ∧
    (normalMode wI11 = true) := by decide +kernel

theorem test_hypotheses_of_admin_commands_serve_queues_and_features_5 :
    (adminCmd wI12 7 2 = some wIv15) ∧
    ((wIv15.cmd.cdw12 + wIv15.cmd.cdw13 * 2 ^ 32) % 4 = 0) ∧
    (wIv15.cmd.cdw10 % 256 = 210) ∧
    (normalMode wI12 = true) ∧
    (wIv15.cmd.nsid = 4294967295) ∧
    (adminCmd wI35 7 2 = some wIv34) ∧
    ((wIv34.cmd.cdw12 + wIv34.cmd.cdw13 * 2 ^ 32) % 4 = 0) ∧
    (wIv34.cmd.cdw10 % 256 = 3) ∧
    (adminCmd wI36 7 2 = some wIv35) ∧
    ((wIv35.cmd.cdw12 + wIv35.cmd.cdw13 * 2 ^ 32) % 4 = 0) ∧
    (wIv35.cmd.cdw10 % 256 = 129) ∧
    (adminCmd wI37 7 2 = some wIv36) ∧
    ((wIv36.cmd.cdw12 + wIv36.cmd.cdw13 * 2 ^ 32) % 4 = 0) ∧
    (wIv36.cmd.cdw10 % 256 = 4) := by decide +kernel

theorem test_hypotheses_of_admin_commands_serve_queues_and_features_6 :
    (adminCmd wI38 7 2 = some wIv37) ∧
    ((wIv37.cmd.cdw12 + wIv37.cmd.cdw13 * 2 ^ 32) % 4 = 0) ∧
    (wIv37.cmd.cdw10 % 256 = 128) ∧
    (adminCmd wI13 7 2 = some wIv16) ∧
    ((wIv16.cmd.cdw12 + wIv16.cmd.cdw13 * 2 ^ 32) % 4 = 0) ∧
    (wIv16.cmd.cdw10 % 256 = 211) ∧
    (adminCmd wI14 7 6 = some wIv17) ∧
    (wIv17.cmd.cdw10 % 256 = 1) ∧
    (adminCmd wI15 7 6 = some wIv18) ∧
    (wIv18.cmd.cdw10 % 256 = 0) ∧
    (nsOf wI15 wIv18.cmd.nsid = some wNs) ∧
    (attachedTo wNs wIv18.port = true) := by decide +kernel

theorem test_hypotheses_of_admin_commands_serve_queues_and_features_7 :
    (adminCmd wI16 7 6 = some wIv19) ∧
    (wIv19.cmd.cdw10 % 256 = 0) ∧
    (nsOf wI16 wIv19.cmd.nsid = none) ∧
    (adminCmd wI39 7 9 = some wIv38) ∧
    (fid wIv38 = 12 ∨ fid wIv38 = 13) ∧
    (adminCmd wI40 7 10 = some wIv39) ∧
    (fid wIv39 = 12 ∨ fid wIv39 = 13) ∧
    (adminCmd wI17 7 9 = some wIv20) ∧
    (bit wIv20.cmd.cdw10 31 = true) ∧
    (fid wIv20 ∈ featuresServed) := by decide +kernel

theorem test_hypotheses_of_admin_commands_serve_queues_and_features_8 :
    (adminCmd wI18 7 9 = some wIv21) ∧
    (bit wIv21.cmd.cdw10 31 = false) ∧
    (fid wIv21 = 7) ∧
    (wIv21.cmd.cdw11 % 65536 ≠ 65535) ∧
    (wIv21.cmd.cdw11 / 65536 % 65536 ≠ 65535) ∧
    (adminCmd wI19 7 9 = some wIv22) ∧
    (bit wIv22.cmd.cdw10 31 = false) ∧
    (fid wIv22 = 11) ∧
    (adminCmd wI41 7 9 = some wIv40) ∧
    (bit wIv40.cmd.cdw10 31 = false) ∧
    (fid wIv40 = 8) ∧
    (adminCmd wI20 7 9 = some wIv23) ∧
    (bit wIv23.cmd.cdw10 31 = false) ∧
    (fid wIv23 = 129) := by decide +kernel

theorem test_hypotheses_of_admin_commands_serve_queues_and_features_9 :
    (adminCmd wI21 7 9 = some wIv24) ∧
    (bit wIv24.cmd.cdw10 31 = false) ∧
    (fid wIv24 = 2) ∧
    (wIv24.cmd.cdw11 % 32 ≤ 4) ∧
    (adminCmd wI23 7 9 = some wIv26) ∧
    (bit wIv26.cmd.cdw10 31 = false) ∧
    (fid wIv26 = 5) ∧
    (adminCmd wI24 7 9 = some wIv27) ∧
    (bit wIv27.cmd.cdw10 31 = false) ∧
    (fid wIv27 = 6) ∧
    (wI24.host.strict = true) := by decide +kernel

theorem test_hypotheses_of_admin_commands_serve_queues_and_features_10 :
    (adminCmd wI25 7 9 = some wIv27) ∧
    (bit wIv27.cmd.cdw10 31 = false) ∧
    (fid wIv27 = 6) ∧
    (wI25.host.strict = false) ∧
    (adminCmd wI26 7 10 = some wIv28) ∧
    (fld wIv28.cmd.cdw10 10 8 = 0) ∧
    (fid wIv28 = 2) ∧
    (adminCmd wI27 7 10 = some wIv29) ∧
    (fld wIv29.cmd.cdw10 10 8 = 0) ∧
    (fid wIv29 = 11) := by decide +kernel

def wJ41 : State :=
  let s := wSlots [(7, wCmd { opcode := 13, cid := 4, cdw10 := 0 })] (wNums [(Obj.newNsMap, 9)] wHost); { s with layout := { s.layout with mirrorWaiting := [2] } }

def wJ1 : State :=
  wSlots [(7, wCmd { opcode := 13, cid := 4, cdw10 := 0 })] (wNums [(Obj.newNsMap, 9)] wHost)

def wJv1 : CmdSlot :=
  wCmd { opcode := 13, cid := 4, cdw10 := 0 }

def wJ2 : State :=
  wSlots [(7, wCmd { opcode := 13, cid := 4, cdw10 := 1, nsid := 3 })]

def wJv2 : CmdSlot :=
  wCmd { opcode := 13, cid := 4, cdw10 := 1, nsid := 3 }

def wJ3 : State :=
  wSlots [(7, wCmd { opcode := 21, cid := 4, cdw10 := 0, nsid := 3 })] ({ wHost with host := { wHost.host with namespaces := [(3, { wNs with attachedA := false })] } })

def wJv3 : CmdSlot :=
  wCmd { opcode := 21, cid := 4, cdw10 := 0, nsid := 3 }

def wJv4 : Namespace :=
  { wNs with attachedA := false }

def wJ4 : State :=
  wSlots [(7, wCmd { opcode := 21, cid := 4, cdw10 := 1, nsid := 3 })]

def wJv5 : CmdSlot :=
  wCmd { opcode := 21, cid := 4, cdw10 := 1, nsid := 3 }

def wJ5 : State :=
  wSlots [(7, wCmd { opcode := 134, cid := 4, nsid := 3, cdw10 := 3, cdw13 := 0x10000002 })] ({ wHost with layout := { wHost.layout with lost := [⟨3, 2, 4, 1⟩] } })

def wJv6 : CmdSlot :=
  wCmd { opcode := 134, cid := 4, nsid := 3, cdw10 := 3, cdw13 := 0x10000002 }

def wJ6 : State :=
  wResHost (⟨false, 0, 4, 255, []⟩) (wSlots [(20, wIo { opcode := 13, cid := 4, nsid := 3, cdw10 := 0 })] (wHost))

def wJv7 : CmdSlot :=
  wIo { opcode := 13, cid := 4, nsid := 3, cdw10 := 0 }

def wJv8 : Reservation :=
  ⟨false, 0, 5, 255, [⟨5, 77, true⟩]⟩

def wJ7 : State :=
  wResHost (wRes 1 0) (wSlots [(20, wIo { opcode := 13, cid := 4, nsid := 3, cdw10 := 1 })] (wHost))

def wJv9 : CmdSlot :=
  wIo { opcode := 13, cid := 4, nsid := 3, cdw10 := 1 }

def wJ8 : State :=
  wResHost (wRes 1 0) (wSlots [(20, wIo { opcode := 13, cid := 4, nsid := 3, cdw10 := 0 })] (wHost))

def wJ9 : State :=
  wResHost (wRes 1 0) (wSlots [(20, wIo { opcode := 14, cid := 4, nsid := 3, cdw10 := 0 })] (wHost))

def wJv10 : CmdSlot :=
  wIo { opcode := 14, cid := 4, nsid := 3, cdw10 := 0 }

def wJ10 : State :=
  wResHost (wRes 0 255) (wSlots [(20, wIo { opcode := 17, cid := 4, nsid := 3, cdw10 := 256 })] (wHost))

def wJv11 : CmdSlot :=
  wIo { opcode := 17, cid := 4, nsid := 3, cdw10 := 256 }

def wJ11 : State :=
  wResHost (wRes 1 1) (wSlots [(20, wIo { opcode := 17, cid := 4, nsid := 3, cdw10 := 769 })] (wHost))

def wJv12 : CmdSlot :=
  wIo { opcode := 17, cid := 4, nsid := 3, cdw10 := 769 }

def wJv13 : Reservation :=
  ⟨false, 3, 5, 0, [⟨5, 77, true⟩, ⟨0, 0, false⟩] ++ List.replicate 14 ⟨0, 0, false⟩⟩

def wJ12 : State :=
  wResHost (wRes 1 1) (wSlots [(20, wIo { opcode := 17, cid := 4, nsid := 3, cdw10 := 770 })] (wHost))

def wJv14 : CmdSlot :=
  wIo { opcode := 17, cid := 4, nsid := 3, cdw10 := 770 }

def wJ13 : State :=
  wResHost (wRes 3 0) (wSlots [(20, wIo { opcode := 21, cid := 4, nsid := 3, cdw10 := 768 })] (wHost))

def wJv15 : CmdSlot :=
  wIo { opcode := 21, cid := 4, nsid := 3, cdw10 := 768 }

def wJ14 : State :=
  wResHost (wRes 6 255) (wSlots [(20, wIo { opcode := 21, cid := 4, nsid := 3, cdw10 := 769 })] (wHost))

def wJv16 : CmdSlot :=
  wIo { opcode := 21, cid := 4, nsid := 3, cdw10 := 769 }

def wJ15 : State :=
  let s := wResHost (wRes 1 0) (wSlots [(20, wIo { opcode := 13, cid := 4, nsid := 3 })]); { s with host := { s.host with resWaiting := [(3, 20)] } }

theorem test_hypotheses_of_namespaces_and_reservations_are_kept_1 :
    (descriptorHeld wJ41 = true) ∧
    (adminCmd wJ1 7 13 = some wJv1) ∧
    (wJv1.cmd.cdw10 % 16 = 0) ∧
    (descriptorHeld wJ1 = false) ∧
    (normalMode wJ1 = true) ∧
    (1 ≤ 1) ∧
    (200 ≠ 0) ∧
    (newMap wJ1 = some wMap) ∧
    (List.find? (fun i => (nsOf wJ1 (i + 1)).isNone) (List.range 16) = some 0) ∧
    (lowestRun (rowRuns wJ1) (periodsFor wMap 200 * wMap.periodRows) wJ1.layout.rowsTotal = some 2) ∧
    (lowestRun (stripeRuns wJ1) (periodsFor wMap 200 * wMap.periodStripes) (2 ^ 26) = some 1) ∧
    (lowestRun (dbaRuns wJ1) (periodsFor wMap 200 * wMap.periodStripes * wMap.k * 64) (2 ^ 36) = some 10) ∧
    (slotForMap wJ1 wMap = some 0) := by decide +kernel

theorem test_hypotheses_of_namespaces_and_reservations_are_kept_2 :
    (adminCmd wJ2 7 13 = some wJv2) ∧
    (wJv2.cmd.cdw10 % 16 = 1) ∧
    (descriptorHeld wJ2 = false) ∧
    (normalMode wJ2 = true) ∧
    (wJv2.cmd.nsid ≠ 4294967295) ∧
    (nsOf wJ2 wJv2.cmd.nsid = some wNs) ∧
    (adminCmd wJ3 7 21 = some wJv3) ∧
    (nsOf wJ3 wJv3.cmd.nsid = some wJv4) ∧
    (wJv3.cmd.cdw10 % 16 = 0) ∧
    (attachedTo wJv4 Port.a = false) ∧
    (adminCmd wJ4 7 21 = some wJv5) ∧
    (nsOf wJ4 wJv5.cmd.nsid = some wNs) ∧
    (wJv5.cmd.cdw10 % 16 = 1) ∧
    (attachedTo wNs Port.b = true) := by decide +kernel

theorem test_hypotheses_of_namespaces_and_reservations_are_kept_3 :
    (adminCmd wJ5 7 134 = some wJv6) ∧
    (nsOf wJ5 wJv6.cmd.nsid = some wNs) ∧
    (wJv6.cmd.cdw13 / 2 ^ 24 % 256 = 16 ∨ wJv6.cmd.cdw13 / 2 ^ 24 % 256 = 17) ∧
    (wJv6.cmd.cdw10 + wJv6.cmd.cdw11 * 2 ^ 32 < wNs.nsze) ∧
    (resCmd wJ6 20 13 = some wJv7 ∧ turnAway wJ6 wJv7 = none ∧ hostOf wJ6 wJv7 ≠ 0 ∧ (reservationOf wJ6 wJv7.cmd.nsid).ptpl = false) ∧
    (wJv7.cmd.cdw10 / 2 ^ 30 % 4 = 0) ∧
    (wJv7.cmd.cdw10 % 8 = 0) ∧
    ((reservationOf wJ6 wJv7.cmd.nsid).find (hostOf wJ6 wJv7) = none) ∧
    ((reservationOf wJ6 wJv7.cmd.nsid).add (hostOf wJ6 wJv7) 77 = some wJv8) := by decide +kernel

theorem test_hypotheses_of_namespaces_and_reservations_are_kept_4 :
    (resCmd wJ7 20 13 = some wJv9 ∧ turnAway wJ7 wJv9 = none ∧ hostOf wJ7 wJv9 ≠ 0 ∧ (reservationOf wJ7 wJv9.cmd.nsid).ptpl = false) ∧
    (wJv9.cmd.cdw10 / 2 ^ 30 % 4 = 0) ∧
    (wJv9.cmd.cdw10 % 8 = 1) ∧
    ((reservationOf wJ7 wJv9.cmd.nsid).find (hostOf wJ7 wJv9) = some 0) ∧
    ((reservationOf wJ7 wJv9.cmd.nsid).keyOf 0 = 77) := by decide +kernel

theorem test_hypotheses_of_namespaces_and_reservations_are_kept_5 :
    (resCmd wJ8 20 13 = some wJv7 ∧ turnAway wJ8 wJv7 = none ∧ hostOf wJ8 wJv7 ≠ 0 ∧ (reservationOf wJ8 wJv7.cmd.nsid).ptpl = false) ∧
    (wJv7.cmd.cdw10 / 2 ^ 30 % 4 = 0) ∧
    (wJv7.cmd.cdw10 % 8 = 0) ∧
    ((reservationOf wJ8 wJv7.cmd.nsid).find (hostOf wJ8 wJv7) = some 0) ∧
    ((reservationOf wJ8 wJv7.cmd.nsid).keyOf 0 ≠ 78) ∧
    (resCmd wJ9 20 14 = some wJv10 ∧ turnAway wJ9 wJv10 = none ∧ hostOf wJ9 wJv10 ≠ 0 ∧ (reservationOf wJ9 wJv10.cmd.nsid).ptpl = false) := by decide +kernel

theorem test_hypotheses_of_namespaces_and_reservations_are_kept_6 :
    (resCmd wJ10 20 17 = some wJv11 ∧
      turnAway wJ10 wJv11 = none ∧ hostOf wJ10 wJv11 ≠ 0 ∧ (reservationOf wJ10 wJv11.cmd.nsid).ptpl = false) ∧
    ((reservationOf wJ10 wJv11.cmd.nsid).caller (hostOf wJ10 wJv11) 77 (bit wJv11.cmd.cdw10 3) = some 0) ∧
    (1 ≤ wJv11.cmd.cdw10 / 256 % 256) ∧
    (wJv11.cmd.cdw10 / 256 % 256 ≤ 6) ∧
    (wJv11.cmd.cdw10 % 8 = 0) ∧
    ((reservationOf wJ10 wJv11.cmd.nsid).rtype = 0) := by decide +kernel

theorem test_hypotheses_of_namespaces_and_reservations_are_kept_7 :
    (resCmd wJ11 20 17 = some wJv12 ∧
      turnAway wJ11 wJv12 = none ∧ hostOf wJ11 wJv12 ≠ 0 ∧ (reservationOf wJ11 wJv12.cmd.nsid).ptpl = false) ∧
    ((reservationOf wJ11 wJv12.cmd.nsid).caller (hostOf wJ11 wJv12) 77 (bit wJv12.cmd.cdw10 3) = some 0) ∧
    (1 ≤ wJv12.cmd.cdw10 / 256 % 256) ∧
    (wJv12.cmd.cdw10 / 256 % 256 ≤ 6) ∧
    (wJv12.cmd.cdw10 % 8 = 1) ∧
    ((reservationOf wJ11 wJv12.cmd.nsid).preempt 0 88 (wJv12.cmd.cdw10 / 256 % 256) = Sum.inr wJv13) := by decide +kernel

theorem test_hypotheses_of_namespaces_and_reservations_are_kept_8 :
    (resCmd wJ12 20 17 = some wJv14 ∧
      turnAway wJ12 wJv14 = none ∧ hostOf wJ12 wJv14 ≠ 0 ∧ (reservationOf wJ12 wJv14.cmd.nsid).ptpl = false) ∧
    ((reservationOf wJ12 wJv14.cmd.nsid).caller (hostOf wJ12 wJv14) 77 (bit wJv14.cmd.cdw10 3) = some 0) ∧
    (1 ≤ wJv14.cmd.cdw10 / 256 % 256) ∧
    (wJv14.cmd.cdw10 / 256 % 256 ≤ 6) ∧
    (wJv14.cmd.cdw10 % 8 = 2) ∧
    ((reservationOf wJ12 wJv14.cmd.nsid).preempt 0 88 (wJv14.cmd.cdw10 / 256 % 256) = Sum.inr wJv13) := by decide +kernel

theorem test_hypotheses_of_namespaces_and_reservations_are_kept_9 :
    (resCmd wJ13 20 21 = some wJv15 ∧
      turnAway wJ13 wJv15 = none ∧ hostOf wJ13 wJv15 ≠ 0 ∧ (reservationOf wJ13 wJv15.cmd.nsid).ptpl = false) ∧
    ((reservationOf wJ13 wJv15.cmd.nsid).caller (hostOf wJ13 wJv15) 77 (bit wJv15.cmd.cdw10 3) = some 0) ∧
    (wJv15.cmd.cdw10 % 8 = 0) ∧
    ((reservationOf wJ13 wJv15.cmd.nsid).rtype ≠ 0) ∧
    ((reservationOf wJ13 wJv15.cmd.nsid).holds 0 = true) ∧
    ((reservationOf wJ13 wJv15.cmd.nsid).rtype = wJv15.cmd.cdw10 / 256 % 256) := by decide +kernel

theorem test_hypotheses_of_namespaces_and_reservations_are_kept_10 :
    (resCmd wJ14 20 21 = some wJv16 ∧
      turnAway wJ14 wJv16 = none ∧ hostOf wJ14 wJv16 ≠ 0 ∧ (reservationOf wJ14 wJv16.cmd.nsid).ptpl = false) ∧
    ((reservationOf wJ14 wJv16.cmd.nsid).caller (hostOf wJ14 wJv16) 77 (bit wJv16.cmd.cdw10 3) = some 0) ∧
    (wJv16.cmd.cdw10 % 8 = 1) ∧
    (wJ15.host.resWaiting = [(3, 20)]) := by decide +kernel

def wJ16 : State :=
  wSlots [(20, wIo { opcode := 1, cid := 6, nsid := 5 } .write 0 1)] (wHost)

def wJv17 : CmdSlot :=
  wIo { opcode := 1, cid := 6, nsid := 5 } .write 0 1

def wJ17 : State :=
  wSlots [(20, wIo { opcode := 2, cid := 6, nsid := 5 } .read 0 1)] (wHost)

def wJv18 : CmdSlot :=
  wIo { opcode := 2, cid := 6, nsid := 5 } .read 0 1

def wJ18 : State :=
  wSlots [(20, wIo { opcode := 0, cid := 6, nsid := 5 } .free 0 1)] (wHost)

def wJv19 : CmdSlot :=
  wIo { opcode := 0, cid := 6, nsid := 5 } .free 0 1

def wJ19 : State :=
  wSlots [(20, wIo { opcode := 1, cid := 6, nsid := 3 } .write 3 1)] (wHost)

def wJv20 : CmdSlot :=
  wIo { opcode := 1, cid := 6, nsid := 3 } .write 3 1

def wJ20 : State :=
  wSlots [(20, wIo { opcode := 8, cid := 6, nsid := 3 } .write 3 1)] (wHost)

def wJv21 : CmdSlot :=
  wIo { opcode := 8, cid := 6, nsid := 3 } .write 3 1

def wJ21 : State :=
  wSlots [(20, { wIo { opcode := 1, cid := 6, nsid := 3 } .write 3 1 with cached := 1 })] (wHost)

def wJv22 : CmdSlot :=
  { wIo { opcode := 1, cid := 6, nsid := 3 } .write 3 1 with cached := 1 }

def wJv32 : Cq :=
  ⟨8, 3, 3, [], 0, false, 0, 0⟩

def wJ23 : State :=
  wSlots [(20, wIo { opcode := 2, cid := 6, nsid := 3 } .read 3 1)] (wHost)

def wJv24 : CmdSlot :=
  wIo { opcode := 2, cid := 6, nsid := 3 } .read 3 1

def wJ24 : State :=
  wSlots [(20, wIo { opcode := 2, cid := 6, nsid := 3 } .read 3 1)] ({ wHost with layout := { wHost.layout with lost := [⟨3, 2, 4, 1⟩] } })

def wJ25 : State :=
  wSlots [(20, { wIo { opcode := 2, cid := 6, nsid := 3 } .read 3 1 with started := true })] (wHost)

def wJv25 : CmdSlot :=
  { wIo { opcode := 2, cid := 6, nsid := 3 } .read 3 1 with started := true }

def wJ26 : State :=
  wSlots [(20, wIo { opcode := 12, cid := 6, nsid := 3 } .read 3 1)] (wHost)

def wJv26 : CmdSlot :=
  wIo { opcode := 12, cid := 6, nsid := 3 } .read 3 1

def wJ27 : State :=
  wSlots [(20, wIo { opcode := 0, cid := 6, nsid := 3 } .free 0 0)] (wHost)

def wJv27 : CmdSlot :=
  wIo { opcode := 0, cid := 6, nsid := 3 } .free 0 0

def wJ28 : State :=
  wSlots [(20, { wIo { opcode := 0, cid := 6, nsid := 3 } .free 0 0 with media := [(3, 1)] })] (wHost)

def wJv28 : CmdSlot :=
  { wIo { opcode := 0, cid := 6, nsid := 3 } .free 0 0 with media := [(3, 1)] }

def wJ29 : State :=
  wSlots [(20, wIo { opcode := 9, cid := 6, nsid := 3, cdw11 := 0 } .write 3 1)] (wHost)

def wJv29 : CmdSlot :=
  wIo { opcode := 9, cid := 6, nsid := 3, cdw11 := 0 } .write 3 1

def wJ30 : State :=
  wSlots [(20, wIo { opcode := 9, cid := 6, nsid := 3, cdw11 := 4, ranges := [(0, 128)] } .write 0 128)] ({ wHost with host := { wHost.host with namespaces := [(3, { wNs with nsze := 128, blocks := 128 })] }, layout := { wHost.layout with allocated := [0, 5] } })

def wJv30 : CmdSlot :=
  wIo { opcode := 9, cid := 6, nsid := 3, cdw11 := 4, ranges := [(0, 128)] } .write 0 128

def wJv31 : Namespace :=
  { wNs with nsze := 128, blocks := 128 }

def wJ31 : State :=
  wSlots [(20, wIo { opcode := 2, cid := 6, nsid := 3 } .read 3 1)] (wHost.modCtrl .a fun k => { k with features := [(0x305, 5)] })

theorem test_hypotheses_of_io_commands_move_blocks_1 :
    (turnAway wJ16 wJv17 = some scInvalidNamespace) ∧
    (ioCmd wJ16 20 opWrite = some wJv17) ∧
    (turnAway wJ17 wJv18 = some scInvalidNamespace) ∧
    (ioCmd wJ17 20 opRead = some wJv18) ∧
    (wJv18.started = false) ∧
    (turnAway wJ18 wJv19 = some scInvalidNamespace) ∧
    (ioCmd wJ18 20 opFlush = some wJv19) ∧
    (wJv19.cmd.nsid ≠ 4294967295) ∧
    (IoRuns wJ19 20 opWrite wJv20 wNs) ∧
    (wNs.lbaFormat = 0) ∧
    (wJv20.cached < wJv20.count) ∧
    (slotFor wJ19 (wNs.firstDba + (wJv20.lba + wJv20.cached)) = some 0) := by decide +kernel

theorem test_hypotheses_of_io_commands_move_blocks_2 :
    (IoRuns wJ20 20 opWriteZeroes wJv21 wNs) ∧
    (wNs.lbaFormat = 0) ∧
    (wJv21.count = wJv21.cached + 1) ∧
    (bit wJv21.cmd.cdw12 25 = false) ∧
    (slotFor wJ20 (wNs.firstDba + (wJv21.lba + wJv21.cached)) = some 0) := by decide +kernel

theorem test_hypotheses_of_io_commands_move_blocks_3 :
    (wJ21.host.slots = [(20, wJv22)]) ∧
    (wJv22.io = true) ∧
    (wJv22.kind = LockKind.write) ∧
    (wJv22.stalled = false) ∧
    (wJv22.released = false) ∧
    (wJv22.waits = []) ∧
    (wJv22.checked = true) ∧
    (wJv22.cmd.opcode ≠ opFlush) ∧
    (wJv22.cached = wJv22.count) ∧
    (0 < wJv22.count) ∧
    (CqRoom wJ21 wJv22.port wJv22.cq wJv32) ∧
    (NoShutdown wJ21) := by decide +kernel

theorem test_hypotheses_of_io_commands_move_blocks_4 :
    (IoRuns wJ23 20 opRead wJv24 wNs) ∧
    (wJv24.started = false) ∧
    (bit wJv24.cmd.cdw12 30 = false) ∧
    ((dulbe wJ23 wJv24 = true → ∀ i < wJv24.count, deallocated wJ23 wNs (wJv24.lba + i) = false) ∧
      (touchesMedium wJ23 wNs wJv24 true = true → mediaGate wJ23 = none) ∧
        readBlocks wJ23 wNs wJv24 true [] (List.range wJv24.count) [] = (List.replicate 4096 0, none)) ∧
    (IoRuns wJ24 20 opRead wJv24 wNs) ∧
    (wJv24.started = false) ∧
    (bit wJv24.cmd.cdw12 30 = false) ∧
    (dulbe wJ24 wJv24 = false) ∧
    (wJv24.count = 1) ∧
    (touchesLost wJ24 wNs.nsid wJv24.lba 1 = true) := by decide +kernel

theorem test_hypotheses_of_io_commands_move_blocks_5 :
    (ioCmd wJ25 20 opRead = some wJv25) ∧
    (wJv25.started = true) ∧
    (IoRuns wJ26 20 opVerify wJv26 wNs) ∧
    (dirtyBlocks wJ26 wJv26 = []) ∧
    ((dulbe wJ26 wJv26 = true → ∀ i < wJv26.count, deallocated wJ26 wNs (wJv26.lba + i) = false) ∧
      (touchesMedium wJ26 wNs wJv26 false = true → mediaGate wJ26 = none) ∧
        readBlocks wJ26 wNs wJv26 false [] (List.range wJv26.count) [] = (List.replicate 4096 0, none)) ∧
    (IoRuns wJ27 20 opFlush wJv27 wNs) ∧
    (wJv27.cmd.nsid ≠ 4294967295) ∧
    (wJv27.media = []) ∧
    (wJv27.waits = []) := by decide +kernel

theorem test_hypotheses_of_io_commands_move_blocks_6 :
    (IoRuns wJ28 20 opFlush wJv28 wNs) ∧
    (wJv28.cmd.nsid ≠ 4294967295) ∧
    (wJv28.media ≠ [] ∨ wJv28.waits ≠ []) ∧
    (IoRuns wJ29 20 opDsm wJv29 wNs) ∧
    (bit wJv29.cmd.cdw11 2 = false) ∧
    (IoRuns wJ30 20 opDsm wJv30 wJv31) ∧
    (bit wJv30.cmd.cdw11 2 = true) ∧
    (ioCmd wJ31 20 opRead = some wJv24) ∧
    (errorRecovery wJ31 wJv24.port wJv24.cmd.nsid % 65536 ≠ 0) ∧
    (wJv24.lba ≤ 3) ∧
    (3 < wJv24.lba + wJv24.count) ∧
    (wJv24.started = false) := by decide +kernel

def wJ32 : State :=
  { wHost with fw := { wHost.fw with frozen := true } }

def wJ33 : State :=
  wHost.modCtrl .a fun k => { k with en := false, rdy := false }

def wJ34 : State :=
  { (wHost.modCtrl .a fun k => { k with en := false, rdy := false }) with start := { wLive.start with mode := .romMaintenance } }

def wJ36 : State :=
  wNums [(Obj.collectorState, 1)] wHost

def wJ35 : State :=
  wHost.modCtrl .a fun k => { k with perst := false, linkUp := false }

def wJ37 : State :=
  { (wNums [(Obj.powerState, 3)] wHost) with host := { (wNums [(Obj.powerState, 3)] wHost).host with psEntry := none, psPhase := 0, psWaiting := false, wake := true } }

def wJ38 : State :=
  { wHost with host := { (wHost).host with psEntry := some 2, psPhase := 0, psWaiting := false, wake := true } }

def wJ39 : State :=
  { wHost with host := { (wHost).host with psEntry := some 3, psPhase := 0, psWaiting := false, wake := true } }

def wJ40 : State :=
  { wHost with host := { (wHost).host with psEntry := some 4, psPhase := 1, psWaiting := false, wake := true } }

theorem test_hypotheses_of_resets_shutdowns_and_power_states_1 :
    ((wHost.ctrl Port.a).en = true) ∧
    (wHost.fw.frozen = false ∧ wHost.fw.resetActivates = false) ∧
    ((wJ32.ctrl Port.b).en = true) ∧
    (wJ32.fw.frozen = true) ∧
    ((wJ33.ctrl Port.a).en = false) ∧
    ((wJ33.ctrl Port.a).rdy = false) ∧
    (wJ33.start.mode ≠ RunMode.halted) ∧
    ((wJ34.ctrl Port.a).en = false) ∧
    ((wJ34.ctrl Port.a).rdy = false) ∧
    (wJ34.start.mode ≠ RunMode.halted) ∧
    (wHost.fw.frozen = false ∧ wHost.fw.resetActivates = false) := by decide +kernel

theorem test_hypotheses_of_resets_shutdowns_and_power_states_2 :
    (wHost.fw.frozen = false ∧ wHost.fw.resetActivates = false) ∧
    (inSafe wHost = false) ∧
    (inSafe wJ36 = true) ∧
    (wJ36.start.mode ≠ RunMode.starting) ∧
    (wJ36.start.mode ≠ RunMode.halted) ∧
    (wJ36.power.off = none) ∧
    ((wHost.ctrl Port.a).shutdown = 0) ∧
    ((wHost.ctrl Port.a).en = true) ∧
    ((wHost.ctrl (otherPort Port.a)).shutdown = 0) ∧
    ((wHost.ctrl Port.a).en = true) := by decide +kernel

theorem test_hypotheses_of_resets_shutdowns_and_power_states_3 :
    (wJ35.power.powerGood = true) ∧
    (wJ35.power.quiesced = false) ∧
    ((wJ35.ctrl Port.a).perst = false) ∧
    (wJ35.start.mode ≠ RunMode.halted) ∧
    (1 ≤ 5) ∧
    (5 ≤ 5) ∧
    (2 = 1 ∨ 2 = 2) ∧
    (wJ37.num Obj.powerState = 3) ∧
    (wJ37.host.wake = true) ∧
    (wJ37.host.psEntry = none) ∧
    (wJ38.host.psEntry = some 2) ∧
    (2 < 3) := by decide +kernel

theorem test_hypotheses_of_resets_shutdowns_and_power_states_4 :
    (wJ39.host.psEntry = some 3) ∧
    (wJ39.host.psPhase = 0) ∧
    (allParked wJ39 = true) ∧
    (wJ39.host.psWaiting = false) ∧
    (wJ39.start.maintenance = false) ∧
    (wJ40.host.psEntry = some 4) ∧
    (wJ40.host.psPhase = 1) ∧
    (allParked wJ40 = true) ∧
    (wJ40.host.psWaiting = false) := by decide +kernel

def wK24 : State :=
  { wHost with coll := { wHost.coll with fenced := [172] } }

def wK2 : State :=
  wDirty (wLay fun l => { l with journal := [wUpdate] })

def wK5 : State :=
  wDirty (wLay fun l => { l with replayQueue := [{ wUpdate with replay := true }], pinned := [0] })

def wKv1 : JournalEntry :=
  { wUpdate with replay := true }

def wK3 : State :=
  wLay (fun l => { l with dirtyGroups := [0, 3], touchedGroups := [3], resyncQueue := [0], journal := [wUpdate] })

theorem test_hypotheses_of_stripe_updates_are_journalled_and_retired_1 :
    (runOf wDirty 0 = some wNs.run ∧
      updateBlocks wDirty wNs.run (Run2.map wDirty wNs.run) 0 ≠ [] ∧
        stripeFree wDirty 0 = true ∧
          (Option.map (fun x => x.nsid) wDirty.layout.reshape = some wNs.run.nsid → wDirty.layout.reshapeHold = false) ∧
            ((Run2.map wDirty wNs.run).m ≠ 0 → pqServes wDirty = true) ∧
              (wDirty.layout.allocated.contains 0 = false → pageHeld wDirty (allocPage 0) = false)) ∧
    ((Run2.map wDirty wNs.run).m = 0 ∨ journalled wDirty.layout < journalSize) ∧
    (0 < (Run2.map wDirty wNs.run).k) ∧
    (wDirty.layout.allocated.contains 0 = false ∨ ∀ o < 64, (readOf wReads o).isSome = true) ∧
    (lostHeld wDirty = false) ∧
    (remapHeld wDirty = false) := by decide +kernel

theorem test_hypotheses_of_stripe_updates_are_journalled_and_retired_2 :
    (runOf wK24 0 = some wNs.run) ∧
    ((Run2.map wK24 wNs.run).m ≠ 0) ∧
    (pqServes wK24 = false) ∧
    (openUpdate wK2 0 = some wUpdate) ∧
    (runOf wK2 0 = some wNs.run) ∧
    (wK5.layout.replayQueue = [wKv1]) ∧
    (normalMode wK5 = true) ∧
    (wK3.layout.resyncQueue = [0]) ∧
    (normalMode wK3 = true) ∧
    (resyncReady wK3 0 [] = true) ∧
    (pqServes wK3 = true) := by decide +kernel

def wK7 : State :=
  wLay (fun l => { l with allocated := [] })

def wK8 : State :=
  wLay (fun l => { l with allocated := [0], remap := [(0, ⟨5, 9, false, false⟩)] })

def wK10 : State :=
  wNums [(Obj.patrolEnable, 1)] (wLay (fun l => { l with allocated := [0, 7] }))

def wK11 : State :=
  wNums [(Obj.patrolEnable, 1), (Obj.patrolNext, 1)] (wLay (fun l => { l with allocated := [1] }) { wHost with host := { wHost.host with namespaces := [(3, { wNs with firstStripe := 1 })] } })

def wKv2 : Run2 :=
  { wNs with firstStripe := 1 }.run

def wK12 : State :=
  { (wFw (fun f => { f with bundle := wBundle }) (wNums [(Obj.surfaceState 0, 1)] wHost)) with media := { wHost.media with grown := vmod wHost.media.grown 0 fun _ => List.replicate 32768 [] } }

def wK13 : State :=
  wFw (fun f => { f with bundle := wBundle }) (wNums [(Obj.surfaceState 0, 1)] wHost)

def wK21 : State :=
  wClimbs 2

def wK25 : State :=
  let s := wFw (fun f => { f with bundle := wBundle }) (wNums [(Obj.surfaceState 0, 1)] { wHost with mem := { wHost.mem with cache := [(0, ⟨2, 3, 3, 1, List.replicate 4096 1, none⟩)] } }); { s with dec := { s.dec with climbs := [wClimb (climbKey 0 4096 3) 5] } }

def wK23 : State :=
  wClimbs 5

def wK19 : State :=
  wClimbs 0

theorem test_hypotheses_of_surfaces_are_retired_rebuilt_and_patrolled_1 :
    (AcceptedNum wK7 Requester.mbus Obj.retireSurface ↑2) ∧
    (runOf wK8 0 = some wNs.run) ∧
    (normalMode wK8 = true) ∧
    (pqServes wK8 = true) ∧
    ((Run2.map wK8 wNs.run).m ≠ 0) ∧
    (wK8.layout.allocated.contains 0 = true) ∧
    (stripeFree wK8 0 = true) ∧
    (∀ o < 64, (readOf wReads o).isSome = true) ∧
    (fillList wK8 wNs.run (Run2.map wK8 wNs.run) (substOf wK8 (Run2.map wK8 wNs.run)) 0 ≠ []) ∧
    (rebuildDue wK8 wNs.run (Run2.map wK8 wNs.run) (substOf wK8 (Run2.map wK8 wNs.run)) 0
        (fillList wK8 wNs.run (Run2.map wK8 wNs.run) (substOf wK8 (Run2.map wK8 wNs.run)) 0) =
      true) ∧
    (wK8.layout.remap.wf = true) := by decide +kernel

theorem test_hypotheses_of_surfaces_are_retired_rebuilt_and_patrolled_2 :
    (runOf wK10 0 = some wNs.run) ∧
    (normalMode wK10 = true) ∧
    (pqServes wK10 = true) ∧
    (wK10.num Obj.patrolEnable ≠ 0) ∧
    (wK10.layout.jobs = []) ∧
    (wK10.layout.replayQueue = []) ∧
    (wK10.layout.resyncQueue = []) ∧
    (patrolTarget wK10 = some 0) ∧
    (∀ o < 64, (readOf wReads o).isSome = true) := by decide +kernel

theorem test_hypotheses_of_surfaces_are_retired_rebuilt_and_patrolled_3 :
    (runOf wK11 1 = some wKv2) ∧
    (normalMode wK11 = true) ∧
    (pqServes wK11 = true) ∧
    (wK11.num Obj.patrolEnable ≠ 0) ∧
    (wK11.layout.jobs = []) ∧
    (wK11.layout.replayQueue = []) ∧
    (wK11.layout.resyncQueue = []) ∧
    (patrolTarget wK11 = some 1) ∧
    (∀ o < 64, (readOf wReads o).isSome = true) ∧
    (zoneAt (zonesOf wK12.fw.bundle ↑0) 5000 = some (wZone, 0) ∧ wK12.num (Obj.surfaceState ↑0) = 1) := by decide +kernel

theorem test_hypotheses_of_surfaces_are_retired_rebuilt_and_patrolled_4 :
    (zoneAt (zonesOf wK13.fw.bundle ↑0) 5000 = some (wZone, 0) ∧ wK13.num (Obj.surfaceState ↑0) = 1) ∧
    (¬grownFull ≤ (grownMade wK13 ↑0).length) ∧
    (1 ≤ 8192 ∧ 8192 ≤ 8192 ∧ frozenAt wK13 (↑0) 5000 (physWedge wZone (↑0) 5000 7) = false) := by decide +kernel

theorem test_hypotheses_of_surfaces_are_retired_rebuilt_and_patrolled_5 :
    (zoneAt (zonesOf wK13.fw.bundle ↑0) 5000 = some (wZone, 0) ∧ wK13.num (Obj.surfaceState ↑0) = 1) ∧
    (¬grownFull ≤ (grownMade wK13 ↑0).length) ∧
    (true = false ∨ ¬(1 ≤ 0 ∧ 0 ≤ 8192 ∧ frozenAt wK13 (↑0) 5000 (physWedge wZone (↑0) 5000 7) = false)) ∧
    (freeSparesOf wK13 (↑0) wZone 5000 ≠ []) ∧
    (((List.find? (fun c => decide (c.key = climbKey (↑2) 0 0)) wK7.dec.climbs).getD (startClimb wK7 (↑2) 0 0 0 0)).step ≠ 5) ∧
    (((List.find? (fun c => decide (c.key = climbKey (↑2) 5 7)) wK21.dec.climbs).getD
          (startClimb wK21 (↑2) 5 7 5 (dramBase + 64))).step ≠
      5) := by decide +kernel

theorem test_hypotheses_of_surfaces_are_retired_rebuilt_and_patrolled_6 :
    (((List.find? (fun c => decide (c.key = climbKey (↑0) 4096 3)) wK25.dec.climbs).getD
          (startClimb wK25 (↑0) 4096 3 5 (dramBase + 64))).step =
      5) ∧
    (5 ≤
      ((List.find? (fun c => decide (c.key = climbKey (↑0) 4096 3)) wK25.dec.climbs).getD
          (startClimb wK25 (↑0) 4096 3 5 (dramBase + 64))).top) ∧
    (((List.find? (fun c => decide (c.key = climbKey (↑0) 4096 3)) wK25.dec.climbs).getD
            (startClimb wK25 (↑0) 4096 3 5 (dramBase + 64))).step =
        5 →
      stripeWaits wK25 (↑0) 4096 3 = none) ∧
    (reconstructs wK25 (↑0) 4096 3 { offset := 3, members := [] } = true) ∧
    (((List.find? (fun c => decide (c.key = climbKey (↑2) 0 0)) wK7.dec.climbs).getD (startClimb wK7 (↑2) 0 0 0 0)).step ≠ 5 ∨
      ((List.find? (fun c => decide (c.key = climbKey (↑2) 0 0)) wK7.dec.climbs).getD (startClimb wK7 (↑2) 0 0 0 0)).top < 5 ∨
        reconstructs wK7 (↑2) 0 0 { offset := 0, members := [] } = false) ∧
    (((List.find? (fun c => decide (c.key = climbKey (↑2) 5 7)) wK23.dec.climbs).getD
          (startClimb wK23 (↑2) 5 7 5 (dramBase + 64))).step =
      5) ∧
    (((List.find? (fun c => decide (c.key = climbKey (↑0) 4096 3)) wHeldStripe.dec.climbs).getD
          (startClimb wHeldStripe (↑0) 4096 3 5 (dramBase + 64))).step =
      5) ∧
    (stripeWaits wHeldStripe (↑0) 4096 3 = some wHeldStripe) ∧
    (stepGoesOn wK21 (↑2) 5 7
        ((List.find? (fun c => decide (c.key = climbKey (↑2) 5 7)) wK21.dec.climbs).getD
          (startClimb wK21 (↑2) 5 7 5 (dramBase + 64))) =
      true) := by decide +kernel

theorem test_hypotheses_of_surfaces_are_retired_rebuilt_and_patrolled_7 :
    (stepGoesOn wK7 (↑2) 0 0
        ((List.find? (fun c => decide (c.key = climbKey (↑2) 0 0)) wK7.dec.climbs).getD (startClimb wK7 (↑2) 0 0 0 0)) =
      false) ∧
    (((List.find? (fun c => decide (c.key = climbKey (↑2) 0 0)) wK7.dec.climbs).getD (startClimb wK7 (↑2) 0 0 0 0)).step = 5 →
      stripeWaits wK7 (↑2) 0 0 = none) ∧
    ((List.find?
            (stepOpen wK7 (↑2) 0 0
              {
                key :=
                  ((List.find? (fun c => decide (c.key = climbKey (↑2) 0 0)) wK7.dec.climbs).getD (startClimb wK7 (↑2) 0 0 0 0)).key,
                step :=
                  ((List.find? (fun c => decide (c.key = climbKey (↑2) 0 0)) wK7.dec.climbs).getD (startClimb wK7 (↑2) 0 0 0 0)).step,
                reads :=
                  ((List.find? (fun c => decide (c.key = climbKey (↑2) 0 0)) wK7.dec.climbs).getD
                      (startClimb wK7 (↑2) 0 0 0 0)).reads,
                top :=
                  ((List.find? (fun c => decide (c.key = climbKey (↑2) 0 0)) wK7.dec.climbs).getD (startClimb wK7 (↑2) 0 0 0 0)).top,
                parityLayout :=
                  ((List.find? (fun c => decide (c.key = climbKey (↑2) 0 0)) wK7.dec.climbs).getD
                      (startClimb wK7 (↑2) 0 0 0 0)).parityLayout,
                held :=
                  ((List.find? (fun c => decide (c.key = climbKey (↑2) 0 0)) wK7.dec.climbs).getD (startClimb wK7 (↑2) 0 0 0 0)).held,
                l5Failed :=
                  ((List.find? (fun c => decide (c.key = climbKey (↑2) 0 0)) wK7.dec.climbs).getD
                        (startClimb wK7 (↑2) 0 0 0 0)).l5Failed ||
                    decide
                      (((List.find? (fun c => decide (c.key = climbKey (↑2) 0 0)) wK7.dec.climbs).getD
                            (startClimb wK7 (↑2) 0 0 0 0)).step =
                        5),
                lost :=
                  ((List.find? (fun c => decide (c.key = climbKey (↑2) 0 0)) wK7.dec.climbs).getD (startClimb wK7 (↑2) 0 0 0 0)).lost,
                slip :=
                  ((List.find? (fun c => decide (c.key = climbKey (↑2) 0 0)) wK7.dec.climbs).getD (startClimb wK7 (↑2) 0 0 0 0)).slip,
                preset :=
                  ((List.find? (fun c => decide (c.key = climbKey (↑2) 0 0)) wK7.dec.climbs).getD
                      (startClimb wK7 (↑2) 0 0 0 0)).preset,
                syncWin :=
                  ((List.find? (fun c => decide (c.key = climbKey (↑2) 0 0)) wK7.dec.climbs).getD
                      (startClimb wK7 (↑2) 0 0 0 0)).syncWin,
                syncTol :=
                  ((List.find? (fun c => decide (c.key = climbKey (↑2) 0 0)) wK7.dec.climbs).getD
                      (startClimb wK7 (↑2) 0 0 0 0)).syncTol,
                offset :=
                  ((List.find? (fun c => decide (c.key = climbKey (↑2) 0 0)) wK7.dec.climbs).getD
                      (startClimb wK7 (↑2) 0 0 0 0)).offset,
                deepLocal :=
                  ((List.find? (fun c => decide (c.key = climbKey (↑2) 0 0)) wK7.dec.climbs).getD
                      (startClimb wK7 (↑2) 0 0 0 0)).deepLocal,
                deepGlobal :=
                  ((List.find? (fun c => decide (c.key = climbKey (↑2) 0 0)) wK7.dec.climbs).getD
                      (startClimb wK7 (↑2) 0 0 0 0)).deepGlobal,
                deepProbe :=
                  ((List.find? (fun c => decide (c.key = climbKey (↑2) 0 0)) wK7.dec.climbs).getD
                      (startClimb wK7 (↑2) 0 0 0 0)).deepProbe })
            (stepsAfter
              {
                key :=
                  ((List.find? (fun c => decide (c.key = climbKey (↑2) 0 0)) wK7.dec.climbs).getD (startClimb wK7 (↑2) 0 0 0 0)).key,
                step :=
                  ((List.find? (fun c => decide (c.key = climbKey (↑2) 0 0)) wK7.dec.climbs).getD (startClimb wK7 (↑2) 0 0 0 0)).step,
                reads :=
                  ((List.find? (fun c => decide (c.key = climbKey (↑2) 0 0)) wK7.dec.climbs).getD
                      (startClimb wK7 (↑2) 0 0 0 0)).reads,
                top :=
                  ((List.find? (fun c => decide (c.key = climbKey (↑2) 0 0)) wK7.dec.climbs).getD (startClimb wK7 (↑2) 0 0 0 0)).top,
                parityLayout :=
                  ((List.find? (fun c => decide (c.key = climbKey (↑2) 0 0)) wK7.dec.climbs).getD
                      (startClimb wK7 (↑2) 0 0 0 0)).parityLayout,
                held :=
                  ((List.find? (fun c => decide (c.key = climbKey (↑2) 0 0)) wK7.dec.climbs).getD (startClimb wK7 (↑2) 0 0 0 0)).held,
                l5Failed :=
                  ((List.find? (fun c => decide (c.key = climbKey (↑2) 0 0)) wK7.dec.climbs).getD
                        (startClimb wK7 (↑2) 0 0 0 0)).l5Failed ||
                    decide
                      (((List.find? (fun c => decide (c.key = climbKey (↑2) 0 0)) wK7.dec.climbs).getD
                            (startClimb wK7 (↑2) 0 0 0 0)).step =
                        5),
                lost :=
                  ((List.find? (fun c => decide (c.key = climbKey (↑2) 0 0)) wK7.dec.climbs).getD (startClimb wK7 (↑2) 0 0 0 0)).lost,
                slip :=
                  ((List.find? (fun c => decide (c.key = climbKey (↑2) 0 0)) wK7.dec.climbs).getD (startClimb wK7 (↑2) 0 0 0 0)).slip,
                preset :=
                  ((List.find? (fun c => decide (c.key = climbKey (↑2) 0 0)) wK7.dec.climbs).getD
                      (startClimb wK7 (↑2) 0 0 0 0)).preset,
                syncWin :=
                  ((List.find? (fun c => decide (c.key = climbKey (↑2) 0 0)) wK7.dec.climbs).getD
                      (startClimb wK7 (↑2) 0 0 0 0)).syncWin,
                syncTol :=
                  ((List.find? (fun c => decide (c.key = climbKey (↑2) 0 0)) wK7.dec.climbs).getD
                      (startClimb wK7 (↑2) 0 0 0 0)).syncTol,
                offset :=
                  ((List.find? (fun c => decide (c.key = climbKey (↑2) 0 0)) wK7.dec.climbs).getD
                      (startClimb wK7 (↑2) 0 0 0 0)).offset,
                deepLocal :=
                  ((List.find? (fun c => decide (c.key = climbKey (↑2) 0 0)) wK7.dec.climbs).getD
                      (startClimb wK7 (↑2) 0 0 0 0)).deepLocal,
                deepGlobal :=
                  ((List.find? (fun c => decide (c.key = climbKey (↑2) 0 0)) wK7.dec.climbs).getD
                      (startClimb wK7 (↑2) 0 0 0 0)).deepGlobal,
                deepProbe :=
                  ((List.find? (fun c => decide (c.key = climbKey (↑2) 0 0)) wK7.dec.climbs).getD
                      (startClimb wK7 (↑2) 0 0 0 0)).deepProbe }
              (decide (wK7.num Obj.ladderOrder = 1)))).getD
        6 =
      6) ∧
    (stepGoesOn wK23 (↑2) 5 7
        ((List.find? (fun c => decide (c.key = climbKey (↑2) 5 7)) wK23.dec.climbs).getD
          (startClimb wK23 (↑2) 5 7 5 (dramBase + 64))) =
      false) ∧
    (((List.find? (fun c => decide (c.key = climbKey (↑2) 5 7)) wK23.dec.climbs).getD
            (startClimb wK23 (↑2) 5 7 5 (dramBase + 64))).step =
        5 →
      stripeWaits wK23 (↑2) 5 7 = none) ∧
    ((List.find?
            (stepOpen wK23 (↑2) 5 7
              {
                key :=
                  ((List.find? (fun c => decide (c.key = climbKey (↑2) 5 7)) wK23.dec.climbs).getD
                      (startClimb wK23 (↑2) 5 7 5 (dramBase + 64))).key,
                step :=
                  ((List.find? (fun c => decide (c.key = climbKey (↑2) 5 7)) wK23.dec.climbs).getD
                      (startClimb wK23 (↑2) 5 7 5 (dramBase + 64))).step,
                reads :=
                  ((List.find? (fun c => decide (c.key = climbKey (↑2) 5 7)) wK23.dec.climbs).getD
                      (startClimb wK23 (↑2) 5 7 5 (dramBase + 64))).reads,
                top :=
                  ((List.find? (fun c => decide (c.key = climbKey (↑2) 5 7)) wK23.dec.climbs).getD
                      (startClimb wK23 (↑2) 5 7 5 (dramBase + 64))).top,
                parityLayout :=
                  ((List.find? (fun c => decide (c.key = climbKey (↑2) 5 7)) wK23.dec.climbs).getD
                      (startClimb wK23 (↑2) 5 7 5 (dramBase + 64))).parityLayout,
                held :=
                  ((List.find? (fun c => decide (c.key = climbKey (↑2) 5 7)) wK23.dec.climbs).getD
                      (startClimb wK23 (↑2) 5 7 5 (dramBase + 64))).held,
                l5Failed :=
                  ((List.find? (fun c => decide (c.key = climbKey (↑2) 5 7)) wK23.dec.climbs).getD
                        (startClimb wK23 (↑2) 5 7 5 (dramBase + 64))).l5Failed ||
                    decide
                      (((List.find? (fun c => decide (c.key = climbKey (↑2) 5 7)) wK23.dec.climbs).getD
                            (startClimb wK23 (↑2) 5 7 5 (dramBase + 64))).step =
                        5),
                lost :=
                  ((List.find? (fun c => decide (c.key = climbKey (↑2) 5 7)) wK23.dec.climbs).getD
                      (startClimb wK23 (↑2) 5 7 5 (dramBase + 64))).lost,
                slip :=
                  ((List.find? (fun c => decide (c.key = climbKey (↑2) 5 7)) wK23.dec.climbs).getD
                      (startClimb wK23 (↑2) 5 7 5 (dramBase + 64))).slip,
                preset :=
                  ((List.find? (fun c => decide (c.key = climbKey (↑2) 5 7)) wK23.dec.climbs).getD
                      (startClimb wK23 (↑2) 5 7 5 (dramBase + 64))).preset,
                syncWin :=
                  ((List.find? (fun c => decide (c.key = climbKey (↑2) 5 7)) wK23.dec.climbs).getD
                      (startClimb wK23 (↑2) 5 7 5 (dramBase + 64))).syncWin,
                syncTol :=
                  ((List.find? (fun c => decide (c.key = climbKey (↑2) 5 7)) wK23.dec.climbs).getD
                      (startClimb wK23 (↑2) 5 7 5 (dramBase + 64))).syncTol,
                offset :=
                  ((List.find? (fun c => decide (c.key = climbKey (↑2) 5 7)) wK23.dec.climbs).getD
                      (startClimb wK23 (↑2) 5 7 5 (dramBase + 64))).offset,
                deepLocal :=
                  ((List.find? (fun c => decide (c.key = climbKey (↑2) 5 7)) wK23.dec.climbs).getD
                      (startClimb wK23 (↑2) 5 7 5 (dramBase + 64))).deepLocal,
                deepGlobal :=
                  ((List.find? (fun c => decide (c.key = climbKey (↑2) 5 7)) wK23.dec.climbs).getD
                      (startClimb wK23 (↑2) 5 7 5 (dramBase + 64))).deepGlobal,
                deepProbe :=
                  ((List.find? (fun c => decide (c.key = climbKey (↑2) 5 7)) wK23.dec.climbs).getD
                      (startClimb wK23 (↑2) 5 7 5 (dramBase + 64))).deepProbe })
            (stepsAfter
              {
                key :=
                  ((List.find? (fun c => decide (c.key = climbKey (↑2) 5 7)) wK23.dec.climbs).getD
                      (startClimb wK23 (↑2) 5 7 5 (dramBase + 64))).key,
                step :=
                  ((List.find? (fun c => decide (c.key = climbKey (↑2) 5 7)) wK23.dec.climbs).getD
                      (startClimb wK23 (↑2) 5 7 5 (dramBase + 64))).step,
                reads :=
                  ((List.find? (fun c => decide (c.key = climbKey (↑2) 5 7)) wK23.dec.climbs).getD
                      (startClimb wK23 (↑2) 5 7 5 (dramBase + 64))).reads,
                top :=
                  ((List.find? (fun c => decide (c.key = climbKey (↑2) 5 7)) wK23.dec.climbs).getD
                      (startClimb wK23 (↑2) 5 7 5 (dramBase + 64))).top,
                parityLayout :=
                  ((List.find? (fun c => decide (c.key = climbKey (↑2) 5 7)) wK23.dec.climbs).getD
                      (startClimb wK23 (↑2) 5 7 5 (dramBase + 64))).parityLayout,
                held :=
                  ((List.find? (fun c => decide (c.key = climbKey (↑2) 5 7)) wK23.dec.climbs).getD
                      (startClimb wK23 (↑2) 5 7 5 (dramBase + 64))).held,
                l5Failed :=
                  ((List.find? (fun c => decide (c.key = climbKey (↑2) 5 7)) wK23.dec.climbs).getD
                        (startClimb wK23 (↑2) 5 7 5 (dramBase + 64))).l5Failed ||
                    decide
                      (((List.find? (fun c => decide (c.key = climbKey (↑2) 5 7)) wK23.dec.climbs).getD
                            (startClimb wK23 (↑2) 5 7 5 (dramBase + 64))).step =
                        5),
                lost :=
                  ((List.find? (fun c => decide (c.key = climbKey (↑2) 5 7)) wK23.dec.climbs).getD
                      (startClimb wK23 (↑2) 5 7 5 (dramBase + 64))).lost,
                slip :=
                  ((List.find? (fun c => decide (c.key = climbKey (↑2) 5 7)) wK23.dec.climbs).getD
                      (startClimb wK23 (↑2) 5 7 5 (dramBase + 64))).slip,
                preset :=
                  ((List.find? (fun c => decide (c.key = climbKey (↑2) 5 7)) wK23.dec.climbs).getD
                      (startClimb wK23 (↑2) 5 7 5 (dramBase + 64))).preset,
                syncWin :=
                  ((List.find? (fun c => decide (c.key = climbKey (↑2) 5 7)) wK23.dec.climbs).getD
                      (startClimb wK23 (↑2) 5 7 5 (dramBase + 64))).syncWin,
                syncTol :=
                  ((List.find? (fun c => decide (c.key = climbKey (↑2) 5 7)) wK23.dec.climbs).getD
                      (startClimb wK23 (↑2) 5 7 5 (dramBase + 64))).syncTol,
                offset :=
                  ((List.find? (fun c => decide (c.key = climbKey (↑2) 5 7)) wK23.dec.climbs).getD
                      (startClimb wK23 (↑2) 5 7 5 (dramBase + 64))).offset,
                deepLocal :=
                  ((List.find? (fun c => decide (c.key = climbKey (↑2) 5 7)) wK23.dec.climbs).getD
                      (startClimb wK23 (↑2) 5 7 5 (dramBase + 64))).deepLocal,
                deepGlobal :=
                  ((List.find? (fun c => decide (c.key = climbKey (↑2) 5 7)) wK23.dec.climbs).getD
                      (startClimb wK23 (↑2) 5 7 5 (dramBase + 64))).deepGlobal,
                deepProbe :=
                  ((List.find? (fun c => decide (c.key = climbKey (↑2) 5 7)) wK23.dec.climbs).getD
                      (startClimb wK23 (↑2) 5 7 5 (dramBase + 64))).deepProbe }
              (decide (wK23.num Obj.ladderOrder = 1)))).getD
        6 =
      6) ∧
    (stepGoesOn wK19 (↑2) 5 7
        ((List.find? (fun c => decide (c.key = climbKey (↑2) 5 7)) wK19.dec.climbs).getD
          (startClimb wK19 (↑2) 5 7 5 (dramBase + 64))) =
      false) ∧
    (((List.find? (fun c => decide (c.key = climbKey (↑2) 5 7)) wK19.dec.climbs).getD
            (startClimb wK19 (↑2) 5 7 5 (dramBase + 64))).step =
        5 →
      stripeWaits wK19 (↑2) 5 7 = none) ∧
    ((List.find?
            (stepOpen wK19 (↑2) 5 7
              {
                key :=
                  ((List.find? (fun c => decide (c.key = climbKey (↑2) 5 7)) wK19.dec.climbs).getD
                      (startClimb wK19 (↑2) 5 7 5 (dramBase + 64))).key,
                step :=
                  ((List.find? (fun c => decide (c.key = climbKey (↑2) 5 7)) wK19.dec.climbs).getD
                      (startClimb wK19 (↑2) 5 7 5 (dramBase + 64))).step,
                reads :=
                  ((List.find? (fun c => decide (c.key = climbKey (↑2) 5 7)) wK19.dec.climbs).getD
                      (startClimb wK19 (↑2) 5 7 5 (dramBase + 64))).reads,
                top :=
                  ((List.find? (fun c => decide (c.key = climbKey (↑2) 5 7)) wK19.dec.climbs).getD
                      (startClimb wK19 (↑2) 5 7 5 (dramBase + 64))).top,
                parityLayout :=
                  ((List.find? (fun c => decide (c.key = climbKey (↑2) 5 7)) wK19.dec.climbs).getD
                      (startClimb wK19 (↑2) 5 7 5 (dramBase + 64))).parityLayout,
                held :=
                  ((List.find? (fun c => decide (c.key = climbKey (↑2) 5 7)) wK19.dec.climbs).getD
                      (startClimb wK19 (↑2) 5 7 5 (dramBase + 64))).held,
                l5Failed :=
                  ((List.find? (fun c => decide (c.key = climbKey (↑2) 5 7)) wK19.dec.climbs).getD
                        (startClimb wK19 (↑2) 5 7 5 (dramBase + 64))).l5Failed ||
                    decide
                      (((List.find? (fun c => decide (c.key = climbKey (↑2) 5 7)) wK19.dec.climbs).getD
                            (startClimb wK19 (↑2) 5 7 5 (dramBase + 64))).step =
                        5),
                lost :=
                  ((List.find? (fun c => decide (c.key = climbKey (↑2) 5 7)) wK19.dec.climbs).getD
                      (startClimb wK19 (↑2) 5 7 5 (dramBase + 64))).lost,
                slip :=
                  ((List.find? (fun c => decide (c.key = climbKey (↑2) 5 7)) wK19.dec.climbs).getD
                      (startClimb wK19 (↑2) 5 7 5 (dramBase + 64))).slip,
                preset :=
                  ((List.find? (fun c => decide (c.key = climbKey (↑2) 5 7)) wK19.dec.climbs).getD
                      (startClimb wK19 (↑2) 5 7 5 (dramBase + 64))).preset,
                syncWin :=
                  ((List.find? (fun c => decide (c.key = climbKey (↑2) 5 7)) wK19.dec.climbs).getD
                      (startClimb wK19 (↑2) 5 7 5 (dramBase + 64))).syncWin,
                syncTol :=
                  ((List.find? (fun c => decide (c.key = climbKey (↑2) 5 7)) wK19.dec.climbs).getD
                      (startClimb wK19 (↑2) 5 7 5 (dramBase + 64))).syncTol,
                offset :=
                  ((List.find? (fun c => decide (c.key = climbKey (↑2) 5 7)) wK19.dec.climbs).getD
                      (startClimb wK19 (↑2) 5 7 5 (dramBase + 64))).offset,
                deepLocal :=
                  ((List.find? (fun c => decide (c.key = climbKey (↑2) 5 7)) wK19.dec.climbs).getD
                      (startClimb wK19 (↑2) 5 7 5 (dramBase + 64))).deepLocal,
                deepGlobal :=
                  ((List.find? (fun c => decide (c.key = climbKey (↑2) 5 7)) wK19.dec.climbs).getD
                      (startClimb wK19 (↑2) 5 7 5 (dramBase + 64))).deepGlobal,
                deepProbe :=
                  ((List.find? (fun c => decide (c.key = climbKey (↑2) 5 7)) wK19.dec.climbs).getD
                      (startClimb wK19 (↑2) 5 7 5 (dramBase + 64))).deepProbe })
            (stepsAfter
              {
                key :=
                  ((List.find? (fun c => decide (c.key = climbKey (↑2) 5 7)) wK19.dec.climbs).getD
                      (startClimb wK19 (↑2) 5 7 5 (dramBase + 64))).key,
                step :=
                  ((List.find? (fun c => decide (c.key = climbKey (↑2) 5 7)) wK19.dec.climbs).getD
                      (startClimb wK19 (↑2) 5 7 5 (dramBase + 64))).step,
                reads :=
                  ((List.find? (fun c => decide (c.key = climbKey (↑2) 5 7)) wK19.dec.climbs).getD
                      (startClimb wK19 (↑2) 5 7 5 (dramBase + 64))).reads,
                top :=
                  ((List.find? (fun c => decide (c.key = climbKey (↑2) 5 7)) wK19.dec.climbs).getD
                      (startClimb wK19 (↑2) 5 7 5 (dramBase + 64))).top,
                parityLayout :=
                  ((List.find? (fun c => decide (c.key = climbKey (↑2) 5 7)) wK19.dec.climbs).getD
                      (startClimb wK19 (↑2) 5 7 5 (dramBase + 64))).parityLayout,
                held :=
                  ((List.find? (fun c => decide (c.key = climbKey (↑2) 5 7)) wK19.dec.climbs).getD
                      (startClimb wK19 (↑2) 5 7 5 (dramBase + 64))).held,
                l5Failed :=
                  ((List.find? (fun c => decide (c.key = climbKey (↑2) 5 7)) wK19.dec.climbs).getD
                        (startClimb wK19 (↑2) 5 7 5 (dramBase + 64))).l5Failed ||
                    decide
                      (((List.find? (fun c => decide (c.key = climbKey (↑2) 5 7)) wK19.dec.climbs).getD
                            (startClimb wK19 (↑2) 5 7 5 (dramBase + 64))).step =
                        5),
                lost :=
                  ((List.find? (fun c => decide (c.key = climbKey (↑2) 5 7)) wK19.dec.climbs).getD
                      (startClimb wK19 (↑2) 5 7 5 (dramBase + 64))).lost,
                slip :=
                  ((List.find? (fun c => decide (c.key = climbKey (↑2) 5 7)) wK19.dec.climbs).getD
                      (startClimb wK19 (↑2) 5 7 5 (dramBase + 64))).slip,
                preset :=
                  ((List.find? (fun c => decide (c.key = climbKey (↑2) 5 7)) wK19.dec.climbs).getD
                      (startClimb wK19 (↑2) 5 7 5 (dramBase + 64))).preset,
                syncWin :=
                  ((List.find? (fun c => decide (c.key = climbKey (↑2) 5 7)) wK19.dec.climbs).getD
                      (startClimb wK19 (↑2) 5 7 5 (dramBase + 64))).syncWin,
                syncTol :=
                  ((List.find? (fun c => decide (c.key = climbKey (↑2) 5 7)) wK19.dec.climbs).getD
                      (startClimb wK19 (↑2) 5 7 5 (dramBase + 64))).syncTol,
                offset :=
                  ((List.find? (fun c => decide (c.key = climbKey (↑2) 5 7)) wK19.dec.climbs).getD
                      (startClimb wK19 (↑2) 5 7 5 (dramBase + 64))).offset,
                deepLocal :=
                  ((List.find? (fun c => decide (c.key = climbKey (↑2) 5 7)) wK19.dec.climbs).getD
                      (startClimb wK19 (↑2) 5 7 5 (dramBase + 64))).deepLocal,
                deepGlobal :=
                  ((List.find? (fun c => decide (c.key = climbKey (↑2) 5 7)) wK19.dec.climbs).getD
                      (startClimb wK19 (↑2) 5 7 5 (dramBase + 64))).deepGlobal,
                deepProbe :=
                  ((List.find? (fun c => decide (c.key = climbKey (↑2) 5 7)) wK19.dec.climbs).getD
                      (startClimb wK19 (↑2) 5 7 5 (dramBase + 64))).deepProbe }
              (decide (wK19.num Obj.ladderOrder = 1)))).getD
        6 ≠
      6) := by decide +kernel

def wK14 : State :=
  wLay (fun l => { l with bundleMaps := [(9, wMap), (12, { wMap with layoutId := 12, k := 3, positions := [(0, 0), (1, 0), (2, 0), (3, 0)] })] })

def wKv3 : StitchMap :=
  { wMap with layoutId := 12, k := 3, positions := [(0, 0), (1, 0), (2, 0), (3, 0)] }

def wKv4 : Reshape :=
  ⟨3, 1, 2, 1, 1, 192, 24576, 1, 0⟩

def wK15 : State :=
  wReshaping 0

def wKv5 : Run2 :=
  ⟨3, 1, 0, 1, 2, 1, true⟩

def wK16 : State :=
  { wReshaping 0 (wHost) with layout := { (wReshaping 0).layout with reshape := some { wReshape 0 with groupsTotal := 2 } } }

def wKv6 : Reshape :=
  { wReshape 0 with groupsTotal := 2 }

def wK17 : State :=
  wNums [(Obj.actuatorState 0, 3)] (wReshaping 0)

def wK18 : State :=
  wReshaping 1

theorem test_hypotheses_of_reshapes_move_a_namespace_1 :
    (AcceptedRec wK14 Requester.mbus Obj.reshapeRequest [3, 0, 12, 0]) ∧
    (fieldAt [3, 0, 12, 0] 2 2 ≠ 65535) ∧
    (nsOf wK14 (byteAt [3, 0, 12, 0] 0) = some wNs) ∧
    (wK14.layout.bundleMaps.find (fieldAt [3, 0, 12, 0] 2 2) = some wKv3) ∧
    (planReshape wK14 wNs wKv3 = some wKv4) ∧
    (AcceptedRec wK15 Requester.mbus Obj.reshapeRequest [3, 0, 255, 255]) ∧
    (fieldAt [3, 0, 255, 255] 2 2 = 65535) := by decide +kernel

theorem test_hypotheses_of_reshapes_move_a_namespace_2 :
    (wK15.layout.reshape = some (wReshape 0) ∧
      reshapeRun wK15 = some wKv5 ∧
        nsOf wK15 (wReshape 0).nsid = some wNs ∧ normalMode wK15 = true ∧ (wReshape 0).nextGroup < (wReshape 0).groupsTotal) ∧
    (wK15.layout.allocated.any (criticalStripe wK15) = false ∧ notReady wK15 wNs = false) ∧
    (∀
      g ∈
        stripesOver (Run2.map wK15 wNs.run) wNs.run ((wReshape 0).nextGroup * (wReshape 0).groupBlocks)
          (min ((wReshape 0).nextGroup * (wReshape 0).groupBlocks + (wReshape 0).groupBlocks) wNs.nsze),
      openUpdate wK15 g = none) := by decide +kernel

theorem test_hypotheses_of_reshapes_move_a_namespace_3 :
    (wK16.layout.reshape = some wKv6 ∧
      reshapeRun wK16 = some wKv5 ∧ nsOf wK16 wKv6.nsid = some wNs ∧ normalMode wK16 = true ∧ wKv6.nextGroup < wKv6.groupsTotal) ∧
    (wK16.layout.allocated.any (criticalStripe wK16) = false ∧ notReady wK16 wNs = false) ∧
    (∀
      g ∈
        stripesOver (Run2.map wK16 wNs.run) wNs.run (wKv6.nextGroup * wKv6.groupBlocks)
          (min (wKv6.nextGroup * wKv6.groupBlocks + wKv6.groupBlocks) wNs.nsze),
      openUpdate wK16 g = none) := by decide +kernel

theorem test_hypotheses_of_reshapes_move_a_namespace_4 :
    (wK17.layout.reshape = some (wReshape 0) ∧
      reshapeRun wK17 = some wKv5 ∧
        nsOf wK17 (wReshape 0).nsid = some wNs ∧ normalMode wK17 = true ∧ (wReshape 0).nextGroup < (wReshape 0).groupsTotal) ∧
    (¬(wK17.layout.allocated.any (criticalStripe wK17) = false ∧ notReady wK17 wNs = false)) ∧
    (wK18.layout.reshape = some (wReshape 1)) ∧
    (nsOf wK18 (wReshape 1).nsid = some wNs) ∧
    (wNs.nsid = (wReshape 1).nsid) ∧
    ((wReshape 1).groupsTotal ≤ (wReshape 1).nextGroup) ∧
    (∀ e ∈ wK18.layout.journal, e.nsid ≠ (wReshape 1).nsid) := by decide +kernel

def wL1 : State :=
  wNums ((List.range 28).map fun i => (Obj.weight i, 2)) wLive

def wLv1 : List Beat :=
  [⟨3, dramBase + 0x1000, some [1, 2, 0], none, .clean⟩, ⟨4, 5, none, none, .clean⟩]

def wL3 : State :=
  { wLive with mem := { wLive.mem with copying := [1835000], substituted := [(1835001, 0)] } }

def wL4 : State :=
  { wLive with mem := { wLive.mem with dram := [(dramBase + 0x1000, 7), (dramBase + 0x1000 + 8, 7)], written := [1] } }

def wLv3 : List Byte :=
  leBytes 8 (dramBase + 0x1000) ++ leBytes 8 0x1000

def wL5 : State :=
  { wLive with mem := { wLive.mem with sram := [(0x1080102, 9)] } }

def wL41 : State :=
  { wLive with mem := { wLive.mem with secSram := [(0x1000002, 9)] } }

def wL6 : State :=
  { wLive with mem := { wLive.mem with lines := [((dramBase + 0x1000) / 64, ⟨3, (List.range 64).map fun i => BitVec.ofNat 8 i, false, true, false⟩)], recency := [(dramBase + 0x1000) / 64] } }

def wLv4 : Line :=
  ⟨3, (List.range 64).map fun i => BitVec.ofNat 8 i, false, true, false⟩

def wL47 : State :=
  { wLive with start := { wLive.start with mode := .romMaintenance } }

def wL42 : State :=
  { wLive with power := { wLive.power with quiesced := true } }

def wL7 : State :=
  { wLive with mem := { wLive.mem with fills := [((dramBase + 0x1000) / 64, ⟨[.load 2 (dramBase + 0x1004) 4], 5, true, false, false, []⟩)], dram := [(dramBase + 0x1005, 7)] } }

def wLv5 : Fill :=
  ⟨[.load 2 (dramBase + 0x1004) 4], 5, true, false, false, []⟩

def wL9 : State :=
  { wLive with mem := { wLive.mem with fills := [((dramBase + 0x1000) / 64, ⟨[.store (dramBase + 0x1004) [1]], 5, false, false, false, []⟩)], dram := [(dramBase + 0x1005, 7)] } }

def wLv7 : Fill :=
  ⟨[.store (dramBase + 0x1004) [1]], 5, false, false, false, []⟩

def wL8 : State :=
  { wLive with mem := { wLive.mem with fills := [((dramBase + 0x1000) / 64, ⟨[.load 2 (dramBase + 0x1004) 4], 5, true, false, true, []⟩)], dram := [(dramBase + 0x1005, 7)] } }

def wLv6 : Fill :=
  ⟨[.load 2 (dramBase + 0x1004) 4], 5, true, false, true, []⟩

def wL45 : State :=
  { wLive with mem := { wLive.mem with fills := [((dramBase + 0x1000) / 64, ⟨[.store (dramBase + 0x1004) [1], .load 2 (dramBase + 0x1004) 4], 5, true, false, false, []⟩)], dram := [(dramBase + 0x1005, 7)] } }

def wLv11 : Fill :=
  ⟨[.store (dramBase + 0x1004) [1], .load 2 (dramBase + 0x1004) 4], 5, true, false, false, []⟩

def wL46 : State :=
  { wLive with mem := { wLive.mem with fills := [((dramBase + 0x1000) / 64, ⟨[.load 2 (dramBase + 0x1004) 4], 5, false, true, false, []⟩)], dram := [(dramBase + 0x1005, 7)] } }

def wLv12 : Fill :=
  ⟨[.load 2 (dramBase + 0x1004) 4], 5, false, true, false, []⟩

theorem test_hypotheses_of_memory_is_granted_read_and_written_1 :
    (wL1.wf = true) ∧
    (wLv1.any (beatReady wL1) = true) ∧
    (∀ i < 28, 1 ≤ wL1.num (Obj.weight i)) ∧
    (1835000 ∈ wL3.mem.copying) ∧
    (freeSpare wL3.mem = some 1) ∧
    (wL4.wf = true) ∧
    (AcceptedRec wL4 (Requester.core 2) Obj.zeroRange wLv3) ∧
    (coresRun wL5 = true) ∧
    (coreStopped wL5 ↑2 = false) ∧
    (within 17301760 4 (sramBase ↑2) (sramSize ↑2) = true) ∧
    (EccOutcome.clean = EccOutcome.clean) ∧
    (wL5.wf = true) := by decide +kernel

theorem test_hypotheses_of_memory_is_granted_read_and_written_2 :
    (coresRun wL41 = true) ∧
    (coreStopped wL41 ↑8 = false) ∧
    (within 16908286 2 (sramBase ↑8) (sramSize ↑8) = true) ∧
    (EccOutcome.clean = EccOutcome.clean) ∧
    (wL41.wf = true) ∧
    (coresRun wL5 = true) ∧
    (coreStopped wL5 ↑2 = false) ∧
    (within 17301760 4 (sramBase ↑2) (sramSize ↑2) = true) ∧
    (EccOutcome.clean = EccOutcome.clean) ∧
    (coresRun wLive = true) ∧
    (coreStopped wLive ↑0 = false) ∧
    (within 17301504 4 16777216 2097152 = true) ∧
    (within 17301504 4 (sramBase ↑0) (sramSize ↑0) = false) := by decide +kernel

theorem test_hypotheses_of_memory_is_granted_read_and_written_3 :
    (coresRun wL6 = true) ∧
    (coreStopped wL6 ↑2 = false) ∧
    (inDram (dramBase + 4096 + 60) 4 = true ∧
      4 ≤ 64 - (dramBase + 4096 + 60) % 64 ∧ EccOutcome.clean = EccOutcome.clean ∧ wL6.start.mode ≠ RunMode.romMaintenance) ∧
    (wL6.mem.lines.find ((dramBase + 4096 + 60) / 64) = some wLv4) ∧
    (wLv4.poisoned = false) := by decide +kernel

theorem test_hypotheses_of_memory_is_granted_read_and_written_4 :
    (coresRun wL6 = true) ∧
    (coreStopped wL6 ↑2 = false) ∧
    (inDram (dramBase + 4096 + 60) 4 = true ∧
      4 ≤ 64 - (dramBase + 4096 + 60) % 64 ∧ EccOutcome.clean = EccOutcome.clean ∧ wL6.start.mode ≠ RunMode.romMaintenance) ∧
    (wL6.mem.lines.find ((dramBase + 4096 + 60) / 64) = some wLv4) := by decide +kernel

theorem test_hypotheses_of_memory_is_granted_read_and_written_5 :
    (coresRun wLive = true) ∧
    (coreStopped wLive ↑8 = false) ∧
    (inDram (dramBase + 4096 + 60) 4 = true ∧
      4 ≤ 64 - (dramBase + 4096 + 60) % 64 ∧ EccOutcome.clean = EccOutcome.clean ∧ wLive.start.mode ≠ RunMode.romMaintenance) ∧
    (wLive.mem.lines.find ((dramBase + 4096 + 60) / 64) = none) ∧
    (wLive.mem.fills.find ((dramBase + 4096 + 60) / 64) = none) ∧
    (coresRun wL1 = true) ∧
    (coreStopped wL1 ↑0 = false) ∧
    (0 + 0 ≤ 262144) ∧
    (coresRun wLive = true) ∧
    (coreStopped wLive ↑0 = false) ∧
    (inCoreWindow 536870912 = true) := by decide +kernel

theorem test_hypotheses_of_memory_is_granted_read_and_written_6 :
    (coresRun wL47 = true) ∧
    (coreStopped wL47 ↑0 = false) ∧
    (wL47.start.mode = RunMode.romMaintenance) ∧
    (inDram (dramBase + 4100) 4 = true) ∧
    (coreStopped wL42 ↑2 = true) ∧
    (wL7.mem.fills.find ((dramBase + 4096) / 64) = some wLv5) ∧
    (wL9.mem.fills.find ((dramBase + 4096) / 64) = some wLv7) ∧
    (wL8.mem.fills.find ((dramBase + 4096) / 64) = some wLv6) ∧
    (wL45.mem.fills.find ((dramBase + 4096) / 64) = some wLv11) ∧
    (wL46.mem.fills.find ((dramBase + 4096) / 64) = some wLv12) := by decide +kernel

def wL10 : State :=
  wNums [(Obj.maintBase 2, dramBase + 0x1000), (Obj.maintLength 2, 128)] ({ wLive with mem := { wLive.mem with lines := [((dramBase + 0x1000) / 64, ⟨3, List.replicate 64 1, true, false, false⟩), ((dramBase + 0x1040) / 64, ⟨4, List.replicate 64 1, true, true, false⟩)], fills := [((dramBase + 0x1080) / 64, ⟨[], 5, true, false, false, []⟩)], recency := [(dramBase + 0x1000) / 64] } })

def wL11 : State :=
  wNums [(Obj.maintBase 2, dramBase + 0x1001), (Obj.maintLength 2, 128)] ({ wLive with mem := { wLive.mem with lines := [((dramBase + 0x1000) / 64, ⟨3, List.replicate 64 1, true, false, false⟩), ((dramBase + 0x1040) / 64, ⟨4, List.replicate 64 1, true, true, false⟩)], fills := [((dramBase + 0x1080) / 64, ⟨[], 5, true, false, false, []⟩)], recency := [(dramBase + 0x1000) / 64] } })

def wL13 : State :=
  wNums [(Obj.maintOp 2, 1)] ({ wLive with mem := { wLive.mem with maint := [(2, 0)] } })

def wL14 : State :=
  { wLive with mem := { wLive.mem with keeper := .ofFn fun i => { KeeperSlot.reset with state := if i.val = 2 then 3 else 1, seq := i.val }, keeperChosen := some 3 } }

def wL15 : State :=
  { wLive with mem := { wLive.mem with keeper := .ofFn fun i => { KeeperSlot.reset with state := if i.val = 2 then 2 else 1, seq := i.val }, keeperChosen := some 3, supersedeDue := true } }

theorem test_hypotheses_of_cache_and_keeper_maintenance_1 :
    (wL10.mem.lines.wf = true) ∧
    (Accepted wL10 (Requester.core 2) (Obj.maintOp ↑2) (Val.num 1)) ∧
    (wL10.num (Obj.maintBase ↑2) % 64 = 0 ∧
      wL10.num (Obj.maintLength ↑2) % 64 = 0 ∧ inDram (wL10.num (Obj.maintBase ↑2)) (wL10.num (Obj.maintLength ↑2)) = true) ∧
    (wL11.mem.lines.wf = true) ∧
    (Accepted wL11 (Requester.core 2) (Obj.maintOp ↑2) (Val.num 1)) ∧
    (¬(wL11.num (Obj.maintBase ↑2) % 64 = 0 ∧
        wL11.num (Obj.maintLength ↑2) % 64 = 0 ∧ inDram (wL11.num (Obj.maintBase ↑2)) (wL11.num (Obj.maintLength ↑2)) = true)) := by decide +kernel

theorem test_hypotheses_of_cache_and_keeper_maintenance_2 :
    (wL10.mem.lines.wf = true) ∧
    (Accepted wL10 (Requester.core 2) (Obj.maintOp ↑2) (Val.num 2)) ∧
    (wL10.num (Obj.maintBase ↑2) % 64 = 0 ∧
      wL10.num (Obj.maintLength ↑2) % 64 = 0 ∧ inDram (wL10.num (Obj.maintBase ↑2)) (wL10.num (Obj.maintLength ↑2)) = true) ∧
    (wL11.mem.lines.wf = true) ∧
    (Accepted wL11 (Requester.core 2) (Obj.maintOp ↑2) (Val.num 2)) ∧
    (¬(wL11.num (Obj.maintBase ↑2) % 64 = 0 ∧
        wL11.num (Obj.maintLength ↑2) % 64 = 0 ∧ inDram (wL11.num (Obj.maintBase ↑2)) (wL11.num (Obj.maintLength ↑2)) = true)) := by decide +kernel

theorem test_hypotheses_of_cache_and_keeper_maintenance_3 :
    (wL10.mem.lines.wf = true) ∧
    (Accepted wL10 (Requester.core 2) (Obj.maintOp ↑2) (Val.num 3)) ∧
    (wL10.num (Obj.maintBase ↑2) % 64 = 0 ∧
      wL10.num (Obj.maintLength ↑2) % 64 = 0 ∧ inDram (wL10.num (Obj.maintBase ↑2)) (wL10.num (Obj.maintLength ↑2)) = true) ∧
    (wL11.mem.lines.wf = true) ∧
    (Accepted wL11 (Requester.core 2) (Obj.maintOp ↑2) (Val.num 3)) ∧
    (¬(wL11.num (Obj.maintBase ↑2) % 64 = 0 ∧
        wL11.num (Obj.maintLength ↑2) % 64 = 0 ∧ inDram (wL11.num (Obj.maintBase ↑2)) (wL11.num (Obj.maintLength ↑2)) = true)) := by decide +kernel

theorem test_hypotheses_of_cache_and_keeper_maintenance_4 :
    (wL10.mem.lines.wf = true) ∧
    (Accepted wL10 (Requester.core 2) (Obj.maintOp ↑2) (Val.num 4)) ∧
    (wL10.num (Obj.maintBase ↑2) % 64 = 0 ∧
      wL10.num (Obj.maintLength ↑2) % 64 = 0 ∧ inDram (wL10.num (Obj.maintBase ↑2)) (wL10.num (Obj.maintLength ↑2)) = true) ∧
    (wL11.mem.lines.wf = true) ∧
    (Accepted wL11 (Requester.core 2) (Obj.maintOp ↑2) (Val.num 4)) ∧
    (¬(wL11.num (Obj.maintBase ↑2) % 64 = 0 ∧
        wL11.num (Obj.maintLength ↑2) % 64 = 0 ∧ inDram (wL11.num (Obj.maintBase ↑2)) (wL11.num (Obj.maintLength ↑2)) = true)) := by decide +kernel

theorem test_hypotheses_of_cache_and_keeper_maintenance_5 :
    (wL10.mem.lines.wf = true) ∧
    (Accepted wL10 (Requester.core 2) (Obj.maintOp ↑2) (Val.num 5)) ∧
    (wL10.num (Obj.maintBase ↑2) % 64 = 0 ∧
      wL10.num (Obj.maintLength ↑2) % 64 = 0 ∧ inDram (wL10.num (Obj.maintBase ↑2)) (wL10.num (Obj.maintLength ↑2)) = true) ∧
    (wL11.mem.lines.wf = true) ∧
    (Accepted wL11 (Requester.core 2) (Obj.maintOp ↑2) (Val.num 5)) ∧
    (¬(wL11.num (Obj.maintBase ↑2) % 64 = 0 ∧
        wL11.num (Obj.maintLength ↑2) % 64 = 0 ∧ inDram (wL11.num (Obj.maintBase ↑2)) (wL11.num (Obj.maintLength ↑2)) = true)) ∧
    (wL10.mem.lines.wf = true) ∧
    (Accepted wL10 (Requester.core 2) (Obj.maintOp ↑2) (Val.num 6)) := by decide +kernel

theorem test_hypotheses_of_cache_and_keeper_maintenance_6 :
    (wL10.mem.lines.wf = true) ∧
    (Accepted wL10 (Requester.core 2) (Obj.maintOp ↑2) (Val.num 7)) ∧
    (wL10.mem.lines.wf = true) ∧
    (Accepted wL10 (Requester.core 2) (Obj.maintOp ↑2) (Val.num 8)) ∧
    (wL13.mem.maint.find ↑2 = some 0) ∧
    (maintFillPending wL13 ↑2 = false) ∧
    (wL14.mem.keeper[2].state ≠ 0) ∧
    (wL14.mem.keeper[2].state ≠ 4) ∧
    (¬(wL14.mem.keeperChosen = some ↑2 ∧ wL14.mem.keeper[2].state = 1)) ∧
    (wL15.mem.supersedeDue = true) ∧
    (wL15.mem.keeperChosen = some 3) := by decide +kernel

def wL16 : State :=
  wNums [(Obj.dmaState 3, 0), (Obj.objSrc 3, dramBase + 0x1000), (Obj.objDst 3, dramBase + 0x2000), (Obj.objCount 3, 128)] wLive

def wL17 : State :=
  wNums [(Obj.dmaState 3, 0), (Obj.objSrc 3, dramBase + 0x1000), (Obj.objDst 3, dramBase + 0x2000), (Obj.objCount 3, 100)] wLive

def wL18 : State :=
  wNums [(Obj.dmaState 3, 0), (Obj.chainAddr 3, dramBase + 0x4000)] wLive

def wL19 : State :=
  wNums [(Obj.dmaState 3, 0)] ({ wLive with fab := { wLive.fab with dma := vmod wLive.fab.dma 3 fun c => { c with phase := .moving } } })

def wL21 : State :=
  dramWrite ({ wLive with fab := { wLive.fab with dma := vmod wLive.fab.dma 3 fun c => { c with phase := .fetching, desc := dramBase + 0x4000 } } }) (dramBase + 0x4000) (leBytes 8 (dramBase + 0x1000) ++ leBytes 8 (dramBase + 0x2000) ++ leBytes 8 0 ++ leBytes 4 128 ++ leBytes 4 0x10 ++ List.replicate 28 0 ++ leBytes 4 1)

def wL22 : State :=
  dramWrite ({ wLive with fab := { wLive.fab with dma := vmod wLive.fab.dma 3 fun c => { c with phase := .fetching, desc := dramBase + 0x4000 } } }) (dramBase + 0x4000) (leBytes 8 (dramBase + 0x1000) ++ leBytes 8 (dramBase + 0x2000) ++ leBytes 8 0 ++ leBytes 4 128 ++ leBytes 4 0x10 ++ List.replicate 28 0 ++ leBytes 4 0)

def wL23 : State :=
  dramWrite ({ wLive with fab := { wLive.fab with dma := vmod wLive.fab.dma 3 fun c => { c with phase := .moving, src := dramBase + 0x1000, dst := dramBase + 0x2000, count := 128 } } }) (dramBase + 0x1000) ((List.range 128).map fun i => BitVec.ofNat 8 (i + 1))

def wL25 : State :=
  dramWrite ({ wLive with fab := { wLive.fab with dma := vmod wLive.fab.dma 3 fun c => { c with phase := .readback, src := dramBase + 0x1000, dst := dramBase + 0x2000, count := 128, lastCopy := (List.range 64).map fun i => BitVec.ofNat 8 (i + 1), lastPoison := false } } }) (dramBase + 0x2040) ((List.range 64).map fun i => BitVec.ofNat 8 (i + 1))

def wL26 : State :=
  dramWrite ({ wLive with fab := { wLive.fab with dma := vmod wLive.fab.dma 3 fun c => { c with phase := .readback, src := dramBase + 0x1000, dst := dramBase + 0x2000, count := 128, lastCopy := (List.range 64).map fun i => BitVec.ofNat 8 (i + 1), lastPoison := false } } }) (dramBase + 0x2040) ((List.range 64).map fun i => BitVec.ofNat 8 (i + 2))

def wL27 : State :=
  dramWrite ({ wLive with fab := { wLive.fab with dma := vmod wLive.fab.dma 3 fun c => { c with phase := .rewritten, src := dramBase + 0x1000, dst := dramBase + 0x2000, count := 128, lastCopy := (List.range 64).map fun i => BitVec.ofNat 8 (i + 1), lastPoison := false } } }) (dramBase + 0x2040) ((List.range 64).map fun i => BitVec.ofNat 8 (i + 2))

def wL28 : State :=
  { wLive with fab := { wLive.fab with naks := .replicate 32 3 } }

def wL24 : State :=
  dramWrite ({ wLive with fab := { wLive.fab with dma := vmod wLive.fab.dma 3 fun c => { c with phase := .moving, src := dramBase + 0x1000, dst := dramBase + 0x2000, count := 128, stop := true } } }) (dramBase + 0x1000) ((List.range 128).map fun i => BitVec.ofNat 8 (i + 1))

theorem test_hypotheses_of_dma_transfers_and_fabric_lanes_1 :
    (AcceptedNum wL16 (Requester.core 2) (Obj.objCtrl ↑3) 1) ∧
    (bit 1 0 = true) ∧
    (bit 1 1 = false) ∧
    (AcceptedNum wL17 (Requester.core 2) (Obj.objCtrl ↑3) 1) ∧
    (bit 1 0 = true) ∧
    (bit 1 1 = false) ∧
    (AcceptedNum wL18 (Requester.core 2) (Obj.objCtrl ↑3) 3) ∧
    (bit 3 0 = true) ∧
    (bit 3 1 = true) ∧
    (AcceptedNum wL19 (Requester.core 2) (Obj.objCtrl ↑3) 4) ∧
    (bit 4 0 = false) ∧
    (bit 4 2 = true) ∧
    (AcceptedNum wL16 (Requester.core 2) (Obj.notifyPending ↑3) 1) := by decide +kernel

theorem test_hypotheses_of_dma_transfers_and_fabric_lanes_2 :
    ((wL21.dma ↑3).phase = DmaPhase.fetching) ∧
    ((wL21.dma ↑3).stop = false) ∧
    (inDram (wL21.dma ↑3).desc 64 = true) ∧
    (dramPoisoned wL21.mem (wL21.dma ↑3).desc 64 = false) ∧
    (fieldAt (dramRead wL21.mem (wL21.dma ↑3).desc 64) 60 4 % 2 = 1) ∧
    (descBad (dramRead wL21.mem (wL21.dma ↑3).desc 64) = false) ∧
    (transferCheck (fieldAt (dramRead wL21.mem (wL21.dma ↑3).desc 64) 0 8) (fieldAt (dramRead wL21.mem (wL21.dma ↑3).desc 64) 8 8)
        (fieldAt (dramRead wL21.mem (wL21.dma ↑3).desc 64) 24 4) =
      none) ∧
    ((wL22.dma ↑3).phase = DmaPhase.fetching) ∧
    ((wL22.dma ↑3).stop = false) ∧
    (inDram (wL22.dma ↑3).desc 64 = true) ∧
    (dramPoisoned wL22.mem (wL22.dma ↑3).desc 64 = false) ∧
    (fieldAt (dramRead wL22.mem (wL22.dma ↑3).desc 64) 60 4 % 2 = 0) ∧
    ((wL21.dma ↑3).phase = DmaPhase.fetching) ∧
    ((wL21.dma ↑3).stop = false) := by decide +kernel

theorem test_hypotheses_of_dma_transfers_and_fabric_lanes_3 :
    ((wL19.dma ↑3).phase = DmaPhase.moving) ∧
    (wL19.num (Obj.doneCount ↑3) = 0) ∧
    ((wL19.dma ↑3).count % 64 = 0) ∧
    ((wL23.dma ↑3).phase = DmaPhase.moving) ∧
    (wL23.num (Obj.doneCount ↑3) = 0) ∧
    ((wL23.dma ↑3).count % 64 = 0) ∧
    ((wL25.dma ↑3).phase = DmaPhase.readback) ∧
    (dramPoisoned wL25.mem ((wL25.dma ↑3).dst + (wL25.dma ↑3).count - 64) 64 = false ∧
      dramRead wL25.mem ((wL25.dma ↑3).dst + (wL25.dma ↑3).count - 64) 64 = (wL25.dma ↑3).lastCopy) ∧
    ((wL25.dma ↑3).chain = false) ∧
    ((wL26.dma ↑3).phase = DmaPhase.readback) ∧
    (dramPoisoned wL26.mem ((wL26.dma ↑3).dst + (wL26.dma ↑3).count - 64) 64 = false ∧
      dramRead wL26.mem ((wL26.dma ↑3).dst + (wL26.dma ↑3).count - 64) 64 ≠ (wL26.dma ↑3).lastCopy) ∧
    ((wL26.dma ↑3).lastPoison = false) := by decide +kernel

theorem test_hypotheses_of_dma_transfers_and_fabric_lanes_4 :
    ((wL27.dma ↑3).phase = DmaPhase.rewritten) ∧
    (dramPoisoned wL27.mem ((wL27.dma ↑3).dst + (wL27.dma ↑3).count - 64) 64 = false ∧
      dramRead wL27.mem ((wL27.dma ↑3).dst + (wL27.dma ↑3).count - 64) 64 ≠ (wL27.dma ↑3).lastCopy) ∧
    ((wL23.dma ↑3).phase = DmaPhase.moving) ∧
    (wL23.num (Obj.doneCount ↑3) = 0) ∧
    (64 % 64 = 0) ∧
    (64 + 64 ≤ (wL23.dma ↑3).count) ∧
    ((wL23.dma ↑3).count % 64 = 0) ∧
    (laneUsed wL23 ↑0 ↑6 = false) ∧
    (laneOut wL16 ↑0 = false) ∧
    (laneUsed wL16 ↑0 ↑0 = true) ∧
    (vget wL16.fab.naks (↑0) 0 < 3) := by decide +kernel

theorem test_hypotheses_of_dma_transfers_and_fabric_lanes_5 :
    (laneOut wLive ↑5 = false) ∧
    (laneUsed wLive ↑5 ↑7 = true) ∧
    (vget wLive.fab.naks (↑5) 0 < 3) ∧
    (laneOut wL28 ↑5 = false) ∧
    (laneUsed wL28 ↑5 ↑7 = true) ∧
    (3 ≤ vget wL28.fab.naks (↑5) 0) ∧
    ((retiredIds wL28).contains (320 + ↑5) = false) ∧
    (∀ (i : Fin 8), channelOf ↑0 ≠ some ↑i) ∧
    (channelOf ↑6 = some ↑3 ∧ (wL23.dma ↑3).phase = DmaPhase.moving) ∧
    (wL23.num (Obj.doneCount ↑3) = 0) ∧
    ((wL23.dma ↑3).count % 64 = 0) := by decide +kernel

theorem test_hypotheses_of_dma_transfers_and_fabric_lanes_6 :
    (channelOf ↑6 = some ↑3 ∧ (wL24.dma ↑3).phase = DmaPhase.moving) ∧
    (wL24.num (Obj.doneCount ↑3) = 0) ∧
    ((wL24.dma ↑3).count % 64 = 0) := by decide +kernel

def wL29 : State :=
  wNums [(Obj.detectorState 4, 0)] wLive

def wLv8 : Event :=
  { source := 260, unit := 2 }

def wL31 : State :=
  wLive.setStr (0x710000 + 260) (leBytes 2 260 ++ [1, 3, 4, 3] ++ leBytes 2 1 ++ leBytes 4 100 ++ leBytes 4 0)

def wL30 : State :=
  (wNums [(Obj.detectorState 4, 0)] wLive).setStr (0x710000 + 260) (leBytes 2 260 ++ [1, 2, 2, 1, 2, 0, 0, 0] ++ leBytes 4 100 ++ leBytes 4 0)

def wL33 : State :=
  wNums [(Obj.detectorState 4, 3), (Obj.detectorEnable 4, 1)] { wLive with coll := { wLive.coll with readmitting := [260] } }

def wL43 : State :=
  wLive.setStr (0x710000 + 172) (leBytes 2 172 ++ [1, 2, 2, 1] ++ leBytes 2 5 ++ leBytes 4 100 ++ leBytes 4 0)

def wLv10 : Event :=
  { source := 172, unit := 2 }

def wL44 : State :=
  { wLive with coll := { wLive.coll with readmitting := [172], fenced := [172] } }

def wL34 : State :=
  wNums [(Obj.collectorState, 1), (Obj.safeRestartS, 1), (Obj.safeTick, 7), (Obj.tick, 25000007)] wLive

def wL35 : State :=
  wNums [(Obj.heartbeatArmed, 1)] wLive

theorem test_hypotheses_of_collectors_react_to_events_1 :
    (mainPowered wL29 = true ∧ raises wLv8.source = true ∧ ofEngine wLv8.source = false) ∧
    (wL29.start.running = true →
      (bucketAfter wL29 (sourceNow wL29 wLv8.source) (bucketKey wLv8)).2 = false ∧ (sourceNow wL29 wLv8.source).reaction ≤ 1) ∧
    (mainPowered wL31 = true ∧ raises wLv8.source = true ∧ ofEngine wLv8.source = false) ∧
    (wL31.start.running = true →
      (bucketAfter wL31 (sourceNow wL31 wLv8.source) (bucketKey wLv8)).2 = false ∧ (sourceNow wL31 wLv8.source).reaction ≤ 1) := by decide +kernel

theorem test_hypotheses_of_collectors_react_to_events_2 :
    (mainPowered wL31 = true ∧ raises wLv8.source = true ∧ ofEngine wLv8.source = false) ∧
    ((bucketAfter wL31 (sourceNow wL31 wLv8.source) (bucketKey wLv8)).2 = true) ∧
    ((sourceNow wL31 wLv8.source).trip = 3) ∧
    (unitRetired wL31 (ownerOf wLv8.source) = false) ∧
    (wL31.num Obj.collectorState = 0 ∧ wL31.start.running = false) ∧
    (mainPowered wL30 = true) ∧
    (wLv8.source = 256 + ↑4) ∧
    ((bucketAfter wL30 (sourceNow wL30 wLv8.source) (bucketKey wLv8)).2 = false) ∧
    ((sourceNow wL30 wLv8.source).reaction = 2) ∧
    (wL30.num (Obj.detectorState ↑4) < 3) := by decide +kernel

theorem test_hypotheses_of_collectors_react_to_events_3 :
    (wL33.coll.readmitting.contains (256 + ↑4) = true) ∧
    (wL33.num (Obj.detectorState ↑4) = 3) ∧
    ((retiredIds wL33).contains (256 + ↑4) = false) ∧
    (mainPowered wL43 = true) ∧
    (wLv10.source = 172) ∧
    ((bucketAfter wL43 (sourceNow wL43 wLv10.source) (bucketKey wLv10)).2 = false) ∧
    ((sourceNow wL43 wLv10.source).reaction = 2) ∧
    (pqServes wL43 = true) ∧
    (wL44.coll.readmitting.contains 172 = true) ∧
    ((retiredIds wL44).contains 172 = false) := by decide +kernel

theorem test_hypotheses_of_collectors_react_to_events_4 :
    (inSafe wL34 = true) ∧
    (wL34.start.mode ≠ RunMode.halted) ∧
    (wL34.power.off = none) ∧
    (wL34.num Obj.safeRestartS ≠ 0) ∧
    (wL34.num Obj.safeTick + 25000000 * wL34.num Obj.safeRestartS ≤ wL34.num Obj.tick) ∧
    (mainPowered wL29 = true) ∧
    (wL29.num Obj.collectorState = 0 ∧ wL29.start.running = false) ∧
    (mainPowered wL34 = true) ∧
    (inSafe wL34 = true) ∧
    (mainPowered wL29 = true) ∧
    (wL29.num Obj.collectorState = 0 ∧ wL29.start.running = false) ∧
    (↑3 < 8) := by decide +kernel

theorem test_hypotheses_of_collectors_react_to_events_5 :
    (mainPowered wL35 = true) ∧
    (wL35.num Obj.collectorState = 0 ∧ wL35.start.running = false) ∧
    (wL35.start.mode ≠ RunMode.halted) ∧
    (wL35.num Obj.heartbeatArmed = 1) := by decide +kernel

def wL36 : State :=
  { wLive with coll := { wLive.coll with restored := true, changed := true, newestSeq := 9, ledger := [(0, { eventRecord { source := 260, unit := 2 } 0 2 1 7 0 with seq := 4 }), (3, { eventRecord { source := 260, unit := 2 } 0 2 1 7 0 with seq := 9 })] } }

def wL37 : State :=
  { wLive with coll := { wLive.coll with restored := true, mirroring := some [(0, { eventRecord { source := 260, unit := 2 } 0 2 1 7 0 with seq := 4 })], changed := true, newestSeq := 9, ledger := [(0, { eventRecord { source := 260, unit := 2 } 0 2 1 7 0 with seq := 4 }), (3, { eventRecord { source := 260, unit := 2 } 0 2 1 7 0 with seq := 9 })] } }

def wLv9 : SMap Record :=
  [(0, { eventRecord { source := 260, unit := 2 } 0 2 1 7 0 with seq := 4 })]

def wL38 : State :=
  { ({ wLive with coll := { wLive.coll with restored := true, changed := true, newestSeq := 9, ledger := [(0, { eventRecord { source := 260, unit := 2 } 0 2 1 7 0 with seq := 4 }), (3, { eventRecord { source := 260, unit := 2 } 0 2 1 7 0 with seq := 9 })] } }) with media := { wLive.media with holders := .ofFn fun i => i.val } }

def wL40 : State :=
  (wFw (fun f => { f with mfg := true, dep := true, lifecycleRecord := some lcReturn })).setStr Obj.retiredUnits (retiredUnitsBlob [39, 260])

theorem test_hypotheses_of_ledger_is_cleared_mirrored_and_copied_1 :
    (AcceptedNum wLive Requester.mbus (Obj.captureClear ↑8) 1) ∧
    (AcceptedNum wL36 Requester.mbus Obj.clearUpto 4) ∧
    (wL36.coll.restored = true) ∧
    (4 ≤ wL36.coll.newestSeq) ∧
    (AcceptedNum wL36 Requester.mbus Obj.clearAll 1) ∧
    (wL36.coll.restored = true) ∧
    (wL36.coll.restored = true) ∧
    (wL36.coll.changed = true) ∧
    (wL36.coll.mirroring = none) ∧
    (wL37.coll.mirroring = some wLv9) ∧
    (wL38.coll.restored = true) ∧
    (wL38.media.holders[1] ≠ 255) ∧
    (usable wL38 wL38.media.holders[1] = true) ∧
    (failedSurface wL38 wL38.media.holders[1] = false) := by decide +kernel

theorem test_hypotheses_of_ledger_is_cleared_mirrored_and_copied_2 :
    (AcceptedNum wL40 Requester.factory Obj.unretire (256 + ↑4)) := by decide +kernel

/-- The journal holds `n` entries that wait for their replay. -/
def wFull (n : Nat) : State := wDirty (wLay fun l => { l with replayQueue := List.replicate n { wUpdate with stripe := 9 } })

theorem wFull_entries (n : Nat) : (wFull n).layout.replayQueue = List.replicate n { wUpdate with stripe := 9 } := rfl

theorem wFull_free (n : Nat) : stripeFree (wFull n) 0 = true := by
  have h : openUpdate (wFull n) 0 = none := by
    show openUpdate (wFull 0) 0 = none
    decide +kernel
  simp [stripeFree, h, replayEntry, wFull_entries]

theorem wFull_journalled (n : Nat) : journalled (wFull n).layout = n := by
  have h : (wFull n).layout.journal = [] := by
    show (wFull 0).layout.journal = []
    decide +kernel
  simp [journalled, h, wFull_entries]

theorem test_hypotheses_of_a_full_journal :
    (runOf (wFull journalSize) 0 = some wNs.run ∧
      updateBlocks (wFull journalSize) wNs.run (Run2.map (wFull journalSize) wNs.run) 0 ≠ [] ∧ stripeFree (wFull journalSize) 0 = true ∧
      (Option.map (fun x => x.nsid) (wFull journalSize).layout.reshape = some wNs.run.nsid → (wFull journalSize).layout.reshapeHold = false) ∧
      ((Run2.map (wFull journalSize) wNs.run).m ≠ 0 → pqServes (wFull journalSize) = true) ∧
      ((wFull journalSize).layout.allocated.contains 0 = false → pageHeld (wFull journalSize) (allocPage 0) = false)) ∧
    (Run2.map (wFull journalSize) wNs.run).m ≠ 0 ∧ journalSize ≤ journalled (wFull journalSize).layout :=
  ⟨⟨by decide +kernel, by decide +kernel, wFull_free _, by decide +kernel, by decide +kernel, by decide +kernel⟩, by decide +kernel, (wFull_journalled _).ge⟩

/-- The grown list of surface 0 holds `n` entries. -/
def wGrown (n : Nat) : State := wFw (fun f => { f with bundle := wBundle }) (wNums [(Obj.surfaceState 0, 1)] { wHost with
  media := { wHost.media with grown := vmod wHost.media.grown 0 fun _ => List.replicate n [] } })

theorem wGrown_length (n : Nat) : (grownMade (wGrown n) 0).length = n := by
  have h : vget (wGrown n).media.grown 0 [] = List.replicate n [] := rfl
  have h' : (wGrown n).media.grownPending = [] := rfl
  simp [grownMade, grownOf, h, h']

theorem test_hypotheses_of_a_full_grown_list :
    (zoneAt (zonesOf (wGrown grownFull).fw.bundle 0) 5000 = some (wZone, 0) ∧ (wGrown grownFull).num (Obj.surfaceState 0) = 1) ∧
    grownFull ≤ (grownMade (wGrown grownFull) 0).length :=
  ⟨by decide +kernel, (wGrown_length _).ge⟩

end Sys2Proof.Machine
end

section
/-!
PROOFS. The arithmetic of the rein engines (R251–R253, R255): what one executed instruction leaves, saturation as a clamp, and rounding.
-/

namespace Sys2Proof.Machine

/-! ### One engine among sixteen -/

theorem engineOf_fin (s : State) (e : Fin 16) : s.engineOf e.val = s.engines[e] := by
  simp [State.engineOf, vget]

theorem modEngine_fin (s : State) (e : Fin 16) (f : Engine → Engine) :
    s.modEngine e.val f = { s with engines := s.engines.set e (f s.engines[e]) } := by
  simp [State.modEngine, vmod]

/-! ### One instruction of a run -/

/-- Registers with the program counter past the instruction, as every instruction of a run finds them (R249). -/
def advanced (c : Context) : Context := { c with pc := c.pc + 1 }

/-- Engine `x` as an instruction of its run `r` finds it: one instruction more of the budget used, and the program counter past it. -/
def fetched (x : Engine) (r : Run) : Engine := { x with run := some { r with count := r.count + 1 }, ctx := advanced x.ctx }

theorem reinStep_of_word {s : State} {e : Fin 16} {r : Run} {w : Nat} (h : Runs s e r) (hw : instrHere s.engines[e] = w) (f : Engine → Engine) :
    reinStep e w f s = { s with engines := s.engines.set e (f (fetched s.engines[e] r)) } := by
  obtain ⟨hrun, hbudget⟩ := h
  have hstands : ¬(budgetOf r.entry ≤ r.count ∨ instrHere s.engines[e] ≠ w) := not_or.mpr ⟨Nat.not_le.mpr hbudget, not_not.mpr hw⟩
  simp only [reinStep, engineOf_fin, hrun, if_neg hstands, modEngine_fin]
  rfl

theorem reinStep_of_other_word {s : State} {e : Fin 16} {r : Run} {w : Nat} (h : Runs s e r) (hw : instrHere s.engines[e] ≠ w)
    (f : Engine → Engine) : reinStep e w f s = s := by
  obtain ⟨hrun, -⟩ := h
  simp only [reinStep, engineOf_fin, hrun, if_pos (Or.inr hw)]

/-- An instruction that is a step of the engine executes, with the registers that its effect leaves in the fetched engine. -/
theorem executes_of_reinStep {s : State} {e : Fin 16} {r : Run} {i : Instr} {w : Nat} {c : Context} {f : Engine → Engine} (h : Runs s e r)
    (hexec : exec i s = .next (reinStep e w f s)) (hf : f (fetched s.engines[e] r) = { fetched s.engines[e] r with ctx := c }) :
    Executes s e r i w c := by
  refine ⟨fun hw => ?_, fun hw => ?_⟩
  · rw [hexec, reinStep_of_word h hw, hf]
    rfl
  · rw [hexec, reinStep_of_other_word h hw]

/-- The same for an instruction that changes only the registers. -/
theorem executes_of_reinCtx {s : State} {e : Fin 16} {r : Run} {i : Instr} {w : Nat} {c : Context} {f : Context → Context} (h : Runs s e r)
    (hexec : exec i s = reinCtx e w f s) (hf : f (advanced (regs s e)) = c) : Executes s e r i w c :=
  executes_of_reinStep h hexec (by rw [← hf]; rfl)

/-! ### Saturation (R251–R253) -/

theorem clampTo_of_fits {w : Nat} {x : Int} (hlow : -2 ^ (w - 1) ≤ x) (hhigh : x ≤ 2 ^ (w - 1) - 1) : clampTo w x = x := by
  rw [clampTo, min_eq_right hhigh, max_eq_right hlow]

theorem clampTo_of_high {w : Nat} {x : Int} (hhigh : 2 ^ (w - 1) - 1 < x) : clampTo w x = 2 ^ (w - 1) - 1 := by
  have hpos : (0 : Int) < 2 ^ (w - 1) := by positivity
  rw [clampTo, min_eq_left hhigh.le, max_eq_right (by omega)]

theorem clampTo_of_low {w : Nat} {x : Int} (hlow : x < -2 ^ (w - 1)) : clampTo w x = -2 ^ (w - 1) := by
  rw [clampTo, max_eq_left ((min_le_right _ _).trans hlow.le)]

/-- Saturation as the model writes it for its two widths, with its flag, is the clamp and whether that changed the value. -/
theorem saturated_eq_clampTo (w : Nat) (x : Int) :
    (if 2 ^ (w - 1) - 1 < x then (BitVec.ofInt w (2 ^ (w - 1) - 1), true)
      else if x < -2 ^ (w - 1) then (BitVec.ofInt w (-2 ^ (w - 1)), true)
      else (BitVec.ofInt w x, false)) = (BitVec.ofInt w (clampTo w x), decide (clampTo w x ≠ x)) := by
  split
  · next hhigh => rw [clampTo_of_high hhigh, decide_eq_true hhigh.ne]
  · next hhigh =>
    split
    · next hlow => rw [clampTo_of_low hlow, decide_eq_true hlow.ne']
    · next hlow => simp [clampTo_of_fits (not_lt.mp hlow) (not_lt.mp hhigh)]

theorem sat32_eq_clampTo (x : Int) : sat32 x = (BitVec.ofInt 32 (clampTo 32 x), decide (clampTo 32 x ≠ x)) :=
  saturated_eq_clampTo 32 x

theorem sat64_eq_clampTo (x : Int) : sat64 x = (BitVec.ofInt 64 (clampTo 64 x), decide (clampTo 64 x ≠ x)) :=
  saturated_eq_clampTo 64 x

theorem orFlag_eq (c : Context) (i : Nat) (b : Bool) :
    orFlag c i b = { c with flags := if b then c.flags ||| BitVec.ofNat 5 (2 ^ i) else c.flags } := by
  cases b <;> rfl

theorem setReg_sat32 (c : Context) (rd : Fin 16) (flag : Nat) (x : Int) :
    orFlag ((advanced c).setReg rd (sat32 x).1) flag (sat32 x).2 = wroteSat c rd flag x := by
  simp [sat32_eq_clampTo, orFlag_eq, wroteSat, wrote, advanced, Context.setReg]

theorem setSat_advanced (c : Context) (rd : Fin 16) (x : Int) : setSat (advanced c) rd x = wroteSat c rd 3 x :=
  setReg_sat32 c rd 3 x

/-- The one value that the negation or absolute value of a register can saturate from (R253). -/
theorem wroteSat_two_pow_31 (c : Context) (rd : Fin 16) :
    wroteSat c rd 3 (2 ^ 31) = { wrote c rd 0x7FFFFFFF with flags := c.flags ||| 8 } := rfl

theorem setAccSat_advanced (c : Context) (acc : Bool) (x : Int) : setAccSat (advanced c) acc x = accumulated c acc x := by
  cases acc <;> simp [setAccSat, sat64_eq_clampTo, orFlag_eq, accumulated, advanced, Context.setAcc]

/-- An accumulator that takes a value of 64 bits neither saturates nor sets a flag. -/
theorem setAcc_of_fits (c : Context) (acc : Bool) {x : Int} (hfits : clampTo 64 x = x) :
    (advanced c).setAcc acc (BitVec.ofInt 64 x) = accumulated c acc x := by
  cases acc <;> simp [accumulated, hfits, Context.setAcc, advanced]

/-- A register times 2^31 is within 63 bits. -/
theorem clampTo_mul_two_pow_31 (a : Word32) : clampTo 64 (a.toInt * 2 ^ 31) = a.toInt * 2 ^ 31 := by
  have hlow : -2 ^ 31 ≤ a.toInt := a.le_toInt
  have hhigh : a.toInt < 2 ^ 31 := a.toInt_lt
  exact clampTo_of_fits (by omega) (by omega)

/-! ### Shifts, absolute value and the loop branch -/

theorem natAbs_eq_ite (x : Int) : (x.natAbs : Int) = if x < 0 then -x else x := by
  split <;> omega

theorem sshiftRight_eq_div (a : Word32) (n : Nat) : a.sshiftRight n = BitVec.ofInt 32 (a.toInt / 2 ^ n) := by
  rw [BitVec.sshiftRight, Int.shiftRight_eq_div_pow]
  norm_cast

theorem ushiftRight_eq_div (a : Word32) (n : Nat) : a >>> n = BitVec.ofNat 32 (a.toNat / 2 ^ n) := by
  rw [← Nat.shiftRight_eq_div_pow, ← BitVec.toNat_ushiftRight, BitVec.ofNat_toNat, BitVec.setWidth_eq]

theorem branchIf_eq (c : Context) (b : Bool) (target : BitVec 11) : branchIf c b target = { c with pc := if b then target else c.pc } := by
  cases b <;> rfl

theorem branchIf_decremented (c : Context) (ra : Fin 16) (target : BitVec 11) :
    branchIf ((advanced c).setReg ra (c.d.get ra - 1)) (decide (c.d.get ra - 1 ≠ 0)) target =
      { c with d := c.d.set ra (c.d.get ra - 1), pc := if c.d.get ra = 1 then c.pc + 1 else target } := by
  simp only [branchIf_eq, decide_eq_true_eq, ne_eq, sub_eq_zero, ite_not]
  rfl

/-! ### Rounding (R252) -/

theorem coefProduct_fetched (s : State) (e ra : Fin 16) (caddr : BitVec 10) (r : Run) :
    coefProduct (fetched s.engines[e] r) ra caddr =
      ((regs s e).d.get ra).toInt * (coefWord s e caddr).m.toInt / 2 ^ (coefWord s e caddr).s.toNat := by
  rw [← Nat.cast_ofNat (R := Int), ← Nat.cast_pow]
  rfl

theorem roundAcc_floor (x : Int) (k : Nat) : roundAcc x k 0 = x / 2 ^ k := by
  simp [roundAcc]

theorem roundAcc_half_up (x : Int) {k : Nat} (hk : 0 < k) : roundAcc x k 1 = (x + 2 ^ (k - 1)) / 2 ^ k := by
  have hhalf : (2 : Int) ^ k / 2 = 2 ^ (k - 1) := by
    obtain ⟨j, rfl⟩ := Nat.exists_eq_add_of_lt hk
    simp [pow_succ]
  simp [roundAcc, hhalf]

theorem roundAcc_toward_zero (x : Int) (k : Nat) : roundAcc x k 3 = x.tdiv (2 ^ k) := by
  simp only [roundAcc, Nat.cast_pow, Nat.cast_ofNat]
  split
  · next hneg => rw [← Int.tdiv_eq_ediv_of_nonneg (by omega), Int.neg_tdiv, neg_neg]
  · next hneg => rw [Int.tdiv_eq_ediv_of_nonneg (by omega)]

/-- Mode 2 gives a nearest integer, and at a tie the even one. -/
theorem roundAcc_nearest (x : Int) (k : Nat) :
    2 * (x - roundAcc x k 2 * 2 ^ k).natAbs ≤ ((2 : Int) ^ k).natAbs ∧
      (2 * (x - roundAcc x k 2 * 2 ^ k).natAbs = ((2 : Int) ^ k).natAbs → roundAcc x k 2 % 2 = 0) := by
  simp only [roundAcc, Nat.cast_pow, Nat.cast_ofNat]
  generalize hd : (2 : Int) ^ k = d
  have hpos : 0 < d := hd ▸ by positivity
  have hrest : 0 ≤ x % d := Int.emod_nonneg x hpos.ne'
  have hless : x % d < d := Int.emod_lt_of_pos x hpos
  have hdown : x - x / d * d = x % d := by rw [Int.emod_def, mul_comm]
  have hup : x - (x / d + 1) * d = x % d - d := by rw [← hdown]; ring
  split
  · next habove => rw [hup]; omega
  · next habove =>
    split
    · next htie => rw [hup]; omega
    · next htie => rw [hdown]; omega

/-! ### The instructions -/

section
variable {s : State} {e : Fin 16} {r : Run} (h : Runs s e r) (rd : Fin 16) (acc : Bool)
include h

/-- A multiply instruction saturates what it makes of the accumulator and the product (R251). -/
theorem executes_of_accumulate {i : Instr} {w : Nat} {g : Engine → Int} {y : Int}
    (hexec : exec i s = .next (reinStep e w (fun x => { x with ctx := setAccSat x.ctx acc (g x) }) s))
    (hy : g (fetched s.engines[e] r) = y) : Executes s e r i w (accumulated (regs s e) acc y) :=
  executes_of_reinStep h hexec (by rw [← hy, ← setAccSat_advanced]; rfl)

/-- RND writes the rounded quotient, saturated, and its saturation sets FLAGS[2] (R252). -/
theorem executes_rnd (mode : BitVec 2) (l : BitVec 4) :
    Executes s e r (.reinRnd e rd acc mode l) (wordX 0x25 rd acc mode l)
      (wroteSat (regs s e) rd 2 (roundAcc (if acc then (regs s e).acc1 else (regs s e).acc0).toInt (31 - l.toNat) mode.toNat)) :=
  executes_of_reinCtx h (Eq.refl (execReinRnd e rd acc mode l s)) (setReg_sat32 ..)

end

/-! ### The obligations -/

/-- Settles O8: each result is the clamp of the exact one, or the wrapped or shifted word itself. -/
theorem reinArithmeticSaturatesOrWraps : Obligations.ReinArithmeticSaturatesOrWraps := by
  intro s e rd ra rb imm target r h c a b
  have hneg : Executes s e r (.reinNeg e rd ra) (wordR 0x0B rd ra 0) (wroteSat c rd 3 (-a.toInt)) :=
    executes_of_reinCtx h (Eq.refl (execReinNeg e rd ra s)) (setSat_advanced ..)
  have habs : Executes s e r (.reinAbs e rd ra) (wordR 0x0A rd ra 0) (wroteSat c rd 3 (if a.toInt < 0 then -a.toInt else a.toInt)) := by
    rw [← natAbs_eq_ite]
    exact executes_of_reinCtx h (Eq.refl (execReinAbs e rd ra s)) (setSat_advanced ..)
  refine ⟨?add, ?sub, ?addi, hneg, habs, ?shl, ?addw, ?subw, ?dbnz, ?and, ?or, ?xor, ?shr, ?shrl, ?least⟩
  case add => exact executes_of_reinCtx h (Eq.refl (execReinAdd e rd ra rb s)) (setSat_advanced ..)
  case sub => exact executes_of_reinCtx h (Eq.refl (execReinSub e rd ra rb s)) (setSat_advanced ..)
  case addi => exact executes_of_reinCtx h (Eq.refl (execReinAddi e rd ra imm s)) (setSat_advanced ..)
  case shl =>
    refine executes_of_reinCtx h (Eq.refl (execReinShl e rd ra imm s)) ?_
    rw [Nat.cast_pow]
    exact setSat_advanced ..
  case addw => exact executes_of_reinCtx h (Eq.refl (execReinAddw e rd ra rb s)) rfl
  case subw => exact executes_of_reinCtx h (Eq.refl (execReinSubw e rd ra rb s)) rfl
  case dbnz => exact executes_of_reinCtx h (Eq.refl (execReinDbnz e ra target s)) (branchIf_decremented ..)
  case and => exact executes_of_reinCtx h (Eq.refl (execReinAnd e rd ra rb s)) rfl
  case or => exact executes_of_reinCtx h (Eq.refl (execReinOr e rd ra rb s)) rfl
  case xor => exact executes_of_reinCtx h (Eq.refl (execReinXor e rd ra rb s)) rfl
  case shr =>
    rw [← sshiftRight_eq_div]
    exact executes_of_reinCtx h (Eq.refl (execReinShr e rd ra imm s)) rfl
  case shrl =>
    rw [← ushiftRight_eq_div]
    exact executes_of_reinCtx h (Eq.refl (execReinShrl e rd ra imm s)) rfl
  case least =>
    intro hleast
    have hvalue : a.toInt = -2 ^ 31 := by rw [hleast]; rfl
    have hmagnitude : (if a.toInt < 0 then -a.toInt else a.toInt) = 2 ^ 31 := by rw [hvalue]; rfl
    rw [hvalue, neg_neg, wroteSat_two_pow_31] at hneg
    rw [hmagnitude, wroteSat_two_pow_31] at habs
    exact ⟨hneg, habs⟩

/-- Settles O11: the accumulators take the clamp of the exact value, and RND the clamp of the quotient that its mode names. -/
theorem reinMultiplyAndRoundSaturate : Obligations.ReinMultiplyAndRoundSaturate := by
  intro s e rd ra acc caddr mode l r h c m p x k d
  have hp : coefProduct (fetched s.engines[e] r) ra caddr = p := coefProduct_fetched ..
  have hrnd := executes_rnd h rd acc mode l
  refine ⟨?mul, ?mac, ?msu, ?clra, ?lda, ?floor, ?halfUp, ?nearest, ?towardZero⟩
  case mul => exact executes_of_accumulate h acc (Eq.refl (execReinMul e acc ra caddr s)) hp
  case mac => exact executes_of_accumulate h acc (Eq.refl (execReinMac e acc ra caddr s)) (congrArg (x + ·) hp)
  case msu => exact executes_of_accumulate h acc (Eq.refl (execReinMsu e acc ra caddr s)) (congrArg (x - ·) hp)
  case clra => exact executes_of_reinCtx h (Eq.refl (execReinClra e acc s)) (setAcc_of_fits c acc (x := 0) rfl)
  case lda => exact executes_of_reinCtx h (Eq.refl (execReinLda e acc ra s)) (setAcc_of_fits c acc (clampTo_mul_two_pow_31 _))
  case floor =>
    rintro rfl
    exact roundAcc_floor x k ▸ hrnd
  case halfUp =>
    rintro rfl
    exact roundAcc_half_up x (k := k) (by omega) ▸ hrnd
  case nearest =>
    rintro rfl
    obtain ⟨hnear, heven⟩ := roundAcc_nearest x k
    exact ⟨_, hnear, heven, hrnd⟩
  case towardZero =>
    rintro rfl
    exact roundAcc_toward_zero x k ▸ hrnd

end Sys2Proof.Machine
end

section
/-!
The proofs below are elaborated one after the other, so that the memory that the whole text needs stays within the check's bound.
-/

set_option Elab.async false

section
/-!
PROOFS. The invariants and frames of the whole step: each command's own lemma (Laws/Wf*, Laws/Touches, Laws/Writes), put together over the table
of commands.
-/

namespace Sys2Proof.Machine

/-- Every command keeps the canonical form. -/
theorem exec_wf (c : Instr) {s : State} (hwf : s.wf = true) : outWf (exec c s) = true := by
  cases c with
  | powerGood => exact execPowerGood_wf s hwf
  | feedPresent f => exact execFeedPresent_wf f s hwf
  | feedLost f why => exact execFeedLost_wf f why s hwf
  | feedSwitchReclose f => exact execFeedSwitchReclose_wf f s hwf
  | railsOff => exact execRailsOff_wf s hwf
  | railsUp => exact execRailsUp_wf s hwf
  | pwrdisAssert => exact execPwrdisAssert_wf s hwf
  | pwrdisRelease => exact execPwrdisRelease_wf s hwf
  | vmCollapse => exact execVmCollapse_wf s hwf
  | v3p3Overcurrent a => exact execV3p3Overcurrent_wf a s hwf
  | throttleEnter tj => exact execThrottleEnter_wf tj s hwf
  | throttleExit tj => exact execThrottleExit_wf tj s hwf
  | thermalShutdown tj => exact execThermalShutdown_wf tj s hwf
  | powerCapWrite who value => exact execPowerCapWrite_wf who value s hwf
  | vcoreSteer minPercent => exact execVcoreSteer_wf minPercent s hwf
  | writeUnsafe a src t => exact execWriteUnsafe_wf a src t s hwf
  | writeFifoEmpty a => exact execWriteFifoEmpty_wf a s hwf
  | gateEntryExecute p t adc => exact execGateEntryExecute_wf p t adc s hwf
  | sampleOverrun a lane => exact execSampleOverrun_wf a lane s hwf
  | dictionaryGet slot => exact execDictionaryGet_wf slot s hwf
  | dictionarySet slot data => exact execDictionarySet_wf slot data s hwf
  | dictionarySetList slot data => exact execDictionarySetList_wf slot data s hwf
  | dictionaryBlockRead slot => exact execDictionaryBlockRead_wf slot s hwf
  | dictionaryListRead slot => exact execDictionaryListRead_wf slot s hwf
  | bolhobaGet h => exact execBolhobaGet_wf h s hwf
  | bolhobaSet h typ len value => exact execBolhobaSet_wf h typ len value s hwf
  | bolhobaListGet h keys => exact execBolhobaListGet_wf h keys s hwf
  | bolhobaListSet h entries => exact execBolhobaListSet_wf h entries s hwf
  | bolhobaBlockRead h offset len => exact execBolhobaBlockRead_wf h offset len s hwf
  | bolhobaBlockWrite h offset last data => exact execBolhobaBlockWrite_wf h offset last data s hwf
  | factoryFrameGap => exact execFactoryFrameGap_wf s hwf
  | windowRead core addr width => exact execWindowRead_wf core addr width s hwf
  | windowWrite core addr width value => exact execWindowWrite_wf core addr width value s hwf
  | mbRead core => exact execMbRead_wf core s hwf
  | mbWrite core => exact execMbWrite_wf core s hwf
  | mbWriteLast core => exact execMbWriteLast_wf core s hwf
  | mbTransferDone core => exact execMbTransferDone_wf core s hwf
  | blobStagingAbandon index sub => exact execBlobStagingAbandon_wf index sub s hwf
  | store who value => exact execStore_wf who value s hwf
  | storeCommit programmed => exact execStoreCommit_wf programmed s hwf
  | restoreDefaults who value => exact execRestoreDefaults_wf who value s hwf
  | unitDisable who index => exact execUnitDisable_wf who index s hwf
  | unitEnable who index selfCheck => exact execUnitEnable_wf who index selfCheck s hwf
  | unitQuiesced index => exact execUnitQuiesced_wf index s hwf
  | objectWrite who index sub typ len value => exact execObjectWrite_wf who index sub typ len value s hwf
  | attemptBegin cause => exact execAttemptBegin_wf cause s hwf
  | startStepEnd result found => exact execStartStepEnd_wf result found s hwf
  | stepWatchdog found => exact execStepWatchdog_wf found s hwf
  | startDeadline => exact execStartDeadline_wf s hwf
  | restartNormal who => exact execRestartNormal_wf who s hwf
  | restartMaintenance who => exact execRestartMaintenance_wf who s hwf
  | perstDeassert p => exact execPerstDeassert_wf p s hwf
  | perstAssert p => exact execPerstAssert_wf p s hwf
  | firmwareImageDownload slot piece => exact execFirmwareImageDownload_wf slot piece s hwf
  | firmwareCommitReplace slot => exact execFirmwareCommitReplace_wf slot s hwf
  | firmwareCommitReplaceActivate slot => exact execFirmwareCommitReplaceActivate_wf slot s hwf
  | firmwareCommitActivate slot => exact execFirmwareCommitActivate_wf slot s hwf
  | firmwareCommitActivateNow slot => exact execFirmwareCommitActivateNow_wf slot s hwf
  | firmwareCommitInvalidAction slot => exact execFirmwareCommitInvalidAction_wf slot s hwf
  | firmwareCommitDone => exact execFirmwareCommitDone_wf s hwf
  | activationStaged => exact execActivationStaged_wf s hwf
  | activationFreezeEnd freezeUs => exact execActivationFreezeEnd_wf freezeUs s hwf
  | activationBankSwitch => exact execActivationBankSwitch_wf s hwf
  | bundleStageLast who offset data => exact execBundleStageLast_wf who offset data s hwf
  | bundleWriteDone => exact execBundleWriteDone_wf s hwf
  | recoveryImageLast who offset data => exact execRecoveryImageLast_wf who offset data s hwf
  | lifecycleNonceRead who => exact execLifecycleNonceRead_wf who s hwf
  | lifecycleNonceExpire => exact execLifecycleNonceExpire_wf s hwf
  | lifecycleRequest who value => exact execLifecycleRequest_wf who value s hwf
  | ownerKeyWrite who offset data => exact execOwnerKeyWrite_wf who offset data s hwf
  | certChainWrite who chain offset data => exact execCertChainWrite_wf who chain offset data s hwf
  | spdmGetVersion via => exact execSpdmGetVersion_wf via s hwf
  | spdmGetCapabilities via request => exact execSpdmGetCapabilities_wf via request s hwf
  | spdmNegotiateAlgorithms via request => exact execSpdmNegotiateAlgorithms_wf via request s hwf
  | spdmGetDigests via => exact execSpdmGetDigests_wf via s hwf
  | spdmGetCertificate via slot offset len => exact execSpdmGetCertificate_wf via slot offset len s hwf
  | spdmChallenge via slot hashType nonce => exact execSpdmChallenge_wf via slot hashType nonce s hwf
  | spdmGetMeasurements via attributes index slotId nonce => exact execSpdmGetMeasurements_wf via attributes index slotId nonce s hwf
  | spdmUnsupported via req => exact execSpdmUnsupported_wf via req s hwf
  | sanitize slot action => exact execSanitize_wf slot action s hwf
  | formatNvm slot => exact execFormatNvm_wf slot s hwf
  | grownEntryCommit surface entry => exact execGrownEntryCommit_wf surface entry s hwf
  | holderMoveDone holder surface => exact execHolderMoveDone_wf holder surface s hwf
  | servoSync a wedge track pes => exact execServoSync_wf a wedge track pes s hwf
  | servoSyncTimeout a => exact execServoSyncTimeout_wf a s hwf
  | synthLock a => exact execSynthLock_wf a s hwf
  | synthUnlock a => exact execSynthUnlock_wf a s hwf
  | thermalAsperity a adc => exact execThermalAsperity_wf a adc s hwf
  | dropDetect a adc => exact execDropDetect_wf a adc s hwf
  | freezeHangoverEnd a adc => exact execFreezeHangoverEnd_wf a adc s hwf
  | longFreeze a adc => exact execLongFreeze_wf a adc s hwf
  | syncWindowEnd p first candidates => exact execSyncWindowEnd_wf p first candidates s hwf
  | captureEnd p adc => exact execCaptureEnd_wf p adc s hwf
  | preampFaultAssert a => exact execPreampFaultAssert_wf a s hwf
  | preampFaultPersist a => exact execPreampFaultPersist_wf a s hwf
  | preampFrameDone a readback parityOk => exact execPreampFrameDone_wf a readback parityOk s hwf
  | preampAccess who a value => exact execPreampAccess_wf who a value s hwf
  | writePayloadPoisoned p entry => exact execWritePayloadPoisoned_wf p entry s hwf
  | detectorPassDone core job check => exact execDetectorPassDone_wf core job check s hwf
  | ldpcIterationDone core job check => exact execLdpcIterationDone_wf core job check s hwf
  | decodeDeadline job => exact execDecodeDeadline_wf job s hwf
  | holdCopyDone a hold => exact execHoldCopyDone_wf a hold s hwf
  | ringTailWrite core value => exact execRingTailWrite_wf core value s hwf
  | ladderDeep ring => exact execLadderDeep_wf ring s hwf
  | ladderAverage ring => exact execLadderAverage_wf ring s hwf
  | ladderReleaseHold ring => exact execLadderReleaseHold_wf ring s hwf
  | ladderRequestEnd job => exact execLadderRequestEnd_wf job s hwf
  | ladderStepAdvance surface track psector top status outcome => exact execLadderStepAdvance_wf surface track psector top status outcome s hwf
  | sentenceLoad core p addr => exact execSentenceLoad_wf core p addr s hwf
  | sentenceFetchDone p => exact execSentenceFetchDone_wf p s hwf
  | sentenceUnderrun p => exact execSentenceUnderrun_wf p s hwf
  | playerAbort core p value => exact execPlayerAbort_wf core p value s hwf
  | clauseStep p phrase arg => exact execClauseStep_wf p phrase arg s hwf
  | clauseGoto p phrase arg => exact execClauseGoto_wf p phrase arg s hwf
  | clauseCall p phrase arg => exact execClauseCall_wf p phrase arg s hwf
  | clauseRet p phrase arg => exact execClauseRet_wf p phrase arg s hwf
  | clauseSetcnt p phrase arg => exact execClauseSetcnt_wf p phrase arg s hwf
  | clauseLoop p phrase arg => exact execClauseLoop_wf p phrase arg s hwf
  | clauseSector p phrase arg => exact execClauseSector_wf p phrase arg s hwf
  | clauseIfwrite p phrase arg => exact execClauseIfwrite_wf p phrase arg s hwf
  | clauseIfparity p phrase arg => exact execClauseIfparity_wf p phrase arg s hwf
  | clauseEnd p phrase arg => exact execClauseEnd_wf p phrase arg s hwf
  | clauseBad p why => exact execClauseBad_wf p why s hwf
  | clauseTimeEnd p => exact execClauseTimeEnd_wf p s hwf
  | clauseWaitMet p wedge t => exact execClauseWaitMet_wf p wedge t s hwf
  | clauseWaitTimeout p => exact execClauseWaitTimeout_wf p s hwf
  | playerStallEnd p => exact execPlayerStallEnd_wf p s hwf
  | windowEndReached p => exact execWindowEndReached_wf p s hwf
  | playerMemoryFault p store => exact execPlayerMemoryFault_wf p store s hwf
  | sentenceEnd p => exact execSentenceEnd_wf p s hwf
  | sentenceRecordWrite p => exact execSentenceRecordWrite_wf p s hwf
  | outerTrigger a => exact execOuterTrigger_wf a s hwf
  | reinNop e => exact execReinNop_wf e s hwf
  | reinAdd e rd ra rb => exact execReinAdd_wf e rd ra rb s hwf
  | reinSub e rd ra rb => exact execReinSub_wf e rd ra rb s hwf
  | reinAddw e rd ra rb => exact execReinAddw_wf e rd ra rb s hwf
  | reinSubw e rd ra rb => exact execReinSubw_wf e rd ra rb s hwf
  | reinAnd e rd ra rb => exact execReinAnd_wf e rd ra rb s hwf
  | reinOr e rd ra rb => exact execReinOr_wf e rd ra rb s hwf
  | reinXor e rd ra rb => exact execReinXor_wf e rd ra rb s hwf
  | reinMin e rd ra rb => exact execReinMin_wf e rd ra rb s hwf
  | reinMax e rd ra rb => exact execReinMax_wf e rd ra rb s hwf
  | reinAbs e rd ra => exact execReinAbs_wf e rd ra s hwf
  | reinNeg e rd ra => exact execReinNeg_wf e rd ra s hwf
  | reinShl e rd ra imm => exact execReinShl_wf e rd ra imm s hwf
  | reinShr e rd ra imm => exact execReinShr_wf e rd ra imm s hwf
  | reinShrl e rd ra imm => exact execReinShrl_wf e rd ra imm s hwf
  | reinLi e rd imm => exact execReinLi_wf e rd imm s hwf
  | reinLui e rd imm => exact execReinLui_wf e rd imm s hwf
  | reinAddi e rd ra imm => exact execReinAddi_wf e rd ra imm s hwf
  | reinLd e rd ra imm => exact execReinLd_wf e rd ra imm s hwf
  | reinSt e rs ra imm => exact execReinSt_wf e rs ra imm s hwf
  | reinIn e rd port => exact execReinIn_wf e rd port s hwf
  | reinOut e rs port => exact execReinOut_wf e rs port s hwf
  | reinSetcb e imm => exact execReinSetcb_wf e imm s hwf
  | reinMul e acc ra caddr => exact execReinMul_wf e acc ra caddr s hwf
  | reinMac e acc ra caddr => exact execReinMac_wf e acc ra caddr s hwf
  | reinMsu e acc ra caddr => exact execReinMsu_wf e acc ra caddr s hwf
  | reinClra e acc => exact execReinClra_wf e acc s hwf
  | reinLda e acc ra => exact execReinLda_wf e acc ra s hwf
  | reinRnd e rd acc mode l => exact execReinRnd_wf e rd acc mode l s hwf
  | reinB e target => exact execReinB_wf e target s hwf
  | reinBz e ra target => exact execReinBz_wf e ra target s hwf
  | reinBnz e ra target => exact execReinBnz_wf e ra target s hwf
  | reinBlt e ra target => exact execReinBlt_wf e ra target s hwf
  | reinBge e ra target => exact execReinBge_wf e ra target s hwf
  | reinDbnz e ra target => exact execReinDbnz_wf e ra target s hwf
  | reinCall e target => exact execReinCall_wf e target s hwf
  | reinRet e => exact execReinRet_wf e s hwf
  | reinDone e => exact execReinDone_wf e s hwf
  | reinProgramFault e => exact execReinProgramFault_wf e s hwf
  | reinBudgetStop e => exact execReinBudgetStop_wf e s hwf
  | reinCompare g entry => exact execReinCompare_wf g entry s hwf
  | pairHoldRerunEnd g => exact execPairHoldRerunEnd_wf g s hwf
  | reinLatch g entry => exact execReinLatch_wf g entry s hwf
  | engineReloadDone e => exact execEngineReloadDone_wf e s hwf
  | snapshotCopyDone e => exact execSnapshotCopyDone_wf e s hwf
  | probationEnd e => exact execProbationEnd_wf e s hwf
  | reinMemoryFault e => exact execReinMemoryFault_wf e s hwf
  | coefWrite who g value => exact execCoefWrite_wf who g value s hwf
  | snapRequest who g value => exact execSnapRequest_wf who g value s hwf
  | inject who g slot => exact execInject_wf who g slot s hwf
  | traceArm who a value => exact execTraceArm_wf who a value s hwf
  | traceForce who a value => exact execTraceForce_wf who a value s hwf
  | heartbeat count => exact execHeartbeat_wf count s hwf
  | heartbeatLoss => exact execHeartbeatLoss_wf s hwf
  | linkResend mainToMotion => exact execLinkResend_wf mainToMotion s hwf
  | vcmCmd a ua mv => exact execVcmCmd_wf a ua mv s hwf
  | spinCmd ua => exact execSpinCmd_wf ua s hwf
  | driveMsg cmd => exact execDriveMsg_wf cmd s hwf
  | resetNotice lengthUs => exact execResetNotice_wf lengthUs s hwf
  | linkObject who index sub write => exact execLinkObject_wf who index sub write s hwf
  | senseMsg a ua mv => exact execSenseMsg_wf a ua mv s hwf
  | zeroCross phase interval => exact execZeroCross_wf phase interval s hwf
  | linkStatus vm temp => exact execLinkStatus_wf vm temp s hwf
  | motionDieLost => exact execMotionDieLost_wf s hwf
  | zeroCrossMissing => exact execZeroCrossMissing_wf s hwf
  | spindleDriverFault => exact execSpindleDriverFault_wf s hwf
  | spinAlignEnd => exact execSpinAlignEnd_wf s hwf
  | spinRampEnd handover => exact execSpinRampEnd_wf handover s hwf
  | spindleStandstill => exact execSpindleStandstill_wf s hwf
  | vcmOvercurrent a => exact execVcmOvercurrent_wf a s hwf
  | maOvercurrent a => exact execMaOvercurrent_wf a s hwf
  | headLoadTimeout a => exact execHeadLoadTimeout_wf a s hwf
  | rampContact a => exact execRampContact_wf a s hwf
  | retractParked a ms => exact execRetractParked_wf a ms s hwf
  | retractTimeout a => exact execRetractTimeout_wf a s hwf
  | dumpSealed holdupMj vmMin => exact execDumpSealed_wf holdupMj vmMin s hwf
  | girthSync h tick baseHop tag fixed takeover overFlag => exact execGirthSync_wf h tick baseHop tag fixed takeover overFlag s hwf
  | girthPhase h rpm group => exact execGirthPhase_wf h rpm group s hwf
  | girthSeek h startTick profile act d profileSet => exact execGirthSeek_wf h startTick profile act d profileSet s hwf
  | girthHealth h payload => exact execGirthHealth_wf h payload s hwf
  | girthDictGet h target tag index sub => exact execGirthDictGet_wf h target tag index sub s hwf
  | girthDictSet h target tag index sub value => exact execGirthDictSet_wf h target tag index sub value s hwf
  | girthDictResponse h target tag index sub status value => exact execGirthDictResponse_wf h target tag index sub status value s hwf
  | girthUnknownType h typ payload => exact execGirthUnknownType_wf h typ payload s hwf
  | syncPeriod => exact execSyncPeriod_wf s hwf
  | phasePeriod => exact execPhasePeriod_wf s hwf
  | healthPeriod => exact execHealthPeriod_wf s hwf
  | healthDeferred => exact execHealthDeferred_wf s hwf
  | masterLoss => exact execMasterLoss_wf s hwf
  | candidateWaitEnd => exact execCandidateWaitEnd_wf s hwf
  | joinListenTimeout noSymbol => exact execJoinListenTimeout_wf noSymbol s hwf
  | announce who value => exact execAnnounce_wf who value s hwf
  | seekCancel a => exact execSeekCancel_wf a s hwf
  | announcementEnd id => exact execAnnouncementEnd_wf id s hwf
  | dictRequest who value => exact execDictRequest_wf who value s hwf
  | dictRequestTimeout => exact execDictRequestTimeout_wf s hwf
  | sqDoorbell p qid tail => exact execSqDoorbell_wf p qid tail s hwf
  | commandFetch p qid cmd => exact execCommandFetch_wf p qid cmd s hwf
  | createIoSq slot => exact execCreateIoSq_wf slot s hwf
  | createIoCq slot => exact execCreateIoCq_wf slot s hwf
  | deleteIoSq slot => exact execDeleteIoSq_wf slot s hwf
  | deleteIoCq slot => exact execDeleteIoCq_wf slot s hwf
  | getLogPage slot => exact execGetLogPage_wf slot s hwf
  | identify slot => exact execIdentify_wf slot s hwf
  | nvmeAbort slot => exact execNvmeAbort_wf slot s hwf
  | setFeatures slot => exact execSetFeatures_wf slot s hwf
  | setFeaturesPowerManagement slot => exact execSetFeaturesPowerManagement_wf slot s hwf
  | setFeaturesErrorRecovery slot => exact execSetFeaturesErrorRecovery_wf slot s hwf
  | setFeaturesVwc slot => exact execSetFeaturesVwc_wf slot s hwf
  | getFeatures slot => exact execGetFeatures_wf slot s hwf
  | asyncEventRequest p cid => exact execAsyncEventRequest_wf p cid s hwf
  | namespaceCreate slot nsze lbaFormat => exact execNamespaceCreate_wf slot nsze lbaFormat s hwf
  | namespaceDelete slot => exact execNamespaceDelete_wf slot s hwf
  | namespaceAttachment slot controllers => exact execNamespaceAttachment_wf slot controllers s hwf
  | securitySend slot data => exact execSecuritySend_wf slot data s hwf
  | securityReceive slot => exact execSecurityReceive_wf slot s hwf
  | getLbaStatus slot => exact execGetLbaStatus_wf slot s hwf
  | nvmeFlush slot => exact execNvmeFlush_wf slot s hwf
  | nvmeWrite slot blocks => exact execNvmeWrite_wf slot blocks s hwf
  | nvmeRead slot media => exact execNvmeRead_wf slot media s hwf
  | writeZeroes slot => exact execWriteZeroes_wf slot s hwf
  | datasetManagement slot => exact execDatasetManagement_wf slot s hwf
  | nvmeVerify slot media => exact execNvmeVerify_wf slot media s hwf
  | reservationRegister slot crkey nrkey => exact execReservationRegister_wf slot crkey nrkey s hwf
  | reservationReport slot => exact execReservationReport_wf slot s hwf
  | reservationAcquire slot crkey prkey => exact execReservationAcquire_wf slot crkey prkey s hwf
  | reservationPreemptAndAbort slot crkey prkey => exact execReservationPreemptAndAbort_wf slot crkey prkey s hwf
  | reservationRelease slot crkey => exact execReservationRelease_wf slot crkey s hwf
  | invalidOpcode slot => exact execInvalidOpcode_wf slot s hwf
  | writeCached slot => exact execWriteCached_wf slot s hwf
  | readTransferred slot => exact execReadTransferred_wf slot s hwf
  | ccEnClear p => exact execCcEnClear_wf p s hwf
  | ccEnSet p => exact execCcEnSet_wf p s hwf
  | functionLevelReset p => exact execFunctionLevelReset_wf p s hwf
  | pcieLinkDown p => exact execPcieLinkDown_wf p s hwf
  | nvmSubsystemReset => exact execNvmSubsystemReset_wf s hwf
  | shutdownNormal p => exact execShutdownNormal_wf p s hwf
  | shutdownAbrupt p => exact execShutdownAbrupt_wf p s hwf
  | ps3IdleTimeout => exact execPs3IdleTimeout_wf s hwf
  | powerStateSafePoint => exact execPowerStateSafePoint_wf s hwf
  | tlerExpire slot lba => exact execTlerExpire_wf slot lba s hwf
  | destageUpdate stripe reads => exact execDestageUpdate_wf stripe reads s hwf
  | stripeUpdateRetire stripe => exact execStripeUpdateRetire_wf stripe s hwf
  | wiMirrorPoint => exact execWiMirrorPoint_wf s hwf
  | mirrorRetry page ok => exact execMirrorRetry_wf page ok s hwf
  | journalReplay seq => exact execJournalReplay_wf seq s hwf
  | resyncGroup group reads => exact execResyncGroup_wf group reads s hwf
  | retireSurface who value => exact execRetireSurface_wf who value s hwf
  | rebuildStripe stripe reads => exact execRebuildStripe_wf stripe reads s hwf
  | rebuildCheckpoint => exact execRebuildCheckpoint_wf s hwf
  | patrolStripe stripe reads => exact execPatrolStripe_wf stripe reads s hwf
  | reshapeRequest who value => exact execReshapeRequest_wf who value s hwf
  | reshapeCancel who value => exact execReshapeCancel_wf who value s hwf
  | reshapeGroupCopy => exact execReshapeGroupCopy_wf s hwf
  | reshapeSwitch => exact execReshapeSwitch_wf s hwf
  | grownDefectReadback surface track psector converged taBoth freezeOffset freezeLen => exact execGrownDefectReadback_wf surface track psector converged taBoth freezeOffset freezeLen s hwf
  | arbiterGrant waiting => exact execArbiterGrant_wf waiting s hwf
  | pageSubstitutionDone page => exact execPageSubstitutionDone_wf page s hwf
  | zeroRange who value => exact execZeroRange_wf who value s hwf
  | zeroRangeDone => exact execZeroRangeDone_wf s hwf
  | keeperSlotErased slot => exact execKeeperSlotErased_wf slot s hwf
  | cacheClean core => exact execCacheClean_wf core s hwf
  | cacheInvalidate core => exact execCacheInvalidate_wf core s hwf
  | cacheCleanInvalidate core => exact execCacheCleanInvalidate_wf core s hwf
  | cacheFillLock core => exact execCacheFillLock_wf core s hwf
  | cacheUnlock core => exact execCacheUnlock_wf core s hwf
  | cacheCleanSw core => exact execCacheCleanSw_wf core s hwf
  | cacheInvalidateSw core => exact execCacheInvalidateSw_wf core s hwf
  | cacheCleanInvalidateSw core => exact execCacheCleanInvalidateSw_wf core s hwf
  | cacheMaintDone core => exact execCacheMaintDone_wf core s hwf
  | cacheFillReturn line => exact execCacheFillReturn_wf line s hwf
  | dmaGo who ch ctrl => exact execDmaGo_wf who ch ctrl s hwf
  | dmaChainGo who ch ctrl => exact execDmaChainGo_wf who ch ctrl s hwf
  | dmaStop who ch ctrl => exact execDmaStop_wf who ch ctrl s hwf
  | dmaDescriptorFetched ch ok => exact execDmaDescriptorFetched_wf ch ok s hwf
  | dmaBeatsAcknowledged ch => exact execDmaBeatsAcknowledged_wf ch s hwf
  | dmaReadbackDone ch => exact execDmaReadbackDone_wf ch s hwf
  | dmaBeatError ch kind doneBytes indet => exact execDmaBeatError_wf ch kind doneBytes indet s hwf
  | notifyClear who ch value => exact execNotifyClear_wf who ch value s hwf
  | fabricNak lane requester => exact execFabricNak_wf lane requester s hwf
  | collectorEvent ev => exact execCollectorEvent_wf ev s hwf
  | unitReadmit source => exact execUnitReadmit_wf source s hwf
  | safeRestartTimeout => exact execSafeRestartTimeout_wf s hwf
  | safeEntriesExpire => exact execSafeEntriesExpire_wf s hwf
  | coreWatchdog core => exact execCoreWatchdog_wf core s hwf
  | collectorSelfFault collector => exact execCollectorSelfFault_wf collector s hwf
  | captureClear who r value => exact execCaptureClear_wf who r value s hwf
  | clearUpto who value => exact execClearUpto_wf who value s hwf
  | clearAll who value => exact execClearAll_wf who value s hwf
  | ledgerMirror => exact execLedgerMirror_wf s hwf
  | ledgerMirrorDone => exact execLedgerMirrorDone_wf s hwf
  | ledgerBandCopy => exact execLedgerBandCopy_wf s hwf
  | unretire who value => exact execUnretire_wf who value s hwf
  | sourceEntryWrite who id value => exact execSourceEntryWrite_wf who id value s hwf
  | spindleReinTrigger entry => exact execSpindleReinTrigger_wf entry s hwf
  | coreMemoryAccess core addr width access ecc => exact execCoreMemoryAccess_wf core addr width access ecc s hwf
  | linkTrainingDone p speed width => exact execLinkTrainingDone_wf p speed width s hwf
  | tapInstruction ins => exact execTapInstruction_wf ins s hwf
  | dynamicAddressAssignment addr => exact execDynamicAddressAssignment_wf addr s hwf
  | preampFaultRelease a => exact execPreampFaultRelease_wf a s hwf
  | bolhobaUnknownOpcode h pen version opcode => exact execBolhobaUnknownOpcode_wf h pen version opcode s hwf
  | cqHeadDoorbell p qid head => exact execCqHeadDoorbell_wf p qid head s hwf
  | fabricAck lane requester beats => exact execFabricAck_wf lane requester beats s hwf
  | supersededPageProgrammed => exact execSupersededPageProgrammed_wf s hwf
  | cryptoEraseDone ns => exact execCryptoEraseDone_wf ns s hwf
  | reservationStateWritten ns => exact execReservationStateWritten_wf ns s hwf

/-- Every command changes only the parts that `touches` lists for it. -/
theorem exec_touches {c : Instr} {s t : State} (he : exec c s = .next t) : SameBut (touches c) s t := by
  cases c with
  | powerGood => exact powerGood_touches he
  | feedPresent => exact feedPresent_touches he
  | feedLost => exact feedLost_touches he
  | feedSwitchReclose => exact feedSwitchReclose_touches he
  | railsOff => exact railsOff_touches he
  | railsUp => exact railsUp_touches he
  | pwrdisAssert => exact pwrdisAssert_touches he
  | pwrdisRelease => exact pwrdisRelease_touches he
  | vmCollapse => exact vmCollapse_touches he
  | v3p3Overcurrent => exact v3p3Overcurrent_touches he
  | throttleEnter => exact throttleEnter_touches he
  | throttleExit => exact throttleExit_touches he
  | thermalShutdown => exact thermalShutdown_touches he
  | powerCapWrite => exact powerCapWrite_touches he
  | vcoreSteer => exact vcoreSteer_touches he
  | writeUnsafe => exact writeUnsafe_touches he
  | writeFifoEmpty => exact writeFifoEmpty_touches he
  | gateEntryExecute => exact gateEntryExecute_touches he
  | sampleOverrun => exact sampleOverrun_touches he
  | dictionaryGet => exact dictionaryGet_touches he
  | dictionarySet => exact dictionarySet_touches he
  | dictionarySetList => exact dictionarySetList_touches he
  | dictionaryBlockRead => exact dictionaryBlockRead_touches he
  | dictionaryListRead => exact dictionaryListRead_touches he
  | bolhobaGet => exact bolhobaGet_touches he
  | bolhobaSet => exact bolhobaSet_touches he
  | bolhobaListGet => exact bolhobaListGet_touches he
  | bolhobaListSet => exact bolhobaListSet_touches he
  | bolhobaBlockRead => exact bolhobaBlockRead_touches he
  | bolhobaBlockWrite => exact bolhobaBlockWrite_touches he
  | factoryFrameGap => exact factoryFrameGap_touches he
  | windowRead => exact windowRead_touches he
  | windowWrite => exact windowWrite_touches he
  | mbRead => exact mbRead_touches he
  | mbWrite => exact mbWrite_touches he
  | mbWriteLast => exact mbWriteLast_touches he
  | mbTransferDone => exact mbTransferDone_touches he
  | blobStagingAbandon => exact blobStagingAbandon_touches he
  | store => exact store_touches he
  | storeCommit => exact storeCommit_touches he
  | restoreDefaults => exact restoreDefaults_touches he
  | unitDisable => exact unitDisable_touches he
  | unitEnable => exact unitEnable_touches he
  | unitQuiesced => exact unitQuiesced_touches he
  | objectWrite => exact objectWrite_touches he
  | attemptBegin => exact attemptBegin_touches he
  | startStepEnd => exact startStepEnd_touches he
  | stepWatchdog => exact stepWatchdog_touches he
  | startDeadline => exact startDeadline_touches he
  | restartNormal => exact restartNormal_touches he
  | restartMaintenance => exact restartMaintenance_touches he
  | perstDeassert => exact perstDeassert_touches he
  | perstAssert => exact perstAssert_touches he
  | firmwareImageDownload => exact firmwareImageDownload_touches he
  | firmwareCommitReplace => exact firmwareCommitReplace_touches he
  | firmwareCommitReplaceActivate => exact firmwareCommitReplaceActivate_touches he
  | firmwareCommitActivate => exact firmwareCommitActivate_touches he
  | firmwareCommitActivateNow => exact firmwareCommitActivateNow_touches he
  | firmwareCommitInvalidAction => exact firmwareCommitInvalidAction_touches he
  | firmwareCommitDone => exact firmwareCommitDone_touches he
  | activationStaged => exact activationStaged_touches he
  | activationFreezeEnd => exact activationFreezeEnd_touches he
  | activationBankSwitch => exact activationBankSwitch_touches he
  | bundleStageLast => exact bundleStageLast_touches he
  | bundleWriteDone => exact bundleWriteDone_touches he
  | recoveryImageLast => exact recoveryImageLast_touches he
  | lifecycleNonceRead => exact lifecycleNonceRead_touches he
  | lifecycleNonceExpire => exact lifecycleNonceExpire_touches he
  | lifecycleRequest => exact lifecycleRequest_touches he
  | ownerKeyWrite => exact ownerKeyWrite_touches he
  | certChainWrite => exact certChainWrite_touches he
  | spdmGetVersion => exact spdmGetVersion_touches he
  | spdmGetCapabilities => exact spdmGetCapabilities_touches he
  | spdmNegotiateAlgorithms => exact spdmNegotiateAlgorithms_touches he
  | spdmGetDigests => exact spdmGetDigests_touches he
  | spdmGetCertificate => exact spdmGetCertificate_touches he
  | spdmChallenge => exact spdmChallenge_touches he
  | spdmGetMeasurements => exact spdmGetMeasurements_touches he
  | spdmUnsupported => exact spdmUnsupported_touches he
  | sanitize => exact sanitize_touches he
  | formatNvm => exact formatNvm_touches he
  | grownEntryCommit => exact grownEntryCommit_touches he
  | holderMoveDone => exact holderMoveDone_touches he
  | servoSync => exact servoSync_touches he
  | servoSyncTimeout => exact servoSyncTimeout_touches he
  | synthLock => exact synthLock_touches he
  | synthUnlock => exact synthUnlock_touches he
  | thermalAsperity => exact thermalAsperity_touches he
  | dropDetect => exact dropDetect_touches he
  | freezeHangoverEnd => exact freezeHangoverEnd_touches he
  | longFreeze => exact longFreeze_touches he
  | syncWindowEnd => exact syncWindowEnd_touches he
  | captureEnd => exact captureEnd_touches he
  | preampFaultAssert => exact preampFaultAssert_touches he
  | preampFaultPersist => exact preampFaultPersist_touches he
  | preampFrameDone => exact preampFrameDone_touches he
  | preampAccess => exact preampAccess_touches he
  | writePayloadPoisoned => exact writePayloadPoisoned_touches he
  | detectorPassDone => exact detectorPassDone_touches he
  | ldpcIterationDone => exact ldpcIterationDone_touches he
  | decodeDeadline => exact decodeDeadline_touches he
  | holdCopyDone => exact holdCopyDone_touches he
  | ringTailWrite => exact ringTailWrite_touches he
  | ladderDeep => exact ladderDeep_touches he
  | ladderAverage => exact ladderAverage_touches he
  | ladderReleaseHold => exact ladderReleaseHold_touches he
  | ladderRequestEnd => exact ladderRequestEnd_touches he
  | ladderStepAdvance => exact ladderStepAdvance_touches he
  | sentenceLoad => exact sentenceLoad_touches he
  | sentenceFetchDone => exact sentenceFetchDone_touches he
  | sentenceUnderrun => exact sentenceUnderrun_touches he
  | playerAbort => exact playerAbort_touches he
  | clauseStep => exact clauseStep_touches he
  | clauseGoto => exact clauseGoto_touches he
  | clauseCall => exact clauseCall_touches he
  | clauseRet => exact clauseRet_touches he
  | clauseSetcnt => exact clauseSetcnt_touches he
  | clauseLoop => exact clauseLoop_touches he
  | clauseSector => exact clauseSector_touches he
  | clauseIfwrite => exact clauseIfwrite_touches he
  | clauseIfparity => exact clauseIfparity_touches he
  | clauseEnd => exact clauseEnd_touches he
  | clauseBad => exact clauseBad_touches he
  | clauseTimeEnd => exact clauseTimeEnd_touches he
  | clauseWaitMet => exact clauseWaitMet_touches he
  | clauseWaitTimeout => exact clauseWaitTimeout_touches he
  | playerStallEnd => exact playerStallEnd_touches he
  | windowEndReached => exact windowEndReached_touches he
  | playerMemoryFault => exact playerMemoryFault_touches he
  | sentenceEnd => exact sentenceEnd_touches he
  | sentenceRecordWrite => exact sentenceRecordWrite_touches he
  | outerTrigger => exact outerTrigger_touches he
  | reinNop => exact reinNop_touches he
  | reinAdd => exact reinAdd_touches he
  | reinSub => exact reinSub_touches he
  | reinAddw => exact reinAddw_touches he
  | reinSubw => exact reinSubw_touches he
  | reinAnd => exact reinAnd_touches he
  | reinOr => exact reinOr_touches he
  | reinXor => exact reinXor_touches he
  | reinMin => exact reinMin_touches he
  | reinMax => exact reinMax_touches he
  | reinAbs => exact reinAbs_touches he
  | reinNeg => exact reinNeg_touches he
  | reinShl => exact reinShl_touches he
  | reinShr => exact reinShr_touches he
  | reinShrl => exact reinShrl_touches he
  | reinLi => exact reinLi_touches he
  | reinLui => exact reinLui_touches he
  | reinAddi => exact reinAddi_touches he
  | reinLd => exact reinLd_touches he
  | reinSt => exact reinSt_touches he
  | reinIn => exact reinIn_touches he
  | reinOut => exact reinOut_touches he
  | reinSetcb => exact reinSetcb_touches he
  | reinMul => exact reinMul_touches he
  | reinMac => exact reinMac_touches he
  | reinMsu => exact reinMsu_touches he
  | reinClra => exact reinClra_touches he
  | reinLda => exact reinLda_touches he
  | reinRnd => exact reinRnd_touches he
  | reinB => exact reinB_touches he
  | reinBz => exact reinBz_touches he
  | reinBnz => exact reinBnz_touches he
  | reinBlt => exact reinBlt_touches he
  | reinBge => exact reinBge_touches he
  | reinDbnz => exact reinDbnz_touches he
  | reinCall => exact reinCall_touches he
  | reinRet => exact reinRet_touches he
  | reinDone => exact reinDone_touches he
  | reinProgramFault => exact reinProgramFault_touches he
  | reinBudgetStop => exact reinBudgetStop_touches he
  | reinCompare => exact reinCompare_touches he
  | pairHoldRerunEnd => exact pairHoldRerunEnd_touches he
  | reinLatch => exact reinLatch_touches he
  | engineReloadDone => exact engineReloadDone_touches he
  | snapshotCopyDone => exact snapshotCopyDone_touches he
  | probationEnd => exact probationEnd_touches he
  | reinMemoryFault => exact reinMemoryFault_touches he
  | coefWrite => exact coefWrite_touches he
  | snapRequest => exact snapRequest_touches he
  | inject => exact inject_touches he
  | traceArm => exact traceArm_touches he
  | traceForce => exact traceForce_touches he
  | heartbeat => exact heartbeat_touches he
  | heartbeatLoss => exact heartbeatLoss_touches he
  | linkResend => exact linkResend_touches he
  | vcmCmd => exact vcmCmd_touches he
  | spinCmd => exact spinCmd_touches he
  | driveMsg => exact driveMsg_touches he
  | resetNotice => exact resetNotice_touches he
  | linkObject => exact linkObject_touches he
  | senseMsg => exact senseMsg_touches he
  | zeroCross => exact zeroCross_touches he
  | linkStatus => exact linkStatus_touches he
  | motionDieLost => exact motionDieLost_touches he
  | zeroCrossMissing => exact zeroCrossMissing_touches he
  | spindleDriverFault => exact spindleDriverFault_touches he
  | spinAlignEnd => exact spinAlignEnd_touches he
  | spinRampEnd => exact spinRampEnd_touches he
  | spindleStandstill => exact spindleStandstill_touches he
  | vcmOvercurrent => exact vcmOvercurrent_touches he
  | maOvercurrent => exact maOvercurrent_touches he
  | headLoadTimeout => exact headLoadTimeout_touches he
  | rampContact => exact rampContact_touches he
  | retractParked => exact retractParked_touches he
  | retractTimeout => exact retractTimeout_touches he
  | dumpSealed => exact dumpSealed_touches he
  | girthSync => exact girthSync_touches he
  | girthPhase => exact girthPhase_touches he
  | girthSeek => exact girthSeek_touches he
  | girthHealth => exact girthHealth_touches he
  | girthDictGet => exact girthDictGet_touches he
  | girthDictSet => exact girthDictSet_touches he
  | girthDictResponse => exact girthDictResponse_touches he
  | girthUnknownType => exact girthUnknownType_touches he
  | syncPeriod => exact syncPeriod_touches he
  | phasePeriod => exact phasePeriod_touches he
  | healthPeriod => exact healthPeriod_touches he
  | healthDeferred => exact healthDeferred_touches he
  | masterLoss => exact masterLoss_touches he
  | candidateWaitEnd => exact candidateWaitEnd_touches he
  | joinListenTimeout => exact joinListenTimeout_touches he
  | announce => exact announce_touches he
  | seekCancel => exact seekCancel_touches he
  | announcementEnd => exact announcementEnd_touches he
  | dictRequest => exact dictRequest_touches he
  | dictRequestTimeout => exact dictRequestTimeout_touches he
  | sqDoorbell => exact sqDoorbell_touches he
  | commandFetch => exact commandFetch_touches he
  | createIoSq => exact createIoSq_touches he
  | createIoCq => exact createIoCq_touches he
  | deleteIoSq => exact deleteIoSq_touches he
  | deleteIoCq => exact deleteIoCq_touches he
  | getLogPage => exact getLogPage_touches he
  | identify => exact identify_touches he
  | nvmeAbort => exact nvmeAbort_touches he
  | setFeatures => exact setFeatures_touches he
  | setFeaturesPowerManagement => exact setFeaturesPowerManagement_touches he
  | setFeaturesErrorRecovery => exact setFeaturesErrorRecovery_touches he
  | setFeaturesVwc => exact setFeaturesVwc_touches he
  | getFeatures => exact getFeatures_touches he
  | asyncEventRequest => exact asyncEventRequest_touches he
  | namespaceCreate => exact namespaceCreate_touches he
  | namespaceDelete => exact namespaceDelete_touches he
  | namespaceAttachment => exact namespaceAttachment_touches he
  | securitySend => exact securitySend_touches he
  | securityReceive => exact securityReceive_touches he
  | getLbaStatus => exact getLbaStatus_touches he
  | nvmeFlush => exact nvmeFlush_touches he
  | nvmeWrite => exact nvmeWrite_touches he
  | nvmeRead => exact nvmeRead_touches he
  | writeZeroes => exact writeZeroes_touches he
  | datasetManagement => exact datasetManagement_touches he
  | nvmeVerify => exact nvmeVerify_touches he
  | reservationRegister => exact reservationRegister_touches he
  | reservationReport => exact reservationReport_touches he
  | reservationAcquire => exact reservationAcquire_touches he
  | reservationPreemptAndAbort => exact reservationPreemptAndAbort_touches he
  | reservationRelease => exact reservationRelease_touches he
  | invalidOpcode => exact invalidOpcode_touches he
  | writeCached => exact writeCached_touches he
  | readTransferred => exact readTransferred_touches he
  | ccEnClear => exact ccEnClear_touches he
  | ccEnSet => exact ccEnSet_touches he
  | functionLevelReset => exact functionLevelReset_touches he
  | pcieLinkDown => exact pcieLinkDown_touches he
  | nvmSubsystemReset => exact nvmSubsystemReset_touches he
  | shutdownNormal => exact shutdownNormal_touches he
  | shutdownAbrupt => exact shutdownAbrupt_touches he
  | ps3IdleTimeout => exact ps3IdleTimeout_touches he
  | powerStateSafePoint => exact powerStateSafePoint_touches he
  | tlerExpire => exact tlerExpire_touches he
  | destageUpdate => exact destageUpdate_touches he
  | stripeUpdateRetire => exact stripeUpdateRetire_touches he
  | wiMirrorPoint => exact wiMirrorPoint_touches he
  | mirrorRetry => exact mirrorRetry_touches he
  | journalReplay => exact journalReplay_touches he
  | resyncGroup => exact resyncGroup_touches he
  | retireSurface => exact retireSurface_touches he
  | rebuildStripe => exact rebuildStripe_touches he
  | rebuildCheckpoint => exact rebuildCheckpoint_touches he
  | patrolStripe => exact patrolStripe_touches he
  | reshapeRequest => exact reshapeRequest_touches he
  | reshapeCancel => exact reshapeCancel_touches he
  | reshapeGroupCopy => exact reshapeGroupCopy_touches he
  | reshapeSwitch => exact reshapeSwitch_touches he
  | grownDefectReadback => exact grownDefectReadback_touches he
  | arbiterGrant => exact arbiterGrant_touches he
  | pageSubstitutionDone => exact pageSubstitutionDone_touches he
  | zeroRange => exact zeroRange_touches he
  | zeroRangeDone => exact zeroRangeDone_touches he
  | keeperSlotErased => exact keeperSlotErased_touches he
  | cacheClean => exact cacheClean_touches he
  | cacheInvalidate => exact cacheInvalidate_touches he
  | cacheCleanInvalidate => exact cacheCleanInvalidate_touches he
  | cacheFillLock => exact cacheFillLock_touches he
  | cacheUnlock => exact cacheUnlock_touches he
  | cacheCleanSw => exact cacheCleanSw_touches he
  | cacheInvalidateSw => exact cacheInvalidateSw_touches he
  | cacheCleanInvalidateSw => exact cacheCleanInvalidateSw_touches he
  | cacheMaintDone => exact cacheMaintDone_touches he
  | cacheFillReturn => exact cacheFillReturn_touches he
  | dmaGo => exact dmaGo_touches he
  | dmaChainGo => exact dmaChainGo_touches he
  | dmaStop => exact dmaStop_touches he
  | dmaDescriptorFetched => exact dmaDescriptorFetched_touches he
  | dmaBeatsAcknowledged => exact dmaBeatsAcknowledged_touches he
  | dmaReadbackDone => exact dmaReadbackDone_touches he
  | dmaBeatError => exact dmaBeatError_touches he
  | notifyClear => exact notifyClear_touches he
  | fabricNak => exact fabricNak_touches he
  | collectorEvent => exact collectorEvent_touches he
  | unitReadmit => exact unitReadmit_touches he
  | safeRestartTimeout => exact safeRestartTimeout_touches he
  | safeEntriesExpire => exact safeEntriesExpire_touches he
  | coreWatchdog => exact coreWatchdog_touches he
  | collectorSelfFault => exact collectorSelfFault_touches he
  | captureClear => exact captureClear_touches he
  | clearUpto => exact clearUpto_touches he
  | clearAll => exact clearAll_touches he
  | ledgerMirror => exact ledgerMirror_touches he
  | ledgerMirrorDone => exact ledgerMirrorDone_touches he
  | ledgerBandCopy => exact ledgerBandCopy_touches he
  | unretire => exact unretire_touches he
  | sourceEntryWrite => exact sourceEntryWrite_touches he
  | spindleReinTrigger => exact spindleReinTrigger_touches he
  | coreMemoryAccess => exact coreMemoryAccess_touches he
  | linkTrainingDone => exact linkTrainingDone_touches he
  | tapInstruction => exact tapInstruction_touches he
  | dynamicAddressAssignment => exact dynamicAddressAssignment_touches he
  | preampFaultRelease => exact preampFaultRelease_touches he
  | bolhobaUnknownOpcode => exact bolhobaUnknownOpcode_touches he
  | cqHeadDoorbell => exact cqHeadDoorbell_touches he
  | fabricAck => exact fabricAck_touches he
  | supersededPageProgrammed => exact supersededPageProgrammed_touches he
  | cryptoEraseDone => exact cryptoEraseDone_touches he
  | reservationStateWritten => exact reservationStateWritten_touches he

/-- Every command writes only the objects that `writes` lists for it; where that is every object there is nothing to show. -/
theorem exec_writes {c : Instr} {s t : State} (he : exec c s = .next t) : ObjsKept (writes c) s t := by
  cases c with
  | feedPresent => exact feedPresent_writes he
  | feedLost => exact feedLost_writes he
  | feedSwitchReclose => exact feedSwitchReclose_writes he
  | pwrdisAssert => exact pwrdisAssert_writes he
  | pwrdisRelease => exact pwrdisRelease_writes he
  | v3p3Overcurrent => exact v3p3Overcurrent_writes he
  | throttleEnter => exact throttleEnter_writes he
  | throttleExit => exact throttleExit_writes he
  | vcoreSteer => exact vcoreSteer_writes he
  | writeUnsafe => exact writeUnsafe_writes he
  | writeFifoEmpty => exact writeFifoEmpty_writes he
  | gateEntryExecute => exact gateEntryExecute_writes he
  | sampleOverrun => exact sampleOverrun_writes he
  | dictionaryGet => exact dictionaryGet_writes he
  | dictionaryBlockRead => exact dictionaryBlockRead_writes he
  | dictionaryListRead => exact dictionaryListRead_writes he
  | bolhobaGet => exact bolhobaGet_writes he
  | bolhobaListGet => exact bolhobaListGet_writes he
  | bolhobaBlockRead => exact bolhobaBlockRead_writes he
  | factoryFrameGap => exact factoryFrameGap_writes he
  | windowRead => exact windowRead_writes he
  | blobStagingAbandon => exact blobStagingAbandon_writes he
  | storeCommit => exact storeCommit_writes he
  | perstDeassert => exact perstDeassert_writes he
  | firmwareImageDownload => exact firmwareImageDownload_writes he
  | firmwareCommitReplace => exact firmwareCommitReplace_writes he
  | firmwareCommitReplaceActivate => exact firmwareCommitReplaceActivate_writes he
  | firmwareCommitActivate => exact firmwareCommitActivate_writes he
  | firmwareCommitActivateNow => exact firmwareCommitActivateNow_writes he
  | firmwareCommitInvalidAction => exact firmwareCommitInvalidAction_writes he
  | firmwareCommitDone => exact firmwareCommitDone_writes he
  | activationStaged => exact activationStaged_writes he
  | activationBankSwitch => exact activationBankSwitch_writes he
  | bundleWriteDone => exact bundleWriteDone_writes he
  | lifecycleNonceRead => exact lifecycleNonceRead_writes he
  | lifecycleNonceExpire => exact lifecycleNonceExpire_writes he
  | spdmGetVersion => exact spdmGetVersion_writes he
  | spdmGetCapabilities => exact spdmGetCapabilities_writes he
  | spdmNegotiateAlgorithms => exact spdmNegotiateAlgorithms_writes he
  | spdmGetDigests => exact spdmGetDigests_writes he
  | spdmGetCertificate => exact spdmGetCertificate_writes he
  | spdmChallenge => exact spdmChallenge_writes he
  | spdmGetMeasurements => exact spdmGetMeasurements_writes he
  | spdmUnsupported => exact spdmUnsupported_writes he
  | sanitize => exact sanitize_writes he
  | formatNvm => exact formatNvm_writes he
  | grownEntryCommit => exact grownEntryCommit_writes he
  | holderMoveDone => exact holderMoveDone_writes he
  | servoSyncTimeout => exact servoSyncTimeout_writes he
  | synthLock => exact synthLock_writes he
  | synthUnlock => exact synthUnlock_writes he
  | thermalAsperity => exact thermalAsperity_writes he
  | dropDetect => exact dropDetect_writes he
  | freezeHangoverEnd => exact freezeHangoverEnd_writes he
  | longFreeze => exact longFreeze_writes he
  | syncWindowEnd => exact syncWindowEnd_writes he
  | captureEnd => exact captureEnd_writes he
  | preampFaultAssert => exact preampFaultAssert_writes he
  | preampFaultPersist => exact preampFaultPersist_writes he
  | preampFrameDone => exact preampFrameDone_writes he
  | writePayloadPoisoned => exact writePayloadPoisoned_writes he
  | detectorPassDone => exact detectorPassDone_writes he
  | ldpcIterationDone => exact ldpcIterationDone_writes he
  | decodeDeadline => exact decodeDeadline_writes he
  | holdCopyDone => exact holdCopyDone_writes he
  | ladderDeep => exact ladderDeep_writes he
  | ladderAverage => exact ladderAverage_writes he
  | ladderReleaseHold => exact ladderReleaseHold_writes he
  | ladderRequestEnd => exact ladderRequestEnd_writes he
  | ladderStepAdvance => exact ladderStepAdvance_writes he
  | sentenceFetchDone => exact sentenceFetchDone_writes he
  | sentenceUnderrun => exact sentenceUnderrun_writes he
  | clauseStep => exact clauseStep_writes he
  | clauseGoto => exact clauseGoto_writes he
  | clauseCall => exact clauseCall_writes he
  | clauseRet => exact clauseRet_writes he
  | clauseSetcnt => exact clauseSetcnt_writes he
  | clauseLoop => exact clauseLoop_writes he
  | clauseSector => exact clauseSector_writes he
  | clauseIfwrite => exact clauseIfwrite_writes he
  | clauseIfparity => exact clauseIfparity_writes he
  | clauseEnd => exact clauseEnd_writes he
  | clauseBad => exact clauseBad_writes he
  | clauseTimeEnd => exact clauseTimeEnd_writes he
  | clauseWaitMet => exact clauseWaitMet_writes he
  | clauseWaitTimeout => exact clauseWaitTimeout_writes he
  | playerStallEnd => exact playerStallEnd_writes he
  | windowEndReached => exact windowEndReached_writes he
  | playerMemoryFault => exact playerMemoryFault_writes he
  | sentenceEnd => exact sentenceEnd_writes he
  | sentenceRecordWrite => exact sentenceRecordWrite_writes he
  | reinNop => exact reinNop_writes he
  | reinAdd => exact reinAdd_writes he
  | reinSub => exact reinSub_writes he
  | reinAddw => exact reinAddw_writes he
  | reinSubw => exact reinSubw_writes he
  | reinAnd => exact reinAnd_writes he
  | reinOr => exact reinOr_writes he
  | reinXor => exact reinXor_writes he
  | reinMin => exact reinMin_writes he
  | reinMax => exact reinMax_writes he
  | reinAbs => exact reinAbs_writes he
  | reinNeg => exact reinNeg_writes he
  | reinShl => exact reinShl_writes he
  | reinShr => exact reinShr_writes he
  | reinShrl => exact reinShrl_writes he
  | reinLi => exact reinLi_writes he
  | reinLui => exact reinLui_writes he
  | reinAddi => exact reinAddi_writes he
  | reinLd => exact reinLd_writes he
  | reinSt => exact reinSt_writes he
  | reinIn => exact reinIn_writes he
  | reinOut => exact reinOut_writes he
  | reinSetcb => exact reinSetcb_writes he
  | reinMul => exact reinMul_writes he
  | reinMac => exact reinMac_writes he
  | reinMsu => exact reinMsu_writes he
  | reinClra => exact reinClra_writes he
  | reinLda => exact reinLda_writes he
  | reinRnd => exact reinRnd_writes he
  | reinB => exact reinB_writes he
  | reinBz => exact reinBz_writes he
  | reinBnz => exact reinBnz_writes he
  | reinBlt => exact reinBlt_writes he
  | reinBge => exact reinBge_writes he
  | reinDbnz => exact reinDbnz_writes he
  | reinCall => exact reinCall_writes he
  | reinRet => exact reinRet_writes he
  | reinDone => exact reinDone_writes he
  | reinProgramFault => exact reinProgramFault_writes he
  | reinBudgetStop => exact reinBudgetStop_writes he
  | reinLatch => exact reinLatch_writes he
  | engineReloadDone => exact engineReloadDone_writes he
  | snapshotCopyDone => exact snapshotCopyDone_writes he
  | probationEnd => exact probationEnd_writes he
  | heartbeat => exact heartbeat_writes he
  | heartbeatLoss => exact heartbeatLoss_writes he
  | vcmCmd => exact vcmCmd_writes he
  | spinCmd => exact spinCmd_writes he
  | driveMsg => exact driveMsg_writes he
  | resetNotice => exact resetNotice_writes he
  | zeroCross => exact zeroCross_writes he
  | linkStatus => exact linkStatus_writes he
  | zeroCrossMissing => exact zeroCrossMissing_writes he
  | spindleDriverFault => exact spindleDriverFault_writes he
  | spinAlignEnd => exact spinAlignEnd_writes he
  | spindleStandstill => exact spindleStandstill_writes he
  | vcmOvercurrent => exact vcmOvercurrent_writes he
  | maOvercurrent => exact maOvercurrent_writes he
  | headLoadTimeout => exact headLoadTimeout_writes he
  | rampContact => exact rampContact_writes he
  | dumpSealed => exact dumpSealed_writes he
  | girthSync => exact girthSync_writes he
  | girthPhase => exact girthPhase_writes he
  | girthSeek => exact girthSeek_writes he
  | girthHealth => exact girthHealth_writes he
  | girthDictGet => exact girthDictGet_writes he
  | girthDictResponse => exact girthDictResponse_writes he
  | girthUnknownType => exact girthUnknownType_writes he
  | syncPeriod => exact syncPeriod_writes he
  | phasePeriod => exact phasePeriod_writes he
  | healthPeriod => exact healthPeriod_writes he
  | healthDeferred => exact healthDeferred_writes he
  | masterLoss => exact masterLoss_writes he
  | candidateWaitEnd => exact candidateWaitEnd_writes he
  | joinListenTimeout => exact joinListenTimeout_writes he
  | seekCancel => exact seekCancel_writes he
  | announcementEnd => exact announcementEnd_writes he
  | dictRequestTimeout => exact dictRequestTimeout_writes he
  | sqDoorbell => exact sqDoorbell_writes he
  | commandFetch => exact commandFetch_writes he
  | createIoSq => exact createIoSq_writes he
  | createIoCq => exact createIoCq_writes he
  | deleteIoSq => exact deleteIoSq_writes he
  | deleteIoCq => exact deleteIoCq_writes he
  | getLogPage => exact getLogPage_writes he
  | identify => exact identify_writes he
  | nvmeAbort => exact nvmeAbort_writes he
  | setFeatures => exact setFeatures_writes he
  | setFeaturesPowerManagement => exact setFeaturesPowerManagement_writes he
  | setFeaturesErrorRecovery => exact setFeaturesErrorRecovery_writes he
  | setFeaturesVwc => exact setFeaturesVwc_writes he
  | getFeatures => exact getFeatures_writes he
  | asyncEventRequest => exact asyncEventRequest_writes he
  | namespaceCreate => exact namespaceCreate_writes he
  | namespaceDelete => exact namespaceDelete_writes he
  | namespaceAttachment => exact namespaceAttachment_writes he
  | securitySend => exact securitySend_writes he
  | securityReceive => exact securityReceive_writes he
  | getLbaStatus => exact getLbaStatus_writes he
  | nvmeFlush => exact nvmeFlush_writes he
  | nvmeWrite => exact nvmeWrite_writes he
  | nvmeRead => exact nvmeRead_writes he
  | writeZeroes => exact writeZeroes_writes he
  | datasetManagement => exact datasetManagement_writes he
  | nvmeVerify => exact nvmeVerify_writes he
  | reservationRegister => exact reservationRegister_writes he
  | reservationReport => exact reservationReport_writes he
  | reservationAcquire => exact reservationAcquire_writes he
  | reservationPreemptAndAbort => exact reservationPreemptAndAbort_writes he
  | reservationRelease => exact reservationRelease_writes he
  | invalidOpcode => exact invalidOpcode_writes he
  | writeCached => exact writeCached_writes he
  | readTransferred => exact readTransferred_writes he
  | ccEnSet => exact ccEnSet_writes he
  | shutdownNormal => exact shutdownNormal_writes he
  | shutdownAbrupt => exact shutdownAbrupt_writes he
  | ps3IdleTimeout => exact ps3IdleTimeout_writes he
  | powerStateSafePoint => exact powerStateSafePoint_writes he
  | tlerExpire => exact tlerExpire_writes he
  | destageUpdate => exact destageUpdate_writes he
  | wiMirrorPoint => exact wiMirrorPoint_writes he
  | mirrorRetry => exact mirrorRetry_writes he
  | resyncGroup => exact resyncGroup_writes he
  | rebuildStripe => exact rebuildStripe_writes he
  | rebuildCheckpoint => exact rebuildCheckpoint_writes he
  | patrolStripe => exact patrolStripe_writes he
  | reshapeGroupCopy => exact reshapeGroupCopy_writes he
  | grownDefectReadback => exact grownDefectReadback_writes he
  | arbiterGrant => exact arbiterGrant_writes he
  | pageSubstitutionDone => exact pageSubstitutionDone_writes he
  | zeroRangeDone => exact zeroRangeDone_writes he
  | keeperSlotErased => exact keeperSlotErased_writes he
  | cacheMaintDone => exact cacheMaintDone_writes he
  | cacheFillReturn => exact cacheFillReturn_writes he
  | dmaDescriptorFetched => exact dmaDescriptorFetched_writes he
  | dmaBeatsAcknowledged => exact dmaBeatsAcknowledged_writes he
  | dmaReadbackDone => exact dmaReadbackDone_writes he
  | dmaBeatError => exact dmaBeatError_writes he
  | fabricNak => exact fabricNak_writes he
  | safeRestartTimeout => exact safeRestartTimeout_writes he
  | safeEntriesExpire => exact safeEntriesExpire_writes he
  | ledgerMirror => exact ledgerMirror_writes he
  | ledgerMirrorDone => exact ledgerMirrorDone_writes he
  | ledgerBandCopy => exact ledgerBandCopy_writes he
  | linkTrainingDone => exact linkTrainingDone_writes he
  | tapInstruction => exact tapInstruction_writes he
  | dynamicAddressAssignment => exact dynamicAddressAssignment_writes he
  | preampFaultRelease => exact preampFaultRelease_writes he
  | bolhobaUnknownOpcode => exact bolhobaUnknownOpcode_writes he
  | cqHeadDoorbell => exact cqHeadDoorbell_writes he
  | fabricAck => exact fabricAck_writes he
  | supersededPageProgrammed => exact supersededPageProgrammed_writes he
  | reservationStateWritten => exact reservationStateWritten_writes he
  | _ => exact fun _ unwritten => absurd trivial unwritten

/-- A step of the queue keeps the canonical form, and so does a tick. -/
theorem step_wf {s t : State} (h : s.wf = true) (he : step s = .next t) : t.wf = true := by
  unfold step at he
  split at he
  · next c r hq =>
    have hrest : ({ s with pending := r } : State).wf = true := h
    simpa [he] using exec_wf c hrest
  · cases he
    exact timePasses_wf s h

theorem pending_not_touched (c : Instr) : Part.pending ∉ touches c := by
  cases c <;> exact of_decide_eq_false rfl

/-- Settles O4: a step runs one command or lets a tick pass, and each of these keeps the canonical form. -/
theorem stepKeepsCanonicalForm : Obligations.StepKeepsCanonicalForm := fun _ _ => step_wf

/-- Settles O6: from the list of each command, on which the queue never stands. -/
theorem commandsTouchOnlyTheirParts : Obligations.CommandsTouchOnlyTheirParts := by
  intro c s t he
  have hsame : SameBut (touches c) s t := exec_touches he
  refine ⟨hsame, fun hmem => ?_, hsame .pending (pending_not_touched c)⟩
  have hmemory : t.mem = s.mem := hsame .mem hmem
  simp [MemoryKept, hmemory]

/-- Settles O7, from the list of each command. -/
theorem commandsWriteOnlyTheirObjects : Obligations.CommandsWriteOnlyTheirObjects := fun _ _ _ => exec_writes

end Sys2Proof.Machine
end

section
/-!
PROOFS. Every command answers a next state (`IsNext`): one lemma per command whose meaning branches, and the table of commands.
-/

namespace Sys2Proof.Machine

/-- The outcome is a next state. -/
def IsNext (o : Host.Outcome State Fault Refusal) : Prop := ∃ t, o = .next t

theorem isNext_next (t : State) : IsNext (.next t) := ⟨t, rfl⟩

theorem isNext_ite {p : Prop} [Decidable p] {a b : Host.Outcome State Fault Refusal} (ha : IsNext a) (hb : IsNext b) :
    IsNext (if p then a else b) := by
  split <;> assumption

theorem execPowerGood_isNext (s : State) : IsNext (execPowerGood s) := by
  unfold execPowerGood
  split <;> exact isNext_next _

theorem execFeedLost_isNext (f : Feed) (why : FeedLoss) (s : State) : IsNext (execFeedLost f why s) := by
  unfold execFeedLost
  dsimp only
  repeat' split
  all_goals exact isNext_next _

theorem execRailsOff_isNext (s : State) : IsNext (execRailsOff s) := by
  unfold execRailsOff
  repeat' split
  all_goals exact isNext_next _

theorem execRailsUp_isNext (s : State) : IsNext (execRailsUp s) := by
  unfold execRailsUp
  split <;> exact isNext_next _

theorem execPwrdisAssert_isNext (s : State) : IsNext (execPwrdisAssert s) := by
  unfold execPwrdisAssert
  dsimp only
  split <;> exact isNext_next _

theorem execVmCollapse_isNext (s : State) : IsNext (execVmCollapse s) := by
  unfold execVmCollapse
  split <;> exact isNext_next _

theorem execV3p3Overcurrent_isNext (a : Fin 4) (s : State) : IsNext (execV3p3Overcurrent a s) := by
  unfold execV3p3Overcurrent
  split <;> exact isNext_next _

theorem execThrottleEnter_isNext (tj : ℤ) (s : State) : IsNext (execThrottleEnter tj s) := by
  unfold execThrottleEnter
  dsimp only
  split <;> exact isNext_next _

theorem execThrottleExit_isNext (tj : ℤ) (s : State) : IsNext (execThrottleExit tj s) := by
  unfold execThrottleExit
  dsimp only
  split <;> exact isNext_next _

theorem execThermalShutdown_isNext (tj : ℤ) (s : State) : IsNext (execThermalShutdown tj s) := by
  unfold execThermalShutdown
  split <;> exact isNext_next _

theorem execVcoreSteer_isNext (minPercent : ℕ) (s : State) : IsNext (execVcoreSteer minPercent s) := by
  unfold execVcoreSteer
  repeat' split
  all_goals exact isNext_next _

theorem execWriteFifoEmpty_isNext (a : Fin 4) (s : State) : IsNext (execWriteFifoEmpty a s) := by
  unfold execWriteFifoEmpty
  dsimp only
  split <;> exact isNext_next _

theorem execGateEntryExecute_isNext (p : Fin 8) (t : ℕ) (adc : List AdcRow) (s : State) : IsNext (execGateEntryExecute p t adc s) := by
  unfold execGateEntryExecute
  dsimp only
  repeat' split
  all_goals exact isNext_next _

theorem execDictionaryGet_isNext (slot : ℕ) (s : State) : IsNext (execDictionaryGet slot s) := by
  unfold execDictionaryGet
  repeat' split
  all_goals exact isNext_next _

theorem execDictionarySet_isNext (slot : ℕ) (data : List Byte) (s : State) : IsNext (execDictionarySet slot data s) := by
  unfold execDictionarySet
  dsimp only
  repeat' split
  all_goals exact isNext_next _

theorem execDictionarySetList_isNext (slot : ℕ) (data : List Byte) (s : State) : IsNext (execDictionarySetList slot data s) := by
  unfold execDictionarySetList
  dsimp only
  repeat' split
  all_goals exact isNext_next _

theorem execDictionaryBlockRead_isNext (slot : ℕ) (s : State) : IsNext (execDictionaryBlockRead slot s) := by
  unfold execDictionaryBlockRead
  repeat' split
  all_goals exact isNext_next _

theorem execDictionaryListRead_isNext (slot : ℕ) (s : State) : IsNext (execDictionaryListRead slot s) := by
  unfold execDictionaryListRead
  repeat' split
  all_goals exact isNext_next _

theorem execBolhobaGet_isNext (h : BolhobaHeader) (s : State) : IsNext (execBolhobaGet h s) := by
  unfold execBolhobaGet
  split <;> exact isNext_next _

theorem execBolhobaSet_isNext (h : BolhobaHeader) (typ : ℕ) (len : ℕ) (value : List Byte) (s : State) : IsNext (execBolhobaSet h typ len value s) := by
  unfold execBolhobaSet
  split <;> exact isNext_next _

theorem execBolhobaListGet_isNext (h : BolhobaHeader) (keys : List (ℕ × ℕ)) (s : State) : IsNext (execBolhobaListGet h keys s) := by
  unfold execBolhobaListGet
  repeat' split
  all_goals exact isNext_next _

theorem execBolhobaListSet_isNext (h : BolhobaHeader) (entries : List ListEntry) (s : State) : IsNext (execBolhobaListSet h entries s) := by
  unfold execBolhobaListSet
  repeat' split
  all_goals exact isNext_next _

theorem execBolhobaBlockRead_isNext (h : BolhobaHeader) (offset : ℕ) (len : ℕ) (s : State) : IsNext (execBolhobaBlockRead h offset len s) := by
  unfold execBolhobaBlockRead
  repeat' split
  all_goals exact isNext_next _

theorem execBolhobaBlockWrite_isNext (h : BolhobaHeader) (offset : ℕ) (last : Bool) (data : List Byte) (s : State) : IsNext (execBolhobaBlockWrite h offset last data s) := by
  unfold execBolhobaBlockWrite
  repeat' split
  all_goals exact isNext_next _

theorem execMbTransferDone_isNext (core : Fin 9) (s : State) : IsNext (execMbTransferDone core s) := by
  unfold execMbTransferDone
  repeat' split
  all_goals exact isNext_next _

theorem execStoreCommit_isNext (programmed : Bool) (s : State) : IsNext (execStoreCommit programmed s) := by
  unfold execStoreCommit
  split <;> exact isNext_next _

theorem execUnitDisable_isNext (who : Requester) (index : ℕ) (s : State) : IsNext (execUnitDisable who index s) := by
  unfold execUnitDisable
  split <;> exact isNext_next _

theorem execUnitEnable_isNext (who : Requester) (index : ℕ) (selfCheck : Bool) (s : State) : IsNext (execUnitEnable who index selfCheck s) := by
  unfold execUnitEnable
  split <;> exact isNext_next _

theorem execAttemptBegin_isNext (cause : AttemptCause) (s : State) : IsNext (execAttemptBegin cause s) := by
  unfold execAttemptBegin
  dsimp only
  repeat' split
  all_goals exact isNext_next _

theorem execStartStepEnd_isNext (result : StepEnd) (found : StepFindings) (s : State) : IsNext (execStartStepEnd result found s) := by
  unfold execStartStepEnd
  repeat' split
  all_goals exact isNext_next _

theorem execStepWatchdog_isNext (found : StepFindings) (s : State) : IsNext (execStepWatchdog found s) := by
  unfold execStepWatchdog
  split <;> exact isNext_next _

theorem execStartDeadline_isNext (s : State) : IsNext (execStartDeadline s) := by
  unfold execStartDeadline
  repeat' split
  all_goals exact isNext_next _

theorem execFirmwareImageDownload_isNext (slot : ℕ) (piece : Bytes) (s : State) : IsNext (execFirmwareImageDownload slot piece s) := by
  unfold execFirmwareImageDownload
  dsimp only
  repeat' split
  all_goals exact isNext_next _

theorem execFirmwareCommitReplace_isNext (slot : ℕ) (s : State) : IsNext (execFirmwareCommitReplace slot s) := by
  unfold execFirmwareCommitReplace
  split <;> exact isNext_next _

theorem execFirmwareCommitReplaceActivate_isNext (slot : ℕ) (s : State) : IsNext (execFirmwareCommitReplaceActivate slot s) := by
  unfold execFirmwareCommitReplaceActivate
  split <;> exact isNext_next _

theorem execFirmwareCommitActivate_isNext (slot : ℕ) (s : State) : IsNext (execFirmwareCommitActivate slot s) := by
  unfold execFirmwareCommitActivate
  repeat' split
  all_goals exact isNext_next _

theorem execFirmwareCommitActivateNow_isNext (slot : ℕ) (s : State) : IsNext (execFirmwareCommitActivateNow slot s) := by
  unfold execFirmwareCommitActivateNow
  repeat' split
  all_goals exact isNext_next _

theorem execFirmwareCommitInvalidAction_isNext (slot : ℕ) (s : State) : IsNext (execFirmwareCommitInvalidAction slot s) := by
  unfold execFirmwareCommitInvalidAction
  split <;> exact isNext_next _

theorem execFirmwareCommitDone_isNext (s : State) : IsNext (execFirmwareCommitDone s) := by
  unfold execFirmwareCommitDone
  repeat' split
  all_goals exact isNext_next _

theorem execActivationStaged_isNext (s : State) : IsNext (execActivationStaged s) := by
  unfold execActivationStaged
  repeat' split
  all_goals exact isNext_next _

theorem execActivationFreezeEnd_isNext (freezeUs : ℕ) (s : State) : IsNext (execActivationFreezeEnd freezeUs s) := by
  unfold execActivationFreezeEnd
  repeat' split
  all_goals exact isNext_next _

theorem execActivationBankSwitch_isNext (s : State) : IsNext (execActivationBankSwitch s) := by
  unfold execActivationBankSwitch
  dsimp only
  repeat' split
  all_goals exact isNext_next _

theorem execBundleWriteDone_isNext (s : State) : IsNext (execBundleWriteDone s) := by
  unfold execBundleWriteDone
  split <;> exact isNext_next _

theorem execLifecycleNonceRead_isNext (who : Requester) (s : State) : IsNext (execLifecycleNonceRead who s) := by
  unfold execLifecycleNonceRead
  split <;> exact isNext_next _

theorem execSanitize_isNext (slot : ℕ) (action : SanitizeAction) (s : State) : IsNext (execSanitize slot action s) := by
  unfold execSanitize
  dsimp only
  repeat' split
  all_goals exact isNext_next _

theorem execFormatNvm_isNext (slot : ℕ) (s : State) : IsNext (execFormatNvm slot s) := by
  unfold execFormatNvm
  dsimp only
  repeat' split
  all_goals exact isNext_next _

theorem execGrownEntryCommit_isNext (surface : Fin 48) (entry : List Byte) (s : State) : IsNext (execGrownEntryCommit surface entry s) := by
  unfold execGrownEntryCommit
  dsimp only
  repeat' split
  all_goals exact isNext_next _

theorem execHolderMoveDone_isNext (holder : Fin 2) (surface : Fin 48) (s : State) : IsNext (execHolderMoveDone holder surface s) := by
  unfold execHolderMoveDone
  split <;> exact isNext_next _

theorem execServoSync_isNext (a : Fin 4) (wedge : ℕ) (track : ℕ) (pes : ℤ) (s : State) : IsNext (execServoSync a wedge track pes s) := by
  unfold execServoSync
  exact isNext_next _

theorem execServoSyncTimeout_isNext (a : Fin 4) (s : State) : IsNext (execServoSyncTimeout a s) := by
  unfold execServoSyncTimeout
  dsimp only
  split <;> exact isNext_next _

theorem execSynthUnlock_isNext (a : Fin 4) (s : State) : IsNext (execSynthUnlock a s) := by
  unfold execSynthUnlock
  dsimp only
  split <;> exact isNext_next _

theorem execThermalAsperity_isNext (a : Fin 4) (adc : List AdcRow) (s : State) : IsNext (execThermalAsperity a adc s) := by
  unfold execThermalAsperity
  dsimp only
  split <;> exact isNext_next _

theorem execDropDetect_isNext (a : Fin 4) (adc : List AdcRow) (s : State) : IsNext (execDropDetect a adc s) := by
  unfold execDropDetect
  dsimp only
  split <;> exact isNext_next _

theorem execFreezeHangoverEnd_isNext (a : Fin 4) (adc : List AdcRow) (s : State) : IsNext (execFreezeHangoverEnd a adc s) := by
  unfold execFreezeHangoverEnd
  dsimp only
  split <;> exact isNext_next _

theorem execLongFreeze_isNext (a : Fin 4) (adc : List AdcRow) (s : State) : IsNext (execLongFreeze a adc s) := by
  unfold execLongFreeze
  dsimp only
  repeat' split
  all_goals exact isNext_next _

theorem execSyncWindowEnd_isNext (p : Fin 8) (first : Bool) (adc : List AdcRow) (s : State) : IsNext (execSyncWindowEnd p first adc s) := by
  unfold execSyncWindowEnd
  dsimp only
  split <;> exact isNext_next _

theorem execCaptureEnd_isNext (p : Fin 8) (adc : List AdcRow) (s : State) : IsNext (execCaptureEnd p adc s) := by
  unfold execCaptureEnd
  dsimp only
  repeat' split
  all_goals exact isNext_next _

theorem execPreampFaultAssert_isNext (a : Fin 4) (s : State) : IsNext (execPreampFaultAssert a s) := by
  unfold execPreampFaultAssert
  dsimp only
  split <;> exact isNext_next _

theorem execPreampFaultPersist_isNext (a : Fin 4) (s : State) : IsNext (execPreampFaultPersist a s) := by
  unfold execPreampFaultPersist
  split <;> exact isNext_next _

theorem execPreampFrameDone_isNext (a : Fin 4) (readback : ℕ) (parityOk : Bool) (s : State) : IsNext (execPreampFrameDone a readback parityOk s) := by
  unfold execPreampFrameDone
  dsimp only
  split <;> exact isNext_next _

theorem execWritePayloadPoisoned_isNext (p : Fin 8) (entry : ℕ) (s : State) : IsNext (execWritePayloadPoisoned p entry s) := by
  unfold execWritePayloadPoisoned
  dsimp only
  repeat' split
  all_goals exact isNext_next _

theorem execDecodeDeadline_isNext (job : ℕ) (s : State) : IsNext (execDecodeDeadline job s) := by
  unfold execDecodeDeadline
  repeat' split
  all_goals exact isNext_next _

theorem execHoldCopyDone_isNext (a : Fin 4) (hold : ℕ) (s : State) : IsNext (execHoldCopyDone a hold s) := by
  unfold execHoldCopyDone
  repeat' split
  all_goals exact isNext_next _

theorem execRingTailWrite_isNext (core : Fin 9) (value : ℕ) (s : State) : IsNext (execRingTailWrite core value s) := by
  unfold execRingTailWrite
  split <;> exact isNext_next _

theorem execLadderDeep_isNext (ring : Fin 4) (s : State) : IsNext (execLadderDeep ring s) := by
  unfold execLadderDeep
  repeat' split
  all_goals exact isNext_next _

theorem execLadderAverage_isNext (ring : Fin 4) (s : State) : IsNext (execLadderAverage ring s) := by
  unfold execLadderAverage
  repeat' split
  all_goals exact isNext_next _

theorem execLadderReleaseHold_isNext (ring : Fin 4) (s : State) : IsNext (execLadderReleaseHold ring s) := by
  unfold execLadderReleaseHold
  repeat' split
  all_goals exact isNext_next _

theorem execLadderRequestEnd_isNext (job : ℕ) (s : State) : IsNext (execLadderRequestEnd job s) := by
  unfold execLadderRequestEnd
  repeat' split
  all_goals exact isNext_next _

theorem execLadderStepAdvance_isNext (surface : Fin 48) (track : ℕ) (psector : ℕ) (top : ℕ) (status : ℕ) (outcome : StepOutcome) (s : State) : IsNext (execLadderStepAdvance surface track psector top status outcome s) := by
  unfold execLadderStepAdvance
  dsimp only
  repeat' split
  all_goals exact isNext_next _

theorem execSentenceFetchDone_isNext (p : Fin 8) (s : State) : IsNext (execSentenceFetchDone p s) := by
  unfold execSentenceFetchDone
  dsimp only
  repeat' split
  all_goals exact isNext_next _

theorem execSentenceUnderrun_isNext (p : Fin 8) (s : State) : IsNext (execSentenceUnderrun p s) := by
  unfold execSentenceUnderrun
  dsimp only
  split <;> exact isNext_next _

theorem execClauseBad_isNext (p : Fin 8) (why : BadClause) (s : State) : IsNext (execClauseBad p why s) := by
  unfold execClauseBad
  dsimp only
  repeat' split
  all_goals exact isNext_next _

theorem execClauseTimeEnd_isNext (p : Fin 8) (s : State) : IsNext (execClauseTimeEnd p s) := by
  unfold execClauseTimeEnd
  repeat' split
  all_goals exact isNext_next _

theorem execClauseWaitMet_isNext (p : Fin 8) (wedge : ℕ) (t : ℕ) (s : State) : IsNext (execClauseWaitMet p wedge t s) := by
  unfold execClauseWaitMet
  dsimp only
  repeat' split
  all_goals exact isNext_next _

theorem execClauseWaitTimeout_isNext (p : Fin 8) (s : State) : IsNext (execClauseWaitTimeout p s) := by
  unfold execClauseWaitTimeout
  dsimp only
  repeat' split
  all_goals exact isNext_next _

theorem execPlayerStallEnd_isNext (p : Fin 8) (s : State) : IsNext (execPlayerStallEnd p s) := by
  unfold execPlayerStallEnd
  dsimp only
  split <;> exact isNext_next _

theorem execWindowEndReached_isNext (p : Fin 8) (s : State) : IsNext (execWindowEndReached p s) := by
  unfold execWindowEndReached
  dsimp only
  split <;> exact isNext_next _

theorem execPlayerMemoryFault_isNext (p : Fin 8) (store : Bool) (s : State) : IsNext (execPlayerMemoryFault p store s) := by
  unfold execPlayerMemoryFault
  dsimp only
  split <;> exact isNext_next _

theorem execSentenceEnd_isNext (p : Fin 8) (s : State) : IsNext (execSentenceEnd p s) := by
  unfold execSentenceEnd
  dsimp only
  split <;> exact isNext_next _

theorem execSentenceRecordWrite_isNext (p : Fin 8) (s : State) : IsNext (execSentenceRecordWrite p s) := by
  unfold execSentenceRecordWrite
  dsimp only
  split <;> exact isNext_next _

theorem execOuterTrigger_isNext (a : Fin 4) (s : State) : IsNext (execOuterTrigger a s) := by
  unfold execOuterTrigger
  split <;> exact isNext_next _

theorem execReinDone_isNext (e : Fin 16) (s : State) : IsNext (execReinDone e s) := by
  unfold execReinDone
  repeat' split
  all_goals exact isNext_next _

theorem execReinProgramFault_isNext (e : Fin 16) (s : State) : IsNext (execReinProgramFault e s) := by
  unfold execReinProgramFault
  split <;> exact isNext_next _

theorem execReinBudgetStop_isNext (e : Fin 16) (s : State) : IsNext (execReinBudgetStop e s) := by
  unfold execReinBudgetStop
  repeat' split
  all_goals exact isNext_next _

theorem execReinCompare_isNext (g : Fin 5) (entry : Fin 3) (s : State) : IsNext (execReinCompare g entry s) := by
  unfold execReinCompare
  dsimp only
  repeat' split
  all_goals exact isNext_next _

theorem execPairHoldRerunEnd_isNext (g : Fin 5) (s : State) : IsNext (execPairHoldRerunEnd g s) := by
  unfold execPairHoldRerunEnd
  dsimp only
  repeat' split
  all_goals exact isNext_next _

theorem execReinLatch_isNext (g : Fin 5) (entry : Fin 3) (s : State) : IsNext (execReinLatch g entry s) := by
  unfold execReinLatch
  dsimp only
  split <;> exact isNext_next _

theorem execEngineReloadDone_isNext (e : Fin 16) (s : State) : IsNext (execEngineReloadDone e s) := by
  unfold execEngineReloadDone
  split <;> exact isNext_next _

theorem execSnapshotCopyDone_isNext (e : Fin 16) (s : State) : IsNext (execSnapshotCopyDone e s) := by
  unfold execSnapshotCopyDone
  dsimp only
  repeat' split
  all_goals exact isNext_next _

theorem execProbationEnd_isNext (e : Fin 16) (s : State) : IsNext (execProbationEnd e s) := by
  unfold execProbationEnd
  dsimp only
  split <;> exact isNext_next _

theorem execReinMemoryFault_isNext (e : Fin 16) (s : State) : IsNext (execReinMemoryFault e s) := by
  unfold execReinMemoryFault
  exact isNext_next _

theorem execHeartbeat_isNext (count : ℕ) (s : State) : IsNext (execHeartbeat count s) := by
  unfold execHeartbeat
  dsimp only
  split <;> exact isNext_next _

theorem execHeartbeatLoss_isNext (s : State) : IsNext (execHeartbeatLoss s) := by
  unfold execHeartbeatLoss
  split <;> exact isNext_next _

theorem execLinkResend_isNext (mainToMotion : Bool) (s : State) : IsNext (execLinkResend mainToMotion s) := by
  unfold execLinkResend
  dsimp only
  repeat' split
  all_goals exact isNext_next _

theorem execVcmCmd_isNext (a : Fin 4) (ua : ℤ) (mv : ℤ) (s : State) : IsNext (execVcmCmd a ua mv s) := by
  unfold execVcmCmd
  dsimp only
  split <;> exact isNext_next _

theorem execSpinCmd_isNext (ua : ℤ) (s : State) : IsNext (execSpinCmd ua s) := by
  unfold execSpinCmd
  exact isNext_next _

theorem execDriveMsg_isNext (cmd : DriveCmd) (s : State) : IsNext (execDriveMsg cmd s) := by
  unfold execDriveMsg
  split <;> exact isNext_next _

theorem execLinkObject_isNext (who : Requester) (index : ℕ) (sub : ℕ) (write : Option (List Byte)) (s : State) : IsNext (execLinkObject who index sub write s) := by
  unfold execLinkObject
  dsimp only
  repeat' split
  all_goals exact isNext_next _

theorem execSenseMsg_isNext (a : Fin 4) (ua : ℤ) (mv : ℤ) (s : State) : IsNext (execSenseMsg a ua mv s) := by
  unfold execSenseMsg
  dsimp only
  split <;> exact isNext_next _

theorem execZeroCross_isNext (phase : ℕ) (interval : ℕ) (s : State) : IsNext (execZeroCross phase interval s) := by
  unfold execZeroCross
  dsimp only
  repeat' split
  all_goals exact isNext_next _

theorem execSpindleDriverFault_isNext (s : State) : IsNext (execSpindleDriverFault s) := by
  unfold execSpindleDriverFault
  split <;> exact isNext_next _

theorem execSpinAlignEnd_isNext (s : State) : IsNext (execSpinAlignEnd s) := by
  unfold execSpinAlignEnd
  split <;> exact isNext_next _

theorem execSpinRampEnd_isNext (handover : Bool) (s : State) : IsNext (execSpinRampEnd handover s) := by
  unfold execSpinRampEnd
  repeat' split
  all_goals exact isNext_next _

theorem execSpindleStandstill_isNext (s : State) : IsNext (execSpindleStandstill s) := by
  unfold execSpindleStandstill
  split <;> exact isNext_next _

theorem execVcmOvercurrent_isNext (a : Fin 4) (s : State) : IsNext (execVcmOvercurrent a s) := by
  unfold execVcmOvercurrent
  dsimp only
  split <;> exact isNext_next _

theorem execMaOvercurrent_isNext (a : Fin 4) (s : State) : IsNext (execMaOvercurrent a s) := by
  unfold execMaOvercurrent
  dsimp only
  split <;> exact isNext_next _

theorem execHeadLoadTimeout_isNext (a : Fin 4) (s : State) : IsNext (execHeadLoadTimeout a s) := by
  unfold execHeadLoadTimeout
  dsimp only
  split <;> exact isNext_next _

theorem execRampContact_isNext (a : Fin 4) (s : State) : IsNext (execRampContact a s) := by
  unfold execRampContact
  split <;> exact isNext_next _

theorem execRetractParked_isNext (a : Fin 4) (ms : ℕ) (s : State) : IsNext (execRetractParked a ms s) := by
  unfold execRetractParked
  split <;> exact isNext_next _

theorem execRetractTimeout_isNext (a : Fin 4) (s : State) : IsNext (execRetractTimeout a s) := by
  unfold execRetractTimeout
  split <;> exact isNext_next _

theorem execDumpSealed_isNext (holdupMj : ℕ) (vmMin : ℕ) (s : State) : IsNext (execDumpSealed holdupMj vmMin s) := by
  unfold execDumpSealed
  split <;> exact isNext_next _

theorem execGirthSeek_isNext (h : GirthHeader) (startTick : ℕ) (profile : ℕ) (act : Fin 4) (d : ℤ) (profileSet : ℕ) (s : State) : IsNext (execGirthSeek h startTick profile act d profileSet s) := by
  unfold execGirthSeek
  exact isNext_next _

theorem execGirthHealth_isNext (h : GirthHeader) (payload : List Byte) (s : State) : IsNext (execGirthHealth h payload s) := by
  unfold execGirthHealth
  exact isNext_next _

theorem execGirthUnknownType_isNext (h : GirthHeader) (typ : ℕ) (payload : ℕ) (s : State) : IsNext (execGirthUnknownType h typ payload s) := by
  unfold execGirthUnknownType
  split <;> exact isNext_next _

theorem execSyncPeriod_isNext (s : State) : IsNext (execSyncPeriod s) := by
  unfold execSyncPeriod
  split <;> exact isNext_next _

theorem execPhasePeriod_isNext (s : State) : IsNext (execPhasePeriod s) := by
  unfold execPhasePeriod
  split <;> exact isNext_next _

theorem execHealthDeferred_isNext (s : State) : IsNext (execHealthDeferred s) := by
  unfold execHealthDeferred
  split <;> exact isNext_next _

theorem execMasterLoss_isNext (s : State) : IsNext (execMasterLoss s) := by
  unfold execMasterLoss
  dsimp only
  repeat' split
  all_goals exact isNext_next _

theorem execCandidateWaitEnd_isNext (s : State) : IsNext (execCandidateWaitEnd s) := by
  unfold execCandidateWaitEnd
  split <;> exact isNext_next _

theorem execJoinListenTimeout_isNext (_noSymbol : Bool) (s : State) : IsNext (execJoinListenTimeout _noSymbol s) := by
  unfold execJoinListenTimeout
  split <;> exact isNext_next _

theorem execSeekCancel_isNext (a : Fin 4) (s : State) : IsNext (execSeekCancel a s) := by
  unfold execSeekCancel
  dsimp only
  repeat' split
  all_goals exact isNext_next _

theorem execAnnouncementEnd_isNext (id : ℕ) (s : State) : IsNext (execAnnouncementEnd id s) := by
  unfold execAnnouncementEnd
  split <;> exact isNext_next _

theorem execDictRequestTimeout_isNext (s : State) : IsNext (execDictRequestTimeout s) := by
  unfold execDictRequestTimeout
  split <;> exact isNext_next _

theorem execSqDoorbell_isNext (p : Port) (qid : ℕ) (tail : ℕ) (s : State) : IsNext (execSqDoorbell p qid tail s) := by
  unfold execSqDoorbell
  repeat' split
  all_goals exact isNext_next _

theorem execCreateIoSq_isNext (slot : ℕ) (s : State) : IsNext (execCreateIoSq slot s) := by
  unfold execCreateIoSq
  dsimp only
  repeat' split
  all_goals exact isNext_next _

theorem execCreateIoCq_isNext (slot : ℕ) (s : State) : IsNext (execCreateIoCq slot s) := by
  unfold execCreateIoCq
  dsimp only
  repeat' split
  all_goals exact isNext_next _

theorem execDeleteIoSq_isNext (slot : ℕ) (s : State) : IsNext (execDeleteIoSq slot s) := by
  unfold execDeleteIoSq
  dsimp only
  repeat' split
  all_goals exact isNext_next _

theorem execDeleteIoCq_isNext (slot : ℕ) (s : State) : IsNext (execDeleteIoCq slot s) := by
  unfold execDeleteIoCq
  dsimp only
  repeat' split
  all_goals exact isNext_next _

theorem execGetLogPage_isNext (slot : ℕ) (s : State) : IsNext (execGetLogPage slot s) := by
  unfold execGetLogPage
  dsimp only
  repeat' split
  all_goals exact isNext_next _

theorem execIdentify_isNext (slot : ℕ) (s : State) : IsNext (execIdentify slot s) := by
  unfold execIdentify
  repeat' split
  all_goals exact isNext_next _

theorem execNvmeAbort_isNext (slot : ℕ) (s : State) : IsNext (execNvmeAbort slot s) := by
  unfold execNvmeAbort
  dsimp only
  repeat' split
  all_goals exact isNext_next _

theorem execSetFeatures_isNext (slot : ℕ) (s : State) : IsNext (execSetFeatures slot s) := by
  unfold execSetFeatures
  split <;> exact isNext_next _

theorem execSetFeaturesPowerManagement_isNext (slot : ℕ) (s : State) : IsNext (execSetFeaturesPowerManagement slot s) := by
  unfold execSetFeaturesPowerManagement
  repeat' split
  all_goals exact isNext_next _

theorem execSetFeaturesErrorRecovery_isNext (slot : ℕ) (s : State) : IsNext (execSetFeaturesErrorRecovery slot s) := by
  unfold execSetFeaturesErrorRecovery
  repeat' split
  all_goals exact isNext_next _

theorem execSetFeaturesVwc_isNext (slot : ℕ) (s : State) : IsNext (execSetFeaturesVwc slot s) := by
  unfold execSetFeaturesVwc
  repeat' split
  all_goals exact isNext_next _

theorem execGetFeatures_isNext (slot : ℕ) (s : State) : IsNext (execGetFeatures slot s) := by
  unfold execGetFeatures
  repeat' split
  all_goals exact isNext_next _

theorem execNamespaceCreate_isNext (slot : ℕ) (nsze : ℕ) (lbaFormat : ℕ) (s : State) : IsNext (execNamespaceCreate slot nsze lbaFormat s) := by
  unfold execNamespaceCreate
  dsimp only
  repeat' split
  all_goals exact isNext_next _

theorem execNamespaceDelete_isNext (slot : ℕ) (s : State) : IsNext (execNamespaceDelete slot s) := by
  unfold execNamespaceDelete
  repeat' split
  all_goals exact isNext_next _

theorem execNamespaceAttachment_isNext (slot : ℕ) (controllers : List Port) (s : State) : IsNext (execNamespaceAttachment slot controllers s) := by
  unfold execNamespaceAttachment
  dsimp only
  repeat' split
  all_goals exact isNext_next _

theorem execSecuritySend_isNext (slot : ℕ) (data : Bytes) (s : State) : IsNext (execSecuritySend slot data s) := by
  unfold execSecuritySend
  repeat' split
  all_goals exact isNext_next _

theorem execSecurityReceive_isNext (slot : ℕ) (s : State) : IsNext (execSecurityReceive slot s) := by
  unfold execSecurityReceive
  dsimp only
  repeat' split
  all_goals exact isNext_next _

theorem execGetLbaStatus_isNext (slot : ℕ) (s : State) : IsNext (execGetLbaStatus slot s) := by
  unfold execGetLbaStatus
  dsimp only
  repeat' split
  all_goals exact isNext_next _

theorem execNvmeFlush_isNext (slot : ℕ) (s : State) : IsNext (execNvmeFlush slot s) := by
  unfold execNvmeFlush
  repeat' split
  all_goals exact isNext_next _

theorem execNvmeWrite_isNext (slot : ℕ) (blocks : List HostBlock) (s : State) : IsNext (execNvmeWrite slot blocks s) := by
  unfold execNvmeWrite
  repeat' split
  all_goals exact isNext_next _

theorem execNvmeRead_isNext (slot : ℕ) (media : List MediaBlock) (s : State) : IsNext (execNvmeRead slot media s) := by
  unfold execNvmeRead
  dsimp only
  repeat' split
  all_goals exact isNext_next _

theorem execWriteZeroes_isNext (slot : ℕ) (s : State) : IsNext (execWriteZeroes slot s) := by
  unfold execWriteZeroes
  repeat' split
  all_goals exact isNext_next _

theorem execDatasetManagement_isNext (slot : ℕ) (s : State) : IsNext (execDatasetManagement slot s) := by
  unfold execDatasetManagement
  repeat' split
  all_goals exact isNext_next _

theorem execNvmeVerify_isNext (slot : ℕ) (media : List MediaBlock) (s : State) : IsNext (execNvmeVerify slot media s) := by
  unfold execNvmeVerify
  repeat' split
  all_goals exact isNext_next _

theorem execReservationRegister_isNext (slot : ℕ) (crkey : ℕ) (nrkey : ℕ) (s : State) : IsNext (execReservationRegister slot crkey nrkey s) := by
  unfold execReservationRegister
  dsimp only
  repeat' split
  all_goals exact isNext_next _

theorem execReservationReport_isNext (slot : ℕ) (s : State) : IsNext (execReservationReport slot s) := by
  unfold execReservationReport
  repeat' split
  all_goals exact isNext_next _

theorem execReservationAcquire_isNext (slot : ℕ) (crkey : ℕ) (prkey : ℕ) (s : State) : IsNext (execReservationAcquire slot crkey prkey s) := by
  unfold execReservationAcquire
  repeat' split
  all_goals exact isNext_next _

theorem execReservationPreemptAndAbort_isNext (slot : ℕ) (crkey : ℕ) (prkey : ℕ) (s : State) : IsNext (execReservationPreemptAndAbort slot crkey prkey s) := by
  unfold execReservationPreemptAndAbort
  repeat' split
  all_goals exact isNext_next _

theorem execReservationRelease_isNext (slot : ℕ) (crkey : ℕ) (s : State) : IsNext (execReservationRelease slot crkey s) := by
  unfold execReservationRelease
  split <;> exact isNext_next _

theorem execInvalidOpcode_isNext (slot : ℕ) (s : State) : IsNext (execInvalidOpcode slot s) := by
  unfold execInvalidOpcode
  repeat' split
  all_goals exact isNext_next _

theorem execWriteCached_isNext (slot : ℕ) (s : State) : IsNext (execWriteCached slot s) := by
  unfold execWriteCached
  repeat' split
  all_goals exact isNext_next _

theorem execReadTransferred_isNext (slot : ℕ) (s : State) : IsNext (execReadTransferred slot s) := by
  unfold execReadTransferred
  repeat' split
  all_goals exact isNext_next _

theorem execCcEnClear_isNext (p : Port) (s : State) : IsNext (execCcEnClear p s) := by
  unfold execCcEnClear
  split <;> exact isNext_next _

theorem execCcEnSet_isNext (p : Port) (s : State) : IsNext (execCcEnSet p s) := by
  unfold execCcEnSet
  split <;> exact isNext_next _

theorem execNvmSubsystemReset_isNext (s : State) : IsNext (execNvmSubsystemReset s) := by
  unfold execNvmSubsystemReset
  split <;> exact isNext_next _

theorem execShutdownNormal_isNext (p : Port) (s : State) : IsNext (execShutdownNormal p s) := by
  unfold execShutdownNormal
  split <;> exact isNext_next _

theorem execShutdownAbrupt_isNext (p : Port) (s : State) : IsNext (execShutdownAbrupt p s) := by
  unfold execShutdownAbrupt
  split <;> exact isNext_next _

theorem execPs3IdleTimeout_isNext (s : State) : IsNext (execPs3IdleTimeout s) := by
  unfold execPs3IdleTimeout
  split <;> exact isNext_next _

theorem execPowerStateSafePoint_isNext (s : State) : IsNext (execPowerStateSafePoint s) := by
  unfold execPowerStateSafePoint
  repeat' split
  all_goals exact isNext_next _

theorem execTlerExpire_isNext (slot : ℕ) (lba : ℕ) (s : State) : IsNext (execTlerExpire slot lba s) := by
  unfold execTlerExpire
  repeat' split
  all_goals exact isNext_next _

theorem execDestageUpdate_isNext (stripe : ℕ) (reads : List OffsetReads) (s : State) : IsNext (execDestageUpdate stripe reads s) := by
  unfold execDestageUpdate
  dsimp only
  repeat' split
  all_goals exact isNext_next _

theorem execStripeUpdateRetire_isNext (stripe : ℕ) (s : State) : IsNext (execStripeUpdateRetire stripe s) := by
  unfold execStripeUpdateRetire
  split <;> exact isNext_next _

theorem execMirrorRetry_isNext (page : ℕ) (ok : Bool) (s : State) : IsNext (execMirrorRetry page ok s) := by
  unfold execMirrorRetry
  split <;> exact isNext_next _

theorem execJournalReplay_isNext (seq : ℕ) (s : State) : IsNext (execJournalReplay seq s) := by
  unfold execJournalReplay
  dsimp only
  repeat' split
  all_goals exact isNext_next _

theorem execResyncGroup_isNext (group : ℕ) (reads : List (ℕ × OffsetReads)) (s : State) : IsNext (execResyncGroup group reads s) := by
  unfold execResyncGroup
  split <;> exact isNext_next _

theorem execRebuildStripe_isNext (stripe : ℕ) (reads : List OffsetReads) (s : State) : IsNext (execRebuildStripe stripe reads s) := by
  unfold execRebuildStripe
  dsimp only
  repeat' split
  all_goals exact isNext_next _

theorem execPatrolStripe_isNext (stripe : ℕ) (reads : List OffsetReads) (s : State) : IsNext (execPatrolStripe stripe reads s) := by
  unfold execPatrolStripe
  dsimp only
  repeat' split
  all_goals exact isNext_next _

theorem execReshapeGroupCopy_isNext (s : State) : IsNext (execReshapeGroupCopy s) := by
  unfold execReshapeGroupCopy
  dsimp only
  repeat' split
  all_goals exact isNext_next _

theorem execReshapeSwitch_isNext (s : State) : IsNext (execReshapeSwitch s) := by
  unfold execReshapeSwitch
  repeat' split
  all_goals exact isNext_next _

theorem execGrownDefectReadback_isNext (surface : Fin 48) (track : ℕ) (psector : ℕ) (converged : Bool) (taBoth : Bool) (freezeOffset : ℕ) (freezeLen : ℕ) (s : State) : IsNext (execGrownDefectReadback surface track psector converged taBoth freezeOffset freezeLen s) := by
  unfold execGrownDefectReadback
  dsimp only
  repeat' split
  all_goals exact isNext_next _

theorem execArbiterGrant_isNext (waiting : List Beat) (s : State) : IsNext (execArbiterGrant waiting s) := by
  unfold execArbiterGrant
  dsimp only
  repeat' split
  all_goals exact isNext_next _

theorem execPageSubstitutionDone_isNext (page : ℕ) (s : State) : IsNext (execPageSubstitutionDone page s) := by
  unfold execPageSubstitutionDone
  repeat' split
  all_goals exact isNext_next _

theorem execKeeperSlotErased_isNext (slot : Fin 6) (s : State) : IsNext (execKeeperSlotErased slot s) := by
  unfold execKeeperSlotErased
  dsimp only
  split <;> exact isNext_next _

theorem execCacheMaintDone_isNext (core : Fin 9) (s : State) : IsNext (execCacheMaintDone core s) := by
  unfold execCacheMaintDone
  repeat' split
  all_goals exact isNext_next _

theorem execCacheFillReturn_isNext (line : ℕ) (s : State) : IsNext (execCacheFillReturn line s) := by
  unfold execCacheFillReturn
  repeat' split
  all_goals exact isNext_next _

theorem execDmaDescriptorFetched_isNext (ch : Fin 8) (ok : Bool) (s : State) : IsNext (execDmaDescriptorFetched ch ok s) := by
  unfold execDmaDescriptorFetched
  dsimp only
  repeat' split
  all_goals exact isNext_next _

theorem execDmaBeatsAcknowledged_isNext (ch : Fin 8) (s : State) : IsNext (execDmaBeatsAcknowledged ch s) := by
  unfold execDmaBeatsAcknowledged
  split <;> exact isNext_next _

theorem execDmaReadbackDone_isNext (ch : Fin 8) (s : State) : IsNext (execDmaReadbackDone ch s) := by
  unfold execDmaReadbackDone
  dsimp only
  repeat' split
  all_goals exact isNext_next _

theorem execDmaBeatError_isNext (ch : Fin 8) (kind : BeatError) (doneBytes : ℕ) (indet : ℕ) (s : State) : IsNext (execDmaBeatError ch kind doneBytes indet s) := by
  unfold execDmaBeatError
  dsimp only
  split <;> exact isNext_next _

theorem execFabricNak_isNext (lane : Fin 32) (requester : Fin 28) (s : State) : IsNext (execFabricNak lane requester s) := by
  unfold execFabricNak
  dsimp only
  repeat' split
  all_goals exact isNext_next _

theorem execCollectorEvent_isNext (ev : Event) (s : State) : IsNext (execCollectorEvent ev s) := by
  unfold execCollectorEvent
  split <;> exact isNext_next _

theorem execUnitReadmit_isNext (source : ℕ) (s : State) : IsNext (execUnitReadmit source s) := by
  unfold execUnitReadmit
  split <;> exact isNext_next _

theorem execSafeRestartTimeout_isNext (s : State) : IsNext (execSafeRestartTimeout s) := by
  unfold execSafeRestartTimeout
  split <;> exact isNext_next _

theorem execCoreWatchdog_isNext (core : Fin 9) (s : State) : IsNext (execCoreWatchdog core s) := by
  unfold execCoreWatchdog
  split <;> exact isNext_next _

theorem execCollectorSelfFault_isNext (collector : Fin 9) (s : State) : IsNext (execCollectorSelfFault collector s) := by
  unfold execCollectorSelfFault
  repeat' split
  all_goals exact isNext_next _

theorem execLedgerMirror_isNext (s : State) : IsNext (execLedgerMirror s) := by
  unfold execLedgerMirror
  split <;> exact isNext_next _

theorem execLedgerMirrorDone_isNext (s : State) : IsNext (execLedgerMirrorDone s) := by
  unfold execLedgerMirrorDone
  split <;> exact isNext_next _

theorem execLedgerBandCopy_isNext (s : State) : IsNext (execLedgerBandCopy s) := by
  unfold execLedgerBandCopy
  split <;> exact isNext_next _

theorem execCoreMemoryAccess_isNext (core : Fin 9) (addr : ℕ) (width : ℕ) (access : CoreAccess) (ecc : EccOutcome) (s : State) : IsNext (execCoreMemoryAccess core addr width access ecc s) := by
  unfold execCoreMemoryAccess
  split <;> exact isNext_next _

theorem execLinkTrainingDone_isNext (p : Port) (speed : ℕ) (width : ℕ) (s : State) : IsNext (execLinkTrainingDone p speed width s) := by
  unfold execLinkTrainingDone
  split <;> exact isNext_next _

theorem execTapInstruction_isNext (i : TapInstr) (s : State) : IsNext (execTapInstruction i s) := by
  unfold execTapInstruction
  repeat' split
  all_goals exact isNext_next _

theorem execDynamicAddressAssignment_isNext (addr : ℕ) (s : State) : IsNext (execDynamicAddressAssignment addr s) := by
  unfold execDynamicAddressAssignment
  split <;> exact isNext_next _

theorem execBolhobaUnknownOpcode_isNext (h : BolhobaHeader) (pen : ℕ) (version : ℕ) (opcode : ℕ) (s : State) : IsNext (execBolhobaUnknownOpcode h pen version opcode s) := by
  unfold execBolhobaUnknownOpcode
  repeat' split
  all_goals exact isNext_next _

theorem execCqHeadDoorbell_isNext (p : Port) (qid : ℕ) (head : ℕ) (s : State) : IsNext (execCqHeadDoorbell p qid head s) := by
  unfold execCqHeadDoorbell
  repeat' split
  all_goals exact isNext_next _

theorem execFabricAck_isNext (lane : Fin 32) (requester : Fin 28) (beats : ℕ) (s : State) : IsNext (execFabricAck lane requester beats s) := by
  unfold execFabricAck
  dsimp only
  repeat' split
  all_goals exact isNext_next _

theorem execSupersededPageProgrammed_isNext (s : State) : IsNext (execSupersededPageProgrammed s) := by
  unfold execSupersededPageProgrammed
  split <;> exact isNext_next _

theorem execCryptoEraseDone_isNext (ns : ℕ) (s : State) : IsNext (execCryptoEraseDone ns s) := by
  unfold execCryptoEraseDone
  dsimp only
  split <;> exact isNext_next _

theorem execReservationStateWritten_isNext (ns : ℕ) (s : State) : IsNext (execReservationStateWritten ns s) := by
  unfold execReservationStateWritten
  dsimp only
  split <;> exact isNext_next _

theorem reinFault_isNext (e : Fin 16) (w : Nat) (s : State) : IsNext (reinFault e w s) := by
  unfold reinFault
  repeat' split
  all_goals exact isNext_next _

theorem execReinLd_isNext (e rd ra : Fin 16) (imm : BitVec 16) (s : State) : IsNext (execReinLd e rd ra imm s) :=
  isNext_ite (isNext_next _) (reinFault_isNext ..)

theorem execReinSt_isNext (e rd ra : Fin 16) (imm : BitVec 16) (s : State) : IsNext (execReinSt e rd ra imm s) :=
  isNext_ite (isNext_next _) (reinFault_isNext ..)

theorem execReinCall_isNext (e : Fin 16) (target : BitVec 11) (s : State) : IsNext (execReinCall e target s) :=
  isNext_ite (isNext_next _) (reinFault_isNext ..)

theorem execReinRet_isNext (e : Fin 16) (s : State) : IsNext (execReinRet e s) := by
  unfold execReinRet
  split
  · exact reinFault_isNext ..
  · exact isNext_next _


theorem execDetectorPassDone_isNext (core : Fin 8) (job : Nat) (check : PassCheck) (s : State) :
    IsNext (execDetectorPassDone core job check s) := by
  unfold execDetectorPassDone
  generalize dispatch s = t
  dsimp only
  generalize jobOf t job = j
  cases j with
  | none => exact isNext_next _
  | some j => exact isNext_ite (isNext_next _) (isNext_ite (isNext_next _) (isNext_next _))

theorem execLdpcIterationDone_isNext (core : Fin 12) (job : Nat) (check : PassCheck) (s : State) :
    IsNext (execLdpcIterationDone core job check s) := by
  unfold execLdpcIterationDone
  generalize dispatch s = t
  dsimp only
  generalize jobOf t job = j
  cases j with
  | none => exact isNext_next _
  | some j =>
    refine isNext_ite (isNext_next _) (isNext_ite (isNext_next _) (isNext_ite (isNext_next _) (isNext_ite (isNext_next _) ?_)))
    exact isNext_ite (isNext_next _) (isNext_next _)


theorem exec_isNext (c : Instr) (s : State) : IsNext (exec c s) := by
  cases c with
  | feedPresent | feedSwitchReclose | pwrdisRelease | powerCapWrite | writeUnsafe | sampleOverrun | factoryFrameGap | windowRead | windowWrite
  | mbRead | mbWrite | mbWriteLast | blobStagingAbandon | store | restoreDefaults | unitQuiesced | objectWrite | restartNormal | restartMaintenance
  | perstDeassert | perstAssert | bundleStageLast | recoveryImageLast | lifecycleNonceExpire | lifecycleRequest | ownerKeyWrite | certChainWrite
  | spdmGetVersion | spdmGetCapabilities | spdmNegotiateAlgorithms | spdmGetDigests | spdmGetCertificate | spdmChallenge | spdmGetMeasurements
  | spdmUnsupported | synthLock | preampAccess | sentenceLoad | playerAbort | clauseStep | clauseGoto | clauseCall | clauseRet | clauseSetcnt
  | clauseLoop | clauseSector | clauseIfwrite | clauseIfparity | clauseEnd | reinNop | reinAdd | reinSub | reinAddw | reinSubw | reinAnd | reinOr
  | reinXor | reinMin | reinMax | reinAbs | reinNeg | reinShl | reinShr | reinShrl | reinLi | reinLui | reinAddi | reinIn | reinOut | reinSetcb
  | reinMul | reinMac | reinMsu | reinClra | reinLda | reinRnd | reinB | reinBz | reinBnz | reinBlt | reinBge | reinDbnz | coefWrite | snapRequest
  | inject | traceArm | traceForce | resetNotice | linkStatus | motionDieLost | zeroCrossMissing | girthSync | girthPhase | girthDictGet
  | girthDictSet | girthDictResponse | healthPeriod | announce | dictRequest | commandFetch | asyncEventRequest | functionLevelReset | pcieLinkDown
  | wiMirrorPoint | retireSurface | rebuildCheckpoint | reshapeRequest | reshapeCancel | zeroRange | zeroRangeDone | cacheClean | cacheInvalidate
  | cacheCleanInvalidate | cacheFillLock | cacheUnlock | cacheCleanSw | cacheInvalidateSw | cacheCleanInvalidateSw | dmaGo | dmaChainGo | dmaStop
  | notifyClear | safeEntriesExpire | captureClear | clearUpto | clearAll | unretire | sourceEntryWrite | spindleReinTrigger | preampFaultRelease => exact isNext_next _
  | powerGood => exact execPowerGood_isNext s
  | feedLost f why => exact execFeedLost_isNext f why s
  | railsOff => exact execRailsOff_isNext s
  | railsUp => exact execRailsUp_isNext s
  | pwrdisAssert => exact execPwrdisAssert_isNext s
  | vmCollapse => exact execVmCollapse_isNext s
  | v3p3Overcurrent a => exact execV3p3Overcurrent_isNext a s
  | throttleEnter tj => exact execThrottleEnter_isNext tj s
  | throttleExit tj => exact execThrottleExit_isNext tj s
  | thermalShutdown tj => exact execThermalShutdown_isNext tj s
  | vcoreSteer minPercent => exact execVcoreSteer_isNext minPercent s
  | writeFifoEmpty a => exact execWriteFifoEmpty_isNext a s
  | gateEntryExecute p t adc => exact execGateEntryExecute_isNext p t adc s
  | dictionaryGet slot => exact execDictionaryGet_isNext slot s
  | dictionarySet slot data => exact execDictionarySet_isNext slot data s
  | dictionarySetList slot data => exact execDictionarySetList_isNext slot data s
  | dictionaryBlockRead slot => exact execDictionaryBlockRead_isNext slot s
  | dictionaryListRead slot => exact execDictionaryListRead_isNext slot s
  | bolhobaGet h => exact execBolhobaGet_isNext h s
  | bolhobaSet h typ len value => exact execBolhobaSet_isNext h typ len value s
  | bolhobaListGet h keys => exact execBolhobaListGet_isNext h keys s
  | bolhobaListSet h entries => exact execBolhobaListSet_isNext h entries s
  | bolhobaBlockRead h offset len => exact execBolhobaBlockRead_isNext h offset len s
  | bolhobaBlockWrite h offset last data => exact execBolhobaBlockWrite_isNext h offset last data s
  | mbTransferDone core => exact execMbTransferDone_isNext core s
  | storeCommit programmed => exact execStoreCommit_isNext programmed s
  | unitDisable who index => exact execUnitDisable_isNext who index s
  | unitEnable who index selfCheck => exact execUnitEnable_isNext who index selfCheck s
  | attemptBegin cause => exact execAttemptBegin_isNext cause s
  | startStepEnd result found => exact execStartStepEnd_isNext result found s
  | stepWatchdog found => exact execStepWatchdog_isNext found s
  | startDeadline => exact execStartDeadline_isNext s
  | firmwareImageDownload slot piece => exact execFirmwareImageDownload_isNext slot piece s
  | firmwareCommitReplace slot => exact execFirmwareCommitReplace_isNext slot s
  | firmwareCommitReplaceActivate slot => exact execFirmwareCommitReplaceActivate_isNext slot s
  | firmwareCommitActivate slot => exact execFirmwareCommitActivate_isNext slot s
  | firmwareCommitActivateNow slot => exact execFirmwareCommitActivateNow_isNext slot s
  | firmwareCommitInvalidAction slot => exact execFirmwareCommitInvalidAction_isNext slot s
  | firmwareCommitDone => exact execFirmwareCommitDone_isNext s
  | activationStaged => exact execActivationStaged_isNext s
  | activationFreezeEnd freezeUs => exact execActivationFreezeEnd_isNext freezeUs s
  | activationBankSwitch => exact execActivationBankSwitch_isNext s
  | bundleWriteDone => exact execBundleWriteDone_isNext s
  | lifecycleNonceRead who => exact execLifecycleNonceRead_isNext who s
  | sanitize slot action => exact execSanitize_isNext slot action s
  | formatNvm slot => exact execFormatNvm_isNext slot s
  | grownEntryCommit surface entry => exact execGrownEntryCommit_isNext surface entry s
  | holderMoveDone holder surface => exact execHolderMoveDone_isNext holder surface s
  | servoSync a wedge track pes => exact execServoSync_isNext a wedge track pes s
  | servoSyncTimeout a => exact execServoSyncTimeout_isNext a s
  | synthUnlock a => exact execSynthUnlock_isNext a s
  | thermalAsperity a adc => exact execThermalAsperity_isNext a adc s
  | dropDetect a adc => exact execDropDetect_isNext a adc s
  | freezeHangoverEnd a adc => exact execFreezeHangoverEnd_isNext a adc s
  | longFreeze a adc => exact execLongFreeze_isNext a adc s
  | syncWindowEnd p first candidates => exact execSyncWindowEnd_isNext p first candidates s
  | captureEnd p adc => exact execCaptureEnd_isNext p adc s
  | preampFaultAssert a => exact execPreampFaultAssert_isNext a s
  | preampFaultPersist a => exact execPreampFaultPersist_isNext a s
  | preampFrameDone a readback parityOk => exact execPreampFrameDone_isNext a readback parityOk s
  | writePayloadPoisoned p entry => exact execWritePayloadPoisoned_isNext p entry s
  | detectorPassDone core job check => exact execDetectorPassDone_isNext core job check s
  | ldpcIterationDone core job check => exact execLdpcIterationDone_isNext core job check s
  | decodeDeadline job => exact execDecodeDeadline_isNext job s
  | holdCopyDone a hold => exact execHoldCopyDone_isNext a hold s
  | ringTailWrite core value => exact execRingTailWrite_isNext core value s
  | ladderDeep ring => exact execLadderDeep_isNext ring s
  | ladderAverage ring => exact execLadderAverage_isNext ring s
  | ladderReleaseHold ring => exact execLadderReleaseHold_isNext ring s
  | ladderRequestEnd job => exact execLadderRequestEnd_isNext job s
  | ladderStepAdvance surface track psector top status outcome => exact execLadderStepAdvance_isNext surface track psector top status outcome s
  | sentenceFetchDone p => exact execSentenceFetchDone_isNext p s
  | sentenceUnderrun p => exact execSentenceUnderrun_isNext p s
  | clauseBad p why => exact execClauseBad_isNext p why s
  | clauseTimeEnd p => exact execClauseTimeEnd_isNext p s
  | clauseWaitMet p wedge t => exact execClauseWaitMet_isNext p wedge t s
  | clauseWaitTimeout p => exact execClauseWaitTimeout_isNext p s
  | playerStallEnd p => exact execPlayerStallEnd_isNext p s
  | windowEndReached p => exact execWindowEndReached_isNext p s
  | playerMemoryFault p store => exact execPlayerMemoryFault_isNext p store s
  | sentenceEnd p => exact execSentenceEnd_isNext p s
  | sentenceRecordWrite p => exact execSentenceRecordWrite_isNext p s
  | outerTrigger a => exact execOuterTrigger_isNext a s
  | reinLd e rd ra imm => exact execReinLd_isNext e rd ra imm s
  | reinSt e rs ra imm => exact execReinSt_isNext e rs ra imm s
  | reinCall e target => exact execReinCall_isNext e target s
  | reinRet e => exact execReinRet_isNext e s
  | reinDone e => exact execReinDone_isNext e s
  | reinProgramFault e => exact execReinProgramFault_isNext e s
  | reinBudgetStop e => exact execReinBudgetStop_isNext e s
  | reinCompare g entry => exact execReinCompare_isNext g entry s
  | pairHoldRerunEnd g => exact execPairHoldRerunEnd_isNext g s
  | reinLatch g entry => exact execReinLatch_isNext g entry s
  | engineReloadDone e => exact execEngineReloadDone_isNext e s
  | snapshotCopyDone e => exact execSnapshotCopyDone_isNext e s
  | probationEnd e => exact execProbationEnd_isNext e s
  | reinMemoryFault e => exact execReinMemoryFault_isNext e s
  | heartbeat count => exact execHeartbeat_isNext count s
  | heartbeatLoss => exact execHeartbeatLoss_isNext s
  | linkResend mainToMotion => exact execLinkResend_isNext mainToMotion s
  | vcmCmd a ua mv => exact execVcmCmd_isNext a ua mv s
  | spinCmd ua => exact execSpinCmd_isNext ua s
  | driveMsg cmd => exact execDriveMsg_isNext cmd s
  | linkObject who index sub write => exact execLinkObject_isNext who index sub write s
  | senseMsg a ua mv => exact execSenseMsg_isNext a ua mv s
  | zeroCross phase interval => exact execZeroCross_isNext phase interval s
  | spindleDriverFault => exact execSpindleDriverFault_isNext s
  | spinAlignEnd => exact execSpinAlignEnd_isNext s
  | spinRampEnd handover => exact execSpinRampEnd_isNext handover s
  | spindleStandstill => exact execSpindleStandstill_isNext s
  | vcmOvercurrent a => exact execVcmOvercurrent_isNext a s
  | maOvercurrent a => exact execMaOvercurrent_isNext a s
  | headLoadTimeout a => exact execHeadLoadTimeout_isNext a s
  | rampContact a => exact execRampContact_isNext a s
  | retractParked a ms => exact execRetractParked_isNext a ms s
  | retractTimeout a => exact execRetractTimeout_isNext a s
  | dumpSealed holdupMj vmMin => exact execDumpSealed_isNext holdupMj vmMin s
  | girthSeek h startTick profile act d profileSet => exact execGirthSeek_isNext h startTick profile act d profileSet s
  | girthHealth h payload => exact execGirthHealth_isNext h payload s
  | girthUnknownType h typ payload => exact execGirthUnknownType_isNext h typ payload s
  | syncPeriod => exact execSyncPeriod_isNext s
  | phasePeriod => exact execPhasePeriod_isNext s
  | healthDeferred => exact execHealthDeferred_isNext s
  | masterLoss => exact execMasterLoss_isNext s
  | candidateWaitEnd => exact execCandidateWaitEnd_isNext s
  | joinListenTimeout noSymbol => exact execJoinListenTimeout_isNext noSymbol s
  | seekCancel a => exact execSeekCancel_isNext a s
  | announcementEnd id => exact execAnnouncementEnd_isNext id s
  | dictRequestTimeout => exact execDictRequestTimeout_isNext s
  | sqDoorbell p qid tail => exact execSqDoorbell_isNext p qid tail s
  | createIoSq slot => exact execCreateIoSq_isNext slot s
  | createIoCq slot => exact execCreateIoCq_isNext slot s
  | deleteIoSq slot => exact execDeleteIoSq_isNext slot s
  | deleteIoCq slot => exact execDeleteIoCq_isNext slot s
  | getLogPage slot => exact execGetLogPage_isNext slot s
  | identify slot => exact execIdentify_isNext slot s
  | nvmeAbort slot => exact execNvmeAbort_isNext slot s
  | setFeatures slot => exact execSetFeatures_isNext slot s
  | setFeaturesPowerManagement slot => exact execSetFeaturesPowerManagement_isNext slot s
  | setFeaturesErrorRecovery slot => exact execSetFeaturesErrorRecovery_isNext slot s
  | setFeaturesVwc slot => exact execSetFeaturesVwc_isNext slot s
  | getFeatures slot => exact execGetFeatures_isNext slot s
  | namespaceCreate slot nsze lbaFormat => exact execNamespaceCreate_isNext slot nsze lbaFormat s
  | namespaceDelete slot => exact execNamespaceDelete_isNext slot s
  | namespaceAttachment slot controllers => exact execNamespaceAttachment_isNext slot controllers s
  | securitySend slot data => exact execSecuritySend_isNext slot data s
  | securityReceive slot => exact execSecurityReceive_isNext slot s
  | getLbaStatus slot => exact execGetLbaStatus_isNext slot s
  | nvmeFlush slot => exact execNvmeFlush_isNext slot s
  | nvmeWrite slot blocks => exact execNvmeWrite_isNext slot blocks s
  | nvmeRead slot media => exact execNvmeRead_isNext slot media s
  | writeZeroes slot => exact execWriteZeroes_isNext slot s
  | datasetManagement slot => exact execDatasetManagement_isNext slot s
  | nvmeVerify slot media => exact execNvmeVerify_isNext slot media s
  | reservationRegister slot crkey nrkey => exact execReservationRegister_isNext slot crkey nrkey s
  | reservationReport slot => exact execReservationReport_isNext slot s
  | reservationAcquire slot crkey prkey => exact execReservationAcquire_isNext slot crkey prkey s
  | reservationPreemptAndAbort slot crkey prkey => exact execReservationPreemptAndAbort_isNext slot crkey prkey s
  | reservationRelease slot crkey => exact execReservationRelease_isNext slot crkey s
  | invalidOpcode slot => exact execInvalidOpcode_isNext slot s
  | writeCached slot => exact execWriteCached_isNext slot s
  | readTransferred slot => exact execReadTransferred_isNext slot s
  | ccEnClear p => exact execCcEnClear_isNext p s
  | ccEnSet p => exact execCcEnSet_isNext p s
  | nvmSubsystemReset => exact execNvmSubsystemReset_isNext s
  | shutdownNormal p => exact execShutdownNormal_isNext p s
  | shutdownAbrupt p => exact execShutdownAbrupt_isNext p s
  | ps3IdleTimeout => exact execPs3IdleTimeout_isNext s
  | powerStateSafePoint => exact execPowerStateSafePoint_isNext s
  | tlerExpire slot lba => exact execTlerExpire_isNext slot lba s
  | destageUpdate stripe reads => exact execDestageUpdate_isNext stripe reads s
  | stripeUpdateRetire stripe => exact execStripeUpdateRetire_isNext stripe s
  | mirrorRetry page ok => exact execMirrorRetry_isNext page ok s
  | journalReplay seq => exact execJournalReplay_isNext seq s
  | resyncGroup group reads => exact execResyncGroup_isNext group reads s
  | rebuildStripe stripe reads => exact execRebuildStripe_isNext stripe reads s
  | patrolStripe stripe reads => exact execPatrolStripe_isNext stripe reads s
  | reshapeGroupCopy => exact execReshapeGroupCopy_isNext s
  | reshapeSwitch => exact execReshapeSwitch_isNext s
  | grownDefectReadback surface track psector converged taBoth freezeOffset freezeLen => exact execGrownDefectReadback_isNext surface track psector converged taBoth freezeOffset freezeLen s
  | arbiterGrant waiting => exact execArbiterGrant_isNext waiting s
  | pageSubstitutionDone page => exact execPageSubstitutionDone_isNext page s
  | keeperSlotErased slot => exact execKeeperSlotErased_isNext slot s
  | cacheMaintDone core => exact execCacheMaintDone_isNext core s
  | cacheFillReturn line => exact execCacheFillReturn_isNext line s
  | dmaDescriptorFetched ch ok => exact execDmaDescriptorFetched_isNext ch ok s
  | dmaBeatsAcknowledged ch => exact execDmaBeatsAcknowledged_isNext ch s
  | dmaReadbackDone ch => exact execDmaReadbackDone_isNext ch s
  | dmaBeatError ch kind doneBytes indet => exact execDmaBeatError_isNext ch kind doneBytes indet s
  | fabricNak lane requester => exact execFabricNak_isNext lane requester s
  | collectorEvent ev => exact execCollectorEvent_isNext ev s
  | unitReadmit source => exact execUnitReadmit_isNext source s
  | safeRestartTimeout => exact execSafeRestartTimeout_isNext s
  | coreWatchdog core => exact execCoreWatchdog_isNext core s
  | collectorSelfFault collector => exact execCollectorSelfFault_isNext collector s
  | ledgerMirror => exact execLedgerMirror_isNext s
  | ledgerMirrorDone => exact execLedgerMirrorDone_isNext s
  | ledgerBandCopy => exact execLedgerBandCopy_isNext s
  | coreMemoryAccess core addr width access ecc => exact execCoreMemoryAccess_isNext core addr width access ecc s
  | linkTrainingDone p speed width => exact execLinkTrainingDone_isNext p speed width s
  | tapInstruction ins => exact execTapInstruction_isNext ins s
  | dynamicAddressAssignment addr => exact execDynamicAddressAssignment_isNext addr s
  | bolhobaUnknownOpcode h pen version opcode => exact execBolhobaUnknownOpcode_isNext h pen version opcode s
  | cqHeadDoorbell p qid head => exact execCqHeadDoorbell_isNext p qid head s
  | fabricAck lane requester beats => exact execFabricAck_isNext lane requester beats s
  | supersededPageProgrammed => exact execSupersededPageProgrammed_isNext s
  | cryptoEraseDone ns => exact execCryptoEraseDone_isNext ns s
  | reservationStateWritten ns => exact execReservationStateWritten_isNext ns s

/-- Settles O3. -/
theorem everyCommandAnswersANextState : Obligations.EveryCommandAnswersANextState :=
  exec_isNext

end Sys2Proof.Machine
end

section
/-!
PROOFS. The rein engines' other instructions (R255–R258, R275): moves, branches, loads, stores and ports, and their program faults.
-/

namespace Sys2Proof.Machine

/-! ### Program faults at the program counter (R254, R256) -/

theorem fld_op {op rest : Nat} (hop : op < 64) (hrest : rest < 2 ^ 26) : fld (op * 2 ^ 26 + rest) 31 26 = op := by
  simp only [fld, Nat.shiftRight_eq_div_pow]
  omega

theorem fld_op_wordB {op : Nat} (hop : op < 64) (ra : Fin 16) (target : BitVec 11) : fld (wordB op ra target) 31 26 = op := by
  rw [wordB, Nat.add_assoc]
  exact fld_op hop (by omega)

theorem fld_op_wordR {op : Nat} (hop : op < 64) (rd ra rb : Fin 16) : fld (wordR op rd ra rb) 31 26 = op := by
  rw [wordR, Nat.add_assoc, Nat.add_assoc]
  exact fld_op hop (by omega)

theorem fld_op_wordI {op : Nat} (hop : op < 64) (rd ra : Fin 16) (imm : BitVec 16) : fld (wordI op rd ra imm) 31 26 = op := by
  rw [wordI, Nat.add_assoc, Nat.add_assoc]
  exact fld_op hop (by omega)

/-- The reserved bits of LD and ST are IMM[15:10]. -/
theorem legalWord_wordI_load {op : Nat} (hop : op = 0x14 ∨ op = 0x15) (rd ra : Fin 16) {imm : BitVec 16} (himm : 1024 ≤ imm.toNat) :
    legalWord (wordI op rd ra imm) = false := by
  have hbits : fld (wordI op rd ra imm) 17 10 = imm.toNat / 1024 := by
    simp only [fld, wordI, Nat.shiftRight_eq_div_pow]
    omega
  have hset : imm.toNat / 1024 ≠ 0 := by omega
  rcases hop with rfl | rfl <;> simp [legalWord, fld_op_wordI, hbits, hset]

/-- An instruction whose form at the program counter is a program fault ends the run as REIN_PROGRAM_FAULT does. -/
theorem faults_of_reinFault {s : State} {e : Fin 16} {i : Instr} {w : Nat} (hexec : exec i s = reinFault e w s)
    (hfault : instrHere s.engines[e] = w → faultHere s.engines[e] = true) : Faults s e i w := by
  have hprogram : exec (.reinProgramFault e) s =
      if faultHere s.engines[e] then .next (stopRun s e.val 1) else .next s := by
    rw [← engineOf_fin]
    rfl
  constructor
  · intro hw
    rw [hexec, hprogram, reinFault, engineOf_fin, if_pos hw, if_pos (hfault hw)]
  · intro hw
    rw [hexec, reinFault, engineOf_fin, if_neg hw]

theorem faultHere_of_illegal {x : Engine} (h : legalWord (instrHere x) = false) : faultHere x = true := by
  simp [faultHere, h]

theorem faultHere_of_full_call {x : Engine} (hop : fld (instrHere x) 31 26 = 0x36) (hfull : 4 ≤ x.ctx.stack.length) : faultHere x = true := by
  simp [faultHere, hop, hfull]

theorem faultHere_of_empty_ret {x : Engine} (hop : fld (instrHere x) 31 26 = 0x37) (hempty : x.ctx.stack = []) : faultHere x = true := by
  simp [faultHere, hop, hempty]

/-! ### Values that an instruction writes -/

theorem min_of_slt (a b : Word32) : (if a.toInt ≤ b.toInt then a else b) = if b.slt a then b else a := by
  simp only [BitVec.slt, decide_eq_true_eq]
  split_ifs with hle hlt hlt
  · omega
  · rfl
  · rfl
  · omega

theorem max_of_slt (a b : Word32) : (if a.toInt ≤ b.toInt then b else a) = if a.slt b then b else a := by
  simp only [BitVec.slt, decide_eq_true_eq]
  split_ifs with hle hlt hlt
  · rfl
  · exact (BitVec.eq_of_toInt_eq (by omega)).symm
  · omega
  · rfl

theorem signExtend_eq_ofInt (imm : BitVec 16) : imm.signExtend 32 = BitVec.ofInt 32 imm.toInt := rfl

theorem append_low_half (imm : BitVec 16) (v : Word32) :
    imm ++ v.extractLsb' 0 16 = BitVec.ofNat 32 (imm.toNat * 65536 + v.toNat % 65536) := by
  apply BitVec.eq_of_toNat_eq
  have hlow : v.toNat % 2 ^ 16 < 2 ^ 16 := Nat.mod_lt _ (by decide)
  rw [BitVec.toNat_append, BitVec.extractLsb'_toNat, BitVec.toNat_ofNat, Nat.shiftRight_zero, ← Nat.shiftLeft_add_eq_or_of_lt hlow,
    Nat.shiftLeft_eq]
  omega

theorem extractLsb'_eq_ofNat (imm : BitVec 16) : imm.extractLsb' 0 10 = BitVec.ofNat 10 (imm.toNat % 1024) := by
  apply BitVec.eq_of_toNat_eq
  simp [BitVec.extractLsb'_toNat]

theorem dataAddr_eq_dataAt (c : Context) (ra : Fin 16) (imm : BitVec 16) : dataAddr (advanced c) ra imm = dataAt c ra imm := by
  simp only [dataAddr, dataAt, advanced, Context.reg]
  omega

theorem branchIf_advanced (c : Context) (p : Prop) [Decidable p] (target : BitVec 11) :
    branchIf (advanced c) (decide p) target = branched c p target := by
  simp only [branchIf_eq, decide_eq_true_eq, branched]
  rfl

/-- Settles O9: the moves write what R255 names, the branches, CALL and RET set the program counter, and a bad CALL or RET is a program fault. -/
theorem reinMovesAndBranches : Obligations.ReinMovesAndBranches := by
  constructor
  · intro s e rd ra rb imm r h c a b
    refine ⟨?nop, ?min, ?max, ?li, ?lui, ?setcb⟩
    case nop => exact executes_of_reinCtx h (Eq.refl (execReinNop e s)) rfl
    case min =>
      rw [← min_of_slt]
      exact executes_of_reinCtx h (Eq.refl (execReinMin e rd ra rb s)) rfl
    case max =>
      rw [← max_of_slt]
      exact executes_of_reinCtx h (Eq.refl (execReinMax e rd ra rb s)) rfl
    case li => exact executes_of_reinCtx h (Eq.refl (execReinLi e rd imm s)) rfl
    case lui =>
      rw [← append_low_half]
      exact executes_of_reinCtx h (Eq.refl (execReinLui e rd imm s)) rfl
    case setcb =>
      rw [← extractLsb'_eq_ofNat]
      exact executes_of_reinCtx h (Eq.refl (execReinSetcb e imm s)) rfl
  · intro s e ra target r h c a
    refine ⟨?always, ?bz, ?bnz, ?blt, ?bge, ?call, ?callFault, ?ret, ?retFault⟩
    case always => exact executes_of_reinCtx h (Eq.refl (execReinB e target s)) (branchIf_advanced c True target)
    case bz => exact executes_of_reinCtx h (Eq.refl (execReinBz e ra target s)) (branchIf_advanced ..)
    case bnz => exact executes_of_reinCtx h (Eq.refl (execReinBnz e ra target s)) (branchIf_advanced ..)
    case blt => exact executes_of_reinCtx h (Eq.refl (execReinBlt e ra target s)) (branchIf_advanced ..)
    case bge => exact executes_of_reinCtx h (Eq.refl (execReinBge e ra target s)) (branchIf_advanced ..)
    case call =>
      intro (hroom : s.engines[e].ctx.stack.length < 4)
      refine executes_of_reinCtx h (f := fun c => { c with stack := c.pc :: c.stack, pc := target }) ?_ rfl
      show execReinCall e target s = _
      rw [execReinCall, engineOf_fin, if_pos hroom]
    case callFault =>
      intro (hfull : 4 ≤ s.engines[e].ctx.stack.length)
      refine faults_of_reinFault ?_ fun hw => faultHere_of_full_call (by rw [hw, fld_op_wordB (by decide)]) hfull
      show execReinCall e target s = _
      rw [execReinCall, engineOf_fin, if_neg (Nat.not_lt.mpr hfull)]
    case ret =>
      intro t rest hstack
      refine executes_of_reinCtx h (f := fun c => { c with stack := rest, pc := t }) ?_ rfl
      have hstack' : (s.engineOf e.val).ctx.stack = t :: rest := by rw [engineOf_fin]; exact hstack
      show execReinRet e s = _
      rw [execReinRet, hstack']
    case retFault =>
      intro hempty
      refine faults_of_reinFault ?_ fun hw => faultHere_of_empty_ret (by rw [hw, fld_op_wordR (by decide)]) hempty
      have hempty' : (s.engineOf e.val).ctx.stack = [] := by rw [engineOf_fin]; exact hempty
      show execReinRet e s = _
      rw [execReinRet, hempty']

/-! ### Loads, stores and ports -/

theorem executes_of_load {s : State} {e : Fin 16} {r : Run} (h : Runs s e r) (rd ra : Fin 16) {imm : BitVec 16} (himm : imm.toNat < 1024) :
    Executes s e r (.reinLd e rd ra imm) (wordI 0x14 rd ra imm) (wrote (regs s e) rd (SMap.findD s.engines[e].data (dataAt (regs s e) ra imm) 0)) := by
  refine executes_of_reinStep h (f := fun x => { x with ctx := x.ctx.setReg rd (SMap.findD x.data (dataAddr x.ctx ra imm) 0) }) ?_ ?_
  · show execReinLd e rd ra imm s = _
    rw [execReinLd, if_pos himm]
  · rw [← dataAddr_eq_dataAt]
    rfl

/-- Settles O10: LD and ST at their data address or as program faults, IN by its port, OUT by whether the run's entry has the port. -/
theorem reinLoadsStoresAndPorts : Obligations.ReinLoadsStoresAndPorts := by
  constructor
  · intro s e rd ra imm r h c at_ old v
    refine ⟨fun himm => ⟨executes_of_load h rd ra himm, ?other, ?store⟩, fun himm => ⟨?loadFault, ?storeFault⟩⟩
    all_goals have hst : exec (.reinSt e rd ra imm) s = execReinSt e rd ra imm s := rfl
    case other =>
      intro hw
      rw [hst, execReinSt, if_pos himm, reinStep_of_other_word h hw]
    case store =>
      intro hw
      rw [hst, execReinSt, if_pos himm, reinStep_of_word h hw, storeData]
      have haddr : dataAddr (fetched s.engines[e] r).ctx ra imm = at_ := dataAddr_eq_dataAt ..
      rw [haddr]
      rfl
    case loadFault =>
      refine faults_of_reinFault ?_ fun hw => faultHere_of_illegal (by rw [hw, legalWord_wordI_load (.inl rfl) rd ra himm])
      show execReinLd e rd ra imm s = _
      rw [execReinLd, if_neg (Nat.not_lt.mpr himm)]
    case storeFault =>
      refine faults_of_reinFault ?_ fun hw => faultHere_of_illegal (by rw [hw, legalWord_wordI_load (.inr rfl) rd ra himm])
      rw [hst, execReinSt, if_neg (Nat.not_lt.mpr himm)]
  · intro s e rd port r h c taken
    have hin := Eq.refl (execReinIn e rd port s)
    have hout := Eq.refl (execReinOut e rd port s)
    refine ⟨?flags, ?mode, ?other, ?staged, ?foreign⟩
    case flags =>
      rintro rfl
      exact executes_of_reinStep h hin rfl
    case mode =>
      rintro rfl
      refine executes_of_reinStep h hin ?_
      cases hr : r.rerun <;> simp [inputPort, fetched, hr] <;> rfl
    case other =>
      intro hflags hmode
      refine executes_of_reinStep h hin ?_
      have h15 : port.toNat ≠ 0x15 := fun he => hflags (BitVec.eq_of_toNat_eq he)
      have h14 : port.toNat ≠ 0x14 := fun he => hmode (BitVec.eq_of_toNat_eq he)
      have hport : port ≠ 21#8 := hflags
      simp [inputPort, fetched, hport, h15, h14]
      rfl
    case staged =>
      intro hport
      have hcontains : (outPorts s.engines[e].group r.entry).contains port.toNat = true := by simpa using hport
      have hexec : exec (.reinOut e rd port) s = execReinOut e rd port s := rfl
      refine ⟨fun hw => ?_, fun hw => ?_⟩
      · rw [hexec, execReinOut, reinStep_of_word h hw]
        exact congrArg (fun x => Host.Outcome.next ({ s with engines := s.engines.set e x } : State)) (if_pos hcontains)
      · rw [hexec, execReinOut, reinStep_of_other_word h hw]
    case foreign =>
      intro hport
      have hcontains : ¬(outPorts s.engines[e].group r.entry).contains port.toNat = true := by simpa using hport
      refine executes_of_reinStep h hout ?_
      exact if_neg hcontains

end Sys2Proof.Machine
end

section
/-!
PROOFS. Reads after the named updates of the state: objects, which only the object updates change, and the parts that are vectors by number.
-/

namespace Sys2Proof.Machine

variable (s : State)

/-! ### Objects after an update of another part -/

@[simp] theorem State.obj_raiseEv (e : Event) (i : Key) : (s.raiseEv e).obj i = s.obj i := rfl
@[simp] theorem State.num_raiseEv (e : Event) (i : Key) : (s.raiseEv e).num i = s.num i := rfl
@[simp] theorem State.str_raiseEv (e : Event) (i : Key) : (s.raiseEv e).str i = s.str i := rfl
@[simp] theorem State.obj_raise (id u d : Nat) (i : Key) : (s.raise id u d).obj i = s.obj i := rfl
@[simp] theorem State.num_raise (id u d : Nat) (i : Key) : (s.raise id u d).num i = s.num i := rfl
@[simp] theorem State.str_raise (id u d : Nat) (i : Key) : (s.raise id u d).str i = s.str i := rfl
@[simp] theorem State.obj_raiseAct (a k u d : Nat) (i : Key) : (s.raiseAct a k u d).obj i = s.obj i := rfl
@[simp] theorem State.num_raiseAct (a k u d : Nat) (i : Key) : (s.raiseAct a k u d).num i = s.num i := rfl
@[simp] theorem State.str_raiseAct (a k u d : Nat) (i : Key) : (s.raiseAct a k u d).str i = s.str i := rfl
@[simp] theorem State.obj_emit (o : Out) (i : Key) : (s.emit o).obj i = s.obj i := rfl
@[simp] theorem State.num_emit (o : Out) (i : Key) : (s.emit o).num i = s.num i := rfl
@[simp] theorem State.str_emit (o : Out) (i : Key) : (s.emit o).str i = s.str i := rfl
@[simp] theorem State.obj_modChan (a : Nat) (f : Channel → Channel) (i : Key) : (s.modChan a f).obj i = s.obj i := rfl
@[simp] theorem State.num_modChan (a : Nat) (f : Channel → Channel) (i : Key) : (s.modChan a f).num i = s.num i := rfl
@[simp] theorem State.str_modChan (a : Nat) (f : Channel → Channel) (i : Key) : (s.modChan a f).str i = s.str i := rfl
@[simp] theorem State.obj_modPlayer (p : Nat) (f : Player → Player) (i : Key) : (s.modPlayer p f).obj i = s.obj i := rfl
@[simp] theorem State.num_modPlayer (p : Nat) (f : Player → Player) (i : Key) : (s.modPlayer p f).num i = s.num i := rfl
@[simp] theorem State.str_modPlayer (p : Nat) (f : Player → Player) (i : Key) : (s.modPlayer p f).str i = s.str i := rfl
@[simp] theorem State.obj_modAct (a : Nat) (f : Actuator → Actuator) (i : Key) : (s.modAct a f).obj i = s.obj i := rfl
@[simp] theorem State.num_modAct (a : Nat) (f : Actuator → Actuator) (i : Key) : (s.modAct a f).num i = s.num i := rfl
@[simp] theorem State.str_modAct (a : Nat) (f : Actuator → Actuator) (i : Key) : (s.modAct a f).str i = s.str i := rfl
@[simp] theorem State.obj_modEngine (e : Nat) (f : Engine → Engine) (i : Key) : (s.modEngine e f).obj i = s.obj i := rfl
@[simp] theorem State.num_modEngine (e : Nat) (f : Engine → Engine) (i : Key) : (s.modEngine e f).num i = s.num i := rfl
@[simp] theorem State.str_modEngine (e : Nat) (f : Engine → Engine) (i : Key) : (s.modEngine e f).str i = s.str i := rfl
@[simp] theorem State.obj_modGroup (g : Nat) (f : Group → Group) (i : Key) : (s.modGroup g f).obj i = s.obj i := rfl
@[simp] theorem State.num_modGroup (g : Nat) (f : Group → Group) (i : Key) : (s.modGroup g f).num i = s.num i := rfl
@[simp] theorem State.str_modGroup (g : Nat) (f : Group → Group) (i : Key) : (s.modGroup g f).str i = s.str i := rfl
@[simp] theorem State.obj_modTrace (a : Nat) (f : Trace → Trace) (i : Key) : (s.modTrace a f).obj i = s.obj i := rfl
@[simp] theorem State.num_modTrace (a : Nat) (f : Trace → Trace) (i : Key) : (s.modTrace a f).num i = s.num i := rfl
@[simp] theorem State.str_modTrace (a : Nat) (f : Trace → Trace) (i : Key) : (s.modTrace a f).str i = s.str i := rfl
@[simp] theorem State.obj_setDec (d : Decode) (i : Key) : (s.setDec d).obj i = s.obj i := rfl
@[simp] theorem State.num_setDec (d : Decode) (i : Key) : (s.setDec d).num i = s.num i := rfl
@[simp] theorem State.str_setDec (d : Decode) (i : Key) : (s.setDec d).str i = s.str i := rfl
@[simp] theorem State.obj_setFab (f : Fabric) (i : Key) : (s.setFab f).obj i = s.obj i := rfl
@[simp] theorem State.num_setFab (f : Fabric) (i : Key) : (s.setFab f).num i = s.num i := rfl
@[simp] theorem State.str_setFab (f : Fabric) (i : Key) : (s.setFab f).str i = s.str i := rfl
@[simp] theorem State.obj_modDma (ch : Nat) (f : DmaCh → DmaCh) (i : Key) : (s.modDma ch f).obj i = s.obj i := rfl
@[simp] theorem State.num_modDma (ch : Nat) (f : DmaCh → DmaCh) (i : Key) : (s.modDma ch f).num i = s.num i := rfl
@[simp] theorem State.str_modDma (ch : Nat) (f : DmaCh → DmaCh) (i : Key) : (s.modDma ch f).str i = s.str i := rfl
@[simp] theorem State.obj_setMotion (m : Motion) (i : Key) : (s.setMotion m).obj i = s.obj i := rfl
@[simp] theorem State.num_setMotion (m : Motion) (i : Key) : (s.setMotion m).num i = s.num i := rfl
@[simp] theorem State.str_setMotion (m : Motion) (i : Key) : (s.setMotion m).str i = s.str i := rfl
@[simp] theorem State.obj_setGirth (g : Girth) (i : Key) : (s.setGirth g).obj i = s.obj i := rfl
@[simp] theorem State.num_setGirth (g : Girth) (i : Key) : (s.setGirth g).num i = s.num i := rfl
@[simp] theorem State.str_setGirth (g : Girth) (i : Key) : (s.setGirth g).str i = s.str i := rfl
@[simp] theorem State.obj_setHost (h : HostIf) (i : Key) : (s.setHost h).obj i = s.obj i := rfl
@[simp] theorem State.num_setHost (h : HostIf) (i : Key) : (s.setHost h).num i = s.num i := rfl
@[simp] theorem State.str_setHost (h : HostIf) (i : Key) : (s.setHost h).str i = s.str i := rfl
@[simp] theorem State.obj_setColl (c : Collector) (i : Key) : (s.setColl c).obj i = s.obj i := rfl
@[simp] theorem State.num_setColl (c : Collector) (i : Key) : (s.setColl c).num i = s.num i := rfl
@[simp] theorem State.str_setColl (c : Collector) (i : Key) : (s.setColl c).str i = s.str i := rfl
@[simp] theorem State.obj_setStart (t : Start) (i : Key) : (s.setStart t).obj i = s.obj i := rfl
@[simp] theorem State.num_setStart (t : Start) (i : Key) : (s.setStart t).num i = s.num i := rfl
@[simp] theorem State.str_setStart (t : Start) (i : Key) : (s.setStart t).str i = s.str i := rfl
@[simp] theorem State.obj_setPower (p : Power) (i : Key) : (s.setPower p).obj i = s.obj i := rfl
@[simp] theorem State.num_setPower (p : Power) (i : Key) : (s.setPower p).num i = s.num i := rfl
@[simp] theorem State.str_setPower (p : Power) (i : Key) : (s.setPower p).str i = s.str i := rfl
@[simp] theorem State.obj_setMem (m : Memory) (i : Key) : (s.setMem m).obj i = s.obj i := rfl
@[simp] theorem State.num_setMem (m : Memory) (i : Key) : (s.setMem m).num i = s.num i := rfl
@[simp] theorem State.str_setMem (m : Memory) (i : Key) : (s.setMem m).str i = s.str i := rfl
@[simp] theorem State.obj_setLayout (l : Layout) (i : Key) : (s.setLayout l).obj i = s.obj i := rfl
@[simp] theorem State.num_setLayout (l : Layout) (i : Key) : (s.setLayout l).num i = s.num i := rfl
@[simp] theorem State.str_setLayout (l : Layout) (i : Key) : (s.setLayout l).str i = s.str i := rfl
@[simp] theorem State.obj_setFw (f : Firmware) (i : Key) : (s.setFw f).obj i = s.obj i := rfl
@[simp] theorem State.num_setFw (f : Firmware) (i : Key) : (s.setFw f).num i = s.num i := rfl
@[simp] theorem State.str_setFw (f : Firmware) (i : Key) : (s.setFw f).str i = s.str i := rfl
@[simp] theorem State.obj_setMedia (m : Media) (i : Key) : (s.setMedia m).obj i = s.obj i := rfl
@[simp] theorem State.num_setMedia (m : Media) (i : Key) : (s.setMedia m).num i = s.num i := rfl
@[simp] theorem State.str_setMedia (m : Media) (i : Key) : (s.setMedia m).str i = s.str i := rfl
@[simp] theorem State.obj_setDict (d : DictSvc) (i : Key) : (s.setDict d).obj i = s.obj i := rfl
@[simp] theorem State.num_setDict (d : DictSvc) (i : Key) : (s.setDict d).num i = s.num i := rfl
@[simp] theorem State.str_setDict (d : DictSvc) (i : Key) : (s.setDict d).str i = s.str i := rfl
@[simp] theorem State.obj_setJob (j : Option StoreJob) (i : Key) : (s.setJob j).obj i = s.obj i := rfl
@[simp] theorem State.num_setJob (j : Option StoreJob) (i : Key) : (s.setJob j).num i = s.num i := rfl
@[simp] theorem State.str_setJob (j : Option StoreJob) (i : Key) : (s.setJob j).str i = s.str i := rfl
@[simp] theorem State.obj_modCtrl (p : Port) (f : Controller → Controller) (i : Key) : (s.modCtrl p f).obj i = s.obj i := rfl
@[simp] theorem State.num_modCtrl (p : Port) (f : Controller → Controller) (i : Key) : (s.modCtrl p f).num i = s.num i := rfl
@[simp] theorem State.str_modCtrl (p : Port) (f : Controller → Controller) (i : Key) : (s.modCtrl p f).str i = s.str i := rfl

theorem State.num_add_other {k j : Key} (n : Nat) (h : j ≠ k) : (s.add k n).num j = s.num j := by
  simp [State.num, s.obj_add_other n h]

theorem State.str_bump_other {k j : Key} (h : j ≠ k) : (s.bump k).str j = s.str j := by
  simp [State.str, s.obj_bump_other h]

/-! ### One unit of a vector -/

theorem engineOf_modEngine {e : Nat} (f : Engine → Engine) (h : e < 16) : (s.modEngine e f).engineOf e = f (s.engineOf e) :=
  vget_vmod_self s.engines e f _ h

theorem engineOf_modEngine_other {e i : Nat} (f : Engine → Engine) (h : e ≠ i) : (s.modEngine e f).engineOf i = s.engineOf i :=
  vget_vmod_other s.engines f _ h

theorem engineOf_congr {s t : State} (h : t.engines = s.engines) (e : Nat) : t.engineOf e = s.engineOf e := by
  rw [State.engineOf, h, State.engineOf]

theorem groupOf_modGroup {g : Nat} (f : Group → Group) (h : g < 5) : (s.modGroup g f).groupOf g = f (s.groupOf g) :=
  vget_vmod_self s.groups g f _ h

theorem groupOf_congr {s t : State} (h : t.groups = s.groups) (g : Nat) : t.groupOf g = s.groupOf g := by
  rw [State.groupOf, h, State.groupOf]

/-! ### Counting -/

variable {s} {t u : State} {k : Key}

theorem counted_bump (k : Key) (s : State) : Counted k s (s.bump k) := s.num_bump_self k

/-- A count goes through operations that leave the counter alone, after it and before it. -/
theorem Counted.trans_num (h : Counted k s u) (hafter : t.num k = u.num k) : Counted k s t := fun hroom => hafter.trans (h hroom)

theorem Counted.of_num (hbefore : u.num k = s.num k) (h : Counted k u t) : Counted k s t := by
  unfold Counted
  rw [← hbefore]
  exact h

end Sys2Proof.Machine
end

section
/-!
PROOFS. How a run of a rein engine ends (R250, R256, R258, R282).
-/

namespace Sys2Proof.Machine

variable (s : State) (e : Fin 16)

/-! ### Keys of a group's counters and of an engine's objects -/

theorem engKey_mod (e sub : Nat) : engKey e sub % 256 = sub % 256 := by
  unfold engKey Key
  split <;> omega

theorem satCount_ne_programStops (g h : Nat) : Obj.satCount g ≠ Obj.programStops h := by
  unfold Obj.satCount Obj.programStops Key
  omega

theorem engRoleKey_ne_programStops (e g : Nat) : engKey e 3 ≠ Obj.programStops g := fun heq => by
  have hmod := engKey_mod e 3
  rw [heq] at hmod
  unfold Obj.programStops Key at hmod
  omega

/-! ### The engine when its run is over -/

/-- A preempted run goes on when nothing waits. -/
theorem afterRun_saved {r : Run} {c : Context} {rest : List (Run × Context)} (hsaved : (s.engineOf e).saved = (r, c) :: rest)
    (hwaiting : (s.engineOf e).waiting = []) :
    afterRun s e = s.modEngine e fun x => { x with run := some r, ctx := c, saved := rest } := by
  unfold afterRun
  simp only [hsaved, hwaiting]

/-- An engine with nothing else to do is idle. -/
theorem afterRun_idle (hsaved : (s.engineOf e).saved = []) (hreruns : (s.engineOf e).reruns = []) (hwaiting : (s.engineOf e).waiting = []) :
    afterRun s e = s.modEngine e fun x => { x with run := none } := by
  unfold afterRun
  simp only [hsaved, hreruns, hwaiting]

/-- A re-run follows when no run was preempted. -/
theorem afterRun_rerun {i : Nat} {inputs : SMap Word32} {rest : List (Nat × SMap Word32)} (hsaved : (s.engineOf e).saved = [])
    (hreruns : (s.engineOf e).reruns = (i, inputs) :: rest) :
    afterRun s e = startRun (s.modEngine e fun x => { x with run := none, reruns := rest }) e i inputs true := by
  unfold afterRun
  simp only [hsaved, hreruns]

theorem runOver_afterRun : RunOver (s.engineOf e) ((afterRun s e).engineOf e) := by
  constructor
  · intro hsaved hreruns hwaiting
    rw [afterRun_idle s e hsaved hreruns hwaiting, engineOf_modEngine _ _ e.isLt]
    exact ⟨rfl, rfl⟩
  · intro r c rest hsaved hwaiting
    rw [afterRun_saved s e hsaved hwaiting, engineOf_modEngine _ _ e.isLt]
    exact ⟨rfl, rfl, rfl⟩

/-- Where no trigger waits, the end of a run writes no object and raises nothing. -/
theorem afterRun_keeps (hwaiting : (s.engineOf e).waiting = []) : (afterRun s e).objs = s.objs ∧ (afterRun s e).raised = s.raised := by
  rcases hsaved : (s.engineOf e).saved with _ | ⟨⟨r, c⟩, rest⟩
  · rcases hreruns : (s.engineOf e).reruns with _ | ⟨⟨i, inputs⟩, rest⟩
    · rw [afterRun_idle s e hsaved hreruns hwaiting]
      exact ⟨rfl, rfl⟩
    · rw [afterRun_rerun s e hsaved hreruns]
      exact ⟨rfl, rfl⟩
  · rw [afterRun_saved s e hsaved hwaiting]
    exact ⟨rfl, rfl⟩

/-- Where no trigger and no re-run waits, the sets and stops that the engine holds stay. -/
theorem afterRun_results (hreruns : (s.engineOf e).reruns = []) (hwaiting : (s.engineOf e).waiting = []) :
    ((afterRun s e).engineOf e).delivered = (s.engineOf e).delivered ∧ ((afterRun s e).engineOf e).stopped = (s.engineOf e).stopped := by
  rcases hsaved : (s.engineOf e).saved with _ | ⟨⟨r, c⟩, rest⟩
  · rw [afterRun_idle s e hsaved hreruns hwaiting, engineOf_modEngine _ _ e.isLt]
    exact ⟨rfl, rfl⟩
  · rw [afterRun_saved s e hsaved hwaiting, engineOf_modEngine _ _ e.isLt]
    exact ⟨rfl, rfl⟩

/-! ### SAT_COUNT -/

theorem countSat_engines (e : Nat) : (countSat s e).engines = s.engines := by
  unfold countSat
  dsimp only
  split
  · exact s.bump_engines _
  · rfl

theorem countSat_raised (e : Nat) : (countSat s e).raised = s.raised := by
  unfold countSat
  dsimp only
  split
  · exact s.bump_raised _
  · rfl

theorem countSat_num {k : Key} (e : Nat) (hk : k ≠ Obj.satCount (s.engineOf e).group) : (countSat s e).num k = s.num k := by
  unfold countSat
  dsimp only
  split
  · exact s.num_bump_other hk
  · rfl

theorem counted_countSat (hrole : engRole s e = 0) (hflags : (s.engineOf e).ctx.flags ≠ 0) :
    Counted (Obj.satCount (s.engineOf e).group) s (countSat s e) := by
  have hactive : engRole s e = roActive ∧ (s.engineOf e).ctx.flags ≠ 0 := ⟨hrole, hflags⟩
  rw [countSat]
  exact (if_pos hactive).symm ▸ counted_bump _ s

/-! ### The end of a run as DONE and a stop share it -/

/-- The end of engine e's run from a state u in which the engine's own result is noted. -/
theorem afterRun_countSat {s u : State} {e : Fin 16} {f : Engine → Engine} (hengine : u.engineOf e = f (s.engineOf e))
    (hf : ∀ x, (f x).saved = x.saved ∧ (f x).reruns = x.reruns ∧ (f x).waiting = x.waiting ∧ (f x).ctx = x.ctx ∧ (f x).group = x.group) :
    let x := s.engineOf e
    let t := afterRun (countSat u e) e
    RunOver x (t.engineOf e) ∧
    (x.waiting = [] → x.reruns = [] → (t.engineOf e).delivered = (f x).delivered ∧ (t.engineOf e).stopped = (f x).stopped) ∧
    (engRole u e = 0 → x.ctx.flags ≠ 0 → x.waiting = [] → Counted (Obj.satCount x.group) u t) ∧
    (x.waiting = [] → t.raised = u.raised ∧ ∀ k, k ≠ Obj.satCount x.group → t.num k = u.num k) := by
  intro x t
  obtain ⟨hsaved, hreruns, hwaiting, hctx, hgroup⟩ := hf x
  have hcounted : (countSat u e).engineOf e = f x := (engineOf_congr (countSat_engines u e) e).trans hengine
  refine ⟨?ended, ?results, ?sat, ?rest⟩
  case ended =>
    have hover := runOver_afterRun (countSat u e) e
    rwa [hcounted, RunOver, hsaved, hreruns, hwaiting, hctx] at hover
  case results =>
    intro hw hr
    have hresults := afterRun_results (countSat u e) e (by rw [hcounted, hreruns, hr]) (by rw [hcounted, hwaiting, hw])
    rwa [hcounted] at hresults
  case sat =>
    intro hrole hflags hw
    have hkeeps := afterRun_keeps (countSat u e) e (by rw [hcounted, hwaiting, hw])
    have hcount := counted_countSat u e hrole (by rw [hengine, hctx]; exact hflags)
    rw [hengine, hgroup] at hcount
    exact hcount.trans_num (State.num_congr hkeeps.1 _)
  case rest =>
    intro hw
    obtain ⟨hobjs, hraised⟩ := afterRun_keeps (countSat u e) e (by rw [hcounted, hwaiting, hw])
    refine ⟨hraised.trans (countSat_raised u e), fun k hk => (State.num_congr hobjs k).trans (countSat_num u e ?_)⟩
    rwa [hengine, hgroup]

/-- Engine x as a stop of its run r for reason `why` leaves it, before the run is over. -/
def stoppedEngine (r : Run) (why : Nat) (x : Engine) : Engine :=
  { x with
    rerunSets := if r.rerun then x.rerunSets ++ [(r.entry, [])] else x.rerunSets
    stopped := SMap.put x.stopped r.entry why, delivered := SMap.erase x.delivered r.entry }

/-- Another engine of the group has stopped for the same reason in this run. -/
def stopKnown (s : State) (e : Nat) (r : Run) (why : Nat) : Bool :=
  (groupEngines s (s.engineOf e).group).any fun x => decide (x ≠ e) && decide (SMap.find (s.engineOf x).stopped r.entry = some why)

theorem stopRun_eq {s : State} {e : Nat} {r : Run} {why : Nat} (hrun : (s.engineOf e).run = some r) :
    stopRun s e why =
      let g := (s.engineOf e).group
      let u := s.modEngine e (stoppedEngine r why)
      afterRun (countSat (if stopKnown s e r why then u else (u.bump (Obj.programStops g)).raise (programSource g) g why) e) e := by
  unfold stopRun
  rw [hrun]
  rfl

theorem stopKnown_of_first {s : State} {e : Nat} {r : Run} {why : Nat}
    (hfirst : ∀ f, f ∈ groupEngines s (s.engineOf e).group → f ≠ e → SMap.find (s.engineOf f).stopped r.entry ≠ some why) :
    stopKnown s e r why = false := by
  simp only [stopKnown, List.any_eq_false, Bool.and_eq_true, decide_eq_true_eq]
  exact fun f hf hother => hfirst f hf hother.1 hother.2

/-- A run stopped for reason `why` is remembered so; PROGRAM_STOPS counts and the program source is raised where no other engine of the group has
stopped so in that run. -/
theorem stopRun_effect {s : State} {e : Fin 16} {r : Run} (why : Nat) (hrun : (s.engineOf e).run = some r) :
    let x := s.engineOf e
    let g := x.group
    let t := stopRun s e why
    RunOver x (t.engineOf e) ∧
    (x.waiting = [] → x.reruns = [] → SMap.find (t.engineOf e).stopped r.entry = some why) ∧
    (engRole s e = 0 → x.ctx.flags ≠ 0 → x.waiting = [] → Counted (Obj.satCount g) s t) ∧
    ((∀ f, f ∈ groupEngines s g → f ≠ e.val → SMap.find (s.engineOf f).stopped r.entry ≠ some why) → x.waiting = [] →
      Counted (Obj.programStops g) s t ∧ t.raised = s.raised ++ [{ source := programSource g, unit := g, detail := why }]) := by
  intro x g t
  let v := s.modEngine e (stoppedEngine r why)
  let u := if stopKnown s e r why then v else (v.bump (Obj.programStops g)).raise (programSource g) g why
  have hv : v.engineOf e = stoppedEngine r why x := engineOf_modEngine s _ e.isLt
  have hu : u.engineOf e = stoppedEngine r why x ∧ ∀ k, k ≠ Obj.programStops g → u.num k = s.num k := by
    by_cases hknown : stopKnown s e r why = true
    · rw [show u = v from if_pos hknown]
      exact ⟨hv, fun _ _ => rfl⟩
    · rw [show u = _ from if_neg hknown]
      exact ⟨(engineOf_congr (v.bump_engines _) e).trans hv, fun _ hk => v.num_bump_other hk⟩
  have ht : t = afterRun (countSat u e) e := stopRun_eq hrun
  obtain ⟨hover, hresults, hsat, hrest⟩ := afterRun_countSat hu.1 fun _ => ⟨rfl, rfl, rfl, rfl, rfl⟩
  rw [← ht] at hover hresults hsat hrest
  refine ⟨hover, fun hw hr => ?stopped, fun hrole hflags hw => ?sat, fun hfirst hw => ?first⟩
  case stopped =>
    rw [(hresults hw hr).2]
    exact SMap.find_put_self ..
  case sat =>
    have hrole' : engRole u e = 0 := (hu.2 _ (engRoleKey_ne_programStops e g)).trans hrole
    exact (hsat hrole' hflags hw).of_num (hu.2 _ (satCount_ne_programStops g g))
  case first =>
    have hfirst' : ¬stopKnown s e r why = true := by rw [stopKnown_of_first hfirst]; decide
    have hsource : u = (v.bump (Obj.programStops g)).raise (programSource g) g why := if_neg hfirst'
    obtain ⟨hraised, hnum⟩ := hrest hw
    refine ⟨?_, ?_⟩
    · have hcount : Counted (Obj.programStops g) s u := hsource ▸ counted_bump (Obj.programStops g) v
      exact hcount.trans_num (hnum _ (satCount_ne_programStops g g).symm)
    · rw [hraised, hsource, State.raise_raised, State.bump_raised]
      rfl

/-! ### DONE -/

/-- Engine x as DONE of its run r leaves it, before the run is over, with the set that it delivers. -/
def deliveredEngine (r : Run) (set : SMap Word32) (inject : Bool) (x : Engine) : Engine :=
  { x with
    rerunSets := if r.rerun then x.rerunSets ++ [(r.entry, set)] else x.rerunSets
    delivered := SMap.put x.delivered r.entry set, injectNext := if inject then false else x.injectNext
    injectHit := if r.entry = 1 then inject else x.injectHit }

theorem deliver_eq {s : State} {e : Nat} {r : Run} (hinject : (s.engineOf e).injectNext = false) :
    deliver s e r =
      afterRun (countSat (s.modEngine e (deliveredEngine r (outputSet s (s.engineOf e).group r false) false)) e) e := by
  unfold deliver
  simp only [hinject, Bool.false_and]
  rfl

/-- Without an injection each port of the entry is delivered as staged, or as last latched (R258). -/
theorem outputSet_false (g : Nat) (r : Run) :
    outputSet s g r false = (outPorts g r.entry).map fun p => (p, (SMap.find r.staged p).getD (SMap.findD (s.groupOf g).latched p 0)) := by
  conv_rhs => rw [← List.zipIdx_map_fst 0 (outPorts g r.entry), List.map_map]
  rfl

theorem execReinDone_of_word {r : Run} (h : Runs s e r) (hw : instrHere (s.engineOf e) = wordR 0x3F 0 0 0) :
    exec (.reinDone e) s = .next (deliver s e r) := by
  obtain ⟨hrun, hbudget⟩ := h
  rw [← engineOf_fin] at hrun
  show execReinDone e s = _
  rw [execReinDone, hrun]
  exact if_neg (not_or.mpr ⟨Nat.not_le.mpr hbudget, not_not.mpr hw⟩)

/-- Settles O12: DONE delivers the entry's ports; a fault or a budget stop is remembered and reported once. -/
theorem reinRunEndsWithOrWithoutOutputs : Obligations.ReinRunEndsWithOrWithoutOutputs := by
  intro s e r x g first
  refine ⟨fun hruns hw hinject => ⟨_, execReinDone_of_word s e hruns hw, ?_⟩, fun hrun hfault => ⟨stopRun s e 1, if_pos hfault, ?_⟩,
    fun hrun hbudget => ⟨stopRun s e 2, ?_, ?_⟩⟩
  · let set := outputSet s g r false
    let u := s.modEngine e (deliveredEngine r set false)
    have hu : u.engineOf e = deliveredEngine r set false x := engineOf_modEngine s _ e.isLt
    obtain ⟨hover, hresults, hsat, -⟩ := afterRun_countSat hu fun _ => ⟨rfl, rfl, rfl, rfl, rfl⟩
    rw [deliver_eq hinject]
    refine ⟨hover, fun hwaiting hreruns => ?_, hsat⟩
    rw [(hresults hwaiting hreruns).1, ← outputSet_false]
    exact SMap.find_put_self ..
  · exact stopRun_effect 1 hrun
  · show execReinBudgetStop e s = _
    rw [execReinBudgetStop, show (s.engineOf e.val).run = some r from hrun]
    exact if_pos hbudget
  · exact stopRun_effect 2 hrun

end Sys2Proof.Machine
end

section
/-!
PROOFS. The step on an empty queue: what a tick without a command leaves unchanged, and which frame leaves the girth line.
-/

namespace Sys2Proof.Machine

variable (s : State)

/-- The tick of the time base changes objects only. -/
theorem idle_eq : idle s = { s with objs := (idle s).objs, free := (idle s).free } := by
  unfold idle State.bump State.add
  dsimp only
  split
  · split <;> rfl
  · rfl

theorem idle_obj_other {k : Key} (hk : k ≠ Obj.tick) : (idle s).obj k = s.obj k := by
  unfold idle
  split
  · exact s.obj_bump_other hk
  · rfl

theorem idle_girth : (idle s).girth = s.girth := by rw [idle_eq]

theorem idle_outs : (idle s).outs = s.outs := by rw [idle_eq]

theorem idle_of_power (h : s.power.powerGood = true) : idle s = s.bump Obj.tick := if_pos h

theorem idle_of_no_power (h : s.power.powerGood = false) : idle s = s := by
  unfold idle
  rw [h]
  rfl

theorem idle_tick (h : s.power.powerGood = true) (hroom : s.num Obj.tick + 1 < 2 ^ widthOf Obj.tick) :
    (idle s).tick = s.num Obj.tick + 1 := by
  rw [idle_of_power s h]
  exact s.num_bump_self _ hroom

theorem powerGood_of_girthRuns (h : girthRuns s = true) : s.power.powerGood = true := by
  simp only [girthRuns, mainPowered, Bool.and_eq_true] at h
  obtain ⟨-, hpower, -⟩ := h
  exact hpower

/-- Nothing that says whether the girth input listens reads the time base. -/
theorem girthRuns_idle : girthRuns (idle s) = girthRuns s := by
  have hstate : (idle s).num Obj.girthInputState = s.num Obj.girthInputState :=
    congrArg Val.toNum (idle_obj_other s (by decide))
  have henable : (idle s).num Obj.girthInputEnable = s.num Obj.girthInputEnable :=
    congrArg Val.toNum (idle_obj_other s (by decide))
  have hstart : (idle s).start = s.start := by rw [idle_eq]
  have hpower : (idle s).power = s.power := by rw [idle_eq]
  simp only [girthRuns, girthDelivers, mainPowered, hstate, henable, hstart, hpower]

theorem girthHop_idle : girthHop (idle s) = girthHop s :=
  congrArg Val.toNum (idle_obj_other s (by decide))

/-- A frame that leaves changes the girth part and what went out. -/
theorem txLeave_eq : txLeave s = { s with girth := (txLeave s).girth, outs := (txLeave s).outs } := by
  unfold txLeave
  split
  · split <;> rfl
  · rfl

theorem txLeave_of_no_frame (h : s.girth.tx = []) : txLeave s = s := by
  unfold txLeave
  rw [h]

theorem txLeave_of_not_runs (h : girthRuns s = false) : txLeave s = s := by
  unfold txLeave
  rw [h]
  cases s.girth.tx <;> rfl

theorem txLeave_of_busy_line (h : ¬ s.girth.lineFree ≤ s.tick) : txLeave s = s := by
  unfold txLeave
  split
  · exact if_neg (by simp [h])
  · rfl

/-- A frame that is no SYNC leaves with no hops, and as it was queued. -/
theorem txLeave_of_front {typ p : Nat} {rest : List (Nat × Nat)} (hfront : s.girth.tx = (typ, p) :: rest) (hruns : girthRuns s = true)
    (hline : s.girth.lineFree ≤ s.tick) (htyp : typ ≠ gtSync) :
    (txLeave s).girth.tx = rest ∧ (txLeave s).outs = .girth (girthFrame typ (girthHop s) 0 p true) :: s.outs := by
  simp [txLeave, hfront, hruns, hline, htyp, leavingPayload, State.emit, State.setGirth]

theorem timePasses_eq : timePasses s = { s with
    objs := (timePasses s).objs, girth := (timePasses s).girth, outs := (timePasses s).outs, free := (timePasses s).free } := by
  unfold timePasses
  rw [txLeave_eq, idle_eq]

theorem timePasses_objs : (timePasses s).objs = (idle s).objs := by
  unfold timePasses
  rw [txLeave_eq]

/-- Settles O1: the step is a match on the queue; a tick is `idle`, which is about the time base alone, and then `txLeave`, by its three cases. -/
theorem stepRunsFrontCommand : Obligations.StepRunsFrontCommand := by
  unfold Obligations.StepRunsFrontCommand
  refine ⟨fun c r s => rfl, fun s hqueue => ⟨timePasses s, ?_, timePasses_eq s, fun k hk => ?_, fun hpower => ?_, fun hpower => ?_, ?_, ?_⟩⟩
  · simp [step, hqueue]
  · exact (State.obj_congr (timePasses_objs s) k).trans (idle_obj_other s hk)
  · refine (counted_bump Obj.tick s).trans_num ?_
    rw [State.num_congr (timePasses_objs s), idle_of_power s hpower]
  · rw [timePasses_objs, idle_of_no_power s hpower]
  · intro hno
    have hstays : timePasses s = idle s := by
      cases hno with
      | inl hempty => exact txLeave_of_no_frame _ ((congrArg Girth.tx (idle_girth s)).trans hempty)
      | inr hstopped => exact txLeave_of_not_runs _ ((girthRuns_idle s).trans hstopped)
    exact ⟨hstays ▸ idle_girth s, hstays ▸ idle_outs s⟩
  · intro typ p rest hfront hruns hroom
    have htick := idle_tick s (powerGood_of_girthRuns s hruns) hroom
    constructor
    · intro hbusy
      have hstays : timePasses s = idle s :=
        txLeave_of_busy_line _ (by rw [idle_girth, htick]; omega)
      exact ⟨hstays ▸ idle_girth s, hstays ▸ idle_outs s⟩
    · intro hline htyp
      have hleaves := txLeave_of_front (idle s) (by rw [idle_girth]; exact hfront) ((girthRuns_idle s).trans hruns)
        (by rw [idle_girth, htick]; omega) htyp
      rwa [girthHop_idle, idle_outs] at hleaves

/-- Settles O2: the reset state is one closed value, and each clause reads one part of it. -/
theorem resetState : Obligations.ResetState := by
  unfold Obligations.ResetState
  refine ⟨rfl, by decide, by decide, rfl, rfl, rfl, rfl, rfl, rfl, rfl, rfl, rfl, rfl, ?_⟩
  decide

end Sys2Proof.Machine
end

section
/-!
PROOFS. Reads of one channel, player, actuator and controller after the named updates of the state, and of a map after a foldl of writes.
-/

namespace Sys2Proof.Machine

variable (s : State)

theorem chanOf_modChan {a : Nat} (f : Channel → Channel) (h : a < 4) : (s.modChan a f).chanOf a = f (s.chanOf a) :=
  vget_vmod_self s.chan a f _ h

theorem chanOf_modChan_other {a i : Nat} (f : Channel → Channel) (h : a ≠ i) : (s.modChan a f).chanOf i = s.chanOf i :=
  vget_vmod_other s.chan f _ h

theorem playerOf_modPlayer {p : Nat} (f : Player → Player) (h : p < 8) : (s.modPlayer p f).playerOf p = f (s.playerOf p) :=
  vget_vmod_self s.players p f _ h

theorem playerOf_modPlayer_other {p i : Nat} (f : Player → Player) (h : p ≠ i) : (s.modPlayer p f).playerOf i = s.playerOf i :=
  vget_vmod_other s.players f _ h

theorem actOf_modAct {a : Nat} (f : Actuator → Actuator) (h : a < 4) : (s.modAct a f).actOf a = f (s.actOf a) :=
  vget_vmod_self s.acts a f _ h

theorem actOf_modAct_other {a i : Nat} (f : Actuator → Actuator) (h : a ≠ i) : (s.modAct a f).actOf i = s.actOf i :=
  vget_vmod_other s.acts f _ h

theorem groupOf_modGroup_other {g i : Nat} (f : Group → Group) (h : g ≠ i) : (s.modGroup g f).groupOf i = s.groupOf i :=
  vget_vmod_other s.groups f _ h

theorem ctrl_modCtrl (p : Port) (f : Controller → Controller) : (s.modCtrl p f).ctrl p = f (s.ctrl p) := by
  cases p
  · exact vget_vmod_self s.host.ctrls 0 f _ (by decide)
  · exact vget_vmod_self s.host.ctrls 1 f _ (by decide)

theorem ctrl_modCtrl_other {p q : Port} (f : Controller → Controller) (h : p ≠ q) : (s.modCtrl p f).ctrl q = s.ctrl q := by
  cases p <;> cases q
  · exact absurd rfl h
  · exact vget_vmod_other s.host.ctrls f _ (by decide)
  · exact vget_vmod_other s.host.ctrls f _ (by decide)
  · exact absurd rfl h

variable {s} {t : State}

theorem chanOf_congr (h : t.chan = s.chan) (a : Nat) : t.chanOf a = s.chanOf a := by
  rw [State.chanOf, h, State.chanOf]

theorem playerOf_congr (h : t.players = s.players) (p : Nat) : t.playerOf p = s.playerOf p := by
  rw [State.playerOf, h, State.playerOf]

theorem actOf_congr (h : t.acts = s.acts) (a : Nat) : t.actOf a = s.actOf a := by
  rw [State.actOf, h, State.actOf]

theorem ctrl_congr (h : t.host = s.host) (p : Port) : t.ctrl p = s.ctrl p := by
  rw [State.ctrl, h, State.ctrl]

end Sys2Proof.Machine
end

section
/-!
PROOFS. Triggers of the rein engines (R247, R250, R259): what the distributor does to each engine of a group.
-/

namespace Sys2Proof.Machine

/-! ### An operation for every number of a list -/

theorem State.each_inv {α : Type} {P : State → Prop} {f : State → α → State} {l : List α} {s : State} (h : P s)
    (hf : ∀ t x, x ∈ l → P t → P (f t x)) : P (s.each l f) := by
  unfold State.each
  induction l generalizing s with
  | nil => exact h
  | cons x r ih => exact ih (hf s x List.mem_cons_self h) fun t y hy => hf t y (List.mem_cons_of_mem _ hy)

theorem State.each_append {α : Type} (s : State) (l m : List α) (f : State → α → State) : s.each (l ++ m) f = (s.each l f).each m f :=
  List.foldl_append ..

/-! ### What a trigger leaves of an engine that it does not reach -/

/-- Engine y goes on as x: the same run with the same registers, and the same runs and triggers behind it. -/
def SameRun (x y : Engine) : Prop :=
  y.run = x.run ∧ y.ctx = x.ctx ∧ y.saved = x.saved ∧ y.waiting = x.waiting ∧ y.reruns = x.reruns ∧ y.group = x.group ∧ y.rejoin = x.rejoin

theorem SameRun.refl (x : Engine) : SameRun x x := ⟨rfl, rfl, rfl, rfl, rfl, rfl, rfl⟩

theorem SameRun.trans {x y z : Engine} (h : SameRun x y) (g : SameRun y z) : SameRun x z := by
  obtain ⟨h1, h2, h3, h4, h5, h6, h7⟩ := h
  obtain ⟨g1, g2, g3, g4, g5, g6, g7⟩ := g
  exact ⟨g1.trans h1, g2.trans h2, g3.trans h3, g4.trans h4, g5.trans h5, g6.trans h6, g7.trans h7⟩

theorem SameRun.rejoin_ne {x y : Engine} (h : SameRun x y) (hx : x.rejoin ≠ 3) : y.rejoin ≠ 3 := by
  obtain ⟨-, -, -, -, -, -, h7⟩ := h
  rwa [h7]

theorem sameRun_of_eq {x y : Engine} (h : y = x) : SameRun x y := h ▸ .refl x

theorem sameRun_modEngine (s : State) (e i : Nat) {f : Engine → Engine} (hf : ∀ x, SameRun x (f x)) :
    SameRun (s.engineOf i) ((s.modEngine e f).engineOf i) := by
  unfold State.engineOf State.modEngine
  rw [vget_vmod]
  split
  · exact hf _
  · exact .refl _

theorem mem_joiners_rejoin {s : State} {g i : Nat} (h : i ∈ joiners s g) : (s.engineOf i).rejoin = 3 := by
  unfold joiners at h
  simp only [List.mem_filter, Bool.and_eq_true, decide_eq_true_eq] at h
  exact h.2.2

section
variable {s : State} {i : Nat} (hi : (s.engineOf i).rejoin ≠ 3)
include hi

theorem ne_of_mem_joiners {g j : Nat} (hj : j ∈ joiners s g) : j ≠ i := by
  rintro rfl
  exact hi (mem_joiners_rejoin hj)

theorem joinRegisters_engineOf (g active : Nat) : (joinRegisters s g active).engineOf i = s.engineOf i := by
  unfold joinRegisters
  refine State.each_inv (P := fun t => t.engineOf i = s.engineOf i) rfl fun t j hj ht => ?_
  exact (engineOf_modEngine_other t _ (ne_of_mem_joiners hi hj)).trans ht

/-- A checkpoint changes no run of an engine that does not join at it (R275). -/
theorem takeCheckpoint_sameRun (e : Nat) : SameRun (s.engineOf i) ((takeCheckpoint s e).engineOf i) := by
  unfold takeCheckpoint
  extract_lets s1 s2 g s3 s4
  have h1 : SameRun (s.engineOf i) (s1.engineOf i) := sameRun_modEngine s e i fun x => ⟨rfl, rfl, rfl, rfl, rfl, rfl, rfl⟩
  have h2 : SameRun (s.engineOf i) (s2.engineOf i) :=
    h1.trans (sameRun_modEngine s1 e i fun x => ⟨rfl, rfl, rfl, rfl, rfl, rfl, rfl⟩)
  split
  · have h4 : SameRun (s.engineOf i) (s4.engineOf i) := by
      refine h2.trans (sameRun_of_eq ?_)
      show s4.engineOf i = s3.engineOf i
      unfold s4
      split <;> rfl
    exact h4.trans (sameRun_of_eq (joinRegisters_engineOf (h4.rejoin_ne hi) g e))
  · exact h2

end

/-! ### The engine that a trigger reaches -/

/-- Engine y runs an entry from its first instruction, with the registers of x. -/
def Began (x y : Engine) (entry pc : Nat) (inputs : SMap Word32) : Prop :=
  y.run = some { entry := entry, count := 0, staged := [], inputs := inputs, rerun := false } ∧
  y.ctx = { x.ctx with pc := BitVec.ofNat 11 pc, stack := [] }

theorem startRun_self {s : State} {e : Nat} (he : e < 16) (entry : Nat) (inputs : SMap Word32) :
    let y := (startRun s e entry inputs false).engineOf e
    Began (s.engineOf e) y entry (entryPc s e entry) inputs ∧ y.saved = (s.engineOf e).saved ∧
      y.rejoin = (s.engineOf e).rejoin := by
  intro y
  have hy : y = _ := engineOf_modEngine s _ he
  rw [hy]
  exact ⟨⟨rfl, rfl⟩, rfl, rfl⟩

theorem startRun_other (s : State) {j i : Nat} (hji : j ≠ i) (entry : Nat) (inputs : SMap Word32) (rerun : Bool) :
    (startRun s j entry inputs rerun).engineOf i = s.engineOf i := engineOf_modEngine_other s _ hji

theorem entryPc_congr {s t : State} {e : Nat} (hfw : t.fw = s.fw) (hgroup : (t.engineOf e).group = (s.engineOf e).group) (entry : Nat) :
    entryPc t e entry = entryPc s e entry := by
  unfold entryPc groupRecord
  rw [hfw, hgroup]

theorem takeCheckpoint_fw (s : State) (e : Nat) : (takeCheckpoint s e).fw = s.fw :=
  within_iff.mp (@takeCheckpoint_frame [.objs, .dict, .engines, .groups] s (touch_of rfl) (touch_of rfl) (touch_of rfl) (touch_of rfl) s e
    (.refl _ s)) .fw (by decide)

theorem triggerEngine_fw (s : State) (e entry : Nat) (inputs : SMap Word32) : (triggerEngine s e entry inputs).fw = s.fw :=
  within_iff.mp (@triggerEngine_frame [.objs, .dict, .engines, .groups] s (touch_of rfl) (touch_of rfl) (touch_of rfl) (touch_of rfl) s e entry
    inputs (.refl _ s)) .fw (by decide)

section
variable {s : State} {i : Nat} (hi : (s.engineOf i).rejoin ≠ 3) (entry : Nat) (inputs : SMap Word32)
include hi

/-- The engines that join at the checkpoint start the run; the others are as they were. -/
theorem serveCheckpoint_sameRun (e : Nat) :
    let join := if engRole s e = roActive then joiners s (s.engineOf e).group else []
    let u := (takeCheckpoint s e).each join fun s j => startRun s j entry inputs false
    SameRun (s.engineOf i) (u.engineOf i) ∧ u.fw = s.fw := by
  intro join u
  have hjoin : ∀ j ∈ join, j ≠ i := by
    intro j hj
    unfold join at hj
    split at hj
    · exact ne_of_mem_joiners hi hj
    · cases hj
  refine State.each_inv (P := fun t => SameRun (s.engineOf i) (t.engineOf i) ∧ t.fw = s.fw)
    ⟨takeCheckpoint_sameRun hi e, takeCheckpoint_fw s e⟩ fun t j hj ht => ⟨?_, ht.2⟩
  exact ht.1.trans (sameRun_of_eq (startRun_other t (hjoin j hj) ..))

theorem serveTrigger_other {f : Nat} (hfi : f ≠ i) : SameRun (s.engineOf i) ((serveTrigger s f entry inputs).engineOf i) := by
  unfold serveTrigger
  split
  · exact (serveCheckpoint_sameRun hi entry inputs f).1.trans (sameRun_of_eq (startRun_other _ hfi ..))
  · exact sameRun_of_eq (startRun_other _ hfi ..)

theorem serveTrigger_self (hi16 : i < 16) :
    let y := (serveTrigger s i entry inputs).engineOf i
    Began (s.engineOf i) y entry (entryPc s i entry) inputs ∧ y.saved = (s.engineOf i).saved ∧ y.rejoin = (s.engineOf i).rejoin := by
  unfold serveTrigger
  split
  · have hcheck := serveCheckpoint_sameRun hi entry inputs i
    dsimp only at hcheck ⊢
    generalize (takeCheckpoint s i).each _ (fun s j => startRun s j entry inputs false) = u at hcheck ⊢
    obtain ⟨⟨-, hctx, hsaved', -, -, hgroup, hrejoin'⟩, hfw⟩ := hcheck
    obtain ⟨hbegan, hsaved, hrejoin⟩ := startRun_self (s := u) hi16 entry inputs
    rw [entryPc_congr hfw hgroup, Began, hctx] at hbegan
    exact ⟨hbegan, hsaved.trans hsaved', hrejoin.trans hrejoin'⟩
  · exact startRun_self (s := s) hi16 entry inputs

theorem triggerEngine_other {f : Nat} (hfi : f ≠ i) : SameRun (s.engineOf i) ((triggerEngine s f entry inputs).engineOf i) := by
  have hwait := sameRun_of_eq (engineOf_modEngine_other s (fun x => { x with waiting := SMap.put x.waiting entry inputs }) hfi)
  unfold triggerEngine
  extract_lets x wait
  split
  · exact hwait
  · split
    · exact serveTrigger_other hi entry inputs hfi
    · split
      · exact hwait
      · split
        · have hsave := engineOf_modEngine_other s (fun y => { y with saved := (‹Run›, y.ctx) :: y.saved }) hfi
          have hserve := serveTrigger_other (by rw [hsave]; exact hi) entry inputs hfi
          rwa [hsave] at hserve
        · exact hwait

end

/-- What a trigger does to an engine x that it reaches (R250): y starts the entry, preempts a run of lower priority for it, or waits with it. -/
def Triggered (x y : Engine) (entry pc : Nat) (inputs : SMap Word32) : Prop :=
  (x.run = none → Began x y entry pc inputs ∧ y.saved = x.saved) ∧
  ∀ r, x.run = some r → r.rerun = false →
    (entry < r.entry → Began x y entry pc inputs ∧ y.saved = (r, x.ctx) :: x.saved) ∧
    (r.entry ≤ entry → y.run = some r ∧ y.ctx = x.ctx ∧ (x.waiting = [] → y.waiting = [(entry, inputs)]))

section
variable {x y z : Engine} {entry pc : Nat} {inputs : SMap Word32}

theorem Triggered.of_sameRun (hxy : SameRun x y) (h : Triggered y z entry pc inputs) : Triggered x z entry pc inputs := by
  obtain ⟨hrun, hctx, hsaved, hwaiting, -, -, -⟩ := hxy
  unfold Triggered Began at h ⊢
  rwa [hrun, hctx, hsaved, hwaiting] at h

theorem Triggered.trans_sameRun (h : Triggered x y entry pc inputs) (hyz : SameRun y z) : Triggered x z entry pc inputs := by
  obtain ⟨hrun, hctx, hsaved, hwaiting, -, -, -⟩ := hyz
  unfold Triggered Began at h ⊢
  rwa [hrun, hctx, hsaved, hwaiting]

end

theorem triggerEngine_self {s : State} {i : Nat} (hi : (s.engineOf i).rejoin ≠ 3) (hi16 : i < 16) (hreruns : (s.engineOf i).reruns = [])
    (entry : Nat) (inputs : SMap Word32) :
    let y := (triggerEngine s i entry inputs).engineOf i
    Triggered (s.engineOf i) y entry (entryPc s i entry) inputs ∧ y.rejoin ≠ 3 := by
  have hwait := engineOf_modEngine s (fun x => { x with waiting := SMap.put x.waiting entry inputs }) hi16
  unfold triggerEngine
  dsimp only
  rw [hreruns]
  cases hrun : (s.engineOf i).run with
  | none =>
    obtain ⟨hbegan, hsaved, hrejoin⟩ := serveTrigger_self hi entry inputs hi16
    exact ⟨⟨fun _ => ⟨hbegan, hsaved⟩, fun r hr => by rw [hrun] at hr; cases hr⟩, hrejoin ▸ hi⟩
  | some r =>
    simp only [List.isEmpty_nil, Bool.not_true, Bool.false_eq_true, if_false]
    by_cases hrerun : r.rerun = true
    · rw [if_pos hrerun, hwait]
      refine ⟨⟨fun h => (by rw [hrun] at h; cases h), fun r' hr' hrerun' => ?_⟩, hi⟩
      rw [← Option.some.inj (hrun.symm.trans hr'), hrerun] at hrerun'
      cases hrerun'
    rw [if_neg hrerun]
    by_cases hlower : entry < r.entry
    · rw [if_pos hlower]
      have hsave := engineOf_modEngine s (fun y => { y with saved := (r, y.ctx) :: y.saved }) hi16
      have hfw : (s.modEngine i fun y => { y with saved := (r, y.ctx) :: y.saved }).fw = s.fw := rfl
      generalize (s.modEngine i fun y => { y with saved := (r, y.ctx) :: y.saved }) = u at hsave hfw ⊢
      have hserve := serveTrigger_self (s := u) (by rw [hsave]; exact hi) entry inputs hi16
      dsimp only at hserve
      rw [entryPc_congr hfw (by rw [hsave]) entry, hsave] at hserve
      obtain ⟨hbegan, hsaved, hrejoin⟩ := hserve
      refine ⟨⟨fun h => (by rw [hrun] at h; cases h), fun r' hr' _ => ?_⟩, hrejoin ▸ hi⟩
      obtain rfl : r = r' := Option.some.inj (hrun.symm.trans hr')
      exact ⟨fun _ => ⟨hbegan, hsaved⟩, fun h => absurd hlower (by omega)⟩
    · rw [if_neg hlower, hwait]
      refine ⟨⟨fun h => (by rw [hrun] at h; cases h), fun r' hr' _ => ?_⟩, hi⟩
      obtain rfl : r = r' := Option.some.inj (hrun.symm.trans hr')
      exact ⟨fun h => absurd h hlower, fun _ => ⟨hrun, rfl, fun hwaiting => by simp [hwaiting, SMap.put]⟩⟩

theorem mem_groupEngines {s : State} {g e : Nat} : e ∈ groupEngines s g ↔ e < 16 ∧ (s.engineOf e).group = g ∧ engRole s e ≠ 4 := by
  simp only [groupEngines, List.mem_filter, List.mem_range, Bool.and_eq_true, decide_eq_true_eq]
  exact Iff.rfl

theorem nodup_groupEngines (s : State) (g : Nat) : (groupEngines s g).Nodup := List.nodup_range.filter _

/-- An engine that joins at no checkpoint is the same before its own trigger as before those of the engines ahead of it. -/
theorem each_triggerEngine_other {s : State} {i : Nat} (hi : (s.engineOf i).rejoin ≠ 3) (entry : Nat) (inputs : SMap Word32) {l : List Nat}
    (hl : i ∉ l) :
    let u := s.each l fun s e => triggerEngine s e entry inputs
    SameRun (s.engineOf i) (u.engineOf i) ∧ u.fw = s.fw := by
  intro u
  refine State.each_inv (P := fun t => SameRun (s.engineOf i) (t.engineOf i) ∧ t.fw = s.fw) ⟨.refl _, rfl⟩ fun t e he ht => ⟨?_, ?_⟩
  · exact ht.1.trans (triggerEngine_other (ht.1.rejoin_ne hi) entry inputs (fun h => hl (h ▸ he)))
  · exact (triggerEngine_fw t e entry inputs).trans ht.2

theorem each_triggerEngine {s : State} {i : Nat} (hi : (s.engineOf i).rejoin ≠ 3) (hi16 : i < 16) (hreruns : (s.engineOf i).reruns = [])
    (entry : Nat) (inputs : SMap Word32) {l : List Nat} (hl : i ∈ l) (hnodup : l.Nodup) :
    Triggered (s.engineOf i) ((s.each l fun s e => triggerEngine s e entry inputs).engineOf i) entry (entryPc s i entry) inputs := by
  obtain ⟨before, after, rfl⟩ := List.append_of_mem hl
  have hbefore : i ∉ before := fun h => (List.nodup_append.mp hnodup).2.2 i h i List.mem_cons_self rfl
  have hafter : i ∉ after := (List.nodup_cons.mp (List.nodup_append.mp hnodup).2.1).1
  rw [State.each_append]
  obtain ⟨hsame, hfw⟩ := each_triggerEngine_other hi entry inputs hbefore
  generalize (s.each before fun s e => triggerEngine s e entry inputs) = u at hsame hfw ⊢
  obtain ⟨htriggered, hstays⟩ := triggerEngine_self (hsame.rejoin_ne hi) hi16
    (by obtain ⟨-, -, -, -, hreruns', -, -⟩ := hsame; rw [hreruns', hreruns]) entry inputs
  have hpc : entryPc u i entry = entryPc s i entry := by
    obtain ⟨-, -, -, -, -, hgroup, -⟩ := hsame
    exact entryPc_congr hfw hgroup entry
  rw [hpc] at htriggered
  exact (htriggered.of_sameRun hsame).trans_sameRun (each_triggerEngine_other hstays entry inputs hafter).1

/-! ### A trigger at a group -/

theorem lostRun_of_none_waits {s : State} {g entry : Nat} (h : NoneWaits s g entry) : lostRun s g entry = s := by
  unfold lostRun
  rw [if_neg]
  simp only [List.any_eq_true, not_exists, not_and]
  intro e he
  rw [h e he]
  exact Bool.false_ne_true

/-- Sensing the inputs of a group changes no engine, no role and no image. -/
theorem groupInputs_keeps (s : State) (g : Nat) :
    (groupInputs s g).2.engines = s.engines ∧ (∀ e, engRole (groupInputs s g).2 e = engRole s e) ∧ (groupInputs s g).2.fw = s.fw ∧
    (groupInputs s g).2.groups = s.groups := by
  unfold groupInputs
  split
  · refine ⟨rfl, fun e => ?_, rfl, rfl⟩
    exact State.num_setNum_other s _ (by unfold engKey Obj.tjC Key; split <;> omega)
  · exact ⟨rfl, fun e => rfl, rfl, rfl⟩

theorem takeOffset_keeps (s : State) (g entry : Nat) :
    (takeOffset s g entry).engines = s.engines ∧ (takeOffset s g entry).objs = s.objs ∧ (takeOffset s g entry).fw = s.fw ∧
    ((takeOffset s g entry).groupOf g).posCount = (s.groupOf g).posCount := by
  unfold takeOffset
  split
  · refine ⟨rfl, rfl, rfl, ?_⟩
    rw [groupOf_modGroup _ _ (by omega)]
  · exact ⟨rfl, rfl, rfl, rfl⟩

theorem groupEngines_congr {s t : State} (hengines : t.engines = s.engines) (hrole : ∀ e, engRole t e = engRole s e) (g : Nat) :
    groupEngines t g = groupEngines s g := by
  unfold groupEngines State.engineOf
  simp only [hengines, hrole]

/-- Where no voting engine's trigger of the entry waits, the distributor senses the inputs and triggers every engine of the group with them. -/
theorem groupTrigger_eq {s : State} {g entry : Nat} (hg : g < 5) (hruns : groupRuns s g = true) (hnone : NoneWaits s g entry) :
    ∃ (inputs : SMap Word32) (u : State), groupTrigger s g entry = u.each (groupEngines s g) (fun s e => triggerEngine s e entry inputs) ∧
      u.engines = s.engines ∧ u.fw = s.fw ∧
      (u.groupOf g).posCount = if entry = 1 then (s.groupOf g).posCount + 1 else (s.groupOf g).posCount := by
  obtain ⟨hengines1, hobjs1, hfw1, hpos1⟩ := takeOffset_keeps s g entry
  obtain ⟨hengines2, hrole2, hfw2, hgroups2⟩ := groupInputs_keeps (takeOffset s g entry) g
  unfold groupTrigger
  dsimp only
  rw [lostRun_of_none_waits hnone, hruns]
  simp only [Bool.not_true, Bool.false_eq_true, if_false]
  refine ⟨(groupInputs (takeOffset s g entry) g).1, _, congrArg (State.each _ · _) (groupEngines_congr ?_ ?_ g), ?_, ?_, ?_⟩
  · exact hengines2.trans hengines1
  · exact fun e => (hrole2 e).trans (State.num_congr hobjs1 _)
  · exact hengines2.trans hengines1
  · exact hfw2.trans hfw1
  · rw [groupOf_modGroup _ _ hg, groupOf_congr hgroups2, hpos1]

/-- A field of the groups that an update leaves alone. -/
theorem field_modGroup {α : Type} {π : Group → α} {f : Group → Group} (hf : ∀ x, π (f x) = π x) (s : State) (g i : Nat) :
    π ((s.modGroup g f).groupOf i) = π (s.groupOf i) := by
  unfold State.groupOf State.modGroup
  rw [vget_vmod]
  split
  · exact hf _
  · rfl

theorem joinRegisters_groups (s : State) (g active : Nat) : (joinRegisters s g active).groups = s.groups :=
  State.each_inv (P := fun t => t.groups = s.groups) rfl fun _ _ _ ht => ht

/-- A trigger writes a group's retained triggers and its pending snapshot only. -/
def Untriggered {α : Type} (π : Group → α) : Prop := (∀ x l, π { x with retained := l } = π x) ∧ ∀ x b, π { x with snapPending := b } = π x

section
variable {α : Type} {π : Group → α} (hπ : Untriggered π)
include hπ

theorem takeCheckpoint_field (s : State) (e i : Nat) : π ((takeCheckpoint s e).groupOf i) = π (s.groupOf i) := by
  unfold takeCheckpoint
  extract_lets s1 s2 g s3 s4
  split
  · have h3 : π (s3.groupOf i) = π (s.groupOf i) := field_modGroup (fun x => hπ.1 x _) s2 g i
    rw [groupOf_congr (joinRegisters_groups s4 g e)]
    unfold s4
    split
    · exact (field_modGroup (fun x => hπ.2 x false) (s3.setBlob (Obj.snapshot g) (snapshotBytes s3 e)) g i).trans h3
    · exact h3
  · rfl

theorem serveTrigger_field (s : State) (e entry : Nat) (inputs : SMap Word32) (i : Nat) :
    π ((serveTrigger s e entry inputs).groupOf i) = π (s.groupOf i) := by
  unfold serveTrigger
  split
  · exact State.each_inv (P := fun t => π (t.groupOf i) = π (s.groupOf i)) (takeCheckpoint_field hπ s e i) fun _ _ _ ht => ht
  · rfl

theorem triggerEngine_field (s : State) (e entry : Nat) (inputs : SMap Word32) (i : Nat) :
    π ((triggerEngine s e entry inputs).groupOf i) = π (s.groupOf i) := by
  unfold triggerEngine
  extract_lets x wait
  split
  · rfl
  · split
    · exact serveTrigger_field hπ ..
    · split
      · rfl
      · split
        · exact serveTrigger_field hπ ..
        · rfl

end

/-- What the trigger of an entry does to each engine of the group that holds a role and does not wait for the registers (R250). -/
theorem groupTrigger_effect {s : State} {g entry : Nat} (hg : g < 5) (hruns : groupRuns s g = true) (hnone : NoneWaits s g entry) :
    (∃ inputs, ∀ e : Fin 16, (s.engineOf e).group = g → engRole s e ≠ 4 → (s.engineOf e).rejoin ≠ 3 → (s.engineOf e).reruns = [] →
      Triggered (s.engineOf e) ((groupTrigger s g entry).engineOf e) entry (entryPc s e entry) inputs) ∧
    ((groupTrigger s g entry).groupOf g).posCount = if entry = 1 then (s.groupOf g).posCount + 1 else (s.groupOf g).posCount := by
  obtain ⟨inputs, u, htrigger, hengines, hfw, hpos⟩ := groupTrigger_eq hg hruns hnone
  rw [htrigger]
  refine ⟨⟨inputs, fun e hgroup hrole hrejoin hreruns => ?_⟩, ?_⟩
  · have hsame : u.engineOf e = s.engineOf e := engineOf_congr hengines e
    have hserved := each_triggerEngine (s := u) (hsame ▸ hrejoin) e.isLt (hsame ▸ hreruns) entry inputs
      (mem_groupEngines.mpr ⟨e.isLt, hgroup, hrole⟩) (nodup_groupEngines s g)
    rwa [entryPc_congr hfw (congrArg Engine.group hsame), hsame] at hserved
  · exact State.each_inv (P := fun t => (t.groupOf g).posCount = _) hpos fun t e _ ht => (triggerEngine_field (π := Group.posCount) ⟨fun _ _ => rfl, fun _ _ => rfl⟩ ..).trans ht

/-! ### Latches (R258, R262) -/

/-- The agreed set is latched: its ports are the output, and the entry's misses in a row are over (R262). -/
def latchSet (s : State) (g entry : Nat) (set : SMap Word32) : State :=
  s.modGroup g fun x => { x with
    latched := set.foldl (fun m p => SMap.put m p.1 p.2) x.latched, agreed := SMap.erase x.agreed entry
    missedPos := if entry = 1 then 0 else x.missedPos, missedInner := if entry = 0 then 0 else x.missedInner }

theorem exec_reinLatch_none {s : State} {g : Fin 5} {entry : Fin 3} (h : SMap.find (s.groupOf g).agreed entry = none) :
    exec (.reinLatch g entry) s = .next s := by
  show execReinLatch g entry s = _
  unfold execReinLatch
  dsimp only
  rw [h]

theorem exec_reinLatch_some {s : State} {g : Fin 5} {entry : Fin 3} {set : SMap Word32}
    (h : SMap.find (s.groupOf g).agreed entry = some set) :
    exec (.reinLatch g entry) s = .next (latchEffects (latchSet s g entry set) g entry) := by
  show execReinLatch g entry s = _
  unfold execReinLatch
  dsimp only
  rw [h]
  rfl

theorem groupOf_latchSet (s : State) {g : Nat} (hg : g < 5) (entry : Nat) (set : SMap Word32) :
    (latchSet s g entry set).groupOf g = { s.groupOf g with
      latched := set.foldl (fun m p => SMap.put m p.1 p.2) (s.groupOf g).latched, agreed := SMap.erase (s.groupOf g).agreed entry
      missedPos := if entry = 1 then 0 else (s.groupOf g).missedPos
      missedInner := if entry = 0 then 0 else (s.groupOf g).missedInner } := groupOf_modGroup s _ hg

theorem latchedOf_latchSet (s : State) {g : Nat} (hg : g < 5) (entry : Nat) (set : SMap Word32) (port : Nat) :
    latchedOf (latchSet s g entry set) g port =
      SMap.findD (set.foldl (fun m p => SMap.put m p.1 p.2) (s.groupOf g).latched) port 0 := by
  unfold latchedOf
  rw [groupOf_latchSet s hg]

/-- A queued frame does not change the set-points that count as sent. -/
theorem queueFrame_setPoints (s : State) {a : Nat} (ha : a < 4) (f : PreampFrame) :
    ((queueFrame s a f).chanOf a).heaterSent = (s.chanOf a).heaterSent ∧ ((queueFrame s a f).chanOf a).biasSent = (s.chanOf a).biasSent := by
  have hqueued := chanOf_modChan s (fun c => { c with frames := c.frames ++ [f] }) ha
  unfold queueFrame
  generalize s.modChan a (fun c => { c with frames := c.frames ++ [f] }) = u at hqueued ⊢
  have hkept : (u.chanOf a).heaterSent = (s.chanOf a).heaterSent ∧ (u.chanOf a).biasSent = (s.chanOf a).biasSent := by
    rw [hqueued]
    exact ⟨rfl, rfl⟩
  unfold sendNext
  dsimp only
  split
  · exact hkept
  · split
    · exact hkept
    · next first _ =>
      have hsent := chanOf_modChan u (fun c => { c with onBus := some first, frames := c.frames.erase first }) ha
      exact ⟨(congrArg Channel.heaterSent hsent).trans hkept.1, (congrArg Channel.biasSent hsent).trans hkept.2⟩

theorem sendSetPoints_parts (s : State) (a : Nat) :
    (sendSetPoints s a).objs = s.objs ∧ (sendSetPoints s a).groups = s.groups := by
  have h := within_iff.mp (@sendSetPoints_frame [.chan, .outs] s (touch_of rfl) (touch_of rfl) s a (.refl _ s))
  exact ⟨h .objs (by decide), h .groups (by decide)⟩

/-- Where a preamp's format is selected, it holds the latched heater, within HEATER_MAX, and the latched bias when its frames are sent. -/
theorem sendSetPoints_sent {s : State} {a : Nat} (ha : a < 4) (h : formatSelected s a = true) :
    ((sendSetPoints s a).chanOf a).heaterSent = min ((latchedOf s a 0x26).toNat % 256) (s.num (Obj.heaterMax a)) ∧
    ((sendSetPoints s a).chanOf a).biasSent = (latchedOf s a 0x27).toNat % 256 := by
  unfold sendSetPoints
  rw [h]
  simp only [Bool.not_true, Bool.false_eq_true, if_false]
  generalize min ((latchedOf s a 0x26).toNat % 256) (s.num (Obj.heaterMax a)) = heater
  generalize (latchedOf s a 0x27).toNat % 256 = bias
  have hheater : ((if heater ≠ (s.chanOf a).heaterSent then
      (setPointFrame s a (preampRegs s a).heater heater).modChan a fun c => { c with heaterSent := heater } else s).chanOf a).heaterSent = heater ∧
    ((if heater ≠ (s.chanOf a).heaterSent then
      (setPointFrame s a (preampRegs s a).heater heater).modChan a fun c => { c with heaterSent := heater } else s).chanOf a).biasSent =
      (s.chanOf a).biasSent := by
    split
    · rw [chanOf_modChan _ _ ha]
      exact ⟨rfl, (queueFrame_setPoints s ha _).2⟩
    · next hsame => exact ⟨(not_not.mp hsame).symm, rfl⟩
  generalize (if heater ≠ (s.chanOf a).heaterSent then _ else s) = u at hheater ⊢
  obtain ⟨hheater, hbias⟩ := hheater
  split
  · rw [chanOf_modChan _ _ ha]
    exact ⟨(queueFrame_setPoints u ha _).1.trans hheater, rfl⟩
  · next hsame => exact ⟨hheater, hbias.trans (not_not.mp hsame).symm⟩

/-- Reads of a map that a few writes make. -/
theorem findD_put {α : Type} (m : SMap α) (k j : Nat) (x d : α) : SMap.findD (SMap.put m k x) j d = if j = k then x else SMap.findD m j d := by
  unfold SMap.findD
  rw [SMap.find_put]
  split <;> rfl

theorem latchEffects_inner (s : State) {a : Nat} (ha : a < 4) :
    latchEffects s a 0 = s.emit (.link "VCM_CMD" [(a : Int), (latchedOf s a 0x20).toInt, (latchedOf s a 0x21).toInt]) := if_pos ha

theorem latchEffects_position (s : State) {a : Nat} (ha : a < 4) : latchEffects s a 1 = s := if_pos ha

theorem latchEffects_outer (s : State) {a : Nat} (ha : a < 4) : latchEffects s a 2 = sendSetPoints s a := if_pos ha

theorem latchEffects_spindleInner (s : State) : latchEffects s 4 0 = s.emit (.link "SPIN_CMD" [(latchedOf s 4 0x20).toInt]) := rfl

theorem latchEffects_spindlePosition (s : State) :
    latchEffects s 4 1 = if s.num Obj.spinMode = smRein then showStatus s else s := rfl

theorem latchEffects_spindleOuter (s : State) (lim : Int) (hlim : (s.num Obj.targetRpm * 1024 * 5 / 1000 : Nat) = lim) :
    latchEffects s 4 2 =
      s.modGroup 4 fun x => { x with latched := SMap.put x.latched 0x25 (wi32 (max (-lim) (min lim (latchedOf s 4 0x25).toInt))) } := by
  subst hlim
  rfl

/-- AT_SPEED and PHASE_LOCKED show the latched STATUS of the spindle group (R295). -/
theorem showStatus_shows (s : State) :
    (showStatus s).num Obj.atSpeed = (latchedOf s 4 0x24).toNat % 2 ∧
    (showStatus s).num Obj.phaseLocked = if speedNear s 10 then (latchedOf s 4 0x24).toNat / 2 % 2 else 0 := by
  unfold showStatus latchedOf
  generalize (SMap.findD (s.groupOf 4).latched 0x24 0).toNat = status
  constructor
  · rw [State.num_setNum_other _ _ (by decide), State.num_setNum_self]
  · rw [State.num_setNum_self]

/-- Settles O13: the distributor's trigger reaches each engine of the group once, and an engine that does not wait for the registers is left
alone by the triggers of the others; a latch puts the agreed set's ports into the output. -/
theorem reinTriggersStartRunsAndLatchesEndThem : Obligations.ReinTriggersStartRunsAndLatchesEndThem := by
  unfold Obligations.ReinTriggersStartRunsAndLatchesEndThem
  refine ⟨fun s a entry => ⟨?_, fun h => if_neg h, ?_⟩, fun s a g entry u v w => ?_⟩
  · intro hruns hnone hwedge
    obtain ⟨⟨inputs, hbegins⟩, -⟩ := groupTrigger_effect (by omega) hruns hnone
    exact ⟨_, if_pos hwedge, inputs, hbegins⟩
  · intro hruns hnone
    obtain ⟨⟨inputs, hbegins⟩, hpos⟩ := groupTrigger_effect (by omega) hruns hnone
    exact ⟨_, rfl, ⟨inputs, hbegins⟩, hpos⟩
  · intro agreed lim
    refine ⟨exec_reinLatch_none, ?_, ?_, ?_, ?_, ?_, ?_⟩
    · intro h
      have hlatched := latchedOf_latchSet s (show a.val < 5 by omega) 0 [(0x20, u), (0x21, v)]
      have hu := (hlatched 0x20).trans (show _ = u by simp [findD_put])
      have hv := (hlatched 0x21).trans (show _ = v by simp [findD_put])
      refine ⟨_, (exec_reinLatch_some h).trans (congrArg _ (latchEffects_inner _ a.isLt)), hu, hv,
        congrArg Group.missedInner (groupOf_latchSet s (g := a) (by omega) 0 _), rfl, ?_⟩
      exact congrArg₂ (fun x y : Word32 => Out.link "VCM_CMD" [(a.val : Int), x.toInt, y.toInt] :: s.outs) hu hv
    · intro h
      have hlatched := latchedOf_latchSet s (show a.val < 5 by omega) 1 [(0x22, u), (0x23, v), (0x24, w)]
      refine ⟨_, (exec_reinLatch_some h).trans (congrArg _ (latchEffects_position _ a.isLt)), ?_, ?_, ?_,
        congrArg Group.missedPos (groupOf_latchSet s (g := a) (by omega) 1 _), rfl, rfl⟩
      · exact (hlatched 0x22).trans (by simp [findD_put])
      · exact (hlatched 0x23).trans (by simp [findD_put])
      · exact (hlatched 0x24).trans (by simp [findD_put])
    · intro h
      have hlatched := latchedOf_latchSet s (show a.val < 5 by omega) 2 [(0x25, u), (0x26, v), (0x27, w)]
      obtain ⟨hobjs, hgroups⟩ := sendSetPoints_parts (latchSet s a 2 [(0x25, u), (0x26, v), (0x27, w)]) a
      have hkept : ∀ port, latchedOf (sendSetPoints (latchSet s a 2 [(0x25, u), (0x26, v), (0x27, w)]) a) a port =
          latchedOf (latchSet s a 2 [(0x25, u), (0x26, v), (0x27, w)]) a port :=
        fun port => congrArg (fun g => SMap.findD (Group.latched g) port 0) (groupOf_congr hgroups a)
      have hv := (hlatched 0x26).trans (show _ = v by simp [findD_put])
      have hw := (hlatched 0x27).trans (show _ = w by simp [findD_put])
      refine ⟨_, (exec_reinLatch_some h).trans (congrArg _ (latchEffects_outer _ a.isLt)), ?_, ?_, ?_, hobjs, fun hformat => ?_⟩
      · exact (hkept 0x25).trans ((hlatched 0x25).trans (by simp [findD_put]))
      · exact (hkept 0x26).trans hv
      · exact (hkept 0x27).trans hw
      · obtain ⟨hheater, hbias⟩ := sendSetPoints_sent (s := latchSet s a 2 [(0x25, u), (0x26, v), (0x27, w)]) a.isLt hformat
        rw [hv] at hheater
        rw [hw] at hbias
        exact ⟨hheater, hbias⟩
    · intro h
      have hu := (latchedOf_latchSet s (g := 4) (by omega) 0 [(0x20, u)] 0x20).trans (show _ = u by simp [findD_put])
      refine ⟨_, (exec_reinLatch_some h).trans (congrArg _ (latchEffects_spindleInner _)), hu,
        congrArg Group.missedInner (groupOf_latchSet s (g := 4) (by omega) 0 _), rfl, ?_⟩
      exact congrArg (fun x : Word32 => Out.link "SPIN_CMD" [x.toInt] :: s.outs) hu
    · intro h
      have hlatched := latchedOf_latchSet s (g := 4) (by omega) 1 [(0x22, u), (0x24, w)]
      have hu := (hlatched 0x22).trans (show _ = u by simp [findD_put])
      have hw := (hlatched 0x24).trans (show _ = w by simp [findD_put])
      have hmissed := congrArg Group.missedPos (groupOf_latchSet s (g := 4) (by omega) 1 [(0x22, u), (0x24, w)])
      have hkept : (latchSet s 4 1 [(0x22, u), (0x24, w)]).objs = s.objs ∧ (latchSet s 4 1 [(0x22, u), (0x24, w)]).outs = s.outs := ⟨rfl, rfl⟩
      have hmode : (latchSet s 4 1 [(0x22, u), (0x24, w)]).num Obj.spinMode = s.num Obj.spinMode := rfl
      have hnear : speedNear (latchSet s 4 1 [(0x22, u), (0x24, w)]) 10 = speedNear s 10 := rfl
      have hexec : exec (.reinLatch 4 1) s = .next (latchEffects (latchSet s 4 1 [(0x22, u), (0x24, w)]) 4 1) := exec_reinLatch_some h
      rw [latchEffects_spindlePosition] at hexec
      refine ⟨_, hexec, ?_⟩
      dsimp only at hmissed
      generalize latchSet s 4 1 [(0x22, u), (0x24, w)] = t at *
      by_cases hrein : s.num Obj.spinMode = smRein
      · rw [if_pos (hmode.trans hrein)]
        obtain ⟨hspeed, hphase⟩ := showStatus_shows t
        refine ⟨hu, hw, hmissed, hkept.2, fun _ => ?_, fun h => absurd hrein h⟩
        rw [hspeed, hphase, hw, hnear]
        exact ⟨rfl, rfl⟩
      · rw [if_neg (by rwa [hmode])]
        exact ⟨hu, hw, hmissed, hkept.2, fun h => absurd h hrein, fun _ => hkept.1⟩
    · intro h
      have hu := (latchedOf_latchSet s (g := 4) (by omega) 2 [(0x25, u)] 0x25).trans (show _ = u by simp [findD_put])
      refine ⟨_, (exec_reinLatch_some h).trans (congrArg _ (latchEffects_spindleOuter _ lim rfl)), ?_, rfl, rfl⟩
      unfold latchedOf
      rw [groupOf_modGroup _ _ (by decide), findD_put, if_pos rfl]
      exact congrArg (fun x : Word32 => wi32 (max (-lim) (min lim x.toInt))) hu

end Sys2Proof.Machine
end

section
/-!
PROOFS. Which objects the fence of an actuator, its retract and the force of the gates leave alone, with the bounds of the unit numbers: a key
outside the ranges of the channels, the players and the surfaces reads as before.
-/

namespace Sys2Proof.Machine

/-- Object k is no counter of a channel (0x40 to 0x43, from its page 0x10 on), none of a player (0x4C00 to 0x4C0F) or of a surface, and no count of
incomplete sectors. -/
def Aside (k : Key) : Prop :=
  (k < 0x311001 ∨ 0x311031 ≤ k) ∧ (k < 0x400000 ∨ 0x440000 ≤ k ∨ k % 0x10000 < 0x1000) ∧ (k < 0x4C0000 ∨ 0x4C1000 ≤ k) ∧ k % 0x10000 ≠ 0x5004

/-- Object k is none of a channel (0x40 to 0x43), of a player (0x4C00 to 0x4C0F) or of a surface, and no count of incomplete sectors. -/
def Off (k : Key) : Prop :=
  (k < 0x311001 ∨ 0x311031 ≤ k) ∧ (k < 0x400000 ∨ 0x440000 ≤ k) ∧ (k < 0x4C0000 ∨ 0x4C1000 ≤ k) ∧ k % 0x10000 ≠ 0x5004

theorem Off.aside {k : Key} (hk : Off k) : Aside k := by
  unfold Off Key at hk
  unfold Aside Key
  omega

theorem Off.ne_actuatorState {k : Key} (hk : Off k) {a : Nat} (ha : a < 4) : ¬k = Obj.actuatorState a := by
  unfold Off Key at *; unfold Obj.actuatorState Key; omega

theorem nextReady_lt {s : State} {a p : Nat} (ha : a < 4) (h : nextReady s a = some p) : p < 8 := by
  unfold nextReady at h
  dsimp only at h
  repeat' split at h
  all_goals cases h <;> omega

/-- Object k is no counter of a channel (0x40 to 0x43, from its page 0x10 on) and no count of incomplete sectors. -/
def Uncut (k : Key) : Prop := (k < 0x400000 ∨ 0x440000 ≤ k ∨ k % 0x10000 < 0x1000) ∧ k % 0x10000 ≠ 0x5004

theorem Aside.uncut {k : Key} (hk : Aside k) : Uncut k := by
  unfold Aside Key at hk
  unfold Uncut Key
  omega

/-! ### The end of a capture and of a write -/

section
variable {k : Key} {v : Val} (hk : Uncut k)
include hk

theorem Uncut.ne_clipCount {a b : Nat} (ha : a < 4) (hb : b < 3) : ¬k = Obj.clipCount a b := by
  unfold Uncut Key at *; unfold Obj.clipCount Key; omega

theorem Uncut.ne_stuckCount {a b : Nat} (ha : a < 4) (hb : b < 3) : ¬k = Obj.stuckCount a b := by
  unfold Uncut Key at *; unfold Obj.stuckCount Key; omega

theorem Uncut.ne_offsetRailCount {a b : Nat} (ha : a < 4) (hb : b < 3) : ¬k = Obj.offsetRailCount a b := by
  unfold Uncut Key at *; unfold Obj.offsetRailCount Key; omega

theorem Uncut.ne_timedCount {a : Nat} (ha : a < 4) : ¬k = Obj.timedCount a := by
  unfold Uncut Key at *; unfold Obj.timedCount Key; omega

theorem Uncut.ne_sm1CorrectedCount {a : Nat} (ha : a < 4) : ¬k = Obj.sm1CorrectedCount a := by
  unfold Uncut Key at *; unfold Obj.sm1CorrectedCount Key; omega

theorem Uncut.ne_incompleteCount (a : Nat) : ¬k = Obj.incompleteCount a := by
  unfold Uncut Key at *; unfold Obj.incompleteCount Key; omega

theorem laneFaults_off {a : Nat} (ha : a < 4) (s : State) (lanes : Nat) (e : Entry) (h : At k v s) : At k v (laneFaults s a lanes e) := by
  unfold laneFaults
  refine State.each_inv h fun t b hb ht => ?_
  have hb : b < 3 := by simp [laneList] at hb; exact hb.1
  simp (maxDischargeDepth := 30) [hk.ne_clipCount ha hb, hk.ne_stuckCount ha hb, hk.ne_offsetRailCount ha hb, ht]

theorem captureStored_off {p : Nat} (hp : p < 8) (s : State) (i : Nat) (e : Entry) (h : At k v s) : At k v (captureStored s p i e) := by
  have ha : playerAct p < 4 := by unfold playerAct; omega
  simp (maxDischargeDepth := 30) [captureStored, hk.ne_timedCount ha, hk.ne_sm1CorrectedCount ha, h]

theorem endCapture_off {p : Nat} (hp : p < 8) (s : State) (i : Nat) (h : At k v s) : At k v (endCapture s p i) := by
  have ha : playerAct p < 4 := by unfold playerAct; omega
  unfold endCapture
  split <;> simp (maxDischargeDepth := 30) [laneFaults_off hk ha, captureStored_off hk hp, h]

theorem stopCapture_off {p : Nat} (hp : p < 8) (s : State) (i : Nat) (h : At k v s) : At k v (stopCapture s p i) := by
  unfold stopCapture
  split <;> simp (maxDischargeDepth := 30) [endCapture_off hk hp, h]

theorem writeIncomplete_off (s : State) (p i mask : Nat) (poisoned : Bool) (h : At k v s) : At k v (writeIncomplete s p i mask poisoned) := by
  unfold writeIncomplete
  split <;> simp (maxDischargeDepth := 30) [hk.ne_incompleteCount, h]

theorem cutWrite_off (s : State) (a mask : Nat) (poisoned : Bool) (h : At k v s) : At k v (cutWrite s a mask poisoned) := by
  unfold cutWrite
  dsimp only
  repeat' split
  all_goals simp (maxDischargeDepth := 30) [writeIncomplete_off hk, h]

theorem allCloseCut_off {p : Nat} (hp : p < 8) (s : State) (a : Nat) (h : At k v s) : At k v (allCloseCut s a p) := by
  unfold allCloseCut
  refine State.modChan_at _ a _ (State.each_inv ?_ fun t i _ ht => stopCapture_off hk hp t i ht)
  split
  · exact cutWrite_off hk s a 0 false h
  · exact h

end

section
variable {k : Key} {v : Val} (hk : Aside k)
include hk
theorem Aside.ne_writeUnsafeCount {a : Nat} (ha : a < 4) : ¬k = Obj.writeUnsafeCount a := by
  unfold Aside Key at *; unfold Obj.writeUnsafeCount Key; omega

theorem Aside.ne_surfaceState {u : Nat} (hu : u < 48) : ¬k = Obj.surfaceState u := by
  unfold Aside Key at *; unfold Obj.surfaceState Key; omega

/-- No object of a player with a number below 8. -/
theorem Aside.ne_player {p : Nat} (hp : p < 8) : ¬k = Obj.loadState p ∧ ¬k = Obj.playerState p ∧ ¬k = Obj.sentences p ∧ ¬k = Obj.underruns p ∧
    ¬k = Obj.settleMisses p ∧ ¬k = Obj.badClauses p ∧ ¬k = Obj.objFaults p ∧ ¬k = Obj.windowEnds p := by
  unfold Aside Key at *
  unfold Obj.loadState Obj.playerState Obj.sentences Obj.underruns Obj.settleMisses Obj.badClauses Obj.objFaults Obj.windowEnds Key
  omega

/-! ### The end of a sentence -/

theorem closeSentence_off {p : Nat} (hp : p < 8) (s : State) (o : Outcome) (h : At k v s) : At k v (closeSentence s p o) := by
  obtain ⟨h1, h2, h3, h4, h5, h6, h7, h8⟩ := hk.ne_player hp
  unfold closeSentence
  cases o <;> simp (maxDischargeDepth := 30) [h1, h3, h4, h5, h6, h7, h8, h]

theorem underrunNow_off {p : Nat} (hp : p < 8) (s : State) (h : At k v s) : At k v (underrunNow s p) := by
  have hother : otherPlayer p < 8 := by unfold otherPlayer; split <;> omega
  have hclosed := closeSentence_off hk hp _ .underrun (blockAfter_at s p h)
  unfold underrunNow blockedUnderrun
  split
  · exact closeSentence_off hk hother _ _ hclosed
  · exact hclosed

theorem prerollNext_off {a : Nat} (ha : a < 4) (fuel : Nat) (s : State) (h : At k v s) : At k v (prerollNext fuel s a) := by
  induction fuel generalizing s with
  | zero => exact h
  | succ n ih =>
    unfold prerollNext
    split
    · exact h
    · split
      · exact h
      · next p hp =>
        have hp := nextReady_lt ha hp
        dsimp only
        repeat' split
        · exact ih _ (closeSentence_off hk hp s _ h)
        · exact ih _ (underrunNow_off hk hp s h)
        · exact ih _ (closeSentence_off hk hp _ _ (prerollPosts_at s a p h))
        · exact prerollPosts_at s a p h

theorem finishSentence_off {p : Nat} (hp : p < 8) (s : State) (o : Outcome) (h : At k v s) : At k v (finishSentence s p o) :=
  prerollNext_off hk (by unfold playerAct; omega) 2 _ (closeSentence_off hk hp s o h)

theorem giveUp_off {p : Nat} (hp : p < 8) (s : State) (o : Outcome) (h : At k v s) : At k v (giveUp s p o) :=
  finishSentence_off hk hp _ o (settleReads_at _ p (allCloseCut_off hk.uncut hp s _ h))

theorem dropReady_off {p : Nat} (hp : p < 8) (s : State) (o : Outcome) (h : At k v s) : At k v (dropReady s p o) := by
  unfold dropReady
  split
  · exact finishSentence_off hk hp _ o (by simp (maxDischargeDepth := 30) [h])
  · exact h

theorem askAbort_off {p : Nat} (hp : p < 8) (s : State) (h : At k v s) : At k v (askAbort s p) := by
  unfold askAbort
  split
  · exact giveUp_off hk hp _ _ (sampleEvents_at s p h)
  · exact h

theorem playerAbort_off {p : Nat} (hp : p < 8) (s : State) (h : At k v s) : At k v (playerAbort s p) := by
  unfold playerAbort
  split
  · exact dropReady_off hk hp s _ h
  · exact askAbort_off hk hp s h
  · exact h

end

theorem players_lt {a p : Nat} (ha : a < 4) (hp : p ∈ [2 * a, 2 * a + 1]) : p < 8 := by
  simp only [List.mem_cons, List.not_mem_nil, or_false] at hp
  omega

section
variable {k : Key} {v : Val} (hk : Aside k) {a : Nat} (ha : a < 4) (s : State) (h : At k v s)
include hk ha h

theorem stopPlayers_off (o : Outcome) : At k v (stopPlayers s a o) := by
  unfold stopPlayers
  refine State.each_inv h fun t p hp ht => ?_
  split
  · exact giveUp_off hk (players_lt ha hp) t o ht
  · exact dropReady_off hk (players_lt ha hp) t _ ht
  · exact ht

theorem abortPlayers_off : At k v (abortPlayers s a) :=
  State.each_inv h fun t _ hp ht => playerAbort_off hk (players_lt ha hp) t ht

theorem followPlayers_off : At k v (followPlayers s a) := by
  unfold followPlayers
  refine State.each_inv h fun t p hp ht => ?_
  obtain ⟨-, hplayer, -⟩ := hk.ne_player (players_lt ha hp)
  split
  · exact ht
  · exact At.setNum hplayer ht

theorem surfacesFail_off : At k v (surfacesFail s a) := by
  unfold surfacesFail
  refine State.each_inv h fun t u hu ht => ?_
  have hu : u < 48 := by
    simp only [surfacesOfAct, List.mem_filter, List.mem_map, List.mem_range] at hu
    obtain ⟨⟨j, hj, rfl⟩, -⟩ := hu
    omega
  split
  · exact At.setNum (hk.ne_surfaceState hu) ht
  · exact ht

theorem lockSentence_off : At k v (lockSentence s a) := by
  simp (maxDischargeDepth := 30) [lockSentence, hk.ne_writeUnsafeCount ha, h]

theorem assertWu_off (src : WuSource) : At k v (assertWu s a src) := by
  unfold assertWu
  simp (maxDischargeDepth := 30) [lockSentence_off hk ha, cutWrite_off hk.uncut, h]

end

section
variable {k : Key} {v : Val} (hk : Off k) {a : Nat} (ha : a < 4) (s : State) (h : At k v s)
include hk ha h

theorem markFenced_off : At k v (markFenced s a) := by
  unfold markFenced
  split
  · exact At.setNum (hk.ne_actuatorState ha) h
  · exact h

theorem fenceActuator_off (o : Outcome) : At k v (fenceActuator s a o) :=
  surfacesFail_off hk.aside ha _ (followPlayers_off hk.aside ha _ (stopPlayers_off hk.aside ha _ (markFenced_off hk ha s h) o))

theorem fenceAborting_off : At k v (fenceAborting s a) :=
  surfacesFail_off hk.aside ha _ (followPlayers_off hk.aside ha _ (abortPlayers_off hk.aside ha _ (markFenced_off hk ha s h)))

end

section
variable {k : Key} {v : Val} (s : State) (h : At k v s)
include h

theorem gatesOff_off (hk : Aside k) : At k v (gatesOff s) := by
  unfold gatesOff
  refine State.each_inv h fun t a ha ht => heaterZero_at _ a (assertWu_off hk ?_ t ht _)
  simp only [List.mem_cons, List.not_mem_nil, or_false] at ha
  omega

theorem retract_off {a : Nat} (hstate : ¬k = Obj.driveState a) (hcount : ¬k = Obj.retracts a) : At k v (retract s a) := by
  simp (maxDischargeDepth := 30) [retract, hstate, hcount, h]

theorem parkActuator_off (hk : Off k) {a : Nat} (ha : a < 4) (hstate : ¬k = Obj.driveState a) (hcount : ¬k = Obj.retracts a) :
    At k v (parkActuator s a) :=
  retract_off _ (fenceActuator_off hk ha s h .fault) hstate hcount

theorem retractLoaded_off (hdrive : ∀ a < 4, ¬k = Obj.driveState a ∧ ¬k = Obj.retracts a) : At k v (retractLoaded s) := by
  unfold retractLoaded
  refine State.each_inv h fun t a ha ht => ?_
  simp only [List.mem_cons, List.not_mem_nil, or_false] at ha
  obtain ⟨hstate, hcount⟩ := hdrive a (by omega)
  split
  · exact retract_off t ht hstate hcount
  · exact ht

end

end Sys2Proof.Machine
end

section
/-!
PROOFS. The safe state (R476) where no attempt fails by it: what its entry sets, and which objects and parts it leaves alone.
-/

namespace Sys2Proof.Machine

/-! ### The ledger's record of an event -/

/-- Object k is none that a record of the ledger, its notice to the hosts, or a freed command slot counts. -/
def OffLog (k : Key) : Prop := (k < 0x200000 ∨ 0x210000 ≤ k) ∧ (k < 0x780000 ∨ 0x781000 ≤ k)

section
variable {k : Key} {v : Val} (hk : OffLog k)
include hk

theorem countSlots_offLog (s : State) (h : At k v s) : At k v (countSlots s) := by
  have hne : ¬k = Obj.slotsInUse ∧ ¬k = Obj.ioSlotsHeld 0 ∧ ¬k = Obj.ioSlotsHeld 1 ∧ ¬k = Obj.lockInUse := by
    unfold OffLog Key at hk; unfold Obj.slotsInUse Obj.ioSlotsHeld Obj.lockInUse Key; omega
  obtain ⟨h1, h2, h3, h4⟩ := hne
  simp (maxDischargeDepth := 30) [countSlots, h1, h2, h3, h4, h]

theorem freeSlot_offLog (s : State) (n : Nat) (h : At k v s) : At k v (freeSlot s n) := countSlots_offLog hk _ h

theorem postNow_offLog (s : State) (p : Port) (qid : Nat) (q : Cq) (c : Completion) (h : At k v s) : At k v (postNow s p qid q c) := by
  have hne : ¬k = Obj.commands (portNo p) := by
    unfold OffLog Key at hk; unfold Obj.commands portNo Key; cases p <;> simp only <;> omega
  unfold postNow
  dsimp only
  split <;> simp (maxDischargeDepth := 30) [freeSlot_offLog hk, hne, h]

theorem postCompletion_offLog (s : State) (p : Port) (qid : Nat) (c : Completion) (h : At k v s) : At k v (postCompletion s p qid c) := by
  unfold postCompletion
  repeat' split
  all_goals simp (maxDischargeDepth := 30) [freeSlot_offLog hk, postNow_offLog hk, h]

theorem giveNotices_offLog (fuel : Nat) (s : State) (p : Port) (h : At k v s) : At k v (giveNotices fuel s p) := by
  induction fuel generalizing s with
  | zero => exact h
  | succ n ih =>
    unfold giveNotices
    split
    · exact ih _ (postCompletion_offLog hk _ _ _ _ h)
    · exact h

theorem asyncNotice_offLog (s : State) (page : Nat) (h : At k v s) : At k v (asyncNotice s page) := by
  unfold asyncNotice
  refine State.each_at h fun t p ht => ?_
  dsimp only
  split
  · exact giveNotices_offLog hk 8 _ p ht
  · exact ht

theorem ne_dropsSev (r : Record) : ¬k = Obj.dropsSev r.severity := by
  have hsev : r.severity < 4 := Nat.mod_lt _ (by decide)
  unfold OffLog Key at hk
  unfold Obj.dropsSev Key
  omega

theorem countRecords_offLog (s : State) (h : At k v s) : At k v (countRecords s) := by
  have hne : ¬k = Obj.records ∧ ¬k = Obj.newestSeq ∧ ¬k = Obj.newestSeqLo := by
    unfold OffLog Key at hk; unfold Obj.records Obj.newestSeq Obj.newestSeqLo Key; omega
  obtain ⟨h1, h2, h3⟩ := hne
  simp (maxDischargeDepth := 30) [countRecords, h1, h2, h3, h]

theorem appendRecord_offLog (s : State) (r : Record) (h : At k v s) : At k v (appendRecord s r) := by
  unfold appendRecord
  split
  · exact h
  · split
    · exact At.bump (ne_dropsSev hk r) h
    · dsimp only
      unfold recordNotice
      split
      · exact asyncNotice_offLog hk _ _ (countRecords_offLog hk _ h)
      · exact countRecords_offLog hk _ h

theorem writeRecord_offLog (s : State) (r : Record) (h : At k v s) : At k v (writeRecord s r) := by
  unfold writeRecord
  dsimp only
  split
  · exact appendRecord_offLog hk s _ h
  · split
    · exact h
    · exact At.bump (ne_dropsSev hk _) h

end

/-! ### The entry without a failed attempt -/

/-- The entry's objects: the collector's state, the cause, the tick and the count. -/
def safeMarks (s : State) (cause : Nat) : State :=
  let s := ((s.setNum Obj.collectorState 1).setNum Obj.safeCause cause).setNum Obj.safeTick s.tick
  s.setNum Obj.safeEntries (min (s.num Obj.safeEntries + 1) 255)

/-- FAULT_OUT_N goes low, and the hosts' commands are fetched no longer. -/
def safeStops (s : State) : State :=
  let s := { s with power := { s.power with faultOutLow := true } }
  s.setHost { s.host with fetchStopped := true }

/-- The actuators are fenced and their heads retracted, and the spindle is held. -/
def safeFences (s : State) : State := spinHold (retractLoaded (s.each [0, 1, 2, 3] fenceAborting))

/-- The controllers report a fatal status. -/
def safeFatal (s : State) : State := s.each [Port.a, Port.b] fun s p => s.modCtrl p fun k => { k with cfs := true }

/-- What the safe state's entry does before it looks whether an attempt fails by it. -/
def safeSteps (s : State) (cause : Nat) : State := startMirror (safeFatal (safeFences (safeStops (gatesOff (safeMarks s cause)))))

theorem safeEntry_eq (s : State) (cause : Nat) :
    safeEntry s cause = if (safeSteps s cause).start.running && (safeSteps s cause).power.off.isNone then
      failAttempt (safeSteps s cause) srFailed (stateDetail s) else safeSteps s cause := by
  unfold safeEntry safeSteps safeFatal safeFences safeStops safeMarks
  with_reducible rfl

/-- Object k is none that the fence of the actuators, the retract of their heads or the hold of the spindle writes. -/
def Still (k : Key) : Prop :=
  Off k ∧ (k < 0x601004 ∨ 0x60100D ≤ k ∨ k = 0x60100A) ∧ (k < 0x602000 ∨ 0x602400 ≤ k ∨ k % 0x100 ≠ 5 ∧ k % 0x100 ≠ 7)

/-- Object k is none that the entry into the safe state writes, with its record. -/
def Calm (k : Key) : Prop := Still k ∧ OffLog k ∧ (k < 0x700001 ∨ 0x700009 ≤ k ∨ k = 0x700004 ∨ k = 0x700006)

/-- The parts that the entry into the safe state can change, but for the two that it writes itself. -/
def safeParts : List Part := [.objs, .chan, .dec, .players, .acts, .traces, .motion, .layout, .mem, .coll, .raised, .outs, .free]

theorem Within.trans {T : List Part} {s t u : State} (h : Within T s t) (g : Within T t u) : Within T s u := by
  rw [within_iff] at h g ⊢
  intro p hp
  have hst := h p hp
  have htu := g p hp
  cases p <;> exact htu.trans hst

theorem Within.mono {T U : List Part} {s t : State} (h : Within T s t) (hTU : ∀ p ∈ T, p ∈ U) : Within U s t := by
  rw [within_iff] at h ⊢
  exact fun p hp => h p fun hT => hp (hTU p hT)

theorem safeFatal_power (s : State) : (safeFatal s).power = s.power := rfl

theorem safeFatal_fetchStopped (s : State) : (safeFatal s).host.fetchStopped = s.host.fetchStopped := rfl

theorem safeSteps_within (s : State) (cause : Nat) :
    Within (.power :: .host :: safeParts) s (safeSteps s cause) ∧ (safeSteps s cause).power = { s.power with faultOutLow := true } ∧
    (safeSteps s cause).host.fetchStopped = true := by
  have : Touch .objs safeParts := touch_of rfl
  have : Touch .chan safeParts := touch_of rfl
  have : Touch .dec safeParts := touch_of rfl
  have : Touch .players safeParts := touch_of rfl
  have : Touch .acts safeParts := touch_of rfl
  have : Touch .traces safeParts := touch_of rfl
  have : Touch .motion safeParts := touch_of rfl
  have : Touch .layout safeParts := touch_of rfl
  have : Touch .mem safeParts := touch_of rfl
  have : Touch .coll safeParts := touch_of rfl
  have : Touch .raised safeParts := touch_of rfl
  have : Touch .outs safeParts := touch_of rfl
  have : Touch .free safeParts := touch_of rfl
  have hgates := gatesOff_frame (T := safeParts) (z := s) (safeMarks s cause) (by simp (maxDischargeDepth := 30) [safeMarks])
  unfold safeSteps
  generalize gatesOff (safeMarks s cause) = u at hgates ⊢
  have hfences : Within safeParts (safeStops u) (safeFences (safeStops u)) :=
    spinHold_frame _ (retractLoaded_frame _ (State.each_frame (.refl _ _) fun t a ht => fenceAborting_frame t a ht))
  have hmirror : Within safeParts (safeFatal (safeFences (safeStops u))) (startMirror (safeFatal (safeFences (safeStops u)))) :=
    startMirror_frame _ (.refl _ _)
  have hstops : Within (.power :: .host :: safeParts) u (safeStops u) := by simp [safeStops, State.setHost]
  have hfatal : ∀ t, Within (.power :: .host :: safeParts) t (safeFatal t) := fun t => by simp [safeFatal, State.each, State.modCtrl]
  have hsub : ∀ p ∈ safeParts, p ∈ Part.power :: Part.host :: safeParts := fun p hp => List.mem_cons_of_mem _ (List.mem_cons_of_mem _ hp)
  refine ⟨(hgates.mono hsub).trans (hstops.trans ((hfences.mono hsub).trans ((hfatal _).trans (hmirror.mono hsub)))), ?_, ?_⟩
  · have hpower : (safeStops u).power = { s.power with faultOutLow := true } := by
      have hkept : u.power = s.power := within_iff.mp hgates .power (by decide)
      simp only [safeStops, State.setHost, hkept]
    have hmirrored : (startMirror (safeFatal (safeFences (safeStops u)))).power = (safeFatal (safeFences (safeStops u))).power :=
      within_iff.mp hmirror .power (by decide)
    have hfenced : (safeFences (safeStops u)).power = (safeStops u).power := within_iff.mp hfences .power (by decide)
    rw [hmirrored, safeFatal_power, hfenced, hpower]
  · have hmirrored : (startMirror (safeFatal (safeFences (safeStops u)))).host = (safeFatal (safeFences (safeStops u))).host :=
      within_iff.mp hmirror .host (by decide)
    have hfenced : (safeFences (safeStops u)).host = (safeStops u).host := within_iff.mp hfences .host (by decide)
    rw [hmirrored, safeFatal_fetchStopped, hfenced]
    rfl

section
variable {k : Key} {v : Val}

theorem Still.ne_drive (hk : Still k) (a : Nat) (ha : a < 4) : ¬k = Obj.driveState a ∧ ¬k = Obj.retracts a := by
  unfold Still Off Key at hk; unfold Obj.driveState Obj.retracts Key; omega

theorem spinHold_still (hk : Still k) (s : State) (h : At k v s) : At k v (spinHold s) := by
  have hne : ¬k = Obj.atSpeed ∧ ¬k = Obj.phaseLocked ∧ ¬k = Obj.spinMode := by
    unfold Still Off Key at hk; unfold Obj.atSpeed Obj.phaseLocked Obj.spinMode Key; omega
  exact @spinHold_at k v ⟨hne.1⟩ ⟨hne.2.1⟩ ⟨hne.2.2⟩ s h

theorem safeFences_still (hk : Still k) (s : State) (h : At k v s) : At k v (safeFences s) := by
  refine spinHold_still hk _ (retractLoaded_off _ (State.each_inv h fun t a ha ht => ?_) hk.ne_drive)
  simp only [List.mem_cons, List.not_mem_nil, or_false] at ha
  exact fenceAborting_off hk.1 (by omega) t ht

theorem safeStops_at (s : State) (h : At k v s) : At k v (safeStops s) := h

theorem safeFatal_at (s : State) (h : At k v s) : At k v (safeFatal s) := h

theorem safeSteps_still (hk : Still k) {s : State} {cause : Nat} (h : At k v (safeMarks s cause)) : At k v (safeSteps s cause) := by
  unfold safeSteps
  exact startMirror_at _ (safeFatal_at _ (safeFences_still hk _ (safeStops_at _ (gatesOff_off _ h hk.1.aside))))

theorem safeMarks_calm (hk : Calm k) (s : State) (cause : Nat) (h : At k v s) : At k v (safeMarks s cause) := by
  have hne : ¬k = Obj.collectorState ∧ ¬k = Obj.safeCause ∧ ¬k = Obj.safeTick ∧ ¬k = Obj.safeEntries := by
    unfold Calm Key at hk; unfold Obj.collectorState Obj.safeCause Obj.safeTick Obj.safeEntries Key; omega
  obtain ⟨h1, h2, h3, h4⟩ := hne
  simp (maxDischargeDepth := 30) [safeMarks, h1, h2, h3, h4, h]

end

theorem safeSteps_marked (s : State) (cause : Nat) :
    (safeSteps s cause).num Obj.collectorState = 1 ∧ (safeSteps s cause).num Obj.safeCause = cause := by
  constructor
  · refine At.num (safeSteps_still (by unfold Still Off; decide) ?_)
    simp [safeMarks, at_iff, State.obj_setNum, Obj.collectorState, Obj.safeCause, Obj.safeTick, Obj.safeEntries]
  · refine At.num (safeSteps_still (by unfold Still Off; decide) ?_)
    simp [safeMarks, at_iff, State.obj_setNum, Obj.collectorState, Obj.safeCause, Obj.safeTick, Obj.safeEntries]

/-! ### An event that takes the safe state -/

/-- No attempt ends by the safe state: none runs, or its rails run down. -/
def NoneFails (s : State) : Prop := s.start.running = false ∨ s.power.off ≠ none

theorem safeEntry_of_none_fails {s : State} (h : NoneFails s) (cause : Nat) : safeEntry s cause = safeSteps s cause := by
  obtain ⟨hwithin, hpower, -⟩ := safeSteps_within s cause
  have hstart : (safeSteps s cause).start = s.start := within_iff.mp hwithin .start (by decide)
  rw [safeEntry_eq, hstart, hpower, if_neg]
  cases h with
  | inl hrun => simp [hrun]
  | inr hoff => simp [hoff]

/-- The state on which the entry follows: the event is counted, and its SAFE record written. -/
def safeRecorded (s : State) (ev : Event) : State :=
  writeRecord (countEvent s ev).2 (eventRecord ev kSafe 3 (sourceNow (countEvent s ev).2 ev.source).level actSafe (countEvent s ev).1.1)

theorem safeRecorded_within (s : State) (ev : Event) : Within [.objs, .host, .coll, .outs, .free] s (safeRecorded s ev) :=
  @writeRecord_frame _ s (touch_of rfl) (touch_of rfl) (touch_of rfl) (touch_of rfl) (touch_of rfl) _ _
    (@countEvent_frame _ s (touch_of rfl) (touch_of rfl) (touch_of rfl) s ev (.refl _ s))

theorem safeRecorded_calm {k : Key} {v : Val} (hk : Calm k) {s : State} (ev : Event) (h : At k v s) : At k v (safeRecorded s ev) := by
  have hne : ¬k = Obj.eventsTotal ∧ ¬k = Obj.trips := by
    unfold Calm Key at hk; unfold Obj.eventsTotal Obj.trips Key; omega
  exact writeRecord_offLog hk.2.1 _ _ (@countEvent_at k v ⟨hne.1⟩ ⟨hne.2⟩ s ev h)

theorem safeBy_eq {s : State} (hsafe : s.num Obj.collectorState ≠ 1) (ev : Event) : safeBy s ev = safeEntry (safeRecorded s ev) ev.source := by
  have hcollector : (countEvent s ev).2.num Obj.collectorState = s.num Obj.collectorState :=
    At.num_eq (@countEvent_at Obj.collectorState _ ⟨by decide⟩ ⟨by decide⟩ s ev (At.self s))
  unfold safeBy
  dsimp only
  rw [if_neg]
  · rfl
  · simp [inSafe, hcollector, hsafe]

/-- What an event does that takes the safe state where no attempt ends by it. -/
theorem safeBy_effect {s : State} (hsafe : s.num Obj.collectorState ≠ 1) (hnone : NoneFails s) (ev : Event) :
    (safeBy s ev).num Obj.collectorState = 1 ∧ (safeBy s ev).num Obj.safeCause = ev.source ∧
    (safeBy s ev).power = { s.power with faultOutLow := true } ∧ (safeBy s ev).host.fetchStopped = true ∧
    Within (.power :: .host :: safeParts) s (safeBy s ev) ∧ ∀ k, Calm k → (safeBy s ev).obj k = s.obj k := by
  have hrecorded := safeRecorded_within s ev
  have hstart : (safeRecorded s ev).start = s.start := within_iff.mp hrecorded .start (by decide)
  have hpower : (safeRecorded s ev).power = s.power := within_iff.mp hrecorded .power (by decide)
  rw [safeBy_eq hsafe, safeEntry_of_none_fails (by unfold NoneFails; rwa [hstart, hpower])]
  obtain ⟨hwithin, hpower', hfetch⟩ := safeSteps_within (safeRecorded s ev) ev.source
  obtain ⟨hstate, hcause⟩ := safeSteps_marked (safeRecorded s ev) ev.source
  refine ⟨hstate, hcause, hpower'.trans (by rw [hpower]), hfetch, (hrecorded.mono ?_).trans hwithin, fun k hk => ?_⟩
  · decide
  · exact safeSteps_still hk.1 (safeMarks_calm hk _ _ (safeRecorded_calm hk ev (At.self s)))

/-- The objects that no safe state writes are left alone by the event too where the device is in the safe state already. -/
theorem safeBy_calm {k : Key} {v : Val} (hk : Calm k) {s : State} (hnone : NoneFails s) (ev : Event) (h : At k v s) : At k v (safeBy s ev) := by
  by_cases hsafe : s.num Obj.collectorState = 1
  · have hcollector : (countEvent s ev).2.num Obj.collectorState = s.num Obj.collectorState :=
      At.num_eq (@countEvent_at Obj.collectorState _ ⟨by decide⟩ ⟨by decide⟩ s ev (At.self s))
    have hne : ¬k = Obj.eventsTotal ∧ ¬k = Obj.trips := by
      unfold Calm Key at hk; unfold Obj.eventsTotal Obj.trips Key; omega
    unfold safeBy
    dsimp only
    rw [if_pos (by simp [inSafe, hcollector, hsafe])]
    exact writeRecord_offLog hk.2.1 _ _ (@countEvent_at k v ⟨hne.1⟩ ⟨hne.2⟩ s ev h)
  · obtain ⟨-, -, -, -, -, hcalm⟩ := safeBy_effect hsafe hnone ev
    exact (hcalm k hk).trans h

end Sys2Proof.Machine
end

section
/-!
PROOFS. Votes, fences, pair holds and rejoin of the rein engines (R272–R276).
-/

namespace Sys2Proof.Machine

/-! ### Objects of the engines and of the groups -/

theorem engKey_inj {e f sub : Nat} (he : e < 16) (hf : f < 16) (hne : f ≠ e) (sub' : Nat) (h : sub < 256) (h' : sub' < 256) :
    engKey e sub ≠ engKey f sub' := by
  unfold engKey Key
  split <;> split <;> omega

theorem engKey_sub_ne {e sub sub' : Nat} (f : Nat) (h : sub < 256) (h' : sub' < 256) (hne : sub ≠ sub') : engKey e sub ≠ engKey f sub' := by
  unfold engKey Key
  split <;> split <;> omega

theorem engKey_calm {e sub : Nat} (he : e < 16) (hsub : sub < 6) : Calm (engKey e sub) := by
  unfold Calm Still Off OffLog engKey Key
  split <;> omega

theorem groupState_calm {g : Nat} (hg : g < 5) : Calm (Obj.groupState g) := by
  unfold Calm Still Off OffLog Obj.groupState Key; omega

theorem missedLatches_calm {g : Nat} (hg : g < 5) : Calm (Obj.missedLatches g) := by
  unfold Calm Still Off OffLog Obj.missedLatches Key; omega

/-! ### A group is parked -/

/-- An object that no park writes is left alone, but for the group's state. -/
theorem parkGroup_calm {k : Key} {v : Val} (hk : Calm k) {s : State} {g : Nat} (hkept : StartKept s g)
    (h : At k v (s.setNum (Obj.groupState g) gsParked)) : At k v (parkGroup s g) := by
  have hu : At k v ((s.setNum (Obj.groupState g) gsParked).modGroup g fun x => { x with pairHold := none, holdRerunDone := false }) := h
  have hstart : ((s.setNum (Obj.groupState g) gsParked).modGroup g fun x => { x with pairHold := none, holdRerunDone := false }).start =
    s.start := rfl
  unfold parkGroup
  dsimp only
  generalize (s.setNum (Obj.groupState g) gsParked).modGroup g (fun x => { x with pairHold := none, holdRerunDone := false }) = u at hu hstart ⊢
  obtain ⟨hoff, -⟩ := hk.1
  split
  · next hg =>
    obtain ⟨hdrive, hcount⟩ := hk.1.ne_drive g hg
    exact State.raise_at _ _ _ _ (parkActuator_off _ hu hoff hg hdrive hcount)
  · next hg =>
    have hheld : (spinHold u).start = u.start := within_iff.mp (@spinHold_frame [.objs] u (touch_of rfl) u (.refl _ u)) .start (by decide)
    refine safeBy_calm hk (.inl ?_) _ (spinHold_still hk.1 _ hu)
    rw [hheld, hstart]
    exact hkept.resolve_left hg

theorem parkGroup_state {s : State} {g : Nat} (hg : g < 5) (hkept : StartKept s g) : (parkGroup s g).num (Obj.groupState g) = gsParked :=
  At.num (parkGroup_calm (groupState_calm hg) hkept (by simp))

theorem parkGroup_other {k : Key} (hk : Calm k) {s : State} {g : Nat} (hkept : StartKept s g) (hne : k ≠ Obj.groupState g) :
    (parkGroup s g).obj k = s.obj k :=
  parkGroup_calm hk hkept (At.setNum hne (At.self s))

/-! ### An engine is fenced -/

section
variable {k : Key} {v : Val}

/-- A takeover writes roles only. -/
theorem takeoverRoles_role (hk : ∀ x, k ≠ engKey x 3) (s : State) (g e : Nat) (h : At k v s) : At k v (takeoverRoles s g e) := by
  unfold takeoverRoles
  dsimp only
  split
  · exact State.each_at (At.setNum (hk e) h) fun t x ht => At.setNum (hk x) ht
  · exact At.setNum (hk e) h

/-- Engine e without its runs and its role, as the fence leaves it before it marks it. -/
def leaveVote (s : State) (e : Nat) : State :=
  takeoverRoles (s.modEngine e fun x => { x with
    injectHit := false, run := none, saved := [], waiting := [], delivered := [], stopped := [], reruns := [], rerunSets := []
    checkpoint := none, agreed := 0, rejoin := if engState s e = stRetired then 0 else 1 }) (s.engineOf e).group e

/-- Engine e is marked FENCED, unless it is RETIRED. -/
def markEngine (s : State) (e : Nat) : State := if engState s e < stFenced then setEngState s e stFenced else s

/-- After the engine is marked, its leave of the group writes only the group's state and count. -/
theorem engineOut_of_marked (hgroup : ∀ g, k ≠ Obj.groupState g) (hcount : ∀ g, k ≠ Obj.reinTakeovers g) {s : State} {e : Nat}
    (h : At k v (markEngine (leaveVote s e) e)) : At k v (engineOut s e) := by
  unfold markEngine leaveVote at h
  unfold engineOut
  dsimp only at h ⊢
  refine @regroup_at k v ⟨hgroup⟩ _ _ ?_
  generalize (if engState _ e < stFenced then _ else _) = w at h ⊢
  split
  · simp (maxDischargeDepth := 30) [hcount, h]
  · exact h

/-- An engine's fence, or its leave of the group, writes roles, its own state, and counts. -/
theorem engineOut_other (hrole : ∀ x, k ≠ engKey x 3) {e : Nat} (hstate : k ≠ engKey e 2) (hgroup : ∀ g, k ≠ Obj.groupState g)
    (hcount : ∀ g, k ≠ Obj.reinTakeovers g) (s : State) (h : At k v s) : At k v (engineOut s e) := by
  refine engineOut_of_marked hgroup hcount ?_
  have hleft : At k v (leaveVote s e) := takeoverRoles_role hrole _ _ e (State.modEngine_at s e _ h)
  unfold markEngine
  split
  · exact At.setNum hstate hleft
  · exact hleft

end

theorem takeoverRoles_self {e : Nat} (he : e < 16) (s : State) (g : Nat) : At (engKey e 3) (.num 4) (takeoverRoles s g e) := by
  have hset : At (engKey e 3) (.num 4) (setEngRole s e roNone) := (At.setNum_self ..).mpr rfl
  unfold takeoverRoles
  dsimp only
  split
  · refine State.each_inv hset fun t x hx ht => At.setNum ?_ ht
    simp only [votingEngines, List.mem_filter, decide_eq_true_eq, mem_groupEngines] at hx
    obtain ⟨⟨hx16, -, -⟩, hvotes⟩ := hx
    refine engKey_inj he hx16 ?_ 3 (by decide) (by decide)
    rintro rfl
    rw [show engRole (setEngRole s x roNone) x = 4 from hset.num] at hvotes
    exact absurd hvotes (by decide)
  · exact hset

theorem engKey_ne_groupState (e g : Nat) {sub : Nat} (h : 2 ≤ sub) (h' : sub < 11) : engKey e sub ≠ Obj.groupState g := by
  unfold engKey Obj.groupState Key
  split <;> omega

theorem engKey_ne_reinTakeovers (e g : Nat) {sub : Nat} (h' : sub < 11) : engKey e sub ≠ Obj.reinTakeovers g := by
  unfold engKey Obj.reinTakeovers Key
  split <;> omega

theorem fenceEngine_state_other {e f : Nat} (he : e < 16) (hf : f < 16) (hne : f ≠ e) (s : State) :
    engState (fenceEngine s f) e = engState s e := by
  refine At.num_eq (engineOut_other (fun x => engKey_sub_ne x (by decide) (by decide) (by decide)) (engKey_inj he hf hne 2 (by decide) (by decide))
    (fun g => engKey_ne_groupState e g (by decide) (by decide)) (fun g => engKey_ne_reinTakeovers e g (by decide)) _ ?_)
  exact At.bump (engKey_sub_ne f (by decide) (by decide) (by decide)) (At.self s)

/-- An engine that is fenced has left the vote, and is FENCED unless it was RETIRED. -/
theorem engineOut_self {s : State} {e : Nat} (he : e < 16) :
    engRole (engineOut s e) e = 4 ∧ (engState s e < 3 → engState (engineOut s e) e = 3) := by
  constructor
  · refine At.num (engineOut_of_marked (fun g => engKey_ne_groupState e g (by decide) (by decide))
      (fun g => engKey_ne_reinTakeovers e g (by decide)) ?_)
    have hleft : At (engKey e 3) (.num 4) (leaveVote s e) := takeoverRoles_self he _ _
    unfold markEngine
    split
    · exact At.setNum (engKey_sub_ne e (by decide) (by decide) (by decide)) hleft
    · exact hleft
  · intro hstate
    refine At.num (engineOut_of_marked (fun g => engKey_ne_groupState e g (by decide) (by decide))
      (fun g => engKey_ne_reinTakeovers e g (by decide)) ?_)
    have hleft : engState (leaveVote s e) e = engState s e :=
      At.num_eq (takeoverRoles_role (fun x => engKey_sub_ne x (by decide) (by decide) (by decide)) _ _ e (State.modEngine_at s e _ (At.self s)))
    unfold markEngine
    rw [hleft, if_pos (show engState s e < stFenced from hstate)]
    exact (At.setNum_self ..).mpr rfl

theorem fenceEngine_self {s : State} {e : Nat} (he : e < 16) :
    engRole (fenceEngine s e) e = 4 ∧ (engState s e < 3 → engState (fenceEngine s e) e = 3) := by
  have hcounted : engState ((s.bump (engKey e 5)).raise (engSource e) (e % 3)
      (if (s.engineOf e).injectHit && decide ((s.engineOf e).injections = 1) then injectionDetail else 0)) e = engState s e :=
    State.num_bump_other _ (engKey_sub_ne e (by decide) (by decide) (by decide))
  obtain ⟨hrole, hstate⟩ := engineOut_self (s := (s.bump (engKey e 5)).raise (engSource e) (e % 3)
      (if (s.engineOf e).injectHit && decide ((s.engineOf e).injections = 1) then injectionDetail else 0)) he
  rw [hcounted] at hstate
  exact ⟨hrole, hstate⟩

/-! ### The compare point -/

/-- One operation of a list is about the quantity q, the others leave it. -/
theorem State.each_one {α β : Type} {q : State → β} {f : State → α → State} {l : List α} {e : α} {s : State} {w : β} (he : e ∈ l)
    (hnodup : l.Nodup) (hother : ∀ t x, x ∈ l → x ≠ e → q (f t x) = q t) (hself : ∀ t, q t = q s → q (f t e) = w) : q (s.each l f) = w := by
  obtain ⟨before, after, rfl⟩ := List.append_of_mem he
  have hbefore : e ∉ before := fun h => (List.nodup_append.mp hnodup).2.2 e h e List.mem_cons_self rfl
  have hafter : e ∉ after := (List.nodup_cons.mp (List.nodup_append.mp hnodup).2.1).1
  rw [State.each_append]
  have h1 : q (s.each before f) = q s := State.each_inv (P := fun t => q t = q s) rfl fun t x hx ht =>
    (hother t x (List.mem_append_left _ hx) fun h => hbefore (h ▸ hx)).trans ht
  have h2 := hself _ h1
  exact State.each_inv (P := fun t => q t = w) (l := after) h2 fun t x hx ht =>
    (hother t x (List.mem_append_right _ (List.mem_cons_of_mem _ hx)) fun h => hafter (h ▸ hx)).trans ht

theorem mem_votingEngines {s : State} {g e : Nat} :
    e ∈ votingEngines s g ↔ (e < 16 ∧ (s.engineOf e).group = g ∧ engRole s e ≠ 4) ∧ engRole s e < 3 := by
  simp only [votingEngines, List.mem_filter, decide_eq_true_eq, mem_groupEngines]
  exact Iff.rfl

theorem probationCompare_state {s : State} {g entry e : Nat} (set : SMap Word32) (he : e < 16) (hvotes : engRole s e < 3) :
    engState (probationCompare s g entry set) e = engState s e := by
  unfold probationCompare
  refine State.each_inv (P := fun t => engState t e = engState s e) rfl fun t f hf ht => ?_
  simp only [List.mem_filter, decide_eq_true_eq, mem_groupEngines] at hf
  obtain ⟨⟨hf16, -, -⟩, hprobation⟩ := hf
  have hne : f ≠ e := by
    rintro rfl
    rw [hprobation] at hvotes
    exact absurd hvotes (by decide)
  split
  · split
    · exact ht
    · exact ht
  · exact (fenceEngine_state_other he hf16 hne t).trans ht

theorem clearDelivered_keeps (s : State) (g entry : Nat) : (clearDelivered s g entry).objs = s.objs ∧ (clearDelivered s g entry).groups = s.groups :=
  State.each_inv (P := fun t => t.objs = s.objs ∧ t.groups = s.groups) ⟨rfl, rfl⟩ fun _ _ _ ht => ht

/-- The engines that delivered another set than the agreed one are fenced, each once. -/
theorem fenceOdd_state {s : State} {g e : Nat} {odd : List Nat} (hodd : ∀ f ∈ odd, f < 16) (hnodup : odd.Nodup) (he : e ∈ odd)
    (hstate : engState s e < 3) : engState (s.each odd fun s e => (fenceEngine s e).bump (Obj.mismatches g)) e = 3 := by
  have hmismatch : ∀ t : State, engState (t.bump (Obj.mismatches g)) e = engState t e := fun t =>
    State.num_bump_other _ (by unfold engKey Obj.mismatches Key; split <;> omega)
  refine State.each_one (q := fun t => engState t e) he hnodup (fun t x hx hne => ?_) fun t ht => ?_
  · exact (hmismatch _).trans (fenceEngine_state_other (hodd e he) (hodd x hx) hne t)
  · exact (hmismatch _).trans ((fenceEngine_self (hodd e he)).2 (ht ▸ hstate))

theorem agree_agreed {s : State} {g entry : Nat} (hg : g < 5) (set : SMap Word32) (hhold : (s.groupOf g).pairHold = none) :
    SMap.find ((agree s g entry set).groupOf g).agreed entry = some set ∧ (agree s g entry set).objs = s.objs := by
  unfold agree
  dsimp only
  rw [hhold, if_neg (by simp), groupOf_modGroup _ _ hg]
  exact ⟨SMap.find_put_self .., rfl⟩

/-- The agreed set waits for its latch, and the engines that delivered another are fenced (R272), where no pair hold stands. -/
theorem exec_reinCompare_agreed {s : State} {g : Fin 5} {entry : Fin 3} {set : SMap Word32} (hruns : groupRuns s g = true)
    (hhold : (s.groupOf g).pairHold = none) (hvoters : 2 ≤ (votingEngines s g).length)
    (hmajority : majority s entry (votingEngines s g) = some set) :
    ∃ u : State, u.engines = s.engines ∧ u.objs = s.objs ∧ (u.groupOf g).pairHold = none ∧
      exec (.reinCompare g entry) s = .next (clearDelivered (agree
        ((probationCompare u g entry set).each ((votingEngines s g).filter fun e => deliveredSet s entry e ≠ some set) fun s e =>
          (fenceEngine s e).bump (Obj.mismatches g)) g entry set) g entry) := by
  have hnohold : ∀ (t : State) (f : Group → Group), (∀ x, (f x).pairHold = x.pairHold) → (t.groupOf g).pairHold = none →
      ((t.modGroup g f).groupOf g).pairHold = none := fun t f hf ht => by rw [groupOf_modGroup _ _ g.isLt, hf, ht]
  have h1 := hnohold s (fun x => { x with awaited := x.awaited.filter (· ≠ entry.val) }) (fun _ => rfl) hhold
  refine ⟨((s.modGroup g fun x => { x with awaited := x.awaited.filter (· ≠ entry.val) }).modGroup g fun x => { x with vote := 0 }).modGroup g
    fun x => { x with vote := voteBits s entry set (votingEngines s g) }, rfl, rfl, ?_, ?_⟩
  · exact hnohold _ _ (fun _ => rfl) (hnohold _ _ (fun _ => rfl) h1)
  · show execReinCompare g entry s = _
    unfold execReinCompare
    dsimp only
    have hv : ∀ f, votingEngines (s.modGroup g f) g = votingEngines s g := fun _ => rfl
    have hm : ∀ f f', majority ((s.modGroup g f).modGroup g f') entry (votingEngines s g) = some set := fun _ _ => hmajority
    rw [if_neg (by simp [hruns]), h1, if_neg (by simp), hv, if_neg (Nat.not_lt.mpr hvoters), hm]
    rfl

theorem fenceEngine_groups (s : State) (e : Nat) : (fenceEngine s e).groups = s.groups :=
  within_iff.mp (@fenceEngine_frame [.objs, .engines, .traces, .raised, .free] s (touch_of rfl) (touch_of rfl) (touch_of rfl) (touch_of rfl)
    (touch_of rfl) s e (.refl _ s)) .groups (by decide)

theorem probationCompare_groups (s : State) (g entry : Nat) (set : SMap Word32) : (probationCompare s g entry set).groups = s.groups := by
  unfold probationCompare
  refine State.each_inv (P := fun t => t.groups = s.groups) rfl fun t f _ ht => ?_
  split
  · split
    · exact ht
    · exact ht
  · exact (fenceEngine_groups t f).trans ht

/-- What the compare point does with the set that the voting engines delivered alike. -/
theorem reinCompare_agreed {s : State} {g : Fin 5} {entry : Fin 3} {set : SMap Word32} (hruns : groupRuns s g = true)
    (hhold : (s.groupOf g).pairHold = none) (hvoters : 2 ≤ (votingEngines s g).length)
    (hmajority : majority s entry (votingEngines s g) = some set) : Completes (.reinCompare g entry) s fun t =>
      SMap.find (t.groupOf g).agreed entry = some set ∧
      ∀ e, e ∈ votingEngines s g → deliveredSet s entry e ≠ some set → engState s e < 3 → engState t e = 3 := by
  obtain ⟨u, hengines, hobjs, hhold', hexec⟩ := exec_reinCompare_agreed hruns hhold hvoters hmajority
  refine ⟨_, hexec, ?_⟩
  generalize hodd : ((votingEngines s g).filter fun e => deliveredSet s entry e ≠ some set) = odd
  have hgroups : ((probationCompare u g entry set).each odd fun s e => (fenceEngine s e).bump (Obj.mismatches g)).groups = u.groups := by
    refine State.each_inv (P := fun t => t.groups = u.groups) (probationCompare_groups u g entry set) fun t e _ ht => ?_
    have hbump : ((fenceEngine t e).bump (Obj.mismatches g)).groups = (fenceEngine t e).groups :=
      within_iff.mp (@State.bump_frame [.objs, .free] _ (touch_of rfl) (touch_of rfl) _ _ (.refl _ _)) .groups (by decide)
    exact hbump.trans ((fenceEngine_groups t e).trans ht)
  obtain ⟨hagreed, hagreeObjs⟩ := agree_agreed (s := (probationCompare u g entry set).each odd fun s e =>
    (fenceEngine s e).bump (Obj.mismatches g)) (entry := entry) g.isLt set (by rw [groupOf_congr hgroups]; exact hhold')
  obtain ⟨hclearObjs, hclearGroups⟩ := clearDelivered_keeps (agree ((probationCompare u g entry set).each odd fun s e =>
    (fenceEngine s e).bump (Obj.mismatches g)) g entry set) g entry
  refine ⟨?_, fun e he hother hstate => ?_⟩
  · rw [groupOf_congr hclearGroups]
    exact hagreed
  · obtain ⟨⟨he16, -, -⟩, hvotes⟩ := mem_votingEngines.mp he
    refine (State.num_congr (hclearObjs.trans hagreeObjs) _).trans (fenceOdd_state (fun f hf => ?_) ?_ ?_ ?_)
    · rw [← hodd] at hf
      exact (mem_votingEngines.mp (List.mem_filter.mp hf).1).1.1
    · rw [← hodd]
      exact ((nodup_groupEngines s g).filter _).filter _
    · rw [← hodd]
      exact List.mem_filter.mpr ⟨he, by simpa using hother⟩
    · have hrole : engRole u e = engRole s e := State.num_congr hobjs _
      rw [probationCompare_state set he16 (hrole ▸ hvotes), show engState u e = engState s e from State.num_congr hobjs _]
      exact hstate

/-! ### The end of a pair hold's re-runs, and the rejoin -/

theorem rejoin_loadProgram {s : State} {e : Nat} (he : e < 16) (f : Engine → Engine) :
    ∃ prog, ((loadProgram s e).modEngine e f).engineOf e = f { s.engineOf e with prog := prog } ∧
      ∀ r, groupRecord s (s.engineOf e).group = some r → prog = wordMap r.prog (r.prog.length / 4) := by
  unfold loadProgram
  split
  · next r hr =>
    refine ⟨wordMap r.prog (r.prog.length / 4), ?_, fun r' hr' => ?_⟩
    · rw [engineOf_modEngine _ _ he, engineOf_modEngine _ _ he]
    · rw [hr] at hr'
      cases hr'
      rfl
  · next hr =>
    refine ⟨[], ?_, fun r' hr' => ?_⟩
    · rw [engineOf_modEngine _ _ he, engineOf_modEngine _ _ he]
    · rw [hr] at hr'
      cases hr'

/-- Whether the sets of the re-runs are alike (R274). -/
def rerunsAlike (s : State) : List Nat → Bool
  | [] => false
  | e :: r => r.all fun x => decide ((s.engineOf x).rerunSets = (s.engineOf e).rerunSets)

theorem rerunsAlike_of_forall {s : State} {l : List Nat} (hl : l ≠ [])
    (h : ∀ e f, e ∈ l → f ∈ l → (s.engineOf e).rerunSets = (s.engineOf f).rerunSets) : rerunsAlike s l = true := by
  cases l with
  | nil => exact absurd rfl hl
  | cons e r => simpa [rerunsAlike] using fun x hx => h x e (List.mem_cons_of_mem _ hx) List.mem_cons_self

theorem rerunsAlike_of_ne {s : State} {l : List Nat} {e f : Nat} (he : e ∈ l) (hf : f ∈ l)
    (h : (s.engineOf e).rerunSets ≠ (s.engineOf f).rerunSets) : rerunsAlike s l = false := by
  cases l with
  | nil => rfl
  | cons x r =>
    by_contra hne
    simp only [rerunsAlike, Bool.not_eq_false, List.all_eq_true, decide_eq_true_eq] at hne
    have hall : ∀ y ∈ x :: r, (s.engineOf y).rerunSets = (s.engineOf x).rerunSets := by
      intro y hy
      rcases List.mem_cons.mp hy with rfl | hy
      · rfl
      · exact hne y hy
    exact h ((hall e he).trans (hall f hf).symm)

/-- Once every voting engine has finished its re-runs, their sets decide (R274). -/
theorem exec_pairHoldRerunEnd {s : State} {g : Fin 5} (hhold : (s.groupOf g).pairHold ≠ none) (hdone : (s.groupOf g).holdRerunDone = false)
    (hended : ∀ e, e ∈ votingEngines s g → (s.engineOf e).reruns = [] ∧ ∀ r, (s.engineOf e).run = some r → r.rerun = false) :
    exec (.pairHoldRerunEnd g) s = .next (if rerunsAlike s (votingEngines s g) then
      (s.each (votingEngines s g) fun t e => t.modEngine e fun x => { x with
        delivered := x.delivered.filter fun d => (s.groupOf g).awaited.contains d.1
        stopped := x.stopped.filter fun d => (s.groupOf g).awaited.contains d.1, rerunSets := [] }).modGroup g
          fun x => { x with holdRerunDone := true }
      else parkGroup (holdMissed s g) g) := by
  have hany : ((votingEngines s g).any fun e => !(s.engineOf e).reruns.isEmpty || ((s.engineOf e).run.map (·.rerun)).getD false) = false := by
    rw [List.any_eq_false]
    intro e he
    obtain ⟨hreruns, hrun⟩ := hended e he
    rw [hreruns]
    cases h : (s.engineOf e).run with
    | none => simp
    | some r => simp [hrun r h]
  obtain ⟨hold, hhold⟩ := Option.ne_none_iff_exists'.mp hhold
  show execPairHoldRerunEnd g s = _
  unfold execPairHoldRerunEnd
  dsimp only
  rw [hhold]
  dsimp only
  rw [hdone, hany, if_neg Bool.false_ne_true, if_neg Bool.false_ne_true]
  cases hvoters : votingEngines s g with
  | nil => rfl
  | cons e r =>
    unfold rerunsAlike
    dsimp only
    split <;> rfl

/-- Settles O14: the agreed set is kept through the fences of the engines that delivered another; a fence marks the engine alone; a park writes no
object of an engine. -/
theorem reinEnginesAreComparedFencedAndRejoined : Obligations.ReinEnginesAreComparedFencedAndRejoined := by
  unfold Obligations.ReinEnginesAreComparedFencedAndRejoined
  refine ⟨fun s g entry set => ⟨?_, ?_⟩, fun s e => ⟨?_, ?_, ?_, ?_⟩⟩
  · intro hruns hhold hvoters hmajority
    exact reinCompare_agreed hruns hhold hvoters hmajority
  · intro hhold hdone hended
    refine ⟨_, exec_pairHoldRerunEnd hhold hdone hended, fun hne halike => ?_, fun e f he hf hdiffer hkept => ?_⟩
    · rw [if_pos (rerunsAlike_of_forall hne halike), groupOf_modGroup _ _ g.isLt]
      refine ⟨rfl, ?_⟩
      dsimp only
      rw [groupOf_congr (s := s)]
      exact State.each_inv (P := fun t => t.groups = s.groups) rfl fun _ _ _ ht => ht
    · have hstart : StartKept (holdMissed s g) g := by
        have hkeeps : (holdMissed s g).start = s.start :=
          within_iff.mp (@State.bump_frame [.objs, .free] s (touch_of rfl) (touch_of rfl) s (Obj.missedLatches g) (.refl _ s)) .start (by decide)
        unfold StartKept
        rw [hkeeps]
        exact hkept
      rw [if_neg (by rw [rerunsAlike_of_ne he hf hdiffer]; exact Bool.false_ne_true)]
      refine ⟨parkGroup_state g.isLt hstart, fun hg => (counted_bump (Obj.missedLatches g) s).trans_num ?_⟩
      refine congrArg Val.toNum (parkGroup_other (missedLatches_calm g.isLt) hstart ?_)
      unfold Obj.missedLatches Obj.groupState Key
      omega
  · intro hrejoin
    obtain ⟨prog, heq, hprog⟩ := rejoin_loadProgram (s := s) e.isLt fun x => { x with rejoin := 2 }
    refine ⟨_, if_pos hrejoin, congrArg Engine.rejoin heq, fun r hr => ?_⟩
    exact (congrArg Engine.prog heq).trans (hprog r hr)
  · intro a hactive hrejoin
    have hcopy := engineOf_modEngine s (fun x => { x with data := (s.engineOf a).data, coef := (s.engineOf a).coef, rejoin := 3 }) e.isLt
    refine ⟨s.modEngine e fun x => { x with data := (s.engineOf a).data, coef := (s.engineOf a).coef, rejoin := 3 }, ?_,
      by beta_reduce; rw [hcopy]; exact ⟨rfl, rfl, rfl, rfl⟩⟩
    show execSnapshotCopyDone e s = _
    unfold execSnapshotCopyDone
    dsimp only
    rw [hactive]
    exact if_pos hrejoin
  · intro hrole hagreed
    refine ⟨_, if_pos ⟨hrole, hagreed⟩, At.num (@regroup_at (engKey e 3) _ ⟨fun g => engKey_ne_groupState e g (by decide) (by decide)⟩ _ _ ?_)⟩
    exact (At.setNum_self ..).mpr rfl
  · intro hstate hkept
    obtain ⟨hrole', hstate'⟩ := fenceEngine_self (s := s) e.isLt
    have hstart : (fenceEngine s e).start = s.start :=
      within_iff.mp (@fenceEngine_frame [.objs, .engines, .traces, .raised, .free] s (touch_of rfl) (touch_of rfl) (touch_of rfl)
        (touch_of rfl) (touch_of rfl) s e (.refl _ s)) .start (by decide)
    have hkept' : StartKept (fenceEngine s e) (s.engineOf e).group := by
      unfold StartKept
      rw [hstart]
      exact hkept
    refine ⟨_, rfl, ?_⟩
    unfold parkIfAlone
    split
    · refine ⟨(congrArg Val.toNum (parkGroup_other (engKey_calm e.isLt (by decide)) hkept' ?_)).trans (hstate' hstate),
        (congrArg Val.toNum (parkGroup_other (engKey_calm e.isLt (by decide)) hkept' ?_)).trans hrole'⟩
      · exact engKey_ne_groupState _ _ (by decide) (by decide)
      · exact engKey_ne_groupState _ _ (by decide) (by decide)
    · exact ⟨hstate' hstate, hrole'⟩

end Sys2Proof.Machine
end

section
/-!
PROOFS. Accepted writes of the dictionary, and the write of POWER_CAP with what moves VCORE and the throttle (R20, R46, R47).
-/

namespace Sys2Proof.Machine

/-! ### An accepted write -/

/-- A write that passes every check is answered OK after its effect, unless its requester loses the port by it. -/
theorem commandWrite_accepted {s : State} {who : Requester} {k : Key} {v : Val} (h : Accepted s who k v) (hfirst : answersFirst who k = false) :
    commandWrite s who k (some v) = answerPlain who k (effect s who k v) dsOk := by
  obtain ⟨hheard, hcheck, hstatus⟩ := h
  unfold commandWrite writeObject
  rw [if_pos hheard]
  have hdue : ((some v).bind (selfCheckDue s k)).isSome = false := by rw [Option.bind_some, hcheck]; rfl
  simp only [hdue, selfCheckOutcome, hstatus, Bool.false_eq_true, if_false, if_true, hfirst]

/-- A write whose requester loses the port by it is answered OK before its effect. -/
theorem commandWrite_accepted_first {s : State} {who : Requester} {k : Key} {v : Val} (h : Accepted s who k v) (hfirst : answersFirst who k = true) :
    commandWrite s who k (some v) = effect (answerPlain who k s dsOk) who k v := by
  obtain ⟨hheard, hcheck, hstatus⟩ := h
  unfold commandWrite writeObject
  rw [if_pos hheard]
  have hdue : ((some v).bind (selfCheckDue s k)).isSome = false := by rw [Option.bind_some, hcheck]; rfl
  simp only [hdue, selfCheckOutcome, hstatus, Bool.false_eq_true, if_false, if_true, hfirst]

theorem answersFirst_eq_false {k : Key} (who : Requester) (h : k ≠ Obj.restart ∧ k ≠ Obj.lifecycleRequest ∧ k ≠ Obj.portEnable 0 ∧ k ≠ Obj.portEnable 1) :
    answersFirst who k = false := by
  obtain ⟨h1, h2, h3, h4⟩ := h
  simp [answersFirst, h1, h2, h3, h4]

theorem answers_of_accepted {c : Instr} {s : State} {who : Requester} {k : Key} {v : Val} {P : State → Prop}
    (hexec : exec c s = .next (commandWrite s who k (some v))) (h : Accepted s who k v) (hfirst : answersFirst who k = false)
    (hP : P (effect s who k v)) : Answers c s who k P :=
  ⟨_, hexec.trans (congrArg _ (commandWrite_accepted h hfirst)), hP⟩

theorem effect_powerCap (s : State) (who : Requester) (n : Nat) :
    effect s who Obj.powerCap (.num n) =
      if s.num Obj.powerState < n ∧ !s.start.running then requestPower (s.setNum Obj.powerCap n) n else s.setNum Obj.powerCap n := by
  have hstate : (s.setNum Obj.powerCap n).num Obj.powerState = s.num Obj.powerState := State.num_setNum_other _ _ (by decide)
  have heffect : effect s who Obj.powerCap (.num n) =
      if (s.setNum Obj.powerCap n).num Obj.powerState < n ∧ !s.start.running then requestPower (s.setNum Obj.powerCap n) n
      else s.setNum Obj.powerCap n := rfl
  rw [heffect, hstate]

/-! ### Power states (R46, R365) -/

theorem ofNat_ne_driveObjects {k : Nat} (h : k < 0x602005) (a : Nat) : k ≠ Obj.driveState a ∧ k ≠ Obj.retracts a := by
  unfold Obj.driveState Obj.retracts
  omega

/-- Waking the drive writes the drive's and the spindle's objects only. -/
theorem wakeDrive_obj {k : Key} (hlow : k < 0x601000) (s : State) (from4 : Bool) : (wakeDrive s from4).obj k = s.obj k := by
  have hdrive := ofNat_ne_driveObjects (k := k) (lt_trans hlow (by decide))
  exact @wakeDrive_at k _ ⟨fun h => absurd (h ▸ hlow) (by decide)⟩ ⟨fun a => (hdrive a).1⟩ ⟨fun h => absurd (h ▸ hlow) (by decide)⟩
    ⟨fun a => (hdrive a).2⟩ ⟨fun h => absurd (h ▸ hlow) (by decide)⟩ ⟨fun h => absurd (h ▸ hlow) (by decide)⟩
    ⟨fun h => absurd (h ▸ hlow) (by decide)⟩ s from4 (At.self s)

theorem retractLoaded_obj {k : Key} (hlow : k < 0x601000) (s : State) : (retractLoaded s).obj k = s.obj k :=
  retractLoaded_off s (At.self s) fun a _ => ofNat_ne_driveObjects (k := k) (lt_trans hlow (by decide)) a

theorem retractLoaded_host (s : State) : (retractLoaded s).host = s.host :=
  within_iff.mp (@retractLoaded_frame [.objs, .motion, .free] s (touch_of rfl) (touch_of rfl) (touch_of rfl) s (.refl _ s)) .host (by decide)

theorem wakeDrive_host (s : State) (from4 : Bool) : (wakeDrive s from4).host = s.host :=
  within_iff.mp (@wakeDrive_frame [.objs, .motion, .free] s (touch_of rfl) (touch_of rfl) (touch_of rfl) s from4 (.refl _ s)) .host (by decide)

theorem reportPower_state (s : State) (n : Nat) : (reportPower s n).num Obj.powerState = max n (s.num Obj.powerCap) := by
  unfold reportPower settleEffective
  dsimp only
  rw [State.num_setNum_other _ _ (by decide)]
  split <;> exact State.num_setNum_self ..

theorem reportPower_other {k : Key} (hstate : k ≠ Obj.powerState) (heffective : k ≠ Obj.effectiveState) (s : State) (n : Nat) :
    (reportPower s n).obj k = s.obj k := by
  unfold reportPower settleEffective
  dsimp only
  rw [State.obj_setNum, if_neg heffective]
  split <;> exact (State.obj_setNum ..).trans (if_neg hstate)

/-- Entering a state: POWER_STATE reports it, but no lower than POWER_CAP, and its entry begins. -/
theorem enterPower_effect (s : State) (n : Nat) :
    (enterPower s n).num Obj.powerState = max n (s.num Obj.powerCap) ∧ (enterPower s n).host.psEntry = some n ∧
    (enterPower s n).num Obj.powerCap = s.num Obj.powerCap := by
  have hstate := reportPower_state s n
  have hcap : (reportPower s n).num Obj.powerCap = s.num Obj.powerCap :=
    congrArg Val.toNum (reportPower_other (by decide) (by decide) s n)
  unfold enterPower
  dsimp only
  generalize reportPower s n = u at hstate hcap ⊢
  split
  · next h3 =>
    have hhost := retractLoaded_host (((u.setHost { u.host with psWaiting := false, psPhase := 0, wake := false }).setHost
      { (u.setHost { u.host with psWaiting := false, psPhase := 0, wake := false }).host with psEntry := some 3 }))
    exact ⟨(congrArg Val.toNum (retractLoaded_obj (by decide) _)).trans hstate, (congrArg HostIf.psEntry hhost).trans (by rw [h3]; rfl),
      (congrArg Val.toNum (retractLoaded_obj (by decide) _)).trans hcap⟩
  · split
    · next h4 => exact ⟨hstate, by rw [h4]; rfl, hcap⟩
    · have hwake : ∀ from4, (wakeDrive ((u.setHost { u.host with psWaiting := false, psPhase := 0, wake := false }).setHost
          { (u.setHost { u.host with psWaiting := false, psPhase := 0, wake := false }).host with psEntry := some n }) from4).host.psEntry =
          some n := fun from4 => congrArg HostIf.psEntry (wakeDrive_host _ from4)
      repeat' split
      · exact ⟨(congrArg Val.toNum (wakeDrive_obj (by decide) _ _)).trans hstate, hwake true,
          (congrArg Val.toNum (wakeDrive_obj (by decide) _ _)).trans hcap⟩
      · exact ⟨(congrArg Val.toNum (wakeDrive_obj (by decide) _ _)).trans hstate, hwake false,
          (congrArg Val.toNum (wakeDrive_obj (by decide) _ _)).trans hcap⟩
      · exact ⟨hstate, rfl, hcap⟩

theorem requestPower_effect (s : State) (n : Nat) (h : s.num Obj.powerCap ≤ n) :
    (requestPower s n).num Obj.powerState = n ∧ (requestPower s n).host.psEntry = some n ∧
    (requestPower s n).num Obj.powerCap = s.num Obj.powerCap := by
  obtain ⟨hstate, hentry, hcap⟩ := enterPower_effect s n
  unfold requestPower
  rw [max_eq_left h]
  exact ⟨hstate.trans (max_eq_left h), hentry, hcap⟩

/-! ### VCORE and the throttle (R20, R47) -/

theorem exec_vcoreSteer {s : State} (hgood : s.power.powerGood = true) (hrails : s.power.railsOff = false)
    (hstep : s.start.passedSteps.testBit 2 = true) (p : Nat) :
    exec (.vcoreSteer p) s = .next (
      let u := if s.num Obj.vcoreMv = 860 ∧ p < 100 then s.raise 10 else s
      if p < 110 then u.setNum Obj.vcoreMv (min 860 (s.num Obj.vcoreMv + 5))
      else if 110 < p then u.setNum Obj.vcoreMv (max 620 (s.num Obj.vcoreMv - 5)) else u) := by
  have hon : (!mainPowered s || !bit s.start.passedSteps 2) = false := by simp [mainPowered, hgood, hrails, bit, hstep]
  show execVcoreSteer p s = _
  unfold execVcoreSteer
  dsimp only
  rw [hon, if_neg Bool.false_ne_true]
  split
  · rfl
  · split <;> rfl

/-- EFFECTIVE_STATE after the throttle's state: POWER_STATE, and PS1 at least while it lasts (R47). -/
theorem settleEffective_throttle (s : State) (v : Nat) :
    (settleEffective (s.setNum Obj.thermalState v)).num Obj.effectiveState =
      (if v = 1 then max (s.num Obj.powerState) 1 else s.num Obj.powerState) ∧
    (settleEffective (s.setNum Obj.thermalState v)).num Obj.thermalState = v ∧
    (settleEffective (s.setNum Obj.thermalState v)).num Obj.tjC = s.num Obj.tjC := by
  unfold settleEffective
  refine ⟨?_, ?_, ?_⟩
  · simp [State.num_setNum, Obj.thermalState, Obj.powerState]
  · rw [State.num_setNum_other _ _ (by decide), State.num_setNum_self]
  · rw [State.num_setNum_other _ _ (by decide), State.num_setNum_other _ _ (by decide)]

/-- Settles O16: the two arms of each command, the safe state's entry (`safeBy_effect`), and the entry of a power state (`enterPower_effect`). -/
theorem vcoreTemperatureAndPowerCap : Obligations.VcoreTemperatureAndPowerCap := by
  unfold Obligations.VcoreTemperatureAndPowerCap
  intro s who p n tj v limit ps
  refine ⟨fun hgood hrails hstep => ⟨fun hp => ?_, fun hp => ?_, fun hp => ?_⟩, fun hhot hcool => ?_, fun hcool => ?_, fun hhot hsafe hrun => ?_,
    fun ⟨hask, haccepted⟩ => answers_of_accepted (by rw [← hask]; rfl) haccepted (answersFirst_eq_false who (by decide)) ?_⟩
  · refine ⟨_, exec_vcoreSteer hgood hrails hstep p, ?_⟩
    dsimp only
    rw [if_pos hp]
    refine ⟨State.num_setNum_self .., ?_⟩
    show (if v = 860 ∧ p < 100 then s.raise 10 else s).raised = _
    split <;> rfl
  · rw [exec_vcoreSteer hgood hrails hstep p]
    dsimp only
    rw [if_neg (by omega), if_pos hp, if_neg (by omega)]
  · rw [exec_vcoreSteer hgood hrails hstep p]
    dsimp only
    rw [if_neg (by omega), if_neg (by omega), if_neg (by omega)]
  · have hthermal : (setTj s tj).num Obj.thermalState = 0 := (State.num_setNum_other _ _ (by decide)).trans hcool
    obtain ⟨heffective, hstate, htj⟩ := settleEffective_throttle (setTj s tj) 1
    refine ⟨settleEffective (((setTj s tj).setNum Obj.thermalState 1).raise 11), ?_, ?_, ?_, ?_, rfl⟩
    · show execThrottleEnter tj s = _
      unfold execThrottleEnter
      dsimp only
      rw [if_pos (by rw [hthermal]; simpa using hhot)]
    · exact htj.trans (State.num_setNum_self ..)
    · exact hstate
    · exact heffective.trans (congrArg (max · 1) (State.num_setNum_other _ _ (by decide)))
  · obtain ⟨heffective, hstate, htj⟩ := settleEffective_throttle (setTj s tj) 0
    refine ⟨settleEffective ((setTj s tj).setNum Obj.thermalState 0), ?_, ?_, hstate, ?_, rfl⟩
    · show execThrottleExit tj s = _
      unfold execThrottleExit
      dsimp only
      rw [if_pos (by simpa using hcool)]
    · exact htj.trans (State.num_setNum_self ..)
    · exact heffective.trans (State.num_setNum_other _ _ (by decide))
  · obtain ⟨hstate, hcause, hpower, hfetch, -, hcalm⟩ := safeBy_effect (s := setTj s tj) (ev := { source := 12 })
      (by rw [setTj, State.num_setNum_other _ _ (by decide), hsafe]; decide) (.inl hrun)
    refine ⟨_, if_pos hhot, ?_, hstate, hcause, by rw [hpower], hfetch⟩
    exact (congrArg Val.toNum (hcalm Obj.tjC (by unfold Calm Still Off OffLog; decide))).trans (State.num_setNum_self ..)
  · rw [effect_powerCap]
    have hcap : (s.setNum Obj.powerCap n).num Obj.powerCap = n := State.num_setNum_self ..
    obtain ⟨hstate, hentry, hcap'⟩ := requestPower_effect (s.setNum Obj.powerCap n) n hcap.le
    refine ⟨?_, fun hlow hrun => ?_, fun hstays => ?_⟩
    · split
      · exact hcap'.trans hcap
      · exact hcap
    · rw [if_pos ⟨hlow, by simp [hrun]⟩]
      exact ⟨hstate, hentry⟩
    · rw [if_neg]
      rintro ⟨hlow, hrun⟩
      cases hstays with
      | inl h => exact absurd hlow (Nat.not_lt.mpr h)
      | inr h => simp [h] at hrun

end Sys2Proof.Machine
end

section
/-!
PROOFS. The parts of the state after a count, which changes objects only (and draws a free value where it overflows).
-/

namespace Sys2Proof.Machine

theorem State.add_eq (s : State) (k : Key) (n : Nat) : s.add k n = { s with objs := (s.add k n).objs, free := (s.add k n).free } := by
  unfold State.add
  dsimp only
  split <;> rfl

variable (s : State) (k : Key)

@[simp] theorem State.power_bump : (s.bump k).power = s.power := by rw [State.bump, State.add_eq]
@[simp] theorem State.dict_bump : (s.bump k).dict = s.dict := by rw [State.bump, State.add_eq]
@[simp] theorem State.start_bump : (s.bump k).start = s.start := by rw [State.bump, State.add_eq]
@[simp] theorem State.fw_bump : (s.bump k).fw = s.fw := by rw [State.bump, State.add_eq]
@[simp] theorem State.media_bump : (s.bump k).media = s.media := by rw [State.bump, State.add_eq]
@[simp] theorem State.chan_bump : (s.bump k).chan = s.chan := by rw [State.bump, State.add_eq]
@[simp] theorem State.dec_bump : (s.bump k).dec = s.dec := by rw [State.bump, State.add_eq]
@[simp] theorem State.players_bump : (s.bump k).players = s.players := by rw [State.bump, State.add_eq]
@[simp] theorem State.acts_bump : (s.bump k).acts = s.acts := by rw [State.bump, State.add_eq]
@[simp] theorem State.engines_bump : (s.bump k).engines = s.engines := by rw [State.bump, State.add_eq]
@[simp] theorem State.groups_bump : (s.bump k).groups = s.groups := by rw [State.bump, State.add_eq]
@[simp] theorem State.traces_bump : (s.bump k).traces = s.traces := by rw [State.bump, State.add_eq]
@[simp] theorem State.motion_bump : (s.bump k).motion = s.motion := by rw [State.bump, State.add_eq]
@[simp] theorem State.girth_bump : (s.bump k).girth = s.girth := by rw [State.bump, State.add_eq]
@[simp] theorem State.host_bump : (s.bump k).host = s.host := by rw [State.bump, State.add_eq]
@[simp] theorem State.layout_bump : (s.bump k).layout = s.layout := by rw [State.bump, State.add_eq]
@[simp] theorem State.mem_bump : (s.bump k).mem = s.mem := by rw [State.bump, State.add_eq]
@[simp] theorem State.fab_bump : (s.bump k).fab = s.fab := by rw [State.bump, State.add_eq]
@[simp] theorem State.coll_bump : (s.bump k).coll = s.coll := by rw [State.bump, State.add_eq]
@[simp] theorem State.raised_bump : (s.bump k).raised = s.raised := by rw [State.bump, State.add_eq]
@[simp] theorem State.outs_bump : (s.bump k).outs = s.outs := by rw [State.bump, State.add_eq]
@[simp] theorem State.pending_bump : (s.bump k).pending = s.pending := by rw [State.bump, State.add_eq]

end Sys2Proof.Machine
end

section
/-!
PROOFS. The shutdown that a power fail, PWRDIS or the loss of the motion die begins (R40, R287): what it sets in the power part, and which objects
it leaves alone.
-/

namespace Sys2Proof.Machine

/-- Object k is none that the begin of a shutdown writes. -/
def Shut (k : Key) : Prop :=
  Off k ∧ (k < 0x602000 ∨ 0x602400 ≤ k ∨ k % 0x100 ≠ 5 ∧ k % 0x100 ≠ 7) ∧ (k < 0x200000 ∨ 0x210000 ≤ k) ∧
  (k < 0x111003 ∨ 0x111105 ≤ k) ∧ k ≠ Obj.writebacks

section
variable {k : Key} {v : Val}

theorem Shut.ne_drive (hk : Shut k) (a : Nat) (ha : a < 4) : ¬k = Obj.driveState a ∧ ¬k = Obj.retracts a := by
  unfold Shut Off Key at hk; unfold Obj.driveState Obj.retracts Key; omega

theorem quiesceHosts_shut (hk : Shut k) (s : State) (h : At k v s) : At k v (quiesceHosts s) := by
  have hne : (¬k = Obj.slotsInUse ∧ ¬k = Obj.ioSlotsHeld 0 ∧ ¬k = Obj.ioSlotsHeld 1 ∧ ¬k = Obj.lockInUse) ∧
      ¬k = Obj.linkSpeed 0 ∧ ¬k = Obj.linkSpeed 1 ∧ ¬k = Obj.linkWidth 0 ∧ ¬k = Obj.linkWidth 1 := by
    unfold Shut Key at hk
    unfold Obj.slotsInUse Obj.ioSlotsHeld Obj.lockInUse Obj.linkSpeed Obj.linkWidth Key
    omega
  obtain ⟨⟨h1, h2, h3, h4⟩, h5, h6, h7, h8⟩ := hne
  simp (maxDischargeDepth := 30) [quiesceHosts, State.each, countSlots, h1, h2, h3, h4, h5, h6, h7, h8, h]

theorem shutDown_shut (hk : Shut k) (s : State) (h : At k v s) : At k v (shutDown s) := by
  have hgates := gatesOff_off s h hk.1.aside
  have habort : At k v ((gatesOff s).each [0, 1, 2, 3] abortPlayers) := State.each_inv hgates fun t a ha ht => by
    simp only [List.mem_cons, List.not_mem_nil, or_false] at ha
    exact abortPlayers_off hk.1.aside (by omega) t ht
  have hretract := retractLoaded_off _ habort hk.ne_drive
  have hdump : ∀ u, At k v u → At k v (startDump u) := fun u hu => @startDump_at k v ⟨hk.2.2.2.2⟩ u hu
  unfold shutDown
  dsimp only
  generalize retractLoaded ((gatesOff s).each [0, 1, 2, 3] abortPlayers) = u at hretract ⊢
  have hkilled : At k v (u.setPower { u.power with writeKill := true, pfN := true }) := hretract
  generalize u.setPower { u.power with writeKill := true, pfN := true } = w at hkilled ⊢
  have hquiet : At k v (if dumpDue w then quiesceHosts w else w) := by
    split
    · exact quiesceHosts_shut hk w hkilled
    · exact hkilled
  generalize (if dumpDue w then quiesceHosts w else w) = x at hquiet ⊢
  split
  · exact hdump x hquiet
  · exact hquiet

end

/-- The dump's begin writes no other field of the power part than the dump's. -/
theorem startDump_power (s : State) : ∃ d, (startDump s).power = { s.power with dump := d } ∧ (startDump s).host = s.host ∧
    (startDump s).motion = s.motion ∧ (startDump s).start = s.start := by
  have hclean := @cleanLines_frame [.objs, .mem, .free] s (touch_of rfl) (touch_of rfl) (touch_of rfl) s (fun l => decide (protectedBase ≤ 64 * l))
    (.refl _ s)
  have hpower : (cleanLines s fun l => decide (protectedBase ≤ 64 * l)).power = s.power := within_iff.mp hclean .power (by decide)
  have hhost : (cleanLines s fun l => decide (protectedBase ≤ 64 * l)).host = s.host := within_iff.mp hclean .host (by decide)
  have hmotion : (cleanLines s fun l => decide (protectedBase ≤ 64 * l)).motion = s.motion := within_iff.mp hclean .motion (by decide)
  have hstart : (cleanLines s fun l => decide (protectedBase ≤ 64 * l)).start = s.start := within_iff.mp hclean .start (by decide)
  unfold startDump
  dsimp only
  generalize cleanLines s (fun l => decide (protectedBase ≤ 64 * l)) = u at *
  split
  · exact ⟨.skipped, by rw [← hpower]; rfl, hhost, hmotion, hstart⟩
  · next i _ => exact ⟨.running i (nextGeneration u.mem), by rw [← hpower]; rfl, hhost, hmotion, hstart⟩

theorem retract_notice (s : State) (a : Nat) : (retract s a).motion.notice = s.motion.notice := by
  unfold retract
  dsimp only
  split
  · rfl
  · rw [State.motion_bump]
    rfl

theorem retractLoaded_notice (s : State) : (retractLoaded s).motion.notice = s.motion.notice := by
  unfold retractLoaded
  refine State.each_inv (P := fun t => t.motion.notice = s.motion.notice) rfl fun t a _ ht => ?_
  split
  · exact (retract_notice t a).trans ht
  · exact ht

/-- The dump begins where the keeper serves, and is skipped otherwise. -/
theorem dumpBegins_parts (s : State) :
    (∃ d, (if canDump s then startDump s else s.setPower { s.power with dump := .skipped }).power = { s.power with dump := d }) ∧
    (if canDump s then startDump s else s.setPower { s.power with dump := .skipped }).host = s.host ∧
    (if canDump s then startDump s else s.setPower { s.power with dump := .skipped }).motion = s.motion ∧
    (if canDump s then startDump s else s.setPower { s.power with dump := .skipped }).start = s.start := by
  split
  · obtain ⟨d, hpower, hhost, hmotion, hstart⟩ := startDump_power s
    exact ⟨⟨d, hpower⟩, hhost, hmotion, hstart⟩
  · exact ⟨⟨.skipped, rfl⟩, rfl, rfl, rfl⟩

theorem quiesceHosts_parts (s : State) :
    (quiesceHosts s).power = { s.power with quiesced := true } ∧ (quiesceHosts s).host.fetchStopped = true ∧
    (quiesceHosts s).motion = s.motion ∧ (quiesceHosts s).start = s.start := ⟨rfl, rfl, rfl, rfl⟩

/-- What the begin of a shutdown leaves: the write kill and PF_N asserted, and the hosts quiesced where a dump is due. -/
theorem shutDown_parts (s : State) :
    (shutDown s).power.off = s.power.off ∧ (shutDown s).power.writeKill = true ∧ (shutDown s).power.pfN = true ∧
    (replayComplete s = true → s.num Obj.powerState ≠ 4 → (shutDown s).host.fetchStopped = true ∧ (shutDown s).power.quiesced = true) ∧
    (replayComplete s = false → (shutDown s).host.fetchStopped = s.host.fetchStopped ∧ (shutDown s).power.quiesced = s.power.quiesced) ∧
    (shutDown s).motion.notice = s.motion.notice ∧ (shutDown s).start = s.start := by
  have hgates := @gatesOff_frame [.objs, .chan, .dec, .players, .acts, .traces, .mem, .raised, .outs, .free] s (touch_of rfl) (touch_of rfl)
    (touch_of rfl) (touch_of rfl) (touch_of rfl) (touch_of rfl) (touch_of rfl) (touch_of rfl) s (.refl _ s)
  have habort : Within [.objs, .chan, .dec, .players, .acts, .traces, .mem, .raised, .outs, .free] s
      ((gatesOff s).each [0, 1, 2, 3] abortPlayers) :=
    State.each_frame hgates fun t a ht => @abortPlayers_frame _ s (touch_of rfl) (touch_of rfl) (touch_of rfl) (touch_of rfl) (touch_of rfl)
      (touch_of rfl) (touch_of rfl) (touch_of rfl) (touch_of rfl) (touch_of rfl) t a ht
  have hobj : ((gatesOff s).each [0, 1, 2, 3] abortPlayers).num Obj.powerState = s.num Obj.powerState := by
    refine At.num_eq (State.each_inv (gatesOff_off s (At.self s) (by unfold Aside; decide)) fun t a ha ht => ?_)
    simp only [List.mem_cons, List.not_mem_nil, or_false] at ha
    exact abortPlayers_off (by unfold Aside; decide) (by omega) t ht
  unfold shutDown
  dsimp only
  generalize (gatesOff s).each [0, 1, 2, 3] abortPlayers = u at habort hobj ⊢
  have hretract := @retractLoaded_frame [.objs, .motion, .free] u (touch_of rfl) (touch_of rfl) (touch_of rfl) u (.refl _ u)
  have hpower : (retractLoaded u).power = s.power := (within_iff.mp hretract .power (by decide)).trans (within_iff.mp habort .power (by decide))
  have hhost : (retractLoaded u).host = s.host := (within_iff.mp hretract .host (by decide)).trans (within_iff.mp habort .host (by decide))
  have hstart : (retractLoaded u).start = s.start := (within_iff.mp hretract .start (by decide)).trans (within_iff.mp habort .start (by decide))
  have hmotion : u.motion = s.motion := within_iff.mp habort .motion (by decide)
  have hnotice : (retractLoaded u).motion.notice = s.motion.notice := (retractLoaded_notice u).trans (by rw [hmotion])
  have hstate : (retractLoaded u).num Obj.powerState = s.num Obj.powerState :=
    (congrArg Val.toNum (retractLoaded_obj (by decide) u)).trans hobj
  generalize retractLoaded u = w at hpower hhost hstart hnotice hstate ⊢
  have hdue : dumpDue (w.setPower { w.power with writeKill := true, pfN := true }) =
      (replayComplete s && !(decide (s.num Obj.powerState = 4) && destaged w)) := by
    unfold dumpDue replayComplete
    show (bit w.start.passedSteps 17 && !w.start.maintenance && !(decide (w.num Obj.powerState = 4) && destaged w)) = _
    rw [hstart, hstate]
  rw [hdue]
  have hkilled : (w.setPower { w.power with writeKill := true, pfN := true }).power = { s.power with writeKill := true, pfN := true } := by
    rw [← hpower]
    rfl
  have hrest : (w.setPower { w.power with writeKill := true, pfN := true }).host = s.host ∧
    (w.setPower { w.power with writeKill := true, pfN := true }).start = s.start ∧
    (w.setPower { w.power with writeKill := true, pfN := true }).motion.notice = s.motion.notice := ⟨hhost, hstart, hnotice⟩
  generalize w.setPower { w.power with writeKill := true, pfN := true } = y at hkilled hrest ⊢
  obtain ⟨hyhost, hystart, hynotice⟩ := hrest
  by_cases hcond : (replayComplete s && !(decide (s.num Obj.powerState = 4) && destaged w)) = true
  · rw [if_pos hcond]
    obtain ⟨hqpower, hqfetch, hqmotion, hqstart⟩ := quiesceHosts_parts y
    obtain ⟨hpower', hhost', hmotion', hstart'⟩ := dumpBegins_parts (quiesceHosts y)
    rw [Bool.and_eq_true] at hcond
    obtain ⟨dump, hpower'⟩ := hpower'
    rw [hpower', hhost', hmotion', hstart', hqpower, hqfetch, hqmotion, hqstart, hkilled, hystart, hynotice]
    exact ⟨rfl, rfl, rfl, fun _ _ => ⟨rfl, rfl⟩, fun h => absurd (h ▸ hcond.1) Bool.false_ne_true, rfl, rfl⟩
  · rw [if_neg hcond]
    obtain ⟨hpower', hhost', hmotion', hstart'⟩ := dumpBegins_parts y
    obtain ⟨dump, hpower'⟩ := hpower'
    rw [hpower', hhost', hmotion', hstart', hkilled, hyhost, hystart, hynotice]
    refine ⟨rfl, rfl, rfl, fun hreplay hps => absurd ?_ hcond, fun _ => ⟨rfl, rfl⟩, rfl, rfl⟩
    simp [hreplay, hps]

end Sys2Proof.Machine
end

section
/-!
PROOFS. Supervision of the motion die and the messages of the die-to-die link (R284–R287).
-/

namespace Sys2Proof.Machine

/-! ### The motion die takes over (R287) -/

theorem spinHold_parts (s : State) : Within [.objs] s (spinHold s) := @spinHold_frame [.objs] s (touch_of rfl) s (.refl _ s)

theorem parkedSwitches_parts (s : State) : Within [.objs] s (parkedSwitches s) := @parkedSwitches_frame [.objs] s (touch_of rfl) s (.refl _ s)

theorem parkedSwitches_obj {k : Key} (hk : k ≠ Obj.v3p3Enable) (s : State) : (parkedSwitches s).obj k = s.obj k :=
  @parkedSwitches_at k _ ⟨hk⟩ s (At.self s)

/-- The objects that no shutdown and no hold of the spindle writes. -/
def Down (k : Key) : Prop := Shut k ∧ Still k ∧ k ≠ Obj.v3p3Enable

/-- Where no other shutdown runs, the begin of one names its cause and asserts the write kill and PF_N. -/
theorem beginOff_none {s : State} (hoff : s.power.off = none) (c : OffCause) :
    (beginOff s c).power.off = some c ∧ (beginOff s c).power.writeKill = true ∧ (beginOff s c).power.pfN = true ∧
    (replayComplete s = true → s.num Obj.powerState ≠ 4 → (beginOff s c).host.fetchStopped = true ∧ (beginOff s c).power.quiesced = true) ∧
    (replayComplete s = false → (beginOff s c).host.fetchStopped = s.host.fetchStopped ∧ (beginOff s c).power.quiesced = s.power.quiesced) ∧
    (beginOff s c).motion.notice = s.motion.notice ∧ (beginOff s c).start = s.start ∧ ∀ k, Shut k → (beginOff s c).obj k = s.obj k := by
  unfold beginOff
  rw [hoff]
  obtain ⟨h1, h2, h3, h4, h5, h6, h7⟩ := shutDown_parts ((spinCancel s).setPower { s.power with off := some c, dump := .idle })
  exact ⟨h1, h2, h3, h4, h5, h6, h7, fun k hk => shutDown_shut hk _ (At.self ((spinCancel s).setPower { s.power with off := some c, dump := .idle }))⟩

theorem beginOff_obj {k : Key} (hk : Shut k) (s : State) (c : OffCause) : (beginOff s c).obj k = s.obj k := by
  unfold beginOff
  split
  · split <;> rfl
  · exact shutDown_shut hk _ (At.self ((spinCancel s).setPower { s.power with off := some c, dump := .idle }))

theorem motionTakesOver_obj {k : Key} (hk : Down k) (harmed : k ≠ Obj.heartbeatArmed) (hlosses : k ≠ Obj.heartbeatLosses) (s : State)
    (c : OffCause) : (motionTakesOver s c).obj k = s.obj k := by
  obtain ⟨hshut, hstill, hswitch⟩ := hk
  unfold motionTakesOver
  split
  · rfl
  · refine (parkedSwitches_obj hswitch _).trans ((spinHold_still hstill _ (At.self _)).trans ((beginOff_obj hshut _ c).trans ?_))
    show ((s.bump Obj.heartbeatLosses).setNum Obj.heartbeatArmed 0).obj k = s.obj k
    rw [State.obj_setNum, if_neg harmed, State.obj_bump_other _ hlosses]

theorem motionTakesOver_effect {s : State} (hoff : s.power.off = none) (hmode : s.start.mode ≠ .halted) (c : OffCause) :
    (motionTakesOver s c).num Obj.heartbeatArmed = 0 ∧ (motionTakesOver s c).motion.notice = none ∧ (motionTakesOver s c).power.off = some c ∧
    (motionTakesOver s c).power.writeKill = true ∧ (motionTakesOver s c).power.pfN = true ∧
    Counted Obj.heartbeatLosses s (motionTakesOver s c) := by
  have hcount : Counted Obj.heartbeatLosses s ((s.bump Obj.heartbeatLosses).setNum Obj.heartbeatArmed 0) :=
    (counted_bump _ s).trans_num (State.num_setNum_other _ _ (by decide))
  have harmed : ((s.bump Obj.heartbeatLosses).setNum Obj.heartbeatArmed 0).num Obj.heartbeatArmed = 0 := State.num_setNum_self ..
  have hoff' : ((s.bump Obj.heartbeatLosses).setNum Obj.heartbeatArmed 0).power.off = none :=
    (congrArg Power.off (State.power_bump s Obj.heartbeatLosses)).trans hoff
  unfold motionTakesOver
  rw [if_neg hmode]
  dsimp only
  generalize (s.bump Obj.heartbeatLosses).setNum Obj.heartbeatArmed 0 = u at hcount harmed hoff' ⊢
  obtain ⟨hcause, hkill, hpf, -, -, hnotice, -, hobj⟩ := beginOff_none (s := u.setMotion { u.motion with notice := none }) hoff' c
  generalize beginOff (u.setMotion { u.motion with notice := none }) c = w at hcause hkill hpf hnotice hobj ⊢
  have hheld := spinHold_parts w
  have hswitched := parkedSwitches_parts (spinHold w)
  have hpower : (parkedSwitches (spinHold w)).power = w.power :=
    (within_iff.mp hswitched .power (by decide)).trans (within_iff.mp hheld .power (by decide))
  have hmotion : (parkedSwitches (spinHold w)).motion = w.motion :=
    (within_iff.mp hswitched .motion (by decide)).trans (within_iff.mp hheld .motion (by decide))
  have hkept : ∀ k, Down k → (parkedSwitches (spinHold w)).obj k = u.obj k := fun k ⟨hshut, hstill, hswitch⟩ =>
    (parkedSwitches_obj hswitch _).trans ((spinHold_still hstill w (At.self w)).trans (hobj k hshut))
  have hdownArmed : Down Obj.heartbeatArmed := by unfold Down Shut Still Off; decide
  have hdownLosses : Down Obj.heartbeatLosses := by unfold Down Shut Still Off; decide
  exact ⟨(congrArg Val.toNum (hkept _ hdownArmed)).trans harmed, by rw [hmotion, hnotice]; rfl, by rw [hpower, hcause], by rw [hpower, hkill],
    by rw [hpower, hpf], hcount.trans_num (congrArg Val.toNum (hkept _ hdownLosses))⟩

/-! ### The messages of the link (R284–R286) -/

theorem exec_linkResend (s : State) (down : Bool) : exec (.linkResend down) s = .next (
    let n := if down then s.motion.resendsDown else s.motion.resendsUp
    let set (k : Nat) : State :=
      s.setMotion (if down then { s.motion with resendsDown := k } else { s.motion with resendsUp := k })
    if 3 ≤ n then linkFault (set 0) else ((set (n + 1)).bump Obj.linkResends).raise 3) := by
  show execLinkResend down s = _
  unfold execLinkResend
  dsimp only
  split
  · split <;> rfl
  · split <;> rfl

/-- A link fault takes the safe state, and the motion die's sequence begins where supervision was armed (R284, R287). -/
theorem linkFault_effect {s : State} (hsafe : s.num Obj.collectorState = 0) (hrun : s.start.running = false) :
    (linkFault s).num Obj.linkState = 2 ∧ (linkFault s).num Obj.collectorState = 1 ∧ (linkFault s).num Obj.safeCause = 2 ∧
    (s.num Obj.heartbeatArmed ≠ 1 → (linkFault s).power.off = s.power.off) ∧
    (s.num Obj.heartbeatArmed = 1 → s.power.off = none → s.start.mode ≠ .halted →
      (linkFault s).power.off = some .linkFault ∧ (linkFault s).power.writeKill = true) := by
  obtain ⟨hstate, hcause, hpower, -, hwithin, hcalm⟩ := safeBy_effect (s := s.setNum Obj.linkState 2) (ev := { source := 2 })
    (by rw [State.num_setNum_other _ _ (by decide), hsafe]; decide) (.inl hrun)
  have hlink : (safeBy (s.setNum Obj.linkState 2) { source := 2 }).num Obj.linkState = 2 :=
    (congrArg Val.toNum (hcalm _ (by unfold Calm Still Off OffLog; decide))).trans (State.num_setNum_self ..)
  have hstart : (safeBy (s.setNum Obj.linkState 2) { source := 2 }).start = s.start := within_iff.mp hwithin .start (by decide)
  have hoff : (safeBy (s.setNum Obj.linkState 2) { source := 2 }).power.off = s.power.off := by rw [hpower]; rfl
  unfold linkFault
  dsimp only
  generalize safeBy (s.setNum Obj.linkState 2) { source := 2 } = u at *
  by_cases harmed : s.num Obj.heartbeatArmed = 1
  · rw [if_pos (decide_eq_true harmed)]
    have hread : ∀ k, Down k → k ≠ Obj.heartbeatArmed → k ≠ Obj.heartbeatLosses → (motionTakesOver u .linkFault).num k = u.num k :=
      fun k h1 h2 h3 => congrArg Val.toNum (motionTakesOver_obj h1 h2 h3 u _)
    refine ⟨(hread _ ?_ (by decide) (by decide)).trans hlink, (hread _ ?_ (by decide) (by decide)).trans hstate,
      (hread _ ?_ (by decide) (by decide)).trans hcause, fun h => absurd harmed h, fun _ hnone hmode => ?_⟩
    · unfold Down Shut Still Off; decide
    · unfold Down Shut Still Off; decide
    · unfold Down Shut Still Off; decide
    · obtain ⟨-, -, hcause', hkill, -, -⟩ := motionTakesOver_effect (s := u) (hoff.trans hnone) (by rw [hstart]; exact hmode) .linkFault
      exact ⟨hcause', hkill⟩
  · rw [if_neg (by simpa using harmed)]
    exact ⟨hlink, hstate, hcause, fun _ => hoff, fun h => absurd h harmed⟩

/-- Settles O17: each message's own arm, the motion die's sequence (`motionTakesOver_effect`) and the safe state's entry (`safeBy_effect`). -/
theorem linkSupervisionMessages : Obligations.LinkSupervisionMessages := by
  unfold Obligations.LinkSupervisionMessages
  intro s n temp down resends armed
  refine ⟨fun hstep hunarmed => ?_, fun hno => ?_, ?_, fun hdue hoff hmode => ?_, fun hno => ?_, fun hfew => ?_, fun hmany hsafe hrun => ?_, ?_,
    fun hsafe hrun => ?_⟩
  · refine ⟨_, if_pos ⟨hstep, hunarmed⟩, rfl, ?_, ?_, rfl⟩
    · rw [State.num_setNum_other _ _ (by decide), State.num_setNum_self]
    · exact State.num_setNum_self ..
  · refine if_neg ?_
    rintro ⟨hstep, hunarmed⟩
    cases hno with
    | inl h => exact absurd (h.symm.trans hunarmed) (by decide)
    | inr h => exact h hstep
  · exact ⟨_, rfl, rfl, State.num_setNum_self ..⟩
  · have hexec : exec .heartbeatLoss s = .next (motionTakesOver s .heartbeatLoss) :=
      if_pos (hdue.imp_right Option.isSome_iff_ne_none.mpr)
    obtain ⟨harmed, hnotice, hcause, hkill, hpf, hcount⟩ := motionTakesOver_effect hoff hmode .heartbeatLoss
    exact ⟨_, hexec, harmed, hnotice, hcause, hkill, hpf, hcount⟩
  · show execHeartbeatLoss s = _
    unfold execHeartbeatLoss
    split
    · next hdue =>
      cases hno with
      | inl h => exact absurd hdue (by simp [h.2]; exact h.1)
      | inr h => exact congrArg _ (if_pos h)
    · rfl
  · refine ⟨_, (exec_linkResend s down).trans (congrArg _ (if_neg (Nat.not_le.mpr hfew))), ?_, ?_, ?_⟩
    · cases down <;> simp [resends]
    · intro hroom
      exact State.num_bump_self (s.setMotion _) Obj.linkResends hroom
    · exact congrArg (· ++ [({ source := 3 } : Event)]) (State.raised_bump (s.setMotion _) Obj.linkResends)
  · have hexec := (exec_linkResend s down).trans (congrArg _ (if_pos hmany))
    obtain ⟨hlink, hstate, hcause, hunarmed, hbegins⟩ := linkFault_effect
      (s := s.setMotion (if down then { s.motion with resendsDown := 0 } else { s.motion with resendsUp := 0 })) hsafe hrun
    exact ⟨_, hexec, hlink, hstate, hcause, hunarmed, hbegins⟩
  · refine ⟨_, rfl, ?_, State.num_setNum_self .., rfl, rfl⟩
    rw [State.num_setNum_other _ _ (by decide), State.num_setNum_self]
  · obtain ⟨hstate, hcause, -, hfetch, -, -⟩ := safeBy_effect (ev := { source := 2 }) (by rw [hsafe]; decide) (.inl hrun)
    exact ⟨_, rfl, hstate, hcause, hfetch⟩

end Sys2Proof.Machine
end

section
/-!
PROOFS. The collapse of VM in a state whose object store is not canonical (R38, R287).
-/

namespace Sys2Proof.Machine

/-- The rails are up with no feed, and FEED_STATE stands in the object store behind a key that no reset keeps: out of the keys' order, where a
read does not find it. -/
def hiddenFeedState : State :=
  { State.reset with
    objs := [(Obj.collectorState, .num 0), (Obj.feedState, .num 16)]
    power := { State.reset.power with railsOff := false } }

theorem hiddenFeedState_reads : hiddenFeedState.num Obj.feedState = 0 := by decide

/-- The reset of the main die takes the key in front away, and the read finds FEED_STATE. -/
theorem vmCollapse_hiddenFeedState :
    (match exec .vmCollapse hiddenFeedState with
      | .next t => t.num Obj.feedState
      | _ => 0) = 16 := by decide

/-- Refutes O15: nothing asks that the object store is in canonical form, so the collapse of VM can bring a FEED_STATE to light that did not read
before: `hiddenFeedState` reads 0 and then 16. -/
theorem not_feedsAndRailsSetPower : ¬ Obligations.FeedsAndRailsSetPower := by
  unfold Obligations.FeedsAndRailsSetPower
  rintro ⟨-, hrails⟩
  obtain ⟨-, -, -, hcollapse⟩ := hrails hiddenFeedState .powerFail
  have hnofeed : NoFeed hiddenFeedState := by unfold NoFeed feedStateBit; rw [hiddenFeedState_reads]; decide
  obtain ⟨t, hexec, -, -, -, hfeeds, -⟩ := hcollapse hnofeed
  have hfinds := vmCollapse_hiddenFeedState
  rw [hexec] at hfinds
  rw [hiddenFeedState_reads] at hfeeds
  exact absurd (hfinds.symm.trans hfeeds) (by decide)

end Sys2Proof.Machine
end

section
/-!
PROOFS. The modes of the spindle (R289–R297).
-/

namespace Sys2Proof.Machine

/-! ### Entering a mode -/

/-- The spindle is in mode m; outside REIN, AT_SPEED and PHASE_LOCKED read 0. -/
def Entered (m : Nat) (t : State) : Prop := t.num Obj.spinMode = m ∧ (m ≠ smRein → t.num Obj.atSpeed = 0 ∧ t.num Obj.phaseLocked = 0)

theorem spinTo_entered (s : State) (m : Nat) : Entered m (spinTo s m) := by
  unfold spinTo
  dsimp only
  split
  · next h =>
    refine ⟨?_, fun hne => absurd h hne⟩
    unfold showStatus
    dsimp only
    rw [State.num_setNum_other _ _ (by decide), State.num_setNum_other _ _ (by decide), State.num_setNum_self]
  · refine ⟨?_, fun _ => ⟨?_, State.num_setNum_self ..⟩⟩
    · rw [State.num_setNum_other _ _ (by decide), State.num_setNum_other _ _ (by decide), State.num_setNum_self]
    · rw [State.num_setNum_other _ _ (by decide), State.num_setNum_self]

theorem spinTo_obj {k : Key} (hk : k ≠ Obj.atSpeed ∧ k ≠ Obj.phaseLocked ∧ k ≠ Obj.spinMode) (s : State) (m : Nat) :
    (spinTo s m).obj k = s.obj k :=
  @spinTo_at k _ ⟨hk.1⟩ ⟨hk.2.1⟩ ⟨hk.2.2⟩ s m (At.self s)

theorem spinTo_num {k : Key} (hk : k ≠ Obj.atSpeed ∧ k ≠ Obj.phaseLocked ∧ k ≠ Obj.spinMode) (s : State) (m : Nat) :
    (spinTo s m).num k = s.num k := congrArg Val.toNum (spinTo_obj hk s m)

theorem spinTo_parts (s : State) (m : Nat) : Within [.objs] s (spinTo s m) := @spinTo_frame [.objs] s (touch_of rfl) s m (.refl _ s)

theorem spinTo_motion (s : State) (m : Nat) : (spinTo s m).motion = s.motion := within_iff.mp (spinTo_parts s m) .motion (by decide)

theorem Entered.congr {m : Nat} {t u : State} (h : Entered m t) (hobj : ∀ k, k = Obj.spinMode ∨ k = Obj.atSpeed ∨ k = Obj.phaseLocked → u.obj k = t.obj k) :
    Entered m u := by
  unfold Entered State.num at *
  rwa [hobj _ (.inl rfl), hobj _ (.inr (.inl rfl)), hobj _ (.inr (.inr rfl))]

/-! ### Zero-crosses -/

theorem countCross_parts (s : State) : Within [.objs, .motion] s (countCross s) :=
  @countCross_frame [.objs, .motion] s (touch_of rfl) (touch_of rfl) s (.refl _ s)

theorem countCross_motion (s : State) : ∃ n, (countCross s).motion = { s.motion with zcIndex := n } := by
  unfold countCross
  dsimp only
  split
  · exact ⟨_, rfl⟩
  · refine ⟨0, State.each_inv (P := fun t => t.motion = { s.motion with zcIndex := 0 }) rfl fun t a _ ht => ?_⟩
    split
    · exact ht
    · have h := within_iff.mp (@countTurn_frame [.objs] t (touch_of rfl) t a (.refl _ t)) .motion (by decide)
      exact Eq.trans h ht

/-- No object of the spindle is a player's REV_NOW. -/
theorem countCross_num {k : Key} (hk : k % 0x100 ≠ 9) (s : State) : (countCross s).num k = s.num k :=
  At.num_eq (@countCross_at k _ ⟨fun p => by unfold Obj.revNow Key at *; omega⟩ s (At.self s))

theorem commutates_iff {mode : Nat} :
    commutates mode = true ↔ mode = smRamp ∨ mode = smAccel ∨ mode = smHold ∨ mode = smRein ∨ mode = smBrake := by
  simp only [commutates, Bool.or_eq_true, decide_eq_true_eq, or_assoc]

/-- The state after a zero-cross in sequence has been taken up, before it moves the mode on. -/
def crossed (s : State) (phase interval : Nat) : State :=
  let c := countCross (fromMotion s)
  let c := c.setMotion { c.motion with
    zcValid := c.motion.zcValid + 1, zcMissing := 0, zcInterval := interval, zcCycle := (interval :: c.motion.zcCycle).take 6, zcPhase := phase % 3
    forward := if commutates (s.num Obj.spinMode) then c.motion.forward else inSequence s.motion phase }
  c.setNum Obj.speed (60 * 25000000 * 1024 / (max 1 interval * (6 * max 1 (c.num Obj.polePairs))) % 2 ^ 32)

theorem exec_zeroCross_inOrder {s : State} {phase : Nat}
    (h : (commutates (s.num Obj.spinMode) && !s.motion.spinWaitsStill && !inSequence s.motion phase) = false) (interval : Nat) :
    exec (.zeroCross phase interval) s = .next (
      let u := crossed s phase interval
      let mode := s.num Obj.spinMode
      if mode = smRamp ∧ handoverZc u ≤ u.motion.zcValid then spinTo u smAccel
      else if (mode = smAccel ∨ mode = smBrake) ∧ u.num Obj.targetRpm ≠ 0 ∧ !u.motion.spinWaitsStill ∧ speedNear u 10 then spinTo u smHold
      else u) := by
  show execZeroCross phase interval s = _
  have hwaits : (fromMotion s).motion.spinWaitsStill = s.motion.spinWaitsStill := rfl
  unfold execZeroCross
  dsimp only
  rw [hwaits, h, if_neg Bool.false_ne_true]
  unfold crossed
  dsimp only
  rw [apply_ite Host.Outcome.next, apply_ite Host.Outcome.next]

theorem crossed_motion (s : State) (phase interval : Nat) :
    (crossed s phase interval).motion.zcMissing = 0 ∧ (crossed s phase interval).motion.zcValid = s.motion.zcValid + 1 ∧
    (crossed s phase interval).motion.zcInterval = interval ∧ (crossed s phase interval).motion.zcPhase = phase % 3 ∧
    (crossed s phase interval).motion.spinWaitsStill = s.motion.spinWaitsStill ∧
    (crossed s phase interval).motion.profiles = s.motion.profiles := by
  obtain ⟨n, hmotion⟩ := countCross_motion (fromMotion s)
  refine ⟨rfl, ?_, rfl, rfl, ?_, ?_⟩
  · show (countCross (fromMotion s)).motion.zcValid + 1 = _
    rw [hmotion]
    rfl
  · show (countCross (fromMotion s)).motion.spinWaitsStill = _
    rw [hmotion]
    rfl
  · show (countCross (fromMotion s)).motion.profiles = _
    rw [hmotion]
    rfl

theorem crossed_num {k : Key} (hk : k % 0x100 ≠ 9) (hspeed : k ≠ Obj.speed) (s : State) (phase interval : Nat) :
    (crossed s phase interval).num k = s.num k :=
  (State.num_setNum_other _ _ hspeed).trans (countCross_num hk (fromMotion s))

theorem crossed_speed {s : State} {interval : Nat} (hinterval : 0 < interval) (hpairs : 0 < s.num Obj.polePairs)
    (hfits : 60 * 25000000 * 1024 / (interval * (6 * s.num Obj.polePairs)) < 2 ^ 32) (phase : Nat) :
    (crossed s phase interval).num Obj.speed = 60 * 25000000 * 1024 / (interval * (6 * s.num Obj.polePairs)) := by
  have hcount : (countCross (fromMotion s)).num Obj.polePairs = s.num Obj.polePairs := countCross_num (by decide) (fromMotion s)
  refine (State.num_setNum_self ..).trans ?_
  show 60 * 25000000 * 1024 / (max 1 interval * (6 * max 1 ((countCross (fromMotion s)).num Obj.polePairs))) % 2 ^ 32 = _
  rw [hcount, max_eq_right hinterval, max_eq_right hpairs, Nat.mod_eq_of_lt hfits]

theorem crossed_handoverZc (s : State) (phase interval : Nat) : handoverZc (crossed s phase interval) = handoverZc s := by
  obtain ⟨-, -, -, -, -, hprofiles⟩ := crossed_motion s phase interval
  have hstart : (crossed s phase interval).start = s.start := within_iff.mp (countCross_parts (fromMotion s)) .start (by decide)
  unfold handoverZc spinProfile stepAlt
  rw [hprofiles, hstart]

/-- A speed within 1 % of the target. -/
theorem speedNear_one_percent {s : State} {speed target : Nat} (hspeed : s.num Obj.speed = speed) (htarget : s.num Obj.targetRpm = target) :
    speedNear s 10 = decide (((speed : Int) - target * 1024).natAbs * 100 ≤ target * 1024) := by
  unfold speedNear
  rw [hspeed, htarget]
  dsimp only
  push_cast
  congr 1
  apply propext
  omega


/-! ### A missing zero-cross and a driver fault -/

/-- The spindle's objects are no actuator's. -/
theorem retractLoaded_spindle {k : Key} (hlow : k < 0x602005) (s : State) : (retractLoaded s).obj k = s.obj k :=
  retractLoaded_off s (At.self s) fun a _ => ofNat_ne_driveObjects hlow a

theorem retractLoaded_within (s : State) : Within [.objs, .motion, .free] s (retractLoaded s) :=
  @retractLoaded_frame [.objs, .motion, .free] s (touch_of rfl) (touch_of rfl) (touch_of rfl) s (.refl _ s)

theorem spindleFault_entered (s : State) : Entered smFault (spindleFault s) :=
  (spinTo_entered (spinCancel s) smFault).congr fun k hk => by
    unfold spindleFault
    rw [State.obj_raise]
    refine retractLoaded_spindle ?_ _
    rcases hk with rfl | rfl | rfl <;> decide

theorem spindleFault_raised (s : State) : (spindleFault s).raised = s.raised ++ [{ source := 15, unit := 0, detail := 0 }] := by
  have hloaded : (retractLoaded (spinTo (spinCancel s) smFault)).raised = (spinTo (spinCancel s) smFault).raised :=
    within_iff.mp (retractLoaded_within _) .raised (by decide)
  have hmode : (spinTo (spinCancel s) smFault).raised = (spinCancel s).raised := within_iff.mp (spinTo_parts _ _) .raised (by decide)
  unfold spindleFault
  rw [State.raise_raised, hloaded, hmode]
  rfl

/-- The state after a missing zero-cross has been taken up. -/
def missed (s : State) : State :=
  (countCross s).setMotion { (countCross s).motion with
    zcValid := 0, zcMissing := s.motion.zcMissing + 1, zcPhase := if s.motion.zcPhase < 3 then (s.motion.zcPhase + 1) % 3 else 3 }

theorem missed_num {k : Key} (hk : k % 0x100 ≠ 9) (s : State) : (missed s).num k = s.num k := countCross_num hk s

theorem missed_raised (s : State) : (missed s).raised = s.raised := within_iff.mp (countCross_parts s) .raised (by decide)

theorem zeroCrossLost_driven {s : State} (h : s.num Obj.spinMode = smAccel ∨ s.num Obj.spinMode = smHold ∨ s.num Obj.spinMode = smRein ∨ s.num Obj.spinMode = smBrake) :
    zeroCrossLost s = if 2 ≤ (missed s).motion.zcMissing ∧ 300 * 1024 < (missed s).num Obj.speed then spindleFault ((missed s).bump Obj.spinFaults)
      else ((missed s).bump Obj.spinFaults).raise 358 := by
  have hmode : ¬(s.num Obj.spinMode = smOff ∨ s.num Obj.spinMode = smFault ∨ s.num Obj.spinMode = smAlign ∨ s.num Obj.spinMode = smRamp) := by
    rcases h with h | h | h | h <;> rw [h] <;> decide
  unfold zeroCrossLost
  dsimp only
  rw [if_neg hmode]
  unfold missed
  with_reducible rfl

/-! ### The attempt of step 11 that fails -/

theorem find_filter {α : Type} {p : Nat × α → Bool} {m : SMap α} {k : Nat} {x : α} (h : SMap.find m k = some x) (hp : p (k, x) = true) :
    SMap.find (m.filter p) k = some x := by
  induction m with
  | nil => exact h
  | cons e r ih =>
    obtain ⟨j, y⟩ := e
    unfold SMap.find at h
    split at h
    · next hkj =>
      obtain rfl := hkj
      obtain rfl := Option.some.inj h
      rw [List.filter_cons_of_pos hp]
      exact if_pos rfl
    · next hkj =>
      split at h
      · exact absurd h (by simp)
      · next hlt =>
        by_cases hj : p (j, y) = true
        · rw [List.filter_cons_of_pos hj]
          unfold SMap.find
          rw [if_neg hkj, if_neg hlt]
          exact ih h
        · rw [List.filter_cons_of_neg hj]
          exact ih h

/-- The object store holds the value v under the key k: the read does not fall back on the default. -/
def Holds (s : State) (k : Key) (v : Val) : Prop := SMap.find s.objs k = some v

theorem Holds.obj {s : State} {k : Key} {v : Val} (h : Holds s k v) : s.obj k = v := by unfold State.obj; rw [h]; rfl

theorem Holds.of_obj {s : State} {k : Key} {v : Val} (h : s.obj k = v) (hv : v ≠ dfltVal k) : Holds s k v := by
  unfold Holds
  unfold State.obj at h
  cases hf : SMap.find s.objs k with
  | none => rw [hf] at h; exact absurd h.symm hv
  | some w => rw [hf] at h; exact congrArg some h

theorem Holds.put {s : State} {k j : Key} {v : Val} (hk : k ≠ j) (h : Holds s k v) (w : Val) : Holds (s.setObj j w) k v :=
  (SMap.find_put_other _ _ hk).trans h

theorem Holds.set (s : State) (k : Key) (v : Val) : Holds (s.setObj k v) k v := SMap.find_put_self ..

/-- The reset of the main die keeps what stands in the store under a key that it keeps. -/
theorem Holds.mainReset {s : State} {k : Key} {v : Val} (h : Holds s k v) (hk : keptObj k = true) : Holds (mainReset s) k v :=
  find_filter h hk

/-- The spindle stops through BRAKE, and its objects stand in the store. -/
structure Braking (s : State) : Prop where
  mode : Holds s Obj.spinMode (.num smBrake)
  target : Holds s Obj.targetRpm (.num 0)
  speed : Holds s Obj.atSpeed (.num 0)
  phase : Holds s Obj.phaseLocked (.num 0)

theorem Braking.entered {s : State} (h : Braking s) : Entered smBrake s :=
  ⟨congrArg Val.toNum h.mode.obj, fun _ => ⟨congrArg Val.toNum h.speed.obj, congrArg Val.toNum h.phase.obj⟩⟩

theorem Braking.target_zero {s : State} (h : Braking s) : s.num Obj.targetRpm = 0 := congrArg Val.toNum h.target.obj

theorem Braking.put {s : State} {j : Key} (h : Braking s) (hj : j < 0x601000) (w : Val) : Braking (s.setObj j w) where
  mode := h.mode.put (fun e => absurd (e ▸ hj) (by decide)) w
  target := h.target.put (fun e => absurd (e ▸ hj) (by decide)) w
  speed := h.speed.put (fun e => absurd (e ▸ hj) (by decide)) w
  phase := h.phase.put (fun e => absurd (e ▸ hj) (by decide)) w

theorem Braking.mainReset {s : State} (h : Braking s) : Braking (mainReset s) where
  mode := h.mode.mainReset (by decide)
  target := h.target.mainReset (by decide)
  speed := h.speed.mainReset (by decide)
  phase := h.phase.mainReset (by decide)

theorem spinStop_braking {s : State} (h : s.num Obj.spinMode ≠ smOff ∧ s.num Obj.spinMode ≠ smFault) : Braking (spinStop s) := by
  have hmode : (spinCancel (s.setNum Obj.targetRpm 0)).num Obj.spinMode = s.num Obj.spinMode := State.num_setNum_other _ _ (by decide)
  have hgo : ¬(s.num Obj.spinMode = smOff ∨ s.num Obj.spinMode = smFault) := not_or.mpr h
  unfold spinStop
  dsimp only
  rw [hmode, if_neg hgo]
  unfold spinTo
  dsimp only
  rw [if_neg (by decide)]
  exact {
    mode := .put (by decide) (.put (by decide) (.set ..) _) _
    target := .put (by decide) (.put (by decide) (.put (by decide) (.set s Obj.targetRpm (.num 0)) _) _) _
    speed := .put (by decide) (.set ..) _
    phase := .set .. }


/-- A failed start's gates, players, heads and preamps are down; the spindle turns yet. -/
def attemptCut (s : State) : State :=
  let s := gatesOff s
  let s := s.each [0, 1, 2, 3] fun s a => stopPlayers s a .aborted
  let s := retractLoaded s
  s.each [0, 1, 2, 3] fun s a => preampSwitch s a false

theorem endAttempt_stops (s : State) : endAttempt s true = mainReset (sendResetNotice (spinStop (attemptCut s))) := by
  unfold endAttempt attemptCut
  dsimp only
  rw [if_pos rfl]

theorem attemptCut_at {k : Key} {v : Val} (hoff : Off k) (hlow : k < 0x602005) (hpreamp : k ≠ Obj.v3p3Enable) {s : State} (h : At k v s) :
    At k v (attemptCut s) := by
  have hgates : At k v (gatesOff s) := gatesOff_off s h hoff.aside
  have hstopped : At k v ((gatesOff s).each [0, 1, 2, 3] fun t a => stopPlayers t a .aborted) := by
    refine State.each_inv hgates fun t a ha ht => stopPlayers_off hoff.aside ?_ t ht _
    simp only [List.mem_cons, List.not_mem_nil, or_false] at ha
    omega
  have hloaded := (retractLoaded_spindle hlow _).trans hstopped
  unfold attemptCut
  dsimp only
  exact State.each_inv (P := At k v) hloaded fun t a _ ht => @preampSwitch_at k v ⟨hpreamp⟩ t a false ht

theorem sendResetNotice_objs (s : State) : (sendResetNotice s).objs = SMap.put s.objs Obj.heartbeatArmed (.num 0) := rfl

theorem Holds.notice {s : State} {k : Key} {v : Val} (hk : k ≠ Obj.heartbeatArmed) (h : Holds s k v) : Holds (sendResetNotice s) k v := by
  unfold Holds at h ⊢
  rw [sendResetNotice_objs, SMap.find_put_other _ _ hk, h]

theorem Braking.notice {s : State} (h : Braking s) : Braking (sendResetNotice s) where
  mode := h.mode.notice (by decide)
  target := h.target.notice (by decide)
  speed := h.speed.notice (by decide)
  phase := h.phase.notice (by decide)

/-- The end of a running start's attempt at step 11 stops the spindle; the count of failures stays. -/
theorem endAttempt_braking {s : State} (h : s.num Obj.spinMode = smRamp) : Braking (endAttempt s true) := by
  have hcut : (attemptCut s).num Obj.spinMode = smRamp := (attemptCut_at (by unfold Off; decide) (by decide) (by decide) (At.self s)).num_eq.trans h
  rw [endAttempt_stops]
  exact (spinStop_braking (by rw [hcut]; decide)).notice.mainReset

theorem spinStop_low {k : Key} {v : Val} (hlow : k < 0x601000) {s : State} (h : At k v s) : At k v (spinStop s) :=
  @spinStop_at k v ⟨fun h => absurd (h ▸ hlow) (by decide)⟩ ⟨fun h => absurd (h ▸ hlow) (by decide)⟩ ⟨fun h => absurd (h ▸ hlow) (by decide)⟩
    ⟨fun h => absurd (h ▸ hlow) (by decide)⟩ s h

theorem endAttempt_failedStarts {s : State} {n : Nat} (h : s.obj Obj.failedStarts = .num n) (hn : n ≠ 0) : Holds (endAttempt s true) Obj.failedStarts (.num n) := by
  have hcut := attemptCut_at (by unfold Off; decide) (by decide) (by decide) (at_iff.mpr h)
  have hstop : At Obj.failedStarts (.num n) (spinStop (attemptCut s)) := spinStop_low (by decide) hcut
  rw [endAttempt_stops]
  exact ((Holds.of_obj hstop fun e => hn (congrArg Val.toNum e)).notice (by decide)).mainReset (by decide)


theorem Braking.congr {s t : State} (hobjs : t.objs = s.objs) (h : Braking s) : Braking t where
  mode := (congrArg (SMap.find · _) hobjs).trans h.mode
  target := (congrArg (SMap.find · _) hobjs).trans h.target
  speed := (congrArg (SMap.find · _) hobjs).trans h.speed
  phase := (congrArg (SMap.find · _) hobjs).trans h.phase

/-- What a failed attempt of a spin-up leaves: the spindle in BRAKE, no start running, and n failures counted. -/
structure SpinUpFailed (n : Nat) (t : State) : Prop where
  braking : Braking t
  stopped : t.start.running = false
  counted : t.num Obj.failedStarts = n

theorem SpinUpFailed.congr {n : Nat} {s t : State} (h : SpinUpFailed n s) (hobjs : t.objs = s.objs) (hstart : t.start.running = false) : SpinUpFailed n t where
  braking := h.braking.congr hobjs
  stopped := hstart
  counted := (congrArg (fun m => Val.toNum ((SMap.find m Obj.failedStarts).getD (dfltVal Obj.failedStarts))) hobjs).trans h.counted

/-- Braking told by the reads of the four objects. -/
theorem Braking.of_reads {s t : State} (h : Braking s) (hobj : ∀ k, k = Obj.spinMode ∨ k = Obj.targetRpm ∨ k = Obj.atSpeed ∨ k = Obj.phaseLocked → t.obj k = s.obj k) :
    Entered smBrake t ∧ t.num Obj.targetRpm = 0 := by
  refine ⟨h.entered.congr fun k hk => hobj k ?_, (congrArg Val.toNum (hobj _ (.inr (.inl rfl)))).trans h.target_zero⟩
  rcases hk with rfl | rfl | rfl
  · exact .inl rfl
  · exact .inr (.inr (.inl rfl))
  · exact .inr (.inr (.inr rfl))

theorem maintenanceEntry_obj {k : Key} (hlow : k < 0x602005) (hpreamp : k ≠ Obj.v3p3Enable) (s : State) :
    (maintenanceEntry s).obj k = (spinStop (s.setStart { s.start with maintenance := true })).obj k := by
  have hloaded := retractLoaded_spindle hlow (spinStop (s.setStart { s.start with maintenance := true }))
  unfold maintenanceEntry faultOut
  dsimp only
  rw [State.obj_raise, State.obj_setPower]
  exact State.each_inv (P := At k _) hloaded fun t a _ ht => @preampSwitch_at k _ ⟨hpreamp⟩ t a false ht

theorem maintenanceEntry_running (s : State) : (maintenanceEntry s).start.running = s.start.running := by
  let u := s.setStart { s.start with maintenance := true }
  have hstop : (spinStop u).start = u.start :=
    within_iff.mp (@spinStop_frame [.objs, .motion] u (touch_of rfl) (touch_of rfl) u (.refl _ u)) .start (by decide)
  have hloaded : (retractLoaded (spinStop u)).start = u.start := Eq.trans (within_iff.mp (retractLoaded_within (spinStop u)) .start (by decide)) hstop
  unfold maintenanceEntry faultOut
  dsimp only
  rw [State.raise_start, State.setPower_start]
  exact State.each_inv (P := fun t => t.start.running = s.start.running) (congrArg (fun x => x.running) hloaded) fun t a _ ht => ht

/-- The state of a failed attempt at step 11, counted. -/
def spinUpCounted (s : State) (code : Nat) : State :=
  let s := stepResult s 11 code
  (s.setNum Obj.failedStarts (min 3 (s.num Obj.failedStarts + 1))).raise 72 0 11

/-- The state of a failed attempt at step 11, counted and sealed, before the attempt's end. -/
def spinUpSealed (s : State) (code detail : Nat) : State :=
  sealRecord (spinUpCounted s code) (if (spinUpCounted s code).start.maintenance then 4 else 1) 11 detail

/-- The attempt of step 11 ended, with the history of its failure. -/
def spinUpEnded (s : State) (code detail : Nat) : State :=
  let t := holdRaised (endAttempt (spinUpSealed s code detail) true) (spinUpSealed s code detail).raised
  t.setStart { t.start with history := setBit t.start.history 11, running := false, step := 0 }

theorem failAttempt_step11 {s : State} (hstep : s.start.step = 11) (code detail : Nat) :
    failAttempt s code detail =
      let t := spinUpEnded s code detail
      if (spinUpCounted s code).start.maintenance then romMaintenance (t.setStart { t.start with inReset := false })
      else if 3 ≤ t.num Obj.failedStarts then maintenanceEntry t else t := by
  have hpending (t : State) : pendingFails t 11 = t := if_neg (by rintro ⟨h, -⟩; revert h; decide)
  unfold failAttempt
  dsimp only
  rw [hstep, hpending]
  unfold spinUpEnded spinUpSealed spinUpCounted
  simp only [Bool.false_or, decide_eq_true_eq, decide_true, Bool.false_eq_true, if_false]

theorem spinUpSealed_objs (s : State) (code detail : Nat) :
    (spinUpSealed s code detail).objs = SMap.put s.objs Obj.failedStarts (.num (min 3 (s.num Obj.failedStarts + 1))) := by
  have hresult : (stepResult s 11 code).objs = s.objs := within_iff.mp (@stepResult_frame [.start] s (touch_of rfl) s 11 code (.refl _ s)) .objs (by decide)
  have hnum : (stepResult s 11 code).num Obj.failedStarts = s.num Obj.failedStarts :=
    congrArg (fun m => Val.toNum ((SMap.find m Obj.failedStarts).getD (dfltVal Obj.failedStarts))) hresult
  have hsealed (u : State) (e : Nat) : (sealRecord u e 11 detail).objs = u.objs :=
    within_iff.mp (@sealRecord_frame [.start] u (touch_of rfl) u e 11 detail (.refl _ u)) .objs (by decide)
  unfold spinUpSealed
  rw [hsealed]
  unfold spinUpCounted
  dsimp only
  rw [State.raise_objs, State.setNum_objs, hresult, hnum]

theorem spinUpEnded_failed {s : State} (hmode : s.num Obj.spinMode = smRamp) (code detail : Nat) :
    SpinUpFailed (min 3 (s.num Obj.failedStarts + 1)) (spinUpEnded s code detail) := by
  have hobj (k : Key) : (spinUpSealed s code detail).obj k = (s.setNum Obj.failedStarts (min 3 (s.num Obj.failedStarts + 1))).obj k :=
    congrArg (fun m => (SMap.find m k).getD (dfltVal k)) (spinUpSealed_objs s code detail)
  have hramp : (spinUpSealed s code detail).num Obj.spinMode = smRamp :=
    (congrArg Val.toNum (hobj _)).trans ((State.num_setNum_other _ _ (by decide)).trans hmode)
  have hcount : (spinUpSealed s code detail).obj Obj.failedStarts = .num (min 3 (s.num Obj.failedStarts + 1)) :=
    (hobj _).trans (Holds.obj (.set ..))
  have hbrake := endAttempt_braking hramp
  have hcounted := endAttempt_failedStarts hcount (by omega)
  unfold spinUpEnded holdRaised
  dsimp only
  generalize endAttempt (spinUpSealed s code detail) true = e at hbrake hcounted ⊢
  exact ⟨Braking.congr (s := e) rfl hbrake, rfl, congrArg Val.toNum hcounted.obj⟩

/-- An attempt that fails at step 11 is counted, ends, and leaves the spindle in BRAKE. -/
theorem failAttempt_spinUp {s : State} (hstep : s.start.step = 11) (hmode : s.num Obj.spinMode = smRamp) (code detail : Nat) :
    (Entered smBrake (failAttempt s code detail) ∧ (failAttempt s code detail).num Obj.targetRpm = 0) ∧
    (failAttempt s code detail).start.running = false ∧
    (failAttempt s code detail).num Obj.failedStarts = min 3 (s.num Obj.failedStarts + 1) := by
  have hended := spinUpEnded_failed hmode code detail
  rw [failAttempt_step11 hstep]
  dsimp only
  generalize spinUpEnded s code detail = t at hended ⊢
  split
  · have h := hended.congr (t := romMaintenance (t.setStart { t.start with inReset := false })) rfl rfl
    exact ⟨⟨h.braking.entered, h.braking.target_zero⟩, h.stopped, h.counted⟩
  · split
    · have hbrake : Braking (spinStop (t.setStart { t.start with maintenance := true })) := by
        refine spinStop_braking ?_
        rw [State.num_setStart, hended.braking.entered.1]
        decide
      refine ⟨hbrake.of_reads fun k hk => maintenanceEntry_obj ?_ ?_ t, (maintenanceEntry_running t).trans hended.stopped, ?_⟩
      · rcases hk with rfl | rfl | rfl | rfl <;> decide
      · rcases hk with rfl | rfl | rfl | rfl <;> decide
      · have hlow := spinStop_low (k := Obj.failedStarts) (by decide) (At.self (t.setStart { t.start with maintenance := true }))
        exact (congrArg Val.toNum ((maintenanceEntry_obj (by decide) (by decide) t).trans hlow)).trans hended.counted
    · exact ⟨⟨hended.braking.entered, hended.braking.target_zero⟩, hended.stopped, hended.counted⟩


/-! ### The modes in sequence -/

theorem spinAlign_effect (s : State) : Entered smAlign (spinAlign s) ∧ (spinAlign s).motion.spinTries = s.motion.spinTries := by
  unfold spinAlign
  refine ⟨spinTo_entered _ _, ?_⟩
  rw [spinTo_motion]
  rfl

theorem spinStop_effect {s : State} (h : s.num Obj.spinMode ≠ smOff ∧ s.num Obj.spinMode ≠ smFault) :
    Entered smBrake (spinStop s) ∧ (spinStop s).num Obj.targetRpm = 0 :=
  ⟨(spinStop_braking h).entered, (spinStop_braking h).target_zero⟩

theorem spinDrive_rein {s : State} {ua : Int} {seq : Nat} (hmode : s.num Obj.spinMode = smRein) :
    spinDrive { s with motion := { s.motion with resendsDown := 0, seqDown := seq, spinCmd := ua } } =
      .current (max (-(s.motion.spinLimit * 1000 : Int)) (min (s.motion.spinLimit * 1000) ua)) := by
  have hread (m : Motion) : ({ s with motion := m } : State).num Obj.spinMode = 5 := hmode
  unfold spinDrive
  rw [hread]
  push_cast
  rfl

theorem inSequence_iff {m : Motion} {phase : Nat} : inSequence m phase = true ↔ m.zcPhase ≥ 3 ∨ phase % 3 = (m.zcPhase + 1) % 3 := by
  simp only [inSequence, Bool.or_eq_true, decide_eq_true_eq, ge_iff_le]

theorem exec_zeroCross_outOfOrder {s : State} {phase : Nat}
    (h : (commutates (s.num Obj.spinMode) && !s.motion.spinWaitsStill && !inSequence s.motion phase) = true) (interval : Nat) :
    exec (.zeroCross phase interval) s = exec .zeroCrossMissing (fromMotion s) := by
  show execZeroCross phase interval s = .next (zeroCrossLost (fromMotion s))
  have hwaits : (fromMotion s).motion.spinWaitsStill = s.motion.spinWaitsStill := rfl
  unfold execZeroCross
  dsimp only
  rw [hwaits, h, if_pos rfl]

theorem exec_zeroCrossMissing (s : State) : exec .zeroCrossMissing s = .next (zeroCrossLost s) := rfl

theorem zeroCrossLost_stall {s : State} (hmode : s.num Obj.spinMode = smAccel ∨ s.num Obj.spinMode = smHold ∨ s.num Obj.spinMode = smRein ∨ s.num Obj.spinMode = smBrake)
    (hmissing : 1 ≤ s.motion.zcMissing) (hfast : 300 * 1024 < s.num Obj.speed) :
    Entered smFault (zeroCrossLost s) ∧ (zeroCrossLost s).raised = s.raised ++ [{ source := 15, unit := 0, detail := 0 }] := by
  have hstall : 2 ≤ (missed s).motion.zcMissing ∧ 300 * 1024 < (missed s).num Obj.speed :=
    ⟨Nat.succ_le_succ hmissing, by rw [missed_num (by decide)]; exact hfast⟩
  rw [zeroCrossLost_driven hmode, if_pos hstall]
  refine ⟨spindleFault_entered _, ?_⟩
  rw [spindleFault_raised, State.raised_bump, missed_raised]

theorem zeroCrossLost_bridged {s : State} (hmode : s.num Obj.spinMode = smAccel ∨ s.num Obj.spinMode = smHold ∨ s.num Obj.spinMode = smRein ∨ s.num Obj.spinMode = smBrake)
    (hmissing : s.motion.zcMissing = 0) :
    (zeroCrossLost s).motion.zcMissing = 1 ∧ (zeroCrossLost s).num Obj.spinMode = s.num Obj.spinMode ∧ Counted Obj.spinFaults s (zeroCrossLost s) ∧
    (zeroCrossLost s).raised = s.raised ++ [{ source := 358, unit := 0, detail := 0 }] := by
  have hone : (missed s).motion.zcMissing = 1 := congrArg (· + 1) hmissing
  rw [zeroCrossLost_driven hmode, if_neg fun h => absurd (h.1.trans_eq hone) (by decide)]
  refine ⟨?_, ?_, ?_, ?_⟩
  · rw [State.raise_motion, State.motion_bump, hone]
  · rw [State.num_raise, State.num_bump_other _ (by decide), missed_num (by decide)]
  · intro hroom
    have hcount := counted_bump Obj.spinFaults (missed s)
    unfold Counted at hcount
    rw [missed_num (by decide)] at hcount
    exact hcount hroom
  · rw [State.raise_raised, State.raised_bump, missed_raised]

theorem zeroCross_inOrder {s : State} {phase interval : Nat}
    (hgo : (commutates (s.num Obj.spinMode) && !s.motion.spinWaitsStill && !inSequence s.motion phase) = false)
    (hinterval : 0 < interval) (hpairs : 0 < s.num Obj.polePairs) (hfits : 60 * 25000000 * 1024 / (interval * (6 * s.num Obj.polePairs)) < 2 ^ 32) :
    let speed := 60 * 25000000 * 1024 / (interval * (6 * s.num Obj.polePairs))
    let mode := s.num Obj.spinMode
    let target := s.num Obj.targetRpm
    Completes (.zeroCross phase interval) s fun t =>
      t.num Obj.speed = speed ∧ t.motion.zcMissing = 0 ∧ t.motion.zcValid = s.motion.zcValid + 1 ∧ t.motion.zcInterval = interval ∧
      t.motion.zcPhase = phase % 3 ∧
      (mode = smRamp → handoverZc s ≤ s.motion.zcValid + 1 → Entered smAccel t) ∧
      (mode = smAccel ∨ mode = smBrake → s.motion.spinWaitsStill = false → target ≠ 0 → ((speed : Int) - target * 1024).natAbs * 100 ≤ target * 1024 →
        Entered smHold t) ∧
      (mode = smRein → t.num Obj.spinMode = smRein) := by
  dsimp only
  obtain ⟨hmissing, hvalid, htime, hphase, hstill, -⟩ := crossed_motion s phase interval
  have hspeed := crossed_speed hinterval hpairs hfits phase
  have hmode : (crossed s phase interval).num Obj.spinMode = s.num Obj.spinMode := crossed_num (by decide) (by decide) s phase interval
  have htarget : (crossed s phase interval).num Obj.targetRpm = s.num Obj.targetRpm := crossed_num (by decide) (by decide) s phase interval
  have hzc := crossed_handoverZc s phase interval
  have hnear := speedNear_one_percent hspeed htarget
  refine ⟨_, exec_zeroCross_inOrder hgo interval, ?_⟩
  dsimp only
  rw [hzc, hvalid, htarget, hstill, hnear]
  generalize crossed s phase interval = u at hmissing hvalid htime hphase hspeed hmode ⊢
  have hmoved (m : Nat) : (spinTo u m).num Obj.speed = _ ∧ (spinTo u m).motion = u.motion := ⟨(spinTo_num (by decide) u m).trans hspeed, spinTo_motion u m⟩
  split
  · next hramp =>
    obtain ⟨hspeed', hmotion⟩ := hmoved smAccel
    rw [hmotion]
    refine ⟨hspeed', hmissing, hvalid, htime, hphase, fun _ _ => spinTo_entered _ _, fun hother => ?_, fun hrein => ?_⟩
    · rw [hramp.1] at hother
      exact absurd hother (by decide)
    · exact absurd (hramp.1.symm.trans hrein) (by decide)
  · next hramp =>
    split
    · next hhold =>
      obtain ⟨hspeed', hmotion⟩ := hmoved smHold
      rw [hmotion]
      refine ⟨hspeed', hmissing, hvalid, htime, hphase, fun hmode hzc => absurd ⟨hmode, hzc⟩ hramp, fun _ _ _ _ => spinTo_entered _ _, fun hrein => ?_⟩
      obtain ⟨hmode, -⟩ := hhold
      rw [hrein] at hmode
      exact absurd hmode (by decide)
    · next hhold =>
      refine ⟨hspeed, hmissing, hvalid, htime, hphase, fun hmode hzc => absurd ⟨hmode, hzc⟩ hramp, fun hmode hstill htarget hnear => ?_, fun hrein => hmode.trans hrein⟩
      exact absurd ⟨hmode, htarget, by rw [hstill]; rfl, decide_eq_true hnear⟩ hhold

theorem spinRampEnd_effect {s : State} (hmode : s.num Obj.spinMode = smRamp) (handover : Bool) :
    let handsOver := handover = true ∧ handoverZc s ≤ s.motion.zcValid
    Completes (.spinRampEnd handover) s fun t =>
      (handsOver → Entered smAccel t) ∧
      (¬handsOver → 0 < s.motion.spinTries → Entered smAlign t ∧ t.motion.spinTries = s.motion.spinTries - 1) ∧
      (¬handsOver → s.motion.spinTries = 0 → Entered smBrake t ∧ t.num Obj.targetRpm = 0 ∧
        (s.start.running = true → s.start.step = 11 → s.power.off = none →
          t.start.running = false ∧ t.num Obj.failedStarts = min 3 (s.num Obj.failedStarts + 1))) := by
  dsimp only
  have hexec : exec (.spinRampEnd handover) s = execSpinRampEnd handover s := rfl
  unfold execSpinRampEnd at hexec
  rw [if_neg (not_not.mpr hmode)] at hexec
  by_cases hover : handover = true ∧ handoverZc s ≤ s.motion.zcValid
  · rw [if_pos hover] at hexec
    exact ⟨_, hexec, fun _ => spinTo_entered _ _, fun hno => absurd hover hno, fun hno => absurd hover hno⟩
  · rw [if_neg hover] at hexec
    by_cases htries : 0 < s.motion.spinTries
    · rw [if_pos htries] at hexec
      obtain ⟨hentered, hleft⟩ := spinAlign_effect (s.setMotion { s.motion with spinTries := s.motion.spinTries - 1 })
      exact ⟨_, hexec, fun hyes => absurd hyes hover, fun _ _ => ⟨hentered, hleft⟩, fun _ hnone => absurd hnone (by omega)⟩
    · rw [if_neg htries] at hexec
      by_cases hfails : s.start.running ∧ s.start.step = 11 ∧ s.power.off.isNone
      · rw [if_pos hfails] at hexec
        obtain ⟨⟨hentered, htarget⟩, hstopped, hcounted⟩ := failAttempt_spinUp hfails.2.1 hmode srFailed 0
        exact ⟨_, hexec, fun hyes => absurd hyes hover, fun _ htry => absurd htry htries,
          fun _ _ => ⟨hentered, htarget, fun _ _ _ => ⟨hstopped, hcounted⟩⟩⟩
      · rw [if_neg hfails] at hexec
        obtain ⟨hentered, htarget⟩ := spinStop_effect (s := s) (by rw [hmode]; decide)
        refine ⟨_, hexec, fun hyes => absurd hyes hover, fun _ htry => absurd htry htries, fun _ _ => ⟨hentered, htarget, fun hrun hstep hoff => ?_⟩⟩
        exact absurd ⟨hrun, hstep, Option.isNone_iff_eq_none.mpr hoff⟩ hfails

/-- Settles O18: each move of the spindle is `spinTo`, and the failed attempt of step 11 keeps the spindle's objects across the main die's reset. -/
theorem spindleModesFollowTheSequence : Obligations.SpindleModesFollowTheSequence := by
  unfold Obligations.SpindleModesFollowTheSequence
  intro s phase interval ua handover
  dsimp only
  refine ⟨⟨_, rfl, rfl, fun hmode => ?_⟩, fun hinterval hpairs hfits horder => ?_, fun hdriven hstill hout => ?_,
    fun hmode => ⟨fun hmissing hfast => ?_, fun hmissing => ?_⟩, fun hmode => ?_, fun hmode => ?_, fun hmode => ?_, fun hmode => ?_⟩
  · exact spinDrive_rein hmode
  · have hgo : (commutates (s.num Obj.spinMode) && !s.motion.spinWaitsStill && !inSequence s.motion phase) = false := by
      rw [← Bool.not_eq_true]
      intro h
      simp only [Bool.and_eq_true, Bool.not_eq_true', commutates_iff] at h
      obtain ⟨⟨hdriven, hstill⟩, hout⟩ := h
      rw [inSequence_iff.mpr (horder hdriven hstill)] at hout
      exact absurd hout (by decide)
    exact zeroCross_inOrder hgo hinterval hpairs hfits
  · have hlost : (commutates (s.num Obj.spinMode) && !s.motion.spinWaitsStill && !inSequence s.motion phase) = true := by
      have hseq : inSequence s.motion phase = false := by rw [← Bool.not_eq_true, inSequence_iff]; exact hout
      rw [commutates_iff.mpr hdriven, hstill, hseq]
      rfl
    exact exec_zeroCross_outOfOrder hlost interval
  · exact ⟨_, exec_zeroCrossMissing s, zeroCrossLost_stall hmode hmissing hfast⟩
  · exact ⟨_, exec_zeroCrossMissing s, zeroCrossLost_bridged hmode hmissing⟩
  · refine ⟨spindleFault s, if_neg hmode, spindleFault_entered s, spindleFault_raised s⟩
  · refine ⟨_, if_pos hmode, spinTo_entered _ _, ?_⟩
    rw [spinTo_motion]
    rfl
  · exact spinRampEnd_effect hmode handover
  · have hexec : exec .spindleStandstill s =
        .next (if s.motion.spinWaitsStill then spinAlign (s.setNum Obj.speed 0) else spinTo (s.setNum Obj.speed 0) smOff) :=
      if_neg (not_not.mpr hmode)
    have hzero : (s.setNum Obj.speed 0).num Obj.speed = 0 := State.num_setNum_self ..
    refine ⟨_, hexec, ?_⟩
    split
    · next hwaits =>
      refine ⟨?_, fun _ => (spinAlign_effect _).1, fun hno => absurd (hwaits.symm.trans hno) (by decide)⟩
      unfold spinAlign
      rw [spinTo_num (by decide)]
      exact hzero
    · next hwaits =>
      refine ⟨?_, fun hyes => absurd hyes hwaits, fun _ => spinTo_entered _ _⟩
      rw [spinTo_num (by decide)]
      exact hzero

end Sys2Proof.Machine
end

section
/-!
PROOFS. The drive's commands, limits and faults (R284, R293–R303).
-/

namespace Sys2Proof.Machine

/-! ### The DRIVE message -/

theorem exec_retract (s : State) (a : Fin 4) : exec (.driveMsg (.retract a)) s = .next (retract (fromMain s) a) := rfl
theorem exec_load (s : State) (a : Fin 4) : exec (.driveMsg (.load a)) s = .next (loadHeads (fromMain s) a) := rfl
theorem exec_brake (s : State) : exec (.driveMsg .brake) s = .next (spinStop (fromMain s)) := rfl
theorem exec_target (s : State) (rpm : Nat) : exec (.driveMsg (.target rpm)) s = .next (spinTarget (fromMain s) rpm) := rfl
theorem exec_modeHold (s : State) : exec (.driveMsg (.mode true)) s = .next (spinHold (fromMain s)) := rfl
theorem exec_modeRein (s : State) : exec (.driveMsg (.mode false)) s = .next (spinRein (fromMain s)) := rfl

theorem showStatus_num {k : Key} (hk : k ≠ Obj.atSpeed ∧ k ≠ Obj.phaseLocked) (s : State) : (showStatus s).num k = s.num k :=
  (State.num_setNum_other _ _ hk.2).trans (State.num_setNum_other _ _ hk.1)

/-! ### Retract and load -/

/-- The motion die's state of actuator a as its retract begins. -/
def retracting (s : State) (a : Nat) : Motion :=
  { s.motion with
    retract := vmod s.motion.retract a fun _ => .slowing, retractMs := vmod s.motion.retractMs a fun _ => 0
    vcm := vmod s.motion.vcm a fun _ => 0, ma := vmod s.motion.ma a fun _ => 0
    drives := vmod s.motion.drives a fun _ => (s.num Obj.retractBemfMv, s.num Obj.retractMa, s.num Obj.parkHoldMa) }

theorem retract_begins {s : State} {a : Nat} (hd : s.num (Obj.driveState a) ≠ 3 ∧ s.num (Obj.driveState a) ≠ 4) (hclosed : vget s.motion.vcmOpen a false = false) :
    retract s a = ((s.setMotion (retracting s a)).setNum (Obj.driveState a) 3).bump (Obj.retracts a) := by
  unfold retract
  dsimp only
  rw [if_neg]
  · rfl
  · rintro (h | h | h)
    · exact hd.1 h
    · exact hd.2 h
    · exact absurd (hclosed.symm.trans h) (by decide)

theorem retract_idle {s : State} {a : Nat} (h : s.num (Obj.driveState a) = 3 ∨ s.num (Obj.driveState a) = 4 ∨ ¬vget s.motion.vcmOpen a false = false) :
    retract s a = s := by
  unfold retract
  dsimp only
  rw [if_pos]
  rwa [Bool.not_eq_false] at h

theorem retract_driveState {s : State} {a : Nat} (hd : s.num (Obj.driveState a) ≠ 4) (hclosed : vget s.motion.vcmOpen a false = false) :
    (retract s a).num (Obj.driveState a) = 3 := by
  by_cases h3 : s.num (Obj.driveState a) = 3
  · rw [retract_idle (.inl h3), h3]
  · rw [retract_begins ⟨h3, hd⟩ hclosed, State.num_bump_other _ (by unfold Obj.driveState Obj.retracts Key; omega), State.num_setNum_self]

theorem retractMsg_effect {s : State} {a : Fin 4} (hd : s.num (Obj.driveState a) ≠ 3 ∧ s.num (Obj.driveState a) ≠ 4)
    (hclosed : vget s.motion.vcmOpen a false = false) :
    Completes (.driveMsg (.retract a)) s fun t =>
      t.num (Obj.driveState a) = 3 ∧ vget t.motion.retract a .none = .slowing ∧ vget t.motion.vcm a 1 = 0 ∧ vget t.motion.ma a 1 = 0 ∧
      vget t.motion.drives a (0, 0, 0) = (s.num Obj.retractBemfMv, s.num Obj.retractMa, s.num Obj.parkHoldMa) ∧ Counted (Obj.retracts a) s t := by
  have hne : Obj.driveState a ≠ Obj.retracts a := by unfold Obj.driveState Obj.retracts Key; omega
  refine ⟨_, exec_retract s a, retract_driveState (s := fromMain s) hd.2 hclosed, ?_⟩
  rw [retract_begins (s := fromMain s) hd hclosed, State.motion_bump]
  refine ⟨vget_vmod_self _ _ _ _ a.isLt, vget_vmod_self _ _ _ _ a.isLt, vget_vmod_self _ _ _ _ a.isLt, vget_vmod_self _ _ _ _ a.isLt, ?_⟩
  intro hroom
  have hcount := counted_bump (Obj.retracts a) (((fromMain s).setMotion (retracting (fromMain s) a)).setNum (Obj.driveState a) 3)
  unfold Counted at hcount
  rw [State.num_setNum_other _ _ hne.symm] at hcount
  exact hcount hroom

theorem loadMsg_effect {s : State} {a : Fin 4} (hd : s.num (Obj.driveState a) = 0 ∨ s.num (Obj.driveState a) = 4)
    (hclosed : vget s.motion.vcmOpen a false = false) :
    Completes (.driveMsg (.load a)) s fun t =>
      t.num (Obj.driveState a) = 1 ∧ vget t.motion.retract a .slowing = .none ∧ vget t.motion.drives a (0, 0, 0) = (s.num Obj.loadBemfMv, 0, 0) := by
  have hgo : (s.num (Obj.driveState a) = dvParked ∨ s.num (Obj.driveState a) = dvOff) ∧ !(vget s.motion.vcmOpen a false) :=
    ⟨hd.symm, by rw [hclosed]; rfl⟩
  refine ⟨_, (exec_load s a).trans (congrArg _ (if_pos hgo)), State.num_setNum_self .., ?_⟩
  exact ⟨vget_vmod_self _ _ _ _ a.isLt, vget_vmod_self _ _ _ _ a.isLt⟩

theorem loadMsg_idle {s : State} {a : Fin 4} (h : (s.num (Obj.driveState a) ≠ 0 ∧ s.num (Obj.driveState a) ≠ 4) ∨ ¬vget s.motion.vcmOpen a false = false) :
    exec (.driveMsg (.load a)) s = .next (fromMain s) := by
  refine (exec_load s a).trans (congrArg _ (if_neg ?_))
  rintro ⟨hd, hclosed⟩
  rcases h with ⟨h0, h4⟩ | h
  · exact hd.elim h4 h0
  · exact h ((Bool.not_eq_true' _).mp hclosed)

/-! ### The spindle's commands -/

theorem spinStop_waits (s : State) : (spinStop s).motion.spinWaitsPark = false ∧ (spinStop s).motion.spinWaitsStill = false := by
  unfold spinStop
  dsimp only
  split
  · exact ⟨rfl, rfl⟩
  · rw [spinTo_motion]
    exact ⟨rfl, rfl⟩

theorem spinStop_targetRpm (s : State) : (spinStop s).num Obj.targetRpm = 0 := by
  have hzero : (spinCancel (s.setNum Obj.targetRpm 0)).num Obj.targetRpm = 0 := State.num_setNum_self ..
  unfold spinStop
  dsimp only
  split
  · exact hzero
  · rw [spinTo_num (by decide), hzero]

theorem spinStop_still_off {s : State} (h : s.num Obj.spinMode = smOff ∨ s.num Obj.spinMode = smFault) :
    (spinStop s).num Obj.spinMode = s.num Obj.spinMode := by
  have hmode : (spinCancel (s.setNum Obj.targetRpm 0)).num Obj.spinMode = s.num Obj.spinMode := State.num_setNum_other _ _ (by decide)
  unfold spinStop
  dsimp only
  rw [hmode, if_pos h, hmode]

theorem brakeMsg_effect (s : State) :
    Completes (.driveMsg .brake) s fun t =>
      t.num Obj.targetRpm = 0 ∧ t.motion.spinWaitsPark = false ∧ t.motion.spinWaitsStill = false ∧
      (s.num Obj.spinMode ≠ smOff → s.num Obj.spinMode ≠ smFault → t.num Obj.spinMode = smBrake ∧ t.num Obj.atSpeed = 0 ∧ t.num Obj.phaseLocked = 0) ∧
      (s.num Obj.spinMode = smOff ∨ s.num Obj.spinMode = smFault → t.num Obj.spinMode = s.num Obj.spinMode) := by
  obtain ⟨hpark, hstill⟩ := spinStop_waits (fromMain s)
  refine ⟨_, exec_brake s, spinStop_targetRpm _, hpark, hstill, fun hoff hfault => ?_, fun h => spinStop_still_off (s := fromMain s) h⟩
  obtain ⟨⟨hmode, hreads⟩, -⟩ := spinStop_effect (s := fromMain s) ⟨hoff, hfault⟩
  exact ⟨hmode, hreads (by decide)⟩

/-- The target and the limit of a speed change, taken up. -/
def targeted (s : State) (rpm : Nat) : State := takeSpinLimit (s.setNum Obj.targetRpm (rpm % 65536))

theorem targeted_num {k : Key} (hk : k ≠ Obj.targetRpm) (s : State) (rpm : Nat) : (targeted s rpm).num k = s.num k := State.num_setNum_other _ _ hk

theorem spinTarget_eq {s : State} {rpm : Nat} (hrpm : 0 < rpm) :
    spinTarget s rpm =
      let u := targeted s rpm
      if u.num Obj.spinMode = smRein then showStatus u
      else if changesSpeed u then spinTo u (if speedNear u 10 then smHold else if u.num Obj.speed < rpm % 65536 * 1024 then smAccel else smBrake)
      else u := if_neg hrpm.ne'

theorem changesSpeed_iff {s : State} : changesSpeed s = true ↔
    (s.num Obj.spinMode = smHold ∨ s.num Obj.spinMode = smAccel ∨ s.num Obj.spinMode = smBrake) ∧ s.motion.spinWaitsStill = false ∧
      300 * 1024 ≤ s.num Obj.speed := by
  simp only [changesSpeed, Bool.and_eq_true, Bool.or_eq_true, decide_eq_true_eq, Bool.not_eq_true', or_assoc, and_assoc]

theorem targetMsg_effect {s : State} {rpm : Nat} (hrpm : 0 < rpm) (hfits : rpm < 65536) :
    let mode := s.num Obj.spinMode
    let latched : Nat := (SMap.findD (s.groupOf 4).latched 0x24 0).toNat
    let off := ((s.num Obj.speed : Int) - rpm * 1024).natAbs * 100
    let changes := (mode = smHold ∨ mode = smAccel ∨ mode = smBrake) ∧ s.motion.spinWaitsStill = false ∧ 300 * 1024 ≤ s.num Obj.speed
    Completes (.driveMsg (.target rpm)) s fun t =>
      t.num Obj.targetRpm = rpm ∧ t.motion.spinLimit = s.num Obj.spinLimitMa ∧
      (mode = smRein → t.num Obj.spinMode = smRein ∧ t.num Obj.phaseLocked = if off ≤ rpm * 1024 then latched / 2 % 2 else 0) ∧
      (changes → t.num Obj.spinMode = if off ≤ rpm * 1024 then smHold else if s.num Obj.speed < rpm * 1024 then smAccel else smBrake) ∧
      (mode ≠ smRein → ¬changes → t.num Obj.spinMode = mode) := by
  dsimp only
  have htarget : (targeted (fromMain s) rpm).num Obj.targetRpm = rpm := (State.num_setNum_self ..).trans (Nat.mod_eq_of_lt hfits)
  have hspeed : (targeted (fromMain s) rpm).num Obj.speed = s.num Obj.speed := targeted_num (by decide) _ _
  have hmode : (targeted (fromMain s) rpm).num Obj.spinMode = s.num Obj.spinMode := targeted_num (by decide) _ _
  have hlimit : (targeted (fromMain s) rpm).motion.spinLimit = s.num Obj.spinLimitMa := State.num_setNum_other _ _ (by decide)
  have hstill : (targeted (fromMain s) rpm).motion.spinWaitsStill = s.motion.spinWaitsStill := rfl
  have hlatched : (targeted (fromMain s) rpm).groupOf 4 = s.groupOf 4 := rfl
  have hnear := speedNear_one_percent hspeed htarget
  have hchanges := changesSpeed_iff (s := targeted (fromMain s) rpm)
  rw [hmode, hstill, hspeed] at hchanges
  refine ⟨_, (exec_target s rpm).trans (congrArg _ (spinTarget_eq hrpm)), ?_⟩
  dsimp only
  rw [hmode, hspeed, hnear, Nat.mod_eq_of_lt hfits]
  generalize targeted (fromMain s) rpm = u at htarget hspeed hmode hlimit hstill hlatched hnear hchanges ⊢
  split
  · next hrein =>
    have hstatus := showStatus_shows u
    refine ⟨?_, hlimit, fun _ => ?_, fun hother => ?_, fun hother => absurd hrein hother⟩
    · exact (showStatus_num ⟨by decide, by decide⟩ u).trans htarget
    · obtain ⟨-, hphase⟩ := hstatus
      refine ⟨(showStatus_num ⟨by decide, by decide⟩ u).trans (hmode.trans hrein), ?_⟩
      rw [hphase, hnear]
      unfold latchedOf
      rw [hlatched]
      simp only [decide_eq_true_eq]
    · rw [hrein] at hother
      exact absurd hother.1 (by decide)
  · next hrein =>
    split
    · next hch =>
      refine ⟨(spinTo_num (by decide) _ _).trans htarget, ?_, fun h => absurd h hrein, fun _ => ?_, fun _ hno => absurd (hchanges.mp hch) hno⟩
      · rw [spinTo_motion]
        exact hlimit
      · rw [(spinTo_entered _ _).1]
        simp only [decide_eq_true_eq]
    · next hch => exact ⟨htarget, hlimit, fun h => absurd h hrein, fun h => absurd (hchanges.mpr h) hch, fun _ _ => hmode⟩

theorem modeHold_effect {s : State} (hmode : s.num Obj.spinMode = smRein) :
    Completes (.driveMsg (.mode true)) s fun t => t.num Obj.spinMode = smHold ∧ t.num Obj.atSpeed = 0 ∧ t.num Obj.phaseLocked = 0 := by
  obtain ⟨hhold, hreads⟩ := spinTo_entered (fromMain s) smHold
  exact ⟨_, (exec_modeHold s).trans (congrArg _ (if_pos hmode)), hhold, hreads (by decide)⟩

theorem spinTo_rein_atSpeed (s : State) : (spinTo s smRein).num Obj.atSpeed = (latchedOf s 4 0x24).toNat % 2 := by
  unfold spinTo
  dsimp only
  rw [if_pos rfl, (showStatus_shows _).1]
  rfl

theorem modeRein_effect {s : State} (hmode : s.num Obj.spinMode = smHold) (hruns : groupRuns s 4 = true) (hpassed : s.start.passedSteps.testBit 15 = true) :
    Completes (.driveMsg (.mode false)) s fun t =>
      t.num Obj.spinMode = smRein ∧ t.num Obj.atSpeed = (SMap.findD (s.groupOf 4).latched 0x24 0).toNat % 2 := by
  have hexec : exec (.driveMsg (.mode false)) s = .next (spinTo (fromMain s) smRein) := (exec_modeRein s).trans (congrArg _ (if_pos ⟨hmode, hruns, hpassed⟩))
  exact ⟨_, hexec, (spinTo_entered _ _).1, spinTo_rein_atSpeed (fromMain s)⟩

theorem modeRein_idle {s : State} (h : s.num Obj.spinMode ≠ smHold ∨ groupRuns s 4 = false ∨ s.start.passedSteps.testBit 15 = false) :
    exec (.driveMsg (.mode false)) s = .next (fromMain s) := by
  refine (exec_modeRein s).trans (congrArg _ (if_neg ?_))
  rintro ⟨hmode, hruns, hpassed⟩
  rcases h with h | h | h
  · exact h hmode
  · exact absurd (h.symm.trans hruns) (by decide)
  · exact absurd (h.symm.trans hpassed) (by decide)

/-! ### The voice coil and the milli-actuator -/

theorem takesCommands_iff {s : State} {a : Nat} :
    takesCommands s a = true ↔ s.num (Obj.driveState a) = 2 ∧ vget s.motion.vcmOpen a false = false ∧ groupRuns s a = true := by
  simp only [takesCommands, Bool.and_eq_true, decide_eq_true_eq, Bool.not_eq_true']
  exact ⟨fun ⟨⟨h, hg⟩, hc⟩ => ⟨h, hc, hg⟩, fun ⟨h, hc, hg⟩ => ⟨⟨h, hg⟩, hc⟩⟩

theorem exec_vcmCmd_idle {s : State} {a : Fin 4} (h : takesCommands s a = false) (ua mv : Int) : exec (.vcmCmd a ua mv) s = .next (fromMain s) := by
  have hidle : takesCommands (fromMain s) a = false := h
  show execVcmCmd a ua mv s = _
  unfold execVcmCmd
  dsimp only
  rw [hidle]
  rfl

/-- The commands that the drive of actuator a applies. -/
def driven (s : State) (a : Nat) (v m : Int) : State :=
  s.setMotion { s.motion with vcm := vmod s.motion.vcm a fun _ => v, ma := vmod s.motion.ma a fun _ => m }

theorem exec_vcmCmd_takes {s : State} {a : Fin 4} (h : takesCommands s a = true) (ua mv : Int) :
    exec (.vcmCmd a ua mv) s =
      let lim : Int := s.num (Obj.vcmLimitMa a) * 1000
      let v := max (-lim) (min lim ua)
      let ml : Int := min 32000 (s.num (Obj.maLimitMv a))
      let m := if vget s.motion.maHeld a false = false ∧ 452 + 64 * a.val ∉ s.coll.fenced then max (-ml) (min ml mv) else 0
      .next (if v = ua then driven (fromMain s) a v m else (driven (fromMain s) a v m).bump (Obj.vcmClamps a)) := by
  have htakes : takesCommands (fromMain s) a = true := h
  have hread (k : Key) : (fromMain s).num k = s.num k := rfl
  have hheld : (fromMain s).motion.maHeld = s.motion.maHeld := rfl
  have hfenced : (fromMain s).coll.fenced = s.coll.fenced := rfl
  show execVcmCmd a ua mv s = _
  unfold execVcmCmd driven
  dsimp only
  rw [htakes, hread, hread, hheld, hfenced]
  simp only [Bool.not_true, Bool.false_eq_true, if_false, Bool.not_eq_true', List.contains_eq_mem, decide_eq_false_iff_not]
  push_cast
  with_reducible rfl

theorem vcmCmd_effect {s : State} {a : Fin 4} (h : takesCommands s a = true) (ua mv : Int) :
    let lim : Int := s.num (Obj.vcmLimitMa a) * 1000
    let ml : Int := min 32000 (s.num (Obj.maLimitMv a))
    Completes (.vcmCmd a ua mv) s fun t =>
      vget t.motion.vcm a 0 = max (-lim) (min lim ua) ∧
      vget t.motion.ma a 0 = (if vget s.motion.maHeld a false = false ∧ 452 + 64 * a.val ∉ s.coll.fenced then max (-ml) (min ml mv) else 0) ∧
      (max (-lim) (min lim ua) ≠ ua → Counted (Obj.vcmClamps a) s t) ∧ (max (-lim) (min lim ua) = ua → t.objs = s.objs) := by
  dsimp only
  refine ⟨_, exec_vcmCmd_takes h ua mv, ?_⟩
  dsimp only
  split
  · next hwithin => exact ⟨vget_vmod_self _ _ _ _ a.isLt, vget_vmod_self _ _ _ _ a.isLt, fun hno => absurd hwithin hno, fun _ => rfl⟩
  · next hclamped =>
    rw [State.motion_bump]
    refine ⟨vget_vmod_self _ _ _ _ a.isLt, vget_vmod_self _ _ _ _ a.isLt, fun _ => ?_, fun hyes => absurd hyes hclamped⟩
    exact counted_bump (Obj.vcmClamps a) (driven (fromMain s) a _ _)

/-! ### Fences -/

theorem aside_actuatorState {a : Nat} (ha : a < 4) : Aside (Obj.actuatorState a) := by unfold Aside Obj.actuatorState Key; omega

theorem markFenced_actuatorState (s : State) (a : Nat) : (markFenced s a).num (Obj.actuatorState a) = max 3 (s.num (Obj.actuatorState a)) := by
  unfold markFenced
  have hfenced : stFenced = 3 := rfl
  split
  · next h => rw [State.num_setNum_self]; omega
  · next h => omega

/-- A fence leaves its actuator FENCED or worse. -/
theorem fenceActuator_actuatorState (s : State) {a : Nat} (ha : a < 4) (o : Outcome) :
    (fenceActuator s a o).num (Obj.actuatorState a) = max 3 (s.num (Obj.actuatorState a)) := by
  have hk := aside_actuatorState ha
  have hfence : At (Obj.actuatorState a) ((markFenced s a).obj (Obj.actuatorState a)) (fenceActuator s a o) :=
    surfacesFail_off hk ha _ (followPlayers_off hk ha _ (stopPlayers_off hk ha _ (At.self _) o))
  exact hfence.num_eq.trans (markFenced_actuatorState s a)

/-! ### Faults of the drive -/

theorem testBit_setBit (n i : Nat) : (setBit n i).testBit i = true := by
  unfold setBit
  rw [Nat.testBit_or, Nat.one_shiftLeft, Nat.testBit_two_pow_self, Bool.or_true]

theorem driveFault_bit (s : State) (a i : Nat) : ((driveFault s a i).num (Obj.driveFault a)).testBit i = true := by
  unfold driveFault
  rw [State.num_setNum_self]
  exact testBit_setBit ..

theorem off_driveObjects (a : Nat) (ha : a < 4) : Off (Obj.driveState a) ∧ Off (Obj.driveFault a) := by
  unfold Off Obj.driveState Obj.driveFault Key
  omega

theorem fenceActuator_motion (s : State) (a : Nat) (o : Outcome) : (fenceActuator s a o).motion = s.motion :=
  within_iff.mp (@fenceActuator_frame [.objs, .chan, .dec, .players, .acts, .traces, .layout, .mem, .raised, .outs, .free] s (touch_of rfl) (touch_of rfl)
    (touch_of rfl) (touch_of rfl) (touch_of rfl) (touch_of rfl) (touch_of rfl) (touch_of rfl) (touch_of rfl) (touch_of rfl) (touch_of rfl) s a o (.refl _ s))
    .motion (by decide)

/-- The state of a voice coil's overcurrent: its bridge latched open, the bit set, the drive OFF, the actuator not fenced yet. -/
def coilOpened (s : State) (a : Nat) : State :=
  let s := s.setMotion { s.motion with
    vcmOpen := vmod s.motion.vcmOpen a fun _ => true, vcm := vmod s.motion.vcm a fun _ => 0, ma := vmod s.motion.ma a fun _ => 0
    retract := vmod s.motion.retract a fun _ => .none }
  (driveFault s a 0).setNum (Obj.driveState a) dvOff

theorem exec_vcmOvercurrent {s : State} {a : Fin 4} (h : vget s.motion.vcmOpen a false = false) :
    exec (.vcmOvercurrent a) s = .next ((fenceActuator (coilOpened s a) a .fault).raiseAct a 3 a) :=
  if_neg (by rw [h]; decide)

theorem coilOpened_num {s : State} {a : Nat} {k : Key} (hk : k ≠ Obj.driveFault a ∧ k ≠ Obj.driveState a) : (coilOpened s a).num k = s.num k :=
  (State.num_setNum_other _ _ hk.2).trans (State.num_setNum_other _ _ hk.1)

theorem vcmOvercurrent_effect {s : State} {a : Fin 4} (hclosed : vget s.motion.vcmOpen a false = false) :
    Completes (.vcmOvercurrent a) s fun t =>
      vget t.motion.vcmOpen a false = true ∧ vget t.motion.vcm a 1 = 0 ∧ vget t.motion.ma a 1 = 0 ∧ t.num (Obj.driveState a) = 0 ∧
      (t.num (Obj.driveFault a)).testBit 0 = true ∧ t.num (Obj.actuatorState a) = max 3 (s.num (Obj.actuatorState a)) := by
  have ha := a.isLt
  obtain ⟨hstate, hfault⟩ := off_driveObjects a ha
  have hmotion := fenceActuator_motion (coilOpened s a) a .fault
  refine ⟨_, exec_vcmOvercurrent hclosed, ?_, ?_, ?_, ?_, ?_, ?_⟩
  · rw [State.raiseAct_motion, hmotion]
    exact vget_vmod_self _ _ _ _ ha
  · rw [State.raiseAct_motion, hmotion]
    exact vget_vmod_self _ _ _ _ ha
  · rw [State.raiseAct_motion, hmotion]
    exact vget_vmod_self _ _ _ _ ha
  · rw [State.num_raiseAct, (fenceActuator_off hstate ha _ (At.self (coilOpened s a)) _).num_eq]
    exact State.num_setNum_self ..
  · rw [State.num_raiseAct, (fenceActuator_off hfault ha _ (At.self (coilOpened s a)) _).num_eq]
    have hother : (coilOpened s a).num (Obj.driveFault a) = _ := State.num_setNum_other _ _ (by unfold Obj.driveState Obj.driveFault Key; omega)
    rw [hother]
    exact driveFault_bit ..
  · rw [State.num_raiseAct, fenceActuator_actuatorState _ ha, coilOpened_num]
    unfold Obj.actuatorState Obj.driveState Obj.driveFault Key
    omega

theorem maOvercurrent_effect {s : State} {a : Fin 4} (hheld : vget s.motion.maHeld a false = false) :
    Completes (.maOvercurrent a) s fun t =>
      vget t.motion.maHeld a false = true ∧ vget t.motion.ma a 1 = 0 ∧ (t.num (Obj.driveFault a)).testBit 1 = true ∧
      t.raised = s.raised ++ [{ source := 448 + 64 * a.val + 4, unit := a, detail := 0 }] :=
  ⟨_, if_neg (by rw [hheld]; decide), vget_vmod_self _ _ _ _ a.isLt, vget_vmod_self _ _ _ _ a.isLt, driveFault_bit .., rfl⟩

theorem headLoadTimeout_effect {s : State} {a : Fin 4} (hd : s.num (Obj.driveState a) = 1) :
    Completes (.headLoadTimeout a) s fun t =>
      (t.num (Obj.driveFault a)).testBit 3 = true ∧ (vget s.motion.vcmOpen a false = false → t.num (Obj.driveState a) = 3) ∧
      t.raised = s.raised ++ [{ source := 448 + 64 * a.val + 3, unit := a, detail := 0 }] := by
  have hd' : (driveFault s a 3).num (Obj.driveState a) = 1 := (State.num_setNum_other _ _ (by unfold Obj.driveState Obj.driveFault Key; omega)).trans hd
  have hraised : (retract (driveFault s a 3) a).raised = s.raised := by
    unfold retract
    dsimp only
    split
    · rfl
    · exact State.raised_bump ..
  refine ⟨_, if_pos hd, ?_, fun hclosed => ?_, ?_⟩
  · have hbit : At (Obj.driveFault a) _ (retract (driveFault s a 3) a) :=
      retract_off _ (At.self _) (by unfold Obj.driveState Obj.driveFault Key; omega) (by unfold Obj.retracts Obj.driveFault Key; omega)
    rw [State.num_raiseAct, hbit.num_eq]
    exact driveFault_bit ..
  · rw [State.num_raiseAct]
    exact retract_driveState (by rw [hd']; decide) hclosed
  · exact congrArg (· ++ [_]) hraised


/-! ### SENSE -/

theorem triggerEngine_motion (s : State) (e entry : Nat) (inputs : SMap Word32) : (triggerEngine s e entry inputs).motion = s.motion :=
  within_iff.mp (@triggerEngine_frame [.objs, .dict, .engines, .groups] s (touch_of rfl) (touch_of rfl) (touch_of rfl) (touch_of rfl) s e entry
    inputs (.refl _ s)) .motion (by decide)

/-- What SENSE puts at the group's ports and the link's state that it leaves. -/
structure SameSense (s t : State) : Prop where
  sensed : ∀ g, (t.groupOf g).sensed = (s.groupOf g).sensed
  resends : t.motion.resendsUp = s.motion.resendsUp
  seq : t.motion.seqUp = s.motion.seqUp

theorem SameSense.refl (s : State) : SameSense s s := ⟨fun _ => rfl, rfl, rfl⟩

theorem SameSense.trans {s t u : State} (h : SameSense s t) (h' : SameSense t u) : SameSense s u :=
  ⟨fun g => (h'.sensed g).trans (h.sensed g), h'.resends.trans h.resends, h'.seq.trans h.seq⟩

theorem SameSense.of_parts {s t : State} (hgroups : t.groups = s.groups) (hmotion : t.motion = s.motion) : SameSense s t :=
  ⟨fun g => congrArg Group.sensed (groupOf_congr hgroups g), congrArg Motion.resendsUp hmotion, congrArg Motion.seqUp hmotion⟩

theorem SameSense.of_within {T : List Part} {s t : State} (h : Within T s t) (hg : Part.groups ∉ T) (hm : Part.motion ∉ T) : SameSense s t :=
  .of_parts (within_iff.mp h .groups hg) (within_iff.mp h .motion hm)

theorem SameSense.modGroup (s : State) (g : Nat) (f : Group → Group) (hf : ∀ x, (f x).sensed = x.sensed) : SameSense s (s.modGroup g f) :=
  ⟨field_modGroup hf s g, rfl, rfl⟩

theorem retract_sense (s : State) (a : Nat) : SameSense s (retract s a) := by
  unfold retract
  dsimp only
  split
  · exact .refl s
  · exact ⟨fun _ => by rw [groupOf_congr (State.groups_bump ..)]; rfl, by rw [State.motion_bump]; rfl, by rw [State.motion_bump]; rfl⟩

theorem parkGroup_sense (s : State) {a : Nat} (ha : a < 4) : SameSense s (parkGroup s a) := by
  unfold parkGroup
  dsimp only
  rw [if_pos ha]
  let u := (s.setNum (Obj.groupState a) gsParked).modGroup a fun x => { x with pairHold := none, holdRerunDone := false }
  have hstate : SameSense s (s.setNum (Obj.groupState a) gsParked) := .of_parts rfl rfl
  have hgroup : SameSense s u := hstate.trans (.modGroup _ a _ fun _ => rfl)
  have hfence : SameSense u (fenceActuator u a .fault) :=
    .of_within (@fenceActuator_frame [.objs, .chan, .dec, .players, .acts, .traces, .layout, .mem, .raised, .outs, .free] u (touch_of rfl) (touch_of rfl)
      (touch_of rfl) (touch_of rfl) (touch_of rfl) (touch_of rfl) (touch_of rfl) (touch_of rfl) (touch_of rfl) (touch_of rfl) (touch_of rfl) u a .fault (.refl _ u))
      (by decide) (by decide)
  have hpark : SameSense s (parkActuator u a) := hgroup.trans (hfence.trans (retract_sense _ a))
  exact hpark.trans (.of_parts (State.raise_groups ..) (State.raise_motion ..))

theorem missLatch_sense (s : State) {a : Nat} (ha : a < 4) : SameSense s (missLatch s a 0) := by
  unfold missLatch
  extract_lets s1 s2 s3 s4 x
  have h1 : SameSense s s1 := .of_parts (State.groups_bump ..) (State.motion_bump ..)
  have h2 : SameSense s1 s2 := by
    unfold s2
    rw [if_pos ha]
    exact .of_parts rfl rfl
  have h3 : SameSense s2 s3 := .modGroup s2 a _ fun _ => rfl
  have h4 : s4 = s3 := if_neg (by simp)
  split
  · rw [h4]
    exact ((h1.trans h2).trans h3).trans (parkGroup_sense s3 ha)
  · split
    · next h => exact absurd h (by decide)
    · rw [h4]
      exact (h1.trans h2).trans h3

theorem groupTrigger_sense (s : State) {a : Nat} (ha : a < 4) : SameSense s (groupTrigger s a 0) := by
  have hlost : SameSense s (lostRun s a 0) := by
    unfold lostRun
    split
    · exact missLatch_sense s ha
    · exact .refl s
  have hinputs (u : State) : SameSense u (groupInputs u a).2 := by
    unfold groupInputs
    rw [if_pos ha]
    exact .of_within (@actuatorInputs_frame [.objs, .free] u (touch_of rfl) (touch_of rfl) u a (.refl _ u)) (by decide) (by decide)
  unfold groupTrigger
  split
  · exact .refl s
  · dsimp only
    split
    · exact hlost
    · have hoffset : takeOffset (lostRun s a 0) a 0 = lostRun s a 0 := if_neg (by simp)
      rw [hoffset]
      refine State.each_inv (P := SameSense s) ((hlost.trans (hinputs _)).trans (.modGroup _ a _ fun _ => rfl)) fun t e _ ht => ht.trans ?_
      exact ⟨triggerEngine_field (π := Group.sensed) ⟨fun _ _ => rfl, fun _ _ => rfl⟩ t e 0 _, congrArg Motion.resendsUp (triggerEngine_motion ..),
        congrArg Motion.seqUp (triggerEngine_motion ..)⟩


theorem senseMsg_effect (s : State) (a : Fin 4) (ua mv : Int) :
    Completes (.senseMsg a ua mv) s fun t =>
      sensedOf t a 0x0B = BitVec.ofInt 32 ua ∧ sensedOf t a 0x0C = BitVec.ofInt 32 (if vget s.motion.maHeld a false then 0 else mv) ∧
      t.motion.resendsUp = 0 ∧ t.motion.seqUp = (s.motion.seqUp + 1) % 256 := by
  let m := if vget s.motion.maHeld a false then 0 else mv
  let u := (fromMotion s).modGroup a fun x => { x with sensed := SMap.put (SMap.put x.sensed 0x0B (wi32 ua)) 0x0C (wi32 m) }
  have hexec : exec (.senseMsg a ua mv) s = .next (traceSample (groupTrigger u a 0) a true) := rfl
  have htrace : SameSense (groupTrigger u a 0) (traceSample (groupTrigger u a 0) a true) :=
    .of_within (@traceSample_frame [.objs, .traces] _ (touch_of rfl) (touch_of rfl) _ a true (.refl _ _)) (by decide) (by decide)
  have hsame := (groupTrigger_sense u a.isLt).trans htrace
  have hgroup : (u.groupOf a).sensed = SMap.put (SMap.put (s.groupOf a).sensed 0x0B (wi32 ua)) 0x0C (wi32 m) :=
    congrArg Group.sensed (groupOf_modGroup (fromMotion s) _ (by omega))
  refine ⟨_, hexec, ?_, ?_, hsame.resends, hsame.seq⟩
  · unfold sensedOf
    rw [hsame.sensed, hgroup, findD_put, if_neg (by decide), findD_put, if_pos rfl]
    rfl
  · unfold sensedOf
    rw [hsame.sensed, hgroup, findD_put, if_pos rfl]
    rfl

/-- Settles O19: each command and each fault of a drive by its effect, SENSE by what a trigger leaves of the group. -/
theorem drivesFollowCommandsAndLimits : Obligations.DrivesFollowCommandsAndLimits := by
  unfold Obligations.DrivesFollowCommandsAndLimits
  refine ⟨fun s a rpm => ?_, fun s a ua mv => ?_⟩
  · dsimp only
    exact ⟨fun h3 h4 hc => retractMsg_effect ⟨h3, h4⟩ hc, fun h => (exec_retract s a).trans (congrArg _ (retract_idle (s := fromMain s) h)),
      loadMsg_effect, loadMsg_idle, brakeMsg_effect s, rfl, targetMsg_effect, modeHold_effect,
      fun h => (exec_modeHold s).trans (congrArg _ (if_neg h)), modeRein_effect, modeRein_idle⟩
  · dsimp only
    refine ⟨fun hd hc hr => vcmCmd_effect (takesCommands_iff.mpr ⟨hd, hc, hr⟩) ua mv, fun h => exec_vcmCmd_idle ?_ ua mv, senseMsg_effect s a ua mv,
      vcmOvercurrent_effect, fun h => if_pos ((Bool.not_eq_false _).mp h), maOvercurrent_effect, fun h => if_pos h, headLoadTimeout_effect, fun h => if_neg h⟩
    rw [← Bool.not_eq_true, takesCommands_iff]
    rintro ⟨hd, hc, hr⟩
    rcases h with h | h | h
    · exact h hd
    · exact h hc
    · exact absurd (h.symm.trans hr) (by decide)

end Sys2Proof.Machine
end

section
/-!
PROOFS. The heads on the ramp, the end of the dump, and a preamp's persistent fault (R39, R183, R303–R305, R435).
-/

namespace Sys2Proof.Machine

/-! ### Parked -/

/-- The objects of the drives. -/
def DriveKey (k : Key) : Prop := 0x602000 ≤ k ∧ k < 0x602400

theorem engKey_lt {e sub : Nat} (he : e < 16) (hsub : sub < 6) : engKey e sub < 0x600000 := by
  unfold engKey Key
  split <;> omega

section
variable {k : Key} {v : Val}

theorem stopGroup_drive (hk : 0x600000 ≤ k) {s : State} (h : At k v s) {g : Nat} (hg : g < 5) : At k v (stopGroup s g) := by
  have hne (e sub : Nat) (he : e < 16) (hsub : sub < 6) : ¬k = engKey e sub := by have := engKey_lt he hsub; unfold Key at *; omega
  have heach : At k v (s.each (groupEngines s g) fun s e =>
      let s := setEngRole s e roNone
      if engState s e < stFenced then setEngState s e stQuiesced else s) := by
    refine State.each_inv h fun t e he ht => ?_
    have he : e < 16 := (mem_groupEngines.mp he).1
    dsimp only
    split
    · exact At.setNum (hne e 2 he (by decide)) (At.setNum (hne e 3 he (by decide)) ht)
    · exact At.setNum (hne e 3 he (by decide)) ht
  unfold stopGroup
  exact At.setNum (by unfold Obj.groupState Key at *; omega) heach

end

/-- The heads of actuator a on the ramp, before what waited for it follows. -/
def onRamp (s : State) (a ms : Nat) : State :=
  let s := s.setMotion { s.motion with
    retract := vmod s.motion.retract a fun _ => .none, vcm := vmod s.motion.vcm a fun _ => 0
    drives := vmod s.motion.drives a fun _ => (0, 0, 0), retractMs := vmod s.motion.retractMs a fun _ => ms }
  (s.setNum (Obj.driveState a) dvParked).setNum (Obj.retractLastMs a) (ms % 65536)

/-- A disabled actuator is QUIESCED with its engines. -/
def rampQuiesced (s : State) (a : Nat) : State :=
  if s.num (Obj.actuatorState a) = stQuiescing then setActuator (stopGroup s a) a stQuiesced else s

/-- A spin-up that waited for the heads goes on. -/
def spinGoesOn (s : State) : State := if s.motion.spinWaitsPark ∧ allParked s then beginSpin s else s

/-- So does a shutdown. -/
def goesOn (s : State) : State := if allParked (spinGoesOn s) then finishShutdown (spinGoesOn s) else spinGoesOn s

theorem parked_eq (s : State) (a ms : Nat) : parked s a ms = settleRestart (parkedSwitches (goesOn (rampQuiesced (onRamp s a ms) a))) := by
  unfold parked goesOn spinGoesOn rampQuiesced onRamp
  with_reducible rfl

theorem settleRestart_calm {s : State} (h : s.start.restartAsked = false) : settleRestart s = s := by
  unfold settleRestart
  rw [h]
  rfl

theorem setActuator_quiesced (s : State) (a : Nat) : setActuator s a stQuiesced = followPlayers (s.setNum (Obj.actuatorState a) stQuiesced) a := by
  unfold setActuator
  dsimp only
  rw [if_neg (by decide)]

theorem rampQuiesced_parts (s : State) (a : Nat) : (rampQuiesced s a).motion = s.motion ∧ (rampQuiesced s a).start = s.start := by
  unfold rampQuiesced
  split
  · rw [setActuator_quiesced]
    let u := (stopGroup s a).setNum (Obj.actuatorState a) stQuiesced
    have hfollow : Within [.objs] u (followPlayers u a) := @followPlayers_frame [.objs] u (touch_of rfl) u a (.refl _ u)
    have hstop : Within [.objs] s (stopGroup s a) := @stopGroup_frame [.objs] s (touch_of rfl) s a (.refl _ s)
    exact ⟨(within_iff.mp hfollow .motion (by decide)).trans (within_iff.mp hstop .motion (by decide)),
      (within_iff.mp hfollow .start (by decide)).trans (within_iff.mp hstop .start (by decide))⟩
  · exact ⟨rfl, rfl⟩

theorem rampQuiesced_at {k : Key} {v : Val} (hk : DriveKey k) {s : State} (h : At k v s) {a : Nat} (ha : a < 4) : At k v (rampQuiesced s a) := by
  unfold rampQuiesced
  split
  · rw [setActuator_quiesced]
    obtain ⟨hlow, hhigh⟩ := hk
    have haside : Aside k := by unfold Aside; unfold Key at *; omega
    exact followPlayers_off haside ha _ (At.setNum (fun e => absurd (e ▸ hlow) (by unfold Obj.actuatorState Key; omega)) (stopGroup_drive (by unfold Key at *; omega) h (by omega)))
  · exact h

theorem beginSpin_retract (s : State) : (beginSpin s).motion.retract = s.motion.retract := by
  let u := (s.setMotion { s.motion with spinWaitsPark := false, spinTries := spinRetries s }).bump Obj.spinups
  have hu : (takeSpinLimit u).motion.retract = s.motion.retract := by
    show u.motion.retract = _
    rw [State.motion_bump]
    rfl
  unfold beginSpin
  dsimp only
  split
  · rfl
  · split
    · rw [spinTo_motion]
      exact hu
    · rw [spinTo_motion]
      exact hu

theorem goesOn_parts (s : State) : (goesOn s).motion.retract = s.motion.retract ∧ (goesOn s).start = s.start := by
  have hspin : (spinGoesOn s).motion.retract = s.motion.retract ∧ (spinGoesOn s).start = s.start := by
    unfold spinGoesOn
    split
    · exact ⟨beginSpin_retract s, within_iff.mp (@beginSpin_frame [.objs, .motion, .free] s (touch_of rfl) (touch_of rfl) (touch_of rfl) s (.refl _ s)) .start (by decide)⟩
    · exact ⟨rfl, rfl⟩
  unfold goesOn
  split
  · exact hspin
  · exact hspin

theorem goesOn_at {k : Key} {v : Val} (hk : k ≠ Obj.atSpeed ∧ k ≠ Obj.phaseLocked ∧ k ≠ Obj.spinMode ∧ k ≠ Obj.spinups) {s : State} (h : At k v s) :
    At k v (goesOn s) := by
  have hspin : At k v (spinGoesOn s) := by
    unfold spinGoesOn
    split
    · exact @beginSpin_at k v ⟨hk.1⟩ ⟨hk.2.1⟩ ⟨hk.2.2.1⟩ ⟨hk.2.2.2⟩ s h
    · exact h
  unfold goesOn
  split
  · exact hspin
  · exact hspin

/-- The heads of actuator a are on the ramp, and no accepted restart waits. -/
theorem parked_calm {s : State} (hcalm : s.start.restartAsked = false) (a ms : Nat) :
    parked s a ms = parkedSwitches (goesOn (rampQuiesced (onRamp s a ms) a)) := by
  have hstart : (parkedSwitches (goesOn (rampQuiesced (onRamp s a ms) a))).start = s.start := by
    rw [within_iff.mp (parkedSwitches_parts _) .start (by decide), (goesOn_parts _).2, (rampQuiesced_parts _ a).2]
    rfl
  rw [parked_eq, settleRestart_calm (by rw [hstart]; exact hcalm)]

theorem parked_at {k : Key} {v : Val} (hk : DriveKey k) {s : State} (hcalm : s.start.restartAsked = false) {a ms : Nat} (ha : a < 4)
    (h : At k v (onRamp s a ms)) : At k v (parked s a ms) := by
  obtain ⟨hlow, -⟩ := id hk
  have hne (j : Key) (hj : j < 0x602000) : k ≠ j := fun e => absurd hlow (by subst e; unfold Key at *; omega)
  rw [parked_calm hcalm]
  refine (parkedSwitches_obj (hne _ (by decide)) _).trans (goesOn_at ?_ (rampQuiesced_at hk h ha))
  exact ⟨hne _ (by decide), hne _ (by decide), hne _ (by decide), hne _ (by decide)⟩

theorem driveKeys {a : Nat} (ha : a < 4) : DriveKey (Obj.driveState a) ∧ DriveKey (Obj.retractLastMs a) ∧ DriveKey (Obj.driveFault a) := by
  unfold DriveKey Obj.driveState Obj.retractLastMs Obj.driveFault Key
  omega

theorem parked_effect {s : State} (hcalm : s.start.restartAsked = false) {a : Nat} (ha : a < 4) (ms : Nat) :
    (parked s a ms).num (Obj.driveState a) = 4 ∧ (parked s a ms).num (Obj.retractLastMs a) = ms % 65536 ∧
    (parked s a ms).num (Obj.driveFault a) = s.num (Obj.driveFault a) ∧ vget (parked s a ms).motion.retract a .slowing = .none ∧
    (s.num (Obj.actuatorState a) = 1 → (parked s a ms).num (Obj.actuatorState a) = 2) := by
  obtain ⟨hstate, hlast, hfault⟩ := driveKeys ha
  have hkeep (k : Key) (hk : DriveKey k) : (parked s a ms).num k = (onRamp s a ms).num k := At.num_eq (parked_at hk hcalm ha (At.self _))
  refine ⟨?_, ?_, ?_, ?_, fun hquiet => ?_⟩
  · rw [hkeep _ hstate]
    exact (State.num_setNum_other _ _ (by unfold Obj.driveState Obj.retractLastMs Key; omega)).trans (State.num_setNum_self ..)
  · rw [hkeep _ hlast]
    exact State.num_setNum_self ..
  · rw [hkeep _ hfault]
    exact (State.num_setNum_other _ _ (by unfold Obj.driveFault Obj.retractLastMs Key; omega)).trans
      (State.num_setNum_other _ _ (by unfold Obj.driveState Obj.driveFault Key; omega))
  · rw [parked_calm hcalm, within_iff.mp (parkedSwitches_parts _) .motion (by decide), (goesOn_parts _).1, (rampQuiesced_parts _ a).1]
    exact vget_vmod_self _ _ _ _ ha
  · have haside := aside_actuatorState ha
    have honRamp : (onRamp s a ms).num (Obj.actuatorState a) = 1 :=
      ((State.num_setNum_other _ _ (by unfold Obj.actuatorState Obj.retractLastMs Key; omega)).trans
        (State.num_setNum_other _ _ (by unfold Obj.driveState Obj.actuatorState Key; omega))).trans hquiet
    have hquiesced : At (Obj.actuatorState a) (.num 2) (rampQuiesced (onRamp s a ms) a) := by
      unfold rampQuiesced
      rw [honRamp, if_pos (by decide), setActuator_quiesced]
      exact followPlayers_off haside ha _ ((State.obj_setNum ..).trans (if_pos rfl))
    have hne (j : Key) (hj : 0x600000 ≤ j) : Obj.actuatorState a ≠ j := fun e => absurd (e ▸ hj) (by unfold Obj.actuatorState Key; omega)
    rw [parked_calm hcalm]
    refine congrArg Val.toNum ((parkedSwitches_obj (hne _ (by decide)) _).trans (goesOn_at ?_ hquiesced))
    exact ⟨hne _ (by decide), hne _ (by decide), hne _ (by decide), hne _ (by decide)⟩


theorem retractTimeout_effect {s : State} {a : Fin 4} (hd : s.num (Obj.driveState a) = 3) (hpush : ¬vget s.motion.retract a .none = .pushing)
    (hcalm : s.start.restartAsked = false) :
    Completes (.retractTimeout a) s fun t =>
      t.num (Obj.driveState a) = 4 ∧ (t.num (Obj.driveFault a)).testBit 2 = true ∧ t.num (Obj.retractLastMs a) ≤ 230 ∧
      { source := 448 + 64 * a.val + 3, unit := a, detail := 0 } ∈ t.raised := by
  let u := driveFault s.draw.2 a 2
  have hexec : exec (.retractTimeout a) s = .next ((parked u a (s.draw.1 % 231)).raiseAct a 3 a) := if_pos ⟨hd, hpush⟩
  obtain ⟨hstate, hlast, hfault, -, -⟩ := parked_effect (s := u) hcalm a.isLt (s.draw.1 % 231)
  refine ⟨_, hexec, hstate, ?_, ?_, ?_⟩
  · rw [State.num_raiseAct, hfault]
    exact driveFault_bit ..
  · rw [State.num_raiseAct, hlast]
    omega
  · rw [State.raiseAct_raised]
    exact List.mem_append_right _ (List.mem_singleton_self _)

/-! ### The dump's seal -/

theorem dumpSealed_effect {s : State} {slot : Fin 6} {seq : Nat} (h : s.power.dump = .running slot seq) (holdup vmMin : Nat) :
    Completes (.dumpSealed holdup vmMin) s fun t =>
      let k := vget t.mem.keeper slot KeeperSlot.reset
      t.power.dump = .done ∧ t.outs = .link "DUMP_DONE" [] :: s.outs ∧ t.mem.dram = s.mem.dram ∧
      k.state = 1 ∧ k.seq = seq ∧ k.cache = s.mem.cache ∧
      (s.power.off = some .powerFail ∨ s.power.off = some .pwrdis → k.holdup = holdup % 2 ^ 32 ∧ k.vmMin = vmMin % 2 ^ 16) ∧
      (s.power.off ≠ some .powerFail → s.power.off ≠ some .pwrdis → k.holdup = 2 ^ 32 - 1 ∧ k.vmMin = 2 ^ 16 - 1) := by
  let k := sealed s seq holdup vmMin
  let u := s.setMem { s.mem with keeper := vmod s.mem.keeper slot fun _ => k }
  have hexec : exec (.dumpSealed holdup vmMin) s = .next ((u.setPower { u.power with dump := .done }).emit (.link "DUMP_DONE" [])) := by
    show execDumpSealed holdup vmMin s = _
    unfold execDumpSealed
    rw [h]
  have hslot : vget (vmod s.mem.keeper slot fun _ => k) slot KeeperSlot.reset = k := vget_vmod_self _ _ _ _ slot.isLt
  refine ⟨_, hexec, rfl, rfl, rfl, congrArg KeeperSlot.state hslot, congrArg KeeperSlot.seq hslot, congrArg KeeperSlot.cache hslot, fun hoff => ?_,
    fun hfail hdis => ?_⟩
  · have hmeasured : (decide (s.power.off = some .powerFail) || decide (s.power.off = some .pwrdis)) = true := by simpa using hoff
    exact ⟨(congrArg KeeperSlot.holdup hslot).trans (if_pos hmeasured), (congrArg KeeperSlot.vmMin hslot).trans (if_pos hmeasured)⟩
  · have hmeasured : ¬(decide (s.power.off = some .powerFail) || decide (s.power.off = some .pwrdis)) = true := by simpa using ⟨hfail, hdis⟩
    exact ⟨(congrArg KeeperSlot.holdup hslot).trans (if_neg hmeasured), (congrArg KeeperSlot.vmMin hslot).trans (if_neg hmeasured)⟩

/-! ### A preamp's persistent fault -/

theorem testBit_clrBit (n i : Nat) : (clrBit n i).testBit i = false := by
  unfold clrBit
  split
  · next h =>
    have hquot : (n - 2 ^ i) / 2 ^ i = n / 2 ^ i - 1 := by rw [← Nat.sub_mul_div n (2 ^ i) 1, Nat.mul_one]
    rw [Nat.testBit_eq_decide_div_mod_eq, decide_eq_true_eq] at h
    rw [Nat.testBit_eq_decide_div_mod_eq, hquot, decide_eq_false_iff_not]
    omega
  · next h => exact Bool.not_eq_true _ ▸ h

/-- The actuator whose preamp fails, fenced; its heads have not begun to retract. -/
def preampFenced (s : State) (a : Nat) : State := fenceActuator (s.setNum (Obj.preampState a) 3) a .fault

theorem preampFaulted_eq (s : State) (a : Nat) : preampFaulted s a = preampSwitch (retract (preampFenced s a) a) a false := rfl

theorem preampFaulted_num {k : Key} {a : Nat} (hk : k ≠ Obj.v3p3Enable ∧ k ≠ Obj.driveState a ∧ k ≠ Obj.retracts a) (s : State) :
    (preampFaulted s a).num k = (preampFenced s a).num k := by
  rw [preampFaulted_eq]
  exact (State.num_setNum_other _ _ hk.1).trans (At.num_eq (retract_off _ (At.self _) hk.2.1 hk.2.2))

theorem preampFaulted_effect (s : State) {a : Nat} (ha : a < 4) :
    (preampFaulted s a).num (Obj.preampState a) = 3 ∧ (preampFaulted s a).num (Obj.actuatorState a) = max 3 (s.num (Obj.actuatorState a)) ∧
    ((preampFaulted s a).num Obj.v3p3Enable).testBit a = false ∧
    (s.num (Obj.driveState a) ≠ 4 → vget s.motion.vcmOpen a false = false → (preampFaulted s a).num (Obj.driveState a) = 3) := by
  have hpreamp : Aside (Obj.preampState a) := by unfold Aside Obj.preampState Key; omega
  obtain ⟨hstate, -⟩ := off_driveObjects a ha
  have hfenced : At (Obj.preampState a) (.num 3) (preampFenced s a) := by
    refine surfacesFail_off hpreamp ha _ (followPlayers_off hpreamp ha _ (stopPlayers_off hpreamp ha _ ?_ _))
    have hset : At (Obj.preampState a) (.num 3) (s.setNum (Obj.preampState a) 3) := (State.obj_setNum ..).trans (if_pos rfl)
    unfold markFenced
    split
    · exact At.setNum (by unfold Obj.preampState Obj.actuatorState Key; omega) hset
    · exact hset
  refine ⟨?_, ?_, ?_, fun hd hclosed => ?_⟩
  · rw [preampFaulted_num ⟨?_, ?_, ?_⟩]
    · exact congrArg Val.toNum hfenced
    · unfold Obj.preampState Obj.v3p3Enable Key; omega
    · unfold Obj.preampState Obj.driveState Key; omega
    · unfold Obj.preampState Obj.retracts Key; omega
  · rw [preampFaulted_num ⟨?_, ?_, ?_⟩]
    · rw [preampFenced, fenceActuator_actuatorState _ ha, State.num_setNum_other]
      unfold Obj.preampState Obj.actuatorState Key; omega
    · unfold Obj.actuatorState Obj.v3p3Enable Key; omega
    · unfold Obj.actuatorState Obj.driveState Key; omega
    · unfold Obj.actuatorState Obj.retracts Key; omega
  · rw [preampFaulted_eq]
    unfold preampSwitch
    rw [State.num_setNum_self]
    exact testBit_clrBit ..
  · have hread : (preampFenced s a).num (Obj.driveState a) = s.num (Obj.driveState a) :=
      (At.num_eq (fenceActuator_off hstate ha _ (At.self _) _)).trans (State.num_setNum_other _ _ (by unfold Obj.preampState Obj.driveState Key; omega))
    have hbridge : vget (preampFenced s a).motion.vcmOpen a false = false := by
      rw [preampFenced, fenceActuator_motion]
      exact hclosed
    rw [preampFaulted_eq]
    refine (State.num_setNum_other _ _ ?_).trans (retract_driveState (hread ▸ hd) hbridge)
    unfold Obj.driveState Obj.v3p3Enable Key
    omega

/-- Settles O20: what follows a parked arm leaves the drives' objects, and a persistent fault is a fence, a retract and the preamp's switch. -/
theorem retractsParkTheHeads : Obligations.RetractsParkTheHeads := by
  unfold Obligations.RetractsParkTheHeads
  intro s a ms holdup vmMin
  dsimp only
  refine ⟨fun hd => ⟨_, if_pos hd, vget_vmod_self _ _ _ _ a.isLt, rfl⟩, fun hd => if_neg hd, fun hd hpush hcalm => ?_, fun h => if_neg ?_,
    retractTimeout_effect, fun h => if_neg ?_, fun slot seq h => dumpSealed_effect h holdup vmMin, fun hlow => ⟨_, if_pos hlow, preampFaulted_effect s a.isLt⟩,
    fun hon => ⟨_, if_pos hon, preampFaulted_effect s a.isLt, ?_⟩⟩
  · obtain ⟨hstate, hlast, -, hretract, hquiet⟩ := parked_effect hcalm a.isLt ms
    exact ⟨_, if_pos ⟨hd, hpush⟩, hstate, hlast, hretract, hquiet⟩
  · rintro ⟨hd, hpush⟩
    exact h.elim (fun h => h hd) fun h => h hpush
  · rintro ⟨hd, hpush⟩
    exact h.elim (fun h => h hd) fun h => hpush h
  · rw [State.raiseAct_raised, List.map_append]
    exact List.mem_append_right _ (List.mem_singleton_self _)

end Sys2Proof.Machine
end

section
/-!
PROOFS. What closes the write gate (R16, R17, R155, R162, R174–R176, R182, R487).
-/

namespace Sys2Proof.Machine

/-! ### Report bits -/

/-- The bits of m stand in r. -/
def HasBits (m r : Nat) : Prop := r &&& m = m

theorem HasBits.refl (m : Nat) : HasBits m m := Nat.and_self m

theorem HasBits.or_left {m r : Nat} (h : HasBits m r) (x : Nat) : HasBits m (r ||| x) := by
  unfold HasBits at *
  rw [Nat.and_or_distrib_right, h]
  refine Nat.eq_of_testBit_eq fun i => ?_
  simp only [Nat.testBit_or, Nat.testBit_and]
  cases m.testBit i <;> simp

theorem HasBits.or_right {m r : Nat} (h : HasBits m r) (x : Nat) : HasBits m (x ||| r) := Nat.or_comm r x ▸ h.or_left x

theorem HasBits.add {m n r : Nat} (h : HasBits m r) (h' : HasBits n r) : HasBits (m ||| n) r := by
  unfold HasBits at *
  rw [Nat.and_or_distrib_left, h, h']

theorem HasBits.trans {m r x : Nat} (h : HasBits m r) (h' : HasBits r x) : HasBits m x := by
  unfold HasBits at *
  calc x &&& m = x &&& (r &&& m) := by rw [h]
    _ = (x &&& r) &&& m := (Nat.and_assoc ..).symm
    _ = m := by rw [h', h]

/-! ### The entries of a sentence -/

theorem entryOf_modEntry (s : State) (q j : Nat) (f : Entry → Entry) (p i : Nat) :
    (modEntry s q j f).entryOf p i = if q = p ∧ p < 8 ∧ j = i then (s.entryOf p i).map f else s.entryOf p i := by
  unfold modEntry State.entryOf State.playerOf State.modPlayer
  dsimp only
  rw [vget_vmod]
  by_cases h : q = p ∧ p < 8
  · rw [if_pos h]
    dsimp only
    rw [List.getElem?_modify]
    by_cases hj : j = i
    · rw [if_pos ⟨h.1, h.2, hj⟩]
      simp only [hj, if_true]
      rfl
    · rw [if_neg fun h' => hj h'.2.2]
      simp only [hj, if_false]
      exact id_map _
  · rw [if_neg h, if_neg fun h' => h ⟨h'.1, h'.2.1⟩]

theorem entryOf_congr {s t : State} (h : t.players = s.players) (p i : Nat) : t.entryOf p i = s.entryOf p i := by
  unfold State.entryOf
  rw [playerOf_congr h]

/-- Entries keep everything but bits that their reports gain. -/
structure Noted (s t : State) : Prop where
  entry : ∀ p i e, s.entryOf p i = some e → ∃ r, t.entryOf p i = some { e with report := e.report ||| r }
  header : ∀ p, (t.playerOf p).header = (s.playerOf p).header
  playing : ∀ p, (t.playerOf p).playing = (s.playerOf p).playing

theorem Noted.of_players {s t : State} (h : t.players = s.players) : Noted s t where
  entry p i e he := ⟨0, by rw [entryOf_congr h, he, Nat.or_zero]⟩
  header p := by rw [playerOf_congr h]
  playing p := by rw [playerOf_congr h]

theorem Noted.trans {s t u : State} (h : Noted s t) (h' : Noted t u) : Noted s u where
  entry p i e he := by
    obtain ⟨r, hr⟩ := h.entry p i e he
    obtain ⟨r', hr'⟩ := h'.entry p i _ hr
    exact ⟨r ||| r', by rw [hr', Nat.or_assoc]⟩
  header p := (h'.header p).trans (h.header p)
  playing p := (h'.playing p).trans (h.playing p)

theorem header_modEntry (s : State) (q j : Nat) (f : Entry → Entry) (p : Nat) :
    ((modEntry s q j f).playerOf p).header = (s.playerOf p).header ∧ ((modEntry s q j f).playerOf p).playing = (s.playerOf p).playing := by
  unfold modEntry State.playerOf State.modPlayer
  dsimp only
  rw [vget_vmod]
  split
  · exact ⟨rfl, rfl⟩
  · exact ⟨rfl, rfl⟩

theorem report_noted (s : State) (q j mask : Nat) : Noted s (report s q j mask) where
  entry p i e he := by
    unfold report
    rw [entryOf_modEntry, he]
    split
    · dsimp only [Option.map]
      split
      · exact ⟨0, by rw [Nat.or_zero]⟩
      · exact ⟨mask, rfl⟩
    · exact ⟨0, by rw [Nat.or_zero]⟩
  header p := (header_modEntry ..).1
  playing p := (header_modEntry ..).2

theorem report_self {s : State} {p i mask : Nat} {e : Entry} (hp : p < 8) (he : s.entryOf p i = some e) (hfinal : e.final = false) :
    (report s p i mask).entryOf p i = some { e with report := e.report ||| mask } := by
  unfold report
  rw [entryOf_modEntry, if_pos ⟨rfl, hp, rfl⟩, he, Option.map_some, hfinal]
  rfl

theorem reportGated_noted (s : State) (a mask : Nat) : Noted s (reportGated s a mask) :=
  State.each_inv (P := Noted s) (.of_players rfl) fun t x _ ht => ht.trans (report_noted t x.1 x.2 mask)


theorem reportGated_self {s : State} {a p i mask : Nat} {e : Entry} (hp : p < 8) (hplay : (s.actOf a).playing = some p)
    (hgate : (s.chanOf a).writeGate = some i) (he : s.entryOf p i = some e) (hfinal : e.final = false) :
    ∃ r, (reportGated s a mask).entryOf p i = some { e with report := e.report ||| mask ||| r } := by
  unfold reportGated gatedEntries
  rw [hplay, hgate]
  have hrest := State.each_inv (P := Noted (report s p i mask)) (f := fun s (x : Nat × Nat) => report s x.1 x.2 mask)
    (l := [2 * a, 2 * a + 1].flatMap fun p => (entriesWhere s p (·.capturing)).map fun i => (p, i)) (.of_players rfl)
    fun t x _ ht => ht.trans (report_noted t x.1 x.2 mask)
  exact hrest.entry p i _ (report_self hp he hfinal)

/-! ### The end of the sector being written -/

theorem endEntry_self {s : State} {p i result : Nat} {e : Entry} (hp : p < 8) (he : s.entryOf p i = some e) (hfinal : e.final = false) (poisoned : Bool) :
    (endEntry s p i result poisoned).entryOf p i = some { e with result := result, final := true } := by
  unfold endEntry
  rw [he]
  dsimp only
  rw [hfinal, if_neg Bool.false_ne_true]
  have hmod : (modEntry s p i fun _ => { e with result := result, final := true }).entryOf p i = some { e with result := result, final := true } := by
    rw [entryOf_modEntry, if_pos ⟨rfl, hp, rfl⟩, he]
    rfl
  split
  · exact hmod
  · exact hmod

theorem writeIncomplete_self {s : State} {p i : Nat} {e : Entry} (hp : p < 8) (he : s.entryOf p i = some e) (hfinal : e.final = false) (mask : Nat)
    (poisoned : Bool) :
    ∃ e', (writeIncomplete s p i mask poisoned).entryOf p i = some e' ∧ e'.final = true ∧ e'.result = 6 ∧
      e'.report = e.report ||| (rIncomplete ||| splitBit s p e ||| mask) := by
  unfold writeIncomplete
  rw [he]
  dsimp only
  rw [hfinal, if_neg Bool.false_ne_true]
  refine ⟨_, (entryOf_congr (State.players_bump ..) p i).trans (endEntry_self hp (report_self hp he hfinal) hfinal poisoned), rfl, rfl, rfl⟩

/-- The gate closed and the laser at zero. -/
def shutGate (s : State) (a : Nat) : State := s.modChan a fun c => { noteWritten c c.headT with writeGate := none, laser := 0 }

/-- What is written so far of the sector in hand goes to the medium. -/
def pieced (s : State) (a p i : Nat) (c : Channel) : State :=
  match (shutGate s a).entryOf p i with
  | some e => emitPieces (shutGate s a) p e (piecesBefore ((shutGate s a).playerOf p).header c.wedge c.headT (piecesOf (shutGate s a) p e))
  | none => shutGate s a

theorem cutWrite_writing {s : State} {a p i : Nat} (hplay : (s.actOf a).playing = some p) (hgate : (s.chanOf a).writeGate = some i) (mask : Nat)
    (poisoned : Bool) : cutWrite s a mask poisoned = writeIncomplete (pieced s a p i (s.chanOf a)) p i mask poisoned := by
  have hplay' : (s.modChan a fun c => { noteWritten c c.headT with writeGate := none, laser := 0 }).actOf a = s.actOf a := rfl
  unfold cutWrite
  dsimp only
  rw [hgate, hplay', hplay]
  rfl

theorem cutWrite_chan (s : State) {a : Nat} (ha : a < 4) (mask : Nat) (poisoned : Bool) :
    (cutWrite s a mask poisoned).chanOf a = { noteWritten (s.chanOf a) (s.chanOf a).headT with writeGate := none, laser := 0 } := by
  have hshut : (shutGate s a).chanOf a = _ := chanOf_modChan s _ ha
  unfold cutWrite
  dsimp only
  split
  · next i p _ _ =>
    refine (chanOf_congr ?_ a).trans hshut
    have hincomplete (t : State) : (writeIncomplete t p i mask poisoned).chan = t.chan :=
      within_iff.mp (@writeIncomplete_frame [.objs, .players, .mem, .free] t (touch_of rfl) (touch_of rfl) (touch_of rfl) (touch_of rfl) t p i mask poisoned
        (.refl _ t)) .chan (by decide)
    rw [hincomplete]
    split
    · exact within_iff.mp (@emitPieces_frame [.outs] _ (touch_of rfl) _ p _ _ (.refl _ _)) .chan (by decide)
    · rfl
  · exact hshut


/-- What has been written of entry e up to T count m of wedge w. -/
def heldPieces (s : State) (p : Nat) (e : Entry) (w m : Nat) : List (Nat × Nat × List (Bool × Nat)) :=
  piecesBefore (s.playerOf p).header w m (piecesOf s p e)

/-- The medium's record of it. -/
def heldOut (s : State) (p : Nat) (e : Entry) (w m : Nat) : Out :=
  .medium (playerAct p) (s.playerOf p).header.surface (s.playerOf p).header.track e.psector (heldPieces s p e w m)

theorem pieced_outs {s : State} {p i : Nat} {e : Entry} (he : s.entryOf p i = some e) (a : Nat) (c : Channel)
    (hany : (heldPieces s p e c.wedge c.headT).any (!·.2.2.isEmpty) = true) : heldOut s p e c.wedge c.headT ∈ (pieced s a p i c).outs := by
  have hsome : ¬(heldPieces s p e c.wedge c.headT).all (·.2.2.isEmpty) = true := by
    rw [List.any_eq_not_all_not] at hany
    simpa using hany
  have he' : (shutGate s a).entryOf p i = some e := he
  unfold pieced
  rw [he']
  have hemit : emitPieces (shutGate s a) p e (heldPieces s p e c.wedge c.headT) = (shutGate s a).emit (heldOut s p e c.wedge c.headT) := if_neg hsome
  have hpieces : piecesBefore ((shutGate s a).playerOf p).header c.wedge c.headT (piecesOf (shutGate s a) p e) = heldPieces s p e c.wedge c.headT := rfl
  dsimp only
  rw [hpieces, hemit]
  exact List.mem_cons_self ..

theorem pieced_players (s : State) (a p i : Nat) (c : Channel) : (pieced s a p i c).players = s.players := by
  unfold pieced
  split
  · exact within_iff.mp (@emitPieces_frame [.outs] (shutGate s a) (touch_of rfl) (shutGate s a) p _ _ (.refl _ _)) .players (by decide)
  · rfl

theorem cutWrite_self {s : State} {a p i : Nat} {e : Entry} (hp : p < 8) (hplay : (s.actOf a).playing = some p)
    (hgate : (s.chanOf a).writeGate = some i) (he : s.entryOf p i = some e) (hfinal : e.final = false) (mask : Nat) (poisoned : Bool) :
    (∃ e', (cutWrite s a mask poisoned).entryOf p i = some e' ∧ e'.final = true ∧ e'.result = 6 ∧ HasBits e.report e'.report ∧
      HasBits (2 ^ 9 ||| mask) e'.report) ∧
    ((heldPieces s p e (s.chanOf a).wedge (s.chanOf a).headT).any (!·.2.2.isEmpty) = true →
      heldOut s p e (s.chanOf a).wedge (s.chanOf a).headT ∈ (cutWrite s a mask poisoned).outs) := by
  rw [cutWrite_writing hplay hgate]
  have he' : (pieced s a p i (s.chanOf a)).entryOf p i = some e := (entryOf_congr (pieced_players ..) p i).trans he
  obtain ⟨e', hentry, hended, hresult, hreport⟩ := writeIncomplete_self hp he' hfinal mask poisoned
  refine ⟨⟨e', hentry, hended, hresult, ?_, ?_⟩, fun hany => ?_⟩
  · rw [hreport]
    exact (HasBits.refl _).or_left _
  · rw [hreport]
    exact (((HasBits.refl rIncomplete).or_left _).or_left _ |>.add ((HasBits.refl mask).or_right _)).or_right _
  · have houts : (writeIncomplete (pieced s a p i (s.chanOf a)) p i mask poisoned).outs = (pieced s a p i (s.chanOf a)).outs :=
      within_iff.mp (@writeIncomplete_frame [.objs, .players, .mem, .free] _ (touch_of rfl) (touch_of rfl) (touch_of rfl) (touch_of rfl) _ p i mask poisoned
        (.refl _ _)) .outs (by decide)
    rw [houts]
    exact pieced_outs he a _ hany

/-! ### The write fault -/

/-- The raised events only grow. -/
def RaisesMore (s t : State) : Prop := ∃ l, t.raised = s.raised ++ l

theorem RaisesMore.of_eq {s t : State} (h : t.raised = s.raised) : RaisesMore s t := ⟨[], by rw [h, List.append_nil]⟩

theorem RaisesMore.trans {s t u : State} (h : RaisesMore s t) (h' : RaisesMore t u) : RaisesMore s u := by
  obtain ⟨l, hl⟩ := h
  obtain ⟨l', hl'⟩ := h'
  exact ⟨l ++ l', by rw [hl', hl, List.append_assoc]⟩

/-- An event posted to an event FIFO: what it leaves. -/
structure FrontPosted (a : Nat) (s t : State) : Prop where
  noted : Noted s t
  chan : ∃ ev lost, t.chanOf a = { s.chanOf a with events := ev, eventLost := lost }
  objs : t.objs = s.objs
  acts : t.acts = s.acts
  mem : t.mem = s.mem
  raises : RaisesMore s t

theorem postFront_posted (s : State) {a : Nat} (ha : a < 4) (e : FrontEvent) : FrontPosted a s (postFront s a e) := by
  have hparts : Within [.chan, .players, .raised] s (postFront s a e) :=
    @postFront_frame [.chan, .players, .raised] s (touch_of rfl) (touch_of rfl) (touch_of rfl) s a e (.refl _ s)
  have hposted : Noted s (postFront s a e) ∧ (∃ ev lost, (postFront s a e).chanOf a = { s.chanOf a with events := ev, eventLost := lost }) ∧
      RaisesMore s (postFront s a e) := by
    unfold postFront
    split
    · exact ⟨.of_players rfl, ⟨_, _, rfl⟩, .of_eq rfl⟩
    · split
      · exact ⟨.of_players rfl, ⟨_, _, chanOf_modChan s _ ha⟩, .of_eq rfl⟩
      · extract_lets first u v
        have hnoted : Noted s v := (Noted.of_players (s := s) (t := u) rfl).trans (reportGated_noted u a rEventLost)
        have hgated : Within [.players] u v := @reportGated_frame [.players] u (touch_of rfl) u a rEventLost (.refl _ u)
        have hchan : v.chanOf a = { s.chanOf a with eventLost := true } :=
          (chanOf_congr (within_iff.mp hgated .chan (by decide)) a).trans (chanOf_modChan s _ ha)
        have hraised : v.raised = s.raised := within_iff.mp hgated .raised (by decide)
        split
        · exact ⟨hnoted.trans (.of_players rfl), ⟨_, _, hchan⟩, _, congrArg (· ++ [_]) hraised⟩
        · exact ⟨hnoted, ⟨_, _, hchan⟩, .of_eq hraised⟩
  obtain ⟨hnoted, hchan, hraises⟩ := hposted
  exact ⟨hnoted, hchan, within_iff.mp hparts .objs (by decide), within_iff.mp hparts .acts (by decide), within_iff.mp hparts .mem (by decide), hraises⟩


theorem postEvent_posted (s : State) {a : Nat} (ha : a < 4) (code : Nat) : FrontPosted a s (postEvent s a code) := postFront_posted s ha _

/-- What a lock of the sentence leaves: entries but for report bits, what is read for the medium, and the channel but for its lock and its event FIFO. -/
structure Locked (a : Nat) (s t : State) : Prop where
  noted : Noted s t
  chan : ∃ ev lost l at', t.chanOf a = { s.chanOf a with events := ev, eventLost := lost, locked := l, lockAt := at' }
  acts : t.acts = s.acts
  mem : t.mem = s.mem
  raises : RaisesMore s t
  num : ∀ k, k ≠ Obj.writeUnsafeCount a → t.num k = s.num k
  lock : sentencePlays s a = true → (t.chanOf a).locked = true ∧
    ((s.chanOf a).locked = false → Counted (Obj.writeUnsafeCount a) s t ∧ (t.chanOf a).lockAt = some ((s.chanOf a).wedge, (s.chanOf a).headT))

theorem lockSentence_locked (s : State) {a : Nat} (ha : a < 4) : Locked a s (lockSentence s a) := by
  unfold lockSentence
  split
  · next h =>
    let u := s.modChan a fun c => { c with locked := true, lockAt := some (c.wedge, c.headT) }
    let v := u.bump (Obj.writeUnsafeCount a)
    have hchan : v.chanOf a = { s.chanOf a with locked := true, lockAt := some ((s.chanOf a).wedge, (s.chanOf a).headT) } :=
      (chanOf_congr (State.chan_bump ..) a).trans (chanOf_modChan s _ ha)
    have hposted := postEvent_posted v ha evUnsafe
    obtain ⟨ev, lost, hpost⟩ := hposted.chan
    have hnum (k : Key) : (postEvent v a evUnsafe).num k = v.num k := State.num_congr hposted.objs k
    have hplayers : v.players = s.players := State.players_bump u _
    have hraised : v.raised = s.raised := State.raised_bump u _
    rw [hchan] at hpost
    refine ⟨(Noted.of_players hplayers).trans hposted.noted, ⟨ev, lost, _, _, hpost⟩, hposted.acts.trans (State.acts_bump ..),
      hposted.mem.trans (State.mem_bump ..), (RaisesMore.of_eq hraised).trans hposted.raises,
      fun k hk => (hnum k).trans (State.num_bump_other _ hk), fun _ => ⟨congrArg Channel.locked hpost, fun _ => ⟨fun hroom => ?_, congrArg Channel.lockAt hpost⟩⟩⟩
    exact (hnum _).trans (counted_bump (Obj.writeUnsafeCount a) u hroom)
  · next h =>
    refine ⟨.of_players rfl, ⟨_, _, _, _, rfl⟩, rfl, rfl, .of_eq rfl, fun _ _ => rfl, fun hplays => ?_⟩
    have hlocked : (s.chanOf a).locked = true := by simpa [hplays] using h
    exact ⟨hlocked, fun hfree => absurd (hfree.symm.trans hlocked) (by decide)⟩

/-- The state in which the source of the write fault stands, before the sentence is locked out. -/
def wuSet (s : State) (a : Nat) (src : WuSource) : State :=
  let s := if (s.chanOf a).wu = 0 then s.modTrace a fun t => { t with seen := setBit t.seen 3 } else s
  s.modChan a fun c => { c with wu := setBit c.wu (wuBit src) }

/-- The state in which the gate is closed. -/
def wuLocked (s : State) (a : Nat) (src : WuSource) : State := lockSentence (wuSet s a src) a

theorem assertWu_eq (s : State) (a : Nat) (src : WuSource) :
    assertWu s a src = if ((wuLocked s a src).chanOf a).writeGate.isSome then cutWrite (wuLocked s a src) a rUnsafe
      else (wuLocked s a src).modChan a fun c => { c with laser := 0 } := by
  unfold assertWu wuLocked wuSet
  with_reducible rfl

theorem wuSet_chan (s : State) {a : Nat} (ha : a < 4) (src : WuSource) : (wuSet s a src).chanOf a = { s.chanOf a with wu := setBit (s.chanOf a).wu (wuBit src) } := by
  unfold wuSet
  dsimp only
  split
  · exact chanOf_modChan _ _ ha
  · exact chanOf_modChan _ _ ha

theorem wuSet_parts (s : State) (a : Nat) (src : WuSource) : Within [.chan, .traces] s (wuSet s a src) := by
  unfold wuSet
  dsimp only
  split
  · exact @State.modChan_frame [.chan, .traces] s (touch_of rfl) _ a _ (@State.modTrace_frame [.chan, .traces] s (touch_of rfl) s a _ (.refl _ s))
  · exact @State.modChan_frame [.chan, .traces] s (touch_of rfl) s a _ (.refl _ s)


theorem wuSet_same (s : State) (a : Nat) (src : WuSource) :
    (wuSet s a src).players = s.players ∧ (wuSet s a src).acts = s.acts ∧ (wuSet s a src).mem = s.mem ∧ (wuSet s a src).objs = s.objs ∧
    (wuSet s a src).raised = s.raised := by
  have h := within_iff.mp (wuSet_parts s a src)
  exact ⟨h .players (by decide), h .acts (by decide), h .mem (by decide), h .objs (by decide), h .raised (by decide)⟩

theorem wuLocked_locked (s : State) {a : Nat} (ha : a < 4) (src : WuSource) : Locked a (wuSet s a src) (wuLocked s a src) :=
  lockSentence_locked _ ha

/-- The channel when the gate is about to close. -/
theorem wuLocked_chan (s : State) {a : Nat} (ha : a < 4) (src : WuSource) : ∃ ev lost l at', (wuLocked s a src).chanOf a =
    { s.chanOf a with wu := setBit (s.chanOf a).wu (wuBit src), events := ev, eventLost := lost, locked := l, lockAt := at' } := by
  obtain ⟨ev, lost, l, at', h⟩ := (wuLocked_locked s ha src).chan
  rw [wuSet_chan s ha] at h
  exact ⟨ev, lost, l, at', h⟩

theorem assertWu_chan (s : State) {a : Nat} (ha : a < 4) (src : WuSource) :
    ∃ duty from', (assertWu s a src).chanOf a =
      { (wuLocked s a src).chanOf a with duty := duty, writeFrom := from', writeGate := none, laser := 0 } := by
  rw [assertWu_eq]
  split
  · rw [cutWrite_chan _ ha]
    unfold noteWritten
    split
    · exact ⟨_, _, rfl⟩
    · exact ⟨_, _, rfl⟩
  · next h =>
    rw [chanOf_modChan _ _ ha]
    refine ⟨((wuLocked s a src).chanOf a).duty, ((wuLocked s a src).chanOf a).writeFrom, ?_⟩
    rw [Option.not_isSome_iff_eq_none] at h
    rw [← h]

theorem sentencePlays_congr {s t : State} (hacts : t.acts = s.acts) (hplayers : t.players = s.players) (a : Nat) : sentencePlays t a = sentencePlays s a := by
  unfold sentencePlays
  rw [actOf_congr hacts]
  split
  · rw [playerOf_congr hplayers]
  · rfl

/-- The close of the gate counts no lock. -/
theorem closing_num {k : Key} (hk : k % 0x10000 ≠ 0x5004) (s : State) (a : Nat) (src : WuSource) : (assertWu s a src).num k = (wuLocked s a src).num k := by
  rw [assertWu_eq]
  split
  · exact At.num_eq (@cutWrite_at k _ ⟨fun u e => hk (by subst e; unfold Obj.incompleteCount Key; omega)⟩ _ a rUnsafe false (At.self _))
  · rfl

theorem assertWu_raises (s : State) {a : Nat} (ha : a < 4) (src : WuSource) : RaisesMore s (assertWu s a src) := by
  obtain ⟨-, -, -, -, hraised⟩ := wuSet_same s a src
  refine (RaisesMore.of_eq hraised).trans ((wuLocked_locked s ha src).raises.trans (.of_eq ?_))
  rw [assertWu_eq]
  split
  · exact within_iff.mp (@cutWrite_frame [.objs, .chan, .players, .mem, .outs, .free] _ (touch_of rfl) (touch_of rfl) (touch_of rfl) (touch_of rfl)
      (touch_of rfl) (touch_of rfl) _ a rUnsafe false (.refl _ _)) .raised (by decide)
  · rfl

/-- The gate's side of the write fault, and the lock of the sentence that plays. -/
theorem assertWu_effect (s : State) {a : Nat} (ha : a < 4) (src : WuSource) :
    ((assertWu s a src).chanOf a).wu = setBit (s.chanOf a).wu (wuBit src) ∧ ((assertWu s a src).chanOf a).writeGate = none ∧
    ((assertWu s a src).chanOf a).laser = 0 ∧ ((assertWu s a src).chanOf a).synthLocked = (s.chanOf a).synthLocked ∧
    ((assertWu s a src).chanOf a).faultLow = (s.chanOf a).faultLow ∧
    (sentencePlays s a = true → ((assertWu s a src).chanOf a).locked = true ∧
      ((s.chanOf a).locked = false → Counted (Obj.writeUnsafeCount a) s (assertWu s a src) ∧
        ((assertWu s a src).chanOf a).lockAt = some ((s.chanOf a).wedge, (s.chanOf a).headT))) := by
  obtain ⟨hplayers, hacts, -, hobjs, -⟩ := wuSet_same s a src
  obtain ⟨duty, from', hchan⟩ := assertWu_chan s ha src
  obtain ⟨ev, lost, l, at', hlocked⟩ := wuLocked_chan s ha src
  have hset := wuSet_chan s ha src
  refine ⟨?_, ?_, ?_, ?_, ?_, fun hplays => ?_⟩
  · rw [hchan, hlocked]
  · rw [hchan]
  · rw [hchan]
  · rw [hchan, hlocked]
  · rw [hchan, hlocked]
  · obtain ⟨hlock, hfirst⟩ := (wuLocked_locked s ha src).lock ((sentencePlays_congr hacts hplayers a).trans hplays)
    rw [hset] at hfirst
    rw [hchan]
    refine ⟨hlock, fun hfree => ?_⟩
    obtain ⟨hcount, hat⟩ := hfirst hfree
    refine ⟨fun hroom => ?_, hat⟩
    rw [closing_num (by unfold Obj.writeUnsafeCount Key; omega)]
    have hcount' := hcount
    unfold Counted at hcount'
    rw [State.num_congr hobjs] at hcount'
    exact hcount' hroom

/-- What the medium takes depends on the header, the pre-compensation, the payload and the entry, but not on the entry's report. -/
theorem heldOut_congr {s t : State} {p : Nat} (hheader : (t.playerOf p).header = (s.playerOf p).header) (hmem : t.mem = s.mem)
    (hnum : ∀ a h, h < 12 → t.num (Obj.precomp a h) = s.num (Obj.precomp a h)) (e : Entry) (r w m : Nat) :
    heldPieces t p { e with report := r } w m = heldPieces s p e w m ∧ heldOut t p { e with report := r } w m = heldOut s p e w m := by
  have hpieces : heldPieces t p { e with report := r } w m = heldPieces s p e w m := by
    unfold heldPieces piecesOf
    dsimp only
    rw [hheader, hmem, hnum _ _ (Nat.mod_lt _ (by decide))]
    rfl
  refine ⟨hpieces, ?_⟩
  unfold heldOut
  rw [hpieces, hheader]

/-- The sector being written ends INCOMPLETE, with its bits over those that it had, and the medium holds what was written of it. -/
theorem assertWu_writing {s : State} {a p i : Nat} {e : Entry} (ha : a < 4) (hp : p < 8) (hplay : (s.actOf a).playing = some p)
    (hgate : (s.chanOf a).writeGate = some i) (he : s.entryOf p i = some e) (hfinal : e.final = false) (src : WuSource) :
    (∃ e', (assertWu s a src).entryOf p i = some e' ∧ e'.final = true ∧ e'.result = 6 ∧ HasBits e.report e'.report ∧
      HasBits (2 ^ 9 ||| 2 ^ 8) e'.report) ∧
    ((heldPieces s p e (s.chanOf a).wedge (s.chanOf a).headT).any (!·.2.2.isEmpty) = true →
      heldOut s p e (s.chanOf a).wedge (s.chanOf a).headT ∈ (assertWu s a src).outs) := by
  obtain ⟨hplayers, hacts, hmem, hobjs, -⟩ := wuSet_same s a src
  obtain ⟨hnoted, -, hacts', hmem', -, hnum', -⟩ := wuLocked_locked s ha src
  obtain ⟨ev, lost, l, at', hchan⟩ := wuLocked_chan s ha src
  obtain ⟨r, hentry⟩ := hnoted.entry p i e ((entryOf_congr hplayers p i).trans he)
  have hgate' : ((wuLocked s a src).chanOf a).writeGate = some i := by rw [hchan]; exact hgate
  have hwedge : ((wuLocked s a src).chanOf a).wedge = (s.chanOf a).wedge ∧ ((wuLocked s a src).chanOf a).headT = (s.chanOf a).headT := by
    rw [hchan]
    exact ⟨rfl, rfl⟩
  have hplay' : ((wuLocked s a src).actOf a).playing = some p := by rw [actOf_congr (hacts'.trans hacts)]; exact hplay
  have hheader : ((wuLocked s a src).playerOf p).header = (s.playerOf p).header := by rw [hnoted.header, playerOf_congr hplayers]
  have hnum (b h : Nat) (hh : h < 12) : (wuLocked s a src).num (Obj.precomp b h) = s.num (Obj.precomp b h) :=
    (hnum' _ (by unfold Obj.precomp Obj.writeUnsafeCount Key; omega)).trans (State.num_congr hobjs _)
  obtain ⟨⟨e', hended, hfin, hres, hold, hbits⟩, hout⟩ := cutWrite_self hp hplay' hgate' hentry hfinal rUnsafe false
  obtain ⟨hpieces, hheld⟩ := heldOut_congr hheader (hmem'.trans hmem) hnum e (e.report ||| r) (s.chanOf a).wedge (s.chanOf a).headT
  rw [hwedge.1, hwedge.2, hpieces, hheld] at hout
  rw [assertWu_eq, hgate', Option.isSome_some, if_pos rfl]
  exact ⟨⟨e', hended, hfin, hres, ((HasBits.refl _).or_left r).trans hold, hbits⟩, hout⟩


/-! ### What the obligation says of a source -/

/-- The clause of O21 for a source of bit k, with the report bits that it adds, up to T count m. -/
def UnsafeBy (s : State) (a p : Nat) (i k bits m : Nat) (t : State) : Prop :=
  (t.chanOf a).wu.testBit k = true ∧ (t.chanOf a).writeGate = none ∧ (t.chanOf a).laser = 0 ∧
  (sentencePlays s a = true → (t.chanOf a).locked = true ∧ ((s.chanOf a).locked = false → Counted (Obj.writeUnsafeCount a) s t)) ∧
  (p / 2 = a → Writing s a p i → EntryEnded t p i 6 (2 ^ 9 + 2 ^ 8 + bits) ∧
    ∀ e, s.entryOf p i = some e → (heldPieces s p e (s.chanOf a).wedge m).any (!·.2.2.isEmpty) = true →
      .medium a (s.playerOf p).header.surface (s.playerOf p).header.track e.psector (heldPieces s p e (s.chanOf a).wedge m) ∈ t.outs)

/-- How the state before a source differs from the one that the source is asserted in: T count m stands, and reports may have bits more. -/
structure Before (a m : Nat) (s u : State) : Prop where
  noted : Noted s u
  objs : u.objs = s.objs
  acts : u.acts = s.acts
  mem : u.mem = s.mem
  gate : (u.chanOf a).writeGate = (s.chanOf a).writeGate
  locked : (u.chanOf a).locked = (s.chanOf a).locked
  wedge : (u.chanOf a).wedge = (s.chanOf a).wedge
  headT : (u.chanOf a).headT = m

/-- What may follow a source. -/
structure After (a : Nat) (t v : State) : Prop where
  chan : (v.chanOf a).wu = (t.chanOf a).wu ∧ (v.chanOf a).writeGate = (t.chanOf a).writeGate ∧ (v.chanOf a).laser = (t.chanOf a).laser ∧
    (v.chanOf a).locked = (t.chanOf a).locked
  count : v.num (Obj.writeUnsafeCount a) = t.num (Obj.writeUnsafeCount a)
  players : v.players = t.players
  outs : ∀ o, o ∈ t.outs → o ∈ v.outs

theorem unsafeBy_of_assertWu {s u v : State} {a m : Nat} (ha : a < 4) (src : WuSource) (hbefore : Before a m s u) (hafter : After a (assertWu u a src) v)
    {p i bits : Nat} (hp : p < 8) (hbits : ∀ e, Writing s a p i → s.entryOf p i = some e → ∃ e', u.entryOf p i = some e' ∧ HasBits bits e'.report)
    (hmask : 2 ^ 9 + 2 ^ 8 + bits = (2 ^ 9 ||| 2 ^ 8) ||| bits) : UnsafeBy s a p i (wuBit src) bits m v := by
  obtain ⟨hnoted, hobjs, hacts, hmem, hgate, hlocked, hwedge, hheadT⟩ := hbefore
  obtain ⟨⟨hwu', hgate', hlaser', hlocked'⟩, hcount', hplayers', houts'⟩ := hafter
  obtain ⟨hwu, hclosed, hlaser, -, -, hlock⟩ := assertWu_effect u ha src
  refine ⟨?_, hgate'.trans hclosed, hlaser'.trans hlaser, fun hplays => ?_, fun hown hwriting => ?_⟩
  · rw [hwu', hwu]
    exact testBit_setBit ..
  · have hplays' : sentencePlays u a = true := by
      rw [← hplays]
      unfold sentencePlays
      rw [actOf_congr hacts]
      split
      · exact hnoted.playing _
      · rfl
    obtain ⟨hlock, hfirst⟩ := hlock hplays'
    refine ⟨hlocked'.trans hlock, fun hfree hroom => ?_⟩
    have hnum : u.num (Obj.writeUnsafeCount a) = s.num (Obj.writeUnsafeCount a) := State.num_congr hobjs _
    have hcount := (hfirst (hlocked.trans hfree)).1
    unfold Counted at hcount
    rw [hnum] at hcount
    exact hcount'.trans (hcount hroom)
  · obtain ⟨hplay, hwrite, hopen⟩ := id hwriting
    obtain ⟨e, he, hfinal⟩ := Option.map_eq_some_iff.mp hopen
    obtain ⟨r, hr⟩ := hnoted.entry p i e he
    obtain ⟨e1, he1, hb⟩ := hbits e hwriting he
    obtain rfl := Option.some.inj (hr.symm.trans he1)
    have hplay' : (u.actOf a).playing = some p := by rw [actOf_congr hacts]; exact hplay
    obtain ⟨⟨e', hended, hfin, hres, hold, hnew⟩, hout⟩ := assertWu_writing ha hp hplay' (hgate.trans hwrite) hr hfinal src
    have hnum (b h : Nat) (_ : h < 12) : u.num (Obj.precomp b h) = s.num (Obj.precomp b h) := State.num_congr hobjs _
    obtain ⟨hpieces, hheld⟩ := heldOut_congr (hnoted.header p) hmem hnum e (e.report ||| r) (s.chanOf a).wedge m
    rw [hwedge, hheadT, hpieces, hheld] at hout
    refine ⟨⟨e', ?_, hfin, hres, ?_⟩, fun f hf hany => ?_⟩
    · rw [entryOf_congr hplayers', hended]
    · rw [hmask]
      exact hnew.add (hb.trans hold)
    · obtain rfl := Option.some.inj (he.symm.trans hf)
      have hact : playerAct p = a := hown
      have hmem' := houts' _ (hout hany)
      unfold heldOut at hmem'
      rwa [hact] at hmem'


/-! ### One channel set -/

theorem modChan_eq_withChan (s : State) (a : Fin 4) (f : Channel → Channel) : s.modChan a f = withChan s a (f s.chan[a]) := by
  unfold State.modChan vmod withChan
  rw [dif_pos a.isLt]
  rfl

theorem withChan_withChan (s : State) (a : Fin 4) (f : Channel → Channel) (c : Channel) :
    withChan (withChan s a c) a (f (withChan s a c).chan[a]) = withChan s a (f c) := by
  have hget : (withChan s a c).chan[a] = c := Vector.getElem_set_self ..
  rw [hget]
  unfold withChan
  dsimp only
  rw [Vector.set_set]

theorem clearWu_modChan (s : State) (a : Fin 4) (f : Channel → Channel) (src : WuSource) :
    clearWu (s.modChan a f) a src = withChan s a { f s.chan[a] with wu := clrBit (f s.chan[a]).wu (wuBit src) } := by
  unfold clearWu
  rw [modChan_eq_withChan s a f, modChan_eq_withChan]
  exact withChan_withChan s a (fun c => { c with wu := clrBit c.wu (wuBit src) }) _

/-! ### The sources -/

theorem After.refl (a : Nat) (t : State) : After a t t := ⟨⟨rfl, rfl, rfl, rfl⟩, rfl, rfl, fun _ h => h⟩

/-- A channel update that a source begins with. -/
theorem before_modChan (s : State) {a : Nat} (ha : a < 4) (f : Channel → Channel)
    (hf : ∀ c, (f c).writeGate = c.writeGate ∧ (f c).locked = c.locked ∧ (f c).wedge = c.wedge) :
    Before a ((f (s.chanOf a)).headT) s (s.modChan a f) := by
  have hchan := chanOf_modChan s f ha
  exact ⟨.of_players rfl, rfl, rfl, rfl, by rw [hchan]; exact (hf _).1, by rw [hchan]; exact (hf _).2.1, by rw [hchan]; exact (hf _).2.2, by rw [hchan]⟩

theorem reportGated_parts (s : State) (a mask : Nat) : Within [.players] s (reportGated s a mask) :=
  @reportGated_frame [.players] s (touch_of rfl) s a mask (.refl _ s)

theorem Before.reportGated {s u : State} {a m : Nat} (h : Before a m s u) (mask : Nat) : Before a m s (reportGated u a mask) := by
  have hparts := within_iff.mp (reportGated_parts u a mask)
  have hchan : (Machine.reportGated u a mask).chanOf a = u.chanOf a := chanOf_congr (hparts .chan (by decide)) a
  exact ⟨h.noted.trans (reportGated_noted u a mask), (hparts .objs (by decide)).trans h.objs, (hparts .acts (by decide)).trans h.acts,
    (hparts .mem (by decide)).trans h.mem, by rw [hchan]; exact h.gate, by rw [hchan]; exact h.locked, by rw [hchan]; exact h.wedge,
    by rw [hchan]; exact h.headT⟩

/-- The sector being written has the gated entries' bits. -/
theorem reportGated_bits {s u : State} {a m : Nat} (h : Before a m s u) (mask : Nat) {p i : Nat} (hp : p < 8) {e : Entry} (hwriting : Writing s a p i)
    (he : s.entryOf p i = some e) : ∃ e', (reportGated u a mask).entryOf p i = some e' ∧ HasBits mask e'.report := by
  obtain ⟨hplay, hwrite, hopen⟩ := hwriting
  have hfinal : e.final = false := by rw [he] at hopen; exact Option.some.inj hopen
  obtain ⟨r, hr⟩ := h.noted.entry p i e he
  obtain ⟨x, hx⟩ := reportGated_self (mask := mask) hp (by rw [actOf_congr h.acts]; exact hplay) (h.gate.trans hwrite) hr hfinal
  exact ⟨_, hx, ((HasBits.refl mask).or_right _).or_left _⟩

theorem writeUnsafe_effect (s : State) (a : Fin 4) {p : Nat} (hp : p < 8) (i tt : Nat) (src : WuSource) :
    Completes (.writeUnsafe a src tt) s fun t => UnsafeBy s a p i (wuBit src) 0 tt t ∧
      (sentencePlays s a = true → (s.chanOf a).locked = false → (t.chanOf a).lockAt = some ((s.chanOf a).wedge, tt)) := by
  let u := s.modChan a fun c => { c with headT := tt }
  have hbefore : Before a tt s u := before_modChan s a.isLt (fun c => { c with headT := tt }) fun _ => ⟨rfl, rfl, rfl⟩
  refine ⟨assertWu u a src, rfl, unsafeBy_of_assertWu a.isLt src hbefore (.refl _ _) hp (fun e _ he => ⟨e, he, Nat.and_zero _⟩) (by decide), fun hplays hfree => ?_⟩
  obtain ⟨-, -, -, -, -, hlock⟩ := assertWu_effect u a.isLt src
  obtain ⟨-, hat⟩ := (hlock hplays).2 (hbefore.locked.trans hfree)
  rw [hat, hbefore.wedge, hbefore.headT]

theorem writeFifoEmpty_effect {s : State} {a : Fin 4} (hopen : (s.chanOf a).writeGate ≠ none) {p : Nat} (hp : p < 8) (i : Nat) :
    Completes (.writeFifoEmpty a) s fun t =>
      (t.chanOf a).writeFifo = 0 ∧ (t.chanOf a).writeGate = none ∧ (t.chanOf a).laser = 0 ∧
      (p / 2 = a → Writing s a p i → EntryEnded t p i 6 (2 ^ 9)) := by
  let u := s.modChan a fun c => { c with writeFifo := 0 }
  have hchan : u.chanOf a = { s.chanOf a with writeFifo := 0 } := chanOf_modChan s _ a.isLt
  have hgate : (u.chanOf a).writeGate = (s.chanOf a).writeGate := by rw [hchan]
  have hexec : exec (.writeFifoEmpty a) s = .next (cutWrite u a 0) :=
    congrArg _ (if_pos (by rw [hgate]; exact Option.isSome_iff_ne_none.mpr hopen))
  have hcut := cutWrite_chan u a.isLt 0 false
  refine ⟨_, hexec, ?_, ?_, ?_, fun _ ⟨hplay, hwrite, hfin⟩ => ?_⟩
  · rw [hcut]
    unfold noteWritten
    split <;> rw [hchan]
  · rw [hcut]
  · rw [hcut]
  · obtain ⟨e, he, hfinal⟩ := Option.map_eq_some_iff.mp hfin
    obtain ⟨⟨e', hended, hfin, hres, -, hbits⟩, -⟩ := cutWrite_self (s := u) hp hplay (hgate.trans hwrite) he hfinal 0 false
    exact ⟨e', hended, hfin, hres, hbits⟩


/-- The synthesiser unlocked, with the report of the gated entries. -/
def unlockReported (s : State) (a : Nat) : State := reportGated (s.modChan a fun c => { c with synthLocked := false }) a rSynth

theorem exec_synthUnlock {s : State} {a : Fin 4} (h : (s.chanOf a).readGate = true ∨ gatedEntries s a ≠ []) :
    exec (.synthUnlock a) s = .next (unlockSeen (unlockReported s a) a) := by
  have hgated : gatedEntries (s.modChan a fun c => { c with synthLocked := false }) a = gatedEntries s a := by
    have hchan : (s.modChan a fun c => { c with synthLocked := false }).chanOf a = { s.chanOf a with synthLocked := false } := chanOf_modChan s _ a.isLt
    unfold gatedEntries
    rw [hchan]
    rfl
  have hread : ((s.modChan a fun c => { c with synthLocked := false }).chanOf a).readGate = (s.chanOf a).readGate := by
    rw [chanOf_modChan s _ a.isLt]
  show execSynthUnlock a s = _
  unfold execSynthUnlock
  dsimp only
  rw [hread, if_neg]
  · rfl
  · rw [Bool.and_eq_true, List.isEmpty_iff, Bool.not_eq_true']
    rintro ⟨hnone, hclosed⟩
    exact h.elim (fun h => absurd (h.symm.trans hclosed) (by decide)) fun h => h hnone

theorem synthUnlock_idle {s : State} {a : Fin 4} (hread : (s.chanOf a).readGate = false) (hnone : gatedEntries s a = []) :
    exec (.synthUnlock a) s = .next (withChan s a { s.chan[a] with synthLocked := false }) := by
  have hchan : ((s.modChan a fun c => { c with synthLocked := false }).chanOf a).readGate = (s.chanOf a).readGate := by rw [chanOf_modChan s _ a.isLt]
  show execSynthUnlock a s = _
  unfold execSynthUnlock
  dsimp only
  rw [hchan, if_pos (by rw [hnone, hread]; rfl), modChan_eq_withChan]

theorem unlockReported_before (s : State) (a : Fin 4) : Before a (s.chanOf a).headT s (unlockReported s a) :=
  (before_modChan s a.isLt (fun c => { c with synthLocked := false }) fun _ => ⟨rfl, rfl, rfl⟩).reportGated rSynth

theorem unlockReported_chan (s : State) (a : Fin 4) : (unlockReported s a).chanOf a = { s.chanOf a with synthLocked := false } :=
  (chanOf_congr (within_iff.mp (reportGated_parts _ _ _) .chan (by decide)) a).trans (chanOf_modChan s _ a.isLt)

/-- An event of actuator a raised last. -/
theorem raisedSince_raiseAct {s t : State} (h : RaisesMore s t) (a k d : Nat) : RaisedSince s (t.raiseAct a k a d) (448 + 64 * a + k) a d := by
  obtain ⟨l, hl⟩ := h
  refine ⟨l ++ [{ source := 448 + 64 * a + k, unit := a, detail := d }], ?_, List.mem_append_right _ (List.mem_singleton_self _)⟩
  rw [State.raiseAct_raised, hl, List.append_assoc]

theorem synthUnlock_first {s : State} {a : Fin 4} (hgated : (s.chanOf a).readGate = true ∨ gatedEntries s a ≠ []) (hwu : (s.chanOf a).wu.testBit 3 = false)
    {p : Nat} (hp : p < 8) (i : Nat) :
    Completes (.synthUnlock a) s fun t =>
      (t.chanOf a).synthLocked = false ∧ UnsafeBy s a p i 3 (2 ^ 2) (s.chanOf a).headT t ∧ Counted (Obj.synthUnlockCount a) s t ∧
      RaisedSince s t (448 + 64 * a.val + 2) a 0 := by
  have hbefore := unlockReported_before s a
  have hchan := unlockReported_chan s a
  have hseen : unlockSeen (unlockReported s a) a =
      ((assertWu (unlockReported s a) a .synthUnlock).bump (Obj.synthUnlockCount a)).raiseAct a 2 a := by
    refine if_neg ?_
    rw [hchan]
    exact fun h => absurd (hwu.symm.trans h) (by decide)
  obtain ⟨-, -, -, hsynth, -, -⟩ := assertWu_effect (unlockReported s a) a.isLt .synthUnlock
  refine ⟨_, (exec_synthUnlock hgated).trans (congrArg _ hseen), ?_, ?_, fun hroom => ?_, ?_⟩
  · have hafter : (((assertWu (unlockReported s a) a .synthUnlock).bump (Obj.synthUnlockCount a)).raiseAct a 2 a).chanOf a =
        (assertWu (unlockReported s a) a .synthUnlock).chanOf a := chanOf_congr (State.chan_bump ..) a
    rw [hafter, hsynth, hchan]
  · refine unsafeBy_of_assertWu a.isLt .synthUnlock hbefore ?_ hp (fun e hwriting he => ?_) (by decide)
    · have hsame := chanOf_congr (State.chan_bump (s := assertWu (unlockReported s a) a .synthUnlock) (k := Obj.synthUnlockCount a)) a
      refine ⟨⟨congrArg Channel.wu hsame, congrArg Channel.writeGate hsame, congrArg Channel.laser hsame, congrArg Channel.locked hsame⟩,
        State.num_bump_other _ (by unfold Obj.writeUnsafeCount Obj.synthUnlockCount Key; omega), State.players_bump .., fun o ho => ?_⟩
      exact (State.outs_bump (s := assertWu (unlockReported s a) a .synthUnlock) (k := Obj.synthUnlockCount a)).symm ▸ ho
    · exact reportGated_bits (before_modChan s a.isLt (fun c => { c with synthLocked := false }) fun _ => ⟨rfl, rfl, rfl⟩) rSynth hp hwriting he
  · have hnum : (assertWu (unlockReported s a) a .synthUnlock).num (Obj.synthUnlockCount a) = s.num (Obj.synthUnlockCount a) := by
      rw [closing_num (by unfold Obj.synthUnlockCount Key; omega),
        (wuLocked_locked _ a.isLt _).num _ (by unfold Obj.writeUnsafeCount Obj.synthUnlockCount Key; omega), State.num_congr (wuSet_same _ a _).2.2.2.1,
        State.num_congr hbefore.objs]
    have hcount := counted_bump (Obj.synthUnlockCount a) (assertWu (unlockReported s a) a .synthUnlock)
    unfold Counted at hcount
    rw [hnum] at hcount
    exact hcount hroom
  · have hraises : RaisesMore s (unlockReported s a) := .of_eq (within_iff.mp (reportGated_parts _ _ _) .raised (by decide))
    exact raisedSince_raiseAct ((hraises.trans (assertWu_raises _ a.isLt .synthUnlock)).trans (.of_eq (State.raised_bump ..))) a 2 0

theorem synthUnlock_again {s : State} {a : Fin 4} (hgated : (s.chanOf a).readGate = true ∨ gatedEntries s a ≠ []) (hwu : (s.chanOf a).wu.testBit 3 = true) :
    Completes (.synthUnlock a) s fun t => (t.chanOf a).synthLocked = false ∧ t.objs = s.objs ∧ t.raised = s.raised := by
  have hchan := unlockReported_chan s a
  have hseen : unlockSeen (unlockReported s a) a = unlockReported s a := by
    refine if_pos ?_
    rw [hchan]
    exact hwu
  refine ⟨_, (exec_synthUnlock hgated).trans (congrArg _ hseen), by rw [hchan], (unlockReported_before s a).objs, ?_⟩
  exact within_iff.mp (reportGated_parts _ _ _) .raised (by decide)


/-- A frame queued for the preamp: it may leave at once. -/
theorem queueFrame_effect (s : State) {a : Nat} (ha : a < 4) (f : PreampFrame) :
    (∃ fr bus, (queueFrame s a f).chanOf a = { s.chanOf a with frames := fr, onBus := bus }) ∧ (queueFrame s a f).objs = s.objs ∧
    (queueFrame s a f).players = s.players ∧ (queueFrame s a f).raised = s.raised ∧ ∀ o, o ∈ s.outs → o ∈ (queueFrame s a f).outs := by
  have hparts : Within [.chan, .outs] s (queueFrame s a f) := @queueFrame_frame [.chan, .outs] s (touch_of rfl) (touch_of rfl) s a f (.refl _ s)
  have h := within_iff.mp hparts
  let u := s.modChan a fun c => { c with frames := c.frames ++ [f] }
  have hchan : u.chanOf a = { s.chanOf a with frames := (s.chanOf a).frames ++ [f] } := chanOf_modChan s _ ha
  have hsent : (∃ fr bus, (sendNext u a).chanOf a = { s.chanOf a with frames := fr, onBus := bus }) ∧ ∀ o, o ∈ s.outs → o ∈ (sendNext u a).outs := by
    unfold sendNext
    dsimp only
    split
    · exact ⟨⟨_, _, hchan⟩, fun o ho => ho⟩
    · split
      · exact ⟨⟨_, _, hchan⟩, fun o ho => ho⟩
      · next g _ =>
        have hleft := chanOf_modChan u (fun c => { c with onBus := some g, frames := c.frames.erase g }) ha
        rw [hchan] at hleft
        exact ⟨⟨((s.chanOf a).frames ++ [f]).erase g, some g, hleft⟩, fun o ho => List.mem_cons_of_mem _ ho⟩
  exact ⟨hsent.1, h .objs (by decide), h .players (by decide), h .raised (by decide), hsent.2⟩

theorem preampFaultAssert_effect (s : State) (a : Fin 4) {p : Nat} (hp : p < 8) (i : Nat) :
    Completes (.preampFaultAssert a) s fun t =>
      (t.chanOf a).faultLow = true ∧ UnsafeBy s a p i 2 (2 ^ 7) (s.chanOf a).headT t ∧ Counted (Obj.preampFaults a) s t ∧
      RaisedSince s t (448 + 64 * a.val + 1) a 0 := by
  let s1 := s.modChan a fun c => { c with faultLow := true }
  let u := reportGated s1 a rPreamp
  let w := assertWu u a .preampFault
  let x := if formatSelected w a then queueFrame w a (faultRead w a) else w
  have hbefore1 : Before a (s.chanOf a).headT s s1 := before_modChan s a.isLt (fun c => { c with faultLow := true }) fun _ => ⟨rfl, rfl, rfl⟩
  have hbefore : Before a (s.chanOf a).headT s u := hbefore1.reportGated rPreamp
  have hu : (u.chanOf a).faultLow = true := by
    rw [chanOf_congr (within_iff.mp (reportGated_parts _ _ _) .chan (by decide)) a, chanOf_modChan s _ a.isLt]
  have hx : (∃ fr bus, x.chanOf a = { w.chanOf a with frames := fr, onBus := bus }) ∧ x.objs = w.objs ∧ x.players = w.players ∧ x.raised = w.raised ∧
      ∀ o, o ∈ w.outs → o ∈ x.outs := by
    unfold x
    split
    · exact queueFrame_effect w a.isLt _
    · exact ⟨⟨_, _, rfl⟩, rfl, rfl, rfl, fun _ h => h⟩
  obtain ⟨⟨fr, bus, hchan⟩, hobjs, hplayers, hraised, houts⟩ := hx
  have hexec : exec (.preampFaultAssert a) s = .next ((x.bump (Obj.preampFaults a)).raiseAct a 1 a) := rfl
  have hend : ((x.bump (Obj.preampFaults a)).raiseAct a 1 a).chanOf a = x.chanOf a := chanOf_congr (State.chan_bump ..) a
  obtain ⟨-, -, -, -, hfault, -⟩ := assertWu_effect u a.isLt .preampFault
  refine ⟨_, hexec, ?_, ?_, fun hroom => ?_, ?_⟩
  · rw [hend, hchan]
    exact hfault.trans hu
  · refine unsafeBy_of_assertWu a.isLt .preampFault hbefore ?_ hp (fun e hwriting he => reportGated_bits hbefore1 rPreamp hp hwriting he) (by decide)
    refine ⟨by rw [hend, hchan]; exact ⟨rfl, rfl, rfl, rfl⟩, ?_, (State.players_bump ..).trans hplayers, fun o ho => ?_⟩
    · rw [State.num_raiseAct, State.num_bump_other _ (by unfold Obj.writeUnsafeCount Obj.preampFaults Key; omega)]
      exact State.num_congr hobjs _
    · exact (State.outs_bump x (Obj.preampFaults a)).symm ▸ houts o ho
  · have hnum : x.num (Obj.preampFaults a) = s.num (Obj.preampFaults a) := by
      rw [State.num_congr hobjs, closing_num (by unfold Obj.preampFaults Key; omega),
        (wuLocked_locked _ a.isLt _).num _ (by unfold Obj.writeUnsafeCount Obj.preampFaults Key; omega), State.num_congr (wuSet_same _ a _).2.2.2.1,
        State.num_congr hbefore.objs]
    have hcount := counted_bump (Obj.preampFaults a) x
    unfold Counted at hcount
    rw [hnum] at hcount
    exact hcount hroom
  · have hraises : RaisesMore s u := .of_eq (within_iff.mp (reportGated_parts s1 _ _) .raised (by decide))
    exact raisedSince_raiseAct ((hraises.trans (assertWu_raises _ a.isLt .preampFault)).trans
      ((RaisesMore.of_eq hraised).trans (.of_eq (State.raised_bump ..)))) a 1 0

/-! ### A poisoned payload -/

theorem exec_writePayloadPoisoned {s : State} {p : Fin 8} {i : Nat} {e : Entry} (he : s.entryOf p i = some e) (hwrite : e.isWrite = true)
    (hfinal : e.final = false) (hnext : i < (s.playerOf p).nextEntry) :
    exec (.writePayloadPoisoned p i) s =
      if (s.actOf (playerAct p)).playing = some p.val ∧ (s.chanOf (playerAct p)).writeGate = some i then
        .next ((cutWrite s (playerAct p) 0 true).raiseAct (playerAct p) 18 (playerAct p) 1)
      else .next ((writeIncomplete s p i 0 true).raiseAct (playerAct p) 18 (playerAct p) 1) := by
  show execWritePayloadPoisoned p i s = _
  unfold execWritePayloadPoisoned
  dsimp only
  rw [he]
  dsimp only
  rw [hwrite, hfinal, if_neg]
  simp only [Bool.not_true, Bool.or_self, Bool.false_or, decide_eq_true_eq]
  omega

theorem writePayloadPoisoned_effect {s : State} {a : Fin 4} {p : Fin 8} (hown : p.val / 2 = a) {i : Nat} {e : Entry} (he : s.entryOf p i = some e)
    (hwrite : e.isWrite = true) (hfinal : e.final = false) (hnext : i < (s.playerOf p).nextEntry) :
    Completes (.writePayloadPoisoned p i) s fun t =>
      EntryEnded t p i 6 (2 ^ 9) ∧ RaisedSince s t (448 + 64 * a.val + 18) a 1 ∧
      ((s.actOf a).playing = some p.val → (s.chanOf a).writeGate = some i → (t.chanOf a).writeGate = none ∧ (t.chanOf a).laser = 0) ∧
      ((s.chanOf a).writeGate ≠ some i → (t.chanOf a).writeGate = (s.chanOf a).writeGate) := by
  have hact : playerAct p = a := hown
  have hexec := exec_writePayloadPoisoned he hwrite hfinal hnext
  rw [hact] at hexec
  by_cases hopen : (s.actOf a).playing = some p.val ∧ (s.chanOf a).writeGate = some i
  · rw [if_pos hopen] at hexec
    obtain ⟨⟨e', hended, hfin, hres, -, hbits⟩, -⟩ := cutWrite_self p.isLt hopen.1 hopen.2 he hfinal 0 true
    have hraised : (cutWrite s a 0 true).raised = s.raised :=
      within_iff.mp (@cutWrite_frame [.objs, .chan, .players, .mem, .outs, .free] s (touch_of rfl) (touch_of rfl) (touch_of rfl) (touch_of rfl)
        (touch_of rfl) (touch_of rfl) s a 0 true (.refl _ s)) .raised (by decide)
    have hchan := cutWrite_chan s a.isLt 0 true
    refine ⟨_, hexec, ⟨e', hended, hfin, hres, hbits⟩, raisedSince_raiseAct (.of_eq hraised) a 18 1, fun _ _ => ⟨?_, ?_⟩, fun hno => absurd hopen.2 hno⟩
    · exact congrArg Channel.writeGate hchan
    · exact congrArg Channel.laser hchan
  · rw [if_neg hopen] at hexec
    have hparts := within_iff.mp (@writeIncomplete_frame [.objs, .players, .mem, .free] s (touch_of rfl) (touch_of rfl) (touch_of rfl) (touch_of rfl) s p i 0
      true (.refl _ s))
    obtain ⟨e', hended, hfin, hres, hreport⟩ := writeIncomplete_self p.isLt he hfinal 0 true
    refine ⟨_, hexec, ⟨e', hended, hfin, hres, ?_⟩, raisedSince_raiseAct (.of_eq (hparts .raised (by decide))) a 18 1, fun hplay hgate => absurd ⟨hplay, hgate⟩ hopen,
      fun _ => congrArg Channel.writeGate (chanOf_congr (hparts .chan (by decide)) a)⟩
    rw [hreport]
    exact (((HasBits.refl rIncomplete).or_left _).or_left _).or_right _

/-- Settles O21: `unsafeBy_of_assertWu` for each source, `cutWrite_self` for an empty FIFO and a poisoned payload. -/
theorem writeUnsafeClosesTheGate : Obligations.WriteUnsafeClosesTheGate := by
  unfold Obligations.WriteUnsafeClosesTheGate
  intro s a p i tt src
  exact ⟨writeUnsafe_effect s a p.isLt i tt src, fun hopen => writeFifoEmpty_effect hopen p.isLt i, congrArg _ (clearWu_modChan s a _ .synthUnlock),
    fun hgated => ⟨fun hwu => synthUnlock_first hgated hwu p.isLt i, fun hwu => synthUnlock_again hgated hwu⟩, synthUnlock_idle,
    preampFaultAssert_effect s a p.isLt i, congrArg _ (clearWu_modChan s a _ .preampFault),
    fun hown e he hwrite hfinal hnext => writePayloadPoisoned_effect hown he hwrite hfinal hnext⟩

end Sys2Proof.Machine
end

section
/-!
PROOFS. The end of a capture and the frames of the preamp's serial bus (R157, R166, R167, R179–R182, R202).
-/

namespace Sys2Proof.Machine

/-! ### Samples -/

/-- The samples lie within 6 bits. -/
def SixBits (l : List Int) : Prop := ∀ y, y ∈ l → -32 ≤ y ∧ y ≤ 31

/-- Each entry comes from the entry of its number, and its samples lie within 6 bits if that one's do. -/
def KeepsSixBits (es es' : List Entry) : Prop :=
  ∀ (i : Nat) (e' : Entry), es'[i]? = some e' → ∃ e : Entry, es[i]? = some e ∧ (SixBits e.samples → SixBits e'.samples)

theorem KeepsSixBits.refl (es : List Entry) : KeepsSixBits es es := fun _ e he => ⟨e, he, id⟩

theorem KeepsSixBits.trans {es es' es'' : List Entry} (h : KeepsSixBits es es') (h' : KeepsSixBits es' es'') : KeepsSixBits es es'' := fun i e'' he => by
  obtain ⟨e', he', himp'⟩ := h' i e'' he
  obtain ⟨e, he, himp⟩ := h i e' he'
  exact ⟨e, he, himp' ∘ himp⟩

theorem KeepsSixBits.map {f : Entry → Entry} (hf : ∀ e, SixBits e.samples → SixBits (f e).samples) (es : List Entry) : KeepsSixBits es (es.map f) := fun i e' he => by
  rw [List.getElem?_map] at he
  obtain ⟨e, hfrom, rfl⟩ := Option.map_eq_some_iff.mp he
  exact ⟨e, hfrom, hf e⟩

theorem saturate6_sixBits (x : Int) : -32 ≤ saturate6 x ∧ saturate6 x ≤ 31 := by
  unfold saturate6
  omega

theorem keepSample_sixBits (x : SignalCtx) (frozen : Bool) {y : Int} (hy : -32 ≤ y ∧ y ≤ 31) (w t : Nat) (e : Entry) (h : SixBits e.samples) :
    SixBits (keepSample x frozen y w t e).samples := by
  unfold keepSample
  split
  · exact h
  · split
    · exact h
    · split
      · intro z hz
        simp only [List.append_assoc, List.mem_append, List.mem_replicate, List.mem_singleton] at hz
        rcases hz with hz | ⟨-, rfl⟩ | rfl
        · exact h z (List.mem_of_mem_take hz)
        · omega
        · exact hy
      · exact h

theorem stepT_sixBits (x : SignalCtx) (c : Channel) (es : List Entry) : KeepsSixBits es (stepT x c es).2 := by
  unfold stepT
  extract_lets w t relock off acq y d2 e2 frozen held c1 c2 es' next
  have hy : -32 ≤ y ∧ y ≤ 31 := by
    unfold y
    split
    · omega
    · exact saturate6_sixBits _
  show KeepsSixBits es es'
  unfold es'
  split
  · exact .refl es
  · exact .map (fun e => keepSample_sixBits x _ hy w t e) es

theorem stepRow_sixBits (x : SignalCtx) (z : Channel × List Entry) (r : AdcRow) : KeepsSixBits z.2 (stepRow x z r).2 := by
  have hcount (w t : Nat) : KeepsSixBits z.2 (z.2.map (countRow x.h w t r)) := by
    refine .map (fun e h => ?_) z.2
    unfold countRow
    split <;> exact h
  unfold stepRow
  dsimp only
  split
  · exact (hcount _ _).trans (stepT_sixBits x _ _)
  · exact hcount _ _

theorem foldl_stepRow_sixBits (x : SignalCtx) (adc : List AdcRow) (z : Channel × List Entry) : KeepsSixBits z.2 (adc.foldl (stepRow x) z).2 := by
  induction adc generalizing z with
  | nil => exact .refl _
  | cons r adc ih => exact (stepRow_sixBits x z r).trans (ih _)

/-- The state after the rows of samples. -/
def rowsTaken (s : State) (p : Nat) (adc : List AdcRow) : State :=
  if (s.actOf (p / 2)).playing = some p then streamSamples s (p / 2) adc else s

theorem rowsTaken_effect (s : State) {p : Nat} (hp : p < 8) (adc : List AdcRow) :
    Within [.chan, .players] s (rowsTaken s p adc) ∧ ((rowsTaken s p adc).playerOf p).header = (s.playerOf p).header ∧
    KeepsSixBits (s.playerOf p).entries ((rowsTaken s p adc).playerOf p).entries := by
  unfold rowsTaken
  split
  · next hplay =>
    refine ⟨@streamSamples_frame [.chan, .players] s (touch_of rfl) (touch_of rfl) s _ adc (.refl _ s), ?_⟩
    unfold streamSamples
    rw [hplay]
    dsimp only
    split
    · let z := adc.foldl (stepRow (signalCtx s (p / 2) p)) (s.chanOf (p / 2), (s.playerOf p).entries)
      have hplayer := playerOf_modPlayer (s.modChan (p / 2) fun _ => z.1) (fun pl => { pl with entries := z.2 }) hp
      rw [hplayer]
      exact ⟨rfl, foldl_stepRow_sixBits _ adc (s.chanOf (p / 2), (s.playerOf p).entries)⟩
    · exact ⟨rfl, .refl _⟩
  · exact ⟨.refl _ s, rfl, .refl _⟩


/-! ### The end of a capture -/

theorem dispatch_jobs (s : State) :
    (dispatch s).dec.jobs = s.dec.jobs ∧ (dispatch s).dec.nextId = s.dec.nextId ∧ (dispatch s).dec.ringSlots = s.dec.ringSlots := by
  unfold dispatch
  refine State.each_inv (P := fun t => t.dec.jobs = s.dec.jobs ∧ t.dec.nextId = s.dec.nextId ∧ t.dec.ringSlots = s.dec.ringSlots) ?_ fun t c _ ht => ?_
  · refine State.each_inv (P := fun t => t.dec.jobs = s.dec.jobs ∧ t.dec.nextId = s.dec.nextId ∧ t.dec.ringSlots = s.dec.ringSlots) ⟨rfl, rfl, rfl⟩ fun t d _ ht => ?_
    unfold startDetector
    dsimp only
    repeat' split
    all_goals exact ht
  · unfold startLdpc
    dsimp only
    repeat' split
    all_goals exact ht

/-- A job added to the pool waits there, whatever the cores take up. -/
theorem addJob_dec (s : State) (j : DecodeJob) :
    (addJob s j).dec.jobs = s.dec.jobs ++ [j] ∧ (addJob s j).dec.nextId = s.dec.nextId + 1 ∧ (addJob s j).dec.ringSlots = s.dec.ringSlots := by
  unfold addJob
  obtain ⟨hjobs, hnext, hslots⟩ := dispatch_jobs (s.setDec { s.dec with jobs := s.dec.jobs ++ [j], nextId := s.dec.nextId + 1 })
  rw [hjobs, hnext, hslots]
  exact ⟨rfl, rfl, rfl⟩

/-- Entry i of player p keeps its synchronisation marks and its capture is over. -/
def CaptureOver (e : Entry) (p i : Nat) (t : State) : Prop :=
  ∃ e', t.entryOf p i = some e' ∧ e'.capturing = false ∧ e'.sm1 = e.sm1 ∧ e'.sm2 = e.sm2

theorem CaptureOver.congr {e : Entry} {p i : Nat} {t u : State} (h : CaptureOver e p i t) (hplayers : u.players = t.players) : CaptureOver e p i u := by
  unfold CaptureOver
  rwa [entryOf_congr hplayers]

theorem CaptureOver.noted {e : Entry} {p i : Nat} {t u : State} (h : CaptureOver e p i t) (hnoted : Noted t u) : CaptureOver e p i u := by
  obtain ⟨e', he', hover, h1, h2⟩ := h
  obtain ⟨r, hr⟩ := hnoted.entry p i e' he'
  exact ⟨_, hr, hover, h1, h2⟩

theorem CaptureOver.modEntry {e : Entry} {p i : Nat} {t : State} (h : CaptureOver e p i t) (hp : p < 8) {f : Entry → Entry}
    (hf : ∀ x, (f x).capturing = x.capturing ∧ (f x).sm1 = x.sm1 ∧ (f x).sm2 = x.sm2) : CaptureOver e p i (modEntry t p i f) := by
  obtain ⟨e', he', hover, h1, h2⟩ := h
  refine ⟨f e', ?_, (hf e').1.trans hover, (hf e').2.1.trans h1, (hf e').2.2.trans h2⟩
  rw [entryOf_modEntry, if_pos ⟨rfl, hp, rfl⟩, he']
  rfl

theorem CaptureOver.endEntry {e : Entry} {p i : Nat} {t : State} (h : CaptureOver e p i t) (hp : p < 8) (result : Nat) :
    CaptureOver e p i (endEntry t p i result) := by
  obtain ⟨e', he', hover, h1, h2⟩ := h
  by_cases hfinal : e'.final = true
  · have hsame : Machine.endEntry t p i result = t := by
      unfold Machine.endEntry
      rw [he']
      exact if_pos hfinal
    rw [hsame]
    exact ⟨e', he', hover, h1, h2⟩
  · exact ⟨_, endEntry_self hp he' (Bool.not_eq_true _ ▸ hfinal) false, hover, h1, h2⟩

theorem modEntry_const {t : State} {p i : Nat} {e : Entry} (hp : p < 8) {x : Entry} (h : t.entryOf p i = some x) :
    (modEntry t p i fun _ => e).entryOf p i = some e := by
  rw [entryOf_modEntry, if_pos ⟨rfl, hp, rfl⟩, h]
  rfl

/-- A capture that has ended, before its samples are stored. -/
def captureClosed (s : State) (p i : Nat) (e : Entry) : State :=
  let a := playerAct p
  let h := (s.playerOf p).header
  let e := { e with capturing := false }
  let s := modEntry s p i fun _ => e
  let lanes := fld e.report 6 4
  let s := laneFaults s a lanes e
  let s := if (tapSet (presetOf s a h.eqPreset) lanes).all (· = 0) then s.raiseAct a 0 a else s
  let s := if (entriesWhere s p (·.capturing)).isEmpty then s.modChan a fun c => { c with readGate := false } else s
  s.modChan a fun c => { c with vga := (c.syncs, (c.gain / 65536).toNat) :: c.vga }

theorem endCapture_eq {s : State} {p i : Nat} {e : Entry} (he : s.entryOf p i = some e) :
    endCapture s p i = if e.noCapture then (if e.played then endEntry (captureClosed s p i e) p i resNotDecoded else captureClosed s p i e)
      else captureStored (captureClosed s p i e) p i { e with capturing := false } := by
  unfold endCapture
  rw [he]
  unfold captureClosed
  with_reducible rfl

theorem captureClosed_keeps (s : State) (p i : Nat) (e : Entry) :
    (captureClosed s p i e).players = (modEntry s p i fun _ => { e with capturing := false }).players ∧ (captureClosed s p i e).dec = s.dec := by
  unfold captureClosed
  extract_lets a h e' s1 lanes s2 s3 s4
  have h2 : Within [.objs, .raised, .free] s1 s2 := @laneFaults_frame [.objs, .raised, .free] s1 (touch_of rfl) (touch_of rfl) (touch_of rfl) s1 a lanes e' (.refl _ s1)
  have h3 : s3.players = s1.players ∧ s3.dec = s1.dec := by
    unfold s3
    split
    · exact ⟨within_iff.mp h2 .players (by decide), within_iff.mp h2 .dec (by decide)⟩
    · exact ⟨within_iff.mp h2 .players (by decide), within_iff.mp h2 .dec (by decide)⟩
  have h4 : s4.players = s1.players ∧ s4.dec = s1.dec := by
    unfold s4
    split
    · exact h3
    · exact h3
  exact h4


/-- The entry with what its capture found, in the report of the channel. -/
def foundEntry (h : Header) (e : Entry) : Entry :=
  { e with report := e.report ||| syncReport (syncOutcome e.sm1 e.sm2 (halfOf h)).1 (syncOutcome e.sm1 e.sm2 (halfOf h)).2 e.sm1 e.sm2 }

/-- A capture stored and its event posted, before its job. -/
def captureKept (s : State) (p i : Nat) (e : Entry) : State :=
  let a := playerAct p
  let h := (s.playerOf p).header
  let o := syncOutcome e.sm1 e.sm2 (halfOf h)
  let s := modEntry s p i fun _ => foundEntry h e
  let s := if o.1 = 3 then s.bump (Obj.timedCount a) else if o.1 = 4 then s.bump (Obj.sm1CorrectedCount a) else s
  postSector (storeRingSlot s p (foundEntry h e) (slotOfCapture h (foundEntry h e))) a evCapture i

theorem captureStored_eq (s : State) (p i : Nat) (e : Entry) :
    captureStored s p i e =
      let t := captureKept s p i e
      if e.final then t
      else if e.noPost then (if e.played then endEntry t p i resNotDecoded else t)
      else postJob (modEntry t p i fun e => { e with posted := true }) p i (foundEntry (s.playerOf p).header e) (s.playerOf p).header
        (syncOutcome e.sm1 e.sm2 (halfOf (s.playerOf p).header)).2 := by
  unfold captureStored captureKept foundEntry
  with_reducible rfl

theorem captureKept_keeps {s : State} {p i : Nat} (hp : p < 8) {e x : Entry} (he : s.entryOf p i = some x) (hover : e.capturing = false) :
    CaptureOver e p i (captureKept s p i e) ∧ (captureKept s p i e).dec = { s.dec with
      ringSlots := SMap.put s.dec.ringSlots (p / 2 * 64 + e.ringSlot) (slotOfCapture (s.playerOf p).header (foundEntry (s.playerOf p).header e)) } := by
  unfold captureKept
  extract_lets a h o s1 s2
  have hentry : CaptureOver e p i s1 := ⟨foundEntry h e, modEntry_const hp he, hover, rfl, rfl⟩
  have h2 : s2.players = s1.players ∧ s2.dec = s1.dec := by
    unfold s2
    split
    · exact ⟨State.players_bump .., State.dec_bump ..⟩
    · split
      · exact ⟨State.players_bump .., State.dec_bump ..⟩
      · exact ⟨rfl, rfl⟩
  let s3 := storeRingSlot s2 p (foundEntry h e) (slotOfCapture h (foundEntry h e))
  have ha : a < 4 := by unfold a playerAct; omega
  have hposted := postFront_posted s3 ha ⟨evCapture, (s3.chanOf a).streamWedge, (s3.chanOf a).streamT, some i⟩
  have hparts := within_iff.mp (@postSector_frame [.chan, .players, .raised] s3 (touch_of rfl) (touch_of rfl) (touch_of rfl) s3 a evCapture i (.refl _ s3))
  refine ⟨((hentry.congr h2.1).congr (u := s3) rfl).noted hposted.noted, (hparts .dec (by decide)).trans ?_⟩
  show ({ s2.dec with ringSlots := SMap.put s2.dec.ringSlots (slotKey (playerAct p) e.ringSlot) _ } : Decode) = _
  rw [h2.2]
  rfl


/-- What the job of a stored capture is. -/
def JobOf (d : Decode) (h : Header) (p i : Nat) (e : Entry) (j : DecodeJob) : Prop :=
  j.id = d.nextId ∧ j.player = p ∧ j.entry = i ∧ j.reserve = e.reserve ∧ j.seed = e.seed ∧ j.cuts = entryCuts h e ∧ j.phase = .waitDetector

theorem postJob_jobs (s : State) (p i : Nat) (e : Entry) (h : Header) (align : Int) :
    (∃ j, (postJob s p i e h align).dec.jobs = s.dec.jobs ++ [j] ∧ (postJob s p i e h align).dec.nextId = s.dec.nextId + 1 ∧ JobOf s.dec h p i e j) ∧
    (postJob s p i e h align).dec.ringSlots = s.dec.ringSlots := by
  unfold postJob
  extract_lets j
  obtain ⟨hjobs, hnext, hslots⟩ := addJob_dec s j
  exact ⟨⟨j, hjobs, hnext, rfl, rfl, rfl, rfl, rfl, rfl, rfl⟩, hslots⟩

theorem postJob_parts (s : State) (p i : Nat) (e : Entry) (h : Header) (align : Int) : Within [.dec] s (postJob s p i e h align) :=
  @postJob_frame [.dec] s (touch_of rfl) s p i e h align (.refl _ s)

theorem entryCuts_found (h h' : Header) (e : Entry) : entryCuts h (foundEntry h' e) = entryCuts h e := by
  unfold entryCuts foundEntry
  rfl

theorem captureStored_effect {s : State} {p i : Nat} (hp : p < 8) {e x : Entry} (he : s.entryOf p i = some x) (hover : e.capturing = false) :
    let h := (s.playerOf p).header
    let t := captureStored s p i e
    CaptureOver e p i t ∧ SMap.find t.dec.ringSlots (p / 2 * 64 + e.ringSlot) = some (slotOfCapture h (foundEntry h e)) ∧
    (e.final = false → e.noPost = false → ∃ j, t.dec.jobs = s.dec.jobs ++ [j] ∧ t.dec.nextId = s.dec.nextId + 1 ∧ JobOf s.dec h p i e j) ∧
    (e.final = true ∨ e.noPost = true → t.dec.jobs = s.dec.jobs) := by
  dsimp only
  obtain ⟨hkept, hdec⟩ := captureKept_keeps hp he hover
  have hjobs : (captureKept s p i e).dec.jobs = s.dec.jobs ∧ (captureKept s p i e).dec.nextId = s.dec.nextId := by rw [hdec]; exact ⟨rfl, rfl⟩
  have hslot : SMap.find (captureKept s p i e).dec.ringSlots (p / 2 * 64 + e.ringSlot) =
      some (slotOfCapture (s.playerOf p).header (foundEntry (s.playerOf p).header e)) := by
    rw [hdec]
    exact SMap.find_put_self ..
  rw [captureStored_eq]
  dsimp only
  generalize captureKept s p i e = t at hkept hjobs hslot ⊢
  split
  · next hfinal => exact ⟨hkept, hslot, fun h => absurd (hfinal.symm.trans h) (by decide), fun _ => hjobs.1⟩
  · next hfinal =>
    split
    · next hnone =>
      have hdone : CaptureOver e p i (if e.played then endEntry t p i resNotDecoded else t) ∧ (if e.played then endEntry t p i resNotDecoded else t).dec = t.dec := by
        split
        · exact ⟨hkept.endEntry hp _, within_iff.mp (@endEntry_frame [.players, .mem] t (touch_of rfl) (touch_of rfl) t p i resNotDecoded false (.refl _ t)) .dec (by decide)⟩
        · exact ⟨hkept, rfl⟩
      rw [hdone.2]
      exact ⟨hdone.1, hslot, fun _ h => absurd (hnone.symm.trans h) (by decide), fun _ => hjobs.1⟩
    · next hnone =>
      obtain ⟨⟨j, hj, hnext, hid, hplayer, hentry, hreserve, hseed, hcuts, hphase⟩, hslots⟩ := postJob_jobs (modEntry t p i fun e => { e with posted := true }) p i
        (foundEntry (s.playerOf p).header e) (s.playerOf p).header (syncOutcome e.sm1 e.sm2 (halfOf (s.playerOf p).header)).2
      have hmarked : CaptureOver e p i (modEntry t p i fun e => { e with posted := true }) := hkept.modEntry hp fun _ => ⟨rfl, rfl, rfl⟩
      have hplayers := within_iff.mp (postJob_parts (modEntry t p i fun e => { e with posted := true }) p i
        (foundEntry (s.playerOf p).header e) (s.playerOf p).header (syncOutcome e.sm1 e.sm2 (halfOf (s.playerOf p).header)).2) .players (by decide)
      have hdec : (modEntry t p i fun e => { e with posted := true }).dec = t.dec := rfl
      rw [hdec] at hj hnext hid hslots
      generalize postJob (modEntry t p i fun e => { e with posted := true }) p i (foundEntry (s.playerOf p).header e) (s.playerOf p).header
        (syncOutcome e.sm1 e.sm2 (halfOf (s.playerOf p).header)).2 = v at hj hnext hslots hplayers ⊢
      rw [hjobs.1] at hj
      rw [hjobs.2] at hnext hid
      refine ⟨hmarked.congr hplayers, hslots ▸ hslot, fun _ _ => ⟨j, hj, hnext, hid, hplayer, hentry, hreserve, hseed, hcuts.trans (entryCuts_found ..), hphase⟩,
        fun h => absurd h (not_or.mpr ⟨hfinal, hnone⟩)⟩

/-- The sectors' outcome as the statement gives it. -/
theorem syncOutcome_fst (sm1 sm2 : Option (Nat × Nat)) (h : Header) :
    (syncOutcome sm1 sm2 (halfOf h)).1 = match sm1, sm2 with
      | some u, some v => if v.1 = u.1 + 32 + 64 * (257 + circOfSectorT h.sectorT) then 0 else 4
      | none, some _ => 1
      | some _, none => 2
      | none, none => 3 := by
  unfold syncOutcome halfOf
  cases sm1 <;> cases sm2
  · rfl
  · rfl
  · rfl
  · dsimp only
    split <;> rfl

theorem exec_captureEnd {s : State} {p : Fin 8} {i : Nat} {e : Entry} {adc : List AdcRow} (hfirst : FirstEntry (rowsTaken s p adc) p i (·.capturing))
    (he : (rowsTaken s p adc).entryOf p i = some e) :
    exec (.captureEnd p adc) s =
      if captureAtEnd (s.playerOf p).header ((rowsTaken s p adc).chanOf (p.val / 2)) e then .next (endCapture (rowsTaken s p adc) p i) else .next (rowsTaken s p adc) := by
  obtain ⟨-, hheader, -⟩ := rowsTaken_effect s p.isLt adc
  obtain ⟨l, hl⟩ : ∃ l, entriesWhere (rowsTaken s p adc) p (·.capturing) = i :: l := by
    cases h : entriesWhere (rowsTaken s p adc) p (·.capturing) with
    | nil => unfold FirstEntry at hfirst; rw [h] at hfirst; exact absurd hfirst (by simp)
    | cons j l => unfold FirstEntry at hfirst; rw [h] at hfirst; exact ⟨l, by rw [Option.some.inj hfirst]⟩
  show execCaptureEnd p adc s = _
  have hunfold : execCaptureEnd p adc s = match entriesWhere (rowsTaken s p adc) p (·.capturing) with
      | [] => .next (rowsTaken s p adc)
      | i :: _ => match (rowsTaken s p adc).entryOf p i with
        | none => .next (rowsTaken s p adc)
        | some e => if captureAtEnd ((rowsTaken s p adc).playerOf p).header ((rowsTaken s p adc).chanOf (p.val / 2)) e then .next (endCapture (rowsTaken s p adc) p i)
          else .next (rowsTaken s p adc) := rfl
  rw [hunfold, hl]
  dsimp only
  rw [he, hheader]


theorem captureEnd_noBuffer {s : State} {p : Fin 8} {i : Nat} {e : Entry} {adc : List AdcRow} (hfirst : FirstEntry (rowsTaken s p adc) p i (·.capturing))
    (he : (rowsTaken s p adc).entryOf p i = some e) (hend : captureAtEnd (s.playerOf p).header ((rowsTaken s p adc).chanOf (p.val / 2)) e = true)
    (hnone : e.noCapture = true) :
    Completes (.captureEnd p adc) s fun t => (∃ e', t.entryOf p i = some e' ∧ e'.capturing = false) ∧ t.dec = s.dec := by
  obtain ⟨hparts, -, -⟩ := rowsTaken_effect s p.isLt adc
  obtain ⟨hplayers, hdec⟩ := captureClosed_keeps (rowsTaken s p adc) p i e
  have hclosed : CaptureOver e p i (captureClosed (rowsTaken s p adc) p i e) := CaptureOver.congr ⟨{ e with capturing := false }, modEntry_const p.isLt he, rfl, rfl, rfl⟩ hplayers
  have hdec' : (captureClosed (rowsTaken s p adc) p i e).dec = s.dec := hdec.trans (within_iff.mp hparts .dec (by decide))
  refine ⟨_, (exec_captureEnd hfirst he).trans (if_pos hend), ?_⟩
  rw [endCapture_eq he, if_pos hnone]
  generalize captureClosed (rowsTaken s p adc) p i e = t at hclosed hdec' ⊢
  split
  · obtain ⟨e', he', hover, -⟩ := hclosed.endEntry p.isLt resNotDecoded
    exact ⟨⟨e', he', hover⟩, (within_iff.mp (@endEntry_frame [.players, .mem] t (touch_of rfl) (touch_of rfl) t p i resNotDecoded false (.refl _ t)) .dec (by decide)).trans hdec'⟩
  · obtain ⟨e', he', hover, -⟩ := hclosed
    exact ⟨⟨e', he', hover⟩, hdec'⟩

theorem captureEnd_stores {s : State} {p : Fin 8} {i : Nat} {e : Entry} {adc : List AdcRow} (hfirst : FirstEntry (rowsTaken s p adc) p i (·.capturing))
    (he : (rowsTaken s p adc).entryOf p i = some e) (hend : captureAtEnd (s.playerOf p).header ((rowsTaken s p adc).chanOf (p.val / 2)) e = true)
    (hbuffer : e.noCapture = false) :
    Completes (.captureEnd p adc) s fun t =>
      CaptureOver e p i t ∧
      (∃ x, SMap.find t.dec.ringSlots (p.val / 2 * 64 + e.ringSlot) = some x ∧ x.samples = e.samples.take 43605 ∧
        ((∀ e0, s.entryOf p i = some e0 → SixBits e0.samples) → SixBits x.samples) ∧ x.parity = e.isParity ∧ x.psector = e.psector ∧
        x.outcome = (syncOutcome e.sm1 e.sm2 (halfOf (s.playerOf p).header)).1) ∧
      (e.final = false → e.noPost = false → ∃ j, t.dec.jobs = s.dec.jobs ++ [j] ∧ t.dec.nextId = s.dec.nextId + 1 ∧ JobOf s.dec (s.playerOf p).header p i e j) ∧
      (e.final = true ∨ e.noPost = true → t.dec.jobs = s.dec.jobs) := by
  obtain ⟨hparts, hheader, hsix⟩ := rowsTaken_effect s p.isLt adc
  obtain ⟨hplayers, hdec⟩ := captureClosed_keeps (rowsTaken s p adc) p i e
  have hdec' : (captureClosed (rowsTaken s p adc) p i e).dec = s.dec := hdec.trans (within_iff.mp hparts .dec (by decide))
  have hentry : (captureClosed (rowsTaken s p adc) p i e).entryOf p i = some { e with capturing := false } :=
    (entryOf_congr hplayers p i).trans (modEntry_const p.isLt he)
  have hhead : ((captureClosed (rowsTaken s p adc) p i e).playerOf p).header = (s.playerOf p).header := by
    rw [playerOf_congr hplayers, (header_modEntry ..).1, hheader]
  obtain ⟨hover, hslot, hjobs, hnojobs⟩ := captureStored_effect (e := { e with capturing := false }) p.isLt hentry rfl
  rw [hhead] at hslot hjobs
  rw [hdec'] at hjobs hnojobs
  have hexec := (exec_captureEnd hfirst he).trans (if_pos hend)
  rw [endCapture_eq he, if_neg (by rw [hbuffer]; decide)] at hexec
  refine ⟨_, hexec, hover, ⟨_, hslot, rfl, fun h0 => ?_, rfl, rfl, rfl⟩, fun hfinal hpost => ?_, hnojobs⟩
  · obtain ⟨e0, he0, himp⟩ := hsix i e he
    exact fun y hy => himp (h0 e0 he0) y (List.mem_of_mem_take hy)
  · obtain ⟨j, hj, hnext, hid, hplayer, hent, hreserve, hseed, hcuts, hphase⟩ := hjobs hfinal hpost
    exact ⟨j, hj, hnext, hid, hplayer, hent, hreserve, hseed, hcuts, hphase⟩

/-! ### The preamp's frames -/

/-- What follows a frame: the event of the sentence's last one, and the next frame. -/
def frameFollowed (u : State) (a : Nat) (f : PreampFrame) : State :=
  sendNext (if f.priority = 2 ∧ framesDone (u.chanOf a) = true then postEvent u a evFrames else u) a

theorem exec_preampFrameDone {s : State} {a : Fin 4} {f : PreampFrame} (hbus : (s.chanOf a).onBus = some f) (readback : Nat) (ok : Bool) :
    exec (.preampFrameDone a readback ok) s = .next (frameFollowed (frameDone (s.modChan a fun c => { c with onBus := none }) a f readback ok) a f) := by
  show execPreampFrameDone a readback ok s = _
  unfold execPreampFrameDone
  dsimp only
  rw [hbus]
  rfl

/-- The next frame leaves, if the bus is free: no frame is lost. -/
theorem sendNext_effect (s : State) {a : Nat} (ha : a < 4) :
    (∃ fr bus, (sendNext s a).chanOf a = { s.chanOf a with frames := fr, onBus := bus } ∧
      ((s.chanOf a).onBus = none → ∀ g, g ∈ (s.chanOf a).frames → g ∈ fr ∨ bus = some g)) ∧
    (sendNext s a).objs = s.objs ∧ (sendNext s a).raised = s.raised := by
  have h := within_iff.mp (@sendNext_frame [.chan, .outs] s (touch_of rfl) (touch_of rfl) s a (.refl _ s))
  refine ⟨?_, h .objs (by decide), h .raised (by decide)⟩
  unfold sendNext
  dsimp only
  split
  · next b hb => exact ⟨(s.chanOf a).frames, (s.chanOf a).onBus, rfl, fun hnone => absurd (hb.symm.trans hnone) (by simp)⟩
  · split
    · exact ⟨(s.chanOf a).frames, (s.chanOf a).onBus, rfl, fun _ g hg => .inl hg⟩
    · next g _ =>
      refine ⟨(s.chanOf a).frames.erase g, some g, chanOf_modChan s (fun c => { c with onBus := some g, frames := c.frames.erase g }) ha, fun _ x hx => ?_⟩
      by_cases hxg : x = g
      · exact .inr (hxg ▸ rfl)
      · exact .inl ((List.mem_erase_of_ne hxg).mpr hx)

/-- What follows a frame leaves the objects and, of the channel, all but the event FIFO, the frames and the bus. -/
theorem frameFollowed_effect (u : State) {a : Nat} (ha : a < 4) (f : PreampFrame) :
    (frameFollowed u a f).objs = u.objs ∧ ((frameFollowed u a f).chanOf a).wu = (u.chanOf a).wu ∧
    ((frameFollowed u a f).chanOf a).mode = (u.chanOf a).mode ∧ ((frameFollowed u a f).chanOf a).head = (u.chanOf a).head ∧
    RaisesMore u (frameFollowed u a f) := by
  have hpost : FrontPosted a u (if f.priority = 2 ∧ framesDone (u.chanOf a) = true then postEvent u a evFrames else u) := by
    split
    · exact postEvent_posted u ha evFrames
    · exact ⟨.of_players rfl, ⟨_, _, rfl⟩, rfl, rfl, rfl, .of_eq rfl⟩
  unfold frameFollowed
  obtain ⟨-, ⟨ev, lost, hchan⟩, hobjs, -, -, hraises⟩ := hpost
  obtain ⟨⟨fr, bus, hsent, -⟩, hobjs', hraised'⟩ := sendNext_effect (if f.priority = 2 ∧ framesDone (u.chanOf a) = true then postEvent u a evFrames else u) ha
  rw [hsent, hchan]
  exact ⟨hobjs'.trans hobjs, rfl, rfl, rfl, hraises.trans (.of_eq hraised')⟩

theorem queueFrame_num (s : State) {a : Nat} (ha : a < 4) (f : PreampFrame) (k : Key) : (queueFrame s a f).num k = s.num k :=
  State.num_congr (queueFrame_effect s ha f).2.1 k

section
variable {s : State} {a : Fin 4} {f : PreampFrame} (hbus : (s.chanOf a).onBus = some f)
include hbus

theorem frameDone_faultRead (hp : f.priority = 0) (hdata : f.data = none) (readback : Nat) :
    Completes (.preampFrameDone a readback true) s fun t => t.num (Obj.preampFaultStatus a) = readback % 2 ^ 32 := by
  refine ⟨_, exec_preampFrameDone hbus readback true, ?_⟩
  beta_reduce
  rw [State.num_congr (frameFollowed_effect _ a.isLt f).1]
  unfold frameDone
  rw [if_pos hp, hdata, if_pos rfl, queueFrame_num _ a.isLt, State.num_setNum_self]

theorem frameDone_parity (hp : f.priority = 0) (hdata : f.data = none) (htries : f.tries ≠ 0) (readback : Nat) :
    Completes (.preampFrameDone a readback false) s fun t => t.num (Obj.preampFaultStatus a) = 0xFFFFFFFF := by
  refine ⟨_, exec_preampFrameDone hbus readback false, ?_⟩
  beta_reduce
  rw [State.num_congr (frameFollowed_effect _ a.isLt f).1]
  unfold frameDone
  rw [if_pos hp, hdata, if_neg Bool.false_ne_true, if_neg htries, queueFrame_num _ a.isLt, State.num_setNum_self]

theorem frameDone_verified (hp : f.priority = 2) (hverify : f.verify = true) {d : Nat} (hdata : f.data = some d) :
    Completes (.preampFrameDone a d true) s fun t =>
      (f.reg = (preampRegs s a).mode → (t.chanOf a).mode = d) ∧
      (f.reg = (preampRegs s a).head → f.reg ≠ (preampRegs s a).mode → (t.chanOf a).head = d) := by
  let u := s.modChan a fun c => { c with onBus := none }
  have hdone : frameDone u a f d true = frameTaken u a f := by
    unfold frameDone
    rw [if_neg (by rw [hp]; decide), if_pos hverify, if_pos (by rw [hdata]; simp)]
  have hregs : preampRegs u a = preampRegs s a := rfl
  have htaken : (frameTaken u a f).chanOf a = if f.reg = (preampRegs s a).mode then { u.chanOf a with mode := d }
      else if f.reg = (preampRegs s a).head then { u.chanOf a with head := d }
      else if f.reg = (preampRegs s a).heater then { u.chanOf a with heaterSent := d }
      else if f.reg = (preampRegs s a).readerBias then { u.chanOf a with biasSent := d } else u.chanOf a := by
    unfold frameTaken
    rw [hdata, hregs]
    exact chanOf_modChan u _ a.isLt
  obtain ⟨-, -, hmode, hhead, -⟩ := frameFollowed_effect (frameTaken u a f) a.isLt f
  refine ⟨_, (exec_preampFrameDone hbus d true).trans (congrArg (fun x => Host.Outcome.next (frameFollowed x a f)) hdone), fun h => ?_, fun h hne => ?_⟩
  · rw [hmode, htaken, if_pos h]
  · rw [hhead, htaken, if_neg hne, if_pos h]

theorem frameDone_failed_once (hp : f.priority = 2) (hverify : f.verify = true) (htries : f.tries = 0) {readback : Nat} {ok : Bool}
    (hfail : f.data ≠ some readback ∨ ok = false) :
    Completes (.preampFrameDone a readback ok) s fun t =>
      ({ f with tries := 1 } ∈ (t.chanOf a).frames ∨ (t.chanOf a).onBus = some { f with tries := 1 }) ∧ (t.chanOf a).wu = (s.chanOf a).wu ∧
      t.raised = s.raised := by
  let u := s.modChan a fun c => { c with onBus := none }
  let v := u.modChan a fun c => { c with frames := { f with tries := 1 } :: c.frames }
  have hdone : frameDone u a f readback ok = v := by
    unfold frameDone
    rw [if_neg (by rw [hp]; decide), if_pos hverify, if_neg, if_pos htries]
    rw [Bool.and_eq_true, decide_eq_true_eq]
    rintro ⟨hok, hdata⟩
    exact hfail.elim (fun h => h hdata) fun h => absurd (h.symm.trans hok) (by decide)
  have hu : u.chanOf a = { s.chanOf a with onBus := none } := chanOf_modChan s _ a.isLt
  have hv : v.chanOf a = { s.chanOf a with onBus := none, frames := { f with tries := 1 } :: (s.chanOf a).frames } :=
    (chanOf_modChan u _ a.isLt).trans (by rw [hu])
  have hpending : framesDone (v.chanOf a) = false := by
    unfold framesDone sentenceFrames
    rw [hv]
    simp [hp]
  have hfollow : frameFollowed v a f = sendNext v a := by
    unfold frameFollowed
    rw [if_neg (by rw [hpending]; simp)]
  obtain ⟨⟨fr, bus, hsent, hkept⟩, -, hraised⟩ := sendNext_effect v a.isLt
  refine ⟨sendNext v a, ?_, ?_, ?_, hraised⟩
  · rw [exec_preampFrameDone hbus, hdone, hfollow]
  · rw [hsent]
    refine hkept (by rw [hv]) _ ?_
    rw [hv]
    exact List.mem_cons_self ..
  · rw [hsent, hv]

theorem frameDone_failed_twice (hp : f.priority = 2) (hverify : f.verify = true) (htries : f.tries ≠ 0) {readback : Nat} {ok : Bool}
    (hfail : f.data ≠ some readback ∨ ok = false) :
    Completes (.preampFrameDone a readback ok) s fun t =>
      (t.chanOf a).wu.testBit 4 = true ∧ Counted (Obj.frameRetries a) s t ∧ RaisedSince s t (448 + 64 * a.val + 1) a 0 := by
  let u := s.modChan a fun c => { c with onBus := none }
  let w := assertWu u a .frameVerify
  let v := (w.bump (Obj.frameRetries a)).raiseAct a 1 a
  have hdone : frameDone u a f readback ok = v := by
    unfold frameDone
    rw [if_neg (by rw [hp]; decide), if_pos hverify, if_neg, if_neg htries]
    · rfl
    · rw [Bool.and_eq_true, decide_eq_true_eq]
      rintro ⟨hok, hdata⟩
      exact hfail.elim (fun h => h hdata) fun h => absurd (h.symm.trans hok) (by decide)
  have hwu : (w.chanOf a).wu.testBit 4 = true := by
    rw [(assertWu_effect u a.isLt .frameVerify).1]
    exact testBit_setBit ..
  have hv : v.chanOf a = w.chanOf a := chanOf_congr (State.chan_bump w (Obj.frameRetries a)) a
  obtain ⟨hobjs, hkeep, -, -, hraises⟩ := frameFollowed_effect v a.isLt f
  have hnum : w.num (Obj.frameRetries a) = s.num (Obj.frameRetries a) := by
    rw [closing_num (by unfold Obj.frameRetries Key; omega),
      (wuLocked_locked _ a.isLt _).num _ (by unfold Obj.writeUnsafeCount Obj.frameRetries Key; omega), State.num_congr (wuSet_same _ a _).2.2.2.1]
    rfl
  refine ⟨_, (exec_preampFrameDone hbus readback ok).trans (congrArg (fun x => Host.Outcome.next (frameFollowed x a f)) hdone), ?_, fun hroom => ?_, ?_⟩
  · rw [hkeep, hv, hwu]
  · have hcount := counted_bump (Obj.frameRetries a) w
    unfold Counted at hcount
    rw [hnum] at hcount
    exact (State.num_congr hobjs _).trans (hcount hroom)
  · obtain ⟨l, hl, hmem⟩ := raisedSince_raiseAct (s := s) (t := w.bump (Obj.frameRetries a))
      ((assertWu_raises u a.isLt .frameVerify).trans (.of_eq (State.raised_bump ..))) a 1 0
    obtain ⟨l', hl'⟩ := hraises
    exact ⟨l ++ l', by rw [hl', hl, List.append_assoc], List.mem_append_left _ hmem⟩

theorem frameDone_access (hp : f.priority = 4) (hverify : f.verify = false) (readback : Nat) (ok : Bool) :
    Completes (.preampFrameDone a readback ok) s fun t =>
      (f.data = none → t.str (Obj.preampAccess a) = [0, BitVec.ofNat 8 f.reg, 0, 0] ++ leBytes 4 readback) ∧
      (∀ d, f.data = some d → t.str (Obj.preampAccess a) = [1, BitVec.ofNat 8 f.reg, 0, 0] ++ leBytes 4 d) := by
  let u := s.modChan a fun c => { c with onBus := none }
  have hdone : frameDone u a f readback ok = accessResult (frameTaken u a f) a f readback := by
    unfold frameDone
    rw [if_neg (by rw [hp]; decide), if_neg (by rw [hverify]; decide), if_pos hp]
  obtain ⟨hobjs, -⟩ := frameFollowed_effect (accessResult (frameTaken u a f) a f readback) a.isLt f
  refine ⟨_, (exec_preampFrameDone hbus readback ok).trans (congrArg (fun x => Host.Outcome.next (frameFollowed x a f)) hdone), fun hdata => ?_, fun d hdata => ?_⟩
  · rw [State.str_congr hobjs]
    unfold accessResult
    rw [hdata]
    exact State.str_setStr_self ..
  · rw [State.str_congr hobjs]
    unfold accessResult
    rw [hdata]
    exact State.str_setStr_self ..

end

/-- Settles O22: a capture through `endCapture_eq` and `captureStored_effect`, a frame through `frameDone` and what follows it. -/
theorem capturesAndPreampFrames : Obligations.CapturesAndPreampFrames := by
  unfold Obligations.CapturesAndPreampFrames
  refine ⟨fun s p i e adc => ?_, fun s a f readback d ok hbus => ?_⟩
  · intro u h hfirst he
    refine ⟨fun hgoes => (exec_captureEnd hfirst he).trans (if_neg ?_), captureEnd_noBuffer hfirst he, fun hend hbuffer => ?_⟩
    · intro hend
      exact absurd (hgoes.symm.trans hend) (by decide)
    · obtain ⟨t, hexec, hover, ⟨x, hx, hsamples, hsix, hparity, hsector, hout⟩, hjobs⟩ := captureEnd_stores hfirst he hend hbuffer
      exact ⟨t, hexec, hover, ⟨x, hx, hsamples, hsix, hparity, hsector, hout.trans (syncOutcome_fst ..)⟩, hjobs⟩
  · refine ⟨fun hp hdata => frameDone_faultRead hbus hp hdata readback, fun hp hdata htries => frameDone_parity hbus hp hdata htries readback,
      fun hp hverify hdata hread => ?_, fun hp hverify htries hfail => frameDone_failed_once hbus hp hverify htries hfail,
      fun hp hverify htries hfail => frameDone_failed_twice hbus hp hverify htries hfail, fun hp hverify hdata => ?_, fun hp hverify hdata => ?_⟩
    · subst hread
      exact frameDone_verified hbus hp hverify hdata
    · obtain ⟨t, hexec, hread, -⟩ := frameDone_access hbus hp hverify readback ok
      exact ⟨t, hexec, hread hdata⟩
    · obtain ⟨t, hexec, -, hwritten⟩ := frameDone_access hbus hp hverify readback ok
      exact ⟨t, hexec, hwritten d hdata⟩

end Sys2Proof.Machine
end

section
/-!
PROOFS. Loads and underruns of sentences (R227–R230).
-/

namespace Sys2Proof.Machine

/-! ### What an update of one unit leaves -/

section
variable {α : Type} (s : State) (a i : Nat)

/-- A field of the channels that an update leaves alone. -/
theorem field_modChan {π : Channel → α} (f : Channel → Channel) (hf : ∀ x, π (f x) = π x) : π ((s.modChan a f).chanOf i) = π (s.chanOf i) := by
  unfold State.chanOf State.modChan
  rw [vget_vmod]
  split
  · exact hf _
  · rfl

/-- A field of the actuators that an update leaves alone. -/
theorem field_modAct {π : Actuator → α} (f : Actuator → Actuator) (hf : ∀ x, π (f x) = π x) : π ((s.modAct a f).actOf i) = π (s.actOf i) := by
  unfold State.actOf State.modAct
  rw [vget_vmod]
  split
  · exact hf _
  · rfl

/-- A field of the players that an update leaves alone. -/
theorem field_modPlayer {π : Player → α} (f : Player → Player) (hf : ∀ x, π (f x) = π x) : π ((s.modPlayer a f).playerOf i) = π (s.playerOf i) := by
  unfold State.playerOf State.modPlayer
  rw [vget_vmod]
  split
  · exact hf _
  · rfl

end

/-! ### The end of a sentence -/

/-- A sentence closed in its player, before its events and counts. -/
def closedPlayer (s : State) (p : Nat) (o : Outcome) : State :=
  s.modPlayer p fun pl => { pl with
    outcome := some o, endTick := s.tick, preroll := false, playing := false, ended := false, abortAsked := false
    clause := .none, gates := [], bound := none }

/-- It no longer holds the gates. -/
def closedGates (s : State) (p : Nat) (o : Outcome) : State :=
  if (s.playerOf p).preroll then
    (clearWu ((closedPlayer s p o).modChan (playerAct p) fun c => { c with
      freezeMask := 0, locked := false, lockAt := none, events := [], eventLost := false, taFirings := 0, dropFirings := 0 })
      (playerAct p) .frameVerify).modAct (playerAct p) fun x => { x with playing := none }
  else closedPlayer s p o

/-- It is counted, with the event of late gates. -/
def closedCounted (s : State) (p : Nat) (o : Outcome) : State :=
  let t := ((closedGates s p o).setNum (Obj.loadState p) 0).bump (Obj.sentences p)
  if (s.playerOf p).lateGates ≠ 0 then t.raiseAct (playerAct p) (scheduleOffset p) p 4 else t

/-- It has the count and the event of its outcome. -/
def closedOutcome (s : State) (p : Nat) (o : Outcome) : State :=
  let t := closedCounted s p o
  match o with
  | .underrun => (t.bump (Obj.underruns p)).raiseAct (playerAct p) (scheduleOffset p) p 1
  | .settleMiss => ((t.modTrace (playerAct p) fun t => { t with seen := setBit t.seen 6 }).bump (Obj.settleMisses p)).raiseAct (playerAct p) (scheduleOffset p) p 2
  | .badClause => (t.bump (Obj.badClauses p)).raiseAct (playerAct p) (scheduleOffset p) p 5
  | .fault => t.bump (Obj.objFaults p)
  | .windowEnd => t.bump (Obj.windowEnds p)
  | _ => t

/-- The record of a sentence that ends. -/
def recordOf (s : State) (p : Nat) (o : Outcome) : PendingRecord :=
  { seq := (s.playerOf p).header.seq, base := (s.playerOf p).header.statusBase, sectors := (s.playerOf p).header.sectors
    bytes := recordBytes (s.playerOf p) o s.tick }

theorem closeSentence_eq (s : State) (p : Nat) (o : Outcome) :
    closeSentence s p o = match o with
      | .discarded | .underrun => putRecord (closedOutcome s p o) (recordOf s p o)
      | _ => (closedOutcome s p o).modPlayer p fun pl => { pl with records := pl.records ++ [recordOf s p o] } := by
  cases o <;> rfl


/-- The objects that the end of player p's sentence writes. -/
def ClosingKey (p : Nat) (k : Key) : Prop :=
  k = Obj.loadState p ∨ k = Obj.sentences p ∨ k = Obj.underruns p ∨ k = Obj.settleMisses p ∨ k = Obj.badClauses p ∨ k = Obj.objFaults p ∨ k = Obj.windowEnds p

/-- The counter of an outcome. -/
def outcomeKey (p : Nat) : Outcome → Option Key
  | .underrun => some (Obj.underruns p)
  | .settleMiss => some (Obj.settleMisses p)
  | .badClause => some (Obj.badClauses p)
  | .fault => some (Obj.objFaults p)
  | .windowEnd => some (Obj.windowEnds p)
  | _ => none

theorem closedGates_parts (s : State) (p : Nat) (o : Outcome) : Within [.chan, .players, .acts] s (closedGates s p o) := by
  have hplayer : Within [.chan, .players, .acts] s (closedPlayer s p o) := @State.modPlayer_frame [.chan, .players, .acts] s (touch_of rfl) s p _ (.refl _ s)
  unfold closedGates
  split
  · exact @State.modAct_frame [.chan, .players, .acts] s (touch_of rfl) _ _ _
      (@clearWu_frame [.chan, .players, .acts] s (touch_of rfl) _ _ _ (@State.modChan_frame [.chan, .players, .acts] s (touch_of rfl) _ _ _ hplayer))
  · exact hplayer

theorem closedGates_wedge (s : State) (p : Nat) (o : Outcome) (b : Nat) :
    ((closedGates s p o).chanOf b).wedge = (s.chanOf b).wedge ∧ ((closedGates s p o).actOf b).blockUntil = (s.actOf b).blockUntil := by
  unfold closedGates
  split
  · refine ⟨?_, ?_⟩
    · let u := (closedPlayer s p o).modChan (playerAct p) fun c => { c with
        freezeMask := 0, locked := false, lockAt := none, events := [], eventLost := false, taFirings := 0, dropFirings := 0 }
      have hu : (u.chanOf b).wedge = (s.chanOf b).wedge := field_modChan (π := Channel.wedge) (closedPlayer s p o) (playerAct p) b _ fun _ => rfl
      exact (field_modChan (π := Channel.wedge) u (playerAct p) b (fun c => { c with wu := clrBit c.wu (wuBit .frameVerify) }) fun _ => rfl).trans hu
    · exact field_modAct (π := Actuator.blockUntil) _ _ b _ fun _ => rfl
  · exact ⟨rfl, rfl⟩

theorem closedGates_playerOf (s : State) (p : Nat) (o : Outcome) (q : Nat) : (closedGates s p o).playerOf q = (closedPlayer s p o).playerOf q := by
  unfold closedGates
  split
  · rfl
  · rfl

theorem closedCounted_parts (s : State) (p : Nat) (o : Outcome) :
    (closedCounted s p o).players = (closedGates s p o).players ∧ (closedCounted s p o).acts = (closedGates s p o).acts ∧
    (closedCounted s p o).chan = (closedGates s p o).chan ∧ RaisesMore s (closedCounted s p o) ∧ (closedCounted s p o).num (Obj.loadState p) = 0 ∧
    Counted (Obj.sentences p) s (closedCounted s p o) ∧ (∀ k, k ≠ Obj.loadState p → k ≠ Obj.sentences p → (closedCounted s p o).num k = s.num k) := by
  have hgates := within_iff.mp (closedGates_parts s p o)
  have hne : Obj.loadState p ≠ Obj.sentences p := by unfold Obj.loadState Obj.sentences Key; omega
  let t := ((closedGates s p o).setNum (Obj.loadState p) 0).bump (Obj.sentences p)
  have ht : t.players = (closedGates s p o).players ∧ t.acts = (closedGates s p o).acts ∧ t.chan = (closedGates s p o).chan ∧ t.raised = s.raised :=
    ⟨State.players_bump .., State.acts_bump .., State.chan_bump .., (State.raised_bump ..).trans (hgates .raised (by decide))⟩
  have hload : t.num (Obj.loadState p) = 0 := (State.num_bump_other _ hne).trans (State.num_setNum_self ..)
  have hnum (k : Key) (h1 : k ≠ Obj.loadState p) (h2 : k ≠ Obj.sentences p) : t.num k = s.num k :=
    (State.num_bump_other _ h2).trans ((State.num_setNum_other _ _ h1).trans (State.num_congr (hgates .objs (by decide)) k))
  have hcount : Counted (Obj.sentences p) s t := by
    have h := counted_bump (Obj.sentences p) ((closedGates s p o).setNum (Obj.loadState p) 0)
    have hread : ((closedGates s p o).setNum (Obj.loadState p) 0).num (Obj.sentences p) = s.num (Obj.sentences p) :=
      (State.num_setNum_other _ _ hne.symm).trans (State.num_congr (hgates .objs (by decide)) _)
    unfold Counted at h
    rw [hread] at h
    exact h
  obtain ⟨hplayers, hacts, hchan, hraised⟩ := ht
  unfold closedCounted
  dsimp only
  split
  · exact ⟨hplayers, hacts, hchan, ⟨_, congrArg (· ++ [_]) hraised⟩, hload, hcount, hnum⟩
  · exact ⟨hplayers, hacts, hchan, .of_eq hraised, hload, hcount, hnum⟩


/-- What the end of player p's sentence with outcome o does. -/
structure Closed (p : Nat) (o : Outcome) (s t : State) : Prop where
  ended : SentenceEnded t p o
  sentences : Counted (Obj.sentences p) s t
  counted : ∀ k, outcomeKey p o = some k → Counted k s t
  raises : RaisesMore s t
  event : o = .underrun → RaisedSince s t (448 + 64 * (p / 2) + 14 + 2 * (p % 2)) p 1
  others : ∀ q, q ≠ p → t.playerOf q = s.playerOf q
  acts : ∀ b, (t.actOf b).blockUntil = (s.actOf b).blockUntil
  wedge : ∀ b, (t.chanOf b).wedge = (s.chanOf b).wedge
  num : ∀ k, ¬ClosingKey p k → t.num k = s.num k

theorem not_closingKey {p : Nat} {k : Key} (h : ¬ClosingKey p k) : k ≠ Obj.loadState p ∧ k ≠ Obj.sentences p ∧ ∀ o, outcomeKey p o ≠ some k := by
  unfold ClosingKey at h
  simp only [not_or] at h
  obtain ⟨h1, h2, h3, h4, h5, h6, h7⟩ := h
  refine ⟨h1, h2, fun o ho => ?_⟩
  cases o <;> simp only [outcomeKey, Option.some.injEq, reduceCtorEq] at ho
  · exact h3 ho.symm
  · exact h4 ho.symm
  · exact h7 ho.symm
  · exact h5 ho.symm
  · exact h6 ho.symm

/-- The counter of an outcome is none of the two that every end writes. -/
theorem outcomeKey_ne {p : Nat} {o : Outcome} {k : Key} (h : outcomeKey p o = some k) : k ≠ Obj.loadState p ∧ k ≠ Obj.sentences p := by
  cases o <;> simp only [outcomeKey, Option.some.injEq, reduceCtorEq] at h <;> subst h
  · unfold Obj.underruns Obj.loadState Obj.sentences Key; omega
  · unfold Obj.settleMisses Obj.loadState Obj.sentences Key; omega
  · unfold Obj.windowEnds Obj.loadState Obj.sentences Key; omega
  · unfold Obj.badClauses Obj.loadState Obj.sentences Key; omega
  · unfold Obj.objFaults Obj.loadState Obj.sentences Key; omega

/-- The outcome's count, its event and its trace mark: what they leave. -/
theorem closedOutcome_effect (s : State) (p : Nat) (o : Outcome) :
    (closedOutcome s p o).players = (closedCounted s p o).players ∧ (closedOutcome s p o).acts = (closedCounted s p o).acts ∧
    (closedOutcome s p o).chan = (closedCounted s p o).chan ∧ RaisesMore (closedCounted s p o) (closedOutcome s p o) ∧
    (∀ k, outcomeKey p o = some k → Counted k (closedCounted s p o) (closedOutcome s p o)) ∧
    (∀ k, outcomeKey p o ≠ some k → (closedOutcome s p o).num k = (closedCounted s p o).num k) ∧
    (o = .underrun → RaisedSince (closedCounted s p o) (closedOutcome s p o) (448 + 64 * (p / 2) + 14 + 2 * (p % 2)) p 1) := by
  unfold closedOutcome
  generalize closedCounted s p o = t
  have hbump (k : Key) (u : State) (hu : u.objs = t.objs) : Counted k t (u.bump k) := by
    have h := counted_bump k u
    unfold Counted at h
    rwa [State.num_congr hu] at h
  have hother (k j : Key) (u : State) (hu : u.objs = t.objs) (h : some k ≠ some j) : (u.bump k).num j = t.num j :=
    (State.num_bump_other _ fun e => h (congrArg some e.symm)).trans (State.num_congr hu j)
  cases o with
  | underrun =>
    refine ⟨State.players_bump .., State.acts_bump .., State.chan_bump .., ⟨_, congrArg (· ++ [_]) (State.raised_bump ..)⟩, fun k hk => ?_, fun k hk => hother _ k t rfl hk, fun _ => ?_⟩
    · obtain rfl := Option.some.inj hk
      exact hbump _ t rfl
    · refine ⟨_, congrArg (· ++ [_]) (State.raised_bump ..), List.mem_singleton.mpr ?_⟩
      unfold scheduleOffset playerAct
      congr 1
      omega
  | settleMiss =>
    refine ⟨State.players_bump .., State.acts_bump .., State.chan_bump .., ⟨_, congrArg (· ++ [_]) (State.raised_bump ..)⟩, fun k hk => ?_, fun k hk => hother _ k _ rfl hk, nofun⟩
    obtain rfl := Option.some.inj hk
    exact hbump _ (t.modTrace (playerAct p) fun t => { t with seen := setBit t.seen 6 }) rfl
  | badClause =>
    refine ⟨State.players_bump .., State.acts_bump .., State.chan_bump .., ⟨_, congrArg (· ++ [_]) (State.raised_bump ..)⟩, fun k hk => ?_, fun k hk => hother _ k t rfl hk, nofun⟩
    obtain rfl := Option.some.inj hk
    exact hbump _ t rfl
  | fault =>
    refine ⟨State.players_bump .., State.acts_bump .., State.chan_bump .., .of_eq (State.raised_bump ..), fun k hk => ?_, fun k hk => hother _ k t rfl hk, nofun⟩
    obtain rfl := Option.some.inj hk
    exact hbump _ t rfl
  | windowEnd =>
    refine ⟨State.players_bump .., State.acts_bump .., State.chan_bump .., .of_eq (State.raised_bump ..), fun k hk => ?_, fun k hk => hother _ k t rfl hk, nofun⟩
    obtain rfl := Option.some.inj hk
    exact hbump _ t rfl
  | complete | aborted | discarded => exact ⟨rfl, rfl, rfl, .of_eq rfl, nofun, fun _ _ => rfl, nofun⟩


theorem recordKept_effect (s : State) (p : Nat) (o : Outcome) :
    (∀ q, q ≠ p → (closeSentence s p o).playerOf q = (closedOutcome s p o).playerOf q) ∧
    (∀ {α : Type} {π : Player → α}, (∀ x r, π { x with records := r } = π x) → π ((closeSentence s p o).playerOf p) = π ((closedOutcome s p o).playerOf p)) ∧
    (closeSentence s p o).acts = (closedOutcome s p o).acts ∧ (closeSentence s p o).chan = (closedOutcome s p o).chan ∧
    (closeSentence s p o).raised = (closedOutcome s p o).raised ∧ (closeSentence s p o).objs = (closedOutcome s p o).objs := by
  rw [closeSentence_eq]
  generalize closedOutcome s p o = t
  generalize recordOf s p o = r
  have hput := within_iff.mp (@putRecord_frame [.mem] t (touch_of rfl) t r (.refl _ t))
  have hplayers := playerOf_congr (hput .players (by decide))
  have hput' : (∀ q, q ≠ p → (putRecord t r).playerOf q = t.playerOf q) ∧
      (∀ {α : Type} {π : Player → α}, (∀ x r, π { x with records := r } = π x) → π ((putRecord t r).playerOf p) = π (t.playerOf p)) ∧
      (putRecord t r).acts = t.acts ∧ (putRecord t r).chan = t.chan ∧ (putRecord t r).raised = t.raised ∧ (putRecord t r).objs = t.objs :=
    ⟨fun q _ => hplayers q, fun {_ π} _ => congrArg π (hplayers p), hput .acts (by decide), hput .chan (by decide), hput .raised (by decide), hput .objs (by decide)⟩
  have hkeep : (∀ q, q ≠ p → (t.modPlayer p fun pl => { pl with records := pl.records ++ [r] }).playerOf q = t.playerOf q) ∧
      (∀ {α : Type} {π : Player → α}, (∀ x r, π { x with records := r } = π x) →
        π ((t.modPlayer p fun pl => { pl with records := pl.records ++ [r] }).playerOf p) = π (t.playerOf p)) ∧
      (t.modPlayer p fun pl => { pl with records := pl.records ++ [r] }).acts = t.acts ∧ (t.modPlayer p fun pl => { pl with records := pl.records ++ [r] }).chan = t.chan ∧
      (t.modPlayer p fun pl => { pl with records := pl.records ++ [r] }).raised = t.raised ∧ (t.modPlayer p fun pl => { pl with records := pl.records ++ [r] }).objs = t.objs :=
    ⟨fun q hq => playerOf_modPlayer_other t _ hq.symm, fun hπ => field_modPlayer t p p _ fun x => hπ x _, rfl, rfl, rfl, rfl⟩
  cases o
  case discarded | underrun => exact hput'
  all_goals exact hkeep

theorem closeSentence_closed (s : State) {p : Nat} (hp : p < 8) (o : Outcome) : Closed p o s (closeSentence s p o) := by
  obtain ⟨hothers, hfield, hacts3, hchan3, hraised3, hobjs3⟩ := recordKept_effect s p o
  obtain ⟨hplayers2, hacts2, hchan2, hraises2, hcount2, hnum2, hevent2⟩ := closedOutcome_effect s p o
  obtain ⟨hplayers1, hacts1, hchan1, hraises1, hload1, hcount1, hnum1⟩ := closedCounted_parts s p o
  have hplayer (q : Nat) : (closedOutcome s p o).playerOf q = (closedPlayer s p o).playerOf q := by
    rw [playerOf_congr hplayers2, playerOf_congr hplayers1, closedGates_playerOf]
  have hself : (closedPlayer s p o).playerOf p = _ := playerOf_modPlayer s _ hp
  have hno (k : Key) (h : k = Obj.loadState p ∨ k = Obj.sentences p) : outcomeKey p o ≠ some k := fun e => by
    obtain ⟨h1, h2⟩ := outcomeKey_ne e
    exact h.elim h1 h2
  have hnum3 (k : Key) : (closeSentence s p o).num k = (closedOutcome s p o).num k := State.num_congr hobjs3 k
  have hraises : RaisesMore s (closeSentence s p o) := hraises1.trans (hraises2.trans (.of_eq hraised3))
  refine ⟨⟨?_, ?_, ?_, ?_⟩, fun hroom => ?_, fun k hk hroom => ?_, hraises, fun ho => ?_, fun q hq => ?_, fun b => ?_, fun b => ?_, fun k hk => ?_⟩
  · rw [hnum3, hnum2 _ (hno _ (.inl rfl)), hload1]
  · rw [hfield (π := Player.outcome) fun _ _ => rfl, hplayer, hself]
  · rw [hfield (π := Player.playing) fun _ _ => rfl, hplayer, hself]
  · rw [hfield (π := Player.bound) fun _ _ => rfl, hplayer, hself]
  · rw [hnum3, hnum2 _ (hno _ (.inr rfl)), hcount1 hroom]
  · obtain ⟨h1, h2⟩ := outcomeKey_ne hk
    have h := hcount2 k hk
    unfold Counted at h
    rw [hnum1 k h1 h2] at h
    rw [hnum3, h hroom]
  · obtain ⟨l, hl⟩ := hraises1
    obtain ⟨l', hl', hmem⟩ := hevent2 ho
    exact ⟨l ++ l', by rw [hraised3, hl', hl, List.append_assoc], List.mem_append_right _ hmem⟩
  · rw [hothers q hq, hplayer, closedPlayer, playerOf_modPlayer_other s _ hq.symm]
  · rw [actOf_congr hacts3, actOf_congr hacts2, actOf_congr hacts1, (closedGates_wedge s p o b).2]
  · rw [chanOf_congr hchan3, chanOf_congr hchan2, chanOf_congr hchan1, (closedGates_wedge s p o b).1]
  · obtain ⟨h1, h2, h3⟩ := not_closingKey hk
    rw [hnum3, hnum2 k (h3 o), hnum1 k h1 h2]


/-! ### The sentence that comes next -/

theorem closingKey_div {q : Nat} {k : Key} (h : ClosingKey q k) : k / 0x100 = 0x4C00 + q ∧ k % 0x100 ≠ 9 := by
  unfold ClosingKey at h
  unfold Obj.loadState Obj.sentences Obj.underruns Obj.settleMisses Obj.badClauses Obj.objFaults Obj.windowEnds Key at *
  omega

/-- What the choice of the next sentence of actuator a leaves of a player p of it that has none READY, and of a block that still lies ahead. -/
structure Kept (a p : Nat) (s t : State) : Prop where
  player : t.playerOf p = s.playerOf p
  num : ∀ k, k / 0x100 = 0x4C00 + p ∨ k % 0x100 = 9 → t.num k = s.num k
  raises : RaisesMore s t
  wedge : (t.chanOf a).wedge = (s.chanOf a).wedge
  block : ∀ w r, (s.actOf a).blockUntil = some (w, r) → 0 < wedgesTo s a r w → (t.actOf a).blockUntil = some (w, r)

theorem Kept.refl (a p : Nat) (s : State) : Kept a p s s := ⟨rfl, fun _ _ => rfl, .of_eq rfl, rfl, fun _ _ h _ => h⟩

theorem wedgesTo_congr {s t : State} {a : Nat} (hwedge : (t.chanOf a).wedge = (s.chanOf a).wedge) (hrev : t.num (Obj.revNow (2 * a)) = s.num (Obj.revNow (2 * a)))
    (r w : Nat) : wedgesTo t a r w = wedgesTo s a r w := by
  unfold wedgesTo revNow
  rw [hwedge, hrev]

theorem revNow_mod (p : Nat) : Obj.revNow p % 0x100 = 9 := by unfold Obj.revNow Key; omega

theorem Kept.wedgesTo {a p : Nat} {s t : State} (h : Kept a p s t) (r w : Nat) : Machine.wedgesTo t a r w = Machine.wedgesTo s a r w :=
  wedgesTo_congr h.wedge (h.num _ (.inr (revNow_mod _))) r w

theorem Kept.trans {a p : Nat} {s t u : State} (h : Kept a p s t) (h' : Kept a p t u) : Kept a p s u :=
  ⟨h'.player.trans h.player, fun k hk => (h'.num k hk).trans (h.num k hk), h.raises.trans h'.raises, h'.wedge.trans h.wedge,
    fun w r hs hahead => h'.block w r (h.block w r hs hahead) (by rw [h.wedgesTo]; exact hahead)⟩

theorem Closed.kept {p q : Nat} {o : Outcome} {s t : State} (h : Closed q o s t) (hne : p ≠ q) (a : Nat) : Kept a p s t where
  player := h.others p hne
  num k hk := h.num k fun hc => by
    obtain ⟨h1, h2⟩ := closingKey_div hc
    rcases hk with hk | hk
    · exact hne (Nat.add_left_cancel (hk.symm.trans h1))
    · exact h2 hk
  raises := h.raises
  wedge := h.wedge a
  block w r hs _ := (h.acts a).trans hs

/-- Player q's end blocks the actuator only where no block lies ahead. -/
theorem blockAfter_kept {a p q : Nat} {s : State} (hreached : startReached s a (s.playerOf q).header = true) (hfree : startBlocked s a (s.playerOf q).header = false) :
    Kept a p s (blockAfter s q) := by
  have hnone (w r : Nat) (hs : (s.actOf a).blockUntil = some (w, r)) : ¬0 < wedgesTo s a r w := by
    unfold startBlocked at hfree
    rw [hs] at hfree
    have hahead := of_decide_eq_true hreached
    have hbefore := of_decide_eq_false hfree
    omega
  unfold blockAfter
  dsimp only
  split
  · exact .refl a p s
  · exact ⟨rfl, fun _ _ => rfl, .of_eq rfl, rfl, fun w r hs hahead => absurd hahead (hnone w r hs)⟩

theorem underrunNow_kept {a p q : Nat} (hq8 : q < 8) {s : State} (hne : p ≠ q) (hidle : s.num (Obj.loadState p) ≠ 2)
    (hreached : startReached s a (s.playerOf q).header = true) (hfree : startBlocked s a (s.playerOf q).header = false) : Kept a p s (underrunNow s q) := by
  have hblock : Kept a p s (blockAfter s q) := blockAfter_kept hreached hfree
  have hclosed := hblock.trans ((closeSentence_closed (blockAfter s q) hq8 .underrun).kept hne a)
  have hload : Obj.loadState p / 0x100 = 0x4C00 + p := by unfold Obj.loadState Key; omega
  unfold underrunNow blockedUnderrun
  split
  · next hother =>
    have hpo : p ≠ otherPlayer q := fun e => by
      have hready := hother.1
      rw [← e, hclosed.num _ (.inl hload)] at hready
      exact hidle hready
    exact hclosed.trans ((closeSentence_closed _ (by unfold otherPlayer; split <;> omega) .underrun).kept hpo a)
  · exact hclosed

theorem nextReady_ready {s : State} {a q : Nat} (h : nextReady s a = some q) : s.num (Obj.loadState q) = 2 ∧ (q = 2 * a ∨ q = 2 * a + 1) := by
  have hready : isReady s q = true ∧ (q = 2 * a ∨ q = 2 * a + 1) := by
    unfold nextReady at h
    dsimp only at h
    split at h
    · next hboth =>
      rw [Bool.and_eq_true] at hboth
      split at h
      · obtain rfl := Option.some.inj h
        exact ⟨hboth.1, .inl rfl⟩
      · obtain rfl := Option.some.inj h
        exact ⟨hboth.2, .inr rfl⟩
    · split at h
      · next hr =>
        obtain rfl := Option.some.inj h
        exact ⟨hr, .inl rfl⟩
      · split at h
        · next hr =>
          obtain rfl := Option.some.inj h
          exact ⟨hr, .inr rfl⟩
        · exact absurd h (by simp)
  unfold isReady at hready
  rw [Bool.and_eq_true, decide_eq_true_eq] at hready
  exact ⟨hready.1.1, hready.2⟩


theorem prerollPosts_kept {a p q : Nat} (ha : a < 4) (hne : p ≠ q) (s : State) : Kept a p s (prerollPosts s a q) := by
  have hparts := within_iff.mp (@prerollPosts_frame [.chan, .players, .acts, .outs] s (touch_of rfl) (touch_of rfl) (touch_of rfl) (touch_of rfl) s a q (.refl _ s))
  have hqueue (u : State) (f : PreampFrame) : (queueFrame u a f).players = u.players ∧ ((queueFrame u a f).chanOf a).wedge = (u.chanOf a).wedge ∧
      (queueFrame u a f).acts = u.acts := by
    obtain ⟨⟨fr, bus, hchan⟩, -, hplayers, -⟩ := queueFrame_effect u ha f
    have hq := within_iff.mp (@queueFrame_frame [.chan, .outs] u (touch_of rfl) (touch_of rfl) u a f (.refl _ u))
    exact ⟨hplayers, by rw [hchan], hq .acts (by decide)⟩
  have hposted : (prerollPosts s a q).playerOf p = s.playerOf p ∧ ((prerollPosts s a q).chanOf a).wedge = (s.chanOf a).wedge ∧
      ((prerollPosts s a q).actOf a).blockUntil = (s.actOf a).blockUntil := by
    unfold prerollPosts
    extract_lets h act s1 s2 s3 s4
    have h1 : s1.playerOf p = s.playerOf p := playerOf_modPlayer_other s _ hne.symm
    have h2 : s2.players = s1.players ∧ (s2.chanOf a).wedge = (s.chanOf a).wedge ∧ s2.acts = s.acts := by
      unfold s2
      split
      · exact hqueue s1 _
      · exact ⟨rfl, rfl, rfl⟩
    have h3 : s3.players = s1.players ∧ (s3.chanOf a).wedge = (s.chanOf a).wedge ∧ s3.acts = s.acts := by
      obtain ⟨hplayers, hwedge, hacts⟩ := hqueue s2 (sentenceFrame (preampRegs s2 a).mode (modeCode s2 a (match h.preroll with | 0 => 1 | 1 => 2 | _ => 0)) true)
      exact ⟨hplayers.trans h2.1, hwedge.trans h2.2.1, hacts.trans h2.2.2⟩
    have h4 : s4.players = s1.players ∧ (s4.chanOf a).wedge = (s.chanOf a).wedge ∧ s4.acts = s.acts := by
      unfold s4
      split
      · exact ⟨h3.1, (field_modChan (π := Channel.wedge) s3 a a _ (by intro; rfl)).trans h3.2.1, h3.2.2⟩
      · exact h3
    refine ⟨(playerOf_congr h4.1 p).trans h1, h4.2.1, ?_⟩
    refine (field_modAct (π := Actuator.blockUntil) s4 a a _ (by intro; rfl)).trans ?_
    rw [actOf_congr h4.2.2]
  exact ⟨hposted.1, fun k _ => State.num_congr (hparts .objs (by decide)) k, .of_eq (hparts .raised (by decide)), hposted.2.1, fun w r hs _ => hposted.2.2.trans hs⟩

/-- The choice of the next sentence leaves a player that has none READY alone. -/
theorem prerollNext_kept {a p : Nat} (ha : a < 4) (hp : p < 8) (fuel : Nat) {s : State} (hidle : s.num (Obj.loadState p) ≠ 2) :
    Kept a p s (prerollNext fuel s a) := by
  have hload : Obj.loadState p / 0x100 = 0x4C00 + p := by unfold Obj.loadState Key; omega
  have hstill {u : State} (h : Kept a p s u) : u.num (Obj.loadState p) ≠ 2 := by rw [h.num _ (.inl hload)]; exact hidle
  induction fuel generalizing s with
  | zero => exact .refl a p s
  | succ n ih =>
    have hnext {u : State} (h : Kept a p s u) : Kept a p s (prerollNext n u a) := h.trans (ih (hstill h) fun h' => hstill (h.trans h'))
    unfold prerollNext
    split
    · exact .refl a p s
    · split
      · exact .refl a p s
      · next q hq =>
        obtain ⟨hready, hown⟩ := nextReady_ready hq
        have hne : p ≠ q := fun e => hidle (e ▸ hready)
        have hq8 : q < 8 := by omega
        split
        · exact hnext ((closeSentence_closed s hq8 .underrun).kept hne a)
        · next hfree =>
          split
          · next hreached => exact hnext (underrunNow_kept hq8 hne hidle hreached (Bool.not_eq_true _ ▸ hfree))
          · have hposts := prerollPosts_kept ha hne s
            dsimp only
            split
            · exact hnext (hposts.trans ((closeSentence_closed _ hq8 .settleMiss).kept hne a))
            · exact hposts


/-! ### Loads -/

/-- The player of a sentence at addr. -/
def loadedPlayer (s : State) (p addr : Nat) (pl : Player) : Player :=
  let h := headerOf (dramRead s.mem addr 128)
  let b := dramRead s.mem addr (sentenceLen h)
  { Player.reset with
    set := settingsNow s (playerAct p) p, lanes := h.lanes &&& lanesRunning s (playerAct p), np := npRecord s (playerAct p) h.eqPreset, header := h
    entries := entriesOfBytes b h, skips := skipsOfBytes b h, freezes := freezesOfBytes b h, loadAddr := addr
    loadOrder := pl.loadOrder, readyTick := s.tick, pc := h.entry, curWedge := h.startWedge, records := pl.records }

/-- The status area of a sentence at addr prepared. -/
def preparedArea (t s : State) (addr : Nat) : State :=
  let h := headerOf (dramRead s.mem addr 128)
  dramWrite (t.each (entriesOfBytes (dramRead s.mem addr (sentenceLen h)) h).zipIdx fun s (e, i) => dramWrite s (statusAddr h i) (preparedWord h i e))
    (h.statusBase + 60) (leBytes 4 0)

theorem takeSentence_eq (s : State) (p addr : Nat) :
    takeSentence s p addr = ((preparedArea (s.modPlayer p (loadedPlayer s p addr)) s addr).setNum (Obj.loadState p) 2).setNum (Obj.seqNow p)
      (headerOf (dramRead s.mem addr 128)).seq := rfl

theorem preparedArea_parts (t s : State) (addr : Nat) : Within [.mem] t (preparedArea t s addr) := by
  unfold preparedArea
  refine @dramWrite_frame [.mem] t (touch_of rfl) _ _ _ (State.each_inv (P := Within [.mem] t) (.refl _ t) fun u x _ hu => ?_)
  exact @dramWrite_frame [.mem] t (touch_of rfl) u _ _ hu

/-- The sentence of a load that passes its checks, taken up by its player. -/
theorem takeSentence_effect (s : State) {p : Nat} (hp : p < 8) (addr : Nat) :
    Within [.objs, .players, .mem] s (takeSentence s p addr) ∧ (∀ q, q ≠ p → (takeSentence s p addr).playerOf q = s.playerOf q) ∧
    (takeSentence s p addr).num (Obj.loadState p) = 2 ∧ (takeSentence s p addr).num (Obj.seqNow p) = (headerOf (dramRead s.mem addr 128)).seq ∧
    (takeSentence s p addr).playerOf p = loadedPlayer s p addr (s.playerOf p) ∧
    ∀ k, k ≠ Obj.loadState p → k ≠ Obj.seqNow p → (takeSentence s p addr).num k = s.num k := by
  have hne : Obj.loadState p ≠ Obj.seqNow p := by unfold Obj.loadState Obj.seqNow Key; omega
  have hparts : Within [.objs, .players, .mem] s (takeSentence s p addr) :=
    @takeSentence_frame [.objs, .players, .mem] s (touch_of rfl) (touch_of rfl) (touch_of rfl) s p addr (.refl _ s)
  refine ⟨hparts, ?_⟩
  have harea := within_iff.mp (preparedArea_parts (s.modPlayer p (loadedPlayer s p addr)) s addr)
  have hplayers := harea .players (by decide)
  have hobjs := harea .objs (by decide)
  rw [takeSentence_eq]
  generalize preparedArea (s.modPlayer p (loadedPlayer s p addr)) s addr = t at hplayers hobjs ⊢
  have hplayer (q : Nat) : ((t.setNum (Obj.loadState p) 2).setNum (Obj.seqNow p) (headerOf (dramRead s.mem addr 128)).seq).playerOf q =
      (s.modPlayer p (loadedPlayer s p addr)).playerOf q := playerOf_congr hplayers q
  refine ⟨fun q hq => (hplayer q).trans (playerOf_modPlayer_other s _ hq.symm), ?_, State.num_setNum_self .., (hplayer p).trans (playerOf_modPlayer s _ hp), fun k h1 h3 => ?_⟩
  · rw [State.num_setNum_other _ _ hne, State.num_setNum_self]
  · rw [State.num_setNum_other _ _ h3, State.num_setNum_other _ _ h1]
    exact State.num_congr hobjs k

section
variable {s : State} {p : Fin 8} (hload : s.num (Obj.loadState p) = 1)
include hload

theorem exec_fetchDone_rejected {n : Nat} (hreject : loadReject s p (s.playerOf p).loadAddr = n) (hn : n ≠ 0) :
    exec (.sentenceFetchDone p) s = .next (((s.setNum (Obj.loadState p) (if s.num (Obj.playerState p) = 0 then 4 else 0)).setNum (Obj.loadReject p) n).raiseAct
      (playerAct p) (scheduleOffset p) p 3) := by
  have hleft : (if decide (s.num (Obj.playerState p) ≠ stRunning) = true then (0 : Nat) else 4) = if s.num (Obj.playerState p) = 0 then 4 else 0 := by
    by_cases h : s.num (Obj.playerState p) = 0
    · rw [if_pos h, h]
      rfl
    · rw [if_neg h]
      exact if_pos (decide_eq_true h)
  show execSentenceFetchDone p s = _
  unfold execSentenceFetchDone
  dsimp only
  rw [if_neg (by rw [hload]; decide), hleft]
  cases n with
  | zero => exact absurd rfl hn
  | succ n =>
    rw [hreject]
    rfl

theorem exec_fetchDone_taken (hok : loadReject s p (s.playerOf p).loadAddr = 0) :
    exec (.sentenceFetchDone p) s =
      let t := takeSentence s p (s.playerOf p).loadAddr
      if s.num (Obj.playerState p) ≠ 0 then .next (discardReady t p)
      else if deadlinePassed t (playerAct p) (t.playerOf p).header then .next (prerollNext 2 (underrunNow t p) (playerAct p))
      else .next (prerollNext 2 t (playerAct p)) := by
  show execSentenceFetchDone p s = _
  unfold execSentenceFetchDone
  dsimp only
  rw [if_neg (by rw [hload]; decide), hok]
  by_cases h : s.num (Obj.playerState p) = 0
  · rw [if_neg (not_not.mpr h)]
    exact if_neg (by rw [h]; decide)
  · rw [if_pos h]
    exact if_pos (decide_eq_true h)

end

/-- The place of a start is read the same after a load. -/
theorem takeSentence_ahead (s : State) {p : Nat} (hp : p < 8) (addr a : Nat) (r w : Nat) : wedgesTo (takeSentence s p addr) a r w = wedgesTo s a r w := by
  obtain ⟨hparts, -, -, -, -, hnum⟩ := takeSentence_effect s hp addr
  refine wedgesTo_congr (congrArg Channel.wedge (chanOf_congr (within_iff.mp hparts .chan (by decide)) a)) (hnum _ ?_ ?_) r w
  · unfold Obj.revNow Obj.loadState Key; omega
  · unfold Obj.revNow Obj.seqNow Key; omega

theorem takeSentence_checks (s : State) {p : Nat} (hp : p < 8) (addr a : Nat) (h : Header) :
    deadlinePassed (takeSentence s p addr) a h = deadlinePassed s a h ∧ startBlocked (takeSentence s p addr) a h = startBlocked s a h ∧
    startReached (takeSentence s p addr) a h = startReached s a h ∧ startPassed (takeSentence s p addr) a h = startPassed s a h := by
  have hacts := actOf_congr (within_iff.mp (takeSentence_effect s hp addr).1 .acts (by decide)) a
  unfold deadlinePassed startBlocked startReached startPassed wedgesAhead
  simp only [takeSentence_ahead s hp, hacts]
  exact ⟨trivial, trivial, trivial, trivial⟩

/-- The other player of an actuator. -/
theorem otherPlayer_ne (p : Nat) : otherPlayer p ≠ p := by
  unfold otherPlayer
  split <;> omega

/-- A player whose sentence has ended UNDERRUN: what the end counts, raises and keeps. -/
structure Underran (p : Nat) (s t : State) : Prop where
  ended : SentenceEnded t p .underrun
  counted : Counted (Obj.underruns p) s t
  event : RaisedSince s t (448 + 64 * (p / 2) + 14 + 2 * (p % 2)) p 1

/-- What stands before the end. -/
theorem Underran.before {p : Nat} {s u t : State} (h : Underran p u t) (hnum : u.num (Obj.underruns p) = s.num (Obj.underruns p)) (hraised : u.raised = s.raised) :
    Underran p s t where
  ended := h.ended
  counted := by
    have hc := h.counted
    unfold Counted at hc ⊢
    rwa [hnum] at hc
  event := by
    obtain ⟨l, hl, hmem⟩ := h.event
    exact ⟨l, by rw [hl, hraised], hmem⟩

/-- What follows it. -/
theorem Underran.kept {a p : Nat} {s t u : State} (h : Underran p s t) (hkept : Kept a p t u) : Underran p s u where
  ended := by
    obtain ⟨hload, hout, hplay, hbound⟩ := h.ended
    refine ⟨(hkept.num _ (.inl ?_)).trans hload, ?_, ?_, ?_⟩
    · unfold Obj.loadState Key; omega
    all_goals rw [hkept.player]; assumption
  counted hroom := (hkept.num _ (.inl (by unfold Obj.underruns Key; omega))).trans (h.counted hroom)
  event := by
    obtain ⟨l, hl, hmem⟩ := h.event
    obtain ⟨l', hl'⟩ := hkept.raises
    exact ⟨l ++ l', by rw [hl', hl, List.append_assoc], List.mem_append_left _ hmem⟩

theorem Closed.underran {p : Nat} {s t : State} (h : Closed p .underrun s t) : Underran p s t := ⟨h.ended, h.counted _ rfl, h.event rfl⟩

theorem Closed.wedgesTo {q : Nat} {o : Outcome} {s t : State} (h : Closed q o s t) (a r w : Nat) : Machine.wedgesTo t a r w = Machine.wedgesTo s a r w :=
  wedgesTo_congr (h.wedge a) (h.num _ fun hc => (closingKey_div hc).2 (revNow_mod _)) r w

/-- The start of player p's sentence one revolution later, as a place on the track. -/
abbrev laterStart (h : Header) : Nat × Nat := (h.startWedge, (h.startRev + 1) % 65536)

theorem blockAfter_blocks (s : State) {p a : Nat} (hp : p < 8) (ha : playerAct p = a)
    (hahead : 0 < wedgesTo s a (((s.playerOf p).header.startRev + 1) % 65536) (s.playerOf p).header.startWedge) :
    ((blockAfter s p).actOf a).blockUntil = some (laterStart (s.playerOf p).header) := by
  subst ha
  unfold blockAfter
  dsimp only
  rw [if_neg (by omega), actOf_modAct s _ (by unfold playerAct; omega)]

theorem blockAfter_still (s : State) (p : Nat) : Within [.acts] s (blockAfter s p) := by
  unfold blockAfter
  dsimp only
  split
  · exact .refl _ s
  · exact @State.modAct_frame [.acts] s (touch_of rfl) _ _ _ (.refl _ s)

/-- The underrun of player p, and the block of its actuator. -/
theorem underrunNow_underran {s : State} {p : Nat} (hp : p < 8) {a : Nat} (ha : playerAct p = a) :
    Underran p s (underrunNow s p) ∧ (0 < wedgesTo s a (((s.playerOf p).header.startRev + 1) % 65536) (s.playerOf p).header.startWedge →
      ((underrunNow s p).actOf a).blockUntil = some (laterStart (s.playerOf p).header) ∧
      0 < wedgesTo (underrunNow s p) a (((s.playerOf p).header.startRev + 1) % 65536) (s.playerOf p).header.startWedge) := by
  have hstill := within_iff.mp (blockAfter_still s p)
  have hobjs := hstill .objs (by decide)
  have hblocks := blockAfter_blocks s hp ha
  have hahead (r w : Nat) : wedgesTo (blockAfter s p) a r w = wedgesTo s a r w :=
    wedgesTo_congr (congrArg Channel.wedge (chanOf_congr (hstill .chan (by decide)) a)) (State.num_congr hobjs _) r w
  have hclosed := closeSentence_closed (blockAfter s p) hp .underrun
  have hother : Kept a p (closeSentence (blockAfter s p) p .underrun) (underrunNow s p) := by
    unfold underrunNow blockedUnderrun
    split
    · exact (closeSentence_closed _ (by unfold otherPlayer; split <;> omega) .underrun).kept (otherPlayer_ne p).symm a
    · exact .refl _ _ _
  refine ⟨(hclosed.underran.before (State.num_congr hobjs _) (hstill .raised (by decide))).kept hother, fun hlater => ⟨?_, ?_⟩⟩
  · exact hother.block _ _ ((hclosed.acts a).trans (hblocks hlater)) (by rw [hclosed.wedgesTo, hahead]; exact hlater)
  · rw [hother.wedgesTo, hclosed.wedgesTo, hahead]
    exact hlater

/-- The underrun of player p, with the sentence that comes next. -/
theorem underrunNext_underran {s : State} {p : Nat} (hp : p < 8) {a : Nat} (ha : playerAct p = a) :
    Underran p s (prerollNext 2 (underrunNow s p) a) ∧
    (0 < wedgesTo s a (((s.playerOf p).header.startRev + 1) % 65536) (s.playerOf p).header.startWedge →
      ((prerollNext 2 (underrunNow s p) a).actOf a).blockUntil = some (laterStart (s.playerOf p).header)) := by
  obtain ⟨hunder, hblock⟩ := underrunNow_underran (s := s) hp ha
  have hkept : Kept a p (underrunNow s p) (prerollNext 2 (underrunNow s p) a) := by
    refine prerollNext_kept (by rw [← ha]; unfold playerAct; omega) hp 2 ?_
    rw [hunder.ended.1]
    decide
  exact ⟨hunder.kept hkept, fun hlater => hkept.block _ _ (hblock hlater).1 (hblock hlater).2⟩

/-- The end of player p's sentence, with the sentence that comes next. -/
theorem finishSentence_kept (s : State) {p : Nat} (hp : p < 8) (o : Outcome) :
    Closed p o s (closeSentence s p o) ∧ Kept (playerAct p) p (closeSentence s p o) (finishSentence s p o) := by
  have hclosed := closeSentence_closed s hp o
  refine ⟨hclosed, prerollNext_kept (by unfold playerAct; omega) hp 2 ?_⟩
  rw [hclosed.ended.1]
  decide

theorem SentenceEnded.kept {a p : Nat} {o : Outcome} {s t : State} (h : SentenceEnded s p o) (hkept : Kept a p s t) : SentenceEnded t p o := by
  obtain ⟨hload, hout, hplay, hbound⟩ := h
  refine ⟨(hkept.num _ (.inl (by unfold Obj.loadState Key; omega))).trans hload, ?_, ?_, ?_⟩
  all_goals rw [hkept.player]; assumption

theorem finishSentence_ended (s : State) {p : Nat} (hp : p < 8) (o : Outcome) : SentenceEnded (finishSentence s p o) p o :=
  (finishSentence_kept s hp o).1.ended.kept (finishSentence_kept s hp o).2

/-! ### A load that passes -/

section
variable {s : State} {p : Fin 8} (hload : s.num (Obj.loadState p) = 1) (hok : loadReject s p (s.playerOf p).loadAddr = 0)

/-- The sentence that p's load brings, and the state with it taken up. -/
abbrev takenUp (s : State) (p : Nat) : State := takeSentence s p (s.playerOf p).loadAddr

/-- The header of the sentence that p loads. -/
abbrev loadHeader (s : State) (p : Nat) : Header := headerOf (dramRead s.mem (s.playerOf p).loadAddr 128)

theorem takenUp_header (s : State) {p : Nat} (hp : p < 8) : ((takenUp s p).playerOf p).header = loadHeader s p := by
  rw [(takeSentence_effect s hp _).2.2.2.2.1]
  rfl

theorem takenUp_underran (s : State) {p : Nat} (hp : p < 8) {t : State} (h : Underran p (takenUp s p) t) : Underran p s t := by
  obtain ⟨hparts, -, -, -, -, hnum⟩ := takeSentence_effect s hp (s.playerOf p).loadAddr
  refine h.before (hnum _ ?_ ?_) (within_iff.mp hparts .raised (by decide))
  · unfold Obj.underruns Obj.loadState Key; omega
  · unfold Obj.underruns Obj.seqNow Key; omega

/-- An underrun of the sentence just loaded. -/
theorem takenUp_underrunNext (s : State) (p : Fin 8) :
    let t := prerollNext 2 (underrunNow (takenUp s p) p) (playerAct p)
    Underran p s t ∧ (0 < wedgesTo s (playerAct p) (((loadHeader s p).startRev + 1) % 65536) (loadHeader s p).startWedge →
      (t.actOf (playerAct p)).blockUntil = some (laterStart (loadHeader s p))) := by
  obtain ⟨hunder, hblock⟩ := underrunNext_underran (s := takenUp s p) p.isLt rfl
  rw [takenUp_header s p.isLt, takeSentence_ahead s p.isLt] at hblock
  exact ⟨takenUp_underran s p.isLt hunder, hblock⟩

/-- The pre-roll of player p's sentence. -/
theorem prerollPosts_effect (s : State) {a p : Nat} (ha : a < 4) (hp : p < 8) :
    ((prerollPosts s a p).playerOf p).preroll = true ∧ ((prerollPosts s a p).actOf a).playing = some p ∧
    ((prerollPosts s a p).actOf a).lastSurface = (s.playerOf p).header.surface ∧ (prerollPosts s a p).objs = s.objs := by
  have hparts := within_iff.mp (@prerollPosts_frame [.chan, .players, .acts, .outs] s (touch_of rfl) (touch_of rfl) (touch_of rfl) (touch_of rfl) s a p (.refl _ s))
  have hqueue (u : State) (f : PreampFrame) : (queueFrame u a f).players = u.players := (queueFrame_effect u ha f).2.2.1
  refine ⟨?_, ?_, ?_, hparts .objs (by decide)⟩
  · unfold prerollPosts
    extract_lets h act s1 s2 s3 s4
    have h2 : s2.players = s1.players := by
      unfold s2
      split
      · exact hqueue s1 _
      · rfl
    have h4 : s4.players = s1.players := by
      unfold s4
      split <;> exact (hqueue s2 _).trans h2
    exact (congrArg Player.preroll (playerOf_congr h4 p)).trans (congrArg Player.preroll (playerOf_modPlayer s _ hp))
  · unfold prerollPosts
    dsimp only
    rw [actOf_modAct _ _ ha]
  · unfold prerollPosts
    dsimp only
    rw [actOf_modAct _ _ ha]

theorem prerollNext_of_playing (fuel : Nat) {s : State} {a : Nat} (h : (s.actOf a).playing ≠ none) : prerollNext fuel s a = s := by
  cases fuel with
  | zero => rfl
  | succ n =>
    unfold prerollNext
    exact if_pos (by rw [Option.isSome_iff_ne_none.mpr h]; rfl)

/-- The only READY sentence of its actuator, whose start lies more than two wedges ahead, begins its pre-roll. -/
theorem prerollNext_begins {n : Nat} {s : State} {a p : Nat} (hnone : (s.actOf a).playing = none) (hcollector : s.num Obj.collectorState ≠ 1)
    (hnext : nextReady s a = some p) (hfree : startBlocked s a (s.playerOf p).header = false) (htime : deadlinePassed s a (s.playerOf p).header = false) :
    prerollNext (n + 1) s a = prerollPosts s a p := by
  have hahead := of_decide_eq_false htime
  have hreached : startReached s a (s.playerOf p).header = false := decide_eq_false (by omega)
  have hpassed : startPassed s a (s.playerOf p).header = false := decide_eq_false (by omega)
  unfold prerollNext
  rw [if_neg (by rw [hnone, decide_eq_false hcollector]; decide), hnext]
  dsimp only
  rw [if_neg (by rw [hfree]; decide), if_neg (by rw [hreached]; decide), if_neg (by rw [hpassed]; decide)]

theorem nextReady_of_only {s : State} {p : Nat} (hready : isReady s p = true) (hother : isReady s (otherPlayer p) = false) : nextReady s (p / 2) = some p := by
  unfold nextReady
  unfold otherPlayer at hother
  dsimp only
  by_cases heven : p % 2 = 0
  · obtain ⟨h1, h2⟩ : 2 * (p / 2) = p ∧ 2 * (p / 2) + 1 = p + 1 := by omega
    rw [if_pos heven] at hother
    rw [h1, hready, hother]
    rfl
  · obtain ⟨h1, h2⟩ : 2 * (p / 2) = p - 1 ∧ p - 1 + 1 = p := by omega
    rw [if_neg heven] at hother
    rw [h1, h2, hready, hother]
    rfl

theorem takenUp_ready (s : State) {p : Nat} (hp : p < 8) :
    isReady (takenUp s p) p = true ∧ (s.num (Obj.loadState (otherPlayer p)) ≠ 2 → isReady (takenUp s p) (otherPlayer p) = false) := by
  obtain ⟨-, -, hload, -, hplayer, hnum⟩ := takeSentence_effect s hp (s.playerOf p).loadAddr
  unfold isReady
  rw [hload, hplayer]
  refine ⟨rfl, fun hother => ?_⟩
  have hne := otherPlayer_ne p
  rw [hnum _ (by unfold Obj.loadState Key; omega) (by unfold Obj.loadState Obj.seqNow Key; omega), decide_eq_false hother]
  rfl

include hload hok

theorem loadPasses_begins (hrun : s.num (Obj.playerState p) = 0) (htime : deadlinePassed s (playerAct p) (loadHeader s p) = false)
    (hnone : (s.actOf (playerAct p)).playing = none) (hcollector : s.num Obj.collectorState ≠ 1) (hother : s.num (Obj.loadState (otherPlayer p)) ≠ 2)
    (hfree : startBlocked s (playerAct p) (loadHeader s p) = false) : exec (.sentenceFetchDone p) s = .next (prerollPosts (takenUp s p) (playerAct p) p) := by
  obtain ⟨hparts, -, -, -, -, hnum⟩ := takeSentence_effect s p.isLt (s.playerOf p).loadAddr
  obtain ⟨hdeadline, hblocked, -, -⟩ := takeSentence_checks s p.isLt (s.playerOf p).loadAddr (playerAct p) (loadHeader s p)
  obtain ⟨hready, hidle⟩ := takenUp_ready s p.isLt
  have hacts := actOf_congr (within_iff.mp hparts .acts (by decide)) (playerAct p)
  rw [exec_fetchDone_taken hload hok]
  dsimp only
  rw [if_neg (not_not.mpr hrun), takenUp_header s p.isLt, hdeadline, htime]
  refine congrArg Host.Outcome.next (prerollNext_begins ?_ ?_ (nextReady_of_only hready (hidle hother)) ?_ ?_)
  · rw [hacts, hnone]
  · rw [hnum _ (by unfold Obj.collectorState Obj.loadState Key; omega) (by unfold Obj.collectorState Obj.seqNow Key; omega)]
    exact hcollector
  · rw [takenUp_header s p.isLt, hblocked, hfree]
  · rw [takenUp_header s p.isLt, hdeadline, htime]

theorem loadPasses_waits (hrun : s.num (Obj.playerState p) = 0) (htime : deadlinePassed s (playerAct p) (loadHeader s p) = false)
    (hplays : (s.actOf (playerAct p)).playing ≠ none) : exec (.sentenceFetchDone p) s = .next (takenUp s p) := by
  have hparts := (takeSentence_effect s p.isLt (s.playerOf p).loadAddr).1
  obtain ⟨hdeadline, -⟩ := takeSentence_checks s p.isLt (s.playerOf p).loadAddr (playerAct p) (loadHeader s p)
  rw [exec_fetchDone_taken hload hok]
  dsimp only
  rw [if_neg (not_not.mpr hrun), takenUp_header s p.isLt, hdeadline, htime]
  exact congrArg Host.Outcome.next (prerollNext_of_playing 2 (by rw [actOf_congr (within_iff.mp hparts .acts (by decide))]; exact hplays))

theorem loadPasses_discarded (hleft : s.num (Obj.playerState p) ≠ 0) : exec (.sentenceFetchDone p) s = .next (finishSentence (takenUp s p) p .discarded) := by
  obtain ⟨-, -, hload2, -, hplayer, -⟩ := takeSentence_effect s p.isLt (s.playerOf p).loadAddr
  rw [exec_fetchDone_taken hload hok]
  dsimp only
  rw [if_pos hleft]
  unfold discardReady dropReady
  rw [if_pos hload2, hplayer]
  rfl

theorem loadPasses_late (hrun : s.num (Obj.playerState p) = 0) (htime : deadlinePassed s (playerAct p) (loadHeader s p) = true) :
    exec (.sentenceFetchDone p) s = .next (prerollNext 2 (underrunNow (takenUp s p) p) (playerAct p)) := by
  obtain ⟨hdeadline, -⟩ := takeSentence_checks s p.isLt (s.playerOf p).loadAddr (playerAct p) (loadHeader s p)
  rw [exec_fetchDone_taken hload hok]
  dsimp only
  rw [if_neg (not_not.mpr hrun), takenUp_header s p.isLt, hdeadline, htime]
  rfl

theorem exec_underrun_late (htime : deadlinePassed s (playerAct p) (loadHeader s p) = true) (hfree : startBlocked s (playerAct p) (loadHeader s p) = false) :
    exec (.sentenceUnderrun p) s = .next (prerollNext 2 (underrunNow (takenUp s p) p) (playerAct p)) := by
  obtain ⟨-, hblocked, -, -⟩ := takeSentence_checks s p.isLt (s.playerOf p).loadAddr (playerAct p) (loadHeader s p)
  have hready : isReady s p = false := by
    unfold isReady
    rw [hload]
    rfl
  have hdue : underrunDue s p = true := by
    unfold underrunDue
    dsimp only
    rw [hready, hload, hok, htime]
    rfl
  show execSentenceUnderrun p s = _
  unfold execSentenceUnderrun
  dsimp only
  rw [hdue, hready]
  simp only [if_true, Bool.false_eq_true, if_false]
  rw [takenUp_header s p.isLt, hblocked, hfree]
  simp only [Bool.false_eq_true, if_false]

end

section
variable {s : State} {p : Fin 8} (hready : isReady s p = true)
include hready

theorem exec_underrun_blocked (hblocked : startBlocked s (playerAct p) (s.playerOf p).header = true) :
    exec (.sentenceUnderrun p) s = .next (finishSentence s p .underrun) := by
  show execSentenceUnderrun p s = _
  have hdue : underrunDue s p = true := by
    unfold underrunDue
    dsimp only
    rw [hready, hblocked, Bool.or_true]
    rfl
  unfold execSentenceUnderrun
  dsimp only
  simp only [hdue, hready, hblocked, if_true]
  rfl

theorem exec_underrun_reached (hfree : startBlocked s (playerAct p) (s.playerOf p).header = false)
    (hreached : startReached s (playerAct p) (s.playerOf p).header = true) :
    exec (.sentenceUnderrun p) s = .next (prerollNext 2 (underrunNow s p) (playerAct p)) := by
  show execSentenceUnderrun p s = _
  have hdue : underrunDue s p = true := by
    unfold underrunDue
    dsimp only
    rw [hready, hreached, Bool.true_or]
    rfl
  unfold execSentenceUnderrun
  dsimp only
  simp only [hdue, hready, hfree, if_true, Bool.false_eq_true, if_false]

end

/-! ### The statement -/

section
variable (s : State) (p : Fin 8) (n : Nat)

theorem Completes.mono {c : Instr} {s : State} {P Q : State → Prop} (h : Completes c s P) (hpq : ∀ t, P t → Q t) : Completes c s Q :=
  h.imp fun t ht => ⟨ht.1, hpq t ht.2⟩

/-- An underrun of player p, as the statement says it. -/
theorem Underran.said {p : Nat} {s t : State} (h : Underran p s t) :
    SentenceEnded t p .underrun ∧ Counted (Obj.underruns p) s t ∧ RaisedSince s t (448 + 64 * (p / 2) + 14 + 2 * (p % 2)) p 1 := ⟨h.ended, h.counted, h.event⟩

theorem load_rejected (hload : s.num (Obj.loadState p) = 1) (hreject : loadReject s p (s.playerOf p).loadAddr = n) (hn : n ≠ 0) :
    Completes (.sentenceFetchDone p) s fun t =>
      t.num (Obj.loadState p) = (if s.num (Obj.playerState p) = 0 then 4 else 0) ∧ t.num (Obj.loadReject p) = n ∧
      RaisedSince s t (448 + 64 * (p.val / 2) + 14 + 2 * (p.val % 2)) p 3 ∧ t.players = s.players := by
  have hne : Obj.loadState p ≠ Obj.loadReject p := by unfold Obj.loadState Obj.loadReject Key; omega
  have hsource : (if p.val % 2 = 0 then 14 else 16) = 14 + 2 * (p.val % 2) := by split <;> omega
  refine ⟨_, exec_fetchDone_rejected hload hreject hn, ?_, ?_, ?_, rfl⟩
  · exact (State.num_setNum_other _ _ hne).trans (State.num_setNum_self ..)
  · exact State.num_setNum_self ..
  · exact ⟨_, rfl, List.mem_singleton.mpr (by unfold scheduleOffset playerAct; congr 1; omega)⟩

section
variable (hload : s.num (Obj.loadState p) = 1) (hok : loadReject s p (s.playerOf p).loadAddr = 0)
include hload hok

theorem load_begins (hrun : s.num (Obj.playerState p) = 0) (htime : deadlinePassed s (playerAct p) (loadHeader s p) = false)
    (hnone : (s.actOf (playerAct p)).playing = none) (hcollector : s.num Obj.collectorState ≠ 1) (hother : s.num (Obj.loadState (otherPlayer p)) ≠ 2)
    (hfree : startBlocked s (playerAct p) (loadHeader s p) = false) :
    Completes (.sentenceFetchDone p) s fun t =>
      t.num (Obj.loadState p) = 2 ∧ (t.playerOf p).preroll = true ∧ (t.actOf (playerAct p)).playing = some p.val ∧
      (t.actOf (playerAct p)).lastSurface = (loadHeader s p).surface := by
  refine ⟨_, loadPasses_begins hload hok hrun htime hnone hcollector hother hfree, ?_⟩
  obtain ⟨hpreroll, hplaying, hsurface, hobjs⟩ := prerollPosts_effect (takenUp s p) (a := playerAct p) (by unfold playerAct; omega) p.isLt
  obtain ⟨-, -, hload2, -, -, -⟩ := takeSentence_effect s p.isLt (s.playerOf p).loadAddr
  exact ⟨(State.num_congr hobjs _).trans hload2, hpreroll, hplaying, hsurface.trans (congrArg Header.surface (takenUp_header s p.isLt))⟩

theorem load_waits (hrun : s.num (Obj.playerState p) = 0) (htime : deadlinePassed s (playerAct p) (loadHeader s p) = false)
    (hplays : (s.actOf (playerAct p)).playing ≠ none) :
    Completes (.sentenceFetchDone p) s fun t =>
      t.num (Obj.loadState p) = 2 ∧ t.num (Obj.seqNow p) = (loadHeader s p).seq ∧ (t.playerOf p).header = loadHeader s p ∧
      (t.playerOf p).pc = (loadHeader s p).entry ∧ (t.playerOf p).entries.length = (loadHeader s p).sectors ∧
      (t.playerOf p).loadOrder = (s.playerOf p).loadOrder ∧ (t.playerOf p).playing = false := by
  refine ⟨_, loadPasses_waits hload hok hrun htime hplays, ?_⟩
  obtain ⟨-, -, hload2, hseq, hplayer, -⟩ := takeSentence_effect s p.isLt (s.playerOf p).loadAddr
  refine ⟨hload2, hseq, takenUp_header s p.isLt, ?_⟩
  rw [hplayer]
  exact ⟨rfl, (List.length_map ..).trans List.length_range, rfl, rfl⟩

theorem load_passes : 
    (s.num (Obj.playerState p) ≠ 0 → Completes (.sentenceFetchDone p) s fun t => SentenceEnded t p .discarded) ∧
    (s.num (Obj.playerState p) = 0 → deadlinePassed s (playerAct p) (loadHeader s p) = true → Completes (.sentenceFetchDone p) s fun t => Underran p s t ∧
      (0 < wedgesTo s (playerAct p) (((loadHeader s p).startRev + 1) % 65536) (loadHeader s p).startWedge →
        (t.actOf (playerAct p)).blockUntil = some (laterStart (loadHeader s p)))) ∧
    (deadlinePassed s (playerAct p) (loadHeader s p) = true → startBlocked s (playerAct p) (loadHeader s p) = false →
      Completes (.sentenceUnderrun p) s fun t => Underran p s t ∧
      (0 < wedgesTo s (playerAct p) (((loadHeader s p).startRev + 1) % 65536) (loadHeader s p).startWedge →
        (t.actOf (playerAct p)).blockUntil = some (laterStart (loadHeader s p)))) :=
  ⟨fun hleft => ⟨_, loadPasses_discarded hload hok hleft, finishSentence_ended _ p.isLt _⟩,
    fun hrun htime => ⟨_, loadPasses_late hload hok hrun htime, takenUp_underrunNext s p⟩,
    fun htime hfree => ⟨_, exec_underrun_late hload hok htime hfree, takenUp_underrunNext s p⟩⟩

end

theorem ready_underruns (hload : s.num (Obj.loadState p) = 2) (hpreroll : (s.playerOf p).preroll = false) :
    (startBlocked s (playerAct p) (s.playerOf p).header = true → Completes (.sentenceUnderrun p) s (Underran p s)) ∧
    (startBlocked s (playerAct p) (s.playerOf p).header = false → startReached s (playerAct p) (s.playerOf p).header = true →
      Completes (.sentenceUnderrun p) s fun t => Underran p s t ∧
      (0 < wedgesTo s (playerAct p) (((s.playerOf p).header.startRev + 1) % 65536) (s.playerOf p).header.startWedge →
        (t.actOf (playerAct p)).blockUntil = some (laterStart (s.playerOf p).header))) := by
  have hready : isReady s p = true := by
    unfold isReady
    rw [hload, hpreroll]
    rfl
  obtain ⟨hclosed, hkept⟩ := finishSentence_kept s p.isLt .underrun
  exact ⟨fun hblocked => ⟨_, exec_underrun_blocked hready hblocked, hclosed.underran.kept hkept⟩,
    fun hfree hreached => ⟨_, exec_underrun_reached hready hfree hreached, underrunNext_underran p.isLt rfl⟩⟩

end

/-- Settles O23: every end of a load or of a READY sentence is one close of its player (`closeSentence_closed`), and the choice of the next sentence
leaves a player that has none READY, and a block that lies ahead, as they are (`prerollNext_kept`). -/
theorem sentenceLoadsAndUnderruns : Obligations.SentenceLoadsAndUnderruns := by
  unfold Obligations.SentenceLoadsAndUnderruns
  intro s p n
  refine ⟨load_rejected s p n, fun hload hok => ⟨load_begins s p hload hok, load_waits s p hload hok, ?_⟩, fun hload hpreroll => ?_⟩
  · obtain ⟨hdiscarded, hlate, hdue⟩ := load_passes s p hload hok
    exact ⟨hdiscarded, fun hrun htime => (hlate hrun htime).mono fun t ht => ⟨ht.1.said, ht.2⟩,
      fun htime hfree => (hdue htime hfree).mono fun t ht => ⟨ht.1.said, ht.2⟩⟩
  · obtain ⟨hblocked, hreached⟩ := ready_underruns s p hload hpreroll
    exact ⟨fun h => (hblocked h).mono fun t ht => ht.said, fun hfree h => (hreached hfree h).mono fun t ht => ⟨ht.1.said, ht.2⟩⟩

end Sys2Proof.Machine
end

section
/-!
PROOFS. The ends of sentences (R225, R241, R242, R245) and their records (R226).
-/

namespace Sys2Proof.Machine

/-! ### What a cut of the gates raises -/

section
variable {s t : State}

theorem RaisesMore.raiseAct (h : RaisesMore s t) (a k u d : Nat) : RaisesMore s (t.raiseAct a k u d) := h.trans ⟨_, rfl⟩

theorem RaisesMore.bump (h : RaisesMore s t) (k : Key) : RaisesMore s (t.bump k) := h.trans (.of_eq (State.raised_bump ..))

theorem RaisesMore.still {T : List Part} (h : RaisesMore s t) {u : State} (hparts : Within T t u) (hT : Part.raised ∉ T) : RaisesMore s u :=
  h.trans (.of_eq (within_iff.mp hparts .raised hT))

end

theorem laneFaults_raises (s : State) (a lanes : Nat) (e : Entry) : RaisesMore s (laneFaults s a lanes e) := by
  unfold laneFaults
  refine State.each_inv (P := RaisesMore s) (.of_eq rfl) fun t k _ ht => ?_
  have hone {u : State} (hu : RaisesMore s u) (c : Bool) (key : Key) (d : Nat) : RaisesMore s (if c then (u.bump key).raiseAct a (11 + k) k d else u) := by
    split
    · exact (hu.bump key).raiseAct ..
    · exact hu
  exact hone (hone (hone ht _ _ _) _ _ _) _ _ _

theorem captureClosed_raises (s : State) (p i : Nat) (e : Entry) : RaisesMore s (captureClosed s p i e) := by
  unfold captureClosed
  extract_lets a h e' s1 lanes s2 s3 s4
  have h2 : RaisesMore s s2 := (RaisesMore.of_eq (s := s) (t := s1) rfl).trans (laneFaults_raises s1 a lanes e')
  have h3 : RaisesMore s s3 := by
    unfold s3
    split
    · exact h2.raiseAct ..
    · exact h2
  have h4 : RaisesMore s s4 := by
    unfold s4
    split
    · exact h3.trans (.of_eq rfl)
    · exact h3
  exact h4.trans (.of_eq rfl)

theorem endEntry_still (s : State) (p i result : Nat) (poisoned : Bool) : Within [.players, .mem] s (endEntry s p i result poisoned) :=
  @endEntry_frame [.players, .mem] s (touch_of rfl) (touch_of rfl) s p i result poisoned (.refl _ s)

theorem captureStored_raises (s : State) {p : Nat} (hp : p < 8) (i : Nat) (e : Entry) : RaisesMore s (captureStored s p i e) := by
  have hkept : RaisesMore s (captureKept s p i e) := by
    unfold captureKept
    extract_lets a h o s1 s2
    have h2 : RaisesMore s s2 := by
      unfold s2
      split
      · exact .of_eq (State.raised_bump ..)
      · split
        · exact .of_eq (State.raised_bump ..)
        · exact .of_eq rfl
    let s3 := storeRingSlot s2 p (foundEntry h e) (slotOfCapture h (foundEntry h e))
    have h3 : RaisesMore s s3 := h2.trans (.of_eq rfl)
    exact h3.trans (postFront_posted s3 (by unfold a playerAct; omega) ⟨evCapture, (s3.chanOf a).streamWedge, (s3.chanOf a).streamT, some i⟩).raises
  rw [captureStored_eq]
  dsimp only
  generalize captureKept s p i e = t at hkept ⊢
  split
  · exact hkept
  · split
    · split
      · exact hkept.still (endEntry_still ..) (by decide)
      · exact hkept
    · let u := modEntry t p i fun e => { e with posted := true }
      have hposted : RaisesMore s u := hkept.trans (.of_eq rfl)
      exact hposted.still (postJob_parts u _ _ _ _ _) (by decide)

theorem stopCapture_raises (s : State) {p : Nat} (hp : p < 8) (i : Nat) : RaisesMore s (stopCapture s p i) := by
  unfold stopCapture
  split
  · next e he =>
    split
    · have hclosed := captureClosed_raises s p i e
      rw [endCapture_eq he]
      generalize captureClosed s p i e = t at hclosed ⊢
      split
      · split
        · exact hclosed.still (endEntry_still ..) (by decide)
        · exact hclosed
      · exact hclosed.trans (captureStored_raises t hp i _)
    · exact (RaisesMore.of_eq rfl).still (@cutCapture_frame [.dec, .players, .mem] s (touch_of rfl) (touch_of rfl) (touch_of rfl) s p i (.refl _ s)) (by decide)
  · exact .of_eq rfl

/-! ### The gates cut, and the sentence given up -/

/-- The state in which a sentence that is given up ends: its gates are closed and its reads are settled. -/
def cutOff (s : State) (p : Nat) : State := settleReads (allCloseCut s (playerAct p) p) p

theorem giveUp_eq (s : State) (p : Nat) (o : Outcome) : giveUp s p o = finishSentence (cutOff s p) p o := rfl

theorem cutOff_raises (s : State) {p : Nat} (hp : p < 8) : RaisesMore s (cutOff s p) := by
  unfold cutOff
  refine RaisesMore.still ?_ (@settleReads_frame [.players, .mem] _ (touch_of rfl) (touch_of rfl) _ p (.refl _ _)) (by decide)
  unfold allCloseCut
  extract_lets u v
  have hu : RaisesMore s u := by
    unfold u
    split
    · exact (RaisesMore.of_eq rfl).still (@cutWrite_frame [.objs, .chan, .players, .mem, .outs, .free] s (touch_of rfl) (touch_of rfl) (touch_of rfl)
        (touch_of rfl) (touch_of rfl) (touch_of rfl) s _ 0 false (.refl _ s)) (by decide)
    · exact .of_eq rfl
  have hv : RaisesMore s v := State.each_inv (P := RaisesMore s) hu fun t i _ ht => ht.trans (stopCapture_raises t hp i)
  exact hv.trans (.of_eq rfl)

/-- An object apart from a channel's counters is read the same. -/
theorem cutOff_num (s : State) {p : Nat} (hp : p < 8) {k : Key} (hk : Uncut k) : (cutOff s p).num k = s.num k := by
  have hat : At k (s.obj k) (cutOff s p) := settleReads_at _ p (allCloseCut_off hk hp s _ rfl)
  unfold State.num
  rw [hat]

/-- The objects of a player are none of a channel. -/
theorem uncut_of_player {p : Nat} (hp : p < 8) {k : Key} (hk : k / 0x100 = 0x4C00 + p) : Uncut k := by
  unfold Uncut Key at *
  omega

theorem outcomeKey_div {p : Nat} {o : Outcome} {k : Key} (h : outcomeKey p o = some k) : k / 0x100 = 0x4C00 + p := by
  have hkey : ClosingKey p k := by
    cases o <;> cases h <;> simp [ClosingKey]
  exact (closingKey_div hkey).1

/-- The end of player p's sentence with outcome o, as its objects, its events and its player show it. -/
structure Over (p : Nat) (o : Outcome) (s t : State) : Prop where
  ended : SentenceEnded t p o
  sentences : Counted (Obj.sentences p) s t
  counted : ∀ k, outcomeKey p o = some k → Counted k s t
  raises : RaisesMore s t

theorem Over.before {p : Nat} {o : Outcome} {s u t : State} (h : Over p o u t) (hnum : ∀ k, k / 0x100 = 0x4C00 + p → u.num k = s.num k)
    (hraises : RaisesMore s u) : Over p o s t where
  ended := h.ended
  sentences hroom := by
    have hread := hnum (Obj.sentences p) (by unfold Obj.sentences Key; omega)
    have hc := h.sentences
    unfold Counted at hc
    rw [hread] at hc
    exact hc hroom
  counted k hk hroom := by
    have hread := hnum k (outcomeKey_div hk)
    have hc := h.counted k hk
    unfold Counted at hc
    rw [hread] at hc
    exact hc hroom
  raises := hraises.trans h.raises

theorem finishSentence_over (s : State) {p : Nat} (hp : p < 8) (o : Outcome) : Over p o s (finishSentence s p o) := by
  obtain ⟨hclosed, hkept⟩ := finishSentence_kept s hp o
  refine ⟨hclosed.ended.kept hkept, fun hroom => ?_, fun k hk hroom => ?_, hclosed.raises.trans hkept.raises⟩
  · exact (hkept.num _ (.inl (by unfold Obj.sentences Key; omega))).trans (hclosed.sentences hroom)
  · exact (hkept.num k (.inl (outcomeKey_div hk))).trans (hclosed.counted k hk hroom)

theorem giveUp_over (s : State) {p : Nat} (hp : p < 8) (o : Outcome) : Over p o s (giveUp s p o) := by
  rw [giveUp_eq]
  exact (finishSentence_over (cutOff s p) hp o).before (fun k hk => cutOff_num s hp (uncut_of_player hp hk)) (cutOff_raises s hp)

/-! ### A clause up to its action -/

/-- What the clauses of a sentence read and write of its player: everything but its entries' reports, its gates, flags and marks, and its selectors. -/
def course (x : Player) : Player × List (Bool × Bool) :=
  ({ x with entries := [], gates := [], flags := 0, marks := [], selector := 0, frontEnd := 0 }, x.entries.map fun e => (e.isWrite, e.isParity))

/-- The steps of a phrase before its clause acts leave player p's course, and post at most n gate entries. -/
structure Onward (p n : Nat) (s t : State) : Prop where
  course : course (t.playerOf p) = course (s.playerOf p)
  gates : (t.playerOf p).gates.length ≤ (s.playerOf p).gates.length + n
  acts : t.acts = s.acts
  num : ∀ k, Uncut k → t.num k = s.num k

namespace Onward

variable {p m n : Nat} {s t u : State}

theorem refl (p : Nat) (s : State) : Onward p 0 s s := ⟨rfl, le_refl _, rfl, fun _ _ => rfl⟩

theorem add (h : Onward p m s t) (h' : Onward p n t u) : Onward p (m + n) s u :=
  ⟨h'.course.trans h.course, by have := h.gates; have := h'.gates; omega, h'.acts.trans h.acts, fun k hk => (h'.num k hk).trans (h.num k hk)⟩

theorem trans (h : Onward p 0 s t) (h' : Onward p n t u) : Onward p n s u :=
  ⟨h'.course.trans h.course, le_trans h'.gates (Nat.add_le_add_right h.gates n), h'.acts.trans h.acts, fun k hk => (h'.num k hk).trans (h.num k hk)⟩

theorem mono (h : Onward p m s t) (hle : m ≤ n) : Onward p n s t := ⟨h.course, by have := h.gates; omega, h.acts, h.num⟩

theorem of_player (hplayer : t.playerOf p = s.playerOf p) (hacts : t.acts = s.acts) (hnum : ∀ k, Uncut k → t.num k = s.num k) : Onward p 0 s t :=
  ⟨congrArg _ hplayer, by rw [hplayer]; exact le_refl _, hacts, hnum⟩

theorem of_within (h : Within [.chan, .mem, .outs, .dec, .raised] s t) : Onward p 0 s t :=
  have h := within_iff.mp h
  .of_player (playerOf_congr (h .players (by decide)) p) (h .acts (by decide)) fun k _ => State.num_congr (h .objs (by decide)) k

end Onward

theorem map_modify_of_same {α β : Type} (g : α → β) (f : α → α) (l : List α) (i : Nat) (h : ∀ x, l[i]? = some x → g (f x) = g x) :
    (l.modify i f).map g = l.map g := by
  apply List.ext_getElem?
  intro j
  rw [List.getElem?_map, List.getElem?_map, List.getElem?_modify]
  by_cases hj : i = j
  · subst hj
    cases hx : l[i]? with
    | none => rfl
    | some x => simp [h x hx]
  · simp [hj]

theorem modEntry_onward (s : State) (p q i : Nat) (f : Entry → Entry)
    (h : ∀ e, s.entryOf q i = some e → ((f e).isWrite, (f e).isParity) = (e.isWrite, e.isParity)) : Onward p 0 s (modEntry s q i f) := by
  refine ⟨?_, ?_, rfl, fun _ _ => rfl⟩
  · unfold modEntry State.modPlayer State.playerOf
    dsimp only
    rw [vget_vmod]
    split
    · next hq =>
      obtain ⟨rfl, -⟩ := hq
      exact Prod.ext rfl (map_modify_of_same _ _ _ _ h)
    · rfl
  · unfold modEntry State.modPlayer State.playerOf
    dsimp only
    rw [vget_vmod]
    split
    · exact le_refl _
    · exact le_refl _

theorem report_onward (s : State) (p q i mask : Nat) : Onward p 0 s (report s q i mask) :=
  modEntry_onward s p q i _ fun e _ => by
    split
    · rfl
    · rfl

theorem reportGated_onward (s : State) (p a mask : Nat) : Onward p 0 s (reportGated s a mask) :=
  State.each_inv (P := Onward p 0 s) (.refl p s) fun t x _ ht => ht.trans (report_onward t p x.1 x.2 mask)

theorem setFlags_onward (s : State) (p q mask : Nat) : Onward p 0 s (setFlags s q mask) := by
  unfold setFlags
  refine ⟨?_, ?_, rfl, fun _ _ => rfl⟩
  · exact field_modPlayer (π := course) s q p _ fun _ => rfl
  · exact le_of_eq (field_modPlayer (π := fun x => x.gates.length) s q p _ fun _ => rfl)

theorem endEntry_onward (s : State) (p q i result : Nat) (poisoned : Bool) : Onward p 0 s (endEntry s q i result poisoned) := by
  unfold endEntry
  split
  · exact .refl p s
  · next e he =>
    split
    · exact .refl p s
    · have hmod : Onward p 0 s (modEntry s q i fun _ => { e with result := result, final := true }) :=
        modEntry_onward s p q i _ fun e' he' => by
          obtain rfl := Option.some.inj (he.symm.trans he')
          rfl
      dsimp only
      split
      · exact hmod.trans (.of_player rfl rfl fun _ _ => rfl)
      · exact hmod

theorem writeIncomplete_onward (s : State) (p i mask : Nat) (poisoned : Bool) : Onward p 0 s (writeIncomplete s p i mask poisoned) := by
  unfold writeIncomplete
  split
  · exact .refl p s
  · split
    · exact .refl p s
    · refine ((report_onward s p p i _).trans (endEntry_onward _ p p i _ poisoned)).trans (.of_player (playerOf_congr (State.players_bump ..) p) (State.acts_bump ..) fun k hk => ?_)
      exact State.num_bump_other _ (Uncut.ne_incompleteCount hk _)

theorem settleUnposted_onward (s : State) (p i : Nat) : Onward p 0 s (settleUnposted s p i) := by
  have hplayed : Onward p 0 s (modEntry s p i fun e => { e with played := true }) := modEntry_onward s p p i _ fun _ _ => rfl
  unfold settleUnposted
  dsimp only
  split
  · split
    · exact hplayed.trans (endEntry_onward ..)
    · exact hplayed
  · exact hplayed

theorem leaveEntry_onward (s : State) (p : Nat) : Onward p 0 s (leaveEntry s p) := by
  unfold leaveEntry
  split
  · exact settleUnposted_onward s p _
  · exact .refl p s

theorem postGate_onward (s : State) (p action off entry : Nat) : Onward p 1 s (postGate s p action off entry) := by
  unfold postGate
  dsimp only
  refine ⟨field_modPlayer (π := course) s p p _ fun _ => rfl, ?_, rfl, fun _ _ => rfl⟩
  unfold State.modPlayer State.playerOf
  dsimp only
  rw [vget_vmod]
  split
  · exact le_of_eq (List.length_append ..)
  · exact Nat.le_succ _

theorem phraseFrame_onward (s : State) (p : Nat) (f : Phrase) : Onward p 0 s (phraseFrame s p f) :=
  .of_within (@phraseFrame_frame [.chan, .mem, .outs, .dec, .raised] s (touch_of rfl) (touch_of rfl) s p f (.refl _ s))

theorem phraseGate_onward (s : State) (p : Nat) (f : Phrase) : Onward p 1 s (phraseGate s p f) := by
  unfold phraseGate
  dsimp only
  split
  · refine Onward.trans ?_ (postGate_onward ..)
    exact modEntry_onward s p p _ _ fun _ _ => rfl
  · split
    · exact ((setFlags_onward s p p _).trans (writeIncomplete_onward _ p _ _ _)).mono (Nat.zero_le 1)
    · exact postGate_onward ..
  · exact postGate_onward ..
  · exact postGate_onward ..
  · exact postGate_onward ..
  · exact (Onward.refl p s).mono (Nat.zero_le 1)

/-- A phrase posts at most its gate entry and the begin of its freeze mask. -/
theorem applyPhrase_onward (s : State) (p : Nat) (f : Phrase) : Onward p 2 s (applyPhrase s p f) := by
  unfold applyPhrase
  extract_lets pl i s1 s2 s3 s4 s5
  split
  · exact (Onward.refl p s).mono (Nat.zero_le 2)
  · have h1 : Onward p 0 s s1 := by
      unfold s1
      split
      · exact modEntry_onward s p p i _ fun _ _ => rfl
      · exact .refl p s
    have h2 : Onward p 0 s1 s2 := ⟨field_modPlayer (π := course) s1 p p _ fun _ => rfl,
      le_of_eq (field_modPlayer (π := fun x => x.gates.length) s1 p p _ fun _ => rfl), rfl, fun _ _ => rfl⟩
    have h3 : Onward p 0 s2 s3 := phraseFrame_onward s2 p f
    have h4 : Onward p 0 s3 s4 := by
      unfold s4
      split
      · split
        · exact ⟨field_modPlayer (π := course) s3 p p _ fun _ => rfl, le_of_eq (field_modPlayer (π := fun x => x.gates.length) s3 p p _ fun _ => rfl), rfl, fun _ _ => rfl⟩
        · exact setFlags_onward s3 p p _
      · exact .refl p s3
    have h5 : Onward p 1 s4 s5 := by
      unfold s5
      split
      · exact postGate_onward ..
      · exact (Onward.refl p s4).mono (Nat.zero_le 1)
    exact ((((h1.trans h2).trans h3).trans h4).trans h5).add (phraseGate_onward s5 p f)

theorem endMask_onward (s : State) (p : Nat) : Onward p 1 s (endMask s p) := by
  unfold endMask
  split
  · exact postGate_onward ..
  · exact (Onward.refl p s).mono (Nat.zero_le 1)

theorem drainEvents_onward (s : State) (p : Nat) : Onward p 0 s (drainEvents s p) :=
  (setFlags_onward s p p _).trans (.of_player rfl rfl fun _ _ => rfl)

theorem fillWriteFifo_onward (s : State) (p a : Nat) : Onward p 0 s (fillWriteFifo s a) := by
  unfold fillWriteFifo postEvent postFront
  generalize hu : s.modChan a _ = u
  have hchan : Onward p 0 s u := hu ▸ .of_player rfl rfl fun _ _ => rfl
  refine hchan.trans ?_
  split
  · exact .refl p u
  · split
    · exact .of_player rfl rfl fun _ _ => rfl
    · dsimp only
      have hlost : Onward p 0 u (reportGated (u.modChan a fun c => { c with eventLost := true }) a rEventLost) := by
        refine Onward.trans ?_ (reportGated_onward _ p a _)
        exact .of_player rfl rfl fun _ _ => rfl
      split
      · exact hlost.trans (.of_player rfl rfl fun _ _ => rfl)
      · exact hlost

/-! ### A clause of a WAIT sentence -/

/-- The player that begins the clause at its address. -/
def clauseBegun (s : State) (p op phrase arg : Nat) : State :=
  (drainEvents s p).modPlayer p fun pl => { pl with clauseOp := op, clauseArg := arg, clausePhrase := phrase }

theorem clauseBegun_player (s : State) {p : Nat} (hp : p < 8) (op phrase arg : Nat) :
    ∃ m, (clauseBegun s p op phrase arg).playerOf p = { s.playerOf p with flags := (s.playerOf p).flags ||| m, clauseOp := op, clauseArg := arg, clausePhrase := phrase } := by
  refine ⟨(if (s.chanOf (playerAct p)).locked then fUnsafe else 0) ||| (if (s.chanOf (playerAct p)).eventLost then fEventLost else 0), ?_⟩
  have hsampled : (sampleEvents s p).playerOf p = _ := playerOf_modPlayer s _ hp
  refine (playerOf_modPlayer (drainEvents s p) _ hp).trans ?_
  have hdrained : (drainEvents s p).playerOf p = (sampleEvents s p).playerOf p := rfl
  rw [hdrained, hsampled]

theorem phraseWord_congr {s t : State} {p : Nat} (hacts : t.acts = s.acts) (hbank : (t.playerOf p).header.bank = (s.playerOf p).header.bank) (n : Nat) :
    phraseWord t p n = phraseWord s p n := by
  unfold phraseWord
  rw [hbank, actOf_congr hacts]

theorem Onward.phraseWord {p m : Nat} {s t : State} (h : Onward p m s t) (n : Nat) : Machine.phraseWord t p n = Machine.phraseWord s p n :=
  phraseWord_congr h.acts (congrArg (fun x => x.1.header.bank) h.course) n

theorem clauseBegun_still (s : State) {p : Nat} (hp : p < 8) (op phrase arg : Nat) :
    (clauseBegun s p op phrase arg).acts = s.acts ∧ (∀ k, (clauseBegun s p op phrase arg).num k = s.num k) ∧
    (∀ n, phraseWord (clauseBegun s p op phrase arg) p n = phraseWord s p n) := by
  obtain ⟨m, hplayer⟩ := clauseBegun_player s hp op phrase arg
  exact ⟨rfl, fun _ => rfl, fun n => phraseWord_congr (s := s) (t := clauseBegun s p op phrase arg) rfl (by rw [hplayer]) n⟩

/-- A clause at a boundary, but for SECTOR, begins unless it must stall. -/
theorem clauseStart_begins {s : State} {p : Fin 8} (hat : AtBoundary s p) {op phrase arg : Nat} (hhere : clauseHere s p = (op, phrase, arg)) (hop : op ≠ 6) :
    clauseStart s p op phrase arg =
      if mustStall (clauseBegun s p op phrase arg) p then (clauseBegun s p op phrase arg).modPlayer p fun pl => { pl with clause := .stalled }
      else clauseRun (clauseBegun s p op phrase arg) p := by
  obtain ⟨hplay, hended, hnone, habort, -⟩ := hat
  have hbound : atBoundary s p = true := by
    unfold atBoundary
    dsimp only
    rw [hplay, hended, hnone]
    rfl
  have hdrain : ((drainEvents s p).playerOf p).abortAsked = false :=
    (congrArg (fun x => x.1.abortAsked) (drainEvents_onward s p).course).trans habort
  unfold clauseStart
  rw [hbound, hhere, decide_eq_false fun h => h rfl, if_neg (by decide)]
  dsimp only
  rw [hdrain, if_neg Bool.false_ne_true, if_neg hop]
  rfl

/-- With room in its gate FIFO a WAIT sentence does not stall. -/
theorem mustStall_of_wait {s : State} {p : Nat} (hmode : (s.playerOf p).header.timingMode = 1) (hroom : (s.playerOf p).gates.length ≤ 29) : mustStall s p = false := by
  unfold mustStall gatesFull
  dsimp only
  rw [hmode]
  simp only [Bool.false_and, Bool.or_false, decide_eq_false_iff_not]
  split_ifs <;> omega

/-- The player as it runs its clause. -/
def clauseRuns (s : State) (p : Nat) : State := s.modPlayer p fun pl => { pl with clause := .none, lastClause := pl.pc }

/-- The state in which a clause waits for its condition or its time: after its phrase. -/
def phrased (s : State) (p : Nat) : State :=
  applyPhrase (clauseRuns s p) p (phraseOf (phraseWord (clauseRuns s p) p ((clauseRuns s p).playerOf p).clausePhrase))

theorem phrased_onward (s : State) (p : Nat) : Onward p 2 (clauseRuns s p) (phrased s p) := applyPhrase_onward ..

theorem clauseRuns_player (s : State) {p : Nat} (hp : p < 8) :
    (clauseRuns s p).playerOf p = { s.playerOf p with clause := .none, lastClause := (s.playerOf p).pc } := playerOf_modPlayer s _ hp

theorem clauseRuns_word (s : State) {p : Nat} (hp : p < 8) (n : Nat) : phraseWord (clauseRuns s p) p n = phraseWord s p n :=
  phraseWord_congr (s := s) (t := clauseRuns s p) rfl (by rw [clauseRuns_player s hp]) n

/-- What a clause of a WAIT sentence does after its phrase. -/
theorem clauseRun_wait {s : State} {p : Nat} (hp : p < 8) (hmode : (s.playerOf p).header.timingMode = 1) {f : Phrase}
    (hf : phraseOf (phraseWord s p (s.playerOf p).clausePhrase) = f) :
    clauseRun s p =
      if 8 < f.cond then giveUp (phrased s p) p .badClause
      else if f.cond = 0 then
        (if maskWaits (phrased s p) p then (phrased s p).modPlayer p fun pl => { pl with clause := .timed 0 } else clauseAct (endMask (phrased s p) p) p)
      else waitBegins (phrased s p) p f.cond (if f.timeout = 0 then 65536 else f.timeout) := by
  have hword : phraseOf (phraseWord (clauseRuns s p) p ((clauseRuns s p).playerOf p).clausePhrase) = f := by
    rw [clauseRuns_word s hp, clauseRuns_player s hp]
    exact hf
  have hmode' : ((clauseRuns s p).playerOf p).header.timingMode = 1 := by
    rw [clauseRuns_player s hp]
    exact hmode
  subst hword
  unfold clauseRun
  dsimp only
  rw [show (s.modPlayer p fun pl => { pl with clause := .none, lastClause := pl.pc }) = clauseRuns s p from rfl, hmode']
  rfl

theorem maskWaits_of_room {s : State} {p : Nat} (hroom : (s.playerOf p).gates.length ≤ 31) : maskWaits s p = false := by
  unfold maskWaits
  dsimp only
  rw [decide_eq_false (p := 32 ≤ (s.playerOf p).gates.length) (by omega), Bool.and_false]

/-- The player that acts on its clause. -/
def clauseActs (s : State) (p : Nat) : State := endMask (phrased s p) p

theorem clauseActs_onward (s : State) (p : Nat) : Onward p 3 (clauseRuns s p) (clauseActs s p) := (phrased_onward s p).add (endMask_onward _ p)

/-- A clause of a WAIT sentence whose phrase waits for nothing acts at once. -/
theorem clauseRun_acts {s : State} {p : Nat} (hp : p < 8) (hmode : (s.playerOf p).header.timingMode = 1) (hroom : (s.playerOf p).gates.length ≤ 29)
    (hcond : (phraseOf (phraseWord s p (s.playerOf p).clausePhrase)).cond = 0) : clauseRun s p = clauseAct (clauseActs s p) p := by
  have hgates : ((phrased s p).playerOf p).gates.length ≤ 31 := by
    have h := (phrased_onward s p).gates
    rw [clauseRuns_player s hp] at h
    exact le_trans h (Nat.add_le_add_right hroom 2)
  rw [clauseRun_wait hp hmode rfl, hcond, if_neg (by decide), if_pos rfl, maskWaits_of_room hgates]
  rfl

/-! ### The ends of a sentence -/

section
variable (s : State) (p : Fin 8)

theorem sentence_completes (hplay : (s.playerOf p).playing = true) (hended : (s.playerOf p).ended = true) (hgates : (s.playerOf p).gates = [])
    (hwrite : (s.actOf (p.val / 2)).playing = some p.val → (s.chanOf (p.val / 2)).writeGate = none)
    (hreads : ∀ e, e ∈ (s.playerOf p).entries → e.capturing = false) :
    Completes (.sentenceEnd p) s (Over p .complete s) := by
  have hcapture : (s.playerOf p).entries.any (·.capturing) = false := by
    rw [List.any_eq_false]
    intro e he
    rw [hreads e he]
    decide
  have hwriting : (decide ((s.actOf (playerAct p)).playing = some p.val) && (s.chanOf (playerAct p)).writeGate.isSome) = false := by
    by_cases h : (s.actOf (playerAct p)).playing = some p.val
    · rw [show (s.chanOf (playerAct p)).writeGate = none from hwrite h, Option.isSome_none, Bool.and_false]
    · rw [decide_eq_false h, Bool.false_and]
  refine ⟨finishSentence (sampleEvents s p) p .complete, ?_, (finishSentence_over _ p.isLt _).before (fun _ _ => rfl) (.of_eq rfl)⟩
  show execSentenceEnd p s = _
  unfold execSentenceEnd
  dsimp only
  rw [hplay, hended, hgates, hwriting, hcapture]
  rfl

theorem window_ends (hplay : (s.playerOf p).playing = true) (hended : (s.playerOf p).ended = false) :
    Completes (.windowEndReached p) s (Over p (if ((s.playerOf p).abortAsked && (abortStands (s.playerOf p)).any fun x => decide (x ≤ windowEnd (s.playerOf p).header))
      then .aborted else .windowEnd) s) := by
  refine ⟨_, ?_, (giveUp_over (sampleEvents s p) p.isLt _).before (fun _ _ => rfl) (.of_eq rfl)⟩
  show execWindowEndReached p s = _
  unfold execWindowEndReached
  dsimp only
  rw [hplay, hended]
  rfl

theorem memory_faults (store : Bool) :
    let u := if store then s.raiseAct (playerAct p) 5 (playerAct p) else s.raiseAct (playerAct p) (hardwareOffset p) p
    (s.num (Obj.loadState p) = 2 ∨ s.num (Obj.loadState p) = 3 → Completes (.playerMemoryFault p store) s (Over p .fault u)) ∧
    (s.num (Obj.loadState p) ≠ 2 → s.num (Obj.loadState p) ≠ 3 → Completes (.playerMemoryFault p store) s fun t => t = u) := by
  intro u
  have hnum : u.num (Obj.loadState p) = s.num (Obj.loadState p) := by
    unfold u
    split
    · rfl
    · rfl
  have hexec : exec (.playerMemoryFault p store) s = match u.num (Obj.loadState p) with
      | 3 => .next (giveUp u p .fault)
      | 2 => .next (finishSentence u p .fault)
      | _ => .next u := rfl
  rw [hnum] at hexec
  refine ⟨fun hload => ?_, fun h2 h3 => ⟨u, ?_, rfl⟩⟩
  · rcases hload with h | h
    · rw [h] at hexec
      exact ⟨_, hexec, finishSentence_over u p.isLt .fault⟩
    · rw [h] at hexec
      exact ⟨_, hexec, giveUp_over u p.isLt .fault⟩
  · rw [hexec]
    split
    · next h => exact absurd h h3
    · next h => exact absurd h h2
    · rfl

end

/-! ### A bad clause -/

section
variable {s : State} {p : Fin 8} (hat : AtBoundary s p)
include hat

theorem atBoundary_of_stands : atBoundary s p = true := by
  obtain ⟨hplay, hended, hnone, -, -⟩ := hat
  unfold atBoundary
  dsimp only
  rw [hplay, hended, hnone]
  rfl

theorem unknownOpcode_ends (hop : knownOp (clauseHere s p).1 = false) : Completes (.clauseBad p .opcode) s (Over p .badClause s) := by
  let u := (drainEvents s p).modPlayer p fun pl => { pl with lastClause := pl.pc }
  have habort : (u.playerOf p).abortAsked = false := by
    refine (field_modPlayer (π := Player.abortAsked) (drainEvents s p) p p (fun pl => { pl with lastClause := pl.pc }) fun _ => rfl).trans ?_
    exact (congrArg (fun x => x.1.abortAsked) (drainEvents_onward s p).course).trans hat.2.2.2.1
  refine ⟨giveUp u p .badClause, ?_, (giveUp_over u p.isLt .badClause).before (fun _ _ => rfl) (.of_eq rfl)⟩
  show execClauseBad p .opcode s = _
  unfold execClauseBad
  dsimp only
  rw [atBoundary_of_stands hat, hop, if_neg (by decide), if_pos rfl]
  show Host.Outcome.next (giveUp u p (if (u.playerOf p).abortAsked then .aborted else .badClause)) = _
  rw [habort]
  rfl

section
variable {op : Nat} (hop : op ≠ 6) (hmode : (s.playerOf p).header.timingMode = 1)
include hop hmode

theorem badClause_begins {phrase arg : Nat} (hhere : clauseHere s p = (op, phrase, arg)) :
    clauseStart s p op phrase arg = clauseRun (clauseBegun s p op phrase arg) p := by
  obtain ⟨m, hplayer⟩ := clauseBegun_player s p.isLt op phrase arg
  have hroom := hat.2.2.2.2
  rw [clauseStart_begins hat hhere hop, mustStall_of_wait (by rw [hplayer]; exact hmode) (by rw [hplayer]; exact hroom), if_neg Bool.false_ne_true]

end

end

theorem phrased_raises (s : State) (p : Nat) : RaisesMore s (phrased s p) :=
  (RaisesMore.of_eq (s := s) (t := clauseRuns s p) rfl).still (@applyPhrase_frame [.objs, .chan, .players, .mem, .outs, .free] (clauseRuns s p) (touch_of rfl)
    (touch_of rfl) (touch_of rfl) (touch_of rfl) (touch_of rfl) (touch_of rfl) (clauseRuns s p) p _ (.refl _ _)) (by decide)

theorem clauseActs_raises (s : State) (p : Nat) : RaisesMore s (clauseActs s p) :=
  (phrased_raises s p).still (@endMask_frame [.players] (phrased s p) (touch_of rfl) (phrased s p) p (.refl _ _)) (by decide)

/-- CALL with four returns stacked ends the sentence. -/
theorem clauseAct_callOverflow {s : State} {p : Nat} (hop : (s.playerOf p).clauseOp = 2) (hstack : 4 ≤ (s.playerOf p).stack.length) :
    clauseAct s p = giveUp (s.modPlayer p fun pl => { pl with clause := .none }) p .badClause := by
  unfold clauseAct
  dsimp only
  rw [hop]
  exact if_pos hstack

/-- So does RET with none. -/
theorem clauseAct_retEmpty {s : State} {p : Nat} (hop : (s.playerOf p).clauseOp = 3) (hstack : (s.playerOf p).stack = []) :
    clauseAct s p = giveUp (s.modPlayer p fun pl => { pl with clause := .none }) p .badClause := by
  unfold clauseAct
  dsimp only
  rw [hop, hstack]
  rfl

/-- The player that acts on the clause that has just begun. -/
theorem clauseActs_begun (s : State) {p : Nat} (hp : p < 8) (op phrase arg : Nat) :
    course ((clauseActs (clauseBegun s p op phrase arg) p).playerOf p) =
      course { s.playerOf p with clauseOp := op, clauseArg := arg, clausePhrase := phrase, clause := .none, lastClause := (s.playerOf p).pc } := by
  obtain ⟨m, hplayer⟩ := clauseBegun_player s hp op phrase arg
  rw [(clauseActs_onward _ p).course, clauseRuns_player _ hp, hplayer]
  rfl

/-- What makes the clause at player p's address bad. -/
def badFor (s : State) (p : Nat) (why : BadClause) : Bool :=
  let x := clauseHere s p
  match why with
  | .opcode => !knownOp x.1
  | .condition => knownOp x.1 && decide (8 < (phraseOf (phraseWord s p x.2.1)).cond)
  | .callOverflow => decide (x.1 = 2) && decide (4 ≤ (s.playerOf p).stack.length)
  | .retEmpty => decide (x.1 = 3) && (s.playerOf p).stack.isEmpty

theorem exec_clauseBad {s : State} {p : Fin 8} (hat : AtBoundary s p) {why : BadClause} (hne : why ≠ .opcode) (hbad : badFor s p why = true) :
    exec (.clauseBad p why) s = .next (clauseStart s p (clauseHere s p).1 (clauseHere s p).2.1 (clauseHere s p).2.2) := by
  have hstart : exec (.clauseBad p why) s = if !atBoundary s p || !badFor s p why then .next s
      else if why = .opcode then .next (giveUp ((drainEvents s p).modPlayer p fun pl => { pl with lastClause := pl.pc }) p
        (if (((drainEvents s p).modPlayer p fun pl => { pl with lastClause := pl.pc }).playerOf p).abortAsked then .aborted else .badClause))
      else .next (clauseStart s p (clauseHere s p).1 (clauseHere s p).2.1 (clauseHere s p).2.2) := by
    cases why <;> rfl
  rw [hstart, atBoundary_of_stands hat, hbad, if_neg (by decide), if_neg hne]

theorem badClause_ends {s : State} {p : Fin 8} (why : BadClause) (hat : AtBoundary s p)
    (hop : why = .opcode → knownOp (clauseHere s p).1 = false)
    (hcond : why = .condition → knownOp (clauseHere s p).1 = true ∧ (clauseHere s p).1 ≠ 6 ∧ (s.playerOf p).header.timingMode = 1 ∧
      8 < (phraseOf (phraseWord s p (clauseHere s p).2.1)).cond)
    (hcall : why = .callOverflow → (clauseHere s p).1 = 2 ∧ (s.playerOf p).header.timingMode = 1 ∧
      (phraseOf (phraseWord s p (clauseHere s p).2.1)).cond = 0 ∧ 4 ≤ (s.playerOf p).stack.length)
    (hret : why = .retEmpty → (clauseHere s p).1 = 3 ∧ (s.playerOf p).header.timingMode = 1 ∧
      (phraseOf (phraseWord s p (clauseHere s p).2.1)).cond = 0 ∧ (s.playerOf p).stack = []) :
    Completes (.clauseBad p why) s (Over p .badClause s) := by
  let x := clauseHere s p
  let u := clauseBegun s p x.1 x.2.1 x.2.2
  obtain ⟨m, hplayer⟩ := clauseBegun_player s p.isLt x.1 x.2.1 x.2.2
  have hword : phraseWord u p (u.playerOf p).clausePhrase = phraseWord s p x.2.1 := by
    rw [(clauseBegun_still s p.isLt x.1 x.2.1 x.2.2).2.2, hplayer]
  have hbegun := clauseActs_begun s p.isLt x.1 x.2.1 x.2.2
  have hend (v : State) (hnum : ∀ k, Uncut k → v.num k = s.num k) (hraises : RaisesMore s v) : Over p .badClause s (giveUp v p .badClause) :=
    (giveUp_over v p.isLt .badClause).before (fun k hk => hnum k (uncut_of_player p.isLt hk)) hraises
  have hbegins (hne : x.1 ≠ 6) (hmode : (s.playerOf p).header.timingMode = 1) : clauseStart s p x.1 x.2.1 x.2.2 = clauseRun u p :=
    badClause_begins hat hne hmode rfl
  have hroom : (u.playerOf p).gates.length ≤ 29 := by
    rw [hplayer]
    exact hat.2.2.2.2
  have hmodeAt (hmode : (s.playerOf p).header.timingMode = 1) : (u.playerOf p).header.timingMode = 1 := by
    rw [hplayer]
    exact hmode
  have hacts (hmode : (s.playerOf p).header.timingMode = 1) (hzero : (phraseOf (phraseWord s p x.2.1)).cond = 0) : clauseRun u p = clauseAct (clauseActs u p) p :=
    clauseRun_acts p.isLt (hmodeAt hmode) hroom (by rw [hword]; exact hzero)
  cases why with
  | opcode => exact unknownOpcode_ends hat (hop rfl)
  | condition =>
    obtain ⟨hknown, hne, hmode, h8⟩ := hcond rfl
    refine ⟨_, exec_clauseBad hat nofun (by unfold badFor; dsimp only; rw [hknown, decide_eq_true h8]; rfl), ?_⟩
    rw [hbegins hne hmode, clauseRun_wait p.isLt (hmodeAt hmode) rfl, hword, if_pos h8]
    exact hend (phrased u p) (phrased_onward u p).num ((RaisesMore.of_eq (s := s) (t := u) rfl).trans (phrased_raises u p))
  | callOverflow =>
    obtain ⟨h2, hmode, hzero, hstack⟩ := hcall rfl
    refine ⟨_, exec_clauseBad hat nofun (by unfold badFor; dsimp only; rw [decide_eq_true h2, decide_eq_true hstack]; rfl), ?_⟩
    rw [hbegins (by rw [h2]; decide) hmode, hacts hmode hzero, clauseAct_callOverflow]
    · exact hend _ (clauseActs_onward u p).num ((RaisesMore.of_eq (s := s) (t := u) rfl).trans (clauseActs_raises u p))
    · exact (congrArg (fun x => x.1.clauseOp) hbegun).trans h2
    · exact le_of_le_of_eq hstack (congrArg (fun x => x.1.stack.length) hbegun).symm
  | retEmpty =>
    obtain ⟨h3, hmode, hzero, hstack⟩ := hret rfl
    refine ⟨_, exec_clauseBad hat nofun (by unfold badFor; dsimp only; rw [decide_eq_true h3, hstack]; rfl), ?_⟩
    rw [hbegins (by rw [h3]; decide) hmode, hacts hmode hzero, clauseAct_retEmpty]
    · exact hend _ (clauseActs_onward u p).num ((RaisesMore.of_eq (s := s) (t := u) rfl).trans (clauseActs_raises u p))
    · exact (congrArg (fun x => x.1.clauseOp) hbegun).trans h3
    · exact (congrArg (fun x => x.1.stack) hbegun).trans hstack

/-! ### The record of a sentence in the DRAM -/

/-- Bytes written outside the cache slots go to the DRAM. -/
theorem dramPut_outside (m : Memory) (a : Nat) (l : List Byte) (h : ∀ i, i < l.length → slotAt (a + i) = none) :
    dramPut m a l = { m with dram := cellsWrite m.dram a l } := by
  induction l generalizing m a with
  | nil => rfl
  | cons b r ih =>
    have hput : dramPutByte m a b = { m with dram := cellWrite m.dram a b } := by
      unfold dramPutByte
      rw [show slotAt a = none from h 0 (Nat.succ_pos _)]
    unfold dramPut cellsWrite
    rw [ih _ _ fun i hi => by rw [Nat.add_right_comm]; exact h (i + 1) (Nat.succ_lt_succ hi), hput]

theorem cellRead_cellsWrite_at {m : List Host.Cell} {a : Nat} {l : List Byte} (h : cellsWf m = true) {i : Nat} (hi : i < l.length) :
    cellRead (cellsWrite m a l) (a + i) = l.getD i 0 := by
  induction l generalizing m a i with
  | nil => exact absurd hi (Nat.not_lt_zero i)
  | cons b r ih =>
    unfold cellsWrite
    cases i with
    | zero =>
      rw [cellRead_cellsWrite_outside (cellsWf_cellWrite h) (.inl (show a + 0 < a + 1 by omega)), cellRead_cellWrite _ _ _ _ h]
      exact if_pos rfl
    | succ i =>
      rw [show a + (i + 1) = a + 1 + i by omega, ih (cellsWf_cellWrite h) (Nat.lt_of_succ_lt_succ hi)]
      rfl

theorem dramByte_congr {m m' : Memory} (hcache : m'.cache = m.cache) {x : Nat} (hdram : cellRead m'.dram x = cellRead m.dram x) : dramByte m' x = dramByte m x := by
  unfold dramByte
  rw [hcache, hdram]

/-- A run of bytes written outside the cache slots: they read back, and every other byte reads as before. -/
theorem dramWriteM_outside {m : Memory} (hwf : m.wf = true) {a : Nat} {l : List Byte} (h : ∀ i, i < l.length → slotAt (a + i) = none) :
    (∀ i, i < l.length → dramByte (dramWriteM m a l) (a + i) = l.getD i 0) ∧
    (∀ x, x < a ∨ a + l.length ≤ x → dramByte (dramWriteM m a l) x = dramByte m x) ∧ (dramWriteM m a l).sram = m.sram := by
  have hput := dramPut_outside m a l h
  have hdram : (dramWriteM m a l).dram = cellsWrite m.dram a l := show (dramPut m a l).dram = cellsWrite m.dram a l from congrArg Memory.dram hput
  have hcache : (dramWriteM m a l).cache = m.cache := show (dramPut m a l).cache = m.cache from (congrArg Memory.cache hput).trans rfl
  refine ⟨fun i hi => ?_, fun x hx => dramByte_congr hcache ?_, show (dramPut m a l).sram = m.sram from (congrArg Memory.sram hput).trans rfl⟩
  · unfold dramByte
    rw [h i hi]
    dsimp only
    rw [hdram, cellRead_cellsWrite_at (Memory.wf_dram hwf) hi]
  · rw [hdram, cellRead_cellsWrite_outside (Memory.wf_dram hwf) hx]

theorem record_written (s : State) (p : Fin 8) (r : PendingRecord) (hwf : s.mem.wf = true) (hgood : s.power.powerGood = true) (hrails : s.power.railsOff = false)
    (hr : ((s.playerOf p).records.find? fun r => !recordWaits s r) = some r) (hslot : ∀ i, i < r.bytes.length → slotAt (r.base + i) = none) :
    Completes (.sentenceRecordWrite p) s fun t =>
      (∀ i, i < r.bytes.length → dramByte t.mem (r.base + i) = r.bytes.getD i 0) ∧
      (∀ x, x < r.base ∨ r.base + r.bytes.length ≤ x → dramByte t.mem x = dramByte s.mem x) ∧
      t.mem.sram = s.mem.sram ∧ (t.playerOf p).records = (s.playerOf p).records.erase r ∧ t.objs = s.objs := by
  let u := s.modPlayer p fun pl => { pl with records := pl.records.erase r }
  refine ⟨dramWrite u r.base r.bytes, ?_, ?_⟩
  · show execSentenceRecordWrite p s = _
    unfold execSentenceRecordWrite
    dsimp only
    rw [hr]
    refine congrArg Host.Outcome.next ?_
    unfold putRecord dramServed
    exact if_pos (by rw [show (s.modPlayer p _).power = s.power from rfl, hgood, hrails]; rfl)
  · obtain ⟨hin, hout, hsram⟩ := dramWriteM_outside hwf hslot
    exact ⟨hin, hout, hsram, congrArg Player.records (playerOf_modPlayer s _ p.isLt), rfl⟩

/-! ### The statement -/

theorem Over.and {p : Nat} {o : Outcome} {s t : State} {k : Key} (h : Over p o s t) (hk : outcomeKey p o = some k) : SentenceEnded t p o ∧ Counted k s t :=
  ⟨h.ended, h.counted k hk⟩

/-- The event of an unreadable memory, and what it stands before. -/
theorem unreadable_raised (s : State) (p : Fin 8) (store : Bool) {t : State}
    (h : RaisesMore (if store then s.raiseAct (playerAct p) 5 (playerAct p) else s.raiseAct (playerAct p) (hardwareOffset p) p) t) :
    (store = true → RaisedSince s t (448 + 64 * (p.val / 2) + 5) (p.val / 2) 0) ∧
    (store = false → RaisedSince s t (448 + 64 * (p.val / 2) + 15 + 2 * (p.val % 2)) p 0) := by
  obtain ⟨l, hl⟩ := h
  refine ⟨fun hs => ?_, fun hs => ?_⟩
  · subst hs
    exact ⟨_, hl.trans (List.append_assoc ..), List.mem_append_left _ (List.mem_singleton.mpr rfl)⟩
  · subst hs
    refine ⟨_, hl.trans (List.append_assoc ..), List.mem_append_left _ (List.mem_singleton.mpr ?_)⟩
    unfold hardwareOffset playerAct
    congr 1
    omega

theorem abort_late (s : State) (p w : Nat) (hlate : (s.playerOf p).abortAsked = false ∨ (abortStands (s.playerOf p)).all (fun m => decide (w < m)) = true) :
    ((s.playerOf p).abortAsked && (abortStands (s.playerOf p)).any fun x => decide (x ≤ w)) = false := by
  rcases hlate with hlate | hlate
  · rw [hlate, Bool.false_and]
  · cases hm : abortStands (s.playerOf p) with
    | none => exact Bool.and_false _
    | some m =>
      rw [hm] at hlate
      rw [Option.any_some, decide_eq_false (Nat.not_le_of_gt (of_decide_eq_true hlate)), Bool.and_false]

theorem abort_first {s : State} {p m w : Nat} (habort : (s.playerOf p).abortAsked = true) (hm : abortStands (s.playerOf p) = some m) (hle : m ≤ w) :
    ((s.playerOf p).abortAsked && (abortStands (s.playerOf p)).any fun x => decide (x ≤ w)) = true := by
  rw [habort, hm, Option.any_some, decide_eq_true hle, Bool.and_true]

theorem window_ended (s : State) (p : Fin 8) (hplay : (s.playerOf p).playing = true) (hended : (s.playerOf p).ended = false) :
    (∀ m, (s.playerOf p).abortAsked = true → abortStands (s.playerOf p) = some m → m ≤ windowEnd (s.playerOf p).header →
      Completes (.windowEndReached p) s fun t => SentenceEnded t p .aborted) ∧
    ((s.playerOf p).abortAsked = false ∨ (abortStands (s.playerOf p)).all (fun m => decide (windowEnd (s.playerOf p).header < m)) = true →
      Completes (.windowEndReached p) s fun t => SentenceEnded t p .windowEnd ∧ Counted (Obj.windowEnds p) s t) := by
  have hends := window_ends s p hplay hended
  refine ⟨fun m habort hm hle => ?_, fun hlate => ?_⟩
  · rw [abort_first habort hm hle, if_pos rfl] at hends
    exact hends.mono fun t ht => ht.ended
  · rw [abort_late s p _ hlate, if_neg Bool.false_ne_true] at hends
    exact hends.mono fun t ht => ht.and rfl

/-- Settles O24: every end is one close of the player (`finishSentence_over`, `giveUp_over`), and the record is a run of bytes outside the cache slots
(`dramWriteM_outside`). -/
theorem sentencesEndAndAreRecorded : Obligations.SentencesEndAndAreRecorded := by
  unfold Obligations.SentencesEndAndAreRecorded
  refine ⟨fun s p why store => ⟨?_, ?_, ?_, ?_, ?_⟩, record_written⟩
  · intro hplay hended hgates hwrite hreads
    exact (sentence_completes s p hplay hended hgates hwrite hreads).mono fun t ht => ⟨ht.ended, ht.sentences⟩
  · exact window_ended s p
  · rintro hat ⟨hop, hcond, hcall, hret⟩
    exact (badClause_ends why hat hop hcond hcall hret).mono fun t ht => ht.and rfl
  · intro hload
    refine ((memory_faults s p store).1 hload).mono fun t ht => ⟨ht.ended, ?_, unreadable_raised s p store ht.raises⟩
    have hcount := ht.counted (Obj.objFaults p) rfl
    have hnum : (if store then s.raiseAct (playerAct p) 5 (playerAct p) else s.raiseAct (playerAct p) (hardwareOffset p) p).num (Obj.objFaults p) =
        s.num (Obj.objFaults p) := by
      split
      · rfl
      · rfl
    unfold Counted at hcount
    rwa [hnum] at hcount
  · intro h2 h3
    refine ((memory_faults s p store).2 h2 h3).mono fun t ht => ?_
    subst ht
    refine ⟨?_, unreadable_raised s p store (.of_eq rfl)⟩
    split
    · rfl
    · rfl

end Sys2Proof.Machine
end

section
/-!
PROOFS. The clauses of a sentence (R232–R241).
-/

namespace Sys2Proof.Machine

/-! ### What a clause does when it acts -/

/-- What a clause reads of its player when it acts. -/
def clauseView (x : Player) : Nat × List Nat × Vector Nat 4 × Option Nat × List (Bool × Bool) :=
  (x.pc, x.stack, x.counters, x.bound, x.entries.map fun e => (e.isWrite, e.isParity))

/-- What it leaves alone. -/
def clauseTail (x : Player) : Nat × Nat × Nat × Option Nat × Nat := (x.lastClause, x.waitTimeouts, x.flags, x.bound, x.nextEntry)

/-- The kind of the bound entry, as a clause tests it. -/
def boundKind (x : Player) (f : Bool × Bool → Bool) : Bool :=
  match x.bound with
  | some i => match (x.entries.map fun e => (e.isWrite, e.isParity))[i]? with
    | some k => f k
    | none => false
  | none => false

theorem boundKind_done (x : Player) (f : Entry → Bool) (g : Bool × Bool → Bool) (hg : ∀ e, g (e.isWrite, e.isParity) = f e) :
    (match x.bound with
      | some i => match x.entries[i]? with
        | some e => f e
        | none => false
      | none => false) = boundKind x g := by
  unfold boundKind
  cases x.bound with
  | none => rfl
  | some i =>
    dsimp only
    rw [List.getElem?_map]
    cases x.entries[i]? with
    | none => rfl
    | some e => exact (hg e).symm

theorem boundKind_act (x : Player) (f : Entry → Bool) (g : Bool × Bool → Bool) (hg : ∀ e, g (e.isWrite, e.isParity) = f e) :
    (match x.bound.bind (x.entries[·]?) with
      | some e => f e
      | none => false) = boundKind x g := by
  rw [← boundKind_done x f g hg]
  cases x.bound with
  | none => rfl
  | some i => rfl

/-- What a clause does is read from its player's view. -/
theorem clauseDone_iff (op arg : Nat) (x y : Player) : ClauseDone op arg x y ↔
    y.clause = .none ∧
    (op = 0x00 → y.pc = (x.pc + 1) % 4096) ∧
    (op = 0x01 → y.pc = arg % 4096) ∧
    (op = 0x02 → x.stack.length < 4 → y.pc = arg % 4096 ∧ y.stack = (x.pc + 1) % 4096 :: x.stack) ∧
    (op = 0x03 → ∀ r rest, x.stack = r :: rest → y.pc = r % 4096 ∧ y.stack = rest) ∧
    (op = 0x04 → y.pc = (x.pc + 1) % 4096 ∧ vget y.counters (arg / 2 ^ 14 % 4) 0 = arg % 2048) ∧
    (op = 0x05 → vget x.counters (arg / 2 ^ 14 % 4) 0 ≠ 0 → y.pc = arg % 4096 ∧ vget y.counters (arg / 2 ^ 14 % 4) 0 = vget x.counters (arg / 2 ^ 14 % 4) 0 - 1) ∧
    (op = 0x05 → vget x.counters (arg / 2 ^ 14 % 4) 0 = 0 → y.pc = (x.pc + 1) % 4096 ∧ vget y.counters (arg / 2 ^ 14 % 4) 0 = 0) ∧
    (op = 0x06 → y.pc = (x.pc + 1) % 4096) ∧
    (op = 0x07 → y.pc = if boundKind x Prod.fst then arg % 4096 else (x.pc + 1) % 4096) ∧
    (op = 0x08 → y.pc = if boundKind x Prod.snd then arg % 4096 else (x.pc + 1) % 4096) ∧
    (op = 0x3F → y.ended = true) := by
  rw [← boundKind_done x (·.isWrite) Prod.fst fun _ => rfl, ← boundKind_done x (·.isParity) Prod.snd fun _ => rfl]
  exact Iff.rfl

theorem clauseDone_congr {op arg : Nat} {x x' y : Player} (h : clauseView x' = clauseView x) : ClauseDone op arg x' y ↔ ClauseDone op arg x y := by
  unfold clauseView at h
  simp only [Prod.mk.injEq] at h
  obtain ⟨hpc, hstack, hcounters, hbound, hkinds⟩ := h
  rw [clauseDone_iff, clauseDone_iff]
  unfold boundKind
  rw [hpc, hstack, hcounters, hbound, hkinds]

theorem field_leaveEntry {α : Type} {π : Player → α} (hπ : ∀ x es, π { x with entries := es } = π x) (s : State) (p q : Nat) :
    π ((leaveEntry s p).playerOf q) = π (s.playerOf q) ∧ (leaveEntry s p).objs = s.objs := by
  have hmod (u : State) (i : Nat) (f : Entry → Entry) : π ((modEntry u p i f).playerOf q) = π (u.playerOf q) := field_modPlayer u p q _ fun x => hπ x _
  have hend (u : State) (i result : Nat) (poisoned : Bool) : π ((endEntry u p i result poisoned).playerOf q) = π (u.playerOf q) := by
    unfold endEntry
    split
    · rfl
    · split
      · rfl
      · dsimp only
        split
        · exact hmod u i _
        · exact hmod u i _
  refine ⟨?_, within_iff.mp (@leaveEntry_frame [.players, .mem] s (touch_of rfl) (touch_of rfl) s p (.refl _ s)) .objs (by decide)⟩
  unfold leaveEntry
  split
  · unfold settleUnposted
    dsimp only
    split
    · split
      · exact (hend _ _ _ _).trans (hmod s _ _)
      · exact hmod s _ _
    · exact hmod s _ _
  · rfl

theorem playerOf_modPlayer_twice (s : State) {p : Nat} (hp : p < 8) (f g : Player → Player) :
    ((s.modPlayer p f).modPlayer p g).playerOf p = g (f (s.playerOf p)) := by
  rw [playerOf_modPlayer _ _ hp, playerOf_modPlayer _ _ hp]

theorem clauseAct_ifwrite {s : State} {p : Nat} {x : Player} (hx : s.playerOf p = x) (hop : x.clauseOp = 7) :
    clauseAct s p = (s.modPlayer p fun pl => { pl with clause := .none }).modPlayer p fun pl =>
      { pl with pc := (if boundKind x Prod.fst then x.clauseArg % 4096 else x.pc + 1) % 4096 } := by
  subst hx
  rw [← boundKind_act _ (·.isWrite) Prod.fst fun _ => rfl]
  unfold clauseAct
  dsimp only
  rw [hop]
  rfl

theorem clauseAct_ifparity {s : State} {p : Nat} {x : Player} (hx : s.playerOf p = x) (hop : x.clauseOp = 8) :
    clauseAct s p = (s.modPlayer p fun pl => { pl with clause := .none }).modPlayer p fun pl =>
      { pl with pc := (if boundKind x Prod.snd then x.clauseArg % 4096 else x.pc + 1) % 4096 } := by
  subst hx
  rw [← boundKind_act _ (·.isParity) Prod.snd fun _ => rfl]
  unfold clauseAct
  dsimp only
  rw [hop]
  rfl

/-- A clause that acts: its player, what it leaves alone, and the objects. -/
theorem clauseAct_done {s : State} {p : Nat} (hp : p < 8) {x : Player} (hx : s.playerOf p = x) (hcall : x.clauseOp = 2 → x.stack.length < 4)
    (hret : x.clauseOp = 3 → x.stack ≠ []) :
    ClauseDone x.clauseOp x.clauseArg x ((clauseAct s p).playerOf p) ∧ clauseTail ((clauseAct s p).playerOf p) = clauseTail x ∧ (clauseAct s p).objs = s.objs := by
  have hc : fld x.clauseArg 15 14 = x.clauseArg / 2 ^ 14 % 4 := by
    unfold fld
    rw [Nat.shiftRight_eq_div_pow]
    rfl
  have hc4 : x.clauseArg / 2 ^ 14 % 4 < 4 := Nat.mod_lt _ (by decide)
  have hone (f g : Player → Player) : ((s.modPlayer p f).modPlayer p g).playerOf p = g (f x) := by rw [playerOf_modPlayer_twice s hp, hx]
  have htwo (f g h : Player → Player) : (((s.modPlayer p f).modPlayer p g).modPlayer p h).playerOf p = h (g (f x)) := by
    rw [playerOf_modPlayer_twice _ hp, playerOf_modPlayer s _ hp, hx]
  rw [clauseDone_iff]
  by_cases h7 : x.clauseOp = 7
  · rw [clauseAct_ifwrite hx h7, hone, h7]
    refine ⟨?_, rfl, rfl⟩
    split <;> simp
  by_cases h8 : x.clauseOp = 8
  · rw [clauseAct_ifparity hx h8, hone, h8]
    refine ⟨?_, rfl, rfl⟩
    split <;> simp
  unfold clauseAct
  dsimp only
  rw [hx, hc]
  generalize x.clauseArg / 2 ^ 14 % 4 = c at hc4 ⊢
  split
  case h_1 hop =>
    rw [hone, hop]
    refine ⟨?_, rfl, rfl⟩
    simp
  case h_2 hop =>
    rw [if_neg (Nat.not_le_of_lt (hcall hop)), htwo, hop]
    refine ⟨?_, rfl, rfl⟩
    simp
  case h_3 hop =>
    cases hstack : x.stack with
    | nil => exact absurd hstack (hret hop)
    | cons r rest =>
      dsimp only
      rw [htwo, hop]
      refine ⟨?_, rfl, rfl⟩
      simp
  case h_4 hop =>
    rw [htwo, hop]
    refine ⟨?_, rfl, rfl⟩
    simp [hc4]
  case h_5 hop =>
    split
    · next hn =>
      rw [htwo, hop]
      refine ⟨?_, rfl, rfl⟩
      simp [hc4, hn]
    · next hn =>
      rw [hone, hop]
      refine ⟨?_, rfl, rfl⟩
      simp [not_not.mp hn]
  case h_6 hop => exact absurd hop h7
  case h_7 hop => exact absurd hop h8
  case h_8 hop =>
    generalize hu : s.modPlayer p (fun pl => { pl with clause := .none }) = u
    have hplayer : u.playerOf p = { x with clause := .none } := by rw [← hu, playerOf_modPlayer s _ hp, hx]
    rw [playerOf_modPlayer _ _ hp, hop]
    refine ⟨?_, ?_, ?_⟩
    · have hclause := (field_leaveEntry (π := Player.clause) (fun _ _ => rfl) u p p).1
      rw [hplayer] at hclause
      simp [hclause]
    · refine Eq.trans ?_ ((field_leaveEntry (π := clauseTail) (fun _ _ => rfl) u p p).1.trans ?_)
      · rfl
      · rw [hplayer]
        rfl
    · refine (field_leaveEntry (π := clauseTail) (fun _ _ => rfl) u p p).2.trans ?_
      rw [← hu]
      rfl
  case h_9 h1 h2 h3 h4 h5 _ _ h63 =>
    rw [hone]
    refine ⟨?_, rfl, rfl⟩
    exact ⟨rfl, fun _ => rfl, fun h => (h1 h).elim, fun h => (h2 h).elim, fun h => (h3 h).elim, fun h => (h4 h).elim, fun h => (h5 h).elim,
      fun h => (h5 h).elim, fun _ => rfl, fun h => (h7 h).elim, fun h => (h8 h).elim, fun h => (h63 h).elim⟩

/-! ### Clauses of a WAIT sentence -/

/-- The view of a player's course. -/
def viewOf (c : Player × List (Bool × Bool)) : Nat × List Nat × Vector Nat 4 × Option Nat × List (Bool × Bool) :=
  (c.1.pc, c.1.stack, c.1.counters, c.1.bound, c.2)

theorem clauseView_of_course {x y : Player} (h : course y = course x) : clauseView y = clauseView x := congrArg viewOf h

/-- A clause that acts on a player with the course of x. -/
theorem clauseAct_of_course {s : State} {p : Nat} (hp : p < 8) {x : Player} (hx : course (s.playerOf p) = course x) (hcall : x.clauseOp = 2 → x.stack.length < 4)
    (hret : x.clauseOp = 3 → x.stack ≠ []) :
    ClauseDone x.clauseOp x.clauseArg x ((clauseAct s p).playerOf p) ∧ ((clauseAct s p).playerOf p).lastClause = x.lastClause ∧
    ((clauseAct s p).playerOf p).bound = x.bound ∧ ((clauseAct s p).playerOf p).nextEntry = x.nextEntry := by
  have hop : (s.playerOf p).clauseOp = x.clauseOp := congrArg (fun c => c.1.clauseOp) hx
  have harg : (s.playerOf p).clauseArg = x.clauseArg := congrArg (fun c => c.1.clauseArg) hx
  have hstack : (s.playerOf p).stack = x.stack := congrArg (fun c => c.1.stack) hx
  obtain ⟨hdone, htail, -⟩ := clauseAct_done hp rfl (by rw [hop, hstack]; exact hcall) (by rw [hop, hstack]; exact hret)
  rw [hop, harg, clauseDone_congr (clauseView_of_course hx)] at hdone
  refine ⟨hdone, ?_, ?_, ?_⟩
  · exact (congrArg (fun t => t.1) htail).trans (congrArg (fun c => c.1.lastClause) hx)
  · exact (congrArg (fun t => t.2.2.2.1) htail).trans (congrArg (fun c => c.1.bound) hx)
  · exact (congrArg (fun t => t.2.2.2.2) htail).trans (congrArg (fun c => c.1.nextEntry) hx)

section
variable {s : State} {p : Fin 8} (hat : AtBoundary s p) (hmode : (s.playerOf p).header.timingMode = 1) {op phrase arg : Nat}
  (hhere : clauseHere s p = (op, phrase, arg)) (hcond : (phraseOf (phraseWord s p phrase)).cond = 0)
include hat hmode hhere hcond

theorem clauseStart_acts (hop : op ≠ 6) (hcall : op = 2 → (s.playerOf p).stack.length < 4) (hret : op = 3 → (s.playerOf p).stack ≠ []) :
    ClauseDone op arg (s.playerOf p) ((clauseStart s p op phrase arg).playerOf p) ∧ ((clauseStart s p op phrase arg).playerOf p).lastClause = (s.playerOf p).pc := by
  obtain ⟨m, hplayer⟩ := clauseBegun_player s p.isLt op phrase arg
  have hroom := hat.2.2.2.2
  rw [badClause_begins hat hop hmode hhere, clauseRun_acts p.isLt]
  · obtain ⟨hdone, hlast, -, -⟩ := clauseAct_of_course p.isLt (clauseActs_begun s p.isLt op phrase arg) hcall hret
    exact ⟨(clauseDone_congr rfl).mp hdone, hlast⟩
  · rw [hplayer]
    exact hmode
  · rw [hplayer]
    exact hroom
  · rw [(clauseBegun_still s p.isLt op phrase arg).2.2, hplayer]
    exact hcond

end

/-! ### SECTOR -/

/-- The next entry bound, with the write FIFO filled for a write. -/
def sectorBound (s : State) (p : Nat) (e : Entry) : State :=
  let s := leaveEntry s p
  let s := s.modPlayer p fun pl => { pl with bound := some pl.nextEntry, nextEntry := pl.nextEntry + 1, curOffset := 0, curWedge := e.wedge, curT := e.pos }
  if e.isWrite then fillWriteFifo s (playerAct p) else s

theorem sectorBound_effect (s : State) {p : Nat} (hp : p < 8) (e : Entry) :
    course ((sectorBound s p e).playerOf p) = course { s.playerOf p with
      bound := some (s.playerOf p).nextEntry, nextEntry := (s.playerOf p).nextEntry + 1, curOffset := 0, curWedge := e.wedge, curT := e.pos } ∧
    ((sectorBound s p e).playerOf p).gates.length ≤ (s.playerOf p).gates.length ∧ (sectorBound s p e).acts = s.acts := by
  have hleave := leaveEntry_onward s p
  let u := (leaveEntry s p).modPlayer p fun pl => { pl with bound := some pl.nextEntry, nextEntry := pl.nextEntry + 1, curOffset := 0, curWedge := e.wedge, curT := e.pos }
  have hu : u.playerOf p = _ := playerOf_modPlayer (leaveEntry s p) _ hp
  have hbound : course (u.playerOf p) = course { s.playerOf p with
      bound := some (s.playerOf p).nextEntry, nextEntry := (s.playerOf p).nextEntry + 1, curOffset := 0, curWedge := e.wedge, curT := e.pos } := by
    rw [hu]
    exact congrArg (fun c : Player × List (Bool × Bool) => ({ c.1 with
      bound := some c.1.nextEntry, nextEntry := c.1.nextEntry + 1, curOffset := 0, curWedge := e.wedge, curT := e.pos }, c.2)) hleave.course
  have hgates : (u.playerOf p).gates.length ≤ (s.playerOf p).gates.length := by
    rw [hu]
    exact hleave.gates
  have hacts : u.acts = s.acts := hleave.acts
  have hfill := fillWriteFifo_onward u p (playerAct p)
  unfold sectorBound
  show course ((if e.isWrite then fillWriteFifo u (playerAct p) else u).playerOf p) = _ ∧
    ((if e.isWrite then fillWriteFifo u (playerAct p) else u).playerOf p).gates.length ≤ _ ∧ (if e.isWrite then fillWriteFifo u (playerAct p) else u).acts = _
  split
  · exact ⟨hfill.course.trans hbound, hfill.gates.trans hgates, hfill.acts.trans hacts⟩
  · exact ⟨hbound, hgates, hacts⟩

theorem clauseStart_sector {s : State} {p : Fin 8} (hat : AtBoundary s p) {phrase arg : Nat} (hhere : clauseHere s p = (6, phrase, arg)) :
    clauseStart s p 6 phrase arg =
      let u := clauseBegun s p 6 phrase arg
      match (u.playerOf p).entries[(u.playerOf p).nextEntry]? with
      | none => u.modPlayer p fun pl => { pl with lastClause := pl.pc, pc := arg % 4096 }
      | some e =>
        if mustStall (sectorBound u p e) p then (sectorBound u p e).modPlayer p fun pl => { pl with clause := .stalled } else clauseRun (sectorBound u p e) p := by
  have hdrain : ((drainEvents s p).playerOf p).abortAsked = false :=
    (congrArg (fun x => x.1.abortAsked) (drainEvents_onward s p).course).trans hat.2.2.2.1
  unfold clauseStart
  rw [atBoundary_of_stands hat, hhere, decide_eq_false fun h => h rfl, if_neg (by decide)]
  dsimp only
  rw [hdrain, if_neg Bool.false_ne_true, if_pos rfl]
  rfl

section
variable {s : State} {p : Fin 8} (hat : AtBoundary s p) {phrase arg : Nat} (hhere : clauseHere s p = (6, phrase, arg))
include hat hhere

theorem sector_exits (hnone : (s.playerOf p).entries.length ≤ (s.playerOf p).nextEntry) :
    ((clauseStart s p 6 phrase arg).playerOf p).bound = (s.playerOf p).bound ∧ ((clauseStart s p 6 phrase arg).playerOf p).pc = arg % 4096 ∧
    ((clauseStart s p 6 phrase arg).playerOf p).gates = (s.playerOf p).gates := by
  obtain ⟨m, hplayer⟩ := clauseBegun_player s p.isLt 6 phrase arg
  rw [clauseStart_sector hat hhere]
  dsimp only
  have hentry : ((clauseBegun s p 6 phrase arg).playerOf p).entries[((clauseBegun s p 6 phrase arg).playerOf p).nextEntry]? = none := by
    rw [hplayer]
    exact List.getElem?_eq_none hnone
  rw [hentry]
  dsimp only
  rw [playerOf_modPlayer _ _ p.isLt, hplayer]
  exact ⟨rfl, rfl, rfl⟩

theorem sector_binds (hmode : (s.playerOf p).header.timingMode = 1) (hcond : (phraseOf (phraseWord s p phrase)).cond = 0)
    (hmore : (s.playerOf p).nextEntry < (s.playerOf p).entries.length) :
    let t := clauseStart s p 6 phrase arg
    (t.playerOf p).bound = some (s.playerOf p).nextEntry ∧ (t.playerOf p).nextEntry = (s.playerOf p).nextEntry + 1 ∧ (t.playerOf p).pc = ((s.playerOf p).pc + 1) % 4096 := by
  obtain ⟨m, hplayer⟩ := clauseBegun_player s p.isLt 6 phrase arg
  have hentry : ∃ e, ((clauseBegun s p 6 phrase arg).playerOf p).entries[((clauseBegun s p 6 phrase arg).playerOf p).nextEntry]? = some e := by
    rw [hplayer]
    exact ⟨_, List.getElem?_eq_getElem hmore⟩
  obtain ⟨e, he⟩ := hentry
  obtain ⟨hcourse, hgates, hacts⟩ := sectorBound_effect (clauseBegun s p 6 phrase arg) p.isLt e
  have hstart := clauseStart_sector hat hhere
  dsimp only at hstart ⊢
  rw [he] at hstart
  dsimp only at hstart
  generalize hu : sectorBound (clauseBegun s p 6 phrase arg) p e = u at hcourse hgates hacts hstart
  rw [hplayer] at hcourse hgates
  have hroom : (u.playerOf p).gates.length ≤ 29 := hgates.trans hat.2.2.2.2
  have hmode' : (u.playerOf p).header.timingMode = 1 := (congrArg (fun c => c.1.header.timingMode) hcourse).trans hmode
  have hphrase : (u.playerOf p).clausePhrase = phrase := congrArg (fun c => c.1.clausePhrase) hcourse
  have hbank : (u.playerOf p).header.bank = (s.playerOf p).header.bank := congrArg (fun c => c.1.header.bank) hcourse
  have hword : phraseWord u p (u.playerOf p).clausePhrase = phraseWord s p phrase := by
    rw [hphrase]
    exact phraseWord_congr (s := s) (t := u) hacts hbank phrase
  have hruns : course ((clauseActs u p).playerOf p) = course { u.playerOf p with clause := .none, lastClause := (u.playerOf p).pc } := by
    rw [(clauseActs_onward u p).course, clauseRuns_player u p.isLt]
  have hop : (u.playerOf p).clauseOp = 6 := congrArg (fun c => c.1.clauseOp) hcourse
  have hdone := clauseAct_of_course p.isLt hruns (fun h => absurd (hop.symm.trans h) (by decide)) (fun h => absurd (hop.symm.trans h) (by decide))
  obtain ⟨hdone, -, hbound, hnext⟩ := hdone
  rw [hstart, mustStall_of_wait hmode' hroom, if_neg Bool.false_ne_true, clauseRun_acts p.isLt hmode' hroom (by rw [hword]; exact hcond)]
  refine ⟨hbound.trans (congrArg (fun c => c.1.bound) hcourse), hnext.trans (congrArg (fun c => c.1.nextEntry) hcourse), ?_⟩
  have hpc := ((clauseDone_iff _ _ _ _).mp hdone).2.2.2.2.2.2.2.2.1 hop
  exact hpc.trans (congrArg (fun c => (c.1.pc + 1) % 4096) hcourse)

end

theorem clauseStart_elsewhere {s : State} {p op phrase arg : Nat} (hnot : ¬clauseHere s p = (op, phrase, arg)) : clauseStart s p op phrase arg = s := by
  unfold clauseStart
  rw [decide_eq_true hnot, Bool.or_true]
  exact if_pos rfl

/-! ### Clauses that have waited -/

theorem moveCursor_view (x : Player) (n : Nat) :
    clauseView (moveCursor x n) = clauseView x ∧ (moveCursor x n).clauseOp = x.clauseOp ∧ (moveCursor x n).clauseArg = x.clauseArg := by
  unfold moveCursor
  split
  · exact ⟨rfl, rfl, rfl⟩
  · exact ⟨rfl, rfl, rfl⟩

theorem setCursor_view (x : Player) (w t : Nat) :
    clauseView (setCursor x w t) = clauseView x ∧ (setCursor x w t).clauseOp = x.clauseOp ∧ (setCursor x w t).clauseArg = x.clauseArg := by
  unfold setCursor
  split
  · exact ⟨rfl, rfl, rfl⟩
  · exact ⟨rfl, rfl, rfl⟩

/-- A clause that acts, with its mask ended, on a player that its clause sees as x. -/
theorem endMask_acts {s : State} {p : Nat} (hp : p < 8) {x : Player} (hview : clauseView (s.playerOf p) = clauseView x)
    (hop : (s.playerOf p).clauseOp = x.clauseOp) (harg : (s.playerOf p).clauseArg = x.clauseArg) (hcall : x.clauseOp = 2 → x.stack.length < 4)
    (hret : x.clauseOp = 3 → x.stack ≠ []) : ClauseDone x.clauseOp x.clauseArg x ((clauseAct (endMask s p) p).playerOf p) := by
  have hstack : (s.playerOf p).stack = x.stack := congrArg (fun v => v.2.1) hview
  have h := (clauseAct_of_course hp (endMask_onward s p).course (by rw [hop, hstack]; exact hcall) (by rw [hop, hstack]; exact hret)).1
  rw [hop, harg] at h
  exact (clauseDone_congr hview).mp h

section
variable (s : State) (p : Fin 8) {len cond units : Nat} (hroom : (s.playerOf p).gates.length ≤ 31)
include hroom

theorem timeEnd_acts (hclause : (s.playerOf p).clause = .timed len) :
    Completes (.clauseTimeEnd p) s fun t => ((s.playerOf p).clauseOp = 2 → (s.playerOf p).stack.length < 4) →
      ((s.playerOf p).clauseOp = 3 → (s.playerOf p).stack ≠ []) → ClauseDone (s.playerOf p).clauseOp (s.playerOf p).clauseArg (s.playerOf p) (t.playerOf p) := by
  obtain ⟨hview, hop, harg⟩ := moveCursor_view (s.playerOf p) len
  have hplayer : (s.modPlayer p fun pl => moveCursor pl len).playerOf p = moveCursor (s.playerOf p) len := playerOf_modPlayer s _ p.isLt
  refine ⟨_, ?_, endMask_acts (s := s.modPlayer p fun pl => moveCursor pl len) p.isLt (by rw [hplayer, hview]) (by rw [hplayer, hop]) (by rw [hplayer, harg])⟩
  show execClauseTimeEnd p s = _
  unfold execClauseTimeEnd
  rw [hclause]
  dsimp only
  rw [maskWaits_of_room hroom, if_neg Bool.false_ne_true]

theorem waitMet_acts {wedge t code : Nat} {of_ : Option Nat} (hclause : (s.playerOf p).clause = .wait cond units) (hof : of_ = none ∨ of_ = (s.playerOf p).bound)
    (hcode : (if cond = 2 then evServo else cond) = code) (hservo : cond = 2 → wedge = (s.playerOf p).clauseArg % 1024)
    (hevent : ⟨code, wedge, t, of_⟩ ∈ (s.chanOf (p.val / 2)).events) :
    Completes (.clauseWaitMet p wedge t) s fun t => ((s.playerOf p).clauseOp = 2 → (s.playerOf p).stack.length < 4) →
      ((s.playerOf p).clauseOp = 3 → (s.playerOf p).stack ≠ []) → ClauseDone (s.playerOf p).clauseOp (s.playerOf p).clauseArg (s.playerOf p) (t.playerOf p) := by
  have hbound : (of_.isNone || decide (of_ = (s.playerOf p).bound)) = true := by
    rcases hof with rfl | rfl
    · rfl
    · rw [decide_eq_true rfl, Bool.or_true]
  have hplace : (decide (cond ≠ 2) || decide (wedge = (s.playerOf p).clauseArg % 1024)) = true := by
    by_cases h : cond = 2
    · rw [decide_eq_true (hservo h), Bool.or_true]
    · rw [decide_eq_true h, Bool.true_or]
  have hhere : ((s.chanOf (playerAct p)).events.any fun e => decide (e.code = code) && decide (e.wedge = wedge) && decide (e.t = t) &&
      (decide (cond ≠ 2) || decide (wedge = (s.playerOf p).clauseArg % 1024)) && (e.entry.isNone || decide (e.entry = (s.playerOf p).bound))) = true :=
    List.any_eq_true.mpr ⟨_, hevent, Bool.and_eq_true_iff.mpr ⟨Bool.and_eq_true_iff.mpr ⟨by simp, hplace⟩, hbound⟩⟩
  let w := advanceT (s.playerOf p).header.dataT wedge t 2048
  let u := (drainEvents s p).modPlayer p fun pl => setCursor pl w.1 w.2
  have hplayer : u.playerOf p = setCursor ((drainEvents s p).playerOf p) w.1 w.2 := playerOf_modPlayer (drainEvents s p) _ p.isLt
  have hdrain := (drainEvents_onward s p).course
  obtain ⟨hview, hop, harg⟩ := setCursor_view ((drainEvents s p).playerOf p) w.1 w.2
  refine ⟨clauseAct (endMask u p) p, ?_, endMask_acts p.isLt ?_ ?_ ?_⟩
  · show execClauseWaitMet p wedge t s = _
    unfold execClauseWaitMet
    dsimp only
    rw [hclause]
    dsimp only
    rw [hcode, hhere, maskWaits_of_room hroom, if_neg (by decide)]
  · rw [hplayer, hview]
    exact clauseView_of_course hdrain
  · rw [hplayer, hop]
    exact congrArg (fun c => c.1.clauseOp) hdrain
  · rw [hplayer, harg]
    exact congrArg (fun c => c.1.clauseArg) hdrain

end

theorem postGate_tail (s : State) (p action off entry : Nat) :
    clauseTail ((postGate s p action off entry).playerOf p) = clauseTail (s.playerOf p) := by
  unfold postGate
  exact field_modPlayer (π := clauseTail) s p p _ fun _ => rfl

theorem endMask_tail (s : State) (p : Nat) : clauseTail ((endMask s p).playerOf p) = clauseTail (s.playerOf p) ∧ (endMask s p).objs = s.objs := by
  unfold endMask
  split
  · exact ⟨postGate_tail .., rfl⟩
  · exact ⟨rfl, rfl⟩

/-- The player whose wait has timed out, marked and counted. -/
def timedOut (s : State) (p units : Nat) : State :=
  (setFlags (s.modPlayer p fun pl => { moveCursor pl (256 * units) with waitTimeouts := pl.waitTimeouts + 1 }) p fWaitTimeout).bump (Obj.waitTimeouts p)

theorem timedOut_effect (s : State) {p : Nat} (hp : p < 8) (units : Nat) :
    (timedOut s p units).playerOf p = { moveCursor (s.playerOf p) (256 * units) with
      waitTimeouts := (s.playerOf p).waitTimeouts + 1, flags := (moveCursor (s.playerOf p) (256 * units)).flags ||| fWaitTimeout } ∧
    Counted (Obj.waitTimeouts p) s (timedOut s p units) := by
  refine ⟨?_, counted_bump (Obj.waitTimeouts p) (setFlags (s.modPlayer p fun pl => { moveCursor pl (256 * units) with waitTimeouts := pl.waitTimeouts + 1 }) p fWaitTimeout)⟩
  unfold timedOut setFlags
  rw [playerOf_congr (State.players_bump ..), playerOf_modPlayer_twice s hp]

theorem waitTimeout_acts (s : State) (p : Fin 8) {cond units : Nat} (hroom : (s.playerOf p).gates.length ≤ 31) (hclause : (s.playerOf p).clause = .wait cond units)
    (hcall : (s.playerOf p).clauseOp = 2 → (s.playerOf p).stack.length < 4) (hret : (s.playerOf p).clauseOp = 3 → (s.playerOf p).stack ≠ []) :
    Completes (.clauseWaitTimeout p) s fun t =>
      ClauseDone (s.playerOf p).clauseOp (s.playerOf p).clauseArg (s.playerOf p) (t.playerOf p) ∧
      (t.playerOf p).waitTimeouts = (s.playerOf p).waitTimeouts + 1 ∧ (t.playerOf p).flags.testBit 2 = true ∧ Counted (Obj.waitTimeouts p) s t := by
  obtain ⟨hplayer, hcount⟩ := timedOut_effect s p.isLt units
  obtain ⟨hview, hop, harg⟩ := moveCursor_view (s.playerOf p) (256 * units)
  obtain ⟨htail, hobjs⟩ := endMask_tail (timedOut s p units) p
  have hmask := (endMask_onward (timedOut s p units) p).course
  have hview' : clauseView ((timedOut s p units).playerOf p) = clauseView (s.playerOf p) := by
    rw [hplayer]
    exact hview
  have hop' : ((timedOut s p units).playerOf p).clauseOp = (s.playerOf p).clauseOp := by
    rw [hplayer]
    exact hop
  have harg' : ((timedOut s p units).playerOf p).clauseArg = (s.playerOf p).clauseArg := by
    rw [hplayer]
    exact harg
  have hopMask : ((endMask (timedOut s p units) p).playerOf p).clauseOp = (s.playerOf p).clauseOp := (congrArg (fun c => c.1.clauseOp) hmask).trans hop'
  have hstackMask : ((endMask (timedOut s p units) p).playerOf p).stack = (s.playerOf p).stack :=
    (congrArg (fun c => c.1.stack) hmask).trans (congrArg (fun v => v.2.1) hview')
  obtain ⟨-, hkept, hacts⟩ := clauseAct_done (s := endMask (timedOut s p units) p) p.isLt rfl (by rw [hopMask, hstackMask]; exact hcall)
    (by rw [hopMask, hstackMask]; exact hret)
  have htail' := hkept.trans htail
  refine ⟨_, ?_, endMask_acts p.isLt hview' hop' harg' hcall hret, ?_, ?_, ?_⟩
  · show execClauseWaitTimeout p s = _
    unfold execClauseWaitTimeout
    dsimp only
    rw [hclause]
    dsimp only
    rw [maskWaits_of_room hroom, if_neg Bool.false_ne_true]
    rfl
  · exact (congrArg (fun t => t.2.1) htail').trans (by rw [hplayer])
  · refine (congrArg (fun t => t.2.2.1.testBit 2) htail').trans ?_
    rw [hplayer]
    show ((moveCursor (s.playerOf p) (256 * units)).flags ||| 4).testBit 2 = true
    rw [Nat.testBit_or, show Nat.testBit 4 2 = true from rfl, Bool.or_true]
  · intro hfits
    rw [State.num_congr (hacts.trans hobjs)]
    exact hcount hfits

theorem stall_ends (s : State) (p : Fin 8) (hclause : (s.playerOf p).clause = .stalled) (hgo : mustStall s p = false) (hmode : (s.playerOf p).header.timingMode = 0) :
    Completes (.playerStallEnd p) s fun t =>
      (t.playerOf p).clause = .timed (let f := phraseOf (phraseWord s p (s.playerOf p).clausePhrase)
        if f.timeSel = 0 then f.time else if f.timeSel = 1 then (s.playerOf p).header.sectorT else if f.timeSel = 2 then (s.playerOf p).header.sm2At
        else (s.playerOf p).clauseArg) := by
  have hdrain := drainEvents_onward s p
  let u := drainEvents s p
  have hplayer := clauseRuns_player u p.isLt
  have hword : phraseOf (phraseWord (clauseRuns u p) p ((clauseRuns u p).playerOf p).clausePhrase) = phraseOf (phraseWord s p (s.playerOf p).clausePhrase) := by
    have hphrase : ((clauseRuns u p).playerOf p).clausePhrase = (s.playerOf p).clausePhrase := by
      rw [hplayer]
      exact congrArg (fun c => c.1.clausePhrase) hdrain.course
    rw [hphrase, clauseRuns_word u p.isLt, hdrain.phraseWord]
  have hmode' : ((clauseRuns u p).playerOf p).header.timingMode = 0 := by
    rw [hplayer]
    exact (congrArg (fun c => c.1.header.timingMode) hdrain.course).trans hmode
  have hheader : ((clauseRuns u p).playerOf p).header = (s.playerOf p).header := by
    rw [hplayer]
    exact congrArg (fun c => c.1.header) hdrain.course
  have harg : ((clauseRuns u p).playerOf p).clauseArg = (s.playerOf p).clauseArg := by
    rw [hplayer]
    exact congrArg (fun c => c.1.clauseArg) hdrain.course
  refine ⟨clauseRun u p, ?_, ?_⟩
  · show execPlayerStallEnd p s = _
    unfold execPlayerStallEnd
    exact if_pos ⟨hclause, hgo⟩
  · unfold clauseRun
    dsimp only
    rw [show (u.modPlayer p fun pl => { pl with clause := .none, lastClause := pl.pc }) = clauseRuns u p from rfl, hmode', hheader, harg, hword]
    rw [if_neg (by exact Bool.false_ne_true), playerOf_modPlayer _ _ p.isLt]
    generalize phraseOf (phraseWord s p (s.playerOf p).clausePhrase) = f
    split
    · next h => rw [h]; rfl
    · next h => rw [h]; rfl
    · next h => rw [h]; rfl
    · next h0 h1 h2 => rw [if_neg h0, if_neg h1, if_neg h2]

/-- Settles O25: a clause acts on the view of its player (`clauseAct_done`), which its phrase and its wait leave as it was (`Onward`). -/
theorem clausesRunAndTakeTheirTime : Obligations.ClausesRunAndTakeTheirTime := by
  unfold Obligations.ClausesRunAndTakeTheirTime
  refine ⟨fun s p phrase arg hat => ⟨fun hmode hcond => ?_, fun hhere hnone => ⟨_, rfl, sector_exits hat hhere hnone⟩, ?_⟩, fun s p len cond units wedge tt => ⟨?_, ?_, stall_ends s p⟩⟩
  · have hacts {op : Nat} (hhere : clauseHere s p = (op, phrase.val, arg.toNat)) := clauseStart_acts hat hmode hhere hcond
    exact ⟨fun hhere => ⟨_, rfl, hacts hhere (by decide) nofun nofun⟩, fun hhere => ⟨_, rfl, hacts hhere (by decide) nofun nofun⟩,
      fun hhere hstack => ⟨_, rfl, hacts hhere (by decide) (fun _ => hstack) nofun⟩, fun hhere hstack => ⟨_, rfl, hacts hhere (by decide) nofun fun _ => hstack⟩,
      fun hhere => ⟨_, rfl, hacts hhere (by decide) nofun nofun⟩, fun hhere => ⟨_, rfl, hacts hhere (by decide) nofun nofun⟩,
      fun hhere => ⟨_, rfl, hacts hhere (by decide) nofun nofun⟩, fun hhere => ⟨_, rfl, hacts hhere (by decide) nofun nofun⟩,
      fun hhere => ⟨_, rfl, hacts hhere (by decide) nofun nofun⟩, fun hhere hmore => ⟨_, rfl, sector_binds hat hhere hmode hcond hmore⟩⟩
  · have hstays {op : Nat} (hnot : ¬clauseHere s p = (op, phrase.val, arg.toNat)) : (Host.Outcome.next (clauseStart s p op phrase arg.toNat) : Host.Outcome State Fault Refusal) = .next s :=
      congrArg _ (clauseStart_elsewhere hnot)
    exact ⟨hstays, hstays, hstays, hstays, hstays, hstays, hstays, hstays, hstays, hstays⟩
  · intro hroom
    refine ⟨fun hclause => ?_, fun of_ hof => ⟨fun hclause hne hevent => ?_, fun hclause hevent hservo => ?_⟩, fun hclause hcall hret => ?_⟩
    · exact timeEnd_acts s p hroom hclause
    · exact waitMet_acts s p hroom hclause hof (if_neg hne) (fun h => absurd h hne) hevent
    · exact waitMet_acts s p hroom hclause hof (if_pos rfl) (fun _ => hservo) hevent
    · exact (waitTimeout_acts s p hroom hclause hcall hret).mono fun t ht => ⟨fun _ _ => ht.1, ht.2⟩
  · intro hstays
    show execPlayerStallEnd p s = _
    unfold execPlayerStallEnd
    refine if_neg fun h => ?_
    rcases hstays with h' | h'
    · exact h' h.1
    · exact Bool.false_ne_true (h.2.symm.trans h')

end Sys2Proof.Machine
end

section
/-!
PROOFS. The gate entries of a sentence (R235).
-/

namespace Sys2Proof.Machine

/-! ### Players but for their entries' results -/

/-- An entry but for its report and its result. -/
def unmarked (e : Entry) : Entry := { e with report := 0, result := 0, final := false }

/-- A player with its entries' reports and results left out. -/
def scene (x : Player) : Player × List Entry := ({ x with entries := [] }, x.entries.map unmarked)

/-- Every player is as before but for its entries' reports and results. -/
def SameScene (s t : State) : Prop := ∀ q, scene (t.playerOf q) = scene (s.playerOf q)

/-- Every player is as before but for its entries. -/
def SameStage (s t : State) : Prop := ∀ q, (scene (t.playerOf q)).1 = (scene (s.playerOf q)).1

theorem SameScene.of_players {s t : State} (h : t.players = s.players) : SameScene s t := fun q => congrArg scene (playerOf_congr h q)

theorem SameScene.refl (s : State) : SameScene s s := fun _ => rfl

theorem SameScene.trans {s t u : State} (h : SameScene s t) (h' : SameScene t u) : SameScene s u := fun q => (h' q).trans (h q)

theorem SameScene.stage {s t : State} (h : SameScene s t) : SameStage s t := fun q => congrArg Prod.fst (h q)

theorem SameStage.of_players {s t : State} (h : t.players = s.players) : SameStage s t := (SameScene.of_players h).stage

theorem SameStage.trans {s t u : State} (h : SameStage s t) (h' : SameStage t u) : SameStage s u := fun q => (h' q).trans (h q)

/-- An entry is found again, the same but for its report and its result. -/
theorem SameScene.entry {s t : State} (h : SameScene s t) {p i : Nat} {e : Entry} (he : s.entryOf p i = some e) :
    ∃ e', t.entryOf p i = some e' ∧ e'.opened = e.opened ∧ e'.capturing = e.capturing ∧ e'.closing = e.closing ∧ e'.played = e.played := by
  have hmap := congrArg (fun c => c.2[i]?) (h p)
  unfold scene at hmap
  simp only [List.getElem?_map] at hmap
  have he : (s.playerOf p).entries[i]? = some e := he
  rw [he] at hmap
  cases ht : (t.playerOf p).entries[i]? with
  | none => rw [ht] at hmap; exact absurd hmap (by simp)
  | some e' =>
    rw [ht] at hmap
    have heq : unmarked e' = unmarked e := Option.some.inj hmap
    exact ⟨e', ht, show (unmarked e').opened = (unmarked e).opened from congrArg _ heq, show (unmarked e').capturing = (unmarked e).capturing from congrArg _ heq,
      show (unmarked e').closing = (unmarked e).closing from congrArg _ heq, show (unmarked e').played = (unmarked e).played from congrArg _ heq⟩

/-- What is not among the entries. -/
theorem SameStage.field {α : Type} {π : Player → α} (hπ : ∀ x, π { x with entries := [] } = π x) {s t : State} (h : SameStage s t) (q : Nat) :
    π (t.playerOf q) = π (s.playerOf q) := by
  rw [← hπ (t.playerOf q), ← hπ (s.playerOf q)]
  exact congrArg π (h q)

theorem modEntry_stage (s : State) (p i : Nat) (f : Entry → Entry) : SameStage s (modEntry s p i f) := fun q =>
  field_modPlayer (π := fun x => (scene x).1) s p q _ fun _ => rfl

theorem modEntry_scene (s : State) (p i : Nat) (f : Entry → Entry)
    (h : ∀ e, s.entryOf p i = some e → unmarked (f e) = unmarked e) : SameScene s (modEntry s p i f) := by
  intro q
  unfold modEntry State.modPlayer State.playerOf
  dsimp only
  rw [vget_vmod]
  split
  · next hq =>
    obtain ⟨rfl, -⟩ := hq
    exact Prod.ext rfl (map_modify_of_same _ _ _ _ h)
  · rfl

theorem report_scene (s : State) (p i mask : Nat) : SameScene s (report s p i mask) :=
  modEntry_scene s p i _ fun e _ => by
    split
    · rfl
    · rfl

theorem reportGated_scene (s : State) (a mask : Nat) : SameScene s (reportGated s a mask) :=
  State.each_inv (P := SameScene s) (.refl s) fun t x _ ht => ht.trans (report_scene t x.1 x.2 mask)

theorem endEntry_scene (s : State) (p i result : Nat) (poisoned : Bool) : SameScene s (endEntry s p i result poisoned) := by
  unfold endEntry
  split
  · exact .refl s
  · next e he =>
    split
    · exact .refl s
    · have hmod : SameScene s (modEntry s p i fun _ => { e with result := result, final := true }) := modEntry_scene s p i _ fun e' he' => by
        obtain rfl := Option.some.inj (he.symm.trans he')
        rfl
      dsimp only
      split
      · exact hmod.trans (.of_players rfl)
      · exact hmod

theorem writeIncomplete_scene (s : State) (p i mask : Nat) (poisoned : Bool) : SameScene s (writeIncomplete s p i mask poisoned) := by
  unfold writeIncomplete
  split
  · exact .refl s
  · split
    · exact .refl s
    · exact ((report_scene s p i _).trans (endEntry_scene _ p i _ poisoned)).trans (.of_players (State.players_bump ..))

theorem cutWrite_scene (s : State) (a mask : Nat) (poisoned : Bool) : SameScene s (cutWrite s a mask poisoned) := by
  unfold cutWrite
  dsimp only
  split
  · next i p _ _ =>
    refine SameScene.trans (t := pieced s a p i (s.chanOf a)) (.of_players (pieced_players ..)) ?_
    exact writeIncomplete_scene (pieced s a p i (s.chanOf a)) p i mask poisoned
  · exact .of_players rfl

theorem postFront_scene (s : State) (a : Nat) (e : FrontEvent) : SameScene s (postFront s a e) := by
  unfold postFront
  split
  · exact .refl s
  · split
    · exact .of_players rfl
    · dsimp only
      have hlost : SameScene s (reportGated (s.modChan a fun c => { c with eventLost := true }) a rEventLost) := by
        refine SameScene.trans ?_ (reportGated_scene _ a _)
        exact .of_players rfl
      split
      · exact hlost.trans (.of_players rfl)
      · exact hlost

theorem lockSentence_scene (s : State) (a : Nat) : SameScene s (lockSentence s a) := by
  unfold lockSentence
  split
  · dsimp only
    refine SameScene.trans (.of_players ?_) (postFront_scene _ a _)
    exact State.players_bump ..
  · exact .refl s

theorem assertWu_scene (s : State) (a : Nat) (src : WuSource) : SameScene s (assertWu s a src) := by
  have hlocked : SameScene s (wuLocked s a src) :=
    (SameScene.of_players (wuSet_same s a src).1).trans (lockSentence_scene (wuSet s a src) a)
  rw [assertWu_eq]
  split
  · exact hlocked.trans (cutWrite_scene _ a rUnsafe false)
  · exact hlocked.trans (.of_players rfl)

theorem unlockSeen_scene (s : State) (a : Nat) : SameScene s (unlockSeen s a) := by
  unfold unlockSeen
  split
  · exact .refl s
  · exact (assertWu_scene s a _).trans (.of_players (State.players_bump ..))

theorem FrontPosted.entryEnded {a : Nat} {s t : State} (h : FrontPosted a s t) {p i result mask : Nat} (he : EntryEnded s p i result mask) :
    EntryEnded t p i result mask := by
  obtain ⟨e, hentry, hfinal, hresult, hreport⟩ := he
  obtain ⟨r, hr⟩ := h.noted.entry p i e hentry
  exact ⟨_, hr, hfinal, hresult, HasBits.or_left hreport r⟩

/-! ### The read gate opens -/

section
variable {s : State} {p : Nat} (hp : p < 8) (g : GateEntry)

/-- The read gate open, before an unlocked synthesiser is seen. -/
def readOpened (s : State) (p : Nat) (g : GateEntry) : State :=
  let a := playerAct p
  let pl := s.playerOf p
  let h := pl.header
  let first := !(pl.entries.any fun e => e.opened && !e.isWrite)
  let lanes := lanesInUse s a p
  let s := preambleLoops a s h first
  let c := s.chanOf a
  let idle := (entriesWhere s p (·.capturing)).isEmpty
  let s := s.modChan a fun c =>
    let c := { c with readGate := true, lanesInUse := lanes }
    if idle then streamAt c g.wedge g.target else c
  let mask := lanes * 16 ||| (if bit c.wu (wuBit .frameVerify) || c.faultLow then rPreamp else 0) |||
    (if c.synthLocked then 0 else rSynth)
  let s := modEntry s p g.entry fun e => { e with opened := true, capturing := true
                                                  report := e.report ||| mask ||| (if entrySplit h e then rSplit else 0) }
  s.modPlayer p fun pl => { pl with visited := pl.visited + 1 }

theorem readOpen_eq (s : State) (p : Nat) (g : GateEntry) :
    readOpen s p g = if ((readOpened s p g).chanOf (playerAct p)).synthLocked then readOpened s p g else unlockSeen (readOpened s p g) (playerAct p) := by
  unfold readOpen readOpened
  with_reducible rfl

theorem unlockSeen_readGate (s : State) {a : Nat} (ha : a < 4) : ((unlockSeen s a).chanOf a).readGate = (s.chanOf a).readGate := by
  unfold unlockSeen
  split
  · rfl
  · obtain ⟨duty, from', hchan⟩ := assertWu_chan s ha .synthUnlock
    obtain ⟨ev, lost, l, at', hlocked⟩ := wuLocked_chan s ha .synthUnlock
    refine (congrArg Channel.readGate (chanOf_congr (State.chan_bump ..) a)).trans ?_
    rw [hchan, hlocked]

include hp

theorem readOpened_effect {e : Entry} (he : s.entryOf p g.entry = some e) :
    ((readOpened s p g).chanOf (playerAct p)).readGate = true ∧ ((readOpened s p g).playerOf p).gates = (s.playerOf p).gates ∧
    ∃ e', (readOpened s p g).entryOf p g.entry = some e' ∧ e'.opened = true ∧ e'.capturing = true := by
  have ha : playerAct p < 4 := by unfold playerAct; omega
  unfold readOpened
  extract_lets a pl h first lanes s1 c idle s2 mask s3
  have hplayers : s2.players = s.players := rfl
  have hentry : s2.entryOf p g.entry = some e := (entryOf_congr hplayers p g.entry).trans he
  have hchan : (s2.chanOf a).readGate = true := by
    have hs2 : s2.chanOf a = _ := chanOf_modChan s1 _ ha
    rw [hs2]
    split
    · rfl
    · rfl
  have hopened : s3.entryOf p g.entry = some { e with opened := true, capturing := true, report := e.report ||| mask ||| (if entrySplit h e then rSplit else 0) } := by
    have h3 := entryOf_modEntry s2 p g.entry (fun e => { e with
      opened := true, capturing := true, report := e.report ||| mask ||| (if entrySplit h e then rSplit else 0) }) p g.entry
    rw [if_pos ⟨rfl, hp, rfl⟩, hentry] at h3
    exact h3
  refine ⟨hchan, ?_, ?_⟩
  · refine (field_modPlayer (π := Player.gates) s3 p p _ (by intro; rfl)).trans ?_
    refine (SameStage.field (π := Player.gates) (fun _ => rfl) (modEntry_stage s2 p g.entry _) p).trans ?_
    exact congrArg Player.gates (playerOf_congr hplayers p)
  · have hvisited : (s3.modPlayer p fun pl => { pl with visited := pl.visited + 1 }).entryOf p g.entry = s3.entryOf p g.entry :=
      field_modPlayer (π := fun x => x.entries[g.entry]?) s3 p p _ (by intro; rfl)
    exact ⟨_, hvisited.trans hopened, rfl, rfl⟩

theorem readOpen_effect {e : Entry} (he : s.entryOf p g.entry = some e) :
    ((readOpen s p g).chanOf (playerAct p)).readGate = true ∧ ((readOpen s p g).playerOf p).gates = (s.playerOf p).gates ∧
    ∃ e', (readOpen s p g).entryOf p g.entry = some e' ∧ e'.opened = true ∧ e'.capturing = true := by
  obtain ⟨hgate, hgates, e', he', hopened, hcapturing⟩ := readOpened_effect hp g he
  rw [readOpen_eq]
  generalize readOpened s p g = t at hgate hgates he'
  split
  · exact ⟨hgate, hgates, e', he', hopened, hcapturing⟩
  · have hscene := unlockSeen_scene t (playerAct p)
    obtain ⟨e'', he'', hopened', hcapturing', -⟩ := hscene.entry he'
    exact ⟨(unlockSeen_readGate t (by unfold playerAct; omega)).trans hgate, (hscene.stage.field (π := Player.gates) (fun _ => rfl) p).trans hgates,
      e'', he'', hopened'.trans hopened, hcapturing'.trans hcapturing⟩

end

/-- The state with the parts of another that it may differ in. -/
theorem eq_of_within {s t : State} (h : Within [.chan, .players] s t) : t = { s with chan := t.chan, players := t.players } := by
  cases s
  cases t
  simp_all [Within]

/-- What the laser, the write gate and the pieces of a sector are read from. -/
theorem laserCode_within {s t : State} (h : Within [.chan, .players] s t) :
    (∀ h sel, laserCode t h sel = laserCode s h sel) ∧ (∀ h w t0 w' t', gapT t h w t0 w' t' = gapT s h w t0 w' t') ∧ (∀ a m, modeCode t a m = modeCode s a m) := by
  rw [eq_of_within h]
  exact ⟨fun _ _ => rfl, fun _ _ _ _ _ => rfl, fun _ _ => rfl⟩

theorem writeReady_within {s t : State} (h : Within [.chan, .players] s t) {a : Nat} (hchan : t.chanOf a = s.chanOf a) : writeReady t a = writeReady s a := by
  unfold writeReady
  rw [hchan, (laserCode_within h).2.2]

theorem piecesOf_within {s t : State} (h : Within [.chan, .players] s t) {p : Nat} (hheader : (t.playerOf p).header = (s.playerOf p).header) (e : Entry) :
    piecesOf t p e = piecesOf s p e := by
  have hp := within_iff.mp h
  unfold piecesOf
  dsimp only
  rw [hheader, State.num_congr (hp .objs (by decide)), hp .mem (by decide)]

/-! ### The write gate opens -/

/-- A sector that ends INCOMPLETE with its gate shut: its status word, the gate and the laser. -/
theorem dark_incomplete {s : State} {p i : Nat} {e : Entry} (hp : p < 8) (he : s.entryOf p i = some e) (hfinal : e.final = false) (mask : Nat) :
    let t := laserDark (writeIncomplete s p i mask) (playerAct p)
    (t.chanOf (playerAct p)).writeGate = (s.chanOf (playerAct p)).writeGate ∧ (t.chanOf (playerAct p)).readGate = (s.chanOf (playerAct p)).readGate ∧
    ((s.chanOf (playerAct p)).writeGate = none → (t.chanOf (playerAct p)).laser = 0) ∧ SameScene s t ∧
    ∀ m, HasBits m (e.report ||| (rIncomplete ||| splitBit s p e ||| mask)) → EntryEnded t p i 6 m := by
  have ha : playerAct p < 4 := by unfold playerAct; omega
  obtain ⟨e', hentry, hend, hresult, hreport⟩ := writeIncomplete_self hp he hfinal mask false
  have hscene := writeIncomplete_scene s p i mask false
  have hchan : (writeIncomplete s p i mask).chanOf (playerAct p) = s.chanOf (playerAct p) :=
    chanOf_congr (within_iff.mp (@writeIncomplete_frame [.objs, .players, .mem, .free] s (touch_of rfl) (touch_of rfl) (touch_of rfl) (touch_of rfl) s p i mask
      false (.refl _ s)) .chan (by decide)) _
  generalize writeIncomplete s p i mask = u at hentry hscene hchan
  have hdark : (laserDark u (playerAct p)).chanOf (playerAct p) = _ := chanOf_modChan u _ ha
  dsimp only
  rw [hdark, hchan]
  refine ⟨rfl, rfl, fun hnone => ?_, hscene.trans (.of_players rfl), fun m hm => ⟨e', hentry, hend, hresult, ?_⟩⟩
  · rw [hnone]
    rfl
  · rw [hreport]
    exact hm

/-- A write whose gate is to open, noted in its player and its entry's report. -/
def writeAsked (s : State) (p i mask : Nat) : State := report (s.modPlayer p fun pl => { pl with visited := pl.visited + 1 }) p i mask

theorem writeAsked_effect {s : State} {p i : Nat} {e : Entry} (hp : p < 8) (he : s.entryOf p i = some e) (hfinal : e.final = false) (mask : Nat) :
    (writeAsked s p i mask).entryOf p i = some { e with report := e.report ||| mask } ∧
    ((writeAsked s p i mask).playerOf p).gates = (s.playerOf p).gates ∧ ((writeAsked s p i mask).playerOf p).header = (s.playerOf p).header ∧
    ((writeAsked s p i mask).playerOf p).selector = (s.playerOf p).selector ∧ Within [.chan, .players] s (writeAsked s p i mask) ∧
    (writeAsked s p i mask).chan = s.chan := by
  let u := s.modPlayer p fun pl => { pl with visited := pl.visited + 1 }
  have hu : u.entryOf p i = some e := (field_modPlayer (π := fun x => x.entries[i]?) s p p _ (by intro; rfl)).trans he
  have hstage := (report_scene u p i mask).stage
  have hplayer : u.playerOf p = _ := playerOf_modPlayer s _ hp
  refine ⟨report_self hp hu hfinal, ?_, ?_, ?_, ?_, rfl⟩
  · exact (hstage.field (π := Player.gates) (fun _ => rfl) p).trans (by rw [hplayer])
  · exact (hstage.field (π := Player.header) (fun _ => rfl) p).trans (by rw [hplayer])
  · exact (hstage.field (π := Player.selector) (fun _ => rfl) p).trans (by rw [hplayer])
  · exact @report_frame [.chan, .players] s (touch_of rfl) u p i mask (@State.modPlayer_frame [.chan, .players] s (touch_of rfl) s p _ (.refl _ s))

/-- The write gate of player p open at t for entry i. -/
def writeOpened (s : State) (p i t : Nat) : State :=
  (modEntry s p i fun e => { e with opened := true }).modChan (playerAct p) fun c => { c with
    writeGate := some i, writeFrom := t, freeze := setBit c.freeze 3, laser := laserCode s (s.playerOf p).header (s.playerOf p).selector }

theorem writeOpen_eq {s : State} {p : Nat} {g : GateEntry} {e : Entry} (he : s.entryOf p g.entry = some e) (hfinal : e.final = false)
    (hsynth : (s.chanOf (playerAct p)).synthLocked = true) :
    ∃ fault, let u := writeAsked s p g.entry (splitBit s p e ||| fault ||| 0)
      writeOpen s p g =
        if (u.chanOf (playerAct p)).locked then
          laserDark (writeIncomplete u p g.entry (if (u.chanOf (playerAct p)).lockAt = some (g.wedge, g.target) then rUnsafe else 0)) (playerAct p)
        else if (u.chanOf (playerAct p)).wu ≠ 0 then laserDark (writeIncomplete (lockSentence u (playerAct p)) p g.entry rUnsafe) (playerAct p)
        else if !writeReady u (playerAct p) then laserDark (writeIncomplete u p g.entry 0) (playerAct p)
        else writeOpened u p g.entry g.target := by
  let v := s.modPlayer p fun pl => { pl with visited := pl.visited + 1 }
  have hv : v.entryOf p g.entry = some e := (field_modPlayer (π := fun x => x.entries[g.entry]?) s p p _ (by intro; rfl)).trans he
  have hsplit : splitBit v p e = splitBit s p e := by
    unfold splitBit
    rw [show (v.playerOf p).header = (s.playerOf p).header from field_modPlayer (π := Player.header) s p p _ (by intro; rfl)]
  have hsynth' : (v.chanOf (playerAct p)).synthLocked = true := hsynth
  refine ⟨if (v.chanOf (playerAct p)).faultLow then rPreamp else 0, ?_⟩
  unfold writeOpen
  dsimp only
  rw [show (s.modPlayer p fun pl => { pl with visited := pl.visited + 1 }) = v from rfl, hv]
  dsimp only
  rw [hfinal, if_neg Bool.false_ne_true, hsynth', if_pos rfl, if_pos rfl, hsplit]
  rfl

/-- The mark of a sector that crosses a servo field. -/
abbrev splitMark (h : Header) (e : Entry) : Nat := if entrySplit h e then 2 ^ 3 else 0

theorem splitBit_eq (s : State) (p : Nat) (e : Entry) : splitBit s p e = splitMark (s.playerOf p).header e := rfl

theorem mask_add (h : Header) (e : Entry) :
    2 ^ 9 + splitMark h e = 2 ^ 9 ||| splitMark h e ∧ 2 ^ 9 + 2 ^ 8 + splitMark h e = 2 ^ 9 ||| 2 ^ 8 ||| splitMark h e ∧
    2 ^ 11 + splitMark h e = 2 ^ 11 ||| splitMark h e ∧ 2 ^ 11 + 2 ^ 9 + splitMark h e = 2 ^ 11 ||| 2 ^ 9 ||| splitMark h e := by
  unfold splitMark
  split <;> decide

section
variable {s : State} {p : Nat} (hp : p < 8) {g : GateEntry} {e : Entry} (he : s.entryOf p g.entry = some e) (hfinal : e.final = false)
  (hsynth : (s.chanOf (playerAct p)).synthLocked = true)
include hp he hfinal hsynth

theorem writeOpen_opens (hlocked : (s.chanOf (playerAct p)).locked = false) (hwu : (s.chanOf (playerAct p)).wu = 0) (hready : writeReady s (playerAct p) = true) :
    let t := writeOpen s p g
    (t.chanOf (playerAct p)).writeGate = some g.entry ∧ (t.chanOf (playerAct p)).laser = laserCode s (s.playerOf p).header (s.playerOf p).selector ∧
    (t.chanOf (playerAct p)).freeze.testBit 3 = true ∧ (t.playerOf p).gates = (s.playerOf p).gates := by
  obtain ⟨fault, hopen⟩ := writeOpen_eq he hfinal hsynth
  obtain ⟨-, hgates, hheader, hsel, hparts, hchan⟩ := writeAsked_effect hp he hfinal (splitBit s p e ||| fault ||| 0)
  dsimp only at hopen ⊢
  generalize writeAsked s p g.entry (splitBit s p e ||| fault ||| 0) = u at hopen hgates hheader hsel hparts hchan
  have hchan' : u.chanOf (playerAct p) = s.chanOf (playerAct p) := chanOf_congr hchan _
  rw [hchan', hlocked, if_neg Bool.false_ne_true, hwu, if_neg (not_not.mpr rfl), writeReady_within hparts hchan', hready, if_neg (by decide)] at hopen
  have hopened : (writeOpened u p g.entry g.target).chanOf (playerAct p) = _ := chanOf_modChan (modEntry u p g.entry fun e => { e with opened := true }) _ (by unfold playerAct; omega)
  rw [hopen, hopened]
  refine ⟨rfl, ?_, testBit_setBit _ 3, ?_⟩
  · rw [hheader, hsel]
    exact (laserCode_within hparts).1 _ _
  · exact ((modEntry_stage u p g.entry _).field (π := Player.gates) (fun _ => rfl) p).trans hgates

theorem writeOpen_shut (hnot : (s.chanOf (playerAct p)).locked = true ∨ (s.chanOf (playerAct p)).wu ≠ 0 ∨ writeReady s (playerAct p) = false) :
    let t := writeOpen s p g
    (t.chanOf (playerAct p)).writeGate = (s.chanOf (playerAct p)).writeGate ∧ EntryEnded t p g.entry 6 (2 ^ 9 + splitMark (s.playerOf p).header e) ∧
    ((s.chanOf (playerAct p)).writeGate = none → (t.chanOf (playerAct p)).laser = 0) ∧
    ((s.chanOf (playerAct p)).locked = false → (s.chanOf (playerAct p)).wu ≠ 0 →
      EntryEnded t p g.entry 6 (2 ^ 9 + 2 ^ 8 + splitMark (s.playerOf p).header e)) ∧ (t.playerOf p).gates = (s.playerOf p).gates := by
  have ha : playerAct p < 4 := by unfold playerAct; omega
  obtain ⟨fault, hopen⟩ := writeOpen_eq he hfinal hsynth
  obtain ⟨hentry, hgates, hheader, -, hparts, hchan⟩ := writeAsked_effect hp he hfinal (splitBit s p e ||| fault ||| 0)
  dsimp only at hopen ⊢
  generalize writeAsked s p g.entry (splitBit s p e ||| fault ||| 0) = u at hopen hentry hgates hheader hparts hchan
  have hchan' : u.chanOf (playerAct p) = s.chanOf (playerAct p) := chanOf_congr hchan _
  obtain ⟨hmask9, hmask98, -, -⟩ := mask_add (s.playerOf p).header e
  have hend (v : State) (e1 : Entry) (hv : v.entryOf p g.entry = some e1) (hf : e1.final = false)
      (hhead : (v.playerOf p).header = (s.playerOf p).header) (hpos : entrySplit (s.playerOf p).header e1 = entrySplit (s.playerOf p).header e)
      (hg : (v.playerOf p).gates = (s.playerOf p).gates) (hw : (v.chanOf (playerAct p)).writeGate = (s.chanOf (playerAct p)).writeGate) (mask : Nat) :
      let t := laserDark (writeIncomplete v p g.entry mask) (playerAct p)
      (t.chanOf (playerAct p)).writeGate = (s.chanOf (playerAct p)).writeGate ∧ EntryEnded t p g.entry 6 (2 ^ 9 + splitMark (s.playerOf p).header e) ∧
      ((s.chanOf (playerAct p)).writeGate = none → (t.chanOf (playerAct p)).laser = 0) ∧
      (mask = rUnsafe → EntryEnded t p g.entry 6 (2 ^ 9 + 2 ^ 8 + splitMark (s.playerOf p).header e)) ∧ (t.playerOf p).gates = (s.playerOf p).gates := by
    obtain ⟨hgate, -, hlaser, hscene, hended⟩ := dark_incomplete hp hv hf mask
    have hbits : HasBits (2 ^ 9) (e1.report ||| (rIncomplete ||| splitBit v p e1 ||| mask)) ∧
        HasBits (splitMark (s.playerOf p).header e) (e1.report ||| (rIncomplete ||| splitBit v p e1 ||| mask)) := by
      have hbit : splitBit v p e1 = splitMark (s.playerOf p).header e := by
        rw [splitBit_eq, hhead]
        unfold splitMark
        rw [hpos]
      rw [hbit]
      exact ⟨((HasBits.refl _).or_left _ |>.or_left _).or_right _, (((HasBits.refl _).or_right _).or_left _).or_right _⟩
    refine ⟨hgate.trans hw, hended _ ?_, fun hn => hlaser (hw.trans hn), fun hm => hended _ ?_, (hscene.stage.field (π := Player.gates) (fun _ => rfl) p).trans hg⟩
    · rw [hmask9]
      exact hbits.1.add hbits.2
    · rw [hmask98]
      refine (hbits.1.add ?_).add hbits.2
      rw [hm]
      exact ((HasBits.refl _).or_right _).or_right _
  rw [hopen, hchan']
  split
  · next hl =>
    obtain ⟨h1, h2, h3, -, h5⟩ := hend u _ hentry hfinal hheader rfl hgates (by rw [hchan']) _
    exact ⟨h1, h2, h3, fun hno => absurd (hno.symm.trans hl) Bool.false_ne_true, h5⟩
  · split
    · next hwu =>
      obtain ⟨hnoted, ⟨ev, lost, l, at', hlchan⟩, -⟩ := lockSentence_locked u ha
      obtain ⟨r, hr⟩ := hnoted.entry p g.entry _ hentry
      have hlscene := lockSentence_scene u (playerAct p)
      obtain ⟨h1, h2, h3, h4, h5⟩ := hend (lockSentence u (playerAct p)) _ hr hfinal ((hnoted.header p).trans hheader) rfl
        ((hlscene.stage.field (π := Player.gates) (fun _ => rfl) p).trans hgates) (by rw [hlchan, hchan']) rUnsafe
      exact ⟨h1, h2, h3, fun _ _ => h4 rfl, h5⟩
    · next hl hwu =>
      have hready : writeReady u (playerAct p) = false := by
        rw [writeReady_within hparts hchan']
        exact (hnot.resolve_left hl).resolve_left hwu
      rw [hready, if_pos (by rfl)]
      obtain ⟨h1, h2, h3, -, h5⟩ := hend u _ hentry hfinal hheader rfl hgates (by rw [hchan']) 0
      exact ⟨h1, h2, h3, fun _ hno => absurd hno hwu, h5⟩

end

/-! ### The write gate closes -/

/-- The state in which a sector that has passed whole gets its status word. -/
def writePassed (s : State) (p w t : Nat) (e : Entry) : State :=
  (emitPieces s p e (piecesOf s p e)).modChan (playerAct p) fun c => { noteWritten c t with writeGate := none, laser := laserAfter s p w t }

theorem writeClose_eq {s : State} {p w t i : Nat} (hgate : (s.chanOf (playerAct p)).writeGate = some i) :
    writeClose s p w t = match s.entryOf p i with
      | none => cutWrite s (playerAct p) 0
      | some e => if entryEnd (s.playerOf p).header e ≤ posIdx (s.playerOf p).header w t then endEntry (writePassed s p w t e) p i resWritten
          else cutWrite s (playerAct p) 0 := by
  unfold writeClose writePassed
  dsimp only
  rw [hgate] <;> rfl

theorem writePassed_effect (s : State) {p : Nat} (hp : p < 8) (w t : Nat) (e : Entry) :
    (writePassed s p w t e).players = s.players ∧ ((writePassed s p w t e).chanOf (playerAct p)).writeGate = none ∧
    ((piecesOf s p e).any (!·.2.2.isEmpty) = true → (writePassed s p w t e).outs =
      .medium (playerAct p) (s.playerOf p).header.surface (s.playerOf p).header.track e.psector (piecesOf s p e) :: s.outs) := by
  have hemit := within_iff.mp (@emitPieces_frame [.outs] s (touch_of rfl) s p e (piecesOf s p e) (.refl _ s))
  have hchan : (writePassed s p w t e).chanOf (playerAct p) = _ := chanOf_modChan (emitPieces s p e (piecesOf s p e)) _ (by unfold playerAct; omega)
  refine ⟨hemit .players (by decide), by rw [hchan], fun hany => ?_⟩
  show (emitPieces s p e (piecesOf s p e)).outs = _
  unfold emitPieces
  dsimp only
  have hall : (piecesOf s p e).all (·.2.2.isEmpty) = false := by
    obtain ⟨x, hx, hne⟩ := List.any_eq_true.mp hany
    rw [List.all_eq_false]
    exact ⟨x, hx, by simpa using hne⟩
  rw [hall, if_neg Bool.false_ne_true]
  rfl

theorem cutWrite_shut (s : State) {a : Nat} (ha : a < 4) (mask : Nat) : ((cutWrite s a mask).chanOf a).writeGate = none := by
  rw [cutWrite_chan s ha]

theorem endEntry_chan (s : State) (p i result b : Nat) : (endEntry s p i result).chanOf b = s.chanOf b :=
  chanOf_congr (within_iff.mp (endEntry_still s p i result false) .chan (by decide)) b

/-- However a write gate closes, it is closed, and the players are as they were but for their entries' results. -/
theorem writeClose_shut (s : State) {p : Nat} (hp : p < 8) (w t : Nat) :
    ((writeClose s p w t).chanOf (playerAct p)).writeGate = none ∧ SameScene s (writeClose s p w t) := by
  have ha : playerAct p < 4 := by unfold playerAct; omega
  cases hgate : (s.chanOf (playerAct p)).writeGate with
  | none =>
    unfold writeClose
    dsimp only
    rw [hgate]
    exact ⟨hgate, .refl s⟩
  | some i =>
    have hcut := And.intro (cutWrite_shut s ha 0) (cutWrite_scene s (playerAct p) 0 false)
    rw [writeClose_eq hgate]
    split
    · exact hcut
    · next e _ =>
      split
      · obtain ⟨hplayers, hnone, -⟩ := writePassed_effect s hp w t e
        exact ⟨(congrArg Channel.writeGate (endEntry_chan ..)).trans hnone, (SameScene.of_players hplayers).trans (endEntry_scene _ p i resWritten false)⟩
      · exact hcut

section
variable {s : State} {p : Nat} (hp : p < 8) {w t i : Nat} {e : Entry} (hgate : (s.chanOf (playerAct p)).writeGate = some i)
  (he : s.entryOf p i = some e) (hfinal : e.final = false)
include hp hgate he hfinal

theorem writeClose_passed (hpassed : entryEnd (s.playerOf p).header e ≤ posIdx (s.playerOf p).header w t) :
    EntryEnded (writeClose s p w t) p i 5 0 ∧ ((piecesOf s p e).any (!·.2.2.isEmpty) = true → (writeClose s p w t).outs =
      .medium (playerAct p) (s.playerOf p).header.surface (s.playerOf p).header.track e.psector (piecesOf s p e) :: s.outs) := by
  obtain ⟨hplayers, -, houts⟩ := writePassed_effect s hp w t e
  rw [writeClose_eq hgate, he]
  dsimp only
  rw [if_pos hpassed]
  have hentry : (writePassed s p w t e).entryOf p i = some e := (entryOf_congr hplayers p i).trans he
  refine ⟨⟨_, endEntry_self hp hentry hfinal false, rfl, rfl, Nat.and_zero _⟩, fun hany => ?_⟩
  exact (within_iff.mp (endEntry_still (writePassed s p w t e) p i resWritten false) .outs (by decide)).trans (houts hany)

theorem writeClose_incomplete (hplay : (s.actOf (playerAct p)).playing = some p)
    (hshort : posIdx (s.playerOf p).header w t < entryEnd (s.playerOf p).header e) :
    EntryEnded (writeClose s p w t) p i 6 (2 ^ 9 + splitMark (s.playerOf p).header e) := by
  rw [writeClose_eq hgate, he]
  dsimp only
  rw [if_neg (Nat.not_le_of_lt hshort), cutWrite_writing hplay hgate]
  have hplayers := pieced_players s (playerAct p) p i (s.chanOf (playerAct p))
  have hentry : (pieced s (playerAct p) p i (s.chanOf (playerAct p))).entryOf p i = some e := (entryOf_congr hplayers p i).trans he
  obtain ⟨e', he', hended, hresult, hreport⟩ := writeIncomplete_self hp hentry hfinal 0 false
  refine ⟨e', he', hended, hresult, ?_⟩
  rw [hreport, (mask_add _ e).1, splitBit_eq, playerOf_congr hplayers]
  exact (((HasBits.refl _).or_left _).or_left _ |>.or_right _).add ((((HasBits.refl _).or_right _).or_left _).or_right _)

end

/-! ### All gates close -/

/-- Player p's entries go on as they were, or end their captures; the capture of entry i is over. -/
def Falls (p i : Nat) (s t : State) : Prop :=
  ∀ j e, s.entryOf p j = some e → ∃ e', t.entryOf p j = some e' ∧ (e'.capturing = true → e.capturing = true ∧ j ≠ i)

theorem Falls.then {p i : Nat} {s t u : State} (h : Falls p i s t)
    (h' : ∀ j e, t.entryOf p j = some e → ∃ e', u.entryOf p j = some e' ∧ e'.capturing = e.capturing) : Falls p i s u := by
  intro j e he
  obtain ⟨e1, h1, hcap⟩ := h j e he
  obtain ⟨e2, h2, hsame⟩ := h' j e1 h1
  exact ⟨e2, h2, fun hc => hcap (hsame.symm.trans hc)⟩

theorem Falls.scene {p i : Nat} {s t u : State} (h : Falls p i s t) (h' : SameScene t u) : Falls p i s u :=
  h.then fun _ _ he => (h'.entry he).imp fun _ h => ⟨h.1, h.2.2.1⟩

theorem modEntry_keeps (s : State) (p i : Nat) (f : Entry → Entry) {β : Type} {π : Entry → β} (hf : ∀ x, π (f x) = π x) (j : Nat) (e : Entry)
    (he : s.entryOf p j = some e) : ∃ e', (modEntry s p i f).entryOf p j = some e' ∧ π e' = π e := by
  rw [entryOf_modEntry, he]
  split
  · exact ⟨_, rfl, hf e⟩
  · exact ⟨e, rfl, rfl⟩

theorem modEntry_falls (s : State) {p : Nat} (hp : p < 8) (i : Nat) {x : Entry} (hx : x.capturing = false) : Falls p i s (modEntry s p i fun _ => x) := by
  intro j e he
  rw [entryOf_modEntry, he]
  by_cases hj : i = j
  · rw [if_pos ⟨rfl, hp, hj⟩]
    exact ⟨x, rfl, fun hc => absurd (hx.symm.trans hc) Bool.false_ne_true⟩
  · rw [if_neg fun h => hj h.2.2]
    exact ⟨e, rfl, fun hc => ⟨hc, fun h => hj h.symm⟩⟩

theorem captureStored_falls (s : State) {p : Nat} (hp : p < 8) (i : Nat) {e : Entry} (hover : e.capturing = false) :
    Falls p i s (captureStored s p i e) ∧ SameStage s (captureStored s p i e) := by
  have hkept : Falls p i s (captureKept s p i e) ∧ SameStage s (captureKept s p i e) := by
    unfold captureKept
    extract_lets a h o s1 s2
    have h1 : Falls p i s s1 := modEntry_falls s hp i hover
    have h2 : s2.players = s1.players := by
      unfold s2
      split
      · exact State.players_bump ..
      · split
        · exact State.players_bump ..
        · rfl
    let s3 := storeRingSlot s2 p (foundEntry h e) (slotOfCapture h (foundEntry h e))
    have h3 : SameScene s1 s3 := .of_players h2
    have h4 := h3.trans (postFront_scene s3 a ⟨evCapture, (s3.chanOf a).streamWedge, (s3.chanOf a).streamT, some i⟩)
    exact ⟨h1.scene h4, (modEntry_stage s p i _).trans h4.stage⟩
  rw [captureStored_eq]
  dsimp only
  generalize captureKept s p i e = t at hkept ⊢
  obtain ⟨hfalls, hstage⟩ := hkept
  split
  · exact ⟨hfalls, hstage⟩
  · split
    · split
      · exact ⟨hfalls.scene (endEntry_scene t p i resNotDecoded false), hstage.trans (endEntry_scene t p i resNotDecoded false).stage⟩
      · exact ⟨hfalls, hstage⟩
    · let u := modEntry t p i fun e => { e with posted := true }
      have hposted : Falls p i s u := hfalls.then (modEntry_keeps t p i _ (π := Entry.capturing) fun _ => rfl)
      have hjob (h : Header) (x : Entry) (align : Int) : SameScene u (postJob u p i x h align) :=
        .of_players (within_iff.mp (postJob_parts u p i x h align) .players (by decide))
      exact ⟨hposted.scene (hjob _ _ _), (hstage.trans (modEntry_stage t p i _)).trans (hjob _ _ _).stage⟩

theorem endCapture_falls (s : State) {p : Nat} (hp : p < 8) (i : Nat) : Falls p i s (endCapture s p i) ∧ SameStage s (endCapture s p i) := by
  cases he : s.entryOf p i with
  | none =>
    unfold endCapture
    rw [he]
    refine ⟨fun j e hj => ⟨e, hj, fun hc => ⟨hc, fun h => ?_⟩⟩, fun _ => rfl⟩
    subst h
    exact absurd (hj.symm.trans he) (by simp)
  | some e =>
    have hplayers := (captureClosed_keeps s p i e).1
    have hclosed : Falls p i s (captureClosed s p i e) ∧ SameStage s (captureClosed s p i e) :=
      ⟨(modEntry_falls s hp i (x := { e with capturing := false }) rfl).scene (.of_players hplayers),
        (modEntry_stage s p i _).trans (.of_players hplayers)⟩
    rw [endCapture_eq he]
    generalize captureClosed s p i e = t at hclosed ⊢
    obtain ⟨hfalls, hstage⟩ := hclosed
    split
    · split
      · exact ⟨hfalls.scene (endEntry_scene t p i resNotDecoded false), hstage.trans (endEntry_scene t p i resNotDecoded false).stage⟩
      · exact ⟨hfalls, hstage⟩
    · obtain ⟨h1, h2⟩ := captureStored_falls t hp i (e := { e with capturing := false }) rfl
      refine ⟨fun j x hx => ?_, hstage.trans h2⟩
      obtain ⟨x1, hx1, hc1⟩ := hfalls j x hx
      obtain ⟨x2, hx2, hc2⟩ := h1 j x1 hx1
      exact ⟨x2, hx2, fun hc => hc1 (hc2 hc).1⟩

theorem endCapture_writeGate (s : State) {p : Nat} (hp : p < 8) (i : Nat) :
    ((endCapture s p i).chanOf (playerAct p)).writeGate = (s.chanOf (playerAct p)).writeGate := by
  have ha : playerAct p < 4 := by unfold playerAct; omega
  cases he : s.entryOf p i with
  | none =>
    unfold endCapture
    rw [he]
  | some e =>
    have hclosed : ((captureClosed s p i e).chanOf (playerAct p)).writeGate = (s.chanOf (playerAct p)).writeGate := by
      unfold captureClosed
      extract_lets a h e' s1 lanes s2 s3 s4
      have h2 : s2.chan = s1.chan := within_iff.mp (@laneFaults_frame [.objs, .raised, .free] s1 (touch_of rfl) (touch_of rfl) (touch_of rfl) s1 a lanes e' (.refl _ s1))
        .chan (by decide)
      have h3 : s3.chan = s1.chan := by
        unfold s3
        split
        · exact h2
        · exact h2
      have h4 : (s4.chanOf (playerAct p)).writeGate = (s.chanOf (playerAct p)).writeGate := by
        unfold s4
        split
        · exact (field_modChan (π := Channel.writeGate) s3 a _ _ (by intro; rfl)).trans (congrArg Channel.writeGate (chanOf_congr (s := s) h3 _))
        · exact congrArg Channel.writeGate (chanOf_congr (s := s) h3 _)
      exact (field_modChan (π := Channel.writeGate) s4 a _ _ (by intro; rfl)).trans h4
    have hkept (t : State) (x : Entry) : ((captureKept t p i x).chanOf (playerAct p)).writeGate = (t.chanOf (playerAct p)).writeGate := by
      unfold captureKept
      extract_lets a h o s1 s2
      have h2 : s2.chan = t.chan := by
        unfold s2
        split
        · exact State.chan_bump ..
        · split
          · exact State.chan_bump ..
          · rfl
      let s3 := storeRingSlot s2 p (foundEntry h x) (slotOfCapture h (foundEntry h x))
      obtain ⟨ev, lost, hchan⟩ := (postFront_posted s3 ha ⟨evCapture, (s3.chanOf a).streamWedge, (s3.chanOf a).streamT, some i⟩).chan
      have h3 : (s3.chanOf a).writeGate = (t.chanOf a).writeGate := congrArg Channel.writeGate (chanOf_congr (s := t) (t := s3) h2 _)
      exact (congrArg Channel.writeGate hchan).trans h3
    rw [endCapture_eq he]
    generalize captureClosed s p i e = t at hclosed ⊢
    split
    · split
      · exact (congrArg Channel.writeGate (endEntry_chan ..)).trans hclosed
      · exact hclosed
    · rw [captureStored_eq]
      refine Eq.trans ?_ hclosed
      rw [← hkept t { e with capturing := false }]
      dsimp only
      generalize captureKept t p i { e with capturing := false } = u
      split
      · rfl
      · split
        · split
          · exact congrArg Channel.writeGate (endEntry_chan ..)
          · rfl
        · let v := modEntry u p i fun e => { e with posted := true }
          have hjob (h : Header) (x : Entry) (align : Int) : (postJob v p i x h align).chan = u.chan :=
            within_iff.mp (postJob_parts v p i x h align) .chan (by decide)
          exact congrArg Channel.writeGate (chanOf_congr (hjob _ _ _) _)

/-- The captures of a list of entries end. -/
theorem captures_end {p : Nat} (hp : p < 8) (l : List Nat) (s : State) :
    (∀ j e, s.entryOf p j = some e → ∃ e', (s.each l fun s i => endCapture s p i).entryOf p j = some e' ∧ (e'.capturing = true → e.capturing = true ∧ j ∉ l)) ∧
    SameStage s (s.each l fun s i => endCapture s p i) ∧
    ((s.each l fun s i => endCapture s p i).chanOf (playerAct p)).writeGate = (s.chanOf (playerAct p)).writeGate := by
  induction l generalizing s with
  | nil => exact ⟨fun j e he => ⟨e, he, fun hc => ⟨hc, List.not_mem_nil⟩⟩, fun _ => rfl, rfl⟩
  | cons i l ih =>
    obtain ⟨hrest, hstage, hgate⟩ := ih (endCapture s p i)
    obtain ⟨hfalls, hstage1⟩ := endCapture_falls s hp i
    refine ⟨fun j e he => ?_, hstage1.trans hstage, hgate.trans (endCapture_writeGate s hp i)⟩
    obtain ⟨e1, h1, hc1⟩ := hfalls j e he
    obtain ⟨e2, h2, hc2⟩ := hrest j e1 h1
    refine ⟨e2, h2, fun hc => ⟨(hc1 (hc2 hc).1).1, fun hmem => ?_⟩⟩
    rcases List.mem_cons.mp hmem with h | h
    · exact (hc1 (hc2 hc).1).2 h
    · exact (hc2 hc).2 h

theorem mem_entriesWhere {s : State} {p j : Nat} {e : Entry} {f : Entry → Bool} (he : s.entryOf p j = some e) (hf : f e = true) : j ∈ entriesWhere s p f := by
  unfold entriesWhere
  refine List.mem_map.mpr ⟨(e, j), List.mem_filter.mpr ⟨?_, hf⟩, rfl⟩
  exact List.mk_mem_zipIdx_iff_getElem?.mpr he

/-- ALL_CLOSE. -/
def allClosed (s : State) (p w t : Nat) : State :=
  ((writeClose s p w t).each (entriesWhere (writeClose s p w t) p (·.capturing)) fun s i => endCapture s p i).modChan (playerAct p) fun c => { c with readGate := false }

theorem allClosed_effect (s : State) {p : Nat} (hp : p < 8) (w t : Nat) :
    ((allClosed s p w t).chanOf (playerAct p)).writeGate = none ∧ ((allClosed s p w t).chanOf (playerAct p)).readGate = false ∧ SameStage s (allClosed s p w t) ∧
    ∀ j e, s.entryOf p j = some e → ∃ e', (allClosed s p w t).entryOf p j = some e' ∧ e'.capturing = false := by
  obtain ⟨hnone, hscene⟩ := writeClose_shut s hp w t
  unfold allClosed
  generalize writeClose s p w t = u at hnone hscene
  obtain ⟨hends, hstage, hgate⟩ := captures_end hp (entriesWhere u p (·.capturing)) u
  generalize u.each (entriesWhere u p (·.capturing)) (fun s i => endCapture s p i) = v at hends hstage hgate
  have hchan := chanOf_modChan v (a := playerAct p) (fun c => { c with readGate := false }) (by unfold playerAct; omega)
  refine ⟨?_, ?_, hscene.stage.trans hstage, fun j e he => ?_⟩
  · rw [hchan]
    exact hgate.trans hnone
  · rw [hchan]
  · obtain ⟨e1, h1, -, hc1, -⟩ := hscene.entry he
    obtain ⟨e2, h2, hc2⟩ := hends j e1 h1
    refine ⟨e2, h2, ?_⟩
    cases hcap : e2.capturing with
    | false => rfl
    | true =>
      obtain ⟨h, hnot⟩ := hc2 hcap
      exact absurd (mem_entriesWhere (f := (·.capturing)) h1 h) hnot

/-! ### A late gate entry -/

/-- A late gate entry counted and marked in its player and in its entry's report. -/
def lateNoted (s : State) (p i : Nat) : State :=
  report (setFlags ((s.modPlayer p fun pl => { pl with lateGates := pl.lateGates + 1 }).bump (Obj.lateGates p)) p fLateGate) p i rLateGate

/-- What a late gate entry leaves of the rest. -/
structure LateMarked (s : State) (p : Nat) (t : State) : Prop where
  gates : (t.playerOf p).gates = (s.playerOf p).gates
  late : (t.playerOf p).lateGates = (s.playerOf p).lateGates + 1
  flags : (t.playerOf p).flags.testBit 3 = true

theorem LateMarked.stage {s t u : State} {p : Nat} (h : LateMarked s p t) (h' : SameStage t u) : LateMarked s p u where
  gates := (h'.field (π := Player.gates) (fun _ => rfl) p).trans h.gates
  late := (h'.field (π := Player.lateGates) (fun _ => rfl) p).trans h.late
  flags := (h'.field (π := fun x => x.flags.testBit 3) (fun _ => rfl) p).trans h.flags

theorem lateNoted_effect {s : State} {p i : Nat} {e : Entry} (hp : p < 8) (he : s.entryOf p i = some e) (hfinal : e.final = false) :
    LateMarked s p (lateNoted s p i) ∧ (lateNoted s p i).entryOf p i = some { e with report := e.report ||| rLateGate } ∧
    ((lateNoted s p i).playerOf p).header = (s.playerOf p).header ∧ (lateNoted s p i).chan = s.chan ∧ Counted (Obj.lateGates p) s (lateNoted s p i) := by
  let u := setFlags ((s.modPlayer p fun pl => { pl with lateGates := pl.lateGates + 1 }).bump (Obj.lateGates p)) p fLateGate
  have hplayer : u.playerOf p = { s.playerOf p with lateGates := (s.playerOf p).lateGates + 1, flags := (s.playerOf p).flags ||| fLateGate } := by
    refine (playerOf_modPlayer _ _ hp).trans ?_
    rw [playerOf_congr (State.players_bump ..), playerOf_modPlayer s _ hp]
  have hentry : u.entryOf p i = some e := by
    unfold State.entryOf
    rw [hplayer]
    exact he
  have hstage := (report_scene u p i rLateGate).stage
  have hmarked : LateMarked s p u := by
    refine ⟨by rw [hplayer], by rw [hplayer], ?_⟩
    rw [hplayer]
    show ((s.playerOf p).flags ||| 8).testBit 3 = true
    rw [Nat.testBit_or, show Nat.testBit 8 3 = true from rfl, Bool.or_true]
  refine ⟨hmarked.stage hstage, report_self hp hentry hfinal, ?_, State.chan_bump .., ?_⟩
  · exact (hstage.field (π := Player.header) (fun _ => rfl) p).trans (by rw [hplayer])
  · exact counted_bump (Obj.lateGates p) (s.modPlayer p fun pl => { pl with lateGates := pl.lateGates + 1 })

theorem lateGate_read {s : State} {p : Nat} {g : GateEntry} {e : Entry} (h : g.action = 1) (he : (lateNoted s p g.entry).entryOf p g.entry = some e) :
    lateGate s p g =
      let t := report (lateNoted s p g.entry) p g.entry (splitBit (lateNoted s p g.entry) p e)
      if e.played then endEntry t p g.entry resNotDecoded else t := by
  have hread : lateGate s p g = match (lateNoted s p g.entry).entryOf p g.entry with
      | some e =>
        let t := report (lateNoted s p g.entry) p g.entry (splitBit (lateNoted s p g.entry) p e)
        if e.played then endEntry t p g.entry resNotDecoded else t
      | none => lateNoted s p g.entry := by
    obtain ⟨action, w, t, entry, late⟩ := g
    subst h
    rfl
  rw [hread, he]

theorem lateGate_write {s : State} {p : Nat} {g : GateEntry} (h : g.action = 3) :
    lateGate s p g = laserDark (writeIncomplete (lateNoted s p g.entry) p g.entry 0) (playerAct p) := by
  obtain ⟨action, w, t, entry, late⟩ := g
  subst h
  rfl

/-- A late gate entry acts where the head is. -/
def gateNow (s : State) (p : Nat) (g : GateEntry) : GateEntry := { g with wedge := (s.chanOf (playerAct p)).wedge, target := (s.chanOf (playerAct p)).headT }

theorem lateGate_close {s : State} {p : Nat} {g : GateEntry} (h : g.action = 2 ∨ g.action = 4 ∨ g.action = 5) :
    lateGate s p g = gateAct (lateNoted s p g.entry) p (gateNow s p g) := by
  obtain ⟨action, w, t, entry, late⟩ := g
  rcases h with h | h | h
  · subst h
    rfl
  · subst h
    rfl
  · subst h
    rfl

section
variable {s : State} {p : Nat} (hp : p < 8) {g : GateEntry} {e : Entry} (he : s.entryOf p g.entry = some e) (hfinal : e.final = false)
include hp he hfinal

theorem lateRead_effect (h1 : g.action = 1) :
    LateMarked s p (lateGate s p g) ∧ Within [.players, .mem] (lateNoted s p g.entry) (lateGate s p g) ∧
    (e.played = true → EntryEnded (lateGate s p g) p g.entry 3 (2 ^ 11 + splitMark (s.playerOf p).header e)) := by
  obtain ⟨hmarked, hentry, hheader, hchan, -⟩ := lateNoted_effect hp he hfinal
  rw [lateGate_read h1 hentry]
  dsimp only
  have hbit : splitBit (lateNoted s p g.entry) p { e with report := e.report ||| rLateGate } = splitMark (s.playerOf p).header e := by
    rw [splitBit_eq, hheader]
    rfl
  rw [hbit]
  generalize lateNoted s p g.entry = t at hmarked hentry hheader hchan ⊢
  have hself := report_self (mask := splitMark (s.playerOf p).header e) hp hentry hfinal
  have hscene := report_scene t p g.entry (splitMark (s.playerOf p).header e)
  have hparts : Within [.players, .mem] t (report t p g.entry (splitMark (s.playerOf p).header e)) :=
    @report_frame [.players, .mem] t (touch_of rfl) t p g.entry _ (.refl _ t)
  generalize report t p g.entry (splitMark (s.playerOf p).header e) = u at hself hscene hparts ⊢
  split
  · refine ⟨hmarked.stage (hscene.trans (endEntry_scene u p g.entry resNotDecoded false)).stage,
      @endEntry_frame [.players, .mem] t (touch_of rfl) (touch_of rfl) u p g.entry resNotDecoded false hparts, fun _ => ⟨_, endEntry_self hp hself hfinal false, rfl, rfl, ?_⟩⟩
    rw [(mask_add _ e).2.2.1]
    exact (((HasBits.refl _).or_right _).or_left _).add ((HasBits.refl _).or_right _)
  · next hno => exact ⟨hmarked.stage hscene.stage, hparts, fun hp' => absurd hp' hno⟩

theorem lateWrite_effect (h3 : g.action = 3) :
    LateMarked s p (lateGate s p g) ∧ ((lateGate s p g).chanOf (playerAct p)).readGate = (s.chanOf (playerAct p)).readGate ∧
    ((lateGate s p g).chanOf (playerAct p)).writeGate = (s.chanOf (playerAct p)).writeGate ∧
    EntryEnded (lateGate s p g) p g.entry 6 (2 ^ 11 + 2 ^ 9 + splitMark (s.playerOf p).header e) := by
  obtain ⟨hmarked, hentry, hheader, hchan, -⟩ := lateNoted_effect hp he hfinal
  rw [lateGate_write h3]
  generalize lateNoted s p g.entry = t at hmarked hentry hheader hchan ⊢
  obtain ⟨hw, hr, -, hscene, hended⟩ := dark_incomplete hp hentry hfinal 0
  refine ⟨hmarked.stage hscene.stage, hr.trans (congrArg Channel.readGate (chanOf_congr hchan _)), hw.trans (congrArg Channel.writeGate (chanOf_congr hchan _)), hended _ ?_⟩
  rw [(mask_add _ e).2.2.2, splitBit_eq, hheader]
  refine (((HasBits.refl _).or_right _).or_left _ |>.add ?_).add ?_
  · exact (((HasBits.refl _).or_left _).or_left _).or_right _
  · exact (((HasBits.refl _).or_right _).or_left _).or_right _

theorem lateClose_effect {g' : GateEntry} (hentry : g'.entry = g.entry) :
    (g'.action = 2 → LateMarked s p (gateAct (lateNoted s p g.entry) p g') ∧
      ∃ e', (gateAct (lateNoted s p g.entry) p g').entryOf p g.entry = some e' ∧ e'.closing = e.capturing) ∧
    (g'.action = 4 → LateMarked s p (gateAct (lateNoted s p g.entry) p g') ∧
      ((gateAct (lateNoted s p g.entry) p g').chanOf (playerAct p)).writeGate = none) ∧
    (g'.action = 5 → LateMarked s p (gateAct (lateNoted s p g.entry) p g') ∧
      ((gateAct (lateNoted s p g.entry) p g').chanOf (playerAct p)).writeGate = none ∧
      ((gateAct (lateNoted s p g.entry) p g').chanOf (playerAct p)).readGate = false) := by
  obtain ⟨hmarked, hmark, hheader, hchan, -⟩ := lateNoted_effect hp he hfinal
  generalize lateNoted s p g.entry = t at hmarked hmark hheader hchan ⊢
  refine ⟨fun h => ?_, fun h => ?_, fun h => ?_⟩
  · have hact : gateAct t p g' = readClose t p g.entry := by
      unfold gateAct
      rw [h, hentry]
      rfl
    rw [hact]
    refine ⟨hmarked.stage (modEntry_stage t p g.entry _), ?_⟩
    have hmod := entryOf_modEntry t p g.entry (fun e => { e with closing := e.capturing }) p g.entry
    rw [if_pos ⟨rfl, hp, rfl⟩, hmark] at hmod
    exact ⟨_, hmod, rfl⟩
  · have hact : gateAct t p g' = writeClose t p g'.wedge g'.target := by
      unfold gateAct
      rw [h]
      rfl
    rw [hact]
    obtain ⟨hnone, hscene⟩ := writeClose_shut t hp g'.wedge g'.target
    exact ⟨hmarked.stage hscene.stage, hnone⟩
  · have hact : gateAct t p g' = allClosed t p g'.wedge g'.target := by
      unfold gateAct
      rw [h]
      rfl
    rw [hact]
    obtain ⟨hnone, hread, hstage, -⟩ := allClosed_effect t hp g'.wedge g'.target
    exact ⟨hmarked.stage hstage, hnone, hread⟩

end

/-! ### The objects that a gate entry leaves alone -/

section
variable {k : Key} {v : Val} (hk : Uncut k)
include hk

theorem writeClose_off (s : State) (p w t : Nat) (h : At k v s) : At k v (writeClose s p w t) := by
  have hcut := cutWrite_off hk s (playerAct p) 0 false h
  cases hgate : (s.chanOf (playerAct p)).writeGate with
  | none =>
    unfold writeClose
    dsimp only
    rw [hgate]
    exact h
  | some i =>
    rw [writeClose_eq hgate]
    split
    · exact hcut
    · split
      · refine endEntry_at _ p i resWritten false ?_
        exact State.modChan_at _ _ _ (emitPieces_at s p _ _ h)
      · exact hcut

theorem allClosed_off (s : State) {p : Nat} (hp : p < 8) (w t : Nat) (h : At k v s) : At k v (allClosed s p w t) := by
  unfold allClosed
  exact State.modChan_at _ _ _ (State.each_inv (P := At k v) (writeClose_off hk s p w t h) fun u i _ hu => endCapture_off hk hp u i hu)

end

/-! ### The command -/

/-- Player p's first gate entry taken out of its FIFO with the head at t. -/
def gateTaken (s : State) (p t : Nat) (rest : List GateEntry) : State :=
  (s.modChan (playerAct p) fun c => { c with headT := t }).modPlayer p fun pl => { pl with gates := rest }

/-- The event of a FIFO that has run empty. -/
def gateDone (s : State) (p : Nat) (rest : List GateEntry) : State := if rest.isEmpty then postEvent s (playerAct p) evGateIdle else s

theorem FrontPosted.refl (a : Nat) (s : State) : FrontPosted a s s := ⟨.of_players rfl, ⟨_, _, rfl⟩, rfl, rfl, rfl, .of_eq rfl⟩

theorem gateDone_posted (s : State) {p : Nat} (hp : p < 8) (rest : List GateEntry) :
    FrontPosted (playerAct p) s (gateDone s p rest) ∧ SameScene s (gateDone s p rest) ∧ (gateDone s p rest).outs = s.outs := by
  have ha : playerAct p < 4 := by unfold playerAct; omega
  unfold gateDone
  split
  · exact ⟨postEvent_posted s ha _, postFront_scene s _ _, within_iff.mp (@postEvent_frame [.chan, .players, .raised] s (touch_of rfl) (touch_of rfl) (touch_of rfl) s
      (playerAct p) evGateIdle (.refl _ s)) .outs (by decide)⟩
  · exact ⟨.refl _ s, .refl s, rfl⟩

theorem gateTaken_effect (s : State) {p : Nat} (hp : p < 8) (t : Nat) (rest : List GateEntry) :
    (gateTaken s p t rest).playerOf p = { s.playerOf p with gates := rest } ∧
    (gateTaken s p t rest).chanOf (playerAct p) = { s.chanOf (playerAct p) with headT := t } ∧
    (∀ i, (gateTaken s p t rest).entryOf p i = s.entryOf p i) ∧ Within [.chan, .players] s (gateTaken s p t rest) :=
  ⟨playerOf_modPlayer _ _ hp, chanOf_modChan s _ (by unfold playerAct; omega),
    fun i => field_modPlayer (π := fun x => x.entries[i]?) (s.modChan (playerAct p) fun c => { c with headT := t }) p p _ (by intro; rfl),
    @State.modPlayer_frame [.chan, .players] s (touch_of rfl) _ p _ (@State.modChan_frame [.chan, .players] s (touch_of rfl) s _ _ (.refl _ s))⟩

theorem windowWedge_headT (s : State) (p t w : Nat) : windowWedge (s.modChan (playerAct p) fun c => { c with headT := t }) p w = windowWedge s p w := by
  have hwedge : ((s.modChan (playerAct p) fun c => { c with headT := t }).chanOf (playerAct p)).wedge = (s.chanOf (playerAct p)).wedge :=
    field_modChan (π := Channel.wedge) s (playerAct p) (playerAct p) _ (by intro; rfl)
  unfold windowWedge wedgesAhead wedgesTo
  rw [hwedge]
  rfl

section
variable (s : State) (p : Fin 8) (t0 : Nat) {g : GateEntry} {rest : List GateEntry} {e : Entry} (adc : List AdcRow)

/-- The entry's target is still ahead, or is reached, at t0. -/
def Ahead (u : State) (p t0 : Nat) (g : GateEntry) : Prop := 0 < windowWedge u p g.wedge ∨ windowWedge u p g.wedge = 0 ∧ t0 < g.target

def AtTarget (u : State) (p t0 : Nat) (g : GateEntry) : Prop := windowWedge u p g.wedge = 0 ∧ t0 = g.target

theorem gateWaits_iff (u : State) {p : Nat} (hp : p < 8) (t0 : Nat) (g : GateEntry) :
    (gateWaits (u.modChan (playerAct p) fun c => { c with headT := t0 }) p g = true ↔ Ahead u p t0 g) ∧
    (gateDue (u.modChan (playerAct p) fun c => { c with headT := t0 }) p g = true ↔ AtTarget u p t0 g) := by
  have hhead : ((u.modChan (playerAct p) fun c => { c with headT := t0 }).chanOf (playerAct p)).headT = t0 := by
    rw [chanOf_modChan u _ (by unfold playerAct; omega)]
  unfold gateWaits gateDue Ahead AtTarget
  dsimp only
  rw [windowWedge_headT, hhead]
  exact ⟨by simp only [Bool.or_eq_true, Bool.and_eq_true, decide_eq_true_eq], by simp only [Bool.and_eq_true, decide_eq_true_eq]⟩

variable (hgates : ((rowsTaken s p adc).playerOf p).gates = g :: rest)
include hgates

theorem exec_gate :
    exec (.gateEntryExecute p t0 adc) s =
      let u := (rowsTaken s p adc).modChan (playerAct p) fun c => { c with headT := t0 }
      if gateWaits u p g ∧ g.late = false then .next (laserLead u p)
      else .next (gateDone (if gateDue u p g && !g.late then gateAct (gateTaken (rowsTaken s p adc) p t0 rest) p g
        else lateGate (gateTaken (rowsTaken s p adc) p t0 rest) p g) p rest) := by
  have hgates' : (((rowsTaken s p adc).modChan (playerAct p) fun c => { c with headT := t0 }).playerOf p).gates = g :: rest := hgates
  show execGateEntryExecute p t0 adc s = _
  unfold execGateEntryExecute
  dsimp only
  rw [show (if (s.actOf (playerAct p)).playing = some p.val then streamSamples s (playerAct p) adc else s) = rowsTaken s p adc from rfl, hgates']
  rfl

/-- A gate entry ahead of its target waits, and lights the laser of a write in time. -/
theorem gate_waits (hahead : Ahead (rowsTaken s p adc) p t0 g) (hlate : g.late = false) :
    let u := rowsTaken s p adc
    Completes (.gateEntryExecute p t0 adc) s fun t =>
      t.players = u.players ∧ t.objs = s.objs ∧
      (g.action = 3 → gapT s (u.playerOf p).header (u.chanOf (playerAct p)).wedge t0 g.wedge g.target ≤ (u.playerOf p).set.laserLead →
        (u.chanOf (playerAct p)).locked = false → (u.chanOf (playerAct p)).wu = 0 →
        (t.chanOf (playerAct p)).laser = laserCode s (u.playerOf p).header (u.playerOf p).selector) := by
  intro u
  have ha : playerAct p < 4 := by unfold playerAct; omega
  have hparts : Within [.chan, .players] s u := (rowsTaken_effect s p.isLt adc).1
  have hobjs := within_iff.mp hparts .objs (by decide)
  let v := u.modChan (playerAct p) fun c => { c with headT := t0 }
  have hv : Within [.chan, .players] s v := @State.modChan_frame [.chan, .players] s (touch_of rfl) u _ _ hparts
  have hwaits := (gateWaits_iff u p.isLt t0 g).1.mpr hahead
  have hchan : v.chanOf (playerAct p) = { u.chanOf (playerAct p) with headT := t0 } := chanOf_modChan u _ ha
  have hlead : (laserLead v p).players = u.players ∧ (laserLead v p).objs = u.objs := by
    unfold laserLead
    dsimp only
    split
    · split
      · exact ⟨rfl, rfl⟩
      · exact ⟨rfl, rfl⟩
    · exact ⟨rfl, rfl⟩
  refine ⟨laserLead v p, (exec_gate s p t0 adc hgates).trans (if_pos ⟨hwaits, hlate⟩), hlead.1, hlead.2.trans hobjs, fun h3 hgap hlocked hwu => ?_⟩
  have hfind : ((v.playerOf p).gates.find? fun x => decide (x.action = 3)) = some g := by
    rw [show (v.playerOf p).gates = g :: rest from hgates]
    exact List.find?_cons_of_pos (decide_eq_true h3)
  unfold laserLead
  dsimp only
  rw [hfind]
  dsimp only
  rw [hwaits, hchan]
  dsimp only
  rw [(laserCode_within hv).2.1, decide_eq_true (show gapT s (v.playerOf p).header _ _ _ _ ≤ (v.playerOf p).set.laserLead from hgap), hlocked, decide_eq_true hwu,
    if_pos (by rfl), chanOf_modChan v _ ha]
  exact (laserCode_within hv).1 _ _

/-- A gate entry that is at its target acts. -/
theorem gate_acts {P : State → Prop} (hdue : AtTarget (rowsTaken s p adc) p t0 g) (hlate : g.late = false)
    (hrest : ((gateAct (gateTaken (rowsTaken s p adc) p t0 rest) p g).playerOf p).gates = rest)
    (hP : P (gateDone (gateAct (gateTaken (rowsTaken s p adc) p t0 rest) p g) p rest)) :
    Completes (.gateEntryExecute p t0 adc) s fun t => (t.playerOf p).gates = rest ∧ P t := by
  have hnot : ¬Ahead (rowsTaken s p adc) p t0 g := by
    obtain ⟨hd, ht⟩ := hdue
    unfold Ahead
    omega
  obtain ⟨hwaits, htarget⟩ := gateWaits_iff (rowsTaken s p adc) p.isLt t0 g
  refine ⟨_, (exec_gate s p t0 adc hgates).trans (if_neg fun h => hnot (hwaits.mp h.1)), ?_⟩
  rw [htarget.mpr hdue, hlate, if_pos (by rfl)]
  exact ⟨((gateDone_posted _ p.isLt rest).2.1.stage.field (π := Player.gates) (fun _ => rfl) p).trans hrest, hP⟩

/-- One that is late does so as its action allows. -/
theorem gate_late {P : State → Prop} (hlate : (¬Ahead (rowsTaken s p adc) p t0 g ∧ ¬AtTarget (rowsTaken s p adc) p t0 g) ∨ g.late = true)
    (hrest : ((lateGate (gateTaken (rowsTaken s p adc) p t0 rest) p g).playerOf p).gates = rest)
    (hP : P (gateDone (lateGate (gateTaken (rowsTaken s p adc) p t0 rest) p g) p rest)) :
    Completes (.gateEntryExecute p t0 adc) s fun t => (t.playerOf p).gates = rest ∧ P t := by
  obtain ⟨hwaits, htarget⟩ := gateWaits_iff (rowsTaken s p adc) p.isLt t0 g
  have hnotdue : (gateDue ((rowsTaken s p adc).modChan (playerAct p) fun c => { c with headT := t0 }) p g && !g.late) = false := by
    rcases hlate with h | h
    · rw [Bool.eq_false_iff.mpr fun hd => h.2 (htarget.mp hd), Bool.false_and]
    · rw [h, Bool.not_true, Bool.and_false]
  have hnotwaits : ¬(gateWaits ((rowsTaken s p adc).modChan (playerAct p) fun c => { c with headT := t0 }) p g = true ∧ g.late = false) := by
    rintro ⟨hw, hl⟩
    rcases hlate with h | h
    · exact h.1 (hwaits.mp hw)
    · exact Bool.false_ne_true (hl.symm.trans h)
  refine ⟨_, (exec_gate s p t0 adc hgates).trans (if_neg hnotwaits), ?_⟩
  rw [hnotdue, if_neg Bool.false_ne_true]
  exact ⟨((gateDone_posted _ p.isLt rest).2.1.stage.field (π := Player.gates) (fun _ => rfl) p).trans hrest, hP⟩

end

/-! ### The statement -/

/-- What the actions of a gate entry stand for. -/
theorem gateAct_cases (s : State) (p : Nat) (g : GateEntry) :
    (g.action = 1 → gateAct s p g = readOpen s p g) ∧ (g.action = 2 → gateAct s p g = readClose s p g.entry) ∧ (g.action = 3 → gateAct s p g = writeOpen s p g) ∧
    (g.action = 4 → gateAct s p g = writeClose s p g.wedge g.target) ∧ (g.action = 5 → gateAct s p g = allClosed s p g.wedge g.target) := by
  obtain ⟨action, w, t, entry, late⟩ := g
  refine ⟨fun h => ?_, fun h => ?_, fun h => ?_, fun h => ?_, fun h => ?_⟩
  all_goals
    subst h
    rfl

section
variable {s w : State} {p : Fin 8} {rest : List GateEntry}

/-- What the event of an empty FIFO leaves of the gates and of the laser. -/
theorem gateDone_chan (w : State) (p : Fin 8) (rest : List GateEntry) :
    ((gateDone w p rest).chanOf (playerAct p)).writeGate = (w.chanOf (playerAct p)).writeGate ∧
    ((gateDone w p rest).chanOf (playerAct p)).readGate = (w.chanOf (playerAct p)).readGate ∧
    ((gateDone w p rest).chanOf (playerAct p)).laser = (w.chanOf (playerAct p)).laser ∧
    ((gateDone w p rest).chanOf (playerAct p)).freeze = (w.chanOf (playerAct p)).freeze := by
  obtain ⟨ev, lost, h⟩ := (gateDone_posted w p.isLt rest).1.chan
  rw [h]
  exact ⟨rfl, rfl, rfl, rfl⟩

end

section
variable (s : State) (p : Fin 8) (t0 : Nat) {g : GateEntry} {rest : List GateEntry} {e : Entry} (adc : List AdcRow)
  (hgates : ((rowsTaken s p adc).playerOf p).gates = g :: rest) (he : (rowsTaken s p adc).entryOf p g.entry = some e)
include hgates he

section
variable (hdue : AtTarget (rowsTaken s p adc) p t0 g) (hlate : g.late = false)
include hdue hlate

theorem dueRead_opens (h : g.action = 1) :
    Completes (.gateEntryExecute p t0 adc) s fun t => (t.playerOf p).gates = rest ∧ (t.chanOf (playerAct p)).readGate = true ∧
      ∃ e', t.entryOf p g.entry = some e' ∧ e'.opened = true ∧ e'.capturing = true := by
  obtain ⟨hplayer, -, hentry, -⟩ := gateTaken_effect (rowsTaken s p adc) p.isLt t0 rest
  obtain ⟨hread, hrest, e', he', hopened, hcapturing⟩ := readOpen_effect p.isLt g ((hentry g.entry).trans he)
  have hact := (gateAct_cases (gateTaken (rowsTaken s p adc) p t0 rest) p g).1 h
  rw [← hact] at hread hrest he'
  refine gate_acts s p t0 adc hgates hdue hlate (hrest.trans (by rw [hplayer])) ⟨(gateDone_chan ..).2.1.trans hread, ?_⟩
  obtain ⟨r, hr⟩ := (gateDone_posted _ p.isLt rest).1.noted.entry p g.entry e' he'
  exact ⟨_, hr, hopened, hcapturing⟩

theorem dueRead_closes (h : g.action = 2) :
    Completes (.gateEntryExecute p t0 adc) s fun t => (t.playerOf p).gates = rest ∧ ∃ e', t.entryOf p g.entry = some e' ∧ e'.closing = e.capturing := by
  obtain ⟨hplayer, -, hentry, -⟩ := gateTaken_effect (rowsTaken s p adc) p.isLt t0 rest
  have hact := (gateAct_cases (gateTaken (rowsTaken s p adc) p t0 rest) p g).2.1 h
  have hmod := entryOf_modEntry (gateTaken (rowsTaken s p adc) p t0 rest) p g.entry (fun e => { e with closing := e.capturing }) p g.entry
  rw [if_pos ⟨rfl, p.isLt, rfl⟩, (hentry g.entry).trans he] at hmod
  refine gate_acts s p t0 adc hgates hdue hlate ?_ ?_
  · rw [hact]
    exact ((modEntry_stage _ p g.entry _).field (π := Player.gates) (fun _ => rfl) p).trans (by rw [hplayer])
  · rw [hact]
    obtain ⟨r, hr⟩ := (gateDone_posted (readClose (gateTaken (rowsTaken s p adc) p t0 rest) p g.entry) p.isLt rest).1.noted.entry p g.entry _ hmod
    exact ⟨_, hr, rfl⟩

theorem dueWrite_opens (h : g.action = 3) (hfinal : e.final = false) (hsynth : ((rowsTaken s p adc).chanOf (playerAct p)).synthLocked = true) :
    let u := rowsTaken s p adc
    let c := u.chanOf (playerAct p)
    (c.locked = false → c.wu = 0 → writeReady u (playerAct p) = true → Completes (.gateEntryExecute p t0 adc) s fun t => (t.playerOf p).gates = rest ∧
      (t.chanOf (playerAct p)).writeGate = some g.entry ∧ (t.chanOf (playerAct p)).laser = laserCode s (u.playerOf p).header (u.playerOf p).selector ∧
      (t.chanOf (playerAct p)).freeze.testBit 3 = true) ∧
    (c.locked = true ∨ c.wu ≠ 0 ∨ writeReady u (playerAct p) = false → Completes (.gateEntryExecute p t0 adc) s fun t => (t.playerOf p).gates = rest ∧
      (t.chanOf (playerAct p)).writeGate = c.writeGate ∧ EntryEnded t p g.entry 6 (2 ^ 9 + splitMark (u.playerOf p).header e) ∧
      (c.writeGate = none → (t.chanOf (playerAct p)).laser = 0) ∧
      (c.locked = false → c.wu ≠ 0 → EntryEnded t p g.entry 6 (2 ^ 9 + 2 ^ 8 + splitMark (u.playerOf p).header e))) := by
  intro u c
  obtain ⟨hplayer, hchan, hentry, hparts⟩ := gateTaken_effect u p.isLt t0 rest
  have hact := (gateAct_cases (gateTaken u p t0 rest) p g).2.2.1 h
  have hall := laserCode_within ((rowsTaken_effect s p.isLt adc).1.trans hparts)
  have hready : writeReady (gateTaken u p t0 rest) (playerAct p) = writeReady u (playerAct p) := by
    unfold writeReady
    rw [hchan, (laserCode_within hparts).2.2]
    rfl
  have he' := (hentry g.entry).trans he
  have hsynth' : ((gateTaken u p t0 rest).chanOf (playerAct p)).synthLocked = true := by
    rw [hchan]
    exact hsynth
  have hopens := writeOpen_opens p.isLt he' hfinal hsynth'
  have hshut := writeOpen_shut p.isLt he' hfinal hsynth'
  rw [hready, ← hact, hchan, hplayer] at hopens hshut
  refine ⟨fun hlocked hwu hr => ?_, fun hnot => ?_⟩
  · obtain ⟨hgate, hlaser, hfreeze, hrest⟩ := hopens hlocked hwu hr
    obtain ⟨h1, -, h3, h4⟩ := gateDone_chan (gateAct (gateTaken u p t0 rest) p g) p rest
    exact gate_acts s p t0 adc hgates hdue hlate hrest ⟨h1.trans hgate, h3.trans (hlaser.trans (hall.1 _ _)), by rw [h4]; exact hfreeze⟩
  · obtain ⟨hgate, hended, hlaser, hunsafe, hrest⟩ := hshut hnot
    obtain ⟨h1, -, h3, -⟩ := gateDone_chan (gateAct (gateTaken u p t0 rest) p g) p rest
    have hposted := (gateDone_posted (gateAct (gateTaken u p t0 rest) p g) p.isLt rest).1
    exact gate_acts s p t0 adc hgates hdue hlate hrest ⟨h1.trans hgate, hposted.entryEnded hended, fun hn => h3.trans (hlaser hn),
      fun hl hw => hposted.entryEnded (hunsafe hl hw)⟩

theorem dueWrite_closes (h : g.action = 4) (hfinal : e.final = false) (hgate : ((rowsTaken s p adc).chanOf (playerAct p)).writeGate = some g.entry) :
    let u := rowsTaken s p adc
    (entryEnd (u.playerOf p).header e ≤ posIdx (u.playerOf p).header g.wedge g.target → Completes (.gateEntryExecute p t0 adc) s fun t =>
      (t.playerOf p).gates = rest ∧ (t.chanOf (playerAct p)).writeGate = none ∧ EntryEnded t p g.entry 5 0 ∧
      ((piecesOf s p e).any (!·.2.2.isEmpty) = true →
        t.outs = .medium (playerAct p) (u.playerOf p).header.surface (u.playerOf p).header.track e.psector (piecesOf s p e) :: s.outs)) ∧
    (posIdx (u.playerOf p).header g.wedge g.target < entryEnd (u.playerOf p).header e → (s.actOf (playerAct p)).playing = some p.val →
      Completes (.gateEntryExecute p t0 adc) s fun t => (t.playerOf p).gates = rest ∧ (t.chanOf (playerAct p)).writeGate = none ∧
        EntryEnded t p g.entry 6 (2 ^ 9 + splitMark (u.playerOf p).header e)) := by
  intro u
  obtain ⟨hrows, hheader, -⟩ := rowsTaken_effect s p.isLt adc
  obtain ⟨hplayer, hchan, hentry, hparts⟩ := gateTaken_effect u p.isLt t0 rest
  have hact := (gateAct_cases (gateTaken u p t0 rest) p g).2.2.2.1 h
  have he' := (hentry g.entry).trans he
  have hgate' : ((gateTaken u p t0 rest).chanOf (playerAct p)).writeGate = some g.entry := by
    rw [hchan]
    exact hgate
  have hpieces : piecesOf (gateTaken u p t0 rest) p e = piecesOf s p e :=
    piecesOf_within (hrows.trans hparts) (by rw [hplayer]; exact hheader) e
  have houts := within_iff.mp (hrows.trans hparts) .outs (by decide)
  have hacts := actOf_congr (within_iff.mp (hrows.trans hparts) .acts (by decide)) (playerAct p)
  obtain ⟨hnone, hscene⟩ := writeClose_shut (gateTaken u p t0 rest) p.isLt g.wedge g.target
  have hpassed := writeClose_passed p.isLt (w := g.wedge) (t := g.target) hgate' he' hfinal
  have hshort := writeClose_incomplete p.isLt (w := g.wedge) (t := g.target) hgate' he' hfinal
  have hrest : ((gateAct (gateTaken u p t0 rest) p g).playerOf p).gates = rest := by
    rw [hact]
    exact (hscene.stage.field (π := Player.gates) (fun _ => rfl) p).trans (by rw [hplayer])
  rw [hpieces, houts, ← hact, hplayer] at hpassed
  rw [hacts, ← hact, hplayer] at hshort
  rw [← hact] at hnone
  obtain ⟨hposted, -, hout⟩ := gateDone_posted (gateAct (gateTaken u p t0 rest) p g) p.isLt rest
  have hnone' := (gateDone_chan (gateAct (gateTaken u p t0 rest) p g) p rest).1.trans hnone
  refine ⟨fun hp => ?_, fun hs hplay => ?_⟩
  · obtain ⟨hended, hmedium⟩ := hpassed hp
    exact gate_acts s p t0 adc hgates hdue hlate hrest ⟨hnone', hposted.entryEnded hended, fun hany => hout.trans (hmedium hany)⟩
  · exact gate_acts s p t0 adc hgates hdue hlate hrest ⟨hnone', hposted.entryEnded (hshort hplay hs)⟩

theorem dueAll_closes (h : g.action = 5) :
    Completes (.gateEntryExecute p t0 adc) s fun t => (t.playerOf p).gates = rest ∧ (t.chanOf (playerAct p)).writeGate = none ∧
      (t.chanOf (playerAct p)).readGate = false ∧ ∃ e', t.entryOf p g.entry = some e' ∧ e'.capturing = false := by
  obtain ⟨hplayer, -, hentry, -⟩ := gateTaken_effect (rowsTaken s p adc) p.isLt t0 rest
  have hact := (gateAct_cases (gateTaken (rowsTaken s p adc) p t0 rest) p g).2.2.2.2 h
  obtain ⟨hnone, hread, hstage, hends⟩ := allClosed_effect (gateTaken (rowsTaken s p adc) p t0 rest) p.isLt g.wedge g.target
  obtain ⟨e', he', hcap⟩ := hends g.entry e ((hentry g.entry).trans he)
  rw [← hact] at hnone hread hstage he'
  obtain ⟨h1, h2, -⟩ := gateDone_chan (gateAct (gateTaken (rowsTaken s p adc) p t0 rest) p g) p rest
  refine gate_acts s p t0 adc hgates hdue hlate ((hstage.field (π := Player.gates) (fun _ => rfl) p).trans (by rw [hplayer])) ⟨h1.trans hnone, h2.trans hread, ?_⟩
  obtain ⟨r, hr⟩ := (gateDone_posted _ p.isLt rest).1.noted.entry p g.entry e' he'
  exact ⟨_, hr, hcap⟩

end

end

/-- What a late gate entry leaves in the end: its count, its marks, and what its action does at once. -/
structure LateEffect (x : Player) (c : Channel) (p : Nat) (g : GateEntry) (e : Entry) (t : State) : Prop where
  late : (t.playerOf p).lateGates = x.lateGates + 1
  flags : (t.playerOf p).flags.testBit 3 = true
  read : g.action = 1 → e.played = true → EntryEnded t p g.entry 3 (2 ^ 11 + splitMark x.header e)
  gates : g.action = 1 ∨ g.action = 3 → (t.chanOf (playerAct p)).readGate = c.readGate ∧ (t.chanOf (playerAct p)).writeGate = c.writeGate
  closing : g.action = 2 → ∃ e', t.entryOf p g.entry = some e' ∧ e'.closing = e.capturing
  write : g.action = 3 → EntryEnded t p g.entry 6 (2 ^ 11 + 2 ^ 9 + splitMark x.header e)
  shut : g.action = 4 ∨ g.action = 5 → (t.chanOf (playerAct p)).writeGate = none
  shutRead : g.action = 5 → (t.chanOf (playerAct p)).readGate = false

theorem LateEffect.done {x : Player} {c : Channel} {p : Fin 8} {g : GateEntry} {e : Entry} {w : State} (h : LateEffect x c p g e w) (rest : List GateEntry) :
    LateEffect x c p g e (gateDone w p rest) := by
  obtain ⟨hposted, hscene, -⟩ := gateDone_posted w p.isLt rest
  obtain ⟨h1, h2, -, -⟩ := gateDone_chan w p rest
  refine ⟨(hscene.stage.field (π := Player.lateGates) (fun _ => rfl) p).trans h.late, (hscene.stage.field (π := fun x => x.flags.testBit 3) (fun _ => rfl) p).trans h.flags,
    fun ha hp => hposted.entryEnded (h.read ha hp), fun ha => ⟨h2.trans (h.gates ha).1, h1.trans (h.gates ha).2⟩, fun ha => ?_,
    fun ha => hposted.entryEnded (h.write ha), fun ha => h1.trans (h.shut ha), fun ha => h2.trans (h.shutRead ha)⟩
  obtain ⟨e', he', hc⟩ := h.closing ha
  obtain ⟨r, hr⟩ := hposted.noted.entry p g.entry e' he'
  exact ⟨_, hr, hc⟩

theorem lateGate_effect {s : State} {p : Nat} (hp : p < 8) {g : GateEntry} {e : Entry} (he : s.entryOf p g.entry = some e) (hfinal : e.final = false)
    (h : g.action = 1 ∨ g.action = 2 ∨ g.action = 3 ∨ g.action = 4 ∨ g.action = 5) :
    LateEffect (s.playerOf p) (s.chanOf (playerAct p)) p g e (lateGate s p g) ∧ ((lateGate s p g).playerOf p).gates = (s.playerOf p).gates ∧
    Counted (Obj.lateGates p) s (lateGate s p g) := by
  have hk : Uncut (Obj.lateGates p) := uncut_of_player hp (by unfold Obj.lateGates Key; omega)
  obtain ⟨-, -, -, hchan, hcount⟩ := lateNoted_effect hp he hfinal
  have hcounted {t : State} (hat : At (Obj.lateGates p) ((lateNoted s p g.entry).obj (Obj.lateGates p)) t) : Counted (Obj.lateGates p) s t := fun hfits => by
    have hread : t.num (Obj.lateGates p) = (lateNoted s p g.entry).num (Obj.lateGates p) := by
      unfold State.num
      rw [hat]
    exact hread.trans (hcount hfits)
  have hchan' := chanOf_congr hchan (playerAct p)
  rcases h with h | h | h | h | h
  · obtain ⟨hmarked, hparts, hended⟩ := lateRead_effect hp he hfinal h
    have hc : (lateGate s p g).chanOf (playerAct p) = s.chanOf (playerAct p) := (chanOf_congr (within_iff.mp hparts .chan (by decide)) _).trans hchan'
    refine ⟨⟨hmarked.late, hmarked.flags, fun _ => hended, fun _ => by rw [hc]; exact ⟨rfl, rfl⟩, ?_, ?_, ?_, ?_⟩, hmarked.gates, hcounted ?_⟩
    · exact fun h' => absurd (h.symm.trans h') (by decide)
    · exact fun h' => absurd (h.symm.trans h') (by decide)
    · exact fun h' => absurd h' (by rw [h]; decide)
    · exact fun h' => absurd (h.symm.trans h') (by decide)
    · exact State.obj_congr (within_iff.mp hparts .objs (by decide)) _
  · have hclose := lateGate_close (s := s) (p := p) (.inl h)
    obtain ⟨hmarked, hcl⟩ := (lateClose_effect hp he hfinal (g' := gateNow s p g) rfl).1 h
    rw [← hclose] at hmarked hcl
    refine ⟨⟨hmarked.late, hmarked.flags, ?_, ?_, fun _ => hcl, ?_, ?_, ?_⟩, hmarked.gates, hcounted ?_⟩
    · exact fun h' => absurd (h.symm.trans h') (by decide)
    · exact fun h' => absurd h' (by rw [h]; decide)
    · exact fun h' => absurd (h.symm.trans h') (by decide)
    · exact fun h' => absurd h' (by rw [h]; decide)
    · exact fun h' => absurd (h.symm.trans h') (by decide)
    · rw [hclose, (gateAct_cases _ p (gateNow s p g)).2.1 h]
      rfl
  · obtain ⟨hmarked, hr, hw, hended⟩ := lateWrite_effect hp he hfinal h
    refine ⟨⟨hmarked.late, hmarked.flags, ?_, fun _ => ⟨hr, hw⟩, ?_, fun _ => hended, ?_, ?_⟩, hmarked.gates, hcounted ?_⟩
    · exact fun h' => absurd (h.symm.trans h') (by decide)
    · exact fun h' => absurd (h.symm.trans h') (by decide)
    · exact fun h' => absurd h' (by rw [h]; decide)
    · exact fun h' => absurd (h.symm.trans h') (by decide)
    · rw [lateGate_write h]
      exact State.modChan_at _ _ _ (writeIncomplete_off hk _ p g.entry 0 false rfl)
  · have hclose := lateGate_close (s := s) (p := p) (.inr (.inl h))
    obtain ⟨hmarked, hnone⟩ :=
      (lateClose_effect hp he hfinal (g' := gateNow s p g) rfl).2.1 h
    rw [← hclose] at hmarked hnone
    refine ⟨⟨hmarked.late, hmarked.flags, ?_, ?_, ?_, ?_, fun _ => hnone, ?_⟩, hmarked.gates, hcounted ?_⟩
    · exact fun h' => absurd (h.symm.trans h') (by decide)
    · exact fun h' => absurd h' (by rw [h]; decide)
    · exact fun h' => absurd (h.symm.trans h') (by decide)
    · exact fun h' => absurd (h.symm.trans h') (by decide)
    · exact fun h' => absurd (h.symm.trans h') (by decide)
    · rw [hclose, (gateAct_cases _ p (gateNow s p g)).2.2.2.1 h]
      exact writeClose_off hk _ p _ _ rfl
  · have hclose := lateGate_close (s := s) (p := p) (.inr (.inr h))
    obtain ⟨hmarked, hnone, hread⟩ :=
      (lateClose_effect hp he hfinal (g' := gateNow s p g) rfl).2.2 h
    rw [← hclose] at hmarked hnone hread
    refine ⟨⟨hmarked.late, hmarked.flags, ?_, ?_, ?_, ?_, fun _ => hnone, fun _ => hread⟩, hmarked.gates, hcounted ?_⟩
    · exact fun h' => absurd (h.symm.trans h') (by decide)
    · exact fun h' => absurd h' (by rw [h]; decide)
    · exact fun h' => absurd (h.symm.trans h') (by decide)
    · exact fun h' => absurd (h.symm.trans h') (by decide)
    · rw [hclose, (gateAct_cases _ p (gateNow s p g)).2.2.2.2 h]
      exact allClosed_off hk _ hp _ _ rfl

theorem late_executes (s : State) (p : Fin 8) (t0 : Nat) {g : GateEntry} {rest : List GateEntry} {e : Entry} (adc : List AdcRow)
    (hgates : ((rowsTaken s p adc).playerOf p).gates = g :: rest) (he : (rowsTaken s p adc).entryOf p g.entry = some e)
    (hlate : (¬Ahead (rowsTaken s p adc) p t0 g ∧ ¬AtTarget (rowsTaken s p adc) p t0 g) ∨ g.late = true)
    (h : g.action = 1 ∨ g.action = 2 ∨ g.action = 3 ∨ g.action = 4 ∨ g.action = 5) (hfinal : e.final = false) :
    Completes (.gateEntryExecute p t0 adc) s fun t => (t.playerOf p).gates = rest ∧
      LateEffect ((rowsTaken s p adc).playerOf p) ((rowsTaken s p adc).chanOf (playerAct p)) p g e t ∧ Counted (Obj.lateGates p) s t := by
  have hrows := (rowsTaken_effect s p.isLt adc).1
  obtain ⟨hplayer, hchan, hentry, hparts⟩ := gateTaken_effect (rowsTaken s p adc) p.isLt t0 rest
  obtain ⟨heffect, hrest, hcount⟩ := lateGate_effect p.isLt ((hentry g.entry).trans he) hfinal h
  have hobjs := within_iff.mp (hrows.trans hparts) .objs (by decide)
  rw [hplayer, hchan] at heffect
  rw [hplayer] at hrest
  have hdone := heffect.done rest
  obtain ⟨hposted, -, -⟩ := gateDone_posted (lateGate (gateTaken (rowsTaken s p adc) p t0 rest) p g) p.isLt rest
  refine gate_late s p t0 adc hgates hlate hrest ⟨⟨hdone.late, hdone.flags, hdone.read, hdone.gates, hdone.closing, hdone.write, hdone.shut, hdone.shutRead⟩, ?_⟩
  unfold Counted at hcount ⊢
  rw [State.num_congr hobjs] at hcount
  rwa [State.num_congr hposted.objs]

/-- Settles O26: each action of a gate entry at its target, and of a late one (`gate_acts`, `gate_late`), with the event of a FIFO that has run empty. -/
theorem gateEntriesOpenAndCloseGates : Obligations.GateEntriesOpenAndCloseGates := by
  unfold Obligations.GateEntriesOpenAndCloseGates
  intro s p t0 g rest e adc a u x c d ahead due split medium open_ hgates he
  refine ⟨fun hahead hlate => gate_waits s p t0 adc hgates hahead hlate, fun hdue hlate => ⟨dueRead_opens s p t0 adc hgates he hdue hlate,
    dueRead_closes s p t0 adc hgates he hdue hlate, dueWrite_opens s p t0 adc hgates he hdue hlate,
    fun h hgate hfinal => (dueWrite_closes s p t0 adc hgates he hdue hlate h hfinal hgate).1,
    fun h hgate hfinal => (dueWrite_closes s p t0 adc hgates he hdue hlate h hfinal hgate).2, dueAll_closes s p t0 adc hgates he hdue hlate⟩, fun hlate h hfinal => ?_⟩
  exact (late_executes s p t0 adc hgates he hlate h hfinal).mono fun t ⟨hrest, heff, hcount⟩ =>
    ⟨hrest, heff.late, heff.flags, hcount, heff.read, heff.gates, heff.closing, heff.write, heff.shut, heff.shutRead⟩

end Sys2Proof.Machine
end

section
/-!
PROOFS. The deadline of an online job that carries a ladder step (R213).
-/

namespace Sys2Proof.Machine

/-- A job of no ring, whose ladder step lies outside the three bits that its status word has for it. -/
def climbingJob : DecodeJob :=
  { id := 0, ring := none, player := 0, entry := 0, actuator := 0, ringSlot := 0, hold := none, reserve := 0, parity := false, parityCirc := 0, seed := 0
    report := 0, kind := 0, target := 0, np := [], llr := [], post := [], msgs := [], avoidDet := 0xFF, avoidLdpc := 0xFF, deadline := 0
    statusAddr := 0, payloadAddr := 0, phase := .waitDetector, globals := 0, locals := 0, passLocals := 0, alignGlobals := 0, minUnsat := 0
    result := 0, detCore := 0, ldpcCore := 0, extended := false, overrun := false, coreFault := false, held := false, lost := false, aligns := []
    alignIndex := 0, cuts := [], limitLocal := 0, limitGlobal := 0, limitProbe := 0, releaseAfter := false, slots := [], fromRing := false
    acceptTick := 0, seq := 0, ladder := 8 }

/-- The state after reset with this job in its decode pool. -/
def climbingOnline : State := setJobs State.reset [climbingJob]

set_option maxRecDepth 4000 in
/-- Its deadline writes 64 to byte 7 of its status word. -/
theorem climbingOnline_deadline :
    (match exec (.decodeDeadline 0) climbingOnline with
      | .next t => dramByte t.mem (0 + 7)
      | _ => 0) = 64 := by decide

/-- The result of a status word stands in the upper half of its byte 7. -/
theorem resultOf_word {w : List Byte} (h : w.length = 16) : fieldAt w 4 4 / 2 ^ 28 = (w.getD 7 0).toNat / 16 := by
  match w, h with
  | [_, _, _, _, b4, b5, b6, b7, _, _, _, _, _, _, _, _], _ =>
    have h4 := b4.isLt
    have h5 := b5.isLt
    have h6 := b6.isLt
    show (b4.toNat + 256 * (b5.toNat + 256 * (b6.toNat + 256 * (b7.toNat + 256 * 0)))) / 2 ^ 28 = b7.toNat / 16
    omega

/-- Refutes O27: nothing bounds the ladder step of a job, so that of `climbingJob` runs over into the result of its status word, which reads 4 at the
deadline. -/
theorem not_decodeJobsPassAndEnd : ¬ Obligations.DecodeJobsPassAndEnd := by
  unfold Obligations.DecodeJobsPassAndEnd
  intro h
  obtain ⟨-, -, hdeadline⟩ := h climbingOnline 0 0 0 .clean climbingJob rfl
  obtain ⟨t, hexec, -, word, hlength, hmem, hresult⟩ := hdeadline rfl
  have hbyte := climbingOnline_deadline
  rw [hexec] at hbyte
  have hwritten := (dramWriteM_outside (m := climbingOnline.mem) (by decide) (a := 0) (l := word) (by
    intro i hi
    unfold slotAt
    exact if_neg (by omega))).1 7 (by omega)
  have hword : word.getD 7 0 = 64 := hwritten.symm.trans ((congrArg (dramByte · (0 + 7)) hmem).symm.trans hbyte)
  rw [resultOf_word hlength, hword] at hresult
  exact absurd hresult (by decide)

end Sys2Proof.Machine
end

section
/-!
PROOFS. The end of a hold copy in a table that lists its key twice (R204).
-/

namespace Sys2Proof.Machine

/-- Two copies are listed under the key of hold slot 0 of actuator 0. -/
def copiedTwice : State := State.reset.setDec { State.reset.dec with copies := [(0, SampleSlot.empty), (0, SampleSlot.empty)] }

set_option maxRecDepth 4000 in
/-- The end of the first copy leaves the second. -/
theorem copiedTwice_ends :
    (match exec (.holdCopyDone 0 0) copiedTwice with
      | .next t => (SMap.find t.dec.copies 0).isNone
      | _ => true) = false := by decide

/-- Refutes O29: nothing asks that the table of hold copies lists a key once, so a copy can still stand under the key of one that has ended. -/
theorem not_ladderRequestsAreServed : ¬ Obligations.LadderRequestsAreServed := by
  unfold Obligations.LadderRequestsAreServed
  intro h
  obtain ⟨hcopy, -⟩ := h copiedTwice 0 (ladderReqOf []) 0 0 0 SampleSlot.empty climbingJob
  obtain ⟨t, hexec, -, hnone, -⟩ := hcopy rfl
  have hends := copiedTwice_ends
  rw [show exec (.holdCopyDone 0 0) copiedTwice = .next t from hexec] at hends
  rw [show (0 : Fin 4).val * 64 + (0 : Fin 64).val = 0 from rfl] at hnone
  exact Bool.false_ne_true ((congrArg Option.isNone hnone).symm.trans hends).symm

end Sys2Proof.Machine
end

section
/-!
PROOFS. ENABLE = 0 of an actuator whose sentence still plays (R79, R189).
-/

namespace Sys2Proof.Machine

/-- Objects take numbers, in the list's order. -/
def withNums (l : List (Key × Nat)) (s : State) : State := l.foldl (fun t e => t.setNum e.1 e.2) s

/-- A device whose feeds are present, whose rails are up and whose start steps have all passed, with these objects set. -/
def liveDevice (l : List (Key × Nat)) : State :=
  withNums ((Obj.feedState, 3) :: (Obj.tick, 100000) :: l) { State.reset with
    power := { State.reset.power with powerGood := true, railsOff := false }
    start := { State.reset.start with mode := .normal, inReset := false, passedSteps := 2 ^ 21 - 1 } }

/-- Actuator 1 runs in SERVO, and its first player plays a sentence. -/
def playingActuator : State :=
  liveDevice [(Obj.actuatorEnable 1, 1), (Obj.actuatorState 1, 0), (Obj.surfaceMask 1, 1), (Obj.driveState 1, 2), (Obj.loadState 2, 3)]

theorem playingActuator_accepts : Accepted playingActuator .mbus (Obj.actuatorEnable 1) (.num 0) := by decide +kernel

/-- The arm stays loaded: the sentence that plays is let go to its end before the heads are parked. -/
theorem playingActuator_stays_loaded :
    (match exec (.unitDisable .mbus 0x4100) playingActuator with
      | .next t => loaded t 1
      | _ => false) = true := by decide +kernel

/-- Refutes O36: an actuator that plays a sentence, its bridge closed, keeps its heads loaded after ENABLE = 0 (`playingActuator`). -/
theorem not_unitsAreDisabledAndEnabled : ¬ Obligations.UnitsAreDisabledAndEnabled := by
  unfold Obligations.UnitsAreDisabledAndEnabled
  intro h
  obtain ⟨⟨-, -, -, -, -, hactuator, -⟩, -⟩ := h playingActuator .mbus 1 0 0 0 0 0 false
  obtain ⟨t, hexec, -, -, hparked⟩ := hactuator (by decide +kernel) (Obj.actuatorEnable 1) (Obj.actuatorState 1) rfl rfl playingActuator_accepts
    (by decide +kernel) (by decide +kernel) (by decide +kernel) (by decide +kernel)
  have hstays := playingActuator_stays_loaded
  rw [show exec (.unitDisable .mbus 0x4100) playingActuator = .next (answerPlain .mbus (Obj.actuatorEnable 1) t dsOk) from hexec] at hstays
  rcases hparked with hnot | hopen
  · exact Bool.false_ne_true (hnot.symm.trans hstays)
  · exact absurd hopen (by decide +kernel)

end Sys2Proof.Machine
end

section
/-!
PROOFS. The reset of the main die in a state whose object store is not canonical (R97, R101): DRIVE_STATE of actuator 0 stands in the store behind a
key that the reset drops, out of the keys' order, where a read does not find it until then.
-/

namespace Sys2Proof.Machine

/-- DRIVE_STATE of actuator 0 stands out of the keys' order. -/
def hiddenDriveState : SMap Val := [(Obj.collectorState, .num 0), (Obj.driveState 0, .num 2)]

/-- The record of the attempt that runs. -/
def openRecord : StartRecord :=
  ⟨3, 1, 1, none, none, none, .replicate 20 0, none, none, none, none, none, false⟩

/-- Step 1 of a start attempt runs. -/
def startingHidden : State :=
  { State.reset with
    objs := hiddenDriveState
    start := { State.reset.start with running := true, step := 1, ledger := [openRecord] } }

/-- Once the attempt has failed, actuator 0 reads as loaded. -/
theorem startingHidden_loaded :
    (match exec (.startStepEnd .failed {}) startingHidden with
      | .next t => loaded t 0
      | _ => false) = true := by decide +kernel

/-- Refutes O42: nothing asks that the object store is in canonical form, so the reset of the main die after a failed attempt can bring the DRIVE_STATE
of a loaded actuator to light (`startingHidden`). -/
theorem not_startAttemptsBeginAndFail : ¬ Obligations.StartAttemptsBeginAndFail := by
  unfold Obligations.StartAttemptsBeginAndFail
  intro h
  obtain ⟨-, -, -, -, hfails, -⟩ := h startingHidden {} openRecord
  obtain ⟨⟨t, hexec, -, -, -, -, -, hparked, -⟩, -⟩ := hfails (by decide +kernel) rfl (by decide +kernel) (by decide +kernel)
  have hloaded := startingHidden_loaded
  rw [hexec] at hloaded
  rcases hparked 0 with hnot | hopen
  · exact Bool.false_ne_true (hnot.symm.trans hloaded)
  · exact absurd hopen (by decide +kernel)

/-- A device that is ready for its hosts. -/
def readyHidden : State :=
  { State.reset with
    objs := hiddenDriveState
    power := { State.reset.power with powerGood := true, railsOff := false }
    start := { State.reset.start with mode := .normal, inReset := false, passedSteps := 2 ^ 21 - 1 } }

/-- After its restart, actuator 0 reads as loaded. -/
theorem readyHidden_loaded :
    (match exec (.restartNormal .mbus) readyHidden with
      | .next t => loaded t 0
      | _ => false) = true := by decide +kernel

/-- Refutes O43: nothing asks that the object store is in canonical form, so the reset of the main die at a restart can bring the DRIVE_STATE of a
loaded actuator to light (`readyHidden`). -/
theorem not_startStepsPassAndRestartQuiesces : ¬ Obligations.StartStepsPassAndRestartQuiesces := by
  unfold Obligations.StartStepsPassAndRestartQuiesces
  intro h
  obtain ⟨-, -, -, -, -, -, -, hrestart, -⟩ := h readyHidden .mbus {} openRecord 0 0 0
  obtain ⟨t, hexec, -, -, -, -, hidle, -⟩ := (hrestart (by decide +kernel)).1 rfl (by decide +kernel)
  obtain ⟨-, hdestaged, -⟩ := hidle rfl rfl
  have hloaded := readyHidden_loaded
  rw [hexec] at hloaded
  rcases hdestaged (by decide +kernel) 0 with hnot | hopen
  · exact Bool.false_ne_true (hnot.symm.trans hloaded)
  · exact absurd hopen (by decide +kernel)

end Sys2Proof.Machine
end

section
/-!
PROOFS. The erase of a namespace whose number takes NS_KEY_GEN out of its range (R128, R129).
-/

namespace Sys2Proof.Machine

/-- An admin command that has been fetched from port A. -/
def adminSlot (cmd : SqEntry) : CmdSlot :=
  { port := .a, qid := 0, cq := 0, cmd := cmd, admission := 1, io := false, kind := .read, lba := 0, count := 0, released := false, stalled := false
    waits := [], locks := [], cached := 0, wantsMedium := false, media := [], started := false, fetchTick := 0, checked := false }

/-- The namespace number for which NS_KEY_GEN falls on the girth link's TX_DROPS. -/
def straySpace : Nat := Obj.txDrops - Obj.nsKeyGen 0

/-- One namespace of ten blocks, of that number. -/
def strayNamespace : Namespace :=
  { nsid := straySpace, mapSlot := 0, firstDba := 0, blocks := 10, firstStripe := 0, firstRow := 0, periods := 1, nsze := 10, lbaFormat := 0
    piType := 0, attachedA := true, attachedB := true }

/-- A device that returns from the field, and still erases that namespace. -/
def returningDevice : State :=
  { State.reset with
    power := { State.reset.power with powerGood := true, railsOff := false }
    start := { State.reset.start with mode := .normal, inReset := false, passedSteps := 2 ^ 21 - 1 }
    host := { State.reset.host with namespaces := [(straySpace, strayNamespace)] }
    fw := { State.reset.fw with returning := true, mfg := true, erasing := [straySpace] } }

/-- The end of the erase restarts the device, and the counter is gone. -/
theorem returningDevice_counts_nothing :
    (match exec (.cryptoEraseDone straySpace) returningDevice with
      | .next t => t.num (Obj.nsKeyGen straySpace)
      | _ => 1) = 0 := by decide +kernel

/-- Refutes O46: the namespace's number is not bounded, so its NS_KEY_GEN can fall on an object that the restart after the last erase does not keep,
and is not counted (`returningDevice`). -/
theorem not_lifecycleKeysAndEraseTakeEffect : ¬ Obligations.LifecycleKeysAndEraseTakeEffect := by
  unfold Obligations.LifecycleKeysAndEraseTakeEffect
  intro h
  obtain ⟨-, -, -, -, -, -, herase, -⟩ :=
    h returningDevice .mbus 0 straySpace (adminSlot ⟨0, 0, 0, 0, 0, 0, 0, 0, 0, 0, 0, [], []⟩) [] [] strayNamespace .idcode 0 0
  obtain ⟨t, hexec, -, -, hcounted, -⟩ := herase (by decide +kernel) (by decide +kernel) rfl (by decide +kernel)
  have hcount := hcounted (by decide +kernel)
  have hnone := returningDevice_counts_nothing
  rw [hexec] at hnone
  exact absurd (hcount.symm.trans hnone) (Nat.succ_ne_zero _)

end Sys2Proof.Machine
end

section
/-!
PROOFS. The end of a write over a lost range, with a holder in place to mirror the lost list to (R346, R386, R409).
-/

namespace Sys2Proof.Machine

/-- A surface whose label is the device's own reads back that label. -/
theorem labelOf_own {s : State} {u : Nat} {l : Label} (h : vget s.media.labels u ⟨false, 0, 0, 0, 0, []⟩ = l) (hgood : l.good = true)
    (huid : l.uid = Config.fuseUniqueId.toNat) : labelOf s u = some l := by
  unfold labelOf
  rw [h]
  simp [hgood, huid]

/-- A write of block 3 of namespace 3, all of it in the protected cache. -/
def cachedWriteSlot : CmdSlot :=
  { adminSlot { opcode := 1, cid := 6, nsid := 3 } with
    qid := 1, cq := 1, io := true, kind := .write, lba := 3, count := 1, cached := 1, started := true, checked := true }

/-- The completion queue of that write. -/
def emptyQueue : Cq := ⟨8, 0, 0, [], 0, false, 0, 0⟩

/-- The label of a holder whose area 4 is in place. -/
def holderLabel : Label := ⟨true, 0, Config.fuseUniqueId.toNat, 0, 0, [(4, (384, 1024, 1))]⟩

/-- The block is listed as lost, and surface 0 is the holder. -/
def lostBlock : State :=
  State.modCtrl { State.reset with
    objs := [(Obj.surfaceMask 0, .num 1)]
    host := { State.reset.host with slots := [(20, cachedWriteSlot)] }
    layout := { State.reset.layout with lost := [⟨3, 3, 1, 0⟩] }
    media := { State.reset.media with holders := #v[0, 255], labels := State.reset.media.labels.set 0 holderLabel } }
    .a fun k => { k with cqs := [(1, emptyQueue)] }

/-- The block is off the lost list. -/
def foundBlock : State := lostBlock.setLayout { lostBlock.layout with lost := [], lostGen := 1 }

/-- The first page of the lost list then. -/
def lostPage : List Byte := slice (lostImage foundBlock) (4096 * 0) 4096

/-- What the holder's band takes. -/
def mirroredPage : Out :=
  .band 0 384 97 (mkPayload (padTo 4096 lostPage) (leBytes 4 1 ++ leBytes 2 0x30 ++ [0, 0]) (scrcSeed (bandPrefix 0 384 97)) 0 0x28)

/-- The page has been sent to the holder. -/
def mirroredList : State :=
  { foundBlock with layout := { foundBlock.layout with pageGens := [(0x30, 1)] }, outs := [mirroredPage] }

theorem areaAt_foundBlock {s : State} (h : s.media = foundBlock.media) : areaAt s 0 4 = some (384, 1024) := by
  unfold areaAt
  rw [labelOf_own (l := holderLabel) (by rw [h]; rfl) rfl rfl]
  rfl

theorem mirrorPage_foundBlock : mirrorPage foundBlock 0x30 (padTo 4096 lostPage) = mirroredList := by
  unfold mirrorPage
  dsimp only
  rw [show ((holderSurfaces _).filter _ : List Nat) = [0] from by decide +kernel,
    show mirrorSlot 0x30 (SMap.findD foundBlock.layout.pageGens 0x30 0 + 1) = (4, 97) from by decide +kernel]
  unfold State.each
  rw [List.foldl_cons, List.foldl_nil]
  split
  next x hx =>
    obtain rfl : x = (384, 1024) := Option.some.inj (hx.symm.trans (areaAt_foundBlock rfl))
    rfl
  next hnone => exact absurd (hnone.symm.trans (areaAt_foundBlock rfl)) (by decide)

/-- The write takes its block off the lost list, and the list goes to the holder's band. -/
theorem clearLost_lostBlock : clearLost lostBlock 3 3 1 = layoutChanged mirroredList := by
  have hcut : lostBlock.layout.lost.flatMap (cutLost 3 3 1) = [] := by decide +kernel
  have hparts : bandParts (lostImage foundBlock) = [(0, lostPage)] := by decide +kernel
  unfold clearLost
  dsimp only
  rw [hcut, if_neg (by decide +kernel), if_neg (by decide +kernel)]
  refine congrArg layoutChanged ?_
  show mirrorPages foundBlock 0x30 0 (lostImage foundBlock) = mirroredList
  unfold mirrorPages
  rw [hparts]
  exact mirrorPage_foundBlock

/-- What the end of the write comes to. -/
theorem exec_writeCached_lostBlock : exec (.writeCached 20) lostBlock = .next (settleShutdowns (settleMedium (releaseEntry
    (putSlot (wakeFor (coverFlush (layoutChanged mirroredList) 20) []) 20 { cachedWriteSlot with media := [], started := true }) 20))) := by
  show execWriteCached 20 lostBlock = _
  unfold execWriteCached
  rw [show lostBlock.slot 20 = some cachedWriteSlot from rfl]
  dsimp only
  rw [if_pos (by decide +kernel), show clearLost lostBlock cachedWriteSlot.cmd.nsid cachedWriteSlot.lba cachedWriteSlot.count =
    layoutChanged mirroredList from clearLost_lostBlock, if_neg (by decide +kernel)]

/-- Refutes O51: a write that needs no medium sends the shortened lost list to the holder before its completion, and not the completion alone
(`lostBlock`). -/
theorem not_ioCommandsMoveBlocks : ¬ Obligations.IoCommandsMoveBlocks := by
  unfold Obligations.IoCommandsMoveBlocks
  intro h
  obtain ⟨-, -, -, hcached, -⟩ := h lostBlock 20 0 0 cachedWriteSlot
    ⟨3, 0, 0, 10, 0, 0, 1, 10, 0, 0, true, true⟩ emptyQueue ⟨[], []⟩ [] [] (0, 0)
  obtain ⟨t, hexec, hkeeper, -⟩ := hcached rfl rfl rfl rfl rfl rfl rfl (by decide) rfl (by decide) (by decide +kernel) (by decide +kernel)
  obtain ⟨⟨hposted, -⟩, -⟩ := hkeeper (by decide +kernel)
  obtain ⟨houts, -⟩ := hposted rfl
  have hlength : t.outs.length = 2 := by
    obtain rfl := Host.Outcome.next.inj (exec_writeCached_lostBlock.symm.trans hexec)
    decide +kernel
  rw [houts] at hlength
  exact absurd hlength (by decide)

end Sys2Proof.Machine
end

section
/-!
PROOFS. An event that fences a host port while a staged activation waits for a reset (R116, R469).
-/

namespace Sys2Proof.Machine

/-- Port A's event fences the port, and the image that waits for a reset is activated by the next one. -/
def portToFence : State :=
  { State.reset with
    objs := [(0x710000 + 96, .bytes ([0, 0, 0, 0, 2] ++ List.replicate 11 0))]
    power := { State.reset.power with powerGood := true, railsOff := false }
    start := { State.reset.start with mode := .normal, inReset := false, passedSteps := 2 ^ 21 - 1 }
    fw := { State.reset.fw with resetActivates := true } }

/-- Port A's event. -/
def portEvent : Event := ⟨96, 0, 0, 0, 5, 0, 0⟩

/-- The port's reset restarts the main die, which loses the event's bucket. -/
theorem portToFence_bucket :
    (match exec (.collectorEvent portEvent) portToFence with
      | .next t => (SMap.find t.coll.buckets portEvent.source).isSome
      | _ => true) = false := by decide +kernel

/-- Refutes O59: the fence of a host port resets its controller, and where an activation waits for a reset that restarts the main die, so the event's
bucket is gone (`portToFence`). -/
theorem not_collectorsReactToEvents : ¬ Obligations.CollectorsReactToEvents := by
  unfold Obligations.CollectorsReactToEvents
  intro h
  obtain ⟨hevent, -⟩ := h portToFence portEvent 0 0 0 0 0
  obtain ⟨t, hexec, -, -, -, hbucket⟩ := hevent ⟨by decide +kernel, by decide +kernel, by decide +kernel⟩ (fun hrun => absurd hrun (by decide))
  have hgone := portToFence_bucket
  rw [hexec] at hgone
  exact Bool.false_ne_true (hgone.symm.trans (congrArg Option.isSome hbucket))

end Sys2Proof.Machine
end

section
/-!
PROOFS. The last update of a stripe retires while a restart waits for it (R101, R382).
-/

namespace Sys2Proof.Machine

/-- A map of two data members and one parity member on three surfaces. -/
def smallMap : StitchMap := ⟨9, 1, 2, 1, 2, 1, 1, 7, 0, [(0, 0), (1, 0), (2, 0)]⟩

/-- A namespace of ten blocks on that map. -/
def smallNamespace : Namespace :=
  { nsid := 3, mapSlot := 0, firstDba := 0, blocks := 10, firstStripe := 0, firstRow := 0, periods := 1, nsze := 10, lbaFormat := 0, piType := 0
    attachedA := true, attachedB := true }

/-- An update of its stripe that covers no block of the cache. -/
def lastUpdate : JournalEntry :=
  { seq := 4, stripe := 0, nsid := 3, mapSlot := 0, method := 1, gen := 6, list := [], dbas := [], valid := true, replay := false }

/-- A block of the cache that is on the medium. -/
def cleanBlock : CacheSlot := { state := 2, nsid := 3, dba := 3, admission := 1, payload := [] }

/-- A restart has been accepted, and waits for that update alone. -/
def restartWaits : State :=
  { State.reset with
    power := { State.reset.power with powerGood := true, railsOff := false }
    start := { State.reset.start with mode := .normal, inReset := false, passedSteps := 2 ^ 21 - 1, restartAsked := true }
    host := { State.reset.host with namespaces := [(3, smallNamespace)] }
    layout := { State.reset.layout with maps := [(0, smallMap)], journal := [lastUpdate] }
    mem := { State.reset.mem with cache := [(0, cleanBlock)] } }

/-- The restart resets the main die, and its cache is gone. -/
theorem restartWaits_cache :
    (match exec (.stripeUpdateRetire 0) restartWaits with
      | .next t => (SMap.find t.mem.cache 0).isSome
      | _ => true) = false := by decide +kernel

/-- Refutes O53: the retirement of the last update can be what an accepted restart waits for, and the reset of the main die then empties the cache,
also of the blocks that the update does not cover (`restartWaits`). -/
theorem not_stripeUpdatesAreJournalledAndRetired : ¬ Obligations.StripeUpdatesAreJournalledAndRetired := by
  unfold Obligations.StripeUpdatesAreJournalledAndRetired
  intro h
  obtain ⟨-, -, -, hretire, -⟩ := h restartWaits 0 0 0 [] [] smallNamespace.run lastUpdate [] []
  obtain ⟨t, hexec, -, hretired⟩ := hretire rfl (by decide +kernel)
  have hgone := restartWaits_cache
  rw [hexec] at hgone
  exact Bool.false_ne_true (hgone.symm.trans (congrArg Option.isSome (hretired rfl rfl 0 cleanBlock rfl)))

end Sys2Proof.Machine
end

section
/-!
PROOFS. Firmware download and commit (R104, R105, R110 to R112).
-/

namespace Sys2Proof.Machine

/-! ### The slot-control record (R104) -/

/-- An update of the record is the newest copy. -/
theorem slotControl_setControl (s : State) (active pending : Nat) :
    slotControl (setControl s active pending) = ((slotControl s).1 + 1, active, pending) := by
  unfold setControl
  by_cases h : s.fw.control[0].1 < s.fw.control[1].1
  · simp [slotControl, h, vmod]
  · simp [slotControl, h, vmod]

@[simp] theorem activeSlot_setControl (s : State) (active pending : Nat) : activeSlot (setControl s active pending) = active :=
  congrArg (·.2.1) (slotControl_setControl s active pending)

@[simp] theorem pendingSlot_setControl (s : State) (active pending : Nat) : pendingSlot (setControl s active pending) = pending :=
  congrArg (·.2.2) (slotControl_setControl s active pending)

theorem commitSlot_lt {s : State} {c : CmdSlot} {i : Nat} (h : commitSlot s c = some i) : i < 2 := by
  unfold commitSlot at h
  split at h <;> simp at h <;> omega

/-! ### Commands -/

theorem padTo_take (l : List Byte) {n : Nat} (h : l.length = n) : padTo n (l.take n) = l := by
  subst h
  simp [padTo]

/-- A piece that is aligned, within the staging's size and on none of the pieces that have arrived is staged. -/
theorem exec_firmwareImageDownload {s : State} {slot : Nat} {c : CmdSlot} {piece : List Byte} {len off : Nat} (hcmd : adminCmd s slot 0x11 = some c)
    (hlen : 4 * (c.cmd.cdw10 + 1) = len) (hoff : 4 * c.cmd.cdw11 = off) (hsize : off + len ≤ 24 * 2 ^ 20) (hoffs : off % 4096 = 0)
    (hlens : len % 4096 = 0) (hpiece : piece.length = len)
    (hapart : ∀ e ∈ vget s.fw.staging (portNo c.port) [], e.1 + e.2.length ≤ off ∨ off + len ≤ e.1) :
    exec (.firmwareImageDownload slot piece) s = .next (endAdmin
      (s.setFw { s.fw with staging := vmod s.fw.staging (portNo c.port) fun m => SMap.put m off piece }) slot scOk) := by
  show execFirmwareImageDownload slot piece s = _
  have hclear : ¬(vget s.fw.staging (portNo c.port) []).any
      (fun e => decide (off < e.1 + e.2.length) && decide (e.1 < off + len)) = true := by
    rw [Bool.not_eq_true, List.any_eq_false]
    intro e he hboth
    rw [Bool.and_eq_true, decide_eq_true_eq, decide_eq_true_eq] at hboth
    rcases hapart e he with h | h <;> omega
  unfold execFirmwareImageDownload
  rw [hcmd]
  dsimp only
  rw [hlen, hoff, if_neg (by omega), if_neg hclear, padTo_take piece hpiece]

theorem portNo_lt (p : Port) : portNo p < 2 := by cases p <;> decide

/-- What a commit does that replaces a slot other than the running one. -/
theorem commitProgram_replaces {s : State} {slot i : Nat} {c : CmdSlot} {pend : Bool} (hslot : commitSlot s c = some i) (hrun : i ≠ s.num Obj.runningSlot)
    {img : List Byte} (himg : stagedImage (vget s.fw.staging (portNo c.port) []) = img) :
    if imageAccepted img s.fw.ownerKey (minSecurity s) = true then
      let t := commitProgram s slot c pend
      t.fw.programming = some ⟨i, img.take (imageLen img), pend, pend, some slot⟩ ∧ (imageSlot t i).state = 3 ∧
        imageSlot t (1 - i) = imageSlot s (1 - i) ∧ t.fw.control = s.fw.control
    else commitProgram s slot c pend = endAdmin (s.raise 64) slot scFirmwareImage := by
  have hlt := commitSlot_lt hslot
  unfold commitProgram
  rw [himg, hslot]
  dsimp only
  rw [if_neg hrun]
  by_cases hgood : imageAccepted img s.fw.ownerKey (minSecurity s) = true
  · rw [if_pos hgood, if_neg (by simp [hgood])]
    exact ⟨rfl, by simp [imageSlot, programSlot, State.setFw, hlt], by simp [imageSlot, programSlot, State.setFw, vget_vmod, show i ≠ 1 - i by omega], rfl⟩
  · rw [if_neg hgood, if_pos (by simp [hgood])]

/-- A commit that only asks for a slot leaves it pending. -/
theorem exec_firmwareCommitActivate {s : State} {slot i : Nat} {c : CmdSlot} (hturn : commitTurn s slot [2] = some c) (hslot : commitSlot s c = some i)
    (hvalid : slotValid s i = true) : exec (.firmwareCommitActivate slot) s = .next (endAdmin (pendSlot s i) slot scOk) := by
  show execFirmwareCommitActivate slot s = _
  unfold execFirmwareCommitActivate
  rw [hturn]
  dsimp only
  rw [hslot]
  dsimp only
  rw [if_pos hvalid]

/-- A commit that activates at once starts the activation. -/
theorem exec_firmwareCommitActivateNow {s : State} {slot i : Nat} {c : CmdSlot} (hturn : commitTurn s slot [3] = some c)
    (hslot : commitSlot s c = some i) (hvalid : slotValid s i = true) (hrun : i ≠ s.num Obj.runningSlot) (hnone : s.fw.activation = none)
    (hmode : normalMode s = true) (hhand : imageHandoff (imageSlot s i).bytes = imageHandoff (runningImage s)) :
    exec (.firmwareCommitActivateNow slot) s = .next ((s.setFw { s.fw with
      activation := some ⟨i, some slot, false, false, false, 1 - s.num (Obj.bankCurrent 0) % 2⟩ }).setNum Obj.activationState 1) := by
  show execFirmwareCommitActivateNow slot s = _
  unfold execFirmwareCommitActivateNow
  rw [hturn]
  dsimp only
  rw [hslot]
  dsimp only
  rw [if_neg (by simp [hvalid]), if_neg hrun, if_neg (by simp [hnone]), if_neg (by simp [hmode, hhand])]

/-- The programmed slot holds its image, and nothing is being programmed. -/
def programmed (s : State) (slot : Nat) (image : List Byte) : State :=
  s.setFw { s.fw with programming := none, slots := vmod s.fw.slots slot fun _ => ⟨image, 1⟩ }

/-- The state in which a commit's programming leaves the slots and the record. -/
def committed (s : State) (x : SlotProgram) : State :=
  let u := programmed s x.slot x.image
  let s := if x.pend then setControl u (activeSlot s) x.slot else u
  if x.activate then s.setFw { s.fw with resetActivates := true } else s

theorem committed_effect (s : State) {x : SlotProgram} (hslot : x.slot < 2) :
    (committed s x).fw.programming = none ∧ imageSlot (committed s x) x.slot = ⟨x.image, 1⟩ ∧
      (x.pend = true → pendingSlot (committed s x) = x.slot) ∧ (x.pend = false → (committed s x).fw.control = s.fw.control) ∧
      activeSlot (committed s x) = activeSlot s ∧ (x.activate = true → (committed s x).fw.resetActivates = true) := by
  obtain ⟨slot, image, pend, activate, cmdSlot⟩ := x
  have hself (d : ImageSlot) : vget (vmod s.fw.slots slot fun _ => ⟨image, 1⟩) slot d = ⟨image, 1⟩ := vget_vmod_self _ _ _ _ hslot
  cases pend
  · cases activate
    · exact ⟨rfl, hself _, nofun, fun _ => rfl, rfl, nofun⟩
    · exact ⟨rfl, hself _, nofun, fun _ => rfl, rfl, fun _ => rfl⟩
  · have hpending := pendingSlot_setControl (programmed s slot image) (activeSlot s) slot
    have hactive := activeSlot_setControl (programmed s slot image) (activeSlot s) slot
    cases activate
    · exact ⟨rfl, hself _, fun _ => hpending, nofun, hactive, nofun⟩
    · exact ⟨rfl, hself _, fun _ => hpending, nofun, hactive, fun _ => rfl⟩

theorem exec_firmwareCommitDone {s : State} {x : SlotProgram} (hprog : s.fw.programming = some x) : exec .firmwareCommitDone s = match x.cmdSlot with
    | some n => .next (endAdmin (committed s x) n scOk)
    | none => .next (committed s x) := by
  show execFirmwareCommitDone s = _
  unfold execFirmwareCommitDone
  rw [hprog]
  rfl

theorem exec_commitProgram {s : State} {slot : Nat} {c : CmdSlot} :
    (commitTurn s slot [0] = some c → exec (.firmwareCommitReplace slot) s = .next (commitProgram s slot c false)) ∧
      (commitTurn s slot [1] = some c → exec (.firmwareCommitReplaceActivate slot) s = .next (commitProgram s slot c true)) := by
  refine ⟨fun h => ?_, fun h => ?_⟩
  · show execFirmwareCommitReplace slot s = _
    unfold execFirmwareCommitReplace
    rw [h]
  · show execFirmwareCommitReplaceActivate slot s = _
    unfold execFirmwareCommitReplaceActivate
    rw [h]

/-- Settles O44: each commit by the command that it runs, with the record's newest copy. -/
theorem firmwareIsDownloadedAndCommitted : Obligations.FirmwareIsDownloadedAndCommitted := by
  unfold Obligations.FirmwareIsDownloadedAndCommitted
  intro s slot i c piece x
  refine ⟨fun hcmd hsize hoffs hlens hpiece hapart => ?_, fun hturn hslot hrun => ?_, fun hturn hslot hrun => ?_, fun hturn hslot hvalid => ?_,
    fun hturn hslot hvalid hrun hnone hmode hhand => ?_, fun hturn => ?_, fun hprog hslot => ⟨fun hnone => ?_, fun n hsome => ?_⟩⟩
  · refine ⟨_, exec_firmwareImageDownload hcmd rfl rfl hsize hoffs hlens hpiece hapart, ?_, rfl⟩
    show SMap.find (vget (vmod _ _ _) _ _) _ = _
    rw [vget_vmod_self _ _ _ _ (portNo_lt _), SMap.find_put_self]
  · exact ⟨_, exec_commitProgram.1 hturn, commitProgram_replaces hslot hrun rfl⟩
  · exact ⟨_, exec_commitProgram.2 hturn, commitProgram_replaces hslot hrun rfl⟩
  · have hpending := pendingSlot_setControl s (activeSlot s) i
    have hactive := activeSlot_setControl s (activeSlot s) i
    exact ⟨_, exec_firmwareCommitActivate hturn hslot hvalid, hpending, hactive, rfl, rfl⟩
  · exact ⟨_, exec_firmwareCommitActivateNow hturn hslot hvalid hrun hnone hmode hhand, rfl, by simp, rfl⟩
  · show execFirmwareCommitInvalidAction slot s = _
    unfold execFirmwareCommitInvalidAction
    rw [hturn]
  · exact ⟨_, (exec_firmwareCommitDone hprog).trans (by rw [hnone]), committed_effect s hslot⟩
  · exact ⟨_, (exec_firmwareCommitDone hprog).trans (by rw [hsome]), committed_effect s hslot⟩

end Sys2Proof.Machine
end

section
/-!
PROOFS. The SPDM responder's answers (R124 to R126, R335).
-/

namespace Sys2Proof.Machine

/-! ### Bytes of a message -/

@[simp] theorem length_leBytes (n v : Nat) : (leBytes n v).length = n := by
  induction n generalizing v with
  | zero => rfl
  | succ n ih => rw [leBytes, List.length_cons, ih]

theorem byteAt_version (code p1 p2 : Nat) (rest : List Byte) : byteAt (spdmMsg code p1 p2 rest) 0 = 0x12 := rfl
theorem byteAt_code (code p1 p2 : Nat) (rest : List Byte) : byteAt (spdmMsg code p1 p2 rest) 1 = code % 2 ^ 8 := rfl
theorem byteAt_param1 (code p1 p2 : Nat) (rest : List Byte) : byteAt (spdmMsg code p1 p2 rest) 2 = p1 % 2 ^ 8 := rfl
theorem byteAt_param2 (code p1 p2 : Nat) (rest : List Byte) : byteAt (spdmMsg code p1 p2 rest) 3 = p2 % 2 ^ 8 := rfl

/-- The part of a message behind some of its bytes, and the bytes themselves. -/
theorem slice_append_left {a b : List Byte} {off len : Nat} (h : a.length = off) : slice (a ++ b) off len = b.take len := by
  subst h
  simp [slice]

theorem slice_append_mid {a b c : List Byte} {off len : Nat} (ha : a.length = off) (hb : b.length = len) : slice (a ++ (b ++ c)) off len = b := by
  rw [slice_append_left ha, ← hb, List.take_left]

/-! ### Sending (R124) -/

theorem spdmIx_lt (via : SpdmPort) : spdmIx via < 3 := by
  match via with
  | .mctp => decide
  | .nvme .a => decide
  | .nvme .b => decide

/-- A message is sent, from a state with the outputs as they were. -/
theorem spdmSend_sent {s u : State} (h : u.outs = s.outs) (via : SpdmPort) (msg : List Byte) : SpdmSent s (spdmSend u via msg) via msg := by
  match via with
  | .mctp => exact ⟨fun _ => congrArg (_ :: ·) h, nofun⟩
  | .nvme p => exact ⟨nofun, fun _ => ⟨h, vget_vmod_self _ _ _ _ (spdmIx_lt _)⟩⟩

/-- What the responder keeps is not the sending's. -/
theorem spdmSend_kept (u : State) (via : SpdmPort) (msg : List Byte) : (spdmSend u via msg).fw.spdmVca = u.fw.spdmVca ∧
    (spdmSend u via msg).fw.spdmAlgs = u.fw.spdmAlgs ∧ (spdmSend u via msg).fw.spdmChal = u.fw.spdmChal ∧
    (spdmSend u via msg).fw.spdmMeas = u.fw.spdmMeas := by
  match via with
  | .mctp => exact ⟨rfl, rfl, rfl, rfl⟩
  | .nvme p => exact ⟨rfl, rfl, rfl, rfl⟩

/-- What a message of the connection adds to the transcript. -/
theorem addVca_sent (u : State) (via : SpdmPort) (b msg : List Byte) :
    vget (spdmSend (addVca u via b) via msg).fw.spdmVca (spdmIx via) [] = vget u.fw.spdmVca (spdmIx via) [] ++ b :=
  (congrArg (vget · _ _) (spdmSend_kept _ via _).1).trans (vget_vmod_self _ _ _ _ (spdmIx_lt via))

/-- The instruction answers with a message of this code. -/
def SpdmAnswers (s : State) (via : SpdmPort) (i : Instr) (code : Nat) (P : List Byte → State → Prop) : Prop :=
  Completes i s fun t => ∃ msg, SpdmSent s t via msg ∧ byteAt msg 0 = 0x12 ∧ byteAt msg 1 = code ∧ P msg t

/-- A message of the responder, from a state with the outputs as they were, is an answer. -/
theorem spdmAnswers_of_send {s u : State} {via : SpdmPort} {i : Instr} {code p1 p2 : Nat} {rest : List Byte} {P : List Byte → State → Prop}
    (hexec : exec i s = .next (spdmSend u via (spdmMsg code p1 p2 rest))) (houts : u.outs = s.outs) (hcode : code < 2 ^ 8)
    (hP : P (spdmMsg code p1 p2 rest) (spdmSend u via (spdmMsg code p1 p2 rest))) : SpdmAnswers s via i code P :=
  ⟨_, hexec, _, spdmSend_sent houts via _, rfl, (byteAt_code code p1 p2 rest).trans (Nat.mod_eq_of_lt hcode), hP⟩

/-- An error answers with its code. -/
theorem spdmError_answers {s : State} {via : SpdmPort} {i : Instr} {code : Nat} (hexec : exec i s = .next (spdmError s via code)) :
    SpdmAnswers s via i 0x7F fun msg _ => msg = [0x12, 0x7F, BitVec.ofNat 8 code, 0] :=
  spdmAnswers_of_send hexec rfl (by decide) rfl

theorem spdmAfter_of_ready {s : State} {via : SpdmPort} (h : spdmReady s via = none) (f : State → State) : spdmAfter s via f = f s := by
  rw [spdmAfter, h]

theorem spdmAfter_of_unready {s : State} {via : SpdmPort} {e : Nat} (h : spdmReady s via = some e) (f : State → State) :
    spdmAfter s via f = spdmError s via e := by
  rw [spdmAfter, h]

theorem chainMask_lt (s : State) : chainMask s < 2 ^ 8 := by
  show bits [!(chainOf s 0).isEmpty, !(chainOf s 1).isEmpty] < 2 ^ 8
  generalize (chainOf s 0).isEmpty = x
  generalize (chainOf s 1).isEmpty = y
  cases x <;> cases y <;> decide

@[simp] theorem length_chainHash (s : State) (i : Nat) : (chainHash s i).length = 64 := by simp [chainHash]

@[simp] theorem length_measurement (s : State) (i : Nat) : (measurement s i).length = 64 := by simp [measurement]

/-- What an answer to CHALLENGE holds before its signature. -/
def challengeBody (s : State) (slot hashType : Nat) : List Byte :=
  chainHash s slot ++ leBytes 32 (Config.freeWord s.free) ++ measurementSummary s hashType ++ leBytes 2 0

theorem slice_challengeBody_hash (s : State) (slot hashType : Nat) (sig : List Byte) :
    slice (challengeBody s slot hashType ++ sig) 0 64 = chainHash s slot := by
  simp [slice, challengeBody, List.append_assoc]

theorem slice_challengeBody_summary (s : State) (slot : Nat) (sig : List Byte) : slice (challengeBody s slot 0xFF ++ sig) 96 64 =
    (Config.sha3_512 ([1, 2, 3, 4, 5, 6].flatMap (measurementBlock s))).toList := by
  have hfront : (chainHash s slot ++ leBytes 32 (Config.freeWord s.free)).length = 96 := by simp
  rw [challengeBody, List.append_assoc, List.append_assoc, slice_append_mid hfront (by simp [measurementSummary])]
  rfl

theorem slice_challengeBody_none (s : State) (slot : Nat) (sig : List Byte) : slice (challengeBody s slot 0 ++ sig) 96 2 = [0, 0] := by
  have hfront : (chainHash s slot ++ leBytes 32 (Config.freeWord s.free)).length = 96 := by simp
  rw [challengeBody, List.append_assoc, List.append_assoc, slice_append_left hfront]
  rfl

/-- What an answer to GET_MEASUREMENTS for one block holds before its signature. -/
def measureBody (s : State) (index : Nat) : List Byte :=
  [BitVec.ofNat 8 1] ++ leBytes 3 ([index].flatMap (measurementBlock s)).length ++ [index].flatMap (measurementBlock s) ++ leBytes 32 (Config.freeWord s.free) ++ leBytes 2 0

/-- The block's measurement stands behind its seven bytes of header. -/
theorem slice_measureBody (s : State) (index slot : Nat) (sig : List Byte) :
    slice (spdmMsg 0x60 0 slot (measureBody s index ++ sig)) 15 64 = measurement s index := by
  have hlen : (measurement s index).length = 64 := length_measurement s index
  rw [measureBody, List.flatMap_singleton]
  show List.take 64 (measurement s index ++ leBytes 32 (Config.freeWord s.free) ++ leBytes 2 0 ++ sig) = measurement s index
  rw [List.append_assoc, List.append_assoc, List.take_append_of_le_length (by omega), List.take_of_length_le (by omega)]

theorem spdmMeasurements_unsigned {index : Nat} (hone : 1 ≤ index) (hsix : index ≤ 6) {s : State} {via : SpdmPort} {slot : Nat} {request : List Byte} :
    spdmMeasurements s via index false slot request = spdmSend (setMeas s.draw.2 via (vget s.fw.spdmMeas (spdmIx via) [] ++ request ++
      spdmMsg 0x60 0 0 (measureBody s index))) via (spdmMsg 0x60 0 0 (measureBody s index)) := by
  unfold spdmMeasurements
  rw [if_neg (by simp; omega), if_neg (by omega : ¬index = 0), if_neg (by omega : ¬index = 0xFF), if_neg (by omega : ¬index = 0)]
  rfl

/-- Signed, the transcript is closed and the signature follows. -/
theorem spdmMeasurements_signed (s : State) (via : SpdmPort) {index slot : Nat} (hone : 1 ≤ index) (hsix : index ≤ 6) (hslot : slot < 2)
    (hchain : chainOf s slot ≠ []) (request : List Byte) : ∃ sig, spdmMeasurements s via index true slot request =
      spdmSend (setMeas s.draw.2 via []) via (spdmMsg 0x60 0 slot (measureBody s index ++ sig)) := by
  unfold spdmMeasurements
  rw [if_neg (by simp [hchain]; omega), if_neg (by omega : ¬index = 0), if_neg (by omega : ¬index = 0xFF), if_neg (by omega : ¬index = 0)]
  exact ⟨_, rfl⟩

section
variable {s : State} {via : SpdmPort} (hserves : spdmServes s = true)
include hserves

/-! ### The connection (R124) -/

theorem exec_spdmGetVersion : exec (.spdmGetVersion via) s = .next (spdmVersion s via [0x10, 0x84, 0, 0]) :=
  congrArg _ (if_pos hserves)

theorem spdmGetVersion_answers : Completes (.spdmGetVersion via) s fun t => SpdmSent s t via [0x10, 0x04, 0, 0, 0, 1, 0x00, 0x12] ∧
    vget t.fw.spdmAlgs (spdmIx via) true = false ∧ vget t.fw.spdmChal (spdmIx via) [0] = [] := by
  refine ⟨_, exec_spdmGetVersion hserves, spdmSend_sent rfl via _, ?_, ?_⟩
  · exact (congrArg (vget · _ _) (spdmSend_kept _ via _).2.1).trans (vget_vmod_self _ _ _ _ (spdmIx_lt via))
  · exact (congrArg (vget · _ _) (spdmSend_kept _ via _).2.2.1).trans (vget_vmod_self _ _ _ _ (spdmIx_lt via))

theorem spdmGetCapabilities_answers (request : List Byte) : SpdmAnswers s via (.spdmGetCapabilities via request) 0x61 fun msg t =>
    msg.length = 20 ∧ fieldAt msg 8 4 = 0x16 ∧
      vget t.fw.spdmVca (spdmIx via) [] = vget s.fw.spdmVca (spdmIx via) [] ++ (request ++ msg) :=
  spdmAnswers_of_send (congrArg _ (if_pos hserves)) rfl (by decide) ⟨rfl, rfl, addVca_sent _ via _ _⟩

theorem spdmNegotiateAlgorithms_answers (request : List Byte) : SpdmAnswers s via (.spdmNegotiateAlgorithms via request) 0x63 fun msg t =>
    vget t.fw.spdmAlgs (spdmIx via) false = true ∧
      vget t.fw.spdmVca (spdmIx via) [] = vget s.fw.spdmVca (spdmIx via) [] ++ (request ++ msg) :=
  spdmAnswers_of_send (congrArg _ (if_pos hserves)) rfl (by decide)
    ⟨(congrArg (vget · _ _) (spdmSend_kept _ via _).2.1).trans (vget_vmod_self _ _ _ _ (spdmIx_lt via)), addVca_sent _ via _ _⟩

theorem spdmUnsupported_answers (req : SpdmUnsupported) : SpdmAnswers s via (.spdmUnsupported via req) 0x7F fun msg _ =>
    msg = [0x12, 0x7F, if lifecycle s = lcScrapped then 0x05 else 0x07, 0] :=
  spdmAnswers_of_send (congrArg _ (if_pos hserves)) rfl (by decide) (by
    by_cases h : lifecycle s = lcScrapped
    · rw [if_pos h, if_pos h]; rfl
    · rw [if_neg h, if_neg h]; rfl)

/-! ### After the algorithms are agreed (R124 to R126) -/

theorem exec_spdmGetDigests : exec (.spdmGetDigests via) s = .next (spdmAfter s via fun s => spdmDigests s via (spdmMsg 0x81 0 0 [])) :=
  congrArg _ (if_pos hserves)

theorem exec_spdmGetCertificate (slot offset len : Nat) : exec (.spdmGetCertificate via slot offset len) s = .next (spdmAfter s via fun s =>
    spdmCertificate s via (slot % 16) offset len (spdmMsg 0x82 slot 0 (leBytes 2 offset ++ leBytes 2 len))) :=
  congrArg _ (if_pos hserves)

theorem exec_spdmChallenge (slot hashType : Nat) (nonce : List Byte) : exec (.spdmChallenge via slot hashType nonce) s =
    .next (spdmAfter s via fun s => spdmChallenge s via (slot % 16) (hashType % 256) (spdmMsg 0x83 slot hashType nonce)) :=
  congrArg _ (if_pos hserves)

theorem exec_spdmGetMeasurements (attributes index slotId : Nat) (nonce : List Byte) :
    exec (.spdmGetMeasurements via attributes index slotId nonce) s = .next (spdmAfter s via fun s =>
      spdmMeasurements s via (index % 256) (bit attributes 0) (slotId % 16)
        (spdmMsg 0xE0 attributes index (if bit attributes 0 then nonce ++ [BitVec.ofNat 8 slotId] else []))) :=
  congrArg _ (if_pos hserves)

variable (hready : spdmReady s via = none)
include hready

theorem spdmGetDigests_answers : SpdmAnswers s via (.spdmGetDigests via) 0x01 fun msg _ => byteAt msg 3 = chainMask s :=
  spdmAnswers_of_send ((exec_spdmGetDigests hserves).trans (congrArg _ (spdmAfter_of_ready hready _))) rfl (by decide)
    ((byteAt_param2 _ _ _ _).trans (Nat.mod_eq_of_lt (chainMask_lt s)))

/-- A part of a chain, and the transcript that it leaves. -/
theorem spdmGetCertificate_answers {slot offset len : Nat} (hslot : slot < 2) (hoff : offset < (chainOf s slot).length) :
    SpdmAnswers s via (.spdmGetCertificate via slot offset len) 0x02 fun msg _ =>
      byteAt msg 2 = slot ∧ msg.drop 8 = slice (chainOf s slot) offset (min len 65535) := by
  have hexec := exec_spdmGetCertificate (via := via) hserves slot offset len
  rw [spdmAfter_of_ready hready, Nat.mod_eq_of_lt (by omega : slot < 16), spdmCertificate, if_neg (by omega)] at hexec
  exact spdmAnswers_of_send hexec rfl (by decide) ⟨(byteAt_param1 _ _ _ _).trans (Nat.mod_eq_of_lt (by omega)), rfl⟩

theorem spdmChallenge_answers {slot hashType : Nat} (nonce : List Byte) (hslot : slot < 2) (hchain : chainOf s slot ≠ [])
    (htype : hashType ∈ [0, 1, 0xFF]) : SpdmAnswers s via (.spdmChallenge via slot hashType nonce) 0x03 fun msg t =>
      byteAt msg 2 = slot ∧ slice msg 4 64 = (Config.sha3_512 (chainOf s slot)).toList ∧ vget t.fw.spdmChal (spdmIx via) [0] = [] ∧
      (hashType = 0xFF → slice msg 100 64 = (Config.sha3_512 ([1, 2, 3, 4, 5, 6].flatMap (measurementBlock s))).toList) ∧
      (hashType = 0 → slice msg 100 2 = [0, 0]) := by
  have htypes : hashType % 256 = hashType := by
    simp only [List.mem_cons, List.not_mem_nil, or_false] at htype
    omega
  have hpassed : ¬(1 < slot ∨ (chainOf s slot).isEmpty = true ∨ hashType ∉ [0, 1, 0xFF]) := by
    rintro (h | h | h)
    · omega
    · exact hchain (List.isEmpty_iff.mp h)
    · exact h htype
  obtain ⟨sig, hsent⟩ : ∃ sig, spdmChallenge s via slot hashType (spdmMsg 0x83 slot hashType nonce) =
      spdmSend (s.draw.2.setFw { s.draw.2.fw with spdmChal := vmod s.draw.2.fw.spdmChal (spdmIx via) fun _ => [] }) via
        (spdmMsg 0x03 slot (2 ^ slot) (challengeBody s slot hashType ++ sig)) := ⟨_, if_neg hpassed⟩
  have hexec := exec_spdmChallenge (via := via) hserves slot hashType nonce
  rw [spdmAfter_of_ready hready, Nat.mod_eq_of_lt (by omega : slot < 16), htypes, hsent] at hexec
  refine spdmAnswers_of_send hexec rfl (by decide) ⟨(byteAt_param1 _ _ _ _).trans (Nat.mod_eq_of_lt (by omega)), ?_, ?_, ?_, ?_⟩
  · exact slice_challengeBody_hash s slot hashType sig
  · exact (congrArg (vget · _ _) (spdmSend_kept _ via _).2.2.1).trans (vget_vmod_self _ _ _ _ (spdmIx_lt via))
  · rintro rfl
    exact slice_challengeBody_summary s slot sig
  · rintro rfl
    exact slice_challengeBody_none s slot sig

theorem spdmChallenge_refused {slot hashType : Nat} (nonce : List Byte) (hslot : slot < 2)
    (hwrong : chainOf s slot = [] ∨ hashType % 256 ∉ [0, 1, 0xFF]) :
    SpdmAnswers s via (.spdmChallenge via slot hashType nonce) 0x7F fun msg _ => msg = [0x12, 0x7F, 1, 0] := by
  have hexec := exec_spdmChallenge (via := via) hserves slot hashType nonce
  rw [spdmAfter_of_ready hready, Nat.mod_eq_of_lt (by omega : slot < 16), spdmChallenge,
    if_pos (.inr (hwrong.imp_left List.isEmpty_iff.mpr))] at hexec
  exact spdmError_answers hexec

/-- Unsigned measurements of one block. -/
theorem spdmGetMeasurements_unsigned {attributes index : Nat} (slotId : Nat) (nonce : List Byte) (hone : 1 ≤ index) (hsix : index ≤ 6)
    (hplain : attributes.testBit 0 = false) : SpdmAnswers s via (.spdmGetMeasurements via attributes index slotId nonce) 0x60 fun msg _ =>
      byteAt msg 4 = 1 ∧ slice msg 15 64 = measurement s index := by
  have hexec := exec_spdmGetMeasurements (via := via) hserves attributes index slotId nonce
  rw [spdmAfter_of_ready hready, Nat.mod_eq_of_lt (by omega : index < 256), bit, hplain,
    spdmMeasurements_unsigned (by omega) (by omega)] at hexec
  exact spdmAnswers_of_send hexec rfl (by decide) ⟨rfl, (List.append_nil (measureBody s index)) ▸ slice_measureBody s index 0 []⟩

/-- Signed measurements of one block close the transcript. -/
theorem spdmGetMeasurements_signed {attributes index slotId : Nat} (nonce : List Byte) (hone : 1 ≤ index) (hsix : index ≤ 6)
    (hsigned : attributes.testBit 0 = true) (hslot : slotId < 2) (hchain : chainOf s slotId ≠ []) :
    SpdmAnswers s via (.spdmGetMeasurements via attributes index slotId nonce) 0x60 fun msg t => byteAt msg 3 = slotId ∧
      byteAt msg 4 = 1 ∧ slice msg 15 64 = measurement s index ∧ vget t.fw.spdmMeas (spdmIx via) [0] = [] := by
  have hexec := exec_spdmGetMeasurements (via := via) hserves attributes index slotId nonce
  obtain ⟨sig, hsent⟩ := spdmMeasurements_signed s via hone hsix hslot hchain
    (spdmMsg 0xE0 attributes index (nonce ++ [BitVec.ofNat 8 slotId]))
  rw [spdmAfter_of_ready hready, Nat.mod_eq_of_lt (by omega : index < 256), Nat.mod_eq_of_lt (by omega : slotId < 16), bit, hsigned,
    if_pos rfl, hsent] at hexec
  exact spdmAnswers_of_send hexec rfl (by decide) ⟨(byteAt_param2 _ _ _ _).trans (Nat.mod_eq_of_lt (by omega)), rfl,
    slice_measureBody s index slotId sig, (congrArg (vget · _ _) (spdmSend_kept _ via _).2.2.2).trans (vget_vmod_self _ _ _ _ (spdmIx_lt via))⟩

/-- Signed measurements need a chain. -/
theorem spdmGetMeasurements_refused {attributes index slotId : Nat} (nonce : List Byte) (hsigned : attributes.testBit 0 = true)
    (hslot : slotId < 2) (hchain : chainOf s slotId = []) :
    SpdmAnswers s via (.spdmGetMeasurements via attributes index slotId nonce) 0x7F fun msg _ => msg = [0x12, 0x7F, 1, 0] := by
  have hexec := exec_spdmGetMeasurements (via := via) hserves attributes index slotId nonce
  rw [spdmAfter_of_ready hready, Nat.mod_eq_of_lt (by omega : slotId < 16), bit, hsigned, spdmMeasurements,
    if_pos (.inr ⟨rfl, .inr (List.isEmpty_iff.mpr hchain)⟩)] at hexec
  exact spdmError_answers hexec

end

theorem spdmGetDigests_unready {s : State} {via : SpdmPort} {e : Nat} (hserves : spdmServes s = true) (hready : spdmReady s via = some e) :
    SpdmAnswers s via (.spdmGetDigests via) 0x7F fun msg _ => msg = [0x12, 0x7F, BitVec.ofNat 8 e, 0] :=
  spdmError_answers ((exec_spdmGetDigests hserves).trans (congrArg _ (spdmAfter_of_unready hready _)))

/-! ### Through Security Send and Receive (R335) -/

theorem exec_securitySend {s : State} {slot : Nat} {c : CmdSlot} (data : List Byte) (hcmd : adminCmd s slot 0x81 = some c)
    (hspdm : c.cmd.cdw10 / 2 ^ 24 % 256 = 0xE8) :
    exec (.securitySend slot data) s = .next (endAdmin (spdmRequest s (.nvme c.port) data) slot scOk) := by
  show execSecuritySend slot data s = _
  unfold execSecuritySend
  rw [hcmd]
  exact if_neg (not_not_intro hspdm)

/-- What Security Receive takes of the waiting message. -/
theorem securityReceive_ends {s : State} {slot : Nat} {c : CmdSlot} (hcmd : adminCmd s slot 0x82 = some c)
    (hspdm : c.cmd.cdw10 / 2 ^ 24 % 256 = 0xE8) : EndsAdmin (.securityReceive slot) s slot scOk 0 0 fun t =>
      t.outs = .hostData c.port c.cmd.cid ((vget s.fw.spdmWaiting (spdmIx (.nvme c.port)) []).take c.cmd.cdw11) :: s.outs ∧
      vget t.fw.spdmWaiting (spdmIx (.nvme c.port)) [0] = [] := by
  have hexec : exec (.securityReceive slot) s = execSecurityReceive slot s := rfl
  unfold execSecurityReceive at hexec
  rw [hcmd] at hexec
  dsimp only at hexec
  rw [if_neg (by omega), if_neg (by omega)] at hexec
  exact ⟨_, hexec, rfl, vget_vmod_self _ _ _ _ (spdmIx_lt _)⟩

/-- Settles O47: each answer of the responder, read off the message that it sends. -/
theorem spdmRequestsAreAnswered : Obligations.SpdmRequestsAreAnswered := by
  intro s via request nonce slot offset len index cmdSlot hashType attributes slotId req c
  refine ⟨fun hserves => ⟨spdmGetVersion_answers hserves, spdmGetCapabilities_answers hserves request,
      spdmNegotiateAlgorithms_answers hserves request, spdmUnsupported_answers hserves req⟩,
    fun hserves hready => ⟨spdmGetDigests_answers hserves hready, spdmGetCertificate_answers hserves hready,
      spdmChallenge_answers hserves hready nonce, spdmChallenge_refused hserves hready nonce,
      spdmGetMeasurements_unsigned hserves hready slotId nonce, spdmGetMeasurements_signed hserves hready nonce,
      fun _ _ => spdmGetMeasurements_refused hserves hready nonce⟩,
    fun hserves e hready => spdmGetDigests_unready hserves hready,
    fun hcmd hspdm => ⟨_, exec_securitySend request hcmd hspdm, rfl⟩, securityReceive_ends⟩

end Sys2Proof.Machine
end

section
/-!
PROOFS. The admin commands of queues, logs and features (R332 to R337, R340, R342, R350, R365, R411).
-/

namespace Sys2Proof.Machine

variable {s : State} {slot : Nat} {c : CmdSlot}

/-! ### Queues (R342) -/

theorem queueMax_eq (k : Controller) : queueMax k = 4096 := by
  unfold queueMax capRegister
  omega

/-- A completion queue of an identifier that is free and granted, of a size the controller offers and contiguous. -/
theorem exec_createIoCq (hcmd : adminCmd s slot 0x05 = some c) (hzero : c.cmd.cdw10 % 65536 ≠ 0)
    (hgranted : c.cmd.cdw10 % 65536 ≤ cqsGranted s c.port) (hnew : SMap.find (s.ctrl c.port).cqs (c.cmd.cdw10 % 65536) = none)
    (hlow : 2 ≤ c.cmd.cdw10 / 65536 % 65536 + 1) (hhigh : c.cmd.cdw10 / 65536 % 65536 + 1 ≤ 4096) (hcontiguous : bit c.cmd.cdw11 0 = true) :
    exec (.createIoCq slot) s = if msixVectors ≤ c.cmd.cdw11 / 65536 % 65536 then .next (endAdmin s slot scInvalidVector)
      else .next (endAdmin (s.modCtrl c.port fun k => { k with
        cqs := SMap.put k.cqs (c.cmd.cdw10 % 65536) ⟨c.cmd.cdw10 / 65536 % 65536 + 1, 0, 0, [], c.cmd.cdw11 / 65536 % 65536, bit c.cmd.cdw11 1, 0, 0⟩ }) slot scOk) := by
  show execCreateIoCq slot s = _
  have hid : ¬(c.cmd.cdw10 % 65536 = 0 ∨ cqsGranted s c.port < c.cmd.cdw10 % 65536 ∨
      (SMap.find (s.ctrl c.port).cqs (c.cmd.cdw10 % 65536)).isSome = true) := by
    rw [hnew]
    simp only [Option.isSome_none, Bool.false_eq_true, or_false]
    omega
  unfold execCreateIoCq
  rw [hcmd]
  dsimp only
  rw [if_neg hid, queueMax_eq, if_neg (by omega), hcontiguous, if_neg nofun]

theorem exec_createIoCq_ungranted (hcmd : adminCmd s slot 0x05 = some c) (hgranted : cqsGranted s c.port < c.cmd.cdw10 % 65536) :
    exec (.createIoCq slot) s = .next (endAdmin s slot scQueueIdInvalid) := by
  show execCreateIoCq slot s = _
  unfold execCreateIoCq
  rw [hcmd]
  exact if_pos (.inr (.inl hgranted))

theorem exec_createIoSq_ungranted (hcmd : adminCmd s slot 0x01 = some c) (hgranted : sqsGranted s c.port < c.cmd.cdw10 % 65536) :
    exec (.createIoSq slot) s = .next (endAdmin s slot scQueueIdInvalid) := by
  show execCreateIoSq slot s = _
  unfold execCreateIoSq
  rw [hcmd]
  exact if_pos (.inr (.inl hgranted))

/-- A submission queue of an identifier that is free and granted, on a completion queue that exists. -/
theorem exec_createIoSq (hcmd : adminCmd s slot 0x01 = some c) (hzero : c.cmd.cdw10 % 65536 ≠ 0)
    (hgranted : c.cmd.cdw10 % 65536 ≤ sqsGranted s c.port) (hnew : SMap.find (s.ctrl c.port).sqs (c.cmd.cdw10 % 65536) = none)
    (hcq : c.cmd.cdw11 / 65536 % 65536 ≠ 0) (hcqThere : (SMap.find (s.ctrl c.port).cqs (c.cmd.cdw11 / 65536 % 65536)).isSome = true)
    (hlow : 2 ≤ c.cmd.cdw10 / 65536 % 65536 + 1) (hhigh : c.cmd.cdw10 / 65536 % 65536 + 1 ≤ 4096) (hcontiguous : bit c.cmd.cdw11 0 = true) :
    exec (.createIoSq slot) s = .next (endAdmin (countQueues (s.modCtrl c.port fun k => { k with
        sqs := SMap.put k.sqs (c.cmd.cdw10 % 65536) ⟨c.cmd.cdw10 / 65536 % 65536 + 1, c.cmd.cdw11 / 65536 % 65536, 0, 0⟩ }) c.port) slot scOk) := by
  show execCreateIoSq slot s = _
  have hid : ¬(c.cmd.cdw10 % 65536 = 0 ∨ sqsGranted s c.port < c.cmd.cdw10 % 65536 ∨
      (SMap.find (s.ctrl c.port).sqs (c.cmd.cdw10 % 65536)).isSome = true) := by
    rw [hnew]
    simp only [Option.isSome_none, Bool.false_eq_true, or_false]
    omega
  have hthere : ¬(SMap.find (s.ctrl c.port).cqs (c.cmd.cdw11 / 65536 % 65536)).isNone = true := by
    rw [← Option.not_isSome, hcqThere]
    nofun
  unfold execCreateIoSq
  rw [hcmd]
  dsimp only
  rw [if_neg hid, if_neg hcq, if_neg hthere, queueMax_eq, if_neg (by omega), hcontiguous, if_neg nofun]

/-- The count of a port's I/O queues is that of its submission queues but the admin one. -/
theorem countQueues_num (s : State) (p : Port) :
    (countQueues s p).num (Obj.ioQueues (portNo p)) = (((countQueues s p).ctrl p).sqs.filter fun e => e.1 ≠ 0).length :=
  State.num_setNum_self _ _ _

theorem createIoSq_ends (hcmd : adminCmd s slot 0x01 = some c) (hzero : c.cmd.cdw10 % 65536 ≠ 0)
    (hgranted : c.cmd.cdw10 % 65536 ≤ sqsGranted s c.port) (hnew : SMap.find (s.ctrl c.port).sqs (c.cmd.cdw10 % 65536) = none)
    (hcq : c.cmd.cdw11 / 65536 % 65536 ≠ 0) (hcqThere : (SMap.find (s.ctrl c.port).cqs (c.cmd.cdw11 / 65536 % 65536)).isSome = true)
    (hlow : 2 ≤ c.cmd.cdw10 / 65536 % 65536 + 1) (hhigh : c.cmd.cdw10 / 65536 % 65536 + 1 ≤ 4096) (hcontiguous : bit c.cmd.cdw11 0 = true) :
    EndsAdmin (.createIoSq slot) s slot scOk 0 0 fun t =>
      SMap.find (t.ctrl c.port).sqs (c.cmd.cdw10 % 65536) = some ⟨c.cmd.cdw10 / 65536 % 65536 + 1, c.cmd.cdw11 / 65536 % 65536, 0, 0⟩ ∧
      t.num (Obj.ioQueues (portNo c.port)) = ((t.ctrl c.port).sqs.filter fun e => e.1 ≠ 0).length := by
  refine ⟨_, exec_createIoSq hcmd hzero hgranted hnew hcq hcqThere hlow hhigh hcontiguous, ?_, countQueues_num _ _⟩
  show SMap.find ((s.modCtrl c.port _).ctrl c.port).sqs (c.cmd.cdw10 % 65536) = _
  rw [ctrl_modCtrl]
  exact SMap.find_put_self _ _ _

theorem deleteIoCq_ends (hcmd : adminCmd s slot 0x04 = some c) (hzero : c.cmd.cdw10 % 65536 ≠ 0)
    (hthere : (SMap.find (s.ctrl c.port).cqs (c.cmd.cdw10 % 65536)).isSome = true)
    (hunused : ∀ e ∈ (s.ctrl c.port).sqs, e.2.cq ≠ c.cmd.cdw10 % 65536) :
    EndsAdmin (.deleteIoCq slot) s slot scOk 0 0 fun t => (t.ctrl c.port).cqs = SMap.erase (s.ctrl c.port).cqs (c.cmd.cdw10 % 65536) := by
  have hid : ¬(c.cmd.cdw10 % 65536 = 0 ∨ (SMap.find (s.ctrl c.port).cqs (c.cmd.cdw10 % 65536)).isNone = true) := by
    rw [← Option.not_isSome, hthere]
    simp [hzero]
  have hfree : ¬((s.ctrl c.port).sqs.any fun e => decide (e.2.cq = c.cmd.cdw10 % 65536)) = true := by
    simpa using fun a b h => hunused (a, b) h
  have hexec : exec (.deleteIoCq slot) s = execDeleteIoCq slot s := rfl
  unfold execDeleteIoCq at hexec
  rw [hcmd] at hexec
  dsimp only at hexec
  rw [if_neg hid, if_neg hfree] at hexec
  exact ⟨_, hexec, congrArg Controller.cqs (ctrl_modCtrl s c.port _)⟩

/-- A queue with no command of its own in a slot. -/
theorem deleteIoSq_ends (hcmd : adminCmd s slot 0x00 = some c) (hzero : c.cmd.cdw10 % 65536 ≠ 0)
    (hthere : (SMap.find (s.ctrl c.port).sqs (c.cmd.cdw10 % 65536)).isSome = true)
    (hidle : ∀ e ∈ s.host.slots, e.2.io = true → e.2.port = c.port → e.2.qid ≠ c.cmd.cdw10 % 65536) :
    EndsAdmin (.deleteIoSq slot) s slot scOk 0 0 fun t => (t.ctrl c.port).sqs = SMap.erase (s.ctrl c.port).sqs (c.cmd.cdw10 % 65536) ∧
      t.num (Obj.ioQueues (portNo c.port)) = ((t.ctrl c.port).sqs.filter fun e => e.1 ≠ 0).length := by
  have hid : ¬(c.cmd.cdw10 % 65536 = 0 ∨ (SMap.find (s.ctrl c.port).sqs (c.cmd.cdw10 % 65536)).isNone = true) := by
    rw [← Option.not_isSome, hthere]
    simp [hzero]
  have hnone : (s.host.slots.filter fun e => e.2.io && decide (e.2.port = c.port) && decide (e.2.qid = c.cmd.cdw10 % 65536)) = [] := by
    rw [List.filter_eq_nil_iff]
    intro e he hmine
    simp only [Bool.and_eq_true, decide_eq_true_eq] at hmine
    exact hidle e he hmine.1.1 hmine.1.2 hmine.2
  have hexec : exec (.deleteIoSq slot) s = execDeleteIoSq slot s := rfl
  unfold execDeleteIoSq at hexec
  rw [hcmd] at hexec
  dsimp only at hexec
  rw [if_neg hid, hnone] at hexec
  exact ⟨_, hexec, congrArg Controller.sqs (ctrl_modCtrl s c.port _), countQueues_num _ _⟩

/-! ### Logs (R335, R411) -/

/-- The pages that hold no list of their own to take from. -/
theorem exec_getLogPage (hcmd : adminCmd s slot 0x02 = some c) (hoff : (c.cmd.cdw12 + c.cmd.cdw13 * 2 ^ 32) % 4 = 0) :
    exec (.getLogPage slot) s =
    let lid := c.cmd.cdw10 % 256
    let len := 4 * (c.cmd.cdw10 / 65536 % 65536 + c.cmd.cdw11 % 65536 * 65536 + 1)
    let off := c.cmd.cdw12 + c.cmd.cdw13 * 2 ^ 32
    if lid = 0xD0 then .next (endData s slot c (slice (ledgerImage s) off len))
    else if lid = 0xD1 then .next (endData s slot c (slice (if normalMode s then healthLog s else List.replicate 1024 0) off len))
    else if lid = 0xD2 then
      match lostFor s c with
      | some l => .next (endData s slot c (slice (lostLog s l) off len))
      | none => .next (endAdmin s slot scInvalidNamespace)
    else match standardLog s c.port lid len with
      | some (d, s) => .next (endData (logTaken s c.port lid (bit c.cmd.cdw10 15)) slot c (slice d off len))
      | none => .next (endAdmin s slot scInvalidLogPage) := by
  show execGetLogPage slot s = _
  unfold execGetLogPage
  rw [hcmd]
  exact if_neg (not_not_intro hoff)

/-- A standard page that the device has. -/
theorem exec_getLogPage_standard (hcmd : adminCmd s slot 0x02 = some c) (hoff : (c.cmd.cdw12 + c.cmd.cdw13 * 2 ^ 32) % 4 = 0) {lid : Nat}
    (hlid : c.cmd.cdw10 % 256 = lid) (hstandard : lid < 0xD0) {d : List Byte}
    (hlog : ∀ len, standardLog s c.port lid len = some (d, s)) :
    exec (.getLogPage slot) s = .next (endData (logTaken s c.port lid (bit c.cmd.cdw10 15)) slot c (slice d
      (c.cmd.cdw12 + c.cmd.cdw13 * 2 ^ 32) (4 * (c.cmd.cdw10 / 65536 % 65536 + c.cmd.cdw11 % 65536 * 65536 + 1)))) := by
  rw [exec_getLogPage hcmd hoff]
  dsimp only
  rw [hlid, if_neg (by omega), if_neg (by omega), if_neg (by omega), hlog]

/-- What a page of the vendor's holds, and that of a page that the device does not have. -/
theorem getLogPage_vendor (hcmd : adminCmd s slot 0x02 = some c) (hoff : (c.cmd.cdw12 + c.cmd.cdw13 * 2 ^ 32) % 4 = 0) {off len : Nat}
    (hoffs : c.cmd.cdw12 + c.cmd.cdw13 * 2 ^ 32 = off) (hlen : 4 * (c.cmd.cdw10 / 65536 % 65536 + c.cmd.cdw11 % 65536 * 65536 + 1) = len) :
    (c.cmd.cdw10 % 256 = 0xD0 → exec (.getLogPage slot) s = .next (endData s slot c (slice (ledgerImage s) off len))) ∧
    (c.cmd.cdw10 % 256 = 0xD1 → normalMode s = true → exec (.getLogPage slot) s = .next (endData s slot c (slice (healthLog s) off len))) ∧
    (c.cmd.cdw10 % 256 = 0xD2 → normalMode s = true → c.cmd.nsid = 0xFFFFFFFF →
      exec (.getLogPage slot) s = .next (endData s slot c (slice (lostLog s s.layout.lost) off len))) ∧
    (c.cmd.cdw10 % 256 = 0xD3 → exec (.getLogPage slot) s = .next (endAdmin s slot scInvalidLogPage)) := by
  have hexec := exec_getLogPage hcmd hoff
  dsimp only at hexec
  rw [hoffs, hlen] at hexec
  refine ⟨fun hlid => ?_, fun hlid hnormal => ?_, fun hlid hnormal hall => ?_, fun hlid => ?_⟩
  · rw [hexec, if_pos hlid]
  · rw [hexec, if_neg (by omega), if_pos hlid, hnormal, if_pos rfl]
  · have hlost : lostFor s c = some s.layout.lost := by
      rw [lostFor, hnormal, if_neg nofun, if_pos (.inr hall)]
    rw [hexec, if_neg (by omega), if_neg (by omega), if_pos hlid, hlost]
  · rw [hexec, if_neg (by omega), if_neg (by omega), if_neg (by omega), hlid]
    rfl

/-- The list of changed namespaces is cleared by its page unless the command retains it. -/
theorem changedNs_logTaken (s : State) (p : Port) (keep : Bool) :
    ((logTaken s p 0x04 keep).ctrl p).changedNs = if keep then (s.ctrl p).changedNs else [] := by
  cases keep
  · exact congrArg Controller.changedNs (ctrl_modCtrl s p _)
  · rfl

/-- The page of changed namespaces. -/
theorem getLogPage_changed (hcmd : adminCmd s slot 0x02 = some c) (hoff : (c.cmd.cdw12 + c.cmd.cdw13 * 2 ^ 32) % 4 = 0)
    (hlid : c.cmd.cdw10 % 256 = 0x04) : EndsAdmin (.getLogPage slot) s slot scOk 0 0 fun t =>
      t.outs = .hostData c.port c.cmd.cid (slice (changedLog (s.ctrl c.port)) (c.cmd.cdw12 + c.cmd.cdw13 * 2 ^ 32)
        (4 * (c.cmd.cdw10 / 65536 % 65536 + c.cmd.cdw11 % 65536 * 65536 + 1))) :: s.outs ∧
      (bit c.cmd.cdw10 15 = false → (t.ctrl c.port).changedNs = []) ∧
      (bit c.cmd.cdw10 15 = true → (t.ctrl c.port).changedNs = (s.ctrl c.port).changedNs) := by
  refine ⟨_, exec_getLogPage_standard hcmd hoff hlid (by decide) fun _ => rfl, ?_, fun h => ?_, fun h => ?_⟩
  · cases bit c.cmd.cdw10 15 <;> rfl
  · exact (changedNs_logTaken s c.port _).trans (by rw [h]; rfl)
  · exact (changedNs_logTaken s c.port _).trans (by rw [h]; rfl)

/-- The page of reservation notices takes the first. -/
theorem getLogPage_reservation (hcmd : adminCmd s slot 0x02 = some c) (hoff : (c.cmd.cdw12 + c.cmd.cdw13 * 2 ^ 32) % 4 = 0)
    (hlid : c.cmd.cdw10 % 256 = 0x80) : EndsAdmin (.getLogPage slot) s slot scOk 0 0 fun t =>
      t.outs = .hostData c.port c.cmd.cid (slice (reservationLog (s.ctrl c.port)) (c.cmd.cdw12 + c.cmd.cdw13 * 2 ^ 32)
        (4 * (c.cmd.cdw10 / 65536 % 65536 + c.cmd.cdw11 % 65536 * 65536 + 1))) :: s.outs ∧
      (t.ctrl c.port).resNotes = (s.ctrl c.port).resNotes.drop 1 :=
  ⟨_, exec_getLogPage_standard hcmd hoff hlid (by decide) fun _ => rfl, rfl, congrArg Controller.resNotes (ctrl_modCtrl s c.port _)⟩

/-! ### Identify (R335) -/

theorem exec_identify (hcmd : adminCmd s slot 0x06 = some c) :
    (c.cmd.cdw10 % 256 = 1 → exec (.identify slot) s = .next (endData s slot c (identifyController s c.port))) ∧
    (c.cmd.cdw10 % 256 = 0 → ∀ ns, nsOf s c.cmd.nsid = some ns → attachedTo ns c.port = true →
      exec (.identify slot) s = .next (endData s slot c (identifyNamespace s ns))) ∧
    (c.cmd.cdw10 % 256 = 0 → nsOf s c.cmd.nsid = none → exec (.identify slot) s = .next (endAdmin s slot scInvalidNamespace)) := by
  have hexec : exec (.identify slot) s = execIdentify slot s := rfl
  unfold execIdentify at hexec
  rw [hcmd] at hexec
  dsimp only at hexec
  refine ⟨fun hcns => ?_, fun hcns ns hns hatt => ?_, fun hcns hns => ?_⟩
  · rw [hexec, hcns]
    rfl
  · rw [hexec, hcns, hns]
    exact congrArg (fun d => Host.Outcome.next (endData s slot c d)) (if_pos hatt)
  · rw [hexec, hcns, hns]
    rfl

/-! ### Features (R335, R337) -/

theorem exec_setFeatures (hcmd : adminCmd s slot 0x09 = some c) : exec (.setFeatures slot) s = .next (setFeatureCommand s slot c) := by
  show execSetFeatures slot s = _
  unfold execSetFeatures
  rw [hcmd]

theorem setFeatureCommand_unserved (h : fid c = 0x0C ∨ fid c = 0x0D) : setFeatureCommand s slot c = endAdmin s slot scInvalidField := by
  have hun : featuresServed.contains (fid c) = false := by
    rcases h with h | h <;> rw [h] <;> decide
  unfold setFeatureCommand
  rw [hun]
  rfl

theorem exec_getFeatures_unserved (hcmd : adminCmd s slot 0x0A = some c) (h : fid c = 0x0C ∨ fid c = 0x0D) :
    exec (.getFeatures slot) s = .next (endAdmin s slot scInvalidField) := by
  have hun : featuresServed.contains (fid c) = false := by
    rcases h with h | h <;> rw [h] <;> decide
  show execGetFeatures slot s = _
  unfold execGetFeatures
  rw [hcmd]
  dsimp only
  rw [hun]
  rfl

/-- A feature that the device serves is not saveable. -/
theorem setFeatureCommand_saved (hserved : fid c ∈ featuresServed) (hsave : bit c.cmd.cdw10 31 = true) :
    setFeatureCommand s slot c = endAdmin s slot scNotSaveable := by
  unfold setFeatureCommand
  rw [List.contains_iff_mem.mpr hserved, hsave]
  rfl

/-- A feature takes its value where the command gives one. -/
theorem setFeatureCommand_served (hserved : fid c ∈ featuresServed) (hsave : bit c.cmd.cdw10 31 = false) {k : Nat} (hfid : fid c = k) :
    setFeatureCommand s slot c = match (generalizing := false) k with
    | 0x02 => if 4 < c.cmd.cdw11 % 32 then endAdmin s slot scInvalidField else endAdmin (requestPower s (c.cmd.cdw11 % 32)) slot scOk
    | 0x05 => endAdmin (setFeature s c.port (featureKey c) (c.cmd.cdw11 % 2 ^ 17)) slot scOk
    | 0x06 => if s.host.strict then endAdmin (setFeature s c.port 0x06 (c.cmd.cdw11 % 2)) slot scOk else endAdmin s slot scInvalidField
    | 0x07 =>
      if c.cmd.cdw11 % 65536 = 65535 ∨ c.cmd.cdw11 / 65536 % 65536 = 65535 then endAdmin s slot scInvalidField
      else
        let g := min (c.cmd.cdw11 % 65536) 63 + min (c.cmd.cdw11 / 65536 % 65536) 63 * 65536
        endAdmin (setFeature s c.port 0x07 g) slot scOk g
    | 0x81 => endAdmin (s.modCtrl c.port fun k => { k with hostId := leNat (c.cmd.data.take 16) }) slot scOk
    | 0x83 => reservationDone s slot c (reservationOf s c.cmd.nsid) { reservationOf s c.cmd.nsid with ptpl := bit c.cmd.cdw11 0 }
    | _ => endAdmin (setFeature s c.port (featureKey c) (c.cmd.cdw11 % 2 ^ 32)) slot scOk := by
  subst hfid
  unfold setFeatureCommand
  rw [List.contains_iff_mem.mpr hserved, hsave]
  rfl

/-- What a feature reads after it was set. -/
theorem find_setFeature (s : State) (p : Port) (k v : Nat) : SMap.find ((setFeature s p k v).ctrl p).features k = some v :=
  (congrArg (fun x => SMap.find x.features k) (ctrl_modCtrl s p _)).trans (SMap.find_put_self _ _ _)

section
variable (hcmd : adminCmd s slot 0x09 = some c) (hsave : bit c.cmd.cdw10 31 = false)
include hcmd hsave

theorem setFeatures_queues (hfid : fid c = 0x07) (hsq : c.cmd.cdw11 % 65536 ≠ 65535) (hcq : c.cmd.cdw11 / 65536 % 65536 ≠ 65535) :
    EndsAdmin (.setFeatures slot) s slot scOk (min (c.cmd.cdw11 % 65536) 63 + min (c.cmd.cdw11 / 65536 % 65536) 63 * 65536) 0 fun t =>
      SMap.find (t.ctrl c.port).features 7 = some (min (c.cmd.cdw11 % 65536) 63 + min (c.cmd.cdw11 / 65536 % 65536) 63 * 65536) :=
  ⟨_, (exec_setFeatures hcmd).trans (congrArg _ ((setFeatureCommand_served (hfid ▸ by decide) hsave hfid).trans
    (if_neg (not_or_intro hsq hcq)))), find_setFeature _ _ _ _⟩

theorem setFeatures_plain {k : Nat} (hk : k = 0x0B ∨ k = 0x08) (hfid : fid c = k) :
    EndsAdmin (.setFeatures slot) s slot scOk 0 0 fun t => SMap.find (t.ctrl c.port).features k = some (c.cmd.cdw11 % 2 ^ 32) := by
  have hkey : featureKey c = k := by
    unfold featureKey
    rw [hfid]
    rcases hk with rfl | rfl <;> rfl
  have hset : setFeatureCommand s slot c = endAdmin (setFeature s c.port k (c.cmd.cdw11 % 2 ^ 32)) slot scOk := by
    rw [setFeatureCommand_served (by rw [hfid]; rcases hk with rfl | rfl <;> decide) hsave hfid, hkey]
    rcases hk with rfl | rfl <;> rfl
  exact ⟨_, (exec_setFeatures hcmd).trans (congrArg _ hset), find_setFeature _ _ _ _⟩

theorem setFeatures_hostId (hfid : fid c = 0x81) :
    EndsAdmin (.setFeatures slot) s slot scOk 0 0 fun t => (t.ctrl c.port).hostId = leNat (c.cmd.data.take 16) :=
  ⟨_, (exec_setFeatures hcmd).trans (congrArg _ (setFeatureCommand_served (hfid ▸ by decide) hsave hfid)),
    congrArg Controller.hostId (ctrl_modCtrl s c.port _)⟩

/-- The power state that a host asks for, but none below POWER_CAP. -/
theorem setFeatures_power (hfid : fid c = 0x02) (hstate : c.cmd.cdw11 % 32 ≤ 4) :
    EndsAdmin (.setFeaturesPowerManagement slot) s slot scOk 0 0 fun t =>
      t.num Obj.powerState = max (c.cmd.cdw11 % 32) (s.num Obj.powerCap) ∧
      t.host.psEntry = some (max (c.cmd.cdw11 % 32) (s.num Obj.powerCap)) := by
  have hexec : exec (.setFeaturesPowerManagement slot) s = .next (setFeatureCommand s slot c) := by
    show execSetFeaturesPowerManagement slot s = _
    unfold execSetFeaturesPowerManagement
    rw [hcmd]
    exact if_pos hfid
  obtain ⟨hps, hentry, -⟩ := enterPower_effect s (max (c.cmd.cdw11 % 32) (s.num Obj.powerCap))
  exact ⟨_, hexec.trans (congrArg _ ((setFeatureCommand_served (hfid ▸ by decide) hsave hfid).trans (if_neg (by omega)))),
    hps.trans (max_eq_left (le_max_right _ _)), hentry⟩

theorem setFeatures_errorRecovery (hfid : fid c = 0x05) : EndsAdmin (.setFeaturesErrorRecovery slot) s slot scOk 0 0 fun t =>
    errorRecovery t c.port c.cmd.nsid = c.cmd.cdw11 % 2 ^ 17 := by
  have hexec : exec (.setFeaturesErrorRecovery slot) s = .next (setFeatureCommand s slot c) := by
    show execSetFeaturesErrorRecovery slot s = _
    unfold execSetFeaturesErrorRecovery
    rw [hcmd]
    exact if_pos hfid
  have hkey : featureKey c = 0x05 + 256 * c.cmd.nsid := by
    rw [featureKey, hfid]
    rfl
  refine ⟨_, hexec.trans (congrArg _ (setFeatureCommand_served (hfid ▸ by decide) hsave hfid)), ?_⟩
  show (SMap.find ((setFeature s c.port (featureKey c) _).ctrl c.port).features (0x05 + 256 * c.cmd.nsid)).getD 0 = _
  rw [hkey, find_setFeature]
  rfl

theorem exec_setFeaturesVwc (hfid : fid c = 0x06) : exec (.setFeaturesVwc slot) s =
    .next (if s.host.strict then endAdmin (setFeature s c.port 0x06 (c.cmd.cdw11 % 2)) slot scOk else endAdmin s slot scInvalidField) := by
  have hexec : exec (.setFeaturesVwc slot) s = .next (setFeatureCommand s slot c) := by
    show execSetFeaturesVwc slot s = _
    unfold execSetFeaturesVwc
    rw [hcmd]
    exact if_pos hfid
  exact hexec.trans (congrArg _ (setFeatureCommand_served (hfid ▸ by decide) hsave hfid))

theorem setFeatures_strict (hfid : fid c = 0x06) (hstrict : s.host.strict = true) : EndsAdmin (.setFeaturesVwc slot) s slot scOk 0 0 fun t =>
    SMap.find (t.ctrl c.port).features 6 = some (c.cmd.cdw11 % 2) ∧ wce t c.port = decide (c.cmd.cdw11 % 2 = 1) := by
  refine ⟨_, (exec_setFeaturesVwc hcmd hsave hfid).trans (congrArg _ (if_pos hstrict)), find_setFeature _ _ _ _, ?_⟩
  have hhost : (setFeature s c.port 0x06 (c.cmd.cdw11 % 2)).host.strict = true := hstrict
  rw [wce, hhost, SMap.findD, find_setFeature]
  simp

end

theorem exec_getFeatures_current (hcmd : adminCmd s slot 0x0A = some c) (hcurrent : fld c.cmd.cdw10 10 8 = 0) {k : Nat} (hfid : fid c = k)
    (hk : k = 0x02 ∨ k = 0x0B) : exec (.getFeatures slot) s = .next (endAdmin s slot scOk (featureValue s c false)) := by
  have hserved : featuresServed.contains (fid c) = true := by
    rw [hfid]
    rcases hk with rfl | rfl <;> decide
  show execGetFeatures slot s = _
  unfold execGetFeatures
  rw [hcmd]
  dsimp only
  rw [hserved, hcurrent, if_neg nofun, if_neg (by omega)]
  rfl

/-- Settles O49: each admin command, with the check that it passes or fails. -/
theorem adminCommandsServeQueuesAndFeatures : Obligations.AdminCommandsServeQueuesAndFeatures := by
  intro s slot c ns
  refine ⟨fun hcmd hz hg hn hl hh hc => ⟨fun hvec => ?_, fun hvec => ?_⟩, exec_createIoCq_ungranted, exec_createIoSq_ungranted, createIoSq_ends,
    deleteIoCq_ends, deleteIoSq_ends, fun hcmd hoff => ?_, fun hcmd => ?_, fun hcmd h => ?_, exec_getFeatures_unserved,
    fun hcmd hsave hserved => ?_, fun hcmd hsave => ?_, fun hcmd hcur hfid => ?_, fun hcmd hcur hfid => ?_⟩
  · exact ⟨_, (exec_createIoCq hcmd hz hg hn hl hh hc).trans (if_neg (Nat.not_le.mpr hvec)),
      (congrArg (fun k => SMap.find k.cqs (c.cmd.cdw10 % 65536)) (ctrl_modCtrl s c.port _)).trans (SMap.find_put_self _ _ _), rfl⟩
  · exact (exec_createIoCq hcmd hz hg hn hl hh hc).trans (if_pos hvec)
  · obtain ⟨hledger, hhealth, hlost, hunknown⟩ := getLogPage_vendor hcmd hoff rfl rfl
    exact ⟨hledger, hhealth, hlost, fun hlid => exec_getLogPage_standard hcmd hoff hlid (by decide) fun _ => rfl,
      fun hlid => exec_getLogPage_standard hcmd hoff hlid (by decide) fun _ => rfl, getLogPage_changed hcmd hoff,
      getLogPage_reservation hcmd hoff, hunknown⟩
  · obtain ⟨hctrl, hns, hnone⟩ := exec_identify hcmd
    exact ⟨hctrl, fun hcns => hns hcns ns, hnone⟩
  · exact (exec_setFeatures hcmd).trans (congrArg _ (setFeatureCommand_unserved h))
  · exact (exec_setFeatures hcmd).trans (congrArg _ (setFeatureCommand_saved hserved hsave))
  · exact ⟨setFeatures_queues hcmd hsave, setFeatures_plain hcmd hsave (.inl rfl), setFeatures_plain hcmd hsave (.inr rfl),
      setFeatures_hostId hcmd hsave, setFeatures_power hcmd hsave, setFeatures_errorRecovery hcmd hsave, setFeatures_strict hcmd hsave,
      fun hfid hloose => (exec_setFeaturesVwc hcmd hsave hfid).trans (congrArg _ (if_neg (ne_true_of_eq_false hloose)))⟩
  · have hvalue : featureValue s c false = s.num Obj.powerState := by
      rw [featureValue, hfid]
      rfl
    exact (exec_getFeatures_current hcmd hcur hfid (.inl rfl)).trans (by rw [hvalue])
  · have hvalue : featureValue s c false = SMap.findD (s.ctrl c.port).features 0x0B 0 := by
      rw [featureValue, featureKey, hfid]
      rfl
    exact (exec_getFeatures_current hcmd hcur hfid (.inr rfl)).trans (by rw [hvalue])

end Sys2Proof.Machine
end

section
/-!
PROOFS. Activations without reset and bundles (R113 to R117, R151, R362).
-/

namespace Sys2Proof.Machine

/-! ### What posting completions and notices leaves (R344) -/

/-- A controller without its completion queues and its event lists. -/
def Controller.besideQueues (k : Controller) : Controller := { k with cqs := [], aers := [], notices := [] }

/-- Of the host interface only completion queues, event lists and command slots differ. -/
def OnlyQueues (s t : State) : Prop :=
  (∀ p, (t.ctrl p).besideQueues = (s.ctrl p).besideQueues) ∧ { t.host with ctrls := s.host.ctrls, slots := s.host.slots } = s.host

namespace OnlyQueues

theorem refl (s : State) : OnlyQueues s s := ⟨fun _ => rfl, rfl⟩

theorem trans {s t u : State} (h : OnlyQueues s t) (g : OnlyQueues t u) : OnlyQueues s u := by
  refine ⟨fun p => (g.1 p).trans (h.1 p), ?_⟩
  have hside := congrArg (fun x : HostIf => { x with ctrls := s.host.ctrls, slots := s.host.slots }) g.2
  exact hside.trans h.2

/-- A change of queues only. -/
theorem modCtrl {s t : State} (h : OnlyQueues s t) (p : Port) {f : Controller → Controller}
    (hf : (f (t.ctrl p)).besideQueues = (t.ctrl p).besideQueues) : OnlyQueues s (t.modCtrl p f) := by
  refine h.trans ⟨fun q => ?_, rfl⟩
  by_cases hq : p = q
  · subst hq
    rw [ctrl_modCtrl]
    exact hf
  · rw [ctrl_modCtrl_other _ f hq]

/-- A change of another part. -/
theorem congr {s t u : State} (h : OnlyQueues s t) (hhost : u.host = t.host) : OnlyQueues s u := by
  refine ⟨fun p => ?_, ?_⟩
  · rw [State.ctrl, hhost]
    exact h.1 p
  · rw [hhost]
    exact h.2

theorem emit {s t : State} (h : OnlyQueues s t) (o : Out) : OnlyQueues s (t.emit o) := h.congr rfl

theorem bump {s t : State} (h : OnlyQueues s t) (k : Key) : OnlyQueues s (t.bump k) := h.congr (State.host_bump t k)

theorem pp {s t : State} (h : OnlyQueues s t) (p : Port) : (t.ctrl p).pp = (s.ctrl p).pp :=
  (congrArg Controller.pp (h.1 p) : (t.ctrl p).besideQueues.pp = (s.ctrl p).besideQueues.pp)

end OnlyQueues

theorem freeSlot_onlyQueues {s t : State} (h : OnlyQueues s t) (n : Nat) : OnlyQueues s (freeSlot t n) := by
  refine (h.trans (u := t.setHost { t.host with slots := SMap.erase t.host.slots n }) ⟨fun _ => rfl, rfl⟩).congr ?_
  exact within_iff.mp (@countSlots_frame [.objs] _ (touch_of rfl) _ (.refl _ _)) .host (by decide)

theorem signal_onlyQueues {s t : State} (h : OnlyQueues s t) (p : Port) (qid : Nat) (q : Cq) : OnlyQueues s (signal t p qid q) := by
  have hput : ∀ q : Cq, OnlyQueues s (t.modCtrl p fun k => { k with cqs := SMap.put k.cqs qid q }) := fun _ => h.modCtrl p rfl
  unfold signal
  dsimp only
  generalize (if q.held = 0 then t.tick else q.heldTick) = start
  split
  · exact h
  · split
    · exact (hput _).emit _
    · split
      · exact (hput _).emit _
      · exact hput _

theorem postNow_onlyQueues {s t : State} (h : OnlyQueues s t) (p : Port) (qid : Nat) (q : Cq) (c : Completion) :
    OnlyQueues s (postNow t p qid q c) := by
  have hput : ∀ q : Cq, OnlyQueues s (t.modCtrl p fun k => { k with cqs := SMap.put k.cqs qid q }) := fun _ => h.modCtrl p rfl
  have hsignal := signal_onlyQueues (((hput { q with tail := (q.tail + 1) % q.size }).emit
    (.completion p qid c.cid c.sct c.sc c.dw0 c.dw1)).bump (Obj.commands (portNo p))) p qid { q with tail := (q.tail + 1) % q.size }
  unfold postNow
  dsimp only
  split
  · exact freeSlot_onlyQueues hsignal _
  · exact hsignal

theorem postCompletion_onlyQueues {s t : State} (h : OnlyQueues s t) (p : Port) (qid : Nat) (c : Completion) :
    OnlyQueues s (postCompletion t p qid c) := by
  unfold postCompletion
  split
  · split
    · exact freeSlot_onlyQueues h _
    · exact h
  · split
    · exact h.modCtrl p rfl
    · exact postNow_onlyQueues h p qid _ c

theorem postWaiting_onlyQueues (fuel : Nat) {s t : State} (h : OnlyQueues s t) (p : Port) (qid : Nat) :
    OnlyQueues s (postWaiting fuel t p qid) := by
  induction fuel generalizing t with
  | zero => exact h
  | succ fuel ih =>
    unfold postWaiting
    split
    · exact h
    · split
      · split
        · exact h
        · exact ih (postNow_onlyQueues h p qid _ _)
      · exact h

theorem giveNotices_onlyQueues (fuel : Nat) {s t : State} (h : OnlyQueues s t) (p : Port) : OnlyQueues s (giveNotices fuel t p) := by
  induction fuel generalizing t with
  | zero => exact h
  | succ fuel ih =>
    unfold giveNotices
    split
    · next cid aers page notices _ _ =>
      have htaken : OnlyQueues s (t.modCtrl p fun k => { k with aers := aers, notices := notices }) := h.modCtrl p rfl
      exact ih (postCompletion_onlyQueues (htaken.emit _) p 0 _)
    · exact h

theorem postWaiting_offLog {k : Key} {v : Val} (hk : OffLog k) (fuel : Nat) {t : State} (p : Port) (qid : Nat) (h : At k v t) :
    At k v (postWaiting fuel t p qid) := by
  induction fuel generalizing t with
  | zero => exact h
  | succ fuel ih =>
    unfold postWaiting
    split
    · exact h
    · split
      · split
        · exact h
        · exact ih (postNow_offLog hk _ _ _ _ _ h)
      · exact h

/-! ### The freeze begins (R114) -/

/-- At one port: processing is paused, and a host that asked for the notice gets it. -/
def paused (s : State) (p : Port) : State :=
  let s := s.modCtrl p fun k => { k with pp := true }
  if (s.ctrl p).en && bit (SMap.findD (s.ctrl p).features 0x0B 0) 9 then
    giveNotices 8 (s.modCtrl p fun k => { k with notices := if k.notices.contains 3 then k.notices else k.notices ++ [3] }) p
  else s

theorem activationNotice_eq (s : State) : activationNotice s = paused (paused s .a) .b := rfl

theorem paused_onlyQueues (s : State) (p : Port) : OnlyQueues (s.modCtrl p fun k => { k with pp := true }) (paused s p) := by
  have href := OnlyQueues.refl (s.modCtrl p fun k => { k with pp := true })
  unfold paused
  dsimp only
  split
  · exact giveNotices_onlyQueues 8 (href.modCtrl p rfl) p
  · exact href

theorem paused_pp (s : State) (p : Port) : ((paused s p).ctrl p).pp = true :=
  ((paused_onlyQueues s p).pp p).trans (congrArg Controller.pp (ctrl_modCtrl s p _))

theorem paused_pp_other (s : State) {p q : Port} (h : p ≠ q) : ((paused s p).ctrl q).pp = (s.ctrl q).pp :=
  ((paused_onlyQueues s p).pp q).trans (congrArg Controller.pp (ctrl_modCtrl_other s _ h))

theorem paused_offLog {k : Key} {v : Val} (hk : OffLog k) {t : State} (p : Port) (h : At k v t) : At k v (paused t p) := by
  unfold paused
  dsimp only
  split
  · exact giveNotices_offLog hk 8 _ p h
  · exact h

theorem activationNotice_offLog {k : Key} {v : Val} (hk : OffLog k) {t : State} (h : At k v t) : At k v (activationNotice t) :=
  paused_offLog hk .b (paused_offLog hk .a h)

theorem activationNotice_pp (s : State) (p : Port) : ((activationNotice s).ctrl p).pp = true := by
  rw [activationNotice_eq]
  cases p
  · exact (paused_pp_other _ (by decide)).trans (paused_pp s .a)
  · exact paused_pp _ .b

/-- A change of every actuator. -/
theorem actOf_eachAct (s : State) (f : Nat → Actuator → Actuator) (i : Fin 4) :
    (s.each [0, 1, 2, 3] fun s a => s.modAct a (f a)).actOf i = f i (s.actOf i) := by
  show ((((s.modAct 0 (f 0)).modAct 1 (f 1)).modAct 2 (f 2)).modAct 3 (f 3)).actOf i = _
  fin_cases i
  · exact (actOf_modAct_other _ _ (by decide)).trans ((actOf_modAct_other _ _ (by decide)).trans ((actOf_modAct_other _ _ (by decide)).trans
      (actOf_modAct _ _ (by decide))))
  · exact (actOf_modAct_other _ _ (by decide)).trans ((actOf_modAct_other _ _ (by decide)).trans ((actOf_modAct _ _ (by decide)).trans
      (congrArg _ (actOf_modAct_other _ _ (by decide)))))
  · exact (actOf_modAct_other _ _ (by decide)).trans ((actOf_modAct _ _ (by decide)).trans (congrArg _ ((actOf_modAct_other _ _ (by decide)).trans
      (actOf_modAct_other _ _ (by decide)))))
  · exact (actOf_modAct _ _ (by decide)).trans (congrArg _ ((actOf_modAct_other _ _ (by decide)).trans ((actOf_modAct_other _ _ (by decide)).trans
      (actOf_modAct_other _ _ (by decide)))))

theorem loadStores_banksHeld (s : State) (slot bank : Nat) (act : Fin 4) : bit ((loadStores s slot bank).actOf act).banksHeld bank = true := by
  unfold loadStores
  dsimp only
  rw [actOf_eachAct s (fun a x => { x with
    clauses := vmod x.clauses bank fun _ => wordsOf (slice (sectionData (imageSlot s slot).bytes (imageSections (imageSlot s slot).bytes) 4)
      (16384 * a) 16384) 4 4096
    phrases := vmod x.phrases bank fun _ => wordsOf (slice (sectionData (imageSlot s slot).bytes (imageSections (imageSlot s slot).bytes) 5)
      (32768 * a) 32768) 32 1024
    banksHeld := setBit x.banksHeld bank }) act]
  exact testBit_setBit _ _

/-- What holds once the notices have gone out and the stores are loaded. -/
theorem freezing_of {s v w : State} {x : Activation} {act : Nat} (hfw : w.fw = { s.fw with activation := some { x with staged := true }, frozen := true })
    (hhost : w.host = v.host) (hobjs : w.objs = v.objs) (hrunning : At Obj.runningSlot (s.obj Obj.runningSlot) v)
    (hpp : ∀ p, (v.ctrl p).pp = true) (hbanks : bit (w.actOf act).banksHeld x.bank = true) :
    let t := w.setNum Obj.activationState 2
    t.fw.frozen = true ∧ t.fw.activation = some { x with staged := true } ∧ t.num Obj.activationState = 2 ∧
    bit (t.actOf act).banksHeld x.bank = true ∧ t.num Obj.runningSlot = s.num Obj.runningSlot ∧ ∀ q : Port, (t.ctrl q).pp = true := by
  refine ⟨congrArg Firmware.frozen hfw, congrArg Firmware.activation hfw, State.num_setNum_self _ _ _, hbanks, ?_, fun q => ?_⟩
  · exact (State.num_setNum_other _ _ (by decide)).trans ((State.num_congr hobjs _).trans hrunning.num_eq)
  · exact (congrArg (fun h : HostIf => (vget h.ctrls (portNo q) Controller.reset).pp) hhost).trans (hpp q)

section
variable {s : State} {x : Activation} (hact : s.fw.activation = some x)
include hact

theorem exec_activationStaged (hstaged : x.staged = false) (haccepted : slotAccepted s x.slot = true) :
    exec .activationStaged s = .next ((loadStores ((activationNotice s).setFw { s.fw with activation := some { x with staged := true }, frozen := true })
      x.slot x.bank).setNum Obj.activationState 2) := by
  show execActivationStaged s = _
  unfold execActivationStaged
  rw [hact]
  dsimp only
  rw [hstaged, haccepted, if_neg nofun, if_neg nofun]

theorem activationStaged_freezes (hstaged : x.staged = false) (haccepted : slotAccepted s x.slot = true) (act : Fin 4) :
    Completes .activationStaged s fun t =>
      t.fw.frozen = true ∧ t.fw.activation = some { x with staged := true } ∧ t.num Obj.activationState = 2 ∧
      bit (t.actOf act).banksHeld x.bank = true ∧ t.num Obj.runningSlot = s.num Obj.runningSlot ∧ ∀ q : Port, (t.ctrl q).pp = true := by
  obtain ⟨u, hu⟩ : ∃ u, u = (activationNotice s).setFw { s.fw with activation := some { x with staged := true }, frozen := true } := ⟨_, rfl⟩
  have hexec := exec_activationStaged hact hstaged haccepted
  have hparts := within_iff.mp (@loadStores_frame [.acts] u (touch_of rfl) u x.slot x.bank (.refl _ u))
  have hfw : (loadStores u x.slot x.bank).fw = u.fw := hparts .fw (by decide)
  have hhost : (loadStores u x.slot x.bank).host = u.host := hparts .host (by decide)
  have hobjs : (loadStores u x.slot x.bank).objs = u.objs := hparts .objs (by decide)
  rw [← hu] at hexec
  exact ⟨_, hexec, freezing_of (hfw.trans (by rw [hu]; rfl)) (hhost.trans (by rw [hu]; rfl)) (hobjs.trans (by rw [hu]; rfl))
    (activationNotice_offLog (by unfold OffLog; decide) (At.self s)) (activationNotice_pp s) (loadStores_banksHeld u x.slot x.bank act)⟩

/-- An image that is no longer accepted ends the activation (R113). -/
theorem exec_activationStaged_refused (hstaged : x.staged = false) (haccepted : slotAccepted s x.slot = false) :
    exec .activationStaged s = .next (
      let u := ((s.setFw { s.fw with activation := none }).setNum Obj.activationState 0).raise 64
      match x.cmdSlot with
      | some n => endAdmin u n scFirmwareImage
      | none => u) := by
  show execActivationStaged s = _
  unfold execActivationStaged
  rw [hact]
  dsimp only
  rw [hstaged, haccepted, if_neg nofun, Bool.not_false, if_pos rfl]
  cases x.cmdSlot <;> rfl

end

/-! ### The freeze ends (R114) -/

/-- An activation whose freeze and bank switch are both over is at its end (R116). -/
theorem settleActivation_fw {t : State} {x : Activation} (h : t.fw.activation = some x) :
    (settleActivation t).fw = { t.fw with activation := if x.unfrozen && x.switched then none else some x } := by
  unfold settleActivation
  rw [h]
  by_cases hu : x.unfrozen = true
  · by_cases hs : x.switched = true
    · simp [hu, hs]
    · simp [hu, hs, ← h]
  · simp [hu, ← h]

/-- What an activation that goes on does not report stays. -/
theorem settleActivation_num {t : State} {k : Key} (hk : k ≠ Obj.activationState) : (settleActivation t).num k = t.num k :=
  At.num_eq (@settleActivation_at k (t.obj k) ⟨hk⟩ t (At.self t))

/-- The new code runs: its slot is in force on its bank, and processing goes on. -/
def resumed (s : State) (x : Activation) (us : Nat) : State :=
  let s := bankTo (imageRuns (setControl s x.slot (pendingSlot s)) x.slot) x.bank
  let s := (activationResumes s).setFw { s.fw with activation := some { x with unfrozen := true }, frozen := false, heldResets := [] }
  settleActivation (s.setNum Obj.lastFreezeUs (us % 2 ^ 32))

/-- Firmware whose cores run another image. -/
def Firmware.running (fw : Firmware) (img : List Byte) : Firmware := { fw with coreImage := img }

/-- Firmware whose freeze is over: an activation that has switched its banks is at its end. -/
def Firmware.thawed (fw : Firmware) (x : Activation) : Firmware :=
  { fw with frozen := false, heldResets := [], activation := if x.switched then none else some { x with unfrozen := true } }

/-- The completions that waited for the freeze's end are posted (R114). -/
def served (s : State) : State := s.each [Port.a, Port.b] fun s p => s.each (s.ctrl p).cqs fun s q => postWaiting 1024 s p q.1

theorem served_onlyQueues (s : State) : OnlyQueues s (served s) :=
  State.each_inv (.refl s) fun _ p _ ht => State.each_inv ht fun _ q _ hu => postWaiting_onlyQueues 1024 hu p q.1

theorem served_num {k : Key} (hk : OffLog k) (s : State) : (served s).num k = s.num k :=
  At.num_eq (State.each_inv (At.self s) fun _ p _ ht => State.each_inv ht fun _ q _ hu => postWaiting_offLog hk 1024 p q.1 hu)

theorem served_fw (s : State) : (served s).fw = s.fw := by
  have hframe : Within [.objs, .host, .outs, .free] s (served s) := State.each_inv (.refl _ s) fun t p _ ht => State.each_inv ht fun u q _ hu =>
    @postWaiting_frame [.objs, .host, .outs, .free] s (touch_of rfl) (touch_of rfl) (touch_of rfl) (touch_of rfl) 1024 u p q.1 hu
  exact within_iff.mp hframe .fw (by decide)

theorem exec_activationFreezeEnd {s : State} {x : Activation} (hact : s.fw.activation = some x) (hstaged : x.staged = true)
    (hfrozen : x.unfrozen = false) (hheld : s.fw.heldResets = []) (us : Nat) : exec (.activationFreezeEnd us) s =
      .next (match x.cmdSlot with
        | some n => endAdmin (served (resumed s x us)) n scOk
        | none => served (resumed s x us)) := by
  show execActivationFreezeEnd us s = _
  unfold execActivationFreezeEnd
  rw [hact]
  dsimp only
  rw [if_neg (by rw [hstaged, hfrozen]; nofun), hheld]
  generalize hw : resumed s x us = w
  unfold resumed at hw
  dsimp only at hw
  have hnone : ∀ (t : State) (f : State → Port → State), t.each [] f = t := fun _ _ => rfl
  rw [hw, hnone]
  unfold served
  generalize x.cmdSlot = c
  cases c <;> rfl

/-- Of the firmware's state only the running image differs, and the running slot is reported. -/
theorem imageRuns_effect (s : State) (slot : Nat) : (imageRuns s slot).fw = s.fw.running (imageSlot s slot).bytes ∧
    (imageRuns s slot).num Obj.runningSlot = slot := by
  have hslot : ∀ n : Nat, ((s.setNum Obj.runningSlot slot).setNum Obj.dictLevel n).num Obj.runningSlot = slot := fun n =>
    (State.num_setNum_other _ _ (by decide)).trans (State.num_setNum_self _ _ _)
  unfold imageRuns
  dsimp only
  split
  · next h => exact ⟨by rw [Firmware.running, ← h]; rfl, hslot _⟩
  · exact ⟨rfl, hslot _⟩

/-- What a step establishes at one place of a list and every step keeps holds at its end. -/
theorem each_sets {α : Type} {P : State → Prop} {l : List α} {a : α} (f : State → α → State) (hself : ∀ t, P (f t a))
    (hkeep : ∀ t b, P t → P (f t b)) (hl : a ∈ l) (s : State) : P (s.each l f) := by
  induction l generalizing s with
  | nil => exact absurd hl List.not_mem_nil
  | cons b l ih =>
    by_cases hrest : a ∈ l
    · exact ih hrest (f s b)
    · have hb : a = b := (List.mem_cons.mp hl).resolve_right hrest
      subst hb
      exact State.each_inv (P := P) (s := f s a) (hself s) fun t x _ ht => hkeep t x ht

/-- A player's bank is the new one. -/
theorem bankTo_num (s : State) (bank : Nat) (p : Fin 8) : (bankTo s bank).num (Obj.bankCurrent p) = bank := by
  unfold bankTo
  exact each_sets (P := fun t => t.num (Obj.bankCurrent p) = bank) (fun t q => State.setNum t (Obj.bankCurrent q) bank) (fun t => State.num_setNum_self t _ _)
    (fun t q ht => by
      by_cases hq : Obj.bankCurrent p = Obj.bankCurrent q
      · rw [hq]
        exact State.num_setNum_self t _ _
      · exact (State.num_setNum_other _ _ hq).trans ht) (List.mem_range.mpr p.isLt) s

theorem activationResumes_pp (s : State) (p : Port) : ((activationResumes s).ctrl p).pp = false := by
  cases p
  · have hother : Port.b ≠ Port.a := by decide
    exact (congrArg Controller.pp (ctrl_modCtrl_other (State.modCtrl s .a _) _ hother)).trans (congrArg Controller.pp (ctrl_modCtrl s .a _))
  · exact congrArg Controller.pp (ctrl_modCtrl (State.modCtrl s .a _) .b _)

theorem settleActivation_state {t : State} {x : Activation} (h : t.fw.activation = some { x with unfrozen := true }) :
    (settleActivation t).num Obj.activationState = if x.switched then 0 else 3 := by
  unfold settleActivation
  rw [h]
  dsimp only
  cases x.switched
  · exact State.num_setNum_self _ _ _
  · exact State.num_setNum_self _ _ _

theorem settleActivation_host (t : State) : (settleActivation t).host = t.host :=
  within_iff.mp (@settleActivation_frame [.objs, .fw] t (touch_of rfl) (touch_of rfl) t (.refl _ t)) .host (by decide)

/-- From the state in which the new code's image, slot and bank are in force. -/
theorem resumed_of {w : State} {x : Activation} {us : Nat} (hrunning : w.num Obj.runningSlot = x.slot)
    {p : Fin 8} (hbank : w.num (Obj.bankCurrent p) = x.bank) (hpp : ∀ q, (w.ctrl q).pp = false) :
    let t := settleActivation ((w.setFw { w.fw with activation := some { x with unfrozen := true }, frozen := false, heldResets := [] }).setNum
      Obj.lastFreezeUs (us % 2 ^ 32))
    t.fw = w.fw.thawed x ∧ t.num Obj.runningSlot = x.slot ∧ t.num Obj.lastFreezeUs = us % 2 ^ 32 ∧ t.num (Obj.bankCurrent p) = x.bank ∧
    (∀ q, (t.ctrl q).pp = false) ∧ t.num Obj.activationState = if x.switched then 0 else 3 := by
  have hbankKey : ∀ k : Key, k < 0x200000 → Obj.bankCurrent p ≠ k := by
    intro k hk
    unfold Key at hk
    unfold Obj.bankCurrent Key
    omega
  generalize hv : w.setFw { w.fw with activation := some { x with unfrozen := true }, frozen := false, heldResets := [] } = v
  have hact : (v.setNum Obj.lastFreezeUs (us % 2 ^ 32)).fw.activation = some { x with unfrozen := true } := by rw [← hv]; rfl
  refine ⟨(settleActivation_fw hact).trans (by rw [← hv]; rfl), ?_, ?_, ?_, fun q => ?_, settleActivation_state hact⟩
  · exact (settleActivation_num (by decide)).trans ((State.num_setNum_other _ _ (by decide)).trans (by rw [← hv]; exact hrunning))
  · exact (settleActivation_num (by decide)).trans (State.num_setNum_self _ _ _)
  · exact (settleActivation_num (hbankKey _ (by decide))).trans
      ((State.num_setNum_other _ _ (hbankKey _ (by decide))).trans (by rw [← hv]; exact hbank))
  · have hhost := settleActivation_host (v.setNum Obj.lastFreezeUs (us % 2 ^ 32))
    exact (congrArg (fun h : HostIf => (vget h.ctrls (portNo q) Controller.reset).pp) hhost).trans (by rw [← hv]; exact hpp q)

theorem resumed_effect (s : State) (x : Activation) (us : Nat) (p : Fin 8) :
    let t := resumed s x us
    t.fw = ((setControl s x.slot (pendingSlot s)).fw.running (imageSlot s x.slot).bytes).thawed x ∧
    t.num Obj.runningSlot = x.slot ∧ t.num Obj.lastFreezeUs = us % 2 ^ 32 ∧ t.num (Obj.bankCurrent p) = x.bank ∧
    (∀ q, (t.ctrl q).pp = false) ∧ t.num Obj.activationState = if x.switched then 0 else 3 := by
  obtain ⟨hfw, hrunning⟩ := imageRuns_effect (setControl s x.slot (pendingSlot s)) x.slot
  have himg : imageSlot (setControl s x.slot (pendingSlot s)) x.slot = imageSlot s x.slot := rfl
  rw [himg] at hfw
  generalize hw : imageRuns (setControl s x.slot (pendingSlot s)) x.slot = w at hfw hrunning
  have hbank := bankTo_num w x.bank p
  have hbankFw : (bankTo w x.bank).fw = w.fw :=
    within_iff.mp (@bankTo_frame [.objs] w (touch_of rfl) w x.bank (.refl _ w)) .fw (by decide)
  have hbankRunning : (bankTo w x.bank).num Obj.runningSlot = w.num Obj.runningSlot :=
    At.num_eq (@bankTo_at Obj.runningSlot _ ⟨fun a => by unfold Obj.runningSlot Obj.bankCurrent Key; omega⟩ w x.bank (At.self w))
  generalize hb : bankTo w x.bank = b at hbank hbankFw hbankRunning
  have hresumed : ∀ k : Key, (activationResumes b).num k = b.num k := fun k => At.num_eq (activationResumes_at b (At.self b))
  unfold resumed
  dsimp only
  rw [hw, hb, ← hfw, ← hbankFw]
  exact resumed_of ((hresumed _).trans (hbankRunning.trans hrunning)) ((hresumed _).trans hbank)
    (activationResumes_pp b)

/-- What the freeze's end leaves. -/
def FreezeEnded (s : State) (x : Activation) (us : Nat) (p : Fin 8) (t : State) : Prop :=
  t.fw.frozen = false ∧ t.num Obj.runningSlot = x.slot ∧ activeSlot t = x.slot ∧ pendingSlot t = pendingSlot s ∧
  t.num Obj.lastFreezeUs = us % 2 ^ 32 ∧ t.num (Obj.bankCurrent p) = x.bank ∧ t.fw.coreImage = (imageSlot s x.slot).bytes ∧
  (∀ q : Port, (t.ctrl q).pp = false) ∧
  (x.switched = false → t.fw.activation = some { x with unfrozen := true } ∧ t.num Obj.activationState = 3) ∧
  (x.switched = true → t.fw.activation = none ∧ t.num Obj.activationState = 0)

theorem served_resumed_ended (s : State) (x : Activation) (us : Nat) (p : Fin 8) : FreezeEnded s x us p (served (resumed s x us)) := by
  obtain ⟨hfw, hrunning, hus, hbank, hpp, hstate⟩ := resumed_effect s x us p
  have hbankOff : OffLog (Obj.bankCurrent p) := by
    unfold OffLog Obj.bankCurrent Key
    omega
  generalize resumed s x us = t at hfw hrunning hus hbank hpp hstate ⊢
  have hserved := (served_fw t).trans hfw
  have hcontrol : slotControl (served t) = slotControl (setControl s x.slot (pendingSlot s)) := by
    unfold slotControl
    rw [hserved]
    rfl
  refine ⟨congrArg Firmware.frozen hserved, (served_num (by unfold OffLog; decide) t).trans hrunning,
    (congrArg (·.2.1) hcontrol).trans (activeSlot_setControl _ _ _), (congrArg (·.2.2) hcontrol).trans (pendingSlot_setControl _ _ _),
    (served_num (by unfold OffLog; decide) t).trans hus, (served_num hbankOff t).trans hbank, congrArg Firmware.coreImage hserved,
    fun q => ((served_onlyQueues t).pp q).trans (hpp q), fun hs => ⟨(congrArg Firmware.activation hserved).trans ?_, ?_⟩,
    fun hs => ⟨(congrArg Firmware.activation hserved).trans ?_, ?_⟩⟩
  · rw [Firmware.thawed, if_neg (ne_true_of_eq_false hs)]
  · rw [served_num (by unfold OffLog; decide), hstate, if_neg (ne_true_of_eq_false hs)]
  · rw [Firmware.thawed, if_pos hs]
  · rw [served_num (by unfold OffLog; decide), hstate, if_pos hs]

/-! ### The banks switch (R115, R116) -/

theorem exec_activationBankSwitch {s : State} {x : Activation} (hact : s.fw.activation = some x) (hstaged : x.staged = true)
    (hswitched : x.switched = false) (hidle : ∀ p : Fin 8, (s.num (Obj.loadState p) = 2 ∨ s.num (Obj.loadState p) = 3) →
      (s.playerOf p).header.bank = x.bank) : exec .activationBankSwitch s = .next (
      let u := s.each [0, 1, 2, 3] fun s i => s.modAct i fun y => { y with banksHeld := 2 ^ x.bank }
      let u := u.setFw { u.fw with activation := some { x with switched := true }, bankImage := (imageSlot u x.slot).bytes }
      settleActivation (bankTo u x.bank)) := by
  have hbusy : ((List.range 8).any fun p => (decide (s.num (Obj.loadState p) = 2) || decide (s.num (Obj.loadState p) = 3)) &&
      decide ((s.playerOf p).header.bank ≠ x.bank)) = false := by
    rw [List.any_eq_false]
    intro p hp hbusy
    rw [Bool.and_eq_true, Bool.or_eq_true, decide_eq_true_eq, decide_eq_true_eq, decide_eq_true_eq] at hbusy
    exact hbusy.2 (hidle ⟨p, List.mem_range.mp hp⟩ hbusy.1)
  show execActivationBankSwitch s = _
  unfold execActivationBankSwitch
  rw [hact]
  dsimp only
  rw [hbusy, if_neg (by rw [hstaged, hswitched]; nofun)]

/-- From the state in which the arms hold the new bank only. -/
theorem switched_of {v : State} {x : Activation} {act : Nat} {p : Fin 8} {img : List Byte}
    (hact : v.fw.activation = some { x with switched := true }) (himg : v.fw.bankImage = img) (hheld : (v.actOf act).banksHeld = 2 ^ x.bank) :
    let t := settleActivation (bankTo v x.bank)
    (t.actOf act).banksHeld = 2 ^ x.bank ∧ t.num (Obj.bankCurrent p) = x.bank ∧ t.fw.bankImage = img ∧
    (x.unfrozen = true → t.fw.activation = none ∧ t.num Obj.activationState = 0) ∧
    (x.unfrozen = false → t.fw.activation = some { x with switched := true }) := by
  have hbank := bankTo_num v x.bank p
  have hparts := within_iff.mp (@bankTo_frame [.objs] v (touch_of rfl) v x.bank (.refl _ v))
  have hfw : (bankTo v x.bank).fw = v.fw := hparts .fw (by decide)
  have hacts : (bankTo v x.bank).acts = v.acts := hparts .acts (by decide)
  clear hparts
  generalize bankTo v x.bank = w at hbank hfw hacts ⊢
  have hactW : w.fw.activation = some { x with switched := true } := (congrArg Firmware.activation hfw).trans hact
  have hsettled := settleActivation_fw hactW
  have hkeptActs : (settleActivation w).acts = w.acts :=
    within_iff.mp (@settleActivation_frame [.objs, .fw] w (touch_of rfl) (touch_of rfl) w (.refl _ w)) .acts (by decide)
  have hkeptBank : Obj.bankCurrent p ≠ Obj.activationState := by
    unfold Obj.bankCurrent Obj.activationState Key
    omega
  refine ⟨?_, (settleActivation_num hkeptBank).trans hbank, ?_, fun hx => ⟨?_, ?_⟩, fun hx => ?_⟩
  · rw [State.actOf, hkeptActs, hacts]
    exact hheld
  · exact (congrArg Firmware.bankImage hsettled).trans ((congrArg Firmware.bankImage hfw).trans himg)
  · exact (congrArg Firmware.activation hsettled).trans (by simp [hx])
  · have hopen : ({ x with switched := true } : Activation) = { ({ x with switched := true } : Activation) with unfrozen := true } := by
      rw [← hx]
    exact settleActivation_state (hactW.trans (congrArg some hopen))
  · exact (congrArg Firmware.activation hsettled).trans (by simp [hx])

theorem activationBankSwitch_completes {s : State} {x : Activation} (act : Fin 4) (p : Fin 8) (hact : s.fw.activation = some x)
    (hstaged : x.staged = true) (hswitched : x.switched = false)
    (hidle : ∀ p : Fin 8, (s.num (Obj.loadState p) = 2 ∨ s.num (Obj.loadState p) = 3) → (s.playerOf p).header.bank = x.bank) :
    Completes .activationBankSwitch s fun t =>
      (t.actOf act).banksHeld = 2 ^ x.bank ∧ t.num (Obj.bankCurrent p) = x.bank ∧ t.fw.bankImage = (imageSlot s x.slot).bytes ∧
      (x.unfrozen = true → t.fw.activation = none ∧ t.num Obj.activationState = 0) ∧
      (x.unfrozen = false → t.fw.activation = some { x with switched := true }) := by
  refine ⟨_, exec_activationBankSwitch hact hstaged hswitched hidle, ?_⟩
  have hheld := congrArg Actuator.banksHeld (actOf_eachAct s (fun _ y => { y with banksHeld := 2 ^ x.bank }) act)
  have hfw : (s.each [0, 1, 2, 3] fun s i => s.modAct i fun y => { y with banksHeld := 2 ^ x.bank }).fw = s.fw := rfl
  generalize (s.each [0, 1, 2, 3] fun s i => s.modAct i fun y => { y with banksHeld := 2 ^ x.bank }) = u at hheld hfw ⊢
  have himg : imageSlot u x.slot = imageSlot s x.slot := by rw [imageSlot, hfw, imageSlot]
  dsimp only
  rw [himg]
  exact switched_of (v := u.setFw { u.fw with activation := some { x with switched := true }, bankImage := (imageSlot s x.slot).bytes }) rfl rfl hheld

/-! ### A bundle is written to the holders (R117, R151) -/

/-- A bundle's copy on a surface and the label that names it. -/
def BundleOn (b : List Byte) (u : Nat) (t : State) : Prop :=
  vget t.fw.bundleCopies u [] = b ∧ ∃ l, labelOf t u = some l ∧ bit l.areas 3 = true ∧ l.bundleGen = bundleGen b

/-- The label that a surface gets with a bundle's copy. -/
def bundleLabel (gen : Nat) (b : List Byte) (l : Label) : Label := { l.hold [3] gen with bundleGen := bundleGen b }

theorem bundleOnto_effect (s : State) (u : Nat) (b : List Byte) :
    (bundleOnto s u b).media = { s.media with labels := vmod s.media.labels u (bundleLabel s.media.holderGen b) } ∧
    (bundleOnto s u b).fw = { s.fw with bundleCopies := vmod s.fw.bundleCopies u fun _ => b } := by
  have hband : ∀ (t : State) (track : Nat) (d : List Byte), (bandWrite t u track d).media = t.media ∧ (bandWrite t u track d).fw = t.fw := by
    intro t track d
    have hparts := within_iff.mp (@bandWrite_frame [.outs] t (touch_of rfl) t u track d (.refl _ t))
    exact ⟨hparts .media (by decide), hparts .fw (by decide)⟩
  have harea : ∀ (t : State) (d : List Byte), (areaWrite t u 3 d).media = t.media ∧ (areaWrite t u 3 d).fw = t.fw := by
    intro t d
    have hparts := within_iff.mp (@areaWrite_frame [.outs] t (touch_of rfl) t u 3 d (.refl _ t))
    exact ⟨hparts .media (by decide), hparts .fw (by decide)⟩
  unfold bundleOnto writeLabel
  dsimp only
  rw [(harea _ _).1, (harea _ _).2, (hband _ _ _).1, (hband _ _ _).2, (hband _ _ _).1, (hband _ _ _).2]
  exact ⟨rfl, rfl⟩

theorem bundleOnto_on (s : State) {u : Nat} (hu : u < 48) (b : List Byte) : BundleOn b u (bundleOnto s u b) := by
  obtain ⟨hmedia, hfw⟩ := bundleOnto_effect s u b
  have hlabel : vget (bundleOnto s u b).media.labels u ⟨false, 0, 0, 0, 0, []⟩ =
      bundleLabel s.media.holderGen b (vget s.media.labels u ⟨false, 0, 0, 0, 0, []⟩) := by
    rw [hmedia]
    exact vget_vmod_self _ _ _ _ hu
  refine ⟨?_, _, labelOf_own hlabel rfl rfl, testBit_setBit _ _, rfl⟩
  rw [hfw]
  exact vget_vmod_self _ _ _ _ hu

theorem bundleOnto_keeps {s : State} {u v : Nat} {b : List Byte} (hu : u < 48) (h : BundleOn b u s) : BundleOn b u (bundleOnto s v b) := by
  by_cases hv : v = u
  · subst hv
    exact bundleOnto_on s hu b
  · obtain ⟨hmedia, hfw⟩ := bundleOnto_effect s v b
    obtain ⟨hcopy, hlabel⟩ := h
    refine ⟨?_, ?_⟩
    · rw [hfw]
      exact (vget_vmod_other _ _ _ hv).trans hcopy
    · have hsame : labelOf (bundleOnto s v b) u = labelOf s u := by
        unfold labelOf
        rw [hmedia]
        dsimp only
        rw [vget_vmod_other _ _ _ hv]
      rw [hsame]
      exact hlabel

theorem bundleWriteDone_completes {s : State} {b : List Byte} (hwriting : s.fw.bundleWriting = some b) :
    Completes .bundleWriteDone s fun t => t.fw.bundleWriting = none ∧ t.num Obj.bundlePendingGen = bundleGen b ∧ t.fw.bundle = s.fw.bundle ∧
      ∀ u : Fin 48, u.val ∈ t.media.holders.toList → vget t.fw.bundleCopies u [] = b ∧
        ∃ l, labelOf t u = some l ∧ bit l.areas 3 = true ∧ l.bundleGen = bundleGen b := by
  have hexec : exec .bundleWriteDone s = .next (
      let u := firstHolders (s.setFw { s.fw with bundleWriting := none })
      (u.each (holderSurfaces u) fun s u => bundleOnto s u b).setNum Obj.bundlePendingGen (bundleGen b)) := by
    show execBundleWriteDone s = _
    unfold execBundleWriteDone
    rw [hwriting]
  refine ⟨_, hexec, ?_⟩
  have hfirst : (firstHolders (s.setFw { s.fw with bundleWriting := none })).fw = { s.fw with bundleWriting := none } :=
    within_iff.mp (@firstHolders_frame [.media, .outs] (s.setFw { s.fw with bundleWriting := none }) (touch_of rfl) (touch_of rfl) _ (.refl _ _)) .fw (by decide)
  generalize firstHolders (s.setFw { s.fw with bundleWriting := none }) = v at hfirst ⊢
  dsimp only
  have hkept : ∀ l : List Nat, (v.each l fun s u => bundleOnto s u b).fw.bundleWriting = none ∧
      (v.each l fun s u => bundleOnto s u b).fw.bundle = s.fw.bundle ∧
      (v.each l fun s u => bundleOnto s u b).media.holders = v.media.holders := fun l =>
    State.each_inv (P := fun t => t.fw.bundleWriting = none ∧ t.fw.bundle = s.fw.bundle ∧ t.media.holders = v.media.holders)
      ⟨by rw [hfirst], by rw [hfirst], rfl⟩ fun t u _ ht => by
        obtain ⟨hmedia, hfw⟩ := bundleOnto_effect t u b
        rw [hmedia, hfw]
        exact ht
  obtain ⟨hnone, hbundle, hholders⟩ := hkept (holderSurfaces v)
  have hon : ∀ u : Fin 48, u.val ∈ v.media.holders.toList → BundleOn b u (v.each (holderSurfaces v) fun s u => bundleOnto s u b) := fun u hu =>
    each_sets (P := BundleOn b u) (fun s u => bundleOnto s u b) (fun t => bundleOnto_on t u.isLt b) (fun _ _ ht => bundleOnto_keeps u.isLt ht)
      (List.mem_dedup.mpr (List.mem_filter.mpr ⟨hu, decide_eq_true u.isLt⟩)) v
  generalize (v.each (holderSurfaces v) fun s u => bundleOnto s u b) = w at hnone hbundle hholders hon ⊢
  exact ⟨hnone, State.num_setNum_self _ _ _, hbundle, fun u hu => hon u (hholders ▸ hu)⟩

/-- Settles O45: the steps of an activation and a bundle's write. -/
theorem activationsAndBundlesTakeTheirSteps : Obligations.ActivationsAndBundlesTakeTheirSteps := by
  intro s x n us act p b
  refine ⟨fun hact hstaged => ?_, fun hact hstaged hrefused hn => ?_, fun hact hstaged hfrozen hheld => ⟨fun hn => ?_, fun hn => ?_⟩,
    activationBankSwitch_completes act p, bundleWriteDone_completes⟩
  · by_cases haccepted : slotAccepted s x.slot = true
    · obtain ⟨t, hexec, ht⟩ := activationStaged_freezes hact hstaged haccepted act
      exact ⟨t, hexec, fun _ => ht⟩
    · exact ⟨_, exec_activationStaged_refused hact hstaged (Bool.eq_false_of_not_eq_true haccepted), fun h => absurd h haccepted⟩
  · have hexec := exec_activationStaged_refused hact hstaged hrefused
    rw [hn] at hexec
    exact ⟨_, hexec, rfl, State.num_setNum_self _ _ _, rfl⟩
  · have hexec := exec_activationFreezeEnd hact hstaged hfrozen hheld us
    rw [hn] at hexec
    exact ⟨_, hexec, served_resumed_ended s x us p⟩
  · have hexec := exec_activationFreezeEnd hact hstaged hfrozen hheld us
    rw [hn] at hexec
    exact ⟨_, hexec, served_resumed_ended s x us p⟩

end Sys2Proof.Machine
end

section
/-!
PROOFS. What a read returns on every port (R59, R60, R67, R71, R74, R120, R328).
-/

namespace Sys2Proof.Machine

/-! ### Rows -/

theorem row_of_isScalar {k : Key} (h : isScalar k = true) : ∃ r, findRow k = some r ∧ r.typ.scalar = true := by
  unfold isScalar at h
  cases hrow : findRow k with
  | none => rw [hrow] at h; nomatch h
  | some r => rw [hrow] at h; exact ⟨r, rfl, h⟩

theorem isBlob_of_isScalar {k : Key} (h : isScalar k = true) : isBlob k = false := by
  obtain ⟨r, hrow, htyp⟩ := row_of_isScalar h
  unfold isBlob
  rw [hrow]
  refine decide_eq_false fun hblob => ?_
  have hcode : r.typ = .blob := Option.some.inj hblob
  rw [hcode] at htyp
  nomatch htyp

/-- A scalar's bytes on a port. -/
theorem valBytes_num {k : Key} (h : isScalar k = true) (n : Nat) : valBytes k (.num n) = leBytes (valueWidth k) n := by
  obtain ⟨r, hrow, htyp⟩ := row_of_isScalar h
  unfold valBytes valueWidth
  rw [hrow]
  dsimp only
  rw [if_pos htyp]
  rfl

/-! ### A readable object (R56, R59) -/

section
variable {s : State} {who : Requester} {k : Key} (hread : Readable s who k)
include hread

theorem readValue_readable : readValue s who k = (view s who k, s) := by
  obtain ⟨-, -, -, hnonce, htj, hfeed, hmeasured⟩ := hread
  unfold readValue
  rw [if_neg hnonce, hmeasured, if_neg nofun, if_neg htj, if_neg hfeed]

theorem readObject_scalar (hscalar : isScalar k = true) (only : Bool) : readObject s who k only = (dsOk, view s who k, s) := by
  have hvalue := readValue_readable hread
  obtain ⟨-, hstatus, hbusy, -⟩ := hread
  obtain ⟨r, hrow, htyp⟩ := row_of_isScalar hscalar
  have hblob := isBlob_of_isScalar hscalar
  unfold isBlob at hblob
  rw [hrow] at hblob
  unfold readObject
  dsimp only
  rw [hstatus, hbusy, hrow, hblob, hvalue]
  simp [htyp, firstOf, failIf, dsOk]

theorem readSegment_readable (hblob : isBlob k = false) (off len : Nat) :
    readSegment s who k off len = (⟨dsOk, 0, (valBytes k (view s who k)).length, slice (valBytes k (view s who k)) off len⟩, s) := by
  have hvalue := readValue_readable hread
  obtain ⟨-, hstatus, hbusy, -⟩ := hread
  unfold isBlob at hblob
  unfold readSegment
  rw [hstatus, hbusy, hvalue, hblob]
  rfl

theorem windowValue_readable {n : Nat} (hview : view s who k = .num n) : windowValue s who k = (dsOk, n, s) := by
  have hvalue := readValue_readable hread
  obtain ⟨-, hstatus, hbusy, -⟩ := hread
  unfold windowValue
  rw [hstatus, hbusy, hvalue, hview]
  rfl

theorem readList_one (hscalar : isScalar k = true) {n : Nat} (hview : view s who k = .num n) :
    readList who [k] s = (entryBytes k (typOf k) dsOk (leBytes (valueWidth k) n).length n, s) := by
  have hobject := readObject_scalar hread hscalar true
  unfold readList
  rw [hobject, hview]
  dsimp only
  rw [if_pos rfl, valBytes_num hscalar]
  exact congrArg (·, s) (List.append_nil _)

end

/-! ### The hosts' commands (R67, R71) -/

section
variable {s : State} {slot : Nat} {c : CmdSlot} {k : Key} {w : Requester}

theorem exec_dictionaryGet (hcmd : dictCmd s slot 0xC0 = some (c, w, k)) (hmode : cmdMode c = 0) (hread : Readable s w k)
    (hscalar : isScalar k = true) {n : Nat} (hview : view s w k = .num n) :
    exec (.dictionaryGet slot) s = .next (endAdmin s slot scOk (n % 2 ^ 32) (n / 2 ^ 32)) := by
  have hobject := readObject_scalar hread hscalar true
  show execDictionaryGet slot s = _
  unfold execDictionaryGet
  rw [hcmd]
  dsimp only
  rw [if_neg (not_not_intro hmode), hobject, hview]
  rfl

theorem exec_dictionaryBlockRead (hcmd : dictCmd s slot 0xC2 = some (c, w, k)) (hmode : cmdMode c = 1) (hread : Readable s w k)
    (hblob : isBlob k = false) : exec (.dictionaryBlockRead slot) s = .next (endAdmin
      (s.emit (.hostData c.port c.cmd.cid (slice (valBytes k (view s w k)) c.cmd.cdw11 c.cmd.cdw12))) slot scOk 0 (valBytes k (view s w k)).length) := by
  have hsegment := readSegment_readable hread hblob c.cmd.cdw11 c.cmd.cdw12
  show execDictionaryBlockRead slot s = _
  unfold execDictionaryBlockRead
  rw [hcmd]
  dsimp only
  rw [if_neg (by omega), if_neg (by omega), hsegment]
  exact if_pos rfl

theorem exec_dictionaryListRead (hcmd : dictCmd s slot 0xC2 = some (c, w, k)) (hmode : cmdMode c = 2) (hone : listDwords c = [])
    (hread : Readable s w k) (hscalar : isScalar k = true) {n : Nat} (hview : view s w k = .num n) :
    exec (.dictionaryListRead slot) s = .next (endAdmin
      (s.emit (.hostData c.port c.cmd.cid (entryBytes k (typOf k) dsOk (leBytes (valueWidth k) n).length n))) slot scOk 1 0) := by
  have hlist := readList_one hread hscalar hview
  show execDictionaryListRead slot s = _
  unfold execDictionaryListRead
  rw [hcmd]
  dsimp only
  rw [if_neg (by omega), hone, if_neg nofun, List.map_nil, hlist]
  rfl

end

/-! ### The management ports (R73, R74) -/

section
variable {s : State} {h : BolhobaHeader} (hheard : bolhobaHeard s h = true) (hread : Readable s (bolhobaWho h.port) (hdrKey h))
  (hscalar : isScalar (hdrKey h) = true) {n : Nat} (hview : view s (bolhobaWho h.port) (hdrKey h) = .num n)
include hheard hread hscalar hview

theorem exec_bolhobaGet : exec (.bolhobaGet h) s = .next (answerBolhoba s h 1 dsOk
    ([BitVec.ofNat 8 (typOf (hdrKey h)), 0] ++ leBytes 2 (valueWidth (hdrKey h)) ++ leBytes (valueWidth (hdrKey h)) n)) := by
  have hobject := readObject_scalar hread hscalar false
  show execBolhobaGet h s = _
  unfold execBolhobaGet
  rw [hheard, if_neg nofun]
  dsimp only
  rw [hobject, hview]
  dsimp only
  rw [if_pos rfl, valBytes_num hscalar, length_leBytes]

theorem exec_bolhobaListGet : exec (.bolhobaListGet h [(h.index, h.sub)]) s = .next (respond s h 3 dsOk h.index h.sub 1
    (entryBytes (hdrKey h) (typOf (hdrKey h)) dsOk (leBytes (valueWidth (hdrKey h)) n).length n)) := by
  have hlist := readList_one hread hscalar hview
  unfold hdrKey at hlist
  show execBolhobaListGet h [(h.index, h.sub)] s = _
  unfold execBolhobaListGet
  rw [hheard, if_neg nofun, if_neg (by simp), List.map_cons, List.map_nil]
  dsimp only
  rw [hlist]
  rfl

theorem exec_bolhobaBlockRead (off : Nat) {len : Nat} (hlen : len ≤ 960) : exec (.bolhobaBlockRead h off len) s =
    .next (answerBolhoba s h 5 dsOk (leBytes 4 0 ++ leBytes 4 (valueWidth (hdrKey h)) ++ slice (leBytes (valueWidth (hdrKey h)) n) off len)) := by
  have hsegment := readSegment_readable hread (isBlob_of_isScalar hscalar) off len
  rw [hview, valBytes_num hscalar, length_leBytes] at hsegment
  show execBolhobaBlockRead h off len s = _
  unfold execBolhobaBlockRead
  rw [hheard, if_neg nofun, if_neg (by omega), hsegment]
  dsimp only
  rw [if_pos rfl]

end

/-! ### The register window (R71) -/

section
variable {s : State} {core : Fin 9} {addr width : Nat} (hwindow : inCoreWindow addr = true)
include hwindow

theorem exec_windowRead_value (haccess : valueAccess (windowKey addr) (windowOff addr) width = true) (hread : Readable s (.core core) (windowKey addr))
    {n : Nat} (hview : view s (.core core) (windowKey addr) = .num n) :
    exec (.windowRead core addr width) s = .next ((noteStatus s core (windowKey addr) dsOk).emit (.window core n)) := by
  have hvalue := windowValue_readable hread hview
  show Host.Outcome.next (windowLoad s core addr width) = _
  unfold windowLoad
  dsimp only
  rw [hread.1, if_neg nofun, hwindow, if_neg nofun, if_pos haccess, hvalue]

theorem exec_windowRead_status (hoff : windowOff addr = 8) (hheard : heard s (.core core) (windowKey addr) = true) :
    exec (.windowRead core addr 1) s = .next (s.emit (.window core (SMap.findD s.dict.windowStatus (statusKey core (windowKey addr)) 0))) := by
  have haccess : valueAccess (windowKey addr) (windowOff addr) 1 = false := by
    unfold valueAccess
    rw [hoff]
    rfl
  show Host.Outcome.next (windowLoad s core addr 1) = _
  unfold windowLoad
  dsimp only
  rw [hheard, if_neg nofun, hwindow, if_neg nofun, haccess, if_neg nofun, if_pos ⟨hoff, rfl⟩]

end

/-! ### The girth (R328) -/

/-- Forwarding a frame takes the line and sends the copy. -/
theorem forward_girth (s : State) (typ : Nat) (g : GirthHeader) (payload : Nat) :
    ∃ line, (forward s typ g payload).girth = { s.girth with lineFree := line } := by
  unfold forward
  split
  · exact ⟨_, rfl⟩
  · exact ⟨_, rfl⟩

theorem forward_sameBut (s : State) (typ : Nat) (g : GirthHeader) (payload : Nat) : SameBut [.girth, .outs] s (forward s typ g payload) :=
  within_iff.mp (@forward_frame [.girth, .outs] s (touch_of rfl) (touch_of rfl) s typ g payload (.refl _ s))

/-- A state whose girth differs from another's in the line's time only, and that is as it elsewhere, receives as it does. -/
theorem girthRuns_congr {s t : State} (hobjs : t.objs = s.objs) (hstart : t.start = s.start) (hpower : t.power = s.power) :
    girthRuns t = girthRuns s := by
  unfold girthRuns girthDelivers mainPowered
  rw [State.num_congr hobjs, State.num_congr hobjs, hstart, hpower]

theorem girthRuns_forward (s : State) (typ : Nat) (g : GirthHeader) (payload : Nat) : girthRuns (forward s typ g payload) = girthRuns s := by
  have h := forward_sameBut s typ g payload
  exact girthRuns_congr (h .objs (by decide)) (h .start (by decide)) (h .power (by decide))

theorem rxHeld_forward (s : State) (typ : Nat) (g : GirthHeader) (payload : Nat) : rxHeld (forward s typ g payload) = rxHeld s := by
  obtain ⟨line, hgirth⟩ := forward_girth s typ g payload
  have htick : (forward s typ g payload).tick = s.tick := State.num_congr (forward_sameBut s typ g payload .objs (by decide)) _
  unfold rxHeld
  rw [hgirth, htick]

/-- A frame that is good reaches the island, in a fifo with room (R310). -/
theorem receive_good {s : State} {g : GirthHeader} (hruns : girthRuns s = true) (hcrc : g.crc = .good) (hroom : rxHeld s < 8) (typ payload : Nat)
    (deliver : State → State) : receive s typ g payload deliver = deliver (rxTake (forward s typ g payload)) := by
  have hcount : countCrc (forward s typ g payload) g.crc = forward s typ g payload := by rw [hcrc]; rfl
  unfold receive
  rw [hcount]
  dsimp only
  rw [girthRuns_forward, hruns, hcrc, rxHeld_forward, if_pos hroom]
  rfl

/-- The island's own hop number. -/
theorem girthHop_taken (s : State) (typ : Nat) (g : GirthHeader) (payload : Nat) : girthHop (rxTake (forward s typ g payload)) = s.num Obj.hop := by
  have hobjs : (rxTake (forward s typ g payload)).objs = s.objs := by
    rw [← forward_sameBut s typ g payload .objs (by decide)]
    unfold rxTake
    split <;> rfl
  exact State.num_congr hobjs _

theorem exec_girthDictGet {s : State} {g : GirthHeader} {tag index sub n : Nat}
    (hruns : girthRuns s = true) (hcrc : g.crc = .good) (hroom : rxHeld s < 8)
    (hread : Readable (rxTake (forward s gtDict g (dictPayload (s.num Obj.hop) 0 tag index sub 0 0))) .girth (key index sub))
    (hscalar : isScalar (key index sub) = true)
    (hview : view (rxTake (forward s gtDict g (dictPayload (s.num Obj.hop) 0 tag index sub 0 0))) .girth (key index sub) = .num n)
    (hvalue : girthValue (key index sub) (.num n) = some n) : exec (.girthDictGet g (s.num Obj.hop) tag index sub) s =
      .next (girthAnswer (rxTake (forward s gtDict g (dictPayload (s.num Obj.hop) 0 tag index sub 0 0))) g tag index sub dsOk n) := by
  have hreceive := receive_good hruns hcrc hroom gtDict (dictPayload (s.num Obj.hop) 0 tag index sub 0 0)
  have hhop := girthHop_taken s gtDict g (dictPayload (s.num Obj.hop) 0 tag index sub 0 0)
  have hobject := readObject_scalar hread hscalar true
  show execGirthDictGet g (s.num Obj.hop) tag index sub s = _
  unfold execGirthDictGet
  rw [hreceive]
  dsimp only
  rw [hhop, hread.1, if_neg (by simp), hobject, hview]
  dsimp only
  rw [if_neg (not_not_intro rfl), hvalue]

/-! ### The nonce (R120) -/

theorem lifecycleNonceRead_completes {s : State} {who : Requester} (hheard : heard s who Obj.lifecycleNonce = true)
    (hstatus : readStatus s who Obj.lifecycleNonce = dsOk) : Completes (.lifecycleNonceRead who) s fun t =>
      ∃ v, t.fw.nonce = some (who, v) ∧ v < 2 ^ 32 ∧ t.outs = .dictValue who Obj.lifecycleNonce dsOk v :: s.outs ∧ t.objs = s.objs := by
  have hbusy : readBusy s Obj.lifecycleNonce = false := rfl
  have hobject : readObject s who Obj.lifecycleNonce true = (dsOk, .num (nonceRead s who).1, (nonceRead s who).2) := by
    unfold readObject readValue
    rw [hstatus, hbusy, if_pos rfl]
    rfl
  have hexec : exec (.lifecycleNonceRead who) s =
      .next ((nonceRead s who).2.emit (.dictValue who Obj.lifecycleNonce dsOk (nonceRead s who).1)) := by
    show execLifecycleNonceRead who s = _
    unfold execLifecycleNonceRead
    rw [if_pos hheard, hobject]
    rfl
  exact ⟨_, hexec, _, rfl, Nat.mod_lt _ (by decide), rfl, rfl⟩

/-- Settles O37: a readable object's value in the form of each port. -/
theorem readsReturnTheValueOnEveryPort : Obligations.ReadsReturnTheValueOnEveryPort := by
  intro s slot c h g core addr width n off len tag index sub who
  exact ⟨fun _ _ hcmd hmode hread hscalar hview => exec_dictionaryGet hcmd hmode hread hscalar hview, fun _ _ => exec_dictionaryBlockRead,
    fun _ _ hcmd hmode hone hread hscalar hview => exec_dictionaryListRead hcmd hmode hone hread hscalar hview,
    fun hheard hread hscalar hview => ⟨exec_bolhobaGet hheard hread hscalar hview, exec_bolhobaListGet hheard hread hscalar hview,
      exec_bolhobaBlockRead hheard hread hscalar hview off⟩,
    fun hwindow haccess hread hview => exec_windowRead_value hwindow haccess hread hview, exec_windowRead_status, fun hruns hcrc hroom hread hscalar hview => exec_girthDictGet hruns hcrc hroom hread hscalar hview,
    lifecycleNonceRead_completes⟩

end Sys2Proof.Machine
end

section
/-!
PROOFS. A write's one effect on every port (R57, R58, R60, R67, R70 to R74, R328).
-/

namespace Sys2Proof.Machine

/-- A write that is accepted takes effect, and is answered OK in its port's form. -/
theorem writeObject_accepted {s : State} {who : Requester} {k : Key} {v : Val} (h : Accepted s who k v) (hfirst : answersFirst who k = false)
    (answer : State → Nat → State) : writeObject s who k (some v) none answer = answer (effect s who k v) dsOk := by
  obtain ⟨-, hcheck, hstatus⟩ := h
  have hdue : ((some v).bind (selfCheckDue s k)).isSome = false := by rw [Option.bind_some, hcheck]; rfl
  unfold writeObject
  simp only [hdue, selfCheckOutcome, hstatus, Bool.false_eq_true, if_false, if_true, hfirst]

/-! ### Lists (R57, R58) -/

/-- The effects of a list, in its order. -/
def effects (s : State) (who : Requester) (l : List (Key × Option Val)) : State := l.foldl (fun t e => match e.2 with
  | some w => effect t who e.1 w
  | none => t) s

section
variable {s : State} {who : Requester} {l : List (Key × Option Val)} (hchecks : ∀ e ∈ l, ∀ w, e.2 = some w → selfCheckDue s e.1 w = none)
include hchecks

/-- No entry starts a self-check. -/
theorem no_selfCheck {e : Key × Option Val} (he : e ∈ l) : e.2.bind (selfCheckDue s e.1) = none := by
  cases hv : e.2 with
  | none => rfl
  | some w => exact hchecks e he w hv

theorem none_due : (l.any fun e => (e.2.bind (selfCheckDue s e.1)).isSome) = false := by
  rw [List.any_eq_false]
  intro e he
  rw [no_selfCheck hchecks he]
  nofun

theorem writeList_failing {i st : Nat} (hfail : firstFailing s who true l = some (i, st)) (answer : State → Option (Nat × Nat) → State) :
    writeList s who l answer = answer s (some (i, st)) := by
  unfold writeList
  rw [none_due hchecks]
  dsimp only [selfCheckOutcome]
  rw [if_neg nofun]
  dsimp only
  rw [hfail]
  dsimp only
  cases he : l[i]? with
  | none => rfl
  | some e =>
    have hevent : selfCheckEvent s e.1 e.2 true = s := by
      unfold selfCheckEvent
      rw [no_selfCheck hchecks (List.mem_of_getElem? he)]
    dsimp only
    rw [hevent, ite_self]

theorem writeList_passing (hpass : firstFailing s who true l = none) (hfirst : ∀ e ∈ l, answersFirst who e.1 = false)
    (answer : State → Option (Nat × Nat) → State) : writeList s who l answer = answer (effects s who l) none := by
  have hlater : (l.any fun e => answersFirst who e.1) = false := by
    rw [List.any_eq_false]
    intro e he
    rw [hfirst e he]
    nofun
  unfold writeList
  rw [none_due hchecks]
  dsimp only [selfCheckOutcome]
  rw [if_neg nofun]
  dsimp only
  rw [hpass]
  dsimp only
  rw [hlater, if_neg nofun]
  rfl

end

/-- A list of one entry that is accepted. -/
theorem writeList_one {s : State} {who : Requester} {k : Key} {v : Val} (h : Accepted s who k v) (hfirst : answersFirst who k = false)
    (answer : State → Option (Nat × Nat) → State) : writeList s who [(k, some v)] answer = answer (effect s who k v) none := by
  obtain ⟨-, hcheck, hstatus⟩ := h
  refine writeList_passing (fun e he w hw => ?_) ?_ (fun e he => ?_) answer
  · rw [List.mem_singleton.mp he] at hw ⊢
    rw [← Option.some.inj hw]
    exact hcheck
  · simp [firstFailing, hstatus]
  · rw [List.mem_singleton.mp he]
    exact hfirst

/-! ### The hosts' commands (R67, R71) -/

section
variable {s : State} {slot : Nat} {c : CmdSlot} {k : Key} {w : Requester} {v : Val}

theorem exec_dictionarySet {data : List Byte} (hcmd : dictCmd s slot 0xC1 = some (c, w, k)) (hmode : cmdMode c = 1) (hlen : c.cmd.cdw12 ≤ 2 ^ 21)
    (hblob : isBlob k = false) (hfirst : answersFirst w k = false)
    (hvalue : decodeVal k (typOf k) c.cmd.cdw12 (padTo c.cmd.cdw12 (data.take c.cmd.cdw12)) = some v) (h : Accepted s w k v) :
    exec (.dictionarySet slot data) s = .next (endAdmin (effect s w k v) slot scOk) := by
  show execDictionarySet slot data s = _
  unfold execDictionarySet
  rw [hcmd]
  dsimp only
  rw [if_neg (by omega), if_neg (by omega), hblob, if_neg nofun, hvalue, writeObject_accepted h hfirst]
  rfl

/-- The header of a list of one entry (R67). -/
theorem listHeader {b : List Byte} (h : slice b 0 16 = leBytes 16 1) : fieldAt b 0 4 = 1 ∧ (slice b 4 12).any (· ≠ 0) = false := by
  have hb : b = leBytes 16 1 ++ b.drop 16 := by
    rw [← h]
    exact (List.take_append_drop 16 b).symm
  rw [hb]
  generalize b.drop 16 = r
  exact ⟨rfl, rfl⟩

theorem exec_dictionarySetList {data : List Byte} {k0 : Key} (hcmd : dictCmd s slot 0xC1 = some (c, w, k0)) (hmode : cmdMode c = 0)
    (hlen : c.cmd.cdw12 = 32) (hdata : data.length = 32) (hheader : slice data 0 16 = leBytes 16 1)
    (hentry : entryAsk (listEntryAt (data.drop 16) 0) = (k, some v)) (hfirst : answersFirst w k = false) (h : Accepted s w k v) :
    exec (.dictionarySetList slot data) s = .next (endAdmin (effect s w k v) slot scOk 0xFFFF 0) := by
  obtain ⟨hcount, hzeros⟩ := listHeader hheader
  have hwhole : padTo 32 (data.take 32) = data := padTo_take data hdata
  show execDictionarySetList slot data s = _
  unfold execDictionarySetList
  rw [hcmd]
  dsimp only
  rw [if_neg (by omega), hlen, hwhole, hcount, hzeros, if_neg (by decide), List.range_one, List.map_singleton, hentry, writeList_one h hfirst]

end

/-! ### The management ports (R73, R74) -/

theorem exec_bolhobaSet {s : State} {h : BolhobaHeader} {typ len : Nat} {value : List Byte} {v : Val}
    (hvalue : decodeVal (hdrKey h) typ len value = some v) (hfirst : answersFirst (bolhobaWho h.port) (hdrKey h) = false)
    (hheard : bolhobaHeard s h = true) (hacc : Accepted s (bolhobaWho h.port) (hdrKey h) v) :
    exec (.bolhobaSet h typ len value) s = .next (answerBolhoba (effect s (bolhobaWho h.port) (hdrKey h) v) h 2 dsOk []) := by
  show execBolhobaSet h typ len value s = _
  unfold execBolhobaSet
  rw [hheard, if_neg nofun, hvalue, writeObject_accepted hacc hfirst]

theorem exec_bolhobaListSet {s : State} {h : BolhobaHeader} {entries : List ListEntry} (hheard : bolhobaHeard s h = true) (hsome : entries ≠ [])
    (hmany : entries.length ≤ 32) : exec (.bolhobaListSet h entries) s =
    .next (writeList s (bolhobaWho h.port) (entries.map entryAsk) fun s f => match f with
      | some (i, st) => match entries[i]? with
        | some e => respond s h 0x04 st e.index e.sub entries.length []
        | none => respond s h 0x04 st h.index h.sub entries.length []
      | none => respond s h 0x04 dsOk h.index h.sub entries.length []) := by
  show execBolhobaListSet h entries s = _
  unfold execBolhobaListSet
  rw [hheard, if_neg nofun, if_neg (by simp [hsome, hmany])] <;> rfl

theorem exec_bolhobaListSet_failing {s : State} {h : BolhobaHeader} {entries : List ListEntry} (hheard : bolhobaHeard s h = true)
    (hsome : entries ≠ []) (hmany : entries.length ≤ 32)
    (hchecks : ∀ e ∈ entries.map entryAsk, ∀ w, e.2 = some w → selfCheckDue s e.1 w = none) {i st : Nat}
    (hfail : firstFailing s (bolhobaWho h.port) true (entries.map entryAsk) = some (i, st)) : exec (.bolhobaListSet h entries) s =
      .next (respond s h 4 st ((entries[i]?.map (·.index)).getD h.index) ((entries[i]?.map (·.sub)).getD h.sub) entries.length []) := by
  rw [exec_bolhobaListSet hheard hsome hmany, writeList_failing hchecks hfail]
  dsimp only
  cases entries[i]? <;> rfl

/-! ### The register window and the girth (R71, R328) -/

theorem exec_windowWrite {s : State} {core : Fin 9} {addr width n : Nat} (hwindow : inCoreWindow addr = true)
    (haccess : valueAccess (windowKey addr) (windowOff addr) width = true) (hscalar : isScalar (windowKey addr) = true)
    (h : Accepted s (.core core) (windowKey addr) (.num (n % 2 ^ (8 * width)))) (hfirst : answersFirst (.core core) (windowKey addr) = false) :
    exec (.windowWrite core addr width n) s =
      .next (noteStatus (effect s (.core core) (windowKey addr) (.num (n % 2 ^ (8 * width)))) core (windowKey addr) dsOk) := by
  show Host.Outcome.next (windowStore s core addr width n) = _
  unfold windowStore
  dsimp only
  rw [h.1, if_neg nofun, hwindow, haccess, if_neg (by decide), if_pos hscalar, writeObject_accepted h hfirst]

theorem exec_girthDictSet {s : State} {g : GirthHeader} {tag index sub n : Nat} {v : Val}
    (hruns : girthRuns s = true) (hcrc : g.crc = .good) (hroom : rxHeld s < 8) (hask : girthAsk (key index sub) (n % 2 ^ 32) = some v)
    (h : Accepted (rxTake (forward s gtDict g (dictPayload (s.num Obj.hop) 1 tag index sub 0 n))) .girth (key index sub) v)
    (hfirst : answersFirst .girth (key index sub) = false) : exec (.girthDictSet g (s.num Obj.hop) tag index sub n) s =
      .next (girthAnswer (effect (rxTake (forward s gtDict g (dictPayload (s.num Obj.hop) 1 tag index sub 0 n))) .girth (key index sub) v)
        g tag index sub dsOk 0) := by
  have hreceive := receive_good hruns hcrc hroom gtDict (dictPayload (s.num Obj.hop) 1 tag index sub 0 n)
  have hhop := girthHop_taken s gtDict g (dictPayload (s.num Obj.hop) 1 tag index sub 0 n)
  show execGirthDictSet g (s.num Obj.hop) tag index sub n s = _
  unfold execGirthDictSet
  rw [hreceive]
  dsimp only
  rw [hhop, h.1, if_neg (by simp), hask, writeObject_accepted h hfirst]

/-- Settles O38: a write that is accepted, in the form of each port. -/
theorem writesHaveOneEffectOnEveryPort : Obligations.WritesHaveOneEffectOnEveryPort := by
  intro s slot data value c h g core addr width n typ len tag index sub i st entries v
  refine ⟨fun _ _ hcmd hmode hlen hblob hfirst hvalue hacc => exec_dictionarySet hcmd hmode hlen hblob hfirst hvalue hacc,
    fun _ _ _ hcmd hmode hlen hdata hheader hentry hfirst hacc => exec_dictionarySetList hcmd hmode hlen hdata hheader hentry hfirst hacc,
    fun hvalue hfirst hheard hacc => exec_bolhobaSet hvalue hfirst hheard hacc, fun hheard hsome hmany hchecks =>
      ⟨fun hfail => exec_bolhobaListSet_failing hheard hsome hmany hchecks hfail, fun hpass hfirst => ?_⟩,
    fun hwindow haccess hscalar hacc hfirst => exec_windowWrite hwindow haccess hscalar hacc hfirst,
    fun hruns hcrc hroom hask hacc hfirst => exec_girthDictSet hruns hcrc hroom hask hacc hfirst⟩
  rw [exec_bolhobaListSet hheard hsome hmany, writeList_passing hchecks hpass hfirst]
  rfl

end Sys2Proof.Machine
end

section
/-!
PROOFS. Writes that set their object only, and the other messages of the management ports and of the link
(R31, R53, R56, R61, R73 to R76, R284, R286, R466).
-/

namespace Sys2Proof.Machine

/-! ### An object without an effect of its own (R56) -/

section
variable {s : State} {who : Requester} {k : Key} {v : Val}

/-- An object without an effect of its own is no switch, and none that is answered before its effect. -/
theorem answersFirst_of_ownValue (h : OwnValue s who k v) : answersFirst who k = false := by
  obtain ⟨henable, hservice, -⟩ := h
  refine answersFirst_eq_false who ⟨?_, ?_, ?_, ?_⟩
  · rintro rfl
    exact absurd ((rfl : some (restart s (decide (v.toNum = 2))) = actService s who Obj.restart v).trans hservice) nofun
  · rintro rfl
    exact absurd ((rfl : some (lifecycleAsk s who v.toBytes).2 = actService s who Obj.lifecycleRequest v).trans hservice) nofun
  · rintro rfl
    exact absurd ((rfl : true = isEnable (Obj.portEnable 0)).trans henable) nofun
  · rintro rfl
    exact absurd ((rfl : true = isEnable (Obj.portEnable 1)).trans henable) nofun

theorem effect_ownValue (h : OwnValue s who k v) : effect s who k v = s.setObj k v := by
  obtain ⟨henable, hservice, hservo, hcore⟩ := h
  unfold effect
  rw [henable, if_neg nofun, hservice, hservo, hcore]
  rfl

/-- The object reads its new value, and nothing else differs. -/
theorem setObj_only (s : State) (k : Key) (v : Val) :
    (s.setObj k v).obj k = v ∧ (∀ j, j ≠ k → (s.setObj k v).obj j = s.obj j) ∧ s.setObj k v = { s with objs := (s.setObj k v).objs } :=
  ⟨(State.obj_setObj s k k v).trans (if_pos rfl), fun _ hj => (State.obj_setObj s k _ v).trans (if_neg hj), rfl⟩

/-- A write that does not reach the service is lost. -/
theorem commandWrite_unheard (h : heard s who k = false) (v : Option Val) : commandWrite s who k v = s := by
  unfold commandWrite
  rw [h, if_neg nofun]

/-- A write that fails a check is answered with it, and changes nothing. -/
theorem commandWrite_refused (hheard : heard s who k = true) (hcheck : selfCheckDue s k v = none) (hfail : writeStatus s who k (some v) true ≠ dsOk) :
    commandWrite s who k (some v) = answerPlain who k s (writeStatus s who k (some v) true) := by
  have hdue : (some v).bind (selfCheckDue s k) = none := by rw [Option.bind_some, hcheck]
  unfold commandWrite writeObject
  rw [if_pos hheard, hdue]
  simp only [Option.isSome_none, selfCheckOutcome, Bool.false_eq_true, if_false, if_neg hfail]
  unfold selfCheckEvent
  rw [hdue]
  exact congrArg (answerPlain who k · _) (ite_self _)

end

/-! ### The source table (R466) -/

/-- The source table's row. -/
def sourceRow : ObjRow := ⟨0x7100, 1, 5, 0x00, 256, .record, 0x14F, true, 16, .bytes (List.replicate 16 0), .any⟩

theorem rows_of_sourceIdx : ∀ i : Fin 5, (objTable.filter fun r => r.hasIdx (0x7100 + i)) = [sourceRow] := by decide +kernel

theorem findRow_source {id : Nat} (h : id < 1152) : findRow (0x710000 + id) = some sourceRow := by
  have hidx : keyIdx (0x710000 + id) = 0x7100 + id / 256 := by
    unfold keyIdx
    omega
  have hrows : (objTable.filter fun r => r.hasIdx (keyIdx (0x710000 + id))) = [sourceRow] := by
    rw [hidx]
    exact rows_of_sourceIdx ⟨id / 256, by omega⟩
  have hsub : keySub (0x710000 + id) = id % 256 := by
    unfold keySub
    omega
  have hkey : sourceRow.hasKey (0x710000 + id) = true := by
    unfold ObjRow.hasKey
    rw [hidx, hsub]
    have hin : sourceRow.hasIdx (0x7100 + id / 256) = true := by
      simp only [ObjRow.hasIdx, sourceRow]
      simp
      omega
    rw [hin]
    simp [sourceRow]
    omega
  have hboth : (fun r : ObjRow => r.hasKey (0x710000 + id)) =
      fun r => decide (r.hasIdx (keyIdx (0x710000 + id)) = true ∧ r.hasKey (0x710000 + id) = true) := by
    funext r
    have hidxOf : r.hasKey (0x710000 + id) = true → r.hasIdx (keyIdx (0x710000 + id)) = true := by
      unfold ObjRow.hasKey
      cases r.hasIdx (keyIdx (0x710000 + id))
      · nofun
      · exact fun _ => rfl
    cases hr : r.hasKey (0x710000 + id)
    · simp
    · simp [hidxOf hr]
  unfold findRow
  rw [hboth, ← List.find?_filter, hrows, List.find?_cons, hkey]

theorem recAsk_source {id : Nat} (h : id < 1152) {value : List Byte} (hlen : value.length = 16) :
    recAsk (0x710000 + id) value = some (.bytes value) := by
  unfold recAsk decodeVal typOf
  rw [findRow_source h, hlen]
  rfl

/-- A group of objects does not hold a key that none of its keys is. -/
theorem unitIx_eq_none {f : Nat → Key} {n : Nat} {k : Key} (h : ∀ i, i < n → f i ≠ k) : unitIx f n k = none := by
  rw [unitIx, List.find?_eq_none]
  intro i hi
  rw [decide_eq_true_eq]
  exact h i (List.mem_range.mp hi)

theorem owner_of_sourceIdx : ∀ i : Fin 5, unitOfIdx (0x7100 + i) = .nobody := by decide +kernel

/-- An entry of the source table has no effect of its own. -/
theorem ownValue_source (s : State) (who : Requester) {id : Nat} (h : id < 1152) (v : Val) : OwnValue s who (0x710000 + id) v := by
  have hout : ∀ j : Key, j < 0x710000 ∨ 0x710480 ≤ j → ¬(0x710000 + id = j) := by
    intro j hj
    unfold Key at hj
    omega
  have hunit : ∀ (f : Nat → Key) (n : Nat), (∀ i, i < n → f i < 0x710000 ∨ 0x710480 ≤ f i) → unitIx f n (0x710000 + id) = none :=
    fun f n hf => unitIx_eq_none fun i hi he => hout _ (hf i hi) he.symm
  have hidx : keyIdx (0x710000 + id) = 0x7100 + id / 256 := by
    unfold keyIdx
    omega
  have howner : unitOfIdx (keyIdx (0x710000 + id)) = .nobody := by
    rw [hidx]
    exact owner_of_sourceIdx ⟨id / 256, by omega⟩
  refine ⟨?_, ?_, ?_, ?_⟩
  · unfold isEnable
    rw [howner]
    rfl
  · unfold actService
    simp (disch := decide) only [hout, hunit, if_false, or_self, Option.map_none]
  · unfold actServo
    simp (disch := decide) only [hunit, Option.map_none, Option.orElse_eq_orElse, Option.orElse_none]
  · unfold actCore
    simp (disch := decide) only [hunit, Option.map_none, Option.orElse_eq_orElse, Option.orElse_none]

/-- Settles O34. -/
theorem writesAreCheckedThenTakeEffect : Obligations.WritesAreCheckedThenTakeEffect := by
  intro s who index sub typ len id value v
  refine ⟨fun hunheard => congrArg _ (commandWrite_unheard hunheard _), fun hheard hvalue hcheck hfail => ?_,
    fun hacc hvalue hown => ?_, fun hid hlen hacc => ?_⟩
  · show Host.Outcome.next (commandWrite s who (key index sub) (decodeVal (key index sub) typ len value)) = _
    rw [hvalue, commandWrite_refused hheard hcheck hfail]
  · have hexec : exec (.objectWrite who index sub typ len value) s = .next (commandWrite s who (key index sub) (some v)) :=
      congrArg (fun w => Host.Outcome.next (commandWrite s who (key index sub) w)) hvalue
    refine answers_of_accepted hexec hacc (answersFirst_of_ownValue hown) ?_
    rw [effect_ownValue hown]
    exact setObj_only s _ v
  · have hexec : exec (.sourceEntryWrite who id value) s = .next (commandWrite s who (0x710000 + id) (some (.bytes value))) :=
      congrArg (fun w => Host.Outcome.next (commandWrite s who (0x710000 + id) w)) (recAsk_source hid hlen)
    have hown := ownValue_source s who hid (.bytes value)
    refine answers_of_accepted hexec hacc (answersFirst_of_ownValue hown) ?_
    rw [effect_ownValue hown]
    exact setObj_only s _ _

end Sys2Proof.Machine
end

section
/-!
PROOFS. The other messages of the management ports and of the link (R31, R73 to R76, R284, R286).
-/

namespace Sys2Proof.Machine

/-! ### Messages that the service does not take (R74) -/

section
variable {s : State} {h : BolhobaHeader}

/-- A message turned away because its port is full. -/
def portBusy (s : State) (h : BolhobaHeader) (opcode : Nat) : State :=
  s.emit (.bolhoba h.port (wireOf h.port (responseBody h opcode dsBusy h.index h.sub 0 [])))

theorem bolhobaTurned_eq (s : State) (h : BolhobaHeader) (opcode : Nat) :
    bolhobaTurned s h opcode = if bolhobaReaches s h = true then portBusy s h opcode else s := rfl

/-- What each message gives that the service does not take. -/
theorem exec_bolhoba_unheard (hheard : bolhobaHeard s h = false) (typ len off : Nat) (b : List Byte) (l : List (Nat × Nat)) (es : List ListEntry)
    (last : Bool) : exec (.bolhobaGet h) s = .next (bolhobaTurned s h 1) ∧ exec (.bolhobaSet h typ len b) s = .next (bolhobaTurned s h 2) ∧
      exec (.bolhobaListGet h l) s = .next (bolhobaTurned s h 3) ∧ exec (.bolhobaListSet h es) s = .next (bolhobaTurned s h 4) ∧
      exec (.bolhobaBlockRead h off len) s = .next (bolhobaTurned s h 5) ∧ exec (.bolhobaBlockWrite h off last b) s = .next (bolhobaTurned s h 6) := by
  have hturned : (!bolhobaHeard s h) = true := by rw [hheard]; rfl
  exact ⟨if_pos hturned, if_pos hturned, if_pos hturned, if_pos hturned, if_pos hturned, if_pos hturned⟩

theorem exec_bolhobaUnknownOpcode (hheard : bolhobaHeard s h = true) {pen version opcode : Nat} (hpen : pen = 58714)
    (hunknown : version ≠ 1 ∨ opcode = 0 ∨ 6 < opcode) :
    exec (.bolhobaUnknownOpcode h pen version opcode) s = .next (answerBolhoba s h (opcode % 128) dsType []) := by
  show execBolhobaUnknownOpcode h pen version opcode s = _
  unfold execBolhobaUnknownOpcode
  rw [if_neg (not_not_intro hpen), if_neg (by omega), hheard, if_neg nofun]

end

/-! ### Objects of the motion die (R284, R286) -/

section
variable {s : State} {who : Requester} {index sub : Nat}

/-- A request that reaches the service comes while the main die is out of reset. -/
theorem running_of_heard {k : Key} (h : heard s who k = true) :
    ¬((s.start.inReset = true) ∧ s.motion.notice.isSome = true ∧ mainPowered s = true ∧ s.start.mode ≠ .halted) := by
  rintro ⟨hreset, -⟩
  unfold heard at h
  rw [hreset] at h
  simp at h

theorem gateStatus_of_readStatus {k : Key} (h : readStatus s who k = dsOk) : gateStatus s who k false = dsOk := by
  by_contra hgate
  exact hgate ((if_neg hgate).symm.trans h)

theorem gateStatus_of_writeStatus {k : Key} {v : Option Val} {pass : Bool} (h : writeStatus s who k v pass = dsOk) :
    gateStatus s who k true = dsOk := by
  by_contra hgate
  exact hgate ((if_neg hgate).symm.trans h)

variable (hmotion : index / 256 = 0x60)
include hmotion

/-- While a reset of the main die that it notified lasts, the link answers for it (R286). -/
theorem exec_linkObject_reset (hreset : s.start.inReset = true) (hnotice : s.motion.notice ≠ none) (hpower : mainPowered s = true)
    (hmode : s.start.mode ≠ .halted) (write : Option (List Byte)) :
    exec (.linkObject who index sub write) s = .next (answerPlain who (key index sub) s dsBusy) := by
  show execLinkObject who index sub write s = _
  unfold execLinkObject
  dsimp only
  rw [if_neg (not_not_intro hmotion), if_pos ⟨hreset, Option.isSome_iff_ne_none.mpr hnotice, hpower, hmode⟩]

/-- The link to the motion die is not up. -/
theorem exec_linkObject_down (hdown : s.num Obj.linkState ≠ 1) (hheard : heard s who (key index sub) = true) (b : List Byte)
    (hgate : gateStatus s who (key index sub) true = dsOk) :
    exec (.linkObject who index sub (some b)) s = .next (answerPlain who (key index sub) s dsBusy) := by
  show execLinkObject who index sub (some b) s = _
  unfold execLinkObject
  dsimp only
  rw [if_neg (not_not_intro hmotion), if_neg (running_of_heard hheard), hheard, if_neg nofun, if_pos ⟨hgate, hdown⟩]

theorem exec_linkObject_read (hup : s.num Obj.linkState = 1) (hread : Readable (s.emit (.link "OBJECT" [(index : Int), (sub : Int)])) who (key index sub))
    (hscalar : isScalar (key index sub) = true) : exec (.linkObject who index sub none) s =
      .next ((s.emit (.link "OBJECT" [(index : Int), (sub : Int)])).emit
        (.dictValue who (key index sub) dsOk (view (s.emit (.link "OBJECT" [(index : Int), (sub : Int)])) who (key index sub)).toNum)) := by
  have hheard : heard s who (key index sub) = true := hread.1
  have hgate : gateStatus s who (key index sub) false = dsOk := gateStatus_of_readStatus (s := s.emit _) hread.2.1
  have hobject := readObject_scalar hread hscalar false
  show execLinkObject who index sub none s = _
  unfold execLinkObject
  dsimp only [Option.isSome_none]
  rw [if_neg (not_not_intro hmotion), if_neg (running_of_heard hheard), hheard, if_neg nofun, if_neg (fun h => h.2 hup), if_pos hgate, hobject]

theorem exec_linkObject_write (hup : s.num Obj.linkState = 1) {b : List Byte} {v : Val}
    (hvalue : decodeVal (key index sub) (typOf (key index sub)) b.length b = some v)
    (hacc : Accepted (s.emit (.link "OBJECT" [(index : Int), (sub : Int)])) who (key index sub) v)
    (hown : OwnValue (s.emit (.link "OBJECT" [(index : Int), (sub : Int)])) who (key index sub) v) :
    Answers (.linkObject who index sub (some b)) s who (key index sub) fun t =>
      t = (s.emit (.link "OBJECT" [(index : Int), (sub : Int)])).setObj (key index sub) v := by
  have hheard : heard s who (key index sub) = true := hacc.1
  have hgate : gateStatus s who (key index sub) true = dsOk := gateStatus_of_writeStatus (s := s.emit _) hacc.2.2
  refine ⟨_, ?_, rfl⟩
  show execLinkObject who index sub (some b) s = _
  unfold execLinkObject
  dsimp only [Option.isSome_some]
  rw [if_neg (not_not_intro hmotion), if_neg (running_of_heard hheard), hheard, if_neg nofun, if_neg (fun h => h.2 hup), if_pos hgate, hvalue,
    writeObject_accepted hacc (answersFirst_of_ownValue hown), effect_ownValue hown]

end

/-- Settles O40. -/
theorem managementMessagesAreAnswered : Obligations.ManagementMessagesAreAnswered := by
  intro s who h pen version opcode addr index sub typ len b v l es last
  refine ⟨fun hlost => ?_, fun hreaches hfull => ?_, fun hheard hpen hunknown => exec_bolhobaUnknownOpcode hheard hpen hunknown,
    fun hpen => if_pos hpen, rfl, fun hpower hmode hstraps haddr => ?_,
    fun hmotion hreset hnotice hpower hmode => ⟨exec_linkObject_reset hmotion hreset hnotice hpower hmode none,
      exec_linkObject_reset hmotion hreset hnotice hpower hmode (some b)⟩,
    fun hmotion hup hread hscalar => exec_linkObject_read hmotion hup hread hscalar,
    fun hmotion hup hvalue hacc hown => exec_linkObject_write hmotion hup hvalue hacc hown,
    fun hmotion hdown hheard hgate => exec_linkObject_down hmotion hdown hheard b hgate⟩
  · have hheard : bolhobaHeard s h = false := by rw [bolhobaHeard, hlost]; rfl
    have hturned : ∀ n, bolhobaTurned s h n = s := fun n => (bolhobaTurned_eq s h n).trans (if_neg (ne_true_of_eq_false hlost))
    have hexec := exec_bolhoba_unheard hheard typ len addr b l es last
    rw [hturned, hturned, hturned, hturned, hturned, hturned] at hexec
    exact hexec
  · have hheard : bolhobaHeard s h = false := by rw [bolhobaHeard, hfull, hreaches]; rfl
    have hturned : ∀ n, bolhobaTurned s h n = portBusy s h n := fun n => (bolhobaTurned_eq s h n).trans (if_pos hreaches)
    have hexec := exec_bolhoba_unheard hheard typ len addr b l es last
    rw [hturned, hturned, hturned, hturned, hturned, hturned] at hexec
    exact hexec
  · exact if_pos (by simp [hpower, hmode, hstraps, haddr])

end Sys2Proof.Machine
end

section
/-!
PROOFS. Stores (R62 to R66).
-/

namespace Sys2Proof.Machine

/-! ### Values that pass the checks (R56) -/

theorem firstOf_eq_ok {l : List Nat} : firstOf l = dsOk ↔ ∀ x ∈ l, x = dsOk := by
  induction l with
  | nil => exact ⟨fun _ _ hx => absurd hx List.not_mem_nil, fun _ => rfl⟩
  | cons x l ih =>
    unfold firstOf
    by_cases hx : x = dsOk
    · rw [if_pos hx, ih, List.forall_mem_cons]
      exact ⟨fun h => ⟨hx, h⟩, fun h => h.2⟩
    · rw [if_neg hx, List.forall_mem_cons]
      exact ⟨fun h => absurd h hx, fun h => absurd h.1 hx⟩

theorem failIf_eq_ok {b : Bool} {st : Nat} (hst : st ≠ dsOk) : failIf b st = dsOk ↔ b = false := by
  cases b
  · exact ⟨fun _ => rfl, fun _ => rfl⟩
  · exact ⟨fun h => absurd h hst, nofun⟩

/-- A write that is answered OK lies in its object's range, and its owner can take it. -/
theorem inRange_of_accepted {s : State} {who : Requester} {k : Key} {v : Val} (h : Accepted s who k v) :
    inRange s who k v = true ∧ writeBusy s who k v true = false := by
  have hlast := firstOf_eq_ok.mp h.2.2 _ (List.mem_cons_of_mem _ (List.mem_cons_of_mem _ (List.mem_cons_of_mem _ List.mem_cons_self)))
  obtain ⟨hrange, hbusy, -⟩ := List.forall_mem_cons.mp (firstOf_eq_ok.mp hlast) |>.imp id List.forall_mem_cons.mp
  exact ⟨by simpa using (failIf_eq_ok (by decide)).mp hrange, (failIf_eq_ok (by decide)).mp hbusy⟩

/-- A scalar in range fits its type. -/
theorem lt_of_scalarOk {r : ObjRow} {n : Nat} (h : scalarOk r n = true) : n < 2 ^ (8 * r.typ.size) := by
  unfold scalarOk at h
  rw [Bool.and_eq_true] at h
  obtain ⟨hsize, -⟩ := h
  split at hsize
  · next htyp =>
    rw [htyp]
    exact lt_of_le_of_lt (of_decide_eq_true hsize) (by decide)
  · next htyp =>
    have hhigh : n / 2 ^ 32 ≤ 31 := of_decide_eq_true hsize
    rw [htyp]
    show n < 2 ^ 64
    omega
  · exact of_decide_eq_true hsize

/-- A number that is accepted fits its object's type. -/
theorem numAsk_accepted {s : State} {who : Requester} {k : Key} {n : Nat} (h : Accepted s who k (.num n)) : numAsk k n = some (.num n) := by
  obtain ⟨hrange, -⟩ := inRange_of_accepted h
  unfold inRange valueOk at hrange
  rw [Bool.and_eq_true] at hrange
  obtain ⟨hvalue, -⟩ := hrange
  unfold numAsk isScalar widthOf
  cases hrow : findRow k with
  | none => rw [hrow] at hvalue; nomatch hvalue
  | some r =>
    rw [hrow] at hvalue
    simp only [Bool.and_eq_true] at hvalue
    obtain ⟨⟨hscalar, hok⟩, -⟩ := hvalue
    exact if_pos ⟨hscalar, lt_of_scalarOk hok⟩

/-- A command that writes a number, where the write is accepted. -/
theorem answers_of_number {c : Instr} {s : State} {who : Requester} {k : Key} {n : Nat} {P : State → Prop}
    (hexec : exec c s = .next (commandWrite s who k (numAsk k n))) (h : Accepted s who k (.num n)) (hfirst : answersFirst who k = false)
    (hP : P (effect s who k (.num n))) : Answers c s who k P := by
  rw [numAsk_accepted h] at hexec
  exact answers_of_accepted hexec h hfirst hP

/-! ### Copies (R63, R64) -/

/-- The copy that a commit writes is the newest afterwards; the one that was the newest stays. -/
theorem newestCopy_commit {d : Vector StoreCopy 2} {s t : State} {c : StoreCopy} (hs : s.dict.copies = d) (hvalid : c.valid = true)
    (hseq : ∀ i x, newestCopy s = some (i, x) → c.seq = x.seq + 1) (ht : t.dict.copies = vmod d (olderCopy s) fun _ => c) :
    newestCopy t = some (olderCopy s, c) ∧ ∀ i x, newestCopy s = some (i, x) → vget t.dict.copies i StoreCopy.reset = x := by
  subst hs
  unfold newestCopy at hseq ⊢
  unfold olderCopy newestCopy at *
  generalize ha : s.dict.copies[0] = a at *
  generalize hb : s.dict.copies[1] = b at *
  by_cases hfirst : (a.valid && (!b.valid || decide (b.seq < a.seq))) = true
  · have hc := hseq 0 a (if_pos hfirst)
    rw [if_pos hfirst] at ht ⊢
    have hlater : ¬c.seq < a.seq := by omega
    refine ⟨?_, fun i x hx => ?_⟩
    · rw [ht]
      simp [vmod, ha, hvalid, hlater]
    · obtain ⟨rfl, rfl⟩ := Prod.mk.inj (Option.some.inj hx)
      rw [ht]
      simp [vget, vmod, ha]
  · by_cases hsecond : b.valid = true
    · have hc := hseq 1 b ((if_neg hfirst).trans (if_pos hsecond))
      rw [if_neg hfirst, if_pos hsecond] at ht ⊢
      refine ⟨?_, fun i x hx => ?_⟩
      · rw [ht]
        simp [vmod, hb, hvalid, hc]
      · obtain ⟨rfl, rfl⟩ := Prod.mk.inj (Option.some.inj hx)
        rw [ht]
        simp [vget, vmod, hb]
    · rw [if_neg hfirst, if_neg hsecond] at ht ⊢
      refine ⟨?_, nofun⟩
      rw [ht]
      simp [vmod, hb, hvalid, hsecond]

/-! ### Snapshots (R62) -/

/-- A fold of puts of each key's own value. -/
theorem find_foldl_put {α : Type} (f : Nat → α) (l : List Nat) (m : SMap α) (k : Nat) :
    SMap.find (l.foldl (fun m j => SMap.put m j (f j)) m) k = if k ∈ l then some (f k) else SMap.find m k := by
  induction l generalizing m with
  | nil => rfl
  | cons j l ih =>
    rw [List.foldl_cons, ih, SMap.find_put]
    by_cases hkl : k ∈ l
    · rw [if_pos hkl, if_pos (List.mem_cons_of_mem j hkl)]
    · by_cases hkj : k = j
      · rw [if_neg hkl, if_pos hkj, hkj, if_pos List.mem_cons_self]
      · rw [if_neg hkl, if_neg hkj, if_neg (by simp [hkl, hkj])]

theorem find_storeSnapshot (s : State) :
    (∀ k ∈ storedKeys, SMap.find (storeSnapshot s) k = some (s.obj k)) ∧
    ∀ k, k ∉ storedKeys → SMap.find (storeSnapshot s) k = SMap.find (storedValues s) k := by
  unfold storeSnapshot
  generalize storedKeys = l
  exact ⟨fun k hk => (find_foldl_put s.obj l _ k).trans (if_pos hk), fun k hk => (find_foldl_put s.obj l _ k).trans (if_neg hk)⟩

/-! ### The commands -/

theorem exec_storeCommit {s : State} {j : StoreJob} (hjob : s.dict.job = some j) (programmed : Bool) : exec (.storeCommit programmed) s =
    .next (nextRecord (((if programmed then (commitCopy s j).setNum Obj.storeResult 0x00 else (s.setNum Obj.storeResult 0x08).raise 71).setJob
      none).setNum Obj.storeState 0)) := by
  show execStoreCommit programmed s = _
  unfold execStoreCommit
  rw [hjob]

theorem nextRecord_none {t : State} (h : t.dict.waitingRecords = []) : nextRecord t = t := by
  unfold nextRecord
  rw [h]

theorem nextRecord_some {t : State} {k : RecordKind} {rest : List RecordKind} (h : t.dict.waitingRecords = k :: rest) :
    nextRecord t = recordBegin { t with dict := { t.dict with waitingRecords := rest } } k := by
  unfold nextRecord
  rw [h]

/-- A record's values are its objects' as they are. -/
theorem recordBegin_effect (t : State) (k : RecordKind) : (recordBegin t k).num Obj.storeState = 1 ∧
    (recordBegin t k).dict.waitingRecords = t.dict.waitingRecords ∧ ∃ x, (recordBegin t k).dict.job = some x ∧ x.whole = false ∧
      ∀ i ∈ k.keys, SMap.find x.values i = some (t.obj i) :=
  ⟨State.num_setNum_self _ _ _, rfl, _, rfl, rfl, fun i hi => (find_foldl_put t.obj k.keys [] i).trans (if_pos hi)⟩

/-- A record's objects are none of the store's own. -/
theorem record_keys {k : RecordKind} {i : Key} (h : i ∈ k.keys) : i ≠ Obj.storeState ∧ i ≠ Obj.storeResult := by
  cases k <;> simp only [RecordKind.keys, List.mem_cons, List.not_mem_nil, or_false] at h
  · subst h; decide
  · subst h; decide
  · rcases h with rfl | rfl <;> decide

/-- What a commit writes becomes the newest copy (R64). -/
theorem newestCopy_commitCopy (s : State) (j : StoreJob) : ∃ c, c.restoreFlag = j.restores s ∧ c.values = j.stored s ∧
    ∀ t : State, t.dict.copies = (commitCopy s j).dict.copies →
      newestCopy t = some (olderCopy s, c) ∧ ∀ i x, newestCopy s = some (i, x) → vget t.dict.copies i StoreCopy.reset = x := by
  cases hnew : newestCopy s with
  | none =>
    refine ⟨⟨true, 1, j.restores s, 1, j.stored s⟩, rfl, rfl, fun t ht => hnew ▸ newestCopy_commit rfl rfl (by rw [hnew]; nofun) (ht.trans ?_)⟩
    unfold commitCopy
    rw [hnew]
  | some p =>
    obtain ⟨n, x⟩ := p
    refine ⟨⟨true, x.seq + 1, j.restores s, x.count + 1, j.stored s⟩, rfl, rfl, fun t ht =>
      hnew ▸ newestCopy_commit rfl rfl (fun i y hy => ?_) (ht.trans ?_)⟩
    · rw [hnew] at hy
      rw [← (Prod.mk.inj (Option.some.inj hy)).2]
    · unfold commitCopy
      rw [hnew]

/-- Settles O35. -/
theorem storesSnapshotAndCommit : Obligations.StoresSnapshotAndCommit := by
  intro s who n j k rest
  refine ⟨fun hacc => ?_, fun hacc => ?_, fun hjob hwait => ?_, fun hjob hwait => ?_, fun hjob hwait => ?_, fun hacc => ?_⟩
  · refine answers_of_number rfl hacc (answersFirst_eq_false who (by decide)) ?_
    have heffect : effect s who Obj.objStore (.num 1) = storeBegin s := rfl
    obtain ⟨hin, hout⟩ := find_storeSnapshot s
    rw [heffect, storeBegin]
    generalize storeSnapshot s = m at hin hout ⊢
    exact ⟨State.num_setNum_self _ _ _, ⟨true, none, m⟩, rfl, rfl, rfl, hin, hout⟩
  · refine answers_of_number rfl hacc (answersFirst_eq_false who (by decide)) ?_
    have heffect : effect s who Obj.objStore (.num 0) = if (0 : Nat) = 1 then storeBegin s else s := rfl
    rw [heffect]
    exact if_neg Nat.zero_ne_one
  · obtain ⟨c, hflag, hvalues, hnewest⟩ := newestCopy_commitCopy s j
    refine ⟨_, (exec_storeCommit hjob true).trans (congrArg _ (nextRecord_none hwait)), ?_⟩
    obtain ⟨hnew, hkept⟩ := hnewest ((((commitCopy s j).setNum Obj.storeResult 0x00).setJob none).setNum Obj.storeState 0) rfl
    refine ⟨State.num_setNum_self _ _ _, (State.num_setNum_other _ _ (by decide)).trans (State.num_setNum_self _ _ _), rfl, ?_, ?_, hkept⟩
    · exact (congrArg (fun o : Option (Nat × StoreCopy) => (o.map fun x : Nat × StoreCopy => x.2.restoreFlag).getD false) hnew).trans hflag
    · exact (congrArg (fun o : Option (Nat × StoreCopy) => (o.map fun x : Nat × StoreCopy => x.2.values).getD []) hnew).trans hvalues
  · refine ⟨_, (exec_storeCommit hjob false).trans (congrArg _ (nextRecord_none hwait)), State.num_setNum_self _ _ _,
      (State.num_setNum_other _ _ (by decide)).trans (State.num_setNum_self s _ _), rfl, rfl, rfl⟩
  · obtain ⟨hstate, hwaiting, x, hx, hwhole, hvalues⟩ := recordBegin_effect
      { (((commitCopy s j).setNum Obj.storeResult 0x00).setJob none).setNum Obj.storeState 0 with
        dict := { ((((commitCopy s j).setNum Obj.storeResult 0x00).setJob none).setNum Obj.storeState 0).dict with waitingRecords := rest } } k
    refine ⟨_, (exec_storeCommit hjob true).trans (congrArg _ (nextRecord_some hwait)), hstate, hwaiting, x, hx, hwhole, fun i hi => ?_⟩
    obtain ⟨hne, hne'⟩ := record_keys hi
    exact (hvalues i hi).trans (congrArg some (((State.obj_setNum _ _ i _).trans (if_neg hne)).trans
      ((State.obj_setNum _ _ i _).trans (if_neg hne'))))
  · refine answers_of_number rfl hacc (answersFirst_eq_false who (by decide)) ?_
    have heffect : effect s who Obj.restoreDefaults (.num n) = recordStore (s.setNum Obj.restoreDefaults n) .restoreFlag := rfl
    rw [heffect]
    cases hjob : s.dict.job with
    | none =>
      have hrecord : recordStore (s.setNum Obj.restoreDefaults n) .restoreFlag = recordBegin (s.setNum Obj.restoreDefaults n) .restoreFlag := by
        unfold recordStore
        show (match s.dict.job with | none => _ | some _ => _) = _
        rw [hjob]
      rw [hrecord]
      refine ⟨(State.num_setNum_other _ _ (by decide)).trans (State.num_setNum_self s _ _), fun _ => ⟨?_, State.num_setNum_self _ _ _⟩,
        fun h => absurd rfl h⟩
      show some (⟨false, some (decide ((s.setNum Obj.restoreDefaults n).num Obj.restoreDefaults = 1)), []⟩ : StoreJob) = _
      rw [State.num_setNum_self]
    | some x =>
      have hrecord : recordStore (s.setNum Obj.restoreDefaults n) .restoreFlag = { s.setNum Obj.restoreDefaults n with
          dict := { s.dict with waitingRecords := s.dict.waitingRecords ++ [.restoreFlag] } } := by
        unfold recordStore
        show (match s.dict.job with | none => _ | some _ => _) = _
        rw [hjob]
        rfl
      rw [hrecord]
      exact ⟨State.num_setNum_self s _ _, nofun, fun _ => rfl⟩

end Sys2Proof.Machine
end

section
/-!
PROOFS. BLOBs and mailboxes (R60, R69, R105, R107, R109, R117, R118, R124).
-/

namespace Sys2Proof.Machine

/-! ### Segments of a BLOB (R60) -/

section
variable {s : State} {who : Requester} {k : Key} {off : Nat} {data : List Byte} (hopen : BlobOpen s who k off data)
include hopen

theorem writeSegment_staged : writeSegment s who k off data false =
    (dsOk, genOf s k, s.setDict { s.dict with stagings := SMap.put s.dict.stagings k ⟨who, ownStaged s who k ++ data⟩ }) := by
  obtain ⟨-, hgate, hlife, hunit, hblob, hoff, hlen, hbusy⟩ := hopen
  unfold writeSegment
  rw [hgate, hlife, hunit, hblob]
  dsimp only
  rw [if_neg (by decide), hbusy, if_neg nofun, if_neg (by omega), Bool.not_false, if_pos rfl]

theorem writeSegment_last : writeSegment s who k off data true =
    let r := applyBlob s k (ownStaged s who k ++ data)
    if r.1 = dsOk then (dsOk, genOf (bumpGen (dropStaging r.2 k) k) k, bumpGen (dropStaging r.2 k) k)
    else (r.1, genOf s k, if r.1 = dsBusy then r.2 else dropStaging r.2 k) := by
  obtain ⟨-, hgate, hlife, hunit, hblob, hoff, hlen, hbusy⟩ := hopen
  unfold writeSegment
  rw [hgate, hlife, hunit, hblob]
  dsimp only
  rw [if_neg (by decide), hbusy, if_neg nofun, if_neg (by omega), Bool.not_true, if_neg nofun]

/-- A whole BLOB that its object takes. -/
theorem commandLast_applied {b : List Byte} {t : State} (hb : ownStaged s who k ++ data = b)
    (happly : applyBlob s k b = (dsOk, t)) :
    commandLast s who k off data = answerPlain who k (bumpGen (dropStaging t k) k) dsOk := by
  unfold commandLast
  rw [writeSegment_last hopen, hb, happly, if_pos hopen.1]
  rfl

/-- A whole BLOB that its object turns away, not for the moment. -/
theorem commandLast_refused {b : List Byte} {t : State} {st : Nat} (hb : ownStaged s who k ++ data = b)
    (happly : applyBlob s k b = (st, t)) (hst : st ≠ dsOk) (hbusy : st ≠ dsBusy) : commandLast s who k off data = answerPlain who k (dropStaging t k) st := by
  unfold commandLast
  rw [writeSegment_last hopen, hb, happly, if_pos hopen.1]
  dsimp only
  rw [if_neg hst, if_neg hbusy]

end

theorem stagingUsed_of {s t : State} {k : Key} (h : t.dict = s.dict) : StagingUsed s (bumpGen (dropStaging t k) k) k := by
  refine ⟨congrArg (fun d : DictSvc => SMap.erase d.stagings k) h, ?_⟩
  have hgen : genOf t k = genOf s k := congrArg (fun d : DictSvc => SMap.findD d.gens k 0) h
  rw [← hgen]
  exact (congrArg (·.getD 0) (SMap.find_put_self _ _ _))

theorem stagingRefused_of {s t : State} {k : Key} (h : t.dict = s.dict) : StagingRefused s (dropStaging t k) k :=
  ⟨congrArg (fun d : DictSvc => SMap.erase d.stagings k) h, (congrArg (fun d : DictSvc => SMap.findD d.gens k 0) h : genOf t k = genOf s k)⟩

theorem bolhobaBlockWrite_completes {s : State} {h : BolhobaHeader} {off : Nat} {data : List Byte} (hheard : bolhobaHeard s h = true)
    (hopen : BlobOpen s (bolhobaWho h.port) (hdrKey h) off data) (hlen : data.length ≤ 960) :
    Completes (.bolhobaBlockWrite h off false data) s fun t =>
      stagingOf t (hdrKey h) = some ⟨bolhobaWho h.port, ownStaged s (bolhobaWho h.port) (hdrKey h) ++ data⟩ ∧ t.objs = s.objs ∧
      genOf t (hdrKey h) = genOf s (hdrKey h) := by
  have hexec : exec (.bolhobaBlockWrite h off false data) s = execBolhobaBlockWrite h off false data s := rfl
  unfold execBolhobaBlockWrite at hexec
  rw [hheard, if_neg nofun, if_neg (by omega), writeSegment_staged hopen] at hexec
  exact ⟨_, hexec, SMap.find_put_self _ _ _, rfl, rfl⟩

/-! ### What each object does with its BLOB (R105, R107, R109, R117, R118, R124) -/

section
variable {s : State} {who : Requester} {off : Nat} {data : List Byte}

theorem ownerKeyWrite_answers (hopen : BlobOpen s who Obj.ownerKey off data)
    (hkey : ownStaged s who Obj.ownerKey ++ data = [] ∨
      (ownStaged s who Obj.ownerKey ++ data).length = 1952 ∧ countersigned s (ownStaged s who Obj.ownerKey ++ data) = true) :
    Answers (.ownerKeyWrite who off data) s who Obj.ownerKey fun t =>
      t.fw.ownerKey = ownStaged s who Obj.ownerKey ++ data ∧
      t.num Obj.ownerKeyState = (if ownStaged s who Obj.ownerKey ++ data = [] then 0 else 1) ∧ StagingUsed s t Obj.ownerKey := by
  generalize hb : ownStaged s who Obj.ownerKey ++ data = b at hkey ⊢
  have happly : applyBlob s Obj.ownerKey b =
      (dsOk, (s.setFw { s.fw with ownerKey := b }).setNum Obj.ownerKeyState (if b.isEmpty then 0 else 1)) :=
    if_pos (hkey.imp_left List.isEmpty_iff.mpr)
  refine ⟨_, congrArg _ (commandLast_applied hopen hb happly), rfl, ?_, stagingUsed_of rfl⟩
  refine (State.num_setNum_self (s.setFw { s.fw with ownerKey := b }) Obj.ownerKeyState (if b.isEmpty then 0 else 1)).trans ?_
  simp only [List.isEmpty_iff]

theorem applyBlob_chain (s : State) (chain : Fin 2) (b : List Byte) : applyBlob s (chainKey chain) b = chainAsk s chain b := by
  match chain with
  | 0 => rfl
  | 1 => rfl

theorem certChainWrite_answers {chain : Fin 2} (hopen : BlobOpen s who (chainKey chain) off data) :
    AnswersWith (.certChainWrite who chain off data) s who (chainKey chain) fun t st =>
      if (ownStaged s who (chainKey chain) ++ data).length ≤ 16384 ∧ Config.leafHolds (ownStaged s who (chainKey chain) ++ data) (pubkeyOf s) = true then
        st = dsOk ∧ t.str (chainKey chain) = ownStaged s who (chainKey chain) ++ data ∧ StagingUsed s t (chainKey chain)
      else st = dsRange ∧ t.objs = s.objs ∧ StagingRefused s t (chainKey chain) := by
  generalize hb : ownStaged s who (chainKey chain) ++ data = b
  have happly := applyBlob_chain s chain b
  by_cases hgood : b.length ≤ 16384 ∧ Config.leafHolds b (pubkeyOf s) = true
  · have htaken : applyBlob s (chainKey chain) b = (dsOk, s.setStr (chainKey chain) b) := happly.trans (if_pos hgood)
    refine ⟨_, _, congrArg _ (commandLast_applied hopen hb htaken), ?_⟩
    dsimp only
    rw [if_pos hgood]
    exact ⟨rfl, State.str_setStr_self s _ _, stagingUsed_of rfl⟩
  · have hturned : applyBlob s (chainKey chain) b = (dsRange, s) := happly.trans (if_neg hgood)
    refine ⟨_, _, congrArg _ (commandLast_refused hopen hb hturned (by decide) (by decide)), ?_⟩
    dsimp only
    rw [if_neg hgood]
    exact ⟨rfl, rfl, stagingRefused_of rfl⟩

theorem bundleStageLast_answers (hopen : BlobOpen s who Obj.bundleStage off data) (hidle : s.fw.bundleWriting = none) :
    AnswersWith (.bundleStageLast who off data) s who Obj.bundleStage fun t st => t.fw.bundle = s.fw.bundle ∧ t.fw.bundleCopies = s.fw.bundleCopies ∧
      if bundleAccepted (ownStaged s who Obj.bundleStage ++ data) s.fw.ownerKey (minSecurity s) (presentMask s) (s.num Obj.formatRpm)
          (if s.host.namespaces.isEmpty then none else some s.fw.bundle) = true then
        st = dsOk ∧ t.fw.bundleWriting = some ((ownStaged s who Obj.bundleStage ++ data).take (bundleLen (ownStaged s who Obj.bundleStage ++ data))) ∧
          StagingUsed s t Obj.bundleStage
      else st = dsRange ∧ t.fw = s.fw ∧ t.raised = s.raised ++ [{ source := 68, unit := 0, detail := 0 }] ∧ StagingRefused s t Obj.bundleStage := by
  generalize hb : ownStaged s who Obj.bundleStage ++ data = b
  have happly : applyBlob s Obj.bundleStage b = bundleAsk s b := rfl
  unfold bundleAsk at happly
  dsimp only at happly
  by_cases hgood : bundleAccepted b s.fw.ownerKey (minSecurity s) (presentMask s) (s.num Obj.formatRpm)
      (if s.host.namespaces.isEmpty then none else some s.fw.bundle) = true
  · rw [hgood, if_neg nofun, hidle, if_neg nofun] at happly
    refine ⟨_, _, congrArg _ (commandLast_applied hopen hb happly), rfl, rfl, ?_⟩
    rw [if_pos hgood]
    exact ⟨rfl, rfl, stagingUsed_of rfl⟩
  · rw [Bool.eq_false_of_not_eq_true hgood, Bool.not_false, if_pos rfl] at happly
    refine ⟨_, _, congrArg _ (commandLast_refused hopen hb happly (by decide) (by decide)), rfl, rfl, ?_⟩
    rw [if_neg hgood]
    exact ⟨rfl, rfl, rfl, stagingRefused_of rfl⟩

theorem recoveryImageLast_answers (hopen : BlobOpen s who Obj.recoveryImage off data) (hidle : s.fw.programming = none)
    (hslot : s.num Obj.recoverySlot < 2) : AnswersWith (.recoveryImageLast who off data) s who Obj.recoveryImage fun t st =>
      if imageAccepted (ownStaged s who Obj.recoveryImage ++ data) s.fw.ownerKey (minSecurity s) = true then
        st = dsOk ∧ (imageSlot t (s.num Obj.recoverySlot)).state = 3 ∧ StagingUsed s t Obj.recoveryImage ∧ t.fw.programming =
          some ⟨s.num Obj.recoverySlot, (ownStaged s who Obj.recoveryImage ++ data).take (imageLen (ownStaged s who Obj.recoveryImage ++ data)),
            true, false, none⟩
      else st = dsRange ∧ t.fw = s.fw ∧ t.raised = s.raised ++ [{ source := 64, unit := 0, detail := 0 }] ∧ StagingRefused s t Obj.recoveryImage := by
  generalize hb : ownStaged s who Obj.recoveryImage ++ data = b
  have hmode : ¬(s.start.mode ≠ .maintenance ∧ s.start.mode ≠ .romMaintenance) := by
    obtain ⟨-, -, -, -, -, -, -, hbusy⟩ := hopen
    unfold blobBusy at hbusy
    rintro ⟨hm, hr⟩
    simp [hm, hr] at hbusy
  have happly : applyBlob s Obj.recoveryImage b = recoveryAsk s b := rfl
  unfold recoveryAsk at happly
  rw [if_neg hmode] at happly
  by_cases hgood : imageAccepted b s.fw.ownerKey (minSecurity s) = true
  · rw [hgood, if_neg nofun, hidle, if_neg nofun] at happly
    refine ⟨_, _, congrArg _ (commandLast_applied hopen hb happly), ?_⟩
    dsimp only
    rw [if_pos hgood]
    exact ⟨rfl, congrArg ImageSlot.state (vget_vmod_self _ _ _ _ hslot), stagingUsed_of rfl, rfl⟩
  · rw [Bool.eq_false_of_not_eq_true hgood, Bool.not_false, if_pos rfl] at happly
    refine ⟨_, _, congrArg _ (commandLast_refused hopen hb happly (by decide) (by decide)), ?_⟩
    dsimp only
    rw [if_neg hgood]
    exact ⟨rfl, rfl, rfl, stagingRefused_of rfl⟩

end

/-! ### Mailboxes (R69) -/

/-- A core's write of its MB_CMD starts its mailbox. -/
theorem effect_mbCmd (s : State) (who : Requester) (core : Fin 9) (cmd : Nat) :
    effect s who (Obj.mbCmd core) (.num cmd) = mailboxStart s core cmd := by
  fin_cases core <;> rfl

theorem answersFirst_mbCmd (who : Requester) (core : Nat) : answersFirst who (Obj.mbCmd core) = false :=
  answersFirst_eq_false who (by unfold Obj.mbCmd Obj.restart Obj.lifecycleRequest Obj.portEnable Key; omega)

/-- The objects of a mailbox are its own. -/
theorem mbCmd_ne (core : Nat) : Obj.mbCmd core ≠ Obj.mbStatus core ∧ Obj.mbCmd core ≠ Obj.mbGen core ∧ Obj.mbStatus core ≠ Obj.mbGen core := by
  unfold Obj.mbCmd Obj.mbStatus Obj.mbGen Key
  omega

section
variable {s : State} {core : Fin 9}

/-- What a mailbox command does, where it is accepted. -/
theorem mailbox_answers {c : Instr} {cmd : Nat} (hexec : exec c s = .next (mailboxWrite s core cmd)) (hcmd : cmd ≠ 0)
    (hacc : Accepted s (.core core) (Obj.mbCmd core) (.num cmd)) :
    (inDram (s.num (Obj.mbAddr core)) (s.num (Obj.mbLength core)) = true → Answers c s (.core core) (Obj.mbCmd core) fun t =>
      t.num (Obj.mbCmd core) = cmd ∧ t.num (Obj.mbStatus core) = dsBusy ∧ SMap.find t.dict.mailbox core = some ⟨decide (cmd ≠ 1), decide (cmd = 3),
        s.num (Obj.mbObject core) % 2 ^ 24, s.num (Obj.mbAddr core), s.num (Obj.mbOffset core), s.num (Obj.mbLength core)⟩) ∧
    (inDram (s.num (Obj.mbAddr core)) (s.num (Obj.mbLength core)) = false → Answers c s (.core core) (Obj.mbCmd core) fun t =>
      t.num (Obj.mbCmd core) = 0 ∧ t.num (Obj.mbStatus core) = dsRange ∧ t.dict = s.dict) := by
  have hne := (mbCmd_ne core).1
  refine ⟨fun hin => ?_, fun hout => ?_⟩
  · refine answers_of_accepted hexec hacc (answersFirst_mbCmd _ _) ?_
    rw [effect_mbCmd, mailboxStart, if_neg hcmd]
    dsimp only
    rw [hin, if_neg nofun]
    exact ⟨(State.num_setNum_other _ _ hne).trans (State.num_setNum_self _ _ _), State.num_setNum_self _ _ _, SMap.find_put_self _ _ _⟩
  · refine answers_of_accepted hexec hacc (answersFirst_mbCmd _ _) ?_
    rw [effect_mbCmd, mailboxStart, if_neg hcmd]
    dsimp only
    rw [hout, Bool.not_false, if_pos rfl]
    exact ⟨(State.num_setNum_other _ _ hne).trans (State.num_setNum_self _ _ _), State.num_setNum_self _ _ _, rfl⟩

/-- The end of a transfer (R69). -/
theorem mailboxEnd_effect (t : State) (core status gen : Nat) : (mailboxEnd t core status gen).num (Obj.mbCmd core) = 0 ∧
    (mailboxEnd t core status gen).num (Obj.mbStatus core) = status ∧
    (mailboxEnd t core status gen).dict = { t.dict with mailbox := SMap.erase t.dict.mailbox core } ∧ (mailboxEnd t core status gen).mem = t.mem := by
  obtain ⟨hne, hgen, hstatus⟩ := mbCmd_ne core
  exact ⟨(State.num_setNum_other _ _ hgen).trans ((State.num_setNum_other _ _ hne).trans (State.num_setNum_self _ _ _)),
    (State.num_setNum_other _ _ hstatus).trans (State.num_setNum_self _ _ _), rfl, rfl⟩

variable {j : MailboxJob} (hjob : SMap.find s.dict.mailbox core = some j) (hscalar : isScalar j.key = false)
include hjob hscalar

theorem mbTransferDone_read (hwrite : j.write = false) (hblob : isBlob j.key = false) (hread : Readable s (.core core) j.key) :
    Completes (.mbTransferDone core) s fun t => (t.num (Obj.mbCmd core) = 0 ∧ t.num (Obj.mbStatus core) = dsOk ∧
      t.dict.mailbox = SMap.erase s.dict.mailbox core) ∧
      t.mem = (cachedWrite s j.addr (slice (valBytes j.key (view s (.core core) j.key)) j.offset j.len)).mem := by
  have hmove : mailboxMove s (.core core) core j =
      mailboxEnd (cachedWrite s j.addr (slice (valBytes j.key (view s (.core core) j.key)) j.offset j.len)) core dsOk 0 := by
    unfold mailboxMove
    rw [hscalar, if_neg (fun h => Bool.false_ne_true h.2), hwrite, Bool.not_false, if_pos rfl, readSegment_readable hread hblob]
    rfl
  have hexec : exec (.mbTransferDone core) s = .next (mailboxMove s (.core core) core j) := by
    show execMbTransferDone core s = _
    unfold execMbTransferDone
    rw [hjob]
    exact if_pos hread.1
  have hdict : (cachedWrite s j.addr (slice (valBytes j.key (view s (.core core) j.key)) j.offset j.len)).dict = s.dict  :=
    within_iff.mp (@cachedWrite_frame [.objs, .mem, .free] s (touch_of rfl) (touch_of rfl) (touch_of rfl) s _ _ (.refl _ s)) .dict (by decide)
  rw [hmove] at hexec
  obtain ⟨hcmd, hstatus, hmailbox, hmem⟩ := mailboxEnd_effect
    (cachedWrite s j.addr (slice (valBytes j.key (view s (.core core) j.key)) j.offset j.len)) core dsOk 0
  exact ⟨_, hexec, ⟨hcmd, hstatus, (congrArg DictSvc.mailbox hmailbox).trans (congrArg (fun d : DictSvc => SMap.erase d.mailbox core) hdict)⟩, hmem⟩

theorem mbTransferDone_write (hwrite : j.write = true) (hlast : j.last = false) (hclean : cachedPoisoned s.mem j.addr j.len = false)
    (hopen : BlobOpen s (.core core) j.key j.offset (cachedRead s.mem j.addr j.len)) :
    Completes (.mbTransferDone core) s fun t => (t.num (Obj.mbCmd core) = 0 ∧ t.num (Obj.mbStatus core) = dsOk ∧
      t.dict.mailbox = SMap.erase s.dict.mailbox core) ∧
      stagingOf t j.key = some ⟨.core core, ownStaged s (.core core) j.key ++ cachedRead s.mem j.addr j.len⟩ ∧ t.mem = s.mem := by
  have hsegment := writeSegment_staged hopen
  have hheard := hopen.1
  obtain ⟨-, hgate, -, hunit, hblob, -⟩ := hopen
  have hexec : exec (.mbTransferDone core) s = .next (mailboxMove s (.core core) core j) := by
    show execMbTransferDone core s = _
    unfold execMbTransferDone
    rw [hjob]
    exact if_pos hheard
  unfold mailboxMove at hexec
  rw [hscalar, if_neg (fun h => Bool.false_ne_true h.2), hwrite, Bool.not_true, if_neg nofun, hgate, hunit] at hexec
  dsimp only at hexec
  rw [hclean, if_neg (fun h => Bool.false_ne_true h.2), hblob, if_pos rfl, hlast, hsegment] at hexec
  obtain ⟨hcmd, hstatus, hmailbox, hmem⟩ := mailboxEnd_effect (s.setDict { s.dict with
    stagings := SMap.put s.dict.stagings j.key ⟨.core core, ownStaged s (.core core) j.key ++ cachedRead s.mem j.addr j.len⟩ }) core dsOk
    (genOf s j.key)
  exact ⟨_, hexec, ⟨hcmd, hstatus, congrArg DictSvc.mailbox hmailbox⟩,
    (congrArg (fun d : DictSvc => SMap.find d.stagings j.key) hmailbox).trans (SMap.find_put_self _ _ _), hmem⟩

end

/-- Settles O39. -/
theorem blobsAreStagedAndApplied : Obligations.BlobsAreStagedAndApplied := by
  intro s who h core chain off index sub data j
  refine ⟨bolhobaBlockWrite_completes, ownerKeyWrite_answers, certChainWrite_answers, bundleStageLast_answers, recoveryImageLast_answers,
    fun hacc => ?_, fun hacc => ?_, fun hacc => ?_, fun hjob hwrite hscalar hblob hread => mbTransferDone_read hjob hscalar hwrite hblob hread,
    fun hjob hwrite hlast hscalar hclean hopen => mbTransferDone_write hjob hscalar hwrite hlast hclean hopen, rfl⟩
  · exact mailbox_answers (c := .mbRead core) rfl (by decide) hacc
  · exact mailbox_answers (c := .mbWrite core) rfl (by decide) hacc
  · exact mailbox_answers (c := .mbWriteLast core) rfl (by decide) hacc

end Sys2Proof.Machine
end

section
/-!
PROOFS. Writes that act on players, preamps, rings, rein groups and traces (R180, R206, R227, R229, R271, R275, R278, R280).
-/

namespace Sys2Proof.Machine

/-! ### Accepted writes of the units' objects -/

section
variable {c : Instr} {s : State} {who : Requester} {k : Key} {P : State → Prop} (hunit : 0x200000 ≤ k)
include hunit

/-- No unit's object is answered before its effect. -/
theorem answersFirst_of_unit (who : Requester) : answersFirst who k = false := by
  refine answersFirst_eq_false who ?_
  unfold Key at hunit
  unfold Obj.restart Obj.lifecycleRequest Obj.portEnable Key
  omega

theorem answers_of_acceptedNum {n : Nat} (hexec : exec c s = .next (commandWrite s who k (numAsk k n))) (h : AcceptedNum s who k n)
    (hP : P (effect s who k (.num n))) : Answers c s who k P :=
  answers_of_number hexec h.2 (answersFirst_of_unit hunit who) hP

theorem answers_of_acceptedRec {b : List Byte} (hexec : exec c s = .next (commandWrite s who k (recAsk k b))) (h : AcceptedRec s who k b)
    (hP : P (effect s who k (.bytes b))) : Answers c s who k P := by
  rw [h.1] at hexec
  exact answers_of_accepted hexec h.2 (answersFirst_of_unit hunit who) hP

end

/-! ### Each object's effect -/

section
variable (s : State) (who : Requester) (n : Nat) (b : List Byte)

theorem effect_loadAddr (p : Fin 8) : effect s who (Obj.loadAddr p) (.num n) = loadBegin s p n := by fin_cases p <;> rfl

theorem effect_objAbort (p : Fin 8) : effect s who (Obj.objAbort p) (.num 1) = playerAbort s p := by fin_cases p <;> rfl

theorem effect_preampAccess (a : Fin 4) : effect s who (Obj.preampAccess a) (.bytes b) = queueFrame s a (accessFrame b) := by fin_cases a <;> rfl

theorem effect_ringTail (r : Fin 4) : effect s who (Obj.ringTail r) (.num n) = s.setNum (Obj.ringTail r) n := by fin_cases r <;> rfl

theorem effect_coefWrite (g : Fin 5) : effect s who (Obj.coefWrite g) (.bytes b) = coefQueue s g b := by fin_cases g <;> rfl

theorem effect_snapRequest (g : Fin 5) :
    effect s who (Obj.snapRequest g) (.num 1) = s.modGroup g fun x => { x with snapPending := true } := by fin_cases g <;> rfl

theorem effect_inject (g : Fin 5) : effect s who (Obj.inject g) (.num n) = injectAsk s g n := by fin_cases g <;> rfl

theorem effect_traceArm (a : Fin 4) : effect s who (Obj.traceArm a) (.num 1) =
    (s.modTrace a fun _ => ⟨[], 0, 0, 0, false⟩).setNum (Obj.traceState a) 1 := by fin_cases a <;> rfl

theorem effect_traceForce (a : Fin 4) : effect s who (Obj.traceForce a) (.num 1) = s.modTrace a fun t => { t with forced := true } := by
  fin_cases a <;> rfl

end

/-! ### Players (R227, R229) -/

theorem sentenceLoad_answers {s : State} {core : Fin 9} {p : Fin 8} {addr : Nat} (h : AcceptedNum s (.core core) (Obj.loadAddr p) addr) :
    Answers (.sentenceLoad core p addr) s (.core core) (Obj.loadAddr p) fun t =>
      t.num (Obj.loadState p) = 1 ∧ t.num (Obj.loadAddr p) = addr ∧ (t.playerOf p).loadAddr = addr ∧
      (t.playerOf p).loadOrder = (s.actOf (p / 2)).loadCount ∧ (t.actOf (p / 2)).loadCount = (s.actOf (p / 2)).loadCount + 1 := by
  refine answers_of_acceptedNum (by unfold Obj.loadAddr Key; omega) rfl h ?_
  have hne : Obj.loadAddr p ≠ Obj.loadState p := by
    unfold Obj.loadAddr Obj.loadState Key
    omega
  have hplayer := playerOf_modPlayer (s.modAct (p / 2) fun x => { x with loadCount := (s.actOf (p / 2)).loadCount + 1 })
    (fun pl => { pl with loadAddr := addr, loadOrder := (s.actOf (p / 2)).loadCount }) p.isLt
  have hact := actOf_modAct s (a := p / 2) (fun x => { x with loadCount := (s.actOf (p / 2)).loadCount + 1 }) (by omega)
  rw [effect_loadAddr]
  exact ⟨State.num_setNum_self _ _ _, (State.num_setNum_other _ _ hne).trans (State.num_setNum_self _ (Obj.loadAddr p) addr),
    congrArg Player.loadAddr hplayer, congrArg Player.loadOrder hplayer, congrArg Actuator.loadCount hact⟩

theorem playerAbort_answers {s : State} {core : Fin 9} {p : Fin 8} (h : AcceptedNum s (.core core) (Obj.objAbort p) 1) :
    Answers (.playerAbort core p 1) s (.core core) (Obj.objAbort p) fun t =>
      (s.num (Obj.loadState p) = 3 → (s.playerOf p).clause ≠ .stalled → (t.playerOf p).abortAsked = true ∧ t.objs = s.objs) ∧
      (s.num (Obj.loadState p) = 3 → (s.playerOf p).clause = .stalled → SentenceEnded t p .aborted) ∧
      (s.num (Obj.loadState p) = 2 → t.num (Obj.loadState p) = 0 ∧ (t.playerOf p).outcome = some .discarded) := by
  refine answers_of_acceptedNum (by unfold Obj.objAbort Key; omega) rfl h ?_
  rw [effect_objAbort]
  unfold playerAbort
  refine ⟨fun hplays hruns => ?_, fun hplays hstalled => ?_, fun hready => ?_⟩
  · rw [hplays]
    rw [askAbort, if_neg hruns]
    exact ⟨congrArg Player.abortAsked (playerOf_modPlayer s _ p.isLt), rfl⟩
  · rw [hplays]
    rw [askAbort, if_pos hstalled]
    exact (giveUp_over (sampleEvents s p) p.isLt .aborted).ended
  · rw [hready]
    rw [discardReady, dropReady, if_pos hready]
    obtain ⟨hstate, houtcome, -⟩ := finishSentence_ended
      (if (s.playerOf p).preroll then s.modAct (playerAct p) fun x => { x with playing := none } else s) p.isLt .discarded
    exact ⟨hstate, houtcome⟩

/-! ### The preamp (R180) -/

theorem sendNext_busy {s : State} {a : Nat} (h : (s.chanOf a).onBus ≠ none) : sendNext s a = s := by
  unfold sendNext
  dsimp only
  split
  · rfl
  · next hbus => exact absurd hbus h

/-- The only frame that waits goes on the idle bus. -/
theorem sendNext_one {s : State} {a : Nat} {f : PreampFrame} (hidle : (s.chanOf a).onBus = none) (hone : (s.chanOf a).frames = [f])
    (hprio : f.priority = 4) : sendNext s a = (s.modChan a fun c => { c with onBus := some f, frames := c.frames.erase f }).emit
      (.preamp a f.reg f.data (bit (byteAt (formatRecord s a) 9) 1) (bit (byteAt (formatRecord s a) 9) 2) (frameLevels (formatRecord s a) f.reg f.data)) := by
  have hpick : ((List.range 5).findSome? fun p => [f].find? (·.priority = p)) = some f := by
    simp [List.range, List.range.loop, hprio]
  unfold sendNext
  dsimp only
  rw [hidle, hone]
  dsimp only
  rw [hpick]
  rfl

theorem preampAccess_answers {s : State} {who : Requester} {a : Fin 4} {b : List Byte} (h : AcceptedRec s who (Obj.preampAccess a) b) :
    Answers (.preampAccess who a b) s who (Obj.preampAccess a) fun t =>
      ((s.chanOf a).onBus = none → (s.chanOf a).frames = [] → (t.chanOf a).onBus = some (accessFrame b) ∧ (t.chanOf a).frames = [] ∧
        t.outs = .preamp a (accessFrame b).reg (accessFrame b).data (bit (byteAt (formatRecord s a) 9) 1) (bit (byteAt (formatRecord s a) 9) 2)
          (frameLevels (formatRecord s a) (accessFrame b).reg (accessFrame b).data) :: s.outs) ∧
      ((s.chanOf a).onBus ≠ none → (t.chanOf a).frames = (s.chanOf a).frames ++ [accessFrame b] ∧ t.outs = s.outs) := by
  refine answers_of_acceptedRec (by unfold Obj.preampAccess Key; omega) rfl h ?_
  rw [effect_preampAccess, queueFrame]
  have hchan := chanOf_modChan s (fun c => { c with frames := c.frames ++ [accessFrame b] }) a.isLt
  generalize hu : (s.modChan a fun c => { c with frames := c.frames ++ [accessFrame b] }) = u at hchan ⊢
  have houts : u.outs = s.outs := by rw [← hu]; rfl
  have hformat : formatRecord u a = formatRecord s a := by rw [← hu]; rfl
  refine ⟨fun hidle hnone => ?_, fun hbusy => ?_⟩
  · have hone : (u.chanOf a).frames = [accessFrame b] := by rw [hchan, hnone]; rfl
    have hsent := chanOf_modChan u (fun c => { c with onBus := some (accessFrame b), frames := c.frames.erase (accessFrame b) }) a.isLt
    rw [sendNext_one (by rw [hchan]; exact hidle) hone rfl, hformat]
    refine ⟨congrArg Channel.onBus hsent, (congrArg Channel.frames hsent).trans ?_, congrArg (_ :: ·) houts⟩
    rw [hone]
    simp
  · rw [sendNext_busy (by rw [hchan]; exact hbusy)]
    exact ⟨congrArg Channel.frames hchan, houts⟩

/-! ### Rein groups and traces (R206, R271, R275, R278, R280) -/

/-- A change of the engines in a list. -/
theorem engineOf_eachEngine (f : Engine → Engine) {l : List Nat} (hl : l.Nodup) {e : Nat} (he : e ∈ l) (he16 : e < 16) (s : State) :
    (s.each l fun s e => s.modEngine e f).engineOf e = f (s.engineOf e) := by
  have hother : ∀ (l : List Nat) (t : State), e ∉ l → (t.each l fun s e => s.modEngine e f).engineOf e = t.engineOf e := fun l t hout =>
    State.each_inv (P := fun u => u.engineOf e = t.engineOf e) rfl fun u x hx hu =>
      (engineOf_modEngine_other u f (ne_of_mem_of_not_mem hx hout)).trans hu
  induction l generalizing s with
  | nil => exact absurd he List.not_mem_nil
  | cons x l ih =>
    obtain ⟨hx, hrest⟩ := List.nodup_cons.mp hl
    by_cases hex : e = x
    · subst hex
      exact (hother l _ hx).trans (engineOf_modEngine s f he16)
    · exact (ih hrest ((List.mem_cons.mp he).resolve_left hex) _).trans (congrArg f (engineOf_modEngine_other s f fun h => hex h.symm))

theorem coefWrite_answers {s : State} {who : Requester} {g : Fin 5} {e : Fin 16} {b : List Byte} (h : AcceptedRec s who (Obj.coefWrite g) b) :
    Answers (.coefWrite who g b) s who (Obj.coefWrite g) fun t =>
      e.val ∈ groupEngines s g → (t.engineOf e).coefDue = (s.engineOf e).coefDue ++ [(fieldAt b 0 2, coefOf (b.drop 4))] := by
  refine answers_of_acceptedRec (by unfold Obj.coefWrite Key; omega) rfl h fun hin => ?_
  rw [effect_coefWrite]
  exact congrArg Engine.coefDue (engineOf_eachEngine (fun x => { x with coefDue := x.coefDue ++ [(fieldAt b 0 2, coefOf (b.drop 4))] })
    (List.nodup_range.filter _) hin e.isLt s)

theorem inject_answers {s : State} {who : Requester} {g : Fin 5} {e : Fin 16} {n : Nat} (h : AcceptedNum s who (Obj.inject g) n) :
    Answers (.inject who g n) s who (Obj.inject g) fun t =>
      e.val ∈ groupEngines s g → (s.engineOf e).slot = n → (∀ x ∈ groupEngines s g, (s.engineOf x).slot = n → x = e.val) →
        (t.engineOf e).injectNext = true ∧ (t.engineOf e).injections = (s.engineOf e).injections + 1 := by
  refine answers_of_acceptedNum (by unfold Obj.inject Key; omega) rfl h fun hin hslot honly => ?_
  have hfind : ((groupEngines s g).find? fun e => decide ((s.engineOf e).slot = n)) = some e.val := by
    cases hf : (groupEngines s g).find? fun e => decide ((s.engineOf e).slot = n) with
    | none => exact absurd (decide_eq_true hslot) (List.find?_eq_none.mp hf _ hin)
    | some x =>
      have hx := List.find?_some hf
      rw [decide_eq_true_eq] at hx
      rw [honly x (List.mem_of_find?_eq_some hf) hx]
  have hengine := engineOf_modEngine s (fun x => { x with injectNext := true, injections := x.injections + 1 }) e.isLt
  rw [effect_inject, injectAsk, hfind]
  exact ⟨congrArg Engine.injectNext hengine, congrArg Engine.injections hengine⟩

/-- Settles O41: the write of each object, and its effect. -/
theorem writesActOnPlayersAndGroups : Obligations.WritesActOnPlayersAndGroups := by
  intro s who core p a g e addr n b
  refine ⟨sentenceLoad_answers, playerAbort_answers, preampAccess_answers, fun hlow hhigh h => ?_, coefWrite_answers, fun h => ?_, inject_answers,
    fun h => ?_, fun h => ?_⟩
  · have hexec : exec (.ringTailWrite core n) s =
        .next (commandWrite s (.core core) (Obj.ringTail (core - 4)) (numAsk (Obj.ringTail (core - 4)) n)) := if_pos ⟨hlow, hhigh⟩
    exact answers_of_acceptedNum (by unfold Obj.ringTail Key; omega) hexec h (effect_ringTail s _ n ⟨core - 4, by omega⟩)
  · refine answers_of_acceptedNum (by unfold Obj.snapRequest Key; omega) rfl h ?_
    rw [effect_snapRequest]
    exact ⟨congrArg Group.snapPending (groupOf_modGroup s _ g.isLt), rfl⟩
  · refine answers_of_acceptedNum (by unfold Obj.traceArm Key; omega) rfl h ?_
    rw [effect_traceArm]
    exact ⟨State.num_setNum_self _ _ _, vget_vmod_self _ _ _ _ a.isLt⟩
  · refine answers_of_acceptedNum (by unfold Obj.traceForce Key; omega) rfl h ?_
    rw [effect_traceForce]
    exact ⟨congrArg Trace.forced (vget_vmod_self _ _ _ _ a.isLt), rfl⟩

end Sys2Proof.Machine
end

section
/-!
PROOFS. Girth frames, phase and health (R310, R311, R320, R327).
-/

namespace Sys2Proof.Machine

/-! ### Own frames (R312) -/

/-- A state in which a frame is sent as it is in another: the same queue, line, clocks and hop number. -/
structure SendsAs (s u : State) : Prop where
  runs : girthRuns u = true
  tx : u.girth.tx = s.girth.tx
  line : u.girth.lineFree = s.girth.lineFree
  tick : u.num Obj.tick = s.num Obj.tick
  hop : u.num Obj.hop = s.num Obj.hop
  drops : u.num Obj.txDrops = s.num Obj.txDrops
  outs : u.outs = s.outs
  offset : u.num Obj.epochOffset = s.num Obj.epochOffset
  drift : u.girth.drift = s.girth.drift

/-- The objects that a frame's sending reads. -/
def sendKeys : List Key :=
  [Obj.tick, Obj.hop, Obj.txDrops, Obj.epochOffset, Obj.girthInputState, Obj.girthInputEnable]

theorem SendsAs.refl {s : State} (h : girthRuns s = true) : SendsAs s s := ⟨h, rfl, rfl, rfl, rfl, rfl, rfl, rfl, rfl⟩

/-- Receiving is told by the girth input's objects, the start and the supplies. -/
theorem girthRuns_of_nums {s t : State} (hstate : t.num Obj.girthInputState = s.num Obj.girthInputState)
    (henable : t.num Obj.girthInputEnable = s.num Obj.girthInputEnable) (hstart : t.start = s.start) (hpower : t.power = s.power) :
    girthRuns t = girthRuns s := by
  unfold girthRuns girthDelivers mainPowered
  rw [hstate, henable, hstart, hpower]

/-- Other objects do not matter to a frame. -/
theorem SendsAs.objects {s u v : State} (h : SendsAs s u) (hnum : ∀ k ∈ sendKeys, v.num k = u.num k) (hgirth : v.girth = u.girth)
    (houts : v.outs = u.outs) (hstart : v.start = u.start) (hpower : v.power = u.power) : SendsAs s v := by
  have hruns := girthRuns_of_nums (hnum Obj.girthInputState (by decide)) (hnum Obj.girthInputEnable (by decide)) hstart hpower
  exact ⟨hruns.trans h.runs, (congrArg Girth.tx hgirth).trans h.tx, (congrArg Girth.lineFree hgirth).trans h.line,
    (hnum _ (by decide)).trans h.tick, (hnum _ (by decide)).trans h.hop, (hnum _ (by decide)).trans h.drops, houts.trans h.outs,
    (hnum _ (by decide)).trans h.offset, (congrArg Girth.drift hgirth).trans h.drift⟩

theorem SendsAs.setNum {s u : State} (h : SendsAs s u) {k : Key} (hk : k ∉ sendKeys) (n : Nat) : SendsAs s (u.setNum k n) :=
  h.objects (fun _ hj => State.num_setNum_other u n (ne_of_mem_of_not_mem hj hk)) rfl rfl rfl rfl

/-- Nor does the rest of the girth. -/
theorem SendsAs.setGirth {s u : State} (h : SendsAs s u) {g : Girth} (htx : g.tx = u.girth.tx) (hline : g.lineFree = u.girth.lineFree)
    (hdrift : g.drift = u.girth.drift) : SendsAs s (u.setGirth g) :=
  ⟨h.runs, htx.trans h.tx, hline.trans h.line, h.tick, h.hop, h.drops, h.outs, h.offset, hdrift.trans h.drift⟩

/-- The master's time is told by the clock, its offset and its drift. -/
theorem masterTick_congr {s u : State} (htick : u.num Obj.tick = s.num Obj.tick) (hoffset : u.num Obj.epochOffset = s.num Obj.epochOffset)
    (hdrift : u.girth.drift = s.girth.drift) : masterTick u = masterTick s := by
  unfold masterTick epochNow State.tick
  rw [htick, hoffset, hdrift]

theorem leavingPayload_congr {s u : State} (h : masterTick u = masterTick s) (typ payload : Nat) :
    leavingPayload u typ payload = leavingPayload s typ payload := by
  unfold leavingPayload
  rw [h]

/-- What a frame's queueing leaves is told by the queue, the line, the outputs and the count of drops. -/
theorem Queued.congr {s t u : State} {typ payload : Nat} (h : Queued s t typ payload) (htx : u.girth.tx = t.girth.tx)
    (hline : u.girth.lineFree = t.girth.lineFree) (houts : u.outs = t.outs) (hdrops : u.num Obj.txDrops = t.num Obj.txDrops) :
    Queued s u typ payload := by
  unfold Queued Counted at h ⊢
  rw [htx, hline, houts, hdrops]
  exact h

theorem txInsert_ne_nil (l : List (Nat × Nat)) (x : Nat × Nat) : txInsert l x ≠ [] := by
  unfold txInsert
  split <;> simp

/-- The first frame leaves when the line is idle. -/
theorem txLeave_leaves {v : State} {x : Nat × Nat} {rest : List (Nat × Nat)} (hfront : v.girth.tx = x :: rest) (hruns : girthRuns v = true)
    (hline : v.girth.lineFree ≤ v.tick) : txLeave v =
      (v.emit (.girth (girthFrame x.1 (girthHop v) (if x.1 = gtSync then fld (leavingPayload v x.1 x.2) 29 20 else 0)
        (leavingPayload v x.1 x.2) true))).setGirth { v.girth with
          tx := rest, lineFree := v.tick + 34
          lastSync := if x.1 = gtSync then some (fld (leavingPayload v x.1 x.2) 83 30, fld (leavingPayload v x.1 x.2) 29 20) else v.girth.lastSync } := by
  unfold txLeave
  rw [hfront]
  dsimp only
  rw [hruns, if_pos (by simpa using hline)]

theorem sendFrame_queued {s u : State} (h : SendsAs s u) (typ payload : Nat) : Queued s (sendFrame u typ payload) typ payload := by
  have hmaster := masterTick_congr h.tick h.offset h.drift
  obtain ⟨hruns, htx, hline, htick, hhop, hdrops, houts, -, -⟩ := h
  unfold sendFrame
  rw [hruns, if_neg nofun, htx]
  refine ⟨fun hfull => ?_, fun hroom hbusy => ?_, fun hroom hidle => ?_⟩
  · rw [if_neg (by omega)]
    refine ⟨by rw [State.girth_bump, htx], by rw [State.outs_bump, houts], fun hlt => ?_⟩
    rw [← hdrops] at hlt ⊢
    exact counted_bump Obj.txDrops u hlt
  · rw [if_pos hroom, txLeave_of_busy_line _ (by
      show ¬u.girth.lineFree ≤ u.num Obj.tick
      omega)]
    exact ⟨rfl, houts⟩
  · rw [if_pos hroom]
    obtain ⟨x, rest, hl⟩ := List.exists_cons_of_ne_nil (txInsert_ne_nil s.girth.tx (typ, payload))
    rw [hl]
    have hruns' : girthRuns (u.setGirth { u.girth with tx := x :: rest }) = true := hruns
    have hmaster' : masterTick (u.setGirth { u.girth with tx := x :: rest }) = masterTick s := hmaster
    have hfree : u.girth.lineFree ≤ u.num Obj.tick := by omega
    rw [txLeave_leaves rfl hruns' hfree, leavingPayload_congr hmaster']
    exact ⟨rfl, congrArg (· + 34) htick, by rw [← houts, ← hhop]; rfl⟩

/-- Of the girth only the queue, the line and the last SYNC differ by a frame. -/
theorem sendFrame_girth (u : State) (typ payload : Nat) : ∃ tx line sync,
    (sendFrame u typ payload).girth = { u.girth with tx := tx, lineFree := line, lastSync := sync } := by
  unfold sendFrame
  split
  · exact ⟨_, _, _, rfl⟩
  · split
    · unfold txLeave
      split
      · split
        · exact ⟨_, _, _, rfl⟩
        · exact ⟨_, _, _, rfl⟩
      · exact ⟨_, _, _, rfl⟩
    · exact ⟨_, _, _, State.girth_bump u _⟩

theorem sendFrame_num (u : State) (typ payload : Nat) {k : Key} (hk : k ≠ Obj.txDrops) : (sendFrame u typ payload).num k = u.num k :=
  At.num_eq (@sendFrame_at k _ ⟨hk⟩ u typ payload (At.self u))

theorem sendFrame_sameBut (u : State) (typ payload : Nat) : SameBut [.objs, .girth, .outs, .free] u (sendFrame u typ payload) :=
  within_iff.mp (@sendFrame_frame [.objs, .girth, .outs, .free] u (touch_of rfl) (touch_of rfl) (touch_of rfl) (touch_of rfl) u typ payload (.refl _ u))

/-! ### Frames that arrive (R310) -/

/-- The state from which a frame that is taken acts: its copy has gone on, and the fifo holds it. -/
def arrived (s : State) (typ : Nat) (h : GirthHeader) (payload : Nat) : State := rxTake (forward s typ h payload)

theorem receive_arrived {s : State} {h : GirthHeader} (hruns : girthRuns s = true) (hcrc : h.crc = .good) (hroom : rxHeld s < 8) (typ payload : Nat)
    (deliver : State → State) : receive s typ h payload deliver = deliver (arrived s typ h payload) := receive_good hruns hcrc hroom typ payload deliver

section
variable {s : State} {h : GirthHeader} (hroom : rxHeld s < 8) (typ payload : Nat)
include hroom

theorem arrived_eq : arrived s typ h payload = (forward s typ h payload).setGirth { (forward s typ h payload).girth with
    rxTick := (forward s typ h payload).tick, rxCount := rxHeld s + 1 } := by
  unfold arrived rxTake
  rw [rxHeld_forward, if_pos hroom]

/-- Of the girth only the line's time and the fifo's count differ by an arrival. -/
theorem arrived_girth : ∃ line, (arrived s typ h payload).girth = { (rxTake s).girth with lineFree := line } := by
  obtain ⟨line, hgirth⟩ := forward_girth s typ h payload
  have htick : (forward s typ h payload).tick = s.tick := State.num_congr (forward_sameBut s typ h payload .objs (by decide)) _
  refine ⟨line, ?_⟩
  rw [arrived_eq hroom, htick, hgirth, rxTake, if_pos hroom]
  rfl

/-- What the frame's commands read of the girth is as it was. -/
theorem arrived_girth_rest : ∃ line tick count, (arrived s typ h payload).girth =
    { s.girth with rxTick := tick, rxCount := count, lineFree := line } := by
  obtain ⟨line, hgirth⟩ := arrived_girth hroom typ payload
  refine ⟨line, s.tick, rxHeld s + 1, hgirth.trans ?_⟩
  rw [rxTake, if_pos hroom]
  rfl

theorem arrived_sameBut : SameBut [.girth, .outs] s (arrived s typ h payload) := by
  rw [arrived_eq hroom]
  exact within_iff.mp (@State.setGirth_frame [.girth, .outs] s (touch_of rfl) _ _ (within_iff.mpr (forward_sameBut s typ h payload)))

theorem arrived_num (k : Key) : (arrived s typ h payload).num k = s.num k := State.num_congr (arrived_sameBut hroom typ payload .objs (by decide)) k

end

/-- Receiving depends on the objects, the start and the supplies. -/
theorem girthRuns_sameBut {s t : State} {T : List Part} (h : SameBut T s t) (hT : Part.objs ∉ T ∧ Part.start ∉ T ∧ Part.power ∉ T) :
    girthRuns t = girthRuns s := girthRuns_congr (h .objs hT.1) (h .start hT.2.1) (h .power hT.2.2)

/-! ### Frames of a type that the device does not know (R310, R311) -/

/-- A frame that comes from elsewhere, and has hops left, is forwarded. -/
theorem forward_unknown {s : State} {typ : Nat} {h : GirthHeader} (payload : Nat) (hpower : mainPowered s = true) (htyp : typ = 0 ∨ 5 < typ) :
    forward s typ h payload = if h.origin = s.num Obj.hop ∨ h.hops = 1023 then s else
      (s.emit (.girth (girthFrame typ h.origin (min 1023 (h.hops + 1)) payload (decide (h.crc = .good))))).setGirth
        { s.girth with lineFree := s.tick + 40 } := by
  have hsync : typ ≠ gtSync := by unfold gtSync; omega
  have hdict : typ ≠ gtDict := by unfold gtDict; omega
  have hforwards : forwards s typ h payload = !decide (h.origin = s.num Obj.hop ∨ h.hops = 1023) := by
    simp [forwards, hsync, hdict, girthHop]
    rfl
  unfold forward
  rw [hpower, hforwards]
  by_cases hback : h.origin = s.num Obj.hop ∨ h.hops = 1023
  · rw [if_pos hback, decide_eq_true hback, if_neg nofun]
  · rw [if_neg hback, decide_eq_false hback, if_pos (by decide)]
    dsimp only
    rw [if_neg (fun hx => hsync hx.1)]

theorem girthUnknownType_completes {s : State} {h : GirthHeader} {typ payload : Nat} (htyp : typ = 0 ∨ 5 < typ) (hgood : s.power.powerGood = true)
    (hrails : s.power.railsOff = false) : Completes (.girthUnknownType h typ payload) s fun t =>
      (h.origin ≠ s.num Obj.hop → h.hops < 1023 →
        t.outs = .girth (girthFrame typ h.origin (h.hops + 1) payload (decide (h.crc = .good))) :: s.outs ∧
        t.girth = { s.girth with lineFree := s.num Obj.tick + 40 }) ∧
      (h.origin = s.num Obj.hop ∨ h.hops = 1023 → t.outs = s.outs ∧ t.girth = s.girth) ∧
      (h.crc = .bad → Counted Obj.crcErrors s t ∧ t.raised = s.raised ++ [{ source := 39, unit := 0, detail := 0 }]) ∧
      (h.crc = .poisoned → Counted Obj.poisoned s t ∧ t.raised = s.raised) ∧ (h.crc = .good → t.objs = s.objs ∧ t.raised = s.raised) := by
  have hpower : mainPowered s = true := by rw [mainPowered, hgood, hrails]; rfl
  have hforward := forward_unknown (h := h) payload hpower htyp
  have hsame := forward_sameBut s typ h payload
  have hobjs : (forward s typ h payload).objs = s.objs := hsame .objs (by decide)
  have hraised : (forward s typ h payload).raised = s.raised := hsame .raised (by decide)
  have hexec : exec (.girthUnknownType h typ payload) s = .next (countCrc (forward s typ h payload) h.crc) := if_neg (by omega)
  clear hsame
  generalize forward s typ h payload = u at hforward hobjs hraised hexec
  have houts : (countCrc u h.crc).outs = u.outs ∧ (countCrc u h.crc).girth = u.girth := by
    cases h.crc
    · exact ⟨rfl, rfl⟩
    · exact ⟨State.outs_bump u Obj.poisoned, State.girth_bump u Obj.poisoned⟩
    · exact ⟨State.outs_bump u Obj.crcErrors, State.girth_bump u Obj.crcErrors⟩
  refine ⟨_, hexec, fun horigin hhops => ?_, fun hback => ?_, fun hcrc => ?_, fun hcrc => ?_, fun hcrc => ?_⟩
  · rw [if_neg (not_or_intro horigin (by omega)), min_eq_right (by omega)] at hforward
    rw [houts.1, houts.2, hforward]
    exact ⟨rfl, rfl⟩
  · rw [if_pos hback] at hforward
    rw [houts.1, houts.2, hforward]
    exact ⟨rfl, rfl⟩
  · rw [hcrc]
    refine ⟨fun hlt => ?_, congrArg (· ++ _) ((State.raised_bump u _).trans hraised)⟩
    rw [← State.num_congr hobjs] at hlt ⊢
    exact counted_bump Obj.crcErrors u hlt
  · rw [hcrc]
    refine ⟨fun hlt => ?_, (State.raised_bump u _).trans hraised⟩
    rw [← State.num_congr hobjs] at hlt ⊢
    exact counted_bump Obj.poisoned u hlt
  · rw [hcrc]
    exact ⟨hobjs, hraised⟩

/-! ### PHASE (R320) -/

/-- The phase that is assigned where it comes out whole. -/
theorem assignPhase_num {s : State} {group slot : Nat}
    (hslot : (if s.num Obj.phaseSlot = 0xFF then s.num Obj.hop % max group 1 else s.num Obj.phaseSlot) = slot)
    (hwhole : slot * 2 ^ 32 % max group 1 = 0) : (assignPhase s group).num Obj.assignedPhase =
      ofSigned 32 ((slot * 2 ^ 32 / max group 1 : Nat) + toSigned 32 (s.num Obj.phaseOffset)) := by
  have hquotient : quotient ((slot * 2 ^ 32 : Nat) : Int) (max group 1) = ((slot * 2 ^ 32 / max group 1 : Nat) : Int) := by
    unfold quotient
    rw [if_pos (by exact_mod_cast hwhole), Nat.cast_zero, add_zero]
    exact (Int.natCast_div _ _).symm
  subst hslot
  refine (State.num_setNum_self _ _ _).trans ?_
  exact congrArg (fun q => ofSigned 32 (q + toSigned 32 (s.num Obj.phaseOffset))) hquotient

/-- What a member takes from PHASE. -/
def phaseTaken (s : State) (rpm group : Nat) : State :=
  let s := s.setGirth { s.girth with phaseTick := some s.tick, phaseGroup := group, phaseRpm := rpm }
  if rpm ≠ s.num Obj.formatRpm ∧ !s.girth.rpmMismatch then (s.setGirth { s.girth with rpmMismatch := true }).raise 43 0 2 else s

theorem phaseTaken_effect (u : State) (rpm group : Nat) : (phaseTaken u rpm group).objs = u.objs ∧
    (phaseTaken u rpm group).girth.phaseTick = some u.tick ∧ (phaseTaken u rpm group).girth.phaseGroup = group ∧
    (phaseTaken u rpm group).girth.phaseRpm = rpm ∧
    (rpm ≠ u.num Obj.formatRpm → u.girth.rpmMismatch = false → (phaseTaken u rpm group).girth.rpmMismatch = true ∧
      (phaseTaken u rpm group).raised = u.raised ++ [{ source := 43, unit := 0, detail := 2 }]) ∧
    (rpm = u.num Obj.formatRpm → (phaseTaken u rpm group).raised = u.raised) := by
  unfold phaseTaken
  dsimp only
  split
  · next hwrong => exact ⟨rfl, rfl, rfl, rfl, fun _ _ => ⟨rfl, rfl⟩, fun h => absurd h hwrong.1⟩
  · next hright => exact ⟨rfl, rfl, rfl, rfl, fun h hm => absurd ⟨h, by rw [State.setGirth]; simp [hm]⟩ hright, fun _ => rfl⟩

section
variable {s : State} {h : GirthHeader} (hruns : girthRuns s = true)
include hruns

theorem girthPhase_completes {rpm group : Nat} (hcrc : h.crc = .good) (hroom : rxHeld s < 8) (hmember : s.num Obj.girthState = 1) :
    Completes (.girthPhase h rpm group) s fun t =>
      t.girth.phaseTick = some (s.num Obj.tick) ∧ t.girth.phaseGroup = group ∧ t.girth.phaseRpm = rpm ∧
      (∀ slot, (if s.num Obj.phaseSlot = 0xFF then s.num Obj.hop % max group 1 else s.num Obj.phaseSlot) = slot → slot * 2 ^ 32 % max group 1 = 0 →
        t.num Obj.assignedPhase = ofSigned 32 ((slot * 2 ^ 32 / max group 1 : Nat) + toSigned 32 (s.num Obj.phaseOffset))) ∧
      (rpm ≠ s.num Obj.formatRpm → s.girth.rpmMismatch = false →
        t.girth.rpmMismatch = true ∧ t.raised = s.raised ++ [{ source := 43, unit := 0, detail := 2 }]) ∧
      (rpm = s.num Obj.formatRpm → t.raised = s.raised) := by
  have hreceive := receive_arrived hruns hcrc hroom gtPhase (rpm % 65536 * 2 ^ 68 + group % 16 * 2 ^ 64)
  have hnum := arrived_num hroom (h := h) gtPhase (rpm % 65536 * 2 ^ 68 + group % 16 * 2 ^ 64)
  have hraised : (arrived s gtPhase h (rpm % 65536 * 2 ^ 68 + group % 16 * 2 ^ 64)).raised = s.raised :=
    arrived_sameBut hroom gtPhase _ .raised (by decide)
  obtain ⟨line, tick, count, hgirth⟩ := arrived_girth_rest hroom (h := h) gtPhase (rpm % 65536 * 2 ^ 68 + group % 16 * 2 ^ 64)
  generalize arrived s gtPhase h (rpm % 65536 * 2 ^ 68 + group % 16 * 2 ^ 64) = u at hreceive hnum hraised hgirth
  have hexec : exec (.girthPhase h rpm group) s = .next (assignPhase (phaseTaken u rpm group) group) := by
    show execGirthPhase h rpm group s = _
    unfold execGirthPhase
    rw [hreceive, hnum, hmember]
    rfl
  obtain ⟨hobjs, htick, hgroup, hrpm, hwrong, hright⟩ := phaseTaken_effect u rpm group
  have hnums : ∀ k, (phaseTaken u rpm group).num k = s.num k := fun k => (State.num_congr hobjs k).trans (hnum k)
  rw [hnum] at hwrong hright
  refine ⟨_, hexec, htick.trans (congrArg some (hnum _)), hgroup, hrpm, fun slot hslot hwhole => ?_, fun hne hold => ?_, fun heq => ?_⟩
  · rw [← hnums Obj.phaseOffset]
    rw [← hnums Obj.phaseSlot, ← hnums Obj.hop] at hslot
    exact assignPhase_num hslot hwhole
  · obtain ⟨hmark, hevent⟩ := hwrong hne (by rw [hgirth]; exact hold)
    exact ⟨hmark, hevent.trans (congrArg (· ++ _) hraised)⟩
  · exact (hright heq).trans hraised

theorem phasePeriod_completes (hmaster : s.num Obj.girthState = 2) : Completes .phasePeriod s fun t =>
    Queued s t 2 (s.num Obj.formatRpm % 65536 * 2 ^ 68 + s.num Obj.phaseGroup % 16 * 2 ^ 64) ∧
    t.girth.phaseTick = some (s.num Obj.tick) ∧ t.girth.phaseRpm = s.num Obj.formatRpm := by
  have hexec : exec .phasePeriod s = .next (sendFrame (assignPhase (s.setGirth { s.girth with
      phaseTick := some s.tick, phaseGroup := s.num Obj.phaseGroup, phaseRpm := s.num Obj.formatRpm }) (s.num Obj.phaseGroup)) gtPhase
      (s.num Obj.formatRpm % 65536 * 2 ^ 68 + s.num Obj.phaseGroup % 16 * 2 ^ 64)) := by
    show execPhasePeriod s = _
    unfold execPhasePeriod
    rw [hmaster, hruns]
    rfl
  have hsends : SendsAs s (s.setGirth { s.girth with
      phaseTick := some s.tick, phaseGroup := s.num Obj.phaseGroup, phaseRpm := s.num Obj.formatRpm }) := (SendsAs.refl hruns).setGirth rfl rfl rfl
  have hphase : SendsAs s (assignPhase (s.setGirth { s.girth with
      phaseTick := some s.tick, phaseGroup := s.num Obj.phaseGroup, phaseRpm := s.num Obj.formatRpm }) (s.num Obj.phaseGroup)) :=
    hsends.setNum (by decide) _
  have hgirth : (assignPhase (s.setGirth { s.girth with
      phaseTick := some s.tick, phaseGroup := s.num Obj.phaseGroup, phaseRpm := s.num Obj.formatRpm }) (s.num Obj.phaseGroup)).girth = { s.girth with
      phaseTick := some s.tick, phaseGroup := s.num Obj.phaseGroup, phaseRpm := s.num Obj.formatRpm } := rfl
  generalize assignPhase (s.setGirth { s.girth with
      phaseTick := some s.tick, phaseGroup := s.num Obj.phaseGroup, phaseRpm := s.num Obj.formatRpm }) (s.num Obj.phaseGroup) = u at hexec hphase hgirth
  obtain ⟨tx, line, sync, hsent⟩ := sendFrame_girth u gtPhase (s.num Obj.formatRpm % 65536 * 2 ^ 68 + s.num Obj.phaseGroup % 16 * 2 ^ 64)
  exact ⟨_, hexec, sendFrame_queued hphase _ _, by rw [hsent, hgirth]; rfl, by rw [hsent, hgirth]⟩

/-! ### HEALTH (R327) -/

theorem sendHealth_sent : Queued s (sendHealth s) 4 (healthPayload s.senseTj) ∧ (sendHealth s).girth.lastHealth = some (s.num Obj.tick) ∧
    (sendHealth s).girth.healthPending = false := by
  have hsends : SendsAs s s.senseTj := ((SendsAs.refl hruns).objects (v := s.draw.2) (fun _ _ => rfl) rfl rfl rfl rfl).setNum (by decide) _
  have hqueued := sendFrame_queued hsends gtHealth (healthPayload s.senseTj)
  have htick : (sendFrame s.senseTj gtHealth (healthPayload s.senseTj)).tick = s.num Obj.tick :=
    (sendFrame_num _ _ _ (by decide)).trans hsends.tick
  unfold sendHealth
  dsimp only
  generalize sendFrame s.senseTj gtHealth (healthPayload s.senseTj) = u at hqueued htick ⊢
  exact ⟨hqueued.congr rfl rfl rfl rfl, congrArg some htick, rfl⟩

theorem healthPeriod_due (hjoined : girthJoined s = true) : exec .healthPeriod s =
    .next (if healthAllowed s then sendHealth s else s.setGirth { s.girth with healthPending := true }) := by
  show Host.Outcome.next (healthDue s) = _
  unfold healthDue
  rw [hjoined, hruns, if_neg nofun]

theorem exec_healthDeferred (hjoined : girthJoined s = true) (hallowed : healthAllowed s = true) (hpending : s.girth.healthPending = true) :
    exec .healthDeferred s = .next (sendHealth s) := by
  show execHealthDeferred s = _
  unfold execHealthDeferred
  rw [hpending, hallowed, hjoined, hruns, if_pos (by decide)]

theorem girthHealth_completes {payload : List Byte} (hjoined : girthJoined s = true) (hcrc : h.crc = .good) (hroom : rxHeld s < 8)
    (hnear : 1 ≤ ((h.origin : Int) - s.num Obj.hop).natAbs) (hfar : ((h.origin : Int) - s.num Obj.hop).natAbs ≤ 8) :
    Completes (.girthHealth h payload) s fun t =>
      SMap.find t.girth.neighbours ((h.origin : Int) - s.num Obj.hop + 8).toNat = some (h.origin, s.num Obj.tick, leNat payload % 2 ^ 84) := by
  have hreceive := receive_arrived hruns hcrc hroom gtHealth (leNat payload % 2 ^ 84)
  have hnum := arrived_num hroom (h := h) gtHealth (leNat payload % 2 ^ 84)
  generalize arrived s gtHealth h (leNat payload % 2 ^ 84) = u at hreceive hnum
  have hjoined' : girthJoined u = true := by
    rw [girthJoined, hnum]
    exact hjoined
  have hexec : exec (.girthHealth h payload) s = .next (u.setGirth { u.girth with
      neighbours := SMap.put u.girth.neighbours ((h.origin : Int) - s.num Obj.hop + 8).toNat (h.origin, u.tick, leNat payload % 2 ^ 84) }) := by
    show execGirthHealth h payload s = _
    unfold execGirthHealth
    dsimp only
    rw [hreceive, girthHop, hnum, if_pos ⟨hjoined', hnear, hfar⟩]
  refine ⟨_, hexec, (SMap.find_put_self _ _ _).trans ?_⟩
  rw [State.tick, hnum]

end

/-- Settles O30. -/
theorem girthFramesPhaseAndHealth : Obligations.GirthFramesPhaseAndHealth := by
  refine ⟨fun s h typ payload => girthUnknownType_completes, fun s h rpm group payload => ⟨fun hruns hcrc hroom hmember => ?_,
    fun hruns hmaster => phasePeriod_completes hruns hmaster, fun hruns hjoined hallowed => ?_, fun hruns hjoined hwait => ?_,
    fun hruns hjoined hallowed hpending => ⟨_, exec_healthDeferred hruns hjoined hallowed hpending, sendHealth_sent hruns⟩,
    fun hruns hjoined hcrc hroom hnear hfar => girthHealth_completes hruns hjoined hcrc hroom hnear hfar⟩⟩
  · obtain ⟨t, hexec, htick, hgroup, hrpm, hphase, hwrong, hright⟩ := girthPhase_completes hruns hcrc hroom hmember (rpm := rpm) (group := group)
    exact ⟨t, hexec, htick, hgroup, hrpm, hphase _ rfl, hwrong, hright⟩
  · have hexec := healthPeriod_due hruns hjoined
    rw [hallowed, if_pos rfl] at hexec
    exact ⟨_, hexec, sendHealth_sent hruns⟩
  · exact (healthPeriod_due hruns hjoined).trans (congrArg _ (if_neg (ne_true_of_eq_false hwait)))

end Sys2Proof.Machine
end

section
/-!
PROOFS. Girth announcements, seeks and dictionary requests (R312, R322, R323, R326, R329).
-/

namespace Sys2Proof.Machine

/-! ### The current second (R312) -/

/-- A new second changes its counts only. -/
theorem newSecond_effect (s : State) : ∃ n a b c, newSecond s = s.setGirth { s.girth with second := n, seekSent := a, dictSent := b, requestsSent := c } := by
  unfold newSecond
  dsimp only
  split
  · exact ⟨s.girth.second, s.girth.seekSent, s.girth.dictSent, s.girth.requestsSent, rfl⟩
  · exact ⟨_, _, _, _, rfl⟩

theorem newSecond_second (s : State) : (newSecond s).girth.second = s.tick / 25000000 := by
  unfold newSecond
  dsimp only
  split
  · next h => exact h.symm
  · rfl

/-- A new second begins once. -/
theorem newSecond_newSecond (s : State) : newSecond (newSecond s) = newSecond s := by
  have htick : (newSecond s).tick = s.tick := by
    obtain ⟨_, _, _, _, h⟩ := newSecond_effect s
    rw [h]
    rfl
  rw [newSecond]
  dsimp only
  rw [newSecond_second, htick, if_pos rfl]

theorem newSecond_sends {s : State} (hruns : girthRuns s = true) : SendsAs s (newSecond s) := by
  obtain ⟨_, _, _, _, h⟩ := newSecond_effect s
  rw [h]
  exact (SendsAs.refl hruns).setGirth rfl rfl rfl

theorem newSecond_num (s : State) (k : Key) : (newSecond s).num k = s.num k := by
  obtain ⟨_, _, _, _, h⟩ := newSecond_effect s
  rw [h]
  rfl

/-! ### SEEK frames (R322) -/

theorem sendSeek_queued {s u : State} (h : SendsAs s u) (payload : Nat) : Queued s (sendSeek u payload) 3 payload ∧
    (sendSeek u payload).girth.seekSent = u.girth.seekSent + 1 ∧ (sendSeek u payload).girth.ownAnnounced = u.girth.ownAnnounced := by
  have hqueued := sendFrame_queued h gtSeek payload
  obtain ⟨tx, line, sync, hgirth⟩ := sendFrame_girth u gtSeek payload
  unfold sendSeek
  generalize sendFrame u gtSeek payload = v at hqueued hgirth
  refine ⟨hqueued.congr rfl rfl rfl rfl, ?_, ?_⟩
  · show v.girth.seekSent + 1 = _
    rw [hgirth]
  · show v.girth.ownAnnounced = _
    rw [hgirth]

/-! ### Announcements that arrive (R322, R323) -/

section
variable {s : State} {h : GirthHeader} (hruns : girthRuns s = true) (hcrc : h.crc = .good) (hroom : rxHeld s < 8) {start profile set : Nat} {act : Fin 4} {d : Int}
include hruns hcrc hroom

/-- The state on which a SEEK frame acts: objects, firmware and announcements are as they were. -/
theorem exec_girthSeek (start profile set : Nat) (act : Fin 4) (d : Int) : ∃ u : State, exec (.girthSeek h start profile act d set) s =
    .next (deliverSeek u h start profile act d set) ∧ u.objs = s.objs ∧ u.fw = s.fw ∧ localTick u start = localTick s start ∧
    (∃ line, u.girth = { (rxTake s).girth with lineFree := line }) ∧ u.girth.announcements = s.girth.announcements ∧
    u.girth.nextAnnouncement = s.girth.nextAnnouncement := by
  generalize hpay : start % 2 ^ 32 * 2 ^ 52 + profile % 65536 * 2 ^ 36 + act.val * 2 ^ 34 + ofSigned 25 d * 2 ^ 9 + set % 256 * 2 = pay
  have hexec : exec (.girthSeek h start profile act d set) s = .next (receive s gtSeek h
    (start % 2 ^ 32 * 2 ^ 52 + profile % 65536 * 2 ^ 36 + act.val * 2 ^ 34 + ofSigned 25 d * 2 ^ 9 + set % 256 * 2)
    fun s => deliverSeek s h start profile act.val d set) := rfl
  rw [hpay, receive_arrived hruns hcrc hroom] at hexec
  have hnum := arrived_num hroom (h := h) gtSeek pay
  have hsame := arrived_sameBut hroom (h := h) gtSeek pay
  obtain ⟨line, tick, count, hgirth⟩ := arrived_girth_rest hroom (h := h) gtSeek pay
  have hmaster : masterTick (arrived s gtSeek h pay) = masterTick s := masterTick_congr (hnum _) (hnum _) (by rw [hgirth])
  have hlocal : localTick (arrived s gtSeek h pay) start = localTick s start := by
    unfold localTick State.tick
    rw [hmaster, hnum]
  exact ⟨_, hexec, hsame .objs (by decide), hsame .fw (by decide), hlocal, arrived_girth hroom gtSeek pay, by rw [hgirth], by rw [hgirth]⟩

/-- What the conditions of a SEEK that is tracked say (R323). -/
def Applies (s : State) (h : GirthHeader) (profile set : Nat) : Prop :=
  girthJoined s = true ∧ 1 ≤ ((h.origin : Int) - s.num Obj.hop).natAbs ∧ ((h.origin : Int) - s.num Obj.hop).natAbs ≤ 8 ∧ s.num Obj.ffEnable = 1 ∧
  hasCoupling s.fw.bundle = true ∧ set % 256 = profileSetId s.fw.bundle % 256 ∧
  ((profilesInForce s 0).any fun p => decide (p.number = profile)) = true ∧ s.girth.announcements.length < 16

omit hruns hcrc hroom in
theorem deliverSeek_eq {u : State} (hobjs : u.objs = s.objs) (hfw : u.fw = s.fw) (hann : u.girth.announcements = s.girth.announcements)
    (hprofile : profile ≠ 0xFFFF) [Decidable (Applies s h profile set)] : deliverSeek u h start profile act d set =
      if Applies s h profile set then
        (u.setGirth { u.girth with
          announcements := u.girth.announcements ++ [{
            id := u.girth.nextAnnouncement, start := localTick u start, master := start % 2 ^ 32, profile := profile, act := act, d := d
            hopDiff := (h.origin : Int) - girthHop u, sumPF := .replicate 4 0, sumF2 := .replicate 4 0, overlapped := .replicate 4 false }]
          nextAnnouncement := u.girth.nextAnnouncement + 1 }).bump Obj.seeksHeard
      else u.bump Obj.seeksIgnored := by
  have hnum := State.num_congr hobjs
  have hjoined : girthJoined u = girthJoined s := by rw [girthJoined, hnum, girthJoined]
  have hprofiles : profilesInForce u 0 = profilesInForce s 0 := by rw [profilesInForce, hfw, profilesInForce, groupRecord, hfw, groupRecord]
  have hcond : (girthJoined u && decide (1 ≤ ((h.origin : Int) - girthHop u).natAbs ∧ ((h.origin : Int) - girthHop u).natAbs ≤ 8) &&
      decide (u.num Obj.ffEnable = 1) && hasCoupling u.fw.bundle && decide (set % 256 = profileSetId u.fw.bundle % 256) &&
      ((profilesInForce u 0).any fun p => decide (p.number = profile)) && decide (u.girth.announcements.length < 16)) = true ↔
      Applies s h profile set := by
    rw [hjoined, girthHop, hnum, hnum, hprofiles, hfw, hann, Applies]
    simp only [Bool.and_eq_true, decide_eq_true_eq, and_assoc]
  unfold deliverSeek
  dsimp only
  rw [if_neg hprofile]
  exact if_congr hcond rfl rfl

omit hruns hcrc hroom in
/-- A SEEK of profile 0xFFFF takes away the announcements that it names. -/
theorem cancelSeek_eq (u : State) (h : GirthHeader) : deliverSeek u h start 0xFFFF act d set = u.setGirth { u.girth with
    announcements := u.girth.announcements.filter fun x =>
      !decide (x.hopDiff = (h.origin : Int) - girthHop u ∧ x.act = act ∧ x.master = start % 2 ^ 32) } := by
  unfold deliverSeek
  dsimp only
  rw [if_pos rfl]

/-- An announcement whose conditions hold is tracked under the next number. -/
theorem girthSeek_applied (hprofile : profile ≠ 0xFFFF) (happ : Applies s h profile set) : Completes (.girthSeek h start profile act d set) s fun t =>
    Counted Obj.seeksHeard s t ∧ ∃ x, t.girth.announcements = s.girth.announcements ++ [x] ∧ x.id = s.girth.nextAnnouncement ∧
      x.profile = profile ∧ x.act = act.val ∧ x.d = d ∧ x.hopDiff = (h.origin : Int) - s.num Obj.hop ∧ x.start = localTick s start ∧
      x.master = start % 2 ^ 32 := by
  classical
  obtain ⟨u, hexec, hobjs, hfw, hlocal, -, hann, hnext⟩ := exec_girthSeek hruns hcrc hroom start profile set act d
  refine ⟨_, hexec, ?_⟩
  rw [deliverSeek_eq hobjs hfw hann hprofile, if_pos happ]
  have hafter : ∀ x, (((u.setGirth { u.girth with
      announcements := u.girth.announcements ++ [x], nextAnnouncement := u.girth.nextAnnouncement + 1 }).bump Obj.seeksHeard).girth.announcements) =
      s.girth.announcements ++ [x] := fun x => by
    rw [State.girth_bump]
    exact congrArg (· ++ [x]) hann
  have hcount : ∀ g, Counted Obj.seeksHeard s ((u.setGirth g).bump Obj.seeksHeard) := fun g =>
    Counted.of_num (u := u.setGirth g) (State.num_congr hobjs _) (counted_bump _ _)
  refine ⟨hcount _, _, hafter _, hnext, rfl, rfl, rfl, ?_, hlocal, rfl⟩
  show (h.origin : Int) - u.num Obj.hop = _
  rw [State.num_congr hobjs]

/-- One whose conditions do not hold is counted. -/
theorem girthSeek_ignored (hprofile : profile ≠ 0xFFFF) (happ : ¬Applies s h profile set) :
    Completes (.girthSeek h start profile act d set) s fun t =>
      Counted Obj.seeksIgnored s t ∧ t.girth = { (rxTake s).girth with lineFree := t.girth.lineFree } := by
  classical
  obtain ⟨u, hexec, hobjs, hfw, -, ⟨line, hgirth⟩, hann, -⟩ := exec_girthSeek hruns hcrc hroom start profile set act d
  refine ⟨_, hexec, ?_⟩
  rw [deliverSeek_eq hobjs hfw hann hprofile, if_neg happ]
  refine ⟨Counted.of_num (State.num_congr hobjs _) (counted_bump _ _), ?_⟩
  rw [State.girth_bump, hgirth]

/-- The same SEEK with profile 0xFFFF cancels what it announced. -/
theorem girthSeek_cancelled : Completes (.girthSeek h start 0xFFFF act d set) s fun t =>
    ∀ x, x ∈ t.girth.announcements ↔
      x ∈ s.girth.announcements ∧ ¬(x.hopDiff = (h.origin : Int) - s.num Obj.hop ∧ x.act = act.val ∧ x.master = start % 2 ^ 32) := by
  obtain ⟨u, hexec, hobjs, -, -, -, hann, -⟩ := exec_girthSeek hruns hcrc hroom start 0xFFFF set act d
  refine ⟨_, hexec, fun x => ?_⟩
  rw [cancelSeek_eq]
  show x ∈ u.girth.announcements.filter _ ↔ _
  rw [hann, List.mem_filter, Bool.not_eq_true', decide_eq_false_iff_not, girthHop, State.num_congr hobjs]

end

/-! ### Own announcements that are cancelled (R322) -/

section
variable {s : State} {a : Fin 4} {due pay : Nat} {rest : List (Nat × Nat)}

theorem vmod_at {α : Type} {n : Nat} (v : Vector α n) (a : Fin n) (f : α → α) : (vmod v a.val f)[a] = f v[a] := by
  have h := vget_vmod_self v a.val f v[a] a.isLt
  unfold vget at h
  rwa [dif_pos a.isLt, dif_pos a.isLt] at h

/-- The oldest announcement that has not started is cancelled, within the rate of SEEK frames. -/
theorem exec_seekCancel (hown : s.girth.ownAnnounced[a] = (due, pay) :: rest) : exec (.seekCancel a) s =
    if s.num Obj.announceRate ≤ (newSecond s).girth.seekSent then .next (newSecond s)
    else
      let u := sendSeek (newSecond s) (pay - pay / 2 ^ 36 % 2 ^ 16 * 2 ^ 36 + 0xFFFF * 2 ^ 36)
      .next (u.setGirth { u.girth with ownAnnounced := vmod u.girth.ownAnnounced a.val fun _ => rest }) := by
  show execSeekCancel a s = _
  unfold execSeekCancel
  rw [hown]
  dsimp only
  have hfld : fld pay 51 36 = pay / 2 ^ 36 % 2 ^ 16 := congrArg (· % 2 ^ 16) (Nat.shiftRight_eq_div_pow pay 36)
  rw [newSecond_num, hfld]

theorem seekCancel_sent (hown : s.girth.ownAnnounced[a] = (due, pay) :: rest) (hruns : girthRuns s = true)
    (hrate : (newSecond s).girth.seekSent < s.num Obj.announceRate) : Completes (.seekCancel a) s fun t =>
      t.girth.ownAnnounced[a] = rest ∧ t.girth.seekSent = (newSecond s).girth.seekSent + 1 ∧
      Queued s t 3 (pay - pay / 2 ^ 36 % 2 ^ 16 * 2 ^ 36 + 0xFFFF * 2 ^ 36) := by
  have hexec := (exec_seekCancel hown).trans (if_neg (Nat.not_le.mpr hrate))
  obtain ⟨hqueued, hsent, -⟩ := sendSeek_queued (newSecond_sends hruns) (pay - pay / 2 ^ 36 % 2 ^ 16 * 2 ^ 36 + 0xFFFF * 2 ^ 36)
  exact ⟨_, hexec, vmod_at _ a _, hsent, hqueued.congr rfl rfl rfl rfl⟩

theorem seekCancel_none (hown : s.girth.ownAnnounced[a] = []) : exec (.seekCancel a) s = .next s := by
  show execSeekCancel a s = _
  unfold execSeekCancel
  rw [hown]

end

/-! ### The gains' trim at an announcement's end (R326) -/

section
variable {s : State} {a r : Nat}

/-- A group's coefficient queues wait where one of its engines has a word due. -/
theorem coefBusy_iff (s : State) (g : Nat) : coefBusy s g = true ↔
    ∃ e, e < 16 ∧ (s.engineOf e).group = g ∧ engRole s e ≠ roNone ∧ (s.engineOf e).coefDue.isEmpty = false := by
  unfold coefBusy groupEngines
  rw [List.any_eq_true]
  simp only [List.mem_filter, List.mem_range, Bool.and_eq_true, decide_eq_true_eq, Bool.not_eq_true', and_assoc]

/-- Words for one group leave the other groups' engines as they are. -/
theorem queueCoefs_other (s : State) (r : Nat) (l : List (Nat × Coef)) (e : Nat) :
    ((queueCoefs s r l).engineOf e).group = (s.engineOf e).group ∧
    ((s.engineOf e).group ≠ r → (queueCoefs s r l).engineOf e = s.engineOf e) ∧ (queueCoefs s r l).objs = s.objs := by
  unfold queueCoefs
  refine State.each_inv (P := fun t => (t.engineOf e).group = (s.engineOf e).group ∧
    ((s.engineOf e).group ≠ r → t.engineOf e = s.engineOf e) ∧ t.objs = s.objs) ⟨rfl, fun _ => rfl, rfl⟩ ?_
  intro t x hx ⟨hgroup, hsame, hobjs⟩
  rw [groupEngines, List.mem_filter, List.mem_range, Bool.and_eq_true, decide_eq_true_eq] at hx
  obtain ⟨hx16, hxgroup, -⟩ := hx
  by_cases hxe : x = e
  · subst hxe
    rw [engineOf_modEngine t _ hx16]
    exact ⟨hgroup, fun hne => absurd hxgroup hne, hobjs⟩
  · rw [engineOf_modEngine_other t _ hxe]
    exact ⟨hgroup, hsame, hobjs⟩

/-- What one gain's trim reads. -/
def SameTrim (a : Nat) (s t : State) : Prop :=
  t.num (Obj.ffGain a) = s.num (Obj.ffGain a) ∧ t.num Obj.trimMu = s.num Obj.trimMu ∧ (coefBusy t a = true ↔ coefBusy s a = true)

theorem SameTrim.trans {s t u : State} (h : SameTrim a s t) (h' : SameTrim a t u) : SameTrim a s u :=
  ⟨h'.1.trans h.1, h'.2.1.trans h.2.1, h'.2.2.trans h.2.2⟩

theorem ffGain_ne (hra : r ≠ a) : Obj.ffGain a ≠ Obj.ffGain r := by
  unfold Obj.ffGain
  unfold Key
  omega

theorem setFfGain_num (s : State) (r n : Nat) (k : Key) : (setFfGain s r n).num k = (s.setNum (Obj.ffGain r) n).num k :=
  State.num_congr (queueCoefs_other _ r _ 0).2.2 k

/-- The trim of another group's gain leaves this group's as it is. -/
theorem setFfGain_other (hra : r ≠ a) (n : Nat) : SameTrim a s (setFfGain s r n) := by
  have hmu : Obj.trimMu ≠ Obj.ffGain r := by
    unfold Obj.trimMu Obj.ffGain
    unfold Key
    omega
  refine ⟨(setFfGain_num s r n _).trans (State.num_setNum_other _ _ (ffGain_ne hra)),
    (setFfGain_num s r n _).trans (State.num_setNum_other _ _ hmu), ?_⟩
  have hengine : ∀ e, ((setFfGain s r n).engineOf e).group = (s.engineOf e).group ∧
      ((s.engineOf e).group = a → (setFfGain s r n).engineOf e = s.engineOf e) ∧ engRole (setFfGain s r n) e = engRole s e := fun e => by
    obtain ⟨hgroup, hsame, -⟩ := queueCoefs_other (s.setNum (Obj.ffGain r) n) r
      [((s.setNum (Obj.ffGain r) n).num Obj.ffGainAddr % 1024, ⟨BitVec.ofNat 32 n, BitVec.ofNat 5 (n / 2 ^ 32)⟩)] e
    have hengine : (s.setNum (Obj.ffGain r) n).engineOf e = s.engineOf e := rfl
    rw [hengine] at hgroup hsame
    refine ⟨hgroup, fun ha => hsame fun hr => hra (hr.symm.trans ha), (setFfGain_num s r n _).trans (State.num_setNum_other _ _ ?_)⟩
    intro heq
    have hmod := congrArg (· % 256) heq
    rw [engKey_mod, Obj.ffGain] at hmod
    unfold Key at hmod
    omega
  rw [coefBusy_iff, coefBusy_iff]
  refine exists_congr fun e => and_congr_right fun _ => ?_
  obtain ⟨hgroup, hsame, hrole⟩ := hengine e
  rw [hgroup, hrole]
  exact and_congr_right fun ha => by rw [hsame ha]

/-- When one gain is not trimmed: no step, too little force, overlapping seeks, or words that still wait. -/
def TrimHeld (s : State) (x : Announcement) (r : Nat) : Prop :=
  s.num Obj.trimMu = 0 ∨ vget x.sumF2 r 0 < 10 ^ 12 ∨ vget x.overlapped r false = true ∨ coefBusy s r = true

theorem trimGain_other (x : Announcement) (hra : r ≠ a) (s : State) : SameTrim a s (trimGain s x r) := by
  unfold trimGain
  dsimp only
  split
  · exact ⟨rfl, rfl, Iff.rfl⟩
  · exact setFfGain_other hra _

theorem trimGain_held {x : Announcement} (h : TrimHeld s x a) : trimGain s x a = s := by
  unfold trimGain
  exact if_pos h

/-- A trimmed gain lies within its clamp. -/
theorem trimGain_clamped {x : Announcement} (h : ¬TrimHeld s x a) : 0x20000000 ≤ (trimGain s x a).num (Obj.ffGain a) ∧
    (trimGain s x a).num (Obj.ffGain a) ≤ 0x7FFCB923 := by
  have hgain : ∃ g : Int, trimGain s x a = setFfGain s a (max 0x20000000 (min 0x7FFCB923 g)).toNat := by
    unfold trimGain
    exact ⟨_, if_neg h⟩
  obtain ⟨g, hgain⟩ := hgain
  rw [hgain, setFfGain_num, State.num_setNum_self]
  omega

theorem sameTrim_each (x : Announcement) {l : List Nat} (hl : a ∉ l) (s : State) : SameTrim a s (s.each l fun t r => trimGain t x r) :=
  State.each_inv (P := SameTrim a s) ⟨rfl, rfl, Iff.rfl⟩ fun t _ hr h => h.trans (trimGain_other x (ne_of_mem_of_not_mem hr hl) t)

/-- Of the trims of all groups, the group's own alone tells its gain. -/
theorem trims_gain (x : Announcement) (a : Fin 4) (s : State) : ∃ t, SameTrim a s t ∧
    (s.each [0, 1, 2, 3] fun t r => trimGain t x r).num (Obj.ffGain a) = (trimGain t x a).num (Obj.ffGain a) := by
  obtain ⟨l, l', hsplit, hl, hl'⟩ : ∃ l l' : List Nat, [0, 1, 2, 3] = l ++ a.val :: l' ∧ a.val ∉ l ∧ a.val ∉ l' := by
    fin_cases a
    · exact ⟨[], [1, 2, 3], rfl, by decide, by decide⟩
    · exact ⟨[0], [2, 3], rfl, by decide, by decide⟩
    · exact ⟨[0, 1], [3], rfl, by decide, by decide⟩
    · exact ⟨[0, 1, 2], [], rfl, by decide, by decide⟩
  refine ⟨s.each l fun t r => trimGain t x r, sameTrim_each x hl s, ?_⟩
  rw [hsplit, State.each, List.foldl_append, List.foldl_cons]
  exact (sameTrim_each x hl' _).1

end

section
variable {s : State} {id : Nat} {x : Announcement} {a : Fin 4} (hfind : (s.girth.announcements.find? fun x => decide (x.id = id)) = some x)
include hfind

/-- An announcement's end drops it, then the gains are trimmed. -/
theorem exec_announcementEnd : exec (.announcementEnd id) s =
    .next ((s.setGirth { s.girth with announcements := s.girth.announcements.filter (·.id ≠ id) }).each [0, 1, 2, 3] fun s r => trimGain s x r) := by
  show execAnnouncementEnd id s = _
  unfold execAnnouncementEnd
  rw [hfind]

theorem announcementEnd_effect : Completes (.announcementEnd id) s fun t =>
    (∀ y, y ∈ t.girth.announcements ↔ y ∈ s.girth.announcements ∧ y.id ≠ id) ∧
    (s.num Obj.trimMu = 0 ∨ x.sumF2[a] < 10 ^ 12 ∨ x.overlapped[a] = true → t.num (Obj.ffGain a) = s.num (Obj.ffGain a)) ∧
    (s.num Obj.trimMu ≠ 0 → 10 ^ 12 ≤ x.sumF2[a] → x.overlapped[a] = false → coefBusy s a = false →
      0x20000000 ≤ t.num (Obj.ffGain a) ∧ t.num (Obj.ffGain a) ≤ 0x7FFCB923) := by
  refine ⟨_, exec_announcementEnd hfind, ?_⟩
  generalize hu : s.setGirth { s.girth with announcements := s.girth.announcements.filter (·.id ≠ id) } = u
  have hgirth : (u.each [0, 1, 2, 3] fun s r => trimGain s x r).girth = u.girth := State.each_inv (P := fun t => t.girth = u.girth) rfl
    fun t _ _ ht => (within_iff.mp (@trimGain_frame [.objs, .engines] t (touch_of rfl) (touch_of rfl) t x _ (.refl _ t)) .girth (by decide)).trans ht
  obtain ⟨t, ⟨hgain, hmu, hbusy⟩, htrim⟩ := trims_gain x a u
  have hsum : vget x.sumF2 a 0 = x.sumF2[a] := dif_pos a.isLt
  have hover : vget x.overlapped a false = x.overlapped[a] := dif_pos a.isLt
  have hmu' : u.num Obj.trimMu = s.num Obj.trimMu := by rw [← hu]; rfl
  have hgain' : u.num (Obj.ffGain a) = s.num (Obj.ffGain a) := by rw [← hu]; rfl
  have hbusy' : coefBusy u a = coefBusy s a := by rw [← hu]; rfl
  refine ⟨fun y => ?_, fun h => ?_, fun h1 h2 h3 h4 => ?_⟩
  · rw [hgirth, ← hu]
    show y ∈ s.girth.announcements.filter _ ↔ _
    rw [List.mem_filter, decide_eq_true_eq]
  · have hheld : TrimHeld t x a := by
      rw [TrimHeld, hmu, hmu', hsum, hover, ← or_assoc, ← or_assoc]
      exact .inl (or_assoc.mpr h)
    rw [htrim, trimGain_held hheld, hgain, hgain']
  · rw [htrim]
    refine trimGain_clamped ?_
    rw [TrimHeld, hmu, hmu', hsum, hover, hbusy, hbusy', h3, h4]
    rintro (h | h | h | h)
    · exact h1 h
    · exact absurd h (not_lt.mpr h2)
    · cases h
    · cases h

end

/-- Settles O32: a SEEK acts on the state that has taken the frame as its conditions there say, a cancel is a SEEK frame of the
oldest own announcement, and at an announcement's end each group's trim reads its own gain and queue only. -/
theorem girthSeeksAreAppliedAndCancelled : Obligations.GirthSeeksAreAppliedAndCancelled := by
  unfold Obligations.GirthSeeksAreAppliedAndCancelled
  intro s h start profile set id due pay rest act a d x
  exact ⟨fun hruns hcrc hroom => girthSeek_applied hruns hcrc hroom, fun hruns hcrc hroom => girthSeek_ignored hruns hcrc hroom, fun hruns hcrc hroom => girthSeek_cancelled hruns hcrc hroom,
    fun hown hruns => ⟨seekCancel_sent hown hruns, fun hrate => (exec_seekCancel hown).trans (if_pos hrate)⟩, seekCancel_none,
    announcementEnd_effect⟩

/-! ### Announcements that are asked for (R322) -/

section
variable {s : State} {who : Requester} {b : List Byte} {p : Profile} {a : Fin 4}

/-- The announcement's peak current is above the least one, SEEK frames are left in this second, and the girth is joined. -/
def Loud (s : State) (b : List Byte) (p : Profile) : Prop :=
  s.num Obj.announceMinMa * p.distRef ≤ p.peakMa * (toSigned 32 (fieldAt b 8 4)).natAbs ∧ 2 ≤ seeksRemain (newSecond s) ∧ girthJoined s = true

theorem seekPayload_newSecond (s : State) (start profile act : Nat) (d : Int) :
    seekPayload (newSecond s) start profile act d (profileSetId (newSecond s).fw.bundle) =
      seekPayload s start profile act d (profileSetId s.fw.bundle) := by
  obtain ⟨_, _, _, _, h⟩ := newSecond_effect s
  rw [h]
  rfl

theorem profilesInForce_newSecond (s : State) (a : Nat) : profilesInForce (newSecond s) a = profilesInForce s a := by
  obtain ⟨_, _, _, _, h⟩ := newSecond_effect s
  rw [h]
  rfl

/-- An announcement in range, for a profile in force, is sent where it is loud enough. -/
theorem announceNow_eq (hact : byteAt b 6 = a.val) (hprofile : ((profilesInForce s a).find? (·.number = fieldAt b 4 2)) = some p)
    (hrange : (announceNow s b).1 ≠ dsRange) [Decidable (Loud s b p)] : (announceNow s b).2 =
      if Loud s b p then
        let pay := seekPayload s (fieldAt b 0 4) p.number a (toSigned 32 (fieldAt b 8 4)) (profileSetId s.fw.bundle)
        let u := sendSeek (newSecond s) pay
        u.setGirth { u.girth with ownAnnounced := vmod u.girth.ownAnnounced a (· ++ [(fieldAt b 0 4, pay)]) }
      else newSecond s := by
  have hjoined : girthJoined (newSecond s) = girthJoined s := by rw [girthJoined, newSecond_num, girthJoined]
  have hquiet : (decide (p.peakMa * (toSigned 32 (fieldAt b 8 4)).natAbs < s.num Obj.announceMinMa * p.distRef) ||
      decide (seeksRemain (newSecond s) < 2) || !girthJoined s) = true ↔ ¬Loud s b p := by
    rw [Loud, Bool.or_eq_true, Bool.or_eq_true, decide_eq_true_eq, decide_eq_true_eq, Bool.not_eq_true', ← Bool.not_eq_true, not_and_or,
      not_and_or, not_le, not_le, or_assoc]
  unfold announceNow at hrange ⊢
  dsimp only at hrange ⊢
  split at hrange
  · exact absurd rfl hrange
  next hfields =>
    rw [if_neg hfields]
    split at hrange
    · exact absurd rfl hrange
    next hahead =>
      rw [if_neg hahead, hact, profilesInForce_newSecond, hprofile, newSecond_num, hjoined]
      dsimp only
      rw [seekPayload_newSecond]
      by_cases hloud : Loud s b p
      · rw [if_pos hloud, if_neg (fun h => hquiet.mp h hloud)]
      · rw [if_neg hloud, if_pos (hquiet.mpr hloud)]

theorem announce_answers (h : AcceptedRec s who Obj.announce b)
    (hfound : byteAt b 6 = a.val ∧ ((profilesInForce s a).find? (·.number = fieldAt b 4 2)) = some p) (hruns : girthRuns s = true) :
    let pay := seekPayload s (fieldAt b 0 4) p.number a (toSigned 32 (fieldAt b 8 4)) (profileSetId s.fw.bundle)
    Answers (.announce who b) s who Obj.announce fun t =>
      (Loud s b p → Queued s t 3 pay ∧ t.girth.ownAnnounced[a] = s.girth.ownAnnounced[a] ++ [(fieldAt b 0 4, pay)] ∧
        t.girth.seekSent = (newSecond s).girth.seekSent + 1) ∧
      (¬Loud s b p → t = newSecond s) := by
  classical
  intro pay
  have hrange : (announceNow s b).1 ≠ dsRange := by
    have hin := (inRange_of_accepted h.2).1
    rw [inRange, Bool.and_eq_true] at hin
    exact of_decide_eq_true hin.2
  refine answers_of_acceptedRec (by unfold Obj.announce Key; omega) rfl h ?_
  have heffect : effect s who Obj.announce (.bytes b) = (announceNow s b).2 := rfl
  rw [heffect, announceNow_eq hfound.1 hfound.2 hrange]
  refine ⟨fun hloud => ?_, fun hquiet => if_neg hquiet⟩
  rw [if_pos hloud]
  obtain ⟨hqueued, hsent, hown⟩ := sendSeek_queued (newSecond_sends hruns) pay
  refine ⟨hqueued.congr rfl rfl rfl rfl, (vmod_at _ a _).trans ?_, hsent⟩
  obtain ⟨_, _, _, _, hsecond⟩ := newSecond_effect s
  rw [hown, hsecond]
  rfl

end

/-! ### Dictionary requests over the girth (R329) -/

section
variable {s : State} {who : Requester} {b : List Byte}

/-- A dictionary frame is sent where this second allows one. -/
theorem sendDict_sent {u : State} (hruns : girthRuns s = true) (hu : u = newSecond s) (payload : Nat) : ∃ tx line sync n,
    (sendDict u payload).girth = { (newSecond s).girth with tx := tx, lineFree := line, lastSync := sync, dictSent := n } ∧
    ((newSecond s).girth.dictSent < 100 → Queued s (sendDict u payload) 5 payload) := by
  have hqueued := sendFrame_queued (newSecond_sends hruns) gtDict payload
  obtain ⟨tx, line, sync, hgirth⟩ := sendFrame_girth (newSecond s) gtDict payload
  rw [hu, sendDict, newSecond_newSecond]
  dsimp only
  split
  · generalize sendFrame (newSecond s) gtDict payload = v at hqueued hgirth
    refine ⟨tx, line, sync, (newSecond s).girth.dictSent + 1, ?_, fun _ => hqueued.congr rfl rfl rfl rfl⟩
    exact congrArg (fun g : Girth => { g with dictSent := (newSecond s).girth.dictSent + 1 }) hgirth
  next h => exact ⟨_, _, _, _, rfl, fun hroom => absurd hroom h⟩

theorem dictRequest_answers (h : AcceptedRec s who Obj.dictRequest b) (hruns : girthRuns s = true) :
    let tag := s.girth.nextTag
    let frame := dictPayload (fieldAt b 2 2) (byteAt b 0) tag (fieldAt b 4 2) (byteAt b 6) 0 (fieldAt b 8 4)
    Answers (.dictRequest who b) s who Obj.dictRequest fun t =>
      t.girth.request = some (tag, fieldAt b 2 2) ∧ t.girth.nextTag = (tag + 1) % 256 ∧
      t.girth.requestsSent = (newSecond s).girth.requestsSent + 1 ∧
      t.str Obj.dictResponse = dictOutcome 0 0 0 (fieldAt b 4 2) (byteAt b 6) 0 ∧
      ((newSecond s).girth.dictSent < 100 → Queued s t 5 frame) := by
  intro tag frame
  have hfree : (dictRequestNow s b).1 ≠ dsBusy := by
    refine fun heq => ne_true_of_eq_false (inRange_of_accepted h.2).2 ?_
    unfold writeBusy
    simp only [Val.toBytes, heq, decide_true, Bool.and_self, Bool.or_true, Bool.true_or]
  refine answers_of_acceptedRec (by unfold Obj.dictRequest Key; omega) rfl h ?_
  have heffect : effect s who Obj.dictRequest (.bytes b) = (dictRequestNow s b).2 := rfl
  rw [heffect]
  have htag : (newSecond s).girth.nextTag = s.girth.nextTag := by
    obtain ⟨_, _, _, _, hsecond⟩ := newSecond_effect s
    rw [hsecond]
    rfl
  unfold dictRequestNow at hfree ⊢
  dsimp only at hfree ⊢
  split at hfree
  · exact absurd rfl hfree
  next hroom =>
    rw [if_neg hroom, htag]
    obtain ⟨tx, line, sync, n, hgirth, hqueued⟩ := sendDict_sent hruns rfl frame
    dsimp only
    generalize sendDict (newSecond s) frame = v at hgirth hqueued
    refine ⟨rfl, rfl, ?_, State.str_setStr_self _ _ _, fun hdict => (hqueued hdict).congr rfl rfl rfl (State.num_setStr_other _ _ (by decide))⟩
    show v.girth.requestsSent + 1 = _
    rw [hgirth]

end

section
variable {s : State} {h : GirthHeader} {tag target index sub status value : Nat}

/-- A response acts on the state that has taken the frame. -/
theorem exec_girthDictResponse (hruns : girthRuns s = true) (hcrc : h.crc = .good) (hroom : rxHeld s < 8) : ∃ u : State,
    exec (.girthDictResponse h (girthHop s) tag index sub status value) s = .next (if u.girth.request.map (·.1) = some tag then
      (u.setGirth { u.girth with request := none }).setStr Obj.dictResponse (dictOutcome 1 status h.origin index sub value) else u) ∧
    (∃ line, u.girth = { (rxTake s).girth with lineFree := line }) ∧ u.girth.request = s.girth.request ∧ u.objs = s.objs := by
  generalize hpay : dictPayload (girthHop s) 2 tag index sub status value = pay
  have hexec : exec (.girthDictResponse h (girthHop s) tag index sub status value) s =
      .next (receive s gtDict h (dictPayload (girthHop s) 2 tag index sub status value) fun u =>
        if girthHop s = girthHop u ∧ u.girth.request.map (·.1) = some tag then
          (u.setGirth { u.girth with request := none }).setStr Obj.dictResponse (dictOutcome 1 status h.origin index sub value)
        else u) := rfl
  rw [hpay, receive_arrived hruns hcrc hroom] at hexec
  have hhop : girthHop s = girthHop (arrived s gtDict h pay) := (arrived_num hroom gtDict pay Obj.hop).symm
  obtain ⟨line, tick, count, hgirth⟩ := arrived_girth_rest hroom (h := h) gtDict pay
  simp only [← hhop, true_and] at hexec
  exact ⟨_, hexec, arrived_girth hroom gtDict pay, by rw [hgirth], arrived_sameBut hroom gtDict pay .objs (by decide)⟩

/-- The response with the tag that is asked for is the request's outcome. -/
theorem girthDictResponse_taken (hruns : girthRuns s = true) (hcrc : h.crc = .good) (hroom : rxHeld s < 8)
    (hrequest : s.girth.request = some (tag, target)) : Completes (.girthDictResponse h (girthHop s) tag index sub status value) s fun t =>
      t.girth.request = none ∧ t.str Obj.dictResponse = dictOutcome 1 status h.origin index sub value := by
  obtain ⟨u, hexec, -, hsame, -⟩ := exec_girthDictResponse hruns hcrc hroom
  rw [if_pos (by rw [hsame, hrequest]; rfl)] at hexec
  exact ⟨_, hexec, rfl, State.str_setStr_self _ _ _⟩

/-- A response that nobody waits for is taken from the fifo only. -/
theorem girthDictResponse_unasked (hruns : girthRuns s = true) (hcrc : h.crc = .good) (hroom : rxHeld s < 8)
    (hrequest : s.girth.request = none) : Completes (.girthDictResponse h (girthHop s) tag index sub status value) s fun t =>
      t.girth = { (rxTake s).girth with lineFree := t.girth.lineFree } ∧ t.objs = s.objs := by
  obtain ⟨u, hexec, ⟨line, hgirth⟩, hsame, hobjs⟩ := exec_girthDictResponse hruns hcrc hroom
  rw [if_neg (by rw [hsame, hrequest]; nofun)] at hexec
  exact ⟨u, hexec, by rw [hgirth], hobjs⟩

/-- A request without a response in time is given up, its outcome being 2. -/
theorem dictRequestTimeout_effect (hrequest : s.girth.request = some (tag, target)) : Completes .dictRequestTimeout s fun t =>
    t.girth.request = none ∧ byteAt (t.str Obj.dictResponse) 0 = 2 ∧ (t.str Obj.dictResponse).drop 1 = (s.str Obj.dictResponse).drop 1 ∧
    t.outs = s.outs := by
  have hexec : exec .dictRequestTimeout s =
      .next ((s.setGirth { s.girth with request := none }).setStr Obj.dictResponse ([2] ++ (s.str Obj.dictResponse).drop 1)) := by
    show execDictRequestTimeout s = _
    unfold execDictRequestTimeout
    rw [hrequest]
  refine ⟨_, hexec, rfl, ?_⟩
  rw [State.str_setStr_self]
  exact ⟨rfl, rfl, rfl⟩

end

/-- Settles O33: an accepted record is in range and not busy, which leaves of the announcement its loudness and of the request its
frame; a response acts on the state that has taken the frame. -/
theorem girthAnnouncesAndRequests : Obligations.GirthAnnouncesAndRequests := by
  unfold Obligations.GirthAnnouncesAndRequests
  intro s who b h p tag target index sub status value a
  exact ⟨announce_answers, dictRequest_answers, girthDictResponse_taken, girthDictResponse_unasked, dictRequestTimeout_effect⟩

end Sys2Proof.Machine
end

section
/-!
PROOFS. Girth time and mastership (R313 to R319).
-/

namespace Sys2Proof.Machine

/-! ### The state that a role leaves (R315, R316, R320) -/

section
variable {s : State} {k : Key}

/-- A new phase is a new value of one object. -/
theorem rephase_eq (s : State) : rephase s = s ∨ ∃ n, rephase s = s.setNum Obj.assignedPhase n := by
  unfold rephase
  split
  · exact .inr ⟨_, rfl⟩
  · exact .inl rfl

theorem rephase_num (hk : k ≠ Obj.assignedPhase) (s : State) : (rephase s).num k = s.num k := by
  obtain h | ⟨n, h⟩ := rephase_eq s
  · rw [h]
  · rw [h, State.num_setNum_other _ _ hk]

theorem rephase_rest (s : State) : (rephase s).girth = s.girth ∧ (rephase s).raised = s.raised := by
  obtain h | ⟨n, h⟩ := rephase_eq s <;> rw [h] <;> exact ⟨rfl, rfl⟩

/-- The device is master from `hop`, and its time goes on. -/
def IsMaster (s : State) (hop : Nat) (t : State) : Prop :=
  t.num Obj.girthState = 2 ∧ t.num Obj.hop = hop ∧ t.num Obj.masterTag = ownTag ∧ t.girth.baseHop = hop ∧ t.num Obj.ringSize = 0 ∧
  t.num Obj.epochOffset = ofSigned 64 (epochNow s)

/-- A new master continues the epoch that it followed. -/
theorem becomeMaster_isMaster (s : State) (hop : Nat) (elected : Bool) : IsMaster s hop (becomeMaster s hop elected) := by
  unfold becomeMaster setDegraded
  dsimp only
  have hgirth := fun u => (rephase_rest u).1
  have hkeep : ∀ {k : Key} (u : State) (n : Nat), k ≠ Obj.degraded → k ≠ Obj.assignedPhase → ((rephase u).setNum Obj.degraded n).num k = u.num k :=
    fun u n hk hk' => (State.num_setNum_other _ _ hk).trans (rephase_num hk' u)
  refine ⟨?_, ?_, ?_, ?_, ?_, ?_⟩
  · rw [hkeep _ _ (by decide) (by decide)]
    simp [State.num_setNum, Obj.girthState, Obj.hop, Obj.masterTag, Obj.ringSize, gMaster]
  · rw [hkeep _ _ (by decide) (by decide)]
    simp [State.num_setNum, Obj.hop, Obj.masterTag, Obj.ringSize]
  · rw [hkeep _ _ (by decide) (by decide)]
    simp [State.num_setNum, Obj.masterTag, Obj.ringSize]
  · show (rephase _).girth.baseHop = hop
    rw [hgirth]
    rfl
  · rw [hkeep _ _ (by decide) (by decide), State.num_setNum_self]
  · rw [hkeep _ _ (by decide) (by decide)]
    simp [State.num_setNum, Obj.girthState, Obj.hop, Obj.masterTag, Obj.ringSize, Obj.epochOffset]

theorem becomeMaster_elected (s : State) (hop : Nat) : (becomeMaster s hop true).girth.elected = true ∧
    (becomeMaster s hop true).girth.takeoverLeft = 3 := by
  unfold becomeMaster setDegraded
  dsimp only
  refine ⟨?_, ?_⟩
  · show (rephase _).girth.elected = true
    rw [(rephase_rest _).1]
    rfl
  · show (rephase _).girth.takeoverLeft = 3
    rw [(rephase_rest _).1]
    rfl

theorem becomeMaster_listening (s : State) (hop : Nat) (elected : Bool) : (becomeMaster s hop elected).girth.listening = false := by
  unfold becomeMaster setDegraded
  dsimp only
  show (rephase _).girth.listening = false
  rw [(rephase_rest _).1]
  rfl

theorem becomeMaster_raised (s : State) (hop : Nat) (elected : Bool) : (becomeMaster s hop elected).raised = s.raised := by
  unfold becomeMaster setDegraded
  dsimp only
  show (rephase _).raised = s.raised
  rw [(rephase_rest _).2]
  rfl

/-- A count and an event more leave a master as it is. -/
theorem IsMaster.bump_raise {t : State} {hop source : Nat} (h : IsMaster s hop t) (hk : k ∉ [Obj.girthState, Obj.hop, Obj.masterTag, Obj.ringSize, Obj.epochOffset]) :
    IsMaster s hop ((t.bump k).raise source) := by
  have hnum : ∀ j ∈ [Obj.girthState, Obj.hop, Obj.masterTag, Obj.ringSize, Obj.epochOffset], ((t.bump k).raise source).num j = t.num j :=
    fun j hj => State.num_bump_other _ (ne_of_mem_of_not_mem hj hk)
  have hgirth : ((t.bump k).raise source).girth = t.girth := State.girth_bump t k
  unfold IsMaster
  rw [hnum _ (by decide), hnum _ (by decide), hnum _ (by decide), hnum _ (by decide), hnum _ (by decide), hgirth]
  exact h

/-- The device has left the chain. -/
def Unjoined (t : State) : Prop := t.num Obj.girthState = 3 ∧ t.num Obj.hop = 0xFFFF ∧ t.num Obj.ringSize = 0

theorem unjoin_unjoined (s : State) : Unjoined (unjoin s) := by
  unfold Unjoined unjoin setDegraded
  simp [State.num_setNum, Obj.girthState, Obj.hop, Obj.ringSize, Obj.degraded, gUnjoined]

theorem unjoin_listening (s : State) : (unjoin s).girth.listening = false := rfl

/-- What following a master leaves: its hop, its tag and its time. -/
def Follows (s : State) (h : GirthHeader) (tick base tag : Nat) (t : State) : Prop :=
  t.num Obj.hop = h.hops ∧ t.num Obj.masterTag = tag ∧
  t.num Obj.epochOffset = ofSigned 64 ((tick : Int) + ((h.hops : Int) - base) * 6 - s.num Obj.tick)

/-- Objects other than those that following sets, and the phase, stay. -/
theorem follow_num {h : GirthHeader} {tick base tag : Nat} {again : Bool}
    (hk : k ∉ [Obj.hop, Obj.epochOffset, Obj.masterTag, Obj.assignedPhase]) (s : State) : (follow s h tick base tag again).num k = s.num k := by
  simp only [List.mem_cons, List.not_mem_nil, or_false, not_or] at hk
  obtain ⟨hhop, hepoch, htag, hphase⟩ := hk
  unfold follow
  dsimp only
  split
  · simp [State.num_setNum, hhop, hepoch, htag]
  · rw [rephase_num hphase]
    simp [State.num_setNum, hhop, hepoch, htag]

theorem follow_follows (s : State) (h : GirthHeader) (tick base tag : Nat) (again : Bool) :
    Follows s h tick base tag (follow s h tick base tag again) := by
  have hset : ∀ (u : State) (g : Girth) (offset : Nat),
      let v := (((u.setNum Obj.hop h.hops).setNum Obj.epochOffset offset).setNum Obj.masterTag tag).setGirth g
      v.num Obj.hop = h.hops ∧ v.num Obj.masterTag = tag ∧ v.num Obj.epochOffset = offset := by
    intro u g offset
    simp [State.num_setNum, Obj.hop, Obj.epochOffset, Obj.masterTag]
  unfold follow Follows
  dsimp only
  split
  · exact hset s _ _
  · rw [rephase_num (by decide), rephase_num (by decide), rephase_num (by decide)]
    exact hset s _ _

theorem follow_girth (s : State) (h : GirthHeader) (tick base tag : Nat) (again : Bool) :
    (follow s h tick base tag again).girth.newTagCount = 0 ∧ (follow s h tick base tag again).girth.listening = s.girth.listening := by
  unfold follow
  dsimp only
  split
  · exact ⟨rfl, rfl⟩
  · rw [(rephase_rest _).1]
    exact ⟨rfl, rfl⟩

end

/-! ### SYNC frames that arrive (R313, R317, R319) -/

theorem ownSync_congr {s t : State} {tick base tag : Nat} (hlast : t.girth.lastSync = s.girth.lastSync)
    (helected : t.girth.elected = s.girth.elected) (hstate : t.num Obj.girthState = s.num Obj.girthState) :
    ownSync t tick base tag = ownSync s tick base tag := by
  unfold ownSync
  rw [hlast, helected, hstate]

section
variable {s : State} {h : GirthHeader} {tick base tag : Nat} {fixed take past : Bool} (hruns : girthRuns s = true) (hcrc : h.crc = .good)
include hruns hcrc

/-- A SYNC that is taken, on a device that is no master, which did not send it. -/
theorem exec_girthSync (hroom : rxHeld s < 8) (hstate : s.num Obj.girthState ≠ gMaster) (hown : ownSync s tick base tag = false) : ∃ u : State,
    exec (.girthSync h tick base tag fixed take past) s = .next (
      if past then u.setGirth { u.girth with newTagCount := 0 }
      else if s.num Obj.girthState = gMember ∧ tag = s.num Obj.masterTag then follow u h tick base tag true
      else otherTag u h tick base tag) ∧
    u.objs = s.objs ∧ u.girth.newTag = s.girth.newTag ∧ u.girth.newTagCount = s.girth.newTagCount := by
  generalize hpay : syncPayload tick base tag fixed take past = pay
  have hexec : exec (.girthSync h tick base tag fixed take past) s = .next (receive s gtSync h (syncPayload tick base tag fixed take past) fun s =>
    deliverSync s h tick base tag fixed past) := rfl
  rw [hpay, receive_arrived hruns hcrc hroom] at hexec
  have hobjs := arrived_sameBut hroom (h := h) gtSync pay .objs (by decide)
  obtain ⟨line, rx, count, hgirth⟩ := arrived_girth_rest hroom (h := h) gtSync pay
  have hlast : (arrived s gtSync h pay).girth.lastSync = s.girth.lastSync := by rw [hgirth]
  have helected : (arrived s gtSync h pay).girth.elected = s.girth.elected := by rw [hgirth]
  generalize arrived s gtSync h pay = v at hexec hobjs hgirth hlast helected
  have hnum := State.num_congr hobjs
  generalize hu : v.setGirth { v.girth with candidateWait := false } = u
  have huown : ownSync u tick base tag = false := by
    rw [← hown, ← hu]
    exact ownSync_congr hlast helected (hnum _)
  have hunum : ∀ k, u.num k = s.num k := fun k => by rw [← hu, ← hnum]; rfl
  unfold deliverSync at hexec
  dsimp only at hexec
  rw [hu, hunum, if_neg hstate, huown, if_neg nofun, hunum] at hexec
  exact ⟨u, hexec, by rw [← hu, ← hobjs]; rfl, by rw [← hu]; show v.girth.newTag = _; rw [hgirth],
    by rw [← hu]; show v.girth.newTagCount = _; rw [hgirth]⟩

/-- A member follows its master's SYNC. -/
theorem girthSync_followed (hroom : rxHeld s < 8) (hstate : s.num Obj.girthState = 1) (htag : tag = s.num Obj.masterTag)
    (hown : ownSync s tick base tag = false) : Completes (.girthSync h tick base tag fixed take false) s fun t =>
      Follows s h tick base tag t ∧ t.num Obj.girthState = 1 ∧ t.girth.newTagCount = 0 := by
  obtain ⟨u, hexec, hobjs, -, -⟩ := exec_girthSync hruns hcrc hroom (by rw [hstate]; decide) hown (past := false)
  rw [if_neg nofun, if_pos ⟨hstate, htag⟩] at hexec
  have hfollows := follow_follows u h tick base tag true
  rw [Follows, State.num_congr hobjs] at hfollows
  exact ⟨_, hexec, hfollows, (follow_num (by decide) u).trans ((State.num_congr hobjs _).trans hstate), (follow_girth u h tick base tag true).1⟩

/-- One whose OVER bit is set is not followed. -/
theorem girthSync_over (hroom : rxHeld s < 8) (hstate : s.num Obj.girthState = 1) (hown : ownSync s tick base tag = false) :
    Completes (.girthSync h tick base tag fixed take true) s fun t => t.objs = s.objs ∧ t.girth.newTagCount = 0 := by
  obtain ⟨u, hexec, hobjs, -, -⟩ := exec_girthSync hruns hcrc hroom (by rw [hstate]; decide) hown (past := true)
  rw [if_pos rfl] at hexec
  exact ⟨_, hexec, hobjs, rfl⟩

/-- One that finds the receive fifo full is dropped, with an event. -/
theorem girthSync_dropped (hfull : 8 ≤ rxHeld s) : Completes (.girthSync h tick base tag fixed take past) s fun t =>
    t.objs = s.objs ∧ t.girth = { s.girth with rxDrops := s.girth.rxDrops + 1, lineFree := t.girth.lineFree } ∧
    t.raised = s.raised ++ [{ source := 39 }] := by
  generalize hpay : syncPayload tick base tag fixed take past = pay
  have hexec : exec (.girthSync h tick base tag fixed take past) s = .next (receive s gtSync h (syncPayload tick base tag fixed take past) fun s =>
    deliverSync s h tick base tag fixed past) := rfl
  have hsame := forward_sameBut s gtSync h pay
  obtain ⟨line, hgirth⟩ := forward_girth s gtSync h pay
  have hruns' := girthRuns_forward s gtSync h pay
  have hheld := rxHeld_forward s gtSync h pay
  rw [hpay, receive, hcrc] at hexec
  have hcount : countCrc (forward s gtSync h pay) .good = forward s gtSync h pay := rfl
  rw [hcount] at hexec
  generalize forward s gtSync h pay = v at hexec hsame hgirth hruns' hheld
  rw [hruns', hruns, hheld, if_pos (by decide), if_neg (Nat.not_lt.mpr hfull), rxTake, hheld, if_neg (Nat.not_lt.mpr hfull)] at hexec
  refine ⟨_, hexec, hsame .objs (by decide), ?_, congrArg (· ++ [_]) (hsame .raised (by decide))⟩
  show { v.girth with rxDrops := v.girth.rxDrops + 1 } = { s.girth with rxDrops := s.girth.rxDrops + 1, lineFree := v.girth.lineFree }
  rw [hgirth]

/-- The third SYNC in a row of one tag is adopted. -/
theorem girthSync_adopted (hroom : rxHeld s < 8) (hstate : s.num Obj.girthState = 0) (htag : s.girth.newTag = tag) (hcount : s.girth.newTagCount = 2)
    (hown : ownSync s tick base tag = false) : Completes (.girthSync h tick base tag fixed take false) s fun t =>
      Follows s h tick base tag t ∧ t.num Obj.girthState = 1 ∧ t.girth.listening = false ∧ t.num Obj.ringSize = 0 := by
  obtain ⟨u, hexec, hobjs, hnew, hnewCount⟩ := exec_girthSync hruns hcrc hroom (by rw [hstate]; decide) hown (past := false)
  rw [if_neg nofun, if_neg (fun hm => absurd (hm.1.symm.trans hstate) (by decide)), otherTag, hnew, htag, hnewCount, hcount, if_pos rfl] at hexec
  rw [if_pos (by decide), becomeMember, setDegraded] at hexec
  refine ⟨_, hexec, ?_⟩
  generalize hv : ((u.setGirth _).setNum Obj.girthState gMember).setNum Obj.ringSize 0 = v
  have hvtick : v.num Obj.tick = s.num Obj.tick := by
    rw [← hv, State.num_setNum_other _ _ (by decide), State.num_setNum_other _ _ (by decide)]
    exact State.num_congr hobjs _
  have hvstate : v.num Obj.girthState = 1 := by
    rw [← hv, State.num_setNum_other _ _ (by decide), State.num_setNum_self]
    rfl
  have hvring : v.num Obj.ringSize = 0 := by rw [← hv, State.num_setNum_self]
  have hvlisten : v.girth.listening = false := by rw [← hv]; rfl
  have hfollows := follow_follows v h tick base tag false
  rw [Follows, hvtick] at hfollows
  refine ⟨?_, ?_, (follow_girth v h tick base tag false).2.trans hvlisten, ?_⟩
  · unfold Follows
    rw [State.num_setNum_other _ _ (by decide), State.num_setNum_other _ _ (by decide), State.num_setNum_other _ _ (by decide)]
    exact hfollows
  · rw [State.num_setNum_other _ _ (by decide), follow_num (by decide), hvstate]
  · rw [State.num_setNum_other _ _ (by decide), follow_num (by decide), hvring]

end

/-! ### A master that is lost, and the join (R315, R316, R318, R319) -/

section
variable {s : State} (hruns : girthRuns s = true)
include hruns

theorem masterLoss_effect (hstate : s.num Obj.girthState ≠ 2) (hlisten : s.girth.listening = false) : Completes .masterLoss s fun t =>
    (s.girth.role = 1 → IsMaster s 0 t) ∧ (s.girth.role = 2 → t.girth.candidateWait = true ∧ t.objs = s.objs) ∧
    (s.girth.role = 3 → Unjoined t) := by
  have hexec : exec .masterLoss s = execMasterLoss s := rfl
  have hgo : (!girthRuns s || decide (s.num Obj.girthState = gMaster) || s.girth.listening) = false := by
    rw [hruns, hlisten, decide_eq_false (show ¬s.num Obj.girthState = gMaster from hstate)]
    rfl
  unfold execMasterLoss at hexec
  dsimp only at hexec
  rw [if_neg (ne_true_of_eq_false hgo)] at hexec
  split at hexec
  next hrole => exact ⟨_, hexec, fun _ => becomeMaster_isMaster s 0 false, fun h => absurd (hrole.symm.trans h) (by decide),
    fun h => absurd (hrole.symm.trans h) (by decide)⟩
  next hrole => exact ⟨_, hexec, fun h => absurd (hrole.symm.trans h) (by decide), fun _ => ⟨rfl, rfl⟩,
    fun h => absurd (hrole.symm.trans h) (by decide)⟩
  next h1 h2 => exact ⟨_, hexec, fun h => absurd h h1, fun h => absurd h h2, fun _ => unjoin_unjoined s⟩

theorem candidateWaitEnd_effect (hwait : s.girth.candidateWait = true) : Completes .candidateWaitEnd s fun t =>
    IsMaster s (if s.num Obj.hop = 0xFFFF then 0 else s.num Obj.hop) t ∧ t.girth.elected = true ∧ t.girth.takeoverLeft = 3 ∧
    Counted Obj.takeovers s t ∧ t.raised = s.raised ++ [{ source := 43, unit := 0, detail := 0 }] := by
  generalize hhop : (if s.num Obj.hop = 0xFFFF then 0 else s.num Obj.hop) = hop
  have hexec : exec .candidateWaitEnd s = .next (((becomeMaster s hop true).bump Obj.takeovers).raise 43) := by
    show execCandidateWaitEnd s = _
    unfold execCandidateWaitEnd
    rw [hwait, hruns, ← hhop, if_pos (by decide)]
    rfl
  have hmaster := becomeMaster_isMaster s hop true
  obtain ⟨helected, hleft⟩ := becomeMaster_elected s hop
  have hraised := becomeMaster_raised s hop true
  have htakeovers : (becomeMaster s hop true).num Obj.takeovers = s.num Obj.takeovers := by
    unfold becomeMaster setDegraded
    dsimp only
    rw [State.num_setNum_other _ _ (by decide), rephase_num (by decide)]
    simp [State.num_setNum, Obj.girthState, Obj.hop, Obj.masterTag, Obj.ringSize, Obj.epochOffset, Obj.takeovers]
  generalize becomeMaster s hop true = u at hexec hmaster helected hleft hraised htakeovers
  have hgirth : ((u.bump Obj.takeovers).raise 43).girth = u.girth := State.girth_bump u _
  refine ⟨_, hexec, hmaster.bump_raise (by decide), ?_, ?_, Counted.of_num htakeovers (counted_bump _ u), ?_⟩
  · rw [hgirth, helected]
  · rw [hgirth, hleft]
  · show (u.bump Obj.takeovers).raised ++ _ = _
    rw [State.raised_bump, hraised]

theorem joinListenTimeout_effect (quiet : Bool) (hlisten : s.girth.listening = true) : Completes (.joinListenTimeout quiet) s fun t =>
    t.girth.listening = false ∧ (s.girth.role = 2 → IsMaster s 0 t) ∧ (s.girth.role ≠ 2 → Unjoined t) := by
  have hexec : exec (.joinListenTimeout quiet) s = execJoinListenTimeout quiet s := rfl
  unfold execJoinListenTimeout at hexec
  rw [hlisten, hruns, if_neg (by decide)] at hexec
  dsimp only at hexec
  by_cases hrole : (s.setGirth { s.girth with listening := false }).girth.role = 2
  · rw [if_pos hrole] at hexec
    exact ⟨_, hexec, becomeMaster_listening _ 0 true, fun _ => becomeMaster_isMaster (s.setGirth { s.girth with listening := false }) 0 true,
      fun h => absurd hrole h⟩
  · rw [if_neg hrole] at hexec
    exact ⟨_, hexec, unjoin_listening _, fun h => absurd h hrole, fun _ => unjoin_unjoined _⟩

/-! ### The master's period (R314, R315, R318) -/

omit hruns in
theorem healthBits_congr {t : State} (hstart : t.start = s.start) (hact : ∀ a < 4, t.num (Obj.actuatorState a) = s.num (Obj.actuatorState a))
    (hlocked : t.num Obj.phaseLocked = s.num Obj.phaseLocked) (hcollector : t.num Obj.collectorState = s.num Obj.collectorState) :
    healthBits t = healthBits s := by
  unfold healthBits inSafe
  rw [hstart, hlocked, hcollector, List.map_cons, List.map_cons, List.map_cons, List.map_cons, hact 0 (by decide), hact 1 (by decide),
    hact 2 (by decide), hact 3 (by decide)]
  rfl

/-- A role that stays lets the master send its SYNC. -/
theorem syncPeriod_sent (hstate : s.num Obj.girthState = 2) (hrole : roleSelected s = s.girth.role) (hhealth : healthBits s = s.girth.healthBits) :
    Completes .syncPeriod s fun t =>
      Queued s t 1 (syncPayload 0 s.girth.baseHop ownTag (decide (s.girth.role = 1)) (decide (0 < s.girth.takeoverLeft)) false) ∧
      t.girth.takeoverLeft = s.girth.takeoverLeft - 1 ∧ (ownRecent s = false → t.num Obj.ringSize = 0) := by
  have happly : applyRole s = s := if_pos hrole
  generalize hpay : syncPayload 0 s.girth.baseHop ownTag (decide (s.girth.role = 1)) (decide (0 < s.girth.takeoverLeft)) false = pay
  have hexec : exec .syncPeriod s = execSyncPeriod s := rfl
  unfold execSyncPeriod at hexec
  dsimp only at hexec
  rw [happly, hruns, if_neg nofun, if_pos (show s.num Obj.girthState = gMaster from hstate)] at hexec
  generalize hu : (if ownRecent s = true then s else s.setNum Obj.ringSize 0) = u at hexec
  have hsends : SendsAs s u := by
    rw [← hu]
    split
    · exact .refl hruns
    · exact (SendsAs.refl hruns).setNum (by decide) 0
  have hugirth : u.girth = s.girth := by rw [← hu]; split <;> rfl
  have hustart : u.start = s.start := by rw [← hu]; split <;> rfl
  have hunum : ∀ {k}, k ≠ Obj.ringSize → u.num k = s.num k := fun hk => by
    rw [← hu]
    split
    · rfl
    · exact State.num_setNum_other _ _ hk
  have huring : ownRecent s = false → u.num Obj.ringSize = 0 := fun h => by rw [← hu, h, if_neg nofun, State.num_setNum_self]
  have hqueued := sendFrame_queued hsends gtSync pay
  obtain ⟨tx, line, sync, hgirth⟩ := sendFrame_girth u gtSync pay
  have hnum : ∀ {k}, k ≠ Obj.txDrops → (sendFrame u gtSync pay).num k = u.num k := sendFrame_num u gtSync pay
  have hsame := sendFrame_sameBut u gtSync pay
  have hsend : sendSync u = (sendFrame u gtSync pay).setGirth { (sendFrame u gtSync pay).girth with
      takeoverLeft := (sendFrame u gtSync pay).girth.takeoverLeft - 1 } := by
    rw [sendSync, hugirth, hpay]
  rw [hsend] at hexec
  generalize sendFrame u gtSync pay = v at hexec hqueued hgirth hnum hsame
  generalize ht : v.setGirth { v.girth with takeoverLeft := v.girth.takeoverLeft - 1 } = t at hexec
  have htnum : ∀ {k}, k ≠ Obj.ringSize → k ≠ Obj.txDrops → t.num k = s.num k := fun hk hk' => by
    rw [← hunum hk, ← hnum hk', ← ht]
    rfl
  have hthealth : healthBits t = s.girth.healthBits := by
    rw [← hhealth]
    refine healthBits_congr ?_ (fun a _ => htnum ?_ ?_) (htnum (by decide) (by decide)) (htnum (by decide) (by decide))
    · rw [← hustart, ← ht]
      exact hsame .start (by decide)
    · unfold Obj.actuatorState Obj.ringSize Key
      omega
    · unfold Obj.actuatorState Obj.txDrops Key
      omega
  have htbits : t.girth.healthBits = s.girth.healthBits := by
    rw [← ht]
    show v.girth.healthBits = _
    rw [hgirth, hugirth]
  rw [hthealth, htbits, if_neg (fun h => h.2 rfl)] at hexec
  refine ⟨t, hexec, ?_, ?_, fun hrecent => ?_⟩
  · rw [← ht]
    exact hqueued.congr rfl rfl rfl rfl
  · rw [← ht]
    show v.girth.takeoverLeft - 1 = _
    rw [hgirth, hugirth]
  · rw [← huring hrecent, ← hnum (by decide), ← ht]
    rfl

/-- A MEMBER's role takes a master from the chain. -/
theorem syncPeriod_unjoined (hstate : s.num Obj.girthState = 2) (hselected : roleSelected s = 3) (hrole : s.girth.role ≠ 3) :
    Completes .syncPeriod s Unjoined := by
  have happly : applyRole s = unjoin (s.setGirth { s.girth with role := 3 }) := by
    unfold applyRole
    dsimp only
    rw [hselected, if_neg (Ne.symm hrole), if_neg (by decide), if_pos ⟨rfl, .inl hstate⟩]
  have hunjoined := unjoin_unjoined (s.setGirth { s.girth with role := 3 })
  have hexec : exec .syncPeriod s = execSyncPeriod s := rfl
  unfold execSyncPeriod at hexec
  dsimp only at hexec
  rw [happly, hruns, if_neg nofun] at hexec
  generalize unjoin (s.setGirth { s.girth with role := 3 }) = u at hexec hunjoined
  have hjoined : girthJoined u = false := by
    rw [girthJoined, hunjoined.1]
    rfl
  rw [if_neg (show ¬u.num Obj.girthState = gMaster from hunjoined.1 ▸ by decide), hjoined, if_neg (fun h => Bool.false_ne_true h.1)] at hexec
  exact ⟨u, hexec, hunjoined⟩

end

/-- Settles O31: following, adopting and taking over are told by the state that has taken the frame, whose objects, tags and time are
as before, and a master's period sends its SYNC from a state that sends as this one. -/
theorem girthMastershipFollowsTheRules : Obligations.GirthMastershipFollowsTheRules := by
  unfold Obligations.GirthMastershipFollowsTheRules
  intro s h tick base tag fixed take quiet
  exact ⟨fun hruns hcrc => ⟨girthSync_followed hruns hcrc, girthSync_over hruns hcrc, girthSync_dropped hruns hcrc, girthSync_adopted hruns hcrc⟩,
    masterLoss_effect, fun hwait hruns => candidateWaitEnd_effect hruns hwait, fun hlisten hruns => joinListenTimeout_effect hruns quiet hlisten,
    fun hruns hstate => ⟨syncPeriod_sent hruns hstate, syncPeriod_unjoined hruns hstate⟩⟩

end Sys2Proof.Machine
end

section
/-!
PROOFS. Captures, clearing and copies of the ledger, and UNRETIRE (R471, R473, R482, R483).
-/

namespace Sys2Proof.Machine

/-! ### Entries of a finite map -/

section
variable {α : Type} {k : Nat} {x : α} {e : Nat × α}

/-- A written map holds the new entry and old ones only. -/
theorem mem_of_mem_put : ∀ {m : SMap α}, e ∈ SMap.put m k x → e = (k, x) ∨ e ∈ m
  | [], h => .inl (List.mem_singleton.mp h)
  | (j, v) :: r, h => by
    simp only [SMap.put] at h
    split at h
    · exact (List.mem_cons.mp h).imp id (List.mem_cons_of_mem _)
    split at h
    · exact List.mem_cons.mp h
    · obtain rfl | h := List.mem_cons.mp h
      · exact .inr List.mem_cons_self
      · exact (mem_of_mem_put h).imp id (List.mem_cons_of_mem _)

theorem mem_put_self : ∀ {m : SMap α}, (k, x) ∈ SMap.put m k x
  | [] => List.mem_cons_self
  | (j, v) :: r => by
    simp only [SMap.put]
    split
    · exact List.mem_cons_self
    split
    · exact List.mem_cons_self
    · exact List.mem_cons_of_mem _ mem_put_self

/-- A write at a key that is not found keeps the entries. -/
theorem mem_put_of_mem : ∀ {m : SMap α}, SMap.find m k = none → e ∈ m → e ∈ SMap.put m k x
  | (j, v) :: r, hnone, h => by
    simp only [SMap.find] at hnone
    simp only [SMap.put]
    split
    next hk => rw [if_pos hk] at hnone; exact absurd hnone (by nofun)
    next hk =>
      rw [if_neg hk] at hnone
      split
      · exact List.mem_cons_of_mem _ h
      next hlt =>
        rw [if_neg hlt] at hnone
        obtain rfl | h := List.mem_cons.mp h
        · exact List.mem_cons_self
        · exact List.mem_cons_of_mem _ (mem_put_of_mem hnone h)

/-- What is found is an entry. -/
theorem key_mem_of_find : ∀ {m : SMap α}, (SMap.find m k).isSome = true → k ∈ m.map Prod.fst
  | (j, v) :: r, h => by
    simp only [SMap.find] at h
    split at h
    next hk => exact List.mem_cons.mpr (.inl hk)
    split at h
    · cases h
    · exact List.mem_cons_of_mem _ (key_mem_of_find h)

/-- A map of fewer entries than there are keys has no entry at one of them. -/
theorem exists_unfound {m : SMap α} {n : Nat} (hm : m.length < n) : ∃ i < n, SMap.find m i = none := by
  by_contra hall
  push Not at hall
  have hsub : List.range n ⊆ m.map Prod.fst := fun i hi =>
    key_mem_of_find (Option.isSome_iff_ne_none.mpr (hall i (List.mem_range.mp hi)))
  have hlength := (List.nodup_range.subperm hsub).length_le
  rw [List.length_range, List.length_map] at hlength
  omega

end

/-! ### Records that enter the ledger (R478) -/

section
variable {s : State} {r : Record}

/-- A ledger with room has a free slot. -/
theorem recordSlot_room {m : SMap Record} (severity : Nat) (hroom : m.length < 4096) : ∃ i, recordSlot m severity = some i ∧ SMap.find m i = none := by
  obtain ⟨j, hj, hnone⟩ := exists_unfound hroom
  unfold recordSlot
  rw [if_pos hroom]
  cases hfind : (List.range 4096).find? fun i => (SMap.find m i).isNone with
  | none => exact absurd hnone (by simpa using List.find?_eq_none.mp hfind j (List.mem_range.mpr hj))
  | some i =>
    have hsome := List.find?_some hfind
    exact ⟨i, rfl, Option.isNone_iff_eq_none.mp hsome⟩

/-- Only events are folded into an earlier record. -/
theorem foldSlot_none (hkind : r.kind ≠ kEvent) : foldSlot s r = none := by
  unfold foldSlot
  dsimp only
  split
  · exact if_neg fun h => hkind h.1
  · rfl

theorem recordNotice_coll (s : State) (severity : Nat) : (recordNotice s severity).coll = s.coll :=
  within_iff.mp (@recordNotice_frame [.objs, .host, .outs, .free] s (touch_of rfl) (touch_of rfl) (touch_of rfl) (touch_of rfl) s severity
    (.refl _ s)) .coll (by decide)

/-- A record that is no event takes a slot under the next number, or is dropped. -/
theorem appendRecord_coll (hkind : r.kind ≠ kEvent) : (appendRecord s r).coll = match recordSlot s.coll.ledger r.severity with
    | none => s.coll
    | some i => { s.coll with ledger := SMap.put s.coll.ledger i { r with seq := nextSeq s }, newestSeq := nextSeq s, changed := true } := by
  unfold appendRecord
  rw [foldSlot_none hkind]
  cases recordSlot s.coll.ledger r.severity with
  | none => exact State.coll_bump s _
  | some i =>
    dsimp only
    rw [recordNotice_coll]
    rfl

/-- With room, no count of dropped records moves. -/
theorem appendRecord_dropsSev (hkind : r.kind ≠ kEvent) (hroom : s.coll.ledger.length < 4096) (i : Fin 4) :
    (appendRecord s r).num (Obj.dropsSev i) = s.num (Obj.dropsSev i) := by
  obtain ⟨slot, hslot, -⟩ := recordSlot_room r.severity hroom
  unfold appendRecord
  rw [foldSlot_none hkind, hslot]
  have hne : ∀ k ∈ [Obj.slotsInUse, Obj.lockInUse, Obj.records, Obj.newestSeq, Obj.newestSeqLo], Obj.dropsSev i ≠ k := by
    unfold Obj.dropsSev
    fin_cases i <;> decide
  have hnotice := fun u v => @recordNotice_at (Obj.dropsSev i) v ⟨fun a => by unfold Obj.dropsSev Obj.commands Key; omega⟩
    ⟨fun a => by unfold Obj.dropsSev Obj.ioSlotsHeld Key; omega⟩ ⟨hne _ (by decide)⟩ ⟨hne _ (by decide)⟩ u r.severity
  have hcount := fun u v => @countRecords_at (Obj.dropsSev i) v ⟨hne _ (by decide)⟩ ⟨hne _ (by decide)⟩ ⟨hne _ (by decide)⟩ u
  exact (At.num_eq (hnotice _ _ (hcount _ _ (At.self _)))).trans rfl

end

/-! ### Clearing (R482) -/

section
variable {s : State} {v port : Nat}

/-- The ledger that a clear up to `v` leaves before its own record. -/
def keptRecords (s : State) (v : Nat) : SMap Record := s.coll.ledger.filter fun e => decide (v < e.2.seq)

theorem mem_keptRecords {e : Nat × Record} : e ∈ keptRecords s v ↔ e ∈ s.coll.ledger ∧ v < e.2.seq := by
  rw [keptRecords, List.mem_filter, decide_eq_true_eq]

theorem keptRecords_length (s : State) (v : Nat) : (keptRecords s v).length ≤ s.coll.ledger.length := List.length_filter_le _ _

theorem zeroDrops_effect (s : State) : (zeroDrops s).coll = s.coll ∧ (zeroDrops s).num Obj.powerOnCount = s.num Obj.powerOnCount ∧
    ∀ i : Fin 4, (zeroDrops s).num (Obj.dropsSev i) = 0 := by
  refine ⟨State.each_inv (P := fun t => t.coll = s.coll) rfl fun _ _ _ h => h,
    State.each_inv (P := fun t => t.num Obj.powerOnCount = s.num Obj.powerOnCount) rfl fun t i _ h =>
      (State.num_setNum_other t 0 (by unfold Obj.powerOnCount Obj.dropsSev Key; omega)).trans h, fun i => ?_⟩
  refine each_sets (P := fun t => t.num (Obj.dropsSev i) = 0) (a := i.val) _ (fun t => State.num_setNum_self t _ _) (fun t j h => ?_)
    (by fin_cases i <;> decide) s
  rw [State.num_setNum, h, ite_self]

/-- The state that a clear leaves before it counts the records: a clear of all of them zeroes the counts of dropped ones. -/
def clearedRecords (s : State) (v : Nat) : State :=
  let u := s.setColl { s.coll with ledger := keptRecords s v, changed := true }
  if decide (v = s.coll.newestSeq) then zeroDrops u else u

theorem clearedRecords_effect (s : State) (v : Nat) : (clearedRecords s v).coll = { s.coll with ledger := keptRecords s v, changed := true } ∧
    (clearedRecords s v).num Obj.powerOnCount = s.num Obj.powerOnCount ∧
    (v = s.coll.newestSeq → ∀ i : Fin 4, (clearedRecords s v).num (Obj.dropsSev i) = 0) := by
  obtain ⟨hcoll, hcount, hzero⟩ := zeroDrops_effect (s.setColl { s.coll with ledger := keptRecords s v, changed := true })
  unfold clearedRecords
  dsimp only
  split
  · exact ⟨hcoll, hcount, fun _ => hzero⟩
  next h => exact ⟨rfl, rfl, fun hv => absurd (decide_eq_true hv) h⟩

/-- The ledger's object reads anew from its start. -/
def renewLedger (s : State) : State :=
  { s with dict := { s.dict with gens := SMap.put s.dict.gens Obj.eventLedger (SMap.findD s.dict.gens Obj.eventLedger 0 + 1) } }

/-- A clear writes its own record to a ledger of the later ones. -/
theorem clearLedger_eq (s : State) (v port : Nat) : ∃ (w : State) (r : Record), clearLedger s v port = writeRecord w r ∧
    w.coll = { s.coll with ledger := keptRecords s v, changed := true } ∧ nextSeq w = nextSeq s ∧
    r.kind = 3 ∧ r.source = 37 ∧ r.detail2 = v ∧ (v = s.coll.newestSeq → ∀ i : Fin 4, w.num (Obj.dropsSev i) = 0) := by
  obtain ⟨hucoll, hucount, huzero⟩ := clearedRecords_effect s v
  have hrecords : ∀ (x : State) (k : Key), k ∉ [Obj.records, Obj.newestSeq, Obj.newestSeqLo] → (countRecords x).num k = x.num k := fun x k hk => by
    simp only [List.mem_cons, List.not_mem_nil, or_false, not_or] at hk
    obtain ⟨h1, h2, h3⟩ := hk
    exact At.num_eq (@countRecords_at k _ ⟨h2⟩ ⟨h3⟩ ⟨h1⟩ x (At.self x))
  obtain ⟨r, hclear, hkind, hsource, hdetail⟩ : ∃ r : Record,
      clearLedger s v port = writeRecord (countRecords (renewLedger (clearedRecords s v))) r ∧ r.kind = 3 ∧ r.source = 37 ∧ r.detail2 = v := by
    unfold clearLedger renewLedger clearedRecords keptRecords
    exact ⟨_, rfl, rfl, rfl, rfl⟩
  generalize clearedRecords s v = u at hclear hucoll hucount huzero
  have hnum : ∀ k, k ∉ [Obj.records, Obj.newestSeq, Obj.newestSeqLo] → (countRecords (renewLedger u)).num k = u.num k := hrecords _
  refine ⟨_, r, hclear, hucoll, ?_, hkind, hsource, hdetail, fun hv i => ?_⟩
  · unfold nextSeq
    rw [hnum _ (by decide), hucount, show (countRecords (renewLedger u)).coll = u.coll from rfl, hucoll]
  · rw [hnum _ (by fin_cases i <;> decide)]
    exact huzero hv i

/-- What a clear up to `v` leaves: the later records and its own, under the number `next`. -/
def Cleared (s : State) (v next : Nat) (t : State) : Prop :=
  (∀ e ∈ t.coll.ledger, v < e.2.seq) ∧ (∀ e ∈ s.coll.ledger, v < e.2.seq → s.coll.ledger.length < 4096 → e ∈ t.coll.ledger) ∧
  (s.coll.ledger.length < 4096 →
    t.coll.newestSeq = next ∧ ∃ e ∈ t.coll.ledger, e.2.kind = 3 ∧ e.2.source = 37 ∧ e.2.detail2 = v ∧ e.2.seq = next)

/-- The record of a clear that enters the ledger of the later ones clears it. -/
theorem cleared_of_appendRecord {w : State} {next : Nat} {x : Record} (hcoll : w.coll = { s.coll with ledger := keptRecords s v, changed := true })
    (hseq : nextSeq w = next) (hv : v < next) (hkind : x.kind = 3) (hsource : x.source = 37) (hdetail : x.detail2 = v) :
    Cleared s v next (appendRecord w x) := by
  have hledger : w.coll.ledger = keptRecords s v := by rw [hcoll]
  have hroom : s.coll.ledger.length < 4096 → ∃ i, recordSlot w.coll.ledger x.severity = some i ∧ SMap.find (keptRecords s v) i = none := fun h => by
    rw [hledger]
    exact recordSlot_room x.severity ((keptRecords_length s v).trans_lt h)
  have hafter := appendRecord_coll (s := w) (r := x) (by rw [hkind]; decide)
  unfold Cleared
  rw [hseq] at hafter
  cases hslot : recordSlot w.coll.ledger x.severity with
  | none =>
    rw [hslot] at hafter hroom
    rw [hafter, hledger]
    have hfull : ¬s.coll.ledger.length < 4096 := fun h => by
      obtain ⟨i, hi, -⟩ := hroom h
      cases hi
    exact ⟨fun e he => (mem_keptRecords.mp he).2, fun e he hlt _ => mem_keptRecords.mpr ⟨he, hlt⟩, fun h => absurd h hfull⟩
  | some i =>
    rw [hslot] at hafter hroom
    rw [hafter, hledger]
    refine ⟨fun e he => ?_, fun e he hlt hfew => ?_, fun _ => ⟨rfl, _, mem_put_self, hkind, hsource, hdetail, rfl⟩⟩
    · obtain rfl | he := mem_of_mem_put he
      · exact hv
      · exact (mem_keptRecords.mp he).2
    · obtain ⟨j, hj, hnone⟩ := hroom hfew
      obtain rfl : i = j := Option.some.inj hj
      exact mem_put_of_mem hnone (mem_keptRecords.mpr ⟨he, hlt⟩)

theorem clearLedger_cleared (hrestored : s.coll.restored = true) (hv : v ≤ s.coll.newestSeq) (port : Nat) : Cleared s v (nextSeq s) (clearLedger s v port) ∧
    (v = s.coll.newestSeq → s.coll.ledger.length < 4096 → ∀ i : Fin 4, (clearLedger s v port).num (Obj.dropsSev i) = 0) := by
  obtain ⟨w, r, hclear, hcoll, hseq, hkind, hsource, hdetail, hzero⟩ := clearLedger_eq s v port
  have hrest : w.coll.restored = true := by rw [hcoll]; exact hrestored
  have hnew : v < nextSeq s := (Nat.lt_succ_of_le hv).trans_le (le_max_left _ _)
  have hlength : s.coll.ledger.length < 4096 → w.coll.ledger.length < 4096 := fun h => by
    rw [hcoll]
    exact (keptRecords_length s v).trans_lt h
  have hevent : ∀ n, { r with startSeq := n }.kind ≠ kEvent := fun _ => by
    show r.kind ≠ kEvent
    rw [hkind]
    decide
  rw [hclear, writeRecord, if_pos hrest]
  exact ⟨cleared_of_appendRecord hcoll hseq hnew hkind hsource hdetail,
    fun hall hroom i => (appendRecord_dropsSev (hevent _) (hlength hroom) i).trans (hzero hall i)⟩

theorem clearUpto_answers {who : Requester} {n : Nat} (h : AcceptedNum s who Obj.clearUpto n) (hrestored : s.coll.restored = true)
    (hn : n ≤ s.coll.newestSeq) : Answers (.clearUpto who n) s who Obj.clearUpto fun t => Cleared s n (nextSeq s) t :=
  answers_of_acceptedNum (by unfold Obj.clearUpto Key; omega) rfl h (clearLedger_cleared hrestored hn _).1

theorem clearAll_answers {who : Requester} (h : AcceptedNum s who Obj.clearAll 1) (hrestored : s.coll.restored = true) :
    Answers (.clearAll who 1) s who Obj.clearAll fun t =>
      Cleared s s.coll.newestSeq (nextSeq s) t ∧ (s.coll.ledger.length < 4096 → ∀ i : Fin 4, t.num (Obj.dropsSev i) = 0) := by
  refine answers_of_acceptedNum (by unfold Obj.clearAll Key; omega) rfl h ?_
  obtain ⟨hcleared, hzero⟩ := clearLedger_cleared hrestored le_rfl (reqNo who)
  exact ⟨hcleared, hzero rfl⟩

end

/-! ### Captures, mirrors and copies (R473, R483) -/

section
variable {s : State} {who : Requester}

theorem effect_captureClear (s : State) (who : Requester) (r : Fin 9) : effect s who (Obj.captureClear r) (.num 1) = captureRearm s r := by
  fin_cases r <;> rfl

theorem captureClear_answers {r : Fin 9} (h : AcceptedNum s who (Obj.captureClear r) 1) :
    Answers (.captureClear who r 1) s who (Obj.captureClear r) fun t =>
      t.coll.captures[r].frozen = false ∧ ∀ i : Fin 9, i ≠ r → t.coll.captures[i] = s.coll.captures[i] := by
  refine answers_of_acceptedNum (by unfold Obj.captureClear Key; omega) rfl h ?_
  rw [effect_captureClear]
  refine ⟨congrArg Capture.frozen (vmod_at s.coll.captures r _), fun i hi => ?_⟩
  have hother := vget_vmod_other s.coll.captures (fun _ => ⟨false, ⟨0, 0, 0, 0, 5, 0, 0⟩, 0, 0⟩) s.coll.captures[i] (Fin.val_ne_of_ne (Ne.symm hi))
  unfold vget at hother
  rwa [dif_pos i.isLt, dif_pos i.isLt] at hother

theorem ledgerMirror_effect (hrestored : s.coll.restored = true) (hchanged : s.coll.changed = true) (hidle : s.coll.mirroring = none) :
    Completes .ledgerMirror s fun t =>
      t.coll.mirroring = some s.coll.ledger ∧ t.coll.changed = false ∧ t.coll.norCopies = s.coll.norCopies := by
  have hexec : exec .ledgerMirror s = .next (s.setColl { s.coll with mirroring := some s.coll.ledger, changed := false }) := by
    show execLedgerMirror s = _
    unfold execLedgerMirror startMirror
    rw [hrestored, hchanged, hidle]
    rfl
  exact ⟨_, hexec, rfl, rfl, rfl⟩

/-- A mirror that is written is the older of the two copies. -/
theorem ledgerMirrorDone_effect {copy : SMap Record} (hmirror : s.coll.mirroring = some copy) : Completes .ledgerMirrorDone s fun t =>
    vget t.coll.norCopies s.coll.norNext copy = copy ∧ t.coll.norNext = 1 - s.coll.norNext ∧ t.coll.mirroring = none ∧
    t.num Obj.mirrorSeq = max (s.num Obj.mirrorSeq) (copy.foldl (fun t e => max t e.2.seq) 0) := by
  have hexec : exec .ledgerMirrorDone s = execLedgerMirrorDone s := rfl
  unfold execLedgerMirrorDone at hexec
  rw [hmirror] at hexec
  refine ⟨_, hexec, ?_, rfl, rfl, State.num_setNum_self _ _ _⟩
  show vget (vmod s.coll.norCopies s.coll.norNext fun _ => copy) s.coll.norNext copy = copy
  rw [vget_vmod]
  split
  · rfl
  next h => exact dif_neg fun hlt => h ⟨rfl, hlt⟩

/-- The band's copy is the ledger as it stands. -/
theorem ledgerBandCopy_effect {h : Fin 2} (hrestored : s.coll.restored = true) (hplaced : s.media.holders[h] ≠ 255)
    (husable : usable s s.media.holders[h] = true) (hfit : failedSurface s s.media.holders[h] = false) :
    Completes .ledgerBandCopy s fun t => t.coll.bandCopy = s.coll.ledger ∧ t.coll.ledger = s.coll.ledger := by
  have hany : (s.media.holders.toList.any fun h => decide (h ≠ 255) && usable s h && !failedSurface s h) = true := by
    refine List.any_eq_true.mpr ⟨s.media.holders[h], Vector.mem_toList_iff.mpr (Vector.getElem_mem _), ?_⟩
    rw [husable, hfit, decide_eq_true hplaced]
    rfl
  have hexec : exec .ledgerBandCopy s = execLedgerBandCopy s := rfl
  unfold execLedgerBandCopy bandCopy at hexec
  rw [if_pos hany, if_pos hrestored] at hexec
  have hcoll := State.each_inv (s := s.setColl { s.coll with bandCopy := s.coll.ledger })
    (l := holderSurfaces s) (f := fun s u => areaWrite s u 6 (ledgerBytes s.coll.ledger)) (P := fun t => t.coll = { s.coll with bandCopy := s.coll.ledger }) rfl
    fun t u _ ht => (within_iff.mp (@areaWrite_frame [.outs] t (touch_of rfl) t u 6 _ (.refl _ t)) .coll (by decide)).trans ht
  refine ⟨_, hexec, ?_⟩
  dsimp only
  rw [hcoll]
  exact ⟨rfl, rfl⟩

/-! ### UNRETIRE (R471, R482) -/

theorem unretire_answers {d : Fin 8} (h : AcceptedNum s who Obj.unretire (256 + d)) :
    Answers (.unretire who (256 + d)) s who Obj.unretire fun t =>
      t.num (Obj.detectorState d) = 2 ∧ t.str Obj.retiredUnits = retiredUnitsBlob (nunset (retiredIds s) (256 + d.val)) := by
  have hin := (inRange_of_accepted h.2).1
  rw [inRange, Bool.and_eq_true] at hin
  have hretired : (retiredIds s).contains (256 + d.val) = true := hin.2
  have howner : ownerOf (256 + d.val) = .detector d := by fin_cases d <;> rfl
  have hne : Obj.retiredUnits ≠ Obj.detectorState d := by fin_cases d <;> decide
  refine answers_of_acceptedNum (by unfold Obj.unretire Key; omega) rfl h ?_
  have heffect : effect s who Obj.unretire (.num (256 + d)) = (unretireAsk s (256 + d)).2 := rfl
  rw [heffect, unretireAsk, hretired, if_neg (by decide)]
  generalize hu : s.setStr Obj.retiredUnits (retiredUnitsBlob (nunset (retiredIds s) (256 + d.val))) = u
  have hustr : u.str Obj.retiredUnits = retiredUnitsBlob (nunset (retiredIds s) (256 + d.val)) := by rw [← hu, State.str_setStr_self]
  have hstore := @recordStore_at Obj.retiredUnits _ ⟨by decide⟩ u .retiredUnits (At.self u)
  generalize recordStore u .retiredUnits = w at hstore
  dsimp only
  rw [howner]
  exact ⟨State.num_setNum_self _ _ _, (State.str_setNum_other _ _ hne).trans ((congrArg Val.toBytes hstore).trans hustr)⟩

end

/-- Settles O60: a clear writes its record, which folds into none, to the ledger of the later ones, where a free slot is left while
it has room; copies and mirrors are the ledger as it stands. -/
theorem ledgerIsClearedMirroredAndCopied : Obligations.LedgerIsClearedMirroredAndCopied := by
  unfold Obligations.LedgerIsClearedMirroredAndCopied
  intro s who n r copy d h
  exact ⟨captureClear_answers, clearUpto_answers, clearAll_answers, ledgerMirror_effect, ledgerMirrorDone_effect, ledgerBandCopy_effect,
    unretire_answers⟩

end Sys2Proof.Machine
end

section
/-!
PROOFS. A reshape's switch while a rebuild job names a surface that no device has (R400, R418).
-/

namespace Sys2Proof.Machine

/-! ### Completions leave the host interface but for queues and slots (R344, R356) -/

section
variable {s t : State}

theorem countSlots_host (s : State) : (countSlots s).host = s.host :=
  within_iff.mp (@countSlots_frame [.objs] s (touch_of rfl) s (.refl _ s)) .host (by decide)

theorem OnlyQueues.setSlots (h : OnlyQueues s t) (l : SMap CmdSlot) : OnlyQueues s (t.setHost { t.host with slots := l }) :=
  h.trans ⟨fun _ => rfl, rfl⟩

theorem putSlot_onlyQueues (h : OnlyQueues s t) (n : Nat) (c : CmdSlot) : OnlyQueues s (putSlot t n c) := h.setSlots _

theorem releaseOne_onlyQueues (h : OnlyQueues s t) (n : Nat) : OnlyQueues s (releaseOne t n) := by
  unfold releaseOne
  split
  · exact h
  · split
    · exact h
    · exact ((putSlot_onlyQueues h n _).setSlots _).congr (countSlots_host _)

theorem settleLock_onlyQueues (fuel : Nat) (h : OnlyQueues s t) : OnlyQueues s (settleLock fuel t) := by
  induction fuel generalizing t with
  | zero => exact h
  | succ fuel ih =>
    unfold settleLock
    split
    · exact h
    · dsimp only
      split
      · exact ih (postCompletion_onlyQueues (releaseOne_onlyQueues (putSlot_onlyQueues h _ _) _) _ _ _)
      · exact ih (putSlot_onlyQueues h _ _)

theorem releaseEntry_onlyQueues (h : OnlyQueues s t) (n : Nat) : OnlyQueues s (releaseEntry t n) :=
  settleLock_onlyQueues 1024 (releaseOne_onlyQueues h n)

theorem complete_onlyQueues (h : OnlyQueues s t) (n sct sc dw0 dw1 : Nat) : OnlyQueues s (complete t n sct sc dw0 dw1) := by
  unfold complete
  split
  · exact h
  · exact postCompletion_onlyQueues (releaseEntry_onlyQueues h n) _ _ _

theorem finishMedium_onlyQueues (h : OnlyQueues s t) (n : Nat) : OnlyQueues s (finishMedium t n) := by
  have hdone := complete_onlyQueues h n scOk.1 scOk.2 0 0
  unfold finishMedium completeWith
  split
  · exact h
  · split
    · exact h
    · split
      · exact hdone.bump _
      · split
        · dsimp only
          split
          · exact hdone.bump _
          · exact hdone
        · exact h

theorem settleMedium_onlyQueues (h : OnlyQueues s t) : OnlyQueues s (settleMedium t) :=
  State.each_inv h fun _ n _ hu => finishMedium_onlyQueues hu n

theorem blocksOnMedium_onlyQueues (h : OnlyQueues s t) (done : List (Nat × Nat)) : OnlyQueues s (blocksOnMedium t done) :=
  settleMedium_onlyQueues (h.setSlots _)

theorem OnlyQueues.namespaces (h : OnlyQueues s t) : t.host.namespaces = s.host.namespaces := 
  (congrArg HostIf.namespaces h.2 : { t.host with ctrls := s.host.ctrls, slots := s.host.slots }.namespaces = s.host.namespaces)

end

/-! ### What the descriptor's update leaves (R386, R417) -/

section
variable {s t : State}

/-- A mirrored page changes its generation only. -/
theorem mirrorPage_layout (s : State) (n : Nat) (data : List Byte) :
    ∃ gens, (mirrorPage s n data).layout = { s.layout with pageGens := gens } := by
  refine ⟨SMap.put s.layout.pageGens n (SMap.findD s.layout.pageGens n 0 + 1), State.each_inv
    (P := fun t => t.layout = { s.layout with pageGens := SMap.put s.layout.pageGens n (SMap.findD s.layout.pageGens n 0 + 1) }) rfl fun t u _ ht => ?_⟩
  split
  · exact ht
  · exact ht

theorem mirrorPages_layout (s : State) (base i : Nat) (data : List Byte) :
    ∃ gens, (mirrorPages s base i data).layout = { s.layout with pageGens := gens } :=
  State.each_inv (P := fun t => ∃ gens, t.layout = { s.layout with pageGens := gens }) ⟨s.layout.pageGens, rfl⟩ fun t x _ ⟨_, ht⟩ => by
    obtain ⟨gens, hpage⟩ := mirrorPage_layout t (base + x.1) (padTo 4096 x.2)
    exact ⟨gens, by rw [hpage, ht]⟩

theorem layoutChanged_layout (s : State) : (layoutChanged s).layout = { s.layout with healthGen := s.layout.healthGen + 1 } := by
  have hcount : (countLayout s).layout = s.layout := within_iff.mp (@countLayout_frame [.objs] s (touch_of rfl) s (.refl _ s)) .layout (by decide)
  unfold layoutChanged
  rw [hcount]
  rfl

/-- A descriptor's update counts itself and renews generations. -/
theorem descriptorUpdate_layout (s : State) : ∃ gens health,
    (descriptorUpdate s).layout = { s.layout with seq := s.layout.seq + 1, pageGens := gens, healthGen := health } := by
  unfold descriptorUpdate
  dsimp only
  generalize hu : s.setLayout { s.layout with seq := s.layout.seq + 1 } = u
  obtain ⟨gens, hpages⟩ := mirrorPages_layout u (8 * (u.layout.seq % 2)) 0 (descriptorImage u)
  refine ⟨gens, (mirrorPages u (8 * (u.layout.seq % 2)) 0 (descriptorImage u)).layout.healthGen + 1, ?_⟩
  rw [layoutChanged_layout, hpages, ← hu]
  rfl

/-- The objects, the layout and the outputs change with a descriptor's update. -/
theorem descriptorUpdate_sameBut (s : State) : SameBut [.objs, .layout, .outs] s (descriptorUpdate s) :=
  within_iff.mp (@descriptorUpdate_frame [.objs, .layout, .outs] s (touch_of rfl) (touch_of rfl) (touch_of rfl) s (.refl _ s))

end

/-! ### What ends with the switch (R400, R418) -/

section
variable {s : State}

/-- With no stripe allocated, no job has a member to fill. -/
theorem nextPending_none (hall : s.layout.allocated = []) (u w : Nat) : nextPending s u w = none := by
  have hstripes : ∀ r, runStripes s r = [] := fun r => by rw [runStripes, hall, List.filter_nil]
  unfold nextPending
  simp only [hstripes, List.find?_nil]
  induction runs s with
  | nil => rfl
  | cons r l ih => exact ih

/-- A switch ends with the jobs, the commands and what waits for the cache to drain. -/
theorem exec_reshapeSwitch {rs : Reshape} {n : Namespace} (hplan : s.layout.reshape = some rs) (hns : nsOf s rs.nsid = some n)
    (hcopied : rs.groupsTotal ≤ rs.nextGroup) (hjournal : s.layout.journal = []) : ∃ u done,
      exec .reshapeSwitch s = .next (settleDrain (blocksOnMedium (settleJobs (descriptorUpdate u)) done)) ∧ u.layout.jobs = s.layout.jobs ∧
      u.layout.allocated ⊆ s.layout.allocated ∧ u.host.slots = s.host.slots ∧ u.host.ctrls = s.host.ctrls ∧ u.start = s.start := by
  have hexec : exec .reshapeSwitch s = execReshapeSwitch s := rfl
  unfold execReshapeSwitch at hexec
  rw [hplan] at hexec
  dsimp only at hexec
  rw [hns] at hexec
  dsimp only at hexec
  rw [hjournal, if_neg (by rintro (h | h); exacts [absurd h (Nat.not_lt.mpr hcopied), absurd h Bool.false_ne_true])] at hexec
  exact ⟨_, _, hexec, rfl, List.filter_subset_self _, rfl, rfl, rfl⟩

/-- A rebuild job of a surface whose STATE object would stand at RESHAPE_STATE's index. -/
def strayJob : Job := ⟨126977, 0, 0, 0⟩

/-- A reshape of the namespace of ten blocks that has copied all its groups. -/
def copiedReshape : Reshape :=
  { nsid := 3, newSlot := 1, firstRow := 0, firstStripe := 4, periods := 1, blocks := 128, groupBlocks := 8192, groupsTotal := 1, nextGroup := 1 }

/-- That reshape waits for its switch, and the stray job is active. -/
def strayRebuild : State :=
  { State.reset with
    power := { State.reset.power with powerGood := true, railsOff := false }
    start := { State.reset.start with mode := .normal, inReset := false, passedSteps := 2 ^ 21 - 1 }
    host := { State.reset.host with namespaces := [(3, smallNamespace)] }
    layout := { State.reset.layout with maps := [(0, smallMap), (1, smallMap)], reshape := some copiedReshape, jobs := [strayJob] } }

/-- That job ends where no stripe is allocated, and the STATE that it writes is RESHAPE_STATE. -/
theorem settleJobs_stray (hjobs : s.layout.jobs = [strayJob]) (hall : s.layout.allocated = []) : (settleJobs s).num Obj.reshapeState = 4 := by
  have hjob : settleJob s strayJob = surfaceTo (s.setLayout { s.layout with jobs := s.layout.jobs.filter fun x => decide (x.surface ≠ 126977) })
      126977 4 := by
    unfold settleJob
    rw [nextPending_none hall]
    rfl
  have hactive : activeJobs s = [strayJob] := by rw [activeJobs, hjobs]; rfl
  have hstate : (settleJob s strayJob).num Obj.reshapeState = 4 := by
    rw [hjob]
    exact State.num_setNum_self _ _ _
  unfold settleJobs
  rw [hactive]
  exact (At.num_eq (@layoutChanged_at Obj.reshapeState _ ⟨by decide⟩ ⟨by decide⟩ ⟨by decide⟩ ⟨by decide⟩ ⟨by decide⟩ ⟨by decide⟩ ⟨by decide⟩
    ⟨by decide⟩ ⟨by decide⟩ ⟨by decide⟩ _ (At.self _))).trans hstate

/-- Where no command waits and nothing shuts down or restarts, the drain changes no object. -/
theorem settleDrain_idle {u : State} (hslots : u.host.slots = []) (hctrls : u.host.ctrls = State.reset.host.ctrls)
    (hcalm : u.start.restartAsked = false) (done : List (Nat × Nat)) : (settleDrain (blocksOnMedium u done)).objs = u.objs := by
  have hmedium : blocksOnMedium u done = u.setHost { u.host with slots := [] } := by
    unfold blocksOnMedium settleMedium
    rw [hslots]
    rfl
  have hidle : ∀ p, settleShutdown (u.setHost { u.host with slots := [] }) p = u.setHost { u.host with slots := [] } := fun p => by
    have hshutdown : ((u.setHost { u.host with slots := [] }).ctrl p).shutdown = 0 := by
      show (vget u.host.ctrls _ _).shutdown = 0
      rw [hctrls]
      cases p <;> rfl
    unfold settleShutdown
    dsimp only
    rw [hshutdown, if_neg (fun h => absurd h.1 (by decide))]
  have hquiet : settleRestart (u.setHost { u.host with slots := [] }) = u.setHost { u.host with slots := [] } := settleRestart_calm hcalm
  rw [hmedium, settleDrain, settleShutdowns, hidle, hidle, hquiet]
  rfl

theorem strayRebuild_state : Completes .reshapeSwitch strayRebuild fun t => t.num Obj.reshapeState = 4 := by
  obtain ⟨u, done, hexec, hjobs, hall, hslots, hctrls, hstart⟩ := exec_reshapeSwitch (s := strayRebuild) (rs := copiedReshape) (n := smallNamespace)
    rfl rfl (by decide) rfl
  obtain ⟨gens, health, hlayout⟩ := descriptorUpdate_layout u
  have hsame := descriptorUpdate_sameBut u
  have hvhost := hsame .host (by decide)
  have hvstart := hsame .start (by decide)
  generalize descriptorUpdate u = v at hexec hlayout hvhost hvstart
  have hvjobs : v.layout.jobs = [strayJob] := by rw [hlayout]; exact hjobs
  have hvall : v.layout.allocated = [] := by rw [hlayout]; exact List.subset_nil.mp hall
  have hstate := settleJobs_stray hvjobs hvall
  have hjobsSame := within_iff.mp (@settleJobs_frame [.objs, .layout] v (touch_of rfl) (touch_of rfl) v (.refl _ v))
  have hwhost : (settleJobs v).host = u.host := (hjobsSame .host (by decide)).trans hvhost
  have hwstart : (settleJobs v).start = u.start := (hjobsSame .start (by decide)).trans hvstart
  generalize settleJobs v = w at hexec hstate hwhost hwstart
  refine ⟨_, hexec, (State.num_congr (settleDrain_idle ?_ ?_ ?_ done) _).trans hstate⟩
  · rw [hwhost, hslots]; rfl
  · rw [hwhost, hctrls]; rfl
  · rw [hwstart, hstart]; rfl

/-- Refutes O55: the switch ends the rebuild jobs that have nothing left to do, and one of a surface number that no device has
writes its STATE over RESHAPE_STATE (`strayRebuild`). -/
theorem not_reshapesMoveANamespace : ¬ Obligations.ReshapesMoveANamespace := by
  unfold Obligations.ReshapesMoveANamespace
  intro h
  obtain ⟨-, -, -, -, hswitch⟩ := h strayRebuild .mbus [] smallNamespace smallMap copiedReshape smallNamespace.run
  obtain ⟨t, hexec, -, -, -, hstate⟩ := hswitch rfl rfl rfl (by decide) (by intro e he; cases he)
  obtain ⟨u, hexec', hstray⟩ := strayRebuild_state
  obtain rfl : t = u := by
    rw [hexec] at hexec'
    exact Host.Outcome.next.inj hexec'
  exact absurd (hstray.symm.trans hstate) (by decide)

end

end Sys2Proof.Machine
end

section
/-!
PROOFS. Namespaces and reservations (R335, R341, R354 to R357, R371).
-/

namespace Sys2Proof.Machine

/-! ### What ends of commands leave of the host interface -/

/-- Of the host interface only controllers and command slots differ. -/
def SameTables (s t : State) : Prop := { t.host with ctrls := s.host.ctrls, slots := s.host.slots } = s.host

namespace SameTables
variable {s t u : State}

theorem refl (s : State) : SameTables s s := rfl

theorem trans (h : SameTables s t) (g : SameTables t u) : SameTables s u := by
  have hside := congrArg (fun x : HostIf => { x with ctrls := s.host.ctrls, slots := s.host.slots }) g
  exact hside.trans h

/-- A change of another part. -/
theorem congr (h : SameTables s t) (hhost : u.host = t.host) : SameTables s u := by
  unfold SameTables
  rw [hhost]
  exact h

theorem modCtrl (h : SameTables s t) (p : Port) (f : Controller → Controller) : SameTables s (t.modCtrl p f) := h.trans rfl

theorem setSlots (h : SameTables s t) (l : SMap CmdSlot) : SameTables s (t.setHost { t.host with slots := l }) := h.trans rfl

theorem queues (h : SameTables s t) (g : OnlyQueues t u) : SameTables s u := h.trans g.2

theorem namespaces (h : SameTables s t) : t.host.namespaces = s.host.namespaces :=
  (congrArg HostIf.namespaces h : { t.host with ctrls := s.host.ctrls, slots := s.host.slots }.namespaces = s.host.namespaces)

theorem reservations (h : SameTables s t) : t.host.reservations = s.host.reservations :=
  (congrArg HostIf.reservations h : { t.host with ctrls := s.host.ctrls, slots := s.host.slots }.reservations = s.host.reservations)

theorem resCopies (h : SameTables s t) : t.host.resCopies = s.host.resCopies :=
  (congrArg HostIf.resCopies h : { t.host with ctrls := s.host.ctrls, slots := s.host.slots }.resCopies = s.host.resCopies)

theorem resWaiting (h : SameTables s t) : t.host.resWaiting = s.host.resWaiting :=
  (congrArg HostIf.resWaiting h : { t.host with ctrls := s.host.ctrls, slots := s.host.slots }.resWaiting = s.host.resWaiting)

theorem reservationOf (h : SameTables s t) (ns : Nat) : reservationOf t ns = reservationOf s ns := by
  unfold Machine.reservationOf
  rw [h.reservations]

end SameTables

section
variable {s t : State}

theorem retractLoaded_host' (s : State) : (retractLoaded s).host = s.host :=
  within_iff.mp (@retractLoaded_frame [.objs, .motion, .free] s (touch_of rfl) (touch_of rfl) (touch_of rfl) s (.refl _ s)) .host (by decide)

theorem bandCopy_host (s : State) : (bandCopy s).host = s.host :=
  within_iff.mp (@bandCopy_frame [.coll, .outs] s (touch_of rfl) (touch_of rfl) s (.refl _ s)) .host (by decide)

theorem finishShutdown_tables (h : SameTables s t) : SameTables s (finishShutdown t) := h.trans rfl

/-- A shutdown that goes on changes its controllers only. -/
theorem settleShutdown_tables (h : SameTables s t) (p : Port) : SameTables s (settleShutdown t p) := by
  have hparked : SameTables s (retractLoaded (bandCopy t)) := h.congr ((retractLoaded_host' _).trans (bandCopy_host t))
  unfold settleShutdown
  generalize retractLoaded (bandCopy t) = u at hparked
  dsimp only
  split_ifs
  · exact h.modCtrl p _
  · exact h
  · exact finishShutdown_tables (hparked.modCtrl p _)
  · exact hparked.modCtrl p _
  · exact h

theorem settleShutdowns_tables (h : SameTables s t) : SameTables s (settleShutdowns t) :=
  settleShutdown_tables (settleShutdown_tables h .a) .b

theorem coverFlush_tables (h : SameTables s t) (n : Nat) : SameTables s (coverFlush t n) := by
  unfold coverFlush
  split
  · exact h
  · split
    · exact h
    · exact h.setSlots _

theorem endIo_tables (h : SameTables s t) (n : Nat) (st : Nat × Nat) : SameTables s (endIo t n st) :=
  settleShutdowns_tables (((coverFlush_tables h n).queues (complete_onlyQueues (.refl _) n st.1 st.2 0 0)).queues (settleMedium_onlyQueues (.refl _)))

theorem endIos_tables (h : SameTables s t) (l : List Nat) (st : Nat × Nat) : SameTables s (t.each l fun s n => endIo s n st) :=
  State.each_inv h fun _ n _ hu => endIo_tables hu n st

theorem blocksOnMedium_tables (h : SameTables s t) (done : List (Nat × Nat)) : SameTables s (blocksOnMedium t done) :=
  h.queues (blocksOnMedium_onlyQueues (.refl t) done)

/-- Notifications reach controllers only. -/
theorem notifyHosts_tables (h : SameTables s t) (nsid maskBit : Nat) (hosts : List Nat) : SameTables s (notifyHosts t nsid maskBit hosts) :=
  State.each_inv h fun u p _ hu => by
    dsimp only
    split
    · exact (hu.modCtrl p _).queues (giveNotices_onlyQueues 8 (.refl _) p)
    · exact hu

theorem namespaceChanged_tables (h : SameTables s t) (nsid : Nat) (ps : List Port) : SameTables s (namespaceChanged t nsid ps) :=
  State.each_inv h fun _ p _ hu => hu.modCtrl p _

/-! ### Namespaces that go (R341) -/

theorem freeStripes_host (s : State) (first n : Nat) : (freeStripes s first n).host = s.host :=
  within_iff.mp (@freeStripes_frame [.objs, .layout] s (touch_of rfl) (touch_of rfl) s first n (.refl _ s)) .host (by decide)

theorem cancelReshape_tables (h : SameTables s t) : SameTables s (cancelReshape t) := by
  unfold cancelReshape
  split
  · exact h
  · next r _ =>
    have hfree := freeStripes_host t r.firstStripe (r.stripes t)
    refine blocksOnMedium_tables (h.congr ((descriptorUpdate_sameBut _ .host (by decide)).trans ?_)) _
    generalize freeStripes t r.firstStripe (r.stripes t) = u at hfree
    exact hfree

theorem discardNamespace_tables (h : SameTables s t) (ns : Namespace) : SameTables s (discardNamespace t ns) := by
  have hclear : ∀ (u : State) (a b c : Nat), (clearLost u a b c).host = u.host := fun u a b c => within_iff.mp
    (@clearLost_frame [.objs, .layout, .raised, .outs] u (touch_of rfl) (touch_of rfl) (touch_of rfl) (touch_of rfl) u a b c (.refl _ u)) .host (by decide)
  have hstart : SameTables s (match t.layout.reshape with
      | some r => if r.nsid = ns.nsid then cancelReshape t else t
      | none => t) := by
    split
    · split
      · exact cancelReshape_tables h
      · exact h
    · exact h
  have hdrop : ∀ (u : State) (p : Nat → Bool) (l : Layout), (countJournal ((dropCached u p).setLayout l)).host = u.host := fun u p _ =>
    within_iff.mp (@dropCached_frame [.objs, .mem] u (touch_of rfl) (touch_of rfl) u p (.refl _ u)) .host (by decide)
  unfold discardNamespace
  exact blocksOnMedium_tables (SameTables.congr hstart ((hclear _ _ _ _).trans (hdrop _ _ _))) _

end

/-! ### Creation and deletion (R341, R371) -/

section
variable {s : State} {slot : Nat} {c : CmdSlot}

theorem namespaceCreate_held (hheld : descriptorHeld s = true) (nsze fmt : Nat) : exec (.namespaceCreate slot nsze fmt) s = .next s := by
  show execNamespaceCreate slot nsze fmt s = _
  unfold execNamespaceCreate
  cases adminCmd s slot 0x0D with
  | none => rfl
  | some c => exact if_pos (.inr hheld)

theorem namespaceDelete_held (hheld : descriptorHeld s = true) : exec (.namespaceDelete slot) s = .next s := by
  show execNamespaceDelete slot s = _
  unfold execNamespaceDelete
  cases adminCmd s slot 0x0D with
  | none => rfl
  | some c => exact if_pos (.inr hheld)

/-- The state with a namespace put in place, its map and the next generation of its key, before the descriptor is written. -/
def placedNamespace (s : State) (ns : Namespace) (m : StitchMap) : State :=
  let s := s.setLayout { s.layout with maps := SMap.put s.layout.maps ns.mapSlot m }
  let s := s.setHost { s.host with namespaces := SMap.put s.host.namespaces ns.nsid ns }
  let s := s.setFw { s.fw with nsKeys := SMap.put s.fw.nsKeys ns.nsid (SMap.findD s.fw.nsKeys ns.nsid 0 + 1) }
  s.setNum (Obj.nsLayout ns.nsid) m.layoutId

/-- A descriptor's update leaves the layout's object of a namespace alone. -/
theorem descriptorUpdate_nsLayout (s : State) {ns : Nat} (hns : ns ≤ 16) : (descriptorUpdate s).num (Obj.nsLayout ns) = s.num (Obj.nsLayout ns) := by
  have hne : ∀ k ∈ [Obj.chunksToRebuild, Obj.criticalStripes, Obj.degradedStripes, Obj.lostEntries, Obj.lostMerges, Obj.rebuildState, Obj.remapCrowded,
      Obj.remapEntries, Obj.stripesUsed, Obj.substCrowded], ¬Obj.nsLayout ns = k := by
    simp only [List.forall_mem_cons, List.not_mem_nil, IsEmpty.forall_iff, implies_true, and_true]
    unfold Obj.nsLayout Obj.chunksToRebuild Obj.criticalStripes Obj.degradedStripes Obj.lostEntries Obj.lostMerges Obj.rebuildState Obj.remapCrowded
      Obj.remapEntries Obj.stripesUsed Obj.substCrowded Key
    omega
  exact At.num_eq (@descriptorUpdate_at _ _ ⟨hne _ (by decide)⟩ ⟨hne _ (by decide)⟩ ⟨hne _ (by decide)⟩ ⟨hne _ (by decide)⟩ ⟨hne _ (by decide)⟩
    ⟨hne _ (by decide)⟩ ⟨hne _ (by decide)⟩ ⟨hne _ (by decide)⟩ ⟨hne _ (by decide)⟩ ⟨hne _ (by decide)⟩ s (At.self s))

theorem placedNamespace_effect (s : State) (ns : Namespace) (m : StitchMap) (hns : ns.nsid ≤ 16) :
    let t := descriptorUpdate (placedNamespace s ns m)
    nsOf t ns.nsid = some ns ∧ SMap.findD t.fw.nsKeys ns.nsid 0 = SMap.findD s.fw.nsKeys ns.nsid 0 + 1 ∧ t.num (Obj.nsLayout ns.nsid) = m.layoutId ∧
    t.layout.seq = s.layout.seq + 1 ∧ t.layout.allocated = s.layout.allocated := by
  intro t
  obtain ⟨gens, health, hlayout⟩ := descriptorUpdate_layout (placedNamespace s ns m)
  have hsame := descriptorUpdate_sameBut (placedNamespace s ns m)
  refine ⟨?_, ?_, (descriptorUpdate_nsLayout _ hns).trans (State.num_setNum_self _ _ _), ?_, ?_⟩
  · unfold nsOf
    rw [hsame .host (by decide)]
    exact SMap.find_put_self _ _ _
  · rw [hsame .fw (by decide)]
    exact (findD_put _ _ _ _ _).trans (if_pos rfl)
  · exact (congrArg Layout.seq hlayout).trans rfl
  · exact (congrArg Layout.allocated hlayout).trans rfl

theorem namespaceCreate_ends {nsze fmt i row stripe dba ms : Nat} {m : StitchMap} (hcmd : adminCmd s slot 0x0D = some c)
    (hselect : c.cmd.cdw10 % 16 = 0) (hheld : descriptorHeld s = false) (hmode : normalMode s = true) (hfmt : fmt ≤ 1) (hnsze : nsze ≠ 0)
    (hmap : newMap s = some m) (hfree : (List.range 16).find? (fun i => (nsOf s (i + 1)).isNone) = some i)
    (hrow : lowestRun (rowRuns s) (periodsFor m nsze * m.periodRows) s.layout.rowsTotal = some row)
    (hstripe : lowestRun (stripeRuns s) (periodsFor m nsze * m.periodStripes) (2 ^ 26) = some stripe)
    (hdba : lowestRun (dbaRuns s) (periodsFor m nsze * m.periodStripes * m.k * 64) (2 ^ 36) = some dba) (hslot : slotForMap s m = some ms) :
    EndsAdmin (.namespaceCreate slot nsze fmt) s slot scOk (i + 1) 0 fun t =>
      nsOf t (i + 1) = some ⟨i + 1, ms, dba, periodsFor m nsze * m.periodStripes * m.k * 64, stripe, row, periodsFor m nsze, nsze, fmt, fmt, false, false⟩ ∧
      SMap.findD t.fw.nsKeys (i + 1) 0 = SMap.findD s.fw.nsKeys (i + 1) 0 + 1 ∧ t.num (Obj.nsLayout (i + 1)) = m.layoutId ∧
      t.layout.seq = s.layout.seq + 1 ∧ t.layout.allocated = s.layout.allocated := by
  have hi : i + 1 ≤ 16 := List.mem_range.mp (List.mem_of_find?_eq_some hfree)
  have hexec : exec (.namespaceCreate slot nsze fmt) s = execNamespaceCreate slot nsze fmt s := rfl
  unfold execNamespaceCreate at hexec
  rw [hcmd] at hexec
  dsimp only at hexec
  rw [hheld, hselect, hmode, hmap, hfree, if_neg (by decide), if_neg (by decide), if_neg (Nat.not_lt.mpr hfmt), if_neg hnsze] at hexec
  dsimp only at hexec
  rw [hrow, hstripe, hdba, hslot] at hexec
  exact ⟨_, hexec, placedNamespace_effect s
    ⟨i + 1, ms, dba, periodsFor m nsze * m.periodStripes * m.k * 64, stripe, row, periodsFor m nsze, nsze, fmt, fmt, false, false⟩ m hi⟩

theorem freeMaps_host (s : State) : (freeMaps s).host = s.host := rfl

/-- A namespace that is deleted goes with its reservations. -/
theorem deleteNamespace_effect {nsid : Nat} {x : Namespace} (hns : nsOf s nsid = some x) :
    (deleteNamespace s nsid).host.namespaces = SMap.erase s.host.namespaces nsid ∧
    (deleteNamespace s nsid).host.reservations = SMap.erase s.host.reservations nsid := by
  unfold deleteNamespace
  rw [hns]
  dsimp only
  have hends := endIos_tables (.refl s) ((s.host.slots.filter fun e => e.2.io && decide (e.2.cmd.nsid = nsid)).map (·.1)) scInvalidNamespace
  generalize (s.each ((s.host.slots.filter fun e => e.2.io && decide (e.2.cmd.nsid = nsid)).map (·.1)) fun s n => endIo s n scInvalidNamespace) = u at hends
  have hgone := discardNamespace_tables hends x
  generalize discardNamespace u x = v at hgone
  have hfree := hgone.congr (freeStripes_host v x.firstStripe (x.run.stripes v))
  generalize freeStripes v x.firstStripe (x.run.stripes v) = w at hfree
  have herased : ∀ z : State, SameTables (w.setHost { w.host with
      namespaces := SMap.erase w.host.namespaces nsid, reservations := SMap.erase w.host.reservations nsid }) z →
      z.host.namespaces = SMap.erase s.host.namespaces nsid ∧ z.host.reservations = SMap.erase s.host.reservations nsid := fun z hz =>
    ⟨hz.namespaces.trans (congrArg (SMap.erase · nsid) hfree.namespaces), hz.reservations.trans (congrArg (SMap.erase · nsid) hfree.reservations)⟩
  refine herased _ ((namespaceChanged_tables (.refl _) nsid ([Port.a, Port.b].filter (attachedTo x))).congr ?_)
  exact (descriptorUpdate_sameBut _ .host (by decide)).trans (freeMaps_host _)

theorem namespaceDelete_ends {x : Namespace} (hcmd : adminCmd s slot 0x0D = some c) (hselect : c.cmd.cdw10 % 16 = 1) (hheld : descriptorHeld s = false)
    (hmode : normalMode s = true) (hall : c.cmd.nsid ≠ 0xFFFFFFFF) (hns : nsOf s c.cmd.nsid = some x) :
    EndsAdmin (.namespaceDelete slot) s slot scOk 0 0 fun t =>
      t.host.namespaces = SMap.erase s.host.namespaces c.cmd.nsid ∧ t.host.reservations = SMap.erase s.host.reservations c.cmd.nsid := by
  have hexec : exec (.namespaceDelete slot) s = execNamespaceDelete slot s := rfl
  unfold execNamespaceDelete at hexec
  rw [hcmd] at hexec
  dsimp only at hexec
  rw [hheld, hselect, hmode, hns, if_neg (by decide), if_neg (by decide), if_neg hall, if_neg nofun] at hexec
  exact ⟨_, hexec, deleteNamespace_effect hns⟩

/-! ### Attachment and lost ranges (R335, R410) -/

theorem mem_nset (l : List Nat) (k : Nat) : k ∈ nset l k := by
  induction l with
  | nil => exact List.mem_cons_self
  | cons j r ih =>
    unfold nset
    split
    next h => exact h ▸ List.mem_cons_self
    · split
      · exact List.mem_cons_self
      · exact List.mem_cons_of_mem _ ih

/-- An attachment that changes takes the namespace into the controller's list of changed ones. -/
theorem namespaceAttachment_ends {x : Namespace} {p : Port} {on : Bool} (hcmd : adminCmd s slot 0x15 = some c) (hns : nsOf s c.cmd.nsid = some x)
    (hselect : c.cmd.cdw10 % 16 = if on then 0 else 1) (hother : attachedTo x p = !on) :
    EndsAdmin (.namespaceAttachment slot [p]) s slot scOk 0 0 fun t =>
      nsOf t c.cmd.nsid = some (setAttached x on p) ∧ c.cmd.nsid ∈ (t.ctrl p).changedNs := by
  have hon : decide (c.cmd.cdw10 % 16 = 0) = on := by
    rw [hselect]
    cases on <;> rfl
  have hexec : exec (.namespaceAttachment slot [p]) s = execNamespaceAttachment slot [p] s := rfl
  unfold execNamespaceAttachment at hexec
  rw [hcmd] at hexec
  dsimp only at hexec
  rw [hns, hon] at hexec
  dsimp only at hexec
  rw [if_neg (by rw [hselect]; cases on <;> decide), if_neg (by rw [List.any_cons, List.any_nil, hother]; cases on <;> decide)] at hexec
  refine ⟨_, hexec, ?_, ?_⟩
  · unfold nsOf
    exact SMap.find_put_self _ _ _
  · show c.cmd.nsid ∈ (((s.setHost _).modCtrl p _).ctrl p).changedNs
    rw [ctrl_modCtrl]
    exact mem_nset _ _

theorem getLbaStatus_ends {x : Namespace} (hcmd : adminCmd s slot 0x86 = some c) (hns : nsOf s c.cmd.nsid = some x)
    (haction : c.cmd.cdw13 / 2 ^ 24 % 256 = 0x10 ∨ c.cmd.cdw13 / 2 ^ 24 % 256 = 0x11) (hlow : c.cmd.cdw10 + c.cmd.cdw11 * 2 ^ 32 < x.nsze) :
    let lo := c.cmd.cdw10 + c.cmd.cdw11 * 2 ^ 32
    let hi := if c.cmd.cdw13 % 65536 = 0 then x.nsze else lo + c.cmd.cdw13 % 65536
    let lost := s.layout.lost.filter fun e => decide (e.nsid = x.nsid) && decide (e.lba < hi) && decide (lo < e.lba + e.count)
    exec (.getLbaStatus slot) s = .next (endData s slot c (leBytes 4 lost.length ++ List.replicate 4 0 ++ lost.flatMap fun e =>
      leBytes 8 (max lo e.lba) ++ leBytes 4 (min hi (e.lba + e.count) - max lo e.lba) ++ List.replicate 4 0)) := by
  intro lo hi lost
  show execGetLbaStatus slot s = _
  unfold execGetLbaStatus
  rw [hcmd]
  dsimp only
  rw [hns]
  dsimp only
  rw [if_neg (by omega), if_neg (Nat.not_le.mpr hlow)]
  rfl

end

/-! ### Reservations (R354 to R357) -/

section
variable {s : State} {slot j crkey nrkey prkey : Nat} {c : CmdSlot} {new : Reservation}

/-- The command in the slot is a reservation command that is served, of a host that has named itself, for a state that is not persisted. -/
def Reserves (s : State) (slot : Nat) (c : CmdSlot) (op : Nat) : Prop :=
  resCmd s slot op = some c ∧ turnAway s c = none ∧ hostOf s c ≠ 0 ∧ (reservationOf s c.cmd.nsid).ptpl = false

/-- A step that is refused ends the command. -/
theorem reserveWith_refused {f : Reservation → (Nat × Nat) ⊕ Reservation} {st : Nat × Nat} (hserved : turnAway s c = none)
    (hstep : f (reservationOf s c.cmd.nsid) = .inl st) : reserveWith s slot c f = endIo s slot st := by
  unfold reserveWith
  rw [hserved]
  dsimp only
  rw [hstep]

/-- The state with a namespace's new reservations. -/
def reservedState (s : State) (nsid : Nat) (new : Reservation) : State :=
  s.setHost { s.host with reservations := SMap.put s.host.reservations nsid new }

theorem reservedState_reservation (s : State) (nsid : Nat) (new : Reservation) : reservationOf (reservedState s nsid new) nsid = new :=
  (findD_put _ _ _ _ _).trans (if_pos rfl)

/-- A step that is taken, on a state that need not be persisted, ends the command. -/
theorem reserveWith_taken {f : Reservation → (Nat × Nat) ⊕ Reservation} (hserved : turnAway s c = none)
    (hold : (reservationOf s c.cmd.nsid).ptpl = false) (hnew : new.ptpl = false) (hstep : f (reservationOf s c.cmd.nsid) = .inr new) :
    reserveWith s slot c f = endIo (reservedState s c.cmd.nsid new) slot scOk := by
  unfold reserveWith
  rw [hserved]
  dsimp only
  rw [hstep]
  unfold reservationDone
  dsimp only
  rw [hold, hnew, if_neg (by simp)]
  rfl

/-- The reservations that a step leaves stand in every state that keeps the tables. -/
theorem SameTables.reserved {t : State} {nsid : Nat} (h : SameTables (reservedState s nsid new) t) : Machine.reservationOf t nsid = new :=
  (h.reservationOf nsid).trans (reservedState_reservation s nsid new)

theorem ptpl_add {r : Reservation} {host key : Nat} (h : r.add host key = some new) : new.ptpl = r.ptpl := by
  unfold Reservation.add at h
  split at h
  · exact (Option.some.inj h) ▸ rfl
  · split at h
    · exact (Option.some.inj h) ▸ rfl
    · cases h

theorem ptpl_drop (r : Reservation) (i : Nat) : (r.drop i).ptpl = r.ptpl := by
  unfold Reservation.drop
  dsimp only
  split <;> rfl

theorem ptpl_preempt {r : Reservation} {i rtype : Nat} (h : r.preempt i prkey rtype = .inr new) : new.ptpl = r.ptpl := by
  unfold Reservation.preempt at h
  dsimp only at h
  split_ifs at h <;> exact (Sum.inr.inj h) ▸ rfl

/-- What a registration asks of the reservations. -/
def registerStep (c : CmdSlot) (host crkey nrkey : Nat) (r : Reservation) : (Nat × Nat) ⊕ Reservation :=
  let iekey := bit c.cmd.cdw10 3
  let cptpl := c.cmd.cdw10 / 2 ^ 30 % 4
  match c.cmd.cdw10 % 8, r.find host with
  | 0, none => match r.add host nrkey with
    | some r => .inr (r.setPtpl cptpl)
    | none => .inl scInvalidField
  | 0, some i => if r.keyOf i = nrkey then .inr (r.setPtpl cptpl) else .inl scReservationConflict
  | 1, some i =>
    if iekey ∨ r.keyOf i = crkey then .inr ({ r.drop i with prgen := (r.prgen + 1) % 2 ^ 32 }.setPtpl cptpl)
    else .inl scReservationConflict
  | 2, some i =>
    if iekey ∨ r.keyOf i = crkey then
      .inr ({ r with regs := r.regs.set i ⟨host, nrkey, true⟩, prgen := (r.prgen + 1) % 2 ^ 32 }.setPtpl cptpl)
    else .inl scReservationConflict
  | 2, none => if iekey then (match r.add host nrkey with
      | some r => .inr (r.setPtpl cptpl)
      | none => .inl scInvalidField) else .inl scReservationConflict
  | 1, none => .inl scReservationConflict
  | _, _ => .inl scInvalidField

theorem exec_reservationRegister (h : Reserves s slot c 0x0D) : exec (.reservationRegister slot crkey nrkey) s =
    .next (reserveWith s slot c (registerStep c (hostOf s c) crkey nrkey)) := by
  obtain ⟨hcmd, -, hhost, -⟩ := h
  show execReservationRegister slot crkey nrkey s = _
  unfold execReservationRegister
  rw [hcmd]
  dsimp only
  rw [if_neg hhost]
  rfl

section
variable (h : Reserves s slot c 0x0D) (hptpl : c.cmd.cdw10 / 2 ^ 30 % 4 = 0)
include h hptpl

omit hptpl in
/-- A registration whose step is taken ends the command. -/
theorem register_ends (hstep : registerStep c (hostOf s c) crkey nrkey (reservationOf s c.cmd.nsid) = .inr new) (hnew : new.ptpl = false) :
    EndsIo (.reservationRegister slot crkey nrkey) s slot scOk fun t => reservationOf t c.cmd.nsid = new :=
  ⟨_, (exec_reservationRegister h).trans (congrArg _ (reserveWith_taken h.2.1 h.2.2.2 hnew hstep)), reservedState_reservation s _ new⟩

theorem register_added (hselect : c.cmd.cdw10 % 8 = 0) (hfind : (reservationOf s c.cmd.nsid).find (hostOf s c) = none)
    (hadd : (reservationOf s c.cmd.nsid).add (hostOf s c) nrkey = some new) :
    EndsIo (.reservationRegister slot crkey nrkey) s slot scOk fun t => reservationOf t c.cmd.nsid = new := by
  refine register_ends h ?_ ((ptpl_add hadd).trans h.2.2.2)
  unfold registerStep
  rw [hselect, hfind, hptpl, hadd]
  rfl

theorem register_dropped (hselect : c.cmd.cdw10 % 8 = 1) (hfind : (reservationOf s c.cmd.nsid).find (hostOf s c) = some j)
    (hkey : (reservationOf s c.cmd.nsid).keyOf j = crkey) :
    EndsIo (.reservationRegister slot crkey nrkey) s slot scOk fun t =>
      reservationOf t c.cmd.nsid =
        { (reservationOf s c.cmd.nsid).drop j with prgen := ((reservationOf s c.cmd.nsid).prgen + 1) % 2 ^ 32 } := by
  refine register_ends h ?_ ((ptpl_drop _ j).trans h.2.2.2)
  unfold registerStep
  rw [hselect, hfind, hptpl]
  exact if_pos (.inr hkey)

omit hptpl in
theorem register_refused (hselect : c.cmd.cdw10 % 8 = 0) (hfind : (reservationOf s c.cmd.nsid).find (hostOf s c) = some j)
    (hkey : (reservationOf s c.cmd.nsid).keyOf j ≠ nrkey) :
    exec (.reservationRegister slot crkey nrkey) s = .next (endIo s slot scReservationConflict) := by
  refine (exec_reservationRegister h).trans (congrArg _ (reserveWith_refused h.2.1 ?_))
  unfold registerStep
  rw [hselect, hfind]
  exact if_neg hkey

end

theorem reservationReport_ends (h : Reserves s slot c 0x0E) : exec (.reservationReport slot) s =
    .next (endIo (s.emit (.hostData c.port c.cmd.cid (reservationBytes (reservationOf s c.cmd.nsid)))) slot scOk) := by
  obtain ⟨hcmd, hserved, -, -⟩ := h
  show execReservationReport slot s = _
  unfold execReservationReport
  rw [hcmd]
  dsimp only
  rw [hserved]

/-- An acquisition that is taken leaves the new reservations. -/
theorem acquire_reservation (h : Reserves s slot c 0x11) (hnew : new.ptpl = false)
    (hstep : acquireStep c (hostOf s c) crkey prkey (reservationOf s c.cmd.nsid) = .inr new) :
    SameTables (reservedState s c.cmd.nsid new) (acquire s slot c crkey prkey) := by
  obtain ⟨-, hserved, -, hold⟩ := h
  unfold acquire
  dsimp only
  rw [reserveWith_taken hserved hold hnew hstep]
  exact notifyHosts_tables (endIo_tables (.refl _) slot scOk) _ _ _

section
variable (h : Reserves s slot c 0x11) (hcaller : (reservationOf s c.cmd.nsid).caller (hostOf s c) crkey (bit c.cmd.cdw10 3) = some j)
  (hlow : 1 ≤ c.cmd.cdw10 / 256 % 256) (hhigh : c.cmd.cdw10 / 256 % 256 ≤ 6)
include h hcaller hlow hhigh

theorem reservationAcquire_taken (hselect : c.cmd.cdw10 % 8 = 0) (hfree : (reservationOf s c.cmd.nsid).rtype = 0) :
    Completes (.reservationAcquire slot crkey prkey) s fun t => reservationOf t c.cmd.nsid =
      { reservationOf s c.cmd.nsid with rtype := c.cmd.cdw10 / 256 % 256, holder := holderFor (c.cmd.cdw10 / 256 % 256) j } := by
  have hexec : exec (.reservationAcquire slot crkey prkey) s = .next (acquire s slot c crkey prkey) := by
    show execReservationAcquire slot crkey prkey s = _
    unfold execReservationAcquire
    rw [h.1]
    exact if_neg (by rw [hselect]; decide)
  refine ⟨_, hexec, (acquire_reservation h ?_ ?_).reserved⟩
  · exact h.2.2.2
  · unfold acquireStep
    dsimp only
    rw [hcaller, hselect]
    dsimp only
    rw [if_neg (by omega)]
    exact if_pos hfree

omit h in
/-- Preemption, with or without an abort, acts on the reservations alike. -/
theorem acquireStep_preempt (hselect : c.cmd.cdw10 % 8 = 1 ∨ c.cmd.cdw10 % 8 = 2) :
    acquireStep c (hostOf s c) crkey prkey (reservationOf s c.cmd.nsid) =
      (reservationOf s c.cmd.nsid).preempt j prkey (c.cmd.cdw10 / 256 % 256) := by
  unfold acquireStep
  dsimp only
  rw [hcaller]
  dsimp only
  rw [if_neg (by omega)]
  obtain hselect | hselect := hselect <;> rw [hselect] <;> rfl

theorem reservationAcquire_preempted (hselect : c.cmd.cdw10 % 8 = 1)
    (hpreempt : (reservationOf s c.cmd.nsid).preempt j prkey (c.cmd.cdw10 / 256 % 256) = .inr new) :
    Completes (.reservationAcquire slot crkey prkey) s fun t => reservationOf t c.cmd.nsid = new := by
  have hexec : exec (.reservationAcquire slot crkey prkey) s = .next (acquire s slot c crkey prkey) := by
    show execReservationAcquire slot crkey prkey s = _
    unfold execReservationAcquire
    rw [h.1]
    exact if_neg (by rw [hselect]; decide)
  exact ⟨_, hexec, (acquire_reservation h ((ptpl_preempt hpreempt).trans h.2.2.2)
    ((acquireStep_preempt hcaller hlow hhigh (.inl hselect)).trans hpreempt)).reserved⟩

theorem reservationPreemptAndAbort_preempted (hselect : c.cmd.cdw10 % 8 = 2)
    (hpreempt : (reservationOf s c.cmd.nsid).preempt j prkey (c.cmd.cdw10 / 256 % 256) = .inr new) :
    Completes (.reservationPreemptAndAbort slot crkey prkey) s fun t => reservationOf t c.cmd.nsid = new := by
  have hexec : exec (.reservationPreemptAndAbort slot crkey prkey) s = execReservationPreemptAndAbort slot crkey prkey s := rfl
  unfold execReservationPreemptAndAbort at hexec
  rw [h.1] at hexec
  dsimp only at hexec
  rw [if_neg (fun hne => hne hselect)] at hexec
  have hacquired := acquire_reservation h ((ptpl_preempt hpreempt).trans h.2.2.2)
    ((acquireStep_preempt hcaller hlow hhigh (.inr hselect)).trans hpreempt)
  exact ⟨_, hexec, (endIos_tables hacquired _ _).reserved⟩

end

/-- What a release asks of the reservations. -/
def releaseStep (c : CmdSlot) (host crkey : Nat) (r : Reservation) : (Nat × Nat) ⊕ Reservation :=
  match r.caller host crkey (bit c.cmd.cdw10 3) with
  | none => .inl scReservationConflict
  | some i =>
    if c.cmd.cdw10 % 8 = 1 then .inr { r with rtype := 0, holder := 255, regs := [], prgen := (r.prgen + 1) % 2 ^ 32 }
    else if c.cmd.cdw10 % 8 ≠ 0 then .inl scInvalidField
    else if r.rtype = 0 ∨ !r.holds i then .inr r
    else if r.rtype ≠ c.cmd.cdw10 / 256 % 256 then .inl scInvalidField
    else .inr { r with rtype := 0, holder := 255 }

/-- A release whose step is taken leaves the new reservations. -/
theorem release_completes (h : Reserves s slot c 0x15) (hnew : new.ptpl = false)
    (hstep : releaseStep c (hostOf s c) crkey (reservationOf s c.cmd.nsid) = .inr new) :
    Completes (.reservationRelease slot crkey) s fun t => reservationOf t c.cmd.nsid = new := by
  obtain ⟨hcmd, hserved, -, hold⟩ := h
  have htaken := reserveWith_taken (slot := slot) hserved hold hnew hstep
  have hexec : ∃ bits hosts, exec (.reservationRelease slot crkey) s =
      .next (notifyHosts (reserveWith s slot c (releaseStep c (hostOf s c) crkey)) c.cmd.nsid bits hosts) := by
    show ∃ bits hosts, execReservationRelease slot crkey s = _
    unfold execReservationRelease
    rw [hcmd]
    exact ⟨_, _, rfl⟩
  obtain ⟨bits, hosts, hexec⟩ := hexec
  rw [htaken] at hexec
  exact ⟨_, hexec, (notifyHosts_tables (endIo_tables (.refl _) slot scOk) _ _ _).reserved⟩

section
variable (h : Reserves s slot c 0x15) (hcaller : (reservationOf s c.cmd.nsid).caller (hostOf s c) crkey (bit c.cmd.cdw10 3) = some j)
include h hcaller

theorem release_released (hselect : c.cmd.cdw10 % 8 = 0) (hheld : (reservationOf s c.cmd.nsid).rtype ≠ 0)
    (hholds : (reservationOf s c.cmd.nsid).holds j = true) (htype : (reservationOf s c.cmd.nsid).rtype = c.cmd.cdw10 / 256 % 256) :
    Completes (.reservationRelease slot crkey) s fun t =>
      reservationOf t c.cmd.nsid = { reservationOf s c.cmd.nsid with rtype := 0, holder := 255 } := by
  refine release_completes h ?_ ?_
  · exact h.2.2.2
  · unfold releaseStep
    rw [hcaller]
    dsimp only
    rw [hselect, hholds, if_neg (by decide), if_neg (by decide), if_neg (by simp [hheld]), if_neg (fun hne => hne htype)]

theorem release_cleared (hselect : c.cmd.cdw10 % 8 = 1) : Completes (.reservationRelease slot crkey) s fun t =>
    reservationOf t c.cmd.nsid =
      { reservationOf s c.cmd.nsid with rtype := 0, holder := 255, regs := [], prgen := ((reservationOf s c.cmd.nsid).prgen + 1) % 2 ^ 32 } := by
  refine release_completes h ?_ ?_
  · exact h.2.2.2
  · unfold releaseStep
    rw [hcaller]
    exact if_pos hselect

end

/-- The copy that is written is the older one, under the number after the other's. -/
theorem reservationStateWritten_completes {ns : Nat} (hwaiting : s.host.resWaiting = [(ns, slot)]) :
    Completes (.reservationStateWritten ns) s fun t => t.host.resWaiting = [] ∧ ∃ i : Fin 2,
      (vget t.host.resCopies i (0, [])).2 = s.host.reservations ∧
      (vget t.host.resCopies i (0, [])).1 = (vget s.host.resCopies (1 - i) (0, [])).1 + 1 := by
  have hexec : exec (.reservationStateWritten ns) s = execReservationStateWritten ns s := rfl
  unfold execReservationStateWritten at hexec
  have hmine : (s.host.resWaiting.filter fun e => decide (e.1 = ns)).map (·.2) = [slot] := by simp [hwaiting]
  have hrest : (s.host.resWaiting.filter fun e => decide (e.1 ≠ ns)) = [] := by simp [hwaiting]
  rw [hmine, hrest] at hexec
  dsimp only at hexec
  rw [List.isEmpty_cons, if_neg Bool.false_ne_true] at hexec
  have hkept := fun u => endIos_tables (.refl u) [slot] scOk
  refine ⟨_, hexec, (hkept _).resWaiting, ?_⟩
  rw [(hkept _).resCopies]
  show ∃ i : Fin 2, (vget (if (s.host.resCopies[0]).1 ≤ (s.host.resCopies[1]).1 then _ else _) i.val (0, [])).2 = _ ∧ _
  split
  · exact ⟨0, congrArg Prod.snd (vget_vmod_self _ 0 _ _ (by decide)), congrArg Prod.fst (vget_vmod_self _ 0 _ _ (by decide))⟩
  · exact ⟨1, congrArg Prod.snd (vget_vmod_self _ 1 _ _ (by decide)), congrArg Prod.fst (vget_vmod_self _ 1 _ _ (by decide))⟩

end

/-- Settles O50: a command's end leaves every table of the host interface but controllers and slots, so that the tables read what the
command put there. -/
theorem namespacesAndReservationsAreKept : Obligations.NamespacesAndReservationsAreKept := by
  unfold Obligations.NamespacesAndReservationsAreKept
  intro s slot nsze fmt i row stripe dba ms prkey crkey nrkey ns j p c m x new
  exact ⟨fun hheld => ⟨namespaceCreate_held hheld nsze fmt, namespaceDelete_held hheld⟩, namespaceCreate_ends, namespaceDelete_ends,
    fun hcmd hns => ⟨fun hselect hother => namespaceAttachment_ends (on := true) hcmd hns hselect hother,
      fun hselect hother => namespaceAttachment_ends (on := false) hcmd hns hselect hother⟩, getLbaStatus_ends,
    fun h hptpl => ⟨register_added h hptpl, register_dropped h hptpl, register_refused h⟩, reservationReport_ends,
    fun h hcaller hlow hhigh => ⟨reservationAcquire_taken h hcaller hlow hhigh, reservationAcquire_preempted h hcaller hlow hhigh,
      reservationPreemptAndAbort_preempted h hcaller hlow hhigh⟩,
    fun h hcaller => ⟨release_released h hcaller, release_cleared h hcaller⟩, reservationStateWritten_completes⟩

end Sys2Proof.Machine
end

section
/-!
PROOFS. Maintenance of the system cache and of the keeper's slots (R435 to R437, R442, R443).
-/

namespace Sys2Proof.Machine

/-! ### Maps that are erased from and changed -/

section
variable {α : Type} {m : SMap α} {k j : Nat} {x : α}

theorem find_of_above : ∀ {m : SMap α}, SMap.above k m = true → SMap.find m k = none
  | [], _ => rfl
  | (i, v) :: r, h => by
    simp only [SMap.above, Bool.and_eq_true, decide_eq_true_eq] at h
    rw [SMap.find, if_neg (Nat.ne_of_lt h.1), if_pos h.1]

/-- What is found in a sorted map after an entry has gone. -/
theorem find_erase : ∀ {m : SMap α}, SMap.wf m = true → SMap.find (SMap.erase m k) j = if j = k then none else SMap.find m j
  | [], _ => by simp [SMap.erase, SMap.find]
  | (i, v) :: r, h => by
    simp only [SMap.wf, Bool.and_eq_true] at h
    obtain ⟨habove, hwf⟩ := h
    simp only [SMap.erase]
    split
    next hk =>
      subst hk
      split
      next hj => exact hj ▸ find_of_above habove
      next hj =>
        rw [SMap.find, if_neg hj]
        split
        next hlt => exact find_of_above (SMap.above_mono (Nat.le_of_lt hlt) habove)
        · rfl
    next hk =>
      rw [SMap.find, SMap.find, find_erase hwf]
      by_cases hjk : j = k
      · rw [if_pos hjk, if_pos hjk]
        rw [if_neg (hjk ▸ fun h => hk h)]
        exact ite_self _
      · rw [if_neg hjk, if_neg hjk]

theorem find_mod (m : SMap α) (k j : Nat) (f : α → α) :
    SMap.find (SMap.mod m k f) j = if j = k then (SMap.find m k).map f else SMap.find m j := by
  unfold SMap.mod
  cases hfind : SMap.find m k with
  | none =>
    dsimp only
    split
    next h => rw [h, hfind]; rfl
    · rfl
  | some v => exact SMap.find_put m k j (f v)

theorem entry_of_find : ∀ {m : SMap α}, SMap.find m k = some x → (k, x) ∈ m
  | (i, v) :: r, h => by
    simp only [SMap.find] at h
    split at h
    next hk => cases h; exact hk ▸ List.mem_cons_self
    · split at h
      · cases h
      · exact List.mem_cons_of_mem _ (entry_of_find h)

end

/-! ### One line that is written back or dropped (R440) -/

section
variable {s : State} {line j : Nat}

/-- A write to DRAM leaves the system cache alone. -/
theorem dramPut_cached (m : Memory) (a : Nat) (l : List Byte) : (dramPut m a l).lines = m.lines ∧ (dramPut m a l).fills = m.fills := by
  induction l generalizing m a with
  | nil => exact ⟨rfl, rfl⟩
  | cons b r ih =>
    have hbyte : (dramPutByte m a b).lines = m.lines ∧ (dramPutByte m a b).fills = m.fills := by
      unfold dramPutByte
      split
      · split <;> exact ⟨rfl, rfl⟩
      · exact ⟨rfl, rfl⟩
    obtain ⟨hlines, hfills⟩ := ih (dramPutByte m a b) (a + 1)
    exact ⟨hlines.trans hbyte.1, hfills.trans hbyte.2⟩

theorem dramWriteM_cached (m : Memory) (a : Nat) (l : List Byte) : (dramWriteM m a l).lines = m.lines ∧ (dramWriteM m a l).fills = m.fills :=
  dramPut_cached m a l

/-- A dirty line is clean once it is written back, and DRAM holds its bytes. -/
theorem writeBack_dirty {l : Line} (hfind : SMap.find s.mem.lines line = some l) (hdirty : l.dirty = true) : ∃ u : State,
    writeBack s line = { u with mem := { u.mem with lines := SMap.mod u.mem.lines line fun l => { l with dirty := false } } } ∧
    u.mem.lines = s.mem.lines ∧ u.mem.fills = s.mem.fills := by
  have hbumped : ((dramWrite s (64 * line) l.data).bump Obj.writebacks).mem = dramWriteM s.mem (64 * line) l.data := State.mem_bump _ _
  obtain ⟨hlines, hfills⟩ := dramWriteM_cached s.mem (64 * line) l.data
  unfold writeBack
  rw [hfind]
  dsimp only
  rw [if_pos hdirty]
  generalize (dramWrite s (64 * line) l.data).bump Obj.writebacks = u at hbumped
  rw [← hbumped] at hlines hfills
  refine ⟨_, rfl, ?_, ?_⟩
  · split
    · exact hlines
    · exact hlines
  · split
    · exact hfills
    · exact hfills

/-- Where no dirty line stands there, nothing is written back. -/
theorem writeBack_clean (h : ∀ l, SMap.find s.mem.lines line = some l → l.dirty = false) : writeBack s line = s := by
  unfold writeBack
  split
  next l hfind => exact if_neg (by rw [h l hfind]; nofun)
  · rfl

theorem writeBack_cached (s : State) (line : Nat) : (writeBack s line).mem.fills = s.mem.fills ∧
    (SMap.wf s.mem.lines = true → SMap.wf (writeBack s line).mem.lines = true) ∧
    ∀ j, SMap.find (writeBack s line).mem.lines j =
      if j = line then (SMap.find s.mem.lines line).map fun l => { l with dirty := false } else SMap.find s.mem.lines j := by
  by_cases hclean : ∀ l, SMap.find s.mem.lines line = some l → l.dirty = false
  · rw [writeBack_clean hclean]
    refine ⟨rfl, id, fun j => ?_⟩
    split
    next h =>
      rw [h]
      cases hfind : SMap.find s.mem.lines line with
      | none => rfl
      | some l =>
        have hl := hclean l hfind
        obtain ⟨way, data, dirty, locked, poisoned⟩ := l
        exact congrArg some (by rw [show dirty = false from hl])
    · rfl
  · push Not at hclean
    obtain ⟨l, hfind, hdirty⟩ := hclean
    obtain ⟨u, hu, hlines, hfills⟩ := writeBack_dirty hfind (Bool.eq_true_of_not_eq_false hdirty)
    rw [hu]
    refine ⟨hfills, fun hwf => SMap.wf_mod (hlines ▸ hwf), fun j => ?_⟩
    show SMap.find (SMap.mod u.mem.lines line _) j = _
    rw [hlines, find_mod]

theorem dropLine_lines (hwf : SMap.wf s.mem.lines = true) (line j : Nat) :
    SMap.find (dropLine s line).mem.lines j = if j = line then none else SMap.find s.mem.lines j := find_erase hwf

end

/-! ### Operations that take, clean or unlock lines (R442) -/

/-- What an operation that cleans lines writes back. -/
def MaintEffect.cleaned (e : MaintEffect) (l : Line) : Line := if e.clean then { l with dirty := false } else l

/-- What an operation that is no FILL_LOCK leaves of a line. -/
def MaintEffect.after (e : MaintEffect) (l : Line) : Option Line :=
  if e.drop then (if l.locked then some (e.cleaned l) else none)
  else if e.unlock then some { e.cleaned l with locked := false } else some (e.cleaned l)

/-- A line as an operation leaves the lines that it addresses. -/
def MaintEffect.Done (e : MaintEffect) (l : Line) : Prop :=
  (e.clean = true → l.dirty = false) ∧ (e.drop = true → l.locked = true) ∧ (e.drop = false → e.unlock = true → l.locked = false)

theorem MaintEffect.cleaned_eq (e : MaintEffect) (l : Line) :
    (e.cleaned l).way = l.way ∧ (e.cleaned l).locked = l.locked ∧ (e.clean = true → (e.cleaned l).dirty = false) := by
  unfold MaintEffect.cleaned
  split
  · exact ⟨rfl, rfl, fun _ => rfl⟩
  next h => exact ⟨rfl, rfl, fun hclean => absurd hclean h⟩

theorem MaintEffect.done_of_after {e : MaintEffect} {l l' : Line} (h : e.after l = some l') : l'.way = l.way ∧ e.Done l' := by
  obtain ⟨hway, hlocked, hclean⟩ := e.cleaned_eq l
  unfold MaintEffect.after at h
  split_ifs at h with hdrop hl hunlock <;> cases h
  · exact ⟨hway, hclean, fun _ => hlocked.trans hl, fun hd => absurd hdrop (ne_true_of_eq_false hd)⟩
  · exact ⟨hway, hclean, fun hd => absurd hd hdrop, fun _ _ => rfl⟩
  · exact ⟨hway, hclean, fun hd => absurd hd hdrop, fun _ hu => absurd hu hunlock⟩

section
variable {s : State} {line j : Nat} {e : MaintEffect} {bySet : Bool} {r : MaintResult}

/-- The state with the line written back where the operation cleans. -/
theorem cleaned_lines (hwf : SMap.wf s.mem.lines = true) (line : Nat) :
    let u := if e.clean then writeBack s line else s
    SMap.wf u.mem.lines = true ∧
      ∀ j, SMap.find u.mem.lines j = if j = line then (SMap.find s.mem.lines line).map e.cleaned else SMap.find s.mem.lines j := by
  obtain ⟨-, hwfBack, hback⟩ := writeBack_cached s line
  intro u
  by_cases hclean : e.clean = true
  · have hcleaned : e.cleaned = fun l => { l with dirty := false } := funext fun l => if_pos hclean
    rw [show u = writeBack s line from if_pos hclean, hcleaned]
    exact ⟨hwfBack hwf, hback⟩
  · have hcleaned : e.cleaned = id := funext fun l => if_neg hclean
    rw [show u = s from if_neg hclean, hcleaned]
    refine ⟨hwf, fun j => ?_⟩
    split
    next h => rw [h, Option.map_id, id]
    · rfl

/-- One line's operation acts on that line. -/
theorem maintLine_lines (hlock : e.lock = false) (hwf : SMap.wf s.mem.lines = true) (bySet : Bool) (r : MaintResult) (line : Nat) :
    SMap.wf (maintLine e bySet (s, r) line).1.mem.lines = true ∧
    ∀ j, SMap.find (maintLine e bySet (s, r) line).1.mem.lines j =
      if j = line then (SMap.find s.mem.lines line).bind e.after else SMap.find s.mem.lines j := by
  unfold maintLine
  dsimp only
  cases hfind : SMap.find s.mem.lines line with
  | none =>
    have hsame : ∀ j, SMap.find s.mem.lines j = if j = line then none else SMap.find s.mem.lines j := fun j => by
      split
      next h => rw [h, hfind]
      · rfl
    dsimp only
    rw [hlock]
    split
    · split_ifs
      all_goals exact ⟨hwf, hsame⟩
    · exact ⟨hwf, hsame⟩
  | some l =>
    obtain ⟨hwfClean, hlines⟩ := cleaned_lines (e := e) hwf line
    rw [hfind] at hlines
    dsimp only
    rw [hlock, if_neg Bool.false_ne_true, Option.bind_some]
    unfold MaintEffect.after
    generalize (if e.clean = true then writeBack s line else s) = u at hwfClean hlines
    split_ifs
    · exact ⟨hwfClean, hlines⟩
    · exact ⟨hwfClean, hlines⟩
    · refine ⟨SMap.wf_erase hwfClean, fun j => ?_⟩
      rw [dropLine_lines hwfClean, hlines]
      split_ifs <;> rfl
    · refine ⟨SMap.wf_mod hwfClean, fun j => ?_⟩
      show SMap.find (SMap.mod u.mem.lines line _) j = _
      rw [find_mod, hlines, hlines, if_pos rfl]
      split_ifs <;> rfl
    · exact ⟨hwfClean, hlines⟩

/-- An operation on a list of lines leaves each of them done, and takes no line that was not there. -/
theorem maintLines_done (hlock : e.lock = false) (l : List Nat) (x : State × MaintResult) (hwf : SMap.wf x.1.mem.lines = true) {j : Nat} {new : Line}
    (hnew : SMap.find (l.foldl (maintLine e bySet) x).1.mem.lines j = some new) :
    ∃ old, SMap.find x.1.mem.lines j = some old ∧ new.way = old.way ∧ (e.Done old ∨ j ∈ l → e.Done new) := by
  induction l generalizing x with
  | nil => exact ⟨new, hnew, rfl, fun h => h.resolve_right List.not_mem_nil⟩
  | cons line l ih =>
    obtain ⟨s, r⟩ := x
    obtain ⟨hwfLine, hlines⟩ := maintLine_lines hlock hwf bySet r line
    obtain ⟨mid, hmid, hway, hdone⟩ := ih _ hwfLine hnew
    rw [hlines] at hmid
    split at hmid
    next hj =>
      obtain ⟨old, hold, hafter⟩ := Option.bind_eq_some_iff.mp hmid
      obtain ⟨hway', hmidDone⟩ := MaintEffect.done_of_after hafter
      exact ⟨old, hj ▸ hold, hway.trans hway', fun _ => hdone (.inl hmidDone)⟩
    next hj =>
      exact ⟨mid, hmid, hway, fun h => hdone (h.imp id fun hin => (List.mem_cons.mp hin).resolve_left hj)⟩

end

/-! ### FILL_LOCK (R442) -/

section
variable {s : State} {line j : Nat} {r : MaintResult}

/-- The line is locked, or a fill of it that locks is in flight. -/
def LineLocked (s : State) (line : Nat) : Prop :=
  (∃ l, SMap.find s.mem.lines line = some l ∧ l.locked = true) ∨ ∃ f, SMap.find s.mem.fills line = some f ∧ f.lock = true

/-- A way that is taken costs no locked line. -/
theorem takeWay_locked (hwf : SMap.wf s.mem.lines = true) (set : Nat) : SMap.wf (takeWay s set).2.mem.lines = true ∧
    ∀ j, LineLocked s j → LineLocked (takeWay s set).2 j := by
  unfold takeWay
  dsimp only
  split
  · exact ⟨hwf, fun _ h => h⟩
  · split
    next l hfind =>
      obtain ⟨hfills, hwfBack, hback⟩ := writeBack_cached s l
      have hfree := List.find?_some hfind
      rw [Bool.and_eq_true] at hfree
      refine ⟨SMap.wf_erase (hwfBack hwf), fun j h => h.imp (fun ⟨old, hold, hlocked⟩ => ⟨old, ?_, hlocked⟩) fun ⟨f, hf, hlock⟩ => ⟨f, ?_, hlock⟩⟩
      · have hne : j ≠ l := fun hj => by
          rw [← hj, hold] at hfree
          have hopen : (!old.locked) = true := hfree.2
          rw [hlocked] at hopen
          exact Bool.false_ne_true hopen
        rw [dropLine_lines (hwfBack hwf), if_neg hne, hback, if_neg hne, hold]
      · show SMap.find (writeBack s l).mem.fills j = some f
        rw [hfills, hf]
    · exact ⟨hwf, fun _ h => h⟩

/-- A fill that locks is in flight once it has started. -/
theorem startFill_locked (hwf : SMap.wf s.mem.lines = true) (line : Nat) (f : Fill) (hlock : f.lock = true) :
    SMap.wf (startFill s line f).mem.lines = true ∧ LineLocked (startFill s line f) line ∧ ∀ j, LineLocked s j → LineLocked (startFill s line f) j := by
  obtain ⟨hwfTake, hkeep⟩ := takeWay_locked hwf (setOf line)
  have hmem : (startFill s line f).mem = { (takeWay s (setOf line)).2.mem with
      fills := SMap.put (takeWay s (setOf line)).2.mem.fills line { f with way := (takeWay s (setOf line)).1 } } := rfl
  unfold LineLocked at hkeep ⊢
  rw [hmem]
  refine ⟨hwfTake, .inr ⟨_, SMap.find_put_self _ _ _, hlock⟩, fun j h => (hkeep j h).imp id fun ⟨g, hg, hglock⟩ => ?_⟩
  by_cases hj : j = line
  · exact ⟨{ f with way := (takeWay s (setOf line)).1 }, by rw [hj]; exact SMap.find_put_self _ _ _, hlock⟩
  · exact ⟨g, (SMap.find_put_other _ _ hj).trans hg, hglock⟩

/-- One line's lock: it is refused, or the line is locked and the others stay so. -/
theorem maintLine_lock (hwf : SMap.wf s.mem.lines = true) (r : MaintResult) (line : Nat) :
    let t := maintLine (maintEffect 4) false (s, r) line
    SMap.wf t.1.mem.lines = true ∧ (∀ j, LineLocked s j → LineLocked t.1 j) ∧ (t.2 = r.refuse 4 line ∨ t.2 = r ∧ LineLocked t.1 line) := by
  have heffect : maintEffect 4 = ⟨false, false, true, false⟩ := rfl
  intro t
  have ht : t = maintLine (maintEffect 4) false (s, r) line := rfl
  clear_value t
  unfold maintLine at ht
  rw [heffect] at ht
  simp only [Bool.false_eq_true, if_false, if_true] at ht
  cases hfind : SMap.find s.mem.lines line with
  | some l =>
    rw [hfind] at ht
    dsimp only at ht
    split_ifs at ht with hlocked hfull
    · exact ht ▸ ⟨hwf, fun _ h => h, .inr ⟨rfl, .inl ⟨l, hfind, hlocked⟩⟩⟩
    · exact ht ▸ ⟨hwf, fun _ h => h, .inl rfl⟩
    · have hlines : ∀ j, SMap.find t.1.mem.lines j =
          if j = line then some { l with locked := true } else SMap.find s.mem.lines j := fun j => by
        rw [ht]
        show SMap.find (SMap.mod s.mem.lines line _) j = _
        rw [find_mod, hfind]
        rfl
      have hfills : t.1.mem.fills = s.mem.fills := by rw [ht]
      have hkeep : ∀ j, LineLocked s j → LineLocked t.1 j := fun j h => by
        unfold LineLocked
        rw [hlines, hfills]
        by_cases hj : j = line
        · exact .inl ⟨_, if_pos hj, rfl⟩
        · rw [if_neg hj]
          exact h
      refine ⟨by rw [ht]; exact SMap.wf_mod hwf, hkeep, .inr ⟨by rw [ht], .inl ⟨_, (hlines line).trans (if_pos rfl), rfl⟩⟩⟩
  | none =>
    rw [hfind] at ht
    dsimp only at ht
    cases hfill : SMap.find s.mem.fills line with
    | some f =>
      rw [hfill] at ht
      dsimp only at ht
      split_ifs at ht with hlocked hfull
      · exact ht ▸ ⟨hwf, fun _ h => h, .inr ⟨rfl, .inr ⟨f, hfill, hlocked⟩⟩⟩
      · exact ht ▸ ⟨hwf, fun _ h => h, .inl rfl⟩
      · have hset : LineLocked t.1 line := .inr ⟨{ f with lock := true }, by rw [ht]; exact SMap.find_put_self _ _ _, rfl⟩
        refine ⟨by rw [ht]; exact hwf, fun j h => ?_, .inr ⟨by rw [ht], hset⟩⟩
        by_cases hj : j = line
        · exact hj ▸ hset
        · refine h.imp (fun hl => by rw [ht]; exact hl) fun ⟨g, hg, hglock⟩ => ⟨g, ?_, hglock⟩
          rw [ht]
          exact (SMap.find_put_other _ _ hj).trans hg
    | none =>
      rw [hfill] at ht
      dsimp only at ht
      split_ifs at ht with hfull
      · exact ht ▸ ⟨hwf, fun _ h => h, .inl rfl⟩
      · obtain ⟨hwfFill, hset, hkeep⟩ := startFill_locked hwf line
          { ops := [], way := 16, install := true, lock := true, poison := false, later := [] } rfl
        rw [ht]
        exact ⟨hwfFill, hkeep, .inr ⟨rfl, hset⟩⟩

/-- A list of lines is locked where none is refused. -/
theorem maintLines_lock (l : List Nat) (x : State × MaintResult) (hwf : SMap.wf x.1.mem.lines = true)
    (hfirst : x.2.first = none ∨ x.2.status ≠ 0) :
    let t := l.foldl (maintLine (maintEffect 4) false) x
    t.2.status = 0 → x.2.status = 0 ∧ ∀ j, LineLocked x.1 j ∨ j ∈ l → LineLocked t.1 j := by
  induction l generalizing x with
  | nil => exact fun h => ⟨h, fun j hj => hj.resolve_right List.not_mem_nil⟩
  | cons line l ih =>
    obtain ⟨s, r⟩ := x
    obtain ⟨hwfLine, hkeep, hresult⟩ := maintLine_lock hwf r line
    intro t hstatus
    have hfirst' : (maintLine (maintEffect 4) false (s, r) line).2.first = none ∨ (maintLine (maintEffect 4) false (s, r) line).2.status ≠ 0 := by
      obtain hrefused | ⟨hsame, -⟩ := hresult
      · rw [hrefused]
        refine .inr ?_
        unfold MaintResult.refuse
        obtain hnone | hset := hfirst
        · rw [hnone]
          exact Nat.succ_ne_zero 3
        · dsimp only
          split
          · decide
          · exact hset
      · rw [hsame]
        exact hfirst
    obtain ⟨hzero, hdone⟩ := ih _ hwfLine hfirst' hstatus
    obtain hrefused | ⟨hsame, hset⟩ := hresult
    · rw [hrefused] at hzero hfirst'
      exfalso
      obtain hnone | hne := hfirst'
      · cases hf : r.first with
        | none => simp [MaintResult.refuse, hf] at hnone
        | some f => simp [MaintResult.refuse, hf] at hnone
      · exact hne hzero
    · refine ⟨hsame ▸ hzero, fun j hj => hdone j ?_⟩
      obtain hj | hj := hj
      · exact .inl (hkeep j hj)
      · obtain rfl | hj := List.mem_cons.mp hj
        · exact .inl hset
        · exact .inr hj

end

/-! ### A core's write of MAINT_OP (R442, R443) -/

section
variable {s : State} {core : Fin 9} {op : Nat}

theorem effect_maintOp (s : State) (who : Requester) (core : Fin 9) (op : Nat) : effect s who (Obj.maintOp core) (.num op) = maintBegin s core op := by
  fin_cases core <;> rfl

/-- What the operations leave of the objects. -/
theorem maintLines_num {k : Key} (hk : k ≠ Obj.misses ∧ k ≠ Obj.writebacks) (e : MaintEffect) (bySet : Bool) (l : List Nat) (x : State × MaintResult) :
    (l.foldl (maintLine e bySet) x).1.num k = x.1.num k := by
  induction l generalizing x with
  | nil => rfl
  | cons line l ih => exact (ih _).trans (At.num_eq (@maintLine_at k _ ⟨hk.1⟩ ⟨hk.2⟩ e bySet x line (At.self x.1)))

/-- The operation on the lines that it addresses. -/
def maintRun (s : State) (core : Fin 9) (op : Nat) : State × MaintResult :=
  let u := s.setNum (Obj.maintOp core) op
  (maintLines u op (s.num (Obj.maintBase core)) (s.num (Obj.maintLength core))).foldl (maintLine (maintEffect op) (decide (5 < op))) (u, ⟨0, none⟩)

/-- The state after the operation on the lines: it runs until CACHE_MAINT_DONE. -/
def maintAfter (core : Fin 9) (x : State × MaintResult) : State :=
  let u := { x.1 with mem := { x.1.mem with maint := SMap.put x.1.mem.maint core x.2.status } }
  countLocked ((u.setNum (Obj.maintFirst core) (x.2.first.getD 0)).setNum (Obj.maintStatus core) 1)

/-- The range lies in DRAM, at whole lines. -/
def MaintFits (s : State) (core : Fin 9) : Prop :=
  s.num (Obj.maintBase core) % 64 = 0 ∧ s.num (Obj.maintLength core) % 64 = 0 ∧
  inDram (s.num (Obj.maintBase core)) (s.num (Obj.maintLength core)) = true

theorem maintBegin_runs (hop : op ≠ 0) (hfits : 5 < op ∨ MaintFits s core) : maintBegin s core op = maintAfter core (maintRun s core op) := by
  unfold maintBegin
  dsimp only
  rw [if_neg hop, if_neg]
  · rfl
  · rintro ⟨hle, hbad⟩
    obtain hset | ⟨hbase, hlen, hin⟩ := hfits
    · omega
    · rw [hin] at hbad
      simp [hbase, hlen] at hbad

theorem maintBegin_unfit (hop : op ≠ 0) (hle : op ≤ 5) (hfits : ¬MaintFits s core) :
    maintBegin s core op = (s.setNum (Obj.maintOp core) op).setNum (Obj.maintStatus core) 3 := by
  have hbad : s.num (Obj.maintBase core) % 64 ≠ 0 ∨ s.num (Obj.maintLength core) % 64 ≠ 0 ∨
      (!inDram (s.num (Obj.maintBase core)) (s.num (Obj.maintLength core))) = true := by
    by_contra hall
    push Not at hall
    exact hfits ⟨hall.1, hall.2.1, by simpa using hall.2.2⟩
  unfold maintBegin
  dsimp only
  rw [if_neg hop, if_pos ⟨hle, hbad⟩]

theorem maintKeys (core : Fin 9) : Obj.maintOp core ≠ Obj.maintStatus core ∧ Obj.maintOp core ≠ Obj.maintFirst core ∧
    (∀ k ∈ [Obj.misses, Obj.writebacks, Obj.lockedLines], Obj.maintOp core ≠ k) ∧ Obj.maintStatus core ≠ Obj.lockedLines := by
  fin_cases core <;> decide

/-- The operation is under way: it is told by its object, its status and the table of those that wait. -/
def MaintRunning (core : Fin 9) (op : Nat) (t : State) : Prop :=
  t.num (Obj.maintOp core) = op ∧ t.num (Obj.maintStatus core) = 1 ∧ (SMap.find t.mem.maint core).isSome = true

theorem maintAfter_running (s : State) (core : Fin 9) (op : Nat) : MaintRunning core op (maintAfter core (maintRun s core op)) := by
  obtain ⟨hstatus, hfirst, hcounts, hlocked⟩ := maintKeys core
  have hop : (maintRun s core op).1.num (Obj.maintOp core) = op :=
    (maintLines_num ⟨hcounts _ (by decide), hcounts _ (by decide)⟩ _ _ _ _).trans (State.num_setNum_self _ _ _)
  generalize maintRun s core op = x at hop
  unfold MaintRunning maintAfter countLocked
  dsimp only
  refine ⟨?_, ?_, ?_⟩
  · rw [State.num_setNum_other _ _ (hcounts _ (by decide)), State.num_setNum_other _ _ hstatus, State.num_setNum_other _ _ hfirst]
    exact hop
  · rw [State.num_setNum_other _ _ hlocked, State.num_setNum_self]
  · show (SMap.find (SMap.put x.1.mem.maint core x.2.status) core).isSome = true
    rw [SMap.find_put_self]
    rfl

theorem maint_answers {i : Instr} {P : State → Prop} (hexec : exec i s = .next (maintWrite s core op))
    (h : Accepted s (.core core) (Obj.maintOp core) (.num op)) (hP : P (maintBegin s core op)) : Answers i s (.core core) (Obj.maintOp core) P := by
  refine answers_of_accepted hexec h (answersFirst_of_unit (by unfold Obj.maintOp Key; omega) _) ?_
  rw [effect_maintOp]
  exact hP

/-- An operation by address starts where its range fits, and is refused otherwise. -/
theorem maint_runs {i : Instr} {P : State → Prop} (hexec : exec i s = .next (maintWrite s core op)) (hop : op ≠ 0) (hle : op ≤ 5)
    (hP : MaintFits s core → P (maintAfter core (maintRun s core op))) (h : Accepted s (.core core) (Obj.maintOp core) (.num op)) :
    (MaintFits s core → Answers i s (.core core) (Obj.maintOp core) fun t => MaintRunning core op t ∧ P t) ∧
    (¬MaintFits s core → Answers i s (.core core) (Obj.maintOp core) fun t =>
      t.num (Obj.maintOp core) = op ∧ t.num (Obj.maintStatus core) = 3 ∧ t.mem = s.mem) := by
  refine ⟨fun hfits => maint_answers hexec h ?_, fun hfits => maint_answers hexec h ?_⟩
  · rw [maintBegin_runs hop (.inr hfits)]
    exact ⟨maintAfter_running s core op, hP hfits⟩
  · rw [maintBegin_unfit hop hle hfits]
    exact ⟨(State.num_setNum_other _ _ (maintKeys core).1).trans (State.num_setNum_self _ _ _), State.num_setNum_self _ _ _, rfl⟩

theorem maint_runsBySet {i : Instr} {P : State → Prop} (hexec : exec i s = .next (maintWrite s core op)) (hset : 5 < op)
    (hP : P (maintAfter core (maintRun s core op))) (h : Accepted s (.core core) (Obj.maintOp core) (.num op)) :
    Answers i s (.core core) (Obj.maintOp core) fun t => MaintRunning core op t ∧ P t := by
  refine maint_answers hexec h ?_
  rw [maintBegin_runs (by omega) (.inl hset)]
  exact ⟨maintAfter_running s core op, hP⟩

/-- An operation that is no FILL_LOCK leaves done every line that it addresses. -/
theorem maintRun_done (hwf : SMap.wf s.mem.lines = true) (hlock : (maintEffect op).lock = false) {hit : Nat → Nat → Prop}
    (hhit : ∀ line old, SMap.find s.mem.lines line = some old → hit line old.way →
      line ∈ maintLines (s.setNum (Obj.maintOp core) op) op (s.num (Obj.maintBase core)) (s.num (Obj.maintLength core))) :
    ∀ line l, SMap.find (maintAfter core (maintRun s core op)).mem.lines line = some l → hit line l.way → (maintEffect op).Done l := by
  intro line l hfind hl
  obtain ⟨old, hold, hway, hdone⟩ := maintLines_done hlock _ (s.setNum (Obj.maintOp core) op, ⟨0, none⟩) hwf hfind
  exact hdone (.inr (hhit line old hold (hway ▸ hl)))

/-- The line starts in the range. -/
def InRange (s : State) (core : Fin 9) (line : Nat) : Prop :=
  s.num (Obj.maintBase core) ≤ 64 * line ∧ 64 * line < s.num (Obj.maintBase core) + s.num (Obj.maintLength core)

/-- The line's set and way are addressed. -/
def InSets (s : State) (core : Fin 9) (line way : Nat) : Prop :=
  (line % 4096 + 4096 - s.num (Obj.maintBase core) % 4096) % 4096 < s.num (Obj.maintLength core) ∧
  bit (fld (s.num (Obj.maintBase core)) 31 16) way = true

theorem maintRun_addressed (hwf : SMap.wf s.mem.lines = true) (hlock : (maintEffect op).lock = false) (hle : op ≤ 5) (hfour : op ≠ 4) :
    ∀ line l, SMap.find (maintAfter core (maintRun s core op)).mem.lines line = some l → InRange s core line → (maintEffect op).Done l :=
  maintRun_done hwf hlock (hit := fun line _ => InRange s core line) fun line old hold hin => by
    unfold maintLines
    rw [if_pos hle, if_neg hfour, List.mem_filter, Bool.and_eq_true, decide_eq_true_eq, decide_eq_true_eq]
    exact ⟨List.mem_append_left _ (key_mem_of_find (Option.isSome_of_mem hold)), hin⟩

theorem maintRun_bySet (hwf : SMap.wf s.mem.lines = true) (hlock : (maintEffect op).lock = false) (hset : 5 < op) :
    ∀ line l, SMap.find (maintAfter core (maintRun s core op)).mem.lines line = some l → InSets s core line l.way → (maintEffect op).Done l :=
  maintRun_done hwf hlock (hit := InSets s core) fun line old hold hin => by
    unfold maintLines
    rw [if_neg (Nat.not_le.mpr hset)]
    refine List.mem_map.mpr ⟨(line, old), List.mem_filter.mpr ⟨entry_of_find hold, ?_⟩, rfl⟩
    rw [Bool.and_eq_true, decide_eq_true_eq]
    exact hin

/-- FILL_LOCK that is not refused locks every line of its range. -/
theorem maintRun_locked (hwf : SMap.wf s.mem.lines = true) (hfits : MaintFits s core)
    (hstatus : SMap.find (maintAfter core (maintRun s core 4)).mem.maint core = some 0) {line : Nat} (hin : InRange s core line) :
    LineLocked (maintAfter core (maintRun s core 4)) line := by
  obtain ⟨hbase, hlen, -⟩ := hfits
  have hzero : (maintRun s core 4).2.status = 0 := Option.some.inj ((SMap.find_put_self _ _ _).symm.trans hstatus)
  have hmem : line ∈ maintLines (s.setNum (Obj.maintOp core) 4) 4 (s.num (Obj.maintBase core)) (s.num (Obj.maintLength core)) := by
    obtain ⟨hlow, hhigh⟩ := hin
    unfold maintLines span
    rw [if_pos (by decide), if_pos rfl, List.mem_map]
    exact ⟨line - s.num (Obj.maintBase core) / 64, List.mem_range.mpr (by omega), by omega⟩
  exact (maintLines_lock _ (s.setNum (Obj.maintOp core) 4, ⟨0, none⟩) hwf (.inl rfl) hzero).2 line (.inr hmem)

/-! ### The end of an operation, and the keeper's slots (R435 to R437, R443) -/

theorem cacheMaintDone_completes {st : Nat} (hwaits : SMap.find s.mem.maint core = some st) (hfills : maintFillPending s core = false) :
    Completes (.cacheMaintDone core) s fun t => t.num (Obj.maintOp core) = 0 ∧ t.num (Obj.maintStatus core) = st ∧
      t.mem.maint = SMap.erase s.mem.maint core ∧ t.mem.lines = s.mem.lines := by
  have hexec : exec (.cacheMaintDone core) s = execCacheMaintDone core s := rfl
  unfold execCacheMaintDone at hexec
  rw [hwaits] at hexec
  dsimp only at hexec
  rw [hfills, if_neg Bool.false_ne_true] at hexec
  exact ⟨_, hexec, (State.num_setNum_other _ _ (maintKeys core).1).trans (State.num_setNum_self _ _ _), State.num_setNum_self _ _ _, rfl, rfl⟩

theorem keeperSlotErased_completes {slot : Fin 6} (hused : s.mem.keeper[slot].state ≠ 0) (hwhole : s.mem.keeper[slot].state ≠ 4)
    (hother : ¬(s.mem.keeperChosen = some slot.val ∧ s.mem.keeper[slot].state = 1)) : Completes (.keeperSlotErased slot) s fun t =>
      t.mem.keeper[slot] = KeeperSlot.reset ∧ ∀ i : Fin 6, i ≠ slot → t.mem.keeper[i] = s.mem.keeper[i] := by
  have hexec : exec (.keeperSlotErased slot) s = execKeeperSlotErased slot s := rfl
  unfold execKeeperSlotErased at hexec
  dsimp only at hexec
  rw [if_neg (by rintro (h | h | h); exacts [hused h, hwhole h, hother h])] at hexec
  refine ⟨_, hexec, vmod_at s.mem.keeper slot _, fun i hi => ?_⟩
  have hkept := vget_vmod_other s.mem.keeper (fun _ => KeeperSlot.reset) s.mem.keeper[i] (Fin.val_ne_of_ne (Ne.symm hi))
  unfold vget at hkept
  rwa [dif_pos i.isLt, dif_pos i.isLt] at hkept

theorem supersededPageProgrammed_completes {c : Nat} (hdue : s.mem.supersedeDue = true) (hchosen : s.mem.keeperChosen = some c) :
    Completes .supersededPageProgrammed s fun t => t.mem.supersedeDue = false ∧ ∀ i : Fin 6, t.mem.keeper[i] =
      if s.mem.keeper[i].state = 1 ∧ s.mem.keeper[i].seq ≤ (vget s.mem.keeper c KeeperSlot.reset).seq then { s.mem.keeper[i] with state := 3 }
      else s.mem.keeper[i] := by
  have hexec : exec .supersededPageProgrammed s = execSupersededPageProgrammed s := rfl
  unfold execSupersededPageProgrammed at hexec
  rw [hdue, hchosen] at hexec
  exact ⟨_, hexec, rfl, fun i => Vector.getElem_map _ i.isLt⟩

end

/-- Settles O57: an operation leaves each line that it addresses done, and takes no line that was not there; FILL_LOCK locks line by
line, and a lock costs no locked line. -/
theorem cacheAndKeeperMaintenance : Obligations.CacheAndKeeperMaintenance := by
  unfold Obligations.CacheAndKeeperMaintenance
  intro s core slot st c
  refine ⟨fun hwf => maint_runs rfl (by decide) (by decide) fun _ line l hl hin => (maintRun_addressed hwf rfl (by decide) (by decide) line l hl hin).1 rfl,
    fun hwf => maint_runs rfl (by decide) (by decide) fun _ line l hl hin => (maintRun_addressed hwf rfl (by decide) (by decide) line l hl hin).2.1 rfl,
    fun hwf => maint_runs rfl (by decide) (by decide) fun _ line l hl hin => ?_,
    fun hwf => maint_runs rfl (by decide) (by decide) fun hfits hstatus line hin => maintRun_locked hwf hfits hstatus hin,
    fun hwf => maint_runs rfl (by decide) (by decide) fun _ line l hl hin =>
      (maintRun_addressed hwf rfl (by decide) (by decide) line l hl hin).2.2 rfl rfl,
    fun hwf => maint_runsBySet rfl (by decide) fun line l hl hin => (maintRun_bySet hwf rfl (by decide) line l hl hin).1 rfl,
    fun hwf => maint_runsBySet rfl (by decide) fun line l hl hin => (maintRun_bySet hwf rfl (by decide) line l hl hin).2.1 rfl,
    fun hwf => maint_runsBySet rfl (by decide) fun line l hl hin => ?_,
    cacheMaintDone_completes, keeperSlotErased_completes, supersededPageProgrammed_completes⟩
  · obtain ⟨hclean, hlocked, -⟩ := maintRun_addressed (op := 3) hwf rfl (by decide) (by decide) line l hl hin
    exact ⟨hlocked rfl, hclean rfl⟩
  · obtain ⟨hclean, hlocked, -⟩ := maintRun_bySet (op := 8) hwf rfl (by decide) line l hl hin
    exact ⟨hlocked rfl, hclean rfl⟩

end Sys2Proof.Machine
end

section
/-!
PROOFS. The DMA channels and the fabric's lanes (R446 to R457).
-/

namespace Sys2Proof.Machine

/-! ### A channel's registers -/

section
variable {s t : State} {ch : Nat}

theorem dma_congr (h : t.fab = s.fab) (ch : Nat) : t.dma ch = s.dma ch := congrArg (fun f : Fabric => vget f.dma ch DmaCh.reset) h

theorem dma_modDma (hch : ch < 8) (f : DmaCh → DmaCh) : (s.modDma ch f).dma ch = f (s.dma ch) := vget_vmod_self _ _ _ _ hch

theorem dmaNotify_fab (c code : Nat) : (dmaNotify s ch c code).fab = s.fab := by unfold dmaNotify; split <;> rfl

theorem dmaNotify_mem (c code : Nat) : (dmaNotify s ch c code).mem = s.mem := by unfold dmaNotify; split <;> rfl

theorem dmaNotify_num {k : Key} (hk : k ≠ Obj.notifyPending ch) (c code : Nat) : (dmaNotify s ch c code).num k = s.num k := by
  unfold dmaNotify
  split
  · rfl
  · exact State.num_setNum_other _ _ hk

theorem settleDma_fab : (settleDma s ch).fab = s.fab := by unfold settleDma; split <;> rfl

theorem settleDma_mem : (settleDma s ch).mem = s.mem := by unfold settleDma; split <;> rfl

theorem settleDma_num {k : Key} (hk : k ≠ Obj.dmaState ch) : (settleDma s ch).num k = s.num k := by
  unfold settleDma
  split
  · exact State.num_setNum_other _ _ hk
  · rfl

theorem dmaIdle_dma (hch : ch < 8) (word : Nat) : (dmaIdle s ch word).dma ch = { s.dma ch with phase := .idle, stop := false } :=
  (dma_congr (settleDma_fab.trans (dmaNotify_fab _ _)) ch).trans (dma_modDma hch _)

theorem dmaIdle_naks (word : Nat) : (dmaIdle s ch word).fab.naks = s.fab.naks :=
  (congrArg Fabric.naks (settleDma_fab.trans (dmaNotify_fab _ _))).trans rfl

theorem dmaIdle_mem (word : Nat) : (dmaIdle s ch word).mem = s.mem := settleDma_mem.trans (dmaNotify_mem _ _)

theorem dmaIdle_status (word : Nat) : (dmaIdle s ch word).num (Obj.chanStatus ch) = word := by
  have hstate : Obj.chanStatus ch ≠ Obj.dmaState ch := by unfold Obj.chanStatus Obj.dmaState Key; omega
  have hnotify : Obj.chanStatus ch ≠ Obj.notifyPending ch := by unfold Obj.chanStatus Obj.notifyPending Key; omega
  exact (settleDma_num hstate).trans ((dmaNotify_num hnotify _ _).trans (State.num_setNum_self _ _ _))

/-- What becoming idle leaves: every object but the channel's STATE, CHAN_STATUS and NOTIFY_PENDING. -/
theorem dmaIdle_num {k : Key} (hstate : k ≠ Obj.dmaState ch) (hstatus : k ≠ Obj.chanStatus ch) (hnotify : k ≠ Obj.notifyPending ch) (word : Nat) :
    (dmaIdle s ch word).num k = s.num k :=
  (settleDma_num hstate).trans ((dmaNotify_num hnotify _ _).trans (State.num_setNum_other _ _ hstatus))

end

/-! ### A transfer's end -/

section
variable {s : State} {ch code : Nat}

/-- A transfer that is counted, with its POISON_ADDR. -/
def transferCounted (s : State) (ch : Nat) : State := (s.bump (Obj.objTransfers ch)).setNum (Obj.poisonAddr ch) (s.dma ch).firstPoison

theorem transferCounted_fab : (transferCounted s ch).fab = s.fab := (State.bump_fab s (Obj.objTransfers ch)).trans rfl

/-- A transfer's end leaves the channel idle with the status word, or after OK and POISON fetching the chain's next descriptor; only a chain writes
its descriptor, posts its notification and moves CHAIN_ADDR. -/
theorem dmaEnd_cases (s : State) (ch code indet : Nat) :
    let w := statusWord code (s.dma ch).resends indet
    dmaEnd s ch code indet = dmaIdle (transferCounted s ch) ch w ∧ (s.dma ch).chain = false ∨
    (s.dma ch).chain = true ∧ ∃ d : State, d.fab = s.fab ∧
      (∀ k, k ≠ Obj.notifyPending ch → k ≠ Obj.chainAddr ch → d.num k = (transferCounted s ch).num k) ∧
      (dmaEnd s ch code indet = dmaIdle d ch w ∨
        (code = dcOk ∨ code = dcPoison) ∧ ∃ f, dmaEnd s ch code indet = d.modDma ch f) := by
  intro w
  let d := dmaNotify (dramWrite (dramWrite (transferCounted s ch) ((s.dma ch).desc + 32)
    (leBytes 4 w ++ leBytes 4 ((transferCounted s ch).num (Obj.doneCount ch)) ++ leBytes 8 (s.dma ch).firstPoison)) ((s.dma ch).desc + 60) (leBytes 4 0))
    ch (s.dma ch).ctrl code
  have hfab : d.fab = s.fab := (dmaNotify_fab _ _).trans transferCounted_fab
  have hnum (k : Key) (hk : k ≠ Obj.notifyPending ch) : d.num k = (transferCounted s ch).num k := dmaNotify_num hk _ _
  have hnext (v : Nat) (k : Key) (hk : k ≠ Obj.notifyPending ch) (hc : k ≠ Obj.chainAddr ch) :
      (d.setNum (Obj.chainAddr ch) v).num k = (transferCounted s ch).num k := (State.num_setNum_other _ _ hc).trans (hnum k hk)
  have hend : dmaEnd s ch code indet =
      if !(s.dma ch).chain then dmaIdle (transferCounted s ch) ch w
      else if code = dcOk ∨ code = dcPoison then
        if (s.dma ch).next = 0 then dmaIdle d ch w
        else if (s.dma ch).stop then dmaIdle (d.setNum (Obj.chainAddr ch) (s.dma ch).next) ch w
          else (d.setNum (Obj.chainAddr ch) (s.dma ch).next).modDma ch fun c => { c with phase := .fetching, desc := c.next }
      else dmaIdle (d.setNum (Obj.chainAddr ch) (if code = dcAborted then (s.dma ch).next else (s.dma ch).desc)) ch w := rfl
  cases hchain : (s.dma ch).chain with
  | false =>
    rw [hchain, if_pos (by decide)] at hend
    exact .inl ⟨hend, rfl⟩
  | true =>
    rw [hchain, if_neg (by decide)] at hend
    refine .inr ⟨rfl, ?_⟩
    by_cases hcode : code = dcOk ∨ code = dcPoison
    · rw [if_pos hcode] at hend
      by_cases hlast : (s.dma ch).next = 0
      · exact ⟨d, hfab, fun k hk _ => hnum k hk, .inl (hend.trans (if_pos hlast))⟩
      · rw [if_neg hlast] at hend
        by_cases hstop : (s.dma ch).stop = true
        · exact ⟨d.setNum (Obj.chainAddr ch) (s.dma ch).next, hfab, hnext _, .inl (hend.trans (if_pos hstop))⟩
        · exact ⟨d.setNum (Obj.chainAddr ch) (s.dma ch).next, hfab, hnext _, .inr ⟨hcode, _, hend.trans (if_neg hstop)⟩⟩
    · exact ⟨d.setNum (Obj.chainAddr ch) _, hfab, hnext _, .inl (hend.trans (if_neg hcode))⟩

theorem dmaEnd_idle (hch : ch < 8) (indet : Nat) (h : (s.dma ch).chain = false ∨ (code ≠ dcOk ∧ code ≠ dcPoison)) :
    (dmaEnd s ch code indet).num (Obj.chanStatus ch) = statusWord code (s.dma ch).resends indet ∧
    ((dmaEnd s ch code indet).dma ch).phase = .idle := by
  have hidle (t : State) (word : Nat) : (dmaIdle t ch word).num (Obj.chanStatus ch) = word ∧ ((dmaIdle t ch word).dma ch).phase = .idle :=
    ⟨dmaIdle_status word, congrArg DmaCh.phase (dmaIdle_dma hch word)⟩
  obtain ⟨hend, -⟩ | ⟨hchain, d, -, -, hend | ⟨hcode, -⟩⟩ := dmaEnd_cases s ch code indet
  · rw [hend]
    exact hidle _ _
  · rw [hend]
    exact hidle _ _
  · obtain ⟨hok, hpoison⟩ := h.resolve_left (by rw [hchain]; decide)
    exact absurd hcode (not_or.mpr ⟨hok, hpoison⟩)

theorem dmaEnd_naks (indet : Nat) : (dmaEnd s ch code indet).fab.naks = s.fab.naks := by
  obtain ⟨hend, -⟩ | ⟨-, d, hfab, -, hend | ⟨-, f, hend⟩⟩ := dmaEnd_cases s ch code indet <;> rw [hend]
  · exact (dmaIdle_naks _).trans (congrArg Fabric.naks transferCounted_fab)
  · exact (dmaIdle_naks _).trans (congrArg Fabric.naks hfab)
  · exact (congrArg Fabric.naks hfab : d.fab.naks = s.fab.naks)

/-- What a transfer's end leaves: DONE_COUNT among the channel's objects, and TRANSFERS but for the count of this one. -/
theorem dmaEnd_num {k : Key} (hk : k = Obj.doneCount ch ∨ k = Obj.objTransfers ch) (indet : Nat) :
    (dmaEnd s ch code indet).num k = (s.bump (Obj.objTransfers ch)).num k := by
  obtain ⟨h1, h2, h3, h4, h5⟩ : k ≠ Obj.dmaState ch ∧ k ≠ Obj.chanStatus ch ∧ k ≠ Obj.notifyPending ch ∧ k ≠ Obj.poisonAddr ch ∧ k ≠ Obj.chainAddr ch := by
    unfold Obj.dmaState Obj.chanStatus Obj.notifyPending Obj.poisonAddr Obj.chainAddr Obj.doneCount Obj.objTransfers Key at *
    omega
  have hcounted : (transferCounted s ch).num k = (s.bump (Obj.objTransfers ch)).num k := State.num_setNum_other _ _ h4
  obtain ⟨hend, -⟩ | ⟨-, d, -, hd, hend | ⟨-, f, hend⟩⟩ := dmaEnd_cases s ch code indet <;> rw [hend]
  · exact (dmaIdle_num h1 h2 h3 _).trans hcounted
  · exact (dmaIdle_num h1 h2 h3 _).trans ((hd k h3 h5).trans hcounted)
  · exact (hd k h3 h5).trans hcounted

theorem dmaEnd_done (indet : Nat) : (dmaEnd s ch code indet).num (Obj.doneCount ch) = s.num (Obj.doneCount ch) :=
  (dmaEnd_num (.inl rfl) indet).trans (State.num_bump_other s (by unfold Obj.doneCount Obj.objTransfers Key; omega))

theorem dmaEnd_counted (indet : Nat) : Counted (Obj.objTransfers ch) s (dmaEnd s ch code indet) :=
  (counted_bump _ s).trans_num (dmaEnd_num (.inr rfl) indet)

theorem dmaEnd_mem (indet : Nat) (h : (s.dma ch).chain = false) : (dmaEnd s ch code indet).mem = s.mem := by
  obtain ⟨hend, -⟩ | ⟨hchain, -⟩ := dmaEnd_cases s ch code indet
  · rw [hend]
    exact (dmaIdle_mem _).trans (State.bump_mem s (Obj.objTransfers ch))
  · exact absurd (h.symm.trans hchain) (by decide)

end

/-! ### Starting a transfer -/

theorem statusWord_clean (code : Nat) : statusWord code 0 0 = code := by simp [statusWord]

section
variable {s : State} {ch : Nat} (hch : ch < 8) (chain : Bool) (desc src dst next count ctrl : Nat)
include hch

theorem dmaStart_moving (h : transferCheck src dst count = none) :
    let t := dmaStart s ch chain desc src dst next count ctrl
    t.dma ch = { DmaCh.reset with
      phase := .moving, chain := chain, desc := desc, src := src, dst := dst, next := next, count := count, ctrl := ctrl } ∧
    t.num (Obj.doneCount ch) = 0 ∧ t.mem = s.mem := by
  intro t
  have ht : t = (s.modDma ch fun _ => { DmaCh.reset with
      phase := .moving, chain := chain, desc := desc, src := src, dst := dst, next := next, count := count, ctrl := ctrl }).setNum
        (Obj.doneCount ch) 0 := by
    show dmaStart s ch chain desc src dst next count ctrl = _
    unfold dmaStart
    rw [h]
  rw [ht]
  exact ⟨dma_modDma (s := s) hch _, State.num_setNum_self _ _ _, rfl⟩

theorem dmaStart_refused {e : Nat} (h : transferCheck src dst count = some e) :
    let t := dmaStart s ch false desc src dst next count ctrl
    t.num (Obj.chanStatus ch) = e ∧ (t.dma ch).phase = .idle ∧ t.mem = s.mem := by
  intro t
  have ht : t = dmaEnd ((s.modDma ch fun _ => { DmaCh.reset with
      phase := .moving, chain := false, desc := desc, src := src, dst := dst, next := next, count := count, ctrl := ctrl }).setNum
        (Obj.doneCount ch) 0) ch e 0 := by
    show dmaStart s ch false desc src dst next count ctrl = _
    unfold dmaStart
    rw [h]
  have hdma := dma_modDma (s := s) hch fun _ => { DmaCh.reset with
      phase := .moving, chain := false, desc := desc, src := src, dst := dst, next := next, count := count, ctrl := ctrl }
  rw [ht]
  have hchain := congrArg DmaCh.chain hdma
  have hend := dmaEnd_idle (code := e) (s := (s.modDma ch fun _ => { DmaCh.reset with
      phase := .moving, chain := false, desc := desc, src := src, dst := dst, next := next, count := count, ctrl := ctrl }).setNum
        (Obj.doneCount ch) 0) hch 0 (.inl hchain)
  refine ⟨hend.1.trans ?_, hend.2, dmaEnd_mem 0 hchain⟩
  exact (congrArg (fun r => statusWord e r 0) (congrArg DmaCh.resends hdma)).trans (statusWord_clean e)

end

/-! ### Blocks that are copied (R450, R454) -/

/-- The fields of a channel that the copying of its blocks leaves. -/
def KeepsTransfer (c c' : DmaCh) : Prop :=
  c' = { c with poison := c'.poison, firstPoison := c'.firstPoison, lastCopy := c'.lastCopy, lastPoison := c'.lastPoison }

theorem KeepsTransfer.trans {c c' c'' : DmaCh} (h : KeepsTransfer c c') (h' : KeepsTransfer c' c'') : KeepsTransfer c c'' :=
  Eq.trans h' (congrArg (fun x : DmaCh => { x with
    poison := c''.poison, firstPoison := c''.firstPoison, lastCopy := c''.lastCopy, lastPoison := c''.lastPoison }) h)

section
variable {s : State} {ch : Nat}

/-- A channel after the block at an offset, poisoned or not. -/
def DmaCh.tookBlock (data : List Byte) (o : Nat) (bad : Bool) (c : DmaCh) : DmaCh :=
  { c with poison := c.poison || bad, firstPoison := if bad && !c.poison then c.dst + o else c.firstPoison, lastCopy := data, lastPoison := bad }

theorem keepsTransfer_tookBlock (data : List Byte) (o : Nat) (bad : Bool) (c : DmaCh) : KeepsTransfer c (c.tookBlock data o bad) := rfl

/-- One block is copied: its bytes are in the memory, and DONE_COUNT and BYTES count it. -/
theorem dmaBlock_eq (s : State) (ch : Nat) : ∃ (w : State) (f : DmaCh → DmaCh), w.fab = s.fab ∧ w.objs = s.objs ∧
    w.mem.dram = (dramWriteM s.mem ((s.dma ch).dst + s.num (Obj.doneCount ch)) (sourceBlock s ((s.dma ch).src + s.num (Obj.doneCount ch)))).dram ∧
    w.mem.cache = (dramWriteM s.mem ((s.dma ch).dst + s.num (Obj.doneCount ch)) (sourceBlock s ((s.dma ch).src + s.num (Obj.doneCount ch)))).cache ∧
    (∀ c, KeepsTransfer c (f c)) ∧
    dmaBlock s ch = ((w.modDma ch f).setNum (Obj.doneCount ch) (s.num (Obj.doneCount ch) + 64)).add (Obj.objBytes ch) 64 := by
  cases hbad : inDram ((s.dma ch).src + s.num (Obj.doneCount ch)) 64 && dramPoisoned s.mem ((s.dma ch).src + s.num (Obj.doneCount ch)) 64 with
  | false =>
    exact ⟨dramWrite s ((s.dma ch).dst + s.num (Obj.doneCount ch)) (sourceBlock s ((s.dma ch).src + s.num (Obj.doneCount ch))),
      .tookBlock (sourceBlock s ((s.dma ch).src + s.num (Obj.doneCount ch))) (s.num (Obj.doneCount ch)) false,
      rfl, rfl, rfl, rfl, keepsTransfer_tookBlock _ _ _, by unfold dmaBlock; dsimp only; rw [hbad]; rfl⟩
  | true =>
    exact ⟨poisonBlocks (dramWrite s ((s.dma ch).dst + s.num (Obj.doneCount ch)) (sourceBlock s ((s.dma ch).src + s.num (Obj.doneCount ch))))
      [(s.dma ch).dst + s.num (Obj.doneCount ch)],
      .tookBlock (sourceBlock s ((s.dma ch).src + s.num (Obj.doneCount ch))) (s.num (Obj.doneCount ch)) true,
      rfl, rfl, rfl, rfl, keepsTransfer_tookBlock _ _ _, by unfold dmaBlock; dsimp only; rw [hbad, if_pos rfl]; rfl⟩

theorem dmaBlock_fab (hch : ch < 8) : KeepsTransfer (s.dma ch) ((dmaBlock s ch).dma ch) ∧ (dmaBlock s ch).fab.naks = s.fab.naks := by
  obtain ⟨w, f, hfab, -, -, -, hf, heq⟩ := dmaBlock_eq s ch
  have hblock : (dmaBlock s ch).fab = (w.modDma ch f).fab := (congrArg State.fab heq).trans (State.add_fab _ _ _)
  refine ⟨?_, (congrArg Fabric.naks hblock).trans (congrArg Fabric.naks hfab : w.fab.naks = s.fab.naks)⟩
  rw [dma_congr hblock, dma_modDma hch, dma_congr hfab]
  exact hf _

theorem dmaBlock_num {k : Key} (hk : k ≠ Obj.objBytes ch) :
    (dmaBlock s ch).num k = if k = Obj.doneCount ch then s.num (Obj.doneCount ch) + 64 else s.num k := by
  obtain ⟨w, f, -, hobjs, -, -, -, heq⟩ := dmaBlock_eq s ch
  rw [heq, State.num_add_other _ _ hk]
  split
  · next h => exact h ▸ State.num_setNum_self _ _ _
  · next h => exact (State.num_setNum_other _ _ h).trans (State.num_congr (s := s) hobjs k)

theorem dmaBlocks_moved (hch : ch < 8) (n : Nat) (s : State) :
    KeepsTransfer (s.dma ch) ((dmaBlocks ch n s).dma ch) ∧ (dmaBlocks ch n s).fab.naks = s.fab.naks ∧
    (dmaBlocks ch n s).num (Obj.doneCount ch) = s.num (Obj.doneCount ch) + 64 * n ∧
    (dmaBlocks ch n s).num (Obj.objTransfers ch) = s.num (Obj.objTransfers ch) := by
  induction n generalizing s with
  | zero => exact ⟨rfl, rfl, rfl, rfl⟩
  | succ n ih =>
    obtain ⟨hkeeps, hnaks, hdone, htransfers⟩ := ih (dmaBlock s ch)
    obtain ⟨hblock, hblockNaks⟩ := dmaBlock_fab (s := s) hch
    have hone : (dmaBlock s ch).num (Obj.doneCount ch) = s.num (Obj.doneCount ch) + 64 :=
      (dmaBlock_num (by unfold Obj.doneCount Obj.objBytes Key; omega)).trans (if_pos rfl)
    have hcount : (dmaBlock s ch).num (Obj.objTransfers ch) = s.num (Obj.objTransfers ch) :=
      (dmaBlock_num (by unfold Obj.objTransfers Obj.objBytes Key; omega)).trans (if_neg (by unfold Obj.doneCount Obj.objTransfers Key; omega))
    exact ⟨hblock.trans hkeeps, hnaks.trans hblockNaks, hdone.trans (by rw [hone]; omega), htransfers.trans hcount⟩

/-- Blocks up to a count of bytes are copied: nothing else of the transfer changes. -/
theorem dmaTo_moved (hch : ch < 8) (s : State) (bytes : Nat) (hdone : s.num (Obj.doneCount ch) = 0) (hwhole : min bytes (s.dma ch).count % 64 = 0) :
    KeepsTransfer (s.dma ch) ((dmaTo s ch bytes).dma ch) ∧ (dmaTo s ch bytes).fab.naks = s.fab.naks ∧
    (dmaTo s ch bytes).num (Obj.doneCount ch) = min bytes (s.dma ch).count ∧
    (dmaTo s ch bytes).num (Obj.objTransfers ch) = s.num (Obj.objTransfers ch) := by
  obtain ⟨hkeeps, hnaks, hbytes, htransfers⟩ := dmaBlocks_moved hch ((min bytes (s.dma ch).count - s.num (Obj.doneCount ch)) / 64) s
  exact ⟨hkeeps, hnaks, hbytes.trans (by rw [hdone]; omega), htransfers⟩

end

/-! ### The bytes that are copied -/

theorem dramWriteM_cells (m : Memory) {a : Nat} {l : List Byte} (h : ∀ i, i < l.length → slotAt (a + i) = none) :
    (dramWriteM m a l).dram = cellsWrite m.dram a l ∧ (dramWriteM m a l).cache = m.cache :=
  ⟨show (dramPut m a l).dram = _ from congrArg Memory.dram (dramPut_outside m a l h),
    show (dramPut m a l).cache = _ from (congrArg Memory.cache (dramPut_outside m a l h)).trans rfl⟩

theorem dramRead_length (m : Memory) (a n : Nat) : (dramRead m a n).length = n := by simp [dramRead]

theorem dramRead_getD (m : Memory) (a : Nat) {n j : Nat} (hj : j < n) : (dramRead m a n).getD j 0 = dramByte m (a + j) := by
  simp [dramRead, List.getElem?_range hj]

/-- o bytes of a transfer are at their destination and nothing else of the memory's cells has changed. -/
structure Copied (s : State) (src dst o : Nat) (t : State) : Prop where
  wf : t.wf = true
  cache : t.mem.cache = s.mem.cache
  inside : ∀ i < o, cellRead t.mem.dram (dst + i) = dramByte s.mem (src + i)
  outside : ∀ a, a < dst ∨ dst + o ≤ a → cellRead t.mem.dram a = cellRead s.mem.dram a

section
variable {s t : State} {ch : Nat}

/-- One block more of a transfer whose source and destination lie apart in the DRAM, away from the cache slots. -/
theorem copied_block {src dst count o : Nat} (hsrc : inDram src count = true) (hapart : dst + count ≤ src ∨ src + count ≤ dst)
    (hslots : ∀ i < count, slotAt (dst + i) = none) (h : Copied s src dst o t) (hroom : o + 64 ≤ count)
    (hmine : (t.dma ch).src = src ∧ (t.dma ch).dst = dst) (hdone : t.num (Obj.doneCount ch) = o) : Copied s src dst (o + 64) (dmaBlock t ch) := by
  obtain ⟨w, f, -, -, hdram, hcache, -, heq⟩ := dmaBlock_eq t ch
  have hmem : (dmaBlock t ch).mem = w.mem := (congrArg State.mem heq).trans (State.add_mem _ _ _)
  rw [hmine.1, hmine.2, hdone] at hdram hcache
  have hdata : sourceBlock t (src + o) = dramRead t.mem (src + o) 64 := by
    unfold sourceBlock
    rw [if_neg]
    simp only [inDram, Bool.and_eq_true, decide_eq_true_eq] at hsrc
    have hbase : 0x800000000 ≤ src := hsrc.1
    simp only [inSampleBuffers, Bool.and_eq_true, decide_eq_true_eq]
    omega
  have hlen := dramRead_length t.mem (src + o) 64
  rw [hdata] at hdram hcache
  obtain ⟨hdramPut, hcachePut⟩ := dramWriteM_cells t.mem (a := dst + o) (l := dramRead t.mem (src + o) 64) fun i hi => by
    rw [Nat.add_assoc]
    exact hslots _ (by rw [hlen] at hi; omega)
  have hcells : (dmaBlock t ch).mem.dram = cellsWrite t.mem.dram (dst + o) (dramRead t.mem (src + o) 64) := by
    rw [hmem, hdram, hdramPut]
  have hsame : (dmaBlock t ch).mem.cache = s.mem.cache := by
    rw [hmem, hcache, hcachePut, h.cache]
  have hwf := Memory.wf_dram (State.wf_mem h.wf)
  refine ⟨dmaBlock_wf t ch h.wf, hsame, fun i hi => ?_, fun a ha => ?_⟩
  · rw [hcells]
    by_cases hbefore : i < o
    · rw [cellRead_cellsWrite_outside hwf (.inl (by omega))]
      exact h.inside i hbefore
    · obtain ⟨j, rfl⟩ := Nat.exists_eq_add_of_le (Nat.le_of_not_lt hbefore)
      rw [← Nat.add_assoc, cellRead_cellsWrite_at hwf (by rw [hlen]; omega)]
      rw [dramRead_getD _ _ (show j < 64 by omega), Nat.add_assoc]
      exact dramByte_congr h.cache (h.outside _ (by omega))
  · rw [hcells, cellRead_cellsWrite_outside hwf (by rw [hlen]; omega)]
    exact h.outside a (by omega)

theorem copied_blocks (hch : ch < 8) {src dst count : Nat} (hsrc : inDram src count = true) (hapart : dst + count ≤ src ∨ src + count ≤ dst)
    (hslots : ∀ i < count, slotAt (dst + i) = none) (n : Nat) {o : Nat} {t : State} (h : Copied s src dst o t) (hroom : o + 64 * n ≤ count)
    (hmine : (t.dma ch).src = src ∧ (t.dma ch).dst = dst) (hdone : t.num (Obj.doneCount ch) = o) :
    Copied s src dst (o + 64 * n) (dmaBlocks ch n t) := by
  induction n generalizing o t with
  | zero => exact h
  | succ n ih =>
    have hkeeps := (dmaBlock_fab (s := t) hch).1
    have hone : (dmaBlock t ch).num (Obj.doneCount ch) = o + 64 :=
      (dmaBlock_num (by unfold Obj.doneCount Obj.objBytes Key; omega)).trans ((if_pos rfl).trans (congrArg (· + 64) hdone))
    have hnext := ih (copied_block hsrc hapart hslots h (by omega) hmine hdone) (by omega)
      ⟨(congrArg DmaCh.src hkeeps).trans hmine.1, (congrArg DmaCh.dst hkeeps).trans hmine.2⟩ hone
    rw [show o + 64 * (n + 1) = o + 64 + 64 * n by omega]
    exact hnext

end

/-! ### The channel's commands (R447 to R451) -/

section
variable {s : State} {who : Requester} {ch : Fin 8} {n : Nat}

theorem effect_objCtrl (s : State) (who : Requester) (ch : Fin 8) (n : Nat) : effect s who (Obj.objCtrl ch) (.num n) = dmaCtrl s ch n := by
  fin_cases ch <;> rfl

theorem effect_notifyPending (s : State) (who : Requester) (ch : Fin 8) (n : Nat) : effect s who (Obj.notifyPending ch) (.num n) =
    s.setNum (Obj.notifyPending ch) (s.num (Obj.notifyPending ch) &&& (0x1FF ^^^ n)) := by
  fin_cases ch <;> rfl

/-- The state in which an accepted GO finds the channel: its command bits cleared and its status BUSY. -/
def goTaken (s : State) (ch n : Nat) : State :=
  (s.setNum (Obj.objCtrl ch) (n / 16 * 16 + if bit n 1 then 2 else 0)).setNum (Obj.chanStatus ch) dcBusy

theorem goTaken_ctrl (s : State) (ch : Nat) {n : Nat} (hone : bit n 1 = false) : (goTaken s ch n).num (Obj.objCtrl ch) = n / 16 * 16 := by
  have hne : Obj.objCtrl ch ≠ Obj.chanStatus ch := by unfold Obj.objCtrl Obj.chanStatus Key; omega
  rw [goTaken, State.num_setNum_other _ _ hne, State.num_setNum_self, hone]
  rfl

theorem goTaken_num {k : Key} (hctrl : k ≠ Obj.objCtrl ch) (hstatus : k ≠ Obj.chanStatus ch) : (goTaken s ch n).num k = s.num k :=
  (State.num_setNum_other _ _ hstatus).trans (State.num_setNum_other _ _ hctrl)

theorem dmaGo_answers (h : AcceptedNum s who (Obj.objCtrl ch) n) (hgo : bit n 0 = true) (hone : bit n 1 = false) :
    Answers (.dmaGo who ch n) s who (Obj.objCtrl ch) fun t =>
      t.num (Obj.objCtrl ch) = n / 16 * 16 ∧
      (transferCheck (s.num (Obj.objSrc ch)) (s.num (Obj.objDst ch)) (s.num (Obj.objCount ch)) = none → t.num (Obj.chanStatus ch) = 0xFF ∧
        ((t.dma ch).phase = .moving ∧ (t.dma ch).chain = false ∧ (t.dma ch).desc = 0 ∧ (t.dma ch).src = s.num (Obj.objSrc ch) ∧
          (t.dma ch).dst = s.num (Obj.objDst ch) ∧ (t.dma ch).next = 0 ∧ (t.dma ch).count = s.num (Obj.objCount ch) ∧ t.num (Obj.doneCount ch) = 0)) ∧
      ∀ e, transferCheck (s.num (Obj.objSrc ch)) (s.num (Obj.objDst ch)) (s.num (Obj.objCount ch)) = some e →
        t.num (Obj.chanStatus ch) = e ∧ (t.dma ch).phase = .idle ∧ t.mem = s.mem := by
  refine answers_of_acceptedNum (by unfold Obj.objCtrl Key; omega) rfl h ?_
  have hsrc : (goTaken s ch n).num (Obj.objSrc ch) = s.num (Obj.objSrc ch) :=
    goTaken_num (by unfold Obj.objSrc Obj.objCtrl Key; omega) (by unfold Obj.objSrc Obj.chanStatus Key; omega)
  have hdst : (goTaken s ch n).num (Obj.objDst ch) = s.num (Obj.objDst ch) :=
    goTaken_num (by unfold Obj.objDst Obj.objCtrl Key; omega) (by unfold Obj.objDst Obj.chanStatus Key; omega)
  have hcount : (goTaken s ch n).num (Obj.objCount ch) = s.num (Obj.objCount ch) :=
    goTaken_num (by unfold Obj.objCount Obj.objCtrl Key; omega) (by unfold Obj.objCount Obj.chanStatus Key; omega)
  have heffect : effect s who (Obj.objCtrl ch) (.num n) =
      dmaStart (goTaken s ch n) ch false 0 (s.num (Obj.objSrc ch)) (s.num (Obj.objDst ch)) 0 (s.num (Obj.objCount ch)) n := by
    rw [effect_objCtrl, dmaCtrl, if_pos hgo, ← hsrc, ← hdst, ← hcount]
    exact if_neg (by rw [hone]; exact Bool.false_ne_true)
  rw [heffect]
  refine ⟨?_, fun hpass => ?_, fun e hfail => ?_⟩
  · exact (At.num_eq (@dmaStart_at (Obj.objCtrl ch) _
      ⟨fun u => by unfold Obj.objCtrl Obj.chainAddr Key; omega⟩ ⟨fun u => by unfold Obj.objCtrl Obj.chanStatus Key; omega⟩
      ⟨fun u => by unfold Obj.objCtrl Obj.dmaState Key; omega⟩ ⟨fun u => by unfold Obj.objCtrl Obj.doneCount Key; omega⟩
      ⟨fun u => by unfold Obj.objCtrl Obj.notifyPending Key; omega⟩ ⟨fun u => by unfold Obj.objCtrl Obj.objTransfers Key; omega⟩
      ⟨fun u => by unfold Obj.objCtrl Obj.poisonAddr Key; omega⟩ (goTaken s ch n) ch false 0 _ _ 0 _ n (At.self _))).trans (goTaken_ctrl s ch hone)
  · obtain ⟨hdma, hdone, -⟩ := dmaStart_moving (s := goTaken s ch n) ch.isLt false 0 _ _ 0 _ n hpass
    refine ⟨?_, congrArg DmaCh.phase hdma, congrArg DmaCh.chain hdma, congrArg DmaCh.desc hdma, congrArg DmaCh.src hdma, congrArg DmaCh.dst hdma,
      congrArg DmaCh.next hdma, congrArg DmaCh.count hdma, hdone⟩
    unfold dmaStart
    rw [hpass]
    exact (State.num_setNum_other _ _ (by unfold Obj.chanStatus Obj.doneCount Key; omega)).trans (State.num_setNum_self _ _ _)
  · exact dmaStart_refused ch.isLt 0 _ _ 0 _ n hfail

theorem dmaChainGo_answers (h : AcceptedNum s who (Obj.objCtrl ch) n) (hgo : bit n 0 = true) (hone : bit n 1 = true) :
    Answers (.dmaChainGo who ch n) s who (Obj.objCtrl ch) fun t =>
      t.num (Obj.chanStatus ch) = 0xFF ∧ (t.dma ch).phase = .fetching ∧ (t.dma ch).chain = true ∧ (t.dma ch).desc = s.num (Obj.chainAddr ch) := by
  refine answers_of_acceptedNum (by unfold Obj.objCtrl Key; omega) rfl h ?_
  have haddr : (goTaken s ch n).num (Obj.chainAddr ch) = s.num (Obj.chainAddr ch) :=
    goTaken_num (by unfold Obj.chainAddr Obj.objCtrl Key; omega) (by unfold Obj.chainAddr Obj.chanStatus Key; omega)
  have heffect : effect s who (Obj.objCtrl ch) (.num n) =
      (goTaken s ch n).modDma ch fun _ => { DmaCh.reset with phase := .fetching, chain := true, desc := s.num (Obj.chainAddr ch) } := by
    rw [effect_objCtrl, dmaCtrl, if_pos hgo, ← haddr]
    exact if_pos hone
  rw [heffect]
  have hdma := dma_modDma (s := goTaken s ch n) ch.isLt fun _ =>
    { DmaCh.reset with phase := .fetching, chain := true, desc := s.num (Obj.chainAddr ch) }
  exact ⟨State.num_setNum_self _ _ _, congrArg DmaCh.phase hdma, congrArg DmaCh.chain hdma, congrArg DmaCh.desc hdma⟩

theorem dmaStop_answers (h : AcceptedNum s who (Obj.objCtrl ch) n) (hgo : bit n 0 = false) (hstop : bit n 2 = true) :
    Answers (.dmaStop who ch n) s who (Obj.objCtrl ch) fun t =>
      t.objs = s.objs ∧ t.dma ch = { s.dma ch with stop := (s.dma ch).stop || decide ((s.dma ch).phase ≠ .idle) } := by
  refine answers_of_acceptedNum (by unfold Obj.objCtrl Key; omega) rfl h ?_
  rw [effect_objCtrl, dmaCtrl, if_neg (by rw [hgo]; exact Bool.false_ne_true), if_pos hstop]
  by_cases hidle : (s.dma ch).phase = .idle
  · rw [if_pos hidle, decide_eq_false (not_not_intro hidle), Bool.or_false]
    exact ⟨rfl, rfl⟩
  · rw [if_neg hidle, decide_eq_true hidle, Bool.or_true]
    exact ⟨rfl, dma_modDma ch.isLt _⟩

theorem notifyClear_answers (h : AcceptedNum s who (Obj.notifyPending ch) n) :
    Answers (.notifyClear who ch n) s who (Obj.notifyPending ch) fun t =>
      t = s.setNum (Obj.notifyPending ch) (s.num (Obj.notifyPending ch) &&& (0x1FF ^^^ n)) :=
  answers_of_acceptedNum (by unfold Obj.notifyPending Key; omega) rfl h (effect_notifyPending s who ch n)

end

/-! ### The engine's steps (R450 to R454) -/

section
variable {s : State} {ch : Fin 8}

theorem exec_dmaDescriptorFetched_taken (hphase : (s.dma ch).phase = .fetching) (hstop : (s.dma ch).stop = false)
    (hdram : inDram (s.dma ch).desc 64 = true) (hclean : dramPoisoned s.mem (s.dma ch).desc 64 = false) :
    exec (.dmaDescriptorFetched ch true) s =
      if fieldAt (dramRead s.mem (s.dma ch).desc 64) 60 4 % 2 = 0 then .next (dmaIdle s ch dcWaiting)
      else if descBad (dramRead s.mem (s.dma ch).desc 64) then
        .next (dmaIdle (dramWrite (dramWrite s ((s.dma ch).desc + 32) (leBytes 4 dcDescErr)) ((s.dma ch).desc + 60) (leBytes 4 0)) ch dcDescErr)
      else .next (dmaStart s ch true (s.dma ch).desc (fieldAt (dramRead s.mem (s.dma ch).desc 64) 0 8) (fieldAt (dramRead s.mem (s.dma ch).desc 64) 8 8)
        (fieldAt (dramRead s.mem (s.dma ch).desc 64) 16 8) (fieldAt (dramRead s.mem (s.dma ch).desc 64) 24 4)
        (fieldAt (dramRead s.mem (s.dma ch).desc 64) 28 4)) := by
  have hexec : exec (.dmaDescriptorFetched ch true) s = execDmaDescriptorFetched ch true s := rfl
  unfold execDmaDescriptorFetched at hexec
  dsimp only at hexec
  rw [if_neg (not_not_intro hphase), hstop, if_neg Bool.false_ne_true, hdram, hclean, if_neg (by decide)] at hexec
  exact hexec

theorem descriptor_starts (hphase : (s.dma ch).phase = .fetching) (hstop : (s.dma ch).stop = false)
    (hdram : inDram (s.dma ch).desc 64 = true) (hclean : dramPoisoned s.mem (s.dma ch).desc 64 = false)
    (hvalid : fieldAt (dramRead s.mem (s.dma ch).desc 64) 60 4 % 2 = 1) (hgood : descBad (dramRead s.mem (s.dma ch).desc 64) = false)
    (hpass : transferCheck (fieldAt (dramRead s.mem (s.dma ch).desc 64) 0 8) (fieldAt (dramRead s.mem (s.dma ch).desc 64) 8 8)
      (fieldAt (dramRead s.mem (s.dma ch).desc 64) 24 4) = none) :
    Completes (.dmaDescriptorFetched ch true) s fun t =>
      ((t.dma ch).phase = .moving ∧ (t.dma ch).chain = true ∧ (t.dma ch).desc = (s.dma ch).desc ∧
        (t.dma ch).src = fieldAt (dramRead s.mem (s.dma ch).desc 64) 0 8 ∧ (t.dma ch).dst = fieldAt (dramRead s.mem (s.dma ch).desc 64) 8 8 ∧
        (t.dma ch).next = fieldAt (dramRead s.mem (s.dma ch).desc 64) 16 8 ∧ (t.dma ch).count = fieldAt (dramRead s.mem (s.dma ch).desc 64) 24 4 ∧
        t.num (Obj.doneCount ch) = 0) ∧ t.mem = s.mem := by
  have hexec := exec_dmaDescriptorFetched_taken hphase hstop hdram hclean
  rw [if_neg (by omega), if_neg (by rw [hgood]; exact Bool.false_ne_true)] at hexec
  obtain ⟨hdma, hdone, hmem⟩ := dmaStart_moving (s := s) ch.isLt true (s.dma ch).desc _ _ (fieldAt (dramRead s.mem (s.dma ch).desc 64) 16 8) _
    (fieldAt (dramRead s.mem (s.dma ch).desc 64) 28 4) hpass
  exact ⟨_, hexec, ⟨(congrArg DmaCh.phase hdma).trans rfl, (congrArg DmaCh.chain hdma).trans rfl, (congrArg DmaCh.desc hdma).trans rfl,
    (congrArg DmaCh.src hdma).trans rfl, (congrArg DmaCh.dst hdma).trans rfl, (congrArg DmaCh.next hdma).trans rfl,
    (congrArg DmaCh.count hdma).trans rfl, hdone⟩, hmem⟩

theorem descriptor_waits (hphase : (s.dma ch).phase = .fetching) (hstop : (s.dma ch).stop = false)
    (hdram : inDram (s.dma ch).desc 64 = true) (hclean : dramPoisoned s.mem (s.dma ch).desc 64 = false)
    (hvalid : fieldAt (dramRead s.mem (s.dma ch).desc 64) 60 4 % 2 = 0) :
    Completes (.dmaDescriptorFetched ch true) s fun t => t.num (Obj.chanStatus ch) = 0x0A ∧ (t.dma ch).phase = .idle :=
  ⟨_, (exec_dmaDescriptorFetched_taken hphase hstop hdram hclean).trans (if_pos hvalid), dmaIdle_status _, congrArg DmaCh.phase (dmaIdle_dma ch.isLt _)⟩

theorem descriptor_lost (hphase : (s.dma ch).phase = .fetching) (hstop : (s.dma ch).stop = false) :
    Completes (.dmaDescriptorFetched ch false) s fun t => t.num (Obj.chanStatus ch) = 9 ∧ (t.dma ch).phase = .idle := by
  have hexec : exec (.dmaDescriptorFetched ch false) s = execDmaDescriptorFetched ch false s := rfl
  unfold execDmaDescriptorFetched at hexec
  dsimp only at hexec
  rw [if_neg (not_not_intro hphase), hstop, if_neg Bool.false_ne_true, if_pos (by rfl)] at hexec
  exact ⟨_, hexec, dmaIdle_status _, congrArg DmaCh.phase (dmaIdle_dma ch.isLt _)⟩

theorem beats_acknowledged (hphase : (s.dma ch).phase = .moving) (hdone : s.num (Obj.doneCount ch) = 0) (hwhole : (s.dma ch).count % 64 = 0) :
    Completes (.dmaBeatsAcknowledged ch) s fun t =>
      (t.dma ch).phase = .readback ∧ t.num (Obj.doneCount ch) = (s.dma ch).count ∧
      (s.wf = true → inDram (s.dma ch).src (s.dma ch).count = true → inDram (s.dma ch).dst (s.dma ch).count = true →
        ((s.dma ch).dst + (s.dma ch).count ≤ (s.dma ch).src ∨ (s.dma ch).src + (s.dma ch).count ≤ (s.dma ch).dst) →
        (∀ i < (s.dma ch).count, slotAt ((s.dma ch).dst + i) = none) →
        ∀ a, slotAt a = none → cellRead t.mem.dram a =
          if (s.dma ch).dst ≤ a ∧ a < (s.dma ch).dst + (s.dma ch).count then dramByte s.mem ((s.dma ch).src + (a - (s.dma ch).dst))
          else cellRead s.mem.dram a) := by
  have hexec : exec (.dmaBeatsAcknowledged ch) s = execDmaBeatsAcknowledged ch s := rfl
  unfold execDmaBeatsAcknowledged at hexec
  rw [if_neg (not_not_intro hphase)] at hexec
  obtain ⟨-, -, hbytes, -⟩ := dmaTo_moved ch.isLt s (s.dma ch).count hdone (by rw [Nat.min_self]; exact hwhole)
  refine ⟨_, hexec, congrArg DmaCh.phase (dma_modDma ch.isLt _), hbytes.trans (Nat.min_self _), fun hwf hsrc hdst hapart hslots a _ => ?_⟩
  have hcopied := copied_blocks ch.isLt hsrc hapart hslots ((min (s.dma ch).count (s.dma ch).count - s.num (Obj.doneCount ch)) / 64) (o := 0) (t := s)
    ⟨hwf, rfl, fun i hi => absurd hi (Nat.not_lt_zero i), fun a _ => rfl⟩ (by rw [hdone]; omega) ⟨rfl, rfl⟩ hdone
  rw [show 0 + 64 * ((min (s.dma ch).count (s.dma ch).count - s.num (Obj.doneCount ch)) / 64) = (s.dma ch).count by rw [hdone]; omega] at hcopied
  split
  · next hin =>
    have hread := hcopied.inside (a - (s.dma ch).dst) (by omega)
    rw [Nat.add_sub_cancel' hin.1] at hread
    exact hread
  · next hout => exact hcopied.outside a (by omega)

/-- A transfer in read-back with a clean last block: it ends when that block reads back as it was written. -/
theorem exec_dmaReadbackDone (hphase : (s.dma ch).phase = .readback ∨ (s.dma ch).phase = .rewritten)
    (hclean : dramPoisoned s.mem ((s.dma ch).dst + (s.dma ch).count - 64) 64 = false) :
    exec (.dmaReadbackDone ch) s =
      if dramRead s.mem ((s.dma ch).dst + (s.dma ch).count - 64) 64 = (s.dma ch).lastCopy then
        .next (dmaEnd s ch (if (s.dma ch).poison then dcPoison else dcOk) 0)
      else if (s.dma ch).phase = .readback then
        .next ((if (s.dma ch).lastPoison then
            poisonBlocks (dramWrite s ((s.dma ch).dst + (s.dma ch).count - 64) (s.dma ch).lastCopy) [(s.dma ch).dst + (s.dma ch).count - 64]
          else dramWrite s ((s.dma ch).dst + (s.dma ch).count - 64) (s.dma ch).lastCopy).modDma ch fun c => { c with phase := .rewritten })
      else .next (dmaEnd (s.setNum (Obj.doneCount ch) ((s.dma ch).count - 64)) ch dcReadback 1) := by
  have hexec : exec (.dmaReadbackDone ch) s = execDmaReadbackDone ch s := rfl
  unfold execDmaReadbackDone at hexec
  dsimp only at hexec
  rw [if_neg (by simpa using hphase.resolve_left), hclean, if_neg Bool.false_ne_true] at hexec
  simp only [decide_eq_true_eq] at hexec
  exact hexec

theorem readback_matched (hphase : (s.dma ch).phase = .readback) (hclean : dramPoisoned s.mem ((s.dma ch).dst + (s.dma ch).count - 64) 64 = false)
    (hsame : dramRead s.mem ((s.dma ch).dst + (s.dma ch).count - 64) 64 = (s.dma ch).lastCopy) (hregister : (s.dma ch).chain = false) :
    Completes (.dmaReadbackDone ch) s fun t =>
      t.num (Obj.chanStatus ch) = statusWord (if (s.dma ch).poison then 3 else 0) (s.dma ch).resends 0 ∧ (t.dma ch).phase = .idle ∧ t.mem = s.mem ∧
      Counted (Obj.objTransfers ch) s t := by
  obtain ⟨hstatus, hidle⟩ := dmaEnd_idle (s := s) (code := if (s.dma ch).poison then dcPoison else dcOk) ch.isLt 0 (.inl hregister)
  exact ⟨_, (exec_dmaReadbackDone (.inl hphase) hclean).trans (if_pos hsame), hstatus, hidle, dmaEnd_mem 0 hregister, dmaEnd_counted 0⟩

theorem readback_differs (hphase : (s.dma ch).phase = .readback) (hclean : dramPoisoned s.mem ((s.dma ch).dst + (s.dma ch).count - 64) 64 = false)
    (hdiffers : dramRead s.mem ((s.dma ch).dst + (s.dma ch).count - 64) 64 ≠ (s.dma ch).lastCopy) (hpoison : (s.dma ch).lastPoison = false) :
    Completes (.dmaReadbackDone ch) s fun t =>
      (t.dma ch).phase = .rewritten ∧ t.mem = dramWriteM s.mem ((s.dma ch).dst + (s.dma ch).count - 64) (s.dma ch).lastCopy ∧ t.objs = s.objs := by
  have hexec := exec_dmaReadbackDone (.inl hphase) hclean
  rw [if_neg hdiffers, if_pos hphase, hpoison, if_neg Bool.false_ne_true] at hexec
  exact ⟨_, hexec, congrArg DmaCh.phase (dma_modDma ch.isLt _), rfl, rfl⟩

theorem rewrite_differs (hphase : (s.dma ch).phase = .rewritten) (hclean : dramPoisoned s.mem ((s.dma ch).dst + (s.dma ch).count - 64) 64 = false)
    (hdiffers : dramRead s.mem ((s.dma ch).dst + (s.dma ch).count - 64) 64 ≠ (s.dma ch).lastCopy) :
    Completes (.dmaReadbackDone ch) s fun t =>
      t.num (Obj.chanStatus ch) = statusWord 7 (s.dma ch).resends 1 ∧ (t.dma ch).phase = .idle ∧ t.num (Obj.doneCount ch) = (s.dma ch).count - 64 := by
  have hexec := exec_dmaReadbackDone (.inr hphase) hclean
  rw [if_neg hdiffers, if_neg (by rw [hphase]; decide)] at hexec
  obtain ⟨hstatus, hidle⟩ := dmaEnd_idle (s := s.setNum (Obj.doneCount ch) ((s.dma ch).count - 64)) (code := dcReadback) ch.isLt 1 (.inr (by decide))
  exact ⟨_, hexec, hstatus, hidle, (dmaEnd_done 1).trans (State.num_setNum_self _ _ _)⟩

end

/-! ### Beats that fail (R449, R453) -/

/-- The code of a beat's error. -/
def beatCode : BeatError → Nat
  | .read => dcReadErr
  | .write => dcWriteErr
  | .tail => dcTailErr

theorem statusWord_parts {code : Nat} (hcode : code < 256) (resends indet : Nat) :
    statusWord code resends indet % 256 = code ∧ statusWord code resends indet / 256 % 256 = min resends 255 := by
  unfold statusWord
  omega

/-- A failing beat ends the transfer with its code, after the blocks before it and with bytes that nobody has determined. -/
theorem exec_dmaBeatError {s : State} {ch : Fin 8} (hphase : (s.dma ch).phase = .moving) (kind : BeatError) (done indet : Nat) : ∃ (u : State) (n : Nat),
    exec (.dmaBeatError ch kind done indet) s = .next (dmaEnd u ch (beatCode kind) n) ∧
    u.fab = (dmaTo s ch (min done ((s.dma ch).count - 64))).fab ∧ u.objs = (dmaTo s ch (min done ((s.dma ch).count - 64))).objs := by
  have hexec : exec (.dmaBeatError ch kind done indet) s = execDmaBeatError ch kind done indet s := rfl
  unfold execDmaBeatError at hexec
  dsimp only at hexec
  rw [if_neg (not_not_intro hphase)] at hexec
  cases kind <;> refine ⟨_, _, hexec, ?_, ?_⟩ <;> split_ifs <;> rfl

theorem beat_fails {s : State} {ch : Fin 8} {done : Nat} (hphase : (s.dma ch).phase = .moving) (hnone : s.num (Obj.doneCount ch) = 0)
    (hwhole : done % 64 = 0) (hroom : done + 64 ≤ (s.dma ch).count) (kind : BeatError) (indet : Nat) :
    Completes (.dmaBeatError ch kind done indet) s fun t =>
      t.num (Obj.chanStatus ch) % 256 = beatCode kind ∧ t.num (Obj.chanStatus ch) / 256 % 256 = min (s.dma ch).resends 255 ∧ (t.dma ch).phase = .idle ∧
      t.num (Obj.doneCount ch) = done ∧ Counted (Obj.objTransfers ch) s t := by
  obtain ⟨u, n, hexec, hfab, hobjs⟩ := exec_dmaBeatError hphase kind done indet
  have hbytes : min (min done ((s.dma ch).count - 64)) (s.dma ch).count = done := by omega
  obtain ⟨hkeeps, -, hdone, htransfers⟩ := dmaTo_moved ch.isLt s (min done ((s.dma ch).count - 64)) hnone (by rw [hbytes]; exact hwhole)
  have hcode : beatCode kind < 256 ∧ beatCode kind ≠ dcOk ∧ beatCode kind ≠ dcPoison := by cases kind <;> decide
  obtain ⟨hstatus, hidle⟩ := dmaEnd_idle (s := u) ch.isLt n (.inr hcode.2)
  have hresends : (u.dma ch).resends = (s.dma ch).resends := (congrArg DmaCh.resends (dma_congr hfab ch)).trans ((congrArg DmaCh.resends hkeeps).trans rfl)
  obtain ⟨hlow, hhigh⟩ := statusWord_parts hcode.1 (s.dma ch).resends n
  rw [hresends] at hstatus
  refine ⟨_, hexec, (congrArg (· % 256) hstatus).trans hlow, (congrArg (· / 256 % 256) hstatus).trans hhigh, hidle, ?_, ?_⟩
  · exact (dmaEnd_done n).trans ((State.num_congr hobjs _).trans (hdone.trans hbytes))
  · exact Counted.of_num ((State.num_congr hobjs _).trans htransfers) (dmaEnd_counted n)

/-! ### The fabric's lanes (R457) -/

section
variable {s : State} {lane : Fin 32} {r : Fin 28}

theorem fabricNak_unused (hunused : laneUsed s lane r = false) : exec (.fabricNak lane r) s = .next s := by
  have hexec : exec (.fabricNak lane r) s = execFabricNak lane r s := rfl
  unfold execFabricNak at hexec
  dsimp only at hexec
  rw [hunused, Bool.not_false, Bool.or_true, if_pos rfl] at hexec
  exact hexec

/-- The beat in flight of a requester's channel is sent again. -/
def beatResent (r : Nat) (s : State) : State := match channelOf r with
  | some ch => (s.bump Obj.objResends).modDma ch fun c => { c with resends := c.resends + 1 }
  | none => s.bump Obj.objResends

theorem beatResent_kept (r : Nat) (s : State) :
    (beatResent r s).fab.naks = s.fab.naks ∧ (beatResent r s).objs = (s.bump Obj.objResends).objs ∧ (beatResent r s).raised = s.raised := by
  unfold beatResent
  split
  · exact ⟨(congrArg Fabric.naks (State.bump_fab s Obj.objResends) : (s.bump Obj.objResends).fab.naks = s.fab.naks), rfl, State.bump_raised s _⟩
  · exact ⟨congrArg Fabric.naks (State.bump_fab s _), rfl, State.bump_raised s _⟩

theorem beatResent_resends {ch : Fin 8} {c : DmaCh} (hr : channelOf r = some ch.val) (s : State) (hc : s.dma ch = c) :
    ((beatResent r s).dma ch).resends = c.resends + 1 := by
  unfold beatResent
  rw [hr]
  refine (congrArg DmaCh.resends (dma_modDma ch.isLt _)).trans ?_
  rw [dma_congr (State.bump_fab s _), hc]

/-- The event of a block that failed on a lane. -/
def nakEvent (lane r : Nat) : Event := { source := 320 + lane, master := r, access := 3, syndrome := lane }

theorem exec_fabricNak (hserves : laneOut s lane = false) (hused : laneUsed s lane r = true) :
    exec (.fabricNak lane r) s =
      if vget s.fab.naks lane 0 + 1 ≤ 3 then
        .next (beatResent r ((s.raiseEv (nakEvent lane r)).setFab { s.fab with naks := vmod s.fab.naks lane fun _ => vget s.fab.naks lane 0 + 1 }))
      else .next (if (laneGroup lane).all (laneOut (laneRetire (s.raiseEv (nakEvent lane r)) lane)) then
        (laneRetire (s.raiseEv (nakEvent lane r)) lane).bump Obj.blocksFailed else beatResent r (laneRetire (s.raiseEv (nakEvent lane r)) lane)) := by
  have hexec : exec (.fabricNak lane r) s = execFabricNak lane r s := rfl
  unfold execFabricNak at hexec
  dsimp only at hexec
  rw [hserves, hused, if_neg (by decide)] at hexec
  exact hexec

theorem fabricNak_resends {ch : Fin 8} (hserves : laneOut s lane = false) (hused : laneUsed s lane r = true) (hfew : vget s.fab.naks lane 0 < 3) :
    Completes (.fabricNak lane r) s fun t =>
      vget t.fab.naks lane 0 = vget s.fab.naks lane 0 + 1 ∧ Counted Obj.objResends s t ∧ laneOut t lane = false ∧
      t.raised = s.raised ++ [{ source := 320 + lane, master := r, access := 3, syndrome := lane }] ∧
      (channelOf r = some ch.val → (t.dma ch).resends = (s.dma ch).resends + 1) := by
  obtain ⟨hnaks, hobjs, hraised⟩ := beatResent_kept r
    ((s.raiseEv (nakEvent lane r)).setFab { s.fab with naks := vmod s.fab.naks lane fun _ => vget s.fab.naks lane 0 + 1 })
  have hexec := exec_fabricNak hserves hused
  rw [if_pos (show vget s.fab.naks lane 0 + 1 ≤ 3 by omega)] at hexec
  have hbefore : ((s.raiseEv (nakEvent lane r)).setFab
    { s.fab with naks := vmod s.fab.naks lane fun _ => vget s.fab.naks lane 0 + 1 }).num Obj.objResends = s.num Obj.objResends := rfl
  refine ⟨_, hexec, ?_, ?_, ?_, hraised, fun hr => beatResent_resends hr _ rfl⟩
  · rw [hnaks]
    exact vget_vmod_self _ _ _ _ lane.isLt
  · exact (Counted.of_num hbefore (counted_bump Obj.objResends _)).trans_num (State.num_congr hobjs Obj.objResends)
  · unfold laneOut
    rw [State.num_congr hobjs, State.num_bump_other _ (by decide)]
    exact hserves

theorem lanesGone_kept (s : State) (lane : Fin 32) :
    (lanesGone s lane).num Obj.lanesFenced = s.num Obj.lanesFenced ∧ (lanesGone s lane).fab = s.fab := by
  refine ⟨?_, ?_⟩
  · unfold lanesGone
    dsimp only
    split
    · rfl
    · split
      · rfl
      · exact At.num_eq (fenceActuator_off (by unfold Off; decide) (by omega) s (At.self s) _)
  · exact (within_iff.mp (@lanesGone_frame [.objs, .chan, .dec, .players, .acts, .traces, .layout, .mem, .raised, .outs, .free] s (touch_of rfl) (touch_of rfl)
      (touch_of rfl) (touch_of rfl) (touch_of rfl) (touch_of rfl) (touch_of rfl) (touch_of rfl) (touch_of rfl) (touch_of rfl) (touch_of rfl) s lane
      (.refl _ s)) .fab (by decide))

theorem laneStop_stopped (s : State) (lane : Fin 32) : laneOut (laneStop s lane) lane = true ∧ (laneStop s lane).fab = s.fab := by
  have hset : bit ((s.setNum Obj.lanesFenced (setBit (s.num Obj.lanesFenced) lane)).num Obj.lanesFenced) lane = true := by
    rw [State.num_setNum_self]
    simp [bit, setBit]
  unfold laneStop
  dsimp only
  split
  · next hout => exact ⟨hout, rfl⟩
  · split
    · obtain ⟨hnum, hfab⟩ := lanesGone_kept (s.setNum Obj.lanesFenced (setBit (s.num Obj.lanesFenced) lane)) lane
      exact ⟨(congrArg (bit · lane) hnum).trans hset, hfab⟩
    · exact ⟨hset, rfl⟩

theorem laneRetire_retired {s : State} (hnew : (retiredIds s).contains (320 + lane.val) = false) :
    laneOut (laneRetire s lane) lane = true ∧ vget (laneRetire s lane).fab.naks lane 1 = 0 := by
  unfold laneRetire
  dsimp only
  rw [hnew, if_neg Bool.false_ne_true]
  obtain ⟨hout, hfab⟩ := laneStop_stopped ((recordRetirement s (320 + lane.val)).setFab
    { (recordRetirement s (320 + lane.val)).fab with naks := vmod (recordRetirement s (320 + lane.val)).fab.naks lane fun _ => 0 }) lane
  exact ⟨hout, (congrArg (fun f : Fabric => vget f.naks lane 1) hfab).trans (vget_vmod_self _ _ _ _ lane.isLt)⟩

theorem fabricNak_retires (hserves : laneOut s lane = false) (hused : laneUsed s lane r = true) (hmany : 3 ≤ vget s.fab.naks lane 0)
    (hnew : (retiredIds s).contains (320 + lane) = false) :
    Completes (.fabricNak lane r) s fun t => laneOut t lane = true ∧ vget t.fab.naks lane 1 = 0 := by
  obtain ⟨hout, hzero⟩ := laneRetire_retired (s := s.raiseEv (nakEvent lane r)) hnew
  refine ⟨_, (exec_fabricNak hserves hused).trans (if_neg (by omega)), ?_⟩
  generalize laneRetire (s.raiseEv (nakEvent lane r)) lane = u at *
  split
  · refine ⟨?_, by rw [State.bump_fab]; exact hzero⟩
    unfold laneOut
    rw [State.num_bump_other _ (by decide)]
    exact hout
  · obtain ⟨hnaks, hobjs, -⟩ := beatResent_kept r u
    refine ⟨?_, by rw [hnaks]; exact hzero⟩
    unfold laneOut
    rw [State.num_congr hobjs, State.num_bump_other _ (by decide)]
    exact hout

theorem fabricAck_foreign (beats : Nat) (hforeign : ∀ i : Fin 8, channelOf r ≠ some i.val) :
    Completes (.fabricAck lane r beats) s fun t => vget t.fab.naks lane 1 = 0 ∧ t.mem = s.mem ∧ t.objs = s.objs := by
  have hnone : channelOf r = none := by
    unfold channelOf
    refine if_neg fun hin => hforeign ⟨r - 3, by omega⟩ (if_pos hin)
  have hexec : exec (.fabricAck lane r beats) s = execFabricAck lane r beats s := rfl
  unfold execFabricAck at hexec
  rw [hnone] at hexec
  exact ⟨_, hexec, vget_vmod_self _ _ _ _ lane.isLt, rfl, rfl⟩

theorem fabricAck_ours {ch : Fin 8} (beats : Nat) (hr : channelOf r = some ch.val) (hphase : (s.dma ch).phase = .moving)
    (hnone : s.num (Obj.doneCount ch) = 0) (hwhole : (s.dma ch).count % 64 = 0) :
    Completes (.fabricAck lane r beats) s fun t =>
      vget t.fab.naks lane 1 = 0 ∧ t.num (Obj.doneCount ch) = min (64 * beats) (s.dma ch).count ∧
      ((s.dma ch).stop = true → 64 * beats < (s.dma ch).count → t.num (Obj.chanStatus ch) % 256 = 8 ∧ (t.dma ch).phase = .idle) ∧
      ((s.dma ch).stop = false → (t.dma ch).phase = .moving) := by
  let u := s.setFab { s.fab with naks := vmod s.fab.naks lane fun _ => 0 }
  have hexec : exec (.fabricAck lane r beats) s = execFabricAck lane r beats s := rfl
  unfold execFabricAck at hexec
  rw [hr] at hexec
  dsimp only at hexec
  rw [if_neg (show ¬(u.dma ch).phase ≠ .moving from not_not_intro hphase)] at hexec
  obtain ⟨hkeeps, hnaks, hdone, -⟩ := dmaTo_moved ch.isLt u (u.num (Obj.doneCount ch) + 64 * beats) hnone (by
    rw [show u.num (Obj.doneCount ch) = 0 from hnone, show u.dma ch = s.dma ch from rfl]
    omega)
  rw [show u.num (Obj.doneCount ch) + 64 * beats = 64 * beats by rw [show u.num (Obj.doneCount ch) = 0 from hnone]; omega] at hkeeps hnaks hdone hexec
  generalize dmaTo u ch (64 * beats) = v at *
  have hstop : (v.dma ch).stop = (s.dma ch).stop := (congrArg DmaCh.stop hkeeps).trans rfl
  have hcount : (v.dma ch).count = (s.dma ch).count := (congrArg DmaCh.count hkeeps).trans rfl
  have hlane : vget v.fab.naks lane 1 = 0 := by rw [hnaks]; exact vget_vmod_self _ _ _ _ lane.isLt
  refine ⟨_, hexec, ?_⟩
  rw [hstop, hcount, hdone, show u.dma ch = s.dma ch from rfl]
  split
  · next hends =>
    obtain ⟨hstatus, hidle⟩ := dmaEnd_idle (s := v) (code := dcAborted) ch.isLt 0 (.inr (by decide))
    refine ⟨by rw [dmaEnd_naks]; exact hlane, (dmaEnd_done 0).trans hdone, fun _ _ => ⟨?_, hidle⟩, fun hno => absurd (hno.symm.trans hends.1) nofun⟩
    rw [hstatus]
    exact (statusWord_parts (by decide) _ _).1
  · next hgoes =>
    exact ⟨hlane, hdone, fun h1 h2 => absurd ⟨h1, by omega⟩ hgoes, fun _ => ((congrArg DmaCh.phase hkeeps).trans rfl).trans hphase⟩

end

/-- Settles O58, clause by clause. -/
theorem dmaTransfersAndFabricLanes : Obligations.DmaTransfersAndFabricLanes := by
  unfold Obligations.DmaTransfersAndFabricLanes
  intro s who ch n done kind lane r beats indet
  refine ⟨dmaGo_answers, dmaChainGo_answers, dmaStop_answers, notifyClear_answers, fun hphase hstop hdram hclean => ?_, descriptor_lost, beats_acknowledged,
    fun hphase hmatched => readback_matched hphase hmatched.1 hmatched.2, fun hphase hdiffers => readback_differs hphase hdiffers.1 hdiffers.2,
    fun hphase hdiffers => rewrite_differs hphase hdiffers.1 hdiffers.2, fun hphase hnone hwhole hroom _ => ?_, fabricNak_unused, fabricNak_resends,
    fabricNak_retires, fabricAck_foreign beats, fun hours => fabricAck_ours beats hours.1 hours.2⟩
  · exact ⟨descriptor_starts hphase hstop hdram hclean, descriptor_waits hphase hstop hdram hclean⟩
  · cases kind
    · exact beat_fails hphase hnone hwhole hroom .read indet
    · exact beat_fails hphase hnone hwhole hroom .write indet
    · exact beat_fails hphase hnone hwhole hroom .tail indet

end Sys2Proof.Machine
end

section
/-!
PROOFS. A power state that is entered lies at POWER_CAP or above (R364 to R366): a device in state 3 whose POWER_CAP is 4 does not stay in state 3.
-/

namespace Sys2Proof.Machine

/-- The power state that an entry reports is never below POWER_CAP. -/
theorem enterPower_powerState (s : State) : (enterPower s 3).num Obj.powerState = max 3 (s.num Obj.powerCap) := by
  have hreported : (reportPower s 3).num Obj.powerState = max 3 (s.num Obj.powerCap) := by
    unfold reportPower
    dsimp only
    refine (At.num_eq (@settleEffective_at Obj.powerState _ ⟨by decide⟩ _ (At.self _))).trans ?_
    split
    · exact State.num_setNum_self _ _ _
    · exact State.num_setNum_self _ _ _
  unfold enterPower
  dsimp only
  rw [if_pos rfl]
  exact (At.num_eq (@retractLoaded_at Obj.powerState _ ⟨fun a => by unfold Obj.powerState Obj.driveState Key; omega⟩
    ⟨fun a => by unfold Obj.powerState Obj.retracts Key; omega⟩ _ (At.self _))).trans hreported

/-- A device in power state 3, woken for a command, whose POWER_CAP stands at 4. -/
def cappedDevice : State :=
  ((State.reset.setHost { State.reset.host with wake := true }).setNum Obj.powerState 3).setNum Obj.powerCap 4

/-- Refutes O52: the idle timeout in power state 3 enters state 3 again, but the state that is reported is not below POWER_CAP, which may be 4. -/
theorem not_resetsShutdownsAndPowerStates : ¬ Obligations.ResetsShutdownsAndPowerStates := by
  intro h
  have hstate : cappedDevice.num Obj.powerState = 3 := (State.num_setNum_other _ _ (by decide)).trans (State.num_setNum_self _ _ _)
  have hcap : cappedDevice.num Obj.powerCap = 4 := State.num_setNum_self _ _ _
  obtain ⟨-, -, -, -, -, -, -, -, -, -, hidle, -⟩ := h cappedDevice .a 1 1 0
  obtain ⟨t, hexec, -, -, -, hthree⟩ := hidle hstate rfl rfl
  have hrun : exec .ps3IdleTimeout cappedDevice = .next (enterPower cappedDevice 3) := by
    show execPs3IdleTimeout cappedDevice = _
    unfold execPs3IdleTimeout
    exact if_pos ⟨hstate, rfl, rfl⟩
  have hentered : t = enterPower cappedDevice 3 := Host.Outcome.next.inj (hexec.symm.trans hrun)
  rw [hentered, enterPower_powerState, hcap] at hthree
  exact absurd hthree (by decide)

end Sys2Proof.Machine
end

section
/-!
PROOFS. Doorbells, fetches and the ends of commands (R114, R129, R335, R336, R342 to R347, R356).
-/

namespace Sys2Proof.Machine

/-! ### Counters of the slots and the lock -/

/-- Object k is no count of slots, of held I/O slots or of lock entries, nor the longest stall. -/
abbrev OffSlots (k : Key) : Prop :=
  k ≠ Obj.slotsInUse ∧ k ≠ Obj.ioSlotsHeld 0 ∧ k ≠ Obj.ioSlotsHeld 1 ∧ k ≠ Obj.lockInUse ∧ k ≠ Obj.lockStallMaxUs

section
variable {k : Key} (hk : OffSlots k)

theorem countSlots_outs (s : State) : (countSlots s).outs = s.outs := rfl

theorem countSlots_fw (s : State) : (countSlots s).fw = s.fw := rfl

include hk

theorem countSlots_num (s : State) : (countSlots s).num k = s.num k := by
  obtain ⟨h1, h2, h3, h4, -⟩ := hk
  unfold countSlots
  dsimp only
  exact (State.num_setNum_other _ _ h4).trans ((State.num_setNum_other _ _ h3).trans ((State.num_setNum_other _ _ h2).trans (State.num_setNum_other _ _ h1)))

theorem freeSlot_num (s : State) (n : Nat) : (freeSlot s n).num k = s.num k := countSlots_num hk _

end

/-! ### A completion that is posted -/

section
variable {s u : State} {p : Port} {qid : Nat} {q : Cq}

theorem freeSlot_ctrl (s : State) (n : Nat) (p : Port) : (freeSlot s n).ctrl p = s.ctrl p := rfl

/-- The fields of a completion queue's controller that a completion reads. -/
theorem coalescing_congr {k k' : Controller} (h : k'.features = k.features) (qid vector : Nat) : coalescing k' qid vector = coalescing k qid vector := by
  unfold coalescing
  rw [h]

/-- A queue that holds back a count of completions since a tick. -/
def Cq.holding (q : Cq) (held tick : Nat) : Cq := { q with held := held, heldTick := tick }

/-- A controller with one of its completion queues replaced. -/
def Controller.putCq (k : Controller) (qid : Nat) (q : Cq) : Controller := { k with cqs := SMap.put k.cqs qid q }

/-- What the signalling of a queue leaves: its interrupt, or the count of the completions that it holds back. -/
inductive Signals (s t : State) (p : Port) (qid : Nat) (q : Cq) : Prop
  | quiet (h : q.interrupts = false) (ht : t = s)
  | interrupts (h : q.interrupts = true)
      (hnow : coalescing (s.ctrl p) qid q.vector = none ∨ ∃ n u, coalescing (s.ctrl p) qid q.vector = some (n, u) ∧
        (n ≤ q.held + 1 ∨ u * 2500 ≤ s.tick - if q.held = 0 then s.tick else q.heldTick))
      (ht : t = (s.modCtrl p (·.putCq qid (q.holding 0 0))).emit (.interrupt p q.vector))
  | holds (n u : Nat) (h : q.interrupts = true) (hsome : coalescing (s.ctrl p) qid q.vector = some (n, u))
      (hlater : ¬(n ≤ q.held + 1 ∨ u * 2500 ≤ s.tick - if q.held = 0 then s.tick else q.heldTick))
      (ht : t = s.modCtrl p (·.putCq qid (q.holding (q.held + 1) (if q.held = 0 then s.tick else q.heldTick))))

theorem signals (s : State) (p : Port) (qid : Nat) (q : Cq) : Signals s (signal s p qid q) p qid q := by
  cases hint : q.interrupts with
  | false => exact .quiet hint (by unfold signal; rw [hint]; rfl)
  | true =>
    have hon : ¬(!q.interrupts) = true := by rw [hint]; decide
    cases hco : coalescing (s.ctrl p) qid q.vector with
    | none =>
      refine .interrupts hint (.inl hco) ?_
      unfold signal
      dsimp only
      rw [if_neg hon, hco]
      exact rfl
    | some x =>
      obtain ⟨n, u⟩ := x
      by_cases hnow : n ≤ q.held + 1 ∨ u * 2500 ≤ s.tick - if q.held = 0 then s.tick else q.heldTick
      · refine .interrupts hint (.inr ⟨n, u, hco, hnow⟩) ?_
        unfold signal
        dsimp only
        rw [if_neg hon, hco]
        exact if_pos hnow
      · refine .holds n u hint hco hnow ?_
        unfold signal
        dsimp only
        rw [if_neg hon, hco]
        exact if_neg hnow

theorem signals_objs {t : State} (h : Signals s t p qid q) : t.objs = s.objs ∧ t.fw = s.fw ∧ t.host.slots = s.host.slots := by
  cases h with
  | quiet _ ht => rw [ht]; exact ⟨rfl, rfl, rfl⟩
  | interrupts _ _ ht => rw [ht]; exact ⟨rfl, rfl, rfl⟩
  | holds _ _ _ _ _ ht => rw [ht]; exact ⟨rfl, rfl, rfl⟩

theorem signals_num {t : State} (h : Signals s t p qid q) (k : Key) : t.num k = s.num k := State.num_congr (signals_objs h).1 k

/-- What posting a completion leaves: an advanced queue, the completion, its count and its signal; the slot is freed. -/
theorem postNow_signals (s : State) (p : Port) (qid : Nat) (q : Cq) (x : Completion) : ∃ v,
    Signals ((((s.modCtrl p (·.putCq qid { q with tail := (q.tail + 1) % q.size })).emit
      (.completion p qid x.cid x.sct x.sc x.dw0 x.dw1)).bump (Obj.commands (portNo p)))) v p qid { q with tail := (q.tail + 1) % q.size } ∧
    postNow s p qid q x = match x.slot with
      | some n => freeSlot v n
      | none => v :=
  ⟨_, signals _ p qid _, rfl⟩

theorem coalescing_time {k : Controller} {vector n y : Nat} (h : coalescing k qid vector = some (n, y)) : y ≠ 0 := by
  unfold coalescing at h
  dsimp only at h
  split at h
  · cases h
  · next hno =>
    cases h
    exact fun h0 => hno (.inr (.inl h0))

/-- Before the aggregation time has run out, with room for more, no interrupt is due. -/
theorem signal_held_back {w : State} {n y : Nat} (htick : w.tick = s.num Obj.tick) (hfew : q.held + 1 < n) (hheld : q.held ≠ 0) (hy : y ≠ 0)
    (hearly : s.num Obj.tick < q.heldTick + y * 2500) : ¬(n ≤ q.held + 1 ∨ y * 2500 ≤ w.tick - if q.held = 0 then w.tick else q.heldTick) := by
  rw [if_neg hheld, htick]
  omega

/-- A completion posted from a state that agrees with s on what the signal reads. -/
theorem postNow_posted (houts : u.outs = s.outs) (htick : u.num Obj.tick = s.num Obj.tick) (hfeatures : (u.ctrl p).features = (s.ctrl p).features)
    (x : Completion) : Posted s (postNow u p qid q x) p qid q x := by
  obtain ⟨v, hsignals, hpost⟩ := postNow_signals u p qid q x
  have hv : (postNow u p qid q x).outs = v.outs ∧ (postNow u p qid q x).ctrl p = v.ctrl p := by
    rw [hpost]
    cases x.slot <;> exact ⟨rfl, rfl⟩
  generalize hw : (((u.modCtrl p (·.putCq qid { q with tail := (q.tail + 1) % q.size })).emit
      (.completion p qid x.cid x.sct x.sc x.dw0 x.dw1)).bump (Obj.commands (portNo p))) = w at hsignals
  have hwouts : w.outs = .completion p qid x.cid x.sct x.sc x.dw0 x.dw1 :: s.outs := by
    rw [← hw, State.bump_outs, ← houts]
    rfl
  have hwctrl : w.ctrl p = (u.ctrl p).putCq qid { q with tail := (q.tail + 1) % q.size } := by
    rw [← hw, ctrl_congr (State.bump_host _ _)]
    exact ctrl_modCtrl u p _
  have hwtick : w.tick = s.num Obj.tick := by
    rw [← hw, ← htick]
    exact State.num_bump_other _ (by cases p <;> decide)
  have hwco : coalescing (w.ctrl p) qid q.vector = coalescing (s.ctrl p) qid q.vector := by
    rw [hwctrl]
    exact coalescing_congr hfeatures _ _
  have hwq : SMap.find (w.ctrl p).cqs qid = some { q with tail := (q.tail + 1) % q.size } := by
    rw [hwctrl]
    exact SMap.find_put_self _ _ _
  have hput (held tick : Nat) : SMap.find (((w.modCtrl p (·.putCq qid (Cq.holding { q with tail := (q.tail + 1) % q.size } held tick))).ctrl p).cqs) qid =
      some { q with tail := (q.tail + 1) % q.size, held := held, heldTick := tick } := by
    rw [ctrl_modCtrl]
    exact SMap.find_put_self _ _ _
  unfold Posted
  dsimp only
  rw [hv.1, hv.2]
  cases hsignals with
  | quiet hint ht =>
    have hno : q.interrupts = false := hint
    rw [ht, hwouts]
    refine ⟨fun _ => ⟨rfl, hwq⟩, fun h => absurd (hno.symm.trans h) nofun, fun _ _ h => absurd (hno.symm.trans h) nofun⟩
  | interrupts hint hnow ht =>
    have hyes : q.interrupts = true := hint
    have houtsT : v.outs = .interrupt p q.vector :: .completion p qid x.cid x.sct x.sc x.dw0 x.dw1 :: s.outs := by
      rw [ht, ← hwouts]
      rfl
    have hheld : SMap.find (v.ctrl p).cqs qid = some { q with tail := (q.tail + 1) % q.size, held := 0, heldTick := 0 } := by
      rw [ht]
      exact hput 0 0
    refine ⟨fun h => absurd (hyes.symm.trans h) nofun, fun _ _ => ⟨houtsT, hheld⟩, fun n y _ hsome => ⟨fun _ => ⟨houtsT, hheld⟩, fun hfew hsome0 hearly => ?_⟩⟩
    obtain hnone | ⟨n', y', hsome', hnow⟩ := hnow
    · exact absurd ((hwco.symm.trans hnone).symm.trans hsome) nofun
    · obtain ⟨rfl, rfl⟩ := Prod.mk.inj (Option.some.inj (hsome.symm.trans (hwco.symm.trans hsome')))
      exact absurd hnow (signal_held_back hwtick hfew hsome0 (coalescing_time hsome) hearly)
  | holds n y hint hsome hlater ht =>
    have hyes : q.interrupts = true := hint
    have hsome0 : coalescing (s.ctrl p) qid q.vector = some (n, y) := hwco.symm.trans hsome
    refine ⟨fun h => absurd (hyes.symm.trans h) nofun, fun _ hnone => absurd (hnone.symm.trans hsome0) nofun, fun n' y' _ hsome' => ?_⟩
    obtain ⟨rfl, rfl⟩ := Prod.mk.inj (Option.some.inj (hsome0.symm.trans hsome'))
    refine ⟨fun hnow => absurd (.inl hnow) hlater, fun _ hheld _ => ⟨by rw [ht, ← hwouts]; rfl, ?_⟩⟩
    have hcount := hput (q.held + 1) (if q.held = 0 then w.tick else q.heldTick)
    rw [ht]
    refine hcount.trans ?_
    rw [if_neg hheld]

end

/-- What was posted from u has been posted from every state that agrees with it on what the posting reads. -/
theorem Posted.from {s u t : State} {p : Port} {qid : Nat} {q : Cq} {x : Completion} (h : Posted u t p qid q x) (houts : u.outs = s.outs)
    (htick : u.num Obj.tick = s.num Obj.tick) (hfeatures : (u.ctrl p).features = (s.ctrl p).features) : Posted s t p qid q x := by
  have hco := coalescing_congr hfeatures qid q.vector
  unfold Posted at h ⊢
  dsimp only at h ⊢
  rw [houts, htick, hco] at h
  exact h

/-! ### What the end of a command leaves -/

/-- The end of commands moves completion queues, slots and their counts only. -/
structure Ends (s t : State) : Prop where
  ctrls : ∀ r, t.ctrl r = { s.ctrl r with cqs := (t.ctrl r).cqs }
  fw : t.fw = s.fw
  lastPort : t.host.lastPort = s.host.lastPort
  num : ∀ k, OffSlots k → k ≠ Obj.commands 0 → k ≠ Obj.commands 1 → t.num k = s.num k

namespace Ends

variable {s t u : State}

theorem refl (s : State) : Ends s s := ⟨fun _ => rfl, rfl, rfl, fun _ _ _ _ => rfl⟩

theorem trans (h : Ends s t) (h' : Ends t u) : Ends s u :=
  ⟨fun r => (h'.ctrls r).trans (congrArg (fun k : Controller => { k with cqs := (u.ctrl r).cqs }) (h.ctrls r)), h'.fw.trans h.fw,
    h'.lastPort.trans h.lastPort, fun k hk h0 h1 => (h'.num k hk h0 h1).trans (h.num k hk h0 h1)⟩

theorem setSlots (h : Ends s t) (l : SMap CmdSlot) : Ends s (t.setHost { t.host with slots := l }) := ⟨h.ctrls, h.fw, h.lastPort, h.num⟩

theorem counts (h : Ends s t) : Ends s (countSlots t) :=
  ⟨h.ctrls, h.fw, h.lastPort, fun k hk h0 h1 => (countSlots_num hk t).trans (h.num k hk h0 h1)⟩

theorem frees (h : Ends s t) (n : Nat) : Ends s (freeSlot t n) := (h.setSlots _).counts

theorem putCq (h : Ends s t) (p : Port) (qid : Nat) (q : Cq) : Ends s (t.modCtrl p (·.putCq qid q)) := by
  refine ⟨fun r => ?_, h.fw, h.lastPort, h.num⟩
  by_cases hr : p = r
  · subst hr
    rw [ctrl_modCtrl]
    exact (congrArg (fun k : Controller => { k with cqs := SMap.put (t.ctrl p).cqs qid q }) (h.ctrls p)).trans rfl
  · rw [ctrl_modCtrl_other t _ hr]
    exact h.ctrls r

theorem congr (h : Ends s t) (hhost : u.host = t.host) (hfw : u.fw = t.fw) (hobjs : u.objs = t.objs) : Ends s u :=
  ⟨fun r => by rw [ctrl_congr hhost]; exact h.ctrls r, hfw.trans h.fw, (congrArg HostIf.lastPort hhost).trans h.lastPort,
    fun k hk h0 h1 => (State.num_congr hobjs k).trans (h.num k hk h0 h1)⟩

end Ends

theorem releaseOne_num {k : Key} (hk : OffSlots k) (s : State) (n : Nat) : (releaseOne s n).num k = s.num k := by
  unfold releaseOne
  split
  · rfl
  · dsimp only
    split
    · rfl
    · exact (countSlots_num hk _).trans (State.num_setNum_other _ _ hk.2.2.2.2)

theorem releaseOne_ends (s : State) (n : Nat) : Ends s (releaseOne s n) := by
  unfold releaseOne
  split
  · exact .refl s
  · next c _ =>
    dsimp only
    split
    · exact .refl s
    · have hslots := (Ends.refl s).setSlots (SMap.put s.host.slots n { c with released := true })
      refine (Ends.counts (t := ((putSlot s n { c with released := true }).setHost _).setNum Obj.lockStallMaxUs _) ?_)
      exact ⟨(hslots.setSlots _).ctrls, rfl, rfl, fun k hk _ _ => State.num_setNum_other _ _ hk.2.2.2.2⟩

/-! ### A command's release and its end -/

section
variable {α : Type} {m : SMap α} {k : Nat}

theorem put_put (x y : α) : ∀ m : SMap α, SMap.put (SMap.put m k x) k y = SMap.put m k y
  | [] => by simp [SMap.put]
  | (j, v) :: r => by
    simp only [SMap.put]
    split
    · simp [SMap.put]
    · split
      · simp [SMap.put]
      · next hne hlt =>
        rw [SMap.put, if_neg hne, if_neg hlt, put_put x y r]

theorem above_map (f : Nat × α → α) : ∀ {m : SMap α}, SMap.above k m = true → SMap.above k (m.map fun e => (e.1, f e)) = true
  | [], _ => rfl
  | (j, v) :: r, h => by
    simp only [SMap.above, List.map_cons, Bool.and_eq_true] at h ⊢
    exact ⟨h.1, above_map f h.2⟩

theorem wf_map (f : Nat × α → α) : ∀ {m : SMap α}, SMap.wf m = true → SMap.wf (m.map fun e => (e.1, f e)) = true
  | [], _ => rfl
  | (j, v) :: r, h => by
    simp only [SMap.wf, List.map_cons, Bool.and_eq_true] at h ⊢
    exact ⟨above_map f h.1, wf_map f h.2⟩

end

section
variable {s : State} {n : Nat} {c : CmdSlot}

/-- Every I/O command waits at the lock or has been checked for a reservation conflict. -/
def Settled (s : State) : Prop := ∀ e ∈ s.host.slots, e.2.io = true → e.2.stalled = true ∨ e.2.checked = true

theorem uncheckedSlot_none (h : Settled s) : uncheckedSlot s = none := by
  unfold uncheckedSlot
  refine List.find?_eq_none.mpr fun e he hopen => ?_
  simp only [Bool.and_eq_true, Bool.not_eq_true'] at hopen
  obtain ⟨⟨hio, hruns⟩, hopen⟩ := hopen
  obtain h1 | h1 := h e he hio
  · exact absurd (hruns.symm.trans h1) nofun
  · exact absurd (hopen.symm.trans h1) nofun

theorem settled_of_none (h : uncheckedSlot s = none) : Settled s := by
  unfold uncheckedSlot at h
  intro e he hio
  have hno := List.find?_eq_none.mp h e he
  rw [hio] at hno
  cases hst : e.2.stalled with
  | true => exact .inl rfl
  | false =>
    cases hch : e.2.checked with
    | true => exact .inr rfl
    | false => exact absurd (by rw [hst, hch]; rfl) hno

theorem settleLock_settled (fuel : Nat) (h : Settled s) : settleLock fuel s = s := by
  cases fuel with
  | zero => rfl
  | succ fuel =>
    unfold settleLock
    rw [uncheckedSlot_none h]

/-- The slots after a release: nobody waits for that command any more. -/
theorem releaseOne_slots (hslot : s.slot n = some c) (hheld : c.released = false) :
    (releaseOne s n).host.slots = (SMap.put s.host.slots n { c with released := true }).map fun e => (e.1, (unwait s.tick c.admission e.2).1) := by
  unfold releaseOne
  rw [hslot]
  dsimp only
  rw [hheld, if_neg Bool.false_ne_true]
  exact List.map_map

theorem releaseOne_kept (s : State) (n : Nat) : (releaseOne s n).outs = s.outs ∧ ∀ r, (releaseOne s n).ctrl r = s.ctrl r := by
  unfold releaseOne
  split
  · exact ⟨rfl, fun _ => rfl⟩
  · dsimp only
    split
    · exact ⟨rfl, fun _ => rfl⟩
    · exact ⟨rfl, fun _ => rfl⟩

/-- After a release the lock is settled when every other command is checked or keeps something to wait for. -/
theorem settled_releaseOne (hslot : s.slot n = some c) (hheld : c.released = false)
    (hall : ∀ e ∈ SMap.put s.host.slots n { c with released := true }, e.2.io = true →
      e.2.checked = true ∨ (e.2.stalled = true ∧ ∃ w ∈ e.2.waits, w ≠ c.admission)) : Settled (releaseOne s n) := by
  unfold Settled
  rw [releaseOne_slots hslot hheld]
  intro e he hio
  obtain ⟨d, hd, rfl⟩ := List.mem_map.mp he
  obtain hchecked | ⟨hstalled, w, hw, hne⟩ := hall d hd hio
  · exact .inr hchecked
  · refine .inl ?_
    show (d.2.stalled && !(d.2.waits.filter (· ≠ c.admission)).isEmpty) = true
    have hmem : w ∈ d.2.waits.filter (· ≠ c.admission) := List.mem_filter.mpr ⟨hw, decide_eq_true hne⟩
    rw [hstalled, List.isEmpty_eq_false_iff_exists_mem.mpr ⟨w, hmem⟩]
    rfl

theorem settled_of_quiet (hquiet : LockQuiet s) (hslot : s.slot n = some c) (hheld : c.released = false) : Settled (releaseOne s n) := by
  refine settled_releaseOne hslot hheld fun e he hio => .inl ?_
  obtain rfl | he := mem_of_mem_put he
  · exact (hquiet (n, c) (entry_of_find hslot)).2 hio
  · exact (hquiet e he).2 hio

theorem complete_settled (hslot : s.slot n = some c) (hsettled : Settled (releaseOne s n)) (sct sc dw0 dw1 : Nat) :
    complete s n sct sc dw0 dw1 = postCompletion (releaseOne s n) c.port c.cq ⟨c.cmd.cid, sct, sc, dw0, dw1, some n⟩ := by
  unfold complete
  rw [hslot]
  dsimp only
  rw [releaseEntry, settleLock_settled 1024 hsettled]

theorem postCompletion_room {p : Port} {qid : Nat} {q : Cq} (hroom : CqRoom s p qid q) (x : Completion) :
    postCompletion s p qid x = postNow s p qid q x := by
  obtain ⟨hthawed, hq, hfull, hnone⟩ := hroom
  unfold postCompletion
  rw [hq]
  dsimp only
  rw [hthawed, hfull, hnone, if_neg (by decide)]

theorem CqRoom.congr {t : State} {p : Port} {qid : Nat} {q : Cq} (hroom : CqRoom s p qid q) (hfw : t.fw = s.fw) (hctrl : (t.ctrl p).cqs = (s.ctrl p).cqs) :
    CqRoom t p qid q := by
  obtain ⟨hthawed, hq, hfull, hnone⟩ := hroom
  exact ⟨(congrArg Firmware.frozen hfw).trans hthawed, hctrl ▸ hq, hfull, hnone⟩

theorem postNow_slots (u : State) (p : Port) (qid : Nat) (q : Cq) (x : Completion) (n : Nat) (hx : x.slot = some n) :
    (postNow u p qid q x).host.slots = SMap.erase u.host.slots n := by
  obtain ⟨v, hsignals, hpost⟩ := postNow_signals u p qid q x
  rw [hpost, hx]
  have hslots := (signals_objs hsignals).2.2
  rw [State.bump_host] at hslots
  exact congrArg (SMap.erase · n) hslots

theorem postNow_ends (u : State) (p : Port) (qid : Nat) (q : Cq) (x : Completion) : Ends u (postNow u p qid q x) := by
  obtain ⟨v, hsignals, hpost⟩ := postNow_signals u p qid q x
  have hcommands : portNo p = 0 ∨ portNo p = 1 := by cases p <;> decide
  have hput := (Ends.refl u).putCq p qid { q with tail := (q.tail + 1) % q.size }
  have hbumped : Ends u ((((u.modCtrl p (·.putCq qid { q with tail := (q.tail + 1) % q.size })).emit
      (.completion p qid x.cid x.sct x.sc x.dw0 x.dw1)).bump (Obj.commands (portNo p)))) := by
    refine ⟨fun r => ?_, (State.bump_fw _ _).trans hput.fw, (congrArg HostIf.lastPort (State.bump_host _ _)).trans hput.lastPort, fun k hk h0 h1 => ?_⟩
    · rw [ctrl_congr (State.bump_host _ _)]
      exact hput.ctrls r
    · refine (State.num_bump_other _ ?_).trans (hput.num k hk h0 h1)
      obtain h | h := hcommands <;> rw [h]
      · exact h0
      · exact h1
  generalize (((u.modCtrl p (·.putCq qid { q with tail := (q.tail + 1) % q.size })).emit
      (.completion p qid x.cid x.sct x.sc x.dw0 x.dw1)).bump (Obj.commands (portNo p))) = w at hsignals hbumped
  have hv : Ends u v := by
    cases hsignals with
    | quiet _ ht => exact ht ▸ hbumped
    | interrupts _ _ ht => exact ht ▸ (hbumped.putCq p qid _).congr rfl rfl rfl
    | holds _ _ _ _ _ ht => exact ht ▸ hbumped.putCq p qid _
  rw [hpost]
  cases x.slot with
  | none => exact hv
  | some n => exact hv.frees n

theorem postNow_counted (u : State) (p : Port) (qid : Nat) (q : Cq) (x : Completion) : Counted (Obj.commands (portNo p)) u (postNow u p qid q x) := by
  obtain ⟨v, hsignals, hpost⟩ := postNow_signals u p qid q x
  have hk : OffSlots (Obj.commands (portNo p)) := by cases p <;> decide
  have hv : Counted (Obj.commands (portNo p)) u v := by
    refine Counted.trans_num (Counted.of_num ?_ (counted_bump (Obj.commands (portNo p)) _)) (signals_num hsignals _)
    rfl
  rw [hpost]
  cases x.slot with
  | none => exact hv
  | some n => exact hv.trans_num (freeSlot_num hk v n)

theorem postCompletion_ends (u : State) (p : Port) (qid : Nat) (x : Completion) : Ends u (postCompletion u p qid x) := by
  unfold postCompletion
  split
  · cases x.slot with
    | none => exact .refl u
    | some n => exact (Ends.refl u).frees n
  · split
    · exact (Ends.refl u).putCq p qid _
    · exact postNow_ends _ _ _ _ _

theorem settleLock_ends (fuel : Nat) (u : State) : Ends u (settleLock fuel u) := by
  induction fuel generalizing u with
  | zero => exact .refl u
  | succ fuel ih =>
    unfold settleLock
    split
    · exact .refl u
    · next n c _ =>
      have hput : Ends u (putSlot u n { c with checked := true }) := (Ends.refl u).setSlots _
      dsimp only
      split
      · exact (hput.trans ((releaseOne_ends _ _).trans (postCompletion_ends _ _ _ _))).trans (ih _)
      · exact hput.trans (ih _)

theorem complete_ends (u : State) (n sct sc dw0 dw1 : Nat) : Ends u (complete u n sct sc dw0 dw1) := by
  unfold complete
  split
  · exact .refl u
  · exact ((releaseOne_ends u n).trans (settleLock_ends 1024 _)).trans (postCompletion_ends _ _ _ _)

/-- A command that ends while the lock is settled and its queue has room. -/
theorem complete_posted {cq : Cq} (hslot : s.slot n = some c) (hheld : c.released = false) (hsettled : Settled (releaseOne s n))
    (hwf : SMap.wf s.host.slots = true) (hroom : CqRoom s c.port c.cq cq) (sct sc dw0 dw1 : Nat) :
    Posted s (complete s n sct sc dw0 dw1) c.port c.cq cq ⟨c.cmd.cid, sct, sc, dw0, dw1, none⟩ ∧ (complete s n sct sc dw0 dw1).slot n = none ∧
    Counted (Obj.commands (portNo c.port)) s (complete s n sct sc dw0 dw1) := by
  obtain ⟨houts, hctrl⟩ := releaseOne_kept s n
  have hends := releaseOne_ends s n
  have hnew : CqRoom (releaseOne s n) c.port c.cq cq := hroom.congr hends.fw (congrArg Controller.cqs (hctrl c.port))
  rw [complete_settled hslot hsettled, postCompletion_room hnew]
  refine ⟨?_, ?_, ?_⟩
  · exact postNow_posted houts (hends.num _ (by decide) (by decide) (by decide)) (congrArg Controller.features (hctrl c.port)) _
  · rw [State.slot, postNow_slots _ _ _ _ _ n rfl, find_erase, if_pos rfl]
    rw [releaseOne_slots hslot hheld]
    exact wf_map (fun e => (unwait s.tick c.admission e.2).1) (SMap.wf_put hwf)
  · exact Counted.of_num (releaseOne_num (by cases c.port <;> decide) s n) (postNow_counted _ _ _ _ _)

theorem complete_frozen {cq : Cq} (hslot : s.slot n = some c) (hsettled : Settled (releaseOne s n)) (hfrozen : s.fw.frozen = true)
    (hcq : SMap.find (s.ctrl c.port).cqs c.cq = some cq) (sct sc dw0 dw1 : Nat) :
    (complete s n sct sc dw0 dw1).outs = s.outs ∧
    SMap.find ((complete s n sct sc dw0 dw1).ctrl c.port).cqs c.cq = some { cq with waiting := cq.waiting ++ [⟨c.cmd.cid, sct, sc, dw0, dw1, some n⟩] } := by
  obtain ⟨houts, hctrl⟩ := releaseOne_kept s n
  have hpost : postCompletion (releaseOne s n) c.port c.cq ⟨c.cmd.cid, sct, sc, dw0, dw1, some n⟩ =
      (releaseOne s n).modCtrl c.port (·.putCq c.cq { cq with waiting := cq.waiting ++ [⟨c.cmd.cid, sct, sc, dw0, dw1, some n⟩] }) := by
    unfold postCompletion
    rw [hctrl, hcq]
    dsimp only
    rw [(releaseOne_ends s n).fw, hfrozen, if_pos (by rfl)]
    rfl
  rw [complete_settled hslot hsettled, hpost, ctrl_modCtrl]
  exact ⟨houts, SMap.find_put_self _ _ _⟩

end

/-! ### A fetch (R343 to R347) -/

section
variable {s u : State} {p : Port} {qid n : Nat} {q : Sq} {cmd : SqEntry} {c : CmdSlot} {l : SMap CmdSlot}

/-- A command that has just entered the table, in no conflict with a reservation, is checked at once unless it waits at the lock. -/
theorem settleLock_entered (hslots : u.host.slots = SMap.put l n c) (hl : ∀ e ∈ l, e.2.io = true → e.2.stalled = true ∨ e.2.checked = true)
    (hfree : reservationOf u c.cmd.nsid = Reservation.blank) : ∃ b,
    settleLock 1024 u = u.setHost { u.host with slots := SMap.put l n { c with checked := b } } ∧ (c.io = true → c.stalled = true ∨ b = true) := by
  by_cases hsettled : Settled u
  · refine ⟨c.checked, (settleLock_settled 1024 hsettled).trans ?_, hsettled (n, c) (hslots ▸ mem_put_self)⟩
    show u = u.setHost { u.host with slots := SMap.put l n c }
    rw [← hslots]
    rfl
  · obtain ⟨⟨m, d⟩, hfind⟩ : ∃ e, uncheckedSlot u = some e := Option.ne_none_iff_exists'.mp fun h => hsettled (settled_of_none h)
    have hopen := List.find?_some hfind
    simp only [Bool.and_eq_true, Bool.not_eq_true'] at hopen
    obtain ⟨⟨hio, hruns⟩, hunchecked⟩ := hopen
    have hmem : (m, d) ∈ SMap.put l n c := hslots ▸ List.mem_of_find?_eq_some hfind
    obtain hnew | hold := mem_of_mem_put hmem
    · cases hnew
      refine ⟨true, ?_, fun _ => .inr rfl⟩
      have hconflict : resConflict (putSlot u n { c with checked := true }) c = false := by
        have hblank : reservationOf (putSlot u n { c with checked := true }) c.cmd.nsid = Reservation.blank := hfree
        unfold resConflict
        dsimp only
        rw [hblank]
        split
        · rfl
        · split <;> rfl
      have hput : putSlot u n { c with checked := true } = u.setHost { u.host with slots := SMap.put l n { c with checked := true } } := by
        rw [putSlot, hslots, put_put]
      have hdone : Settled (u.setHost { u.host with slots := SMap.put l n { c with checked := true } }) := by
        intro e he hio
        obtain rfl | he := mem_of_mem_put he
        · exact .inr rfl
        · exact hl e he hio
      unfold settleLock
      rw [hfind]
      dsimp only
      rw [hconflict, if_neg Bool.false_ne_true, hput]
      exact settleLock_settled 1023 hdone
    · obtain h | h := hl _ hold hio
      · exact absurd (hruns.symm.trans h) nofun
      · exact absurd (hunchecked.symm.trans h) nofun

theorem flushCover_kept (s : State) (c : CmdSlot) : ∃ media waits, flushCover s c = { c with media := media, waits := waits } ∧ ∀ w ∈ c.waits, w ∈ waits := by
  unfold flushCover
  split
  · exact ⟨_, _, rfl, fun w hw => List.mem_append_left _ hw⟩
  · exact ⟨c.media, c.waits, rfl, fun _ hw => hw⟩

theorem flushCover_of {x : CmdSlot} (h : flushCover s c = x) : ∃ media waits, x = { c with media := media, waits := waits } ∧ ∀ w ∈ c.waits, w ∈ waits :=
  h ▸ flushCover_kept s c

/-- The entry of a command that is fetched now. -/
structure Fetched (s : State) (p : Port) (qid : Nat) (q : Sq) (cmd : SqEntry) (x : CmdSlot) : Prop where
  span : x.io = true → (x.kind, x.lba, x.count) = spanOf cmd
  cmd : x.cmd = cmd
  port : x.port = p
  cq : x.cq = q.cq
  io : x.io = decide (qid ≠ 0)
  admission : x.admission = s.num Obj.admissionSeq + 1
  unreleased : x.released = false
  stalled : x.stalled = !(lockWaits s x).isEmpty
  waits : ∀ w ∈ lockWaits s x, w ∈ x.waits

/-- A command that is taken into a slot: what its queue, its slot and the counters are then. -/
structure TakenIn (s : State) (p : Port) (qid : Nat) (q : Sq) (cmd : SqEntry) (x : CmdSlot) (u : State) : Prop where
  slots : u.host.slots = SMap.put s.host.slots (slotNumber s p (decide (qid ≠ 0))) x
  ctrls : ∀ r, u.ctrl r = (advanceSq s p qid q).ctrl r
  reservations : u.host.reservations = s.host.reservations
  lastPort : qid ≠ 0 → u.host.lastPort = p
  outs : u.outs = s.outs
  fw : u.fw = s.fw
  tick : u.num Obj.tick = s.num Obj.tick
  admitted : Counted Obj.admissionSeq s u
  stalls : if lockStalls s x = [] then u.num Obj.lockStalls = s.num Obj.lockStalls else Counted Obj.lockStalls s u

theorem nextAdmission_taken (s : State) (p : Port) (qid : Nat) (q : Sq) :
    let a := (nextAdmission (advanceSq s p qid q)).2
    a.host = (advanceSq s p qid q).host ∧ a.outs = s.outs ∧ a.fw = s.fw ∧ a.num Obj.tick = s.num Obj.tick ∧
    a.num Obj.lockStalls = s.num Obj.lockStalls ∧ Counted Obj.admissionSeq s a :=
  ⟨State.bump_host _ _, State.bump_outs _ _, State.bump_fw _ _, State.num_bump_other _ (by decide), State.num_bump_other _ (by decide),
    Counted.of_num rfl (counted_bump Obj.admissionSeq (advanceSq s p qid q))⟩

/-- The state in which a fetched command's slot is filled. -/
def slotFilled (b : State) (p : Port) (io : Bool) (n : Nat) (x : CmdSlot) : State :=
  countSlots (if io then slotTaken (putSlot b n x) p else putSlot b n x)

theorem slotFilled_host (b : State) (p : Port) (io : Bool) (n : Nat) (x : CmdSlot) :
    (slotFilled b p io n x).host.slots = SMap.put b.host.slots n x ∧ (slotFilled b p io n x).host.reservations = b.host.reservations ∧
    (∀ r, (slotFilled b p io n x).ctrl r = b.ctrl r) ∧ (io = true → (slotFilled b p io n x).host.lastPort = p) := by
  cases io
  · exact ⟨rfl, rfl, fun _ => rfl, nofun⟩
  · exact ⟨rfl, rfl, fun _ => rfl, fun _ => rfl⟩

theorem slotFilled_kept (b : State) (p : Port) (io : Bool) (n : Nat) (x : CmdSlot) :
    (slotFilled b p io n x).outs = b.outs ∧ (slotFilled b p io n x).fw = b.fw ∧ ∀ k, OffSlots k → (slotFilled b p io n x).num k = b.num k := by
  cases io
  · exact ⟨rfl, rfl, fun k hk => countSlots_num hk _⟩
  · exact ⟨rfl, rfl, fun k hk => countSlots_num hk _⟩

/-- A slot filled from the state after the admission number, with the stall counted where the command waits at the lock. -/
theorem takenIn {a b : State} {x : CmdSlot} (ha : a = (nextAdmission (advanceSq s p qid q)).2)
    (hb : b = if (lockStalls s x).isEmpty then a else a.bump Obj.lockStalls) :
    TakenIn s p qid q cmd x (slotFilled b p (decide (qid ≠ 0)) (slotNumber s p (decide (qid ≠ 0))) x) := by
  obtain ⟨hhost, houts, hfw, htick, hstalls, hadmitted⟩ := nextAdmission_taken s p qid q
  rw [← ha] at hhost houts hfw htick hstalls hadmitted
  obtain ⟨hbhost, hbouts, hbfw, hbnum⟩ : b.host = a.host ∧ b.outs = a.outs ∧ b.fw = a.fw ∧ ∀ k, k ≠ Obj.lockStalls → b.num k = a.num k := by
    rw [hb]
    split
    · exact ⟨rfl, rfl, rfl, fun _ _ => rfl⟩
    · exact ⟨State.bump_host _ _, State.bump_outs _ _, State.bump_fw _ _, fun k hk => State.num_bump_other _ hk⟩
  obtain ⟨hslots, hres, hctrl, hport⟩ := slotFilled_host b p (decide (qid ≠ 0)) (slotNumber s p (decide (qid ≠ 0))) x
  obtain ⟨hfouts, hffw, hnum⟩ := slotFilled_kept b p (decide (qid ≠ 0)) (slotNumber s p (decide (qid ≠ 0))) x
  have hall : b.host = (advanceSq s p qid q).host := hbhost.trans hhost
  refine ⟨hslots.trans ?_, fun r => (hctrl r).trans (ctrl_congr hall r), hres.trans ?_, fun h => hport (decide_eq_true h), hfouts.trans (hbouts.trans houts),
    hffw.trans (hbfw.trans hfw), ?_, ?_, ?_⟩
  · rw [hall]
    rfl
  · rw [hall]
    rfl
  · exact (hnum _ (by decide)).trans ((hbnum _ (by decide)).trans htick)
  · exact hadmitted.trans_num ((hnum _ (by decide)).trans (hbnum _ (by decide)))
  · have hlast := hnum Obj.lockStalls (by decide)
    split
    · next hnone =>
      rw [hlast, hb, hnone]
      exact hstalls
    · next hsome =>
      rw [if_neg (by rw [List.isEmpty_iff]; exact hsome)] at hb
      refine Counted.trans_num (Counted.of_num hstalls ?_) hlast
      rw [hb]
      exact counted_bump _ _

theorem earlierEntries_congr {t : State} (h : t.host.slots = s.host.slots) (x : CmdSlot) (f : CmdSlot → Bool) :
    earlierEntries t x f = earlierEntries s x f := by
  unfold earlierEntries
  rw [h]

theorem lockWaits_congr {t : State} (h : t.host.slots = s.host.slots) (x : CmdSlot) : lockWaits t x = lockWaits s x := earlierEntries_congr h x _

theorem fetchCommand_enters (hq : SMap.find (s.ctrl p).sqs qid = some q) (hserves : fetches s p = true) (hwork : q.head ≠ q.tail)
    (hturn : nextQueue s p = some qid) (herase : decide (qid ≠ 0) = true → s.fw.erasing.contains cmd.nsid = false)
    (haer : decide (qid ≠ 0) = false → cmd.opcode ≠ 0x0C) (hfree : slotFree s p (decide (qid ≠ 0)) = true) (hawake : s.num Obj.powerState ≠ 4)
    (hentry : s.host.psEntry ≠ some 4) : ∃ u x, Fetched s p qid q cmd x ∧ x.checked = false ∧ TakenIn s p qid q cmd x u ∧
    fetchCommand s p qid cmd = if cmd.fuse % 4 ≠ 0 then completeWith (settleLock 1024 u) (slotNumber s p (decide (qid ≠ 0))) scInvalidField
      else settleLock 1024 u := by
  have hwake : (if decide (qid ≠ 0) = true then wakeFrom4 s else s) = s := by
    unfold wakeFrom4
    rw [if_neg hentry, if_neg hawake]
    exact ite_self s
  have hno1 : (!fetches s p || decide (q.head = q.tail)) = false := by rw [hserves, decide_eq_false hwork]; rfl
  have hno2 : (decide (qid ≠ 0) && s.fw.erasing.contains cmd.nsid) = false := by
    cases hio : decide (qid ≠ 0) with
    | false => rfl
    | true => rw [herase hio]; rfl
  have hno3 : (!decide (qid ≠ 0) && decide (cmd.opcode = 0x0C)) = false := by
    cases hio : decide (qid ≠ 0) with
    | false => rw [decide_eq_false (haer hio)]; rfl
    | true => rfl
  have hfetch : fetchCommand s p qid cmd = fetchCommand s p qid cmd := rfl
  conv at hfetch => rhs; unfold fetchCommand
  rw [hq] at hfetch
  dsimp only at hfetch
  rw [hno1, if_neg Bool.false_ne_true, hfree, if_neg (by decide), if_neg (not_not_intro hturn), hno2, if_neg Bool.false_ne_true, hno3,
    if_neg Bool.false_ne_true, hwake] at hfetch
  generalize hspan : (if decide (qid ≠ 0) = true then spanOf cmd else (LockKind.free, 0, 0)) = span at hfetch
  obtain ⟨kind, lba, count⟩ := span
  dsimp only at hfetch
  generalize hx : flushCover _ _ = x at hfetch
  obtain ⟨media, waits, hcover, hsub⟩ := flushCover_of hx
  have hslots : ((nextAdmission (advanceSq s p qid q)).2).host.slots = s.host.slots := (congrArg HostIf.slots (nextAdmission_taken s p qid q).1).trans rfl
  refine ⟨_, x, ?_, by rw [hcover], takenIn rfl ?_, hfetch⟩
  · rw [hcover]
    refine ⟨fun hio => ?_, rfl, rfl, rfl, rfl, rfl, rfl, ?_, fun w hw => hsub w ?_⟩
    · rw [if_pos hio] at hspan
      exact hspan.symm
    · exact congrArg (fun l : List Nat => !l.isEmpty) (earlierEntries_congr hslots _ _)
    · change w ∈ lockWaits (nextAdmission (advanceSq s p qid q)).2 _
      rw [lockWaits_congr hslots]
      exact hw
  · rw [hcover]
    refine congrArg (fun l : List Nat => if l.isEmpty = true then _ else _) (earlierEntries_congr hslots _ _)

/-- The command's own slot after its fetch: checked unless it waits at the lock. -/
theorem Fetched.checked {x : CmdSlot} (h : Fetched s p qid q cmd x) (b : Bool) : Fetched s p qid q cmd { x with checked := b } :=
  ⟨h.span, h.cmd, h.port, h.cq, h.io, h.admission, h.unreleased, h.stalled, h.waits⟩

theorem TakenIn.checks {x : CmdSlot} (h : TakenIn s p qid q cmd x u) (b : Bool) : TakenIn s p qid q cmd { x with checked := b }
    (u.setHost { u.host with slots := SMap.put s.host.slots (slotNumber s p (decide (qid ≠ 0))) { x with checked := b } }) :=
  ⟨rfl, h.ctrls, h.reservations, h.lastPort, h.outs, h.fw, h.tick, h.admitted, h.stalls⟩

/-- A fetched command is in its slot, checked unless it waits at the lock; a fused one then ends. -/
theorem fetchCommand_settled (hq : SMap.find (s.ctrl p).sqs qid = some q) (hserves : fetches s p = true) (hwork : q.head ≠ q.tail)
    (hturn : nextQueue s p = some qid) (herase : decide (qid ≠ 0) = true → s.fw.erasing.contains cmd.nsid = false)
    (haer : decide (qid ≠ 0) = false → cmd.opcode ≠ 0x0C) (hfree : slotFree s p (decide (qid ≠ 0)) = true) (hawake : s.num Obj.powerState ≠ 4)
    (hentry : s.host.psEntry ≠ some 4) (hchecked : uncheckedSlot s = none) (hblank : reservationOf s cmd.nsid = Reservation.blank) :
    ∃ z x, Fetched s p qid q cmd x ∧ (x.io = true → x.stalled = true ∨ x.checked = true) ∧ TakenIn s p qid q cmd x z ∧
    fetchCommand s p qid cmd = if cmd.fuse % 4 ≠ 0 then completeWith z (slotNumber s p (decide (qid ≠ 0))) scInvalidField else z := by
  obtain ⟨u, x, hx, -, hu, hfetch⟩ := fetchCommand_enters hq hserves hwork hturn herase haer hfree hawake hentry
  have hfreeNow : reservationOf u x.cmd.nsid = Reservation.blank := by
    rw [hx.cmd, reservationOf, hu.reservations]
    exact hblank
  obtain ⟨b, hsettle, hb⟩ := settleLock_entered hu.slots (settled_of_none hchecked) hfreeNow
  rw [hsettle] at hfetch
  exact ⟨_, _, hx.checked b, hb, hu.checks b, hfetch⟩

theorem advanceSq_ctrl (s : State) (p : Port) (qid : Nat) (q : Sq) :
    SMap.find ((advanceSq s p qid q).ctrl p).sqs qid = some { q with head := (q.head + 1) % q.size } ∧ ((advanceSq s p qid q).ctrl p).turn = qid := by
  rw [advanceSq, ctrl_modCtrl]
  exact ⟨SMap.find_put_self _ _ _, rfl⟩

/-- The room of a completion queue is the same after a fetch. -/
theorem TakenIn.room {x : CmdSlot} {cq : Cq} {id : Nat} (h : TakenIn s p qid q cmd x u) (hroom : CqRoom s p id cq) : CqRoom u p id cq := by
  refine hroom.congr h.fw ?_
  rw [h.ctrls, advanceSq, ctrl_modCtrl]

/-- A fused command's end finds the lock settled. -/
theorem TakenIn.releases {x : CmdSlot} (h : TakenIn s p qid q cmd x u) (hx : Fetched s p qid q cmd x) (hdone : x.io = true → x.stalled = true ∨ x.checked = true)
    (hquiet : LockQuiet s) : Settled (releaseOne u (slotNumber s p (decide (qid ≠ 0)))) := by
  have hslot : u.slot (slotNumber s p (decide (qid ≠ 0))) = some x := by
    rw [State.slot, h.slots]
    exact SMap.find_put_self _ _ _
  refine settled_releaseOne hslot hx.unreleased fun e he hio => ?_
  rw [h.slots, put_put] at he
  obtain rfl | he := mem_of_mem_put he
  · obtain hstalled | hchecked := hdone hio
    · have hwaits : lockWaits s x ≠ [] := by
        have := hx.stalled.symm.trans hstalled
        simpa using this
      obtain ⟨w, hw⟩ := List.exists_mem_of_ne_nil _ hwaits
      refine .inr ⟨hstalled, w, hx.waits w hw, ?_⟩
      unfold lockWaits earlierEntries at hw
      obtain ⟨e, he, rfl⟩ := List.mem_map.mp hw
      simp only [List.mem_filter, Bool.and_eq_true, decide_eq_true_eq] at he
      exact Nat.ne_of_lt he.2.1.2
    · exact .inl hchecked
  · exact .inl ((hquiet e he).2 hio)

theorem commandFetch_admits {cq : Cq} (hq : SMap.find (s.ctrl p).sqs qid = some q) (hserves : fetches s p = true) (hwork : q.head ≠ q.tail)
    (hturn : nextQueue s p = some qid) (herase : decide (qid ≠ 0) = true → s.fw.erasing.contains cmd.nsid = false)
    (haer : decide (qid ≠ 0) = false → cmd.opcode ≠ 0x0C) (hfree : slotFree s p (decide (qid ≠ 0)) = true) (hawake : s.num Obj.powerState ≠ 4)
    (hentry : s.host.psEntry ≠ some 4) (hchecked : uncheckedSlot s = none) (hblank : reservationOf s cmd.nsid = Reservation.blank) :
    Completes (.commandFetch p qid cmd) s fun t =>
      SMap.find (t.ctrl p).sqs qid = some { q with head := (q.head + 1) % q.size } ∧ (t.ctrl p).turn = qid ∧ Counted Obj.admissionSeq s t ∧
      (decide (qid ≠ 0) = true → t.host.lastPort = p) ∧
      (cmd.fuse % 4 ≠ 0 → LockQuiet s → SMap.wf s.host.slots = true → CqRoom s p q.cq cq → Posted s t p q.cq cq ⟨cmd.cid, 0, 2, 0, 0, none⟩) ∧
      (cmd.fuse % 4 = 0 → ∃ x, t.slot (slotNumber s p (decide (qid ≠ 0))) = some x ∧ x.cmd = cmd ∧ x.port = p ∧ x.cq = q.cq ∧ x.io = decide (qid ≠ 0) ∧
        x.admission = s.num Obj.admissionSeq + 1 ∧ x.released = false ∧ x.stalled = !(lockWaits s x).isEmpty ∧
        (lockStalls s x ≠ [] → Counted Obj.lockStalls s t) ∧ (lockStalls s x = [] → t.num Obj.lockStalls = s.num Obj.lockStalls) ∧
        (decide (qid ≠ 0) = true → (x.kind, x.lba, x.count) = spanOf cmd)) := by
  obtain ⟨z, x, hx, hdone, hz, hfetch⟩ := fetchCommand_settled hq hserves hwork hturn herase haer hfree hawake hentry hchecked hblank
  have hslot : z.slot (slotNumber s p (decide (qid ≠ 0))) = some x := by
    rw [State.slot, hz.slots]
    exact SMap.find_put_self _ _ _
  have hctrl := advanceSq_ctrl s p qid q
  rw [← hz.ctrls p] at hctrl
  have hio (h : decide (qid ≠ 0) = true) : qid ≠ 0 := of_decide_eq_true h
  refine ⟨_, congrArg Host.Outcome.next hfetch, ?_⟩
  by_cases hfuse : cmd.fuse % 4 = 0
  · rw [if_neg (not_not_intro hfuse)]
    refine ⟨hctrl.1, hctrl.2, hz.admitted, fun h => hz.lastPort (hio h), fun h => absurd hfuse h, fun _ => ⟨x, hslot, hx.cmd, hx.port, hx.cq, hx.io,
      hx.admission, hx.unreleased, hx.stalled, fun hstalls => ?_, fun hnone => ?_, fun h => hx.span (hx.io.trans h)⟩⟩
    · have hcount := hz.stalls
      rw [if_neg hstalls] at hcount
      exact hcount
    · have hcount := hz.stalls
      rw [if_pos hnone] at hcount
      exact hcount
  · rw [if_pos hfuse]
    have hends : Ends z (completeWith z (slotNumber s p (decide (qid ≠ 0))) scInvalidField) := complete_ends z _ _ _ _ _
    refine ⟨(congrArg (fun k : Controller => SMap.find k.sqs qid) (hends.ctrls p)).trans hctrl.1, (congrArg Controller.turn (hends.ctrls p)).trans hctrl.2,
      hz.admitted.trans_num (hends.num _ (by decide) (by decide) (by decide)), fun h => hends.lastPort.trans (hz.lastPort (hio h)),
      fun _ hquiet hwf hroom => ?_, fun h => absurd h hfuse⟩
    have hposted := (complete_posted hslot hx.unreleased (hz.releases hx hdone hquiet) (hz.slots ▸ SMap.wf_put hwf)
      (hx.port ▸ hx.cq ▸ hz.room hroom) 0 2 0 0).1
    rw [hx.port, hx.cq, hx.cmd] at hposted
    exact hposted.from hz.outs hz.tick (by rw [hz.ctrls, advanceSq, ctrl_modCtrl])

end

/-! ### Doorbells (R342, R343) -/

section
variable {s : State} {p : Port} {qid tail head : Nat}

theorem otherPort_ne (p : Port) : p ≠ otherPort p := by cases p <;> decide

theorem sqDoorbell_moves {q : Sq} (hq : SMap.find (s.ctrl p).sqs qid = some q) (htail : tail < q.size) :
    Completes (.sqDoorbell p qid tail) s fun t =>
      SMap.find (t.ctrl p).sqs qid = some { q with tail := tail } ∧ t.ctrl (otherPort p) = s.ctrl (otherPort p) ∧ t.host.slots = s.host.slots ∧
      t.outs = s.outs := by
  have hexec : exec (.sqDoorbell p qid tail) s = execSqDoorbell p qid tail s := rfl
  unfold execSqDoorbell at hexec
  rw [hq] at hexec
  dsimp only at hexec
  rw [if_pos htail] at hexec
  refine ⟨_, hexec, ?_, ctrl_modCtrl_other _ _ (otherPort_ne p), rfl, rfl⟩
  rw [ctrl_modCtrl]
  exact SMap.find_put_self _ _ _

theorem settleShutdown_none (h : (s.ctrl p).shutdown = 0) : settleShutdown s p = s := by
  unfold settleShutdown
  dsimp only
  rw [h]
  exact if_neg fun hno => absurd hno.1 (by decide)

theorem settleShutdowns_none (h : NoShutdown s) : settleShutdowns s = s := by
  unfold settleShutdowns
  rw [settleShutdown_none h.1]
  exact settleShutdown_none h.2

theorem Ends.noShutdown {t : State} (h : Ends s t) (hs : NoShutdown s) : NoShutdown t :=
  ⟨(congrArg Controller.shutdown (h.ctrls .a)).trans hs.1, (congrArg Controller.shutdown (h.ctrls .b)).trans hs.2⟩

theorem exec_cqHeadDoorbell {cq : Cq} (hq : SMap.find (s.ctrl p).cqs qid = some cq) (hhead : head < cq.size) :
    exec (.cqHeadDoorbell p qid head) s = .next (settleShutdowns (postWaiting 1024 (s.modCtrl p (·.putCq qid { cq with head := head })) p qid)) := by
  have hexec : exec (.cqHeadDoorbell p qid head) s = execCqHeadDoorbell p qid head s := rfl
  unfold execCqHeadDoorbell at hexec
  rw [hq] at hexec
  dsimp only at hexec
  rw [if_pos hhead] at hexec
  exact hexec

theorem postWaiting_none {cq : Cq} (fuel : Nat) (hq : SMap.find (s.ctrl p).cqs qid = some cq) (hnone : cq.waiting = []) : postWaiting fuel s p qid = s := by
  cases fuel with
  | zero => rfl
  | succ fuel =>
    unfold postWaiting
    rw [hq]
    dsimp only
    rw [hnone]

theorem putCq_find (s : State) (p : Port) (qid : Nat) (q : Cq) : SMap.find ((s.modCtrl p (·.putCq qid q)).ctrl p).cqs qid = some q := by
  rw [ctrl_modCtrl]
  exact SMap.find_put_self _ _ _

theorem cqHeadDoorbell_moves {cq : Cq} (hq : SMap.find (s.ctrl p).cqs qid = some cq) (hhead : head < cq.size) (hnoShutdown : NoShutdown s)
    (hnone : cq.waiting = []) :
    Completes (.cqHeadDoorbell p qid head) s fun t => SMap.find (t.ctrl p).cqs qid = some { cq with head := head } ∧ t.outs = s.outs := by
  have hfind := putCq_find s p qid { cq with head := head }
  have hends := (Ends.refl s).putCq p qid { cq with head := head }
  have hexec := exec_cqHeadDoorbell hq hhead
  rw [postWaiting_none 1024 hfind hnone, settleShutdowns_none (hends.noShutdown hnoShutdown)] at hexec
  exact ⟨_, hexec, hfind, rfl⟩

/-- A posted completion leaves its queue without waiting ones, where none waited. -/
theorem postNow_find (u : State) (p : Port) (qid : Nat) (q : Cq) (x : Completion) : ∃ held tick,
    SMap.find ((postNow u p qid q x).ctrl p).cqs qid = some { q with tail := (q.tail + 1) % q.size, held := held, heldTick := tick } := by
  obtain ⟨v, hsignals, hpost⟩ := postNow_signals u p qid q x
  have hv : (postNow u p qid q x).ctrl p = v.ctrl p := by
    rw [hpost]
    cases x.slot <;> rfl
  rw [hv]
  cases hsignals with
  | quiet _ ht =>
    rw [ht, ctrl_congr (State.bump_host _ _)]
    exact ⟨q.held, q.heldTick, putCq_find u p qid _⟩
  | interrupts _ _ ht =>
    rw [ht]
    exact ⟨0, 0, putCq_find _ p qid _⟩
  | holds _ _ _ _ _ ht =>
    rw [ht]
    exact ⟨_, _, putCq_find _ p qid _⟩

theorem cqHeadDoorbell_posts {cq : Cq} {x : Completion} (hq : SMap.find (s.ctrl p).cqs qid = some cq) (hhead : head < cq.size)
    (hnoShutdown : NoShutdown s) (hone : cq.waiting = [x]) (hthawed : s.fw.frozen = false) (hroom : (cq.tail + 1) % cq.size ≠ head) :
    Completes (.cqHeadDoorbell p qid head) s fun t => Posted s t p qid { cq with head := head, waiting := [] } x := by
  have hfind := putCq_find s p qid { cq with head := head }
  have hends := (Ends.refl s).putCq p qid { cq with head := head }
  have hexec := exec_cqHeadDoorbell hq hhead
  generalize hu : s.modCtrl p (·.putCq qid { cq with head := head }) = u at hfind hends hexec
  have hfull : cqFull { cq with head := head } = false := decide_eq_false hroom
  obtain ⟨held, tick, hlast⟩ := postNow_find u p qid { cq with head := head, waiting := [] } x
  have hpost : postWaiting 1024 u p qid = postNow u p qid { cq with head := head, waiting := [] } x := by
    unfold postWaiting
    rw [hfind]
    dsimp only
    rw [hone]
    dsimp only
    rw [hends.fw, hthawed, ← hone, hfull, if_neg (by decide)]
    exact postWaiting_none 1023 hlast rfl
  rw [hpost, settleShutdowns_none ((hends.trans (postNow_ends _ _ _ _ _)).noShutdown hnoShutdown)] at hexec
  refine ⟨_, hexec, postNow_posted (by rw [← hu]; rfl) (by rw [← hu]; rfl) ?_ x⟩
  rw [hends.ctrls p]

end

/-! ### Fetches that wait, and event requests (R129, R335, R344) -/

section
variable {s : State} {p : Port} {qid cid : Nat} {q : Sq} {cmd : SqEntry}

/-- A fetch from a queue that has work, while its controller fetches. -/
theorem fetchCommand_working (hq : SMap.find (s.ctrl p).sqs qid = some q) (hserves : fetches s p = true) (hwork : q.head ≠ q.tail) :
    (slotFree s p (decide (qid ≠ 0)) = false → fetchCommand s p qid cmd = s.bump Obj.slotWaits) ∧
    (slotFree s p (decide (qid ≠ 0)) = true → nextQueue s p = some qid →
      (decide (qid ≠ 0) = true → s.fw.erasing.contains cmd.nsid = true → fetchCommand s p qid cmd = s.modCtrl p fun k => { k with turn := qid }) ∧
      (decide (qid ≠ 0) = false → cmd.opcode = 0x0C → fetchCommand s p qid cmd = admitAer (advanceSq s p qid q) p cmd.cid)) := by
  have hno1 : (!fetches s p || decide (q.head = q.tail)) = false := by rw [hserves, decide_eq_false hwork]; rfl
  unfold fetchCommand
  rw [hq]
  dsimp only
  rw [hno1, if_neg Bool.false_ne_true]
  refine ⟨fun hfull => ?_, fun hfree hturn => ⟨fun hio herase => ?_, fun hadmin haer => ?_⟩⟩
  · rw [hfull]
    exact if_pos rfl
  · rw [hfree, if_neg (by decide), if_neg (not_not_intro hturn), hio, herase]
    exact if_pos rfl
  · rw [hfree, if_neg (by decide), if_neg (not_not_intro hturn), hadmin, decide_eq_true haer, Bool.false_and, if_neg Bool.false_ne_true]
    exact if_pos rfl

theorem commandFetch_erasing (hq : SMap.find (s.ctrl p).sqs qid = some q) (hserves : fetches s p = true) (hwork : q.head ≠ q.tail)
    (hturn : nextQueue s p = some qid) (hfree : slotFree s p (decide (qid ≠ 0)) = true) (hio : decide (qid ≠ 0) = true)
    (herase : s.fw.erasing.contains cmd.nsid = true) :
    Completes (.commandFetch p qid cmd) s fun t =>
      t.ctrl p = { s.ctrl p with turn := qid } ∧ t.ctrl (otherPort p) = s.ctrl (otherPort p) ∧ t.host.slots = s.host.slots ∧ t.outs = s.outs :=
  ⟨_, congrArg Host.Outcome.next (((fetchCommand_working hq hserves hwork).2 hfree hturn).1 hio herase), ctrl_modCtrl _ _ _,
    ctrl_modCtrl_other _ _ (otherPort_ne p), rfl, rfl⟩

theorem commandFetch_waits (hq : SMap.find (s.ctrl p).sqs qid = some q) (hserves : fetches s p = true) (hwork : q.head ≠ q.tail)
    (hfull : slotFree s p (decide (qid ≠ 0)) = false) :
    Completes (.commandFetch p qid cmd) s fun t => Counted Obj.slotWaits s t ∧ t.host = s.host :=
  ⟨_, congrArg Host.Outcome.next ((fetchCommand_working hq hserves hwork).1 hfull), counted_bump _ _, State.bump_host _ _⟩

/-- An event request that is fetched, with its admission number. -/
theorem exec_asyncEventRequest (hq : SMap.find (s.ctrl p).sqs 0 = some q) (hserves : fetches s p = true) (hwork : q.head ≠ q.tail)
    (hturn : nextQueue s p = some 0) (hfree : slotFree s p false = true) : ∃ u : State,
    u.ctrl p = (advanceSq s p 0 q).ctrl p ∧ u.host.slots = s.host.slots ∧ u.outs = s.outs ∧ u.fw = s.fw ∧ u.num Obj.tick = s.num Obj.tick ∧
    Counted Obj.admissionSeq s u ∧
    exec (.asyncEventRequest p cid) s = .next (if 8 ≤ (u.ctrl p).aers.length then postCompletion u p 0 ⟨cid, 1, 5, 0, 0, none⟩
      else giveNotices 8 (u.modCtrl p fun k => { k with aers := k.aers ++ [cid] }) p) := by
  obtain ⟨hhost, houts, hfw, htick, -, hadmitted⟩ := nextAdmission_taken s p 0 q
  refine ⟨(nextAdmission (advanceSq s p 0 q)).2, ctrl_congr hhost p, (congrArg HostIf.slots hhost).trans rfl, houts, hfw, htick, hadmitted, ?_⟩
  exact congrArg Host.Outcome.next (((fetchCommand_working (cmd := { opcode := 0x0C, cid := cid }) hq hserves hwork).2 hfree hturn).2 rfl rfl)

theorem giveNotices_none (fuel : Nat) (h : (s.ctrl p).notices = []) : giveNotices fuel s p = s := by
  cases fuel with
  | zero => rfl
  | succ fuel =>
    unfold giveNotices
    rw [h]
    split
    · next hpending => exact absurd hpending nofun
    · rfl

theorem asyncEventRequest_waits (hq : SMap.find (s.ctrl p).sqs 0 = some q) (hserves : fetches s p = true) (hwork : q.head ≠ q.tail)
    (hturn : nextQueue s p = some 0) (hfree : slotFree s p false = true) (hroom : (s.ctrl p).aers.length < 8) (hnone : (s.ctrl p).notices = []) :
    Completes (.asyncEventRequest p cid) s fun t =>
      (t.ctrl p).aers = (s.ctrl p).aers ++ [cid] ∧ t.host.slots = s.host.slots ∧ t.outs = s.outs ∧ Counted Obj.admissionSeq s t := by
  obtain ⟨u, hctrl, hslots, houts, -, -, hadmitted, hexec⟩ := exec_asyncEventRequest (cid := cid) hq hserves hwork hturn hfree
  rw [advanceSq, ctrl_modCtrl] at hctrl
  have haers : (u.ctrl p).aers = (s.ctrl p).aers := (congrArg Controller.aers hctrl).trans rfl
  have hnotices : ((u.modCtrl p fun k => { k with aers := k.aers ++ [cid] }).ctrl p).notices = [] := by
    rw [ctrl_modCtrl]
    exact ((congrArg Controller.notices hctrl).trans rfl).trans hnone
  rw [haers, if_neg (Nat.not_le_of_lt hroom), giveNotices_none 8 hnotices] at hexec
  refine ⟨_, hexec, ?_, hslots, houts, hadmitted⟩
  rw [ctrl_modCtrl]
  exact congrArg (· ++ [cid]) haers

theorem asyncEventRequest_refused {cq : Cq} (hq : SMap.find (s.ctrl p).sqs 0 = some q) (hserves : fetches s p = true) (hwork : q.head ≠ q.tail)
    (hturn : nextQueue s p = some 0) (hfree : slotFree s p false = true) (hmany : 8 ≤ (s.ctrl p).aers.length) (hroom : CqRoom s p 0 cq) :
    Completes (.asyncEventRequest p cid) s fun t => (t.ctrl p).aers = (s.ctrl p).aers ∧ Posted s t p 0 cq ⟨cid, 1, 5, 0, 0, none⟩ := by
  obtain ⟨u, hctrl, -, houts, hfw, htick, -, hexec⟩ := exec_asyncEventRequest (cid := cid) hq hserves hwork hturn hfree
  rw [advanceSq, ctrl_modCtrl] at hctrl
  have haers : (u.ctrl p).aers = (s.ctrl p).aers := (congrArg Controller.aers hctrl).trans rfl
  have hnew : CqRoom u p 0 cq := hroom.congr hfw ((congrArg Controller.cqs hctrl).trans rfl)
  rw [haers, if_pos hmany, postCompletion_room hnew] at hexec
  exact ⟨_, hexec, (congrArg Controller.aers ((postNow_ends _ _ _ _ _).ctrls p)).trans haers,
    postNow_posted houts htick ((congrArg Controller.features hctrl).trans rfl) _⟩

end

/-! ### Commands that end (R335, R342) -/

section
variable {s : State} {slot n : Nat} {c : CmdSlot}

theorem invalidOpcode_ends (hslot : s.slot slot = some c) (hruns : c.stalled = false)
    (hunknown : (if c.io then ioOpcodes else adminOpcodes).contains c.cmd.opcode = false) :
    exec (.invalidOpcode slot) s = .next (endIo s slot scInvalidOpcode) := by
  have hexec : exec (.invalidOpcode slot) s = execInvalidOpcode slot s := rfl
  unfold execInvalidOpcode at hexec
  rw [hslot] at hexec
  dsimp only at hexec
  rw [hruns, hunknown, if_neg (by decide)] at hexec
  exact hexec

theorem nvmeAbort_ends (hcmd : adminCmd s slot 0x08 = some c)
    (hvictim : (s.host.slots.find? (fun e => e.2.io && !e.2.released && decide (e.2.port = c.port) && decide (e.2.qid = c.cmd.cdw10 % 65536) &&
      decide (e.2.cmd.cid = c.cmd.cdw10 / 65536 % 65536))).map (·.1) = some n) :
    exec (.nvmeAbort slot) s = .next (endAdmin (endIo s n scAbortRequested) slot scOk) := by
  obtain ⟨⟨m, d⟩, hfind, rfl⟩ := Option.map_eq_some_iff.mp hvictim
  have hexec : exec (.nvmeAbort slot) s = execNvmeAbort slot s := rfl
  unfold execNvmeAbort at hexec
  rw [hcmd] at hexec
  dsimp only at hexec
  rw [hfind] at hexec
  exact hexec

end

/-- Settles O48, clause by clause. -/
theorem commandsAreFetchedAndEnd : Obligations.CommandsAreFetchedAndEnd := by
  unfold Obligations.CommandsAreFetchedAndEnd
  intro s p qid tail head cid n slot sct sc dw0 dw1 cmd q cq c x
  refine ⟨sqDoorbell_moves, fun hq hhead hno => ⟨cqHeadDoorbell_moves hq hhead hno, cqHeadDoorbell_posts hq hhead hno⟩, commandFetch_erasing,
    commandFetch_waits, commandFetch_admits, fun hq hserves hwork hturn hfree => ⟨asyncEventRequest_waits hq hserves hwork hturn hfree,
      asyncEventRequest_refused hq hserves hwork hturn hfree⟩, invalidOpcode_ends, nvmeAbort_ends, fun hslot hheld hquiet hwf hroom => ?_,
    fun hslot hheld hquiet _ hfrozen hcq => complete_frozen hslot (settled_of_quiet hquiet hslot hheld) hfrozen hcq sct sc dw0 dw1⟩
  exact complete_posted hslot hheld (settled_of_quiet hquiet hslot hheld) hwf hroom sct sc dw0 dw1

end Sys2Proof.Machine
end

section
/-!
PROOFS. A core's access of no bytes: nothing of it lies outside the memories that the core may read, so it is no fault (R21).
-/

namespace Sys2Proof.Machine

/-- A device whose cores run. -/
def coresRunning : State :=
  { State.reset with
    power := { State.reset.power with powerGood := true, railsOff := false }
    start := { State.reset.start with mode := .normal, inReset := false } }

/-- A load of no bytes from another core's SRAM returns no bytes. -/
theorem emptyLoad_outs :
    (match exec (.coreMemoryAccess 0 0x1100000 0 .load .clean) coresRunning with
      | .next t => t.outs.head?
      | _ => none) = some (.coreData 0 []) := by decide +kernel

/-- Refutes O56: the statement has a load from another core's SRAM fault for every width, and a load of width 0 is answered with no bytes. -/
theorem not_memoryIsGrantedReadAndWritten : ¬ Obligations.MemoryIsGrantedReadAndWritten := by
  unfold Obligations.MemoryIsGrantedReadAndWritten
  intro h
  obtain ⟨-, -, -, -, hcores, -⟩ := h coresRunning .mbus [] 0 0 0 0x1100000 0 [] [] 0 ⟨0, [], false, false, false⟩ ⟨[], 0, false, false, false, []⟩
    (0, 0) .clean
  obtain ⟨-, hforeign, -⟩ := hcores (by decide +kernel) (by decide +kernel)
  obtain ⟨⟨t, hexec, -, houts, -⟩, -⟩ := hforeign (by decide +kernel) (by decide +kernel)
  have hempty := emptyLoad_outs
  rw [hexec] at hempty
  exact absurd (hempty.symm.trans (congrArg List.head? houts)) (by decide +kernel)

end Sys2Proof.Machine
end

section
/-!
PROOFS. A patrol whose place stands in the STATE of a surface that no device has (R406, R412).
-/

namespace Sys2Proof.Machine

/-- A map without members, and one whose only member lies on surface 61443, which no device has: its STATE would be PATROL_NEXT. -/
def emptyMap : StitchMap := { smallMap with k := 0, m := 0, periodRows := 1, periodStripes := 1, positions := [] }
def strayMap : StitchMap := { smallMap with k := 1, m := 0, periodRows := 1, periodStripes := 1, positions := [(61443, 0)] }

/-- Stripe 1 belongs to the first namespace, stripe 2 to the second. -/
def patrolledFirst : Namespace := { smallNamespace with nsid := 1, mapSlot := 0, firstStripe := 1, periods := 1 }
def patrolledSecond : Namespace := { smallNamespace with nsid := 2, mapSlot := 1, firstStripe := 2, periods := 1 }

/-- The patrol is to visit stripe 1, and stripe 2 after it. -/
def strayPatrol : State :=
  { State.reset with
    objs := [(Obj.patrolEnable, .num 1), (Obj.patrolNext, .num 0)]
    power := { State.reset.power with powerGood := true, railsOff := false }
    start := { State.reset.start with mode := .normal, inReset := false, passedSteps := 2 ^ 21 - 1 }
    host := { State.reset.host with namespaces := [(1, patrolledFirst), (2, patrolledSecond)] }
    layout := { State.reset.layout with maps := [(0, emptyMap), (1, strayMap)], allocated := [1, 2] } }

/-- The reads of every offset: there is no member to read. -/
def emptyReads : List OffsetReads := (List.range 64).map fun o => ⟨o, []⟩

/-- The patrol of stripe 1 puts PATROL_NEXT to 2, and stripe 2 then counts as lost, so no stripe is left to visit. -/
theorem strayPatrol_next :
    (match exec (.patrolStripe 1 emptyReads) strayPatrol with
      | .next t => t.num Obj.patrolNext
      | _ => 2) = 0 := by decide +kernel

/-- Refutes O54: with a member on a surface whose STATE is PATROL_NEXT, the patrol's own step loses the stripe that would come next (`strayPatrol`). -/
theorem not_surfacesAreRetiredRebuiltAndPatrolled : ¬ Obligations.SurfacesAreRetiredRebuiltAndPatrolled := by
  unfold Obligations.SurfacesAreRetiredRebuiltAndPatrolled
  intro h
  obtain ⟨-, -, -, hpatrol, -⟩ := h strayPatrol .mbus 0 1 0 0 0 0 emptyReads patrolledFirst.run (zoneOf []) 0 true 0 0 ⟨0, []⟩
  obtain ⟨t, hexec, hnext, -⟩ := hpatrol (by decide +kernel) (by decide +kernel) (by decide +kernel) (by decide +kernel) rfl rfl rfl (by decide +kernel)
    (by decide +kernel)
  have hzero := strayPatrol_next
  rw [hexec] at hzero
  exact absurd (hzero.symm.trans hnext) (by decide +kernel)

end Sys2Proof.Machine
end

section
/-!
PROOFS. The tables of command slots, system-cache lines and remapped chunks stay sorted (`tablesSorted`). An operation that touches none of the
host's data, the memories and the layout keeps them by its frame; of the others, one lemma each, in the order of the model's files.
-/

namespace Sys2Proof.Machine

/-- The parts of the state that hold none of the sorted tables. -/
def outsideTables : List Part :=
  [.objs, .power, .dict, .start, .fw, .media, .chan, .dec, .players, .acts, .engines, .groups, .traces, .motion, .girth, .fab, .coll, .raised,
    .outs, .free, .pending]

/-- The lines of the system cache are sorted. -/
def linesSorted (m : Memory) : Bool := SMap.wf m.lines

/-- What a command answers has sorted tables; a stop has nothing to show. -/
def outSorted : Host.Outcome State Fault Refusal → Bool
  | .next t => tablesSorted t
  | .fault _ | .refused _ => true

def optSorted : Option State → Bool
  | some t => tablesSorted t
  | none => true

theorem sorted_of_within {s t : State} (h : Within outsideTables s t) (hs : tablesSorted s = true) : tablesSorted t = true := by
  have hsame := within_iff.mp h
  have hhost : t.host = s.host := hsame .host (by decide)
  have hmem : t.mem = s.mem := hsame .mem (by decide)
  have hlayout : t.layout = s.layout := hsame .layout (by decide)
  simpa only [tablesSorted, hhost, hmem, hlayout] using hs

@[simp] theorem outSorted_next (t : State) : outSorted (.next t) = tablesSorted t := rfl
@[simp] theorem optSorted_some (t : State) : optSorted (some t) = tablesSorted t := rfl
@[simp] theorem optSorted_none : optSorted none = true := rfl

@[simp] theorem tablesSorted_mk (objs power dict start fw media chan dec players acts engines groups traces motion girth) (host : HostIf)
    (layout : Layout) (mem : Memory) (fab coll raised outs free pending) :
    tablesSorted (State.mk objs power dict start fw media chan dec players acts engines groups traces motion girth host layout mem fab coll
      raised outs free pending) = (SMap.wf host.slots && linesSorted mem && SMap.wf layout.remap) := rfl

@[simp] theorem linesSorted_mk (dram poison written errors filter substituted copying zeroing sram secSram cache keeper keeperChosen
    supersedeDue) (lines : SMap Line) (recency fills maint) :
    linesSorted (Memory.mk dram poison written errors filter substituted copying zeroing sram secSram cache keeper keeperChosen supersedeDue
      lines recency fills maint) = SMap.wf lines := rfl

@[simp] theorem wf_slots {s : State} (h : tablesSorted s = true) : SMap.wf s.host.slots = true := by
  simp only [tablesSorted, Bool.and_eq_true] at h; exact h.1.1

@[simp] theorem linesSorted_mem {s : State} (h : tablesSorted s = true) : linesSorted s.mem = true := by
  simp only [tablesSorted, Bool.and_eq_true] at h; exact h.1.2

@[simp] theorem wf_remap {s : State} (h : tablesSorted s = true) : SMap.wf s.layout.remap = true := by
  simp only [tablesSorted, Bool.and_eq_true] at h; exact h.2

@[simp] theorem wf_lines {m : Memory} (h : linesSorted m = true) : SMap.wf m.lines = true := h

@[simp] theorem tablesSorted_ite {c : Prop} [Decidable c] (s t : State) :
    tablesSorted (if c then s else t) = if c then tablesSorted s else tablesSorted t :=
  apply_ite _ _ _ _

@[simp] theorem outSorted_ite {c : Prop} [Decidable c] (s t) : outSorted (if c then s else t) = if c then outSorted s else outSorted t :=
  apply_ite _ _ _ _

@[simp] theorem State.each_sorted {α : Type} {s : State} {l : List α} {f : State → α → State} (h : tablesSorted s = true)
    (hf : ∀ t x, tablesSorted t = true → tablesSorted (f t x) = true) : tablesSorted (s.each l f) = true := by
  unfold State.each
  induction l generalizing s with
  | nil => exact h
  | cons x r ih => exact ih (hf s x h)

@[simp] theorem getD_sorted (o : Option State) (s : State) (ho : optSorted o = true) (hs : tablesSorted s = true) : tablesSorted (o.getD s) = true := by
  cases o <;> assumption

@[simp] theorem foldl_sorted {α : Type} {f : State → α → State} {l : List α} {s : State} (h : tablesSorted s = true)
    (hf : ∀ t x, tablesSorted t = true → tablesSorted (f t x) = true) : tablesSorted (l.foldl f s) = true := State.each_sorted h hf

@[simp] theorem foldl_fst_sorted {α β : Type} {f : State × β → α → State × β} {l : List α} {x : State × β} (h : tablesSorted x.1 = true)
    (hf : ∀ y a, tablesSorted y.1 = true → tablesSorted (f y a).1 = true) : tablesSorted (l.foldl f x).1 = true := by
  induction l generalizing x with
  | nil => exact h
  | cons a r ih => exact ih (hf x a h)

@[simp] theorem foldl_snd_sorted {α β : Type} {f : β × State → α → β × State} {l : List α} {x : β × State} (h : tablesSorted x.2 = true)
    (hf : ∀ y a, tablesSorted y.2 = true → tablesSorted (f y a).2 = true) : tablesSorted (l.foldl f x).2 = true := by
  induction l generalizing x with
  | nil => exact h
  | cons a r ih => exact ih (hf x a h)

@[simp] theorem State.setObj_sorted (s : State) (k : Key) (v : Val) (hwf : tablesSorted s = true) :
    tablesSorted (State.setObj s k v) = true :=
  sorted_of_within (@State.setObj_frame _ _ (touch_of rfl) s k v (.refl _ _)) hwf

@[simp] theorem State.setNum_sorted (s : State) (k : Key) (n : ℕ) (hwf : tablesSorted s = true) :
    tablesSorted (State.setNum s k n) = true :=
  sorted_of_within (@State.setNum_frame _ _ (touch_of rfl) s k n (.refl _ _)) hwf

@[simp] theorem State.setStr_sorted (s : State) (k : Key) (b : List Byte) (hwf : tablesSorted s = true) :
    tablesSorted (State.setStr s k b) = true :=
  sorted_of_within (@State.setStr_frame _ _ (touch_of rfl) s k b (.refl _ _)) hwf

@[simp] theorem State.draw_sorted (s : State) (hwf : tablesSorted s = true) :
    tablesSorted (State.draw s).2 = true :=
  sorted_of_within (@State.draw_frame _ _ (touch_of rfl) s (.refl _ _)) hwf

@[simp] theorem State.add_sorted (s : State) (k : Key) (n : ℕ) (hwf : tablesSorted s = true) :
    tablesSorted (State.add s k n) = true :=
  sorted_of_within (@State.add_frame _ _ (touch_of rfl) (touch_of rfl) s k n (.refl _ _)) hwf

@[simp] theorem State.bump_sorted (s : State) (k : Key) (hwf : tablesSorted s = true) :
    tablesSorted (State.bump s k) = true :=
  sorted_of_within (@State.bump_frame _ _ (touch_of rfl) (touch_of rfl) s k (.refl _ _)) hwf

@[simp] theorem State.sub_sorted (s : State) (k : Key) (n : ℕ) (hwf : tablesSorted s = true) :
    tablesSorted (State.sub s k n) = true :=
  sorted_of_within (@State.sub_frame _ _ (touch_of rfl) s k n (.refl _ _)) hwf

@[simp] theorem State.senseTj_sorted (s : State) (hwf : tablesSorted s = true) :
    tablesSorted (State.senseTj s) = true :=
  sorted_of_within (@State.senseTj_frame _ _ (touch_of rfl) (touch_of rfl) s (.refl _ _)) hwf

@[simp] theorem State.raiseEv_sorted (s : State) (e : Event) (hwf : tablesSorted s = true) :
    tablesSorted (State.raiseEv s e) = true :=
  sorted_of_within (@State.raiseEv_frame _ _ (touch_of rfl) s e (.refl _ _)) hwf

@[simp] theorem State.raise_sorted (s : State) (source : ℕ) (unit : optParam ℕ 0) (detail : optParam ℕ 0) (hwf : tablesSorted s = true) :
    tablesSorted (State.raise s source unit detail) = true :=
  sorted_of_within (@State.raise_frame _ _ (touch_of rfl) s source unit detail (.refl _ _)) hwf

@[simp] theorem State.raiseAct_sorted (s : State) (a : ℕ) (k : ℕ) (unit : optParam ℕ 0) (detail : optParam ℕ 0) (hwf : tablesSorted s = true) :
    tablesSorted (State.raiseAct s a k unit detail) = true :=
  sorted_of_within (@State.raiseAct_frame _ _ (touch_of rfl) s a k unit detail (.refl _ _)) hwf

@[simp] theorem State.emit_sorted (s : State) (o : Out) (hwf : tablesSorted s = true) :
    tablesSorted (State.emit s o) = true :=
  sorted_of_within (@State.emit_frame _ _ (touch_of rfl) s o (.refl _ _)) hwf

@[simp] theorem idle_sorted (s : State) (hwf : tablesSorted s = true) :
    tablesSorted (idle s) = true :=
  sorted_of_within (@idle_frame _ _ (touch_of rfl) (touch_of rfl) s (.refl _ _)) hwf

@[simp] theorem State.modChan_sorted (s : State) (a : ℕ) (f : Channel → Channel) (hwf : tablesSorted s = true) :
    tablesSorted (State.modChan s a f) = true :=
  sorted_of_within (@State.modChan_frame _ _ (touch_of rfl) s a f (.refl _ _)) hwf

@[simp] theorem State.modPlayer_sorted (s : State) (p : ℕ) (f : Player → Player) (hwf : tablesSorted s = true) :
    tablesSorted (State.modPlayer s p f) = true :=
  sorted_of_within (@State.modPlayer_frame _ _ (touch_of rfl) s p f (.refl _ _)) hwf

@[simp] theorem State.modAct_sorted (s : State) (a : ℕ) (f : Actuator → Actuator) (hwf : tablesSorted s = true) :
    tablesSorted (State.modAct s a f) = true :=
  sorted_of_within (@State.modAct_frame _ _ (touch_of rfl) s a f (.refl _ _)) hwf

@[simp] theorem State.modEngine_sorted (s : State) (e : ℕ) (f : Engine → Engine) (hwf : tablesSorted s = true) :
    tablesSorted (State.modEngine s e f) = true :=
  sorted_of_within (@State.modEngine_frame _ _ (touch_of rfl) s e f (.refl _ _)) hwf

@[simp] theorem State.modGroup_sorted (s : State) (g : ℕ) (f : Group → Group) (hwf : tablesSorted s = true) :
    tablesSorted (State.modGroup s g f) = true :=
  sorted_of_within (@State.modGroup_frame _ _ (touch_of rfl) s g f (.refl _ _)) hwf

@[simp] theorem State.modTrace_sorted (s : State) (a : ℕ) (f : Trace → Trace) (hwf : tablesSorted s = true) :
    tablesSorted (State.modTrace s a f) = true :=
  sorted_of_within (@State.modTrace_frame _ _ (touch_of rfl) s a f (.refl _ _)) hwf

@[simp] theorem State.modCtrl_sorted (s : State) (p : Port) (f : Controller → Controller) (hwf : tablesSorted s = true) :
    tablesSorted (State.modCtrl s p f) = true := by
  simp (maxDischargeDepth := 30) [State.modCtrl, *]

/-! Store -/

@[simp] theorem State.setJob_sorted (s : State) (j : Option StoreJob) (hwf : tablesSorted s = true) :
    tablesSorted (State.setJob s j) = true :=
  sorted_of_within (@State.setJob_frame _ _ (touch_of rfl) s j (.refl _ _)) hwf

@[simp] theorem storeBegin_sorted (s : State) (hwf : tablesSorted s = true) :
    tablesSorted (storeBegin s) = true :=
  sorted_of_within (@storeBegin_frame _ _ (touch_of rfl) (touch_of rfl) s (.refl _ _)) hwf

@[simp] theorem recordBegin_sorted (s : State) (k : RecordKind) (hwf : tablesSorted s = true) :
    tablesSorted (recordBegin s k) = true :=
  sorted_of_within (@recordBegin_frame _ _ (touch_of rfl) (touch_of rfl) s k (.refl _ _)) hwf

@[simp] theorem recordStore_sorted (s : State) (k : RecordKind) (hwf : tablesSorted s = true) :
    tablesSorted (recordStore s k) = true :=
  sorted_of_within (@recordStore_frame _ _ (touch_of rfl) (touch_of rfl) s k (.refl _ _)) hwf

@[simp] theorem settleRestore_sorted (s : State) (hwf : tablesSorted s = true) :
    tablesSorted (settleRestore s) = true :=
  sorted_of_within (@settleRestore_frame _ _ (touch_of rfl) s (.refl _ _)) hwf

@[simp] theorem commitCopy_sorted (s : State) (j : StoreJob) (hwf : tablesSorted s = true) :
    tablesSorted (commitCopy s j) = true :=
  sorted_of_within (@commitCopy_frame _ _ (touch_of rfl) s j (.refl _ _)) hwf

@[simp] theorem nextRecord_sorted (s : State) (hwf : tablesSorted s = true) :
    tablesSorted (nextRecord s) = true :=
  sorted_of_within (@nextRecord_frame _ _ (touch_of rfl) (touch_of rfl) s (.refl _ _)) hwf

/-! Memory -/

@[simp] theorem dramPutByte_sorted (m : Memory) (a : ℕ) (b : Byte) (hwf : linesSorted m = true) :
    linesSorted (dramPutByte m a b) = true := by
  simp only [dramPutByte]
  repeat' split
  all_goals simp (maxDischargeDepth := 30) [*]

@[simp] theorem dramPut_sorted (m : Memory) (a : Nat) (l : List Byte) (h : linesSorted m = true) : linesSorted (dramPut m a l) = true := by
  induction l generalizing m a with
  | nil => exact h
  | cons b r ih => exact ih _ _ (dramPutByte_sorted m a b h)

@[simp] theorem dramWriteM_sorted (m : Memory) (a : ℕ) (data : List Byte) (hwf : linesSorted m = true) :
    linesSorted (dramWriteM m a data) = true := by
  simp (maxDischargeDepth := 30) [dramWriteM, *]

@[simp] theorem dramWrite_sorted (s : State) (a : ℕ) (data : List Byte) (hwf : tablesSorted s = true) :
    tablesSorted (dramWrite s a data) = true := by
  simp (maxDischargeDepth := 30) [dramWrite, *]

@[simp] theorem poisonBlocks_sorted (s : State) (bs : List ℕ) (hwf : tablesSorted s = true) :
    tablesSorted (poisonBlocks s bs) = true := by
  simp (maxDischargeDepth := 30) [poisonBlocks, *]

@[simp] theorem pageRetire_sorted (s : State) (page : ℕ) (hwf : tablesSorted s = true) :
    tablesSorted (pageRetire s page) = true := by
  simp only [pageRetire]
  repeat' split
  all_goals simp (maxDischargeDepth := 30) [*]

@[simp] theorem pageCountTo_sorted (s : State) (page : ℕ) (n : ℕ) (hwf : tablesSorted s = true) :
    tablesSorted (pageCountTo s page n) = true := by
  simp (maxDischargeDepth := 30) [pageCountTo, *]

@[simp] theorem eccRead_sorted (s : State) (a : ℕ) (master : ℕ) (o : EccOutcome) (hwf : tablesSorted s = true) :
    tablesSorted (eccRead s a master o) = true := by
  simp only [eccRead]
  split <;> simp (maxDischargeDepth := 30) [*]

theorem execPageSubstitutionDone_sorted (page : ℕ) (s : State) (hwf : tablesSorted s = true) :
    outSorted (execPageSubstitutionDone page s) = true := by
  simp only [execPageSubstitutionDone]
  repeat' split
  all_goals simp (maxDischargeDepth := 30) [*]

@[simp] theorem markUnwritten_sorted (m : Memory) (a : ℕ) (n : ℕ) (hwf : linesSorted m = true) :
    linesSorted (markUnwritten m a n) = true := by
  simp (maxDischargeDepth := 30) [markUnwritten, *]

@[simp] theorem zeroRangeBegin_sorted (s : State) (a : ℕ) (n : ℕ) (hwf : tablesSorted s = true) :
    tablesSorted (zeroRangeBegin s a n) = true := by
  simp (maxDischargeDepth := 30) [zeroRangeBegin, *]

theorem execZeroRangeDone_sorted (s : State) (hwf : tablesSorted s = true) :
    outSorted (execZeroRangeDone s) = true := by
  simp (maxDischargeDepth := 30) [execZeroRangeDone, *]

theorem execKeeperSlotErased_sorted (slot : Fin 6) (s : State) (hwf : tablesSorted s = true) :
    outSorted (execKeeperSlotErased slot s) = true := by
  simp (maxDischargeDepth := 30) [execKeeperSlotErased, *]

theorem execSupersededPageProgrammed_sorted (s : State) (hwf : tablesSorted s = true) :
    outSorted (execSupersededPageProgrammed s) = true := by
  simp only [execSupersededPageProgrammed]
  split <;> simp (maxDischargeDepth := 30) [*]

@[simp] theorem countLocked_sorted (s : State) (hwf : tablesSorted s = true) :
    tablesSorted (countLocked s) = true :=
  sorted_of_within (@countLocked_frame _ _ (touch_of rfl) s (.refl _ _)) hwf

@[simp] theorem touchLine_sorted (m : Memory) (line : ℕ) (hwf : linesSorted m = true) :
    linesSorted (touchLine m line) = true := by
  simp (maxDischargeDepth := 30) [touchLine, *]

@[simp] theorem writeBack_sorted (s : State) (line : ℕ) (hwf : tablesSorted s = true) :
    tablesSorted (writeBack s line) = true := by
  simp only [writeBack]
  split <;> simp (maxDischargeDepth := 30) [*]

@[simp] theorem dropLine_sorted (s : State) (line : ℕ) (hwf : tablesSorted s = true) :
    tablesSorted (dropLine s line) = true := by
  simp (maxDischargeDepth := 30) [dropLine, *]

@[simp] theorem takeWay_sorted (s : State) (set : ℕ) (hwf : tablesSorted s = true) :
    tablesSorted (takeWay s set).2 = true := by
  simp only [takeWay]
  repeat' split
  all_goals simp (maxDischargeDepth := 30) [*]

@[simp] theorem startFill_sorted (s : State) (line : ℕ) (f : Fill) (hwf : tablesSorted s = true) :
    tablesSorted (startFill s line f) = true := by
  simp (maxDischargeDepth := 30) [startFill, *]

@[simp] theorem lineAccess_sorted (s : State) (core : ℕ) (a : ℕ) (width : ℕ) (store : Option (List Byte)) (poison : Bool) (hwf : tablesSorted s = true) :
    tablesSorted (lineAccess s core a width store poison) = true := by
  simp only [lineAccess]
  repeat' split
  all_goals simp (maxDischargeDepth := 30) [*]

@[simp] theorem serveOp_sorted (line : ℕ) (bad : Bool) (x : State × FillLine) (x3 : FillOp) (hwf : tablesSorted x.1 = true) :
    tablesSorted (serveOp line bad x x3).1 = true := by
  simp only [serveOp]
  repeat' split
  all_goals simp (maxDischargeDepth := 30) [*]

theorem execCacheFillReturn_sorted (line : ℕ) (s : State) (hwf : tablesSorted s = true) :
    outSorted (execCacheFillReturn line s) = true := by
  unfold execCacheFillReturn
  repeat' split
  all_goals simp_all (maxDischargeDepth := 30)

@[simp] theorem lineFetch_sorted (s : State) (line : ℕ) (hwf : tablesSorted s = true) :
    tablesSorted (lineFetch s line) = true := by
  simp only [lineFetch]
  split <;> simp (maxDischargeDepth := 30) [*]

@[simp] theorem cachedPut_sorted (s : State) (a : ℕ) (b : Byte) (hwf : tablesSorted s = true) :
    tablesSorted (cachedPut s a b) = true := by
  simp only [cachedPut]
  split <;> simp (maxDischargeDepth := 30) [*]

@[simp] theorem cachedWrite_sorted (s : State) (a : ℕ) (data : List Byte) (hwf : tablesSorted s = true) :
    tablesSorted (cachedWrite s a data) = true := by
  unfold cachedWrite
  simp_all (maxDischargeDepth := 30)

@[simp] theorem cleanLines_sorted (s : State) (p : ℕ → Bool) (hwf : tablesSorted s = true) :
    tablesSorted (cleanLines s p) = true := by
  unfold cleanLines
  simp_all (maxDischargeDepth := 30)

@[simp] theorem wayRetire_sorted (s : State) (w : ℕ) (hwf : tablesSorted s = true) :
    tablesSorted (wayRetire s w) = true := by
  unfold wayRetire
  simp_all (maxDischargeDepth := 30)

@[simp] theorem maintLine_sorted (e : MaintEffect) (bySet : Bool) (x : State × MaintResult) (line : Nat) (h : tablesSorted x.1 = true) :
    tablesSorted (maintLine e bySet x line).1 = true := by
  obtain ⟨s, r⟩ := x
  simp only [maintLine]
  repeat' split
  all_goals simp_all (maxDischargeDepth := 30)

@[simp] theorem maintBegin_sorted (s : State) (core : ℕ) (op : ℕ) (hwf : tablesSorted s = true) :
    tablesSorted (maintBegin s core op) = true := by
  unfold maintBegin
  repeat' split
  all_goals simp_all (maxDischargeDepth := 30)

theorem execCacheMaintDone_sorted (core : Fin 9) (s : State) (hwf : tablesSorted s = true) :
    outSorted (execCacheMaintDone core s) = true := by
  simp only [execCacheMaintDone]
  split <;> simp (maxDischargeDepth := 30) [*]

@[simp] theorem accessFault_sorted (s : State) (core : ℕ) (a : ℕ) (kind : ℕ) (hwf : tablesSorted s = true) :
    tablesSorted (accessFault s core a kind) = true :=
  sorted_of_within (@accessFault_frame _ _ (touch_of rfl) (touch_of rfl) s core a kind (.refl _ _)) hwf

@[simp] theorem sramPut_sorted (m : Memory) (core : ℕ) (a : ℕ) (d : List Byte) (hwf : linesSorted m = true) :
    linesSorted (sramPut m core a d) = true := by
  simp only [sramPut]
  split <;> simp (maxDischargeDepth := 30) [*]

@[simp] theorem sramAccess_sorted (s : State) (core : ℕ) (a : ℕ) (width : ℕ) (acc : CoreAccess) (ecc : EccOutcome) (hwf : tablesSorted s = true) :
    tablesSorted (sramAccess s core a width acc ecc) = true := by
  simp only [sramAccess]
  repeat' split
  all_goals simp (maxDischargeDepth := 30) [*]

@[simp] theorem lineUncorrectable_sorted (s : State) (core : ℕ) (acc : CoreAccess) (line : ℕ) (l : Line) (hwf : tablesSorted s = true) :
    tablesSorted (lineUncorrectable s core acc line l) = true := by
  simp (maxDischargeDepth := 30) [lineUncorrectable, *]

@[simp] theorem dramAccess_sorted (s : State) (core : ℕ) (a : ℕ) (width : ℕ) (acc : CoreAccess) (ecc : EccOutcome) (hwf : tablesSorted s = true) :
    tablesSorted (dramAccess s core a width acc ecc) = true := by
  simp only [dramAccess]
  repeat' split
  all_goals simp (maxDischargeDepth := 30) [*]

/-! Front -/

@[simp] theorem modEntry_sorted (s : State) (p : ℕ) (i : ℕ) (f : Entry → Entry) (hwf : tablesSorted s = true) :
    tablesSorted (modEntry s p i f) = true :=
  sorted_of_within (@modEntry_frame _ _ (touch_of rfl) s p i f (.refl _ _)) hwf

@[simp] theorem endEntry_sorted (s : State) (p : ℕ) (i : ℕ) (result : ℕ) (poisoned : optParam Bool false) (hwf : tablesSorted s = true) :
    tablesSorted (endEntry s p i result poisoned) = true := by
  simp only [endEntry]
  split <;> simp (maxDischargeDepth := 30) [*]

@[simp] theorem report_sorted (s : State) (p : ℕ) (i : ℕ) (mask : ℕ) (hwf : tablesSorted s = true) :
    tablesSorted (report s p i mask) = true :=
  sorted_of_within (@report_frame _ _ (touch_of rfl) s p i mask (.refl _ _)) hwf

@[simp] theorem reportGated_sorted (s : State) (a : ℕ) (mask : ℕ) (hwf : tablesSorted s = true) :
    tablesSorted (reportGated s a mask) = true :=
  sorted_of_within (@reportGated_frame _ _ (touch_of rfl) s a mask (.refl _ _)) hwf

@[simp] theorem writeIncomplete_sorted (s : State) (p : ℕ) (i : ℕ) (mask : ℕ) (poisoned : optParam Bool false) (hwf : tablesSorted s = true) :
    tablesSorted (writeIncomplete s p i mask poisoned) = true := by
  simp only [writeIncomplete]
  split <;> simp (maxDischargeDepth := 30) [*]

@[simp] theorem postFront_sorted (s : State) (a : ℕ) (e : FrontEvent) (hwf : tablesSorted s = true) :
    tablesSorted (postFront s a e) = true :=
  sorted_of_within (@postFront_frame _ _ (touch_of rfl) (touch_of rfl) (touch_of rfl) s a e (.refl _ _)) hwf

@[simp] theorem postEvent_sorted (s : State) (a : ℕ) (code : ℕ) (hwf : tablesSorted s = true) :
    tablesSorted (postEvent s a code) = true :=
  sorted_of_within (@postEvent_frame _ _ (touch_of rfl) (touch_of rfl) (touch_of rfl) s a code (.refl _ _)) hwf

@[simp] theorem postSector_sorted (s : State) (a : ℕ) (code : ℕ) (i : ℕ) (hwf : tablesSorted s = true) :
    tablesSorted (postSector s a code i) = true :=
  sorted_of_within (@postSector_frame _ _ (touch_of rfl) (touch_of rfl) (touch_of rfl) s a code i (.refl _ _)) hwf

@[simp] theorem sendNext_sorted (s : State) (a : ℕ) (hwf : tablesSorted s = true) :
    tablesSorted (sendNext s a) = true :=
  sorted_of_within (@sendNext_frame _ _ (touch_of rfl) (touch_of rfl) s a (.refl _ _)) hwf

@[simp] theorem queueFrame_sorted (s : State) (a : ℕ) (f : PreampFrame) (hwf : tablesSorted s = true) :
    tablesSorted (queueFrame s a f) = true :=
  sorted_of_within (@queueFrame_frame _ _ (touch_of rfl) (touch_of rfl) s a f (.refl _ _)) hwf

@[simp] theorem postMode_sorted (s : State) (a : ℕ) (mode : ℕ) (hwf : tablesSorted s = true) :
    tablesSorted (postMode s a mode) = true :=
  sorted_of_within (@postMode_frame _ _ (touch_of rfl) (touch_of rfl) s a mode (.refl _ _)) hwf

@[simp] theorem postHead_sorted (s : State) (a : ℕ) (surface : ℕ) (hwf : tablesSorted s = true) :
    tablesSorted (postHead s a surface) = true :=
  sorted_of_within (@postHead_frame _ _ (touch_of rfl) (touch_of rfl) s a surface (.refl _ _)) hwf

/-! Code -/

@[simp] theorem emitPieces_sorted (s : State) (p : ℕ) (e : Entry) (pieces : List (ℕ × ℕ × List (Bool × ℕ))) (hwf : tablesSorted s = true) :
    tablesSorted (emitPieces s p e pieces) = true :=
  sorted_of_within (@emitPieces_frame _ _ (touch_of rfl) s p e pieces (.refl _ _)) hwf

@[simp] theorem cutWrite_sorted (s : State) (a : ℕ) (mask : ℕ) (poisoned : optParam Bool false) (hwf : tablesSorted s = true) :
    tablesSorted (cutWrite s a mask poisoned) = true := by
  simp only [cutWrite]
  repeat' split
  all_goals simp (maxDischargeDepth := 30) [*]

@[simp] theorem lockSentence_sorted (s : State) (a : ℕ) (hwf : tablesSorted s = true) :
    tablesSorted (lockSentence s a) = true :=
  sorted_of_within (@lockSentence_frame _ _ (touch_of rfl) (touch_of rfl) (touch_of rfl) (touch_of rfl) (touch_of rfl) s a (.refl _ _)) hwf

@[simp] theorem assertWu_sorted (s : State) (a : ℕ) (src : WuSource) (hwf : tablesSorted s = true) :
    tablesSorted (assertWu s a src) = true := by
  simp (maxDischargeDepth := 30) [assertWu, *]

@[simp] theorem clearWu_sorted (s : State) (a : ℕ) (src : WuSource) (hwf : tablesSorted s = true) :
    tablesSorted (clearWu s a src) = true :=
  sorted_of_within (@clearWu_frame _ _ (touch_of rfl) s a src (.refl _ _)) hwf

@[simp] theorem unlockSeen_sorted (s : State) (a : ℕ) (hwf : tablesSorted s = true) :
    tablesSorted (unlockSeen s a) = true := by
  simp (maxDischargeDepth := 30) [unlockSeen, *]

/-! Signal -/

@[simp] theorem streamSamples_sorted (s : State) (a : ℕ) (adc : List AdcRow) (hwf : tablesSorted s = true) :
    tablesSorted (streamSamples s a adc) = true :=
  sorted_of_within (@streamSamples_frame _ _ (touch_of rfl) (touch_of rfl) s a adc (.refl _ _)) hwf

@[simp] theorem storeRingSlot_sorted (s : State) (p : ℕ) (e : Entry) (x : SampleSlot) (hwf : tablesSorted s = true) :
    tablesSorted (storeRingSlot s p e x) = true :=
  sorted_of_within (@storeRingSlot_frame _ _ (touch_of rfl) s p e x (.refl _ _)) hwf

/-! Pool -/

@[simp] theorem State.setDec_sorted (s : State) (d : Decode) (hwf : tablesSorted s = true) :
    tablesSorted (State.setDec s d) = true :=
  sorted_of_within (@State.setDec_frame _ _ (touch_of rfl) s d (.refl _ _)) hwf

@[simp] theorem setJobs_sorted (s : State) (l : List DecodeJob) (hwf : tablesSorted s = true) :
    tablesSorted (setJobs s l) = true :=
  sorted_of_within (@setJobs_frame _ _ (touch_of rfl) s l (.refl _ _)) hwf

@[simp] theorem putJob_sorted (s : State) (j : DecodeJob) (hwf : tablesSorted s = true) :
    tablesSorted (putJob s j) = true :=
  sorted_of_within (@putJob_frame _ _ (touch_of rfl) s j (.refl _ _)) hwf

@[simp] theorem dropJob_sorted (s : State) (id : ℕ) (hwf : tablesSorted s = true) :
    tablesSorted (dropJob s id) = true :=
  sorted_of_within (@dropJob_frame _ _ (touch_of rfl) s id (.refl _ _)) hwf

@[simp] theorem startDetector_sorted (s : State) (d : ℕ) (hwf : tablesSorted s = true) :
    tablesSorted (startDetector s d) = true :=
  sorted_of_within (@startDetector_frame _ _ (touch_of rfl) s d (.refl _ _)) hwf

@[simp] theorem startLdpc_sorted (s : State) (c : ℕ) (hwf : tablesSorted s = true) :
    tablesSorted (startLdpc s c) = true :=
  sorted_of_within (@startLdpc_frame _ _ (touch_of rfl) s c (.refl _ _)) hwf

@[simp] theorem dispatch_sorted (s : State) (hwf : tablesSorted s = true) :
    tablesSorted (dispatch s) = true :=
  sorted_of_within (@dispatch_frame _ _ (touch_of rfl) s (.refl _ _)) hwf

@[simp] theorem addJob_sorted (s : State) (j : DecodeJob) (hwf : tablesSorted s = true) :
    tablesSorted (addJob s j) = true :=
  sorted_of_within (@addJob_frame _ _ (touch_of rfl) s j (.refl _ _)) hwf

@[simp] theorem abandonPasses_sorted (s : State) (det : Bool) (core : ℕ) (hwf : tablesSorted s = true) :
    tablesSorted (abandonPasses s det core) = true :=
  sorted_of_within (@abandonPasses_frame _ _ (touch_of rfl) s det core (.refl _ _)) hwf

/-! Capture -/

@[simp] theorem laneFaults_sorted (s : State) (a : ℕ) (lanes : ℕ) (e : Entry) (hwf : tablesSorted s = true) :
    tablesSorted (laneFaults s a lanes e) = true :=
  sorted_of_within (@laneFaults_frame _ _ (touch_of rfl) (touch_of rfl) (touch_of rfl) s a lanes e (.refl _ _)) hwf

@[simp] theorem postJob_sorted (s : State) (p : ℕ) (i : ℕ) (e : Entry) (h : Header) (align : ℤ) (hwf : tablesSorted s = true) :
    tablesSorted (postJob s p i e h align) = true :=
  sorted_of_within (@postJob_frame _ _ (touch_of rfl) s p i e h align (.refl _ _)) hwf

@[simp] theorem captureStored_sorted (s : State) (p : ℕ) (i : ℕ) (e : Entry) (hwf : tablesSorted s = true) :
    tablesSorted (captureStored s p i e) = true := by
  simp (maxDischargeDepth := 30) [captureStored, *]

@[simp] theorem endCapture_sorted (s : State) (p : ℕ) (i : ℕ) (hwf : tablesSorted s = true) :
    tablesSorted (endCapture s p i) = true := by
  simp only [endCapture]
  split <;> simp (maxDischargeDepth := 30) [*]

@[simp] theorem cutCapture_sorted (s : State) (p : ℕ) (i : ℕ) (hwf : tablesSorted s = true) :
    tablesSorted (cutCapture s p i) = true := by
  simp only [cutCapture]
  split <;> simp (maxDischargeDepth := 30) [*]

@[simp] theorem stopCapture_sorted (s : State) (p : ℕ) (i : ℕ) (hwf : tablesSorted s = true) :
    tablesSorted (stopCapture s p i) = true := by
  simp only [stopCapture]
  split <;> simp (maxDischargeDepth := 30) [*]

/-! Players -/

@[simp] theorem setFlags_sorted (s : State) (p : ℕ) (mask : ℕ) (hwf : tablesSorted s = true) :
    tablesSorted (setFlags s p mask) = true :=
  sorted_of_within (@setFlags_frame _ _ (touch_of rfl) s p mask (.refl _ _)) hwf

@[simp] theorem putRecord_sorted (s : State) (r : PendingRecord) (hwf : tablesSorted s = true) :
    tablesSorted (putRecord s r) = true := by
  simp (maxDischargeDepth := 30) [putRecord, *]

@[simp] theorem countTurn_sorted (s : State) (a : ℕ) (hwf : tablesSorted s = true) :
    tablesSorted (countTurn s a) = true :=
  sorted_of_within (@countTurn_frame _ _ (touch_of rfl) s a (.refl _ _)) hwf

@[simp] theorem prerollPosts_sorted (s : State) (a : ℕ) (p : ℕ) (hwf : tablesSorted s = true) :
    tablesSorted (prerollPosts s a p) = true :=
  sorted_of_within (@prerollPosts_frame _ _ (touch_of rfl) (touch_of rfl) (touch_of rfl) (touch_of rfl) s a p (.refl _ _)) hwf

@[simp] theorem closeSentence_sorted (s : State) (p : ℕ) (o : Outcome) (hwf : tablesSorted s = true) :
    tablesSorted (closeSentence s p o) = true := by
  unfold closeSentence
  repeat' split
  all_goals simp_all (maxDischargeDepth := 30)

@[simp] theorem blockAfter_sorted (s : State) (p : ℕ) (hwf : tablesSorted s = true) :
    tablesSorted (blockAfter s p) = true :=
  sorted_of_within (@blockAfter_frame _ _ (touch_of rfl) s p (.refl _ _)) hwf

@[simp] theorem blockedUnderrun_sorted (s : State) (p : ℕ) (hwf : tablesSorted s = true) :
    tablesSorted (blockedUnderrun s p) = true := by
  simp (maxDischargeDepth := 30) [blockedUnderrun, *]

@[simp] theorem underrunNow_sorted (s : State) (p : ℕ) (hwf : tablesSorted s = true) :
    tablesSorted (underrunNow s p) = true := by
  simp (maxDischargeDepth := 30) [underrunNow, *]

@[simp] theorem prerollNext_sorted (fuel : Nat) (s : State) (a : Nat) (h : tablesSorted s = true) : tablesSorted (prerollNext fuel s a) = true := by
  induction fuel generalizing s with
  | zero => simpa [prerollNext] using h
  | succ n ih =>
    simp only [prerollNext]
    repeat' split
    all_goals simp +contextual (maxDischargeDepth := 30) [*]

@[simp] theorem finishSentence_sorted (s : State) (p : ℕ) (o : Outcome) (hwf : tablesSorted s = true) :
    tablesSorted (finishSentence s p o) = true := by
  simp (maxDischargeDepth := 30) [finishSentence, *]

@[simp] theorem allCloseCut_sorted (s : State) (a : ℕ) (p : ℕ) (hwf : tablesSorted s = true) :
    tablesSorted (allCloseCut s a p) = true := by
  unfold allCloseCut
  repeat' split
  all_goals simp_all (maxDischargeDepth := 30)

@[simp] theorem settleReads_sorted (s : State) (p : ℕ) (hwf : tablesSorted s = true) :
    tablesSorted (settleReads s p) = true := by
  unfold settleReads
  simp_all (maxDischargeDepth := 30)

@[simp] theorem giveUp_sorted (s : State) (p : ℕ) (o : Outcome) (hwf : tablesSorted s = true) :
    tablesSorted (giveUp s p o) = true := by
  simp (maxDischargeDepth := 30) [giveUp, *]

@[simp] theorem dropReady_sorted (s : State) (p : ℕ) (o : Outcome) (hwf : tablesSorted s = true) :
    tablesSorted (dropReady s p o) = true := by
  simp (maxDischargeDepth := 30) [dropReady, *]

@[simp] theorem discardReady_sorted (s : State) (p : ℕ) (hwf : tablesSorted s = true) :
    tablesSorted (discardReady s p) = true := by
  simp (maxDischargeDepth := 30) [discardReady, *]

@[simp] theorem sampleEvents_sorted (s : State) (p : ℕ) (hwf : tablesSorted s = true) :
    tablesSorted (sampleEvents s p) = true :=
  sorted_of_within (@sampleEvents_frame _ _ (touch_of rfl) s p (.refl _ _)) hwf

@[simp] theorem askAbort_sorted (s : State) (p : ℕ) (hwf : tablesSorted s = true) :
    tablesSorted (askAbort s p) = true := by
  simp (maxDischargeDepth := 30) [askAbort, *]

@[simp] theorem playerAbort_sorted (s : State) (p : ℕ) (hwf : tablesSorted s = true) :
    tablesSorted (playerAbort s p) = true := by
  simp only [playerAbort]
  split <;> simp (maxDischargeDepth := 30) [*]

@[simp] theorem abortPlayers_sorted (s : State) (a : ℕ) (hwf : tablesSorted s = true) :
    tablesSorted (abortPlayers s a) = true := by
  unfold abortPlayers
  simp_all (maxDischargeDepth := 30)

@[simp] theorem stopPlayers_sorted (s : State) (a : Nat) (o : Outcome) (h : tablesSorted s = true) : tablesSorted (stopPlayers s a o) = true := by
  unfold stopPlayers
  refine State.each_sorted (by simp (maxDischargeDepth := 30) [*]) fun t x ht => ?_
  repeat' split
  all_goals simp +contextual (maxDischargeDepth := 30) [*]

@[simp] theorem loadBegin_sorted (s : State) (p : ℕ) (addr : ℕ) (hwf : tablesSorted s = true) :
    tablesSorted (loadBegin s p addr) = true :=
  sorted_of_within (@loadBegin_frame _ _ (touch_of rfl) (touch_of rfl) (touch_of rfl) s p addr (.refl _ _)) hwf

@[simp] theorem laneTo_sorted (s : State) (a : ℕ) (k : ℕ) (st : ℕ) (hwf : tablesSorted s = true) :
    tablesSorted (laneTo s a k st) = true :=
  sorted_of_within (@laneTo_frame _ _ (touch_of rfl) (touch_of rfl) s a k st (.refl _ _)) hwf

@[simp] theorem takeSentence_sorted (s : State) (p : ℕ) (addr : ℕ) (hwf : tablesSorted s = true) :
    tablesSorted (takeSentence s p addr) = true := by
  unfold takeSentence
  simp_all (maxDischargeDepth := 30)

theorem execSentenceFetchDone_sorted (p : Fin 8) (s : State) (hwf : tablesSorted s = true) :
    outSorted (execSentenceFetchDone p s) = true := by
  simp only [execSentenceFetchDone]
  repeat' split
  all_goals simp (maxDischargeDepth := 30) [*]

theorem execSentenceUnderrun_sorted (p : Fin 8) (s : State) (hwf : tablesSorted s = true) :
    outSorted (execSentenceUnderrun p s) = true := by
  simp (maxDischargeDepth := 30) [execSentenceUnderrun, *]

@[simp] theorem postGate_sorted (s : State) (p : ℕ) (action : ℕ) (off : ℕ) (entry : ℕ) (hwf : tablesSorted s = true) :
    tablesSorted (postGate s p action off entry) = true :=
  sorted_of_within (@postGate_frame _ _ (touch_of rfl) s p action off entry (.refl _ _)) hwf

@[simp] theorem phraseFrame_sorted (s : State) (p : ℕ) (f : Phrase) (hwf : tablesSorted s = true) :
    tablesSorted (phraseFrame s p f) = true :=
  sorted_of_within (@phraseFrame_frame _ _ (touch_of rfl) (touch_of rfl) s p f (.refl _ _)) hwf

@[simp] theorem phraseGate_sorted (s : State) (p : ℕ) (f : Phrase) (hwf : tablesSorted s = true) :
    tablesSorted (phraseGate s p f) = true := by
  simp only [phraseGate]
  split <;> simp (maxDischargeDepth := 30) [*]

@[simp] theorem applyPhrase_sorted (s : State) (p : ℕ) (f : Phrase) (hwf : tablesSorted s = true) :
    tablesSorted (applyPhrase s p f) = true := by
  simp (maxDischargeDepth := 30) [applyPhrase, *]

@[simp] theorem settleUnposted_sorted (s : State) (p : ℕ) (i : ℕ) (hwf : tablesSorted s = true) :
    tablesSorted (settleUnposted s p i) = true := by
  simp only [settleUnposted]
  split <;> simp (maxDischargeDepth := 30) [*]

@[simp] theorem leaveEntry_sorted (s : State) (p : ℕ) (hwf : tablesSorted s = true) :
    tablesSorted (leaveEntry s p) = true := by
  simp only [leaveEntry]
  split <;> simp (maxDischargeDepth := 30) [*]

@[simp] theorem clauseAct_sorted (s : State) (p : ℕ) (hwf : tablesSorted s = true) :
    tablesSorted (clauseAct s p) = true := by
  simp only [clauseAct]
  repeat' split
  all_goals simp (maxDischargeDepth := 30) [*]

@[simp] theorem endMask_sorted (s : State) (p : ℕ) (hwf : tablesSorted s = true) :
    tablesSorted (endMask s p) = true :=
  sorted_of_within (@endMask_frame _ _ (touch_of rfl) s p (.refl _ _)) hwf

@[simp] theorem waitBegins_sorted (s : State) (p : ℕ) (cond : ℕ) (units : ℕ) (hwf : tablesSorted s = true) :
    tablesSorted (waitBegins s p cond units) = true :=
  sorted_of_within (@waitBegins_frame _ _ (touch_of rfl) (touch_of rfl) (touch_of rfl) s p cond units (.refl _ _)) hwf

@[simp] theorem clauseRun_sorted (s : State) (p : ℕ) (hwf : tablesSorted s = true) :
    tablesSorted (clauseRun s p) = true := by
  simp (maxDischargeDepth := 30) [clauseRun, *]

@[simp] theorem drainEvents_sorted (s : State) (p : ℕ) (hwf : tablesSorted s = true) :
    tablesSorted (drainEvents s p) = true :=
  sorted_of_within (@drainEvents_frame _ _ (touch_of rfl) (touch_of rfl) s p (.refl _ _)) hwf

@[simp] theorem fillWriteFifo_sorted (s : State) (a : ℕ) (hwf : tablesSorted s = true) :
    tablesSorted (fillWriteFifo s a) = true :=
  sorted_of_within (@fillWriteFifo_frame _ _ (touch_of rfl) (touch_of rfl) (touch_of rfl) s a (.refl _ _)) hwf

@[simp] theorem clauseStart_sorted (s : State) (p : ℕ) (op : ℕ) (phrase : ℕ) (arg : ℕ) (hwf : tablesSorted s = true) :
    tablesSorted (clauseStart s p op phrase arg) = true := by
  simp only [clauseStart]
  repeat' split
  all_goals simp (maxDischargeDepth := 30) [*]

theorem execClauseStep_sorted (p : Fin 8) (phrase : Fin 1024) (arg : BitVec 16) (s : State) (hwf : tablesSorted s = true) :
    outSorted (execClauseStep p phrase arg s) = true := by
  simp (maxDischargeDepth := 30) [execClauseStep, *]

theorem execClauseGoto_sorted (p : Fin 8) (phrase : Fin 1024) (arg : BitVec 16) (s : State) (hwf : tablesSorted s = true) :
    outSorted (execClauseGoto p phrase arg s) = true := by
  simp (maxDischargeDepth := 30) [execClauseGoto, *]

theorem execClauseCall_sorted (p : Fin 8) (phrase : Fin 1024) (arg : BitVec 16) (s : State) (hwf : tablesSorted s = true) :
    outSorted (execClauseCall p phrase arg s) = true := by
  simp (maxDischargeDepth := 30) [execClauseCall, *]

theorem execClauseRet_sorted (p : Fin 8) (phrase : Fin 1024) (arg : BitVec 16) (s : State) (hwf : tablesSorted s = true) :
    outSorted (execClauseRet p phrase arg s) = true := by
  simp (maxDischargeDepth := 30) [execClauseRet, *]

theorem execClauseSetcnt_sorted (p : Fin 8) (phrase : Fin 1024) (arg : BitVec 16) (s : State) (hwf : tablesSorted s = true) :
    outSorted (execClauseSetcnt p phrase arg s) = true := by
  simp (maxDischargeDepth := 30) [execClauseSetcnt, *]

theorem execClauseLoop_sorted (p : Fin 8) (phrase : Fin 1024) (arg : BitVec 16) (s : State) (hwf : tablesSorted s = true) :
    outSorted (execClauseLoop p phrase arg s) = true := by
  simp (maxDischargeDepth := 30) [execClauseLoop, *]

theorem execClauseSector_sorted (p : Fin 8) (phrase : Fin 1024) (arg : BitVec 16) (s : State) (hwf : tablesSorted s = true) :
    outSorted (execClauseSector p phrase arg s) = true := by
  simp (maxDischargeDepth := 30) [execClauseSector, *]

theorem execClauseIfwrite_sorted (p : Fin 8) (phrase : Fin 1024) (arg : BitVec 16) (s : State) (hwf : tablesSorted s = true) :
    outSorted (execClauseIfwrite p phrase arg s) = true := by
  simp (maxDischargeDepth := 30) [execClauseIfwrite, *]

theorem execClauseIfparity_sorted (p : Fin 8) (phrase : Fin 1024) (arg : BitVec 16) (s : State) (hwf : tablesSorted s = true) :
    outSorted (execClauseIfparity p phrase arg s) = true := by
  simp (maxDischargeDepth := 30) [execClauseIfparity, *]

theorem execClauseEnd_sorted (p : Fin 8) (phrase : Fin 1024) (arg : BitVec 16) (s : State) (hwf : tablesSorted s = true) :
    outSorted (execClauseEnd p phrase arg s) = true := by
  simp (maxDischargeDepth := 30) [execClauseEnd, *]

theorem execClauseBad_sorted (p : Fin 8) (why : BadClause) (s : State) (hwf : tablesSorted s = true) :
    outSorted (execClauseBad p why s) = true := by
  simp (maxDischargeDepth := 30) [execClauseBad, *]

theorem execClauseTimeEnd_sorted (p : Fin 8) (s : State) (hwf : tablesSorted s = true) :
    outSorted (execClauseTimeEnd p s) = true := by
  simp only [execClauseTimeEnd]
  split <;> simp (maxDischargeDepth := 30) [*]

theorem execClauseWaitMet_sorted (p : Fin 8) (wedge : ℕ) (t : ℕ) (s : State) (hwf : tablesSorted s = true) :
    outSorted (execClauseWaitMet p wedge t s) = true := by
  simp only [execClauseWaitMet]
  split <;> simp (maxDischargeDepth := 30) [*]

theorem execClauseWaitTimeout_sorted (p : Fin 8) (s : State) (hwf : tablesSorted s = true) :
    outSorted (execClauseWaitTimeout p s) = true := by
  simp only [execClauseWaitTimeout]
  split <;> simp (maxDischargeDepth := 30) [*]

theorem execPlayerStallEnd_sorted (p : Fin 8) (s : State) (hwf : tablesSorted s = true) :
    outSorted (execPlayerStallEnd p s) = true := by
  simp (maxDischargeDepth := 30) [execPlayerStallEnd, *]

theorem execWindowEndReached_sorted (p : Fin 8) (s : State) (hwf : tablesSorted s = true) :
    outSorted (execWindowEndReached p s) = true := by
  simp (maxDischargeDepth := 30) [execWindowEndReached, *]

theorem execPlayerMemoryFault_sorted (p : Fin 8) (store : Bool) (s : State) (hwf : tablesSorted s = true) :
    outSorted (execPlayerMemoryFault p store s) = true := by
  simp only [execPlayerMemoryFault]
  split <;> simp (maxDischargeDepth := 30) [*]

theorem execSentenceEnd_sorted (p : Fin 8) (s : State) (hwf : tablesSorted s = true) :
    outSorted (execSentenceEnd p s) = true := by
  simp (maxDischargeDepth := 30) [execSentenceEnd, *]

theorem execSentenceRecordWrite_sorted (p : Fin 8) (s : State) (hwf : tablesSorted s = true) :
    outSorted (execSentenceRecordWrite p s) = true := by
  simp only [execSentenceRecordWrite]
  split <;> simp (maxDischargeDepth := 30) [*]

@[simp] theorem preambleLoops_sorted (a : ℕ) (s : State) (h : Header) (first : Bool) (hwf : tablesSorted s = true) :
    tablesSorted (preambleLoops a s h first) = true :=
  sorted_of_within (@preambleLoops_frame _ _ (touch_of rfl) a s h first (.refl _ _)) hwf

@[simp] theorem readOpen_sorted (s : State) (p : ℕ) (g : GateEntry) (hwf : tablesSorted s = true) :
    tablesSorted (readOpen s p g) = true := by
  simp only [readOpen]
  split <;> simp (maxDischargeDepth := 30) [*]

@[simp] theorem laserDark_sorted (s : State) (a : ℕ) (hwf : tablesSorted s = true) :
    tablesSorted (laserDark s a) = true :=
  sorted_of_within (@laserDark_frame _ _ (touch_of rfl) s a (.refl _ _)) hwf

@[simp] theorem writeOpen_sorted (s : State) (p : ℕ) (g : GateEntry) (hwf : tablesSorted s = true) :
    tablesSorted (writeOpen s p g) = true := by
  simp only [writeOpen]
  split <;> simp (maxDischargeDepth := 30) [*]

@[simp] theorem writeClose_sorted (s : State) (p : ℕ) (w : ℕ) (t : ℕ) (hwf : tablesSorted s = true) :
    tablesSorted (writeClose s p w t) = true := by
  simp only [writeClose]
  repeat' split
  all_goals simp (maxDischargeDepth := 30) [*]

@[simp] theorem readClose_sorted (s : State) (p : ℕ) (i : ℕ) (hwf : tablesSorted s = true) :
    tablesSorted (readClose s p i) = true :=
  sorted_of_within (@readClose_frame _ _ (touch_of rfl) s p i (.refl _ _)) hwf

@[simp] theorem gateAct_sorted (s : State) (p : Nat) (g : GateEntry) (h : tablesSorted s = true) : tablesSorted (gateAct s p g) = true := by
  unfold gateAct
  dsimp only
  repeat' split
  all_goals simp +contextual (maxDischargeDepth := 30) [*]

@[simp] theorem lateGate_sorted (s : State) (p : ℕ) (g : GateEntry) (hwf : tablesSorted s = true) :
    tablesSorted (lateGate s p g) = true := by
  simp only [lateGate]
  repeat' split
  all_goals simp (maxDischargeDepth := 30) [*]

@[simp] theorem laserLead_sorted (s : State) (p : ℕ) (hwf : tablesSorted s = true) :
    tablesSorted (laserLead s p) = true :=
  sorted_of_within (@laserLead_frame _ _ (touch_of rfl) s p (.refl _ _)) hwf

theorem execGateEntryExecute_sorted (p : Fin 8) (t : ℕ) (adc : List AdcRow) (s : State) (hwf : tablesSorted s = true) :
    outSorted (execGateEntryExecute p t adc s) = true := by
  simp only [execGateEntryExecute]
  split <;> simp (maxDischargeDepth := 30) [*]

/-! Channel -/

theorem execWriteUnsafe_sorted (a : Fin 4) (src : WuSource) (t : ℕ) (s : State) (hwf : tablesSorted s = true) :
    outSorted (execWriteUnsafe a src t s) = true := by
  simp (maxDischargeDepth := 30) [execWriteUnsafe, *]

theorem execWriteFifoEmpty_sorted (a : Fin 4) (s : State) (hwf : tablesSorted s = true) :
    outSorted (execWriteFifoEmpty a s) = true := by
  simp (maxDischargeDepth := 30) [execWriteFifoEmpty, *]

@[simp] theorem reportCaptures_sorted (s : State) (a : ℕ) (mask : ℕ) (hwf : tablesSorted s = true) :
    tablesSorted (reportCaptures s a mask) = true :=
  sorted_of_within (@reportCaptures_frame _ _ (touch_of rfl) s a mask (.refl _ _)) hwf

theorem execSynthUnlock_sorted (a : Fin 4) (s : State) (hwf : tablesSorted s = true) :
    outSorted (execSynthUnlock a s) = true := by
  simp (maxDischargeDepth := 30) [execSynthUnlock, *]

@[simp] theorem detectorFires_sorted (s : State) (a : ℕ) (mask : ℕ) (cause : ℕ) (count : ℕ) (firings : ℕ) (hwf : tablesSorted s = true) :
    tablesSorted (detectorFires s a mask cause count firings) = true :=
  sorted_of_within (@detectorFires_frame _ _ (touch_of rfl) (touch_of rfl) (touch_of rfl) (touch_of rfl) (touch_of rfl) s a mask cause count firings (.refl _ _)) hwf

theorem execCaptureEnd_sorted (p : Fin 8) (adc : List AdcRow) (s : State) (hwf : tablesSorted s = true) :
    outSorted (execCaptureEnd p adc s) = true := by
  simp only [execCaptureEnd]
  repeat' split
  all_goals simp (maxDischargeDepth := 30) [*]

theorem execPreampFaultAssert_sorted (a : Fin 4) (s : State) (hwf : tablesSorted s = true) :
    outSorted (execPreampFaultAssert a s) = true := by
  simp (maxDischargeDepth := 30) [execPreampFaultAssert, *]

@[simp] theorem verifyFail_sorted (s : State) (a : ℕ) (hwf : tablesSorted s = true) :
    tablesSorted (verifyFail s a) = true := by
  simp (maxDischargeDepth := 30) [verifyFail, *]

@[simp] theorem frameTaken_sorted (s : State) (a : ℕ) (f : PreampFrame) (hwf : tablesSorted s = true) :
    tablesSorted (frameTaken s a f) = true :=
  sorted_of_within (@frameTaken_frame _ _ (touch_of rfl) s a f (.refl _ _)) hwf

@[simp] theorem accessResult_sorted (s : State) (a : ℕ) (f : PreampFrame) (readback : ℕ) (hwf : tablesSorted s = true) :
    tablesSorted (accessResult s a f readback) = true :=
  sorted_of_within (@accessResult_frame _ _ (touch_of rfl) s a f readback (.refl _ _)) hwf

@[simp] theorem frameDone_sorted (s : State) (a : ℕ) (f : PreampFrame) (readback : ℕ) (parityOk : Bool) (hwf : tablesSorted s = true) :
    tablesSorted (frameDone s a f readback parityOk) = true := by
  simp only [frameDone]
  repeat' split
  all_goals simp (maxDischargeDepth := 30) [*]

theorem execPreampFrameDone_sorted (a : Fin 4) (readback : ℕ) (parityOk : Bool) (s : State) (hwf : tablesSorted s = true) :
    outSorted (execPreampFrameDone a readback parityOk s) = true := by
  simp only [execPreampFrameDone]
  split <;> simp (maxDischargeDepth := 30) [*]

theorem execWritePayloadPoisoned_sorted (p : Fin 8) (entry : ℕ) (s : State) (hwf : tablesSorted s = true) :
    outSorted (execWritePayloadPoisoned p entry s) = true := by
  simp only [execWritePayloadPoisoned]
  repeat' split
  all_goals simp (maxDischargeDepth := 30) [*]

/-! Decoder -/

@[simp] theorem releaseHold_sorted (s : State) (a : ℕ) (h : ℕ) (hwf : tablesSorted s = true) :
    tablesSorted (releaseHold s a h) = true :=
  sorted_of_within (@releaseHold_frame _ _ (touch_of rfl) s a h (.refl _ _)) hwf

theorem execHoldCopyDone_sorted (a : Fin 4) (hold : ℕ) (s : State) (hwf : tablesSorted s = true) :
    outSorted (execHoldCopyDone a hold s) = true := by
  simp only [execHoldCopyDone]
  repeat' split
  all_goals simp (maxDischargeDepth := 30) [*]

@[simp] theorem holdSamples_sorted (s : State) (j : DecodeJob) (hwf : tablesSorted s = true) :
    tablesSorted (holdSamples s j).1 = true :=
  sorted_of_within (@holdSamples_frame _ _ (touch_of rfl) (touch_of rfl) (touch_of rfl) s j (.refl _ _)) hwf

@[simp] theorem noteIterations_sorted (s : State) (j : DecodeJob) (hwf : tablesSorted s = true) :
    tablesSorted (noteIterations s j) = true :=
  sorted_of_within (@noteIterations_frame _ _ (touch_of rfl) s j (.refl _ _)) hwf

@[simp] theorem endOnline_sorted (s : State) (j : DecodeJob) (payload : Option (List Byte)) (hwf : tablesSorted s = true) :
    tablesSorted (endOnline s j payload) = true := by
  simp only [endOnline]
  repeat' split
  all_goals simp (maxDischargeDepth := 30) [*]

@[simp] theorem endJob_sorted (s : State) (j : DecodeJob) (payload : Option (List Byte)) (hwf : tablesSorted s = true) :
    tablesSorted (endJob s j payload) = true := by
  simp only [endJob]
  repeat' split
  all_goals simp (maxDischargeDepth := 30) [*]

@[simp] theorem alignmentFails_sorted (s : State) (j : DecodeJob) (result : ℕ) (hwf : tablesSorted s = true) :
    tablesSorted (alignmentFails s j result) = true := by
  simp (maxDischargeDepth := 30) [alignmentFails, *]

@[simp] theorem freeDetector_sorted (s : State) (core : ℕ) (hwf : tablesSorted s = true) :
    tablesSorted (freeDetector s core) = true :=
  sorted_of_within (@freeDetector_frame _ _ (touch_of rfl) s core (.refl _ _)) hwf

@[simp] theorem freeLdpc_sorted (s : State) (core : ℕ) (hwf : tablesSorted s = true) :
    tablesSorted (freeLdpc s core) = true :=
  sorted_of_within (@freeLdpc_frame _ _ (touch_of rfl) s core (.refl _ _)) hwf

@[simp] theorem countCorrected_sorted (s : State) (check : PassCheck) (hwf : tablesSorted s = true) :
    tablesSorted (countCorrected s check) = true :=
  sorted_of_within (@countCorrected_frame _ _ (touch_of rfl) s check (.refl _ _)) hwf

@[simp] theorem checkerDisagrees_sorted (s : State) (j : DecodeJob) (det : Bool) (core : ℕ) (hwf : tablesSorted s = true) :
    tablesSorted (checkerDisagrees s j det core) = true :=
  sorted_of_within (@checkerDisagrees_frame _ _ (touch_of rfl) (touch_of rfl) (touch_of rfl) (touch_of rfl) s j det core (.refl _ _)) hwf

@[simp] theorem codewordReached_sorted (s : State) (j : DecodeJob) (hard : List Bool) (hwf : tablesSorted s = true) :
    tablesSorted (codewordReached s j hard) = true := by
  simp (maxDischargeDepth := 30) [codewordReached, *]

theorem execLdpcIterationDone_sorted (core : Fin 12) (job : ℕ) (check : PassCheck) (s : State) (hwf : tablesSorted s = true) :
    outSorted (execLdpcIterationDone core job check s) = true := by
  unfold execLdpcIterationDone
  have h : tablesSorted (dispatch s) = true := by simp (maxDischargeDepth := 30) [*]
  dsimp only
  generalize dispatch s = t at h ⊢
  split
  · simpa
  · simp (maxDischargeDepth := 30) [*]

theorem execDecodeDeadline_sorted (job : ℕ) (s : State) (hwf : tablesSorted s = true) :
    outSorted (execDecodeDeadline job s) = true := by
  simp only [execDecodeDeadline]
  split <;> simp (maxDischargeDepth := 30) [*]

@[simp] theorem advanceRing_sorted (s : State) (ring : ℕ) (hwf : tablesSorted s = true) :
    tablesSorted (advanceRing s ring) = true :=
  sorted_of_within (@advanceRing_frame _ _ (touch_of rfl) s ring (.refl _ _)) hwf

theorem execLadderAverage_sorted (ring : Fin 4) (s : State) (hwf : tablesSorted s = true) :
    outSorted (execLadderAverage ring s) = true := by
  simp only [execLadderAverage]
  split <;> simp (maxDischargeDepth := 30) [*]

theorem execLadderRequestEnd_sorted (job : ℕ) (s : State) (hwf : tablesSorted s = true) :
    outSorted (execLadderRequestEnd job s) = true := by
  unfold execLadderRequestEnd
  split
  · exact hwf
  · split
    · exact hwf
    · split
      · exact hwf
      · simp +contextual (maxDischargeDepth := 30) [hwf]

/-! HostCore -/

@[simp] theorem State.setHost_sorted (s : State) (h : HostIf) (hwf : tablesSorted s = true) (hslots : SMap.wf h.slots = true) :
    tablesSorted (State.setHost s h) = true := by
  simp (maxDischargeDepth := 30) [State.setHost, *]

@[simp] theorem putSlot_sorted (s : State) (n : ℕ) (c : CmdSlot) (hwf : tablesSorted s = true) :
    tablesSorted (putSlot s n c) = true := by
  simp (maxDischargeDepth := 30) [putSlot, *]

@[simp] theorem countSlots_sorted (s : State) (hwf : tablesSorted s = true) :
    tablesSorted (countSlots s) = true :=
  sorted_of_within (@countSlots_frame _ _ (touch_of rfl) s (.refl _ _)) hwf

@[simp] theorem freeSlot_sorted (s : State) (n : ℕ) (hwf : tablesSorted s = true) :
    tablesSorted (freeSlot s n) = true := by
  simp (maxDischargeDepth := 30) [freeSlot, *]

@[simp] theorem releaseOne_sorted (s : State) (n : ℕ) (hwf : tablesSorted s = true) :
    tablesSorted (releaseOne s n) = true := by
  simp only [releaseOne]
  split
  · exact hwf
  · split
    · exact hwf
    · refine countSlots_sorted _ (State.setNum_sorted _ _ _ (State.setHost_sorted _ _ (putSlot_sorted _ _ _ hwf) ?_))
      rw [List.map_map]
      exact wf_map (fun e => (unwait _ _ e.2).1) (wf_slots (putSlot_sorted _ _ _ hwf))

@[simp] theorem signal_sorted (s : State) (p : Port) (qid : ℕ) (q : Cq) (hwf : tablesSorted s = true) :
    tablesSorted (signal s p qid q) = true := by
  simp only [signal]
  repeat' split
  all_goals simp (maxDischargeDepth := 30) [*]

@[simp] theorem postNow_sorted (s : State) (p : Port) (qid : ℕ) (q : Cq) (c : Completion) (hwf : tablesSorted s = true) :
    tablesSorted (postNow s p qid q c) = true := by
  simp only [postNow]
  split <;> simp (maxDischargeDepth := 30) [*]

@[simp] theorem postCompletion_sorted (s : State) (p : Port) (qid : ℕ) (c : Completion) (hwf : tablesSorted s = true) :
    tablesSorted (postCompletion s p qid c) = true := by
  simp only [postCompletion]
  repeat' split
  all_goals simp (maxDischargeDepth := 30) [*]

@[simp] theorem settleLock_sorted (fuel : Nat) (s : State) (h : tablesSorted s = true) : tablesSorted (settleLock fuel s) = true := by
  induction fuel generalizing s with
  | zero => simpa [settleLock] using h
  | succ n ih =>
    simp only [settleLock]
    repeat' split
    all_goals simp +contextual (maxDischargeDepth := 30) [*]

@[simp] theorem releaseEntry_sorted (s : State) (n : ℕ) (hwf : tablesSorted s = true) :
    tablesSorted (releaseEntry s n) = true := by
  simp (maxDischargeDepth := 30) [releaseEntry, *]

@[simp] theorem complete_sorted (s : State) (n : ℕ) (sct : ℕ) (sc : ℕ) (dw0 : optParam ℕ 0) (dw1 : optParam ℕ 0) (hwf : tablesSorted s = true) :
    tablesSorted (complete s n sct sc dw0 dw1) = true := by
  simp only [complete]
  split <;> simp (maxDischargeDepth := 30) [*]

@[simp] theorem completeWith_sorted (s : State) (n : ℕ) (st : ℕ × ℕ) (dw0 : optParam ℕ 0) (dw1 : optParam ℕ 0) (hwf : tablesSorted s = true) :
    tablesSorted (completeWith s n st dw0 dw1) = true := by
  simp (maxDischargeDepth := 30) [completeWith, *]

@[simp] theorem giveNotices_sorted (fuel : Nat) (s : State) (p : Port) (h : tablesSorted s = true) : tablesSorted (giveNotices fuel s p) = true := by
  induction fuel generalizing s with
  | zero => simpa [giveNotices] using h
  | succ n ih =>
    simp only [giveNotices]
    repeat' split
    all_goals simp +contextual (maxDischargeDepth := 30) [*]

@[simp] theorem asyncNotice_sorted (s : State) (page : ℕ) (hwf : tablesSorted s = true) :
    tablesSorted (asyncNotice s page) = true := by
  unfold asyncNotice
  simp_all (maxDischargeDepth := 30)

@[simp] theorem activationNotice_sorted (s : State) (hwf : tablesSorted s = true) :
    tablesSorted (activationNotice s) = true := by
  unfold activationNotice
  simp_all (maxDischargeDepth := 30)

@[simp] theorem activationResumes_sorted (s : State) (hwf : tablesSorted s = true) :
    tablesSorted (activationResumes s) = true := by
  unfold activationResumes
  simp_all (maxDischargeDepth := 30)

@[simp] theorem finishShutdown_sorted (s : State) (hwf : tablesSorted s = true) :
    tablesSorted (finishShutdown s) = true := by
  simp (maxDischargeDepth := 30) [finishShutdown, *]

/-! Ledger -/

@[simp] theorem State.setColl_sorted (s : State) (c : Collector) (hwf : tablesSorted s = true) :
    tablesSorted (State.setColl s c) = true :=
  sorted_of_within (@State.setColl_frame _ _ (touch_of rfl) s c (.refl _ _)) hwf

@[simp] theorem capture_sorted (s : State) (r : ℕ) (ev : Event) (hwf : tablesSorted s = true) :
    tablesSorted (capture s r ev) = true :=
  sorted_of_within (@capture_frame _ _ (touch_of rfl) s r ev (.refl _ _)) hwf

@[simp] theorem captureAll_sorted (s : State) (ev : Event) (hwf : tablesSorted s = true) :
    tablesSorted (captureAll s ev) = true :=
  sorted_of_within (@captureAll_frame _ _ (touch_of rfl) s ev (.refl _ _)) hwf

@[simp] theorem countEvent_sorted (s : State) (ev : Event) (hwf : tablesSorted s = true) :
    tablesSorted (countEvent s ev).2 = true :=
  sorted_of_within (@countEvent_frame _ _ (touch_of rfl) (touch_of rfl) (touch_of rfl) s ev (.refl _ _)) hwf

@[simp] theorem countRecords_sorted (s : State) (hwf : tablesSorted s = true) :
    tablesSorted (countRecords s) = true :=
  sorted_of_within (@countRecords_frame _ _ (touch_of rfl) s (.refl _ _)) hwf

@[simp] theorem recordNotice_sorted (s : State) (severity : ℕ) (hwf : tablesSorted s = true) :
    tablesSorted (recordNotice s severity) = true := by
  simp (maxDischargeDepth := 30) [recordNotice, *]

@[simp] theorem appendRecord_sorted (s : State) (r : Record) (hwf : tablesSorted s = true) :
    tablesSorted (appendRecord s r) = true := by
  simp only [appendRecord]
  repeat' split
  all_goals simp (maxDischargeDepth := 30) [*]

@[simp] theorem writeRecord_sorted (s : State) (r : Record) (hwf : tablesSorted s = true) :
    tablesSorted (writeRecord s r) = true := by
  simp (maxDischargeDepth := 30) [writeRecord, *]

@[simp] theorem zeroDrops_sorted (s : State) (hwf : tablesSorted s = true) :
    tablesSorted (zeroDrops s) = true :=
  sorted_of_within (@zeroDrops_frame _ _ (touch_of rfl) s (.refl _ _)) hwf

@[simp] theorem clearLedger_sorted (s : State) (v : ℕ) (port : ℕ) (hwf : tablesSorted s = true) :
    tablesSorted (clearLedger s v port) = true := by
  simp (maxDischargeDepth := 30) [clearLedger, *]

@[simp] theorem startMirror_sorted (s : State) (hwf : tablesSorted s = true) :
    tablesSorted (startMirror s) = true :=
  sorted_of_within (@startMirror_frame _ _ (touch_of rfl) s (.refl _ _)) hwf

@[simp] theorem restoreLedger_sorted (s : State) (hwf : tablesSorted s = true) :
    tablesSorted (restoreLedger s) = true := by
  unfold restoreLedger
  simp_all (maxDischargeDepth := 30)

/-! MainReset -/

@[simp] theorem State.setStart_sorted (s : State) (t : Start) (hwf : tablesSorted s = true) :
    tablesSorted (State.setStart s t) = true :=
  sorted_of_within (@State.setStart_frame _ _ (touch_of rfl) s t (.refl _ _)) hwf

@[simp] theorem State.setPower_sorted (s : State) (p : Power) (hwf : tablesSorted s = true) :
    tablesSorted (State.setPower s p) = true :=
  sorted_of_within (@State.setPower_frame _ _ (touch_of rfl) s p (.refl _ _)) hwf

@[simp] theorem State.setMem_sorted (s : State) (m : Memory) (hwf : tablesSorted s = true) (hlines : linesSorted m = true) :
    tablesSorted (State.setMem s m) = true := by
  simp (maxDischargeDepth := 30) [State.setMem, *]

@[simp] theorem State.setLayout_sorted (s : State) (l : Layout) (hwf : tablesSorted s = true) (hremap : SMap.wf l.remap = true) :
    tablesSorted (State.setLayout s l) = true := by
  simp (maxDischargeDepth := 30) [State.setLayout, *]

@[simp] theorem State.setFw_sorted (s : State) (f : Firmware) (hwf : tablesSorted s = true) :
    tablesSorted (State.setFw s f) = true :=
  sorted_of_within (@State.setFw_frame _ _ (touch_of rfl) s f (.refl _ _)) hwf

@[simp] theorem State.setMedia_sorted (s : State) (m : Media) (hwf : tablesSorted s = true) :
    tablesSorted (State.setMedia s m) = true :=
  sorted_of_within (@State.setMedia_frame _ _ (touch_of rfl) s m (.refl _ _)) hwf

@[simp] theorem freshSequence_sorted (s : State) (hwf : tablesSorted s = true) :
    tablesSorted (freshSequence s) = true :=
  sorted_of_within (@freshSequence_frame _ _ (touch_of rfl) (touch_of rfl) (touch_of rfl) s (.refl _ _)) hwf

@[simp] theorem mainReset_sorted (s : State) (h : tablesSorted s = true) : tablesSorted (mainReset s) = true := by
  unfold mainReset
  rw [tablesSorted_mk]
  exact Bool.and_eq_true_iff.mpr ⟨rfl, wf_remap h⟩

@[simp] theorem faultOut_sorted (s : State) (hwf : tablesSorted s = true) :
    tablesSorted (faultOut s) = true :=
  sorted_of_within (@faultOut_frame _ _ (touch_of rfl) s (.refl _ _)) hwf

@[simp] theorem setDegraded_sorted (s : State) (i : ℕ) (b : Bool) (hwf : tablesSorted s = true) :
    tablesSorted (setDegraded s i b) = true :=
  sorted_of_within (@setDegraded_frame _ _ (touch_of rfl) s i b (.refl _ _)) hwf

@[simp] theorem setControl_sorted (s : State) (active : ℕ) (pending : ℕ) (hwf : tablesSorted s = true) :
    tablesSorted (setControl s active pending) = true :=
  sorted_of_within (@setControl_frame _ _ (touch_of rfl) s active pending (.refl _ _)) hwf

@[simp] theorem pendingFails_sorted (s : State) (step : ℕ) (hwf : tablesSorted s = true) :
    tablesSorted (pendingFails s step) = true :=
  sorted_of_within (@pendingFails_frame _ _ (touch_of rfl) (touch_of rfl) s step (.refl _ _)) hwf

@[simp] theorem modRecord_sorted (s : State) (f : StartRecord → StartRecord) (hwf : tablesSorted s = true) :
    tablesSorted (modRecord s f) = true :=
  sorted_of_within (@modRecord_frame _ _ (touch_of rfl) s f (.refl _ _)) hwf

@[simp] theorem stepResult_sorted (s : State) (step : ℕ) (code : ℕ) (hwf : tablesSorted s = true) :
    tablesSorted (stepResult s step code) = true :=
  sorted_of_within (@stepResult_frame _ _ (touch_of rfl) s step code (.refl _ _)) hwf

@[simp] theorem sealRecord_sorted (s : State) (endCode : ℕ) (failedStep : ℕ) (detail : ℕ) (hwf : tablesSorted s = true) :
    tablesSorted (sealRecord s endCode failedStep detail) = true :=
  sorted_of_within (@sealRecord_frame _ _ (touch_of rfl) s endCode failedStep detail (.refl _ _)) hwf

/-! Drive -/

@[simp] theorem State.setMotion_sorted (s : State) (m : Motion) (hwf : tablesSorted s = true) :
    tablesSorted (State.setMotion s m) = true :=
  sorted_of_within (@State.setMotion_frame _ _ (touch_of rfl) s m (.refl _ _)) hwf

@[simp] theorem retract_sorted (s : State) (a : ℕ) (hwf : tablesSorted s = true) :
    tablesSorted (retract s a) = true :=
  sorted_of_within (@retract_frame _ _ (touch_of rfl) (touch_of rfl) (touch_of rfl) s a (.refl _ _)) hwf

@[simp] theorem retractLoaded_sorted (s : State) (hwf : tablesSorted s = true) :
    tablesSorted (retractLoaded s) = true :=
  sorted_of_within (@retractLoaded_frame _ _ (touch_of rfl) (touch_of rfl) (touch_of rfl) s (.refl _ _)) hwf

@[simp] theorem driveFault_sorted (s : State) (a : ℕ) (i : ℕ) (hwf : tablesSorted s = true) :
    tablesSorted (driveFault s a i) = true :=
  sorted_of_within (@driveFault_frame _ _ (touch_of rfl) s a i (.refl _ _)) hwf

@[simp] theorem showStatus_sorted (s : State) (hwf : tablesSorted s = true) :
    tablesSorted (showStatus s) = true :=
  sorted_of_within (@showStatus_frame _ _ (touch_of rfl) s (.refl _ _)) hwf

@[simp] theorem spinTo_sorted (s : State) (mode : ℕ) (hwf : tablesSorted s = true) :
    tablesSorted (spinTo s mode) = true :=
  sorted_of_within (@spinTo_frame _ _ (touch_of rfl) s mode (.refl _ _)) hwf

@[simp] theorem spinHold_sorted (s : State) (hwf : tablesSorted s = true) :
    tablesSorted (spinHold s) = true :=
  sorted_of_within (@spinHold_frame _ _ (touch_of rfl) s (.refl _ _)) hwf

@[simp] theorem spinRein_sorted (s : State) (hwf : tablesSorted s = true) :
    tablesSorted (spinRein s) = true :=
  sorted_of_within (@spinRein_frame _ _ (touch_of rfl) s (.refl _ _)) hwf

@[simp] theorem spinCancel_sorted (s : State) (hwf : tablesSorted s = true) :
    tablesSorted (spinCancel s) = true :=
  sorted_of_within (@spinCancel_frame _ _ (touch_of rfl) s (.refl _ _)) hwf

@[simp] theorem spinStop_sorted (s : State) (hwf : tablesSorted s = true) :
    tablesSorted (spinStop s) = true :=
  sorted_of_within (@spinStop_frame _ _ (touch_of rfl) (touch_of rfl) s (.refl _ _)) hwf

@[simp] theorem surfaceTo_sorted (s : State) (u : ℕ) (st : ℕ) (hwf : tablesSorted s = true) :
    tablesSorted (surfaceTo s u st) = true := by
  simp (maxDischargeDepth := 30) [surfaceTo, *]

@[simp] theorem surfacesFail_sorted (s : State) (a : ℕ) (hwf : tablesSorted s = true) :
    tablesSorted (surfacesFail s a) = true := by
  unfold surfacesFail
  simp_all (maxDischargeDepth := 30)

@[simp] theorem surfacesGood_sorted (s : State) (a : ℕ) (hwf : tablesSorted s = true) :
    tablesSorted (surfacesGood s a) = true := by
  unfold surfacesGood
  simp_all (maxDischargeDepth := 30)

@[simp] theorem followPlayers_sorted (s : State) (a : ℕ) (hwf : tablesSorted s = true) :
    tablesSorted (followPlayers s a) = true :=
  sorted_of_within (@followPlayers_frame _ _ (touch_of rfl) s a (.refl _ _)) hwf

@[simp] theorem setActuator_sorted (s : State) (a : ℕ) (st : ℕ) (hwf : tablesSorted s = true) :
    tablesSorted (setActuator s a st) = true := by
  simp (maxDischargeDepth := 30) [setActuator, *]

@[simp] theorem markFenced_sorted (s : State) (a : ℕ) (hwf : tablesSorted s = true) :
    tablesSorted (markFenced s a) = true :=
  sorted_of_within (@markFenced_frame _ _ (touch_of rfl) s a (.refl _ _)) hwf

@[simp] theorem fenceActuator_sorted (s : State) (a : ℕ) (o : Outcome) (hwf : tablesSorted s = true) :
    tablesSorted (fenceActuator s a o) = true := by
  simp (maxDischargeDepth := 30) [fenceActuator, *]

@[simp] theorem fenceAborting_sorted (s : State) (a : ℕ) (hwf : tablesSorted s = true) :
    tablesSorted (fenceAborting s a) = true := by
  simp (maxDischargeDepth := 30) [fenceAborting, *]

@[simp] theorem parkActuator_sorted (s : State) (a : ℕ) (hwf : tablesSorted s = true) :
    tablesSorted (parkActuator s a) = true := by
  simp (maxDischargeDepth := 30) [parkActuator, *]

@[simp] theorem preampSwitch_sorted (s : State) (a : ℕ) (on : Bool) (hwf : tablesSorted s = true) :
    tablesSorted (preampSwitch s a on) = true :=
  sorted_of_within (@preampSwitch_frame _ _ (touch_of rfl) s a on (.refl _ _)) hwf

@[simp] theorem preampFaulted_sorted (s : State) (a : ℕ) (hwf : tablesSorted s = true) :
    tablesSorted (preampFaulted s a) = true := by
  simp (maxDischargeDepth := 30) [preampFaulted, *]

theorem execPreampFaultPersist_sorted (a : Fin 4) (s : State) (hwf : tablesSorted s = true) :
    outSorted (execPreampFaultPersist a s) = true := by
  simp (maxDischargeDepth := 30) [execPreampFaultPersist, *]

theorem execV3p3Overcurrent_sorted (a : Fin 4) (s : State) (hwf : tablesSorted s = true) :
    outSorted (execV3p3Overcurrent a s) = true := by
  simp (maxDischargeDepth := 30) [execV3p3Overcurrent, *]

@[simp] theorem heaterZero_sorted (s : State) (a : ℕ) (hwf : tablesSorted s = true) :
    tablesSorted (heaterZero s a) = true :=
  sorted_of_within (@heaterZero_frame _ _ (touch_of rfl) (touch_of rfl) s a (.refl _ _)) hwf

@[simp] theorem gatesOff_sorted (s : State) (hwf : tablesSorted s = true) :
    tablesSorted (gatesOff s) = true := by
  unfold gatesOff
  simp_all (maxDischargeDepth := 30)

@[simp] theorem sendResetNotice_sorted (s : State) (hwf : tablesSorted s = true) :
    tablesSorted (sendResetNotice s) = true :=
  sorted_of_within (@sendResetNotice_frame _ _ (touch_of rfl) (touch_of rfl) (touch_of rfl) s (.refl _ _)) hwf

@[simp] theorem endAttempt_sorted (s : State) (stopSpindle : Bool) (hwf : tablesSorted s = true) :
    tablesSorted (endAttempt s stopSpindle) = true := by
  unfold endAttempt
  repeat' split
  all_goals simp_all (maxDischargeDepth := 30)

@[simp] theorem halt_sorted (s : State) (hwf : tablesSorted s = true) :
    tablesSorted (halt s) = true :=
  sorted_of_within (@halt_frame _ _ (touch_of rfl) (touch_of rfl) (touch_of rfl) s (.refl _ _)) hwf

@[simp] theorem romMaintenance_sorted (s : State) (hwf : tablesSorted s = true) :
    tablesSorted (romMaintenance s) = true :=
  sorted_of_within (@romMaintenance_frame _ _ (touch_of rfl) (touch_of rfl) s (.refl _ _)) hwf

@[simp] theorem holdRaised_sorted (s : State) (ev : List Event) (hwf : tablesSorted s = true) :
    tablesSorted (holdRaised s ev) = true :=
  sorted_of_within (@holdRaised_frame _ _ (touch_of rfl) s ev (.refl _ _)) hwf

@[simp] theorem maintenanceEntry_sorted (s : State) (hwf : tablesSorted s = true) :
    tablesSorted (maintenanceEntry s) = true :=
  sorted_of_within (@maintenanceEntry_frame _ _ (touch_of rfl) (touch_of rfl) (touch_of rfl) (touch_of rfl) (touch_of rfl) (touch_of rfl) s (.refl _ _)) hwf

@[simp] theorem failAttempt_sorted (s : State) (code : ℕ) (detail : ℕ) (deadline : optParam Bool false) (hwf : tablesSorted s = true) :
    tablesSorted (failAttempt s code detail deadline) = true := by
  simp (maxDischargeDepth := 30) [failAttempt, *]

@[simp] theorem safeEntry_sorted (s : State) (cause : ℕ) (hwf : tablesSorted s = true) :
    tablesSorted (safeEntry s cause) = true := by
  unfold safeEntry
  simp_all (maxDischargeDepth := 30)

@[simp] theorem plainRecord_sorted (s : State) (ev : Event) (r : ℕ × Bool) (action : ℕ) (hwf : tablesSorted s = true) :
    tablesSorted (plainRecord s ev r action) = true := by
  simp (maxDischargeDepth := 30) [plainRecord, *]

@[simp] theorem safeBy_sorted (s : State) (ev : Event) (hwf : tablesSorted s = true) :
    tablesSorted (safeBy s ev) = true := by
  simp (maxDischargeDepth := 30) [safeBy, *]

/-! ReinEngine -/

@[simp] theorem setEngState_sorted (s : State) (e : ℕ) (st : ℕ) (hwf : tablesSorted s = true) :
    tablesSorted (setEngState s e st) = true :=
  sorted_of_within (@setEngState_frame _ _ (touch_of rfl) s e st (.refl _ _)) hwf

@[simp] theorem setEngRole_sorted (s : State) (e : ℕ) (r : ℕ) (hwf : tablesSorted s = true) :
    tablesSorted (setEngRole s e r) = true :=
  sorted_of_within (@setEngRole_frame _ _ (touch_of rfl) s e r (.refl _ _)) hwf

@[simp] theorem regroup_sorted (s : State) (g : ℕ) (hwf : tablesSorted s = true) :
    tablesSorted (regroup s g) = true :=
  sorted_of_within (@regroup_frame _ _ (touch_of rfl) s g (.refl _ _)) hwf

@[simp] theorem State.setBlob_sorted (s : State) (k : Key) (b : List Byte) (hwf : tablesSorted s = true) :
    tablesSorted (State.setBlob s k b) = true :=
  sorted_of_within (@State.setBlob_frame _ _ (touch_of rfl) (touch_of rfl) s k b (.refl _ _)) hwf

@[simp] theorem loadProgram_sorted (s : State) (e : ℕ) (hwf : tablesSorted s = true) :
    tablesSorted (loadProgram s e) = true :=
  sorted_of_within (@loadProgram_frame _ _ (touch_of rfl) s e (.refl _ _)) hwf

@[simp] theorem loadInitial_sorted (s : State) (e : ℕ) (hwf : tablesSorted s = true) :
    tablesSorted (loadInitial s e) = true :=
  sorted_of_within (@loadInitial_frame _ _ (touch_of rfl) s e (.refl _ _)) hwf

@[simp] theorem queueCoefs_sorted (s : State) (g : ℕ) (l : List (ℕ × Coef)) (hwf : tablesSorted s = true) :
    tablesSorted (queueCoefs s g l) = true :=
  sorted_of_within (@queueCoefs_frame _ _ (touch_of rfl) s g l (.refl _ _)) hwf

@[simp] theorem takeoverRoles_sorted (s : State) (g : ℕ) (e : ℕ) (hwf : tablesSorted s = true) :
    tablesSorted (takeoverRoles s g e) = true :=
  sorted_of_within (@takeoverRoles_frame _ _ (touch_of rfl) s g e (.refl _ _)) hwf

@[simp] theorem traceEvent_sorted (s : State) (a : ℕ) (i : ℕ) (hwf : tablesSorted s = true) :
    tablesSorted (traceEvent s a i) = true :=
  sorted_of_within (@traceEvent_frame _ _ (touch_of rfl) s a i (.refl _ _)) hwf

@[simp] theorem engineOut_sorted (s : State) (e : ℕ) (hwf : tablesSorted s = true) :
    tablesSorted (engineOut s e) = true :=
  sorted_of_within (@engineOut_frame _ _ (touch_of rfl) (touch_of rfl) (touch_of rfl) (touch_of rfl) s e (.refl _ _)) hwf

@[simp] theorem fenceEngine_sorted (s : State) (e : ℕ) (hwf : tablesSorted s = true) :
    tablesSorted (fenceEngine s e) = true :=
  sorted_of_within (@fenceEngine_frame _ _ (touch_of rfl) (touch_of rfl) (touch_of rfl) (touch_of rfl) (touch_of rfl) s e (.refl _ _)) hwf

@[simp] theorem holdMissed_sorted (s : State) (g : ℕ) (hwf : tablesSorted s = true) :
    tablesSorted (holdMissed s g) = true :=
  sorted_of_within (@holdMissed_frame _ _ (touch_of rfl) (touch_of rfl) s g (.refl _ _)) hwf

@[simp] theorem parkGroup_sorted (s : State) (g : ℕ) (hwf : tablesSorted s = true) :
    tablesSorted (parkGroup s g) = true := by
  simp (maxDischargeDepth := 30) [parkGroup, *]

@[simp] theorem parkIfAlone_sorted (s : State) (g : ℕ) (hwf : tablesSorted s = true) :
    tablesSorted (parkIfAlone s g) = true := by
  simp (maxDischargeDepth := 30) [parkIfAlone, *]

@[simp] theorem startRun_sorted (s : State) (e : ℕ) (entry : ℕ) (inputs : SMap Word32) (rerun : Bool) (hwf : tablesSorted s = true) :
    tablesSorted (startRun s e entry inputs rerun) = true :=
  sorted_of_within (@startRun_frame _ _ (touch_of rfl) s e entry inputs rerun (.refl _ _)) hwf

@[simp] theorem joinRegisters_sorted (s : State) (g : ℕ) (active : ℕ) (hwf : tablesSorted s = true) :
    tablesSorted (joinRegisters s g active) = true :=
  sorted_of_within (@joinRegisters_frame _ _ (touch_of rfl) (touch_of rfl) s g active (.refl _ _)) hwf

@[simp] theorem takeCheckpoint_sorted (s : State) (e : ℕ) (hwf : tablesSorted s = true) :
    tablesSorted (takeCheckpoint s e) = true :=
  sorted_of_within (@takeCheckpoint_frame _ _ (touch_of rfl) (touch_of rfl) (touch_of rfl) (touch_of rfl) s e (.refl _ _)) hwf

@[simp] theorem serveTrigger_sorted (s : State) (e : ℕ) (entry : ℕ) (inputs : SMap Word32) (hwf : tablesSorted s = true) :
    tablesSorted (serveTrigger s e entry inputs) = true :=
  sorted_of_within (@serveTrigger_frame _ _ (touch_of rfl) (touch_of rfl) (touch_of rfl) (touch_of rfl) s e entry inputs (.refl _ _)) hwf

@[simp] theorem triggerEngine_sorted (s : State) (e : ℕ) (entry : ℕ) (inputs : SMap Word32) (hwf : tablesSorted s = true) :
    tablesSorted (triggerEngine s e entry inputs) = true :=
  sorted_of_within (@triggerEngine_frame _ _ (touch_of rfl) (touch_of rfl) (touch_of rfl) (touch_of rfl) s e entry inputs (.refl _ _)) hwf

@[simp] theorem afterRun_sorted (s : State) (e : ℕ) (hwf : tablesSorted s = true) :
    tablesSorted (afterRun s e) = true :=
  sorted_of_within (@afterRun_frame _ _ (touch_of rfl) (touch_of rfl) (touch_of rfl) (touch_of rfl) s e (.refl _ _)) hwf

@[simp] theorem countSat_sorted (s : State) (e : ℕ) (hwf : tablesSorted s = true) :
    tablesSorted (countSat s e) = true :=
  sorted_of_within (@countSat_frame _ _ (touch_of rfl) (touch_of rfl) s e (.refl _ _)) hwf

@[simp] theorem deliver_sorted (s : State) (e : ℕ) (r : Run) (hwf : tablesSorted s = true) :
    tablesSorted (deliver s e r) = true :=
  sorted_of_within (@deliver_frame _ _ (touch_of rfl) (touch_of rfl) (touch_of rfl) (touch_of rfl) (touch_of rfl) s e r (.refl _ _)) hwf

@[simp] theorem stopRun_sorted (s : State) (e : ℕ) (why : ℕ) (hwf : tablesSorted s = true) :
    tablesSorted (stopRun s e why) = true :=
  sorted_of_within (@stopRun_frame _ _ (touch_of rfl) (touch_of rfl) (touch_of rfl) (touch_of rfl) (touch_of rfl) (touch_of rfl) s e why (.refl _ _)) hwf

@[simp] theorem actuatorInputs_sorted (s : State) (a : ℕ) (hwf : tablesSorted s = true) :
    tablesSorted (actuatorInputs s a).2 = true :=
  sorted_of_within (@actuatorInputs_frame _ _ (touch_of rfl) (touch_of rfl) s a (.refl _ _)) hwf

@[simp] theorem spindleInputs_sorted (s : State) (hwf : tablesSorted s = true) :
    tablesSorted (spindleInputs s).2 = true :=
  sorted_of_within (@spindleInputs_frame _ _ (touch_of rfl) s (.refl _ _)) hwf

@[simp] theorem groupInputs_sorted (s : State) (g : ℕ) (hwf : tablesSorted s = true) :
    tablesSorted (groupInputs s g).2 = true :=
  sorted_of_within (@groupInputs_frame _ _ (touch_of rfl) (touch_of rfl) s g (.refl _ _)) hwf

@[simp] theorem traceSample_sorted (s : State) (a : ℕ) (inner : Bool) (hwf : tablesSorted s = true) :
    tablesSorted (traceSample s a inner) = true :=
  sorted_of_within (@traceSample_frame _ _ (touch_of rfl) (touch_of rfl) s a inner (.refl _ _)) hwf

@[simp] theorem holdPosition_sorted (s : State) (g : ℕ) (entry : ℕ) (hwf : tablesSorted s = true) :
    tablesSorted (holdPosition s g entry) = true := by
  simp (maxDischargeDepth := 30) [holdPosition, *]

@[simp] theorem missLatch_sorted (s : State) (g : ℕ) (entry : ℕ) (hwf : tablesSorted s = true) :
    tablesSorted (missLatch s g entry) = true := by
  simp (maxDischargeDepth := 30) [missLatch, *]

@[simp] theorem lostRun_sorted (s : State) (g : ℕ) (entry : ℕ) (hwf : tablesSorted s = true) :
    tablesSorted (lostRun s g entry) = true := by
  simp (maxDischargeDepth := 30) [lostRun, *]

@[simp] theorem takeOffset_sorted (s : State) (g : ℕ) (entry : ℕ) (hwf : tablesSorted s = true) :
    tablesSorted (takeOffset s g entry) = true :=
  sorted_of_within (@takeOffset_frame _ _ (touch_of rfl) s g entry (.refl _ _)) hwf

@[simp] theorem groupTrigger_sorted (s : State) (g : ℕ) (entry : ℕ) (hwf : tablesSorted s = true) :
    tablesSorted (groupTrigger s g entry) = true := by
  unfold groupTrigger
  repeat' split
  all_goals simp_all (maxDischargeDepth := 30)

/-! ReinAlu -/

@[simp] theorem reinStep_sorted (e : Fin 16) (w : ℕ) (f : Engine → Engine) (s : State) (hwf : tablesSorted s = true) :
    tablesSorted (reinStep e w f s) = true :=
  sorted_of_within (@reinStep_frame _ _ (touch_of rfl) e w f s (.refl _ _)) hwf

@[simp] theorem reinCtx_sorted (e : Fin 16) (w : ℕ) (f : Context → Context) (s : State) (hwf : tablesSorted s = true) :
    outSorted (reinCtx e w f s) = true :=
  sorted_of_within (@reinCtx_frame _ _ (touch_of rfl) e w f s (.refl _ _)) hwf

@[simp] theorem reinFault_sorted (e : Fin 16) (w : ℕ) (s : State) (hwf : tablesSorted s = true) :
    outSorted (reinFault e w s) = true := by
  simp (maxDischargeDepth := 30) [reinFault, *]

/-! ReinGroup -/

@[simp] theorem clearDelivered_sorted (s : State) (g : ℕ) (entry : ℕ) (hwf : tablesSorted s = true) :
    tablesSorted (clearDelivered s g entry) = true :=
  sorted_of_within (@clearDelivered_frame _ _ (touch_of rfl) s g entry (.refl _ _)) hwf

@[simp] theorem rollBack_sorted (s : State) (g : ℕ) (e : ℕ) (hwf : tablesSorted s = true) :
    tablesSorted (rollBack s g e) = true :=
  sorted_of_within (@rollBack_frame _ _ (touch_of rfl) s g e (.refl _ _)) hwf

@[simp] theorem pairHold_sorted (s : State) (g : ℕ) (entry : ℕ) (voters : List ℕ) (hwf : tablesSorted s = true) :
    tablesSorted (pairHold s g entry voters) = true := by
  unfold pairHold
  repeat' split
  all_goals simp_all (maxDischargeDepth := 30)

@[simp] theorem probationCompare_sorted (s : State) (g : ℕ) (entry : ℕ) (set : SMap Word32) (hwf : tablesSorted s = true) :
    tablesSorted (probationCompare s g entry set) = true :=
  sorted_of_within (@probationCompare_frame _ _ (touch_of rfl) (touch_of rfl) (touch_of rfl) (touch_of rfl) (touch_of rfl) s g entry set (.refl _ _)) hwf

@[simp] theorem agree_sorted (s : State) (g : ℕ) (entry : ℕ) (set : SMap Word32) (hwf : tablesSorted s = true) :
    tablesSorted (agree s g entry set) = true :=
  sorted_of_within (@agree_frame _ _ (touch_of rfl) (touch_of rfl) (touch_of rfl) (touch_of rfl) s g entry set (.refl _ _)) hwf

theorem execReinCompare_sorted (g : Fin 5) (entry : Fin 3) (s : State) (hwf : tablesSorted s = true) :
    outSorted (execReinCompare g entry s) = true := by
  unfold execReinCompare
  dsimp only
  repeat' split
  all_goals rw [outSorted_next]
  all_goals simp +contextual (maxDischargeDepth := 30) [hwf]

theorem execPairHoldRerunEnd_sorted (g : Fin 5) (s : State) (hwf : tablesSorted s = true) :
    outSorted (execPairHoldRerunEnd g s) = true := by
  unfold execPairHoldRerunEnd
  dsimp only
  split
  · exact hwf
  repeat' split
  all_goals rw [outSorted_next]
  all_goals simp +contextual (maxDischargeDepth := 30) [hwf]

@[simp] theorem setPointFrame_sorted (s : State) (a : ℕ) (reg : ℕ) (v : ℕ) (hwf : tablesSorted s = true) :
    tablesSorted (setPointFrame s a reg v) = true :=
  sorted_of_within (@setPointFrame_frame _ _ (touch_of rfl) (touch_of rfl) s a reg v (.refl _ _)) hwf

@[simp] theorem sendSetPoints_sorted (s : State) (a : ℕ) (hwf : tablesSorted s = true) :
    tablesSorted (sendSetPoints s a) = true :=
  sorted_of_within (@sendSetPoints_frame _ _ (touch_of rfl) (touch_of rfl) s a (.refl _ _)) hwf

@[simp] theorem latchEffects_sorted (s : State) (g : ℕ) (entry : ℕ) (hwf : tablesSorted s = true) :
    tablesSorted (latchEffects s g entry) = true :=
  sorted_of_within (@latchEffects_frame _ _ (touch_of rfl) (touch_of rfl) (touch_of rfl) (touch_of rfl) s g entry (.refl _ _)) hwf

theorem execReinMemoryFault_sorted (e : Fin 16) (s : State) (hwf : tablesSorted s = true) :
    outSorted (execReinMemoryFault e s) = true := by
  simp (maxDischargeDepth := 30) [execReinMemoryFault, *]

@[simp] theorem spareJoin_sorted (s : State) (g : ℕ) (slot : ℕ) (hwf : tablesSorted s = true) :
    tablesSorted (spareJoin s g slot) = true :=
  sorted_of_within (@spareJoin_frame _ _ (touch_of rfl) (touch_of rfl) (touch_of rfl) s g slot (.refl _ _)) hwf

@[simp] theorem coefQueue_sorted (s : State) (g : ℕ) (value : List Byte) (hwf : tablesSorted s = true) :
    tablesSorted (coefQueue s g value) = true :=
  sorted_of_within (@coefQueue_frame _ _ (touch_of rfl) s g value (.refl _ _)) hwf

@[simp] theorem snapAsk_sorted (s : State) (g : ℕ) (v : ℕ) (hwf : tablesSorted s = true) :
    tablesSorted (snapAsk s g v) = true :=
  sorted_of_within (@snapAsk_frame _ _ (touch_of rfl) s g v (.refl _ _)) hwf

@[simp] theorem injectAsk_sorted (s : State) (g : ℕ) (slot : ℕ) (hwf : tablesSorted s = true) :
    tablesSorted (injectAsk s g slot) = true :=
  sorted_of_within (@injectAsk_frame _ _ (touch_of rfl) s g slot (.refl _ _)) hwf

@[simp] theorem traceArmNow_sorted (s : State) (a : ℕ) (v : ℕ) (hwf : tablesSorted s = true) :
    tablesSorted (traceArmNow s a v) = true :=
  sorted_of_within (@traceArmNow_frame _ _ (touch_of rfl) (touch_of rfl) s a v (.refl _ _)) hwf

@[simp] theorem traceForceNow_sorted (s : State) (a : ℕ) (v : ℕ) (hwf : tablesSorted s = true) :
    tablesSorted (traceForceNow s a v) = true :=
  sorted_of_within (@traceForceNow_frame _ _ (touch_of rfl) s a v (.refl _ _)) hwf

theorem execOuterTrigger_sorted (a : Fin 4) (s : State) (hwf : tablesSorted s = true) :
    outSorted (execOuterTrigger a s) = true := by
  simp (maxDischargeDepth := 30) [execOuterTrigger, *]

theorem execSpindleReinTrigger_sorted (entry : Fin 3) (s : State) (hwf : tablesSorted s = true) :
    outSorted (execSpindleReinTrigger entry s) = true := by
  simp (maxDischargeDepth := 30) [execSpindleReinTrigger, *]

/-! Reset -/

@[simp] theorem quiesceHosts_sorted (s : State) (hwf : tablesSorted s = true) :
    tablesSorted (quiesceHosts s) = true := by
  unfold quiesceHosts
  refine State.each_sorted (State.each_sorted (countSlots_sorted _ (State.setHost_sorted _ _ (State.setPower_sorted _ _ hwf) rfl))
    fun t p h => ?_) fun t p h => ?_
  · exact State.modCtrl_sorted t p _ h
  · simp [h]

@[simp] theorem startDump_sorted (s : State) (hwf : tablesSorted s = true) :
    tablesSorted (startDump s) = true := by
  simp only [startDump]
  split <;> simp (maxDischargeDepth := 30) [*]

@[simp] theorem shutDown_sorted (s : State) (hwf : tablesSorted s = true) :
    tablesSorted (shutDown s) = true := by
  unfold shutDown
  simp_all (maxDischargeDepth := 30)

@[simp] theorem beginOff_sorted (s : State) (c : OffCause) (hwf : tablesSorted s = true) :
    tablesSorted (beginOff s c) = true := by
  simp only [beginOff]
  split <;> simp (maxDischargeDepth := 30) [*]

@[simp] theorem parkedSwitches_sorted (s : State) (hwf : tablesSorted s = true) :
    tablesSorted (parkedSwitches s) = true :=
  sorted_of_within (@parkedSwitches_frame _ _ (touch_of rfl) s (.refl _ _)) hwf

@[simp] theorem powerFail_sorted (s : State) (c : OffCause) (hwf : tablesSorted s = true) :
    tablesSorted (powerFail s c) = true := by
  simp (maxDischargeDepth := 30) [powerFail, *]

@[simp] theorem restartReset_sorted (s : State) (hwf : tablesSorted s = true) :
    tablesSorted (restartReset s) = true := by
  unfold restartReset
  simp_all (maxDischargeDepth := 30)

@[simp] theorem settleRestart_sorted (s : State) (hwf : tablesSorted s = true) :
    tablesSorted (settleRestart s) = true := by
  simp (maxDischargeDepth := 30) [settleRestart, *]

@[simp] theorem railsCut_sorted (s : State) (h : tablesSorted s = true) : tablesSorted (railsCut s) = true := by
  unfold railsCut
  dsimp only
  repeat' split
  all_goals simp +contextual (maxDischargeDepth := 30) [*]

@[simp] theorem reachPowerGood_sorted (s : State) (hwf : tablesSorted s = true) :
    tablesSorted (reachPowerGood s) = true :=
  sorted_of_within (@reachPowerGood_frame _ _ (touch_of rfl) (touch_of rfl) (touch_of rfl) (touch_of rfl) (touch_of rfl) (touch_of rfl) s (.refl _ _)) hwf

/-! Power -/

@[simp] theorem setFeedState_sorted (s : State) (i : ℕ) (b : Bool) (hwf : tablesSorted s = true) :
    tablesSorted (setFeedState s i b) = true :=
  sorted_of_within (@setFeedState_frame _ _ (touch_of rfl) s i b (.refl _ _)) hwf

@[simp] theorem setSwitch_sorted (s : State) (f : Feed) (isOpen : Bool) (hwf : tablesSorted s = true) :
    tablesSorted (setSwitch s f isOpen) = true :=
  sorted_of_within (@setSwitch_frame _ _ (touch_of rfl) s f isOpen (.refl _ _)) hwf

@[simp] theorem failWhileOff_sorted (s : State) (c : OffCause) (hwf : tablesSorted s = true) :
    tablesSorted (failWhileOff s c) = true :=
  sorted_of_within (@failWhileOff_frame _ _ (touch_of rfl) (touch_of rfl) s c (.refl _ _)) hwf

theorem execFeedLost_sorted (f : Feed) (why : FeedLoss) (s : State) (hwf : tablesSorted s = true) :
    outSorted (execFeedLost f why s) = true := by
  simp only [execFeedLost]
  split <;> simp (maxDischargeDepth := 30) [*]

theorem execRailsOff_sorted (s : State) (hwf : tablesSorted s = true) :
    outSorted (execRailsOff s) = true := by
  simp only [execRailsOff]
  split <;> simp (maxDischargeDepth := 30) [*]

theorem execPwrdisAssert_sorted (s : State) (hwf : tablesSorted s = true) :
    outSorted (execPwrdisAssert s) = true := by
  simp (maxDischargeDepth := 30) [execPwrdisAssert, *]

theorem execVmCollapse_sorted (s : State) (hwf : tablesSorted s = true) :
    outSorted (execVmCollapse s) = true := by
  simp (maxDischargeDepth := 30) [execVmCollapse, *]

@[simp] theorem settleEffective_sorted (s : State) (hwf : tablesSorted s = true) :
    tablesSorted (settleEffective s) = true :=
  sorted_of_within (@settleEffective_frame _ _ (touch_of rfl) s (.refl _ _)) hwf

@[simp] theorem setTj_sorted (s : State) (tj : ℤ) (hwf : tablesSorted s = true) :
    tablesSorted (setTj s tj) = true :=
  sorted_of_within (@setTj_frame _ _ (touch_of rfl) s tj (.refl _ _)) hwf

theorem execThermalShutdown_sorted (tj : ℤ) (s : State) (hwf : tablesSorted s = true) :
    outSorted (execThermalShutdown tj s) = true := by
  simp (maxDischargeDepth := 30) [execThermalShutdown, *]

/-! Motion -/

@[simp] theorem loadEngine_sorted (s : State) (g : ℕ) (e : ℕ) (role : ℕ) (hwf : tablesSorted s = true) :
    tablesSorted (loadEngine s g e role) = true :=
  sorted_of_within (@loadEngine_frame _ _ (touch_of rfl) (touch_of rfl) s g e role (.refl _ _)) hwf

@[simp] theorem startGroup_sorted (s : State) (g : ℕ) (hwf : tablesSorted s = true) :
    tablesSorted (startGroup s g) = true :=
  sorted_of_within (@startGroup_frame _ _ (touch_of rfl) (touch_of rfl) (touch_of rfl) (touch_of rfl) s g (.refl _ _)) hwf

@[simp] theorem stopGroup_sorted (s : State) (g : ℕ) (hwf : tablesSorted s = true) :
    tablesSorted (stopGroup s g) = true :=
  sorted_of_within (@stopGroup_frame _ _ (touch_of rfl) s g (.refl _ _)) hwf

@[simp] theorem fromMain_sorted (s : State) (hwf : tablesSorted s = true) :
    tablesSorted (fromMain s) = true :=
  sorted_of_within (@fromMain_frame _ _ (touch_of rfl) s (.refl _ _)) hwf

@[simp] theorem fromMotion_sorted (s : State) (hwf : tablesSorted s = true) :
    tablesSorted (fromMotion s) = true :=
  sorted_of_within (@fromMotion_frame _ _ (touch_of rfl) s (.refl _ _)) hwf

@[simp] theorem motionTakesOver_sorted (s : State) (c : OffCause) (hwf : tablesSorted s = true) :
    tablesSorted (motionTakesOver s c) = true := by
  simp (maxDischargeDepth := 30) [motionTakesOver, *]

theorem execHeartbeatLoss_sorted (s : State) (hwf : tablesSorted s = true) :
    outSorted (execHeartbeatLoss s) = true := by
  simp (maxDischargeDepth := 30) [execHeartbeatLoss, *]

@[simp] theorem linkFault_sorted (s : State) (hwf : tablesSorted s = true) :
    tablesSorted (linkFault s) = true := by
  simp (maxDischargeDepth := 30) [linkFault, *]

theorem execLinkResend_sorted (mainToMotion : Bool) (s : State) (hwf : tablesSorted s = true) :
    outSorted (execLinkResend mainToMotion s) = true := by
  simp (maxDischargeDepth := 30) [execLinkResend, *]

theorem execMotionDieLost_sorted (s : State) (hwf : tablesSorted s = true) :
    outSorted (execMotionDieLost s) = true := by
  simp (maxDischargeDepth := 30) [execMotionDieLost, *]

theorem execSenseMsg_sorted (a : Fin 4) (ua : ℤ) (mv : ℤ) (s : State) (hwf : tablesSorted s = true) :
    outSorted (execSenseMsg a ua mv s) = true := by
  simp (maxDischargeDepth := 30) [execSenseMsg, *]

theorem execVcmOvercurrent_sorted (a : Fin 4) (s : State) (hwf : tablesSorted s = true) :
    outSorted (execVcmOvercurrent a s) = true := by
  simp (maxDischargeDepth := 30) [execVcmOvercurrent, *]

@[simp] theorem spinAlign_sorted (s : State) (hwf : tablesSorted s = true) :
    tablesSorted (spinAlign s) = true :=
  sorted_of_within (@spinAlign_frame _ _ (touch_of rfl) (touch_of rfl) s (.refl _ _)) hwf

@[simp] theorem takeSpinLimit_sorted (s : State) (hwf : tablesSorted s = true) :
    tablesSorted (takeSpinLimit s) = true :=
  sorted_of_within (@takeSpinLimit_frame _ _ (touch_of rfl) s (.refl _ _)) hwf

@[simp] theorem beginSpin_sorted (s : State) (hwf : tablesSorted s = true) :
    tablesSorted (beginSpin s) = true :=
  sorted_of_within (@beginSpin_frame _ _ (touch_of rfl) (touch_of rfl) (touch_of rfl) s (.refl _ _)) hwf

@[simp] theorem spinUp_sorted (s : State) (hwf : tablesSorted s = true) :
    tablesSorted (spinUp s) = true :=
  sorted_of_within (@spinUp_frame _ _ (touch_of rfl) (touch_of rfl) (touch_of rfl) s (.refl _ _)) hwf

@[simp] theorem spindleFault_sorted (s : State) (hwf : tablesSorted s = true) :
    tablesSorted (spindleFault s) = true :=
  sorted_of_within (@spindleFault_frame _ _ (touch_of rfl) (touch_of rfl) (touch_of rfl) (touch_of rfl) s (.refl _ _)) hwf

@[simp] theorem countCross_sorted (s : State) (hwf : tablesSorted s = true) :
    tablesSorted (countCross s) = true :=
  sorted_of_within (@countCross_frame _ _ (touch_of rfl) (touch_of rfl) s (.refl _ _)) hwf

@[simp] theorem zeroCrossLost_sorted (s : State) (hwf : tablesSorted s = true) :
    tablesSorted (zeroCrossLost s) = true :=
  sorted_of_within (@zeroCrossLost_frame _ _ (touch_of rfl) (touch_of rfl) (touch_of rfl) (touch_of rfl) s (.refl _ _)) hwf

theorem execSpinRampEnd_sorted (handover : Bool) (s : State) (hwf : tablesSorted s = true) :
    outSorted (execSpinRampEnd handover s) = true := by
  simp (maxDischargeDepth := 30) [execSpinRampEnd, *]

@[simp] theorem loadHeads_sorted (s : State) (a : ℕ) (hwf : tablesSorted s = true) :
    tablesSorted (loadHeads s a) = true :=
  sorted_of_within (@loadHeads_frame _ _ (touch_of rfl) (touch_of rfl) s a (.refl _ _)) hwf

@[simp] theorem spinTarget_sorted (s : State) (rpm : ℕ) (hwf : tablesSorted s = true) :
    tablesSorted (spinTarget s rpm) = true :=
  sorted_of_within (@spinTarget_frame _ _ (touch_of rfl) (touch_of rfl) s rpm (.refl _ _)) hwf

@[simp] theorem parked_sorted (s : State) (a : ℕ) (ms : ℕ) (hwf : tablesSorted s = true) :
    tablesSorted (parked s a ms) = true := by
  simp (maxDischargeDepth := 30) [parked, *]

theorem execRetractParked_sorted (a : Fin 4) (ms : ℕ) (s : State) (hwf : tablesSorted s = true) :
    outSorted (execRetractParked a ms s) = true := by
  simp (maxDischargeDepth := 30) [execRetractParked, *]

theorem execRetractTimeout_sorted (a : Fin 4) (s : State) (hwf : tablesSorted s = true) :
    outSorted (execRetractTimeout a s) = true := by
  simp (maxDischargeDepth := 30) [execRetractTimeout, *]

theorem execDumpSealed_sorted (holdupMj : ℕ) (vmMin : ℕ) (s : State) (hwf : tablesSorted s = true) :
    outSorted (execDumpSealed holdupMj vmMin s) = true := by
  simp only [execDumpSealed]
  split <;> simp (maxDischargeDepth := 30) [*]

/-! Servo -/

@[simp] theorem comparePosition_sorted (s : State) (a : ℕ) (pes : ℤ) (hwf : tablesSorted s = true) :
    tablesSorted (comparePosition s a pes) = true := by
  simp (maxDischargeDepth := 30) [comparePosition, *]

@[simp] theorem trackCheck_sorted (s : State) (a : ℕ) (wedge : ℕ) (track : ℕ) (pes : ℤ) (hwf : tablesSorted s = true) :
    tablesSorted (trackCheck s a wedge track pes) = true := by
  simp only [trackCheck]
  split <;> simp (maxDischargeDepth := 30) [*]

@[simp] theorem stampStart_sorted (s : State) (a : ℕ) (wedge : ℕ) (hwf : tablesSorted s = true) :
    tablesSorted (stampStart s a wedge) = true :=
  sorted_of_within (@stampStart_frame _ _ (touch_of rfl) s a wedge (.refl _ _)) hwf

@[simp] theorem seekNoticed_sorted (s : State) (a : ℕ) (hwf : tablesSorted s = true) :
    tablesSorted (seekNoticed s a) = true :=
  sorted_of_within (@seekNoticed_frame _ _ (touch_of rfl) s a (.refl _ _)) hwf

@[simp] theorem seekStart_sorted (s : State) (a : ℕ) (track : ℕ) (hwf : tablesSorted s = true) :
    tablesSorted (seekStart s a track) = true :=
  sorted_of_within (@seekStart_frame _ _ (touch_of rfl) (touch_of rfl) (touch_of rfl) (touch_of rfl) s a track (.refl _ _)) hwf

@[simp] theorem seekAdvance_sorted (s : State) (a : ℕ) (hwf : tablesSorted s = true) :
    tablesSorted (seekAdvance s a) = true :=
  sorted_of_within (@seekAdvance_frame _ _ (touch_of rfl) (touch_of rfl) s a (.refl _ _)) hwf

@[simp] theorem seekStep_sorted (s : State) (a : ℕ) (track : ℕ) (hwf : tablesSorted s = true) :
    tablesSorted (seekStep s a track) = true :=
  sorted_of_within (@seekStep_frame _ _ (touch_of rfl) (touch_of rfl) (touch_of rfl) (touch_of rfl) s a track (.refl _ _)) hwf

@[simp] theorem stampPhase_sorted (s : State) (a : ℕ) (wedge : ℕ) (hwf : tablesSorted s = true) :
    tablesSorted (stampPhase s a wedge) = true :=
  sorted_of_within (@stampPhase_frame _ _ (touch_of rfl) s a wedge (.refl _ _)) hwf

@[simp] theorem trimSums_sorted (s : State) (a : ℕ) (pes : ℤ) (hwf : tablesSorted s = true) :
    tablesSorted (trimSums s a pes) = true :=
  sorted_of_within (@trimSums_frame _ _ (touch_of rfl) (touch_of rfl) s a pes (.refl _ _)) hwf

@[simp] theorem countRev_sorted (s : State) (a : ℕ) (wedge : ℕ) (hwf : tablesSorted s = true) :
    tablesSorted (countRev s a wedge) = true :=
  sorted_of_within (@countRev_frame _ _ (touch_of rfl) s a wedge (.refl _ _)) hwf

@[simp] theorem releaseBlock_sorted (s : State) (a : ℕ) (hwf : tablesSorted s = true) :
    tablesSorted (releaseBlock s a) = true :=
  sorted_of_within (@releaseBlock_frame _ _ (touch_of rfl) s a (.refl _ _)) hwf

@[simp] theorem missedStarts_sorted (s : State) (a : ℕ) (hwf : tablesSorted s = true) :
    tablesSorted (missedStarts s a) = true := by
  unfold missedStarts
  simp_all (maxDischargeDepth := 30)

@[simp] theorem confirmLoad_sorted (s : State) (a : ℕ) (hwf : tablesSorted s = true) :
    tablesSorted (confirmLoad s a) = true := by
  simp only [confirmLoad]
  repeat' split
  all_goals simp (maxDischargeDepth := 30) [*]

@[simp] theorem passWedge_sorted (s : State) (a : ℕ) (hwf : tablesSorted s = true) :
    tablesSorted (passWedge s a) = true :=
  sorted_of_within (@passWedge_frame _ _ (touch_of rfl) s a (.refl _ _)) hwf

theorem execServoSync_sorted (a : Fin 4) (wedge : ℕ) (track : ℕ) (pes : ℤ) (s : State) (hwf : tablesSorted s = true) :
    outSorted (execServoSync a wedge track pes s) = true := by
  simp (maxDischargeDepth := 30) [execServoSync, *]

theorem execServoSyncTimeout_sorted (a : Fin 4) (s : State) (hwf : tablesSorted s = true) :
    outSorted (execServoSyncTimeout a s) = true := by
  simp only [execServoSyncTimeout]
  repeat' split
  all_goals simp (maxDischargeDepth := 30) [*]

end Sys2Proof.Machine
end

section
/-!
PROOFS. The sorted tables, continued.
-/

namespace Sys2Proof.Machine

/-! Girth -/

@[simp] theorem State.setGirth_sorted (s : State) (g : Girth) (hwf : tablesSorted s = true) :
    tablesSorted (State.setGirth s g) = true :=
  sorted_of_within (@State.setGirth_frame _ _ (touch_of rfl) s g (.refl _ _)) hwf

@[simp] theorem forward_sorted (s : State) (typ : ℕ) (h : GirthHeader) (payload : ℕ) (hwf : tablesSorted s = true) :
    tablesSorted (forward s typ h payload) = true :=
  sorted_of_within (@forward_frame _ _ (touch_of rfl) (touch_of rfl) s typ h payload (.refl _ _)) hwf

@[simp] theorem countCrc_sorted (s : State) (c : CrcState) (hwf : tablesSorted s = true) :
    tablesSorted (countCrc s c) = true :=
  sorted_of_within (@countCrc_frame _ _ (touch_of rfl) (touch_of rfl) (touch_of rfl) s c (.refl _ _)) hwf

@[simp] theorem rxTake_sorted (s : State) (hwf : tablesSorted s = true) :
    tablesSorted (rxTake s) = true :=
  sorted_of_within (@rxTake_frame _ _ (touch_of rfl) (touch_of rfl) s (.refl _ _)) hwf

@[simp] theorem receive_sorted (s : State) (typ : Nat) (h : GirthHeader) (payload : Nat) (deliver : State → State) (hwf : tablesSorted s = true)
    (hd : ∀ t : State, tablesSorted t = true → tablesSorted (deliver t) = true) : tablesSorted (receive s typ h payload deliver) = true := by
  simp only [receive]
  split <;> simp (maxDischargeDepth := 30) [*]

@[simp] theorem txLeave_sorted (s : State) (hwf : tablesSorted s = true) :
    tablesSorted (txLeave s) = true :=
  sorted_of_within (@txLeave_frame _ _ (touch_of rfl) (touch_of rfl) s (.refl _ _)) hwf

@[simp] theorem sendFrame_sorted (s : State) (typ : ℕ) (payload : ℕ) (hwf : tablesSorted s = true) :
    tablesSorted (sendFrame s typ payload) = true :=
  sorted_of_within (@sendFrame_frame _ _ (touch_of rfl) (touch_of rfl) (touch_of rfl) (touch_of rfl) s typ payload (.refl _ _)) hwf

@[simp] theorem timePasses_sorted (s : State) (hwf : tablesSorted s = true) :
    tablesSorted (timePasses s) = true :=
  sorted_of_within (@timePasses_frame _ _ (touch_of rfl) (touch_of rfl) (touch_of rfl) (touch_of rfl) s (.refl _ _)) hwf

@[simp] theorem assignPhase_sorted (s : State) (g : ℕ) (hwf : tablesSorted s = true) :
    tablesSorted (assignPhase s g) = true :=
  sorted_of_within (@assignPhase_frame _ _ (touch_of rfl) s g (.refl _ _)) hwf

@[simp] theorem rephase_sorted (s : State) (hwf : tablesSorted s = true) :
    tablesSorted (rephase s) = true :=
  sorted_of_within (@rephase_frame _ _ (touch_of rfl) s (.refl _ _)) hwf

@[simp] theorem unjoin_sorted (s : State) (hwf : tablesSorted s = true) :
    tablesSorted (unjoin s) = true :=
  sorted_of_within (@unjoin_frame _ _ (touch_of rfl) (touch_of rfl) s (.refl _ _)) hwf

@[simp] theorem becomeMaster_sorted (s : State) (hop : ℕ) (elected : Bool) (hwf : tablesSorted s = true) :
    tablesSorted (becomeMaster s hop elected) = true :=
  sorted_of_within (@becomeMaster_frame _ _ (touch_of rfl) (touch_of rfl) s hop elected (.refl _ _)) hwf

@[simp] theorem follow_sorted (s : State) (h : GirthHeader) (tick : ℕ) (baseHop : ℕ) (tag : ℕ) (again : Bool) (hwf : tablesSorted s = true) :
    tablesSorted (follow s h tick baseHop tag again) = true :=
  sorted_of_within (@follow_frame _ _ (touch_of rfl) (touch_of rfl) s h tick baseHop tag again (.refl _ _)) hwf

@[simp] theorem becomeMember_sorted (s : State) (h : GirthHeader) (tick : ℕ) (baseHop : ℕ) (tag : ℕ) (hwf : tablesSorted s = true) :
    tablesSorted (becomeMember s h tick baseHop tag) = true :=
  sorted_of_within (@becomeMember_frame _ _ (touch_of rfl) (touch_of rfl) s h tick baseHop tag (.refl _ _)) hwf

@[simp] theorem otherTag_sorted (s : State) (h : GirthHeader) (tick : ℕ) (baseHop : ℕ) (tag : ℕ) (hwf : tablesSorted s = true) :
    tablesSorted (otherTag s h tick baseHop tag) = true :=
  sorted_of_within (@otherTag_frame _ _ (touch_of rfl) (touch_of rfl) s h tick baseHop tag (.refl _ _)) hwf

@[simp] theorem yieldTo_sorted (s : State) (h : GirthHeader) (tick : ℕ) (baseHop : ℕ) (tag : ℕ) (past : Bool) (hwf : tablesSorted s = true) :
    tablesSorted (yieldTo s h tick baseHop tag past) = true :=
  sorted_of_within (@yieldTo_frame _ _ (touch_of rfl) (touch_of rfl) s h tick baseHop tag past (.refl _ _)) hwf

@[simp] theorem masterSync_sorted (s : State) (h : GirthHeader) (tick : ℕ) (baseHop : ℕ) (tag : ℕ) (fixed : Bool) (past : Bool) (hwf : tablesSorted s = true) :
    tablesSorted (masterSync s h tick baseHop tag fixed past) = true :=
  sorted_of_within (@masterSync_frame _ _ (touch_of rfl) (touch_of rfl) (touch_of rfl) (touch_of rfl) s h tick baseHop tag fixed past (.refl _ _)) hwf

@[simp] theorem deliverSync_sorted (s : State) (h : GirthHeader) (tick : ℕ) (baseHop : ℕ) (tag : ℕ) (fixed : Bool) (past : Bool) (hwf : tablesSorted s = true) :
    tablesSorted (deliverSync s h tick baseHop tag fixed past) = true :=
  sorted_of_within (@deliverSync_frame _ _ (touch_of rfl) (touch_of rfl) (touch_of rfl) (touch_of rfl) s h tick baseHop tag fixed past (.refl _ _)) hwf

@[simp] theorem joinBegin_sorted (s : State) (hwf : tablesSorted s = true) :
    tablesSorted (joinBegin s) = true :=
  sorted_of_within (@joinBegin_frame _ _ (touch_of rfl) (touch_of rfl) s (.refl _ _)) hwf

@[simp] theorem sendHealth_sorted (s : State) (hwf : tablesSorted s = true) :
    tablesSorted (sendHealth s) = true :=
  sorted_of_within (@sendHealth_frame _ _ (touch_of rfl) (touch_of rfl) (touch_of rfl) (touch_of rfl) s (.refl _ _)) hwf

@[simp] theorem healthDue_sorted (s : State) (hwf : tablesSorted s = true) :
    tablesSorted (healthDue s) = true :=
  sorted_of_within (@healthDue_frame _ _ (touch_of rfl) (touch_of rfl) (touch_of rfl) (touch_of rfl) s (.refl _ _)) hwf

@[simp] theorem applyRole_sorted (s : State) (hwf : tablesSorted s = true) :
    tablesSorted (applyRole s) = true :=
  sorted_of_within (@applyRole_frame _ _ (touch_of rfl) (touch_of rfl) s (.refl _ _)) hwf

@[simp] theorem sendSync_sorted (s : State) (hwf : tablesSorted s = true) :
    tablesSorted (sendSync s) = true :=
  sorted_of_within (@sendSync_frame _ _ (touch_of rfl) (touch_of rfl) (touch_of rfl) (touch_of rfl) s (.refl _ _)) hwf

@[simp] theorem newSecond_sorted (s : State) (hwf : tablesSorted s = true) :
    tablesSorted (newSecond s) = true :=
  sorted_of_within (@newSecond_frame _ _ (touch_of rfl) s (.refl _ _)) hwf

@[simp] theorem sendSeek_sorted (s : State) (payload : ℕ) (hwf : tablesSorted s = true) :
    tablesSorted (sendSeek s payload) = true :=
  sorted_of_within (@sendSeek_frame _ _ (touch_of rfl) (touch_of rfl) (touch_of rfl) (touch_of rfl) s payload (.refl _ _)) hwf

@[simp] theorem announceNow_sorted (s : State) (b : List Byte) (hwf : tablesSorted s = true) :
    tablesSorted (announceNow s b).2 = true :=
  sorted_of_within (@announceNow_frame _ _ (touch_of rfl) (touch_of rfl) (touch_of rfl) (touch_of rfl) s b (.refl _ _)) hwf

@[simp] theorem deliverSeek_sorted (s : State) (h : GirthHeader) (startTick : ℕ) (profile : ℕ) (act : ℕ) (d : ℤ) (set : ℕ) (hwf : tablesSorted s = true) :
    tablesSorted (deliverSeek s h startTick profile act d set) = true :=
  sorted_of_within (@deliverSeek_frame _ _ (touch_of rfl) (touch_of rfl) (touch_of rfl) s h startTick profile act d set (.refl _ _)) hwf

@[simp] theorem setFfGain_sorted (s : State) (r : ℕ) (n : ℕ) (hwf : tablesSorted s = true) :
    tablesSorted (setFfGain s r n) = true :=
  sorted_of_within (@setFfGain_frame _ _ (touch_of rfl) (touch_of rfl) s r n (.refl _ _)) hwf

@[simp] theorem trimGain_sorted (s : State) (x : Announcement) (r : ℕ) (hwf : tablesSorted s = true) :
    tablesSorted (trimGain s x r) = true :=
  sorted_of_within (@trimGain_frame _ _ (touch_of rfl) (touch_of rfl) s x r (.refl _ _)) hwf

@[simp] theorem sendDict_sorted (s : State) (payload : ℕ) (hwf : tablesSorted s = true) :
    tablesSorted (sendDict s payload) = true :=
  sorted_of_within (@sendDict_frame _ _ (touch_of rfl) (touch_of rfl) (touch_of rfl) (touch_of rfl) s payload (.refl _ _)) hwf

@[simp] theorem dictRequestNow_sorted (s : State) (b : List Byte) (hwf : tablesSorted s = true) :
    tablesSorted (dictRequestNow s b).2 = true :=
  sorted_of_within (@dictRequestNow_frame _ _ (touch_of rfl) (touch_of rfl) (touch_of rfl) (touch_of rfl) s b (.refl _ _)) hwf

/-! LayoutCore -/

@[simp] theorem countLayout_sorted (s : State) (hwf : tablesSorted s = true) :
    tablesSorted (countLayout s) = true :=
  sorted_of_within (@countLayout_frame _ _ (touch_of rfl) s (.refl _ _)) hwf

@[simp] theorem layoutChanged_sorted (s : State) (hwf : tablesSorted s = true) :
    tablesSorted (layoutChanged s) = true := by
  simp (maxDischargeDepth := 30) [layoutChanged, *]

@[simp] theorem offerSector_sorted (s : State) (u : ℕ) (track : ℕ) (p : ℕ) (hwf : tablesSorted s = true) :
    tablesSorted (offerSector s u track p) = true :=
  sorted_of_within (@offerSector_frame _ _ (touch_of rfl) s u track p (.refl _ _)) hwf

@[simp] theorem bandWrite_sorted (s : State) (u : ℕ) (track : ℕ) (data : List Byte) (hwf : tablesSorted s = true) :
    tablesSorted (bandWrite s u track data) = true :=
  sorted_of_within (@bandWrite_frame _ _ (touch_of rfl) s u track data (.refl _ _)) hwf

@[simp] theorem writeLabel_sorted (s : State) (u : ℕ) (f : Label → Label) (hwf : tablesSorted s = true) :
    tablesSorted (writeLabel s u f) = true :=
  sorted_of_within (@writeLabel_frame _ _ (touch_of rfl) (touch_of rfl) s u f (.refl _ _)) hwf

@[simp] theorem areaWrite_sorted (s : State) (u : ℕ) (area : ℕ) (data : List Byte) (hwf : tablesSorted s = true) :
    tablesSorted (areaWrite s u area data) = true :=
  sorted_of_within (@areaWrite_frame _ _ (touch_of rfl) s u area data (.refl _ _)) hwf

@[simp] theorem writeGrown_sorted (s : State) (u : ℕ) (hwf : tablesSorted s = true) :
    tablesSorted (writeGrown s u) = true :=
  sorted_of_within (@writeGrown_frame _ _ (touch_of rfl) s u (.refl _ _)) hwf

@[simp] theorem moveArea_sorted (s : State) (u : ℕ) (area : ℕ) (hwf : tablesSorted s = true) :
    tablesSorted (moveArea s u area) = true :=
  sorted_of_within (@moveArea_frame _ _ (touch_of rfl) (touch_of rfl) s u area (.refl _ _)) hwf

@[simp] theorem mirrorPage_sorted (s : State) (n : ℕ) (data : List Byte) (hwf : tablesSorted s = true) :
    tablesSorted (mirrorPage s n data) = true := by
  unfold mirrorPage
  dsimp only
  refine State.each_sorted (by simp [*]) fun t u ht => ?_
  split <;> simp [*]

@[simp] theorem mirrorPages_sorted (s : State) (base : ℕ) (i : ℕ) (data : List Byte) (hwf : tablesSorted s = true) :
    tablesSorted (mirrorPages s base i data) = true := by
  unfold mirrorPages
  simp_all (maxDischargeDepth := 30)

@[simp] theorem mirrorIntent_sorted (s : State) (n : ℕ) (hwf : tablesSorted s = true) :
    tablesSorted (mirrorIntent s n) = true := by
  simp (maxDischargeDepth := 30) [mirrorIntent, *]

@[simp] theorem mirrorAlloc_sorted (s : State) (n : ℕ) (hwf : tablesSorted s = true) :
    tablesSorted (mirrorAlloc s n) = true := by
  simp (maxDischargeDepth := 30) [mirrorAlloc, *]

@[simp] theorem bandCopy_sorted (s : State) (hwf : tablesSorted s = true) :
    tablesSorted (bandCopy s) = true :=
  sorted_of_within (@bandCopy_frame _ _ (touch_of rfl) (touch_of rfl) s (.refl _ _)) hwf

@[simp] theorem countDirty_sorted (s : State) (hwf : tablesSorted s = true) :
    tablesSorted (countDirty s) = true :=
  sorted_of_within (@countDirty_frame _ _ (touch_of rfl) s (.refl _ _)) hwf

@[simp] theorem putCache_sorted (s : State) (k : ℕ) (c : CacheSlot) (hwf : tablesSorted s = true) :
    tablesSorted (putCache s k c) = true := by
  simp (maxDischargeDepth := 30) [putCache, *]

@[simp] theorem setCacheState_sorted (s : State) (p : ℕ × CacheSlot → Bool) (st : ℕ) (hwf : tablesSorted s = true) :
    tablesSorted (setCacheState s p st) = true := by
  simp (maxDischargeDepth := 30) [setCacheState, *]

@[simp] theorem dropCached_sorted (s : State) (p : ℕ → Bool) (hwf : tablesSorted s = true) :
    tablesSorted (dropCached s p) = true := by
  simp (maxDischargeDepth := 30) [dropCached, *]

@[simp] theorem makeRoom_sorted (s : State) (n : ℕ) (hwf : tablesSorted s = true) :
    tablesSorted (makeRoom s n) = true := by
  simp only [makeRoom]
  repeat' split
  all_goals simp (maxDischargeDepth := 30) [*]

@[simp] theorem lostChanged_sorted (s : State) (hwf : tablesSorted s = true) :
    tablesSorted (lostChanged s) = true := by
  simp (maxDischargeDepth := 30) [lostChanged, *]

@[simp] theorem addLost_sorted (s : State) (x : Lost) (hwf : tablesSorted s = true) :
    tablesSorted (addLost s x) = true := by
  simp (maxDischargeDepth := 30) [addLost, *]

@[simp] theorem clearLost_sorted (s : State) (nsid : ℕ) (lba : ℕ) (n : ℕ) (hwf : tablesSorted s = true) :
    tablesSorted (clearLost s nsid lba n) = true := by
  simp (maxDischargeDepth := 30) [clearLost, *]

@[simp] theorem setIntent_sorted (s : State) (g : ℕ) (hwf : tablesSorted s = true) :
    tablesSorted (setIntent s g) = true := by
  simp (maxDischargeDepth := 30) [setIntent, *]

@[simp] theorem setAllocated_sorted (s : State) (g : ℕ) (hwf : tablesSorted s = true) :
    tablesSorted (setAllocated s g) = true := by
  simp (maxDischargeDepth := 30) [setAllocated, *]

@[simp] theorem clearAllocated_sorted (s : State) (g : ℕ) (hwf : tablesSorted s = true) :
    tablesSorted (clearAllocated s g) = true := by
  simp (maxDischargeDepth := 30) [clearAllocated, *]

@[simp] theorem nextGen_sorted (s : State) (hwf : tablesSorted s = true) :
    tablesSorted (nextGen s).2 = true :=
  sorted_of_within (@nextGen_frame _ _ (touch_of rfl) s (.refl _ _)) hwf

@[simp] theorem countJournal_sorted (s : State) (hwf : tablesSorted s = true) :
    tablesSorted (countJournal s) = true :=
  sorted_of_within (@countJournal_frame _ _ (touch_of rfl) s (.refl _ _)) hwf

@[simp] theorem countUpdate_sorted (s : State) (method : ℕ) (hwf : tablesSorted s = true) :
    tablesSorted (countUpdate s method) = true :=
  sorted_of_within (@countUpdate_frame _ _ (touch_of rfl) s method (.refl _ _)) hwf

@[simp] theorem openEntry_sorted (s : State) (e : JournalEntry) (hwf : tablesSorted s = true) :
    tablesSorted (openEntry s e) = true := by
  simp (maxDischargeDepth := 30) [openEntry, *]

/-! Restart -/

@[simp] theorem leaveSafe_sorted (s : State) (maintenance : Bool) (hwf : tablesSorted s = true) :
    tablesSorted (leaveSafe s maintenance) = true := by
  simp (maxDischargeDepth := 30) [leaveSafe, *]

@[simp] theorem restart_sorted (s : State) (maintenance : Bool) (hwf : tablesSorted s = true) :
    tablesSorted (restart s maintenance) = true := by
  simp only [restart]
  repeat' split
  all_goals simp (maxDischargeDepth := 30) [*]

/-! HostIo -/

@[simp] theorem wakeDrive_sorted (s : State) (from4 : Bool) (hwf : tablesSorted s = true) :
    tablesSorted (wakeDrive s from4) = true :=
  sorted_of_within (@wakeDrive_frame _ _ (touch_of rfl) (touch_of rfl) (touch_of rfl) s from4 (.refl _ _)) hwf

@[simp] theorem reportPower_sorted (s : State) (n : ℕ) (hwf : tablesSorted s = true) :
    tablesSorted (reportPower s n) = true := by
  simp (maxDischargeDepth := 30) [reportPower, *]

@[simp] theorem mediaWake_sorted (s : State) (hwf : tablesSorted s = true) :
    tablesSorted (mediaWake s) = true := by
  simp (maxDischargeDepth := 30) [mediaWake, *]

@[simp] theorem mediaGate_sorted (s : State) (hwf : tablesSorted s = true) :
    optSorted (mediaGate s) = true := by
  simp only [mediaGate]
  repeat' split
  all_goals simp (maxDischargeDepth := 30) [*]

@[simp] theorem wakeFrom4_sorted (s : State) (hwf : tablesSorted s = true) :
    tablesSorted (wakeFrom4 s) = true := by
  simp (maxDischargeDepth := 30) [wakeFrom4, *]

@[simp] theorem coverFlush_sorted (s : State) (n : ℕ) (hwf : tablesSorted s = true) : tablesSorted (coverFlush s n) = true := by
  simp only [coverFlush]
  split
  · exact hwf
  · split
    · exact hwf
    · exact State.setHost_sorted _ _ hwf (wf_map _ (wf_slots hwf))

@[simp] theorem finishMedium_sorted (s : State) (n : ℕ) (hwf : tablesSorted s = true) :
    tablesSorted (finishMedium s n) = true := by
  simp only [finishMedium]
  split <;> simp (maxDischargeDepth := 30) [*]

@[simp] theorem settleMedium_sorted (s : State) (hwf : tablesSorted s = true) :
    tablesSorted (settleMedium s) = true := by
  unfold settleMedium
  simp_all (maxDischargeDepth := 30)

@[simp] theorem blocksOnMedium_sorted (s : State) (done : List (ℕ × ℕ)) (hwf : tablesSorted s = true) :
    tablesSorted (blocksOnMedium s done) = true :=
  settleMedium_sorted _ (State.setHost_sorted _ _ hwf (wf_map _ (wf_slots hwf)))

@[simp] theorem blocksDropped_sorted (s : State) (dbas : List ℕ) (hwf : tablesSorted s = true) :
    tablesSorted (blocksDropped s dbas) = true := by
  simp (maxDischargeDepth := 30) [blocksDropped, *]

@[simp] theorem settleShutdown_sorted (s : State) (p : Port) (hwf : tablesSorted s = true) :
    tablesSorted (settleShutdown s p) = true := by
  simp (maxDischargeDepth := 30) [settleShutdown, *]

@[simp] theorem settleShutdowns_sorted (s : State) (hwf : tablesSorted s = true) :
    tablesSorted (settleShutdowns s) = true := by
  simp (maxDischargeDepth := 30) [settleShutdowns, *]

@[simp] theorem slotTaken_sorted (s : State) (p : Port) (hwf : tablesSorted s = true) :
    tablesSorted (slotTaken s p) = true := by
  simp (maxDischargeDepth := 30) [slotTaken, *]

@[simp] theorem advanceSq_sorted (s : State) (p : Port) (qid : ℕ) (q : Sq) (hwf : tablesSorted s = true) :
    tablesSorted (advanceSq s p qid q) = true := by
  simp (maxDischargeDepth := 30) [advanceSq, *]

@[simp] theorem nextAdmission_sorted (s : State) (hwf : tablesSorted s = true) :
    tablesSorted (nextAdmission s).2 = true :=
  sorted_of_within (@nextAdmission_frame _ _ (touch_of rfl) (touch_of rfl) s (.refl _ _)) hwf

@[simp] theorem admitAer_sorted (s : State) (p : Port) (cid : ℕ) (hwf : tablesSorted s = true) :
    tablesSorted (admitAer s p cid) = true := by
  simp (maxDischargeDepth := 30) [admitAer, *]

@[simp] theorem fetchCommand_sorted (s : State) (p : Port) (qid : ℕ) (cmd : SqEntry) (hwf : tablesSorted s = true) :
    tablesSorted (fetchCommand s p qid cmd) = true := by
  simp only [fetchCommand]
  split <;> simp (maxDischargeDepth := 30) [*]

theorem execCommandFetch_sorted (p : Port) (qid : ℕ) (cmd : SqEntry) (s : State) (hwf : tablesSorted s = true) :
    outSorted (execCommandFetch p qid cmd s) = true := by
  simp (maxDischargeDepth := 30) [execCommandFetch, *]

theorem execAsyncEventRequest_sorted (p : Port) (cid : ℕ) (s : State) (hwf : tablesSorted s = true) :
    outSorted (execAsyncEventRequest p cid s) = true := by
  simp (maxDischargeDepth := 30) [execAsyncEventRequest, *]

theorem execSqDoorbell_sorted (p : Port) (qid : ℕ) (tail : ℕ) (s : State) (hwf : tablesSorted s = true) :
    outSorted (execSqDoorbell p qid tail s) = true := by
  simp only [execSqDoorbell]
  split <;> simp (maxDischargeDepth := 30) [*]

@[simp] theorem postWaiting_sorted (fuel : Nat) (s : State) (p : Port) (qid : Nat) (h : tablesSorted s = true) : tablesSorted (postWaiting fuel s p qid) = true := by
  induction fuel generalizing s with
  | zero => simpa [postWaiting] using h
  | succ n ih =>
    simp only [postWaiting]
    repeat' split
    all_goals simp +contextual (maxDischargeDepth := 30) [*]

theorem execCqHeadDoorbell_sorted (p : Port) (qid : ℕ) (head : ℕ) (s : State) (hwf : tablesSorted s = true) :
    outSorted (execCqHeadDoorbell p qid head s) = true := by
  simp only [execCqHeadDoorbell]
  split <;> simp (maxDischargeDepth := 30) [*]

@[simp] theorem endIo_sorted (s : State) (n : ℕ) (st : ℕ × ℕ) (hwf : tablesSorted s = true) :
    tablesSorted (endIo s n st) = true := by
  simp (maxDischargeDepth := 30) [endIo, *]

@[simp] theorem admitBlock_sorted (s : State) (ns : Namespace) (c : CmdSlot) (dba : ℕ) (k : ℕ) (payload : List Byte) (hwf : tablesSorted s = true) :
    tablesSorted (admitBlock s ns c dba k payload) = true := by
  simp (maxDischargeDepth := 30) [admitBlock, *]

@[simp] theorem admitBlocks_sorted (ns : Namespace) (c : CmdSlot) (i : Nat) (l : List HostBlock) (s : State) (h : tablesSorted s = true) :
    tablesSorted (admitBlocks ns c i l s).2.2 = true := by
  induction l generalizing i s with
  | nil => simpa [admitBlocks] using h
  | cons b r ih =>
    simp only [admitBlocks]
    repeat' split
    all_goals simp +contextual (maxDischargeDepth := 30) [*]

theorem execNvmeWrite_sorted (slot : ℕ) (blocks : List HostBlock) (s : State) (hwf : tablesSorted s = true) :
    outSorted (execNvmeWrite slot blocks s) = true := by
  unfold execNvmeWrite
  dsimp only
  split
  · exact hwf
  · split
    · simp [hwf]
    · exact hwf
    · repeat' split
      all_goals simp +contextual (maxDischargeDepth := 30) [hwf]

@[simp] theorem wakeFor_sorted (s : State) (blocks : List (ℕ × ℕ)) (hwf : tablesSorted s = true) :
    tablesSorted (wakeFor s blocks) = true := by
  simp (maxDischargeDepth := 30) [wakeFor, *]

theorem execWriteCached_sorted (slot : ℕ) (s : State) (hwf : tablesSorted s = true) :
    outSorted (execWriteCached slot s) = true := by
  simp only [execWriteCached]
  split <;> simp (maxDischargeDepth := 30) [*]

@[simp] theorem deallocate_sorted (s : State) (ns : Namespace) (ranges : List (ℕ × ℕ)) (hwf : tablesSorted s = true) :
    tablesSorted (deallocate s ns ranges) = true := by
  unfold deallocate
  simp_all (maxDischargeDepth := 30)

theorem execDatasetManagement_sorted (slot : ℕ) (s : State) (hwf : tablesSorted s = true) :
    outSorted (execDatasetManagement slot s) = true := by
  simp only [execDatasetManagement]
  repeat' split
  all_goals simp (maxDischargeDepth := 30) [*]

@[simp] theorem zeroBlocks_sorted (ns : Namespace) (c : CmdSlot) (skip : Nat → Bool) (fuel i : Nat) (s : State) (h : tablesSorted s = true) :
    tablesSorted (zeroBlocks ns c skip fuel i s).2 = true := by
  induction fuel generalizing i s with
  | zero => exact h
  | succ n ih =>
    rw [zeroBlocks]
    dsimp only
    split
    · exact ih _ _ h
    · split
      · exact h
      · exact ih _ _ (admitBlock_sorted _ _ _ _ _ _ h)

theorem execWriteZeroes_sorted (slot : ℕ) (s : State) (hwf : tablesSorted s = true) :
    outSorted (execWriteZeroes slot s) = true := by
  simp only [execWriteZeroes]
  repeat' split
  all_goals simp (maxDischargeDepth := 30) [*]

@[simp] theorem firstToMedium_sorted (s : State) (n : ℕ) (c : CmdSlot) (hwf : tablesSorted s = true) :
    optSorted (firstToMedium s n c) = true := by
  simp only [firstToMedium]
  split <;> simp (maxDischargeDepth := 30) [*]

@[simp] theorem serveRead_sorted (s : State) (n : Nat) (c : CmdSlot) (ns : Namespace) (useCache transfer : Bool) (media : List MediaBlock)
    (h : tablesSorted s = true) : tablesSorted (serveRead s n c ns useCache transfer media) = true := by
  have gate : ∀ t, (if touchesMedium s ns c useCache then mediaGate s else none) = some t → tablesSorted t = true := fun t ht => by
    have := mediaGate_sorted s h
    split at ht <;> simp_all
  simp only [serveRead]
  split
  · simp [*]
  · split
    · exact gate _ (by assumption)
    · repeat' split
      all_goals simp +contextual (maxDischargeDepth := 30) [*]

theorem execNvmeRead_sorted (slot : ℕ) (media : List MediaBlock) (s : State) (hwf : tablesSorted s = true) :
    outSorted (execNvmeRead slot media s) = true := by
  unfold execNvmeRead
  dsimp only
  split
  · exact hwf
  split
  · exact hwf
  split
  · simp [hwf]
  · exact hwf
  rename_i c _ _ _ _ _ _ _
  have first : ∀ t, (if (bit c.cmd.cdw12 30 && s.host.strict) = true then firstToMedium s slot c else none) = some t → tablesSorted t = true := fun t ht => by
    have := firstToMedium_sorted s slot c hwf
    split at ht <;> simp_all
  split
  · exact first _ (by assumption)
  · simp [hwf]

theorem execNvmeVerify_sorted (slot : ℕ) (media : List MediaBlock) (s : State) (hwf : tablesSorted s = true) :
    outSorted (execNvmeVerify slot media s) = true := by
  unfold execNvmeVerify
  split
  · exact hwf
  split
  · simp [hwf]
  · exact hwf
  have first := firstToMedium_sorted s slot ‹CmdSlot› hwf
  split
  · simp_all
  · simp [hwf]

theorem execReadTransferred_sorted (slot : ℕ) (s : State) (hwf : tablesSorted s = true) :
    outSorted (execReadTransferred slot s) = true := by
  simp only [execReadTransferred]
  split <;> simp (maxDischargeDepth := 30) [*]

theorem execNvmeFlush_sorted (slot : ℕ) (s : State) (hwf : tablesSorted s = true) :
    outSorted (execNvmeFlush slot s) = true := by
  simp only [execNvmeFlush]
  repeat' split
  all_goals simp (maxDischargeDepth := 30) [*]

theorem execTlerExpire_sorted (slot : ℕ) (lba : ℕ) (s : State) (hwf : tablesSorted s = true) :
    outSorted (execTlerExpire slot lba s) = true := by
  simp only [execTlerExpire]
  split <;> simp (maxDischargeDepth := 30) [*]

/-! HostAdmin -/

@[simp] theorem endAdmin_sorted (s : State) (n : ℕ) (st : ℕ × ℕ) (dw0 : optParam ℕ 0) (dw1 : optParam ℕ 0) (hwf : tablesSorted s = true) :
    tablesSorted (endAdmin s n st dw0 dw1) = true := by
  simp (maxDischargeDepth := 30) [endAdmin, *]

@[simp] theorem endData_sorted (s : State) (n : ℕ) (c : CmdSlot) (data : List Byte) (hwf : tablesSorted s = true) :
    tablesSorted (endData s n c data) = true := by
  simp (maxDischargeDepth := 30) [endData, *]

@[simp] theorem freeData_sorted (s : State) (len : ℕ) (hwf : tablesSorted s = true) :
    tablesSorted (freeData s len).2 = true :=
  sorted_of_within (@freeData_frame _ _ (touch_of rfl) s len (.refl _ _)) hwf

@[simp] theorem countQueues_sorted (s : State) (p : Port) (hwf : tablesSorted s = true) :
    tablesSorted (countQueues s p) = true :=
  sorted_of_within (@countQueues_frame _ _ (touch_of rfl) s p (.refl _ _)) hwf

theorem execCreateIoCq_sorted (slot : ℕ) (s : State) (hwf : tablesSorted s = true) :
    outSorted (execCreateIoCq slot s) = true := by
  simp only [execCreateIoCq]
  split <;> simp (maxDischargeDepth := 30) [*]

theorem execCreateIoSq_sorted (slot : ℕ) (s : State) (hwf : tablesSorted s = true) :
    outSorted (execCreateIoSq slot s) = true := by
  simp only [execCreateIoSq]
  split <;> simp (maxDischargeDepth := 30) [*]

theorem execDeleteIoSq_sorted (slot : ℕ) (s : State) (hwf : tablesSorted s = true) :
    outSorted (execDeleteIoSq slot s) = true := by
  unfold execDeleteIoSq
  repeat' split
  all_goals simp_all (maxDischargeDepth := 30)

theorem execDeleteIoCq_sorted (slot : ℕ) (s : State) (hwf : tablesSorted s = true) :
    outSorted (execDeleteIoCq slot s) = true := by
  simp only [execDeleteIoCq]
  split <;> simp (maxDischargeDepth := 30) [*]

@[simp] theorem rotationalLog_sorted (s : State) (hwf : tablesSorted s = true) :
    tablesSorted (rotationalLog s).2 = true :=
  sorted_of_within (@rotationalLog_frame _ _ (touch_of rfl) s (.refl _ _)) hwf

@[simp] theorem effectsLog_sorted (s : State) (hwf : tablesSorted s = true) :
    tablesSorted (effectsLog s).2 = true :=
  sorted_of_within (@effectsLog_frame _ _ (touch_of rfl) s (.refl _ _)) hwf

theorem standardLog_sorted (s : State) (p : Port) (lid len : Nat) (h : tablesSorted s = true) (e) (he : standardLog s p lid len = some e) : tablesSorted e.2 = true := by
  unfold standardLog at he
  split at he <;> cases he <;> simp [h]

@[simp] theorem logTaken_sorted (s : State) (p : Port) (lid : ℕ) (keep : Bool) (hwf : tablesSorted s = true) :
    tablesSorted (logTaken s p lid keep) = true := by
  simp (maxDischargeDepth := 30) [logTaken, *]

@[simp] theorem namespaceChanged_sorted (s : State) (nsid : ℕ) (ps : List Port) (hwf : tablesSorted s = true) :
    tablesSorted (namespaceChanged s nsid ps) = true := by
  unfold namespaceChanged
  simp_all (maxDischargeDepth := 30)

theorem execGetLogPage_sorted (slot : ℕ) (s : State) (hwf : tablesSorted s = true) :
    outSorted (execGetLogPage slot s) = true := by
  unfold execGetLogPage
  split
  · simp [hwf]
  · next c h =>
    dsimp only
    split
    · exact endAdmin_sorted _ _ _ _ _ hwf
    · split
      · exact endData_sorted _ _ _ _ hwf
      · split
        · exact endData_sorted _ _ _ _ hwf
        · split
          · split
            · exact endData_sorted _ _ _ _ hwf
            · exact endAdmin_sorted _ _ _ _ _ hwf
          · split
            · next d t e => exact endData_sorted _ _ _ _ (logTaken_sorted _ _ _ _ (standardLog_sorted _ _ _ _ hwf _ e))
            · exact endAdmin_sorted _ _ _ _ _ hwf

theorem execIdentify_sorted (slot : ℕ) (s : State) (hwf : tablesSorted s = true) :
    outSorted (execIdentify slot s) = true := by
  unfold execIdentify
  dsimp only
  repeat' split
  all_goals simp (maxDischargeDepth := 30) only [outSorted_next, endData, State.emit_sorted, endAdmin_sorted, State.draw_sorted, freeData, hwf]

theorem execNvmeAbort_sorted (slot : ℕ) (s : State) (hwf : tablesSorted s = true) :
    outSorted (execNvmeAbort slot s) = true := by
  simp only [execNvmeAbort]
  repeat' split
  all_goals simp (maxDischargeDepth := 30) [*]

@[simp] theorem enterPower_sorted (s : State) (n : ℕ) (hwf : tablesSorted s = true) :
    tablesSorted (enterPower s n) = true := by
  simp (maxDischargeDepth := 30) [enterPower, *]

@[simp] theorem requestPower_sorted (s : State) (n : ℕ) (hwf : tablesSorted s = true) :
    tablesSorted (requestPower s n) = true := by
  simp (maxDischargeDepth := 30) [requestPower, *]

@[simp] theorem powerEntered_sorted (s : State) (hwf : tablesSorted s = true) :
    tablesSorted (powerEntered s) = true := by
  simp (maxDischargeDepth := 30) [powerEntered, *]

@[simp] theorem cutEntry_sorted (s : State) (n : ℕ) (hwf : tablesSorted s = true) :
    tablesSorted (cutEntry s n) = true := by
  simp (maxDischargeDepth := 30) [cutEntry, *]

@[simp] theorem toPhase_sorted (s : State) (i : ℕ) (hwf : tablesSorted s = true) :
    tablesSorted (toPhase s i) = true := by
  simp (maxDischargeDepth := 30) [toPhase, *]

@[simp] theorem mirrorPoint_sorted (s : State) (hwf : tablesSorted s = true) :
    tablesSorted (mirrorPoint s) = true := by
  unfold mirrorPoint
  simp_all (maxDischargeDepth := 30)

theorem execPowerStateSafePoint_sorted (s : State) (hwf : tablesSorted s = true) :
    outSorted (execPowerStateSafePoint s) = true := by
  simp only [execPowerStateSafePoint]
  repeat' split
  all_goals simp (maxDischargeDepth := 30) [*]

theorem execPs3IdleTimeout_sorted (s : State) (hwf : tablesSorted s = true) :
    outSorted (execPs3IdleTimeout s) = true := by
  simp (maxDischargeDepth := 30) [execPs3IdleTimeout, *]

@[simp] theorem setFeature_sorted (s : State) (p : Port) (k : ℕ) (v : ℕ) (hwf : tablesSorted s = true) :
    tablesSorted (setFeature s p k v) = true := by
  simp (maxDischargeDepth := 30) [setFeature, *]

@[simp] theorem reservationDone_sorted (s : State) (n : ℕ) (c : CmdSlot) (old : Reservation) (new : Reservation) (hwf : tablesSorted s = true) :
    tablesSorted (reservationDone s n c old new) = true := by
  simp (maxDischargeDepth := 30) [reservationDone, *]

@[simp] theorem setFeatureCommand_sorted (s : State) (n : ℕ) (c : CmdSlot) (hwf : tablesSorted s = true) :
    tablesSorted (setFeatureCommand s n c) = true := by
  simp only [setFeatureCommand]
  repeat' split
  all_goals simp (maxDischargeDepth := 30) [*]

theorem execSetFeatures_sorted (slot : ℕ) (s : State) (hwf : tablesSorted s = true) :
    outSorted (execSetFeatures slot s) = true := by
  simp only [execSetFeatures]
  split <;> simp (maxDischargeDepth := 30) [*]

theorem execSetFeaturesPowerManagement_sorted (slot : ℕ) (s : State) (hwf : tablesSorted s = true) :
    outSorted (execSetFeaturesPowerManagement slot s) = true := by
  simp only [execSetFeaturesPowerManagement]
  split <;> simp (maxDischargeDepth := 30) [*]

theorem execSetFeaturesErrorRecovery_sorted (slot : ℕ) (s : State) (hwf : tablesSorted s = true) :
    outSorted (execSetFeaturesErrorRecovery slot s) = true := by
  simp only [execSetFeaturesErrorRecovery]
  split <;> simp (maxDischargeDepth := 30) [*]

theorem execSetFeaturesVwc_sorted (slot : ℕ) (s : State) (hwf : tablesSorted s = true) :
    outSorted (execSetFeaturesVwc slot s) = true := by
  simp only [execSetFeaturesVwc]
  split <;> simp (maxDischargeDepth := 30) [*]

theorem execGetFeatures_sorted (slot : ℕ) (s : State) (hwf : tablesSorted s = true) :
    outSorted (execGetFeatures slot s) = true := by
  simp only [execGetFeatures]
  repeat' split
  all_goals simp (maxDischargeDepth := 30) [*]

@[simp] theorem descriptorUpdate_sorted (s : State) (hwf : tablesSorted s = true) :
    tablesSorted (descriptorUpdate s) = true := by
  simp (maxDischargeDepth := 30) [descriptorUpdate, *]

theorem execNamespaceCreate_sorted (slot : ℕ) (nsze : ℕ) (lbaFormat : ℕ) (s : State) (hwf : tablesSorted s = true) :
    outSorted (execNamespaceCreate slot nsze lbaFormat s) = true := by
  simp only [execNamespaceCreate]
  repeat' split
  all_goals simp (maxDischargeDepth := 30) [*]

@[simp] theorem freeStripes_sorted (s : State) (first : ℕ) (n : ℕ) (hwf : tablesSorted s = true) :
    tablesSorted (freeStripes s first n) = true := by
  simp (maxDischargeDepth := 30) [freeStripes, *]

@[simp] theorem freeMaps_sorted (s : State) (hwf : tablesSorted s = true) :
    tablesSorted (freeMaps s) = true := by
  simp (maxDischargeDepth := 30) [freeMaps, *]

@[simp] theorem cancelReshape_sorted (s : State) (hwf : tablesSorted s = true) :
    tablesSorted (cancelReshape s) = true := by
  simp only [cancelReshape]
  split <;> simp (maxDischargeDepth := 30) [*]

@[simp] theorem discardNamespace_sorted (s : State) (ns : Namespace) (hwf : tablesSorted s = true) :
    tablesSorted (discardNamespace s ns) = true := by
  simp only [discardNamespace]
  split <;> simp (maxDischargeDepth := 30) [*]

@[simp] theorem deleteNamespace_sorted (s : State) (nsid : ℕ) (hwf : tablesSorted s = true) :
    tablesSorted (deleteNamespace s nsid) = true := by
  unfold deleteNamespace
  repeat' split
  all_goals simp_all (maxDischargeDepth := 30)

theorem execNamespaceDelete_sorted (slot : ℕ) (s : State) (hwf : tablesSorted s = true) :
    outSorted (execNamespaceDelete slot s) = true := by
  unfold execNamespaceDelete
  repeat' split
  all_goals simp_all (maxDischargeDepth := 30)

theorem execNamespaceAttachment_sorted (slot : ℕ) (controllers : List Port) (s : State) (hwf : tablesSorted s = true) :
    outSorted (execNamespaceAttachment slot controllers s) = true := by
  simp only [execNamespaceAttachment]
  repeat' split
  all_goals simp (maxDischargeDepth := 30) [*]

theorem execGetLbaStatus_sorted (slot : ℕ) (s : State) (hwf : tablesSorted s = true) :
    outSorted (execGetLbaStatus slot s) = true := by
  simp only [execGetLbaStatus]
  repeat' split
  all_goals simp (maxDischargeDepth := 30) [*]

theorem execInvalidOpcode_sorted (slot : ℕ) (s : State) (hwf : tablesSorted s = true) :
    outSorted (execInvalidOpcode slot s) = true := by
  simp only [execInvalidOpcode]
  split <;> simp (maxDischargeDepth := 30) [*]

@[simp] theorem notifyHosts_sorted (s : State) (nsid : ℕ) (maskBit : ℕ) (hosts : List ℕ) (hwf : tablesSorted s = true) :
    tablesSorted (notifyHosts s nsid maskBit hosts) = true := by
  unfold notifyHosts
  simp_all (maxDischargeDepth := 30)

@[simp] theorem reserveWith_sorted (s : State) (n : ℕ) (c : CmdSlot) (f : Reservation → ℕ × ℕ ⊕ Reservation) (hwf : tablesSorted s = true) :
    tablesSorted (reserveWith s n c f) = true := by
  simp only [reserveWith]
  repeat' split
  all_goals simp (maxDischargeDepth := 30) [*]

theorem execReservationRegister_sorted (slot : ℕ) (crkey : ℕ) (nrkey : ℕ) (s : State) (hwf : tablesSorted s = true) :
    outSorted (execReservationRegister slot crkey nrkey s) = true := by
  simp only [execReservationRegister]
  split <;> simp (maxDischargeDepth := 30) [*]

theorem execReservationReport_sorted (slot : ℕ) (s : State) (hwf : tablesSorted s = true) :
    outSorted (execReservationReport slot s) = true := by
  simp only [execReservationReport]
  repeat' split
  all_goals simp (maxDischargeDepth := 30) [*]

@[simp] theorem acquire_sorted (s : State) (n : ℕ) (c : CmdSlot) (crkey : ℕ) (prkey : ℕ) (hwf : tablesSorted s = true) :
    tablesSorted (acquire s n c crkey prkey) = true := by
  simp (maxDischargeDepth := 30) [acquire, *]

theorem execReservationAcquire_sorted (slot : ℕ) (crkey : ℕ) (prkey : ℕ) (s : State) (hwf : tablesSorted s = true) :
    outSorted (execReservationAcquire slot crkey prkey s) = true := by
  simp only [execReservationAcquire]
  split <;> simp (maxDischargeDepth := 30) [*]

theorem execReservationPreemptAndAbort_sorted (slot : ℕ) (crkey : ℕ) (prkey : ℕ) (s : State) (hwf : tablesSorted s = true) :
    outSorted (execReservationPreemptAndAbort slot crkey prkey s) = true := by
  unfold execReservationPreemptAndAbort
  repeat' split
  all_goals simp_all (maxDischargeDepth := 30)

theorem execReservationRelease_sorted (slot : ℕ) (crkey : ℕ) (s : State) (hwf : tablesSorted s = true) :
    outSorted (execReservationRelease slot crkey s) = true := by
  simp only [execReservationRelease]
  split <;> simp (maxDischargeDepth := 30) [*]

theorem execReservationStateWritten_sorted (ns : ℕ) (s : State) (hwf : tablesSorted s = true) :
    outSorted (execReservationStateWritten ns s) = true := by
  unfold execReservationStateWritten
  simp_all (maxDischargeDepth := 30)

/-! HostReset -/

@[simp] theorem dropCommands_sorted (s : State) (p : Port) (hwf : tablesSorted s = true) :
    tablesSorted (dropCommands s p) = true := by
  unfold dropCommands
  simp_all (maxDischargeDepth := 30)

@[simp] theorem resetNow_sorted (s : State) (p : Port) (hwf : tablesSorted s = true) :
    tablesSorted (resetNow s p) = true := by
  simp (maxDischargeDepth := 30) [resetNow, *]

@[simp] theorem controllerReset_sorted (s : State) (p : Port) (hwf : tablesSorted s = true) :
    tablesSorted (controllerReset s p) = true := by
  simp (maxDischargeDepth := 30) [controllerReset, *]

@[simp] theorem becomeReady_sorted (s : State) (p : Port) (hwf : tablesSorted s = true) :
    tablesSorted (becomeReady s p) = true := by
  simp (maxDischargeDepth := 30) [becomeReady, *]

theorem execCcEnClear_sorted (p : Port) (s : State) (hwf : tablesSorted s = true) :
    outSorted (execCcEnClear p s) = true := by
  simp (maxDischargeDepth := 30) [execCcEnClear, *]

theorem execCcEnSet_sorted (p : Port) (s : State) (hwf : tablesSorted s = true) :
    outSorted (execCcEnSet p s) = true := by
  simp (maxDischargeDepth := 30) [execCcEnSet, *]

theorem execFunctionLevelReset_sorted (p : Port) (s : State) (hwf : tablesSorted s = true) :
    outSorted (execFunctionLevelReset p s) = true := by
  simp (maxDischargeDepth := 30) [execFunctionLevelReset, *]

@[simp] theorem linkDown_sorted (s : State) (p : Port) (hwf : tablesSorted s = true) :
    tablesSorted (linkDown s p) = true := by
  simp (maxDischargeDepth := 30) [linkDown, *]

theorem execPcieLinkDown_sorted (p : Port) (s : State) (hwf : tablesSorted s = true) :
    outSorted (execPcieLinkDown p s) = true := by
  simp (maxDischargeDepth := 30) [execPcieLinkDown, *]

theorem execPerstAssert_sorted (p : Port) (s : State) (hwf : tablesSorted s = true) :
    outSorted (execPerstAssert p s) = true := by
  simp (maxDischargeDepth := 30) [execPerstAssert, *]

theorem execPerstDeassert_sorted (p : Port) (s : State) (hwf : tablesSorted s = true) :
    outSorted (execPerstDeassert p s) = true := by
  simp (maxDischargeDepth := 30) [execPerstDeassert, *]

theorem execLinkTrainingDone_sorted (p : Port) (speed : ℕ) (width : ℕ) (s : State) (hwf : tablesSorted s = true) :
    outSorted (execLinkTrainingDone p speed width s) = true := by
  simp (maxDischargeDepth := 30) [execLinkTrainingDone, *]

theorem execNvmSubsystemReset_sorted (s : State) (hwf : tablesSorted s = true) :
    outSorted (execNvmSubsystemReset s) = true := by
  unfold execNvmSubsystemReset
  repeat' split
  all_goals simp_all (maxDischargeDepth := 30)

theorem execShutdownNormal_sorted (p : Port) (s : State) (hwf : tablesSorted s = true) :
    outSorted (execShutdownNormal p s) = true := by
  simp (maxDischargeDepth := 30) [execShutdownNormal, *]

theorem execShutdownAbrupt_sorted (p : Port) (s : State) (hwf : tablesSorted s = true) :
    outSorted (execShutdownAbrupt p s) = true := by
  simp (maxDischargeDepth := 30) [execShutdownAbrupt, *]

/-! Stitch -/

@[simp] theorem offerRebuilt_sorted (s : State) (r : Run2) (m : StitchMap) (x : Subst) (g : ℕ) (offset : ℕ) (v : OffsetView) (hwf : tablesSorted s = true) :
    tablesSorted (offerRebuilt s r m x g offset v) = true :=
  sorted_of_within (@offerRebuilt_frame _ _ (touch_of rfl) s r m x g offset v (.refl _ _)) hwf

@[simp] theorem loseBlocks_sorted (s : State) (r : Run2) (m : StitchMap) (g : ℕ) (offset : ℕ) (cause : ℕ) (members : List ℕ) (hwf : tablesSorted s = true) :
    tablesSorted (loseBlocks s r m g offset cause members) = true := by
  unfold loseBlocks
  repeat' split
  all_goals simp_all (maxDischargeDepth := 30)

@[simp] theorem mirrorRemap_sorted (s : State) (k : ℕ) (hwf : tablesSorted s = true) :
    tablesSorted (mirrorRemap s k) = true := by
  simp (maxDischargeDepth := 30) [mirrorRemap, *]

@[simp] theorem makeStale_sorted (s : State) (r : Run2) (m : StitchMap) (x : Subst) (g : ℕ) (j : ℕ) (hwf : tablesSorted s = true) :
    tablesSorted (makeStale s r m x g j) = true := by
  simp only [makeStale]
  split <;> simp (maxDischargeDepth := 30) [*]

@[simp] theorem relocate_sorted (s : State) (r : Run2) (m : StitchMap) (x : Subst) (g : ℕ) (j : ℕ) (hwf : tablesSorted s = true) :
    tablesSorted (relocate s r m x g j) = true := by
  simp only [relocate]
  split <;> simp (maxDischargeDepth := 30) [*]

@[simp] theorem scrubPoisoned_sorted (s : State) (r : Run2) (m : StitchMap) (e : ℕ × CacheSlot) (hwf : tablesSorted s = true) :
    tablesSorted (scrubPoisoned s r m e) = true := by
  simp (maxDischargeDepth := 30) [scrubPoisoned, *]

@[simp] theorem methodOf_sorted (fill : Bool) (ks : List ℕ) (s : State) (hwf : tablesSorted s = true) :
    tablesSorted (methodOf fill ks s).2 = true :=
  sorted_of_within (@methodOf_frame _ _ (touch_of rfl) fill ks s (.refl _ _)) hwf

theorem execDestageUpdate_sorted (stripe : ℕ) (reads : List OffsetReads) (s : State) (hwf : tablesSorted s = true) :
    outSorted (execDestageUpdate stripe reads s) = true := by
  unfold execDestageUpdate
  dsimp only
  split
  · exact hwf
  split
  · exact hwf
  split
  · simp [hwf]
  split
  · exact hwf
  · simp +contextual (maxDischargeDepth := 30) [*]

@[simp] theorem retireBlocks_sorted (s : State) (r : Run2) (dbas : List (ℕ × ℕ)) (hwf : tablesSorted s = true) :
    tablesSorted (retireBlocks s r dbas) = true := by
  simp (maxDischargeDepth := 30) [retireBlocks, *]

@[simp] theorem settleDrain_sorted (s : State) (hwf : tablesSorted s = true) :
    tablesSorted (settleDrain s) = true := by
  simp (maxDischargeDepth := 30) [settleDrain, *]

theorem execStripeUpdateRetire_sorted (stripe : ℕ) (s : State) (hwf : tablesSorted s = true) :
    outSorted (execStripeUpdateRetire stripe s) = true := by
  simp only [execStripeUpdateRetire]
  split <;> simp (maxDischargeDepth := 30) [*]

@[simp] theorem saveJobs_sorted (s : State) (hwf : tablesSorted s = true) :
    tablesSorted (saveJobs s) = true := by
  simp (maxDischargeDepth := 30) [saveJobs, *]

theorem execWiMirrorPoint_sorted (s : State) (hwf : tablesSorted s = true) :
    outSorted (execWiMirrorPoint s) = true := by
  simp (maxDischargeDepth := 30) [execWiMirrorPoint, *]

@[simp] theorem raiseHead_sorted (s : State) (u : ℕ) (detail : optParam ℕ 0) (hwf : tablesSorted s = true) :
    tablesSorted (raiseHead s u detail) = true :=
  sorted_of_within (@raiseHead_frame _ _ (touch_of rfl) s u detail (.refl _ _)) hwf

theorem execMirrorRetry_sorted (page : ℕ) (ok : Bool) (s : State) (hwf : tablesSorted s = true) :
    outSorted (execMirrorRetry page ok s) = true := by
  unfold execMirrorRetry
  repeat' split
  all_goals simp_all (maxDischargeDepth := 30)

@[simp] theorem countReplay_sorted (s : State) (hwf : tablesSorted s = true) :
    tablesSorted (countReplay s) = true :=
  sorted_of_within (@countReplay_frame _ _ (touch_of rfl) s (.refl _ _)) hwf

theorem execJournalReplay_sorted (seq : ℕ) (s : State) (hwf : tablesSorted s = true) :
    outSorted (execJournalReplay seq s) = true := by
  simp only [execJournalReplay]
  repeat' split
  all_goals simp (maxDischargeDepth := 30) [*]

@[simp] theorem resyncStripe_sorted (s : State) (g : ℕ) (reads : List OffsetReads) (hwf : tablesSorted s = true) :
    tablesSorted (resyncStripe s g reads) = true := by
  unfold resyncStripe
  repeat' split
  all_goals simp_all (maxDischargeDepth := 30)

theorem execResyncGroup_sorted (group : ℕ) (reads : List (ℕ × OffsetReads)) (s : State) (hwf : tablesSorted s = true) :
    outSorted (execResyncGroup group reads s) = true := by
  unfold execResyncGroup
  repeat' split
  all_goals simp_all (maxDischargeDepth := 30)

/-! Rebuild -/

@[simp] theorem recordRetirement_sorted (s : State) (id : ℕ) (hwf : tablesSorted s = true) :
    tablesSorted (recordRetirement s id) = true :=
  sorted_of_within (@recordRetirement_frame _ _ (touch_of rfl) (touch_of rfl) s id (.refl _ _)) hwf

@[simp] theorem settleHolders_sorted (s : State) (hwf : tablesSorted s = true) :
    tablesSorted (settleHolders s) = true :=
  sorted_of_within (@settleHolders_frame _ _ (touch_of rfl) s (.refl _ _)) hwf

@[simp] theorem settleJob_sorted (s : State) (j : Job) (hwf : tablesSorted s = true) :
    tablesSorted (settleJob s j) = true := by
  simp only [settleJob]
  split <;> simp (maxDischargeDepth := 30) [*]

@[simp] theorem settleJobs_sorted (s : State) (hwf : tablesSorted s = true) :
    tablesSorted (settleJobs s) = true := by
  unfold settleJobs
  simp_all (maxDischargeDepth := 30)

@[simp] theorem dropStale_sorted (s : State) (u : ℕ) (hwf : tablesSorted s = true) :
    tablesSorted (dropStale s u) = true := by
  simp (maxDischargeDepth := 30) [dropStale, *]

@[simp] theorem moveEntries_sorted (s : State) (u : Nat) (h : tablesSorted s = true) : tablesSorted (moveEntries s u) = true := by
  unfold moveEntries
  refine State.each_sorted (by simp (maxDischargeDepth := 30) [*]) fun t x ht => ?_
  repeat' split
  all_goals simp +contextual (maxDischargeDepth := 30) [*]

@[simp] theorem retireSurfaceNow_sorted (s : State) (u : ℕ) (hwf : tablesSorted s = true) :
    tablesSorted (retireSurfaceNow s u) = true := by
  simp (maxDischargeDepth := 30) [retireSurfaceNow, *]

@[simp] theorem retireSurfaceAsk_sorted (s : State) (u : ℕ) (hwf : tablesSorted s = true) :
    tablesSorted (retireSurfaceAsk s u).2 = true := by
  simp only [retireSurfaceAsk]
  repeat' split
  all_goals simp (maxDischargeDepth := 30) [*]

@[simp] theorem innerUpdate_sorted (s : State) (g : ℕ) (hwf : tablesSorted s = true) :
    tablesSorted (innerUpdate s g) = true := by
  simp (maxDischargeDepth := 30) [innerUpdate, *]

@[simp] theorem rebuildOffset_sorted (s : State) (r : Run2) (m : StitchMap) (x : Subst) (g : ℕ) (cause : ℕ) (o : OffsetReads) (hwf : tablesSorted s = true) :
    tablesSorted (rebuildOffset s r m x g cause o) = true := by
  simp (maxDischargeDepth := 30) [rebuildOffset, *]

@[simp] theorem fillMember_sorted (s : State) (r : Run2) (m : StitchMap) (x : Subst) (g : ℕ) (j : ℕ) (hwf : tablesSorted s = true) :
    tablesSorted (fillMember s r m x g j) = true := by
  simp only [fillMember]
  repeat' split
  all_goals simp (maxDischargeDepth := 30) [*]

@[simp] theorem settleStaleAll_sorted (s : State) (hwf : tablesSorted s = true) :
    tablesSorted (settleStaleAll s) = true := by
  unfold settleStaleAll
  simp_all (maxDischargeDepth := 30)

@[simp] theorem skipGens_sorted (s : State) (n : ℕ) (hwf : tablesSorted s = true) :
    tablesSorted (skipGens s n) = true :=
  sorted_of_within (@skipGens_frame _ _ (touch_of rfl) s n (.refl _ _)) hwf

theorem execRebuildStripe_sorted (stripe : ℕ) (reads : List OffsetReads) (s : State) (hwf : tablesSorted s = true) :
    outSorted (execRebuildStripe stripe reads s) = true := by
  unfold execRebuildStripe
  dsimp only
  split
  · exact hwf
  rename_i r _
  split
  · exact hwf
  split
  · simp [hwf]
  have key : tablesSorted (List.foldl (fun s_1 o => match readOf reads o with
        | some rd => rebuildOffset s_1 r (r.map s) (substOf s (r.map s)) stripe 1 rd
        | none => s_1) s (List.range 64)) = true := foldl_sorted hwf fun t o ht => by split <;> simp [ht]
  refine settleJobs_sorted _ (settleStaleAll_sorted _ ?_)
  have filled := fun n => skipGens_sorted _ n (State.each_sorted
    (l := fillList s r (r.map s) (substOf s (r.map s)) stripe) (f := fun t j => fillMember t r (r.map s) (substOf s (r.map s)) stripe j) key
    fun t j ht => fillMember_sorted _ _ _ _ _ _ ht)
  exact State.setLayout_sorted _ _ (filled _) (wf_remap (filled _))

theorem execRebuildCheckpoint_sorted (s : State) (hwf : tablesSorted s = true) :
    outSorted (execRebuildCheckpoint s) = true := by
  simp (maxDischargeDepth := 30) [execRebuildCheckpoint, *]

@[simp] theorem suspect_sorted (s : State) (g : ℕ) (hwf : tablesSorted s = true) :
    tablesSorted (suspect s g) = true := by
  simp (maxDischargeDepth := 30) [suspect, *]

@[simp] theorem patrolRepair_sorted (s : State) (g : ℕ) (hwf : tablesSorted s = true) :
    tablesSorted (patrolRepair s g) = true := by
  simp (maxDischargeDepth := 30) [patrolRepair, *]

@[simp] theorem patrolOffset_sorted (s : State) (r : Run2) (m : StitchMap) (x : Subst) (g : ℕ) (o : OffsetReads) (hwf : tablesSorted s = true) :
    tablesSorted (patrolOffset s r m x g o).1 = true := by
  simp only [patrolOffset]
  repeat' split
  all_goals simp (maxDischargeDepth := 30) [*]

theorem execPatrolStripe_sorted (stripe : ℕ) (reads : List OffsetReads) (s : State) (hwf : tablesSorted s = true) :
    outSorted (execPatrolStripe stripe reads s) = true := by
  unfold execPatrolStripe
  dsimp only
  split
  · exact hwf
  split
  · exact hwf
  have tail : ∀ acc : State × Bool, tablesSorted acc.1 = true → ∀ k u : State → State, (∀ t : State, tablesSorted t = true → tablesSorted (k t) = true) →
      (∀ t : State, tablesSorted t = true → tablesSorted (u t) = true) →
      tablesSorted (layoutChanged (if (patrolTarget (k (if acc.2 then u acc.1 else acc.1))).isNone = true then
        (k (if acc.2 then u acc.1 else acc.1)).setNum Obj.patrolNext 0 else k (if acc.2 then u acc.1 else acc.1))) = true :=
    fun acc h k u hk hu => by
      have h1 : tablesSorted (k (if acc.2 then u acc.1 else acc.1)) = true := hk _ (by split <;> simp [hu, h])
      generalize k (if acc.2 then u acc.1 else acc.1) = y at h1 ⊢
      split <;> simp [h1]
  exact tail _ (foldl_fst_sorted (by split <;> simp [hwf]) fun y o hy => by split <;> simp [hy]) (·.setNum Obj.patrolNext (stripe + 1))
    (suspect · stripe) (by simp +contextual) (by simp +contextual)

@[simp] theorem reshapeAsk_sorted (s : State) (value : List Byte) (hwf : tablesSorted s = true) :
    tablesSorted (reshapeAsk s value).2 = true := by
  simp only [reshapeAsk]
  repeat' split
  all_goals simp (maxDischargeDepth := 30) [*]

@[simp] theorem awaitSwitch_sorted (s : State) (rs : Reshape) (hwf : tablesSorted s = true) :
    tablesSorted (awaitSwitch s rs) = true := by
  simp (maxDischargeDepth := 30) [awaitSwitch, *]

@[simp] theorem copyStripe_sorted (r : Run2) (m : StitchMap) (s : State) (g : ℕ) (hwf : tablesSorted s = true) :
    tablesSorted (copyStripe r m s g) = true := by
  unfold copyStripe
  simp_all (maxDischargeDepth := 30)

theorem execReshapeGroupCopy_sorted (s : State) (hwf : tablesSorted s = true) :
    outSorted (execReshapeGroupCopy s) = true := by
  unfold execReshapeGroupCopy
  repeat' split
  all_goals simp_all (maxDischargeDepth := 30)

theorem execReshapeSwitch_sorted (s : State) (hwf : tablesSorted s = true) :
    outSorted (execReshapeSwitch s) = true := by
  simp only [execReshapeSwitch]
  repeat' split
  all_goals simp (maxDischargeDepth := 30) [*]

@[simp] theorem relocateChunk_sorted (s : State) (c : Run2 × ℕ × ℕ) (hwf : tablesSorted s = true) :
    tablesSorted (relocateChunk s c) = true := by
  simp (maxDischargeDepth := 30) [relocateChunk, *]

@[simp] theorem makeGrown_sorted (s : State) (u : ℕ) (d : Defect) (hwf : tablesSorted s = true) :
    optSorted (makeGrown s u d) = true := by
  simp only [makeGrown]
  split <;> simp (maxDischargeDepth := 30) [*]

@[simp] theorem settleTrack_sorted (s : State) (u : Nat) (z : Zone) (track : Nat) (h : tablesSorted s = true) : tablesSorted (settleTrack s u z track) = true := by
  simp only [settleTrack]
  split
  · exact h
  · refine State.each_sorted (getD_sorted _ _ (makeGrown_sorted _ _ _ h) (by simp [h])) fun t row ht => ?_
    split <;> simp [ht]

@[simp] theorem relocateSector_sorted (s : State) (u : ℕ) (track : ℕ) (p : ℕ) (hwf : tablesSorted s = true) :
    tablesSorted (relocateSector s u track p) = true := by
  simp only [relocateSector]
  split <;> simp (maxDischargeDepth := 30) [*]

theorem execGrownDefectReadback_sorted (surface : Fin 48) (track : ℕ) (psector : ℕ) (converged : Bool) (taBoth : Bool) (freezeOffset : ℕ) (freezeLen : ℕ) (s : State) (hwf : tablesSorted s = true) :
    outSorted (execGrownDefectReadback surface track psector converged taBoth freezeOffset freezeLen s) = true := by
  simp only [execGrownDefectReadback]
  repeat' split
  all_goals simp (maxDischargeDepth := 30) [hwf]

theorem execGrownEntryCommit_sorted (surface : Fin 48) (entry : List Byte) (s : State) (hwf : tablesSorted s = true) :
    outSorted (execGrownEntryCommit surface entry s) = true := by
  simp only [execGrownEntryCommit]
  repeat' split
  all_goals simp (maxDischargeDepth := 30) [*]

@[simp] theorem closeStatus_sorted (s : State) (status : ℕ) (step : ℕ) (result : Option ℕ) (hwf : tablesSorted s = true) :
    tablesSorted (closeStatus s status step result) = true := by
  simp (maxDischargeDepth := 30) [closeStatus, *]

@[simp] theorem climbRecovered_sorted (s : State) (u : ℕ) (track : ℕ) (p : ℕ) (status : ℕ) (c : Climb) (hwf : tablesSorted s = true) :
    tablesSorted (climbRecovered s u track p status c) = true := by
  simp (maxDischargeDepth := 30) [climbRecovered, *]

@[simp] theorem stripeWaits_sorted (s : State) (u : ℕ) (track : ℕ) (p : ℕ) (hwf : tablesSorted s = true) :
    optSorted (stripeWaits s u track p) = true := by
  simp only [stripeWaits]
  repeat' split
  all_goals simp (maxDischargeDepth := 30) [*]

theorem execLadderStepAdvance_sorted (surface : Fin 48) (track : ℕ) (psector : ℕ) (top : ℕ) (status : ℕ) (outcome : StepOutcome) (s : State) (hwf : tablesSorted s = true) :
    outSorted (execLadderStepAdvance surface track psector top status outcome s) = true := by
  unfold execLadderStepAdvance
  dsimp only
  split
  · next t e =>
    split at e
    · have := stripeWaits_sorted s surface.val track psector hwf
      rw [e] at this
      exact this
    · cases e
  · repeat' split
    all_goals simp (maxDischargeDepth := 30) [*]

/-! Dma -/

@[simp] theorem State.setFab_sorted (s : State) (f : Fabric) (hwf : tablesSorted s = true) :
    tablesSorted (State.setFab s f) = true :=
  sorted_of_within (@State.setFab_frame _ _ (touch_of rfl) s f (.refl _ _)) hwf

@[simp] theorem State.modDma_sorted (s : State) (ch : ℕ) (f : DmaCh → DmaCh) (hwf : tablesSorted s = true) :
    tablesSorted (State.modDma s ch f) = true :=
  sorted_of_within (@State.modDma_frame _ _ (touch_of rfl) s ch f (.refl _ _)) hwf

@[simp] theorem dmaBlock_sorted (s : State) (ch : ℕ) (hwf : tablesSorted s = true) :
    tablesSorted (dmaBlock s ch) = true := by
  simp (maxDischargeDepth := 30) [dmaBlock, *]

@[simp] theorem dmaBlocks_sorted (ch fuel : Nat) (s : State) (h : tablesSorted s = true) : tablesSorted (dmaBlocks ch fuel s) = true := by
  induction fuel generalizing s with
  | zero => simpa [dmaBlocks] using h
  | succ n ih =>
    simp only [dmaBlocks]
    simp +contextual (maxDischargeDepth := 30) [*]

@[simp] theorem dmaTo_sorted (s : State) (ch : ℕ) (bytes : ℕ) (hwf : tablesSorted s = true) :
    tablesSorted (dmaTo s ch bytes) = true := by
  simp (maxDischargeDepth := 30) [dmaTo, *]

@[simp] theorem dmaNotify_sorted (s : State) (ch : ℕ) (ctrl : ℕ) (code : ℕ) (hwf : tablesSorted s = true) :
    tablesSorted (dmaNotify s ch ctrl code) = true :=
  sorted_of_within (@dmaNotify_frame _ _ (touch_of rfl) s ch ctrl code (.refl _ _)) hwf

@[simp] theorem settleDma_sorted (s : State) (ch : ℕ) (hwf : tablesSorted s = true) :
    tablesSorted (settleDma s ch) = true :=
  sorted_of_within (@settleDma_frame _ _ (touch_of rfl) s ch (.refl _ _)) hwf

@[simp] theorem dmaIdle_sorted (s : State) (ch : ℕ) (word : ℕ) (hwf : tablesSorted s = true) :
    tablesSorted (dmaIdle s ch word) = true :=
  sorted_of_within (@dmaIdle_frame _ _ (touch_of rfl) (touch_of rfl) s ch word (.refl _ _)) hwf

@[simp] theorem dmaEnd_sorted (s : State) (ch : ℕ) (code : ℕ) (indet : ℕ) (hwf : tablesSorted s = true) :
    tablesSorted (dmaEnd s ch code indet) = true := by
  simp (maxDischargeDepth := 30) [dmaEnd, *]

@[simp] theorem dmaStart_sorted (s : State) (ch : ℕ) (chain : Bool) (desc : ℕ) (src : ℕ) (dst : ℕ) (next : ℕ) (count : ℕ) (ctrl : ℕ) (hwf : tablesSorted s = true) :
    tablesSorted (dmaStart s ch chain desc src dst next count ctrl) = true := by
  simp only [dmaStart]
  split <;> simp (maxDischargeDepth := 30) [*]

@[simp] theorem dmaCtrl_sorted (s : State) (ch : ℕ) (v : ℕ) (hwf : tablesSorted s = true) :
    tablesSorted (dmaCtrl s ch v) = true := by
  simp (maxDischargeDepth := 30) [dmaCtrl, *]

@[simp] theorem dmaDisable_sorted (s : State) (ch : ℕ) (hwf : tablesSorted s = true) :
    tablesSorted (dmaDisable s ch) = true :=
  sorted_of_within (@dmaDisable_frame _ _ (touch_of rfl) (touch_of rfl) s ch (.refl _ _)) hwf

@[simp] theorem dmaFence_sorted (s : State) (ch : ℕ) (hwf : tablesSorted s = true) :
    tablesSorted (dmaFence s ch) = true :=
  sorted_of_within (@dmaFence_frame _ _ (touch_of rfl) (touch_of rfl) s ch (.refl _ _)) hwf

theorem execDmaDescriptorFetched_sorted (ch : Fin 8) (ok : Bool) (s : State) (hwf : tablesSorted s = true) :
    outSorted (execDmaDescriptorFetched ch ok s) = true := by
  simp (maxDischargeDepth := 30) [execDmaDescriptorFetched, *]

theorem execDmaBeatsAcknowledged_sorted (ch : Fin 8) (s : State) (hwf : tablesSorted s = true) :
    outSorted (execDmaBeatsAcknowledged ch s) = true := by
  simp (maxDischargeDepth := 30) [execDmaBeatsAcknowledged, *]

theorem execDmaReadbackDone_sorted (ch : Fin 8) (s : State) (hwf : tablesSorted s = true) :
    outSorted (execDmaReadbackDone ch s) = true := by
  simp (maxDischargeDepth := 30) [execDmaReadbackDone, *]

theorem execDmaBeatError_sorted (ch : Fin 8) (kind : BeatError) (doneBytes : ℕ) (indet : ℕ) (s : State) (hwf : tablesSorted s = true) :
    outSorted (execDmaBeatError ch kind doneBytes indet s) = true := by
  simp (maxDischargeDepth := 30) [execDmaBeatError, *]

@[simp] theorem lanesGone_sorted (s : State) (lane : ℕ) (hwf : tablesSorted s = true) :
    tablesSorted (lanesGone s lane) = true := by
  simp (maxDischargeDepth := 30) [lanesGone, *]

@[simp] theorem laneStop_sorted (s : State) (lane : ℕ) (hwf : tablesSorted s = true) :
    tablesSorted (laneStop s lane) = true := by
  simp (maxDischargeDepth := 30) [laneStop, *]

@[simp] theorem laneRetire_sorted (s : State) (lane : ℕ) (hwf : tablesSorted s = true) :
    tablesSorted (laneRetire s lane) = true := by
  simp (maxDischargeDepth := 30) [laneRetire, *]

theorem execFabricNak_sorted (lane : Fin 32) (requester : Fin 28) (s : State) (hwf : tablesSorted s = true) :
    outSorted (execFabricNak lane requester s) = true := by
  simp only [execFabricNak]
  repeat' split
  all_goals simp (maxDischargeDepth := 30) [*]

theorem execFabricAck_sorted (lane : Fin 32) (requester : Fin 28) (beats : ℕ) (s : State) (hwf : tablesSorted s = true) :
    outSorted (execFabricAck lane requester beats s) = true := by
  simp only [execFabricAck]
  split
  · exact State.setFab_sorted _ _ hwf
  · split
    · exact State.setFab_sorted _ _ hwf
    · rw [outSorted_next]
      split
      · exact dmaEnd_sorted _ _ _ _ (dmaTo_sorted _ _ _ (State.setFab_sorted _ _ hwf))
      · exact dmaTo_sorted _ _ _ (State.setFab_sorted _ _ hwf)

@[simp] theorem fillTokens_sorted (s : State) (hwf : tablesSorted s = true) :
    tablesSorted (fillTokens s) = true :=
  sorted_of_within (@fillTokens_frame _ _ (touch_of rfl) s (.refl _ _)) hwf

@[simp] theorem reservedNext_sorted (s : State) (l : List Beat) (hwf : tablesSorted s = true) :
    tablesSorted (reservedNext s l).2 = true :=
  sorted_of_within (@reservedNext_frame _ _ (touch_of rfl) s l (.refl _ _)) hwf

@[simp] theorem enterRegion_sorted (s : State) (l : List Beat) (r : ℕ) (hwf : tablesSorted s = true) :
    tablesSorted (enterRegion s l r) = true :=
  sorted_of_within (@enterRegion_frame _ _ (touch_of rfl) s l r (.refl _ _)) hwf

@[simp] theorem pickRegion_sorted (l : List Beat) (fuel : Nat) (s : State) (h : tablesSorted s = true) : tablesSorted (pickRegion l fuel s) = true :=
  sorted_of_within (@pickRegion_frame _ _ (touch_of rfl) l fuel s (.refl _ _)) h

@[simp] theorem pickRequester_sorted (s : State) (l : List Beat) (hwf : tablesSorted s = true) :
    tablesSorted (pickRequester s l).2 = true :=
  sorted_of_within (@pickRequester_frame _ _ (touch_of rfl) s l (.refl _ _)) hwf

@[simp] theorem serveBeat_sorted (s : State) (b : Beat) (hwf : tablesSorted s = true) :
    tablesSorted (serveBeat s b) = true := by
  simp only [serveBeat]
  split <;> simp (maxDischargeDepth := 30) [*]

theorem execArbiterGrant_sorted (waiting : List Beat) (s : State) (hwf : tablesSorted s = true) :
    outSorted (execArbiterGrant waiting s) = true := by
  unfold execArbiterGrant
  dsimp only
  split
  · simpa
  · have hs : tablesSorted (fillTokens s) = true := fillTokens_sorted s hwf
    generalize List.filter (beatReady s) waiting = l
    generalize fillTokens s = s at hs ⊢
    split
    next b t e =>
      have ht := reservedNext_sorted s l hs
      rw [e] at ht
      simp (maxDischargeDepth := 30) [*]
    next t e =>
      have ht := reservedNext_sorted s l hs
      rw [e] at ht
      have hp := pickRegion_sorted l 16 t ht
      generalize pickRegion l 16 t = p at hp ⊢
      have hq := pickRequester_sorted p l hp
      generalize pickRequester p l = q at hq ⊢
      split
      · split <;> simp (maxDischargeDepth := 30) [*]
      · simpa

/-! Collector -/

@[simp] theorem settleRates_sorted (s : State) (hwf : tablesSorted s = true) :
    tablesSorted (settleRates s) = true :=
  sorted_of_within (@settleRates_frame _ _ (touch_of rfl) s (.refl _ _)) hwf

@[simp] theorem stopPlayer_sorted (s : State) (p : ℕ) (st : ℕ) (hwf : tablesSorted s = true) :
    tablesSorted (stopPlayer s p st) = true := by
  simp only [stopPlayer]
  split <;> simp (maxDischargeDepth := 30) [*]

@[simp] theorem blockFence_sorted (s : State) (id : ℕ) (hwf : tablesSorted s = true) :
    tablesSorted (blockFence s id) = true := by
  simp (maxDischargeDepth := 30) [blockFence, *]

@[simp] theorem stopUnit_sorted (s : State) (o : Owner) (st : ℕ) (hwf : tablesSorted s = true) :
    tablesSorted (stopUnit s o st) = true := by
  simp only [stopUnit]
  split <;> simp (maxDischargeDepth := 30) [*]

@[simp] theorem fenceUnit_sorted (s : State) (id : ℕ) (o : Owner) (hwf : tablesSorted s = true) :
    tablesSorted (fenceUnit s id o) = true := by
  simp only [fenceUnit]
  repeat' split
  all_goals simp (maxDischargeDepth := 30) [*]

@[simp] theorem degradeUnit_sorted (s : State) (id : ℕ) (o : Owner) (hwf : tablesSorted s = true) :
    tablesSorted (degradeUnit s id o) = true := by
  simp (maxDischargeDepth := 30) [degradeUnit, *]

@[simp] theorem retireUnit_sorted (s : State) (id : ℕ) (o : Owner) (hwf : tablesSorted s = true) :
    tablesSorted (retireUnit s id o) = true := by
  unfold retireUnit
  repeat' split
  all_goals simp_all (maxDischargeDepth := 30)

@[simp] theorem repairRow_sorted (s : State) (o : Owner) (row : ℕ) (hwf : tablesSorted s = true) :
    tablesSorted (repairRow s o row) = true :=
  sorted_of_within (@repairRow_frame _ _ (touch_of rfl) s o row (.refl _ _)) hwf

@[simp] theorem applyAction_sorted (s : State) (ev : Event) (action : ℕ) (hwf : tablesSorted s = true) :
    tablesSorted (applyAction s ev action) = true := by
  simp (maxDischargeDepth := 30) [applyAction, *]

@[simp] theorem railSeen_sorted (s : State) (ev : Event) (hwf : tablesSorted s = true) :
    tablesSorted (railSeen s ev) = true :=
  sorted_of_within (@railSeen_frame _ _ (touch_of rfl) s ev (.refl _ _)) hwf

@[simp] theorem collect_sorted (s : State) (ev : Event) (hwf : tablesSorted s = true) :
    tablesSorted (collect s ev) = true := by
  simp (maxDischargeDepth := 30) [collect, *]

theorem execCollectorEvent_sorted (ev : Event) (s : State) (hwf : tablesSorted s = true) :
    outSorted (execCollectorEvent ev s) = true := by
  simp (maxDischargeDepth := 30) [execCollectorEvent, *]

@[simp] theorem readmitted_sorted (s : State) (o : Owner) (hwf : tablesSorted s = true) :
    tablesSorted (readmitted s o) = true := by
  simp only [readmitted]
  repeat' split
  all_goals simp (maxDischargeDepth := 30) [*]

theorem execUnitReadmit_sorted (source : ℕ) (s : State) (hwf : tablesSorted s = true) :
    outSorted (execUnitReadmit source s) = true := by
  simp (maxDischargeDepth := 30) [execUnitReadmit, *]

theorem execSafeRestartTimeout_sorted (s : State) (hwf : tablesSorted s = true) :
    outSorted (execSafeRestartTimeout s) = true := by
  simp (maxDischargeDepth := 30) [execSafeRestartTimeout, *]

theorem execCoreWatchdog_sorted (core : Fin 9) (s : State) (hwf : tablesSorted s = true) :
    outSorted (execCoreWatchdog core s) = true := by
  simp (maxDischargeDepth := 30) [execCoreWatchdog, *]

theorem execCollectorSelfFault_sorted (collector : Fin 9) (s : State) (hwf : tablesSorted s = true) :
    outSorted (execCollectorSelfFault collector s) = true := by
  simp (maxDischargeDepth := 30) [execCollectorSelfFault, *]

@[simp] theorem captureRearm_sorted (s : State) (r : ℕ) (hwf : tablesSorted s = true) :
    tablesSorted (captureRearm s r) = true :=
  sorted_of_within (@captureRearm_frame _ _ (touch_of rfl) s r (.refl _ _)) hwf

@[simp] theorem unretireAsk_sorted (s : State) (id : ℕ) (hwf : tablesSorted s = true) :
    tablesSorted (unretireAsk s id).2 = true := by
  simp only [unretireAsk]
  repeat' split
  all_goals simp (maxDischargeDepth := 30) [*]

/-! Firmware -/

theorem execFirmwareImageDownload_sorted (slot : ℕ) (piece : Bytes) (s : State) (hwf : tablesSorted s = true) :
    outSorted (execFirmwareImageDownload slot piece s) = true := by
  simp only [execFirmwareImageDownload]
  split <;> simp (maxDischargeDepth := 30) [*]

@[simp] theorem programSlot_sorted (s : State) (x : SlotProgram) (hwf : tablesSorted s = true) :
    tablesSorted (programSlot s x) = true :=
  sorted_of_within (@programSlot_frame _ _ (touch_of rfl) s x (.refl _ _)) hwf

@[simp] theorem commitProgram_sorted (s : State) (n : ℕ) (c : CmdSlot) (pend : Bool) (hwf : tablesSorted s = true) :
    tablesSorted (commitProgram s n c pend) = true := by
  simp only [commitProgram]
  split <;> simp (maxDischargeDepth := 30) [*]

theorem execFirmwareCommitReplace_sorted (slot : ℕ) (s : State) (hwf : tablesSorted s = true) :
    outSorted (execFirmwareCommitReplace slot s) = true := by
  simp only [execFirmwareCommitReplace]
  split <;> simp (maxDischargeDepth := 30) [*]

theorem execFirmwareCommitReplaceActivate_sorted (slot : ℕ) (s : State) (hwf : tablesSorted s = true) :
    outSorted (execFirmwareCommitReplaceActivate slot s) = true := by
  simp only [execFirmwareCommitReplaceActivate]
  split <;> simp (maxDischargeDepth := 30) [*]

@[simp] theorem pendSlot_sorted (s : State) (i : ℕ) (hwf : tablesSorted s = true) :
    tablesSorted (pendSlot s i) = true :=
  sorted_of_within (@pendSlot_frame _ _ (touch_of rfl) s i (.refl _ _)) hwf

theorem execFirmwareCommitActivate_sorted (slot : ℕ) (s : State) (hwf : tablesSorted s = true) :
    outSorted (execFirmwareCommitActivate slot s) = true := by
  simp only [execFirmwareCommitActivate]
  repeat' split
  all_goals simp (maxDischargeDepth := 30) [*]

theorem execFirmwareCommitActivateNow_sorted (slot : ℕ) (s : State) (hwf : tablesSorted s = true) :
    outSorted (execFirmwareCommitActivateNow slot s) = true := by
  simp only [execFirmwareCommitActivateNow]
  repeat' split
  all_goals simp (maxDischargeDepth := 30) [*]

theorem execFirmwareCommitInvalidAction_sorted (slot : ℕ) (s : State) (hwf : tablesSorted s = true) :
    outSorted (execFirmwareCommitInvalidAction slot s) = true := by
  simp only [execFirmwareCommitInvalidAction]
  split <;> simp (maxDischargeDepth := 30) [*]

theorem execFirmwareCommitDone_sorted (s : State) (hwf : tablesSorted s = true) :
    outSorted (execFirmwareCommitDone s) = true := by
  simp only [execFirmwareCommitDone]
  repeat' split
  all_goals simp (maxDischargeDepth := 30) [*]

@[simp] theorem loadStores_sorted (s : State) (slot : ℕ) (bank : ℕ) (hwf : tablesSorted s = true) :
    tablesSorted (loadStores s slot bank) = true :=
  sorted_of_within (@loadStores_frame _ _ (touch_of rfl) s slot bank (.refl _ _)) hwf

@[simp] theorem bankTo_sorted (s : State) (bank : ℕ) (hwf : tablesSorted s = true) :
    tablesSorted (bankTo s bank) = true :=
  sorted_of_within (@bankTo_frame _ _ (touch_of rfl) s bank (.refl _ _)) hwf

theorem execActivationStaged_sorted (s : State) (hwf : tablesSorted s = true) :
    outSorted (execActivationStaged s) = true := by
  simp only [execActivationStaged]
  repeat' split
  all_goals simp (maxDischargeDepth := 30) [*]

@[simp] theorem settleActivation_sorted (s : State) (hwf : tablesSorted s = true) :
    tablesSorted (settleActivation s) = true :=
  sorted_of_within (@settleActivation_frame _ _ (touch_of rfl) (touch_of rfl) s (.refl _ _)) hwf

@[simp] theorem imageRuns_sorted (s : State) (slot : ℕ) (hwf : tablesSorted s = true) :
    tablesSorted (imageRuns s slot) = true :=
  sorted_of_within (@imageRuns_frame _ _ (touch_of rfl) (touch_of rfl) (touch_of rfl) s slot (.refl _ _)) hwf

theorem execActivationFreezeEnd_sorted (freezeUs : ℕ) (s : State) (hwf : tablesSorted s = true) :
    outSorted (execActivationFreezeEnd freezeUs s) = true := by
  unfold execActivationFreezeEnd
  repeat' split
  all_goals simp_all (maxDischargeDepth := 30)

@[simp] theorem bundleAsk_sorted (s : State) (b : List Byte) (hwf : tablesSorted s = true) :
    tablesSorted (bundleAsk s b).2 = true :=
  sorted_of_within (@bundleAsk_frame _ _ (touch_of rfl) (touch_of rfl) s b (.refl _ _)) hwf

@[simp] theorem firstHolders_sorted (s : State) (hwf : tablesSorted s = true) :
    tablesSorted (firstHolders s) = true :=
  sorted_of_within (@firstHolders_frame _ _ (touch_of rfl) (touch_of rfl) s (.refl _ _)) hwf

@[simp] theorem bundleOnto_sorted (s : State) (u : ℕ) (b : List Byte) (hwf : tablesSorted s = true) :
    tablesSorted (bundleOnto s u b) = true :=
  sorted_of_within (@bundleOnto_frame _ _ (touch_of rfl) (touch_of rfl) (touch_of rfl) s u b (.refl _ _)) hwf

@[simp] theorem recoveryAsk_sorted (s : State) (b : List Byte) (hwf : tablesSorted s = true) :
    tablesSorted (recoveryAsk s b).2 = true :=
  sorted_of_within (@recoveryAsk_frame _ _ (touch_of rfl) (touch_of rfl) s b (.refl _ _)) hwf

@[simp] theorem ownerKeyAsk_sorted (s : State) (k : List Byte) (hwf : tablesSorted s = true) :
    tablesSorted (ownerKeyAsk s k).2 = true :=
  sorted_of_within (@ownerKeyAsk_frame _ _ (touch_of rfl) (touch_of rfl) (touch_of rfl) s k (.refl _ _)) hwf

@[simp] theorem chainAsk_sorted (s : State) (i : ℕ) (b : List Byte) (hwf : tablesSorted s = true) :
    tablesSorted (chainAsk s i b).2 = true :=
  sorted_of_within (@chainAsk_frame _ _ (touch_of rfl) s i b (.refl _ _)) hwf

@[simp] theorem eraseNamespace_sorted (s : State) (ns : Namespace) (hwf : tablesSorted s = true) :
    tablesSorted (eraseNamespace s ns) = true := by
  simp only [eraseNamespace]
  split <;> simp (maxDischargeDepth := 30) [*]

@[simp] theorem settleFormats_sorted (s : State) (hwf : tablesSorted s = true) :
    tablesSorted (settleFormats s) = true := by
  unfold settleFormats
  simp_all (maxDischargeDepth := 30)

@[simp] theorem eraseBegin_sorted (s : State) (l : List ℕ) (hwf : tablesSorted s = true) :
    tablesSorted (eraseBegin s l) = true :=
  sorted_of_within (@eraseBegin_frame _ _ (touch_of rfl) s l (.refl _ _)) hwf

theorem execSanitize_sorted (slot : ℕ) (action : SanitizeAction) (s : State) (hwf : tablesSorted s = true) :
    outSorted (execSanitize slot action s) = true := by
  simp only [execSanitize]
  split <;> simp (maxDischargeDepth := 30) [*]

theorem execFormatNvm_sorted (slot : ℕ) (s : State) (hwf : tablesSorted s = true) :
    outSorted (execFormatNvm slot s) = true := by
  simp only [execFormatNvm]
  split <;> simp (maxDischargeDepth := 30) [*]

@[simp] theorem settleReturn_sorted (s : State) (hwf : tablesSorted s = true) :
    tablesSorted (settleReturn s) = true := by
  simp (maxDischargeDepth := 30) [settleReturn, *]

theorem execCryptoEraseDone_sorted (ns : ℕ) (s : State) (hwf : tablesSorted s = true) :
    outSorted (execCryptoEraseDone ns s) = true := by
  simp only [execCryptoEraseDone]
  repeat' split
  all_goals simp (maxDischargeDepth := 30) [*]

@[simp] theorem finishErases_sorted (s : State) (h : tablesSorted s = true) : tablesSorted (finishErases s) = true := by
  unfold finishErases
  refine settleFormats_sorted _ (State.each_sorted h fun t x ht => ?_)
  repeat' split
  all_goals simp +contextual (maxDischargeDepth := 30) [*]

@[simp] theorem scrap_sorted (s : State) (hwf : tablesSorted s = true) :
    tablesSorted (scrap s) = true := by
  simp (maxDischargeDepth := 30) [scrap, *]

@[simp] theorem transition_sorted (s : State) (target : ℕ) (hwf : tablesSorted s = true) :
    tablesSorted (transition s target) = true := by
  unfold transition
  repeat' split
  all_goals simp_all (maxDischargeDepth := 30)

@[simp] theorem lifecycleAsk_sorted (s : State) (who : Requester) (b : List Byte) (hwf : tablesSorted s = true) :
    tablesSorted (lifecycleAsk s who b).2 = true := by
  simp only [lifecycleAsk]
  repeat' split
  all_goals simp (maxDischargeDepth := 30) [*]

@[simp] theorem nonceRead_sorted (s : State) (who : Requester) (hwf : tablesSorted s = true) :
    tablesSorted (nonceRead s who).2 = true :=
  sorted_of_within (@nonceRead_frame _ _ (touch_of rfl) (touch_of rfl) s who (.refl _ _)) hwf

@[simp] theorem spdmSend_sorted (s : State) (via : SpdmPort) (msg : List Byte) (hwf : tablesSorted s = true) :
    tablesSorted (spdmSend s via msg) = true :=
  sorted_of_within (@spdmSend_frame _ _ (touch_of rfl) (touch_of rfl) s via msg (.refl _ _)) hwf

@[simp] theorem spdmError_sorted (s : State) (via : SpdmPort) (code : ℕ) (hwf : tablesSorted s = true) :
    tablesSorted (spdmError s via code) = true :=
  sorted_of_within (@spdmError_frame _ _ (touch_of rfl) (touch_of rfl) s via code (.refl _ _)) hwf

@[simp] theorem addVca_sorted (s : State) (via : SpdmPort) (b : List Byte) (hwf : tablesSorted s = true) :
    tablesSorted (addVca s via b) = true :=
  sorted_of_within (@addVca_frame _ _ (touch_of rfl) s via b (.refl _ _)) hwf

@[simp] theorem addChal_sorted (s : State) (via : SpdmPort) (b : List Byte) (hwf : tablesSorted s = true) :
    tablesSorted (addChal s via b) = true :=
  sorted_of_within (@addChal_frame _ _ (touch_of rfl) s via b (.refl _ _)) hwf

@[simp] theorem setMeas_sorted (s : State) (via : SpdmPort) (b : List Byte) (hwf : tablesSorted s = true) :
    tablesSorted (setMeas s via b) = true :=
  sorted_of_within (@setMeas_frame _ _ (touch_of rfl) s via b (.refl _ _)) hwf

@[simp] theorem spdmVersion_sorted (s : State) (via : SpdmPort) (request : List Byte) (hwf : tablesSorted s = true) :
    tablesSorted (spdmVersion s via request) = true :=
  sorted_of_within (@spdmVersion_frame _ _ (touch_of rfl) (touch_of rfl) s via request (.refl _ _)) hwf

@[simp] theorem spdmCapabilities_sorted (s : State) (via : SpdmPort) (request : List Byte) (hwf : tablesSorted s = true) :
    tablesSorted (spdmCapabilities s via request) = true :=
  sorted_of_within (@spdmCapabilities_frame _ _ (touch_of rfl) (touch_of rfl) (touch_of rfl) s via request (.refl _ _)) hwf

@[simp] theorem spdmAlgorithms_sorted (s : State) (via : SpdmPort) (request : List Byte) (hwf : tablesSorted s = true) :
    tablesSorted (spdmAlgorithms s via request) = true :=
  sorted_of_within (@spdmAlgorithms_frame _ _ (touch_of rfl) (touch_of rfl) s via request (.refl _ _)) hwf

@[simp] theorem spdmDigests_sorted (s : State) (via : SpdmPort) (request : List Byte) (hwf : tablesSorted s = true) :
    tablesSorted (spdmDigests s via request) = true :=
  sorted_of_within (@spdmDigests_frame _ _ (touch_of rfl) (touch_of rfl) s via request (.refl _ _)) hwf

@[simp] theorem spdmCertificate_sorted (s : State) (via : SpdmPort) (slot : ℕ) (offset : ℕ) (len : ℕ) (request : List Byte) (hwf : tablesSorted s = true) :
    tablesSorted (spdmCertificate s via slot offset len request) = true :=
  sorted_of_within (@spdmCertificate_frame _ _ (touch_of rfl) (touch_of rfl) s via slot offset len request (.refl _ _)) hwf

@[simp] theorem spdmChallenge_sorted (s : State) (via : SpdmPort) (slot : ℕ) (hashType : ℕ) (request : List Byte) (hwf : tablesSorted s = true) :
    tablesSorted (spdmChallenge s via slot hashType request) = true :=
  sorted_of_within (@spdmChallenge_frame _ _ (touch_of rfl) (touch_of rfl) (touch_of rfl) s via slot hashType request (.refl _ _)) hwf

@[simp] theorem spdmMeasurements_sorted (s : State) (via : SpdmPort) (index : ℕ) (signed : Bool) (slot : ℕ) (request : List Byte) (hwf : tablesSorted s = true) :
    tablesSorted (spdmMeasurements s via index signed slot request) = true :=
  sorted_of_within (@spdmMeasurements_frame _ _ (touch_of rfl) (touch_of rfl) (touch_of rfl) s via index signed slot request (.refl _ _)) hwf

@[simp] theorem spdmAfter_sorted (s : State) (via : SpdmPort) (f : State → State) (hwf : tablesSorted s = true)
    (hd : ∀ t : State, tablesSorted t = true → tablesSorted (f t) = true) : tablesSorted (spdmAfter s via f) = true := by
  simp only [spdmAfter]
  split <;> simp (maxDischargeDepth := 30) [*]

@[simp] theorem spdmRefuse_sorted (s : State) (via : SpdmPort) (hwf : tablesSorted s = true) :
    tablesSorted (spdmRefuse s via) = true :=
  sorted_of_within (@spdmRefuse_frame _ _ (touch_of rfl) (touch_of rfl) s via (.refl _ _)) hwf

@[simp] theorem spdmRequest_sorted (s : State) (via : SpdmPort) (b : List Byte) (hwf : tablesSorted s = true) :
    tablesSorted (spdmRequest s via b) = true :=
  sorted_of_within (@spdmRequest_frame _ _ (touch_of rfl) (touch_of rfl) (touch_of rfl) s via b (.refl _ _)) hwf

theorem execSecuritySend_sorted (slot : ℕ) (data : Bytes) (s : State) (hwf : tablesSorted s = true) :
    outSorted (execSecuritySend slot data s) = true := by
  simp only [execSecuritySend]
  split <;> simp (maxDischargeDepth := 30) [*]

theorem execSecurityReceive_sorted (slot : ℕ) (s : State) (hwf : tablesSorted s = true) :
    outSorted (execSecurityReceive slot s) = true := by
  simp only [execSecurityReceive]
  split <;> simp (maxDischargeDepth := 30) [*]

/-! Start -/

@[simp] theorem State.setDict_sorted (s : State) (d : DictSvc) (hwf : tablesSorted s = true) :
    tablesSorted (State.setDict s d) = true :=
  sorted_of_within (@State.setDict_frame _ _ (touch_of rfl) s d (.refl _ _)) hwf

@[simp] theorem attemptStart_sorted (s : State) (hwf : tablesSorted s = true) :
    tablesSorted (attemptStart s) = true :=
  sorted_of_within (@attemptStart_frame _ _ (touch_of rfl) (touch_of rfl) s (.refl _ _)) hwf

@[simp] theorem restartSequence_sorted (s : State) (hwf : tablesSorted s = true) :
    tablesSorted (restartSequence s) = true :=
  sorted_of_within (@restartSequence_frame _ _ (touch_of rfl) (touch_of rfl) (touch_of rfl) (touch_of rfl) (touch_of rfl) (touch_of rfl) s (.refl _ _)) hwf

@[simp] theorem decideUnit_sorted (s : State) (st : Key) (en : Key) (faulty : Bool) (hwf : tablesSorted s = true) :
    tablesSorted (decideUnit s st en faulty) = true :=
  sorted_of_within (@decideUnit_frame _ _ (touch_of rfl) s st en faulty (.refl _ _)) hwf

@[simp] theorem leaveOut_sorted (s : State) (a : ℕ) (k : ℕ) (hwf : tablesSorted s = true) :
    tablesSorted (leaveOut s a k) = true := by
  simp (maxDischargeDepth := 30) [leaveOut, *]

@[simp] theorem chooseSlot_sorted (s : State) (hwf : tablesSorted s = true) :
    tablesSorted (chooseSlot s) = true :=
  sorted_of_within (@chooseSlot_frame _ _ (touch_of rfl) s (.refl _ _)) hwf

@[simp] theorem repairsDone_sorted (s : State) (found : StepFindings) (hwf : tablesSorted s = true) :
    tablesSorted (repairsDone s found) = true :=
  sorted_of_within (@repairsDone_frame _ _ (touch_of rfl) s found (.refl _ _)) hwf

@[simp] theorem zeroFillInit_sorted (s : State) (alt : Bool) (hwf : tablesSorted s = true) :
    tablesSorted (zeroFillInit s alt) = true := by
  simp (maxDischargeDepth := 30) [zeroFillInit, *]

@[simp] theorem keeperScan_sorted (s : State) (hwf : tablesSorted s = true) :
    tablesSorted (keeperScan s) = true := by
  simp only [keeperScan]
  repeat' split
  all_goals simp (maxDischargeDepth := 30) [*]

@[simp] theorem keeperLeftOut_sorted (s : State) (hwf : tablesSorted s = true) :
    tablesSorted (keeperLeftOut s) = true := by
  unfold keeperLeftOut
  simp_all (maxDischargeDepth := 30)

@[simp] theorem eraseObj_sorted (s : State) (k : Key) (hwf : tablesSorted s = true) :
    tablesSorted (eraseObj s k) = true :=
  sorted_of_within (@eraseObj_frame _ _ (touch_of rfl) s k (.refl _ _)) hwf

@[simp] theorem loadStored_sorted (values : SMap Val) (s : State) (k : Key) (hwf : tablesSorted s = true) :
    tablesSorted (loadStored values s k) = true :=
  sorted_of_within (@loadStored_frame _ _ (touch_of rfl) (touch_of rfl) values s k (.refl _ _)) hwf

@[simp] theorem rewriteCopies_sorted (s : State) (kept : SMap Val) (hwf : tablesSorted s = true) :
    tablesSorted (rewriteCopies s kept) = true :=
  sorted_of_within (@rewriteCopies_frame _ _ (touch_of rfl) s kept (.refl _ _)) hwf

@[simp] theorem loadObjects_sorted (s : State) (alt : Bool) (h : tablesSorted s = true) : tablesSorted (loadObjects s alt) = true :=
  sorted_of_within (@loadObjects_frame _ _ (touch_of rfl) (touch_of rfl) (touch_of rfl) s alt (.refl _ _)) h

@[simp] theorem applyRetired_sorted (s : State) (h : tablesSorted s = true) : tablesSorted (applyRetired s) = true :=
  sorted_of_within (@applyRetired_frame _ _ (touch_of rfl) s (.refl _ _)) h

@[simp] theorem loadReservations_sorted (s : State) (hwf : tablesSorted s = true) :
    tablesSorted (loadReservations s) = true := by
  simp (maxDischargeDepth := 30) [loadReservations, *]

@[simp] theorem loadPresets_sorted (s : State) (slot : ℕ) (hwf : tablesSorted s = true) :
    tablesSorted (loadPresets s slot) = true :=
  sorted_of_within (@loadPresets_frame _ _ (touch_of rfl) s slot (.refl _ _)) hwf

@[simp] theorem takeSettings_sorted (s : State) (hwf : tablesSorted s = true) :
    tablesSorted (takeSettings s) = true := by
  simp (maxDischargeDepth := 30) [takeSettings, *]

@[simp] theorem keepEnables_sorted (s : State) (hwf : tablesSorted s = true) :
    tablesSorted (keepEnables s) = true :=
  sorted_of_within (@keepEnables_frame _ _ (touch_of rfl) s (.refl _ _)) hwf

@[simp] theorem releaseImage_sorted (s : State) (alt : Bool) (hwf : tablesSorted s = true) :
    tablesSorted (releaseImage s alt) = true :=
  sorted_of_within (@releaseImage_frame _ _ (touch_of rfl) (touch_of rfl) (touch_of rfl) (touch_of rfl) (touch_of rfl) s alt (.refl _ _)) hwf

@[simp] theorem releaseUnits_sorted (s : State) (failedUnits : List ℕ) (hwf : tablesSorted s = true) :
    tablesSorted (releaseUnits s failedUnits) = true :=
  sorted_of_within (@releaseUnits_frame _ _ (touch_of rfl) (touch_of rfl) s failedUnits (.refl _ _)) hwf

@[simp] theorem releaseRecords_sorted (s : State) (hwf : tablesSorted s = true) :
    tablesSorted (releaseRecords s) = true := by
  simp (maxDischargeDepth := 30) [releaseRecords, *]

@[simp] theorem coreRelease_sorted (s : State) (alt : Bool) (failedUnits : List ℕ) (hwf : tablesSorted s = true) :
    tablesSorted (coreRelease s alt failedUnits) = true := by
  simp only [coreRelease]
  split <;> simp (maxDischargeDepth := 30) [*]

@[simp] theorem handshake_sorted (s : State) (found : StepFindings) (hwf : tablesSorted s = true) :
    tablesSorted (handshake s found) = true :=
  sorted_of_within (@handshake_frame _ _ (touch_of rfl) (touch_of rfl) (touch_of rfl) (touch_of rfl) s found (.refl _ _)) hwf

@[simp] theorem restartMotion_sorted (s : State) (hwf : tablesSorted s = true) :
    tablesSorted (restartMotion s) = true :=
  sorted_of_within (@restartMotion_frame _ _ (touch_of rfl) (touch_of rfl) s (.refl _ _)) hwf

@[simp] theorem discovery_sorted (s : State) (found : StepFindings) (hwf : tablesSorted s = true) :
    tablesSorted (discovery s found) = true := by
  unfold discovery
  simp_all (maxDischargeDepth := 30)

@[simp] theorem switchesOn_sorted (s : State) (hwf : tablesSorted s = true) :
    tablesSorted (switchesOn s) = true :=
  sorted_of_within (@switchesOn_frame _ _ (touch_of rfl) (touch_of rfl) s (.refl _ _)) hwf

@[simp] theorem acquisition_sorted (s : State) (hwf : tablesSorted s = true) :
    tablesSorted (acquisition s) = true :=
  sorted_of_within (@acquisition_frame _ _ (touch_of rfl) (touch_of rfl) (touch_of rfl) (touch_of rfl) (touch_of rfl) s (.refl _ _)) hwf

@[simp] theorem acquired_sorted (s : State) (found : StepFindings) (hwf : tablesSorted s = true) :
    tablesSorted (acquired s found) = true := by
  unfold acquired
  simp_all (maxDischargeDepth := 30)

@[simp] theorem loadBundle_sorted (s : State) (i : ℕ) (hwf : tablesSorted s = true) :
    tablesSorted (loadBundle s i) = true := by
  unfold loadBundle
  simp_all (maxDischargeDepth := 30)

@[simp] theorem dumpReplay_sorted (s : State) (bad : List ℕ) (hwf : tablesSorted s = true) :
    tablesSorted (dumpReplay s bad) = true := by
  unfold dumpReplay
  dsimp only
  have hmem : ∀ m : Memory, m.lines = s.mem.lines → tablesSorted (s.setMem m) = true := fun m hm =>
    State.setMem_sorted _ _ hwf (by rw [linesSorted, hm]; exact linesSorted_mem hwf)
  split
  · exact hmem _ rfl
  · exact countDirty_sorted _ (State.setNum_sorted _ _ _ (State.setLayout_sorted _ _ (hmem _ rfl) (wf_remap hwf)))

@[simp] theorem journalResync_sorted (s : State) (alt : Bool) (hwf : tablesSorted s = true) :
    tablesSorted (journalResync s alt) = true := by
  simp only [journalResync]
  split <;> simp (maxDischargeDepth := 30) [*]

@[simp] theorem layoutMount_sorted (s : State) (alt : Bool) (hwf : tablesSorted s = true) :
    tablesSorted (layoutMount s alt) = true := by
  unfold layoutMount
  extract_lets _ rows _ alloc total named faces reshape _ _ merged
  have hrows : tablesSorted rows = true := by
    unfold rows; split
    · exact State.setLayout_sorted _ _ hwf (wf_remap hwf)
    · exact hwf
  have halloc : tablesSorted alloc = true := by
    unfold alloc; split
    · exact setDegraded_sorted _ _ _ (State.setLayout_sorted _ _ hrows (wf_remap hrows))
    · exact hrows
  have htotal : tablesSorted total = true := State.setNum_sorted _ _ _ halloc
  have hnamed : tablesSorted named = true := State.each_sorted htotal fun t _ h => State.setNum_sorted t _ _ h
  have hfaces : tablesSorted faces = true := State.each_sorted hnamed fun t _ h => State.setNum_sorted t _ _ h
  have hreshape : tablesSorted reshape = true := State.setNum_sorted _ _ _ hfaces
  have hmerged : tablesSorted merged = true := by
    unfold merged; split
    · exact countRecords_sorted _ (State.setColl_sorted _ _ hreshape)
    · exact hreshape
  exact countJournal_sorted _ (countDirty_sorted _ (settleHolders_sorted _ (layoutChanged_sorted _ (finishErases_sorted _ hmerged))))

@[simp] theorem portsDecided_sorted (s : State) (ports : ℕ) (hwf : tablesSorted s = true) :
    tablesSorted (portsDecided s ports) = true :=
  sorted_of_within (@portsDecided_frame _ _ (touch_of rfl) (touch_of rfl) s ports (.refl _ _)) hwf

@[simp] theorem settleSlots_sorted (s : State) (hwf : tablesSorted s = true) :
    tablesSorted (settleSlots s) = true :=
  sorted_of_within (@settleSlots_frame _ _ (touch_of rfl) s (.refl _ _)) hwf

@[simp] theorem raiseSecurity_sorted (s : State) (hwf : tablesSorted s = true) :
    tablesSorted (raiseSecurity s) = true :=
  sorted_of_within (@raiseSecurity_frame _ _ (touch_of rfl) (touch_of rfl) s (.refl _ _)) hwf

@[simp] theorem levelBundles_sorted (s : State) (hwf : tablesSorted s = true) :
    tablesSorted (levelBundles s) = true :=
  sorted_of_within (@levelBundles_frame _ _ (touch_of rfl) (touch_of rfl) (touch_of rfl) s (.refl _ _)) hwf

@[simp] theorem hostReady_sorted (s : State) (ports : ℕ) (hwf : tablesSorted s = true) :
    tablesSorted (hostReady s ports) = true := by
  simp only [hostReady]
  repeat' split
  all_goals simp (maxDischargeDepth := 30) [*]

@[simp] theorem takeRpm_sorted (s : State) (hwf : tablesSorted s = true) :
    tablesSorted (takeRpm s) = true :=
  sorted_of_within (@takeRpm_frame _ _ (touch_of rfl) s (.refl _ _)) hwf

@[simp] theorem stepBegins_sorted (s : State) (hwf : tablesSorted s = true) :
    tablesSorted (stepBegins s) = true :=
  sorted_of_within (@stepBegins_frame _ _ (touch_of rfl) (touch_of rfl) (touch_of rfl) (touch_of rfl) (touch_of rfl) (touch_of rfl) (touch_of rfl) (touch_of rfl) s (.refl _ _)) hwf

@[simp] theorem retireUnrepairable_sorted (s : State) (ids : List Nat) (h : tablesSorted s = true) : tablesSorted (retireUnrepairable s ids) = true :=
  sorted_of_within (@retireUnrepairable_frame _ _ (touch_of rfl) (touch_of rfl) s ids (.refl _ _)) h

@[simp] theorem stepPassed_sorted (s : State) (found : StepFindings) (hwf : tablesSorted s = true) :
    tablesSorted (stepPassed s found) = true := by
  unfold stepPassed
  repeat' split
  all_goals simp +contextual (maxDischargeDepth := 30) [*]

@[simp] theorem nextStep_sorted (s : State) (hwf : tablesSorted s = true) :
    tablesSorted (nextStep s) = true :=
  sorted_of_within (@nextStep_frame _ _ (touch_of rfl) (touch_of rfl) (touch_of rfl) (touch_of rfl) (touch_of rfl) (touch_of rfl) (touch_of rfl) (touch_of rfl) s (.refl _ _)) hwf

@[simp] theorem stepEnds_sorted (s : State) (found : StepFindings) (hwf : tablesSorted s = true) :
    tablesSorted (stepEnds s found) = true := by
  simp (maxDischargeDepth := 30) [stepEnds, *]

@[simp] theorem endForGood_sorted (s : State) (code : ℕ) (endCode : ℕ) (detail : ℕ) (hwf : tablesSorted s = true) :
    tablesSorted (endForGood s code endCode detail) = true := by
  simp (maxDischargeDepth := 30) [endForGood, *]

@[simp] theorem stepFails_sorted (s : State) (found : StepFindings) (code : ℕ) (hwf : tablesSorted s = true) :
    tablesSorted (stepFails s found code) = true := by
  simp (maxDischargeDepth := 30) [stepFails, *]

theorem execStartStepEnd_sorted (result : StepEnd) (found : StepFindings) (s : State) (hwf : tablesSorted s = true) :
    outSorted (execStartStepEnd result found s) = true := by
  simp only [execStartStepEnd]
  repeat' split
  all_goals simp (maxDischargeDepth := 30) [*]

theorem execStepWatchdog_sorted (found : StepFindings) (s : State) (hwf : tablesSorted s = true) :
    outSorted (execStepWatchdog found s) = true := by
  simp (maxDischargeDepth := 30) [execStepWatchdog, *]

theorem execStartDeadline_sorted (s : State) (hwf : tablesSorted s = true) :
    outSorted (execStartDeadline s) = true := by
  simp (maxDischargeDepth := 30) [execStartDeadline, *]

@[simp] theorem restartNormal_sorted (s : State) (hwf : tablesSorted s = true) :
    tablesSorted (restartNormal s) = true := by
  simp (maxDischargeDepth := 30) [restartNormal, *]

@[simp] theorem restartMaintenance_sorted (s : State) (hwf : tablesSorted s = true) :
    tablesSorted (restartMaintenance s) = true := by
  simp (maxDischargeDepth := 30) [restartMaintenance, *]

/-! DictRead -/

@[simp] theorem freeVal_sorted (s : State) (k : Key) (hwf : tablesSorted s = true) :
    tablesSorted (freeVal s k).2 = true :=
  sorted_of_within (@freeVal_frame _ _ (touch_of rfl) s k (.refl _ _)) hwf

@[simp] theorem readValue_sorted (s : State) (who : Requester) (k : Key) (hwf : tablesSorted s = true) :
    tablesSorted (readValue s who k).2 = true :=
  sorted_of_within (@readValue_frame _ _ (touch_of rfl) (touch_of rfl) (touch_of rfl) s who k (.refl _ _)) hwf

@[simp] theorem readObject_sorted (s : State) (who : Requester) (k : Key) (scalarOnly : Bool) (hwf : tablesSorted s = true) :
    tablesSorted (readObject s who k scalarOnly).2.2 = true :=
  sorted_of_within (@readObject_frame _ _ (touch_of rfl) (touch_of rfl) (touch_of rfl) s who k scalarOnly (.refl _ _)) hwf

@[simp] theorem bumpGen_sorted (s : State) (k : Key) (hwf : tablesSorted s = true) :
    tablesSorted (bumpGen s k) = true :=
  sorted_of_within (@bumpGen_frame _ _ (touch_of rfl) s k (.refl _ _)) hwf

@[simp] theorem noteContents_sorted (s : State) (k : Key) (b : List Byte) (hwf : tablesSorted s = true) :
    tablesSorted (noteContents s k b) = true :=
  sorted_of_within (@noteContents_frame _ _ (touch_of rfl) s k b (.refl _ _)) hwf

@[simp] theorem readSegment_sorted (s : State) (who : Requester) (k : Key) (off : ℕ) (len : ℕ) (hwf : tablesSorted s = true) :
    tablesSorted (readSegment s who k off len).2 = true :=
  sorted_of_within (@readSegment_frame _ _ (touch_of rfl) (touch_of rfl) (touch_of rfl) (touch_of rfl) s who k off len (.refl _ _)) hwf

/-! DictWrite -/

@[simp] theorem settleActuator_sorted (s : State) (a : ℕ) (hwf : tablesSorted s = true) :
    tablesSorted (settleActuator s a) = true := by
  simp (maxDischargeDepth := 30) [settleActuator, *]

@[simp] theorem disableUnit_sorted (s : State) (o : Owner) (hwf : tablesSorted s = true) :
    tablesSorted (disableUnit s o) = true := by
  unfold disableUnit
  repeat' split
  all_goals simp_all (maxDischargeDepth := 30)

@[simp] theorem enableUnit_sorted (s : State) (o : Owner) (hwf : tablesSorted s = true) :
    tablesSorted (enableUnit s o) = true := by
  simp only [enableUnit]
  split <;> simp (maxDischargeDepth := 30) [*]

@[simp] theorem enableWrite_sorted (s : State) (o : Owner) (v : ℕ) (hwf : tablesSorted s = true) :
    tablesSorted (enableWrite s o v) = true := by
  simp only [enableWrite]
  split <;> simp (maxDischargeDepth := 30) [*]

@[simp] theorem quiesced_sorted (s : State) (o : Owner) (hwf : tablesSorted s = true) :
    tablesSorted (quiesced s o) = true := by
  simp only [quiesced]
  split <;> simp (maxDischargeDepth := 30) [*]

@[simp] theorem mailboxStart_sorted (s : State) (core : ℕ) (cmd : ℕ) (hwf : tablesSorted s = true) :
    tablesSorted (mailboxStart s core cmd) = true :=
  sorted_of_within (@mailboxStart_frame _ _ (touch_of rfl) (touch_of rfl) s core cmd (.refl _ _)) hwf

theorem optSorted_orElse {a b : Option State} (ha : optSorted a = true) (hb : optSorted b = true) : optSorted (a <|> b) = true := by
  cases a <;> assumption

theorem optSorted_map {α : Type} {o : Option α} {f : α → State} (hf : ∀ x, tablesSorted (f x) = true) : optSorted (o.map f) = true := by
  cases o <;> simp [hf]

@[simp] theorem optSorted_ite {c : Prop} [Decidable c] (a b : Option State) : optSorted (if c then a else b) = if c then optSorted a else optSorted b :=
  apply_ite _ _ _ _

@[simp] theorem actService_sorted (s : State) (who : Requester) (k : Key) (v : Val) (h : tablesSorted s = true) : optSorted (actService s who k v) = true := by
  have h1 : optSorted ((unitIx Obj.captureClear 9 k).map fun r => if v.toNum = 1 then captureRearm s r else s) = true :=
    optSorted_map fun r => by split <;> simp [h]
  simp (maxDischargeDepth := 30) [actService, h, h1]

@[simp] theorem actServo_sorted (s : State) (k : Key) (v : Val) (h : tablesSorted s = true) : optSorted (actServo s k v) = true := by
  unfold actServo
  dsimp only
  repeat' apply optSorted_orElse
  all_goals
    refine optSorted_map fun x => ?_
    simp (maxDischargeDepth := 30) [h]

@[simp] theorem actCore_sorted (s : State) (k : Key) (v : Val) (h : tablesSorted s = true) : optSorted (actCore s k v) = true := by
  unfold actCore
  dsimp only
  repeat' apply optSorted_orElse
  all_goals
    refine optSorted_map fun x => ?_
    simp (maxDischargeDepth := 30) [h]

@[simp] theorem effect_sorted (s : State) (who : Requester) (k : Key) (v : Val) (hwf : tablesSorted s = true) :
    tablesSorted (effect s who k v) = true := by
  simp (maxDischargeDepth := 30) [effect, *]

@[simp] theorem selfCheckOutcome_sorted (s : State) (due : Bool) (given : Option Bool) (hwf : tablesSorted s = true) :
    tablesSorted (selfCheckOutcome s due given).2 = true :=
  sorted_of_within (@selfCheckOutcome_frame _ _ (touch_of rfl) s due given (.refl _ _)) hwf

@[simp] theorem selfCheckEvent_sorted (s : State) (k : Key) (v : Option Val) (pass : Bool) (hwf : tablesSorted s = true) :
    tablesSorted (selfCheckEvent s k v pass) = true :=
  sorted_of_within (@selfCheckEvent_frame _ _ (touch_of rfl) s k v pass (.refl _ _)) hwf

@[simp] theorem writeObject_sorted (s : State) (who : Requester) (k : Key) (v : Option Val) (given : Option Bool) (answer : State → Nat → State)
    (h : tablesSorted s = true) (ha : ∀ t n, tablesSorted t = true → tablesSorted (answer t n) = true) : tablesSorted (writeObject s who k v given answer) = true := by
  simp only [writeObject]
  repeat' split
  all_goals simp +contextual (maxDischargeDepth := 30) [*]

@[simp] theorem writeList_sorted (s : State) (who : Requester) (l : List (Key × Option Val)) (answer : State → Option (Nat × Nat) → State)
    (h : tablesSorted s = true) (ha : ∀ t n, tablesSorted t = true → tablesSorted (answer t n) = true) : tablesSorted (writeList s who l answer) = true := by
  have run : ∀ (t : State) (m : List (Key × Option Val)), tablesSorted t = true → tablesSorted (m.foldl (fun s e => match e.2 with
      | some v => effect s who e.1 v
      | none => s) t) = true := fun t m ht => foldl_sorted ht fun u e hu => by split <;> simp [hu]
  have h0 := fun d => selfCheckOutcome_sorted s d none h
  simp only [writeList]
  split
  · repeat' split
    all_goals simp +contextual (maxDischargeDepth := 30) [*]
  · split
    · exact run _ _ (ha _ _ (h0 _))
    · exact ha _ _ (run _ _ (h0 _))

@[simp] theorem dropStaging_sorted (s : State) (k : Key) (hwf : tablesSorted s = true) :
    tablesSorted (dropStaging s k) = true :=
  sorted_of_within (@dropStaging_frame _ _ (touch_of rfl) s k (.refl _ _)) hwf

@[simp] theorem applyBlob_sorted (s : State) (k : Key) (b : List Byte) (hwf : tablesSorted s = true) :
    tablesSorted (applyBlob s k b).2 = true :=
  sorted_of_within (@applyBlob_frame _ _ (touch_of rfl) (touch_of rfl) (touch_of rfl) s k b (.refl _ _)) hwf

@[simp] theorem writeSegment_sorted (s : State) (who : Requester) (k : Key) (off : ℕ) (data : List Byte) (last : Bool) (hwf : tablesSorted s = true) :
    tablesSorted (writeSegment s who k off data last).2.2 = true :=
  sorted_of_within (@writeSegment_frame _ _ (touch_of rfl) (touch_of rfl) (touch_of rfl) (touch_of rfl) s who k off data last (.refl _ _)) hwf

@[simp] theorem mailboxEnd_sorted (s : State) (core : ℕ) (status : ℕ) (gen : ℕ) (hwf : tablesSorted s = true) :
    tablesSorted (mailboxEnd s core status gen) = true :=
  sorted_of_within (@mailboxEnd_frame _ _ (touch_of rfl) (touch_of rfl) s core status gen (.refl _ _)) hwf

@[simp] theorem mailboxMove_sorted (s : State) (who : Requester) (core : ℕ) (j : MailboxJob) (hwf : tablesSorted s = true) :
    tablesSorted (mailboxMove s who core j) = true := by
  unfold mailboxMove
  split
  · simp [hwf]
  · split
    · simp (maxDischargeDepth := 30) [hwf]
    · dsimp only
      split
      · simp [hwf]
      · split <;> simp +contextual (maxDischargeDepth := 30) [hwf]

/-! DictService -/

theorem execDictionaryGet_sorted (slot : ℕ) (s : State) (hwf : tablesSorted s = true) :
    outSorted (execDictionaryGet slot s) = true := by
  simp only [execDictionaryGet]
  split <;> simp (maxDischargeDepth := 30) [*]

theorem execDictionarySet_sorted (slot : ℕ) (data : List Byte) (s : State) (hwf : tablesSorted s = true) :
    outSorted (execDictionarySet slot data s) = true := by
  unfold execDictionarySet
  repeat' split
  all_goals simp_all (maxDischargeDepth := 30)

theorem execDictionarySetList_sorted (slot : ℕ) (data : List Byte) (s : State) (hwf : tablesSorted s = true) :
    outSorted (execDictionarySetList slot data s) = true := by
  unfold execDictionarySetList
  dsimp only
  repeat' split
  all_goals rw [outSorted_next]
  · exact hwf
  · exact hwf
  · simp [hwf]
  · refine writeList_sorted _ _ _ _ hwf fun t n ht => ?_
    split <;> simp [ht]

theorem execDictionaryBlockRead_sorted (slot : ℕ) (s : State) (hwf : tablesSorted s = true) :
    outSorted (execDictionaryBlockRead slot s) = true := by
  simp only [execDictionaryBlockRead]
  split <;> simp (maxDischargeDepth := 30) [*]

@[simp] theorem readList_sorted (who : Requester) (l : List Key) (s : State) (h : tablesSorted s = true) : tablesSorted (readList who l s).2 = true :=
  sorted_of_within (@readList_frame _ _ (touch_of rfl) (touch_of rfl) (touch_of rfl) who l s (.refl _ _)) h

theorem execDictionaryListRead_sorted (slot : ℕ) (s : State) (hwf : tablesSorted s = true) :
    outSorted (execDictionaryListRead slot s) = true := by
  simp only [execDictionaryListRead]
  split <;> simp (maxDischargeDepth := 30) [*]

@[simp] theorem respond_sorted (s : State) (h : BolhobaHeader) (opcode : ℕ) (st : ℕ) (idx : ℕ) (sub : ℕ) (count : ℕ) (payload : List Byte) (hwf : tablesSorted s = true) :
    tablesSorted (respond s h opcode st idx sub count payload) = true :=
  sorted_of_within (@respond_frame _ _ (touch_of rfl) (touch_of rfl) s h opcode st idx sub count payload (.refl _ _)) hwf

@[simp] theorem answerBolhoba_sorted (s : State) (h : BolhobaHeader) (opcode : ℕ) (st : ℕ) (payload : List Byte) (hwf : tablesSorted s = true) :
    tablesSorted (answerBolhoba s h opcode st payload) = true :=
  sorted_of_within (@answerBolhoba_frame _ _ (touch_of rfl) (touch_of rfl) s h opcode st payload (.refl _ _)) hwf

@[simp] theorem bolhobaTurned_sorted (s : State) (h : BolhobaHeader) (opcode : ℕ) (hwf : tablesSorted s = true) :
    tablesSorted (bolhobaTurned s h opcode) = true :=
  sorted_of_within (@bolhobaTurned_frame _ _ (touch_of rfl) s h opcode (.refl _ _)) hwf

theorem execBolhobaSet_sorted (h : BolhobaHeader) (typ : ℕ) (len : ℕ) (value : List Byte) (s : State) (hwf : tablesSorted s = true) :
    outSorted (execBolhobaSet h typ len value s) = true := by
  unfold execBolhobaSet
  repeat' split
  all_goals simp_all (maxDischargeDepth := 30)

theorem execBolhobaListSet_sorted (h : BolhobaHeader) (entries : List ListEntry) (s : State) (hwf : tablesSorted s = true) :
    outSorted (execBolhobaListSet h entries s) = true := by
  unfold execBolhobaListSet
  split
  · simp [hwf]
  · split
    · simp [hwf]
    · refine writeList_sorted _ _ _ _ hwf fun t n ht => ?_
      split
      · split <;> simp [ht]
      · simp [ht]

@[simp] theorem noteStatus_sorted (s : State) (core : ℕ) (k : Key) (st : ℕ) (hwf : tablesSorted s = true) :
    tablesSorted (noteStatus s core k st) = true :=
  sorted_of_within (@noteStatus_frame _ _ (touch_of rfl) s core k st (.refl _ _)) hwf

@[simp] theorem windowValue_sorted (s : State) (who : Requester) (k : Key) (hwf : tablesSorted s = true) :
    tablesSorted (windowValue s who k).2.2 = true :=
  sorted_of_within (@windowValue_frame _ _ (touch_of rfl) (touch_of rfl) (touch_of rfl) s who k (.refl _ _)) hwf

@[simp] theorem windowLoad_sorted (s : State) (core : Fin 9) (addr : ℕ) (width : ℕ) (hwf : tablesSorted s = true) :
    tablesSorted (windowLoad s core addr width) = true :=
  sorted_of_within (@windowLoad_frame _ _ (touch_of rfl) (touch_of rfl) (touch_of rfl) (touch_of rfl) (touch_of rfl) (touch_of rfl) s core addr width (.refl _ _)) hwf

@[simp] theorem windowStore_sorted (s : State) (core : Fin 9) (addr : ℕ) (width : ℕ) (value : ℕ) (hwf : tablesSorted s = true) :
    tablesSorted (windowStore s core addr width value) = true := by
  unfold windowStore
  simp_all (maxDischargeDepth := 30)

theorem execWindowWrite_sorted (core : Fin 9) (addr : ℕ) (width : ℕ) (value : ℕ) (s : State) (hwf : tablesSorted s = true) :
    outSorted (execWindowWrite core addr width value s) = true := by
  simp (maxDischargeDepth := 30) [execWindowWrite, *]

@[simp] theorem answerPlain_sorted (who : Requester) (k : Key) (s : State) (st : ℕ) (hwf : tablesSorted s = true) :
    tablesSorted (answerPlain who k s st) = true :=
  sorted_of_within (@answerPlain_frame _ _ (touch_of rfl) (touch_of rfl) who k s st (.refl _ _)) hwf

@[simp] theorem commandWrite_sorted (s : State) (who : Requester) (k : Key) (v : Option Val) (check : optParam (Option Bool) none) (hwf : tablesSorted s = true) :
    tablesSorted (commandWrite s who k v check) = true := by
  unfold commandWrite
  repeat' split
  all_goals simp_all (maxDischargeDepth := 30)

@[simp] theorem commandLast_sorted (s : State) (who : Requester) (k : Key) (offset : ℕ) (data : List Byte) (hwf : tablesSorted s = true) :
    tablesSorted (commandLast s who k offset data) = true :=
  sorted_of_within (@commandLast_frame _ _ (touch_of rfl) (touch_of rfl) (touch_of rfl) (touch_of rfl) (touch_of rfl) s who k offset data (.refl _ _)) hwf

theorem execPowerCapWrite_sorted (who : Requester) (value : ℕ) (s : State) (hwf : tablesSorted s = true) :
    outSorted (execPowerCapWrite who value s) = true := by
  simp (maxDischargeDepth := 30) [execPowerCapWrite, *]

theorem execStore_sorted (who : Requester) (value : ℕ) (s : State) (hwf : tablesSorted s = true) :
    outSorted (execStore who value s) = true := by
  simp (maxDischargeDepth := 30) [execStore, *]

theorem execRestoreDefaults_sorted (who : Requester) (value : ℕ) (s : State) (hwf : tablesSorted s = true) :
    outSorted (execRestoreDefaults who value s) = true := by
  simp (maxDischargeDepth := 30) [execRestoreDefaults, *]

theorem execUnitDisable_sorted (who : Requester) (index : ℕ) (s : State) (hwf : tablesSorted s = true) :
    outSorted (execUnitDisable who index s) = true := by
  simp (maxDischargeDepth := 30) [execUnitDisable, *]

theorem execUnitEnable_sorted (who : Requester) (index : ℕ) (selfCheck : Bool) (s : State) (hwf : tablesSorted s = true) :
    outSorted (execUnitEnable who index selfCheck s) = true := by
  simp (maxDischargeDepth := 30) [execUnitEnable, *]

theorem execUnitQuiesced_sorted (index : ℕ) (s : State) (hwf : tablesSorted s = true) :
    outSorted (execUnitQuiesced index s) = true := by
  simp (maxDischargeDepth := 30) [execUnitQuiesced, *]

theorem execObjectWrite_sorted (who : Requester) (index : ℕ) (sub : ℕ) (typ : ℕ) (len : ℕ) (value : List Byte) (s : State) (hwf : tablesSorted s = true) :
    outSorted (execObjectWrite who index sub typ len value s) = true := by
  simp (maxDischargeDepth := 30) [execObjectWrite, *]

theorem execRestartNormal_sorted (who : Requester) (s : State) (hwf : tablesSorted s = true) :
    outSorted (execRestartNormal who s) = true := by
  simp (maxDischargeDepth := 30) [execRestartNormal, *]

theorem execRestartMaintenance_sorted (who : Requester) (s : State) (hwf : tablesSorted s = true) :
    outSorted (execRestartMaintenance who s) = true := by
  simp (maxDischargeDepth := 30) [execRestartMaintenance, *]

theorem execLifecycleRequest_sorted (who : Requester) (value : List Byte) (s : State) (hwf : tablesSorted s = true) :
    outSorted (execLifecycleRequest who value s) = true := by
  simp (maxDischargeDepth := 30) [execLifecycleRequest, *]

theorem execPreampAccess_sorted (who : Requester) (a : Fin 4) (value : List Byte) (s : State) (hwf : tablesSorted s = true) :
    outSorted (execPreampAccess who a value s) = true := by
  simp (maxDischargeDepth := 30) [execPreampAccess, *]

theorem execRingTailWrite_sorted (core : Fin 9) (value : ℕ) (s : State) (hwf : tablesSorted s = true) :
    outSorted (execRingTailWrite core value s) = true := by
  simp (maxDischargeDepth := 30) [execRingTailWrite, *]

theorem execSentenceLoad_sorted (core : Fin 9) (p : Fin 8) (addr : ℕ) (s : State) (hwf : tablesSorted s = true) :
    outSorted (execSentenceLoad core p addr s) = true := by
  simp (maxDischargeDepth := 30) [execSentenceLoad, *]

theorem execPlayerAbort_sorted (core : Fin 9) (p : Fin 8) (value : ℕ) (s : State) (hwf : tablesSorted s = true) :
    outSorted (execPlayerAbort core p value s) = true := by
  simp (maxDischargeDepth := 30) [execPlayerAbort, *]

theorem execCoefWrite_sorted (who : Requester) (g : Fin 5) (value : List Byte) (s : State) (hwf : tablesSorted s = true) :
    outSorted (execCoefWrite who g value s) = true := by
  simp (maxDischargeDepth := 30) [execCoefWrite, *]

theorem execSnapRequest_sorted (who : Requester) (g : Fin 5) (value : ℕ) (s : State) (hwf : tablesSorted s = true) :
    outSorted (execSnapRequest who g value s) = true := by
  simp (maxDischargeDepth := 30) [execSnapRequest, *]

theorem execInject_sorted (who : Requester) (g : Fin 5) (slot : ℕ) (s : State) (hwf : tablesSorted s = true) :
    outSorted (execInject who g slot s) = true := by
  simp (maxDischargeDepth := 30) [execInject, *]

theorem execTraceArm_sorted (who : Requester) (a : Fin 4) (value : ℕ) (s : State) (hwf : tablesSorted s = true) :
    outSorted (execTraceArm who a value s) = true := by
  simp (maxDischargeDepth := 30) [execTraceArm, *]

theorem execTraceForce_sorted (who : Requester) (a : Fin 4) (value : ℕ) (s : State) (hwf : tablesSorted s = true) :
    outSorted (execTraceForce who a value s) = true := by
  simp (maxDischargeDepth := 30) [execTraceForce, *]

theorem execAnnounce_sorted (who : Requester) (value : List Byte) (s : State) (hwf : tablesSorted s = true) :
    outSorted (execAnnounce who value s) = true := by
  simp (maxDischargeDepth := 30) [execAnnounce, *]

theorem execDictRequest_sorted (who : Requester) (value : List Byte) (s : State) (hwf : tablesSorted s = true) :
    outSorted (execDictRequest who value s) = true := by
  simp (maxDischargeDepth := 30) [execDictRequest, *]

theorem execRetireSurface_sorted (who : Requester) (value : ℕ) (s : State) (hwf : tablesSorted s = true) :
    outSorted (execRetireSurface who value s) = true := by
  simp (maxDischargeDepth := 30) [execRetireSurface, *]

theorem execReshapeRequest_sorted (who : Requester) (value : List Byte) (s : State) (hwf : tablesSorted s = true) :
    outSorted (execReshapeRequest who value s) = true := by
  simp (maxDischargeDepth := 30) [execReshapeRequest, *]

theorem execReshapeCancel_sorted (who : Requester) (value : List Byte) (s : State) (hwf : tablesSorted s = true) :
    outSorted (execReshapeCancel who value s) = true := by
  simp (maxDischargeDepth := 30) [execReshapeCancel, *]

theorem execZeroRange_sorted (who : Requester) (value : List Byte) (s : State) (hwf : tablesSorted s = true) :
    outSorted (execZeroRange who value s) = true := by
  simp (maxDischargeDepth := 30) [execZeroRange, *]

@[simp] theorem maintWrite_sorted (s : State) (core : Fin 9) (op : ℕ) (hwf : tablesSorted s = true) :
    tablesSorted (maintWrite s core op) = true := by
  simp (maxDischargeDepth := 30) [maintWrite, *]

theorem execCacheClean_sorted (core : Fin 9) (s : State) (hwf : tablesSorted s = true) :
    outSorted (execCacheClean core s) = true := by
  simp (maxDischargeDepth := 30) [execCacheClean, *]

theorem execCacheInvalidate_sorted (core : Fin 9) (s : State) (hwf : tablesSorted s = true) :
    outSorted (execCacheInvalidate core s) = true := by
  simp (maxDischargeDepth := 30) [execCacheInvalidate, *]

theorem execCacheCleanInvalidate_sorted (core : Fin 9) (s : State) (hwf : tablesSorted s = true) :
    outSorted (execCacheCleanInvalidate core s) = true := by
  simp (maxDischargeDepth := 30) [execCacheCleanInvalidate, *]

theorem execCacheFillLock_sorted (core : Fin 9) (s : State) (hwf : tablesSorted s = true) :
    outSorted (execCacheFillLock core s) = true := by
  simp (maxDischargeDepth := 30) [execCacheFillLock, *]

theorem execCacheUnlock_sorted (core : Fin 9) (s : State) (hwf : tablesSorted s = true) :
    outSorted (execCacheUnlock core s) = true := by
  simp (maxDischargeDepth := 30) [execCacheUnlock, *]

theorem execCacheCleanSw_sorted (core : Fin 9) (s : State) (hwf : tablesSorted s = true) :
    outSorted (execCacheCleanSw core s) = true := by
  simp (maxDischargeDepth := 30) [execCacheCleanSw, *]

theorem execCacheInvalidateSw_sorted (core : Fin 9) (s : State) (hwf : tablesSorted s = true) :
    outSorted (execCacheInvalidateSw core s) = true := by
  simp (maxDischargeDepth := 30) [execCacheInvalidateSw, *]

theorem execCacheCleanInvalidateSw_sorted (core : Fin 9) (s : State) (hwf : tablesSorted s = true) :
    outSorted (execCacheCleanInvalidateSw core s) = true := by
  simp (maxDischargeDepth := 30) [execCacheCleanInvalidateSw, *]

theorem execDmaGo_sorted (who : Requester) (ch : Fin 8) (ctrl : ℕ) (s : State) (hwf : tablesSorted s = true) :
    outSorted (execDmaGo who ch ctrl s) = true := by
  simp (maxDischargeDepth := 30) [execDmaGo, *]

theorem execDmaChainGo_sorted (who : Requester) (ch : Fin 8) (ctrl : ℕ) (s : State) (hwf : tablesSorted s = true) :
    outSorted (execDmaChainGo who ch ctrl s) = true := by
  simp (maxDischargeDepth := 30) [execDmaChainGo, *]

theorem execDmaStop_sorted (who : Requester) (ch : Fin 8) (ctrl : ℕ) (s : State) (hwf : tablesSorted s = true) :
    outSorted (execDmaStop who ch ctrl s) = true := by
  simp (maxDischargeDepth := 30) [execDmaStop, *]

theorem execNotifyClear_sorted (who : Requester) (ch : Fin 8) (value : ℕ) (s : State) (hwf : tablesSorted s = true) :
    outSorted (execNotifyClear who ch value s) = true := by
  simp (maxDischargeDepth := 30) [execNotifyClear, *]

theorem execCaptureClear_sorted (who : Requester) (r : Fin 9) (value : ℕ) (s : State) (hwf : tablesSorted s = true) :
    outSorted (execCaptureClear who r value s) = true := by
  simp (maxDischargeDepth := 30) [execCaptureClear, *]

theorem execClearUpto_sorted (who : Requester) (value : ℕ) (s : State) (hwf : tablesSorted s = true) :
    outSorted (execClearUpto who value s) = true := by
  simp (maxDischargeDepth := 30) [execClearUpto, *]

theorem execClearAll_sorted (who : Requester) (value : ℕ) (s : State) (hwf : tablesSorted s = true) :
    outSorted (execClearAll who value s) = true := by
  simp (maxDischargeDepth := 30) [execClearAll, *]

theorem execUnretire_sorted (who : Requester) (value : ℕ) (s : State) (hwf : tablesSorted s = true) :
    outSorted (execUnretire who value s) = true := by
  simp (maxDischargeDepth := 30) [execUnretire, *]

theorem execSourceEntryWrite_sorted (who : Requester) (id : ℕ) (value : List Byte) (s : State) (hwf : tablesSorted s = true) :
    outSorted (execSourceEntryWrite who id value s) = true := by
  simp (maxDischargeDepth := 30) [execSourceEntryWrite, *]

@[simp] theorem mailboxWrite_sorted (s : State) (core : Fin 9) (cmd : ℕ) (hwf : tablesSorted s = true) :
    tablesSorted (mailboxWrite s core cmd) = true := by
  simp (maxDischargeDepth := 30) [mailboxWrite, *]

theorem execMbRead_sorted (core : Fin 9) (s : State) (hwf : tablesSorted s = true) :
    outSorted (execMbRead core s) = true := by
  simp (maxDischargeDepth := 30) [execMbRead, *]

theorem execMbWrite_sorted (core : Fin 9) (s : State) (hwf : tablesSorted s = true) :
    outSorted (execMbWrite core s) = true := by
  simp (maxDischargeDepth := 30) [execMbWrite, *]

theorem execMbWriteLast_sorted (core : Fin 9) (s : State) (hwf : tablesSorted s = true) :
    outSorted (execMbWriteLast core s) = true := by
  simp (maxDischargeDepth := 30) [execMbWriteLast, *]

theorem execMbTransferDone_sorted (core : Fin 9) (s : State) (hwf : tablesSorted s = true) :
    outSorted (execMbTransferDone core s) = true := by
  simp only [execMbTransferDone]
  split <;> simp (maxDischargeDepth := 30) [*]

@[simp] theorem girthAnswer_sorted (s : State) (h : GirthHeader) (tag : ℕ) (idx : ℕ) (sub : ℕ) (st : ℕ) (value : ℕ) (hwf : tablesSorted s = true) :
    tablesSorted (girthAnswer s h tag idx sub st value) = true :=
  sorted_of_within (@girthAnswer_frame _ _ (touch_of rfl) (touch_of rfl) (touch_of rfl) (touch_of rfl) s h tag idx sub st value (.refl _ _)) hwf

theorem execGirthDictSet_sorted (h : GirthHeader) (target : ℕ) (tag : ℕ) (index : ℕ) (sub : ℕ) (value : ℕ) (s : State) (hwf : tablesSorted s = true) :
    outSorted (execGirthDictSet h target tag index sub value s) = true := by
  unfold execGirthDictSet
  simp_all (maxDischargeDepth := 30)

theorem execLinkObject_sorted (who : Requester) (index : ℕ) (sub : ℕ) (write : Option (List Byte)) (s : State) (hwf : tablesSorted s = true) :
    outSorted (execLinkObject who index sub write s) = true := by
  unfold execLinkObject
  repeat' split
  all_goals simp_all (maxDischargeDepth := 30)

@[simp] theorem dramParts_sorted (s : State) (core : ℕ) (a : ℕ) (width : ℕ) (acc : CoreAccess) (ecc : EccOutcome) (hwf : tablesSorted s = true) :
    tablesSorted (dramParts s core a width acc ecc) = true := by
  simp (maxDischargeDepth := 30) [dramParts, *]

@[simp] theorem norBytes_sorted (s : State) (off : ℕ) (width : ℕ) (hwf : tablesSorted s = true) :
    tablesSorted (norBytes s off width).2 = true :=
  sorted_of_within (@norBytes_frame _ _ (touch_of rfl) s off width (.refl _ _)) hwf

theorem windowBytes_sorted (s : State) (a width : Nat) (h : tablesSorted s = true) (e) (he : windowBytes s a width = some e) : tablesSorted e.2 = true := by
  unfold windowBytes at he
  dsimp only at he
  repeat' split at he
  all_goals cases he
  all_goals simp [h]

@[simp] theorem norLoad_sorted (s : State) (core : ℕ) (off : ℕ) (width : ℕ) (hwf : tablesSorted s = true) :
    tablesSorted (norLoad s core off width) = true :=
  sorted_of_within (@norLoad_frame _ _ (touch_of rfl) (touch_of rfl) s core off width (.refl _ _)) hwf

@[simp] theorem coreAccess_sorted (s : State) (core : Fin 9) (addr : ℕ) (width : ℕ) (acc : CoreAccess) (ecc : EccOutcome) (hwf : tablesSorted s = true) :
    tablesSorted (coreAccess s core addr width acc ecc) = true := by
  have hfault : tablesSorted (accessFault s core.val addr (accKind acc)) = true := accessFault_sorted _ _ _ _ hwf
  unfold coreAccess
  dsimp only
  split
  · split <;> simp [hwf]
  split
  · exact sramAccess_sorted _ _ _ _ _ _ hwf
  split
  · split <;> simp [hwf]
  split
  · exact hfault
  split
  · exact State.emit_sorted _ _ hwf
  split
  · exact norLoad_sorted _ _ _ _ hwf
  split
  · exact hfault
  split
  · next heq => exact State.emit_sorted _ _ (windowBytes_sorted s addr width hwf _ heq)
  · exact hfault

theorem execCoreMemoryAccess_sorted (core : Fin 9) (addr : ℕ) (width : ℕ) (access : CoreAccess) (ecc : EccOutcome) (s : State) (hwf : tablesSorted s = true) :
    outSorted (execCoreMemoryAccess core addr width access ecc s) = true := by
  simp (maxDischargeDepth := 30) [execCoreMemoryAccess, *]

end Sys2Proof.Machine
end

section
/-!
PROOFS. The step keeps the tables sorted: a command that may change neither the host's data nor a memory nor the layout keeps them by its frame,
every other by its own lemma.
-/

namespace Sys2Proof.Machine

/-- A command whose list names no part that holds a sorted table keeps them all. -/
theorem outSorted_of_touches {c : Instr} {s : State} (hs : tablesSorted s = true)
    (hout : ∀ p ∈ [Part.host, Part.mem, Part.layout], p ∉ touches c) : outSorted (exec c s) = true := by
  cases he : exec c s with
  | next t =>
    have hsame : SameBut (touches c) s t := exec_touches he
    have hhost : t.host = s.host := hsame .host (hout .host (by decide))
    have hmem : t.mem = s.mem := hsame .mem (hout .mem (by decide))
    have hlayout : t.layout = s.layout := hsame .layout (hout .layout (by decide))
    simpa only [outSorted, tablesSorted, hhost, hmem, hlayout] using hs
  | fault _ => rfl
  | refused _ => rfl

/-- Every command keeps the tables sorted. -/
theorem exec_sorted (c : Instr) {s : State} (hwf : tablesSorted s = true) : outSorted (exec c s) = true := by
  cases c with
  | feedLost f why => exact execFeedLost_sorted f why s hwf
  | railsOff => exact execRailsOff_sorted s hwf
  | pwrdisAssert => exact execPwrdisAssert_sorted s hwf
  | vmCollapse => exact execVmCollapse_sorted s hwf
  | v3p3Overcurrent a => exact execV3p3Overcurrent_sorted a s hwf
  | thermalShutdown tj => exact execThermalShutdown_sorted tj s hwf
  | powerCapWrite who value => exact execPowerCapWrite_sorted who value s hwf
  | writeUnsafe a src t => exact execWriteUnsafe_sorted a src t s hwf
  | writeFifoEmpty a => exact execWriteFifoEmpty_sorted a s hwf
  | gateEntryExecute p t adc => exact execGateEntryExecute_sorted p t adc s hwf
  | dictionaryGet slot => exact execDictionaryGet_sorted slot s hwf
  | dictionarySet slot data => exact execDictionarySet_sorted slot data s hwf
  | dictionarySetList slot data => exact execDictionarySetList_sorted slot data s hwf
  | dictionaryBlockRead slot => exact execDictionaryBlockRead_sorted slot s hwf
  | dictionaryListRead slot => exact execDictionaryListRead_sorted slot s hwf
  | bolhobaSet h typ len value => exact execBolhobaSet_sorted h typ len value s hwf
  | bolhobaListSet h entries => exact execBolhobaListSet_sorted h entries s hwf
  | windowWrite core addr width value => exact execWindowWrite_sorted core addr width value s hwf
  | mbRead core => exact execMbRead_sorted core s hwf
  | mbWrite core => exact execMbWrite_sorted core s hwf
  | mbWriteLast core => exact execMbWriteLast_sorted core s hwf
  | mbTransferDone core => exact execMbTransferDone_sorted core s hwf
  | store who value => exact execStore_sorted who value s hwf
  | restoreDefaults who value => exact execRestoreDefaults_sorted who value s hwf
  | unitDisable who index => exact execUnitDisable_sorted who index s hwf
  | unitEnable who index selfCheck => exact execUnitEnable_sorted who index selfCheck s hwf
  | unitQuiesced index => exact execUnitQuiesced_sorted index s hwf
  | objectWrite who index sub typ len value => exact execObjectWrite_sorted who index sub typ len value s hwf
  | startStepEnd result found => exact execStartStepEnd_sorted result found s hwf
  | stepWatchdog found => exact execStepWatchdog_sorted found s hwf
  | startDeadline => exact execStartDeadline_sorted s hwf
  | restartNormal who => exact execRestartNormal_sorted who s hwf
  | restartMaintenance who => exact execRestartMaintenance_sorted who s hwf
  | perstDeassert p => exact execPerstDeassert_sorted p s hwf
  | perstAssert p => exact execPerstAssert_sorted p s hwf
  | firmwareImageDownload slot piece => exact execFirmwareImageDownload_sorted slot piece s hwf
  | firmwareCommitReplace slot => exact execFirmwareCommitReplace_sorted slot s hwf
  | firmwareCommitReplaceActivate slot => exact execFirmwareCommitReplaceActivate_sorted slot s hwf
  | firmwareCommitActivate slot => exact execFirmwareCommitActivate_sorted slot s hwf
  | firmwareCommitActivateNow slot => exact execFirmwareCommitActivateNow_sorted slot s hwf
  | firmwareCommitInvalidAction slot => exact execFirmwareCommitInvalidAction_sorted slot s hwf
  | firmwareCommitDone => exact execFirmwareCommitDone_sorted s hwf
  | activationStaged => exact execActivationStaged_sorted s hwf
  | activationFreezeEnd freezeUs => exact execActivationFreezeEnd_sorted freezeUs s hwf
  | lifecycleRequest who value => exact execLifecycleRequest_sorted who value s hwf
  | sanitize slot action => exact execSanitize_sorted slot action s hwf
  | formatNvm slot => exact execFormatNvm_sorted slot s hwf
  | grownEntryCommit surface entry => exact execGrownEntryCommit_sorted surface entry s hwf
  | servoSync a wedge track pes => exact execServoSync_sorted a wedge track pes s hwf
  | servoSyncTimeout a => exact execServoSyncTimeout_sorted a s hwf
  | synthUnlock a => exact execSynthUnlock_sorted a s hwf
  | captureEnd p adc => exact execCaptureEnd_sorted p adc s hwf
  | preampFaultAssert a => exact execPreampFaultAssert_sorted a s hwf
  | preampFaultPersist a => exact execPreampFaultPersist_sorted a s hwf
  | preampFrameDone a readback parityOk => exact execPreampFrameDone_sorted a readback parityOk s hwf
  | preampAccess who a value => exact execPreampAccess_sorted who a value s hwf
  | writePayloadPoisoned p entry => exact execWritePayloadPoisoned_sorted p entry s hwf
  | ldpcIterationDone core job check => exact execLdpcIterationDone_sorted core job check s hwf
  | decodeDeadline job => exact execDecodeDeadline_sorted job s hwf
  | holdCopyDone a hold => exact execHoldCopyDone_sorted a hold s hwf
  | ringTailWrite core value => exact execRingTailWrite_sorted core value s hwf
  | ladderAverage ring => exact execLadderAverage_sorted ring s hwf
  | ladderRequestEnd job => exact execLadderRequestEnd_sorted job s hwf
  | ladderStepAdvance surface track psector top status outcome => exact execLadderStepAdvance_sorted surface track psector top status outcome s hwf
  | sentenceLoad core p addr => exact execSentenceLoad_sorted core p addr s hwf
  | sentenceFetchDone p => exact execSentenceFetchDone_sorted p s hwf
  | sentenceUnderrun p => exact execSentenceUnderrun_sorted p s hwf
  | playerAbort core p value => exact execPlayerAbort_sorted core p value s hwf
  | clauseStep p phrase arg => exact execClauseStep_sorted p phrase arg s hwf
  | clauseGoto p phrase arg => exact execClauseGoto_sorted p phrase arg s hwf
  | clauseCall p phrase arg => exact execClauseCall_sorted p phrase arg s hwf
  | clauseRet p phrase arg => exact execClauseRet_sorted p phrase arg s hwf
  | clauseSetcnt p phrase arg => exact execClauseSetcnt_sorted p phrase arg s hwf
  | clauseLoop p phrase arg => exact execClauseLoop_sorted p phrase arg s hwf
  | clauseSector p phrase arg => exact execClauseSector_sorted p phrase arg s hwf
  | clauseIfwrite p phrase arg => exact execClauseIfwrite_sorted p phrase arg s hwf
  | clauseIfparity p phrase arg => exact execClauseIfparity_sorted p phrase arg s hwf
  | clauseEnd p phrase arg => exact execClauseEnd_sorted p phrase arg s hwf
  | clauseBad p why => exact execClauseBad_sorted p why s hwf
  | clauseTimeEnd p => exact execClauseTimeEnd_sorted p s hwf
  | clauseWaitMet p wedge t => exact execClauseWaitMet_sorted p wedge t s hwf
  | clauseWaitTimeout p => exact execClauseWaitTimeout_sorted p s hwf
  | playerStallEnd p => exact execPlayerStallEnd_sorted p s hwf
  | windowEndReached p => exact execWindowEndReached_sorted p s hwf
  | playerMemoryFault p store => exact execPlayerMemoryFault_sorted p store s hwf
  | sentenceEnd p => exact execSentenceEnd_sorted p s hwf
  | sentenceRecordWrite p => exact execSentenceRecordWrite_sorted p s hwf
  | outerTrigger a => exact execOuterTrigger_sorted a s hwf
  | reinCompare g entry => exact execReinCompare_sorted g entry s hwf
  | pairHoldRerunEnd g => exact execPairHoldRerunEnd_sorted g s hwf
  | reinMemoryFault e => exact execReinMemoryFault_sorted e s hwf
  | coefWrite who g value => exact execCoefWrite_sorted who g value s hwf
  | snapRequest who g value => exact execSnapRequest_sorted who g value s hwf
  | inject who g slot => exact execInject_sorted who g slot s hwf
  | traceArm who a value => exact execTraceArm_sorted who a value s hwf
  | traceForce who a value => exact execTraceForce_sorted who a value s hwf
  | heartbeatLoss => exact execHeartbeatLoss_sorted s hwf
  | linkResend mainToMotion => exact execLinkResend_sorted mainToMotion s hwf
  | linkObject who index sub write => exact execLinkObject_sorted who index sub write s hwf
  | senseMsg a ua mv => exact execSenseMsg_sorted a ua mv s hwf
  | motionDieLost => exact execMotionDieLost_sorted s hwf
  | spinRampEnd handover => exact execSpinRampEnd_sorted handover s hwf
  | vcmOvercurrent a => exact execVcmOvercurrent_sorted a s hwf
  | retractParked a ms => exact execRetractParked_sorted a ms s hwf
  | retractTimeout a => exact execRetractTimeout_sorted a s hwf
  | dumpSealed holdupMj vmMin => exact execDumpSealed_sorted holdupMj vmMin s hwf
  | girthDictSet h target tag index sub value => exact execGirthDictSet_sorted h target tag index sub value s hwf
  | announce who value => exact execAnnounce_sorted who value s hwf
  | dictRequest who value => exact execDictRequest_sorted who value s hwf
  | sqDoorbell p qid tail => exact execSqDoorbell_sorted p qid tail s hwf
  | commandFetch p qid cmd => exact execCommandFetch_sorted p qid cmd s hwf
  | createIoSq slot => exact execCreateIoSq_sorted slot s hwf
  | createIoCq slot => exact execCreateIoCq_sorted slot s hwf
  | deleteIoSq slot => exact execDeleteIoSq_sorted slot s hwf
  | deleteIoCq slot => exact execDeleteIoCq_sorted slot s hwf
  | getLogPage slot => exact execGetLogPage_sorted slot s hwf
  | identify slot => exact execIdentify_sorted slot s hwf
  | nvmeAbort slot => exact execNvmeAbort_sorted slot s hwf
  | setFeatures slot => exact execSetFeatures_sorted slot s hwf
  | setFeaturesPowerManagement slot => exact execSetFeaturesPowerManagement_sorted slot s hwf
  | setFeaturesErrorRecovery slot => exact execSetFeaturesErrorRecovery_sorted slot s hwf
  | setFeaturesVwc slot => exact execSetFeaturesVwc_sorted slot s hwf
  | getFeatures slot => exact execGetFeatures_sorted slot s hwf
  | asyncEventRequest p cid => exact execAsyncEventRequest_sorted p cid s hwf
  | namespaceCreate slot nsze lbaFormat => exact execNamespaceCreate_sorted slot nsze lbaFormat s hwf
  | namespaceDelete slot => exact execNamespaceDelete_sorted slot s hwf
  | namespaceAttachment slot controllers => exact execNamespaceAttachment_sorted slot controllers s hwf
  | securitySend slot data => exact execSecuritySend_sorted slot data s hwf
  | securityReceive slot => exact execSecurityReceive_sorted slot s hwf
  | getLbaStatus slot => exact execGetLbaStatus_sorted slot s hwf
  | nvmeFlush slot => exact execNvmeFlush_sorted slot s hwf
  | nvmeWrite slot blocks => exact execNvmeWrite_sorted slot blocks s hwf
  | nvmeRead slot media => exact execNvmeRead_sorted slot media s hwf
  | writeZeroes slot => exact execWriteZeroes_sorted slot s hwf
  | datasetManagement slot => exact execDatasetManagement_sorted slot s hwf
  | nvmeVerify slot media => exact execNvmeVerify_sorted slot media s hwf
  | reservationRegister slot crkey nrkey => exact execReservationRegister_sorted slot crkey nrkey s hwf
  | reservationReport slot => exact execReservationReport_sorted slot s hwf
  | reservationAcquire slot crkey prkey => exact execReservationAcquire_sorted slot crkey prkey s hwf
  | reservationPreemptAndAbort slot crkey prkey => exact execReservationPreemptAndAbort_sorted slot crkey prkey s hwf
  | reservationRelease slot crkey => exact execReservationRelease_sorted slot crkey s hwf
  | invalidOpcode slot => exact execInvalidOpcode_sorted slot s hwf
  | writeCached slot => exact execWriteCached_sorted slot s hwf
  | readTransferred slot => exact execReadTransferred_sorted slot s hwf
  | ccEnClear p => exact execCcEnClear_sorted p s hwf
  | ccEnSet p => exact execCcEnSet_sorted p s hwf
  | functionLevelReset p => exact execFunctionLevelReset_sorted p s hwf
  | pcieLinkDown p => exact execPcieLinkDown_sorted p s hwf
  | nvmSubsystemReset => exact execNvmSubsystemReset_sorted s hwf
  | shutdownNormal p => exact execShutdownNormal_sorted p s hwf
  | shutdownAbrupt p => exact execShutdownAbrupt_sorted p s hwf
  | ps3IdleTimeout => exact execPs3IdleTimeout_sorted s hwf
  | powerStateSafePoint => exact execPowerStateSafePoint_sorted s hwf
  | tlerExpire slot lba => exact execTlerExpire_sorted slot lba s hwf
  | destageUpdate stripe reads => exact execDestageUpdate_sorted stripe reads s hwf
  | stripeUpdateRetire stripe => exact execStripeUpdateRetire_sorted stripe s hwf
  | wiMirrorPoint => exact execWiMirrorPoint_sorted s hwf
  | mirrorRetry page ok => exact execMirrorRetry_sorted page ok s hwf
  | journalReplay seq => exact execJournalReplay_sorted seq s hwf
  | resyncGroup group reads => exact execResyncGroup_sorted group reads s hwf
  | retireSurface who value => exact execRetireSurface_sorted who value s hwf
  | rebuildStripe stripe reads => exact execRebuildStripe_sorted stripe reads s hwf
  | rebuildCheckpoint => exact execRebuildCheckpoint_sorted s hwf
  | patrolStripe stripe reads => exact execPatrolStripe_sorted stripe reads s hwf
  | reshapeRequest who value => exact execReshapeRequest_sorted who value s hwf
  | reshapeCancel who value => exact execReshapeCancel_sorted who value s hwf
  | reshapeGroupCopy => exact execReshapeGroupCopy_sorted s hwf
  | reshapeSwitch => exact execReshapeSwitch_sorted s hwf
  | grownDefectReadback surface track psector converged taBoth freezeOffset freezeLen => exact execGrownDefectReadback_sorted surface track psector converged taBoth freezeOffset freezeLen s hwf
  | arbiterGrant waiting => exact execArbiterGrant_sorted waiting s hwf
  | pageSubstitutionDone page => exact execPageSubstitutionDone_sorted page s hwf
  | zeroRange who value => exact execZeroRange_sorted who value s hwf
  | zeroRangeDone => exact execZeroRangeDone_sorted s hwf
  | keeperSlotErased slot => exact execKeeperSlotErased_sorted slot s hwf
  | cacheClean core => exact execCacheClean_sorted core s hwf
  | cacheInvalidate core => exact execCacheInvalidate_sorted core s hwf
  | cacheCleanInvalidate core => exact execCacheCleanInvalidate_sorted core s hwf
  | cacheFillLock core => exact execCacheFillLock_sorted core s hwf
  | cacheUnlock core => exact execCacheUnlock_sorted core s hwf
  | cacheCleanSw core => exact execCacheCleanSw_sorted core s hwf
  | cacheInvalidateSw core => exact execCacheInvalidateSw_sorted core s hwf
  | cacheCleanInvalidateSw core => exact execCacheCleanInvalidateSw_sorted core s hwf
  | cacheMaintDone core => exact execCacheMaintDone_sorted core s hwf
  | cacheFillReturn line => exact execCacheFillReturn_sorted line s hwf
  | dmaGo who ch ctrl => exact execDmaGo_sorted who ch ctrl s hwf
  | dmaChainGo who ch ctrl => exact execDmaChainGo_sorted who ch ctrl s hwf
  | dmaStop who ch ctrl => exact execDmaStop_sorted who ch ctrl s hwf
  | dmaDescriptorFetched ch ok => exact execDmaDescriptorFetched_sorted ch ok s hwf
  | dmaBeatsAcknowledged ch => exact execDmaBeatsAcknowledged_sorted ch s hwf
  | dmaReadbackDone ch => exact execDmaReadbackDone_sorted ch s hwf
  | dmaBeatError ch kind doneBytes indet => exact execDmaBeatError_sorted ch kind doneBytes indet s hwf
  | notifyClear who ch value => exact execNotifyClear_sorted who ch value s hwf
  | fabricNak lane requester => exact execFabricNak_sorted lane requester s hwf
  | collectorEvent ev => exact execCollectorEvent_sorted ev s hwf
  | unitReadmit source => exact execUnitReadmit_sorted source s hwf
  | safeRestartTimeout => exact execSafeRestartTimeout_sorted s hwf
  | coreWatchdog core => exact execCoreWatchdog_sorted core s hwf
  | collectorSelfFault collector => exact execCollectorSelfFault_sorted collector s hwf
  | captureClear who r value => exact execCaptureClear_sorted who r value s hwf
  | clearUpto who value => exact execClearUpto_sorted who value s hwf
  | clearAll who value => exact execClearAll_sorted who value s hwf
  | unretire who value => exact execUnretire_sorted who value s hwf
  | sourceEntryWrite who id value => exact execSourceEntryWrite_sorted who id value s hwf
  | spindleReinTrigger entry => exact execSpindleReinTrigger_sorted entry s hwf
  | coreMemoryAccess core addr width access ecc => exact execCoreMemoryAccess_sorted core addr width access ecc s hwf
  | linkTrainingDone p speed width => exact execLinkTrainingDone_sorted p speed width s hwf
  | cqHeadDoorbell p qid head => exact execCqHeadDoorbell_sorted p qid head s hwf
  | fabricAck lane requester beats => exact execFabricAck_sorted lane requester beats s hwf
  | supersededPageProgrammed => exact execSupersededPageProgrammed_sorted s hwf
  | cryptoEraseDone ns => exact execCryptoEraseDone_sorted ns s hwf
  | reservationStateWritten ns => exact execReservationStateWritten_sorted ns s hwf
  | _ => exact outSorted_of_touches hwf (of_decide_eq_true rfl)

/-- A step of the queue keeps the tables sorted, and so does a tick. -/
theorem step_sorted {s t : State} (h : tablesSorted s = true) (he : step s = .next t) : tablesSorted t = true := by
  unfold step at he
  split at he
  · next c r _ =>
    have hrest : tablesSorted { s with pending := r } = true := h
    simpa [he] using exec_sorted c hrest
  · cases he
    exact timePasses_sorted s h

/-- Settles O5: a step runs one command or lets a tick pass, and each of these keeps the tables sorted. -/
theorem stepKeepsTablesSorted : Obligations.StepKeepsTablesSorted := fun _ _ => step_sorted

end Sys2Proof.Machine
end

section
/-!
PROOFS. Servo syncs: what a sync writes of its channel stands through the rest of the command, through the ends of sentences (`Closes`), the
comparisons of the position (`Scans`), and the trigger of the rein group.
-/

namespace Sys2Proof.Machine

/-- What a servo sync, or its timeout, writes of the channel. -/
def Channel.servo (c : Channel) : Nat × Nat × Int × Nat × Bool × Nat := (c.wedge, c.track, c.pes, c.headT, c.servoMissed, c.syncTick)

/-- The closed write gate, with the source "servo timeout". -/
def Channel.shut (c : Channel) : Option Nat × Nat × Bool := (c.writeGate, c.laser, c.wu.testBit 1)

/-- The seek that runs. -/
def Actuator.seekState (x : Actuator) : Option (Nat × Int) × Nat := (x.seekRun, x.seekWedge)

/-- The objects that the rest of a servo sync reads again: revolutions, and those from the rein groups on, but for a channel's count. -/
def ScanKey (k : Key) : Prop := (0x4C1000 ≤ k ∨ 0x4C0000 ≤ k ∧ k % 0x100 = 9) ∧ k % 0x10000 ≠ 0x5004

/-- What every part of a servo sync leaves of it. -/
structure Scans (a : Nat) (s t : State) : Prop where
  servo : (t.chanOf a).servo = (s.chanOf a).servo
  motion : t.motion = s.motion
  engines : t.engines = s.engines
  num : ∀ k, ScanKey k → t.num k = s.num k

/-- What the end of a sentence leaves besides: the gate that is shut, and the seek. -/
structure Closes (a : Nat) (s t : State) : Prop extends Scans a s t where
  shut : (t.chanOf a).shut = (s.chanOf a).shut
  seek : (t.actOf a).seekState = (s.actOf a).seekState

section
variable {a : Nat} {s t u : State}

theorem Scans.refl (a : Nat) (s : State) : Scans a s s := ⟨rfl, rfl, rfl, fun _ _ => rfl⟩

theorem Scans.trans (h : Scans a s t) (g : Scans a t u) : Scans a s u :=
  ⟨g.servo.trans h.servo, g.motion.trans h.motion, g.engines.trans h.engines, fun k hk => (g.num k hk).trans (h.num k hk)⟩

theorem Closes.refl (a : Nat) (s : State) : Closes a s s := ⟨.refl a s, rfl, rfl⟩

theorem Closes.trans (h : Closes a s t) (g : Closes a t u) : Closes a s u :=
  ⟨h.toScans.trans g.toScans, g.shut.trans h.shut, g.seek.trans h.seek⟩

/-- A part that touches none of these. -/
theorem Scans.still {T : List Part} (h : Within T s t) (hout : ∀ p ∈ [Part.chan, .motion, .engines, .objs], p ∉ T) : Scans a s t := by
  have hsame := within_iff.mp h
  exact ⟨congrArg Channel.servo (chanOf_congr (hsame .chan (hout _ (by decide))) a), hsame .motion (hout _ (by decide)),
    hsame .engines (hout _ (by decide)), fun k _ => State.num_congr (hsame .objs (hout _ (by decide))) k⟩

theorem Closes.still {T : List Part} (h : Within T s t) (hout : ∀ p ∈ [Part.chan, .motion, .engines, .objs, .acts], p ∉ T) : Closes a s t := by
  have hsame := within_iff.mp h
  exact ⟨.still h fun p hp => hout p (List.mem_append_left [Part.acts] hp), congrArg Channel.shut (chanOf_congr (hsame .chan (hout _ (by decide))) a),
    congrArg Actuator.seekState (actOf_congr (hsame .acts (hout _ (by decide))) a)⟩

/-- A write of other fields of the channel. -/
theorem Scans.modChan (s : State) (a b : Nat) {f : Channel → Channel} (hf : ∀ c, (f c).servo = c.servo) : Scans a s (s.modChan b f) :=
  ⟨field_modChan (π := Channel.servo) s b a f hf, rfl, rfl, fun _ _ => rfl⟩

theorem Closes.modChan (s : State) (a b : Nat) {f : Channel → Channel} (hservo : ∀ c, (f c).servo = c.servo) (hshut : ∀ c, (f c).shut = c.shut) :
    Closes a s (s.modChan b f) :=
  ⟨.modChan s a b hservo, field_modChan (π := Channel.shut) s b a f hshut, rfl⟩

theorem Closes.modAct (s : State) (a b : Nat) {f : Actuator → Actuator} (hseek : ∀ x, (f x).seekState = x.seekState) : Closes a s (s.modAct b f) :=
  ⟨⟨rfl, rfl, rfl, fun _ _ => rfl⟩, rfl, field_modAct (π := Actuator.seekState) s b a f hseek⟩

theorem Closes.modPlayer (s : State) (a p : Nat) (f : Player → Player) : Closes a s (s.modPlayer p f) :=
  ⟨⟨rfl, rfl, rfl, fun _ _ => rfl⟩, rfl, rfl⟩

/-- None of these is an object of a player's end. -/
theorem ScanKey.not_closing {k : Key} (hk : ScanKey k) {p : Nat} (hp : p < 8) : ¬ClosingKey p k := fun hc => by
  obtain ⟨h1, h2⟩ := closingKey_div hc
  unfold ScanKey Key at hk
  unfold Key at h1 h2
  omega

/-! ### The ends of sentences -/

theorem testBit_clrBit_four (n : Nat) : (clrBit n 4).testBit 1 = n.testBit 1 := by
  unfold clrBit
  split
  · next h =>
    rw [Nat.testBit_eq_decide_div_mod_eq, decide_eq_true_eq] at h
    rw [Nat.testBit_eq_decide_div_mod_eq, Nat.testBit_eq_decide_div_mod_eq]
    congr 1
    simp only [Nat.reducePow] at h ⊢
    rw [show (n - 16) / 2 % 2 = n / 2 % 2 by omega]
  · rfl

theorem clearVerify_closes (s : State) (a b : Nat) : Closes a s (clearWu s b .frameVerify) :=
  .modChan s a b (fun _ => rfl) fun c => congrArg (fun x => (c.writeGate, c.laser, x)) (testBit_clrBit_four c.wu)

theorem closedGates_closes (s : State) (p : Nat) (o : Outcome) (a : Nat) : Closes a s (closedGates s p o) := by
  have hplayer : Closes a s (closedPlayer s p o) := .modPlayer s a p _
  unfold closedGates
  split
  · refine Closes.trans ?_ (.modAct _ a (playerAct p) fun _ => rfl)
    refine Closes.trans ?_ (clearVerify_closes _ a (playerAct p))
    exact hplayer.trans (.modChan _ a (playerAct p) (fun _ => rfl) fun _ => rfl)
  · exact hplayer

theorem closeSentence_closes (s : State) {p : Nat} (hp : p < 8) (o : Outcome) (a : Nat) : Closes a s (closeSentence s p o) := by
  obtain ⟨-, -, hacts3, hchan3, -, -⟩ := recordKept_effect s p o
  obtain ⟨-, hacts2, hchan2, -⟩ := closedOutcome_effect s p o
  obtain ⟨-, hacts1, hchan1, -⟩ := closedCounted_parts s p o
  have hchan : (closeSentence s p o).chan = (closedGates s p o).chan := hchan3.trans (hchan2.trans hchan1)
  have hacts : (closeSentence s p o).acts = (closedGates s p o).acts := hacts3.trans (hacts2.trans hacts1)
  have hgates := closedGates_closes s p o a
  have hparts := within_iff.mp (@closeSentence_frame [.objs, .chan, .players, .acts, .traces, .mem, .raised, .free] s (touch_of rfl) (touch_of rfl)
    (touch_of rfl) (touch_of rfl) (touch_of rfl) (touch_of rfl) (touch_of rfl) (touch_of rfl) s p o (.refl _ s))
  exact ⟨⟨(congrArg Channel.servo (chanOf_congr hchan a)).trans hgates.servo, hparts .motion (by decide), hparts .engines (by decide),
      fun k hk => (closeSentence_closed s hp o).num k (hk.not_closing hp)⟩,
    (congrArg Channel.shut (chanOf_congr hchan a)).trans hgates.shut, (congrArg Actuator.seekState (actOf_congr hacts a)).trans hgates.seek⟩

theorem blockAfter_closes (s : State) (p a : Nat) : Closes a s (blockAfter s p) := by
  unfold blockAfter
  dsimp only
  split
  · exact .refl a s
  · exact .modAct s a _ fun _ => rfl

theorem underrunNow_closes (s : State) {p : Nat} (hp : p < 8) (a : Nat) : Closes a s (underrunNow s p) := by
  have hclosed := (blockAfter_closes s p a).trans (closeSentence_closes (blockAfter s p) hp .underrun a)
  unfold underrunNow blockedUnderrun
  split
  · exact hclosed.trans (closeSentence_closes _ (by unfold otherPlayer; split <;> omega) .underrun a)
  · exact hclosed

theorem queueFrame_closes (s : State) (a b : Nat) (f : PreampFrame) : Closes a s (queueFrame s b f) := by
  have hqueued : Closes a s (s.modChan b fun c => { c with frames := c.frames ++ [f] }) := .modChan s a b (fun _ => rfl) fun _ => rfl
  unfold queueFrame sendNext
  generalize (s.modChan b fun c => { c with frames := c.frames ++ [f] }) = u at hqueued ⊢
  dsimp only
  split
  · exact hqueued
  · split
    · exact hqueued
    · next g _ =>
      have hsent : Closes a u (u.modChan b fun c => { c with onBus := some g, frames := c.frames.erase g }) := .modChan u a b (fun _ => rfl) fun _ => rfl
      exact (hqueued.trans hsent).trans ⟨⟨rfl, rfl, rfl, fun _ _ => rfl⟩, rfl, rfl⟩

theorem prerollPosts_closes (s : State) (a b p : Nat) : Closes a s (prerollPosts s b p) := by
  unfold prerollPosts
  extract_lets h act s1 s2 s3 s4
  have h1 : Closes a s s1 := .modPlayer s a p _
  have h2 : Closes a s s2 := by
    unfold s2
    split
    · exact h1.trans (queueFrame_closes s1 a b _)
    · exact h1
  have h3 : Closes a s s3 := h2.trans (queueFrame_closes s2 a b _)
  have h4 : Closes a s s4 := by
    unfold s4
    split
    · exact h3.trans (.modChan s3 a b (fun _ => rfl) fun _ => rfl)
    · exact h3
  exact h4.trans (.modAct s4 a b fun _ => rfl)

theorem prerollNext_closes {b : Nat} (hb : b < 4) (fuel : Nat) (s : State) (a : Nat) : Closes a s (prerollNext fuel s b) := by
  induction fuel generalizing s with
  | zero => exact .refl a s
  | succ n ih =>
    unfold prerollNext
    split
    · exact .refl a s
    · split
      · exact .refl a s
      · next p hp =>
        have hp8 := nextReady_lt hb hp
        split
        · exact (closeSentence_closes s hp8 _ a).trans (ih _)
        · split
          · exact (underrunNow_closes s hp8 a).trans (ih _)
          · have hposts := prerollPosts_closes s a b p
            dsimp only
            split
            · exact (hposts.trans (closeSentence_closes _ hp8 _ a)).trans (ih _)
            · exact hposts

theorem finishSentence_closes (s : State) {p : Nat} (hp : p < 8) (o : Outcome) (a : Nat) : Closes a s (finishSentence s p o) :=
  (closeSentence_closes s hp o a).trans (prerollNext_closes (by unfold playerAct; omega) 2 _ a)

theorem missedStarts_closes (s : State) {a : Nat} (ha : a < 4) : Closes a s (missedStarts s a) := by
  refine State.each_inv (P := Closes a s) (.refl a s) fun t p hp ht => ?_
  split
  · exact ht.trans (underrunNow_closes t (players_lt ha hp) a)
  · exact ht

theorem releaseBlock_closes (s : State) (a : Nat) : Closes a s (releaseBlock s a) := by
  unfold releaseBlock
  split
  · split
    · exact .modAct s a a fun _ => rfl
    · exact .refl a s
  · exact .refl a s

theorem stampStart_closes (s : State) (a wedge : Nat) : Closes a s (stampStart s a wedge) :=
  .still (@stampStart_frame [.players] s (touch_of rfl) s a wedge (.refl _ s)) (by decide)

theorem setFlags_closes (s : State) (a p mask : Nat) : Closes a s (setFlags s p mask) := .modPlayer s a p _

/-! ### The comparisons of the position -/

theorem clearWu_scans (s : State) (a : Nat) (src : WuSource) : Scans a s (clearWu s a src) := .modChan s a a fun _ => rfl

theorem postEvent_scans (s : State) {a : Nat} (ha : a < 4) (code : Nat) : Scans a s (postEvent s a code) := by
  have hposted := postEvent_posted s ha code
  obtain ⟨ev, lost, hchan⟩ := hposted.chan
  have hparts := within_iff.mp (@postEvent_frame [.chan, .players, .raised] s (touch_of rfl) (touch_of rfl) (touch_of rfl) s a code (.refl _ s))
  exact ⟨(congrArg Channel.servo hchan).trans rfl, hparts .motion (by decide), hparts .engines (by decide), fun k _ => State.num_congr hposted.objs k⟩

theorem lockSentence_scans (s : State) {a : Nat} (ha : a < 4) : Scans a s (lockSentence s a) := by
  have hlocked := lockSentence_locked s ha
  obtain ⟨ev, lost, l, at', hchan⟩ := hlocked.chan
  have hparts := within_iff.mp (@lockSentence_frame [.objs, .chan, .players, .raised, .free] s (touch_of rfl) (touch_of rfl) (touch_of rfl)
    (touch_of rfl) (touch_of rfl) s a (.refl _ s))
  refine ⟨(congrArg Channel.servo hchan).trans rfl, hparts .motion (by decide), hparts .engines (by decide), fun k hk => hlocked.num k ?_⟩
  unfold ScanKey Key at hk
  unfold Obj.writeUnsafeCount Key
  omega

theorem assertWu_scans (s : State) {a : Nat} (ha : a < 4) (src : WuSource) : Scans a s (assertWu s a src) := by
  obtain ⟨duty, from', hchan⟩ := assertWu_chan s ha src
  obtain ⟨ev, lost, l, at', hlocked⟩ := wuLocked_chan s ha src
  have hobjs : (wuSet s a src).objs = s.objs := (wuSet_same s a src).2.2.2.1
  have hparts := within_iff.mp (@assertWu_frame [.objs, .chan, .players, .traces, .mem, .raised, .outs, .free] s (touch_of rfl) (touch_of rfl)
    (touch_of rfl) (touch_of rfl) (touch_of rfl) (touch_of rfl) (touch_of rfl) (touch_of rfl) s a src (.refl _ s))
  refine ⟨(congrArg Channel.servo hchan).trans ((congrArg Channel.servo hlocked).trans rfl), hparts .motion (by decide), hparts .engines (by decide), fun k hk => ?_⟩
  rw [closing_num hk.2]
  exact ((lockSentence_scans (wuSet s a src) ha).num k hk).trans (State.num_congr hobjs k)

theorem comparePosition_scans (s : State) {a : Nat} (ha : a < 4) (pes : Int) : Scans a s (comparePosition s a pes) := by
  unfold comparePosition
  split
  · exact assertWu_scans s ha .position
  · exact clearWu_scans s a .position

theorem checkDue_lt {s : State} {a wedge p : Nat} (h : checkDue s a wedge = some p) : p < 8 := by
  unfold checkDue at h
  split at h
  · next q hq =>
    dsimp only at h
    split at h
    · next hdue =>
      obtain rfl := Option.some.inj h
      by_contra hp
      have hnone : s.playerOf q = Player.reset := dif_neg hp
      rw [hnone] at hdue
      exact absurd hdue (by simp [Player.reset])
    · exact absurd h (by simp)
  · exact absurd h (by simp)

end

end Sys2Proof.Machine
end

section
/-!
PROOFS. Servo syncs, continued: the track check, the trigger of the rein group and the trace; then the sync and its timeout as a whole.
-/

namespace Sys2Proof.Machine

/-! ### The track check -/

theorem trackCheck_scans (s : State) {a : Nat} (ha : a < 4) (wedge track : Nat) (pes : Int) : Scans a s (trackCheck s a wedge track pes) := by
  unfold trackCheck
  split
  · exact .refl a s
  · next p hp =>
    have hp8 := checkDue_lt hp
    have hplays : Scans a s ((s.modPlayer p fun pl => { pl with playing := true }).setNum (Obj.loadState p) 3) :=
      ⟨rfl, rfl, rfl, fun k hk => State.num_setNum_other _ _ fun e => hk.not_closing hp8 (.inl e)⟩
    dsimp only
    split
    · split
      · exact hplays
      · exact hplays.trans (lockSentence_scans _ ha)
    · exact (finishSentence_closes s hp8 _ a).toScans

/-! ### The trigger of the group, and the trace -/

/-- An object with one of these last bytes is none of an engine and no snapshot. -/
def TurnKey (k : Key) : Prop := k % 0x100 = 5 ∨ k % 0x100 = 9

/-- What the trigger and the trace leave of the sync. -/
structure Turns (a : Nat) (s t : State) : Prop where
  chan : t.chan = s.chan
  motion : t.motion = s.motion
  num : ∀ k, TurnKey k → t.num k = s.num k

theorem Turns.trans {a : Nat} {s t u : State} (h : Turns a s t) (g : Turns a t u) : Turns a s u :=
  ⟨g.chan.trans h.chan, g.motion.trans h.motion, fun k hk => (g.num k hk).trans (h.num k hk)⟩

section
variable {k : Key} {v : Val} (hk : TurnKey k)
include hk

theorem TurnKey.ne_engKey (e : Nat) : ¬k = engKey e 2 ∧ ¬k = engKey e 3 := by
  unfold TurnKey Key at hk
  unfold engKey Key
  split <;> omega

theorem TurnKey.ne_snapshot (g : Nat) : ¬k = Obj.snapshot g := by
  unfold TurnKey Key at hk
  unfold Obj.snapshot Key
  omega

theorem joinRegisters_turns (s : State) (g active : Nat) (h : At k v s) : At k v (joinRegisters s g active) := by
  refine State.each_inv h fun t e _ ht => ?_
  obtain ⟨hstate, hrole⟩ := hk.ne_engKey e
  exact At.setNum hrole (At.setNum hstate (State.modEngine_at _ e _ ht))

theorem takeCheckpoint_turns (s : State) (e : Nat) (h : At k v s) : At k v (takeCheckpoint s e) := by
  unfold takeCheckpoint
  extract_lets s1 s2 g s3 s4
  have h3 : At k v s3 := State.modGroup_at _ _ _ (State.modEngine_at _ _ _ (State.modEngine_at _ _ _ h))
  split
  · refine joinRegisters_turns hk _ g e ?_
    unfold s4
    split
    · exact State.modGroup_at _ _ _ (State.setBlob_at s3 _ (hk.ne_snapshot _) h3)
    · exact h3
  · exact State.modEngine_at _ _ _ (State.modEngine_at _ _ _ h)

theorem serveTrigger_turns (s : State) (e entry : Nat) (inputs : SMap Word32) (h : At k v s) : At k v (serveTrigger s e entry inputs) := by
  unfold serveTrigger
  split
  · refine startRun_at _ e entry inputs false (State.each_inv (P := At k v) (takeCheckpoint_turns hk s e h) fun t j _ ht => ?_)
    exact startRun_at t j entry inputs false ht
  · exact startRun_at s e entry inputs false h

theorem triggerEngine_turns (s : State) (e entry : Nat) (inputs : SMap Word32) (h : At k v s) : At k v (triggerEngine s e entry inputs) := by
  have hwait : At k v (s.modEngine e fun x => { x with waiting := SMap.put x.waiting entry inputs }) := State.modEngine_at s e _ h
  unfold triggerEngine
  dsimp only
  split
  · exact hwait
  · split
    · exact serveTrigger_turns hk s e entry inputs h
    · split
      · exact hwait
      · split
        · exact serveTrigger_turns hk _ e entry inputs (State.modEngine_at s e _ h)
        · exact hwait

end

theorem Turns.refl (a : Nat) (s : State) : Turns a s s := ⟨rfl, rfl, fun _ _ => rfl⟩

theorem triggerEngine_turned (s : State) (a e entry : Nat) (inputs : SMap Word32) : Turns a s (triggerEngine s e entry inputs) := by
  have hparts := within_iff.mp (@triggerEngine_frame [.objs, .dict, .engines, .groups] s (touch_of rfl) (touch_of rfl) (touch_of rfl) (touch_of rfl)
    s e entry inputs (.refl _ s))
  exact ⟨hparts .chan (by decide), hparts .motion (by decide), fun k hk => At.num_eq (triggerEngine_turns hk s e entry inputs (At.self s))⟩

theorem groupInputs_turned (s : State) (a : Nat) : Turns a s (groupInputs s a).2 := by
  have hparts := within_iff.mp (@groupInputs_frame [.objs, .free] s (touch_of rfl) (touch_of rfl) s a (.refl _ s))
  refine ⟨hparts .chan (by decide), hparts .motion (by decide), fun k hk => At.num_eq (@groupInputs_at k _ ⟨?_⟩ s a (At.self s))⟩
  unfold TurnKey Key at hk
  unfold Obj.tjC Key
  omega

theorem groupTrigger_turned {s : State} {a entry : Nat} (hnone : NoneWaits s a entry) : Turns a s (groupTrigger s a entry) := by
  have hoffset : Turns a s (takeOffset s a entry) := by
    unfold takeOffset
    split
    · exact ⟨rfl, rfl, fun _ _ => rfl⟩
    · exact .refl a s
  have hinputs := hoffset.trans (groupInputs_turned (takeOffset s a entry) a)
  unfold groupTrigger
  dsimp only
  rw [lostRun_of_none_waits hnone]
  split
  · exact .refl a s
  · refine State.each_inv (P := Turns a s) ?_ fun t e _ ht => ht.trans (triggerEngine_turned t a e entry _)
    exact hinputs.trans ⟨rfl, rfl, fun _ _ => rfl⟩

theorem traceSample_turned (s : State) (a : Nat) (inner : Bool) : Turns a s (traceSample s a inner) := by
  have hparts := within_iff.mp (@traceSample_frame [.objs, .traces] s (touch_of rfl) (touch_of rfl) s a inner (.refl _ s))
  refine ⟨hparts .chan (by decide), hparts .motion (by decide), fun k hk => ?_⟩
  unfold TurnKey Key at hk
  exact At.num_eq (@traceSample_at k _ ⟨fun u => by unfold Obj.traceState Key; omega⟩ ⟨fun u => by unfold Obj.triggerTick Key; omega⟩ s a inner (At.self s))

/-! ### The sync -/

theorem scanKey_driveState {a : Nat} (ha : a < 4) : ScanKey (Obj.driveState a) := by
  unfold ScanKey Obj.driveState Key
  omega

theorem scanKey_revNow {p : Nat} (hp : p < 8) : ScanKey (Obj.revNow p) := by
  unfold ScanKey Obj.revNow Key
  omega

section
variable {k : Key} (hk : ScanKey k)
include hk

theorem followPlayers_num (s : State) {a : Nat} (ha : a < 4) : (followPlayers s a).num k = s.num k := by
  refine State.each_inv (P := fun t => t.num k = s.num k) rfl fun t p hp ht => ?_
  have hp8 := players_lt ha hp
  split
  · exact ht
  · refine (State.num_setNum_other _ _ ?_).trans ht
    unfold ScanKey Key at hk
    unfold Obj.playerState Key
    omega

theorem surfacesGood_num (s : State) {a : Nat} (ha : a < 4) : (surfacesGood s a).num k = s.num k := by
  refine State.each_inv (P := fun t => t.num k = s.num k) rfl fun t u hu ht => ?_
  have hu : u < 48 := by
    simp only [surfacesOfAct, List.mem_filter, List.mem_map, List.mem_range] at hu
    obtain ⟨⟨j, hj, rfl⟩, -⟩ := hu
    omega
  split
  · refine (State.num_setNum_other t _ ?_).trans ht
    unfold ScanKey Key at hk
    unfold Obj.surfaceState Key
    omega
  · exact ht

theorem setActuator_num (s : State) {a : Nat} (ha : a < 4) (st : Nat) : (setActuator s a st).num k = s.num k := by
  have hstate : (s.setNum (Obj.actuatorState a) st).num k = s.num k := State.num_setNum_other _ _ (by
    unfold ScanKey Key at hk
    unfold Obj.actuatorState Key
    omega)
  have hfollow := (followPlayers_num hk (s.setNum (Obj.actuatorState a) st) ha).trans hstate
  unfold setActuator
  dsimp only
  split
  · exact (surfacesGood_num hk _ ha).trans hfollow
  · exact hfollow

end

theorem setActuator_scans (s : State) {a : Nat} (ha : a < 4) (st : Nat) : Scans a s (setActuator s a st) := by
  have hparts := within_iff.mp (@setActuator_frame [.objs, .layout] s (touch_of rfl) (touch_of rfl) s a st (.refl _ s))
  exact ⟨congrArg Channel.servo (chanOf_congr (hparts .chan (by decide)) a), hparts .motion (by decide), hparts .engines (by decide),
    fun k hk => setActuator_num hk s ha st⟩

/-- A load that the sync confirms: the arm is in SERVO, at zero back-EMF. -/
theorem confirmLoad_effect (s : State) {a : Nat} (ha : a < 4) :
    ((confirmLoad s a).chanOf a).servo = (s.chanOf a).servo ∧ (confirmLoad s a).engines = s.engines ∧
    (∀ k, ScanKey k → k ≠ Obj.driveState a → (confirmLoad s a).num k = s.num k) ∧
    (s.num (Obj.driveState a) = 1 → (confirmLoad s a).num (Obj.driveState a) = 2 ∧ vget (confirmLoad s a).motion.drives a (1, 1, 1) = (0, 0, 0)) := by
  let u := (s.setNum (Obj.driveState a) dvServo).setMotion { s.motion with drives := vmod s.motion.drives a fun _ => (0, 0, 0) }
  have hu : vget u.motion.drives a (1, 1, 1) = (0, 0, 0) := vget_vmod_self s.motion.drives a _ _ ha
  have hother (k : Key) (h : k ≠ Obj.driveState a) : u.num k = s.num k := State.num_setNum_other s dvServo h
  have hself : u.num (Obj.driveState a) = 2 := State.num_setNum_self s (Obj.driveState a) dvServo
  have hloaded {t : State} (h : Scans a u t) : (t.chanOf a).servo = (s.chanOf a).servo ∧ t.engines = s.engines ∧
      (∀ k, ScanKey k → k ≠ Obj.driveState a → t.num k = s.num k) ∧
      (s.num (Obj.driveState a) = 1 → t.num (Obj.driveState a) = 2 ∧ vget t.motion.drives a (1, 1, 1) = (0, 0, 0)) :=
    ⟨h.servo, h.engines, fun k hk hne => (h.num k hk).trans (hother k hne),
      fun _ => ⟨(h.num _ (scanKey_driveState ha)).trans hself, by rw [h.motion]; exact hu⟩⟩
  unfold confirmLoad
  split
  · dsimp only
    split
    · exact hloaded (setActuator_scans u ha stRunning)
    · exact hloaded (.refl a u)
  · next hidle => exact ⟨rfl, rfl, fun _ _ _ => rfl, fun h => absurd h hidle⟩

/-- The state in which the sync has been read. -/
def syncTaken (s : State) (a wedge track : Nat) (pes : Int) : State :=
  (passWedge s a).modChan a fun c => { c with
    wedge := wedge, track := track, pes := pes, servoMissed := false, syncTick := s.tick, headT := 0, servoLane := servoLaneOf (lanesNow s a) }

/-- What follows the count of revolutions, up to the trigger of the group. -/
def syncScanned (s : State) (a wedge track : Nat) (pes : Int) : State :=
  let s := comparePosition (missedStarts (releaseBlock s a) a) a pes
  let s := postEvent (stampStart (trackCheck s a wedge track pes) a wedge) a evServo
  trimSums (stampPhase (seekStep s a track) a wedge) a pes

theorem exec_servoSync (s : State) (a : Fin 4) (wedge track : Nat) (pes : Int) :
    exec (.servoSync a wedge track pes) s = .next (traceSample (groupTrigger (syncScanned (countRev
      (clearWu (confirmLoad (syncTaken s a (wedge % 600) (track % 2 ^ 24) pes) a) a .servoTimeout) a (wedge % 600)) a (wedge % 600) (track % 2 ^ 24) pes) a 1) a
      false) := rfl

theorem syncScanned_scans (s : State) {a : Nat} (ha : a < 4) (wedge track : Nat) (pes : Int) : Scans a s (syncScanned s a wedge track pes) := by
  unfold syncScanned
  dsimp only
  refine Scans.trans ?_ (.still (@trimSums_frame [.girth, .free] _ (touch_of rfl) (touch_of rfl) _ a pes (.refl _ _)) (by decide))
  refine Scans.trans ?_ (.still (@stampPhase_frame [.groups] _ (touch_of rfl) _ a wedge (.refl _ _)) (by decide))
  refine Scans.trans ?_ (.still (@seekStep_frame [.acts, .traces, .girth, .raised] _ (touch_of rfl) (touch_of rfl) (touch_of rfl) (touch_of rfl) _ a track
    (.refl _ _)) (by decide))
  refine Scans.trans ?_ (postEvent_scans _ ha evServo)
  refine Scans.trans ?_ (stampStart_closes _ a wedge).toScans
  refine Scans.trans ?_ (trackCheck_scans _ ha wedge track pes)
  refine Scans.trans ?_ (comparePosition_scans _ ha pes)
  exact ((releaseBlock_closes s a).trans (missedStarts_closes _ ha)).toScans

/-- The revolutions are counted at wedge 0. -/
theorem countRev_effect (s : State) {a : Nat} (ha : a < 4) (wedge : Nat) :
    (countRev s a wedge).chan = s.chan ∧ (countRev s a wedge).motion = s.motion ∧ (countRev s a wedge).engines = s.engines ∧
    (countRev s a wedge).acts = s.acts ∧ (∀ k, 0x4C1000 ≤ k → (countRev s a wedge).num k = s.num k) ∧
    (wedge = 0 → (countRev s a wedge).num (Obj.revNow (2 * a)) = (s.num (Obj.revNow (2 * a)) + 1) % 2 ^ widthOf (Obj.revNow (2 * a))) := by
  unfold countRev
  split
  · have hparts := within_iff.mp (@countTurn_frame [.objs] s (touch_of rfl) s a (.refl _ s))
    refine ⟨hparts .chan (by decide), hparts .motion (by decide), hparts .engines (by decide), hparts .acts (by decide), fun k hk => ?_, fun _ => ?_⟩
    · have hne (p : Nat) (hp : p < 8) : k ≠ Obj.revNow p := by
        unfold Key at hk
        unfold Obj.revNow Key
        omega
      exact (State.num_setNum_other _ _ (hne _ (by omega))).trans (State.num_setNum_other _ _ (hne _ (by omega)))
    · refine (State.num_setNum_other _ _ ?_).trans (State.num_setNum_self ..)
      unfold Obj.revNow Key
      omega
  · next h => exact ⟨rfl, rfl, rfl, rfl, fun _ _ => rfl, fun h0 => absurd h0 h⟩

theorem noneWaits_congr {s t : State} {a entry : Nat} (hengines : t.engines = s.engines) (hrole : ∀ e, engRole t e = engRole s e)
    (h : NoneWaits s a entry) : NoneWaits t a entry := by
  have hvoting : votingEngines t a = votingEngines s a := by
    unfold votingEngines
    rw [groupEngines_congr hengines hrole a]
    simp only [hrole]
  intro e he
  rw [State.engineOf, hengines]
  exact h e (hvoting ▸ he)

theorem servoSync_effect (s : State) (a : Fin 4) (wedge track : Nat) (pes : Int) (hnone : NoneWaits s a 1) :
    Completes (.servoSync a wedge track pes) s fun t =>
      (t.chanOf a).servo = (wedge % 600, track % 2 ^ 24, pes, 0, false, s.num Obj.tick) ∧
      (s.num (Obj.driveState a) = 1 → t.num (Obj.driveState a) = 2 ∧ vget t.motion.drives a (1, 1, 1) = (0, 0, 0)) ∧
      (wedge % 600 = 0 → t.num (Obj.revNow (2 * a)) = (s.num (Obj.revNow (2 * a)) + 1) % 2 ^ widthOf (Obj.revNow (2 * a))) := by
  have ha := a.isLt
  let u := syncTaken s a (wedge % 600) (track % 2 ^ 24) pes
  have hu : (u.chanOf a).servo = (wedge % 600, track % 2 ^ 24, pes, 0, false, s.num Obj.tick) := by
    unfold u syncTaken
    rw [chanOf_modChan _ _ ha]
    rfl
  obtain ⟨hservo1, hengines1, hnum1, hload⟩ := confirmLoad_effect u ha
  have hclear := clearWu_scans (confirmLoad u a) a .servoTimeout
  let v := clearWu (confirmLoad u a) a .servoTimeout
  obtain ⟨hchan2, hmotion2, hengines2, -, hnum2, hrev⟩ := countRev_effect v ha (wedge % 600)
  let w := countRev v a (wedge % 600)
  have hscan := syncScanned_scans w ha (wedge % 600) (track % 2 ^ 24) pes
  let x := syncScanned w a (wedge % 600) (track % 2 ^ 24) pes
  have hengines : x.engines = s.engines := hscan.engines.trans (hengines2.trans (hclear.engines.trans hengines1))
  have hrole (e : Nat) : engRole x e = engRole s e := by
    have hkey : ScanKey (engKey e 3) ∧ 0x4C1000 ≤ engKey e 3 ∧ engKey e 3 ≠ Obj.driveState a := by
      unfold ScanKey engKey Obj.driveState Key
      split <;> omega
    obtain ⟨hscanned, hhigh, hne⟩ := hkey
    exact (hscan.num _ hscanned).trans ((hnum2 _ hhigh).trans ((hclear.num _ hscanned).trans (hnum1 _ hscanned hne)))
  have hturn := (groupTrigger_turned (noneWaits_congr hengines hrole hnone)).trans (traceSample_turned (groupTrigger x a 1) a false)
  refine ⟨_, exec_servoSync s a wedge track pes, ?_, fun hloading => ?_, fun hzero => ?_⟩
  · exact (congrArg Channel.servo (chanOf_congr hturn.chan a)).trans
      (hscan.servo.trans ((congrArg Channel.servo (chanOf_congr hchan2 a)).trans (hclear.servo.trans (hservo1.trans hu))))
  · obtain ⟨hstate, hdrive⟩ := hload hloading
    refine ⟨?_, ?_⟩
    · refine (hturn.num _ (.inl ?_)).trans ((hscan.num _ (scanKey_driveState ha)).trans ((hnum2 _ ?_).trans hstate))
      · unfold Obj.driveState Key; omega
      · unfold Obj.driveState Key; omega
    · rw [hturn.motion, hscan.motion, hmotion2, hclear.motion]
      exact hdrive
  · refine (hturn.num _ (.inr ?_)).trans ((hscan.num _ (scanKey_revNow (by omega))).trans ((hrev hzero).trans ?_))
    · unfold Obj.revNow Key; omega
    · rw [hclear.num _ (scanKey_revNow (by omega)), hnum1 _ (scanKey_revNow (by omega)) (by unfold Obj.revNow Obj.driveState Key; omega)]
      rfl

/-! ### The timeout -/

/-- The state in which the predicted wedge has been taken. -/
def timeoutTaken (s : State) (a wedge : Nat) : State :=
  (passWedge s a).modChan a fun c => { c with
    wedge := wedge, servoMissed := true, syncTick := (s.chanOf a).syncTick + wedgeTicks s, headT := 64 }

/-- The seek goes on, and what waits for the wedge is counted or released. -/
def timeoutCounted (s : State) (a wedge : Nat) : State :=
  missedStarts (releaseBlock (countRev (if (s.actOf a).seekRun.isSome then seekAdvance s a else s) a wedge) a) a

/-- The write fault is asserted, and the sentence that plays is marked. -/
def timeoutMarked (s : State) (a wedge : Nat) : State :=
  let s := assertWu s a .servoTimeout
  match (s.actOf a).playing with
  | some p => if (s.playerOf p).playing && inWindow (s.playerOf p).header wedge then setFlags s p fServoMissed else s
  | none => s

/-- A sentence whose check is due ends with the wedge. -/
def timeoutEnded (s : State) (a wedge : Nat) : State :=
  match checkDue s a wedge with
  | some p => finishSentence s p .settleMiss
  | none => stampStart s a wedge

theorem exec_servoSyncTimeout (s : State) (a : Fin 4) :
    exec (.servoSyncTimeout a) s = .next (timeoutEnded (timeoutMarked (timeoutCounted (timeoutTaken s a (((s.chanOf a).wedge + 1) % 600)) a
      (((s.chanOf a).wedge + 1) % 600)) a (((s.chanOf a).wedge + 1) % 600)) a (((s.chanOf a).wedge + 1) % 600)) := by
  have hend (u : State) (w : Nat) : (match checkDue u a w with
      | some p => (.next (finishSentence u p .settleMiss) : Host.Outcome State Fault Refusal)
      | none => .next (stampStart u a w)) = .next (timeoutEnded u a w) := by
    unfold timeoutEnded
    cases checkDue u a w with
    | none => rfl
    | some p => rfl
  exact hend (timeoutMarked (timeoutCounted (timeoutTaken s a (((s.chanOf a).wedge + 1) % 600)) a (((s.chanOf a).wedge + 1) % 600)) a
    (((s.chanOf a).wedge + 1) % 600)) _

theorem timeoutEnded_closes (s : State) (a wedge : Nat) : Closes a s (timeoutEnded s a wedge) := by
  unfold timeoutEnded
  split
  · next p hp => exact finishSentence_closes s (checkDue_lt hp) .settleMiss a
  · exact stampStart_closes s a wedge

/-- The marks leave what the assertion of the write fault has done. -/
theorem timeoutMarked_closes (s : State) (a wedge : Nat) : Closes a (assertWu s a .servoTimeout) (timeoutMarked s a wedge) := by
  unfold timeoutMarked
  dsimp only
  split
  · split
    · exact setFlags_closes _ a _ _
    · exact .refl a _
  · exact .refl a _

theorem seekAdvance_scans (s : State) (a : Nat) : Scans a s (seekAdvance s a) :=
  .still (@seekAdvance_frame [.acts, .traces] s (touch_of rfl) (touch_of rfl) s a (.refl _ s)) (by decide)

/-- A running seek goes on by its profile, which the channel has no part in. -/
theorem seekAdvance_acts {s t : State} (hacts : t.acts = s.acts) (a : Nat) (hprofile : runningProfile t a = runningProfile s a) :
    (seekAdvance t a).acts = (seekAdvance s a).acts := by
  unfold seekAdvance
  rw [hprofile, State.actOf, hacts, State.actOf]
  have hmod (f : Actuator → Actuator) : (t.modAct a f).acts = (s.modAct a f).acts := congrArg (fun l => vmod l a f) hacts
  split
  · exact hmod _
  · split
    · exact hmod _
    · exact hmod fun x => { x with seekRun := none, seekWedge := 0 }

theorem timeoutCounted_effect (s : State) {a : Nat} (ha : a < 4) (wedge : Nat) :
    ((timeoutCounted s a wedge).chanOf a).servo = (s.chanOf a).servo ∧
    ((s.actOf a).seekRun.isSome = true → ((timeoutCounted s a wedge).actOf a).seekState = ((seekAdvance s a).actOf a).seekState) := by
  let u := if (s.actOf a).seekRun.isSome then seekAdvance s a else s
  obtain ⟨hchan, -, -, hacts, -⟩ := countRev_effect u ha wedge
  have hrest := (releaseBlock_closes (countRev u a wedge) a).trans (missedStarts_closes _ ha)
  have hu : (u.chanOf a).servo = (s.chanOf a).servo := by
    unfold u
    split
    · exact (seekAdvance_scans s a).servo
    · rfl
  refine ⟨hrest.servo.trans ((congrArg Channel.servo (chanOf_congr hchan a)).trans hu), fun hseek => ?_⟩
  refine hrest.seek.trans ((congrArg Actuator.seekState (actOf_congr hacts a)).trans ?_)
  unfold u
  rw [if_pos hseek]

theorem servoSyncTimeout_effect (s : State) (a : Fin 4) :
    Completes (.servoSyncTimeout a) s fun t =>
      ((t.chanOf a).wedge = ((s.chanOf a).wedge + 1) % 600 ∧ (t.chanOf a).syncTick = (s.chanOf a).syncTick + 2500000 / s.motion.rpm ∧
        (t.chanOf a).headT = 64 ∧ (t.chanOf a).servoMissed = true) ∧
      ((t.chanOf a).wu.testBit 1 = true ∧ (t.chanOf a).writeGate = none ∧ (t.chanOf a).laser = 0) ∧
      (∀ r, (s.actOf a).seekRun = some r → (t.actOf a).seekState = ((seekAdvance s a).actOf a).seekState) := by
  have ha := a.isLt
  let wedge := ((s.chanOf a).wedge + 1) % 600
  let u := timeoutTaken s a wedge
  have hu : u.chanOf a = { (passWedge s a).chanOf a with
      wedge := wedge, servoMissed := true, syncTick := (s.chanOf a).syncTick + wedgeTicks s, headT := 64 } := chanOf_modChan (passWedge s a) _ ha
  obtain ⟨hservo, hseek⟩ := timeoutCounted_effect u ha wedge
  let v := timeoutCounted u a wedge
  obtain ⟨hwu, hgate, hlaser, -⟩ := assertWu_effect v ha .servoTimeout
  have hassert := assertWu_scans v ha .servoTimeout
  have hrest := (timeoutMarked_closes v a wedge).trans (timeoutEnded_closes (timeoutMarked v a wedge) a wedge)
  let t := timeoutEnded (timeoutMarked v a wedge) a wedge
  have hchan : (t.chanOf a).servo = (u.chanOf a).servo := hrest.servo.trans (hassert.servo.trans hservo)
  have hshut : (t.chanOf a).shut = ((assertWu v a .servoTimeout).chanOf a).shut := hrest.shut
  unfold Channel.servo at hchan
  unfold Channel.shut at hshut
  rw [hu] at hchan
  simp only [Prod.mk.injEq] at hchan hshut
  obtain ⟨h1, -, -, h4, h5, h6⟩ := hchan
  obtain ⟨h7, h8, h9⟩ := hshut
  refine ⟨t, exec_servoSyncTimeout s a, ⟨h1, h6, h4, h5⟩, ⟨?_, h7.trans hgate, h8.trans hlaser⟩, fun r hr => ?_⟩
  · rw [h9, hwu]
    exact testBit_setBit _ _
  · have hacts : (assertWu v a .servoTimeout).acts = v.acts := within_iff.mp (@assertWu_frame [.objs, .chan, .players, .traces, .mem, .raised, .outs,
      .free] v (touch_of rfl) (touch_of rfl) (touch_of rfl) (touch_of rfl) (touch_of rfl) (touch_of rfl) (touch_of rfl) (touch_of rfl) v a _
      (.refl _ v)) .acts (by decide)
    have hrun : (u.actOf a).seekRun.isSome = true := by
      rw [show u.actOf a = s.actOf a from rfl, hr]
      rfl
    refine hrest.seek.trans ((congrArg Actuator.seekState (actOf_congr hacts a)).trans ((hseek hrun).trans ?_))
    exact congrArg Actuator.seekState (actOf_congr (seekAdvance_acts (s := s) (t := u) rfl a rfl) a)

end Sys2Proof.Machine
end

section
/-!
PROOFS. The detectors, freezes and sync windows of the read channel, each after the rows of samples that the lanes have delivered.
-/

namespace Sys2Proof.Machine

/-! ### The rows of samples -/

theorem streamSamples_parts (s : State) (a : Nat) (adc : List AdcRow) : Within [.chan, .players] s (streamSamples s a adc) :=
  @streamSamples_frame [.chan, .players] s (touch_of rfl) (touch_of rfl) s a adc (.refl _ s)

/-- The rows change no field of a player but its entries. -/
theorem streamSamples_field {α : Type} {π : Player → α} (hπ : ∀ x es, π { x with entries := es } = π x) (s : State) (a : Nat) (adc : List AdcRow) (q : Nat) :
    π ((streamSamples s a adc).playerOf q) = π (s.playerOf q) := by
  unfold streamSamples
  split
  · rfl
  · split
    · exact field_modPlayer _ _ q _ fun x => hπ x _
    · rfl

section
variable (s : State) (a : Fin 4) (adc : List AdcRow)

theorem streamSamples_objs : (streamSamples s a adc).objs = s.objs := within_iff.mp (streamSamples_parts s a adc) .objs (by decide)
theorem streamSamples_raised : (streamSamples s a adc).raised = s.raised := within_iff.mp (streamSamples_parts s a adc) .raised (by decide)
theorem streamSamples_acts : (streamSamples s a adc).acts = s.acts := within_iff.mp (streamSamples_parts s a adc) .acts (by decide)

theorem streamSamples_actOf : (streamSamples s a adc).actOf a = s.actOf a := actOf_congr (streamSamples_acts s a adc) a

end

/-- A count that is read in a state with the same objects. -/
theorem counted_bump_of_objs {s u : State} (k : Key) (hobjs : u.objs = s.objs) : Counted k s (u.bump k) := by
  have h := counted_bump k u
  unfold Counted at h
  rwa [State.num_congr hobjs] at h

/-! ### Report bits -/

theorem reports_noted (s : State) (p mask : Nat) (l : List Nat) : Noted s (s.each l fun s i => report s p i mask) :=
  State.each_inv (P := Noted s) (.of_players rfl) fun t i _ ht => ht.trans (report_noted t p i mask)

theorem reports_kept (s : State) (p mask : Nat) (l : List Nat) :
    (s.each l fun s i => report s p i mask).chan = s.chan ∧ (s.each l fun s i => report s p i mask).objs = s.objs ∧
    (s.each l fun s i => report s p i mask).raised = s.raised :=
  State.each_inv (P := fun t => t.chan = s.chan ∧ t.objs = s.objs ∧ t.raised = s.raised) ⟨rfl, rfl, rfl⟩ fun _ _ _ ht => ht

/-- A listed entry that is not final has the bits. -/
theorem reports_self {s : State} {p i : Nat} {l : List Nat} {e : Entry} (mask : Nat) (hp : p < 8) (hl : i ∈ l) (he : s.entryOf p i = some e)
    (hfinal : e.final = false) :
    ∃ r, (s.each l fun s i => report s p i mask).entryOf p i = some { e with report := r } ∧ HasBits mask r := by
  obtain ⟨before, after, rfl⟩ := List.append_of_mem hl
  rw [State.each_append]
  obtain ⟨r, hr⟩ := (reports_noted s p mask before).entry p i e he
  have hself := report_self (mask := mask) hp hr hfinal
  obtain ⟨r', hr'⟩ := (reports_noted (report (s.each before fun s i => report s p i mask) p i mask) p mask after).entry p i _ hself
  exact ⟨_, hr', ((HasBits.refl mask).or_right (e.report ||| r)).or_left r'⟩

theorem HasBits.testBit {i r : Nat} (h : HasBits (2 ^ i) r) : r.testBit i = true := by
  have hbit := congrArg (Nat.testBit · i) h
  simpa [Nat.testBit_and, Nat.testBit_two_pow_self] using hbit

/-! ### The detectors -/

theorem reportGated_set (s : State) (a mask q : Nat) : ((reportGated s a mask).playerOf q).set = (s.playerOf q).set :=
  State.each_inv (P := fun t => (t.playerOf q).set = (s.playerOf q).set) rfl fun t x _ ht =>
    (field_modPlayer (π := Player.set) t x.1 q (fun pl => { pl with entries := pl.entries.modify x.2 fun e =>
      if e.final then e else { e with report := e.report ||| mask } }) fun _ => rfl).trans ht

/-- A detector that fires: the freeze, its count, and the event of the one that reaches the limit. -/
theorem detectorFires_effect (s : State) {a p : Nat} (ha : a < 4) (hplay : (s.actOf a).playing = some p) (mask cause firings : Nat) (count : Key) :
    (detectorFires s a mask cause count firings).chanOf a = { s.chanOf a with freeze := setBit (s.chanOf a).freeze cause } ∧
    Counted count s (detectorFires s a mask cause count firings) ∧
    (detectorFires s a mask cause count firings).raised = if firings = (s.playerOf p).set.taLimit then
      s.raised ++ [{ source := 448 + 64 * a + (20 + (s.actOf a).lastSurface % 12), unit := (s.actOf a).lastSurface % 12, detail := cause }]
      else s.raised := by
  let v := s.modChan a fun c => { c with freeze := setBit c.freeze cause }
  let w := reportGated v a mask
  let x := w.bump count
  have hw := within_iff.mp (reportGated_parts v a mask)
  have hchan : x.chanOf a = { s.chanOf a with freeze := setBit (s.chanOf a).freeze cause } :=
    (chanOf_congr ((State.chan_bump w count).trans (hw .chan (by decide))) a).trans (chanOf_modChan s _ ha)
  have hcount : Counted count s x := counted_bump_of_objs count (hw .objs (by decide))
  have hraised : x.raised = s.raised := (State.raised_bump w count).trans (hw .raised (by decide))
  have hact : x.actOf a = s.actOf a := actOf_congr ((State.acts_bump w count).trans (hw .acts (by decide))) a
  have hlimit : firingLimit x a = (s.playerOf p).set.taLimit := by
    unfold firingLimit
    rw [hact, hplay]
    dsimp only
    rw [playerOf_congr (State.players_bump w count), reportGated_set]
    rfl
  have hhead : headNow x a = (s.actOf a).lastSurface % 12 := by rw [headNow, hact]
  have hfires : detectorFires s a mask cause count firings =
      if firings = firingLimit x a then x.raiseAct a (20 + headNow x a) (headNow x a) cause else x := rfl
  rw [hfires, hlimit, hhead]
  split
  · exact ⟨hchan, hcount, congrArg (· ++ [_]) hraised⟩
  · exact ⟨hchan, hcount, hraised⟩

theorem asperityMet_iff (x : SignalCtx) (c : Channel) : asperityMet x c = true ↔ ∃ k < 3, x.lanes.testBit k = true ∧
    x.set.taThresh * 2 ^ 30 < (((vget c.tails k ⟨[], [], 0, 0⟩).xs.take 8).sum).natAbs := by
  unfold asperityMet laneList asperityAt bit
  simp only [List.any_eq_true, List.mem_filter, List.mem_range, decide_eq_true_eq, and_assoc]

theorem dropMet_iff (x : SignalCtx) (c : Channel) (off : Option Nat) : dropMet x c off = true ↔
    x.set.dropThresh ≠ 0 ∧
    (match off with
      | some n => !c.acquiring || decide (x.set.acqT ≤ n)
      | none => false) = true ∧
    c.ys.length = 16 ∧ (c.ys.map Int.natAbs).sum < 16 * x.set.dropThresh := by
  unfold dropMet dropAt inAcquisition
  cases off with
  | none => simp
  | some n => cases c.acquiring <;> simp [and_assoc]

section
variable {s u : State} {a : Fin 4} {p : Fin 8} (hacts : u.actOf a = s.actOf a) (hplay : (s.actOf a).playing = some p.val)
include hacts hplay

theorem asperityNow_eq : asperityNow u a = asperityMet (signalCtx u a p) (u.chanOf a) := by
  unfold asperityNow ctxNow
  rw [hacts, hplay]
  rfl

theorem dropNow_eq : dropNow u a =
    dropMet (signalCtx u a p) (u.chanOf a) (captureOffset (signalCtx u a p) (u.playerOf p).entries (u.chanOf a).streamWedge (u.chanOf a).streamT) := by
  unfold dropNow ctxNow
  rw [hacts, hplay]
  rfl

theorem detectorsArmed_eq : detectorsArmed u a = (u.playerOf p).frontEnd.testBit 0 := by
  unfold detectorsArmed
  rw [hacts, hplay]
  rfl

end

/-- What a detector that fires shows, as its counter of firings reads it. -/
structure Fires (a p cause : Nat) (π : Channel → Nat) (count : Key) (s u t : State) : Prop where
  firings : π (t.chanOf a) = π (u.chanOf a) + 1
  freeze : (t.chanOf a).freeze.testBit cause = true
  counted : Counted count s t
  raised : t.raised = if π (u.chanOf a) + 1 = (s.playerOf p).set.taLimit then
    s.raised ++ [{ source := 448 + 64 * a + (20 + (s.actOf a).lastSurface % 12), unit := (s.actOf a).lastSurface % 12, detail := cause }] else s.raised

section
variable {s : State} {a : Fin 4} {p : Fin 8} (adc : List AdcRow) (hplay : (s.actOf a).playing = some p.val)
include hplay

/-- A detector fires after the rows of samples. -/
theorem fires_of_samples {π : Channel → Nat} {f : Channel → Channel} (hadds : ∀ c, π (f c) = π c + 1) (hfreeze : ∀ c x, π { c with freeze := x } = π c)
    (mask cause : Nat) (count : Key) :
    let u := streamSamples s a adc
    Fires a p cause π count s u (detectorFires (u.modChan a f) a mask cause count (π ((u.modChan a f).chanOf a))) := by
  intro u
  have hacts := streamSamples_actOf s a adc
  have hset : (u.playerOf p).set = (s.playerOf p).set := streamSamples_field (π := Player.set) (fun _ _ => rfl) s a adc p
  obtain ⟨hchan, hcount, hraised⟩ := detectorFires_effect (u.modChan a f) a.isLt (p := p) (hacts ▸ hplay) mask cause (π ((u.modChan a f).chanOf a)) count
  have hadded : π ((u.modChan a f).chanOf a) = π (u.chanOf a) + 1 := by rw [chanOf_modChan u f a.isLt, hadds]
  refine ⟨?_, ?_, fun hroom => ?_, ?_⟩
  · rw [hchan, hfreeze, hadded]
  · rw [hchan]
    exact testBit_setBit _ _
  · have hnum : (u.modChan a f).num count = s.num count := State.num_congr (streamSamples_objs s a adc) count
    unfold Counted at hcount
    rw [hnum] at hcount
    exact hcount hroom
  · rw [hraised, hadded, show (u.modChan a f).raised = s.raised from streamSamples_raised s a adc,
      show (u.modChan a f).actOf a = s.actOf a from hacts, show ((u.modChan a f).playerOf p).set = (s.playerOf p).set from hset]

variable (hfront : (s.playerOf p).frontEnd.testBit 0 = true)
include hfront

theorem thermalAsperity_effect :
    let u := streamSamples s a adc
    let loud (k : Nat) : Prop := (u.chanOf a).lanesInUse.testBit k = true ∧
      (s.playerOf p).set.taThresh * 2 ^ 30 < (((vget (u.chanOf a).tails k ⟨[], [], 0, 0⟩).xs.take 8).sum).natAbs
    ((∃ k < 3, loud k) → Completes (.thermalAsperity a adc) s (Fires a p 1 Channel.taFirings (Obj.taCount a) s u)) ∧
    ((¬∃ k < 3, loud k) → exec (.thermalAsperity a adc) s = .next u) := by
  intro u loud
  have hacts := streamSamples_actOf s a adc
  have hset : (signalCtx u a p).set = (s.playerOf p).set := streamSamples_field (π := Player.set) (fun _ _ => rfl) s a adc p
  have harmed : detectorsArmed u a = true := by
    rw [detectorsArmed_eq hacts hplay, streamSamples_field (π := Player.frontEnd) (fun _ _ => rfl) s a adc p]
    exact hfront
  have hnow : asperityNow u a = true ↔ ∃ k < 3, loud k := by
    rw [asperityNow_eq hacts hplay, asperityMet_iff, hset]
    exact Iff.rfl
  have hexec : exec (.thermalAsperity a adc) s = if detectorsArmed u a && asperityNow u a then
      .next (detectorFires (u.modChan a fun c => { c with taFirings := c.taFirings + 1 }) a rTA 1 (Obj.taCount a)
        ((u.modChan a fun c => { c with taFirings := c.taFirings + 1 }).chanOf a).taFirings) else .next u := rfl
  rw [harmed, Bool.true_and] at hexec
  refine ⟨fun h => ⟨_, hexec.trans (if_pos (hnow.mpr h)), ?_⟩, fun h => hexec.trans (if_neg (mt hnow.mp h))⟩
  exact fires_of_samples adc hplay (π := Channel.taFirings) (f := fun c => { c with taFirings := c.taFirings + 1 }) (fun _ => rfl) (fun _ _ => rfl) _ _ _

theorem dropDetect_effect :
    let u := streamSamples s a adc
    let c := u.chanOf a
    let set := (s.playerOf p).set
    let tracked : Bool := match captureOffset (signalCtx u a p) (u.playerOf p).entries c.streamWedge c.streamT with
      | some n => !c.acquiring || decide (set.acqT ≤ n)
      | none => false
    let met : Prop := set.dropThresh ≠ 0 ∧ tracked = true ∧ c.ys.length = 16 ∧ (c.ys.map Int.natAbs).sum < 16 * set.dropThresh
    (met → Completes (.dropDetect a adc) s (Fires a p 2 Channel.dropFirings (Obj.dropCount a) s u)) ∧ (¬met → exec (.dropDetect a adc) s = .next u) := by
  intro u c set tracked met
  have hacts := streamSamples_actOf s a adc
  have hset : (signalCtx u a p).set = set := streamSamples_field (π := Player.set) (fun _ _ => rfl) s a adc p
  have harmed : detectorsArmed u a = true := by
    rw [detectorsArmed_eq hacts hplay, streamSamples_field (π := Player.frontEnd) (fun _ _ => rfl) s a adc p]
    exact hfront
  have hnow : dropNow u a = true ↔ met := by
    rw [dropNow_eq hacts hplay, dropMet_iff, hset]
  have hexec : exec (.dropDetect a adc) s = if detectorsArmed u a && dropNow u a then
      .next (detectorFires (u.modChan a fun c => { c with dropFirings := c.dropFirings + 1 }) a rDrop 2 (Obj.dropCount a)
        ((u.modChan a fun c => { c with dropFirings := c.dropFirings + 1 }).chanOf a).dropFirings) else .next u := rfl
  rw [harmed, Bool.true_and] at hexec
  refine ⟨fun h => ⟨_, hexec.trans (if_pos (hnow.mpr h)), ?_⟩, fun h => hexec.trans (if_neg (mt hnow.mp h))⟩
  exact fires_of_samples adc hplay (π := Channel.dropFirings) (f := fun c => { c with dropFirings := c.dropFirings + 1 }) (fun _ => rfl) (fun _ _ => rfl)
    _ _ _

omit hfront in
/-- A capture whose freeze run has become long is marked and counted. -/
theorem longFreeze_effect {i : Nat} {e : Entry} (he : (streamSamples s a adc).entryOf p i = some e) (hcapture : e.capturing = true) (hrun : 8192 ≤ e.run)
    (hmark : e.report.testBit 15 = false) (hfinal : e.final = false) :
    Completes (.longFreeze a adc) s fun t =>
      (t.chanOf a).longFreeze = true ∧ Counted (Obj.longFreezeCount a) s t ∧ ∃ e', t.entryOf p i = some e' ∧ e'.report.testBit 15 = true := by
  let u := streamSamples s a adc
  let l := entriesWhere u p longRun
  have hlong : longRun e = true := by
    unfold longRun bit maxFreeze
    simp [hcapture, hmark, hrun]
  have hl : i ∈ l := mem_entriesWhere he hlong
  have hne : l.isEmpty = false := by
    rw [List.isEmpty_eq_false_iff]
    exact List.ne_nil_of_mem hl
  let v := u.modChan a fun c => { c with longFreeze := true }
  let w := v.each l fun s i => report s p i rLongFreeze
  obtain ⟨hchan, hobjs, -⟩ := reports_kept v p rLongFreeze l
  obtain ⟨r, hr, hbits⟩ := reports_self (s := v) rLongFreeze p.isLt hl he hfinal
  have hexec : exec (.longFreeze a adc) s = .next (w.bump (Obj.longFreezeCount a)) := by
    have hexec : exec (.longFreeze a adc) s = execLongFreeze a adc s := rfl
    unfold execLongFreeze at hexec
    dsimp only at hexec
    rw [streamSamples_actOf, hplay] at hexec
    dsimp only at hexec
    rw [hne] at hexec
    exact hexec
  refine ⟨_, hexec, ?_, counted_bump_of_objs _ (hobjs.trans (streamSamples_objs s a adc)), ?_⟩
  · rw [chanOf_congr (State.chan_bump w _), chanOf_congr hchan, chanOf_modChan u _ a.isLt]
  · exact ⟨_, (entryOf_congr (State.players_bump w _) p i).trans hr, hbits.testBit⟩

end

theorem freezeHangoverEnd_effect (s : State) (a : Fin 4) (adc : List AdcRow) :
    let u := streamSamples s a adc
    ((u.chanOf a).readGate = true → exec (.freezeHangoverEnd a adc) s = .next u) ∧
    ((u.chanOf a).readGate = false → exec (.freezeHangoverEnd a adc) s =
      .next (withChan u a { u.chan[a] with freeze := clrBit (clrBit u.chan[a].freeze 1) 2 })) := by
  intro u
  have hexec : exec (.freezeHangoverEnd a adc) s = if (u.chanOf a).readGate then .next u
      else .next (u.modChan a fun c => { c with freeze := clrBit (clrBit c.freeze 1) 2 }) := rfl
  refine ⟨fun h => hexec.trans (if_pos h), fun h => hexec.trans ((if_neg (by rw [h]; exact Bool.false_ne_true)).trans ?_)⟩
  unfold State.modChan withChan vmod
  rw [dif_pos a.isLt]
  rfl

/-! ### A lane's overrun -/

theorem reportCaptures_noted (s : State) (a mask : Nat) : Noted s (reportCaptures s a mask) :=
  State.each_inv (P := Noted s) (.of_players rfl) fun t p _ ht => ht.trans (reports_noted t p mask _)

theorem reportCaptures_self {s : State} {a p i : Nat} {e : Entry} (mask : Nat) (hp : p < 8) (hown : p / 2 = a) (he : s.entryOf p i = some e)
    (hcapture : e.capturing = true) (hfinal : e.final = false) :
    ∃ e', (reportCaptures s a mask).entryOf p i = some e' ∧ HasBits mask e'.report := by
  have hmark {t : State} (ht : Noted s t) : ∃ e', (t.each (entriesWhere t p (·.capturing)) fun s i => report s p i mask).entryOf p i = some e' ∧
      HasBits mask e'.report := by
    obtain ⟨r, hr⟩ := ht.entry p i e he
    obtain ⟨r', hr', hbits⟩ := reports_self mask hp (mem_entriesWhere (f := (·.capturing)) hr hcapture) hr hfinal
    exact ⟨_, hr', hbits⟩
  have htwo : p = 2 * a ∨ p = 2 * a + 1 := by omega
  unfold reportCaptures
  rcases htwo with rfl | rfl
  · obtain ⟨e', he', hbits⟩ := hmark (t := s) (.of_players rfl)
    obtain ⟨r, hr⟩ := (reports_noted _ (2 * a + 1) mask (entriesWhere _ (2 * a + 1) (·.capturing))).entry _ i _ he'
    exact ⟨_, hr, hbits.or_left r⟩
  · exact hmark (reports_noted s (2 * a) mask (entriesWhere s (2 * a) (·.capturing)))

theorem sampleOverrun_effect (s : State) (a : Fin 4) (lane : Fin 3) :
    Completes (.sampleOverrun a lane) s fun t =>
      RaisedSince s t (448 + 64 * a.val + 18) a lane ∧
      ∀ (p : Fin 8) i e, p.val / 2 = a → s.entryOf p i = some e → e.capturing = true → e.final = false →
        ∃ e', t.entryOf p i = some e' ∧ e'.report.testBit 12 = true := by
  have hparts : (reportCaptures s a rOverrun).raised = s.raised := State.each_inv (P := fun t => t.raised = s.raised) rfl fun t p _ ht =>
    (reports_kept t p rOverrun _).2.2.trans ht
  refine ⟨_, rfl, raisedSince_raiseAct (.of_eq hparts) a 18 lane, fun p i e hown he hcapture hfinal => ?_⟩
  obtain ⟨e', he', hbits⟩ := reportCaptures_self rOverrun p.isLt hown he hcapture hfinal
  exact ⟨e', he', hbits.testBit⟩

end Sys2Proof.Machine
end

section
/-!
PROOFS. The sync windows: the earliest match within the bounds and the tolerance, and the event with the stream's place.
-/

namespace Sys2Proof.Machine

/-! ### The earliest match -/

/-- The earlier of the best match so far and the next. -/
def earlierMatch (best : Option (Nat × Nat)) (c : Nat × Nat) : Option (Nat × Nat) :=
  match best with
  | some b => if c.1 < b.1 then some c else some b
  | none => some c

theorem foldl_earlierMatch_some (b : Nat × Nat) (l : List (Nat × Nat)) : ∃ x, l.foldl earlierMatch (some b) = some x ∧ x ∈ b :: l ∧ ∀ y ∈ b :: l, x.1 ≤ y.1 := by
  induction l generalizing b with
  | nil => exact ⟨b, rfl, List.mem_cons_self, fun y hy => by rw [List.mem_singleton.mp hy]⟩
  | cons c l ih =>
    rw [List.foldl_cons]
    by_cases hlt : c.1 < b.1
    · obtain ⟨x, hx, hmem, hmin⟩ := ih c
      rw [earlierMatch, if_pos hlt]
      refine ⟨x, hx, List.mem_cons_of_mem b hmem, fun y hy => ?_⟩
      rcases List.mem_cons.mp hy with rfl | hy
      · exact Nat.le_of_lt (Nat.lt_of_le_of_lt (hmin c List.mem_cons_self) hlt)
      · exact hmin y hy
    · obtain ⟨x, hx, hmem, hmin⟩ := ih b
      rw [earlierMatch, if_neg hlt]
      refine ⟨x, hx, List.mem_cons.mpr ((List.mem_cons.mp hmem).imp_right (List.mem_cons_of_mem c)), fun y hy => ?_⟩
      rcases List.mem_cons.mp hy with rfl | hy
      · exact hmin y List.mem_cons_self
      · rcases List.mem_cons.mp hy with rfl | hy
        · exact Nat.le_trans (hmin b List.mem_cons_self) (Nat.le_of_not_lt hlt)
        · exact hmin y (List.mem_cons_of_mem b hy)

theorem foldl_earlierMatch_none (l : List (Nat × Nat)) : l.foldl earlierMatch none = none ↔ l = [] := by
  cases l with
  | nil => exact ⟨fun _ => rfl, fun _ => rfl⟩
  | cons c l =>
    obtain ⟨x, hx, -⟩ := foldl_earlierMatch_some c l
    refine ⟨fun h => ?_, fun h => absurd h (by simp)⟩
    exact absurd (hx.symm.trans h) (by simp)

theorem foldl_earlierMatch_min {l : List (Nat × Nat)} {x : Nat × Nat} (h : l.foldl earlierMatch none = some x) : x ∈ l ∧ ∀ y ∈ l, x.1 ≤ y.1 := by
  cases l with
  | nil => exact absurd h (by simp)
  | cons c l =>
    obtain ⟨z, hz, hmem, hmin⟩ := foldl_earlierMatch_some c l
    obtain rfl := Option.some.inj (hz.symm.trans h)
    exact ⟨hmem, hmin⟩

/-- A position within the window's bounds whose distance is within the tolerance. -/
def FitsWindow (h : Header) (centre : Nat) (x : Nat × Nat) : Prop := centre ≤ x.1 + h.syncWin ∧ x.1 ≤ centre + h.syncWin ∧ x.2 ≤ h.syncTol

section
variable (h : Header) (centre : Nat) (cands : List (Nat × Nat))

def fitting : List (Nat × Nat) :=
  cands.filter fun c => decide (centre ≤ c.1 + h.syncWin) && decide (c.1 ≤ centre + h.syncWin) && decide (c.2 ≤ h.syncTol)

theorem mem_fitting (x : Nat × Nat) : x ∈ fitting h centre cands ↔ x ∈ cands ∧ FitsWindow h centre x := by
  unfold fitting FitsWindow
  rw [List.mem_filter]
  simp only [Bool.and_eq_true, decide_eq_true_eq, and_assoc]

theorem windowMatch_eq : windowMatch h centre cands = (fitting h centre cands).foldl earlierMatch none := rfl

theorem windowMatch_none : windowMatch h centre cands = none ↔ ∀ x ∈ cands, ¬FitsWindow h centre x := by
  rw [windowMatch_eq, foldl_earlierMatch_none, List.eq_nil_iff_forall_not_mem]
  refine forall_congr' fun x => ?_
  rw [mem_fitting, not_and]

theorem windowMatch_some {x : Nat × Nat} (hx : windowMatch h centre cands = some x) :
    x ∈ cands ∧ FitsWindow h centre x ∧ ∀ y ∈ cands, FitsWindow h centre y → x.1 ≤ y.1 := by
  obtain ⟨hmem, hmin⟩ := foldl_earlierMatch_min (windowMatch_eq h centre cands ▸ hx)
  obtain ⟨hin, hfits⟩ := (mem_fitting h centre cands x).mp hmem
  exact ⟨hin, hfits, fun y hy hfit => hmin y ((mem_fitting h centre cands y).mpr ⟨hy, hfit⟩)⟩

end

/-! ### The end of a window -/

/-- What a closed window holds. -/
def windowFound (s : State) (a : Nat) (h : Header) (first : Bool) (e : Entry) : Option (Nat × Nat) :=
  if bit e.arm (if first then 1 else 0) then
    windowMatch h (if first then 96 else h.sm2At) (windowCandidates (presetTarget (presetOf s a h.eqPreset)) (if first then syncMark1 else syncMark2)
      (if first then 96 else h.sm2At) h.syncWin e.samples)
  else none

section
variable {s : State} {a : Nat} {h : Header} {first : Bool} {e : Entry}

/-- The candidates that the window's end looks at. -/
def windowCands (s : State) (a : Nat) (h : Header) (first : Bool) (e : Entry) : List (Nat × Nat) :=
  windowCandidates (presetTarget (presetOf s a h.eqPreset)) (if first then syncMark1 else syncMark2) (if first then 96 else h.sm2At) h.syncWin e.samples

theorem windowFound_none : windowFound s a h first e = none ↔
    e.arm.testBit (if first then 1 else 0) = false ∨ ∀ x ∈ windowCands s a h first e, ¬FitsWindow h (if first then 96 else h.sm2At) x := by
  unfold windowFound bit
  cases harmed : e.arm.testBit (if first then 1 else 0) with
  | false => exact ⟨fun _ => .inl rfl, fun _ => if_neg Bool.false_ne_true⟩
  | true =>
    rw [if_pos rfl, windowMatch_none]
    exact ⟨.inr, fun hor => hor.resolve_left (by decide)⟩

theorem windowFound_some {x : Nat × Nat} (hx : windowFound s a h first e = some x) :
    x ∈ windowCands s a h first e ∧ FitsWindow h (if first then 96 else h.sm2At) x ∧
    ∀ y ∈ windowCands s a h first e, FitsWindow h (if first then 96 else h.sm2At) y → x.1 ≤ y.1 := by
  by_cases harmed : bit e.arm (if first then 1 else 0) = true
  · exact windowMatch_some _ _ _ ((if_pos harmed).symm.trans hx)
  · exact absurd ((if_neg harmed).symm.trans hx) (by simp)

end

/-- The entry with what its window holds. -/
def windowClosed (first : Bool) (found : Option (Nat × Nat)) (e : Entry) : Entry :=
  if first then { e with sm1 := found, sm1Done := true } else { e with sm2 := found, sm2Done := true }

/-- The state in which a missed window has been counted. -/
def windowCounted (s : State) (p i : Nat) (first armed : Bool) (found : Option (Nat × Nat)) : State :=
  let t := modEntry s p i (windowClosed first found)
  if armed && found.isNone then t.bump (if first then Obj.sm1MissCount (p / 2) else Obj.sm2MissCount (p / 2)) else t

theorem exec_syncWindowEnd {s u : State} {p : Fin 8} {i : Nat} {e : Entry} (first : Bool) (adc : List AdcRow) (hu : rowsTaken s p adc = u)
    (hfirst : FirstEntry u p i (fun e => e.capturing && !(if first then e.sm1Done else e.sm2Done))) (he : u.entryOf p i = some e) :
    exec (.syncWindowEnd p first adc) s = .next (postSector
      (windowCounted u p i first (bit e.arm (if first then 1 else 0)) (windowFound u (p / 2) (u.playerOf p).header first e)) (p / 2)
      (if first then evSm1 else evSm2) i) := by
  have hexec : exec (.syncWindowEnd p first adc) s = execSyncWindowEnd p first adc s := rfl
  unfold execSyncWindowEnd at hexec
  dsimp only at hexec
  rw [show (if (s.actOf (playerAct p)).playing = some p.val then streamSamples s (playerAct p) adc else s) = u from hu] at hexec
  obtain ⟨rest, hrest⟩ : ∃ rest, entriesWhere u p (fun e => e.capturing && !(if first then e.sm1Done else e.sm2Done)) = i :: rest := by
    unfold FirstEntry at hfirst
    cases hl : entriesWhere u p (fun e => e.capturing && !(if first then e.sm1Done else e.sm2Done)) with
    | nil => rw [hl] at hfirst; exact absurd hfirst (by simp)
    | cons j rest => rw [hl] at hfirst; obtain rfl := Option.some.inj hfirst; exact ⟨rest, rfl⟩
  rw [hrest] at hexec
  dsimp only at hexec
  rw [he] at hexec
  exact hexec

theorem presetOf_congr {s t : State} (hobjs : t.objs = s.objs) (a n : Nat) : presetOf t a n = presetOf s a n := by
  unfold presetOf State.str State.obj
  rw [hobjs]

theorem windowFound_congr {s t : State} (hobjs : t.objs = s.objs) (a : Nat) (h : Header) (first : Bool) (e : Entry) :
    windowFound t a h first e = windowFound s a h first e := by
  unfold windowFound
  rw [presetOf_congr hobjs]

theorem windowCounted_kept (s : State) (p i : Nat) (first armed : Bool) (found : Option (Nat × Nat)) :
    (windowCounted s p i first armed found).chan = s.chan ∧ (windowCounted s p i first armed found).acts = s.acts ∧
    (windowCounted s p i first armed found).players = (modEntry s p i (windowClosed first found)).players := by
  unfold windowCounted
  dsimp only
  split
  · exact ⟨State.chan_bump .., State.acts_bump .., State.players_bump ..⟩
  · exact ⟨rfl, rfl, rfl⟩

/-- The window's event, with the entry and the stream's place. -/
theorem postSector_events {s : State} {a : Nat} (ha : a < 4) (hdrains : drains s a = false) (hroom : (s.chanOf a).events.length < 32) (code i : Nat) :
    ((postSector s a code i).chanOf a).events = (s.chanOf a).events ++ [⟨code, (s.chanOf a).streamWedge, (s.chanOf a).streamT, some i⟩] := by
  unfold postSector postFront
  rw [hdrains, if_neg Bool.false_ne_true, if_pos hroom, chanOf_modChan _ _ ha]

theorem drains_modEntry {s t : State} {p i : Nat} {f : Entry → Entry} (hacts : t.acts = s.acts) (hplayers : t.players = (modEntry s p i f).players) (a : Nat) :
    drains t a = drains s a := by
  unfold drains
  rw [actOf_congr hacts]
  split
  · next q _ =>
    rw [playerOf_congr hplayers]
    exact congrArg (fun c => decide (c = .stalled)) (field_modPlayer (π := Player.clause) s p q (fun pl => { pl with entries := pl.entries.modify i f }) fun _ => rfl)
  · rfl

theorem syncWindowEnd_effect {s u : State} {p : Fin 8} {i : Nat} {e : Entry} (first : Bool) (adc : List AdcRow) (hu : rowsTaken s p adc = u)
    (hfirst : FirstEntry u p i (fun e => e.capturing && !(if first then e.sm1Done else e.sm2Done))) (he : u.entryOf p i = some e) :
    Completes (.syncWindowEnd p first adc) s fun t =>
      (drains u (p / 2) = false → (u.chanOf (p / 2)).events.length < 32 → (t.chanOf (p / 2)).events =
        (u.chanOf (p / 2)).events ++ [⟨if first then evSm1 else evSm2, (u.chanOf (p / 2)).streamWedge, (u.chanOf (p / 2)).streamT, some i⟩]) ∧
      (∃ e', t.entryOf p i = some e' ∧ (if first then e'.sm1Done else e'.sm2Done) = true ∧
        (if first then e'.sm1 else e'.sm2) = windowFound s (p / 2) (s.playerOf p).header first e) ∧
      (bit e.arm (if first then 1 else 0) = true → windowFound s (p / 2) (s.playerOf p).header first e = none →
        Counted (if first then Obj.sm1MissCount (p / 2) else Obj.sm2MissCount (p / 2)) s t) := by
  have ha : p.val / 2 < 4 := by omega
  obtain ⟨hparts, hheader, -⟩ := hu ▸ rowsTaken_effect s p.isLt adc
  have hobjs : u.objs = s.objs := within_iff.mp hparts .objs (by decide)
  let found := windowFound s (p / 2) (s.playerOf p).header first e
  let w := windowCounted u p i first (bit e.arm (if first then 1 else 0)) found
  obtain ⟨hchan, hacts, hplayers⟩ := windowCounted_kept u p i first (bit e.arm (if first then 1 else 0)) found
  have hexec := exec_syncWindowEnd first adc hu hfirst he
  rw [hheader, windowFound_congr hobjs] at hexec
  have hposted := postFront_posted w ha ⟨if first then evSm1 else evSm2, (w.chanOf (p / 2)).streamWedge, (w.chanOf (p / 2)).streamT, some i⟩
  refine ⟨_, hexec, fun hdrains hroom => ?_, ?_, fun harmed hnone => ?_⟩
  · have hwchan : w.chanOf (p / 2) = u.chanOf (p / 2) := chanOf_congr hchan _
    have hevents := postSector_events (s := w) ha ((drains_modEntry hacts hplayers _).trans hdrains) (hwchan ▸ hroom) (if first then evSm1 else evSm2) i
    rw [hwchan] at hevents
    exact hevents
  · have hentry : w.entryOf p i = some (windowClosed first found e) := by
      rw [entryOf_congr hplayers, entryOf_modEntry, if_pos ⟨rfl, p.isLt, rfl⟩, he]
      rfl
    obtain ⟨r, hr⟩ := hposted.noted.entry p i _ hentry
    refine ⟨_, hr, ?_, ?_⟩
    · cases first <;> rfl
    · cases first <;> rfl
  · have hw : w = (modEntry u p i (windowClosed first found)).bump (if first then Obj.sm1MissCount (p / 2) else Obj.sm2MissCount (p / 2)) := by
      have hmissed : (bit e.arm (if first then 1 else 0) && found.isNone) = true := by
        rw [harmed, show found = none from hnone]
        rfl
      exact if_pos hmissed
    have hcount : Counted (if first then Obj.sm1MissCount (p / 2) else Obj.sm2MissCount (p / 2)) s w := by
      rw [hw]
      exact counted_bump_of_objs _ hobjs
    exact fun hroom => (State.num_congr hposted.objs _).trans (hcount hroom)

end Sys2Proof.Machine
end

section
/-! PROOFS. Wedges and detectors: the statement as a whole. -/

namespace Sys2Proof.Machine

theorem exists_lt_three {P : Nat → Prop} : (∃ k < 3, P k) ↔ P 0 ∨ P 1 ∨ P 2 := by
  refine ⟨fun ⟨k, hk, h⟩ => ?_, ?_⟩
  · obtain rfl | rfl | rfl : k = 0 ∨ k = 1 ∨ k = 2 := by omega
    · exact .inl h
    · exact .inr (.inl h)
    · exact .inr (.inr h)
  · rintro (h | h | h)
    · exact ⟨0, by decide, h⟩
    · exact ⟨1, by decide, h⟩
    · exact ⟨2, by decide, h⟩

/-- Settles O28: what a servo sync and its timeout write of the channel stands through the rest of the command, and each detector, freeze and window
reads the samples that the lanes have delivered. -/
theorem wedgesAreReadAndDetectorsRun : Obligations.WedgesAreReadAndDetectorsRun := by
  unfold Obligations.WedgesAreReadAndDetectorsRun
  refine ⟨fun s a wedge track pes => ⟨fun hnone => ?_, ?_⟩, fun s a p i lane first adc => ⟨fun hplay hfront => ⟨?_, ?_, ?_, ?_, ?_⟩, ?_, ?_, ?_, ?_⟩⟩
  · obtain ⟨t, ht, hservo, hload, hrev⟩ := servoSync_effect s a wedge track pes hnone
    unfold Channel.servo at hservo
    simp only [Prod.mk.injEq] at hservo
    obtain ⟨hwedge, htrack, hpes, hhead, hmissed, htick⟩ := hservo
    exact ⟨t, ht, hwedge, htrack, hpes, hhead, hmissed, htick, hload, hrev⟩
  · obtain ⟨t, ht, ⟨hwedge, htick, hhead, hmissed⟩, ⟨hwu, hgate, hlaser⟩, hseek⟩ := servoSyncTimeout_effect s a
    refine ⟨t, ht, hwedge, htick, hhead, hmissed, hwu, hgate, hlaser, fun r hr => ?_⟩
    have hstate := hseek r hr
    unfold Actuator.seekState at hstate
    exact Prod.mk.inj hstate
  · intro hloud
    obtain ⟨t, ht, hfires⟩ := (thermalAsperity_effect adc hplay hfront).1 (exists_lt_three.mpr hloud)
    exact ⟨t, ht, hfires.firings, hfires.freeze, hfires.counted, hfires.raised⟩
  · intro hquiet
    exact (thermalAsperity_effect adc hplay hfront).2 (mt exists_lt_three.mp hquiet)
  · intro hthresh htracked hlength hsum
    obtain ⟨t, ht, hfires⟩ := (dropDetect_effect adc hplay hfront).1 ⟨hthresh, htracked, hlength, hsum⟩
    exact ⟨t, ht, hfires.firings, hfires.freeze, hfires.counted, hfires.raised⟩
  · intro hquiet
    refine (dropDetect_effect adc hplay hfront).2 fun ⟨hthresh, htracked, _, hsum⟩ => ?_
    rcases hquiet with h | h | h
    · exact hthresh h
    · exact absurd (h.symm.trans htracked) (by decide)
    · exact Nat.not_lt.mpr h hsum
  · exact fun e he hcapture hrun hmark hfinal => longFreeze_effect adc hplay he hcapture hrun hmark hfinal
  · exact (freezeHangoverEnd_effect s a adc).1
  · exact (freezeHangoverEnd_effect s a adc).2
  · obtain ⟨t, ht, hraised, hmarks⟩ := sampleOverrun_effect s a lane
    exact ⟨t, ht, hraised, fun hown e => hmarks p i e hown⟩
  · intro hown hplay e he hfirst
    have hrows : rowsTaken s p adc = streamSamples s a adc := by
      unfold rowsTaken
      rw [hown, if_pos hplay]
    obtain ⟨t, ht, hevents, ⟨e', he', hdone, hfound⟩, hmiss⟩ := syncWindowEnd_effect first adc hrows hfirst he
    rw [hown] at hevents hfound hmiss
    refine ⟨t, ht, hevents, e', he', hdone, ?_, fun x hx => ?_, fun harmed hnone => ?_⟩
    · rw [hfound]
      exact windowFound_none
    · exact windowFound_some (hfound.symm.trans hx)
    · have hcount := hmiss harmed (hfound.symm.trans hnone)
      rwa [← hown] at hcount

end Sys2Proof.Machine
end

end
